-- ==== Sys2Proof/Word.lean ====
section
/-! DEFINITION. The words of the LZ7200: a register word, a byte, and byte strings. -/

namespace Sys2Proof

/-- A BAR0 register word (R98). -/
abbrev Word := BitVec 32

/-- A byte of a ring entry, a cell, a surface or the flash. -/
abbrev Byte := BitVec 8

/-- A string of bytes, lowest address or first sent first. -/
abbrev Bytes := List Byte

end Sys2Proof
end

