-- ==== Sys2Proof/Machine/Status.lean ====
section
/-! DEFINITION. The status codes of R7 and R603, and the order in which several broken rules of one register write
are reported (R607). -/

namespace Sys2Proof.Machine

/-- Status codes (R7). No code above 0x0F exists (R603). -/
inductive Status where
  | ok | illegalValue | align | busError | timeout | loop | notPermitted | wrongState
  | late | range | noResource | integrity | version | aborted | linkAbsent | staleState
  deriving DecidableEq, Repr

/-- The value of a status code (R7). -/
def Status.code : Status → Nat
  | .ok => 0x00
  | .illegalValue => 0x01
  | .align => 0x02
  | .busError => 0x03
  | .timeout => 0x04
  | .loop => 0x05
  | .notPermitted => 0x06
  | .wrongState => 0x07
  | .late => 0x08
  | .range => 0x09
  | .noResource => 0x0A
  | .integrity => 0x0B
  | .version => 0x0C
  | .aborted => 0x0D
  | .linkAbsent => 0x0E
  | .staleState => 0x0F

/-- The order of R607 for the codes a refused register write reports. A code that R607 does not list
comes after those it lists. -/
def writeCodeOrder : List Status :=
  [.notPermitted, .wrongState, .illegalValue, .align, .range, .noResource, .staleState, .linkAbsent]

/-- The code reported for a write that breaks the rules whose codes are `cs` (R607): the first of the
order that occurs; `ok` where no rule is broken. -/
def firstCode (cs : List Status) : Status :=
  match writeCodeOrder.find? (fun c => cs.contains c) with
  | some c => c
  | none => .ok

end Sys2Proof.Machine
end

