-- ==== Sys2Proof/Machine/RegTable.lean ====
section
/-! DEFINITION. The register map of BAR0 (R599, R600) and the field maps of the chapters (R3, R4): offset, access type,
reset value and the field values a map refuses outright. Refusals that depend on the state are in RegChecks.lean. -/

namespace Sys2Proof.Machine

/-- Access types of register fields (R3); `rsv` is a reserved field (R4). -/
inductive Acc where
  | rw | ro | w1c | w1s | wo | rws | rsv
  deriving DecidableEq, Repr

/-- One row of a field map: bits [lo + width - 1 : lo], access type, reset value, and the values the
map refuses whatever the state, as (low, high, status code). -/
structure FieldRow where
  name : String
  lo : Nat
  width : Nat
  acc : Acc
  rst : Nat
  bad : List (Nat × Nat × Status)
  deriving DecidableEq, Repr

/-- One register or indexed group of registers: BAR0 offset of the first, count and stride of the outer
and of the inner index, whether any nonzero written word is refused (clear-by-zero counters), fields. -/
structure RegRow where
  name : String
  base : Nat
  n1 : Nat
  s1 : Nat
  n2 : Nat
  s2 : Nat
  zeroOnly : Bool
  fields : List FieldRow
  deriving DecidableEq, Repr

/-- Registers of GLB, part 1 (R18, R29, R31, R32, R47, R79, R80, R83, R88, R101, R102, R606). -/
def regsGlb1 : List RegRow := [
  ⟨"GLB_ROLE", 0x10, 1, 4, 1, 4, false,
    [⟨"STRAP", 0, 2, .ro, 0, []⟩,
     ⟨"HOSTLESS", 2, 1, .ro, 0, []⟩,
     ⟨"HOLD", 3, 1, .ro, 0, []⟩,
     ⟨"Reserved", 4, 4, .rsv, 0, []⟩,
     ⟨"UCIRETRY", 8, 8, .ro, 0, []⟩,
     ⟨"Reserved", 16, 16, .rsv, 0, []⟩]⟩,
  ⟨"GLB_RSTCAUSE", 0x18, 1, 4, 1, 4, false,
    [⟨"PWRON", 0, 1, .w1c, 0, []⟩,
     ⟨"RAIL", 1, 1, .w1c, 0, []⟩,
     ⟨"RAILNUM", 2, 4, .ro, 0, []⟩,
     ⟨"TRIP", 6, 1, .w1c, 0, []⟩,
     ⟨"WARMPIN", 7, 1, .w1c, 0, []⟩,
     ⟨"WARMSW", 8, 1, .w1c, 0, []⟩,
     ⟨"WDOG", 9, 1, .w1c, 0, []⟩,
     ⟨"AONNEW", 10, 1, .w1c, 1, []⟩,
     ⟨"Reserved", 11, 21, .rsv, 0, []⟩]⟩,
  ⟨"GLB_BOOTSTAT", 0x1c, 1, 4, 1, 4, false,
    [⟨"STAGE", 0, 4, .ro, 1, []⟩,
     ⟨"SLOT", 4, 1, .ro, 0, []⟩,
     ⟨"WARMBOOT", 5, 1, .ro, 0, []⟩,
     ⟨"Reserved", 6, 2, .rsv, 0, []⟩,
     ⟨"FAILCODE", 8, 8, .ro, 0, []⟩,
     ⟨"BOOTMS", 16, 16, .ro, 0, []⟩]⟩,
  ⟨"GLB_ERRLOG", 0x20, 1, 4, 1, 4, false,
    [⟨"OFFSET", 0, 24, .ro, 0, []⟩,
     ⟨"CODE", 24, 8, .ro, 0, []⟩]⟩,
  ⟨"GLB_ERRINFO", 0x24, 1, 4, 1, 4, false,
    [⟨"VALID", 0, 1, .w1c, 0, []⟩,
     ⟨"OVER", 1, 1, .ro, 0, []⟩,
     ⟨"SRC", 2, 2, .ro, 0, []⟩,
     ⟨"Reserved", 4, 4, .rsv, 0, []⟩,
     ⟨"COUNT", 8, 8, .ro, 0, []⟩,
     ⟨"Reserved", 16, 16, .rsv, 0, []⟩]⟩,
  ⟨"GLB_BLKRST", 0x30, 1, 4, 1, 4, false,
    [⟨"BLK", 0, 32, .w1s, 0, []⟩]⟩,
  ⟨"GLB_WARMRST", 0x34, 1, 4, 1, 4, false,
    [⟨"KEY", 0, 8, .wo, 0, [(0, 0xa4, .illegalValue), (0xa6, 0xff, .illegalValue)]⟩,
     ⟨"Reserved", 8, 24, .rsv, 0, []⟩]⟩,
  ⟨"GLB_YIELDCNT", 0x40, 1, 4, 1, 4, false,
    [⟨"CNT2", 0, 8, .rw, 0, [(1, 0xff, .illegalValue)]⟩,
     ⟨"CNT3", 8, 8, .rw, 0, [(1, 0xff, .illegalValue)]⟩,
     ⟨"CNT4", 16, 8, .rw, 0, [(1, 0xff, .illegalValue)]⟩,
     ⟨"CNT5", 24, 8, .rw, 0, [(1, 0xff, .illegalValue)]⟩]⟩]

/-- Registers of GLB, part 2 (R18, R29, R31, R32, R47, R79, R80, R83, R88, R101, R102, R606). -/
def regsGlb2 : List RegRow := [
  ⟨"GLB_YIELDLAST", 0x44, 1, 4, 1, 4, false,
    [⟨"WINNER", 0, 3, .ro, 0, []⟩,
     ⟨"Reserved", 3, 1, .rsv, 0, []⟩,
     ⟨"LOSER", 4, 3, .ro, 0, []⟩,
     ⟨"Reserved", 7, 1, .rsv, 0, []⟩,
     ⟨"BLOCK", 8, 8, .ro, 0, []⟩,
     ⟨"CODE", 16, 8, .ro, 0, []⟩,
     ⟨"Reserved", 24, 8, .rsv, 0, []⟩]⟩,
  ⟨"GLB_YIELDFRM", 0x48, 1, 4, 1, 4, false,
    [⟨"FRM", 0, 32, .ro, 0, []⟩]⟩,
  ⟨"GLB_RAILSTAT", 0x50, 1, 4, 1, 4, false,
    [⟨"NOW", 0, 10, .ro, 0x3ff, []⟩,
     ⟨"Reserved", 10, 6, .rsv, 0, []⟩,
     ⟨"DIP", 16, 10, .w1c, 0, []⟩,
     ⟨"Reserved", 26, 6, .rsv, 0, []⟩]⟩,
  ⟨"GLB_EVTQ", 0x60, 1, 4, 1, 4, false,
    [⟨"CODE", 0, 16, .ro, 0, []⟩,
     ⟨"LEVEL", 16, 7, .ro, 0, []⟩,
     ⟨"Reserved", 23, 8, .rsv, 0, []⟩,
     ⟨"VALID", 31, 1, .ro, 0, []⟩]⟩,
  ⟨"GLB_EVTTIME", 0x64, 1, 4, 1, 4, false,
    [⟨"TIME", 0, 32, .ro, 0, []⟩]⟩,
  ⟨"GLB_EVTDET0", 0x68, 1, 4, 1, 4, false,
    [⟨"DET", 0, 32, .ro, 0, []⟩]⟩,
  ⟨"GLB_EVTDET1", 0x6c, 1, 4, 1, 4, false,
    [⟨"DET", 0, 32, .ro, 0, []⟩]⟩,
  ⟨"GLB_EVTOVF", 0x70, 1, 4, 1, 4, false,
    [⟨"COUNT", 0, 16, .rw, 0, [(1, 0xffff, .illegalValue)]⟩,
     ⟨"Reserved", 16, 16, .rsv, 0, []⟩]⟩]

/-- Registers of GLB. -/
def regsGlb : List RegRow := regsGlb1 ++ regsGlb2

/-- Registers of CLK, part 1 (R74). -/
def regsClk1 : List RegRow := [
  ⟨"CLK_LOCK", 0x10000, 1, 4, 1, 4, false,
    [⟨"REFOK", 0, 1, .ro, 0, []⟩,
     ⟨"HOLDOVER", 1, 1, .ro, 0, []⟩,
     ⟨"LOCK", 2, 8, .ro, 0, []⟩,
     ⟨"Reserved", 10, 6, .rsv, 0, []⟩,
     ⟨"UNLOCK", 16, 8, .w1c, 0, []⟩,
     ⟨"REFLOSS", 24, 1, .w1c, 0, []⟩,
     ⟨"Reserved", 25, 7, .rsv, 0, []⟩]⟩]

/-- Registers of CLK. -/
def regsClk : List RegRow := regsClk1

/-- Registers of HIF, part 1 (R94, R95, R100). -/
def regsHif1 : List RegRow := [
  ⟨"HIF_LINKCFG", 0x20000, 1, 4, 1, 4, false,
    [⟨"MODMASK", 0, 4, .rw, 0xf, [(0, 0, .illegalValue), (2, 2, .illegalValue), (4, 0xe, .illegalValue)]⟩,
     ⟨"MAXRATE", 4, 3, .rw, 5, [(6, 6, .illegalValue), (7, 7, .illegalValue)]⟩,
     ⟨"Reserved", 7, 1, .rsv, 0, []⟩,
     ⟨"RETRAIN", 8, 1, .wo, 0, []⟩,
     ⟨"Reserved", 9, 23, .rsv, 0, []⟩]⟩,
  ⟨"HIF_LINKSTAT", 0x20004, 1, 4, 1, 4, false,
    [⟨"UP", 0, 1, .ro, 0, []⟩,
     ⟨"MODS", 1, 4, .ro, 0, []⟩,
     ⟨"RATE", 5, 3, .ro, 0, []⟩,
     ⟨"BME", 8, 1, .ro, 0, []⟩,
     ⟨"Reserved", 9, 7, .rsv, 0, []⟩,
     ⟨"DOWNCNT", 16, 8, .ro, 0, []⟩,
     ⟨"Reserved", 24, 8, .rsv, 0, []⟩]⟩,
  ⟨"HIF_EVTVEC", 0x20008, 1, 4, 1, 4, false,
    [⟨"VEC", 0, 11, .rw, 0, []⟩,
     ⟨"EN", 11, 1, .rw, 0, []⟩,
     ⟨"Reserved", 12, 20, .rsv, 0, []⟩]⟩]

/-- Registers of HIF. -/
def regsHif : List RegRow := regsHif1

/-- Registers of QUE, part 1 (R106 to R113). -/
def regsQue1 : List RegRow := [
  ⟨"QUE_BASELO", 0x40000, 4096, 0x40, 1, 4, false,
    [⟨"LOW", 0, 12, .rw, 0, [(1, 0xfff, .align)]⟩,
     ⟨"ADDR", 12, 20, .rw, 0, []⟩]⟩,
  ⟨"QUE_BASEHI", 0x40004, 4096, 0x40, 1, 4, false,
    [⟨"ADDR", 0, 32, .rw, 0, []⟩]⟩,
  ⟨"QUE_CFG", 0x40008, 4096, 0x40, 1, 4, false,
    [⟨"SIZE", 0, 4, .rw, 4, [(0, 3, .illegalValue)]⟩,
     ⟨"LOC", 4, 1, .rw, 0, []⟩,
     ⟨"SRC", 5, 1, .rw, 0, []⟩,
     ⟨"ERRIRQ", 6, 1, .rw, 0, []⟩,
     ⟨"Reserved", 7, 25, .rsv, 0, []⟩]⟩,
  ⟨"QUE_CTL", 0x4000c, 4096, 0x40, 1, 4, false,
    [⟨"ENABLE", 0, 1, .rw, 0, []⟩,
     ⟨"STOP", 1, 1, .wo, 0, []⟩,
     ⟨"RESUME", 2, 1, .wo, 0, []⟩,
     ⟨"Reserved", 3, 29, .rsv, 0, []⟩]⟩,
  ⟨"QUE_STAT", 0x40010, 4096, 0x40, 1, 4, false,
    [⟨"STATE", 0, 3, .ro, 0, []⟩,
     ⟨"Reserved", 3, 5, .rsv, 0, []⟩,
     ⟨"CODE", 8, 8, .ro, 0, []⟩,
     ⟨"INFLIGHT", 16, 16, .ro, 0, []⟩]⟩,
  ⟨"QUE_IDX", 0x40014, 4096, 0x40, 1, 4, false,
    [⟨"TAIL", 0, 16, .ro, 0, []⟩,
     ⟨"FETCH", 16, 16, .ro, 0, []⟩]⟩,
  ⟨"QUE_RET", 0x40018, 4096, 0x40, 1, 4, false,
    [⟨"RETIRE", 0, 16, .ro, 0, []⟩,
     ⟨"Reserved", 16, 16, .rsv, 0, []⟩]⟩,
  ⟨"QUE_VEC", 0x4001c, 4096, 0x40, 1, 4, false,
    [⟨"VEC", 0, 11, .rw, 0, []⟩,
     ⟨"Reserved", 11, 21, .rsv, 0, []⟩]⟩]

/-- Registers of QUE. -/
def regsQue : List RegRow := regsQue1

/-- Registers of DMA, part 1 (R147 to R153). -/
def regsDma1 : List RegRow := [
  ⟨"DMA_TOCFG", 0x80000, 1, 4, 1, 4, false,
    [⟨"TOUS", 0, 16, .rw, 0x2710, [(0, 9, .illegalValue)]⟩,
     ⟨"Reserved", 16, 16, .rsv, 0, []⟩]⟩,
  ⟨"DMA_GSTAT", 0x80004, 1, 4, 1, 4, false,
    [⟨"LATECPL", 0, 16, .rw, 0, [(1, 0xffff, .illegalValue)]⟩,
     ⟨"Reserved", 16, 16, .rsv, 0, []⟩]⟩,
  ⟨"DMA_CHCFG", 0x81000, 64, 0x20, 1, 4, false,
    [⟨"ENABLE", 0, 1, .rw, 1, []⟩,
     ⟨"CLASS", 1, 2, .rw, 3, []⟩,
     ⟨"Reserved", 3, 5, .rsv, 0, []⟩,
     ⟨"RATE", 8, 8, .rw, 0, []⟩,
     ⟨"Reserved", 16, 16, .rsv, 0, []⟩]⟩,
  ⟨"DMA_CHSTAT", 0x81004, 64, 0x20, 1, 4, false,
    [⟨"STATE", 0, 2, .ro, 1, []⟩,
     ⟨"SHADOW", 2, 1, .ro, 0, []⟩,
     ⟨"Reserved", 3, 13, .rsv, 0, []⟩,
     ⟨"QID", 16, 12, .ro, 0, []⟩,
     ⟨"Reserved", 28, 4, .rsv, 0, []⟩]⟩,
  ⟨"DMA_CHCNT", 0x81008, 64, 0x20, 1, 4, false,
    [⟨"CNT", 0, 32, .ro, 0, []⟩]⟩,
  ⟨"DMA_CHDEAD", 0x8100c, 64, 0x20, 1, 4, false,
    [⟨"COUNT", 0, 16, .rw, 0, [(1, 0xffff, .illegalValue)]⟩,
     ⟨"LASTCODE", 16, 8, .ro, 0, []⟩,
     ⟨"Reserved", 24, 8, .rsv, 0, []⟩]⟩,
  ⟨"DMA_CHBYTLO", 0x81010, 64, 0x20, 1, 4, false,
    [⟨"LO", 0, 32, .ro, 0, []⟩]⟩,
  ⟨"DMA_CHBYTHI", 0x81014, 64, 0x20, 1, 4, false,
    [⟨"HI", 0, 32, .ro, 0, []⟩]⟩]

/-- Registers of DMA. -/
def regsDma : List RegRow := regsDma1

/-- Registers of SOR, part 1 (R157, R158, R167 to R173). -/
def regsSor1 : List RegRow := [
  ⟨"SOR_CFG", 0x90000, 1, 4, 1, 4, false,
    [⟨"WINGEN", 0, 4, .rw, 0, []⟩,
     ⟨"WINEN", 4, 1, .rw, 0, []⟩,
     ⟨"Reserved", 5, 3, .rsv, 0, []⟩,
     ⟨"POLLGEN", 8, 4, .rw, 0, []⟩,
     ⟨"POLLEN", 12, 1, .rw, 0, []⟩,
     ⟨"Reserved", 13, 19, .rsv, 0, []⟩]⟩,
  ⟨"SOR_GSTAT", 0x90004, 1, 4, 1, 4, false,
    [⟨"PREEMPTS", 0, 16, .ro, 0, []⟩,
     ⟨"FULL", 16, 1, .w1c, 0, []⟩,
     ⟨"LONGWIN", 17, 1, .w1c, 0, []⟩,
     ⟨"Reserved", 18, 14, .rsv, 0, []⟩]⟩,
  ⟨"SOR_WINNS", 0x90008, 1, 4, 1, 4, false,
    [⟨"NS", 0, 32, .ro, 0, []⟩]⟩,
  ⟨"SOR_GRPCFG", 0x90100, 32, 0x10, 1, 4, false,
    [⟨"CLASS", 0, 2, .rw, 1, [(3, 3, .illegalValue)]⟩,
     ⟨"Reserved", 2, 30, .rsv, 0, []⟩]⟩,
  ⟨"SOR_GRPMLO", 0x90104, 32, 0x10, 1, 4, false,
    [⟨"MASK", 0, 32, .rw, 0xffffffff, []⟩]⟩,
  ⟨"SOR_GRPMHI", 0x90108, 32, 0x10, 1, 4, false,
    [⟨"MASK", 0, 32, .rw, 0xffffffff, []⟩]⟩,
  ⟨"SOR_TGTCFG", 0x91000, 72, 0x20, 1, 4, false,
    [⟨"EN", 0, 1, .rw, 1, []⟩,
     ⟨"PREEMPT", 1, 1, .rw, 0, []⟩,
     ⟨"VEC", 2, 11, .rw, 0, [(1, 0x7ff, .illegalValue)]⟩,
     ⟨"UVEC", 13, 11, .rw, 0, [(1, 0x7ff, .illegalValue)]⟩,
     ⟨"Reserved", 24, 8, .rsv, 0, []⟩]⟩,
  ⟨"SOR_TGTCFG", 0x91900, 64, 0x20, 1, 4, false,
    [⟨"EN", 0, 1, .rw, 0, []⟩,
     ⟨"PREEMPT", 1, 1, .rw, 0, []⟩,
     ⟨"VEC", 2, 11, .rw, 0, []⟩,
     ⟨"UVEC", 13, 11, .rw, 0, []⟩,
     ⟨"Reserved", 24, 8, .rsv, 0, []⟩]⟩]

/-- Registers of SOR, part 2 (R157, R158, R167 to R173). -/
def regsSor2 : List RegRow := [
  ⟨"SOR_TGTSTAT", 0x91004, 136, 0x20, 1, 4, false,
    [⟨"BUSY", 0, 1, .ro, 0, []⟩,
     ⟨"SUSP", 1, 1, .ro, 0, []⟩,
     ⟨"FAULT", 2, 1, .ro, 0, []⟩,
     ⟨"Reserved", 3, 1, .rsv, 0, []⟩,
     ⟨"PRIO", 4, 3, .ro, 0, []⟩,
     ⟨"Reserved", 7, 1, .rsv, 0, []⟩,
     ⟨"QID", 8, 12, .ro, 0, []⟩,
     ⟨"Reserved", 20, 4, .rsv, 0, []⟩,
     ⟨"FCODE", 24, 8, .ro, 0, []⟩]⟩,
  ⟨"SOR_TGTLOAD", 0x91008, 136, 0x20, 1, 4, false,
    [⟨"LOAD", 0, 16, .ro, 0, []⟩,
     ⟨"Reserved", 16, 16, .rsv, 0, []⟩]⟩,
  ⟨"SOR_TGTSLOTLO", 0x91910, 64, 0x20, 1, 4, false,
    [⟨"LOW", 0, 7, .rw, 0, [(1, 0x7f, .align)]⟩,
     ⟨"BASE", 7, 25, .rw, 0, []⟩]⟩,
  ⟨"SOR_TGTSLOTHI", 0x91914, 64, 0x20, 1, 4, false,
    [⟨"BASE", 0, 32, .rw, 0, []⟩]⟩,
  ⟨"SOR_QBIND", 0x94000, 4096, 4, 1, 4, false,
    [⟨"GROUP", 0, 5, .rw, 0, []⟩,
     ⟨"Reserved", 5, 3, .rsv, 0, []⟩,
     ⟨"PRIO", 8, 3, .rw, 7, []⟩,
     ⟨"Reserved", 11, 1, .rsv, 0, []⟩,
     ⟨"SERIAL", 12, 1, .rw, 0, []⟩,
     ⟨"Reserved", 13, 19, .rsv, 0, []⟩]⟩,
  ⟨"SOR_QDEPTH", 0x98000, 4096, 8, 1, 4, false,
    [⟨"DEPTH", 0, 16, .ro, 0, []⟩,
     ⟨"HELD", 16, 8, .ro, 0, []⟩,
     ⟨"Reserved", 24, 8, .rsv, 0, []⟩]⟩,
  ⟨"SOR_QAGE", 0x98004, 4096, 8, 1, 4, false,
    [⟨"AGE", 0, 32, .ro, 0, []⟩]⟩]

/-- Registers of SOR. -/
def regsSor : List RegRow := regsSor1 ++ regsSor2

/-- Registers of SRF, part 1 (R197 to R200). -/
def regsSrf1 : List RegRow := [
  ⟨"SRF_CTL", 0xa0000, 1, 4, 1, 4, false,
    [⟨"EN", 0, 1, .rw, 0, []⟩,
     ⟨"Reserved", 1, 31, .rsv, 0, []⟩]⟩,
  ⟨"SRF_POOLBASE", 0xa0004, 1, 4, 1, 4, false,
    [⟨"BASE", 0, 21, .rw, 0, []⟩,
     ⟨"Reserved", 21, 11, .rsv, 0, []⟩]⟩,
  ⟨"SRF_POOLLEN", 0xa0008, 1, 4, 1, 4, false,
    [⟨"LEN", 0, 22, .rw, 0, [(0x200001, 0x3fffff, .range)]⟩,
     ⟨"Reserved", 22, 10, .rsv, 0, []⟩]⟩,
  ⟨"SRF_TBLLEN", 0xa000c, 1, 4, 1, 4, false,
    [⟨"LEN", 0, 22, .rw, 0x40, [(0x200001, 0x3fffff, .range)]⟩,
     ⟨"Reserved", 22, 10, .rsv, 0, []⟩]⟩,
  ⟨"SRF_PFCFG", 0xa0010, 1, 4, 1, 4, false,
    [⟨"LEADUS", 0, 16, .rw, 0x7d0, [(0, 0, .illegalValue)]⟩,
     ⟨"CACHE16", 16, 16, .rw, 0, []⟩]⟩,
  ⟨"SRF_STAT", 0xa0014, 1, 4, 1, 4, false,
    [⟨"LIVE", 0, 17, .ro, 0, []⟩,
     ⟨"PEND", 17, 13, .ro, 0, []⟩,
     ⟨"Reserved", 30, 2, .rsv, 0, []⟩]⟩,
  ⟨"SRF_FREEPG", 0xa0018, 1, 4, 1, 4, false,
    [⟨"FREE", 0, 22, .ro, 0, []⟩,
     ⟨"Reserved", 22, 10, .rsv, 0, []⟩]⟩,
  ⟨"SRF_PFSTAT", 0xa001c, 1, 4, 1, 4, true,
    [⟨"LATE", 0, 16, .rw, 0, [(1, 0xffff, .illegalValue)]⟩,
     ⟨"FAIL", 16, 16, .rw, 0, [(1, 0xffff, .illegalValue)]⟩]⟩]

/-- Registers of SRF, part 2 (R197 to R200). -/
def regsSrf2 : List RegRow := [
  ⟨"SRF_PFLAST", 0xa0020, 1, 4, 1, 4, false,
    [⟨"HANDLE", 0, 16, .ro, 0, []⟩,
     ⟨"CODE", 16, 8, .ro, 0, []⟩,
     ⟨"Reserved", 24, 8, .rsv, 0, []⟩]⟩,
  ⟨"SRF_PFFRM", 0xa0024, 1, 4, 1, 4, false,
    [⟨"FRAME", 0, 32, .ro, 0, []⟩]⟩,
  ⟨"SRF_RETIRED", 0xa0028, 1, 4, 1, 4, false,
    [⟨"FRAME", 0, 32, .ro, 0, []⟩]⟩,
  ⟨"SRF_TCMISS", 0xa002c, 1, 4, 1, 4, false,
    [⟨"COUNT", 0, 32, .ro, 0, []⟩]⟩]

/-- Registers of SRF. -/
def regsSrf : List RegRow := regsSrf1 ++ regsSrf2

/-- Registers of CMP, part 1 (R233 to R236). -/
def regsCmp1 : List RegRow := [
  ⟨"CMP_CTL", 0xb0000, 1, 4, 1, 4, false,
    [⟨"EN", 0, 1, .rw, 0, []⟩,
     ⟨"Reserved", 1, 31, .rsv, 0, []⟩]⟩,
  ⟨"CMP_QSTAT", 0xb0004, 1, 4, 1, 4, false,
    [⟨"STEP", 0, 3, .ro, 0, []⟩,
     ⟨"Reserved", 3, 5, .rsv, 0, []⟩,
     ⟨"SHED", 8, 8, .ro, 0, []⟩,
     ⟨"Reserved", 16, 16, .rsv, 0, []⟩]⟩,
  ⟨"CMP_FCLK", 0xb0008, 1, 4, 1, 4, false,
    [⟨"CLOCKS", 0, 32, .ro, 0, []⟩]⟩,
  ⟨"CMP_LERR", 0xb000c, 1, 4, 1, 4, false,
    [⟨"LAYER", 0, 7, .ro, 0, []⟩,
     ⟨"Reserved", 7, 1, .rsv, 0, []⟩,
     ⟨"CODE", 8, 8, .ro, 0, []⟩,
     ⟨"COUNT", 16, 16, .rw, 0, [(1, 0xffff, .illegalValue)]⟩]⟩,
  ⟨"CMP_CANCFG", 0xb0100, 4, 0x20, 1, 4, false,
    [⟨"EN", 0, 1, .rws, 0, []⟩,
     ⟨"OBITS", 1, 2, .rws, 1, []⟩,
     ⟨"ECURVE", 3, 2, .rws, 0, []⟩,
     ⟨"Reserved", 5, 27, .rsv, 0, []⟩]⟩,
  ⟨"CMP_CANSIZE", 0xb0104, 4, 0x20, 1, 4, false,
    [⟨"WM1", 0, 15, .rws, 0x1fff, []⟩,
     ⟨"Reserved", 15, 1, .rsv, 0, []⟩,
     ⟨"HM1", 16, 14, .rws, 0xfff, []⟩,
     ⟨"Reserved", 30, 2, .rsv, 0, []⟩]⟩,
  ⟨"CMP_CANBGR", 0xb0108, 4, 0x20, 1, 4, false,
    [⟨"LIGHT", 0, 24, .rws, 0, []⟩,
     ⟨"Reserved", 24, 8, .rsv, 0, []⟩]⟩,
  ⟨"CMP_CANBGG", 0xb010c, 4, 0x20, 1, 4, false,
    [⟨"LIGHT", 0, 24, .rws, 0, []⟩,
     ⟨"Reserved", 24, 8, .rsv, 0, []⟩]⟩]

/-- Registers of CMP, part 2 (R233 to R236). -/
def regsCmp2 : List RegRow := [
  ⟨"CMP_CANBGB", 0xb0110, 4, 0x20, 1, 4, false,
    [⟨"LIGHT", 0, 24, .rws, 0, []⟩,
     ⟨"Reserved", 24, 8, .rsv, 0, []⟩]⟩,
  ⟨"CMP_CANGAIN", 0xb0114, 4, 0x20, 1, 4, false,
    [⟨"TARGET", 0, 16, .rws, 0, []⟩,
     ⟨"FRAMES", 16, 12, .rws, 0, []⟩,
     ⟨"Reserved", 28, 4, .rsv, 0, []⟩]⟩,
  ⟨"CMP_CANNOW", 0xb0118, 4, 0x20, 1, 4, false,
    [⟨"GAIN", 0, 16, .ro, 0, []⟩,
     ⟨"Reserved", 16, 16, .rsv, 0, []⟩]⟩,
  ⟨"CMP_LCFG", 0xb4000, 128, 0x80, 1, 4, false,
    [⟨"EN", 0, 1, .rws, 0, []⟩,
     ⟨"FMT", 1, 4, .rws, 0, [(9, 0xf, .illegalValue)]⟩,
     ⟨"YRANGE", 5, 1, .rws, 0, []⟩,
     ⟨"YMAT", 6, 1, .rws, 0, []⟩,
     ⟨"ALPHA", 7, 1, .rws, 0, []⟩,
     ⟨"DCURVE", 8, 4, .rws, 0, []⟩,
     ⟨"HBANK", 12, 3, .rws, 0, []⟩,
     ⟨"VBANK", 15, 3, .rws, 0, []⟩,
     ⟨"WARP", 18, 1, .rws, 0, []⟩,
     ⟨"GRID", 19, 3, .rws, 4, [(0, 2, .illegalValue)]⟩,
     ⟨"SHED", 22, 1, .rws, 1, []⟩,
     ⟨"Reserved", 23, 9, .rsv, 0, []⟩]⟩,
  ⟨"CMP_LSURF", 0xb4004, 128, 0x80, 1, 4, false,
    [⟨"HANDLE", 0, 16, .rws, 0, []⟩,
     ⟨"MESH", 16, 16, .rws, 0, []⟩]⟩,
  ⟨"CMP_LSTRIDE", 0xb4008, 128, 0x80, 1, 4, false,
    [⟨"BYTES", 0, 24, .rws, 0, []⟩,
     ⟨"Reserved", 24, 8, .rsv, 0, []⟩]⟩,
  ⟨"CMP_LOFSLO", 0xb400c, 128, 0x80, 1, 4, false,
    [⟨"OFS", 0, 32, .rws, 0, []⟩]⟩,
  ⟨"CMP_LOFSHI", 0xb4010, 128, 0x80, 1, 4, false,
    [⟨"OFS", 0, 10, .rws, 0, []⟩,
     ⟨"Reserved", 10, 22, .rsv, 0, []⟩]⟩]

/-- Registers of CMP, part 3 (R233 to R236). -/
def regsCmp3 : List RegRow := [
  ⟨"CMP_LSRCSZ", 0xb4014, 128, 0x80, 1, 4, false,
    [⟨"SWM1", 0, 15, .rws, 0, []⟩,
     ⟨"SHM1", 16, 15, .rws, 0, []⟩,
     ⟨"Reserved", 15, 1, .rsv, 0, []⟩,
     ⟨"Reserved", 31, 1, .rsv, 0, []⟩]⟩,
  ⟨"CMP_LDSTXY", 0xb4018, 128, 0x80, 1, 4, false,
    [⟨"DX0", 0, 16, .rws, 0, []⟩,
     ⟨"DY0", 16, 16, .rws, 0, []⟩]⟩,
  ⟨"CMP_LDSTSZ", 0xb401c, 128, 0x80, 1, 4, false,
    [⟨"DWM1", 0, 15, .rws, 0, []⟩,
     ⟨"DHM1", 16, 15, .rws, 0, []⟩,
     ⟨"Reserved", 15, 1, .rsv, 0, []⟩,
     ⟨"Reserved", 31, 1, .rsv, 0, []⟩]⟩,
  ⟨"CMP_LHSTEP", 0xb4020, 128, 0x80, 1, 4, false,
    [⟨"STEP", 0, 24, .rws, 0x100000, [(0, 0xffff, .range), (0x400001, 0xffffff, .range)]⟩,
     ⟨"Reserved", 24, 8, .rsv, 0, []⟩]⟩,
  ⟨"CMP_LVSTEP", 0xb4024, 128, 0x80, 1, 4, false,
    [⟨"STEP", 0, 24, .rws, 0x100000, [(0, 0xffff, .range), (0x400001, 0xffffff, .range)]⟩,
     ⟨"Reserved", 24, 8, .rsv, 0, []⟩]⟩,
  ⟨"CMP_LMAT0", 0xb4028, 128, 0x80, 1, 4, false,
    [⟨"MLO", 0, 16, .rws, 0x2000, []⟩,
     ⟨"MHI", 16, 16, .rws, 0, []⟩]⟩,
  ⟨"CMP_LMAT1", 0xb402c, 128, 0x80, 1, 4, false,
    [⟨"MLO", 0, 16, .rws, 0, []⟩,
     ⟨"MHI", 16, 16, .rws, 0, []⟩]⟩,
  ⟨"CMP_LMAT2", 0xb4030, 128, 0x80, 1, 4, false,
    [⟨"MLO", 0, 16, .rws, 0x2000, []⟩,
     ⟨"MHI", 16, 16, .rws, 0, []⟩]⟩]

/-- Registers of CMP, part 4 (R233 to R236). -/
def regsCmp4 : List RegRow := [
  ⟨"CMP_LMAT3", 0xb4034, 128, 0x80, 1, 4, false,
    [⟨"MLO", 0, 16, .rws, 0, []⟩,
     ⟨"MHI", 16, 16, .rws, 0, []⟩]⟩,
  ⟨"CMP_LMAT4", 0xb4038, 128, 0x80, 1, 4, false,
    [⟨"M22", 0, 16, .rws, 0x2000, []⟩,
     ⟨"Reserved", 16, 16, .rsv, 0, []⟩]⟩,
  ⟨"CMP_LGAIN", 0xb403c, 128, 0x80, 1, 4, false,
    [⟨"TARGET", 0, 16, .rws, 0, []⟩,
     ⟨"FRAMES", 16, 12, .rws, 0, []⟩,
     ⟨"Reserved", 28, 4, .rsv, 0, []⟩]⟩,
  ⟨"CMP_LFADE", 0xb4040, 128, 0x80, 1, 4, false,
    [⟨"TARGET", 0, 16, .rws, 0, []⟩,
     ⟨"FRAMES", 16, 12, .rws, 0, []⟩,
     ⟨"Reserved", 28, 4, .rsv, 0, []⟩]⟩,
  ⟨"CMP_LNOW", 0xb4044, 128, 0x80, 1, 4, false,
    [⟨"GAIN", 0, 16, .ro, 0, []⟩,
     ⟨"FADE", 16, 16, .ro, 0, []⟩]⟩,
  ⟨"CMP_LHF", 0xb4048, 128, 0x80, 1, 4, false,
    [⟨"ONE", 0, 24, .rws, 0x400000, [(0, 0, .illegalValue)]⟩,
     ⟨"Reserved", 24, 8, .rsv, 0, []⟩]⟩]

/-- Registers of CMP. -/
def regsCmp : List RegRow := regsCmp1 ++ regsCmp2 ++ regsCmp3 ++ regsCmp4

/-- Registers of FRT, part 1 (R254 to R259). -/
def regsFrt1 : List RegRow := [
  ⟨"FRT_CTL", 0xc0000, 1, 4, 1, 4, false,
    [⟨"EN", 0, 1, .rw, 0, []⟩,
     ⟨"GEN", 1, 4, .rw, 0, []⟩,
     ⟨"QDEPTH", 5, 2, .rw, 0, []⟩,
     ⟨"Reserved", 7, 25, .rsv, 0, []⟩]⟩,
  ⟨"FRT_COMMIT", 0xc0004, 1, 4, 1, 4, false,
    [⟨"GO", 0, 1, .wo, 0, []⟩,
     ⟨"ARMED", 1, 1, .ro, 0, []⟩,
     ⟨"Reserved", 2, 30, .rsv, 0, []⟩]⟩,
  ⟨"FRT_FRAME", 0xc0008, 1, 4, 1, 4, false,
    [⟨"FRAME", 0, 32, .ro, 0, []⟩]⟩,
  ⟨"FRT_NEXTLAT", 0xc000c, 1, 4, 1, 4, false,
    [⟨"FRAME", 0, 32, .ro, 0, []⟩]⟩,
  ⟨"FRT_PERNS", 0xc0010, 1, 4, 1, 4, false,
    [⟨"NS", 0, 32, .ro, 0, []⟩]⟩,
  ⟨"FRT_PERFRAC", 0xc0014, 1, 4, 1, 4, false,
    [⟨"FRAC", 0, 24, .ro, 0, []⟩,
     ⟨"Reserved", 24, 8, .rsv, 0, []⟩]⟩,
  ⟨"FRT_LAT", 0xc0018, 1, 4, 1, 4, false,
    [⟨"NS", 0, 32, .ro, 0, []⟩]⟩,
  ⟨"FRT_WIN", 0xc001c, 1, 4, 1, 4, false,
    [⟨"NS", 0, 32, .ro, 0, []⟩]⟩]

/-- Registers of FRT, part 2 (R254 to R259). -/
def regsFrt2 : List RegRow := [
  ⟨"FRT_MARGIN", 0xc0020, 1, 4, 1, 4, false,
    [⟨"NS", 0, 32, .ro, 0, []⟩]⟩,
  ⟨"FRT_EFRAME", 0xc0024, 1, 4, 1, 4, false,
    [⟨"FRAME", 0, 32, .ro, 0, []⟩]⟩,
  ⟨"FRT_ANCHOR", 0xc0028, 1, 4, 1, 4, false,
    [⟨"TIME", 0, 32, .ro, 0, []⟩]⟩,
  ⟨"FRT_MSTAT", 0xc002c, 1, 4, 1, 4, false,
    [⟨"NSLOTM1", 0, 2, .ro, 0, []⟩,
     ⟨"TSET", 2, 3, .ro, 0, []⟩,
     ⟨"PEND", 5, 1, .ro, 0, []⟩,
     ⟨"Reserved", 6, 2, .rsv, 0, []⟩,
     ⟨"MGEN", 8, 8, .ro, 0, []⟩,
     ⟨"LATE", 16, 1, .w1c, 0, []⟩,
     ⟨"Reserved", 17, 15, .rsv, 0, []⟩]⟩,
  ⟨"FRT_USTAT", 0xc0030, 1, 4, 1, 4, false,
    [⟨"COUNT", 0, 16, .rw, 0, [(1, 0xffff, .illegalValue)]⟩,
     ⟨"CODE", 16, 8, .ro, 0, []⟩,
     ⟨"CAUSE", 24, 2, .ro, 0, []⟩,
     ⟨"Reserved", 26, 6, .rsv, 0, []⟩]⟩,
  ⟨"FRT_UFRM", 0xc0034, 1, 4, 1, 4, false,
    [⟨"FRAME", 0, 32, .ro, 0, []⟩]⟩]

/-- Registers of FRT. -/
def regsFrt : List RegRow := regsFrt1 ++ regsFrt2

/-- Registers of CHN, part 1 (R351 to R354). -/
def regsChn1 : List RegRow := [
  ⟨"CHN_CFG", 0xd0000, 1, 4, 1, 4, false,
    [⟨"SEALLET", 0, 1, .rw, 0, []⟩,
     ⟨"SEALRUN", 1, 1, .rw, 0, []⟩,
     ⟨"Reserved", 2, 6, .rsv, 0, []⟩,
     ⟨"LETTERTO", 8, 8, .rw, 0x32, [(0, 0, .illegalValue)]⟩,
     ⟨"Reserved", 16, 16, .rsv, 0, []⟩]⟩,
  ⟨"CHN_POSTCODE", 0xd0004, 1, 4, 1, 4, false,
    [⟨"POSTCODE", 0, 16, .ro, 0, []⟩,
     ⟨"VALID", 16, 1, .ro, 0, []⟩,
     ⟨"SRC", 17, 1, .ro, 0, []⟩,
     ⟨"Reserved", 18, 14, .rsv, 0, []⟩]⟩,
  ⟨"CHN_KEYSTAT", 0xd0008, 1, 4, 1, 4, false,
    [⟨"VALID", 0, 4, .ro, 0, []⟩,
     ⟨"INUSE", 4, 4, .ro, 0, []⟩,
     ⟨"Reserved", 8, 24, .rsv, 0, []⟩]⟩,
  ⟨"CHN_RSTAT", 0xd000c, 1, 4, 1, 4, true,
    [⟨"NOKEY", 0, 8, .rw, 0, [(1, 0xff, .illegalValue)]⟩,
     ⟨"STALE", 8, 8, .rw, 0, [(1, 0xff, .illegalValue)]⟩,
     ⟨"TAGFAIL", 16, 8, .rw, 0, [(1, 0xff, .illegalValue)]⟩,
     ⟨"BADRUN", 24, 8, .rw, 0, [(1, 0xff, .illegalValue)]⟩]⟩,
  ⟨"CHN_LSTAT", 0xd0010, 1, 4, 1, 4, true,
    [⟨"REFUSED", 0, 8, .rw, 0, [(1, 0xff, .illegalValue)]⟩,
     ⟨"REASMTO", 8, 8, .rw, 0, [(1, 0xff, .illegalValue)]⟩,
     ⟨"INBOXFULL", 16, 8, .rw, 0, [(1, 0xff, .illegalValue)]⟩,
     ⟨"NOPORT", 24, 8, .rw, 0, [(1, 0xff, .illegalValue)]⟩]⟩,
  ⟨"CHN_INBOX", 0xd0014, 1, 4, 1, 4, false,
    [⟨"HANDLE", 0, 16, .rw, 0, []⟩,
     ⟨"EN", 16, 1, .rw, 0, []⟩,
     ⟨"SIZE", 17, 4, .rw, 0, [(0xc, 0xf, .illegalValue)]⟩,
     ⟨"VEC", 21, 11, .rw, 0, []⟩]⟩,
  ⟨"CHN_INBOXIDX", 0xd0018, 1, 4, 1, 4, false,
    [⟨"WR", 0, 16, .ro, 0, []⟩,
     ⟨"RD", 16, 16, .rw, 0, []⟩]⟩,
  ⟨"CHN_KSESS", 0xd0020, 4, 4, 1, 4, false,
    [⟨"SESS", 0, 32, .ro, 0, []⟩]⟩]

/-- Registers of CHN, part 2 (R351 to R354). -/
def regsChn2 : List RegRow := [
  ⟨"CHN_PORTCTL", 0xd0100, 4, 0x40, 1, 4, false,
    [⟨"CHAIN", 0, 4, .rw, 0, []⟩,
     ⟨"END", 4, 1, .rw, 0, []⟩,
     ⟨"CLKMODE", 5, 1, .ro, 0, []⟩,
     ⟨"HEADFACE", 6, 1, .ro, 0, []⟩,
     ⟨"IDLE16", 7, 4, .rw, 1, [(0, 0, .illegalValue), (9, 0xf, .illegalValue)]⟩,
     ⟨"Reserved", 11, 21, .rsv, 0, []⟩]⟩,
  ⟨"CHN_PERR", 0xd0104, 4, 0x40, 1, 4, true,
    [⟨"BADHDR", 0, 8, .rw, 0, [(1, 0xff, .illegalValue)]⟩,
     ⟨"CAND", 8, 8, .rw, 0, [(1, 0xff, .illegalValue)]⟩,
     ⟨"MISADDR", 16, 8, .rw, 0, [(1, 0xff, .illegalValue)]⟩,
     ⟨"DROP", 24, 8, .rw, 0, [(1, 0xff, .illegalValue)]⟩]⟩]

/-- Registers of CHN. -/
def regsChn : List RegRow := regsChn1 ++ regsChn2

/-- Registers of LNK, part 1 (R301 to R308). -/
def regsLnk1 : List RegRow := [
  ⟨"LNK_CFG", 0xe0000, 1, 4, 1, 4, false,
    [⟨"RATE", 0, 2, .rw, 2, [(3, 3, .illegalValue)]⟩,
     ⟨"CLKMODE", 2, 1, .rw, 0, []⟩,
     ⟨"CDRBW", 3, 2, .rw, 1, [(3, 3, .illegalValue)]⟩,
     ⟨"Reserved", 5, 27, .rsv, 0, []⟩]⟩,
  ⟨"LNK_TIMING", 0xe0004, 1, 4, 1, 4, false,
    [⟨"SRC", 0, 3, .ro, 4, []⟩,
     ⟨"Reserved", 3, 5, .rsv, 0, []⟩,
     ⟨"SWITCHES", 8, 8, .ro, 0, []⟩,
     ⟨"Reserved", 16, 16, .rsv, 0, []⟩]⟩,
  ⟨"LNK_ADAPTCFG", 0xe0008, 1, 4, 1, 4, false,
    [⟨"MINEW", 0, 6, .rw, 0x10, []⟩,
     ⟨"Reserved", 6, 2, .rsv, 0, []⟩,
     ⟨"MINEH", 8, 8, .rw, 0x19, []⟩,
     ⟨"Reserved", 16, 16, .rsv, 0, []⟩]⟩,
  ⟨"LNK_PCTL", 0xe0100, 4, 0x40, 1, 4, false,
    [⟨"EN", 0, 1, .rw, 0, []⟩,
     ⟨"RETRAIN", 1, 1, .wo, 0, []⟩,
     ⟨"TEST", 2, 1, .rw, 0, []⟩,
     ⟨"Reserved", 3, 5, .rsv, 0, []⟩,
     ⟨"PRESET", 8, 3, .rw, 3, []⟩,
     ⟨"Reserved", 11, 21, .rsv, 0, []⟩]⟩,
  ⟨"LNK_PSTAT", 0xe0104, 4, 0x40, 1, 4, false,
    [⟨"STATE", 0, 4, .ro, 0, []⟩,
     ⟨"FAILSTAGE", 4, 4, .ro, 0, []⟩,
     ⟨"CODE", 8, 8, .ro, 0, []⟩,
     ⟨"PMODE", 16, 8, .ro, 0, []⟩,
     ⟨"NEWPART", 24, 1, .w1c, 0, []⟩,
     ⟨"Reserved", 25, 7, .rsv, 0, []⟩]⟩,
  ⟨"LNK_PMAP", 0xe0108, 4, 0x40, 1, 4, false,
    [⟨"REV", 0, 1, .ro, 0, []⟩,
     ⟨"INV", 1, 5, .ro, 0, []⟩,
     ⟨"SPARED", 6, 1, .ro, 0, []⟩,
     ⟨"SPAREFOR", 7, 2, .ro, 0, []⟩,
     ⟨"NOPAN", 9, 1, .ro, 0, []⟩,
     ⟨"PANSRC", 10, 2, .ro, 0, []⟩,
     ⟨"PANSEL", 12, 1, .ro, 0, []⟩,
     ⟨"Reserved", 13, 3, .rsv, 0, []⟩,
     ⟨"SKEW", 16, 8, .ro, 0, []⟩,
     ⟨"Reserved", 24, 8, .rsv, 0, []⟩]⟩,
  ⟨"LNK_PCNT", 0xe010c, 4, 0x40, 1, 4, true,
    [⟨"UPS", 0, 8, .rw, 0, [(1, 0xff, .illegalValue)]⟩,
     ⟨"DOWNS", 8, 8, .rw, 0, [(1, 0xff, .illegalValue)]⟩,
     ⟨"FAILS", 16, 8, .rw, 0, [(1, 0xff, .illegalValue)]⟩,
     ⟨"Reserved", 24, 8, .rsv, 0, []⟩]⟩,
  ⟨"LNK_PERR", 0xe0110, 4, 0x40, 1, 4, true,
    [⟨"ERRCW", 0, 16, .rw, 0, [(1, 0xffff, .illegalValue)]⟩,
     ⟨"RUNT", 16, 8, .rw, 0, [(1, 0xff, .illegalValue)]⟩,
     ⟨"SLIP", 24, 8, .rw, 0, [(1, 0xff, .illegalValue)]⟩]⟩]

/-- Registers of LNK, part 2 (R301 to R308). -/
def regsLnk2 : List RegRow := [
  ⟨"LNK_PFEC", 0xe0114, 4, 0x40, 1, 4, true,
    [⟨"CORR", 0, 16, .rw, 0, [(1, 0xffff, .illegalValue)]⟩,
     ⟨"UNCORR", 16, 16, .rw, 0, [(1, 0xffff, .illegalValue)]⟩]⟩,
  ⟨"LNK_LCTL", 0xe1000, 20, 0x20, 1, 4, false,
    [⟨"GEN", 0, 2, .rw, 0, [(3, 3, .illegalValue)]⟩,
     ⟨"CHK", 2, 2, .rw, 0, [(3, 3, .illegalValue)]⟩,
     ⟨"INJ", 4, 1, .wo, 0, []⟩,
     ⟨"INJRATE", 5, 3, .rw, 0, []⟩,
     ⟨"NELB", 8, 1, .rw, 0, []⟩,
     ⟨"FELB", 9, 1, .rw, 0, []⟩,
     ⟨"Reserved", 10, 22, .rsv, 0, []⟩]⟩,
  ⟨"LNK_LSTAT", 0xe1004, 20, 0x20, 1, 4, false,
    [⟨"CDR", 0, 1, .ro, 0, []⟩,
     ⟨"ALIGN", 1, 1, .ro, 0, []⟩,
     ⟨"LOGICAL", 2, 3, .ro, 7, []⟩,
     ⟨"PRBSLOCK", 5, 1, .ro, 0, []⟩,
     ⟨"FROZEN", 6, 1, .ro, 0, []⟩,
     ⟨"Reserved", 7, 1, .rsv, 0, []⟩,
     ⟨"REVERTS", 8, 8, .rw, 0, [(1, 0xff, .illegalValue)]⟩,
     ⟨"Reserved", 16, 16, .rsv, 0, []⟩]⟩,
  ⟨"LNK_LPRBS", 0xe1008, 20, 0x20, 1, 4, false,
    [⟨"ERR", 0, 32, .rw, 0, [(1, 0xffffffff, .illegalValue)]⟩]⟩,
  ⟨"LNK_LCV", 0xe100c, 20, 0x20, 1, 4, true,
    [⟨"CV", 0, 16, .rw, 0, [(1, 0xffff, .illegalValue)]⟩,
     ⟨"DISP", 16, 16, .rw, 0, [(1, 0xffff, .illegalValue)]⟩]⟩,
  ⟨"LNK_LMARGIN", 0xe1010, 20, 0x20, 1, 4, false,
    [⟨"EW", 0, 6, .ro, 0, []⟩,
     ⟨"Reserved", 6, 2, .rsv, 0, []⟩,
     ⟨"EH", 8, 8, .ro, 0, []⟩,
     ⟨"Reserved", 16, 16, .rsv, 0, []⟩]⟩]

/-- Registers of LNK. -/
def regsLnk : List RegRow := regsLnk1 ++ regsLnk2

/-- Registers of TIM, part 1 (R389 to R392, R384). -/
def regsTim1 : List RegRow := [
  ⟨"TIM_CFG", 0xf0000, 1, 4, 1, 4, false,
    [⟨"ROLE", 0, 1, .rw, 0, []⟩,
     ⟨"DISC", 1, 2, .rw, 0, [(3, 3, .illegalValue)]⟩,
     ⟨"FPORT", 3, 2, .rw, 0, []⟩,
     ⟨"CADGEN", 5, 4, .rw, 0xf, []⟩,
     ⟨"Reserved", 9, 23, .rsv, 0, []⟩]⟩,
  ⟨"TIM_STAT", 0xf0004, 1, 4, 1, 4, false,
    [⟨"STATE", 0, 2, .ro, 0, []⟩,
     ⟨"SPORT", 2, 3, .ro, 7, []⟩,
     ⟨"REFHOLD", 5, 1, .ro, 0, []⟩,
     ⟨"WRAPFIX", 6, 1, .w1c, 0, []⟩,
     ⟨"Reserved", 7, 1, .rsv, 0, []⟩,
     ⟨"STEPS", 8, 8, .ro, 0, []⟩,
     ⟨"HOLDMS", 16, 16, .ro, 0, []⟩]⟩,
  ⟨"TIM_INC", 0xf0008, 1, 4, 1, 4, false,
    [⟨"INC", 0, 32, .rw, 0x10000000, [(0, 0xffbe76c, .range), (0x10041894, 0xffffffff, .range)]⟩]⟩,
  ⟨"TIM_NOWLO", 0xf000c, 1, 4, 1, 4, false,
    [⟨"NS", 0, 32, .ro, 0, []⟩]⟩,
  ⟨"TIM_NOWFR", 0xf0010, 1, 4, 1, 4, false,
    [⟨"FRAC", 0, 28, .ro, 0, []⟩,
     ⟨"Reserved", 28, 4, .rsv, 0, []⟩]⟩,
  ⟨"TIM_NOWWR", 0xf0014, 1, 4, 1, 4, false,
    [⟨"WRAPS", 0, 32, .ro, 0, []⟩]⟩,
  ⟨"TIM_ADJ", 0xf0018, 1, 4, 1, 4, false,
    [⟨"STEP", 0, 32, .wo, 0, []⟩]⟩,
  ⟨"TIM_REFCFG", 0xf001c, 1, 4, 1, 4, false,
    [⟨"ARM", 0, 1, .wo, 0, []⟩,
     ⟨"ARMED", 1, 1, .ro, 0, []⟩,
     ⟨"FALL", 2, 1, .rw, 0, []⟩,
     ⟨"Reserved", 3, 1, .rsv, 0, []⟩,
     ⟨"REFDLY", 4, 16, .rw, 0, []⟩,
     ⟨"Reserved", 20, 12, .rsv, 0, []⟩]⟩]

/-- Registers of TIM, part 2 (R389 to R392, R384). -/
def regsTim2 : List RegRow := [
  ⟨"TIM_REFVAL", 0xf0020, 1, 4, 1, 4, false,
    [⟨"VAL", 0, 32, .rw, 0, []⟩]⟩,
  ⟨"TIM_REFPER", 0xf0024, 1, 4, 1, 4, false,
    [⟨"NS", 0, 32, .rw, 0x3b9aca00, []⟩]⟩,
  ⟨"TIM_REFPERF", 0xf0028, 1, 4, 1, 4, false,
    [⟨"FRAC", 0, 24, .rw, 0, []⟩,
     ⟨"Reserved", 24, 8, .rsv, 0, []⟩]⟩,
  ⟨"TIM_SYNCCFG", 0xf002c, 1, 4, 1, 4, false,
    [⟨"SYNCGEN", 0, 4, .rw, 0, []⟩,
     ⟨"SYNCEN", 4, 1, .rw, 0, []⟩,
     ⟨"BW", 5, 2, .rw, 1, [(3, 3, .illegalValue)]⟩,
     ⟨"Reserved", 7, 1, .rsv, 0, []⟩,
     ⟨"PDINT", 8, 8, .rw, 0x10, [(0, 0, .illegalValue)]⟩,
     ⟨"LOSSUS", 16, 16, .rw, 0x3e8, [(0, 0x63, .illegalValue)]⟩]⟩,
  ⟨"TIM_OFFSET", 0xf0030, 1, 4, 1, 4, false,
    [⟨"OFS", 0, 32, .ro, 0, []⟩]⟩,
  ⟨"TIM_SSTAT", 0xf0034, 1, 4, 1, 4, true,
    [⟨"OUTLIER", 0, 8, .rw, 0, [(1, 0xff, .illegalValue)]⟩,
     ⟨"PDLOST", 8, 8, .rw, 0, [(1, 0xff, .illegalValue)]⟩,
     ⟨"WRAPFIX", 16, 8, .rw, 0, [(1, 0xff, .illegalValue)]⟩,
     ⟨"SYNCDROP", 24, 8, .rw, 0, [(1, 0xff, .illegalValue)]⟩]⟩,
  ⟨"TIM_PDLY", 0xf0100, 4, 0x10, 1, 4, false,
    [⟨"DELAY", 0, 24, .ro, 0, []⟩,
     ⟨"COUNT", 24, 5, .ro, 0, []⟩,
     ⟨"Reserved", 29, 3, .rsv, 0, []⟩]⟩,
  ⟨"TIM_ASYM", 0xf0104, 4, 0x10, 1, 4, false,
    [⟨"ASYM", 0, 16, .rw, 0, []⟩,
     ⟨"Reserved", 16, 16, .rsv, 0, []⟩]⟩]

/-- Registers of TIM, part 3 (R389 to R392, R384). -/
def regsTim3 : List RegRow := [
  ⟨"TIM_PGCFG", 0xf1000, 16, 0x20, 1, 4, false,
    [⟨"EN", 0, 1, .rw, 0, []⟩,
     ⟨"PERIODIC", 1, 1, .rw, 0, []⟩,
     ⟨"POL", 2, 1, .rw, 0, []⟩,
     ⟨"IRQ", 3, 1, .rw, 0, []⟩,
     ⟨"OWNED", 4, 1, .ro, 0, []⟩,
     ⟨"Reserved", 5, 27, .rsv, 0, []⟩]⟩,
  ⟨"TIM_PGSTART", 0xf1004, 16, 0x20, 1, 4, false,
    [⟨"S", 0, 32, .rw, 0, []⟩]⟩,
  ⟨"TIM_PGPER", 0xf1008, 16, 0x20, 1, 4, false,
    [⟨"PER", 0, 32, .rw, 0, []⟩]⟩,
  ⟨"TIM_PGPERF", 0xf100c, 16, 0x20, 1, 4, false,
    [⟨"PERF", 0, 24, .rw, 0, []⟩,
     ⟨"Reserved", 24, 8, .rsv, 0, []⟩]⟩,
  ⟨"TIM_PGWID", 0xf1010, 16, 0x20, 1, 4, false,
    [⟨"WID", 0, 24, .rw, 8, []⟩,
     ⟨"Reserved", 24, 8, .rsv, 0, []⟩]⟩,
  ⟨"TIM_PGSTAT", 0xf1014, 16, 0x20, 1, 4, false,
    [⟨"COUNT", 0, 16, .ro, 0, []⟩,
     ⟨"SKIP", 16, 8, .ro, 0, []⟩,
     ⟨"LATE", 24, 1, .w1c, 0, []⟩,
     ⟨"Reserved", 25, 7, .rsv, 0, []⟩]⟩,
  ⟨"TIM_PGNEXT", 0xf1018, 16, 0x20, 1, 4, false,
    [⟨"NEXT", 0, 32, .ro, 0, []⟩]⟩,
  ⟨"TIM_CAPCFG", 0xf2000, 4, 0x10, 1, 4, false,
    [⟨"EN", 0, 1, .rw, 0, []⟩,
     ⟨"EDGE", 1, 2, .rw, 0, [(3, 3, .illegalValue)]⟩,
     ⟨"EVT", 3, 1, .rw, 0, []⟩,
     ⟨"Reserved", 4, 4, .rsv, 0, []⟩,
     ⟨"OVF", 8, 8, .ro, 0, []⟩,
     ⟨"GLITCH", 16, 8, .ro, 0, []⟩,
     ⟨"LEVEL", 24, 5, .ro, 0, []⟩,
     ⟨"Reserved", 29, 3, .rsv, 0, []⟩]⟩]

/-- Registers of TIM, part 4 (R389 to R392, R384). -/
def regsTim4 : List RegRow := [
  ⟨"TIM_CAPLO", 0xf2004, 4, 0x10, 1, 4, false,
    [⟨"NS", 0, 32, .ro, 0, []⟩]⟩,
  ⟨"TIM_CAPHI", 0xf2008, 4, 0x10, 1, 4, false,
    [⟨"FR8", 0, 3, .ro, 0, []⟩,
     ⟨"FALL", 3, 1, .ro, 0, []⟩,
     ⟨"WRAPS", 4, 8, .ro, 0, []⟩,
     ⟨"VALID", 12, 1, .ro, 0, []⟩,
     ⟨"Reserved", 13, 19, .rsv, 0, []⟩]⟩]

/-- Registers of TIM. -/
def regsTim : List RegRow := regsTim1 ++ regsTim2 ++ regsTim3 ++ regsTim4

/-- Registers of TAN, part 1 (R409 to R414). -/
def regsTan1 : List RegRow := [
  ⟨"TAN_CFG", 0x100000, 1, 4, 1, 4, false,
    [⟨"EN", 0, 1, .rw, 0, []⟩,
     ⟨"PREF", 1, 1, .rw, 0, []⟩,
     ⟨"REVERT", 2, 1, .rw, 1, []⟩,
     ⟨"HBGEN", 3, 4, .rw, 1, []⟩,
     ⟨"Reserved", 7, 1, .rsv, 0, []⟩,
     ⟨"RANK", 8, 8, .rw, 1, [(0, 0, .illegalValue), (0xff, 0xff, .illegalValue)]⟩,
     ⟨"HOLDS", 16, 12, .rw, 0x1e, [(0, 0, .illegalValue)]⟩,
     ⟨"Reserved", 28, 4, .rsv, 0, []⟩]⟩,
  ⟨"TAN_CTL", 0x100004, 1, 4, 1, 4, false,
    [⟨"TAKE", 0, 1, .wo, 0, []⟩,
     ⟨"HOLD", 1, 1, .rw, 0, []⟩,
     ⟨"Reserved", 2, 30, .rsv, 0, []⟩]⟩,
  ⟨"TAN_CLAIM", 0x100008, 1, 4, 1, 4, false,
    [⟨"RANK", 0, 8, .ro, 1, []⟩,
     ⟨"EPOCH", 8, 24, .rw, 0, []⟩]⟩,
  ⟨"TAN_STAT", 0x10000c, 1, 4, 1, 4, false,
    [⟨"STATE", 0, 2, .ro, 0, []⟩,
     ⟨"PEERLOST", 2, 1, .w1c, 0, []⟩,
     ⟨"NOTAKE", 3, 1, .w1c, 0, []⟩,
     ⟨"CLASH", 4, 1, .w1c, 0, []⟩,
     ⟨"Reserved", 5, 3, .rsv, 0, []⟩,
     ⟨"PEERPORTS", 8, 4, .ro, 0, []⟩,
     ⟨"ACTPORTS", 12, 4, .ro, 0, []⟩,
     ⟨"TAKEOVERS", 16, 8, .ro, 0, []⟩,
     ⟨"HOLDLEFT", 24, 8, .ro, 0, []⟩]⟩,
  ⟨"TAN_PEER", 0x100010, 1, 4, 1, 4, false,
    [⟨"CLAIM", 0, 32, .ro, 0, []⟩]⟩,
  ⟨"TAN_RENUM", 0x100014, 1, 4, 1, 4, false,
    [⟨"Reserved", 0, 8, .rsv, 0, []⟩,
     ⟨"EPOCH", 8, 24, .wo, 0, []⟩]⟩,
  ⟨"TAN_SNAPCFG", 0x100020, 1, 4, 1, 4, false,
    [⟨"HANDLE", 0, 16, .rw, 0, []⟩,
     ⟨"SIZEM1", 16, 8, .rw, 0, []⟩,
     ⟨"RXEN", 24, 1, .rw, 0, []⟩,
     ⟨"Reserved", 25, 7, .rsv, 0, []⟩]⟩,
  ⟨"TAN_SNAPSTAT", 0x100024, 1, 4, 1, 4, true,
    [⟨"BANK", 0, 1, .ro, 0, []⟩,
     ⟨"VALID", 1, 1, .ro, 0, []⟩,
     ⟨"STAGING", 2, 1, .ro, 0, []⟩,
     ⟨"Reserved", 3, 5, .rsv, 0, []⟩,
     ⟨"FAILS", 8, 8, .rw, 0, [(1, 0xff, .illegalValue)]⟩,
     ⟨"GAP", 16, 16, .ro, 0, []⟩]⟩]

/-- Registers of TAN, part 2 (R409 to R414). -/
def regsTan2 : List RegRow := [
  ⟨"TAN_SNAPGEN", 0x100028, 1, 4, 1, 4, false,
    [⟨"GEN", 0, 32, .ro, 0, []⟩]⟩,
  ⟨"TAN_SNAPSEEN", 0x10002c, 1, 4, 1, 4, false,
    [⟨"GEN", 0, 32, .ro, 0, []⟩]⟩,
  ⟨"TAN_SNAPLEN", 0x100030, 1, 4, 1, 4, false,
    [⟨"LEN", 0, 25, .ro, 0, []⟩,
     ⟨"Reserved", 25, 7, .rsv, 0, []⟩]⟩,
  ⟨"TAN_TSTAT", 0x100100, 1, 4, 1, 4, false,
    [⟨"ACCPORT", 0, 2, .ro, 3, []⟩,
     ⟨"LIVE0", 2, 1, .ro, 0, []⟩,
     ⟨"LIVE1", 3, 1, .ro, 0, []⟩,
     ⟨"Reserved", 4, 4, .rsv, 0, []⟩,
     ⟨"SWITCHES", 8, 8, .ro, 0, []⟩,
     ⟨"NONE", 16, 8, .ro, 0, []⟩,
     ⟨"Reserved", 24, 8, .rsv, 0, []⟩]⟩,
  ⟨"TAN_TCLAIM0", 0x100104, 1, 4, 1, 4, false,
    [⟨"CLAIM", 0, 32, .ro, 0, []⟩]⟩,
  ⟨"TAN_TCLAIM1", 0x100108, 1, 4, 1, 4, false,
    [⟨"CLAIM", 0, 32, .ro, 0, []⟩]⟩]

/-- Registers of TAN. -/
def regsTan : List RegRow := regsTan1 ++ regsTan2

/-- Registers of LMP, part 1 (R441 to R444). -/
def regsLmp1 : List RegRow := [
  ⟨"LMP_CTL", 0x110000, 1, 4, 1, 4, false,
    [⟨"EN", 0, 1, .rw, 0, []⟩,
     ⟨"FSBUF", 1, 2, .rw, 1, [(0, 0, .illegalValue)]⟩,
     ⟨"UNLOCKED", 3, 1, .rw, 0, []⟩,
     ⟨"DITHER", 4, 1, .rw, 1, []⟩,
     ⟨"Reserved", 5, 3, .rsv, 0, []⟩,
     ⟨"HOLDF", 8, 8, .rw, 0x78, []⟩,
     ⟨"Reserved", 16, 16, .rsv, 0, []⟩]⟩,
  ⟨"LMP_GEOM", 0x110004, 1, 4, 1, 4, false,
    [⟨"TWM1", 0, 12, .rw, 0xff, []⟩,
     ⟨"THM1", 12, 12, .rw, 0xff, []⟩,
     ⟨"NOUTM1", 24, 2, .rw, 2, []⟩,
     ⟨"Reserved", 26, 6, .rsv, 0, []⟩]⟩,
  ⟨"LMP_STRM", 0x110008, 1, 4, 1, 4, false,
    [⟨"OBITS", 0, 8, .rw, 0x55, []⟩,
     ⟨"Reserved", 8, 24, .rsv, 0, []⟩]⟩,
  ⟨"LMP_FSSURF", 0x11000c, 1, 4, 1, 4, false,
    [⟨"HANDLE", 0, 16, .rw, 0, []⟩,
     ⟨"Reserved", 16, 16, .rsv, 0, []⟩]⟩,
  ⟨"LMP_CORSURF", 0x110010, 1, 4, 1, 4, false,
    [⟨"HANDLE", 0, 16, .rw, 0, []⟩,
     ⟨"Reserved", 16, 16, .rsv, 0, []⟩]⟩,
  ⟨"LMP_SETTEMP0", 0x110014, 1, 4, 1, 4, false,
    [⟨"TA", 0, 16, .rw, 0x190, []⟩,
     ⟨"TB", 16, 16, .rw, 0x2d0, []⟩]⟩,
  ⟨"LMP_SETTEMP1", 0x110018, 1, 4, 1, 4, false,
    [⟨"TC", 0, 16, .rw, 0x410, []⟩,
     ⟨"Reserved", 16, 16, .rsv, 0, []⟩]⟩,
  ⟨"LMP_TRIM", 0x11001c, 1, 4, 1, 4, false,
    [⟨"KS", 0, 5, .rw, 0x10, [(0, 7, .range), (0x15, 0x1f, .range)]⟩,
     ⟨"Reserved", 5, 27, .rsv, 0, []⟩]⟩]

/-- Registers of LMP, part 2 (R441 to R444). -/
def regsLmp2 : List RegRow := [
  ⟨"LMP_DIM", 0x110020, 1, 4, 1, 4, false,
    [⟨"TARGET", 0, 16, .rw, 0, []⟩,
     ⟨"FRAMES", 16, 12, .rw, 0, []⟩,
     ⟨"Reserved", 28, 4, .rsv, 0, []⟩]⟩,
  ⟨"LMP_DIMFRM", 0x110024, 1, 4, 1, 4, false,
    [⟨"F0", 0, 32, .rw, 0, []⟩]⟩,
  ⟨"LMP_DIMNOW", 0x110028, 1, 4, 1, 4, false,
    [⟨"DIM", 0, 16, .ro, 0, []⟩,
     ⟨"LATE", 16, 1, .w1c, 0, []⟩,
     ⟨"Reserved", 17, 15, .rsv, 0, []⟩]⟩,
  ⟨"LMP_CEIL", 0x11002c, 1, 4, 1, 4, false,
    [⟨"CEIL", 0, 6, .ro, 0x20, []⟩,
     ⟨"Reserved", 6, 26, .rsv, 0, []⟩]⟩,
  ⟨"LMP_MSTAT", 0x110030, 1, 4, 1, 4, false,
    [⟨"MODE", 0, 1, .ro, 0, []⟩,
     ⟨"TSET", 1, 3, .ro, 0, []⟩,
     ⟨"NSLOTM1", 4, 2, .ro, 0, []⟩,
     ⟨"LATE", 6, 1, .w1c, 0, []⟩,
     ⟨"Reserved", 7, 1, .rsv, 0, []⟩,
     ⟨"CODE", 8, 8, .ro, 0, []⟩,
     ⟨"CUT", 16, 8, .ro, 0, []⟩,
     ⟨"Reserved", 24, 8, .rsv, 0, []⟩]⟩,
  ⟨"LMP_MNEED", 0x110034, 1, 4, 1, 4, false,
    [⟨"NS", 0, 32, .ro, 0x4e20, []⟩]⟩,
  ⟨"LMP_FSTAT", 0x110038, 1, 4, 1, 4, true,
    [⟨"MISS", 0, 8, .rw, 0, [(1, 0xff, .illegalValue)]⟩,
     ⟨"LATEDONE", 8, 8, .rw, 0, [(1, 0xff, .illegalValue)]⟩,
     ⟨"ABORT", 16, 8, .rw, 0, [(1, 0xff, .illegalValue)]⟩,
     ⟨"NOBUF", 24, 8, .rw, 0, [(1, 0xff, .illegalValue)]⟩]⟩,
  ⟨"LMP_FRAME", 0x11003c, 1, 4, 1, 4, false,
    [⟨"FRAME", 0, 32, .ro, 0, []⟩]⟩]

/-- Registers of LMP, part 3 (R441 to R444). -/
def regsLmp3 : List RegRow := [
  ⟨"LMP_LASTMISS", 0x110040, 1, 4, 1, 4, false,
    [⟨"FRAME", 0, 32, .ro, 0, []⟩]⟩,
  ⟨"LMP_ERR", 0x110044, 1, 4, 1, 4, true,
    [⟨"RDERR", 0, 16, .rw, 0, [(1, 0xffff, .illegalValue)]⟩,
     ⟨"SLOTLATE", 16, 8, .rw, 0, [(1, 0xff, .illegalValue)]⟩,
     ⟨"Reserved", 24, 8, .rsv, 0, []⟩]⟩,
  ⟨"LMP_TPCFG", 0x110048, 1, 4, 1, 4, false,
    [⟨"PAT", 0, 3, .rw, 0, [(6, 6, .illegalValue), (7, 7, .illegalValue)]⟩,
     ⟨"INJ", 3, 1, .rw, 0, []⟩,
     ⟨"MASK", 4, 4, .rw, 0xf, []⟩,
     ⟨"LOC", 8, 1, .ro, 0, []⟩,
     ⟨"SELF", 9, 1, .ro, 0, []⟩,
     ⟨"Reserved", 10, 22, .rsv, 0, []⟩]⟩,
  ⟨"LMP_TPVAL", 0x11004c, 1, 4, 1, 4, false,
    [⟨"LIGHT", 0, 24, .rw, 0, []⟩,
     ⟨"Reserved", 24, 8, .rsv, 0, []⟩]⟩,
  ⟨"LMP_ZTEMP", 0x110100, 16, 4, 1, 4, false,
    [⟨"TEMP", 0, 16, .ro, 0, []⟩,
     ⟨"FAILED", 16, 1, .ro, 0, []⟩,
     ⟨"Reserved", 17, 15, .rsv, 0, []⟩]⟩,
  ⟨"LMP_TSCFG", 0x111000, 8, 0x40, 1, 4, false,
    [⟨"STEP", 0, 7, .rw, 8, [(0, 3, .range), (0x41, 0x7f, .range)]⟩,
     ⟨"GRMAX", 7, 2, .rw, 3, []⟩,
     ⟨"Reserved", 9, 23, .rsv, 0, []⟩]⟩,
  ⟨"LMP_TSOFS", 0x111004, 8, 0x40, 4, 0xc, false,
    [⟨"NS", 0, 26, .rw, 0, [(0x2faf081, 0x3ffffff, .range)]⟩,
     ⟨"Reserved", 26, 6, .rsv, 0, []⟩]⟩,
  ⟨"LMP_TSWID", 0x111008, 8, 0x40, 4, 0xc, false,
    [⟨"NS", 0, 26, .rw, 0, [(0x2faf081, 0x3ffffff, .range)]⟩,
     ⟨"Reserved", 26, 6, .rsv, 0, []⟩]⟩]

/-- Registers of LMP, part 4 (R441 to R444). -/
def regsLmp4 : List RegRow := [
  ⟨"LMP_TSGEN", 0x11100c, 8, 0x40, 1, 4, false,
    [⟨"STREAM", 0, 2, .rw, 0, []⟩,
     ⟨"Reserved", 2, 14, .rsv, 0, []⟩,
     ⟨"GMAX", 16, 16, .rw, 0, []⟩]⟩,
  ⟨"LMP_TSGEN", 0x111018, 8, 0x40, 1, 4, false,
    [⟨"STREAM", 0, 2, .rw, 1, []⟩,
     ⟨"Reserved", 2, 14, .rsv, 0, []⟩,
     ⟨"GMAX", 16, 16, .rw, 0, []⟩]⟩,
  ⟨"LMP_TSGEN", 0x111024, 8, 0x40, 1, 4, false,
    [⟨"STREAM", 0, 2, .rw, 2, []⟩,
     ⟨"Reserved", 2, 14, .rsv, 0, []⟩,
     ⟨"GMAX", 16, 16, .rw, 0, []⟩]⟩,
  ⟨"LMP_TSGEN", 0x111030, 8, 0x40, 1, 4, false,
    [⟨"STREAM", 0, 2, .rw, 3, []⟩,
     ⟨"Reserved", 2, 14, .rsv, 0, []⟩,
     ⟨"GMAX", 16, 16, .rw, 0, []⟩]⟩]

/-- Registers of LMP. -/
def regsLmp : List RegRow := regsLmp1 ++ regsLmp2 ++ regsLmp3 ++ regsLmp4

/-- Registers of SPK, part 1 (R474 to R479). -/
def regsSpk1 : List RegRow := [
  ⟨"SPK_CTL", 0x120000, 1, 4, 1, 4, false,
    [⟨"EN", 0, 1, .rw, 0, []⟩,
     ⟨"PROBEEN", 1, 1, .rw, 1, []⟩,
     ⟨"RBDARK", 2, 1, .rw, 0, []⟩,
     ⟨"RELOAD", 3, 1, .wo, 0, []⟩,
     ⟨"Reserved", 4, 4, .rsv, 0, []⟩,
     ⟨"RATE", 8, 8, .rw, 0x14, [(0, 4, .range), (0x19, 0xff, .range)]⟩,
     ⟨"Reserved", 16, 16, .rsv, 0, []⟩]⟩,
  ⟨"SPK_SPKEN", 0x120004, 1, 4, 1, 4, false,
    [⟨"EN", 0, 32, .rw, 0, []⟩]⟩,
  ⟨"SPK_SCAN0", 0x120008, 1, 4, 1, 4, false,
    [⟨"DM1", 0, 7, .rw, 0xf, []⟩,
     ⟨"Reserved", 7, 1, .rsv, 0, []⟩,
     ⟨"NPM1", 8, 8, .rw, 0x1f, []⟩,
     ⟨"STAG", 16, 7, .rw, 0, []⟩,
     ⟨"Reserved", 23, 1, .rsv, 0, []⟩,
     ⟨"GRPEN", 24, 4, .rw, 0xf, []⟩,
     ⟨"Reserved", 28, 4, .rsv, 0, []⟩]⟩,
  ⟨"SPK_SCAN1", 0x12000c, 1, 4, 1, 4, false,
    [⟨"BLANKM1", 0, 8, .rw, 0x13, [(0, 0, .illegalValue)]⟩,
     ⟨"DIS", 8, 8, .rw, 6, []⟩,
     ⟨"PRE", 16, 8, .rw, 8, []⟩,
     ⟨"PW", 24, 8, .rw, 0x20, [(0, 0x1f, .range), (0x41, 0xff, .range)]⟩]⟩,
  ⟨"SPK_GRPLO", 0x120010, 1, 4, 1, 4, false,
    [⟨"GRP", 0, 32, .rw, 0, []⟩]⟩,
  ⟨"SPK_GRPHI", 0x120014, 1, 4, 1, 4, false,
    [⟨"GRP", 0, 32, .rw, 0, []⟩]⟩,
  ⟨"SPK_SURF", 0x120018, 1, 4, 1, 4, false,
    [⟨"MAP", 0, 16, .rw, 0, []⟩,
     ⟨"ICODE", 16, 16, .rw, 0, []⟩]⟩,
  ⟨"SPK_FDCFG", 0x12001c, 1, 4, 1, 4, false,
    [⟨"FDEN", 0, 1, .rw, 1, []⟩,
     ⟨"NFDL", 1, 4, .rw, 6, [(0, 3, .range), (0xd, 0xf, .range)]⟩,
     ⟨"FDSLOT", 5, 2, .rw, 0, []⟩,
     ⟨"AUTOMASK", 7, 1, .rw, 0, []⟩,
     ⟨"Reserved", 8, 24, .rsv, 0, []⟩]⟩]

/-- Registers of SPK, part 2 (R474 to R479). -/
def regsSpk2 : List RegRow := [
  ⟨"SPK_FDCTL", 0x120020, 1, 4, 1, 4, false,
    [⟨"CLEAR", 0, 1, .wo, 0, []⟩,
     ⟨"Reserved", 1, 31, .rsv, 0, []⟩]⟩,
  ⟨"SPK_FLCNT", 0x120024, 1, 4, 1, 4, false,
    [⟨"COUNT", 0, 11, .ro, 0, []⟩,
     ⟨"OVF", 11, 1, .ro, 0, []⟩,
     ⟨"Reserved", 12, 4, .rsv, 0, []⟩,
     ⟨"DETS", 16, 16, .ro, 0, []⟩]⟩,
  ⟨"SPK_FLIDX", 0x120028, 1, 4, 1, 4, false,
    [⟨"IDX", 0, 10, .rw, 0, []⟩,
     ⟨"Reserved", 10, 22, .rsv, 0, []⟩]⟩,
  ⟨"SPK_FLDATA", 0x12002c, 1, 4, 1, 4, false,
    [⟨"ENTRY", 0, 32, .ro, 0, []⟩]⟩,
  ⟨"SPK_RBSTAT", 0x120030, 1, 4, 1, 4, true,
    [⟨"MISM", 0, 16, .rw, 0, [(1, 0xffff, .illegalValue)]⟩,
     ⟨"Reserved", 16, 16, .rsv, 0, []⟩]⟩,
  ⟨"SPK_RBSPK", 0x120034, 1, 4, 1, 4, false,
    [⟨"SPK", 0, 32, .w1c, 0, []⟩]⟩,
  ⟨"SPK_RBGRP", 0x120038, 1, 4, 1, 4, false,
    [⟨"GRP", 0, 4, .w1c, 0, []⟩,
     ⟨"Reserved", 4, 28, .rsv, 0, []⟩]⟩,
  ⟨"SPK_SPKCFG", 0x120100, 32, 4, 1, 4, false,
    [⟨"NDM1", 0, 5, .rw, 7, []⟩,
     ⟨"Reserved", 5, 3, .rsv, 0, []⟩,
     ⟨"NCH", 8, 7, .rw, 0x30, [(0, 0xf, .range), (0x41, 0x7f, .range)]⟩,
     ⟨"Reserved", 15, 1, .rsv, 0, []⟩,
     ⟨"WDLY", 16, 8, .rw, 0, []⟩,
     ⟨"Reserved", 24, 8, .rsv, 0, []⟩]⟩]

/-- Registers of SPK, part 3 (R474 to R479). -/
def regsSpk3 : List RegRow := [
  ⟨"SPK_SPKSTAT", 0x120180, 32, 4, 1, 4, false,
    [⟨"STATE", 0, 2, .ro, 0, []⟩,
     ⟨"Reserved", 2, 6, .rsv, 0, []⟩,
     ⟨"CODE", 8, 8, .ro, 0, []⟩,
     ⟨"NFOUND", 16, 6, .ro, 0, []⟩,
     ⟨"Reserved", 22, 2, .rsv, 0, []⟩,
     ⟨"DCRC", 24, 8, .ro, 0, []⟩]⟩]

/-- Registers of SPK. -/
def regsSpk : List RegRow := regsSpk1 ++ regsSpk2 ++ regsSpk3

/-- Registers of DRC, part 1 (R499 to R501). -/
def regsDrc1 : List RegRow := [
  ⟨"DRC_CFG", 0x130000, 1, 4, 1, 4, false,
    [⟨"ENMASK", 0, 8, .ro, 0, []⟩,
     ⟨"FSP", 8, 2, .ro, 0, []⟩,
     ⟨"BAND", 10, 3, .ro, 0, []⟩,
     ⟨"TSET", 13, 1, .ro, 0, []⟩,
     ⟨"Reserved", 14, 18, .rsv, 0, []⟩]⟩,
  ⟨"DRC_FSPRATE", 0x130004, 1, 4, 1, 4, false,
    [⟨"RATE0", 0, 8, .ro, 0, []⟩,
     ⟨"RATE1", 8, 8, .ro, 0, []⟩,
     ⟨"RATE2", 16, 8, .ro, 0, []⟩,
     ⟨"Reserved", 24, 8, .rsv, 0, []⟩]⟩,
  ⟨"DRC_CAP", 0x130008, 1, 4, 1, 4, false,
    [⟨"PAGES", 0, 22, .ro, 0, []⟩,
     ⟨"Reserved", 22, 10, .rsv, 0, []⟩]⟩,
  ⟨"DRC_FREQ", 0x13000c, 1, 4, 1, 4, false,
    [⟨"FSP", 0, 2, .rw, 0, [(3, 3, .illegalValue)]⟩,
     ⟨"GO", 2, 1, .wo, 0, []⟩,
     ⟨"FORCE", 3, 1, .rw, 0, []⟩,
     ⟨"BUSY", 4, 1, .ro, 0, []⟩,
     ⟨"Reserved", 5, 3, .rsv, 0, []⟩,
     ⟨"CODE", 8, 8, .ro, 0, []⟩,
     ⟨"LASTUS", 16, 16, .ro, 0, []⟩]⟩,
  ⟨"DRC_QTGT01", 0x130010, 1, 4, 1, 4, false,
    [⟨"TGT0", 0, 16, .rw, 0x3e8, [(0, 0x63, .illegalValue)]⟩,
     ⟨"TGT1", 16, 16, .rw, 0x7d0, [(0, 0x63, .illegalValue)]⟩]⟩,
  ⟨"DRC_QTGT23", 0x130014, 1, 4, 1, 4, false,
    [⟨"TGT2", 0, 16, .rw, 0x2710, [(0, 0x63, .illegalValue)]⟩,
     ⟨"TGT3", 16, 16, .rw, 0xc350, [(0, 0x63, .illegalValue)]⟩]⟩,
  ⟨"DRC_REFCFG", 0x130018, 1, 4, 1, 4, false,
    [⟨"PULLIN", 0, 1, .rw, 1, []⟩,
     ⟨"Reserved", 1, 7, .rsv, 0, []⟩,
     ⟨"IDLE", 8, 8, .rw, 0xa, [(0, 0, .illegalValue)]⟩,
     ⟨"SCRUBH", 16, 8, .rw, 0x18, []⟩,
     ⟨"Reserved", 24, 8, .rsv, 0, []⟩]⟩,
  ⟨"DRC_QMISS", 0x13001c, 1, 4, 1, 4, true,
    [⟨"MISS0", 0, 8, .rw, 0, [(1, 0xff, .illegalValue)]⟩,
     ⟨"MISS1", 8, 8, .rw, 0, [(1, 0xff, .illegalValue)]⟩,
     ⟨"MISS2", 16, 8, .rw, 0, [(1, 0xff, .illegalValue)]⟩,
     ⟨"MISS3", 24, 8, .rw, 0, [(1, 0xff, .illegalValue)]⟩]⟩]

/-- Registers of DRC, part 2 (R499 to R501). -/
def regsDrc2 : List RegRow := [
  ⟨"DRC_REFSTAT", 0x130020, 1, 4, 1, 4, true,
    [⟨"FORCED", 0, 16, .rw, 0, [(1, 0xffff, .illegalValue)]⟩,
     ⟨"PULLED", 16, 16, .rw, 0, [(1, 0xffff, .illegalValue)]⟩]⟩,
  ⟨"DRC_ECCSTAT", 0x130024, 1, 4, 1, 4, true,
    [⟨"CE", 0, 16, .rw, 0, [(1, 0xffff, .illegalValue)]⟩,
     ⟨"UE", 16, 16, .rw, 0, [(1, 0xffff, .illegalValue)]⟩]⟩,
  ⟨"DRC_UEADDR", 0x130028, 1, 4, 1, 4, false,
    [⟨"BLOCK", 0, 31, .ro, 0, []⟩,
     ⟨"VALID", 31, 1, .w1c, 0, []⟩]⟩,
  ⟨"DRC_HAZSTAT", 0x13002c, 1, 4, 1, 4, true,
    [⟨"RAW", 0, 16, .rw, 0, [(1, 0xffff, .illegalValue)]⟩,
     ⟨"RMW", 16, 16, .rw, 0, [(1, 0xffff, .illegalValue)]⟩]⟩,
  ⟨"DRC_CHSTAT", 0x130100, 8, 0x20, 1, 4, false,
    [⟨"STATE", 0, 3, .ro, 0, []⟩,
     ⟨"Reserved", 3, 5, .rsv, 0, []⟩,
     ⟨"CODE", 8, 8, .ro, 0, []⟩,
     ⟨"SIZE", 16, 2, .ro, 0, []⟩,
     ⟨"RANKS", 18, 1, .ro, 0, []⟩,
     ⟨"LOST", 19, 1, .ro, 0, []⟩,
     ⟨"Reserved", 20, 4, .rsv, 0, []⟩,
     ⟨"OWED", 24, 5, .ro, 0, []⟩,
     ⟨"Reserved", 29, 3, .rsv, 0, []⟩]⟩,
  ⟨"DRC_LANE", 0x130104, 8, 0x20, 4, 4, false,
    [⟨"RDEW", 0, 8, .ro, 0, []⟩,
     ⟨"WREW", 8, 8, .ro, 0, []⟩,
     ⟨"VREF", 16, 8, .ro, 0, []⟩,
     ⟨"EH", 24, 8, .ro, 0, []⟩]⟩]

/-- Registers of DRC. -/
def regsDrc : List RegRow := regsDrc1 ++ regsDrc2

/-- Registers of THM, part 1 (R516 to R519). -/
def regsThm1 : List RegRow := [
  ⟨"THM_CFG", 0x140000, 1, 4, 1, 4, false,
    [⟨"LAMPLIM", 0, 8, .rw, 0x55, [(0, 0x27, .range), (0x6a, 0xff, .range)]⟩,
     ⟨"CEILMIN", 8, 6, .rw, 8, [(0, 0, .range), (0x21, 0x3f, .range)]⟩,
     ⟨"Reserved", 14, 2, .rsv, 0, []⟩,
     ⟨"TDEN", 16, 16, .rw, 0xffff, []⟩]⟩,
  ⟨"THM_STAT", 0x140004, 1, 4, 1, 4, false,
    [⟨"BAND", 0, 3, .ro, 1, []⟩,
     ⟨"THROT", 3, 1, .ro, 0, []⟩,
     ⟨"FAILHOLD", 4, 1, .ro, 0, []⟩,
     ⟨"Reserved", 5, 3, .rsv, 0, []⟩,
     ⟨"STEP", 8, 8, .ro, 0, []⟩,
     ⟨"TJ", 16, 16, .ro, 0, []⟩]⟩,
  ⟨"THM_FAIL", 0x140008, 1, 4, 1, 4, false,
    [⟨"OD", 0, 12, .w1c, 0, []⟩,
     ⟨"Reserved", 12, 4, .rsv, 0, []⟩,
     ⟨"TD", 16, 16, .w1c, 0, []⟩]⟩,
  ⟨"THM_EXCL", 0x14000c, 1, 4, 1, 4, false,
    [⟨"ODX", 0, 12, .rw, 0, []⟩,
     ⟨"Reserved", 12, 4, .rsv, 0, []⟩,
     ⟨"TDX", 16, 16, .rw, 0, []⟩]⟩,
  ⟨"THM_PWR", 0x140010, 1, 4, 1, 4, false,
    [⟨"REQ", 0, 3, .rw, 0, [(5, 7, .illegalValue)]⟩,
     ⟨"NOW", 3, 3, .ro, 0, []⟩,
     ⟨"BUSY", 6, 1, .ro, 0, []⟩,
     ⟨"FORCED", 7, 1, .ro, 0, []⟩,
     ⟨"Reserved", 8, 24, .rsv, 0, []⟩]⟩,
  ⟨"THM_TRIP", 0x140014, 1, 4, 1, 4, false,
    [⟨"LATCH", 0, 1, .ro, 0, []⟩,
     ⟨"Reserved", 1, 7, .rsv, 0, []⟩,
     ⟨"SENSOR", 8, 4, .ro, 0, []⟩,
     ⟨"Reserved", 12, 20, .rsv, 0, []⟩]⟩,
  ⟨"THM_OD", 0x140100, 12, 4, 1, 4, false,
    [⟨"TEMP", 0, 16, .ro, 0, []⟩,
     ⟨"FAILED", 16, 1, .ro, 0, []⟩,
     ⟨"Reserved", 17, 15, .rsv, 0, []⟩]⟩,
  ⟨"THM_TD", 0x140140, 16, 4, 1, 4, false,
    [⟨"TEMP", 0, 16, .ro, 0, []⟩,
     ⟨"FAILED", 16, 1, .ro, 0, []⟩,
     ⟨"Reserved", 17, 15, .rsv, 0, []⟩]⟩]

/-- Registers of THM. -/
def regsThm : List RegRow := regsThm1

/-- Registers of CAL, part 1 (R532 to R534). -/
def regsCal1 : List RegRow := [
  ⟨"CAL_CTL", 0x150000, 1, 4, 1, 4, false,
    [⟨"EN", 0, 1, .rw, 1, []⟩,
     ⟨"PORTS", 1, 4, .rw, 0xf, []⟩,
     ⟨"Reserved", 5, 3, .rsv, 0, []⟩,
     ⟨"INTV", 8, 8, .rw, 6, [(0, 0, .illegalValue)]⟩,
     ⟨"START", 16, 1, .wo, 0, []⟩,
     ⟨"LANE", 17, 3, .rw, 0, [(5, 7, .illegalValue)]⟩,
     ⟨"PORT", 20, 2, .rw, 0, []⟩,
     ⟨"Reserved", 22, 10, .rsv, 0, []⟩]⟩,
  ⟨"CAL_STAT", 0x150004, 1, 4, 1, 4, true,
    [⟨"BUSY", 0, 1, .ro, 0, []⟩,
     ⟨"LANE", 1, 3, .ro, 0, []⟩,
     ⟨"PORT", 4, 2, .ro, 0, []⟩,
     ⟨"Reserved", 6, 2, .rsv, 0, []⟩,
     ⟨"ABORTS", 8, 8, .rw, 0, [(1, 0xff, .illegalValue)]⟩,
     ⟨"NOGAIN", 16, 8, .rw, 0, [(1, 0xff, .illegalValue)]⟩,
     ⟨"LASTCODE", 24, 8, .ro, 0, []⟩]⟩,
  ⟨"CAL_DCFG", 0x150008, 1, 4, 1, 4, false,
    [⟨"TRACK", 0, 1, .rw, 1, []⟩,
     ⟨"SBRETRAIN", 1, 1, .rw, 1, []⟩,
     ⟨"Reserved", 2, 6, .rsv, 0, []⟩,
     ⟨"RETRAINH", 8, 8, .rw, 0x18, []⟩,
     ⟨"Reserved", 16, 16, .rsv, 0, []⟩]⟩,
  ⟨"CAL_DCNT", 0x150200, 8, 0x10, 1, 4, false,
    [⟨"RETRAIN", 0, 16, .ro, 0, []⟩,
     ⟨"FAIL", 16, 8, .ro, 0, []⟩,
     ⟨"Reserved", 24, 8, .rsv, 0, []⟩]⟩,
  ⟨"CAL_DFRM", 0x150204, 8, 0x10, 1, 4, false,
    [⟨"FRAME", 0, 32, .ro, 0, []⟩]⟩,
  ⟨"CAL_DTIME", 0x150208, 8, 0x10, 1, 4, false,
    [⟨"TIME", 0, 32, .ro, 0, []⟩]⟩,
  ⟨"CAL_LQUAL", 0x151000, 20, 0x10, 1, 4, false,
    [⟨"EW", 0, 6, .ro, 0, []⟩,
     ⟨"Reserved", 6, 2, .rsv, 0, []⟩,
     ⟨"EH", 8, 8, .ro, 0, []⟩,
     ⟨"SET", 16, 2, .ro, 0, []⟩,
     ⟨"Reserved", 18, 14, .rsv, 0, []⟩]⟩,
  ⟨"CAL_LCNT", 0x151004, 20, 0x10, 1, 4, false,
    [⟨"COUNT", 0, 16, .ro, 0, []⟩,
     ⟨"Reserved", 16, 16, .rsv, 0, []⟩]⟩]

/-- Registers of CAL, part 2 (R532 to R534). -/
def regsCal2 : List RegRow := [
  ⟨"CAL_LFRM", 0x151008, 20, 0x10, 1, 4, false,
    [⟨"FRAME", 0, 32, .ro, 0, []⟩]⟩,
  ⟨"CAL_LTIME", 0x15100c, 20, 0x10, 1, 4, false,
    [⟨"TIME", 0, 32, .ro, 0, []⟩]⟩]

/-- Registers of CAL. -/
def regsCal : List RegRow := regsCal1 ++ regsCal2

/-- Registers of SEC, part 1 (R560 to R562). -/
def regsSec1 : List RegRow := [
  ⟨"SEC_STAT", 0x160000, 1, 4, 1, 4, false,
    [⟨"LIFE", 0, 2, .ro, 0, []⟩,
     ⟨"DEBUG", 2, 2, .ro, 0, []⟩,
     ⟨"IDKEY", 4, 1, .ro, 0, []⟩,
     ⟨"Reserved", 5, 3, .rsv, 0, []⟩,
     ⟨"SVN", 8, 8, .ro, 0, []⟩,
     ⟨"QDEPTH", 16, 5, .ro, 0, []⟩,
     ⟨"Reserved", 21, 11, .rsv, 0, []⟩]⟩,
  ⟨"SEC_NONCE", 0x160010, 4, 4, 1, 4, false,
    [⟨"NONCE", 0, 32, .ro, 0, []⟩]⟩,
  ⟨"SEC_UID", 0x160020, 4, 4, 1, 4, false,
    [⟨"UID", 0, 32, .ro, 0, []⟩]⟩,
  ⟨"SEC_MSEL", 0x160030, 1, 4, 1, 4, false,
    [⟨"REG", 0, 3, .rw, 0, []⟩,
     ⟨"WORD", 3, 4, .rw, 0, []⟩,
     ⟨"Reserved", 7, 25, .rsv, 0, []⟩]⟩,
  ⟨"SEC_MDATA", 0x160034, 1, 4, 1, 4, false,
    [⟨"DATA", 0, 32, .ro, 0, []⟩]⟩,
  ⟨"SEC_RCPTCFG", 0x160040, 1, 4, 1, 4, false,
    [⟨"EN", 0, 1, .rw, 1, []⟩,
     ⟨"PERIOD", 1, 16, .rw, 0x3e8, [(0, 0x63, .range), (0xea61, 0xffff, .range)]⟩,
     ⟨"Reserved", 17, 15, .rsv, 0, []⟩]⟩,
  ⟨"SEC_RSEQ", 0x160044, 1, 4, 1, 4, false,
    [⟨"RSEQ", 0, 32, .ro, 0, []⟩]⟩,
  ⟨"SEC_CRCCFG", 0x160050, 1, 4, 1, 4, false,
    [⟨"HANDLE", 0, 16, .rw, 0, []⟩,
     ⟨"SIZE", 16, 4, .rw, 8, [(0, 3, .range), (0xd, 0xf, .range)]⟩,
     ⟨"EN", 20, 1, .rw, 0, []⟩,
     ⟨"Reserved", 21, 11, .rsv, 0, []⟩]⟩]

/-- Registers of SEC, part 2 (R560 to R562). -/
def regsSec2 : List RegRow := [
  ⟨"SEC_SESSION", 0x160054, 1, 4, 1, 4, false,
    [⟨"SESSION", 0, 32, .ro, 0, []⟩]⟩,
  ⟨"SEC_CNT", 0x160060, 1, 4, 1, 4, true,
    [⟨"QREFUSED", 0, 8, .rw, 0, [(1, 0xff, .illegalValue)]⟩,
     ⟨"KWFAIL", 8, 8, .rw, 0, [(1, 0xff, .illegalValue)]⟩,
     ⟨"RDROP", 16, 8, .rw, 0, [(1, 0xff, .illegalValue)]⟩,
     ⟨"TOKFAIL", 24, 8, .rw, 0, [(1, 0xff, .illegalValue)]⟩]⟩]

/-- Registers of SEC. -/
def regsSec : List RegRow := regsSec1 ++ regsSec2

/-- Registers of UPD, part 1 (R584, R585). -/
def regsUpd1 : List RegRow := [
  ⟨"UPD_CFG", 0x170000, 1, 4, 1, 4, false,
    [⟨"HOSTCONF", 0, 1, .rw, 1, []⟩,
     ⟨"Reserved", 1, 7, .rsv, 0, []⟩,
     ⟨"CONFS", 8, 8, .rw, 0x78, [(0, 9, .range)]⟩,
     ⟨"Reserved", 16, 16, .rsv, 0, []⟩]⟩,
  ⟨"UPD_STAT", 0x170004, 1, 4, 1, 4, false,
    [⟨"USTATE", 0, 3, .ro, 0, []⟩,
     ⟨"CUR", 3, 1, .ro, 0, []⟩,
     ⟨"TRIES", 4, 2, .ro, 0, []⟩,
     ⟨"RECOVERY", 6, 1, .ro, 0, []⟩,
     ⟨"Reserved", 7, 1, .rsv, 0, []⟩,
     ⟨"LASTCODE", 8, 8, .ro, 0, []⟩,
     ⟨"CURSVN", 16, 8, .ro, 0, []⟩,
     ⟨"FALLBACK", 24, 1, .w1c, 0, []⟩,
     ⟨"CONFIRMED", 25, 1, .w1c, 0, []⟩,
     ⟨"Reserved", 26, 6, .rsv, 0, []⟩]⟩,
  ⟨"UPD_CTL", 0x170008, 1, 4, 1, 4, false,
    [⟨"CONFIRM", 0, 1, .wo, 0, []⟩,
     ⟨"ABANDON", 1, 1, .wo, 0, []⟩,
     ⟨"Reserved", 2, 30, .rsv, 0, []⟩]⟩,
  ⟨"UPD_HELD", 0x17000c, 1, 4, 1, 4, false,
    [⟨"HELD", 0, 16, .ro, 0, []⟩,
     ⟨"NEED", 16, 16, .ro, 0, []⟩]⟩,
  ⟨"UPD_AFRAME", 0x170010, 1, 4, 1, 4, false,
    [⟨"FRAME", 0, 32, .ro, 0, []⟩]⟩,
  ⟨"UPD_TXCFG", 0x170014, 1, 4, 1, 4, false,
    [⟨"RATE", 0, 16, .rw, 0x40, []⟩,
     ⟨"Reserved", 16, 16, .rsv, 0, []⟩]⟩,
  ⟨"UPD_BUILD", 0x170018, 1, 4, 1, 4, false,
    [⟨"BUILD", 0, 32, .ro, 0, []⟩]⟩,
  ⟨"UPD_PKGID", 0x170020, 4, 4, 1, 4, false,
    [⟨"ID", 0, 32, .ro, 0, []⟩]⟩]

/-- Registers of UPD, part 2 (R584, R585). -/
def regsUpd2 : List RegRow := [
  ⟨"UPD_RECOV", 0x170030, 1, 4, 1, 4, false,
    [⟨"LEN", 0, 23, .rw, 0, [(0x400001, 0x7fffff, .range)]⟩,
     ⟨"GO", 23, 1, .wo, 0, []⟩,
     ⟨"CODE", 24, 8, .ro, 0, []⟩]⟩]

/-- Registers of UPD. -/
def regsUpd : List RegRow := regsUpd1 ++ regsUpd2

/-- Registers of NVM, part 1 (R586). -/
def regsNvm1 : List RegRow := [
  ⟨"NVM_STAT", 0x180000, 1, 4, 1, 4, false,
    [⟨"NDEV", 0, 2, .ro, 0, []⟩,
     ⟨"Reserved", 2, 6, .rsv, 0, []⟩,
     ⟨"SIZEMIB4", 8, 8, .ro, 0, []⟩,
     ⟨"BUSY", 16, 1, .ro, 0, []⟩,
     ⟨"Reserved", 17, 15, .rsv, 0, []⟩]⟩]

/-- Registers of NVM. -/
def regsNvm : List RegRow := regsNvm1

/-- The registers of the block whose identifier is `id` (R599); QUE covers four 64 KiB pages. -/
def regsOfPage (id : Nat) : List RegRow :=
  match id with
  | 0 => regsGlb
  | 1 => regsClk
  | 2 => regsHif
  | 4 | 5 | 6 | 7 => regsQue
  | 8 => regsDma
  | 9 => regsSor
  | 0xa => regsSrf
  | 0xb => regsCmp
  | 0xc => regsFrt
  | 0xd => regsChn
  | 0xe => regsLnk
  | 0xf => regsTim
  | 0x10 => regsTan
  | 0x11 => regsLmp
  | 0x12 => regsSpk
  | 0x13 => regsDrc
  | 0x14 => regsThm
  | 0x15 => regsCal
  | 0x16 => regsSec
  | 0x17 => regsUpd
  | 0x18 => regsNvm
  | _ => []

/-- Does the register group hold a register at BAR0 offset `off`? -/
def RegRow.covers (r : RegRow) (off : Nat) : Bool :=
  r.base ≤ off && (off - r.base) / r.s1 < r.n1 && (off - r.base) % r.s1 % r.s2 == 0 && (off - r.base) % r.s1 / r.s2 < r.n2

/-- The field map of the register at BAR0 offset `off`, if a register is there (R98, R599, R600). -/
def regAt (off : Nat) : Option RegRow := (regsOfPage (off / 0x10000)).find? (fun r => r.covers off)

/-- The word a field map gives as reset value (R6). -/
def RegRow.resetNat (r : RegRow) : Nat := (r.fields.map (fun f => f.rst * 2 ^ f.lo)).sum

/-- Reset value of the register at `off`; 0 where no register is. -/
def resetWord (off : Nat) : Word :=
  match regAt off with
  | some r => BitVec.ofNat 32 r.resetNat
  | none => 0#32

/-- A register field: BAR0 offset of its register, lowest bit, width. -/
structure Fld where
  off : Nat
  lo : Nat
  width : Nat
  deriving DecidableEq, Repr

end Sys2Proof.Machine
end

