-- ==== Sys2Proof/Machine/Fields.lean ====
section
/-! DEFINITION. Names for the registers (namespace R: BAR0 offsets) and register fields (namespace F) of the
field maps in RegTable.lean, as the spec spells them (R600). An index is the queue, channel, port, lane (5p + l), canvas,
layer, generator, spoke, zone or timing set (and slot) of the group; it is taken modulo their number, so that no name reaches
beyond its group. DESIGN CHOICE (log entry 148). -/

namespace Sys2Proof.Machine.R
open Sys2Proof.Machine

abbrev GLB_ROLE : Nat := 0x10
abbrev GLB_RSTCAUSE : Nat := 0x18
abbrev GLB_BOOTSTAT : Nat := 0x1c
abbrev GLB_ERRLOG : Nat := 0x20
abbrev GLB_ERRINFO : Nat := 0x24
abbrev GLB_BLKRST : Nat := 0x30
abbrev GLB_WARMRST : Nat := 0x34
abbrev GLB_YIELDCNT : Nat := 0x40
abbrev GLB_YIELDLAST : Nat := 0x44
abbrev GLB_YIELDFRM : Nat := 0x48
abbrev GLB_RAILSTAT : Nat := 0x50
abbrev GLB_EVTQ : Nat := 0x60
abbrev GLB_EVTTIME : Nat := 0x64
abbrev GLB_EVTDET0 : Nat := 0x68
abbrev GLB_EVTDET1 : Nat := 0x6c
abbrev GLB_EVTOVF : Nat := 0x70
abbrev CLK_LOCK : Nat := 0x10000
abbrev HIF_LINKCFG : Nat := 0x20000
abbrev HIF_LINKSTAT : Nat := 0x20004
abbrev HIF_EVTVEC : Nat := 0x20008
abbrev QUE_BASELO (i : Nat) : Nat := 0x40000 + 0x40 * (i % 4096)
abbrev QUE_BASEHI (i : Nat) : Nat := 0x40004 + 0x40 * (i % 4096)
abbrev QUE_CFG (i : Nat) : Nat := 0x40008 + 0x40 * (i % 4096)
abbrev QUE_CTL (i : Nat) : Nat := 0x4000c + 0x40 * (i % 4096)
abbrev QUE_STAT (i : Nat) : Nat := 0x40010 + 0x40 * (i % 4096)
abbrev QUE_IDX (i : Nat) : Nat := 0x40014 + 0x40 * (i % 4096)
abbrev QUE_RET (i : Nat) : Nat := 0x40018 + 0x40 * (i % 4096)
abbrev QUE_VEC (i : Nat) : Nat := 0x4001c + 0x40 * (i % 4096)
abbrev DMA_TOCFG : Nat := 0x80000
abbrev DMA_GSTAT : Nat := 0x80004
abbrev DMA_CHCFG (i : Nat) : Nat := 0x81000 + 0x20 * (i % 64)
abbrev DMA_CHSTAT (i : Nat) : Nat := 0x81004 + 0x20 * (i % 64)
abbrev DMA_CHCNT (i : Nat) : Nat := 0x81008 + 0x20 * (i % 64)
abbrev DMA_CHDEAD (i : Nat) : Nat := 0x8100c + 0x20 * (i % 64)
abbrev DMA_CHBYTLO (i : Nat) : Nat := 0x81010 + 0x20 * (i % 64)
abbrev DMA_CHBYTHI (i : Nat) : Nat := 0x81014 + 0x20 * (i % 64)
abbrev SOR_CFG : Nat := 0x90000
abbrev SOR_GSTAT : Nat := 0x90004
abbrev SOR_WINNS : Nat := 0x90008
abbrev SOR_GRPCFG (i : Nat) : Nat := 0x90100 + 0x10 * (i % 32)
abbrev SOR_GRPMLO (i : Nat) : Nat := 0x90104 + 0x10 * (i % 32)
abbrev SOR_GRPMHI (i : Nat) : Nat := 0x90108 + 0x10 * (i % 32)
abbrev SOR_TGTCFG (i : Nat) : Nat := 0x91000 + 0x20 * (i % 136)
abbrev SOR_TGTSTAT (i : Nat) : Nat := 0x91004 + 0x20 * (i % 136)
abbrev SOR_TGTLOAD (i : Nat) : Nat := 0x91008 + 0x20 * (i % 136)
abbrev SOR_TGTSLOTLO (i : Nat) : Nat := 0x91910 + 0x20 * (i % 64)
abbrev SOR_TGTSLOTHI (i : Nat) : Nat := 0x91914 + 0x20 * (i % 64)
abbrev SOR_QBIND (i : Nat) : Nat := 0x94000 + 4 * (i % 4096)
abbrev SOR_QDEPTH (i : Nat) : Nat := 0x98000 + 8 * (i % 4096)
abbrev SOR_QAGE (i : Nat) : Nat := 0x98004 + 8 * (i % 4096)
abbrev SRF_CTL : Nat := 0xa0000
abbrev SRF_POOLBASE : Nat := 0xa0004
abbrev SRF_POOLLEN : Nat := 0xa0008
abbrev SRF_TBLLEN : Nat := 0xa000c
abbrev SRF_PFCFG : Nat := 0xa0010
abbrev SRF_STAT : Nat := 0xa0014
abbrev SRF_FREEPG : Nat := 0xa0018
abbrev SRF_PFSTAT : Nat := 0xa001c
abbrev SRF_PFLAST : Nat := 0xa0020
abbrev SRF_PFFRM : Nat := 0xa0024
abbrev SRF_RETIRED : Nat := 0xa0028
abbrev SRF_TCMISS : Nat := 0xa002c
abbrev CMP_CTL : Nat := 0xb0000
abbrev CMP_QSTAT : Nat := 0xb0004
abbrev CMP_FCLK : Nat := 0xb0008
abbrev CMP_LERR : Nat := 0xb000c
abbrev CMP_CANCFG (i : Nat) : Nat := 0xb0100 + 0x20 * (i % 4)
abbrev CMP_CANSIZE (i : Nat) : Nat := 0xb0104 + 0x20 * (i % 4)
abbrev CMP_CANBGR (i : Nat) : Nat := 0xb0108 + 0x20 * (i % 4)
abbrev CMP_CANBGG (i : Nat) : Nat := 0xb010c + 0x20 * (i % 4)
abbrev CMP_CANBGB (i : Nat) : Nat := 0xb0110 + 0x20 * (i % 4)
abbrev CMP_CANGAIN (i : Nat) : Nat := 0xb0114 + 0x20 * (i % 4)
abbrev CMP_CANNOW (i : Nat) : Nat := 0xb0118 + 0x20 * (i % 4)
abbrev CMP_LCFG (i : Nat) : Nat := 0xb4000 + 0x80 * (i % 128)
abbrev CMP_LSURF (i : Nat) : Nat := 0xb4004 + 0x80 * (i % 128)
abbrev CMP_LSTRIDE (i : Nat) : Nat := 0xb4008 + 0x80 * (i % 128)
abbrev CMP_LOFSLO (i : Nat) : Nat := 0xb400c + 0x80 * (i % 128)
abbrev CMP_LOFSHI (i : Nat) : Nat := 0xb4010 + 0x80 * (i % 128)
abbrev CMP_LSRCSZ (i : Nat) : Nat := 0xb4014 + 0x80 * (i % 128)
abbrev CMP_LDSTXY (i : Nat) : Nat := 0xb4018 + 0x80 * (i % 128)
abbrev CMP_LDSTSZ (i : Nat) : Nat := 0xb401c + 0x80 * (i % 128)
abbrev CMP_LHSTEP (i : Nat) : Nat := 0xb4020 + 0x80 * (i % 128)
abbrev CMP_LVSTEP (i : Nat) : Nat := 0xb4024 + 0x80 * (i % 128)
abbrev CMP_LMAT0 (i : Nat) : Nat := 0xb4028 + 0x80 * (i % 128)
abbrev CMP_LMAT1 (i : Nat) : Nat := 0xb402c + 0x80 * (i % 128)
abbrev CMP_LMAT2 (i : Nat) : Nat := 0xb4030 + 0x80 * (i % 128)
abbrev CMP_LMAT3 (i : Nat) : Nat := 0xb4034 + 0x80 * (i % 128)
abbrev CMP_LMAT4 (i : Nat) : Nat := 0xb4038 + 0x80 * (i % 128)
abbrev CMP_LGAIN (i : Nat) : Nat := 0xb403c + 0x80 * (i % 128)
abbrev CMP_LFADE (i : Nat) : Nat := 0xb4040 + 0x80 * (i % 128)
abbrev CMP_LNOW (i : Nat) : Nat := 0xb4044 + 0x80 * (i % 128)
abbrev CMP_LHF (i : Nat) : Nat := 0xb4048 + 0x80 * (i % 128)
abbrev FRT_CTL : Nat := 0xc0000
abbrev FRT_COMMIT : Nat := 0xc0004
abbrev FRT_FRAME : Nat := 0xc0008
abbrev FRT_NEXTLAT : Nat := 0xc000c
abbrev FRT_PERNS : Nat := 0xc0010
abbrev FRT_PERFRAC : Nat := 0xc0014
abbrev FRT_LAT : Nat := 0xc0018
abbrev FRT_WIN : Nat := 0xc001c
abbrev FRT_MARGIN : Nat := 0xc0020
abbrev FRT_EFRAME : Nat := 0xc0024
abbrev FRT_ANCHOR : Nat := 0xc0028
abbrev FRT_MSTAT : Nat := 0xc002c
abbrev FRT_USTAT : Nat := 0xc0030
abbrev FRT_UFRM : Nat := 0xc0034
abbrev CHN_CFG : Nat := 0xd0000
abbrev CHN_POSTCODE : Nat := 0xd0004
abbrev CHN_KEYSTAT : Nat := 0xd0008
abbrev CHN_RSTAT : Nat := 0xd000c
abbrev CHN_LSTAT : Nat := 0xd0010
abbrev CHN_INBOX : Nat := 0xd0014
abbrev CHN_INBOXIDX : Nat := 0xd0018
abbrev CHN_KSESS (i : Nat) : Nat := 0xd0020 + 4 * (i % 4)
abbrev CHN_PORTCTL (i : Nat) : Nat := 0xd0100 + 0x40 * (i % 4)
abbrev CHN_PERR (i : Nat) : Nat := 0xd0104 + 0x40 * (i % 4)
abbrev LNK_CFG : Nat := 0xe0000
abbrev LNK_TIMING : Nat := 0xe0004
abbrev LNK_ADAPTCFG : Nat := 0xe0008
abbrev LNK_PCTL (i : Nat) : Nat := 0xe0100 + 0x40 * (i % 4)
abbrev LNK_PSTAT (i : Nat) : Nat := 0xe0104 + 0x40 * (i % 4)
abbrev LNK_PMAP (i : Nat) : Nat := 0xe0108 + 0x40 * (i % 4)
abbrev LNK_PCNT (i : Nat) : Nat := 0xe010c + 0x40 * (i % 4)
abbrev LNK_PERR (i : Nat) : Nat := 0xe0110 + 0x40 * (i % 4)
abbrev LNK_PFEC (i : Nat) : Nat := 0xe0114 + 0x40 * (i % 4)
abbrev LNK_LCTL (i : Nat) : Nat := 0xe1000 + 0x20 * (i % 20)
abbrev LNK_LSTAT (i : Nat) : Nat := 0xe1004 + 0x20 * (i % 20)
abbrev LNK_LPRBS (i : Nat) : Nat := 0xe1008 + 0x20 * (i % 20)
abbrev LNK_LCV (i : Nat) : Nat := 0xe100c + 0x20 * (i % 20)
abbrev LNK_LMARGIN (i : Nat) : Nat := 0xe1010 + 0x20 * (i % 20)
abbrev TIM_CFG : Nat := 0xf0000
abbrev TIM_STAT : Nat := 0xf0004
abbrev TIM_INC : Nat := 0xf0008
abbrev TIM_NOWLO : Nat := 0xf000c
abbrev TIM_NOWFR : Nat := 0xf0010
abbrev TIM_NOWWR : Nat := 0xf0014
abbrev TIM_ADJ : Nat := 0xf0018
abbrev TIM_REFCFG : Nat := 0xf001c
abbrev TIM_REFVAL : Nat := 0xf0020
abbrev TIM_REFPER : Nat := 0xf0024
abbrev TIM_REFPERF : Nat := 0xf0028
abbrev TIM_SYNCCFG : Nat := 0xf002c
abbrev TIM_OFFSET : Nat := 0xf0030
abbrev TIM_SSTAT : Nat := 0xf0034
abbrev TIM_PDLY (i : Nat) : Nat := 0xf0100 + 0x10 * (i % 4)
abbrev TIM_ASYM (i : Nat) : Nat := 0xf0104 + 0x10 * (i % 4)
abbrev TIM_PGCFG (i : Nat) : Nat := 0xf1000 + 0x20 * (i % 16)
abbrev TIM_PGSTART (i : Nat) : Nat := 0xf1004 + 0x20 * (i % 16)
abbrev TIM_PGPER (i : Nat) : Nat := 0xf1008 + 0x20 * (i % 16)
abbrev TIM_PGPERF (i : Nat) : Nat := 0xf100c + 0x20 * (i % 16)
abbrev TIM_PGWID (i : Nat) : Nat := 0xf1010 + 0x20 * (i % 16)
abbrev TIM_PGSTAT (i : Nat) : Nat := 0xf1014 + 0x20 * (i % 16)
abbrev TIM_PGNEXT (i : Nat) : Nat := 0xf1018 + 0x20 * (i % 16)
abbrev TIM_CAPCFG (i : Nat) : Nat := 0xf2000 + 0x10 * (i % 4)
abbrev TIM_CAPLO (i : Nat) : Nat := 0xf2004 + 0x10 * (i % 4)
abbrev TIM_CAPHI (i : Nat) : Nat := 0xf2008 + 0x10 * (i % 4)
abbrev TAN_CFG : Nat := 0x100000
abbrev TAN_CTL : Nat := 0x100004
abbrev TAN_CLAIM : Nat := 0x100008
abbrev TAN_STAT : Nat := 0x10000c
abbrev TAN_PEER : Nat := 0x100010
abbrev TAN_RENUM : Nat := 0x100014
abbrev TAN_SNAPCFG : Nat := 0x100020
abbrev TAN_SNAPSTAT : Nat := 0x100024
abbrev TAN_SNAPGEN : Nat := 0x100028
abbrev TAN_SNAPSEEN : Nat := 0x10002c
abbrev TAN_SNAPLEN : Nat := 0x100030
abbrev TAN_TSTAT : Nat := 0x100100
abbrev TAN_TCLAIM0 : Nat := 0x100104
abbrev TAN_TCLAIM1 : Nat := 0x100108
abbrev LMP_CTL : Nat := 0x110000
abbrev LMP_GEOM : Nat := 0x110004
abbrev LMP_STRM : Nat := 0x110008
abbrev LMP_FSSURF : Nat := 0x11000c
abbrev LMP_CORSURF : Nat := 0x110010
abbrev LMP_SETTEMP0 : Nat := 0x110014
abbrev LMP_SETTEMP1 : Nat := 0x110018
abbrev LMP_TRIM : Nat := 0x11001c
abbrev LMP_DIM : Nat := 0x110020
abbrev LMP_DIMFRM : Nat := 0x110024
abbrev LMP_DIMNOW : Nat := 0x110028
abbrev LMP_CEIL : Nat := 0x11002c
abbrev LMP_MSTAT : Nat := 0x110030
abbrev LMP_MNEED : Nat := 0x110034
abbrev LMP_FSTAT : Nat := 0x110038
abbrev LMP_FRAME : Nat := 0x11003c
abbrev LMP_LASTMISS : Nat := 0x110040
abbrev LMP_ERR : Nat := 0x110044
abbrev LMP_TPCFG : Nat := 0x110048
abbrev LMP_TPVAL : Nat := 0x11004c
abbrev LMP_ZTEMP (i : Nat) : Nat := 0x110100 + 4 * (i % 16)
abbrev LMP_TSCFG (i : Nat) : Nat := 0x111000 + 0x40 * (i % 8)
abbrev LMP_TSOFS (i j : Nat) : Nat := 0x111004 + 0x40 * (i % 8) + 0xc * (j % 4)
abbrev LMP_TSWID (i j : Nat) : Nat := 0x111008 + 0x40 * (i % 8) + 0xc * (j % 4)
abbrev LMP_TSGEN (i j : Nat) : Nat := 0x11100c + 0x40 * (i % 8) + 0xc * (j % 4)
abbrev SPK_CTL : Nat := 0x120000
abbrev SPK_SPKEN : Nat := 0x120004
abbrev SPK_SCAN0 : Nat := 0x120008
abbrev SPK_SCAN1 : Nat := 0x12000c
abbrev SPK_GRPLO : Nat := 0x120010
abbrev SPK_GRPHI : Nat := 0x120014
abbrev SPK_SURF : Nat := 0x120018
abbrev SPK_FDCFG : Nat := 0x12001c
abbrev SPK_FDCTL : Nat := 0x120020
abbrev SPK_FLCNT : Nat := 0x120024
abbrev SPK_FLIDX : Nat := 0x120028
abbrev SPK_FLDATA : Nat := 0x12002c
abbrev SPK_RBSTAT : Nat := 0x120030
abbrev SPK_RBSPK : Nat := 0x120034
abbrev SPK_RBGRP : Nat := 0x120038
abbrev SPK_SPKCFG (i : Nat) : Nat := 0x120100 + 4 * (i % 32)
abbrev SPK_SPKSTAT (i : Nat) : Nat := 0x120180 + 4 * (i % 32)
abbrev DRC_CFG : Nat := 0x130000
abbrev DRC_FSPRATE : Nat := 0x130004
abbrev DRC_CAP : Nat := 0x130008
abbrev DRC_FREQ : Nat := 0x13000c
abbrev DRC_QTGT01 : Nat := 0x130010
abbrev DRC_QTGT23 : Nat := 0x130014
abbrev DRC_REFCFG : Nat := 0x130018
abbrev DRC_QMISS : Nat := 0x13001c
abbrev DRC_REFSTAT : Nat := 0x130020
abbrev DRC_ECCSTAT : Nat := 0x130024
abbrev DRC_UEADDR : Nat := 0x130028
abbrev DRC_HAZSTAT : Nat := 0x13002c
abbrev DRC_CHSTAT (i : Nat) : Nat := 0x130100 + 0x20 * (i % 8)
abbrev DRC_LANE (i j : Nat) : Nat := 0x130104 + 0x20 * (i % 8) + 4 * (j % 4)
abbrev THM_CFG : Nat := 0x140000
abbrev THM_STAT : Nat := 0x140004
abbrev THM_FAIL : Nat := 0x140008
abbrev THM_EXCL : Nat := 0x14000c
abbrev THM_PWR : Nat := 0x140010
abbrev THM_TRIP : Nat := 0x140014
abbrev THM_OD (i : Nat) : Nat := 0x140100 + 4 * (i % 12)
abbrev THM_TD (i : Nat) : Nat := 0x140140 + 4 * (i % 16)
abbrev CAL_CTL : Nat := 0x150000
abbrev CAL_STAT : Nat := 0x150004
abbrev CAL_DCFG : Nat := 0x150008
abbrev CAL_DCNT (i : Nat) : Nat := 0x150200 + 0x10 * (i % 8)
abbrev CAL_DFRM (i : Nat) : Nat := 0x150204 + 0x10 * (i % 8)
abbrev CAL_DTIME (i : Nat) : Nat := 0x150208 + 0x10 * (i % 8)
abbrev CAL_LQUAL (i : Nat) : Nat := 0x151000 + 0x10 * (i % 20)
abbrev CAL_LCNT (i : Nat) : Nat := 0x151004 + 0x10 * (i % 20)
abbrev CAL_LFRM (i : Nat) : Nat := 0x151008 + 0x10 * (i % 20)
abbrev CAL_LTIME (i : Nat) : Nat := 0x15100c + 0x10 * (i % 20)
abbrev SEC_STAT : Nat := 0x160000
abbrev SEC_NONCE (i : Nat) : Nat := 0x160010 + 4 * (i % 4)
abbrev SEC_UID (i : Nat) : Nat := 0x160020 + 4 * (i % 4)
abbrev SEC_MSEL : Nat := 0x160030
abbrev SEC_MDATA : Nat := 0x160034
abbrev SEC_RCPTCFG : Nat := 0x160040
abbrev SEC_RSEQ : Nat := 0x160044
abbrev SEC_CRCCFG : Nat := 0x160050
abbrev SEC_SESSION : Nat := 0x160054
abbrev SEC_CNT : Nat := 0x160060
abbrev UPD_CFG : Nat := 0x170000
abbrev UPD_STAT : Nat := 0x170004
abbrev UPD_CTL : Nat := 0x170008
abbrev UPD_HELD : Nat := 0x17000c
abbrev UPD_AFRAME : Nat := 0x170010
abbrev UPD_TXCFG : Nat := 0x170014
abbrev UPD_BUILD : Nat := 0x170018
abbrev UPD_PKGID (i : Nat) : Nat := 0x170020 + 4 * (i % 4)
abbrev UPD_RECOV : Nat := 0x170030
abbrev NVM_STAT : Nat := 0x180000

end Sys2Proof.Machine.R

namespace Sys2Proof.Machine.F
open Sys2Proof.Machine

abbrev GLB_ROLE_STRAP : Fld := ⟨0x10, 0, 2⟩
abbrev GLB_ROLE_HOSTLESS : Fld := ⟨0x10, 2, 1⟩
abbrev GLB_ROLE_HOLD : Fld := ⟨0x10, 3, 1⟩
abbrev GLB_ROLE_UCIRETRY : Fld := ⟨0x10, 8, 8⟩
abbrev GLB_RSTCAUSE_PWRON : Fld := ⟨0x18, 0, 1⟩
abbrev GLB_RSTCAUSE_RAIL : Fld := ⟨0x18, 1, 1⟩
abbrev GLB_RSTCAUSE_RAILNUM : Fld := ⟨0x18, 2, 4⟩
abbrev GLB_RSTCAUSE_TRIP : Fld := ⟨0x18, 6, 1⟩
abbrev GLB_RSTCAUSE_WARMPIN : Fld := ⟨0x18, 7, 1⟩
abbrev GLB_RSTCAUSE_WARMSW : Fld := ⟨0x18, 8, 1⟩
abbrev GLB_RSTCAUSE_WDOG : Fld := ⟨0x18, 9, 1⟩
abbrev GLB_RSTCAUSE_AONNEW : Fld := ⟨0x18, 10, 1⟩
abbrev GLB_BOOTSTAT_STAGE : Fld := ⟨0x1c, 0, 4⟩
abbrev GLB_BOOTSTAT_SLOT : Fld := ⟨0x1c, 4, 1⟩
abbrev GLB_BOOTSTAT_WARMBOOT : Fld := ⟨0x1c, 5, 1⟩
abbrev GLB_BOOTSTAT_FAILCODE : Fld := ⟨0x1c, 8, 8⟩
abbrev GLB_BOOTSTAT_BOOTMS : Fld := ⟨0x1c, 16, 16⟩
abbrev GLB_ERRLOG_OFFSET : Fld := ⟨0x20, 0, 24⟩
abbrev GLB_ERRLOG_CODE : Fld := ⟨0x20, 24, 8⟩
abbrev GLB_ERRINFO_VALID : Fld := ⟨0x24, 0, 1⟩
abbrev GLB_ERRINFO_OVER : Fld := ⟨0x24, 1, 1⟩
abbrev GLB_ERRINFO_SRC : Fld := ⟨0x24, 2, 2⟩
abbrev GLB_ERRINFO_COUNT : Fld := ⟨0x24, 8, 8⟩
abbrev GLB_BLKRST_BLK : Fld := ⟨0x30, 0, 32⟩
abbrev GLB_WARMRST_KEY : Fld := ⟨0x34, 0, 8⟩
abbrev GLB_YIELDCNT_CNT2 : Fld := ⟨0x40, 0, 8⟩
abbrev GLB_YIELDCNT_CNT3 : Fld := ⟨0x40, 8, 8⟩
abbrev GLB_YIELDCNT_CNT4 : Fld := ⟨0x40, 16, 8⟩
abbrev GLB_YIELDCNT_CNT5 : Fld := ⟨0x40, 24, 8⟩
abbrev GLB_YIELDLAST_WINNER : Fld := ⟨0x44, 0, 3⟩
abbrev GLB_YIELDLAST_LOSER : Fld := ⟨0x44, 4, 3⟩
abbrev GLB_YIELDLAST_BLOCK : Fld := ⟨0x44, 8, 8⟩
abbrev GLB_YIELDLAST_CODE : Fld := ⟨0x44, 16, 8⟩
abbrev GLB_YIELDFRM_FRM : Fld := ⟨0x48, 0, 32⟩
abbrev GLB_RAILSTAT_NOW : Fld := ⟨0x50, 0, 10⟩
abbrev GLB_RAILSTAT_DIP : Fld := ⟨0x50, 16, 10⟩
abbrev GLB_EVTQ_CODE : Fld := ⟨0x60, 0, 16⟩
abbrev GLB_EVTQ_LEVEL : Fld := ⟨0x60, 16, 7⟩
abbrev GLB_EVTQ_VALID : Fld := ⟨0x60, 31, 1⟩
abbrev GLB_EVTTIME_TIME : Fld := ⟨0x64, 0, 32⟩
abbrev GLB_EVTDET0_DET : Fld := ⟨0x68, 0, 32⟩
abbrev GLB_EVTDET1_DET : Fld := ⟨0x6c, 0, 32⟩
abbrev GLB_EVTOVF_COUNT : Fld := ⟨0x70, 0, 16⟩
abbrev CLK_LOCK_REFOK : Fld := ⟨0x10000, 0, 1⟩
abbrev CLK_LOCK_HOLDOVER : Fld := ⟨0x10000, 1, 1⟩
abbrev CLK_LOCK_LOCK : Fld := ⟨0x10000, 2, 8⟩
abbrev CLK_LOCK_UNLOCK : Fld := ⟨0x10000, 16, 8⟩
abbrev CLK_LOCK_REFLOSS : Fld := ⟨0x10000, 24, 1⟩
abbrev HIF_LINKCFG_MODMASK : Fld := ⟨0x20000, 0, 4⟩
abbrev HIF_LINKCFG_MAXRATE : Fld := ⟨0x20000, 4, 3⟩
abbrev HIF_LINKCFG_RETRAIN : Fld := ⟨0x20000, 8, 1⟩
abbrev HIF_LINKSTAT_UP : Fld := ⟨0x20004, 0, 1⟩
abbrev HIF_LINKSTAT_MODS : Fld := ⟨0x20004, 1, 4⟩
abbrev HIF_LINKSTAT_RATE : Fld := ⟨0x20004, 5, 3⟩
abbrev HIF_LINKSTAT_BME : Fld := ⟨0x20004, 8, 1⟩
abbrev HIF_LINKSTAT_DOWNCNT : Fld := ⟨0x20004, 16, 8⟩
abbrev HIF_EVTVEC_VEC : Fld := ⟨0x20008, 0, 11⟩
abbrev HIF_EVTVEC_EN : Fld := ⟨0x20008, 11, 1⟩
abbrev QUE_BASELO_LOW (i : Nat) : Fld := ⟨0x40000 + 0x40 * (i % 4096), 0, 12⟩
abbrev QUE_BASELO_ADDR (i : Nat) : Fld := ⟨0x40000 + 0x40 * (i % 4096), 12, 20⟩
abbrev QUE_BASEHI_ADDR (i : Nat) : Fld := ⟨0x40004 + 0x40 * (i % 4096), 0, 32⟩
abbrev QUE_CFG_SIZE (i : Nat) : Fld := ⟨0x40008 + 0x40 * (i % 4096), 0, 4⟩
abbrev QUE_CFG_LOC (i : Nat) : Fld := ⟨0x40008 + 0x40 * (i % 4096), 4, 1⟩
abbrev QUE_CFG_SRC (i : Nat) : Fld := ⟨0x40008 + 0x40 * (i % 4096), 5, 1⟩
abbrev QUE_CFG_ERRIRQ (i : Nat) : Fld := ⟨0x40008 + 0x40 * (i % 4096), 6, 1⟩
abbrev QUE_CTL_ENABLE (i : Nat) : Fld := ⟨0x4000c + 0x40 * (i % 4096), 0, 1⟩
abbrev QUE_CTL_STOP (i : Nat) : Fld := ⟨0x4000c + 0x40 * (i % 4096), 1, 1⟩
abbrev QUE_CTL_RESUME (i : Nat) : Fld := ⟨0x4000c + 0x40 * (i % 4096), 2, 1⟩
abbrev QUE_STAT_STATE (i : Nat) : Fld := ⟨0x40010 + 0x40 * (i % 4096), 0, 3⟩
abbrev QUE_STAT_CODE (i : Nat) : Fld := ⟨0x40010 + 0x40 * (i % 4096), 8, 8⟩
abbrev QUE_STAT_INFLIGHT (i : Nat) : Fld := ⟨0x40010 + 0x40 * (i % 4096), 16, 16⟩
abbrev QUE_IDX_TAIL (i : Nat) : Fld := ⟨0x40014 + 0x40 * (i % 4096), 0, 16⟩
abbrev QUE_IDX_FETCH (i : Nat) : Fld := ⟨0x40014 + 0x40 * (i % 4096), 16, 16⟩
abbrev QUE_RET_RETIRE (i : Nat) : Fld := ⟨0x40018 + 0x40 * (i % 4096), 0, 16⟩
abbrev QUE_VEC_VEC (i : Nat) : Fld := ⟨0x4001c + 0x40 * (i % 4096), 0, 11⟩
abbrev DMA_TOCFG_TOUS : Fld := ⟨0x80000, 0, 16⟩
abbrev DMA_GSTAT_LATECPL : Fld := ⟨0x80004, 0, 16⟩
abbrev DMA_CHCFG_ENABLE (i : Nat) : Fld := ⟨0x81000 + 0x20 * (i % 64), 0, 1⟩
abbrev DMA_CHCFG_CLASS (i : Nat) : Fld := ⟨0x81000 + 0x20 * (i % 64), 1, 2⟩
abbrev DMA_CHCFG_RATE (i : Nat) : Fld := ⟨0x81000 + 0x20 * (i % 64), 8, 8⟩
abbrev DMA_CHSTAT_STATE (i : Nat) : Fld := ⟨0x81004 + 0x20 * (i % 64), 0, 2⟩
abbrev DMA_CHSTAT_SHADOW (i : Nat) : Fld := ⟨0x81004 + 0x20 * (i % 64), 2, 1⟩
abbrev DMA_CHSTAT_QID (i : Nat) : Fld := ⟨0x81004 + 0x20 * (i % 64), 16, 12⟩
abbrev DMA_CHCNT_CNT (i : Nat) : Fld := ⟨0x81008 + 0x20 * (i % 64), 0, 32⟩
abbrev DMA_CHDEAD_COUNT (i : Nat) : Fld := ⟨0x8100c + 0x20 * (i % 64), 0, 16⟩
abbrev DMA_CHDEAD_LASTCODE (i : Nat) : Fld := ⟨0x8100c + 0x20 * (i % 64), 16, 8⟩
abbrev DMA_CHBYTLO_LO (i : Nat) : Fld := ⟨0x81010 + 0x20 * (i % 64), 0, 32⟩
abbrev DMA_CHBYTHI_HI (i : Nat) : Fld := ⟨0x81014 + 0x20 * (i % 64), 0, 32⟩
abbrev SOR_CFG_WINGEN : Fld := ⟨0x90000, 0, 4⟩
abbrev SOR_CFG_WINEN : Fld := ⟨0x90000, 4, 1⟩
abbrev SOR_CFG_POLLGEN : Fld := ⟨0x90000, 8, 4⟩
abbrev SOR_CFG_POLLEN : Fld := ⟨0x90000, 12, 1⟩
abbrev SOR_GSTAT_PREEMPTS : Fld := ⟨0x90004, 0, 16⟩
abbrev SOR_GSTAT_FULL : Fld := ⟨0x90004, 16, 1⟩
abbrev SOR_GSTAT_LONGWIN : Fld := ⟨0x90004, 17, 1⟩
abbrev SOR_WINNS_NS : Fld := ⟨0x90008, 0, 32⟩
abbrev SOR_GRPCFG_CLASS (i : Nat) : Fld := ⟨0x90100 + 0x10 * (i % 32), 0, 2⟩
abbrev SOR_GRPMLO_MASK (i : Nat) : Fld := ⟨0x90104 + 0x10 * (i % 32), 0, 32⟩
abbrev SOR_GRPMHI_MASK (i : Nat) : Fld := ⟨0x90108 + 0x10 * (i % 32), 0, 32⟩
abbrev SOR_TGTCFG_EN (i : Nat) : Fld := ⟨0x91000 + 0x20 * (i % 136), 0, 1⟩
abbrev SOR_TGTCFG_PREEMPT (i : Nat) : Fld := ⟨0x91000 + 0x20 * (i % 136), 1, 1⟩
abbrev SOR_TGTCFG_VEC (i : Nat) : Fld := ⟨0x91000 + 0x20 * (i % 136), 2, 11⟩
abbrev SOR_TGTCFG_UVEC (i : Nat) : Fld := ⟨0x91000 + 0x20 * (i % 136), 13, 11⟩
abbrev SOR_TGTSTAT_BUSY (i : Nat) : Fld := ⟨0x91004 + 0x20 * (i % 136), 0, 1⟩
abbrev SOR_TGTSTAT_SUSP (i : Nat) : Fld := ⟨0x91004 + 0x20 * (i % 136), 1, 1⟩
abbrev SOR_TGTSTAT_FAULT (i : Nat) : Fld := ⟨0x91004 + 0x20 * (i % 136), 2, 1⟩
abbrev SOR_TGTSTAT_PRIO (i : Nat) : Fld := ⟨0x91004 + 0x20 * (i % 136), 4, 3⟩
abbrev SOR_TGTSTAT_QID (i : Nat) : Fld := ⟨0x91004 + 0x20 * (i % 136), 8, 12⟩
abbrev SOR_TGTSTAT_FCODE (i : Nat) : Fld := ⟨0x91004 + 0x20 * (i % 136), 24, 8⟩
abbrev SOR_TGTLOAD_LOAD (i : Nat) : Fld := ⟨0x91008 + 0x20 * (i % 136), 0, 16⟩
abbrev SOR_TGTSLOTLO_LOW (i : Nat) : Fld := ⟨0x91910 + 0x20 * (i % 64), 0, 7⟩
abbrev SOR_TGTSLOTLO_BASE (i : Nat) : Fld := ⟨0x91910 + 0x20 * (i % 64), 7, 25⟩
abbrev SOR_TGTSLOTHI_BASE (i : Nat) : Fld := ⟨0x91914 + 0x20 * (i % 64), 0, 32⟩
abbrev SOR_QBIND_GROUP (i : Nat) : Fld := ⟨0x94000 + 4 * (i % 4096), 0, 5⟩
abbrev SOR_QBIND_PRIO (i : Nat) : Fld := ⟨0x94000 + 4 * (i % 4096), 8, 3⟩
abbrev SOR_QBIND_SERIAL (i : Nat) : Fld := ⟨0x94000 + 4 * (i % 4096), 12, 1⟩
abbrev SOR_QDEPTH_DEPTH (i : Nat) : Fld := ⟨0x98000 + 8 * (i % 4096), 0, 16⟩
abbrev SOR_QDEPTH_HELD (i : Nat) : Fld := ⟨0x98000 + 8 * (i % 4096), 16, 8⟩
abbrev SOR_QAGE_AGE (i : Nat) : Fld := ⟨0x98004 + 8 * (i % 4096), 0, 32⟩
abbrev SRF_CTL_EN : Fld := ⟨0xa0000, 0, 1⟩
abbrev SRF_POOLBASE_BASE : Fld := ⟨0xa0004, 0, 21⟩
abbrev SRF_POOLLEN_LEN : Fld := ⟨0xa0008, 0, 22⟩
abbrev SRF_TBLLEN_LEN : Fld := ⟨0xa000c, 0, 22⟩
abbrev SRF_PFCFG_LEADUS : Fld := ⟨0xa0010, 0, 16⟩
abbrev SRF_PFCFG_CACHE16 : Fld := ⟨0xa0010, 16, 16⟩
abbrev SRF_STAT_LIVE : Fld := ⟨0xa0014, 0, 17⟩
abbrev SRF_STAT_PEND : Fld := ⟨0xa0014, 17, 13⟩
abbrev SRF_FREEPG_FREE : Fld := ⟨0xa0018, 0, 22⟩
abbrev SRF_PFSTAT_LATE : Fld := ⟨0xa001c, 0, 16⟩
abbrev SRF_PFSTAT_FAIL : Fld := ⟨0xa001c, 16, 16⟩
abbrev SRF_PFLAST_HANDLE : Fld := ⟨0xa0020, 0, 16⟩
abbrev SRF_PFLAST_CODE : Fld := ⟨0xa0020, 16, 8⟩
abbrev SRF_PFFRM_FRAME : Fld := ⟨0xa0024, 0, 32⟩
abbrev SRF_RETIRED_FRAME : Fld := ⟨0xa0028, 0, 32⟩
abbrev SRF_TCMISS_COUNT : Fld := ⟨0xa002c, 0, 32⟩
abbrev CMP_CTL_EN : Fld := ⟨0xb0000, 0, 1⟩
abbrev CMP_QSTAT_STEP : Fld := ⟨0xb0004, 0, 3⟩
abbrev CMP_QSTAT_SHED : Fld := ⟨0xb0004, 8, 8⟩
abbrev CMP_FCLK_CLOCKS : Fld := ⟨0xb0008, 0, 32⟩
abbrev CMP_LERR_LAYER : Fld := ⟨0xb000c, 0, 7⟩
abbrev CMP_LERR_CODE : Fld := ⟨0xb000c, 8, 8⟩
abbrev CMP_LERR_COUNT : Fld := ⟨0xb000c, 16, 16⟩
abbrev CMP_CANCFG_EN (i : Nat) : Fld := ⟨0xb0100 + 0x20 * (i % 4), 0, 1⟩
abbrev CMP_CANCFG_OBITS (i : Nat) : Fld := ⟨0xb0100 + 0x20 * (i % 4), 1, 2⟩
abbrev CMP_CANCFG_ECURVE (i : Nat) : Fld := ⟨0xb0100 + 0x20 * (i % 4), 3, 2⟩
abbrev CMP_CANSIZE_WM1 (i : Nat) : Fld := ⟨0xb0104 + 0x20 * (i % 4), 0, 15⟩
abbrev CMP_CANSIZE_HM1 (i : Nat) : Fld := ⟨0xb0104 + 0x20 * (i % 4), 16, 14⟩
abbrev CMP_CANBGR_LIGHT (i : Nat) : Fld := ⟨0xb0108 + 0x20 * (i % 4), 0, 24⟩
abbrev CMP_CANBGG_LIGHT (i : Nat) : Fld := ⟨0xb010c + 0x20 * (i % 4), 0, 24⟩
abbrev CMP_CANBGB_LIGHT (i : Nat) : Fld := ⟨0xb0110 + 0x20 * (i % 4), 0, 24⟩
abbrev CMP_CANGAIN_TARGET (i : Nat) : Fld := ⟨0xb0114 + 0x20 * (i % 4), 0, 16⟩
abbrev CMP_CANGAIN_FRAMES (i : Nat) : Fld := ⟨0xb0114 + 0x20 * (i % 4), 16, 12⟩
abbrev CMP_CANNOW_GAIN (i : Nat) : Fld := ⟨0xb0118 + 0x20 * (i % 4), 0, 16⟩
abbrev CMP_LCFG_EN (i : Nat) : Fld := ⟨0xb4000 + 0x80 * (i % 128), 0, 1⟩
abbrev CMP_LCFG_FMT (i : Nat) : Fld := ⟨0xb4000 + 0x80 * (i % 128), 1, 4⟩
abbrev CMP_LCFG_YRANGE (i : Nat) : Fld := ⟨0xb4000 + 0x80 * (i % 128), 5, 1⟩
abbrev CMP_LCFG_YMAT (i : Nat) : Fld := ⟨0xb4000 + 0x80 * (i % 128), 6, 1⟩
abbrev CMP_LCFG_ALPHA (i : Nat) : Fld := ⟨0xb4000 + 0x80 * (i % 128), 7, 1⟩
abbrev CMP_LCFG_DCURVE (i : Nat) : Fld := ⟨0xb4000 + 0x80 * (i % 128), 8, 4⟩
abbrev CMP_LCFG_HBANK (i : Nat) : Fld := ⟨0xb4000 + 0x80 * (i % 128), 12, 3⟩
abbrev CMP_LCFG_VBANK (i : Nat) : Fld := ⟨0xb4000 + 0x80 * (i % 128), 15, 3⟩
abbrev CMP_LCFG_WARP (i : Nat) : Fld := ⟨0xb4000 + 0x80 * (i % 128), 18, 1⟩
abbrev CMP_LCFG_GRID (i : Nat) : Fld := ⟨0xb4000 + 0x80 * (i % 128), 19, 3⟩
abbrev CMP_LCFG_SHED (i : Nat) : Fld := ⟨0xb4000 + 0x80 * (i % 128), 22, 1⟩
abbrev CMP_LSURF_HANDLE (i : Nat) : Fld := ⟨0xb4004 + 0x80 * (i % 128), 0, 16⟩
abbrev CMP_LSURF_MESH (i : Nat) : Fld := ⟨0xb4004 + 0x80 * (i % 128), 16, 16⟩
abbrev CMP_LSTRIDE_BYTES (i : Nat) : Fld := ⟨0xb4008 + 0x80 * (i % 128), 0, 24⟩
abbrev CMP_LOFSLO_OFS (i : Nat) : Fld := ⟨0xb400c + 0x80 * (i % 128), 0, 32⟩
abbrev CMP_LOFSHI_OFS (i : Nat) : Fld := ⟨0xb4010 + 0x80 * (i % 128), 0, 10⟩
abbrev CMP_LSRCSZ_SWM1 (i : Nat) : Fld := ⟨0xb4014 + 0x80 * (i % 128), 0, 15⟩
abbrev CMP_LSRCSZ_SHM1 (i : Nat) : Fld := ⟨0xb4014 + 0x80 * (i % 128), 16, 15⟩
abbrev CMP_LDSTXY_DX0 (i : Nat) : Fld := ⟨0xb4018 + 0x80 * (i % 128), 0, 16⟩
abbrev CMP_LDSTXY_DY0 (i : Nat) : Fld := ⟨0xb4018 + 0x80 * (i % 128), 16, 16⟩
abbrev CMP_LDSTSZ_DWM1 (i : Nat) : Fld := ⟨0xb401c + 0x80 * (i % 128), 0, 15⟩
abbrev CMP_LDSTSZ_DHM1 (i : Nat) : Fld := ⟨0xb401c + 0x80 * (i % 128), 16, 15⟩
abbrev CMP_LHSTEP_STEP (i : Nat) : Fld := ⟨0xb4020 + 0x80 * (i % 128), 0, 24⟩
abbrev CMP_LVSTEP_STEP (i : Nat) : Fld := ⟨0xb4024 + 0x80 * (i % 128), 0, 24⟩
abbrev CMP_LMAT0_MLO (i : Nat) : Fld := ⟨0xb4028 + 0x80 * (i % 128), 0, 16⟩
abbrev CMP_LMAT0_MHI (i : Nat) : Fld := ⟨0xb4028 + 0x80 * (i % 128), 16, 16⟩
abbrev CMP_LMAT1_MLO (i : Nat) : Fld := ⟨0xb402c + 0x80 * (i % 128), 0, 16⟩
abbrev CMP_LMAT1_MHI (i : Nat) : Fld := ⟨0xb402c + 0x80 * (i % 128), 16, 16⟩
abbrev CMP_LMAT2_MLO (i : Nat) : Fld := ⟨0xb4030 + 0x80 * (i % 128), 0, 16⟩
abbrev CMP_LMAT2_MHI (i : Nat) : Fld := ⟨0xb4030 + 0x80 * (i % 128), 16, 16⟩
abbrev CMP_LMAT3_MLO (i : Nat) : Fld := ⟨0xb4034 + 0x80 * (i % 128), 0, 16⟩
abbrev CMP_LMAT3_MHI (i : Nat) : Fld := ⟨0xb4034 + 0x80 * (i % 128), 16, 16⟩
abbrev CMP_LMAT4_M22 (i : Nat) : Fld := ⟨0xb4038 + 0x80 * (i % 128), 0, 16⟩
abbrev CMP_LGAIN_TARGET (i : Nat) : Fld := ⟨0xb403c + 0x80 * (i % 128), 0, 16⟩
abbrev CMP_LGAIN_FRAMES (i : Nat) : Fld := ⟨0xb403c + 0x80 * (i % 128), 16, 12⟩
abbrev CMP_LFADE_TARGET (i : Nat) : Fld := ⟨0xb4040 + 0x80 * (i % 128), 0, 16⟩
abbrev CMP_LFADE_FRAMES (i : Nat) : Fld := ⟨0xb4040 + 0x80 * (i % 128), 16, 12⟩
abbrev CMP_LNOW_GAIN (i : Nat) : Fld := ⟨0xb4044 + 0x80 * (i % 128), 0, 16⟩
abbrev CMP_LNOW_FADE (i : Nat) : Fld := ⟨0xb4044 + 0x80 * (i % 128), 16, 16⟩
abbrev CMP_LHF_ONE (i : Nat) : Fld := ⟨0xb4048 + 0x80 * (i % 128), 0, 24⟩
abbrev FRT_CTL_EN : Fld := ⟨0xc0000, 0, 1⟩
abbrev FRT_CTL_GEN : Fld := ⟨0xc0000, 1, 4⟩
abbrev FRT_CTL_QDEPTH : Fld := ⟨0xc0000, 5, 2⟩
abbrev FRT_COMMIT_GO : Fld := ⟨0xc0004, 0, 1⟩
abbrev FRT_COMMIT_ARMED : Fld := ⟨0xc0004, 1, 1⟩
abbrev FRT_FRAME_FRAME : Fld := ⟨0xc0008, 0, 32⟩
abbrev FRT_NEXTLAT_FRAME : Fld := ⟨0xc000c, 0, 32⟩
abbrev FRT_PERNS_NS : Fld := ⟨0xc0010, 0, 32⟩
abbrev FRT_PERFRAC_FRAC : Fld := ⟨0xc0014, 0, 24⟩
abbrev FRT_LAT_NS : Fld := ⟨0xc0018, 0, 32⟩
abbrev FRT_WIN_NS : Fld := ⟨0xc001c, 0, 32⟩
abbrev FRT_MARGIN_NS : Fld := ⟨0xc0020, 0, 32⟩
abbrev FRT_EFRAME_FRAME : Fld := ⟨0xc0024, 0, 32⟩
abbrev FRT_ANCHOR_TIME : Fld := ⟨0xc0028, 0, 32⟩
abbrev FRT_MSTAT_NSLOTM1 : Fld := ⟨0xc002c, 0, 2⟩
abbrev FRT_MSTAT_TSET : Fld := ⟨0xc002c, 2, 3⟩
abbrev FRT_MSTAT_PEND : Fld := ⟨0xc002c, 5, 1⟩
abbrev FRT_MSTAT_MGEN : Fld := ⟨0xc002c, 8, 8⟩
abbrev FRT_MSTAT_LATE : Fld := ⟨0xc002c, 16, 1⟩
abbrev FRT_USTAT_COUNT : Fld := ⟨0xc0030, 0, 16⟩
abbrev FRT_USTAT_CODE : Fld := ⟨0xc0030, 16, 8⟩
abbrev FRT_USTAT_CAUSE : Fld := ⟨0xc0030, 24, 2⟩
abbrev FRT_UFRM_FRAME : Fld := ⟨0xc0034, 0, 32⟩
abbrev CHN_CFG_SEALLET : Fld := ⟨0xd0000, 0, 1⟩
abbrev CHN_CFG_SEALRUN : Fld := ⟨0xd0000, 1, 1⟩
abbrev CHN_CFG_LETTERTO : Fld := ⟨0xd0000, 8, 8⟩
abbrev CHN_POSTCODE_POSTCODE : Fld := ⟨0xd0004, 0, 16⟩
abbrev CHN_POSTCODE_VALID : Fld := ⟨0xd0004, 16, 1⟩
abbrev CHN_POSTCODE_SRC : Fld := ⟨0xd0004, 17, 1⟩
abbrev CHN_KEYSTAT_VALID : Fld := ⟨0xd0008, 0, 4⟩
abbrev CHN_KEYSTAT_INUSE : Fld := ⟨0xd0008, 4, 4⟩
abbrev CHN_RSTAT_NOKEY : Fld := ⟨0xd000c, 0, 8⟩
abbrev CHN_RSTAT_STALE : Fld := ⟨0xd000c, 8, 8⟩
abbrev CHN_RSTAT_TAGFAIL : Fld := ⟨0xd000c, 16, 8⟩
abbrev CHN_RSTAT_BADRUN : Fld := ⟨0xd000c, 24, 8⟩
abbrev CHN_LSTAT_REFUSED : Fld := ⟨0xd0010, 0, 8⟩
abbrev CHN_LSTAT_REASMTO : Fld := ⟨0xd0010, 8, 8⟩
abbrev CHN_LSTAT_INBOXFULL : Fld := ⟨0xd0010, 16, 8⟩
abbrev CHN_LSTAT_NOPORT : Fld := ⟨0xd0010, 24, 8⟩
abbrev CHN_INBOX_HANDLE : Fld := ⟨0xd0014, 0, 16⟩
abbrev CHN_INBOX_EN : Fld := ⟨0xd0014, 16, 1⟩
abbrev CHN_INBOX_SIZE : Fld := ⟨0xd0014, 17, 4⟩
abbrev CHN_INBOX_VEC : Fld := ⟨0xd0014, 21, 11⟩
abbrev CHN_INBOXIDX_WR : Fld := ⟨0xd0018, 0, 16⟩
abbrev CHN_INBOXIDX_RD : Fld := ⟨0xd0018, 16, 16⟩
abbrev CHN_KSESS_SESS (i : Nat) : Fld := ⟨0xd0020 + 4 * (i % 4), 0, 32⟩
abbrev CHN_PORTCTL_CHAIN (i : Nat) : Fld := ⟨0xd0100 + 0x40 * (i % 4), 0, 4⟩
abbrev CHN_PORTCTL_END (i : Nat) : Fld := ⟨0xd0100 + 0x40 * (i % 4), 4, 1⟩
abbrev CHN_PORTCTL_CLKMODE (i : Nat) : Fld := ⟨0xd0100 + 0x40 * (i % 4), 5, 1⟩
abbrev CHN_PORTCTL_HEADFACE (i : Nat) : Fld := ⟨0xd0100 + 0x40 * (i % 4), 6, 1⟩
abbrev CHN_PORTCTL_IDLE16 (i : Nat) : Fld := ⟨0xd0100 + 0x40 * (i % 4), 7, 4⟩
abbrev CHN_PERR_BADHDR (i : Nat) : Fld := ⟨0xd0104 + 0x40 * (i % 4), 0, 8⟩
abbrev CHN_PERR_CAND (i : Nat) : Fld := ⟨0xd0104 + 0x40 * (i % 4), 8, 8⟩
abbrev CHN_PERR_MISADDR (i : Nat) : Fld := ⟨0xd0104 + 0x40 * (i % 4), 16, 8⟩
abbrev CHN_PERR_DROP (i : Nat) : Fld := ⟨0xd0104 + 0x40 * (i % 4), 24, 8⟩
abbrev LNK_CFG_RATE : Fld := ⟨0xe0000, 0, 2⟩
abbrev LNK_CFG_CLKMODE : Fld := ⟨0xe0000, 2, 1⟩
abbrev LNK_CFG_CDRBW : Fld := ⟨0xe0000, 3, 2⟩
abbrev LNK_TIMING_SRC : Fld := ⟨0xe0004, 0, 3⟩
abbrev LNK_TIMING_SWITCHES : Fld := ⟨0xe0004, 8, 8⟩
abbrev LNK_ADAPTCFG_MINEW : Fld := ⟨0xe0008, 0, 6⟩
abbrev LNK_ADAPTCFG_MINEH : Fld := ⟨0xe0008, 8, 8⟩
abbrev LNK_PCTL_EN (i : Nat) : Fld := ⟨0xe0100 + 0x40 * (i % 4), 0, 1⟩
abbrev LNK_PCTL_RETRAIN (i : Nat) : Fld := ⟨0xe0100 + 0x40 * (i % 4), 1, 1⟩
abbrev LNK_PCTL_TEST (i : Nat) : Fld := ⟨0xe0100 + 0x40 * (i % 4), 2, 1⟩
abbrev LNK_PCTL_PRESET (i : Nat) : Fld := ⟨0xe0100 + 0x40 * (i % 4), 8, 3⟩
abbrev LNK_PSTAT_STATE (i : Nat) : Fld := ⟨0xe0104 + 0x40 * (i % 4), 0, 4⟩
abbrev LNK_PSTAT_FAILSTAGE (i : Nat) : Fld := ⟨0xe0104 + 0x40 * (i % 4), 4, 4⟩
abbrev LNK_PSTAT_CODE (i : Nat) : Fld := ⟨0xe0104 + 0x40 * (i % 4), 8, 8⟩
abbrev LNK_PSTAT_PMODE (i : Nat) : Fld := ⟨0xe0104 + 0x40 * (i % 4), 16, 8⟩
abbrev LNK_PSTAT_NEWPART (i : Nat) : Fld := ⟨0xe0104 + 0x40 * (i % 4), 24, 1⟩
abbrev LNK_PMAP_REV (i : Nat) : Fld := ⟨0xe0108 + 0x40 * (i % 4), 0, 1⟩
abbrev LNK_PMAP_INV (i : Nat) : Fld := ⟨0xe0108 + 0x40 * (i % 4), 1, 5⟩
abbrev LNK_PMAP_SPARED (i : Nat) : Fld := ⟨0xe0108 + 0x40 * (i % 4), 6, 1⟩
abbrev LNK_PMAP_SPAREFOR (i : Nat) : Fld := ⟨0xe0108 + 0x40 * (i % 4), 7, 2⟩
abbrev LNK_PMAP_NOPAN (i : Nat) : Fld := ⟨0xe0108 + 0x40 * (i % 4), 9, 1⟩
abbrev LNK_PMAP_PANSRC (i : Nat) : Fld := ⟨0xe0108 + 0x40 * (i % 4), 10, 2⟩
abbrev LNK_PMAP_PANSEL (i : Nat) : Fld := ⟨0xe0108 + 0x40 * (i % 4), 12, 1⟩
abbrev LNK_PMAP_SKEW (i : Nat) : Fld := ⟨0xe0108 + 0x40 * (i % 4), 16, 8⟩
abbrev LNK_PCNT_UPS (i : Nat) : Fld := ⟨0xe010c + 0x40 * (i % 4), 0, 8⟩
abbrev LNK_PCNT_DOWNS (i : Nat) : Fld := ⟨0xe010c + 0x40 * (i % 4), 8, 8⟩
abbrev LNK_PCNT_FAILS (i : Nat) : Fld := ⟨0xe010c + 0x40 * (i % 4), 16, 8⟩
abbrev LNK_PERR_ERRCW (i : Nat) : Fld := ⟨0xe0110 + 0x40 * (i % 4), 0, 16⟩
abbrev LNK_PERR_RUNT (i : Nat) : Fld := ⟨0xe0110 + 0x40 * (i % 4), 16, 8⟩
abbrev LNK_PERR_SLIP (i : Nat) : Fld := ⟨0xe0110 + 0x40 * (i % 4), 24, 8⟩
abbrev LNK_PFEC_CORR (i : Nat) : Fld := ⟨0xe0114 + 0x40 * (i % 4), 0, 16⟩
abbrev LNK_PFEC_UNCORR (i : Nat) : Fld := ⟨0xe0114 + 0x40 * (i % 4), 16, 16⟩
abbrev LNK_LCTL_GEN (i : Nat) : Fld := ⟨0xe1000 + 0x20 * (i % 20), 0, 2⟩
abbrev LNK_LCTL_CHK (i : Nat) : Fld := ⟨0xe1000 + 0x20 * (i % 20), 2, 2⟩
abbrev LNK_LCTL_INJ (i : Nat) : Fld := ⟨0xe1000 + 0x20 * (i % 20), 4, 1⟩
abbrev LNK_LCTL_INJRATE (i : Nat) : Fld := ⟨0xe1000 + 0x20 * (i % 20), 5, 3⟩
abbrev LNK_LCTL_NELB (i : Nat) : Fld := ⟨0xe1000 + 0x20 * (i % 20), 8, 1⟩
abbrev LNK_LCTL_FELB (i : Nat) : Fld := ⟨0xe1000 + 0x20 * (i % 20), 9, 1⟩
abbrev LNK_LSTAT_CDR (i : Nat) : Fld := ⟨0xe1004 + 0x20 * (i % 20), 0, 1⟩
abbrev LNK_LSTAT_ALIGN (i : Nat) : Fld := ⟨0xe1004 + 0x20 * (i % 20), 1, 1⟩
abbrev LNK_LSTAT_LOGICAL (i : Nat) : Fld := ⟨0xe1004 + 0x20 * (i % 20), 2, 3⟩
abbrev LNK_LSTAT_PRBSLOCK (i : Nat) : Fld := ⟨0xe1004 + 0x20 * (i % 20), 5, 1⟩
abbrev LNK_LSTAT_FROZEN (i : Nat) : Fld := ⟨0xe1004 + 0x20 * (i % 20), 6, 1⟩
abbrev LNK_LSTAT_REVERTS (i : Nat) : Fld := ⟨0xe1004 + 0x20 * (i % 20), 8, 8⟩
abbrev LNK_LPRBS_ERR (i : Nat) : Fld := ⟨0xe1008 + 0x20 * (i % 20), 0, 32⟩
abbrev LNK_LCV_CV (i : Nat) : Fld := ⟨0xe100c + 0x20 * (i % 20), 0, 16⟩
abbrev LNK_LCV_DISP (i : Nat) : Fld := ⟨0xe100c + 0x20 * (i % 20), 16, 16⟩
abbrev LNK_LMARGIN_EW (i : Nat) : Fld := ⟨0xe1010 + 0x20 * (i % 20), 0, 6⟩
abbrev LNK_LMARGIN_EH (i : Nat) : Fld := ⟨0xe1010 + 0x20 * (i % 20), 8, 8⟩
abbrev TIM_CFG_ROLE : Fld := ⟨0xf0000, 0, 1⟩
abbrev TIM_CFG_DISC : Fld := ⟨0xf0000, 1, 2⟩
abbrev TIM_CFG_FPORT : Fld := ⟨0xf0000, 3, 2⟩
abbrev TIM_CFG_CADGEN : Fld := ⟨0xf0000, 5, 4⟩
abbrev TIM_STAT_STATE : Fld := ⟨0xf0004, 0, 2⟩
abbrev TIM_STAT_SPORT : Fld := ⟨0xf0004, 2, 3⟩
abbrev TIM_STAT_REFHOLD : Fld := ⟨0xf0004, 5, 1⟩
abbrev TIM_STAT_WRAPFIX : Fld := ⟨0xf0004, 6, 1⟩
abbrev TIM_STAT_STEPS : Fld := ⟨0xf0004, 8, 8⟩
abbrev TIM_STAT_HOLDMS : Fld := ⟨0xf0004, 16, 16⟩
abbrev TIM_INC_INC : Fld := ⟨0xf0008, 0, 32⟩
abbrev TIM_NOWLO_NS : Fld := ⟨0xf000c, 0, 32⟩
abbrev TIM_NOWFR_FRAC : Fld := ⟨0xf0010, 0, 28⟩
abbrev TIM_NOWWR_WRAPS : Fld := ⟨0xf0014, 0, 32⟩
abbrev TIM_ADJ_STEP : Fld := ⟨0xf0018, 0, 32⟩
abbrev TIM_REFCFG_ARM : Fld := ⟨0xf001c, 0, 1⟩
abbrev TIM_REFCFG_ARMED : Fld := ⟨0xf001c, 1, 1⟩
abbrev TIM_REFCFG_FALL : Fld := ⟨0xf001c, 2, 1⟩
abbrev TIM_REFCFG_REFDLY : Fld := ⟨0xf001c, 4, 16⟩
abbrev TIM_REFVAL_VAL : Fld := ⟨0xf0020, 0, 32⟩
abbrev TIM_REFPER_NS : Fld := ⟨0xf0024, 0, 32⟩
abbrev TIM_REFPERF_FRAC : Fld := ⟨0xf0028, 0, 24⟩
abbrev TIM_SYNCCFG_SYNCGEN : Fld := ⟨0xf002c, 0, 4⟩
abbrev TIM_SYNCCFG_SYNCEN : Fld := ⟨0xf002c, 4, 1⟩
abbrev TIM_SYNCCFG_BW : Fld := ⟨0xf002c, 5, 2⟩
abbrev TIM_SYNCCFG_PDINT : Fld := ⟨0xf002c, 8, 8⟩
abbrev TIM_SYNCCFG_LOSSUS : Fld := ⟨0xf002c, 16, 16⟩
abbrev TIM_OFFSET_OFS : Fld := ⟨0xf0030, 0, 32⟩
abbrev TIM_SSTAT_OUTLIER : Fld := ⟨0xf0034, 0, 8⟩
abbrev TIM_SSTAT_PDLOST : Fld := ⟨0xf0034, 8, 8⟩
abbrev TIM_SSTAT_WRAPFIX : Fld := ⟨0xf0034, 16, 8⟩
abbrev TIM_SSTAT_SYNCDROP : Fld := ⟨0xf0034, 24, 8⟩
abbrev TIM_PDLY_DELAY (i : Nat) : Fld := ⟨0xf0100 + 0x10 * (i % 4), 0, 24⟩
abbrev TIM_PDLY_COUNT (i : Nat) : Fld := ⟨0xf0100 + 0x10 * (i % 4), 24, 5⟩
abbrev TIM_ASYM_ASYM (i : Nat) : Fld := ⟨0xf0104 + 0x10 * (i % 4), 0, 16⟩
abbrev TIM_PGCFG_EN (i : Nat) : Fld := ⟨0xf1000 + 0x20 * (i % 16), 0, 1⟩
abbrev TIM_PGCFG_PERIODIC (i : Nat) : Fld := ⟨0xf1000 + 0x20 * (i % 16), 1, 1⟩
abbrev TIM_PGCFG_POL (i : Nat) : Fld := ⟨0xf1000 + 0x20 * (i % 16), 2, 1⟩
abbrev TIM_PGCFG_IRQ (i : Nat) : Fld := ⟨0xf1000 + 0x20 * (i % 16), 3, 1⟩
abbrev TIM_PGCFG_OWNED (i : Nat) : Fld := ⟨0xf1000 + 0x20 * (i % 16), 4, 1⟩
abbrev TIM_PGSTART_S (i : Nat) : Fld := ⟨0xf1004 + 0x20 * (i % 16), 0, 32⟩
abbrev TIM_PGPER_PER (i : Nat) : Fld := ⟨0xf1008 + 0x20 * (i % 16), 0, 32⟩
abbrev TIM_PGPERF_PERF (i : Nat) : Fld := ⟨0xf100c + 0x20 * (i % 16), 0, 24⟩
abbrev TIM_PGWID_WID (i : Nat) : Fld := ⟨0xf1010 + 0x20 * (i % 16), 0, 24⟩
abbrev TIM_PGSTAT_COUNT (i : Nat) : Fld := ⟨0xf1014 + 0x20 * (i % 16), 0, 16⟩
abbrev TIM_PGSTAT_SKIP (i : Nat) : Fld := ⟨0xf1014 + 0x20 * (i % 16), 16, 8⟩
abbrev TIM_PGSTAT_LATE (i : Nat) : Fld := ⟨0xf1014 + 0x20 * (i % 16), 24, 1⟩
abbrev TIM_PGNEXT_NEXT (i : Nat) : Fld := ⟨0xf1018 + 0x20 * (i % 16), 0, 32⟩
abbrev TIM_CAPCFG_EN (i : Nat) : Fld := ⟨0xf2000 + 0x10 * (i % 4), 0, 1⟩
abbrev TIM_CAPCFG_EDGE (i : Nat) : Fld := ⟨0xf2000 + 0x10 * (i % 4), 1, 2⟩
abbrev TIM_CAPCFG_EVT (i : Nat) : Fld := ⟨0xf2000 + 0x10 * (i % 4), 3, 1⟩
abbrev TIM_CAPCFG_OVF (i : Nat) : Fld := ⟨0xf2000 + 0x10 * (i % 4), 8, 8⟩
abbrev TIM_CAPCFG_GLITCH (i : Nat) : Fld := ⟨0xf2000 + 0x10 * (i % 4), 16, 8⟩
abbrev TIM_CAPCFG_LEVEL (i : Nat) : Fld := ⟨0xf2000 + 0x10 * (i % 4), 24, 5⟩
abbrev TIM_CAPLO_NS (i : Nat) : Fld := ⟨0xf2004 + 0x10 * (i % 4), 0, 32⟩
abbrev TIM_CAPHI_FR8 (i : Nat) : Fld := ⟨0xf2008 + 0x10 * (i % 4), 0, 3⟩
abbrev TIM_CAPHI_FALL (i : Nat) : Fld := ⟨0xf2008 + 0x10 * (i % 4), 3, 1⟩
abbrev TIM_CAPHI_WRAPS (i : Nat) : Fld := ⟨0xf2008 + 0x10 * (i % 4), 4, 8⟩
abbrev TIM_CAPHI_VALID (i : Nat) : Fld := ⟨0xf2008 + 0x10 * (i % 4), 12, 1⟩
abbrev TAN_CFG_EN : Fld := ⟨0x100000, 0, 1⟩
abbrev TAN_CFG_PREF : Fld := ⟨0x100000, 1, 1⟩
abbrev TAN_CFG_REVERT : Fld := ⟨0x100000, 2, 1⟩
abbrev TAN_CFG_HBGEN : Fld := ⟨0x100000, 3, 4⟩
abbrev TAN_CFG_RANK : Fld := ⟨0x100000, 8, 8⟩
abbrev TAN_CFG_HOLDS : Fld := ⟨0x100000, 16, 12⟩
abbrev TAN_CTL_TAKE : Fld := ⟨0x100004, 0, 1⟩
abbrev TAN_CTL_HOLD : Fld := ⟨0x100004, 1, 1⟩
abbrev TAN_CLAIM_RANK : Fld := ⟨0x100008, 0, 8⟩
abbrev TAN_CLAIM_EPOCH : Fld := ⟨0x100008, 8, 24⟩
abbrev TAN_STAT_STATE : Fld := ⟨0x10000c, 0, 2⟩
abbrev TAN_STAT_PEERLOST : Fld := ⟨0x10000c, 2, 1⟩
abbrev TAN_STAT_NOTAKE : Fld := ⟨0x10000c, 3, 1⟩
abbrev TAN_STAT_CLASH : Fld := ⟨0x10000c, 4, 1⟩
abbrev TAN_STAT_PEERPORTS : Fld := ⟨0x10000c, 8, 4⟩
abbrev TAN_STAT_ACTPORTS : Fld := ⟨0x10000c, 12, 4⟩
abbrev TAN_STAT_TAKEOVERS : Fld := ⟨0x10000c, 16, 8⟩
abbrev TAN_STAT_HOLDLEFT : Fld := ⟨0x10000c, 24, 8⟩
abbrev TAN_PEER_CLAIM : Fld := ⟨0x100010, 0, 32⟩
abbrev TAN_RENUM_EPOCH : Fld := ⟨0x100014, 8, 24⟩
abbrev TAN_SNAPCFG_HANDLE : Fld := ⟨0x100020, 0, 16⟩
abbrev TAN_SNAPCFG_SIZEM1 : Fld := ⟨0x100020, 16, 8⟩
abbrev TAN_SNAPCFG_RXEN : Fld := ⟨0x100020, 24, 1⟩
abbrev TAN_SNAPSTAT_BANK : Fld := ⟨0x100024, 0, 1⟩
abbrev TAN_SNAPSTAT_VALID : Fld := ⟨0x100024, 1, 1⟩
abbrev TAN_SNAPSTAT_STAGING : Fld := ⟨0x100024, 2, 1⟩
abbrev TAN_SNAPSTAT_FAILS : Fld := ⟨0x100024, 8, 8⟩
abbrev TAN_SNAPSTAT_GAP : Fld := ⟨0x100024, 16, 16⟩
abbrev TAN_SNAPGEN_GEN : Fld := ⟨0x100028, 0, 32⟩
abbrev TAN_SNAPSEEN_GEN : Fld := ⟨0x10002c, 0, 32⟩
abbrev TAN_SNAPLEN_LEN : Fld := ⟨0x100030, 0, 25⟩
abbrev TAN_TSTAT_ACCPORT : Fld := ⟨0x100100, 0, 2⟩
abbrev TAN_TSTAT_LIVE0 : Fld := ⟨0x100100, 2, 1⟩
abbrev TAN_TSTAT_LIVE1 : Fld := ⟨0x100100, 3, 1⟩
abbrev TAN_TSTAT_SWITCHES : Fld := ⟨0x100100, 8, 8⟩
abbrev TAN_TSTAT_NONE : Fld := ⟨0x100100, 16, 8⟩
abbrev TAN_TCLAIM0_CLAIM : Fld := ⟨0x100104, 0, 32⟩
abbrev TAN_TCLAIM1_CLAIM : Fld := ⟨0x100108, 0, 32⟩
abbrev LMP_CTL_EN : Fld := ⟨0x110000, 0, 1⟩
abbrev LMP_CTL_FSBUF : Fld := ⟨0x110000, 1, 2⟩
abbrev LMP_CTL_UNLOCKED : Fld := ⟨0x110000, 3, 1⟩
abbrev LMP_CTL_DITHER : Fld := ⟨0x110000, 4, 1⟩
abbrev LMP_CTL_HOLDF : Fld := ⟨0x110000, 8, 8⟩
abbrev LMP_GEOM_TWM1 : Fld := ⟨0x110004, 0, 12⟩
abbrev LMP_GEOM_THM1 : Fld := ⟨0x110004, 12, 12⟩
abbrev LMP_GEOM_NOUTM1 : Fld := ⟨0x110004, 24, 2⟩
abbrev LMP_STRM_OBITS : Fld := ⟨0x110008, 0, 8⟩
abbrev LMP_FSSURF_HANDLE : Fld := ⟨0x11000c, 0, 16⟩
abbrev LMP_CORSURF_HANDLE : Fld := ⟨0x110010, 0, 16⟩
abbrev LMP_SETTEMP0_TA : Fld := ⟨0x110014, 0, 16⟩
abbrev LMP_SETTEMP0_TB : Fld := ⟨0x110014, 16, 16⟩
abbrev LMP_SETTEMP1_TC : Fld := ⟨0x110018, 0, 16⟩
abbrev LMP_TRIM_KS : Fld := ⟨0x11001c, 0, 5⟩
abbrev LMP_DIM_TARGET : Fld := ⟨0x110020, 0, 16⟩
abbrev LMP_DIM_FRAMES : Fld := ⟨0x110020, 16, 12⟩
abbrev LMP_DIMFRM_F0 : Fld := ⟨0x110024, 0, 32⟩
abbrev LMP_DIMNOW_DIM : Fld := ⟨0x110028, 0, 16⟩
abbrev LMP_DIMNOW_LATE : Fld := ⟨0x110028, 16, 1⟩
abbrev LMP_CEIL_CEIL : Fld := ⟨0x11002c, 0, 6⟩
abbrev LMP_MSTAT_MODE : Fld := ⟨0x110030, 0, 1⟩
abbrev LMP_MSTAT_TSET : Fld := ⟨0x110030, 1, 3⟩
abbrev LMP_MSTAT_NSLOTM1 : Fld := ⟨0x110030, 4, 2⟩
abbrev LMP_MSTAT_LATE : Fld := ⟨0x110030, 6, 1⟩
abbrev LMP_MSTAT_CODE : Fld := ⟨0x110030, 8, 8⟩
abbrev LMP_MSTAT_CUT : Fld := ⟨0x110030, 16, 8⟩
abbrev LMP_MNEED_NS : Fld := ⟨0x110034, 0, 32⟩
abbrev LMP_FSTAT_MISS : Fld := ⟨0x110038, 0, 8⟩
abbrev LMP_FSTAT_LATEDONE : Fld := ⟨0x110038, 8, 8⟩
abbrev LMP_FSTAT_ABORT : Fld := ⟨0x110038, 16, 8⟩
abbrev LMP_FSTAT_NOBUF : Fld := ⟨0x110038, 24, 8⟩
abbrev LMP_FRAME_FRAME : Fld := ⟨0x11003c, 0, 32⟩
abbrev LMP_LASTMISS_FRAME : Fld := ⟨0x110040, 0, 32⟩
abbrev LMP_ERR_RDERR : Fld := ⟨0x110044, 0, 16⟩
abbrev LMP_ERR_SLOTLATE : Fld := ⟨0x110044, 16, 8⟩
abbrev LMP_TPCFG_PAT : Fld := ⟨0x110048, 0, 3⟩
abbrev LMP_TPCFG_INJ : Fld := ⟨0x110048, 3, 1⟩
abbrev LMP_TPCFG_MASK : Fld := ⟨0x110048, 4, 4⟩
abbrev LMP_TPCFG_LOC : Fld := ⟨0x110048, 8, 1⟩
abbrev LMP_TPCFG_SELF : Fld := ⟨0x110048, 9, 1⟩
abbrev LMP_TPVAL_LIGHT : Fld := ⟨0x11004c, 0, 24⟩
abbrev LMP_ZTEMP_TEMP (i : Nat) : Fld := ⟨0x110100 + 4 * (i % 16), 0, 16⟩
abbrev LMP_ZTEMP_FAILED (i : Nat) : Fld := ⟨0x110100 + 4 * (i % 16), 16, 1⟩
abbrev LMP_TSCFG_STEP (i : Nat) : Fld := ⟨0x111000 + 0x40 * (i % 8), 0, 7⟩
abbrev LMP_TSCFG_GRMAX (i : Nat) : Fld := ⟨0x111000 + 0x40 * (i % 8), 7, 2⟩
abbrev LMP_TSOFS_NS (i j : Nat) : Fld := ⟨0x111004 + 0x40 * (i % 8) + 0xc * (j % 4), 0, 26⟩
abbrev LMP_TSWID_NS (i j : Nat) : Fld := ⟨0x111008 + 0x40 * (i % 8) + 0xc * (j % 4), 0, 26⟩
abbrev LMP_TSGEN_STREAM (i j : Nat) : Fld := ⟨0x11100c + 0x40 * (i % 8) + 0xc * (j % 4), 0, 2⟩
abbrev LMP_TSGEN_GMAX (i j : Nat) : Fld := ⟨0x11100c + 0x40 * (i % 8) + 0xc * (j % 4), 16, 16⟩
abbrev SPK_CTL_EN : Fld := ⟨0x120000, 0, 1⟩
abbrev SPK_CTL_PROBEEN : Fld := ⟨0x120000, 1, 1⟩
abbrev SPK_CTL_RBDARK : Fld := ⟨0x120000, 2, 1⟩
abbrev SPK_CTL_RELOAD : Fld := ⟨0x120000, 3, 1⟩
abbrev SPK_CTL_RATE : Fld := ⟨0x120000, 8, 8⟩
abbrev SPK_SPKEN_EN : Fld := ⟨0x120004, 0, 32⟩
abbrev SPK_SCAN0_DM1 : Fld := ⟨0x120008, 0, 7⟩
abbrev SPK_SCAN0_NPM1 : Fld := ⟨0x120008, 8, 8⟩
abbrev SPK_SCAN0_STAG : Fld := ⟨0x120008, 16, 7⟩
abbrev SPK_SCAN0_GRPEN : Fld := ⟨0x120008, 24, 4⟩
abbrev SPK_SCAN1_BLANKM1 : Fld := ⟨0x12000c, 0, 8⟩
abbrev SPK_SCAN1_DIS : Fld := ⟨0x12000c, 8, 8⟩
abbrev SPK_SCAN1_PRE : Fld := ⟨0x12000c, 16, 8⟩
abbrev SPK_SCAN1_PW : Fld := ⟨0x12000c, 24, 8⟩
abbrev SPK_GRPLO_GRP : Fld := ⟨0x120010, 0, 32⟩
abbrev SPK_GRPHI_GRP : Fld := ⟨0x120014, 0, 32⟩
abbrev SPK_SURF_MAP : Fld := ⟨0x120018, 0, 16⟩
abbrev SPK_SURF_ICODE : Fld := ⟨0x120018, 16, 16⟩
abbrev SPK_FDCFG_FDEN : Fld := ⟨0x12001c, 0, 1⟩
abbrev SPK_FDCFG_NFDL : Fld := ⟨0x12001c, 1, 4⟩
abbrev SPK_FDCFG_FDSLOT : Fld := ⟨0x12001c, 5, 2⟩
abbrev SPK_FDCFG_AUTOMASK : Fld := ⟨0x12001c, 7, 1⟩
abbrev SPK_FDCTL_CLEAR : Fld := ⟨0x120020, 0, 1⟩
abbrev SPK_FLCNT_COUNT : Fld := ⟨0x120024, 0, 11⟩
abbrev SPK_FLCNT_OVF : Fld := ⟨0x120024, 11, 1⟩
abbrev SPK_FLCNT_DETS : Fld := ⟨0x120024, 16, 16⟩
abbrev SPK_FLIDX_IDX : Fld := ⟨0x120028, 0, 10⟩
abbrev SPK_FLDATA_ENTRY : Fld := ⟨0x12002c, 0, 32⟩
abbrev SPK_RBSTAT_MISM : Fld := ⟨0x120030, 0, 16⟩
abbrev SPK_RBSPK_SPK : Fld := ⟨0x120034, 0, 32⟩
abbrev SPK_RBGRP_GRP : Fld := ⟨0x120038, 0, 4⟩
abbrev SPK_SPKCFG_NDM1 (i : Nat) : Fld := ⟨0x120100 + 4 * (i % 32), 0, 5⟩
abbrev SPK_SPKCFG_NCH (i : Nat) : Fld := ⟨0x120100 + 4 * (i % 32), 8, 7⟩
abbrev SPK_SPKCFG_WDLY (i : Nat) : Fld := ⟨0x120100 + 4 * (i % 32), 16, 8⟩
abbrev SPK_SPKSTAT_STATE (i : Nat) : Fld := ⟨0x120180 + 4 * (i % 32), 0, 2⟩
abbrev SPK_SPKSTAT_CODE (i : Nat) : Fld := ⟨0x120180 + 4 * (i % 32), 8, 8⟩
abbrev SPK_SPKSTAT_NFOUND (i : Nat) : Fld := ⟨0x120180 + 4 * (i % 32), 16, 6⟩
abbrev SPK_SPKSTAT_DCRC (i : Nat) : Fld := ⟨0x120180 + 4 * (i % 32), 24, 8⟩
abbrev DRC_CFG_ENMASK : Fld := ⟨0x130000, 0, 8⟩
abbrev DRC_CFG_FSP : Fld := ⟨0x130000, 8, 2⟩
abbrev DRC_CFG_BAND : Fld := ⟨0x130000, 10, 3⟩
abbrev DRC_CFG_TSET : Fld := ⟨0x130000, 13, 1⟩
abbrev DRC_FSPRATE_RATE0 : Fld := ⟨0x130004, 0, 8⟩
abbrev DRC_FSPRATE_RATE1 : Fld := ⟨0x130004, 8, 8⟩
abbrev DRC_FSPRATE_RATE2 : Fld := ⟨0x130004, 16, 8⟩
abbrev DRC_CAP_PAGES : Fld := ⟨0x130008, 0, 22⟩
abbrev DRC_FREQ_FSP : Fld := ⟨0x13000c, 0, 2⟩
abbrev DRC_FREQ_GO : Fld := ⟨0x13000c, 2, 1⟩
abbrev DRC_FREQ_FORCE : Fld := ⟨0x13000c, 3, 1⟩
abbrev DRC_FREQ_BUSY : Fld := ⟨0x13000c, 4, 1⟩
abbrev DRC_FREQ_CODE : Fld := ⟨0x13000c, 8, 8⟩
abbrev DRC_FREQ_LASTUS : Fld := ⟨0x13000c, 16, 16⟩
abbrev DRC_QTGT01_TGT0 : Fld := ⟨0x130010, 0, 16⟩
abbrev DRC_QTGT01_TGT1 : Fld := ⟨0x130010, 16, 16⟩
abbrev DRC_QTGT23_TGT2 : Fld := ⟨0x130014, 0, 16⟩
abbrev DRC_QTGT23_TGT3 : Fld := ⟨0x130014, 16, 16⟩
abbrev DRC_REFCFG_PULLIN : Fld := ⟨0x130018, 0, 1⟩
abbrev DRC_REFCFG_IDLE : Fld := ⟨0x130018, 8, 8⟩
abbrev DRC_REFCFG_SCRUBH : Fld := ⟨0x130018, 16, 8⟩
abbrev DRC_QMISS_MISS0 : Fld := ⟨0x13001c, 0, 8⟩
abbrev DRC_QMISS_MISS1 : Fld := ⟨0x13001c, 8, 8⟩
abbrev DRC_QMISS_MISS2 : Fld := ⟨0x13001c, 16, 8⟩
abbrev DRC_QMISS_MISS3 : Fld := ⟨0x13001c, 24, 8⟩
abbrev DRC_REFSTAT_FORCED : Fld := ⟨0x130020, 0, 16⟩
abbrev DRC_REFSTAT_PULLED : Fld := ⟨0x130020, 16, 16⟩
abbrev DRC_ECCSTAT_CE : Fld := ⟨0x130024, 0, 16⟩
abbrev DRC_ECCSTAT_UE : Fld := ⟨0x130024, 16, 16⟩
abbrev DRC_UEADDR_BLOCK : Fld := ⟨0x130028, 0, 31⟩
abbrev DRC_UEADDR_VALID : Fld := ⟨0x130028, 31, 1⟩
abbrev DRC_HAZSTAT_RAW : Fld := ⟨0x13002c, 0, 16⟩
abbrev DRC_HAZSTAT_RMW : Fld := ⟨0x13002c, 16, 16⟩
abbrev DRC_CHSTAT_STATE (i : Nat) : Fld := ⟨0x130100 + 0x20 * (i % 8), 0, 3⟩
abbrev DRC_CHSTAT_CODE (i : Nat) : Fld := ⟨0x130100 + 0x20 * (i % 8), 8, 8⟩
abbrev DRC_CHSTAT_SIZE (i : Nat) : Fld := ⟨0x130100 + 0x20 * (i % 8), 16, 2⟩
abbrev DRC_CHSTAT_RANKS (i : Nat) : Fld := ⟨0x130100 + 0x20 * (i % 8), 18, 1⟩
abbrev DRC_CHSTAT_LOST (i : Nat) : Fld := ⟨0x130100 + 0x20 * (i % 8), 19, 1⟩
abbrev DRC_CHSTAT_OWED (i : Nat) : Fld := ⟨0x130100 + 0x20 * (i % 8), 24, 5⟩
abbrev DRC_LANE_RDEW (i j : Nat) : Fld := ⟨0x130104 + 0x20 * (i % 8) + 4 * (j % 4), 0, 8⟩
abbrev DRC_LANE_WREW (i j : Nat) : Fld := ⟨0x130104 + 0x20 * (i % 8) + 4 * (j % 4), 8, 8⟩
abbrev DRC_LANE_VREF (i j : Nat) : Fld := ⟨0x130104 + 0x20 * (i % 8) + 4 * (j % 4), 16, 8⟩
abbrev DRC_LANE_EH (i j : Nat) : Fld := ⟨0x130104 + 0x20 * (i % 8) + 4 * (j % 4), 24, 8⟩
abbrev THM_CFG_LAMPLIM : Fld := ⟨0x140000, 0, 8⟩
abbrev THM_CFG_CEILMIN : Fld := ⟨0x140000, 8, 6⟩
abbrev THM_CFG_TDEN : Fld := ⟨0x140000, 16, 16⟩
abbrev THM_STAT_BAND : Fld := ⟨0x140004, 0, 3⟩
abbrev THM_STAT_THROT : Fld := ⟨0x140004, 3, 1⟩
abbrev THM_STAT_FAILHOLD : Fld := ⟨0x140004, 4, 1⟩
abbrev THM_STAT_STEP : Fld := ⟨0x140004, 8, 8⟩
abbrev THM_STAT_TJ : Fld := ⟨0x140004, 16, 16⟩
abbrev THM_FAIL_OD : Fld := ⟨0x140008, 0, 12⟩
abbrev THM_FAIL_TD : Fld := ⟨0x140008, 16, 16⟩
abbrev THM_EXCL_ODX : Fld := ⟨0x14000c, 0, 12⟩
abbrev THM_EXCL_TDX : Fld := ⟨0x14000c, 16, 16⟩
abbrev THM_PWR_REQ : Fld := ⟨0x140010, 0, 3⟩
abbrev THM_PWR_NOW : Fld := ⟨0x140010, 3, 3⟩
abbrev THM_PWR_BUSY : Fld := ⟨0x140010, 6, 1⟩
abbrev THM_PWR_FORCED : Fld := ⟨0x140010, 7, 1⟩
abbrev THM_TRIP_LATCH : Fld := ⟨0x140014, 0, 1⟩
abbrev THM_TRIP_SENSOR : Fld := ⟨0x140014, 8, 4⟩
abbrev THM_OD_TEMP (i : Nat) : Fld := ⟨0x140100 + 4 * (i % 12), 0, 16⟩
abbrev THM_OD_FAILED (i : Nat) : Fld := ⟨0x140100 + 4 * (i % 12), 16, 1⟩
abbrev THM_TD_TEMP (i : Nat) : Fld := ⟨0x140140 + 4 * (i % 16), 0, 16⟩
abbrev THM_TD_FAILED (i : Nat) : Fld := ⟨0x140140 + 4 * (i % 16), 16, 1⟩
abbrev CAL_CTL_EN : Fld := ⟨0x150000, 0, 1⟩
abbrev CAL_CTL_PORTS : Fld := ⟨0x150000, 1, 4⟩
abbrev CAL_CTL_INTV : Fld := ⟨0x150000, 8, 8⟩
abbrev CAL_CTL_START : Fld := ⟨0x150000, 16, 1⟩
abbrev CAL_CTL_LANE : Fld := ⟨0x150000, 17, 3⟩
abbrev CAL_CTL_PORT : Fld := ⟨0x150000, 20, 2⟩
abbrev CAL_STAT_BUSY : Fld := ⟨0x150004, 0, 1⟩
abbrev CAL_STAT_LANE : Fld := ⟨0x150004, 1, 3⟩
abbrev CAL_STAT_PORT : Fld := ⟨0x150004, 4, 2⟩
abbrev CAL_STAT_ABORTS : Fld := ⟨0x150004, 8, 8⟩
abbrev CAL_STAT_NOGAIN : Fld := ⟨0x150004, 16, 8⟩
abbrev CAL_STAT_LASTCODE : Fld := ⟨0x150004, 24, 8⟩
abbrev CAL_DCFG_TRACK : Fld := ⟨0x150008, 0, 1⟩
abbrev CAL_DCFG_SBRETRAIN : Fld := ⟨0x150008, 1, 1⟩
abbrev CAL_DCFG_RETRAINH : Fld := ⟨0x150008, 8, 8⟩
abbrev CAL_DCNT_RETRAIN (i : Nat) : Fld := ⟨0x150200 + 0x10 * (i % 8), 0, 16⟩
abbrev CAL_DCNT_FAIL (i : Nat) : Fld := ⟨0x150200 + 0x10 * (i % 8), 16, 8⟩
abbrev CAL_DFRM_FRAME (i : Nat) : Fld := ⟨0x150204 + 0x10 * (i % 8), 0, 32⟩
abbrev CAL_DTIME_TIME (i : Nat) : Fld := ⟨0x150208 + 0x10 * (i % 8), 0, 32⟩
abbrev CAL_LQUAL_EW (i : Nat) : Fld := ⟨0x151000 + 0x10 * (i % 20), 0, 6⟩
abbrev CAL_LQUAL_EH (i : Nat) : Fld := ⟨0x151000 + 0x10 * (i % 20), 8, 8⟩
abbrev CAL_LQUAL_SET (i : Nat) : Fld := ⟨0x151000 + 0x10 * (i % 20), 16, 2⟩
abbrev CAL_LCNT_COUNT (i : Nat) : Fld := ⟨0x151004 + 0x10 * (i % 20), 0, 16⟩
abbrev CAL_LFRM_FRAME (i : Nat) : Fld := ⟨0x151008 + 0x10 * (i % 20), 0, 32⟩
abbrev CAL_LTIME_TIME (i : Nat) : Fld := ⟨0x15100c + 0x10 * (i % 20), 0, 32⟩
abbrev SEC_STAT_LIFE : Fld := ⟨0x160000, 0, 2⟩
abbrev SEC_STAT_DEBUG : Fld := ⟨0x160000, 2, 2⟩
abbrev SEC_STAT_IDKEY : Fld := ⟨0x160000, 4, 1⟩
abbrev SEC_STAT_SVN : Fld := ⟨0x160000, 8, 8⟩
abbrev SEC_STAT_QDEPTH : Fld := ⟨0x160000, 16, 5⟩
abbrev SEC_NONCE_NONCE (i : Nat) : Fld := ⟨0x160010 + 4 * (i % 4), 0, 32⟩
abbrev SEC_UID_UID (i : Nat) : Fld := ⟨0x160020 + 4 * (i % 4), 0, 32⟩
abbrev SEC_MSEL_REG : Fld := ⟨0x160030, 0, 3⟩
abbrev SEC_MSEL_WORD : Fld := ⟨0x160030, 3, 4⟩
abbrev SEC_MDATA_DATA : Fld := ⟨0x160034, 0, 32⟩
abbrev SEC_RCPTCFG_EN : Fld := ⟨0x160040, 0, 1⟩
abbrev SEC_RCPTCFG_PERIOD : Fld := ⟨0x160040, 1, 16⟩
abbrev SEC_RSEQ_RSEQ : Fld := ⟨0x160044, 0, 32⟩
abbrev SEC_CRCCFG_HANDLE : Fld := ⟨0x160050, 0, 16⟩
abbrev SEC_CRCCFG_SIZE : Fld := ⟨0x160050, 16, 4⟩
abbrev SEC_CRCCFG_EN : Fld := ⟨0x160050, 20, 1⟩
abbrev SEC_SESSION_SESSION : Fld := ⟨0x160054, 0, 32⟩
abbrev SEC_CNT_QREFUSED : Fld := ⟨0x160060, 0, 8⟩
abbrev SEC_CNT_KWFAIL : Fld := ⟨0x160060, 8, 8⟩
abbrev SEC_CNT_RDROP : Fld := ⟨0x160060, 16, 8⟩
abbrev SEC_CNT_TOKFAIL : Fld := ⟨0x160060, 24, 8⟩
abbrev UPD_CFG_HOSTCONF : Fld := ⟨0x170000, 0, 1⟩
abbrev UPD_CFG_CONFS : Fld := ⟨0x170000, 8, 8⟩
abbrev UPD_STAT_USTATE : Fld := ⟨0x170004, 0, 3⟩
abbrev UPD_STAT_CUR : Fld := ⟨0x170004, 3, 1⟩
abbrev UPD_STAT_TRIES : Fld := ⟨0x170004, 4, 2⟩
abbrev UPD_STAT_RECOVERY : Fld := ⟨0x170004, 6, 1⟩
abbrev UPD_STAT_LASTCODE : Fld := ⟨0x170004, 8, 8⟩
abbrev UPD_STAT_CURSVN : Fld := ⟨0x170004, 16, 8⟩
abbrev UPD_STAT_FALLBACK : Fld := ⟨0x170004, 24, 1⟩
abbrev UPD_STAT_CONFIRMED : Fld := ⟨0x170004, 25, 1⟩
abbrev UPD_CTL_CONFIRM : Fld := ⟨0x170008, 0, 1⟩
abbrev UPD_CTL_ABANDON : Fld := ⟨0x170008, 1, 1⟩
abbrev UPD_HELD_HELD : Fld := ⟨0x17000c, 0, 16⟩
abbrev UPD_HELD_NEED : Fld := ⟨0x17000c, 16, 16⟩
abbrev UPD_AFRAME_FRAME : Fld := ⟨0x170010, 0, 32⟩
abbrev UPD_TXCFG_RATE : Fld := ⟨0x170014, 0, 16⟩
abbrev UPD_BUILD_BUILD : Fld := ⟨0x170018, 0, 32⟩
abbrev UPD_PKGID_ID (i : Nat) : Fld := ⟨0x170020 + 4 * (i % 4), 0, 32⟩
abbrev UPD_RECOV_LEN : Fld := ⟨0x170030, 0, 23⟩
abbrev UPD_RECOV_GO : Fld := ⟨0x170030, 23, 1⟩
abbrev UPD_RECOV_CODE : Fld := ⟨0x170030, 24, 8⟩
abbrev NVM_STAT_NDEV : Fld := ⟨0x180000, 0, 2⟩
abbrev NVM_STAT_SIZEMIB4 : Fld := ⟨0x180000, 8, 8⟩
abbrev NVM_STAT_BUSY : Fld := ⟨0x180000, 16, 1⟩

end Sys2Proof.Machine.F
end

