-- ==== Sys2Proof/Machine/Table.lean ====
section
/-! DEFINITION. Sparse tables: lists of (key, value) pairs in one canonical form (keys strictly rising, no entry equal to
the value an unlisted key reads as). The register file, the memories and the per-queue records are such tables. -/

namespace Sys2Proof.Machine

/-- Value at key `k`; `d` is what an unlisted key reads as. -/
def tget {α : Type} (d : α) (m : List (Nat × α)) (k : Nat) : α :=
  match m.find? (fun e => e.1 == k) with
  | some e => e.2
  | none => d

/-- Insert an entry before the first entry with a larger key. -/
def tins {α : Type} (k : Nat) (v : α) : List (Nat × α) → List (Nat × α)
  | [] => [(k, v)]
  | e :: t => if k < e.1 then (k, v) :: e :: t else e :: tins k v t

/-- The table with key `k` holding `v`; writing what an unlisted key reads as removes the entry. -/
def tset {α : Type} [DecidableEq α] (d : α) (m : List (Nat × α)) (k : Nat) (v : α) : List (Nat × α) :=
  let m' := m.filter (fun e => e.1 != k)
  if v = d then m' else tins k v m'

/-- The canonical form: keys strictly rising and no entry equal to the value of an unlisted key. -/
def tcanon {α : Type} [DecidableEq α] (d : Nat → α) : List (Nat × α) → Bool
  | [] => true
  | [e] => e.2 ≠ d e.1
  | e :: f :: t => e.2 ≠ d e.1 && e.1 < f.1 && tcanon d (f :: t)

end Sys2Proof.Machine
end

