-- ==== Sys2Proof/Machine/Types.lean ====
section
/-! DEFINITION. The internal state of each block beyond its registers: plain records, one per thing the spec names. -/

namespace Sys2Proof.Machine

/-! ### Outside interfaces -/

/-- What a host read was issued for (R139 lists the readers). -/
inductive Rd where
  | ring (q : Nat)                       -- ring read of queue q (R116)
  | slot (t : Nat) (urgent : Bool)       -- host-core slot read (R165)
  | data (c : Nat)                       -- DMA data of channel c
  | seg (c : Nat) (shadow dst : Bool)    -- DMA list segment of channel c
  | page (vp : Nat)                      -- prefetch of surface page vp (R187)
  | svc                                  -- data of a service-core entry (R97); its command carries the answer
  deriving DecidableEq, Repr

/-- An upstream request of the PCIe function. -/
inductive Up where
  | read (who : Rd) (addr len : Nat)
  | write (addr : Nat) (data : Bytes)
  | vec (v : Nat)                        -- MSI-X vector v
  | turn (c : Nat)                       -- DMA channel c goes on with its host accesses from here (R97, R141)
  deriving DecidableEq, Repr

/-- What the block sends out, oldest first. -/
inductive Out where
  | hostRead (who : Rd) (addr len : Nat)
  | hostWrite (addr : Nat) (data : Bytes)
  | msix (addr data : Nat)                       -- MSI-X message
  | readData (off v : Nat)                       -- completion of a register read
  | cell (port : Nat) (c : Bytes)                -- a cell sent on a chain port
  | block (port : Nat) (kind : Nat)              -- a block at the next block position: 0 FWB, 1 SOF, 2 RSD
  | fwdBlock (port kind len : Nat)               -- a block forwarded where it was received, of `len` symbols (R270, R279)
  | orig (port : Nat)                            -- the transmitter of a port originates its stream from here on (R270)
  | steer (port lane : Nat) (fwd : Bool)         -- an STR block that asks for a lane, at the next position or in place of an FWB
  | pannier (port lane : Nat)                    -- the pannier lane copies another lane from the next block on (R291)
  | train (port : Nat) (sets : List Bytes)       -- the training sets that the five lanes send from now on (R280)
  | idleTx (port : Nat)                          -- transmitters of a port go idle
  | test (lane gen rate : Nat) (felb : Bool)     -- what a lane in TEST sends: generator, injection rate, far-end loopback (R300)
  | inject (lane : Nat)                          -- one transmitted bit is flipped
  | echo (lane : Nat) (bits : Bytes)             -- what a lane in far-end loopback sends: the bits it received (R300)
  | trig (gen : Nat) (at0 : Int) (wid : Nat) (high : Bool)  -- a pulse on TRIG_OUT: its instant (2^-24 ns), width (ns) and asserted level (R379)
  | spoke (n : Nat) (packet : Bytes)             -- a packet on a spoke
  | latch (n : Nat) (at0 : Int) (packet : Bytes) -- a LATCH on a spoke, and the instant (2^-24 ns) of its first bit at the pads (R463)
  | scan (at0 g addr : Nat) (en gd : Bool)       -- outputs of a scan group from an instant on (elapsed ns, R453)
  | jtag (data : Bytes)                          -- TDO data of an IEEE 1149.1 instruction
  | nvm (op addr len : Nat)                      -- flash operation: 0 program, 1 erase
  | device (chan addr : Nat) (data : Bytes)      -- bytes written to the DRAM of a channel, parity too (R482)
  | answer (port block : Nat) (c : Status) (data : Bytes)  -- what DRC answers a master: data, RANGE or INTEGRITY (R482 to R485)
  deriving DecidableEq, Repr

/-- A device event (R604). -/
structure Ev where
  code : Nat
  time : Nat
  det : Bytes
  deriving DecidableEq, Repr

/-- Read data of the outside world, or how the read failed (R116, R136, R139). -/
inductive RdRes where
  | data (b : Bytes)
  | refused      -- Unsupported Request or Completer Abort
  | poisoned     -- poisoned completion
  deriving DecidableEq, Repr

/-- What the host answers to the reads that a service block makes of host-backed pages. -/
inductive HostRes where
  | data (b : Bytes)
  | busError
  | timeout
  | integrity
  deriving DecidableEq, Repr

/-! ### Reset, supplies and boot (chapters 2 and 3) -/

/-- Progress of a warm reset (R78). -/
inductive Warm where
  | none | requested | asserted
  deriving DecidableEq, Repr

/-- Boot progress inside the UCIE stage (R86). -/
inductive Ucie where
  | closed            -- no window open
  | attempt           -- an attempt is running
  | backoff           -- waiting after a failed attempt
  deriving DecidableEq, Repr

structure BootSt where
  /-- PWRON_RST_N is low (R76). -/
  pwronLow : Bool
  /-- the hold of R44 -/
  railHold : Bool
  /-- cold reset held by a hardware trip until PWRON_RST_N is cycled (R512) -/
  tripHold : Bool
  /-- PWRON_RST_N has been low since the trip -/
  tripCycled : Bool
  warm : Warm
  /-- a rail fault that the journal does not record yet (R513) -/
  railRec : Bool
  /-- rails now below their warn threshold, and those below their fault threshold, by bit number of GLB_RAILSTAT -/
  low : List Nat
  gone : List Nat
  ucie : Ucie
  /-- failed attempts of the open window -/
  fails : Nat
  /-- the open window is a retry after a link loss (R93) -/
  relink : Bool
  /-- the boot in progress follows a warm reset -/
  warmBoot : Bool
  /-- end of the back-off, or next retry, of UCIe training (elapsed ns, R20, R86, R93) -/
  due : Nat
  /-- channels trained since the last cold reset (R78) -/
  trained : Nat
  /-- LNK_CFG and LNK_PCTL words of the flash configuration, if it has any (R290) -/
  chainCfg : Option (Nat × List Nat)
  /-- modules and highest rate that the attempt in progress may use, as it started (R94) -/
  modMask : Nat
  maxRate : Nat
  /-- when the block reset of block k began (elapsed ns, R81) -/
  blkAt : List Nat
  deriving DecidableEq, Repr

/-! ### Host interface and queues (chapter 4) -/

/-- A host read that is outstanding: who asked, when it times out (R139), whether the requester still wants it, and how many requests,
each with a tag, it was split into (R96, R127). -/
structure OutRead where
  who : Rd
  due : Nat
  live : Bool
  parts : Nat
  deriving DecidableEq, Repr

structure HifSt where
  /-- Bus Master Enable of the Command register (copied to HIF_LINKSTAT.BME) -/
  msixEnable : Bool
  funcMask : Bool
  d3hot : Bool
  /-- Max Payload Size and Max Read Request Size, bytes (R96) -/
  mps : Nat
  mrrs : Nat
  /-- Subsystem Vendor ID and Subsystem ID of the flash configuration, where it has them (R96) -/
  subsys : Option (Nat × Nat)
  /-- upstream requests waiting under R97, oldest first -/
  waiting : List Up
  /-- the event queue of R605, oldest first; the instant of the last event (elapsed ns), and how many at the end are of it -/
  events : List Ev
  evAt : Nat
  evRun : Nat
  /-- host reads issued and not yet answered, oldest first -/
  reads : List OutRead
  /-- host reads that timed out and whose completion has not arrived (R139) -/
  timedOut : Nat
  /-- since when Bus Master Enable is 0, if it was 1 before (elapsed ns, R139) -/
  shutAt : Option Nat
  deriving DecidableEq, Repr

/-- Per-queue state of QUE beyond its registers (R116, R120). -/
structure QRec where
  recheck : Bool
  /-- the read of the entry at FETCH is outstanding -/
  reading : Bool
  /-- that read is the last one of R120 -/
  final : Bool
  /-- a read returned OWN = 0; waiting for a doorbell or 1 ms -/
  waiting : Bool
  /-- when that read returned (elapsed ns) -/
  since : Nat
  /-- the read of the entry at FETCH is held back by R160 -/
  blocked : Bool
  /-- entries handed on and not yet retired: index, FLAGS byte, completed -/
  handed : List (Nat × Nat × Bool)
  /-- completed entries whose writes wait for Bus Master Enable (R97, R117) -/
  late : List Nat
  /-- how often the queue has been enabled -/
  gen : Nat
  deriving DecidableEq, Repr

/-- An entry handed to the sorting office (R160); `gen` is its queue's when it was handed on. -/
structure Item where
  q : Nat
  idx : Nat
  prio : Nat
  ready : Nat
  entry : Bytes
  gen : Nat
  deriving DecidableEq, Repr

/-! ### The sorting office (chapter 6) -/

/-- A dispatch target (R154): the item in its ordinary place (a host core's NORMAL slot), the item that pre-empted it (a
host core's URGENT slot), and items handed over while it held another (R162). -/
structure TRec where
  normal : Option Item
  urgent : Option Item
  /-- an item was displaced and has not completed (R163) -/
  susp : Bool
  next : List Item
  /-- times in which it was busy that no load window has taken yet, and since when it is (extended ns, R174) -/
  spans : List (Nat × Nat)
  busyFrom : Option Nat
  deriving DecidableEq, Repr

structure SorSt where
  /-- ready items, in the order in which they were handed on -/
  ready : List Item
  targets : List (Nat × TRec)
  /-- index each group chose last (R161); unlisted: none -/
  last : List (Nat × Nat)
  /-- start of the load window, if one is being measured: an extended time -/
  winFrom : Option Nat
  /-- items on their way to the targets they will pre-empt, oldest first (R162) -/
  picked : List (Nat × Item)
  /-- pulses that have fired and whose action is still to come: slot reads at POLLGEN, slot reads at WINGEN -/
  pollDue : Bool
  winPollDue : Bool
  /-- load windows that have ended and are still to be shown: length and the busy time of each target, ns -/
  winDone : List (Nat × List Nat)
  deriving DecidableEq, Repr

/-! ### DMA (chapter 5) -/

/-- A piece of one side of a transfer: address, bytes left, and the list segment and element it comes from (none: the
contiguous side itself). -/
structure Elem where
  addr : Nat
  left : Nat
  src : Option (Nat × Nat)
  deriving DecidableEq, Repr

/-- A side of a transfer: its space, the elements known and not yet consumed, and the list walk (R133). -/
structure Side where
  sp : Nat
  isList : Bool
  elems : List Elem
  /-- segments read so far, the address of the next, and whether the last one has been read -/
  segs : Nat
  next : Nat
  last : Bool
  deriving DecidableEq, Repr

/-- A descriptor in a channel's set. -/
structure Desc where
  item : Item
  op : Nat
  len : Nat
  fence : Bool
  pattern : Bytes
  src : Side
  dst : Side
  /-- segment reads outstanding: source, destination -/
  wantSrc : Bool
  wantDst : Bool
  /-- bytes written (R138) -/
  done : Nat
  /-- bytes of the data read outstanding -/
  asked : Nat
  /-- how it ended, if it failed: code, FSEG, FINFO -/
  fault : Option (Status × Nat × Nat)
  /-- it was displaced by pre-emption (R163) -/
  displaced : Bool
  /-- DRAM blocks it has overwritten, with their content before it started (R142) -/
  orig : List (Nat × Bytes)
  /-- TIME_NS of the last data write (R128) -/
  wrote : Option Nat
  /-- data read and not yet written, while Bus Master Enable is 0 (R141) -/
  held : Option Bytes
  deriving DecidableEq, Repr

structure Chan where
  active : Option Desc
  shadow : Option Desc
  susp : Option Desc
  /-- the shadow set holds a pre-empting descriptor (R146) -/
  yielding : Bool
  /-- RATE in use, the read credit of R609 in 1/1000 byte, and when it was brought up to date -/
  rate : Nat
  credit : Int
  creditAt : Nat
  /-- destination bytes written, modulo 2^64 (R152) -/
  bytes : Nat
  /-- CLASS of the channel's surface traffic, as the active descriptor took it (R150) -/
  cls : Nat
  deriving DecidableEq, Repr

/-! ### Surfaces (chapter 7) -/

/-- Backing of a page (R177): DRAM page number, or host address. -/
inductive Backing where
  | hole
  | loc (page : Nat)
  | host (addr : Nat)
  deriving DecidableEq, Repr

/-- `n` consecutive surface pages from `vp`; HOST pages follow each other in host memory. -/
structure Seg where
  vp : Nat
  n : Nat
  back : Backing
  deriving DecidableEq, Repr

structure Surf where
  handle : Nat
  vp : Nat
  n : Nat
  sparse : Bool
  freeing : Bool
  lastRef : Option Nat
  /-- LASTREF counts as retired because the reading engine stopped (R191) -/
  lastDone : Bool
  deriving DecidableEq, Repr

/-- A frame running or queued in the reading engine (R191). -/
structure FrameRef where
  n : Nat
  running : Bool
  deriving DecidableEq, Repr

/-- A pending FREE, BACK or INVAL (R193). -/
structure PendOp where
  op : Nat
  item : Item
  handle : Nat
  vp : Nat
  n : Nat
  /-- frames that keep the old mapping and must retire first -/
  frames : List Nat
  /-- the last of them that retired -/
  last : Nat
  /-- the old mapping of the range, and the pool pages that return at completion -/
  old : List Seg
  pages : List Nat
  opages : Nat
  deriving DecidableEq, Repr

/-- A resident copy of a HOST page (R187). -/
structure Copy where
  vp : Nat
  /-- DRAM page that holds it -/
  page : Nat
  /-- order stamp of its last read -/
  used : Nat
  /-- dropped by INVAL or BACK: usable only by these frames -/
  only : Option (List Nat)
  deriving DecidableEq, Repr

/-- A page a queued frame will read, with its deadline (R187). -/
structure Need where
  frame : Nat
  vp : Nat
  deadline : Nat
  /-- the lowest canvas that reads it (R27) -/
  canvas : Nat
  /-- deadline less SRF_PFCFG.LEADUS as it was when the read was scheduled (R187, R199) -/
  due : Nat
  deriving DecidableEq, Repr

/-- A prefetch read outstanding (R187). -/
structure Fetch where
  vp : Nat
  page : Nat
  frame : Nat
  only : Option (List Nat)
  deriving DecidableEq, Repr

structure SrfSt where
  /-- the table region is being initialised (R197) -/
  initBusy : Bool
  /-- operations waiting for it, oldest first -/
  held : List Item
  surfs : List Surf
  segs : List Seg
  /-- pool pages allocated, rising -/
  used : List Nat
  pend : List PendOp
  copies : List Copy
  needs : List Need
  fetching : List Fetch
  /-- pages whose prefetch failed, with the frame that asked (R190) -/
  failed : List (Nat × Nat)
  /-- frames of the reading engine, oldest first -/
  frames : List FrameRef
  /-- the reading engine has retired a frame since EN went to 1 -/
  retiredAny : Bool
  /-- order stamp of the last read -/
  stamp : Nat
  /-- surface pages whose translation is cached (R179) -/
  tc : List Nat
  deriving DecidableEq, Repr

/-! ### DRAM controller (chapter 16) -/

/-- A request waiting at DRC (R491). -/
structure DReq where
  port : Nat
  cls : Nat
  wr : Bool
  block : Nat
  data : Bytes
  arrive : Nat
  deadline : Nat
  /-- waited on a pending write (R493) -/
  hazard : Bool
  /-- urgency 3 by R496 -/
  urg3 : Bool
  /-- was pending during a forced refresh -/
  forced : Bool
  /-- a write of part of a block: its first byte in the block, and the wrong symbols that its read finds (R483) -/
  part : Option (Nat × List (Nat × Nat))
  deriving DecidableEq, Repr

/-- A frequency change in progress (R498). -/
structure FreqChg where
  fsp : Nat
  force : Bool
  at0 : Nat
  /-- when the last channel entered self-refresh for it (elapsed ns) -/
  entered : Nat
  deriving DecidableEq, Repr

structure DrcSt where
  /-- requests pending, oldest first -/
  reqs : List DReq
  /-- requests held at their ports during self-refresh or a frequency change -/
  heldReqs : List DReq
  /-- usable blocks whose codeword is uncorrectable -/
  poison : List Nat
  /-- OWED of rank 1 of each channel, channel 0 first -/
  owed1 : List Int
  /-- refresh factor that MR4 calls for, in quarters -/
  mr4 : Nat
  chg : Option FreqChg
  /-- next block of the patrol scrub, and the start of the round before -/
  patrol : Nat
  patrolAt : Option Nat
  /-- the deadline of the patrol read that waits (R486, R491) -/
  patrolReq : Option Nat
  /-- when the next refresh of rank r of channel c falls due, at 2c + r (elapsed ns, R494) -/
  refAt : List Nat
  /-- when the last request of a channel completed (elapsed ns, R495) -/
  quietAt : List Nat
  /-- the last read of MR4 (elapsed ns, R494) -/
  mr4At : Nat
  deriving DecidableEq, Repr

/-- The window that a sweep finds at one Vref step (R487): the step (0.5 % of VDDQ), and the first and the last passing delay
(1/64 UI). -/
abbrev Eye := Nat × Nat × Nat

/-- What training measures of a byte lane at a set-point (R487, R529): the windows of the read and of the write sweep, by rising
Vref, the height of the read eye in mV, and the count of the DQS oscillator. -/
structure LTrain where
  fsp : Nat
  lane : Nat
  rd : List Eye
  wr : List Eye
  eh : Nat
  osc : Nat
  deriving DecidableEq, Repr

/-- A channel as the DRAM stage finds it: configured, capacity code, two ranks, whether its device answers mode-register reads,
whether the retrack of a warm boot fails, and what the first training and the one repeat of it measure (R481, R487 to R489). -/
structure DramCh where
  on : Bool
  size : Nat
  two : Bool
  answers : Bool
  lost : Bool
  first : List LTrain
  again : List LTrain
  deriving DecidableEq, Repr

/-! ### Chain protocol (chapter 11) -/

/-- A key slot (R348): session, content key, letter key, group key, the LSEQ counters of R332 and the frames its session
has run (R328 check 5). -/
structure KeySlot where
  session : Nat
  ckey : Bytes
  lkey : Bytes
  gkey : Bytes
  lrx : Option Nat
  grx : Option Nat
  ltx : Nat
  age : Nat
  lastF : Option Nat
  deriving DecidableEq, Repr

/-- A cell a unit consumes: arrival port, bytes as corrected, ingress stamp in 2^-16 ns (R342). -/
structure RxCell where
  port : Nat
  cell : Bytes
  time : Nat
  deriving DecidableEq, Repr

/-- A letter in reassembly (R331): segments received as (SEG, DATA). -/
structure Reasm where
  port : Nat
  addr : Nat
  orig : Bool
  rank : Nat
  lid : Nat
  ltype : Nat
  lfl : Nat
  nseg : Nat
  kind : Nat
  /-- when its first segment came (elapsed ns) -/
  at0 : Nat
  segs : List (Nat × Bytes)
  deriving DecidableEq, Repr

/-- A complete letter, opened if it was sealed; `slot` is the key slot that sealed it. -/
structure Letter where
  port : Nat
  addr : Nat
  orig : Bool
  rank : Nat
  lid : Nat
  ltype : Nat
  lfl : Nat
  content : Bytes
  /-- key slot, SESSION and letter key of the seal that it passed (R332) -/
  slot : Option (Nat × Nat × Bytes)
  kind : Nat
  /-- ingress stamp of its last segment (2^-16 ns) -/
  time : Nat
  deriving DecidableEq, Repr

/-- What is written into a postmark as it leaves (R342, R371, R374): nothing, the residence added to CORR of a SYNC that came
in at the given stamp, or the egress stamp in TA. -/
inductive Mark where
  | none
  | corr (tin : Nat)
  | ta
  deriving DecidableEq, Repr

/-- A cell in a tile's insertion queue (R318): class 0 regenerated, 1 reply, 2 event, 3 receipt. -/
structure InsCell where
  cls : Nat
  cell : Bytes
  mark : Mark
  /-- when it entered the queue (elapsed ns) -/
  at0 : Nat
  deriving DecidableEq, Repr

/-- A SEND in progress (R339): its letter, when it was sent (elapsed ns), bytes of the reply area used, replies written,
code byte of the first reply, and whether a reply did not fit. -/
structure Send where
  item : Item
  lid : Nat
  addr : Nat
  ltype : Nat
  sent : Nat
  used : Nat
  replies : Nat
  rcode : Nat
  nofit : Bool
  deriving DecidableEq, Repr

/-- Cells waiting at a sender port: letter segments with the cells they have waited, runs with their frame, and whether
each of the last 15 cells carried a run or a letter (R323). -/
structure TxPort where
  letters : List (Nat × Bytes)
  runs : List (Nat × Bytes)
  hist : List Bool
  deriving DecidableEq, Repr

structure ChnSt where
  rx : List RxCell
  /-- candidates whose correction is under way (R315) -/
  cand : List RxCell
  /-- insertion queues of ports 0 and 1 -/
  ins : List (Nat × InsCell)
  reasm : List Reasm
  letters : List Letter
  slots : List (Nat × KeySlot)
  /-- keys that left their slot, for replies to letters that they sealed (R332) -/
  oldKeys : List KeySlot
  sends : List Send
  tx : List (Nat × TxPort)
  /-- runs written and not yet committed: FRAME, RUNID (R328 check 7) -/
  written : List (Nat × Nat)
  /-- frames whose runs an ABORT discarded (R322) -/
  aborted : List Nat
  nextLid : Nat
  hbseq : Nat
  /-- LENGTH of the last roll-call that knew it (R345) -/
  length : Nat
  deriving DecidableEq, Repr

/-! ### Compositor and frame timing (chapters 8 and 9) -/

/-- A logarithmic ramp (R218): start value, target, length, first frame (none until a frame uses the commit). Values are
S6.10 words, 0x8000 for black. -/
structure Ramp where
  s : Nat
  target : Nat
  n : Nat
  f0 : Option Nat
  deriving DecidableEq, Repr

/-- An address-book entry (R223). -/
structure BookEnt where
  postcode : Nat
  stream : Nat
  rot : Nat
  mirror : Bool
  x0 : Nat
  y0 : Nat
  w : Nat
  h : Nat
  deriving DecidableEq, Repr

/-- A BOOK, CURVE or FILTER held pending (R228): opcode, index, first frame, data. -/
structure Load where
  op : Nat
  index : Nat
  frame : Nat
  item : Item
  words : List Nat
  book : List BookEnt
  deriving DecidableEq, Repr

/-- A frame on the raster: number, bound layers (k), layers left out, its register values and ramps, whether compositing
is finished, and the underrun already recorded. -/
structure Raster where
  frame : Nat
  cn : Nat
  /-- the raster deadline C_N + W (R240) -/
  due : Nat
  layers : List Nat
  shed : Nat
  cfg : List (Nat × Word)
  ramps : List (Nat × Ramp)
  step : Nat
  /-- the curves, filters and address book it began with (R228) -/
  curves : List (Nat × List Nat)
  filters : List (Nat × List Nat)
  book : List BookEnt
  finished : Bool
  aborted : Bool
  deriving DecidableEq, Repr

structure CmpSt where
  /-- RWS values written and not yet armed, by register offset (R242) -/
  pend : List (Nat × Word)
  /-- RWS values armed and not yet latched -/
  armed : List (Nat × Word)
  /-- RWS values of the frame most recently latched; unlisted registers hold reset values -/
  base : List (Nat × Word)
  ramps : List (Nat × Ramp)
  /-- curve slots and filter banks loaded since reset -/
  curves : List (Nat × List Nat)
  filters : List (Nat × List Nat)
  book : List BookEnt
  loads : List Load
  raster : Option Raster
  /-- quality step asked for by THM, in use from the next raster start (R232) -/
  nextStep : Nat
  /-- V of each tile for the frame composed last (R555, R559): 512p + POSITION, V -/
  sums : List (Nat × Nat)
  /-- canvas sizes of the frames latched: the frame from which on they hold, and the registers (R245) -/
  hist : List (Nat × List (Nat × Word))
  deriving DecidableEq, Repr

/-- The fields of a mode (R238). -/
structure Mode where
  perNs : Nat
  perFrac : Nat
  lat : Nat
  win : Nat
  margin : Nat
  nslot : Nat
  tset : Nat
  /-- anchor frame and its cadence instant -/
  e : Nat
  te : Nat
  /-- MCFG.ANCHOR of the MODE entry that carried it -/
  anchor : Bool
  deriving DecidableEq, Repr

/-- A latched frame waiting for its raster (R241). -/
structure QFrame where
  n : Nat
  cfg : List (Nat × Word)
  ramps : List (Nat × Ramp)
  transition : Bool
  deriving DecidableEq, Repr

structure FrtSt where
  mode : Option Mode
  /-- a MODE entry accepted while running: entry, mode, AFRAME, late (R249) -/
  pendMode : Option (Item × Mode × Nat × Bool)
  /-- COMMIT entries of the armed set (R243) -/
  commits : List Item
  queued : List QFrame
  /-- frame of the last underrun recorded, so that a second cause does not count (R251) -/
  under : Option Nat
  deriving DecidableEq, Repr

/-! ### Time (chapter 12) -/

/-- A pulse generator (R376): owner (0 software, 1 FRT, 2 TAN, 3 the tile cadence), extended start in ns, period in 2^-24 ns,
index of its next instant. -/
structure Gen where
  owner : Nat
  start : Int
  per : Nat
  k : Nat
  deriving DecidableEq, Repr

/-- A capture stamp (R382). -/
structure Stamp where
  ns : Nat
  fr8 : Nat
  fall : Bool
  wraps : Nat
  deriving DecidableEq, Repr

/-- A capture input: its queue and the previous stamped edge in eighths of a ns (R383). -/
structure CapSt where
  queue : List Stamp
  last : Option Nat
  deriving DecidableEq, Repr

/-- Delay measurements of a port in 2^-17 ns, oldest first, and discards in a row (R371). -/
structure PdSt where
  vals : List Int
  bad : Nat
  deriving DecidableEq, Repr

/-- A PREQ outstanding: port, SEQ, since when (elapsed ns), t1 once it has left (2^-16 ns). -/
structure Preq where
  port : Nat
  seq : Nat
  since : Nat
  t1 : Option Nat
  deriving DecidableEq, Repr

structure TimSt where
  gens : List (Nat × Gen)
  caps : List (Nat × CapSt)
  pd : List (Nat × PdSt)
  /-- requests outstanding, oldest first -/
  preq : List Preq
  pdSeq : Nat
  /-- requests made on a port since it reached UP, and when the last was made (elapsed ns) -/
  pdSent : List (Nat × Nat × Nat)
  syncSeq : Nat
  /-- SRC of the last used SYNC (R370) -/
  lastSrc : Nat
  /-- index of the next reference edge (R366) -/
  refJ : Nat
  /-- used SYNCs or edges in bounds in a row, out of bounds in a row -/
  good : Nat
  bad : Nat
  /-- TIM_INC after each of the last 16 used SYNCs or locked edges, newest first -/
  incs : List Nat
  /-- when the present HOLDOVER began, and when the last SYNC or edge was used (elapsed ns) -/
  holdFrom : Option Nat
  lastUsed : Nat
  /-- the servo slews back under the 100 ppm limit from this TIM_INC (R367) -/
  slew : Option Nat
  /-- TIM_INC as the last HOLDOVER began -/
  lockInc : Nat
  /-- 1 where TIM_REFVAL + REFDLY passed 2^32 as the reference was armed (R366) -/
  refWrap : Nat
  /-- until when TRIG_OUT 0 to 7 are asserted (elapsed ns, R379) -/
  trigTo : List Nat
  deriving DecidableEq, Repr

/-! ### Chain lanes (chapter 10) -/

/-- Equaliser taps of a receive lane: CTLE peaking in dB, then DFE taps 1 to 8 in codes (R264). -/
abbrev Taps := List Int

/-- A physical receive lane beyond its registers: taps in use, last-good snapshot, taps at UP (R296), the run of good and
of low measurements, until when adaptation is held after a revert (elapsed ns), the preset its transmitter uses, the preset
it asks of the partner, and the preset search of R283. -/
structure LaneSt where
  taps : Taps
  good : Option Taps
  upTaps : Taps
  goodRun : Nat
  lowRun : Nat
  holdTo : Nat
  txPreset : Nat
  preq : Nat
  bestEye : Nat
  bestPreset : Nat
  /-- since when INJRATE injects errors that the lane's own checker counts (elapsed ns, R300) -/
  injFrom : Option Nat
  /-- taps that the lane reloads at the next block (R296) -/
  reload : Option Taps
  /-- register of the pattern checker, once it has locked to what the lane receives (R300) -/
  chk : Option Nat
  deriving DecidableEq, Repr

structure PortSt where
  /-- partner NONCE recorded at the previous UP (R282) -/
  partner : Option Nat
  /-- partner NONCE read in the present attempt -/
  nonce : Nat
  /-- consecutive failed attempts (R287) -/
  fails : Nat
  /-- end of the present back-off (elapsed ns) -/
  wake : Nat
  /-- preset trial under way, P0 to P7 (R283) -/
  trial : Nat
  /-- physical lanes that failed CDR, COMMA or POLARITY, as a mask -/
  bad : Nat
  /-- logical lanes that have lost signal or lock while UP, as a mask -/
  lost : Nat
  /-- consecutive codewords with a nonzero syndrome -/
  errRun : Nat
  /-- receive scrambler (R271), once loaded -/
  rxScr : Option Nat
  /-- an RSD has been received since FEC began (R281) -/
  rsd : Bool
  /-- the transmitter forwards the other port's stream (R270) -/
  fwd : Bool
  /-- when the transmitter last sent SOF or RSD (elapsed ns, R270) -/
  seeded : Nat
  /-- lane that the partner asks this transmitter to copy onto its pannier lane (R291), and the lane, if any, that this receiver
  asks the partner to copy, when the request last went out (elapsed ns), and whether it waits for an FWB to take the place of (R294,
  R270) -/
  copy : Nat
  steer : Option Nat
  steerAt : Nat
  steerDue : Bool
  /-- elastic buffer fill, symbols (R279) -/
  fill : Nat
  /-- when the present stage began (elapsed ns, R281) -/
  since : Nat
  /-- consecutive codewords with a zero syndrome in FEC (R281) -/
  okRun : Nat
  lanes : List LaneSt
  deriving DecidableEq, Repr

structure LnkSt where
  /-- own NONCE, drawn at cold reset (R280) -/
  nonce : Nat
  ports : List (Nat × PortSt)
  /-- the timing source PLL_TX last followed: a port, or 4 for REF (R276) -/
  source : Nat
  /-- the port whose elastic buffer is bypassed -/
  bypass : Option Nat
  deriving DecidableEq, Repr

/-- What bring-up finds on the receive lanes at the end of a stage (R281 to R285): physical lanes that pass, the last training set
received at each position (its 16 symbols, R280), positions found inverted, skew in 0.25 ns, the eye (width, height) of each
physical lane, and the physical lanes, one for each, of the code violations and disparity errors met (R298). -/
structure StageObs where
  lanes : Nat
  sets : List Bytes
  inv : Nat
  skew : Nat
  eyes : List (Nat × Nat)
  cv : List Nat
  disp : List Nat
  deriving DecidableEq, Repr

/-- A rail crosses its warn threshold (R45, R47): the rail, and whether it is below from then on. -/
structure RailSide where
  rail : Nat
  below : Bool
  deriving DecidableEq, Repr

/-- The Command and Device Control settings of the function: Bus Master Enable, Max Payload Size, Max Read Request Size (R96, R97). -/
structure BusCtl where
  bme : Bool
  mps : Nat
  mrrs : Nat
  deriving DecidableEq, Repr

/-- What a trial of R283 brings: the eye width of each physical lane, the last training set received at each position, and the
physical lanes of the code violations and disparity errors met (R298). -/
structure TrialObs where
  eyes : List Nat
  sets : List Bytes
  cv : List Nat
  disp : List Nat
  deriving DecidableEq, Repr

/-- A block and the port of the master that writes part of it (R483, R490). -/
structure PartAt where
  port : Nat
  block : Nat
  deriving DecidableEq, Repr

/-- The thing (port, spoke) that a command names, and the ticks that pass before it. -/
structure After where
  dt : Nat
  n : Nat
  deriving DecidableEq, Repr

/-- An attempt of a port ends (R281, R286): the ticks that pass before, the port, whether signal is lost, and the mask of the physical
lanes that meet the condition of the stage. -/
structure AttemptEnd where
  dt : Nat
  port : Nat
  los : Bool
  lanes : Nat
  deriving DecidableEq, Repr

/-- A slip of an elastic buffer (R279): the port, and the symbols of the slot in progress that have arrived. -/
structure SlipAt where
  port : Nat
  cut : Nat
  deriving DecidableEq, Repr

/-- A block as it arrives (R269, R279, R298): symbols of the slot that it cuts short, its length, the fill of the elastic buffer, and
the physical lanes with a code violation or a disparity error in it. -/
structure BlockObs where
  cut : Nat
  len : Nat
  fill : Nat
  cv : List Nat
  disp : List Nat
  deriving DecidableEq, Repr

/-! ### Calibration (chapter 18) -/

/-- A lane recalibration (R522): port, physical lane, logical lane (4: the pannier lane), its stage (0 waiting for the copy,
1 sweeping, 2 matching, 3 waiting for the frame start), the trial, the taps the sweep starts from, the saved taps and eye, the
best taps and eye of the present group of trials, whether the new taps are kept, whether matching was tried again, and the end of
matching and the start of the present trial (elapsed ns). -/
structure Recal where
  port : Nat
  lane : Nat
  logical : Nat
  stage : Nat
  trial : Nat
  base : Taps
  saved : Taps
  ew0 : Nat
  eh0 : Nat
  best : Taps
  ew : Nat
  eh : Nat
  kept : Bool
  retried : Bool
  matchedAt : Nat
  trialAt : Nat
  deriving DecidableEq, Repr

/-- A DRAM temperature slot (R528): channel, byte lane, set-point, slot (0 LOW, 1 MID, 2 HIGH), Tj of its training, read
delay, write delay, Vref, the widths of the read and of the write eye and the height of the read eye as DRC_LANE shows them (R502), and
the count of the DQS oscillator at that training (R529). -/
structure DSlot where
  chan : Nat
  lane : Nat
  fsp : Nat
  slot : Nat
  tj : Int
  rd : Nat
  wr : Nat
  vref : Nat
  rdew : Nat
  wrew : Nat
  eh : Nat
  osc : Nat
  deriving DecidableEq, Repr

structure CalSt where
  run : Option Recal
  /-- lanes queued by a change of lane set, as 5p + l (R524) -/
  queue : List Nat
  /-- next lane of the round-robin, as 5p + l, and the last interval start (elapsed ns) -/
  next : Nat
  lastStart : Nat
  /-- stored lane sets: 3 (5p + l) + set (R524) -/
  sets : List (Nat × Taps)
  /-- the lane set of the present band -/
  set : Nat
  slots : List DSlot
  /-- read delay, write delay and Vref in use, by 4 × channel + byte lane -/
  use : List (Nat × (Nat × Nat × Nat))
  /-- last retraining in STANDBY of each channel (elapsed ns, R530) -/
  retrained : List (Nat × Nat)
  /-- sets or slots changed since they were saved, and when they were last saved (elapsed ns, R531) -/
  changed : Bool
  savedAt : Option Nat
  /-- the last 16 ms step of R528 (elapsed ns) -/
  trackAt : Nat
  deriving DecidableEq, Repr

/-! ### The lamp pipeline (chapter 14) -/

/-- What LMP samples at a commit instant (R432), with the test pattern that applies from it (R439): zone temperatures with
their FAILED bits, dimming, ceiling, record surface, set temperatures, trim knee, LMP_TPCFG, LMP_TPVAL and decode slots. -/
structure Samp where
  zones : List (Nat × Bool)
  dim : Nat
  ceil : Nat
  cor : Nat
  ta : Nat
  tb : Nat
  tc : Nat
  ks : Nat
  pat : Word
  pval : Nat
  curves : List (Nat × List Nat)
  deriving DecidableEq, Repr

/-- A run that passed R328: stream, run, arrival stamp on the extended time (2^-16 ns), and its 196 plaintext bytes. -/
structure RunRec where
  stream : Nat
  run : Nat
  stamp : Nat
  pix : Bytes
  deriving DecidableEq, Repr

/-- A frame being received (R417, R419): its buffer, whether it found none, whether a run of it was discarded by an ABORT, its
runs, and whether it has been missed. -/
structure TFrame where
  n : Nat
  buf : Option Nat
  nobuf : Bool
  cut : Bool
  runs : List RunRec
  missed : Bool
  deriving DecidableEq, Repr

/-- A display interval (R416): frame, mode, display instant (2^-24 ns), buffer shown (none: black), streams that buffer holds,
samples, the next slot to latch, the slots it emits (R437), whether the LATCH of the next slot has been sent and its data
was late, the surfaces LMP bound for it (R192, R420), and whether it is a transition frame (R598). -/
structure Show where
  n : Nat
  mode : Mode
  disp : Int
  buf : Option Nat
  streams : List Nat
  samp : Samp
  slot : Nat
  upto : Nat
  sent : Bool
  late : Bool
  bound : List Nat
  trans : Bool
  deriving DecidableEq, Repr

/-- A CURVE of LMP held pending for the next commit instant (R424). -/
structure CurveLoad where
  index : Nat
  item : Item
  words : List Nat
  deriving DecidableEq, Repr

/-- Where the cadence of a mode lies: extended start (ns) and an index near the present one. -/
structure Anchor where
  st : Int
  k : Nat
  deriving DecidableEq, Repr

structure LmpSt where
  /-- the LAMP_EN pad -/
  lampEn : Bool
  mode : Option Mode
  /-- a mode letter that waits for its cadence: mode, and for one that came late its frame J (R436) -/
  pend : Option (Mode × Option Nat)
  /-- the mode before: its anchor, the frame from which the present one applies, and, for one that came late, the
  first of its frames that never had its cadence instant (R436) -/
  prev : Option (Mode × Anchor × Nat × Option Nat)
  /-- a transition frame whose commit instant is to come (R437) -/
  trans : Option Nat
  /-- recent forward steps of the time: from and to, in 2^-24 ns (R435) -/
  skips : List (Int × Int)
  /-- the checks of R434 run again at the next commit instant -/
  recheck : Bool
  /-- the first frame handled after the mode was applied (R329, R436), the frame last committed since (R329), and the frame
  whose commit instant comes next -/
  first : Option Nat
  last : Option Nat
  nextA : Nat
  frames : List TFrame
  /-- the front buffer: frame, buffer, its streams (R419) -/
  front : Option (Nat × Nat × List Nat)
  shows : List Show
  /-- consecutive missed frames (R421), misses since the last FRAME_MISS and when it was sent (elapsed ns, R422) -/
  miss : Nat
  missEv : Nat
  missAt : Option Nat
  /-- decode slots loaded since reset, and loads pending -/
  curves : List (Nat × List Nat)
  loads : List CurveLoad
  /-- the dimming ramp in force and the one armed (R429) -/
  dim : Ramp
  dimNext : Option Ramp
  /-- the frame of the last commit instant, for the ramp -/
  dimFrame : Nat
  /-- when the locator and the self-test started (elapsed ns, R440), and slots of the self-test latched without a mode -/
  locAt : Option Nat
  selfAt : Option Nat
  /-- frames of the last cadence instant (R534) -/
  cad : Nat
  /-- V of the frame committed last, by stream (R555) -/
  vals : List (Nat × Bytes)
  deriving DecidableEq, Repr

/-! ### Spokes (chapter 15) -/

/-- A spoke: the READs still to make (position, register; of FOPEN, FSHORT and FVALID the line too, times 256), and whether the first
of them is outstanding; absences of that READ; in bring-up the drivers that answered and whether a check failed; when it last went to
FAULT and when the outstanding READ was sent (elapsed ns); STEP that its drivers' TIM1 holds, in ns; WRITE packets that wait for a
management window; when that window began (elapsed ns) and the bits of it that are taken (R460); FOPEN and FSHORT of the line being
read (R472). -/
structure SpokeSt where
  reads : List (Nat × Nat)
  live : Bool
  tries : Nat
  found : Nat
  bad : Bool
  faultAt : Nat
  askedAt : Nat
  step : Nat
  writes : List Bytes
  winAt : Option Nat
  used : Nat
  fopen : Nat
  fshort : Nat
  deriving DecidableEq, Repr

/-- A lamp and kind of fault in the last detection frame with a result of it (R473): whether the lamp showed the fault in that frame,
and in the one before that tested it. -/
structure FaultSeen where
  lamp : Nat
  kind : Nat
  frame : Nat
  shown : Bool
  before : Bool
  deriving DecidableEq, Repr

/-- A slot emission (R450): frame, slot, dark, detection slot, LW, whether a mismatch of this slot has been counted, line slots
begun, STEP in ns, when it began (elapsed ns), and the expected CRC of each group over the edges so far (R469). -/
structure Emission where
  frame : Nat
  slot : Nat
  dark : Bool
  det : Bool
  lw : Nat
  counted : Bool
  lines : Nat
  step : Nat
  start : Nat
  edges : List Nat
  deriving DecidableEq, Repr

structure SpkSt where
  spokes : List (Nat × SpokeSt)
  emission : Option Emission
  /-- the slot whose LATCH was sent last: frame, slot, DARK, DET, LW, mismatch counted; it begins its emission when latched -/
  latched : Option Emission
  /-- fault table (R473), oldest first -/
  faults : List Nat
  /-- what detection saw of each lamp last -/
  seen : List FaultSeen
  masked : List Nat
  /-- detection frame whose results are being read, and the drivers (spoke, position) still to read (R472) -/
  det : Option (Nat × List (Nat × Nat))
  /-- times of the LAMP_FAULT letters of the last second, and of the last READBACK letter (elapsed ns) -/
  faultEv : List Nat
  rbAt : Option Nat
  /-- SCNg_A, SCNg_EN, SCNg_GD -/
  scan : List (Nat × Bool × Bool)
  /-- egress CRC of each spoke for the slot sent last (R469) -/
  egress : List (Nat × Nat)
  /-- SPK_FDCFG as it stood when the first LATCH of a frame left: frame, word (R477) -/
  fdcfg : Option (Nat × Word)
  /-- SPK_FDCFG of the detection frame whose results are being read -/
  detCfg : Word
  /-- when STAT was last read, or SPK enabled (elapsed ns, R467) -/
  polledAt : Nat
  deriving DecidableEq, Repr

/-! ### Heat and power (chapter 17) -/

structure ThmSt where
  /-- last sample of each on-die sensor, as S11.4 -/
  prev : List (Nat × Int)
  /-- sensors that failed at their last sample, by bit of THM_FAIL -/
  failing : List Nat
  /-- next instant of the 2 s grid of R507 while throttling, and next 10 s step of R508 (elapsed ns) -/
  grid : Option Nat
  up : Option Nat
  /-- since when Tj has been in T5 (elapsed ns) -/
  t5 : Option Nat
  /-- the band that the readings give, whatever has failed (R506) -/
  band : Nat
  /-- lamp-board channels that reached LAMPLIM + 15 °C and have not fallen below LAMPLIM since (R510) -/
  hot : List Nat
  /-- orderly shut-down in progress: cause, 1 heat, 2 host -/
  shut : Option Nat
  /-- the last samples (elapsed ns, R503) -/
  sampledAt : Nat
  deriving DecidableEq, Repr

/-! ### Field update (chapter 20) -/

/-- A slot state record (R571); slots are 0 A, 1 B. -/
structure SlotRec where
  seq : Nat
  cur : Nat
  cand : Option Nat
  tries : Nat
  svnA : Nat
  svnB : Nat
  deriving DecidableEq, Repr

/-- A journal record (R513): cause 0 ORDERLY_HEAT, 1 ORDERLY_HOST, 2 TRIP, 3 RAIL. -/
structure JRec where
  seq : Nat
  cause : Nat
  sensor : Nat
  reading : Nat
  band : Nat
  step : Nat
  time : Nat
  wraps : Nat
  frame : Nat
  rstcause : Nat
  deriving DecidableEq, Repr

/-- Who waits for a parcel: a letter, or a STAGE entry (on the last parcel it writes, with the code the entry ends with). -/
inductive PFrom where
  | letter (l : Letter)
  | stage (it : Item) (last : Option Status)
  deriving DecidableEq, Repr

/-- A flash operation (R570). -/
inductive FlashOp where
  | erase (sector : Nat)
  | parcel (k : Nat) (data : Bytes) (who : PFrom)
  | newMaps
  | mapErase
  | state (r : SlotRec)
  | journal (r : JRec)
  | calset
  | sessions
  deriving DecidableEq, Repr

/-- The staging package (R569): PKGID, manifest (parcel 0), parcels held, sectors erased. -/
structure Pkg where
  id : Bytes
  manifest : Bytes
  held : List Nat
  erased : List Nat
  deriving DecidableEq, Repr

/-- A PUSH entry in progress (R582): its data, the PKGID its letters carry, the first parcel no QUERY has covered yet, parcels left
to send, parcels sent, last reply code, and the LID of the letter that waits for its reply, with whether it is a QUERY. -/
structure Push where
  item : Item
  data : Bytes
  id : Bytes
  next : Nat
  left : List Nat
  sent : Nat
  rcode : Nat
  wait : Option (Nat × Bool)
  deriving DecidableEq, Repr

/-- An armed activation (R576): its frame, the ACTIVATE entry that armed it, and whether it comes late. -/
structure Arm where
  frame : Nat
  item : Option Item
  late : Bool
  deriving DecidableEq, Repr

structure UpdSt where
  pkg : Option Pkg
  arm : Option Arm
  /-- a CONFIRM kept until the other conditions hold (R579), and the instant of READY (elapsed ns) -/
  confirm : Bool
  readyAt : Option Nat
  /-- state records, oldest first; the journal; calibration sets as saved; session counter reserved in flash (R548) -/
  recs : List SlotRec
  journal : List JRec
  calset : Option (List (Nat × Taps) × List DSlot)
  sessions : Nat
  /-- bytes of the two slots, by address in the flash -/
  flash : List Host.Cell
  /-- flash operations, the first in progress; the 64 KiB of BITMAP that holds the maps in use, 0 to 3 (R570) -/
  ops : List FlashOp
  maps : Nat
  pushes : List Push
  /-- when the cap of UPD_TXCFG next lets a parcel leave on a port (elapsed ns, R582) -/
  txAt : List (Nat × Nat)
  /-- AON boot-attempt counter, and the slot marked failed in AON (R578) -/
  aonTries : Nat
  aonFailed : Option Nat
  /-- slot this boot runs, and whether it runs as a candidate -/
  running : Nat
  trial : Bool
  /-- recovery window (R583): 4 MiB of SRAM -/
  recov : List Host.Cell
  deriving DecidableEq, Repr

/-- What the FIRST stage finds in flash (R84, R563, R578): devices and their size in 4 MiB, whether a layout record passes its
check, and for a flash whose content is not yet known the valid state records (oldest first) and bytes (address, content);
then the result of verifying slots A and B. -/
structure FirstObs where
  ndev : Nat
  size4 : Nat
  layout : Bool
  recs : List SlotRec
  content : List (Nat × Bytes)
  resA : Status
  resB : Status
  deriving DecidableEq, Repr

/-- What the FIRMWARE stage finds (R84, R94, R290, R531, R544): the result of verifying the firmware, the digests of the calibration
sets that it loads from the CALSET region, the value of HIF_LINKCFG and the LNK_CFG and LNK_PCTL words of the configuration where it has
them, and the subsystem identifiers. -/
structure FwObs where
  res : Status
  cal : List Bytes
  link : Option Nat
  chain : Option (Nat × List Nat)
  subsys : Option (Nat × Nat)
  deriving DecidableEq, Repr

/-! ### Tandem senders (chapter 13) -/

/-- A snapshot being received (R408): its parts held, and a commit that waits for the rest (NPART, LEN, digest, since). -/
structure Staging where
  gen : Nat
  npart : Nat
  len : Nat
  parts : List Nat
  commit : Option (Nat × Nat × Bytes × Nat)
  deriving DecidableEq, Repr

/-- A SNAP entry whose letters are on their way (R406): generation, parts, ports that were UP, and the cells of its commit. -/
structure SnapSend where
  item : Item
  gen : Nat
  npart : Nat
  ports : List Nat
  commit : List Bytes
  deriving DecidableEq, Repr

/-- A peer beacon heard by a sender (R400): its port, TIME_NS of its stamp, and MGEN where it is an active heartbeat. -/
structure Heard where
  port : Nat
  ns : Nat
  act : Option Nat
  deriving DecidableEq, Repr

structure TanSt where
  /-- tile: when the last valid beacon of each port arrived (elapsed ns) -/
  seen : List (Nat × Nat)
  /-- tile: port and claim chosen for recent frames; port 3 is none -/
  chosen : List (Nat × Nat × Nat)
  /-- sender: peer beacons that no heartbeat window has taken yet, oldest first -/
  heard : List Heard
  /-- sender: TIME_NS of the pulse that opened the present heartbeat window (R363, R399) -/
  winAt : Option Nat
  /-- windows in a row with no active heartbeat, and with no peer beacon -/
  noAct : Nat
  noPeer : Nat
  /-- MGEN of the active heartbeats of the last window; none where it had none, or two differ -/
  mgen : Option Nat
  /-- since when the conditions of R402 hold (elapsed ns) -/
  holdFrom : Option Nat
  staging : Option Staging
  snaps : List SnapSend
  /-- the latest generation this sender sent: GEN, NPART, LEN, digest -/
  sent : Option (Nat × Nat × Nat × Bytes)
  /-- when its commit was sent last (elapsed ns) -/
  sentAt : Nat
  deriving DecidableEq, Repr

/-! ### Security (chapter 19) -/

/-- An entry of a sender's key record (R549), with the LSEQ counters of its letter key (R332). -/
structure KeyEnt where
  session : Nat
  slot : Nat
  ckey : Bytes
  lkey : Bytes
  ltx : Nat
  lrx : Option Nat
  deriving DecidableEq, Repr

/-- A sender's key record (R549). -/
structure KeyRec where
  uid : Bytes
  cur : Option KeyEnt
  pend : Option KeyEnt
  deriving DecidableEq, Repr

/-- A group key of a sender: session, key and the LSEQ counter sent under it. -/
structure GroupKey where
  session : Nat
  key : Bytes
  ltx : Nat
  deriving DecidableEq, Repr

/-- An ENROL in progress (R549): the letter that waits for its reply and since when, steps of the engine done, the tile's UID
and public key, the keys chosen and the KEY_WRAP content they give. -/
structure Enrol where
  item : Item
  postcode : Nat
  lid : Nat
  ltype : Nat
  sent : Nat
  waits : Bool
  step : Nat
  uid : Bytes
  pub : Bytes
  session : Nat
  slot : Nat
  ckey : Bytes
  lkey : Bytes
  gkey : Bytes
  content : Bytes
  deriving DecidableEq, Repr

/-- A receipt interval (R556, R557): what its receipt reports. -/
structure Interval where
  first : Nat
  nfr : Nat
  miss : Nat
  missofs : List Nat
  flags : Nat
  claim : Nat
  mism : Nat
  rbgrp : Nat
  rbspk : Nat
  ceil : Nat
  flcnt : Nat
  vals : Bytes
  deriving DecidableEq, Repr

/-- An operation of the P-521 engine (R547). -/
inductive EngOp where
  | receipt (iv : Interval)
  | unwrap (l : Letter)
  | enrol (it : Item)
  | quoteLetter (l : Letter) (mask : Nat)
  | quoteEntry (it : Item) (nonce : Bytes)
  | void                                   -- a key wrap of a CHN that has been reset since (R355)
  deriving DecidableEq, Repr

structure SecSt where
  /-- fuses: lifecycle, identity key present, security version, digest of the owner key, OWN attempts used -/
  life : Nat
  idkey : Bool
  svn : Nat
  owner : Option Bytes
  ownTries : Nat
  nonce : Option Bytes
  /-- M0 to M7 (R544) -/
  meas : List Bytes
  recs : List (Nat × KeyRec)
  /-- enrol session and its tile slot; slot of the last KEYSET since reset -/
  enrol : Option (Nat × Nat)
  groups : List GroupKey
  /-- session most recently made current in any record -/
  bcast : Option Nat
  /-- next session counter value, and the end of the block reserved in flash (R548) -/
  counter : Nat
  reserved : Nat
  /-- debug level (R541): 0 LOCKED, 1 OWNER-DEBUG, 2 VENDOR-DEBUG, and whether EXTEST drives the pads -/
  dbg : Nat
  extest : Bool
  /-- engine: in service, queued, waiting for room -/
  busy : Option EngOp
  ops : List EngOp
  wait : List EngOp
  enrols : List Enrol
  /-- SWITCH entries with their frames -/
  switches : List (Item × Nat)
  /-- the open interval, the instant that ends it in 2^-24 ns (or ended the one before, from which the next then runs), whether a
  receipt has been made since reset -/
  interval : Option Interval
  nextT : Int
  runsOn : Bool
  first : Bool
  rseq : Nat
  held : List Bytes
  /-- CRC records to write: frame, aborted, (512p + POSITION, V) -/
  crcs : List (Nat × Bool × List (Nat × Nat))
  deriving DecidableEq, Repr

/-- What unmasks: one vector's mask bit, or the function's Message Control. -/
inductive Unmask where
  | vector (v : Nat)
  | control (enable masked : Bool)
  deriving DecidableEq, Repr

end Sys2Proof.Machine
end

