-- ==== Sys2Proof/Syntax.lean ====
section
/-! DEFINITION. The commands of the LZ7200: one constructor per row of the table of operations and events, with what the outside
world or elapsed time brings to it. `dt` is the time since the command before it, in ticks of PLL_TIME (R356); a command that writes a
register takes the word written. What each does is in Machine/. -/

namespace Sys2Proof
open Sys2Proof.Machine

/-- A command (spec/opcode_table.json). -/
inductive Instr where
  /-- RAIL_FAULT (R44): A rail other than VDD_UCI stays below its fault threshold for 50 ns; within 1 µs the lamp, scan and spoke pads go safe and cold reset is held. -/
  | railFault (mask : Nat)
  /-- RAIL_WARN (R45): A rail crosses below its warn threshold; its DIP bit is set and a RAIL_WARN event is raised. -/
  | railWarn (x : RailSide)
  /-- VDD_AON_APPLY (R43): VDD_AON is applied; the trip latch, the boot-attempt counters and GLB_RSTCAUSE return to their reset values. -/
  | vddAonApply
  /-- PWRON_RESET_ASSERT (R76): A low pulse on PWRON_RST_N of at least 1 µs asserts cold reset. -/
  | pwronResetAssert
  /-- COLD_RESET_RELEASE (R76): At t0 (the rising edge of PWRON_RST_N, the end of the rail hold, or the end of the trip hold) cold reset is released and boot starts at the PLL stage. -/
  | coldResetRelease (sel : Nat) (uci : Bool)
  /-- WARM_RESET_PIN (R78): A low pulse on WARM_RST_N of at least 1 µs requests a warm reset. -/
  | warmResetPin
  /-- WARM_RESET_SOFTWARE (R79): A write of 0xA5 to GLB_WARMRST.KEY requests a warm reset. -/
  | warmResetSoftware
  /-- WATCHDOG_EXPIRY (R78): The service-core watchdog expires after 2 s without service and requests a warm reset. -/
  | watchdogExpiry
  /-- WARM_RESET_ASSERT (R78): Once the flash operation in progress has finished and the trained channels are in self-refresh, warm reset is asserted. -/
  | warmResetAssert
  /-- WARM_RESET_RELEASE (R78): After 10 µs warm reset is released and boot restarts at the PLL stage. -/
  | warmResetRelease
  /-- REF_CLK_LOSS (R73): No REF_CLK edge arrives for 200 ns; the PLLs enter holdover and REF_LOSS is raised. -/
  | refClkLoss
  /-- REF_CLK_GOOD (R72): REF_CLK has stayed within ±10 % for 1 ms; REFOK is set and the PLLs steer back out of holdover. -/
  | refClkGood
  /-- PLL_STAGE_DONE (R84): The ungated PLLs lock and boot enters the ROM stage. -/
  | pllStageDone
  /-- ROM_STAGE_DONE (R84): SRAM is initialised and checked, and the FIRST stage begins. -/
  | romStageDone
  /-- FIRST_STAGE_DONE (R84): The first-stage image is loaded, measured and verified, or the slot fails. -/
  | firstStageDone (o : FirstObs)
  /-- DRAM_STAGE_DONE (R84): The enabled DRAM channels have been trained, or restored and retracked. -/
  | dramStageDone (l : List DramCh) (rates : Nat × Nat × Nat)
  /-- FIRMWARE_STAGE_DONE (R84): The service-core firmware is loaded and verified, and the UCIe window opens. -/
  | firmwareStageDone (o : FwObs)
  /-- UCIE_ATTEMPT_END (R86): A UCIe training attempt ends, either trained or failed. -/
  | ucieAttemptEnd (dt : Nat) (mods : List (Option Nat)) (left : Bool) (ms : Nat)
  /-- UCIE_BACKOFF_END (R86): The back-off after a failed attempt ends and the next attempt starts. -/
  | ucieBackoffEnd (dt : Nat)
  /-- UCIE_WINDOW_CLOSE (R86): The UCIe window closes with no trained link; the strap decides what follows. -/
  | ucieWindowClose (qs : List (Nat × Word)) (ms : Nat)
  /-- BOOT_HOLD_RETRY (R20): Once each second in BOOT_HOLD, a fresh UCIe training window starts. -/
  | bootHoldRetry (dt : Nat)
  /-- REGISTER_WRITE (R5): A write to a register with no row of its own is stored, or rejected as a whole. -/
  | registerWrite (size : Nat) (off : Nat) (v : Nat)
  /-- ERRINFO_CLEAR (R102): A write of 1 to GLB_ERRINFO.VALID clears VALID, OVER, COUNT and GLB_ERRLOG. -/
  | errinfoClear
  /-- BAR_MISALIGNED_READ (R98): A read of illegal size or alignment returns 0xFFFFFFFF and is logged with ALIGN. -/
  | barMisalignedRead (bar2 : Bool) (size : Nat) (off : Nat)
  /-- EVTQ_READ (R606): A read of GLB_EVTQ removes the oldest event and copies its time and detail. -/
  | evtqRead
  /-- DMA_BYTES_READ (R152): A read of DMA_CHBYTLO copies the upper half into DMA_CHBYTHI. -/
  | dmaBytesRead (c : Nat)
  /-- TIM_NOW_READ (R358): A read of TIM_NOWLO returns TIME_NS and copies the fraction and the wrap count. -/
  | timNowRead (dt : Nat)
  /-- TIM_CAP_READ (R384): A read of TIM_CAPLO removes the oldest capture stamp. -/
  | timCapRead (c : Nat)
  /-- SEC_NONCE_READ (R540): A read of SEC_NONCE0 draws a new token nonce and invalidates the previous one. -/
  | secNonceRead
  /-- QUE_BLOCK_RESET (R121): A block reset of QUE aborts handed-on entries and leaves every queue DISABLED. -/
  | queBlockReset
  /-- DMA_BLOCK_RESET (R150): A block reset of DMA aborts the descriptors of every channel. -/
  | dmaBlockReset
  /-- SOR_BLOCK_RESET (R175): A block reset of SOR aborts held items and puts the queues in ERROR. -/
  | sorBlockReset
  /-- SRF_BLOCK_RESET (R201): A block reset of SRF aborts pending operations and loses every surface. -/
  | srfBlockReset
  /-- CMP_BLOCK_RESET (R237): A block reset of CMP aborts the frame on the raster and discards loaded data. -/
  | cmpBlockReset
  /-- FRT_BLOCK_RESET (R260): A block reset of FRT aborts the raster frame and drops the installed mode. -/
  | frtBlockReset
  /-- LNK_BLOCK_RESET (R309): A block reset of LNK drops every port to OFF. -/
  | lnkBlockReset
  /-- CHN_BLOCK_RESET (R355): A block reset of CHN empties the key slots and the queues and aborts SENDs. -/
  | chnBlockReset
  /-- TIM_BLOCK_RESET (R393): A block reset of TIM resets its registers while the time keeps counting. -/
  | timBlockReset
  /-- TAN_BLOCK_RESET (R415): A block reset of TAN stops the beacons or clears the claims. -/
  | tanBlockReset
  /-- LMP_BLOCK_RESET (R445): A block reset of LMP drops LAMP_EN and the mode in force. -/
  | lmpBlockReset
  /-- SPK_BLOCK_RESET (R480): A block reset of SPK darkens the spokes and empties the fault table. -/
  | spkBlockReset
  /-- CAL_BLOCK_RESET (R535): A block reset of CAL aborts a running recalibration. -/
  | calBlockReset
  /-- DBG_BLOCK_RESET (R601): A block reset of DBG returns the test logic to Test-Logic-Reset. -/
  | dbgBlockReset
  /-- BLOCK_RESET_END (R81): A block leaves reset after buffer initialisation, at most 100 µs after the request. -/
  | blockResetEnd (dt : Nat) (k : Nat)
  /-- HIF_LINK_LOSS (R93): The trained UCIe link is lost after READY; host-memory queues enter ERROR. -/
  | hifLinkLoss
  /-- HIF_RETRAIN (R94): A write of HIF_LINKCFG.RETRAIN = 1 drops the link and starts a training attempt. -/
  | hifRetrain (v : Word)
  /-- HIF_RETRY_TIMER (R93): After a link loss, HIF retries training on the back-off schedule and then every 1 s. -/
  | hifRetryTimer (dt : Nat)
  /-- BME_CHANGE (R97): Bus Master Enable changes; upstream requests wait, or issue in their original order. -/
  | bmeChange (x : BusCtl)
  /-- MSIX_UNMASK (R99): A vector or the function is unmasked, or MSI-X is enabled; pending messages are sent. -/
  | msixUnmask (u : Unmask)
  /-- QUEUE_ENABLE (R110): QUE_CTL.ENABLE 0→1 resets the indices and sets the queue RUNNING. -/
  | queueEnable (q : Nat)
  /-- QUEUE_DISABLE (R110): QUE_CTL.ENABLE 1→0 from STOPPED or ERROR sets the queue DISABLED. -/
  | queueDisable (q : Nat)
  /-- QUEUE_STOP (R121): QUE_CTL.STOP moves the queue from RUNNING to STOPPING and discards entries not yet handed on. -/
  | queueStop (q : Nat)
  /-- QUEUE_RESUME (R110): QUE_CTL.RESUME moves the queue from STOPPED to RUNNING. -/
  | queueResume (q : Nat)
  /-- DOORBELL (R119): A doorbell write is checked and sets TAIL and the recheck flag. -/
  | doorbell (size : Nat) (off : Nat) (v : Nat)
  /-- RING_READ_COMPLETE (R116): A ring read returns; the entry is handed on, awaited, or the queue enters ERROR. -/
  | ringReadComplete (q : Nat) (res : RdRes)
  /-- RING_RECHECK_TIMEOUT (R120): 1 ms after an OWN = 0 read with no doorbell, the entry is read again, and the queue enters ERROR with TIMEOUT if OWN is still 0. -/
  | ringRecheckTimeout (dt : Nat) (q : Nat)
  /-- SOR_DISPATCH (R161): A free target and a ready item meet, and the item is handed to the target. -/
  | sorDispatch
  /-- SOR_PREEMPT (R162): A higher-priority item pre-empts a busy target. -/
  | sorPreempt (later : Bool)
  /-- DMA_SEGMENT_READ_DONE (R135): A list segment read returns and the segment is checked. -/
  | dmaSegmentReadDone (c : Nat) (shadow : Bool) (dst : Bool) (res : RdRes)
  /-- DMA_READ_DONE (R143): DMA read data returns and is written to the destination, or the descriptor faults. -/
  | dmaReadDone (c : Nat) (res : RdRes)
  /-- HOST_READ_TIMEOUT (R139): A host read gets no completion within DMA_TOCFG.TOUS. -/
  | hostReadTimeout (dt : Nat) (who : Rd)
  /-- LATE_COMPLETION (R139): A completion that arrives after its request timed out is discarded and counted. -/
  | lateCompletion
  /-- DMA_DESCRIPTOR_COMPLETE (R138): The last write of a descriptor becomes visible and the descriptor completes; a shadow or suspended descriptor then runs. -/
  | dmaDescriptorComplete (c : Nat)
  /-- SLOT_POLL (R165): At a POLLGEN or WINGEN pulse, every host-core slot with OWN = 1 is read. -/
  | slotPoll (dt : Nat) (win : Bool)
  /-- SLOT_READ_DONE (R165): A slot read returns; OWN = 0 completes the item and releases the slot. -/
  | slotReadDone (t : Nat) (urgent : Bool) (b : Bytes)
  /-- SLOT_READ_FAIL (R166): A slot read fails; the item becomes a dead letter and the target goes to FAULT. -/
  | slotReadFail (t : Nat) (urgent : Bool)
  /-- LOAD_WINDOW_END (R174): A WINGEN pulse ends a load window and writes SOR_TGTLOAD and SOR_WINNS. -/
  | loadWindowEnd (dt : Nat)
  /-- SRF_ENABLE (R197): SRF_CTL.EN 0→1 starts initialisation of the table region. -/
  | srfEnable
  /-- SRF_TABLE_INIT_DONE (R197): The table region is initialised and waiting operations proceed. -/
  | srfTableInitDone
  /-- SURFACE_CREATE (R184): CREATE takes the lowest free handle and claims the range. -/
  | surfaceCreate
  /-- SURFACE_BACK (R185): BACK remaps pages and completes when the affected frames retire. -/
  | surfaceBack
  /-- SURFACE_FREE (R192): FREE makes the surface FREEING and frees it once LASTREF has retired. -/
  | surfaceFree
  /-- SURFACE_INVAL (R186): INVAL drops resident copies of a range. -/
  | surfaceInval
  /-- FRAME_RETIRE (R191): The reading engine retires a frame when its reads return. -/
  | frameRetire
  /-- PREFETCH_ISSUE (R187): A 64 KiB host read is issued for a non-resident HOST page by its lead time. -/
  | prefetchIssue
  /-- PREFETCH_DONE (R187): A prefetch read completes and the page becomes resident. -/
  | prefetchDone (vp : Nat) (b : Bytes)
  /-- PREFETCH_FAIL (R190): A prefetch read fails with BUS_ERROR, TIMEOUT or INTEGRITY. -/
  | prefetchFail (vp : Nat) (poisoned : Bool)
  /-- LATE_PAGE (R189): A page is not resident at its deadline and CMP is told of a fetch underrun. -/
  | latePage (dt : Nat)
  /-- BOOK_LOAD (R228): A BOOK entry is checked and its address book is held pending for frame FRAME. -/
  | bookLoad (host : HostRes)
  /-- CURVE_LOAD (R228): A CMP CURVE entry is checked and held pending for the next raster start. -/
  | curveLoad (host : HostRes)
  /-- FILTER_LOAD (R228): A FILTER entry is checked and held pending for the next raster start. -/
  | filterLoad (host : HostRes)
  /-- CMP_ENABLE (R234): CMP_CTL.EN 0→1 starts frames from the next cadence. -/
  | cmpEnable (v : Word)
  /-- CMP_DISABLE (R234): CMP_CTL.EN 1→0 stops production after the frame on the raster. -/
  | cmpDisable (v : Word)
  /-- CMP_FRAME_DONE (R230): CMP finishes compositing a frame and records its cost in CMP_FCLK. -/
  | cmpFrameDone (dt : Nat)
  /-- SENDER_CADENCE (R239): At a cadence pulse, FRT_FRAME becomes N, the raster of N starts, and a SOF and a BEACON are sent. -/
  | senderCadence (dt : Nat) (slots : List Nat)
  /-- RASTER_DEADLINE (R251): At C_N + W, an unfinished frame underruns with cause RASTER. -/
  | rasterDeadline (dt : Nat)
  /-- LATCH_INSTANT (R241): At Λ_N the configuration of frame N is fixed, armed values are applied, and the frame is queued. -/
  | latchInstant (dt : Nat) (needs : List (Nat × Nat))
  /-- COMMIT_GO (R242): A write of FRT_COMMIT.GO = 1 arms the pending RWS values. -/
  | commitGo (dt : Nat)
  /-- COMMIT_ENTRY (R242): A COMMIT entry arms the pending values and completes at the latch instant. -/
  | commitEntry
  /-- MODE_ENTRY (R249): A MODE entry installs a mode, or schedules a change and sends the mode letter. -/
  | modeEntry
  /-- FRT_ENABLE (R248): FRT_CTL.EN 0→1 takes the generator and starts the cadence. -/
  | frtEnable (dt : Nat) (v : Word)
  /-- FRT_DISABLE (R255): FRT_CTL.EN 1→0 stops the cadence, applies armed values and installs a pending mode. -/
  | frtDisable (dt : Nat) (v : Word)
  /-- PORT_ENABLE (R303): LNK_PCTL.EN 0→1 moves the port from OFF to DETECT. -/
  | portEnable (p : Nat) (v : Word)
  /-- PORT_DISABLE (R303): LNK_PCTL.EN 1→0 puts the port OFF with its transmitters idle. -/
  | portDisable (p : Nat) (v : Word)
  /-- PORT_RETRAIN (R303): LNK_PCTL.RETRAIN ends the attempt or leaves UP and goes to DETECT. -/
  | portRetrain (p : Nat) (v : Word)
  /-- PORT_TEST_ENTER (R300): LNK_PCTL.TEST = 1 puts the port in TEST. -/
  | portTestEnter (p : Nat) (v : Word)
  /-- PORT_TEST_EXIT (R303): TEST 1→0 sends the port to DETECT and resets LNK_LCTL. -/
  | portTestExit (p : Nat) (v : Word)
  /-- PRBS_INJECT (R307): A write of LNK_LCTL.INJ = 1 flips one transmitted bit. -/
  | prbsInject (i : Nat) (v : Word)
  /-- RECEIVER_DETECT (R281): Every 100 µs in DETECT, a receiver-detect pulse looks for far-end termination. -/
  | receiverDetect (dt : Nat) (p : Nat) (found : Nat)
  /-- PRESET_TRIAL (R283): During CDR, each 100 µs trial of a partner preset ends and the next one starts. -/
  | presetTrial (p : Nat) (o : TrialObs)
  /-- LINK_STAGE_DONE (R281): A bring-up stage meets its completion condition and the next stage starts. -/
  | linkStageDone (p : Nat) (o : StageObs)
  /-- LINK_ATTEMPT_FAIL (R286): A bring-up attempt fails by timeout or check and enters BACKOFF. -/
  | linkAttemptFail (x : AttemptEnd)
  /-- LINK_BACKOFF_END (R287): The back-off ends and the port returns to DETECT. -/
  | linkBackoffEnd (dt : Nat) (p : Nat)
  /-- CHAIN_DOWN (R288): An UP port goes DOWN on signal loss, errored codewords or partner retraining. -/
  | chainDown (p : Nat)
  /-- LANE_SPARE (R293): Loss on one logical lane starts sparing onto the pannier lane. -/
  | laneSpare (p : Nat) (n : Nat)
  /-- STEER_RECEIVE (R294): A valid STR block changes the lane copied onto the pannier lane. -/
  | steerReceive (p : Nat) (cmd : Nat) (ncmd : Nat)
  /-- STEER_REPEAT (R294): Every 256 blocks, the requester sends its STR again. -/
  | steerRepeat (x : After)
  /-- PANNIER_SWITCH (R292): After two matching trains, the receiver switches to or from the pannier copy at a block. -/
  | pannierSwitch (p : Nat)
  /-- ELASTIC_SLIP (R279): The elastic buffer fill reaches 0 or 16; it recentres and a runt results. -/
  | elasticSlip (x : SlipAt)
  /-- RESEED_TIMER (R270): With no SOF or RSD for 2^24 ns, the next block is RSD. -/
  | reseedTimer (dt : Nat) (p : Nat)
  /-- ADAPT_WINDOW (R295): At the end of a train window, the receiver adapts the CTLE and DFE or holds them frozen. -/
  | adaptWindow (p : Nat) (l : Nat) (diff : Nat) (taps : Taps)
  /-- MARGIN_MEASURE (R296): Every 100 µs the eye of each lane is measured, and a good snapshot may be taken. -/
  | marginMeasure (p : Nat) (l : Nat) (ew : Nat) (eh : Nat)
  /-- TIMING_PORT_CHANGE (R276): The timing port changes or goes down, and PLL_TX enters holdover. -/
  | timingPortChange
  /-- TIMING_PORT_LOCKED (R276): PLL_TX converges on the new source and the elastic buffer is bypassed. -/
  | timingPortLocked
  /-- CELL_FORWARD (R314): A received cell is forwarded cut-through to the other port. -/
  | cellForward (dt : Nat) (p : Nat) (raw : Bytes) (cv : List Nat) (disp : List Nat)
  /-- CANDIDATE_CORRECTED (R315): LNK finishes correcting a candidate cell and CHN classifies it again. -/
  | candidateCorrected
  /-- INSERT_QUEUE_TIMEOUT (R318): An inserted cell that has waited 1 ms is dropped. -/
  | insertQueueTimeout (dt : Nat) (p : Nat)
  /-- RUN_CELL (R328): A consumed RUN or CLEAR cell is checked, decrypted and written to the frame store. -/
  | runCell
  /-- ABORT_CELL (R322): An ABORT from the accepted stream discards the uncommitted frame's runs. -/
  | abortCell
  /-- BEACON_CELL (R396): A tile records a valid beacon's claim for the port. -/
  | beaconCell
  /-- PEER_BEACON (R400): A sender receives a peer beacon and adjusts its epoch or state. -/
  | peerBeacon
  /-- LETTER_SEGMENT (R331): A letter segment is joined into reassembly, and a complete letter is handed on. -/
  | letterSegment
  /-- REASSEMBLY_TIMEOUT (R331): A letter not completed 10 ms after its first segment is dropped. -/
  | reassemblyTimeout (dt : Nat)
  /-- REG_READ_LETTER (R335): A REG_READ letter reads BAR0 registers and replies with their values. -/
  | regReadLetter
  /-- REG_WRITE_LETTER (R335): A REG_WRITE letter writes BAR0 registers entry by entry and replies. -/
  | regWriteLetter
  /-- RING_FILL_LETTER (R123): A RING_FILL letter writes entries into a ring-memory queue and advances TAIL. -/
  | ringFillLetter
  /-- RING_READ_LETTER (R336): A RING_READ letter returns ring entries with their trailers. -/
  | ringReadLetter
  /-- MODE_LETTER (R436): A tile applies, schedules or ignores a MODE letter according to its state. -/
  | modeLetter
  /-- CERT_GET_LETTER (R538): A CERT_GET letter returns the certificate chain. -/
  | certGetLetter
  /-- KEY_WRAP_LETTER (R551): A KEY_WRAP is unwrapped in SEC and installs keys into a slot. -/
  | keyWrapLetter
  /-- QUOTE_REQ_LETTER (R545): A QUOTE_REQ queues a signed quote and replies with it. -/
  | quoteReqLetter
  /-- KEY_DROP_LETTER (R333): A KEY_DROP letter empties the named key slot. -/
  | keyDropLetter
  /-- PARCEL_DATA (R573): A DATA parcel is checked and programmed into the staging slot. -/
  | parcelData
  /-- PARCEL_QUERY (R574): A QUERY parcel returns the staging state and a bitmap window. -/
  | parcelQuery
  /-- PARCEL_ARM (R576): An ARM parcel arms activation at frame F or now. -/
  | parcelArm
  /-- PARCEL_ABANDON (R574): An ABANDON parcel returns staging to IDLE. -/
  | parcelAbandon
  /-- SNAP_PART_LETTER (R408): A SNAP_PART is written into the staging bank or ignored. -/
  | snapPartLetter (host : HostRes)
  /-- SNAP_COMMIT_LETTER (R408): A SNAP_COMMIT installs a complete snapshot, or discards or waits for it. -/
  | snapCommitLetter (host : HostRes)
  /-- SNAP_WAIT_TIMEOUT (R408): A commit whose parts are still missing after 20 ms is discarded. -/
  | snapWaitTimeout (dt : Nat)
  /-- INBOX_RECORD (R340): A sender stores an event, receipt, stray reply or peer letter in its inbox. -/
  | inboxRecord
  /-- SEND_ENTRY (R339): A SEND entry sends a letter on its ports. -/
  | sendEntry (host : HostRes)
  /-- SEND_REPLY (R339): A reply to a SEND arrives and is written as a reply record. -/
  | sendReply
  /-- SEND_TIMEOUT (R339): LETTERTO ms pass; a unicast SEND times out or a broadcast SEND completes. -/
  | sendTimeout (dt : Nat)
  /-- INBOX_ENABLE (R354): CHN_INBOX.EN 0→1 resets WR and RD. -/
  | inboxEnable (v : Word)
  /-- INBOX_RD_WRITE (R354): A write of CHN_INBOXIDX.RD frees consumed inbox records. -/
  | inboxRdWrite (rd : Nat)
  /-- ROLLCALL_CELL (R346): A tile adopts a postcode from a ROLLCALL, regenerates the cell and replies. -/
  | rollcallCell
  /-- SYNC_POSTMARK (R373): A SYNC postmark is used for the offset, and regenerated with its CORR updated. -/
  | syncPostmark
  /-- PREQ_POSTMARK (R371): A PREQ is answered with a PRESP within 10 µs. -/
  | preqPostmark
  /-- PRESP_POSTMARK (R371): A PRESP yields a link delay measurement for the mean. -/
  | prespPostmark
  /-- PREQ_SEND (R371): A PREQ is sent on the burst schedule after UP, and then every PDINT ms. -/
  | preqSend (dt : Nat) (p : Nat)
  /-- PREQ_LOST (R371): A PREQ with no PRESP within 1 ms is counted as lost. -/
  | preqLost (x : After)
  /-- SYNC_LOSS (R375): No used SYNC for LOSSUS µs puts the servo in HOLDOVER. -/
  | syncLoss (dt : Nat)
  /-- TIME_WRAP (R359): TIME_NS wraps and TIM_WRAPS increments. -/
  | timeWrap
  /-- TIME_ADJ_STEP (R360): A write of TIM_ADJ steps the extended time. -/
  | timeAdjStep (step : Nat)
  /-- REF_ARM (R366): A write of TIM_REFCFG.ARM = 1 arms the reference. -/
  | refArm (v : Word)
  /-- REFERENCE_EDGE (R367): A reference edge arrives; the armed edge steps the time, later edges steer it. -/
  | referenceEdge (dt : Nat) (eighths : Nat) (fall : Bool)
  /-- REFERENCE_LOSS (R367): No reference edge for 1.5 periods puts a SOURCE in HOLDOVER. -/
  | referenceLoss (dt : Nat)
  /-- GENERATOR_ENABLE (R380): A write of TIM_PGCFG.EN = 1 is checked and starts a pulse generator. -/
  | generatorEnable (dt : Nat) (g : Nat) (v : Word)
  /-- GENERATOR_DISABLE (R380): A write of TIM_PGCFG.EN = 0 stops a generator at a TIME tick. -/
  | generatorDisable (dt : Nat) (g : Nat) (v : Word)
  /-- GENERATOR_PULSE (R379): A generator instant fires, drives TRIG_OUT and reaches its consumers. -/
  | generatorPulse (dt : Nat) (g : Nat) (slots : List Nat)
  /-- CAPTURE_EDGE (R383): A capture input edge is stamped, filtered or dropped. -/
  | captureEdge (dt : Nat) (c : Nat) (eighths : Nat) (fall : Bool)
  /-- CADGEN_WRITE (R377): A write of TIM_CFG.CADGEN moves the tile cadence reservation to another generator. -/
  | cadgenWrite (g : Nat) (v : Word)
  /-- TAN_ENABLE (R400): TAN_CFG.EN 0→1 sets the claim, takes the generator and enters STANDBY. -/
  | tanEnable (v : Word)
  /-- TAN_DISABLE (R400): TAN_CFG.EN 1→0 stops the beacons and releases the generator. -/
  | tanDisable (v : Word)
  /-- HEARTBEAT_PULSE (R399): A heartbeat pulse sends a BEACON on every enabled port and ends a heartbeat window. -/
  | heartbeatPulse (dt : Nat)
  /-- TAN_TAKE (R411): A write of TAN_CTL.TAKE = 1 forces a takeover from STANDBY. -/
  | tanTake (v : Word)
  /-- REVERT_HOLD_EXPIRY (R402): The revert conditions have held for HOLDS seconds and the preferred standby takes over. -/
  | revertHoldExpiry (dt : Nat)
  /-- TAN_RENUM (R404): A write of TAN_RENUM renumbers the active's epoch. -/
  | tanRenum (epoch : Nat)
  /-- SNAP_ENTRY (R406): A SNAP entry sends a snapshot generation as parts and a commit. -/
  | snapEntry (host : HostRes)
  /-- SNAP_COMMIT_REPEAT (R406): Once per second, the commit of the latest generation is sent again. -/
  | snapCommitRepeat (dt : Nat)
  /-- CLAIM_EXPIRY (R396): A port's claim expires 300 µs after its last valid beacon. -/
  | claimExpiry (dt : Nat) (p : Nat)
  /-- TILE_CADENCE (R397): At C_N the tile chooses the stream for frame N and applies a pending mode. -/
  | tileCadence (dt : Nat)
  /-- COMMIT_INSTANT (R418): At A_N the frame is committed or missed, and the R432 samples are taken. -/
  | commitInstant (dt : Nat)
  /-- SLOT_LATCH (R435): At S_{N,s} slot data is latched, or the slot is blanked if it is late. -/
  | slotLatch (dt : Nat) (late : Bool)
  /-- LMP_CURVE_LOAD (R424): An LMP CURVE entry loads a stream decode slot for the next commit instant. -/
  | lmpCurveLoad (host : HostRes)
  /-- DIM_WRITE (R429): A write of LMP_DIM arms a dimming ramp. -/
  | dimWrite (dt : Nat) (v : Word)
  /-- LMP_ENABLE (R442): LMP_CTL.EN 0→1 starts commits at the next commit instant. -/
  | lmpEnable (v : Word)
  /-- LMP_DISABLE (R442): LMP_CTL.EN 1→0 drops LAMP_EN and stops commits. -/
  | lmpDisable (v : Word)
  /-- SVC_PRESS (R440): A short press of SVC_N toggles the locator and sends SVC_PRESS. -/
  | svcPress (dt : Nat)
  /-- SVC_LONG_HOLD (R440): SVC_N held for 5 s starts the self-test. -/
  | svcLongHold (dt : Nat)
  /-- LOCATOR_END (R440): The locator ends after 30 s. -/
  | locatorEnd (dt : Nat)
  /-- SELF_TEST_END (R440): The self-test ends by itself after 16 s. -/
  | selfTestEnd (dt : Nat)
  /-- SPK_ENABLE (R466): SPK_CTL.EN 0→1 starts the clocks and brings up every enabled spoke. -/
  | spkEnable (v : Word)
  /-- SPK_DISABLE (R475): SPK_CTL.EN 1→0 puts the spokes and scan outputs in their Reset states. -/
  | spkDisable (v : Word)
  /-- SPOKE_BRINGUP_RETRY (R466): Once every 1 s, a spoke in FAULT is brought up again. -/
  | spokeBringupRetry (dt : Nat) (n : Nat)
  /-- DRIVER_STAT_POLL (R467): Once per second, STAT is read from every driver of each spoke in RUN. -/
  | driverStatPoll (dt : Nat)
  /-- SPK_RELOAD (R468): SPK_CTL.RELOAD rewrites ICODE to every driver. -/
  | spkReload
  /-- LATCH_SEND (R463): At T_ref the LATCH packet is sent on each spoke. -/
  | latchSend (dt : Nat) (late : Bool) (pads : List (Nat × Nat))
  /-- LINE_SLOT (R453): A line slot begins with blanking and discharge, then scan enable and the ON window. -/
  | lineSlot (dt : Nat)
  /-- SLOT_EMISSION_END (R454): The last ON window ends, and the final discharge and scan group compare follow. -/
  | slotEmissionEnd (dt : Nat) (pads : List (Nat × Nat))
  /-- READ_ANSWER (R462): A driver's answer to a READ arrives on SPKn_RET. -/
  | readAnswer (n : Nat) (b : Bytes)
  /-- READ_ABSENT (R462): No start bit within 20 µs, or a failed CRC; the READ is repeated up to twice. -/
  | readAbsent (x : After)
  /-- DETECTION_READ (R472): After a detection slot, SPK reads fault results from the drivers. -/
  | detectionRead (n : Nat) (d : Nat) (reg : Nat) (b : Bytes)
  /-- FAULT_TABLE_CLEAR (R477): SPK_FDCTL.CLEAR empties the fault table and lifts automasks. -/
  | faultTableClear
  /-- READBACK_SPOKE_CLEAR (R478): Clearing a bit of SPK_RBSPK ends that spoke's darkening. -/
  | readbackSpokeClear (mask : Nat)
  /-- DRAM_READ_REQUEST (R493): A read request reaches DRC and waits on any pending write to its block. -/
  | dramReadRequest (dt : Nat) (port : Nat) (cls : Nat) (block : Nat)
  /-- DRAM_READ_RETURN (R485): Read data is ECC-checked, corrected and written back, or fails with INTEGRITY. -/
  | dramReadReturn (dt : Nat) (port : Nat) (block : Nat) (err : List (Nat × Nat))
  /-- DRAM_WRITE_REQUEST (R491): A whole-block write request is queued and issued. -/
  | dramWriteRequest (dt : Nat) (port : Nat) (cls : Nat) (block : Nat) (data : Bytes) (issue : Bool)
  /-- DRAM_PARTIAL_WRITE (R483): A partial write runs as a read-modify-write. -/
  | dramPartialWrite (dt : Nat) (x : PartAt) (off : Nat) (data : Bytes) (err : List (Nat × Nat))
  /-- REFRESH_DUE (R495): A refresh falls due every tREFI and is postponed, issued, or forced. -/
  | refreshDue (dt : Nat) (c : Nat) (rank : Nat)
  /-- REFRESH_PULLIN (R495): A rank idle for IDLE × 10 ns pulls refreshes in. -/
  | refreshPullin (dt : Nat) (c : Nat) (rank : Nat)
  /-- PATROL_SCRUB (R486): Patrol reads cover every block once per SCRUBH hours. -/
  | patrolScrub (dt : Nat) (err : List (Nat × Nat))
  /-- MR4_POLL (R494): Every 16 ms the device MR4 rate is read and tREFI updated. -/
  | mr4Poll (quarters : Nat)
  /-- SELF_REFRESH_ENTRY (R497): An idle channel enters self-refresh unless a request aborts the entry. -/
  | selfRefreshEntry (dt : Nat) (c : Nat)
  /-- SELF_REFRESH_EXIT (R497): A channel leaves self-refresh within 2 µs and retracks. -/
  | selfRefreshExit (dt : Nat) (c : Nat)
  /-- FREQ_CHANGE_GO (R498): DRC_FREQ.GO moves every channel to another set-point. -/
  | freqChangeGo (v : Word)
  /-- FREQ_CHANGE_TIMEOUT (R498): Entry not completed within 100 ms ends the change with ABORTED. -/
  | freqChangeTimeout (dt : Nat)
  /-- DRAM_TRACK_STEP (R528): Every 16 ms CAL interpolates and tracks the DRAM lane values in use. -/
  | dramTrackStep (dt : Nat) (osc : List Nat)
  /-- STANDBY_RETRAIN (R530): A channel is retrained at STANDBY entry and then every RETRAINH hours. -/
  | standbyRetrain (dt : Nat) (c : Nat) (ok : Bool) (l : List LTrain)
  /-- SENSOR_SAMPLE (R503): Each ms THM samples every sensor and updates Tj and the band. -/
  | sensorSample (dt : Nat) (od : List Int) (td : List (Int × Nat))
  /-- THROTTLE_STEP_DOWN (R507): A throttle cause steps the ceiling or quality down at once, then on a 2 s grid. -/
  | throttleStepDown (dt : Nat)
  /-- THROTTLE_STEP_UP (R508): Every 10 s under good conditions, THM steps back up once. -/
  | throttleStepUp (dt : Nat)
  /-- THM_FAIL_CLEAR (R509): Clearing a FAILED bit of a valid sensor ends the fail hold. -/
  | thmFailClear (mask : Nat)
  /-- T5_SHUTDOWN (R511): Tj staying in T5 for 10 ms starts an orderly shut-down. -/
  | t5Shutdown (dt : Nat)
  /-- ORDERLY_SHUTDOWN (R511): Orderly shut-down darkens the lamps, finishes flash work, writes the journal and enters OFF. -/
  | orderlyShutdown
  /-- HARDWARE_TRIP (R512): A trip comparator fires at 120 °C; the trip latch is set and cold reset held. -/
  | hardwareTrip (k : Nat)
  /-- POWER_REQUEST (R515): A write of THM_PWR.REQ sets the target power state and starts the walk. -/
  | powerRequest (req : Nat)
  /-- POWER_STATE_REACHED (R515): An intermediate power state is reached and the walk continues. -/
  | powerStateReached (dt : Nat)
  /-- RECAL_START (R521): Every INTV seconds CAL starts recalibrating the next lane. -/
  | recalStart (dt : Nat)
  /-- RECAL_MANUAL_START (R533): CAL_CTL.START recalibrates the named lane now. -/
  | recalManualStart (v : Word)
  /-- RECAL_PANNIER_MATCHED (R522): The pannier copy matches, the receiver uses it, and the sweep begins. -/
  | recalPannierMatched
  /-- RECAL_MEASURE_WINDOW (R522): A 10 µs measurement window of one tap trial ends. -/
  | recalMeasureWindow (dt : Nat) (diff : Nat) (ew : Nat) (eh : Nat)
  /-- RECAL_LANE_MATCHED (R522): The lane with its chosen taps has matched the copy for two trains. -/
  | recalLaneMatched (ok : Bool)
  /-- RECAL_SWITCH_BACK (R522): At the next SOF, or at an RSD after 50 ms, the receiver switches back to the lane. -/
  | recalSwitchBack (dt : Nat) (sof : Bool)
  /-- RECAL_ABORT (R525): A recalibration ends without completing and the saved taps stay in force. -/
  | recalAbort (c : Status)
  /-- CAL_DISABLE (R533): CAL_CTL.EN 1→0 ends a running recalibration. -/
  | calDisable (v : Word)
  /-- CAL_SET_SAVE (R531): Changed calibration sets are written to flash at most every 10 minutes. -/
  | calSetSave (dt : Nat)
  /-- KEYSET_ENTRY (R548): KEYSET opens a new enrol session with a fresh group key. -/
  | keysetEntry
  /-- ENROL_ENTRY (R549): ENROL starts with CERT_GET to the tile. -/
  | enrolEntry
  /-- ENROL_REPLY (R549): A reply to an ENROL letter arrives and the enrolment advances or ends. -/
  | enrolReply
  /-- ENROL_TIMEOUT (R549): An ENROL letter gets no reply within LETTERTO ms. -/
  | enrolTimeout (dt : Nat)
  /-- SWITCH_ENTRY (R552): SWITCH schedules the pending key entries to become current at frame F. -/
  | switchEntry
  /-- QUOTE_ENTRY (R546): QUOTE queues a signed quote written to a surface. -/
  | quoteEntry (host : HostRes)
  /-- EXTEND_ENTRY (R544): EXTEND extends M6 with a 64-byte digest. -/
  | extendEntry (host : HostRes)
  /-- LIFE_ENTRY (R540): LIFE checks a token and applies its lifecycle or debug action. -/
  | lifeEntry (host : HostRes)
  /-- DBGTOKEN (R541): The DBGTOKEN instruction delivers a token and captures the check code. -/
  | dbgtoken (t : Bytes)
  /-- DBGNONCE (R541): The DBGNONCE instruction reads a fresh token nonce. -/
  | dbgnonce
  /-- REGACC (R541): The REGACC instruction reads or writes a BAR0 register. -/
  | regacc (off : Nat) (v : Option Word)
  /-- MEMACC (R541): The MEMACC instruction accesses SRAM or DRAM at VENDOR-DEBUG. -/
  | memacc (sram : Bool) (addr : Nat) (n : Nat) (data : Option Bytes)
  /-- TRACE (R541): The TRACE instruction captures fabric and service-core trace. -/
  | trace (n : Nat)
  /-- EXTEST (R541): The EXTEST instruction drives the pads, with the lamp pads held in their Reset states. -/
  | extest
  /-- SIGN_ENGINE_DONE (R547): A P-521 operation completes and the next queued operation starts. -/
  | signEngineDone (dt : Nat)
  /-- RECEIPT_INTERVAL_CLOSE (R556): A receipt interval closes at its commit instant and signing is queued. -/
  | receiptIntervalClose (dt : Nat)
  /-- RECEIPT_SIGNED (R558): A signed receipt is sent, or held and dropped when no port is UP. -/
  | receiptSigned
  /-- CRC_RECORD_WRITE (R559): A sender writes the per-frame CRC record by C_{N+1} + 1 ms. -/
  | crcRecordWrite (dt : Nat)
  /-- STAGE_ENTRY (R582): STAGE applies parcels from a local surface. -/
  | stageEntry (host : HostRes)
  /-- PUSH_ENTRY (R582): PUSH sends parcels as PARCEL letters within the rate cap. -/
  | pushEntry (host : HostRes)
  /-- ACTIVATE_ENTRY (R576): ACTIVATE arms activation locally. -/
  | activateEntry
  /-- CONFIRM_ENTRY (R579): CONFIRM records host confirmation of a trial. -/
  | confirmEntry
  /-- ABANDON_ENTRY (R574): ABANDON returns staging to IDLE. -/
  | abandonEntry
  /-- HOSTIMG_ENTRY (R582): HOSTIMG copies a host image part into a surface and extends M5. -/
  | hostimgEntry
  /-- UPD_CONFIRM_WRITE (R585): A write of UPD_CTL.CONFIRM = 1 records host confirmation. -/
  | updConfirmWrite
  /-- UPD_ABANDON_WRITE (R585): A write of UPD_CTL.ABANDON = 1 abandons staging. -/
  | updAbandonWrite
  /-- VERIFY_DONE (R575): Verification of the staging slot ends as STAGED or fails. -/
  | verifyDone
  /-- ACTIVATION_INSTANT (R577): At the activation instant, a candidate state record is written and a warm reset requested. -/
  | activationInstant (dt : Nat)
  /-- TRIAL_CONFIRM (R579): The confirmation conditions hold; the candidate becomes current and the SVN is fused. -/
  | trialConfirm
  /-- CONFIRM_WINDOW_EXPIRY (R579): The confirmation window ends unconfirmed and the unit warm-resets. -/
  | confirmWindowExpiry (dt : Nat)
  /-- RECOVERY_GO (R583): UPD_RECOV.GO checks and runs a recovery image loaded in FAIL. -/
  | recoveryGo (len : Nat)
  /-- BLOCK_RECEIVE (R269): A receiver recognises a block (FWB, SOF, RSD) on its deskewed lanes: the codeword count restarts, a cut-short slot becomes a runt, the scrambler reloads at SOF or RSD, and an elastic buffer may insert or delete a FIL. -/
  | blockReceive (p : Nat) (coms : Nat) (marks : List Nat) (o : BlockObs)
  /-- PLL_UNLOCK (R74): An ungated PLL loses lock and its bit in CLK_LOCK.UNLOCK is set. -/
  | pllUnlock (k : Nat)
  /-- FLASH_OPERATION_DONE (R570): A flash program or erase issued by NVM finishes, NVM_STAT.BUSY clears, and its read-back and map bits (or the journal, state or calibration record) complete. -/
  | flashOperationDone (ok : Bool)
  /-- PUSH_REPLY (R582): A reply to a QUERY or DATA letter sent by a PUSH entry arrives; PUSH records its code, sends only missing parcels, and ends at the first code that is not OK. -/
  | pushReply
  /-- PCIE_D3HOT_CHANGE (R97): The host moves the function into or out of D3hot, and the function stops or resumes decoding BAR0 and BAR2. -/
  | pcieD3hotChange (b : Bool)
  deriving DecidableEq, Repr

end Sys2Proof
end

