-- ==== Sys2Proof/Machine/Operands.lean ====
section
/-! DEFINITION. Operand forms: fields of byte strings (little-endian in ring entries and surface records, most significant
byte first on the chain, the spokes and in flash, R1), bit fields, fixed-point and modular numbers, the check codes
CRC-8, CRC-16, CRC-32 and CRC-64, and the Reed-Solomon codes of the chain (R272) and of the DRAM (R484). -/

namespace Sys2Proof.Machine

/-! ### Bit fields of natural numbers -/

/-- Bits [lo + w - 1 : lo] of `n`. -/
def bits (n lo w : Nat) : Nat := n / 2 ^ lo % 2 ^ w

/-- Bit `k` of `n`. -/
def bit (n k : Nat) : Bool := n.testBit k

/-- `n` with bits [lo + w - 1 : lo] replaced by the low `w` bits of `v`. -/
def putBits (n lo w v : Nat) : Nat :=
  n / 2 ^ (lo + w) * 2 ^ (lo + w) + v % 2 ^ w * 2 ^ lo + n % 2 ^ lo

/-- `n` with bit `k` set or cleared. -/
def putBit (n k : Nat) (b : Bool) : Nat := putBits n k 1 (if b then 1 else 0)

/-- 1 for true, 0 for false. -/
def b2n (b : Bool) : Nat := if b then 1 else 0

/-- The low `w` bits of `n` read as a two's complement number. -/
def signed (w n : Nat) : Int := if n % 2 ^ w < 2 ^ (w - 1) then (n % 2 ^ w : Nat) else (n % 2 ^ w : Nat) - (2 ^ w : Nat)

/-- An integer as `w` bits of two's complement. -/
def unsign (w : Nat) (i : Int) : Nat := (i % (2 ^ w : Nat)).toNat

/-- Addition that stops at `top` (saturating counters). -/
def satAdd (top a b : Nat) : Nat := min top (a + b)

/-- Clip an integer into [lo, hi]. -/
def clip (lo hi x : Int) : Int := if x < lo then lo else if hi < x then hi else x

/-- Rounding to the nearest integer of a / d for d > 0, a half toward +infinity. -/
def rdiv (a : Int) (d : Nat) : Int := (2 * a + d) / (2 * (d : Int))

/-! ### Modular comparison (R361) -/

/-- (a - b) mod 2^w. -/
def msub (w a b : Nat) : Nat := (a % 2 ^ w + 2 ^ w - b % 2 ^ w) % 2 ^ w

/-- Is `a` strictly after `b` in the modular order of width `w`: (a - b) mod 2^w in [1, 2^(w-1))? -/
def mafter (w a b : Nat) : Bool := 0 < msub w a b && msub w a b < 2 ^ (w - 1)

/-- Is `a` at or after `b` in the modular order of width `w`? -/
def matOrAfter (w a b : Nat) : Bool := msub w a b < 2 ^ (w - 1)

/-! ### Byte strings -/

/-- A byte from a number. -/
def byte (n : Nat) : Byte := BitVec.ofNat 8 n

/-- Byte `i`, 0x00 beyond the end. -/
def byteAt (b : Bytes) (i : Nat) : Nat := (b.getD i 0#8).toNat

/-- `n` bytes from offset `off`; bytes beyond the end read 0x00. -/
def slice (b : Bytes) (off n : Nat) : Bytes := (List.range n).map (fun i => b.getD (off + i) 0#8)

/-- The first `n` bytes, filled with 0x00 to that length. -/
def fit (n : Nat) (b : Bytes) : Bytes := slice b 0 n

/-- `n` bytes of 0x00. -/
def zeros (n : Nat) : Bytes := List.replicate n 0#8

/-- The number whose bytes, least significant first, are `b`. -/
def leNat : Bytes → Nat
  | [] => 0
  | x :: t => x.toNat + 256 * leNat t

/-- The number whose bytes, most significant first, are `b`. -/
def beNat (b : Bytes) : Nat := b.foldl (fun a x => a * 256 + x.toNat) 0

/-- The low `n` bytes of `v`, least significant first. -/
def leBytes : Nat → Nat → Bytes
  | 0, _ => []
  | n + 1, v => byte v :: leBytes n (v / 256)

/-- The low `n` bytes of `v`, most significant first. -/
def beBytes (n v : Nat) : Bytes := (leBytes n v).reverse

/-- Little-endian field of `n` bytes at `off`. -/
def leAt (b : Bytes) (off n : Nat) : Nat := leNat (slice b off n)

/-- Field of `n` bytes at `off`, most significant byte first. -/
def beAt (b : Bytes) (off n : Nat) : Nat := beNat (slice b off n)

/-- `b` with the bytes of `p` written from offset `off` on; the length does not change. -/
def patch (b : Bytes) (off : Nat) (p : Bytes) : Bytes :=
  (List.range b.length).map (fun i => if off ≤ i && i < off + p.length then p.getD (i - off) 0#8 else b.getD i 0#8)

/-- Are all bytes 0x00? -/
def allZero (b : Bytes) : Bool := b.all (fun x => x == 0#8)

/-- The bits of a byte string, bit 7 of byte 0 first. -/
def toBits (b : Bytes) : List Bool :=
  b.flatMap (fun x => (List.range 8).map (fun i => x.toNat.testBit (7 - i)))

/-- The number whose bits, most significant first, are given. -/
def ofBits (l : List Bool) : Nat := l.foldl (fun a b => 2 * a + b2n b) 0

/-- `n` bits of `v`, most significant first. -/
def bitsBE (n v : Nat) : List Bool := (List.range n).map (fun i => v.testBit (n - 1 - i))

/-- Pack bits into bytes, bit 7 first; the last byte is filled with 0 bits. -/
def packBits (l : List Bool) : Bytes :=
  (List.range ((l.length + 7) / 8)).map (fun i => byte (ofBits ((List.range 8).map (fun j => l.getD (8 * i + j) false))))

/-- Cut a byte string into pieces of `n` bytes (n > 0); the last may be shorter. `fuel` bounds the pieces. -/
def chunksOf (n : Nat) : Nat → Bytes → List Bytes
  | 0, _ => []
  | fuel + 1, b => if b.isEmpty then [] else b.take n :: chunksOf n fuel (b.drop n)

/-- Fill with 0x00 up to a multiple of `n` bytes. -/
def padTo (n : Nat) (b : Bytes) : Bytes := b ++ zeros ((n - b.length % n) % n)

/-! ### Check codes -/

/-- One bit of a most-significant-first CRC of width `w` and polynomial `poly`. -/
def crcStep (w poly : Nat) (c : Nat) (b : Bool) : Nat :=
  let top := xor (c.testBit (w - 1)) b
  let c' := c * 2 % 2 ^ w
  if top then c' ^^^ poly else c'

/-- CRC, most significant bit first, not reflected. -/
def crcBE (w poly init : Nat) (bs : List Bool) : Nat := bs.foldl (crcStep w poly) init

/-- CRC-8 of the cell header (R310): x^8 + x^2 + x + 1, initial value 0. -/
def crc8 (b : Bytes) : Nat := crcBE 8 0x07 0 (toBits b)

/-- One bit of a reflected CRC whose reflected polynomial is `rpoly`. -/
def crcStepR (rpoly : Nat) (c : Nat) (b : Bool) : Nat :=
  if xor (c.testBit 0) b then (c / 2) ^^^ rpoly else c / 2

/-- The bits of a byte string, bit 0 of each byte first. -/
def toBitsR (b : Bytes) : List Bool := b.flatMap (fun x => (List.range 8).map (fun i => x.toNat.testBit i))

/-- CRC-32 of R327: polynomial 0x04C11DB7, reflected, initial value and final XOR 0xFFFFFFFF. -/
def crc32 (b : Bytes) : Nat := (toBitsR b).foldl (crcStepR 0xEDB88320) 0xFFFFFFFF ^^^ 0xFFFFFFFF

/-- CRC-64 of R555: polynomial 0x42F0E1EBA9EA3693, initial value and final XOR all ones, not reflected. -/
def crc64 (b : Bytes) : Nat := crcBE 64 0x42F0E1EBA9EA3693 0xFFFFFFFFFFFFFFFF (toBits b) ^^^ 0xFFFFFFFFFFFFFFFF

/-! ### Finite fields and Reed-Solomon codes -/

/-- A binary field GF(2^m) with its reduction polynomial (bit m set). -/
structure GF where
  m : Nat
  poly : Nat
  deriving DecidableEq, Repr

/-- Multiplication by x. -/
def GF.dbl (g : GF) (a : Nat) : Nat := if a.testBit (g.m - 1) then (a * 2) ^^^ g.poly else a * 2

/-- Product of two field elements; `n` counts the bits of `b` still to take. -/
def GF.mulN (g : GF) : Nat → Nat → Nat → Nat
  | 0, _, _ => 0
  | n + 1, a, b => (if b.testBit 0 then a else 0) ^^^ g.mulN n (g.dbl a) (b / 2)

/-- Product of two field elements. -/
def GF.mul (g : GF) (a b : Nat) : Nat := g.mulN g.m a b

/-- Power of a field element. -/
def GF.pow (g : GF) (a : Nat) : Nat → Nat
  | 0 => 1
  | n + 1 => g.mul a (g.pow a n)

/-- a^(2^k - 1) by repeated squaring and multiplying: (a^(2^(k-1) - 1))^2 · a. -/
def GF.powM1 (g : GF) (a : Nat) : Nat → Nat
  | 0 => 1
  | k + 1 => let r := g.powM1 a k; g.mul (g.mul r r) a

/-- Inverse of a nonzero element: a^(2^m - 2) = (a^(2^(m-1) - 1))^2. -/
def GF.inv (g : GF) (a : Nat) : Nat := let r := g.powM1 a (g.m - 1); g.mul r r

/-- Value of a polynomial, coefficients from the highest power down, at `x` (Horner). -/
def GF.evalDesc (g : GF) (cs : List Nat) (x : Nat) : Nat := cs.foldl (fun a c => g.mul a x ^^^ c) 0

/-- Value of a polynomial, coefficients from x^0 up, at `x`. -/
def GF.evalAsc (g : GF) (cs : List Nat) (x : Nat) : Nat := g.evalDesc cs.reverse x

/-- a · (x + r), coefficients from the highest power down. -/
def GF.mulRoot (g : GF) (a : List Nat) (r : Nat) : List Nat :=
  List.zipWith (· ^^^ ·) (a ++ [0]) (0 :: a.map (fun c => g.mul c r))

/-- The generator ∏ (x - α^i) for i from `first`, `n` factors, α = 2; highest power first. -/
def GF.generator (g : GF) (first : Nat) : Nat → List Nat
  | 0 => [1]
  | n + 1 => g.mulRoot (g.generator first n) (g.pow 2 (first + n))

/-- Parity of a systematic code: remainder of data · x^p by the generator, highest power first. -/
def GF.parity (g : GF) (gen : List Nat) (data : List Nat) : List Nat :=
  let p := gen.length - 1
  data.foldl (fun (r : List Nat) d =>
    let f := d ^^^ r.headD 0
    List.zipWith (· ^^^ ·) (r.drop 1 ++ [0]) ((gen.drop 1).map (fun c => g.mul f c))) (List.replicate p 0)

/-- The syndromes of a word: its value at α^first … α^(first + p - 1). -/
def GF.syndromes (g : GF) (first p : Nat) (word : List Nat) : List Nat :=
  (List.range p).map (fun i => g.evalDesc word (g.pow 2 (first + i)))

/-- Discrepancy of the Berlekamp-Massey step `n` for the locator `c` (coefficients from x^0 up) of length `l`. -/
def GF.discrepancy (g : GF) (s c : List Nat) (l n : Nat) : Nat :=
  (List.range (l + 1)).foldl (fun a i => if i ≤ n then a ^^^ g.mul (c.getD i 0) (s.getD (n - i) 0) else a) 0

/-- c + k · x^m · b, coefficients from x^0 up. -/
def GF.addShift (g : GF) (c b : List Nat) (k m : Nat) : List Nat :=
  let b' := List.replicate m 0 ++ b.map (fun v => g.mul k v)
  (List.range (max c.length b'.length)).map (fun i => c.getD i 0 ^^^ b'.getD i 0)

/-- Berlekamp-Massey: the error locator of the syndromes, with its length. State: locator c, previous b, length l,
gap m, previous discrepancy d. -/
def GF.bm (g : GF) (s : List Nat) : Nat → Nat → List Nat → List Nat → Nat → Nat → Nat → List Nat × Nat
  | 0, _, c, _, l, _, _ => (c, l)
  | fuel + 1, n, c, b, l, m, db =>
    let d := g.discrepancy s c l n
    if d = 0 then g.bm s fuel (n + 1) c b l (m + 1) db
    else
      let c' := g.addShift c b (g.mul d (g.inv db)) m
      if 2 * l ≤ n then g.bm s fuel (n + 1) c' c (n + 1 - l) 1 d
      else g.bm s fuel (n + 1) c' b l (m + 1) db

/-- Bounded-distance decoding of an RS word (highest power first) with `p` parity symbols and roots from α^first:
the corrected word and the number of symbols changed; `none` where more than p / 2 symbols are wrong. -/
def GF.rsDecode (g : GF) (first p : Nat) (word : List Nat) : Option (List Nat × Nat) :=
  let s := g.syndromes first p word
  if s.all (· == 0) then some (word, 0)
  else
    let (c, l) := g.bm s p 0 [1] [1] 0 1 1
    let n := word.length
    -- position j from the end has locator α^j; it is in error when c(α^-j) = 0
    let errs := (List.range n).filter (fun j => g.evalAsc c (g.inv (g.pow 2 j)) == 0)
    if errs.length ≠ l ∨ 2 * l > p then none
    else
      -- Forney: omega = s · c mod x^p; value = X^(1-first) · omega(X^-1) / c'(X^-1)
      let omega := (List.range p).map (fun k => (List.range (k + 1)).foldl (fun a i => a ^^^ g.mul (c.getD i 0) (s.getD (k - i) 0)) 0)
      let dc := (List.range (c.length - 1)).map (fun i => if i % 2 = 0 then c.getD (i + 1) 0 else 0)
      let val (j : Nat) : Nat :=
        let x := g.pow 2 j
        let xi := g.inv x
        let k := if first = 0 then x else if first = 1 then 1 else g.pow xi (first - 1)
        g.mul k (g.mul (g.evalAsc omega xi) (g.inv (g.evalAsc dc xi)))
      let fixed := (List.range n).map (fun i => let j := n - 1 - i; if errs.contains j then word.getD i 0 ^^^ val j else word.getD i 0)
      if (g.syndromes first p fixed).all (· == 0) then some (fixed, l) else none

/-- The field of the DRAM code (R484): GF(2^16), x^16 + x^12 + x^3 + x + 1. -/
def gfDram : GF := ⟨16, 0x1100B⟩

/-- The 32 data symbols of a 64-byte DRAM block: its little-endian 16-bit words (R484). -/
def dramSymbols (b : Bytes) : List Nat := (List.range (b.length / 2)).map (fun i => leAt b (2 * i) 2)

/-- The 8 parity bytes of a 64-byte block (R484). -/
def dramParity (b : Bytes) : Bytes :=
  (gfDram.parity (gfDram.generator 0 4) (dramSymbols b)).flatMap (leBytes 2)

/-- Decoding of a block read with its parity (R484, R485): the corrected block and the number of symbols changed. -/
def dramDecode (block parity : Bytes) : Option (Bytes × Nat) :=
  match gfDram.rsDecode 0 4 (dramSymbols (fit 64 block) ++ dramSymbols (fit 8 parity)) with
  | some (w, n) => some ((w.take 32).flatMap (leBytes 2), n)
  | none => none

end Sys2Proof.Machine
end

