-- ==== Sys2Proof/Machine/Light.lean ====
section
/-! DEFINITION. The arithmetic of light: the stages of R202 from a layer's bytes to an output code (R203 to R222), the
ramps of R218, and the address book's placement (R224). -/

namespace Sys2Proof.Machine

/-! ### Source formats (R203 to R206) -/

/-- Bytes per pixel of a source format (R203). -/
def fmtBytes (fmt : Nat) : Nat := if fmt = 0 ∨ fmt = 1 ∨ fmt = 5 ∨ fmt = 6 then 4 else 8

/-- Colour bits per component of a source format. -/
def fmtBits (fmt : Nat) : Nat :=
  if fmt = 0 ∨ fmt = 5 then 8 else if fmt = 1 ∨ fmt = 6 then 10 else if fmt = 2 ∨ fmt = 7 then 12 else 16

/-- Is the format YCbCr? -/
def fmtYcc (fmt : Nat) : Bool := 5 ≤ fmt

/-- The four components of a pixel as stored (R203): three colours and alpha. -/
def fmtComponents (fmt : Nat) (px : Bytes) : Nat × Nat × Nat × Nat :=
  if fmt = 0 ∨ fmt = 5 then (byteAt px 0, byteAt px 1, byteAt px 2, byteAt px 3)
  else if fmt = 1 ∨ fmt = 6 then
    let w := leAt px 0 4
    (bits w 0 10, bits w 10 10, bits w 20 10, bits w 30 2)
  else
    let sh (n : Nat) := if fmt = 2 ∨ fmt = 7 then n / 16 else n
    (sh (leAt px 0 2), sh (leAt px 2 2), sh (leAt px 4 2), sh (leAt px 6 2))

/-- Expansion of a code of `b` bits to 16 bits by replication (R204). -/
def expand (b c : Nat) : Nat := if b < 16 then (c * 2 ^ (16 - b)) ||| (c / 2 ^ (2 * b - 16)) else c

/-- α16 of a format's alpha component (R204). -/
def expandAlpha (fmt a : Nat) : Nat :=
  if fmt = 1 ∨ fmt = 6 then a * 0x5555 else expand (fmtBits fmt) a

/-- Rounding of n / d (d > 0) to the nearest integer, a half away from zero. -/
def roundAway (n : Int) (d : Nat) : Int :=
  if 0 ≤ n then (2 * n + d) / (2 * (d : Int)) else -((2 * (-n) + d) / (2 * (d : Int)))

/-- One component of R205: 65,535 × (Yn + (k1 × C1n + k2 × C2n) / 10^6), rounded once and clipped. -/
def yccComponent (full : Bool) (b : Nat) (y c1 c2 : Nat) (k1 k2 : Int) : Nat :=
  let s : Int := 2 ^ (b - 8)
  let (num, den) : Int × Int :=
    if full then
      ((y : Int) * 1000000 + k1 * ((c1 : Int) - 2 ^ (b - 1)) + k2 * ((c2 : Int) - 2 ^ (b - 1)), ((2 : Int) ^ b - 1) * 1000000)
    else
      (((y : Int) - 16 * s) * 224 * 1000000 + 219 * (k1 * ((c1 : Int) - 128 * s) + k2 * ((c2 : Int) - 128 * s)),
        219 * 224 * 1000000 * s)
  (clip 0 65535 (roundAway (65535 * num) den.toNat)).toNat

/-- R'G'B' codes of a YCbCr pixel (R205). -/
def yccToRgb (full bt2020 : Bool) (b y cb cr : Nat) : Nat × Nat × Nat :=
  let krcr : Int := if bt2020 then 1474600 else 1574800
  let kgcb : Int := if bt2020 then 164553 else 187324
  let kgcr : Int := if bt2020 then 571353 else 468124
  let kbcb : Int := if bt2020 then 1881400 else 1855600
  (yccComponent full b y cb cr 0 krcr, yccComponent full b y cb cr (-kgcb) (-kgcr), yccComponent full b y cb cr kbcb 0)

/-- Exact value of a finite binary16 magnitude, times 2^24. -/
def halfMag (h : Nat) : Nat :=
  if bits h 10 5 = 0 then bits h 0 10 else (1024 + bits h 0 10) * 2 ^ (bits h 10 5 - 1)

/-- round(v × one), half up, clipped to [0, top], for a binary16 value v (R206): negatives and NaN give 0, +Inf gives top. -/
def halfTo (one top h : Nat) : Nat :=
  if bits h 10 5 = 31 then (if bits h 0 10 = 0 ∧ bits h 15 1 = 0 then top else 0)
  else if bits h 15 1 = 1 then 0
  else min top ((2 * halfMag h * one + 2 ^ 24) / 2 ^ 25)

/-! ### Curves (R207 to R209) -/

/-- Input code of entry `n` of an encode curve (R208). -/
def encodeInput (n : Nat) : Nat :=
  let s := n / 256
  let base := if s = 0 then 0 else 2 ^ (s + 8)
  base + 2 ^ (max s 1) * (n - 256 * s)

/-- Entry `i` of a curve slot; a slot never loaded holds its reset curve (R209). -/
def curveEntry (curves : List (Nat × List Nat)) (slot i : Nat) : Nat :=
  match curves.find? (fun c => c.1 == slot) with
  | some c => c.2.getD i 0
  | none => if slot < 16 then i * 4097 else encodeInput i / 256

/-- Decode curve: 16-bit code to light code (R207). -/
def decodeCurve (e : Nat → Nat) (u : Nat) : Nat :=
  let i := u / 16
  let f := u % 16
  let at' (k : Nat) : Int := if k = 4096 then 2 * (e 4095 : Int) - e 4094 else e k
  (clip 0 0xFFFFFF (at' i + ((at' (i + 1) - at' i) * f + 8) / 16)).toNat

/-- Encode curve: light code to 16-bit code (R208). -/
def encodeCurve (c : Nat → Nat) (x : Nat) : Nat :=
  let s := if x < 512 then 0 else Nat.log2 x - 8
  let base := if s = 0 then 0 else 2 ^ (s + 8)
  let e := max s 1
  let n := 256 * s + (x - base) / 2 ^ e
  let f := (x - base) % 2 ^ e
  let at' (k : Nat) : Int := if k = 4096 then 2 * (c 4095 : Int) - c 4094 else c k
  (clip 0 0xFFFF (at' n + ((at' (n + 1) - at' n) * f + 2 ^ (e - 1)) / 2 ^ e)).toNat

/-- Output code of `b` bits of a 16-bit code (R222). -/
def outputCode (b u : Nat) : Nat :=
  if b < 16 then min ((u + 2 ^ (15 - b)) / 2 ^ (16 - b)) (2 ^ b - 1) else u

/-- Bits per component named by an OBITS field (R235, R325). -/
def obitsOf (o : Nat) : Nat := if o = 0 then 8 else if o = 1 then 10 else if o = 2 then 12 else 16

/-! ### Position and filter (R210 to R215) -/

/-- Source position of canvas offset `d` for a U4.20 step (R210), in 2^-16 source pixels. -/
def affinePos (d : Int) (step : Nat) : Int := ((2 * d + 1) * step - 2 ^ 20 + 16) / 32

/-- Catmull-Rom weights of t = a / g, times 2 g^3, for nodes i - 1 to i + 2 (R211). -/
def crWeights (a g : Int) : List Int :=
  [-(a ^ 3) + 2 * a ^ 2 * g - a * g ^ 2, 3 * a ^ 3 - 5 * a ^ 2 * g + 2 * g ^ 3,
   -3 * a ^ 3 + 4 * a ^ 2 * g + a * g ^ 2, a ^ 3 - a ^ 2 * g]

/-- Bilinear weights of t = a / g, times g, for nodes i and i + 1. -/
def blWeights (a g : Int) : List Int := [g - a, a]

/-- A mesh position (R211): `node i j` is one coordinate of node (i, j), indices clamped to the mesh of `nx` × `ny` nodes;
`gl` is G; exact interpolation rounded once, ties toward +infinity. -/
def meshPos (node : Nat → Nat → Int) (nx ny gl : Nat) (smooth : Bool) (dx dy : Nat) : Int :=
  let g : Int := 2 ^ gl
  let i : Int := (dx / 2 ^ gl : Nat)
  let j : Int := (dy / 2 ^ gl : Nat)
  let ax : Int := (dx % 2 ^ gl : Nat)
  let ay : Int := (dy % 2 ^ gl : Nat)
  let first : Int := if smooth then -1 else 0
  let wx := if smooth then crWeights ax g else blWeights ax g
  let wy := if smooth then crWeights ay g else blWeights ay g
  let den : Int := if smooth then (2 * g ^ 3) * (2 * g ^ 3) else g * g
  let nodeAt (a b : Int) : Int := node (clip 0 ((nx : Int) - 1) a).toNat (clip 0 ((ny : Int) - 1) b).toNat
  let num := ((List.range wy.length).map (fun l =>
    ((List.range wx.length).map (fun k => wx.getD k 0 * wy.getD l 0 * nodeAt (i + first + k) (j + first + l))).sum)).sum
  rdiv num den.toNat

/-- A coefficient of a filter bank (R213); a bank never loaded holds the reset kernel. -/
def filterCoef (filters : List (Nat × List Nat)) (bank phase tap : Nat) : Int :=
  match filters.find? (fun f => f.1 == bank) with
  | some f => signed 16 (f.2.getD (8 * phase + tap) 0)
  | none => if tap = 3 then 4096 - 64 * (phase : Int) else if tap = 4 then 64 * (phase : Int) else 0

/-- The eight taps after the folding of R214 for 8, 4 or 2 kept taps. -/
def foldTaps (taps : Nat) (c : Nat → Int) : List Int :=
  if taps = 8 then (List.range 8).map c
  else if taps = 4 then [0, 0, c 0 + c 1 + c 2, c 3, c 4, c 5 + c 6 + c 7, 0, 0]
  else [0, 0, 0, c 0 + c 1 + c 2 + c 3, c 4 + c 5 + c 6 + c 7, 0, 0, 0]

/-- One pass of the filter over eight values (R214), clipped to [0, top]. -/
def filterPass (c : List Int) (p : List Nat) (top : Nat) : Nat :=
  (clip 0 top (((List.zipWith (fun (a : Int) (b : Nat) => a * b) c p).sum + 2048) / 4096)).toNat

/-- Taps kept at a quality step (R232; the steps are cumulative). -/
def stepTaps (step : Nat) : Nat := if step ≤ 1 then 8 else if step = 2 then 4 else 2

/-- Most layers per canvas at a quality step (R232); 32 is no cap. -/
def stepLayers (step : Nat) : Nat := if step ≤ 3 then 32 else if step = 4 then 16 else if step = 5 then 8 else 4

/-! ### Colour, gain and blending (R216 to R220) -/

/-- One output component of the 3×3 transform (R216). -/
def matRow (m0 m1 m2 : Int) (p : Nat × Nat × Nat) : Nat :=
  (clip 0 0xFFFFFF ((m0 * p.1 + m1 * p.2.1 + m2 * p.2.2 + 4096) / 8192)).toNat

/-- Largest t below `t0 + 2^n` with (2t - 1)^1024 ≤ 2^(17408 + f), by bisection from `t0`. -/
def gainRootN (f : Nat) : Nat → Nat → Nat
  | 0, t0 => t0
  | n + 1, t0 =>
    let t := t0 + 2 ^ n
    if (2 * t - 1) ^ 1024 ≤ 2 ^ (17408 + f) then gainRootN f n t else gainRootN f n t0

/-- t[f] = round(65,536 × 2^(f / 1,024)), ties up (R217). -/
def gainRoot (f : Nat) : Nat := gainRootN f 16 65536

/-- The U.16 multiplier of a log2 value L in S6.10; 0x8000 is black (R217). -/
def gainMul (l : Nat) : Nat :=
  if l = 0x8000 then 0
  else
    let v := signed 16 l
    let q := v / 1024
    let t := gainRoot (v % 1024).toNat
    if 0 ≤ q then t * 2 ^ q.toNat else (t + 2 ^ ((-q).toNat - 1)) / 2 ^ (-q).toNat

/-- A gain applied to a light code (R217). -/
def applyGain (p m : Nat) : Nat := min 0xFFFFFF ((p * m + 32768) / 65536)

/-- Value of a ramp after `k` steps (R218): the start value for k = 0, the target from k = n on. -/
def rampAt (s target n k : Nat) : Nat :=
  if k = 0 then s
  else if n ≤ k ∨ n ≤ 1 then target
  else
    let s' : Int := if s = 0x8000 then -16384 else signed 16 s
    let t' : Int := if target = 0x8000 then -16384 else signed 16 target
    unsign 16 (s' + roundAway ((t' - s') * k) n)

/-- Value of a ramp in frame `n` (R218): step k belongs to frame F0 + k - 1. -/
def Ramp.value (r : Ramp) (frame : Nat) : Nat :=
  match r.f0 with
  | none => r.s
  | some f0 => if matOrAfter 32 frame f0 then rampAt r.s r.target r.n (msub 32 frame f0 + 1) else r.s

/-- Is a ramp over by frame `n`? -/
def Ramp.over (r : Ramp) (n : Nat) : Bool :=
  match r.f0 with
  | none => false
  | some f0 => matOrAfter 32 n f0 && r.n ≤ msub 32 n f0 + 1

/-- A ramp that is over holds its target. -/
def Ramp.settle (r : Ramp) (n : Nat) : Ramp := if r.over n then ⟨r.target, r.target, 0, none⟩ else r

/-- Blending of one component over the accumulator (R219). -/
def blend (alpha16 mfade src acc : Nat) : Nat :=
  let apix := alpha16 + alpha16 / 32768
  let a := (apix * mfade + 32768) / 65536
  (src * a + acc * (65536 - a) + 32768) / 65536

/-! ### The address book (R224) -/

/-- Size of the tile an entry addresses: TW × TH. -/
def BookEnt.tileSize (e : BookEnt) : Nat × Nat := if e.rot % 2 = 0 then (e.w, e.h) else (e.h, e.w)

/-- Canvas pixel of tile pixel (u, v) (R224). -/
def BookEnt.canvasPixel (e : BookEnt) (u v : Nat) : Nat × Nat :=
  let tw := e.tileSize.1
  let u := if e.mirror then tw - 1 - u else u
  if e.rot = 0 then (e.x0 + u, e.y0 + v)
  else if e.rot = 1 then (e.x0 + e.w - 1 - v, e.y0 + u)
  else if e.rot = 2 then (e.x0 + e.w - 1 - u, e.y0 + e.h - 1 - v)
  else (e.x0 + v, e.y0 + e.h - 1 - u)

end Sys2Proof.Machine
end

