-- ==== Sys2Proof/Machine/Lamp.lean ====
section
/-! DEFINITION. The arithmetic of a tile's lamps: from light codes and correction records to on-times and gain ranges (R425 to
R431), test patterns (R439), and the schedule of a slot (R450 to R455). -/

namespace Sys2Proof.Machine

/-! ### Correction (R425 to R428) -/

/-- A correction record: rows of coefficients of lamps 0 to 3, trims, zone, lamps present, lamps masked. -/
structure CorRec where
  m : List (List Int)
  trim : List Int
  zone : Nat
  lamps : Nat
  masked : Nat

/-- A record from its 32 bytes (R425). -/
def corRec (b : Bytes) : CorRec :=
  let f := leAt b 28 4
  ⟨(List.range 4).map (fun o => (List.range 3).map (fun i => signed 16 (leAt b (6 * o + 2 * i) 2))),
   (List.range 4).map (fun o => signed 8 (byteAt b (24 + o))), bits f 0 4, bits f 4 4, bits f 8 4⟩

/-- Which record sets bracket temperature `t`, and the weight of the upper one (R426): 0 A and B, 1 B and C. -/
def corWeight (t ta tb tc : Int) : Nat × Int :=
  if t < tb then (0, clip 0 65536 ((t - ta) * 65536 / (tb - ta))) else (1, clip 0 65536 ((t - tb) * 65536 / (tc - tb)))

/-- Lamp `o` by one record (R427). -/
def corLamp (r : CorRec) (o : Nat) (p : Nat × Nat × Nat) : Int :=
  let row := r.m.getD o []
  clip 0 0xFFFFFF ((row.getD 0 0 * p.1 + row.getD 1 0 * p.2.1 + row.getD 2 0 * p.2.2 + 4096) / 8192)

/-- Lamp `o` between two records (R427). -/
def corMix (lo hi : CorRec) (w : Int) (o : Nat) (p : Nat × Nat × Nat) : Int :=
  let a := corLamp lo o p
  a + ((corLamp hi o p - a) * w + 32768) / 65536

/-- The low-grey trim (R428). -/
def trimLamp (q trim : Int) (ks : Nat) : Nat :=
  let k : Int := 2 ^ ks
  if q = 0 then 0 else (clip 0 0xFFFFFF (q + trim * 16 * (k - min q k) / 2 ^ ks)).toNat

/-! ### Dimming, dither and on-time (R429 to R431) -/

/-- Dimming multiplier `m` and ceiling (R429). -/
def dimLamp (q m ceil : Nat) : Nat := (min 0xFFFFFF ((q * m + 32768) / 65536) * ceil + 16) / 32

def ditherB : List Nat := [0, 8, 2, 10, 12, 4, 14, 6, 3, 11, 1, 9, 15, 7, 13, 5]
def ditherF : List Nat := [0, 8, 4, 12, 2, 10, 6, 14, 1, 9, 5, 13, 3, 11, 7, 15]

/-- The dither threshold of lamp `o` of pixel (u, v) in frame `n` (R430). -/
def dither (on : Bool) (n o u v : Nat) : Nat :=
  if on then (16 * ditherF.getD ((n + 5 * o) % 16) 0 + ditherB.getD (4 * (v % 4) + u % 4) 0) % 256 else 128

/-- Gain range and on-time (R431). -/
def onTime (q gmax grmax d : Nat) : Nat × Nat :=
  let g := ((List.range (grmax + 1)).filter (fun g => q * 2 ^ g ≤ 0xFFFFFF)).getLast?.getD 0
  let x := q * 2 ^ g
  let otf := if x = 0 then 0 else (x + 1) * gmax / 65536
  (min gmax ((otf + d) / 256), g)

/-! ### Patterns (R439, R440) -/

/-- The value of pattern `pat` at pixel (u, v) of a tile of tw × th. -/
def patternAt (pat v0 u v tw th : Nat) : Nat :=
  if pat = 1 then v0
  else if pat = 2 then (if tw = 1 then 0xFFFFFF else u * 0xFFFFFF / (tw - 1))
  else if pat = 3 then (if th = 1 then 0xFFFFFF else v * 0xFFFFFF / (th - 1))
  else if pat = 4 then (if u % 16 = 0 ∨ v % 16 = 0 then v0 else 0)
  else (if (u / 8 + v / 8) % 2 = 0 then v0 else 0)

/-- Pattern and lamps of the self-test `ms` milliseconds after its start (R440). -/
def selfPattern (ms : Nat) : Nat × Nat :=
  if ms < 8000 then (1, 2 ^ (ms / 2000)) else if ms < 10000 then (1, 15) else if ms < 14000 then (2, 15) else (3, 15)

/-! ### The schedule of a slot (R450 to R455) -/

/-- LW of a slot (R450). -/
def slotLw (gmax npass : Nat) : Nat := (gmax + npass - 1) / npass

/-- Part of an on-time in pass `k` (R451). -/
def slotPart (ot npass k : Nat) : Nat := (ot + k) / npass

/-- A lamp word (R449). -/
def lampWord (ot g : Nat) (probe : Bool) : Nat := ot + 2 ^ 16 * g + 2 ^ 19 * b2n probe

end Sys2Proof.Machine
end

