-- ==== Sys2Proof/Config.lean ====
section
/-! DEFINITION. What an implementation fixes and what the spec leaves open: the free values and the cryptographic functions
that the spec takes from outside standards. None has a body, so a statement that holds, holds for every value of them. -/

namespace Sys2Proof.Config

/-- A value the spec leaves open, drawn once per use: the argument is the counter State.free, which each use advances. -/
opaque freeNat : Nat → Nat

/-- A random byte string of the given length drawn by the unit (nonces, keys, seeds), by the counter State.free. -/
opaque random : Nat → Nat → Bytes

/-- SHA-512 (FIPS 180-4). -/
opaque sha512 : Bytes → Bytes

/-- AES-256-GCM sealing (FIPS 197, SP 800-38D): key, IV, additional data, plaintext; ciphertext of the same length
followed by the 16-byte tag. -/
opaque gcmSeal : Bytes → Bytes → Bytes → Bytes → Bytes

/-- AES-256-GCM opening: key, IV, additional data, ciphertext, tag; the plaintext, or none where the tag fails. -/
opaque gcmOpen : Bytes → Bytes → Bytes → Bytes → Bytes → Option Bytes

/-- ECDSA P-521 verification: public key, message, signature. -/
opaque ecdsaVerify : Bytes → Bytes → Bytes → Bool

/-- ECDSA P-521 signature: private key, message, and the draw its random number comes from. -/
opaque ecdsaSign : Bytes → Bytes → Nat → Bytes

/-- ECDH P-521 shared secret: private key, public key. -/
opaque ecdh : Bytes → Bytes → Bytes

/-- HKDF-SHA-512: salt, input key, info, output length. -/
opaque hkdf : Bytes → Bytes → Bytes → Nat → Bytes

/-- Public key of a private key on P-521. -/
opaque publicKey : Bytes → Bytes

/-- The secret identity key of the unit (R536), burnt in at manufacture. -/
opaque identityKey : Bytes

/-- The device certificate and the Luzen device CA certificate of the unit, in DER (R537). -/
opaque deviceCert : Bytes
opaque caCert : Bytes

/-- The chain test of R537 on a device certificate and its CA certificate: the device public key where it verifies. -/
opaque chainVerify : Bytes → Bytes → Option Bytes

/-- SHA-512 of the vendor debug key held in ROM (R540), the image key and the manufacturing key held in ROM (R567, R568), and
the ROM version (R544). -/
opaque vendorDigest : Bytes
opaque imageKey : Bytes
opaque mfgKey : Bytes
opaque romVersion : Bytes

/-- Steps of 1/64 UI that a count of the DQS interval oscillator is away from the count recorded at training: the spec does not
state how the count implies the period (R529). -/
opaque oscSteps : Nat → Nat → Int

/-- The rank, modulo 2, on which a usable block of a two-rank channel lies: the spec does not state it (R482). -/
opaque blockRank : Nat → Nat

/-- Where in the table region the table entry of a surface page lies: the spec does not state it (R179). -/
opaque tablePlace : Nat → Nat

end Sys2Proof.Config
end

