-- ==== Sys2Proof/Machine/State.lean ====
section
/-! DEFINITION. The state of the LZ7200 as plain data, its faults and refusals, and the state after reset. -/

namespace Sys2Proof.Machine

/-- Why a step stops with a fault. No meaning raises one: the spec gives every command an effect (or none) in every state. -/
inductive Fault where
  /-- Raised by nobody; kept because a machine must name its faults. Safe. -/
  | none
  deriving DecidableEq, Repr

/-- Why a command is refused. -/
inductive Refusal where
  /-- Raised only by an arm of `exec` whose command has no meaning yet. Safe: nothing is claimed of it. -/
  | notModelled (mnemonic : String)
  deriving DecidableEq, Repr

/-- The whole die: registers (R599), each block's internal state, the memories, what was sent out, the counter of free
values, and the commands waiting, first in, first out. -/
structure State where
  regs : List (Nat × Word)
  boot : BootSt
  hif : HifSt
  queues : List (Nat × QRec)
  sor : SorSt
  dma : List (Nat × Chan)
  srf : SrfSt
  drc : DrcSt
  chn : ChnSt
  cmp : CmpSt
  frt : FrtSt
  lnk : LnkSt
  tim : TimSt
  tan : TanSt
  sec : SecSt
  lmp : LmpSt
  spk : SpkSt
  thm : ThmSt
  cal : CalSt
  upd : UpdSt
  /-- usable DRAM (R482), ring memory (R122) -/
  dram : List Host.Cell
  ring : List Host.Cell
  /-- the 60-bit time of R356 and the count of wraps of TIME_NS (R359) -/
  time : Nat
  wraps : Nat
  /-- nanoseconds of PLL_TIME since power-up: what elapsed-time rules count, untouched by steps of the time -/
  up : Nat
  out : List Out
  free : Nat
  pending : List Instr
  deriving DecidableEq, Repr

/-- The machine right after reset: cold reset is asserted at power-up (R54: PWRON_RST_N is pulled low), every register holds its
reset value (the list of registers that differ from theirs is empty), every memory, queue and buffer is empty, and no command
waits. Fuses are as a die ships (R539: PROVISIONED, with its identity key); the values that the spec does not give are named in
the assumption log. DESIGN CHOICE (log entry 1). DESIGN CHOICE (log entry 4). DESIGN CHOICE (log entry 5).
DESIGN CHOICE (log entry 119). DESIGN CHOICE (log entry 120). -/
def State.reset : State :=
  { regs := []
    boot := { pwronLow := true, railHold := false, tripHold := false, tripCycled := false, warm := .none, railRec := false, low := [], gone := [],
              ucie := .closed, fails := 0, relink := false, warmBoot := false, due := 0, trained := 0, chainCfg := none, modMask := 0, maxRate := 0,
              blkAt := [] }
    hif := { msixEnable := false, funcMask := false, d3hot := false, mps := 128, mrrs := 512, subsys := none, waiting := [], events := [], evAt := 0, evRun := 0,
             reads := [], timedOut := 0, shutAt := none }
    queues := []
    sor := { ready := [], targets := [], last := [], winFrom := none, picked := [], pollDue := false, winPollDue := false,
             winDone := [] }
    dma := []
    srf := { initBusy := false, held := [], surfs := [], segs := [], used := [], pend := [], copies := [], needs := [],
             fetching := [], failed := [], frames := [], retiredAny := false, stamp := 0, tc := [] }
    drc := { reqs := [], heldReqs := [], poison := [], owed1 := [], mr4 := 4, chg := none, patrol := 0, patrolAt := none, patrolReq := none, refAt := [],
             quietAt := [], mr4At := 0 }
    chn := { rx := [], cand := [], ins := [], reasm := [], letters := [], slots := [], oldKeys := [], sends := [], tx := [], written := [],
             aborted := [], nextLid := 0, hbseq := 0, length := 0 }
    cmp := { pend := [], armed := [], base := [], ramps := [], curves := [], filters := [], book := [], loads := [],
             raster := none, nextStep := 0, sums := [], hist := [] }
    frt := { mode := none, pendMode := none, commits := [], queued := [], under := none }
    lnk := { nonce := 0, ports := [], source := 4, bypass := none }
    tim := { gens := [], caps := [], pd := [], preq := [], pdSeq := 0, pdSent := [], syncSeq := 0, lastSrc := 0, refJ := 0, good := 0, bad := 0,
             incs := [], holdFrom := none, lastUsed := 0, slew := none, lockInc := 0, refWrap := 0, trigTo := [] }
    tan := { seen := [], chosen := [], heard := [], winAt := none, noAct := 0, noPeer := 0, mgen := none, holdFrom := none,
             staging := none, snaps := [], sent := none, sentAt := 0 }
    sec := { life := 1, idkey := true, svn := 0, owner := none, ownTries := 0, nonce := none,
             meas := List.replicate 8 (List.replicate 64 0#8), recs := [], enrol := none, groups := [], bcast := none, counter := 0,
             reserved := 0, dbg := 0, extest := false, busy := none, ops := [], wait := [], enrols := [], switches := [],
             interval := none, nextT := 0, runsOn := false, first := true, rseq := 0, held := [], crcs := [] }
    lmp := { lampEn := false, mode := none, pend := none, prev := none, trans := none, skips := [], recheck := false, first := none,
             last := none, nextA := 0, frames := [], front := none, shows := [], miss := 0, missEv := 0, missAt := none,
             curves := [], loads := [], dim := ⟨0, 0, 0, none⟩, dimNext := none, dimFrame := 0, locAt := none, selfAt := none,
             cad := 0, vals := [] }
    spk := { spokes := [], emission := none, latched := none, faults := [], seen := [], masked := [], det := none, faultEv := [],
             rbAt := none, scan := [], egress := [], fdcfg := none, detCfg := 0#32, polledAt := 0 }
    thm := { prev := [], failing := [], grid := none, up := none, t5 := none, band := 1, hot := [], shut := none, sampledAt := 0 }
    cal := { run := none, queue := [], next := 0, lastStart := 0, sets := [], set := 1, slots := [], use := [], retrained := [],
             changed := false, savedAt := none, trackAt := 0 }
    upd := { pkg := none, arm := none, confirm := false, readyAt := none, recs := [], journal := [], calset := none, sessions := 0,
             flash := [], ops := [], maps := 0, pushes := [], txAt := [], aonTries := 0, aonFailed := none, running := 0, trial := false,
             recov := [] }
    dram := []
    ring := []
    time := 0
    wraps := 0
    up := 0
    out := []
    free := 0
    pending := [] }

end Sys2Proof.Machine
end

