-- ==== Sys2Proof/Machine/Ops.lean ====
section
/-! DEFINITION. Named operations over the state: registers and fields, memories, time, roles and dormancy, the upstream
interface, and drawing free values. -/

namespace Sys2Proof.Machine

/-- What a command answers. -/
abbrev Result := Host.Outcome State Fault Refusal

/-! ### Registers -/

/-- Reset value of a word of the MSI-X table: the mask bit of each vector control word is 1 (PRESUMED, log entry 6). -/
def msixReset (off : Nat) : Word := if off % 16 = 12 then 1#32 else 0#32

/-- What a key of the register file reads as where nothing is listed: a register, or a word of the MSI-X table or PBA. -/
def regFill (off : Nat) : Word := if 0x30000 ≤ off ∧ off < 0x38000 then msixReset off else resetWord off

/-- The word a register holds. -/
def State.word (s : State) (off : Nat) : Word := tget (regFill off) s.regs off

/-- The state with a register holding `w`. -/
def State.setWord (s : State) (off : Nat) (w : Word) : State :=
  { s with regs := tset (regFill off) s.regs off w }

/-- A field of a register word. -/
def Fld.get (f : Fld) (w : Word) : Nat := bits w.toNat f.lo f.width

/-- A register word with a field replaced. -/
def Fld.put (f : Fld) (w : Word) (v : Nat) : Word := BitVec.ofNat 32 (putBits w.toNat f.lo f.width v)

/-- Value a field holds. -/
def getF (s : State) (f : Fld) : Nat := f.get (s.word f.off)

/-- The state with a field holding the low bits of `v`. -/
def setF (s : State) (f : Fld) (v : Nat) : State := s.setWord f.off (f.put (s.word f.off) v)

/-- Is a field nonzero? -/
def isSet (s : State) (f : Fld) : Bool := getF s f != 0

/-- Largest value of a field. -/
def Fld.top (f : Fld) : Nat := 2 ^ f.width - 1

/-- Add to a counter field that saturates. -/
def incSat (s : State) (f : Fld) (n : Nat := 1) : State := setF s f (satAdd f.top (getF s f) n)

/-- Add to a counter field that wraps. -/
def incMod (s : State) (f : Fld) (n : Nat := 1) : State := setF s f ((getF s f + n) % 2 ^ f.width)

/-- Bit `k` of a field. -/
def fbit (s : State) (f : Fld) (k : Nat) : Bool := (getF s f).testBit k

/-- The state with bit `k` of a field set or cleared. -/
def setBitF (s : State) (f : Fld) (k : Nat) (b : Bool) : State := setF s f (putBit (getF s f) k b)

/-- All registers with offsets in [lo, hi) back at their reset values. -/
def resetRegs (s : State) (lo hi : Nat) : State :=
  { s with regs := s.regs.filter (fun e => !(lo ≤ e.1 && e.1 < hi)) }

/-! ### Memories -/

/-- What a byte of DRAM reads as that nothing has written, or whose content was lost (DESIGN CHOICE, log entry 3). -/
def dramFill : Byte := 0#8

/-- What a byte of ring memory that nothing has written reads as: 0 (R122). -/
def ringFill : Byte := 0#8

/-- The canonical form of a memory whose unlisted bytes read `d`. -/
abbrev Memory.wf (d : Byte) (m : List Host.Cell) : Prop := tcanon (fun _ => d) m = true

/-- One byte. -/
def rdByte (d : Byte) (m : List Host.Cell) (a : Nat) : Byte := tget d m a

/-- `n` bytes from address `a`. -/
def rdBytes (d : Byte) (m : List Host.Cell) (a n : Nat) : Bytes := (List.range n).map (fun i => rdByte d m (a + i))

/-- Store bytes from address `a` on, in rising order. -/
def wrBytes (d : Byte) (m : List Host.Cell) (a : Nat) : Bytes → List Host.Cell
  | [] => m
  | x :: t => wrBytes d (tset d m a x) (a + 1) t

/-- Bytes of usable DRAM. DESIGN CHOICE (log entry 31). -/
def dramRd (s : State) (a n : Nat) : Bytes := rdBytes dramFill s.dram a n

/-- Store into usable DRAM. A block wholly written is sound again whatever its codeword was. -/
def dramWr (s : State) (a : Nat) (b : Bytes) : State :=
  { s with dram := wrBytes dramFill s.dram a b,
           drc := { s.drc with poison := s.drc.poison.filter (fun k => !(a ≤ 64 * k && 64 * k + 64 ≤ a + b.length)) } }

/-- Is any block of [a, a + n) uncorrectable? -/
def dramBad (s : State) (a n : Nat) : Bool := s.drc.poison.any (fun k => 64 * k < a + n && a < 64 * k + 64)

/-- Bytes of ring memory. -/
def ringRd (s : State) (a n : Nat) : Bytes := rdBytes ringFill s.ring a n

/-- Store into ring memory. -/
def ringWr (s : State) (a : Nat) (b : Bytes) : State := { s with ring := wrBytes ringFill s.ring a b }

/-! ### Time (R356) -/

/-- TIME_NS. -/
def timeNs (s : State) : Nat := s.time / 2 ^ 28 % 2 ^ 32

/-- TIME_NS extended by the wraps counted in TIM_WRAPS. -/
def extNs (s : State) : Nat := s.wraps * 2 ^ 32 + timeNs s

/-- Elapsed time in ns, for timers: unlike TIME_NS it never steps. -/
def upNs (s : State) : Nat := s.up

/-- TIME_FRAC. -/
def timeFrac (s : State) : Nat := s.time % 2 ^ 28

/-! ### Roles (R12, R17 to R22) -/

/-- The sampled strap value. -/
def strap (s : State) : Nat := getF s F.GLB_ROLE_STRAP

def isSender (s : State) : Bool := strap s == 0
def isTile (s : State) : Bool := strap s == 1 || strap s == 2
def isHostless (s : State) : Bool := isSet s F.GLB_ROLE_HOSTLESS
def strapFault (s : State) : Bool := strap s == 3

/-- Is the block whose identifier is `id` dormant (R12, R19)? -/
def dormant (s : State) (id : Nat) : Bool :=
  if strapFault s then !([0x00, 0x01, 0x02, 0x14, 0x16, 0x19].contains id)
  else if isSender s then id == 0x11 || id == 0x12
  else id == 0x0B || id == 0x0C || (id == 0x02 && isHostless s)

/-- Is cold reset asserted (R55, R76)? -/
def coldHeld (s : State) : Bool := s.boot.pwronLow || s.boot.railHold || s.boot.tripHold

/-- Is the device held in cold or warm reset? -/
def inReset (s : State) : Bool := coldHeld s || s.boot.warm == .asserted

/-- Is the block whose identifier is `id` in block reset (R80, R81)? -/
def blkReset (s : State) (id : Nat) : Bool := fbit s F.GLB_BLKRST_BLK id

/-- Power state reached (R514): 0 ACTIVE, 1 DARK, 2 STANDBY, 3 SLEEP, 4 OFF. -/
def power (s : State) : Nat := getF s F.THM_PWR_NOW

/-- Does a block work: neither dormant nor in any reset, and the unit not OFF (R514)? -/
def blkOn (s : State) (id : Nat) : Bool := !inReset s && power s != 4 && !dormant s id && !blkReset s id

/-- The next state of a command that block `id` carries out: `f` where the block works, else no change (R13, R78, R81). -/
def whenOn (id : Nat) (s : State) (f : State → State) : Result := .next (if blkOn s id then f s else s)

/-- Boot stage (R84). -/
def stage (s : State) : Nat := getF s F.GLB_BOOTSTAT_STAGE

/-- Is the unit READY? -/
def isReady (s : State) : Bool := stage s == 7

/-- Is a chain port dormant (R14, R19, R20, R85, R87)? -/
def portDormant (s : State) (p : Nat) : Bool :=
  strapFault s || stage s == 9 || (if isSender s then !isReady s else 2 ≤ p) || 4 ≤ p

/-- Is a chain port UP (R281)? -/
def portUp (s : State) (p : Nat) : Bool := getF s (F.LNK_PSTAT_STATE p) == 0xA

/-- Ports with LNK_PCTL.EN = 1, in rising order. -/
def enabledPorts (s : State) : List Nat := (List.range 4).filter (fun p => isSet s (F.LNK_PCTL_EN p))

/-- Ports that are UP, in rising order. -/
def upPorts (s : State) : List Nat := (List.range 4).filter (portUp s)

/-! ### Free values -/

/-- Draw a free value: a number nothing constrains. DESIGN CHOICE (log entry 7). -/
def drawNat (s : State) : Nat × State := (Config.freeNat s.free, { s with free := s.free + 1 })

/-- Draw `n` random bytes. -/
def drawBytes (s : State) (n : Nat) : Bytes × State := (fit n (Config.random s.free n), { s with free := s.free + 1 })

/-! ### Outputs and the upstream interface (R97, R99) -/

/-- Send something out. DESIGN CHOICE (log entry 26). -/
def emit (s : State) (o : Out) : State := { s with out := s.out ++ [o] }

/-- Send several things out, in order. -/
def emitAll (s : State) (os : List Out) : State := { s with out := s.out ++ os }

/-- May the function issue upstream requests: link trained and Bus Master Enable set? -/
def upOpen (s : State) : Bool := isSet s F.HIF_LINKSTAT_UP && isSet s F.HIF_LINKSTAT_BME

/-- First byte of entry `v` of the MSI-X table in BAR0 (R99). -/
def msixOff (v : Nat) : Nat := 0x30000 + 16 * (v % 2048)

/-- A word of the MSI-X table or of the Pending Bit Array. -/
def msixWord (s : State) (off : Nat) : Word := s.word off

/-- The state with a word of the MSI-X table or of the Pending Bit Array replaced. -/
def setMsixWord (s : State) (off : Nat) (w : Word) : State := s.setWord off w

/-- Is vector `v` pending in the Pending Bit Array? -/
def vecPending (s : State) (v : Nat) : Bool := (msixWord s (0x38000 + 4 * (v / 32 % 64))).toNat.testBit (v % 32)

/-- Set or clear the pending bit of vector `v`. -/
def setVecPending (s : State) (v : Nat) (b : Bool) : State :=
  let off := 0x38000 + 4 * (v / 32 % 64)
  setMsixWord s off (BitVec.ofNat 32 (putBit (msixWord s off).toNat (v % 32) b))

/-- May vector `v` send its message as far as MSI-X is concerned (R99)? -/
def vecOpen (s : State) (v : Nat) : Bool :=
  s.hif.msixEnable && !s.hif.funcMask && !(msixWord s (msixOff v + 12)).toNat.testBit 0

/-- The message of vector `v`: address and data from its table entry. -/
def vecMessage (s : State) (v : Nat) : Out :=
  .msix ((msixWord s (msixOff v)).toNat + 2 ^ 32 * (msixWord s (msixOff v + 4)).toNat) (msixWord s (msixOff v + 8)).toNat

/-- Raise MSI-X vector `v`: the message is sent, or its pending bit is set while the vector or the function is masked, while
MSI-X is disabled (R99), or while Bus Master Enable is 0 or the link is down (R97; no vector is dropped).
DESIGN CHOICE (log entry 24). -/
def sendVec (s : State) (v : Nat) : State :=
  if dormant s 0x02 then s
  else if !vecOpen s v then setVecPending s v true
  else if upOpen s then emit s (vecMessage s v)
  else { setVecPending s v true with hif := { s.hif with waiting := s.hif.waiting ++ [.vec v] } }

/-- Cut the `n` bytes from address `a` on at 4 KiB boundaries and into requests of at most `m` bytes. `fuel` bounds the pieces. -/
def busCuts (m : Nat) : Nat → Nat → Nat → List (Nat × Nat)
  | 0, _, _ => []
  | fuel + 1, a, n =>
    if n = 0 then []
    else
      let k := min n (min (max 1 m) (4096 - a % 4096))
      (a, k) :: busCuts m fuel (a + k) (n - k)

/-- The requests, address and length, that an access of `n` bytes makes, at most `m` bytes each (R96, R127). -/
def busParts (m a n : Nat) : List (Nat × Nat) := busCuts m (n / max 1 m + n / 4096 + 2) a n

/-- Issue an upstream request now, split at 4 KiB boundaries and at Max Read Request Size or Max Payload Size (R96, R127); a read times
out DMA_TOCFG.TOUS µs on (R139, R148). -/
def issueUp (s : State) (u : Up) : State :=
  match u with
  | .read who a n =>
    let ps := busParts s.hif.mrrs a n
    { emitAll s (ps.map (fun p => .hostRead who p.1 p.2)) with
      hif := { s.hif with reads := s.hif.reads ++ [⟨who, upNs s + 1000 * getF s F.DMA_TOCFG_TOUS, true, ps.length⟩] } }
  | .write a d => emitAll s ((busParts s.hif.mps a d.length).map (fun p => .hostWrite p.1 (slice d (p.1 - a) p.2)))
  | .vec v => if vecPending s v ∧ vecOpen s v then emit (setVecPending s v false) (vecMessage s v) else s
  | .turn _ => s

/-- Are there tags for a request: of 1,024 outstanding read requests each holds one (R96)? -/
def tagFree (s : State) (u : Up) : Bool :=
  match u with
  | .read _ a n => decide ((s.hif.reads.map OutRead.parts).sum + (busParts s.hif.mrrs a n).length ≤ 1024)
  | _ => true

/-- Ask for an upstream read or write: it is issued, waits while Bus Master Enable is 0 (R97) or no tag is free (R96), and goes
nowhere while the link is down (R93: its requester learns of the loss by its own rule). -/
def upstream (s : State) (u : Up) : State :=
  if !isSet s F.HIF_LINKSTAT_UP then s
  else if upOpen s && tagFree s u then issueUp s u
  else { s with hif := { s.hif with waiting := s.hif.waiting ++ [u] } }

/-- Issue every waiting request that may go, in their original order (R97). -/
def issueWaiting (s : State) : State :=
  if upOpen s then
    let w := s.hif.waiting
    w.foldl upstream { s with hif := { s.hif with waiting := [] } }
  else s

/-- Is a host read outstanding whose requester wants it? -/
def readOut (s : State) (who : Rd) : Bool := s.hif.reads.any (fun r => r.who == who && r.live)

/-- Does a host read wait to be issued? -/
def readWaits (s : State) (who : Rd) : Bool :=
  s.hif.waiting.any (fun u => match u with | .read w _ _ => w == who | _ => false)

/-- Is the oldest outstanding read of a requester one that it no longer wants? -/
def deadRead (s : State) (who : Rd) : Bool := (s.hif.reads.find? (fun r => r.who == who)).any (fun r => !r.live)

/-- Requests that wait, without the reads of one requester. -/
def waitingBut (s : State) (who : Rd) : List Up :=
  s.hif.waiting.filter (fun u => match u with | .read w _ _ => w != who | _ => true)

/-- The oldest outstanding read of a requester has ended; its tag is free for a request that waits. -/
def endRead (s : State) (who : Rd) : State :=
  issueWaiting { s with hif := { s.hif with reads := s.hif.reads.eraseP (fun r => r.who == who) } }

/-- A host read is answered; one that still waited is withdrawn. -/
def dropRead (s : State) (who : Rd) : State :=
  endRead { s with hif := { s.hif with waiting := waitingBut s who } } who

/-- A requester gives up its read: one that waits is never issued, and the data of one that is outstanding will be discarded. -/
def giveUpRead (s : State) (who : Rd) : State :=
  { s with hif := { s.hif with
      waiting := waitingBut s who, reads := s.hif.reads.map (fun r => if r.who == who then { r with live := false } else r) } }

/-- The completion of a host read: `f` where its requester wants it, else it is discarded. -/
def onRead (s : State) (who : Rd) (f : State → State) : State := if deadRead s who then endRead s who else f s

end Sys2Proof.Machine
end

