-- ==== Sys2Proof/Machine/Cells.lean ====
section
/-! DEFINITION. Cells and the queues they leave by: the header (R310), letter segments (R330), a tile's insertion queue
(R318), a sender's waiting cells and the order in which a port sends them (R323). -/

namespace Sys2Proof.Machine

/-! ### Building cells -/

/-- A cell: header with its CRC-8 (R310) and a body filled to 220 bytes. -/
def mkCell (addr kind : Nat) (orig : Bool) (body : Bytes) : Bytes :=
  let h := beBytes 2 addr ++ [byte (kind % 16 + 16 * b2n orig)]
  h ++ [byte (crc8 h)] ++ fit 220 body

/-- The idle cell (R312). -/
def idleCell : Bytes := zeros 224

/-- A field of a cell body: offsets count from cell byte 4. -/
def bodyBE (c : Bytes) (off n : Nat) : Nat := beAt c (4 + off) n

/-- KIND of a cell. -/
def cellKind (c : Bytes) : Nat := byteAt c 2 % 16

/-- ORIG of a cell. -/
def cellOrig (c : Bytes) : Bool := (byteAt c 2).testBit 4

/-- ADDR of a cell. -/
def cellAddr (c : Bytes) : Nat := beAt c 0 2

/-- Does the header's check code hold (R310)? -/
def headerOk (c : Bytes) : Bool := crc8 (slice c 0 3) == byteAt c 3

/-- A postcode with nonzero bits [11:9] that is neither 0xFFFE nor 0xFFFF (R10). -/
def badPostcode (a : Nat) : Bool := bits a 9 3 != 0 && a != 0xFFFE && a != 0xFFFF

/-- A malformed header (R313). -/
def badHeader (c : Bytes) : Bool :=
  (cellKind c == 0 && !allZero c) || 9 ≤ cellKind c || bits (byteAt c 2) 5 3 != 0 || badPostcode (cellAddr c)

/-- Segments of a letter's content: at most 200 bytes each, at least one (R330). -/
def segments (content : Bytes) : List Bytes := if content.isEmpty then [[]] else chunksOf 200 33 content

/-- The cells of a letter (R330). -/
def letterCells (addr ltype rank lid lfl : Nat) (orig : Bool) (content : Bytes) (kind : Nat := 3) : List Bytes :=
  let segs := segments content
  (List.range segs.length).map (fun i =>
    let d := segs.getD i []
    mkCell addr kind orig
      ([byte ltype, byte rank] ++ beBytes 2 lid ++ [byte i, byte segs.length, byte d.length, byte lfl] ++ d))

/-! ### A tile's insertion queues (R318) -/

/-- Cells waiting at port `p`. -/
def insCount (s : State) (p : Nat) : Nat := (s.chn.ins.filter (fun e => e.1 == p)).length

/-- Put a cell into port `p`'s insertion queue; a full queue of 32 drops it, counted in CHN_PERR.DROP. CHN in block reset keeps no
cell (R355). -/
def insertCell (s : State) (p : Nat) (cls : Nat) (c : Bytes) (m : Mark := .none) : State :=
  if blkReset s 0x0D then s
  else if 32 ≤ insCount s p then incSat s (F.CHN_PERR_DROP p)
  else { s with chn := { s.chn with ins := s.chn.ins ++ [(p, ⟨cls, c, m, upNs s⟩)] } }

/-- Put several cells into a port's insertion queue, in order. -/
def insertCells (s : State) (p : Nat) (cls : Nat) (cs : List Bytes) : State := cs.foldl (fun s c => insertCell s p cls c) s

/-- The cell of port `p` served next: lowest class first, oldest first within a class (R318). -/
def insNext (s : State) (p : Nat) : Option (Nat × InsCell) :=
  let l := s.chn.ins.filter (fun e => e.1 == p)
  [0, 1, 2, 3].findSome? (fun k => l.find? (fun e => e.2.cls == k))

/-- The tile's postcode register as an address. -/
def ownPostcode (s : State) : Nat := getF s F.CHN_POSTCODE_POSTCODE

/-- A fresh letter id. DESIGN CHOICE (log entry 68). -/
def newLid (s : State) : Nat × State :=
  (s.chn.nextLid, { s with chn := { s.chn with nextLid := (s.chn.nextLid + 1) % 65536 } })

/-- An unsolicited letter of a tile on every UP port (R338, R344): RANK 0xFF, not sealed. -/
def tileLetter (s : State) (cls kind ltype : Nat) (content : Bytes) : State :=
  let (lid, s) := newLid s
  let cs := letterCells (ownPostcode s) ltype 0xFF lid 0 true content kind
  (upPorts s).foldl (fun s p => insertCells s p cls cs) s

/-- Signed receipts leave while a port is UP (R344, R558); they wait where none is. DESIGN CHOICE (log entry 36). -/
def sendHeld (s : State) : State :=
  if (upPorts s).isEmpty || blkReset s 0x0D then s
  else s.sec.held.foldl (fun s r => tileLetter s 3 7 0x11 r) { s with sec := { s.sec with held := [] } }

/-! ### A sender's transmitters (R323) -/

/-- Nothing waiting. -/
def txEmpty : TxPort := ⟨[], [], []⟩

def txPort (s : State) (p : Nat) : TxPort := tget txEmpty s.chn.tx p

def setTx (s : State) (p : Nat) (t : TxPort) : State :=
  { s with chn := { s.chn with tx := tset txEmpty s.chn.tx p t } }

/-- May the next cell carry a run or a letter? Of every 16 consecutive cells at least IDLE16 carry neither. -/
def txRoom (s : State) (p : Nat) (t : TxPort) : Bool :=
  (t.hist.filter id).length + 1 + getF s (F.CHN_PORTCTL_IDLE16 p) ≤ 16

/-- Record whether a cell sent carried a run or a letter; the last 15 cells count. -/
def txMark (t : TxPort) (b : Bool) : TxPort := { t with hist := (b :: t.hist).take 15 }

/-- One more cell has gone ahead of the waiting letter segments. -/
def lettersAge (l : List (Nat × Bytes)) : List (Nat × Bytes) := l.map (fun e => (e.1 + 1, e.2))

/-- Send one cell of classes 5 to 8 of R323 on port `p`: a letter segment that has waited 256 cells, a run, another letter
segment, or IDLE. -/
def txOne (s : State) (p : Nat) : State :=
  let t0 := txPort s p
  let t := { t0 with letters := lettersAge t0.letters }
  if !txRoom s p t then setTx s p (txMark t false)
  else
    match t.letters, t.runs with
    | (w, c) :: ls, rs =>
      if 256 < w ∨ rs.isEmpty then emit (setTx s p (txMark { t with letters := ls } true)) (.cell p c)
      else
        match rs with
        | (_, r) :: rs' => emit (setTx s p (txMark { t with runs := rs' } true)) (.cell p r)
        | [] => setTx s p (txMark t false)
    | [], (_, r) :: rs' => emit (setTx s p (txMark { t with runs := rs' } true)) (.cell p r)
    | [], [] => setTx s p (txMark t false)

/-- Send `n` cells on port `p`. -/
def txRun (p : Nat) : Nat → State → State
  | 0, s => s
  | n + 1, s => txRun p n (txOne s p)

/-- Cells that port `p` needs to empty its letters when no run waits, or its runs too while no cadence limits them (FRT_CTL.EN = 0,
R255): 16 slots for each are enough at the widest reserve. -/
def txFlush (s : State) (p : Nat) : State :=
  let t := txPort s p
  if t.runs.isEmpty || !isSet s F.FRT_CTL_EN then txRun p (16 * (t.letters.length + t.runs.length)) s else s

/-- Every port that is UP sends what may go. -/
def flushPorts (s : State) : State := (upPorts s).foldl txFlush s

/-- Queue cells of a sender's letter on port `p`. They leave at once where no run is waiting (R323); CHN in block reset keeps none
(R355). -/
def sendLetterCells (s : State) (p : Nat) (cs : List Bytes) : State :=
  let t := txPort s p
  if blkReset s 0x0D then s else txFlush (setTx s p { t with letters := t.letters ++ cs.map (fun c => (0, c)) }) p

/-- The port of a sender that carries unicast cells of a chain (R324): the lowest enabled one whose CHAIN matches. -/
def chainPort (s : State) (postcode : Nat) : Option Nat :=
  (enabledPorts s).find? (fun p => getF s (F.CHN_PORTCTL_CHAIN p) == bits postcode 12 4)

/-- Send a cell of classes 1 to 4 of R323 at once on port `p`: the letter segments there wait one cell more. -/
def sendFirst (c : Bytes) (s : State) (p : Nat) : State :=
  let t := txPort s p
  emit (setTx s p (txMark { t with letters := lettersAge t.letters } false)) (.cell p c)

/-- Send a cell of classes 1 to 4 of R323 at once on each port. -/
def sendNow (s : State) (ports : List Nat) (c : Bytes) : State := ports.foldl (sendFirst c) s

end Sys2Proof.Machine
end

