-- ==== Sys2Proof/Machine/Flags.lean ====
section
/-! DEFINITION. Status computations shared by every block: device events (R605) and the letters that carry them (R338),
yields between guarantees (R28 to R33), the error log (R101 to R104), and the code of a refused register write (R607). -/

namespace Sys2Proof.Machine

/-! ### Events -/

/-- Events a tile also sends as EVENT letters: marked L in R604. -/
def letterEvents : List Nat := [0x0E01, 0x1002, 0x1101, 0x1102, 0x1103, 0x1201, 0x1202, 0x1203, 0x1404]

/-- Content of an EVENT letter (R338). DESIGN CHOICE (log entry 71). -/
def eventContent (e : Ev) : Bytes := [0, 0] ++ beBytes 2 e.code ++ beBytes 4 e.time ++ fit 8 e.det

/-- The order of events of one CORE cycle: rising codes, and PULSE events by rising generator (R379, R605). -/
def Ev.key (e : Ev) : Nat := 256 * e.code + (if e.code = 0x0F04 then byteAt e.det 0 else 0)

/-- An event in its place among events of one CORE cycle; one that is equal goes behind. -/
def insertEvent (e : Ev) : List Ev → List Ev
  | [] => [e]
  | x :: l => if e.key < x.key then e :: x :: l else x :: insertEvent e l

/-- How many events at the end of the queue are of this instant. -/
def eventsNow (s : State) : Nat := if s.hif.evAt = upNs s then min s.hif.evRun s.hif.events.length else 0

/-- The event queue with one event more: the events of one instant count as of one CORE cycle (R605).
DESIGN CHOICE (log entry 165). -/
def eventsWith (s : State) (e : Ev) : List Ev :=
  let k := s.hif.events.length - eventsNow s
  s.hif.events.take k ++ insertEvent e (s.hif.events.drop k)

/-- Append an event to the event queue and send the device vector; beyond 64 events one is dropped and counted (R605). -/
def appendEvent (s : State) (e : Ev) : State :=
  let full := decide (64 ≤ s.hif.events.length)
  let l := (eventsWith s e).take (max 64 s.hif.events.length)
  let s := { s with hif := { s.hif with events := l, evAt := upNs s, evRun := eventsNow s + 1 } }
  if full then incSat s F.GLB_EVTOVF_COUNT
  else if isSet s F.HIF_EVTVEC_EN then sendVec s (getF s F.HIF_EVTVEC_VEC) else s

/-- Raise an event (R604, R605): queue it, and on a tile send the events marked L as letters. -/
def raise (s : State) (code : Nat) (det : Bytes) : State :=
  let e : Ev := ⟨code, timeNs s, fit 8 det⟩
  let s := appendEvent s e
  if isTile s ∧ letterEvents.contains code then tileLetter s 2 3 0x0E (eventContent e) else s

/-! ### DRAM as its masters see it (R483, R485) -/

/-- Insert into a rising list. -/
def insertRising (x : Nat) : List Nat → List Nat
  | [] => [x]
  | y :: t => if x < y then x :: y :: t else if x = y then y :: t else y :: insertRising x t

/-- An uncorrectable read: counted, recorded, and raised (R485). -/
def uncorrectable (s : State) (b : Nat) : State :=
  let s := { s with drc := { s.drc with poison := if s.drc.poison.contains b then s.drc.poison else b :: s.drc.poison } }
  let s := incSat s F.DRC_ECCSTAT_UE
  let s := setF (setF s F.DRC_UEADDR_BLOCK b) F.DRC_UEADDR_VALID 1
  raise s 0x1301 (beBytes 4 b)

/-- A master reads [a, a + n): each uncorrectable block of it is an uncorrectable read, in rising order (R485). -/
def noteBad (s : State) (a n : Nat) : State :=
  ((s.drc.poison.filter (fun k => 64 * k < a + n && a < 64 * k + 64)).foldl (fun l k => insertRising k l) []).foldl uncorrectable s

/-- Cut bytes from address `a` on at the ends of 64-byte blocks. `fuel` bounds the pieces. -/
def blockCuts : Nat → Nat → Bytes → List (Nat × Bytes)
  | 0, _, _ => []
  | fuel + 1, a, b => if b.isEmpty then [] else (a, b.take (64 - a % 64)) :: blockCuts fuel (a + (64 - a % 64)) (b.drop (64 - a % 64))

/-- A master writes bytes of one block: the whole of it, or a part, which is a read-modify-write that an uncorrectable block refuses
with INTEGRITY (R483). -/
def blockStore (s : State) (port a : Nat) (b : Bytes) : State :=
  if b.length = 64 then dramWr s a b
  else
    let s := incSat s F.DRC_HAZSTAT_RMW
    if dramBad s a b.length then emit (uncorrectable s (a / 64)) (.answer port (a / 64) .integrity []) else dramWr s a b

/-- The master at `port` writes bytes to DRAM from address `a` on (R483). -/
def dramStore (s : State) (port a : Nat) (b : Bytes) : State :=
  (blockCuts (b.length / 64 + 2) a b).foldl (fun s p => blockStore s port p.1 p.2) s

/-! ### Yields (R28 to R33) -/

/-- One yield: level kept, level that yielded, block, status code, and the frame current at it. -/
structure Yield where
  winner : Nat
  loser : Nat
  block : Nat
  code : Status
  frame : Nat
  deriving DecidableEq, Repr

/-- A yield in the form of GLB_YIELDLAST (R31). -/
def Yield.word (y : Yield) : Nat := y.winner + 2 ^ 4 * y.loser + 2 ^ 8 * y.block + 2 ^ 16 * y.code.code

/-- The counter of the level that yielded (R29). -/
def yieldCounter (loser : Nat) : Fld :=
  if loser = 2 then F.GLB_YIELDCNT_CNT2 else if loser = 3 then F.GLB_YIELDCNT_CNT3
  else if loser = 4 then F.GLB_YIELDCNT_CNT4 else F.GLB_YIELDCNT_CNT5

/-- Count one yield and raise its event. -/
def countYield (s : State) (y : Yield) : State :=
  raise (incSat s (yieldCounter y.loser)) 0x0001 (beBytes 4 y.word ++ beBytes 4 y.frame)

/-- Record a yield in GLB_YIELDLAST and GLB_YIELDFRM. -/
def recordYield (s : State) (y : Yield) : State :=
  (s.setWord R.GLB_YIELDLAST (BitVec.ofNat 32 y.word)).setWord R.GLB_YIELDFRM (BitVec.ofNat 32 y.frame)

/-- Does a yield take the record before another of the same cycle (R33): lower LOSER, then lower BLOCK? -/
def Yield.before (a b : Yield) : Bool := a.loser < b.loser || (a.loser == b.loser && a.block < b.block)

/-- Of several yields in one cycle, the one whose record is kept (R33). -/
def keptYield : List Yield → Option Yield
  | [] => none
  | y :: t =>
    match keptYield t with
    | none => some y
    | some z => if z.before y then some z else some y

/-- The yields of one instant: each is counted and raises its event; one is recorded (R28, R33).
DESIGN CHOICE (log entry 117). -/
def yields (s : State) (ys : List Yield) : State :=
  let s := ys.foldl countYield s
  match keptYield ys with
  | some y => recordYield s y
  | none => s

/-- One yield (R28). -/
def yield (s : State) (winner loser block : Nat) (code : Status) (frame : Nat) : State :=
  yields s [⟨winner, loser, block, code, frame⟩]

/-! ### The error log (R101 to R104) -/

/-- Spaces of a logged access (R102). -/
def srcBar0 : Nat := 0
def srcBar2 : Nat := 1
def srcLetter : Nat := 2
def srcJtag : Nat := 3

/-- Log a refused access (R103). -/
def logError (s : State) (src off : Nat) (c : Status) : State :=
  if isSet s F.GLB_ERRINFO_VALID then
    incSat (setF s F.GLB_ERRINFO_OVER 1) F.GLB_ERRINFO_COUNT
  else
    let s := setF (setF s F.GLB_ERRLOG_OFFSET off) F.GLB_ERRLOG_CODE c.code
    let s := setF (setF (setF s F.GLB_ERRINFO_SRC src) F.GLB_ERRINFO_VALID 1) F.GLB_ERRINFO_COUNT 1
    raise s 0x0002 (beBytes 4 (s.word R.GLB_ERRLOG).toNat ++ [byte src])

/-- Clear the log (R102). DESIGN CHOICE (log entry 116). -/
def clearErrors (s : State) : State :=
  (setF (setF (setF s F.GLB_ERRINFO_VALID 0) F.GLB_ERRINFO_OVER 0) F.GLB_ERRINFO_COUNT 0).setWord R.GLB_ERRLOG 0#32

/-- The frame number current in a unit, for records that carry one: FRT_FRAME on a sender, LMP_FRAME on a tile. -/
def currentFrame (s : State) : Nat := if isSender s then getF s F.FRT_FRAME_FRAME else getF s F.LMP_FRAME_FRAME

end Sys2Proof.Machine
end

