-- ==== Sys2Proof/Machine/Que.lean ====
section
/-! DEFINITION. QUE: the rings, their fetching and completion, doorbells, stops and ring-memory filling (R105 to R125). -/

namespace Sys2Proof.Machine

/-! ### Per-queue state -/

def qrecReset : QRec := ⟨false, false, false, false, 0, false, [], [], 0⟩

def qrec (s : State) (q : Nat) : QRec := tget qrecReset s.queues q

def setQrec (s : State) (q : Nat) (r : QRec) : State := { s with queues := tset qrecReset s.queues q r }

/-- States of a queue (R111). -/
def qDisabled : Nat := 0
def qRunning : Nat := 1
def qStopping : Nat := 2
def qStopped : Nat := 3
def qError : Nat := 4

def qState (s : State) (q : Nat) : Nat := getF s (F.QUE_STAT_STATE q)
def qTail (s : State) (q : Nat) : Nat := getF s (F.QUE_IDX_TAIL q)
def qFetch (s : State) (q : Nat) : Nat := getF s (F.QUE_IDX_FETCH q)
def qRetire (s : State) (q : Nat) : Nat := getF s (F.QUE_RET_RETIRE q)

/-- Is the ring in ring memory? -/
def qLocal (s : State) (q : Nat) : Bool := isSet s (F.QUE_CFG_LOC q)

/-- Entries of the ring: 2^SIZE. -/
def qLen (s : State) (q : Nat) : Nat := 2 ^ getF s (F.QUE_CFG_SIZE q)

/-- Ring base (R108). -/
def qBase (s : State) (q : Nat) : Nat :=
  (s.word (R.QUE_BASELO q)).toNat / 4096 * 4096 + 2 ^ 32 * (s.word (R.QUE_BASEHI q)).toNat

/-- Address of the slot of entry `i` (R105). -/
def slotAddr (s : State) (q i : Nat) : Nat := qBase s q + 64 * (i % qLen s q)

/-- Items the sorting office holds and has not yet handed to a target. -/
def heldItems (s : State) : List Item := s.sor.picked.map Prod.snd ++ s.sor.ready

/-- Items of queue `q` held by the sorting office (R160, R173). -/
def heldCount (s : State) (q : Nat) : Nat := ((heldItems s).filter (fun i => i.q == q)).length

/-- Items in the shadow sets of DMA channels, which may come back to the store (R146 step 1). -/
def shadowItems (s : State) : List Item := s.dma.filterMap (fun e => e.2.shadow.map Desc.item)

/-- Places taken in the store: items held, and those that may come back to it. -/
def storeLoad (s : State) : List Item := heldItems s ++ shadowItems s

/-- Has the store room for an entry of queue `q` (R160)? Entries whose ring reads are outstanding, and items that a channel may return,
keep their places. DESIGN CHOICE (log entry 131). -/
def storeRoom (s : State) (q : Nat) : Bool :=
  decide (((storeLoad s).filter (fun i => i.q == q)).length < 16) &&
  decide ((storeLoad s).length + (s.queues.filter (fun e => e.1 != q && e.2.reading)).length < 8192)

/-- Send the queue's vector (R113). -/
def qVector (s : State) (q : Nat) : State := sendVec s (getF s (F.QUE_VEC_VEC q))

/-- QUE gives up the ring read of a queue, if one is outstanding or waits. -/
def dropFetch (s : State) (q : Nat) : State :=
  setQrec (giveUpRead s (.ring q)) q { qrec s q with reading := false, waiting := false, final := false }

/-- A queue enters ERROR with a code (R116); its vector is sent if ERRIRQ = 1. -/
def queueError (s : State) (q : Nat) (c : Status) : State :=
  let s := setF (setF s (F.QUE_STAT_STATE q) qError) (F.QUE_STAT_CODE q) c.code
  let s := dropFetch s q
  if isSet s (F.QUE_CFG_ERRIRQ q) then qVector s q else s

/-! ### Fetching (R116, R120, R160) -/

/-- May QUE read the entry at FETCH now? -/
def canFetch (s : State) (q : Nat) : Bool :=
  blkOn s 0x04 && qState s q == qRunning && qFetch s q != qTail s q && !(qrec s q).reading && !(qrec s q).waiting &&
  storeRoom s q

/-- Start the read of the entry at FETCH. -/
def startRead (s : State) (q : Nat) (final : Bool) : State :=
  let s := setQrec s q { qrec s q with reading := true, waiting := false, final := final, recheck := false, blocked := false }
  if qLocal s q then s else upstream s (.read (.ring q) (slotAddr s q (qFetch s q)) 64)

/-- Compare FETCH with TAIL, and read if they differ and nothing holds the read back (R120). -/
def kick (s : State) (q : Nat) : State :=
  if canFetch s q then startRead s q false
  else setQrec s q { qrec s q with
    blocked := qState s q == qRunning && qFetch s q != qTail s q && !(qrec s q).reading && !(qrec s q).waiting }

/-- Look again at every queue that has work, after room appeared in the store. -/
def kickAll (s : State) : State := s.queues.foldl (fun s e => kick s e.1) s

/-- An item comes to the end of the sorting office's store; a store that thereby fills is noted (R160, R169). -/
def holdItem (s : State) (i : Item) : State :=
  let n := (storeLoad s).length
  let s := { s with sor := { s.sor with ready := s.sor.ready ++ [i] } }
  if n < 8192 ∧ 8192 ≤ (storeLoad s).length then setF s F.SOR_GSTAT_FULL 1 else s

/-- Hand an entry to the sorting office (R116, R160, R161). Its ready time is kept as an extended time (R359), so that waits of any
length are ordered. DESIGN CHOICE (log entry 130). -/
def handOn (s : State) (q : Nat) (e : Bytes) : State :=
  let i := qFetch s q
  let it : Item := ⟨q, i, getF s (F.SOR_QBIND_PRIO q), extNs s, e, (qrec s q).gen⟩
  let s := setQrec s q { qrec s q with handed := (qrec s q).handed ++ [(i, byteAt e 59, false)] }
  let s := setF s (F.QUE_IDX_FETCH q) (i + 1)
  let s := setF s (F.QUE_STAT_INFLIGHT q) (getF s (F.QUE_STAT_INFLIGHT q) + 1)
  holdItem s it

/-- A ring read returned (R116, R120). A read no longer wanted is discarded (R121). -/
def ringRead (s : State) (q : Nat) (res : RdRes) : State :=
  let r := qrec s q
  let s := dropRead s (.ring q)
  if !r.reading then s
  else if qState s q != qRunning then setQrec s q { r with reading := false, final := false }
  else
    let s := setQrec s q { r with reading := false, final := false }
    let res := if qLocal s q then .data (ringRd s (slotAddr s q (qFetch s q)) 64) else res
    match res with
    | .refused => queueError s q .busError
    | .poisoned => queueError s q .integrity
    | .data b =>
      let e := fit 64 b
      if (byteAt e 60).testBit 0 then
        if leAt e 56 2 = qFetch s q then kick (handOn s q e) q
        else queueError s q .staleState
      else if r.recheck then kick s q
      else if r.final then queueError s q .timeout
      else setQrec s q { qrec s q with waiting := true, since := upNs s }

/-- 1 ms after a read that found OWN = 0, with no doorbell since, the entry is read once more (R120). -/
def recheckTimeout (s : State) (q : Nat) : State :=
  if (qrec s q).waiting ∧ qState s q = qRunning ∧ (qrec s q).since + 1000000 ≤ upNs s ∧ storeRoom s q then startRead s q true else s

/-! ### Completion (R117, R121) -/

/-- Store bytes of a ring slot, in host memory or ring memory. -/
def slotWrite (s : State) (q i off : Nat) (b : Bytes) : State :=
  if qLocal s q then ringWr s (slotAddr s q i + off) b else upstream s (.write (slotAddr s q i + off) b)

/-- Advance RETIRE over the contiguous completed entries at the head of `l`. -/
def retireRun : List (Nat × Nat × Bool) → Nat → List (Nat × Nat × Bool) × Nat
  | (i, f, true) :: t, r => if i = r then retireRun t ((r + 1) % 65536) else ((i, f, true) :: t, r)
  | l, r => (l, r)

/-- STOPPING ends when nothing is in flight (R121). -/
def stopDrained (s : State) (q : Nat) : State :=
  if qState s q = qStopping ∧ getF s (F.QUE_STAT_INFLIGHT q) = 0 then setF s (F.QUE_STAT_STATE q) qStopped else s

/-- The next item of a SERIAL queue becomes ready when the one before it completes (R159). DEDUCED (log entry 22). -/
def serialReady (s : State) (q : Nat) : State :=
  if isSet s (F.SOR_QBIND_SERIAL q) then
    let rec mark : List Item → List Item
      | [] => []
      | i :: t => if i.q = q then { i with ready := extNs s } :: t else i :: mark t
    { s with sor := { s.sor with ready := mark s.sor.ready } }
  else s

/-- Do the writes of a completion wait for Bus Master Enable (R97)? -/
def slotWaits (s : State) (q : Nat) : Bool := !qLocal s q && isSet s F.HIF_LINKSTAT_UP && !upOpen s

/-- Entry `i` has its OWNWORD: RETIRE and INFLIGHT follow (R117). -/
def retireEntry (s : State) (q i : Nat) : State :=
  let l := (qrec s q).handed.map (fun h => if h.1 = i then (h.1, h.2.1, true) else h)
  let (l, r) := retireRun l (qRetire s q)
  let s := setQrec s q { qrec s q with handed := l }
  let s := setF s (F.QUE_RET_RETIRE q) r
  let s := setF s (F.QUE_STAT_INFLIGHT q) (getF s (F.QUE_STAT_INFLIGHT q) - 1)
  stopDrained s q

/-- The writes that waited have gone out: their entries retire, and have completed (R117, R159). -/
def retireLate (s : State) : State :=
  s.queues.foldl (fun s e =>
    (qrec s e.1).late.foldl (fun s i => serialReady (retireEntry s e.1 i) e.1) (setQrec s e.1 { qrec s e.1 with late := [] })) s

/-- Entry `i` has ended with nothing to record it: later entries of a SERIAL queue need not wait for it (R140, R159). -/
def entryLost (s : State) (q i : Nat) : State :=
  serialReady (setQrec s q { qrec s q with handed := (qrec s q).handed.map (fun h => if h.1 = i then (h.1, h.2.1, true) else h) }) q

/-- The link is lost: completions whose writes waited cannot be written (R140). DESIGN CHOICE (log entry 13). -/
def lateLost (s : State) : State :=
  s.queues.foldl (fun s e =>
    (qrec s e.1).late.foldl (fun s i => entryLost s e.1 i) (setQrec s e.1 { qrec s e.1 with late := [] })) s

/-- Complete entry `i` of queue `q` whose FLAGS byte is `flags` (R117): body words, then STATUS and FLAGS, then OWNWORD as a
separate write, then the vector; RETIRE and INFLIGHT follow the last write, which waits while Bus Master Enable is 0 (R97).
DESIGN CHOICE (log entry 21). -/
def completeEntry (s : State) (q i flags : Nat) (words : List (Nat × Bytes)) (c : Nat) (dead : Bool) : State :=
  if (qrec s q).handed.any (fun h => h.1 == i && !h.2.2) && !(qrec s q).late.contains i then
    let s := words.foldl (fun s w => slotWrite s q i w.1 w.2) s
    let s := slotWrite s q i 56 (leBytes 2 i ++ [byte c, byte (putBit flags 1 dead)])
    let s := slotWrite s q i 60 (zeros 4)
    let s := if flags.testBit 0 then qVector s q else s
    if slotWaits s q then setQrec s q { qrec s q with late := (qrec s q).late ++ [i] } else serialReady (retireEntry s q i) q
  else s

/-- Can a completion of a queue not be written, its ring being in host memory and the link down (R140)? -/
def ringLost (s : State) (q : Nat) : Bool := !qLocal s q && !isSet s F.HIF_LINKSTAT_UP

/-- Complete an item with the words of its body and a STATUS byte. An item whose queue has been enabled again since completes no entry
of it; one whose ring the link loss has cut off leaves nothing behind (R140). -/
def completeItem (s : State) (it : Item) (words : List (Nat × Bytes)) (c : Nat) (dead : Bool) : State :=
  if it.gen ≠ (qrec s it.q).gen then s
  else if ringLost s it.q then entryLost s it.q it.idx
  else completeEntry s it.q it.idx (byteAt it.entry 59) words c dead

/-- Complete an item with the words of its body. -/
def complete (s : State) (it : Item) (words : List (Nat × Bytes)) (c : Status) (dead : Bool) : State :=
  completeItem s it words c.code dead

/-- Complete an item whose block writes bytes 40 to 55 of the body; a code other than OK makes it a dead letter unless the
chapter says DEAD = 0. -/
def complete40 (s : State) (it : Item) (words : Bytes) (c : Status) (dead : Bool := c != .ok) : State :=
  complete s it [(40, fit 16 words)] c dead

/-! ### Queue control (R110, R121) -/

/-- ENABLE 0→1 from DISABLED. -/
def queueEnable (s : State) (q : Nat) : State :=
  let s := s.setWord (R.QUE_IDX q) 0#32
  let s := setF s (F.QUE_RET_RETIRE q) 0
  let s := setF (setF (setF s (F.QUE_STAT_STATE q) qRunning) (F.QUE_STAT_CODE q) 0) (F.QUE_STAT_INFLIGHT q) 0
  setQrec s q { qrecReset with gen := (qrec s q).gen + 1 }

/-- ENABLE 1→0 from STOPPED or ERROR. Entries still in flight in a queue in ERROR are forgotten: their completions write nothing,
and INFLIGHT keeps its value until the queue is enabled again. DESIGN CHOICE (log entry 123). -/
def queueDisable (s : State) (q : Nat) : State :=
  let s := setF (setF s (F.QUE_STAT_STATE q) qDisabled) (F.QUE_STAT_CODE q) 0
  setQrec s q { qrecReset with gen := (qrec s q).gen }

/-- STOP (R121): a read that is outstanding is discarded when it returns, one that waits is not issued. -/
def queueStop (s : State) (q : Nat) : State := stopDrained (dropFetch (setF s (F.QUE_STAT_STATE q) qStopping) q) q

/-- RESUME. -/
def queueResume (s : State) (q : Nat) : State := kick (setF s (F.QUE_STAT_STATE q) qRunning) q

/-! ### Doorbells (R118, R119) -/

/-- An accepted new TAIL (R119, R120). -/
def acceptTail (s : State) (q t : Nat) : State :=
  let s := setF s (F.QUE_IDX_TAIL q) t
  let s := setQrec s q { qrec s q with recheck := true, waiting := false }
  kick s q

/-- The checks of a doorbell, in order (R119). -/
def doorbellCheck (s : State) (q v : Nat) : Status :=
  let st := qState s q
  if !(st = qRunning ∨ st = qStopping ∨ st = qStopped) then .wrongState
  else if isSet s (F.QUE_CFG_SRC q) then .notPermitted
  else if v / 65536 ≠ 0 then .illegalValue
  else
    let d := msub 16 v (qRetire s q)
    if msub 16 (qTail s q) (qRetire s q) ≤ d ∧ d ≤ qLen s q then .ok else .range

/-! ### Ring memory (R122 to R124) -/

/-- The checks of a ring-fill letter, in order (R123). -/
def ringFillCheck (s : State) (q f n : Nat) : Status :=
  let st := qState s q
  if 4096 ≤ q then .range
  else if !isSet s (F.QUE_CFG_SRC q) then .notPermitted
  else if !(st = qRunning ∨ st = qStopping ∨ st = qStopped) then .wrongState
  else if n = 0 ∨ 8 < n then .illegalValue
  else if f ≠ qTail s q then .staleState
  else if qLen s q < msub 16 (qTail s q + n) (qRetire s q) then .noResource
  else .ok

/-- Write the entries of a ring-fill letter, each 56 body bytes and FLAGS, from index `f` on (R123). -/
def ringFillWrite (s : State) (q f : Nat) : List Bytes → State
  | [] => s
  | e :: t =>
    let b := fit 56 e ++ leBytes 2 f ++ [0#8, byte (putBit (byteAt e 56) 1 false)] ++ leBytes 4 1
    ringFillWrite (ringWr s (slotAddr s q f) b) q ((f + 1) % 65536) t

/-- The checks of a ring-read letter, in order (R336). -/
def ringReadCheck (s : State) (q i n : Nat) : Status :=
  if 4096 ≤ q then .range
  else if !isSet s (F.QUE_CFG_SRC q) then .notPermitted
  else if n = 0 ∨ 8 < n then .illegalValue
  else if msub 16 i (qRetire s q) + n ≤ msub 16 (qTail s q) (qRetire s q) then .ok
  else .range

/-- Bytes [start, end) of ring memory that queue `q`'s ring takes. -/
def ringSpan (s : State) (q : Nat) : Nat × Nat := (qBase s q, qBase s q + 64 * qLen s q)

/-- Does the ring of queue `q` overlap the ring of an enabled queue in ring memory (R110)? -/
def ringOverlap (s : State) (q : Nat) : Bool :=
  let (a, b) := ringSpan s q
  (List.range 4096).any (fun k => k != q && isSet s (F.QUE_CTL_ENABLE k) && qLocal s k &&
    a < (ringSpan s k).2 && (ringSpan s k).1 < b)

/-- A block reset of QUE: every handed-on entry completes with ABORTED, every queue is left DISABLED (R121, R81).
DESIGN CHOICE (log entry 23). -/
def queAbortAll (s : State) : State :=
  s.queues.foldl (fun s e =>
    e.2.handed.foldl (fun s h => if h.2.2 then s else completeEntry s e.1 h.1 h.2.1 [] Status.aborted.code true) s) s

def queBlockReset (s : State) : State :=
  let s := queAbortAll s
  let s := s.queues.foldl (fun s e => giveUpRead s (.ring e.1)) s
  let s := resetRegs s 0x40000 0x80000
  { s with queues := s.queues.map (fun e => (e.1, { qrecReset with gen := e.2.gen + 1 })), sor := { s.sor with ready := [], picked := [] } }

end Sys2Proof.Machine
end

