-- ==== Sys2Proof/Machine/Cores.lean ====
section
/-! DEFINITION. Dispatch targets of the sorting office as their items come and go: what SOR_TGTSTAT shows (R171), the busy
time of R174, and a service core giving up the entry it holds (R163, R180). -/

namespace Sys2Proof.Machine

/-- Does TIM count: PLL_TIME has locked in the PLL stage and no reset is asserted (R356)? -/
def timeRuns (s : State) : Bool := !inReset s && 2 ≤ stage s && power s != 4

/-- TIME_NS wraps `n` times (R359). -/
def wrapTimes : Nat → State → State
  | 0, s => s
  | n + 1, s =>
    let s := { s with wraps := (s.wraps + 1) % 2 ^ 32 }
    wrapTimes n (raise s 0x0F01 (beBytes 4 s.wraps))

/-- The extended time was `e` and has changed: a load window that thereby reaches 2^32 - 1 ns is marked (R169). -/
def longWindow (s : State) (e : Nat) : State :=
  match s.sor.winFrom with
  | some w => if e - w < 2 ^ 32 - 1 ∧ 2 ^ 32 - 1 ≤ extNs s - w then setF s F.SOR_GSTAT_LONGWIN 1 else s
  | none => s

/-- `n` ticks of PLL_TIME pass (R356, R359). -/
def advance (n : Nat) (s : State) : State :=
  if timeRuns s then
    let t := s.time + n * getF s F.TIM_INC_INC
    longWindow (wrapTimes (t / 2 ^ 60) { s with time := t % 2 ^ 60, up := s.up + n }) (extNs s)
  else s

/-! ### LAMP_EN (R438) -/

/-- The conditions of R438, but for the slot latch at which LAMP_EN rises. -/
def lampCond (s : State) : Bool :=
  blkOn s 0x11 && isReady s && isSet s F.LMP_CTL_EN &&
  ((isSet s F.LMP_MSTAT_MODE && getF s F.LMP_MSTAT_CODE == 0) || isSet s F.LMP_TPCFG_SELF) &&
  (2 ≤ getF s F.TIM_STAT_STATE || isSet s F.LMP_CTL_UNLOCKED) &&
  power s == 0 && !s.sec.extest

/-- LAMP_EN goes low where one of the conditions fails. -/
def lampDrop (s : State) : State :=
  if s.lmp.lampEn && !lampCond s then { s with lmp := { s.lmp with lampEn := false } } else s

def trecReset : TRec := ⟨none, none, false, [], [], none⟩

def trec (s : State) (t : Nat) : TRec := tget trecReset s.sor.targets t

def setTrec (s : State) (t : Nat) (r : TRec) : State :=
  { s with sor := { s.sor with targets := tset trecReset s.sor.targets t r } }

/-- The active item of a target: the one that pre-empted, else the ordinary one. -/
def TRec.active (r : TRec) : Option Item := r.urgent.orElse (fun _ => r.normal)

/-- Account busy time up to now, in ns of the extended time, while load windows are measured, and go on counting if the target is busy
(R174). DESIGN CHOICE (log entry 113). -/
def busyMark (s : State) (t : Nat) (busy : Bool) : State :=
  let r := trec s t
  let l := match r.busyFrom with
    | some f => if isSet s F.SOR_CFG_WINEN then r.spans ++ [(f, extNs s)] else []
    | none => r.spans
  setTrec s t { r with spans := l, busyFrom := if busy then some (extNs s) else none }

/-- Show a target's active item and suspended state in SOR_TGTSTAT (R171). With none active PRIO and QID read their reset values. -/
def showTarget (s : State) (t : Nat) (active : Option Item) (susp : Bool) : State :=
  let s := busyMark s t active.isSome
  let s := setF (setF s (F.SOR_TGTSTAT_BUSY t) (b2n active.isSome)) (F.SOR_TGTSTAT_SUSP t) (b2n susp)
  setF (setF s (F.SOR_TGTSTAT_PRIO t) ((active.map Item.prio).getD 0)) (F.SOR_TGTSTAT_QID t) ((active.map Item.q).getD 0)

/-- Show a service core or a host core. -/
def showCore (s : State) (t : Nat) : State := showTarget s t (trec s t).active (trec s t).susp

/-- A service core's active item leaves it: a displaced item resumes, or an item handed over meanwhile starts. -/
def coreRelease (s : State) (t : Nat) : State :=
  let r := trec s t
  let r := if r.urgent.isSome then { r with urgent := none } else { r with normal := none, susp := false }
  let r := if r.normal.isNone ∧ r.urgent.isNone then { r with normal := r.next.head?, next := r.next.drop 1 } else r
  showCore (setTrec s t r) t

/-- Opcode of an entry: byte 0 of the body (R128, R181). -/
def opcode (it : Item) : Nat := byteAt it.entry 0

/-- Is a trailer reserved bit set (R114, R116)? -/
def trailerBad (e : Bytes) : Bool := bits (byteAt e 59) 2 6 != 0 || leAt e 60 4 / 2 != 0

/-- Service cores 1 to 7 are stopped in SLEEP (R514). -/
def coreStopped (s : State) (t : Nat) : Bool := power s == 3 && decide (1 ≤ t) && decide (t < 8)

/-- The service core whose active entry of opcode `op` came to it first; of several that came at once, the lowest-numbered.
DESIGN CHOICE (log entry 38). -/
def coreFirst (s : State) (op : Nat) : Option Nat :=
  ((List.range 8).filter (fun t => !coreStopped s t && (trec s t).active.any (fun i => opcode i == op))).foldl (fun b t =>
    match b with
    | none => some t
    | some u => if (trec s t).busyFrom.getD 0 < (trec s u).busyFrom.getD 0 then some t else some u) none

/-- The entry of opcode `op` that came to a service core first is handed over; the core is then free (R180, R406). -/
def coreTake (s : State) (op : Nat) : Option (Item × State) :=
  match coreFirst s op with
  | some t => (trec s t).active.map (fun i => (i, coreRelease s t))
  | none => none

/-- Run `f` on the entry of opcode `op` that a service core hands over; with none, nothing happens. -/
def onEntry (s : State) (op : Nat) (f : State → Item → State) : State :=
  match coreTake s op with
  | some (i, s) => f s i
  | none => s

/-- As `onEntry`, where the entry reads data: while `wait` holds of it, it stays with its core and nothing happens (R97).
DESIGN CHOICE (log entry 136). -/
def onEntryRead (s : State) (op : Nat) (wait : State → Item → Bool) (f : State → Item → State) : State :=
  match coreTake s op with
  | some (i, s') => if wait s i then s else f s' i
  | none => s

end Sys2Proof.Machine
end

