-- ==== Sys2Proof/Machine/Keys.lean ====
section
/-! DEFINITION. Keys on the chain: key slots of a tile (R348), key records of a sender (R549), sealed letters (R332), sealed
runs (R327), and the change of keys at a raster start (R552). -/

namespace Sys2Proof.Machine

/-! ### Seals -/

/-- Additional authenticated data of a letter (R332): LTYPE, RANK, LID, ADDR, LFL. -/
def letterAad (ltype rank lid addr lfl : Nat) : Bytes := [byte ltype, byte rank] ++ beBytes 2 lid ++ beBytes 2 addr ++ [byte lfl]

/-- LSEQ: bit 63 is the direction, 1 from the tile; the rest counts (R332). -/
def lseq (fromTile : Bool) (n : Nat) : Bytes := beBytes 8 (n % 2 ^ 63 + b2n fromTile * 2 ^ 63)

/-- A sealed letter content: LSEQ, ciphertext, TAG (R332). -/
def sealLetter (key : Bytes) (session : Nat) (fromTile : Bool) (n : Nat) (aad plain : Bytes) : Bytes :=
  let q := lseq fromTile n
  q ++ fit (plain.length + 16) (Config.gcmSeal key (beBytes 4 session ++ q) aad plain)

/-- Open a sealed letter content: its LSEQ counter, direction and plaintext; none where the tag fails. -/
def openLetter (key : Bytes) (session : Nat) (aad content : Bytes) : Option (Nat × Bool × Bytes) :=
  if content.length < 24 then none
  else
    let q := content.take 8
    let ct := (content.drop 8).take (content.length - 24)
    match Config.gcmOpen key (beBytes 4 session ++ q) aad ct (content.drop (content.length - 16)) with
    | some p => some (beNat q % 2 ^ 63, (beNat q).testBit 63, fit ct.length p)
    | none => none

/-- Is an LSEQ counter above the last accepted? -/
def lseqFresh (last : Option Nat) (n : Nat) : Bool := match last with | some l => l < n | none => true

/-! ### A tile's key slots (R348) -/

/-- The keys in slot `k`. -/
def keySlot (s : State) (k : Nat) : Option KeySlot := (s.chn.slots.find? (fun e => e.1 == k)).map Prod.snd

/-- Slot `k` takes keys or is emptied; CHN_KEYSTAT and CHN_KSESS follow. Keys that leave a slot serve only replies to letters that
they sealed. -/
def setKeySlot (s : State) (k : Nat) (v : Option KeySlot) : State :=
  let rest := s.chn.slots.filter (fun e => e.1 != k)
  let s := { s with chn := { s.chn with oldKeys := (keySlot s k).toList ++ s.chn.oldKeys } }
  match v with
  | some x =>
    let s := { s with chn := { s.chn with slots := tins k x rest } }
    setF (setBitF s F.CHN_KEYSTAT_VALID k true) (F.CHN_KSESS_SESS k) x.session
  | none =>
    let s := { s with chn := { s.chn with slots := rest } }
    setF (setBitF s F.CHN_KEYSTAT_VALID k false) (F.CHN_KSESS_SESS k) 0

/-- Every slot is emptied, and no key remains. -/
def dropKeySlots (s : State) : State :=
  let s := (List.range 4).foldl (fun s k => setKeySlot s k none) s
  { s with chn := { s.chn with oldKeys := [] } }

/-- Change the keys in slot `k` without changing what the registers show. -/
def touchKeySlot (s : State) (k : Nat) (f : KeySlot → KeySlot) : State :=
  { s with chn := { s.chn with slots := s.chn.slots.map (fun e => if e.1 = k then (e.1, f e.2) else e) } }

/-- The lowest slot whose rank is `rank`. -/
def slotOfRank (s : State) (rank : Nat) : Option (Nat × KeySlot) :=
  s.chn.slots.find? (fun e => e.2.session / 2 ^ 24 == rank)

/-- Are these the keys of a session and letter key? -/
def KeySlot.same (x : KeySlot) (session : Nat) (lkey : Bytes) : Bool := x.session == session && x.lkey == lkey

/-- The keys that sealed a letter, in their slot or after they left it. -/
def sealKeys (s : State) (session : Nat) (lkey : Bytes) : Option KeySlot :=
  (s.chn.slots.map Prod.snd ++ s.chn.oldKeys).find? (fun x => x.same session lkey)

/-- One more letter has been sealed with the keys. -/
def sealNext (s : State) (session : Nat) (lkey : Bytes) : State :=
  let up (x : KeySlot) : KeySlot := if x.same session lkey then { x with ltx := x.ltx + 1 } else x
  { s with chn := { s.chn with slots := s.chn.slots.map (fun e => (e.1, up e.2)), oldKeys := s.chn.oldKeys.map up } }

/-- Seal a reply of this tile with the keys that sealed the request (R332); none where they are gone. -/
def sealReply (s : State) (session : Nat) (lkey : Bytes) (ltype rank lid addr lfl : Nat) (plain : Bytes) : Option (Bytes × State) :=
  (sealKeys s session lkey).map (fun x =>
    (sealLetter x.lkey x.session true x.ltx (letterAad ltype rank lid addr lfl) plain, sealNext s session lkey))

/-! ### A sender's key records (R549) -/

def keyRecEmpty : KeyRec := ⟨[], none, none⟩

/-- The key record with index 512p + POSITION. -/
def keyRec (s : State) (i : Nat) : KeyRec := tget keyRecEmpty s.sec.recs i

def setKeyRec (s : State) (i : Nat) (r : KeyRec) : State := { s with sec := { s.sec with recs := tset keyRecEmpty s.sec.recs i r } }

/-- Index of the record of a postcode (R324, R549). -/
def recIndex (s : State) (postcode : Nat) : Option Nat := (chainPort s postcode).map (fun p => 512 * p + postcode % 512)

/-- The current entry for a postcode. -/
def curEntry (s : State) (postcode : Nat) : Option KeyEnt := (recIndex s postcode).bind (fun i => (keyRec s i).cur)

/-- The group key of the session most recently made current (R549). -/
def bcastKey (s : State) : Option GroupKey := s.sec.bcast.bind (fun n => s.sec.groups.find? (fun g => g.session == n))

/-- Is there a key with which a letter to `addr` can be sealed (R339 check 5)? -/
def canSeal (s : State) (addr : Nat) : Bool := if addr = 0xFFFE ∨ addr = 0xFFFF then (bcastKey s).isSome else (curEntry s addr).isSome

/-- LFL of a sender's letter: SEALED, KSLOT, TOSENDER (R330). -/
def lflOf (sealed : Bool) (kslot : Nat) (toSender : Bool) : Nat := b2n sealed + 4 * (kslot % 4) + 16 * b2n toSender

/-- Slot that a session has in the tiles' records. -/
def sessionSlot (s : State) (session : Nat) : Nat :=
  ((s.sec.recs.findSome? (fun e => match e.2.cur with | some c => if c.session = session then some c.slot else none | none => none)).orElse
    (fun _ => s.sec.enrol.bind (fun e => if e.1 = session then some e.2 else none))).getD 0

/-- The content and LFL of a sender's letter to `addr`, sealed if asked and a key exists (R332, R339). -/
def senderContent (s : State) (addr ltype rank lid : Nat) (wantSeal toSender : Bool) (content : Bytes) : Bytes × Nat × State :=
  if !wantSeal then (content, lflOf false 0 toSender, s)
  else if addr = 0xFFFE ∨ addr = 0xFFFF then
    match bcastKey s with
    | some g =>
      let lfl := lflOf true (sessionSlot s g.session) toSender
      let gs := s.sec.groups.map (fun h => if h.session = g.session then { h with ltx := h.ltx + 1 } else h)
      (sealLetter g.key g.session false g.ltx (letterAad ltype rank lid addr lfl) content, lfl, { s with sec := { s.sec with groups := gs } })
    | none => (content, lflOf false 0 toSender, s)
  else
    match recIndex s addr, curEntry s addr with
    | some i, some e =>
      let lfl := lflOf true e.slot toSender
      let r := keyRec s i
      (sealLetter e.lkey e.session false e.ltx (letterAad ltype rank lid addr lfl) content, lfl,
        setKeyRec s i { r with cur := some { e with ltx := e.ltx + 1 } })
    | _, _ => (content, lflOf false 0 toSender, s)

/-- Send a letter of this sender on the given ports. -/
def sendLetter (s : State) (ports : List Nat) (addr ltype lid : Nat) (wantSeal toSender : Bool) (content : Bytes) : State :=
  let rank := getF s F.TAN_CFG_RANK
  let (c, lfl, s) := senderContent s addr ltype rank lid wantSeal toSender content
  ports.foldl (fun s p => sendLetterCells s p (letterCells addr ltype rank lid lfl false c)) s

/-! ### Completion of SEC entries (R553) -/

/-- Write back a SEC entry. -/
def secDone (s : State) (it : Item) (c : Status) (result rcode : Nat) (dead : Bool := c != .ok) : State :=
  complete40 s it (leBytes 4 result ++ leBytes 4 (timeNs s) ++ [byte rcode]) c dead

/-! ### SWITCH (R552) -/

/-- The pending entry of every record becomes current. -/
def promoteKeys (s : State) : State :=
  let sessions := s.sec.recs.filterMap (fun e => e.2.pend.map KeyEnt.session)
  let recs := s.sec.recs.map (fun e => (e.1, match e.2.pend with | some p => { e.2 with cur := some p, pend := none } | none => e.2))
  { s with sec := { s.sec with recs := recs, bcast := (sessions.getLast?).orElse (fun _ => s.sec.bcast) } }

/-- Was frame `f` the transition frame into the mode in force (R250): the mode came by a change while FRT ran? -/
def wasTransition (s : State) (f : Nat) : Bool := s.frt.mode.any (fun m => !m.anchor && m.e == f)

/-- Is a SWITCH for frame `f` on time at the raster start of frame `n`: the two are one, or `f` is the transition frame just before,
which has no raster (R552, R597)? -/
def switchOnTime (s : State) (n f : Nat) : Bool := f == n || (f == msub 32 n 1 && wasTransition s f)

/-- At the raster start of frame `n`, the SWITCH entries whose frame is due apply, oldest first, and complete (R552, R597). -/
def switchKeys (s : State) (n : Nat) : State :=
  let due := s.sec.switches.filter (fun e => matOrAfter 32 n e.2)
  let s := { s with sec := { s.sec with switches := s.sec.switches.filter (fun e => !matOrAfter 32 n e.2) } }
  due.foldl (fun s e => secDone (promoteKeys s) e.1 (if switchOnTime s n e.2 then .ok else .late) n 0xFF false) s

/-! ### Runs (R325 to R327) -/

/-- Pixels per run (R326). -/
def runPixels (obits : Nat) : Nat := if obits = 0 then 65 else if obits = 1 then 52 else if obits = 2 then 43 else 32

/-- RUNID (R325). -/
def runId (stream kslot obits count run : Nat) : Nat :=
  stream % 4 * 2 ^ 30 + kslot % 4 * 2 ^ 28 + obits % 4 * 2 ^ 26 + count % 128 * 2 ^ 19 + run % 2 ^ 19

/-- The packed pixels of a run: 196 bytes (R326). -/
def packPixels (b : Nat) (px : List (Nat × Nat × Nat)) : Bytes :=
  fit 196 (packBits (px.flatMap (fun p => bitsBE b p.1 ++ bitsBE b p.2.1 ++ bitsBE b p.2.2)))

/-- A RUN or CLEAR cell without its PIX and TAG. -/
def runHead (kind postcode frame id : Nat) : Bytes := (mkCell postcode kind false (beBytes 4 frame ++ beBytes 4 id)).take 12

/-- The cell of a run, sealed under an entry (R327) or clear with its CRC-32. -/
def runCell (e : Option KeyEnt) (postcode frame stream obits count run : Nat) (pix : Bytes) : Bytes :=
  match e with
  | some e =>
    let id := runId stream e.slot obits count run
    let h := runHead 1 postcode frame id
    h ++ fit 212 (Config.gcmSeal e.ckey (beBytes 4 e.session ++ beBytes 4 frame ++ beBytes 4 id) h pix)
  | none =>
    let h := runHead 2 postcode frame (runId stream 0 obits count run)
    h ++ fit 212 (pix ++ leBytes 4 (crc32 (h ++ pix)))

end Sys2Proof.Machine
end

