-- ==== Sys2Proof/Machine/Srf.lean ====
section
/-! DEFINITION. SRF: surfaces, their pages and mappings, prefetch, retiring frames and deferred operations (R176 to R201). -/

namespace Sys2Proof.Machine

/-! ### The pool (R197) -/

/-- Is SRF enabled and working? -/
def srfOn (s : State) : Bool := blkOn s 0x0A && isSet s F.SRF_CTL_EN

/-- First page of the pool that operations may allocate: after the table region. -/
def poolFirst (s : State) : Nat := getF s F.SRF_POOLBASE_BASE + getF s F.SRF_TBLLEN_LEN

/-- First page of the cache, which ends the pool (R187). -/
def cacheFirst (s : State) : Nat := getF s F.SRF_POOLBASE_BASE + getF s F.SRF_POOLLEN_LEN - 16 * getF s F.SRF_PFCFG_CACHE16

/-- Cache pages. -/
def cacheLen (s : State) : Nat := 16 * getF s F.SRF_PFCFG_CACHE16

/-- Free pool pages, outside the table and the cache. -/
def freePages (s : State) : Nat := cacheFirst s - poolFirst s - s.srf.used.length

/-- SRF_STAT and SRF_FREEPG follow the surfaces, the pending operations and the pool (R200). -/
def srfShow (s : State) : State :=
  let s := setF (setF s F.SRF_STAT_LIVE s.srf.surfs.length) F.SRF_STAT_PEND s.srf.pend.length
  setF s F.SRF_FREEPG_FREE (if srfOn s then freePages s else 0)

/-- The k-th page from `lo` on that is not in the rising list of used pages. -/
def nthFree : List Nat → Nat → Nat → Nat
  | [], lo, k => lo + k
  | u :: t, lo, k =>
    if u < lo then nthFree t lo k
    else if k < u - lo then lo + k
    else nthFree t (u + 1) (k - (u - lo))

/-- Allocate pool pages. Which free page is taken is not specified (R184): each choice is a free value. -/
def allocPages : Nat → State → List Nat × State
  | 0, s => ([], s)
  | k + 1, s =>
    let (r, s) := drawNat s
    let p := nthFree s.srf.used (poolFirst s) (r % freePages s)
    let s := { s with srf := { s.srf with used := insertRising p s.srf.used } }
    let (ps, s) := allocPages k s
    (p :: ps, s)

/-- Return pages to the pool; their content stays (R195). -/
def freePool (s : State) (ps : List Nat) : State :=
  { s with srf := { s.srf with used := s.srf.used.filter (fun p => !ps.contains p) } }

/-! ### Mappings (R177, R185) -/

/-- Backing of page `vp` inside a segment. -/
def segBack (g : Seg) (vp : Nat) : Backing :=
  match g.back with
  | .host a => .host (a + 65536 * (vp - g.vp))
  | .loc p => .loc (p + (vp - g.vp))
  | .hole => .hole

/-- Backing of a page in a map. -/
def segFind (l : List Seg) (vp : Nat) : Option Backing :=
  (l.find? (fun g => g.vp ≤ vp && vp < g.vp + g.n)).map (fun g => segBack g vp)

/-- The part of a segment inside [vp, vp + n). -/
def segClip (vp n : Nat) (g : Seg) : List Seg :=
  let a := max g.vp vp
  let b := min (g.vp + g.n) (vp + n)
  if a < b then [⟨a, b - a, segBack g a⟩] else []

/-- The map without [vp, vp + n). -/
def segsOut (l : List Seg) (vp n : Nat) : List Seg :=
  l.flatMap (fun g => segClip 0 vp g ++ segClip (vp + n) (2 ^ 26) g)

/-- The map inside [vp, vp + n). -/
def segsIn (l : List Seg) (vp n : Nat) : List Seg := l.flatMap (segClip vp n)

/-- Pool pages a map holds. -/
def segPages (l : List Seg) : List Nat :=
  l.flatMap (fun g => match g.back with | .loc p => (List.range g.n).map (p + ·) | _ => [])

/-- The map DMA uses, and frames whose raster starts from now on. -/
def pageMap (s : State) (vp : Nat) : Option Backing := if srfOn s then segFind s.srf.segs vp else none

/-- The map frame `f` uses: the one before the oldest pending BACK that must wait for it (R185). -/
def pageMapFor (s : State) (f vp : Nat) : Option Backing :=
  match s.srf.pend.find? (fun o => o.op == 0x21 && o.frames.contains f && o.vp ≤ vp && vp < o.vp + o.n) with
  | some o => if srfOn s then segFind o.old vp else none
  | none => pageMap s vp

/-- A live surface by its handle. -/
def surfOf (s : State) (h : Nat) : Option Surf := if srfOn s then s.srf.surfs.find? (fun x => x.handle == h) else none

/-- The handle of the surface a page lies in. -/
def surfAt (s : State) (vp : Nat) : Nat :=
  ((s.srf.surfs.find? (fun x => x.vp ≤ vp && vp < x.vp + x.n)).map Surf.handle).getD 0

/-- A surface's bytes. -/
def surfSize (x : Surf) : Nat := 65536 * x.n

/-- The block of DRAM that holds the table entry of a page, beyond the handle records of the table region; where in it is a free
value (R179, R198). DESIGN CHOICE (log entry 134). -/
def tableBlock (s : State) (vp : Nat) : Nat :=
  1024 * (getF s F.SRF_POOLBASE_BASE + 64) + Config.tablePlace vp % max 1 (1024 * (getF s F.SRF_TBLLEN_LEN - 64))

/-- Does the use of a translation meet an uncorrectable table read (R179)? -/
def walkBad (s : State) (vp : Nat) : Bool := !s.srf.tc.contains vp && s.drc.poison.contains (tableBlock s vp)

/-- A translation is used: a miss is counted and, unless its table read fails under R485, cached; which one it replaces is not
specified (R179). DESIGN CHOICE (log entry 27). -/
def srfWalk (s : State) (vp : Nat) : State :=
  if s.srf.tc.contains vp then s
  else
    let bad := walkBad s vp
    let s := incMod s F.SRF_TCMISS_COUNT
    if bad then uncorrectable s (tableBlock s vp) else
    let (r, s) := drawNat s
    let tc := if 16384 ≤ s.srf.tc.length then s.srf.tc.eraseIdx (r % 16384) else s.srf.tc
    { s with srf := { s.srf with tc := vp :: tc } }

/-! ### Resident copies (R186 to R188) -/

/-- May frame `f` read this copy? -/
def copyFor (f : Nat) (c : Copy) : Bool := match c.only with | none => true | some l => l.contains f

/-- The resident copy of a page for frame `f`. -/
def residentFor (s : State) (f vp : Nat) : Option Copy := s.srf.copies.find? (fun c => c.vp == vp && copyFor f c)

/-- Drop the copies of a range for frames other than the given ones: those copies serve them until they retire. -/
def dropCopies (s : State) (vp n : Nat) (frames : List Nat) : State :=
  let hit (v : Nat) : Bool := vp ≤ v && v < vp + n
  let cs := s.srf.copies.filterMap (fun c =>
    if hit c.vp && c.only.isNone then (if frames.isEmpty then none else some { c with only := some frames }) else some c)
  let fs := s.srf.fetching.map (fun f => if hit f.vp && f.only.isNone then { f with only := some frames } else f)
  { s with srf := { s.srf with copies := cs, fetching := fs } }

/-- Drop every copy of a range, those that serve only some frames too; a copy on its way is not kept (R192). -/
def loseCopies (s : State) (vp n : Nat) : State :=
  let hit (v : Nat) : Bool := vp ≤ v && v < vp + n
  { s with srf := { s.srf with
      copies := s.srf.copies.filter (fun c => !hit c.vp),
      fetching := s.srf.fetching.map (fun f => if hit f.vp then { f with only := some [] } else f) } }

/-- Resident copies of a range. -/
def copyCount (s : State) (vp n : Nat) : Nat :=
  (s.srf.copies.filter (fun c => vp ≤ c.vp && c.vp < vp + n && c.only.isNone)).length

/-- Bytes of one page piece as the reading engine sees them for frame `f`: HOLE, and anything outside an allocated surface,
reads 0 (R178, R201). -/
def pieceFor (s : State) (f vp off n : Nat) : Bytes :=
  match pageMapFor s f vp with
  | some (.loc p) => dramRd s (65536 * p + off) n
  | some (.host _) =>
    match residentFor s f vp with
    | some c => dramRd s (65536 * c.page + off) n
    | none => zeros n
  | _ => zeros n

/-- Is any block of one page piece uncorrectable for frame `f`? -/
def pieceBad (s : State) (f vp off n : Nat) : Bool :=
  match pageMapFor s f vp with
  | some (.loc p) => dramBad s (65536 * p + off) n
  | some (.host _) =>
    match residentFor s f vp with
    | some c => dramBad s (65536 * c.page + off) n
    | none => false
  | _ => false

/-- Cut [a, a + n) at 64 KiB page boundaries: (page, offset, length). `fuel` bounds the pieces. -/
def pieces : Nat → Nat → Nat → List (Nat × Nat × Nat)
  | 0, _, _ => []
  | fuel + 1, a, n =>
    if n = 0 then []
    else
      let off := a % 65536
      let k := min n (65536 - off)
      (a / 65536, off, k) :: pieces fuel (a + k) (n - k)

/-- Pieces enough for [a, a + n). -/
def pieceList (a n : Nat) : List (Nat × Nat × Nat) := pieces (n / 65536 + 2) a n

/-- Bytes at offset `a` of the surface of base page `vp`, as the reading engine sees them for frame `f`. -/
def engineRead (s : State) (f vp a n : Nat) : Bytes :=
  (pieceList (65536 * vp + a) n).flatMap (fun p => pieceFor s f p.1 p.2.1 p.2.2)

/-- Does that read meet an uncorrectable block? -/
def engineBad (s : State) (f vp a n : Nat) : Bool :=
  (pieceList (65536 * vp + a) n).any (fun p => pieceBad s f p.1 p.2.1 p.2.2)

/-- The reading engine reads [a, a + n) of a surface for frame `f`, and the read fails: the uncorrectable blocks that it met are
noted (R485), and each page counts as read by now. -/
def engineNote (s : State) (f vp a n : Nat) : State :=
  let now := timeNs s
  (pieceList (65536 * vp + a) n).foldl (fun s p =>
    let s := { s with srf := { s.srf with needs := s.srf.needs.map (fun d =>
      if d.frame = f ∧ d.vp = p.1 ∧ mafter 32 d.deadline now then { d with deadline := now } else d) } }
    if walkBad s p.1 then s
    else
      match pageMapFor s f p.1, residentFor s f p.1 with
      | some (.loc g), _ => noteBad s (65536 * g + p.2.1) p.2.2
      | some (.host _), some c => noteBad s (65536 * c.page + p.2.1) p.2.2
      | _, _ => s) s

/-- Read bytes of a surface as a service block does (R136, R227 check 7): the present mapping; local pages from DRAM, host
pages from the answer `host`, consumed in order. -/
def svcRead (s : State) (vp a n : Nat) (host : HostRes) : Except Status Bytes :=
  ((pieceList (65536 * vp + a) n).foldl (fun (acc : Except Status Bytes × Nat) p =>
    match acc.1 with
    | .error c => (.error c, 0)
    | .ok b =>
      if walkBad s p.1 then (.error .integrity, 0) else
      match pageMap s p.1 with
      | some (.loc g) => if dramBad s (65536 * g + p.2.1) p.2.2 then (.error .integrity, 0)
        else (.ok (b ++ dramRd s (65536 * g + p.2.1) p.2.2), acc.2)
      | some (.host _) =>
        if !isSet s F.HIF_LINKSTAT_UP then (.error .linkAbsent, 0)
        else
          match host with
          | .data h => (.ok (b ++ slice h acc.2 p.2.2), acc.2 + p.2.2)
          | .busError => (.error .busError, 0)
          | .timeout => (.error .timeout, 0)
          | .integrity => (.error .integrity, 0)
      | _ => (.error .range, 0)) (.ok [], 0)).1

/-- Does a read of a service block wait: Bus Master Enable is 0 and a page of its range is HOST (R97)? -/
def svcShut (s : State) (vp a n : Nat) : Bool :=
  isSet s F.HIF_LINKSTAT_UP && !upOpen s &&
  (pieceList (65536 * vp + a) n).any (fun p => match pageMap s p.1 with | some (.host _) => true | _ => false)

/-- The requests of one page piece that a service block reads: its host reads, split as R127 says. -/
def pieceReads (s : State) (p : Nat × Nat × Nat) : List Out :=
  match pageMap s p.1 with
  | some (.host h) =>
    if isSet s F.HIF_LINKSTAT_UP then (busParts s.hif.mrrs (h + p.2.1) p.2.2).map (fun q => Out.hostRead .svc q.1 q.2) else []
  | _ => []

/-- The DRAM read of one page piece meets its uncorrectable blocks (R485). -/
def pieceNote (s : State) (p : Nat × Nat × Nat) : State :=
  match pageMap s p.1 with
  | some (.loc g) => noteBad s (65536 * g + p.2.1) p.2.2
  | _ => s

/-- A read of a service block: its bytes or its code, and the state with the translations it used, the host reads it issued, and the
uncorrectable blocks it met, up to the piece that fails. -/
def svcFetch (s : State) (vp a n : Nat) (host : HostRes) : Except Status Bytes × State :=
  let ps := pieceList (65536 * vp + a) n
  let s' := emitAll (ps.foldl (fun s p => srfWalk s p.1) s) (ps.flatMap (pieceReads s))
  match svcRead s vp a n host with
  | .ok b => (.ok b, s')
  | .error c =>
    (.error c, match (ps.takeWhile (fun p => !walkBad s p.1)).find? (fun p => match pageMap s p.1 with | some (.loc g) => dramBad s (65536 * g + p.2.1) p.2.2 | _ => false) with
      | some p => if c = .integrity then pieceNote s' p else s'
      | none => s')

/-- The master of a DRC port writes bytes from byte `a` of the surface space on: local pages to DRAM, host pages across UCIe; a piece whose
translation cannot be read is not written. -/
def surfWrite (port : Nat) (s : State) (a : Nat) (b : Bytes) : State :=
  ((pieceList a b.length).foldl (fun (acc : State × Bytes) p =>
    let (s, rest) := acc
    let s := srfWalk s p.1
    let s := match (if walkBad s p.1 then none else pageMap s p.1) with
      | some (.loc g) => dramStore s port (65536 * g + p.2.1) (rest.take p.2.2)
      | some (.host h) => upstream s (.write (h + p.2.1) (rest.take p.2.2))
      | _ => s
    (s, rest.drop p.2.2)) (s, b)).1

/-- A service block writes bytes, by port 7 (R490). -/
def svcWrite (s : State) (a : Nat) (b : Bytes) : State := surfWrite 7 s a b

/-! ### Retirement (R191) -/

/-- Does a frame count as retired? -/
def frameRetired (s : State) (f : Nat) : Bool := s.srf.retiredAny && msub 32 (getF s F.SRF_RETIRED_FRAME) f < 2 ^ 31

/-- Must a FREE of this surface wait (R192)? DESIGN CHOICE (log entry 28). -/
def freeWaits (s : State) (x : Surf) : Bool :=
  match x.lastRef with
  | none => false
  | some f => !x.lastDone && !frameRetired s f

/-- Frames running or queued. -/
def frameList (s : State) : List Nat := s.srf.frames.map FrameRef.n

/-! ### Completion of operations -/

/-- Write back a surface entry (R181); one without effect carries the time of its end. DESIGN CHOICE (log entry 153). -/
def srfDone (s : State) (it : Item) (c : Status) (handle pages frame : Nat) : State :=
  complete40 s it (leBytes 2 handle ++ zeros 2 ++ leBytes 4 (timeNs s) ++ leBytes 4 pages ++ leBytes 4 frame) c

/-- A surface goes: its pages, copies, table entries, range and handle (R192). -/
def finishFree (s : State) (it : Item) (x : Surf) : State :=
  let ps := segPages (segsIn s.srf.segs x.vp x.n)
  let s := loseCopies (freePool s ps) x.vp x.n
  let s := { s with srf := { s.srf with segs := segsOut s.srf.segs x.vp x.n,
                                        surfs := s.srf.surfs.filter (fun y => y.handle != x.handle) } }
  srfDone (srfShow s) it .ok x.handle ps.length (x.lastRef.getD 0)

/-- Is a pending operation free to complete? -/
def pendReady (s : State) (o : PendOp) : Bool :=
  if o.op = 0x22 then
    match s.srf.surfs.find? (fun x => x.handle == o.handle) with
    | some x => !freeWaits s x
    | none => true
  else o.frames.isEmpty

/-- Complete a pending operation. -/
def finishPend (s : State) (o : PendOp) : State :=
  if o.op = 0x22 then
    match s.srf.surfs.find? (fun x => x.handle == o.handle) with
    | some x => finishFree s o.item x
    | none => s
  else srfDone (srfShow (freePool s o.pages)) o.item .ok o.handle o.opages o.last

/-- Complete every pending operation that need not wait any longer, oldest first. -/
def sweepPend (s : State) : State :=
  let done := s.srf.pend.filter (pendReady s)
  let s := { s with srf := { s.srf with pend := s.srf.pend.filter (fun o => !pendReady s o) } }
  srfShow (done.foldl finishPend s)

/-- Frame `n` leaves the reading engine: nothing waits for it any more. -/
def forgetFrame (s : State) (n : Nat) : State :=
  let keep (l : Option (List Nat)) : Option (List Nat) := l.map (fun l => l.filter (· != n))
  let cs := (s.srf.copies.map (fun c => { c with only := keep c.only })).filter (fun c => c.only != some [])
  { s with srf := { s.srf with
      copies := cs,
      fetching := s.srf.fetching.map (fun f => { f with only := keep f.only }),
      needs := s.srf.needs.filter (fun d => d.frame != n),
      failed := s.srf.failed.filter (fun d => d.2 != n),
      frames := s.srf.frames.filter (fun f => f.n != n),
      pend := s.srf.pend.map (fun o => if o.frames.contains n then { o with frames := o.frames.filter (· != n), last := n } else o) } }

/-- The reading engine retires its oldest frame, if that frame has started (R191). -/
def retireFrame (s : State) : State :=
  match s.srf.frames with
  | f :: _ =>
    if f.running then
      let s := forgetFrame s f.n
      let s := setF { s with srf := { s.srf with retiredAny := true } } F.SRF_RETIRED_FRAME f.n
      sweepPend s
    else s
  | [] => s

/-- The reading engine stops: every queued frame counts as retired (R191). -/
def engineStop (s : State) : State :=
  let q := (s.srf.frames.filter (fun f => !f.running)).map FrameRef.n
  let mark (x : Surf) : Surf :=
    match x.lastRef with
    | some f => if q.contains f then { x with lastDone := true } else x
    | none => x
  let s := q.foldl forgetFrame { s with srf := { s.srf with surfs := s.srf.surfs.map mark } }
  sweepPend s

/-- A frame in its place in the reading engine: frames retire in frame-number order (R191). -/
def frameIn (f : FrameRef) : List FrameRef → List FrameRef
  | [] => [f]
  | g :: l => if mafter 32 g.n f.n then f :: g :: l else g :: frameIn f l

/-- A frame is queued for presentation (R187). -/
def engineQueue (s : State) (n : Nat) : State := { s with srf := { s.srf with frames := frameIn ⟨n, false⟩ s.srf.frames } }

/-- Frame `n` reads page `vp` by a deadline: the read is scheduled LEADUS before it (R187, R199). -/
def addNeed (s : State) (n vp deadline canvas : Nat) : State :=
  let d : Need := ⟨n, vp, deadline, canvas, msub 32 deadline (1000 * getF s F.SRF_PFCFG_LEADUS)⟩
  { s with srf := { s.srf with needs := s.srf.needs ++ [d] } }

/-- A frame starts to read, with the handles it binds (R191, R229). -/
def engineStart (s : State) (n : Nat) (handles : List Nat) : State :=
  let bind (x : Surf) : Surf :=
    if handles.contains x.handle then
      match x.lastRef with
      | some f => if !x.lastDone && !mafter 32 n f then x else { x with lastRef := some n, lastDone := false }
      | none => { x with lastRef := some n, lastDone := false }
    else x
  let fs := if (frameList s).contains n then s.srf.frames.map (fun f => if f.n = n then { f with running := true } else f)
            else frameIn ⟨n, true⟩ s.srf.frames
  { s with srf := { s.srf with frames := fs, surfs := s.srf.surfs.map bind } }

/-! ### The checks of R183 -/

/-- The first failed check of a list, in its order. -/
def firstFail : List (Bool × Status) → Status
  | [] => .ok
  | (b, c) :: t => if b then c else firstFail t

def srfSparse (e : Bytes) : Bool := (byteAt e 1).testBit 0
def srfKind (e : Bytes) : Nat := bits (byteAt e 1) 1 2
def srfHandle (e : Bytes) : Nat := leAt e 2 2
def srfVa (e : Bytes) : Nat := leAt e 8 8
def srfSize (e : Bytes) : Nat := leAt e 16 8
def srfHaddr (e : Bytes) : Nat := leAt e 24 8

/-- Table entries the table region holds beside the 64 pages of handle records (R198). -/
def tableRoom (s : State) : Nat := 8192 * (getF s F.SRF_TBLLEN_LEN - 64)

/-- Pages of a range that are not LOCAL now. -/
def notLocal (s : State) (vp n : Nat) : List (Nat × Nat) :=
  (segsIn s.srf.segs vp n).filterMap (fun g => match g.back with | .loc _ => none | _ => some (g.vp, g.n))

/-- Check 14: free handle, range, table space, pool pages and deferred-list entry as needed. -/
def srfNoResource (s : State) (e : Bytes) : Bool :=
  let op := byteAt e 0
  let vp := srfVa e / 65536
  let n := srfSize e / 65536
  if op = 0x20 then
    65536 ≤ s.srf.surfs.length || s.srf.surfs.any (fun x => vp < x.vp + x.n && x.vp < vp + n) ||
    tableRoom s < (s.srf.surfs.map Surf.n).sum + n || (!srfSparse e && freePages s < n)
  else if op = 0x22 then
    (s.srf.surfs.any (fun x => x.handle == srfHandle e && freeWaits s x)) && 4096 ≤ s.srf.pend.length
  else
    (op = 0x21 && srfKind e = 2 && freePages s < ((notLocal s vp n).map Prod.snd).sum) ||
    (!s.srf.frames.isEmpty && 4096 ≤ s.srf.pend.length)

/-- The checks of a surface entry, in order (R183). -/
def srfCheck (s : State) (e : Bytes) : Status :=
  let op := byteAt e 0
  let va := srfVa e
  let size := srfSize e
  let x := s.srf.surfs.find? (fun x => x.handle == srfHandle e)
  let sized := op = 0x20 ∨ op = 0x21 ∨ op = 0x23
  firstFail [
    (trailerBad e || leAt e 4 4 != 0 || 8 ≤ byteAt e 1 || 2 ^ 42 ≤ va || srfKind e == 3, .illegalValue),
    (op < 0x20 || 0x23 < op, .illegalValue),
    (if op = 0x20 then srfHandle e != 0 || srfKind e != 0 || srfHaddr e != 0
     else if op = 0x21 then srfSparse e || (srfKind e != 1 && srfHaddr e != 0)
     else if op = 0x22 then byteAt e 1 != 0 || va != 0 || size != 0 || srfHaddr e != 0
     else byteAt e 1 != 0 || srfHaddr e != 0, .illegalValue),
    (isTile s && (srfSparse e || srfKind e == 1), .notPermitted),
    (!srfOn s, .wrongState),
    (decide sized && size == 0, .illegalValue),
    (va % 65536 != 0 || size % 65536 != 0 || srfHaddr e % 4096 != 0, .align),
    (2 ^ 42 < va + size || 2 ^ 64 < srfHaddr e + size, .range),
    (op != 0x20 && x.isNone, .staleState),
    (op != 0x20 && (x.map Surf.freeing).getD false, .wrongState),
    ((op == 0x21 || op == 0x23) && x.any (fun x => va < 65536 * x.vp || 65536 * (x.vp + x.n) < va + size), .range),
    ((op == 0x21 || op == 0x23) && x.any (fun x => !x.sparse), .illegalValue),
    (op == 0x21 && srfKind e == 1 && !isSet s F.HIF_LINKSTAT_UP, .linkAbsent),
    (srfNoResource s e, .noResource)]

/-- The checks of a data area in a surface (R227 checks 4 to 6). -/
def areaCheck (s : State) (handle off n : Nat) : Status :=
  if off % 64 ≠ 0 then .align
  else
    match surfOf s handle with
    | none => .staleState
    | some x => if x.freeing then .wrongState else if surfSize x < off + n then .range else .ok

/-- First byte, in the surface space, of byte `off` of a live surface. -/
def areaAddr (s : State) (handle off : Nat) : Nat := 65536 * ((surfOf s handle).map Surf.vp).getD 0 + off

/-- Checks 4 to 7 of R227: the area, then the read of its bytes, and the state after. -/
def areaFetch (s : State) (handle off n : Nat) (host : HostRes) : Except Status Bytes × State :=
  match areaCheck s handle off n with
  | .ok => svcFetch s (((surfOf s handle).map Surf.vp).getD 0) off n host
  | c => (.error c, s)

/-- Does the read of a data area wait for Bus Master Enable (R97)? -/
def areaShut (s : State) (handle off n : Nat) : Bool :=
  areaCheck s handle off n == .ok && svcShut s (((surfOf s handle).map Surf.vp).getD 0) off n

/-! ### The operations (R184 to R186, R192) -/

/-- Lowest handle not in use. -/
def freeHandle (s : State) : Nat :=
  ((List.range (s.srf.surfs.length + 1)).find? (fun h => !s.srf.surfs.any (fun x => x.handle == h))).getD 0

/-- One LOCAL segment per page of a range. -/
def localSegs (vp : Nat) : List Nat → List Seg
  | [] => []
  | p :: t => ⟨vp, 1, .loc p⟩ :: localSegs (vp + 1) t

/-- CREATE (R184). The bytes of its table entries and of its handle record are kept in State and not in DRAM. DESIGN CHOICE
(log entry 154). -/
def srfCreate (s : State) (it : Item) : State :=
  let e := it.entry
  let vp := srfVa e / 65536
  let n := srfSize e / 65536
  let h := freeHandle s
  let (ps, s) := allocPages (if srfSparse e then 0 else n) s
  let segs := if srfSparse e then [⟨vp, n, .hole⟩] else localSegs vp ps
  let s := { s with srf := { s.srf with surfs := s.srf.surfs ++ [⟨h, vp, n, srfSparse e, false, none, false⟩],
                                        segs := s.srf.segs ++ segs } }
  srfDone (srfShow s) it .ok h ps.length 0

/-- Give pool pages to ranges of pages. -/
def allocRanges : List (Nat × Nat) → State → List Seg × State
  | [], s => ([], s)
  | (vp, n) :: t, s =>
    let (ps, s) := allocPages n s
    let (r, s) := allocRanges t s
    (localSegs vp ps ++ r, s)

/-- BACK (R185). Pages that are LOCAL already keep their pool page when KIND is LOCAL. -/
def srfBack (s : State) (it : Item) : State :=
  let e := it.entry
  let vp := srfVa e / 65536
  let n := srfSize e / 65536
  let old := segsIn s.srf.segs vp n
  let frames := frameList s
  let keep := if srfKind e = 2 then old.filter (fun g => match g.back with | .loc _ => true | _ => false) else []
  let (new, s) := if srfKind e = 2 then allocRanges (notLocal s vp n) s
    else if srfKind e = 1 then ([⟨vp, n, .host (srfHaddr e)⟩], s) else ([⟨vp, n, .hole⟩], s)
  let gone := old.filter (fun g => !keep.contains g)
  let s := { s with srf := { s.srf with segs := segsOut s.srf.segs vp n ++ keep ++ new } }
  let s := dropCopies s vp n frames
  let o : PendOp := ⟨0x21, it, srfHandle e, vp, n, frames, 0, old, segPages gone, n⟩
  if frames.isEmpty then finishPend s o
  else srfShow { s with srf := { s.srf with pend := s.srf.pend ++ [o] } }

/-- INVAL (R186). -/
def srfInval (s : State) (it : Item) : State :=
  let e := it.entry
  let vp := srfVa e / 65536
  let n := srfSize e / 65536
  let frames := frameList s
  let k := copyCount s vp n
  let s := dropCopies s vp n frames
  let o : PendOp := ⟨0x23, it, srfHandle e, vp, n, frames, 0, [], [], k⟩
  if frames.isEmpty then finishPend s o
  else srfShow { s with srf := { s.srf with pend := s.srf.pend ++ [o] } }

/-- FREE (R192). -/
def srfFree (s : State) (it : Item) : State :=
  let h := srfHandle it.entry
  match s.srf.surfs.find? (fun x => x.handle == h) with
  | some x =>
    let s := { s with srf := { s.srf with surfs := s.srf.surfs.map (fun y => if y.handle = h then { y with freeing := true } else y) } }
    if freeWaits s x then srfShow { s with srf := { s.srf with pend := s.srf.pend ++ [⟨0x22, it, h, x.vp, x.n, [], 0, [], [], 0⟩] } }
    else finishFree s it x
  | none => s

/-- Apply a surface entry: checks, then its operation (R183). -/
def srfApply (s : State) (it : Item) : State :=
  let c := srfCheck s it.entry
  if c != .ok then srfDone s it c 0 0 0
  else if opcode it = 0x20 then srfCreate s it
  else if opcode it = 0x21 then srfBack s it
  else if opcode it = 0x22 then srfFree s it
  else srfInval s it

/-- An entry reaches SRF: it waits while the table region is being initialised (R197). -/
def srfEntry (s : State) (it : Item) : State :=
  if s.srf.initBusy then { s with srf := { s.srf with held := s.srf.held ++ [it] } } else srfApply s it

/-- EN 0→1 (R197). -/
def srfEnable (s : State) : State :=
  let s := setF s F.SRF_CTL_EN 1
  srfShow { s with srf := { s.srf with initBusy := true, retiredAny := false, segs := [], used := [], copies := [], tc := [] } }

/-- The table region is ready; the operations that waited run in their order. -/
def srfTableDone (s : State) : State :=
  if s.srf.initBusy then
    let l := s.srf.held
    l.foldl srfApply { s with srf := { s.srf with initBusy := false, held := [] } }
  else s

/-! ### Prefetch (R187 to R190) -/

/-- Does need `d` go before need `e`: an earlier deadline, then the lower canvas (R27)? -/
def needBefore (t0 : Nat) (d e : Need) : Bool :=
  let a := msub 32 d.deadline (t0 + 2 ^ 31)
  let b := msub 32 e.deadline (t0 + 2 ^ 31)
  a < b || (a == b && d.canvas < e.canvas)

/-- Insert a need in the order of R27. -/
def byDeadline (t0 : Nat) (d : Need) : List Need → List Need
  | [] => [d]
  | e :: l => if needBefore t0 d e then d :: e :: l else e :: byDeadline t0 d l

/-- Needs in the order of their deadlines. -/
def needsSorted (s : State) : List Need := s.srf.needs.foldl (fun l d => byDeadline (timeNs s) d l) []

/-- Does a frame need this page read from the host now: HOST in the frame's map, not resident, no read under way, and not
failed for this frame? -/
def needsRead (s : State) (d : Need) : Bool :=
  (match pageMapFor s d.frame d.vp with | some (.host _) => true | _ => false) &&
  (residentFor s d.frame d.vp).isNone &&
  !s.srf.fetching.any (fun f => f.vp == d.vp && (match f.only with | none => true | some l => l.contains d.frame)) &&
  !s.srf.failed.contains (d.vp, d.frame)

/-- Cache pages in use. -/
def cacheUsed (s : State) : List Nat := s.srf.copies.map Copy.page ++ s.srf.fetching.map Fetch.page

/-- A free cache page. -/
def cacheFree (s : State) : Option Nat :=
  ((List.range (cacheLen s)).map (cacheFirst s + ·)).find? (fun p => !(cacheUsed s).contains p)

/-- May a copy be evicted: does no running or queued frame that reads it need it (R188)? -/
def evictable (s : State) (c : Copy) : Bool := !s.srf.needs.any (fun d => d.vp == c.vp && copyFor d.frame c)

/-- The least recently read of the copies that may be evicted. DESIGN CHOICE (log entry 29). -/
def evictee (s : State) : Option Copy :=
  (s.srf.copies.filter (evictable s)).foldl (fun (b : Option Copy) c =>
    match b with
    | none => some c
    | some d => if c.used < d.used then some c else b) none

/-- A prefetch read for a frame fails (R190). -/
def prefetchMiss (s : State) (vp frame : Nat) (c : Status) : State :=
  let s := incSat { s with srf := { s.srf with failed := s.srf.failed ++ [(vp, frame)] } } F.SRF_PFSTAT_FAIL
  setF (setF s F.SRF_PFLAST_HANDLE (surfAt s vp)) F.SRF_PFLAST_CODE c.code

/-- Issue the read of the earliest deadline that still needs one and for which `p` holds, into a free cache page or one whose copy is
evicted; with none to evict the read waits (R187, R188). Its translation is used; one that cannot be read fails the read with
INTEGRITY (R179, R190). -/
def prefetchOne (s : State) (p : Need → Bool) : State :=
  if !srfOn s || !isSet s F.HIF_LINKSTAT_UP then s
  else
    match (needsSorted s).find? (fun d => needsRead s d && p d) with
    | none => s
    | some d =>
      match pageMapFor s d.frame d.vp with
      | some (.host a) =>
        let only := if pageMap s d.vp == some (.host a) then none
          else some ((frameList s).filter (fun f => pageMapFor s f d.vp == some (.host a)))
        let go (s : State) (p : Nat) : State :=
          upstream { s with srf := { s.srf with fetching := s.srf.fetching ++ [⟨d.vp, p, d.frame, only⟩] } } (.read (.page d.vp) a 65536)
        let fetch (s : State) (p : Nat) : State :=
          if walkBad s d.vp then prefetchMiss (srfWalk s d.vp) d.vp d.frame .integrity else go (srfWalk s d.vp) p
        match cacheFree s with
        | some p => fetch s p
        | none =>
          match evictee s with
          | some c => fetch { s with srf := { s.srf with copies := s.srf.copies.erase c } } c.page
          | none => s
      | _ => s

/-- Issue every read that is due: LEADUS before its deadline, or at once for a frame queued later than that (R187). -/
def prefetchDue (s : State) : State :=
  s.srf.needs.foldl (fun s _ => prefetchOne s (fun d => matOrAfter 32 (timeNs s) d.due)) s

/-- PREFETCH_ISSUE: the next read, which may go before it is due, and all that are due. DESIGN CHOICE (log entry 135). -/
def prefetchIssue (s : State) : State := prefetchDue (prefetchOne s (fun _ => true))

/-- A prefetch read returned its 64 KiB: the page is resident (R187). It counts as read at its arrival until a frame reads it.
DESIGN CHOICE (log entry 155). -/
def prefetchDone (s : State) (vp : Nat) (b : Bytes) : State :=
  match s.srf.fetching.find? (fun f => f.vp == vp) with
  | some f =>
    let s := dropRead s (.page vp)
    let s := { s with srf := { s.srf with fetching := s.srf.fetching.erase f } }
    if f.only == some [] then s
    else
      let st := s.srf.stamp + 1
      dramWr { s with srf := { s.srf with stamp := st, copies := s.srf.copies ++ [⟨vp, f.page, st, f.only⟩] } }
        (65536 * f.page) (fit 65536 b)
  | none => s

/-- A prefetch read failed (R190). -/
def prefetchFail (s : State) (vp : Nat) (c : Status) : State :=
  match s.srf.fetching.find? (fun f => f.vp == vp) with
  | some f =>
    let s := dropRead s (.page vp)
    prefetchMiss { s with srf := { s.srf with fetching := s.srf.fetching.erase f } } vp f.frame c
  | none => s

/-- The page whose deadline has passed without its copy, if any; a page of a frame already aborted too. DESIGN CHOICE
(log entry 156). -/
def latePage (s : State) : Option Need :=
  (needsSorted s).find? (fun d => matOrAfter 32 (timeNs s) d.deadline &&
    (match pageMapFor s d.frame d.vp with | some (.host _) => true | _ => false) && (residentFor s d.frame d.vp).isNone)

/-- Record a late page (R189), with LINK_ABSENT while the link is down (R190). The need is met or lost: it goes. -/
def recordLate (s : State) (d : Need) : State :=
  let s := { s with srf := { s.srf with needs := s.srf.needs.erase d } }
  let c := if isSet s F.HIF_LINKSTAT_UP then Status.late else Status.linkAbsent
  let s := incSat s F.SRF_PFSTAT_LATE
  setF (setF (setF s F.SRF_PFLAST_HANDLE (surfAt s d.vp)) F.SRF_PFLAST_CODE c.code) F.SRF_PFFRM_FRAME d.frame

/-- The frame reads those of its pages for which `p` holds: their copies become the most recently read, and their translations are
used. -/
def touchNeeds (s : State) (n : Nat) (p : Need → Bool) : State :=
  s.srf.needs.foldl (fun s d =>
    if d.frame = n ∧ p d then
      let st := s.srf.stamp + 1
      let cs := s.srf.copies.map (fun c => if c.vp = d.vp ∧ copyFor n c then { c with used := st } else c)
      srfWalk { s with srf := { s.srf with stamp := st, copies := cs } } d.vp
    else s) s

/-- The UCIe link is lost: reads outstanding fail with LINK_ABSENT (R190). -/
def srfLinkLoss (s : State) : State := s.srf.fetching.foldl (fun s f => prefetchFail s f.vp .linkAbsent) s

/-! ### Block reset (R201) -/

def srfReset : SrfSt := ⟨false, [], [], [], [], [], [], [], [], [], [], false, 0, []⟩

def srfBlockReset (s : State) : State :=
  let ops := s.srf.pend.map PendOp.item ++ s.srf.held
  let s := ops.foldl (fun s it => srfDone s it .aborted 0 0 0) s
  let s := resetRegs s 0xA0000 0xB0000
  { s with srf := { srfReset with frames := s.srf.frames } }

/-! ### The commands -/

/-- SRF_TABLE_INIT_DONE (R197). -/
def execSrfTableInitDone (s : State) : Result := whenOn 0x0A s srfTableDone

/-- SURFACE_CREATE (R184). -/
def execSurfaceCreate (s : State) : Result := whenOn 0x0A s (fun s => onEntry s 0x20 srfEntry)

/-- SURFACE_BACK (R185). -/
def execSurfaceBack (s : State) : Result := whenOn 0x0A s (fun s => onEntry s 0x21 srfEntry)

/-- SURFACE_FREE (R192). -/
def execSurfaceFree (s : State) : Result := whenOn 0x0A s (fun s => onEntry s 0x22 srfEntry)

/-- SURFACE_INVAL (R186). -/
def execSurfaceInval (s : State) : Result := whenOn 0x0A s (fun s => onEntry s 0x23 srfEntry)

/-- FRAME_RETIRE (R191): the oldest running frame's reads have returned. -/
def execFrameRetire (s : State) : Result := whenOn 0x0A s retireFrame

/-- PREFETCH_ISSUE (R187). -/
def execPrefetchIssue (s : State) : Result := whenOn 0x0A s prefetchIssue

/-- PREFETCH_DONE (R187): the read of page `vp` returned `b`. -/
def execPrefetchDone (vp : Nat) (b : Bytes) (s : State) : Result := whenOn 0x0A s (fun s => prefetchDone s vp b)

/-- Code of a host read that failed (R116, R136, R190). -/
def rdCode : RdRes → Status
  | .data _ => .ok
  | .refused => .busError
  | .poisoned => .integrity

/-- PREFETCH_FAIL (R190): the read of page `vp` failed. -/
def execPrefetchFail (vp : Nat) (poisoned : Bool) (s : State) : Result :=
  whenOn 0x0A s (fun s => prefetchFail s vp (if poisoned then .integrity else .busError))

end Sys2Proof.Machine
end

