-- ==== Sys2Proof/Machine/Cmp.lean ====
section
/-! DEFINITION. CMP: commits as configurations, loads of books, curves and filters, binding, the raster, and the composition
of a frame into runs (R202 to R237), with the underrun of a frame (R251, R252). -/

namespace Sys2Proof.Machine

/-! ### Configurations (R241, R242) -/

/-- A register word of a configuration; a register it does not list holds its reset value. -/
def cfgWord (cfg : List (Nat × Word)) (off : Nat) : Word := tget (resetWord off) cfg off

/-- A field of a configuration. -/
def cfgF (cfg : List (Nat × Word)) (f : Fld) : Nat := f.get (cfgWord cfg f.off)

/-- A list of register values with those of `new` written over it. -/
def overlay (old new : List (Nat × Word)) : List (Nat × Word) := new.foldl (fun l e => tset (resetWord e.1) l e.1 e.2) old

/-- The value that a gain or fade register's ramp has in frame `n`; one never committed holds 0x0000. -/
def rampVal (ramps : List (Nat × Ramp)) (off n : Nat) : Nat :=
  match ramps.find? (fun r => r.1 == off) with
  | some r => r.2.value n
  | none => 0

/-- Gain and fade registers, whose commits start ramps (R218). -/
def isRampReg (off : Nat) : Bool :=
  (off < 0xB0180 && off % 0x20 == 0x14) || (0xB4000 ≤ off && (off % 0x80 == 0x3C || off % 0x80 == 0x40))

/-- The ramps after a commit: each gain or fade register in it starts a ramp from the value of frame `last`; `f0` is the frame
that latched the commit, none where no frame has used it yet. -/
def commitRamps (ramps : List (Nat × Ramp)) (vals : List (Nat × Word)) (last : Nat) (f0 : Option Nat) : List (Nat × Ramp) :=
  vals.foldl (fun l e =>
    if isRampReg e.1 then
      l.filter (fun r => r.1 != e.1) ++ [(e.1, ⟨rampVal ramps e.1 last, e.2.toNat % 2 ^ 16, bits e.2.toNat 16 12, f0⟩)]
    else l) ramps

/-- Ramps that no frame has used yet start with frame `n`; those over before it hold their targets. -/
def startRamps (ramps : List (Nat × Ramp)) (n : Nat) : List (Nat × Ramp) :=
  ramps.map (fun r =>
    let x := r.2.settle (msub 32 n 1)
    match x.f0 with | none => (r.1, { x with f0 := some n }) | some _ => (r.1, x))

/-! ### Canvases, layers and surfaces -/

def canW (cfg : List (Nat × Word)) (c : Nat) : Nat := cfgF cfg (F.CMP_CANSIZE_WM1 c) + 1
def canH (cfg : List (Nat × Word)) (c : Nat) : Nat := cfgF cfg (F.CMP_CANSIZE_HM1 c) + 1
def laySW (cfg : List (Nat × Word)) (k : Nat) : Nat := cfgF cfg (F.CMP_LSRCSZ_SWM1 k) + 1
def laySH (cfg : List (Nat × Word)) (k : Nat) : Nat := cfgF cfg (F.CMP_LSRCSZ_SHM1 k) + 1
def layDW (cfg : List (Nat × Word)) (k : Nat) : Nat := cfgF cfg (F.CMP_LDSTSZ_DWM1 k) + 1
def layDH (cfg : List (Nat × Word)) (k : Nat) : Nat := cfgF cfg (F.CMP_LDSTSZ_DHM1 k) + 1
def layX (cfg : List (Nat × Word)) (k : Nat) : Int := signed 16 (cfgF cfg (F.CMP_LDSTXY_DX0 k))
def layY (cfg : List (Nat × Word)) (k : Nat) : Int := signed 16 (cfgF cfg (F.CMP_LDSTXY_DY0 k))

/-- Byte offset of source pixel (0, 0). -/
def layOfs (cfg : List (Nat × Word)) (k : Nat) : Nat := cfgF cfg (F.CMP_LOFSLO_OFS k) + 2 ^ 32 * cfgF cfg (F.CMP_LOFSHI_OFS k)

/-- Mesh nodes across and down, and the row pitch of the mesh (R211). -/
def meshNX (cfg : List (Nat × Word)) (k : Nat) : Nat := (layDW cfg k - 1) / 2 ^ cfgF cfg (F.CMP_LCFG_GRID k) + 2
def meshNY (cfg : List (Nat × Word)) (k : Nat) : Nat := (layDH cfg k - 1) / 2 ^ cfgF cfg (F.CMP_LCFG_GRID k) + 2
def meshPitch (cfg : List (Nat × Word)) (k : Nat) : Nat := 64 * ((8 * meshNX cfg k + 63) / 64)

/-- Does the destination rectangle of layer `k` contain canvas pixel (x, y)? -/
def layHas (cfg : List (Nat × Word)) (k : Nat) (x y : Nat) : Bool :=
  layX cfg k ≤ x && (x : Int) < layX cfg k + layDW cfg k && layY cfg k ≤ y && (y : Int) < layY cfg k + layDH cfg k

/-- The surface handles that layer `k` uses. -/
def layHandles (cfg : List (Nat × Word)) (k : Nat) : List Nat :=
  cfgF cfg (F.CMP_LSURF_HANDLE k) :: (if cfgF cfg (F.CMP_LCFG_WARP k) = 1 then [cfgF cfg (F.CMP_LSURF_MESH k)] else [])

/-- The first binding check of R229 that layer `k` fails. -/
def bindCheck (s : State) (cfg : List (Nat × Word)) (k : Nat) : Status :=
  let xs := (layHandles cfg k).map (surfOf s)
  let px := fmtBytes (cfgF cfg (F.CMP_LCFG_FMT k))
  let stride := cfgF cfg (F.CMP_LSTRIDE_BYTES k)
  let size (o : Option Surf) : Nat := (o.map surfSize).getD 0
  if xs.any Option.isNone then .staleState
  else if xs.any (fun o => (o.map Surf.freeing).getD false) then .wrongState
  else if stride % 64 ≠ 0 ∨ layOfs cfg k % px ≠ 0 then .align
  else if stride < laySW cfg k * px then .illegalValue
  else if size (xs.headD none) < layOfs cfg k + (laySH cfg k - 1) * stride + laySW cfg k * px then .range
  else if xs.length = 2 ∧ size (xs.getD 1 none) < meshNY cfg k * meshPitch cfg k then .range
  else .ok

/-- Record a bind failure (R229, R234). -/
def bindError (s : State) (k : Nat) (c : Status) : State :=
  incSat (setF (setF s F.CMP_LERR_LAYER k) F.CMP_LERR_CODE c.code) F.CMP_LERR_COUNT

/-- Leave out layers that may be shed, highest z first, until at most `cap` remain (R232). Layers come in ascending z.
DESIGN CHOICE (log entry 43). -/
def shedTo (cfg : List (Nat × Word)) (cap : Nat) (ls : List Nat) : List Nat :=
  (ls.reverse.foldl (fun (acc : List Nat) k =>
    if cap < acc.length ∧ cfgF cfg (F.CMP_LCFG_SHED k) = 1 then acc.filter (· != k) else acc) ls)

/-! ### The pixels of a frame (R202) -/

/-- What the pixels of a frame are made of: its number, configuration, ramps and quality step. -/
structure FrameCfg where
  n : Nat
  cfg : List (Nat × Word)
  ramps : List (Nat × Ramp)
  step : Nat

/-- A light colour and an alpha in 16 bits. -/
structure Lit where
  r : Nat
  g : Nat
  b : Nat
  a : Nat
  deriving DecidableEq, Repr

def Lit.black : Lit := ⟨0, 0, 0, 0⟩

/-- Alpha of a pixel whose layer ignores alpha is 0xFFFF (R204). -/
def layAlpha (fc : FrameCfg) (k a : Nat) : Nat := if cfgF fc.cfg (F.CMP_LCFG_ALPHA k) = 0 then 0xFFFF else a

/-- A source pixel of layer `k` as light (stages 1 to 4). A pixel on a HOLE page is black (R215).
DESIGN CHOICE (log entry 45). -/
def srcPixel (s : State) (fc : FrameCfg) (k : Nat) (col row : Int) : Lit :=
  let cfg := fc.cfg
  let fmt := cfgF cfg (F.CMP_LCFG_FMT k)
  let x := (clip 0 ((laySW cfg k : Int) - 1) col).toNat
  let y := (clip 0 ((laySH cfg k : Int) - 1) row).toNat
  match surfOf s (cfgF cfg (F.CMP_LSURF_HANDLE k)) with
  | none => { Lit.black with a := layAlpha fc k 0 }
  | some sf =>
    let a := layOfs cfg k + y * cfgF cfg (F.CMP_LSTRIDE_BYTES k) + x * fmtBytes fmt
    if pageMapFor s fc.n (sf.vp + a / 65536) = some .hole then { Lit.black with a := layAlpha fc k 0 }
    else
      let (c0, c1, c2, ca) := fmtComponents fmt (engineRead s fc.n sf.vp a (fmtBytes fmt))
      if fmt = 4 then
        let one := cfgF cfg (F.CMP_LHF_ONE k)
        ⟨halfTo one 0xFFFFFF c0, halfTo one 0xFFFFFF c1, halfTo one 0xFFFFFF c2, layAlpha fc k (halfTo 65535 65535 ca)⟩
      else
        let b := fmtBits fmt
        let (r, g, bl) := if fmtYcc fmt then
            yccToRgb (cfgF cfg (F.CMP_LCFG_YRANGE k) == 1) (cfgF cfg (F.CMP_LCFG_YMAT k) == 1) b c0 c1 c2
          else (expand b c0, expand b c1, expand b c2)
        let e := decodeCurve (curveEntry s.cmp.curves (cfgF cfg (F.CMP_LCFG_DCURVE k)))
        ⟨e r, e g, e bl, layAlpha fc k (expandAlpha fmt ca)⟩

/-- A coordinate of mesh node (i, j) of layer `k`: 0 is s, 1 is t (R211). -/
def meshNode (s : State) (fc : FrameCfg) (k which i j : Nat) : Int :=
  match surfOf s (cfgF fc.cfg (F.CMP_LSURF_MESH k)) with
  | none => 0
  | some m => signed 32 (leNat (engineRead s fc.n m.vp (j * meshPitch fc.cfg k + 8 * i + 4 * which) 4))

/-- Source position of canvas pixel (x, y) (R210, R211). -/
def srcPos (s : State) (fc : FrameCfg) (k x y : Nat) : Int × Int :=
  let dx := (x : Int) - layX fc.cfg k
  let dy := (y : Int) - layY fc.cfg k
  if cfgF fc.cfg (F.CMP_LCFG_WARP k) = 1 then
    let at' (which : Nat) : Int := meshPos (meshNode s fc k which) (meshNX fc.cfg k) (meshNY fc.cfg k)
      (cfgF fc.cfg (F.CMP_LCFG_GRID k)) (fc.step == 0) dx.toNat dy.toNat
    (at' 0, at' 1)
  else (affinePos dx (cfgF fc.cfg (F.CMP_LHSTEP_STEP k)), affinePos dy (cfgF fc.cfg (F.CMP_LVSTEP_STEP k)))

/-- Layer `k` at canvas pixel (x, y) after the filter, the matrix and the gain (stages 5 to 8). -/
def layerLit (s : State) (fc : FrameCfg) (k x y : Nat) : Lit :=
  let cfg := fc.cfg
  let (sp, tp) := srcPos s fc k x y
  let col := sp / 65536
  let row := tp / 65536
  let taps (bank : Nat) (p : Int) : List Int :=
    foldTaps (stepTaps fc.step) (filterCoef s.cmp.filters bank ((p / 1024) % 64).toNat)
  let ch := taps (cfgF cfg (F.CMP_LCFG_HBANK k)) sp
  let cv := taps (cfgF cfg (F.CMP_LCFG_VBANK k)) tp
  let rows := (List.range 8).map (fun (j : Nat) => (List.range 8).map (fun (i : Nat) => srcPixel s fc k (col - 3 + i) (row - 3 + j)))
  let pass (f : Lit → Nat) (top : Nat) : Nat := filterPass cv (rows.map (fun l => filterPass ch (l.map f) top)) top
  let p := (pass Lit.r 0xFFFFFF, pass Lit.g 0xFFFFFF, pass Lit.b 0xFFFFFF)
  let m (f : Fld) : Int := signed 16 (cfgF cfg f)
  let r := matRow (m (F.CMP_LMAT0_MLO k)) (m (F.CMP_LMAT0_MHI k)) (m (F.CMP_LMAT1_MLO k)) p
  let g := matRow (m (F.CMP_LMAT1_MHI k)) (m (F.CMP_LMAT2_MLO k)) (m (F.CMP_LMAT2_MHI k)) p
  let b := matRow (m (F.CMP_LMAT3_MLO k)) (m (F.CMP_LMAT3_MHI k)) (m (F.CMP_LMAT4_M22 k)) p
  let gn := gainMul (rampVal fc.ramps (R.CMP_LGAIN k) fc.n)
  ⟨applyGain r gn, applyGain g gn, applyGain b gn, pass Lit.a 0xFFFF⟩

/-- Is layer `k` opaque in this frame (R220)? -/
def layOpaque (fc : FrameCfg) (k : Nat) : Bool :=
  cfgF fc.cfg (F.CMP_LCFG_ALPHA k) == 0 && rampVal fc.ramps (R.CMP_LFADE k) fc.n == 0

/-- The layers that contribute at a pixel, ascending (R220); `layers` are those bound on the canvas, ascending. -/
def contributing (fc : FrameCfg) (layers : List Nat) (x y : Nat) : List Nat :=
  let here := layers.filter (fun k => layHas fc.cfg k x y)
  match (here.filter (layOpaque fc)).getLast? with
  | some t => here.filter (fun k => t ≤ k)
  | none => here

/-- The light that a canvas pixel starts from: the canvas background, or, where an opaque layer culls it, black (R219, R220).
DEDUCED (log entry 160). -/
def canvasStart (fc : FrameCfg) (c : Nat) (layers : List Nat) (x y : Nat) : Nat × Nat × Nat :=
  if layers.any (fun k => layHas fc.cfg k x y && layOpaque fc k) then (0, 0, 0)
  else (cfgF fc.cfg (F.CMP_CANBGR_LIGHT c), cfgF fc.cfg (F.CMP_CANBGG_LIGHT c), cfgF fc.cfg (F.CMP_CANBGB_LIGHT c))

/-- A canvas pixel in light, after the canvas gain (R217, R219). -/
def canvasLit (s : State) (fc : FrameCfg) (c : Nat) (layers : List Nat) (x y : Nat) : Nat × Nat × Nat :=
  let acc := (contributing fc layers x y).foldl (fun (acc : Nat × Nat × Nat) k =>
    let l := layerLit s fc k x y
    let mf := gainMul (rampVal fc.ramps (R.CMP_LFADE k) fc.n)
    (blend l.a mf l.r acc.1, blend l.a mf l.g acc.2.1, blend l.a mf l.b acc.2.2)) (canvasStart fc c layers x y)
  let m := gainMul (rampVal fc.ramps (R.CMP_CANGAIN c) fc.n)
  (applyGain acc.1 m, applyGain acc.2.1 m, applyGain acc.2.2 m)

/-- The output codes of a canvas pixel (R208, R222). -/
def canvasCode (s : State) (fc : FrameCfg) (c : Nat) (layers : List Nat) (x y : Nat) : Nat × Nat × Nat :=
  let p := canvasLit s fc c layers x y
  let e := encodeCurve (curveEntry s.cmp.curves (16 + cfgF fc.cfg (F.CMP_CANCFG_ECURVE c)))
  let b := obitsOf (cfgF fc.cfg (F.CMP_CANCFG_OBITS c))
  (outputCode b (e p.1), outputCode b (e p.2.1), outputCode b (e p.2.2))

/-- Cost in PIX clocks of one canvas (R230). -/
def canvasCost (fc : FrameCfg) (c : Nat) (layers : List Nat) : Nat :=
  let w := canW fc.cfg c
  ((List.range (canH fc.cfg c)).map (fun y =>
    ((List.range ((w + 7) / 8)).map (fun gx =>
      let n := ((List.range (min 8 (w - 8 * gx))).map (fun i => (contributing fc layers (8 * gx + i) y).length)).foldl max 0
      max 1 ((n + 3) / 4))).sum)).sum

/-- Layers of canvas `c` among the bound ones. -/
def canvasLayers (layers : List Nat) (c : Nat) : List Nat := layers.filter (fun k => k / 32 == c)

/-- Is a canvas produced? -/
def canvasOn (fc : FrameCfg) (c : Nat) : Bool := cfgF fc.cfg (F.CMP_CANCFG_EN c) == 1

/-- Cost of a frame (R230). -/
def frameCost (fc : FrameCfg) (layers : List Nat) : Nat :=
  (((List.range 4).filter (canvasOn fc)).map (fun c => canvasCost fc c (canvasLayers layers c))).sum

/-! ### The runs of a frame (R224, R326) -/

/-- A code of a tile pixel that its rectangle takes from beyond the canvas: the spec gives it no value; `free` supplies it.
DESIGN CHOICE (log entry 44). -/
def beyondCode (free b x y : Nat) : Nat × Nat × Nat :=
  let v := free / 2 ^ (48 * (32768 * y + x))
  (v % 2 ^ b, v / 2 ^ 16 % 2 ^ b, v / 2 ^ 32 % 2 ^ b)

/-- The codes of the pixels of a tile in the order of R224. -/
def tileCodes (s : State) (fc : FrameCfg) (layers : List Nat) (free : Nat) (e : BookEnt) : List (Nat × Nat × Nat) :=
  let (tw, th) := e.tileSize
  let c := e.stream
  let b := obitsOf (cfgF fc.cfg (F.CMP_CANCFG_OBITS c))
  (List.range (tw * th)).map (fun i =>
    let (x, y) := e.canvasPixel (i % tw) (i / tw)
    if x < canW fc.cfg c ∧ y < canH fc.cfg c then canvasCode s fc c (canvasLayers layers c) x y else beyondCode free b x y)

/-- The packed pixels of each run of a tile: COUNT and PIX. -/
def tileRuns (obits : Nat) (codes : List (Nat × Nat × Nat)) : List (Nat × Bytes) :=
  let ppr := runPixels obits
  (List.range ((codes.length + ppr - 1) / ppr)).map (fun r =>
    let px := (codes.drop (ppr * r)).take ppr
    (px.length, packPixels (obitsOf obits) px))

/-- The runs of one address-book entry: its cells, and its PIX bytes for V (R555). -/
def entryRuns (s : State) (fc : FrameCfg) (layers : List Nat) (free : Nat) (clear : Bool) (e : BookEnt) : List Bytes × Bytes :=
  let o := cfgF fc.cfg (F.CMP_CANCFG_OBITS e.stream)
  let runs := tileRuns o (tileCodes s fc layers free e)
  let key := if clear then none else curEntry s e.postcode
  ((List.range runs.length).map (fun r =>
    let (n, pix) := runs.getD r (0, [])
    runCell key e.postcode fc.n e.stream o n r pix), runs.flatMap Prod.snd)

/-! ### What a frame reads (R187, R212, R215) -/

/-- The canvas columns or rows, of `size`, that a rectangle from `o` on of length `len` covers: first, and how many. -/
def clipSpan (o : Int) (len size : Nat) : Nat × Nat :=
  let a := (max 0 o).toNat
  (a, (min (size : Int) (o + len) - a).toNat)

/-- The pixels of canvas k / 32 that the destination rectangle of layer `k` covers. -/
def layPixels (cfg : List (Nat × Word)) (k : Nat) : List (Nat × Nat) :=
  let (x0, w) := clipSpan (layX cfg k) (layDW cfg k) (canW cfg (k / 32))
  let (y0, h) := clipSpan (layY cfg k) (layDH cfg k) (canH cfg (k / 32))
  (List.range h).flatMap (fun y => (List.range w).map (fun x => (x0 + x, y0 + y)))

/-- The nodes of a mesh, in one direction of `n`, that the position at distance `d` uses (R211). -/
def meshUsed (fc : FrameCfg) (g n d : Nat) : List Nat :=
  let i : Int := (d / 2 ^ g : Nat)
  (if fc.step = 0 then [i - 1, i, i + 1, i + 2] else [i, i + 1]).map (fun j => (clip 0 ((n : Int) - 1) j).toNat)

/-- Byte ranges that layer `k` reads for canvas pixel (x, y): handle, offset, length. -/
def pixelReads (s : State) (fc : FrameCfg) (k x y : Nat) : List (Nat × Nat × Nat) :=
  let cfg := fc.cfg
  let px := fmtBytes (cfgF cfg (F.CMP_LCFG_FMT k))
  let (sp, tp) := srcPos s fc k x y
  let n := stepTaps fc.step
  let span (p : Int) (size : Nat) : List Nat :=
    (List.range n).map (fun i => (clip 0 ((size : Int) - 1) (p / 65536 - 3 + ((8 - n) / 2 : Nat) + i)).toNat)
  let image := (span tp (laySH cfg k)).flatMap (fun r => (span sp (laySW cfg k)).map (fun c =>
    (cfgF cfg (F.CMP_LSURF_HANDLE k), layOfs cfg k + r * cfgF cfg (F.CMP_LSTRIDE_BYTES k) + c * px, px)))
  let g := cfgF cfg (F.CMP_LCFG_GRID k)
  let mesh := if cfgF cfg (F.CMP_LCFG_WARP k) = 1 then
      (meshUsed fc g (meshNY cfg k) ((y : Int) - layY cfg k).toNat).flatMap (fun j =>
        (meshUsed fc g (meshNX cfg k) ((x : Int) - layX cfg k).toNat).map (fun i =>
          (cfgF cfg (F.CMP_LSURF_MESH k), j * meshPitch cfg k + 8 * i, 8)))
    else []
  image ++ mesh

/-- Does a read of a frame fail: an uncorrectable block, or a translation that cannot be read? -/
def readLost (s : State) (n : Nat) (r : Nat × Nat × Nat) : Bool :=
  match surfOf s r.1 with
  | some x => engineBad s n x.vp r.2.1 r.2.2 || (pieceList (65536 * x.vp + r.2.1) r.2.2).any (fun p => walkBad s p.1)
  | none => false

/-- The pixels of canvas k / 32 at which layer `k` is read: those where it contributes (R220). -/
def layRead (fc : FrameCfg) (layers : List Nat) (k : Nat) : List (Nat × Nat) :=
  if canvasOn fc (k / 32) then
    (layPixels fc.cfg k).filter (fun p => (contributing fc (canvasLayers layers (k / 32)) p.1 p.2).contains k)
  else []

/-- The first read of a frame that fails: handle, offset, length (R485). -/
def frameBad (s : State) (fc : FrameCfg) (layers : List Nat) : Option (Nat × Nat × Nat) :=
  if s.drc.poison.isEmpty then none
  else layers.findSome? (fun k =>
    (layRead fc layers k).findSome? (fun p => (pixelReads s fc k p.1 p.2).find? (readLost s fc.n)))

/-- The surface pages that the contributing layers of a frame read, each with the lowest canvas that reads it. Every tap counts.
DESIGN CHOICE (log entry 135). -/
def framePages (s : State) (fc : FrameCfg) (layers : List Nat) : List (Nat × Nat) :=
  layers.foldl (fun l k =>
      (layRead fc layers k).foldl (fun l p => (pixelReads s { fc with step := 0 } k p.1 p.2).foldl (fun l r =>
        match surfOf s r.1 with
        | some x => (pieceList (65536 * x.vp + r.2.1) r.2.2).foldl (fun l q =>
            if l.any (fun e => e.1 == q.1) then l else l ++ [(q.1, k / 32)]) l
        | none => l) l) l) []

/-- Enabled layers of a configuration. -/
def layersOn (cfg : List (Nat × Word)) : List Nat := (List.range 128).filter (fun k => cfgF cfg (F.CMP_LCFG_EN k) == 1)

/-- Frame `n` of a configuration needs the pages that its layers read, and no other. The deadline of each is the instant at which the
raster first reads it, which the spec does not fix: a need that stands keeps its own; else `given` may name it; else it is a free
value in the raster window from `cn` on (R187). DESIGN CHOICE (log entry 135). -/
def queueNeeds (s : State) (fc : FrameCfg) (layers : List Nat) (cn win : Nat) (given : List (Nat × Nat)) : State :=
  let ps := framePages s fc layers
  let keep := s.srf.needs.filter (fun d => d.frame != fc.n || ps.any (fun p => p.1 == d.vp))
  ps.foldl (fun s p =>
    if s.srf.needs.any (fun d => d.frame == fc.n && d.vp == p.1) then s
    else
      match given.find? (fun d => d.1 == p.1) with
      | some d => addNeed s fc.n p.1 d.2 p.2
      | none =>
        let (r, s) := drawNat s
        addNeed s fc.n p.1 ((cn + r % max 1 win) % 2 ^ 32) p.2) { s with srf := { s.srf with needs := keep } }

/-! ### CRC records (R559) -/

/-- What the CRC record of frame `n` will hold; it waits to be written. -/
def crcNote (s : State) (n : Nat) (aborted : Bool) (vals : List (Nat × Nat)) : State :=
  if isSet s F.SEC_CRCCFG_EN && power s == 0 then
    { s with sec := { s.sec with crcs := s.sec.crcs.filter (fun e => e.1 != n) ++ [(n, aborted, vals)] } }
  else s

/-! ### Underrun (R251, R252) -/

/-- Ports that are enabled and UP. -/
def livePorts (s : State) : List Nat := (enabledPorts s).filter (portUp s)

/-- The sender's claim (R394). -/
def ownClaim (s : State) : Nat := getF s F.TAN_CLAIM_EPOCH * 256 + getF s F.TAN_CFG_RANK

/-- Causes of an underrun (R251). -/
def causePage : Nat := 1
def causeRaster : Nat := 2
def causeChain : Nat := 3

/-- Frame `n` underruns: CMP stops, its unsent runs are dropped, ABORT goes out on every enabled port, the record and the yield
follow. The reads it has made count as reads. A second cause in one frame changes nothing (R251, R252, R321). -/
def underrun (s : State) (n cause : Nat) (c : Status) : State :=
  if s.frt.under = some n then s
  else
    let drop (t : TxPort) : TxPort := { t with runs := t.runs.filter (fun r => r.1 != n) }
    let s := { s with frt := { s.frt with under := some n },
                      cmp := { s.cmp with raster := s.cmp.raster.map (fun r => if r.frame = n then { r with aborted := true } else r) },
                      chn := { s.chn with tx := s.chn.tx.map (fun e => (e.1, drop e.2)) } }
    let cell := mkCell 0xFFFE 5 false (beBytes 4 n ++ beBytes 4 (ownClaim s) ++ [byte cause, byte c.code])
    let s := if blkOn s 0x0D then sendNow s (livePorts s) cell else s
    let s := touchNeeds s n (fun d => matOrAfter 32 (timeNs s) d.deadline)
    let s := incSat s F.FRT_USTAT_COUNT
    let s := setF (setF (setF s F.FRT_USTAT_CAUSE cause) F.FRT_USTAT_CODE c.code) F.FRT_UFRM_FRAME n
    yield (crcNote s n true []) 3 4 0x0C .aborted n

/-! ### Loads (R226 to R228) -/

/-- Write back a CMP entry. -/
def cmpDone (s : State) (it : Item) (c : Status) (badidx oframe : Nat) (dead : Bool) : State :=
  complete40 s it (leBytes 2 badidx ++ zeros 2 ++ leBytes 4 oframe) c dead

/-- An address-book entry as stored (R223). -/
def bookEnt (b : Bytes) : BookEnt :=
  ⟨leAt b 0 2, byteAt b 2 % 4, byteAt b 3 % 4, bit (byteAt b 3) 2, leAt b 4 2, leAt b 6 2, leAt b 8 2, leAt b 10 2⟩

/-- The canvas sizes of a configuration. -/
def canSizes (cfg : List (Nat × Word)) : List (Nat × Word) :=
  (List.range 4).map (fun c => (R.CMP_CANSIZE c, cfgWord cfg (R.CMP_CANSIZE c)))

/-- The canvas sizes of frame `n` are noted as it is latched, where they differ from those of the frame before (R245). -/
def noteSizes (s : State) (n : Nat) : State :=
  let z := canSizes s.cmp.base
  match s.cmp.hist.getLast? with
  | some h => if h.2 = z ∧ matOrAfter 32 n h.1 then s else { s with cmp := { s.cmp with hist := s.cmp.hist ++ [(n, z)] } }
  | none => { s with cmp := { s.cmp with hist := [(n, z)] } }

/-- The configuration against which the book of frame `n` is checked: that of frame `n` if it has been latched, else that of the
frame latched last (R245); with none latched since reset, the values committed. DESIGN CHOICE (log entry 161). -/
def bookCfg (s : State) (n : Nat) : List (Nat × Word) :=
  let own := if mafter 32 (getF s F.FRT_NEXTLAT_FRAME) n then s.cmp.hist.reverse.find? (fun h => matOrAfter 32 n h.1) else none
  match own, s.cmp.hist.getLast? with
  | some h, _ => h.2
  | none, some h => h.2
  | none, none => s.cmp.base

/-- The first check of R225 that an entry fails, given the entries before it. -/
def bookCheck (cfg : List (Nat × Word)) (before : List BookEnt) (b : Bytes) : Status :=
  let e := bookEnt b
  if bits (byteAt b 2) 2 6 ≠ 0 ∨ bits (byteAt b 3) 3 5 ≠ 0 ∨ leAt b 12 4 ≠ 0 ∨ bits e.postcode 9 3 ≠ 0 then .illegalValue
  else if e.w = 0 ∨ e.h = 0 ∨ 786432 < e.w * e.h then .range
  else if canW cfg e.stream < e.x0 + e.w ∨ canH cfg e.stream < e.y0 + e.h then .range
  else if before.any (fun f => f.postcode == e.postcode && f.stream == e.stream) then .illegalValue
  else .ok

/-- Read a book: its entries, or the code and index of the first that fails. -/
def readBook (cfg : List (Nat × Word)) : List Bytes → Nat → List BookEnt → Except (Status × Nat) (List BookEnt)
  | [], _, acc => .ok acc
  | b :: t, i, acc =>
    match bookCheck cfg acc b with
    | .ok => readBook cfg t (i + 1) (acc ++ [bookEnt b])
    | c => .error (c, i)

/-- The first word of a curve beyond the limits of R209. -/
def curveBad (slot : Nat) (ws : List Nat) : Option Nat :=
  (List.range ws.length).find? (fun i => (if slot < 16 then 2 ^ 24 else 2 ^ 16) ≤ ws.getD i 0)

/-- Bytes of the data of a load. -/
def loadBytes (e : Bytes) : Nat := if byteAt e 0 = 0x30 then 16 * leAt e 4 2 else if byteAt e 0 = 0x31 then 16384 else 1024

/-- Checks 1 to 3 of R227. -/
def loadCheck (e : Bytes) : Status :=
  let op := byteAt e 0
  let idx := byteAt e 1
  if trailerBad e || leAt e 6 2 != 0 || !allZero (slice e 20 12) || leAt e 8 8 / 2 ^ 42 != 0 then .illegalValue
  else if op < 0x30 ∨ 0x32 < op then .illegalValue
  else if (op = 0x30 ∧ idx ≠ 0) ∨ (op = 0x31 ∧ 20 ≤ idx) ∨ (op = 0x32 ∧ 8 ≤ idx) then .range
  else if op = 0x30 then (if leAt e 4 2 = 0 ∨ 8192 < leAt e 4 2 then .illegalValue else .ok)
  else if leAt e 4 2 ≠ 0 ∨ leAt e 16 4 ≠ 0 then .illegalValue
  else .ok

/-- A load from its data, or the code and index of what fails (R227 check 8). -/
def makeLoad (s : State) (it : Item) (b : Bytes) : Except (Status × Nat) Load :=
  let e := it.entry
  let op := byteAt e 0
  let idx := byteAt e 1
  let f := leAt e 16 4
  if op = 0x30 then
    match readBook (bookCfg s f) (chunksOf 16 8192 b) 0 [] with
    | .ok l => .ok ⟨op, idx, f, it, [], l⟩
    | .error x => .error x
  else if op = 0x31 then
    let ws := (List.range 4096).map (fun i => leAt b (4 * i) 4)
    match curveBad idx ws with
    | some i => .error (.illegalValue, i)
    | none => .ok ⟨op, idx, f, it, ws, []⟩
  else .ok ⟨op, idx, f, it, (List.range 512).map (fun i => leAt b (2 * i) 2), []⟩

/-- Put the data of a load into use. -/
def useLoad (s : State) (l : Load) : State :=
  if l.op = 0x30 then { s with cmp := { s.cmp with book := l.book } }
  else if l.op = 0x31 then { s with cmp := { s.cmp with curves := s.cmp.curves.filter (fun c => c.1 != l.index) ++ [(l.index, l.words)] } }
  else { s with cmp := { s.cmp with filters := s.cmp.filters.filter (fun c => c.1 != l.index) ++ [(l.index, l.words)] } }

/-- Install a load and complete its entry. -/
def installLoad (s : State) (l : Load) (c : Status) (oframe : Nat) : State :=
  cmpDone (useLoad s l) l.item c 0xFFFF oframe false

/-- An accepted load takes the place of a pending one of the same slot, bank or book; it is installed at once while EN = 0, else it
is pending (R228). -/
def acceptLoad (s : State) (l : Load) : State :=
  let same (m : Load) : Bool := m.op == l.op && m.index == l.index
  let old := s.cmp.loads.filter same
  let s := { s with cmp := { s.cmp with loads := s.cmp.loads.filter (fun m => !same m) } }
  let s := old.foldl (fun s m => cmpDone s m.item .staleState 0xFFFF 0 true) s
  if isSet s F.CMP_CTL_EN then { s with cmp := { s.cmp with loads := s.cmp.loads ++ [l] } } else installLoad s l .ok 0

/-- A BOOK, CURVE or FILTER entry reaches CMP (R227, R228). -/
def cmpEntry (s : State) (it : Item) (host : HostRes) : State :=
  let e := it.entry
  match loadCheck e with
  | .ok =>
    let (r, s) := areaFetch s (leAt e 2 2) (leAt e 8 8) (loadBytes e) host
    match r with
    | .error c => cmpDone s it c 0xFFFF 0 true
    | .ok b =>
      match makeLoad s it b with
      | .error (c, i) => cmpDone s it c i 0 true
      | .ok l => acceptLoad s l
  | c => cmpDone s it c 0xFFFF 0 true

/-- Does a load wait for Bus Master Enable (R97)? -/
def cmpWaits (s : State) (it : Item) : Bool :=
  loadCheck it.entry == .ok && areaShut s (leAt it.entry 2 2) (leAt it.entry 8 8) (loadBytes it.entry)

/-- Loads due at the raster start of frame `n` take effect (R228). -/
def installDue (s : State) (n : Nat) : State :=
  let due (l : Load) : Bool :=
    let x := msub 32 l.frame (msub 32 n 1)
    l.op != 0x30 || x ≤ 1 || 2 ^ 31 ≤ x
  let ls := s.cmp.loads.filter due
  let s := { s with cmp := { s.cmp with loads := s.cmp.loads.filter (fun l => !due l) } }
  ls.foldl (fun s l => installLoad s l (if l.op = 0x30 ∧ l.frame ≠ n then .late else .ok) n) s

/-! ### The raster (R229, R232, R239) -/

/-- Does CMP produce frames: enabled and in ACTIVE power (R234, R514)? -/
def cmpProduces (s : State) : Bool := blkOn s 0x0B && isSet s F.CMP_CTL_EN && power s == 0

/-- A change of the quality step takes effect (R232); its yield was recorded as THM took the step (R508).
DESIGN CHOICE (log entry 49). -/
def applyStep (s : State) : State := setF s F.CMP_QSTAT_STEP s.cmp.nextStep

/-- Values of the most recent frame to start, for CMP_CANNOW and CMP_LNOW (R218). -/
def showNow (s : State) (ramps : List (Nat × Ramp)) (n : Nat) : State :=
  let s := (List.range 4).foldl (fun s c => setF s (F.CMP_CANNOW_GAIN c) (rampVal ramps (R.CMP_CANGAIN c) n)) s
  (List.range 128).foldl (fun s k =>
    setF (setF s (F.CMP_LNOW_GAIN k) (rampVal ramps (R.CMP_LGAIN k) n)) (F.CMP_LNOW_FADE k) (rampVal ramps (R.CMP_LFADE k) n)) s

/-- The raster of a latched frame starts at cadence instant `cn`, with deadline `cn + win`: loads, keys, the quality step, binding,
the layer cap. A frame whose reads are not scheduled yet (CMP was disabled since it was queued, or a layer binds only now) has them
scheduled. -/
def rasterStart (s : State) (q : QFrame) (cn win : Nat) : State :=
  let n := q.n
  let s := applyStep (switchKeys (installDue s n) n)
  let s := showNow s q.ramps n
  let step := getF s F.CMP_QSTAT_STEP
  let on := layersOn q.cfg
  let s := on.foldl (fun s k => match bindCheck s q.cfg k with | .ok => s | c => bindError s k c) s
  let bound := on.filter (fun k => bindCheck s q.cfg k == .ok)
  let kept := (List.range 4).flatMap (fun c => shedTo q.cfg (stepLayers step) (canvasLayers bound c))
  let shed := bound.length - kept.length
  let s := setF s F.CMP_QSTAT_SHED (min 255 shed)
  let s := if shed = 0 then s else yield s 1 4 0x0B .aborted n
  let s := engineStart s n (bound.flatMap (layHandles q.cfg))
  let s := prefetchDue (queueNeeds s ⟨n, q.cfg, q.ramps, step⟩ kept cn win [])
  { s with cmp := { s.cmp with
      raster := some ⟨n, cn, (cn + win) % 2 ^ 32, kept, shed, q.cfg, q.ramps, step, s.cmp.curves, s.cmp.filters, s.cmp.book, false, false⟩ } }

/-- RASTER_DEADLINE: C_N + W has come with frame N unfinished (R251). -/
def rasterDeadline (s : State) : State :=
  match s.cmp.raster with
  | some r => if !r.finished && !r.aborted && matOrAfter 32 (timeNs s) r.due then underrun s r.frame causeRaster .late else s
  | none => s

/-- A run of a frame as CMP makes it: its canvas, the last canvas row it takes pixels of, its port and its cell. -/
abbrev MadeRun := (Nat × Nat) × Nat × Bytes

/-- Insert a run in the order in which rows are produced: every row of a frame has the deadline C_{N+1} (R251), so the lower canvas
goes first, then the upper row; equal ones keep the order of the address book (R231, R27). DESIGN CHOICE (log entry 137). -/
def insertRun (x : MadeRun) : List MadeRun → List MadeRun
  | [] => [x]
  | y :: t => if x.1.1 < y.1.1 ∨ (x.1.1 = y.1.1 ∧ x.1.2 < y.1.2) then x :: y :: t else y :: insertRun x t

/-- The last canvas row of run `r` of a tile, with `ppr` pixels a run. -/
def runRow (e : BookEnt) (ppr r : Nat) : Nat :=
  let (tw, th) := e.tileSize
  (((List.range ppr).map (ppr * r + ·)).filter (· < tw * th)).foldl (fun m i => max m (e.canvasPixel (i % tw) (i / tw)).2) 0

/-- CMP finishes compositing, unless the raster deadline has come first: the cost, the runs of each address-book entry in the order of
R231 and the values of R555. A layer read that fails is a fetch underrun with INTEGRITY. DESIGN CHOICE (log entry 46). -/
def frameDone (s : State) : State :=
  let s := rasterDeadline s
  match s.cmp.raster with
  | none => s
  | some r =>
    if r.finished ∨ r.aborted then s
    else
      let fc : FrameCfg := ⟨r.frame, r.cfg, r.ramps, r.step⟩
      let v : State := { s with cmp := { s.cmp with curves := r.curves, filters := r.filters } }
      match frameBad s fc r.layers with
      | some h =>
        let s := engineNote s r.frame ((surfOf s h.1).map Surf.vp |>.getD 0) h.2.1 h.2.2
        let s := setF (setF s F.SRF_PFLAST_HANDLE h.1) F.SRF_PFLAST_CODE Status.integrity.code
        underrun s r.frame causePage .integrity
      | none =>
        let (free, s) := drawNat s
        let (pick, s) := drawNat s
        let sealRun := isSet s F.CHN_CFG_SEALRUN
        let book := r.book.filter (fun e => canvasOn fc e.stream)
        let clear (e : BookEnt) : Bool := (curEntry s e.postcode).isNone || (!sealRun && pick % 2 == 1)
        let sendable := book.filter (fun e => (chainPort s e.postcode).isSome && !(sealRun && (curEntry s e.postcode).isNone))
        let made := sendable.map (fun e => (e, entryRuns v fc r.layers free (clear e) e))
        let noport := (book.filter (fun e => (chainPort s e.postcode).isNone)).length
        let s1 := incSat s F.CHN_LSTAT_NOPORT noport
        let runs : List MadeRun := made.foldl (fun l m =>
          let ppr := runPixels (cfgF fc.cfg (F.CMP_CANCFG_OBITS m.1.stream))
          match chainPort s m.1.postcode with
          | some p => (m.2.1.zip (List.range m.2.1.length)).foldl (fun l c => insertRun ((m.1.stream, runRow m.1 ppr c.2), p, c.1) l) l
          | none => l) []
        let s2 := runs.foldl (fun st x =>
          let t := txPort st x.2.1
          if blkReset st 0x0D then st else setTx st x.2.1 { t with runs := t.runs ++ [(r.frame, x.2.2)] }) s1
        let posts := (sendable.map BookEnt.postcode).dedup
        let vals := posts.filterMap (fun pc =>
          (recIndex s pc).map (fun i =>
            (i, crc64 ((List.range 4).flatMap (fun c =>
              ((made.filter (fun m => m.1.postcode == pc && m.1.stream == c)).flatMap (fun m => m.2.2)))))))
        let s3 := touchNeeds s2 r.frame (fun _ => true)
        let s3 := setF s3 F.CMP_FCLK_CLOCKS (frameCost fc r.layers)
        let s3 := crcNote { s3 with cmp := { s3.cmp with raster := some { r with finished := true }, sums := vals } } r.frame false vals
        if isSet s3 F.FRT_CTL_EN then s3 else flushPorts s3

/-! ### Block reset (R237) -/

def cmpReset : CmpSt := ⟨[], [], [], [], [], [], [], [], none, 0, [], []⟩

/-- The frame on the raster, if it is not finished, stops as an underrun with ABORTED (R237); one whose deadline has passed unfinished
underran then. -/
def stopRaster (s : State) : State :=
  let s := rasterDeadline s
  match s.cmp.raster with
  | some r => if r.aborted ∨ r.finished then s else underrun s r.frame causeRaster .aborted
  | none => s

/-- CMP block reset (R237). A frame already composed is no longer work of CMP: its unsent runs go on, or underrun at the next cadence
instant (R251). -/
def cmpBlockReset (s : State) : State :=
  let s := engineStop (stopRaster s)
  let s := s.cmp.loads.foldl (fun s l => cmpDone s l.item .aborted 0xFFFF 0 true) s
  let c := s.cmp
  let s := resetRegs s 0xB0000 0xC0000
  { s with cmp := { cmpReset with nextStep := c.nextStep, hist := c.hist, raster := c.raster.filter (fun r => r.finished && !r.aborted) } }

/-! ### The commands -/

/-- BOOK_LOAD (R228); `host` answers reads of host-backed pages. -/
def execBookLoad (host : HostRes) (s : State) : Result := whenOn 0x0B s (fun s => onEntryRead s 0x30 cmpWaits (fun s it => cmpEntry s it host))

/-- CURVE_LOAD of CMP (R228). -/
def execCurveLoad (host : HostRes) (s : State) : Result := whenOn 0x0B s (fun s => onEntryRead s 0x31 cmpWaits (fun s it => cmpEntry s it host))

/-- FILTER_LOAD (R228). -/
def execFilterLoad (host : HostRes) (s : State) : Result := whenOn 0x0B s (fun s => onEntryRead s 0x32 cmpWaits (fun s it => cmpEntry s it host))

/-- CMP_FRAME_DONE (R230). -/
def execCmpFrameDone (dt : Nat) (s : State) : Result := whenOn 0x0B (advance dt s) frameDone

end Sys2Proof.Machine
end

