-- ==== Sys2Proof/Machine/Slots.lean ====
section
/-! DEFINITION. The DRAM temperature slots of CAL (R528, R529): what training fills in, interpolation at the present junction
temperature, and tracking. -/

namespace Sys2Proof.Machine

/-- Tj, S11.4 °C (R506). -/
def junction (s : State) : Int := signed 16 (getF s F.THM_STAT_TJ)

/-! ### Eyes (R487) -/

/-- Width of an eye, 1/64 UI. -/
def eyeWidth (e : Eye) : Nat := e.2.2 - e.2.1

/-- The eye a sweep selects: the widest, of several the middle one. DESIGN CHOICE (log entry 166). -/
def widestEye (l : List Eye) : Eye :=
  let w := (l.map eyeWidth).foldl max 0
  let t := l.filter (fun e => eyeWidth e == w)
  t.getD ((t.length - 1) / 2) (0, 0, 0)

/-- The delay it sets: the centre of the window, rounded down. -/
def eyeCentre (e : Eye) : Nat := (e.2.1 + e.2.2) / 2

/-- Does a byte lane pass? -/
def LTrain.pass (x : LTrain) : Bool := 12 ≤ eyeWidth (widestEye x.rd) && 12 ≤ eyeWidth (widestEye x.wr)

/-- Does a training pass: each of four byte lanes at each of the set-points? -/
def trainPass (fsps : List Nat) (l : List LTrain) : Bool :=
  fsps.all (fun f => (List.range 4).all (fun b => (l.find? (fun x => x.fsp == f && x.lane == b)).any LTrain.pass))

/-- The configured set-points by their rates (R498): DRC starts at FSP0. -/
def setPoints (rates : Nat × Nat × Nat) : List Nat :=
  [0] ++ (if rates.2.1 = 0 then [] else [1]) ++ (if rates.2.2 = 0 then [] else [2])

/-- The code of a channel's training (R488): it is repeated once. -/
def DramCh.code (d : DramCh) (fsps : List Nat) : Status :=
  if !d.answers then .linkAbsent else if trainPass fsps d.first || trainPass fsps d.again then .ok else .range

/-- The training whose results count. -/
def DramCh.trains (d : DramCh) (fsps : List Nat) : List LTrain := if trainPass fsps d.first then d.first else d.again

/-! ### Slots -/

/-- The slot of a temperature: LOW below 30 °C, MID below 70 °C, HIGH. -/
def slotOf (tj : Int) : Nat := if tj < 480 then 0 else if tj < 1120 then 1 else 2

/-- Training results of channel `c` replace the slots for the present Tj. -/
def calTrain (s : State) (c : Nat) (l : List LTrain) : State :=
  let tj := junction s
  l.foldl (fun s x =>
    let r := widestEye x.rd
    let w := widestEye x.wr
    let d : DSlot := ⟨c, x.lane, x.fsp, slotOf tj, tj, eyeCentre r, eyeCentre w, r.1, min 255 (eyeWidth r), min 255 (eyeWidth w),
      min 255 x.eh, x.osc⟩
    let keep := s.cal.slots.filter (fun e => !(e.chan == c && e.lane == x.lane && e.fsp == x.fsp && e.slot == d.slot))
    { s with cal := { s.cal with slots := keep ++ [d], changed := true } }) s

/-- The filled slots of a byte lane at a set-point, LOW to HIGH. -/
def laneSlots (s : State) (c lane fsp : Nat) : List DSlot :=
  (List.range 3).filterMap (fun k => s.cal.slots.find? (fun e => e.chan == c && e.lane == lane && e.fsp == fsp && e.slot == k))

/-- The two slots to interpolate between: those about `tj`, or the two nearest; one slot alone stands for both. -/
def slotPair (tj : Int) : List DSlot → Option (DSlot × DSlot)
  | [] => none
  | [a] => some (a, a)
  | [a, b] => some (a, b)
  | a :: b :: c :: _ => if tj ≤ b.tj then some (a, b) else some (b, c)

/-- The value at `tj`: rounded to nearest, ties up, and kept between the two slots. -/
def slotValue (a b : DSlot) (tj : Int) (v : DSlot → Nat) : Nat :=
  let den := b.tj - a.tj
  if den = 0 then v a
  else
    let num := ((v b : Int) - v a) * (tj - a.tj)
    let x := (v a : Int) + (2 * num + den) / (2 * den)
    (max (min (v a : Int) (v b)) (min x (max (v a : Int) (v b)))).toNat

/-- The slot in use for tracking: the one of the present temperature, else the filled one nearest to it. -/
def slotInUse (tj : Int) (l : List DSlot) : Option DSlot :=
  match l.find? (fun d => d.slot == slotOf tj) with
  | some d => some d
  | none => l.foldl (fun b d => match b with
      | none => some d
      | some e => if (d.tj - tj).natAbs < (e.tj - tj).natAbs then some d else b) none

/-- Values a byte lane should have: read delay, write delay, Vref. -/
def laneTarget (s : State) (c lane : Nat) (osc : Option Nat) : Option (Nat × Nat × Nat) :=
  let tj := junction s
  let l := laneSlots s c lane (getF s F.DRC_CFG_FSP)
  (slotPair tj l).map (fun e =>
    let drift : Int := match osc, slotInUse tj l with
      | some n, some d => Config.oscSteps d.osc n
      | _, _ => 0
    (slotValue e.1 e.2 tj DSlot.rd, ((slotValue e.1 e.2 tj DSlot.wr : Int) + drift).toNat, slotValue e.1 e.2 tj DSlot.vref))

/-- One step of at most 1 toward a target. -/
def stepTo (v t : Nat) : Nat := if v < t then v + 1 else if t < v then v - 1 else v

/-- DRC_LANE shows the eyes of the slot in use (R502). -/
def laneEyes (s : State) (c lane : Nat) : State :=
  match slotInUse (junction s) (laneSlots s c lane (getF s F.DRC_CFG_FSP)) with
  | some d => setF (setF (setF s (F.DRC_LANE_RDEW c lane) d.rdew) (F.DRC_LANE_WREW c lane) d.wrew) (F.DRC_LANE_EH c lane) d.eh
  | none => s

/-- Put values in use in a byte lane; DRC_LANE shows them. -/
def laneUse (s : State) (c lane : Nat) (v : Nat × Nat × Nat) : State :=
  let s := { s with cal := { s.cal with use := tset (0, 0, 0) s.cal.use (4 * c + lane) v } }
  setF (laneEyes s c lane) (F.DRC_LANE_VREF c lane) v.2.2

/-- A channel takes the values of its slots at once: after training, or at a new set-point (R530).
DESIGN CHOICE (log entry 93). -/
def retrackChan (s : State) (c : Nat) : State :=
  (List.range 4).foldl (fun s lane => match laneTarget s c lane none with | some v => laneUse s c lane v | none => s) s

/-- The 16 ms step of a channel: each value moves by at most one step; `osc` is the count read for tracking. -/
def trackChan (s : State) (c : Nat) (osc : Option Nat) : State :=
  (List.range 4).foldl (fun s lane =>
    match laneTarget s c lane osc with
    | some v =>
      let u := tget (0, 0, 0) s.cal.use (4 * c + lane)
      laneUse s c lane (stepTo u.1 v.1, stepTo u.2.1 v.2.1, stepTo u.2.2 v.2.2)
    | none => s) s

end Sys2Proof.Machine
end

