-- ==== Sys2Proof/Machine/Dma.lean ====
section
/-! DEFINITION. The DMA engine: descriptors and their checks, indirect lists, transfer, faults, pre-emption, rate caps
(R126 to R153, R609). -/

namespace Sys2Proof.Machine

/-! ### Channels -/

/-- Full read credit for a RATE, in 1/1000 byte (R609): one microsecond's allowance. -/
def fullCredit (rate : Nat) : Int := (rate * 256 * 1000 : Nat)

def chanReset : Chan := ⟨none, none, none, false, 0, 0, 0, 0, 3⟩

def chan (s : State) (c : Nat) : Chan := tget chanReset s.dma c

def setChan (s : State) (c : Nat) (x : Chan) : State := { s with dma := tset chanReset s.dma c x }

/-- DMA_CHSTAT and SOR_TGTSTAT follow a channel's sets (R151, R171). With no active descriptor QID reads its reset value.
DEDUCED (log entry 17). -/
def dmaShow (s : State) (c : Nat) : State :=
  let x := chan s c
  let st := if x.susp.isSome then 3 else if x.active.isSome then 2 else if isSet s (F.DMA_CHCFG_ENABLE c) then 1 else 0
  let s := setF (setF s (F.DMA_CHSTAT_STATE c) st) (F.DMA_CHSTAT_SHADOW c) (b2n x.shadow.isSome)
  let s := setF s (F.DMA_CHSTAT_QID c) ((x.active.map (fun d => d.item.q)).getD 0)
  showTarget s (8 + c) (x.active.map Desc.item) (x.susp.isSome || (x.active.map Desc.displaced).getD false)

/-! ### Entries (R128 to R131) -/

def dmaCtl (e : Bytes) : Nat := byteAt e 1
def dmaSrcSp (e : Bytes) : Nat := byteAt e 2 % 16
def dmaDstSp (e : Bytes) : Nat := byteAt e 2 / 16
def dmaLen (e : Bytes) : Nat := leAt e 4 4
def dmaSrc (e : Bytes) : Nat := leAt e 8 8
def dmaDst (e : Bytes) : Nat := leAt e 16 8
def dmaSrcInd (e : Bytes) : Bool := (dmaCtl e).testBit 0
def dmaDstInd (e : Bytes) : Bool := (dmaCtl e).testBit 1

/-- End of a space's valid range (R130). -/
def spaceEnd (sp : Nat) : Nat := if sp = 0 then 2 ^ 64 else 2 ^ 42

/-- Checks 1 to 11 of R131, in order. -/
def dmaCheck (s : State) (e : Bytes) : Status :=
  let op := byteAt e 0
  let copy := op == 1
  let moves := op == 1 || op == 2
  let srcHost := copy && dmaSrcSp e == 0
  let dstHost := moves && dmaDstSp e == 0
  firstFail [
    (trailerBad e, .illegalValue),
    (2 < op, .illegalValue),
    (8 ≤ dmaCtl e || byteAt e 3 != 0, .illegalValue),
    (if op = 0 then dmaCtl e != 0 || byteAt e 2 != 0 || dmaLen e != 0 || dmaSrc e != 0 || dmaDst e != 0 || leAt e 24 8 != 0
     else if op = 1 then leAt e 24 8 != 0
     else dmaSrc e != 0 || dmaSrcInd e || dmaSrcSp e != 0, .illegalValue),
    ((copy && 1 < dmaSrcSp e) || (moves && 1 < dmaDstSp e), .illegalValue),
    (isHostless s && (srcHost || dstHost), .notPermitted),
    (moves && dmaLen e == 0, .illegalValue),
    (moves && (dmaLen e % 64 != 0 || dmaSrc e % 64 != 0 || dmaDst e % 64 != 0), .align),
    ((copy && !dmaSrcInd e && spaceEnd (dmaSrcSp e) < dmaSrc e + dmaLen e) ||
      (moves && !dmaDstInd e && spaceEnd (dmaDstSp e) < dmaDst e + dmaLen e), .range),
    (copy && !dmaSrcInd e && !dmaDstInd e && dmaSrcSp e == dmaDstSp e &&
      decide (dmaSrc e < dmaDst e + dmaLen e) && decide (dmaDst e < dmaSrc e + dmaLen e), .illegalValue),
    ((srcHost || dstHost) && !isSet s F.HIF_LINKSTAT_UP, .linkAbsent)]

/-- One side of an entry. -/
def mkSide (sp addr len : Nat) (ind : Bool) : Side :=
  if ind then ⟨sp, true, [], 0, addr, false⟩ else ⟨sp, false, [⟨addr, len, none⟩], 0, 0, true⟩

/-- The descriptor of an item, checked up to check 11. -/
def mkDesc (s : State) (it : Item) : Desc :=
  let e := it.entry
  let c := dmaCheck s e
  { item := it, op := byteAt e 0, len := dmaLen e, fence := (dmaCtl e).testBit 2, pattern := slice e 24 8,
    src := if byteAt e 0 = 1 then mkSide (dmaSrcSp e) (dmaSrc e) (dmaLen e) (dmaSrcInd e) else ⟨1, false, [], 0, 0, true⟩,
    dst := mkSide (dmaDstSp e) (dmaDst e) (dmaLen e) (dmaDstInd e),
    wantSrc := false, wantDst := false, done := 0, asked := 0,
    fault := if c = .ok then none else some (c, 0xFFFF, 0), displaced := false, orig := [], wrote := none, held := none }

/-! ### Completion (R117, R137, R138, R152, R153) -/

/-- Write back a descriptor that has ended on channel `c`; TDONE is the time of its last data write, or now if it moved none
(R128). A dead letter whose ring the link loss has cut off is counted in DMA_CHDEAD alone (R140). -/
def dmaFinish (s : State) (c : Nat) (d : Desc) (code : Status) (fseg finfo : Nat) : State :=
  let lost := ringLost s d.item.q
  let s := complete40 s d.item (leBytes 4 d.done ++ leBytes 4 (d.wrote.getD (timeNs s)) ++ leBytes 2 fseg ++ [byte finfo, byte c]) code
  let s := if lost && code != .ok then s else incMod s (F.DMA_CHCNT_CNT c)
  if code = .ok then s
  else setF (incSat s (F.DMA_CHDEAD_COUNT c)) (F.DMA_CHDEAD_LASTCODE c) code.code

/-- End a descriptor by its fault, or with OK. -/
def dmaEnd (s : State) (c : Nat) (d : Desc) : State :=
  match d.fault with
  | some (k, fseg, finfo) => dmaFinish s c d k fseg finfo
  | none => dmaFinish s c d .ok 0xFFFF 0

/-! ### Lists (R132 to R135) -/

/-- Element `i` of a segment: address, length, reserved bytes. -/
def segElem (b : Bytes) (i : Nat) : Nat × Nat × Nat := (leAt b (16 * i) 8, leAt b (16 * i + 8) 4, leAt b (16 * i + 12) 4)

/-- How many elements the transfer reaches: from element 0 up to the one that covers `need` more bytes, within COUNT. -/
def segUsed (b : Bytes) : Nat → Nat → Nat → Nat
  | 0, _, _ => 0
  | k + 1, i, need => if need = 0 then 0 else 1 + segUsed b k (i + 1) (need - (segElem b i).2.1)

/-- Bytes that elements 0 to n - 1 describe. -/
def segBytes (b : Bytes) (n : Nat) : Nat := ((List.range n).map (fun i => (segElem b i).2.1)).sum

/-- The first element of the first `n` for which `p` gives a code. -/
def firstElem (b : Bytes) (n : Nat) (p : Nat × Nat × Nat → Status) : Option (Status × Nat) :=
  (List.range n).findSome? (fun i => if p (segElem b i) = .ok then none else some (p (segElem b i), i))

/-- The checks of R135 on segment `k` of a list, in order: code, FELEM, FLIST. `need` bytes of the side are not yet covered. NEXT of
segment 4,095 is never followed (R134), so it is not checked. -/
def segCheck (b : Bytes) (sp need k : Nat) : Option (Status × Nat × Nat) :=
  let count := byteAt b 56
  let last := (byteAt b 57).testBit 0
  let n := segUsed b (min count 3) 0 need
  let covered := need ≤ segBytes b n
  if 2 ≤ byteAt b 57 ∨ leAt b 58 6 ≠ 0 then some (.illegalValue, 0, 1)
  else if count = 0 ∨ 3 < count then some (.illegalValue, 0, 1)
  else if !last ∧ ¬ covered ∧ k < 4095 ∧ leAt b 48 8 % 64 ≠ 0 then some (.align, 0, 1)
  else
    let rows : List (Nat × Nat × Nat → Status) := [
      fun e => if e.2.2 != 0 then .illegalValue else .ok,
      fun e => if e.2.1 = 0 then .illegalValue else if e.2.1 % 64 ≠ 0 then .align else .ok,
      fun e => if e.1 % 64 ≠ 0 then .align else if spaceEnd sp < e.1 + e.2.1 then .range else .ok]
    match rows.findSome? (firstElem b n) with
    | some (c, i) => some (c, i, 0)
    | none => if last ∧ ¬ covered then some (.range, 0, 1) else none

/-- FINFO (R128). -/
def finfo (felem fside flist : Nat) : Nat := felem + 4 * fside + 8 * flist

/-- Bytes a side's known elements still hold. -/
def sideLeft (x : Side) : Nat := (x.elems.map Elem.left).sum

/-- Take the elements in use of a checked segment into a side that needs `need` more bytes. -/
def sideFeed (x : Side) (b : Bytes) (need : Nat) : Side :=
  let n := segUsed b (min (byteAt b 56) 3) 0 need
  let es := (List.range n).map (fun i => (⟨(segElem b i).1, (segElem b i).2.1, some (x.segs, i)⟩ : Elem))
  { x with elems := es, segs := x.segs + 1, next := leAt b 48 8, last := (byteAt b 57).testBit 0 }

/-- FSEG and FINFO of a data fault at the head of a side (R136). -/
def sideWhere (x : Side) (fside : Nat) : Nat × Nat :=
  match x.elems with
  | ⟨_, _, some (g, i)⟩ :: _ => (g, finfo i fside 0)
  | _ => (0xFFFF, 0)

/-- Consume `n` bytes of a side. -/
def sideDrop (x : Side) (n : Nat) : Side :=
  match x.elems with
  | e :: t => if e.left ≤ n then { x with elems := t } else { x with elems := { e with addr := e.addr + n, left := e.left - n } :: t }
  | [] => x

/-! ### Addresses -/

/-- Where 64-byte block `a` of a space lies: DRAM address, host address, or a code (R136, R178). -/
inductive Place where
  | dram (a : Nat)
  | host (a : Nat)
  | bad (c : Status)
  deriving DecidableEq, Repr

def placeMap (s : State) (sp a : Nat) : Place :=
  let viaHost (a : Nat) : Place := if isSet s F.HIF_LINKSTAT_UP then .host a else .bad .linkAbsent
  if sp = 0 then viaHost a
  else
    match pageMap s (a / 65536) with
    | some (.loc p) => .dram (65536 * p + a % 65536)
    | some (.host h) => viaHost (h + a % 65536)
    | _ => .bad .range

/-- Where an access goes; one whose translation cannot be read fails with INTEGRITY (R179). -/
def place (s : State) (sp a : Nat) : Place := if sp = 1 && walkBad s (a / 65536) then .bad .integrity else placeMap s sp a

/-- Is a block of a space reached across UCIe: host memory, or a surface page it backs (R130)? -/
def viaHost (s : State) (sp a : Nat) : Bool :=
  sp == 0 || (match pageMap s (a / 65536) with | some (.host _) => true | _ => false)

/-- Is the head of a side reached across UCIe? -/
def headHost (s : State) (x : Side) : Bool :=
  match x.elems with
  | e :: _ => viaHost s x.sp e.addr
  | [] => false

/-- Must a write to a side wait, since Bus Master Enable is 0 (R141)? -/
def hostShut (s : State) (x : Side) : Bool := isSet s F.HIF_LINKSTAT_UP && !upOpen s && headHost s x

/-! ### Moving data (R137, R138, R141 to R143) -/

/-- Mark a descriptor failed at the head of a side. -/
def failAt (d : Desc) (fside : Nat) (c : Status) : Desc :=
  let (g, f) := sideWhere (if fside = 0 then d.src else d.dst) fside
  { d with fault := some (c, g, f), asked := 0, held := none }

/-- Write one block at the destination's head; the descriptor advances, or fails there. -/
def putBlock (s : State) (c : Nat) (d : Desc) (b : Bytes) : Desc × State :=
  match d.dst.elems with
  | [] => (d, s)
  | e :: _ =>
    let adv (d : Desc) (s : State) : Desc × State :=
      let x := chan s c
      ({ d with dst := sideDrop d.dst 64, src := sideDrop d.src 64, done := d.done + 64, wrote := some (timeNs s) },
       setChan s c { x with bytes := (x.bytes + 64) % 2 ^ 64 })
    let s := if d.dst.sp = 1 then srfWalk s (e.addr / 65536) else s
    match place s d.dst.sp e.addr with
    | .dram a =>
      let d := if (d.src.isList || d.dst.isList) && !d.orig.any (fun o => o.1 == a) then { d with orig := (a, dramRd s a 64) :: d.orig } else d
      adv d (dramWr s a b)
    | .host a => adv d (upstream s (.write a b))
    | .bad k => (failAt d 1 k, s)

/-- Content of a source block in DRAM: where this descriptor has already overwritten it, either the content before the
descriptor or the present one, not fixed which (R142). DESIGN CHOICE (log entry 20). -/
def srcBlock (s : State) (d : Desc) (a : Nat) : Bytes × State :=
  match d.orig.find? (fun o => o.1 == a) with
  | some o =>
    let (r, s) := drawNat s
    (if r % 2 = 0 then o.2 else dramRd s a 64, s)
  | none => (dramRd s a 64, s)

/-- Move `n` blocks of read data, the host's bytes being `b`; a failing block ends it, and what cannot be written while Bus Master
Enable is 0 is held. -/
def moveBlocks (c : Nat) : Nat → Bytes → Desc → State → Desc × State
  | 0, _, d, s => (d, s)
  | n + 1, b, d, s =>
    if d.fault.isSome then (d, s)
    else if hostShut s d.dst then ({ d with asked := 64 * (n + 1), held := some b }, s)
    else
      match d.src.elems with
      | [] => (d, s)
      | e :: _ =>
        let s := if d.src.sp = 1 then srfWalk s (e.addr / 65536) else s
        match place s d.src.sp e.addr with
        | .dram a =>
          if dramBad s a 64 then (failAt d 0 .integrity, noteBad s a 64)
          else
            let (x, s) := srcBlock s d a
            let (d, s) := putBlock s c d x
            moveBlocks c n (b.drop 64) d s
        | .host _ =>
          let (d, s) := putBlock s c d (fit 64 b)
          moveBlocks c n (b.drop 64) d s
        | .bad k => (failAt d 0 k, s)

/-- Write `n` blocks of a FILL, as far as Bus Master Enable lets it. -/
def fillBlocks (c : Nat) : Nat → Desc → State → Desc × State
  | 0, d, s => (d, s)
  | n + 1, d, s =>
    if d.fault.isSome || hostShut s d.dst then (d, s)
    else
      let (d, s) := putBlock s c d ((List.range 8).flatMap (fun _ => d.pattern))
      fillBlocks c n d s

/-- Bytes of read data that a descriptor has outstanding. -/
def outOf (d : Desc) : Nat := (if d.held.isSome then 0 else d.asked) + 64 * (b2n d.wantSrc + b2n d.wantDst)

/-- Bytes of read data that a channel has outstanding, where `d` is its descriptor in the shadow or the active set. -/
def outBytes (s : State) (c : Nat) (shadow : Bool) (d : Desc) : Nat :=
  let x := chan s c
  outOf d + ((if shadow then x.active else x.shadow).map outOf).getD 0

/-- Bytes the next data read asks for (R127): within both sides' elements and one 64 KiB page of each surface; a read of host memory
also within one 4 KiB block of the host's addresses and the Max Read Request Size, any other within 16 KiB. -/
def readSize (s : State) (d : Desc) : Nat :=
  let lim (x : Side) : Nat :=
    match x.elems with
    | e :: _ => if x.sp = 0 then e.left else min e.left (65536 - e.addr % 65536)
    | [] => 0
  let cut :=
    match d.src.elems with
    | e :: _ => (match placeMap s d.src.sp e.addr with | .host a => min (4096 - a % 4096) (max 64 s.hif.mrrs) | _ => 16384)
    | [] => 0
  min (min (lim d.src) (lim d.dst)) (min (d.len - d.done) cut)

/-! ### The read credit (R609) -/

/-- The read credit brought up to now, in 1/1000 byte. -/
def creditNow (s : State) (x : Chan) : Int :=
  min (fullCredit x.rate) (x.credit + (x.rate * 256 * (upNs s - x.creditAt) : Nat))

/-- May a channel issue a read? -/
def mayRead (s : State) (c : Nat) : Bool := (chan s c).rate == 0 || decide (0 ≤ creditNow s (chan s c))

/-- A channel issues a read of `n` bytes; with RATE = 0 its credit is not used. -/
def payRead (s : State) (c n : Nat) : State :=
  let x := chan s c
  if x.rate = 0 then s else setChan s c { x with credit := creditNow s x - 1000 * (n : Nat), creditAt := upNs s }

/-- A channel takes CLASS and RATE for the descriptor that enters its active set (R150); its credit never exceeds that of the new
RATE (R609). -/
def takeRate (s : State) (c : Nat) (x : Chan) : Chan :=
  let r := getF s (F.DMA_CHCFG_RATE c)
  let grown : Int := x.credit + (x.rate * 256 * (upNs s - x.creditAt) : Nat)
  { x with rate := r, cls := getF s (F.DMA_CHCFG_CLASS c),
           credit := if r = 0 then x.credit else min (fullCredit r) grown, creditAt := upNs s }

/-- DMA_CHCFG was written: the credit is full (R609). -/
def chanConfig (s : State) (c : Nat) : State :=
  setChan s c { chan s c with credit := fullCredit (getF s (F.DMA_CHCFG_RATE c)), creditAt := upNs s }

/-- Does a side need its next segment before the transfer can go on? -/
def needsSeg (d : Desc) (x : Side) : Bool := x.isList && x.elems.isEmpty && decide (d.done < d.len)

/-- Channel `c` has a host access that waits while Bus Master Enable is 0: its turn comes after the requests that wait already
(R97, R141). -/
def waitTurn (s : State) (c : Nat) : State :=
  if s.hif.waiting.contains (.turn c) then s else { s with hif := { s.hif with waiting := s.hif.waiting ++ [.turn c] } }

/-- Does a host access wait, since Bus Master Enable is 0 (R97)? -/
def busShut (s : State) : Bool := isSet s F.HIF_LINKSTAT_UP && !upOpen s

/-- Ask for a side's next segment: a host read, or a local one that DMA_SEGMENT_READ_DONE answers; the hop limit of R134, and
an address that cannot be reached, end the descriptor; without credit it is asked for later (R609), and so it is while Bus Master
Enable is 0 or 16 KiB are outstanding (R127, R141). -/
def askSeg (s : State) (c : Nat) (shadow : Bool) (d : Desc) (dst : Bool) : Desc × State :=
  let x := if dst then d.dst else d.src
  let fs := b2n dst
  if 4096 ≤ x.segs then ({ d with fault := some (.loop, 4095, finfo 0 fs 1) }, s)
  else if !mayRead s c || decide (16384 < outBytes s c shadow d + 64) then (d, s)
  else if busShut s && viaHost s x.sp x.next then (d, waitTurn s c)
  else
    let s := if x.sp = 1 then srfWalk s (x.next / 65536) else s
    let d' := if dst then { d with wantDst := true } else { d with wantSrc := true }
    if spaceEnd x.sp < x.next + 64 then ({ d with fault := some (.range, x.segs, finfo 0 fs 1) }, s)
    else
      match place s x.sp x.next with
      | .bad k => ({ d with fault := some (k, x.segs, finfo 0 fs 1) }, s)
      | .host a => (d', upstream (payRead s c 64) (.read (.seg c shadow dst) a 64))
      | .dram _ => (d', payRead s c 64)

/-- Ask for the segments a descriptor waits for. -/
def askSegs (s : State) (c : Nat) (shadow : Bool) (d : Desc) : Desc × State :=
  let (d, s) := if d.fault.isNone && needsSeg d d.src && !d.wantSrc then askSeg s c shadow d false else (d, s)
  if d.fault.isNone && needsSeg d d.dst && !d.wantDst then askSeg s c shadow d true else (d, s)

/-- Write what was held back while Bus Master Enable was 0 (R141). -/
def putHeld (s : State) (c : Nat) (d : Desc) : Desc × State :=
  match d.held with
  | some b => if hostShut s d.dst then (d, waitTurn s c) else moveBlocks c (d.asked / 64) b { d with asked := 0, held := none } s
  | none => (d, s)

/-- Issue the next data read of the active descriptor, if its credit and Bus Master Enable let it (R141, R609); its translation is used
(R179). -/
def askData (s : State) (c : Nat) (d : Desc) : State :=
  if !mayRead s c then setChan s c { chan s c with active := some d }
  else if hostShut s d.dst || hostShut s d.src then setChan (waitTurn s c) c { chan s c with active := some d }
  else
    let n := min (readSize s d) (16384 - outBytes s c false d)
    let go (s : State) : State :=
      let s := payRead s c n
      setChan s c { chan s c with active := some { d with asked := n } }
    match d.src.elems with
    | e :: _ =>
      let s' := if d.src.sp = 1 then srfWalk s (e.addr / 65536) else s
      match place s d.src.sp e.addr with
      | .host a => upstream (go s') (.read (.data c) a n)
      | .dram _ => go s'
      | .bad q => setChan s' c { chan s' c with active := some (failAt d 0 q) }
    | [] => s

/-- Has a descriptor in the shadow set passed every check, its first segments included? -/
def shadowReady (d : Desc) : Bool := d.fault.isNone && !d.wantSrc && !d.wantDst && !needsSeg d d.src && !needsSeg d d.dst

/-- Does the active descriptor issue no new read, since the pre-empting one has passed its checks (R146 steps 2 and 3)? -/
def gives (x : Chan) : Bool := x.yielding && x.shadow.any shadowReady

/-- Let the active descriptor go on: write what is held, ask for segments, write a FILL, or issue the next data read (R133, R143,
R609). DESIGN CHOICE (log entry 19). -/
def dmaPump (s : State) (c : Nat) : State :=
  match (chan s c).active with
  | none => s
  | some d =>
    let (d, s) := putHeld s c d
    let s := setChan s c { chan s c with active := some d }
    if d.fault.isSome || d.asked != 0 || gives (chan s c) || d.op == 0 || d.len ≤ d.done || d.wantSrc || d.wantDst then s
    else
      let (d, s) := askSegs s c false d
      if d.fault.isSome || d.wantSrc || d.wantDst || needsSeg d d.src || needsSeg d d.dst then setChan s c { chan s c with active := some d }
      else if d.op = 2 then
        let n := (min (sideLeft d.dst) (d.len - d.done)) / 64
        let (d, s) := fillBlocks c n d s
        let (d, s) := if d.fault.isNone then askSegs s c false d else (d, s)
        let s := if hostShut s d.dst then waitTurn s c else s
        setChan s c { chan s c with active := some d }
      else askData s c d

/-! ### The sets of a channel (R126, R144, R146) -/

/-- Complete a shadow descriptor that failed its checks: at once when nothing is active or when it was to pre-empt. It gives up the
segment read that it may still wait for. -/
def dropShadow (s : State) (c : Nat) : State :=
  let x := chan s c
  match x.shadow with
  | some d =>
    if d.fault.isSome && (x.active.isNone || x.yielding) then
      let s := giveUpRead (giveUpRead s (.seg c true false)) (.seg c true true)
      dmaEnd (setChan s c { x with shadow := none, yielding := false }) c d
    else s
  | none => s

/-- A pre-empting descriptor that passed takes the active set once the active one has no read outstanding (R146); with FENCE = 1 it
waits for no write that the displaced one has still to make. DESIGN CHOICE (log entry 127). -/
def swapIn (s : State) (c : Nat) : State :=
  let x := chan s c
  match x.shadow, x.active with
  | some d, some a =>
    if x.yielding && shadowReady d && a.asked == 0 && !a.wantSrc && !a.wantDst then
      setChan s c { takeRate s c x with active := some d, shadow := none, susp := some { a with displaced := true }, yielding := false }
    else s
  | _, _ => s

/-- An empty active set takes the suspended descriptor, else a ready shadow descriptor; either enters with the present CLASS and RATE
(R150). DESIGN CHOICE (log entry 128). -/
def promote (s : State) (c : Nat) : State :=
  let x := chan s c
  if x.active.isSome then s
  else
    match x.susp with
    | some d => setChan s c { takeRate s c x with active := some d, susp := none }
    | none =>
      match x.shadow with
      | some d => if shadowReady d then setChan s c { takeRate s c x with active := some d, shadow := none, yielding := false } else s
      | none => s

/-- An active descriptor that has failed ends (R137). -/
def endFailed (s : State) (c : Nat) : State :=
  let x := chan s c
  match x.active with
  | some d => if d.fault.isSome && !d.wantSrc && !d.wantDst then dmaEnd (setChan s c { x with active := none }) c d else s
  | none => s

/-- First segment reads of a shadow descriptor (R126, check 12). One with FENCE = 1 makes its first read only when every earlier
descriptor of the channel has completed (R145), but for one that pre-empts and so runs before them. DESIGN CHOICE (log entry 127). -/
def shadowAsk (s : State) (c : Nat) : State :=
  let x := chan s c
  match x.shadow with
  | some d =>
    if d.fault.isSome || (d.fence && !x.yielding && (x.active.isSome || x.susp.isSome)) then s
    else
      let (d, s) := askSegs s c true d
      setChan s c { chan s c with shadow := some d }
  | none => s

/-- One round of everything that can happen by itself in a channel. -/
def settleOnce (s : State) (c : Nat) : State :=
  shadowAsk (dmaPump (promote (swapIn (dropShadow (endFailed s c) c) c) c) c) c

/-- A channel settles: at most the active, the suspended and the shadow descriptor can end in one go. A shadow set that thereby empties
makes room in the store (R160). -/
def settle (s : State) (c : Nat) : State :=
  let s' := dmaShow (settleOnce (settleOnce (settleOnce (settleOnce s c) c) c) c) c
  if (chan s c).shadow.isSome && (chan s' c).shadow.isNone then kickAll s' else s'

/-- The sorting office hands an item to a channel (R126, R131). -/
def dmaHand (s : State) (c : Nat) (it : Item) : State :=
  let s := setChan s c { chan s c with shadow := some (mkDesc s it) }
  settle (shadowAsk s c) c

/-- The descriptor in a channel's shadow set goes back to the sorting office, with its ready time, at the head of the store
(R146 step 1, R162); its place there was kept. -/
def dmaReturn (s : State) (c : Nat) : State :=
  let x := chan s c
  let s := { s with sor := { s.sor with ready := (x.shadow.map Desc.item).toList ++ s.sor.ready } }
  let s := giveUpRead (giveUpRead s (.seg c true false)) (.seg c true true)
  setChan s c { x with shadow := none, yielding := false }

/-- The sorting office pre-empts a channel (R146): the shadow descriptor goes back to it, also one already refused that waited for
the active one; it is checked again when it is handed over again. DESIGN CHOICE (log entry 129). -/
def dmaPreempt (s : State) (c : Nat) (it : Item) : State :=
  let s := dmaReturn s c
  let s := setChan s c { chan s c with shadow := some (mkDesc s it), yielding := true }
  settle (shadowAsk s c) c

/-! ### Returning reads -/

/-- A segment fails: of several failures the first ends the descriptor (R135). -/
def segFault (d : Desc) (c : Status) (fseg finfo : Nat) : Desc :=
  { d with fault := some (d.fault.getD (c, fseg, finfo)) }

/-- A list segment read returned (R135). -/
def segDone (s : State) (c : Nat) (shadow dst : Bool) (res : RdRes) : State :=
  let s := dropRead s (.seg c shadow dst)
  let x := chan s c
  match (if shadow then x.shadow else x.active) with
  | none => s
  | some d =>
    if !(if dst then d.wantDst else d.wantSrc) then s
    else
      let side := if dst then d.dst else d.src
      let fs := b2n dst
      let fail (d : Desc) (c : Status) (felem flist : Nat) : Desc := segFault d c side.segs (finfo felem fs flist)
      let d := if dst then { d with wantDst := false } else { d with wantSrc := false }
      let take (d : Desc) (b : Bytes) : Desc :=
        match segCheck b side.sp (d.len - d.done) side.segs with
        | some (k, felem, flist) => fail d k felem flist
        | none =>
          let y := sideFeed side b (d.len - d.done)
          if dst then { d with dst := y } else { d with src := y }
      let d :=
        match place s side.sp side.next with
        | .dram a => if dramBad s a 64 then fail d .integrity 0 1 else take d (dramRd s a 64)
        | .bad k => fail d k 0 1
        | .host _ =>
          match res with
          | .data b => take d (fit 64 b)
          | .refused => fail d .busError 0 1
          | .poisoned => fail d .integrity 0 1
      let s := match place s side.sp side.next with | .dram a => noteBad s a 64 | _ => s
      settle (setChan s c (if shadow then { x with shadow := some d } else { x with active := some d })) c

/-- A list segment read got no answer. DESIGN CHOICE (log entry 25). -/
def segFail (s : State) (c : Nat) (shadow dst : Bool) (k : Status) : State :=
  let s := dropRead s (.seg c shadow dst)
  let x := chan s c
  match (if shadow then x.shadow else x.active) with
  | none => s
  | some d =>
    if !(if dst then d.wantDst else d.wantSrc) then s
    else
      let d := if dst then { d with wantDst := false } else { d with wantSrc := false }
      let d := segFault d k (if dst then d.dst else d.src).segs (finfo 0 (b2n dst) 1)
      settle (setChan s c (if shadow then { x with shadow := some d } else { x with active := some d })) c

/-- DMA read data returned: written to the destination, or the descriptor fails (R136, R137, R143). With no read outstanding
the channel issues the next one if it may. -/
def readDone (s : State) (c : Nat) (res : RdRes) : State :=
  let s := dropRead s (.data c)
  match (chan s c).active with
  | none => s
  | some d =>
    if d.asked = 0 ∨ d.held.isSome then settle s c
    else
      let n := d.asked / 64
      let d := { d with asked := 0 }
      let isHost := match d.src.elems with
        | e :: _ => (match placeMap s d.src.sp e.addr with | .host _ => true | _ => false)
        | [] => false
      let (d, s) :=
        match isHost, res with
        | true, .refused => (failAt d 0 .busError, s)
        | true, .poisoned => (failAt d 0 .integrity, s)
        | _, .data b => moveBlocks c n b d s
        | false, _ => moveBlocks c n [] d s
      settle (setChan s c { chan s c with active := some d }) c

/-- A data read got no answer. -/
def readFail (s : State) (c : Nat) (k : Status) : State :=
  let s := dropRead s (.data c)
  match (chan s c).active with
  | none => s
  | some d =>
    if d.asked = 0 ∨ d.held.isSome then s else settle (setChan s c { chan s c with active := some (failAt d 0 k) }) c

/-- The last write of the active descriptor is visible and it completes; the next one moves in (R138, R144). -/
def descComplete (s : State) (c : Nat) : State :=
  let x := chan s c
  match x.active with
  | none => settle s c
  | some d =>
    if d.fault.isNone && d.len ≤ d.done && d.asked == 0 then
      settle (dmaEnd (setChan s c { x with active := none }) c d) c
    else s

/-- Does a side still have host memory to reach: its space, a known element, or the list segment it needs next (R140)? -/
def sideHost (s : State) (d : Desc) (x : Side) : Bool :=
  x.sp == 0 || (needsSeg d x && viaHost s x.sp x.next) ||
  x.elems.any (fun e => (pieceList e.addr (min e.left (d.len - d.done))).any (fun p => viaHost s x.sp (65536 * p.1)))

/-- Does a descriptor still have host memory to reach, as far as its known elements tell (R140)? -/
def reachesHost (s : State) (d : Desc) : Bool :=
  decide (d.done < d.len) && ((d.op == 1 && sideHost s d d.src) || sideHost s d d.dst)

/-- Does a side wait for, or need next, a list segment that lies in host memory? -/
def segHost (s : State) (d : Desc) (x : Side) : Bool := needsSeg d x && viaHost s x.sp x.next

/-- A descriptor ends where the link is lost: at the list segment in host memory that it needs; else FSEG and FINFO name the list element
of the side that reaches the host there, else of the side that would have reached it later (R135, R136, R140). One that has not
started fails outside its elements. -/
def linkFault (s : State) (started : Bool) (d : Desc) : Desc :=
  let src := d.op == 1 && (headHost s d.src || (!headHost s d.dst && sideHost s d d.src))
  let d :=
    if d.op == 1 && segHost s d d.src then segFault d .linkAbsent d.src.segs (finfo 0 0 1)
    else if segHost s d d.dst then segFault d .linkAbsent d.dst.segs (finfo 0 1 1)
    else if started then failAt d (if src then 0 else 1) .linkAbsent
    else { d with fault := some (.linkAbsent, 0xFFFF, 0) }
  { d with wantSrc := false, wantDst := false, asked := 0, held := none }

/-- End the descriptors of a channel that need the host: the link is lost (R140). The active one ends now; a suspended or shadow one
ends in its turn (R144), the latter having moved nothing. -/
def chanLinkLoss (s : State) (c : Nat) : State :=
  let x := chan s c
  let lose (started : Bool) (d : Desc) : Desc := if d.fault.isNone && reachesHost s d then linkFault s started d else d
  let s := setChan s c { x with active := x.active.map (lose true), susp := x.susp.map (lose true), shadow := x.shadow.map (lose false) }
  settle s c

/-- The UCIe link is lost (R140). -/
def dmaLinkLoss (s : State) : State := s.dma.foldl (fun s e => chanLinkLoss s e.1) s

/-- Let every channel go on: after time has passed, or Bus Master Enable has changed. -/
def dmaPumpAll (s : State) : State := s.dma.foldl (fun s e => if (chan s e.1).active.isSome || (chan s e.1).shadow.isSome then settle s e.1 else s) s

/-- A channel gives up the reads it waits for. -/
def chanGiveUp (s : State) (c : Nat) : State :=
  [Rd.data c, .seg c false false, .seg c false true, .seg c true false, .seg c true true].foldl giveUpRead s

/-- A block reset of DMA (R150): active, suspended and shadow descriptors of each channel end with ABORTED, in that order. -/
def dmaBlockReset (s : State) : State :=
  let s := s.dma.foldl (fun s e =>
    let x := chan s e.1
    let stop (s : State) (d : Option Desc) : State := match d with | some d => dmaFinish s e.1 d .aborted 0xFFFF 0 | none => s
    let s := chanGiveUp (stop (stop (stop s x.active) x.susp) x.shadow) e.1
    showTarget s (8 + e.1) none false) s
  { resetRegs s 0x80000 0x90000 with dma := [] }

/-! ### The commands -/

/-- DMA_SEGMENT_READ_DONE (R135): the segment read of channel `c`, of its shadow or active set, of its source or destination
list. -/
def execDmaSegmentReadDone (c : Nat) (shadow dst : Bool) (res : RdRes) (s : State) : Result :=
  whenOn 0x08 s (fun s => onRead s (.seg c shadow dst) (fun s => segDone s c shadow dst res))

/-- DMA_READ_DONE (R143). -/
def execDmaReadDone (c : Nat) (res : RdRes) (s : State) : Result := 
  whenOn 0x08 s (fun s => onRead s (.data c) (fun s => readDone s c res))

/-- DMA_DESCRIPTOR_COMPLETE (R138). -/
def execDmaDescriptorComplete (c : Nat) (s : State) : Result := whenOn 0x08 s (fun s => descComplete s c)

end Sys2Proof.Machine
end

