-- ==== Sys2Proof/Machine/Sor.lean ====
section
/-! DEFINITION. The sorting office: choosing items and targets, pre-emption, host-core slots, load windows (R154 to R175). -/

namespace Sys2Proof.Machine

/-! ### Groups (R154 to R157) -/

/-- Group of a queue. -/
def groupOf (s : State) (q : Nat) : Nat := getF s (F.SOR_QBIND_GROUP q)

def grpClass (s : State) (g : Nat) : Nat := getF s (F.SOR_GRPCFG_CLASS g)

/-- The 64-bit mask of a group. -/
def grpMask (s : State) (g : Nat) : Nat := (s.word (R.SOR_GRPMLO g)).toNat + 2 ^ 32 * (s.word (R.SOR_GRPMHI g)).toNat

/-- First target id of a class, and how many it has. -/
def classBase (k : Nat) : Nat := if k = 0 then 0 else if k = 1 then 8 else 72
def classSize (k : Nat) : Nat := if k = 0 then 8 else 64

/-- Class of a target. -/
def targetClass (t : Nat) : Nat := if t < 8 then 0 else if t < 72 then 1 else 2

/-- Is a target in a group? -/
def inGroup (s : State) (g t : Nat) : Bool :=
  targetClass t == grpClass s g && (grpMask s g).testBit (t - classBase (targetClass t))

/-- Enabled and not faulted. -/
def targetLive (s : State) (t : Nat) : Bool := isSet s (F.SOR_TGTCFG_EN t) && !isSet s (F.SOR_TGTSTAT_FAULT t)

/-- Can the target accept one more item (R155)? A channel's shadow set accepts none from pre-emption until the suspended descriptor
has returned to the active set (R146 step 6; DEDUCED). DEDUCED (log entry 18). -/
def targetFree (s : State) (t : Nat) : Bool :=
  targetLive s t &&
  (if targetClass t = 1 then blkOn s 0x08 && isSet s (F.DMA_CHCFG_ENABLE (t - 8)) && (chan s (t - 8)).shadow.isNone &&
     (chan s (t - 8)).susp.isNone
   else if targetClass t = 0 then (trec s t).active.isNone && !coreStopped s t
   else (trec s t).normal.isNone)

/-! ### Choosing (R159, R161) -/

/-- May this item be dispatched: with SERIAL = 1, only when every earlier entry of its queue has completed (R159)? -/
def serialOk (s : State) (i : Item) : Bool :=
  !isSet s (F.SOR_QBIND_SERIAL i.q) || i.gen != (qrec s i.q).gen ||
  (match (qrec s i.q).handed.find? (fun h => !h.2.2) with | some h => h.1 == i.idx | none => true)

/-- Is no earlier entry of the item's queue still ready (R159: entries are handed out in index order)? Entries from before the queue was
enabled again are earlier. -/
def firstReady (s : State) (i : Item) : Bool :=
  s.sor.ready.all (fun j => j.q != i.q || decide (i.gen < j.gen) || (i.gen == j.gen && !mafter 16 i.idx j.idx))

/-- Does item `a` go before item `b`: higher priority, then ready first, then the lower queue id (R161)? -/
def itemBefore (a b : Item) : Bool :=
  if a.prio ≠ b.prio then a.prio < b.prio
  else if a.ready ≠ b.ready then a.ready < b.ready
  else a.q < b.q

/-- The first of the items in the order of R161 for which `p` holds. -/
def bestItem (s : State) (p : Item → Bool) : Option Item :=
  (s.sor.ready.filter (fun i => firstReady s i && serialOk s i && p i)).foldl (fun (b : Option Item) i =>
    match b with
    | none => some i
    | some j => if itemBefore i j then some i else some j) none

/-- The first free target of a group after the one it chose last, in ascending index order, wrapping. -/
def chooseTarget (s : State) (g : Nat) : Option Nat :=
  let k := grpClass s g
  let n := classSize k
  let start := match s.sor.last.find? (fun e => e.1 == g) with | some e => e.2 + 1 | none => 0
  ((List.range n).map (fun i => classBase k + (start + i) % n)).find? (fun t => inGroup s g t && targetFree s t)

/-- The group forgets the target it chose last: a write to its registers (R161). -/
def forgetLast (s : State) (g : Nat) : State :=
  { s with sor := { s.sor with last := s.sor.last.filter (fun e => e.1 != g) } }

/-- Take an item out of the ready list. -/
def takeReady (s : State) (i : Item) : State := { s with sor := { s.sor with ready := s.sor.ready.erase i } }

/-! ### Handing over (R161, R164, R602) -/

/-- Service-core opcodes that a block defines (R602 and the chapters of the blocks). -/
def coreOpcodes : List Nat :=
  [0x20, 0x21, 0x22, 0x23, 0x30, 0x31, 0x32, 0x38, 0x39, 0x40, 0x48, 0x50, 0x58, 0x59, 0x5A, 0x5B, 0x5C, 0x5D,
   0x60, 0x61, 0x62, 0x63, 0x64, 0x65]

/-- Base of a host core's slots (R172); its registers are numbered by host core. -/
def slotBase (s : State) (t : Nat) : Nat :=
  (s.word (R.SOR_TGTSLOTLO (t - 72))).toNat / 128 * 128 + 2 ^ 32 * (s.word (R.SOR_TGTSLOTHI (t - 72))).toNat

/-- Write an item into a host core's slot, then OWNWORD, then send the vector (R164). -/
def writeSlot (s : State) (t : Nat) (urgent : Bool) (i : Item) : State :=
  let a := slotBase s t + 64 * b2n urgent
  let s := upstream s (.write a (fit 56 i.entry ++ leBytes 2 i.idx ++ [0#8, byte i.prio]))
  let s := upstream s (.write (a + 60) (leBytes 4 (1 + 2 ^ 16 * i.q)))
  sendVec s (if urgent then getF s (F.SOR_TGTCFG_UVEC t) else getF s (F.SOR_TGTCFG_VEC t))

/-- Refuse an entry whose opcode no block defines (R602); CMP's operations name no book entry (R226). Its completion words are 0.
DESIGN CHOICE (log entry 153). -/
def refuseOpcode (s : State) (i : Item) : State :=
  complete40 s i (if 0x33 ≤ opcode i ∧ opcode i ≤ 0x37 then [0xFF#8, 0xFF#8] else []) .illegalValue

/-- A host core whose NORMAL slot is free receives the first item kept for it, unless it is disabled or in FAULT (R155, R166). -/
def slotNext (s : State) (t : Nat) : State :=
  let r := trec s t
  match r.normal, r.next with
  | none, i :: l =>
    if targetLive s t then showCore (writeSlot (setTrec s t { r with normal := some i, next := l }) t false i) t else s
  | _, _ => s

/-- Refuse an entry for a host core that has a reserved trailer bit (R116). -/
def refuseTrailer (s : State) (i : Item) : State := complete s i [] .illegalValue true

/-- Hand an item to a target as ordinary work; a target that holds another keeps it for later (R162). -/
def handTo (s : State) (t : Nat) (i : Item) : State :=
  let r := trec s t
  if targetClass t = 1 then dmaHand (dmaReturn s (t - 8)) (t - 8) i
  else if targetClass t = 0 then
    if !coreOpcodes.contains (opcode i) then refuseOpcode s i
    else if r.active.isNone then showCore (setTrec s t { r with normal := some i }) t
    else setTrec s t { r with next := r.next ++ [i] }
  else if trailerBad i.entry then refuseTrailer s i
  else slotNext (setTrec s t { r with next := r.next ++ [i] }) t

/-- A free target and a ready item meet (R161). -/
def dispatch (s : State) : State :=
  match bestItem s (fun i => (chooseTarget s (groupOf s i.q)).isSome) with
  | none => s
  | some i =>
    let g := groupOf s i.q
    match chooseTarget s g with
    | none => s
    | some t =>
      let s := forgetLast (takeReady s i) g
      let s := { s with sor := { s.sor with last := (g, t - classBase (targetClass t)) :: s.sor.last } }
      kickAll (handTo s t i)

/-! ### Pre-emption (R162, R163) -/

/-- Does a target still qualify as an item reaches it: an active item of lower priority, no suspended item (for a DMA channel, none
about to be displaced), and a host core's URGENT slot released (R162, R163)? -/
def givesWay (s : State) (i : Item) (t : Nat) : Bool :=
  isSet s (F.SOR_TGTSTAT_BUSY t) && i.prio < getF s (F.SOR_TGTSTAT_PRIO t) && !isSet s (F.SOR_TGTSTAT_SUSP t) &&
  (targetClass t != 2 || (trec s t).urgent.isNone) &&
  (targetClass t != 1 || !(chan s (t - 8)).yielding)

/-- May a target receive an item: enabled and not in FAULT, and a DMA channel enabled in DMA too (R166, R170)? -/
def receives (s : State) (t : Nat) : Bool :=
  targetLive s t && (targetClass t != 1 || isSet s (F.DMA_CHCFG_ENABLE (t - 8)))

/-- Does a target qualify to be pre-empted by an item? -/
def qualifies (s : State) (i : Item) (t : Nat) : Bool :=
  receives s t && inGroup s (groupOf s i.q) t && isSet s (F.SOR_TGTCFG_PREEMPT t) && givesWay s i t

/-- The active item of a target. -/
def activeItem (s : State) (t : Nat) : Option Item :=
  if targetClass t = 1 then (chan s (t - 8)).active.map Desc.item else (trec s t).active

/-- Is target `a` a better choice than `b`: lower priority of the active item, then the one ready last, then lower index? -/
def victimBefore (s : State) (a b : Nat) : Bool :=
  match activeItem s a, activeItem s b with
  | some x, some y =>
    if x.prio ≠ y.prio then y.prio < x.prio
    else if x.ready ≠ y.ready then y.ready < x.ready
    else a < b
  | _, _ => false

/-- The target an item pre-empts, if any qualifies. -/
def chooseVictim (s : State) (i : Item) : Option Nat :=
  ((List.range 136).filter (qualifies s i)).foldl (fun (b : Option Nat) t =>
    match b with
    | none => some t
    | some u => if victimBefore s t u then some t else some u) none

/-- Pre-empt a target (R163). -/
def preemptTarget (s : State) (t : Nat) (i : Item) : State :=
  let s := incMod s F.SOR_GSTAT_PREEMPTS
  let r := trec s t
  if targetClass t = 1 then dmaPreempt s (t - 8) i
  else if targetClass t = 0 then
    if !coreOpcodes.contains (opcode i) then refuseOpcode s i
    else showCore (setTrec s t { r with urgent := some i, susp := true }) t
  else if trailerBad i.entry then refuseTrailer s i
  else showCore (writeSlot (setTrec s t { r with urgent := some i, susp := r.normal.isSome }) t true i) t

/-- The oldest item on its way to a target that may receive it. -/
def arriving (s : State) : Option (Nat × Item) := s.sor.picked.find? (fun e => receives s e.1)

/-- An item on its way reaches the target chosen for it: the target acts on its state at that instant (R162). A target that may
receive nothing by then leaves it on its way, while other items go theirs. DESIGN CHOICE (log entry 132). -/
def arrive (s : State) : State :=
  match arriving s with
  | some (t, i) =>
    let s := { s with sor := { s.sor with picked := s.sor.picked.erase (t, i) } }
    kickAll (if givesWay s i t then preemptTarget s t i else handTo s t i)
  | none => s

/-- A ready item that finds no free target takes a target to pre-empt, and is on its way to it (R162). -/
def pickVictim (s : State) : State :=
  match bestItem s (fun i => (chooseTarget s (groupOf s i.q)).isNone && (chooseVictim s i).isSome) with
  | some i =>
    match chooseVictim s i with
    | some t => let s := takeReady s i; { s with sor := { s.sor with picked := s.sor.picked ++ [(t, i)] } }
    | none => s
  | none => s

/-- SOR_PREEMPT: the choice and the hand-over, up to 16 CORE cycles apart. An item that an earlier one chose with `later` is handed
over now; with `later`, an item chosen now is handed over by the next. -/
def sorPreempt (s : State) (later : Bool) : State :=
  if (arriving s).isSome then arrive s
  else if later then pickVictim s
  else arrive (pickVictim s)

/-! ### Host-core slots (R165, R166) -/

/-- Read every slot with OWN = 1 that has no read outstanding or waiting (R165). -/
def pollSlots (s : State) : State :=
  (List.range 64).foldl (fun s k =>
    let t := 72 + k
    let ask (s : State) (urgent : Bool) (i : Option Item) : State :=
      if i.isSome && !readOut s (.slot t urgent) && !readWaits s (.slot t urgent) then
        upstream s (.read (.slot t urgent) (slotBase s t + 64 * b2n urgent) 64)
      else s
    ask (ask s false (trec s t).normal) true (trec s t).urgent) s

/-- The item in a slot. -/
def slotItem (s : State) (t : Nat) (urgent : Bool) : Option Item := if urgent then (trec s t).urgent else (trec s t).normal

/-- A slot is released: it is empty, and an item kept for the target takes the NORMAL slot. -/
def slotRelease (s : State) (t : Nat) (urgent : Bool) : State :=
  let r := trec s t
  let r := if urgent then { r with urgent := none } else { r with normal := none, susp := false }
  slotNext (showCore (setTrec s t r) t) t

/-- A slot read returned (R165). -/
def slotDone (s : State) (t : Nat) (urgent : Bool) (b : Bytes) : State :=
  let s := dropRead s (.slot t urgent)
  match slotItem s t urgent with
  | none => s
  | some i =>
    if (byteAt b 60).testBit 0 then s
    else
      let st := byteAt b 58
      slotRelease (completeItem s i [(40, slice b 40 16)] st (st != 0)) t urgent

/-- A target goes to FAULT with a code. -/
def faultTarget (s : State) (t : Nat) (c : Status) : State :=
  setF (setF s (F.SOR_TGTSTAT_FAULT t) 1) (F.SOR_TGTSTAT_FCODE t) c.code

/-- A slot read failed (R166): the item becomes a dead letter and the target goes to FAULT. -/
def slotFail (s : State) (t : Nat) (urgent : Bool) (c : Status) : State :=
  let s := dropRead s (.slot t urgent)
  match slotItem s t urgent with
  | none => s
  | some i =>
    let r := trec s t
    let r := if urgent then { r with urgent := none } else { r with normal := none, susp := false }
    faultTarget (showCore (setTrec (complete s i [] c true) t r) t) t c

/-- The link is lost: every host core target goes to FAULT and its items end with LINK_ABSENT (R166). -/
def sorLinkLoss (s : State) : State :=
  (List.range 64).foldl (fun s k =>
    let t := 72 + k
    let r := trec s t
    let items := r.normal.toList ++ r.urgent.toList ++ r.next
    let s := items.foldl (fun s i => complete s i [] .linkAbsent true) s
    let s := dropRead (dropRead s (.slot t false)) (.slot t true)
    let s := if items.isEmpty then s else showCore (setTrec s t { trec s t with normal := none, urgent := none, susp := false, next := [] }) t
    faultTarget s t .linkAbsent) s

/-! ### Pulses and load windows (R165, R168, R174) -/

/-- Busy ns of a target inside the window [w, e) (R174). -/
def busyIn (s : State) (t w e : Nat) : Nat :=
  let r := trec s t
  ((r.spans ++ (r.busyFrom.map (fun f => (f, extNs s))).toList).map (fun p => min p.2 e - max p.1 w)).sum

/-- The load window ends at the pulse at `e`, an extended time, and the next one starts there: what is busy from `e` on stays for it
(R174, R363, R364). Before the first pulse there is no window. Lengths are differences of the extended time. DESIGN CHOICE
(log entry 113). -/
def windowCut (s : State) (e : Nat) : State :=
  let done := match s.sor.winFrom with
    | some w => [(e - w, (List.range 136).map (fun t => busyIn s t w e))]
    | none => []
  let s := { s with sor := { s.sor with winFrom := some e, winDone := s.sor.winDone ++ done } }
  s.sor.targets.foldl (fun s x => setTrec s x.1 { trec s x.1 with spans := (trec s x.1).spans.filter (fun p => e < p.2) }) s

/-- A pulse of generator `g` at `at0`, an extended time, reaches the sorting office (R168, R379): it ends the load window, and the slot
reads that it triggers are due. DESIGN CHOICE (log entry 133). -/
def sorPulse (s : State) (g at0 : Nat) : State :=
  if blkOn s 0x09 then
    let win := isSet s F.SOR_CFG_WINEN && getF s F.SOR_CFG_WINGEN == g
    let poll := isSet s F.SOR_CFG_POLLEN && getF s F.SOR_CFG_POLLGEN == g
    let s := { s with sor := { s.sor with pollDue := s.sor.pollDue || poll, winPollDue := s.sor.winPollDue || win } }
    if win then windowCut s at0 else s
  else s

/-- Slot reads at a pulse of POLLGEN, or of WINGEN (R165). -/
def slotPoll (s : State) (win : Bool) : State :=
  if win then
    if s.sor.winPollDue then pollSlots { s with sor := { s.sor with winPollDue := false } } else s
  else if s.sor.pollDue then pollSlots { s with sor := { s.sor with pollDue := false } } else s

/-- SOR_TGTLOAD and SOR_WINNS take a load window that has ended, the oldest first (R174). -/
def windowEnd (s : State) : State :=
  match s.sor.winDone with
  | [] => s
  | (n, busy) :: l =>
    let s := { s with sor := { s.sor with winDone := l } }
    let s := (List.range 136).foldl (fun s t =>
      setF s (F.SOR_TGTLOAD_LOAD t) (if n = 0 then 0 else min 0xFFFF (busy.getD t 0 * 65536 / n))) s
    s.setWord R.SOR_WINNS (BitVec.ofNat 32 (min n (2 ^ 32 - 1)))

/-! ### Block reset (R175) -/

/-- Held items and items in host-core slots complete with ABORTED; every queue that is not DISABLED enters ERROR. Items in
service cores and DMA channels run on. -/
def sorBlockReset (s : State) : State :=
  let slots := s.sor.targets.flatMap (fun e => if targetClass e.1 = 2 then e.2.normal.toList ++ e.2.urgent.toList ++ e.2.next else [])
  let s := (heldItems s ++ slots).foldl (fun s i => complete s i [] .aborted true) s
  let keep := s.sor.targets.filter (fun e => targetClass e.1 != 2)
  let s := (List.range 64).foldl (fun s k => giveUpRead (giveUpRead s (.slot (72 + k) false)) (.slot (72 + k) true)) s
  let s := resetRegs s 0x90000 0xA0000
  let s := { s with sor := { State.reset.sor with targets := keep } }
  let s := keep.foldl (fun s e => if targetClass e.1 = 0 then showCore s e.1 else s) s
  let s := s.dma.foldl (fun s e => dmaShow s e.1) s
  (List.range 4096).foldl (fun s q => if qState s q = qDisabled then s else queueError s q .aborted) s

/-! ### The commands -/

/-- SOR_DISPATCH (R161). -/
def execSorDispatch (s : State) : Result := whenOn 0x09 s dispatch

/-- SOR_PREEMPT (R162). -/
def execSorPreempt (later : Bool) (s : State) : Result := whenOn 0x09 s (fun s => sorPreempt s later)

/-- SLOT_POLL (R165): the slot reads of a pulse of POLLGEN, or of WINGEN, that has fired. -/
def execSlotPoll (dt : Nat) (win : Bool) (s : State) : Result := whenOn 0x09 (advance dt s) (fun s => slotPoll s win)

/-- SLOT_READ_DONE (R165). -/
def execSlotReadDone (t : Nat) (urgent : Bool) (b : Bytes) (s : State) : Result :=
  whenOn 0x09 s (fun s => onRead s (.slot t urgent) (fun s => slotDone s t urgent b))

/-- SLOT_READ_FAIL (R166): refused or poisoned. A read that got no completion fails by HOST_READ_TIMEOUT. -/
def execSlotReadFail (t : Nat) (urgent : Bool) (s : State) : Result :=
  whenOn 0x09 s (fun s => onRead s (.slot t urgent) (fun s => slotFail s t urgent .busError))

/-- LOAD_WINDOW_END (R174). -/
def execLoadWindowEnd (dt : Nat) (s : State) : Result := whenOn 0x09 (advance dt s) windowEnd

end Sys2Proof.Machine
end

