-- ==== Sys2Proof/Machine/Drc.lean ====
section
/-! DEFINITION. DRC: requests and their deadlines, in-line ECC, refresh, self-refresh, set-points (R481 to R502). -/

namespace Sys2Proof.Machine

/-! ### Channels and capacity (R481, R482) -/

/-- Is channel `c` enabled and trained? -/
def chanOn (s : State) (c : Nat) : Bool := fbit s F.DRC_CFG_ENMASK c

/-- Enabled channels. -/
def drcChannels (s : State) : List Nat := (List.range 8).filter (chanOn s)

/-- Usable blocks. -/
def drcBlocks (s : State) : Nat := 1024 * getF s F.DRC_CAP_PAGES

/-- Channel a usable block lies in (R482). -/
def blockChan (s : State) (b : Nat) : Nat := b % max 1 (drcChannels s).length

/-- Byte place of a usable block on its channel, and of its parity (R482). -/
def blockPlace (s : State) (b : Nat) : Nat × Nat :=
  let b2 := b / max 1 (drcChannels s).length
  (b2 / 7 * 512 + b2 % 7 * 64, b2 / 7 * 512 + 448 + b2 % 7 * 8)

/-- States of a channel (R502). -/
def chActive : Nat := 2
def chSelfRef : Nat := 3
def chFailed : Nat := 4

def chState (s : State) (c : Nat) : Nat := getF s (F.DRC_CHSTAT_STATE c)

/-! ### Requests (R490, R491, R493) -/

/-- Class of a request (R490): fixed by the port, but for DMA, where it is that of channel `x` as its descriptor took it (R150), and
for table walks, where it is `x`, the class of the access that missed. -/
def portClass (s : State) (port x : Nat) : Nat :=
  if port = 0 ∨ port = 2 then 0
  else if port = 1 ∨ port = 3 ∨ port = 4 then 1
  else if port = 7 then 2
  else if port = 5 then (chan s x).cls
  else x % 4

/-- Latency target of a class now, ns (R491). -/
def classTarget (s : State) (cls : Nat) : Nat :=
  if cls = 0 then getF s F.DRC_QTGT01_TGT0 else if cls = 1 then getF s F.DRC_QTGT01_TGT1
  else if cls = 2 then getF s F.DRC_QTGT23_TGT2 else getF s F.DRC_QTGT23_TGT3

/-- Urgency of a request at time `t` (R491, R496). -/
def urgency (r : DReq) (t : Nat) : Nat :=
  let age := t - r.arrive
  let target := r.deadline - r.arrive
  if r.urg3 ∨ 90 * target ≤ 100 * age then 3
  else if 75 * target ≤ 100 * age then 2
  else if 50 * target ≤ 100 * age then 1
  else 0

/-- Requests pending on a channel. -/
def chReqs (s : State) (c : Nat) : List DReq := s.drc.reqs.filter (fun r => blockChan s r.block == c)

/-- Is a request of class 0 or 1 pending on a channel? -/
def realTime (s : State) (c : Nat) : Bool := (chReqs s c).any (fun r => r.cls < 2)

/-- Is a request of urgency 2 or more pending on a channel (R492)? -/
def urgentReq (s : State) (c : Nat) : Bool := (chReqs s c).any (fun r => 2 ≤ urgency r (upNs s))

/-- Is a write to a block pending? -/
def writePending (s : State) (b : Nat) : Bool := s.drc.reqs.any (fun r => r.wr && r.block == b)

/-- Must requests to a channel wait at their ports: self-refresh, or a change with FORCE (R497, R498)? -/
def portsHeld (s : State) (c : Nat) : Bool :=
  chState s c == chSelfRef || (match s.drc.chg with | some g => g.force | none => false)

/-- Take a request into the queue; a read behind a pending write to its block waits for it (R493), that of a read-modify-write too. -/
def enqueue (s : State) (r : DReq) : State :=
  let hz := (!r.wr || r.part.isSome) && writePending s r.block
  let s := if hz then incSat s F.DRC_HAZSTAT_RAW else s
  { s with drc := { s.drc with reqs := s.drc.reqs ++ [{ r with hazard := hz }] } }

/-- A request reaches DRC. Beyond the end of the usable space it completes with RANGE at its master (R482).
DESIGN CHOICE (log entry 30). -/
def drcRequest (s : State) (port cls : Nat) (wr : Bool) (block : Nat) (data : Bytes) (part : Option (Nat × List (Nat × Nat)) := none) :
    State :=
  if drcBlocks s ≤ block then emit s (.answer port block .range [])
  else
    let k := portClass s port cls
    let r : DReq := ⟨port, k, wr, block, data, upNs s, upNs s + classTarget s k, false, false, false, part⟩
    if portsHeld s (blockChan s block) then { s with drc := { s.drc with heldReqs := s.drc.heldReqs ++ [r] } }
    else enqueue s r

/-! ### Completion of requests (R491, R495, R496) -/

/-- Miss counter of a class. -/
def missCounter (cls : Nat) : Fld :=
  if cls = 0 then F.DRC_QMISS_MISS0 else if cls = 1 then F.DRC_QMISS_MISS1
  else if cls = 2 then F.DRC_QMISS_MISS2 else F.DRC_QMISS_MISS3

/-- OWED of a rank, signed. -/
def owed (s : State) (c rank : Nat) : Int :=
  if rank = 0 then signed 5 (getF s (F.DRC_CHSTAT_OWED c)) else s.drc.owed1.getD c 0

def setOwed (s : State) (c rank : Nat) (v : Int) : State :=
  if rank = 0 then setF s (F.DRC_CHSTAT_OWED c) (unsign 5 v)
  else { s with drc := { s.drc with owed1 := (List.range 8).map (fun i => if i = c then v else s.drc.owed1.getD i 0) } }

/-- A list of instants with entry `k` replaced. -/
def setAt (l : List Nat) (n k t : Nat) : List Nat := (List.range n).map (fun i => if i = k then t else l.getD i 0)

/-- Owed refreshes are issued while no class 0 or 1 request, and none of urgency 2 or more, is pending (R492, R495). -/
def catchUp (s : State) (c : Nat) : State :=
  let rank (s : State) (k : Nat) : State := if 0 < owed s c k ∧ !realTime s c ∧ !urgentReq s c then setOwed s c k 0 else s
  rank (rank s 0) 1

/-- A request completes: a miss is counted, and yields when a forced refresh delayed it (R491, R496). -/
def drcComplete (s : State) (r : DReq) : State :=
  let s := { s with drc := { s.drc with
    reqs := s.drc.reqs.erase r, quietAt := setAt s.drc.quietAt 8 (blockChan s r.block) (upNs s) } }
  let s :=
    if r.deadline < upNs s then
      let s := incSat s (missCounter r.cls)
      if r.forced ∧ r.cls < 2 then yield s 2 4 0x13 .late (currentFrame s) else s
    else s
  catchUp s (blockChan s r.block)

/-- A block and its parity go to the device (R482, R484). -/
def deviceWrite (s : State) (b : Nat) (d : Bytes) : State :=
  let p := blockPlace s b
  emitAll (dramWr s (64 * b) d) [.device (blockChan s b) p.1 d, .device (blockChan s b) p.2 (dramParity d)]

/-! ### ECC (R484, R485) -/

/-- A stored codeword as 36 symbols. -/
def codeword (s : State) (b : Nat) : List Nat :=
  let d := dramRd s (64 * b) 64
  dramSymbols d ++ dramSymbols (dramParity d)

/-- The codeword as it arrives, with symbols wrong by the given patterns: (symbol, value XORed in). -/
def withErrors (w : List Nat) (err : List (Nat × Nat)) : List Nat :=
  (List.range 36).map (fun i => err.foldl (fun v e => if e.1 = i then v ^^^ e.2 % 65536 else v) (w.getD i 0))

/-- Read a block through the ECC: the corrected content, or none. A correction is counted and written back unless a newer write
to the block is pending (R485). -/
def eccRead (s : State) (b : Nat) (err : List (Nat × Nat)) : Option Bytes × State :=
  if s.drc.poison.contains b then (none, uncorrectable s b)
  else
    match gfDram.rsDecode 0 4 (withErrors (codeword s b) err) with
    | none => (none, uncorrectable s b)
    | some (w, n) =>
      let d := (w.take 32).flatMap (leBytes 2)
      if n = 0 then (some d, s)
      else
        let s := incSat s F.DRC_ECCSTAT_CE
        (some d, if writePending s b then s else deviceWrite s b d)

/-- A write of part of a block (R483): the block is read, corrected, merged and written; an uncorrectable block keeps its content and
the master receives INTEGRITY. -/
def mergeWrite (s : State) (r : DReq) (off : Nat) (err : List (Nat × Nat)) : State :=
  let s := incSat s F.DRC_HAZSTAT_RMW
  match eccRead s r.block err with
  | (none, s) => emit s (.answer r.port r.block .integrity [])
  | (some d, s) => deviceWrite s r.block (patch d off r.data)

/-- Issue a pending write to the device. -/
def issueWrite (s : State) (r : DReq) : State :=
  drcComplete (match r.part with | some (off, err) => mergeWrite s r off err | none => deviceWrite s r.block (fit 64 r.data)) r

/-- Issue every pending write to a block, oldest first. -/
def issueWrites (s : State) (b : Nat) : State :=
  (s.drc.reqs.filter (fun r => r.wr && r.block == b)).foldl issueWrite s

/-- The step of R492 at which a request is issued, 0 for the real-time classes. -/
def DReq.step (r : DReq) : Nat := if r.cls < 2 then 0 else 1

/-- Does request `q` come before `r` in the order of R492: class, deadline, port? -/
def reqBefore (q r : DReq) : Bool :=
  decide (q.cls < r.cls) || (q.cls == r.cls && (decide (q.deadline < r.deadline) || (q.deadline == r.deadline && decide (q.port < r.port))))

/-- The rank that a usable block lies on: the spec does not place the ranks of a two-rank channel. DESIGN CHOICE (log entry 142). -/
def blockRank (s : State) (b : Nat) : Nat := if isSet s (F.DRC_CHSTAT_RANKS (blockChan s b)) then Config.blockRank b % 2 else 0

/-- Must request `q` be issued before `r` on their rank: it was there when `r` came and may be issued, and it is of an earlier
step, or ahead in the same step and no longer of urgency 0, which alone lets a younger row hit pass (R27, R492)?
DESIGN CHOICE (log entry 142). -/
def reqAhead (s : State) (q r : DReq) : Bool :=
  blockChan s q.block == blockChan s r.block && blockRank s q.block == blockRank s r.block && decide (q.arrive ≤ r.arrive) &&
    q != r && !q.hazard &&
    (decide (q.step < r.step) || (q.step == r.step && reqBefore q r && decide (0 < urgency q r.arrive)))

/-- May a pending request be issued now? -/
def mayIssue (s : State) (r : DReq) : Bool := !s.drc.reqs.any (fun q => reqAhead s q r)

/-- A request in its place in the order of R492; one that is equal goes behind. -/
def insertReq (r : DReq) : List DReq → List DReq
  | [] => [r]
  | q :: l => if reqBefore r q then r :: q :: l else q :: insertReq r l

/-- The pending writes in the order of R492. -/
def writesInOrder (s : State) : List DReq := (s.drc.reqs.filter DReq.wr).foldl (fun l r => insertReq r l) []

/-- Issue every pending write, in that order. -/
def issueAllWrites (s : State) : State := (writesInOrder s).foldl issueWrite s

/-- Issue the pending writes that may be issued, in that order. -/
def issueFreeWrites (s : State) : State := (writesInOrder s).foldl (fun s r => if mayIssue s r then issueWrite s r else s) s

/-- The oldest read of a port for a block returns (R485, R493): a write it waits for has been issued first, and its master receives the
data, or INTEGRITY. A read that a request ahead of it still keeps from being issued (R492) cannot return yet. -/
def readReturn (s : State) (port block : Nat) (err : List (Nat × Nat)) : State :=
  match s.drc.reqs.find? (fun r => !r.wr && r.port == port && r.block == block) with
  | none => s
  | some r =>
    if !mayIssue s r then s
    else
      let s := if r.hazard then issueWrites s block else s
      let (d, s) := eccRead s block err
      drcComplete (emit s (match d with | some b => .answer port block .ok b | none => .answer port block .integrity [])) r

/-- A write of part of a block arrives (R483), and is issued with the writes to its block that came before it unless a request goes
ahead of it (R492). -/
def partialWrite (s : State) (port block off : Nat) (b : Bytes) (err : List (Nat × Nat)) : State :=
  let s := drcRequest s port 0 true block b (some (off, err))
  if (s.drc.reqs.filter (fun r => r.wr && r.block == block)).all (mayIssue s) then issueWrites s block else s

/-- May the patrol read on: a round of all blocks begins SCRUBH hours after the round before (R486)?
DESIGN CHOICE (log entry 147). -/
def patrolDue (s : State) : Bool :=
  s.drc.patrol % drcBlocks s != 0 ||
  (match s.drc.patrolAt with | some t => decide (t + 3600000000000 * getF s F.DRC_REFCFG_SCRUBH ≤ upNs s) | none => true)

/-- The patrol read of a block is made and completes; past its deadline it is a miss of class 3 (R486, R491). -/
def patrolRead (s : State) (b due : Nat) (err : List (Nat × Nat)) : State :=
  let s := (eccRead s b err).2
  if due < upNs s then incSat s F.DRC_QMISS_MISS3 else s

/-- The patrol asks at class 3 for the next block (R486); one with a write pending is skipped for this round. The read is made when the
channel is in use and no other request waits on it (R492 step 6, R497); until then it waits. -/
def patrolStep (s : State) (err : List (Nat × Nat)) : State :=
  if getF s F.DRC_REFCFG_SCRUBH = 0 ∨ drcBlocks s = 0 ∨ !patrolDue s then s
  else
    let b := s.drc.patrol % drcBlocks s
    let next (s : State) : State := { s with drc := { s.drc with patrol := (b + 1) % drcBlocks s, patrolReq := none } }
    let due := s.drc.patrolReq.getD (upNs s + classTarget s 3)
    let s := if b = 0 ∧ s.drc.patrolReq = none then { s with drc := { s.drc with patrolAt := some (upNs s) } } else s
    if writePending s b then next s
    else if chState s (blockChan s b) = chActive ∧ (chReqs s (blockChan s b)).isEmpty then next (patrolRead s b due err)
    else { s with drc := { s.drc with patrolReq := some due } }

/-! ### Refresh (R494 to R496) -/

/-- Band factor of tREFI in quarters (R494). -/
def bandFactor (band : Nat) : Nat := if band ≤ 2 then 4 else if band = 3 then 2 else 1

/-- The refresh interval in ns (R494). -/
def trefi (s : State) : Nat := 3906 * min s.drc.mr4 (bandFactor (getF s F.DRC_CFG_BAND)) / 4

/-- DRC follows the THM band (R494). -/
def drcBand (s : State) (band : Nat) : State :=
  setF (setF s F.DRC_CFG_BAND band) F.DRC_CFG_TSET (if band ≤ 2 then 0 else 1)

/-- Has channel `c` this rank? -/
def hasRank (s : State) (c rank : Nat) : Bool := rank == 0 || (rank == 1 && isSet s (F.DRC_CHSTAT_RANKS c))

/-- When the next refresh of a rank falls due: a change of band or of MR4 leaves it and applies after it (R494). -/
def refAt (s : State) (c rank : Nat) : Nat := s.drc.refAt.getD (2 * c + rank) 0

def setRefAt (s : State) (c rank t : Nat) : State :=
  { s with drc := { s.drc with refAt := setAt s.drc.refAt 16 (2 * c + rank) t } }

/-- What a due refresh does: forced at OWED = 8, else owed (R495, R496). -/
def refreshOwed (s : State) (c rank : Nat) : State :=
  if owed s c rank = 8 then
    let s := incSat s F.DRC_REFSTAT_FORCED
    { s with drc := { s.drc with reqs := s.drc.reqs.map (fun r =>
        if blockChan s r.block = c then { r with urg3 := true, forced := true } else r) } }
  else catchUp (setOwed s c rank (owed s c rank + 1)) c

/-- A refresh falls due on a rank, every tREFI (R494): forced at OWED = 8, else owed, and issued when nothing forbids it (R495, R496).
DESIGN CHOICE (log entry 147). -/
def refreshDue (s : State) (c rank : Nat) : State :=
  if chState s c ≠ chActive ∨ !hasRank s c rank ∨ upNs s < refAt s c rank then s
  else
    let s := setRefAt s c rank (refAt s c rank + trefi s)
    refreshOwed s c rank

/-- A rank idle for IDLE × 10 ns pulls refreshes in until OWED is -8 (R495); whether it is idle is told by its channel.
DESIGN CHOICE (log entry 147). -/
def pullIn (s : State) (c rank : Nat) : State :=
  let o := owed s c rank
  if chState s c = chActive ∧ isSet s F.DRC_REFCFG_PULLIN ∧ hasRank s c rank ∧ (chReqs s c).isEmpty ∧ o ≤ 0 ∧
      s.drc.quietAt.getD c 0 + 10 * getF s F.DRC_REFCFG_IDLE ≤ upNs s then
    setOwed (incSat s F.DRC_REFSTAT_PULLED (o + 8).toNat) c rank (-8)
  else s

/-! ### Self-refresh and set-points (R497, R498) -/

/-- Requests held at their ports for a channel arrive. -/
def releasePorts (s : State) (c : Nat) : State :=
  let go := s.drc.heldReqs.filter (fun r => blockChan s r.block == c)
  let s := { s with drc := { s.drc with heldReqs := s.drc.heldReqs.filter (fun r => blockChan s r.block != c) } }
  go.foldl enqueue s

/-- A channel comes into use, or out of self-refresh: its times start. -/
def chanStart (s : State) (c : Nat) : State :=
  let next := upNs s + trefi s
  let s := setRefAt (setRefAt s c 0 next) c 1 next
  { s with drc := { s.drc with quietAt := setAt s.drc.quietAt 8 c (upNs s) } }

/-- A channel leaves self-refresh, if it is in it: OWED is 0, and the held requests arrive. -/
def leaveSelfRef (s : State) (c : Nat) : State :=
  let s := if chState s c = chSelfRef then
      chanStart (setOwed (setOwed (setF s (F.DRC_CHSTAT_STATE c) chActive) c 0 0) c 1 0) c
    else s
  releasePorts s c

/-- An idle channel issues its owed refreshes and enters self-refresh; pending requests keep it ACTIVE (R497). -/
def selfRefEntry (s : State) (c : Nat) : State :=
  if chState s c = chActive ∧ (chReqs s c).isEmpty then
    let s := { s with drc := { s.drc with chg := s.drc.chg.map (fun g => { g with entered := upNs s }) } }
    setF (setOwed (setOwed s c 0 (min 0 (owed s c 0))) c 1 (min 0 (owed s c 1))) (F.DRC_CHSTAT_STATE c) chSelfRef
  else s

/-- End a set-point change with a code (R498, R500). -/
def freqEnd (s : State) (at0 : Nat) (c : Status) : State :=
  let s := setF (setF (setF s F.DRC_FREQ_BUSY 0) F.DRC_FREQ_CODE c.code) F.DRC_FREQ_LASTUS (min 0xFFFF ((upNs s - at0) / 1000))
  (drcChannels s).foldl leaveSelfRef { s with drc := { s.drc with chg := none } }

/-- How long a change takes from the self-refresh command: the PLL locks, the timing set is loaded, the channels retrack (R498). -/
def fspNs : Nat := 12500

/-- Self-refresh exit. During a change every channel leaves together, at the new set-point and retracked for it, once all have
entered and the change has taken its time (R498, R530). -/
def selfRefExit (s : State) (c : Nat) : State :=
  match s.drc.chg with
  | none => if chState s c = chSelfRef then leaveSelfRef s c else s
  | some g =>
    if (drcChannels s).all (fun c => chState s c == chSelfRef) ∧ g.entered + fspNs ≤ upNs s then
      let s := setF s F.DRC_CFG_FSP g.fsp
      let s := (drcChannels s).foldl (fun s c => incMod (retrackChan s c) (F.CAL_DCNT_RETRAIN c)) s
      freqEnd s g.at0 .ok
    else s

/-- GO (R498): the set-point in force completes at once, and so, at the new one, does a change of no channel. DESIGN CHOICE
(log entry 147). -/
def freqGo (s : State) (fsp : Nat) (force : Bool) : State :=
  if fsp = getF s F.DRC_CFG_FSP ∨ (drcChannels s).isEmpty then setF (setF (setF s F.DRC_CFG_FSP fsp) F.DRC_FREQ_CODE 0) F.DRC_FREQ_LASTUS 0
  else { setF s F.DRC_FREQ_BUSY 1 with drc := { s.drc with chg := some ⟨fsp, force, upNs s, upNs s⟩ } }

/-- 100 ms after GO with FORCE = 0 and the entry not complete (R498). -/
def freqTimeout (s : State) : State :=
  match s.drc.chg with
  | some g =>
    if !g.force ∧ g.at0 + 100000000 ≤ upNs s ∧ !(drcChannels s).all (fun c => chState s c == chSelfRef) then freqEnd s g.at0 .aborted else s
  | none => s

/-! ### The DRAM stage (R481, R487 to R489) -/

/-- The sets that may be enabled, largest first (R481). -/
def legalSets : List Nat := [8, 4, 2, 1]

/-- GiB of a channel by its capacity code (R502). -/
def gib (size : Nat) : Nat := 2 ^ (size + 1)

/-- Does the configuration keep R481: channels 0 to n - 1 for n in 1, 2, 4, 8, all of one kind, of 2 to 16 GiB, and set-points of at most
9,600 MT/s? -/
def dramCfgOk (l : List DramCh) (rates : Nat × Nat × Nat) : Bool :=
  let n := (l.filter DramCh.on).length
  legalSets.contains n && (l.take n).all DramCh.on && rates.1 ≤ 96 && rates.2.1 ≤ 96 && rates.2.2 ≤ 96 &&
  (match l.head? with | some d => d.size ≤ 3 && (l.take n).all (fun e => e.size == d.size && e.two == d.two) | none => false)

/-- How a channel comes out of the stage: on a warm boot with its saved results restored and retracked, else trained (R488, R489). -/
def stageCode (d : DramCh) (fsps : List Nat) (warm : Bool) : Status := if warm && !d.lost then .ok else d.code fsps

/-- Show one channel's result. -/
def showChan (s : State) (c : Nat) (d : DramCh) (r : Status) (warm : Bool) : State :=
  let s := setF (setF s (F.DRC_CHSTAT_SIZE c) d.size) (F.DRC_CHSTAT_RANKS c) (b2n d.two)
  let s := setF s (F.DRC_CHSTAT_CODE c) r.code
  let s := setF s (F.DRC_CHSTAT_LOST c) (b2n (warm && d.lost))
  if r = .ok then chanStart (setF s (F.DRC_CHSTAT_STATE c) chActive) c
  else setF s (F.DRC_CHSTAT_STATE c) chFailed

/-- A channel that is not enabled reads as at reset (R499). -/
def hideChan (s : State) (c : Nat) : State :=
  (List.range 4).foldl (fun s b => s.setWord (R.DRC_LANE c b) (resetWord (R.DRC_LANE c b)))
    (s.setWord (R.DRC_CHSTAT c) (resetWord (R.DRC_CHSTAT c)))

/-- The channels left in use: of the first `n` the largest legal set whose channels all came out well (R488). -/
def trainedSet (n : Nat) (codes : List Status) : Nat :=
  (legalSets.find? (fun k => k ≤ n && (codes.take k).all (· == .ok))).getD 0

/-- The channels that the stage takes: the configured ones, on a warm boot those that were trained (R489). -/
def stageChans (s : State) (l : List DramCh) (warm : Bool) : List DramCh :=
  l.take (if warm then ((List.range 8).filter s.boot.trained.testBit).length else (l.filter DramCh.on).length)

/-- Content that a channel loses: since its blocks are spread over the whole usable space the memory is taken as lost whole, and
reads as memory that nothing has written. DESIGN CHOICE (log entry 3). -/
def loseDram (s : State) : State := { s with dram := [], drc := { s.drc with poison := [] } }

/-- Training, or on a warm boot restoring and retracking, of the configured channels; `rates` are the set-points (R487 to
R489, R498). Answers the failure code of the stage, if any. -/
def dramStage (s : State) (l : List DramCh) (rates : Nat × Nat × Nat) (warm : Bool) : Option Status × State :=
  if !dramCfgOk l rates then (some .illegalValue, s)
  else
    let l := stageChans s l warm
    let n := l.length
    let codes := l.map (fun d => stageCode d (setPoints rates) warm)
    let s := (List.range n).foldl (fun s c => match l[c]? with | some d => showChan s c d (codes.getD c .ok) warm | none => s) s
    let k := trainedSet n codes
    let size := match l.head? with | some d => gib d.size | none => 0
    let s := (List.range n).foldl (fun s c =>
      if c < k ∨ chState s c = chFailed then s else hideChan s c) s
    let s := setF (setF s F.DRC_CFG_ENMASK (2 ^ k - 1)) F.DRC_CAP_PAGES (k * size * 2 ^ 14 * 7 / 8)
    let s := setF (setF (setF s F.DRC_FSPRATE_RATE0 rates.1) F.DRC_FSPRATE_RATE1 rates.2.1) F.DRC_FSPRATE_RATE2 rates.2.2
    let s := { s with boot := { s.boot with trained := 2 ^ k - 1 } }
    let s := if warm && l.any DramCh.lost then loseDram s else s
    (codes.find? (· != .ok), s)

/-! ### The commands -/

/-- Requests are served while the DRAM channels are in use. -/
def whenDram (s : State) (f : State → State) : Result := whenOn 0x13 s (fun s => if (drcChannels s).isEmpty then s else f s)

/-- DRAM_READ_REQUEST (R493); `cls` is what tells the class of a request of port 5 or 6. -/
def execDramReadRequest (dt port cls block : Nat) (s : State) : Result :=
  whenDram (advance dt s) (fun s => drcRequest s port cls false block [])

/-- DRAM_READ_RETURN (R485); `err` are the wrong symbols of the codeword read. -/
def execDramReadReturn (dt port block : Nat) (err : List (Nat × Nat)) (s : State) : Result :=
  whenDram (advance dt s) (fun s => readReturn s port block err)

/-- DRAM_WRITE_REQUEST (R491): with `issue` the pending writes go to the device, in the order of R492; else the write waits. -/
def execDramWriteRequest (dt port cls block : Nat) (data : Bytes) (issue : Bool) (s : State) : Result :=
  whenDram (advance dt s) (fun s =>
    let s := drcRequest s port cls true block data
    if issue then issueFreeWrites s else s)

/-- DRAM_PARTIAL_WRITE (R483). -/
def execDramPartialWrite (dt : Nat) (x : PartAt) (off : Nat) (data : Bytes) (err : List (Nat × Nat)) (s : State) : Result :=
  whenDram (advance dt s) (fun s => partialWrite s x.port x.block off data err)

/-- REFRESH_DUE (R495, R496). -/
def execRefreshDue (dt c rank : Nat) (s : State) : Result := whenDram (advance dt s) (fun s => refreshDue s c rank)

/-- REFRESH_PULLIN (R495). -/
def execRefreshPullin (dt c rank : Nat) (s : State) : Result := whenDram (advance dt s) (fun s => pullIn s c rank)

/-- PATROL_SCRUB (R486). -/
def execPatrolScrub (dt : Nat) (err : List (Nat × Nat)) (s : State) : Result := whenDram (advance dt s) (fun s => patrolStep s err)

/-- The device's refresh-rate field is read every 16 ms (R494). -/
def mr4Poll (s : State) (quarters : Nat) : State :=
  if s.drc.mr4At + 16000000 ≤ upNs s then { s with drc := { s.drc with mr4 := quarters, mr4At := upNs s } } else s

/-- MR4_POLL (R494): the factor the devices call for, in quarters. DESIGN CHOICE (log entry 147). -/
def execMr4Poll (quarters : Nat) (s : State) : Result := whenDram s (fun s => mr4Poll s quarters)

/-- SELF_REFRESH_ENTRY (R497). -/
def execSelfRefreshEntry (dt c : Nat) (s : State) : Result := whenDram (advance dt s) (fun s => selfRefEntry s c)

/-- SELF_REFRESH_EXIT (R497). -/
def execSelfRefreshExit (dt c : Nat) (s : State) : Result := whenDram (advance dt s) (fun s => selfRefExit s c)

/-- FREQ_CHANGE_TIMEOUT (R498). -/
def execFreqChangeTimeout (dt : Nat) (s : State) : Result := whenDram (advance dt s) freqTimeout

end Sys2Proof.Machine
end

