-- ==== Sys2Proof/Machine/Tim.lean ====
section
/-! DEFINITION. TIM: steps of the time, pulse generators, the servo, postmarks and link delays, captures (R356 to R393). -/

namespace Sys2Proof.Machine

/-! ### Time as numbers -/

/-- The extended time in 2^-28 ns. -/
def fullTime (s : State) : Nat := s.wraps * 2 ^ 60 + s.time

/-- A stamp of now: TIME_NS and its fraction in 2^-16 ns (R341, R342). -/
def stampNow (s : State) : Nat := s.time / 2 ^ 12

/-- TIME_NS target `t` as extended ns: by R362 it lies within half a range of now. -/
def extOf (s : State) (t : Nat) : Int := (extNs s : Int) + signed 32 (msub 32 t (timeNs s))

/-! ### Periodic instants (R378) -/

/-- Closure length K of a period's fraction. -/
def closureLen (perf : Nat) : Nat :=
  ((List.range 64).find? (fun i =>
    let n := i + 1
    let x := n * perf % 2 ^ 24
    min x (2 ^ 24 - x) ≤ n)).elim 0 (· + 1)

/-- Instant k, in 2^-24 ns, of start `st` (ns) and period `per` (2^-24 ns). -/
def instantAt (st : Int) (per k : Nat) : Int :=
  let kk := closureLen (per % 2 ^ 24)
  if k = 0 ∨ kk = 0 then st * 2 ^ 24 + (k * per : Nat)
  else
    let q := (2 * (kk * per) + 2 ^ 24) / 2 ^ 25
    st * 2 ^ 24 + (k / kk * q * 2 ^ 24 + k % kk * per : Nat)

/-- First index whose instant lies after `t` (2^-24 ns): with a closure of K instants in Q ns, K whole groups are counted by Q. -/
def firstAfter (st : Int) (per : Nat) (t : Int) : Nat :=
  if t < st * 2 ^ 24 then 0
  else
    let d := (t - st * 2 ^ 24).toNat
    let kk := closureLen (per % 2 ^ 24)
    let q := (2 * (kk * per) + 2 ^ 24) / 2 ^ 25 * 2 ^ 24
    if kk = 0 then d / max 1 per + 1 else d / max 1 q * kk + min kk (d % max 1 q / max 1 per + 1)

/-! ### Postmark cells (R341 to R343, R370 to R374) -/

def pmType (c : Bytes) : Nat := bodyBE c 0 1 % 4
def pmHops (c : Bytes) : Nat := bodyBE c 1 1
def pmSeq (c : Bytes) : Nat := bodyBE c 2 2
def pmSrc (c : Bytes) : Nat := bodyBE c 4 1
/-- TA and TAF together, in 2^-16 ns. -/
def pmTa (c : Bytes) : Nat := bodyBE c 8 6
def pmCorr (c : Bytes) : Int := signed 48 (bodyBE c 16 6)
def pmTb (c : Bytes) : Nat := bodyBE c 24 6
def pmWraps (c : Bytes) : Nat := bodyBE c 32 4

/-- A postmark cell (R341). -/
def postmark (orig : Bool) (type hops seq src ta : Nat) (corr : Int) (tb wraps : Nat) : Bytes :=
  mkCell 0xFFFE 4 orig
    ([byte type, byte hops] ++ beBytes 2 seq ++ [byte src] ++ zeros 3 ++ beBytes 6 ta ++ zeros 2 ++
     beBytes 6 (unsign 48 corr) ++ zeros 2 ++ beBytes 6 tb ++ zeros 2 ++ beBytes 4 wraps)

/-- A postmark as it leaves at stamp `now` (R342, R371, R374). -/
def stampCell (m : Mark) (now : Nat) (c : Bytes) : Bytes :=
  match m with
  | .none => c
  | .ta => patch c 12 (beBytes 6 now)
  | .corr tin => patch c 20 (beBytes 6 (unsign 48 (pmCorr c + (msub 48 now tin : Nat))))

/-- A sender sends one SYNC on each UP port (R370); a FOLLOW sender not on FPORT. -/
def syncSend (s : State) : State :=
  let follow := !isSet s F.TIM_CFG_ROLE
  let n := (s.tim.syncSeq + 1) % 65536
  let s := { s with tim := { s.tim with syncSeq := n } }
  let src := if follow then s.tim.lastSrc else getF s F.TAN_CFG_RANK
  let ports := (upPorts s).filter (fun p => !follow || p != getF s F.TIM_CFG_FPORT)
  sendNow s ports (postmark false 0 0 n src (stampNow s) 0 0 s.wraps)

/-! ### Pulse generators (R376 to R381) -/

def genReset : Gen := ⟨0, 0, 0, 0⟩

def gen (s : State) (g : Nat) : Gen := tget genReset s.tim.gens g

def setGen (s : State) (g : Nat) (x : Gen) : State := { s with tim := { s.tim with gens := tset genReset s.tim.gens g x } }

/-- The cadence generator of a tile: the one that the cadence owns, else the one that CADGEN reserves (R377, R393). DESIGN CHOICE
(log entry 159). -/
def tileGen (s : State) : Nat :=
  match s.tim.gens.find? (fun e => e.2.owner == 3) with
  | some e => e.1
  | none => getF s F.TIM_CFG_CADGEN

/-- Is a generator owned, or reserved for the tile cadence (R377)? -/
def genOwned (s : State) (g : Nat) : Bool := (gen s g).owner != 0 || (isTile s && g == getF s F.TIM_CFG_CADGEN)

/-- The next instant of a generator. -/
def genNext (s : State) (g : Nat) : Int := instantAt (gen s g).start (gen s g).per (gen s g).k

/-- TIM_PGNEXT and OWNED follow the generator. -/
def genShow (s : State) (g : Nat) : State :=
  let s := setF s (F.TIM_PGCFG_OWNED g) (b2n (genOwned s g))
  if isSet s (F.TIM_PGCFG_EN g) then setF s (F.TIM_PGNEXT_NEXT g) ((genNext s g / 2 ^ 24) % (2 ^ 32 : Nat)).toNat else s

/-- Is a generator's next instant due (R379)? -/
def genDue (s : State) (g : Nat) : Bool :=
  isSet s (F.TIM_PGCFG_EN g) && genNext s g * 16 ≤ (fullTime s : Int)

/-- A software enable (R380). -/
def genEnable (s : State) (g : Nat) : State :=
  let s := setF (setF (setF s (F.TIM_PGSTAT_COUNT g) 0) (F.TIM_PGSTAT_SKIP g) 0) (F.TIM_PGSTAT_LATE g) 0
  let per := getF s (F.TIM_PGPER_PER g) * 2 ^ 24 + getF s (F.TIM_PGPERF_PERF g)
  let s := setGen (setF s (F.TIM_PGCFG_EN g) 1) g ⟨0, extOf s (getF s (F.TIM_PGSTART_S g)), per, 0⟩
  genShow s g

/-- A generator stops. -/
def genStop (s : State) (g : Nat) : State := genShow (setF s (F.TIM_PGCFG_EN g) 0) g

/-- An owner programs its generator: periodic from extended start `st`, at instant `k` next (R239, R385, R399). -/
def genProgram (s : State) (g owner : Nat) (st : Int) (per k : Nat) : State :=
  let s := setF (setF s (F.TIM_PGCFG_EN g) 1) (F.TIM_PGCFG_PERIODIC g) 1
  let s := setF (setF s (F.TIM_PGPER_PER g) (per / 2 ^ 24)) (F.TIM_PGPERF_PERF g) (per % 2 ^ 24)
  let s := setF s (F.TIM_PGSTART_S g) (st % (2 ^ 32 : Nat)).toNat
  genShow (setGen s g ⟨owner, st, per, k⟩) g

/-- An owner takes a generator: its counts start again. -/
def genTake (s : State) (g owner : Nat) (st : Int) (per k : Nat) : State :=
  let s := setF (setF (setF s (F.TIM_PGSTAT_COUNT g) 0) (F.TIM_PGSTAT_SKIP g) 0) (F.TIM_PGSTAT_LATE g) 0
  genProgram s g owner st per k

/-- An owner releases its generator, which is left disabled. -/
def genRelease (s : State) (g : Nat) : State := genStop (setGen s g genReset) g

/-- TRIG_OUT[g] is asserted from instant `ik` for WID ns, at the level that POL selects (R379, R392); a pulse that a step made late
begins now. -/
def trigPulse (s : State) (g : Nat) (ik : Int) : State :=
  let wid := getF s (F.TIM_PGWID_WID g)
  let late := if isSet s (F.TIM_PGSTAT_LATE g) then 0 else ((fullTime s : Int) / 2 ^ 28 - ik / 2 ^ 24).toNat
  let s := emit s (.trig g ik wid (!isSet s (F.TIM_PGCFG_POL g)))
  { s with tim := { s.tim with trigTo := setAt s.tim.trigTo 8 g (upNs s + wid - late) } }

/-- Is TRIG_OUT[g] asserted now? -/
def trigOn (s : State) (g : Nat) : Bool := decide (upNs s < s.tim.trigTo.getD g 0)

/-- The instant that is due fires (R379): the count, TRIG_OUT, the event, and the next instant; a one-shot clears EN.
DESIGN CHOICE (log entry 34). -/
def genFire (s : State) (g : Nat) : State :=
  let ik := genNext s g
  let s := incMod s (F.TIM_PGSTAT_COUNT g)
  let s := sorPulse (if g < 8 then trigPulse s g ik else s) g (ik / 2 ^ 24).toNat
  let s := if isSet s (F.TIM_PGCFG_IRQ g) then
      raise s 0x0F04 ([byte g, 0#8, 0#8, 0#8] ++ beBytes 4 ((ik / 2 ^ 24) % (2 ^ 32 : Nat)).toNat) else s
  let x := gen s g
  let s := setGen s g { x with k := x.k + 1 }
  if isSet s (F.TIM_PGCFG_PERIODIC g) then genShow s g else genStop s g

/-- SYNC_SEND inside a pulse of generator `g` (R370). -/
def syncPulse (s : State) (g : Nat) : State :=
  if isSender s ∧ isSet s F.TIM_SYNCCFG_SYNCEN ∧ getF s F.TIM_SYNCCFG_SYNCGEN = g then syncSend s else s

/-- A pulse of a generator with what it times in TIM (R370, R379). -/
def genPulse (s : State) (g : Nat) : State := syncPulse (genFire s g) g

/-- At most `n` instants of a generator that lie before now fire. -/
def genPulses (g : Nat) : Nat → State → State
  | 0, s => s
  | n + 1, s => if genNext s g * 16 < (fullTime s : Int) ∧ isSet s (F.TIM_PGCFG_EN g) then genPulses g n (genPulse s g) else s

/-- A write of EN = 0: every instant before it fires (R380). -/
def genLast (s0 : State) (g : Nat) : State :=
  let s := setF s0 (F.TIM_PGCFG_EN g) 1
  let late := ((fullTime s : Int) / 16 - genNext s g) / (max 1 (gen s g).per : Nat)
  genPulses g (late.toNat + 2) s

/-- Response of one enabled generator to a step (R381). -/
def genStep (s : State) (g : Nat) : State :=
  if isSet s (F.TIM_PGCFG_EN g) && genNext s g * 16 < (fullTime s : Int) then
    if isSet s (F.TIM_PGCFG_PERIODIC g) then
      let x := gen s g
      let k := firstAfter x.start x.per ((fullTime s : Int) / 16)
      genShow (incSat (setGen s g { x with k := k }) (F.TIM_PGSTAT_SKIP g) (k - x.k)) g
    else genPulse (setF s (F.TIM_PGSTAT_LATE g) 1) g
  else s

/-! ### Steps (R360) -/

/-- Every number of ns as a signed 32-bit value, saturated. -/
def sat32 (v : Int) : Nat := unsign 32 (clip (-2147483648) 2147483647 v)

/-- A step of the extended time by `d`, in 2^-28 ns. A forward step is noted for the instants it passes over (R435). -/
def stepTime (s : State) (d : Int) : State :=
  let t := ((fullTime s : Int) + d) % (2 ^ 92 : Nat)
  let s := if 0 < d then { s with lmp := { s.lmp with skips := (s.lmp.skips ++ [((fullTime s : Int) / 16, t / 16)]).drop (s.lmp.skips.length - 15) } } else s
  let s := longWindow { s with time := t.toNat % 2 ^ 60, wraps := t.toNat / 2 ^ 60 } (extNs s)
  let s := (List.range 16).foldl genStep s
  let s := incSat s F.TIM_STAT_STEPS
  raise s 0x0F02 (beBytes 4 (sat32 (d / 2 ^ 28)))

/-! ### The servo (R365 to R375) -/

def tFree : Nat := 0
def tAcquire : Nat := 1
def tLocked : Nat := 2
def tHoldover : Nat := 3

def servo (s : State) : Nat := getF s F.TIM_STAT_STATE

/-- Enter a servo state; a change raises TIME_STATE (R367, R375). -/
def setServo (s : State) (st : Nat) : State :=
  let old := servo s
  if old = st then s
  else
    let s := setF s F.TIM_STAT_STATE st
    let s := { s with tim := { s.tim with good := 0, bad := 0, holdFrom := if st = tHoldover then some (upNs s) else none },
                      tan := { s.tan with holdFrom := if st = tLocked then s.tan.holdFrom else none } }
    lampDrop (raise s 0x0F03 [byte st, byte old])

/-- Range of TIM_INC (R357). -/
def incLow : Nat := 0x0FFBE76D
def incHigh : Nat := 0x10041893

/-- Steering: the value the control loop gives TIM_INC is not stated, only its range (R357) and, in a slew, 100 ppm about the
last locked value (R367); it is a free value. With `kept` the value counts toward the mean that HOLDOVER holds. -/
def steer (s : State) (kept : Bool := true) : State :=
  let (r, s) := drawNat s
  let lo := match s.tim.slew with | some i => max incLow (i - i / 10000) | none => incLow
  let hi := match s.tim.slew with | some i => min incHigh (i + i / 10000) | none => incHigh
  let v := lo + r % (hi - lo + 1)
  let s := setF s F.TIM_INC_INC v
  { s with tim := { s.tim with incs := if kept then (v :: s.tim.incs).take 16 else s.tim.incs, lastUsed := upNs s } }

/-- TIM_INC held at the mean of the last 16 used SYNCs or locked edges (R367, R375). -/
def holdInc (s : State) : State :=
  if s.tim.incs.isEmpty then s else setF s F.TIM_INC_INC (s.tim.incs.sum / s.tim.incs.length)

/-- Into HOLDOVER; the last TIM_INC before it is kept (R367). -/
def toHoldover (s : State) : State :=
  setServo (holdInc { s with tim := { s.tim with lockInc := getF s F.TIM_INC_INC } }) tHoldover

/-- Show an offset given in 2^-16 ns (R391). -/
def showOffset (s : State) (o : Int) : State := setF s F.TIM_OFFSET_OFS (sat32 (o / 256))

/-- Count an outlier in LOCKED; the fourth in a row answers true. -/
def outlier (s : State) : Bool × State :=
  let s := incSat s F.TIM_SSTAT_OUTLIER
  let n := s.tim.bad + 1
  (4 ≤ n, { s with tim := { s.tim with bad := n, good := 0 } })

/-- The last locked TIM_INC limits the slew (R367). -/
def startSlew (s : State) : State :=
  { s with tim := { s.tim with slew := some (if servo s = tHoldover then s.tim.lockInc else getF s F.TIM_INC_INC) } }

/-- An outlier among the SYNCs: it is used (R373) and leaves TIM_INC as it is (R375). -/
def keepInc (s : State) : State :=
  { s with tim := { s.tim with incs := (getF s F.TIM_INC_INC :: s.tim.incs).take 16, lastUsed := upNs s } }

/-- A value in bounds in ACQUIRE counts toward LOCKED at `need` in a row. -/
def towardLock (s : State) (inBounds : Bool) (need : Nat) : State :=
  let n := if inBounds then s.tim.good + 1 else 0
  let s := { s with tim := { s.tim with good := n } }
  if need ≤ n then setServo { s with tim := { s.tim with slew := none } } tLocked else s

/-- A used SYNC with offset `o` in 2^-16 ns (R375). DESIGN CHOICE (log entry 39). -/
def servoSync (s : State) (o : Int) : State :=
  let mag := o.natAbs
  let far := 1000 * 65536 ≤ mag
  let step (s : State) : State := stepTime s (-o * 2 ^ 12)
  let s := showOffset s o
  if servo s = tFree then steer (setServo (if far then step s else s) tAcquire)
  else if servo s = tAcquire then
    let s := if far then step s else s
    towardLock (steer s) (mag ≤ 10 * 65536) 16
  else if servo s = tLocked then
    if 50 * 65536 < mag then
      let (four, s) := outlier s
      if four then steer (setServo (if far then step s else s) tAcquire) else keepInc s
    else steer { s with tim := { s.tim with bad := 0 } }
  else if far then steer (setServo (step s) tAcquire)
  else steer (setServo s tLocked)

/-- A reference edge with error `e` in 2^-16 ns (R366, R367). -/
def servoEdge (s : State) (e : Int) : State :=
  let mag := e.natAbs
  let s := showOffset s e
  if servo s = tAcquire then towardLock (steer s false) (mag ≤ 20 * 65536) 8
  else if servo s = tLocked then
    if 1000 * 65536 < mag then
      let (four, s) := outlier s
      if four then steer (setServo (startSlew s) tAcquire) false else s
    else steer { s with tim := { s.tim with bad := 0 } }
  else if servo s = tHoldover then
    if mag ≤ 1000 * 65536 then steer (setServo s tLocked) else steer (setServo (startSlew s) tAcquire) false
  else s

/-! ### The reference (R365 to R367) -/

/-- Period of the reference in 2^-24 ns. -/
def refPeriod (s : State) : Nat :=
  if getF s F.TIM_CFG_DISC = 1 then 1000000000 * 2 ^ 24 else getF s F.TIM_REFPER_NS * 2 ^ 24 + getF s F.TIM_REFPERF_FRAC

/-- Is the time steered? In SLEEP it counts on, unsteered (R514). -/
def steered (s : State) : Bool := power s ≤ 2

/-- Is the unit a SOURCE with a reference? -/
def hasRef (s : State) : Bool := isSender s && isSet s F.TIM_CFG_ROLE && getF s F.TIM_CFG_DISC != 0

/-- A selected reference edge at TIME_NS plus `eighths` of a ns (R366, R367). The edge is the one expected nearest to it. -/
def refEdge (s : State) (eighths : Nat) : State :=
  if !hasRef s then s
  else if isSet s F.TIM_REFCFG_ARMED then
    let sum := getF s F.TIM_REFVAL_VAL + getF s F.TIM_REFCFG_REFDLY
    let target := sum % 2 ^ 32
    let d : Int := (target * 2 ^ 28 : Nat) - (fullTime s : Int)
    let s := setF (stepTime s d) F.TIM_REFCFG_ARMED 0
    let s := { s with tim := { s.tim with refJ := 1, refWrap := sum / 2 ^ 32, good := 0, bad := 0, slew := none, incs := [],
                                          lastUsed := upNs s } }
    setServo s tAcquire
  else if servo s = tFree then s
  else
    let per := refPeriod s
    let base : Int := (getF s F.TIM_REFVAL_VAL + getF s F.TIM_REFCFG_REFDLY : Nat) - (s.tim.refWrap * 2 ^ 32 : Nat)
    let cap : Int := (extNs s * 2 ^ 24 + eighths * 2 ^ 21 : Nat)
    -- the instants about the capture: the nearest is meant
    let k := firstAfter base per cap
    let j := if k = 0 then 0 else if cap - instantAt base per (k - 1) ≤ instantAt base per k - cap then k - 1 else k
    let expected := instantAt base per j
    servoEdge { s with tim := { s.tim with refJ := j + 1, lastUsed := upNs s } } ((cap - expected) / 2 ^ 8)

/-- No edge for 1.5 periods while LOCKED (R367). -/
def refLoss (s : State) : State :=
  if hasRef s ∧ servo s = tLocked ∧ s.tim.lastUsed * 2 ^ 25 + 3 * refPeriod s ≤ upNs s * 2 ^ 25 then toHoldover s else s

/-! ### Taking time from SYNC, and link delays (R371 to R374) -/

/-- The timing port of a tile (R276): where its accepted stream arrives, while that port is UP, else the lowest port that is UP; 7 is
none. DEDUCED (log entry 61). -/
def timingPort (s : State) : Nat :=
  let a := getF s F.TAN_TSTAT_ACCPORT
  if a < 2 ∧ portUp s a then a else (upPorts s).head?.getD 7

/-- The sync port (R373), or FPORT of a FOLLOW sender while that port is UP; 7 is none (DEDUCED from the reset value 7 of SPORT
beside those of ROLE and FPORT). DEDUCED (log entry 41). -/
def syncPort (s : State) : Nat :=
  if isTile s then timingPort s
  else if isSender s ∧ !isSet s F.TIM_CFG_ROLE ∧ portUp s (getF s F.TIM_CFG_FPORT) then getF s F.TIM_CFG_FPORT
  else 7

/-- D_p + A_p of a port in 2^-16 ns (R372). -/
def pathDelay (s : State) (p : Nat) : Int :=
  (getF s (F.TIM_PDLY_DELAY p) * 256 : Nat) + signed 16 (getF s (F.TIM_ASYM_ASYM p)) * 256

/-- Does HOPS equal the tile's distance from the sending end that port `p` faces (R343)? -/
def hopsOk (s : State) (p hops : Nat) : Bool :=
  let pos := getF s F.CHN_POSTCODE_POSTCODE % 512
  isSet s F.CHN_POSTCODE_VALID &&
  (if isSet s (F.CHN_PORTCTL_HEADFACE p) then hops == pos else s.chn.length != 0 && hops + 1 + pos == s.chn.length)

/-- Take a used SYNC (R373): the wrap count, then the servo. -/
def useSync (s : State) (x : RxCell) : State :=
  let c := x.cell
  let o := signed 48 (unsign 48 ((x.time : Int) - ((pmTa c : Int) + pmCorr c + pathDelay s x.port)))
  let tin := x.time / 65536 % 2 ^ 32
  let want : Nat := (pmWraps c + b2n (!matOrAfter 32 tin (pmTa c / 65536))) % 2 ^ 32
  let s := { s with tim := { s.tim with lastSrc := pmSrc c } }
  let s :=
    if want = s.wraps then s
    else
      let d : Int := ((want : Int) - s.wraps) * 2 ^ 32
      let gens := s.tim.gens.map (fun e => (e.1, { e.2 with start := e.2.start + d }))
      let f := d * 2 ^ 24
      let s := { s with wraps := want, tim := { s.tim with gens := gens },
                        lmp := { s.lmp with prev := s.lmp.prev.map (fun e => (e.1, { e.2.1 with st := e.2.1.st + d }, e.2.2)),
                                            shows := s.lmp.shows.map (fun h => { h with disp := h.disp + f }),
                                            skips := s.lmp.skips.map (fun k => (k.1 + f, k.2 + f)) },
                        sec := { s.sec with nextT := s.sec.nextT + f } }
      incSat (setF s F.TIM_STAT_WRAPFIX 1) F.TIM_SSTAT_WRAPFIX
  servoSync s o

/-- A SYNC reaches a unit (R317, R342, R343, R373, R374). -/
def syncArrive (s : State) (x : RxCell) : State :=
  let c := x.cell
  let held := 0 < getF s (F.TIM_PDLY_COUNT x.port)
  if isTile s then
    if !hopsOk s x.port (pmHops c) then s
    else
    -- the updated version leaves by the other port
    let out := 1 - x.port
    let s := if portUp s 0 ∧ portUp s 1 then
        insertCell s out 0 (postmark (cellOrig c) 0 (pmHops c + 1) (pmSeq c) (pmSrc c) (pmTa c) (pmCorr c + pathDelay s x.port) 0 (pmWraps c)) (.corr x.time)
      else s
    if x.port = syncPort s ∧ held then useSync s x
    else incSat s F.TIM_SSTAT_SYNCDROP
  else if isSet s F.TIM_CFG_ROLE then s
  else if x.port = getF s F.TIM_CFG_FPORT then useSync s x
  else incSat s F.TIM_SSTAT_SYNCDROP

/-- Take the oldest consumed cell for which `p` holds out of the receive list. -/
def takeRx (s : State) (p : Bytes → Bool) : Option (RxCell × State) :=
  match s.chn.rx.find? (fun x => p x.cell) with
  | some x => some (x, { s with chn := { s.chn with rx := s.chn.rx.erase x } })
  | none => none

/-- Is a cell a postmark of a type? -/
def isPostmark (type : Nat) (c : Bytes) : Bool := cellKind c == 4 && pmType c == type

/-- Send a link-local postmark on port `p`, stamped as it leaves: a tile inserts it in the first class (R318). -/
def sendLocal (s : State) (p : Nat) (c : Bytes) : State :=
  if isTile s then insertCell s p 0 c .ta else emit s (.cell p (stampCell .ta (stampNow s) c))

/-- A PREQ is answered (R371). -/
def preqArrive (s : State) (x : RxCell) : State :=
  sendLocal s x.port (postmark (isTile s) 2 0 (pmSeq x.cell) 0 0 0 x.time 0)

/-- When the next PREQ of a port is due: four at 20 µs spacing once the port is UP, then one every PDINT ms (R371). -/
def preqDue (s : State) (p : Nat) : Nat :=
  match tget (0, 0) s.tim.pdSent p with
  | (0, _) => 0
  | (n, last) => last + (if n < 4 then 20000 else 1000000 * getF s F.TIM_SYNCCFG_PDINT)

/-- A PREQ that is due is sent on an UP port (R371). -/
def preqSend (s : State) (p : Nat) : State :=
  if !portUp s p ∨ upNs s < preqDue s p then s
  else
    let n := s.tim.pdSeq
    let t1 := if isTile s then none else some (stampNow s)
    let k := (tget (0, 0) s.tim.pdSent p).1
    let s := { s with tim := { s.tim with pdSeq := (n + 1) % 65536, preq := s.tim.preq ++ [⟨p, n, upNs s, t1⟩],
                                          pdSent := tset (0, 0) s.tim.pdSent p (k + 1, upNs s) } }
    sendLocal s p (postmark (isTile s) 1 0 n 0 0 0 0 0)

/-- A PREQ of a tile has left: its egress stamp is t1. -/
def preqLeft (s : State) (p : Nat) (c : Bytes) (now : Nat) : State :=
  if isPostmark 1 c then
    { s with tim := { s.tim with preq := s.tim.preq.map (fun r =>
        if r.port = p ∧ r.seq = pmSeq c ∧ r.t1.isNone then { r with t1 := some now, since := upNs s } else r) } }
  else s

/-- A port has reached UP: its requests begin again with four (R371). -/
def preqRestart (s : State) (p : Nat) : State := { s with tim := { s.tim with pdSent := tset (0, 0) s.tim.pdSent p (0, 0) } }

def pdReset : PdSt := ⟨[], 0⟩

/-- Mean of measurements, in 2^-17 ns. -/
def meanOf (l : List Int) : Int := rdiv l.sum (max 1 l.length)

/-- Put the mean of a port's measurements into TIM_PDLY. -/
def pdShow (s : State) (p : Nat) (x : PdSt) : State :=
  let s := { s with tim := { s.tim with pd := tset pdReset s.tim.pd p x } }
  let s := setF s (F.TIM_PDLY_COUNT p) x.vals.length
  setF s (F.TIM_PDLY_DELAY p) (clip 0 (2 ^ 24 - 1) (rdiv x.vals.sum (512 * max 1 x.vals.length))).toNat

/-- A delay measurement (R371): a value more than 5 ns from the mean is discarded, and the fourth in a row restarts the mean. -/
def pdTake (s : State) (p : Nat) (v : Int) : State :=
  let x := tget pdReset s.tim.pd p
  if x.vals.isEmpty ∨ (v - meanOf x.vals).natAbs ≤ 5 * 2 ^ 17 then
    pdShow s p ⟨(x.vals ++ [v]).drop ((x.vals.length + 1) - 16), 0⟩
  else if 4 ≤ x.bad + 1 then pdShow s p ⟨[v], 0⟩
  else pdShow s p { x with bad := x.bad + 1 }

/-- A PRESP yields a measurement (R371). -/
def prespArrive (s : State) (x : RxCell) : State :=
  match s.tim.preq.find? (fun r => r.port == x.port && r.seq == pmSeq x.cell) with
  | some r =>
    let s := { s with tim := { s.tim with preq := s.tim.preq.erase r } }
    match r.t1 with
    | some t1 =>
      let there : Int := signed 48 (msub 48 (pmTa x.cell) (pmTb x.cell))
      pdTake s x.port ((msub 48 x.time t1 : Nat) - there)
    | none => s
  | none => s

/-- The oldest PREQ of a port that had no PRESP within 1 ms is lost (R371). -/
def preqLost (s : State) (p : Nat) : State :=
  match s.tim.preq.find? (fun r => r.port == p && decide (r.since + 1000000 ≤ upNs s)) with
  | some r => incSat { s with tim := { s.tim with preq := s.tim.preq.erase r } } F.TIM_SSTAT_PDLOST
  | none => s

/-- No used SYNC for LOSSUS µs (R375). -/
def syncLoss (s : State) : State :=
  let follow := isTile s || !isSet s F.TIM_CFG_ROLE
  if follow ∧ servo s ≠ tFree ∧ servo s ≠ tHoldover ∧ s.tim.lastUsed + 1000 * getF s F.TIM_SYNCCFG_LOSSUS ≤ upNs s then toHoldover s
  else s

/-! ### Captures (R382 to R384) -/

def capReset : CapSt := ⟨[], none⟩

def cap (s : State) (c : Nat) : CapSt := tget capReset s.tim.caps c

def setCap (s : State) (c : Nat) (x : CapSt) : State :=
  setF { s with tim := { s.tim with caps := tset capReset s.tim.caps c x } } (F.TIM_CAPCFG_LEVEL c) x.queue.length

/-- An edge at a capture input, `eighths` of a ns after TIME_NS (R382, R383). -/
def capEdge (s : State) (c eighths : Nat) (fall : Bool) : State :=
  let e := getF s (F.TIM_CAPCFG_EDGE c)
  if !isSet s (F.TIM_CAPCFG_EN c) ∨ !(e = 2 ∨ e = b2n fall) then s
  else
    let t := 8 * upNs s + eighths
    let x := cap s c
    match x.last with
    | some l => if t < l + 64 then incSat s (F.TIM_CAPCFG_GLITCH c) else stampEdge s c x t fall eighths
    | none => stampEdge s c x t fall eighths
where
  /-- Stamp the edge, or drop the stamp of a full queue. -/
  stampEdge (s : State) (c : Nat) (x : CapSt) (t : Nat) (fall : Bool) (eighths : Nat) : State :=
    let s := if 16 ≤ x.queue.length then incSat (setCap s c { x with last := some t }) (F.TIM_CAPCFG_OVF c)
      else setCap s c ⟨x.queue ++ [⟨timeNs s, eighths % 8, fall, s.wraps % 256⟩], some t⟩
    if isSet s (F.TIM_CAPCFG_EVT c) then raise s 0x0F05 [byte c, byte (b2n fall)] else s

/-- A read of TIM_CAPLO (R384): the value read, and the state after. DESIGN CHOICE (log entry 40). -/
def capRead (s : State) (c : Nat) : Nat × State :=
  match (cap s c).queue with
  | x :: l =>
    let s := setCap s c { cap s c with queue := l }
    let s := setF (setF s (F.TIM_CAPHI_FR8 c) x.fr8) (F.TIM_CAPHI_FALL c) (b2n x.fall)
    (x.ns, setF (setF s (F.TIM_CAPHI_WRAPS c) x.wraps) (F.TIM_CAPHI_VALID c) 1)
  | [] => (0, setF s (F.TIM_CAPHI_VALID c) 0)

/-- EN 0→1 of a capture: the queue empties, OVF and GLITCH clear (R392). -/
def capStart (s : State) (c : Nat) : State := setF (setF (setCap s c capReset) (F.TIM_CAPCFG_OVF c) 0) (F.TIM_CAPCFG_GLITCH c) 0

/-! ### Block reset (R393) -/

def timReset : TimSt := ⟨[], [], [], [], 0, [], 0, 0, 0, 0, 0, [], none, 0, none, 0, 0, []⟩

/-- The time, the wrap count and TIM_INC go on; ownership survives; everything else takes its reset value. -/
def timBlockReset (s : State) : State :=
  let old := servo s
  let inc := s.word R.TIM_INC
  let owners := s.tim.gens.filter (fun e => e.2.owner != 0)
  let s := (resetRegs s 0xF0000 0x100000).setWord R.TIM_INC inc
  let s := { s with tim := { timReset with gens := owners, trigTo := s.tim.trigTo } }
  let s := (List.range 16).foldl (fun s g => if genOwned s g then setF s (F.TIM_PGCFG_OWNED g) 1 else s) s
  lampDrop (raise s 0x0F03 [byte tFree, byte old])

/-- When the reset ends, the owners' generators run again from their anchors; instants inside the reset are skipped, and TAN
starts 1 µs from now (R393, R399). -/
def timResetEnd (s : State) : State :=
  s.tim.gens.foldl (fun s e =>
    let (g, x) := e
    if x.owner = 0 then s
    else if x.owner = 2 then genProgram s g 2 ((extNs s : Int) + 1000) (250000 * 2 ^ 24) 0
    else
      let k := max x.k (firstAfter x.start x.per ((fullTime s : Int) / 16))
      genProgram (incSat s (F.TIM_PGSTAT_SKIP g) (k - x.k)) g x.owner x.start x.per k) s

/-! ### The commands -/

/-- SYNC_POSTMARK (R373): the oldest SYNC consumed. -/
def execSyncPostmark (s : State) : Result :=
  whenOn 0x0F s (fun s => match takeRx s (isPostmark 0) with | some (x, s) => syncArrive s x | none => s)

/-- PREQ_POSTMARK (R371). -/
def execPreqPostmark (s : State) : Result :=
  whenOn 0x0F s (fun s => match takeRx s (isPostmark 1) with | some (x, s) => preqArrive s x | none => s)

/-- PRESP_POSTMARK (R371). -/
def execPrespPostmark (s : State) : Result :=
  whenOn 0x0F s (fun s => match takeRx s (isPostmark 2) with | some (x, s) => prespArrive s x | none => s)

/-- PREQ_SEND (R371). -/
def execPreqSend (dt p : Nat) (s : State) : Result := whenOn 0x0F (advance dt s) (fun s => preqSend s p)

/-- PREQ_LOST (R371). -/
def execPreqLost (x : After) (s : State) : Result := whenOn 0x0F (advance x.dt s) (fun s => preqLost s x.n)

/-- SYNC_LOSS (R375). -/
def execSyncLoss (dt : Nat) (s : State) : Result := whenOn 0x0F (advance dt s) (fun s => if steered s then syncLoss s else s)

/-- TIME_WRAP (R359): time passes until TIME_NS wraps. -/
def execTimeWrap (s : State) : Result :=
  .next (if timeRuns s then advance ((2 ^ 60 - s.time + getF s F.TIM_INC_INC - 1) / getF s F.TIM_INC_INC) s else s)

/-- REFERENCE_EDGE (R367): a rising or falling edge of the selected reference. -/
def execReferenceEdge (dt eighths : Nat) (fall : Bool) (s : State) : Result :=
  whenOn 0x0F (advance dt s) (fun s => if isSet s F.TIM_REFCFG_FALL = fall ∧ steered s then refEdge s eighths else s)

/-- REFERENCE_LOSS (R367). -/
def execReferenceLoss (dt : Nat) (s : State) : Result := whenOn 0x0F (advance dt s) (fun s => if steered s then refLoss s else s)

/-- CAPTURE_EDGE (R383). -/
def execCaptureEdge (dt c eighths : Nat) (fall : Bool) (s : State) : Result :=
  whenOn 0x0F (advance dt s) (fun s => capEdge s c eighths fall)

end Sys2Proof.Machine
end

