-- ==== Sys2Proof/Machine/Frt.lean ====
section
/-! DEFINITION. FRT: modes, commits, latching, the cadence and mode changes of a sender (R238 to R260), and its beacons (R319,
R320). -/

namespace Sys2Proof.Machine

/-! ### Instants (R238) -/

/-- FRT_CTL.EN. -/
def frtEn (s : State) : Bool := isSet s F.FRT_CTL_EN

/-- Does FRT run? It is idle in STANDBY and SLEEP (R514). -/
def frtOn (s : State) : Bool := frtEn s && power s ≤ 1

/-- FRT's generator. -/
def frtGen (s : State) : Nat := getF s F.FRT_CTL_GEN

/-- Period of a mode in 2^-24 ns. -/
def Mode.per (m : Mode) : Nat := m.perNs * 2 ^ 24 + m.perFrac

/-- Cadence instant of frame `n` on the extended time, in 2^-24 ns, with the anchor at extended instant `st` (ns). Frame numbers repeat
every 2^32 frames: the instant is the one nearest to that of the `k`-th frame from E on. -/
def cadenceAt (m : Mode) (st : Int) (n : Nat) (k : Nat := 0) : Int :=
  let d := (k : Int) + signed 32 (msub 32 n (m.e + k))
  if 0 ≤ d then instantAt st m.per d.toNat else st * 2 ^ 24 + d * (m.per : Int)

/-- Cadence instant of frame `n` while FRT runs. -/
def cadenceExt (s : State) (m : Mode) (n : Nat) : Int := cadenceAt m (gen s (frtGen s)).start n (gen s (frtGen s)).k

/-- Now in 2^-24 ns. -/
def nowFine (s : State) : Int := (fullTime s : Int) / 16

/-- TIME_NS of an extended instant in 2^-24 ns. -/
def instantNs (i : Int) : Nat := ((i / 2 ^ 24) % (2 ^ 32 : Nat)).toNat

/-- Latch instant of frame `n` (R241). -/
def latchExt (s : State) (m : Mode) (n : Nat) : Int :=
  cadenceExt s m (msub 32 n (getF s F.FRT_CTL_QDEPTH)) - 2000 * 2 ^ 24

/-- The frame of the generator's next instant. -/
def nextFrame (s : State) (m : Mode) : Nat := (m.e + (gen s (frtGen s)).k) % 2 ^ 32

/-! ### The mode in force (R257, R258) -/

/-- A condition of R402 fails: the count starts again. -/
def dropHold (s : State) : State := { s with tan := { s.tan with holdFrom := none } }

/-- Install a mode: its registers and MGEN, which differs from the peer's from then on (R402). DESIGN CHOICE (log entry 47). -/
def installMode (s : State) (m : Mode) : State :=
  let s := setF (setF s F.FRT_PERNS_NS m.perNs) F.FRT_PERFRAC_FRAC m.perFrac
  let s := setF (setF (setF s F.FRT_LAT_NS m.lat) F.FRT_WIN_NS m.win) F.FRT_MARGIN_NS m.margin
  let s := setF (setF s F.FRT_EFRAME_FRAME m.e) F.FRT_ANCHOR_TIME m.te
  let s := setF (setF s F.FRT_MSTAT_NSLOTM1 (m.nslot - 1)) F.FRT_MSTAT_TSET m.tset
  incMod (dropHold { s with frt := { s.frt with mode := some m } }) F.FRT_MSTAT_MGEN

/-- Write back an FRT entry (R246). -/
def frtDone (s : State) (it : Item) (c : Status) (frame t : Nat) (dead : Bool := c != .ok) : State :=
  complete40 s it (leBytes 4 frame ++ leBytes 4 t) c dead

/-- MCFG of a mode (R246, R337). DEDUCED (log entry 50). -/
def modeMcfg (m : Mode) : Nat := (m.nslot - 1) + 4 * m.tset + 32 * b2n m.anchor

/-- MODE letter on every enabled port (R248, R249, R337); sealed under SEALLET where a group key exists. -/
def sendMode (s : State) (aframe capply : Nat) (m : Mode) : State :=
  let (lid, s) := newLid s
  let content := beBytes 4 aframe ++ [byte (modeMcfg m), 0#8, 0#8, 0#8] ++ beBytes 4 capply ++ beBytes 4 m.perNs ++ beBytes 4 m.perFrac ++
    beBytes 4 m.lat ++ beBytes 4 m.win ++ beBytes 4 m.margin
  sendLetter s (livePorts s) 0xFFFE 5 lid (isSet s F.CHN_CFG_SEALLET) false content

/-! ### Commits (R242 to R245) -/

/-- Apply values: the configuration and the ramps; `f0` is the frame that latches them. DESIGN CHOICE (log entry 42). -/
def applyValues (s : State) (vals : List (Nat × Word)) (last : Nat) (f0 : Option Nat) : State :=
  { s with cmp := { s.cmp with base := overlay s.cmp.base vals, ramps := commitRamps s.cmp.ramps vals last f0 } }

/-- Armed values apply and their COMMIT entries complete. -/
def applyArmed (s : State) (last : Nat) (f0 : Option Nat) (oframe tlatch : Nat) : State :=
  let items := s.frt.commits
  let s := applyValues s s.cmp.armed last f0
  let s := { s with cmp := { s.cmp with armed := [] }, frt := { s.frt with commits := [] } }
  let s := setF s F.FRT_COMMIT_ARMED 0
  items.foldl (fun s i => frtDone s i .ok oframe tlatch) s

/-! ### Latching (R241) -/

/-- Is frame `n` the transition frame of the pending mode (R249, R250)? -/
def isTransition (s : State) (n : Nat) : Bool :=
  match s.frt.pendMode with | some (_, _, a, _) => a == n | none => false

/-- The mode that frame `n` runs under and its cadence instant: the pending mode's after its AFRAME (R249). -/
def frameMode (s : State) (m : Mode) (n : Nat) : Mode × Int :=
  match s.frt.pendMode with
  | some (_, p, a, _) =>
    if mafter 32 n a then (p, cadenceAt { p with e := a } (cadenceExt s m a / 2 ^ 24) n) else (m, cadenceExt s m n)
  | none => (m, cadenceExt s m n)

/-- Latch the next frame: its configuration is fixed, it is queued, and the reads of its pages are scheduled; `needs` may name their
deadlines (R187). It is queued for presentation while CMP is disabled too, until its cadence instant passes. DESIGN CHOICE
(log entry 157). -/
def latchNext (s : State) (m : Mode) (needs : List (Nat × Nat)) : State :=
  let n := getF s F.FRT_NEXTLAT_FRAME
  let at' := instantNs (latchExt s m n)
  let s := applyArmed s (msub 32 n 1) (some n) n at'
  let s := noteSizes { s with cmp := { s.cmp with ramps := startRamps s.cmp.ramps n } } n
  let tr := isTransition s n
  let q : QFrame := ⟨n, s.cmp.base, s.cmp.ramps, tr⟩
  let s := { s with frt := { s.frt with queued := s.frt.queued ++ [q] } }
  let s := setF s F.FRT_NEXTLAT_FRAME (n + 1)
  if tr then s
  else
    let layers := (layersOn q.cfg).filter (fun k => bindCheck s q.cfg k == .ok)
    let f := frameMode s m n
    prefetchDue (queueNeeds (engineQueue s n) ⟨n, q.cfg, q.ramps, 0⟩ layers (instantNs f.2) f.1.win needs)

/-- LATCH_INSTANT: the next frame's latch instant has come. -/
def latchInstant (s : State) (needs : List (Nat × Nat)) : State :=
  match s.frt.mode with
  | some m => if frtOn s && latchExt s m (getF s F.FRT_NEXTLAT_FRAME) ≤ nowFine s then latchNext s m needs else s
  | none => s

/-- Latch every frame up to `n`, if its latch instant was passed over; `fuel` bounds them. -/
def latchThrough (m : Mode) (n : Nat) : Nat → State → State
  | 0, s => s
  | k + 1, s => if matOrAfter 32 n (getF s F.FRT_NEXTLAT_FRAME) then latchThrough m n k (latchNext s m []) else s

/-- Latch the frames whose latch instant has come: a commit accepted at that instant falls into the frame after (R241). -/
def latchOverdue : Nat → State → State
  | 0, s => s
  | k + 1, s =>
    match s.frt.mode with
    | some m => if frtOn s && latchExt s m (getF s F.FRT_NEXTLAT_FRAME) ≤ nowFine s then latchOverdue k (latchNext s m []) else s
    | none => s

/-- A commit: at once while EN = 0, else the pending values are armed, later writes over earlier ones.
DESIGN CHOICE (log entry 48). -/
def commit (s : State) (it : Option Item) : State :=
  let s := latchOverdue 8 s
  let vals := s.cmp.pend
  let s := { s with cmp := { s.cmp with pend := [] } }
  if !frtEn s then
    let s := applyValues s vals (getF s F.FRT_FRAME_FRAME) none
    match it with
    | some i => frtDone s i .ok 0 0
    | none => s
  else
    let merged := vals.foldl (fun l e => l.filter (fun x => x.1 != e.1) ++ [e]) s.cmp.armed
    let s := { s with cmp := { s.cmp with armed := merged },
                      frt := { s.frt with commits := s.frt.commits ++ it.toList } }
    setF s F.FRT_COMMIT_ARMED 1

/-! ### Beacons (R319, R320) -/

/-- A BEACON on every enabled port that is UP, while TAN is enabled and works (R399, R400, R415); HBSEQ advances once per request. -/
def sendBeacon (s : State) : State :=
  if !(blkOn s 0x10 && isSet s F.TAN_CFG_EN) then s
  else
  let seq := (s.chn.hbseq + 1) % 2 ^ 32
  let s := { s with chn := { s.chn with hbseq := seq } }
  let bfl := b2n (getF s F.TAN_STAT_STATE == 2) + 2 * b2n (frtOn s) + 4 * getF s F.TIM_CFG_ROLE
  let cell := mkCell 0xFFFE 6 false
    (beBytes 4 (ownClaim s) ++ beBytes 4 (getF s F.FRT_FRAME_FRAME) ++ beBytes 4 seq ++ beBytes 4 (timeNs s) ++
      [byte bfl, byte (getF s F.FRT_MSTAT_MGEN)])
  if blkOn s 0x0D then sendNow s (livePorts s) cell else s

/-! ### The cadence (R239, R251) -/

/-- Each port sends as many cells as it had slots for since the cadence before. DESIGN CHOICE (log entry 35). -/
def drainPorts (s : State) (slots : List Nat) : State :=
  (List.range 4).foldl (fun s p => if portUp s p then txRun p (slots.getD p 0) s else s) s

/-- Runs of frame `n` still unsent on any port. -/
def runsLeft (s : State) (n : Nat) : Bool := s.chn.tx.any (fun e => e.2.runs.any (fun r => r.1 == n))

/-- What C_{N+1} finds of frame N: an unfinished raster whose deadline passed, or unsent runs (R251). -/
def closeFrame (s : State) : State :=
  match s.cmp.raster with
  | some r =>
    if r.aborted then s
    else if !r.finished then underrun s r.frame causeRaster .late
    else if runsLeft s r.frame then underrun s r.frame causeChain .late
    else s
  | none => s

/-- The pending mode applies at C_AFRAME (R249). -/
def modeAtCadence (s : State) (n : Nat) (cn : Int) : State :=
  match s.frt.pendMode with
  | some (it, m, a, late) =>
    if a = n then
      let t := instantNs cn
      let m := { m with e := n, te := t }
      let s := installMode { s with frt := { s.frt with pendMode := none } } m
      let s := setF s F.FRT_MSTAT_PEND 0
      let s := if late then setF s F.FRT_MSTAT_LATE 1 else s
      let s := genProgram s (frtGen s) 1 (cn / 2 ^ 24) m.per 1
      frtDone s it (if late then .late else .ok) n t false
    else s
  | none => s

/-- Frames latched and passed over leave the queue; operations that waited for them complete. -/
def dropQueued (s : State) (n : Nat) : State :=
  let gone := s.frt.queued.filter (fun q => matOrAfter 32 n q.n)
  let s := { s with frt := { s.frt with queued := s.frt.queued.filter (fun q => !matOrAfter 32 n q.n) } }
  sweepPend (gone.foldl (fun s q => if s.srf.frames.any (fun f => f.n == q.n && !f.running) then forgetFrame s q.n else s) s)

/-- CHN requests a frame start on every enabled port: the next block there is SOF (R270, R319). -/
def frameStart (s : State) : State :=
  let live := livePorts s
  let ports := s.lnk.ports.map (fun e => if live.contains e.1 then (e.1, { e.2 with seeded := upNs s }) else e)
  emitAll { s with lnk := { s.lnk with ports := ports } } (live.map (fun p => .block p 1))

/-- The raster of frame `n` starts at its cadence instant `cn`, unless the frame is a transition frame (`tr`) or CMP produces none
(R239). -/
def startRaster (s : State) (m : Mode) (n : Nat) (cn : Int) (tr : Bool) : State :=
  let q := s.frt.queued.find? (fun q => q.n == n)
  let s := { s with frt := { s.frt with under := none }, cmp := { s.cmp with raster := none } }
  let s := if cmpProduces s && !tr then
      match q with
      | some q => rasterStart s q (instantNs cn) (s.frt.mode.getD m).win
      | none => s
    else s
  dropQueued s n

/-- The next cadence instant, if it is due: FRT_FRAME becomes N, SOF, a waiting ABORT and BEACON go out in that order, and
the raster of N starts (R239, R319). `slots` counts the cells each port could send since the cadence before. -/
def senderCadence (s : State) (slots : List Nat) : State :=
  match s.frt.mode with
  | none => s
  | some m =>
    let g := frtGen s
    if !(frtOn s && genDue s g) then s
    else
      let n := nextFrame s m
      let cn := genNext s g
      let s := closeFrame (frameStart (drainPorts s slots))
      let s := genFire s g
      let s := latchThrough m n 8 s
      let s := setF s F.FRT_FRAME_FRAME n
      let tr := isTransition s n
      let s := modeAtCadence s n cn
      let s := crcNote (syncPulse (sendBeacon s) g) n false []
      startRaster s m n cn tr

/-- LATE_PAGE: a page is not resident at its deadline (R189, R251). -/
def latePageStep (s : State) : State :=
  match latePage s with
  | none => s
  | some d =>
    let s := recordLate s d
    match s.cmp.raster with
    | some r => if r.frame = d.frame ∧ !r.finished ∧ !r.aborted then
        underrun s d.frame causePage (if isSet s F.HIF_LINKSTAT_UP then .late else .linkAbsent) else s
    | none => s

/-! ### Entries (R246 to R249) -/

/-- The mode a MODE entry carries. -/
def entryMode (e : Bytes) : Mode :=
  ⟨leAt e 12 4, leAt e 16 4 % 2 ^ 24, leAt e 20 4, leAt e 24 4, leAt e 28 4, byteAt e 1 % 4 + 1, bits (byteAt e 1) 2 3, leAt e 4 4, leAt e 8 4,
   bit (byteAt e 1) 5⟩

/-- The checks of an FRT entry, in order (R247). -/
def frtCheck (s : State) (e : Bytes) : Status :=
  let op := byteAt e 0
  let m := entryMode e
  let anchor := bit (byteAt e 1) 5
  if trailerBad e then .illegalValue
  else if op = 0x38 then (if allZero (slice e 1 31) then .ok else .illegalValue)
  else if leAt e 2 2 ≠ 0 ∨ bits (byteAt e 1) 6 2 ≠ 0 ∨ leAt e 16 4 / 2 ^ 24 ≠ 0 ∨ (!anchor ∧ leAt e 8 4 ≠ 0) then .illegalValue
  else if op ≠ 0x39 then .illegalValue
  else if anchor = frtEn s then .illegalValue
  else if isSet s F.FRT_MSTAT_PEND then .wrongState
  else if m.perNs < 2083333 ∨ 50000000 < m.perNs ∨ 480 * (m.perNs + 1) < m.nslot * 1000000000 then .range
  else if m.win < 1000000 ∨ m.perNs - 2000 < m.win then .range
  else if m.lat < m.win + m.margin ∨ 500000000 < m.lat then .range
  else
    match s.frt.mode with
    | some o => if frtEn s ∧ m.lat + o.per / 2 ^ 25 < o.lat then .range else .ok
    | none => .ok

/-- An activation armed for an instant up to A_{AFRAME+1} on a tile, C_{AFRAME+1} on a sender, of a mode held for application is
moved there (R596). -/
def armMove (s : State) : State :=
  let held : Option Nat :=
    if isTile s then (match s.lmp.pend with | some (m, none) => some m.e | _ => none) else s.frt.pendMode.map (fun p => p.2.2.1)
  match s.upd.arm, held with
  | some a, some e =>
    let f := (e + 1) % 2 ^ 32
    if mafter 32 a.frame f then s
    else yield (setF { s with upd := { s.upd with arm := some { a with frame := f, late := true } } } F.UPD_AFRAME_FRAME f) 3 5 0x17 .late (currentFrame s)
  | _, _ => s

/-- A MODE entry that passed its checks (R248, R249). -/
def acceptMode (s : State) (it : Item) : State :=
  let m := entryMode it.entry
  match frtEn s, s.frt.mode with
  | true, some o =>
    let next := getF s F.FRT_NEXTLAT_FRAME
    let late := !matOrAfter 32 m.e next
    let a := if late then next else m.e
    let s := { s with frt := { s.frt with pendMode := some (it, m, a, late) } }
    let s := setF s F.FRT_MSTAT_PEND 1
    armMove (sendMode s a (instantNs (cadenceExt s o a)) m)
  | _, _ => frtDone (installMode s m) it .ok m.e m.te

/-- A COMMIT or MODE entry reaches FRT. -/
def frtEntry (s : State) (it : Item) : State :=
  match frtCheck s it.entry with
  | .ok => if opcode it = 0x38 then commit s (some it) else acceptMode s it
  | c => frtDone s it c 0 0

/-! ### Enable and disable (R248, R249, R255) -/

/-- The first frame from E on whose latch instant lies after now; `fuel` bounds the search beyond the estimate. -/
def firstFrame (s : State) (m : Mode) : Nat → Nat → Nat
  | 0, k => k
  | fuel + 1, k => if nowFine s < latchExt s m ((m.e + k) % 2 ^ 32) then k else firstFrame s m fuel (k + 1)

/-- EN 0→1 (R248). -/
def frtEnable (s : State) : State :=
  match s.frt.mode with
  | none => s
  | some m =>
    let s := setF s F.FRT_CTL_EN 1
    let g := frtGen s
    let st := extOf s m.te
    let s := genTake s g 1 st m.per 0
    let est := ((nowFine s - st * 2 ^ 24) / (max 1 m.per : Nat)).toNat - 2
    let k := if nowFine s < latchExt s m m.e then 0 else firstFrame s m 16 est
    let s := genProgram s g 1 st m.per k
    let s := setF s F.FRT_NEXTLAT_FRAME (m.e + k)
    let s := { s with frt := { s.frt with queued := [], under := none } }
    sendMode s m.e m.te m

/-- EN 1→0 (R255): armed values apply, a pending mode is installed, queued frames retire, the generator is released. -/
def frtDisable (s : State) : State :=
  let last := msub 32 (getF s F.FRT_NEXTLAT_FRAME) 1
  let s := applyArmed s last none 0 0
  let s := match s.frt.pendMode, s.frt.mode with
    | some (it, m, a, late), some o =>
      let t := instantNs (cadenceExt s o a)
      let s := installMode { s with frt := { s.frt with pendMode := none } } { m with e := a, te := t }
      let s := setF s F.FRT_MSTAT_PEND 0
      let s := if late then setF s F.FRT_MSTAT_LATE 1 else s
      frtDone s it (if late then .late else .ok) a t false
    | _, _ => s
  let s := dropHold (setF s F.FRT_CTL_EN 0)
  let s := engineStop { s with frt := { s.frt with queued := [] } }
  flushPorts (genRelease s (frtGen s))

/-! ### Block reset (R260) -/

def frtReset : FrtSt := ⟨none, none, [], [], none⟩

def frtBlockReset (s : State) : State :=
  let s := stopRaster s
  let items := s.frt.commits ++ (match s.frt.pendMode with | some (it, _, _, _) => [it] | none => [])
  let s := items.foldl (fun s i => frtDone s i .aborted 0 0) s
  let s := if frtEn s then genRelease (engineStop s) (frtGen s) else s
  let s := dropHold (resetRegs s 0xC0000 0xD0000)
  flushPorts { s with frt := frtReset, cmp := { s.cmp with armed := [], raster := none } }

/-! ### The commands -/

/-- LATE_PAGE (R189). -/
def execLatePage (dt : Nat) (s : State) : Result := whenOn 0x0A (advance dt s) latePageStep

/-- RASTER_DEADLINE (R251). -/
def execRasterDeadline (dt : Nat) (s : State) : Result := whenOn 0x0C (advance dt s) rasterDeadline

/-- LATCH_INSTANT (R241); `needs` are the pages of the frame with their deadlines. -/
def execLatchInstant (dt : Nat) (needs : List (Nat × Nat)) (s : State) : Result :=
  whenOn 0x0C (advance dt s) (fun s => latchInstant s needs)

/-- COMMIT_ENTRY (R242). -/
def execCommitEntry (s : State) : Result := whenOn 0x0C s (fun s => onEntry s 0x38 frtEntry)

/-- MODE_ENTRY (R248, R249). -/
def execModeEntry (s : State) : Result := whenOn 0x0C s (fun s => onEntry s 0x39 frtEntry)

end Sys2Proof.Machine
end

