-- ==== Sys2Proof/Machine/Tan.lean ====
section
/-! DEFINITION. TAN: claims, the stream a tile accepts, heartbeats, takeovers and the state copy of a tandem (R394 to R415). -/

namespace Sys2Proof.Machine

/-! ### Claims (R394) -/

def claimEpoch (c : Nat) : Nat := c / 256
def claimRank (c : Nat) : Nat := c % 256

/-- Is claim `x` higher than claim `y`? -/
def claimHigher (x y : Nat) : Bool :=
  mafter 24 (claimEpoch x) (claimEpoch y) ||
  (!mafter 24 (claimEpoch x) (claimEpoch y) && !mafter 24 (claimEpoch y) (claimEpoch x) && claimRank y < claimRank x)

/-- The later of two epochs. -/
def laterEpoch (a b : Nat) : Nat := if mafter 24 b a then b else a

/-! ### The stream of a tile (R396 to R398) -/

def tileClaim (s : State) (p : Nat) : Nat := if p = 0 then getF s F.TAN_TCLAIM0_CLAIM else getF s F.TAN_TCLAIM1_CLAIM

def liveFld (p : Nat) : Fld := if p = 0 then F.TAN_TSTAT_LIVE0 else F.TAN_TSTAT_LIVE1

/-- Is the claim of port `p` live: 300 µs have not passed since its last valid beacon (R396)? -/
def tileLive (s : State) (p : Nat) : Bool := isSet s (liveFld p) && decide (upNs s < tget 0 s.tan.seen p + 300000)

/-- The port whose live claim is higher; 3 with none. Equal claims: the head-facing port, else port 0 (R395). -/
def bestPort (s : State) : Nat :=
  if !blkOn s 0x10 then 3
  else
    match tileLive s 0, tileLive s 1 with
    | false, false => 3
    | true, false => 0
    | false, true => 1
    | true, true =>
      if claimHigher (tileClaim s 0) (tileClaim s 1) then 0
      else if claimHigher (tileClaim s 1) (tileClaim s 0) then 1
      else if isSet s (F.CHN_PORTCTL_HEADFACE 1) && !isSet s (F.CHN_PORTCTL_HEADFACE 0) then 1
      else 0

/-- The choice made last: port and claim. -/
def lastChoice (s : State) : Nat × Nat :=
  match s.tan.chosen.getLast? with
  | some (_, p, c) => (p, c)
  | none => (3, 0)

/-- Choose the stream for frame `n`; a change of the accepted port is a switch (R397, R398). DESIGN CHOICE (log entry 52). -/
def tanChoose (s : State) (n : Nat) : State :=
  let p := bestPort s
  let c := if p < 2 then tileClaim s p else 0
  let (op, oc) := lastChoice s
  let kept := (s.tan.chosen ++ [(n, p, c)]).drop ((s.tan.chosen.length + 1) - 8)
  let s := setF { s with tan := { s.tan with chosen := kept } } F.TAN_TSTAT_ACCPORT p
  if p = op then s
  else raise (incSat s F.TAN_TSTAT_SWITCHES) 0x1002 (beBytes 4 oc ++ beBytes 4 c)


/-- Before a tile mode is in force, every change of a claim or of liveness makes the choice again (R397). -/
def tanRechoose (s : State) : State := if isTile s ∧ s.lmp.mode.isNone then tanChoose s 0 else s

/-- The stream accepted for frame `n`: port and claim; none where the frame has not been chosen for. -/
def chosenFor (s : State) (n : Nat) : Option (Nat × Nat) :=
  (s.tan.chosen.reverse.find? (fun e => e.1 == n)).map Prod.snd

/-- The claim of port `p` is no longer live. -/
def tanDead (s : State) (p : Nat) : State :=
  if p < 2 ∧ isSet s (liveFld p) then tanRechoose (setF s (liveFld p) 0) else s

/-- Fields of a BEACON (R320). -/
def bcClaim (c : Bytes) : Nat := bodyBE c 0 4
def bcActive (c : Bytes) : Bool := bit (bodyBE c 16 1) 0
def bcRunning (c : Bytes) : Bool := bit (bodyBE c 16 1) 1
def bcMgen (c : Bytes) : Nat := bodyBE c 17 1

/-- Does a cell meet R396 apart from RUNNING? -/
def beaconOk (c : Bytes) : Bool :=
  cellKind c == 6 && !cellOrig c && cellAddr c == 0xFFFE && 1 ≤ claimRank (bcClaim c) && claimRank (bcClaim c) ≤ 0xFE

/-- TIME_NS of a cell's stamp. -/
def cellNs (x : RxCell) : Nat := x.time / 65536 % 2 ^ 32

/-- When a cell arrived (elapsed ns), by its stamp. -/
def cellUp (s : State) (x : RxCell) : Nat :=
  let age := msub 32 (timeNs s) (cellNs x)
  if age < 2 ^ 31 then upNs s - age else upNs s

/-- A tile takes a beacon (R396). -/
def beaconTile (s : State) (x : RxCell) : State :=
  if !beaconOk x.cell ∨ 2 ≤ x.port then s
  else if !bcRunning x.cell then tanDead s x.port
  else
    let s := setF s (if x.port = 0 then F.TAN_TCLAIM0_CLAIM else F.TAN_TCLAIM1_CLAIM) (bcClaim x.cell)
    let s := { s with tan := { s.tan with seen := tset 0 s.tan.seen x.port (cellUp s x) } }
    tanRechoose (setF s (liveFld x.port) 1)

/-- The beacons stamped before TIME_NS `e` that wait are taken by `f`, in order: an instant is placed by its stamp, and not by when
TAN learns of it (R363, R364). -/
def takeBeacons (s : State) (e : Nat) (f : State → RxCell → State) : State :=
  let due (x : RxCell) : Bool := cellKind x.cell == 6 && mafter 32 e (cellNs x)
  let l := s.chn.rx.filter due
  l.foldl f { s with chn := { s.chn with rx := s.chn.rx.filter (fun x => !due x) } }

/-- The choice for frame `n` at its cadence instant, of TIME_NS `e`: the beacons that came before it count, and a frame with no stream
is counted (R397, R398). -/
def tanChooseFrame (s : State) (n e : Nat) : State :=
  let s := tanChoose (if blkOn s 0x10 then takeBeacons s e beaconTile else s) n
  if (lastChoice s).1 = 3 then incSat s F.TAN_TSTAT_NONE else s

/-- 300 µs with no valid beacon on port `p` (R396). -/
def claimExpiry (s : State) (p : Nat) : State :=
  if isTile s && tget 0 s.tan.seen p + 300000 ≤ upNs s then tanDead s p else s

/-! ### State of a sender (R400) -/

def tanOff : Nat := 0
def tanStandby : Nat := 1
def tanActive : Nat := 2

def tanState (s : State) : Nat := getF s F.TAN_STAT_STATE

/-- TAN_SNAPSTAT.GAP (R409). -/
def snapGap (s : State) : Nat :=
  let seen := getF s F.TAN_SNAPSEEN_GEN
  if !isSet s F.TAN_SNAPSTAT_VALID ∧ seen = 0 then 0 else min 0xFFFF (msub 32 seen (getF s F.TAN_SNAPGEN_GEN))

/-- The conditions of R402 and R590 that do not depend on a heartbeat window. -/
def returnHolds (s : State) : Bool :=
  isSet s F.TAN_CFG_REVERT && isSet s F.TAN_CFG_PREF && getF s F.UPD_STAT_USTATE != 5 && frtEn s &&
  s.tan.mgen == some (getF s F.FRT_MSTAT_MGEN) && servo s == tLocked &&
  (!isSet s F.TAN_SNAPCFG_RXEN || (isSet s F.TAN_SNAPSTAT_VALID && snapGap s == 0))

/-- A break in any of them restarts the count (R402). -/
def holdCheck (s : State) : State := if returnHolds s then s else dropHold s

/-- TAN_SNAPSTAT follows the staging and the generations. -/
def snapShow (s : State) : State :=
  holdCheck (setF (setF s F.TAN_SNAPSTAT_GAP (snapGap s)) F.TAN_SNAPSTAT_STAGING (b2n s.tan.staging.isSome))

/-- TANDEM_STATE (R604). -/
def tanEvent (s : State) : State :=
  raise s 0x1001 (beBytes 4 (ownClaim s) ++ [byte (tanState s), 0#8] ++ beBytes 2 (snapGap s))

/-- Is a cell a segment of a snapshot letter of this sender? -/
def isSnapCell (s : State) (c : Bytes) : Bool :=
  cellKind c == 3 && !cellOrig c && (byteAt c 4 == 0x0C || byteAt c 4 == 0x0D) && byteAt c 5 == getF s F.TAN_CFG_RANK

/-- Write back a SNAP entry (R405). -/
def snapDone (s : State) (it : Item) (c : Status) (gen npart : Nat) : State :=
  complete40 s it (leBytes 4 gen ++ leBytes 4 (timeNs s) ++ leBytes 2 npart) c

/-- Snapshots on their way end: nothing more of them is sent, no repeated commit either (R406). -/
def snapsAbort (s : State) : State :=
  if s.tan.snaps.isEmpty then s
  else
    let l := s.tan.snaps
    let tx := s.chn.tx.map (fun e => (e.1, { e.2 with letters := e.2.letters.filter (fun x => !isSnapCell s x.2) }))
    let s := { s with chn := { s.chn with tx := tx }, tan := { s.tan with snaps := [], sent := none } }
    l.foldl (fun s x => snapDone s x.item .aborted x.gen x.npart) s

/-- A new state and epoch; a change of either raises TANDEM_STATE. Leaving ACTIVE ends the snapshots in progress. -/
def setTan (s : State) (st epoch : Nat) : State :=
  let was := tanState s
  let old := getF s F.TAN_CLAIM_EPOCH
  let s := setF (setF s F.TAN_STAT_STATE st) F.TAN_CLAIM_EPOCH epoch
  let s := if st = tanActive then s else snapsAbort s
  if was = st ∧ old = epoch % 2 ^ 24 then s else tanEvent s

/-- Takeover (R401). -/
def takeover (s : State) : State :=
  let own := getF s F.TAN_CLAIM_EPOCH
  let peer := getF s F.TAN_PEER_CLAIM
  let e := (if peer = 0 then own else laterEpoch own (claimEpoch peer)) + 1
  let s := incSat s F.TAN_STAT_TAKEOVERS
  let s := snapShow { s with tan := { s.tan with staging := none, holdFrom := none, noAct := 0, noPeer := 0 } }
  setTan s tanActive (e % 2 ^ 24)

/-- EN 0→1 (R399, R400). -/
def tanEnable (s : State) : State :=
  let s := setF s F.TAN_CFG_EN 1
  let s := genTake s (getF s F.TAN_CFG_HBGEN) 2 ((extNs s : Int) + 1000) (250000 * 2 ^ 24) 0
  let s := { s with tan := { s.tan with heard := [], winAt := none, noAct := 0, noPeer := 0, mgen := none, holdFrom := none } }
  setTan s tanStandby (getF s F.TAN_CLAIM_EPOCH)

/-- EN 1→0. -/
def tanDisable (s : State) : State :=
  let s := setF s F.TAN_CFG_EN 0
  let s := dropHold (genRelease s (getF s F.TAN_CFG_HBGEN))
  setTan s tanOff (getF s F.TAN_CLAIM_EPOCH)

/-- Is an instant of TIME_NS `x` before the instant `e` (R361, R363)? -/
def nsBefore (x e : Nat) : Bool := mafter 32 e x

/-- A peer beacon counts in the window that holds its stamp: one that has ended is put right (R363). -/
def hear (s : State) (h : Heard) : State :=
  if s.tan.winAt.any (nsBefore h.ns) then
    let on := isSet s (F.LNK_PCTL_EN h.port)
    let s := setBitF s F.TAN_STAT_PEERPORTS h.port true
    let s := if h.act.isSome then setBitF s F.TAN_STAT_ACTPORTS h.port true else s
    { s with tan := { s.tan with noPeer := if on then 0 else s.tan.noPeer, noAct := if on && h.act.isSome then 0 else s.tan.noAct } }
  else { s with tan := { s.tan with heard := s.tan.heard ++ [h] } }

/-- A beacon reaches a sender (R395, R400). While TAN is OFF one of a peer is only shown. DESIGN CHOICE (log entry 51). -/
def peerBeacon (s : State) (x : RxCell) : State :=
  let c := bcClaim x.cell
  if !beaconOk x.cell then s
  else if claimRank c = getF s F.TAN_CFG_RANK then
    if isSet s F.TAN_STAT_CLASH then s else tanEvent (setF s F.TAN_STAT_CLASH 1)
  else
    let s := setF s F.TAN_PEER_CLAIM c
    if tanState s = tanOff then s
    else
      let act := bcActive x.cell && bcRunning x.cell
      let s := hear s ⟨x.port, cellNs x, if act then some (bcMgen x.cell) else none⟩
      if act && (tanState s == tanStandby || claimHigher c (ownClaim s)) then
        setTan s tanStandby ((claimEpoch c + 2 ^ 24 - 1) % 2 ^ 24)
      else s

/-- The conditions of R402 and R590 for the return, with the ports that delivered active heartbeats. -/
def returnOk (s : State) : Bool :=
  tanState s == tanStandby && (enabledPorts s).all (fun p => fbit s F.TAN_STAT_ACTPORTS p) && returnHolds s

/-- Mask of a list of ports. -/
def portMask (l : List Nat) : Nat := ((l.dedup).map (fun p => 2 ^ p)).sum

/-- TAN_STAT.HOLDLEFT (R412). -/
def holdLeft (s : State) : Nat :=
  match s.tan.holdFrom with
  | some f => min 0xFF ((f + getF s F.TAN_CFG_HOLDS * 1000000000 - upNs s + 999999999) / 1000000000)
  | none => 0

/-- The heartbeat window that ends at TIME_NS `e` (R363, R400, R402). -/
def heartbeatWindow (s : State) (e : Nat) : State :=
  let t := s.tan
  let mine := t.heard.filter (fun h => nsBefore h.ns e)
  let acts := mine.filter (fun h => h.act.isSome)
  let on (l : List Heard) : Bool := l.any (fun h => isSet s (F.LNK_PCTL_EN h.port))
  let noAct := if on acts then 0 else t.noAct + 1
  let noPeer := if on mine then 0 else t.noPeer + 1
  let g := ((acts.head?).bind Heard.act).filter (fun m => acts.all (fun h => h.act == some m))
  let s := setF (setF s F.TAN_STAT_PEERPORTS (portMask (mine.map Heard.port))) F.TAN_STAT_ACTPORTS (portMask (acts.map Heard.port))
  let s := { s with tan := { t with heard := t.heard.filter (fun h => !nsBefore h.ns e), noAct := noAct, noPeer := noPeer, mgen := g } }
  let s := { s with tan := { s.tan with holdFrom := if returnOk s then t.holdFrom.orElse (fun _ => some (upNs s)) else none } }
  if tanState s = tanStandby ∧ 3 ≤ noAct then
    if frtEn s then takeover s else setF s F.TAN_STAT_NOTAKE 1
  else if tanState s = tanActive ∧ 3 ≤ noPeer then setF s F.TAN_STAT_PEERLOST 1
  else s

/-! ### Snapshots on the way out (R406) -/

/-- Snapshots whose commit has left every port complete with OK. DESIGN CHOICE (log entry 55). -/
def snapSettle (s : State) : State :=
  let left (x : SnapSend) : Bool :=
    x.ports.all (fun p => x.commit.all (fun c => !((txPort s p).letters.any (fun l => l.2 == c))))
  let done := s.tan.snaps.filter left
  let s := { s with tan := { s.tan with snaps := s.tan.snaps.filter (fun x => !left x) } }
  done.foldl (fun s x => snapDone s x.item .ok x.gen x.npart) s

/-- A heartbeat pulse that is due: the window that the pulse before it opened ends, then a BEACON goes out (R399, R401).
DESIGN CHOICE (log entry 53). -/
def heartbeat (s : State) : State :=
  let g := getF s F.TAN_CFG_HBGEN
  if !(isSet s F.TAN_CFG_EN && genDue s g) then s
  else
    let e := instantNs (genNext s g)
    let s := genFire (takeBeacons s e peerBeacon) g
    let s := if s.tan.winAt.isSome then heartbeatWindow s e
      else { s with tan := { s.tan with heard := s.tan.heard.filter (fun h => !nsBefore h.ns e) } }
    let s := { s with tan := { s.tan with winAt := some e } }
    snapSettle (syncPulse (sendBeacon s) g)

/-- REVERT_HOLD_EXPIRY (R402). -/
def revertExpiry (s : State) : State :=
  match s.tan.holdFrom with
  | some f => if f + getF s F.TAN_CFG_HOLDS * 1000000000 ≤ upNs s ∧ returnOk s then takeover s else s
  | none => s

/-- The check of a renumbering (R404). -/
def renumCheck (s : State) (x : Nat) : Status :=
  if tanState s ≠ tanActive then .wrongState
  else
    let d := msub 24 x (getF s F.TAN_CLAIM_EPOCH)
    if 1 ≤ d ∧ d ≤ 2 ^ 23 - 2 then .ok else .range

/-- An accepted renumbering. -/
def renum (s : State) (x : Nat) : State := setTan s tanActive x

/-- The checks of a SNAP entry that need no data (R406). -/
def snapCheck (s : State) (e : Bytes) : Status :=
  let len := leAt e 4 4
  if trailerBad e || bits (byteAt e 1) 4 4 != 0 || !allZero (slice e 16 16) then .illegalValue
  else if byteAt e 0 ≠ 0x48 then .illegalValue
  else if !isSender s then .notPermitted
  else if tanState s ≠ tanActive then .wrongState
  else if bits (byteAt e 1) 0 4 = 0 then .illegalValue
  else if len < 64 ∨ 16777216 < len then .range
  else if len % 64 ≠ 0 ∨ leAt e 8 8 % 64 ≠ 0 then .align
  else .ok

/-- The commit letter of a generation (R407). -/
def commitContent (gen npart len : Nat) (digest : Bytes) : Bytes :=
  beBytes 4 gen ++ beBytes 2 npart ++ zeros 2 ++ beBytes 4 len ++ zeros 4 ++ fit 64 digest

/-- Does a SNAP wait for Bus Master Enable (R97)? -/
def snapWaits (s : State) (it : Item) : Bool :=
  snapCheck s it.entry == .ok && areaShut s (leAt it.entry 2 2) (leAt it.entry 8 8) (leAt it.entry 4 4)

/-- A SNAP entry whose turn has come. -/
def snapEntry (s : State) (it : Item) (host : HostRes) : State :=
  let e := it.entry
  let len := leAt e 4 4
  match snapCheck s e with
  | .ok =>
    let (r, s) := areaFetch s (leAt e 2 2) (leAt e 8 8) len host
    match r with
    | .error c => snapDone s it c 0 0
    | .ok b =>
      let ports := (upPorts s).filter (fun p => (byteAt e 1).testBit p)
      let gen := (getF s F.TAN_SNAPSEEN_GEN + 1) % 2 ^ 32
      let s := snapShow (setF s F.TAN_SNAPSEEN_GEN gen)
      if ports.isEmpty then snapDone s it .linkAbsent gen 0
      else
        let parts := chunksOf 6144 2731 b
        let npart := parts.length
        let digest := fit 64 (Config.sha512 b)
        let s := ((List.range npart).zip parts).foldl (fun s x =>
          let (lid, s) := newLid s
          sendLetter s ports 0xFFFE 0x0C lid false true
            (beBytes 4 gen ++ beBytes 2 x.1 ++ beBytes 2 npart ++ beBytes 4 len ++ zeros 4 ++ x.2)) s
        let (lid, s) := newLid s
        let content := commitContent gen npart len digest
        let cells := letterCells 0xFFFE 0x0D (getF s F.TAN_CFG_RANK) lid (lflOf false 0 true) false content
        let s := sendLetter s ports 0xFFFE 0x0D lid false true content
        let s := { s with tan := { s.tan with snaps := s.tan.snaps ++ [⟨it, gen, npart, ports, cells⟩],
                                              sent := some (gen, npart, len, digest), sentAt := upNs s } }
        snapSettle s
  | c => snapDone s it c 0 0

/-- The commit of the latest generation goes out again, once per second (R406). -/
def commitRepeat (s : State) : State :=
  match s.tan.sent with
  | some (gen, npart, len, digest) =>
    if gen = getF s F.TAN_SNAPSEEN_GEN ∧ s.tan.sentAt + 1000000000 ≤ upNs s then
      let (lid, s) := newLid { s with tan := { s.tan with sentAt := upNs s } }
      sendLetter s (livePorts s) 0xFFFE 0x0D lid false true (commitContent gen npart len digest)
    else s
  | none => s

/-! ### Snapshots on the way in (R408) -/

/-- Bytes of a bank, and the byte offset of the staging bank. -/
def bankSize (s : State) : Nat := (getF s F.TAN_SNAPCFG_SIZEM1 + 1) * 65536
def stagingOff (s : State) : Nat := (1 - getF s F.TAN_SNAPSTAT_BANK) * bankSize s

/-- Staging ends without an install. -/
def snapFail (s : State) (gen : Nat) (c : Status) : State :=
  let s := snapShow (incSat { s with tan := { s.tan with staging := none } } F.TAN_SNAPSTAT_FAILS)
  raise s 0x1004 (beBytes 4 gen ++ [byte c.code])

/-- Note the generation of a received letter. -/
def snapSeen (s : State) (gen : Nat) : State :=
  snapShow (if mafter 32 gen (getF s F.TAN_SNAPSEEN_GEN) then setF s F.TAN_SNAPSEEN_GEN gen else s)

/-- Is a received snapshot letter dropped or ignored before its content counts? -/
def snapIgnored (s : State) (gen : Nat) : Bool :=
  !isSet s F.TAN_SNAPCFG_RXEN || isSet s F.TAN_CTL_HOLD || !mafter 32 gen (getF s F.TAN_SNAPGEN_GEN)

/-- A commit whose parts are all held: install it, or discard the staging. -/
def tryCommit (s : State) (host : HostRes) : State :=
  match s.tan.staging with
  | some g =>
    match g.commit with
    | some (npart, len, digest, _) =>
      if npart ≠ g.npart ∨ len ≠ g.len then snapFail s g.gen .illegalValue
      else if (List.range npart).all (fun k => g.parts.contains k) then
        match surfOf s (getF s F.TAN_SNAPCFG_HANDLE) with
        | some x =>
          if svcShut s x.vp (stagingOff s) len then s else
          let (r, s) := svcFetch s x.vp (stagingOff s) len host
          match r with
          | .ok b =>
            if fit 64 (Config.sha512 b) = digest then
              let s := setF s F.TAN_SNAPSTAT_BANK (1 - getF s F.TAN_SNAPSTAT_BANK)
              let s := setF (setF (setF s F.TAN_SNAPGEN_GEN g.gen) F.TAN_SNAPLEN_LEN len) F.TAN_SNAPSTAT_VALID 1
              raise (snapShow { s with tan := { s.tan with staging := none } }) 0x1003 (beBytes 4 g.gen ++ beBytes 4 len)
            else snapFail s g.gen .integrity
          | .error c => snapFail s g.gen c
        | none => snapFail s g.gen .staleState
      else s
    | none => s
  | none => s

/-- Is a part at odds with its staging or its bank? DESIGN CHOICE (log entry 54). -/
def partBad (s : State) (g : Option Staging) (gen part npart len : Nat) : Status :=
  if bankSize s < len ∨ npart ≤ part then .range
  else
    match g with
    | some g => if g.gen = gen ∧ (g.npart ≠ npart ∨ g.len ≠ len) then .illegalValue else .ok
    | none => .ok

/-- The bytes of a part: 6,144, fewer in the last one (R407). -/
def partData (c : Bytes) (part len : Nat) : Bytes := slice c 16 (min 6144 (len - 6144 * part))

/-- Store a part in the staging bank of the surface, and note that it is held (R408). -/
def storePart (s : State) (x : Surf) (g : Staging) (part : Nat) (data : Bytes) : State :=
  let s := svcWrite s (65536 * x.vp + stagingOff s + 6144 * part) data
  snapShow { s with tan := { s.tan with staging := some { g with parts := g.parts ++ [part] } } }

/-- The staging that a part of a generation goes to: a new one for a newer generation, none for an older one. -/
def stagingFor (g : Option Staging) (gen npart len : Nat) : Option Staging :=
  match g with
  | some g => if mafter 32 gen g.gen then some ⟨gen, npart, len, [], none⟩ else if g.gen = gen then some g else none
  | none => some ⟨gen, npart, len, [], none⟩

/-- A part of a generation that counts (R408): one that is held already is ignored. -/
def takePart (s : State) (c : Bytes) (host : HostRes) : State :=
  let gen := beAt c 0 4
  let part := beAt c 4 2
  let len := beAt c 8 4
  match stagingFor s.tan.staging gen (beAt c 6 2) len with
  | none => s
  | some g =>
    if g.parts.contains part then s
    else
      match partBad s s.tan.staging gen part (beAt c 6 2) len with
      | .ok =>
        match surfOf s (getF s F.TAN_SNAPCFG_HANDLE) with
        | some x => tryCommit (storePart s x g part (partData c part len)) host
        | none => s
      | e => snapFail s gen e

/-- A SNAP_PART. -/
def snapPart (s : State) (l : Letter) (host : HostRes) : State :=
  let gen := beAt l.content 0 4
  let s := snapSeen s gen
  if snapIgnored s gen then s else takePart s l.content host

/-- A SNAP_COMMIT. A commit that waits already keeps its 20 ms. -/
def snapCommit (s : State) (l : Letter) (host : HostRes) : State :=
  let c := l.content
  let gen := beAt c 0 4
  let npart := beAt c 4 2
  let len := beAt c 8 4
  let s := snapSeen s gen
  if snapIgnored s gen then s
  else
    let cm := some (npart, len, slice c 16 64, upNs s)
    match s.tan.staging with
    | some g =>
      if g.gen = gen then
        let cm := g.commit.map (fun o => (npart, len, slice c 16 64, o.2.2.2)) |>.orElse (fun _ => cm)
        tryCommit (snapShow { s with tan := { s.tan with staging := some { g with commit := cm } } }) host
      else if mafter 32 gen g.gen then snapShow { s with tan := { s.tan with staging := some ⟨gen, npart, len, [], cm⟩ } }
      else s
    | none => snapShow { s with tan := { s.tan with staging := some ⟨gen, npart, len, [], cm⟩ } }

/-- Does a commit whose parts are all held wait for its data read (R97)? -/
def commitReady (s : State) : Bool :=
  s.tan.staging.any (fun g => g.commit.isSome && (List.range g.npart).all (fun k => g.parts.contains k))

/-- 20 ms after a commit whose parts are still missing. -/
def snapTimeout (s : State) : State :=
  match s.tan.staging with
  | some g =>
    match g.commit with
    | some (_, _, _, t) => if t + 20000000 ≤ upNs s ∧ !commitReady s then snapFail s g.gen .timeout else s
    | none => s
  | none => s

/-! ### Letters waiting for their block -/

/-- The oldest complete letter for which `p` holds. -/
def takeLetter (s : State) (p : Letter → Bool) : Option (Letter × State) :=
  match s.chn.letters.find? p with
  | some l => some (l, { s with chn := { s.chn with letters := s.chn.letters.erase l } })
  | none => none

/-- Run `f` on the oldest letter of a type. -/
def onLetter (s : State) (ltype : Nat) (f : State → Letter → State) : State :=
  match takeLetter s (fun l => l.ltype == ltype) with
  | some (l, s) => f s l
  | none => s

/-- Is a letter a snapshot letter: SNAP_PART or SNAP_COMMIT with the header of R407? -/
def isSnapLetter (l : Letter) : Bool :=
  (l.ltype == 0x0C || l.ltype == 0x0D) && !l.orig && l.addr == 0xFFFE && l.lfl.testBit 4 && !l.lfl.testBit 0

/-- Run `f` on the oldest snapshot letter of a type. -/
def onSnap (s : State) (ltype : Nat) (f : State → Letter → State) : State :=
  match takeLetter s (fun l => l.ltype == ltype && isSnapLetter l) with
  | some (l, s) => f s l
  | none => s

/-! ### Block reset (R415) -/

def tanReset : TanSt := ⟨[], [], [], none, 0, 0, none, none, none, [], none, 0⟩

def tanBlockReset (s : State) : State :=
  if isTile s then
    let keep := s.tan.chosen
    let s := resetRegs s 0x100000 0x110000
    tanRechoose { s with tan := { tanReset with chosen := keep } }
  else
    let s := if isSet s F.TAN_CFG_EN then genRelease s (getF s F.TAN_CFG_HBGEN) else s
    let s := snapsAbort s
    let s := resetRegs s 0x100000 0x110000
    tanEvent { s with tan := tanReset }

/-- The end of a block reset of TAN: beacons that came during it are not learned (R415). -/
def tanResetEnd (s : State) : State := { s with chn := { s.chn with rx := s.chn.rx.filter (fun x => cellKind x.cell != 6) } }

/-! ### The commands -/

/-- BEACON_CELL (R396): the oldest beacon consumed by a tile. -/
def execBeaconCell (s : State) : Result :=
  whenOn 0x10 s (fun s => if isTile s then
    match takeRx s (fun c => cellKind c == 6) with | some (x, s) => beaconTile s x | none => s else s)

/-- PEER_BEACON (R400): the oldest beacon consumed by a sender. -/
def execPeerBeacon (s : State) : Result :=
  whenOn 0x10 s (fun s => if isSender s then
    match takeRx s (fun c => cellKind c == 6) with | some (x, s) => peerBeacon s x | none => s else s)

/-- CLAIM_EXPIRY (R396). -/
def execClaimExpiry (dt p : Nat) (s : State) : Result := whenOn 0x10 (advance dt s) (fun s => claimExpiry s p)

/-- HEARTBEAT_PULSE (R399). -/
def execHeartbeatPulse (dt : Nat) (s : State) : Result := whenOn 0x10 (advance dt s) heartbeat

/-- REVERT_HOLD_EXPIRY (R402). -/
def execRevertHoldExpiry (dt : Nat) (s : State) : Result := whenOn 0x10 (advance dt s) revertExpiry

/-- SENDER_CADENCE (R239); snapshots whose commit has left complete (R406). -/
def execSenderCadence (dt : Nat) (slots : List Nat) (s : State) : Result :=
  whenOn 0x0C (advance dt s) (fun s => snapSettle (senderCadence s slots))

/-- SNAP_ENTRY (R406): the next SNAP entry starts when none is in progress. `host` answers reads of host-backed pages. -/
def execSnapEntry (host : HostRes) (s : State) : Result :=
  whenOn 0x10 s (fun s => if s.tan.snaps.isEmpty then onEntryRead s 0x48 snapWaits (fun s it => snapEntry s it host) else s)

/-- SNAP_COMMIT_REPEAT (R406). -/
def execSnapCommitRepeat (dt : Nat) (s : State) : Result := whenOn 0x10 (advance dt s) commitRepeat

/-- SNAP_PART_LETTER (R408). -/
def execSnapPartLetter (host : HostRes) (s : State) : Result :=
  whenOn 0x10 s (fun s => onSnap s 0x0C (fun s l => snapPart s l host))

/-- Does the data read of a waiting commit go on: it waits no longer for Bus Master Enable (R97)? -/
def commitGoes (s : State) : Bool := commitReady s && upOpen s

/-- SNAP_COMMIT_LETTER (R408): a commit whose data read waited goes on; else the oldest commit letter is taken. -/
def execSnapCommitLetter (host : HostRes) (s : State) : Result :=
  whenOn 0x10 s (fun s => if commitGoes s then tryCommit s host else onSnap s 0x0D (fun s l => snapCommit s l host))

/-- SNAP_WAIT_TIMEOUT (R408). -/
def execSnapWaitTimeout (dt : Nat) (s : State) : Result := whenOn 0x10 (advance dt s) snapTimeout

end Sys2Proof.Machine
end

