-- ==== Sys2Proof/Machine/Lnk.lean ====
section
/-! DEFINITION. LNK: bring-up, loss, sparing, adaptation, timing ports and blocks of the chain ports (R261 to R309), and the end
of a recalibration that one of these cuts short (R525). -/

namespace Sys2Proof.Machine

/-! ### Ports and lanes -/

def tapsReset : Taps := List.replicate 9 0

/-- The taps a receiver can hold: CTLE peaking from 0 to 15 dB, and 8 DFE taps (R264). -/
def tapsOf (t : Taps) : Taps := (List.range 9).map (fun i => if i = 0 then clip 0 15 (t.getD 0 0) else t.getD i 0)

def laneReset : LaneSt := ⟨tapsReset, none, tapsReset, 0, 0, 0, 3, 3, 0, 0, none, none, none⟩

def portReset : PortSt :=
  { partner := none, nonce := 0, fails := 0, wake := 0, trial := 0, bad := 0, lost := 0, errRun := 0, rxScr := none, rsd := false,
    fwd := false, seeded := 0, copy := 0, steer := none, steerAt := 0, steerDue := false, fill := 8, since := 0, okRun := 0, lanes := [] }

def port (s : State) (p : Nat) : PortSt := tget portReset s.lnk.ports p

def setPort (s : State) (p : Nat) (x : PortSt) : State := { s with lnk := { s.lnk with ports := tset portReset s.lnk.ports p x } }

/-- A physical lane of a port. -/
def PortSt.lane (x : PortSt) (l : Nat) : LaneSt := x.lanes.getD l laneReset

/-- The port with one lane replaced. -/
def PortSt.setLane (x : PortSt) (l : Nat) (y : LaneSt) : PortSt :=
  { x with lanes := (List.range 5).map (fun i => if i = l then y else x.lane i) }

/-- Stages and states of a port (R281, R304). -/
def pOff : Nat := 0
def pDetect : Nat := 1
def pCdr : Nat := 2
def pComma : Nat := 3
def pPolarity : Nat := 4
def pOrder : Nat := 5
def pDeskew : Nat := 6
def pSpare : Nat := 7
def pConfirm : Nat := 8
def pFec : Nat := 9
def pUp : Nat := 0xA
def pTest : Nat := 0xB
def pBackoff : Nat := 0xC

def pState (s : State) (p : Nat) : Nat := getF s (F.LNK_PSTAT_STATE p)

/-- A stage or state of a port begins. -/
def setStage (s : State) (p st : Nat) : State := setF (setPort s p { port s p with since := upNs s }) (F.LNK_PSTAT_STATE p) st

/-- The receivers of a port stop: no lane is locked, aligned or carries a logical lane (R286, R308). -/
def lanesDark (s : State) (p : Nat) : State :=
  (List.range 5).foldl (fun s l =>
    let i := 5 * p + l
    setF (setF (setF s (F.LNK_LSTAT_CDR i) 0) (F.LNK_LSTAT_ALIGN i) 0) (F.LNK_LSTAT_LOGICAL i) 7) s

/-- Is the receive termination of a port on (R608)? -/
def rxTermination (s : State) (p : Nat) : Bool :=
  !inReset s && power s != 4 && !portDormant s p && pDetect ≤ pState s p && pState s p ≤ pTest

/-- May LNK act on a port at all? -/
def portLive (s : State) (p : Nat) : Bool := blkOn s 0x0E && !portDormant s p

/-- Does a tile forward between its ports (R314)? -/
def forwarding (s : State) (p : Nat) : Bool := isTile s && p < 2 && portUp s 0 && portUp s 1

/-- Is a port's transmitter forwarding: has it sent on a block since both ports are UP (R270)? -/
def fwdOn (s : State) (p : Nat) : Bool := forwarding s p && (port s p).fwd

/-- The transmitters that forward originate their streams again (R270). -/
def stopForward (s : State) : State :=
  [0, 1].foldl (fun s q => if (port s q).fwd then emit (setPort s q { port s q with fwd := false }) (.orig q) else s) s

/-! ### The end of a recalibration (R525) -/

/-- The lane recalibration running on port `p`. -/
def recalOn (s : State) (p : Nat) : Option Recal :=
  match s.cal.run with
  | some r => if r.port = p then some r else none
  | none => none

/-- Put taps into a lane. -/
def setTaps (s : State) (p l : Nat) (t : Taps) : State :=
  let x := port s p
  setPort s p (x.setLane l { x.lane l with taps := t })

/-- The running recalibration ends without completing: saved taps, code, and the copy released unless it must stay. -/
def calAbort (s : State) (c : Status) (keepCopy : Bool := false) : State :=
  match s.cal.run with
  | none => s
  | some r =>
    let s := setTaps s r.port r.lane r.saved
    let s := if keepCopy ∨ r.logical = 4 then s else setF s (F.LNK_PMAP_PANSEL r.port) 0
    let s := setF s (F.LNK_LSTAT_FROZEN (5 * r.port + r.lane)) 0
    let s := { s with cal := { s.cal with run := none } }
    let s := setF (incSat s F.CAL_STAT_ABORTS) F.CAL_STAT_LASTCODE c.code
    setF s F.CAL_STAT_BUSY 0

/-- The recalibration on port `p`, if one runs there, ends with its port: LNK_PMAP keeps its values (R305, R525). -/
def calAbortOn (s : State) (p : Nat) (c : Status) : State := if (recalOn s p).isSome then calAbort s c true else s

/-! ### DOWN (R288) -/

/-- Everything that stops when a port stops carrying its streams: its insertion queue is dropped and counted, candidates of it
are lost, waiting letters of a sender go, its claim is no longer live, and a recalibration on it ends. -/
def portQuiet (s : State) (p : Nat) : State :=
  let n := insCount s p
  let s := incSat s (F.CHN_PERR_DROP p) n
  let s := { s with chn := { s.chn with ins := s.chn.ins.filter (fun e => e.1 != p), cand := s.chn.cand.filter (fun x => x.port != p) } }
  let s := if isSender s then setTx s p { txPort s p with letters := [] } else s
  let s := lanesDark (calAbortOn s p .linkAbsent) p
  let x := port s p
  setPort s p { x with rxScr := none, errRun := 0, lost := 0, steerDue := false }

/-- A port leaves its state for `st`, its transmitters in electrical idle; from UP this is a DOWN: counted and reported. -/
def portDown (s : State) (p : Nat) (st : Nat := pDetect) : State :=
  let s := emit s (.idleTx p)
  if !portUp s p then setStage (lanesDark s p) p st
  else
    let s := setStage (stopForward (portQuiet s p)) p st
    let s := setF (incSat s (F.LNK_PCNT_DOWNS p)) (F.LNK_PSTAT_CODE p) Status.linkAbsent.code
    let s := raise s 0x0E02 [byte p, byte Status.linkAbsent.code]
    if isTile s then tanDead s p else s

/-! ### Failed attempts (R286, R287) -/

/-- Base of the back-off after the n-th failed attempt in a row, ns. -/
def backoffNs (n : Nat) : Nat := min 1024 (2 ^ min 10 (n - 1)) * 1000000

/-- An attempt fails. -/
def attemptFail (s : State) (p : Nat) (c : Status) : State :=
  let (r, s) := drawNat s
  let x := port s p
  let n := x.fails + 1
  let b := backoffNs n
  let s := setPort s p { x with fails := n, wake := upNs s + b + b * (r % 500001) / 1000000 }
  let s := setF (setF s (F.LNK_PSTAT_FAILSTAGE p) (pState s p)) (F.LNK_PSTAT_CODE p) c.code
  emit (setStage (lanesDark (incSat s (F.LNK_PCNT_FAILS p)) p) p pBackoff) (.idleTx p)

/-- How long a stage may last, ns (R281). -/
def stageLimit (st : Nat) : Nat :=
  if st = pCdr then 2000000 else if st = pComma then 100000 else if st ≤ pSpare then 20000 else if st = pConfirm then 200000 else 1000000

/-! ### Test (R300) -/

/-- Errors that INJRATE has put into lane `i` since its checker counts them: one bit in every 2^(8 + 2 INJRATE). -/
def injCount (s : State) (i : Nat) : Nat :=
  match ((port s (i / 5)).lane (i % 5)).injFrom with
  | some t => (upNs s - t) * (8 * 2 ^ getF s F.LNK_CFG_RATE) / 2 ^ (8 + 2 * getF s (F.LNK_LCTL_INJRATE i))
  | none => 0

/-- `n` of those errors are counted in LNK_LPRBS, and counting goes on from now where `on`. -/
def injSettle (s : State) (i n : Nat) (on : Bool) : State :=
  let s := incSat s (F.LNK_LPRBS_ERR i) n
  let x := port s (i / 5)
  setPort s (i / 5) (x.setLane (i % 5) { x.lane (i % 5) with injFrom := if on then some (upNs s) else none })

/-- The next bit of a test pattern, and its register after it: PRBS7, x^7 + x^6 + 1, or PRBS31, x^31 + x^28 + 1 (R300). -/
def prbsStep (gen v : Nat) : Bool × Nat :=
  let b := if gen = 1 then xor (v.testBit 6) (v.testBit 5) else xor (v.testBit 30) (v.testBit 27)
  (b, (2 * v + b2n b) % 2 ^ (if gen = 1 then 7 else 31))

/-- A locked checker counts the bits that differ from its pattern: the count, and its register after them. -/
def prbsErrors (gen : Nat) : List Bool → Nat → Nat × Nat
  | [], v => (0, v)
  | b :: l, v =>
    let (e, v) := prbsStep gen v
    let (n, v) := prbsErrors gen l v
    (n + b2n (b != e), v)

/-- A checker takes bits: one that is not locked locks where they follow its pattern throughout. DESIGN CHOICE (log entry 139). -/
def checkBits (gen : Nat) (bits : List Bool) (chk : Option Nat) : Nat × Option Nat :=
  match chk with
  | some v => let (n, v) := prbsErrors gen bits v; (n, some v)
  | none =>
    let w := if gen = 1 then 7 else 31
    let v := ofBits (bits.take w)
    let (n, u) := prbsErrors gen (bits.drop w) v
    (0, if v ≠ 0 ∧ w < bits.length ∧ n = 0 then some u else none)

/-- A lane in TEST receives bits (R300): its checker takes them, and a far-end loopback sends them back. A lane in near-end loopback
receives its own. -/
def testLane (s : State) (i : Nat) (b : Bytes) : State :=
  if isSet s (F.LNK_LCTL_NELB i) then s
  else
    let s := if isSet s (F.LNK_LCTL_FELB i) then emit s (.echo i b) else s
    let gen := getF s (F.LNK_LCTL_CHK i)
    if gen = 0 then s
    else
      let x := port s (i / 5)
      let (n, chk) := checkBits gen (toBits b) (x.lane (i % 5)).chk
      let s := incSat (setPort s (i / 5) (x.setLane (i % 5) { x.lane (i % 5) with chk := chk })) (F.LNK_LPRBS_ERR i) n
      setF s (F.LNK_LSTAT_PRBSLOCK i) (b2n chk.isSome)

/-- What comes to a port in TEST in the time of a codeword slot: 600 bits on each lane, 75 bytes of `raw`, bit 7 of each first.
DESIGN CHOICE (log entry 139). -/
def testSlot (s : State) (p : Nat) (raw : Bytes) : State :=
  (List.range 5).foldl (fun s l => testLane s (5 * p + l) (slice raw (75 * l) 75)) s

/-! ### Control (R303) -/

/-- LNK_LCTL of every lane of a port returns to reset. -/
def lctlReset (s : State) (p : Nat) : State :=
  (List.range 5).foldl (fun s l =>
    let s := injSettle s (5 * p + l) (injCount s (5 * p + l)) false
    let x := port s p
    let s := setPort s p (x.setLane l { x.lane l with chk := none })
    setF (s.setWord (R.LNK_LCTL (5 * p + l)) (resetWord (R.LNK_LCTL (5 * p + l)))) (F.LNK_LSTAT_PRBSLOCK (5 * p + l)) 0) s

/-- A port starts to look for its partner: the attempt is new, and its transmit preset is LNK_PCTL.PRESET (R263). -/
def toDetect (s : State) (p : Nat) : State :=
  let x := port s p
  let pr := getF s (F.LNK_PCTL_PRESET p)
  let lanes := (List.range 5).map (fun l => { x.lane l with txPreset := pr })
  emit (setStage (setPort s p { x with trial := 0, bad := 0, lanes := lanes }) p pDetect) (.idleTx p)

/-- What a write of LNK_PCTL does: EN, RETRAIN and TEST as written, with EN and TEST as they were. The port's back-off is not
awaited. In SLEEP every port stays OFF (R514). -/
def portControl (s : State) (p : Nat) (wasEn wasTest retrain : Bool) : State :=
  let en := isSet s (F.LNK_PCTL_EN p)
  let test := isSet s (F.LNK_PCTL_TEST p)
  if power s = 3 then (if wasTest && !(en && test) then lctlReset s p else s)
  else if !en then
    if wasEn then portDown (if wasTest then lctlReset s p else s) p pOff else s
  else if test then
    if wasEn && wasTest then s else portDown s p pTest
  else if wasEn && wasTest then toDetect (lctlReset s p) p
  else if !wasEn || retrain then toDetect (portDown s p) p
  else s

/-- A write of LNK_LCTL on a port in TEST, with `s0` the state before it: the errors so far were injected at the rate before; what the
lane sends changes; in near-end loopback a checker set to the generator's pattern locks to it, and each injected bit is one error
(R300). -/
def laneControl (s0 s : State) (i : Nat) (inj : Bool) : State :=
  if pState s (i / 5) ≠ pTest then s
  else
    let loop := isSet s (F.LNK_LCTL_NELB i) && getF s (F.LNK_LCTL_CHK i) != 0 && getF s (F.LNK_LCTL_CHK i) == getF s (F.LNK_LCTL_GEN i)
    let kept := getF s (F.LNK_LCTL_CHK i) == getF s0 (F.LNK_LCTL_CHK i) && isSet s (F.LNK_LCTL_NELB i) == isSet s0 (F.LNK_LCTL_NELB i)
    let s := injSettle s i (injCount s0 i) (loop && getF s (F.LNK_LCTL_INJRATE i) != 0)
    let x := port s (i / 5)
    let chk := if kept then (x.lane (i % 5)).chk else none
    let s := setPort s (i / 5) (x.setLane (i % 5) { x.lane (i % 5) with chk := chk })
    let s := setF s (F.LNK_LSTAT_PRBSLOCK i) (b2n (loop || chk.isSome))
    let s := emit s (.test i (getF s (F.LNK_LCTL_GEN i)) (getF s (F.LNK_LCTL_INJRATE i)) (isSet s (F.LNK_LCTL_FELB i)))
    if inj then emit (if loop then incSat s (F.LNK_LPRBS_ERR i) else s) (.inject i) else s

/-! ### Training sets (R280) -/

/-- The MODE symbol that this unit sends. -/
def ownMode (s : State) : Nat := getF s F.LNK_CFG_RATE + 4 * getF s F.LNK_CFG_CLKMODE + 8 * b2n (isTile s)

/-- The training set that lane `l` of a port sends: TS2 in CONFIRM, else TS1. Symbol 0 is K28.5. -/
def trainingSet (s : State) (p l : Nat) : Bytes :=
  let y := (port s p).lane l
  let id : Byte := if pState s p = pConfirm then 0x45#8 else 0x4A#8
  let body := [id, byte l, byte (ownMode s)] ++ beBytes 2 s.lnk.nonce ++
    [byte y.preq, byte y.txPreset, byte (b2n (decide (pDeskew < pState s p)))] ++ List.replicate 6 id
  [0xBC#8] ++ body ++ [byte (crc8 body)]

/-- A port that trains sends its sets as they now are. -/
def sendSets (s : State) (p : Nat) : State :=
  if pCdr ≤ pState s p ∧ pState s p ≤ pConfirm then emit s (.train p ((List.range 5).map (trainingSet s p))) else s

/-- Is a received training set valid? One whose CHECK fails is ignored. -/
def setOk (b : Bytes) : Bool := b.length == 16 && byteAt b 0 == 0xBC && crc8 (slice b 1 14) == byteAt b 15

/-- LANE at a receive position; 7 where no valid set came. -/
def StageObs.pos (o : StageObs) : List Nat :=
  (List.range 5).map (fun i => let b := o.sets.getD i []; if setOk b then byteAt b 2 % 8 else 7)

/-- Valid sets arrive: the partner's MODE and NONCE, and the preset it asks for on each lane, which the transmitter applies; a set
received at position i speaks of transmit lane i (R283, R304). DESIGN CHOICE (log entry 138). -/
def readSets (s : State) (p : Nat) (sets : List Bytes) : State :=
  (List.range 5).foldl (fun s i =>
    let b := sets.getD i []
    if setOk b then
      let x := port s p
      let s := setPort s p { x.setLane i { x.lane i with txPreset := byteAt b 6 % 8 } with nonce := beAt b 4 2 }
      setF s (F.LNK_PSTAT_PMODE p) (byteAt b 3)
    else s) s

/-! ### Bring-up (R281 to R285) -/

/-- A receiver-detect pulse, with the number of TX lanes that find termination. -/
def receiverDetect (s : State) (p found : Nat) : State :=
  if pState s p ≠ pDetect then s
  else if 4 ≤ found then
    let x := port s p
    let pr := getF s (F.LNK_PCTL_PRESET p)
    let lanes := (List.range 5).map (fun l => { x.lane l with txPreset := pr, preq := 0, bestEye := 0, bestPreset := 0 })
    sendSets (setStage (setPort s p { x with trial := 0, bad := 0, okRun := 0, rxScr := none, lanes := lanes }) p pCdr) p
  else setF s (F.LNK_PSTAT_CODE p) Status.linkAbsent.code

/-- Count code violations and disparity errors on physical lanes of a port (R298). -/
def countLanes (s : State) (p : Nat) (cv disp : List Nat) : State :=
  let s := cv.foldl (fun s l => if l < 5 then incSat s (F.LNK_LCV_CV (5 * p + l)) else s) s
  disp.foldl (fun s l => if l < 5 then incSat s (F.LNK_LCV_DISP (5 * p + l)) else s) s

/-- A trial of a partner preset ends with the eye width it gave on each lane; after P7 the widest stays (R283). -/
def presetTrial (s : State) (p : Nat) (o : TrialObs) : State :=
  if pState s p ≠ pCdr ∨ 8 ≤ (port s p).trial then s
  else
    let s := readSets (countLanes s p o.cv o.disp) p o.sets
    let x := port s p
    let step (l : Nat) : LaneSt :=
      let y := x.lane l
      let e := o.eyes.getD l 0
      let y := if x.trial = 0 ∨ y.bestEye < e then { y with bestEye := e, bestPreset := x.trial } else y
      { y with preq := if x.trial = 7 then y.bestPreset else x.trial + 1 }
    sendSets (setPort s p { x with trial := x.trial + 1, lanes := (List.range 5).map step }) p

/-- Physical lanes of a mask that pass. -/
def maskCount (m : Nat) : Nat := ((List.range 5).filter (fun l => m.testBit l)).length

/-- Lane number that the partner's order gives to a physical lane. -/
def laneNo (s : State) (p l : Nat) : Nat := if isSet s (F.LNK_PMAP_REV p) then 4 - l else l

/-- Physical lane that carries a lane number. -/
def physLane (s : State) (p n : Nat) : Nat := laneNo s p n

/-- Lanes of a mask that passed before. -/
def passMask (x : PortSt) (lanes : Nat) : Nat :=
  ((List.range 5).filter (fun l => lanes.testBit l && !x.bad.testBit l)).foldl (fun a l => a + 2 ^ l) 0

/-- A lane condition met on the lanes of `m`; the others count as failed. -/
def stageLanes (s : State) (p m : Nat) (f : Nat → Fld) : State :=
  let s := (List.range 5).foldl (fun s l => setF s (f (5 * p + l)) (b2n (m.testBit l))) s
  let x := port s p
  setPort s p { x with bad := 31 - m }

/-- The lanes of a mask on which valid sets came. -/
def readLanes (m : Nat) (pos : List Nat) : List Nat := (List.range 5).filter (fun l => m.testBit l && pos.getD l 7 != 7)

/-- The order of the lanes that pass: identity, reversed, or neither (R284). -/
def laneOrder (m : Nat) (pos : List Nat) : Option Bool :=
  let ls := readLanes m pos
  if ls.all (fun l => pos.getD l 7 == l) then some false
  else if ls.all (fun l => pos.getD l 7 == 4 - l) then some true
  else none

/-- ORDER passes where at least four lanes bring valid sets (R281). LNK_PMAP of an attempt that reaches ORDER: only REV and INV are
known (R305). -/
def stageOrder (s : State) (p : Nat) (o : StageObs) : State :=
  let m := passMask (port s p) o.lanes
  if (readLanes m o.pos).length < 4 then s
  else
  match laneOrder m o.pos with
  | none => attemptFail s p .illegalValue
  | some rev =>
    let inv := getF s (F.LNK_PMAP_INV p)
    let s := s.setWord (R.LNK_PMAP p) 0#32
    let s := setF (setF s (F.LNK_PMAP_REV p) (b2n rev)) (F.LNK_PMAP_INV p) inv
    setStage s p pDeskew

/-- Which logical lane each physical lane carries (R308). -/
def showLogical (s : State) (p : Nat) : State :=
  let bad := (port s p).bad
  (List.range 5).foldl (fun s l =>
    let n := laneNo s p l
    let v := if bad.testBit l then 7
      else if n = 4 ∧ isSet s (F.LNK_PMAP_SPARED p) then getF s (F.LNK_PMAP_SPAREFOR p)
      else n
    setF s (F.LNK_LSTAT_LOGICAL (5 * p + l)) v) s

/-- SPARE: at most one lane may be missing (R285). -/
def stageSpare (s : State) (p : Nat) : State :=
  let miss := (List.range 5).filter (fun l => (port s p).bad.testBit l)
  match miss with
  | [] => setStage (showLogical s p) p pConfirm
  | [l] =>
    let n := laneNo s p l
    let s := if n = 4 then setF s (F.LNK_PMAP_NOPAN p) 1
      else
        let x := port s p
        let s := setPort s p { x with steer := some n }
        let s := setF (setF s (F.LNK_PMAP_SPARED p) 1) (F.LNK_PMAP_SPAREFOR p) n
        setF (setF s (F.LNK_PMAP_PANSRC p) n) (F.LNK_PMAP_PANSEL p) 1
    setStage (showLogical s p) p pConfirm
  | _ => attemptFail s p .noResource

/-- Adaptation starts from the stored set of the present band, where one exists (R524); its eye is shown until a
recalibration completes (R534). -/
def startLane (s : State) (p l : Nat) (eye : Nat × Nat) : State :=
  let i := 5 * p + l
  let x := port s p
  let y := x.lane l
  let t := (s.cal.sets.find? (fun e => e.1 == 3 * i + s.cal.set)).elim y.taps Prod.snd
  let s := setPort s p (x.setLane l { y with taps := t, upTaps := t, good := none, goodRun := 0, lowRun := 0, holdTo := 0, reload := none })
  if getF s (F.CAL_LCNT_COUNT i) = 0 then
    setF (setF (setF s (F.CAL_LQUAL_EW i) (min 63 eye.1)) (F.CAL_LQUAL_EH i) (min 255 eye.2)) (F.CAL_LQUAL_SET i) s.cal.set
  else s

/-- Ask the partner to copy a lane: an originating transmitter sends the STR at its next block position, a forwarding one in place of
the next FWB it receives (R270, R294). -/
def steerSend (s : State) (p n : Nat) : State :=
  let x := port s p
  if fwdOn s p then setPort s p { x with steer := some n, steerAt := upNs s, steerDue := true }
  else emit (setPort s p { x with steer := some n, steerAt := upNs s }) (.steer p n false)

/-- Send a steer request for a lane. -/
def steerFor (s : State) (p n : Nat) : State := steerSend (setF s (F.LNK_PMAP_PANSRC p) n) p n

/-- A port reaches UP (R282): a lane spared in bring-up is asked for. -/
def chainUp (s : State) (p : Nat) (o : StageObs) : State :=
  let x := port s p
  let new := x.partner != some x.nonce
  let s := setPort s p { x with partner := some x.nonce, fails := 0, errRun := 0, lost := 0, steer := none, steerDue := false }
  let s := (List.range 5).foldl (fun s l => startLane s p l (o.eyes.getD l (0, 0))) s
  let s := incSat (preqRestart (setStage s p pUp) p) (F.LNK_PCNT_UPS p)
  let s := if isSet s (F.LNK_PMAP_SPARED p) then steerFor s p (getF s (F.LNK_PMAP_SPAREFOR p)) else s
  let s := if new then setF s (F.LNK_PSTAT_NEWPART p) 1 else s
  sendHeld (raise s 0x0E01 [byte p, byte (b2n new)])

/-- A stage before FEC that meets its completion condition gives way to the next. -/
def stagePass (s : State) (p : Nat) (o : StageObs) : State :=
  let x := port s p
  let m := passMask x o.lanes
  let st := pState s p
  if st = pCdr then
    if 8 ≤ x.trial ∧ 4 ≤ maskCount m then setStage (stageLanes s p m F.LNK_LSTAT_CDR) p pComma else s
  else if st = pComma then
    if 4 ≤ maskCount m then setStage (stageLanes s p m F.LNK_LSTAT_ALIGN) p pPolarity else s
  else if st = pPolarity then
    if 4 ≤ maskCount m then
      let s := setPort s p { x with bad := 31 - m }
      setStage (setF s (F.LNK_PMAP_INV p) o.inv) p pOrder
    else s
  else if st = pOrder then stageOrder s p o
  else if st = pDeskew then
    if 80 < o.skew then attemptFail s p .range else setStage (setF s (F.LNK_PMAP_SKEW p) o.skew) p pSpare
  else if st = pSpare then stageSpare (setPort s p { x with bad := 31 - m }) p
  else if st = pConfirm then
    emit (setStage (setPort s p { x with seeded := upNs s, rxScr := none, rsd := false, okRun := 0, copy := 0, fill := 8 }) p pFec) (.block p 2)
  else s

/-- A bring-up stage meets its completion condition; from CDR to CONFIRM the sets that came last are read, with the errors in them.
DESIGN CHOICE (log entry 56). -/
def stageDone (s : State) (p : Nat) (o : StageObs) : State :=
  let s := if pCdr ≤ pState s p ∧ pState s p ≤ pConfirm then readSets (countLanes s p o.cv o.disp) p o.sets else s
  if pState s p = pFec then (if (port s p).rsd ∧ 4 ≤ (port s p).okRun then chainUp s p o else s)
  else sendSets (stagePass s p o) p

/-! ### Sparing and steering (R291 to R294) -/

/-- 256 blocks, of trains of 4,083 symbols or more, take at least this long, ns (R267, R274). -/
def steerPeriod (s : State) : Nat := 326640 * 2 ^ (2 - getF s F.LNK_CFG_RATE)

/-- The steer request that stands goes out again (R294). -/
def steerRepeat (s : State) (p : Nat) : State :=
  let x := port s p
  match x.steer with
  | some n => if portUp s p ∧ x.steerAt + steerPeriod s ≤ upNs s then steerSend s p n else s
  | none => s

/-- LNK_LSTAT of lanes as the pannier lane takes over logical lane `n` (R308). -/
def showSpared (s : State) (p n : Nat) : State :=
  setF (setF s (F.LNK_LSTAT_LOGICAL (5 * p + physLane s p n)) 7) (F.LNK_LSTAT_LOGICAL (5 * p + physLane s p 4)) n

/-- The pannier lane of an UP port loses signal or lock: a lane that it stands in for is lost; else it can stand in for none.
DESIGN CHOICE (log entry 59). -/
def pannierLost (s : State) (p : Nat) : State :=
  if isSet s (F.LNK_PMAP_SPARED p) then portDown s p
  else if isSet s (F.LNK_PMAP_NOPAN p) then s
  else
    let x := port s p
    let i := 5 * p + physLane s p 4
    let s := setF (setF (setPort s p { x with lost := x.lost + 2 ^ 4 }) (F.LNK_LSTAT_CDR i) 0) (F.LNK_LSTAT_ALIGN i) 0
    let s := setF s (F.LNK_LSTAT_LOGICAL i) 7
    if (recalOn s p).isSome then calAbort s .aborted else s

/-- A logical lane of an UP port loses signal or lock (R288, R293); lane 4 is the pannier lane. DESIGN CHOICE (log entry 59). -/
def laneLost (s : State) (p n : Nat) : State :=
  let x := port s p
  if !portUp s p ∨ 5 ≤ n ∨ x.lost.testBit n then s
  else if n = 4 then pannierLost s p
  else if x.lost ≠ 0 ∨ isSet s (F.LNK_PMAP_SPARED p) ∨ isSet s (F.LNK_PMAP_NOPAN p) then portDown s p
  else
    let i := 5 * p + physLane s p n
    let s := setF (setF (setPort s p { x with lost := 2 ^ n }) (F.LNK_LSTAT_CDR i) 0) (F.LNK_LSTAT_ALIGN i) 0
    let inUse := isSet s (F.LNK_PMAP_PANSEL p) && getF s (F.LNK_PMAP_PANSRC p) == n
    let s := if (recalOn s p).isSome then calAbort s .aborted inUse else s
    let s := setF (setF s (F.LNK_PMAP_SPARED p) 1) (F.LNK_PMAP_SPAREFOR p) n
    if inUse then showSpared s p n else steerFor (setF s (F.LNK_PMAP_PANSEL p) 0) p n

/-- A steer block from the partner (R294): from the first codeword slot after the next block that the transmitter sends, its pannier
lane copies the lane named (R291). -/
def steerReceive (s : State) (p cmd ncmd : Nat) : State :=
  if (portUp s p ∨ pState s p = pFec) ∧ cmd % 256 + ncmd % 256 = 255 then
    emit (setPort s p { port s p with copy := cmd % 4 }) (.pannier p (cmd % 4))
  else s

/-- The receiver switches to the copy of a spared lane, or from a copy that nothing needs (R292). -/
def pannierSwitch (s : State) (p : Nat) : State :=
  if !portUp s p ∨ isSet s (F.LNK_PMAP_NOPAN p) ∨ (recalOn s p).isSome then s
  else if isSet s (F.LNK_PMAP_SPARED p) then
    if getF s (F.LNK_PMAP_PANSRC p) = getF s (F.LNK_PMAP_SPAREFOR p) then
      setF (showSpared s p (getF s (F.LNK_PMAP_SPAREFOR p))) (F.LNK_PMAP_PANSEL p) 1
    else s
  else setF s (F.LNK_PMAP_PANSEL p) 0

/-! ### Blocks (R266, R269, R270, R279) -/

/-- One step of a scrambler, and its keystream bit (R271). -/
def scrStep (v : Nat) : Bool × Nat :=
  let b := xor (v.testBit 30) (v.testBit 27)
  (b, (v * 2 + b2n b) % 2 ^ 31)

/-- One keystream byte. -/
def scrByte (v : Nat) : Nat × Nat :=
  (List.range 8).foldl (fun (a : Nat × Nat) i => let (b, w) := scrStep a.2; (a.1 + b2n b * 2 ^ i, w)) (0, v)

/-- Exclusive or of bytes with the keystream. DESIGN CHOICE (log entry 57). -/
def scramble (v : Nat) : Bytes → Bytes × Nat
  | [] => ([], v)
  | x :: t =>
    let (k, v) := scrByte v
    let (r, v) := scramble v t
    (byte (x.toNat ^^^ k) :: r, v)

/-- Advance a scrambler by `n` bytes. -/
def scrSkip : Nat → Nat → Nat
  | 0, v => v
  | n + 1, v => scrSkip n (scrByte v).2

def scrSeed : Nat := 0x3A1C5E97

/-- The block that markers on the four logical data lanes spell: a marker on three of them, else FWB.
DESIGN CHOICE (log entry 58). -/
def blockKind (marks : List Nat) : Nat :=
  ([1, 2, 3].find? (fun k => 3 ≤ (marks.take 4).count k)).getD 0

/-- The block that a received one becomes on the other port, whose transmitter forwards from then on (R266, R270): an STR goes on as
FWB; an FWB gives way to an STR that the outgoing link needs; SOF and RSD reload the transmit scrambler too. -/
def blockForward (s : State) (q kind len : Nat) : State :=
  let y := { port s q with fwd := true }
  if kind = 1 ∨ kind = 2 then emit (setPort s q { y with seeded := upNs s }) (.fwdBlock q kind len)
  else
    match kind, y.steerDue, y.steer with
    | 0, true, some n => emit (setPort s q { y with steerDue := false }) (.steer q n true)
    | _, _, _ => emit (setPort s q y) (.fwdBlock q 0 len)

/-- A lane that reverted reloads its taps (R296). -/
def laneReload (y : LaneSt) : LaneSt := match y.reload with | some t => { y with taps := t, reload := none } | none => y

/-- A block arrives: COM on `coms` of the data lanes, their markers (1 SOF, 2 RSD, 3 STR), the symbols of the slot it cuts short, its
length, the fill of the elastic buffer, and the physical lanes with a code violation or a disparity error in it. A buffer that is
not bypassed inserts or deletes one FIL (R275, R279). -/
def blockReceive (s : State) (p coms : Nat) (marks : List Nat) (cut len fill : Nat) (cv disp : List Nat) : State :=
  let s := countLanes s p cv disp
  if coms < 3 then s
  else
    let k := blockKind marks
    let x := port s p
    if !(portUp s p || pState s p == pFec) then s
    else
      let scr := if k = 1 ∨ k = 2 then some scrSeed else x.rxScr.map (scrSkip (4 * cut))
      let held := k = 3 ∨ s.lnk.bypass = some p
      let len := if held then len else if fill < 6 then len + 1 else if 10 < fill then len - 1 else len
      let fill := if held then fill else if fill < 6 then fill + 1 else if 10 < fill then fill - 1 else fill
      let s := setPort s p { x with rxScr := scr, fill := fill, rsd := x.rsd || k == 2, okRun := if k = 2 ∧ !x.rsd then 0 else x.okRun,
                                    lanes := x.lanes.map laneReload }
      let s := if cut = 0 then s else incSat s (F.LNK_PERR_RUNT p)
      if forwarding s p ∧ blkOn s 0x0D then blockForward s (1 - p) k len else s

/-- The fill reaches 0 or 16: the elastic buffer slips, `cut` symbols into a codeword slot (R279). A bypassed port has none in its
path (R275). -/
def elasticSlip (s : State) (p cut : Nat) : State :=
  if (portUp s p ∨ pState s p = pFec) ∧ s.lnk.bypass ≠ some p then
    let x := port s p
    incSat (incSat (setPort s p { x with fill := 8, rxScr := x.rxScr.map (scrSkip (4 * cut)) }) (F.LNK_PERR_SLIP p)) (F.LNK_PERR_RUNT p)
  else s

/-- 2^24 ns without SOF or RSD on an originating transmitter (R270). -/
def reseed (s : State) (p : Nat) : State :=
  let x := port s p
  if portUp s p && !fwdOn s p && x.seeded + 2 ^ 24 ≤ upNs s then
    emit (setPort s p { x with seeded := upNs s }) (.block p 2)
  else s

/-! ### Adaptation (R295, R296, R527) -/

/-- Does a recalibration hold this lane? -/
def heldByCal (s : State) (p l : Nat) : Bool :=
  match recalOn s p with | some r => r.lane == l && (1 ≤ r.stage || r.logical == 4) | none => false

/-- A train window of a lane ends, with the adjacent bit pairs that differ of 40,799, and the taps that adaptation gives. -/
def adaptWindow (s : State) (p l diff : Nat) (taps : Taps) : State :=
  let x := port s p
  if 5 ≤ l then s
  else
    let ok := portUp s p && x.rxScr.isSome && 4 * 40799 ≤ 10 * diff && 10 * diff ≤ 6 * 40799 && (x.lane l).holdTo ≤ upNs s && !heldByCal s p l
    let s := setF s (F.LNK_LSTAT_FROZEN (5 * p + l)) (b2n (!ok))
    if ok then setTaps s p l (tapsOf taps) else s

/-- A lane reverts to its last-good snapshot, or to its taps at UP, which it reloads at the next block (R296). -/
def laneRevert (s : State) (p l : Nat) : State :=
  let x := port s p
  let y := x.lane l
  let s := setPort s p (x.setLane l { y with reload := some (y.good.getD y.upTaps), lowRun := 0, goodRun := 0, holdTo := upNs s + 1000000 })
  let s := incSat s (F.LNK_LSTAT_REVERTS (5 * p + l))
  match recalOn s p with
  | some r => if laneNo s p l = 4 ∧ r.logical ≠ 4 then calAbort s .aborted else s
  | none => s

/-- A margin measurement of a lane. -/
def marginMeasure (s : State) (p l ew eh : Nat) : State :=
  if !portUp s p ∨ 5 ≤ l then s
  else
    let i := 5 * p + l
    let s := setF (setF s (F.LNK_LMARGIN_EW i) (min 63 ew)) (F.LNK_LMARGIN_EH i) (min 255 eh)
    let ok := getF s F.LNK_ADAPTCFG_MINEW ≤ ew ∧ getF s F.LNK_ADAPTCFG_MINEH ≤ eh
    let x := port s p
    let y := x.lane l
    if ok then
      let n := y.goodRun + 1
      setPort s p (x.setLane l (if 10 ≤ n then { y with good := some y.taps, goodRun := 0, lowRun := 0 }
        else { y with goodRun := n, lowRun := 0 }))
    else if heldByCal s p l then setPort s p (x.setLane l { y with goodRun := 0 })
    else if 3 ≤ y.lowRun + 1 then laneRevert s p l
    else setPort s p (x.setLane l { y with lowRun := y.lowRun + 1, goodRun := 0 })

/-! ### The timing port (R276) -/

/-- The source PLL_TX should follow: the timing port of a tile in LOOP-TIMED mode, else REF. -/
def timingSource (s : State) : Nat :=
  if isTile s ∧ getF s F.LNK_CFG_CLKMODE = 0 then (if timingPort s < 4 then timingPort s else 4) else 4

/-- The timing port has changed: PLL_TX enters holdover. DEDUCED (log entry 61). -/
def timingChange (s : State) : State :=
  let t := timingSource s
  if t = s.lnk.source then s
  else
    let s := { s with lnk := { s.lnk with source := t, bypass := none } }
    incSat (setF s F.LNK_TIMING_SRC 5) F.LNK_TIMING_SWITCHES

/-- PLL_TX has moved to its new source. -/
def timingLocked (s : State) : State :=
  if getF s F.LNK_TIMING_SRC = 5 then
    let s := { s with lnk := { s.lnk with bypass := if s.lnk.source < 4 then some s.lnk.source else none } }
    setF s F.LNK_TIMING_SRC s.lnk.source
  else s

/-! ### Block reset (R309) -/

/-- The port records of a block reset: only the partner's NONCE is kept. -/
def portsKept (s : State) : List (Nat × PortSt) :=
  s.lnk.ports.filterMap (fun e => e.2.partner.map (fun n => (e.1, { portReset with partner := some n })))

def lnkBlockReset (s : State) : State :=
  let s := calAbort s .aborted
  let s := (List.range 4).foldl (fun s p => if pState s p = pOff then s else portDown s p pOff) s
  let s := resetRegs s 0xE0000 0xF0000
  { s with lnk := { s.lnk with ports := portsKept s, source := 4, bypass := none } }

/-! ### The commands -/

/-- RECEIVER_DETECT (R281). -/
def execReceiverDetect (dt p found : Nat) (s : State) : Result :=
  let s := advance dt s
  .next (if portLive s p then receiverDetect s p found else s)

/-- PRESET_TRIAL (R283). -/
def execPresetTrial (p : Nat) (o : TrialObs) (s : State) : Result :=
  .next (if portLive s p then presetTrial s p o else s)

/-- LINK_STAGE_DONE (R281). -/
def execLinkStageDone (p : Nat) (o : StageObs) (s : State) : Result := .next (if portLive s p then stageDone s p o else s)

/-- The code of an attempt that ends in its stage (R285, R286): NO_RESOURCE where two lanes or more have failed CDR, COMMA or POLARITY
as the stage times out, else LINK_ABSENT. DEDUCED (log entry 162). -/
def attemptCode (s : State) (x : AttemptEnd) : Status :=
  let st := pState s x.port
  if !x.los ∧ pCdr ≤ st ∧ st ≤ pPolarity ∧ maskCount (passMask (port s x.port) x.lanes) ≤ 3 then .noResource else .linkAbsent

/-- LINK_ATTEMPT_FAIL (R286): a stage from CDR on has lasted its time (R281), or with `los` signal is lost. -/
def execLinkAttemptFail (x : AttemptEnd) (s : State) : Result :=
  let s := advance x.dt s
  .next (if portLive s x.port && 2 ≤ pState s x.port && pState s x.port ≤ 9 &&
      (x.los || decide ((port s x.port).since + stageLimit (pState s x.port) ≤ upNs s)) then attemptFail s x.port (attemptCode s x) else s)

/-- LINK_BACKOFF_END (R287). -/
def execLinkBackoffEnd (dt p : Nat) (s : State) : Result :=
  let s := advance dt s
  .next (if portLive s p && pState s p == pBackoff && (port s p).wake ≤ upNs s then toDetect s p else s)

/-- CHAIN_DOWN (R288). -/
def execChainDown (p : Nat) (s : State) : Result := .next (if portLive s p && portUp s p then portDown s p else s)

/-- LANE_SPARE (R293). -/
def execLaneSpare (p n : Nat) (s : State) : Result := .next (if portLive s p then laneLost s p n else s)

/-- STEER_RECEIVE (R294). -/
def execSteerReceive (p cmd ncmd : Nat) (s : State) : Result := .next (if portLive s p then steerReceive s p cmd ncmd else s)

/-- STEER_REPEAT (R294). -/
def execSteerRepeat (x : After) (s : State) : Result :=
  let s := advance x.dt s
  .next (if portLive s x.n then steerRepeat s x.n else s)

/-- PANNIER_SWITCH (R292). -/
def execPannierSwitch (p : Nat) (s : State) : Result := .next (if portLive s p then pannierSwitch s p else s)

/-- ELASTIC_SLIP (R279). -/
def execElasticSlip (x : SlipAt) (s : State) : Result := .next (if portLive s x.port then elasticSlip s x.port x.cut else s)

/-- RESEED_TIMER (R270). -/
def execReseedTimer (dt p : Nat) (s : State) : Result :=
  let s := advance dt s
  .next (if portLive s p then reseed s p else s)

/-- BLOCK_RECEIVE (R269). -/
def execBlockReceive (p coms : Nat) (marks : List Nat) (o : BlockObs) (s : State) : Result :=
  .next (if portLive s p then blockReceive s p coms marks o.cut o.len o.fill o.cv o.disp else s)

/-- ADAPT_WINDOW (R295). -/
def execAdaptWindow (p l diff : Nat) (taps : Taps) (s : State) : Result :=
  .next (if portLive s p then adaptWindow s p l diff taps else s)

/-- MARGIN_MEASURE (R296). -/
def execMarginMeasure (p l ew eh : Nat) (s : State) : Result := .next (if portLive s p then marginMeasure s p l ew eh else s)

/-- TIMING_PORT_CHANGE (R276). -/
def execTimingPortChange (s : State) : Result := whenOn 0x0E s timingChange

/-- TIMING_PORT_LOCKED (R276). -/
def execTimingPortLocked (s : State) : Result := whenOn 0x0E s timingLocked

end Sys2Proof.Machine
end

