-- ==== Sys2Proof/Machine/Chn.lean ====
section
/-! DEFINITION. CHN: cells that arrive, forwarding and insertion, roll-calls, letters in reassembly and their checks, SEND
entries and the inbox of a sender (R310 to R355). -/

namespace Sys2Proof.Machine

/-! ### Classification (R311 to R316) -/

/-- Is an address a broadcast? -/
def isBroadcast (a : Nat) : Bool := a == 0xFFFE || a == 0xFFFF

/-- Does a tile hold this postcode? -/
def isOwn (s : State) (a : Nat) : Bool := isSet s F.CHN_POSTCODE_VALID && a == ownPostcode s

/-- Does a tile consume a cell with a good header (R311, R315, R316, R334)? It takes no runs before READY (R85). The type of a
postmark is that of the corrected cell. -/
def tileConsumes (s : State) (c : Bytes) : Bool :=
  let k := cellKind c
  let a := cellAddr c
  if cellOrig c then k == 4 && pmType c != 0
  else if k = 1 ∨ k = 2 then isOwn s a && isReady s
  else if k = 8 then isOwn s a || isBroadcast a || !isSet s F.CHN_POSTCODE_VALID
  else (k == 3 || k == 4 || k == 5 || k == 6) && (isOwn s a || isBroadcast a)

/-- Does a sender consume a cell with a good header (R311, R340, R407)? -/
def senderConsumes (s : State) (c : Bytes) : Bool :=
  let k := cellKind c
  if k = 4 then true
  else if cellOrig c then k == 3 || k == 7
  else if k = 3 then
    bit (byteAt c 11) 4 && byteAt c 5 != getF s F.TAN_CFG_RANK &&
    ((byteAt c 4 != 0x0C && byteAt c 4 != 0x0D) || (cellAddr c == 0xFFFE && !bit (byteAt c 11) 0))
  else k == 6

def consumes (s : State) (c : Bytes) : Bool := if isTile s then tileConsumes s c else senderConsumes s c

/-- Is the slot of this cell free for a cell of the tile: IDLE, or emptied under R317 of a postmark or roll-call that the tile
consumes? -/
def slotEmpty (s : State) (c : Bytes) : Bool :=
  cellKind c == 0 || ((cellKind c == 4 || cellKind c == 8) && tileConsumes s c)

/-- A unicast cell of another chain (R353). DESIGN CHOICE (log entry 62). -/
def misaddressed (s : State) (c : Bytes) : Bool :=
  isTile s && isSet s F.CHN_POSTCODE_VALID && cellKind c != 0 && !cellOrig c && !isBroadcast (cellAddr c) &&
  bits (cellAddr c) 12 4 != bits (ownPostcode s) 12 4

/-- Correct a codeword (R272): the bytes and how many changed. -/
def correct (w : Bytes) : Option (Bytes × Nat) :=
  match (⟨8, 0x11D⟩ : GF).rsDecode 0 16 (w.map BitVec.toNat) with
  | some (l, n) => some (l.map byte, n)
  | none => none

/-- The cell of a codeword as it is classified: the header as received, and the body of a postmark or letter, whose type, rank and
direction decide who consumes it, as corrected (R317, R340). -/
def typedCell (w : Bytes) : Bytes :=
  let c := w.take 224
  if cellKind c = 3 ∨ cellKind c = 4 then match correct w with | some (x, _) => patch c 4 (slice x 4 220) | none => c else c

/-- Is the syndrome of a codeword nonzero? -/
def syndromeBad (w : Bytes) : Bool := !((⟨8, 0x11D⟩ : GF).syndromes 0 16 (w.map BitVec.toNat)).all (· == 0)

/-- A cell goes to its unit. DESIGN CHOICE (log entry 37). -/
def deliver (s : State) (p : Nat) (c : Bytes) (t : Nat) : State :=
  { s with chn := { s.chn with rx := s.chn.rx ++ [⟨p, c, t⟩] } }

/-- A consumed codeword is corrected and delivered, or lost (R315). -/
def consume (s : State) (p : Nat) (w : Bytes) (t : Nat) : State :=
  match correct w with
  | none => incSat s (F.LNK_PFEC_UNCORR p)
  | some (x, n) =>
    let s := incSat s (F.LNK_PFEC_CORR p) n
    let c := x.take 224
    if headerOk c then deliver s p c t else incSat s (F.CHN_PERR_BADHDR p)

/-! ### Transmission of a tile (R317, R318) -/

/-- Send the next cell of port `p`'s insertion queue, if one waits. -/
def sendInserted (s : State) (p : Nat) : State :=
  match insNext s p with
  | none => s
  | some e =>
    let now := stampNow s
    let s := { s with chn := { s.chn with ins := s.chn.ins.erase e } }
    let c := stampCell e.2.mark now e.2.cell
    preqLeft (emit s (.cell p c)) p c now

/-- The slot of a received codeword leaves by the other port: a cell of the tile where the slot is free, else the codeword as
received (R314, R317, R318). -/
def forwardSlot (s : State) (p : Nat) (w : Bytes) (free : Bool) : State :=
  let q := 1 - p
  if free then
    if insCount s q = 0 then emit s (.cell q (zeros 240)) else sendInserted s q
  else emit s (.cell q w)

/-! ### A codeword arrives (R268, R297 to R299, R313 to R316) -/

/-- Physical lane of port `p` that carries logical lane `n`. -/
def carrier (s : State) (p n : Nat) : Nat :=
  ((List.range 5).find? (fun l => getF s (F.LNK_LSTAT_LOGICAL (5 * p + l)) == n)).getD (physLane s p n)

/-- The lane that received entry k of a codeword slot: byte k of the codeword on its logical lane, entry 240 + j symbol j of the
remaining lane (R268, R298). -/
def symbolLane (s : State) (p k : Nat) : Nat :=
  5 * p + (if k < 240 then carrier s p (k % 4)
    else ((List.range 5).find? (fun l => [0, 1, 2, 3].all (fun n => carrier s p n != l))).getD (physLane s p 4))

/-- Count code violations and disparity errors by lane (R298). -/
def countSymbols (s : State) (p : Nat) (cv disp : List Nat) : State :=
  let s := cv.foldl (fun s k => incSat s (F.LNK_LCV_CV (symbolLane s p k))) s
  disp.foldl (fun s k => incSat s (F.LNK_LCV_DISP (symbolLane s p k))) s

/-- What becomes of a codeword whose bytes are `w`. -/
def classify (s : State) (p : Nat) (w : Bytes) : State :=
  let c := w.take 224
  let t := stampNow s
  let fwd := fwdOn s (1 - p)
  if !headerOk c then
    let s := { s with chn := { s.chn with cand := s.chn.cand ++ [⟨p, w, t⟩] } }
    if fwd then forwardSlot s p w false else s
  else if badHeader c then
    let s := incSat s (F.CHN_PERR_BADHDR p)
    if fwd then forwardSlot s p w false else s
  else
    let s := if misaddressed s c then incSat s (F.CHN_PERR_MISADDR p) else s
    let c := typedCell w
    let s := if fwd then forwardSlot s p w (slotEmpty s c) else s
    if consumes s c then consume s p w t else s

/-- A codeword, its scrambled bytes and the bytes with code violations: it is checked (R299), counts toward the four of FEC once RSD
has come (R281), and in UP is classified. -/
def takeCodeword (s : State) (p : Nat) (raw : Bytes) (cv : List Nat) (v : Nat) : State :=
  let x := port s p
  let (plain, v) := scramble v (fit 240 raw)
  let w := (List.range 240).map (fun i => if cv.contains i then 0#8 else plain.getD i 0#8)
  let bad := syndromeBad w
  let s := setPort s p { x with rxScr := some v, errRun := if bad then x.errRun + 1 else 0,
                                okRun := if bad ∨ !x.rsd then 0 else x.okRun + 1 }
  let s := if bad then incSat s (F.LNK_PERR_ERRCW p) else s
  if !portUp s p then s
  else if 16 ≤ (port s p).errRun then portDown s p
  else if !blkOn s 0x0D then s
  else
    let s := classify s p w
    if isTile s ∧ !fwdOn s p then sendInserted s p else s

/-- A codeword slot of port `p`: 240 bytes as decoded, still scrambled, the bytes with code violations and those with disparity
errors. Before the receive scrambler is loaded its symbols are only counted (R298). DESIGN CHOICE (log entry 60). -/
def cellForward (s : State) (p : Nat) (raw : Bytes) (cv disp : List Nat) : State :=
  if pState s p = pTest then testSlot s p raw
  else if !(portUp s p || pState s p == pFec) then s
  else
    let s := countSymbols s p cv disp
    match (port s p).rxScr with
    | some v => takeCodeword s p raw cv v
    | none => s

/-- LNK has finished with the oldest candidate (R315). DEDUCED (log entry 63). -/
def candidateDone (s : State) : State :=
  match s.chn.cand with
  | [] => s
  | x :: l =>
    let s := { s with chn := { s.chn with cand := l } }
    match correct x.cell with
    | none => incSat (incSat s (F.LNK_PFEC_UNCORR x.port)) (F.CHN_PERR_CAND x.port)
    | some (w, n) =>
      let s := incSat s (F.LNK_PFEC_CORR x.port) n
      let c := w.take 224
      if !headerOk c ∨ badHeader c then incSat s (F.CHN_PERR_BADHDR x.port)
      else
        let s := if misaddressed s c then incSat s (F.CHN_PERR_MISADDR x.port) else s
        if consumes s c then deliver s x.port c x.time else s

/-- The oldest cell of port `p`'s insertion queue has waited 1 ms (R318). -/
def insertTimeout (s : State) (p : Nat) : State :=
  match s.chn.ins.find? (fun e => e.1 == p && e.2.at0 + 1000000 ≤ upNs s) with
  | some e => incSat { s with chn := { s.chn with ins := s.chn.ins.erase e } } (F.CHN_PERR_DROP p)
  | none => s

/-! ### Replies of a tile (R334) -/

/-- Send a letter as a reply on port `p`: sealed with the keys named, slot, SESSION and letter key, where they are still known.
DESIGN CHOICE (log entry 141). -/
def tileReply (s : State) (p ltype rank lid : Nat) (slot : Option (Nat × Nat × Bytes)) (content : Bytes) : State :=
  let a := if isSet s F.CHN_POSTCODE_VALID then ownPostcode s else 0
  match slot.bind (fun k => (sealReply s k.2.1 k.2.2 ltype rank lid a (3 + 4 * (k.1 % 4)) content).map (fun r => (k.1, r))) with
  | some (k, c, s) => insertCells s p 1 (letterCells a ltype rank lid (3 + 4 * (k % 4)) true c)
  | none => insertCells s p 1 (letterCells a ltype rank lid 2 true content)

/-- Reply to a request of a sender; a broadcast and a MODE get none. -/
def reply (s : State) (l : Letter) (content : Bytes) : State :=
  if isBroadcast l.addr ∨ l.ltype = 5 then s else tileReply s l.port l.ltype l.rank l.lid l.slot content

/-- A tile refuses a letter (R333). -/
def refuse (s : State) (l : Letter) (c : Status) : State := reply (incSat s F.CHN_LSTAT_REFUSED) l [byte c.code]

/-- Reply with a code and results; any code but OK counts as a refusal (R353). -/
def answer (s : State) (l : Letter) (c : Status) (rest : Bytes) : State :=
  reply (if c = .ok then s else incSat s F.CHN_LSTAT_REFUSED) l (byte c.code :: rest)

/-! ### Opening letters (R332, R333) -/

/-- Letter types a tile may receive. -/
def tileTypes : List Nat := [1, 2, 3, 4, 5, 6, 7, 8, 9, 0x0A]

/-- Types accepted unsealed while SEALLET = 1. -/
def unsealedTypes : List Nat := [6, 7, 8]

/-- Types served while the tile is not READY. -/
def holdTypes : List Nat := [8]

/-- Open a sealed letter at a tile: the code, the plaintext, and the state with the LSEQ noted. -/
def openAtTile (s : State) (l : Letter) : Status × Bytes × State :=
  let k := bits l.lfl 2 2
  match keySlot s k with
  | none => (.integrity, [], s)
  | some x =>
    let bc := isBroadcast l.addr
    match openLetter (if bc then x.gkey else x.lkey) x.session (letterAad l.ltype l.rank l.lid l.addr l.lfl) l.content with
    | none => (.integrity, [], s)
    | some (n, fromTile, p) =>
      if fromTile then (.integrity, [], s)
      else if !lseqFresh (if bc then x.grx else x.lrx) n then (.staleState, [], s)
      else (.ok, p, touchKeySlot s k (fun y => if bc then { y with grx := some n } else { y with lrx := some n }))

/-- The keys that a sealed letter names, as a reply to it needs them. -/
def letterKeys (s : State) (l : Letter) : Option (Nat × Nat × Bytes) :=
  (keySlot s (bits l.lfl 2 2)).map (fun x => (bits l.lfl 2 2, x.session, x.lkey))

/-- A complete letter reaches a tile. A letter whose tag holds is answered under its seal, a stale one too (R332).
DESIGN CHOICE (log entry 141). -/
def letterAtTile (s : State) (l : Letter) : State :=
  let sealed := l.lfl.testBit 0
  if !tileTypes.contains l.ltype then refuse s l .illegalValue
  else if !(sealed || !isSet s F.CHN_CFG_SEALLET || unsealedTypes.contains l.ltype) then refuse s l .notPermitted
  else if !(isReady s || holdTypes.contains l.ltype) then refuse s l .wrongState
  else if sealed then
    match openAtTile s l with
    | (.ok, p, s) => { s with chn := { s.chn with letters := s.chn.letters ++ [{ l with content := p, slot := letterKeys s l }] } }
    | (c, _, s) => refuse s (if c = .staleState then { l with slot := letterKeys s l } else l) c
  else { s with chn := { s.chn with letters := s.chn.letters ++ [l] } }

/-! ### Segments (R330, R331) -/

/-- The letter header of a cell. -/
def segLetter (x : RxCell) (content : Bytes) : Letter :=
  let c := x.cell
  ⟨x.port, cellAddr c, cellOrig c, byteAt c 5, beAt c 6 2, byteAt c 4, byteAt c 11, content, none, cellKind c, x.time⟩

/-- Are the segment's own fields in range? -/
def segOk (c : Bytes) : Bool :=
  let nseg := byteAt c 9
  let len := byteAt c 10
  1 ≤ nseg && nseg ≤ 32 && byteAt c 8 < nseg && 1 ≤ len && len ≤ 200 && bits (byteAt c 11) 5 3 == 0

/-- Does a segment belong to a reassembly? -/
def segOf (c : Bytes) (r : Reasm) : Bool :=
  r.addr == cellAddr c && r.orig == cellOrig c && r.rank == byteAt c 5 && r.lid == beAt c 6 2

/-- Does a segment agree with the earlier segments of its letter? -/
def segAgrees (c : Bytes) (r : Reasm) : Bool :=
  r.ltype == byteAt c 4 && r.lfl == byteAt c 11 && r.nseg == byteAt c 9 && r.kind == cellKind c

/-- A letter that fails in reassembly is refused (R331, R353): a tile answers it; a sender, to which no letter is a request, only
counts it. DESIGN CHOICE (log entry 64). -/
def segRefuse (s : State) (x : RxCell) (c : Status) : State :=
  if isTile s then refuse s (segLetter x []) c else incSat s F.CHN_LSTAT_REFUSED

/-- A complete letter. -/
def letterDone (s : State) (l : Letter) : State :=
  if isTile s then letterAtTile s l else { s with chn := { s.chn with letters := s.chn.letters ++ [l] } }

/-- The content of a reassembly that holds every segment. -/
def joinSegs (r : Reasm) : Option Bytes :=
  if (List.range r.nseg).all (fun i => r.segs.any (fun g => g.1 == i)) then
    some ((List.range r.nseg).flatMap (fun i => ((r.segs.find? (fun g => g.1 == i)).map Prod.snd).getD []))
  else none

/-- A letter segment. A letter with TOSENDER = 1 is nothing to a tile. DESIGN CHOICE (log entry 64). -/
def segment (s : State) (x : RxCell) : State :=
  let c := x.cell
  if isTile s ∧ bit (byteAt c 11) 4 then s
  else
    let seg := (byteAt c 8, slice c 12 (byteAt c 10))
    match s.chn.reasm.find? (segOf c) with
    | some r =>
      let rest := s.chn.reasm.filter (fun y => !segOf c y)
      if !(segOk c && segAgrees c r) then segRefuse { s with chn := { s.chn with reasm := rest } } x .illegalValue
      else
        let r := if r.segs.any (fun g => g.1 == seg.1) then r else { r with segs := r.segs ++ [seg] }
        match joinSegs r with
        | some b => letterDone { s with chn := { s.chn with reasm := rest } } { segLetter x b with port := r.port }
        | none => { s with chn := { s.chn with reasm := s.chn.reasm.map (fun y => if segOf c y then r else y) } }
    | none =>
      if !segOk c then segRefuse s x .illegalValue
      else if byteAt c 9 = 1 then letterDone s (segLetter x seg.2)
      else if 8 ≤ s.chn.reasm.length then segRefuse s x .noResource
      else
        let r : Reasm := ⟨x.port, cellAddr c, cellOrig c, byteAt c 5, beAt c 6 2, byteAt c 4, byteAt c 11, byteAt c 9, cellKind c,
          upNs s, [seg]⟩
        { s with chn := { s.chn with reasm := s.chn.reasm ++ [r] } }

/-- The oldest reassembly has waited 10 ms. -/
def reasmTimeout (s : State) : State :=
  match s.chn.reasm.find? (fun r => r.at0 + 10000000 ≤ upNs s) with
  | some r => incSat { s with chn := { s.chn with reasm := s.chn.reasm.erase r } } F.CHN_LSTAT_REASMTO
  | none => s

/-! ### Roll-calls (R345 to R347) -/

/-- UID of the unit: the first 16 bytes of SHA-512 over its identity public key. -/
def unitUid : Bytes := fit 16 (Config.sha512 (Config.publicKey Config.identityKey))

/-- Reply to a roll-call. -/
def rollReply (s : State) (p rank rid : Nat) (c : Status) : State :=
  let other := 1 - p
  let slot := (slotOfRank s rank).map (fun e => (e.1, e.2.session, e.2.lkey))
  let isEnd := !portUp s other || !bit (getF s (F.LNK_PSTAT_PMODE other)) 3
  let rfl' := b2n isEnd + 2 * b2n (isHostless s) + 4 * b2n (stage s == 8) + 8 * b2n slot.isNone +
    16 * b2n (isSet s (F.LNK_PSTAT_NEWPART 0) || isSet s (F.LNK_PSTAT_NEWPART 1))
  let (lid, s) := newLid s
  let pc := if isSet s F.CHN_POSTCODE_VALID then ownPostcode s else 0
  tileReply s p 0x10 rank lid slot
    ([byte c.code, byte rfl'] ++ beBytes 2 pc ++ [byte p, 0#8] ++ beBytes 2 rid ++ unitUid)

/-- Adopt a postcode. -/
def adopt (s : State) (chain pos src : Nat) : State :=
  let s := setF s F.CHN_POSTCODE_POSTCODE (4096 * chain + pos)
  setF (setF s F.CHN_POSTCODE_VALID 1) F.CHN_POSTCODE_SRC src

/-- The body of a ROLLCALL (R345). -/
def rollcallBody (chain rank hops len rid : Nat) (tail : Bool) : Bytes :=
  [byte (b2n tail + 16 * (chain % 16)), byte rank] ++ beBytes 2 hops ++ beBytes 2 len ++ beBytes 2 rid

/-- A sender roll-calls its chains: one ROLLCALL on each enabled port that is UP, with a new RID, and CHAIN and END of the port (R323,
R345, R350). How many tiles it knows of is a free value. DESIGN CHOICE (log entry 149). -/
def sendRollcall (s : State) : State :=
  let (rid, s) := newLid s
  (livePorts s).foldl (fun s p =>
    let (len, s) := drawNat s
    sendNow s [p] (mkCell 0xFFFE 8 false
      (rollcallBody (getF s (F.CHN_PORTCTL_CHAIN p)) (getF s F.TAN_CFG_RANK) 0 (len % 513) rid (isSet s (F.CHN_PORTCTL_END p))))) s

/-- A ROLLCALL reaches a tile. DESIGN CHOICE (log entry 66). -/
def rollcall (s : State) (x : RxCell) : State :=
  let c := x.cell
  let fl := bodyBE c 0 1
  let chain := bits fl 4 4
  let tail := bit fl 0
  let rank := bodyBE c 1 1
  let hops := bodyBE c 2 2
  let len := bodyBE c 4 2
  let rid := bodyBE c 6 2
  let known (s : State) : State := if len = 0 then s else { s with chn := { s.chn with length := len } }
  let out := 1 - x.port
  let again (s : State) : State :=
    if portUp s 0 ∧ portUp s 1 then insertCell s out 0 (patch c 6 (beBytes 2 (hops + 1))) else s
  if 511 < hops ∨ (tail ∧ (len = 0 ∨ len < hops + 1 ∨ 511 < len - 1 - hops)) then rollReply s x.port rank rid .range
  else if !tail then
    let s := adopt (known s) chain hops 0
    let s := setF (setF s (F.CHN_PORTCTL_HEADFACE x.port) 1) (F.CHN_PORTCTL_HEADFACE out) 0
    rollReply (again s) x.port rank rid .ok
  else
    let pos := len - 1 - hops
    let headed := isSet s F.CHN_POSTCODE_VALID && !isSet s F.CHN_POSTCODE_SRC
    if headed then
      rollReply (again (known s)) x.port rank rid (if ownPostcode s = 4096 * chain + pos then .ok else .staleState)
    else rollReply (again (adopt (known s) chain pos 1)) x.port rank rid .ok

/-! ### SEND (R339) -/

/-- Letter types of R333. -/
def listedTypes : List Nat := [1, 2, 3, 4, 5, 6, 7, 8, 9, 0x0A, 0x0C, 0x0D, 0x0E, 0x10, 0x11]

/-- Write back a SEND entry. -/
def sendDone (s : State) (it : Item) (c : Status) (rcode lid replies : Nat) : State :=
  complete40 s it ([byte rcode, 0#8] ++ leBytes 2 lid ++ leBytes 4 (timeNs s) ++ leBytes 2 replies) c

/-- The checks of a SEND entry before its content is read. DESIGN CHOICE (log entry 65). -/
def sendCheck (s : State) (e : Bytes) : Status :=
  let a := leAt e 2 2
  let len := leAt e 6 2
  let sfl := byteAt e 5
  if trailerBad e || bits (byteAt e 1) 4 4 != 0 || bits sfl 2 6 != 0 || byteAt e 41 != 0 || !allZero (slice e 50 6) then .illegalValue
  else if byteAt e 0 ≠ 0x40 then .illegalValue
  else if !isSender s then .notPermitted
  else if len = 0 ∨ 6376 < len ∨ badPostcode a ∨ !listedTypes.contains (byteAt e 4) then .illegalValue
  else
    match areaCheck s (leAt e 8 2) (leAt e 16 8) len with
    | .ok => if leAt e 12 4 % 64 ≠ 0 then .align else areaCheck s (leAt e 10 2) (leAt e 24 8) (leAt e 12 4)
    | c => c

/-- Does a SEND wait for Bus Master Enable (R97)? -/
def sendWaits (s : State) (it : Item) : Bool :=
  sendCheck s it.entry == .ok && areaShut s (leAt it.entry 8 2) (leAt it.entry 16 8) (leAt it.entry 6 2)

/-- A SEND entry reaches CHN. -/
def sendEntry (s : State) (it : Item) (host : HostRes) : State :=
  let e := it.entry
  let a := leAt e 2 2
  let sfl := byteAt e 5
  match sendCheck s e with
  | .ok =>
    let (r, s) := areaFetch s (leAt e 8 2) (leAt e 16 8) (leAt e 6 2) host
    match r with
    | .error c => sendDone s it c 0xFF 0 0
    | .ok b =>
      if sfl.testBit 0 ∧ !canSeal s a then sendDone s it .noResource 0xFF 0 0
      else
        let (lid, s) := newLid s
        let ports := (livePorts s).filter (fun p => (byteAt e 1).testBit p)
        let s := sendLetter s ports a (byteAt e 4) lid (sfl.testBit 0) (sfl.testBit 1) b
        { s with chn := { s.chn with sends := s.chn.sends ++ [⟨it, lid, a, byteAt e 4, upNs s, 0, 0, 0xFF, false⟩] } }
  | c => sendDone s it c 0xFF 0 0

/-- Is a letter a reply addressed to this sender? -/
def isReply (s : State) (l : Letter) : Bool := l.orig && l.lfl.testBit 1 && l.rank == getF s F.TAN_CFG_RANK && l.kind == 3

/-- Does a SEND await this reply? -/
def awaits (s : State) (l : Letter) (x : Send) : Bool :=
  isReply s l && x.lid == l.lid && x.ltype == l.ltype && (isBroadcast x.addr || x.addr == l.addr)

/-- The content of a reply as its sender reads it; none where its seal fails or it repeats an LSEQ (R332). -/
def openReply (s : State) (l : Letter) : Option (Bytes × State) :=
  if !l.lfl.testBit 0 then some (l.content, s)
  else
    match recIndex s l.addr, curEntry s l.addr with
    | some i, some e =>
      match openLetter e.lkey e.session (letterAad l.ltype l.rank l.lid l.addr l.lfl) l.content with
      | some (n, true, p) =>
        if lseqFresh e.lrx n then
          let r := keyRec s i
          some (p, setKeyRec s i { r with cur := some { e with lrx := some n } })
        else none
      | _ => none
    | _, _ => none

/-- A reply record (R339). -/
def replyRecord (l : Letter) : Bytes := padTo 64 (leBytes 2 l.addr ++ leBytes 2 l.content.length ++ l.content)

/-- A reply to a SEND. -/
def sendReply (s : State) (x : Send) (l : Letter) (code : Nat) : State :=
  let e := x.item.entry
  let rec' := replyRecord l
  let fits := x.used + rec'.length ≤ leAt e 12 4 && (surfOf s (leAt e 10 2)).isSome
  let s := if fits then svcWrite s (areaAddr s (leAt e 10 2) (leAt e 24 8) + x.used) rec' else s
  let others := s.chn.sends.erase x
  if isBroadcast x.addr then
    let y := { x with used := if fits then x.used + rec'.length else x.used, replies := x.replies + b2n fits,
                      rcode := if x.rcode = 0xFF then code else x.rcode, nofit := x.nofit || !fits }
    { s with chn := { s.chn with sends := s.chn.sends.map (fun z => if z = x then y else z) } }
  else
    let s := { s with chn := { s.chn with sends := others } }
    if fits then sendDone s x.item .ok code x.lid 1 else sendDone s x.item .noResource code x.lid 0

/-- The oldest letter that a SEND awaits is taken; a reply whose seal fails is dropped. -/
def sendReplyStep (s : State) : State :=
  match takeLetter s (fun l => s.chn.sends.any (awaits s l)) with
  | some (l, s1) =>
    match s1.chn.sends.find? (awaits s l) with
    | some x =>
      match openReply s1 l with
      | some (p, s2) => sendReply s2 x l (byteAt p 0)
      | none => s1
    | none => s1
  | none => s

/-- LETTERTO ms after the oldest SEND (R339). -/
def sendTimeout (s : State) : State :=
  match s.chn.sends.find? (fun x => x.sent + getF s F.CHN_CFG_LETTERTO * 1000000 ≤ upNs s) with
  | some x =>
    let s := { s with chn := { s.chn with sends := s.chn.sends.erase x } }
    if isBroadcast x.addr then sendDone s x.item (if x.nofit then .noResource else .ok) x.rcode x.lid x.replies
    else sendDone s x.item .timeout 0xFF x.lid 0
  | none => s

/-! ### The inbox (R340, R354) -/

/-- Records of the inbox ring. -/
def inboxLen (s : State) : Nat := 2 ^ (getF s F.CHN_INBOX_SIZE + 4)

/-- Does a PUSH await this reply (R582)? -/
def pushAwaits (l : Letter) (x : Push) : Bool :=
  l.ltype == 0x0A && leAt x.item.entry 2 2 == l.addr && (match x.wait with | some w => w.1 == l.lid | none => false)

/-- Does another unit of a sender await this letter: a SEND, an ENROL or a PUSH? -/
def awaited (s : State) (l : Letter) : Bool :=
  s.chn.sends.any (awaits s l) ||
  (isReply s l && (s.sec.enrols.any (fun e => e.waits && e.lid == l.lid && e.ltype == l.ltype && e.postcode == l.addr) ||
    s.upd.pushes.any (pushAwaits l)))

/-- Does a letter go to the inbox? -/
def forInbox (s : State) (l : Letter) : Bool :=
  if l.orig then !awaited s l else l.ltype != 0x0C && l.ltype != 0x0D

/-- An inbox record. DESIGN CHOICE (log entry 67). -/
def inboxRecord (l : Letter) : Bytes :=
  fit 512 ([byte l.port, byte l.kind, byte l.ltype, 0#8] ++ leBytes 2 l.addr ++ leBytes 2 l.content.length ++
    leBytes 4 (l.time / 65536 % 2 ^ 32) ++ l.content.take 500)

/-- Store a letter in the inbox. -/
def inboxStore (s : State) (l : Letter) : State :=
  if !isSet s F.CHN_INBOX_EN then s
  else
    let wr := getF s F.CHN_INBOXIDX_WR
    match surfOf s (getF s F.CHN_INBOX_HANDLE) with
    | none => incSat s F.CHN_LSTAT_INBOXFULL
    | some x =>
      if inboxLen s ≤ msub 16 wr (getF s F.CHN_INBOXIDX_RD) then incSat s F.CHN_LSTAT_INBOXFULL
      else
        let s := svcWrite s (65536 * x.vp + 512 * (wr % inboxLen s)) (inboxRecord l)
        sendVec (setF s F.CHN_INBOXIDX_WR (wr + 1)) (getF s F.CHN_INBOX_VEC)

def inboxStep (s : State) : State :=
  match takeLetter s (forInbox s) with
  | some (l, s) => inboxStore s l
  | none => s

/-! ### Block reset (R355) -/

def chnReset : ChnSt := ⟨[], [], [], [], [], [], [], [], [], [], [], 0, 0, 0⟩

def chnBlockReset (s : State) : State :=
  let s := s.chn.sends.foldl (fun s x => sendDone s x.item .aborted x.rcode x.lid x.replies) s
  let lid := s.chn.nextLid
  let s := resetRegs (stopForward s) 0xD0000 0xE0000
  let gone (o : EngOp) : EngOp := match o with | .unwrap _ => .void | o => o
  { s with chn := { chnReset with nextLid := lid }, lmp := { s.lmp with last := none },
           sec := { s.sec with busy := s.sec.busy.map gone, ops := s.sec.ops.map gone, wait := s.sec.wait.map gone } }

/-! ### The commands -/

/-- CELL_FORWARD (R314): a codeword slot arrives on port `p`. -/
def execCellForward (dt p : Nat) (raw : Bytes) (cv disp : List Nat) (s : State) : Result :=
  let s := advance dt s
  .next (if portLive s p then cellForward s p raw cv disp else s)

/-- CANDIDATE_CORRECTED (R315). -/
def execCandidateCorrected (s : State) : Result := whenOn 0x0D s candidateDone

/-- INSERT_QUEUE_TIMEOUT (R318). -/
def execInsertQueueTimeout (dt p : Nat) (s : State) : Result := whenOn 0x0D (advance dt s) (fun s => insertTimeout s p)

/-- LETTER_SEGMENT (R331): the oldest letter or receipt cell consumed. -/
def execLetterSegment (s : State) : Result :=
  whenOn 0x0D s (fun s => match takeRx s (fun c => cellKind c == 3 || cellKind c == 7) with
    | some (x, s) => segment s x
    | none => s)

/-- REASSEMBLY_TIMEOUT (R331). -/
def execReassemblyTimeout (dt : Nat) (s : State) : Result := whenOn 0x0D (advance dt s) reasmTimeout

/-- ROLLCALL_CELL (R346): a tile takes the oldest ROLLCALL consumed; a sender starts one. -/
def execRollcallCell (s : State) : Result :=
  whenOn 0x0D s (fun s =>
    if isSender s then sendRollcall s
    else match takeRx s (fun c => cellKind c == 8) with | some (x, s) => rollcall s x | none => s)

/-- SEND_ENTRY (R339); `host` answers reads of host-backed pages. -/
def execSendEntry (host : HostRes) (s : State) : Result := whenOn 0x0D s (fun s => onEntryRead s 0x40 sendWaits (fun s it => sendEntry s it host))

/-- SEND_REPLY (R339). -/
def execSendReply (s : State) : Result := whenOn 0x0D s (fun s => if isSender s then sendReplyStep s else s)

/-- SEND_TIMEOUT (R339). -/
def execSendTimeout (dt : Nat) (s : State) : Result := whenOn 0x0D (advance dt s) sendTimeout

/-- INBOX_RECORD (R340). -/
def execInboxRecord (s : State) : Result := whenOn 0x0D s (fun s => if isSender s then inboxStep s else s)

end Sys2Proof.Machine
end

