-- ==== Sys2Proof/Machine/Nvm.lean ====
section
/-! DEFINITION. The flash: its layout (R563, R564), and the queue of program and erase operations that NVM runs one at a time
(R565, R570). -/

namespace Sys2Proof.Machine

/-! ### Layout (R564) -/

/-- Bytes of one flash device. -/
def nvmDevice (s : State) : Nat := getF s F.NVM_STAT_SIZEMIB4 * 4 * 2 ^ 20

/-- Bytes of the flash. -/
def nvmSize (s : State) : Nat := getF s F.NVM_STAT_NDEV * nvmDevice s

/-- Bytes of a slot. -/
def slotBytes (s : State) : Nat := (nvmSize s - 2 ^ 24) / 2 / 65536 * 65536

/-- First byte of slot A (0) or B (1). -/
def slotStart (s : State) (k : Nat) : Nat := 0x1000000 + k * slotBytes s

/-- The current slot, and the slot that takes a staging package (R569). -/
def curSlot (s : State) : Nat := getF s F.UPD_STAT_CUR
def stagingSlot (s : State) : Nat := 1 - curSlot s

/-- An erased byte. -/
def flashFill : Byte := 0xFF#8

/-- Bytes of a slot, from byte `off` on. -/
def flashRd (s : State) (slot off n : Nat) : Bytes := rdBytes flashFill s.upd.flash (slotStart s slot + off) n

/-- Store bytes in a slot. -/
def flashWr (s : State) (slot off : Nat) (b : Bytes) : State :=
  { s with upd := { s.upd with flash := wrBytes flashFill s.upd.flash (slotStart s slot + off) b } }

/-! ### Operations -/

/-- The 64 KiB of BITMAP that hold copy `k` of the maps (R564, R570). -/
def mapPlace (k : Nat) : Nat := 0x0040000 + 65536 * (k % 4)

/-- What an operation does to the devices: 0 program, 1 erase; address and length. The spec names no place for the session
counter of R548, so its address is a free value. -/
def flashOut (s : State) (o : FlashOp) : State :=
  match o with
  | .erase k => emit s (.nvm 1 (slotStart s (stagingSlot s) + 65536 * k) 65536)
  | .parcel k _ _ => emit s (.nvm 0 (slotStart s (stagingSlot s) + 4096 * k) 4096)
  | .newMaps => emit s (.nvm 0 (mapPlace (s.upd.maps + 1)) 65536)
  | .mapErase => emit s (.nvm 1 (mapPlace (s.upd.maps + 3)) 65536)
  | .state r => emit s (.nvm 0 (0x0020000 + 64 * (r.seq % 2048)) 64)
  | .journal r => emit s (.nvm 0 (0x0100000 + 256 * (r.seq % 4096)) 256)
  | .calset => emit s (.nvm 0 0x0080000 (2 ^ 18))
  | .sessions =>
    let (a, s) := drawNat s
    emit s (.nvm 0 (a % max 1 (nvmSize s)) 4)

/-- Start the operation at the head of the queue. -/
def flashStart (s : State) : State :=
  match s.upd.ops with
  | o :: _ => flashOut (setF s F.NVM_STAT_BUSY 1) o
  | [] => setF s F.NVM_STAT_BUSY 0

/-- Is this the journal record, the one operation an orderly shut-down starts (R511)? -/
def isJournal (o : FlashOp) : Bool := match o with | .journal _ => true | _ => false

/-- Ask for a flash operation; one runs at a time, in the order asked. -/
def flashPush (s : State) (o : FlashOp) : State :=
  if s.thm.shut.isSome ∧ !isJournal o then s else
  let idle := s.upd.ops.isEmpty
  let s := { s with upd := { s.upd with ops := s.upd.ops ++ [o] } }
  if idle then flashStart s else s

/-- A new copy of the maps is written in the next free 64 KiB, and the copy before it is erased (R570). -/
def pushMaps (s : State) : State := flashPush (flashPush s .newMaps) .mapErase

/-- The operation at the head of the queue has finished: the next starts. -/
def flashNext (s : State) : State := flashStart { s with upd := { s.upd with ops := s.upd.ops.drop 1 } }

end Sys2Proof.Machine
end

