-- ==== Sys2Proof/Machine/Sec.lean ====
section
/-! DEFINITION. SEC: the identity of the unit, tokens and lifecycle, measurements, the P-521 engine, quotes, enrolment of tiles,
key wraps, receipts and CRC records (R536 to R562). -/

namespace Sys2Proof.Machine

/-! ### Primitives -/

/-- HMAC-SHA-512. -/
def hmac (key msg : Bytes) : Bytes :=
  let k := fit 128 key
  let x (b : Nat) : Bytes := k.map (fun y => y ^^^ byte b)
  fit 64 (Config.sha512 (x 0x5C ++ fit 64 (Config.sha512 (x 0x36 ++ msg))))

/-- SHA-512 as 64 bytes. DESIGN CHOICE (log entry 72). -/
def sha (b : Bytes) : Bytes := fit 64 (Config.sha512 b)

/-- The field and the constant of P-521 (FIPS 186). -/
def p521 : Nat := 2 ^ 521 - 1
def p521b : Nat :=
  0x0051953EB9618E1C9A1F929A21A0B68540EEA2DA725B99B315F3B8B489918EF109E156193951EC7E937B1652C0BD3BB1BF073573DF883D2C34F1EF451FD46B503F00

/-- Is a public key a point of P-521 other than the identity (R536, R551)? -/
def pointOk (q : Bytes) : Bool :=
  let x := beAt q 1 66
  let y := beAt q 67 66
  byteAt q 0 == 4 && decide (x < p521) && decide (y < p521) && y * y % p521 == (x * x * x + (p521 - 3) * x + p521b) % p521

/-- A signature of this unit over a message, by the next random number. -/
def signWith (s : State) (msg : Bytes) : Bytes × State :=
  (fit 132 (Config.ecdsaSign Config.identityKey msg s.free), { s with free := s.free + 1 })

/-- The identity public key. -/
def ownPublic : Bytes := fit 133 (Config.publicKey Config.identityKey)

/-! ### Lifecycle and measurements (R539, R544) -/

def lifeBlank : Nat := 0
def lifeProvisioned : Nat := 1
def lifeOwned : Nat := 2
def lifeRetired : Nat := 3

/-- Measurement register `i`. -/
def meas (s : State) (i : Nat) : Bytes := s.sec.meas.getD i (zeros 64)

/-- Extend M_i with a digest (R544). -/
def measExtend (s : State) (i : Nat) (d : Bytes) : State :=
  { s with sec := { s.sec with meas := (List.range 8).map (fun k => if k = i then sha (meas s i ++ fit 64 d) else meas s k) } }

/-- M0 to M7 at 0 (R544). -/
def measZero : List Bytes := List.replicate 8 (zeros 64)

/-! ### Tokens (R540, R542) -/

/-- Draw a token nonce (R540): SEC_NONCE0 to 3 show it. -/
def drawNonce (s : State) : State :=
  let (b, s) := drawBytes s 16
  let s := { s with sec := { s.sec with nonce := some b } }
  (List.range 4).foldl (fun s k => s.setWord (R.SEC_NONCE k) (BitVec.ofNat 32 (beAt b (4 * k) 4))) s

/-- Token types accepted in a lifecycle and debug level (R542). -/
def tokensFor (life dbg : Nat) : List Nat :=
  if life = 1 then (if dbg = 0 then [1, 2, 3] else if dbg = 1 then [1, 3] else [])
  else if life = 2 then (if dbg = 0 then [2, 3] else if dbg = 1 then [3] else [])
  else if life = 3 then (if dbg = 0 then [4] else [])
  else []

/-- Is SIGNER the key that a token needs? -/
def signerOk (s : State) (type : Nat) (signer : Bytes) : Bool :=
  if type = 4 then sha signer == fit 64 Config.vendorDigest
  else if s.sec.life = lifeOwned ∧ (type = 2 ∨ type = 3) then some (sha signer) == s.sec.owner
  else true

/-- The checks of a token, in order (R540); the nonce is used up from the fourth on. -/
def tokenCheck (s : State) (t : Bytes) : Status × State :=
  let type := byteAt t 0
  let used := { s with sec := { s.sec with nonce := none } }
  if !allZero (slice t 1 3) || !allZero (slice t 169 3) || type == 0 || 4 < type then (.illegalValue, s)
  else if slice t 4 16 ≠ unitUid ∨ s.sec.nonce ≠ some (slice t 20 16) then (.staleState, s)
  else if !(tokensFor s.sec.life s.sec.dbg).contains type then (.notPermitted, s)
  else if !signerOk s type (slice t 36 133) then (.integrity, used)
  else if !Config.ecdsaVerify (slice t 36 133) (slice t 0 172) (slice t 172 132) then (.integrity, used)
  else (.ok, used)

/-- What an accepted token does (R539, R541). A RETIRE leaves the debug level LOCKED, the only level R542 gives RETIRED before a
vendor token. DESIGN CHOICE (log entry 75). DESIGN CHOICE (log entry 81). -/
def tokenAct (s : State) (t : Bytes) : State :=
  let type := byteAt t 0
  if type = 1 then
    let d := sha (slice t 36 133)
    measExtend { s with sec := { s.sec with life := lifeOwned, owner := some d, ownTries := s.sec.ownTries + 1 } } 7 d
  else if type = 2 then { s with sec := { s.sec with dbg := 1 } }
  else if type = 3 then dropKeySlots { s with sec := { s.sec with life := lifeRetired, idkey := false, dbg := 0 } }
  else { s with sec := { s.sec with dbg := 2 } }

/-- A token is delivered (R540): its code and the state after. -/
def tokenTake (s : State) (t : Bytes) : Status × State :=
  match tokenCheck s t with
  | (.ok, s) =>
    if byteAt t 0 = 1 ∧ 4 ≤ s.sec.ownTries then (.noResource, s)
    else (.ok, measExtend (tokenAct s t) 7 (sha (fit 304 t)))
  | (c, s) => (c, incSat s F.SEC_CNT_TOKFAIL)

/-! ### The engine (R547) -/

/-- Class of an operation: receipts, unwraps, ENROL, quotes. -/
def opClass (o : EngOp) : Nat :=
  match o with
  | .receipt _ => 0
  | .unwrap _ => 1
  | .void => 1
  | .enrol _ => 2
  | .quoteLetter _ _ => 3
  | .quoteEntry _ _ => 3

/-- Operations in service and queued. -/
def engineDepth (s : State) : Nat := s.sec.ops.length + b2n s.sec.busy.isSome

def engineShow (s : State) : State := setF s F.SEC_STAT_QDEPTH (engineDepth s)

/-- The operation served next: the lowest class, the oldest within it. -/
def engineNext (s : State) : Option EngOp := [0, 1, 2, 3].findSome? (fun k => s.sec.ops.find? (fun o => opClass o == k))

/-- Operations that wait come into the queue while there is room; an idle engine starts the next. `fuel` bounds the moves. -/
def engineRun : Nat → State → State
  | 0, s => engineShow s
  | n + 1, s =>
    match s.sec.busy, engineNext s, s.sec.wait with
    | none, some o, _ => engineRun n { s with sec := { s.sec with busy := some o, ops := s.sec.ops.erase o } }
    | _, _, w :: l =>
      if engineDepth s < 16 then engineRun n { s with sec := { s.sec with ops := s.sec.ops ++ [w], wait := l } } else engineShow s
    | _, _, [] => engineShow s

/-- Hand an operation to the engine; it waits for room. DESIGN CHOICE (log entry 73). -/
def engineAdd (s : State) (o : EngOp) : State :=
  let s := { s with sec := { s.sec with wait := s.sec.wait ++ [o] } }
  engineRun (s.sec.wait.length + 2) s

/-- Is the queue full for a quote? -/
def engineFull (s : State) : Bool := 16 ≤ engineDepth s + s.sec.wait.length

/-! ### Certificates (R538) -/

/-- The reply to CERT_GET. -/
def certContent : Bytes :=
  [2, 0, 0] ++ beBytes 2 Config.deviceCert.length ++ Config.deviceCert ++ beBytes 2 Config.caCert.length ++ Config.caCert

/-- A CERT_GET letter. DESIGN CHOICE (log entry 79). -/
def certGet (s : State) (l : Letter) : State :=
  if l.content ≠ [0] then answer s l .illegalValue []
  else if !s.sec.idkey then answer s l .notPermitted []
  else answer s l .ok certContent

/-- The device certificate and the CA certificate in a CERT_GET reply. -/
def certSplit (c : Bytes) : Bytes × Bytes :=
  let n := beAt c 4 2
  (slice c 6 n, slice c (8 + n) (beAt c (6 + n) 2))

/-! ### Key wraps (R550, R551) -/

/-- Salt of a key wrap: SESSION, TUID, SUID. -/
def wrapSalt (session : Nat) (tuid suid : Bytes) : Bytes := beBytes 4 session ++ tuid ++ suid

/-- ASCII "LUZEN KEY WRAP 1". -/
def wrapInfo : Bytes := [0x4C, 0x55, 0x5A, 0x45, 0x4E, 0x20, 0x4B, 0x45, 0x59, 0x20, 0x57, 0x52, 0x41, 0x50, 0x20, 0x31]

/-- Key and IV of a wrap from the shared secret. -/
def wrapKey (session : Nat) (tuid suid z : Bytes) : Bytes × Bytes :=
  let okm := fit 44 (Config.hkdf (wrapSalt session tuid suid) (fit 66 z) wrapInfo 44)
  (okm.take 32, okm.drop 32)

/-- KCV of a letter key (R550). -/
def kcv (lkey : Bytes) (session : Nat) (tuid : Bytes) : Bytes := (hmac lkey (beBytes 4 session ++ tuid)).take 16

/-- The keys in a KEY_WRAP, or none (R551). -/
def unwrapKeys (s : State) (l : Letter) : Option KeySlot :=
  let c := l.content
  let session := beAt c 0 4
  let k := bits l.lfl 2 2
  if !s.sec.idkey ∨ slice c 4 16 ≠ unitUid ∨ !pointOk (slice c 36 133) ∨ session / 2 ^ 24 = 0 ∨ session / 2 ^ 24 = 0xFF then none
  else
    let (kek, iv) := wrapKey session (slice c 4 16) (slice c 20 16) (Config.ecdh Config.identityKey (slice c 36 133))
    match Config.gcmOpen kek iv (slice c 0 172 ++ [byte k]) (slice c 172 96) (slice c 268 16) with
    | some p => some ⟨session, slice p 0 32, slice p 32 32, slice p 64 32, none, none, 0, 0, none⟩
    | none => none

/-- The engine has finished a KEY_WRAP: keys are installed as the reply is queued (R348, R551). -/
def unwrapDone (s : State) (l : Letter) : State :=
  match unwrapKeys s l with
  | none => answer (incSat s F.SEC_CNT_KWFAIL) l .integrity []
  | some x =>
    let s := setKeySlot s (bits l.lfl 2 2) (some x)
    answer s l .ok (zeros 3 ++ beBytes 4 x.session ++ kcv x.lkey x.session unitUid)

/-! ### Quotes (R545, R546) -/

/-- Frame of the most recent cadence instant; 0 while no mode is in force (R534). -/
def cadenceFrame (s : State) : Nat :=
  if isSender s then (if s.frt.mode.isSome then getF s F.FRT_FRAME_FRAME else 0) else (if s.lmp.mode.isSome then s.lmp.cad else 0)

/-- A quote record. -/
def quoteRecord (s : State) (mask : Nat) (nonce : Bytes) : Bytes × State :=
  let qfl := b2n (isSet s F.CHN_POSTCODE_VALID) + 2 * b2n (isHostless s) + 4 * b2n (stage s == 8) + 8 * b2n (isSender s)
  let ms := (List.range 8).flatMap (fun i => if mask.testBit i then meas s i else [])
  let body := [1, byte s.sec.life, byte s.sec.dbg, byte mask] ++ beBytes 2 (ownPostcode s) ++ [byte qfl, byte s.sec.svn] ++ unitUid ++
    fit 32 nonce ++ beBytes 4 (timeNs s) ++ beBytes 4 s.wraps ++ beBytes 4 (cadenceFrame s) ++ beBytes 4 (getF s F.SEC_RSEQ_RSEQ) ++ ms
  let (sig, s) := signWith s body
  (body ++ sig, s)

/-- A QUOTE_REQ letter. -/
def quoteReq (s : State) (l : Letter) : State :=
  let c := l.content
  if !allZero (slice c 33 3) then answer s l .illegalValue []
  else if !s.sec.idkey then answer s l .notPermitted []
  else if engineFull s then answer (incSat s F.SEC_CNT_QREFUSED) l .noResource []
  else engineAdd s (.quoteLetter l (byteAt c 32))

/-- A quote asked for by letter is signed. -/
def quoteLetterDone (s : State) (l : Letter) (mask : Nat) : State :=
  if !s.sec.idkey then answer s l .notPermitted []
  else
    let (q, s) := quoteRecord s mask (slice l.content 0 32)
    answer s l .ok (zeros 3 ++ q)

/-- A quote asked for by entry is signed and written at OFFSET + 64. -/
def quoteEntryDone (s : State) (it : Item) (nonce : Bytes) : State :=
  let e := it.entry
  let h := leAt e 8 2
  if !s.sec.idkey then secDone s it .notPermitted 0 0xFF
  else
    match areaCheck s h (leAt e 16 8) 780 with
    | .ok =>
      let (q, s) := quoteRecord s (byteAt e 1) nonce
      secDone (svcWrite s (areaAddr s h (leAt e 16 8) + 64) q) it .ok q.length 0xFF
    | c => secDone s it c 0 0xFF

/-! ### Entries (R553, R554) -/

/-- Checks 1 to 4 of an entry whose opcode is `op`. -/
def secCheck (s : State) (e : Bytes) : Status :=
  let op := byteAt e 0
  let arg := byteAt e 1
  let pc := leAt e 2 2
  let zero (a n : Nat) : Bool := allZero (slice e a n)
  let argOk := if op = 0x58 then decide (arg ≤ 3) else if op = 0x5B then true
    else if op = 0x5D then decide (1 ≤ arg ∧ arg ≤ 4) else arg == 0
  let pcOk := if op = 0x59 then !badPostcode pc && !isBroadcast pc else pc == 0
  let frOk := op == 0x5A || zero 4 4
  let areaOk := 0x5B ≤ op || (zero 8 2 && zero 16 8)
  if trailerBad e || !argOk || !pcOk || !frOk || !areaOk || !zero 10 6 || !zero 24 8 then .illegalValue
  else if op < 0x58 ∨ 0x5D < op then .illegalValue
  else if op ≤ 0x5A ∧ (!isSender s ∨ !s.sec.idkey) then .notPermitted
  else if op = 0x5B ∧ !s.sec.idkey then .notPermitted
  else if op = 0x59 ∧ (chainPort s pc).isNone then .range
  else .ok

/-- A KEYSET entry (R548). -/
def keyset (s : State) (it : Item) : State :=
  let e := it.entry
  match secCheck s e with
  | .ok =>
    let arg := byteAt e 1
    if s.sec.enrol.map Prod.snd = some arg then secDone s it .illegalValue 0 0xFF
    else if 2 ^ 24 ≤ s.sec.counter then secDone s it .noResource 0 0xFF
    else
      let c := s.sec.counter
      let session := getF s F.TAN_CFG_RANK * 2 ^ 24 + c
      let (key, s) := drawBytes s 32
      let s := { s with sec := { s.sec with enrol := some (session, arg), counter := c + 1,
                                            groups := s.sec.groups ++ [⟨session, key, 0⟩] } }
      let s := if c < s.sec.reserved then s
        else flashPush { s with sec := { s.sec with reserved := c / 256 * 256 + 256 } } .sessions
      secDone (setF s F.SEC_SESSION_SESSION session) it .ok session 0xFF
  | c => secDone s it c 0 0xFF

/-- End an enrolment. DESIGN CHOICE (log entry 77). -/
def enrolEnd (s : State) (x : Enrol) (c : Status) (result rcode : Nat) : State :=
  secDone { s with sec := { s.sec with enrols := s.sec.enrols.filter (fun y => y.item != x.item) } } x.item c result rcode

/-- Keep an enrolment as it goes on. -/
def enrolSet (s : State) (x : Enrol) : State :=
  { s with sec := { s.sec with enrols := s.sec.enrols.map (fun y => if y.item = x.item then x else y) } }

/-- Send a letter of an enrolment and wait for its reply. -/
def enrolSend (s : State) (x : Enrol) (ltype slot : Nat) (content : Bytes) : State :=
  let (lid, s) := newLid s
  let ports := ((chainPort s x.postcode).toList).filter (portUp s)
  let cs := letterCells x.postcode ltype (getF s F.TAN_CFG_RANK) lid (4 * slot) false content
  let s := ports.foldl (fun s p => sendLetterCells s p cs) s
  enrolSet s { x with lid := lid, ltype := ltype, sent := upNs s, waits := true }

/-- An ENROL entry starts (R549). -/
def enrolStart (s : State) (it : Item) : State :=
  match secCheck s it.entry with
  | .ok =>
    match s.sec.enrol with
    | none => secDone s it .wrongState 0 0xFF
    | some (session, slot) =>
      let x : Enrol := ⟨it, leAt it.entry 2 2, 0, 6, 0, false, 0, [], [], session, slot, [], [], [], []⟩
      enrolSend { s with sec := { s.sec with enrols := s.sec.enrols ++ [x] } } x 6 0 [0]
  | c => secDone s it c 0 0xFF

/-- The status a reply code names. -/
def statusOf (c : Nat) : Status :=
  ([.ok, .illegalValue, .align, .busError, .timeout, .loop, .notPermitted, .wrongState, .late, .range, .noResource, .integrity,
    .version, .aborted, .linkAbsent, .staleState] : List Status).getD c .illegalValue

/-- Step 5 of R549: the keys go into the record. -/
def enrolInstall (s : State) (x : Enrol) : State :=
  match recIndex s x.postcode with
  | none => s
  | some i =>
    let r := keyRec s i
    let e : KeyEnt := ⟨x.session, x.slot, x.ckey, x.lkey, 0, none⟩
    let asCur := match r.cur with | some c => c.session == x.session | none => true
    if asCur then
      let s := setKeyRec s i { r with cur := some e }
      { s with sec := { s.sec with bcast := some x.session } }
    else setKeyRec s i { r with pend := some e }

/-- A reply of the tile to an enrolment letter. -/
def enrolReply (s : State) (x : Enrol) (c : Bytes) : State :=
  let code := byteAt c 0
  let x := { x with waits := false }
  if code ≠ 0 then enrolEnd s x (statusOf code) 0 code
  else if x.ltype = 6 then
    engineAdd (enrolSet s { x with content := c, step := 0 }) (.enrol x.item)
  else if beAt c 4 4 ≠ x.session ∨ slice c 8 16 ≠ kcv x.lkey x.session x.uid then enrolEnd s x .integrity 0 code
  else enrolEnd (enrolInstall s x) x .ok x.session code

/-- The oldest letter that an enrolment awaits is taken. -/
def enrolReplyStep (s : State) : State :=
  let for' (l : Letter) (x : Enrol) : Bool := isReply s l && x.waits && x.lid == l.lid && x.ltype == l.ltype && x.postcode == l.addr
  match takeLetter s (fun l => s.sec.enrols.any (for' l)) with
  | some (l, s) =>
    match s.sec.enrols.find? (for' l) with
    | some x => enrolReply s x l.content
    | none => s
  | none => s

/-- LETTERTO ms without a reply. -/
def enrolTimeout (s : State) : State :=
  match s.sec.enrols.find? (fun x => x.waits && x.sent + getF s F.CHN_CFG_LETTERTO * 1000000 ≤ upNs s) with
  | some x => enrolEnd s x .timeout 0 0xFF
  | none => s

/-- One engine operation of an enrolment is done (R549): the two signatures of the chain, the ephemeral key, the shared secret
with the KEY_WRAP it makes. -/
def enrolStep (s : State) (x : Enrol) : State :=
  if x.step = 0 then engineAdd (enrolSet s { x with step := 1 }) (.enrol x.item)
  else if x.step = 1 then
    let (dev, ca) := certSplit x.content
    match Config.chainVerify dev ca with
    | none => enrolEnd s x .integrity 0 0
    | some q =>
      let q := fit 133 q
      let uid := (sha q).take 16
      let s := match recIndex s x.postcode with
        | some i => if (keyRec s i).uid = uid then s else setKeyRec s i ⟨uid, none, none⟩
        | none => s
      engineAdd (enrolSet s { x with step := 2, pub := q, uid := uid }) (.enrol x.item)
  else if x.step = 2 then
    let (priv, s) := drawBytes s 66
    let (ck, s) := drawBytes s 32
    let (lk, s) := drawBytes s 32
    let gk := ((s.sec.groups.find? (fun g => g.session == x.session)).map GroupKey.key).getD []
    engineAdd (enrolSet s { x with step := 3, ckey := ck, lkey := lk, gkey := gk, content := priv }) (.enrol x.item)
  else
    let (kek, iv) := wrapKey x.session x.uid unitUid (Config.ecdh x.content x.pub)
    let head := beBytes 4 x.session ++ x.uid ++ unitUid ++ fit 133 (Config.publicKey x.content) ++ zeros 3
    let sealed := fit 112 (Config.gcmSeal kek iv (head ++ [byte x.slot]) (fit 32 x.ckey ++ fit 32 x.lkey ++ fit 32 x.gkey))
    enrolSend s { x with step := 4, content := [] } 7 x.slot (head ++ sealed)

/-- A SWITCH entry (R552) waits for its raster start. DESIGN CHOICE (log entry 78). -/
def switchEntry (s : State) (it : Item) : State :=
  match secCheck s it.entry with
  | .ok => { s with sec := { s.sec with switches := s.sec.switches ++ [(it, leAt it.entry 4 4)] } }
  | c => secDone s it c 0 0xFF

/-- Does an entry that reads `n` bytes wait for Bus Master Enable (R97)? -/
def secWaits (n : Nat) (s : State) (it : Item) : Bool :=
  secCheck s it.entry == .ok && areaShut s (leAt it.entry 8 2) (leAt it.entry 16 8) n

/-- A QUOTE entry (R554, R547). DESIGN CHOICE (log entry 76). -/
def quoteEntry (s : State) (it : Item) (host : HostRes) : State :=
  let e := it.entry
  match secCheck s e with
  | .ok =>
    let (r, s) := areaFetch s (leAt e 8 2) (leAt e 16 8) 780 host
    match r with
    | .error c => secDone s it c 0 0xFF
    | .ok b =>
      if engineFull s then secDone (incSat s F.SEC_CNT_QREFUSED) it .noResource 0 0xFF
      else engineAdd s (.quoteEntry it (b.take 32))
  | c => secDone s it c 0 0xFF

/-- An EXTEND entry. -/
def extendEntry (s : State) (it : Item) (host : HostRes) : State :=
  let e := it.entry
  match secCheck s e with
  | .ok =>
    let (r, s) := areaFetch s (leAt e 8 2) (leAt e 16 8) 64 host
    match r with
    | .error c => secDone s it c 0 0xFF
    | .ok b => secDone (measExtend s 6 b) it .ok 0 0xFF
  | c => secDone s it c 0 0xFF

/-- A LIFE entry. -/
def lifeEntry (s : State) (it : Item) (host : HostRes) : State :=
  let e := it.entry
  match secCheck s e with
  | .ok =>
    let (r, s) := areaFetch s (leAt e 8 2) (leAt e 16 8) 304 host
    match r with
    | .error c => secDone s it c 0 0xFF
    | .ok b =>
      let (c, s) := tokenTake s b
      secDone s it c 0 0xFF
  | c => secDone s it c 0 0xFF

/-! ### Receipts (R556 to R558) -/

/-- Are receipts made now (R542, R543, R556)? -/
def receiptsOn (s : State) : Bool :=
  isTile s && isSet s F.SEC_RCPTCFG_EN && s.lmp.mode.isSome && s.sec.idkey && power s ≤ 1

/-- The open interval closes and its receipt waits to be signed. DESIGN CHOICE (log entry 74). -/
def intervalClose (s : State) : State :=
  match s.sec.interval with
  | none => s
  | some iv =>
    let iv := { iv with flcnt := (s.word R.SPK_FLCNT).toNat, flags := iv.flags ||| (if s.sec.dbg = 0 then 0 else 8) }
    let s := { s with sec := { s.sec with interval := none } }
    if s.sec.idkey then engineAdd s (.receipt iv) else s

/-- Length of an interval, in 2^-24 ns. -/
def intervalLen (s : State) : Int := getF s F.SEC_RCPTCFG_PERIOD * 1000000 * 2 ^ 24

/-- Has the interval ended by commit instant `a`? -/
def intervalOver (s : State) (a : Int) : Bool := s.sec.interval.isSome && s.sec.nextT ≤ a

/-- The last end T_i on the grid of the intervals that commit instant `a` has reached. -/
def gridBefore (s : State) (a : Int) : Int :=
  let len := max 1 (intervalLen s)
  s.sec.nextT + ((a - s.sec.nextT) / len) * len

/-- An interval that has ended by commit instant `a` closes, and the ends passed over with it give no interval. -/
def intervalEnd (s : State) (a : Int) : State :=
  if intervalOver s a then
    intervalClose { s with sec := { s.sec with nextT := gridBefore s a, runsOn := true } }
  else s

/-- Set flags of the open interval. -/
def intervalFlag (s : State) (f : Nat) : State :=
  { s with sec := { s.sec with interval := s.sec.interval.map (fun iv => { iv with flags := iv.flags ||| f }) } }

/-- Frame `n` joins an interval: a number passed over counts with value 0. -/
def intervalAdd (iv : Interval) (n : Nat) (missed : Bool) (v : Bytes) (claim ceil flags : Nat) : Interval :=
  let ofs := msub 32 n iv.first
  let gap := ofs - iv.nfr
  { iv with nfr := ofs + 1, miss := iv.miss + b2n missed,
            missofs := if missed ∧ iv.missofs.length < 4 then iv.missofs ++ [ofs % 65536] else iv.missofs,
            flags := iv.flags ||| flags, claim := claim, ceil := ceil, vals := iv.vals ++ zeros (8 * gap) ++ v }

/-- Commit instant `a` of frame `n` for the receipts: whether the frame was missed, its value V (R555), and whether a pattern is
shown. -/
def receiptFrame (s : State) (n : Nat) (a : Int) (missed : Bool) (v claim : Nat) (test : Bool) : State :=
  if !receiptsOn s then { s with sec := { s.sec with interval := none, runsOn := false } }
  else
    let s := intervalEnd s a
    let base := if s.sec.runsOn then gridBefore s a else a
    let flags := b2n test + 2 * b2n (power s == 1) + 16 * b2n (servo s != tLocked)
    let ceil := getF s F.LMP_CEIL_CEIL
    let open' (t : Int) : State :=
      { s with sec := { s.sec with interval := some (intervalAdd ⟨n, 0, 0, [], 0, 0, 0, 0, 0, 0, 0, []⟩ n missed (beBytes 8 v) claim ceil flags),
                                   nextT := t, runsOn := false } }
    match s.sec.interval with
    | some iv =>
      if msub 32 n iv.first < iv.nfr + 65536 ∧ iv.nfr ≤ msub 32 n iv.first then
        { s with sec := { s.sec with interval := some (intervalAdd iv n missed (beBytes 8 v) claim ceil flags) } }
      else s
    | none => open' (base + intervalLen s)

/-- The receipt of an interval (R557) as signed now. -/
def receiptBytes (s : State) (iv : Interval) (rseq : Nat) : Bytes × State :=
  let flags := iv.flags ||| (if s.sec.first then 4 else 0)
  let offs := (List.range 4).flatMap (fun i => beBytes 2 (iv.missofs.getD i 0xFFFF))
  let body := [1, byte flags] ++ beBytes 2 (ownPostcode s) ++ beBytes 4 rseq ++ beBytes 4 iv.first ++ beBytes 4 iv.nfr ++
    beBytes 4 iv.miss ++ beBytes 4 iv.claim ++ beBytes 2 (min 65535 iv.mism) ++ [byte (iv.rbgrp % 16), byte iv.ceil] ++
    beBytes 4 iv.rbspk ++ beBytes 4 iv.flcnt ++ beBytes 4 (timeNs s) ++ beBytes 4 s.wraps ++ offs ++ unitUid ++ sha iv.vals
  let (sig, s) := signWith s body
  (body ++ sig, s)

/-- Can no receipt leave: no port is UP, or the chain is in reset? -/
def receiptsHeld (s : State) : Bool := (upPorts s).isEmpty || blkReset s 0x0D

/-- Beyond four receipts held with no port UP, the oldest is dropped (R558). -/
def heldDrop (s : State) : State :=
  if receiptsHeld s then
    let n := s.sec.held.length - 4
    incSat { s with sec := { s.sec with held := s.sec.held.drop n } } F.SEC_CNT_RDROP n
  else s

/-- A receipt is signed: it has the next RSEQ and waits to be sent. -/
def receiptDone (s : State) (iv : Interval) : State :=
  if !s.sec.idkey then s
  else
    let n := s.sec.rseq
    let (b, s) := receiptBytes s iv n
    heldDrop (setF { s with sec := { s.sec with rseq := (n + 1) % 2 ^ 32, first := false, held := s.sec.held ++ [b] } } F.SEC_RSEQ_RSEQ n)

/-- The receipts held leave on the UP ports; with none they stay held (R558). DESIGN CHOICE (log entry 80). -/
def receiptSend (s : State) : State := if receiptsHeld s then heldDrop s else sendHeld s

/-! ### Engine completions -/

/-- What an operation does as it completes. -/
def engineFinish (s : State) (o : EngOp) : State :=
  match o with
  | .receipt iv => receiptDone s iv
  | .unwrap l => unwrapDone s l
  | .enrol it =>
    match s.sec.enrols.find? (fun x => x.item == it) with
    | some x => enrolStep s x
    | none => s
  | .quoteLetter l mask => quoteLetterDone s l mask
  | .quoteEntry it nonce => quoteEntryDone s it nonce
  | .void => s

/-- The operation in service completes and the next starts. -/
def engineDone (s : State) : State :=
  match s.sec.busy with
  | none => s
  | some o =>
    let s := engineFinish { s with sec := { s.sec with busy := none } } o
    engineRun (s.sec.wait.length + 2) s

/-! ### CRC records (R559) -/

/-- Bytes of a CRC record. -/
def crcRecord (n : Nat) (aborted : Bool) (vals : List (Nat × Nat)) : Bytes :=
  leBytes 4 n ++ [byte (b2n aborted)] ++ zeros 59 ++
    (List.range 2048).flatMap (fun i => leBytes 8 (((vals.find? (fun v => v.1 == i)).map Prod.snd).getD 0))

/-- Is a record ready: its frame aborted, or over, or composed? -/
def crcReady (s : State) (e : Nat × Bool × List (Nat × Nat)) : Bool :=
  e.2.1 || e.1 != getF s F.FRT_FRAME_FRAME || (match s.cmp.raster with | some r => r.frame == e.1 && r.finished | none => false)

/-- Write the oldest record that is ready; it is lost where the surface is gone. -/
def crcWrite (s : State) : State :=
  match s.sec.crcs.find? (crcReady s) with
  | none => s
  | some e =>
    let s := { s with sec := { s.sec with crcs := s.sec.crcs.erase e } }
    let h := getF s F.SEC_CRCCFG_HANDLE
    let off := e.1 % 2 ^ getF s F.SEC_CRCCFG_SIZE * 16448
    if (surfOf s h).isSome then svcWrite s (areaAddr s h off) (crcRecord e.1 e.2.1 e.2.2) else s

/-! ### The commands -/

/-- Does SEC work: it has no block reset (R80)? -/
def whenSec (s : State) (f : State → State) : Result := whenOn 0x16 s f

/-- CERT_GET_LETTER (R538). -/
def execCertGetLetter (s : State) : Result := whenSec s (fun s => onLetter s 6 (fun s l => if isTile s then certGet s l else s))

/-- KEY_WRAP_LETTER (R551): the unwrap waits for the engine. -/
def execKeyWrapLetter (s : State) : Result :=
  whenSec s (fun s => onLetter s 7 (fun s l => if isTile s then engineAdd s (.unwrap l) else s))

/-- QUOTE_REQ_LETTER (R545). -/
def execQuoteReqLetter (s : State) : Result := whenSec s (fun s => onLetter s 8 (fun s l => if isTile s then quoteReq s l else s))

/-- KEYSET_ENTRY (R548). -/
def execKeysetEntry (s : State) : Result := whenSec s (fun s => onEntry s 0x58 keyset)

/-- ENROL_ENTRY (R549). -/
def execEnrolEntry (s : State) : Result := whenSec s (fun s => onEntry s 0x59 enrolStart)

/-- ENROL_REPLY (R549). -/
def execEnrolReply (s : State) : Result := whenSec s (fun s => if isSender s then enrolReplyStep s else s)

/-- ENROL_TIMEOUT (R549). -/
def execEnrolTimeout (dt : Nat) (s : State) : Result := whenSec (advance dt s) enrolTimeout

/-- SWITCH_ENTRY (R552). -/
def execSwitchEntry (s : State) : Result := whenSec s (fun s => onEntry s 0x5A switchEntry)

/-- QUOTE_ENTRY (R546); `host` answers reads of host-backed pages. -/
def execQuoteEntry (host : HostRes) (s : State) : Result := whenSec s (fun s => onEntryRead s 0x5B (secWaits 780) (fun s it => quoteEntry s it host))

/-- EXTEND_ENTRY (R544). -/
def execExtendEntry (host : HostRes) (s : State) : Result := whenSec s (fun s => onEntryRead s 0x5C (secWaits 64) (fun s it => extendEntry s it host))

/-- LIFE_ENTRY (R540). -/
def execLifeEntry (host : HostRes) (s : State) : Result := whenSec s (fun s => onEntryRead s 0x5D (secWaits 304) (fun s it => lifeEntry s it host))

/-- SIGN_ENGINE_DONE (R547). -/
def execSignEngineDone (dt : Nat) (s : State) : Result := whenSec (advance dt s) engineDone

/-- RECEIPT_SIGNED (R558). -/
def execReceiptSigned (s : State) : Result := whenSec s receiptSend

/-- CRC_RECORD_WRITE (R559). -/
def execCrcRecordWrite (dt : Nat) (s : State) : Result := whenSec (advance dt s) crcWrite

end Sys2Proof.Machine
end

