-- ==== Sys2Proof/Machine/Lmp.lean ====
section
/-! DEFINITION. LMP: runs into the frame store, commits, modes and slots of a tile, and the on-time of every lamp (R328, R416 to
R445). -/

namespace Sys2Proof.Machine

/-! ### Geometry -/

def tileW (s : State) : Nat := getF s F.LMP_GEOM_TWM1 + 1
def tileH (s : State) : Nat := getF s F.LMP_GEOM_THM1 + 1

/-- OBITS of a stream (LMP_STRM). -/
def strmObits (s : State) (k : Nat) : Nat := bits (getF s F.LMP_STRM_OBITS) (2 * k) 2

/-- Buffers of the frame store, and bytes of one (R419). -/
def fsBufs (s : State) : Nat := getF s F.LMP_CTL_FSBUF + 1
def bufBytes (s : State) : Nat := (32 * tileW s * tileH s + 65535) / 65536 * 65536

/-! ### Instants (R416) -/

/-- The anchor of the mode in force (R385). -/
def modeStart (s : State) : Anchor := ⟨(gen s (tileGen s)).start, (gen s (tileGen s)).k⟩

/-- The mode under which frame `n` has its instants, with its anchor: frames before a mode's first keep the mode before
it (R436, R437). -/
def modeOf (s : State) (n : Nat) : Option (Mode × Anchor) :=
  match s.lmp.mode, s.lmp.prev with
  | none, _ => none
  | some m, some (old, st, e, _) => if matOrAfter 32 n e then some (m, modeStart s) else some (old, st)
  | some m, none => some (m, modeStart s)

/-- A_N of a mode. -/
def commitAt (m : Mode) (a : Anchor) (n : Nat) : Int := cadenceAt m a.st n a.k + ((m.lat : Int) - m.margin) * 2 ^ 24

/-- D_N of a mode. -/
def displayAt (m : Mode) (a : Anchor) (n : Nat) : Int := cadenceAt m a.st n a.k + (m.lat : Int) * 2 ^ 24

/-- Has a step of the time passed over an instant (R435)? -/
def passedOver (s : State) (i : Int) : Bool := s.lmp.skips.any (fun k => k.1 < i && i < k.2)

/-- A stamp of the last while on the extended time, in 2^-16 ns. -/
def stampExt (s : State) (t : Nat) : Nat := fullTime s / 2 ^ 12 - msub 48 (stampNow s) t

/-! ### Timing sets (R433, R455, R460) -/

def setStep (s : State) (t : Nat) : Nat := getF s (F.LMP_TSCFG_STEP t)
def setOfs (s : State) (t k : Nat) : Nat := getF s (F.LMP_TSOFS_NS t k)
def setWid (s : State) (t k : Nat) : Nat := getF s (F.LMP_TSWID_NS t k)
def setGmax (s : State) (t k : Nat) : Nat := getF s (F.LMP_TSGEN_GMAX t k)
def setStream (s : State) (t k : Nat) : Nat := getF s (F.LMP_TSGEN_STREAM t k)

/-- Streams that the used slots of a mode name, rising (R417). -/
def modeStreams (s : State) (m : Mode) : List Nat := (List.range 4).filter (fun k => (List.range m.nslot).any (fun i => setStream s m.tset i == k))

def scanD (s : State) : Nat := getF s F.SPK_SCAN0_DM1 + 1
def scanPasses (s : State) : Nat := getF s F.SPK_SCAN0_NPM1 + 1
def scanBlank (s : State) : Nat := (getF s F.SPK_SCAN1_BLANKM1 + 1) * 10
def scanPw (s : State) : Nat := getF s F.SPK_SCAN1_PW * 10

def spokeOn (s : State) (n : Nat) : Bool := fbit s F.SPK_SPKEN_EN n
def spokeNd (s : State) (n : Nat) : Nat := getF s (F.SPK_SPKCFG_NDM1 n) + 1
def spokeNch (s : State) (n : Nat) : Nat := getF s (F.SPK_SPKCFG_NCH n)

/-- Does slot `k` of a timing set fit the scan settings (R455)? CK is 40 / RATE ns. -/
def slotFits (s : State) (t k : Nat) : Bool :=
  let step := setStep s t
  let lw := slotLw (setGmax s t k) (scanPasses s)
  let ck := step * getF s F.SPK_CTL_RATE
  decide (lw ≤ 65535) &&
  decide (scanPasses s * scanD s * (scanBlank s + lw * step) + getF s F.SPK_CTL_PROBEEN * scanD s * scanPw s ≤ setWid s t k) &&
  ck % 40 == 0 && decide (1 ≤ ck / 40 ∧ ck / 40 ≤ 255)

/-- Bits of one slot on spoke `n` (R460). -/
def spokeBits (s : State) (n : Nat) : Nat := spokeNd s n * ((4 + (scanD s * spokeNch s n * 20 + 31) / 32) * 32) + 128

/-- MNEED (R460), over the enabled spokes. DESIGN CHOICE (log entry 88). -/
def mneed (s : State) : Nat :=
  let rate := max 1 (getF s F.SPK_CTL_RATE)
  20000 + ((List.range 32).map (fun n => if spokeOn s n then ((spokeBits s n + 16384) * 20 + rate - 1) / rate else 0)).foldl max 0

/-- The checks of R434 on a mode, in order. -/
def modeCode (s : State) (m : Mode) : Status :=
  let t := m.tset
  let ks := List.range m.nslot
  let last := m.nslot - 1
  if !isSet s F.LMP_CTL_EN then .wrongState
  else if ks.any (fun k => setWid s t k < 1000 || setGmax s t k < 1) then .range
  else if ks.any (fun k => decide (k < last) && setOfs s t (k + 1) < setOfs s t k + setWid s t k) || m.perNs < setOfs s t last + setWid s t last then .range
  else if ks.any (fun k => !slotFits s t k) then .range
  else if ks.any (fun k => decide (1 ≤ k) && setOfs s t k < setOfs s t (k - 1) + mneed s) ||
      m.perNs + setOfs s t 0 < setOfs s t last + mneed s then .range
  else if m.margin + setOfs s t 0 < mneed s then .range
  else if (fsBufs s - 1) * m.perNs ≤ m.lat - m.margin ∨ fsBufs s * m.perNs ≤ m.lat + setOfs s t last then .noResource
  else .ok

/-- LMP_MSTAT.CODE follows a check of the mode in force. -/
def checkMode (s : State) (m : Mode) : State := lampDrop (setF s F.LMP_MSTAT_CODE (modeCode s m).code)

/-! ### The frame store (R417, R419) -/

/-- Runs a stream needs per frame (R417). -/
def runsNeeded (s : State) (k : Nat) : Nat :=
  let ppr := runPixels (strmObits s k)
  (tileW s * tileH s + ppr - 1) / ppr

/-- Has every run of every used stream an arrival instant before `a` (2^-24 ns)? -/
def frameComplete (s : State) (m : Mode) (f : TFrame) (a : Int) : Bool :=
  (modeStreams s m).all (fun k => (List.range (runsNeeded s k)).all (fun r =>
    f.runs.any (fun x => x.stream == k && x.run == r && (x.stamp : Int) * 2 ^ 8 < a)))

/-- Buffers in use: the front buffer, those that slot data still to be sent reads, those being filled. -/
def usedBufs (s : State) : List Nat :=
  (s.lmp.front.map (fun f => f.2.1)).toList ++
  (s.lmp.shows.filter (fun h => !(h.sent && h.upto ≤ h.slot + 1))).filterMap Show.buf ++ s.lmp.frames.filterMap TFrame.buf

/-- The lowest free buffer. -/
def freeBuf (s : State) : Option Nat := (List.range (fsBufs s)).find? (fun k => !(usedBufs s).contains k)

/-- Code `c` of pixel `i` in the PIX bytes of a run (R326). -/
def runCode (pix : Bytes) (b i c : Nat) : Nat := ofBits (((toBits pix).drop (3 * b * i + b * c)).take b)

/-- Write the pixels of a run into a buffer (R419), by port 3 (R490). -/
def storeRun (s : State) (buf stream run count : Nat) (pix : Bytes) : State :=
  let o := strmObits s stream
  let b := obitsOf o
  match surfOf s (getF s F.LMP_FSSURF_HANDLE) with
  | none => s
  | some x =>
    (List.range count).foldl (fun s i =>
      let px := (List.range 3).flatMap (fun c => leBytes 2 (expand b (runCode pix b i c)))
      surfWrite 3 s (65536 * x.vp + buf * bufBytes s + 32 * (run * runPixels o + i) + 8 * stream) (px ++ zeros 2)) s

/-- The last committed frame that check 5 of R328 compares with (R329). -/
def lastCommitted (s : State) : Option Nat := (s.lmp.last.orElse (fun _ => s.lmp.first.map (fun f => msub 32 f 1)))

/-- The stream accepted for frame `n`, or the choice made last where none has been made for it (R397). -/
def acceptedFor (s : State) (n : Nat) : Nat × Nat := (chosenFor s n).getD (lastChoice s)

/-- Has the commit instant of frame `n` been handled? -/
def commitPast (s : State) (n : Nat) : Bool := mafter 32 s.lmp.nextA n

/-- Replace the record of a frame being received. -/
def setFrame (s : State) (f : TFrame) : State :=
  let fs := if s.lmp.frames.any (fun g => g.n == f.n) then s.lmp.frames.map (fun g => if g.n = f.n then f else g) else s.lmp.frames ++ [f]
  { s with lmp := { s.lmp with frames := fs } }

/-- A frame is marked NOBUF, and counted once (R419). DESIGN CHOICE (log entry 84). -/
def markNobuf (s : State) (f : TFrame) : State := incSat (setFrame s { f with nobuf := true }) F.LMP_FSTAT_NOBUF

/-- A run that passed R328 reaches the frame store (R419), or only counts toward LATEDONE where its frame has been missed
(R418), or is discarded. -/
def takeRun (s : State) (n stream run count stamp : Nat) (pix : Bytes) : State :=
  let old := s.lmp.frames.find? (fun f => f.n == n)
  let f := old.getD ⟨n, none, false, false, [], false⟩
  let rec' : RunRec := ⟨stream, run, stamp, pix⟩
  if s.chn.aborted.contains n then
    if commitPast s n then s else setFrame s { f with cut := true }
  else if f.missed then
    let g := { f with runs := f.runs ++ [rec'] }
    let s := setFrame s g
    match modeOf s n, modeOf s (n + 1) with
    | some (m, _), some (m', st') =>
      let next := commitAt m' st' (n + 1)
      if !f.cut && !f.nobuf && !frameComplete s m f next && frameComplete s m g next then incSat s F.LMP_FSTAT_LATEDONE else s
    | _, _ => s
  else if commitPast s n ∨ f.nobuf then s
  else
    let buf := f.buf.orElse (fun _ => freeBuf s)
    match buf with
    | none => markNobuf s f
    | some k => storeRun (setFrame s { f with buf := some k, runs := f.runs ++ [rec'] }) k stream run count pix

/-! ### Runs and aborts (R322, R328, R329) -/

/-- Fields of a RUN or CLEAR cell (R325). -/
def runFrame (c : Bytes) : Nat := bodyBE c 0 4
def runWord (c : Bytes) : Nat := bodyBE c 4 4
def runStream (c : Bytes) : Nat := bits (runWord c) 30 2
def runSlot (c : Bytes) : Nat := bits (runWord c) 28 2
def runObits (c : Bytes) : Nat := bits (runWord c) 26 2
def runCount (c : Bytes) : Nat := bits (runWord c) 19 7
def runNo (c : Bytes) : Nat := bits (runWord c) 0 19

/-- Check 3 of R328. With no mode in force no stream is displayed yet, and check 5 refuses the run. -/
def runFits (s : State) (c : Bytes) : Bool :=
  let o := runObits c
  (match s.lmp.mode with | some m => (modeStreams s m).contains (runStream c) | none => true) &&
  o == strmObits s (runStream c) && decide (runCount c ≤ runPixels o) &&
  decide (runNo c * runPixels o + runCount c ≤ tileW s * tileH s)

/-- The plaintext of a run, if it verifies (R327). -/
def runOpen (c : Bytes) (k : Option KeySlot) : Option Bytes :=
  match k with
  | some x =>
    (Config.gcmOpen x.ckey (beBytes 4 x.session ++ slice c 4 4 ++ slice c 8 4) (slice c 0 12) (slice c 12 196) (slice c 208 16)).map (fit 196)
  | none => if leAt c 208 4 = crc32 (slice c 0 208) then some (slice c 12 196) else none

/-- Frames that a slot's session has run, once a run of frame `n` is accepted. -/
def slotRan (x : KeySlot) (n : Nat) : KeySlot :=
  match x.lastF with
  | none => { x with lastF := some n }
  | some f => if mafter 32 n f then { x with lastF := some n, age := x.age + msub 32 n f } else x

/-- A consumed RUN or CLEAR (R328). -/
def runArrive (s : State) (x : RxCell) : State :=
  let c := x.cell
  let n := runFrame c
  let k := runSlot c
  let clear := cellKind c == 2
  let slot := if clear then none else keySlot s k
  if (acceptedFor s n).1 ≠ x.port then s
  else if clear ∧ isSet s F.CHN_CFG_SEALRUN then incSat s F.CHN_RSTAT_BADRUN
  else if !runFits s c then incSat s F.CHN_RSTAT_BADRUN
  else if !clear ∧ slot.isNone then incSat s F.CHN_RSTAT_NOKEY
  else
    match s.lmp.mode, lastCommitted s with
    | some _, some l =>
      if !mafter 32 n l ∨ (slot.any (fun y => 2 ^ 31 ≤ y.age)) then incSat s F.CHN_RSTAT_STALE
      else
        match runOpen c slot with
        | none => incSat s F.CHN_RSTAT_TAGFAIL
        | some pix =>
          if s.chn.written.contains (n, runWord c) then s
          else
            let s := { s with chn := { s.chn with written := s.chn.written ++ [(n, runWord c)] } }
            let s := if clear then setF s F.CHN_KEYSTAT_INUSE 0
              else touchKeySlot (setF s F.CHN_KEYSTAT_INUSE (2 ^ k)) k (fun y => slotRan y n)
            takeRun s n (runStream c) (runNo c) (runCount c) (stampExt s x.time) pix
    | _, _ => s

/-- An ABORT reaches a tile (R322, R418). -/
def abortArrive (s : State) (x : RxCell) : State :=
  let n := bodyBE x.cell 0 4
  let (p, claim) := acceptedFor s n
  let early := match modeOf s n with
    | some (m, st) => decide ((stampExt s x.time : Int) * 2 ^ 8 < commitAt m st n)
    | none => true
  let fresh := match lastCommitted s with | some l => mafter 32 n l | none => true
  if p ≠ x.port ∨ claim ≠ bodyBE x.cell 4 4 ∨ !early ∨ !fresh ∨ commitPast s n then s
  else
    let s := { s with chn := { s.chn with aborted := (s.chn.aborted.filter (· != n)) ++ [n] } }
    match s.lmp.frames.find? (fun f => f.n == n) with
    | some f => setFrame s { f with buf := none, runs := [], cut := f.cut || !f.runs.isEmpty }
    | none => s

/-! ### Dimming (R429) -/

/-- A write of LMP_DIM arms a ramp, whose first frame is LMP_DIMFRM.F0 as each commit instant finds it; where A_F0 has passed, it is the
next commit instant's. DESIGN CHOICE (log entry 88). -/
def dimArm (s : State) : State :=
  let f0 := getF s F.LMP_DIMFRM_F0
  let late := match modeOf s f0 with
    | some (m, st) => commitPast s f0 || decide (commitAt m st f0 ≤ nowFine s)
    | none => false
  let s := if late then setF s F.LMP_DIMNOW_LATE 1 else s
  { s with lmp := { s.lmp with dimNext := some ⟨0, getF s F.LMP_DIM_TARGET, getF s F.LMP_DIM_FRAMES, if late then some s.lmp.nextA else none⟩ } }

/-- The first frame of an armed ramp, as the commit instant of frame `n` finds it (R429, R442); one that F0 has let pass is `n`. -/
def rampFirst (s : State) (r : Ramp) (n : Nat) : Nat :=
  match r.f0 with
  | some f => f
  | none => let f0 := getF s F.LMP_DIMFRM_F0; if matOrAfter 32 n f0 then n else f0

/-- The dimming of frame `n`; an armed ramp whose first frame has come takes over from the value before it. -/
def dimStep (s : State) (n : Nat) : Nat × State :=
  let (d, next, late) := match s.lmp.dimNext with
    | some r =>
      let f := rampFirst s r n
      if matOrAfter 32 n f then ({ r with s := s.lmp.dim.value (msub 32 f 1), f0 := some f }, none, r.f0.isNone && f != getF s F.LMP_DIMFRM_F0)
      else (s.lmp.dim, some r, false)
    | none => (s.lmp.dim, none, false)
  let s := if late then setF s F.LMP_DIMNOW_LATE 1 else s
  let v := d.value n
  (v, setF { s with lmp := { s.lmp with dim := d.settle n, dimNext := next, dimFrame := n } } F.LMP_DIMNOW_DIM v)

/-! ### Samples (R426, R432) -/

/-- Is zone `z` treated as failed (R426, R505)? -/
def zoneFailed (s : State) (z : Nat) : Bool := fbit s F.THM_FAIL_TD z || fbit s F.THM_EXCL_TDX z

/-- Temperature used for a zone (S11.4, 16 bits). -/
def zoneTemp (s : State) (z : Nat) : Nat :=
  if !zoneFailed s z then getF s (F.THM_TD_TEMP z)
  else
    let good := ((List.range 16).filter (fun k => !zoneFailed s k)).map (fun k => signed 16 (getF s (F.THM_TD_TEMP k)))
    match good with
    | [] => getF s F.LMP_SETTEMP1_TC
    | t :: l => unsign 16 (l.foldl max t)

/-- Pending curve loads take effect at the commit instant of frame `n` (R424). -/
def curvesDue (s : State) (n : Nat) : State :=
  let ls := s.lmp.loads
  ls.foldl (fun s l => cmpDone { s with lmp := { s.lmp with curves := s.lmp.curves.filter (fun c => c.1 != l.index) ++ [(l.index, l.words)] } }
    l.item .ok 0xFFFF n false) { s with lmp := { s.lmp with loads := [] } }

/-- Take the samples of R432 for frame `n`. -/
def sampleAll (s : State) (n : Nat) : Samp × State :=
  let s := curvesDue s n
  let zs := (List.range 16).map (fun z => (zoneTemp s z, zoneFailed s z))
  let s := (List.range 16).foldl (fun s z =>
    let x := zs.getD z (0, false)
    setF (setF s (F.LMP_ZTEMP_TEMP z) x.1) (F.LMP_ZTEMP_FAILED z) (b2n x.2)) s
  let (dim, s) := dimStep s n
  (⟨zs, dim, getF s F.LMP_CEIL_CEIL, getF s F.LMP_CORSURF_HANDLE, getF s F.LMP_SETTEMP0_TA, getF s F.LMP_SETTEMP0_TB,
    getF s F.LMP_SETTEMP1_TC, getF s F.LMP_TRIM_KS, s.word R.LMP_TPCFG, getF s F.LMP_TPVAL_LIGHT, s.lmp.curves⟩, s)

/-! ### Missed frames (R421, R422) -/

/-- Cause numbers of R422. -/
def missIncomplete : Nat := 1
def missAborted : Nat := 2
def missNostream : Nat := 3
def missNobuf : Nat := 4
def missStep : Nat := 5

/-- FRAME_MISS, at most once per second (R422). -/
def missEvent (s : State) (n cause : Nat) : State :=
  let c := s.lmp.missEv + 1
  let due := match s.lmp.missAt with | some t => decide (t + 1000000000 ≤ upNs s) | none => true
  if due then
    raise { s with lmp := { s.lmp with missEv := 0, missAt := some (upNs s) } } 0x1101 (beBytes 4 n ++ beBytes 2 (min 65535 c) ++ [byte cause])
  else { s with lmp := { s.lmp with missEv := c } }

/-- Frame `n` is missed; one that is marked NOBUF was counted as such when it was marked. DESIGN CHOICE (log entry 84). -/
def missFrame (s : State) (n cause : Nat) : State :=
  let s := incSat s F.LMP_FSTAT_MISS
  let s := if cause = missAborted then incSat s F.LMP_FSTAT_ABORT else s
  let s := setF s F.LMP_LASTMISS_FRAME n
  let s := yield s 3 4 0x11 (if cause = missAborted then .aborted else .late) n
  missEvent { s with lmp := { s.lmp with miss := s.lmp.miss + 1 } } n cause

/-! ### Display intervals -/

/-- Instant of slot `k` of a display interval. -/
def slotAt (s : State) (h : Show) (k : Nat) : Int := h.disp + (setOfs s h.mode.tset k : Int) * 2 ^ 24

/-- The head interval is over: LMP retires the frame (R420), if the interval was placed while LMP read for it. -/
def showDone (s : State) : State :=
  let t := { s with lmp := { s.lmp with shows := s.lmp.shows.drop 1 } }
  match s.lmp.shows with
  | h :: _ => if s.srf.frames.any (fun f => f.n == h.n && f.running) then retireFrame t else t
  | [] => t

/-- Every interval is over, the frames that LMP reads for them retired. -/
def showsEnd (s : State) : State := s.lmp.shows.foldl (fun s _ => showDone s) s

/-- Slots of an interval of a frame before the transition whose window ends by D_E (R437). -/
def slotsBy (s : State) (h : Show) (de : Int) : Nat :=
  ((List.range h.upto).find? (fun k => decide (de < slotAt s h k + (setWid s h.mode.tset k : Int) * 2 ^ 24))).getD h.upto

/-- Cut an interval at D_E; the slots lost are counted. -/
def cutShow (s : State) (de : Int) (h : Show) : Show × State :=
  let u := slotsBy s h de
  ({ h with upto := u }, incSat s F.LMP_MSTAT_CUT (h.upto - max u h.slot))

/-- Intervals that have no slot left are over. -/
def dropShows : Nat → State → State
  | 0, s => s
  | n + 1, s =>
    match s.lmp.shows with
    | h :: _ => if h.upto ≤ h.slot then dropShows n (showDone s) else s
    | [] => s

/-- Every interval of a frame before `e` is cut at D_E. -/
def cutShows (s : State) (e : Nat) (de : Int) : State :=
  let (hs, s) := s.lmp.shows.foldl (fun (acc : List Show × State) h =>
    if matOrAfter 32 h.n e then (acc.1 ++ [h], acc.2)
    else
      let (h', s) := cutShow acc.2 de h
      (acc.1 ++ [h'], s)) ([], s)
  dropShows (hs.length + 1) { s with lmp := { s.lmp with shows := hs } }

/-- Surfaces LMP binds for a frame: it refuses one that is FREEING (R192, R420). DESIGN CHOICE (log entry 144). -/
def boundNow (s : State) (hs : List Nat) : List Nat := hs.filter (fun h => (surfOf s h).any (fun x => !x.freeing))

/-- The interval of frame `n` under mode `m` is placed: what it shows is the front buffer, or black (R421).
DESIGN CHOICE (log entry 86). -/
def placeShow (s : State) (n : Nat) (m : Mode) (st : Anchor) (samp : Samp) : State :=
  let on := isSet s F.LMP_CTL_EN
  let hold := getF s F.LMP_CTL_HOLDF
  let black := !on || (hold != 0 && decide (hold < s.lmp.miss))
  let (buf, streams) := match s.lmp.front with
    | some (_, b, l) => if black then (none, []) else (some b, l)
    | none => (none, [])
  let bound := boundNow s [getF s F.LMP_FSSURF_HANDLE, samp.cor]
  let h : Show := ⟨n, m, displayAt m st n, buf, streams, samp, 0, m.nslot, false, false, bound, s.lmp.trans == some n⟩
  let (h, s) := match s.lmp.prev with
    | some (_, _, e, _) =>
      if matOrAfter 32 n e then (h, s)
      else match s.lmp.mode with
        | some m' => cutShow s (displayAt m' (modeStart s) e) h
        | none => (h, s)
    | none => (h, s)
  let s := if on then engineStart s n bound else s
  let s := { s with lmp := { s.lmp with shows := s.lmp.shows ++ [h] } }
  dropShows (s.lmp.shows.length + 1) s

/-! ### The commit instant (R418) -/

/-- V of a complete frame (R555). -/
def frameValue (s : State) (m : Mode) (f : TFrame) : Nat :=
  crc64 ((modeStreams s m).flatMap (fun k => (List.range (runsNeeded s k)).flatMap (fun r =>
    ((f.runs.find? (fun x => x.stream == k && x.run == r)).map RunRec.pix).getD (zeros 196))))

/-- Frame `n` is committed. -/
def commitFrame (s : State) (n : Nat) (m : Mode) (f : TFrame) : State :=
  let s := setF s F.LMP_FRAME_FRAME n
  { s with lmp := { s.lmp with front := f.buf.map (fun b => (n, b, modeStreams s m)), last := some n, miss := 0,
                               frames := s.lmp.frames.filter (fun g => mafter 32 g.n n) } }

/-- Cause for which frame `n` is missed; none where it is committed. -/
def missCause (s : State) (n : Nat) (m : Mode) (a : Int) (late : Bool) : Option Nat :=
  let f := (s.lmp.frames.find? (fun f => f.n == n)).getD ⟨n, none, false, false, [], false⟩
  if passedOver s a then some missStep
  else if late then some missIncomplete
  else if frameComplete s m f a && f.buf.isSome then none
  else if f.cut then some missAborted
  else if (acceptedFor s n).1 = 3 then some missNostream
  else if f.nobuf then some missNobuf
  else some missIncomplete

/-- Is frame `n` one of the old mode after a late mode letter (R436)? -/
def lateFrame (s : State) (n : Nat) : Bool :=
  (match s.lmp.pend with | some (_, some _) => true | _ => false) ||
  (match s.lmp.prev with | some (_, _, e, some _) => !matOrAfter 32 n e | _ => false)

/-- A missed frame keeps its runs until the next commit instant, for LATEDONE; its buffer is free. -/
def keepMissed (s : State) (n : Nat) : State :=
  let f := (s.lmp.frames.find? (fun f => f.n == n)).getD ⟨n, none, false, false, [], false⟩
  setFrame { s with lmp := { s.lmp with frames := s.lmp.frames.filter (fun g => matOrAfter 32 g.n n) } } { f with buf := none, missed := true }

/-- The frame handled after frame `n`: of the mode before a late one, only frames that had their cadence instant are. -/
def frameAfter (s : State) (n : Nat) : Nat :=
  let k := (n + 1) % 2 ^ 32
  match s.lmp.prev with
  | some (_, _, e, some x) => if matOrAfter 32 k x && !matOrAfter 32 k e then e else k
  | _ => k

/-- After the commit instant of frame `n`. -/
def afterCommit (s : State) (n : Nat) (a : Int) : State :=
  let prev := match s.lmp.prev with | some (_, _, e, _) => if matOrAfter 32 n e then none else s.lmp.prev | none => none
  let keep := match s.lmp.last with | some l => s.chn.written.filter (fun w => mafter 32 w.1 l) | none => s.chn.written
  { s with lmp := { s.lmp with nextA := frameAfter s n, prev := prev, trans := if s.lmp.trans = some n then none else s.lmp.trans,
                               skips := s.lmp.skips.filter (fun k => a - 2 ^ 54 < k.2) },
           chn := { s.chn with aborted := s.chn.aborted.filter (fun k => mafter 32 k n), written := keep } }

/-- Is a pattern, the locator or the self-test shown (R439)? -/
def testShown (s : State) : Bool := isSet s F.LMP_TPCFG_PAT || isSet s F.LMP_TPCFG_LOC || isSet s F.LMP_TPCFG_SELF

/-- Frame `n` at its commit instant `a`: committed, missed, or a transition frame, which is neither. Answers whether it was
missed and its V. -/
def commitOutcome (s : State) (n : Nat) (m : Mode) (a : Int) : Bool × Nat × State :=
  if !isSet s F.LMP_CTL_EN ∨ 2 ≤ power s ∨ s.lmp.trans = some n then
    (false, 0, { s with lmp := { s.lmp with frames := s.lmp.frames.filter (fun g => mafter 32 g.n n) } })
  else
    match missCause s n m a (lateFrame s n), s.lmp.frames.find? (fun f => f.n == n) with
    | none, some f => (false, frameValue s m f, commitFrame s n m f)
    | none, none => (false, 0, s)
    | some c, _ => (true, 0, missFrame (keepMissed s n) n c)

/-- The checks of R434 run again at a commit instant where they are due. -/
def recheckMode (s : State) : State :=
  match s.lmp.recheck, s.lmp.mode with
  | true, some cur => checkMode { s with lmp := { s.lmp with recheck := false } } cur
  | _, _ => s

/-- What the receipt of a commit instant claims: the claim accepted for its frame, 0 for none. -/
def claimFor (s : State) (n : Nat) : Nat := let x := acceptedFor s n; if x.1 = 3 then 0 else x.2

/-- The commit instant A_N of frame `n`, at `a` (R418). -/
def commitRun (s : State) (n : Nat) (m : Mode) (st : Anchor) (a : Int) : State :=
  let claim := claimFor s n
  let r := sampleAll s n
  let q := commitOutcome r.2 n m a
  let s := receiptFrame q.2.2 n a q.1 q.2.1 claim (testShown q.2.2)
  afterCommit (placeShow s n m st r.1) n a

/-- The next commit instant, if it has come. -/
def commitInstant (s : State) : State :=
  let n := s.lmp.nextA
  match modeOf s n with
  | none => s
  | some (m, st) =>
    let a := commitAt m st n
    if nowFine s < a then s else commitRun (recheckMode s) n m st a

/-- A receipt interval whose end has come closes at the next commit instant (R556). -/
def intervalStep (s : State) : State :=
  match modeOf s s.lmp.nextA with
  | none => s
  | some (m, st) =>
    let a := commitAt m st s.lmp.nextA
    if a ≤ nowFine s then intervalEnd s a else s

/-! ### Modes (R385, R434 to R437) -/

/-- The mode of a MODE letter (R337). -/
def letterMode (c : Bytes) : Mode :=
  ⟨beAt c 12 4, beAt c 16 4, beAt c 20 4, beAt c 24 4, beAt c 28 4, byteAt c 4 % 4 + 1, bits (byteAt c 4) 2 3, beAt c 0 4, beAt c 8 4,
   bit (byteAt c 4) 5⟩

/-- Show the mode in force and check it (R434). -/
def showMode (s : State) (m : Mode) (late : Bool) : State :=
  let s := setF (setF (setF s F.LMP_MSTAT_MODE 1) F.LMP_MSTAT_TSET m.tset) F.LMP_MSTAT_NSLOTM1 (m.nslot - 1)
  let s := if late then intervalFlag (setF s F.LMP_MSTAT_LATE 1) 32 else s
  let s := checkMode { s with lmp := { s.lmp with recheck := false } } m
  raise s 0x1102 (beBytes 4 m.e ++ [byte (modeMcfg m), byte (b2n late)])

/-- The first index from `k` on whose commit instant is at least at `t`; `fuel` bounds the search. -/
def firstCommit (m : Mode) (st t : Int) : Nat → Nat → Nat
  | 0, k => k
  | fuel + 1, k => if t ≤ commitAt m ⟨st, k⟩ ((m.e + k) % 2 ^ 32) then k else firstCommit m st t fuel (k + 1)

/-- A mode applied with none in force (R436): TIM takes the cadence generator; the first frame handled is the first whose commit
instant lies at least 1 ms after receipt `r` (2^-24 ns). -/
def firstMode (s : State) (m : Mode) (r : Int) : State :=
  let st := extOf s m.te
  let s := genTake s (getF s F.TIM_CFG_CADGEN) 3 st m.per (firstAfter st m.per (nowFine s))
  let t := r + 1000000 * 2 ^ 24
  let off := ((m.lat : Int) - m.margin) * 2 ^ 24
  let est := firstAfter st m.per (t - off) - 3
  let k := firstCommit m st t 8 est
  let f := (m.e + k) % 2 ^ 32
  showMode { s with lmp := { s.lmp with mode := some m, prev := none, trans := none, first := some f, last := none, front := none,
                                        nextA := f, frames := [], shows := [] } } m false

/-- A mode takes the place of the one in force, with frame `e` the transition frame (R437). Frames of the old mode whose cadence instant
has not come never come. DEDUCED (log entry 83). -/
def changeMode (s : State) (m : Mode) (e : Nat) (late : Bool) : State :=
  match s.lmp.mode with
  | none => s
  | some old =>
    let st := extOf s m.te
    let x := (old.e + (gen s (tileGen s)).k) % 2 ^ 32
    let prev := some (old, modeStart s, e, if late then some x else none)
    let next := if mafter 32 s.lmp.nextA e || (late && matOrAfter 32 s.lmp.nextA x) then e else s.lmp.nextA
    let s := { s with lmp := { s.lmp with mode := some m, prev := prev, trans := some e, pend := none, nextA := next } }
    let s := genProgram s (tileGen s) 3 st m.per (if late then msub 32 e m.e else msub 32 e m.e + 1)
    cutShows (showMode s m late) e (displayAt m ⟨st, msub 32 e m.e⟩ e)

/-- Are two modes the same but for their anchors? -/
def sameMode (a b : Mode) : Bool := { a with e := 0, te := 0 } == { b with e := 0, te := 0 }

/-- A MODE letter reaches a tile (R436). DESIGN CHOICE (log entry 82). -/
def modeLetter (s : State) (l : Letter) : State :=
  let c := l.content
  let m := letterMode c
  let (p, claim) := lastChoice s
  if c.length ≠ 32 ∨ !allZero (slice c 5 3) then refuse s l .illegalValue
  else if p = 3 ∨ claimRank claim ≠ l.rank then s
  else
    let r : Int := (stampExt s l.time : Int) * 2 ^ 8
    match s.lmp.mode with
    | none => firstMode s m r
    | some cur =>
      let ca := cadenceAt cur (modeStart s).st m.e (modeStart s).k
      if sameMode m cur && instantNs ca == m.te then
        if getF s F.LMP_MSTAT_CODE = 0 then s else { s with lmp := { s.lmp with recheck := true } }
      else if r < ca then armMove { s with lmp := { s.lmp with pend := some (m, none) } }
      else
        let st := extOf s m.te
        let j := (m.e + firstAfter st m.per (r + 1000000 * 2 ^ 24 - 1)) % 2 ^ 32
        { s with lmp := { s.lmp with pend := some (m, some j) } }

/-- A late mode whose frame J has come applies (R436). -/
def lateMode (s : State) : State :=
  match s.lmp.pend with
  | some (m, some j) =>
    let cj := cadenceAt m (extOf s m.te) j (msub 32 j m.e)
    if cj ≤ nowFine s && !(genDue s (tileGen s) && genNext s (tileGen s) < cj) then changeMode s m j true else s
  | _ => s

/-- A cadence instant of the tile (R379, R397, R436): the frame's stream is chosen and a pending mode applies. -/
def tileCadence (s : State) : State :=
  let s := lateMode s
  let g := tileGen s
  match s.lmp.mode with
  | none => s
  | some m =>
    if (gen s g).owner ≠ 3 ∨ !genDue s g then s
    else
      let n := (m.e + (gen s g).k) % 2 ^ 32
      let e := instantNs (genNext s g)
      let s := tanChooseFrame (genFire s g) n e
      let s := { s with lmp := { s.lmp with cad := n } }
      match s.lmp.pend with
      | some (x, none) => if matOrAfter 32 n x.e then changeMode s x n false else s
      | _ => s

/-! ### The light of a lamp (R423 to R431, R439, R440) -/

/-- A surface that the interval has bound (R192). -/
def boundSurf (s : State) (h : Show) (handle : Nat) : Option Surf := if h.bound.contains handle then surfOf s handle else none

/-- A 64-byte read of a surface for an interval fails: outside a bound surface, an uncorrectable block or a translation that cannot be
read (R179, R420). With SRF disabled it returns zero and does not fail (R201). -/
def readFails (s : State) (h : Show) (handle a : Nat) : Bool :=
  srfOn s && match boundSurf s h handle with
  | some x => decide (surfSize x < a + 1) || engineBad s h.n x.vp (a / 64 * 64) 64 || walkBad s (x.vp + a / 65536)
  | none => true

/-- The record of pixel `px` in set `k`. -/
def recordAt (s : State) (h : Show) (k px : Nat) : CorRec :=
  match boundSurf s h h.samp.cor with
  | some x => corRec (engineRead s h.n x.vp (32 * tileW s * tileH s * k + 32 * px) 32)
  | none => corRec []

/-- Temperature of the zone of a record. -/
def recTemp (h : Show) (r : CorRec) : Int := signed 16 (h.samp.zones.getD r.zone (0, false)).1

/-- The lower set and the weight for a pixel; its zone is that of its record in set A. DESIGN CHOICE (log entry 85). -/
def recBracket (s : State) (h : Show) (px : Nat) : Nat × Int :=
  corWeight (recTemp h (recordAt s h 0 px)) (signed 16 h.samp.ta) (signed 16 h.samp.tb) (signed 16 h.samp.tc)

/-- Is the received content shown, so that the front buffer is read? -/
def showsContent (s : State) (h : Show) (slot : Nat) : Bool :=
  h.buf.isSome && h.streams.contains (setStream s h.mode.tset slot) && s.lmp.selfAt.isNone && bits h.samp.pat.toNat 0 3 == 0

/-- First byte of a pixel in the front buffer. -/
def pixelAt (s : State) (h : Show) (px : Nat) : Nat := h.buf.getD 0 * bufBytes s + 32 * px

/-- Do the reads for a pixel fail in this slot (R420)? -/
def pixelFails (s : State) (h : Show) (slot px : Nat) : Bool :=
  let lo := (recBracket s h px).1
  let base (k : Nat) : Nat := 32 * tileW s * tileH s * k + 32 * px
  [0, lo, lo + 1].any (fun k => readFails s h h.samp.cor (base k)) ||
  (showsContent s h slot && readFails s h (getF s F.LMP_FSSURF_HANDLE) (pixelAt s h px))

/-- The 64-byte reads of a slot, each of two pixels: surface and offset. -/
def slotReads (s : State) (h : Show) (slot : Nat) : List (Nat × Nat) :=
  let px := tileW s * tileH s
  let bs := List.range ((px + 1) / 2)
  let uses (b k : Nat) : Bool := [2 * b, min (px - 1) (2 * b + 1)].any (fun p => k == 0 || k == (recBracket s h p).1 || k == (recBracket s h p).1 + 1)
  (List.range 3).flatMap (fun k => (bs.filter (fun b => uses b k)).map (fun b => (h.samp.cor, 32 * px * k + 64 * b))) ++
  (if showsContent s h slot then bs.map (fun b => (getF s F.LMP_FSSURF_HANDLE, pixelAt s h (2 * b))) else [])

/-- 64-byte reads of a slot that fail. -/
def slotReadErrors (s : State) (h : Show) (slot : Nat) : Nat := ((slotReads s h slot).filter (fun r => readFails s h r.1 r.2)).length

/-- The translations that a slot's reads use (R179), and the uncorrectable blocks that they meet (R485). -/
def slotWalk (s : State) (h : Show) (slot : Nat) : State :=
  let rs := (slotReads s h slot).filterMap (fun r => (boundSurf s h r.1).bind (fun x => if r.2 < surfSize x then some (x.vp, r.2) else none))
  let s' := (rs.map (fun r => r.1 + r.2 / 65536)).dedup.foldl srfWalk s
  (rs.filter (fun r => engineBad s h.n r.1 (r.2 / 64 * 64) 64)).foldl (fun s r => engineNote s h.n r.1 (r.2 / 64 * 64) 64) s'

/-- Light codes of a pixel at stage 3: the content, a pattern, or black. -/
def pixelLight (s : State) (h : Show) (slot u v : Nat) : Nat × Nat × Nat :=
  let k := setStream s h.mode.tset slot
  let cfg := h.samp.pat.toNat
  let pat := bits cfg 0 3
  if pat ≠ 0 then
    let x := patternAt pat h.samp.pval u v (tileW s) (tileH s)
    let on (i : Nat) : Nat := if cfg.testBit (4 + i) then x else 0
    (on 0, on 1, on 2)
  else if showsContent s h slot then
    match boundSurf s h (getF s F.LMP_FSSURF_HANDLE) with
    | some x =>
      let b := engineRead s h.n x.vp (pixelAt s h (v * tileW s + u) + 8 * k) 8
      let d (i : Nat) : Nat := decodeCurve (curveEntry h.samp.curves k) (leAt b (2 * i) 2)
      (d 0, d 1, d 2)
    | none => (0, 0, 0)
  else (0, 0, 0)

/-- Is a pixel on the 2 outer rows or columns? -/
def onFrame (s : State) (u v : Nat) : Bool := u < 2 || v < 2 || tileW s ≤ u + 2 || tileH s ≤ v + 2

/-- Does the locator light at an instant: the first half of each second of TIME_NS (R440)? -/
def locatorLit (s : State) (i : Int) : Bool := isSet s F.LMP_TPCFG_LOC && instantNs i % 1000000000 < 500000000

/-- What replaces the light of lamp `o` after stage 6, if anything does (R439, R440). -/
def injected (s : State) (h : Show) (slot u v o : Nat) : Option Nat :=
  let cfg := h.samp.pat.toNat
  match s.lmp.selfAt with
  | some t =>
    let (pat, mask) := selfPattern ((upNs s - t) / 1000000)
    some (if mask.testBit o then patternAt pat 0x3FFFFF u v (tileW s) (tileH s) else 0)
  | none =>
    if locatorLit s (slotAt s h slot) && onFrame s u v then some 0x7FFFFF
    else if bits cfg 0 3 ≠ 0 ∧ cfg.testBit 3 then
      some (if cfg.testBit (4 + o) then patternAt (bits cfg 0 3) h.samp.pval u v (tileW s) (tileH s) else 0)
    else none

/-- On-time, gain range and exclusion flag of lamp `o` of pixel (u, v) in a slot (R423, R449). Flags and trim are those of the
record in set A. -/
def lampValue (s : State) (h : Show) (slot u v o : Nat) : Nat × Nat × Bool :=
  let px := v * tileW s + u
  let r := recordAt s h 0 px
  let gone := getF s F.LMP_GEOM_NOUTM1 < o || !r.lamps.testBit o
  let excl := gone || r.masked.testBit o
  if excl ∨ pixelFails s h slot px then (0, 0, excl)
  else
    let q := match injected s h slot u v o with
      | some q => q
      | none =>
        let (lo, w) := recBracket s h px
        trimLamp (corMix (recordAt s h lo px) (recordAt s h (lo + 1) px) w o (pixelLight s h slot u v)) (r.trim.getD o 0) h.samp.ks
    let q := dimLamp q (gainMul h.samp.dim) h.samp.ceil
    let (ot, g) := onTime q (setGmax s h.mode.tset slot) (getF s (F.LMP_TSCFG_GRMAX h.mode.tset))
      (dither (isSet s F.LMP_CTL_DITHER) h.n o u v)
    (ot, g, false)

/-! ### Slots (R435, R438) -/

/-- The mode of the self-test where none is in force (R440). DESIGN CHOICE (log entry 87). -/
def selfMode : Mode := ⟨16666666, 0, 0, 0, 0, 1, 0, 0, 0, false⟩

/-- The next interval of a self-test without a mode. -/
def selfShow (s : State) (n : Nat) (disp : Int) : State :=
  let (samp, s) := sampleAll s s.lmp.dimFrame
  { s with lmp := { s.lmp with shows := s.lmp.shows ++ [⟨n, selfMode, disp, none, [], samp, 0, 1, false, false, boundNow s [samp.cor], false⟩] } }

/-- LAMP_EN rises at a slot latch at which every condition holds (R438). -/
def lampRise (s : State) : State := if lampCond s then { s with lmp := { s.lmp with lampEn := true } } else s

/-- The next slot, if its latch instant has come: it is latched, or blanked if its data is late or the time stepped over it. -/
def slotLatch (s : State) (late : Bool) : State :=
  match s.lmp.shows with
  | [] => s
  | h :: rest =>
    let i := slotAt s h h.slot
    if nowFine s < i then s
    else
      let passed := passedOver s i
      let late := !passed && (if h.sent then h.late else late)
      let s := if passed then s else lampRise s
      let s := if late then yield (incSat s F.LMP_ERR_SLOTLATE) 3 4 0x11 .late h.n else s
      let em := if passed then none else s.spk.latched.map (fun e => { e with dark := e.dark || late, start := upNs s })
      let s := { s with spk := { s.spk with latched := none, emission := em } }
      let h' := { h with slot := h.slot + 1, sent := false, late := false }
      let s := { s with lmp := { s.lmp with shows := h' :: rest } }
      if h'.upto ≤ h'.slot then
        if s.lmp.mode.isNone then
          let s := { s with lmp := { s.lmp with shows := rest } }
          if s.lmp.selfAt.isSome then selfShow s (h.n + 1) (h.disp + 16666666 * 2 ^ 24) else s
        else showDone s
      else s

/-! ### Enable, SVC_N, block reset (R440, R442, R445) -/

/-- LMP_CTL.EN 0→1: no frame has been committed since, and the intervals placed before show black; a slot sent before is blanked (R329,
R421). DESIGN CHOICE (log entry 86). -/
def lmpEnable (s : State) : State :=
  { setF s F.LMP_CTL_EN 1 with
    lmp := { s.lmp with last := none, front := none, miss := 0, shows := s.lmp.shows.map (fun h => { h with buf := none, streams := [] }) },
    spk := { s.spk with latched := s.spk.latched.map (fun e => { e with dark := true }) } }

/-- LMP_CTL.EN 1→0: LAMP_EN low at once, no further commits; the cadence is kept. -/
def lmpDisable (s : State) : State := engineStop (lampDrop (setF s F.LMP_CTL_EN 0))

/-- A short press of SVC_N (R440). -/
def svcPress (s : State) : State :=
  if !isReady s ∨ isSet s F.LMP_TPCFG_SELF then s
  else
    let on := isSet s F.LMP_TPCFG_LOC
    let s := setF { s with lmp := { s.lmp with locAt := if on then none else some (upNs s) } } F.LMP_TPCFG_LOC (b2n !on)
    raise s 0x1103 [byte (b2n !on)]

/-- Does timing set 0 pass the slot checks of R434 for the self-test without a mode? -/
def selfFits (s : State) : Bool :=
  decide (1000 ≤ setWid s 0 0) && decide (1 ≤ setGmax s 0 0) && decide (setOfs s 0 0 + setWid s 0 0 ≤ 16666666) && slotFits s 0 0 &&
  decide (mneed s ≤ 16666666)

/-- SVC_N held for 5 s (R440). -/
def svcHold (s : State) : State :=
  if !isReady s ∨ isSet s F.LMP_TPCFG_SELF then s
  else
    let s := setF { s with lmp := { s.lmp with locAt := none } } F.LMP_TPCFG_LOC 0
    if s.lmp.mode.isNone ∧ !selfFits s then s
    else
      let s := setF { s with lmp := { s.lmp with selfAt := some (upNs s) } } F.LMP_TPCFG_SELF 1
      if s.lmp.mode.isNone then selfShow { s with lmp := { s.lmp with shows := [] } } 0 (nowFine s) else s

/-- The locator ends after 30 s. -/
def locatorEnd (s : State) : State :=
  match s.lmp.locAt with
  | some t => if t + 30000000000 ≤ upNs s then setF { s with lmp := { s.lmp with locAt := none } } F.LMP_TPCFG_LOC 0 else s
  | none => s

/-- The self-test ends after 16 s. -/
def selfTestEnd (s : State) : State :=
  match s.lmp.selfAt with
  | some t =>
    if t + 16000000000 ≤ upNs s then
      let s := setF { s with lmp := { s.lmp with selfAt := none, shows := if s.lmp.mode.isNone then [] else s.lmp.shows } } F.LMP_TPCFG_SELF 0
      lampDrop s
    else s
  | none => s

def sampReset : Samp := ⟨[], 0, 32, 0, 0x190, 0x2D0, 0x410, 16, 0#32, 0, []⟩

def lmpReset : LmpSt :=
  ⟨false, none, none, none, none, [], false, none, none, 0, [], none, [], 0, 0, none, [], [], ⟨0, 0, 0, none⟩, none, 0, none, none, 0, []⟩

/-- Scan outputs low, no slot under way (R49). -/
def scanOff (s : State) : State :=
  let s := { s with spk := { s.spk with emission := none, latched := none, scan := [] } }
  emitAll s ((List.range 4).map (fun g => .scan (upNs s) g 0 false false))

def spokeOff : Nat := 0

/-- Spokes and scan outputs take their Reset states (R49): every spoke is OFF, and what it was asked is dropped. -/
def spokesDark (s : State) : State :=
  let s := { s with spk := { s.spk with spokes := [], det := none } }
  scanOff ((List.range 32).foldl (fun s n => setF s (F.SPK_SPKSTAT_STATE n) spokeOff) s)

/-- Block reset of LMP (R445). -/
def lmpBlockReset (s : State) : State :=
  let s := s.lmp.loads.foldl (fun s l => cmpDone s l.item .aborted 0xFFFF 0 true) s
  let had := s.lmp.mode.isSome
  let g := tileGen s
  let s := engineStop (resetRegs (showsEnd s) 0x110000 0x120000)
  let s := { s with lmp := lmpReset }
  let s := if had then genRelease s g else s
  raise (spokesDark s) 0x1102 (zeros 8)

/-! ### Curves (R424) -/

/-- Checks of an LMP curve entry before its data is read. -/
def lmpCurveCheck (s : State) (e : Bytes) : Status :=
  if isSender s then .notPermitted
  else if trailerBad e || leAt e 6 2 != 0 || !allZero (slice e 20 12) || leAt e 8 8 / 2 ^ 42 != 0 then .illegalValue
  else if 4 ≤ byteAt e 1 then .range
  else if leAt e 4 2 ≠ 0 ∨ leAt e 16 4 ≠ 0 then .illegalValue
  else .ok

/-- Does a CURVE entry wait for Bus Master Enable (R97)? -/
def lmpWaits (s : State) (it : Item) : Bool :=
  lmpCurveCheck s it.entry == .ok && areaShut s (leAt it.entry 2 2) (leAt it.entry 8 8) 16384

/-- A CURVE entry of LMP: in use at once while LMP is disabled, else pending for the next commit instant in place of an earlier
one of its slot. -/
def lmpCurve (s : State) (it : Item) (host : HostRes) : State :=
  let e := it.entry
  match lmpCurveCheck s e with
  | .ok =>
    let (r, s) := areaFetch s (leAt e 2 2) (leAt e 8 8) 16384 host
    match r with
    | .error c => cmpDone s it c 0xFFFF 0 true
    | .ok b =>
      let ws := (List.range 4096).map (fun i => leAt b (4 * i) 4)
      match curveBad 0 ws with
      | some i => cmpDone s it .illegalValue i 0 true
      | none =>
        let k := byteAt e 1
        let old := s.lmp.loads.filter (fun l => l.index == k)
        let s := { s with lmp := { s.lmp with loads := s.lmp.loads.filter (fun l => l.index != k) } }
        let s := old.foldl (fun s l => cmpDone s l.item .staleState 0xFFFF 0 true) s
        if isSet s F.LMP_CTL_EN then { s with lmp := { s.lmp with loads := s.lmp.loads ++ [⟨k, it, ws⟩] } }
        else cmpDone { s with lmp := { s.lmp with curves := s.lmp.curves.filter (fun c => c.1 != k) ++ [(k, ws)] } } it .ok 0xFFFF 0 false
  | c => cmpDone s it c 0xFFFF 0 true

/-! ### The commands -/

/-- RUN_CELL (R328). -/
def execRunCell (s : State) : Result :=
  whenOn 0x0D s (fun s => match takeRx s (fun c => cellKind c == 1 || cellKind c == 2) with
    | some (x, s) => if isTile s && blkOn s 0x11 then runArrive s x else s
    | none => s)

/-- ABORT_CELL (R322). -/
def execAbortCell (s : State) : Result :=
  whenOn 0x0D s (fun s => match takeRx s (fun c => cellKind c == 5) with
    | some (x, s) => if isTile s && blkOn s 0x11 then abortArrive s x else s
    | none => s)

/-- MODE_LETTER (R436). -/
def execModeLetter (s : State) : Result := whenOn 0x11 s (fun s => onLetter s 5 modeLetter)

/-- TILE_CADENCE (R397). -/
def execTileCadence (dt : Nat) (s : State) : Result := whenOn 0x11 (advance dt s) tileCadence

/-- COMMIT_INSTANT (R418). -/
def execCommitInstant (dt : Nat) (s : State) : Result := whenOn 0x11 (advance dt s) commitInstant

/-- RECEIPT_INTERVAL_CLOSE (R556). -/
def execReceiptIntervalClose (dt : Nat) (s : State) : Result := whenOn 0x11 (advance dt s) intervalStep

/-- SLOT_LATCH (R435): `late` says that the slot's data is not complete. -/
def execSlotLatch (dt : Nat) (late : Bool) (s : State) : Result := whenOn 0x11 (advance dt s) (fun s => slotLatch s late)

/-- LMP_CURVE_LOAD (R424). -/
def execLmpCurveLoad (host : HostRes) (s : State) : Result :=
  .next (if isSender s || blkOn s 0x11 then onEntryRead s 0x50 lmpWaits (fun s it => lmpCurve s it host) else s)

/-- SVC_PRESS (R440): SVC_N released after 50 ms or more and before 5 s. -/
def execSvcPress (dt : Nat) (s : State) : Result := whenOn 0x11 (advance dt s) svcPress

/-- SVC_LONG_HOLD (R440). -/
def execSvcLongHold (dt : Nat) (s : State) : Result := whenOn 0x11 (advance dt s) svcHold

/-- LOCATOR_END (R440). -/
def execLocatorEnd (dt : Nat) (s : State) : Result := whenOn 0x11 (advance dt s) locatorEnd

/-- SELF_TEST_END (R440). -/
def execSelfTestEnd (dt : Nat) (s : State) : Result := whenOn 0x11 (advance dt s) selfTestEnd

end Sys2Proof.Machine
end

