-- ==== Sys2Proof/Machine/Spk.lean ====
section
/-! DEFINITION. SPK: packets to the column drivers, bring-up, latches, the scan, read-back and fault detection (R446 to R480). -/

namespace Sys2Proof.Machine

/-! ### Packets (R458, R459) -/

/-- A packet: SYNC, header, payload words, CRC. -/
def spokePacket (type : Nat) (bc : Bool) (pos : Nat) (words : List Nat) : Bytes :=
  let h := beBytes 4 (type * 2 ^ 28 + b2n bc * 2 ^ 27 + pos % 32 * 2 ^ 22 + words.length % 65536) ++ words.flatMap (beBytes 4)
  beBytes 4 0xE25C3B96 ++ h ++ leBytes 4 (crc32 h)

def packEnum : Bytes := spokePacket 1 true 0 [0]
def packWrite (bc : Bool) (pos reg : Nat) (ws : List Nat) : Bytes := spokePacket 2 bc pos ((reg + 256 * (ws.length - 1)) :: ws)
def packRead (pos reg n : Nat) : Bytes := spokePacket 3 false pos [reg + 256 * (n - 1)]
def packLatch (lw slot : Nat) (det dark : Bool) : Bytes :=
  spokePacket 5 true 0 [lw % 65536 + 2 ^ 16 * b2n det + 2 ^ 17 * b2n dark + 2 ^ 18 * (slot % 4)]

/-- Words of 32 bits from lamp words of 20 bits, from bit 31 of the first on, the last one padded with 0 (R459). -/
def packLamps (l : List Nat) : List Nat :=
  let b := packBits (l.flatMap (bitsBE 20))
  (List.range ((b.length + 3) / 4)).map (fun i => beAt b (4 * i) 4)

/-- A DATA packet of lines 0 to d - 1. -/
def packData (pos d : Nat) (l : List Nat) : Bytes := spokePacket 4 false pos ((256 * (d - 1)) :: packLamps l)

/-! ### Spokes -/

def spokeUp : Nat := 1
def spokeRun : Nat := 2
def spokeFault : Nat := 3

def spokeState (s : State) (n : Nat) : Nat := getF s (F.SPK_SPKSTAT_STATE n)

def spokeReset : SpokeSt := ⟨[], false, 0, 0, false, 0, 0, 0, [], none, 0, 0, 0⟩
def spoke (s : State) (n : Nat) : SpokeSt := tget spokeReset s.spk.spokes n
def setSpoke (s : State) (n : Nat) (x : SpokeSt) : State := { s with spk := { s.spk with spokes := tset spokeReset s.spk.spokes n x } }

def spkOn (s : State) : Bool := blkOn s 0x12 && isSet s F.SPK_CTL_EN && power s ≤ 1

/-- Nanoseconds in CK periods of 40 / RATE ns. -/
def inCk (s : State) (ns : Nat) : Nat := ns * getF s F.SPK_CTL_RATE / 40

/-- Scan group of a spoke, and the line offset of a group (R446, R450). -/
def spokeGroup (s : State) (n : Nat) : Nat :=
  if n < 16 then bits (getF s F.SPK_GRPLO_GRP) (2 * n) 2 else bits (getF s F.SPK_GRPHI_GRP) (2 * (n - 16)) 2
def groupOfs (s : State) (g : Nat) : Nat := g * getF s F.SPK_SCAN0_STAG % scanD s

/-- Lamp positions and channels of the spokes before `n` (R447, R448): disabled spokes count. -/
def mapBase (s : State) (n : Nat) : Nat := ((List.range n).map (fun m => spokeNd s m * scanD s * spokeNch s m)).sum
def codeBase (s : State) (n : Nat) : Nat := ((List.range n).map (fun m => spokeNd s m * spokeNch s m)).sum

/-- Bytes of a surface by its handle, as the spokes read them. -/
def surfRead (s : State) (h off n : Nat) : Bytes :=
  match surfOf s h with
  | some x => engineRead s 0 x.vp off n
  | none => zeros n

/-- The translations that a read of a surface uses (R179), and the uncorrectable blocks that it meets (R485). -/
def surfWalk (s : State) (h off n : Nat) : State :=
  match surfOf s h with
  | some x => engineNote ((pieceList (65536 * x.vp + off) n).foldl (fun s p => srfWalk s p.1) s) 0 x.vp off n
  | none => s

/-- The lamp at a position, if there is one (R447). -/
def lampAt (s : State) (n d l c : Nat) : Option Nat :=
  let e := leNat (surfRead s (getF s F.SPK_SURF_MAP) (4 * (mapBase s n + (d * scanD s + l) * spokeNch s n + c)) 4)
  let lamp := bits e 0 22
  if e.testBit 31 ∨ 4 * tileW s * tileH s ≤ lamp then none else some lamp

/-- Timing words of the drivers (R465). -/
def tim0 (s : State) : Nat := getF s F.SPK_SCAN0_DM1 + 256 * getF s F.SPK_SCAN0_NPM1
def tim1 (s : State) (step : Nat) : Nat :=
  inCk s step % 256 + 2 ^ 8 * (inCk s (scanBlank s) % 4096) + 2 ^ 20 * (inCk s (getF s F.SPK_SCAN1_PRE * 10) % 4096)
def tim2 (s : State) : Nat := inCk s (scanPw s) % 4096
def ctrlWord (s : State) (n : Nat) : Nat := 1 + 2 * getF s F.SPK_CTL_PROBEEN + 256 * groupOfs s (spokeGroup s n)

/-- STEP of the timing set in force; of set 0 where no mode is. -/
def stepNow (s : State) : Nat := setStep s ((s.lmp.mode.map Mode.tset).getD 0)

/-- The ICODE write of driver `d` of spoke `n` (R468). -/
def icodeWrite (s : State) (n d : Nat) : Bytes :=
  let nch := spokeNch s n
  let b := surfRead s (getF s F.SPK_SURF_ICODE) (codeBase s n + d * nch) nch
  packWrite false d 0x10 ((List.range ((nch + 3) / 4)).map (fun i => leAt b (4 * i) 4))

/-- The translations that reading a spoke's current codes uses. -/
def codeWalk (s : State) (n : Nat) : State := surfWalk s (getF s F.SPK_SURF_ICODE) (codeBase s n) (codeBase s (n + 1) - codeBase s n)

/-- Send packets on a spoke. -/
def spokeSend (s : State) (n : Nat) (ps : List Bytes) : State := emitAll s (ps.map (fun p => .spoke n p))

/-! ### The management window (R460) -/

/-- Bit times of a management window; of these SPK keeps back what a WRITE of one word takes, for a change of STEP before the next slot.
DESIGN CHOICE (log entry 89). -/
def windowBits : Nat := 16384
def stepBits : Nat := 160

/-- Where packets, with the answer they call for, of `n` bit times fit now on a spoke in RUN: the bits of its window then taken. Where no
slot is placed there is no data to keep clear of, and no window. DESIGN CHOICE (log entry 89). -/
def windowFit (s : State) (n k : Nat) : Option Nat :=
  let x := spoke s n
  if spokeState s n ≠ spokeRun ∨ s.lmp.shows.isEmpty then some x.used
  else
    match x.winAt with
    | none => none
    | some w =>
      let at' := max x.used ((upNs s - w) * getF s F.SPK_CTL_RATE / 20)
      if at' + k + stepBits ≤ windowBits then some (at' + k) else none

/-- Send a WRITE packet, or let it wait for the next window behind those that wait. -/
def sendWrite (s : State) (n : Nat) (b : Bytes) : State :=
  let x := spoke s n
  match (if x.writes.isEmpty then windowFit s n (8 * b.length) else none) with
  | some u => spokeSend (setSpoke s n { x with used := u }) n [b]
  | none => setSpoke s n { x with writes := x.writes ++ [b] }

/-- The WRITE packets that wait are sent as far as they fit, in order. -/
def sendWrites (s : State) (n : Nat) : State :=
  let l := (spoke s n).writes
  l.foldl (fun s b => sendWrite s n b) (setSpoke s n { spoke s n with writes := [] })

/-! ### Reads (R462) -/

/-- Is this a READ of detection results (R472)? -/
def isDetRead (r : Nat) : Bool := r % 256 == 8 || 0x20 ≤ r % 256

/-- Data words of a READ. -/
def readWords (r : Nat) : Nat := if 0x20 ≤ r % 256 then 2 else 1

/-- The packets of a READ; the first one of a line names the line. -/
def readPackets (p r : Nat) : List Bytes :=
  (if r % 256 = 0x20 then [packWrite false p 7 [r / 256]] else []) ++ [packRead p (r % 256) (readWords r)]

/-- Bit times of a READ and its answer, which starts within 2 µs and has bits of 32 UI. -/
def readBits (s : State) (p r : Nat) : Nat :=
  8 * (readPackets p r).flatten.length + 100 * getF s F.SPK_CTL_RATE + 32 * (1 + 32 * (2 + readWords r))

/-- Ask for a spoke's first READ, unless it is outstanding already or waits for a window. DESIGN CHOICE (log entry 89). -/
def askRead (s : State) (n : Nat) : State :=
  let x := spoke s n
  match x.reads with
  | (p, r) :: _ =>
    match (if x.live then none else windowFit s n (readBits s p r)) with
    | some u => spokeSend (setSpoke s n { x with live := true, askedAt := upNs s, used := u }) n (readPackets p r)
    | none => s
  | [] => s

/-- What waits on a spoke is sent as far as it fits. -/
def pump (s : State) (n : Nat) : State := askRead (sendWrites s n) n

/-- Bring a spoke up (R466). -/
def bringUp (s : State) (n : Nat) : State :=
  let s := setF (setF (setF s (F.SPK_SPKSTAT_STATE n) spokeUp) (F.SPK_SPKSTAT_CODE n) 0) (F.SPK_SPKSTAT_NFOUND n) 0
  let s := setF s (F.SPK_SPKSTAT_DCRC n) 0
  let s := setSpoke s n { spokeReset with reads := (List.range (spokeNd s n + 1)).map (fun p => (p, 0)) }
  askRead (spokeSend s n [packEnum]) n

/-- A spoke goes to FAULT. -/
def toFault (s : State) (n : Nat) (c : Status) (found : Nat) : State :=
  let s := setF (setF (setF s (F.SPK_SPKSTAT_STATE n) spokeFault) (F.SPK_SPKSTAT_CODE n) c.code) (F.SPK_SPKSTAT_NFOUND n) found
  let s := setSpoke s n { spokeReset with faultAt := upNs s }
  raise s 0x1201 [byte n, byte c.code, byte found]

/-- The ID reads are done: the drivers are set up and TIM0 is read back, or the spoke fails. -/
def idsDone (s : State) (n : Nat) (x : SpokeSt) : State :=
  let nd := spokeNd s n
  if x.found = 0 then toFault s n .linkAbsent 0
  else if x.found ≠ 2 ^ nd - 1 then toFault s n .range ((List.range 33).filter (fun p => x.found.testBit p)).length
  else if x.bad then toFault s n .illegalValue nd
  else
    let s := codeWalk s n
    let s := spokeSend s n ([packWrite true 0 1 [nd * 256], packWrite true 0 2 [tim0 s], packWrite true 0 3 [tim1 s (stepNow s)],
      packWrite true 0 4 [tim2 s]] ++ (List.range nd).flatMap (fun d => [packWrite false d 5 [ctrlWord s n], icodeWrite s n d]))
    askRead (setSpoke s n { x with reads := (List.range nd).map (fun p => (p, 2)), tries := 0, step := stepNow s }) n

/-- The spoke reaches RUN. -/
def toRun (s : State) (n : Nat) : State :=
  setF (setF (setF (setSpoke s n { spokeReset with step := (spoke s n).step }) (F.SPK_SPKSTAT_STATE n) spokeRun) (F.SPK_SPKSTAT_CODE n) 0) (F.SPK_SPKSTAT_NFOUND n) (spokeNd s n)

/-! ### Faults of lamps (R472, R473) -/

/-- A LAMP_FAULT event, at most 16 per second. -/
def faultEvent (s : State) (entry frame : Nat) : State :=
  let recent := s.spk.faultEv.filter (fun t => decide (upNs s < t + 1000000000))
  if 16 ≤ recent.length then { s with spk := { s.spk with faultEv := recent } }
  else raise { s with spk := { s.spk with faultEv := recent ++ [upNs s] } } 0x1203 (beBytes 4 entry ++ beBytes 4 frame)

/-- A fault is confirmed; AUTOMASK is that of the detection frame (R477). -/
def confirmFault (s : State) (lamp kind frame : Nat) : State :=
  if s.spk.faults.any (fun e => bits e 0 22 == lamp && bits e 22 2 == kind) then s
  else if 1024 ≤ s.spk.faults.length then setF s F.SPK_FLCNT_OVF 1
  else
    let auto := kind == 2 && F.SPK_FDCFG_AUTOMASK.get s.spk.detCfg == 1
    let entry := lamp + 2 ^ 22 * kind + 2 ^ 24 * b2n auto
    let s := { s with spk := { s.spk with faults := s.spk.faults ++ [entry], masked := if auto then s.spk.masked ++ [lamp] else s.spk.masked } }
    faultEvent (setF s F.SPK_FLCNT_COUNT s.spk.faults.length) entry frame

/-- A result of a lamp in detection frame `frame` joins what was seen of it: the results of one frame, of a lamp at two positions too,
count as one. -/
def FaultSeen.next (x : FaultSeen) (frame : Nat) (shown : Bool) : FaultSeen :=
  if x.frame = frame then { x with shown := x.shown || shown } else { x with frame := frame, before := x.shown, shown := shown }

/-- One result: whether lamp `lamp` shows fault `kind` in detection frame `frame`; shown in two consecutive frames, it is confirmed. -/
def faultResult (s : State) (frame lamp kind : Nat) (shown : Bool) : State :=
  let mine (x : FaultSeen) : Bool := x.lamp == lamp && x.kind == kind
  let x := ((s.spk.seen.find? mine).getD ⟨lamp, kind, frame, false, false⟩).next frame shown
  let s := { s with spk := { s.spk with seen := s.spk.seen.filter (fun y => !mine y) ++ (if x.shown || x.before then [x] else []) } }
  if x.shown && x.before then confirmFault s lamp kind frame else s

/-- Results of line `l` of a driver: masks FOPEN, FSHORT, FVALID. -/
def lineResult (s : State) (frame n d l open' short valid : Nat) : State :=
  (List.range (spokeNch s n)).foldl (fun s c =>
    match lampAt s n d l c with
    | some lamp =>
      if valid.testBit c then faultResult (faultResult s frame lamp 1 (open'.testBit c)) frame lamp 2 (short.testBit c) else s
    | none => s) s

/-- The first `lines` lines of a driver show no fault: what was seen of their lamps goes on without one. DESIGN CHOICE (log entry 90). -/
def clearLines (s : State) (frame n d lines : Nat) : State :=
  let clear := (List.range lines).flatMap (fun l => (List.range (spokeNch s n)).filterMap (fun c => lampAt s n d l c))
  let seen := s.spk.seen.map (fun x => if clear.contains x.lamp then x.next frame false else x)
  { s with spk := { s.spk with seen := seen.filter (fun x => x.shown || x.before) } }

/-- The results of driver `d` of spoke `n` have all been read. -/
def detDone (s : State) (n d : Nat) : State :=
  { s with spk := { s.spk with det := s.spk.det.map (fun x => (x.1, x.2.erase (n, d))) } }

/-- The READs of the lines of a driver from `low` on. -/
def lineReads (s : State) (p low : Nat) : List (Nat × Nat) :=
  ((List.range (scanD s)).filter (fun l => low ≤ l)).flatMap (fun l => [0x20, 0x22, 0x24].map (fun r => (p, r + 256 * l)))

/-- A READ of detection results has been answered: FSUM, or FOPEN, FSHORT or FVALID of a line (R472). Its own READs come next. -/
def detResult (s : State) (n p r v : Nat) : State :=
  let x := spoke s n
  match s.spk.det with
  | none => s
  | some (frame, todo) =>
    if !todo.contains (n, p) then s
    else if r % 256 = 0x20 then setSpoke s n { x with fopen := v }
    else if r % 256 = 0x22 then setSpoke s n { x with fshort := v }
    else if r % 256 = 0x24 then
      let s := lineResult s frame n p (r / 256) x.fopen x.fshort v
      if scanD s ≤ r / 256 + 1 then detDone s n p else s
    else if v.testBit 23 ∧ bits v 16 7 < scanD s then
      clearLines (setSpoke s n { x with reads := lineReads s p (bits v 16 7) ++ x.reads }) frame n p (bits v 16 7)
    else detDone (clearLines s frame n p (scanD s)) n p

/-! ### The end of a READ (R462, R466, R467) -/

/-- A READ of bring-up has ended: the ID of a position, or the TIM0 of a driver. -/
def upRead (s : State) (n p r : Nat) (v : Option Nat) : State :=
  let x := spoke s n
  let x := if r = 0 then match v with
      | some w => { x with found := x.found + 2 ^ p,
                           bad := x.bad || (decide (p < spokeNd s n) && (bits w 0 8 != spokeNch s n || bits w 8 8 != 1)) }
      | none => x
    else { x with bad := x.bad || v != some (tim0 s) }
  if !x.reads.isEmpty then askRead (setSpoke s n x) n
  else if r = 0 then idsDone (setSpoke s n x) n x
  else if x.bad then toFault s n .illegalValue (spokeNd s n)
  else toRun s n

/-- The outstanding READ of a spoke ends with its data words as one number, the first lowest, or absent. In RUN a driver that stays
absent puts the spoke into FAULT. -/
def readEnd (s : State) (n : Nat) (v : Option Nat) : State :=
  match (spoke s n).reads with
  | [] => s
  | (p, r) :: rest =>
    let s := setSpoke s n { spoke s n with reads := rest, live := false, tries := 0 }
    if r = 0 ∨ r = 2 then upRead s n p r v
    else
      match v with
      | none => toFault s n .linkAbsent (getF s (F.SPK_SPKSTAT_NFOUND n))
      | some w => askRead (if r = 6 then incSat s (F.SPK_SPKSTAT_DCRC n) (bits w 0 8) else detResult s n p r w) n

/-- The answer to the outstanding READ fails: the READ is repeated up to twice, then counts as absent. -/
def readMiss (s : State) (n : Nat) : State :=
  let x := spoke s n
  if !x.live then s
  else if x.tries < 2 then askRead (setSpoke s n { x with live := false, tries := x.tries + 1 }) n
  else readEnd s n none

/-- No start bit within 20 µs. -/
def readAbsent (s : State) (n : Nat) : State := if (spoke s n).askedAt + 20000 ≤ upNs s then readMiss s n else s

/-- An answer to the outstanding READ arrives: header, data words, CRC; one whose CRC fails is absent. -/
def readAnswer (s : State) (n : Nat) (b : Bytes) : State :=
  match (spoke s n).live, (spoke s n).reads with
  | true, (_, r) :: _ =>
    let k := 4 + 4 * readWords r
    if leAt b k 4 ≠ crc32 (slice b 0 k) then readMiss s n
    else readEnd s n (some (((List.range (readWords r)).map (fun i => beAt b (4 + 4 * i) 4 * 2 ^ (32 * i))).sum))
  | _, _ => s

/-- Is the outstanding READ of a spoke one of detection results? -/
def detOutstanding (s : State) (n : Nat) : Bool := (spoke s n).live && (spoke s n).reads.head?.any (fun x => isDetRead x.2)

/-! ### Enable (R475) -/

/-- SPK_CTL.EN 0→1. -/
def spkEnable (s : State) : State := (List.range 32).foldl (fun s n => if spokeOn s n then bringUp s n else s)
  { setF s F.SPK_CTL_EN 1 with spk := { s.spk with polledAt := upNs s } }

/-- SPK_CTL.EN 1→0: spokes and scan outputs take their Reset states. DESIGN CHOICE (log entry 91). -/
def spkDisable (s : State) : State := spokesDark (setF s F.SPK_CTL_EN 0)

/-- A spoke in FAULT is brought up again after 1 s. -/
def bringUpRetry (s : State) (n : Nat) : State :=
  if spkOn s ∧ spokeState s n = spokeFault ∧ (spoke s n).faultAt + 1000000000 ≤ upNs s then bringUp s n else s

/-- Once per second STAT is read from every driver of each spoke in RUN (R467), after the READs that wait. -/
def statPoll (s : State) : State :=
  if upNs s < s.spk.polledAt + 1000000000 then s else
  (List.range 32).foldl (fun s n =>
    if spokeState s n = spokeRun then
      let x := spoke s n
      let l := if x.reads.any (fun r => r.2 == 6) then [] else (List.range (spokeNd s n)).map (fun p => (p, 6))
      pump (setSpoke s n { x with reads := x.reads ++ l }) n
    else s) { s with spk := { s.spk with polledAt := upNs s } }

/-- SPK_CTL.RELOAD (R468). -/
def spkReload (s : State) : State :=
  (List.range 32).foldl (fun s n =>
    if spokeState s n = spokeRun then ((List.range (spokeNd s n)).map (icodeWrite s n)).foldl (fun s b => sendWrite s n b) (codeWalk s n) else s) s

/-! ### Read-back (R469, R470) -/

/-- Event READBACK, at most once per second. -/
def readbackEvent (s : State) : State :=
  let due := match s.spk.rbAt with | some t => decide (t + 1000000000 ≤ upNs s) | none => true
  if due then
    raise { s with spk := { s.spk with rbAt := some (upNs s) } } 0x1202
      (beBytes 4 (getF s F.SPK_RBSPK_SPK) ++ [byte (getF s F.SPK_RBGRP_GRP)])
  else s

/-- A slot mismatched on spokes and groups given as masks; `counted` says whether the slot has been counted. -/
def mismatch (s : State) (spokes groups : Nat) (counted : Bool) : State :=
  if spokes = 0 ∧ groups = 0 then s
  else
    let s := if counted then s else incSat s F.SPK_RBSTAT_MISM
    let s := setF s F.SPK_RBSPK_SPK (getF s F.SPK_RBSPK_SPK ||| spokes)
    let s := setF s F.SPK_RBGRP_GRP (getF s F.SPK_RBGRP_GRP ||| groups)
    let iv := s.sec.interval.map (fun v => { v with mism := v.mism + b2n !counted, rbspk := v.rbspk ||| spokes, rbgrp := v.rbgrp ||| groups })
    readbackEvent { s with sec := { s.sec with interval := iv } }

/-! ### Latches (R460, R463, R469, R471) -/

/-- SPK_FDCFG for the frame of an interval: as it stood when the frame's first LATCH left (R477). DESIGN CHOICE (log entry 90). -/
def fdCfg (s : State) (h : Show) : Word :=
  match s.spk.fdcfg with
  | some (n, w) => if n = h.n then w else s.word R.SPK_FDCFG
  | none => s.word R.SPK_FDCFG

/-- Is this slot the tested one of a detection frame (R471)? A transition frame is none (R598). -/
def detSlot (s : State) (h : Show) (slot : Nat) : Bool :=
  let w := fdCfg s h
  F.SPK_FDCFG_FDEN.get w == 1 && !h.trans && h.n % 2 ^ F.SPK_FDCFG_NFDL.get w == 0 && slot == F.SPK_FDCFG_FDSLOT.get w

/-- Lamp word of a position (R449, R471). -/
def positionWord (s : State) (h : Show) (slot : Nat) (det : Bool) (n d l c : Nat) : Nat :=
  match lampAt s n d l c with
  | none => 0
  | some lamp =>
    if s.spk.masked.contains lamp then 0
    else
      let px := lamp / 4
      let (ot, g, excl) := lampValue s h slot (px % tileW s) (px / tileW s) (lamp % 4)
      if excl then 0
      else
        let np := scanPasses s
        lampWord ot g (det && decide (slotPart ot np (np - 1) * setStep s h.mode.tset ≤ 200))

/-- Lamp words of a driver, line by line. -/
def driverWords (s : State) (h : Show) (slot : Nat) (det : Bool) (n d : Nat) : List Nat :=
  (List.range (scanD s)).flatMap (fun l => (List.range (spokeNch s n)).map (fun c => positionWord s h slot det n d l c))

/-- How long before the latch instant the LATCH of spoke `n` leaves, and the first one of all, in 2^-24 ns (R463). -/
def spokeLead (s : State) (n : Nat) : Nat :=
  (96 + 8 * (spokeNd s n - 1)) * 40 * 2 ^ 24 / max 1 (getF s F.SPK_CTL_RATE) + getF s (F.SPK_SPKCFG_WDLY n) * 2 ^ 24 / 10
def latchLead (s : State) : Int := (((List.range 32).map (fun n => if spokeOn s n then spokeLead s n else 0)).foldl max 0 : Nat)

/-- Is a spoke sent only DARK latches after a read-back mismatch (R470)? -/
def darkened (s : State) (n : Nat) : Bool := isSet s F.SPK_CTL_RBDARK && fbit s F.SPK_RBSPK_SPK n

/-- The LATCH of spoke `n`, at its own time before the latch instant `i`; in RUN, a management window follows it (R460, R463). -/
def latchOn (s : State) (i : Int) (lw slot : Nat) (det dark : Bool) (n : Nat) : State :=
  let t := i - spokeLead s n
  let s := emit s (.latch n t (packLatch lw slot det dark))
  if spokeState s n = spokeRun then
    let w := (upNs s : Int) + (t - nowFine s) / 2 ^ 24 + (2560 / max 1 (getF s F.SPK_CTL_RATE) : Nat)
    setSpoke s n { spoke s n with winAt := some w.toNat, used := 0 }
  else s

/-- The DATA packets of a slot on spoke `n`. -/
def slotData (s : State) (h : Show) (slot : Nat) (det : Bool) (n : Nat) : List Bytes :=
  (List.range (spokeNd s n)).map (fun d => packData d (scanD s) (driverWords s h slot det n d))

/-- CRC over the payload bytes after W0 of DATA packets (R469). -/
def egressCrc (ps : List Bytes) : Nat := crc32 (ps.flatMap (fun b => slice b 12 (b.length - 16)))

/-- The packets of a slot on spoke `n`: DATA and LATCH in RUN, a DARK LATCH in FAULT. -/
def slotSend (s : State) (h : Show) (slot lw : Nat) (i : Int) (det dark : Bool) (n : Nat) : State :=
  if spokeState s n = spokeRun then
    if dark || darkened s n then latchOn s i lw slot det true n
    else
      let ps := slotData s h slot det n
      let s := spokeSend (surfWalk s (getF s F.SPK_SURF_MAP) (4 * mapBase s n) (4 * (mapBase s (n + 1) - mapBase s n))) n ps
      latchOn { s with spk := { s.spk with egress := s.spk.egress ++ [(n, egressCrc ps)] } } i lw slot det false n
  else if spokeState s n = spokeFault then latchOn s i lw slot det true n
  else s

/-- A STEP that the drivers of a spoke in RUN do not hold yet goes to them in the window before the slot. -/
def stepWrite (s : State) (step : Nat) : State :=
  (List.range 32).foldl (fun s n =>
    if spokeState s n = spokeRun ∧ (spoke s n).step ≠ step then
      spokeSend (setSpoke s n { spoke s n with step := step }) n [packWrite true 0 3 [tim1 s step]]
    else s) s

/-- Drivers of the spokes in RUN. -/
def runDrivers (s : State) : List (Nat × Nat) :=
  (List.range 32).flatMap (fun n => if spokeState s n = spokeRun then (List.range (spokeNd s n)).map (fun d => (n, d)) else [])

/-- A detection slot is latched: the READs of earlier results end here, and the drivers not read then are read first after it (R472). -/
def detCut (s : State) : State :=
  (List.range 32).foldl (fun s n =>
    let x := spoke s n
    setSpoke s n { x with reads := x.reads.filter (fun r => !isDetRead r.2), live := x.live && !detOutstanding s n,
                          tries := if detOutstanding s n then 0 else x.tries }) s

/-- The spokes whose pad CRC, where one is given, differs from their egress CRC (R469). -/
def padsDiffer (s : State) (pads : List (Nat × Nat)) : Nat :=
  ((s.spk.egress.filter (fun e => pads.any (fun p => p.1 == e.1 && p.2 != e.2))).map (fun e => 2 ^ e.1)).sum

/-- The LATCHes of the next slot leave: `late` says that its data is not complete, `pads` gives pad CRCs that spokes took, the others
being equal to the egress CRC. -/
def latchSend (s : State) (late : Bool) (pads : List (Nat × Nat)) : State :=
  match s.lmp.shows with
  | [] => s
  | h :: rest =>
    let i := slotAt s h h.slot
    if !spkOn s ∨ h.sent ∨ nowFine s + latchLead s < i ∨ passedOver s i then s
    else
      let slot := h.slot
      let dark := late || !s.lmp.lampEn
      let s := { s with spk := { s.spk with fdcfg := some (h.n, fdCfg s h), egress := [] } }
      let det := detSlot s h slot
      let lw := slotLw (setGmax s h.mode.tset slot) (scanPasses s)
      let s := stepWrite s (setStep s h.mode.tset)
      let s := if det then detCut s else s
      let s := if dark then s else slotWalk (incSat s F.LMP_ERR_RDERR (slotReadErrors s h slot)) h slot
      let s := (List.range 32).foldl (fun s n => slotSend s h slot lw i det dark n) s
      let bad := padsDiffer s pads
      let s := (List.range 32).foldl pump (mismatch s bad 0 false)
      { s with spk := { s.spk with latched := some ⟨h.n, slot, dark, det, lw, bad != 0, 0, setStep s h.mode.tset, 0, []⟩ },
               lmp := { s.lmp with shows := { h with sent := true, late := late } :: rest } }

/-! ### The scan (R450 to R454) -/

def groupOn (s : State) (g : Nat) : Bool := fbit s F.SPK_SCAN0_GRPEN g

/-- Drive the outputs of a group from an instant on (elapsed ns). -/
def driveScan (s : State) (t g a : Nat) (en gd : Bool) : State :=
  emit { s with spk := { s.spk with scan := (List.range 4).map (fun k => if k = g then (a, en, gd) else s.spk.scan.getD k (0, false, false)) } }
    (.scan t g a en gd)

/-- Line number at a group's outputs. -/
def scanLine (s : State) (g : Nat) : Nat := (s.spk.scan.getD g (0, false, false)).1

/-- DIS of the scan settings, ns. -/
def scanDis (s : State) : Nat := getF s F.SPK_SCAN1_DIS * 10

/-- When line slot `j` of an emission begins (elapsed ns): in the detection pass each is PW longer (R450). DESIGN CHOICE (log entry
145). -/
def lineStart (s : State) (e : Emission) (j : Nat) : Nat :=
  e.start + j * (scanBlank s + e.lw * e.step) +
    (if e.det && isSet s F.SPK_CTL_PROBEEN then (j - (scanPasses s - 1) * scanD s) * scanPw s else 0)

/-- The scheduled edges of a group from the start of a line slot on: after how long, and A, EN and GD from then on (R453). -/
def openEdges (s : State) (g line : Nat) : List (Nat × Nat × Bool × Bool) :=
  let dis := scanDis s
  [(0, scanLine s g, false, false), (10, line, false, dis != 0)] ++ (if dis = 0 then [] else [(10 + dis, line, false, false)]) ++
    [(scanBlank s - 10, line, true, false)]

/-- The scheduled edges of a group from the end of the last ON window on (R454). -/
def closeEdges (s : State) (g : Nat) : List (Nat × Nat × Bool × Bool) :=
  let a := scanLine s g
  let dis := scanDis s
  [(0, a, false, false)] ++ (if dis = 0 then [] else [(10, a, false, true), (10 + dis, a, false, false)])

/-- The value of an edge in a scan CRC: A, EN and GD (R469). -/
def edgeBytes (x : Nat × Nat × Bool × Bool) : Bytes := beBytes 2 (x.2.1 % 128 + 2 ^ 7 * b2n x.2.2.1 + 2 ^ 8 * b2n x.2.2.2)

/-- The expected CRC of group `g` over the edges so far, before its final inversion. -/
def Emission.edge (e : Emission) (g : Nat) : Nat := e.edges.getD g 0xFFFFFFFF

/-- The edges of every enabled group go out from `t` on, and into the expected CRCs. DESIGN CHOICE (log entry 164). -/
def scanEdges (s : State) (e : Emission) (t : Nat) (edges : Nat → List (Nat × Nat × Bool × Bool)) : Emission × State :=
  let on := (List.range 4).filter (groupOn s)
  let crc (g : Nat) : Nat := if on.contains g then (toBitsR ((edges g).flatMap edgeBytes)).foldl (crcStepR 0xEDB88320) (e.edge g) else e.edge g
  ({ e with edges := (List.range 4).map crc },
    on.foldl (fun s g => (edges g).foldl (fun s x => driveScan s (t + x.1) g x.2.1 x.2.2.1 x.2.2.2) s) s)

/-- The next line slot of the slot under way (R453): blanking, the new line with its discharge, then EN. -/
def lineSlot (s : State) : State :=
  match s.spk.emission with
  | none => s
  | some e =>
    if e.dark ∨ scanPasses s * scanD s ≤ e.lines ∨ upNs s < lineStart s e e.lines then s
    else
      let j := e.lines % scanD s
      let (e', s) := scanEdges s e (lineStart s e e.lines) (fun g => openEdges s g ((j + groupOfs s g) % scanD s))
      { s with spk := { s.spk with emission := some { e' with lines := e.lines + 1 } } }

/-- A detection slot that was emitted has tested: FSUM of every driver of a spoke in RUN is to be read, those left unread before first
(R471, R472). -/
def detStart (s : State) (frame : Nat) : State :=
  let old := ((s.spk.det.map Prod.snd).getD []).filter (fun x => (runDrivers s).contains x)
  let todo := old ++ (runDrivers s).filter (fun x => !old.contains x)
  let cfg := match s.spk.fdcfg with | some (n, w) => if n = frame then w else s.word R.SPK_FDCFG | none => s.word R.SPK_FDCFG
  let s := incMod s F.SPK_FLCNT_DETS
  let s := { s with spk := { s.spk with det := some (frame, todo), detCfg := cfg } }
  (List.range 32).foldl (fun s n =>
    if spokeState s n = spokeRun then
      let x := spoke s n
      pump (setSpoke s n { x with reads := x.reads ++ (todo.filter (fun y => y.1 == n)).map (fun y => (y.2, 8)) }) n
    else s) s

/-- The emission ends (R454): EN low, a last discharge, and the scan compare of R469 with the pad CRCs given for groups, the others
being as expected. -/
def emissionEnd (s : State) (pads : List (Nat × Nat)) : State :=
  match s.spk.emission with
  | none => s
  | some e =>
    if e.dark then { s with spk := { s.spk with emission := none } }
    else if e.lines < scanPasses s * scanD s ∨ upNs s < lineStart s e e.lines then s
    else
      let (e', s) := scanEdges s e (lineStart s e e.lines) (closeEdges s)
      let bad := ((List.range 4).filter (fun g => groupOn s g && pads.any (fun p => p.1 == g && p.2 != e'.edge g ^^^ 0xFFFFFFFF))).map (fun g => 2 ^ g)
      let s := mismatch { s with spk := { s.spk with emission := none } } 0 bad.sum e.counted
      if e.det && isSet s F.SPK_CTL_PROBEEN then detStart s e.frame else s

/-! ### The fault table (R473, R477) -/

/-- SPK_FDCTL.CLEAR (R477). -/
def faultClear (s : State) : State :=
  setF (setF { s with spk := { s.spk with faults := [], seen := [], masked := [] } } F.SPK_FLCNT_COUNT 0) F.SPK_FLCNT_OVF 0

/-- The entry that SPK_FLDATA shows (R473). -/
def faultEntry (s : State) : Nat := s.spk.faults.getD (getF s F.SPK_FLIDX_IDX) 0

/-! ### Block reset (R480) -/

def spkReset : SpkSt := ⟨[], none, none, [], [], [], none, [], none, [], [], none, 0#32, 0⟩

def spkBlockReset (s : State) : State := scanOff { resetRegs s 0x120000 0x130000 with spk := spkReset }

/-! ### The commands -/

/-- SPOKE_BRINGUP_RETRY (R466). -/
def execSpokeBringupRetry (dt n : Nat) (s : State) : Result := whenOn 0x12 (advance dt s) (fun s => bringUpRetry s n)

/-- DRIVER_STAT_POLL (R467). -/
def execDriverStatPoll (dt : Nat) (s : State) : Result := whenOn 0x12 (advance dt s) (fun s => if spkOn s then statPoll s else s)

/-- READ_ANSWER (R462): an answer to a READ of bring-up or of STAT; those to READs of detection results come as DETECTION_READ. -/
def execReadAnswer (n : Nat) (b : Bytes) (s : State) : Result :=
  whenOn 0x12 s (fun s => if spkOn s && !detOutstanding s n then readAnswer s n b else s)

/-- READ_ABSENT (R462). -/
def execReadAbsent (x : After) (s : State) : Result := whenOn 0x12 (advance x.dt s) (fun s => if spkOn s then readAbsent s x.n else s)

/-- LATCH_SEND (R463). -/
def execLatchSend (dt : Nat) (late : Bool) (pads : List (Nat × Nat)) (s : State) : Result :=
  whenOn 0x12 (advance dt s) (fun s => latchSend s late pads)

/-- LINE_SLOT (R453). -/
def execLineSlot (dt : Nat) (s : State) : Result := whenOn 0x12 (advance dt s) (fun s => if spkOn s then lineSlot s else s)

/-- SLOT_EMISSION_END (R454). -/
def execSlotEmissionEnd (dt : Nat) (pads : List (Nat × Nat)) (s : State) : Result :=
  whenOn 0x12 (advance dt s) (fun s => if spkOn s then emissionEnd s pads else s)

/-- DETECTION_READ (R472): driver `d` of spoke `n` answers the outstanding READ of register `reg` of its results. -/
def execDetectionRead (n d reg : Nat) (b : Bytes) (s : State) : Result :=
  whenOn 0x12 s (fun s =>
    if spkOn s && detOutstanding s n && (spoke s n).reads.head?.any (fun x => x.1 == d && x.2 % 256 == reg) then readAnswer s n b else s)

/-! ### The data line of a spoke (R457) -/

/-- The words that the data line of spoke `n` carries for a record of outputs, bit 31 of each first: its packets, with `idle e` IDLE words
before that of entry `e`. DESIGN CHOICE (log entry 89). -/
def spokeWords (n : Nat) (idle : Nat → Nat) (outs : List Out) : List Nat :=
  let words (b : Bytes) : List Nat := (List.range (b.length / 4)).map (fun i => beAt b (4 * i) 4)
  ((List.range outs.length).zip outs).flatMap (fun e =>
    let b := match e.2 with | .spoke k b => if k = n then b else [] | .latch k _ b => if k = n then b else [] | _ => []
    if b.isEmpty then [] else List.replicate (idle e.1) 0 ++ words b)

end Sys2Proof.Machine
end

