-- ==== Sys2Proof/Machine/Image.lean ====
section
/-! DEFINITION. Slot images, manifests and their checks (R566 to R569, R573), and state records (R571, R578). -/

namespace Sys2Proof.Machine

/-! ### Manifests (R566). A manifest is 4,096 bytes, zero-padded. -/

def manParts (m : Bytes) : Nat := byteAt m 7
def manTail (m : Bytes) : Nat := 64 + 80 * manParts m
def manSize (m : Bytes) : Nat := beAt m 32 4
def manBuild (m : Bytes) : Nat := beAt m 8 4
def partAt (i : Nat) : Nat := 64 + 80 * i
def partType (m : Bytes) (i : Nat) : Nat := byteAt m (partAt i)
def partInherit (m : Bytes) (i : Nat) : Bool := (byteAt m (partAt i + 1)).testBit 0
def partOff (m : Bytes) (i : Nat) : Nat := beAt m (partAt i + 4) 4
def partLen (m : Bytes) (i : Nat) : Nat := beAt m (partAt i + 8) 4
def partDigest (m : Bytes) (i : Nat) : Bytes := slice m (partAt i + 16) 64
def manSigner (m : Bytes) : Bytes := slice m (manTail m) 133

/-- PKGID (R569). -/
def pkgId (m : Bytes) : Bytes := fit 16 (sha (m.take (manTail m + 268)))

/-- NPARCEL. -/
def nParcel (m : Bytes) : Nat := (manSize m + 4095) / 4096

/-- Does parcel `k` overlap part `i`? -/
def parcelIn (m : Bytes) (i k : Nat) : Bool := partOff m i < 4096 * (k + 1) && 4096 * k < partOff m i + partLen m i

/-- Is a parcel needed (R569)? -/
def needed (m : Bytes) (k : Nat) : Bool := k == 0 || (List.range (manParts m)).any (fun i => !partInherit m i && parcelIn m i k)

/-- The needed parcels, rising. -/
def neededList (m : Bytes) : List Nat := (List.range (nParcel m)).filter (needed m)

/-- Is one part entry well formed? -/
def partOk (m : Bytes) (i : Nat) : Bool :=
  let a := partAt i
  decide (1 ≤ partType m i) && decide (partType m i ≤ 6) && bits (byteAt m (a + 1)) 1 7 == 0 && allZero (slice m (a + 2) 2) &&
  partOff m i % 4096 == 0 && decide (0x40000 ≤ partOff m i) && allZero (slice m (a + 12) 4) &&
  (!partInherit m i || (decide (3 ≤ partType m i) && partLen m i == 0 && allZero (partDigest m i)))

/-- Do two parts overlap? -/
def partsMeet (m : Bytes) (i j : Nat) : Bool :=
  partOff m i < partOff m j + partLen m j && partOff m j < partOff m i + partLen m i

/-- Parts of a type, in manifest order. -/
def partsOf (m : Bytes) (t : Nat) : List Nat := (List.range (manParts m)).filter (fun i => partType m i == t)

/-- Manifest check a (R573). -/
def manifestForm (m id : Bytes) : Bool :=
  let n := manParts m
  beAt m 0 4 == 0x4C5A4D46 && byteAt m 4 == 1 && bits (byteAt m 5) 1 7 == 0 && byteAt m 6 == 0 && decide (1 ≤ n) && decide (n ≤ 32) &&
  bits (byteAt m 12) 2 6 == 0 && allZero (slice m 13 3) && allZero (slice m 36 28) && allZero (slice m (manTail m + 133) 3) &&
  allZero (m.drop (manTail m + 268)) && (List.range n).all (partOk m) &&
  (List.range n).all (fun i => (List.range i).all (fun j => !partsMeet m i j)) &&
  (partsOf m 1).length == 1 && !(partsOf m 2).isEmpty && pkgId m == id

/-- Is the manufacturing flag allowed in this lifecycle (R568)? -/
def mfgOk (s : State) (m : Bytes) : Bool := (byteAt m 5).testBit 0 == (s.sec.life == lifeBlank)

/-- Does SIGNER meet R568, and does MSIG verify? -/
def signedOk (s : State) (m : Bytes) : Bool :=
  (if s.sec.life = lifeBlank then manSigner m == fit 133 Config.mfgKey
   else match s.sec.owner with | some d => sha (manSigner m) == d | none => true) &&
  Config.ecdsaVerify (manSigner m) (m.take (manTail m + 136)) (slice m (manTail m + 136) 132)

/-- The manifest checks of R573 for parcel 0, in order. -/
def manifestCheck (s : State) (m id : Bytes) : Status :=
  let ustate := getF s F.UPD_STAT_USTATE
  if !manifestForm m id then .illegalValue
  else if !(byteAt m 12).testBit (if isSender s then 0 else 1) then .notPermitted
  else if !allZero (slice m 16 16) && slice m 16 16 != unitUid then .notPermitted
  else if !mfgOk s m then .notPermitted
  else if !signedOk s m then .integrity
  else if slotBytes s < manSize m then .noResource
  else if ustate = 0 then .ok
  else if ustate = 1 ∧ s.upd.pkg.any (fun p => p.id == id) then .ok
  else .wrongState

/-! ### Iggal images (R567) -/

/-- Is `b` an Iggal image of type `t`? -/
def imageOk (t : Nat) (b : Bytes) : Bool :=
  let n := b.length - 132
  decide (196 ≤ b.length) && beAt b 0 4 == 0x4C5A494D && byteAt b 4 == t && allZero (slice b 6 2) && allZero (slice b 12 52) &&
  Config.ecdsaVerify Config.imageKey (b.take n) (b.drop n)

def imageSvn (b : Bytes) : Nat := byteAt b 5

/-- Bytes of part `i` of the manifest `m`, as slot `slot` holds them. -/
def partBytes (s : State) (slot : Nat) (m : Bytes) (i : Nat) : Bytes := flashRd s slot (partOff m i) (partLen m i)

/-- The manifest of a slot. -/
def slotManifest (s : State) (slot : Nat) : Bytes := flashRd s slot 0 4096

/-- The origin manifest of part `i` of a slot: the spec gives the origin area, not the place of a part in it; part i has the
i-th 4 KiB. DESIGN CHOICE (log entry 102). -/
def originManifest (s : State) (slot i : Nat) : Bytes := flashRd s slot (4096 * (1 + i)) 4096

/-- The rank of part `i` among the parts of its type. -/
def partRank (m : Bytes) (i : Nat) : Nat := ((partsOf m (partType m i)).takeWhile (· < i)).length

/-- The content of part `i` of the manifest of a slot; an inherited part has the length its origin manifest gives it (R575). -/
def partBody (s : State) (slot : Nat) (m : Bytes) (i : Nat) : Bytes :=
  let o := originManifest s slot i
  let n := if partInherit m i then ((partsOf o (partType m i)).map (partLen o)).getD (partRank m i) 0 else partLen m i
  flashRd s slot (partOff m i) n

/-- The digests of the parts of a slot whose type is among `ts`, in manifest order (R544). -/
def partDigests (s : State) (slot : Nat) (ts : List Nat) : List Bytes :=
  let m := slotManifest s slot
  ((List.range (manParts m)).filter (fun i => ts.contains (partType m i))).map (fun i => sha (partBody s slot m i))

/-- Where an inherited part `i` of the package comes from: the part of the same type and rank in the current slot, with the
manifest that carries its digest and its entry there, which has that rank too. DESIGN CHOICE (log entry 102). -/
def inheritFrom (s : State) (m : Bytes) (i : Nat) : Option (Nat × Bytes × Nat) :=
  let cur := slotManifest s (curSlot s)
  match (partsOf cur (partType m i))[partRank m i]? with
  | none => none
  | some j =>
    if !partInherit cur j then some (j, cur, j)
    else
      let o := originManifest s (curSlot s) j
      match (partsOf o (partType m i))[partRank m i]? with
      | some k => if partInherit o k then none else some (j, o, k)
      | none => none

/-! ### State records (R571, R578) -/

/-- The newest state record (R361). -/
def newestRec (s : State) : Option SlotRec := s.upd.recs.getLast?

/-- The record that follows the newest with other contents. -/
def nextRec (s : State) (cur : Nat) (cand : Option Nat) (tries svnA svnB : Nat) : SlotRec :=
  ⟨match newestRec s with | some r => (r.seq + 1) % 2 ^ 32 | none => 0, cur, cand, tries, svnA, svnB⟩

/-- SVN of a slot as the newest record has it. -/
def slotSvn (s : State) (slot : Nat) : Nat :=
  match newestRec s with | some r => if slot = 0 then r.svnA else r.svnB | none => 0

/-- TRIES of the candidate: the larger of the record's and the AON count. -/
def candTries (s : State) : Nat := match newestRec s with | some r => max r.tries s.upd.aonTries | none => 0

/-- A record is written. One with TRIES = 0 starts the count of a new candidate, so the AON count starts again with it, and a
candidate that is new is not marked failed. DESIGN CHOICE (log entry 104). -/
def recWrite (s : State) (r : SlotRec) : State :=
  { s with upd := { s.upd with recs := s.upd.recs ++ [r], aonTries := if r.tries = 0 then 0 else s.upd.aonTries,
                               aonFailed := if r.cand.isSome ∧ r.tries = 0 then none else s.upd.aonFailed } }

end Sys2Proof.Machine
end

