-- ==== Sys2Proof/Machine/Cal.lean ====
section
/-! DEFINITION. CAL: recalibration of chain lanes under traffic, lane sets, DRAM lane values across temperature, and saving
them (R520 to R535). -/

namespace Sys2Proof.Machine

/-! ### Which lanes (R521, R523) -/

/-- Is lane `i` = 5p + l passed over: its port not UP or dormant, the pannier lane in use, or a data lane without a pannier lane
to cover it? -/
def calSkips (s : State) (i : Nat) : Bool :=
  let p := i / 5
  !portUp s p || portDormant s p ||
  (if laneNo s p (i % 5) = 4 then isSet s (F.LNK_PMAP_PANSEL p) || isSet s (F.LNK_PMAP_SPARED p)
   else isSet s (F.LNK_PMAP_SPARED p) || isSet s (F.LNK_PMAP_NOPAN p))

/-- Is a lane taken at its turn? -/
def calTakes (s : State) (i : Nat) : Bool := fbit s F.CAL_CTL_PORTS (i / 5) && !calSkips s i

/-- Frame of the most recent cadence instant; 0 while no mode is in force (R534). -/
def calFrame (s : State) : Nat :=
  if isSender s then (if s.frt.mode.isSome then getF s F.FRT_FRAME_FRAME else 0) else (if s.lmp.mode.isSome then s.lmp.cad else 0)

/-- The stored taps of lane `i` in the lane set in use (R524). -/
def calStored (s : State) (i : Nat) : Option Taps := (s.cal.sets.find? (fun e => e.1 == 3 * i + s.cal.set)).map Prod.snd

/-! ### The steps of R522 -/

/-- Put the running recalibration back after a step. -/
def calRun (s : State) (r : Recal) : State := { s with cal := { s.cal with run := some r } }

/-- Taps of trial `t`: CTLE peaking `t` dB, then each DFE tap from its present value -4 to +4 codes, on top of the best so far. -/
def trialTaps (r : Recal) (t : Nat) : Taps :=
  if t < 16 then r.best.set 0 t
  else
    let j := (t - 16) / 9 + 1
    r.best.set j (r.base.getD j 0 + ((t - 16) % 9 : Nat) - 4)

/-- The sweep begins: adaptation of the lane stops and trial 0 is set. DESIGN CHOICE (log entry 92). -/
def calSweep (s : State) (r : Recal) : State :=
  let s := setF s (F.LNK_LSTAT_FROZEN (5 * r.port + r.lane)) 1
  calRun (setTaps s r.port r.lane (trialTaps r 0)) { r with stage := 1, trial := 0, trialAt := upNs s }

/-- Step 1: the lane's eye, as the margin monitor measured it last, and its taps are kept; a data lane asks for the copy, the
pannier lane begins its sweep. `fromSet`: the sweep starts from the stored taps of the set, where there are any (R524). -/
def calStart (s : State) (i : Nat) (fromSet : Bool) : State :=
  let p := i / 5
  let l := i % 5
  let taps := ((port s p).lane l).taps
  let base := if fromSet then (calStored s i).getD taps else taps
  let n := laneNo s p l
  let r : Recal := ⟨p, l, n, 0, 0, base, taps, getF s (F.LNK_LMARGIN_EW i), getF s (F.LNK_LMARGIN_EH i), base, 0, 0, false, false, 0, 0⟩
  let s := calRun (setF (setF (setF s F.CAL_STAT_LANE l) F.CAL_STAT_PORT p) F.CAL_STAT_BUSY 1) r
  if n = 4 then calSweep s r else steerFor s p n

/-- Step 2 done: the copy matches and the receiver uses it. -/
def calPannier (s : State) : State :=
  match s.cal.run with
  | some r =>
    if r.stage = 0 ∧ r.logical ≠ 4 ∧ portUp s r.port then calSweep (setF s (F.LNK_PMAP_PANSEL r.port) 1) r else s
  | none => s

/-- A recalibration completes (R522 step 6, R526): the taps are the last-good snapshot and are stored in the lane set. -/
def calComplete (s : State) (r : Recal) : State :=
  let i := 5 * r.port + r.lane
  let x := port s r.port
  let y := x.lane r.lane
  let s := setPort s r.port (x.setLane r.lane { y with good := some y.taps, goodRun := 0, lowRun := 0 })
  let s := setF s (F.LNK_LSTAT_FROZEN i) 0
  let s := if r.logical = 4 then s else setF s (F.LNK_PMAP_PANSEL r.port) 0
  let s := if r.kept then s else incSat s F.CAL_STAT_NOGAIN
  let s := setF (setF s (F.CAL_LQUAL_EW i) (min 63 (if r.kept then r.ew else r.ew0)))
    (F.CAL_LQUAL_EH i) (min 255 (if r.kept then r.eh else r.eh0))
  let s := setF (incMod (setF s (F.CAL_LQUAL_SET i) s.cal.set) (F.CAL_LCNT_COUNT i)) (F.CAL_LFRM_FRAME i) (calFrame s)
  let s := setF (setF s (F.CAL_LTIME_TIME i) (timeNs s)) F.CAL_STAT_BUSY 0
  let k := 3 * i + s.cal.set
  { s with cal := { s.cal with run := none, sets := s.cal.sets.filter (fun e => e.1 != k) ++ [(k, y.taps)], changed := true } }

/-- The sweep is over: the new taps stay if their eye is no worse, else the saved ones return (R522 step 4). -/
def calDecide (s : State) (r : Recal) : State :=
  let kept := r.ew0 < r.ew || (r.ew == r.ew0 && r.eh0 ≤ r.eh)
  let s := setTaps s r.port r.lane (if kept then r.best else r.saved)
  let r := { r with kept := kept, stage := 2 }
  if r.logical = 4 then calComplete s r else calRun s r

/-- A measurement window of 10 µs ends, with the adjacent bit pairs that differ of 40,799 and the eye. A window that fails the test of
R295 is repeated; each group of trials keeps its widest eye, the first of equals. -/
def calWindow (s : State) (diff ew eh : Nat) : State :=
  match s.cal.run with
  | some r =>
    if r.stage ≠ 1 ∨ upNs s < r.trialAt + 10000 then s
    else if !(4 * 40799 ≤ 10 * diff && 10 * diff ≤ 6 * 40799) then calRun s { r with trialAt := upNs s }
    else
      let first := r.trial = 0 ∨ (16 ≤ r.trial ∧ (r.trial - 16) % 9 = 0)
      let cur := ((port s r.port).lane r.lane).taps
      let r := if first ∨ r.ew < ew then { r with best := cur, ew := ew, eh := eh } else r
      if r.trial + 1 < 88 then calRun (setTaps s r.port r.lane (trialTaps r (r.trial + 1))) { r with trial := r.trial + 1, trialAt := upNs s }
      else calDecide s r
  | none => s

/-- Step 5: the lane has matched the copy through two trains, or has not. -/
def calMatched (s : State) (ok : Bool) : State :=
  match s.cal.run with
  | some r =>
    if r.stage ≠ 2 then s
    else if ok then calRun s { r with stage := 3, matchedAt := upNs s }
    else if r.retried then calAbort s .integrity
    else calRun (setTaps s r.port r.lane r.saved) { r with kept := false, retried := true }
  | none => s

/-- Step 6: a SOF block has come, or an RSD block 50 ms or more after the match. -/
def calSwitch (s : State) (sof : Bool) : State :=
  match s.cal.run with
  | some r => if r.stage = 3 ∧ (sof ∨ r.matchedAt + 50000000 ≤ upNs s) then calComplete s r else s
  | none => s

/-! ### The schedule (R521, R524) -/

/-- The band moves into a lane set: the lanes are queued ahead of the schedule. -/
def calBand (s : State) (band : Nat) : State :=
  let k := if band = 0 then 0 else if band ≤ 2 then 1 else 2
  if k = s.cal.set then s
  else { s with cal := { s.cal with set := k, queue := (List.range 20).filter (calTakes s) } }

/-- The interval timer starts again. -/
def calTimer (s : State) : State := { s with cal := { s.cal with lastStart := upNs s } }

/-- The next recalibration starts, if one is due: a queued lane, else the next of the round-robin once INTV seconds have passed. -/
def calNext (s : State) : State :=
  if !isSet s F.CAL_CTL_EN ∨ s.cal.run.isSome then s
  else if !s.cal.queue.isEmpty then
    let q := s.cal.queue.dropWhile (calSkips s)
    let s := calTimer { s with cal := { s.cal with queue := q.drop 1 } }
    match q with
    | i :: _ => calStart s i true
    | [] => s
  else if upNs s < s.cal.lastStart + getF s F.CAL_CTL_INTV * 1000000000 then s
  else
    match ((List.range 20).map (fun k => (s.cal.next + k) % 20)).find? (calTakes s) with
    | some i => calStart (calTimer { s with cal := { s.cal with next := (i + 1) % 20 } }) i false
    | none => calTimer s

/-- CAL_CTL.START names a lane of a port (R533). -/
def calManual (s : State) : State := calStart s (5 * getF s F.CAL_CTL_PORT + getF s F.CAL_CTL_LANE) false

/-- EN 1→0. -/
def calDisable (s : State) : State := calAbort s .aborted

/-! ### DRAM (R528 to R531) -/

/-- Is a retraining of channel `c` due in STANDBY? DESIGN CHOICE (log entry 94). -/
def retrainDue (s : State) (c : Nat) : Bool :=
  power s == 2 && isSet s F.CAL_DCFG_SBRETRAIN && chState s c == chSelfRef &&
  (match s.cal.retrained.find? (fun e => e.1 == c) with
   | none => true
   | some e => isSet s F.CAL_DCFG_RETRAINH && e.2 + getF s F.CAL_DCFG_RETRAINH * 3600000000000 ≤ upNs s)

/-- The set-points that DRC has trained (R498). -/
def fspsNow (s : State) : List Nat := setPoints (getF s F.DRC_FSPRATE_RATE0, getF s F.DRC_FSPRATE_RATE1, getF s F.DRC_FSPRATE_RATE2)

/-- A retraining in STANDBY: whether the device answers, and what the training measures (R487, R530). -/
def standbyRetrain (s : State) (c : Nat) (ok : Bool) (l : List LTrain) : State :=
  if !retrainDue s c then s
  else
    let s := { s with cal := { s.cal with retrained := s.cal.retrained.filter (fun e => e.1 != c) ++ [(c, upNs s)] } }
    if ok && trainPass (fspsNow s) l then
      let s := incMod (retrackChan (calTrain s c l) c) (F.CAL_DCNT_RETRAIN c)
      setF (setF s (F.CAL_DFRM_FRAME c) (calFrame s)) (F.CAL_DTIME_TIME c) (timeNs s)
    else incSat s (F.CAL_DCNT_FAIL c)

/-- Changed sets and slots go to flash, at most once per 10 minutes (R531). -/
def calSave (s : State) : State :=
  let due := match s.cal.savedAt with | some t => decide (t + 600000000000 ≤ upNs s) | none => true
  if s.cal.changed ∧ due = true then flashPush { s with cal := { s.cal with changed := false, savedAt := some (upNs s) } } .calset else s

/-- Block reset of CAL (R535). -/
def calBlockReset (s : State) : State :=
  let s := resetRegs (calAbort s .aborted) 0x150000 0x160000
  { s with cal := { s.cal with queue := [], next := 0 } }

/-! ### The commands -/

/-- The step every 16 ms (R528, R529). -/
def trackStep (s : State) (osc : List Nat) : State :=
  if upNs s < s.cal.trackAt + 16000000 then s
  else
    let s := { s with cal := { s.cal with trackAt := upNs s } }
    (drcChannels s).foldl (fun s c => trackChan s c (if isSet s F.CAL_DCFG_TRACK then osc[c]? else none)) s

/-- DRAM_TRACK_STEP (R528, R529): `osc` are the counts of the channels' DQS oscillators. -/
def execDramTrackStep (dt : Nat) (osc : List Nat) (s : State) : Result :=
  whenOn 0x15 (advance dt s) (fun s => trackStep s osc)

/-- STANDBY_RETRAIN (R530). -/
def execStandbyRetrain (dt c : Nat) (ok : Bool) (l : List LTrain) (s : State) : Result :=
  whenOn 0x15 (advance dt s) (fun s => standbyRetrain s c ok l)

/-- RECAL_START (R521). -/
def execRecalStart (dt : Nat) (s : State) : Result := whenOn 0x15 (advance dt s) calNext

/-- RECAL_PANNIER_MATCHED (R522). -/
def execRecalPannierMatched (s : State) : Result := whenOn 0x15 s calPannier

/-- RECAL_MEASURE_WINDOW (R522). -/
def execRecalMeasureWindow (dt diff ew eh : Nat) (s : State) : Result := whenOn 0x15 (advance dt s) (fun s => calWindow s diff ew eh)

/-- RECAL_LANE_MATCHED (R522): `ok` is false where the lane differs from the copy. -/
def execRecalLaneMatched (ok : Bool) (s : State) : Result := whenOn 0x15 s (fun s => calMatched s ok)

/-- RECAL_SWITCH_BACK (R522): at a SOF block, or at an RSD block. -/
def execRecalSwitchBack (dt : Nat) (sof : Bool) (s : State) : Result := whenOn 0x15 (advance dt s) (fun s => calSwitch s sof)

/-- RECAL_ABORT (R525): the running recalibration ends with the code of its cause. The causes that have a command of their own end
it in that command. -/
def execRecalAbort (c : Status) (s : State) : Result :=
  whenOn 0x15 s (fun s => if [Status.aborted, .linkAbsent, .integrity].contains c then calAbort s c else s)

/-- CAL_SET_SAVE (R531). -/
def execCalSetSave (dt : Nat) (s : State) : Result := whenOn 0x15 (advance dt s) calSave

end Sys2Proof.Machine
end

