-- ==== Sys2Proof/Machine/Thm.lean ====
section
/-! DEFINITION. THM: sensors, bands, throttling, the forced DARK state, power states, and the start of an orderly shut-down
(R503 to R519). -/

namespace Sys2Proof.Machine

/-! ### Sensors (R503 to R505). A sensor is numbered by its bit of THM_FAIL: k for ODk, 16 + z for TDz. -/

def onDie : List Nat := List.range 12
def remotes : List Nat := (List.range 16).map (16 + ·)

def thmFailed (s : State) (n : Nat) : Bool := (s.word R.THM_FAIL).toNat.testBit n

/-- Is a sensor fitted and not excluded? -/
def thmIncluded (s : State) (n : Nat) : Bool :=
  (decide (n < 16) || fbit s F.THM_CFG_TDEN (n - 16)) && !(s.word R.THM_EXCL).toNat.testBit n

/-- Is a sensor included and not failed? -/
def thmGood (s : State) (n : Nat) : Bool := thmIncluded s n && !thmFailed s n

def tempFld (n : Nat) : Fld := if n < 16 then F.THM_OD_TEMP n else F.THM_TD_TEMP (n - 16)

/-- Last good reading, S11.4 °C. -/
def thmTemp (s : State) (n : Nat) : Int := signed 16 (getF s (tempFld n))

/-- Does a sensor hold the throttle (R509): included and failed, its bit set or its last sample still bad? -/
def thmHolds (s : State) (n : Nat) : Bool := thmIncluded s n && (thmFailed s n || s.thm.failing.contains n)

/-- One sample of sensor `n` with reading `v`; `bad` says that it fails. Answers whether an included sensor fails anew. A sensor
that still fails sets its bit again and reports nothing new (DEDUCED from R504). DEDUCED (log entry 97). -/
def sampleOne (s : State) (n : Nat) (v : Int) (bad : Bool) : Bool × State :=
  if bad then
    let new := !thmFailed s n && !s.thm.failing.contains n
    let step := new && thmIncluded s n
    let s := { s with thm := { s.thm with failing := if s.thm.failing.contains n then s.thm.failing else s.thm.failing ++ [n] } }
    let s := s.setWord R.THM_FAIL (BitVec.ofNat 32 (putBit (s.word R.THM_FAIL).toNat n true))
    (step, if new then raise s 0x1401 [byte n] else s)
  else
    (false, setF { s with thm := { s.thm with failing := s.thm.failing.filter (· != n) } } (tempFld n) (unsign 16 v))

/-- An on-die sample (R504): outside -55 °C to 150 °C, or more than 20 °C from the sample before, it fails. -/
def sampleOd (s : State) (k : Nat) (v : Int) : Bool × State :=
  let jump := match s.thm.prev.find? (fun e => e.1 == k) with | some e => decide (320 < (v - e.2).natAbs) | none => false
  let s := { s with thm := { s.thm with prev := s.thm.prev.filter (fun e => e.1 != k) ++ [(k, v)] } }
  sampleOne s k v (decide (v < -880) || decide (2400 < v) || jump)

/-- A sample of a fitted remote channel with its forward voltage in mV. -/
def sampleTd (s : State) (z : Nat) (v : Int) (mv : Nat) : Bool × State :=
  if fbit s F.THM_CFG_TDEN z then sampleOne s (16 + z) v (decide (mv < 300) || decide (900 < mv))
  else (false, { s with thm := { s.thm with failing := s.thm.failing.filter (· != 16 + z) } })

/-! ### Bands (R506) -/

/-- Lower edges of T1 to T5, S11.4. -/
def bandEdge (b : Nat) : Int := [0, 0, 960, 1360, 1600, 1760].getD b 1760

/-- The band that Tj gives, coming from band `b`: entered at its lower edge, left 3 °C below it. DEDUCED (log entry 96). -/
def bandFrom (b : Nat) (tj : Int) : Nat :=
  let up := ([1, 2, 3, 4, 5].filter (fun k => decide (bandEdge k ≤ tj))).length
  let stay := ([1, 2, 3, 4, 5].filter (fun k => decide (k ≤ b) && decide (bandEdge k - 48 < tj))).length
  max up stay

/-- Tj and the band it gives. With no on-die sensor good, the spec gives Tj no value: it is free, and never causes T5. -/
def thmJunction (s : State) : State :=
  match (onDie.filter (thmGood s)).map (thmTemp s) with
  | t :: l =>
    let tj := l.foldl max t
    { setF s F.THM_STAT_TJ (unsign 16 tj) with thm := { s.thm with band := bandFrom s.thm.band tj } }
  | [] =>
    let (r, s) := drawNat s
    let s := setF s F.THM_STAT_TJ (r % 65536)
    { s with thm := { s.thm with band := min 4 (bandFrom s.thm.band (junction s)) } }

/-- The band shown: at least T4 while an on-die sensor is included and failed. DRC and CAL follow it. -/
def thmBandShow (s : State) : State :=
  let b := if onDie.any (thmHolds s) then max 4 s.thm.band else s.thm.band
  let old := getF s F.THM_STAT_BAND
  let t5 := if s.thm.band = 5 then s.thm.t5.orElse (fun _ => some (upNs s)) else none
  let s := { s with thm := { s.thm with t5 := t5 } }
  if b = old then s else calBand (drcBand (raise (setF s F.THM_STAT_BAND b) 0x1402 [byte b, byte old]) b) b

/-! ### Power states (R510, R514, R515) -/

/-- The state the walk makes for: a force caps it at DARK. -/
def powerTarget (s : State) : Nat := let r := getF s F.THM_PWR_REQ; if isSet s F.THM_PWR_FORCED then max 1 r else r

def powerShow (s : State) : State := setF s F.THM_PWR_BUSY (b2n (power s != powerTarget s))

/-- LMP and SPK take their Reset states: the reading engine stops, spokes and scan outputs are off (R49, R514). -/
def displayOff (s : State) : State :=
  let s := engineStop (showsEnd s)
  spokesDark { s with lmp := { s.lmp with lampEn := false, shows := [] } }

/-- What happens as the unit moves from state `a` to its neighbour `b`. -/
def powerEffect (s : State) (a b : Nat) : State :=
  if a = 1 ∧ b = 2 then
    let s := intervalClose { s with cal := { s.cal with retrained := [] } }
    (drcChannels s).foldl selfRefEntry (if isTile s then displayOff s else s)
  else if a = 2 ∧ b = 1 then
    let s := (drcChannels s).foldl leaveSelfRef s
    if isTile s ∧ isSet s F.SPK_CTL_EN then spkEnable s else s
  else if a = 2 ∧ b = 3 then
    (List.range 4).foldl (fun s p => 
      if pState s p = pOff then s else portDown (if pState s p = pTest then lctlReset s p else s) p pOff) s
  else if a = 3 ∧ b = 2 then
    (enabledPorts s).foldl (fun s p =>
      if portDormant s p then s else if isSet s (F.LNK_PCTL_TEST p) then setStage s p pTest else toDetect s p) s
  else s

/-- The walk reaches the next state. DESIGN CHOICE (log entry 99). -/
def powerMove (s : State) : State :=
  let a := power s
  let t := powerTarget s
  if s.thm.shut.isSome ∨ 4 ≤ t ∨ a = t then s
  else
    let b := if a < t then a + 1 else a - 1
    lampDrop (powerShow (raise (powerEffect (setF s F.THM_PWR_NOW b) a b) 0x1405 [byte b]))

/-- Lamp-board channels are those of a tile (R426, R503). DESIGN CHOICE (log entry 95). -/
def boards (s : State) : List Nat := if isTile s then List.range 16 else []

def lampLim (s : State) : Int := 16 * getF s F.THM_CFG_LAMPLIM

/-- The force of R510. -/
def thmForce (s : State) : State :=
  let keep := s.thm.hot.filter (fun z => thmIncluded s (16 + z) && !(thmGood s (16 + z) && thmTemp s (16 + z) < lampLim s))
  let new := (boards s).filter (fun z => thmGood s (16 + z) && lampLim s + 240 ≤ thmTemp s (16 + z) && !keep.contains z)
  let s := { s with thm := { s.thm with hot := keep ++ new } }
  let forced := !s.thm.hot.isEmpty
  if forced = isSet s F.THM_PWR_FORCED then s
  else
    let s := powerShow (setF s F.THM_PWR_FORCED (b2n forced))
    if forced ∧ power s = 0 then powerMove s else s

/-! ### Throttling (R507 to R509) -/

/-- A throttle cause other than a failed sensor. -/
def heatCause (s : State) : Bool :=
  decide (4 ≤ s.thm.band) || (boards s).any (fun z => thmGood s (16 + z) && lampLim s ≤ thmTemp s (16 + z))

def failHold (s : State) : Bool := (onDie ++ remotes).any (thmHolds s)

/-- THM_STAT.STEP: 32 - CEIL on a tile, the quality step on a sender. -/
def throttleStep (s : State) : Nat := if isTile s then 32 - getF s F.LMP_CEIL_CEIL else s.cmp.nextStep

def thmStepShow (s : State) : State := setF s F.THM_STAT_STEP (throttleStep s)

/-- Report a step taken: its yield, in SENDER role with the record that R232 gives (R508), and its event. -/
def stepReport (s : State) (up : Bool) : State :=
  let s := thmStepShow s
  let s := yield s 1 4 (if isTile s then 0x14 else 0x0B) .aborted (currentFrame s)
  raise s 0x1403 [byte (getF s F.THM_STAT_STEP), byte (b2n up)]

/-- One step down; none at the floor. DESIGN CHOICE (log entry 98). -/
def stepDown (s : State) : State :=
  if isTile s then
    let c := getF s F.LMP_CEIL_CEIL
    if c ≤ getF s F.THM_CFG_CEILMIN then s else stepReport (setF s F.LMP_CEIL_CEIL (c - 1)) false
  else if isSender s ∧ s.cmp.nextStep < 6 then stepReport { s with cmp := { s.cmp with nextStep := s.cmp.nextStep + 1 } } false
  else s

/-- One step up; none at the top. -/
def stepUp (s : State) : State :=
  if isTile s then
    let c := getF s F.LMP_CEIL_CEIL
    if 32 ≤ c then s else stepReport (setF s F.LMP_CEIL_CEIL (c + 1)) true
  else if isSender s ∧ 0 < s.cmp.nextStep then stepReport { s with cmp := { s.cmp with nextStep := s.cmp.nextStep - 1 } } true
  else s

/-- The conditions of R508 for stepping up. -/
def upOk (s : State) : Bool :=
  decide (junction s < 97 * 16) && (boards s).all (fun z => !thmGood s (16 + z) || thmTemp s (16 + z) < lampLim s - 80) && !failHold s

/-- THM_OD and THM_TD show the FAILED bits. -/
def thmCopies (s : State) : State :=
  let s := onDie.foldl (fun s k => setF s (F.THM_OD_FAILED k) (b2n (thmFailed s k))) s
  (List.range 16).foldl (fun s z => setF s (F.THM_TD_FAILED z) (b2n (thmFailed s (16 + z)))) s

def stepDowns : Nat → State → State
  | 0, s => s
  | n + 1, s => stepDowns n (stepDown s)

/-- THM looks at its sensors again: after a sample in which `fails` included sensors failed, or after a write. A first cause steps
down at once and starts the 2 s grid; each failure steps down once. -/
def thmEval (s : State) (fails : Nat) : State :=
  let s := thmCopies (thmForce (thmBandShow (thmJunction s)))
  let was := isSet s F.THM_STAT_THROT
  let thr := heatCause s || failHold s
  let s := stepDowns (if thr && !was then max 1 fails else fails) s
  let grid := if !thr then none else if was then s.thm.grid else some (upNs s + 2000000000)
  let up := if upOk s then s.thm.up.orElse (fun _ => some (upNs s + 10000000000)) else none
  let s := { s with thm := { s.thm with grid := grid, up := up } }
  thmStepShow (setF (setF s F.THM_STAT_THROT (b2n thr)) F.THM_STAT_FAILHOLD (b2n (failHold s)))

/-- One sample of every sensor, once per ms: readings in S11.4, and forward voltages in mV for the remote channels. -/
def sensorSample (s : State) (od : List Int) (td : List (Int × Nat)) : State :=
  let step (acc : Nat × State) (x : Bool × State) : Nat × State := (acc.1 + b2n x.1, x.2)
  if upNs s < s.thm.sampledAt + 1000000 then s else
  let s := { s with thm := { s.thm with sampledAt := upNs s } }
  let acc := onDie.foldl (fun acc k => match od[k]? with | some v => step acc (sampleOd acc.2 k v) | none => acc) (0, s)
  let acc := (List.range 16).foldl (fun acc z => match td[z]? with | some v => step acc (sampleTd acc.2 z v.1 v.2) | none => acc) acc
  thmEval acc.2 acc.1

/-- The grid of R507: a step down while a cause other than a failed sensor persists. -/
def gridStep (s : State) : State :=
  match s.thm.grid with
  | some t =>
    if t ≤ upNs s then
      let s := { s with thm := { s.thm with grid := some (t + 2000000000) } }
      if heatCause s then stepDown s else s
    else s
  | none => s

/-- The 10 s step of R508. -/
def upStep (s : State) : State :=
  match s.thm.up with
  | some t => if t ≤ upNs s then stepUp { s with thm := { s.thm with up := some (t + 10000000000) } } else s
  | none => s

/-! ### Orderly shut-down (R511) -/

/-- The hottest included on-die sensor that has not failed; of equals the lowest. -/
def hottest (s : State) : Nat :=
  match onDie.filter (thmGood s) with
  | k :: l => l.foldl (fun b k => if thmTemp s b < thmTemp s k then k else b) k
  | [] => (onDie.find? (thmIncluded s)).getD 0

/-- An orderly shut-down starts: cause 1 heat, 2 host. -/
def shutStart (s : State) (cause : Nat) : State :=
  if s.thm.shut.isSome then s
  else
    let s := if isTile s then displayOff s else s
    let s := raise s 0x1404 ([byte cause, byte (hottest s)] ++ beBytes 2 (getF s F.THM_STAT_TJ))
    { s with thm := { s.thm with shut := some cause } }

/-- Tj has stayed in T5 for 10 ms. -/
def t5Step (s : State) : State :=
  match s.thm.t5 with
  | some t => if t + 10000000 ≤ upNs s then shutStart s 1 else s
  | none => s

/-- THM_PWR.REQ is written: OFF starts a shut-down, any other value is the target of the walk. -/
def powerRequest (s : State) : State :=
  if s.thm.shut.isSome then s else if getF s F.THM_PWR_REQ = 4 then shutStart s 2 else powerShow s

/-! ### The commands -/

/-- SENSOR_SAMPLE (R503). -/
def execSensorSample (dt : Nat) (od : List Int) (td : List (Int × Nat)) (s : State) : Result :=
  whenOn 0x14 (advance dt s) (fun s => sensorSample s od td)

/-- THROTTLE_STEP_DOWN (R507). The step at once is part of the sample or write that finds the cause. -/
def execThrottleStepDown (dt : Nat) (s : State) : Result := whenOn 0x14 (advance dt s) gridStep

/-- THROTTLE_STEP_UP (R508). -/
def execThrottleStepUp (dt : Nat) (s : State) : Result := whenOn 0x14 (advance dt s) upStep

/-- T5_SHUTDOWN (R511). -/
def execT5Shutdown (dt : Nat) (s : State) : Result := whenOn 0x14 (advance dt s) t5Step

/-- POWER_STATE_REACHED (R515). -/
def execPowerStateReached (dt : Nat) (s : State) : Result := whenOn 0x14 (advance dt s) powerMove

end Sys2Proof.Machine
end

