-- ==== Sys2Proof/Machine/Upd.lean ====
section
/-! DEFINITION. UPD and NVM: staging a package, verifying, arming and activating it, trial and confirmation, the service-core
entries 0x60 to 0x65, and what flash operations do as they finish (R563 to R586, R596). -/

namespace Sys2Proof.Machine

/-! ### Warm reset requests (R78, R82) -/

/-- A warm reset is requested: the cause is recorded, and lamp and scan bumps take their Reset states. While cold reset is
asserted, or in OFF, the request is ignored. -/
def warmRequest (s : State) (cause : Fld) : State :=
  if coldHeld s ∨ power s = 4 then s
  else
    let s := setF s cause 1
    if s.boot.warm = .none then displayOff { s with boot := { s.boot with warm := .requested } } else s

/-! ### State of the update (R569, R574) -/

def ustate (s : State) : Nat := getF s F.UPD_STAT_USTATE

/-- USTATE changes, with its event. -/
def setUstate (s : State) (u : Nat) : State :=
  if ustate s = u then s
  else raise (setF (if u = 5 then dropHold s else s) F.UPD_STAT_USTATE u) 0x1701 [byte u, byte (getF s F.UPD_STAT_LASTCODE)]

def lastCode (s : State) (c : Status) : State := setF s F.UPD_STAT_LASTCODE c.code

/-- Needed parcels, and those of them held. -/
def pkgNeed (s : State) : List Nat := match s.upd.pkg with | some p => neededList p.manifest | none => []
def pkgHeld (s : State) : List Nat := match s.upd.pkg with | some p => (neededList p.manifest).filter (fun k => p.held.contains k) | none => []

/-- UPD_HELD and UPD_PKGID follow the package. -/
def updShow (s : State) : State :=
  let id := match s.upd.pkg with | some p => p.id | none => zeros 16
  let s := setF (setF s F.UPD_HELD_HELD (pkgHeld s).length) F.UPD_HELD_NEED (pkgNeed s).length
  (List.range 4).foldl (fun s k => s.setWord (R.UPD_PKGID k) (BitVec.ofNat 32 (beAt id (4 * k) 4))) s

/-- The package goes: USTATE IDLE. -/
def pkgDrop (s : State) : State := setUstate (updShow { s with upd := { s.upd with pkg := none } }) 0

/-- Reply to a PARCEL letter (R574). -/
def parcelContent (s : State) (c : Status) (query : Option Nat) : Bytes :=
  let id := match s.upd.pkg with | some p => p.id | none => zeros 16
  let held := pkgHeld s
  let miss := (pkgNeed s).find? (fun k => !held.contains k)
  let map := match query with
    | some k => (List.range 128).map (fun b => byte (((List.range 8).map (fun j => if held.contains (k + 8 * b + j) then 2 ^ (7 - j) else 0)).sum))
    | none => []
  [byte c.code, byte (ustate s), 0#8, 0#8] ++ id ++ beBytes 4 held.length ++ beBytes 4 (pkgNeed s).length ++
    beBytes 4 (miss.getD 0xFFFFFFFF) ++ beBytes 4 (getF s F.UPD_BUILD_BUILD) ++ [byte (getF s F.UPD_STAT_CURSVN)] ++
    [byte (getF s F.UPD_STAT_LASTCODE), 0#8, 0#8] ++ map

/-- Answer a PARCEL letter: every one gets a reply but a DATA letter sent by broadcast (R572). A refusal is counted. -/
def parcelReply (s : State) (l : Letter) (c : Status) (query : Option Nat := none) : State :=
  let s := if c = .ok ∨ c = .late then s else lastCode (incSat s F.CHN_LSTAT_REFUSED) c
  if byteAt l.content 0 = 1 ∧ isBroadcast l.addr then s
  else tileReply s l.port l.ltype l.rank l.lid l.slot (parcelContent s c query)

/-- Write back an UPD entry (R582). -/
def updDone (s : State) (it : Item) (c : Status) (result rcode : Nat) (dead : Bool := c != .ok && c != .late) : State :=
  let s := if dead then lastCode s c else s
  complete40 s it (leBytes 4 result ++ leBytes 4 (timeNs s) ++ [byte rcode]) c dead

/-! ### Parcels (R572, R573) -/

/-- Parcels that flash operations already asked for will hold. -/
def queuedParcels (s : State) : List Nat := s.upd.ops.filterMap (fun o => match o with | .parcel k _ _ => some k | _ => none)

/-- The checks of R573 that follow the letter's own form. `full`: the parcels ahead of this one complete the package. -/
def parcelCheck (s : State) (k : Nat) (id data : Bytes) (full : Bool) : Status :=
  if k = 0 then manifestCheck s data id
  else if ustate s ≠ 1 ∨ full then .wrongState
  else
    match s.upd.pkg with
    | none => .wrongState
    | some p =>
      if p.id ≠ id then .staleState
      else if nParcel p.manifest ≤ k || !needed p.manifest k then .range
      else .ok

/-- Is a parcel held already? -/
def parcelHeld (s : State) (k : Nat) : Bool := s.upd.pkg.any (fun p => p.held.contains k)

/-- A new parcel 0 opens staging; its maps start empty. -/
def pkgOpen (s : State) (id m : Bytes) : State :=
  if s.upd.pkg.isSome then s
  else setUstate (updShow (pushMaps { s with upd := { s.upd with pkg := some ⟨id, m, [], []⟩ } })) 1

/-- Ask NVM to write a parcel; its sector is erased first where it has not been. -/
def parcelWrite (s : State) (k : Nat) (data : Bytes) (who : PFrom) : State :=
  let sec := k / 16
  let done := s.upd.pkg.any (fun p => p.erased.contains sec) || s.upd.ops.any (fun o => match o with | .erase x => x == sec | _ => false)
  let s := if done then s else flashPush s (.erase sec)
  flashPush s (.parcel k data who)

/-- DATA by letter. DESIGN CHOICE (log entry 101). -/
def parcelData (s : State) (l : Letter) : State :=
  let c := l.content
  let k := beAt c 20 4
  let id := slice c 4 16
  let data := slice c 32 4096
  if c.length ≠ 4128 ∨ byteAt c 0 ≠ 1 ∨ byteAt c 28 ≠ 0 ∨ !allZero (slice c 1 3) ∨ !allZero (slice c 29 3) then parcelReply s l .illegalValue
  else
    match parcelCheck s k id data false with
    | .ok =>
      if crc32 data ≠ beAt c 24 4 then parcelReply s l .integrity
      else if parcelHeld s k then parcelReply s l .ok
      else parcelWrite (if k = 0 then pkgOpen s id data else s) k data (.letter l)
    | x => parcelReply s l x

/-- Are the fields of a QUERY, ARM or ABANDON letter valid? -/
def parcelForm (c : Bytes) : Bool :=
  let op := byteAt c 0
  c.length == 32 && allZero (slice c 1 3) && allZero (slice c 29 3) && (op == 2 || beAt c 20 4 == 0) && (op == 3 || beAt c 24 4 == 0) &&
  (if op = 3 then bits (byteAt c 28) 1 7 == 0 else byteAt c 28 == 0)

/-- Does a letter name the staging package? DESIGN CHOICE (log entry 69). -/
def parcelOurs (s : State) (c : Bytes) : Bool := s.upd.pkg.any (fun p => p.id == slice c 4 16)

/-- QUERY. -/
def parcelQuery (s : State) (l : Letter) : State :=
  let c := l.content
  if !parcelForm c then parcelReply s l .illegalValue (some (beAt c 20 4))
  else if !parcelOurs s c then parcelReply s l .staleState (some (beAt c 20 4))
  else parcelReply s l .ok (some (beAt c 20 4))

/-! ### STAGE (R582) -/

/-- Check and queue the parcels of a STAGE entry from index `k` on: the code it ends with, and the parcels to write. -/
def stageWalk : Nat → Nat → Bytes → List (Nat × Bytes) → State → Status × List (Nat × Bytes) × State
  | 0, _, _, acc, s => (.ok, acc, s)
  | n + 1, k, b, acc, s =>
    let data := fit 4096 b
    let id := if k = 0 then pkgId data else (match s.upd.pkg with | some p => p.id | none => [])
    let ahead := acc.map Prod.fst
    let full := s.upd.pkg.any (fun p => (neededList p.manifest).all (fun j => p.held.contains j || ahead.contains j))
    match parcelCheck s k id data full with
    | .ok =>
      let s := if k = 0 then pkgOpen s id data else s
      stageWalk n (k + 1) (b.drop 4096) (if parcelHeld s k then acc else acc ++ [(k, data)]) s
    | c => (c, acc, s)

/-- STAGE once its data is read. -/
def stageApply (s : State) (it : Item) (b : Bytes) : State :=
  let (c, ws, s) := stageWalk (leAt it.entry 10 2) (leAt it.entry 4 4) b [] s
  match ws.getLast? with
  | none => updDone s it c (pkgHeld s).length 0xFF
  | some w =>
    let s := ws.dropLast.foldl (fun s w => parcelWrite s w.1 w.2 (.stage it none)) s
    parcelWrite s w.1 w.2 (.stage it (some c))

/-! ### Activation (R576, R577) -/

/-- The armed ACTIVATE entry completes. -/
def armDone (s : State) (a : Arm) (c : Status) : State :=
  match a.item with
  | some it => updDone s it c (if c = .ok ∨ c = .late then a.frame else 0) 0xFF
  | none => s

/-- No activation is armed any more; an entry that armed one completes with `c`. -/
def disarm (s : State) (c : Status) : State :=
  match s.upd.arm with
  | some a => armDone (setF { s with upd := { s.upd with arm := none } } F.UPD_AFRAME_FRAME 0) a c
  | none => s

/-- The activation instant: the entry completes, and a state record with CAND the staging slot is written; the warm reset follows
it. -/
def activate (s : State) : State :=
  match s.upd.arm with
  | none => s
  | some a =>
    let s := disarm s (if a.late then .late else .ok)
    let s := raise s 0x1701 [byte (ustate s), byte (getF s F.UPD_STAT_LASTCODE)]
    let svn := match s.upd.pkg with | some p => imageSvn (((partsOf p.manifest 1).head?).elim [] (partBytes s (stagingSlot s) p.manifest)) | none => 0
    let k := stagingSlot s
    flashPush s (.state (nextRec s (curSlot s) (some k) 0 (if k = 0 then svn else slotSvn s 0) (if k = 1 then svn else slotSvn s 1)))

/-- Is a cadence in force: a tile mode, or FRT's? -/
def cadenceOn (s : State) : Bool := if isTile s then s.lmp.mode.isSome else frtOn s && s.frt.mode.isSome

/-- The next frame boundary. -/
def nextBoundary (s : State) : Nat := if isTile s then s.lmp.nextA else (getF s F.FRT_FRAME_FRAME + 1) % 2 ^ 32

/-- Arm an activation for frame `f`, or now. The instant that has passed moves to the next frame boundary, late. -/
def armSet (s : State) (f : Nat) (now : Bool) (it : Option Item) : State :=
  let s := disarm s .staleState
  let nb := nextBoundary s
  let passed := !now && cadenceOn s && !matOrAfter 32 f nb
  let a : Arm := ⟨if passed then nb else f, it, passed⟩
  let a := if now then { a with frame := currentFrame s } else a
  let s := setF (setUstate { s with upd := { s.upd with arm := some a } } 4) F.UPD_AFRAME_FRAME a.frame
  let s := armMove s
  if (now || !cadenceOn s) && !(s.upd.arm.any (fun b => b.late && !passed)) then activate s else s

/-- May an activation be armed? -/
def armable (s : State) : Bool := ustate s == 3 || ustate s == 4

/-- ARM by letter. -/
def parcelArm (s : State) (l : Letter) : State :=
  let c := l.content
  if !parcelForm c then parcelReply s l .illegalValue
  else if !armable s then parcelReply s l .wrongState
  else
    let s := armSet s (beAt c 24 4) ((byteAt c 28).testBit 0) none
    parcelReply s l (if s.upd.arm.any Arm.late then .late else .ok)

/-- The activation instant has come: A_F has passed on a tile, the raster of F has started on a sender.
DESIGN CHOICE (log entry 100). -/
def activationStep (s : State) : State :=
  match s.upd.arm with
  | some a =>
    let due := if !cadenceOn s then true
      else if isTile s then mafter 32 s.lmp.nextA a.frame else matOrAfter 32 (getF s F.FRT_FRAME_FRAME) a.frame
    if ustate s = 4 ∧ due = true then activate s else s
  | none => s

/-- ABANDON (R574): the code, and the state after. -/
def abandon (s : State) : Status × State :=
  if ustate s = 0 ∨ ustate s = 5 then (.wrongState, s) else (.ok, pkgDrop (disarm s .aborted))

/-- ABANDON by letter. -/
def parcelAbandon (s : State) (l : Letter) : State :=
  if !parcelForm l.content then parcelReply s l .illegalValue
  else if ustate s = 5 then parcelReply s l .wrongState
  else if !parcelOurs s l.content then parcelReply s l .staleState
  else
    let (c, s) := abandon s
    parcelReply s l c

/-! ### Verifying (R575) -/

/-- Verification fails: the staging package is discarded. -/
def verifyDiscard (s : State) (c : Status) : State := pkgDrop (lastCode s c)

/-- Parcels are missing again: their map is written anew. -/
def markMissing (s : State) (p : Nat → Bool) : State :=
  let pkg := s.upd.pkg.map (fun g => { g with held := g.held.filter (fun k => !p k) })
  updShow (pushMaps { s with upd := { s.upd with pkg := pkg } })

/-- The bytes of sector `k` of the staging slot read 0xFF again. -/
def sectorClear (s : State) (k : Nat) : State :=
  let a := slotStart s (stagingSlot s) + 65536 * k
  { s with upd := { s.upd with flash := s.upd.flash.filter (fun e => !(a ≤ e.1 && e.1 < a + 65536)) } }

/-- Sector `k` of the staging slot is erased. -/
def sectorErased (s : State) (k : Nat) : State :=
  let pkg := s.upd.pkg.map (fun g => { g with erased := if g.erased.contains k then g.erased else g.erased ++ [k] })
  sectorClear { s with upd := { s.upd with pkg := pkg } } k

/-- A sector that is not erased yet and holds no parcel is erased before it is written (R570). -/
def sectorReady (s : State) (k : Nat) : State :=
  if s.upd.pkg.any (fun p => p.erased.contains k || p.held.any (fun j => j / 16 == k)) then s
  else emit (sectorErased s k) (.nvm 1 (slotStart s (stagingSlot s) + 65536 * k) 65536)

/-- Bytes are written to the staging slot from byte `a` on. -/
def stagingWrite (s : State) (a : Nat) (b : Bytes) : State :=
  let s := (((List.range (b.length / 65536 + 2)).map (a / 65536 + ·)).filter (fun k => 65536 * k < a + b.length)).foldl sectorReady s
  emit (flashWr s (stagingSlot s) a b) (.nvm 0 (slotStart s (stagingSlot s) + a) b.length)

/-- Copy an inherited part from the current slot, with the manifest that carries its digest. -/
def copyInherited (s : State) (m : Bytes) (i : Nat) : State :=
  match inheritFrom s m i with
  | none => s
  | some (j, o, k) =>
    let b := flashRd s (curSlot s) (partOff (slotManifest s (curSlot s)) j) (partLen o k)
    stagingWrite (stagingWrite s (partOff m i) b) (4096 * (1 + i)) o

/-- The checks of R575, in order, and the copies that follow. -/
def verify (s : State) (m : Bytes) : State :=
  let slot := stagingSlot s
  let images := (partsOf m 1 ++ partsOf m 2).map (fun i => (partType m i, partBytes s slot m i))
  let svn := match images with | x :: _ => imageSvn x.2 | [] => 0
  let inh := (List.range (manParts m)).filter (partInherit m)
  let bad := (List.range (manParts m)).filter (fun i => !partInherit m i && sha (partBytes s slot m i) != partDigest m i)
  if !images.all (fun x => imageOk x.1 x.2) then verifyDiscard s .integrity
  else if !images.all (fun x => imageSvn x.2 == svn) then verifyDiscard s .illegalValue
  else if svn < s.sec.svn then verifyDiscard s .version
  else if !bad.isEmpty then setUstate (lastCode (markMissing s (fun k => bad.any (fun i => parcelIn m i k))) .integrity) 1
  else if inh.any (fun i => (inheritFrom s m i).isNone) then verifyDiscard s .range
  else if inh.any (fun i => match inheritFrom s m i with | some (_, o, _) => !(mfgOk s o && signedOk s o) | none => true) then verifyDiscard s .integrity
  else setUstate (inh.foldl (fun s i => copyInherited s m i) s) 3

def verifyStep (s : State) : State :=
  match s.upd.pkg with
  | some p => if ustate s = 2 then verify s p.manifest else s
  | none => s

/-- The last needed parcel is held: VERIFYING. -/
def pkgFull (s : State) : State :=
  if ustate s = 1 ∧ (pkgNeed s).length = (pkgHeld s).length then setUstate s 2 else s

/-! ### Trial and confirmation (R579, R580) -/

/-- Do the conditions of R579 hold? -/
def trialOk (s : State) : Bool :=
  isReady s && (!isTile s || !(upPorts s).isEmpty) && (!isSet s F.UPD_CFG_HOSTCONF || dormant s 0x02 || s.upd.confirm) &&
  (match s.upd.readyAt with | some t => decide (upNs s < t + getF s F.UPD_CFG_CONFS * 1000000000) | none => false)

/-- Is a state record being written? -/
def recBusy (s : State) : Bool := s.upd.ops.any (fun o => match o with | .state _ => true | _ => false)

/-- Confirmation begins: the record that makes the candidate current is written. -/
def trialConfirm (s : State) : State :=
  if ustate s = 5 && trialOk s && !recBusy s then
    flashPush s (.state (nextRec s s.upd.running none 0 (slotSvn s 0) (slotSvn s 1)))
  else s

/-- UPD_STAT and UPD_BUILD show the current slot. -/
def curShow (s : State) : State :=
  let s := setF s F.UPD_STAT_CURSVN (slotSvn s (curSlot s))
  setF s F.UPD_BUILD_BUILD (manBuild (slotManifest s (curSlot s)))

/-- The fused security version follows the SVN of CUR (R579, R580). -/
def fuseSvn (s : State) : State := { s with sec := { s.sec with svn := max s.sec.svn (getF s F.UPD_STAT_CURSVN) } }

/-- The candidate is confirmed: it is current, its SVN is fused, and the old slot is the next staging slot. -/
def confirmed (s : State) : State :=
  let s := setF s F.UPD_STAT_CUR s.upd.running
  let s := fuseSvn (curShow { s with upd := { s.upd with trial := false, confirm := false, pkg := none } })
  updShow (setUstate (setF (setF s F.UPD_STAT_CONFIRMED 1) F.UPD_STAT_TRIES 0) 0)

/-- The window of R579 ends with the trial not confirmed: the unit restarts. -/
def confirmExpiry (s : State) : State :=
  match s.upd.readyAt with
  | some t =>
    if ustate s = 5 ∧ t + getF s F.UPD_CFG_CONFS * 1000000000 ≤ upNs s ∧ recBusy s = false then warmRequest s F.GLB_RSTCAUSE_WARMSW else s
  | none => s

/-- A host confirmation (R579). -/
def hostConfirm (s : State) : State := { s with upd := { s.upd with confirm := true } }

/-! ### Flash operations finish (R570) -/

/-- Whoever waits for a parcel learns the code. -/
def parcelEnd (s : State) (who : PFrom) (c : Status) : State :=
  match who with
  | .letter l => parcelReply s l c
  | .stage it last =>
    if c ≠ .ok then
      let mine (o : FlashOp) : Bool := match o with | .parcel _ _ (.stage x _) => x == it | _ => false
      updDone { s with upd := { s.upd with ops := s.upd.ops.filter (fun o => !mine o) } } it c (pkgHeld s).length 0xFF
    else match last with
      | some x => updDone s it x (pkgHeld s).length 0xFF
      | none => s

/-- What the finished operation does; `ok` says that a parcel read back correctly, or a sector erased. -/
def flashEffect (s : State) (o : FlashOp) (ok : Bool) : State :=
  match o with
  | .erase k => if ok then sectorErased s k else s
  | .parcel k data who =>
    match s.upd.pkg with
    | none => parcelEnd s who .wrongState
    | some p =>
      if p.held.contains k then parcelEnd s who .ok
      else if ok then
        let s := flashWr s (stagingSlot s) (4096 * k) data
        let s := updShow { s with upd := { s.upd with pkg := some { p with held := p.held ++ [k] } } }
        pkgFull (parcelEnd s who .ok)
      else
        let s := { s with upd := { s.upd with pkg := some { p with erased := p.erased.filter (· != k / 16) } } }
        parcelEnd (markMissing s (fun j => j / 16 == k / 16)) who .busError
  | .newMaps => { s with upd := { s.upd with maps := (s.upd.maps + 1) % 4 } }
  | .mapErase => s
  | .state r =>
    let s := recWrite s r
    if r.cand.isSome then warmRequest s F.GLB_RSTCAUSE_WARMSW else confirmed s
  | .journal r => { s with upd := { s.upd with journal := s.upd.journal ++ [r] } }
  | .calset => { s with upd := { s.upd with calset := some (s.cal.sets, s.cal.slots) } }
  | .sessions => { s with upd := { s.upd with sessions := s.sec.reserved } }

/-- The operation in progress finishes and the next one starts. -/
def flashDone (s : State) (ok : Bool) : State :=
  match s.upd.ops with
  | o :: _ => flashEffect (flashNext s) o ok
  | [] => s

/-- The operation in progress may finish before a reset or shut-down, but an erase is suspended and counts as not done (R565);
the operations behind it do not start. -/
def flashSettle (s : State) : State :=
  let s := match s.upd.ops with
    | .erase _ :: _ => s
    | o :: _ => flashEffect { s with upd := { s.upd with ops := [] } } o true
    | [] => s
  setF { s with upd := { s.upd with ops := [] } } F.NVM_STAT_BUSY 0

/-- Operations cut off (R513, R581): what was being written does not count. -/
def flashCut (s : State) : State := setF { s with upd := { s.upd with ops := [] } } F.NVM_STAT_BUSY 0

/-! ### The journal and the end of an orderly shut-down (R511, R513) -/

/-- A journal record of now. -/
def journalRec (s : State) (cause sensor reading : Nat) : JRec :=
  ⟨match s.upd.journal.getLast? with | some r => (r.seq + 1) % 2 ^ 32 | none => 0, cause, sensor, reading, getF s F.THM_STAT_BAND,
   getF s F.THM_STAT_STEP, timeNs s, s.wraps, currentFrame s, (s.word R.GLB_RSTCAUSE).toNat⟩

/-- Write a journal record. -/
def journalWrite (s : State) (r : JRec) : State :=
  flashOut { s with upd := { s.upd with journal := s.upd.journal ++ [r] } } (.journal r)

/-- The shut-down goes on to its end: the flash operation in progress finishes, the record is written, DRAM enters self-refresh and
the unit is OFF. -/
def orderlyShutdown (s : State) : State :=
  match s.thm.shut with
  | some cause =>
    if power s = 4 then s
    else
      let s := flashSettle s
      let k := hottest s
      let s := journalWrite s (journalRec s (cause - 1) k (getF s (tempFld k)))
      let s := (drcChannels s).foldl selfRefEntry s
      let s := raise (setF s F.THM_PWR_NOW 4) 0x1405 [4#8]
      powerShow (setF s F.HIF_LINKSTAT_UP 0)
  | none => s

/-! ### Entries (R582) -/

/-- Reserved fields of an UPD entry. -/
def updReserved (e : Bytes) : Bool :=
  let op := byteAt e 0
  let z (a n : Nat) : Bool := allZero (slice e a n)
  let count := leAt e 10 2 != 0
  !trailerBad e && z 12 4 && z 24 8 &&
  (if op = 0x60 then z 1 3 && count
   else if op = 0x61 then bits (byteAt e 1) 4 4 == 0 && !badPostcode (leAt e 2 2) && count
   else if op = 0x62 then bits (byteAt e 1) 1 7 == 0 && z 2 2 && z 8 4 && z 16 8
   else if op = 0x65 then z 2 6 && z 10 2
   else z 1 11 && z 16 8)

/-- The data area of an entry whose offset must be a multiple of 4,096. -/
def updArea (s : State) (e : Bytes) (n : Nat) : Status :=
  if leAt e 16 8 % 4096 ≠ 0 then .align else areaCheck s (leAt e 8 2) (leAt e 16 8) n

/-- Read that area. -/
def updFetch (s : State) (e : Bytes) (n : Nat) (host : HostRes) : Except Status Bytes × State :=
  match updArea s e n with
  | .ok => areaFetch s (leAt e 8 2) (leAt e 16 8) n host
  | c => (.error c, s)

/-- Does an entry whose data are `4096 * COUNT` bytes wait for Bus Master Enable (R97)? -/
def updWaits (s : State) (it : Item) : Bool :=
  let e := it.entry
  let n := 4096 * leAt e 10 2
  updReserved e && updArea s e n == .ok && areaShut s (leAt e 8 2) (leAt e 16 8) n

/-- STAGE. -/
def stageEntry (s : State) (it : Item) (host : HostRes) : State :=
  let e := it.entry
  if !updReserved e then updDone s it .illegalValue (pkgHeld s).length 0xFF
  else
    let (r, s) := updFetch s e (4096 * leAt e 10 2) host
    match r with
    | .error c => updDone s it c (pkgHeld s).length 0xFF
    | .ok b => stageApply s it b

/-- ACTIVATE: the entry completes at the activation instant. -/
def activateEntry (s : State) (it : Item) : State :=
  if !updReserved it.entry then updDone s it .illegalValue 0 0xFF
  else if !armable s then updDone s it .wrongState 0 0xFF
  else armSet s (leAt it.entry 4 4) ((byteAt it.entry 1).testBit 0) (some it)

/-- CONFIRM. -/
def confirmEntry (s : State) (it : Item) : State :=
  if !updReserved it.entry then updDone s it .illegalValue 0 0xFF
  else if ustate s ≠ 5 then updDone s it .wrongState 0 0xFF
  else updDone (hostConfirm s) it .ok (slotSvn s s.upd.running) 0xFF

/-- ABANDON. -/
def abandonEntry (s : State) (it : Item) : State :=
  if !updReserved it.entry then updDone s it .illegalValue 0 0xFF
  else
    let (c, s) := abandon s
    updDone s it c 0 0xFF

/-- HOSTIMG: a part of the running slot is copied into a surface and measured into M5. -/
def hostimgEntry (s : State) (it : Item) : State :=
  let e := it.entry
  let m := slotManifest s s.upd.running
  if !updReserved e then updDone s it .illegalValue 0 0xFF
  else
    match (partsOf m 6)[byteAt e 1]? with
    | none =>
      match updArea s e 0 with
      | .ok => updDone s it .range 0 0xFF
      | c => updDone s it c 0 0xFF
    | some i =>
      let b := partBody s s.upd.running m i
      match updArea s e b.length with
      | .ok => updDone (measExtend (svcWrite s (areaAddr s (leAt e 8 2) (leAt e 16 8)) b) 5 (sha b)) it .ok b.length 0xFF
      | c => updDone s it c 0 0xFF

/-! ### PUSH (R582, R593) -/

def pushSet (s : State) (x : Push) : State :=
  { s with upd := { s.upd with pushes := s.upd.pushes.map (fun y => if y.item = x.item then x else y) } }

/-- A PUSH ends. -/
def pushEnd (s : State) (x : Push) (c : Status) : State :=
  updDone { s with upd := { s.upd with pushes := s.upd.pushes.filter (fun y => y.item != x.item) } } x.item c x.sent x.rcode

/-- Ports of a PUSH: those it names that are UP, and for a unicast address the port of its chain. -/
def pushPorts (s : State) (x : Push) : List Nat :=
  let a := leAt x.item.entry 2 2
  (livePorts s).filter (fun p => (byteAt x.item.entry 1).testBit p && (isBroadcast a || chainPort s a == some p))

/-- The cap of UPD_TXCFG lets a parcel leave on a port: when it next does. -/
def pushAt (s : State) (p : Nat) : Nat := tget 0 s.upd.txAt p

/-- A letter of a PUSH, sealed under SEALLET where a key exists. -/
def pushLetter (s : State) (x : Push) (content : Bytes) (query : Bool) : State :=
  let a := leAt x.item.entry 2 2
  let (lid, s) := newLid s
  let s := sendLetter s (pushPorts s x) a 0x0A lid (isSet s F.CHN_CFG_SEALLET && canSeal s a) false content
  if isBroadcast a then s else pushSet s { x with wait := some (lid, query) }

/-- Content of a QUERY and of a DATA letter. -/
def queryContent (id : Bytes) (k : Nat) : Bytes := [2#8, 0#8, 0#8, 0#8] ++ id ++ beBytes 4 k ++ zeros 8
def dataContent (id : Bytes) (k : Nat) (d : Bytes) : Bytes := [1#8, 0#8, 0#8, 0#8] ++ id ++ beBytes 4 k ++ beBytes 4 (crc32 d) ++ zeros 4 ++ d

/-- A PUSH goes on as far as it can: the next parcel leaves where the cap allows it and no reply is awaited; a unicast PUSH asks
about 1,024 parcels at a time. `fuel` bounds the parcels sent at once. -/
def pushGo : Nat → State → Push → State
  | 0, s, _ => s
  | fuel + 1, s, x =>
    let e := x.item.entry
    let first := leAt e 4 4
    let stop := first + leAt e 10 2
    let uni := !isBroadcast (leAt e 2 2)
    if x.wait.isSome then s
    else
      match x.left with
      | k :: rest =>
        let ps := pushPorts s x
        if ps.any (fun p => upNs s < pushAt s p) then s
        else
          let d := fit 4096 (x.data.drop (4096 * (k - first)))
          let rate := getF s F.UPD_TXCFG_RATE
          let gap := if rate = 0 then 0 else 4000000000 / rate
          let s := { s with upd := { s.upd with txAt := ps.foldl (fun t p => tset 0 t p (max (tget 0 t p) (upNs s) + gap)) s.upd.txAt } }
          let x := { x with left := rest, sent := x.sent + 1 }
          let s := pushLetter (pushSet s x) x (dataContent x.id k d) false
          if uni then s else pushGo fuel s x
      | [] =>
        if uni ∧ x.next < stop then
          let s := pushSet s { x with next := x.next + 1024 }
          pushLetter s { x with next := x.next + 1024 } (queryContent x.id x.next) true
        else pushEnd s x .ok

/-- Every PUSH goes on. -/
def pushPump (s : State) : State := s.upd.pushes.foldl (fun s x => if x.wait.isSome then s else pushGo (x.left.length + 2) s x) s

/-- A PUSH entry. The letters carry the PKGID of the manifest where the range begins with parcel 0; otherwise the spec does not say
which, and it is a free value. DESIGN CHOICE (log entry 103). -/
def pushEntry (s : State) (it : Item) (host : HostRes) : State :=
  let e := it.entry
  if !updReserved e then updDone s it .illegalValue 0 0xFF
  else if !isSender s then updDone s it .notPermitted 0 0xFF
  else
    let (r, s) := updFetch s e (4096 * leAt e 10 2) host
    match r with
    | .error c => updDone s it c 0 0xFF
    | .ok b =>
      let first := leAt e 4 4
      let (r, s) := drawBytes s 16
      let id := if first = 0 then pkgId (fit 4096 b) else r
      let bc := isBroadcast (leAt e 2 2)
      let left := if bc then (List.range (leAt e 10 2)).map (first + ·) else []
      let x : Push := ⟨it, b, id, first, left, 0, 0xFF, none⟩
      pushGo (left.length + 2) { s with upd := { s.upd with pushes := s.upd.pushes ++ [x] } } x

/-- The reply to a letter of a PUSH: a code other than OK ends it; a QUERY names the parcels that are missing. -/
def pushReply (s : State) (x : Push) (c : Bytes) (query : Bool) : State :=
  let code := byteAt c 0
  let x := { x with wait := none, rcode := code }
  if code ≠ 0 then pushEnd (pushSet s x) x (statusOf code)
  else
    let base := x.next - 1024
    let stop := leAt x.item.entry 4 4 + leAt x.item.entry 10 2
    let miss := (List.range 1024).filter (fun i => decide (base + i < stop) && !(byteAt c (40 + i / 8)).testBit (7 - i % 8))
    let x := if query then { x with left := miss.map (base + ·) } else x
    pushGo (x.left.length + 2) (pushSet s x) x

/-- The oldest letter that a PUSH awaits is taken; a reply whose seal fails is dropped. -/
def pushReplyStep (s : State) : State :=
  match takeLetter s (fun l => isReply s l && s.upd.pushes.any (pushAwaits l)) with
  | some (l, s1) =>
    match s1.upd.pushes.find? (pushAwaits l), openReply s1 l with
    | some x, some (p, s2) => pushReply s2 x p (x.wait.any Prod.snd)
    | _, _ => s1
  | none => s

/-! ### Recovery (R583) -/

/-- An erased byte of the recovery window: on-die SRAM starts at 0 (R78). -/
def recovFill : Byte := 0#8

/-- UPD_RECOV.GO in FAIL: ROM checks the image in the window, and goes on at the DRAM stage with it. -/
def recoveryGo (s : State) : State :=
  let b := rdBytes recovFill s.upd.recov 0 (getF s F.UPD_RECOV_LEN)
  if stage s ≠ 9 then s
  else if !imageOk 1 b then setF s F.UPD_RECOV_CODE Status.integrity.code
  else if imageSvn b < s.sec.svn then setF s F.UPD_RECOV_CODE Status.version.code
  else
    let s := setF (measExtend s 1 (sha b)) F.UPD_RECOV_CODE 0
    setF (setF s F.UPD_STAT_RECOVERY 1) F.GLB_BOOTSTAT_STAGE 4

/-! ### The commands -/

/-- UPD works: it has no block reset (R80). -/
def whenUpd (s : State) (f : State → State) : Result := whenOn 0x17 s f

/-- Is this letter a PARCEL with operation `op`? An operation no other command takes is refused as DATA is. -/
def isParcel (op : Nat) (l : Letter) : Bool :=
  l.ltype == 0x0A && !l.orig && (byteAt l.content 0 == op || (op == 1 && !([2, 3, 4].contains (byteAt l.content 0))))

/-- Serve the oldest PARCEL letter of an operation, on a tile. -/
def onParcel (s : State) (op : Nat) (f : State → Letter → State) : State :=
  if isTile s then (match takeLetter s (isParcel op) with | some (l, s) => f s l | none => s) else s

/-- PARCEL_DATA (R573). -/
def execParcelData (s : State) : Result := whenUpd s (fun s => onParcel s 1 parcelData)

/-- PARCEL_QUERY (R574). -/
def execParcelQuery (s : State) : Result := whenUpd s (fun s => onParcel s 2 parcelQuery)

/-- PARCEL_ARM (R576). -/
def execParcelArm (s : State) : Result := whenUpd s (fun s => onParcel s 3 parcelArm)

/-- PARCEL_ABANDON (R574). -/
def execParcelAbandon (s : State) : Result := whenUpd s (fun s => onParcel s 4 parcelAbandon)

/-- STAGE_ENTRY (R582); `host` answers reads of host-backed pages. -/
def execStageEntry (host : HostRes) (s : State) : Result := whenUpd s (fun s => onEntryRead s 0x60 updWaits (fun s it => stageEntry s it host))

/-- PUSH_ENTRY (R582). -/
def execPushEntry (host : HostRes) (s : State) : Result := whenUpd s (fun s => onEntryRead s 0x61 (fun s it => isSender s && updWaits s it) (fun s it => pushEntry s it host))

/-- PUSH_REPLY (R582). -/
def execPushReply (s : State) : Result := whenUpd s (fun s => if isSender s then pushReplyStep s else s)

/-- ACTIVATE_ENTRY (R576). -/
def execActivateEntry (s : State) : Result := whenUpd s (fun s => onEntry s 0x62 activateEntry)

/-- CONFIRM_ENTRY (R579). -/
def execConfirmEntry (s : State) : Result := whenUpd s (fun s => onEntry s 0x63 confirmEntry)

/-- ABANDON_ENTRY (R574). -/
def execAbandonEntry (s : State) : Result := whenUpd s (fun s => onEntry s 0x64 abandonEntry)

/-- HOSTIMG_ENTRY (R582). -/
def execHostimgEntry (s : State) : Result := whenUpd s (fun s => onEntry s 0x65 hostimgEntry)

/-- VERIFY_DONE (R575). -/
def execVerifyDone (s : State) : Result := whenUpd s (fun s => if isReady s then verifyStep s else s)

/-- ACTIVATION_INSTANT (R577). -/
def execActivationInstant (dt : Nat) (s : State) : Result := whenUpd (advance dt s) activationStep

/-- TRIAL_CONFIRM (R579). -/
def execTrialConfirm (s : State) : Result := whenUpd s trialConfirm

/-- CONFIRM_WINDOW_EXPIRY (R579). -/
def execConfirmWindowExpiry (dt : Nat) (s : State) : Result := whenUpd (advance dt s) confirmExpiry

/-- FLASH_OPERATION_DONE (R570): `ok` says that a parcel read back correctly. -/
def execFlashOperationDone (ok : Bool) (s : State) : Result := whenUpd s (fun s => flashDone s ok)

/-- ORDERLY_SHUTDOWN (R511). -/
def execOrderlyShutdown (s : State) : Result := whenOn 0x14 s orderlyShutdown

end Sys2Proof.Machine
end

