-- ==== Sys2Proof/Machine/Boot.lean ====
section
/-! DEFINITION. Supplies, resets, boot and the UCIe link: rails and the hardware trip (R43 to R51, R512), the reference clock and
the PLLs (R72 to R75), cold and warm reset (R76 to R83), the boot stages (R84 to R89), the link (R86, R92 to R95), and the PCIe
function (R96 to R99). -/

namespace Sys2Proof.Machine

/-! ### What a reset leaves (R76, R78, R83) -/

/-- Copy a field of an earlier state. -/
def keepF (old s : State) (f : Fld) : State := setF s f (getF old f)

/-- Everything at reset, but fuses, flash, the AON domain and the world outside. -/
def resetCore (s : State) : State :=
  { State.reset with
    boot := { State.reset.boot with
      pwronLow := s.boot.pwronLow, railHold := s.boot.railHold, tripHold := s.boot.tripHold, tripCycled := s.boot.tripCycled,
      railRec := s.boot.railRec, low := s.boot.low, gone := s.boot.gone }
    sec := { State.reset.sec with
      life := s.sec.life, idkey := s.sec.idkey, svn := s.sec.svn, owner := s.sec.owner, ownTries := s.sec.ownTries }
    upd := { State.reset.upd with
      pkg := s.upd.pkg, recs := s.upd.recs, journal := s.upd.journal, calset := s.upd.calset, sessions := s.upd.sessions,
      flash := s.upd.flash, maps := s.upd.maps, aonTries := s.upd.aonTries, aonFailed := s.upd.aonFailed }
    up := s.up, out := s.out, free := s.free, pending := s.pending }

/-- Fields of the AON domain: they survive every reset. -/
def aonFields : List Fld :=
  [⟨R.GLB_RSTCAUSE, 0, 32⟩, ⟨R.THM_TRIP, 0, 32⟩, F.CLK_LOCK_REFOK]

/-- Fields that a warm reset leaves: the strap, and what counts since cold reset or, as FAILCODE (R88), since t0.
DESIGN CHOICE (log entry 8). -/
def warmFields : List Fld :=
  [F.GLB_ROLE_STRAP, F.GLB_ROLE_UCIRETRY, F.GLB_BOOTSTAT_FAILCODE, F.HIF_LINKSTAT_DOWNCNT, ⟨R.GLB_YIELDLAST, 0, 32⟩, ⟨R.GLB_YIELDFRM, 0, 32⟩,
   F.SOR_GSTAT_PREEMPTS, F.FRT_MSTAT_MGEN, F.LNK_TIMING_SWITCHES, F.TIM_STAT_STEPS, F.TAN_STAT_TAKEOVERS, F.TAN_TSTAT_SWITCHES,
   F.DRC_CFG_ENMASK]

/-- Pads in their Reset states: lamps, scan and spokes off, chain transmitters idle (R49). -/
def padsOff (s : State) : State :=
  (List.range 4).foldl (fun s p => if pState s p = pOff then s else emit s (.idleTx p)) (displayOff s)

/-- Cold reset is asserted: any flash operation is cut off, everything but fuses, flash and the AON domain is lost. Lost DRAM reads as
memory that nothing has written. DESIGN CHOICE (log entry 3). -/
def coldReset (s : State) : State :=
  let s := padsOff (flashCut s)
  aonFields.foldl (keepF s) (resetCore s)

/-- What a warm reset keeps of `s` in the state `r` that it leaves: the channels trained, DRAM if any is, the DRAM slots and the
records of the chain ports. -/
def warmKeep (s r : State) : State :=
  { r with
    boot := { r.boot with warm := .asserted, trained := s.boot.trained }
    dram := if s.boot.trained = 0 then [] else s.dram
    drc := { r.drc with poison := if s.boot.trained = 0 then [] else s.drc.poison }
    cal := { r.cal with slots := s.cal.slots, use := s.cal.use }
    lnk := { r.lnk with nonce := s.lnk.nonce, ports := portsKept s } }

/-- Warm reset is asserted: the flash operation in progress finishes, trained channels enter self-refresh and keep their content. -/
def warmAssert (s : State) : State :=
  let s := padsOff ((drcChannels s).foldl selfRefEntry (issueAllWrites (flashSettle s)))
  warmKeep s ((aonFields ++ warmFields).foldl (keepF s) (resetCore s))

/-- Boot starts at the PLL stage; strap value 0b11 is strap fault hold from here on (R19); a tile's cadence generator is
reserved (R377). -/
def bootStart (s : State) (warm : Bool) : State :=
  let s := setF { s with boot := { s.boot with warmBoot := warm } } F.GLB_BOOTSTAT_WARMBOOT (b2n warm)
  let s := if strapFault s then setF s F.GLB_ROLE_HOLD 1 else s
  if isTile s then setF s (F.TIM_PGCFG_OWNED 15) 1 else s

/-! ### Rails, trip and reset pins -/

/-- Rails named by a mask of GLB_RAILSTAT, but for VDD_UCI. -/
def faultRails (mask : Nat) : List Nat := (List.range 10).filter (fun k => k != 5 && mask.testBit k)

/-- Rails are below their fault threshold from now on (R47, R49). -/
def railsGone (s : State) (l : List Nat) : State :=
  { s with boot := { s.boot with low := (s.boot.low ++ l).dedup, gone := (s.boot.gone ++ l).dedup } }

/-- A rail fault (R44): recorded, and cold reset holds; that of VDD_UCI holds none. -/
def railFault (s : State) (mask : Nat) : State :=
  let s := railsGone s ((List.range 10).filter (fun k => mask.testBit k))
  match faultRails mask with
  | [] => s
  | k :: _ =>
    let s := if isSet s F.GLB_RSTCAUSE_RAIL then s else setF (setF s F.GLB_RSTCAUSE_RAIL 1) F.GLB_RSTCAUSE_RAILNUM k
    coldReset { s with boot := { s.boot with railHold := true, railRec := true } }

/-- A rail crosses its warn threshold: below it, its DIP bit is set and the event raised (R45); back above it, its NOW bit follows
(R47). A rail that is below already has no falling crossing, and a crossing in reset sets no bit and raises no event. DESIGN CHOICE
(log entry 10). -/
def railWarn (s : State) (k : Nat) (below : Bool) : State :=
  if !below then { s with boot := { s.boot with low := s.boot.low.filter (fun j => j != k), gone := s.boot.gone.filter (fun j => j != k) } }
  else if s.boot.low.contains k then s
  else
    let s := { s with boot := { s.boot with low := s.boot.low ++ [k] } }
    if inReset s then s else raise (setBitF s F.GLB_RAILSTAT_DIP k true) 0x0003 [byte k]

/-- VDD_AON is applied: what the AON domain held is lost (R43). -/
def aonApply (s : State) : State :=
  let s := (s.setWord R.THM_TRIP (resetWord R.THM_TRIP)).setWord R.GLB_RSTCAUSE (resetWord R.GLB_RSTCAUSE)
  { s with boot := { s.boot with tripHold := false, railRec := false }, upd := { s.upd with aonTries := 0, aonFailed := none } }

/-- A trip comparator of an included sensor fires (R512); a set latch keeps its sensor. -/
def hardwareTrip (s : State) (k : Nat) : State :=
  if 12 ≤ k ∨ !thmIncluded s k then s
  else
    let s := if isSet s F.THM_TRIP_LATCH then s else setF (setF s F.THM_TRIP_LATCH 1) F.THM_TRIP_SENSOR k
    let s := setF s F.GLB_RSTCAUSE_TRIP 1
    coldReset { s with boot := { s.boot with tripHold := true, tripCycled := false } }

/-- PWRON_RST_N goes low (R76). -/
def pwronAssert (s : State) : State :=
  coldReset (setF { s with boot := { s.boot with pwronLow := true, tripCycled := s.boot.tripHold } } F.GLB_RSTCAUSE_PWRON 1)

/-- t0 (R76, R77): the strap is sampled, the NONCE of the chain ports is drawn (R280), and boot starts. Every rail but VDD_UCI is
back above its warn threshold; `uci` says whether VDD_UCI is. PWRON_RST_N that held until now is a cause (R83).
DEDUCED (log entry 9). DESIGN CHOICE (log entry 118). -/
def coldRelease (s : State) (sel : Nat) (uci : Bool) : State :=
  if !coldHeld s ∨ (s.boot.tripHold ∧ !s.boot.tripCycled) then s
  else
    let s := if s.boot.pwronLow then setF s F.GLB_RSTCAUSE_PWRON 1 else s
    let s := { s with boot := { s.boot with pwronLow := false, railHold := false, tripHold := false, tripCycled := false,
                                            low := if uci then [] else [5], gone := if uci then [] else s.boot.gone.filter (· == 5) } }
    let (n, s) := drawNat (setF s F.GLB_ROLE_STRAP sel)
    bootStart { s with lnk := { s.lnk with nonce := n % 65536 } } false

/-- Warm reset is released (R78). -/
def warmRelease (s : State) : State := bootStart { s with boot := { s.boot with warm := .none } } true

/-- TRIP_N: low while the trip latch is set (R512). -/
def tripN (s : State) : Bool := !isSet s F.THM_TRIP_LATCH

/-! ### Reference clock and PLLs -/

/-- REF_CLK is lost (R72): after the PLLs have locked they enter holdover (R73). Of a clearing write and a loss in one CORE cycle (R75) the
write stands first in the queue. DESIGN CHOICE (log entry 119). -/
def refClkLoss (s : State) : State :=
  let s := setF s F.CLK_LOCK_REFOK 0
  if inReset s then s
  else
    let s := setF s F.CLK_LOCK_REFLOSS 1
    if isSet s F.CLK_LOCK_LOCK then raise (setF s F.CLK_LOCK_HOLDOVER 1) 0x0101 [] else s

/-- REF_CLK is good (R72, R73). -/
def refClkGood (s : State) : State := setF (setF s F.CLK_LOCK_REFOK 1) F.CLK_LOCK_HOLDOVER 0

/-- Is PLL `k` gated (R68)? -/
def pllGated (s : State) (k : Nat) : Bool :=
  if k = 3 then (List.range 4).all (portDormant s)
  else if k = 4 then dormant s 0x02
  else if k = 5 then (drcChannels s).isEmpty
  else if k = 7 then dormant s 0x12
  else false

/-- PLLs that are locked and not gated, as CLK_LOCK.LOCK reads (R74). DEDUCED (log entry 11). -/
def pllLock (s : State) : Nat :=
  ((List.range 8).map (fun k => if fbit s F.CLK_LOCK_LOCK k && !pllGated s k then 2 ^ k else 0)).sum

/-- A PLL that is not gated loses lock (R74). -/
def pllUnlock (s : State) (k : Nat) : State :=
  if inReset s ∨ 8 ≤ k ∨ pllGated s k ∨ !fbit s F.CLK_LOCK_LOCK k then s
  else setBitF (setBitF s F.CLK_LOCK_LOCK k false) F.CLK_LOCK_UNLOCK k true

/-! ### The UCIe link -/

/-- A training attempt starts, with the modules and the rate that HIF_LINKCFG allows now (R94). -/
def ucieStart (s : State) : State :=
  { s with boot := { s.boot with ucie := .attempt, modMask := getF s F.HIF_LINKCFG_MODMASK, maxRate := getF s F.HIF_LINKCFG_MAXRATE } }

/-- A training window opens (R86). -/
def ucieOpen (s : State) : State := ucieStart { s with boot := { s.boot with fails := 0 } }

def setBootStage (s : State) (k : Nat) : State := setF s F.GLB_BOOTSTAT_STAGE k

def failCode (s : State) (c : Status) : State := setF s F.GLB_BOOTSTAT_FAILCODE c.code

/-- The unit stops in FAIL; UCIe may still train (R87). -/
def bootFail (s : State) (c : Status) : State := ucieOpen (setBootStage (failCode s c) 9)

/-- The module set and rate that an attempt gives (R92), under the settings it started with: for modules 0 to 3, the rate each
reached, if it trained. -/
def linkResult (s : State) (mods : List (Option Nat)) : Option (Nat × Nat) :=
  let ok (k : Nat) : Bool := s.boot.modMask.testBit k && (mods.getD k none).isSome
  let set := [4, 2, 1].find? (fun n => (List.range n).all ok)
  set.map (fun n => (2 ^ n - 1,
    (List.range n).foldl (fun r k => min r ((mods.getD k none).getD 0)) s.boot.maxRate))

/-- Chain ports start from the flash configuration (R290): those it enables, or every one of `ports` where `all`.
DESIGN CHOICE (log entry 16). -/
def startPorts (s : State) (ports : List Nat) (all : Bool) : State :=
  let s := match s.boot.chainCfg with | some c => s.setWord R.LNK_CFG (BitVec.ofNat 32 (c.1 % 32)) | none => s
  ports.foldl (fun s p =>
    let w := match s.boot.chainCfg with | some c => c.2.getD p 0 | none => (resetWord (R.LNK_PCTL p)).toNat
    if all || w.testBit 0 then
      toDetect (setF (setF s (F.LNK_PCTL_PRESET p) (bits w 8 3)) (F.LNK_PCTL_EN p) 1) p
    else s) s

/-- READY (R84): a sender's ports start, the fused version follows CUR (R580), and the event is raised. `ms` is the time from t0. -/
def toReady (s : State) (ms : Nat) : State :=
  let s := setBootStage (setF (setF s F.GLB_ROLE_HOLD 0) F.GLB_BOOTSTAT_BOOTMS (min 0xFFFF ms)) 7
  let s := { s with upd := { s.upd with readyAt := some (upNs s) } }
  let s := if isSender s then startPorts s [0, 1, 2, 3] false else s
  raise (fuseSvn s) 0x0004 (beBytes 4 (s.word R.GLB_BOOTSTAT).toNat)

/-- Back-off after failed attempt `n` of a window (R86); after a link loss every later attempt is 1 s on (R93). -/
def ucieBackoff (n : Nat) : Nat := if n = 1 then 10000000 else if n = 2 then 20000000 else 1000000000

/-- An attempt ends without a link. DESIGN CHOICE (log entry 12). -/
def ucieFail (s : State) : State :=
  let n := s.boot.fails + 1
  let s := incSat s F.GLB_ROLE_UCIRETRY
  { s with boot := { s.boot with fails := n, due := upNs s + ucieBackoff n,
                                 ucie := if n < 3 ∨ s.boot.relink then .backoff else .closed } }

/-- An attempt ends with a link. -/
def ucieUp (s : State) (mods rate ms : Nat) : State :=
  let s := setF (setF (setF s F.HIF_LINKSTAT_UP 1) F.HIF_LINKSTAT_MODS mods) F.HIF_LINKSTAT_RATE rate
  let s := issueWaiting { s with boot := { s.boot with ucie := .closed, fails := 0, relink := false } }
  if (stage s = 6 ∨ stage s = 8) ∧ !strapFault s then toReady s ms else s

/-- An attempt ends: what each module reached, and whether the partner left again (R86, R92). -/
def ucieAttemptEnd (s : State) (mods : List (Option Nat)) (left : Bool) (ms : Nat) : State :=
  if s.boot.ucie ≠ .attempt then s
  else
    match (if left then none else linkResult s mods) with
    | some (m, r) => ucieUp s m r ms
    | none => ucieFail s

/-- The trained link goes: requests that wait or are outstanding end at their requesters, but vectors are kept (R93, R99). MODS and RATE
read 0 without a link. Of the queues in host memory those that are enabled and not yet in ERROR enter it: a DISABLED queue could never
leave it, and one in ERROR keeps its code. DESIGN CHOICE (log entry 13). DESIGN CHOICE (log entry 122). -/
def linkDown (s : State) : State :=
  let s := setF (setF (setF s F.HIF_LINKSTAT_UP 0) F.HIF_LINKSTAT_MODS 0) F.HIF_LINKSTAT_RATE 0
  let s := (List.range 4096).foldl (fun s q =>
    if qState s q ≠ qDisabled ∧ qState s q ≠ qError ∧ !qLocal s q then queueError s q .linkAbsent else s) s
  let s := srfLinkLoss (sorLinkLoss (dmaLinkLoss (lateLost s)))
  { s with hif := { s.hif with reads := [], timedOut := 0,
                               waiting := s.hif.waiting.filter (fun u => match u with | .vec _ => true | _ => false) } }

/-- The trained link is lost (R93). Before READY there is nothing to end; a unit that holds retries 1 s later.
DESIGN CHOICE (log entry 13). -/
def linkLoss (s : State) : State :=
  if !isSet s F.HIF_LINKSTAT_UP then s
  else if !isReady s then
    let s := setF (setF (setF s F.HIF_LINKSTAT_UP 0) F.HIF_LINKSTAT_MODS 0) F.HIF_LINKSTAT_RATE 0
    { s with boot := { s.boot with due := upNs s + 1000000000 } }
  else
    let s := incSat (linkDown s) F.HIF_LINKSTAT_DOWNCNT
    let s := raise s 0x0201 [byte (getF s F.HIF_LINKSTAT_DOWNCNT)]
    ucieOpen { s with boot := { s.boot with relink := true } }

/-- HIF_LINKCFG.RETRAIN (R94): the link drops and an attempt starts. With the link down already nothing drops: an attempt in progress
goes on, and a back-off ends at once. DESIGN CHOICE (log entry 125). -/
def linkRetrain (s : State) : State :=
  if isSet s F.HIF_LINKSTAT_UP then linkLoss s
  else if s.boot.ucie = .backoff then ucieStart s else s

/-- Vectors whose pending bit is set. -/
def pendingVecs (s : State) : List Nat :=
  s.regs.flatMap (fun e => if 0x38000 ≤ e.1 ∧ e.1 < 0x38100 then
    ((List.range 32).filter (fun k => e.2.toNat.testBit k)).map (fun k => 8 * (e.1 - 0x38000) + k) else [])

/-- Pending vectors that are no longer masked are sent, or wait for Bus Master Enable (R97, R99). -/
def sendPending (s : State) : State :=
  (pendingVecs s).foldl (fun s v =>
    if !vecOpen s v then s
    else if upOpen s then issueUp s (.vec v)
    else if s.hif.waiting.contains (.vec v) then s
    else { s with hif := { s.hif with waiting := s.hif.waiting ++ [.vec v] } }) s

/-- A request that waited may go; a channel that waited goes on (R97, R141). -/
def waitedGo (s : State) (u : Up) : State := match u with | .turn c => settle s c | u => upstream s u

/-- Everything that waits for Bus Master Enable goes, in its original order (R97). -/
def busOpen (s : State) : State :=
  s.hif.waiting.foldl waitedGo { s with hif := { s.hif with waiting := [] } }

/-- Time in which Bus Master Enable was 0 counts toward no timeout of a read outstanding (R97, R139). -/
def busTimers (s : State) : State :=
  match s.hif.shutAt with
  | some t => { s with hif := { s.hif with shutAt := none, reads := s.hif.reads.map (fun r => { r with due := r.due + (upNs s - t) }) } }
  | none => s

/-- The host writes the Command and Device Control registers of the function: Bus Master Enable (R97, R141), Max Payload Size and Max
Read Request Size; a size that R96 does not name is left as it was. DESIGN CHOICE (log entry 126). -/
def bmeChange (s : State) (b : Bool) (mps mrrs : Nat) : State :=
  let s := { s with hif := { s.hif with
      mps := if [128, 256, 512].contains mps then mps else s.hif.mps
      mrrs := if [128, 256, 512, 1024, 2048, 4096].contains mrrs then mrrs else s.hif.mrrs
      shutAt := if b then s.hif.shutAt else s.hif.shutAt.orElse (fun _ => if isSet s F.HIF_LINKSTAT_BME then some (upNs s) else none) } }
  let s := setF s F.HIF_LINKSTAT_BME (b2n b)
  if b then dmaPumpAll (retireLate (busOpen (busTimers s))) else s

/-- MSI-X unmasked (R99): one vector's mask bit, or Message Control rewritten. -/
def msixUnmask (s : State) (u : Unmask) : State :=
  match u with
  | .vector v =>
    if 2048 ≤ v then s
    else sendPending (setMsixWord s (msixOff v + 12) (BitVec.ofNat 32 (putBit (msixWord s (msixOff v + 12)).toNat 0 false)))
  | .control e m => sendPending { s with hif := { s.hif with msixEnable := e, funcMask := m } }

/-! ### Boot stages (R84) -/

/-- ROM_STAGE_DONE: M0 is extended (R544). -/
def romDone (s : State) : State :=
  let d := sha ([byte s.sec.life, byte s.sec.svn] ++ fit 64 (s.sec.owner.getD []) ++ fit 4 Config.romVersion)
  setBootStage (measExtend s 0 d) 3

/-- Is the content of the flash known yet? -/
def flashKnown (s : State) : Bool := !(s.upd.recs.isEmpty && s.upd.flash.isEmpty)

/-- The content of a flash that is not known yet, as FIRST finds it. -/
def flashFound (s : State) (o : FirstObs) : State :=
  { s with upd := { s.upd with recs := o.recs, flash := o.content.foldl (fun m e => wrBytes flashFill m e.1 e.2) [] } }

/-- The first state of a flash: what FIRST finds in it. DESIGN CHOICE (log entry 15). -/
def flashLearn (s : State) (o : FirstObs) : State :=
  let s := setF (setF s F.NVM_STAT_NDEV o.ndev) F.NVM_STAT_SIZEMIB4 o.size4
  if flashKnown s then s else flashFound s o

/-- Does a slot fail: its parts, the mark of a firmware failure, or its security version (R578)?
DESIGN CHOICE (log entry 14). -/
def slotResult (s : State) (o : FirstObs) (k : Nat) : Status :=
  let r := if k = 0 then o.resA else o.resB
  if r = .version then .version
  else if r ≠ .ok ∨ s.upd.aonFailed = some k then .integrity
  else if slotSvn s k < s.sec.svn then .version
  else .ok

/-- A slot's FIRST image runs: M1 is extended with it, and UPD shows the state of the flash (R569, R570). -/
def bootSlot (s : State) (k : Nat) (trial : Bool) : State :=
  let m := slotManifest s k
  let img := ((partsOf m 1).head?).elim [] (partBytes s k m)
  let s := measExtend s 1 (sha img)
  let s := curShow (setF (setF s F.GLB_BOOTSTAT_SLOT k) F.UPD_STAT_TRIES (if trial then candTries s else 0))
  let s := updShow { s with upd := { s.upd with running := k, trial := trial } }
  let u := if trial then 5 else if s.upd.pkg.isNone then 0 else if (pkgNeed s).length = (pkgHeld s).length then 2 else 1
  setBootStage (setUstate s u) 4

/-- The record written while booting, shown at the pads of the flash. -/
def bootRec (s : State) (r : SlotRec) : State := flashOut (recWrite s r) (.state r)

/-- The candidate is given up. -/
def candGiveUp (s : State) (cur : Nat) (c : Status) : State :=
  lastCode (bootRec s (nextRec s cur none 0 (slotSvn s 0) (slotSvn s 1))) c

/-- The current slot boots; `other` says whether the other slot may be tried after it (R84, R87). -/
def bootCurrent (s : State) (o : FirstObs) (cur : Nat) (other : Bool) : State :=
  match slotResult s o cur with
  | .ok => bootSlot s cur false
  | c =>
    let s := failCode s c
    if other ∧ slotResult s o (1 - cur) = .ok then bootSlot s (1 - cur) false
    else bootFail s (if other ∧ slotResult s o (1 - cur) ≠ .ok then slotResult s o (1 - cur) else c)

/-- FIRST_STAGE_DONE (R563, R578). -/
def firstDone (s : State) (o : FirstObs) : State :=
  if !o.layout then bootFail s .integrity
  else
    let s := flashLearn s o
    match newestRec s with
    | none => bootCurrent s o 0 true
    | some r =>
      let cur := r.cur % 2
      let s := setF s F.UPD_STAT_CUR cur
      match r.cand with
      | none => bootCurrent s o cur true
      | some k =>
        let n := candTries s
        if n < 3 then
          let s := bootRec s { nextRec s cur (some k) (n + 1) r.svnA r.svnB with tries := n + 1 }
          let s := { s with upd := { s.upd with aonTries := n + 1 } }
          match slotResult s o k with
          | .ok => bootSlot s k true
          | c => bootCurrent (candGiveUp (failCode s c) cur c) o cur false
        else bootCurrent (setF (candGiveUp s cur .timeout) F.UPD_STAT_FALLBACK 1) o cur false

/-- DRAM_STAGE_DONE (R481, R487 to R489, R528): the configuration, the rates of the set-points, and what training found. -/
def dramDone (s : State) (l : List DramCh) (rates : Nat × Nat × Nat) : State :=
  let warm := s.boot.warmBoot && s.boot.trained != 0
  let (c, s) := dramStage (setF (setF s F.DRC_CFG_ENMASK 0) F.DRC_CAP_PAGES 0) l rates warm
  let s := (drcChannels s).foldl (fun s k =>
    match l[k]? with
    | some d => retrackChan (if warm ∧ !d.lost then s else calTrain s k (d.trains (setPoints rates))) k
    | none => s) s
  setBootStage (match c with | some c => failCode s c | none => s) 5

/-- The records of a trip and of a rail fault, written at the next boot (R512, R513). -/
def faultRecords (s : State) : State :=
  let s :=
    if isSet s F.THM_TRIP_LATCH then
      let k := getF s F.THM_TRIP_SENSOR
      (journalWrite s (journalRec s 2 k (getF s (tempFld k)))).setWord R.THM_TRIP (resetWord R.THM_TRIP)
    else s
  if s.boot.railRec then journalWrite { s with boot := { s.boot with railRec := false } } (journalRec s 3 0 0) else s

/-- The calibration sets saved in flash come into use (R531); what this boot has trained stays. -/
def calLoad (s : State) : State :=
  match s.upd.calset with
  | some (sets, slots) =>
    let has (e : DSlot) : Bool := s.cal.slots.any (fun d => d.chan == e.chan && d.lane == e.lane && d.fsp == e.fsp && d.slot == e.slot)
    { s with cal := { s.cal with sets := sets, slots := slots.filter (fun e => !has e) ++ s.cal.slots } }
  | none => s

/-- The firmware of the running slot fails (R578): the other slot is tried after a warm reset, if it has not failed too. -/
def firmwareFail (s : State) (c : Status) : State :=
  let c := if c = .version then .version else .integrity
  let k := s.upd.running
  if isSet s F.UPD_STAT_RECOVERY ∨ s.upd.aonFailed.any (fun j => j != k) then bootFail s c
  else
    let s := failCode s c
    warmRequest { s with upd := { s.upd with aonFailed := some k } } F.GLB_RSTCAUSE_WARMSW

/-- FIRMWARE_STAGE_DONE: the parts of the running slot are measured (R544): firmware into M2, configuration and spoke-driver configuration
into M3, calibration sets into M4. -/
def firmwareDone (s : State) (o : FwObs) : State :=
  if o.res ≠ .ok then firmwareFail s o.res
  else
    let ext (i : Nat) (l : List Bytes) (s : State) : State := l.foldl (fun s d => measExtend s i d) s
    let parts (ts : List Nat) : List Bytes := partDigests s s.upd.running ts
    let s := ext 4 (parts [5] ++ o.cal) (ext 3 (parts [3, 4]) (ext 2 (parts [2]) (calLoad (faultRecords s))))
    let s := match o.link with | some w => s.setWord R.HIF_LINKCFG (BitVec.ofNat 32 (w % 128)) | none => s
    let s := { s with boot := { s.boot with chainCfg := o.chain }, hif := { s.hif with subsys := o.subsys },
                      sec := { s.sec with counter := s.upd.sessions, reserved := s.upd.sessions } }
    let s := if isTile s then startPorts s [0, 1] true else s
    ucieOpen (setBootStage s 6)

/-! ### Status LEDs (R89) -/

inductive Led where
  | off | on | hz1 | hz4
  deriving DecidableEq, Repr

/-- STAT2, STAT1, STAT0. In reset they are off. The PLL stage shows REF_MISSING while REF_CLK is not good (R85), with strap value
0b11 too, and Booting after that; a unit strapped 0b11 then shows STRAP_FAULT. DESIGN CHOICE (log entry 121). -/
def statLeds (s : State) : Led × Led × Led :=
  if inReset s then (.off, .off, .off)
  else if s.lmp.selfAt.isSome then (.hz4, .hz4, .hz4)
  else if stage s = 1 ∧ !isSet s F.CLK_LOCK_REFOK then (.hz1, .off, .off)
  else if strapFault s then (.on, .on, .off)
  else if stage s = 1 then (.off, .off, .hz4)
  else if stage s = 7 then (if isHostless s then (.off, .on, .on) else (.off, .off, .on))
  else if stage s = 8 then (.off, .hz1, .on)
  else if stage s = 9 then (.on, .off, .off)
  else (.off, .off, .hz4)

/-! ### The commands -/

/-- Is the unit in a boot stage and not on its way into a reset? -/
def booting (s : State) (k : Nat) : Bool := !inReset s && s.boot.warm == .none && stage s == k && power s != 4

/-- RAIL_FAULT (R44): the rails that fault together, as a mask of GLB_RAILSTAT. -/
def execRailFault (mask : Nat) (s : State) : Result := .next (railFault s mask)

/-- RAIL_WARN (R45, R47): the rail, and whether it crosses below its warn threshold or rises above it again. -/
def execRailWarn (x : RailSide) (s : State) : Result := .next (if x.rail < 10 then railWarn s x.rail x.below else s)

/-- VDD_AON_APPLY (R43). -/
def execVddAonApply (s : State) : Result := .next (aonApply s)

/-- PWRON_RESET_ASSERT (R76). -/
def execPwronResetAssert (s : State) : Result := .next (pwronAssert s)

/-- COLD_RESET_RELEASE (R76, R77): ROLE_SEL as sampled, and whether VDD_UCI is above its warn threshold. -/
def execColdResetRelease (sel : Nat) (uci : Bool) (s : State) : Result := .next (coldRelease s sel uci)

/-- WARM_RESET_PIN (R78). -/
def execWarmResetPin (s : State) : Result := .next (warmRequest s F.GLB_RSTCAUSE_WARMPIN)

/-- WATCHDOG_EXPIRY (R78). -/
def execWatchdogExpiry (s : State) : Result := .next (warmRequest s F.GLB_RSTCAUSE_WDOG)

/-- WARM_RESET_ASSERT (R78). -/
def execWarmResetAssert (s : State) : Result :=
  .next (if s.boot.warm = .requested ∧ !coldHeld s then warmAssert s else s)

/-- WARM_RESET_RELEASE (R78). -/
def execWarmResetRelease (s : State) : Result :=
  .next (if s.boot.warm = .asserted ∧ !coldHeld s then warmRelease s else s)

/-- HARDWARE_TRIP (R512): the number of the sensor whose comparator fires. -/
def execHardwareTrip (k : Nat) (s : State) : Result := .next (hardwareTrip s k)

/-- REF_CLK_LOSS (R73). -/
def execRefClkLoss (s : State) : Result := .next (refClkLoss s)

/-- REF_CLK_GOOD (R72). -/
def execRefClkGood (s : State) : Result := .next (refClkGood s)

/-- PLL_UNLOCK (R74). -/
def execPllUnlock (k : Nat) (s : State) : Result := .next (pllUnlock s k)

/-- PLL_STAGE_DONE (R84): with strap value 0b11 the unit, in strap fault hold since t0, goes to stage HOLD, where UCIe trains
(R19). -/
def execPllStageDone (s : State) : Result :=
  .next (if booting s 1 ∧ isSet s F.CLK_LOCK_REFOK then
      let s := setF s F.CLK_LOCK_LOCK 0xFF
      if strapFault s then ucieOpen (setBootStage s 8) else setBootStage s 2
    else s)

/-- ROM_STAGE_DONE (R84). -/
def execRomStageDone (s : State) : Result := .next (if booting s 2 then romDone s else s)

/-- FIRST_STAGE_DONE (R84). -/
def execFirstStageDone (o : FirstObs) (s : State) : Result := .next (if booting s 3 then firstDone s o else s)

/-- DRAM_STAGE_DONE (R84). -/
def execDramStageDone (l : List DramCh) (rates : Nat × Nat × Nat) (s : State) : Result :=
  .next (if booting s 4 then dramDone s l rates else s)

/-- FIRMWARE_STAGE_DONE (R84). -/
def execFirmwareStageDone (o : FwObs) (s : State) : Result := .next (if booting s 5 then firmwareDone s o else s)

/-- UCIE_ATTEMPT_END (R86): for modules 0 to 3 the rate reached, if it trained; whether the partner left again; ms since t0. -/
def execUcieAttemptEnd (dt : Nat) (mods : List (Option Nat)) (left : Bool) (ms : Nat) (s : State) : Result :=
  whenOn 0x02 (advance dt s) (fun s => ucieAttemptEnd s mods left ms)

/-- UCIE_BACKOFF_END (R86). -/
def execUcieBackoffEnd (dt : Nat) (s : State) : Result :=
  whenOn 0x02 (advance dt s) (fun s =>
    if s.boot.ucie = .backoff ∧ !s.boot.relink ∧ s.boot.due ≤ upNs s then ucieStart s else s)

/-- BOOT_HOLD_RETRY (R20, R22). -/
def execBootHoldRetry (dt : Nat) (s : State) : Result :=
  whenOn 0x02 (advance dt s) (fun s =>
    if stage s = 8 ∧ s.boot.ucie = .closed ∧ s.boot.fails = 0 ∧ !isSet s F.HIF_LINKSTAT_UP ∧ s.boot.due ≤ upNs s then ucieOpen s else s)

/-- HIF_LINK_LOSS (R93). -/
def execHifLinkLoss (s : State) : Result := whenOn 0x02 s linkLoss

/-- HIF_RETRY_TIMER (R93). -/
def execHifRetryTimer (dt : Nat) (s : State) : Result :=
  whenOn 0x02 (advance dt s) (fun s =>
    if s.boot.ucie = .backoff ∧ s.boot.relink ∧ s.boot.due ≤ upNs s then ucieStart s else s)

/-- BME_CHANGE (R97). -/
def execBmeChange (x : BusCtl) (s : State) : Result :=
  whenOn 0x02 s (fun s => if isSet s F.HIF_LINKSTAT_UP then bmeChange s x.bme x.mps x.mrrs else s)

/-- MSIX_UNMASK (R99). -/
def execMsixUnmask (u : Unmask) (s : State) : Result :=
  whenOn 0x02 s (fun s => if isSet s F.HIF_LINKSTAT_UP then msixUnmask s u else s)

/-- Identification registers of the function (R96). -/
def pciVendor : Nat := 0x1F5A
def pciDevice : Nat := 0x7200
def pciClass : Nat := 0x048000

/-- A capability of the function (R96). -/
inductive PciCap where
  | pciExpressEndpoint | msix | powerManagement | aer | dataLinkFeature
  deriving DecidableEq, Repr

/-- Header type 0, a single function; its capabilities; and the power states of Power Management: D0 and D3hot (R96). -/
def pciHeader : Nat := 0
def pciCaps : List PciCap := [.pciExpressEndpoint, .msix, .powerManagement, .aer, .dataLinkFeature]
def pciDStates : List Nat := [0, 3]

/-- A base address register: whether it has 64 bits, whether it is prefetchable, and its size in bytes; BARs 1 and 3 are the upper
halves of BARs 0 and 2, and no other is implemented (R96). -/
def pciBar (k : Nat) : Option (Bool × Bool × Nat) := if k = 0 ∨ k = 2 then some (true, false, 2 ^ 24) else none

/-- Subsystem Vendor ID and Subsystem ID: those of the flash configuration, or the function's own (R96). -/
def pciSubsystem (s : State) : Nat × Nat := s.hif.subsys.getD (pciVendor, pciDevice)

/-- PCIE_D3HOT_CHANGE (R97). -/
def execPcieD3hotChange (b : Bool) (s : State) : Result :=
  whenOn 0x02 s (fun s => if isSet s F.HIF_LINKSTAT_UP then { s with hif := { s.hif with d3hot := b } } else s)

end Sys2Proof.Machine
end

