-- ==== Sys2Proof/Machine/RegChecks.lean ====
section
/-! DEFINITION. The refusals of a register write that depend on the state of the unit: for each register the conditions of its
field map's "Rejected when" column and of the rules that its chapter states beside it. Values refused in every state stand in
RegTable.lean. -/

namespace Sys2Proof.Machine

/-- The code of a rule, if it is broken. -/
def chk (b : Bool) (c : Status) : List Status := if b then [c] else []

/-- Index of the register at `off` in a group of `n` registers. -/
def regIdx (f : Nat → Nat) (n off : Nat) : Option Nat :=
  let st := f 1 - f 0
  if f 0 ≤ off ∧ (off - f 0) % st = 0 ∧ (off - f 0) / st < n then some ((off - f 0) / st) else none

/-- Codes for the register at `off` if it belongs to the group. -/
def inRegs (f : Nat → Nat) (n off : Nat) (k : Nat → List Status) : List Status :=
  match regIdx f n off with
  | some i => k i
  | none => []

/-- Would the write change the field? DEDUCED (log entry 107). -/
def changes (s : State) (f : Fld) (v : Word) : Bool := f.get v != getF s f

/-- Does the write set a 1-bit field that reads 0? -/
def rises (s : State) (f : Fld) (v : Word) : Bool := f.get v != 0 && getF s f == 0

/-- Does the write clear a 1-bit field that reads 1? -/
def falls (s : State) (f : Fld) (v : Word) : Bool := f.get v == 0 && getF s f != 0

/-- A gain code other than MUTE outside [lo, hi]. -/
def gainBad (lo hi : Int) (v : Nat) : Bool := v != 0x8000 && (decide (signed 16 v < lo) || decide (hi < signed 16 v))

/-- A surface that must be live, fully backed, not FREEING and of at least `need` bytes. DESIGN CHOICE (log entry 105). A FREEING one
is STALE_STATE (R442). DESIGN CHOICE (log entry 158). -/
def surfNeed (s : State) (h need : Nat) : List Status :=
  match surfOf s h with
  | none => [.staleState]
  | some x => chk (x.freeing || !(notLocal s x.vp x.n).isEmpty) .staleState ++ chk (surfSize x < need) .range

/-- A surface that must hold at least `need` bytes; no live surface holds any. -/
def surfHolds (s : State) (h need : Nat) : Bool :=
  match surfOf s h with
  | none => false
  | some x => need ≤ surfSize x

/-! ### GLB, HIF (R80, R95) -/

/-- Blocks with a block reset (R80). -/
def resettable : List Nat := [0x04, 0x08, 0x09, 0x0A, 0x0B, 0x0C, 0x0D, 0x0E, 0x0F, 0x10, 0x11, 0x12, 0x15, 0x19]

def checkGlb (s : State) (off : Nat) (v : Word) : List Status :=
  if off = R.GLB_BLKRST then
    let ones := (List.range 32).filter (fun k => v.toNat.testBit k)
    chk (ones.any (fun k => !resettable.contains k || dormant s k)) .notPermitted ++
    chk (!ones.isEmpty && (!isReady s || s.boot.warm != .none)) .wrongState
  else []

def checkHif (s : State) (off : Nat) (v : Word) : List Status :=
  if off = R.HIF_LINKCFG then chk (F.HIF_LINKCFG_RETRAIN.get v != 0 && !isReady s) .wrongState else []

/-! ### QUE, DMA, SOR (R106 to R110, R145, R170 to R174) -/

/-- QUE_BASELO, QUE_BASEHI, QUE_CFG and SOR_QBIND are written in DISABLED only. -/
def queueHeld (s : State) (q : Nat) : List Status := chk (qState s q != qDisabled) .wrongState

def checkQueCtl (s : State) (q : Nat) (v : Word) : List Status :=
  let st := qState s q
  let stop := (F.QUE_CTL_STOP q).get v != 0
  let resume := (F.QUE_CTL_RESUME q).get v != 0
  chk (rises s (F.QUE_CTL_ENABLE q) v && qLocal s q && decide (2 ^ 20 < qBase s q + 64 * qLen s q)) .range ++
  chk (rises s (F.QUE_CTL_ENABLE q) v && qLocal s q && ringOverlap s q) .noResource ++
  chk (falls s (F.QUE_CTL_ENABLE q) v && (st == qRunning || st == qStopping)) .wrongState ++
  chk (stop && st != qRunning) .wrongState ++ chk (stop && resume) .illegalValue ++ chk (resume && st != qStopped) .wrongState

def checkQue (s : State) (off : Nat) (v : Word) : List Status :=
  inRegs R.QUE_BASELO 4096 off (queueHeld s) ++ inRegs R.QUE_BASEHI 4096 off (queueHeld s) ++
  inRegs R.QUE_CFG 4096 off (fun q =>
    let loc := (F.QUE_CFG_LOC q).get v
    chk (loc == 1 && isSender s) .notPermitted ++ chk (loc == 0 && isHostless s) .notPermitted ++
    chk ((F.QUE_CFG_SRC q).get v != loc) .illegalValue ++ queueHeld s q) ++
  inRegs R.QUE_CTL 4096 off (fun q => checkQueCtl s q v)

def checkDma (s : State) (off : Nat) (v : Word) : List Status :=
  inRegs R.DMA_CHCFG 64 off (fun c =>
    chk (falls s (F.DMA_CHCFG_ENABLE c) v && 2 ≤ getF s (F.DMA_CHSTAT_STATE c)) .wrongState)

/-- Is a queue bound to group `g` not DISABLED (R171)? -/
def groupBusy (s : State) (g : Nat) : Bool := (List.range 4096).any (fun q => groupOf s q == g && qState s q != qDisabled)

/-- Class and mask of a group as a write would leave them. -/
def groupMaskBad (k mask : Nat) : Bool := 2 ^ classSize k ≤ mask

def checkSor (s : State) (off : Nat) (v : Word) : List Status :=
  inRegs R.SOR_GRPCFG 32 off (fun g =>
    let k := (F.SOR_GRPCFG_CLASS g).get v
    chk (groupBusy s g) .wrongState ++ chk (k == 2 && isHostless s) .notPermitted ++ chk (groupMaskBad k (grpMask s g)) .range) ++
  inRegs R.SOR_GRPMLO 32 off (fun g =>
    chk (groupBusy s g) .wrongState ++ chk (groupMaskBad (grpClass s g) v.toNat) .range ++
    chk (v.toNat == 0 && (s.word (R.SOR_GRPMHI g)).toNat == 0) .illegalValue) ++
  inRegs R.SOR_GRPMHI 32 off (fun g =>
    chk (groupBusy s g) .wrongState ++ chk (groupMaskBad (grpClass s g) (2 ^ 32 * v.toNat)) .range ++
    chk (v.toNat == 0 && (s.word (R.SOR_GRPMLO g)).toNat == 0) .illegalValue) ++
  inRegs R.SOR_TGTCFG 136 off (fun t =>
    let host := 72 ≤ t
    chk (falls s (F.SOR_TGTCFG_EN t) v && isSet s (F.SOR_TGTSTAT_BUSY t)) .wrongState ++
    chk (rises s (F.SOR_TGTCFG_EN t) v && host && !isSet s F.SOR_CFG_POLLEN) .wrongState ++
    chk (rises s (F.SOR_TGTCFG_EN t) v && host && isHostless s) .notPermitted ++
    chk (!host && ((F.SOR_TGTCFG_VEC t).get v != 0 || (F.SOR_TGTCFG_UVEC t).get v != 0)) .illegalValue) ++
  inRegs (fun i => R.SOR_TGTSLOTLO i) 64 off (fun i => chk (isSet s (F.SOR_TGTCFG_EN (72 + i))) .wrongState) ++
  inRegs (fun i => R.SOR_TGTSLOTHI i) 64 off (fun i => chk (isSet s (F.SOR_TGTCFG_EN (72 + i))) .wrongState) ++
  inRegs R.SOR_QBIND 4096 off (queueHeld s) ++
  (if off = R.SOR_CFG then
    chk (falls s F.SOR_CFG_POLLEN v && (List.range 64).any (fun i => isSet s (F.SOR_TGTCFG_EN (72 + i)))) .wrongState else [])

/-! ### SRF, CMP, FRT (R197, R234, R255, R258) -/

def checkSrf (s : State) (off : Nat) (v : Word) : List Status :=
  let en := isSet s F.SRF_CTL_EN
  let pool := getF s F.SRF_POOLLEN_LEN
  let tbl := getF s F.SRF_TBLLEN_LEN
  if off = R.SRF_CTL then
    chk (rises s F.SRF_CTL_EN v && (decide (tbl < 0x40) || decide (pool ≤ tbl + cacheLen s))) .illegalValue ++
    chk (rises s F.SRF_CTL_EN v && decide (getF s F.DRC_CAP_PAGES < getF s F.SRF_POOLBASE_BASE + pool)) .range ++
    chk (falls s F.SRF_CTL_EN v && isSet s F.SRF_STAT_LIVE) .wrongState
  else if off = R.SRF_POOLBASE ∨ off = R.SRF_POOLLEN ∨ off = R.SRF_TBLLEN then chk en .wrongState
  else if off = R.SRF_PFCFG then
    chk (F.SRF_PFCFG_CACHE16.get v != 0 && isTile s) .notPermitted ++ chk (changes s F.SRF_PFCFG_CACHE16 v && en) .wrongState
  else []

def checkCmp (s : State) (off : Nat) (v : Word) : List Status :=
  (if off = R.CMP_CTL then chk (rises s F.CMP_CTL_EN v && !isSet s F.SRF_CTL_EN) .wrongState else []) ++
  inRegs R.CMP_CANGAIN 4 off (fun c => chk (gainBad (-16384) 4096 ((F.CMP_CANGAIN_TARGET c).get v)) .range) ++
  inRegs R.CMP_LGAIN 128 off (fun k => chk (gainBad (-16384) 4096 ((F.CMP_LGAIN_TARGET k).get v)) .range) ++
  inRegs R.CMP_LFADE 128 off (fun k => chk (gainBad (-16384) 0 ((F.CMP_LFADE_TARGET k).get v)) .range)

/-- Is generator `g` enabled by software or held by an owner other than `own` (R377)? -/
def genTaken (s : State) (g own : Nat) : Bool :=
  if genOwned s g then (gen s g).owner != own || own == 0 else isSet s (F.TIM_PGCFG_EN g)

def checkFrt (s : State) (off : Nat) (v : Word) : List Status :=
  if off = R.FRT_CTL then
    chk (rises s F.FRT_CTL_EN v && s.frt.mode.isNone) .wrongState ++
    chk (rises s F.FRT_CTL_EN v && genTaken s (F.FRT_CTL_GEN.get v) 0) .noResource ++
    chk (isSet s F.FRT_CTL_EN && (changes s F.FRT_CTL_GEN v || changes s F.FRT_CTL_QDEPTH v)) .wrongState
  else []

/-! ### CHN, LNK (R302, R303, R307, R354) -/

def checkLnk (s : State) (off : Nat) (v : Word) : List Status :=
  (if off = R.LNK_CFG then
    chk ((changes s F.LNK_CFG_RATE v || changes s F.LNK_CFG_CLKMODE v) && (List.range 4).any (fun p => pState s p != pOff)) .wrongState
   else []) ++
  inRegs R.LNK_PCTL 4 off (fun p =>
    let en := (F.LNK_PCTL_EN p).get v != 0
    let test := (F.LNK_PCTL_TEST p).get v != 0
    chk ((F.LNK_PCTL_RETRAIN p).get v != 0 && (!en || test)) .wrongState ++ chk (test && !en) .wrongState) ++
  inRegs R.LNK_LCTL 20 off (fun i =>
    let g := (F.LNK_LCTL_GEN i).get v
    let ne := (F.LNK_LCTL_NELB i).get v != 0
    let fe := (F.LNK_LCTL_FELB i).get v != 0
    chk (!isSet s (F.LNK_PCTL_TEST (i / 5)) && (g != 0 || (F.LNK_LCTL_CHK i).get v != 0 || ne || fe)) .wrongState ++
    chk (g == 0 && ((F.LNK_LCTL_INJ i).get v != 0 || (F.LNK_LCTL_INJRATE i).get v != 0)) .wrongState ++
    chk (ne && fe) .illegalValue)

/-- Port of an LNK or CHN register, for those that belong to one (R14, R301). -/
def lnkPort (off : Nat) : Option Nat :=
  if 0xD0100 ≤ off ∧ off < 0xD0200 then some ((off - 0xD0100) / 0x40)
  else if 0xE0100 ≤ off ∧ off < 0xE0200 then some ((off - 0xE0100) / 0x40)
  else if 0xE1000 ≤ off ∧ off < 0xE1280 then some ((off - 0xE1000) / 0x20 / 5)
  else none

/-- Is the register one of a dormant port, read as reset and never written (R13, R14)? -/
def portReg (s : State) (off : Nat) : Bool :=
  match lnkPort off with
  | some p => portDormant s p
  | none => false

def checkChn (s : State) (off : Nat) (v : Word) : List Status :=
  inRegs R.CHN_PORTCTL 4 off (fun p =>
    chk (isTile s && (changes s (F.CHN_PORTCTL_CHAIN p) v || changes s (F.CHN_PORTCTL_END p) v)) .notPermitted) ++
  (if off = R.CHN_INBOX then
    chk (rises s F.CHN_INBOX_EN v && isTile s) .notPermitted ++
    chk (rises s F.CHN_INBOX_EN v && !surfHolds s (F.CHN_INBOX_HANDLE.get v) (512 * 2 ^ (F.CHN_INBOX_SIZE.get v + 4))) .range ++
    chk (isSet s F.CHN_INBOX_EN && (changes s F.CHN_INBOX_HANDLE v || changes s F.CHN_INBOX_SIZE v)) .wrongState
   else if off = R.CHN_INBOXIDX then
    let rd := getF s F.CHN_INBOXIDX_RD
    chk (msub 16 (getF s F.CHN_INBOXIDX_WR) rd < msub 16 (F.CHN_INBOXIDX_RD.get v) rd) .range
   else [])

/-! ### TIM, TAN (R362, R377, R380, R391, R392, R404, R412) -/

/-- Is `t` a target under R362: strictly after now, by less than 2^31 ns? -/
def isTarget (s : State) (t : Nat) : Bool := 0 < msub 32 t (timeNs s) && msub 32 t (timeNs s) < 2 ^ 31

/-- The checks of R380 for an enable of generator `g` with the written configuration, in their own order: the first that
fails is the code. -/
def genCheck (s : State) (g : Nat) (v : Word) : List Status :=
  let per := getF s (F.TIM_PGPER_PER g)
  let wid := getF s (F.TIM_PGWID_WID g)
  let periodic := (F.TIM_PGCFG_PERIODIC g).get v != 0
  chk (!isTarget s (getF s (F.TIM_PGSTART_S g)) || (periodic && (decide (per < 1000) || decide (2 ^ 31 ≤ per))) ||
    (decide (g < 8) && (decide (wid < 8) || (periodic && decide (per < wid + 8))))) .range

def checkGen (s : State) (off : Nat) (v : Word) : List Status :=
  let any (g : Nat) : List Status := chk (genOwned s g) .notPermitted ++ chk (isSet s (F.TIM_PGCFG_EN g)) .wrongState
  inRegs R.TIM_PGSTART 16 off any ++ inRegs R.TIM_PGPER 16 off any ++ inRegs R.TIM_PGPERF 16 off any ++
  inRegs R.TIM_PGWID 16 off any ++
  inRegs R.TIM_PGSTAT 16 off (fun g => chk (genOwned s g) .notPermitted) ++
  inRegs R.TIM_PGNEXT 16 off (fun g => chk (genOwned s g) .notPermitted) ++
  inRegs R.TIM_PGCFG 16 off (fun g =>
    chk (genOwned s g) .notPermitted ++
    chk (isSet s (F.TIM_PGCFG_EN g) &&
      (changes s (F.TIM_PGCFG_PERIODIC g) v || changes s (F.TIM_PGCFG_POL g) v || changes s (F.TIM_PGCFG_IRQ g) v)) .wrongState ++
    (if rises s (F.TIM_PGCFG_EN g) v then genCheck s g v else []))

def checkTim (s : State) (off : Nat) (v : Word) : List Status :=
  let free := servo s == tFree
  let frt := isSet s F.FRT_CTL_EN
  checkGen s off v ++
  (if off = R.TIM_CFG then
    let role := F.TIM_CFG_ROLE.get v
    let g := F.TIM_CFG_CADGEN.get v
    chk (isTile s && (role != 0 || F.TIM_CFG_FPORT.get v != 0)) .notPermitted ++
    chk (F.TIM_CFG_DISC.get v != 0 && role == 0) .illegalValue ++
    chk (frt && (changes s F.TIM_CFG_ROLE v || changes s F.TIM_CFG_DISC v)) .wrongState ++
    chk (changes s F.TIM_CFG_CADGEN v && s.lmp.mode.isSome) .wrongState ++
    chk (isTile s && ((gen s g).owner == 2 || (!genOwned s g && isSet s (F.TIM_PGCFG_EN g)))) .noResource
   else if off = R.TIM_INC then chk (!free) .wrongState
   else if off = R.TIM_ADJ then chk (isTile s) .notPermitted ++ chk (!free || frt) .wrongState
   else if off = R.TIM_REFCFG then
    chk (F.TIM_REFCFG_ARM.get v != 0 && (getF s F.TIM_CFG_ROLE == 0 || getF s F.TIM_CFG_DISC == 0 || frt)) .wrongState
   else if off = R.TIM_REFVAL then chk (isSet s F.TIM_REFCFG_ARMED) .wrongState
   else if off = R.TIM_REFPER then
    chk (F.TIM_REFPER_NS.get v < 1000000 || decide (2 ^ 31 ≤ F.TIM_REFPER_NS.get v)) .range ++
    chk (changes s F.TIM_REFPER_NS v && getF s F.TIM_CFG_DISC == 2 && !free) .wrongState
   else if off = R.TIM_REFPERF then
    chk (changes s F.TIM_REFPERF_FRAC v && getF s F.TIM_CFG_DISC == 2 && !free) .wrongState
   else if off = R.TIM_SYNCCFG then chk (F.TIM_SYNCCFG_SYNCEN.get v != 0 && isTile s) .notPermitted
   else [])

/-- Is the register one of the other role's (R412)? It then reads its reset value and refuses writes. -/
def tanOther (s : State) (off : Nat) : Bool :=
  (isTile s && R.TAN_CFG ≤ off && off ≤ R.TAN_SNAPLEN) || (isSender s && R.TAN_TSTAT ≤ off && off ≤ R.TAN_TCLAIM1)

def checkTan (s : State) (off : Nat) (v : Word) : List Status :=
  chk (tanOther s off) .notPermitted ++
  (if off = R.TAN_CFG then
    chk (rises s F.TAN_CFG_EN v && genTaken s (F.TAN_CFG_HBGEN.get v) 0) .noResource ++
    chk (isSet s F.TAN_CFG_EN && (changes s F.TAN_CFG_HBGEN v || changes s F.TAN_CFG_RANK v)) .wrongState
   else if off = R.TAN_CTL then
    chk (F.TAN_CTL_TAKE.get v != 0 && (tanState s != tanStandby || !isSet s F.FRT_CTL_EN)) .wrongState
   else if off = R.TAN_CLAIM then chk (isSet s F.TAN_CFG_EN) .wrongState
   else if off = R.TAN_RENUM then
    let c := renumCheck s (F.TAN_RENUM_EPOCH.get v)
    chk (c != .ok) c
   else if off = R.TAN_SNAPCFG then
    chk (rises s F.TAN_SNAPCFG_RXEN v &&
      !surfHolds s (F.TAN_SNAPCFG_HANDLE.get v) (2 * 65536 * (F.TAN_SNAPCFG_SIZEM1.get v + 1))) .range ++
    chk (isSet s F.TAN_SNAPCFG_RXEN && (changes s F.TAN_SNAPCFG_HANDLE v || changes s F.TAN_SNAPCFG_SIZEM1 v)) .wrongState
   else [])

/-! ### LMP, SPK (R442 to R444, R475 to R479) -/

/-- The surfaces of LMP as R442 asks for them: the frame store of `bufs` buffers, and the correction records. -/
def lmpStore (s : State) (bufs : Nat) : List Status := surfNeed s (getF s F.LMP_FSSURF_HANDLE) (bufs * bufBytes s)
def lmpRecords (s : State) (h : Nat) : List Status := surfNeed s h (96 * tileW s * tileH s)

/-- Timing set of a timing-set register (R444). -/
def tsetOf (off : Nat) : Option Nat := if 0x111000 ≤ off ∧ off < 0x111200 then some ((off - 0x111000) / 0x40) else none

def checkLmp (s : State) (off : Nat) (v : Word) : List Status :=
  let en := isSet s F.LMP_CTL_EN
  (match tsetOf off with
   | some t => chk (s.lmp.mode.any (fun m => m.tset == t)) .wrongState
   | none => []) ++
  (if off = R.LMP_CTL then
    (if rises s F.LMP_CTL_EN v then
      lmpStore s (F.LMP_CTL_FSBUF.get v + 1) ++ lmpRecords s (getF s F.LMP_CORSURF_HANDLE) else []) ++
    chk (en && changes s F.LMP_CTL_FSBUF v) .wrongState
   else if off = R.LMP_GEOM then
    chk (786432 < (F.LMP_GEOM_TWM1.get v + 1) * (F.LMP_GEOM_THM1.get v + 1)) .range ++ chk en .wrongState
   else if off = R.LMP_STRM ∨ off = R.LMP_FSSURF then chk en .wrongState
   else if off = R.LMP_CORSURF then (if en then lmpRecords s (F.LMP_CORSURF_HANDLE.get v) else [])
   else if off = R.LMP_SETTEMP0 then
    let ta := signed 16 (F.LMP_SETTEMP0_TA.get v)
    let tb := signed 16 (F.LMP_SETTEMP0_TB.get v)
    chk (decide (tb ≤ ta) || decide (signed 16 (getF s F.LMP_SETTEMP1_TC) ≤ tb)) .illegalValue
   else if off = R.LMP_SETTEMP1 then
    chk (signed 16 (F.LMP_SETTEMP1_TC.get v) ≤ signed 16 (getF s F.LMP_SETTEMP0_TB)) .illegalValue
   else if off = R.LMP_DIM then chk (gainBad (-16384) 0 (F.LMP_DIM_TARGET.get v)) .range
   else [])

/-- Is a time in ns not a whole number of CK at RATE `r` (R475)? -/
def notWholeCk (r ns : Nat) : Bool := ns * r % 40 != 0

def checkSpk (s : State) (off : Nat) (v : Word) : List Status :=
  let en := isSet s F.SPK_CTL_EN
  -- a write that leaves every field unchanged is refused by none of these (R474)
  let held : List Status := chk (en && v != s.word off) .wrongState
  inRegs R.SPK_SPKCFG 32 off (fun _ => held) ++
  (if off = R.SPK_CTL then
    let r := F.SPK_CTL_RATE.get v
    (if rises s F.SPK_CTL_EN v then
      surfNeed s (getF s F.SPK_SURF_MAP) (4 * mapBase s 32) ++ surfNeed s (getF s F.SPK_SURF_ICODE) (codeBase s 32) ++
      chk (notWholeCk r (scanBlank s) || notWholeCk r (10 * getF s F.SPK_SCAN1_DIS) || notWholeCk r (10 * getF s F.SPK_SCAN1_PRE) ||
        notWholeCk r (scanPw s)) .illegalValue
     else []) ++
    chk (en && (changes s F.SPK_CTL_PROBEEN v || changes s F.SPK_CTL_RATE v)) .wrongState ++
    chk (F.SPK_CTL_RELOAD.get v != 0 && !en) .wrongState
   else if off = R.SPK_SPKEN then chk (en && changes s F.SPK_SPKEN_EN v) .wrongState
   else if off = R.SPK_SCAN0 then chk (F.SPK_SCAN0_DM1.get v < F.SPK_SCAN0_STAG.get v) .illegalValue ++ held
   else if off = R.SPK_SCAN1 then
    chk ((F.SPK_SCAN1_BLANKM1.get v + 1) * 10 < 10 * (F.SPK_SCAN1_DIS.get v + F.SPK_SCAN1_PRE.get v) + 20) .illegalValue ++ held
   else if off = R.SPK_GRPLO ∨ off = R.SPK_GRPHI ∨ off = R.SPK_SURF then held
   else [])

/-! ### DRC, THM, CAL, SEC, UPD (R500, R516, R533, R561, R591) -/

/-- Trained rate of a set-point. -/
def fspRate (s : State) (k : Nat) : Nat :=
  if k = 0 then getF s F.DRC_FSPRATE_RATE0 else if k = 1 then getF s F.DRC_FSPRATE_RATE1 else getF s F.DRC_FSPRATE_RATE2

def checkDrc (s : State) (off : Nat) (v : Word) : List Status :=
  if off = R.DRC_FREQ then
    chk (F.DRC_FREQ_FSP.get v < 3 && fspRate s (F.DRC_FREQ_FSP.get v) == 0) .range ++ chk (isSet s F.DRC_FREQ_BUSY) .wrongState
  else []

def checkThm (s : State) (off : Nat) (v : Word) : List Status :=
  if off = R.THM_EXCL then chk ((onDie.filter (fun k => !v.toNat.testBit k)).length < 8) .illegalValue
  else if off = R.THM_PWR then
    let r := F.THM_PWR_REQ.get v
    chk ((r == 2 || r == 3) && isSender s && isSet s F.FRT_CTL_EN) .wrongState ++ chk (r == 3 && isHostless s) .notPermitted
  else []

def checkCal (s : State) (off : Nat) (v : Word) : List Status :=
  if off = R.CAL_CTL then
    chk (F.CAL_CTL_START.get v != 0 &&
      (isSet s F.CAL_STAT_BUSY || calSkips s (5 * F.CAL_CTL_PORT.get v + F.CAL_CTL_LANE.get v))) .wrongState
  else []

def checkSec (s : State) (off : Nat) (v : Word) : List Status :=
  if off = R.SEC_CRCCFG then
    chk (rises s F.SEC_CRCCFG_EN v && isTile s) .notPermitted ++
    (if rises s F.SEC_CRCCFG_EN v then surfNeed s (F.SEC_CRCCFG_HANDLE.get v) (2 ^ F.SEC_CRCCFG_SIZE.get v * 16448) else []) ++
    chk (isSet s F.SEC_CRCCFG_EN && (changes s F.SEC_CRCCFG_HANDLE v || changes s F.SEC_CRCCFG_SIZE v)) .wrongState
  else []

def checkUpd (s : State) (off : Nat) (v : Word) : List Status :=
  let st := getF s F.UPD_STAT_USTATE
  if off = R.UPD_CTL then
    chk (F.UPD_CTL_CONFIRM.get v != 0 && st != 5) .wrongState ++
    chk (F.UPD_CTL_ABANDON.get v != 0 && (st == 0 || st == 5)) .wrongState
  else if off = R.UPD_TXCFG then chk (isTile s) .notPermitted
  else if off = R.UPD_RECOV then chk (stage s != 9) .wrongState
  else []

/-- The codes of the state-dependent rules that a write of `v` at `off` breaks. -/
def stateChecks (s : State) (off : Nat) (v : Word) : List Status :=
  match off / 0x10000 with
  | 0x00 => checkGlb s off v
  | 0x02 => checkHif s off v
  | 0x04 | 0x05 | 0x06 | 0x07 => checkQue s off v
  | 0x08 => checkDma s off v
  | 0x09 => checkSor s off v
  | 0x0A => checkSrf s off v
  | 0x0B => checkCmp s off v
  | 0x0C => checkFrt s off v
  | 0x0D => checkChn s off v
  | 0x0E => checkLnk s off v
  | 0x0F => checkTim s off v
  | 0x10 => checkTan s off v
  | 0x11 => checkLmp s off v
  | 0x12 => checkSpk s off v
  | 0x13 => checkDrc s off v
  | 0x14 => checkThm s off v
  | 0x15 => checkCal s off v
  | 0x16 => checkSec s off v
  | 0x17 => checkUpd s off v
  | _ => []

/-! ### The whole check of a write (R4, R13, R19, R81, R98, R607) -/

/-- Block identifier of a register: the 64 KiB page, but QUE covers four (R599). -/
def regBlock (off : Nat) : Nat := let p := off / 0x10000; if p = 5 ∨ p = 6 ∨ p = 7 then 4 else p

/-- The codes of the rules of a field map that hold in every state: reserved bits and listed values. Ignored fields (RO) and
fields that 0 leaves as they are (W1C, W1S) have no listed values. -/
def mapChecks (r : RegRow) (v : Word) : List Status :=
  chk (r.fields.any (fun f => f.acc == .rsv && bits v.toNat f.lo f.width != 0)) .illegalValue ++
  chk (r.zeroOnly && v != 0#32) .illegalValue ++
  r.fields.flatMap (fun f => f.bad.flatMap (fun b => let x := bits v.toNat f.lo f.width; chk (b.1 ≤ x && x ≤ b.2.1) b.2.2))

/-- Does strap fault hold refuse every write to the block with WRONG_STATE (R19)? -/
def strapHeld (s : State) (id : Nat) : Bool := strapFault s && [0x01, 0x02, 0x14, 0x16].contains id

/-- The code of a write at a BAR0 offset whose size or alignment is refused: rules that hold whatever a write carries go before ALIGN
(R13, R19, R81, R98, R607). -/
def misalignCode (s : State) (off : Nat) : Status :=
  let id := regBlock off
  let reg := (regAt (off / 4 * 4)).isSome
  firstCode (chk (reg && (dormant s id || portReg s (off / 4 * 4))) .notPermitted ++
    chk (blkReset s id || (reg && strapHeld s id)) .wrongState ++ [.align])

/-- The code of a register write: OK, or the code under which it is refused as a whole (R607).
DESIGN CHOICE (log entry 106). -/
def writeCode (s : State) (off : Nat) (v : Word) : Status :=
  let id := regBlock off
  match regAt off with
  | none => if blkReset s id then .wrongState else .range
  | some r =>
    if dormant s id then .notPermitted
    else firstCode (chk (blkReset s id || strapHeld s id) .wrongState ++ chk (portReg s off) .notPermitted ++
      mapChecks r v ++ stateChecks s off v)

end Sys2Proof.Machine
end

