-- ==== Sys2Proof/Machine/RegWrite.lean ====
section
/-! DEFINITION. Reads and writes of BAR0 registers: what each access type stores (R3), what a write sets in motion, the values that
are computed at a read, and the reads that change the state (R98, R152, R358, R384, R540, R606). -/

namespace Sys2Proof.Machine

/-! ### Storing (R3, R4) -/

/-- What a field holds after an accepted write. -/
def Acc.store (a : Acc) (old new : Nat) : Nat :=
  match a with
  | .rw => new
  | .rws => new
  | .w1c => old - (old &&& new)
  | .w1s => old ||| new
  | .ro => old
  | .wo => old
  | .rsv => old

/-- The word a register holds after an accepted write of `v`. -/
def RegRow.store (r : RegRow) (old v : Word) : Word :=
  BitVec.ofNat 32 (r.fields.foldl (fun w f =>
    putBits w f.lo f.width (f.acc.store (bits old.toNat f.lo f.width) (bits v.toNat f.lo f.width))) old.toNat)

/-- Store an accepted write; values of RWS fields wait for a commit (R3, R242). -/
def storeReg (s : State) (off : Nat) (v : Word) : State :=
  match regAt off with
  | none => s
  | some r =>
    let w := r.store (s.word off) v
    let s := s.setWord off w
    if r.fields.any (fun f => f.acc == .rws) then
      { s with cmp := { s.cmp with pend := s.cmp.pend.filter (fun e => e.1 != off) ++ [(off, w)] } }
    else s

/-! ### What writes set in motion -/

/-- A block reset of DBG: the test logic is in Test-Logic-Reset (R601). -/
def dbgBlockReset (s : State) : State := { s with sec := { s.sec with extest := false } }

/-- Block `k` is held in reset from now on (R81). -/
def blockHeld (s : State) (k : Nat) : State :=
  setBitF { s with boot := { s.boot with blkAt := setAt s.boot.blkAt 32 k (upNs s) } } F.GLB_BLKRST_BLK k true

/-- Start block reset of block `k` (R80, R81). -/
def blockReset (s : State) (k : Nat) : State :=
  let s := blockHeld s k
  if k = 0x04 then queBlockReset s
  else if k = 0x08 then dmaBlockReset s
  else if k = 0x09 then sorBlockReset s
  else if k = 0x0A then srfBlockReset s
  else if k = 0x0B then cmpBlockReset s
  else if k = 0x0C then frtBlockReset s
  else if k = 0x0D then chnBlockReset s
  else if k = 0x0E then lnkBlockReset s
  else if k = 0x0F then timBlockReset s
  else if k = 0x10 then tanBlockReset s
  else if k = 0x11 then lmpBlockReset s
  else if k = 0x12 then spkBlockReset s
  else if k = 0x15 then calBlockReset s
  else if k = 0x19 then dbgBlockReset s
  else s

/-- The block reset of LMP ends: where SPK is enabled, the spokes, dark since it began (R445), come up again. DESIGN CHOICE (log entry
163). -/
def lmpResetEnd (s : State) : State :=
  if isTile s && isSet s F.SPK_CTL_EN && blkOn s 0x12 && decide (power s ≤ 1) then spkEnable s else s

/-- A block that was held for 1 µs leaves reset, its buffers initialised (R81). -/
def blockResetEnd (s : State) (k : Nat) : State :=
  if !blkReset s k ∨ upNs s < s.boot.blkAt.getD k 0 + 1000 then s
  else
    let s := setBitF s F.GLB_BLKRST_BLK k false
    if k = 0x0F then timResetEnd s
    else if k = 0x10 then tanResetEnd s
    else if k = 0x11 then lmpResetEnd s
    else if k = 0x15 then calTimer s
    else if k = 0x0E then
      if isTile s then startPorts s [0, 1] true else if isReady s then startPorts s [0, 1, 2, 3] false else s
    else s

/-- Apply `f` to the index of the register at `off`, if it belongs to the group. -/
def onReg (s : State) (r : Nat → Nat) (n off : Nat) (f : Nat → State) : State :=
  match regIdx r n off with
  | some i => f i
  | none => s

/-- A write of GLB registers. A 1 to the bit of a block that is in reset already starts nothing. DESIGN CHOICE (log entry 151). -/
def effectGlb (s0 s : State) (off : Nat) (v : Word) : State :=
  if off = R.GLB_ERRINFO then (if F.GLB_ERRINFO_VALID.get v = 1 then clearErrors s else s)
  else if off = R.GLB_WARMRST then warmRequest s F.GLB_RSTCAUSE_WARMSW
  else if off = R.GLB_BLKRST then
    ((List.range 32).filter (fun k => v.toNat.testBit k && !blkReset s0 k)).foldl blockReset s
  else s

/-- A write of QUE_CTL (R110). With ENABLE 1→0 from STOPPED, a RESUME in the same write has no effect.
DESIGN CHOICE (log entry 123). -/
def effectQue (s0 s : State) (off : Nat) (v : Word) : State :=
  onReg s R.QUE_CTL 4096 off (fun q =>
    if rises s0 (F.QUE_CTL_ENABLE q) v then queueEnable s q
    else if falls s0 (F.QUE_CTL_ENABLE q) v then queueDisable s q
    else if (F.QUE_CTL_STOP q).get v = 1 then queueStop s q
    else if (F.QUE_CTL_RESUME q).get v = 1 then queueResume s q
    else s)

def effectSor (s0 s : State) (off : Nat) (v : Word) : State :=
  if off = R.SOR_CFG then
    let win := isSet s F.SOR_CFG_WINEN
    { s with sor := { s.sor with
        winFrom := if win then s.sor.winFrom else none, winDone := if win then s.sor.winDone else [],
        winPollDue := s.sor.winPollDue && win, pollDue := s.sor.pollDue && isSet s F.SOR_CFG_POLLEN } }
  else if 0x90100 ≤ off ∧ off < 0x90300 then forgetLast s ((off - 0x90100) / 0x10)
  else onReg s R.SOR_TGTCFG 136 off (fun t =>
    if falls s0 (F.SOR_TGTCFG_EN t) v then setF s (F.SOR_TGTSTAT_FAULT t) 0
    else if targetClass t = 2 then slotNext s t else s)

def effectFrt (s0 s : State) (off : Nat) (v : Word) : State :=
  if off = R.FRT_COMMIT then (if F.FRT_COMMIT_GO.get v = 1 then commit s none else s)
  else if off = R.FRT_CTL then
    if rises s0 F.FRT_CTL_EN v then frtEnable s
    else if falls s0 F.FRT_CTL_EN v then frtDisable (setF s F.FRT_CTL_EN 1)
    else s
  else s

def effectLnk (s0 s : State) (off : Nat) (v : Word) : State :=
  let s := onReg s R.LNK_PCTL 4 off (fun p =>
    portControl s p (isSet s0 (F.LNK_PCTL_EN p)) (isSet s0 (F.LNK_PCTL_TEST p)) ((F.LNK_PCTL_RETRAIN p).get v == 1))
  let s := onReg s R.LNK_LPRBS 20 off (fun i => if ((port s (i / 5)).lane (i % 5)).injFrom.isSome then
      (injSettle s i (injCount s i) true).setWord (R.LNK_LPRBS i) 0#32 else s)
  onReg s R.LNK_LCTL 20 off (fun i => laneControl s0 s i ((F.LNK_LCTL_INJ i).get v == 1))

def effectTim (s0 s : State) (off : Nat) (v : Word) : State :=
  if off = R.TIM_CFG then
    -- a SOURCE without a reference is FREE (R365)
    let s := if isSender s && isSet s F.TIM_CFG_ROLE && getF s F.TIM_CFG_DISC == 0 then setServo s tFree else s
    genShow (genShow s (getF s0 F.TIM_CFG_CADGEN)) (getF s F.TIM_CFG_CADGEN)
  else if off = R.TIM_ADJ then stepTime s (signed 32 v.toNat * 2 ^ 28)
  else if off = R.TIM_REFCFG then (if F.TIM_REFCFG_ARM.get v = 1 then setF s F.TIM_REFCFG_ARMED 1 else s)
  else
    let s := onReg s R.TIM_PGCFG 16 off (fun g =>
      if rises s0 (F.TIM_PGCFG_EN g) v then genEnable s g else if falls s0 (F.TIM_PGCFG_EN g) v then genStop (genLast s g) g else s)
    onReg s R.TIM_CAPCFG 4 off (fun c => if rises s0 (F.TIM_CAPCFG_EN c) v then capStart s c else s)

def effectTan (s0 s : State) (off : Nat) (v : Word) : State :=
  if off = R.TAN_CFG then
    if rises s0 F.TAN_CFG_EN v then tanEnable s
    else if falls s0 F.TAN_CFG_EN v then tanDisable s
    else holdCheck s
  else if off = R.TAN_SNAPCFG then holdCheck s
  else if off = R.TAN_CTL then (if F.TAN_CTL_TAKE.get v = 1 then takeover s else s)
  else if off = R.TAN_RENUM then renum s (F.TAN_RENUM_EPOCH.get v)
  else s

def effectLmp (s0 s : State) (off : Nat) (v : Word) : State :=
  if off = R.LMP_DIM then dimArm s
  else if off = R.LMP_CTL then
    if rises s0 F.LMP_CTL_EN v then lmpEnable s
    else if falls s0 F.LMP_CTL_EN v then lmpDisable s
    else lampDrop s
  else s

def effectSpk (s0 s : State) (off : Nat) (v : Word) : State :=
  if off = R.SPK_CTL then
    if rises s0 F.SPK_CTL_EN v then spkEnable s
    else if falls s0 F.SPK_CTL_EN v then spkDisable s
    else if F.SPK_CTL_RELOAD.get v = 1 then spkReload s
    else s
  else if off = R.SPK_FDCTL then (if F.SPK_FDCTL_CLEAR.get v = 1 then faultClear s else s)
  else s

def effectThm (s : State) (off : Nat) : State :=
  if off = R.THM_CFG ∨ off = R.THM_EXCL ∨ off = R.THM_FAIL then thmEval s 0
  else if off = R.THM_PWR then powerRequest s
  else s

def effectCal (s0 s : State) (off : Nat) (v : Word) : State :=
  if off = R.CAL_CTL then
    let s := if falls s0 F.CAL_CTL_EN v then calDisable s else s
    if F.CAL_CTL_START.get v = 1 then calManual s else s
  else s

def effectUpd (s : State) (off : Nat) (v : Word) : State :=
  if off = R.UPD_CTL then
    let s := if F.UPD_CTL_CONFIRM.get v = 1 then hostConfirm s else s
    if F.UPD_CTL_ABANDON.get v = 1 then (abandon s).2 else s
  else if off = R.UPD_RECOV then (if F.UPD_RECOV_GO.get v = 1 then recoveryGo s else s)
  else s

/-- What an accepted write of `v` at `off` sets in motion: `s0` is the state before it, `s` has the value stored. -/
def regEffect (s0 s : State) (off : Nat) (v : Word) : State :=
  match off / 0x10000 with
  | 0x00 => effectGlb s0 s off v
  | 0x02 => if off = R.HIF_LINKCFG ∧ F.HIF_LINKCFG_RETRAIN.get v = 1 then linkRetrain s else s
  | 0x04 | 0x05 | 0x06 | 0x07 => effectQue s0 s off v
  | 0x08 => onReg s R.DMA_CHCFG 64 off (fun c => dmaShow (chanConfig s c) c)
  | 0x09 => effectSor s0 s off v
  | 0x0A => if off = R.SRF_CTL ∧ rises s0 F.SRF_CTL_EN v then srfEnable s else s
  | 0x0B => if off = R.CMP_CTL ∧ falls s0 F.CMP_CTL_EN v then engineStop s else s
  | 0x0C => effectFrt s0 s off v
  | 0x0D =>
    if off = R.CHN_INBOX ∧ rises s0 F.CHN_INBOX_EN v then s.setWord R.CHN_INBOXIDX 0#32 else s
  | 0x0E => effectLnk s0 s off v
  | 0x0F => effectTim s0 s off v
  | 0x10 => effectTan s0 s off v
  | 0x11 => effectLmp s0 s off v
  | 0x12 => effectSpk s0 s off v
  | 0x13 =>
    if off = R.DRC_FREQ ∧ F.DRC_FREQ_GO.get v = 1 then freqGo s (F.DRC_FREQ_FSP.get v) (F.DRC_FREQ_FORCE.get v == 1) else s
  | 0x14 => effectThm s off
  | 0x15 => effectCal s0 s off v
  | 0x17 => effectUpd s off v
  | _ => s

/-! ### Writes (R5, R98) -/

/-- Is the recovery window open (R583)? -/
def recovOpen (s : State) : Bool := stage s == 9 && isSet s F.HIF_LINKSTAT_UP

/-- Store a word in the recovery window (R583). -/
def recovWr (s : State) (a : Nat) (v : Word) : State :=
  { s with upd := { s.upd with recov := wrBytes recovFill s.upd.recov a (leBytes 4 v.toNat) } }

/-- A 4-byte write at a BAR0 offset that is a multiple of 4, from source `src` of R102: its code, and the state after.
DESIGN CHOICE (log entry 109). -/
def regWrite (s : State) (src off : Nat) (v : Word) : Status × State :=
  if 0x30000 ≤ off ∧ off < 0x38100 ∧ !dormant s 0x02 then
    (.ok, if off < 0x38000 then sendPending (setMsixWord s off v) else s)
  else if 0x800000 ≤ off ∧ off < 0xC00000 ∧ recovOpen s then
    (.ok, recovWr s (off - 0x800000) v)
  else
    match writeCode s off v with
    | .ok => (.ok, regEffect s (storeReg s off v) off v)
    | c => (c, logError s src off c)

/-- Does the host reach the function: UCIe trained, HIF at work, and not D3hot (R96, R98)? -/
def barOpen (s : State) : Bool := blkOn s 0x02 && isSet s F.HIF_LINKSTAT_UP && !s.hif.d3hot

/-- A 4-byte host write of a register. -/
def hostWrite (s : State) (off : Nat) (v : Word) : State := if barOpen s then (regWrite s srcBar0 off v).2 else s

/-- A write of `size` bytes at a BAR0 offset (R98): 8 bytes are two writes, the lower offset first; any other size or alignment
is refused. Where the lower half makes the link drop (RETRAIN), the upper half is dropped with it. DESIGN CHOICE (log entry 150). -/
def barWrite (s : State) (size off v : Nat) : State :=
  if !barOpen s then s
  else if size = 4 ∧ off % 4 = 0 then hostWrite s off (BitVec.ofNat 32 v)
  else if size = 8 ∧ off % 8 = 0 then
    hostWrite (hostWrite s off (BitVec.ofNat 32 v)) (off + 4) (BitVec.ofNat 32 (v / 2 ^ 32))
  else logError s srcBar0 off (misalignCode s off)

/-! ### Reads -/

/-- HOLDMS (R390). -/
def holdMs (s : State) : Nat :=
  match s.tim.holdFrom with
  | some t => if servo s = tHoldover then min 0xFFFF ((upNs s - t) / 1000000) else 0
  | none => 0

/-- SOR_QAGE (R173): the age of the oldest held item of a queue; 0 where none of them is ready yet. DESIGN CHOICE (log entry 152). -/
def queueAge (s : State) (q : Nat) : Nat :=
  ((heldItems s).filter (fun i => i.q == q && serialOk s i)).foldl (fun n i => max n (itemAge i)) 0
where
  /-- ns since an item became ready, saturated; modulo 2^32 after a step back over that instant. -/
  itemAge (i : Item) : Nat := if i.ready ≤ extNs s then min (extNs s - i.ready) (2 ^ 32 - 1) else msub 32 (extNs s) i.ready

/-- A register word with a field replaced for the reader. -/
def shown (w : Word) (f : Fld) (v : Nat) : Word := f.put w v

/-- CAL registers of the lanes of a dormant port, or of a DRAM channel that is not enabled, read their reset values (R535, R532). -/
def calAway (s : State) (off : Nat) : Bool :=
  (0x150200 ≤ off && off < 0x150280 && !chanOn s ((off - 0x150200) / 0x10)) ||
  (0x151000 ≤ off && off < 0x151140 && portDormant s ((off - 0x151000) / 0x10 / 5))

/-- The value of a register that is computed at the read. -/
def computed (s : State) (off : Nat) (w : Word) : Word :=
  if off = 0x50 then shown w F.GLB_RAILSTAT_NOW (((List.range 10).map (fun k => if s.boot.low.contains k then 0 else 2 ^ k)).sum)
  else if off = R.CLK_LOCK then shown w F.CLK_LOCK_LOCK (pllLock s)
  else if off = R.TIM_STAT then
    shown (shown (shown w F.TIM_STAT_SPORT (syncPort s)) F.TIM_STAT_REFHOLD (getF s F.CLK_LOCK_HOLDOVER)) F.TIM_STAT_HOLDMS (holdMs s)
  else if off = R.TAN_STAT then shown w F.TAN_STAT_HOLDLEFT (holdLeft s)
  else if off = R.TAN_CLAIM then shown w F.TAN_CLAIM_RANK (getF s F.TAN_CFG_RANK)
  else if off = R.TAN_TSTAT then shown (shown w F.TAN_TSTAT_LIVE0 (b2n (tileLive s 0))) F.TAN_TSTAT_LIVE1 (b2n (tileLive s 1))
  else if off = R.TAN_SNAPSTAT then shown w F.TAN_SNAPSTAT_GAP (snapGap s)
  else if off = R.LMP_MNEED then BitVec.ofNat 32 (mneed s)
  else if off = R.SPK_FLDATA then BitVec.ofNat 32 (faultEntry s)
  else if off = R.SEC_STAT then
    shown (shown (shown (shown w F.SEC_STAT_LIFE s.sec.life) F.SEC_STAT_DEBUG s.sec.dbg) F.SEC_STAT_IDKEY (b2n s.sec.idkey))
      F.SEC_STAT_SVN s.sec.svn
  else if off = R.SEC_MDATA then BitVec.ofNat 32 (beAt (meas s (getF s F.SEC_MSEL_REG)) (4 * getF s F.SEC_MSEL_WORD) 4)
  else
    match regIdx R.SOR_QDEPTH 4096 off, regIdx R.SOR_QAGE 4096 off, regIdx R.CHN_PORTCTL 4 off, regIdx R.SEC_UID 4 off with
    | some q, _, _, _ =>
      shown (shown w (F.SOR_QDEPTH_DEPTH q) (msub 16 (qTail s q) (qRetire s q))) (F.SOR_QDEPTH_HELD q) (heldCount s q)
    | _, some q, _, _ => BitVec.ofNat 32 (queueAge s q)
    | _, _, some p, _ => shown w (F.CHN_PORTCTL_CLKMODE p) (getF s F.LNK_CFG_CLKMODE)
    | _, _, _, some k => BitVec.ofNat 32 (beAt unitUid (4 * k) 4)
    | _, _, _, _ =>
      match regIdx R.THM_OD 12 off, regIdx R.THM_TD 16 off, regIdx R.LNK_LPRBS 20 off with
      | some k, _, _ => shown w (F.THM_OD_FAILED k) (b2n (thmFailed s k))
      | _, some z, _ => shown w (F.THM_TD_FAILED z) (b2n (thmFailed s (16 + z)))
      | _, _, some i => BitVec.ofNat 32 (min 0xFFFFFFFF (w.toNat + injCount s i))
      | _, _, _ => w

/-- Does a register read its reset value: a dormant block (R13), a dormant port (R302), the other role's registers (R412), or an
absent lane or channel? -/
def readsReset (s : State) (off : Nat) : Bool := dormant s (regBlock off) || portReg s off || tanOther s off || calAway s off

/-- A read that removes an event (R606). With none queued the copies keep their values. DESIGN CHOICE (log entry 108). -/
def eventRead (s : State) : Word × State :=
  match s.hif.events with
  | [] => (0#32, s)
  | e :: l =>
    let s := { s with hif := { s.hif with events := l } }
    let s := ((s.setWord R.GLB_EVTTIME (BitVec.ofNat 32 e.time)).setWord R.GLB_EVTDET0 (BitVec.ofNat 32 (beAt e.det 0 4))).setWord
      R.GLB_EVTDET1 (BitVec.ofNat 32 (beAt e.det 4 4))
    (BitVec.ofNat 32 (e.code % 2 ^ 16 + 2 ^ 16 * (l.length % 128) + 2 ^ 31), s)

/-- A read of TIM_NOWLO (R358). -/
def nowRead (s : State) : Word × State :=
  (BitVec.ofNat 32 (timeNs s), (s.setWord R.TIM_NOWFR (BitVec.ofNat 32 (timeFrac s))).setWord R.TIM_NOWWR (BitVec.ofNat 32 s.wraps))

/-- A read of DMA_CHBYTLO (R152): `bytes` of the channel record counts modulo 2^64. -/
def bytesRead (s : State) (c : Nat) : Word × State :=
  (BitVec.ofNat 32 (chan s c).bytes, s.setWord (R.DMA_CHBYTHI c) (BitVec.ofNat 32 ((chan s c).bytes / 2 ^ 32)))

/-- A 4-byte read at a BAR0 offset that is a multiple of 4: its value, and the state after. An offset that holds no register
reads 0 (R98). -/
def regRead (s : State) (off : Nat) : Word × State :=
  if 0x30000 ≤ off ∧ off < 0x38100 then (if dormant s 0x02 then 0#32 else msixWord s off, s)
  else if 0x800000 ≤ off ∧ off < 0xC00000 then
    (if recovOpen s then BitVec.ofNat 32 (leNat (rdBytes recovFill s.upd.recov (off - 0x800000) 4)) else 0#32, s)
  else
    match regAt off with
    | none => (0#32, s)
    | some r =>
      if readsReset s off then (BitVec.ofNat 32 r.resetNat, s)
      else if off = R.GLB_EVTQ then eventRead s
      else if off = R.TIM_NOWLO then nowRead s
      else if off = R.SEC_NONCE 0 then let s := drawNonce s; (s.word off, s)
      else
        match regIdx R.DMA_CHBYTLO 64 off, regIdx R.TIM_CAPLO 4 off with
        | some c, _ => bytesRead s c
        | _, some c => let (v, s) := capRead s c; (BitVec.ofNat 32 v, s)
        | _, _ => (computed s off (s.word off), s)

/-- A 4-byte host read of a register: its completion carries the value. -/
def hostRead (s : State) (off : Nat) : State :=
  if barOpen s then let (w, s) := regRead s off; emit s (.readData off w.toNat) else s

end Sys2Proof.Machine
end

