-- ==== Sys2Proof/Machine/Host.lean ====
section
/-! DEFINITION. Commands of the host interface: register writes and reads with a row of their own, block resets, queues and
doorbells, host reads that time out, and the end of the UCIe window (R5, R79 to R86, R98, R102, R108 to R121, R139). A command that
is a register write takes the word written; the field that names the command is set to the value the command stands for. -/

namespace Sys2Proof.Machine

/-- A host write of a register in which field `f` has value `x`. -/
def fieldWrite (s : State) (f : Fld) (x : Nat) (v : Word) : Result := .next (hostWrite s f.off (f.put v x))

/-! ### Register writes and reads (R5, R98, R102, R152, R358, R384, R540, R606) -/

/-- REGISTER_WRITE (R5): `size` bytes of `v` at a BAR0 offset. -/
def execRegisterWrite (size off v : Nat) (s : State) : Result := .next (barWrite s size off v)

/-- ERRINFO_CLEAR (R102). -/
def execErrinfoClear (s : State) : Result := fieldWrite s F.GLB_ERRINFO_VALID 1 0#32

/-- What a 4-byte read of BAR2 returns (R118): TAIL and RETIRE at offset 0 of a queue's page, 0 elsewhere and where QUE is dormant
(R13). -/
def doorbellRead (s : State) (off : Nat) : Nat :=
  if off / 4096 < 4096 ∧ off % 4096 = 0 ∧ !dormant s 0x04 then qTail s (off / 4096) + 2 ^ 16 * qRetire s (off / 4096) else 0

/-- A 4-byte host read of BAR0 or BAR2. -/
def barRead4 (s : State) (bar2 : Bool) (off : Nat) : State :=
  if bar2 then emit s (.readData off (doorbellRead s off)) else hostRead s off

/-- A host read of BAR0 or BAR2 (R98): 8 bytes are two reads, the lower offset first; any other size or alignment returns all ones
and is logged with ALIGN. -/
def barRead (s : State) (bar2 : Bool) (size off : Nat) : State :=
  if size = 4 ∧ off % 4 = 0 then barRead4 s bar2 off
  else if size = 8 ∧ off % 8 = 0 then barRead4 (barRead4 s bar2 off) bar2 (off + 4)
  else emit (logError s (if bar2 then srcBar2 else srcBar0) off .align) (.readData off 0xFFFFFFFF)

/-- BAR_MISALIGNED_READ (R98): a read of BAR0, or of BAR2, of any size and alignment; the table has no row of its own for the reads
that are accepted. DESIGN CHOICE (log entry 124). -/
def execBarMisalignedRead (bar2 : Bool) (size off : Nat) (s : State) : Result :=
  .next (if barOpen s then barRead s bar2 size off else s)

/-- EVTQ_READ (R606). -/
def execEvtqRead (s : State) : Result := .next (hostRead s R.GLB_EVTQ)

/-- DMA_BYTES_READ (R152). -/
def execDmaBytesRead (c : Nat) (s : State) : Result := .next (if c < 64 then hostRead s (R.DMA_CHBYTLO c) else s)

/-- TIM_NOW_READ (R358). -/
def execTimNowRead (dt : Nat) (s : State) : Result := .next (hostRead (advance dt s) R.TIM_NOWLO)

/-- TIM_CAP_READ (R384). -/
def execTimCapRead (c : Nat) (s : State) : Result := .next (if c < 4 then hostRead s (R.TIM_CAPLO c) else s)

/-- SEC_NONCE_READ (R540). -/
def execSecNonceRead (s : State) : Result := .next (hostRead s (R.SEC_NONCE 0))

/-! ### Resets (R79, R80, R81) -/

/-- WARM_RESET_SOFTWARE (R79). -/
def execWarmResetSoftware (s : State) : Result := fieldWrite s F.GLB_WARMRST_KEY 0xA5 0#32

/-- A write of a 1 to the bit of block `k` (R80). -/
def blockResetWrite (s : State) (k : Nat) : Result := .next (hostWrite s R.GLB_BLKRST (BitVec.ofNat 32 (2 ^ k)))

def execQueBlockReset (s : State) : Result := blockResetWrite s 0x04
def execDmaBlockReset (s : State) : Result := blockResetWrite s 0x08
def execSorBlockReset (s : State) : Result := blockResetWrite s 0x09
def execSrfBlockReset (s : State) : Result := blockResetWrite s 0x0A
def execCmpBlockReset (s : State) : Result := blockResetWrite s 0x0B
def execFrtBlockReset (s : State) : Result := blockResetWrite s 0x0C
def execChnBlockReset (s : State) : Result := blockResetWrite s 0x0D
def execLnkBlockReset (s : State) : Result := blockResetWrite s 0x0E
def execTimBlockReset (s : State) : Result := blockResetWrite s 0x0F
def execTanBlockReset (s : State) : Result := blockResetWrite s 0x10
def execLmpBlockReset (s : State) : Result := blockResetWrite s 0x11
def execSpkBlockReset (s : State) : Result := blockResetWrite s 0x12
def execCalBlockReset (s : State) : Result := blockResetWrite s 0x15
def execDbgBlockReset (s : State) : Result := blockResetWrite s 0x19

/-- BLOCK_RESET_END (R81): block `k` leaves reset. -/
def execBlockResetEnd (dt k : Nat) (s : State) : Result :=
  let s := advance dt s
  .next (if inReset s ∨ power s = 4 then s else blockResetEnd s k)

/-! ### UCIe (R86, R94) -/

/-- HIF_RETRAIN (R94): `v` carries MODMASK and MAXRATE. -/
def execHifRetrain (v : Word) (s : State) : Result := fieldWrite s F.HIF_LINKCFG_RETRAIN 1 v

/-- The queue settings of the flash configuration, as writes of QUE and SOR registers; a refused one changes nothing (R125). -/
def queueSettings (s : State) (qs : List (Nat × Word)) : State :=
  qs.foldl (fun s e =>
    if (0x40000 ≤ e.1 ∧ e.1 < 0x80000) ∨ (0x90000 ≤ e.1 ∧ e.1 < 0xA0000) then
      match writeCode s e.1 e.2 with
      | .ok => regEffect s (storeReg s e.1 e.2) e.1 e.2
      | _ => s
    else s) s

/-- The window closes with no trained link: R20, R21 or R22 applies by the strap; the next window of a unit that holds opens 1 s after
this close. DESIGN CHOICE (log entry 12). DESIGN CHOICE (log entry 114). -/
def windowClose (s : State) (qs : List (Nat × Word)) (ms : Nat) : State :=
  if s.boot.ucie ≠ .closed ∨ s.boot.fails ≠ 3 then s
  else
    let s := { s with boot := { s.boot with fails := 0 } }
    if strapFault s then { s with boot := { s.boot with due := upNs s + 1000000000 } }
    else if stage s = 6 then
      if strap s = 2 then toReady (queueSettings (setF s F.GLB_ROLE_HOSTLESS 1) qs) ms
      else { setBootStage (setF s F.GLB_ROLE_HOLD 1) 8 with boot := { s.boot with due := upNs s + 1000000000 } }
    else if stage s = 8 then { s with boot := { s.boot with due := upNs s + 1000000000 } }
    else s

/-- UCIE_WINDOW_CLOSE (R86): `qs` are the queue settings of the flash configuration (R125), `ms` the time since t0. -/
def execUcieWindowClose (qs : List (Nat × Word)) (ms : Nat) (s : State) : Result := whenOn 0x02 s (fun s => windowClose s qs ms)

/-! ### Queues (R110, R116, R119 to R121) -/

/-- A write of QUE_CTL of queue `q`: ENABLE as it stands unless the command sets it, and the WO bit named.
DEDUCED (log entry 115). -/
def queueWrite (s : State) (q : Nat) (w : Nat) : Result :=
  .next (if q < 4096 then hostWrite s (R.QUE_CTL q) (BitVec.ofNat 32 w) else s)

/-- QUEUE_ENABLE (R110). -/
def execQueueEnable (q : Nat) (s : State) : Result := queueWrite s q 1

/-- QUEUE_DISABLE (R110). -/
def execQueueDisable (q : Nat) (s : State) : Result := queueWrite s q 0

/-- QUEUE_STOP (R121). -/
def execQueueStop (q : Nat) (s : State) : Result := queueWrite s q (getF s (F.QUE_CTL_ENABLE q) + 2)

/-- QUEUE_RESUME (R110). -/
def execQueueResume (q : Nat) (s : State) : Result := queueWrite s q (getF s (F.QUE_CTL_ENABLE q) + 4)

/-- The code that the state of QUE gives a write at a BAR2 offset, whatever it carries; else `c` (R13, R81, R607). -/
def doorState (s : State) (off : Nat) (c : Status) : Status :=
  if dormant s 0x04 ∧ off / 4096 < 4096 ∧ off % 4096 / 4 = 0 then .notPermitted else if blkReset s 0x04 then .wrongState else c

/-- A 4-byte write at a BAR2 offset: each queue has a 4 KiB page whose first 4 bytes are its doorbell (R118, R119).
DESIGN CHOICE (log entry 110). -/
def doorbellWrite (s : State) (off v : Nat) : State :=
  let q := off / 4096
  if 4096 ≤ q ∨ off % 4096 ≠ 0 then logError s srcBar2 off (doorState s off .range)
  else if dormant s 0x04 then logError s srcBar2 off .notPermitted
  else if blkReset s 0x04 then logError s srcBar2 off .wrongState
  else
    match doorbellCheck s q v with
    | .ok => acceptTail s q v
    | c => logError s srcBar2 off c

/-- A write of `size` bytes at a BAR2 offset: BAR2 accepts the sizes of BAR0 (R98, R118). -/
def doorbell (s : State) (size off v : Nat) : State :=
  if size = 4 ∧ off % 4 = 0 then doorbellWrite s off (v % 2 ^ 32)
  else if size = 8 ∧ off % 8 = 0 then doorbellWrite (doorbellWrite s off (v % 2 ^ 32)) (off + 4) (v / 2 ^ 32 % 2 ^ 32)
  else logError s srcBar2 off (doorState s off .align)

/-- DOORBELL (R119). -/
def execDoorbell (size off v : Nat) (s : State) : Result := .next (if barOpen s then doorbell s size off v else s)

/-- RING_READ_COMPLETE (R116): the read of queue `q`'s entry at FETCH returns. -/
def execRingReadComplete (q : Nat) (res : RdRes) (s : State) : Result := whenOn 0x04 s (fun s => onRead s (.ring q) (fun s => ringRead s q res))

/-- RING_RECHECK_TIMEOUT (R120). -/
def execRingRecheckTimeout (dt q : Nat) (s : State) : Result := whenOn 0x04 (advance dt s) (fun s => recheckTimeout s q)

/-! ### Host reads without a completion (R139) -/

/-- The requester of a host read that timed out fails with TIMEOUT. -/
def readExpired (s : State) (who : Rd) : State :=
  match who with
  | .ring q =>
    if (qrec s q).reading then
      let s := setQrec s q { qrec s q with reading := false, final := false }
      if qState s q = qRunning then queueError s q .timeout else s
    else s
  | .slot t u => slotFail s t u .timeout
  | .data c => readFail s c .timeout
  | .seg c shadow dst => segFail s c shadow dst .timeout
  | .page vp => prefetchFail s vp .timeout
  | .svc => s

/-- The time that completion timeouts count: it stands while Bus Master Enable is 0 (R97, R139). -/
def readClock (s : State) : Nat := s.hif.shutAt.getD (upNs s)

/-- A host read has had no completion within the DMA_TOCFG.TOUS of its issue (R139, R148): it fails, if it is still wanted. -/
def readTimeout (s : State) (who : Rd) : State :=
  match s.hif.reads.find? (fun r => r.who == who) with
  | some r =>
    if r.due ≤ readClock s then
      let s := endRead s who
      let s := { s with hif := { s.hif with timedOut := s.hif.timedOut + 1 } }
      if r.live then readExpired s who else s
    else s
  | none => s

/-- HOST_READ_TIMEOUT (R139). -/
def execHostReadTimeout (dt : Nat) (who : Rd) (s : State) : Result := whenOn 0x02 (advance dt s) (fun s => readTimeout s who)

/-- LATE_COMPLETION (R139). -/
def execLateCompletion (s : State) : Result :=
  whenOn 0x02 s (fun s =>
    if 0 < s.hif.timedOut then
      incSat { s with hif := { s.hif with timedOut := s.hif.timedOut - 1 } } F.DMA_GSTAT_LATECPL
    else s)

end Sys2Proof.Machine
end

