-- ==== Sys2Proof/Machine/Jtag.lean ====
section
/-! DEFINITION. DBG: the IEEE 1149.1 instructions (R541, R601). An instruction that the debug level does not permit selects BYPASS.
Selecting another instruction ends EXTEST. -/

namespace Sys2Proof.Machine

/-- Debug levels (R541): 0 LOCKED, 1 OWNER-DEBUG, 2 VENDOR-DEBUG. -/
def debugLevel (s : State) : Nat := s.sec.dbg

/-- An instruction other than EXTEST is selected. -/
def leaveExtest (s : State) : State := { s with sec := { s.sec with extest := false } }

/-- DBGTOKEN: 304 bytes shift in, and the code of the checks is captured. -/
def dbgToken (s : State) (t : Bytes) : State :=
  let (c, s) := tokenTake (leaveExtest s) (fit 304 t)
  emit s (.jtag [byte c.code])

/-- DBGNONCE: as a read of SEC_NONCE0, the whole nonce. -/
def dbgNonce (s : State) : State :=
  let s := drawNonce (leaveExtest s)
  emit s (.jtag (s.sec.nonce.getD []))

/-- REGACC: a 4-byte write (`some v`) or read of a BAR0 offset, logged with SRC = 3 where it is refused.
DESIGN CHOICE (log entry 112). -/
def regAcc (s : State) (off : Nat) (v : Option Word) : State :=
  let s := leaveExtest s
  if debugLevel s = 0 then s
  else if off % 4 ≠ 0 then
    let s := logError s srcJtag off .align
    if v.isSome then s else emit s (.jtag (beBytes 4 0xFFFFFFFF))
  else
    match v with
    | some w => (regWrite s srcJtag off w).2
    | none => let (w, s) := regRead s off; emit s (.jtag (beBytes 4 w.toNat))

/-- MEMACC: a write or a read of `n` bytes of DRAM or SRAM. The spec gives SRAM no layout: what is read there is a free value, and
no state of the model lies there. DRAM answers it as it does the service cores (R483, R485): an uncorrectable block gives no data, and
what is shifted out is a free value. DESIGN CHOICE (log entry 112). -/
def memAcc (s : State) (sram : Bool) (addr n : Nat) (data : Option Bytes) : State :=
  let s := leaveExtest s
  if debugLevel s ≠ 2 then s
  else
    let held := !sram && decide (addr + n ≤ 64 * drcBlocks s)
    match data with
    | some b => if held then dramStore s 7 addr (fit n b) else s
    | none =>
      if held && !dramBad s addr n then emit s (.jtag (dramRd s addr n))
      else if held then let (b, s) := drawBytes (noteBad s addr n) n; emit s (.jtag b)
      else let (b, s) := drawBytes s n; emit s (.jtag b)

/-- TRACE: `n` bytes of trace, whose content the spec does not state. DESIGN CHOICE (log entry 32). -/
def trace (s : State) (n : Nat) : State :=
  let s := leaveExtest s
  if debugLevel s = 0 then s else let (b, s) := drawBytes s n; emit s (.jtag b)

/-- EXTEST: the lamp pads take their Reset states for as long as it is selected. DESIGN CHOICE (log entry 33). -/
def extestOn (s : State) : State := scanOff (lampDrop { s with sec := { s.sec with extest := true } })

/-! ### The commands -/

/-- DBG works: it is in every strap and lifecycle (R19, R541). -/
def whenDbg (s : State) (f : State → State) : Result := whenOn 0x19 s f

/-- DBGTOKEN (R541). -/
def execDbgtoken (t : Bytes) (s : State) : Result := whenDbg s (fun s => dbgToken s t)

/-- DBGNONCE (R541). -/
def execDbgnonce (s : State) : Result := whenDbg s dbgNonce

/-- REGACC (R541). -/
def execRegacc (off : Nat) (v : Option Word) (s : State) : Result := whenDbg s (fun s => regAcc s off v)

/-- MEMACC (R541). -/
def execMemacc (sram : Bool) (addr n : Nat) (data : Option Bytes) (s : State) : Result :=
  whenDbg s (fun s => memAcc s sram addr n data)

/-- TRACE (R541). -/
def execTrace (n : Nat) (s : State) : Result := whenDbg s (fun s => trace s n)

/-- EXTEST (R541). -/
def execExtest (s : State) : Result := whenDbg s extestOn

end Sys2Proof.Machine
end

