-- ==== Sys2Proof/Machine/Letters.lean ====
section
/-! DEFINITION. Letters that a tile carries out for a sender: remote register access, ring filling and reading, and the emptying of
a key slot (R123, R333, R335, R336). -/

namespace Sys2Proof.Machine

/-! ### Remote register access (R335) -/

/-- One entry of REG_READ or REG_WRITE: its 8 bytes of reply, and the state after. A write entry refused for its OFFSET is not logged:
it touches no register. DESIGN CHOICE (log entry 143). -/
def regEntry (s : State) (write : Bool) (e : Bytes) : Bytes × State :=
  let off := beAt e 0 4
  let v := beAt e 4 4
  let rep (c : Status) (x : Nat) : Bytes := byte c.code :: zeros 3 ++ beBytes 4 x
  if off / 2 ^ 24 ≠ 0 then (rep .range (if write then v else 0), s)
  else if off % 4 ≠ 0 then (rep .align (if write then v else 0), s)
  else if write then
    let (c, s) := regWrite s srcLetter off (BitVec.ofNat 32 v)
    (rep c v, s)
  else
    let (w, s) := regRead s off
    (rep .ok w.toNat, s)

/-- The entries in order. -/
def regEntries (write : Bool) : List Bytes → State → Bytes × State
  | [], s => ([], s)
  | e :: t, s =>
    let (b, s) := regEntry s write e
    let (r, s) := regEntries write t s
    (b ++ r, s)

/-- Is the form of a REG_READ or REG_WRITE letter right? -/
def regForm (c : Bytes) : Bool :=
  let n := byteAt c 0
  1 ≤ n && n ≤ 16 && allZero (slice c 1 3) && c.length == 4 + 8 * n

/-- A REG_READ or REG_WRITE letter. DEDUCED (log entry 70). -/
def regLetter (s : State) (write : Bool) (l : Letter) : State :=
  if regForm l.content then
    let (b, s) := regEntries write ((List.range (byteAt l.content 0)).map (fun i => slice l.content (4 + 8 * i) 8)) s
    answer s l .ok b
  else refuse s l .illegalValue

/-! ### Ring memory (R123, R336) -/

/-- Code, TAIL and RETIRE of a ring letter's reply; where no queue is named both indices are 0. -/
def ringAnswer (s : State) (l : Letter) (c : Status) (q : Nat) (rest : Bytes) : State :=
  let idx (n : Nat) : Bytes := beBytes 2 (if q < 4096 then n else 0)
  answer s l c (0#8 :: idx (qTail s q) ++ idx (qRetire s q) ++ rest)

/-- A RING_FILL letter: bytes beyond its content read 0x00. DESIGN CHOICE (log entry 111). -/
def ringFillLetter (s : State) (l : Letter) : State :=
  let q := beAt l.content 0 2
  let f := beAt l.content 2 2
  let n := byteAt l.content 4
  match ringFillCheck s q f n with
  | .ok =>
    let s := ringFillWrite s q f ((List.range n).map (fun k => slice l.content (8 + 57 * k) 57))
    let s := acceptTail s q ((f + n) % 65536)
    ringAnswer s l .ok q []
  | c => ringAnswer s l c q []

/-- A RING_READ letter. -/
def ringReadLetter (s : State) (l : Letter) : State :=
  let q := beAt l.content 0 2
  let i := beAt l.content 2 2
  let n := byteAt l.content 4
  match ringReadCheck s q i n with
  | .ok => ringAnswer s l .ok q (zeros 2 ++ (List.range n).flatMap (fun k => ringRd s (slotAddr s q (i + k)) 64))
  | c => ringAnswer s l c q []

/-! ### Key slots (R333) -/

/-- A KEY_DROP letter. -/
def keyDrop (s : State) (l : Letter) : State :=
  if l.content.length ≠ 1 then refuse s l .illegalValue
  else if 3 < byteAt l.content 0 then refuse s l .range
  else answer (setKeySlot s (byteAt l.content 0) none) l .ok []

/-! ### The commands. Each takes the oldest complete letter of its type. -/

/-- Letters are carried out by a tile whose CHN works. -/
def tileLetterStep (s : State) (ltype : Nat) (f : State → Letter → State) : Result :=
  whenOn 0x0D s (fun s => if isTile s then onLetter s ltype f else s)

/-- REG_READ_LETTER (R335). -/
def execRegReadLetter (s : State) : Result := tileLetterStep s 1 (fun s l => regLetter s false l)

/-- REG_WRITE_LETTER (R335). -/
def execRegWriteLetter (s : State) : Result := tileLetterStep s 2 (fun s l => regLetter s true l)

/-- RING_FILL_LETTER (R123). -/
def execRingFillLetter (s : State) : Result := tileLetterStep s 3 ringFillLetter

/-- RING_READ_LETTER (R336). -/
def execRingReadLetter (s : State) : Result := tileLetterStep s 4 ringReadLetter

/-- KEY_DROP_LETTER (R333). -/
def execKeyDropLetter (s : State) : Result := tileLetterStep s 9 keyDrop

end Sys2Proof.Machine
end

