-- ==== Sys2Proof/Machine/Rows.lean ====
section
/-! DEFINITION. Commands that are register writes of one block with a row of their own, and the pulse of a generator. Each takes
the other fields of the register as the word `v` and the index of its group; the field that names the command is set. -/

namespace Sys2Proof.Machine

/-- A host write of the register of field `f` with that field at `x`, where the index is one of the group's. -/
def indexWrite (s : State) (i n : Nat) (f : Fld) (x : Nat) (v : Word) : Result :=
  .next (if i < n then hostWrite s f.off (f.put v x) else s)

/-! ### SRF, CMP, FRT (R197, R234, R242, R248, R255) -/

/-- SRF_ENABLE (R197). -/
def execSrfEnable (s : State) : Result := fieldWrite s F.SRF_CTL_EN 1 0#32

/-- CMP_ENABLE (R234): `v` carries the other fields of CMP_CTL. -/
def execCmpEnable (v : Word) (s : State) : Result := fieldWrite s F.CMP_CTL_EN 1 v

/-- CMP_DISABLE (R234). -/
def execCmpDisable (v : Word) (s : State) : Result := fieldWrite s F.CMP_CTL_EN 0 v

/-- COMMIT_GO (R242). -/
def execCommitGo (dt : Nat) (s : State) : Result := fieldWrite (advance dt s) F.FRT_COMMIT_GO 1 0#32

/-- FRT_ENABLE (R248): `v` carries GEN and QDEPTH. -/
def execFrtEnable (dt : Nat) (v : Word) (s : State) : Result := fieldWrite (advance dt s) F.FRT_CTL_EN 1 v

/-- FRT_DISABLE (R255). -/
def execFrtDisable (dt : Nat) (v : Word) (s : State) : Result := fieldWrite (advance dt s) F.FRT_CTL_EN 0 v

/-! ### LNK (R300, R303, R307) -/

/-- PORT_ENABLE (R303): `v` carries PRESET. -/
def execPortEnable (p : Nat) (v : Word) (s : State) : Result := indexWrite s p 4 (F.LNK_PCTL_EN p) 1 v

/-- PORT_DISABLE (R303). -/
def execPortDisable (p : Nat) (v : Word) (s : State) : Result := indexWrite s p 4 (F.LNK_PCTL_EN p) 0 v

/-- PORT_RETRAIN (R303). -/
def execPortRetrain (p : Nat) (v : Word) (s : State) : Result := indexWrite s p 4 (F.LNK_PCTL_RETRAIN p) 1 v

/-- PORT_TEST_ENTER (R300). -/
def execPortTestEnter (p : Nat) (v : Word) (s : State) : Result := indexWrite s p 4 (F.LNK_PCTL_TEST p) 1 v

/-- PORT_TEST_EXIT (R303). -/
def execPortTestExit (p : Nat) (v : Word) (s : State) : Result := indexWrite s p 4 (F.LNK_PCTL_TEST p) 0 v

/-- PRBS_INJECT (R307): lane `i` = 5p + l. -/
def execPrbsInject (i : Nat) (v : Word) (s : State) : Result := indexWrite s i 20 (F.LNK_LCTL_INJ i) 1 v

/-! ### CHN (R354) -/

/-- INBOX_ENABLE (R354): `v` carries HANDLE, SIZE and VEC. -/
def execInboxEnable (v : Word) (s : State) : Result := fieldWrite s F.CHN_INBOX_EN 1 v

/-- INBOX_RD_WRITE (R354). -/
def execInboxRdWrite (rd : Nat) (s : State) : Result := fieldWrite s F.CHN_INBOXIDX_RD rd 0#32

/-! ### TIM (R360, R366, R376 to R380) -/

/-- TIME_ADJ_STEP (R360): the step in ns, as the 32-bit word written. -/
def execTimeAdjStep (step : Nat) (s : State) : Result := fieldWrite s F.TIM_ADJ_STEP step 0#32

/-- REF_ARM (R366): `v` carries FALL and REFDLY. -/
def execRefArm (v : Word) (s : State) : Result := fieldWrite s F.TIM_REFCFG_ARM 1 v

/-- GENERATOR_ENABLE (R380): `v` carries PERIODIC, POL and IRQ. -/
def execGeneratorEnable (dt g : Nat) (v : Word) (s : State) : Result := indexWrite (advance dt s) g 16 (F.TIM_PGCFG_EN g) 1 v

/-- GENERATOR_DISABLE (R380). -/
def execGeneratorDisable (dt g : Nat) (v : Word) (s : State) : Result := indexWrite (advance dt s) g 16 (F.TIM_PGCFG_EN g) 0 v

/-- CADGEN_WRITE (R377): `v` carries the other fields of TIM_CFG. -/
def execCadgenWrite (g : Nat) (v : Word) (s : State) : Result := fieldWrite s F.TIM_CFG_CADGEN g v

/-- The instant of generator `g` that is due fires and reaches its owner and SYNC. `slots` are the cell slots that remain on each
port at a sender's cadence. -/
def ownerPulse (s : State) (g : Nat) (slots : List Nat) : State :=
  if !genDue s g then s
  else if (gen s g).owner = 1 ∧ blkOn s 0x0C then snapSettle (senderCadence s slots)
  else if (gen s g).owner = 2 ∧ blkOn s 0x10 then heartbeat s
  else if (gen s g).owner = 3 ∧ blkOn s 0x11 then tileCadence s
  else syncPulse (genFire s g) g

/-- How many TIME ticks ago the next instant of a generator fell due. -/
def ticksAgo (s : State) (g : Nat) : Int := ((fullTime s : Int) - genNext s g * 16) / (max 1 (getF s F.TIM_INC_INC) : Nat)

/-- The pulse of generator `g`; those that lower generators have at the same tick come first, in ascending order (R379). -/
def generatorPulse (s : State) (g : Nat) (slots : List Nat) : State :=
  let n := ticksAgo s g
  let lower := if genDue s g then (List.range g).filter (fun h => genDue s h && ticksAgo s h == n) else []
  ownerPulse (lower.foldl (fun s h => ownerPulse s h slots) s) g slots

/-- GENERATOR_PULSE (R379). -/
def execGeneratorPulse (dt g : Nat) (slots : List Nat) (s : State) : Result :=
  whenOn 0x0F (advance dt s) (fun s => if g < 16 then generatorPulse s g slots else s)

/-! ### TAN (R400, R404, R411) -/

/-- TAN_ENABLE (R400): `v` carries the other fields of TAN_CFG. -/
def execTanEnable (v : Word) (s : State) : Result := fieldWrite s F.TAN_CFG_EN 1 v

/-- TAN_DISABLE (R400). -/
def execTanDisable (v : Word) (s : State) : Result := fieldWrite s F.TAN_CFG_EN 0 v

/-- TAN_TAKE (R411): `v` carries HOLD. -/
def execTanTake (v : Word) (s : State) : Result := fieldWrite s F.TAN_CTL_TAKE 1 v

/-- TAN_RENUM (R404). -/
def execTanRenum (epoch : Nat) (s : State) : Result := fieldWrite s F.TAN_RENUM_EPOCH epoch 0#32

/-! ### LMP, SPK (R429, R442, R466, R468, R475 to R478) -/

/-- DIM_WRITE (R429). -/
def execDimWrite (dt : Nat) (v : Word) (s : State) : Result := .next (hostWrite (advance dt s) R.LMP_DIM v)

/-- LMP_ENABLE (R442): `v` carries the other fields of LMP_CTL. -/
def execLmpEnable (v : Word) (s : State) : Result := fieldWrite s F.LMP_CTL_EN 1 v

/-- LMP_DISABLE (R442). -/
def execLmpDisable (v : Word) (s : State) : Result := fieldWrite s F.LMP_CTL_EN 0 v

/-- SPK_ENABLE (R466): `v` carries the other fields of SPK_CTL. -/
def execSpkEnable (v : Word) (s : State) : Result := fieldWrite s F.SPK_CTL_EN 1 v

/-- SPK_DISABLE (R475). -/
def execSpkDisable (v : Word) (s : State) : Result := fieldWrite s F.SPK_CTL_EN 0 v

/-- SPK_RELOAD (R468): the other fields as they stand. -/
def execSpkReload (s : State) : Result := fieldWrite s F.SPK_CTL_RELOAD 1 (s.word R.SPK_CTL)

/-- FAULT_TABLE_CLEAR (R477). -/
def execFaultTableClear (s : State) : Result := fieldWrite s F.SPK_FDCTL_CLEAR 1 0#32

/-- READBACK_SPOKE_CLEAR (R478): the bits to clear. -/
def execReadbackSpokeClear (mask : Nat) (s : State) : Result := fieldWrite s F.SPK_RBSPK_SPK mask 0#32

/-! ### DRC, THM, CAL, UPD (R498, R509, R515, R533, R583, R585) -/

/-- FREQ_CHANGE_GO (R498): `v` carries FSP and FORCE. -/
def execFreqChangeGo (v : Word) (s : State) : Result := fieldWrite s F.DRC_FREQ_GO 1 v

/-- THM_FAIL_CLEAR (R509): the bits to clear. -/
def execThmFailClear (mask : Nat) (s : State) : Result := .next (hostWrite s R.THM_FAIL (BitVec.ofNat 32 mask))

/-- POWER_REQUEST (R515). -/
def execPowerRequest (req : Nat) (s : State) : Result := fieldWrite s F.THM_PWR_REQ req 0#32

/-- RECAL_MANUAL_START (R533): `v` carries the other fields of CAL_CTL. -/
def execRecalManualStart (v : Word) (s : State) : Result := fieldWrite s F.CAL_CTL_START 1 v

/-- CAL_DISABLE (R533). -/
def execCalDisable (v : Word) (s : State) : Result := fieldWrite s F.CAL_CTL_EN 0 v

/-- UPD_CONFIRM_WRITE (R585). -/
def execUpdConfirmWrite (s : State) : Result := fieldWrite s F.UPD_CTL_CONFIRM 1 0#32

/-- UPD_ABANDON_WRITE (R585). -/
def execUpdAbandonWrite (s : State) : Result := fieldWrite s F.UPD_CTL_ABANDON 1 0#32

/-- RECOVERY_GO (R583): `len` bytes of the recovery window. -/
def execRecoveryGo (len : Nat) (s : State) : Result := fieldWrite s F.UPD_RECOV_GO 1 (F.UPD_RECOV_LEN.put 0#32 len)

end Sys2Proof.Machine
end

