-- ==== Sys2Proof/Machine/Dispatch.lean ====
section
/-! DEFINITION. One arm per command: the meaning it has. -/

namespace Sys2Proof.Machine

/-- What a command does, on everything but the queue. -/
def exec (i : Instr) (s : State) : Host.Outcome State Fault Refusal :=
  match i with
  | .railFault mask => Sys2Proof.Machine.execRailFault mask s
  | .railWarn x => Sys2Proof.Machine.execRailWarn x s
  | .vddAonApply => Sys2Proof.Machine.execVddAonApply s
  | .pwronResetAssert => Sys2Proof.Machine.execPwronResetAssert s
  | .coldResetRelease sel uci => Sys2Proof.Machine.execColdResetRelease sel uci s
  | .warmResetPin => Sys2Proof.Machine.execWarmResetPin s
  | .warmResetSoftware => Sys2Proof.Machine.execWarmResetSoftware s
  | .watchdogExpiry => Sys2Proof.Machine.execWatchdogExpiry s
  | .warmResetAssert => Sys2Proof.Machine.execWarmResetAssert s
  | .warmResetRelease => Sys2Proof.Machine.execWarmResetRelease s
  | .refClkLoss => Sys2Proof.Machine.execRefClkLoss s
  | .refClkGood => Sys2Proof.Machine.execRefClkGood s
  | .pllStageDone => Sys2Proof.Machine.execPllStageDone s
  | .romStageDone => Sys2Proof.Machine.execRomStageDone s
  | .firstStageDone o => Sys2Proof.Machine.execFirstStageDone o s
  | .dramStageDone l rates => Sys2Proof.Machine.execDramStageDone l rates s
  | .firmwareStageDone o => Sys2Proof.Machine.execFirmwareStageDone o s
  | .ucieAttemptEnd dt mods left ms => Sys2Proof.Machine.execUcieAttemptEnd dt mods left ms s
  | .ucieBackoffEnd dt => Sys2Proof.Machine.execUcieBackoffEnd dt s
  | .ucieWindowClose qs ms => Sys2Proof.Machine.execUcieWindowClose qs ms s
  | .bootHoldRetry dt => Sys2Proof.Machine.execBootHoldRetry dt s
  | .registerWrite size off v => Sys2Proof.Machine.execRegisterWrite size off v s
  | .errinfoClear => Sys2Proof.Machine.execErrinfoClear s
  | .barMisalignedRead bar2 size off => Sys2Proof.Machine.execBarMisalignedRead bar2 size off s
  | .evtqRead => Sys2Proof.Machine.execEvtqRead s
  | .dmaBytesRead c => Sys2Proof.Machine.execDmaBytesRead c s
  | .timNowRead dt => Sys2Proof.Machine.execTimNowRead dt s
  | .timCapRead c => Sys2Proof.Machine.execTimCapRead c s
  | .secNonceRead => Sys2Proof.Machine.execSecNonceRead s
  | .queBlockReset => Sys2Proof.Machine.execQueBlockReset s
  | .dmaBlockReset => Sys2Proof.Machine.execDmaBlockReset s
  | .sorBlockReset => Sys2Proof.Machine.execSorBlockReset s
  | .srfBlockReset => Sys2Proof.Machine.execSrfBlockReset s
  | .cmpBlockReset => Sys2Proof.Machine.execCmpBlockReset s
  | .frtBlockReset => Sys2Proof.Machine.execFrtBlockReset s
  | .lnkBlockReset => Sys2Proof.Machine.execLnkBlockReset s
  | .chnBlockReset => Sys2Proof.Machine.execChnBlockReset s
  | .timBlockReset => Sys2Proof.Machine.execTimBlockReset s
  | .tanBlockReset => Sys2Proof.Machine.execTanBlockReset s
  | .lmpBlockReset => Sys2Proof.Machine.execLmpBlockReset s
  | .spkBlockReset => Sys2Proof.Machine.execSpkBlockReset s
  | .calBlockReset => Sys2Proof.Machine.execCalBlockReset s
  | .dbgBlockReset => Sys2Proof.Machine.execDbgBlockReset s
  | .blockResetEnd dt k => Sys2Proof.Machine.execBlockResetEnd dt k s
  | .hifLinkLoss => Sys2Proof.Machine.execHifLinkLoss s
  | .hifRetrain v => Sys2Proof.Machine.execHifRetrain v s
  | .hifRetryTimer dt => Sys2Proof.Machine.execHifRetryTimer dt s
  | .bmeChange x => Sys2Proof.Machine.execBmeChange x s
  | .msixUnmask u => Sys2Proof.Machine.execMsixUnmask u s
  | .queueEnable q => Sys2Proof.Machine.execQueueEnable q s
  | .queueDisable q => Sys2Proof.Machine.execQueueDisable q s
  | .queueStop q => Sys2Proof.Machine.execQueueStop q s
  | .queueResume q => Sys2Proof.Machine.execQueueResume q s
  | .doorbell size off v => Sys2Proof.Machine.execDoorbell size off v s
  | .ringReadComplete q res => Sys2Proof.Machine.execRingReadComplete q res s
  | .ringRecheckTimeout dt q => Sys2Proof.Machine.execRingRecheckTimeout dt q s
  | .sorDispatch => Sys2Proof.Machine.execSorDispatch s
  | .sorPreempt later => Sys2Proof.Machine.execSorPreempt later s
  | .dmaSegmentReadDone c shadow dst res => Sys2Proof.Machine.execDmaSegmentReadDone c shadow dst res s
  | .dmaReadDone c res => Sys2Proof.Machine.execDmaReadDone c res s
  | .hostReadTimeout dt who => Sys2Proof.Machine.execHostReadTimeout dt who s
  | .lateCompletion => Sys2Proof.Machine.execLateCompletion s
  | .dmaDescriptorComplete c => Sys2Proof.Machine.execDmaDescriptorComplete c s
  | .slotPoll dt win => Sys2Proof.Machine.execSlotPoll dt win s
  | .slotReadDone t urgent b => Sys2Proof.Machine.execSlotReadDone t urgent b s
  | .slotReadFail t urgent => Sys2Proof.Machine.execSlotReadFail t urgent s
  | .loadWindowEnd dt => Sys2Proof.Machine.execLoadWindowEnd dt s
  | .srfEnable => Sys2Proof.Machine.execSrfEnable s
  | .srfTableInitDone => Sys2Proof.Machine.execSrfTableInitDone s
  | .surfaceCreate => Sys2Proof.Machine.execSurfaceCreate s
  | .surfaceBack => Sys2Proof.Machine.execSurfaceBack s
  | .surfaceFree => Sys2Proof.Machine.execSurfaceFree s
  | .surfaceInval => Sys2Proof.Machine.execSurfaceInval s
  | .frameRetire => Sys2Proof.Machine.execFrameRetire s
  | .prefetchIssue => Sys2Proof.Machine.execPrefetchIssue s
  | .prefetchDone vp b => Sys2Proof.Machine.execPrefetchDone vp b s
  | .prefetchFail vp poisoned => Sys2Proof.Machine.execPrefetchFail vp poisoned s
  | .latePage dt => Sys2Proof.Machine.execLatePage dt s
  | .bookLoad host => Sys2Proof.Machine.execBookLoad host s
  | .curveLoad host => Sys2Proof.Machine.execCurveLoad host s
  | .filterLoad host => Sys2Proof.Machine.execFilterLoad host s
  | .cmpEnable v => Sys2Proof.Machine.execCmpEnable v s
  | .cmpDisable v => Sys2Proof.Machine.execCmpDisable v s
  | .cmpFrameDone dt => Sys2Proof.Machine.execCmpFrameDone dt s
  | .senderCadence dt slots => Sys2Proof.Machine.execSenderCadence dt slots s
  | .rasterDeadline dt => Sys2Proof.Machine.execRasterDeadline dt s
  | .latchInstant dt needs => Sys2Proof.Machine.execLatchInstant dt needs s
  | .commitGo dt => Sys2Proof.Machine.execCommitGo dt s
  | .commitEntry => Sys2Proof.Machine.execCommitEntry s
  | .modeEntry => Sys2Proof.Machine.execModeEntry s
  | .frtEnable dt v => Sys2Proof.Machine.execFrtEnable dt v s
  | .frtDisable dt v => Sys2Proof.Machine.execFrtDisable dt v s
  | .portEnable p v => Sys2Proof.Machine.execPortEnable p v s
  | .portDisable p v => Sys2Proof.Machine.execPortDisable p v s
  | .portRetrain p v => Sys2Proof.Machine.execPortRetrain p v s
  | .portTestEnter p v => Sys2Proof.Machine.execPortTestEnter p v s
  | .portTestExit p v => Sys2Proof.Machine.execPortTestExit p v s
  | .prbsInject idx v => Sys2Proof.Machine.execPrbsInject idx v s
  | .receiverDetect dt p found => Sys2Proof.Machine.execReceiverDetect dt p found s
  | .presetTrial p o => Sys2Proof.Machine.execPresetTrial p o s
  | .linkStageDone p o => Sys2Proof.Machine.execLinkStageDone p o s
  | .linkAttemptFail x => Sys2Proof.Machine.execLinkAttemptFail x s
  | .linkBackoffEnd dt p => Sys2Proof.Machine.execLinkBackoffEnd dt p s
  | .chainDown p => Sys2Proof.Machine.execChainDown p s
  | .laneSpare p n => Sys2Proof.Machine.execLaneSpare p n s
  | .steerReceive p cmd ncmd => Sys2Proof.Machine.execSteerReceive p cmd ncmd s
  | .steerRepeat x => Sys2Proof.Machine.execSteerRepeat x s
  | .pannierSwitch p => Sys2Proof.Machine.execPannierSwitch p s
  | .elasticSlip x => Sys2Proof.Machine.execElasticSlip x s
  | .reseedTimer dt p => Sys2Proof.Machine.execReseedTimer dt p s
  | .adaptWindow p l diff taps => Sys2Proof.Machine.execAdaptWindow p l diff taps s
  | .marginMeasure p l ew eh => Sys2Proof.Machine.execMarginMeasure p l ew eh s
  | .timingPortChange => Sys2Proof.Machine.execTimingPortChange s
  | .timingPortLocked => Sys2Proof.Machine.execTimingPortLocked s
  | .cellForward dt p raw cv disp => Sys2Proof.Machine.execCellForward dt p raw cv disp s
  | .candidateCorrected => Sys2Proof.Machine.execCandidateCorrected s
  | .insertQueueTimeout dt p => Sys2Proof.Machine.execInsertQueueTimeout dt p s
  | .runCell => Sys2Proof.Machine.execRunCell s
  | .abortCell => Sys2Proof.Machine.execAbortCell s
  | .beaconCell => Sys2Proof.Machine.execBeaconCell s
  | .peerBeacon => Sys2Proof.Machine.execPeerBeacon s
  | .letterSegment => Sys2Proof.Machine.execLetterSegment s
  | .reassemblyTimeout dt => Sys2Proof.Machine.execReassemblyTimeout dt s
  | .regReadLetter => Sys2Proof.Machine.execRegReadLetter s
  | .regWriteLetter => Sys2Proof.Machine.execRegWriteLetter s
  | .ringFillLetter => Sys2Proof.Machine.execRingFillLetter s
  | .ringReadLetter => Sys2Proof.Machine.execRingReadLetter s
  | .modeLetter => Sys2Proof.Machine.execModeLetter s
  | .certGetLetter => Sys2Proof.Machine.execCertGetLetter s
  | .keyWrapLetter => Sys2Proof.Machine.execKeyWrapLetter s
  | .quoteReqLetter => Sys2Proof.Machine.execQuoteReqLetter s
  | .keyDropLetter => Sys2Proof.Machine.execKeyDropLetter s
  | .parcelData => Sys2Proof.Machine.execParcelData s
  | .parcelQuery => Sys2Proof.Machine.execParcelQuery s
  | .parcelArm => Sys2Proof.Machine.execParcelArm s
  | .parcelAbandon => Sys2Proof.Machine.execParcelAbandon s
  | .snapPartLetter host => Sys2Proof.Machine.execSnapPartLetter host s
  | .snapCommitLetter host => Sys2Proof.Machine.execSnapCommitLetter host s
  | .snapWaitTimeout dt => Sys2Proof.Machine.execSnapWaitTimeout dt s
  | .inboxRecord => Sys2Proof.Machine.execInboxRecord s
  | .sendEntry host => Sys2Proof.Machine.execSendEntry host s
  | .sendReply => Sys2Proof.Machine.execSendReply s
  | .sendTimeout dt => Sys2Proof.Machine.execSendTimeout dt s
  | .inboxEnable v => Sys2Proof.Machine.execInboxEnable v s
  | .inboxRdWrite rd => Sys2Proof.Machine.execInboxRdWrite rd s
  | .rollcallCell => Sys2Proof.Machine.execRollcallCell s
  | .syncPostmark => Sys2Proof.Machine.execSyncPostmark s
  | .preqPostmark => Sys2Proof.Machine.execPreqPostmark s
  | .prespPostmark => Sys2Proof.Machine.execPrespPostmark s
  | .preqSend dt p => Sys2Proof.Machine.execPreqSend dt p s
  | .preqLost x => Sys2Proof.Machine.execPreqLost x s
  | .syncLoss dt => Sys2Proof.Machine.execSyncLoss dt s
  | .timeWrap => Sys2Proof.Machine.execTimeWrap s
  | .timeAdjStep step => Sys2Proof.Machine.execTimeAdjStep step s
  | .refArm v => Sys2Proof.Machine.execRefArm v s
  | .referenceEdge dt eighths fall => Sys2Proof.Machine.execReferenceEdge dt eighths fall s
  | .referenceLoss dt => Sys2Proof.Machine.execReferenceLoss dt s
  | .generatorEnable dt g v => Sys2Proof.Machine.execGeneratorEnable dt g v s
  | .generatorDisable dt g v => Sys2Proof.Machine.execGeneratorDisable dt g v s
  | .generatorPulse dt g slots => Sys2Proof.Machine.execGeneratorPulse dt g slots s
  | .captureEdge dt c eighths fall => Sys2Proof.Machine.execCaptureEdge dt c eighths fall s
  | .cadgenWrite g v => Sys2Proof.Machine.execCadgenWrite g v s
  | .tanEnable v => Sys2Proof.Machine.execTanEnable v s
  | .tanDisable v => Sys2Proof.Machine.execTanDisable v s
  | .heartbeatPulse dt => Sys2Proof.Machine.execHeartbeatPulse dt s
  | .tanTake v => Sys2Proof.Machine.execTanTake v s
  | .revertHoldExpiry dt => Sys2Proof.Machine.execRevertHoldExpiry dt s
  | .tanRenum epoch => Sys2Proof.Machine.execTanRenum epoch s
  | .snapEntry host => Sys2Proof.Machine.execSnapEntry host s
  | .snapCommitRepeat dt => Sys2Proof.Machine.execSnapCommitRepeat dt s
  | .claimExpiry dt p => Sys2Proof.Machine.execClaimExpiry dt p s
  | .tileCadence dt => Sys2Proof.Machine.execTileCadence dt s
  | .commitInstant dt => Sys2Proof.Machine.execCommitInstant dt s
  | .slotLatch dt late => Sys2Proof.Machine.execSlotLatch dt late s
  | .lmpCurveLoad host => Sys2Proof.Machine.execLmpCurveLoad host s
  | .dimWrite dt v => Sys2Proof.Machine.execDimWrite dt v s
  | .lmpEnable v => Sys2Proof.Machine.execLmpEnable v s
  | .lmpDisable v => Sys2Proof.Machine.execLmpDisable v s
  | .svcPress dt => Sys2Proof.Machine.execSvcPress dt s
  | .svcLongHold dt => Sys2Proof.Machine.execSvcLongHold dt s
  | .locatorEnd dt => Sys2Proof.Machine.execLocatorEnd dt s
  | .selfTestEnd dt => Sys2Proof.Machine.execSelfTestEnd dt s
  | .spkEnable v => Sys2Proof.Machine.execSpkEnable v s
  | .spkDisable v => Sys2Proof.Machine.execSpkDisable v s
  | .spokeBringupRetry dt n => Sys2Proof.Machine.execSpokeBringupRetry dt n s
  | .driverStatPoll dt => Sys2Proof.Machine.execDriverStatPoll dt s
  | .spkReload => Sys2Proof.Machine.execSpkReload s
  | .latchSend dt late pads => Sys2Proof.Machine.execLatchSend dt late pads s
  | .lineSlot dt => Sys2Proof.Machine.execLineSlot dt s
  | .slotEmissionEnd dt pads => Sys2Proof.Machine.execSlotEmissionEnd dt pads s
  | .readAnswer n b => Sys2Proof.Machine.execReadAnswer n b s
  | .readAbsent x => Sys2Proof.Machine.execReadAbsent x s
  | .detectionRead n d reg b => Sys2Proof.Machine.execDetectionRead n d reg b s
  | .faultTableClear => Sys2Proof.Machine.execFaultTableClear s
  | .readbackSpokeClear mask => Sys2Proof.Machine.execReadbackSpokeClear mask s
  | .dramReadRequest dt port cls block => Sys2Proof.Machine.execDramReadRequest dt port cls block s
  | .dramReadReturn dt port block err => Sys2Proof.Machine.execDramReadReturn dt port block err s
  | .dramWriteRequest dt port cls block data issue => Sys2Proof.Machine.execDramWriteRequest dt port cls block data issue s
  | .dramPartialWrite dt x off data err => Sys2Proof.Machine.execDramPartialWrite dt x off data err s
  | .refreshDue dt c rank => Sys2Proof.Machine.execRefreshDue dt c rank s
  | .refreshPullin dt c rank => Sys2Proof.Machine.execRefreshPullin dt c rank s
  | .patrolScrub dt err => Sys2Proof.Machine.execPatrolScrub dt err s
  | .mr4Poll quarters => Sys2Proof.Machine.execMr4Poll quarters s
  | .selfRefreshEntry dt c => Sys2Proof.Machine.execSelfRefreshEntry dt c s
  | .selfRefreshExit dt c => Sys2Proof.Machine.execSelfRefreshExit dt c s
  | .freqChangeGo v => Sys2Proof.Machine.execFreqChangeGo v s
  | .freqChangeTimeout dt => Sys2Proof.Machine.execFreqChangeTimeout dt s
  | .dramTrackStep dt osc => Sys2Proof.Machine.execDramTrackStep dt osc s
  | .standbyRetrain dt c ok l => Sys2Proof.Machine.execStandbyRetrain dt c ok l s
  | .sensorSample dt od td => Sys2Proof.Machine.execSensorSample dt od td s
  | .throttleStepDown dt => Sys2Proof.Machine.execThrottleStepDown dt s
  | .throttleStepUp dt => Sys2Proof.Machine.execThrottleStepUp dt s
  | .thmFailClear mask => Sys2Proof.Machine.execThmFailClear mask s
  | .t5Shutdown dt => Sys2Proof.Machine.execT5Shutdown dt s
  | .orderlyShutdown => Sys2Proof.Machine.execOrderlyShutdown s
  | .hardwareTrip k => Sys2Proof.Machine.execHardwareTrip k s
  | .powerRequest req => Sys2Proof.Machine.execPowerRequest req s
  | .powerStateReached dt => Sys2Proof.Machine.execPowerStateReached dt s
  | .recalStart dt => Sys2Proof.Machine.execRecalStart dt s
  | .recalManualStart v => Sys2Proof.Machine.execRecalManualStart v s
  | .recalPannierMatched => Sys2Proof.Machine.execRecalPannierMatched s
  | .recalMeasureWindow dt diff ew eh => Sys2Proof.Machine.execRecalMeasureWindow dt diff ew eh s
  | .recalLaneMatched ok => Sys2Proof.Machine.execRecalLaneMatched ok s
  | .recalSwitchBack dt sof => Sys2Proof.Machine.execRecalSwitchBack dt sof s
  | .recalAbort c => Sys2Proof.Machine.execRecalAbort c s
  | .calDisable v => Sys2Proof.Machine.execCalDisable v s
  | .calSetSave dt => Sys2Proof.Machine.execCalSetSave dt s
  | .keysetEntry => Sys2Proof.Machine.execKeysetEntry s
  | .enrolEntry => Sys2Proof.Machine.execEnrolEntry s
  | .enrolReply => Sys2Proof.Machine.execEnrolReply s
  | .enrolTimeout dt => Sys2Proof.Machine.execEnrolTimeout dt s
  | .switchEntry => Sys2Proof.Machine.execSwitchEntry s
  | .quoteEntry host => Sys2Proof.Machine.execQuoteEntry host s
  | .extendEntry host => Sys2Proof.Machine.execExtendEntry host s
  | .lifeEntry host => Sys2Proof.Machine.execLifeEntry host s
  | .dbgtoken t => Sys2Proof.Machine.execDbgtoken t s
  | .dbgnonce => Sys2Proof.Machine.execDbgnonce s
  | .regacc off v => Sys2Proof.Machine.execRegacc off v s
  | .memacc sram addr n data => Sys2Proof.Machine.execMemacc sram addr n data s
  | .trace n => Sys2Proof.Machine.execTrace n s
  | .extest => Sys2Proof.Machine.execExtest s
  | .signEngineDone dt => Sys2Proof.Machine.execSignEngineDone dt s
  | .receiptIntervalClose dt => Sys2Proof.Machine.execReceiptIntervalClose dt s
  | .receiptSigned => Sys2Proof.Machine.execReceiptSigned s
  | .crcRecordWrite dt => Sys2Proof.Machine.execCrcRecordWrite dt s
  | .stageEntry host => Sys2Proof.Machine.execStageEntry host s
  | .pushEntry host => Sys2Proof.Machine.execPushEntry host s
  | .activateEntry => Sys2Proof.Machine.execActivateEntry s
  | .confirmEntry => Sys2Proof.Machine.execConfirmEntry s
  | .abandonEntry => Sys2Proof.Machine.execAbandonEntry s
  | .hostimgEntry => Sys2Proof.Machine.execHostimgEntry s
  | .updConfirmWrite => Sys2Proof.Machine.execUpdConfirmWrite s
  | .updAbandonWrite => Sys2Proof.Machine.execUpdAbandonWrite s
  | .verifyDone => Sys2Proof.Machine.execVerifyDone s
  | .activationInstant dt => Sys2Proof.Machine.execActivationInstant dt s
  | .trialConfirm => Sys2Proof.Machine.execTrialConfirm s
  | .confirmWindowExpiry dt => Sys2Proof.Machine.execConfirmWindowExpiry dt s
  | .recoveryGo len => Sys2Proof.Machine.execRecoveryGo len s
  | .blockReceive p coms marks o => Sys2Proof.Machine.execBlockReceive p coms marks o s
  | .pllUnlock k => Sys2Proof.Machine.execPllUnlock k s
  | .flashOperationDone ok => Sys2Proof.Machine.execFlashOperationDone ok s
  | .pushReply => Sys2Proof.Machine.execPushReply s
  | .pcieD3hotChange b => Sys2Proof.Machine.execPcieD3hotChange b s

end Sys2Proof.Machine
end

