-- ==== Sys2Proof/Machine/Idle.lean ====
section
/-! DEFINITION. What passes while no command waits. -/

namespace Sys2Proof.Machine

/-- One tick of PLL_TIME without a command: time goes on, and the engines whose pace time alone sets go on with it: DMA reads held
back by a channel's credit (R609) and parcels held back by the rate cap (R576). DESIGN CHOICE (log entry 2). -/
def idle (s : State) : State := pushPump (dmaPumpAll (advance 1 s))

end Sys2Proof.Machine
end

