-- ==== Sys2Proof/Safety.lean ====
section
/-! DEFINITION. What a safe run is: no step ends in a fault or a refusal, and every state it passes is well-formed: the register
file and the memories are in their canonical form. -/

namespace Sys2Proof.Machine

/-- The tables of a state are canonical. -/
def State.wf (s : State) : Bool :=
  tcanon regFill s.regs && tcanon (fun _ => dramFill) s.dram && tcanon (fun _ => ringFill) s.ring &&
  tcanon (fun _ => flashFill) s.upd.flash && tcanon (fun _ => recovFill) s.upd.recov

/-- The fuses of a die (R539, R580): lifecycle, identity key, security version, owner, OWN attempts used. -/
def SecSt.fuses (x : SecSt) : Nat × Bool × Nat × Option Bytes × Nat := (x.life, x.idkey, x.svn, x.owner, x.ownTries)

/-- The parts of the state that a command may touch: each field of State but the queue, and apart from their fields the fuses and
the two byte memories of the update block. -/
inductive Part where
  | regs | boot | hif | queues | sor | dma | srf | drc | chn | cmp | frt | lnk | tim | tan | sec | lmp | spk | thm | cal | upd
  | dram | ring | time | wraps | up | out | free | fuses | flash | recov
  deriving DecidableEq, Repr

/-- Is a part the same in two states? -/
def Part.same : Part → State → State → Prop
  | .regs, s, t => t.regs = s.regs
  | .boot, s, t => t.boot = s.boot
  | .hif, s, t => t.hif = s.hif
  | .queues, s, t => t.queues = s.queues
  | .sor, s, t => t.sor = s.sor
  | .dma, s, t => t.dma = s.dma
  | .srf, s, t => t.srf = s.srf
  | .drc, s, t => t.drc = s.drc
  | .chn, s, t => t.chn = s.chn
  | .cmp, s, t => t.cmp = s.cmp
  | .frt, s, t => t.frt = s.frt
  | .lnk, s, t => t.lnk = s.lnk
  | .tim, s, t => t.tim = s.tim
  | .tan, s, t => t.tan = s.tan
  | .sec, s, t => t.sec = s.sec
  | .lmp, s, t => t.lmp = s.lmp
  | .spk, s, t => t.spk = s.spk
  | .thm, s, t => t.thm = s.thm
  | .cal, s, t => t.cal = s.cal
  | .upd, s, t => t.upd = s.upd
  | .dram, s, t => t.dram = s.dram
  | .ring, s, t => t.ring = s.ring
  | .time, s, t => t.time = s.time
  | .wraps, s, t => t.wraps = s.wraps
  | .up, s, t => t.up = s.up
  | .out, s, t => t.out = s.out
  | .free, s, t => t.free = s.free
  | .fuses, s, t => t.sec.fuses = s.sec.fuses
  | .flash, s, t => t.upd.flash = s.upd.flash
  | .recov, s, t => t.upd.recov = s.upd.recov

/-- What a command that touches only the parts `W` does: the queue stands, well-formed tables stay well-formed, and every other
part is as before. -/
def Keeps (W : List Part) (s t : State) : Prop :=
  t.pending = s.pending ∧ (s.wf = true → t.wf = true) ∧ ∀ p, p ∉ W → p.same s t

/-- Every register but those of `W` reads as before. -/
def RegsBut (W : Nat → Prop) (s t : State) : Prop := ∀ off, ¬ W off → t.word off = s.word off

/-- Does a step answer a next state? -/
def answers (s : State) : Prop := ∃ t, step s = .next t

/-- `n` steps from `s` all answer, through well-formed states. -/
def safeRun : Nat → State → Prop
  | 0, s => s.wf = true
  | n + 1, s => s.wf = true ∧ ∃ t, step s = .next t ∧ safeRun n t

end Sys2Proof.Machine
end

