-- ==== Sys2Proof/Frames.lean ====
section
/-! DEFINITION. The frame of every command: the parts of the state it may touch, and the registers it may write. What is not
listed here stands as it was. -/

namespace Sys2Proof.Machine

/-- A set of registers: one, a register of a group at any index, a range of offsets, or every register. -/
inductive RegSet where
  | one (off : Nat)
  | any (f : Nat → Nat)
  | any₂ (f : Nat → Nat → Nat)
  | range (lo hi : Nat)
  | all

/-- Is the register at `off` in a set? -/
def RegSet.has : RegSet → Nat → Prop
  | .one o, off => off = o
  | .any f, off => ∃ i, off = f i
  | .any₂ f, off => ∃ i j, off = f i j
  | .range lo hi, off => lo ≤ off ∧ off < hi
  | .all, _ => True

/-- Word `k` of the MSI-X Pending Bit Array (R99): a vector that waits sets its bit there. -/
def pbaWord (k : Nat) : Nat := 0x38000 + 4 * (k % 64)

/-- Vector control word of vector `k` in the MSI-X table (R99). -/
def vecControl (k : Nat) : Nat := 0x30000 + 16 * (k % 2048) + 12

/-- Registers that raising an event may write: the count of events lost (R605), the pending bit of the device vector (R99), and the
count of cells dropped at a port whose insertion queue is full, where the event also leaves as a letter (R318, R338). -/
def eventRegs : List RegSet := [.one R.GLB_EVTOVF, .any pbaWord, .any R.CHN_PERR]

/-- Registers that a yield writes beside the event's (R29, R31). -/
def yieldRegs : List RegSet := [.one R.GLB_YIELDCNT, .one R.GLB_YIELDLAST, .one R.GLB_YIELDFRM]

/-- The parts of the state a command may touch. -/
def touched : Instr → List Part
  | .railFault _ =>
    [.regs, .boot, .hif, .queues, .sor, .dma, .srf, .drc, .chn, .cmp, .frt, .lnk, .tim, .tan, .sec, .lmp, .spk, .thm, .cal,
      .upd, .dram, .ring, .time, .wraps, .out, .recov]
  | .railWarn _ =>
    [.regs, .boot, .hif, .chn, .out]
  | .vddAonApply =>
    [.regs, .boot, .upd]
  | .pwronResetAssert =>
    [.regs, .boot, .hif, .queues, .sor, .dma, .srf, .drc, .chn, .cmp, .frt, .lnk, .tim, .tan, .sec, .lmp, .spk, .thm, .cal,
      .upd, .dram, .ring, .time, .wraps, .out, .recov]
  | .coldResetRelease _ _ =>
    [.regs, .boot, .lnk, .free]
  | .warmResetPin =>
    [.regs, .boot, .hif, .queues, .sor, .srf, .lmp, .spk, .ring, .out]
  | .warmResetSoftware =>
    [.regs, .boot, .hif, .queues, .sor, .srf, .chn, .cmp, .lmp, .spk, .ring, .out]
  | .watchdogExpiry =>
    [.regs, .boot, .hif, .queues, .sor, .srf, .lmp, .spk, .ring, .out]
  | .warmResetAssert =>
    [.regs, .boot, .hif, .queues, .sor, .dma, .srf, .drc, .chn, .cmp, .frt, .lnk, .tim, .tan, .sec, .lmp, .spk, .thm, .cal,
      .upd, .dram, .ring, .time, .wraps, .out, .free, .fuses, .flash, .recov]
  | .warmResetRelease =>
    [.regs, .boot]
  | .refClkLoss =>
    [.regs, .hif, .chn, .out]
  | .refClkGood =>
    [.regs]
  | .pllStageDone =>
    [.regs, .boot]
  | .romStageDone =>
    [.regs, .sec]
  | .firstStageDone _ =>
    [.regs, .boot, .hif, .chn, .tan, .sec, .upd, .out, .free, .flash]
  | .dramStageDone _ _ =>
    [.regs, .boot, .drc, .cal, .dram]
  | .firmwareStageDone _ =>
    [.regs, .boot, .hif, .queues, .sor, .srf, .lnk, .sec, .lmp, .spk, .cal, .upd, .ring, .out, .free]
  | .ucieAttemptEnd _ _ _ _ =>
    [.regs, .boot, .hif, .chn, .lnk, .sec, .upd, .time, .wraps, .up, .out, .fuses]
  | .ucieBackoffEnd _ =>
    [.regs, .boot, .hif, .chn, .time, .wraps, .up, .out]
  | .ucieWindowClose _ _ =>
    [.regs, .boot, .hif, .queues, .sor, .dma, .srf, .drc, .chn, .cmp, .frt, .lnk, .tim, .tan, .sec, .lmp, .spk, .thm, .cal,
      .upd, .dram, .ring, .time, .wraps, .out, .free, .fuses]
  | .bootHoldRetry _ =>
    [.regs, .boot, .hif, .chn, .time, .wraps, .up, .out]
  | .registerWrite _ _ _ =>
    [.regs, .boot, .hif, .queues, .sor, .dma, .srf, .drc, .chn, .cmp, .frt, .lnk, .tim, .tan, .sec, .lmp, .spk, .thm, .cal,
      .upd, .dram, .ring, .time, .wraps, .out, .free, .recov]
  | .errinfoClear =>
    [.regs, .hif, .chn, .cmp, .out]
  | .barMisalignedRead _ _ _ =>
    [.regs, .hif, .chn, .tim, .sec, .out, .free]
  | .evtqRead =>
    [.regs, .hif, .tim, .sec, .out, .free]
  | .dmaBytesRead _ =>
    [.regs, .hif, .tim, .sec, .out, .free]
  | .timNowRead _ =>
    [.regs, .hif, .chn, .tim, .sec, .time, .wraps, .up, .out, .free]
  | .timCapRead _ =>
    [.regs, .hif, .tim, .sec, .out, .free]
  | .secNonceRead =>
    [.regs, .hif, .tim, .sec, .out, .free]
  | .queBlockReset =>
    [.regs, .boot, .hif, .queues, .sor, .chn, .cmp, .ring, .out]
  | .dmaBlockReset =>
    [.regs, .boot, .hif, .queues, .sor, .dma, .chn, .cmp, .ring, .out]
  | .sorBlockReset =>
    [.regs, .boot, .hif, .queues, .sor, .chn, .cmp, .ring, .out]
  | .srfBlockReset =>
    [.regs, .boot, .hif, .queues, .sor, .srf, .chn, .cmp, .ring, .out]
  | .cmpBlockReset =>
    [.regs, .boot, .hif, .queues, .sor, .srf, .drc, .chn, .cmp, .frt, .sec, .ring, .out, .free]
  | .frtBlockReset =>
    [.regs, .boot, .hif, .queues, .sor, .srf, .drc, .chn, .cmp, .frt, .tim, .tan, .sec, .ring, .out, .free]
  | .lnkBlockReset =>
    [.regs, .boot, .hif, .chn, .cmp, .lnk, .tan, .cal, .out]
  | .chnBlockReset =>
    [.regs, .boot, .hif, .queues, .sor, .chn, .cmp, .lnk, .sec, .lmp, .ring, .out]
  | .timBlockReset =>
    [.regs, .boot, .hif, .chn, .cmp, .tim, .lmp, .out]
  | .tanBlockReset =>
    [.regs, .boot, .hif, .queues, .sor, .chn, .cmp, .tim, .tan, .ring, .out]
  | .lmpBlockReset =>
    [.regs, .boot, .hif, .queues, .sor, .srf, .chn, .cmp, .tim, .lmp, .spk, .ring, .out]
  | .spkBlockReset =>
    [.regs, .boot, .hif, .chn, .cmp, .spk, .out]
  | .calBlockReset =>
    [.regs, .boot, .hif, .chn, .cmp, .lnk, .cal, .out]
  | .dbgBlockReset =>
    [.regs, .boot, .hif, .chn, .cmp, .sec, .out]
  | .blockResetEnd _ _ =>
    [.regs, .hif, .chn, .lnk, .tim, .spk, .cal, .time, .wraps, .up, .out]
  | .hifLinkLoss =>
    [.regs, .boot, .hif, .queues, .sor, .dma, .srf, .drc, .chn, .dram, .ring, .out, .free]
  | .hifRetrain _ =>
    [.regs, .boot, .hif, .queues, .sor, .dma, .srf, .drc, .chn, .cmp, .dram, .ring, .out, .free]
  | .hifRetryTimer _ =>
    [.regs, .boot, .hif, .chn, .time, .wraps, .up, .out]
  | .bmeChange _ =>
    [.regs, .hif, .queues, .sor, .dma, .srf, .drc, .chn, .dram, .ring, .out, .free]
  | .msixUnmask _ =>
    [.regs, .hif, .out]
  | .queueEnable _ =>
    [.regs, .hif, .queues, .chn, .cmp, .out]
  | .queueDisable _ =>
    [.regs, .hif, .queues, .chn, .cmp, .out]
  | .queueStop _ =>
    [.regs, .hif, .queues, .chn, .cmp, .out]
  | .queueResume _ =>
    [.regs, .hif, .queues, .chn, .cmp, .out]
  | .doorbell _ _ _ =>
    [.regs, .hif, .queues, .chn, .out]
  | .ringReadComplete _ _ =>
    [.regs, .hif, .queues, .sor, .out]
  | .ringRecheckTimeout _ _ =>
    [.regs, .hif, .queues, .chn, .time, .wraps, .up, .out]
  | .sorDispatch =>
    [.regs, .hif, .queues, .sor, .dma, .srf, .drc, .chn, .dram, .ring, .out, .free]
  | .sorPreempt _ =>
    [.regs, .hif, .queues, .sor, .dma, .srf, .drc, .chn, .dram, .ring, .out, .free]
  | .dmaSegmentReadDone _ _ _ _ =>
    [.regs, .hif, .queues, .sor, .dma, .srf, .drc, .chn, .dram, .ring, .out, .free]
  | .dmaReadDone _ _ =>
    [.regs, .hif, .queues, .sor, .dma, .srf, .drc, .chn, .dram, .ring, .out, .free]
  | .hostReadTimeout _ _ =>
    [.regs, .hif, .queues, .sor, .dma, .srf, .drc, .chn, .dram, .ring, .time, .wraps, .up, .out, .free]
  | .lateCompletion =>
    [.regs, .hif]
  | .dmaDescriptorComplete _ =>
    [.regs, .hif, .queues, .sor, .dma, .srf, .drc, .chn, .dram, .ring, .out, .free]
  | .slotPoll _ _ =>
    [.regs, .hif, .sor, .chn, .time, .wraps, .up, .out]
  | .slotReadDone _ _ _ =>
    [.regs, .hif, .queues, .sor, .ring, .out]
  | .slotReadFail _ _ =>
    [.regs, .hif, .queues, .sor, .ring, .out]
  | .loadWindowEnd _ =>
    [.regs, .hif, .sor, .chn, .time, .wraps, .up, .out]
  | .srfEnable =>
    [.regs, .hif, .srf, .chn, .cmp, .out]
  | .srfTableInitDone =>
    [.regs, .hif, .queues, .sor, .srf, .ring, .out, .free]
  | .surfaceCreate =>
    [.regs, .hif, .queues, .sor, .srf, .ring, .out, .free]
  | .surfaceBack =>
    [.regs, .hif, .queues, .sor, .srf, .ring, .out, .free]
  | .surfaceFree =>
    [.regs, .hif, .queues, .sor, .srf, .ring, .out, .free]
  | .surfaceInval =>
    [.regs, .hif, .queues, .sor, .srf, .ring, .out, .free]
  | .frameRetire =>
    [.regs, .hif, .queues, .sor, .srf, .ring, .out]
  | .prefetchIssue =>
    [.regs, .hif, .srf, .drc, .chn, .out, .free]
  | .prefetchDone _ _ =>
    [.regs, .hif, .srf, .drc, .dram, .out]
  | .prefetchFail _ _ =>
    [.regs, .hif, .srf, .out]
  | .latePage _ =>
    [.regs, .hif, .srf, .drc, .chn, .cmp, .frt, .sec, .time, .wraps, .up, .out, .free]
  | .bookLoad _ =>
    [.regs, .hif, .queues, .sor, .srf, .drc, .chn, .cmp, .ring, .out, .free]
  | .curveLoad _ =>
    [.regs, .hif, .queues, .sor, .srf, .drc, .chn, .cmp, .ring, .out, .free]
  | .filterLoad _ =>
    [.regs, .hif, .queues, .sor, .srf, .drc, .chn, .cmp, .ring, .out, .free]
  | .cmpEnable _ =>
    [.regs, .hif, .queues, .sor, .srf, .chn, .cmp, .ring, .out]
  | .cmpDisable _ =>
    [.regs, .hif, .queues, .sor, .srf, .chn, .cmp, .ring, .out]
  | .cmpFrameDone _ =>
    [.regs, .hif, .srf, .drc, .chn, .cmp, .frt, .sec, .time, .wraps, .up, .out, .free]
  | .senderCadence _ _ =>
    [.regs, .hif, .queues, .sor, .srf, .drc, .chn, .cmp, .frt, .lnk, .tim, .tan, .sec, .ring, .time, .wraps, .up, .out, .free]
  | .rasterDeadline _ =>
    [.regs, .hif, .srf, .drc, .chn, .cmp, .frt, .sec, .time, .wraps, .up, .out, .free]
  | .latchInstant _ _ =>
    [.regs, .hif, .queues, .sor, .srf, .drc, .chn, .cmp, .frt, .ring, .time, .wraps, .up, .out, .free]
  | .commitGo _ =>
    [.regs, .hif, .queues, .sor, .srf, .drc, .chn, .cmp, .frt, .tim, .tan, .sec, .ring, .time, .wraps, .up, .out, .free]
  | .commitEntry =>
    [.regs, .hif, .queues, .sor, .srf, .drc, .chn, .cmp, .frt, .tan, .sec, .upd, .ring, .out, .free]
  | .modeEntry =>
    [.regs, .hif, .queues, .sor, .srf, .drc, .chn, .cmp, .frt, .tan, .sec, .upd, .ring, .out, .free]
  | .frtEnable _ _ =>
    [.regs, .hif, .queues, .sor, .srf, .drc, .chn, .cmp, .frt, .tim, .tan, .sec, .ring, .time, .wraps, .up, .out, .free]
  | .frtDisable _ _ =>
    [.regs, .hif, .queues, .sor, .srf, .drc, .chn, .cmp, .frt, .tim, .tan, .sec, .ring, .time, .wraps, .up, .out, .free]
  | .portEnable _ _ =>
    [.regs, .hif, .chn, .cmp, .lnk, .tan, .cal, .out]
  | .portDisable _ _ =>
    [.regs, .hif, .chn, .cmp, .lnk, .tan, .cal, .out]
  | .portRetrain _ _ =>
    [.regs, .hif, .chn, .cmp, .lnk, .tan, .cal, .out]
  | .portTestEnter _ _ =>
    [.regs, .hif, .chn, .cmp, .lnk, .tan, .cal, .out]
  | .portTestExit _ _ =>
    [.regs, .hif, .chn, .cmp, .lnk, .tan, .cal, .out]
  | .prbsInject _ _ =>
    [.regs, .hif, .chn, .cmp, .lnk, .tan, .cal, .out]
  | .receiverDetect _ _ _ =>
    [.regs, .hif, .chn, .lnk, .time, .wraps, .up, .out]
  | .presetTrial _ _ =>
    [.regs, .lnk, .out]
  | .linkStageDone _ _ =>
    [.regs, .hif, .chn, .lnk, .tim, .sec, .out, .free]
  | .linkAttemptFail _ =>
    [.regs, .hif, .chn, .lnk, .time, .wraps, .up, .out, .free]
  | .linkBackoffEnd _ _ =>
    [.regs, .hif, .chn, .lnk, .time, .wraps, .up, .out]
  | .chainDown _ =>
    [.regs, .hif, .chn, .lnk, .tan, .cal, .out]
  | .laneSpare _ _ =>
    [.regs, .hif, .chn, .lnk, .tim, .tan, .cal, .out, .free]
  | .steerReceive _ _ _ =>
    [.lnk, .out]
  | .steerRepeat _ =>
    [.regs, .hif, .chn, .lnk, .tim, .time, .wraps, .up, .out, .free]
  | .pannierSwitch _ =>
    [.regs]
  | .elasticSlip _ =>
    [.regs, .lnk]
  | .reseedTimer _ _ =>
    [.regs, .hif, .chn, .lnk, .time, .wraps, .up, .out]
  | .adaptWindow _ _ _ _ =>
    [.regs, .lnk]
  | .marginMeasure _ _ _ _ =>
    [.regs, .lnk, .cal]
  | .timingPortChange =>
    [.regs, .lnk]
  | .timingPortLocked =>
    [.regs, .lnk]
  | .cellForward _ _ _ _ _ =>
    [.regs, .hif, .chn, .lnk, .tim, .tan, .cal, .time, .wraps, .up, .out]
  | .candidateCorrected =>
    [.regs, .chn]
  | .insertQueueTimeout _ _ =>
    [.regs, .hif, .chn, .time, .wraps, .up, .out]
  | .runCell =>
    [.regs, .hif, .srf, .drc, .chn, .lmp, .dram, .out, .free]
  | .abortCell =>
    [.chn, .lmp]
  | .beaconCell =>
    [.regs, .hif, .chn, .tan, .out]
  | .peerBeacon =>
    [.regs, .hif, .queues, .sor, .chn, .tan, .ring, .out]
  | .letterSegment =>
    [.regs, .chn]
  | .reassemblyTimeout _ =>
    [.regs, .hif, .chn, .time, .wraps, .up, .out]
  | .regReadLetter =>
    [.regs, .boot, .hif, .queues, .sor, .dma, .srf, .drc, .chn, .cmp, .frt, .lnk, .tim, .tan, .sec, .lmp, .spk, .thm, .cal,
      .upd, .dram, .ring, .time, .wraps, .out, .free, .recov]
  | .regWriteLetter =>
    [.regs, .boot, .hif, .queues, .sor, .dma, .srf, .drc, .chn, .cmp, .frt, .lnk, .tim, .tan, .sec, .lmp, .spk, .thm, .cal,
      .upd, .dram, .ring, .time, .wraps, .out, .free, .recov]
  | .ringFillLetter =>
    [.regs, .hif, .queues, .chn, .ring, .out]
  | .ringReadLetter =>
    [.regs, .chn]
  | .modeLetter =>
    [.regs, .hif, .chn, .tim, .sec, .lmp, .upd, .out]
  | .certGetLetter =>
    [.regs, .chn]
  | .keyWrapLetter =>
    [.regs, .chn, .sec]
  | .quoteReqLetter =>
    [.regs, .chn, .sec]
  | .keyDropLetter =>
    [.regs, .chn]
  | .parcelData =>
    [.regs, .hif, .chn, .tan, .upd, .out, .free]
  | .parcelQuery =>
    [.regs, .chn]
  | .parcelArm =>
    [.regs, .hif, .queues, .sor, .chn, .tan, .upd, .ring, .out, .free]
  | .parcelAbandon =>
    [.regs, .hif, .queues, .sor, .chn, .tan, .upd, .ring, .out]
  | .snapPartLetter _ =>
    [.regs, .hif, .queues, .sor, .srf, .drc, .chn, .cmp, .frt, .tan, .dram, .ring, .out, .free]
  | .snapCommitLetter _ =>
    [.regs, .hif, .queues, .sor, .srf, .drc, .chn, .cmp, .frt, .tan, .ring, .out, .free]
  | .snapWaitTimeout _ =>
    [.regs, .hif, .queues, .sor, .srf, .drc, .chn, .cmp, .frt, .tan, .ring, .time, .wraps, .up, .out, .free]
  | .inboxRecord =>
    [.regs, .hif, .srf, .drc, .chn, .dram, .out, .free]
  | .sendEntry _ =>
    [.regs, .hif, .queues, .sor, .srf, .drc, .chn, .sec, .ring, .out, .free]
  | .sendReply =>
    [.regs, .hif, .queues, .sor, .srf, .drc, .chn, .sec, .dram, .ring, .out, .free]
  | .sendTimeout _ =>
    [.regs, .hif, .queues, .sor, .chn, .ring, .time, .wraps, .up, .out]
  | .inboxEnable _ =>
    [.regs, .hif, .chn, .cmp, .out]
  | .inboxRdWrite _ =>
    [.regs, .hif, .chn, .cmp, .out]
  | .rollcallCell =>
    [.regs, .chn, .out, .free]
  | .syncPostmark =>
    [.regs, .hif, .sor, .chn, .tim, .tan, .sec, .lmp, .time, .wraps, .out, .free]
  | .preqPostmark =>
    [.regs, .chn, .out]
  | .prespPostmark =>
    [.regs, .chn, .tim]
  | .preqSend _ _ =>
    [.regs, .hif, .chn, .tim, .time, .wraps, .up, .out]
  | .preqLost _ =>
    [.regs, .hif, .chn, .tim, .time, .wraps, .up, .out]
  | .syncLoss _ =>
    [.regs, .hif, .chn, .tim, .tan, .lmp, .time, .wraps, .up, .out]
  | .timeWrap =>
    [.regs, .hif, .chn, .time, .wraps, .up, .out]
  | .timeAdjStep _ =>
    [.regs, .hif, .sor, .chn, .cmp, .tim, .tan, .lmp, .time, .wraps, .out]
  | .refArm _ =>
    [.regs, .hif, .sor, .chn, .cmp, .tim, .tan, .lmp, .time, .wraps, .out]
  | .referenceEdge _ _ _ =>
    [.regs, .hif, .sor, .chn, .tim, .tan, .lmp, .time, .wraps, .up, .out, .free]
  | .referenceLoss _ =>
    [.regs, .hif, .chn, .tim, .tan, .lmp, .time, .wraps, .up, .out]
  | .generatorEnable _ _ _ =>
    [.regs, .hif, .sor, .chn, .cmp, .tim, .tan, .lmp, .time, .wraps, .up, .out]
  | .generatorDisable _ _ _ =>
    [.regs, .hif, .sor, .chn, .cmp, .tim, .tan, .lmp, .time, .wraps, .up, .out]
  | .generatorPulse _ _ _ =>
    [.regs, .hif, .queues, .sor, .srf, .drc, .chn, .cmp, .frt, .lnk, .tim, .tan, .sec, .lmp, .ring, .time, .wraps, .up, .out,
      .free]
  | .captureEdge _ _ _ _ =>
    [.regs, .hif, .chn, .tim, .time, .wraps, .up, .out]
  | .cadgenWrite _ _ =>
    [.regs, .hif, .sor, .chn, .cmp, .tim, .tan, .lmp, .time, .wraps, .out]
  | .tanEnable _ =>
    [.regs, .hif, .queues, .sor, .chn, .cmp, .tim, .tan, .ring, .out]
  | .tanDisable _ =>
    [.regs, .hif, .queues, .sor, .chn, .cmp, .tim, .tan, .ring, .out]
  | .heartbeatPulse _ =>
    [.regs, .hif, .queues, .sor, .chn, .tim, .tan, .ring, .time, .wraps, .up, .out]
  | .tanTake _ =>
    [.regs, .hif, .queues, .sor, .chn, .cmp, .tim, .tan, .ring, .out]
  | .revertHoldExpiry _ =>
    [.regs, .hif, .queues, .sor, .chn, .tan, .ring, .time, .wraps, .up, .out]
  | .tanRenum _ =>
    [.regs, .hif, .queues, .sor, .chn, .cmp, .tim, .tan, .ring, .out]
  | .snapEntry _ =>
    [.regs, .hif, .queues, .sor, .srf, .drc, .chn, .tan, .sec, .ring, .out, .free]
  | .snapCommitRepeat _ =>
    [.regs, .hif, .chn, .tan, .sec, .time, .wraps, .up, .out]
  | .claimExpiry _ _ =>
    [.regs, .hif, .chn, .tan, .time, .wraps, .up, .out]
  | .tileCadence _ =>
    [.regs, .hif, .queues, .sor, .srf, .chn, .tim, .tan, .sec, .lmp, .ring, .time, .wraps, .up, .out]
  | .commitInstant _ =>
    [.regs, .hif, .queues, .sor, .dma, .srf, .drc, .chn, .sec, .lmp, .dram, .ring, .time, .wraps, .up, .out, .free]
  | .slotLatch _ _ =>
    [.regs, .hif, .queues, .sor, .dma, .srf, .drc, .chn, .lmp, .spk, .dram, .ring, .time, .wraps, .up, .out, .free]
  | .lmpCurveLoad _ =>
    [.regs, .hif, .queues, .sor, .srf, .drc, .chn, .lmp, .ring, .out, .free]
  | .dimWrite _ _ =>
    [.regs, .hif, .queues, .sor, .srf, .chn, .cmp, .lmp, .spk, .ring, .time, .wraps, .up, .out]
  | .lmpEnable _ =>
    [.regs, .hif, .queues, .sor, .srf, .chn, .cmp, .lmp, .spk, .ring, .out]
  | .lmpDisable _ =>
    [.regs, .hif, .queues, .sor, .srf, .chn, .cmp, .lmp, .spk, .ring, .out]
  | .svcPress _ =>
    [.regs, .hif, .chn, .lmp, .time, .wraps, .up, .out]
  | .svcLongHold _ =>
    [.regs, .hif, .queues, .sor, .dma, .srf, .drc, .chn, .lmp, .dram, .ring, .time, .wraps, .up, .out, .free]
  | .locatorEnd _ =>
    [.regs, .hif, .chn, .lmp, .time, .wraps, .up, .out]
  | .selfTestEnd _ =>
    [.regs, .hif, .chn, .lmp, .time, .wraps, .up, .out]
  | .spkEnable _ =>
    [.regs, .hif, .srf, .drc, .chn, .cmp, .spk, .out, .free]
  | .spkDisable _ =>
    [.regs, .hif, .srf, .drc, .chn, .cmp, .spk, .out, .free]
  | .spokeBringupRetry _ _ =>
    [.regs, .hif, .chn, .spk, .time, .wraps, .up, .out]
  | .driverStatPoll _ =>
    [.regs, .hif, .chn, .spk, .time, .wraps, .up, .out]
  | .spkReload =>
    [.regs, .hif, .srf, .drc, .chn, .cmp, .spk, .out, .free]
  | .latchSend _ _ _ =>
    [.regs, .hif, .srf, .drc, .chn, .sec, .lmp, .spk, .time, .wraps, .up, .out, .free]
  | .lineSlot _ =>
    [.regs, .hif, .chn, .spk, .time, .wraps, .up, .out]
  | .slotEmissionEnd _ _ =>
    [.regs, .hif, .chn, .sec, .spk, .time, .wraps, .up, .out]
  | .readAnswer _ _ =>
    [.regs, .hif, .srf, .drc, .chn, .spk, .out, .free]
  | .readAbsent _ =>
    [.regs, .hif, .srf, .drc, .chn, .spk, .time, .wraps, .up, .out, .free]
  | .detectionRead _ _ _ _ =>
    [.regs, .hif, .srf, .drc, .chn, .spk, .out, .free]
  | .faultTableClear =>
    [.regs, .hif, .srf, .drc, .chn, .cmp, .spk, .out, .free]
  | .readbackSpokeClear _ =>
    [.regs, .hif, .srf, .drc, .chn, .cmp, .spk, .out, .free]
  | .dramReadRequest _ _ _ _ =>
    [.regs, .hif, .drc, .chn, .time, .wraps, .up, .out]
  | .dramReadReturn _ _ _ _ =>
    [.regs, .hif, .drc, .chn, .dram, .time, .wraps, .up, .out]
  | .dramWriteRequest _ _ _ _ _ _ =>
    [.regs, .hif, .drc, .chn, .dram, .time, .wraps, .up, .out]
  | .dramPartialWrite _ _ _ _ _ =>
    [.regs, .hif, .drc, .chn, .dram, .time, .wraps, .up, .out]
  | .refreshDue _ _ _ =>
    [.regs, .hif, .drc, .chn, .time, .wraps, .up, .out]
  | .refreshPullin _ _ _ =>
    [.regs, .hif, .drc, .chn, .time, .wraps, .up, .out]
  | .patrolScrub _ _ =>
    [.regs, .hif, .drc, .chn, .dram, .time, .wraps, .up, .out]
  | .mr4Poll _ =>
    [.drc]
  | .selfRefreshEntry _ _ =>
    [.regs, .hif, .drc, .chn, .time, .wraps, .up, .out]
  | .selfRefreshExit _ _ =>
    [.regs, .hif, .drc, .chn, .cal, .time, .wraps, .up, .out]
  | .freqChangeGo _ =>
    [.regs, .hif, .drc, .chn, .cmp, .out]
  | .freqChangeTimeout _ =>
    [.regs, .hif, .drc, .chn, .time, .wraps, .up, .out]
  | .dramTrackStep _ _ =>
    [.regs, .hif, .chn, .cal, .time, .wraps, .up, .out]
  | .standbyRetrain _ _ _ _ =>
    [.regs, .hif, .chn, .cal, .time, .wraps, .up, .out]
  | .sensorSample _ _ _ =>
    [.regs, .hif, .queues, .sor, .srf, .drc, .chn, .cmp, .lnk, .tan, .sec, .lmp, .spk, .thm, .cal, .ring, .time, .wraps, .up,
      .out, .free]
  | .throttleStepDown _ =>
    [.regs, .hif, .chn, .cmp, .thm, .time, .wraps, .up, .out]
  | .throttleStepUp _ =>
    [.regs, .hif, .chn, .cmp, .thm, .time, .wraps, .up, .out]
  | .thmFailClear _ =>
    [.regs, .hif, .queues, .sor, .srf, .drc, .chn, .cmp, .lnk, .tan, .sec, .lmp, .spk, .thm, .cal, .ring, .out, .free]
  | .t5Shutdown _ =>
    [.regs, .hif, .queues, .sor, .srf, .chn, .lmp, .spk, .thm, .ring, .time, .wraps, .up, .out]
  | .orderlyShutdown =>
    [.regs, .boot, .hif, .queues, .sor, .srf, .drc, .chn, .tan, .sec, .lmp, .spk, .upd, .ring, .out, .free, .fuses, .flash]
  | .hardwareTrip _ =>
    [.regs, .boot, .hif, .queues, .sor, .dma, .srf, .drc, .chn, .cmp, .frt, .lnk, .tim, .tan, .sec, .lmp, .spk, .thm, .cal,
      .upd, .dram, .ring, .time, .wraps, .out, .recov]
  | .powerRequest _ =>
    [.regs, .hif, .queues, .sor, .srf, .drc, .chn, .cmp, .lnk, .tan, .sec, .lmp, .spk, .thm, .cal, .ring, .out, .free]
  | .powerStateReached _ =>
    [.regs, .hif, .queues, .sor, .srf, .drc, .chn, .lnk, .tan, .sec, .lmp, .spk, .cal, .ring, .time, .wraps, .up, .out]
  | .recalStart _ =>
    [.regs, .hif, .chn, .lnk, .tim, .cal, .time, .wraps, .up, .out, .free]
  | .recalManualStart _ =>
    [.regs, .hif, .chn, .cmp, .lnk, .tim, .cal, .out, .free]
  | .recalPannierMatched =>
    [.regs, .lnk, .cal]
  | .recalMeasureWindow _ _ _ _ =>
    [.regs, .hif, .chn, .lnk, .cal, .time, .wraps, .up, .out]
  | .recalLaneMatched _ =>
    [.regs, .lnk, .cal]
  | .recalSwitchBack _ _ =>
    [.regs, .hif, .chn, .lnk, .cal, .time, .wraps, .up, .out]
  | .recalAbort _ =>
    [.regs, .lnk, .cal]
  | .calDisable _ =>
    [.regs, .hif, .chn, .cmp, .lnk, .tim, .cal, .out, .free]
  | .calSetSave _ =>
    [.regs, .hif, .chn, .cal, .upd, .time, .wraps, .up, .out, .free]
  | .keysetEntry =>
    [.regs, .hif, .queues, .sor, .sec, .upd, .ring, .out, .free]
  | .enrolEntry =>
    [.regs, .hif, .queues, .sor, .chn, .sec, .ring, .out]
  | .enrolReply =>
    [.regs, .hif, .queues, .sor, .chn, .sec, .ring, .out]
  | .enrolTimeout _ =>
    [.regs, .hif, .queues, .sor, .chn, .sec, .ring, .time, .wraps, .up, .out]
  | .switchEntry =>
    [.regs, .hif, .queues, .sor, .sec, .ring, .out]
  | .quoteEntry _ =>
    [.regs, .hif, .queues, .sor, .srf, .drc, .chn, .sec, .ring, .out, .free]
  | .extendEntry _ =>
    [.regs, .hif, .queues, .sor, .srf, .drc, .chn, .sec, .ring, .out, .free]
  | .lifeEntry _ =>
    [.regs, .hif, .queues, .sor, .srf, .drc, .chn, .sec, .ring, .out, .free, .fuses]
  | .dbgtoken _ =>
    [.regs, .chn, .sec, .out, .fuses]
  | .dbgnonce =>
    [.regs, .sec, .out, .free]
  | .regacc _ _ =>
    [.regs, .boot, .hif, .queues, .sor, .dma, .srf, .drc, .chn, .cmp, .frt, .lnk, .tim, .tan, .sec, .lmp, .spk, .thm, .cal,
      .upd, .dram, .ring, .time, .wraps, .out, .free, .recov]
  | .memacc _ _ _ _ =>
    [.regs, .hif, .drc, .chn, .sec, .dram, .out, .free]
  | .trace _ =>
    [.sec, .out, .free]
  | .extest =>
    [.sec, .lmp, .spk, .out]
  | .signEngineDone _ =>
    [.regs, .hif, .queues, .sor, .srf, .drc, .chn, .sec, .dram, .ring, .time, .wraps, .up, .out, .free]
  | .receiptIntervalClose _ =>
    [.regs, .hif, .chn, .sec, .time, .wraps, .up, .out]
  | .receiptSigned =>
    [.regs, .chn, .sec]
  | .crcRecordWrite _ =>
    [.regs, .hif, .srf, .drc, .chn, .sec, .dram, .time, .wraps, .up, .out, .free]
  | .stageEntry _ =>
    [.regs, .hif, .queues, .sor, .srf, .drc, .chn, .tan, .upd, .ring, .out, .free]
  | .pushEntry _ =>
    [.regs, .hif, .queues, .sor, .srf, .drc, .chn, .sec, .upd, .ring, .out, .free]
  | .activateEntry =>
    [.regs, .hif, .queues, .sor, .chn, .tan, .upd, .ring, .out, .free]
  | .confirmEntry =>
    [.regs, .hif, .queues, .sor, .upd, .ring, .out]
  | .abandonEntry =>
    [.regs, .hif, .queues, .sor, .chn, .tan, .upd, .ring, .out]
  | .hostimgEntry =>
    [.regs, .hif, .queues, .sor, .srf, .drc, .chn, .sec, .dram, .ring, .out, .free]
  | .updConfirmWrite =>
    [.regs, .hif, .queues, .sor, .chn, .cmp, .tan, .sec, .upd, .ring, .out]
  | .updAbandonWrite =>
    [.regs, .hif, .queues, .sor, .chn, .cmp, .tan, .sec, .upd, .ring, .out]
  | .verifyDone =>
    [.regs, .hif, .chn, .tan, .upd, .out, .free, .flash]
  | .activationInstant _ =>
    [.regs, .hif, .queues, .sor, .chn, .upd, .ring, .time, .wraps, .up, .out, .free]
  | .trialConfirm =>
    [.regs, .upd, .out, .free]
  | .confirmWindowExpiry _ =>
    [.regs, .boot, .hif, .queues, .sor, .srf, .chn, .lmp, .spk, .ring, .time, .wraps, .up, .out]
  | .recoveryGo _ =>
    [.regs, .hif, .queues, .sor, .chn, .cmp, .tan, .sec, .upd, .ring, .out]
  | .blockReceive _ _ _ _ =>
    [.regs, .lnk, .tim, .out, .free]
  | .pllUnlock _ =>
    [.regs]
  | .flashOperationDone _ =>
    [.regs, .boot, .hif, .queues, .sor, .srf, .chn, .tan, .sec, .lmp, .spk, .upd, .ring, .out, .free, .fuses, .flash]
  | .pushReply =>
    [.regs, .hif, .queues, .sor, .chn, .sec, .upd, .ring, .out]
  | .pcieD3hotChange _ =>
    [.hif]

/-- The registers a command may write. -/
def regsOf : Instr → List RegSet
  | .railFault _ =>
    [.all]
  | .railWarn _ =>
    [.one R.GLB_RAILSTAT] ++ eventRegs
  | .vddAonApply =>
    [.one R.GLB_RSTCAUSE, .one R.THM_TRIP]
  | .pwronResetAssert =>
    [.all]
  | .coldResetRelease _ _ =>
    [.one R.GLB_ROLE, .one R.GLB_RSTCAUSE, .one R.GLB_BOOTSTAT, .any R.TIM_PGCFG]
  | .warmResetPin =>
    [.any pbaWord, .one R.GLB_RSTCAUSE, .any R.QUE_STAT, .any R.QUE_RET, .one R.SRF_STAT, .one R.SRF_FREEPG,
      .one R.SRF_RETIRED, .any R.SPK_SPKSTAT]
  | .warmResetSoftware =>
    [.one R.GLB_RSTCAUSE, .one R.GLB_ERRLOG, .one R.GLB_ERRINFO, .one R.GLB_WARMRST, .any R.QUE_STAT, .any R.QUE_RET,
      .one R.SRF_STAT, .one R.SRF_FREEPG, .one R.SRF_RETIRED, .any R.SPK_SPKSTAT] ++ eventRegs
  | .watchdogExpiry =>
    [.any pbaWord, .one R.GLB_RSTCAUSE, .any R.QUE_STAT, .any R.QUE_RET, .one R.SRF_STAT, .one R.SRF_FREEPG,
      .one R.SRF_RETIRED, .any R.SPK_SPKSTAT]
  | .warmResetAssert =>
    [.all]
  | .warmResetRelease =>
    [.one R.GLB_ROLE, .one R.GLB_BOOTSTAT, .any R.TIM_PGCFG]
  | .refClkLoss =>
    [.one R.CLK_LOCK] ++ eventRegs
  | .refClkGood =>
    [.one R.CLK_LOCK]
  | .pllStageDone =>
    [.one R.GLB_BOOTSTAT, .one R.CLK_LOCK]
  | .romStageDone =>
    [.one R.GLB_BOOTSTAT]
  | .firstStageDone _ =>
    [.one R.GLB_BOOTSTAT, .one R.UPD_STAT, .one R.UPD_HELD, .one R.UPD_BUILD, .any R.UPD_PKGID, .one R.NVM_STAT] ++ eventRegs
  | .dramStageDone _ _ =>
    [.one R.GLB_BOOTSTAT, .one R.DRC_CFG, .one R.DRC_FSPRATE, .one R.DRC_CAP, .any R.DRC_CHSTAT, .any₂ R.DRC_LANE]
  | .firmwareStageDone _ =>
    [.any pbaWord, .one R.GLB_RSTCAUSE, .one R.GLB_BOOTSTAT, .one R.HIF_LINKCFG, .any R.QUE_STAT, .any R.QUE_RET,
      .one R.SRF_STAT, .one R.SRF_FREEPG, .one R.SRF_RETIRED, .one R.LNK_CFG, .any R.LNK_PCTL, .any R.LNK_PSTAT,
      .any R.SPK_SPKSTAT, .one R.THM_TRIP]
  | .ucieAttemptEnd _ _ _ _ =>
    [.one R.GLB_ROLE, .one R.GLB_BOOTSTAT, .one R.HIF_LINKSTAT, .one R.SOR_GSTAT, .one R.LNK_CFG, .any R.LNK_PCTL,
      .any R.LNK_PSTAT] ++ eventRegs
  | .ucieBackoffEnd _ =>
    [.one R.SOR_GSTAT] ++ eventRegs
  | .ucieWindowClose _ _ =>
    [.range 0x40000 0x80000, .range 0x90000 0xA0000, .one R.GLB_ROLE, .one R.GLB_BOOTSTAT, .any R.QUE_STAT, .any R.QUE_IDX,
      .any R.QUE_RET, .any R.SOR_TGTSTAT, .one R.LNK_CFG, .any R.LNK_PCTL, .any R.LNK_PSTAT] ++ eventRegs
  | .bootHoldRetry _ =>
    [.one R.SOR_GSTAT] ++ eventRegs
  | .registerWrite _ _ _ =>
    [.all]
  | .errinfoClear =>
    [.one R.GLB_ERRLOG, .one R.GLB_ERRINFO] ++ eventRegs
  | .barMisalignedRead _ _ _ =>
    [.one R.GLB_ERRLOG, .one R.GLB_ERRINFO, .one R.GLB_EVTTIME, .one R.GLB_EVTDET0, .one R.GLB_EVTDET1, .any R.DMA_CHBYTHI,
      .one R.TIM_NOWFR, .one R.TIM_NOWWR, .any R.TIM_CAPCFG, .any R.TIM_CAPHI, .any R.SEC_NONCE] ++ eventRegs
  | .evtqRead =>
    [.one R.GLB_EVTTIME, .one R.GLB_EVTDET0, .one R.GLB_EVTDET1, .any R.DMA_CHBYTHI, .one R.TIM_NOWFR, .one R.TIM_NOWWR,
      .any R.TIM_CAPCFG, .any R.TIM_CAPHI, .any R.SEC_NONCE]
  | .dmaBytesRead _ =>
    [.one R.GLB_EVTTIME, .one R.GLB_EVTDET0, .one R.GLB_EVTDET1, .any R.DMA_CHBYTHI, .one R.TIM_NOWFR, .one R.TIM_NOWWR,
      .any R.TIM_CAPCFG, .any R.TIM_CAPHI, .any R.SEC_NONCE]
  | .timNowRead _ =>
    [.one R.GLB_EVTTIME, .one R.GLB_EVTDET0, .one R.GLB_EVTDET1, .any R.DMA_CHBYTHI, .one R.SOR_GSTAT, .one R.TIM_NOWFR,
      .one R.TIM_NOWWR, .any R.TIM_CAPCFG, .any R.TIM_CAPHI, .any R.SEC_NONCE] ++ eventRegs
  | .timCapRead _ =>
    [.one R.GLB_EVTTIME, .one R.GLB_EVTDET0, .one R.GLB_EVTDET1, .any R.DMA_CHBYTHI, .one R.TIM_NOWFR, .one R.TIM_NOWWR,
      .any R.TIM_CAPCFG, .any R.TIM_CAPHI, .any R.SEC_NONCE]
  | .secNonceRead =>
    [.one R.GLB_EVTTIME, .one R.GLB_EVTDET0, .one R.GLB_EVTDET1, .any R.DMA_CHBYTHI, .one R.TIM_NOWFR, .one R.TIM_NOWWR,
      .any R.TIM_CAPCFG, .any R.TIM_CAPHI, .any R.SEC_NONCE]
  | .queBlockReset =>
    [.range 0x40000 0x80000, .one R.GLB_ERRLOG, .one R.GLB_ERRINFO, .one R.GLB_BLKRST, .any R.QUE_STAT,
      .any R.QUE_RET] ++ eventRegs
  | .dmaBlockReset =>
    [.range 0x80000 0x90000, .one R.GLB_ERRLOG, .one R.GLB_ERRINFO, .one R.GLB_BLKRST, .any R.QUE_STAT, .any R.QUE_RET,
      .any R.DMA_CHCNT, .any R.DMA_CHDEAD, .any R.SOR_TGTSTAT] ++ eventRegs
  | .sorBlockReset =>
    [.range 0x90000 0xA0000, .one R.GLB_ERRLOG, .one R.GLB_ERRINFO, .one R.GLB_BLKRST, .any R.QUE_STAT, .any R.QUE_RET,
      .any R.DMA_CHSTAT, .any R.SOR_TGTSTAT] ++ eventRegs
  | .srfBlockReset =>
    [.range 0xA0000 0xB0000, .one R.GLB_ERRLOG, .one R.GLB_ERRINFO, .one R.GLB_BLKRST, .any R.QUE_STAT,
      .any R.QUE_RET] ++ eventRegs
  | .cmpBlockReset =>
    [.range 0xB0000 0xC0000, .one R.GLB_ERRLOG, .one R.GLB_ERRINFO, .one R.GLB_BLKRST, .any R.QUE_STAT, .any R.QUE_RET,
      .one R.SRF_STAT, .one R.SRF_FREEPG, .one R.SRF_TCMISS, .one R.FRT_USTAT, .one R.FRT_UFRM, .one R.DRC_ECCSTAT,
      .one R.DRC_UEADDR] ++ eventRegs ++ yieldRegs
  | .frtBlockReset =>
    [.range 0xC0000 0xD0000, .one R.GLB_ERRLOG, .one R.GLB_ERRINFO, .one R.GLB_BLKRST, .any R.QUE_STAT, .any R.QUE_RET,
      .one R.SRF_STAT, .one R.SRF_FREEPG, .one R.SRF_TCMISS, .one R.FRT_USTAT, .one R.FRT_UFRM, .any R.TIM_PGCFG,
      .any R.TIM_PGNEXT, .one R.DRC_ECCSTAT, .one R.DRC_UEADDR] ++ eventRegs ++ yieldRegs
  | .lnkBlockReset =>
    [.range 0xE0000 0xF0000, .one R.GLB_ERRLOG, .one R.GLB_ERRINFO, .one R.GLB_BLKRST, .any R.LNK_PSTAT, .any R.LNK_PMAP,
      .any R.LNK_PCNT, .any R.LNK_LSTAT, .one R.TAN_TSTAT, .one R.CAL_STAT] ++ eventRegs
  | .chnBlockReset =>
    [.range 0xD0000 0xE0000, .one R.GLB_ERRLOG, .one R.GLB_ERRINFO, .one R.GLB_BLKRST, .any R.QUE_STAT,
      .any R.QUE_RET] ++ eventRegs
  | .timBlockReset =>
    [.range 0xF0000 0x100000, .one R.GLB_ERRLOG, .one R.GLB_ERRINFO, .one R.GLB_BLKRST, .one R.TIM_INC,
      .any R.TIM_PGCFG] ++ eventRegs
  | .tanBlockReset =>
    [.range 0x100000 0x110000, .one R.GLB_ERRLOG, .one R.GLB_ERRINFO, .one R.GLB_BLKRST, .any R.QUE_STAT, .any R.QUE_RET,
      .any R.TIM_PGCFG, .any R.TIM_PGNEXT, .one R.TAN_TSTAT] ++ eventRegs
  | .lmpBlockReset =>
    [.range 0x110000 0x120000, .one R.GLB_ERRLOG, .one R.GLB_ERRINFO, .one R.GLB_BLKRST, .any R.QUE_STAT, .any R.QUE_RET,
      .one R.SRF_STAT, .one R.SRF_FREEPG, .one R.SRF_RETIRED, .any R.TIM_PGCFG, .any R.TIM_PGNEXT,
      .any R.SPK_SPKSTAT] ++ eventRegs
  | .spkBlockReset =>
    [.range 0x120000 0x130000, .one R.GLB_ERRLOG, .one R.GLB_ERRINFO, .one R.GLB_BLKRST] ++ eventRegs
  | .calBlockReset =>
    [.range 0x150000 0x160000, .one R.GLB_ERRLOG, .one R.GLB_ERRINFO, .one R.GLB_BLKRST, .any R.LNK_PMAP, .any R.LNK_LSTAT,
      .one R.CAL_STAT] ++ eventRegs
  | .dbgBlockReset =>
    [.one R.GLB_ERRLOG, .one R.GLB_ERRINFO, .one R.GLB_BLKRST] ++ eventRegs
  | .blockResetEnd _ _ =>
    [.one R.GLB_BLKRST, .one R.SOR_GSTAT, .one R.LNK_CFG, .any R.LNK_PCTL, .any R.LNK_PSTAT, .any R.TIM_PGCFG,
      .any R.TIM_PGSTART, .any R.TIM_PGPER, .any R.TIM_PGPERF, .any R.TIM_PGSTAT, .any R.TIM_PGNEXT, .one R.SPK_CTL,
      .any R.SPK_SPKSTAT] ++ eventRegs
  | .hifLinkLoss =>
    [.one R.HIF_LINKSTAT, .any R.QUE_STAT, .any R.QUE_RET, .any R.DMA_CHSTAT, .any R.DMA_CHCNT, .any R.DMA_CHDEAD,
      .any R.SOR_TGTSTAT, .one R.SRF_PFSTAT, .one R.SRF_PFLAST, .one R.SRF_TCMISS, .one R.DRC_ECCSTAT,
      .one R.DRC_UEADDR] ++ eventRegs
  | .hifRetrain _ =>
    [.one R.GLB_ERRLOG, .one R.GLB_ERRINFO, .one R.HIF_LINKCFG, .one R.HIF_LINKSTAT, .any R.QUE_STAT, .any R.QUE_RET,
      .any R.DMA_CHSTAT, .any R.DMA_CHCNT, .any R.DMA_CHDEAD, .any R.SOR_TGTSTAT, .one R.SRF_PFSTAT, .one R.SRF_PFLAST,
      .one R.SRF_TCMISS, .one R.DRC_ECCSTAT, .one R.DRC_UEADDR] ++ eventRegs
  | .hifRetryTimer _ =>
    [.one R.SOR_GSTAT] ++ eventRegs
  | .bmeChange _ =>
    [.one R.HIF_LINKSTAT, .any R.QUE_STAT, .any R.QUE_RET, .any R.DMA_CHSTAT, .any R.DMA_CHCNT, .any R.DMA_CHDEAD,
      .any R.SOR_TGTSTAT, .one R.SRF_TCMISS, .one R.DRC_ECCSTAT, .one R.DRC_UEADDR] ++ eventRegs
  | .msixUnmask _ =>
    [.any pbaWord, .any vecControl]
  | .queueEnable _ =>
    [.one R.GLB_ERRLOG, .one R.GLB_ERRINFO, .any R.QUE_CTL, .any R.QUE_STAT, .any R.QUE_IDX, .any R.QUE_RET] ++ eventRegs
  | .queueDisable _ =>
    [.one R.GLB_ERRLOG, .one R.GLB_ERRINFO, .any R.QUE_CTL, .any R.QUE_STAT, .any R.QUE_IDX, .any R.QUE_RET] ++ eventRegs
  | .queueStop _ =>
    [.one R.GLB_ERRLOG, .one R.GLB_ERRINFO, .any R.QUE_CTL, .any R.QUE_STAT, .any R.QUE_IDX, .any R.QUE_RET] ++ eventRegs
  | .queueResume _ =>
    [.one R.GLB_ERRLOG, .one R.GLB_ERRINFO, .any R.QUE_CTL, .any R.QUE_STAT, .any R.QUE_IDX, .any R.QUE_RET] ++ eventRegs
  | .doorbell _ _ _ =>
    [.one R.GLB_ERRLOG, .one R.GLB_ERRINFO, .any R.QUE_IDX] ++ eventRegs
  | .ringReadComplete _ _ =>
    [.any pbaWord, .any R.QUE_STAT, .any R.QUE_IDX, .one R.SOR_GSTAT]
  | .ringRecheckTimeout _ _ =>
    [.one R.SOR_GSTAT] ++ eventRegs
  | .sorDispatch =>
    [.any R.QUE_STAT, .any R.QUE_RET, .any R.DMA_CHSTAT, .any R.DMA_CHCNT, .any R.DMA_CHDEAD, .any R.SOR_TGTSTAT,
      .one R.SRF_TCMISS, .one R.DRC_ECCSTAT, .one R.DRC_UEADDR] ++ eventRegs
  | .sorPreempt _ =>
    [.any R.QUE_STAT, .any R.QUE_RET, .any R.DMA_CHSTAT, .any R.DMA_CHCNT, .any R.DMA_CHDEAD, .one R.SOR_GSTAT,
      .any R.SOR_TGTSTAT, .one R.SRF_TCMISS, .one R.DRC_ECCSTAT, .one R.DRC_UEADDR] ++ eventRegs
  | .dmaSegmentReadDone _ _ _ _ =>
    [.any R.QUE_STAT, .any R.QUE_RET, .any R.DMA_CHSTAT, .any R.DMA_CHCNT, .any R.DMA_CHDEAD, .any R.SOR_TGTSTAT,
      .one R.SRF_TCMISS, .one R.DRC_ECCSTAT, .one R.DRC_UEADDR] ++ eventRegs
  | .dmaReadDone _ _ =>
    [.any R.QUE_STAT, .any R.QUE_RET, .any R.DMA_CHSTAT, .any R.DMA_CHCNT, .any R.DMA_CHDEAD, .any R.SOR_TGTSTAT,
      .one R.SRF_TCMISS, .one R.DRC_ECCSTAT, .one R.DRC_UEADDR] ++ eventRegs
  | .hostReadTimeout _ _ =>
    [.any R.QUE_STAT, .any R.QUE_RET, .any R.DMA_CHSTAT, .any R.DMA_CHCNT, .any R.DMA_CHDEAD, .one R.SOR_GSTAT,
      .any R.SOR_TGTSTAT, .one R.SRF_PFSTAT, .one R.SRF_PFLAST, .one R.SRF_TCMISS, .one R.DRC_ECCSTAT,
      .one R.DRC_UEADDR] ++ eventRegs
  | .lateCompletion =>
    [.one R.DMA_GSTAT]
  | .dmaDescriptorComplete _ =>
    [.any R.QUE_STAT, .any R.QUE_RET, .any R.DMA_CHSTAT, .any R.DMA_CHCNT, .any R.DMA_CHDEAD, .any R.SOR_TGTSTAT,
      .one R.SRF_TCMISS, .one R.DRC_ECCSTAT, .one R.DRC_UEADDR] ++ eventRegs
  | .slotPoll _ _ =>
    [.one R.SOR_GSTAT] ++ eventRegs
  | .slotReadDone _ _ _ =>
    [.any pbaWord, .any R.QUE_STAT, .any R.QUE_RET, .any R.SOR_TGTSTAT]
  | .slotReadFail _ _ =>
    [.any pbaWord, .any R.QUE_STAT, .any R.QUE_RET, .any R.SOR_TGTSTAT]
  | .loadWindowEnd _ =>
    [.one R.SOR_GSTAT, .one R.SOR_WINNS, .any R.SOR_TGTLOAD] ++ eventRegs
  | .srfEnable =>
    [.one R.GLB_ERRLOG, .one R.GLB_ERRINFO, .one R.SRF_CTL, .one R.SRF_STAT, .one R.SRF_FREEPG] ++ eventRegs
  | .srfTableInitDone =>
    [.any pbaWord, .any R.QUE_STAT, .any R.QUE_RET, .one R.SRF_STAT, .one R.SRF_FREEPG]
  | .surfaceCreate =>
    [.any pbaWord, .any R.QUE_STAT, .any R.QUE_RET, .any R.SOR_TGTSTAT, .one R.SRF_STAT, .one R.SRF_FREEPG]
  | .surfaceBack =>
    [.any pbaWord, .any R.QUE_STAT, .any R.QUE_RET, .any R.SOR_TGTSTAT, .one R.SRF_STAT, .one R.SRF_FREEPG]
  | .surfaceFree =>
    [.any pbaWord, .any R.QUE_STAT, .any R.QUE_RET, .any R.SOR_TGTSTAT, .one R.SRF_STAT, .one R.SRF_FREEPG]
  | .surfaceInval =>
    [.any pbaWord, .any R.QUE_STAT, .any R.QUE_RET, .any R.SOR_TGTSTAT, .one R.SRF_STAT, .one R.SRF_FREEPG]
  | .frameRetire =>
    [.any pbaWord, .any R.QUE_STAT, .any R.QUE_RET, .one R.SRF_STAT, .one R.SRF_FREEPG, .one R.SRF_RETIRED]
  | .prefetchIssue =>
    [.one R.SRF_PFSTAT, .one R.SRF_PFLAST, .one R.SRF_TCMISS, .one R.DRC_ECCSTAT, .one R.DRC_UEADDR] ++ eventRegs
  | .prefetchDone _ _ =>
    [.any pbaWord]
  | .prefetchFail _ _ =>
    [.any pbaWord, .one R.SRF_PFSTAT, .one R.SRF_PFLAST]
  | .latePage _ =>
    [.one R.SOR_GSTAT, .one R.SRF_PFSTAT, .one R.SRF_PFLAST, .one R.SRF_PFFRM, .one R.SRF_TCMISS, .one R.FRT_USTAT,
      .one R.FRT_UFRM, .one R.DRC_ECCSTAT, .one R.DRC_UEADDR] ++ eventRegs ++ yieldRegs
  | .bookLoad _ =>
    [.any R.QUE_STAT, .any R.QUE_RET, .any R.SOR_TGTSTAT, .one R.SRF_TCMISS, .one R.DRC_ECCSTAT,
      .one R.DRC_UEADDR] ++ eventRegs
  | .curveLoad _ =>
    [.any R.QUE_STAT, .any R.QUE_RET, .any R.SOR_TGTSTAT, .one R.SRF_TCMISS, .one R.DRC_ECCSTAT,
      .one R.DRC_UEADDR] ++ eventRegs
  | .filterLoad _ =>
    [.any R.QUE_STAT, .any R.QUE_RET, .any R.SOR_TGTSTAT, .one R.SRF_TCMISS, .one R.DRC_ECCSTAT,
      .one R.DRC_UEADDR] ++ eventRegs
  | .cmpEnable _ =>
    [.one R.GLB_ERRLOG, .one R.GLB_ERRINFO, .any R.QUE_STAT, .any R.QUE_RET, .one R.SRF_STAT, .one R.SRF_FREEPG,
      .one R.CMP_CTL] ++ eventRegs
  | .cmpDisable _ =>
    [.one R.GLB_ERRLOG, .one R.GLB_ERRINFO, .any R.QUE_STAT, .any R.QUE_RET, .one R.SRF_STAT, .one R.SRF_FREEPG,
      .one R.CMP_CTL] ++ eventRegs
  | .cmpFrameDone _ =>
    [.one R.SOR_GSTAT, .one R.SRF_PFLAST, .one R.SRF_TCMISS, .one R.CMP_FCLK, .one R.FRT_USTAT, .one R.FRT_UFRM,
      .one R.CHN_LSTAT, .one R.DRC_ECCSTAT, .one R.DRC_UEADDR] ++ eventRegs ++ yieldRegs
  | .senderCadence _ _ =>
    [.any R.QUE_STAT, .any R.QUE_RET, .one R.SOR_GSTAT, .one R.SRF_STAT, .one R.SRF_FREEPG, .one R.SRF_PFSTAT,
      .one R.SRF_PFLAST, .one R.SRF_TCMISS, .one R.CMP_QSTAT, .one R.CMP_LERR, .any R.CMP_CANNOW, .any R.CMP_LNOW,
      .one R.FRT_COMMIT, .one R.FRT_FRAME, .one R.FRT_NEXTLAT, .one R.FRT_PERNS, .one R.FRT_PERFRAC, .one R.FRT_LAT,
      .one R.FRT_WIN, .one R.FRT_MARGIN, .one R.FRT_EFRAME, .one R.FRT_ANCHOR, .one R.FRT_MSTAT, .one R.FRT_USTAT,
      .one R.FRT_UFRM, .any R.TIM_PGCFG, .any R.TIM_PGSTART, .any R.TIM_PGPER, .any R.TIM_PGPERF, .any R.TIM_PGSTAT,
      .any R.TIM_PGNEXT, .one R.DRC_ECCSTAT, .one R.DRC_UEADDR] ++ eventRegs ++ yieldRegs
  | .rasterDeadline _ =>
    [.one R.SOR_GSTAT, .one R.SRF_TCMISS, .one R.FRT_USTAT, .one R.FRT_UFRM, .one R.DRC_ECCSTAT,
      .one R.DRC_UEADDR] ++ eventRegs ++ yieldRegs
  | .latchInstant _ _ =>
    [.any R.QUE_STAT, .any R.QUE_RET, .one R.SOR_GSTAT, .one R.SRF_PFSTAT, .one R.SRF_PFLAST, .one R.SRF_TCMISS,
      .one R.FRT_COMMIT, .one R.FRT_NEXTLAT, .one R.DRC_ECCSTAT, .one R.DRC_UEADDR] ++ eventRegs
  | .commitGo _ =>
    [.one R.GLB_ERRLOG, .one R.GLB_ERRINFO, .any R.QUE_STAT, .any R.QUE_RET, .one R.SOR_GSTAT, .one R.SRF_STAT,
      .one R.SRF_FREEPG, .one R.SRF_PFSTAT, .one R.SRF_PFLAST, .one R.SRF_TCMISS, .one R.FRT_CTL, .one R.FRT_COMMIT,
      .one R.FRT_NEXTLAT, .one R.FRT_PERNS, .one R.FRT_PERFRAC, .one R.FRT_LAT, .one R.FRT_WIN, .one R.FRT_MARGIN,
      .one R.FRT_EFRAME, .one R.FRT_ANCHOR, .one R.FRT_MSTAT, .any R.TIM_PGCFG, .any R.TIM_PGSTART, .any R.TIM_PGPER,
      .any R.TIM_PGPERF, .any R.TIM_PGSTAT, .any R.TIM_PGNEXT, .one R.DRC_ECCSTAT, .one R.DRC_UEADDR] ++ eventRegs
  | .commitEntry =>
    [.any R.QUE_STAT, .any R.QUE_RET, .any R.SOR_TGTSTAT, .one R.SRF_PFSTAT, .one R.SRF_PFLAST, .one R.SRF_TCMISS,
      .one R.FRT_COMMIT, .one R.FRT_NEXTLAT, .one R.FRT_PERNS, .one R.FRT_PERFRAC, .one R.FRT_LAT, .one R.FRT_WIN,
      .one R.FRT_MARGIN, .one R.FRT_EFRAME, .one R.FRT_ANCHOR, .one R.FRT_MSTAT, .one R.DRC_ECCSTAT, .one R.DRC_UEADDR,
      .one R.UPD_AFRAME] ++ eventRegs ++ yieldRegs
  | .modeEntry =>
    [.any R.QUE_STAT, .any R.QUE_RET, .any R.SOR_TGTSTAT, .one R.SRF_PFSTAT, .one R.SRF_PFLAST, .one R.SRF_TCMISS,
      .one R.FRT_COMMIT, .one R.FRT_NEXTLAT, .one R.FRT_PERNS, .one R.FRT_PERFRAC, .one R.FRT_LAT, .one R.FRT_WIN,
      .one R.FRT_MARGIN, .one R.FRT_EFRAME, .one R.FRT_ANCHOR, .one R.FRT_MSTAT, .one R.DRC_ECCSTAT, .one R.DRC_UEADDR,
      .one R.UPD_AFRAME] ++ eventRegs ++ yieldRegs
  | .frtEnable _ _ =>
    [.one R.GLB_ERRLOG, .one R.GLB_ERRINFO, .any R.QUE_STAT, .any R.QUE_RET, .one R.SOR_GSTAT, .one R.SRF_STAT,
      .one R.SRF_FREEPG, .one R.SRF_PFSTAT, .one R.SRF_PFLAST, .one R.SRF_TCMISS, .one R.FRT_CTL, .one R.FRT_COMMIT,
      .one R.FRT_NEXTLAT, .one R.FRT_PERNS, .one R.FRT_PERFRAC, .one R.FRT_LAT, .one R.FRT_WIN, .one R.FRT_MARGIN,
      .one R.FRT_EFRAME, .one R.FRT_ANCHOR, .one R.FRT_MSTAT, .any R.TIM_PGCFG, .any R.TIM_PGSTART, .any R.TIM_PGPER,
      .any R.TIM_PGPERF, .any R.TIM_PGSTAT, .any R.TIM_PGNEXT, .one R.DRC_ECCSTAT, .one R.DRC_UEADDR] ++ eventRegs
  | .frtDisable _ _ =>
    [.one R.GLB_ERRLOG, .one R.GLB_ERRINFO, .any R.QUE_STAT, .any R.QUE_RET, .one R.SOR_GSTAT, .one R.SRF_STAT,
      .one R.SRF_FREEPG, .one R.SRF_PFSTAT, .one R.SRF_PFLAST, .one R.SRF_TCMISS, .one R.FRT_CTL, .one R.FRT_COMMIT,
      .one R.FRT_NEXTLAT, .one R.FRT_PERNS, .one R.FRT_PERFRAC, .one R.FRT_LAT, .one R.FRT_WIN, .one R.FRT_MARGIN,
      .one R.FRT_EFRAME, .one R.FRT_ANCHOR, .one R.FRT_MSTAT, .any R.TIM_PGCFG, .any R.TIM_PGSTART, .any R.TIM_PGPER,
      .any R.TIM_PGPERF, .any R.TIM_PGSTAT, .any R.TIM_PGNEXT, .one R.DRC_ECCSTAT, .one R.DRC_UEADDR] ++ eventRegs
  | .portEnable _ _ =>
    [.one R.GLB_ERRLOG, .one R.GLB_ERRINFO, .any R.LNK_PCTL, .any R.LNK_PSTAT, .any R.LNK_PMAP, .any R.LNK_PCNT,
      .any R.LNK_LCTL, .any R.LNK_LSTAT, .any R.LNK_LPRBS, .one R.TAN_TSTAT, .one R.CAL_STAT] ++ eventRegs
  | .portDisable _ _ =>
    [.one R.GLB_ERRLOG, .one R.GLB_ERRINFO, .any R.LNK_PCTL, .any R.LNK_PSTAT, .any R.LNK_PMAP, .any R.LNK_PCNT,
      .any R.LNK_LCTL, .any R.LNK_LSTAT, .any R.LNK_LPRBS, .one R.TAN_TSTAT, .one R.CAL_STAT] ++ eventRegs
  | .portRetrain _ _ =>
    [.one R.GLB_ERRLOG, .one R.GLB_ERRINFO, .any R.LNK_PCTL, .any R.LNK_PSTAT, .any R.LNK_PMAP, .any R.LNK_PCNT,
      .any R.LNK_LCTL, .any R.LNK_LSTAT, .any R.LNK_LPRBS, .one R.TAN_TSTAT, .one R.CAL_STAT] ++ eventRegs
  | .portTestEnter _ _ =>
    [.one R.GLB_ERRLOG, .one R.GLB_ERRINFO, .any R.LNK_PCTL, .any R.LNK_PSTAT, .any R.LNK_PMAP, .any R.LNK_PCNT,
      .any R.LNK_LCTL, .any R.LNK_LSTAT, .any R.LNK_LPRBS, .one R.TAN_TSTAT, .one R.CAL_STAT] ++ eventRegs
  | .portTestExit _ _ =>
    [.one R.GLB_ERRLOG, .one R.GLB_ERRINFO, .any R.LNK_PCTL, .any R.LNK_PSTAT, .any R.LNK_PMAP, .any R.LNK_PCNT,
      .any R.LNK_LCTL, .any R.LNK_LSTAT, .any R.LNK_LPRBS, .one R.TAN_TSTAT, .one R.CAL_STAT] ++ eventRegs
  | .prbsInject _ _ =>
    [.one R.GLB_ERRLOG, .one R.GLB_ERRINFO, .any R.LNK_PSTAT, .any R.LNK_PMAP, .any R.LNK_PCNT, .any R.LNK_LCTL,
      .any R.LNK_LSTAT, .any R.LNK_LPRBS, .one R.TAN_TSTAT, .one R.CAL_STAT] ++ eventRegs
  | .receiverDetect _ _ _ =>
    [.one R.SOR_GSTAT, .any R.LNK_PSTAT] ++ eventRegs
  | .presetTrial _ _ =>
    [.any R.LNK_PSTAT, .any R.LNK_LCV]
  | .linkStageDone _ _ =>
    [.any R.LNK_PSTAT, .any R.LNK_PMAP, .any R.LNK_PCNT, .any R.LNK_LSTAT, .any R.LNK_LCV, .one R.TIM_INC,
      .any R.CAL_LQUAL] ++ eventRegs
  | .linkAttemptFail _ =>
    [.one R.SOR_GSTAT, .any R.LNK_PSTAT, .any R.LNK_PCNT, .any R.LNK_LSTAT] ++ eventRegs
  | .linkBackoffEnd _ _ =>
    [.one R.SOR_GSTAT, .any R.LNK_PSTAT] ++ eventRegs
  | .chainDown _ =>
    [.any R.LNK_PSTAT, .any R.LNK_PMAP, .any R.LNK_PCNT, .any R.LNK_LSTAT, .one R.TAN_TSTAT, .one R.CAL_STAT] ++ eventRegs
  | .laneSpare _ _ =>
    [.any R.LNK_PSTAT, .any R.LNK_PMAP, .any R.LNK_PCNT, .any R.LNK_LSTAT, .one R.TIM_INC, .one R.TAN_TSTAT,
      .one R.CAL_STAT] ++ eventRegs
  | .steerReceive _ _ _ =>
    []
  | .steerRepeat _ =>
    [.one R.SOR_GSTAT, .one R.TIM_INC] ++ eventRegs
  | .pannierSwitch _ =>
    [.any R.LNK_PMAP, .any R.LNK_LSTAT]
  | .elasticSlip _ =>
    [.any R.LNK_PERR]
  | .reseedTimer _ _ =>
    [.one R.SOR_GSTAT] ++ eventRegs
  | .adaptWindow _ _ _ _ =>
    [.any R.LNK_LSTAT]
  | .marginMeasure _ _ _ _ =>
    [.any R.LNK_PMAP, .any R.LNK_LSTAT, .any R.LNK_LMARGIN, .one R.CAL_STAT]
  | .timingPortChange =>
    [.one R.LNK_TIMING]
  | .timingPortLocked =>
    [.one R.LNK_TIMING]
  | .cellForward _ _ _ _ _ =>
    [.one R.SOR_GSTAT, .any R.LNK_PSTAT, .any R.LNK_PMAP, .any R.LNK_PCNT, .any R.LNK_PERR, .any R.LNK_PFEC, .any R.LNK_LSTAT,
      .any R.LNK_LPRBS, .any R.LNK_LCV, .one R.TAN_TSTAT, .one R.CAL_STAT] ++ eventRegs
  | .candidateCorrected =>
    [.any R.CHN_PERR, .any R.LNK_PFEC]
  | .insertQueueTimeout _ _ =>
    [.one R.SOR_GSTAT] ++ eventRegs
  | .runCell =>
    [.one R.SRF_TCMISS, .one R.CHN_KEYSTAT, .one R.CHN_RSTAT, .one R.LMP_FSTAT, .one R.DRC_ECCSTAT, .one R.DRC_UEADDR,
      .one R.DRC_HAZSTAT] ++ eventRegs
  | .abortCell =>
    []
  | .beaconCell =>
    [.one R.TAN_TSTAT, .one R.TAN_TCLAIM0, .one R.TAN_TCLAIM1] ++ eventRegs
  | .peerBeacon =>
    [.any R.QUE_STAT, .any R.QUE_RET, .one R.TAN_CLAIM, .one R.TAN_STAT, .one R.TAN_PEER] ++ eventRegs
  | .letterSegment =>
    [.one R.CHN_LSTAT, .any R.CHN_PERR]
  | .reassemblyTimeout _ =>
    [.one R.SOR_GSTAT, .one R.CHN_LSTAT] ++ eventRegs
  | .regReadLetter =>
    [.all]
  | .regWriteLetter =>
    [.all]
  | .ringFillLetter =>
    [.any pbaWord, .any R.QUE_IDX, .one R.CHN_LSTAT, .any R.CHN_PERR]
  | .ringReadLetter =>
    [.one R.CHN_LSTAT, .any R.CHN_PERR]
  | .modeLetter =>
    [.one R.CHN_LSTAT, .any R.TIM_PGCFG, .any R.TIM_PGSTART, .any R.TIM_PGPER, .any R.TIM_PGPERF, .any R.TIM_PGSTAT,
      .any R.TIM_PGNEXT, .one R.LMP_MSTAT, .one R.UPD_AFRAME] ++ eventRegs ++ yieldRegs
  | .certGetLetter =>
    [.one R.CHN_LSTAT, .any R.CHN_PERR]
  | .keyWrapLetter =>
    [.one R.SEC_STAT]
  | .quoteReqLetter =>
    [.one R.CHN_LSTAT, .any R.CHN_PERR, .one R.SEC_STAT, .one R.SEC_CNT]
  | .keyDropLetter =>
    [.one R.CHN_KEYSTAT, .one R.CHN_LSTAT, .any R.CHN_KSESS, .any R.CHN_PERR]
  | .parcelData =>
    [.one R.CHN_LSTAT, .one R.UPD_STAT, .one R.UPD_HELD, .any R.UPD_PKGID, .one R.NVM_STAT] ++ eventRegs
  | .parcelQuery =>
    [.one R.CHN_LSTAT, .any R.CHN_PERR, .one R.UPD_STAT]
  | .parcelArm =>
    [.any R.QUE_STAT, .any R.QUE_RET, .one R.CHN_LSTAT, .one R.UPD_STAT, .one R.UPD_AFRAME,
      .one R.NVM_STAT] ++ eventRegs ++ yieldRegs
  | .parcelAbandon =>
    [.any R.QUE_STAT, .any R.QUE_RET, .one R.CHN_LSTAT, .one R.UPD_STAT, .one R.UPD_HELD, .one R.UPD_AFRAME,
      .any R.UPD_PKGID] ++ eventRegs
  | .snapPartLetter _ =>
    [.any R.QUE_STAT, .any R.QUE_RET, .one R.SRF_PFSTAT, .one R.SRF_PFLAST, .one R.SRF_TCMISS, .one R.FRT_COMMIT,
      .one R.FRT_NEXTLAT, .one R.TAN_SNAPSTAT, .one R.TAN_SNAPGEN, .one R.TAN_SNAPSEEN, .one R.TAN_SNAPLEN, .one R.DRC_ECCSTAT,
      .one R.DRC_UEADDR, .one R.DRC_HAZSTAT] ++ eventRegs
  | .snapCommitLetter _ =>
    [.any R.QUE_STAT, .any R.QUE_RET, .one R.SRF_PFSTAT, .one R.SRF_PFLAST, .one R.SRF_TCMISS, .one R.FRT_COMMIT,
      .one R.FRT_NEXTLAT, .one R.TAN_SNAPSTAT, .one R.TAN_SNAPGEN, .one R.TAN_SNAPSEEN, .one R.TAN_SNAPLEN, .one R.DRC_ECCSTAT,
      .one R.DRC_UEADDR] ++ eventRegs
  | .snapWaitTimeout _ =>
    [.any R.QUE_STAT, .any R.QUE_RET, .one R.SOR_GSTAT, .one R.SRF_PFSTAT, .one R.SRF_PFLAST, .one R.SRF_TCMISS,
      .one R.FRT_COMMIT, .one R.FRT_NEXTLAT, .one R.TAN_SNAPSTAT, .one R.DRC_ECCSTAT, .one R.DRC_UEADDR] ++ eventRegs
  | .inboxRecord =>
    [.one R.SRF_TCMISS, .one R.CHN_LSTAT, .one R.CHN_INBOXIDX, .one R.DRC_ECCSTAT, .one R.DRC_UEADDR,
      .one R.DRC_HAZSTAT] ++ eventRegs
  | .sendEntry _ =>
    [.any R.QUE_STAT, .any R.QUE_RET, .any R.SOR_TGTSTAT, .one R.SRF_TCMISS, .one R.DRC_ECCSTAT,
      .one R.DRC_UEADDR] ++ eventRegs
  | .sendReply =>
    [.any R.QUE_STAT, .any R.QUE_RET, .one R.SRF_TCMISS, .one R.DRC_ECCSTAT, .one R.DRC_UEADDR,
      .one R.DRC_HAZSTAT] ++ eventRegs
  | .sendTimeout _ =>
    [.any R.QUE_STAT, .any R.QUE_RET, .one R.SOR_GSTAT] ++ eventRegs
  | .inboxEnable _ =>
    [.one R.GLB_ERRLOG, .one R.GLB_ERRINFO, .one R.CHN_INBOX, .one R.CHN_INBOXIDX] ++ eventRegs
  | .inboxRdWrite _ =>
    [.one R.GLB_ERRLOG, .one R.GLB_ERRINFO, .one R.CHN_INBOXIDX] ++ eventRegs
  | .rollcallCell =>
    [.one R.CHN_POSTCODE, .any R.CHN_PORTCTL, .any R.CHN_PERR]
  | .syncPostmark =>
    [.one R.SOR_GSTAT, .one R.TIM_STAT, .one R.TIM_INC, .one R.TIM_OFFSET, .one R.TIM_SSTAT, .any R.TIM_PGCFG,
      .any R.TIM_PGSTAT, .any R.TIM_PGNEXT] ++ eventRegs
  | .preqPostmark =>
    [.any R.CHN_PERR]
  | .prespPostmark =>
    [.any R.TIM_PDLY]
  | .preqSend _ _ =>
    [.one R.SOR_GSTAT] ++ eventRegs
  | .preqLost _ =>
    [.one R.SOR_GSTAT, .one R.TIM_SSTAT] ++ eventRegs
  | .syncLoss _ =>
    [.one R.SOR_GSTAT, .one R.TIM_STAT, .one R.TIM_INC] ++ eventRegs
  | .timeWrap =>
    [.one R.SOR_GSTAT] ++ eventRegs
  | .timeAdjStep _ =>
    [.one R.GLB_ERRLOG, .one R.GLB_ERRINFO, .one R.SOR_GSTAT, .one R.TIM_STAT, .one R.TIM_ADJ, .one R.TIM_REFCFG,
      .any R.TIM_PGCFG, .any R.TIM_PGSTAT, .any R.TIM_PGNEXT, .any R.TIM_CAPCFG] ++ eventRegs
  | .refArm _ =>
    [.one R.GLB_ERRLOG, .one R.GLB_ERRINFO, .one R.SOR_GSTAT, .one R.TIM_STAT, .one R.TIM_REFCFG, .any R.TIM_PGCFG,
      .any R.TIM_PGSTAT, .any R.TIM_PGNEXT, .any R.TIM_CAPCFG] ++ eventRegs
  | .referenceEdge _ _ _ =>
    [.one R.SOR_GSTAT, .one R.TIM_STAT, .one R.TIM_INC, .one R.TIM_REFCFG, .one R.TIM_OFFSET, .one R.TIM_SSTAT,
      .any R.TIM_PGCFG, .any R.TIM_PGSTAT, .any R.TIM_PGNEXT] ++ eventRegs
  | .referenceLoss _ =>
    [.one R.SOR_GSTAT, .one R.TIM_STAT, .one R.TIM_INC] ++ eventRegs
  | .generatorEnable _ _ _ =>
    [.one R.GLB_ERRLOG, .one R.GLB_ERRINFO, .one R.SOR_GSTAT, .one R.TIM_STAT, .one R.TIM_REFCFG, .any R.TIM_PGCFG,
      .any R.TIM_PGSTAT, .any R.TIM_PGNEXT, .any R.TIM_CAPCFG] ++ eventRegs
  | .generatorDisable _ _ _ =>
    [.one R.GLB_ERRLOG, .one R.GLB_ERRINFO, .one R.SOR_GSTAT, .one R.TIM_STAT, .one R.TIM_REFCFG, .any R.TIM_PGCFG,
      .any R.TIM_PGSTAT, .any R.TIM_PGNEXT, .any R.TIM_CAPCFG] ++ eventRegs
  | .generatorPulse _ _ _ =>
    [.any R.QUE_STAT, .any R.QUE_RET, .one R.SOR_GSTAT, .one R.SRF_STAT, .one R.SRF_FREEPG, .one R.SRF_PFSTAT,
      .one R.SRF_PFLAST, .one R.SRF_RETIRED, .one R.SRF_TCMISS, .one R.CMP_QSTAT, .one R.CMP_LERR, .any R.CMP_CANNOW,
      .any R.CMP_LNOW, .one R.FRT_COMMIT, .one R.FRT_FRAME, .one R.FRT_NEXTLAT, .one R.FRT_PERNS, .one R.FRT_PERFRAC,
      .one R.FRT_LAT, .one R.FRT_WIN, .one R.FRT_MARGIN, .one R.FRT_EFRAME, .one R.FRT_ANCHOR, .one R.FRT_MSTAT,
      .one R.FRT_USTAT, .one R.FRT_UFRM, .any R.TIM_PGCFG, .any R.TIM_PGSTART, .any R.TIM_PGPER, .any R.TIM_PGPERF,
      .any R.TIM_PGSTAT, .any R.TIM_PGNEXT, .one R.TAN_CLAIM, .one R.TAN_STAT, .one R.TAN_PEER, .one R.TAN_SNAPSTAT,
      .one R.TAN_TSTAT, .one R.TAN_TCLAIM0, .one R.TAN_TCLAIM1, .one R.LMP_MSTAT, .one R.DRC_ECCSTAT,
      .one R.DRC_UEADDR] ++ eventRegs ++ yieldRegs
  | .captureEdge _ _ _ _ =>
    [.one R.SOR_GSTAT, .any R.TIM_CAPCFG] ++ eventRegs
  | .cadgenWrite _ _ =>
    [.one R.GLB_ERRLOG, .one R.GLB_ERRINFO, .one R.SOR_GSTAT, .one R.TIM_CFG, .one R.TIM_STAT, .one R.TIM_REFCFG,
      .any R.TIM_PGCFG, .any R.TIM_PGSTAT, .any R.TIM_PGNEXT, .any R.TIM_CAPCFG] ++ eventRegs
  | .tanEnable _ =>
    [.one R.GLB_ERRLOG, .one R.GLB_ERRINFO, .any R.QUE_STAT, .any R.QUE_RET, .any R.TIM_PGCFG, .any R.TIM_PGSTART,
      .any R.TIM_PGPER, .any R.TIM_PGPERF, .any R.TIM_PGSTAT, .any R.TIM_PGNEXT, .one R.TAN_CFG, .one R.TAN_CLAIM,
      .one R.TAN_STAT, .one R.TAN_SNAPSTAT] ++ eventRegs
  | .tanDisable _ =>
    [.one R.GLB_ERRLOG, .one R.GLB_ERRINFO, .any R.QUE_STAT, .any R.QUE_RET, .any R.TIM_PGCFG, .any R.TIM_PGSTART,
      .any R.TIM_PGPER, .any R.TIM_PGPERF, .any R.TIM_PGSTAT, .any R.TIM_PGNEXT, .one R.TAN_CFG, .one R.TAN_CLAIM,
      .one R.TAN_STAT, .one R.TAN_SNAPSTAT] ++ eventRegs
  | .heartbeatPulse _ =>
    [.any R.QUE_STAT, .any R.QUE_RET, .one R.SOR_GSTAT, .any R.TIM_PGCFG, .any R.TIM_PGSTAT, .any R.TIM_PGNEXT,
      .one R.TAN_CLAIM, .one R.TAN_STAT, .one R.TAN_PEER, .one R.TAN_SNAPSTAT] ++ eventRegs
  | .tanTake _ =>
    [.one R.GLB_ERRLOG, .one R.GLB_ERRINFO, .any R.QUE_STAT, .any R.QUE_RET, .any R.TIM_PGCFG, .any R.TIM_PGSTART,
      .any R.TIM_PGPER, .any R.TIM_PGPERF, .any R.TIM_PGSTAT, .any R.TIM_PGNEXT, .one R.TAN_CFG, .one R.TAN_CTL,
      .one R.TAN_CLAIM, .one R.TAN_STAT, .one R.TAN_SNAPSTAT] ++ eventRegs
  | .revertHoldExpiry _ =>
    [.any R.QUE_STAT, .any R.QUE_RET, .one R.SOR_GSTAT, .one R.TAN_CLAIM, .one R.TAN_STAT, .one R.TAN_SNAPSTAT] ++ eventRegs
  | .tanRenum _ =>
    [.one R.GLB_ERRLOG, .one R.GLB_ERRINFO, .any R.QUE_STAT, .any R.QUE_RET, .any R.TIM_PGCFG, .any R.TIM_PGSTART,
      .any R.TIM_PGPER, .any R.TIM_PGPERF, .any R.TIM_PGSTAT, .any R.TIM_PGNEXT, .one R.TAN_CFG, .one R.TAN_CLAIM,
      .one R.TAN_STAT, .one R.TAN_RENUM, .one R.TAN_SNAPSTAT] ++ eventRegs
  | .snapEntry _ =>
    [.any R.QUE_STAT, .any R.QUE_RET, .any R.SOR_TGTSTAT, .one R.SRF_TCMISS, .one R.TAN_SNAPSTAT, .one R.TAN_SNAPSEEN,
      .one R.DRC_ECCSTAT, .one R.DRC_UEADDR] ++ eventRegs
  | .snapCommitRepeat _ =>
    [.one R.SOR_GSTAT] ++ eventRegs
  | .claimExpiry _ _ =>
    [.one R.SOR_GSTAT, .one R.TAN_TSTAT] ++ eventRegs
  | .tileCadence _ =>
    [.any R.QUE_STAT, .any R.QUE_RET, .one R.SOR_GSTAT, .one R.SRF_STAT, .one R.SRF_FREEPG, .one R.SRF_RETIRED,
      .any R.TIM_PGCFG, .any R.TIM_PGSTART, .any R.TIM_PGPER, .any R.TIM_PGPERF, .any R.TIM_PGSTAT, .any R.TIM_PGNEXT,
      .one R.TAN_TSTAT, .one R.TAN_TCLAIM0, .one R.TAN_TCLAIM1, .one R.LMP_MSTAT] ++ eventRegs
  | .commitInstant _ =>
    [.any R.QUE_STAT, .any R.QUE_RET, .any R.DMA_CHSTAT, .any R.DMA_CHCNT, .any R.DMA_CHDEAD, .one R.SOR_GSTAT,
      .any R.SOR_TGTSTAT, .one R.SRF_STAT, .one R.SRF_FREEPG, .one R.SRF_RETIRED, .one R.SRF_TCMISS, .one R.LMP_DIMNOW,
      .one R.LMP_MSTAT, .one R.LMP_FSTAT, .one R.LMP_FRAME, .one R.LMP_LASTMISS, .any R.LMP_ZTEMP, .one R.DRC_ECCSTAT,
      .one R.DRC_UEADDR, .one R.SEC_STAT] ++ eventRegs ++ yieldRegs
  | .slotLatch _ _ =>
    [.any R.QUE_STAT, .any R.QUE_RET, .any R.DMA_CHSTAT, .any R.DMA_CHCNT, .any R.DMA_CHDEAD, .one R.SOR_GSTAT,
      .any R.SOR_TGTSTAT, .one R.SRF_STAT, .one R.SRF_FREEPG, .one R.SRF_RETIRED, .one R.SRF_TCMISS, .one R.LMP_DIMNOW,
      .one R.LMP_ERR, .any R.LMP_ZTEMP, .one R.DRC_ECCSTAT, .one R.DRC_UEADDR] ++ eventRegs ++ yieldRegs
  | .lmpCurveLoad _ =>
    [.any R.QUE_STAT, .any R.QUE_RET, .any R.SOR_TGTSTAT, .one R.SRF_TCMISS, .one R.DRC_ECCSTAT,
      .one R.DRC_UEADDR] ++ eventRegs
  | .dimWrite _ _ =>
    [.one R.GLB_ERRLOG, .one R.GLB_ERRINFO, .any R.QUE_STAT, .any R.QUE_RET, .one R.SOR_GSTAT, .one R.SRF_STAT,
      .one R.SRF_FREEPG, .one R.LMP_CTL, .one R.LMP_DIM, .one R.LMP_DIMNOW] ++ eventRegs
  | .lmpEnable _ =>
    [.one R.GLB_ERRLOG, .one R.GLB_ERRINFO, .any R.QUE_STAT, .any R.QUE_RET, .one R.SRF_STAT, .one R.SRF_FREEPG,
      .one R.LMP_CTL, .one R.LMP_DIMNOW] ++ eventRegs
  | .lmpDisable _ =>
    [.one R.GLB_ERRLOG, .one R.GLB_ERRINFO, .any R.QUE_STAT, .any R.QUE_RET, .one R.SRF_STAT, .one R.SRF_FREEPG,
      .one R.LMP_CTL, .one R.LMP_DIMNOW] ++ eventRegs
  | .svcPress _ =>
    [.one R.SOR_GSTAT, .one R.LMP_TPCFG] ++ eventRegs
  | .svcLongHold _ =>
    [.any R.QUE_STAT, .any R.QUE_RET, .any R.DMA_CHSTAT, .any R.DMA_CHCNT, .any R.DMA_CHDEAD, .one R.SOR_GSTAT,
      .any R.SOR_TGTSTAT, .one R.SRF_TCMISS, .one R.LMP_DIMNOW, .one R.LMP_TPCFG, .any R.LMP_ZTEMP, .one R.DRC_ECCSTAT,
      .one R.DRC_UEADDR] ++ eventRegs
  | .locatorEnd _ =>
    [.one R.SOR_GSTAT, .one R.LMP_TPCFG] ++ eventRegs
  | .selfTestEnd _ =>
    [.one R.SOR_GSTAT, .one R.LMP_TPCFG] ++ eventRegs
  | .spkEnable _ =>
    [.one R.GLB_ERRLOG, .one R.GLB_ERRINFO, .one R.SRF_TCMISS, .one R.SPK_CTL, .one R.SPK_FLCNT, .any R.SPK_SPKSTAT,
      .one R.DRC_ECCSTAT, .one R.DRC_UEADDR] ++ eventRegs
  | .spkDisable _ =>
    [.one R.GLB_ERRLOG, .one R.GLB_ERRINFO, .one R.SRF_TCMISS, .one R.SPK_CTL, .one R.SPK_FLCNT, .any R.SPK_SPKSTAT,
      .one R.DRC_ECCSTAT, .one R.DRC_UEADDR] ++ eventRegs
  | .spokeBringupRetry _ _ =>
    [.one R.SOR_GSTAT, .any R.SPK_SPKSTAT] ++ eventRegs
  | .driverStatPoll _ =>
    [.one R.SOR_GSTAT] ++ eventRegs
  | .spkReload =>
    [.one R.GLB_ERRLOG, .one R.GLB_ERRINFO, .one R.SRF_TCMISS, .one R.SPK_CTL, .one R.SPK_FLCNT, .any R.SPK_SPKSTAT,
      .one R.DRC_ECCSTAT, .one R.DRC_UEADDR] ++ eventRegs
  | .latchSend _ _ _ =>
    [.one R.SOR_GSTAT, .one R.SRF_TCMISS, .one R.LMP_ERR, .one R.SPK_RBSTAT, .one R.SPK_RBSPK, .one R.SPK_RBGRP,
      .one R.DRC_ECCSTAT, .one R.DRC_UEADDR] ++ eventRegs
  | .lineSlot _ =>
    [.one R.SOR_GSTAT] ++ eventRegs
  | .slotEmissionEnd _ _ =>
    [.one R.SOR_GSTAT, .one R.SPK_FLCNT, .one R.SPK_RBSTAT, .one R.SPK_RBSPK, .one R.SPK_RBGRP] ++ eventRegs
  | .readAnswer _ _ =>
    [.one R.SRF_TCMISS, .one R.SPK_FLCNT, .any R.SPK_SPKSTAT, .one R.DRC_ECCSTAT, .one R.DRC_UEADDR] ++ eventRegs
  | .readAbsent _ =>
    [.one R.SOR_GSTAT, .one R.SRF_TCMISS, .one R.SPK_FLCNT, .any R.SPK_SPKSTAT, .one R.DRC_ECCSTAT,
      .one R.DRC_UEADDR] ++ eventRegs
  | .detectionRead _ _ _ _ =>
    [.one R.SRF_TCMISS, .one R.SPK_FLCNT, .any R.SPK_SPKSTAT, .one R.DRC_ECCSTAT, .one R.DRC_UEADDR] ++ eventRegs
  | .faultTableClear =>
    [.one R.GLB_ERRLOG, .one R.GLB_ERRINFO, .one R.SRF_TCMISS, .one R.SPK_CTL, .one R.SPK_FDCTL, .one R.SPK_FLCNT,
      .any R.SPK_SPKSTAT, .one R.DRC_ECCSTAT, .one R.DRC_UEADDR] ++ eventRegs
  | .readbackSpokeClear _ =>
    [.one R.GLB_ERRLOG, .one R.GLB_ERRINFO, .one R.SRF_TCMISS, .one R.SPK_CTL, .one R.SPK_FLCNT, .one R.SPK_RBSPK,
      .any R.SPK_SPKSTAT, .one R.DRC_ECCSTAT, .one R.DRC_UEADDR] ++ eventRegs
  | .dramReadRequest _ _ _ _ =>
    [.one R.SOR_GSTAT, .one R.DRC_HAZSTAT] ++ eventRegs
  | .dramReadReturn _ _ _ _ =>
    [.one R.SOR_GSTAT, .one R.DRC_QMISS, .one R.DRC_ECCSTAT, .one R.DRC_UEADDR, .one R.DRC_HAZSTAT,
      .any R.DRC_CHSTAT] ++ eventRegs ++ yieldRegs
  | .dramWriteRequest _ _ _ _ _ _ =>
    [.one R.SOR_GSTAT, .one R.DRC_QMISS, .one R.DRC_ECCSTAT, .one R.DRC_UEADDR, .one R.DRC_HAZSTAT,
      .any R.DRC_CHSTAT] ++ eventRegs ++ yieldRegs
  | .dramPartialWrite _ _ _ _ _ =>
    [.one R.SOR_GSTAT, .one R.DRC_QMISS, .one R.DRC_ECCSTAT, .one R.DRC_UEADDR, .one R.DRC_HAZSTAT,
      .any R.DRC_CHSTAT] ++ eventRegs ++ yieldRegs
  | .refreshDue _ _ _ =>
    [.one R.SOR_GSTAT, .one R.DRC_REFSTAT, .any R.DRC_CHSTAT] ++ eventRegs
  | .refreshPullin _ _ _ =>
    [.one R.SOR_GSTAT, .one R.DRC_REFSTAT, .any R.DRC_CHSTAT] ++ eventRegs
  | .patrolScrub _ _ =>
    [.one R.SOR_GSTAT, .one R.DRC_QMISS, .one R.DRC_ECCSTAT, .one R.DRC_UEADDR] ++ eventRegs
  | .mr4Poll _ =>
    []
  | .selfRefreshEntry _ _ =>
    [.one R.SOR_GSTAT, .any R.DRC_CHSTAT] ++ eventRegs
  | .selfRefreshExit _ _ =>
    [.one R.SOR_GSTAT, .one R.DRC_CFG, .one R.DRC_FREQ, .one R.DRC_HAZSTAT, .any R.DRC_CHSTAT, .any₂ R.DRC_LANE,
      .any R.CAL_DCNT] ++ eventRegs
  | .freqChangeGo _ =>
    [.one R.GLB_ERRLOG, .one R.GLB_ERRINFO, .one R.DRC_CFG, .one R.DRC_FREQ] ++ eventRegs
  | .freqChangeTimeout _ =>
    [.one R.SOR_GSTAT, .one R.DRC_FREQ, .one R.DRC_HAZSTAT, .any R.DRC_CHSTAT] ++ eventRegs
  | .dramTrackStep _ _ =>
    [.one R.SOR_GSTAT, .any₂ R.DRC_LANE] ++ eventRegs
  | .standbyRetrain _ _ _ _ =>
    [.one R.SOR_GSTAT, .any₂ R.DRC_LANE, .any R.CAL_DCNT, .any R.CAL_DFRM, .any R.CAL_DTIME] ++ eventRegs
  | .sensorSample _ _ _ =>
    [.any R.QUE_STAT, .any R.QUE_RET, .one R.SOR_GSTAT, .one R.SRF_STAT, .one R.SRF_FREEPG, .one R.SRF_RETIRED,
      .any R.LNK_PSTAT, .any R.LNK_PMAP, .any R.LNK_PCNT, .any R.LNK_LCTL, .any R.LNK_LSTAT, .any R.LNK_LPRBS,
      .one R.TAN_TSTAT, .one R.LMP_CEIL, .one R.SPK_CTL, .any R.SPK_SPKSTAT, .one R.DRC_CFG, .one R.DRC_HAZSTAT,
      .any R.DRC_CHSTAT, .one R.THM_STAT, .one R.THM_FAIL, .one R.THM_PWR, .any R.THM_OD, .any R.THM_TD, .one R.CAL_STAT,
      .one R.SEC_STAT] ++ eventRegs ++ yieldRegs
  | .throttleStepDown _ =>
    [.one R.SOR_GSTAT, .one R.LMP_CEIL, .one R.THM_STAT] ++ eventRegs ++ yieldRegs
  | .throttleStepUp _ =>
    [.one R.SOR_GSTAT, .one R.LMP_CEIL, .one R.THM_STAT] ++ eventRegs ++ yieldRegs
  | .thmFailClear _ =>
    [.one R.GLB_ERRLOG, .one R.GLB_ERRINFO, .any R.QUE_STAT, .any R.QUE_RET, .one R.SRF_STAT, .one R.SRF_FREEPG,
      .one R.SRF_RETIRED, .any R.LNK_PSTAT, .any R.LNK_PMAP, .any R.LNK_PCNT, .any R.LNK_LCTL, .any R.LNK_LSTAT,
      .any R.LNK_LPRBS, .one R.TAN_TSTAT, .one R.LMP_CEIL, .one R.SPK_CTL, .any R.SPK_SPKSTAT, .one R.DRC_CFG,
      .one R.DRC_HAZSTAT, .any R.DRC_CHSTAT, .one R.THM_STAT, .one R.THM_FAIL, .one R.THM_PWR, .any R.THM_OD, .any R.THM_TD,
      .one R.CAL_STAT, .one R.SEC_STAT] ++ eventRegs ++ yieldRegs
  | .t5Shutdown _ =>
    [.any R.QUE_STAT, .any R.QUE_RET, .one R.SOR_GSTAT, .one R.SRF_STAT, .one R.SRF_FREEPG, .one R.SRF_RETIRED,
      .any R.SPK_SPKSTAT] ++ eventRegs
  | .orderlyShutdown =>
    [.one R.GLB_RSTCAUSE, .one R.HIF_LINKSTAT, .any R.QUE_STAT, .any R.QUE_RET, .one R.SRF_STAT, .one R.SRF_FREEPG,
      .one R.SRF_RETIRED, .one R.CHN_LSTAT, .any R.SPK_SPKSTAT, .any R.DRC_CHSTAT, .one R.THM_PWR, .one R.UPD_STAT,
      .one R.UPD_HELD, .one R.UPD_BUILD, .any R.UPD_PKGID, .one R.NVM_STAT] ++ eventRegs
  | .hardwareTrip _ =>
    [.all]
  | .powerRequest _ =>
    [.one R.GLB_ERRLOG, .one R.GLB_ERRINFO, .any R.QUE_STAT, .any R.QUE_RET, .one R.SRF_STAT, .one R.SRF_FREEPG,
      .one R.SRF_RETIRED, .any R.LNK_PSTAT, .any R.LNK_PMAP, .any R.LNK_PCNT, .any R.LNK_LCTL, .any R.LNK_LSTAT,
      .any R.LNK_LPRBS, .one R.TAN_TSTAT, .one R.LMP_CEIL, .one R.SPK_CTL, .any R.SPK_SPKSTAT, .one R.DRC_CFG,
      .one R.DRC_HAZSTAT, .any R.DRC_CHSTAT, .one R.THM_STAT, .one R.THM_PWR, .any R.THM_OD, .any R.THM_TD, .one R.CAL_STAT,
      .one R.SEC_STAT] ++ eventRegs ++ yieldRegs
  | .powerStateReached _ =>
    [.any R.QUE_STAT, .any R.QUE_RET, .one R.SOR_GSTAT, .one R.SRF_STAT, .one R.SRF_FREEPG, .one R.SRF_RETIRED,
      .any R.LNK_PSTAT, .any R.LNK_PMAP, .any R.LNK_PCNT, .any R.LNK_LCTL, .any R.LNK_LSTAT, .any R.LNK_LPRBS,
      .one R.TAN_TSTAT, .one R.SPK_CTL, .any R.SPK_SPKSTAT, .one R.DRC_HAZSTAT, .any R.DRC_CHSTAT, .one R.THM_PWR,
      .one R.CAL_STAT, .one R.SEC_STAT] ++ eventRegs
  | .recalStart _ =>
    [.one R.SOR_GSTAT, .any R.LNK_PMAP, .any R.LNK_LSTAT, .one R.TIM_INC, .one R.CAL_STAT] ++ eventRegs
  | .recalManualStart _ =>
    [.one R.GLB_ERRLOG, .one R.GLB_ERRINFO, .any R.LNK_PMAP, .any R.LNK_LSTAT, .one R.TIM_INC, .one R.CAL_CTL,
      .one R.CAL_STAT] ++ eventRegs
  | .recalPannierMatched =>
    [.any R.LNK_PMAP, .any R.LNK_LSTAT]
  | .recalMeasureWindow _ _ _ _ =>
    [.one R.SOR_GSTAT, .any R.LNK_PMAP, .any R.LNK_LSTAT, .one R.CAL_STAT, .any R.CAL_LQUAL, .any R.CAL_LCNT, .any R.CAL_LFRM,
      .any R.CAL_LTIME] ++ eventRegs
  | .recalLaneMatched _ =>
    [.any R.LNK_PMAP, .any R.LNK_LSTAT, .one R.CAL_STAT]
  | .recalSwitchBack _ _ =>
    [.one R.SOR_GSTAT, .any R.LNK_PMAP, .any R.LNK_LSTAT, .one R.CAL_STAT, .any R.CAL_LQUAL, .any R.CAL_LCNT, .any R.CAL_LFRM,
      .any R.CAL_LTIME] ++ eventRegs
  | .recalAbort _ =>
    [.any R.LNK_PMAP, .any R.LNK_LSTAT, .one R.CAL_STAT]
  | .calDisable _ =>
    [.one R.GLB_ERRLOG, .one R.GLB_ERRINFO, .any R.LNK_PMAP, .any R.LNK_LSTAT, .one R.TIM_INC, .one R.CAL_CTL,
      .one R.CAL_STAT] ++ eventRegs
  | .calSetSave _ =>
    [.one R.SOR_GSTAT, .one R.NVM_STAT] ++ eventRegs
  | .keysetEntry =>
    [.any pbaWord, .any R.QUE_STAT, .any R.QUE_RET, .any R.SOR_TGTSTAT, .one R.SEC_SESSION, .one R.NVM_STAT]
  | .enrolEntry =>
    [.any pbaWord, .any R.QUE_STAT, .any R.QUE_RET, .any R.SOR_TGTSTAT]
  | .enrolReply =>
    [.any pbaWord, .any R.QUE_STAT, .any R.QUE_RET, .one R.SEC_STAT]
  | .enrolTimeout _ =>
    [.any R.QUE_STAT, .any R.QUE_RET, .one R.SOR_GSTAT] ++ eventRegs
  | .switchEntry =>
    [.any pbaWord, .any R.QUE_STAT, .any R.QUE_RET, .any R.SOR_TGTSTAT]
  | .quoteEntry _ =>
    [.any R.QUE_STAT, .any R.QUE_RET, .any R.SOR_TGTSTAT, .one R.SRF_TCMISS, .one R.DRC_ECCSTAT, .one R.DRC_UEADDR,
      .one R.SEC_STAT, .one R.SEC_CNT] ++ eventRegs
  | .extendEntry _ =>
    [.any R.QUE_STAT, .any R.QUE_RET, .any R.SOR_TGTSTAT, .one R.SRF_TCMISS, .one R.DRC_ECCSTAT,
      .one R.DRC_UEADDR] ++ eventRegs
  | .lifeEntry _ =>
    [.any R.QUE_STAT, .any R.QUE_RET, .any R.SOR_TGTSTAT, .one R.SRF_TCMISS, .one R.CHN_KEYSTAT, .any R.CHN_KSESS,
      .one R.DRC_ECCSTAT, .one R.DRC_UEADDR, .one R.SEC_CNT] ++ eventRegs
  | .dbgtoken _ =>
    [.one R.CHN_KEYSTAT, .any R.CHN_KSESS, .one R.SEC_CNT]
  | .dbgnonce =>
    [.any R.SEC_NONCE]
  | .regacc _ _ =>
    [.all]
  | .memacc _ _ _ _ =>
    [.one R.DRC_ECCSTAT, .one R.DRC_UEADDR, .one R.DRC_HAZSTAT] ++ eventRegs
  | .trace _ =>
    []
  | .extest =>
    []
  | .signEngineDone _ =>
    [.any R.QUE_STAT, .any R.QUE_RET, .one R.SOR_GSTAT, .one R.SRF_TCMISS, .one R.CHN_KEYSTAT, .one R.CHN_LSTAT,
      .any R.CHN_KSESS, .one R.DRC_ECCSTAT, .one R.DRC_UEADDR, .one R.DRC_HAZSTAT, .one R.SEC_STAT, .one R.SEC_RSEQ,
      .one R.SEC_CNT] ++ eventRegs
  | .receiptIntervalClose _ =>
    [.one R.SOR_GSTAT, .one R.SEC_STAT] ++ eventRegs
  | .receiptSigned =>
    [.any R.CHN_PERR, .one R.SEC_CNT]
  | .crcRecordWrite _ =>
    [.one R.SOR_GSTAT, .one R.SRF_TCMISS, .one R.DRC_ECCSTAT, .one R.DRC_UEADDR, .one R.DRC_HAZSTAT] ++ eventRegs
  | .stageEntry _ =>
    [.any R.QUE_STAT, .any R.QUE_RET, .any R.SOR_TGTSTAT, .one R.SRF_TCMISS, .one R.DRC_ECCSTAT, .one R.DRC_UEADDR,
      .one R.UPD_STAT, .one R.UPD_HELD, .any R.UPD_PKGID, .one R.NVM_STAT] ++ eventRegs
  | .pushEntry _ =>
    [.any R.QUE_STAT, .any R.QUE_RET, .any R.SOR_TGTSTAT, .one R.SRF_TCMISS, .one R.DRC_ECCSTAT, .one R.DRC_UEADDR,
      .one R.UPD_STAT] ++ eventRegs
  | .activateEntry =>
    [.any R.QUE_STAT, .any R.QUE_RET, .any R.SOR_TGTSTAT, .one R.UPD_STAT, .one R.UPD_AFRAME,
      .one R.NVM_STAT] ++ eventRegs ++ yieldRegs
  | .confirmEntry =>
    [.any pbaWord, .any R.QUE_STAT, .any R.QUE_RET, .any R.SOR_TGTSTAT, .one R.UPD_STAT]
  | .abandonEntry =>
    [.any R.QUE_STAT, .any R.QUE_RET, .any R.SOR_TGTSTAT, .one R.UPD_STAT, .one R.UPD_HELD, .one R.UPD_AFRAME,
      .any R.UPD_PKGID] ++ eventRegs
  | .hostimgEntry =>
    [.any R.QUE_STAT, .any R.QUE_RET, .any R.SOR_TGTSTAT, .one R.SRF_TCMISS, .one R.DRC_ECCSTAT, .one R.DRC_UEADDR,
      .one R.DRC_HAZSTAT, .one R.UPD_STAT] ++ eventRegs
  | .updConfirmWrite =>
    [.one R.GLB_BOOTSTAT, .one R.GLB_ERRLOG, .one R.GLB_ERRINFO, .any R.QUE_STAT, .any R.QUE_RET, .one R.UPD_STAT,
      .one R.UPD_CTL, .one R.UPD_HELD, .one R.UPD_AFRAME, .any R.UPD_PKGID, .one R.UPD_RECOV] ++ eventRegs
  | .updAbandonWrite =>
    [.one R.GLB_BOOTSTAT, .one R.GLB_ERRLOG, .one R.GLB_ERRINFO, .any R.QUE_STAT, .any R.QUE_RET, .one R.UPD_STAT,
      .one R.UPD_CTL, .one R.UPD_HELD, .one R.UPD_AFRAME, .any R.UPD_PKGID, .one R.UPD_RECOV] ++ eventRegs
  | .verifyDone =>
    [.one R.UPD_STAT, .one R.UPD_HELD, .any R.UPD_PKGID, .one R.NVM_STAT] ++ eventRegs
  | .activationInstant _ =>
    [.any R.QUE_STAT, .any R.QUE_RET, .one R.SOR_GSTAT, .one R.UPD_STAT, .one R.UPD_AFRAME, .one R.NVM_STAT] ++ eventRegs
  | .trialConfirm =>
    [.one R.NVM_STAT]
  | .confirmWindowExpiry _ =>
    [.one R.GLB_RSTCAUSE, .any R.QUE_STAT, .any R.QUE_RET, .one R.SOR_GSTAT, .one R.SRF_STAT, .one R.SRF_FREEPG,
      .one R.SRF_RETIRED, .any R.SPK_SPKSTAT] ++ eventRegs
  | .recoveryGo _ =>
    [.one R.GLB_BOOTSTAT, .one R.GLB_ERRLOG, .one R.GLB_ERRINFO, .any R.QUE_STAT, .any R.QUE_RET, .one R.UPD_STAT,
      .one R.UPD_HELD, .one R.UPD_AFRAME, .any R.UPD_PKGID, .one R.UPD_RECOV] ++ eventRegs
  | .blockReceive _ _ _ _ =>
    [.any R.LNK_PERR, .any R.LNK_LCV, .one R.TIM_INC]
  | .pllUnlock _ =>
    [.one R.CLK_LOCK]
  | .flashOperationDone _ =>
    [.one R.GLB_RSTCAUSE, .any R.QUE_STAT, .any R.QUE_RET, .one R.SRF_STAT, .one R.SRF_FREEPG, .one R.SRF_RETIRED,
      .one R.CHN_LSTAT, .any R.SPK_SPKSTAT, .one R.UPD_STAT, .one R.UPD_HELD, .one R.UPD_BUILD, .any R.UPD_PKGID,
      .one R.NVM_STAT] ++ eventRegs
  | .pushReply =>
    [.any pbaWord, .any R.QUE_STAT, .any R.QUE_RET, .one R.UPD_STAT]
  | .pcieD3hotChange _ =>
    []

/-- May a command write the register at `off`? -/
def writes (c : Instr) (off : Nat) : Prop := ∃ r ∈ regsOf c, r.has off

end Sys2Proof.Machine
end

