-- ==== Sys2Proof/Certificates/Slice0/Obligations.lean ====
section
/-! DEFINITION. The statements about the model: what a step runs, what every command leaves as it was, and what each command
does where it has its effect. -/

namespace Sys2Proof.Machine
open Sys2Proof
/-- The host reaches the function, and a 4-byte write of `w` to the register at `off` is accepted (R5, R96, R607). -/
abbrev WriteOk (s : State) (off : Nat) (w : Word) : Prop := barOpen s = true ∧ writeCode s off w = .ok

/-- The DRAM controller works and at least one channel is enabled. -/
abbrev DramOn (s : State) : Prop := blkOn s 0x13 = true ∧ (drcChannels s).isEmpty = false

/-- The event queue got one event more, where there is room for it: at its end, unless an event of this instant is queued already
(R605). -/
abbrev Raised (s t : State) (code : Nat) (det : Bytes) : Prop :=
  eventsNow s = 0 → s.hif.events.length < 64 → t.hif.events = s.hif.events ++ [⟨code, timeNs s, fit 8 det⟩]

/-- The queues that have a record are of the 4,096 there are (R105). -/
abbrev QueuesOk (s : State) : Prop := ∀ e ∈ s.queues, e.1 < 4096

/-- What an asserted cold reset leaves: every register but those of the AON domain at its reset value, DRAM and ring memory empty,
lamps off, fuses and flash as they were. -/
def ColdLeft (s t : State) : Prop :=
  coldHeld t = true ∧ (∀ off, off ≠ R.GLB_RSTCAUSE → off ≠ R.THM_TRIP → off ≠ R.CLK_LOCK → t.word off = regFill off) ∧
  getF t F.CLK_LOCK_LOCK = 0 ∧ t.dram = [] ∧ t.ring = [] ∧ t.queues = [] ∧ t.lmp.lampEn = false ∧ t.sec.fuses = s.sec.fuses ∧
  t.upd.flash = s.upd.flash ∧ t.pending = s.pending

/-- A write of a 1 to the bit of block `k` of GLB_BLKRST is accepted, and the block is not in block reset yet. -/
abbrev ResetOk (s : State) (k : Nat) : Prop :=
  QueuesOk s ∧ WriteOk s R.GLB_BLKRST (BitVec.ofNat 32 (2 ^ k)) ∧ blkReset s k = false

/-- Every register of [lo, hi) reads its reset value. -/
def RegsAtReset (lo hi : Nat) (t : State) : Prop := ∀ off, lo ≤ off → off < hi → t.word off = resetWord off

/-- SRF takes an entry of opcode `op` that passes its checks, handed over by a service core; `x` is the state then. -/
abbrev SrfTakes (s : State) (op : Nat) (it : Item) (x : State) : Prop :=
  blkOn s 0x0A = true ∧ coreTake s op = some (it, x) ∧ x.srf.initBusy = false ∧ srfCheck x it.entry = .ok

/-- CMP takes an entry of opcode `op` handed over by a service core: it waits for no host read, its checks pass, its data is read,
and makes the load `l`; `x` is the state as it is handed over. -/
abbrev LoadTakes (s : State) (op : Nat) (host : HostRes) (it : Item) (x : State) (b : Bytes) (l : Load) : Prop :=
  blkOn s 0x0B = true ∧ coreTake s op = some (it, x) ∧ cmpWaits s it = false ∧ loadCheck it.entry = .ok ∧
  (areaFetch x (leAt it.entry 2 2) (leAt it.entry 8 8) (loadBytes it.entry) host).1 = .ok b ∧
  makeLoad (areaFetch x (leAt it.entry 2 2) (leAt it.entry 8 8) (loadBytes it.entry) host).2 it b = .ok l

/-- LNK acts on port `p`. -/
abbrev PortOk (s : State) (p : Nat) : Prop := p < 4 ∧ portLive s p = true

/-- A tile whose CHN works takes the oldest complete letter `l` of type `ltype`; `x` is the state then. -/
abbrev LetterTaken (s : State) (ltype : Nat) (l : Letter) (x : State) : Prop :=
  blkOn s 0x0D = true ∧ isTile s = true ∧ takeLetter s (fun l => l.ltype == ltype) = some (l, x)

/-- The bytes of a codeword slot: descrambled from the state `v`, and 0x00 where the symbol was a code violation. -/
abbrev rxBytes (v : Nat) (raw : Bytes) (cv : List Nat) : Bytes :=
  (List.range 240).map (fun i => if cv.contains i then 0#8 else (scramble v (fit 240 raw)).1.getD i 0#8)

/-- The offset a SYNC postmark gives: its arrival against its origin, its corrections and the delay of its link (R372). -/
def syncOffset (s : State) (y : RxCell) : Int :=
  signed 48 (unsign 48 ((y.time : Int) - ((pmTa y.cell : Int) + pmCorr y.cell + pathDelay s y.port)))

/-- The wraps a SYNC postmark's origin is in, seen from its arrival (R359). -/
def syncWraps (y : RxCell) : Nat :=
  (pmWraps y.cell + b2n (!matOrAfter 32 (y.time / 65536 % 2 ^ 32) (pmTa y.cell / 65536))) % 2 ^ 32

/-- A tile whose CHN and LMP work takes the oldest cell `y` that `k` accepts; `x` is the state then. -/
abbrev TileCell (s : State) (k : Bytes → Bool) (y : RxCell) (x : State) : Prop :=
  blkOn s 0x0D = true ∧ blkOn s 0x11 = true ∧ isTile s = true ∧ takeRx s k = some (y, x)

/-- A service core hands the block with identifier `blk` the entry `it` of opcode `op`; `x` is the state then. -/
abbrev EntryTaken (s : State) (blk op : Nat) (it : Item) (x : State) : Prop :=
  blkOn s blk = true ∧ coreTake s op = some (it, x)

/-- SEC takes the oldest complete letter `l` of type `ltype`; `x` is the state then. -/
abbrev SecLetter (s : State) (ltype : Nat) (l : Letter) (x : State) : Prop :=
  blkOn s 0x16 = true ∧ isTile s = true ∧ takeLetter s (fun l => l.ltype == ltype) = some (l, x) ∧ l.port < 4

/-- The engine has the operation `o`: in service, queued, or waiting for room. -/
abbrev EngineHas (t : State) (o : EngOp) : Prop := t.sec.busy = some o ∨ o ∈ t.sec.ops ∨ o ∈ t.sec.wait

/-- The debug level, the lifecycle and the count of refused tokens after the token `b` came to `x`. -/
abbrev TokenTaken (x t : State) (b : Bytes) : Prop :=
  t.sec.dbg = (if (tokenCheck x b).1 ≠ .ok then x.sec.dbg else if byteAt b 0 = 2 then 1 else if byteAt b 0 = 3 then 0
    else if byteAt b 0 = 4 then 2 else x.sec.dbg) ∧
  t.sec.life = (if (tokenCheck x b).1 ≠ .ok then x.sec.life else if byteAt b 0 = 1 ∧ x.sec.ownTries < 4 then lifeOwned
    else if byteAt b 0 = 3 then lifeRetired else x.sec.life) ∧
  getF t F.SEC_CNT_TOKFAIL = (if (tokenCheck x b).1 = .ok then getF x F.SEC_CNT_TOKFAIL
    else satAdd F.SEC_CNT_TOKFAIL.top (getF x F.SEC_CNT_TOKFAIL) 1)

/-- UPD takes the oldest PARCEL letter `l` of operation `op` on a tile; `x` is the state then. -/
abbrev ParcelTaken (s : State) (op : Nat) (l : Letter) (x : State) : Prop :=
  blkOn s 0x17 = true ∧ isTile s = true ∧ takeLetter s (isParcel op) = some (l, x) ∧ l.port < 4

/-- No mode is held for application (R596). -/
abbrev NoModeHeld (s : State) : Prop := if isTile s then s.lmp.pend = none else s.frt.pendMode = none

/-- Is the form of a DATA letter as R572 has it? -/
abbrev dataForm (c : Bytes) : Prop :=
  c.length = 4128 ∧ byteAt c 0 = 1 ∧ byteAt c 28 = 0 ∧ allZero (slice c 1 3) = true ∧ allZero (slice c 29 3) = true

end Sys2Proof.Machine

open Sys2Proof Sys2Proof.Machine

/-- A step with a command in front of the queue runs that command, and no other, on the state with the rest of the queue. Nothing
is added around it. -/
def Obligations.StepRunsFrontCommand : Prop :=
  ∀ c l s, s.pending = c :: l → step s = exec c { s with pending := l }

/-- A step on an empty queue is one nanosecond of PLL_TIME where that clock runs, and nothing that a command asks for: the fuses,
the flash and the queue stand. That time passes where no command waits is the model's choice (log entry 2). -/
def Obligations.EmptyQueuePassesTime : Prop :=
  ∀ s, s.pending = [] → ∃ t, step s = .next t ∧ t.pending = [] ∧ t.up = (if timeRuns s then s.up + 1 else s.up) ∧ t.sec.fuses = s.sec.fuses ∧
    t.upd.flash = s.upd.flash

/-- Right after reset no command waits, the tables are canonical, cold reset is held by PWRON_RST_N, every register reads its
reset value, DRAM, ring memory and every queue are empty, and the lamps are off. That the machine
starts in cold reset, with nothing written to a memory, is the model's (log entries 1 and 3). -/
def Obligations.ResetState : Prop :=
  State.reset.pending = [] ∧ State.reset.wf = true ∧ coldHeld State.reset = true ∧ State.reset.boot.pwronLow = true ∧
    (∀ off, State.reset.word off = regFill off) ∧ State.reset.dram = [] ∧ State.reset.ring = [] ∧ State.reset.queues = [] ∧
    State.reset.lmp.lampEn = false ∧ State.reset.hif.events = []

/-- The table of operations and events gives no row any bits, so no word spells a command, and offering one changes nothing. -/
def Obligations.NoWordSpellsCommand : Prop :=
  ∀ nbits w s, decodeTableWord nbits w = none ∧ State.withFetchWord s nbits w = s

/-- Every command completes in every state: no command stops with a fault or a refusal. -/
def Obligations.EveryCommandAnswers : Prop :=
  ∀ c s, ∃ t, exec c s = .next t

/-- Every step keeps the tables canonical: from any well-formed state, by a command or by the passing of time, the register file,
DRAM, ring memory, the flash and the recovery memory hold their entries in rising order, none equal to what an unlisted address
reads as. -/
def Obligations.StepKeepsWellFormed : Prop :=
  ∀ s t, s.wf = true → step s = .next t → t.wf = true

/-- The frame of every command by parts of the state: the queue stands, and a part that `touched` does not list for the command
is as it was. So DRAM, ring memory, flash, fuses, the host queues, the lamps and every block's internal state change only by the
commands that list them. -/
def Obligations.CommandKeepsOtherParts : Prop :=
  ∀ c s t, exec c s = .next t → t.pending = s.pending ∧ ∀ p, p ∉ touched c → p.same s t

/-- The frame of every command by registers: a register outside the set that `regsOf` lists for the command reads as before. -/
def Obligations.CommandKeepsOtherRegisters : Prop :=
  ∀ c s t, exec c s = .next t → ∀ off, ¬ writes c off → t.word off = s.word off

/-- Fuses only move forward (R539, R580): in every step the lifecycle, the security version and the count of OWN attempts do not
fall, a destroyed identity key stays destroyed, and from OWNED on the owner's digest stays as it is. -/
def Obligations.FusesOnlyMoveForward : Prop :=
  ∀ s t, step s = .next t → s.sec.life ≤ t.sec.life ∧ s.sec.svn ≤ t.sec.svn ∧ s.sec.ownTries ≤ t.sec.ownTries ∧
    (t.sec.idkey = true → s.sec.idkey = true) ∧ (2 ≤ s.sec.life → t.sec.owner = s.sec.owner)

/-- There are 4,096 queues, and no other queue ever has a record: none has one right after reset, and from any state where that
holds every step leads to one where it holds. -/
def Obligations.QueueNumbersStay : Prop :=
  QueuesOk State.reset ∧ ∀ s t, QueuesOk s → step s = .next t → QueuesOk t

/-- R103, for every refused access that is logged: with VALID = 0 it fills the log and SRC, sets VALID and COUNT = 1 and raises one
ERRLOG event (code 0x0002), which where 64 events of earlier instants wait is lost and counted; with VALID = 1 it leaves the log and
SRC, sets OVER, counts up to 0xFF and raises none. -/
def Obligations.RejectionIsLogged : Prop :=
  ∀ s src off (c : Status), src < 4 → off < 2 ^ 24 →
    (getF s F.GLB_ERRINFO_VALID = 0 →
      getF (logError s src off c) F.GLB_ERRLOG_OFFSET = off ∧ getF (logError s src off c) F.GLB_ERRLOG_CODE = c.code ∧
      getF (logError s src off c) F.GLB_ERRINFO_SRC = src ∧ getF (logError s src off c) F.GLB_ERRINFO_VALID = 1 ∧
      getF (logError s src off c) F.GLB_ERRINFO_COUNT = 1 ∧
      (s.hif.events.length < 64 → ∃ det, (logError s src off c).hif.events = eventsWith s ⟨0x0002, timeNs s, det⟩ ∧
        (eventsNow s = 0 → (logError s src off c).hif.events = s.hif.events ++ [⟨0x0002, timeNs s, det⟩])) ∧
      (64 ≤ s.hif.events.length → (eventsNow s = 0 → (logError s src off c).hif.events = s.hif.events) ∧
        (logError s src off c).hif.events.length = s.hif.events.length ∧
        getF (logError s src off c) F.GLB_EVTOVF_COUNT = satAdd F.GLB_EVTOVF_COUNT.top (getF s F.GLB_EVTOVF_COUNT) 1)) ∧
    (getF s F.GLB_ERRINFO_VALID = 1 →
      (logError s src off c).word R.GLB_ERRLOG = s.word R.GLB_ERRLOG ∧
      getF (logError s src off c) F.GLB_ERRINFO_SRC = getF s F.GLB_ERRINFO_SRC ∧
      getF (logError s src off c) F.GLB_ERRINFO_OVER = 1 ∧
      getF (logError s src off c) F.GLB_ERRINFO_COUNT = min 0xFF (getF s F.GLB_ERRINFO_COUNT + 1) ∧
      (logError s src off c).hif = s.hif ∧ (logError s src off c).out = s.out)

/-- R107: a queue's base and QUE_CFG accept writes only while its state is DISABLED, and in every other state a write is rejected
with WRONG_STATE. A setting of QUE_CFG that the role forbids is rejected with NOT_PERMITTED, which R607 puts first. -/
def Obligations.QueueSettingsNeedDisabled : Prop :=
  ∀ q v s, q < 4096 → dormant s 0x04 = false →
    (writeCode s (R.QUE_BASELO q) v = .ok → qState s q = qDisabled) ∧
    (writeCode s (R.QUE_BASEHI q) v = .ok → qState s q = qDisabled) ∧
    (writeCode s (R.QUE_CFG q) v = .ok → qState s q = qDisabled) ∧
    (qState s q ≠ qDisabled → writeCode s (R.QUE_BASELO q) v = .wrongState ∧ writeCode s (R.QUE_BASEHI q) v = .wrongState ∧
      (writeCode s (R.QUE_CFG q) v = .wrongState ∨
        (writeCode s (R.QUE_CFG q) v = .notPermitted ∧ ((F.QUE_CFG_LOC q).get v = 1 ∧ isSender s = true ∨
          (F.QUE_CFG_LOC q).get v = 0 ∧ isHostless s = true))))

/-- R312: the idle cell is 224 zero bytes, its header of zeros carries a valid HCRC, and 240 zero bytes, the cell with parity
bytes of zero, are a codeword. -/
def Obligations.IdleCellIsZero : Prop :=
  idleCell = zeros 224 ∧ headerOk idleCell = true ∧ badHeader idleCell = false ∧ syndromeBad (idleCell ++ zeros 16) = false

/-- R207 and R428 as they stand: the decode curve with its implicit end point, interpolated and clipped, and the low-grey trim with
K = 2^KS, under which black stays black. -/
def Obligations.CurveAndTrimFormulas : Prop :=
  (∀ (e : Nat → Nat) (u : Nat), u < 65536 → (decodeCurve e u : Int) = clip 0 0xFFFFFF
    ((e (u / 16) : Int) + ((((if u / 16 = 4095 then (e 4095 : Int) + (e 4095 - e 4094) else e (u / 16 + 1)) - e (u / 16)) *
      (u % 16 : Nat) + 8) >>> (4 : Nat)))) ∧
  (∀ (q ks : Nat) (trim : Int), (trimLamp q trim ks : Int) =
    if q = 0 then 0 else clip 0 0xFFFFFF ((q : Int) + ((trim * 16 * ((2 : Int) ^ ks - min (q : Int) (2 ^ ks))) >>> ks)))

/-- Rails, trip and cold reset. RAIL_FAULT with a rail other than VDD_UCI records the first of the rails and holds cold reset;
HARDWARE_TRIP by an included sensor latches the sensor and holds cold reset; PWRON_RESET_ASSERT asserts cold reset. Each leaves
what `ColdLeft` says. RAIL_WARN below the threshold sets the rail's DIP bit and raises the event, and back above it clears no
register: the rail is no longer among those below. VDD_AON_APPLY returns the trip latch, the boot attempts and GLB_RSTCAUSE to
their reset values; COLD_RESET_RELEASE samples the strap and starts a cold boot, with HOLD set where the strap value is 3. That a
sampled strap value takes the low two bits, that the NONCE is a free value, and that a rail already below makes no second crossing
are the model's (log entries 7, 9, 10 and 118). -/
def Obligations.ColdResets : Prop :=
  (∀ mask s k l, QueuesOk s → faultRails mask = k :: l → ∃ t, exec (.railFault mask) s = .next t ∧ ColdLeft s t ∧ t.boot.railHold = true ∧
    getF t F.GLB_RSTCAUSE_RAIL = 1 ∧ (getF s F.GLB_RSTCAUSE_RAIL = 0 → getF t F.GLB_RSTCAUSE_RAILNUM = k)) ∧
  (∀ k s, k < 10 → k ∉ s.boot.low → inReset s = false → ∃ t, exec (.railWarn ⟨k, true⟩) s = .next t ∧
    fbit t F.GLB_RAILSTAT_DIP k = true ∧ k ∈ t.boot.low ∧ Raised s t 0x0003 [byte k]) ∧
  (∀ k s, k < 10 → ∃ t, exec (.railWarn ⟨k, false⟩) s = .next t ∧ k ∉ t.boot.low ∧ t.regs = s.regs) ∧
  (∀ s, ∃ t, exec .vddAonApply s = .next t ∧ t.word R.THM_TRIP = resetWord R.THM_TRIP ∧
    t.word R.GLB_RSTCAUSE = resetWord R.GLB_RSTCAUSE ∧ t.upd.aonTries = 0 ∧ t.upd.aonFailed = none) ∧
  (∀ k s, QueuesOk s → k < 12 → thmIncluded s k = true → ∃ t, exec (.hardwareTrip k) s = .next t ∧ ColdLeft s t ∧ t.boot.tripHold = true ∧
    getF t F.THM_TRIP_LATCH = 1 ∧ getF t F.GLB_RSTCAUSE_TRIP = 1 ∧
    (getF s F.THM_TRIP_LATCH = 0 → getF t F.THM_TRIP_SENSOR = k)) ∧
  (∀ s, QueuesOk s → ∃ t, exec .pwronResetAssert s = .next t ∧ ColdLeft s t ∧ t.boot.pwronLow = true ∧ getF t F.GLB_RSTCAUSE_PWRON = 1) ∧
  (∀ sel uci s, coldHeld s = true → (s.boot.tripHold = true → s.boot.tripCycled = true) →
    ∃ t, exec (.coldResetRelease sel uci) s = .next t ∧ coldHeld t = false ∧ strap t = sel % 4 ∧
      t.lnk.nonce = Config.freeNat s.free % 65536 ∧ getF t F.GLB_BOOTSTAT_WARMBOOT = 0 ∧
      (sel % 4 = 3 → getF t F.GLB_ROLE_HOLD = 1) ∧
      (s.boot.pwronLow = true → getF t F.GLB_RSTCAUSE_PWRON = 1) ∧ (isTile t = true → getF t (F.TIM_PGCFG_OWNED 15) = 1))

/-- Warm resets, the reference clock and the PLLs. A request outside cold reset and OFF sets its cause bit and, if none is under
way, leaves the warm reset requested; WARM_RESET_ASSERT then asserts it, with every register but those it keeps back at its reset
value and, where no flash operation is left to finish, the fuses, the flash and GLB_RSTCAUSE as they were; WARM_RESET_RELEASE
starts a warm boot. REF_CLK_LOSS clears REFOK and, outside reset with a PLL locked, sets REFLOSS and HOLDOVER; REF_CLK_GOOD sets
REFOK and ends holdover; PLL_UNLOCK moves the PLL's bit from LOCK to UNLOCK. Which registers a warm reset keeps is the model's
choice (log entry 8). -/
def Obligations.WarmResetsAndClocks : Prop :=
  (∀ s, QueuesOk s → coldHeld s = false → power s ≠ 4 → ∃ t, exec .warmResetPin s = .next t ∧ getF t F.GLB_RSTCAUSE_WARMPIN = 1 ∧
    (s.boot.warm = .none → t.boot.warm = .requested)) ∧
  (∀ s, QueuesOk s → coldHeld s = false → power s ≠ 4 → ∃ t, exec .watchdogExpiry s = .next t ∧ getF t F.GLB_RSTCAUSE_WDOG = 1 ∧
    (s.boot.warm = .none → t.boot.warm = .requested)) ∧
  (∀ s, QueuesOk s → barOpen s = true → writeCode s R.GLB_WARMRST (F.GLB_WARMRST_KEY.put 0#32 0xA5) = .ok →
    ∃ t, exec .warmResetSoftware s = .next t ∧ getF t F.GLB_RSTCAUSE_WARMSW = 1 ∧
      (s.boot.warm = .none → t.boot.warm = .requested)) ∧
  (∀ s, QueuesOk s → s.boot.warm = .requested → coldHeld s = false → ∃ t, exec .warmResetAssert s = .next t ∧ t.boot.warm = .asserted ∧
    strap t = strap s ∧ stage t = 1 ∧
    (s.upd.ops = [] → t.sec.fuses = s.sec.fuses ∧ t.word R.GLB_RSTCAUSE = s.word R.GLB_RSTCAUSE ∧ t.upd.flash = s.upd.flash) ∧
    (∀ off, (∀ f ∈ aonFields ++ warmFields, f.off ≠ off) → t.word off = regFill off)) ∧
  (∀ s, s.boot.warm = .asserted → coldHeld s = false → ∃ t, exec .warmResetRelease s = .next t ∧ t.boot.warm = .none ∧
    t.boot.warmBoot = true ∧ getF t F.GLB_BOOTSTAT_WARMBOOT = 1) ∧
  (∀ s, ∃ t, exec .refClkLoss s = .next t ∧ getF t F.CLK_LOCK_REFOK = 0 ∧
    (inReset s = false → isSet s F.CLK_LOCK_LOCK = true → getF t F.CLK_LOCK_REFLOSS = 1 ∧ getF t F.CLK_LOCK_HOLDOVER = 1 ∧
      Raised s t 0x0101 [])) ∧
  (∀ s, ∃ t, exec .refClkGood s = .next t ∧ getF t F.CLK_LOCK_REFOK = 1 ∧ getF t F.CLK_LOCK_HOLDOVER = 0) ∧
  (∀ k s, k < 8 → inReset s = false → pllGated s k = false → fbit s F.CLK_LOCK_LOCK k = true →
    ∃ t, exec (.pllUnlock k) s = .next t ∧ fbit t F.CLK_LOCK_LOCK k = false ∧ fbit t F.CLK_LOCK_UNLOCK k = true)

/-- The boot stages. Each stage's end in its own stage (`booting s k`: out of reset, no reset asked for, not OFF) takes the unit
to the next: PLL to ROM, or to strap fault hold with strap value 3; ROM to FIRST, with M0 extended; FIRST to DRAM with the slot
that loads well; DRAM to FIRMWARE; FIRMWARE to the UCIe window. On a cold boot one configured channel whose training passes is
enabled with 7/8 of its capacity; one that does not answer is FAILED with LINK_ABSENT, which FAILCODE takes (R482, R488); and no
eye of a sweep is wider than the one it selects (R487). -/
def Obligations.BootStages : Prop :=
  (∀ s, booting s 1 = true → isSet s F.CLK_LOCK_REFOK = true → ∃ t, exec .pllStageDone s = .next t ∧ getF t F.CLK_LOCK_LOCK = 0xFF ∧
    (strapFault s = false → stage t = 2) ∧
    (strapFault s = true → stage t = 8 ∧ t.boot.ucie = .attempt)) ∧
  (∀ s, booting s 2 = true → ∃ t, exec .romStageDone s = .next t ∧ stage t = 3 ∧ ∃ d, meas t 0 = sha (meas s 0 ++ fit 64 d)) ∧
  (∀ o s, booting s 3 = true → o.layout = true → newestRec (flashLearn s o) = none → slotResult (flashLearn s o) o 0 = .ok →
    ∃ t, exec (.firstStageDone o) s = .next t ∧ stage t = 4 ∧ getF t F.GLB_BOOTSTAT_SLOT = 0 ∧ t.upd.running = 0 ∧
      getF t F.NVM_STAT_NDEV = o.ndev % 2 ^ F.NVM_STAT_NDEV.width) ∧
  (∀ o s, booting s 3 = true → o.layout = false → ∃ t, exec (.firstStageDone o) s = .next t ∧ stage t = 9 ∧
    getF t F.GLB_BOOTSTAT_FAILCODE = Status.integrity.code) ∧
  (∀ l rates s, booting s 4 = true → ∃ t, exec (.dramStageDone l rates) s = .next t ∧ stage t = 5) ∧
  (∀ o s, QueuesOk s → booting s 5 = true → o.res = .ok → ∃ t, exec (.firmwareStageDone o) s = .next t ∧ stage t = 6 ∧
    t.boot.ucie = .attempt ∧ t.boot.fails = 0 ∧ t.boot.chainCfg = o.chain) ∧
  (∀ d rates s, booting s 4 = true → s.boot.warmBoot = false → d.on = true → d.size ≤ 3 → d.answers = true →
    rates.1 ≤ 96 → rates.2.1 ≤ 96 → rates.2.2 ≤ 96 → trainPass (setPoints rates) d.first = true ∨ trainPass (setPoints rates) d.again = true →
    ∃ t, exec (.dramStageDone [d] rates) s = .next t ∧ getF t F.DRC_CFG_ENMASK = 1 ∧ chState t 0 = chActive ∧
      getF t F.DRC_CAP_PAGES = 2 ^ (d.size + 1) * 2 ^ 14 * 7 / 8 ∧ getF t F.GLB_BOOTSTAT_FAILCODE = getF s F.GLB_BOOTSTAT_FAILCODE) ∧
  (∀ d rates s, booting s 4 = true → s.boot.warmBoot = false → d.on = true → d.size ≤ 3 → d.answers = false →
    rates.1 ≤ 96 → rates.2.1 ≤ 96 → rates.2.2 ≤ 96 → ∃ t, exec (.dramStageDone [d] rates) s = .next t ∧ getF t F.DRC_CFG_ENMASK = 0 ∧
      chState t 0 = chFailed ∧ getF t (F.DRC_CHSTAT_CODE 0) = Status.linkAbsent.code ∧
      getF t F.GLB_BOOTSTAT_FAILCODE = Status.linkAbsent.code) ∧
  (∀ l e, e ∈ l → eyeWidth e ≤ eyeWidth (widestEye l))

/-- The UCIe link. An attempt that ends with a link shows the modules and the rate and, in the UCIe stage or in boot hold, makes
the unit READY; the ends of the back-offs start the next attempt under the settings HIF_LINKCFG has then; once each second in boot
hold a fresh window opens; a window that closes without a link holds the unit, or lets a unit with strap value 2 go on without a
host (R20 to R22, R86, R93, R94). -/
def Obligations.UcieLink : Prop :=
  (∀ dt mods ms s m r, blkOn (advance dt s) 0x02 = true → (advance dt s).boot.ucie = .attempt →
    linkResult (advance dt s) mods = some (m, r) → ∃ t, exec (.ucieAttemptEnd dt mods false ms) s = .next t ∧
      getF t F.HIF_LINKSTAT_UP = 1 ∧ getF t F.HIF_LINKSTAT_MODS = m % 2 ^ F.HIF_LINKSTAT_MODS.width ∧
      getF t F.HIF_LINKSTAT_RATE = r % 2 ^ F.HIF_LINKSTAT_RATE.width ∧ t.boot.ucie = .closed ∧
      ((stage (advance dt s) = 6 ∨ stage (advance dt s) = 8) → strapFault (advance dt s) = false →
        stage t = 7 ∧ getF t F.GLB_BOOTSTAT_BOOTMS = min 0xFFFF ms)) ∧
  (∀ dt s, blkOn (advance dt s) 0x02 = true → (advance dt s).boot.ucie = .backoff → (advance dt s).boot.relink = false →
    (advance dt s).boot.due ≤ upNs (advance dt s) → ∃ t, exec (.ucieBackoffEnd dt) s = .next t ∧ t.boot.ucie = .attempt ∧
      t.boot.modMask = getF t F.HIF_LINKCFG_MODMASK ∧ t.boot.maxRate = getF t F.HIF_LINKCFG_MAXRATE) ∧
  (∀ dt s, blkOn (advance dt s) 0x02 = true → (advance dt s).boot.ucie = .backoff → (advance dt s).boot.relink = true →
    (advance dt s).boot.due ≤ upNs (advance dt s) → ∃ t, exec (.hifRetryTimer dt) s = .next t ∧ t.boot.ucie = .attempt ∧
      t.boot.modMask = getF t F.HIF_LINKCFG_MODMASK ∧ t.boot.maxRate = getF t F.HIF_LINKCFG_MAXRATE) ∧
  (∀ dt s, blkOn (advance dt s) 0x02 = true → stage (advance dt s) = 8 → (advance dt s).boot.ucie = .closed →
    (advance dt s).boot.fails = 0 → isSet (advance dt s) F.HIF_LINKSTAT_UP = false →
    (advance dt s).boot.due ≤ upNs (advance dt s) →
    ∃ t, exec (.bootHoldRetry dt) s = .next t ∧ t.boot.ucie = .attempt ∧ t.boot.fails = 0) ∧
  (∀ qs ms s, blkOn s 0x02 = true → s.boot.ucie = .closed → s.boot.fails = 3 → strapFault s = false → stage s = 6 →
    ∃ t, exec (.ucieWindowClose qs ms) s = .next t ∧
      (strap s = 2 → stage t = 7 ∧ isHostless t = true) ∧
      (strap s ≠ 2 → stage t = 8 ∧ getF t F.GLB_ROLE_HOLD = 1 ∧ t.boot.due = upNs s + 1000000000)) ∧
  (∀ s, QueuesOk s → blkOn s 0x02 = true → isSet s F.HIF_LINKSTAT_UP = true → isReady s = true →
    ∃ t, exec .hifLinkLoss s = .next t ∧ getF t F.HIF_LINKSTAT_UP = 0 ∧ t.boot.relink = true ∧ t.boot.ucie = .attempt ∧
      t.hif.reads = [] ∧ getF t F.HIF_LINKSTAT_DOWNCNT = satAdd F.HIF_LINKSTAT_DOWNCNT.top (getF s F.HIF_LINKSTAT_DOWNCNT) 1) ∧
  (∀ v s, QueuesOk s → barOpen s = true → isReady s = true → writeCode s R.HIF_LINKCFG (F.HIF_LINKCFG_RETRAIN.put v 1) = .ok →
    ∃ t, exec (.hifRetrain v) s = .next t ∧ getF t F.HIF_LINKSTAT_UP = 0 ∧ t.boot.relink = true ∧ t.boot.ucie = .attempt)

/-- The PCIe function. While the link is trained, BME_CHANGE writes Bus Master Enable, a Max Payload Size and a Max Read Request
Size that R96 names (that one command carries the three is the model's, log entry 126), and with Bus Master Enable 0 nothing
issues; MSIX_UNMASK clears the mask bit of its vector or rewrites Message Control, and PCIE_D3HOT_CHANGE changes the power state
of the function and nothing else. -/
def Obligations.PcieFunction : Prop :=
  (∀ b mps mrrs s, QueuesOk s → blkOn s 0x02 = true → isSet s F.HIF_LINKSTAT_UP = true →
    ∃ t, exec (.bmeChange ⟨b, mps, mrrs⟩) s = .next t ∧ getF t F.HIF_LINKSTAT_BME = b2n b ∧ getF t F.HIF_LINKSTAT_UP = 1 ∧
    (b = false → t.out = s.out ∧ t.hif.waiting = s.hif.waiting ∧ t.hif.reads = s.hif.reads ∧ t.dma = s.dma) ∧
    ([128, 256, 512].contains mps = true → t.hif.mps = mps) ∧
    ([128, 256, 512, 1024, 2048, 4096].contains mrrs = true → t.hif.mrrs = mrrs)) ∧
  (∀ v s, blkOn s 0x02 = true → isSet s F.HIF_LINKSTAT_UP = true → v < 2048 → ∃ t, exec (.msixUnmask (.vector v)) s = .next t ∧
    (t.word (msixOff v + 12)).toNat.testBit 0 = false) ∧
  (∀ e m s, blkOn s 0x02 = true → isSet s F.HIF_LINKSTAT_UP = true → ∃ t, exec (.msixUnmask (.control e m)) s = .next t ∧
    t.hif.msixEnable = e ∧ t.hif.funcMask = m) ∧
  (∀ b s, blkOn s 0x02 = true → isSet s F.HIF_LINKSTAT_UP = true →
    exec (.pcieD3hotChange b) s = .next { s with hif := { s.hif with d3hot := b } })

/-- Host accesses. A 4-byte aligned REGISTER_WRITE of a register that passes its checks stores the value and sets the effect in
motion; one that fails a check is logged with the code of R607 and changes nothing else. A write of the MSI-X table stores the
word, 8 bytes are two writes with the lower offset first, and any other size or alignment is logged with ALIGN or the code that
R607 puts before it. ERRINFO_CLEAR empties the log. A misaligned read answers all ones and is logged with ALIGN; the row carries
the accepted reads too, which is the model's choice (log entry 124): 4 bytes of BAR0 read the register, 4 bytes of BAR2 TAIL and
RETIRE of the queue (R118), 8 bytes of BAR0 are two reads. The reads that change the state do so, and each answers its value:
EVTQ_READ the oldest event with the number left, DMA_BYTES_READ the low half of the count, TIM_NOW_READ TIME_NS, SEC_NONCE_READ
the first word of a new nonce, which is a free value (log entry 7). BLOCK_RESET_END takes a block held for 1 µs out of reset. An
event joins the queue and keeps the events of its instant in their order: rising codes, PULSE events by rising generator (R379,
R605); which events are of one CORE cycle is the model's choice (log entry 165). -/
def Obligations.HostAccess : Prop :=
  (∀ off v s, off % 4 = 0 → ¬ (0x30000 ≤ off ∧ off < 0x38100) → off < 0x800000 → WriteOk s off (BitVec.ofNat 32 v) →
    exec (.registerWrite 4 off v) s =
      .next (regEffect s (storeReg s off (BitVec.ofNat 32 v)) off (BitVec.ofNat 32 v))) ∧
  (∀ off v s, off % 4 = 0 → ¬ (0x30000 ≤ off ∧ off < 0x38100) → off < 0x800000 → barOpen s = true →
    writeCode s off (BitVec.ofNat 32 v) ≠ .ok →
    exec (.registerWrite 4 off v) s = .next (logError s srcBar0 off (writeCode s off (BitVec.ofNat 32 v)))) ∧
  (∀ off v s, off % 4 = 0 → 0x30000 ≤ off → off < 0x38000 → barOpen s = true →
    ∃ t, exec (.registerWrite 4 off v) s = .next t ∧ t.word off = BitVec.ofNat 32 v) ∧
  (∀ off v s, off % 8 = 0 → barOpen s = true → exec (.registerWrite 8 off v) s =
    .next (hostWrite (hostWrite s off (BitVec.ofNat 32 v)) (off + 4) (BitVec.ofNat 32 (v / 2 ^ 32)))) ∧
  (∀ size off v s, barOpen s = true → ¬ (size = 4 ∧ off % 4 = 0) → ¬ (size = 8 ∧ off % 8 = 0) →
    exec (.registerWrite size off v) s = .next (logError s srcBar0 off (misalignCode s off))) ∧
  (∀ s, WriteOk s R.GLB_ERRINFO (F.GLB_ERRINFO_VALID.put 0#32 1) → ∃ t, exec .errinfoClear s = .next t ∧
    getF t F.GLB_ERRINFO_VALID = 0 ∧ getF t F.GLB_ERRINFO_OVER = 0 ∧ getF t F.GLB_ERRINFO_COUNT = 0 ∧
    t.word R.GLB_ERRLOG = 0#32) ∧
  (∀ bar2 size off s, barOpen s = true → ¬ (size = 4 ∧ off % 4 = 0) → ¬ (size = 8 ∧ off % 8 = 0) →
    ∃ t, exec (.barMisalignedRead bar2 size off) s = .next t ∧ t.out.getLast? = some (.readData off 0xFFFFFFFF) ∧
      (getF s F.GLB_ERRINFO_VALID = 0 → getF t F.GLB_ERRINFO_VALID = 1 ∧ getF t F.GLB_ERRINFO_COUNT = 1 ∧
        getF t F.GLB_ERRINFO_SRC = b2n bar2 ∧ getF t F.GLB_ERRLOG_CODE = Status.align.code)) ∧
  (∀ off s, barOpen s = true → off % 4 = 0 → exec (.barMisalignedRead false 4 off) s = .next (hostRead s off)) ∧
  (∀ off s, barOpen s = true → off % 8 = 0 →
    exec (.barMisalignedRead false 8 off) s = .next (hostRead (hostRead s off) (off + 4))) ∧
  (∀ q s, q < 4096 → barOpen s = true → dormant s 0x04 = false → ∃ t, exec (.barMisalignedRead true 4 (4096 * q)) s = .next t ∧
    t.out = s.out ++ [.readData (4096 * q) (qTail s q + 2 ^ 16 * qRetire s q)]) ∧
  (∀ e l s, barOpen s = true → s.hif.events = e :: l → ∃ t, exec .evtqRead s = .next t ∧ t.hif.events = l ∧
    t.out = s.out ++ [.readData R.GLB_EVTQ (e.code % 2 ^ 16 + 2 ^ 16 * (l.length % 128) + 2 ^ 31)] ∧
    t.word R.GLB_EVTTIME = BitVec.ofNat 32 e.time ∧ t.word R.GLB_EVTDET0 = BitVec.ofNat 32 (beAt e.det 0 4) ∧
    t.word R.GLB_EVTDET1 = BitVec.ofNat 32 (beAt e.det 4 4)) ∧
  (∀ c s, c < 64 → barOpen s = true → readsReset s (R.DMA_CHBYTLO c) = false → ∃ t, exec (.dmaBytesRead c) s = .next t ∧
    t.word (R.DMA_CHBYTHI c) = BitVec.ofNat 32 ((chan s c).bytes / 2 ^ 32) ∧
    t.out = s.out ++ [.readData (R.DMA_CHBYTLO c) ((chan s c).bytes % 2 ^ 32)]) ∧
  (∀ dt s, barOpen (advance dt s) = true → readsReset (advance dt s) R.TIM_NOWLO = false →
    ∃ t, exec (.timNowRead dt) s = .next t ∧ t.word R.TIM_NOWFR = BitVec.ofNat 32 (timeFrac (advance dt s)) ∧
      t.word R.TIM_NOWWR = BitVec.ofNat 32 (advance dt s).wraps ∧
      t.out = (advance dt s).out ++ [.readData R.TIM_NOWLO (timeNs (advance dt s))]) ∧
  (∀ s, barOpen s = true → readsReset s (R.SEC_NONCE 0) = false → ∃ t, exec .secNonceRead s = .next t ∧
    t.sec.nonce = some (fit 16 (Config.random s.free 16)) ∧ t.free = s.free + 1 ∧
    t.out = s.out ++ [.readData (R.SEC_NONCE 0) (t.word (R.SEC_NONCE 0)).toNat]) ∧
  (∀ dt k s, inReset (advance dt s) = false → power (advance dt s) ≠ 4 → k < 32 → blkReset (advance dt s) k = true →
    (advance dt s).boot.blkAt.getD k 0 + 1000 ≤ upNs (advance dt s) →
    ∃ t, exec (.blockResetEnd dt k) s = .next t ∧ blkReset t k = false) ∧
  (∀ e s, (s.hif.events.drop (s.hif.events.length - eventsNow s)).Pairwise (fun a b => a.key ≤ b.key) →
    ((eventsWith s e).drop (s.hif.events.length - eventsNow s)).Pairwise (fun a b => a.key ≤ b.key) ∧
      (eventsWith s e).Perm (e :: s.hif.events))

/-- Queues. ENABLE resets the indices and sets RUNNING, its reverse sets DISABLED, STOP moves to STOPPING or, with nothing in
flight, STOPPED, RESUME to RUNNING. A doorbell that passes the checks of R119 becomes TAIL and one that fails is logged with its
code. A ring read that returns a valid entry hands it on; the recheck of R120, 1 ms after a read that found OWN = 0, reads the
entry a last time; a host read whose time is over without a completion puts the queue in ERROR with TIMEOUT, and a completion that
comes after that is counted. -/
def Obligations.Queues : Prop :=
  (∀ q s, q < 4096 → WriteOk s (R.QUE_CTL q) 1#32 → getF s (F.QUE_CTL_ENABLE q) = 0 → ∃ t, exec (.queueEnable q) s = .next t ∧
    qState t q = qRunning ∧ t.word (R.QUE_IDX q) = 0#32 ∧ qRetire t q = 0 ∧ getF t (F.QUE_STAT_CODE q) = 0 ∧
    getF t (F.QUE_STAT_INFLIGHT q) = 0 ∧ qrec t q = { qrecReset with gen := (qrec s q).gen + 1 }) ∧
  (∀ q s, q < 4096 → WriteOk s (R.QUE_CTL q) 0#32 → getF s (F.QUE_CTL_ENABLE q) = 1 → ∃ t, exec (.queueDisable q) s = .next t ∧
    qState t q = qDisabled ∧ getF t (F.QUE_STAT_CODE q) = 0 ∧ qrec t q = { qrecReset with gen := (qrec s q).gen }) ∧
  (∀ q s, q < 4096 → WriteOk s (R.QUE_CTL q) (BitVec.ofNat 32 (getF s (F.QUE_CTL_ENABLE q) + 2)) →
    ∃ t, exec (.queueStop q) s = .next t ∧
      qState t q = if getF s (F.QUE_STAT_INFLIGHT q) = 0 then qStopped else qStopping) ∧
  (∀ q s, q < 4096 → WriteOk s (R.QUE_CTL q) (BitVec.ofNat 32 (getF s (F.QUE_CTL_ENABLE q) + 4)) →
    ∃ t, exec (.queueResume q) s = .next t ∧ qState t q = qRunning) ∧
  (∀ q v s, q < 4096 → v < 2 ^ 32 → barOpen s = true → dormant s 0x04 = false → blkReset s 0x04 = false →
    doorbellCheck s q v = .ok → ∃ t, exec (.doorbell 4 (4096 * q) v) s = .next t ∧ qTail t q = v) ∧
  (∀ q v s, q < 4096 → v < 2 ^ 32 → barOpen s = true → dormant s 0x04 = false → blkReset s 0x04 = false →
    doorbellCheck s q v ≠ .ok →
    exec (.doorbell 4 (4096 * q) v) s = .next (logError s srcBar2 (4096 * q) (doorbellCheck s q v))) ∧
  (∀ q b s, q < 4096 → blkOn s 0x04 = true → deadRead s (.ring q) = false → (qrec s q).reading = true → qState s q = qRunning → qLocal s q = false →
    (byteAt (fit 64 b) 60).testBit 0 = true → leAt (fit 64 b) 56 2 = qFetch s q →
    ∃ t, exec (.ringReadComplete q (.data b)) s = .next t ∧ qFetch t q = (qFetch s q + 1) % 65536 ∧
      (qrec t q).handed = (qrec s q).handed ++ [(qFetch s q, byteAt (fit 64 b) 59, false)]) ∧
  (∀ dt q s, q < 4096 → blkOn (advance dt s) 0x04 = true → (qrec (advance dt s) q).waiting = true → qState (advance dt s) q = qRunning →
    (qrec (advance dt s) q).since + 1000000 ≤ upNs (advance dt s) → storeRoom (advance dt s) q = true →
    ∃ t, exec (.ringRecheckTimeout dt q) s = .next t ∧ (qrec t q).reading = true ∧ (qrec t q).final = true ∧
      (qrec t q).waiting = false) ∧
  (∀ dt q r s, QueuesOk s → q < 4096 → blkOn (advance dt s) 0x02 = true →
    (advance dt s).hif.reads.find? (fun r => r.who == .ring q) = some r → r.live = true → r.due ≤ upNs (advance dt s) →
    (qrec (advance dt s) q).reading = true → qState (advance dt s) q = qRunning →
    ∃ t, exec (.hostReadTimeout dt (.ring q)) s = .next t ∧ qState t q = qError ∧
      getF t (F.QUE_STAT_CODE q) = Status.timeout.code ∧ t.hif.timedOut = (advance dt s).hif.timedOut + 1) ∧
  (∀ s, blkOn s 0x02 = true → 0 < s.hif.timedOut → ∃ t, exec .lateCompletion s = .next t ∧
    t.hif.timedOut = s.hif.timedOut - 1 ∧
    getF t F.DMA_GSTAT_LATECPL = satAdd F.DMA_GSTAT_LATECPL.top (getF s F.DMA_GSTAT_LATECPL) 1)

/-- The DMA engine. A segment of a source list that passes its checks becomes the source's elements while the destination's segment
is still awaited; 64 bytes of host data are written to the DRAM bytes of the destination's page and to no other byte; the last
write of a descriptor completes it and counts it. -/
def Obligations.DmaEngine : Prop :=
  (∀ c b a d s, QueuesOk s → c < 64 → blkOn s 0x08 = true → deadRead s (.seg c false false) = false → (chan s c).active = some d →
    (chan s c).shadow = none → d.wantSrc = true → d.wantDst = true → d.fault = none → d.held = none →
    place s d.src.sp d.src.next = .host a → segCheck (fit 64 b) d.src.sp (d.len - d.done) d.src.segs = none →
    ∃ t, exec (.dmaSegmentReadDone c false false (.data b)) s = .next t ∧
      (chan t c).active = some { d with wantSrc := false, src := sideFeed d.src (fit 64 b) (d.len - d.done) }) ∧
  (∀ c b a p g a2 g2 d s, QueuesOk s → c < 64 → blkOn s 0x08 = true → deadRead s (.data c) = false → (chan s c).active = some d →
    (chan s c).shadow = none → (chan s c).susp = none →
    d.wantSrc = false → d.wantDst = false → d.fault = none → d.held = none → d.op = 1 → d.asked = 64 → d.len = d.done + 64 →
    d.src.sp = 0 → d.src.elems = [⟨a, 64, g⟩] → d.dst.sp = 1 → d.dst.elems = [⟨a2, 64, g2⟩] →
    place s 0 a = .host a → place s 1 a2 = .dram p →
    ∃ t, exec (.dmaReadDone c (.data b)) s = .next t ∧
      (∀ i, (h : i < 64) → rdByte dramFill t.dram (p + i) = (fit 64 b).getD i 0#8) ∧
      (∀ i, i < p ∨ p + 64 ≤ i → rdByte dramFill t.dram i = rdByte dramFill s.dram i) ∧
      (∃ d', (chan t c).active = some d' ∧ d'.done = d.len) ∧ (chan t c).bytes = ((chan s c).bytes + 64) % 2 ^ 64) ∧
  (∀ c d s, QueuesOk s → c < 64 → blkOn s 0x08 = true → (chan s c).active = some d → (chan s c).shadow = none →
    (chan s c).susp = none →
    d.fault = none → d.len ≤ d.done → d.asked = 0 → ∃ t, exec (.dmaDescriptorComplete c) s = .next t ∧
      (chan t c).active = none ∧
      getF t (F.DMA_CHCNT_CNT c) = (getF s (F.DMA_CHCNT_CNT c) + 1) % 2 ^ (F.DMA_CHCNT_CNT c).width ∧
      getF t (F.DMA_CHSTAT_STATE c) = getF s (F.DMA_CHCFG_ENABLE c))

/-- The sorting office. The best ready item goes to the target its group chooses (stated for a service core that runs its opcode);
one that finds no free target pre-empts a core that qualifies; after a pulse, a poll has a read of each occupied NORMAL slot of a
host core out or waiting; a slot found released is empty, or takes the next item kept for a host core that may receive it; a slot
read that fails faults its target; the load window that ended first and is not shown yet is shown: its length, and the load of
each target, by the formula of R174. That the pulse ends the window and the row shows it, and the length in extended time, are the
model's (log entries 113, 133). -/
def Obligations.SortingOffice : Prop :=
  (∀ i k s, QueuesOk s → blkOn s 0x09 = true → bestItem s (fun i => (chooseTarget s (groupOf s i.q)).isSome) = some i →
    chooseTarget s (groupOf s i.q) = some k → k < 8 → coreOpcodes.contains (opcode i) = true → (trec s k).active = none →
    ∃ t, exec .sorDispatch s = .next t ∧ (trec t k).normal = some i ∧ t.sor.ready = s.sor.ready.erase i ∧
      getF t (F.SOR_TGTSTAT_BUSY k) = 1 ∧ getF t (F.SOR_TGTSTAT_PRIO k) = i.prio % 2 ^ (F.SOR_TGTSTAT_PRIO k).width) ∧
  (∀ i k s, QueuesOk s → blkOn s 0x09 = true →
    bestItem s (fun i => (chooseTarget s (groupOf s i.q)).isNone && (chooseVictim s i).isSome) = some i →
    chooseVictim s i = some k → k < 8 → coreOpcodes.contains (opcode i) = true → s.sor.picked = [] →
    ∃ t, exec (.sorPreempt false) s = .next t ∧ (trec t k).urgent = some i ∧ (trec t k).susp = true ∧
      (trec t k).normal = (trec s k).normal ∧ getF t (F.SOR_TGTSTAT_SUSP k) = 1 ∧
      getF t F.SOR_GSTAT_PREEMPTS = (getF s F.SOR_GSTAT_PREEMPTS + 1) % 2 ^ F.SOR_GSTAT_PREEMPTS.width) ∧
  (∀ dt win k i s, blkOn (advance dt s) 0x09 = true →
    (if win then (advance dt s).sor.winPollDue else (advance dt s).sor.pollDue) = true → k < 64 →
    isSet (advance dt s) F.HIF_LINKSTAT_UP = true → (trec (advance dt s) (72 + k)).normal = some i →
    ∃ t, exec (.slotPoll dt win) s = .next t ∧
      (readOut t (.slot (72 + k) false) = true ∨ readWaits t (.slot (72 + k) false) = true)) ∧
  (∀ k urgent b i s, QueuesOk s → k < 136 → blkOn s 0x09 = true → deadRead s (.slot k urgent) = false →
    slotItem s k urgent = some i → (byteAt b 60).testBit 0 = false →
    ∃ t, exec (.slotReadDone k urgent b) s = .next t ∧
      slotItem t k urgent = if urgent = false ∧ targetLive s k = true then (trec s k).next.head? else none) ∧
  (∀ k urgent i s, QueuesOk s → k < 136 → blkOn s 0x09 = true → deadRead s (.slot k urgent) = false → slotItem s k urgent = some i → ∃ t, exec (.slotReadFail k urgent) s = .next t ∧
    slotItem t k urgent = none ∧ getF t (F.SOR_TGTSTAT_FAULT k) = 1 ∧ getF t (F.SOR_TGTSTAT_FCODE k) = Status.busError.code) ∧
  (∀ dt n busy l s, blkOn (advance dt s) 0x09 = true → (advance dt s).sor.winDone = (n, busy) :: l →
    ∃ t, exec (.loadWindowEnd dt) s = .next t ∧ t.sor.winDone = l ∧ t.word R.SOR_WINNS = BitVec.ofNat 32 (min n (2 ^ 32 - 1)) ∧
      ∀ k, k < 136 → getF t (F.SOR_TGTLOAD_LOAD k) = if n = 0 then 0 else min 0xFFFF (busy.getD k 0 * 65536 / n))

/-- DRAM requests. A read request joins the queue, waiting behind a write to its block; a read that nothing keeps from being
issued (`mayIssue`, the order of R492; log entry 142) leaves it as it returns, and DRAM is as before; a block that cannot be
corrected is counted and recorded; a write issued with none before it and nothing on its channel stores its 64 bytes and no other;
a partial write stores the corrected block merged with its bytes; the patrol, where a round is due, goes on to the next block.
`eccRead` is the read through the ECC (R484, R485). -/
def Obligations.DramAccess : Prop :=
  (∀ dt port cls b s, DramOn (advance dt s) → b < drcBlocks (advance dt s) →
    portsHeld (advance dt s) (blockChan (advance dt s) b) = false →
    ∃ t, exec (.dramReadRequest dt port cls b) s = .next t ∧ t.drc.reqs = (advance dt s).drc.reqs ++
      [⟨port, portClass (advance dt s) port cls, false, b, [], upNs (advance dt s),
        upNs (advance dt s) + classTarget (advance dt s) (portClass (advance dt s) port cls), writePending (advance dt s) b, false,
        false, none⟩]) ∧
  (∀ dt port cls b s, DramOn (advance dt s) → drcBlocks (advance dt s) ≤ b →
    exec (.dramReadRequest dt port cls b) s = .next (emit (advance dt s) (.answer port b .range []))) ∧
  (∀ dt port b err r d s, DramOn (advance dt s) →
    (advance dt s).drc.reqs.find? (fun r => !r.wr && r.port == port && r.block == b) = some r → r.hazard = false →
    mayIssue (advance dt s) r = true → eccRead (advance dt s) b err = (some d, advance dt s) →
    ∃ t, exec (.dramReadReturn dt port b err) s = .next t ∧ t.drc.reqs = (advance dt s).drc.reqs.erase r ∧
      .answer port b .ok d ∈ t.out ∧ t.dram = (advance dt s).dram) ∧
  (∀ dt port b err r s, DramOn (advance dt s) →
    (advance dt s).drc.reqs.find? (fun r => !r.wr && r.port == port && r.block == b) = some r → r.hazard = false →
    mayIssue (advance dt s) r = true → (advance dt s).drc.poison.contains b = true →
    ∃ t, exec (.dramReadReturn dt port b err) s = .next t ∧ getF t F.DRC_UEADDR_VALID = 1 ∧
      getF t F.DRC_UEADDR_BLOCK = b % 2 ^ F.DRC_UEADDR_BLOCK.width ∧ .answer port b .integrity [] ∈ t.out ∧
      getF t F.DRC_ECCSTAT_UE = satAdd F.DRC_ECCSTAT_UE.top (getF (advance dt s) F.DRC_ECCSTAT_UE) 1) ∧
  (∀ dt port cls b data s, DramOn (advance dt s) → b < drcBlocks (advance dt s) →
    portsHeld (advance dt s) (blockChan (advance dt s) b) = false → (advance dt s).drc.reqs.filter DReq.wr = [] →
    (chReqs (advance dt s) (blockChan (advance dt s) b)).isEmpty = true →
    ∃ t, exec (.dramWriteRequest dt port cls b data true) s = .next t ∧
      (∀ i, i < 64 → rdByte dramFill t.dram (64 * b + i) = (fit 64 data).getD i 0#8) ∧
      (∀ a, a < 64 * b ∨ 64 * b + 64 ≤ a → rdByte dramFill t.dram a = rdByte dramFill (advance dt s).dram a)) ∧
  (∀ dt port b off data err s, DramOn (advance dt s) → b < drcBlocks (advance dt s) →
    portsHeld (advance dt s) (blockChan (advance dt s) b) = false →
    (chReqs (advance dt s) (blockChan (advance dt s) b)).isEmpty = true → ∃ t, exec (.dramPartialWrite dt ⟨port, b⟩ off data err) s = .next t ∧
      t.drc.reqs = (advance dt s).drc.reqs ∧
      (∀ d, (eccRead (advance dt s) b err).1 = some d → ∀ a, rdByte dramFill t.dram a =
        if 64 * b ≤ a ∧ a < 64 * b + 64 then (patch d off data).getD (a - 64 * b) 0#8 else rdByte dramFill (advance dt s).dram a) ∧
      getF t F.DRC_HAZSTAT_RMW = satAdd F.DRC_HAZSTAT_RMW.top (getF (advance dt s) F.DRC_HAZSTAT_RMW) 1) ∧
  (∀ dt err s, DramOn (advance dt s) → isSet (advance dt s) F.DRC_REFCFG_SCRUBH = true → 0 < drcBlocks (advance dt s) →
    patrolDue (advance dt s) = true → chState (advance dt s) (blockChan (advance dt s) ((advance dt s).drc.patrol % drcBlocks (advance dt s))) = chActive →
    (chReqs (advance dt s) (blockChan (advance dt s) ((advance dt s).drc.patrol % drcBlocks (advance dt s)))).isEmpty = true →
    ∃ t, exec (.patrolScrub dt err) s = .next t ∧ t.drc.patrolReq = none ∧
      t.drc.patrol = ((advance dt s).drc.patrol % drcBlocks (advance dt s) + 1) % drcBlocks (advance dt s))

/-- Refresh, self-refresh and set-points. A refresh that falls due on rank 0 adds one to OWED, and what is owed is issued when
nothing forbids it, and the next falls due a tREFI later; at OWED = 8 it is forced and the channel's requests become urgent; a
channel idle for IDLE × 10 ns pulls refreshes in to -8 (from when these times count is the model's, log entry 147); it enters
self-refresh when it has no request and leaves it with OWED = 0; GO starts a change of set-point or completes at once, and one
that has not started in 100 ms ends with ABORTED. MR4_POLL, 16 ms after the one before, changes the factor and nothing else. -/
def Obligations.DramRefresh : Prop :=
  (∀ dt c s, DramOn (advance dt s) → chState (advance dt s) c = chActive → owed (advance dt s) c 0 < 8 →
    realTime (advance dt s) c = false → urgentReq (advance dt s) c = false →
    c < 8 → refAt (advance dt s) c 0 ≤ upNs (advance dt s) →
    ∃ t, exec (.refreshDue dt c 0) s = .next t ∧ owed t c 0 = min 0 (owed (advance dt s) c 0 + 1) ∧
      refAt t c 0 = refAt (advance dt s) c 0 + trefi (advance dt s)) ∧
  (∀ dt c rank s, DramOn (advance dt s) → chState (advance dt s) c = chActive → owed (advance dt s) c rank = 8 →
    hasRank (advance dt s) c rank = true → refAt (advance dt s) c rank ≤ upNs (advance dt s) →
    ∃ t, exec (.refreshDue dt c rank) s = .next t ∧
      getF t F.DRC_REFSTAT_FORCED = satAdd F.DRC_REFSTAT_FORCED.top (getF (advance dt s) F.DRC_REFSTAT_FORCED) 1 ∧
      (∀ r ∈ t.drc.reqs, blockChan t r.block = c → r.urg3 = true ∧ r.forced = true)) ∧
  (∀ dt c s, DramOn (advance dt s) → chState (advance dt s) c = chActive → isSet (advance dt s) F.DRC_REFCFG_PULLIN = true →
    (chReqs (advance dt s) c).isEmpty = true → owed (advance dt s) c 0 ≤ 0 →
    (advance dt s).drc.quietAt.getD c 0 + 10 * getF (advance dt s) F.DRC_REFCFG_IDLE ≤ upNs (advance dt s) →
    ∃ t, exec (.refreshPullin dt c 0) s = .next t ∧ owed t c 0 = -8) ∧
  (∀ n s, DramOn s → s.drc.mr4At + 16000000 ≤ upNs s →
    exec (.mr4Poll n) s = .next { s with drc := { s.drc with mr4 := n, mr4At := upNs s } }) ∧
  (∀ dt c s, DramOn (advance dt s) → chState (advance dt s) c = chActive → (chReqs (advance dt s) c).isEmpty = true →
    ∃ t, exec (.selfRefreshEntry dt c) s = .next t ∧ chState t c = chSelfRef ∧ owed t c 0 = min 0 (owed (advance dt s) c 0)) ∧
  (∀ dt c s, DramOn (advance dt s) → chState (advance dt s) c = chSelfRef → (advance dt s).drc.chg = none →
    ∃ t, exec (.selfRefreshExit dt c) s = .next t ∧ chState t c = chActive ∧ owed t c 0 = 0) ∧
  (∀ v s, WriteOk s R.DRC_FREQ (F.DRC_FREQ_GO.put v 1) → ∃ t, exec (.freqChangeGo v) s = .next t ∧
    (F.DRC_FREQ_FSP.get v = getF s F.DRC_CFG_FSP → getF t F.DRC_FREQ_CODE = 0 ∧ getF t F.DRC_FREQ_LASTUS = 0) ∧
    ((drcChannels s).isEmpty = true → getF t F.DRC_FREQ_CODE = 0 ∧ getF t F.DRC_FREQ_LASTUS = 0 ∧
      getF t F.DRC_CFG_FSP = F.DRC_FREQ_FSP.get v) ∧
    (F.DRC_FREQ_FSP.get v ≠ getF s F.DRC_CFG_FSP → (drcChannels s).isEmpty = false → getF t F.DRC_FREQ_BUSY = 1 ∧
      t.drc.chg = some ⟨F.DRC_FREQ_FSP.get v, F.DRC_FREQ_FORCE.get v == 1, upNs s, upNs s⟩)) ∧
  (∀ dt c g s, DramOn (advance dt s) → (advance dt s).drc.chg = some g →
    (drcChannels (advance dt s)).all (fun c => chState (advance dt s) c == chSelfRef) = true →
    g.entered + 12500 ≤ upNs (advance dt s) → ∃ t, exec (.selfRefreshExit dt c) s = .next t ∧ t.drc.chg = none ∧
      getF t F.DRC_CFG_FSP = g.fsp % 2 ^ F.DRC_CFG_FSP.width ∧ getF t F.DRC_FREQ_BUSY = 0 ∧ getF t F.DRC_FREQ_CODE = 0) ∧
  (∀ dt g s, DramOn (advance dt s) → (advance dt s).drc.chg = some g → g.force = false →
    g.at0 + 100000000 ≤ upNs (advance dt s) →
    (drcChannels (advance dt s)).all (fun c => chState (advance dt s) c == chSelfRef) = false →
    ∃ t, exec (.freqChangeTimeout dt) s = .next t ∧ t.drc.chg = none ∧ getF t F.DRC_FREQ_BUSY = 0 ∧
      getF t F.DRC_FREQ_CODE = Status.aborted.code)

/-- Block resets of the host's blocks. The write of a block's bit puts the block in reset: its bit shows it, its registers read
their reset values, and what it held is gone; SRF keeps the frames of the reading engine, SOR the items of service cores and DMA
channels, CMP the number of the ramp step and a composed frame, and QUE the number of times each queue was enabled, which are the
model's (log entries 8, 28 and 123). -/
def Obligations.HostBlockResets : Prop :=
  (∀ s, ResetOk s 0x04 → ∃ t, exec .queBlockReset s = .next t ∧ blkReset t 0x04 = true ∧ RegsAtReset 0x40000 0x80000 t ∧
    (∀ q, qrec t q = { qrecReset with gen := (qrec t q).gen }) ∧ t.sor.ready = [] ∧ t.sor.picked = []) ∧
  (∀ s, ResetOk s 0x08 → ∃ t, exec .dmaBlockReset s = .next t ∧ blkReset t 0x08 = true ∧ RegsAtReset 0x80000 0x90000 t ∧
    t.dma = []) ∧
  (∀ s, ResetOk s 0x09 → ∃ t, exec .sorBlockReset s = .next t ∧ blkReset t 0x09 = true ∧ t.sor.ready = [] ∧ t.sor.last = [] ∧
    t.sor.winFrom = none) ∧
  (∀ s, ResetOk s 0x0A → ∃ t, exec .srfBlockReset s = .next t ∧ blkReset t 0x0A = true ∧ RegsAtReset 0xA0000 0xB0000 t ∧
    t.srf = { srfReset with frames := s.srf.frames }) ∧
  (∀ s, ResetOk s 0x0B → ∃ t, exec .cmpBlockReset s = .next t ∧ blkReset t 0x0B = true ∧ RegsAtReset 0xB0000 0xC0000 t ∧
    t.cmp = { cmpReset with nextStep := s.cmp.nextStep, hist := t.cmp.hist, raster := t.cmp.raster } ∧
    ∀ r, t.cmp.raster = some r → r.finished = true ∧ r.aborted = false) ∧
  (∀ s, ResetOk s 0x0C → ∃ t, exec .frtBlockReset s = .next t ∧ blkReset t 0x0C = true ∧ RegsAtReset 0xC0000 0xD0000 t ∧
    t.frt = frtReset ∧ t.cmp.armed = [] ∧ t.cmp.raster = none)

/-- Block resets of the chain's and the tile's blocks, and of TIM, CAL and DBG. Each leaves the block's bit set and its state
reset: CHN keeps only the number of the next letter, TIM the increment and the trigger outputs' ends, LNK's ports are off with no
timing port, the lamps are off, a sender's TAN has no peers, a recalibration is aborted, and the test logic leaves EXTEST. -/
def Obligations.ChainBlockResets : Prop :=
  (∀ s, ResetOk s 0x0D → ∃ t, exec .chnBlockReset s = .next t ∧ blkReset t 0x0D = true ∧ RegsAtReset 0xD0000 0xE0000 t ∧
    t.chn = { chnReset with nextLid := s.chn.nextLid } ∧ t.lmp.last = none) ∧
  (∀ s, ResetOk s 0x0E → ∃ t, exec .lnkBlockReset s = .next t ∧ blkReset t 0x0E = true ∧ RegsAtReset 0xE0000 0xF0000 t ∧
    t.lnk.source = 4 ∧ t.lnk.bypass = none ∧ t.cal.run = none) ∧
  (∀ s, ResetOk s 0x0F → ∃ t, exec .timBlockReset s = .next t ∧ blkReset t 0x0F = true ∧ t.word R.TIM_INC = s.word R.TIM_INC ∧
    servo t = tFree ∧ t.tim = { timReset with gens := s.tim.gens.filter (fun e => e.2.owner != 0), trigTo := s.tim.trigTo }) ∧
  (∀ s, ResetOk s 0x10 → isTile s = false → ∃ t, exec .tanBlockReset s = .next t ∧ blkReset t 0x10 = true ∧ t.tan = tanReset ∧
    RegsAtReset 0x100000 0x110000 t) ∧
  (∀ s, ResetOk s 0x11 → ∃ t, exec .lmpBlockReset s = .next t ∧ blkReset t 0x11 = true ∧ t.lmp = lmpReset ∧
    RegsAtReset 0x110000 0x120000 t) ∧
  (∀ s, ResetOk s 0x12 → ∃ t, exec .spkBlockReset s = .next t ∧ blkReset t 0x12 = true ∧ t.spk = spkReset ∧
    RegsAtReset 0x120000 0x130000 t) ∧
  (∀ s, ResetOk s 0x15 → ∃ t, exec .calBlockReset s = .next t ∧ blkReset t 0x15 = true ∧ RegsAtReset 0x150000 0x160000 t ∧
    t.cal.run = none ∧ t.cal.queue = [] ∧ t.cal.next = 0) ∧
  (∀ s, ResetOk s 0x19 → ∃ t, exec .dbgBlockReset s = .next t ∧ blkReset t 0x19 = true ∧ t.sec.extest = false)

/-- Surface operations. An entry that passes the checks of R183: CREATE adds a surface with the lowest free handle, its pages
holes where it is sparse and pool pages otherwise; BACK maps its range to the host's memory; INVAL leaves no copy of its range for
new frames; FREE removes the surface and its mappings, or, while a frame may still read it, waits. EN 0 to 1 starts the table's
initialisation with no page mapped, and its end lets the operations that waited run. Which pool pages are taken is a free value
(log entry 7). -/
def Obligations.SurfaceOperations : Prop :=
  (∀ it x s, QueuesOk s → SrfTakes s 0x20 it x → ∃ t ps, exec .surfaceCreate s = .next t ∧
    t.srf.surfs = x.srf.surfs ++ [⟨freeHandle x, srfVa it.entry / 65536, srfSize it.entry / 65536, srfSparse it.entry, false, none,
      false⟩] ∧
    (srfSparse it.entry = true → t.srf.segs = x.srf.segs ++ [⟨srfVa it.entry / 65536, srfSize it.entry / 65536, .hole⟩]) ∧
    (srfSparse it.entry = false → ps.length = srfSize it.entry / 65536 ∧
      t.srf.segs = x.srf.segs ++ localSegs (srfVa it.entry / 65536) ps)) ∧
  (∀ it x s, QueuesOk s → SrfTakes s 0x21 it x → srfKind it.entry = 1 → ∃ t, exec .surfaceBack s = .next t ∧
    t.srf.segs = segsOut x.srf.segs (srfVa it.entry / 65536) (srfSize it.entry / 65536) ++
      [⟨srfVa it.entry / 65536, srfSize it.entry / 65536, .host (srfHaddr it.entry)⟩]) ∧
  (∀ it x y s, QueuesOk s → SrfTakes s 0x22 it x → x.srf.surfs.find? (fun u => u.handle == srfHandle it.entry) = some y →
    ∃ t, exec .surfaceFree s = .next t ∧
      (freeWaits x y = false → t.srf.segs = segsOut x.srf.segs y.vp y.n ∧ ∀ u ∈ t.srf.surfs, u.handle ≠ y.handle) ∧
      (freeWaits x y = true → (∃ o ∈ t.srf.pend, o.item = it) ∧ ∀ u ∈ t.srf.surfs, u.handle = y.handle → u.freeing = true)) ∧
  (∀ it x s, QueuesOk s → SrfTakes s 0x23 it x → ∃ t, exec .surfaceInval s = .next t ∧ t.srf.segs = x.srf.segs ∧
    ∀ c ∈ t.srf.copies, srfVa it.entry / 65536 ≤ c.vp → c.vp < srfVa it.entry / 65536 + srfSize it.entry / 65536 →
      c.only ≠ none) ∧
  (∀ s, WriteOk s R.SRF_CTL (F.SRF_CTL_EN.put 0#32 1) → getF s F.SRF_CTL_EN = 0 → ∃ t, exec .srfEnable s = .next t ∧
    getF t F.SRF_CTL_EN = 1 ∧ t.srf.initBusy = true ∧ t.srf.segs = [] ∧ t.srf.used = [] ∧ t.srf.copies = []) ∧
  (∀ s, QueuesOk s → blkOn s 0x0A = true → s.srf.initBusy = true → ∃ t, exec .srfTableInitDone s = .next t ∧ t.srf.initBusy = false ∧
    t.srf.held = [])

/-- Frames and prefetch. The oldest running frame retires and is shown; the page with the earliest deadline that needs a read is
read, in requests of at most Max Read Request Size, into a free cache page, while tags are free, before any other read; its 64 KiB
are written there and nowhere else, and the copy is resident; a read that fails is recorded with its code; a page that is not
resident at its deadline is recorded as LATE, or LINK_ABSENT with the link down. -/
def Obligations.FramesAndPrefetch : Prop :=
  (∀ f l s, QueuesOk s → blkOn s 0x0A = true → s.srf.frames = f :: l → f.running = true → ∃ t, exec .frameRetire s = .next t ∧
    getF t F.SRF_RETIRED_FRAME = f.n % 2 ^ 32 ∧ t.srf.retiredAny = true ∧ ∀ g ∈ t.srf.frames, g.n ≠ f.n) ∧
  (∀ d a p s, srfOn s = true → upOpen s = true → (needsSorted s).find? (needsRead s) = some d →
    pageMapFor s d.frame d.vp = some (.host a) → walkBad s d.vp = false → cacheFree s = some p →
    tagFree s (.read (.page d.vp) a 65536) = true →
    ∃ t l, exec .prefetchIssue s = .next t ∧ readOut t (.page d.vp) = true ∧
      t.out = s.out ++ (busParts s.hif.mrrs a 65536).map (fun q => .hostRead (.page d.vp) q.1 q.2) ++ l ∧
      ∃ f ∈ t.srf.fetching, f.vp = d.vp ∧ f.page = p ∧ f.frame = d.frame) ∧
  (∀ vp b f s, blkOn s 0x0A = true → s.srf.fetching.find? (fun f => f.vp == vp) = some f → f.only ≠ some [] →
    ∃ t, exec (.prefetchDone vp b) s = .next t ∧
      (∀ i, i < 65536 → rdByte dramFill t.dram (65536 * f.page + i) = (fit 65536 b).getD i 0#8) ∧
      (∀ a, a < 65536 * f.page ∨ 65536 * f.page + 65536 ≤ a → rdByte dramFill t.dram a = rdByte dramFill s.dram a) ∧
      ∃ c ∈ t.srf.copies, c.vp = vp ∧ c.page = f.page ∧ c.only = f.only) ∧
  (∀ vp poisoned f s, blkOn s 0x0A = true → s.srf.fetching.find? (fun f => f.vp == vp) = some f →
    ∃ t, exec (.prefetchFail vp poisoned) s = .next t ∧ (vp, f.frame) ∈ t.srf.failed ∧
      getF t F.SRF_PFLAST_CODE = (if poisoned then Status.integrity else Status.busError).code ∧
      getF t F.SRF_PFSTAT_FAIL = satAdd F.SRF_PFSTAT_FAIL.top (getF s F.SRF_PFSTAT_FAIL) 1) ∧
  (∀ dt d s, blkOn (advance dt s) 0x0A = true → latePage (advance dt s) = some d → (advance dt s).cmp.raster = none →
    ∃ t, exec (.latePage dt) s = .next t ∧ getF t F.SRF_PFFRM_FRAME = d.frame % 2 ^ 32 ∧
      getF t F.SRF_PFLAST_CODE = (if isSet (advance dt s) F.HIF_LINKSTAT_UP then Status.late else Status.linkAbsent).code ∧
      getF t F.SRF_PFSTAT_LATE = satAdd F.SRF_PFSTAT_LATE.top (getF (advance dt s) F.SRF_PFSTAT_LATE) 1)

/-- Loads and the compositor. While CMP is disabled an accepted BOOK, CURVE or FILTER is in use at once, and a load of the same
kind and slot that was pending is not any more; while it is enabled the load is pending. Writing EN enables and disables CMP.
Compositing that ends before the raster deadline with every block sound finishes the frame's raster and shows its cost. -/
def Obligations.CompositorLoads : Prop :=
  (∀ host it x b l s, QueuesOk s → LoadTakes s 0x30 host it x b l → ∃ t, exec (.bookLoad host) s = .next t ∧
    (isSet x F.CMP_CTL_EN = false → t.cmp.book = l.book ∧
      t.cmp.loads = x.cmp.loads.filter (fun m => !(m.op == l.op && m.index == l.index))) ∧
    (isSet x F.CMP_CTL_EN = true → t.cmp.book = x.cmp.book ∧ l ∈ t.cmp.loads)) ∧
  (∀ host it x b l s, QueuesOk s → LoadTakes s 0x31 host it x b l → ∃ t, exec (.curveLoad host) s = .next t ∧
    (isSet x F.CMP_CTL_EN = false → (byteAt it.entry 1, (List.range 4096).map (fun i => leAt b (4 * i) 4)) ∈ t.cmp.curves) ∧
    (isSet x F.CMP_CTL_EN = true → t.cmp.curves = x.cmp.curves ∧ l ∈ t.cmp.loads)) ∧
  (∀ host it x b l s, QueuesOk s → LoadTakes s 0x32 host it x b l → ∃ t, exec (.filterLoad host) s = .next t ∧
    (isSet x F.CMP_CTL_EN = false → (byteAt it.entry 1, (List.range 512).map (fun i => leAt b (2 * i) 2)) ∈ t.cmp.filters) ∧
    (isSet x F.CMP_CTL_EN = true → t.cmp.filters = x.cmp.filters ∧ l ∈ t.cmp.loads)) ∧
  (∀ v s, WriteOk s R.CMP_CTL (F.CMP_CTL_EN.put v 1) → ∃ t, exec (.cmpEnable v) s = .next t ∧ getF t F.CMP_CTL_EN = 1 ∧
    t.cmp.raster = s.cmp.raster) ∧
  (∀ v s, WriteOk s R.CMP_CTL (F.CMP_CTL_EN.put v 0) → ∃ t, exec (.cmpDisable v) s = .next t ∧ getF t F.CMP_CTL_EN = 0 ∧
    t.cmp.raster = s.cmp.raster) ∧
  (∀ dt r s, blkOn (advance dt s) 0x0B = true → (advance dt s).cmp.raster = some r → r.finished = false → r.aborted = false →
    matOrAfter 32 (timeNs (advance dt s)) r.due = false →
    frameBad (advance dt s) ⟨r.frame, r.cfg, r.ramps, r.step⟩ r.layers = none →
    ∃ t, exec (.cmpFrameDone dt) s = .next t ∧ t.cmp.raster = some { r with finished := true } ∧
      getF t F.CMP_FCLK_CLOCKS = frameCost ⟨r.frame, r.cfg, r.ramps, r.step⟩ r.layers % 2 ^ F.CMP_FCLK_CLOCKS.width)

/-- Commits and modes of a sender. A commit takes every pending value: while FRT is disabled they are in force at once, while it
is enabled they are armed and the entry waits. A MODE entry is installed while FRT is disabled and held pending while it runs. EN
0 to 1 takes the generator and latches from the mode's frame E on, from E itself where E's latch instant is still to come; EN 1 to
0 leaves nothing armed and nothing queued. -/
def Obligations.CommitsAndModes : Prop :=
  (∀ dt s, QueuesOk s → WriteOk (advance dt s) R.FRT_COMMIT (F.FRT_COMMIT_GO.put 0#32 1) → ∃ t, exec (.commitGo dt) s = .next t ∧ t.cmp.pend = [] ∧
    (frtEn (advance dt s) = false → t.cmp.base = overlay (advance dt s).cmp.base (advance dt s).cmp.pend) ∧
    (frtEn (advance dt s) = true → getF t F.FRT_COMMIT_ARMED = 1 ∧
      ∀ e ∈ (advance dt s).cmp.pend, ∃ w, (e.1, w) ∈ t.cmp.armed)) ∧
  (∀ it x s, QueuesOk s → blkOn s 0x0C = true → coreTake s 0x38 = some (it, x) → frtCheck x it.entry = .ok →
    ∃ t, exec .commitEntry s = .next t ∧ t.cmp.pend = [] ∧
      (frtEn x = false → t.cmp.base = overlay x.cmp.base x.cmp.pend) ∧
      (frtEn x = true → getF t F.FRT_COMMIT_ARMED = 1 ∧ it ∈ t.frt.commits)) ∧
  (∀ it x s, QueuesOk s → blkOn s 0x0C = true → coreTake s 0x39 = some (it, x) → frtCheck x it.entry = .ok →
    ∃ t, exec .modeEntry s = .next t ∧
      (frtEn x = false → t.frt.mode = some (entryMode it.entry) ∧ getF t F.FRT_PERNS_NS = (entryMode it.entry).perNs ∧
        getF t F.FRT_MSTAT_MGEN = (getF x F.FRT_MSTAT_MGEN + 1) % 2 ^ F.FRT_MSTAT_MGEN.width) ∧
      (frtEn x = true → x.frt.mode ≠ none → getF t F.FRT_MSTAT_PEND = 1 ∧ t.frt.mode = x.frt.mode ∧
        ∃ a late, t.frt.pendMode = some (it, entryMode it.entry, a, late))) ∧
  (∀ dt v m s, QueuesOk s → WriteOk (advance dt s) R.FRT_CTL (F.FRT_CTL_EN.put v 1) → frtEn (advance dt s) = false →
    (advance dt s).frt.mode = some m → ∃ t, exec (.frtEnable dt v) s = .next t ∧ frtEn t = true ∧ t.frt.queued = [] ∧
      (gen t (frtGen t)).owner = 1 ∧ ∃ k, getF t F.FRT_NEXTLAT_FRAME = (m.e + k) % 2 ^ 32 ∧
        (nowFine (advance dt s) < cadenceAt m (extOf (advance dt s) m.te) (msub 32 m.e (F.FRT_CTL_QDEPTH.get v)) - 2000 * 2 ^ 24 → k = 0)) ∧
  (∀ dt v s, QueuesOk s → WriteOk (advance dt s) R.FRT_CTL (F.FRT_CTL_EN.put v 0) → frtEn (advance dt s) = true →
    ∃ t, exec (.frtDisable dt v) s = .next t ∧ frtEn t = false ∧ t.frt.queued = [] ∧ t.cmp.armed = [] ∧
      getF t F.FRT_COMMIT_ARMED = 0)

/-- Frames of a sender. At its latch instant the next frame's configuration is fixed and it is queued; at its cadence FRT_FRAME
becomes its number and no frame up to it stays queued; a raster that is not finished at its deadline underruns, recorded with its
cause, LATE and the frame. -/
def Obligations.SenderFrames : Prop :=
  (∀ dt needs m s, QueuesOk s → blkOn (advance dt s) 0x0C = true → (advance dt s).frt.mode = some m → frtOn (advance dt s) = true →
    latchExt (advance dt s) m (getF (advance dt s) F.FRT_NEXTLAT_FRAME) ≤ nowFine (advance dt s) →
    ∃ t q, exec (.latchInstant dt needs) s = .next t ∧ t.frt.queued = (advance dt s).frt.queued ++ [q] ∧
      q.n = getF (advance dt s) F.FRT_NEXTLAT_FRAME ∧ t.cmp.armed = [] ∧
      getF t F.FRT_NEXTLAT_FRAME = (getF (advance dt s) F.FRT_NEXTLAT_FRAME + 1) % 2 ^ 32) ∧
  (∀ dt slots m s, QueuesOk s → blkOn (advance dt s) 0x0C = true → (advance dt s).frt.mode = some m → frtOn (advance dt s) = true →
    genDue (advance dt s) (frtGen (advance dt s)) = true → ∃ t, exec (.senderCadence dt slots) s = .next t ∧
      getF t F.FRT_FRAME_FRAME = nextFrame (advance dt s) m ∧ t.frt.under = none ∧
      ∀ q ∈ t.frt.queued, matOrAfter 32 (nextFrame (advance dt s) m) q.n = false) ∧
  (∀ dt r s, QueuesOk s → blkOn (advance dt s) 0x0C = true → (advance dt s).cmp.raster = some r →
    r.finished = false → r.aborted = false → (advance dt s).frt.under ≠ some r.frame →
    matOrAfter 32 (timeNs (advance dt s)) r.due = true →
    ∃ t, exec (.rasterDeadline dt) s = .next t ∧ t.frt.under = some r.frame ∧ t.cmp.raster = some { r with aborted := true } ∧
      getF t F.FRT_UFRM_FRAME = r.frame % 2 ^ 32 ∧ getF t F.FRT_USTAT_CODE = Status.late.code ∧
      getF t F.FRT_USTAT_CAUSE = causeRaster)

/-- Port control, outside SLEEP. EN 0 to 1 makes the port look for its partner with the preset written; EN 1 to 0 turns it off;
RETRAIN starts it again; TEST takes it to the test state, and leaving the test returns the lanes' LNK_LCTL to reset; an error
injected in TEST in near-end loopback, where no error rate runs, is counted by the locked checker. -/
def Obligations.PortControl : Prop :=
  (∀ p v s, p < 4 → power s ≠ 3 → WriteOk s (R.LNK_PCTL p) ((F.LNK_PCTL_EN p).put v 1) → getF s (F.LNK_PCTL_EN p) = 0 →
    (F.LNK_PCTL_TEST p).get v = 0 → ∃ t, exec (.portEnable p v) s = .next t ∧ pState t p = pDetect ∧
      ∀ l, l < 5 → ((port t p).lane l).txPreset = (F.LNK_PCTL_PRESET p).get v) ∧
  (∀ p v s, p < 4 → power s ≠ 3 → WriteOk s (R.LNK_PCTL p) ((F.LNK_PCTL_EN p).put v 0) → getF s (F.LNK_PCTL_EN p) = 1 →
    ∃ t, exec (.portDisable p v) s = .next t ∧ pState t p = pOff) ∧
  (∀ p v s, p < 4 → power s ≠ 3 → WriteOk s (R.LNK_PCTL p) ((F.LNK_PCTL_RETRAIN p).put v 1) → getF s (F.LNK_PCTL_EN p) = 1 →
    (F.LNK_PCTL_EN p).get v = 1 → getF s (F.LNK_PCTL_TEST p) = 0 → (F.LNK_PCTL_TEST p).get v = 0 →
    ∃ t, exec (.portRetrain p v) s = .next t ∧ pState t p = pDetect ∧ portUp t p = false) ∧
  (∀ p v s, p < 4 → power s ≠ 3 → WriteOk s (R.LNK_PCTL p) ((F.LNK_PCTL_TEST p).put v 1) → (F.LNK_PCTL_EN p).get v = 1 →
    getF s (F.LNK_PCTL_TEST p) = 0 → ∃ t, exec (.portTestEnter p v) s = .next t ∧ pState t p = pTest) ∧
  (∀ p v s, p < 4 → power s ≠ 3 → WriteOk s (R.LNK_PCTL p) ((F.LNK_PCTL_TEST p).put v 0) → (F.LNK_PCTL_EN p).get v = 1 →
    getF s (F.LNK_PCTL_EN p) = 1 → getF s (F.LNK_PCTL_TEST p) = 1 → ∃ t, exec (.portTestExit p v) s = .next t ∧
      pState t p = pDetect ∧ ∀ l, l < 5 → t.word (R.LNK_LCTL (5 * p + l)) = resetWord (R.LNK_LCTL (5 * p + l))) ∧
  (∀ i v s, i < 20 → WriteOk s (R.LNK_LCTL i) ((F.LNK_LCTL_INJ i).put v 1) → (F.LNK_LCTL_NELB i).get v = 1 →
    (F.LNK_LCTL_CHK i).get v ≠ 0 → (F.LNK_LCTL_CHK i).get v = (F.LNK_LCTL_GEN i).get v →
    pState s (i / 5) = pTest → ((port s (i / 5)).lane (i % 5)).injFrom = none →
    ∃ t, exec (.prbsInject i v) s = .next t ∧ getF t (F.LNK_LSTAT_PRBSLOCK i) = 1 ∧
      getF t (F.LNK_LPRBS_ERR i) = satAdd (F.LNK_LPRBS_ERR i).top (getF s (F.LNK_LPRBS_ERR i)) 1)

/-- Bring-up of a port. Termination on at least 4 lanes starts the clock recovery, and less is LINK_ABSENT; each preset trial
steps the preset asked for; a stage met on 4 lanes leads to the next, CONFIRM to FEC, and FEC, after four sound codewords, to UP
with the partner's NONCE; an attempt that loses signal or whose stage has lasted its time fails, with LINK_ABSENT, or NO_RESOURCE
(log entry 162) where fewer than four lanes passed, and waits for its back-off, of 2^(n-1) ms up to half as long again after the
n-th, with 1024 ms as the base's limit; the back-off's end starts a new attempt; the loss of an UP port is counted. How long a
back-off is in its range is a free value. -/
def Obligations.PortBringUp : Prop :=
  (∀ dt p found s, PortOk (advance dt s) p → pState (advance dt s) p = pDetect → ∃ t, exec (.receiverDetect dt p found) s = .next t ∧
    (4 ≤ found → pState t p = pCdr) ∧
    (found < 4 → pState t p = pDetect ∧ getF t (F.LNK_PSTAT_CODE p) = Status.linkAbsent.code)) ∧
  (∀ p eyes sets cv disp s, PortOk s p → pState s p = pCdr → (port s p).trial < 8 → ∃ t, exec (.presetTrial p ⟨eyes, sets, cv, disp⟩) s = .next t ∧
    (port t p).trial = (port s p).trial + 1 ∧
    ((port s p).trial < 7 → ∀ l, l < 5 → ((port t p).lane l).preq = (port s p).trial + 1)) ∧
  (∀ p o s, PortOk s p → ∃ t, exec (.linkStageDone p o) s = .next t ∧
    (pState s p = pComma → 4 ≤ maskCount (passMask (port s p) o.lanes) → pState t p = pPolarity) ∧
    (pState s p = pConfirm → pState t p = pFec ∧ t.out = s.out ++ [.block p 2]) ∧
    (pState s p = pFec → (port s p).rsd = true → 4 ≤ (port s p).okRun →
      pState t p = pUp ∧ (port t p).partner = some (port s p).nonce ∧
      getF t (F.LNK_PCNT_UPS p) = satAdd (F.LNK_PCNT_UPS p).top (getF s (F.LNK_PCNT_UPS p)) 1)) ∧
  (∀ dt p los lanes s, PortOk (advance dt s) p → 2 ≤ pState (advance dt s) p → pState (advance dt s) p ≤ 9 →
    (los = true ∨ (port (advance dt s) p).since + stageLimit (pState (advance dt s) p) ≤ upNs (advance dt s)) →
    ∃ t, exec (.linkAttemptFail ⟨dt, p, los, lanes⟩) s = .next t ∧ pState t p = pBackoff ∧
    getF t (F.LNK_PSTAT_FAILSTAGE p) = pState (advance dt s) p ∧
    getF t (F.LNK_PSTAT_CODE p) = (if los = false ∧ pState (advance dt s) p ≤ pPolarity ∧
      maskCount (passMask (port (advance dt s) p) lanes) ≤ 3 then Status.noResource else Status.linkAbsent).code ∧
    (port t p).fails = (port (advance dt s) p).fails + 1 ∧
    upNs (advance dt s) + backoffNs ((port (advance dt s) p).fails + 1) ≤ (port t p).wake ∧
    2 * (port t p).wake ≤ 2 * upNs (advance dt s) + 3 * backoffNs ((port (advance dt s) p).fails + 1)) ∧
  (∀ dt p s, PortOk (advance dt s) p → pState (advance dt s) p = pBackoff → (port (advance dt s) p).wake ≤ upNs (advance dt s) →
    ∃ t, exec (.linkBackoffEnd dt p) s = .next t ∧ pState t p = pDetect) ∧
  (∀ p s, PortOk s p → portUp s p = true → ∃ t, exec (.chainDown p) s = .next t ∧ pState t p = pDetect ∧
    getF t (F.LNK_PCNT_DOWNS p) = satAdd (F.LNK_PCNT_DOWNS p).top (getF s (F.LNK_PCNT_DOWNS p)) 1 ∧
    getF t (F.LNK_PSTAT_CODE p) = Status.linkAbsent.code ∧ recalOn t p = none)

/-- The pannier and steering. The first lost lane of an UP port is spared for and its copy asked for; a second loss takes the port
down; a steer block whose complement agrees sets what the transmitter copies; the standing request goes out again after 256
blocks, at once from an originating transmitter and with the next block forwarded from any other; the receiver switches to the
copy of the spared lane once that copy is the one sent, and from a copy that nothing needs. -/
def Obligations.LanesSpared : Prop :=
  (∀ p n s, PortOk s p → portUp s p = true → n < 4 → (port s p).lost.testBit n = false → ∃ t, exec (.laneSpare p n) s = .next t ∧
    ((port s p).lost = 0 → getF s (F.LNK_PMAP_SPARED p) = 0 → getF s (F.LNK_PMAP_NOPAN p) = 0 →
      getF t (F.LNK_PMAP_SPARED p) = 1 ∧ getF t (F.LNK_PMAP_SPAREFOR p) = n ∧ (port t p).lost = 2 ^ n) ∧
    ((port s p).lost ≠ 0 ∨ getF s (F.LNK_PMAP_SPARED p) = 1 ∨ getF s (F.LNK_PMAP_NOPAN p) = 1 → pState t p = pDetect)) ∧
  (∀ p cmd s, PortOk s p → portUp s p = true → cmd < 256 → ∃ t, exec (.steerReceive p cmd (255 - cmd)) s = .next t ∧
    (port t p).copy = cmd % 4 ∧ t.out = s.out ++ [.pannier p (cmd % 4)]) ∧
  (∀ dt p n s, PortOk (advance dt s) p → portUp (advance dt s) p = true → (port (advance dt s) p).steer = some n →
    (port (advance dt s) p).steerAt + steerPeriod (advance dt s) ≤ upNs (advance dt s) →
    ∃ t, exec (.steerRepeat ⟨dt, p⟩) s = .next t ∧ (port t p).steerAt = upNs (advance dt s) ∧
      (fwdOn (advance dt s) p = false → t.out = (advance dt s).out ++ [.steer p n false]) ∧
      (fwdOn (advance dt s) p = true → (port t p).steerDue = true)) ∧
  (∀ p s, PortOk s p → portUp s p = true → getF s (F.LNK_PMAP_NOPAN p) = 0 → recalOn s p = none →
    ∃ t, exec (.pannierSwitch p) s = .next t ∧
      (getF s (F.LNK_PMAP_SPARED p) = 0 → getF t (F.LNK_PMAP_PANSEL p) = 0) ∧
      (getF s (F.LNK_PMAP_SPARED p) = 1 → getF s (F.LNK_PMAP_PANSRC p) = getF s (F.LNK_PMAP_SPAREFOR p) →
        getF s (F.LNK_PMAP_SPAREFOR p) < 4 → getF t (F.LNK_PMAP_PANSEL p) = 1 ∧
        getF t (F.LNK_LSTAT_LOGICAL (5 * p + physLane s p (getF s (F.LNK_PMAP_SPAREFOR p)))) = 7 ∧
        getF t (F.LNK_LSTAT_LOGICAL (5 * p + physLane s p 4)) = getF s (F.LNK_PMAP_SPAREFOR p)))

/-- An UP port's stream. A slip of the elastic buffer of a port that has one in its path recentres it and counts a slip and a
runt; an originating transmitter reseeds after 2^24 ns; a block that starts a frame or reseeds sets the descrambler to its seed,
and any other advances it by the symbols cut, inserts a symbol into a buffer below 6 or deletes one above 10, and loads the taps
of a lane that reverted; an adaptation window whose density is in the bounds takes its taps, as far as a receiver holds them, and
any other freezes the lane; a margin measurement is shown, ten good ones in a row keep the taps, and three bad ones revert them at
the next block; a change of the timing port is holdover until PLL_TX locks to it. -/
def Obligations.PortStream : Prop :=
  (∀ p cut s, PortOk s p → portUp s p = true → s.lnk.bypass ≠ some p → ∃ t, exec (.elasticSlip ⟨p, cut⟩) s = .next t ∧ (port t p).fill = 8 ∧
    getF t (F.LNK_PERR_SLIP p) = satAdd (F.LNK_PERR_SLIP p).top (getF s (F.LNK_PERR_SLIP p)) 1 ∧
    getF t (F.LNK_PERR_RUNT p) = satAdd (F.LNK_PERR_RUNT p).top (getF s (F.LNK_PERR_RUNT p)) 1) ∧
  (∀ dt p s, PortOk (advance dt s) p → portUp (advance dt s) p = true → fwdOn (advance dt s) p = false →
    (port (advance dt s) p).seeded + 2 ^ 24 ≤ upNs (advance dt s) → ∃ t, exec (.reseedTimer dt p) s = .next t ∧
      t.out = (advance dt s).out ++ [.block p 2] ∧ (port t p).seeded = upNs (advance dt s)) ∧
  (∀ p coms marks cut len fill cv disp s, PortOk s p → portUp s p = true → 3 ≤ coms →
    ∃ t, exec (.blockReceive p coms marks ⟨cut, len, fill, cv, disp⟩) s = .next t ∧
    (blockKind marks ≠ 3 → s.lnk.bypass ≠ some p →
      (port t p).fill = if fill < 6 then fill + 1 else if 10 < fill then fill - 1 else fill) ∧
    (∀ l y, ((port s p).lane l).reload = some y → ((port t p).lane l).taps = y ∧ ((port t p).lane l).reload = none) ∧
    (blockKind marks = 1 ∨ blockKind marks = 2 → (port t p).rxScr = some 0x3A1C5E97) ∧
    (blockKind marks = 0 ∨ blockKind marks = 3 → (port t p).rxScr = (port s p).rxScr.map (scrSkip (4 * cut)))) ∧
  (∀ p l diff taps s, PortOk s p → portUp s p = true → l < 5 → ∃ t, exec (.adaptWindow p l diff taps) s = .next t ∧
    ((port s p).rxScr.isSome = true → 4 * 40799 ≤ 10 * diff → 10 * diff ≤ 6 * 40799 → ((port s p).lane l).holdTo ≤ upNs s →
      heldByCal s p l = false → getF t (F.LNK_LSTAT_FROZEN (5 * p + l)) = 0 ∧ ((port t p).lane l).taps = tapsOf taps) ∧
    (10 * diff < 4 * 40799 ∨ 6 * 40799 < 10 * diff → getF t (F.LNK_LSTAT_FROZEN (5 * p + l)) = 1 ∧ t.lnk = s.lnk)) ∧
  (∀ p l ew eh s, PortOk s p → portUp s p = true → l < 5 → recalOn s p = none →
    ∃ t, exec (.marginMeasure p l ew eh) s = .next t ∧ getF t (F.LNK_LMARGIN_EW (5 * p + l)) = min 63 ew ∧
      getF t (F.LNK_LMARGIN_EH (5 * p + l)) = min 255 eh ∧
      (getF s F.LNK_ADAPTCFG_MINEW ≤ ew → getF s F.LNK_ADAPTCFG_MINEH ≤ eh → 9 ≤ ((port s p).lane l).goodRun →
        ((port t p).lane l).good = some ((port s p).lane l).taps) ∧
      (ew < getF s F.LNK_ADAPTCFG_MINEW ∨ eh < getF s F.LNK_ADAPTCFG_MINEH → 2 ≤ ((port s p).lane l).lowRun →
        ((port t p).lane l).reload = some (((port s p).lane l).good.getD ((port s p).lane l).upTaps) ∧
        ((port t p).lane l).taps = ((port s p).lane l).taps)) ∧
  (∀ s, blkOn s 0x0E = true → timingSource s ≠ s.lnk.source → ∃ t, exec .timingPortChange s = .next t ∧
    getF t F.LNK_TIMING_SRC = 5 ∧ t.lnk.source = timingSource s ∧
    getF t F.LNK_TIMING_SWITCHES = satAdd F.LNK_TIMING_SWITCHES.top (getF s F.LNK_TIMING_SWITCHES) 1) ∧
  (∀ s, blkOn s 0x0E = true → getF s F.LNK_TIMING_SRC = 5 → ∃ t, exec .timingPortLocked s = .next t ∧
    getF t F.LNK_TIMING_SRC = s.lnk.source % 2 ^ F.LNK_TIMING_SRC.width)

/-- Cells on the chain. The 16th codeword in error in a row takes the port down. While a tile forwards both ways, a codeword whose
syndrome is zero and whose header is good leaves by the other port as it came where its slot is not free, and is not taken where
the unit does not consume it; a free slot leaves as IDLE where no cell waits for insertion there. One whose header's check code
fails leaves as it came and waits as a candidate. A candidate that cannot be corrected is lost and counted, one that is the unit's
goes to it; a cell that has waited 1 ms for insertion is dropped and counted. -/
def Obligations.CellsForwarded : Prop :=
  (∀ dt p v raw cv disp s, PortOk (advance dt s) p → portUp (advance dt s) p = true → (port (advance dt s) p).rxScr = some v →
    ∃ t, exec (.cellForward dt p raw cv disp) s = .next t ∧
      (syndromeBad (rxBytes v raw cv) = true → (port (advance dt s) p).errRun = 15 → pState t p = pDetect) ∧
      (syndromeBad (rxBytes v raw cv) = false → blkOn (advance dt s) 0x0D = true → fwdOn (advance dt s) p = true →
        fwdOn (advance dt s) (1 - p) = true →
        (headerOk ((rxBytes v raw cv).take 224) = true → badHeader ((rxBytes v raw cv).take 224) = false →
          (slotEmpty (advance dt s) (typedCell (rxBytes v raw cv)) = false →
            t.out = (advance dt s).out ++ [.cell (1 - p) (rxBytes v raw cv)]) ∧
          (slotEmpty (advance dt s) (typedCell (rxBytes v raw cv)) = true → insCount (advance dt s) (1 - p) = 0 →
            t.out = (advance dt s).out ++ [.cell (1 - p) (zeros 240)]) ∧
          (consumes (advance dt s) (typedCell (rxBytes v raw cv)) = false → t.chn.rx = (advance dt s).chn.rx)) ∧
        (headerOk ((rxBytes v raw cv).take 224) = false → t.out = (advance dt s).out ++ [.cell (1 - p) (rxBytes v raw cv)] ∧
          t.chn.cand = (advance dt s).chn.cand ++ [⟨p, rxBytes v raw cv, stampNow (advance dt s)⟩]))) ∧
  (∀ y l s, blkOn s 0x0D = true → s.chn.cand = y :: l → y.port < 4 → ∃ t, exec .candidateCorrected s = .next t ∧ t.chn.cand = l ∧
    (correct y.cell = none → t.chn.rx = s.chn.rx ∧
      getF t (F.CHN_PERR_CAND y.port) = satAdd (F.CHN_PERR_CAND y.port).top (getF s (F.CHN_PERR_CAND y.port)) 1 ∧
      getF t (F.LNK_PFEC_UNCORR y.port) = satAdd (F.LNK_PFEC_UNCORR y.port).top (getF s (F.LNK_PFEC_UNCORR y.port)) 1) ∧
    (∀ w n, correct y.cell = some (w, n) → headerOk (w.take 224) = true → badHeader (w.take 224) = false →
      consumes s (w.take 224) = true → t.chn.rx = s.chn.rx ++ [⟨y.port, w.take 224, y.time⟩])) ∧
  (∀ dt p e s, p < 4 → blkOn (advance dt s) 0x0D = true →
    (advance dt s).chn.ins.find? (fun e => e.1 == p && e.2.at0 + 1000000 ≤ upNs (advance dt s)) = some e →
    ∃ t, exec (.insertQueueTimeout dt p) s = .next t ∧ t.chn.ins = (advance dt s).chn.ins.erase e ∧
      getF t (F.CHN_PERR_DROP p) = satAdd (F.CHN_PERR_DROP p).top (getF (advance dt s) (F.CHN_PERR_DROP p)) 1)

/-- Segments and roll-calls. On a sender a letter of one segment is complete at once; the first segment of a longer letter starts a
reassembly, of which there are at most 8; a reassembly that has waited 10 ms is given up and counted. A head roll-call with at most
511 hops gives the tile its postcode, CHAIN and position, and the port it came by as the head face. A sender sends a roll-call with
CHAIN and END of the port on every enabled port that is UP; when it does is the model's (log entry 149). -/
def Obligations.SegmentsAndRollCalls : Prop :=
  (∀ y x s, blkOn s 0x0D = true → takeRx s (fun c => cellKind c == 3 || cellKind c == 7) = some (y, x) →
    s.chn.reasm.find? (segOf y.cell) = none → segOk y.cell = true → ∃ t, exec .letterSegment s = .next t ∧
      (byteAt y.cell 9 = 1 → isTile s = false →
        t.chn.letters = s.chn.letters ++ [segLetter y (slice y.cell 12 (byteAt y.cell 10))]) ∧
      (byteAt y.cell 9 ≠ 1 → s.chn.reasm.length < 8 → isTile s = false ∨ bit (byteAt y.cell 11) 4 = false →
        t.chn.reasm.length = s.chn.reasm.length + 1 ∧ t.chn.letters = s.chn.letters)) ∧
  (∀ dt r s, blkOn (advance dt s) 0x0D = true →
    (advance dt s).chn.reasm.find? (fun r => r.at0 + 10000000 ≤ upNs (advance dt s)) = some r →
    ∃ t, exec (.reassemblyTimeout dt) s = .next t ∧ t.chn.reasm = (advance dt s).chn.reasm.erase r ∧
      getF t F.CHN_LSTAT_REASMTO = satAdd F.CHN_LSTAT_REASMTO.top (getF (advance dt s) F.CHN_LSTAT_REASMTO) 1) ∧
  (∀ s, blkOn s 0x0D = true → isSender s = true → ∃ t, exec .rollcallCell s = .next t ∧
    t.chn.nextLid = (s.chn.nextLid + 1) % 65536 ∧ ∀ p ∈ livePorts s, ∃ len, .cell p (mkCell 0xFFFE 8 false
      (rollcallBody (getF s (F.CHN_PORTCTL_CHAIN p)) (getF s F.TAN_CFG_RANK) 0 len s.chn.nextLid
        (isSet s (F.CHN_PORTCTL_END p)))) ∈ t.out) ∧
  (∀ y x s, blkOn s 0x0D = true → isSender s = false → takeRx s (fun c => cellKind c == 8) = some (y, x) → y.port < 2 →
    bit (bodyBE y.cell 0 1) 0 = false → bodyBE y.cell 2 2 ≤ 511 → ∃ t, exec .rollcallCell s = .next t ∧
      getF t F.CHN_POSTCODE_POSTCODE = 4096 * bits (bodyBE y.cell 0 1) 4 4 + bodyBE y.cell 2 2 ∧
      getF t F.CHN_POSTCODE_VALID = 1 ∧ getF t F.CHN_POSTCODE_SRC = 0 ∧ getF t (F.CHN_PORTCTL_HEADFACE y.port) = 1 ∧
      getF t (F.CHN_PORTCTL_HEADFACE (1 - y.port)) = 0)

/-- SEND and the inbox of a sender. An accepted SEND entry whose content can be read waits for its replies under the next LID; an
unsealed reply to a SEND of one unit, or LETTERTO ms, completes it; enabling the inbox clears its indices, RD is the host's to
write, and a letter that no SEND, ENROL or PUSH awaits is stored at WR, or counted where the ring is full or its surface is not
allocated; while the inbox is off it is lost. -/
def Obligations.SendsAndInbox : Prop :=
  (∀ host it x b z s, QueuesOk s → blkOn s 0x0D = true → coreTake s 0x40 = some (it, x) → sendWaits s it = false →
    sendCheck x it.entry = .ok → areaFetch x (leAt it.entry 8 2) (leAt it.entry 16 8) (leAt it.entry 6 2) host = (.ok b, z) →
    ((byteAt it.entry 5).testBit 0 = true → canSeal x (leAt it.entry 2 2) = true) → ∃ t, exec (.sendEntry host) s = .next t ∧
      t.chn.sends = x.chn.sends ++ [⟨it, x.chn.nextLid, leAt it.entry 2 2, byteAt it.entry 4, upNs x, 0, 0, 0xFF, false⟩] ∧
      t.chn.nextLid = (x.chn.nextLid + 1) % 65536) ∧
  (∀ l x y s, QueuesOk s → blkOn s 0x0D = true → isSender s = true → takeLetter s (fun l => s.chn.sends.any (awaits s l)) = some (l, x) →
    x.chn.sends.find? (awaits s l) = some y → l.lfl.testBit 0 = false → isBroadcast y.addr = false →
    ∃ t, exec .sendReply s = .next t ∧ t.chn.sends = s.chn.sends.erase y ∧ t.chn.letters = s.chn.letters.erase l) ∧
  (∀ dt y s, QueuesOk s → blkOn (advance dt s) 0x0D = true →
    (advance dt s).chn.sends.find? (fun x => x.sent + getF (advance dt s) F.CHN_CFG_LETTERTO * 1000000 ≤ upNs (advance dt s)) = some y →
    ∃ t, exec (.sendTimeout dt) s = .next t ∧ t.chn.sends = (advance dt s).chn.sends.erase y) ∧
  (∀ v s, WriteOk s R.CHN_INBOX (F.CHN_INBOX_EN.put v 1) → getF s F.CHN_INBOX_EN = 0 → ∃ t, exec (.inboxEnable v) s = .next t ∧
    getF t F.CHN_INBOX_EN = 1 ∧ t.word R.CHN_INBOXIDX = 0#32) ∧
  (∀ rd s, rd < 65536 → WriteOk s R.CHN_INBOXIDX (F.CHN_INBOXIDX_RD.put 0#32 rd) → ∃ t, exec (.inboxRdWrite rd) s = .next t ∧
    getF t F.CHN_INBOXIDX_RD = rd ∧ getF t F.CHN_INBOXIDX_WR = getF s F.CHN_INBOXIDX_WR) ∧
  (∀ l x s, blkOn s 0x0D = true → isSender s = true → takeLetter s (forInbox s) = some (l, x) →
    ∃ t, exec .inboxRecord s = .next t ∧ t.chn.letters = s.chn.letters.erase l ∧
      (isSet s F.CHN_INBOX_EN = false → t.regs = s.regs) ∧
      (isSet s F.CHN_INBOX_EN = true → surfOf s (getF s F.CHN_INBOX_HANDLE) ≠ none →
        msub 16 (getF s F.CHN_INBOXIDX_WR) (getF s F.CHN_INBOXIDX_RD) < inboxLen s →
        getF t F.CHN_INBOXIDX_WR = (getF s F.CHN_INBOXIDX_WR + 1) % 65536) ∧
      (isSet s F.CHN_INBOX_EN = true → surfOf s (getF s F.CHN_INBOX_HANDLE) = none ∨
          inboxLen s ≤ msub 16 (getF s F.CHN_INBOXIDX_WR) (getF s F.CHN_INBOXIDX_RD) →
        getF t F.CHN_INBOXIDX_WR = getF s F.CHN_INBOXIDX_WR ∧
        getF t F.CHN_LSTAT_INBOXFULL = satAdd F.CHN_LSTAT_INBOXFULL.top (getF s F.CHN_LSTAT_INBOXFULL) 1))

/-- Letters a tile carries out. REG_READ and REG_WRITE of right form carry out their entries in order and answer each; an entry
with an aligned offset below 2^24 reads or writes the register as the host does and answers its value or code; a letter of wrong
form is refused with ILLEGAL_VALUE. RING_FILL that passes its checks moves TAIL on by its entries; RING_READ answers the entries,
TAIL and RETIRE and leaves ring memory as it is; KEY_DROP empties its slot. -/
def Obligations.TileLetters : Prop :=
  (∀ l x s, LetterTaken s 1 l x → exec .regReadLetter s = .next (if regForm l.content = true then
    answer (regEntries false ((List.range (byteAt l.content 0)).map (fun i => slice l.content (4 + 8 * i) 8)) x).2 l .ok
      (regEntries false ((List.range (byteAt l.content 0)).map (fun i => slice l.content (4 + 8 * i) 8)) x).1
    else refuse x l .illegalValue)) ∧
  (∀ l x s, LetterTaken s 2 l x → exec .regWriteLetter s = .next (if regForm l.content = true then
    answer (regEntries true ((List.range (byteAt l.content 0)).map (fun i => slice l.content (4 + 8 * i) 8)) x).2 l .ok
      (regEntries true ((List.range (byteAt l.content 0)).map (fun i => slice l.content (4 + 8 * i) 8)) x).1
    else refuse x l .illegalValue)) ∧
  (∀ l x s, LetterTaken s 1 l x → regForm l.content = true → byteAt l.content 0 = 1 → beAt l.content 4 4 < 2 ^ 24 →
    beAt l.content 4 4 % 4 = 0 → exec .regReadLetter s = .next (answer (regRead x (beAt l.content 4 4)).2 l .ok
      (byte Status.ok.code :: zeros 3 ++ beBytes 4 (regRead x (beAt l.content 4 4)).1.toNat))) ∧
  (∀ l x s, LetterTaken s 2 l x → regForm l.content = true → byteAt l.content 0 = 1 → beAt l.content 4 4 < 2 ^ 24 →
    beAt l.content 4 4 % 4 = 0 → exec .regWriteLetter s =
      .next (answer (regWrite x srcLetter (beAt l.content 4 4) (BitVec.ofNat 32 (beAt l.content 8 4))).2 l .ok
        (byte (regWrite x srcLetter (beAt l.content 4 4) (BitVec.ofNat 32 (beAt l.content 8 4))).1.code :: zeros 3 ++
          beBytes 4 (beAt l.content 8 4)))) ∧
  (∀ l x s, LetterTaken s 3 l x → ringFillCheck x (beAt l.content 0 2) (beAt l.content 2 2) (byteAt l.content 4) = .ok →
    ∃ t, exec .ringFillLetter s = .next t ∧
      qTail t (beAt l.content 0 2) = (qTail s (beAt l.content 0 2) + byteAt l.content 4) % 65536 ∧ t.dram = s.dram) ∧
  (∀ l x s, LetterTaken s 4 l x → ringReadCheck x (beAt l.content 0 2) (beAt l.content 2 2) (byteAt l.content 4) = .ok →
    ∃ t, exec .ringReadLetter s = .next t ∧ t.ring = s.ring ∧ t.queues = s.queues ∧
      t = ringAnswer x l .ok (beAt l.content 0 2) (zeros 2 ++ (List.range (byteAt l.content 4)).flatMap (fun k =>
        ringRd s (slotAddr s (beAt l.content 0 2) (beAt l.content 2 2 + k)) 64))) ∧
  (∀ l x s, LetterTaken s 9 l x → l.content.length = 1 → byteAt l.content 0 ≤ 3 → ∃ t, exec .keyDropLetter s = .next t ∧
    keySlot t (byteAt l.content 0) = none ∧ fbit t F.CHN_KEYSTAT_VALID (byteAt l.content 0) = false)

/-- Steps and wraps of the time. TIME_WRAP takes the time over 2^60 once and counts the wrap; TIM_ADJ steps it by its signed
nanoseconds; ARM arms the reference, whose next edge sets the time to its value; a lost reference, and SYNC unused for LOSSUS, is
holdover; a FOLLOW sender uses SYNC from its FPORT only, steers within the limits of R357 and steps nothing while locked and near.
The increment a servo picks in those limits is a free value (log entry 7). -/
def Obligations.TimeSteps : Prop :=
  (∀ s, timeRuns s = true → s.time < 2 ^ 60 → 0 < getF s F.TIM_INC_INC → ∃ t, exec .timeWrap s = .next t ∧
    t.wraps = (s.wraps + 1) % 2 ^ 32 ∧ t.time < getF s F.TIM_INC_INC) ∧
  (∀ step s, step < 2 ^ 32 → WriteOk s R.TIM_ADJ (F.TIM_ADJ_STEP.put 0#32 step) → ∃ t, exec (.timeAdjStep step) s = .next t ∧
    (fullTime t : Int) = ((fullTime s : Int) + signed 32 step * 2 ^ 28) % (2 ^ 92 : Nat) ∧
    getF t F.TIM_STAT_STEPS = satAdd F.TIM_STAT_STEPS.top (getF s F.TIM_STAT_STEPS) 1) ∧
  (∀ v s, WriteOk s R.TIM_REFCFG (F.TIM_REFCFG_ARM.put v 1) → ∃ t, exec (.refArm v) s = .next t ∧ getF t F.TIM_REFCFG_ARMED = 1 ∧
    fullTime t = fullTime s) ∧
  (∀ dt eighths s, blkOn (advance dt s) 0x0F = true → steered (advance dt s) = true → hasRef (advance dt s) = true →
    isSet (advance dt s) F.TIM_REFCFG_ARMED = true →
    ∃ t, exec (.referenceEdge dt eighths (isSet (advance dt s) F.TIM_REFCFG_FALL)) s = .next t ∧
      fullTime t = (getF (advance dt s) F.TIM_REFVAL_VAL + getF (advance dt s) F.TIM_REFCFG_REFDLY) % 2 ^ 32 * 2 ^ 28 ∧
      servo t = tAcquire ∧ getF t F.TIM_REFCFG_ARMED = 0) ∧
  (∀ dt s, blkOn (advance dt s) 0x0F = true → steered (advance dt s) = true → hasRef (advance dt s) = true →
    servo (advance dt s) = tLocked →
    (advance dt s).tim.lastUsed * 2 ^ 25 + 3 * refPeriod (advance dt s) ≤ upNs (advance dt s) * 2 ^ 25 →
    ∃ t, exec (.referenceLoss dt) s = .next t ∧ servo t = tHoldover ∧ t.tim.holdFrom = some (upNs (advance dt s))) ∧
  (∀ dt s, blkOn (advance dt s) 0x0F = true → steered (advance dt s) = true →
    (isTile (advance dt s) = true ∨ isSet (advance dt s) F.TIM_CFG_ROLE = false) →
    (servo (advance dt s) = tAcquire ∨ servo (advance dt s) = tLocked) →
    (advance dt s).tim.lastUsed + 1000 * getF (advance dt s) F.TIM_SYNCCFG_LOSSUS ≤ upNs (advance dt s) →
    ∃ t, exec (.syncLoss dt) s = .next t ∧ servo t = tHoldover) ∧
  (∀ y x s, blkOn s 0x0F = true → takeRx s (isPostmark 0) = some (y, x) → isTile s = false → isSet s F.TIM_CFG_ROLE = false →
    ∃ t, exec .syncPostmark s = .next t ∧
      (y.port ≠ getF s F.TIM_CFG_FPORT → t.time = s.time ∧
        getF t F.TIM_SSTAT_SYNCDROP = satAdd F.TIM_SSTAT_SYNCDROP.top (getF s F.TIM_SSTAT_SYNCDROP) 1) ∧
      (y.port = getF s F.TIM_CFG_FPORT → syncWraps y = s.wraps → servo s = tLocked →
        (syncOffset s y).natAbs ≤ 50 * 65536 → s.tim.slew = none → t.time = s.time ∧ servo t = tLocked ∧
        t.tim.lastUsed = upNs s ∧ incLow ≤ getF t F.TIM_INC_INC ∧ getF t F.TIM_INC_INC ≤ incHigh))

/-- Link delays. A PREQ that is due on an UP port is sent, one per port and sequence number, and kept with when it was sent: a
sender stamps it as it leaves, a tile puts it in its insertion queue. One received is answered with a PRESP that carries when it
came and when it left. The first delay of a port is taken from the PRESP that matches a request that has left; one with no answer
1 ms after it was sent is given up and counted. -/
def Obligations.LinkDelays : Prop :=
  (∀ dt p s, p < 4 → blkOn (advance dt s) 0x0F = true → portUp (advance dt s) p = true →
    preqDue (advance dt s) p ≤ upNs (advance dt s) → ∃ t, exec (.preqSend dt p) s = .next t ∧
    t.tim.pdSeq = ((advance dt s).tim.pdSeq + 1) % 65536 ∧
    t.tim.preq = (advance dt s).tim.preq ++ [⟨p, (advance dt s).tim.pdSeq, upNs (advance dt s),
      if isTile (advance dt s) = true then none else some (stampNow (advance dt s))⟩] ∧
    (isTile (advance dt s) = false → t.out = (advance dt s).out ++ [.cell p (stampCell .ta (stampNow (advance dt s))
      (postmark false 1 0 (advance dt s).tim.pdSeq 0 0 0 0 0))])) ∧
  (∀ y x s, blkOn s 0x0F = true → takeRx s (isPostmark 1) = some (y, x) → ∃ t, exec .preqPostmark s = .next t ∧
    (isTile s = false → t.out = s.out ++ [.cell y.port (stampCell .ta (stampNow s)
      (postmark false 2 0 (pmSeq y.cell) 0 0 0 y.time 0))]) ∧
    (isTile s = true → insCount s y.port < 32 → t.chn.ins = s.chn.ins ++
      [(y.port, ⟨0, postmark true 2 0 (pmSeq y.cell) 0 0 0 y.time 0, .ta, upNs s⟩)])) ∧
  (∀ y x r s, blkOn s 0x0F = true → takeRx s (isPostmark 2) = some (y, x) → y.port < 4 →
    s.tim.preq.find? (fun r => r.port == y.port && r.seq == pmSeq y.cell) = some r → ∃ t, exec .prespPostmark s = .next t ∧
      t.tim.preq = s.tim.preq.erase r ∧
      (r.t1 ≠ none → (tget pdReset s.tim.pd y.port).vals = [] → getF t (F.TIM_PDLY_COUNT y.port) = 1)) ∧
  (∀ dt p r s, blkOn (advance dt s) 0x0F = true → (advance dt s).tim.preq.find?
      (fun r => r.port == p && decide (r.since + 1000000 ≤ upNs (advance dt s))) = some r → ∃ t, exec (.preqLost ⟨dt, p⟩) s = .next t ∧
    t.tim.preq = (advance dt s).tim.preq.erase r ∧
    getF t F.TIM_SSTAT_PDLOST = satAdd F.TIM_SSTAT_PDLOST.top (getF (advance dt s) F.TIM_SSTAT_PDLOST) 1)

/-- Pulse generators and captures. EN 0 to 1 starts a generator at the next instant of its START with its count cleared; EN 1 to 0
stops it; an instant that is due is counted, after which a periodic one goes on to the next and a one-shot stops; the cadence
generator is TIM_CFG's, and on a tile it is owned. A captured edge 8 ns or more after the last is stamped in its queue of 16,
where a full queue counts an overflow, and a read of TIM_CAPLO takes the oldest stamp. -/
def Obligations.GeneratorsAndCaptures : Prop :=
  (∀ dt g v s, g < 16 → WriteOk (advance dt s) (R.TIM_PGCFG g) ((F.TIM_PGCFG_EN g).put v 1) →
    getF (advance dt s) (F.TIM_PGCFG_EN g) = 0 → ∃ t, exec (.generatorEnable dt g v) s = .next t ∧ getF t (F.TIM_PGCFG_EN g) = 1 ∧
      getF t (F.TIM_PGSTAT_COUNT g) = 0 ∧ gen t g = ⟨0, extOf (advance dt s) (getF (advance dt s) (F.TIM_PGSTART_S g)),
        getF (advance dt s) (F.TIM_PGPER_PER g) * 2 ^ 24 + getF (advance dt s) (F.TIM_PGPERF_PERF g), 0⟩) ∧
  (∀ dt g v s, g < 16 → WriteOk (advance dt s) (R.TIM_PGCFG g) ((F.TIM_PGCFG_EN g).put v 0) →
    getF (advance dt s) (F.TIM_PGCFG_EN g) = 1 → ∃ t, exec (.generatorDisable dt g v) s = .next t ∧
      getF t (F.TIM_PGCFG_EN g) = 0) ∧
  (∀ dt g slots s, QueuesOk s → g < 16 → blkOn (advance dt s) 0x0F = true → genDue (advance dt s) g = true → (gen (advance dt s) g).owner = 0 →
    ∃ t, exec (.generatorPulse dt g slots) s = .next t ∧
      getF t (F.TIM_PGSTAT_COUNT g) = (getF (advance dt s) (F.TIM_PGSTAT_COUNT g) + 1) % 65536 ∧
      (gen t g).k = (gen (advance dt s) g).k + 1 ∧
      getF t (F.TIM_PGCFG_EN g) = getF (advance dt s) (F.TIM_PGCFG_PERIODIC g)) ∧
  (∀ g v s, g < 16 → WriteOk s R.TIM_CFG (F.TIM_CFG_CADGEN.put v g) → ∃ t, exec (.cadgenWrite g v) s = .next t ∧
    getF t F.TIM_CFG_CADGEN = g ∧ (isTile s = true → getF t (F.TIM_PGCFG_OWNED g) = 1)) ∧
  (∀ dt c eighths fall s, c < 4 → blkOn (advance dt s) 0x0F = true → isSet (advance dt s) (F.TIM_CAPCFG_EN c) = true →
    (getF (advance dt s) (F.TIM_CAPCFG_EDGE c) = 2 ∨ getF (advance dt s) (F.TIM_CAPCFG_EDGE c) = b2n fall) →
    (∀ l, (cap (advance dt s) c).last = some l → l + 64 ≤ 8 * upNs (advance dt s) + eighths) → ∃ t, exec (.captureEdge dt c eighths fall) s = .next t ∧
      ((cap (advance dt s) c).queue.length < 16 → (cap t c).queue = (cap (advance dt s) c).queue ++
        [⟨timeNs (advance dt s), eighths % 8, fall, (advance dt s).wraps % 256⟩] ∧
        getF t (F.TIM_CAPCFG_LEVEL c) = (cap (advance dt s) c).queue.length + 1) ∧
      (16 ≤ (cap (advance dt s) c).queue.length → (cap t c).queue = (cap (advance dt s) c).queue ∧
        getF t (F.TIM_CAPCFG_OVF c) = satAdd (F.TIM_CAPCFG_OVF c).top (getF (advance dt s) (F.TIM_CAPCFG_OVF c)) 1)) ∧
  (∀ c y l s, c < 4 → barOpen s = true → readsReset s (R.TIM_CAPLO c) = false → (cap s c).queue = y :: l →
    ∃ t, exec (.timCapRead c) s = .next t ∧ (cap t c).queue = l ∧ getF t (F.TIM_CAPHI_VALID c) = 1 ∧
      t.out = s.out ++ [.readData (R.TIM_CAPLO c) (y.ns % 2 ^ 32)])

/-- The tandem. A tile's claim of a port is live from a beacon of a running sender that came by it until 300 µs after, and dies with
one that is not running. A sender that is enabled stands by with its heartbeat generator. A beacon of its own rank is a clash, one
of another rank is its peer's claim, heard in the window that holds its stamp; a higher active claim sends it back to standby. TAKE
makes it active with the epoch after the later of its own and its peer's; a reversion's hold that has run out, and the third window
without an active peer while FRT is enabled, make it active; without FRT that window sets NOTAKE. RENUM gives it the epoch written;
disabling it turns it off and ends its snapshots. -/
def Obligations.TandemClaims : Prop :=
  (∀ y x s, blkOn s 0x10 = true → isTile s = true → takeRx s (fun c => cellKind c == 6) = some (y, x) → beaconOk y.cell = true →
    y.port < 2 → ∃ t, exec .beaconCell s = .next t ∧ tileLive t y.port = bcRunning y.cell ∧
      (bcRunning y.cell = true → tileClaim t y.port = bcClaim y.cell)) ∧
  (∀ dt p s, p < 2 → blkOn (advance dt s) 0x10 = true → isTile (advance dt s) = true →
    tget 0 (advance dt s).tan.seen p + 300000 ≤ upNs (advance dt s) → ∃ t, exec (.claimExpiry dt p) s = .next t ∧
      tileLive t p = false) ∧
  (∀ y x s, QueuesOk s → blkOn s 0x10 = true → isSender s = true → takeRx s (fun c => cellKind c == 6) = some (y, x) → beaconOk y.cell = true →
    ∃ t, exec .peerBeacon s = .next t ∧
      (claimRank (bcClaim y.cell) = getF s F.TAN_CFG_RANK → getF t F.TAN_STAT_CLASH = 1 ∧ tanState t = tanState s) ∧
      (claimRank (bcClaim y.cell) ≠ getF s F.TAN_CFG_RANK → getF t F.TAN_PEER_CLAIM = bcClaim y.cell ∧
        (tanState s = tanOff → tanState t = tanOff) ∧
        (tanState s ≠ tanOff → s.tan.winAt.any (nsBefore (cellNs y)) = false →
          ∃ h ∈ t.tan.heard, h.port = y.port ∧ h.ns = cellNs y ∧ h.act.isSome = (bcActive y.cell && bcRunning y.cell)) ∧
        (bcActive y.cell = true → bcRunning y.cell = true → tanState s = tanActive →
          claimHigher (bcClaim y.cell) (ownClaim s) = true → tanState t = tanStandby))) ∧
  (∀ v s, QueuesOk s → WriteOk s R.TAN_CFG (F.TAN_CFG_EN.put v 1) → getF s F.TAN_CFG_EN = 0 → ∃ t, exec (.tanEnable v) s = .next t ∧
    tanState t = tanStandby ∧ getF t F.TAN_CFG_EN = 1 ∧ (gen t (getF t F.TAN_CFG_HBGEN)).owner = 2) ∧
  (∀ v s, QueuesOk s → WriteOk s R.TAN_CFG (F.TAN_CFG_EN.put v 0) → getF s F.TAN_CFG_EN = 1 → ∃ t, exec (.tanDisable v) s = .next t ∧
    tanState t = tanOff ∧ getF t F.TAN_CFG_EN = 0 ∧ t.tan.snaps = []) ∧
  (∀ dt s, QueuesOk s → blkOn (advance dt s) 0x10 = true → isSet (advance dt s) F.TAN_CFG_EN = true →
    genDue (advance dt s) (getF (advance dt s) F.TAN_CFG_HBGEN) = true → ∃ t, exec (.heartbeatPulse dt) s = .next t ∧
      t.chn.hbseq = ((advance dt s).chn.hbseq + 1) % 2 ^ 32 ∧
      (∀ h ∈ t.tan.heard, nsBefore h.ns (instantNs (genNext (advance dt s) (getF (advance dt s) F.TAN_CFG_HBGEN))) = false) ∧
      t.tan.winAt = some (instantNs (genNext (advance dt s) (getF (advance dt s) F.TAN_CFG_HBGEN))) ∧
      ((advance dt s).tan.winAt.isSome = true → tanState (advance dt s) = tanStandby → (advance dt s).chn.rx = [] →
        (∀ h ∈ (advance dt s).tan.heard, h.act = none) → 2 ≤ (advance dt s).tan.noAct →
        (frtEn (advance dt s) = true → tanState t = tanActive) ∧
        (frtEn (advance dt s) = false → tanState t = tanStandby ∧ getF t F.TAN_STAT_NOTAKE = 1))) ∧
  (∀ v s, QueuesOk s → WriteOk s R.TAN_CTL (F.TAN_CTL_TAKE.put v 1) → ∃ t, exec (.tanTake v) s = .next t ∧ tanState t = tanActive ∧
    getF t F.TAN_CLAIM_EPOCH = ((if getF s F.TAN_PEER_CLAIM = 0 then getF s F.TAN_CLAIM_EPOCH
      else laterEpoch (getF s F.TAN_CLAIM_EPOCH) (claimEpoch (getF s F.TAN_PEER_CLAIM))) + 1) % 2 ^ 24 ∧
    getF t F.TAN_STAT_TAKEOVERS = satAdd F.TAN_STAT_TAKEOVERS.top (getF s F.TAN_STAT_TAKEOVERS) 1) ∧
  (∀ dt f s, QueuesOk s → blkOn (advance dt s) 0x10 = true → (advance dt s).tan.holdFrom = some f →
    f + getF (advance dt s) F.TAN_CFG_HOLDS * 1000000000 ≤ upNs (advance dt s) → returnOk (advance dt s) = true →
    ∃ t, exec (.revertHoldExpiry dt) s = .next t ∧ tanState t = tanActive ∧ t.tan.holdFrom = none) ∧
  (∀ epoch s, QueuesOk s → epoch < 2 ^ 24 → WriteOk s R.TAN_RENUM (F.TAN_RENUM_EPOCH.put 0#32 epoch) →
    ∃ t, exec (.tanRenum epoch) s = .next t ∧ getF t F.TAN_CLAIM_EPOCH = epoch ∧ tanState t = tanActive)

/-- Snapshots. An accepted SNAP entry whose data can be read goes out under the generation after the last one seen, and its commit
is repeated 1 s after it was sent last while that generation is the last seen, and not before; on the way in a part or a commit of
a new generation that is not ignored is staged where nothing is, an ignored one changes nothing of TAN's staging, and one whose
other parts do not come within 20 ms of its commit fails and is counted. -/
def Obligations.Snapshots : Prop :=
  (∀ host it x b z s, QueuesOk s → blkOn s 0x10 = true → s.tan.snaps = [] → coreTake s 0x48 = some (it, x) →
    snapWaits s it = false → snapCheck x it.entry = .ok →
    areaFetch x (leAt it.entry 2 2) (leAt it.entry 8 8) (leAt it.entry 4 4) host = (.ok b, z) →
    ((upPorts x).filter (fun p => (byteAt it.entry 1).testBit p)).isEmpty = false → ∃ t, exec (.snapEntry host) s = .next t ∧
      getF t F.TAN_SNAPSEEN_GEN = (getF x F.TAN_SNAPSEEN_GEN + 1) % 2 ^ 32 ∧
      t.tan.sent = some ((getF x F.TAN_SNAPSEEN_GEN + 1) % 2 ^ 32, (chunksOf 6144 2731 b).length, leAt it.entry 4 4,
        fit 64 (Config.sha512 b)) ∧ t.tan.sentAt = upNs x) ∧
  (∀ dt gen npart len digest s, blkOn (advance dt s) 0x10 = true →
    (advance dt s).tan.sent = some (gen, npart, len, digest) → ∃ t, exec (.snapCommitRepeat dt) s = .next t ∧
      (gen = getF (advance dt s) F.TAN_SNAPSEEN_GEN → (advance dt s).tan.sentAt + 1000000000 ≤ upNs (advance dt s) →
        t.tan.sentAt = upNs (advance dt s) ∧ t.chn.nextLid = ((advance dt s).chn.nextLid + 1) % 65536 ∧
        t = sendLetter { advance dt s with
            tan := { (advance dt s).tan with sentAt := upNs (advance dt s) }
            chn := { (advance dt s).chn with nextLid := ((advance dt s).chn.nextLid + 1) % 65536 } }
          (livePorts (advance dt s)) 0xFFFE 0x0D (advance dt s).chn.nextLid false true (commitContent gen npart len digest)) ∧
      (gen ≠ getF (advance dt s) F.TAN_SNAPSEEN_GEN ∨ upNs (advance dt s) < (advance dt s).tan.sentAt + 1000000000 →
        t = advance dt s)) ∧
  (∀ host l x s, QueuesOk s → blkOn s 0x10 = true → takeLetter s (fun l => l.ltype == 0x0C && isSnapLetter l) = some (l, x) →
    ∃ t, exec (.snapPartLetter host) s = .next t ∧ t.chn.letters = s.chn.letters.erase l ∧
      (snapIgnored s (beAt l.content 0 4) = true → t.tan.staging = s.tan.staging ∧ t.dram = s.dram) ∧
      (snapIgnored s (beAt l.content 0 4) = false → s.tan.staging = none → beAt l.content 8 4 ≤ bankSize s →
        beAt l.content 4 2 < beAt l.content 6 2 → surfOf s (getF s F.TAN_SNAPCFG_HANDLE) ≠ none →
        t.tan.staging = some ⟨beAt l.content 0 4, beAt l.content 6 2, beAt l.content 8 4, [beAt l.content 4 2], none⟩)) ∧
  (∀ host l x s, QueuesOk s → blkOn s 0x10 = true → commitGoes s = false →
    takeLetter s (fun l => l.ltype == 0x0D && isSnapLetter l) = some (l, x) →
    ∃ t, exec (.snapCommitLetter host) s = .next t ∧ t.chn.letters = s.chn.letters.erase l ∧
      (snapIgnored s (beAt l.content 0 4) = true → t.tan.staging = s.tan.staging) ∧
      (snapIgnored s (beAt l.content 0 4) = false → s.tan.staging = none →
        t.tan.staging = some ⟨beAt l.content 0 4, beAt l.content 4 2, beAt l.content 8 4, [],
          some (beAt l.content 4 2, beAt l.content 8 4, slice l.content 16 64, upNs s)⟩)) ∧
  (∀ dt g npart len digest c s, QueuesOk s → blkOn (advance dt s) 0x10 = true → (advance dt s).tan.staging = some g →
    g.commit = some (npart, len, digest, c) → commitReady (advance dt s) = false → c + 20000000 ≤ upNs (advance dt s) → ∃ t, exec (.snapWaitTimeout dt) s = .next t ∧
      t.tan.staging = none ∧
      getF t F.TAN_SNAPSTAT_FAILS = satAdd F.TAN_SNAPSTAT_FAILS.top (getF (advance dt s) F.TAN_SNAPSTAT_FAILS) 1)

/-- Runs and aborts at a tile. A CLEAR of the accepted stream that fits, is fresh and whose check code agrees is noted as written;
one while runs must be sealed, and a run that does not fit, is counted as bad; a sealed run without a key in its slot is counted;
a cell of another port's stream changes nothing. An ABORT of the accepted claim, before the frame's commit instant, empties what
was received of the frame. -/
def Obligations.RunsAndAborts : Prop :=
  (∀ y x s, TileCell s (fun c => cellKind c == 1 || cellKind c == 2) y x → ∃ t, exec .runCell s = .next t ∧
    ((acceptedFor s (runFrame y.cell)).1 ≠ y.port → t = x) ∧
    ((acceptedFor s (runFrame y.cell)).1 = y.port → cellKind y.cell = 2 → isSet s F.CHN_CFG_SEALRUN = true →
      getF t F.CHN_RSTAT_BADRUN = satAdd F.CHN_RSTAT_BADRUN.top (getF s F.CHN_RSTAT_BADRUN) 1) ∧
    ((acceptedFor s (runFrame y.cell)).1 = y.port → cellKind y.cell = 1 → runFits s y.cell = false →
      getF t F.CHN_RSTAT_BADRUN = satAdd F.CHN_RSTAT_BADRUN.top (getF s F.CHN_RSTAT_BADRUN) 1) ∧
    ((acceptedFor s (runFrame y.cell)).1 = y.port → cellKind y.cell = 1 → runFits s y.cell = true →
      keySlot s (runSlot y.cell) = none →
      getF t F.CHN_RSTAT_NOKEY = satAdd F.CHN_RSTAT_NOKEY.top (getF s F.CHN_RSTAT_NOKEY) 1 ∧ t.dram = s.dram) ∧
    (∀ m l pix, (acceptedFor s (runFrame y.cell)).1 = y.port → cellKind y.cell = 2 → isSet s F.CHN_CFG_SEALRUN = false →
      runFits s y.cell = true → s.lmp.mode = some m → lastCommitted s = some l → mafter 32 (runFrame y.cell) l = true →
      runOpen y.cell none = some pix → (runFrame y.cell, runWord y.cell) ∈ t.chn.written)) ∧
  (∀ y x s, TileCell s (fun c => cellKind c == 5) y x →
    acceptedFor s (bodyBE y.cell 0 4) = (y.port, bodyBE y.cell 4 4) → commitPast s (bodyBE y.cell 0 4) = false →
    (∀ m st, modeOf s (bodyBE y.cell 0 4) = some (m, st) →
      (stampExt s y.time : Int) * 2 ^ 8 < commitAt m st (bodyBE y.cell 0 4)) →
    (∀ l, lastCommitted s = some l → mafter 32 (bodyBE y.cell 0 4) l = true) → ∃ t, exec .abortCell s = .next t ∧
      bodyBE y.cell 0 4 ∈ t.chn.aborted ∧ ∀ f ∈ t.lmp.frames, f.n = bodyBE y.cell 0 4 → f.buf = none ∧ f.runs = [])

/-- Frames at a tile. The first MODE letter of the accepted claim is in force at once, with the cadence generator taken, and one
of a wrong form is refused; at its cadence a frame's stream is chosen; after its commit instant no abort up to the frame is
remembered and, while LMP is disabled, no frame up to it is held; at a slot's latch instant the slot is done, what was latched
goes out, dark where it is late or not at all where a step passed over it, and a late slot is counted; a curve that can be read is
in use at once while LMP is disabled and pending while it is enabled. -/
def Obligations.TileFrames : Prop :=
  (∀ l x s, blkOn s 0x11 = true → takeLetter s (fun l => l.ltype == 5) = some (l, x) → ∃ t, exec .modeLetter s = .next t ∧
    (l.content.length ≠ 32 ∨ allZero (slice l.content 5 3) = false →
      getF t F.CHN_LSTAT_REFUSED = satAdd F.CHN_LSTAT_REFUSED.top (getF s F.CHN_LSTAT_REFUSED) 1 ∧
      t.lmp = s.lmp) ∧
    (l.content.length = 32 → allZero (slice l.content 5 3) = true → (lastChoice s).1 ≠ 3 →
      claimRank (lastChoice s).2 = l.rank → s.lmp.mode = none →
      t.lmp.mode = some (letterMode l.content) ∧ (gen t (tileGen t)).owner = 3 ∧ getF t F.LMP_MSTAT_MODE = 1)) ∧
  (∀ dt m s, QueuesOk s → blkOn (advance dt s) 0x11 = true → (advance dt s).lmp.mode = some m → (advance dt s).lmp.pend = none →
    (advance dt s).chn.rx = [] →
    (gen (advance dt s) (tileGen (advance dt s))).owner = 3 → genDue (advance dt s) (tileGen (advance dt s)) = true →
    ∃ t, exec (.tileCadence dt) s = .next t ∧
      t.lmp.cad = (m.e + (gen (advance dt s) (tileGen (advance dt s))).k) % 2 ^ 32 ∧
      (gen t (tileGen t)).k = (gen (advance dt s) (tileGen (advance dt s))).k + 1 ∧
      (chosenFor t t.lmp.cad).map Prod.fst = some (bestPort (advance dt s))) ∧
  (∀ dt m st s, QueuesOk s → blkOn (advance dt s) 0x11 = true → modeOf (advance dt s) (advance dt s).lmp.nextA = some (m, st) →
    commitAt m st (advance dt s).lmp.nextA ≤ nowFine (advance dt s) →
    ∃ t, exec (.commitInstant dt) s = .next t ∧
      (∀ k ∈ t.chn.aborted, mafter 32 k (advance dt s).lmp.nextA = true) ∧
      (isSet (advance dt s) F.LMP_CTL_EN = false → ∀ g ∈ t.lmp.frames, mafter 32 g.n (advance dt s).lmp.nextA = true) ∧
      ((advance dt s).lmp.prev = none → t.lmp.prev = none)) ∧
  (∀ dt late h rest s, QueuesOk s → blkOn (advance dt s) 0x11 = true → (advance dt s).lmp.shows = h :: rest →
    slotAt (advance dt s) h h.slot ≤ nowFine (advance dt s) → h.slot + 1 < h.upto → ∃ t, exec (.slotLatch dt late) s = .next t ∧
      t.lmp.shows = { h with slot := h.slot + 1, sent := false, late := false } :: rest ∧ t.spk.latched = none ∧
      (passedOver (advance dt s) (slotAt (advance dt s) h h.slot) = true → t.spk.emission = none) ∧
      (passedOver (advance dt s) (slotAt (advance dt s) h h.slot) = false → t.spk.emission = (advance dt s).spk.latched.map
        (fun e => { e with dark := e.dark || (if h.sent then h.late else late), start := upNs (advance dt s) })) ∧
      ((if h.sent then h.late else late) = true → passedOver (advance dt s) (slotAt (advance dt s) h h.slot) = false →
        getF t F.LMP_ERR_SLOTLATE = satAdd F.LMP_ERR_SLOTLATE.top (getF (advance dt s) F.LMP_ERR_SLOTLATE) 1)) ∧
  (∀ host it x b z s, QueuesOk s → blkOn s 0x11 = true → coreTake s 0x50 = some (it, x) → lmpWaits s it = false →
    lmpCurveCheck x it.entry = .ok → areaFetch x (leAt it.entry 2 2) (leAt it.entry 8 8) 16384 host = (.ok b, z) →
    curveBad 0 ((List.range 4096).map (fun i => leAt b (4 * i) 4)) = none → ∃ t, exec (.lmpCurveLoad host) s = .next t ∧
      (isSet x F.LMP_CTL_EN = false → (byteAt it.entry 1, (List.range 4096).map (fun i => leAt b (4 * i) 4)) ∈ t.lmp.curves) ∧
      (isSet x F.LMP_CTL_EN = true → t.lmp.curves = x.lmp.curves ∧
        ⟨byteAt it.entry 1, it, (List.range 4096).map (fun i => leAt b (4 * i) 4)⟩ ∈ t.lmp.loads))

/-- Enabling, dimming and service at a tile. Enabling LMP forgets the frames committed before; disabling it takes LAMP_EN low at
once; a write of LMP_DIM arms a ramp to its target, which follows LMP_DIMFRM until it starts (log entry 88), or starts at the next
commit instant where its frame's has passed; a short press of SVC_N turns the locator over, a long hold starts the self-test and
ends the locator, which ends after 30 s by itself, as the self-test does after 16 s. -/
def Obligations.TileControls : Prop :=
  (∀ v s, QueuesOk s → WriteOk s R.LMP_CTL (F.LMP_CTL_EN.put v 1) → getF s F.LMP_CTL_EN = 0 → ∃ t, exec (.lmpEnable v) s = .next t ∧
    getF t F.LMP_CTL_EN = 1 ∧ t.lmp.last = none ∧ t.lmp.front = none ∧ t.lmp.miss = 0 ∧ t.lmp.mode = s.lmp.mode) ∧
  (∀ v s, QueuesOk s → WriteOk s R.LMP_CTL (F.LMP_CTL_EN.put v 0) → getF s F.LMP_CTL_EN = 1 → ∃ t, exec (.lmpDisable v) s = .next t ∧
    getF t F.LMP_CTL_EN = 0 ∧ t.lmp.mode = s.lmp.mode ∧ t.lmp.lampEn = false) ∧
  (∀ dt v s, WriteOk (advance dt s) R.LMP_DIM v → ∃ t, exec (.dimWrite dt v) s = .next t ∧
    (modeOf (advance dt s) (getF (advance dt s) F.LMP_DIMFRM_F0) = none →
      t.lmp.dimNext = some ⟨0, F.LMP_DIM_TARGET.get v, F.LMP_DIM_FRAMES.get v, none⟩) ∧
    (∀ m st, modeOf (advance dt s) (getF (advance dt s) F.LMP_DIMFRM_F0) = some (m, st) →
      commitAt m st (getF (advance dt s) F.LMP_DIMFRM_F0) ≤ nowFine (advance dt s) →
      t.lmp.dimNext = some ⟨0, F.LMP_DIM_TARGET.get v, F.LMP_DIM_FRAMES.get v, some s.lmp.nextA⟩ ∧
        getF t F.LMP_DIMNOW_LATE = 1)) ∧
  (∀ dt s, blkOn (advance dt s) 0x11 = true → isReady (advance dt s) = true → getF (advance dt s) F.LMP_TPCFG_SELF = 0 →
    ∃ t, exec (.svcPress dt) s = .next t ∧ getF t F.LMP_TPCFG_LOC = 1 - getF (advance dt s) F.LMP_TPCFG_LOC) ∧
  (∀ dt s, QueuesOk s → blkOn (advance dt s) 0x11 = true → isReady (advance dt s) = true → getF (advance dt s) F.LMP_TPCFG_SELF = 0 →
    ((advance dt s).lmp.mode ≠ none ∨ selfFits (advance dt s) = true) → ∃ t, exec (.svcLongHold dt) s = .next t ∧
      getF t F.LMP_TPCFG_SELF = 1 ∧ getF t F.LMP_TPCFG_LOC = 0 ∧ t.lmp.locAt = none ∧
      t.lmp.selfAt = some (upNs (advance dt s))) ∧
  (∀ dt f s, blkOn (advance dt s) 0x11 = true → (advance dt s).lmp.locAt = some f → f + 30000000000 ≤ upNs (advance dt s) →
    ∃ t, exec (.locatorEnd dt) s = .next t ∧ getF t F.LMP_TPCFG_LOC = 0 ∧ t.lmp.locAt = none) ∧
  (∀ dt f s, blkOn (advance dt s) 0x11 = true → (advance dt s).lmp.selfAt = some f → f + 16000000000 ≤ upNs (advance dt s) →
    ∃ t, exec (.selfTestEnd dt) s = .next t ∧ getF t F.LMP_TPCFG_SELF = 0 ∧ t.lmp.selfAt = none)

/-- Spokes. Enabling SPK starts every configured spoke's bring-up and disabling it turns all off; a spoke in FAULT starts again
after 1 s; the poll, once per second, reads STAT of every driver of a spoke in RUN that has no read under way; RELOAD writes ICODE
to each of them, at once or in the next management window. An answer in the enumeration notes the driver and goes on; a STAT
answer counts the driver's CRC errors; an answer that has not come 20 µs after its read is asked for again twice, and then a
driver in RUN faults its spoke with LINK_ABSENT. -/
def Obligations.Spokes : Prop :=
  (∀ v s, WriteOk s R.SPK_CTL (F.SPK_CTL_EN.put v 1) → getF s F.SPK_CTL_EN = 0 → ∃ t, exec (.spkEnable v) s = .next t ∧
    getF t F.SPK_CTL_EN = 1 ∧ ∀ n, n < 32 → spokeOn s n = true → spokeState t n = spokeUp) ∧
  (∀ v s, WriteOk s R.SPK_CTL (F.SPK_CTL_EN.put v 0) → getF s F.SPK_CTL_EN = 1 → ∃ t, exec (.spkDisable v) s = .next t ∧
    getF t F.SPK_CTL_EN = 0 ∧ t.spk.emission = none ∧ t.spk.latched = none ∧ ∀ n, n < 32 → spokeState t n = spokeOff) ∧
  (∀ dt n s, n < 32 → spkOn (advance dt s) = true → spokeState (advance dt s) n = spokeFault →
    (spoke (advance dt s) n).faultAt + 1000000000 ≤ upNs (advance dt s) → ∃ t, exec (.spokeBringupRetry dt n) s = .next t ∧
      spokeState t n = spokeUp ∧ getF t (F.SPK_SPKSTAT_CODE n) = 0) ∧
  (∀ dt s, spkOn (advance dt s) = true → ∃ t, exec (.driverStatPoll dt) s = .next t ∧
    (upNs (advance dt s) < (advance dt s).spk.polledAt + 1000000000 → t = advance dt s) ∧
    ((advance dt s).spk.polledAt + 1000000000 ≤ upNs (advance dt s) → ∀ n, n < 32 → spokeState (advance dt s) n = spokeRun → (spoke (advance dt s) n).reads = [] →
      (spoke t n).reads = (List.range (spokeNd (advance dt s) n)).map (fun p => (p, 6)))) ∧
  (∀ s, WriteOk s R.SPK_CTL (F.SPK_CTL_RELOAD.put (s.word R.SPK_CTL) 1) → ∃ t, exec .spkReload s = .next t ∧
    ∀ n d, n < 32 → spokeState s n = spokeRun → d < spokeNd s n →
      (.spoke n (icodeWrite s n d) ∈ t.out.drop s.out.length ∨ icodeWrite s n d ∈ (spoke t n).writes) ∧
      (s.lmp.shows = [] → (spoke s n).writes = [] → .spoke n (icodeWrite s n d) ∈ t.out.drop s.out.length)) ∧
  (∀ n p r q rest b s, n < 32 → spkOn s = true → (spoke s n).live = true → (spoke s n).reads = (p, r) :: q :: rest →
    leAt b 8 4 = crc32 (slice b 0 8) → ∃ t, exec (.readAnswer n b) s = .next t ∧
      (r = 0 → (spoke t n).reads = q :: rest ∧ (spoke t n).found = (spoke s n).found + 2 ^ p) ∧
      (r = 6 → (spoke t n).reads = q :: rest ∧ getF t (F.SPK_SPKSTAT_DCRC n) =
        satAdd (F.SPK_SPKSTAT_DCRC n).top (getF s (F.SPK_SPKSTAT_DCRC n)) (bits (beAt b 4 4) 0 8))) ∧
  (∀ dt n p r rest s, n < 32 → spkOn (advance dt s) = true → (spoke (advance dt s) n).live = true →
    (spoke (advance dt s) n).reads = (p, r) :: rest → (spoke (advance dt s) n).askedAt + 20000 ≤ upNs (advance dt s) →
    ∃ t, exec (.readAbsent ⟨dt, n⟩) s = .next t ∧
    ((spoke (advance dt s) n).tries < 2 → (spoke t n).reads = (p, r) :: rest ∧
      (spoke t n).tries = (spoke (advance dt s) n).tries + 1 ∧
      (spokeState (advance dt s) n ≠ spokeRun → (spoke t n).live = true ∧ (spoke t n).askedAt = upNs (advance dt s))) ∧
    (2 ≤ (spoke (advance dt s) n).tries → r = 6 → spokeState t n = spokeFault ∧
      getF t (F.SPK_SPKSTAT_CODE n) = Status.linkAbsent.code))

/-- Slots on the spokes. The head slot's data is sent once, in time for its latch, dark where it is late or the lamps are off;
each line slot of an emission, once its time has come, puts its line on every enabled group with EN high at its end; an emission
that is dark or whose lines are over ends with EN and GD low; a driver without a fault is read once, one with a fault line by line
from its first faulty line to the last; CLEAR empties the fault table, and a 1 written to SPK_RBSPK clears its bit. -/
def Obligations.SlotsOnSpokes : Prop :=
  (∀ dt late pads h rest s, spkOn (advance dt s) = true → (advance dt s).lmp.shows = h :: rest → h.sent = false →
    slotAt (advance dt s) h h.slot ≤ nowFine (advance dt s) + latchLead (advance dt s) →
    passedOver (advance dt s) (slotAt (advance dt s) h h.slot) = false → ∃ t e, exec (.latchSend dt late pads) s = .next t ∧
      t.lmp.shows = { h with sent := true, late := late } :: rest ∧ t.spk.latched = some e ∧ e.frame = h.n ∧ e.slot = h.slot ∧
      e.dark = (late || !(advance dt s).lmp.lampEn)) ∧
  (∀ dt e s, spkOn (advance dt s) = true → (advance dt s).spk.emission = some e → e.dark = false →
    e.lines < scanPasses (advance dt s) * scanD (advance dt s) → ∃ t, exec (.lineSlot dt) s = .next t ∧
      (upNs (advance dt s) < lineStart (advance dt s) e e.lines → t = advance dt s) ∧
      (lineStart (advance dt s) e e.lines ≤ upNs (advance dt s) → (∃ x, t.spk.emission = some x ∧ x.lines = e.lines + 1 ∧
        x.frame = e.frame ∧ x.slot = e.slot ∧ x.start = e.start) ∧
        ∀ g, g < 4 → groupOn (advance dt s) g = true → t.spk.scan.getD g (0, false, false) =
          ((e.lines % scanD (advance dt s) + groupOfs (advance dt s) g) % scanD (advance dt s), true, false))) ∧
  (∀ dt pads e s, spkOn (advance dt s) = true → (advance dt s).spk.emission = some e →
    (e.dark = true ∨ (scanPasses (advance dt s) * scanD (advance dt s) ≤ e.lines ∧
      lineStart (advance dt s) e e.lines ≤ upNs (advance dt s))) →
    ∃ t, exec (.slotEmissionEnd dt pads) s = .next t ∧ t.spk.emission = none ∧ t.spk.latched = (advance dt s).spk.latched ∧
      (e.dark = false → ∀ g, g < 4 → groupOn (advance dt s) g = true →
        t.spk.scan.getD g (0, false, false) = (scanLine (advance dt s) g, false, false))) ∧
  (∀ n d b frame todo rest s, n < 32 → spkOn s = true → s.spk.det = some (frame, todo) → todo.contains (n, d) = true →
    (spoke s n).live = true → (spoke s n).reads = (d, 8) :: rest → leAt b 8 4 = crc32 (slice b 0 8) →
    ∃ t, exec (.detectionRead n d 8 b) s = .next t ∧ t.spk.faults = s.spk.faults ∧
      (∀ x ∈ t.spk.seen, ∃ y ∈ s.spk.seen, y.lamp = x.lamp ∧ y.kind = x.kind) ∧
      ((beAt b 4 4).testBit 23 = false → t.spk.det = some (frame, todo.erase (n, d)) ∧ (spoke t n).reads = rest) ∧
      ((beAt b 4 4).testBit 23 = true → bits (beAt b 4 4) 16 7 < scanD s → t.spk.det = some (frame, todo) ∧
        (spoke t n).reads = lineReads s d (bits (beAt b 4 4) 16 7) ++ rest)) ∧
  (∀ n d reg l b frame todo rest s, n < 32 → spkOn s = true → s.spk.det = some (frame, todo) → todo.contains (n, d) = true →
    (reg = 0x20 ∨ reg = 0x22 ∨ reg = 0x24) → (spoke s n).live = true → (spoke s n).reads = (d, reg + 256 * l) :: rest →
    leAt b 12 4 = crc32 (slice b 0 12) → ∃ t, exec (.detectionRead n d reg b) s = .next t ∧ (spoke t n).reads = rest ∧
      t.spk.det = some (frame, if reg = 0x24 ∧ scanD s ≤ l + 1 then todo.erase (n, d) else todo)) ∧
  (∀ s, WriteOk s R.SPK_FDCTL (F.SPK_FDCTL_CLEAR.put 0#32 1) → ∃ t, exec .faultTableClear s = .next t ∧ t.spk.faults = [] ∧
    t.spk.masked = [] ∧ getF t F.SPK_FLCNT_COUNT = 0 ∧ getF t F.SPK_FLCNT_OVF = 0) ∧
  (∀ mask s, mask < 2 ^ 32 → WriteOk s R.SPK_RBSPK (F.SPK_RBSPK_SPK.put 0#32 mask) →
    ∃ t, exec (.readbackSpokeClear mask) s = .next t ∧
      getF t F.SPK_RBSPK_SPK = getF s F.SPK_RBSPK_SPK - (getF s F.SPK_RBSPK_SPK &&& mask))

/-- Sensors and throttling. A sample, 1 ms or more after the last, of an on-die sensor in its range, and within 20 °C of the
sample before, is its temperature; one out of range fails the sensor. While a heat cause lasts, each instant of the 2 s grid takes
one step down, above the floor; each 10 s instant of recovery takes one step up, below the top. A 1 written to a bit of THM_FAIL
clears it. -/
def Obligations.SensorsAndThrottling : Prop :=
  (∀ dt od td k v s, QueuesOk s → blkOn (advance dt s) 0x14 = true → k < 12 → od[k]? = some v →
    (advance dt s).thm.sampledAt + 1000000 ≤ upNs (advance dt s) → ∃ t, exec (.sensorSample dt od td) s = .next t ∧
    (-880 ≤ v → v ≤ 2400 → (∀ e, (advance dt s).thm.prev.find? (fun e => e.1 == k) = some e → (v - e.2).natAbs ≤ 320) →
      getF t (F.THM_OD_TEMP k) = unsign 16 v ∧ thmFailed t k = thmFailed (advance dt s) k) ∧
    (v < -880 ∨ 2400 < v → thmFailed t k = true ∧ getF t (F.THM_OD_FAILED k) = 1 ∧
      getF t (F.THM_OD_TEMP k) = getF (advance dt s) (F.THM_OD_TEMP k))) ∧
  (∀ dt g s, QueuesOk s → blkOn (advance dt s) 0x14 = true → (advance dt s).thm.grid = some g → g ≤ upNs (advance dt s) →
    heatCause (advance dt s) = true → ∃ t, exec (.throttleStepDown dt) s = .next t ∧ t.thm.grid = some (g + 2000000000) ∧
      (isTile s = true → getF (advance dt s) F.THM_CFG_CEILMIN < getF (advance dt s) F.LMP_CEIL_CEIL →
        getF t F.LMP_CEIL_CEIL + 1 = getF (advance dt s) F.LMP_CEIL_CEIL) ∧
      (isTile s = true → getF (advance dt s) F.LMP_CEIL_CEIL ≤ getF (advance dt s) F.THM_CFG_CEILMIN →
        getF t F.LMP_CEIL_CEIL = getF (advance dt s) F.LMP_CEIL_CEIL) ∧
      (isSender s = true → isTile s = false → t.cmp.nextStep = if s.cmp.nextStep < 6 then s.cmp.nextStep + 1 else s.cmp.nextStep)) ∧
  (∀ dt g s, QueuesOk s → blkOn (advance dt s) 0x14 = true → (advance dt s).thm.up = some g → g ≤ upNs (advance dt s) →
    ∃ t, exec (.throttleStepUp dt) s = .next t ∧ t.thm.up = some (g + 10000000000) ∧
      (isTile s = true → getF (advance dt s) F.LMP_CEIL_CEIL < 32 →
        getF t F.LMP_CEIL_CEIL = getF (advance dt s) F.LMP_CEIL_CEIL + 1) ∧
      (isTile s = true → 32 ≤ getF (advance dt s) F.LMP_CEIL_CEIL → getF t F.LMP_CEIL_CEIL = getF (advance dt s) F.LMP_CEIL_CEIL) ∧
      (isSender s = true → isTile s = false → t.cmp.nextStep = s.cmp.nextStep - 1)) ∧
  (∀ mask s, QueuesOk s → WriteOk s R.THM_FAIL (BitVec.ofNat 32 mask) → ∃ t, exec (.thmFailClear mask) s = .next t ∧
    ∀ n, n < 12 ∨ (16 ≤ n ∧ n < 32) → thmFailed t n = (thmFailed s n && !mask.testBit n))

/-- Power states and shut-downs. Tj in T5 for 10 ms, or REQ = OFF, starts an orderly shut-down once; another request is the target
of the walk, and BUSY says whether the unit has still to move; each move goes one state toward the target; a shut-down ends in OFF
with the host link down. A shut-down for heat turns the lamps of a tile off. -/
def Obligations.PowerStates : Prop :=
  (∀ dt a s, QueuesOk s → blkOn (advance dt s) 0x14 = true → (advance dt s).thm.t5 = some a → a + 10000000 ≤ upNs (advance dt s) →
    s.thm.shut = none → ∃ t, exec (.t5Shutdown dt) s = .next t ∧ t.thm.shut = some 1 ∧
      (isTile s = true → t.lmp.lampEn = false ∧ t.spk.spokes = [])) ∧
  (∀ req s, QueuesOk s → req < 5 → WriteOk s R.THM_PWR (F.THM_PWR_REQ.put 0#32 req) → ∃ t, exec (.powerRequest req) s = .next t ∧
    getF t F.THM_PWR_REQ = req ∧ getF t F.THM_PWR_NOW = getF s F.THM_PWR_NOW ∧
    (s.thm.shut = none → req = 4 → t.thm.shut = some 2) ∧
    (s.thm.shut = none → req < 4 → t.thm.shut = none ∧
      getF t F.THM_PWR_BUSY = b2n (power s != if isSet s F.THM_PWR_FORCED then max 1 req else req))) ∧
  (∀ dt s, QueuesOk s → blkOn (advance dt s) 0x14 = true → s.thm.shut = none → powerTarget (advance dt s) < 4 →
    power (advance dt s) ≠ powerTarget (advance dt s) → ∃ t, exec (.powerStateReached dt) s = .next t ∧
      power t = (if power (advance dt s) < powerTarget (advance dt s) then power (advance dt s) + 1 else power (advance dt s) - 1) ∧
      getF t F.THM_PWR_BUSY = b2n (power t != powerTarget (advance dt s))) ∧
  (∀ cause s, QueuesOk s → blkOn s 0x14 = true → s.thm.shut = some cause → ∃ t, exec .orderlyShutdown s = .next t ∧ power t = 4 ∧
    getF t F.HIF_LINKSTAT_UP = 0 ∧ t.upd.ops = [] ∧ t.upd.journal ≠ [])

/-- Recalibration of a lane. The lane first queued, or named by START, starts: its eye and taps are kept and BUSY is set; a data
lane waits for the copy, the pannier lane sweeps at once. The copy that matches is used and the sweep begins; a sound window of 10
µs ends a trial, an unsound one is repeated; a lane that matches waits for the frame start, one that does not match tries its
saved taps once and then ends with INTEGRITY; the switch back, 50 ms after the match at the latest, completes it. -/
def Obligations.LaneRecalibration : Prop :=
  (∀ dt i rest s, blkOn (advance dt s) 0x15 = true → isSet (advance dt s) F.CAL_CTL_EN = true → s.cal.run = none →
    s.cal.queue = i :: rest → i < 20 → calSkips (advance dt s) i = false → ∃ t r, exec (.recalStart dt) s = .next t ∧
      t.cal.run = some r ∧ r.port = i / 5 ∧ r.lane = i % 5 ∧ r.saved = ((port s (i / 5)).lane (i % 5)).taps ∧
      r.stage = (if laneNo (advance dt s) (i / 5) (i % 5) = 4 then 1 else 0) ∧ t.cal.queue = rest ∧ getF t F.CAL_STAT_BUSY = 1) ∧
  (∀ v s, WriteOk s R.CAL_CTL (F.CAL_CTL_START.put v 1) → ∃ t r, exec (.recalManualStart v) s = .next t ∧
    t.cal.run = some r ∧ r.port = F.CAL_CTL_PORT.get v ∧ r.lane = F.CAL_CTL_LANE.get v ∧ getF t F.CAL_STAT_BUSY = 1) ∧
  (∀ r s, blkOn s 0x15 = true → s.cal.run = some r → r.stage = 0 → r.logical ≠ 4 → portUp s r.port = true → r.port < 4 → r.lane < 5 →
    ∃ t, exec .recalPannierMatched s = .next t ∧ t.cal.run = some { r with stage := 1, trial := 0, trialAt := upNs s } ∧
      getF t (F.LNK_PMAP_PANSEL r.port) = 1 ∧ ((port t r.port).lane r.lane).taps = trialTaps r 0) ∧
  (∀ dt diff ew eh r s, blkOn (advance dt s) 0x15 = true → s.cal.run = some r → r.stage = 1 →
    r.trialAt + 10000 ≤ upNs (advance dt s) → ∃ t, exec (.recalMeasureWindow dt diff ew eh) s = .next t ∧
      (10 * diff < 4 * 40799 ∨ 6 * 40799 < 10 * diff → t = calRun (advance dt s) { r with trialAt := upNs (advance dt s) }) ∧
      (4 * 40799 ≤ 10 * diff → 10 * diff ≤ 6 * 40799 → r.trial < 87 → ∃ r', t.cal.run = some r' ∧ r'.trial = r.trial + 1 ∧
        (r.trial ≠ 0 → r.trial < 16 → r'.ew = max r.ew ew)) ∧
      (4 * 40799 ≤ 10 * diff → 10 * diff ≤ 6 * 40799 → 87 ≤ r.trial → r.logical ≠ 4 → ∃ r', t.cal.run = some r' ∧ r'.stage = 2)) ∧
  (∀ ok r s, blkOn s 0x15 = true → s.cal.run = some r → r.stage = 2 → ∃ t, exec (.recalLaneMatched ok) s = .next t ∧
    (ok = true → t.cal.run = some { r with stage := 3, matchedAt := upNs s }) ∧
    (ok = false → r.retried = false → t.cal.run = some { r with kept := false, retried := true }) ∧
    (ok = false → r.retried = true → t.cal.run = none ∧ getF t F.CAL_STAT_LASTCODE = Status.integrity.code)) ∧
  (∀ dt sof r s, blkOn (advance dt s) 0x15 = true → s.cal.run = some r → r.stage = 3 → r.port < 4 → r.lane < 5 →
    (sof = true ∨ r.matchedAt + 50000000 ≤ upNs (advance dt s)) → ∃ t, exec (.recalSwitchBack dt sof) s = .next t ∧
      t.cal.run = none ∧ getF t F.CAL_STAT_BUSY = 0 ∧
      getF t (F.CAL_LCNT_COUNT (5 * r.port + r.lane)) = (getF s (F.CAL_LCNT_COUNT (5 * r.port + r.lane)) + 1) % 65536 ∧
      getF t (F.CAL_LTIME_TIME (5 * r.port + r.lane)) = timeNs (advance dt s)) ∧
  (∀ c r s, blkOn s 0x15 = true → s.cal.run = some r → r.port < 4 → r.lane < 5 → c = .aborted ∨ c = .linkAbsent ∨ c = .integrity →
    ∃ t, exec (.recalAbort c) s = .next t ∧ t.cal.run = none ∧ ((port t r.port).lane r.lane).taps = r.saved ∧
      getF t F.CAL_STAT_LASTCODE = c.code ∧ getF t F.CAL_STAT_ABORTS = satAdd F.CAL_STAT_ABORTS.top (getF s F.CAL_STAT_ABORTS) 1) ∧
  (∀ v r s, WriteOk s R.CAL_CTL (F.CAL_CTL_EN.put v 0) → isSet s F.CAL_CTL_EN = true → F.CAL_CTL_START.get v = 0 →
    s.cal.run = some r → r.port < 4 → r.lane < 5 → ∃ t, exec (.calDisable v) s = .next t ∧ getF t F.CAL_CTL_EN = 0 ∧
      t.cal.run = none ∧ ((port t r.port).lane r.lane).taps = r.saved ∧ getF t F.CAL_STAT_LASTCODE = Status.aborted.code)

/-- DRAM lane values and saved sets. Every 16 ms the values in use of a byte lane whose slots give values move one step at most
toward them; a retraining in STANDBY that is due counts, and one that fails, because the device does not answer or an eye is too
narrow, is counted; changed sets go to flash, at most once in 10 minutes. -/
def Obligations.CalibrationValues : Prop :=
  (∀ dt osc c lane v s, blkOn (advance dt s) 0x15 = true → c ∈ drcChannels (advance dt s) → lane < 4 →
    laneTarget (advance dt s) c lane (if isSet (advance dt s) F.CAL_DCFG_TRACK then osc[c]? else none) = some v →
    (advance dt s).cal.trackAt + 16000000 ≤ upNs (advance dt s) → ∃ t, exec (.dramTrackStep dt osc) s = .next t ∧ tget (0, 0, 0) t.cal.use (4 * c + lane) =
      (stepTo (tget (0, 0, 0) s.cal.use (4 * c + lane)).1 v.1, stepTo (tget (0, 0, 0) s.cal.use (4 * c + lane)).2.1 v.2.1,
        stepTo (tget (0, 0, 0) s.cal.use (4 * c + lane)).2.2 v.2.2)) ∧
  (∀ dt c ok l s, c < 8 → blkOn (advance dt s) 0x15 = true → retrainDue (advance dt s) c = true →
    ∃ t, exec (.standbyRetrain dt c ok l) s = .next t ∧ (c, upNs (advance dt s)) ∈ t.cal.retrained ∧
      (ok = true → trainPass (fspsNow (advance dt s)) l = true → getF t (F.CAL_DCNT_RETRAIN c) = (getF s (F.CAL_DCNT_RETRAIN c) + 1) % 65536 ∧
        getF t (F.CAL_DTIME_TIME c) = timeNs (advance dt s)) ∧
      (ok = false ∨ trainPass (fspsNow (advance dt s)) l = false → t.cal.use = s.cal.use ∧
        getF t (F.CAL_DCNT_FAIL c) = satAdd (F.CAL_DCNT_FAIL c).top (getF s (F.CAL_DCNT_FAIL c)) 1)) ∧
  (∀ dt s, blkOn (advance dt s) 0x15 = true → s.cal.changed = true → s.thm.shut = none →
    (∀ a, s.cal.savedAt = some a → a + 600000000000 ≤ upNs (advance dt s)) → ∃ t, exec (.calSetSave dt) s = .next t ∧
      t.cal.changed = false ∧ t.cal.savedAt = some (upNs (advance dt s)) ∧ t.upd.ops = s.upd.ops ++ [.calset])

/-- Entries of SEC that pass their checks and whose data can be read. KEYSET opens a new enrol session with a new group key and
the next counter value; ENROL with no session open is refused, else it sends a CERT_GET and waits; a reply ends an enrolment with
its code, or goes on to the chain; LETTERTO without a reply ends one; SWITCH waits for its frame; QUOTE goes to the engine, where
there is room; EXTEND extends M6 alone; LIFE delivers a token. -/
def Obligations.SecEntries : Prop :=
  (∀ it x s, QueuesOk s → EntryTaken s 0x16 0x58 it x → secCheck x it.entry = .ok → x.sec.enrol.map Prod.snd ≠ some (byteAt it.entry 1) →
    x.sec.counter < 2 ^ 24 → ∃ t key, exec .keysetEntry s = .next t ∧
      t.sec.enrol = some (getF x F.TAN_CFG_RANK * 2 ^ 24 + x.sec.counter, byteAt it.entry 1) ∧ t.sec.counter = x.sec.counter + 1 ∧
      t.sec.groups = x.sec.groups ++ [⟨getF x F.TAN_CFG_RANK * 2 ^ 24 + x.sec.counter, key, 0⟩] ∧ key.length = 32 ∧
      getF t F.SEC_SESSION_SESSION = getF x F.TAN_CFG_RANK * 2 ^ 24 + x.sec.counter) ∧
  (∀ it x s, QueuesOk s → EntryTaken s 0x16 0x59 it x → secCheck x it.entry = .ok → ∃ t, exec .enrolEntry s = .next t ∧
    (x.sec.enrol = none → t = secDone x it .wrongState 0 0xFF) ∧
    (∀ n k, x.sec.enrol = some (n, k) → ∃ y ∈ t.sec.enrols, y.item = it ∧ y.waits = true ∧ y.ltype = 6 ∧ y.lid = x.chn.nextLid ∧
      y.session = n ∧ y.slot = k)) ∧
  (∀ l rest e es s, QueuesOk s → blkOn s 0x16 = true → isSender s = true → s.chn.letters = l :: rest → s.sec.enrols = e :: es →
    isReply s l = true → e.waits = true → e.lid = l.lid → e.ltype = l.ltype → e.postcode = l.addr →
    ∃ t, exec .enrolReply s = .next t ∧ t.chn.letters = rest ∧
      (byteAt l.content 0 ≠ 0 → t.sec.enrols = s.sec.enrols.filter (fun y => y.item != e.item)) ∧
      (byteAt l.content 0 = 0 → e.ltype = 6 → ∃ y ∈ t.sec.enrols, y.item = e.item ∧ y.waits = false ∧ y.content = l.content)) ∧
  (∀ dt e es s, QueuesOk s → blkOn (advance dt s) 0x16 = true → s.sec.enrols = e :: es → e.waits = true →
    e.sent + getF s F.CHN_CFG_LETTERTO * 1000000 ≤ upNs (advance dt s) → ∃ t, exec (.enrolTimeout dt) s = .next t ∧
      t.sec.enrols = s.sec.enrols.filter (fun y => y.item != e.item)) ∧
  (∀ it x s, QueuesOk s → EntryTaken s 0x16 0x5A it x → secCheck x it.entry = .ok → ∃ t, exec .switchEntry s = .next t ∧
    t.sec.switches = s.sec.switches ++ [(it, leAt it.entry 4 4)] ∧ t.sec.recs = s.sec.recs) ∧
  (∀ host it x b z s, QueuesOk s → EntryTaken s 0x16 0x5B it x → secWaits 780 s it = false → secCheck x it.entry = .ok →
    areaFetch x (leAt it.entry 8 2) (leAt it.entry 16 8) 780 host = (.ok b, z) → ∃ t, exec (.quoteEntry host) s = .next t ∧
      (engineFull x = true → t.sec.busy = x.sec.busy ∧
        getF t F.SEC_CNT_QREFUSED = satAdd F.SEC_CNT_QREFUSED.top (getF x F.SEC_CNT_QREFUSED) 1) ∧
      (engineFull x = false → EngineHas t (.quoteEntry it (b.take 32)))) ∧
  (∀ host it x b z s, QueuesOk s → EntryTaken s 0x16 0x5C it x → secWaits 64 s it = false → secCheck x it.entry = .ok →
    areaFetch x (leAt it.entry 8 2) (leAt it.entry 16 8) 64 host = (.ok b, z) → ∃ t, exec (.extendEntry host) s = .next t ∧
      ∀ i, i < 8 → meas t i = if i = 6 then sha (meas x 6 ++ fit 64 b) else meas x i) ∧
  (∀ host it x b z s, QueuesOk s → EntryTaken s 0x16 0x5D it x → secWaits 304 s it = false → secCheck x it.entry = .ok →
    areaFetch x (leAt it.entry 8 2) (leAt it.entry 16 8) 304 host = (.ok b, z) → ∃ t, exec (.lifeEntry host) s = .next t ∧
      TokenTaken x t b)

/-- Letters to SEC, its engine, receipts and CRC records. CERT_GET is answered with the certificates; KEY_WRAP and QUOTE_REQ go to
the engine, a quote only where there is room; a receipt signed takes the next RSEQ; an interval whose end has come closes;
receipts leave while a port is UP, and where they are held, with no port UP or the chain in reset, the oldest beyond four are
dropped and counted; a CRC record that is ready is written. -/
def Obligations.SecLettersAndReceipts : Prop :=
  (∀ l x s, SecLetter s 6 l x → exec .certGetLetter s = .next (
    if l.content ≠ [0] then answer x l .illegalValue [] else if x.sec.idkey = false then answer x l .notPermitted []
    else answer x l .ok certContent)) ∧
  (∀ l x s, SecLetter s 7 l x → ∃ t, exec .keyWrapLetter s = .next t ∧ EngineHas t (.unwrap l)) ∧
  (∀ l x s, SecLetter s 8 l x → allZero (slice l.content 33 3) = true → x.sec.idkey = true → ∃ t, exec .quoteReqLetter s = .next t ∧
    (engineFull x = false → EngineHas t (.quoteLetter l (byteAt l.content 32))) ∧
    (engineFull x = true → getF t F.SEC_CNT_QREFUSED = satAdd F.SEC_CNT_QREFUSED.top (getF x F.SEC_CNT_QREFUSED) 1)) ∧
  (∀ dt o s, QueuesOk s → blkOn (advance dt s) 0x16 = true → s.sec.busy = some o → ∃ t, exec (.signEngineDone dt) s = .next t ∧
    (∀ iv, o = .receipt iv → s.sec.idkey = true → s.sec.rseq < 2 ^ 32 → getF t F.SEC_RSEQ_RSEQ = s.sec.rseq ∧
      t.sec.rseq = (s.sec.rseq + 1) % 2 ^ 32 ∧ t.sec.first = false ∧
      t.sec.held.length = if receiptsHeld (advance dt s) then min 4 (s.sec.held.length + 1) else s.sec.held.length + 1) ∧
    (∀ l, o = .unwrap l → l.port < 4 → getF t F.SEC_CNT_KWFAIL = if (unwrapKeys (advance dt s) l).isSome then getF s F.SEC_CNT_KWFAIL
      else satAdd F.SEC_CNT_KWFAIL.top (getF s F.SEC_CNT_KWFAIL) 1)) ∧
  (∀ dt m st iv s, blkOn (advance dt s) 0x11 = true → modeOf (advance dt s) s.lmp.nextA = some (m, st) →
    commitAt m st s.lmp.nextA ≤ nowFine (advance dt s) → s.sec.interval = some iv → s.sec.nextT ≤ commitAt m st s.lmp.nextA →
    ∃ t, exec (.receiptIntervalClose dt) s = .next t ∧ t.sec.interval = none ∧ t.sec.nextT ≤ commitAt m st s.lmp.nextA ∧
      commitAt m st s.lmp.nextA < t.sec.nextT + max 1 (intervalLen s) ∧
      (s.sec.idkey = true → ∃ j, j.first = iv.first ∧ j.nfr = iv.nfr ∧ j.vals = iv.vals ∧ EngineHas t (.receipt j))) ∧
  (∀ s, blkOn s 0x16 = true → ∃ t, exec .receiptSigned s = .next t ∧
    (receiptsHeld s = true → t.sec.held = s.sec.held.drop (s.sec.held.length - 4) ∧
      getF t F.SEC_CNT_RDROP = satAdd F.SEC_CNT_RDROP.top (getF s F.SEC_CNT_RDROP) (s.sec.held.length - 4)) ∧
    (receiptsHeld s = false → t.sec.held = [])) ∧
  (∀ dt e rest s, blkOn (advance dt s) 0x16 = true → s.sec.crcs = e :: rest → crcReady (advance dt s) e = true →
    ∃ t, exec (.crcRecordWrite dt) s = .next t ∧ t.sec.crcs = rest ∧
      (surfOf (advance dt s) (getF s F.SEC_CRCCFG_HANDLE) = none → t.dram = s.dram))

/-- The debug port. DBGTOKEN delivers a token and captures its code; DBGNONCE draws a nonce, shifts it out and shows it; REGACC,
MEMACC and TRACE act only at their debug levels: REGACC writes and reads as the host does but logs a refusal with SRC = 3, MEMACC
reads and writes the bytes of DRAM; EXTEST takes the pads to their Reset states. What TRACE shifts out, and what MEMACC shifts out
of an uncorrectable block, is a free value. -/
def Obligations.DebugPort : Prop :=
  (∀ tok s, blkOn s 0x19 = true → ∃ t, exec (.dbgtoken tok) s = .next t ∧ t.sec.extest = false ∧
    t.out = s.out ++ [.jtag [byte (tokenTake (leaveExtest s) (fit 304 tok)).1.code]] ∧ TokenTaken (leaveExtest s) t (fit 304 tok)) ∧
  (∀ s, blkOn s 0x19 = true → ∃ t b, exec .dbgnonce s = .next t ∧ t.sec.nonce = some b ∧ b.length = 16 ∧ t.out = s.out ++ [.jtag b] ∧
    ∀ k, k < 4 → t.word (R.SEC_NONCE k) = BitVec.ofNat 32 (beAt b (4 * k) 4)) ∧
  (∀ off v s, blkOn s 0x19 = true → ∃ t, exec (.regacc off v) s = .next t ∧
    (s.sec.dbg = 0 → t = leaveExtest s) ∧
    (s.sec.dbg ≠ 0 → off % 4 = 0 → ∀ w, v = some w → t = (regWrite (leaveExtest s) srcJtag off w).2) ∧
    (s.sec.dbg ≠ 0 → off % 4 = 0 → v = none →
      t = emit (regRead (leaveExtest s) off).2 (.jtag (beBytes 4 (regRead (leaveExtest s) off).1.toNat))) ∧
    (s.sec.dbg ≠ 0 → off % 4 ≠ 0 → getF s F.GLB_ERRINFO_VALID = 0 → getF t F.GLB_ERRLOG_CODE = Status.align.code ∧
      getF t F.GLB_ERRINFO_SRC = srcJtag ∧ getF t F.GLB_ERRINFO_VALID = 1)) ∧
  (∀ a n data s, blkOn s 0x19 = true → ∃ t, exec (.memacc false a n data) s = .next t ∧
    (s.sec.dbg ≠ 2 → t = leaveExtest s) ∧
    (s.sec.dbg = 2 → a + n ≤ 64 * drcBlocks s → dramBad s a n = false → data = none →
      t.dram = s.dram ∧ t.out = s.out ++ [.jtag (dramRd s a n)]) ∧
    (s.sec.dbg = 2 → a + n ≤ 64 * drcBlocks s → dramBad s a n = true → data = none → t.dram = s.dram ∧
      ∃ b, b.length = n ∧ t.out = (noteBad (leaveExtest s) a n).out ++ [.jtag b]) ∧
    (s.sec.dbg = 2 → a + n ≤ 64 * drcBlocks s → ∀ b, data = some b → (dramBad s a n = false → dramRd t a n = fit n b) ∧
      ∀ k, k < a ∨ a + n ≤ k → dramRd t k 1 = dramRd s k 1)) ∧
  (∀ n s, blkOn s 0x19 = true → ∃ t, exec (.trace n) s = .next t ∧ (s.sec.dbg = 0 → t = leaveExtest s) ∧
    (s.sec.dbg ≠ 0 → ∃ b, b.length = n ∧ t.out = s.out ++ [.jtag b])) ∧
  (∀ s, blkOn s 0x19 = true → ∃ t, exec .extest s = .next t ∧ t.sec.extest = true ∧ t.lmp.lampEn = false ∧ t.spk.scan = [] ∧
    t.spk.emission = none ∧ t.spk.latched = none)

/-- Parcels. A DATA parcel that passes the checks of R573 is handed to NVM, one that fails changes no package and its code is
LASTCODE; QUERY is answered; ARM arms its frame where the package is STAGED or ARMED; ABANDON drops the package, but not in TRIAL;
STAGE hands NVM the parcel it carries; a parcel that reads back correctly is held and its bytes are in the staging slot, one that
does not takes its sector's parcels with it; an erased sector reads 0xFF, and no other byte changes; a new copy of the maps stands
in the next of the four places of BITMAP (R570). -/
def Obligations.Parcels : Prop :=
  (∀ l x s, QueuesOk s → ParcelTaken s 1 l x → dataForm l.content → ∃ t, exec .parcelData s = .next t ∧
    (∀ c, parcelCheck x (beAt l.content 20 4) (slice l.content 4 16) (slice l.content 32 4096) false = c → c ≠ .ok → c ≠ .late →
      t.upd = s.upd ∧ getF t F.UPD_STAT_LASTCODE = c.code) ∧
    (parcelCheck x (beAt l.content 20 4) (slice l.content 4 16) (slice l.content 32 4096) false = .ok →
      crc32 (slice l.content 32 4096) ≠ beAt l.content 24 4 → t.upd = s.upd ∧ getF t F.UPD_STAT_LASTCODE = Status.integrity.code) ∧
    (parcelCheck x (beAt l.content 20 4) (slice l.content 4 16) (slice l.content 32 4096) false = .ok →
      crc32 (slice l.content 32 4096) = beAt l.content 24 4 → parcelHeld x (beAt l.content 20 4) = false → s.thm.shut = none →
      .parcel (beAt l.content 20 4) (slice l.content 32 4096) (.letter l) ∈ t.upd.ops)) ∧
  (∀ l x s, ParcelTaken s 2 l x → parcelForm l.content = true → exec .parcelQuery s =
    .next (parcelReply x l (if parcelOurs x l.content then .ok else .staleState) (some (beAt l.content 20 4)))) ∧
  (∀ l x s, QueuesOk s → ParcelTaken s 3 l x → parcelForm l.content = true → ∃ t, exec .parcelArm s = .next t ∧
    (armable s = false → t.upd = s.upd ∧ getF t F.UPD_STAT_LASTCODE = Status.wrongState.code) ∧
    (armable s = true → (byteAt l.content 28).testBit 0 = false → s.lmp.mode ≠ none → s.lmp.pend = none →
      matOrAfter 32 (beAt l.content 24 4) s.lmp.nextA = true → t.upd.arm = some ⟨beAt l.content 24 4, none, false⟩ ∧ ustate t = 4 ∧
      getF t F.UPD_AFRAME_FRAME = beAt l.content 24 4)) ∧
  (∀ l x s, QueuesOk s → ParcelTaken s 4 l x → parcelForm l.content = true → ∃ t, exec .parcelAbandon s = .next t ∧
    (ustate s = 5 → t.upd = s.upd ∧ getF t F.UPD_STAT_LASTCODE = Status.wrongState.code) ∧
    (ustate s ≠ 5 → ustate s ≠ 0 → parcelOurs s l.content = true → t.upd.pkg = none ∧ t.upd.arm = none ∧ ustate t = 0)) ∧
  (∀ host it x b z p s, QueuesOk s → EntryTaken s 0x17 0x60 it x → updWaits s it = false → updReserved it.entry = true →
    leAt it.entry 10 2 = 1 → updFetch x it.entry 4096 host = (.ok b, z) → leAt it.entry 4 4 ≠ 0 → ustate x = 1 → x.upd.pkg = some p →
    leAt it.entry 4 4 < nParcel p.manifest → needed p.manifest (leAt it.entry 4 4) = true →
    p.held.contains (leAt it.entry 4 4) = false → s.thm.shut = none → ∃ t, exec (.stageEntry host) s = .next t ∧
      .parcel (leAt it.entry 4 4) (fit 4096 b) (.stage it (some .ok)) ∈ t.upd.ops) ∧
  (∀ ok o rest s, QueuesOk s → blkOn s 0x17 = true → s.upd.ops = o :: rest → ∃ t, exec (.flashOperationDone ok) s = .next t ∧
    (∀ k d who p, o = .parcel k d who → s.upd.pkg = some p → p.held.contains k = false →
      (ok = true → (∃ q, t.upd.pkg = some q ∧ q.held = p.held ++ [k]) ∧
        rdBytes flashFill t.upd.flash (slotStart s (stagingSlot s) + 4096 * k) d.length = d) ∧
      (ok = false → ∃ q, t.upd.pkg = some q ∧ ∀ j ∈ q.held, j / 16 ≠ k / 16)) ∧
    (∀ k a, o = .erase k → ok = true → rdByte flashFill t.upd.flash a =
      if slotStart s (stagingSlot s) + 65536 * k ≤ a ∧ a < slotStart s (stagingSlot s) + 65536 * k + 65536 then flashFill
      else rdByte flashFill s.upd.flash a) ∧
    (∀ r, o = .journal r → t.upd.journal = s.upd.journal ++ [r] ∧ t.upd.ops = rest) ∧
    (o = .newMaps → t.upd.maps = (s.upd.maps + 1) % 4 ∧ t.upd.ops = rest))

/-- From a staged package to a confirmed one. ACTIVATE arms its frame, or with NOW writes the record that names the staging slot, as
the instant of an armed frame does; CONFIRM in TRIAL, and UPD_CTL.CONFIRM, are kept; ABANDON, and UPD_CTL.ABANDON, drop the package;
verifying ends with the package STAGED, missing parcels, or dropped with a code, dropped with INTEGRITY where an image is bad; a
trial whose conditions hold begins its confirmation, one not confirmed in time restarts the unit; RECOV.GO in FAIL checks the
image in the window. -/
def Obligations.Activation : Prop :=
  (∀ it x s, QueuesOk s → EntryTaken s 0x17 0x62 it x → updReserved it.entry = true → ∃ t, exec .activateEntry s = .next t ∧
    (armable x = false → t = updDone x it .wrongState 0 0xFF) ∧
    (armable x = true → NoModeHeld x → (byteAt it.entry 1).testBit 0 = false → cadenceOn x = true →
      matOrAfter 32 (leAt it.entry 4 4) (nextBoundary x) = true →
      t.upd.arm = some ⟨leAt it.entry 4 4, some it, false⟩ ∧ ustate t = 4 ∧ getF t F.UPD_AFRAME_FRAME = leAt it.entry 4 4) ∧
    (armable x = true → NoModeHeld x → (byteAt it.entry 1).testBit 0 = true → s.thm.shut = none →
      t.upd.arm = none ∧ ∃ r, .state r ∈ t.upd.ops ∧ r.cand = some (stagingSlot x) ∧ r.tries = 0)) ∧
  (∀ it x s, QueuesOk s → EntryTaken s 0x17 0x63 it x → updReserved it.entry = true → ∃ t, exec .confirmEntry s = .next t ∧
    (ustate x = 5 → t.upd.confirm = true) ∧ (ustate x ≠ 5 → t = updDone x it .wrongState 0 0xFF)) ∧
  (∀ it x s, QueuesOk s → EntryTaken s 0x17 0x64 it x → updReserved it.entry = true → ∃ t, exec .abandonEntry s = .next t ∧
    (ustate x = 0 ∨ ustate x = 5 → t = updDone x it .wrongState 0 0xFF) ∧
    (ustate x ≠ 0 → ustate x ≠ 5 → t.upd.pkg = none ∧ t.upd.arm = none ∧ ustate t = 0)) ∧
  (∀ s, WriteOk s R.UPD_CTL (F.UPD_CTL_CONFIRM.put 0#32 1) → ∃ t, exec .updConfirmWrite s = .next t ∧ t.upd.confirm = true ∧
    t.upd.pkg = s.upd.pkg) ∧
  (∀ s, QueuesOk s → WriteOk s R.UPD_CTL (F.UPD_CTL_ABANDON.put 0#32 1) → ∃ t, exec .updAbandonWrite s = .next t ∧
    t.upd.pkg = none ∧ t.upd.arm = none ∧ ustate t = 0) ∧
  (∀ p s, blkOn s 0x17 = true → isReady s = true → ustate s = 2 → s.upd.pkg = some p → ∃ t, exec .verifyDone s = .next t ∧
    ((ustate t = 0 ∧ t.upd.pkg = none ∧ getF t F.UPD_STAT_LASTCODE ≠ 0) ∨
      (ustate t = 1 ∧ getF t F.UPD_STAT_LASTCODE = Status.integrity.code) ∨
      (ustate t = 3 ∧ ∃ q, t.upd.pkg = some q ∧ q.id = p.id ∧ q.manifest = p.manifest ∧ q.held = p.held)) ∧
    (∀ i ∈ partsOf p.manifest 1 ++ partsOf p.manifest 2,
      imageOk (partType p.manifest i) (partBytes s (stagingSlot s) p.manifest i) = false →
      t.upd.pkg = none ∧ getF t F.UPD_STAT_LASTCODE = Status.integrity.code)) ∧
  (∀ dt a s, QueuesOk s → blkOn (advance dt s) 0x17 = true → ustate s = 4 → s.upd.arm = some a → s.thm.shut = none →
    (cadenceOn (advance dt s) = false ∨ (isTile s = true ∧ mafter 32 s.lmp.nextA a.frame = true) ∨
      (isTile s = false ∧ matOrAfter 32 (getF s F.FRT_FRAME_FRAME) a.frame = true)) →
    ∃ t, exec (.activationInstant dt) s = .next t ∧ t.upd.arm = none ∧
      ∃ r, .state r ∈ t.upd.ops ∧ r.cand = some (stagingSlot s) ∧ r.tries = 0) ∧
  (∀ s, blkOn s 0x17 = true → ustate s = 5 → trialOk s = true → recBusy s = false → s.thm.shut = none →
    ∃ t r, exec .trialConfirm s = .next t ∧ t.upd.ops = s.upd.ops ++ [.state r] ∧ r.cur = s.upd.running ∧ r.cand = none) ∧
  (∀ dt a s, QueuesOk s → blkOn (advance dt s) 0x17 = true → s.upd.readyAt = some a → ustate s = 5 →
    a + getF s F.UPD_CFG_CONFS * 1000000000 ≤ upNs (advance dt s) → recBusy s = false →
    ∃ t, exec (.confirmWindowExpiry dt) s = .next t ∧ getF t F.GLB_RSTCAUSE_WARMSW = 1 ∧
      (s.boot.warm = .none → t.boot.warm = .requested)) ∧
  (∀ len s, len < 2 ^ 23 → WriteOk s R.UPD_RECOV (F.UPD_RECOV_GO.put (F.UPD_RECOV_LEN.put 0#32 len) 1) →
    ∃ t, exec (.recoveryGo len) s = .next t ∧
      (imageOk 1 (rdBytes recovFill s.upd.recov 0 len) = false → getF t F.UPD_RECOV_CODE = Status.integrity.code ∧ stage t = 9) ∧
      (imageOk 1 (rdBytes recovFill s.upd.recov 0 len) = true → s.sec.svn ≤ imageSvn (rdBytes recovFill s.upd.recov 0 len) →
        stage t = 4 ∧ getF t F.UPD_STAT_RECOVERY = 1))

/-- PUSH and HOSTIMG. A unicast PUSH of a sender first asks about 1,024 parcels under a fresh LID; a broadcast one that no cap
delays sends its parcels at once and ends; the reply that a PUSH awaits ends it where it carries a code, or where nothing is left;
HOSTIMG measures the part it copies into M5, and is refused with RANGE where the running slot has no such part. -/
def Obligations.PushAndHostImage : Prop :=
  (∀ host it x b z s, QueuesOk s → EntryTaken s 0x17 0x61 it x → updWaits s it = false → updReserved it.entry = true →
    isSender x = true → updFetch x it.entry (4096 * leAt it.entry 10 2) host = (.ok b, z) → ∃ t, exec (.pushEntry host) s = .next t ∧
      (isBroadcast (leAt it.entry 2 2) = false → ∃ y ∈ t.upd.pushes, y.item = it ∧ y.data = b ∧ y.sent = 0 ∧
        y.next = leAt it.entry 4 4 + 1024 ∧ y.wait = some (x.chn.nextLid, true)) ∧
      (isBroadcast (leAt it.entry 2 2) = true → getF x F.UPD_TXCFG_RATE = 0 → (∀ p, pushAt x p ≤ upNs x) →
        ∀ y ∈ t.upd.pushes, y.item ≠ it)) ∧
  (∀ l rest y ys s, QueuesOk s → blkOn s 0x17 = true → isSender s = true → s.chn.letters = l :: rest → s.upd.pushes = y :: ys →
    isReply s l = true → pushAwaits l y = true → l.lfl.testBit 0 = false → ∃ t, exec .pushReply s = .next t ∧
      (byteAt l.content 0 ≠ 0 → t.chn.letters = rest ∧ t.upd.pushes = s.upd.pushes.filter (fun z => z.item != y.item)) ∧
      (byteAt l.content 0 = 0 → y.wait.any Prod.snd = false → y.left = [] → leAt y.item.entry 4 4 + leAt y.item.entry 10 2 ≤ y.next →
        t.chn.letters = rest ∧ t.upd.pushes = s.upd.pushes.filter (fun z => z.item != y.item))) ∧
  (∀ it x s, QueuesOk s → EntryTaken s 0x17 0x65 it x → updReserved it.entry = true → ∃ t, exec .hostimgEntry s = .next t ∧
    (∀ i, (partsOf (slotManifest x x.upd.running) 6)[byteAt it.entry 1]? = some i →
      partInherit (slotManifest x x.upd.running) i = false →
      updArea x it.entry (partLen (slotManifest x x.upd.running) i) = .ok → ∀ k, k < 8 → meas t k =
        if k = 5 then sha (meas x 5 ++ fit 64 (sha (flashRd x x.upd.running (partOff (slotManifest x x.upd.running) i)
          (partLen (slotManifest x x.upd.running) i)))) else meas x k) ∧
    ((partsOf (slotManifest x x.upd.running) 6)[byteAt it.entry 1]? = none → updArea x it.entry 0 = .ok →
      t = updDone x it .range 0 0xFF))
end

