-- ==== Sys2Proof/Laws/Table.lean ====
section
/-! SUPPORT. Sparse tables: what a read after a write gives, and that every operation keeps the canonical form. -/

namespace Sys2Proof.Machine

/-- The canonical form as a predicate: keys strictly rising and no entry equal to the value of an unlisted key. -/
theorem tcanon_iff {α : Type} [DecidableEq α] (d : Nat → α) (m : List (Nat × α)) :
    tcanon d m = true ↔ m.Pairwise (fun a b => a.1 < b.1) ∧ ∀ e ∈ m, e.2 ≠ d e.1 := by
  induction m with
  | nil => simp [tcanon]
  | cons e t ih =>
    cases t with
    | nil => simp [tcanon]
    | cons f u =>
      rw [tcanon, Bool.and_eq_true, Bool.and_eq_true, ih]
      simp only [decide_eq_true_eq, List.pairwise_cons, List.mem_cons, forall_eq_or_imp]
      constructor
      · rintro ⟨⟨h1, h2⟩, ⟨h3, h4⟩, h5, h6⟩
        exact ⟨⟨⟨h2, fun x hx => lt_trans h2 (h3 x hx)⟩, h3, h4⟩, h1, h5, h6⟩
      · rintro ⟨⟨⟨h1, h2⟩, h3, h4⟩, h5, h6, h7⟩
        exact ⟨⟨h5, h1⟩, ⟨h3, h4⟩, h6, h7⟩

/-- Dropping entries keeps the canonical form. -/
theorem tcanon_filter {α : Type} [DecidableEq α] {d : Nat → α} {m : List (Nat × α)} (p : Nat × α → Bool)
    (h : tcanon d m = true) : tcanon d (m.filter p) = true := by
  rw [tcanon_iff] at *
  exact ⟨h.1.filter p, fun e he => h.2 e (List.mem_filter.1 he).1⟩

theorem mem_tins {α : Type} {k : Nat} {v : α} {m : List (Nat × α)} {e : Nat × α} :
    e ∈ tins k v m ↔ e = (k, v) ∨ e ∈ m := by
  induction m with
  | nil => simp [tins]
  | cons a t ih =>
    rw [tins]; split
    · simp
    · simp [ih]; tauto

theorem tins_pairwise {α : Type} {k : Nat} {v : α} {m : List (Nat × α)} (h : m.Pairwise (fun a b => a.1 < b.1))
    (hk : ∀ e ∈ m, e.1 ≠ k) : (tins k v m).Pairwise (fun a b => a.1 < b.1) := by
  induction m with
  | nil => simp [tins]
  | cons a t ih =>
    rw [tins]
    rw [List.pairwise_cons] at h
    split
    · rename_i hlt
      refine List.pairwise_cons.2 ⟨?_, List.pairwise_cons.2 h⟩
      intro b hb
      rcases List.mem_cons.1 hb with rfl | hb
      · exact hlt
      · exact lt_trans hlt (h.1 b hb)
    · rename_i hlt
      refine List.pairwise_cons.2 ⟨?_, ih h.2 (fun e he => hk e (List.mem_cons_of_mem _ he))⟩
      intro b hb
      rcases mem_tins.1 hb with rfl | hb
      · have := hk a (List.mem_cons_self ..)
        show a.1 < k
        omega
      · exact h.1 b hb

/-- A write keeps the canonical form. -/
theorem tcanon_tset {α : Type} [DecidableEq α] {d : Nat → α} {m : List (Nat × α)} (k : Nat) (v : α)
    (h : tcanon d m = true) : tcanon d (tset (d k) m k v) = true := by
  unfold tset
  dsimp only
  split
  · exact tcanon_filter _ h
  · rename_i hv
    rw [tcanon_iff] at *
    refine ⟨tins_pairwise (h.1.filter _) ?_, ?_⟩
    · intro e he hk
      simp [hk] at he
    · intro e he
      rcases mem_tins.1 he with rfl | he
      · exact hv
      · exact h.2 e (List.mem_filter.1 he).1

theorem find_tins_same {α : Type} {k : Nat} {v : α} {m : List (Nat × α)} (hk : ∀ e ∈ m, e.1 ≠ k) :
    (tins k v m).find? (fun e => e.1 == k) = some (k, v) := by
  induction m with
  | nil => simp [tins]
  | cons a t ih =>
    rw [tins]; split
    · simp
    · have ha : a.1 ≠ k := hk a (List.mem_cons_self ..)
      rw [List.find?_cons_of_neg (by simpa using ha)]
      exact ih (fun e he => hk e (List.mem_cons_of_mem _ he))

theorem find_tins_ne {α : Type} {k j : Nat} {v : α} {m : List (Nat × α)} (h : j ≠ k) :
    (tins k v m).find? (fun e => e.1 == j) = m.find? (fun e => e.1 == j) := by
  induction m with
  | nil => simp [tins, Ne.symm h]
  | cons a t ih =>
    rw [tins]; split
    · rw [List.find?_cons_of_neg (by simpa using Ne.symm h)]
    · by_cases ha : a.1 = j
      · simp [ha]
      · rw [List.find?_cons_of_neg (by simpa using ha), List.find?_cons_of_neg (by simpa using ha)]
        exact ih

theorem find_filter_ne {α : Type} {k j : Nat} {m : List (Nat × α)} (h : j ≠ k) :
    (m.filter (fun e => e.1 != k)).find? (fun e => e.1 == j) = m.find? (fun e => e.1 == j) := by
  induction m with
  | nil => rfl
  | cons a t ih =>
    by_cases ha : a.1 = k
    · rw [List.filter_cons_of_neg (by simp [ha]), List.find?_cons_of_neg (by simp [ha, Ne.symm h])]
      exact ih
    · rw [List.filter_cons_of_pos (by simp [ha])]
      by_cases hj : a.1 = j
      · simp [hj]
      · rw [List.find?_cons_of_neg (by simpa using hj), List.find?_cons_of_neg (by simpa using hj)]
        exact ih

/-- A read after a write to the same key gives the value written. -/
theorem tget_tset_same {α : Type} [DecidableEq α] (d : α) (m : List (Nat × α)) (k : Nat) (v : α) :
    tget d (tset d m k v) k = v := by
  have hk : ∀ e ∈ m.filter (fun e => e.1 != k), e.1 ≠ k := by
    intro e he
    simpa using (List.mem_filter.1 he).2
  unfold tset
  dsimp only
  split
  · rename_i hv
    have : (m.filter (fun e => e.1 != k)).find? (fun e => e.1 == k) = none := by
      rw [List.find?_eq_none]
      intro e he
      simpa using hk e he
    simp [tget, this, hv]
  · simp [tget, find_tins_same hk]

/-- A write leaves every other key alone. -/
theorem tget_tset_ne {α : Type} [DecidableEq α] (d d' : α) (m : List (Nat × α)) {k j : Nat} (v : α) (h : j ≠ k) :
    tget d' (tset d m k v) j = tget d' m j := by
  unfold tset
  dsimp only
  split
  · simp [tget, find_filter_ne h]
  · simp [tget, find_tins_ne h, find_filter_ne h]

end Sys2Proof.Machine
end

