-- ==== Sys2Proof/Laws/Regs.lean ====
section
/-! SUPPORT. Registers and fields: what is read after a word or a field is written, and how stores keep the canonical form of the
memories. -/

namespace Sys2Proof.Machine

/-- A register read after it is written gives the word written. -/
@[simp] theorem word_setWord_same (s : State) (off : Nat) (w : Word) : (s.setWord off w).word off = w :=
  tget_tset_same _ _ _ _

/-- Writing a register leaves the others alone. -/
theorem word_setWord_ne (s : State) {off o : Nat} (w : Word) (h : o ≠ off) : (s.setWord off w).word o = s.word o :=
  tget_tset_ne _ _ _ _ h

/-- Bits replaced and read back. -/
theorem bits_putBits_same (n lo w v : Nat) : bits (putBits n lo w v) lo w = v % 2 ^ w := by
  unfold bits putBits
  have h1 : n % 2 ^ lo < 2 ^ lo := Nat.mod_lt _ (by positivity)
  have e : n / 2 ^ (lo + w) * 2 ^ (lo + w) + v % 2 ^ w * 2 ^ lo + n % 2 ^ lo
      = (n / 2 ^ (lo + w) * 2 ^ w + v % 2 ^ w) * 2 ^ lo + n % 2 ^ lo := by
    rw [Nat.add_mul, Nat.mul_assoc, Nat.mul_comm (2 ^ w), ← pow_add]
  rw [e, Nat.add_comm, Nat.add_mul_div_right _ _ (by positivity), Nat.div_eq_of_lt h1, Nat.zero_add, Nat.add_comm,
    Nat.add_mul_mod_self_right, Nat.mod_mod]

theorem putBits_testBit (n lo w v k : Nat) :
    (putBits n lo w v).testBit k = if lo ≤ k ∧ k < lo + w then v.testBit (k - lo) else n.testBit k := by
  unfold putBits
  have h1 : n % 2 ^ lo < 2 ^ lo := Nat.mod_lt _ (by positivity)
  have h2 : v % 2 ^ w * 2 ^ lo + n % 2 ^ lo < 2 ^ (lo + w) := by
    have h3 : v % 2 ^ w + 1 ≤ 2 ^ w := Nat.mod_lt _ (by positivity)
    calc v % 2 ^ w * 2 ^ lo + n % 2 ^ lo < v % 2 ^ w * 2 ^ lo + 2 ^ lo := by omega
      _ = (v % 2 ^ w + 1) * 2 ^ lo := by ring
      _ ≤ 2 ^ w * 2 ^ lo := Nat.mul_le_mul_right _ h3
      _ = 2 ^ (lo + w) := by rw [← pow_add, Nat.add_comm]
  rw [Nat.add_assoc, Nat.mul_comm, Nat.testBit_two_pow_mul_add _ h2, Nat.mul_comm (v % 2 ^ w), Nat.testBit_two_pow_mul_add _ h1]
  by_cases hk : k < lo
  · have : ¬ (lo ≤ k ∧ k < lo + w) := by omega
    simp [hk, show k < lo + w by omega]
  · by_cases hk2 : k < lo + w
    · have : lo ≤ k ∧ k < lo + w := by omega
      simp [hk, this, show k - lo < w by omega]
    · have : ¬ (lo ≤ k ∧ k < lo + w) := by omega
      simp only [hk2, and_false, if_false]
      rw [Nat.testBit_div_two_pow, show k - (lo + w) + (lo + w) = k by omega]

theorem bits_testBit (n lo w k : Nat) : (bits n lo w).testBit k = (decide (k < w) && n.testBit (lo + k)) := by
  unfold bits
  rw [Nat.testBit_mod_two_pow, Nat.testBit_div_two_pow, Nat.add_comm lo k]

/-- Replacing bits leaves the bits outside them alone. -/
theorem bits_putBits_apart (n lo w v lo' w' : Nat) (h : lo + w ≤ lo' ∨ lo' + w' ≤ lo) :
    bits (putBits n lo w v) lo' w' = bits n lo' w' := by
  apply Nat.eq_of_testBit_eq
  intro k
  rw [bits_testBit, bits_testBit, putBits_testBit]
  by_cases hk : k < w'
  · have : ¬ (lo ≤ lo' + k ∧ lo' + k < lo + w) := by omega
    simp [this]
  · simp [hk]

/-- Bits of a number cut to 32 bits. -/
theorem bits_mod32 (n lo w : Nat) (h : lo + w ≤ 32) : bits (n % 2 ^ 32) lo w = bits n lo w := by
  apply Nat.eq_of_testBit_eq
  intro k
  rw [bits_testBit, bits_testBit, Nat.testBit_mod_two_pow]
  by_cases hk : k < w
  · simp [show lo + k < 32 by omega]
  · simp [hk]

/-- A field put into a word and read back. -/
theorem get_put_same (f : Fld) (w : Word) (v : Nat) (h : f.lo + f.width ≤ 32) : f.get (f.put w v) = v % 2 ^ f.width := by
  unfold Fld.get Fld.put
  rw [BitVec.toNat_ofNat, bits_mod32 _ _ _ h, bits_putBits_same]

/-- A field put into a word leaves the other fields of the word alone. -/
theorem get_put_apart (f g : Fld) (w : Word) (v : Nat) (hg : g.lo + g.width ≤ 32)
    (h : f.lo + f.width ≤ g.lo ∨ g.lo + g.width ≤ f.lo) : g.get (f.put w v) = g.get w := by
  unfold Fld.get Fld.put
  rw [BitVec.toNat_ofNat, bits_mod32 _ _ _ hg, bits_putBits_apart _ _ _ _ _ _ h]

/-- A field written and read back. -/
theorem getF_setF_same (s : State) (f : Fld) (v : Nat) (h : f.lo + f.width ≤ 32) : getF (setF s f v) f = v % 2 ^ f.width := by
  simp [getF, setF, get_put_same f _ v h]

/-- Writing a field leaves the registers at other offsets alone. -/
theorem word_setF_ne (s : State) (f : Fld) (v : Nat) {o : Nat} (h : o ≠ f.off) : (setF s f v).word o = s.word o :=
  word_setWord_ne s _ h

/-- Writing a field leaves the fields of other registers alone. -/
theorem getF_setF_ne (s : State) (f g : Fld) (v : Nat) (h : g.off ≠ f.off) : getF (setF s f v) g = getF s g := by
  simp [getF, word_setF_ne s f v h]

/-- Writing a field leaves the other fields of its register alone. -/
theorem getF_setF_apart (s : State) (f g : Fld) (v : Nat) (ho : g.off = f.off) (hg : g.lo + g.width ≤ 32)
    (h : f.lo + f.width ≤ g.lo ∨ g.lo + g.width ≤ f.lo) : getF (setF s f v) g = getF s g := by
  simp only [getF, setF, ho, word_setWord_same]
  exact get_put_apart f g _ v hg h

/-- Do two fields lie apart: in different registers, or in different bits? -/
def Fld.apart (f g : Fld) : Bool :=
  f.off != g.off || decide (f.lo + f.width ≤ g.lo) || decide (g.lo + g.width ≤ f.lo)

/-- Writing a field leaves every field apart from it alone. -/
theorem getF_setF_other (s : State) {f g : Fld} (v : Nat) (h : f.apart g = true) (hg : g.lo + g.width ≤ 32) :
    getF (setF s f v) g = getF s g := by
  by_cases ho : g.off = f.off
  · refine getF_setF_apart s f g v ho hg ?_
    simpa [Fld.apart, ho] using h
  · exact getF_setF_ne s f g v ho

/-- Every field value is below its bound. -/
theorem getF_lt (s : State) (f : Fld) : getF s f < 2 ^ f.width := Nat.mod_lt _ (by positivity)

/-- A store of bytes keeps the canonical form of a memory. -/
theorem tcanon_wrBytes {d : Byte} {m : List Host.Cell} (a : Nat) (b : Bytes) (h : tcanon (fun _ => d) m = true) :
    tcanon (fun _ => d) (wrBytes d m a b) = true := by
  induction b generalizing m a with
  | nil => exact h
  | cons x t ih => exact ih (a + 1) (tcanon_tset (d := fun _ => d) a x h)

/-- A store of bytes leaves every byte outside them alone. -/
theorem rdByte_wrBytes_out (d : Byte) (m : List Host.Cell) (a : Nat) (b : Bytes) (i : Nat) (h : i < a ∨ a + b.length ≤ i) :
    rdByte d (wrBytes d m a b) i = rdByte d m i := by
  induction b generalizing m a with
  | nil => rfl
  | cons x t ih =>
    simp only [List.length_cons] at h
    rw [wrBytes, ih _ _ (by omega)]
    exact tget_tset_ne _ _ _ _ (by omega)

/-- A store of bytes read back. -/
theorem rdByte_wrBytes_in (d : Byte) (m : List Host.Cell) (a : Nat) (b : Bytes) (i : Nat) (h : i < b.length) :
    rdByte d (wrBytes d m a b) (a + i) = b[i] := by
  induction b generalizing m a i with
  | nil => simp at h
  | cons x t ih =>
    rw [wrBytes]
    cases i with
    | zero =>
      rw [Nat.add_zero, rdByte_wrBytes_out _ _ _ _ _ (by omega)]
      exact tget_tset_same _ _ _ _
    | succ i =>
      simp only [List.length_cons] at h
      have := ih (tset d m a x) (a + 1) i (by omega)
      rw [show a + (i + 1) = a + 1 + i by omega, this]
      rfl

end Sys2Proof.Machine
end

