-- ==== Sys2Proof/Laws/Keeps.lean ====
section
/-! SUPPORT. The relation `Keeps` and the updates that preserve it: one lemma per shape of record update. -/

namespace Sys2Proof.Machine

theorem Part.same_refl (p : Part) (s : State) : p.same s s := by cases p <;> rfl

theorem Part.same_trans {p : Part} {s t u : State} (h : p.same s t) (k : p.same t u) : p.same s u := by
  cases p <;> exact Eq.trans k h

theorem Keeps.same {W : List Part} {s : State} : Keeps W s s := ⟨.refl _, id, fun p _ => p.same_refl s⟩

theorem Keeps.trans {W : List Part} {s t u : State} (h : Keeps W s t) (k : Keeps W t u) : Keeps W s u :=
  ⟨k.1.trans h.1, fun w => k.2.1 (h.2.1 w), fun p hp => Part.same_trans (h.2.2 p hp) (k.2.2 p hp)⟩

theorem Keeps.mono {W V : List Part} {s t : State} (h : Keeps W s t) (hs : ∀ p ∈ W, p ∈ V) : Keeps V s t :=
  ⟨h.1, h.2.1, fun p hp => h.2.2 p (fun hq => hp (hs p hq))⟩

theorem Keeps.leaf {W : List Part} {r s t : State} (h : Keeps W r s) (hp : t.pending = s.pending)
    (hw : s.wf = true → t.wf = true) (hs : ∀ p, p ∉ W → p.same s t) : Keeps W r t :=
  h.trans ⟨hp, hw, hs⟩

theorem Part.same_symm {p : Part} {s t : State} (h : p.same s t) : p.same t s := by
  cases p <;> exact Eq.symm h

/-- Two states that differ only in parts of `W`. -/
theorem Keeps.iff_of {W : List Part} {r s t : State} (hp : t.pending = s.pending) (hw : t.wf = s.wf)
    (hs : ∀ p, p ∉ W → p.same s t) : Keeps W r t ↔ Keeps W r s :=
  ⟨fun h => h.trans ⟨hp.symm, fun w => hw ▸ w, fun p hn => Part.same_symm (hs p hn)⟩,
   fun h => h.trans ⟨hp, fun w => hw ▸ w, hs⟩⟩

/-- A state taken from a pair. -/
theorem Keeps.of_snd {α : Type} {W : List Part} {r t : State} {a : α} {e : α × State} (he : e = (a, t)) (h : Keeps W r e.2) :
    Keeps W r t := by subst he; exact h

theorem Keeps.of_fst {α : Type} {W : List Part} {r t : State} {a : α} {e : State × α} (he : e = (t, a)) (h : Keeps W r e.1) :
    Keeps W r t := by subst he; exact h

theorem Keeps.of_snd2 {α β : Type} {W : List Part} {r t : State} {a : α} {b : β} {e : α × β × State} (he : e = (a, b, t))
    (h : Keeps W r e.2.2) : Keeps W r t := by subst he; exact h

/-- `Keeps` for a part of a pair; these names keep the kernel from reducing the pair. -/
def KeepsFst {β : Type} (W : List Part) (r : State) (q : State × β) : Prop := Keeps W r q.1
def KeepsSnd {β : Type} (W : List Part) (r : State) (q : β × State) : Prop := Keeps W r q.2
def KeepsSnd2 {β γ : Type} (W : List Part) (r : State) (q : β × γ × State) : Prop := Keeps W r q.2.2

theorem Keeps.fst {β : Type} {W : List Part} {r : State} {q : State × β} (h : Keeps W r q.1) : KeepsFst W r q := h
theorem Keeps.snd {β : Type} {W : List Part} {r : State} {q : β × State} (h : Keeps W r q.2) : KeepsSnd W r q := h
theorem Keeps.snd2 {β γ : Type} {W : List Part} {r : State} {q : β × γ × State} (h : Keeps W r q.2.2) : KeepsSnd2 W r q := h

theorem Keeps.foldl {α : Type} {W : List Part} {r s : State} {f : State → α → State} {l : List α}
    (hf : ∀ t x, Keeps W r t → Keeps W r (f t x)) (h : Keeps W r s) : Keeps W r (l.foldl f s) := by
  induction l generalizing s with
  | nil => exact h
  | cons x l ih => exact ih (hf s x h)

theorem Keeps.foldl_snd {α β : Type} {W : List Part} {r : State} {p : β × State} {f : β × State → α → β × State} {l : List α}
    (hf : ∀ q x, Keeps W r q.2 → KeepsSnd W r (f q x)) (h : Keeps W r p.2) : Keeps W r (l.foldl f p).2 := by
  induction l generalizing p with
  | nil => exact h
  | cons x l ih => exact ih (hf p x h)

theorem Keeps.foldl_fst {α β : Type} {W : List Part} {r : State} {p : State × β} {f : State × β → α → State × β} {l : List α}
    (hf : ∀ q x, Keeps W r q.1 → KeepsFst W r (f q x)) (h : Keeps W r p.1) : Keeps W r (l.foldl f p).1 := by
  induction l generalizing p with
  | nil => exact h
  | cons x l ih => exact ih (hf p x h)

theorem Keeps.foldl_snd2 {α β γ : Type} {W : List Part} {r : State} {p : β × γ × State} {f : β × γ × State → α → β × γ × State}
    {l : List α} (hf : ∀ q x, Keeps W r q.2.2 → KeepsSnd2 W r (f q x)) (h : Keeps W r p.2.2) : Keeps W r (l.foldl f p).2.2 := by
  induction l generalizing p with
  | nil => exact h
  | cons x l ih => exact ih (hf p x h)

/-! ### Primitive updates -/

theorem setWord_keeps {W : List Part} {r : State} (s : State) (off : Nat) (w : Word) (h_regs : Part.regs ∈ W) (h : Keeps W r s) :
    Keeps W r (s.setWord off w) := by
  refine h.leaf rfl (fun hw => ?_) (fun p hp => by cases p <;> first | rfl | exact absurd h_regs hp)
  simp only [State.wf, State.setWord, Bool.and_eq_true] at hw ⊢
  exact ⟨⟨⟨⟨tcanon_tset (d := regFill) off w hw.1.1.1.1, hw.1.1.1.2⟩, hw.1.1.2⟩, hw.1.2⟩, hw.2⟩

theorem setF_keeps {W : List Part} {r : State} (s : State) (f : Fld) (v : Nat) (h_regs : Part.regs ∈ W) (h : Keeps W r s) :
    Keeps W r (setF s f v) := setWord_keeps s _ _ h_regs h

theorem resetRegs_keeps {W : List Part} {r : State} (s : State) (lo hi : Nat) (h_regs : Part.regs ∈ W) (h : Keeps W r s) :
    Keeps W r (resetRegs s lo hi) := by
  refine h.leaf rfl (fun hw => ?_) (fun p hp => by cases p <;> first | rfl | exact absurd h_regs hp)
  simp only [State.wf, resetRegs, Bool.and_eq_true] at hw ⊢
  exact ⟨⟨⟨⟨tcanon_filter _ hw.1.1.1.1, hw.1.1.1.2⟩, hw.1.1.2⟩, hw.1.2⟩, hw.2⟩

theorem dramWr_keeps {W : List Part} {r : State} (s : State) (a : Nat) (b : Bytes) (h_dram : Part.dram ∈ W) (h_drc : Part.drc ∈ W)
    (h : Keeps W r s) : Keeps W r (dramWr s a b) := by
  refine h.leaf rfl (fun hw => ?_)
    (fun p hp => by cases p <;> first | rfl | exact absurd h_dram hp | exact absurd h_drc hp)
  simp only [State.wf, dramWr, Bool.and_eq_true] at hw ⊢
  exact ⟨⟨⟨⟨hw.1.1.1.1, tcanon_wrBytes a b hw.1.1.1.2⟩, hw.1.1.2⟩, hw.1.2⟩, hw.2⟩

theorem ringWr_keeps {W : List Part} {r : State} (s : State) (a : Nat) (b : Bytes) (h_ring : Part.ring ∈ W) (h : Keeps W r s) :
    Keeps W r (ringWr s a b) := by
  refine h.leaf rfl (fun hw => ?_) (fun p hp => by cases p <;> first | rfl | exact absurd h_ring hp)
  simp only [State.wf, ringWr, Bool.and_eq_true] at hw ⊢
  exact ⟨⟨⟨⟨hw.1.1.1.1, hw.1.1.1.2⟩, tcanon_wrBytes a b hw.1.1.2⟩, hw.1.2⟩, hw.2⟩

/-! ### Record updates -/

theorem Keeps.boot {W : List Part} {r s : State} {v_boot : BootSt} (h_boot : Part.boot ∈ W) :
    Keeps W r { s with boot := v_boot } ↔ Keeps W r s :=
  Keeps.iff_of rfl (by simp only [State.wf]) (fun p hp => by cases p <;> first | rfl | exact absurd (by assumption) hp)

theorem Keeps.boot_hif_sec {W : List Part} {r s : State} {v_boot : BootSt} {v_hif : HifSt} {v_sec : SecSt} (h_boot : Part.boot ∈ W) (h_hif : Part.hif ∈ W) (h_sec : Part.sec ∈ W) (hfu : (v_sec.life, v_sec.idkey, v_sec.svn, v_sec.owner, v_sec.ownTries) =
    (s.sec.life, s.sec.idkey, s.sec.svn, s.sec.owner, s.sec.ownTries)) :
    Keeps W r { s with boot := v_boot, hif := v_hif, sec := v_sec } ↔ Keeps W r s :=
  Keeps.iff_of rfl (by simp only [State.wf]) (fun p hp => by cases p <;> first | rfl | exact hfu | exact absurd (by assumption) hp)

theorem Keeps.boot_upd {W : List Part} {r s : State} {v_boot : BootSt} {v_upd : UpdSt} (h_boot : Part.boot ∈ W) (h_upd : Part.upd ∈ W) (hfl : v_upd.flash = s.upd.flash) (hrc : v_upd.recov = s.upd.recov) :
    Keeps W r { s with boot := v_boot, upd := v_upd } ↔ Keeps W r s :=
  Keeps.iff_of rfl (by simp only [State.wf, hfl, hrc]) (fun p hp => by cases p <;> first | rfl | exact hfl | exact hrc | exact absurd (by assumption) hp)

theorem Keeps.cal {W : List Part} {r s : State} {v_cal : CalSt} (h_cal : Part.cal ∈ W) :
    Keeps W r { s with cal := v_cal } ↔ Keeps W r s :=
  Keeps.iff_of rfl (by simp only [State.wf]) (fun p hp => by cases p <;> first | rfl | exact absurd (by assumption) hp)

theorem Keeps.chn {W : List Part} {r s : State} {v_chn : ChnSt} (h_chn : Part.chn ∈ W) :
    Keeps W r { s with chn := v_chn } ↔ Keeps W r s :=
  Keeps.iff_of rfl (by simp only [State.wf]) (fun p hp => by cases p <;> first | rfl | exact absurd (by assumption) hp)

theorem Keeps.chn_sec_lmp {W : List Part} {r s : State} {v_chn : ChnSt} {v_sec : SecSt} {v_lmp : LmpSt} (h_chn : Part.chn ∈ W) (h_sec : Part.sec ∈ W) (h_lmp : Part.lmp ∈ W) (hfu : (v_sec.life, v_sec.idkey, v_sec.svn, v_sec.owner, v_sec.ownTries) =
    (s.sec.life, s.sec.idkey, s.sec.svn, s.sec.owner, s.sec.ownTries)) :
    Keeps W r { s with chn := v_chn, sec := v_sec, lmp := v_lmp } ↔ Keeps W r s :=
  Keeps.iff_of rfl (by simp only [State.wf]) (fun p hp => by cases p <;> first | rfl | exact hfu | exact absurd (by assumption) hp)

theorem Keeps.chn_tan {W : List Part} {r s : State} {v_chn : ChnSt} {v_tan : TanSt} (h_chn : Part.chn ∈ W) (h_tan : Part.tan ∈ W) :
    Keeps W r { s with chn := v_chn, tan := v_tan } ↔ Keeps W r s :=
  Keeps.iff_of rfl (by simp only [State.wf]) (fun p hp => by cases p <;> first | rfl | exact absurd (by assumption) hp)

theorem Keeps.cmp {W : List Part} {r s : State} {v_cmp : CmpSt} (h_cmp : Part.cmp ∈ W) :
    Keeps W r { s with cmp := v_cmp } ↔ Keeps W r s :=
  Keeps.iff_of rfl (by simp only [State.wf]) (fun p hp => by cases p <;> first | rfl | exact absurd (by assumption) hp)

theorem Keeps.cmp_frt {W : List Part} {r s : State} {v_cmp : CmpSt} {v_frt : FrtSt} (h_cmp : Part.cmp ∈ W) (h_frt : Part.frt ∈ W) :
    Keeps W r { s with cmp := v_cmp, frt := v_frt } ↔ Keeps W r s :=
  Keeps.iff_of rfl (by simp only [State.wf]) (fun p hp => by cases p <;> first | rfl | exact absurd (by assumption) hp)

theorem Keeps.dma {W : List Part} {r s : State} {v_dma : List (Nat × Chan)} (h_dma : Part.dma ∈ W) :
    Keeps W r { s with dma := v_dma } ↔ Keeps W r s :=
  Keeps.iff_of rfl (by simp only [State.wf]) (fun p hp => by cases p <;> first | rfl | exact absurd (by assumption) hp)

theorem Keeps.drc {W : List Part} {r s : State} {v_drc : DrcSt} (h_drc : Part.drc ∈ W) :
    Keeps W r { s with drc := v_drc } ↔ Keeps W r s :=
  Keeps.iff_of rfl (by simp only [State.wf]) (fun p hp => by cases p <;> first | rfl | exact absurd (by assumption) hp)

theorem Keeps.free {W : List Part} {r s : State} {v_free : Nat} (h_free : Part.free ∈ W) :
    Keeps W r { s with free := v_free } ↔ Keeps W r s :=
  Keeps.iff_of rfl (by simp only [State.wf]) (fun p hp => by cases p <;> first | rfl | exact absurd (by assumption) hp)

theorem Keeps.frt {W : List Part} {r s : State} {v_frt : FrtSt} (h_frt : Part.frt ∈ W) :
    Keeps W r { s with frt := v_frt } ↔ Keeps W r s :=
  Keeps.iff_of rfl (by simp only [State.wf]) (fun p hp => by cases p <;> first | rfl | exact absurd (by assumption) hp)

theorem Keeps.chn_cmp_frt {W : List Part} {r s : State} {v_chn : ChnSt} {v_cmp : CmpSt} {v_frt : FrtSt} (h_chn : Part.chn ∈ W) (h_cmp : Part.cmp ∈ W) (h_frt : Part.frt ∈ W) :
    Keeps W r { s with chn := v_chn, cmp := v_cmp, frt := v_frt } ↔ Keeps W r s :=
  Keeps.iff_of rfl (by simp only [State.wf]) (fun p hp => by cases p <;> first | rfl | exact absurd (by assumption) hp)

theorem Keeps.hif {W : List Part} {r s : State} {v_hif : HifSt} (h_hif : Part.hif ∈ W) :
    Keeps W r { s with hif := v_hif } ↔ Keeps W r s :=
  Keeps.iff_of rfl (by simp only [State.wf]) (fun p hp => by cases p <;> first | rfl | exact absurd (by assumption) hp)

theorem Keeps.lmp {W : List Part} {r s : State} {v_lmp : LmpSt} (h_lmp : Part.lmp ∈ W) :
    Keeps W r { s with lmp := v_lmp } ↔ Keeps W r s :=
  Keeps.iff_of rfl (by simp only [State.wf]) (fun p hp => by cases p <;> first | rfl | exact absurd (by assumption) hp)

theorem Keeps.chn_lmp {W : List Part} {r s : State} {v_chn : ChnSt} {v_lmp : LmpSt} (h_chn : Part.chn ∈ W) (h_lmp : Part.lmp ∈ W) :
    Keeps W r { s with chn := v_chn, lmp := v_lmp } ↔ Keeps W r s :=
  Keeps.iff_of rfl (by simp only [State.wf]) (fun p hp => by cases p <;> first | rfl | exact absurd (by assumption) hp)

theorem Keeps.lmp_spk {W : List Part} {r s : State} {v_lmp : LmpSt} {v_spk : SpkSt} (h_lmp : Part.lmp ∈ W) (h_spk : Part.spk ∈ W) :
    Keeps W r { s with lmp := v_lmp, spk := v_spk } ↔ Keeps W r s :=
  Keeps.iff_of rfl (by simp only [State.wf]) (fun p hp => by cases p <;> first | rfl | exact absurd (by assumption) hp)

theorem Keeps.lnk {W : List Part} {r s : State} {v_lnk : LnkSt} (h_lnk : Part.lnk ∈ W) :
    Keeps W r { s with lnk := v_lnk } ↔ Keeps W r s :=
  Keeps.iff_of rfl (by simp only [State.wf]) (fun p hp => by cases p <;> first | rfl | exact absurd (by assumption) hp)

theorem Keeps.out {W : List Part} {r s : State} {v_out : List Out} (h_out : Part.out ∈ W) :
    Keeps W r { s with out := v_out } ↔ Keeps W r s :=
  Keeps.iff_of rfl (by simp only [State.wf]) (fun p hp => by cases p <;> first | rfl | exact absurd (by assumption) hp)

theorem Keeps.queues {W : List Part} {r s : State} {v_queues : List (Nat × QRec)} (h_queues : Part.queues ∈ W) :
    Keeps W r { s with queues := v_queues } ↔ Keeps W r s :=
  Keeps.iff_of rfl (by simp only [State.wf]) (fun p hp => by cases p <;> first | rfl | exact absurd (by assumption) hp)

theorem Keeps.queues_sor {W : List Part} {r s : State} {v_queues : List (Nat × QRec)} {v_sor : SorSt} (h_queues : Part.queues ∈ W) (h_sor : Part.sor ∈ W) :
    Keeps W r { s with queues := v_queues, sor := v_sor } ↔ Keeps W r s :=
  Keeps.iff_of rfl (by simp only [State.wf]) (fun p hp => by cases p <;> first | rfl | exact absurd (by assumption) hp)

theorem Keeps.sec {W : List Part} {r s : State} {v_sec : SecSt} (h_sec : Part.sec ∈ W) (hfu : (v_sec.life, v_sec.idkey, v_sec.svn, v_sec.owner, v_sec.ownTries) =
    (s.sec.life, s.sec.idkey, s.sec.svn, s.sec.owner, s.sec.ownTries)) :
    Keeps W r { s with sec := v_sec } ↔ Keeps W r s :=
  Keeps.iff_of rfl (by simp only [State.wf]) (fun p hp => by cases p <;> first | rfl | exact hfu | exact absurd (by assumption) hp)

theorem Keeps.sor {W : List Part} {r s : State} {v_sor : SorSt} (h_sor : Part.sor ∈ W) :
    Keeps W r { s with sor := v_sor } ↔ Keeps W r s :=
  Keeps.iff_of rfl (by simp only [State.wf]) (fun p hp => by cases p <;> first | rfl | exact absurd (by assumption) hp)

theorem Keeps.spk {W : List Part} {r s : State} {v_spk : SpkSt} (h_spk : Part.spk ∈ W) :
    Keeps W r { s with spk := v_spk } ↔ Keeps W r s :=
  Keeps.iff_of rfl (by simp only [State.wf]) (fun p hp => by cases p <;> first | rfl | exact absurd (by assumption) hp)

theorem Keeps.srf {W : List Part} {r s : State} {v_srf : SrfSt} (h_srf : Part.srf ∈ W) :
    Keeps W r { s with srf := v_srf } ↔ Keeps W r s :=
  Keeps.iff_of rfl (by simp only [State.wf]) (fun p hp => by cases p <;> first | rfl | exact absurd (by assumption) hp)

theorem Keeps.tan {W : List Part} {r s : State} {v_tan : TanSt} (h_tan : Part.tan ∈ W) :
    Keeps W r { s with tan := v_tan } ↔ Keeps W r s :=
  Keeps.iff_of rfl (by simp only [State.wf]) (fun p hp => by cases p <;> first | rfl | exact absurd (by assumption) hp)

theorem Keeps.thm {W : List Part} {r s : State} {v_thm : ThmSt} (h_thm : Part.thm ∈ W) :
    Keeps W r { s with thm := v_thm } ↔ Keeps W r s :=
  Keeps.iff_of rfl (by simp only [State.wf]) (fun p hp => by cases p <;> first | rfl | exact absurd (by assumption) hp)

theorem Keeps.tim {W : List Part} {r s : State} {v_tim : TimSt} (h_tim : Part.tim ∈ W) :
    Keeps W r { s with tim := v_tim } ↔ Keeps W r s :=
  Keeps.iff_of rfl (by simp only [State.wf]) (fun p hp => by cases p <;> first | rfl | exact absurd (by assumption) hp)

theorem Keeps.tim_tan {W : List Part} {r s : State} {v_tim : TimSt} {v_tan : TanSt} (h_tim : Part.tim ∈ W) (h_tan : Part.tan ∈ W) :
    Keeps W r { s with tim := v_tim, tan := v_tan } ↔ Keeps W r s :=
  Keeps.iff_of rfl (by simp only [State.wf]) (fun p hp => by cases p <;> first | rfl | exact absurd (by assumption) hp)

theorem Keeps.time_up {W : List Part} {r s : State} {v_time : Nat} {v_up : Nat} (h_time : Part.time ∈ W) (h_up : Part.up ∈ W) :
    Keeps W r { s with time := v_time, up := v_up } ↔ Keeps W r s :=
  Keeps.iff_of rfl (by simp only [State.wf]) (fun p hp => by cases p <;> first | rfl | exact absurd (by assumption) hp)

theorem Keeps.time_wraps {W : List Part} {r s : State} {v_time : Nat} {v_wraps : Nat} (h_time : Part.time ∈ W) (h_wraps : Part.wraps ∈ W) :
    Keeps W r { s with time := v_time, wraps := v_wraps } ↔ Keeps W r s :=
  Keeps.iff_of rfl (by simp only [State.wf]) (fun p hp => by cases p <;> first | rfl | exact absurd (by assumption) hp)

theorem Keeps.upd {W : List Part} {r s : State} {v_upd : UpdSt} (h_upd : Part.upd ∈ W) (hfl : v_upd.flash = s.upd.flash) (hrc : v_upd.recov = s.upd.recov) :
    Keeps W r { s with upd := v_upd } ↔ Keeps W r s :=
  Keeps.iff_of rfl (by simp only [State.wf, hfl, hrc]) (fun p hp => by cases p <;> first | rfl | exact hfl | exact hrc | exact absurd (by assumption) hp)

theorem Keeps.wraps {W : List Part} {r s : State} {v_wraps : Nat} (h_wraps : Part.wraps ∈ W) :
    Keeps W r { s with wraps := v_wraps } ↔ Keeps W r s :=
  Keeps.iff_of rfl (by simp only [State.wf]) (fun p hp => by cases p <;> first | rfl | exact absurd (by assumption) hp)

theorem Keeps.tim_sec_lmp_wraps {W : List Part} {r s : State} {v_tim : TimSt} {v_sec : SecSt} {v_lmp : LmpSt} {v_wraps : Nat} (h_tim : Part.tim ∈ W) (h_sec : Part.sec ∈ W) (h_lmp : Part.lmp ∈ W) (h_wraps : Part.wraps ∈ W) (hfu : (v_sec.life, v_sec.idkey, v_sec.svn, v_sec.owner, v_sec.ownTries) =
    (s.sec.life, s.sec.idkey, s.sec.svn, s.sec.owner, s.sec.ownTries)) :
    Keeps W r { s with tim := v_tim, sec := v_sec, lmp := v_lmp, wraps := v_wraps } ↔ Keeps W r s :=
  Keeps.iff_of rfl (by simp only [State.wf]) (fun p hp => by cases p <;> first | rfl | exact hfu | exact absurd (by assumption) hp)

theorem Keeps.sec_fuses {W : List Part} {r s : State} {v_sec : SecSt} (h_sec : Part.sec ∈ W) (h_fuses : Part.fuses ∈ W) :
    Keeps W r { s with sec := v_sec } ↔ Keeps W r s :=
  Keeps.iff_of rfl (by simp only [State.wf])
    (fun p hp => by cases p <;> first | rfl | exact absurd h_sec hp | exact absurd h_fuses hp)

end Sys2Proof.Machine
end

