-- ==== Sys2Proof/Laws/KeepOps.lean ====
section
/-! SUPPORT. What each operation of Machine/Ops.lean touches. -/

namespace Sys2Proof.Machine

theorem incSat_keeps {W0 : List Part} {r0 : State} (s : State) (f : Fld) (n : Nat) (h_regs : Part.regs ∈ W0) (h0 : Keeps W0 r0 s) :
    Keeps W0 r0 (incSat s f n) := by
  unfold incSat
  repeat' first
    | with_reducible assumption
    | with_reducible apply setF_keeps

theorem incMod_keeps {W0 : List Part} {r0 : State} (s : State) (f : Fld) (n : Nat) (h_regs : Part.regs ∈ W0) (h0 : Keeps W0 r0 s) :
    Keeps W0 r0 (incMod s f n) := by
  unfold incMod
  repeat' first
    | with_reducible assumption
    | with_reducible apply setF_keeps

theorem setBitF_keeps {W0 : List Part} {r0 : State} (s : State) (f : Fld) (k : Nat) (b : Bool) (h_regs : Part.regs ∈ W0) (h0 : Keeps W0 r0 s) :
    Keeps W0 r0 (setBitF s f k b) := by
  unfold setBitF
  repeat' first
    | with_reducible assumption
    | with_reducible apply setF_keeps

theorem whenOn_keeps {W0 : List Part} {r0 : State} (id : Nat) (s : State) (f : State → State) (h_f : ∀ (x0 : State), Keeps W0 r0 x0 → Keeps W0 r0 (f x0)) {t0 : State} (h0 : Keeps W0 r0 s) (ht : whenOn id s f = .next t0) :
    Keeps W0 r0 t0 := by
  unfold whenOn at ht
  injection ht with ht
  subst ht
  repeat' first
    | with_reducible assumption
    | with_reducible apply h_f
    | split

theorem drawNat_keeps {W0 : List Part} {r0 : State} (s : State) (h_free : Part.free ∈ W0) (h0 : Keeps W0 r0 s) :
    Keeps W0 r0 (drawNat s).2 := by
  unfold drawNat
  repeat' first
    | with_reducible assumption
    | simp only [Keeps.free, h_free]

theorem drawBytes_keeps {W0 : List Part} {r0 : State} (s : State) (n : Nat) (h_free : Part.free ∈ W0) (h0 : Keeps W0 r0 s) :
    Keeps W0 r0 (drawBytes s n).2 := by
  unfold drawBytes
  repeat' first
    | with_reducible assumption
    | simp only [Keeps.free, h_free]

theorem emit_keeps {W0 : List Part} {r0 : State} (s : State) (o : Out) (h_out : Part.out ∈ W0) (h0 : Keeps W0 r0 s) :
    Keeps W0 r0 (emit s o) := by
  unfold emit
  repeat' first
    | with_reducible assumption
    | simp only [Keeps.out, h_out]

theorem emitAll_keeps {W0 : List Part} {r0 : State} (s : State) (os : List Out) (h_out : Part.out ∈ W0) (h0 : Keeps W0 r0 s) :
    Keeps W0 r0 (emitAll s os) := by
  unfold emitAll
  repeat' first
    | with_reducible assumption
    | simp only [Keeps.out, h_out]

theorem setMsixWord_keeps {W0 : List Part} {r0 : State} (s : State) (off : Nat) (w : Word) (h_regs : Part.regs ∈ W0) (h0 : Keeps W0 r0 s) :
    Keeps W0 r0 (setMsixWord s off w) := by
  unfold setMsixWord
  repeat' first
    | with_reducible assumption
    | with_reducible apply setWord_keeps

theorem setVecPending_keeps {W0 : List Part} {r0 : State} (s : State) (v : Nat) (b : Bool) (h_regs : Part.regs ∈ W0) (h0 : Keeps W0 r0 s) :
    Keeps W0 r0 (setVecPending s v b) := by
  unfold setVecPending
  repeat' first
    | with_reducible assumption
    | with_reducible apply setMsixWord_keeps

theorem sendVec_keeps {W0 : List Part} {r0 : State} (s : State) (v : Nat) (h_regs : Part.regs ∈ W0) (h_hif : Part.hif ∈ W0) (h_out : Part.out ∈ W0) (h0 : Keeps W0 r0 s) :
    Keeps W0 r0 (sendVec s v) := by
  unfold sendVec
  repeat' first
    | with_reducible assumption
    | simp only [Keeps.hif, h_hif]
    | with_reducible apply emit_keeps
    | with_reducible apply setVecPending_keeps
    | split

theorem issueUp_keeps {W0 : List Part} {r0 : State} (s : State) (u : Up) (h_regs : Part.regs ∈ W0) (h_hif : Part.hif ∈ W0) (h_out : Part.out ∈ W0) (h0 : Keeps W0 r0 s) :
    Keeps W0 r0 (issueUp s u) := by
  unfold issueUp
  repeat' first
    | with_reducible assumption
    | simp only [Keeps.hif, h_hif]
    | with_reducible apply emit_keeps
    | with_reducible apply emitAll_keeps
    | with_reducible apply setVecPending_keeps
    | split

theorem upstream_keeps {W0 : List Part} {r0 : State} (s : State) (u : Up) (h_regs : Part.regs ∈ W0) (h_hif : Part.hif ∈ W0) (h_out : Part.out ∈ W0) (h0 : Keeps W0 r0 s) :
    Keeps W0 r0 (upstream s u) := by
  unfold upstream
  repeat' first
    | with_reducible assumption
    | simp only [Keeps.hif, h_hif]
    | with_reducible apply issueUp_keeps
    | split

theorem issueWaiting_keeps {W0 : List Part} {r0 : State} (s : State) (h_regs : Part.regs ∈ W0) (h_hif : Part.hif ∈ W0) (h_out : Part.out ∈ W0) (h0 : Keeps W0 r0 s) :
    Keeps W0 r0 (issueWaiting s) := by
  unfold issueWaiting
  repeat' first
    | with_reducible assumption
    | simp only [Keeps.hif, h_hif]
    | with_reducible apply upstream_keeps
    | with_reducible apply Keeps.foldl
    | split
    | dsimp only
    | intro _

theorem endRead_keeps {W0 : List Part} {r0 : State} (s : State) (who : Rd) (h_regs : Part.regs ∈ W0) (h_hif : Part.hif ∈ W0) (h_out : Part.out ∈ W0) (h0 : Keeps W0 r0 s) :
    Keeps W0 r0 (endRead s who) := by
  unfold endRead
  repeat' first
    | with_reducible assumption
    | simp only [Keeps.hif, h_hif]
    | with_reducible apply issueWaiting_keeps

theorem dropRead_keeps {W0 : List Part} {r0 : State} (s : State) (who : Rd) (h_regs : Part.regs ∈ W0) (h_hif : Part.hif ∈ W0) (h_out : Part.out ∈ W0) (h0 : Keeps W0 r0 s) :
    Keeps W0 r0 (dropRead s who) := by
  unfold dropRead
  repeat' first
    | with_reducible assumption
    | simp only [Keeps.hif, h_hif]
    | with_reducible apply endRead_keeps

theorem giveUpRead_keeps {W0 : List Part} {r0 : State} (s : State) (who : Rd) (h_hif : Part.hif ∈ W0) (h0 : Keeps W0 r0 s) :
    Keeps W0 r0 (giveUpRead s who) := by
  unfold giveUpRead
  repeat' first
    | with_reducible assumption
    | simp only [Keeps.hif, h_hif]

theorem onRead_keeps {W0 : List Part} {r0 : State} (s : State) (who : Rd) (f : State → State) (h_regs : Part.regs ∈ W0) (h_hif : Part.hif ∈ W0) (h_out : Part.out ∈ W0) (h_f : ∀ (x0 : State), Keeps W0 r0 x0 → Keeps W0 r0 (f x0)) (h0 : Keeps W0 r0 s) :
    Keeps W0 r0 (onRead s who f) := by
  unfold onRead
  repeat' first
    | with_reducible assumption
    | with_reducible apply h_f
    | with_reducible apply endRead_keeps
    | split

end Sys2Proof.Machine
end

