-- ==== Sys2Proof/Laws/KeepSlots.lean ====
section
/-! SUPPORT. What each operation of Machine/Slots.lean touches. -/

namespace Sys2Proof.Machine

theorem calTrain_keeps {W0 : List Part} {r0 : State} (s : State) (c : Nat) (l : List LTrain) (h_cal : Part.cal ∈ W0) (h0 : Keeps W0 r0 s) :
    Keeps W0 r0 (calTrain s c l) := by
  unfold calTrain
  repeat' first
    | with_reducible assumption
    | simp only [Keeps.cal, h_cal]
    | with_reducible apply Keeps.foldl
    | split
    | dsimp only
    | intro _

theorem laneEyes_keeps {W0 : List Part} {r0 : State} (s : State) (c : Nat) (lane : Nat) (h_regs : Part.regs ∈ W0) (h0 : Keeps W0 r0 s) :
    Keeps W0 r0 (laneEyes s c lane) := by
  unfold laneEyes
  repeat' first
    | with_reducible assumption
    | with_reducible apply setF_keeps
    | split

theorem laneUse_keeps {W0 : List Part} {r0 : State} (s : State) (c : Nat) (lane : Nat) (v : Nat × Nat × Nat) (h_regs : Part.regs ∈ W0) (h_cal : Part.cal ∈ W0) (h0 : Keeps W0 r0 s) :
    Keeps W0 r0 (laneUse s c lane v) := by
  unfold laneUse
  repeat' first
    | with_reducible assumption
    | simp only [Keeps.cal, h_cal]
    | with_reducible apply setF_keeps
    | with_reducible apply laneEyes_keeps

theorem retrackChan_keeps {W0 : List Part} {r0 : State} (s : State) (c : Nat) (h_regs : Part.regs ∈ W0) (h_cal : Part.cal ∈ W0) (h0 : Keeps W0 r0 s) :
    Keeps W0 r0 (retrackChan s c) := by
  unfold retrackChan
  repeat' first
    | with_reducible assumption
    | with_reducible apply laneUse_keeps
    | with_reducible apply Keeps.foldl
    | split
    | dsimp only
    | intro _

theorem trackChan_keeps {W0 : List Part} {r0 : State} (s : State) (c : Nat) (osc : Option Nat) (h_regs : Part.regs ∈ W0) (h_cal : Part.cal ∈ W0) (h0 : Keeps W0 r0 s) :
    Keeps W0 r0 (trackChan s c osc) := by
  unfold trackChan
  repeat' first
    | with_reducible assumption
    | with_reducible apply laneUse_keeps
    | with_reducible apply Keeps.foldl
    | split
    | dsimp only
    | intro _

end Sys2Proof.Machine
end

