-- ==== Sys2Proof/Laws/KeepCells.lean ====
section
/-! SUPPORT. What each operation of Machine/Cells.lean touches. -/

namespace Sys2Proof.Machine

theorem insertCell_keeps {W0 : List Part} {r0 : State} (s : State) (p : Nat) (cls : Nat) (c : Bytes) (m : Mark) (h_regs : Part.regs ∈ W0) (h_chn : Part.chn ∈ W0) (h0 : Keeps W0 r0 s) :
    Keeps W0 r0 (insertCell s p cls c m) := by
  unfold insertCell
  repeat' first
    | with_reducible assumption
    | simp only [Keeps.chn, h_chn]
    | with_reducible apply incSat_keeps
    | split

theorem insertCells_keeps {W0 : List Part} {r0 : State} (s : State) (p : Nat) (cls : Nat) (cs : List Bytes) (h_regs : Part.regs ∈ W0) (h_chn : Part.chn ∈ W0) (h0 : Keeps W0 r0 s) :
    Keeps W0 r0 (insertCells s p cls cs) := by
  unfold insertCells
  repeat' first
    | with_reducible assumption
    | with_reducible apply insertCell_keeps
    | with_reducible apply Keeps.foldl
    | split
    | dsimp only
    | intro _

theorem newLid_keeps {W0 : List Part} {r0 : State} (s : State) (h_chn : Part.chn ∈ W0) (h0 : Keeps W0 r0 s) :
    Keeps W0 r0 (newLid s).2 := by
  unfold newLid
  repeat' first
    | with_reducible assumption
    | simp only [Keeps.chn, h_chn]

theorem tileLetter_keeps {W0 : List Part} {r0 : State} (s : State) (cls : Nat) (kind : Nat) (ltype : Nat) (content : Bytes) (h_regs : Part.regs ∈ W0) (h_chn : Part.chn ∈ W0) (h0 : Keeps W0 r0 s) :
    Keeps W0 r0 (tileLetter s cls kind ltype content) := by
  unfold tileLetter
  repeat' first
    | with_reducible assumption
    | with_reducible apply insertCells_keeps
    | with_reducible apply newLid_keeps
    | with_reducible apply Keeps.foldl
    | with_reducible refine Keeps.of_snd (by with_reducible assumption) ?_
    | with_reducible refine Keeps.of_snd2 (by with_reducible assumption) ?_
    | split
    | dsimp only
    | intro _

theorem sendHeld_keeps {W0 : List Part} {r0 : State} (s : State) (h_regs : Part.regs ∈ W0) (h_chn : Part.chn ∈ W0) (h_sec : Part.sec ∈ W0) (h0 : Keeps W0 r0 s) :
    Keeps W0 r0 (sendHeld s) := by
  unfold sendHeld
  repeat' first
    | with_reducible assumption
    | simp only [Keeps.sec, h_sec]
    | with_reducible apply tileLetter_keeps
    | with_reducible apply Keeps.foldl
    | split
    | dsimp only
    | intro _

theorem setTx_keeps {W0 : List Part} {r0 : State} (s : State) (p : Nat) (t : TxPort) (h_chn : Part.chn ∈ W0) (h0 : Keeps W0 r0 s) :
    Keeps W0 r0 (setTx s p t) := by
  unfold setTx
  repeat' first
    | with_reducible assumption
    | simp only [Keeps.chn, h_chn]

theorem txOne_keeps {W0 : List Part} {r0 : State} (s : State) (p : Nat) (h_chn : Part.chn ∈ W0) (h_out : Part.out ∈ W0) (h0 : Keeps W0 r0 s) :
    Keeps W0 r0 (txOne s p) := by
  unfold txOne
  repeat' first
    | with_reducible assumption
    | with_reducible apply emit_keeps
    | with_reducible apply setTx_keeps
    | with_reducible refine Keeps.of_snd (by with_reducible assumption) ?_
    | with_reducible refine Keeps.of_snd2 (by with_reducible assumption) ?_
    | split
    | dsimp only

theorem txRun_keeps {W0 : List Part} {r0 : State} (p : Nat) (h_chn : Part.chn ∈ W0) (h_out : Part.out ∈ W0) (y0 : Nat) (y1 : State)
    (h0 : Keeps W0 r0 y1) :
    Keeps W0 r0 (txRun p y0 y1) := by
  induction y0 generalizing y1 p with
  | zero =>
    unfold txRun
    repeat' first
      | with_reducible assumption
  | succ y0 ih =>
    unfold txRun
    repeat' first
      | with_reducible assumption
      | with_reducible apply ih
      | with_reducible apply txOne_keeps

theorem txFlush_keeps {W0 : List Part} {r0 : State} (s : State) (p : Nat) (h_chn : Part.chn ∈ W0) (h_out : Part.out ∈ W0) (h0 : Keeps W0 r0 s) :
    Keeps W0 r0 (txFlush s p) := by
  unfold txFlush
  repeat' first
    | with_reducible assumption
    | with_reducible apply txRun_keeps
    | split
    | dsimp only

theorem flushPorts_keeps {W0 : List Part} {r0 : State} (s : State) (h_chn : Part.chn ∈ W0) (h_out : Part.out ∈ W0) (h0 : Keeps W0 r0 s) :
    Keeps W0 r0 (flushPorts s) := by
  unfold flushPorts
  repeat' first
    | with_reducible assumption
    | with_reducible apply txFlush_keeps
    | with_reducible apply Keeps.foldl
    | split
    | dsimp only
    | intro _

theorem sendLetterCells_keeps {W0 : List Part} {r0 : State} (s : State) (p : Nat) (cs : List Bytes) (h_chn : Part.chn ∈ W0) (h_out : Part.out ∈ W0) (h0 : Keeps W0 r0 s) :
    Keeps W0 r0 (sendLetterCells s p cs) := by
  unfold sendLetterCells
  repeat' first
    | with_reducible assumption
    | with_reducible apply setTx_keeps
    | with_reducible apply txFlush_keeps
    | split

theorem sendFirst_keeps {W0 : List Part} {r0 : State} (c : Bytes) (s : State) (p : Nat) (h_chn : Part.chn ∈ W0) (h_out : Part.out ∈ W0) (h0 : Keeps W0 r0 s) :
    Keeps W0 r0 (sendFirst c s p) := by
  unfold sendFirst
  repeat' first
    | with_reducible assumption
    | with_reducible apply emit_keeps
    | with_reducible apply setTx_keeps

theorem sendNow_keeps {W0 : List Part} {r0 : State} (s : State) (ports : List Nat) (c : Bytes) (h_chn : Part.chn ∈ W0) (h_out : Part.out ∈ W0) (h0 : Keeps W0 r0 s) :
    Keeps W0 r0 (sendNow s ports c) := by
  unfold sendNow
  repeat' first
    | with_reducible assumption
    | with_reducible apply sendFirst_keeps
    | with_reducible apply Keeps.foldl
    | split
    | dsimp only
    | intro _

end Sys2Proof.Machine
end

