-- ==== Sys2Proof/Laws/KeepFlags.lean ====
section
/-! SUPPORT. What each operation of Machine/Flags.lean touches. -/

namespace Sys2Proof.Machine

theorem appendEvent_keeps {W0 : List Part} {r0 : State} (s : State) (e : Ev) (h_regs : Part.regs ∈ W0) (h_hif : Part.hif ∈ W0) (h_out : Part.out ∈ W0) (h0 : Keeps W0 r0 s) :
    Keeps W0 r0 (appendEvent s e) := by
  unfold appendEvent
  repeat' first
    | with_reducible assumption
    | simp only [Keeps.hif, h_hif]
    | with_reducible apply incSat_keeps
    | with_reducible apply sendVec_keeps
    | split

theorem raise_keeps {W0 : List Part} {r0 : State} (s : State) (code : Nat) (det : Bytes) (h_regs : Part.regs ∈ W0) (h_hif : Part.hif ∈ W0) (h_chn : Part.chn ∈ W0) (h_out : Part.out ∈ W0) (h0 : Keeps W0 r0 s) :
    Keeps W0 r0 (raise s code det) := by
  unfold raise
  repeat' first
    | with_reducible assumption
    | with_reducible apply tileLetter_keeps
    | with_reducible apply appendEvent_keeps
    | split
    | dsimp only

theorem uncorrectable_keeps {W0 : List Part} {r0 : State} (s : State) (b : Nat) (h_regs : Part.regs ∈ W0) (h_hif : Part.hif ∈ W0) (h_drc : Part.drc ∈ W0) (h_chn : Part.chn ∈ W0) (h_out : Part.out ∈ W0) (h0 : Keeps W0 r0 s) :
    Keeps W0 r0 (uncorrectable s b) := by
  unfold uncorrectable
  repeat' first
    | with_reducible assumption
    | simp only [Keeps.drc, h_drc]
    | with_reducible apply setF_keeps
    | with_reducible apply incSat_keeps
    | with_reducible apply raise_keeps

theorem noteBad_keeps {W0 : List Part} {r0 : State} (s : State) (a : Nat) (n : Nat) (h_regs : Part.regs ∈ W0) (h_hif : Part.hif ∈ W0) (h_drc : Part.drc ∈ W0) (h_chn : Part.chn ∈ W0) (h_out : Part.out ∈ W0) (h0 : Keeps W0 r0 s) :
    Keeps W0 r0 (noteBad s a n) := by
  unfold noteBad
  repeat' first
    | with_reducible assumption
    | with_reducible apply uncorrectable_keeps
    | with_reducible apply Keeps.foldl
    | split
    | dsimp only
    | intro _

theorem blockStore_keeps {W0 : List Part} {r0 : State} (s : State) (port : Nat) (a : Nat) (b : Bytes) (h_regs : Part.regs ∈ W0) (h_hif : Part.hif ∈ W0) (h_drc : Part.drc ∈ W0) (h_chn : Part.chn ∈ W0) (h_dram : Part.dram ∈ W0) (h_out : Part.out ∈ W0) (h0 : Keeps W0 r0 s) :
    Keeps W0 r0 (blockStore s port a b) := by
  unfold blockStore
  repeat' first
    | with_reducible assumption
    | with_reducible apply incSat_keeps
    | with_reducible apply dramWr_keeps
    | with_reducible apply emit_keeps
    | with_reducible apply uncorrectable_keeps
    | split
    | dsimp only

theorem dramStore_keeps {W0 : List Part} {r0 : State} (s : State) (port : Nat) (a : Nat) (b : Bytes) (h_regs : Part.regs ∈ W0) (h_hif : Part.hif ∈ W0) (h_drc : Part.drc ∈ W0) (h_chn : Part.chn ∈ W0) (h_dram : Part.dram ∈ W0) (h_out : Part.out ∈ W0) (h0 : Keeps W0 r0 s) :
    Keeps W0 r0 (dramStore s port a b) := by
  unfold dramStore
  repeat' first
    | with_reducible assumption
    | with_reducible apply blockStore_keeps
    | with_reducible apply Keeps.foldl
    | split
    | dsimp only
    | intro _

theorem countYield_keeps {W0 : List Part} {r0 : State} (s : State) (y : Yield) (h_regs : Part.regs ∈ W0) (h_hif : Part.hif ∈ W0) (h_chn : Part.chn ∈ W0) (h_out : Part.out ∈ W0) (h0 : Keeps W0 r0 s) :
    Keeps W0 r0 (countYield s y) := by
  unfold countYield
  repeat' first
    | with_reducible assumption
    | with_reducible apply incSat_keeps
    | with_reducible apply raise_keeps

theorem recordYield_keeps {W0 : List Part} {r0 : State} (s : State) (y : Yield) (h_regs : Part.regs ∈ W0) (h0 : Keeps W0 r0 s) :
    Keeps W0 r0 (recordYield s y) := by
  unfold recordYield
  repeat' first
    | with_reducible assumption
    | with_reducible apply setWord_keeps

theorem yields_keeps {W0 : List Part} {r0 : State} (s : State) (ys : List Yield) (h_regs : Part.regs ∈ W0) (h_hif : Part.hif ∈ W0) (h_chn : Part.chn ∈ W0) (h_out : Part.out ∈ W0) (h0 : Keeps W0 r0 s) :
    Keeps W0 r0 (yields s ys) := by
  unfold yields
  repeat' first
    | with_reducible assumption
    | with_reducible apply countYield_keeps
    | with_reducible apply recordYield_keeps
    | with_reducible apply Keeps.foldl
    | split
    | dsimp only
    | intro _

theorem yield_keeps {W0 : List Part} {r0 : State} (s : State) (winner : Nat) (loser : Nat) (block : Nat) (code : Status) (frame : Nat) (h_regs : Part.regs ∈ W0) (h_hif : Part.hif ∈ W0) (h_chn : Part.chn ∈ W0) (h_out : Part.out ∈ W0) (h0 : Keeps W0 r0 s) :
    Keeps W0 r0 (yield s winner loser block code frame) := by
  unfold yield
  repeat' first
    | with_reducible assumption
    | with_reducible apply yields_keeps

theorem logError_keeps {W0 : List Part} {r0 : State} (s : State) (src : Nat) (off : Nat) (c : Status) (h_regs : Part.regs ∈ W0) (h_hif : Part.hif ∈ W0) (h_chn : Part.chn ∈ W0) (h_out : Part.out ∈ W0) (h0 : Keeps W0 r0 s) :
    Keeps W0 r0 (logError s src off c) := by
  unfold logError
  repeat' first
    | with_reducible assumption
    | with_reducible apply setF_keeps
    | with_reducible apply incSat_keeps
    | with_reducible apply raise_keeps
    | split

theorem clearErrors_keeps {W0 : List Part} {r0 : State} (s : State) (h_regs : Part.regs ∈ W0) (h0 : Keeps W0 r0 s) :
    Keeps W0 r0 (clearErrors s) := by
  unfold clearErrors
  repeat' first
    | with_reducible assumption
    | with_reducible apply setWord_keeps
    | with_reducible apply setF_keeps

end Sys2Proof.Machine
end

