-- ==== Sys2Proof/Laws/KeepQue.lean ====
section
/-! SUPPORT. What each operation of Machine/Que.lean touches. -/

namespace Sys2Proof.Machine

theorem setQrec_keeps {W0 : List Part} {r0 : State} (s : State) (q : Nat) (r : QRec) (h_queues : Part.queues ∈ W0) (h0 : Keeps W0 r0 s) :
    Keeps W0 r0 (setQrec s q r) := by
  unfold setQrec
  repeat' first
    | with_reducible assumption
    | simp only [Keeps.queues, h_queues]

theorem qVector_keeps {W0 : List Part} {r0 : State} (s : State) (q : Nat) (h_regs : Part.regs ∈ W0) (h_hif : Part.hif ∈ W0) (h_out : Part.out ∈ W0) (h0 : Keeps W0 r0 s) :
    Keeps W0 r0 (qVector s q) := by
  unfold qVector
  repeat' first
    | with_reducible assumption
    | with_reducible apply sendVec_keeps

theorem dropFetch_keeps {W0 : List Part} {r0 : State} (s : State) (q : Nat) (h_hif : Part.hif ∈ W0) (h_queues : Part.queues ∈ W0) (h0 : Keeps W0 r0 s) :
    Keeps W0 r0 (dropFetch s q) := by
  unfold dropFetch
  repeat' first
    | with_reducible assumption
    | with_reducible apply giveUpRead_keeps
    | with_reducible apply setQrec_keeps

theorem queueError_keeps {W0 : List Part} {r0 : State} (s : State) (q : Nat) (c : Status) (h_regs : Part.regs ∈ W0) (h_hif : Part.hif ∈ W0) (h_queues : Part.queues ∈ W0) (h_out : Part.out ∈ W0) (h0 : Keeps W0 r0 s) :
    Keeps W0 r0 (queueError s q c) := by
  unfold queueError
  repeat' first
    | with_reducible assumption
    | with_reducible apply setF_keeps
    | with_reducible apply qVector_keeps
    | with_reducible apply dropFetch_keeps
    | split
    | dsimp only

theorem startRead_keeps {W0 : List Part} {r0 : State} (s : State) (q : Nat) (final : Bool) (h_regs : Part.regs ∈ W0) (h_hif : Part.hif ∈ W0) (h_queues : Part.queues ∈ W0) (h_out : Part.out ∈ W0) (h0 : Keeps W0 r0 s) :
    Keeps W0 r0 (startRead s q final) := by
  unfold startRead
  repeat' first
    | with_reducible assumption
    | with_reducible apply upstream_keeps
    | with_reducible apply setQrec_keeps
    | split
    | dsimp only

theorem kick_keeps {W0 : List Part} {r0 : State} (s : State) (q : Nat) (h_regs : Part.regs ∈ W0) (h_hif : Part.hif ∈ W0) (h_queues : Part.queues ∈ W0) (h_out : Part.out ∈ W0) (h0 : Keeps W0 r0 s) :
    Keeps W0 r0 (kick s q) := by
  unfold kick
  repeat' first
    | with_reducible assumption
    | with_reducible apply setQrec_keeps
    | with_reducible apply startRead_keeps
    | split

theorem kickAll_keeps {W0 : List Part} {r0 : State} (s : State) (h_regs : Part.regs ∈ W0) (h_hif : Part.hif ∈ W0) (h_queues : Part.queues ∈ W0) (h_out : Part.out ∈ W0) (h0 : Keeps W0 r0 s) :
    Keeps W0 r0 (kickAll s) := by
  unfold kickAll
  repeat' first
    | with_reducible assumption
    | with_reducible apply kick_keeps
    | with_reducible apply Keeps.foldl
    | split
    | dsimp only
    | intro _

theorem holdItem_keeps {W0 : List Part} {r0 : State} (s : State) (i : Item) (h_regs : Part.regs ∈ W0) (h_sor : Part.sor ∈ W0) (h0 : Keeps W0 r0 s) :
    Keeps W0 r0 (holdItem s i) := by
  unfold holdItem
  repeat' first
    | with_reducible assumption
    | simp only [Keeps.sor, h_sor]
    | with_reducible apply setF_keeps
    | split

theorem handOn_keeps {W0 : List Part} {r0 : State} (s : State) (q : Nat) (e : Bytes) (h_regs : Part.regs ∈ W0) (h_queues : Part.queues ∈ W0) (h_sor : Part.sor ∈ W0) (h0 : Keeps W0 r0 s) :
    Keeps W0 r0 (handOn s q e) := by
  unfold handOn
  repeat' first
    | with_reducible assumption
    | with_reducible apply setF_keeps
    | with_reducible apply setQrec_keeps
    | with_reducible apply holdItem_keeps

theorem ringRead_keeps {W0 : List Part} {r0 : State} (s : State) (q : Nat) (res : RdRes) (h_regs : Part.regs ∈ W0) (h_hif : Part.hif ∈ W0) (h_queues : Part.queues ∈ W0) (h_sor : Part.sor ∈ W0) (h_out : Part.out ∈ W0) (h0 : Keeps W0 r0 s) :
    Keeps W0 r0 (ringRead s q res) := by
  unfold ringRead
  repeat' first
    | with_reducible assumption
    | with_reducible apply dropRead_keeps
    | with_reducible apply setQrec_keeps
    | with_reducible apply queueError_keeps
    | with_reducible apply kick_keeps
    | with_reducible apply handOn_keeps
    | split
    | dsimp only

theorem recheckTimeout_keeps {W0 : List Part} {r0 : State} (s : State) (q : Nat) (h_regs : Part.regs ∈ W0) (h_hif : Part.hif ∈ W0) (h_queues : Part.queues ∈ W0) (h_out : Part.out ∈ W0) (h0 : Keeps W0 r0 s) :
    Keeps W0 r0 (recheckTimeout s q) := by
  unfold recheckTimeout
  repeat' first
    | with_reducible assumption
    | with_reducible apply startRead_keeps
    | split

theorem slotWrite_keeps {W0 : List Part} {r0 : State} (s : State) (q : Nat) (i : Nat) (off : Nat) (b : Bytes) (h_regs : Part.regs ∈ W0) (h_hif : Part.hif ∈ W0) (h_ring : Part.ring ∈ W0) (h_out : Part.out ∈ W0) (h0 : Keeps W0 r0 s) :
    Keeps W0 r0 (slotWrite s q i off b) := by
  unfold slotWrite
  repeat' first
    | with_reducible assumption
    | with_reducible apply ringWr_keeps
    | with_reducible apply upstream_keeps
    | split

theorem stopDrained_keeps {W0 : List Part} {r0 : State} (s : State) (q : Nat) (h_regs : Part.regs ∈ W0) (h0 : Keeps W0 r0 s) :
    Keeps W0 r0 (stopDrained s q) := by
  unfold stopDrained
  repeat' first
    | with_reducible assumption
    | with_reducible apply setF_keeps
    | split

theorem serialReady_keeps {W0 : List Part} {r0 : State} (s : State) (q : Nat) (h_sor : Part.sor ∈ W0) (h0 : Keeps W0 r0 s) :
    Keeps W0 r0 (serialReady s q) := by
  unfold serialReady
  repeat' first
    | with_reducible assumption
    | simp only [Keeps.sor, h_sor]
    | split

theorem retireEntry_keeps {W0 : List Part} {r0 : State} (s : State) (q : Nat) (i : Nat) (h_regs : Part.regs ∈ W0) (h_queues : Part.queues ∈ W0) (h0 : Keeps W0 r0 s) :
    Keeps W0 r0 (retireEntry s q i) := by
  unfold retireEntry
  repeat' first
    | with_reducible assumption
    | with_reducible apply setF_keeps
    | with_reducible apply setQrec_keeps
    | with_reducible apply stopDrained_keeps

theorem retireLate_keeps {W0 : List Part} {r0 : State} (s : State) (h_regs : Part.regs ∈ W0) (h_queues : Part.queues ∈ W0) (h_sor : Part.sor ∈ W0) (h0 : Keeps W0 r0 s) :
    Keeps W0 r0 (retireLate s) := by
  unfold retireLate
  repeat' first
    | with_reducible assumption
    | with_reducible apply setQrec_keeps
    | with_reducible apply serialReady_keeps
    | with_reducible apply retireEntry_keeps
    | with_reducible apply Keeps.foldl
    | split
    | dsimp only
    | intro _

theorem entryLost_keeps {W0 : List Part} {r0 : State} (s : State) (q : Nat) (i : Nat) (h_queues : Part.queues ∈ W0) (h_sor : Part.sor ∈ W0) (h0 : Keeps W0 r0 s) :
    Keeps W0 r0 (entryLost s q i) := by
  unfold entryLost
  repeat' first
    | with_reducible assumption
    | with_reducible apply setQrec_keeps
    | with_reducible apply serialReady_keeps

theorem lateLost_keeps {W0 : List Part} {r0 : State} (s : State) (h_queues : Part.queues ∈ W0) (h_sor : Part.sor ∈ W0) (h0 : Keeps W0 r0 s) :
    Keeps W0 r0 (lateLost s) := by
  unfold lateLost
  repeat' first
    | with_reducible assumption
    | with_reducible apply setQrec_keeps
    | with_reducible apply entryLost_keeps
    | with_reducible apply Keeps.foldl
    | split
    | dsimp only
    | intro _

theorem completeEntry_keeps {W0 : List Part} {r0 : State} (s : State) (q : Nat) (i : Nat) (flags : Nat) (words : List (Nat × Bytes)) (c : Nat) (dead : Bool) (h_regs : Part.regs ∈ W0) (h_hif : Part.hif ∈ W0) (h_queues : Part.queues ∈ W0) (h_sor : Part.sor ∈ W0) (h_ring : Part.ring ∈ W0) (h_out : Part.out ∈ W0) (h0 : Keeps W0 r0 s) :
    Keeps W0 r0 (completeEntry s q i flags words c dead) := by
  unfold completeEntry
  repeat' first
    | with_reducible assumption
    | with_reducible apply setQrec_keeps
    | with_reducible apply qVector_keeps
    | with_reducible apply slotWrite_keeps
    | with_reducible apply serialReady_keeps
    | with_reducible apply retireEntry_keeps
    | with_reducible apply Keeps.foldl
    | split
    | dsimp only
    | intro _

theorem completeItem_keeps {W0 : List Part} {r0 : State} (s : State) (it : Item) (words : List (Nat × Bytes)) (c : Nat) (dead : Bool) (h_regs : Part.regs ∈ W0) (h_hif : Part.hif ∈ W0) (h_queues : Part.queues ∈ W0) (h_sor : Part.sor ∈ W0) (h_ring : Part.ring ∈ W0) (h_out : Part.out ∈ W0) (h0 : Keeps W0 r0 s) :
    Keeps W0 r0 (completeItem s it words c dead) := by
  unfold completeItem
  repeat' first
    | with_reducible assumption
    | with_reducible apply entryLost_keeps
    | with_reducible apply completeEntry_keeps
    | split

theorem complete_keeps {W0 : List Part} {r0 : State} (s : State) (it : Item) (words : List (Nat × Bytes)) (c : Status) (dead : Bool) (h_regs : Part.regs ∈ W0) (h_hif : Part.hif ∈ W0) (h_queues : Part.queues ∈ W0) (h_sor : Part.sor ∈ W0) (h_ring : Part.ring ∈ W0) (h_out : Part.out ∈ W0) (h0 : Keeps W0 r0 s) :
    Keeps W0 r0 (complete s it words c dead) := by
  unfold complete
  repeat' first
    | with_reducible assumption
    | with_reducible apply completeItem_keeps

theorem complete40_keeps {W0 : List Part} {r0 : State} (s : State) (it : Item) (words : Bytes) (c : Status) (dead : Bool) (h_regs : Part.regs ∈ W0) (h_hif : Part.hif ∈ W0) (h_queues : Part.queues ∈ W0) (h_sor : Part.sor ∈ W0) (h_ring : Part.ring ∈ W0) (h_out : Part.out ∈ W0) (h0 : Keeps W0 r0 s) :
    Keeps W0 r0 (complete40 s it words c dead) := by
  unfold complete40
  repeat' first
    | with_reducible assumption
    | with_reducible apply complete_keeps

theorem queueEnable_keeps {W0 : List Part} {r0 : State} (s : State) (q : Nat) (h_regs : Part.regs ∈ W0) (h_queues : Part.queues ∈ W0) (h0 : Keeps W0 r0 s) :
    Keeps W0 r0 (queueEnable s q) := by
  unfold queueEnable
  repeat' first
    | with_reducible assumption
    | with_reducible apply setWord_keeps
    | with_reducible apply setF_keeps
    | with_reducible apply setQrec_keeps

theorem queueDisable_keeps {W0 : List Part} {r0 : State} (s : State) (q : Nat) (h_regs : Part.regs ∈ W0) (h_queues : Part.queues ∈ W0) (h0 : Keeps W0 r0 s) :
    Keeps W0 r0 (queueDisable s q) := by
  unfold queueDisable
  repeat' first
    | with_reducible assumption
    | with_reducible apply setF_keeps
    | with_reducible apply setQrec_keeps

theorem queueStop_keeps {W0 : List Part} {r0 : State} (s : State) (q : Nat) (h_regs : Part.regs ∈ W0) (h_hif : Part.hif ∈ W0) (h_queues : Part.queues ∈ W0) (h0 : Keeps W0 r0 s) :
    Keeps W0 r0 (queueStop s q) := by
  unfold queueStop
  repeat' first
    | with_reducible assumption
    | with_reducible apply setF_keeps
    | with_reducible apply dropFetch_keeps
    | with_reducible apply stopDrained_keeps

theorem queueResume_keeps {W0 : List Part} {r0 : State} (s : State) (q : Nat) (h_regs : Part.regs ∈ W0) (h_hif : Part.hif ∈ W0) (h_queues : Part.queues ∈ W0) (h_out : Part.out ∈ W0) (h0 : Keeps W0 r0 s) :
    Keeps W0 r0 (queueResume s q) := by
  unfold queueResume
  repeat' first
    | with_reducible assumption
    | with_reducible apply setF_keeps
    | with_reducible apply kick_keeps

theorem acceptTail_keeps {W0 : List Part} {r0 : State} (s : State) (q : Nat) (t : Nat) (h_regs : Part.regs ∈ W0) (h_hif : Part.hif ∈ W0) (h_queues : Part.queues ∈ W0) (h_out : Part.out ∈ W0) (h0 : Keeps W0 r0 s) :
    Keeps W0 r0 (acceptTail s q t) := by
  unfold acceptTail
  repeat' first
    | with_reducible assumption
    | with_reducible apply setF_keeps
    | with_reducible apply setQrec_keeps
    | with_reducible apply kick_keeps

theorem ringFillWrite_keeps {W0 : List Part} {r0 : State} (s : State) (q : Nat) (f : Nat) (h_ring : Part.ring ∈ W0) (y0 : List Bytes)
    (h0 : Keeps W0 r0 s) :
    Keeps W0 r0 (ringFillWrite s q f y0) := by
  induction y0 generalizing s q f with
  | nil =>
    unfold ringFillWrite
    repeat' first
      | with_reducible assumption
  | cons x0 y0 ih =>
    unfold ringFillWrite
    repeat' first
      | with_reducible assumption
      | with_reducible apply ih
      | with_reducible apply ringWr_keeps

theorem queAbortAll_keeps {W0 : List Part} {r0 : State} (s : State) (h_regs : Part.regs ∈ W0) (h_hif : Part.hif ∈ W0) (h_queues : Part.queues ∈ W0) (h_sor : Part.sor ∈ W0) (h_ring : Part.ring ∈ W0) (h_out : Part.out ∈ W0) (h0 : Keeps W0 r0 s) :
    Keeps W0 r0 (queAbortAll s) := by
  unfold queAbortAll
  repeat' first
    | with_reducible assumption
    | with_reducible apply completeEntry_keeps
    | with_reducible apply Keeps.foldl
    | split
    | dsimp only
    | intro _

theorem queBlockReset_keeps {W0 : List Part} {r0 : State} (s : State) (h_regs : Part.regs ∈ W0) (h_hif : Part.hif ∈ W0) (h_queues : Part.queues ∈ W0) (h_sor : Part.sor ∈ W0) (h_ring : Part.ring ∈ W0) (h_out : Part.out ∈ W0) (h0 : Keeps W0 r0 s) :
    Keeps W0 r0 (queBlockReset s) := by
  unfold queBlockReset
  repeat' first
    | with_reducible assumption
    | simp only [Keeps.queues_sor, h_queues, h_sor]
    | with_reducible apply resetRegs_keeps
    | with_reducible apply giveUpRead_keeps
    | with_reducible apply queAbortAll_keeps
    | with_reducible apply Keeps.foldl
    | split
    | dsimp only
    | intro _

end Sys2Proof.Machine
end

