-- ==== Sys2Proof/Laws/KeepCores.lean ====
section
/-! SUPPORT. What each operation of Machine/Cores.lean touches. -/

namespace Sys2Proof.Machine

theorem wrapTimes_keeps {W0 : List Part} {r0 : State} (h_regs : Part.regs ∈ W0) (h_hif : Part.hif ∈ W0) (h_chn : Part.chn ∈ W0) (h_wraps : Part.wraps ∈ W0) (h_out : Part.out ∈ W0) (y0 : Nat) (y1 : State)
    (h0 : Keeps W0 r0 y1) :
    Keeps W0 r0 (wrapTimes y0 y1) := by
  induction y0 generalizing y1 with
  | zero =>
    unfold wrapTimes
    repeat' first
      | with_reducible assumption
  | succ y0 ih =>
    unfold wrapTimes
    repeat' first
      | with_reducible assumption
      | simp only [Keeps.wraps, h_wraps]
      | with_reducible apply ih
      | with_reducible apply raise_keeps

theorem longWindow_keeps {W0 : List Part} {r0 : State} (s : State) (e : Nat) (h_regs : Part.regs ∈ W0) (h0 : Keeps W0 r0 s) :
    Keeps W0 r0 (longWindow s e) := by
  unfold longWindow
  repeat' first
    | with_reducible assumption
    | with_reducible apply setF_keeps
    | split

theorem advance_keeps {W0 : List Part} {r0 : State} (n : Nat) (s : State) (h_regs : Part.regs ∈ W0) (h_hif : Part.hif ∈ W0) (h_chn : Part.chn ∈ W0) (h_time : Part.time ∈ W0) (h_wraps : Part.wraps ∈ W0) (h_up : Part.up ∈ W0) (h_out : Part.out ∈ W0) (h0 : Keeps W0 r0 s) :
    Keeps W0 r0 (advance n s) := by
  unfold advance
  repeat' first
    | with_reducible assumption
    | simp only [Keeps.time_up, h_time, h_up]
    | with_reducible apply wrapTimes_keeps
    | with_reducible apply longWindow_keeps
    | split

theorem lampDrop_keeps {W0 : List Part} {r0 : State} (s : State) (h_lmp : Part.lmp ∈ W0) (h0 : Keeps W0 r0 s) :
    Keeps W0 r0 (lampDrop s) := by
  unfold lampDrop
  repeat' first
    | with_reducible assumption
    | simp only [Keeps.lmp, h_lmp]
    | split

theorem setTrec_keeps {W0 : List Part} {r0 : State} (s : State) (t : Nat) (r : TRec) (h_sor : Part.sor ∈ W0) (h0 : Keeps W0 r0 s) :
    Keeps W0 r0 (setTrec s t r) := by
  unfold setTrec
  repeat' first
    | with_reducible assumption
    | simp only [Keeps.sor, h_sor]

theorem busyMark_keeps {W0 : List Part} {r0 : State} (s : State) (t : Nat) (busy : Bool) (h_sor : Part.sor ∈ W0) (h0 : Keeps W0 r0 s) :
    Keeps W0 r0 (busyMark s t busy) := by
  unfold busyMark
  repeat' first
    | with_reducible assumption
    | with_reducible apply setTrec_keeps

theorem showTarget_keeps {W0 : List Part} {r0 : State} (s : State) (t : Nat) (active : Option Item) (susp : Bool) (h_regs : Part.regs ∈ W0) (h_sor : Part.sor ∈ W0) (h0 : Keeps W0 r0 s) :
    Keeps W0 r0 (showTarget s t active susp) := by
  unfold showTarget
  repeat' first
    | with_reducible assumption
    | with_reducible apply setF_keeps
    | with_reducible apply busyMark_keeps

theorem showCore_keeps {W0 : List Part} {r0 : State} (s : State) (t : Nat) (h_regs : Part.regs ∈ W0) (h_sor : Part.sor ∈ W0) (h0 : Keeps W0 r0 s) :
    Keeps W0 r0 (showCore s t) := by
  unfold showCore
  repeat' first
    | with_reducible assumption
    | with_reducible apply showTarget_keeps

theorem coreRelease_keeps {W0 : List Part} {r0 : State} (s : State) (t : Nat) (h_regs : Part.regs ∈ W0) (h_sor : Part.sor ∈ W0) (h0 : Keeps W0 r0 s) :
    Keeps W0 r0 (coreRelease s t) := by
  unfold coreRelease
  repeat' first
    | with_reducible assumption
    | with_reducible apply setTrec_keeps
    | with_reducible apply showCore_keeps

theorem coreTake_keeps {W0 : List Part} {r0 : State} {s : State} {op : Nat} (h_regs : Part.regs ∈ W0) (h_sor : Part.sor ∈ W0)
    {it : Item} {t0 : State} (hx : coreTake s op = some (it, t0)) (h0 : Keeps W0 r0 s) : Keeps W0 r0 t0 := by
  unfold coreTake at hx
  split at hx
  · obtain ⟨q, -, he⟩ := Option.map_eq_some_iff.1 hx
    injection he with _ he
    subst he
    with_reducible apply coreRelease_keeps <;> assumption
  · cases hx

theorem onEntry_keeps {W0 : List Part} {r0 : State} (s : State) (op : Nat) (f : State → Item → State) (h_regs : Part.regs ∈ W0) (h_sor : Part.sor ∈ W0) (h_f : ∀ (x0 : State) (x1 : Item), Keeps W0 r0 x0 → Keeps W0 r0 (f x0 x1)) (h0 : Keeps W0 r0 s) :
    Keeps W0 r0 (onEntry s op f) := by
  unfold onEntry
  repeat' first
    | with_reducible assumption
    | with_reducible apply h_f
    | with_reducible refine coreTake_keeps (hx := by with_reducible assumption) ?_ ?_ ?_
    | split

theorem onEntryRead_keeps {W0 : List Part} {r0 : State} (s : State) (op : Nat) (wait : State → Item → Bool) (f : State → Item → State) (h_regs : Part.regs ∈ W0) (h_sor : Part.sor ∈ W0) (h_f : ∀ (x0 : State) (x1 : Item), Keeps W0 r0 x0 → Keeps W0 r0 (f x0 x1)) (h0 : Keeps W0 r0 s) :
    Keeps W0 r0 (onEntryRead s op wait f) := by
  unfold onEntryRead
  repeat' first
    | with_reducible assumption
    | with_reducible apply h_f
    | with_reducible refine coreTake_keeps (hx := by with_reducible assumption) ?_ ?_ ?_
    | split

end Sys2Proof.Machine
end

