-- ==== Sys2Proof/Laws/KeepSrf.lean ====
section
/-! SUPPORT. What each operation of Machine/Srf.lean touches. -/

namespace Sys2Proof.Machine

theorem srfShow_keeps {W0 : List Part} {r0 : State} (s : State) (h_regs : Part.regs ∈ W0) (h0 : Keeps W0 r0 s) :
    Keeps W0 r0 (srfShow s) := by
  unfold srfShow
  repeat' first
    | with_reducible assumption
    | with_reducible apply setF_keeps

theorem allocPages_keeps {W0 : List Part} {r0 : State} (h_srf : Part.srf ∈ W0) (h_free : Part.free ∈ W0) (y0 : Nat) (y1 : State)
    (h0 : Keeps W0 r0 y1) :
    Keeps W0 r0 (allocPages y0 y1).2 := by
  induction y0 generalizing y1 with
  | zero =>
    unfold allocPages
    repeat' first
      | with_reducible assumption
  | succ y0 ih =>
    unfold allocPages
    repeat' first
      | with_reducible assumption
      | simp only [Keeps.srf, h_srf]
      | with_reducible apply ih
      | with_reducible apply drawNat_keeps

theorem freePool_keeps {W0 : List Part} {r0 : State} (s : State) (ps : List Nat) (h_srf : Part.srf ∈ W0) (h0 : Keeps W0 r0 s) :
    Keeps W0 r0 (freePool s ps) := by
  unfold freePool
  repeat' first
    | with_reducible assumption
    | simp only [Keeps.srf, h_srf]

theorem srfWalk_keeps {W0 : List Part} {r0 : State} (s : State) (vp : Nat) (h_regs : Part.regs ∈ W0) (h_hif : Part.hif ∈ W0) (h_srf : Part.srf ∈ W0) (h_drc : Part.drc ∈ W0) (h_chn : Part.chn ∈ W0) (h_out : Part.out ∈ W0) (h_free : Part.free ∈ W0) (h0 : Keeps W0 r0 s) :
    Keeps W0 r0 (srfWalk s vp) := by
  unfold srfWalk
  repeat' first
    | with_reducible assumption
    | simp only [Keeps.srf, h_srf]
    | with_reducible apply incMod_keeps
    | with_reducible apply drawNat_keeps
    | with_reducible apply uncorrectable_keeps
    | with_reducible refine Keeps.of_snd (by with_reducible assumption) ?_
    | with_reducible refine Keeps.of_snd2 (by with_reducible assumption) ?_
    | split

theorem dropCopies_keeps {W0 : List Part} {r0 : State} (s : State) (vp : Nat) (n : Nat) (frames : List Nat) (h_srf : Part.srf ∈ W0) (h0 : Keeps W0 r0 s) :
    Keeps W0 r0 (dropCopies s vp n frames) := by
  unfold dropCopies
  repeat' first
    | with_reducible assumption
    | simp only [Keeps.srf, h_srf]

theorem loseCopies_keeps {W0 : List Part} {r0 : State} (s : State) (vp : Nat) (n : Nat) (h_srf : Part.srf ∈ W0) (h0 : Keeps W0 r0 s) :
    Keeps W0 r0 (loseCopies s vp n) := by
  unfold loseCopies
  repeat' first
    | with_reducible assumption
    | simp only [Keeps.srf, h_srf]

theorem engineNote_keeps {W0 : List Part} {r0 : State} (s : State) (f : Nat) (vp : Nat) (a : Nat) (n : Nat) (h_regs : Part.regs ∈ W0) (h_hif : Part.hif ∈ W0) (h_srf : Part.srf ∈ W0) (h_drc : Part.drc ∈ W0) (h_chn : Part.chn ∈ W0) (h_out : Part.out ∈ W0) (h0 : Keeps W0 r0 s) :
    Keeps W0 r0 (engineNote s f vp a n) := by
  unfold engineNote
  repeat' first
    | with_reducible assumption
    | simp only [Keeps.srf, h_srf]
    | with_reducible apply noteBad_keeps
    | with_reducible apply Keeps.foldl
    | split
    | dsimp only
    | intro _

theorem pieceNote_keeps {W0 : List Part} {r0 : State} (s : State) (p : Nat × Nat × Nat) (h_regs : Part.regs ∈ W0) (h_hif : Part.hif ∈ W0) (h_drc : Part.drc ∈ W0) (h_chn : Part.chn ∈ W0) (h_out : Part.out ∈ W0) (h0 : Keeps W0 r0 s) :
    Keeps W0 r0 (pieceNote s p) := by
  unfold pieceNote
  repeat' first
    | with_reducible assumption
    | with_reducible apply noteBad_keeps
    | split

theorem svcFetch_keeps {W0 : List Part} {r0 : State} (s : State) (vp : Nat) (a : Nat) (n : Nat) (host : HostRes) (h_regs : Part.regs ∈ W0) (h_hif : Part.hif ∈ W0) (h_srf : Part.srf ∈ W0) (h_drc : Part.drc ∈ W0) (h_chn : Part.chn ∈ W0) (h_out : Part.out ∈ W0) (h_free : Part.free ∈ W0) (h0 : Keeps W0 r0 s) :
    Keeps W0 r0 (svcFetch s vp a n host).2 := by
  unfold svcFetch
  repeat' first
    | with_reducible assumption
    | with_reducible apply emitAll_keeps
    | with_reducible apply srfWalk_keeps
    | with_reducible apply pieceNote_keeps
    | with_reducible apply Keeps.foldl
    | split
    | dsimp only
    | intro _

theorem surfWrite_keeps {W0 : List Part} {r0 : State} (port : Nat) (s : State) (a : Nat) (b : Bytes) (h_regs : Part.regs ∈ W0) (h_hif : Part.hif ∈ W0) (h_srf : Part.srf ∈ W0) (h_drc : Part.drc ∈ W0) (h_chn : Part.chn ∈ W0) (h_dram : Part.dram ∈ W0) (h_out : Part.out ∈ W0) (h_free : Part.free ∈ W0) (h0 : Keeps W0 r0 s) :
    Keeps W0 r0 (surfWrite port s a b) := by
  unfold surfWrite
  repeat' first
    | with_reducible assumption
    | with_reducible apply upstream_keeps
    | with_reducible apply dramStore_keeps
    | with_reducible apply srfWalk_keeps
    | with_reducible apply Keeps.foldl
    | with_reducible apply Keeps.snd
    | with_reducible apply Keeps.snd2
    | with_reducible apply Keeps.fst
    | with_reducible apply Keeps.foldl_snd
    | with_reducible apply Keeps.foldl_snd2
    | with_reducible apply Keeps.foldl_fst
    | with_reducible refine Keeps.of_fst (by with_reducible assumption) ?_
    | with_reducible refine Keeps.of_snd (by with_reducible assumption) ?_
    | with_reducible refine Keeps.of_snd2 (by with_reducible assumption) ?_
    | split
    | dsimp only
    | intro _

theorem svcWrite_keeps {W0 : List Part} {r0 : State} (s : State) (a : Nat) (b : Bytes) (h_regs : Part.regs ∈ W0) (h_hif : Part.hif ∈ W0) (h_srf : Part.srf ∈ W0) (h_drc : Part.drc ∈ W0) (h_chn : Part.chn ∈ W0) (h_dram : Part.dram ∈ W0) (h_out : Part.out ∈ W0) (h_free : Part.free ∈ W0) (h0 : Keeps W0 r0 s) :
    Keeps W0 r0 (svcWrite s a b) := by
  unfold svcWrite
  repeat' first
    | with_reducible assumption
    | with_reducible apply surfWrite_keeps

theorem srfDone_keeps {W0 : List Part} {r0 : State} (s : State) (it : Item) (c : Status) (handle : Nat) (pages : Nat) (frame : Nat) (h_regs : Part.regs ∈ W0) (h_hif : Part.hif ∈ W0) (h_queues : Part.queues ∈ W0) (h_sor : Part.sor ∈ W0) (h_ring : Part.ring ∈ W0) (h_out : Part.out ∈ W0) (h0 : Keeps W0 r0 s) :
    Keeps W0 r0 (srfDone s it c handle pages frame) := by
  unfold srfDone
  repeat' first
    | with_reducible assumption
    | with_reducible apply complete40_keeps

theorem finishFree_keeps {W0 : List Part} {r0 : State} (s : State) (it : Item) (x : Surf) (h_regs : Part.regs ∈ W0) (h_hif : Part.hif ∈ W0) (h_queues : Part.queues ∈ W0) (h_sor : Part.sor ∈ W0) (h_srf : Part.srf ∈ W0) (h_ring : Part.ring ∈ W0) (h_out : Part.out ∈ W0) (h0 : Keeps W0 r0 s) :
    Keeps W0 r0 (finishFree s it x) := by
  unfold finishFree
  repeat' first
    | with_reducible assumption
    | simp only [Keeps.srf, h_srf]
    | with_reducible apply srfShow_keeps
    | with_reducible apply freePool_keeps
    | with_reducible apply loseCopies_keeps
    | with_reducible apply srfDone_keeps

theorem finishPend_keeps {W0 : List Part} {r0 : State} (s : State) (o : PendOp) (h_regs : Part.regs ∈ W0) (h_hif : Part.hif ∈ W0) (h_queues : Part.queues ∈ W0) (h_sor : Part.sor ∈ W0) (h_srf : Part.srf ∈ W0) (h_ring : Part.ring ∈ W0) (h_out : Part.out ∈ W0) (h0 : Keeps W0 r0 s) :
    Keeps W0 r0 (finishPend s o) := by
  unfold finishPend
  repeat' first
    | with_reducible assumption
    | with_reducible apply srfShow_keeps
    | with_reducible apply freePool_keeps
    | with_reducible apply srfDone_keeps
    | with_reducible apply finishFree_keeps
    | split

theorem sweepPend_keeps {W0 : List Part} {r0 : State} (s : State) (h_regs : Part.regs ∈ W0) (h_hif : Part.hif ∈ W0) (h_queues : Part.queues ∈ W0) (h_sor : Part.sor ∈ W0) (h_srf : Part.srf ∈ W0) (h_ring : Part.ring ∈ W0) (h_out : Part.out ∈ W0) (h0 : Keeps W0 r0 s) :
    Keeps W0 r0 (sweepPend s) := by
  unfold sweepPend
  repeat' first
    | with_reducible assumption
    | simp only [Keeps.srf, h_srf]
    | with_reducible apply srfShow_keeps
    | with_reducible apply finishPend_keeps
    | with_reducible apply Keeps.foldl
    | split
    | dsimp only
    | intro _

theorem forgetFrame_keeps {W0 : List Part} {r0 : State} (s : State) (n : Nat) (h_srf : Part.srf ∈ W0) (h0 : Keeps W0 r0 s) :
    Keeps W0 r0 (forgetFrame s n) := by
  unfold forgetFrame
  repeat' first
    | with_reducible assumption
    | simp only [Keeps.srf, h_srf]

theorem retireFrame_keeps {W0 : List Part} {r0 : State} (s : State) (h_regs : Part.regs ∈ W0) (h_hif : Part.hif ∈ W0) (h_queues : Part.queues ∈ W0) (h_sor : Part.sor ∈ W0) (h_srf : Part.srf ∈ W0) (h_ring : Part.ring ∈ W0) (h_out : Part.out ∈ W0) (h0 : Keeps W0 r0 s) :
    Keeps W0 r0 (retireFrame s) := by
  unfold retireFrame
  repeat' first
    | with_reducible assumption
    | simp only [Keeps.srf, h_srf]
    | with_reducible apply setF_keeps
    | with_reducible apply sweepPend_keeps
    | with_reducible apply forgetFrame_keeps
    | split

theorem engineStop_keeps {W0 : List Part} {r0 : State} (s : State) (h_regs : Part.regs ∈ W0) (h_hif : Part.hif ∈ W0) (h_queues : Part.queues ∈ W0) (h_sor : Part.sor ∈ W0) (h_srf : Part.srf ∈ W0) (h_ring : Part.ring ∈ W0) (h_out : Part.out ∈ W0) (h0 : Keeps W0 r0 s) :
    Keeps W0 r0 (engineStop s) := by
  unfold engineStop
  repeat' first
    | with_reducible assumption
    | simp only [Keeps.srf, h_srf]
    | with_reducible apply sweepPend_keeps
    | with_reducible apply forgetFrame_keeps
    | with_reducible apply Keeps.foldl
    | split
    | dsimp only
    | intro _

theorem engineQueue_keeps {W0 : List Part} {r0 : State} (s : State) (n : Nat) (h_srf : Part.srf ∈ W0) (h0 : Keeps W0 r0 s) :
    Keeps W0 r0 (engineQueue s n) := by
  unfold engineQueue
  repeat' first
    | with_reducible assumption
    | simp only [Keeps.srf, h_srf]

theorem addNeed_keeps {W0 : List Part} {r0 : State} (s : State) (n : Nat) (vp : Nat) (deadline : Nat) (canvas : Nat) (h_srf : Part.srf ∈ W0) (h0 : Keeps W0 r0 s) :
    Keeps W0 r0 (addNeed s n vp deadline canvas) := by
  unfold addNeed
  repeat' first
    | with_reducible assumption
    | simp only [Keeps.srf, h_srf]

theorem engineStart_keeps {W0 : List Part} {r0 : State} (s : State) (n : Nat) (handles : List Nat) (h_srf : Part.srf ∈ W0) (h0 : Keeps W0 r0 s) :
    Keeps W0 r0 (engineStart s n handles) := by
  unfold engineStart
  repeat' first
    | with_reducible assumption
    | simp only [Keeps.srf, h_srf]

theorem areaFetch_keeps {W0 : List Part} {r0 : State} (s : State) (handle : Nat) (off : Nat) (n : Nat) (host : HostRes) (h_regs : Part.regs ∈ W0) (h_hif : Part.hif ∈ W0) (h_srf : Part.srf ∈ W0) (h_drc : Part.drc ∈ W0) (h_chn : Part.chn ∈ W0) (h_out : Part.out ∈ W0) (h_free : Part.free ∈ W0) (h0 : Keeps W0 r0 s) :
    Keeps W0 r0 (areaFetch s handle off n host).2 := by
  unfold areaFetch
  repeat' first
    | with_reducible assumption
    | with_reducible apply svcFetch_keeps
    | split

theorem srfCreate_keeps {W0 : List Part} {r0 : State} (s : State) (it : Item) (h_regs : Part.regs ∈ W0) (h_hif : Part.hif ∈ W0) (h_queues : Part.queues ∈ W0) (h_sor : Part.sor ∈ W0) (h_srf : Part.srf ∈ W0) (h_ring : Part.ring ∈ W0) (h_out : Part.out ∈ W0) (h_free : Part.free ∈ W0) (h0 : Keeps W0 r0 s) :
    Keeps W0 r0 (srfCreate s it) := by
  unfold srfCreate
  repeat' first
    | with_reducible assumption
    | simp only [Keeps.srf, h_srf]
    | with_reducible apply srfShow_keeps
    | with_reducible apply allocPages_keeps
    | with_reducible apply srfDone_keeps

theorem allocRanges_keeps {W0 : List Part} {r0 : State} (h_srf : Part.srf ∈ W0) (h_free : Part.free ∈ W0) (y0 : List (Nat × Nat)) (y1 : State)
    (h0 : Keeps W0 r0 y1) :
    Keeps W0 r0 (allocRanges y0 y1).2 := by
  induction y0 generalizing y1 with
  | nil =>
    unfold allocRanges
    repeat' first
      | with_reducible assumption
  | cons x0 y0 ih =>
    unfold allocRanges
    repeat' first
      | with_reducible assumption
      | with_reducible apply ih
      | with_reducible apply allocPages_keeps

theorem srfBack_keeps {W0 : List Part} {r0 : State} (s : State) (it : Item) (h_regs : Part.regs ∈ W0) (h_hif : Part.hif ∈ W0) (h_queues : Part.queues ∈ W0) (h_sor : Part.sor ∈ W0) (h_srf : Part.srf ∈ W0) (h_ring : Part.ring ∈ W0) (h_out : Part.out ∈ W0) (h_free : Part.free ∈ W0) (h0 : Keeps W0 r0 s) :
    Keeps W0 r0 (srfBack s it) := by
  unfold srfBack
  repeat' first
    | with_reducible assumption
    | simp only [Keeps.srf, h_srf]
    | with_reducible apply srfShow_keeps
    | with_reducible apply dropCopies_keeps
    | with_reducible apply finishPend_keeps
    | with_reducible apply allocRanges_keeps
    | with_reducible refine Keeps.of_snd (by with_reducible assumption) ?_
    | with_reducible refine Keeps.of_snd2 (by with_reducible assumption) ?_
    | split

theorem srfInval_keeps {W0 : List Part} {r0 : State} (s : State) (it : Item) (h_regs : Part.regs ∈ W0) (h_hif : Part.hif ∈ W0) (h_queues : Part.queues ∈ W0) (h_sor : Part.sor ∈ W0) (h_srf : Part.srf ∈ W0) (h_ring : Part.ring ∈ W0) (h_out : Part.out ∈ W0) (h0 : Keeps W0 r0 s) :
    Keeps W0 r0 (srfInval s it) := by
  unfold srfInval
  repeat' first
    | with_reducible assumption
    | simp only [Keeps.srf, h_srf]
    | with_reducible apply srfShow_keeps
    | with_reducible apply dropCopies_keeps
    | with_reducible apply finishPend_keeps
    | split

theorem srfFree_keeps {W0 : List Part} {r0 : State} (s : State) (it : Item) (h_regs : Part.regs ∈ W0) (h_hif : Part.hif ∈ W0) (h_queues : Part.queues ∈ W0) (h_sor : Part.sor ∈ W0) (h_srf : Part.srf ∈ W0) (h_ring : Part.ring ∈ W0) (h_out : Part.out ∈ W0) (h0 : Keeps W0 r0 s) :
    Keeps W0 r0 (srfFree s it) := by
  unfold srfFree
  repeat' first
    | with_reducible assumption
    | simp only [Keeps.srf, h_srf]
    | with_reducible apply srfShow_keeps
    | with_reducible apply finishFree_keeps
    | split

theorem srfApply_keeps {W0 : List Part} {r0 : State} (s : State) (it : Item) (h_regs : Part.regs ∈ W0) (h_hif : Part.hif ∈ W0) (h_queues : Part.queues ∈ W0) (h_sor : Part.sor ∈ W0) (h_srf : Part.srf ∈ W0) (h_ring : Part.ring ∈ W0) (h_out : Part.out ∈ W0) (h_free : Part.free ∈ W0) (h0 : Keeps W0 r0 s) :
    Keeps W0 r0 (srfApply s it) := by
  unfold srfApply
  repeat' first
    | with_reducible assumption
    | with_reducible apply srfDone_keeps
    | with_reducible apply srfCreate_keeps
    | with_reducible apply srfBack_keeps
    | with_reducible apply srfInval_keeps
    | with_reducible apply srfFree_keeps
    | split
    | dsimp only

theorem srfEntry_keeps {W0 : List Part} {r0 : State} (s : State) (it : Item) (h_regs : Part.regs ∈ W0) (h_hif : Part.hif ∈ W0) (h_queues : Part.queues ∈ W0) (h_sor : Part.sor ∈ W0) (h_srf : Part.srf ∈ W0) (h_ring : Part.ring ∈ W0) (h_out : Part.out ∈ W0) (h_free : Part.free ∈ W0) (h0 : Keeps W0 r0 s) :
    Keeps W0 r0 (srfEntry s it) := by
  unfold srfEntry
  repeat' first
    | with_reducible assumption
    | simp only [Keeps.srf, h_srf]
    | with_reducible apply srfApply_keeps
    | split

theorem srfEnable_keeps {W0 : List Part} {r0 : State} (s : State) (h_regs : Part.regs ∈ W0) (h_srf : Part.srf ∈ W0) (h0 : Keeps W0 r0 s) :
    Keeps W0 r0 (srfEnable s) := by
  unfold srfEnable
  repeat' first
    | with_reducible assumption
    | simp only [Keeps.srf, h_srf]
    | with_reducible apply setF_keeps
    | with_reducible apply srfShow_keeps

theorem srfTableDone_keeps {W0 : List Part} {r0 : State} (s : State) (h_regs : Part.regs ∈ W0) (h_hif : Part.hif ∈ W0) (h_queues : Part.queues ∈ W0) (h_sor : Part.sor ∈ W0) (h_srf : Part.srf ∈ W0) (h_ring : Part.ring ∈ W0) (h_out : Part.out ∈ W0) (h_free : Part.free ∈ W0) (h0 : Keeps W0 r0 s) :
    Keeps W0 r0 (srfTableDone s) := by
  unfold srfTableDone
  repeat' first
    | with_reducible assumption
    | simp only [Keeps.srf, h_srf]
    | with_reducible apply srfApply_keeps
    | with_reducible apply Keeps.foldl
    | split
    | dsimp only
    | intro _

theorem prefetchMiss_keeps {W0 : List Part} {r0 : State} (s : State) (vp : Nat) (frame : Nat) (c : Status) (h_regs : Part.regs ∈ W0) (h_srf : Part.srf ∈ W0) (h0 : Keeps W0 r0 s) :
    Keeps W0 r0 (prefetchMiss s vp frame c) := by
  unfold prefetchMiss
  repeat' first
    | with_reducible assumption
    | simp only [Keeps.srf, h_srf]
    | with_reducible apply setF_keeps
    | with_reducible apply incSat_keeps

theorem prefetchOne_keeps {W0 : List Part} {r0 : State} (s : State) (p : Need → Bool) (h_regs : Part.regs ∈ W0) (h_hif : Part.hif ∈ W0) (h_srf : Part.srf ∈ W0) (h_drc : Part.drc ∈ W0) (h_chn : Part.chn ∈ W0) (h_out : Part.out ∈ W0) (h_free : Part.free ∈ W0) (h0 : Keeps W0 r0 s) :
    Keeps W0 r0 (prefetchOne s p) := by
  unfold prefetchOne
  repeat' first
    | with_reducible assumption
    | simp only [Keeps.srf, h_srf]
    | with_reducible apply upstream_keeps
    | with_reducible apply srfWalk_keeps
    | with_reducible apply prefetchMiss_keeps
    | split

theorem prefetchDue_keeps {W0 : List Part} {r0 : State} (s : State) (h_regs : Part.regs ∈ W0) (h_hif : Part.hif ∈ W0) (h_srf : Part.srf ∈ W0) (h_drc : Part.drc ∈ W0) (h_chn : Part.chn ∈ W0) (h_out : Part.out ∈ W0) (h_free : Part.free ∈ W0) (h0 : Keeps W0 r0 s) :
    Keeps W0 r0 (prefetchDue s) := by
  unfold prefetchDue
  repeat' first
    | with_reducible assumption
    | with_reducible apply prefetchOne_keeps
    | with_reducible apply Keeps.foldl
    | split
    | dsimp only
    | intro _

theorem prefetchIssue_keeps {W0 : List Part} {r0 : State} (s : State) (h_regs : Part.regs ∈ W0) (h_hif : Part.hif ∈ W0) (h_srf : Part.srf ∈ W0) (h_drc : Part.drc ∈ W0) (h_chn : Part.chn ∈ W0) (h_out : Part.out ∈ W0) (h_free : Part.free ∈ W0) (h0 : Keeps W0 r0 s) :
    Keeps W0 r0 (prefetchIssue s) := by
  unfold prefetchIssue
  repeat' first
    | with_reducible assumption
    | with_reducible apply prefetchOne_keeps
    | with_reducible apply prefetchDue_keeps

theorem prefetchDone_keeps {W0 : List Part} {r0 : State} (s : State) (vp : Nat) (b : Bytes) (h_regs : Part.regs ∈ W0) (h_hif : Part.hif ∈ W0) (h_srf : Part.srf ∈ W0) (h_drc : Part.drc ∈ W0) (h_dram : Part.dram ∈ W0) (h_out : Part.out ∈ W0) (h0 : Keeps W0 r0 s) :
    Keeps W0 r0 (prefetchDone s vp b) := by
  unfold prefetchDone
  repeat' first
    | with_reducible assumption
    | simp only [Keeps.srf, h_srf]
    | with_reducible apply dramWr_keeps
    | with_reducible apply dropRead_keeps
    | split

theorem prefetchFail_keeps {W0 : List Part} {r0 : State} (s : State) (vp : Nat) (c : Status) (h_regs : Part.regs ∈ W0) (h_hif : Part.hif ∈ W0) (h_srf : Part.srf ∈ W0) (h_out : Part.out ∈ W0) (h0 : Keeps W0 r0 s) :
    Keeps W0 r0 (prefetchFail s vp c) := by
  unfold prefetchFail
  repeat' first
    | with_reducible assumption
    | simp only [Keeps.srf, h_srf]
    | with_reducible apply dropRead_keeps
    | with_reducible apply prefetchMiss_keeps
    | split

theorem recordLate_keeps {W0 : List Part} {r0 : State} (s : State) (d : Need) (h_regs : Part.regs ∈ W0) (h_srf : Part.srf ∈ W0) (h0 : Keeps W0 r0 s) :
    Keeps W0 r0 (recordLate s d) := by
  unfold recordLate
  repeat' first
    | with_reducible assumption
    | simp only [Keeps.srf, h_srf]
    | with_reducible apply setF_keeps
    | with_reducible apply incSat_keeps

theorem touchNeeds_keeps {W0 : List Part} {r0 : State} (s : State) (n : Nat) (p : Need → Bool) (h_regs : Part.regs ∈ W0) (h_hif : Part.hif ∈ W0) (h_srf : Part.srf ∈ W0) (h_drc : Part.drc ∈ W0) (h_chn : Part.chn ∈ W0) (h_out : Part.out ∈ W0) (h_free : Part.free ∈ W0) (h0 : Keeps W0 r0 s) :
    Keeps W0 r0 (touchNeeds s n p) := by
  unfold touchNeeds
  repeat' first
    | with_reducible assumption
    | simp only [Keeps.srf, h_srf]
    | with_reducible apply srfWalk_keeps
    | with_reducible apply Keeps.foldl
    | split
    | dsimp only
    | intro _

theorem srfLinkLoss_keeps {W0 : List Part} {r0 : State} (s : State) (h_regs : Part.regs ∈ W0) (h_hif : Part.hif ∈ W0) (h_srf : Part.srf ∈ W0) (h_out : Part.out ∈ W0) (h0 : Keeps W0 r0 s) :
    Keeps W0 r0 (srfLinkLoss s) := by
  unfold srfLinkLoss
  repeat' first
    | with_reducible assumption
    | with_reducible apply prefetchFail_keeps
    | with_reducible apply Keeps.foldl
    | split
    | dsimp only
    | intro _

theorem srfBlockReset_keeps {W0 : List Part} {r0 : State} (s : State) (h_regs : Part.regs ∈ W0) (h_hif : Part.hif ∈ W0) (h_queues : Part.queues ∈ W0) (h_sor : Part.sor ∈ W0) (h_srf : Part.srf ∈ W0) (h_ring : Part.ring ∈ W0) (h_out : Part.out ∈ W0) (h0 : Keeps W0 r0 s) :
    Keeps W0 r0 (srfBlockReset s) := by
  unfold srfBlockReset
  repeat' first
    | with_reducible assumption
    | simp only [Keeps.srf, h_srf]
    | with_reducible apply resetRegs_keeps
    | with_reducible apply srfDone_keeps
    | with_reducible apply Keeps.foldl
    | split
    | dsimp only
    | intro _

theorem execSrfTableInitDone_keeps {W0 : List Part} {r0 : State} (s : State) (h_regs : Part.regs ∈ W0) (h_hif : Part.hif ∈ W0) (h_queues : Part.queues ∈ W0) (h_sor : Part.sor ∈ W0) (h_srf : Part.srf ∈ W0) (h_ring : Part.ring ∈ W0) (h_out : Part.out ∈ W0) (h_free : Part.free ∈ W0) {t0 : State} (h0 : Keeps W0 r0 s) (ht : execSrfTableInitDone s = .next t0) :
    Keeps W0 r0 t0 := by
  unfold execSrfTableInitDone at ht
  apply whenOn_keeps (ht := ht)
  repeat' first
    | with_reducible assumption
    | with_reducible apply srfTableDone_keeps
    | split
    | dsimp only
    | intro _

theorem execSurfaceCreate_keeps {W0 : List Part} {r0 : State} (s : State) (h_regs : Part.regs ∈ W0) (h_hif : Part.hif ∈ W0) (h_queues : Part.queues ∈ W0) (h_sor : Part.sor ∈ W0) (h_srf : Part.srf ∈ W0) (h_ring : Part.ring ∈ W0) (h_out : Part.out ∈ W0) (h_free : Part.free ∈ W0) {t0 : State} (h0 : Keeps W0 r0 s) (ht : execSurfaceCreate s = .next t0) :
    Keeps W0 r0 t0 := by
  unfold execSurfaceCreate at ht
  apply whenOn_keeps (ht := ht)
  repeat' first
    | with_reducible assumption
    | with_reducible apply onEntry_keeps
    | with_reducible apply srfEntry_keeps
    | split
    | dsimp only
    | intro _

theorem execSurfaceBack_keeps {W0 : List Part} {r0 : State} (s : State) (h_regs : Part.regs ∈ W0) (h_hif : Part.hif ∈ W0) (h_queues : Part.queues ∈ W0) (h_sor : Part.sor ∈ W0) (h_srf : Part.srf ∈ W0) (h_ring : Part.ring ∈ W0) (h_out : Part.out ∈ W0) (h_free : Part.free ∈ W0) {t0 : State} (h0 : Keeps W0 r0 s) (ht : execSurfaceBack s = .next t0) :
    Keeps W0 r0 t0 := by
  unfold execSurfaceBack at ht
  apply whenOn_keeps (ht := ht)
  repeat' first
    | with_reducible assumption
    | with_reducible apply onEntry_keeps
    | with_reducible apply srfEntry_keeps
    | split
    | dsimp only
    | intro _

theorem execSurfaceFree_keeps {W0 : List Part} {r0 : State} (s : State) (h_regs : Part.regs ∈ W0) (h_hif : Part.hif ∈ W0) (h_queues : Part.queues ∈ W0) (h_sor : Part.sor ∈ W0) (h_srf : Part.srf ∈ W0) (h_ring : Part.ring ∈ W0) (h_out : Part.out ∈ W0) (h_free : Part.free ∈ W0) {t0 : State} (h0 : Keeps W0 r0 s) (ht : execSurfaceFree s = .next t0) :
    Keeps W0 r0 t0 := by
  unfold execSurfaceFree at ht
  apply whenOn_keeps (ht := ht)
  repeat' first
    | with_reducible assumption
    | with_reducible apply onEntry_keeps
    | with_reducible apply srfEntry_keeps
    | split
    | dsimp only
    | intro _

theorem execSurfaceInval_keeps {W0 : List Part} {r0 : State} (s : State) (h_regs : Part.regs ∈ W0) (h_hif : Part.hif ∈ W0) (h_queues : Part.queues ∈ W0) (h_sor : Part.sor ∈ W0) (h_srf : Part.srf ∈ W0) (h_ring : Part.ring ∈ W0) (h_out : Part.out ∈ W0) (h_free : Part.free ∈ W0) {t0 : State} (h0 : Keeps W0 r0 s) (ht : execSurfaceInval s = .next t0) :
    Keeps W0 r0 t0 := by
  unfold execSurfaceInval at ht
  apply whenOn_keeps (ht := ht)
  repeat' first
    | with_reducible assumption
    | with_reducible apply onEntry_keeps
    | with_reducible apply srfEntry_keeps
    | split
    | dsimp only
    | intro _

theorem execFrameRetire_keeps {W0 : List Part} {r0 : State} (s : State) (h_regs : Part.regs ∈ W0) (h_hif : Part.hif ∈ W0) (h_queues : Part.queues ∈ W0) (h_sor : Part.sor ∈ W0) (h_srf : Part.srf ∈ W0) (h_ring : Part.ring ∈ W0) (h_out : Part.out ∈ W0) {t0 : State} (h0 : Keeps W0 r0 s) (ht : execFrameRetire s = .next t0) :
    Keeps W0 r0 t0 := by
  unfold execFrameRetire at ht
  apply whenOn_keeps (ht := ht)
  repeat' first
    | with_reducible assumption
    | with_reducible apply retireFrame_keeps
    | split
    | dsimp only
    | intro _

theorem execPrefetchIssue_keeps {W0 : List Part} {r0 : State} (s : State) (h_regs : Part.regs ∈ W0) (h_hif : Part.hif ∈ W0) (h_srf : Part.srf ∈ W0) (h_drc : Part.drc ∈ W0) (h_chn : Part.chn ∈ W0) (h_out : Part.out ∈ W0) (h_free : Part.free ∈ W0) {t0 : State} (h0 : Keeps W0 r0 s) (ht : execPrefetchIssue s = .next t0) :
    Keeps W0 r0 t0 := by
  unfold execPrefetchIssue at ht
  apply whenOn_keeps (ht := ht)
  repeat' first
    | with_reducible assumption
    | with_reducible apply prefetchIssue_keeps
    | split
    | dsimp only
    | intro _

theorem execPrefetchDone_keeps {W0 : List Part} {r0 : State} (vp : Nat) (b : Bytes) (s : State) (h_regs : Part.regs ∈ W0) (h_hif : Part.hif ∈ W0) (h_srf : Part.srf ∈ W0) (h_drc : Part.drc ∈ W0) (h_dram : Part.dram ∈ W0) (h_out : Part.out ∈ W0) {t0 : State} (h0 : Keeps W0 r0 s) (ht : execPrefetchDone vp b s = .next t0) :
    Keeps W0 r0 t0 := by
  unfold execPrefetchDone at ht
  apply whenOn_keeps (ht := ht)
  repeat' first
    | with_reducible assumption
    | with_reducible apply prefetchDone_keeps
    | split
    | dsimp only
    | intro _

theorem execPrefetchFail_keeps {W0 : List Part} {r0 : State} (vp : Nat) (poisoned : Bool) (s : State) (h_regs : Part.regs ∈ W0) (h_hif : Part.hif ∈ W0) (h_srf : Part.srf ∈ W0) (h_out : Part.out ∈ W0) {t0 : State} (h0 : Keeps W0 r0 s) (ht : execPrefetchFail vp poisoned s = .next t0) :
    Keeps W0 r0 t0 := by
  unfold execPrefetchFail at ht
  apply whenOn_keeps (ht := ht)
  repeat' first
    | with_reducible assumption
    | with_reducible apply prefetchFail_keeps
    | split
    | dsimp only
    | intro _

end Sys2Proof.Machine
end

