-- ==== Sys2Proof/Laws/KeepDma.lean ====
section
/-! SUPPORT. What each operation of Machine/Dma.lean touches. -/

namespace Sys2Proof.Machine

theorem setChan_keeps {W0 : List Part} {r0 : State} (s : State) (c : Nat) (x : Chan) (h_dma : Part.dma ∈ W0) (h0 : Keeps W0 r0 s) :
    Keeps W0 r0 (setChan s c x) := by
  unfold setChan
  repeat' first
    | with_reducible assumption
    | simp only [Keeps.dma, h_dma]

theorem dmaShow_keeps {W0 : List Part} {r0 : State} (s : State) (c : Nat) (h_regs : Part.regs ∈ W0) (h_sor : Part.sor ∈ W0) (h0 : Keeps W0 r0 s) :
    Keeps W0 r0 (dmaShow s c) := by
  unfold dmaShow
  repeat' first
    | with_reducible assumption
    | with_reducible apply setF_keeps
    | with_reducible apply showTarget_keeps

theorem dmaFinish_keeps {W0 : List Part} {r0 : State} (s : State) (c : Nat) (d : Desc) (code : Status) (fseg : Nat) (finfo : Nat) (h_regs : Part.regs ∈ W0) (h_hif : Part.hif ∈ W0) (h_queues : Part.queues ∈ W0) (h_sor : Part.sor ∈ W0) (h_ring : Part.ring ∈ W0) (h_out : Part.out ∈ W0) (h0 : Keeps W0 r0 s) :
    Keeps W0 r0 (dmaFinish s c d code fseg finfo) := by
  unfold dmaFinish
  repeat' first
    | with_reducible assumption
    | with_reducible apply setF_keeps
    | with_reducible apply incSat_keeps
    | with_reducible apply incMod_keeps
    | with_reducible apply complete40_keeps
    | split
    | dsimp only

theorem dmaEnd_keeps {W0 : List Part} {r0 : State} (s : State) (c : Nat) (d : Desc) (h_regs : Part.regs ∈ W0) (h_hif : Part.hif ∈ W0) (h_queues : Part.queues ∈ W0) (h_sor : Part.sor ∈ W0) (h_ring : Part.ring ∈ W0) (h_out : Part.out ∈ W0) (h0 : Keeps W0 r0 s) :
    Keeps W0 r0 (dmaEnd s c d) := by
  unfold dmaEnd
  repeat' first
    | with_reducible assumption
    | with_reducible apply dmaFinish_keeps
    | split

theorem putBlock_keeps {W0 : List Part} {r0 : State} (s : State) (c : Nat) (d : Desc) (b : Bytes) (h_regs : Part.regs ∈ W0) (h_hif : Part.hif ∈ W0) (h_dma : Part.dma ∈ W0) (h_srf : Part.srf ∈ W0) (h_drc : Part.drc ∈ W0) (h_chn : Part.chn ∈ W0) (h_dram : Part.dram ∈ W0) (h_out : Part.out ∈ W0) (h_free : Part.free ∈ W0) (h0 : Keeps W0 r0 s) :
    Keeps W0 r0 (putBlock s c d b).2 := by
  unfold putBlock
  repeat' first
    | with_reducible assumption
    | with_reducible apply dramWr_keeps
    | with_reducible apply upstream_keeps
    | with_reducible apply srfWalk_keeps
    | with_reducible apply setChan_keeps
    | split
    | dsimp only

theorem srcBlock_keeps {W0 : List Part} {r0 : State} (s : State) (d : Desc) (a : Nat) (h_free : Part.free ∈ W0) (h0 : Keeps W0 r0 s) :
    Keeps W0 r0 (srcBlock s d a).2 := by
  unfold srcBlock
  repeat' first
    | with_reducible assumption
    | with_reducible apply drawNat_keeps
    | with_reducible refine Keeps.of_snd (by with_reducible assumption) ?_
    | with_reducible refine Keeps.of_snd2 (by with_reducible assumption) ?_
    | split

theorem moveBlocks_keeps {W0 : List Part} {r0 : State} (c : Nat) (h_regs : Part.regs ∈ W0) (h_hif : Part.hif ∈ W0) (h_dma : Part.dma ∈ W0) (h_srf : Part.srf ∈ W0) (h_drc : Part.drc ∈ W0) (h_chn : Part.chn ∈ W0) (h_dram : Part.dram ∈ W0) (h_out : Part.out ∈ W0) (h_free : Part.free ∈ W0) (y0 : Nat) (y1 : Bytes) (y2 : Desc) (y3 : State)
    (h0 : Keeps W0 r0 y3) :
    Keeps W0 r0 (moveBlocks c y0 y1 y2 y3).2 := by
  induction y0 generalizing y1 y2 y3 c with
  | zero =>
    unfold moveBlocks
    repeat' first
      | with_reducible assumption
  | succ y0 ih =>
    unfold moveBlocks
    repeat' first
      | with_reducible assumption
      | with_reducible apply ih
      | with_reducible apply noteBad_keeps
      | with_reducible apply srfWalk_keeps
      | with_reducible apply putBlock_keeps
      | with_reducible apply srcBlock_keeps
      | with_reducible refine Keeps.of_snd (by with_reducible assumption) ?_
      | with_reducible refine Keeps.of_snd2 (by with_reducible assumption) ?_
      | split
      | dsimp only

theorem fillBlocks_keeps {W0 : List Part} {r0 : State} (c : Nat) (h_regs : Part.regs ∈ W0) (h_hif : Part.hif ∈ W0) (h_dma : Part.dma ∈ W0) (h_srf : Part.srf ∈ W0) (h_drc : Part.drc ∈ W0) (h_chn : Part.chn ∈ W0) (h_dram : Part.dram ∈ W0) (h_out : Part.out ∈ W0) (h_free : Part.free ∈ W0) (y0 : Nat) (y1 : Desc) (y2 : State)
    (h0 : Keeps W0 r0 y2) :
    Keeps W0 r0 (fillBlocks c y0 y1 y2).2 := by
  induction y0 generalizing y1 y2 c with
  | zero =>
    unfold fillBlocks
    repeat' first
      | with_reducible assumption
  | succ y0 ih =>
    unfold fillBlocks
    repeat' first
      | with_reducible assumption
      | with_reducible apply ih
      | with_reducible apply putBlock_keeps
      | with_reducible refine Keeps.of_snd (by with_reducible assumption) ?_
      | with_reducible refine Keeps.of_snd2 (by with_reducible assumption) ?_
      | split

theorem payRead_keeps {W0 : List Part} {r0 : State} (s : State) (c : Nat) (n : Nat) (h_dma : Part.dma ∈ W0) (h0 : Keeps W0 r0 s) :
    Keeps W0 r0 (payRead s c n) := by
  unfold payRead
  repeat' first
    | with_reducible assumption
    | with_reducible apply setChan_keeps
    | split
    | dsimp only

theorem chanConfig_keeps {W0 : List Part} {r0 : State} (s : State) (c : Nat) (h_dma : Part.dma ∈ W0) (h0 : Keeps W0 r0 s) :
    Keeps W0 r0 (chanConfig s c) := by
  unfold chanConfig
  repeat' first
    | with_reducible assumption
    | with_reducible apply setChan_keeps

theorem waitTurn_keeps {W0 : List Part} {r0 : State} (s : State) (c : Nat) (h_hif : Part.hif ∈ W0) (h0 : Keeps W0 r0 s) :
    Keeps W0 r0 (waitTurn s c) := by
  unfold waitTurn
  repeat' first
    | with_reducible assumption
    | simp only [Keeps.hif, h_hif]
    | split

theorem askSeg_keeps {W0 : List Part} {r0 : State} (s : State) (c : Nat) (shadow : Bool) (d : Desc) (dst : Bool) (h_regs : Part.regs ∈ W0) (h_hif : Part.hif ∈ W0) (h_dma : Part.dma ∈ W0) (h_srf : Part.srf ∈ W0) (h_drc : Part.drc ∈ W0) (h_chn : Part.chn ∈ W0) (h_out : Part.out ∈ W0) (h_free : Part.free ∈ W0) (h0 : Keeps W0 r0 s) :
    Keeps W0 r0 (askSeg s c shadow d dst).2 := by
  unfold askSeg
  repeat' first
    | with_reducible assumption
    | with_reducible apply upstream_keeps
    | with_reducible apply srfWalk_keeps
    | with_reducible apply payRead_keeps
    | with_reducible apply waitTurn_keeps
    | split
    | dsimp only

theorem askSegs_keeps {W0 : List Part} {r0 : State} (s : State) (c : Nat) (shadow : Bool) (d : Desc) (h_regs : Part.regs ∈ W0) (h_hif : Part.hif ∈ W0) (h_dma : Part.dma ∈ W0) (h_srf : Part.srf ∈ W0) (h_drc : Part.drc ∈ W0) (h_chn : Part.chn ∈ W0) (h_out : Part.out ∈ W0) (h_free : Part.free ∈ W0) (h0 : Keeps W0 r0 s) :
    Keeps W0 r0 (askSegs s c shadow d).2 := by
  unfold askSegs
  repeat' first
    | with_reducible assumption
    | with_reducible apply askSeg_keeps
    | with_reducible refine Keeps.of_snd (by with_reducible assumption) ?_
    | with_reducible refine Keeps.of_snd2 (by with_reducible assumption) ?_
    | split

theorem putHeld_keeps {W0 : List Part} {r0 : State} (s : State) (c : Nat) (d : Desc) (h_regs : Part.regs ∈ W0) (h_hif : Part.hif ∈ W0) (h_dma : Part.dma ∈ W0) (h_srf : Part.srf ∈ W0) (h_drc : Part.drc ∈ W0) (h_chn : Part.chn ∈ W0) (h_dram : Part.dram ∈ W0) (h_out : Part.out ∈ W0) (h_free : Part.free ∈ W0) (h0 : Keeps W0 r0 s) :
    Keeps W0 r0 (putHeld s c d).2 := by
  unfold putHeld
  repeat' first
    | with_reducible assumption
    | with_reducible apply moveBlocks_keeps
    | with_reducible apply waitTurn_keeps
    | split

theorem askData_keeps {W0 : List Part} {r0 : State} (s : State) (c : Nat) (d : Desc) (h_regs : Part.regs ∈ W0) (h_hif : Part.hif ∈ W0) (h_dma : Part.dma ∈ W0) (h_srf : Part.srf ∈ W0) (h_drc : Part.drc ∈ W0) (h_chn : Part.chn ∈ W0) (h_out : Part.out ∈ W0) (h_free : Part.free ∈ W0) (h0 : Keeps W0 r0 s) :
    Keeps W0 r0 (askData s c d) := by
  unfold askData
  repeat' first
    | with_reducible assumption
    | with_reducible apply upstream_keeps
    | with_reducible apply srfWalk_keeps
    | with_reducible apply setChan_keeps
    | with_reducible apply payRead_keeps
    | with_reducible apply waitTurn_keeps
    | split

theorem dmaPump_keeps {W0 : List Part} {r0 : State} (s : State) (c : Nat) (h_regs : Part.regs ∈ W0) (h_hif : Part.hif ∈ W0) (h_dma : Part.dma ∈ W0) (h_srf : Part.srf ∈ W0) (h_drc : Part.drc ∈ W0) (h_chn : Part.chn ∈ W0) (h_dram : Part.dram ∈ W0) (h_out : Part.out ∈ W0) (h_free : Part.free ∈ W0) (h0 : Keeps W0 r0 s) :
    Keeps W0 r0 (dmaPump s c) := by
  unfold dmaPump
  repeat' first
    | with_reducible assumption
    | with_reducible apply setChan_keeps
    | with_reducible apply fillBlocks_keeps
    | with_reducible apply waitTurn_keeps
    | with_reducible apply askSegs_keeps
    | with_reducible apply putHeld_keeps
    | with_reducible apply askData_keeps
    | with_reducible refine Keeps.of_snd (by with_reducible assumption) ?_
    | with_reducible refine Keeps.of_snd2 (by with_reducible assumption) ?_
    | split
    | dsimp only

theorem dropShadow_keeps {W0 : List Part} {r0 : State} (s : State) (c : Nat) (h_regs : Part.regs ∈ W0) (h_hif : Part.hif ∈ W0) (h_queues : Part.queues ∈ W0) (h_sor : Part.sor ∈ W0) (h_dma : Part.dma ∈ W0) (h_ring : Part.ring ∈ W0) (h_out : Part.out ∈ W0) (h0 : Keeps W0 r0 s) :
    Keeps W0 r0 (dropShadow s c) := by
  unfold dropShadow
  repeat' first
    | with_reducible assumption
    | with_reducible apply giveUpRead_keeps
    | with_reducible apply setChan_keeps
    | with_reducible apply dmaEnd_keeps
    | split
    | dsimp only

theorem swapIn_keeps {W0 : List Part} {r0 : State} (s : State) (c : Nat) (h_dma : Part.dma ∈ W0) (h0 : Keeps W0 r0 s) :
    Keeps W0 r0 (swapIn s c) := by
  unfold swapIn
  repeat' first
    | with_reducible assumption
    | with_reducible apply setChan_keeps
    | split
    | dsimp only

theorem promote_keeps {W0 : List Part} {r0 : State} (s : State) (c : Nat) (h_dma : Part.dma ∈ W0) (h0 : Keeps W0 r0 s) :
    Keeps W0 r0 (promote s c) := by
  unfold promote
  repeat' first
    | with_reducible assumption
    | with_reducible apply setChan_keeps
    | split
    | dsimp only

theorem endFailed_keeps {W0 : List Part} {r0 : State} (s : State) (c : Nat) (h_regs : Part.regs ∈ W0) (h_hif : Part.hif ∈ W0) (h_queues : Part.queues ∈ W0) (h_sor : Part.sor ∈ W0) (h_dma : Part.dma ∈ W0) (h_ring : Part.ring ∈ W0) (h_out : Part.out ∈ W0) (h0 : Keeps W0 r0 s) :
    Keeps W0 r0 (endFailed s c) := by
  unfold endFailed
  repeat' first
    | with_reducible assumption
    | with_reducible apply setChan_keeps
    | with_reducible apply dmaEnd_keeps
    | split
    | dsimp only

theorem shadowAsk_keeps {W0 : List Part} {r0 : State} (s : State) (c : Nat) (h_regs : Part.regs ∈ W0) (h_hif : Part.hif ∈ W0) (h_dma : Part.dma ∈ W0) (h_srf : Part.srf ∈ W0) (h_drc : Part.drc ∈ W0) (h_chn : Part.chn ∈ W0) (h_out : Part.out ∈ W0) (h_free : Part.free ∈ W0) (h0 : Keeps W0 r0 s) :
    Keeps W0 r0 (shadowAsk s c) := by
  unfold shadowAsk
  repeat' first
    | with_reducible assumption
    | with_reducible apply setChan_keeps
    | with_reducible apply askSegs_keeps
    | with_reducible refine Keeps.of_snd (by with_reducible assumption) ?_
    | with_reducible refine Keeps.of_snd2 (by with_reducible assumption) ?_
    | split
    | dsimp only

theorem settleOnce_keeps {W0 : List Part} {r0 : State} (s : State) (c : Nat) (h_regs : Part.regs ∈ W0) (h_hif : Part.hif ∈ W0) (h_queues : Part.queues ∈ W0) (h_sor : Part.sor ∈ W0) (h_dma : Part.dma ∈ W0) (h_srf : Part.srf ∈ W0) (h_drc : Part.drc ∈ W0) (h_chn : Part.chn ∈ W0) (h_dram : Part.dram ∈ W0) (h_ring : Part.ring ∈ W0) (h_out : Part.out ∈ W0) (h_free : Part.free ∈ W0) (h0 : Keeps W0 r0 s) :
    Keeps W0 r0 (settleOnce s c) := by
  unfold settleOnce
  repeat' first
    | with_reducible assumption
    | with_reducible apply dmaPump_keeps
    | with_reducible apply dropShadow_keeps
    | with_reducible apply swapIn_keeps
    | with_reducible apply promote_keeps
    | with_reducible apply endFailed_keeps
    | with_reducible apply shadowAsk_keeps

theorem settle_keeps {W0 : List Part} {r0 : State} (s : State) (c : Nat) (h_regs : Part.regs ∈ W0) (h_hif : Part.hif ∈ W0) (h_queues : Part.queues ∈ W0) (h_sor : Part.sor ∈ W0) (h_dma : Part.dma ∈ W0) (h_srf : Part.srf ∈ W0) (h_drc : Part.drc ∈ W0) (h_chn : Part.chn ∈ W0) (h_dram : Part.dram ∈ W0) (h_ring : Part.ring ∈ W0) (h_out : Part.out ∈ W0) (h_free : Part.free ∈ W0) (h0 : Keeps W0 r0 s) :
    Keeps W0 r0 (settle s c) := by
  unfold settle
  repeat' first
    | with_reducible assumption
    | with_reducible apply kickAll_keeps
    | with_reducible apply dmaShow_keeps
    | with_reducible apply settleOnce_keeps
    | split
    | dsimp only

theorem dmaHand_keeps {W0 : List Part} {r0 : State} (s : State) (c : Nat) (it : Item) (h_regs : Part.regs ∈ W0) (h_hif : Part.hif ∈ W0) (h_queues : Part.queues ∈ W0) (h_sor : Part.sor ∈ W0) (h_dma : Part.dma ∈ W0) (h_srf : Part.srf ∈ W0) (h_drc : Part.drc ∈ W0) (h_chn : Part.chn ∈ W0) (h_dram : Part.dram ∈ W0) (h_ring : Part.ring ∈ W0) (h_out : Part.out ∈ W0) (h_free : Part.free ∈ W0) (h0 : Keeps W0 r0 s) :
    Keeps W0 r0 (dmaHand s c it) := by
  unfold dmaHand
  repeat' first
    | with_reducible assumption
    | with_reducible apply setChan_keeps
    | with_reducible apply shadowAsk_keeps
    | with_reducible apply settle_keeps

theorem dmaReturn_keeps {W0 : List Part} {r0 : State} (s : State) (c : Nat) (h_hif : Part.hif ∈ W0) (h_sor : Part.sor ∈ W0) (h_dma : Part.dma ∈ W0) (h0 : Keeps W0 r0 s) :
    Keeps W0 r0 (dmaReturn s c) := by
  unfold dmaReturn
  repeat' first
    | with_reducible assumption
    | simp only [Keeps.sor, h_sor]
    | with_reducible apply giveUpRead_keeps
    | with_reducible apply setChan_keeps

theorem dmaPreempt_keeps {W0 : List Part} {r0 : State} (s : State) (c : Nat) (it : Item) (h_regs : Part.regs ∈ W0) (h_hif : Part.hif ∈ W0) (h_queues : Part.queues ∈ W0) (h_sor : Part.sor ∈ W0) (h_dma : Part.dma ∈ W0) (h_srf : Part.srf ∈ W0) (h_drc : Part.drc ∈ W0) (h_chn : Part.chn ∈ W0) (h_dram : Part.dram ∈ W0) (h_ring : Part.ring ∈ W0) (h_out : Part.out ∈ W0) (h_free : Part.free ∈ W0) (h0 : Keeps W0 r0 s) :
    Keeps W0 r0 (dmaPreempt s c it) := by
  unfold dmaPreempt
  repeat' first
    | with_reducible assumption
    | with_reducible apply setChan_keeps
    | with_reducible apply shadowAsk_keeps
    | with_reducible apply settle_keeps
    | with_reducible apply dmaReturn_keeps

theorem segDone_keeps {W0 : List Part} {r0 : State} (s : State) (c : Nat) (shadow : Bool) (dst : Bool) (res : RdRes) (h_regs : Part.regs ∈ W0) (h_hif : Part.hif ∈ W0) (h_queues : Part.queues ∈ W0) (h_sor : Part.sor ∈ W0) (h_dma : Part.dma ∈ W0) (h_srf : Part.srf ∈ W0) (h_drc : Part.drc ∈ W0) (h_chn : Part.chn ∈ W0) (h_dram : Part.dram ∈ W0) (h_ring : Part.ring ∈ W0) (h_out : Part.out ∈ W0) (h_free : Part.free ∈ W0) (h0 : Keeps W0 r0 s) :
    Keeps W0 r0 (segDone s c shadow dst res) := by
  unfold segDone
  repeat' first
    | with_reducible assumption
    | with_reducible apply dropRead_keeps
    | with_reducible apply noteBad_keeps
    | with_reducible apply setChan_keeps
    | with_reducible apply settle_keeps
    | split
    | dsimp only

theorem segFail_keeps {W0 : List Part} {r0 : State} (s : State) (c : Nat) (shadow : Bool) (dst : Bool) (k : Status) (h_regs : Part.regs ∈ W0) (h_hif : Part.hif ∈ W0) (h_queues : Part.queues ∈ W0) (h_sor : Part.sor ∈ W0) (h_dma : Part.dma ∈ W0) (h_srf : Part.srf ∈ W0) (h_drc : Part.drc ∈ W0) (h_chn : Part.chn ∈ W0) (h_dram : Part.dram ∈ W0) (h_ring : Part.ring ∈ W0) (h_out : Part.out ∈ W0) (h_free : Part.free ∈ W0) (h0 : Keeps W0 r0 s) :
    Keeps W0 r0 (segFail s c shadow dst k) := by
  unfold segFail
  repeat' first
    | with_reducible assumption
    | with_reducible apply dropRead_keeps
    | with_reducible apply setChan_keeps
    | with_reducible apply settle_keeps
    | split
    | dsimp only

theorem readDone_keeps {W0 : List Part} {r0 : State} (s : State) (c : Nat) (res : RdRes) (h_regs : Part.regs ∈ W0) (h_hif : Part.hif ∈ W0) (h_queues : Part.queues ∈ W0) (h_sor : Part.sor ∈ W0) (h_dma : Part.dma ∈ W0) (h_srf : Part.srf ∈ W0) (h_drc : Part.drc ∈ W0) (h_chn : Part.chn ∈ W0) (h_dram : Part.dram ∈ W0) (h_ring : Part.ring ∈ W0) (h_out : Part.out ∈ W0) (h_free : Part.free ∈ W0) (h0 : Keeps W0 r0 s) :
    Keeps W0 r0 (readDone s c res) := by
  unfold readDone
  repeat' first
    | with_reducible assumption
    | with_reducible apply dropRead_keeps
    | with_reducible apply setChan_keeps
    | with_reducible apply moveBlocks_keeps
    | with_reducible apply settle_keeps
    | with_reducible refine Keeps.of_snd (by with_reducible assumption) ?_
    | with_reducible refine Keeps.of_snd2 (by with_reducible assumption) ?_
    | split
    | dsimp only

theorem readFail_keeps {W0 : List Part} {r0 : State} (s : State) (c : Nat) (k : Status) (h_regs : Part.regs ∈ W0) (h_hif : Part.hif ∈ W0) (h_queues : Part.queues ∈ W0) (h_sor : Part.sor ∈ W0) (h_dma : Part.dma ∈ W0) (h_srf : Part.srf ∈ W0) (h_drc : Part.drc ∈ W0) (h_chn : Part.chn ∈ W0) (h_dram : Part.dram ∈ W0) (h_ring : Part.ring ∈ W0) (h_out : Part.out ∈ W0) (h_free : Part.free ∈ W0) (h0 : Keeps W0 r0 s) :
    Keeps W0 r0 (readFail s c k) := by
  unfold readFail
  repeat' first
    | with_reducible assumption
    | with_reducible apply dropRead_keeps
    | with_reducible apply setChan_keeps
    | with_reducible apply settle_keeps
    | split
    | dsimp only

theorem descComplete_keeps {W0 : List Part} {r0 : State} (s : State) (c : Nat) (h_regs : Part.regs ∈ W0) (h_hif : Part.hif ∈ W0) (h_queues : Part.queues ∈ W0) (h_sor : Part.sor ∈ W0) (h_dma : Part.dma ∈ W0) (h_srf : Part.srf ∈ W0) (h_drc : Part.drc ∈ W0) (h_chn : Part.chn ∈ W0) (h_dram : Part.dram ∈ W0) (h_ring : Part.ring ∈ W0) (h_out : Part.out ∈ W0) (h_free : Part.free ∈ W0) (h0 : Keeps W0 r0 s) :
    Keeps W0 r0 (descComplete s c) := by
  unfold descComplete
  repeat' first
    | with_reducible assumption
    | with_reducible apply setChan_keeps
    | with_reducible apply dmaEnd_keeps
    | with_reducible apply settle_keeps
    | split
    | dsimp only

theorem chanLinkLoss_keeps {W0 : List Part} {r0 : State} (s : State) (c : Nat) (h_regs : Part.regs ∈ W0) (h_hif : Part.hif ∈ W0) (h_queues : Part.queues ∈ W0) (h_sor : Part.sor ∈ W0) (h_dma : Part.dma ∈ W0) (h_srf : Part.srf ∈ W0) (h_drc : Part.drc ∈ W0) (h_chn : Part.chn ∈ W0) (h_dram : Part.dram ∈ W0) (h_ring : Part.ring ∈ W0) (h_out : Part.out ∈ W0) (h_free : Part.free ∈ W0) (h0 : Keeps W0 r0 s) :
    Keeps W0 r0 (chanLinkLoss s c) := by
  unfold chanLinkLoss
  repeat' first
    | with_reducible assumption
    | with_reducible apply setChan_keeps
    | with_reducible apply settle_keeps

theorem dmaLinkLoss_keeps {W0 : List Part} {r0 : State} (s : State) (h_regs : Part.regs ∈ W0) (h_hif : Part.hif ∈ W0) (h_queues : Part.queues ∈ W0) (h_sor : Part.sor ∈ W0) (h_dma : Part.dma ∈ W0) (h_srf : Part.srf ∈ W0) (h_drc : Part.drc ∈ W0) (h_chn : Part.chn ∈ W0) (h_dram : Part.dram ∈ W0) (h_ring : Part.ring ∈ W0) (h_out : Part.out ∈ W0) (h_free : Part.free ∈ W0) (h0 : Keeps W0 r0 s) :
    Keeps W0 r0 (dmaLinkLoss s) := by
  unfold dmaLinkLoss
  repeat' first
    | with_reducible assumption
    | with_reducible apply chanLinkLoss_keeps
    | with_reducible apply Keeps.foldl
    | split
    | dsimp only
    | intro _

theorem dmaPumpAll_keeps {W0 : List Part} {r0 : State} (s : State) (h_regs : Part.regs ∈ W0) (h_hif : Part.hif ∈ W0) (h_queues : Part.queues ∈ W0) (h_sor : Part.sor ∈ W0) (h_dma : Part.dma ∈ W0) (h_srf : Part.srf ∈ W0) (h_drc : Part.drc ∈ W0) (h_chn : Part.chn ∈ W0) (h_dram : Part.dram ∈ W0) (h_ring : Part.ring ∈ W0) (h_out : Part.out ∈ W0) (h_free : Part.free ∈ W0) (h0 : Keeps W0 r0 s) :
    Keeps W0 r0 (dmaPumpAll s) := by
  unfold dmaPumpAll
  repeat' first
    | with_reducible assumption
    | with_reducible apply settle_keeps
    | with_reducible apply Keeps.foldl
    | with_reducible refine Keeps.of_snd (by with_reducible assumption) ?_
    | with_reducible refine Keeps.of_snd2 (by with_reducible assumption) ?_
    | split
    | dsimp only
    | intro _

theorem chanGiveUp_keeps {W0 : List Part} {r0 : State} (s : State) (c : Nat) (h_hif : Part.hif ∈ W0) (h0 : Keeps W0 r0 s) :
    Keeps W0 r0 (chanGiveUp s c) := by
  unfold chanGiveUp
  repeat' first
    | with_reducible assumption
    | with_reducible apply giveUpRead_keeps
    | with_reducible apply Keeps.foldl
    | split
    | dsimp only
    | intro _

theorem dmaBlockReset_keeps {W0 : List Part} {r0 : State} (s : State) (h_regs : Part.regs ∈ W0) (h_hif : Part.hif ∈ W0) (h_queues : Part.queues ∈ W0) (h_sor : Part.sor ∈ W0) (h_dma : Part.dma ∈ W0) (h_ring : Part.ring ∈ W0) (h_out : Part.out ∈ W0) (h0 : Keeps W0 r0 s) :
    Keeps W0 r0 (dmaBlockReset s) := by
  unfold dmaBlockReset
  repeat' first
    | with_reducible assumption
    | simp only [Keeps.dma, h_dma]
    | with_reducible apply resetRegs_keeps
    | with_reducible apply showTarget_keeps
    | with_reducible apply dmaFinish_keeps
    | with_reducible apply chanGiveUp_keeps
    | with_reducible apply Keeps.foldl
    | split
    | dsimp only
    | intro _

theorem execDmaSegmentReadDone_keeps {W0 : List Part} {r0 : State} (c : Nat) (shadow : Bool) (dst : Bool) (res : RdRes) (s : State) (h_regs : Part.regs ∈ W0) (h_hif : Part.hif ∈ W0) (h_queues : Part.queues ∈ W0) (h_sor : Part.sor ∈ W0) (h_dma : Part.dma ∈ W0) (h_srf : Part.srf ∈ W0) (h_drc : Part.drc ∈ W0) (h_chn : Part.chn ∈ W0) (h_dram : Part.dram ∈ W0) (h_ring : Part.ring ∈ W0) (h_out : Part.out ∈ W0) (h_free : Part.free ∈ W0) {t0 : State} (h0 : Keeps W0 r0 s) (ht : execDmaSegmentReadDone c shadow dst res s = .next t0) :
    Keeps W0 r0 t0 := by
  unfold execDmaSegmentReadDone at ht
  apply whenOn_keeps (ht := ht)
  repeat' first
    | with_reducible assumption
    | with_reducible apply onRead_keeps
    | with_reducible apply segDone_keeps
    | split
    | dsimp only
    | intro _

theorem execDmaReadDone_keeps {W0 : List Part} {r0 : State} (c : Nat) (res : RdRes) (s : State) (h_regs : Part.regs ∈ W0) (h_hif : Part.hif ∈ W0) (h_queues : Part.queues ∈ W0) (h_sor : Part.sor ∈ W0) (h_dma : Part.dma ∈ W0) (h_srf : Part.srf ∈ W0) (h_drc : Part.drc ∈ W0) (h_chn : Part.chn ∈ W0) (h_dram : Part.dram ∈ W0) (h_ring : Part.ring ∈ W0) (h_out : Part.out ∈ W0) (h_free : Part.free ∈ W0) {t0 : State} (h0 : Keeps W0 r0 s) (ht : execDmaReadDone c res s = .next t0) :
    Keeps W0 r0 t0 := by
  unfold execDmaReadDone at ht
  apply whenOn_keeps (ht := ht)
  repeat' first
    | with_reducible assumption
    | with_reducible apply onRead_keeps
    | with_reducible apply readDone_keeps
    | split
    | dsimp only
    | intro _

theorem execDmaDescriptorComplete_keeps {W0 : List Part} {r0 : State} (c : Nat) (s : State) (h_regs : Part.regs ∈ W0) (h_hif : Part.hif ∈ W0) (h_queues : Part.queues ∈ W0) (h_sor : Part.sor ∈ W0) (h_dma : Part.dma ∈ W0) (h_srf : Part.srf ∈ W0) (h_drc : Part.drc ∈ W0) (h_chn : Part.chn ∈ W0) (h_dram : Part.dram ∈ W0) (h_ring : Part.ring ∈ W0) (h_out : Part.out ∈ W0) (h_free : Part.free ∈ W0) {t0 : State} (h0 : Keeps W0 r0 s) (ht : execDmaDescriptorComplete c s = .next t0) :
    Keeps W0 r0 t0 := by
  unfold execDmaDescriptorComplete at ht
  apply whenOn_keeps (ht := ht)
  repeat' first
    | with_reducible assumption
    | with_reducible apply descComplete_keeps
    | split
    | dsimp only
    | intro _

end Sys2Proof.Machine
end

