-- ==== Sys2Proof/Laws/KeepSor.lean ====
section
/-! SUPPORT. What each operation of Machine/Sor.lean touches. -/

namespace Sys2Proof.Machine

theorem forgetLast_keeps {W0 : List Part} {r0 : State} (s : State) (g : Nat) (h_sor : Part.sor ∈ W0) (h0 : Keeps W0 r0 s) :
    Keeps W0 r0 (forgetLast s g) := by
  unfold forgetLast
  repeat' first
    | with_reducible assumption
    | simp only [Keeps.sor, h_sor]

theorem takeReady_keeps {W0 : List Part} {r0 : State} (s : State) (i : Item) (h_sor : Part.sor ∈ W0) (h0 : Keeps W0 r0 s) :
    Keeps W0 r0 (takeReady s i) := by
  unfold takeReady
  repeat' first
    | with_reducible assumption
    | simp only [Keeps.sor, h_sor]

theorem writeSlot_keeps {W0 : List Part} {r0 : State} (s : State) (t : Nat) (urgent : Bool) (i : Item) (h_regs : Part.regs ∈ W0) (h_hif : Part.hif ∈ W0) (h_out : Part.out ∈ W0) (h0 : Keeps W0 r0 s) :
    Keeps W0 r0 (writeSlot s t urgent i) := by
  unfold writeSlot
  repeat' first
    | with_reducible assumption
    | with_reducible apply sendVec_keeps
    | with_reducible apply upstream_keeps

theorem refuseOpcode_keeps {W0 : List Part} {r0 : State} (s : State) (i : Item) (h_regs : Part.regs ∈ W0) (h_hif : Part.hif ∈ W0) (h_queues : Part.queues ∈ W0) (h_sor : Part.sor ∈ W0) (h_ring : Part.ring ∈ W0) (h_out : Part.out ∈ W0) (h0 : Keeps W0 r0 s) :
    Keeps W0 r0 (refuseOpcode s i) := by
  unfold refuseOpcode
  repeat' first
    | with_reducible assumption
    | with_reducible apply complete40_keeps

theorem slotNext_keeps {W0 : List Part} {r0 : State} (s : State) (t : Nat) (h_regs : Part.regs ∈ W0) (h_hif : Part.hif ∈ W0) (h_sor : Part.sor ∈ W0) (h_out : Part.out ∈ W0) (h0 : Keeps W0 r0 s) :
    Keeps W0 r0 (slotNext s t) := by
  unfold slotNext
  repeat' first
    | with_reducible assumption
    | with_reducible apply setTrec_keeps
    | with_reducible apply showCore_keeps
    | with_reducible apply writeSlot_keeps
    | split
    | dsimp only

theorem refuseTrailer_keeps {W0 : List Part} {r0 : State} (s : State) (i : Item) (h_regs : Part.regs ∈ W0) (h_hif : Part.hif ∈ W0) (h_queues : Part.queues ∈ W0) (h_sor : Part.sor ∈ W0) (h_ring : Part.ring ∈ W0) (h_out : Part.out ∈ W0) (h0 : Keeps W0 r0 s) :
    Keeps W0 r0 (refuseTrailer s i) := by
  unfold refuseTrailer
  repeat' first
    | with_reducible assumption
    | with_reducible apply complete_keeps

theorem handTo_keeps {W0 : List Part} {r0 : State} (s : State) (t : Nat) (i : Item) (h_regs : Part.regs ∈ W0) (h_hif : Part.hif ∈ W0) (h_queues : Part.queues ∈ W0) (h_sor : Part.sor ∈ W0) (h_dma : Part.dma ∈ W0) (h_srf : Part.srf ∈ W0) (h_drc : Part.drc ∈ W0) (h_chn : Part.chn ∈ W0) (h_dram : Part.dram ∈ W0) (h_ring : Part.ring ∈ W0) (h_out : Part.out ∈ W0) (h_free : Part.free ∈ W0) (h0 : Keeps W0 r0 s) :
    Keeps W0 r0 (handTo s t i) := by
  unfold handTo
  repeat' first
    | with_reducible assumption
    | with_reducible apply setTrec_keeps
    | with_reducible apply showCore_keeps
    | with_reducible apply dmaHand_keeps
    | with_reducible apply dmaReturn_keeps
    | with_reducible apply refuseOpcode_keeps
    | with_reducible apply slotNext_keeps
    | with_reducible apply refuseTrailer_keeps
    | split
    | dsimp only

theorem dispatch_keeps {W0 : List Part} {r0 : State} (s : State) (h_regs : Part.regs ∈ W0) (h_hif : Part.hif ∈ W0) (h_queues : Part.queues ∈ W0) (h_sor : Part.sor ∈ W0) (h_dma : Part.dma ∈ W0) (h_srf : Part.srf ∈ W0) (h_drc : Part.drc ∈ W0) (h_chn : Part.chn ∈ W0) (h_dram : Part.dram ∈ W0) (h_ring : Part.ring ∈ W0) (h_out : Part.out ∈ W0) (h_free : Part.free ∈ W0) (h0 : Keeps W0 r0 s) :
    Keeps W0 r0 (dispatch s) := by
  unfold dispatch
  repeat' first
    | with_reducible assumption
    | simp only [Keeps.sor, h_sor]
    | with_reducible apply kickAll_keeps
    | with_reducible apply forgetLast_keeps
    | with_reducible apply takeReady_keeps
    | with_reducible apply handTo_keeps
    | split

theorem preemptTarget_keeps {W0 : List Part} {r0 : State} (s : State) (t : Nat) (i : Item) (h_regs : Part.regs ∈ W0) (h_hif : Part.hif ∈ W0) (h_queues : Part.queues ∈ W0) (h_sor : Part.sor ∈ W0) (h_dma : Part.dma ∈ W0) (h_srf : Part.srf ∈ W0) (h_drc : Part.drc ∈ W0) (h_chn : Part.chn ∈ W0) (h_dram : Part.dram ∈ W0) (h_ring : Part.ring ∈ W0) (h_out : Part.out ∈ W0) (h_free : Part.free ∈ W0) (h0 : Keeps W0 r0 s) :
    Keeps W0 r0 (preemptTarget s t i) := by
  unfold preemptTarget
  repeat' first
    | with_reducible assumption
    | with_reducible apply incMod_keeps
    | with_reducible apply setTrec_keeps
    | with_reducible apply showCore_keeps
    | with_reducible apply dmaPreempt_keeps
    | with_reducible apply writeSlot_keeps
    | with_reducible apply refuseOpcode_keeps
    | with_reducible apply refuseTrailer_keeps
    | split

theorem arrive_keeps {W0 : List Part} {r0 : State} (s : State) (h_regs : Part.regs ∈ W0) (h_hif : Part.hif ∈ W0) (h_queues : Part.queues ∈ W0) (h_sor : Part.sor ∈ W0) (h_dma : Part.dma ∈ W0) (h_srf : Part.srf ∈ W0) (h_drc : Part.drc ∈ W0) (h_chn : Part.chn ∈ W0) (h_dram : Part.dram ∈ W0) (h_ring : Part.ring ∈ W0) (h_out : Part.out ∈ W0) (h_free : Part.free ∈ W0) (h0 : Keeps W0 r0 s) :
    Keeps W0 r0 (arrive s) := by
  unfold arrive
  repeat' first
    | with_reducible assumption
    | simp only [Keeps.sor, h_sor]
    | with_reducible apply kickAll_keeps
    | with_reducible apply handTo_keeps
    | with_reducible apply preemptTarget_keeps
    | split

theorem pickVictim_keeps {W0 : List Part} {r0 : State} (s : State) (h_sor : Part.sor ∈ W0) (h0 : Keeps W0 r0 s) :
    Keeps W0 r0 (pickVictim s) := by
  unfold pickVictim
  repeat' first
    | with_reducible assumption
    | simp only [Keeps.sor, h_sor]
    | with_reducible apply takeReady_keeps
    | split

theorem sorPreempt_keeps {W0 : List Part} {r0 : State} (s : State) (later : Bool) (h_regs : Part.regs ∈ W0) (h_hif : Part.hif ∈ W0) (h_queues : Part.queues ∈ W0) (h_sor : Part.sor ∈ W0) (h_dma : Part.dma ∈ W0) (h_srf : Part.srf ∈ W0) (h_drc : Part.drc ∈ W0) (h_chn : Part.chn ∈ W0) (h_dram : Part.dram ∈ W0) (h_ring : Part.ring ∈ W0) (h_out : Part.out ∈ W0) (h_free : Part.free ∈ W0) (h0 : Keeps W0 r0 s) :
    Keeps W0 r0 (sorPreempt s later) := by
  unfold sorPreempt
  repeat' first
    | with_reducible assumption
    | with_reducible apply arrive_keeps
    | with_reducible apply pickVictim_keeps
    | split

theorem pollSlots_keeps {W0 : List Part} {r0 : State} (s : State) (h_regs : Part.regs ∈ W0) (h_hif : Part.hif ∈ W0) (h_out : Part.out ∈ W0) (h0 : Keeps W0 r0 s) :
    Keeps W0 r0 (pollSlots s) := by
  unfold pollSlots
  repeat' first
    | with_reducible assumption
    | with_reducible apply upstream_keeps
    | with_reducible apply Keeps.foldl
    | split
    | dsimp only
    | intro _

theorem slotRelease_keeps {W0 : List Part} {r0 : State} (s : State) (t : Nat) (urgent : Bool) (h_regs : Part.regs ∈ W0) (h_hif : Part.hif ∈ W0) (h_sor : Part.sor ∈ W0) (h_out : Part.out ∈ W0) (h0 : Keeps W0 r0 s) :
    Keeps W0 r0 (slotRelease s t urgent) := by
  unfold slotRelease
  repeat' first
    | with_reducible assumption
    | with_reducible apply setTrec_keeps
    | with_reducible apply showCore_keeps
    | with_reducible apply slotNext_keeps

theorem slotDone_keeps {W0 : List Part} {r0 : State} (s : State) (t : Nat) (urgent : Bool) (b : Bytes) (h_regs : Part.regs ∈ W0) (h_hif : Part.hif ∈ W0) (h_queues : Part.queues ∈ W0) (h_sor : Part.sor ∈ W0) (h_ring : Part.ring ∈ W0) (h_out : Part.out ∈ W0) (h0 : Keeps W0 r0 s) :
    Keeps W0 r0 (slotDone s t urgent b) := by
  unfold slotDone
  repeat' first
    | with_reducible assumption
    | with_reducible apply dropRead_keeps
    | with_reducible apply completeItem_keeps
    | with_reducible apply slotRelease_keeps
    | split
    | dsimp only

theorem faultTarget_keeps {W0 : List Part} {r0 : State} (s : State) (t : Nat) (c : Status) (h_regs : Part.regs ∈ W0) (h0 : Keeps W0 r0 s) :
    Keeps W0 r0 (faultTarget s t c) := by
  unfold faultTarget
  repeat' first
    | with_reducible assumption
    | with_reducible apply setF_keeps

theorem slotFail_keeps {W0 : List Part} {r0 : State} (s : State) (t : Nat) (urgent : Bool) (c : Status) (h_regs : Part.regs ∈ W0) (h_hif : Part.hif ∈ W0) (h_queues : Part.queues ∈ W0) (h_sor : Part.sor ∈ W0) (h_ring : Part.ring ∈ W0) (h_out : Part.out ∈ W0) (h0 : Keeps W0 r0 s) :
    Keeps W0 r0 (slotFail s t urgent c) := by
  unfold slotFail
  repeat' first
    | with_reducible assumption
    | with_reducible apply dropRead_keeps
    | with_reducible apply complete_keeps
    | with_reducible apply setTrec_keeps
    | with_reducible apply showCore_keeps
    | with_reducible apply faultTarget_keeps
    | split
    | dsimp only

theorem sorLinkLoss_keeps {W0 : List Part} {r0 : State} (s : State) (h_regs : Part.regs ∈ W0) (h_hif : Part.hif ∈ W0) (h_queues : Part.queues ∈ W0) (h_sor : Part.sor ∈ W0) (h_ring : Part.ring ∈ W0) (h_out : Part.out ∈ W0) (h0 : Keeps W0 r0 s) :
    Keeps W0 r0 (sorLinkLoss s) := by
  unfold sorLinkLoss
  repeat' first
    | with_reducible assumption
    | with_reducible apply dropRead_keeps
    | with_reducible apply complete_keeps
    | with_reducible apply setTrec_keeps
    | with_reducible apply showCore_keeps
    | with_reducible apply faultTarget_keeps
    | with_reducible apply Keeps.foldl
    | split
    | dsimp only
    | intro _

theorem windowCut_keeps {W0 : List Part} {r0 : State} (s : State) (e : Nat) (h_sor : Part.sor ∈ W0) (h0 : Keeps W0 r0 s) :
    Keeps W0 r0 (windowCut s e) := by
  unfold windowCut
  repeat' first
    | with_reducible assumption
    | simp only [Keeps.sor, h_sor]
    | with_reducible apply setTrec_keeps
    | with_reducible apply Keeps.foldl
    | split
    | dsimp only
    | intro _

theorem sorPulse_keeps {W0 : List Part} {r0 : State} (s : State) (g : Nat) (at0 : Nat) (h_sor : Part.sor ∈ W0) (h0 : Keeps W0 r0 s) :
    Keeps W0 r0 (sorPulse s g at0) := by
  unfold sorPulse
  repeat' first
    | with_reducible assumption
    | simp only [Keeps.sor, h_sor]
    | with_reducible apply windowCut_keeps
    | split

theorem slotPoll_keeps {W0 : List Part} {r0 : State} (s : State) (win : Bool) (h_regs : Part.regs ∈ W0) (h_hif : Part.hif ∈ W0) (h_sor : Part.sor ∈ W0) (h_out : Part.out ∈ W0) (h0 : Keeps W0 r0 s) :
    Keeps W0 r0 (slotPoll s win) := by
  unfold slotPoll
  repeat' first
    | with_reducible assumption
    | simp only [Keeps.sor, h_sor]
    | with_reducible apply pollSlots_keeps
    | split

theorem windowEnd_keeps {W0 : List Part} {r0 : State} (s : State) (h_regs : Part.regs ∈ W0) (h_sor : Part.sor ∈ W0) (h0 : Keeps W0 r0 s) :
    Keeps W0 r0 (windowEnd s) := by
  unfold windowEnd
  repeat' first
    | with_reducible assumption
    | simp only [Keeps.sor, h_sor]
    | with_reducible apply setWord_keeps
    | with_reducible apply setF_keeps
    | with_reducible apply Keeps.foldl
    | with_reducible refine Keeps.of_snd (by with_reducible assumption) ?_
    | with_reducible refine Keeps.of_snd2 (by with_reducible assumption) ?_
    | split
    | dsimp only
    | intro _

theorem sorBlockReset_keeps {W0 : List Part} {r0 : State} (s : State) (h_regs : Part.regs ∈ W0) (h_hif : Part.hif ∈ W0) (h_queues : Part.queues ∈ W0) (h_sor : Part.sor ∈ W0) (h_ring : Part.ring ∈ W0) (h_out : Part.out ∈ W0) (h0 : Keeps W0 r0 s) :
    Keeps W0 r0 (sorBlockReset s) := by
  unfold sorBlockReset
  repeat' first
    | with_reducible assumption
    | simp only [Keeps.sor, h_sor]
    | with_reducible apply resetRegs_keeps
    | with_reducible apply giveUpRead_keeps
    | with_reducible apply queueError_keeps
    | with_reducible apply complete_keeps
    | with_reducible apply showCore_keeps
    | with_reducible apply dmaShow_keeps
    | with_reducible apply Keeps.foldl
    | split
    | dsimp only
    | intro _

theorem execSorDispatch_keeps {W0 : List Part} {r0 : State} (s : State) (h_regs : Part.regs ∈ W0) (h_hif : Part.hif ∈ W0) (h_queues : Part.queues ∈ W0) (h_sor : Part.sor ∈ W0) (h_dma : Part.dma ∈ W0) (h_srf : Part.srf ∈ W0) (h_drc : Part.drc ∈ W0) (h_chn : Part.chn ∈ W0) (h_dram : Part.dram ∈ W0) (h_ring : Part.ring ∈ W0) (h_out : Part.out ∈ W0) (h_free : Part.free ∈ W0) {t0 : State} (h0 : Keeps W0 r0 s) (ht : execSorDispatch s = .next t0) :
    Keeps W0 r0 t0 := by
  unfold execSorDispatch at ht
  apply whenOn_keeps (ht := ht)
  repeat' first
    | with_reducible assumption
    | with_reducible apply dispatch_keeps
    | split
    | dsimp only
    | intro _

theorem execSorPreempt_keeps {W0 : List Part} {r0 : State} (later : Bool) (s : State) (h_regs : Part.regs ∈ W0) (h_hif : Part.hif ∈ W0) (h_queues : Part.queues ∈ W0) (h_sor : Part.sor ∈ W0) (h_dma : Part.dma ∈ W0) (h_srf : Part.srf ∈ W0) (h_drc : Part.drc ∈ W0) (h_chn : Part.chn ∈ W0) (h_dram : Part.dram ∈ W0) (h_ring : Part.ring ∈ W0) (h_out : Part.out ∈ W0) (h_free : Part.free ∈ W0) {t0 : State} (h0 : Keeps W0 r0 s) (ht : execSorPreempt later s = .next t0) :
    Keeps W0 r0 t0 := by
  unfold execSorPreempt at ht
  apply whenOn_keeps (ht := ht)
  repeat' first
    | with_reducible assumption
    | with_reducible apply sorPreempt_keeps
    | split
    | dsimp only
    | intro _

theorem execSlotPoll_keeps {W0 : List Part} {r0 : State} (dt : Nat) (win : Bool) (s : State) (h_regs : Part.regs ∈ W0) (h_hif : Part.hif ∈ W0) (h_sor : Part.sor ∈ W0) (h_chn : Part.chn ∈ W0) (h_time : Part.time ∈ W0) (h_wraps : Part.wraps ∈ W0) (h_up : Part.up ∈ W0) (h_out : Part.out ∈ W0) {t0 : State} (h0 : Keeps W0 r0 s) (ht : execSlotPoll dt win s = .next t0) :
    Keeps W0 r0 t0 := by
  unfold execSlotPoll at ht
  apply whenOn_keeps (ht := ht)
  repeat' first
    | with_reducible assumption
    | with_reducible apply advance_keeps
    | with_reducible apply slotPoll_keeps
    | split
    | dsimp only
    | intro _

theorem execSlotReadDone_keeps {W0 : List Part} {r0 : State} (t : Nat) (urgent : Bool) (b : Bytes) (s : State) (h_regs : Part.regs ∈ W0) (h_hif : Part.hif ∈ W0) (h_queues : Part.queues ∈ W0) (h_sor : Part.sor ∈ W0) (h_ring : Part.ring ∈ W0) (h_out : Part.out ∈ W0) {t0 : State} (h0 : Keeps W0 r0 s) (ht : execSlotReadDone t urgent b s = .next t0) :
    Keeps W0 r0 t0 := by
  unfold execSlotReadDone at ht
  apply whenOn_keeps (ht := ht)
  repeat' first
    | with_reducible assumption
    | with_reducible apply onRead_keeps
    | with_reducible apply slotDone_keeps
    | split
    | dsimp only
    | intro _

theorem execSlotReadFail_keeps {W0 : List Part} {r0 : State} (t : Nat) (urgent : Bool) (s : State) (h_regs : Part.regs ∈ W0) (h_hif : Part.hif ∈ W0) (h_queues : Part.queues ∈ W0) (h_sor : Part.sor ∈ W0) (h_ring : Part.ring ∈ W0) (h_out : Part.out ∈ W0) {t0 : State} (h0 : Keeps W0 r0 s) (ht : execSlotReadFail t urgent s = .next t0) :
    Keeps W0 r0 t0 := by
  unfold execSlotReadFail at ht
  apply whenOn_keeps (ht := ht)
  repeat' first
    | with_reducible assumption
    | with_reducible apply onRead_keeps
    | with_reducible apply slotFail_keeps
    | split
    | dsimp only
    | intro _

theorem execLoadWindowEnd_keeps {W0 : List Part} {r0 : State} (dt : Nat) (s : State) (h_regs : Part.regs ∈ W0) (h_hif : Part.hif ∈ W0) (h_sor : Part.sor ∈ W0) (h_chn : Part.chn ∈ W0) (h_time : Part.time ∈ W0) (h_wraps : Part.wraps ∈ W0) (h_up : Part.up ∈ W0) (h_out : Part.out ∈ W0) {t0 : State} (h0 : Keeps W0 r0 s) (ht : execLoadWindowEnd dt s = .next t0) :
    Keeps W0 r0 t0 := by
  unfold execLoadWindowEnd at ht
  apply whenOn_keeps (ht := ht)
  repeat' first
    | with_reducible assumption
    | with_reducible apply advance_keeps
    | with_reducible apply windowEnd_keeps
    | split
    | dsimp only
    | intro _

end Sys2Proof.Machine
end

