-- ==== Sys2Proof/Laws/KeepDrc.lean ====
section
/-! SUPPORT. What each operation of Machine/Drc.lean touches. -/

namespace Sys2Proof.Machine

theorem enqueue_keeps {W0 : List Part} {r0 : State} (s : State) (r : DReq) (h_regs : Part.regs ∈ W0) (h_drc : Part.drc ∈ W0) (h0 : Keeps W0 r0 s) :
    Keeps W0 r0 (enqueue s r) := by
  unfold enqueue
  repeat' first
    | with_reducible assumption
    | simp only [Keeps.drc, h_drc]
    | with_reducible apply incSat_keeps
    | split

theorem drcRequest_keeps {W0 : List Part} {r0 : State} (s : State) (port : Nat) (cls : Nat) (wr : Bool) (block : Nat) (data : Bytes) (part : Option (Nat × List (Nat × Nat))) (h_regs : Part.regs ∈ W0) (h_drc : Part.drc ∈ W0) (h_out : Part.out ∈ W0) (h0 : Keeps W0 r0 s) :
    Keeps W0 r0 (drcRequest s port cls wr block data part) := by
  unfold drcRequest
  repeat' first
    | with_reducible assumption
    | simp only [Keeps.drc, h_drc]
    | with_reducible apply emit_keeps
    | with_reducible apply enqueue_keeps
    | split

theorem setOwed_keeps {W0 : List Part} {r0 : State} (s : State) (c : Nat) (rank : Nat) (v : Int) (h_regs : Part.regs ∈ W0) (h_drc : Part.drc ∈ W0) (h0 : Keeps W0 r0 s) :
    Keeps W0 r0 (setOwed s c rank v) := by
  unfold setOwed
  repeat' first
    | with_reducible assumption
    | simp only [Keeps.drc, h_drc]
    | with_reducible apply setF_keeps
    | split

theorem catchUp_keeps {W0 : List Part} {r0 : State} (s : State) (c : Nat) (h_regs : Part.regs ∈ W0) (h_drc : Part.drc ∈ W0) (h0 : Keeps W0 r0 s) :
    Keeps W0 r0 (catchUp s c) := by
  unfold catchUp
  repeat' first
    | with_reducible assumption
    | with_reducible apply setOwed_keeps
    | split
    | dsimp only

theorem drcComplete_keeps {W0 : List Part} {r0 : State} (s : State) (r : DReq) (h_regs : Part.regs ∈ W0) (h_hif : Part.hif ∈ W0) (h_drc : Part.drc ∈ W0) (h_chn : Part.chn ∈ W0) (h_out : Part.out ∈ W0) (h0 : Keeps W0 r0 s) :
    Keeps W0 r0 (drcComplete s r) := by
  unfold drcComplete
  repeat' first
    | with_reducible assumption
    | simp only [Keeps.drc, h_drc]
    | with_reducible apply incSat_keeps
    | with_reducible apply yield_keeps
    | with_reducible apply catchUp_keeps
    | split

theorem deviceWrite_keeps {W0 : List Part} {r0 : State} (s : State) (b : Nat) (d : Bytes) (h_drc : Part.drc ∈ W0) (h_dram : Part.dram ∈ W0) (h_out : Part.out ∈ W0) (h0 : Keeps W0 r0 s) :
    Keeps W0 r0 (deviceWrite s b d) := by
  unfold deviceWrite
  repeat' first
    | with_reducible assumption
    | with_reducible apply dramWr_keeps
    | with_reducible apply emitAll_keeps

theorem eccRead_keeps {W0 : List Part} {r0 : State} (s : State) (b : Nat) (err : List (Nat × Nat)) (h_regs : Part.regs ∈ W0) (h_hif : Part.hif ∈ W0) (h_drc : Part.drc ∈ W0) (h_chn : Part.chn ∈ W0) (h_dram : Part.dram ∈ W0) (h_out : Part.out ∈ W0) (h0 : Keeps W0 r0 s) :
    Keeps W0 r0 (eccRead s b err).2 := by
  unfold eccRead
  repeat' first
    | with_reducible assumption
    | with_reducible apply incSat_keeps
    | with_reducible apply uncorrectable_keeps
    | with_reducible apply deviceWrite_keeps
    | split
    | dsimp only

theorem mergeWrite_keeps {W0 : List Part} {r0 : State} (s : State) (r : DReq) (off : Nat) (err : List (Nat × Nat)) (h_regs : Part.regs ∈ W0) (h_hif : Part.hif ∈ W0) (h_drc : Part.drc ∈ W0) (h_chn : Part.chn ∈ W0) (h_dram : Part.dram ∈ W0) (h_out : Part.out ∈ W0) (h0 : Keeps W0 r0 s) :
    Keeps W0 r0 (mergeWrite s r off err) := by
  unfold mergeWrite
  repeat' first
    | with_reducible assumption
    | with_reducible apply incSat_keeps
    | with_reducible apply emit_keeps
    | with_reducible apply deviceWrite_keeps
    | with_reducible apply eccRead_keeps
    | with_reducible refine Keeps.of_snd (by with_reducible assumption) ?_
    | with_reducible refine Keeps.of_snd2 (by with_reducible assumption) ?_
    | split
    | dsimp only

theorem issueWrite_keeps {W0 : List Part} {r0 : State} (s : State) (r : DReq) (h_regs : Part.regs ∈ W0) (h_hif : Part.hif ∈ W0) (h_drc : Part.drc ∈ W0) (h_chn : Part.chn ∈ W0) (h_dram : Part.dram ∈ W0) (h_out : Part.out ∈ W0) (h0 : Keeps W0 r0 s) :
    Keeps W0 r0 (issueWrite s r) := by
  unfold issueWrite
  repeat' first
    | with_reducible assumption
    | with_reducible apply drcComplete_keeps
    | with_reducible apply deviceWrite_keeps
    | with_reducible apply mergeWrite_keeps
    | split

theorem issueWrites_keeps {W0 : List Part} {r0 : State} (s : State) (b : Nat) (h_regs : Part.regs ∈ W0) (h_hif : Part.hif ∈ W0) (h_drc : Part.drc ∈ W0) (h_chn : Part.chn ∈ W0) (h_dram : Part.dram ∈ W0) (h_out : Part.out ∈ W0) (h0 : Keeps W0 r0 s) :
    Keeps W0 r0 (issueWrites s b) := by
  unfold issueWrites
  repeat' first
    | with_reducible assumption
    | with_reducible apply issueWrite_keeps
    | with_reducible apply Keeps.foldl
    | split
    | dsimp only
    | intro _

theorem issueAllWrites_keeps {W0 : List Part} {r0 : State} (s : State) (h_regs : Part.regs ∈ W0) (h_hif : Part.hif ∈ W0) (h_drc : Part.drc ∈ W0) (h_chn : Part.chn ∈ W0) (h_dram : Part.dram ∈ W0) (h_out : Part.out ∈ W0) (h0 : Keeps W0 r0 s) :
    Keeps W0 r0 (issueAllWrites s) := by
  unfold issueAllWrites
  repeat' first
    | with_reducible assumption
    | with_reducible apply issueWrite_keeps
    | with_reducible apply Keeps.foldl
    | split
    | dsimp only
    | intro _

theorem issueFreeWrites_keeps {W0 : List Part} {r0 : State} (s : State) (h_regs : Part.regs ∈ W0) (h_hif : Part.hif ∈ W0) (h_drc : Part.drc ∈ W0) (h_chn : Part.chn ∈ W0) (h_dram : Part.dram ∈ W0) (h_out : Part.out ∈ W0) (h0 : Keeps W0 r0 s) :
    Keeps W0 r0 (issueFreeWrites s) := by
  unfold issueFreeWrites
  repeat' first
    | with_reducible assumption
    | with_reducible apply issueWrite_keeps
    | with_reducible apply Keeps.foldl
    | split
    | dsimp only
    | intro _

theorem readReturn_keeps {W0 : List Part} {r0 : State} (s : State) (port : Nat) (block : Nat) (err : List (Nat × Nat)) (h_regs : Part.regs ∈ W0) (h_hif : Part.hif ∈ W0) (h_drc : Part.drc ∈ W0) (h_chn : Part.chn ∈ W0) (h_dram : Part.dram ∈ W0) (h_out : Part.out ∈ W0) (h0 : Keeps W0 r0 s) :
    Keeps W0 r0 (readReturn s port block err) := by
  unfold readReturn
  repeat' first
    | with_reducible assumption
    | with_reducible apply emit_keeps
    | with_reducible apply drcComplete_keeps
    | with_reducible apply eccRead_keeps
    | with_reducible apply issueWrites_keeps
    | with_reducible refine Keeps.of_snd (by with_reducible assumption) ?_
    | with_reducible refine Keeps.of_snd2 (by with_reducible assumption) ?_
    | split

theorem partialWrite_keeps {W0 : List Part} {r0 : State} (s : State) (port : Nat) (block : Nat) (off : Nat) (b : Bytes) (err : List (Nat × Nat)) (h_regs : Part.regs ∈ W0) (h_hif : Part.hif ∈ W0) (h_drc : Part.drc ∈ W0) (h_chn : Part.chn ∈ W0) (h_dram : Part.dram ∈ W0) (h_out : Part.out ∈ W0) (h0 : Keeps W0 r0 s) :
    Keeps W0 r0 (partialWrite s port block off b err) := by
  unfold partialWrite
  repeat' first
    | with_reducible assumption
    | with_reducible apply drcRequest_keeps
    | with_reducible apply issueWrites_keeps
    | split
    | dsimp only

theorem patrolRead_keeps {W0 : List Part} {r0 : State} (s : State) (b : Nat) (due : Nat) (err : List (Nat × Nat)) (h_regs : Part.regs ∈ W0) (h_hif : Part.hif ∈ W0) (h_drc : Part.drc ∈ W0) (h_chn : Part.chn ∈ W0) (h_dram : Part.dram ∈ W0) (h_out : Part.out ∈ W0) (h0 : Keeps W0 r0 s) :
    Keeps W0 r0 (patrolRead s b due err) := by
  unfold patrolRead
  repeat' first
    | with_reducible assumption
    | with_reducible apply incSat_keeps
    | with_reducible apply eccRead_keeps
    | split
    | dsimp only

theorem patrolStep_keeps {W0 : List Part} {r0 : State} (s : State) (err : List (Nat × Nat)) (h_regs : Part.regs ∈ W0) (h_hif : Part.hif ∈ W0) (h_drc : Part.drc ∈ W0) (h_chn : Part.chn ∈ W0) (h_dram : Part.dram ∈ W0) (h_out : Part.out ∈ W0) (h0 : Keeps W0 r0 s) :
    Keeps W0 r0 (patrolStep s err) := by
  unfold patrolStep
  repeat' first
    | with_reducible assumption
    | simp only [Keeps.drc, h_drc]
    | with_reducible apply patrolRead_keeps
    | split

theorem drcBand_keeps {W0 : List Part} {r0 : State} (s : State) (band : Nat) (h_regs : Part.regs ∈ W0) (h0 : Keeps W0 r0 s) :
    Keeps W0 r0 (drcBand s band) := by
  unfold drcBand
  repeat' first
    | with_reducible assumption
    | with_reducible apply setF_keeps

theorem setRefAt_keeps {W0 : List Part} {r0 : State} (s : State) (c : Nat) (rank : Nat) (t : Nat) (h_drc : Part.drc ∈ W0) (h0 : Keeps W0 r0 s) :
    Keeps W0 r0 (setRefAt s c rank t) := by
  unfold setRefAt
  repeat' first
    | with_reducible assumption
    | simp only [Keeps.drc, h_drc]

theorem refreshOwed_keeps {W0 : List Part} {r0 : State} (s : State) (c : Nat) (rank : Nat) (h_regs : Part.regs ∈ W0) (h_drc : Part.drc ∈ W0) (h0 : Keeps W0 r0 s) :
    Keeps W0 r0 (refreshOwed s c rank) := by
  unfold refreshOwed
  repeat' first
    | with_reducible assumption
    | simp only [Keeps.drc, h_drc]
    | with_reducible apply incSat_keeps
    | with_reducible apply setOwed_keeps
    | with_reducible apply catchUp_keeps
    | split

theorem refreshDue_keeps {W0 : List Part} {r0 : State} (s : State) (c : Nat) (rank : Nat) (h_regs : Part.regs ∈ W0) (h_drc : Part.drc ∈ W0) (h0 : Keeps W0 r0 s) :
    Keeps W0 r0 (refreshDue s c rank) := by
  unfold refreshDue
  repeat' first
    | with_reducible assumption
    | with_reducible apply setRefAt_keeps
    | with_reducible apply refreshOwed_keeps
    | split

theorem pullIn_keeps {W0 : List Part} {r0 : State} (s : State) (c : Nat) (rank : Nat) (h_regs : Part.regs ∈ W0) (h_drc : Part.drc ∈ W0) (h0 : Keeps W0 r0 s) :
    Keeps W0 r0 (pullIn s c rank) := by
  unfold pullIn
  repeat' first
    | with_reducible assumption
    | with_reducible apply incSat_keeps
    | with_reducible apply setOwed_keeps
    | split
    | dsimp only

theorem releasePorts_keeps {W0 : List Part} {r0 : State} (s : State) (c : Nat) (h_regs : Part.regs ∈ W0) (h_drc : Part.drc ∈ W0) (h0 : Keeps W0 r0 s) :
    Keeps W0 r0 (releasePorts s c) := by
  unfold releasePorts
  repeat' first
    | with_reducible assumption
    | simp only [Keeps.drc, h_drc]
    | with_reducible apply enqueue_keeps
    | with_reducible apply Keeps.foldl
    | split
    | dsimp only
    | intro _

theorem chanStart_keeps {W0 : List Part} {r0 : State} (s : State) (c : Nat) (h_drc : Part.drc ∈ W0) (h0 : Keeps W0 r0 s) :
    Keeps W0 r0 (chanStart s c) := by
  unfold chanStart
  repeat' first
    | with_reducible assumption
    | simp only [Keeps.drc, h_drc]
    | with_reducible apply setRefAt_keeps

theorem leaveSelfRef_keeps {W0 : List Part} {r0 : State} (s : State) (c : Nat) (h_regs : Part.regs ∈ W0) (h_drc : Part.drc ∈ W0) (h0 : Keeps W0 r0 s) :
    Keeps W0 r0 (leaveSelfRef s c) := by
  unfold leaveSelfRef
  repeat' first
    | with_reducible assumption
    | with_reducible apply setF_keeps
    | with_reducible apply setOwed_keeps
    | with_reducible apply releasePorts_keeps
    | with_reducible apply chanStart_keeps
    | split

theorem selfRefEntry_keeps {W0 : List Part} {r0 : State} (s : State) (c : Nat) (h_regs : Part.regs ∈ W0) (h_drc : Part.drc ∈ W0) (h0 : Keeps W0 r0 s) :
    Keeps W0 r0 (selfRefEntry s c) := by
  unfold selfRefEntry
  repeat' first
    | with_reducible assumption
    | simp only [Keeps.drc, h_drc]
    | with_reducible apply setF_keeps
    | with_reducible apply setOwed_keeps
    | split

theorem freqEnd_keeps {W0 : List Part} {r0 : State} (s : State) (at0 : Nat) (c : Status) (h_regs : Part.regs ∈ W0) (h_drc : Part.drc ∈ W0) (h0 : Keeps W0 r0 s) :
    Keeps W0 r0 (freqEnd s at0 c) := by
  unfold freqEnd
  repeat' first
    | with_reducible assumption
    | simp only [Keeps.drc, h_drc]
    | with_reducible apply setF_keeps
    | with_reducible apply leaveSelfRef_keeps
    | with_reducible apply Keeps.foldl
    | split
    | dsimp only
    | intro _

theorem selfRefExit_keeps {W0 : List Part} {r0 : State} (s : State) (c : Nat) (h_regs : Part.regs ∈ W0) (h_drc : Part.drc ∈ W0) (h_cal : Part.cal ∈ W0) (h0 : Keeps W0 r0 s) :
    Keeps W0 r0 (selfRefExit s c) := by
  unfold selfRefExit
  repeat' first
    | with_reducible assumption
    | with_reducible apply setF_keeps
    | with_reducible apply incMod_keeps
    | with_reducible apply retrackChan_keeps
    | with_reducible apply leaveSelfRef_keeps
    | with_reducible apply freqEnd_keeps
    | with_reducible apply Keeps.foldl
    | split
    | dsimp only
    | intro _

theorem freqGo_keeps {W0 : List Part} {r0 : State} (s : State) (fsp : Nat) (force : Bool) (h_regs : Part.regs ∈ W0) (h_drc : Part.drc ∈ W0) (h0 : Keeps W0 r0 s) :
    Keeps W0 r0 (freqGo s fsp force) := by
  unfold freqGo
  repeat' first
    | with_reducible assumption
    | simp only [Keeps.drc, h_drc]
    | with_reducible apply setF_keeps
    | split

theorem freqTimeout_keeps {W0 : List Part} {r0 : State} (s : State) (h_regs : Part.regs ∈ W0) (h_drc : Part.drc ∈ W0) (h0 : Keeps W0 r0 s) :
    Keeps W0 r0 (freqTimeout s) := by
  unfold freqTimeout
  repeat' first
    | with_reducible assumption
    | with_reducible apply freqEnd_keeps
    | split

theorem showChan_keeps {W0 : List Part} {r0 : State} (s : State) (c : Nat) (d : DramCh) (r : Status) (warm : Bool) (h_regs : Part.regs ∈ W0) (h_drc : Part.drc ∈ W0) (h0 : Keeps W0 r0 s) :
    Keeps W0 r0 (showChan s c d r warm) := by
  unfold showChan
  repeat' first
    | with_reducible assumption
    | with_reducible apply setF_keeps
    | with_reducible apply chanStart_keeps
    | split

theorem hideChan_keeps {W0 : List Part} {r0 : State} (s : State) (c : Nat) (h_regs : Part.regs ∈ W0) (h0 : Keeps W0 r0 s) :
    Keeps W0 r0 (hideChan s c) := by
  unfold hideChan
  repeat' first
    | with_reducible assumption
    | with_reducible apply setWord_keeps
    | with_reducible apply Keeps.foldl
    | split
    | dsimp only
    | intro _

theorem loseDram_keeps {W0 : List Part} {r0 : State} (s : State) (h_drc : Part.drc ∈ W0) (h_dram : Part.dram ∈ W0)
    (h0 : Keeps W0 r0 s) : Keeps W0 r0 (loseDram s) := by
  refine h0.leaf rfl (fun hw => ?_)
    (fun p hp => by cases p <;> first | rfl | exact absurd h_dram hp | exact absurd h_drc hp)
  simp only [State.wf, loseDram, Bool.and_eq_true] at hw ⊢
  exact ⟨⟨⟨⟨hw.1.1.1.1, rfl⟩, hw.1.1.2⟩, hw.1.2⟩, hw.2⟩

theorem dramStage_keeps {W0 : List Part} {r0 : State} (s : State) (l : List DramCh) (rates : Nat × Nat × Nat) (warm : Bool) (h_regs : Part.regs ∈ W0) (h_boot : Part.boot ∈ W0) (h_drc : Part.drc ∈ W0) (h_dram : Part.dram ∈ W0) (h0 : Keeps W0 r0 s) :
    Keeps W0 r0 (dramStage s l rates warm).2 := by
  unfold dramStage
  repeat' first
    | with_reducible assumption
    | simp only [Keeps.boot, h_boot]
    | with_reducible apply setF_keeps
    | with_reducible apply showChan_keeps
    | with_reducible apply hideChan_keeps
    | with_reducible apply loseDram_keeps
    | with_reducible apply Keeps.foldl
    | split
    | dsimp only
    | intro _

theorem whenDram_keeps {W0 : List Part} {r0 : State} (s : State) (f : State → State) (h_f : ∀ (x0 : State), Keeps W0 r0 x0 → Keeps W0 r0 (f x0)) {t0 : State} (h0 : Keeps W0 r0 s) (ht : whenDram s f = .next t0) :
    Keeps W0 r0 t0 := by
  unfold whenDram at ht
  apply whenOn_keeps (ht := ht)
  repeat' first
    | with_reducible assumption
    | with_reducible apply h_f
    | split
    | dsimp only
    | intro _

theorem execDramReadRequest_keeps {W0 : List Part} {r0 : State} (dt : Nat) (port : Nat) (cls : Nat) (block : Nat) (s : State) (h_regs : Part.regs ∈ W0) (h_hif : Part.hif ∈ W0) (h_drc : Part.drc ∈ W0) (h_chn : Part.chn ∈ W0) (h_time : Part.time ∈ W0) (h_wraps : Part.wraps ∈ W0) (h_up : Part.up ∈ W0) (h_out : Part.out ∈ W0) {t0 : State} (h0 : Keeps W0 r0 s) (ht : execDramReadRequest dt port cls block s = .next t0) :
    Keeps W0 r0 t0 := by
  unfold execDramReadRequest at ht
  apply whenDram_keeps (ht := ht)
  repeat' first
    | with_reducible assumption
    | with_reducible apply advance_keeps
    | with_reducible apply drcRequest_keeps
    | split
    | dsimp only
    | intro _

theorem execDramReadReturn_keeps {W0 : List Part} {r0 : State} (dt : Nat) (port : Nat) (block : Nat) (err : List (Nat × Nat)) (s : State) (h_regs : Part.regs ∈ W0) (h_hif : Part.hif ∈ W0) (h_drc : Part.drc ∈ W0) (h_chn : Part.chn ∈ W0) (h_dram : Part.dram ∈ W0) (h_time : Part.time ∈ W0) (h_wraps : Part.wraps ∈ W0) (h_up : Part.up ∈ W0) (h_out : Part.out ∈ W0) {t0 : State} (h0 : Keeps W0 r0 s) (ht : execDramReadReturn dt port block err s = .next t0) :
    Keeps W0 r0 t0 := by
  unfold execDramReadReturn at ht
  apply whenDram_keeps (ht := ht)
  repeat' first
    | with_reducible assumption
    | with_reducible apply advance_keeps
    | with_reducible apply readReturn_keeps
    | split
    | dsimp only
    | intro _

theorem execDramWriteRequest_keeps {W0 : List Part} {r0 : State} (dt : Nat) (port : Nat) (cls : Nat) (block : Nat) (data : Bytes) (issue : Bool) (s : State) (h_regs : Part.regs ∈ W0) (h_hif : Part.hif ∈ W0) (h_drc : Part.drc ∈ W0) (h_chn : Part.chn ∈ W0) (h_dram : Part.dram ∈ W0) (h_time : Part.time ∈ W0) (h_wraps : Part.wraps ∈ W0) (h_up : Part.up ∈ W0) (h_out : Part.out ∈ W0) {t0 : State} (h0 : Keeps W0 r0 s) (ht : execDramWriteRequest dt port cls block data issue s = .next t0) :
    Keeps W0 r0 t0 := by
  unfold execDramWriteRequest at ht
  apply whenDram_keeps (ht := ht)
  repeat' first
    | with_reducible assumption
    | with_reducible apply advance_keeps
    | with_reducible apply drcRequest_keeps
    | with_reducible apply issueFreeWrites_keeps
    | split
    | dsimp only
    | intro _

theorem execDramPartialWrite_keeps {W0 : List Part} {r0 : State} (dt : Nat) (x : PartAt) (off : Nat) (data : Bytes) (err : List (Nat × Nat)) (s : State) (h_regs : Part.regs ∈ W0) (h_hif : Part.hif ∈ W0) (h_drc : Part.drc ∈ W0) (h_chn : Part.chn ∈ W0) (h_dram : Part.dram ∈ W0) (h_time : Part.time ∈ W0) (h_wraps : Part.wraps ∈ W0) (h_up : Part.up ∈ W0) (h_out : Part.out ∈ W0) {t0 : State} (h0 : Keeps W0 r0 s) (ht : execDramPartialWrite dt x off data err s = .next t0) :
    Keeps W0 r0 t0 := by
  unfold execDramPartialWrite at ht
  apply whenDram_keeps (ht := ht)
  repeat' first
    | with_reducible assumption
    | with_reducible apply advance_keeps
    | with_reducible apply partialWrite_keeps
    | split
    | dsimp only
    | intro _

theorem execRefreshDue_keeps {W0 : List Part} {r0 : State} (dt : Nat) (c : Nat) (rank : Nat) (s : State) (h_regs : Part.regs ∈ W0) (h_hif : Part.hif ∈ W0) (h_drc : Part.drc ∈ W0) (h_chn : Part.chn ∈ W0) (h_time : Part.time ∈ W0) (h_wraps : Part.wraps ∈ W0) (h_up : Part.up ∈ W0) (h_out : Part.out ∈ W0) {t0 : State} (h0 : Keeps W0 r0 s) (ht : execRefreshDue dt c rank s = .next t0) :
    Keeps W0 r0 t0 := by
  unfold execRefreshDue at ht
  apply whenDram_keeps (ht := ht)
  repeat' first
    | with_reducible assumption
    | with_reducible apply advance_keeps
    | with_reducible apply refreshDue_keeps
    | split
    | dsimp only
    | intro _

theorem execRefreshPullin_keeps {W0 : List Part} {r0 : State} (dt : Nat) (c : Nat) (rank : Nat) (s : State) (h_regs : Part.regs ∈ W0) (h_hif : Part.hif ∈ W0) (h_drc : Part.drc ∈ W0) (h_chn : Part.chn ∈ W0) (h_time : Part.time ∈ W0) (h_wraps : Part.wraps ∈ W0) (h_up : Part.up ∈ W0) (h_out : Part.out ∈ W0) {t0 : State} (h0 : Keeps W0 r0 s) (ht : execRefreshPullin dt c rank s = .next t0) :
    Keeps W0 r0 t0 := by
  unfold execRefreshPullin at ht
  apply whenDram_keeps (ht := ht)
  repeat' first
    | with_reducible assumption
    | with_reducible apply advance_keeps
    | with_reducible apply pullIn_keeps
    | split
    | dsimp only
    | intro _

theorem execPatrolScrub_keeps {W0 : List Part} {r0 : State} (dt : Nat) (err : List (Nat × Nat)) (s : State) (h_regs : Part.regs ∈ W0) (h_hif : Part.hif ∈ W0) (h_drc : Part.drc ∈ W0) (h_chn : Part.chn ∈ W0) (h_dram : Part.dram ∈ W0) (h_time : Part.time ∈ W0) (h_wraps : Part.wraps ∈ W0) (h_up : Part.up ∈ W0) (h_out : Part.out ∈ W0) {t0 : State} (h0 : Keeps W0 r0 s) (ht : execPatrolScrub dt err s = .next t0) :
    Keeps W0 r0 t0 := by
  unfold execPatrolScrub at ht
  apply whenDram_keeps (ht := ht)
  repeat' first
    | with_reducible assumption
    | with_reducible apply advance_keeps
    | with_reducible apply patrolStep_keeps
    | split
    | dsimp only
    | intro _

theorem mr4Poll_keeps {W0 : List Part} {r0 : State} (s : State) (quarters : Nat) (h_drc : Part.drc ∈ W0) (h0 : Keeps W0 r0 s) :
    Keeps W0 r0 (mr4Poll s quarters) := by
  unfold mr4Poll
  repeat' first
    | with_reducible assumption
    | simp only [Keeps.drc, h_drc]
    | split

theorem execMr4Poll_keeps {W0 : List Part} {r0 : State} (quarters : Nat) (s : State) (h_drc : Part.drc ∈ W0) {t0 : State} (h0 : Keeps W0 r0 s) (ht : execMr4Poll quarters s = .next t0) :
    Keeps W0 r0 t0 := by
  unfold execMr4Poll at ht
  apply whenDram_keeps (ht := ht)
  repeat' first
    | with_reducible assumption
    | with_reducible apply mr4Poll_keeps
    | split
    | dsimp only
    | intro _

theorem execSelfRefreshEntry_keeps {W0 : List Part} {r0 : State} (dt : Nat) (c : Nat) (s : State) (h_regs : Part.regs ∈ W0) (h_hif : Part.hif ∈ W0) (h_drc : Part.drc ∈ W0) (h_chn : Part.chn ∈ W0) (h_time : Part.time ∈ W0) (h_wraps : Part.wraps ∈ W0) (h_up : Part.up ∈ W0) (h_out : Part.out ∈ W0) {t0 : State} (h0 : Keeps W0 r0 s) (ht : execSelfRefreshEntry dt c s = .next t0) :
    Keeps W0 r0 t0 := by
  unfold execSelfRefreshEntry at ht
  apply whenDram_keeps (ht := ht)
  repeat' first
    | with_reducible assumption
    | with_reducible apply advance_keeps
    | with_reducible apply selfRefEntry_keeps
    | split
    | dsimp only
    | intro _

theorem execSelfRefreshExit_keeps {W0 : List Part} {r0 : State} (dt : Nat) (c : Nat) (s : State) (h_regs : Part.regs ∈ W0) (h_hif : Part.hif ∈ W0) (h_drc : Part.drc ∈ W0) (h_chn : Part.chn ∈ W0) (h_cal : Part.cal ∈ W0) (h_time : Part.time ∈ W0) (h_wraps : Part.wraps ∈ W0) (h_up : Part.up ∈ W0) (h_out : Part.out ∈ W0) {t0 : State} (h0 : Keeps W0 r0 s) (ht : execSelfRefreshExit dt c s = .next t0) :
    Keeps W0 r0 t0 := by
  unfold execSelfRefreshExit at ht
  apply whenDram_keeps (ht := ht)
  repeat' first
    | with_reducible assumption
    | with_reducible apply advance_keeps
    | with_reducible apply selfRefExit_keeps
    | split
    | dsimp only
    | intro _

theorem execFreqChangeTimeout_keeps {W0 : List Part} {r0 : State} (dt : Nat) (s : State) (h_regs : Part.regs ∈ W0) (h_hif : Part.hif ∈ W0) (h_drc : Part.drc ∈ W0) (h_chn : Part.chn ∈ W0) (h_time : Part.time ∈ W0) (h_wraps : Part.wraps ∈ W0) (h_up : Part.up ∈ W0) (h_out : Part.out ∈ W0) {t0 : State} (h0 : Keeps W0 r0 s) (ht : execFreqChangeTimeout dt s = .next t0) :
    Keeps W0 r0 t0 := by
  unfold execFreqChangeTimeout at ht
  apply whenDram_keeps (ht := ht)
  repeat' first
    | with_reducible assumption
    | with_reducible apply advance_keeps
    | with_reducible apply freqTimeout_keeps
    | split
    | dsimp only
    | intro _

end Sys2Proof.Machine
end

