-- ==== Sys2Proof/Laws/KeepTim.lean ====
section
/-! SUPPORT. What each operation of Machine/Tim.lean touches. -/

namespace Sys2Proof.Machine

theorem syncSend_keeps {W0 : List Part} {r0 : State} (s : State) (h_chn : Part.chn ∈ W0) (h_tim : Part.tim ∈ W0) (h_out : Part.out ∈ W0) (h0 : Keeps W0 r0 s) :
    Keeps W0 r0 (syncSend s) := by
  unfold syncSend
  repeat' first
    | with_reducible assumption
    | simp only [Keeps.tim, h_tim]
    | with_reducible apply sendNow_keeps

theorem setGen_keeps {W0 : List Part} {r0 : State} (s : State) (g : Nat) (x : Gen) (h_tim : Part.tim ∈ W0) (h0 : Keeps W0 r0 s) :
    Keeps W0 r0 (setGen s g x) := by
  unfold setGen
  repeat' first
    | with_reducible assumption
    | simp only [Keeps.tim, h_tim]

theorem genShow_keeps {W0 : List Part} {r0 : State} (s : State) (g : Nat) (h_regs : Part.regs ∈ W0) (h0 : Keeps W0 r0 s) :
    Keeps W0 r0 (genShow s g) := by
  unfold genShow
  repeat' first
    | with_reducible assumption
    | with_reducible apply setF_keeps
    | split
    | dsimp only

theorem genEnable_keeps {W0 : List Part} {r0 : State} (s : State) (g : Nat) (h_regs : Part.regs ∈ W0) (h_tim : Part.tim ∈ W0) (h0 : Keeps W0 r0 s) :
    Keeps W0 r0 (genEnable s g) := by
  unfold genEnable
  repeat' first
    | with_reducible assumption
    | with_reducible apply setF_keeps
    | with_reducible apply setGen_keeps
    | with_reducible apply genShow_keeps

theorem genStop_keeps {W0 : List Part} {r0 : State} (s : State) (g : Nat) (h_regs : Part.regs ∈ W0) (h0 : Keeps W0 r0 s) :
    Keeps W0 r0 (genStop s g) := by
  unfold genStop
  repeat' first
    | with_reducible assumption
    | with_reducible apply setF_keeps
    | with_reducible apply genShow_keeps

theorem genProgram_keeps {W0 : List Part} {r0 : State} (s : State) (g : Nat) (owner : Nat) (st : Int) (per : Nat) (k : Nat) (h_regs : Part.regs ∈ W0) (h_tim : Part.tim ∈ W0) (h0 : Keeps W0 r0 s) :
    Keeps W0 r0 (genProgram s g owner st per k) := by
  unfold genProgram
  repeat' first
    | with_reducible assumption
    | with_reducible apply setF_keeps
    | with_reducible apply setGen_keeps
    | with_reducible apply genShow_keeps

theorem genTake_keeps {W0 : List Part} {r0 : State} (s : State) (g : Nat) (owner : Nat) (st : Int) (per : Nat) (k : Nat) (h_regs : Part.regs ∈ W0) (h_tim : Part.tim ∈ W0) (h0 : Keeps W0 r0 s) :
    Keeps W0 r0 (genTake s g owner st per k) := by
  unfold genTake
  repeat' first
    | with_reducible assumption
    | with_reducible apply setF_keeps
    | with_reducible apply genProgram_keeps

theorem genRelease_keeps {W0 : List Part} {r0 : State} (s : State) (g : Nat) (h_regs : Part.regs ∈ W0) (h_tim : Part.tim ∈ W0) (h0 : Keeps W0 r0 s) :
    Keeps W0 r0 (genRelease s g) := by
  unfold genRelease
  repeat' first
    | with_reducible assumption
    | with_reducible apply setGen_keeps
    | with_reducible apply genStop_keeps

theorem trigPulse_keeps {W0 : List Part} {r0 : State} (s : State) (g : Nat) (ik : Int) (h_tim : Part.tim ∈ W0) (h_out : Part.out ∈ W0) (h0 : Keeps W0 r0 s) :
    Keeps W0 r0 (trigPulse s g ik) := by
  unfold trigPulse
  repeat' first
    | with_reducible assumption
    | simp only [Keeps.tim, h_tim]
    | with_reducible apply emit_keeps

theorem genFire_keeps {W0 : List Part} {r0 : State} (s : State) (g : Nat) (h_regs : Part.regs ∈ W0) (h_hif : Part.hif ∈ W0) (h_sor : Part.sor ∈ W0) (h_chn : Part.chn ∈ W0) (h_tim : Part.tim ∈ W0) (h_out : Part.out ∈ W0) (h0 : Keeps W0 r0 s) :
    Keeps W0 r0 (genFire s g) := by
  unfold genFire
  repeat' first
    | with_reducible assumption
    | with_reducible apply incMod_keeps
    | with_reducible apply raise_keeps
    | with_reducible apply sorPulse_keeps
    | with_reducible apply setGen_keeps
    | with_reducible apply genShow_keeps
    | with_reducible apply genStop_keeps
    | with_reducible apply trigPulse_keeps
    | split
    | dsimp only

theorem syncPulse_keeps {W0 : List Part} {r0 : State} (s : State) (g : Nat) (h_chn : Part.chn ∈ W0) (h_tim : Part.tim ∈ W0) (h_out : Part.out ∈ W0) (h0 : Keeps W0 r0 s) :
    Keeps W0 r0 (syncPulse s g) := by
  unfold syncPulse
  repeat' first
    | with_reducible assumption
    | with_reducible apply syncSend_keeps
    | split

theorem genPulse_keeps {W0 : List Part} {r0 : State} (s : State) (g : Nat) (h_regs : Part.regs ∈ W0) (h_hif : Part.hif ∈ W0) (h_sor : Part.sor ∈ W0) (h_chn : Part.chn ∈ W0) (h_tim : Part.tim ∈ W0) (h_out : Part.out ∈ W0) (h0 : Keeps W0 r0 s) :
    Keeps W0 r0 (genPulse s g) := by
  unfold genPulse
  repeat' first
    | with_reducible assumption
    | with_reducible apply genFire_keeps
    | with_reducible apply syncPulse_keeps

theorem genPulses_keeps {W0 : List Part} {r0 : State} (g : Nat) (h_regs : Part.regs ∈ W0) (h_hif : Part.hif ∈ W0) (h_sor : Part.sor ∈ W0) (h_chn : Part.chn ∈ W0) (h_tim : Part.tim ∈ W0) (h_out : Part.out ∈ W0) (y0 : Nat) (y1 : State)
    (h0 : Keeps W0 r0 y1) :
    Keeps W0 r0 (genPulses g y0 y1) := by
  induction y0 generalizing y1 g with
  | zero =>
    unfold genPulses
    repeat' first
      | with_reducible assumption
  | succ y0 ih =>
    unfold genPulses
    repeat' first
      | with_reducible assumption
      | with_reducible apply ih
      | with_reducible apply genPulse_keeps
      | split

theorem genLast_keeps {W0 : List Part} {r0 : State} (s0 : State) (g : Nat) (h_regs : Part.regs ∈ W0) (h_hif : Part.hif ∈ W0) (h_sor : Part.sor ∈ W0) (h_chn : Part.chn ∈ W0) (h_tim : Part.tim ∈ W0) (h_out : Part.out ∈ W0) (h0 : Keeps W0 r0 s0) :
    Keeps W0 r0 (genLast s0 g) := by
  unfold genLast
  repeat' first
    | with_reducible assumption
    | with_reducible apply setF_keeps
    | with_reducible apply genPulses_keeps

theorem genStep_keeps {W0 : List Part} {r0 : State} (s : State) (g : Nat) (h_regs : Part.regs ∈ W0) (h_hif : Part.hif ∈ W0) (h_sor : Part.sor ∈ W0) (h_chn : Part.chn ∈ W0) (h_tim : Part.tim ∈ W0) (h_out : Part.out ∈ W0) (h0 : Keeps W0 r0 s) :
    Keeps W0 r0 (genStep s g) := by
  unfold genStep
  repeat' first
    | with_reducible assumption
    | with_reducible apply setF_keeps
    | with_reducible apply incSat_keeps
    | with_reducible apply setGen_keeps
    | with_reducible apply genShow_keeps
    | with_reducible apply genPulse_keeps
    | split

theorem stepTime_keeps {W0 : List Part} {r0 : State} (s : State) (d : Int) (h_regs : Part.regs ∈ W0) (h_hif : Part.hif ∈ W0) (h_sor : Part.sor ∈ W0) (h_chn : Part.chn ∈ W0) (h_tim : Part.tim ∈ W0) (h_lmp : Part.lmp ∈ W0) (h_time : Part.time ∈ W0) (h_wraps : Part.wraps ∈ W0) (h_out : Part.out ∈ W0) (h0 : Keeps W0 r0 s) :
    Keeps W0 r0 (stepTime s d) := by
  unfold stepTime
  repeat' first
    | with_reducible assumption
    | simp only [Keeps.lmp, Keeps.time_wraps, h_lmp, h_time, h_wraps]
    | with_reducible apply incSat_keeps
    | with_reducible apply raise_keeps
    | with_reducible apply longWindow_keeps
    | with_reducible apply genStep_keeps
    | with_reducible apply Keeps.foldl
    | split
    | dsimp only
    | intro _

theorem setServo_keeps {W0 : List Part} {r0 : State} (s : State) (st : Nat) (h_regs : Part.regs ∈ W0) (h_hif : Part.hif ∈ W0) (h_chn : Part.chn ∈ W0) (h_tim : Part.tim ∈ W0) (h_tan : Part.tan ∈ W0) (h_lmp : Part.lmp ∈ W0) (h_out : Part.out ∈ W0) (h0 : Keeps W0 r0 s) :
    Keeps W0 r0 (setServo s st) := by
  unfold setServo
  repeat' first
    | with_reducible assumption
    | simp only [Keeps.tim_tan, h_tan, h_tim]
    | with_reducible apply setF_keeps
    | with_reducible apply raise_keeps
    | with_reducible apply lampDrop_keeps
    | split

theorem steer_keeps {W0 : List Part} {r0 : State} (s : State) (kept : Bool) (h_regs : Part.regs ∈ W0) (h_tim : Part.tim ∈ W0) (h_free : Part.free ∈ W0) (h0 : Keeps W0 r0 s) :
    Keeps W0 r0 (steer s kept) := by
  unfold steer
  repeat' first
    | with_reducible assumption
    | simp only [Keeps.tim, h_tim]
    | with_reducible apply setF_keeps
    | with_reducible apply drawNat_keeps

theorem holdInc_keeps {W0 : List Part} {r0 : State} (s : State) (h_regs : Part.regs ∈ W0) (h0 : Keeps W0 r0 s) :
    Keeps W0 r0 (holdInc s) := by
  unfold holdInc
  repeat' first
    | with_reducible assumption
    | with_reducible apply setF_keeps
    | split

theorem toHoldover_keeps {W0 : List Part} {r0 : State} (s : State) (h_regs : Part.regs ∈ W0) (h_hif : Part.hif ∈ W0) (h_chn : Part.chn ∈ W0) (h_tim : Part.tim ∈ W0) (h_tan : Part.tan ∈ W0) (h_lmp : Part.lmp ∈ W0) (h_out : Part.out ∈ W0) (h0 : Keeps W0 r0 s) :
    Keeps W0 r0 (toHoldover s) := by
  unfold toHoldover
  repeat' first
    | with_reducible assumption
    | simp only [Keeps.tim, h_tim]
    | with_reducible apply setServo_keeps
    | with_reducible apply holdInc_keeps

theorem showOffset_keeps {W0 : List Part} {r0 : State} (s : State) (o : Int) (h_regs : Part.regs ∈ W0) (h0 : Keeps W0 r0 s) :
    Keeps W0 r0 (showOffset s o) := by
  unfold showOffset
  repeat' first
    | with_reducible assumption
    | with_reducible apply setF_keeps

theorem outlier_keeps {W0 : List Part} {r0 : State} (s : State) (h_regs : Part.regs ∈ W0) (h_tim : Part.tim ∈ W0) (h0 : Keeps W0 r0 s) :
    Keeps W0 r0 (outlier s).2 := by
  unfold outlier
  repeat' first
    | with_reducible assumption
    | simp only [Keeps.tim, h_tim]
    | with_reducible apply incSat_keeps

theorem startSlew_keeps {W0 : List Part} {r0 : State} (s : State) (h_tim : Part.tim ∈ W0) (h0 : Keeps W0 r0 s) :
    Keeps W0 r0 (startSlew s) := by
  unfold startSlew
  repeat' first
    | with_reducible assumption
    | simp only [Keeps.tim, h_tim]

theorem keepInc_keeps {W0 : List Part} {r0 : State} (s : State) (h_tim : Part.tim ∈ W0) (h0 : Keeps W0 r0 s) :
    Keeps W0 r0 (keepInc s) := by
  unfold keepInc
  repeat' first
    | with_reducible assumption
    | simp only [Keeps.tim, h_tim]

theorem towardLock_keeps {W0 : List Part} {r0 : State} (s : State) (inBounds : Bool) (need : Nat) (h_regs : Part.regs ∈ W0) (h_hif : Part.hif ∈ W0) (h_chn : Part.chn ∈ W0) (h_tim : Part.tim ∈ W0) (h_tan : Part.tan ∈ W0) (h_lmp : Part.lmp ∈ W0) (h_out : Part.out ∈ W0) (h0 : Keeps W0 r0 s) :
    Keeps W0 r0 (towardLock s inBounds need) := by
  unfold towardLock
  repeat' first
    | with_reducible assumption
    | simp only [Keeps.tim, h_tim]
    | with_reducible apply setServo_keeps
    | split

theorem servoSync_keeps {W0 : List Part} {r0 : State} (s : State) (o : Int) (h_regs : Part.regs ∈ W0) (h_hif : Part.hif ∈ W0) (h_sor : Part.sor ∈ W0) (h_chn : Part.chn ∈ W0) (h_tim : Part.tim ∈ W0) (h_tan : Part.tan ∈ W0) (h_lmp : Part.lmp ∈ W0) (h_time : Part.time ∈ W0) (h_wraps : Part.wraps ∈ W0) (h_out : Part.out ∈ W0) (h_free : Part.free ∈ W0) (h0 : Keeps W0 r0 s) :
    Keeps W0 r0 (servoSync s o) := by
  unfold servoSync
  repeat' first
    | with_reducible assumption
    | simp only [Keeps.tim, h_tim]
    | with_reducible apply stepTime_keeps
    | with_reducible apply setServo_keeps
    | with_reducible apply steer_keeps
    | with_reducible apply showOffset_keeps
    | with_reducible apply outlier_keeps
    | with_reducible apply keepInc_keeps
    | with_reducible apply towardLock_keeps
    | with_reducible refine Keeps.of_snd (by with_reducible assumption) ?_
    | with_reducible refine Keeps.of_snd2 (by with_reducible assumption) ?_
    | split

theorem servoEdge_keeps {W0 : List Part} {r0 : State} (s : State) (e : Int) (h_regs : Part.regs ∈ W0) (h_hif : Part.hif ∈ W0) (h_chn : Part.chn ∈ W0) (h_tim : Part.tim ∈ W0) (h_tan : Part.tan ∈ W0) (h_lmp : Part.lmp ∈ W0) (h_out : Part.out ∈ W0) (h_free : Part.free ∈ W0) (h0 : Keeps W0 r0 s) :
    Keeps W0 r0 (servoEdge s e) := by
  unfold servoEdge
  repeat' first
    | with_reducible assumption
    | simp only [Keeps.tim, h_tim]
    | with_reducible apply setServo_keeps
    | with_reducible apply steer_keeps
    | with_reducible apply showOffset_keeps
    | with_reducible apply outlier_keeps
    | with_reducible apply startSlew_keeps
    | with_reducible apply towardLock_keeps
    | with_reducible refine Keeps.of_snd (by with_reducible assumption) ?_
    | with_reducible refine Keeps.of_snd2 (by with_reducible assumption) ?_
    | split

theorem refEdge_keeps {W0 : List Part} {r0 : State} (s : State) (eighths : Nat) (h_regs : Part.regs ∈ W0) (h_hif : Part.hif ∈ W0) (h_sor : Part.sor ∈ W0) (h_chn : Part.chn ∈ W0) (h_tim : Part.tim ∈ W0) (h_tan : Part.tan ∈ W0) (h_lmp : Part.lmp ∈ W0) (h_time : Part.time ∈ W0) (h_wraps : Part.wraps ∈ W0) (h_out : Part.out ∈ W0) (h_free : Part.free ∈ W0) (h0 : Keeps W0 r0 s) :
    Keeps W0 r0 (refEdge s eighths) := by
  unfold refEdge
  repeat' first
    | with_reducible assumption
    | simp only [Keeps.tim, h_tim]
    | with_reducible apply setF_keeps
    | with_reducible apply stepTime_keeps
    | with_reducible apply setServo_keeps
    | with_reducible apply servoEdge_keeps
    | split

theorem refLoss_keeps {W0 : List Part} {r0 : State} (s : State) (h_regs : Part.regs ∈ W0) (h_hif : Part.hif ∈ W0) (h_chn : Part.chn ∈ W0) (h_tim : Part.tim ∈ W0) (h_tan : Part.tan ∈ W0) (h_lmp : Part.lmp ∈ W0) (h_out : Part.out ∈ W0) (h0 : Keeps W0 r0 s) :
    Keeps W0 r0 (refLoss s) := by
  unfold refLoss
  repeat' first
    | with_reducible assumption
    | with_reducible apply toHoldover_keeps
    | split

theorem useSync_keeps {W0 : List Part} {r0 : State} (s : State) (x : RxCell) (h_regs : Part.regs ∈ W0) (h_hif : Part.hif ∈ W0) (h_sor : Part.sor ∈ W0) (h_chn : Part.chn ∈ W0) (h_tim : Part.tim ∈ W0) (h_tan : Part.tan ∈ W0) (h_sec : Part.sec ∈ W0) (h_lmp : Part.lmp ∈ W0) (h_time : Part.time ∈ W0) (h_wraps : Part.wraps ∈ W0) (h_out : Part.out ∈ W0) (h_free : Part.free ∈ W0) (h0 : Keeps W0 r0 s) :
    Keeps W0 r0 (useSync s x) := by
  unfold useSync
  repeat' first
    | with_reducible assumption
    | simp only [Keeps.tim, Keeps.tim_sec_lmp_wraps, h_lmp, h_sec, h_tim, h_wraps]
    | with_reducible apply setF_keeps
    | with_reducible apply incSat_keeps
    | with_reducible apply servoSync_keeps
    | split

theorem syncArrive_keeps {W0 : List Part} {r0 : State} (s : State) (x : RxCell) (h_regs : Part.regs ∈ W0) (h_hif : Part.hif ∈ W0) (h_sor : Part.sor ∈ W0) (h_chn : Part.chn ∈ W0) (h_tim : Part.tim ∈ W0) (h_tan : Part.tan ∈ W0) (h_sec : Part.sec ∈ W0) (h_lmp : Part.lmp ∈ W0) (h_time : Part.time ∈ W0) (h_wraps : Part.wraps ∈ W0) (h_out : Part.out ∈ W0) (h_free : Part.free ∈ W0) (h0 : Keeps W0 r0 s) :
    Keeps W0 r0 (syncArrive s x) := by
  unfold syncArrive
  repeat' first
    | with_reducible assumption
    | with_reducible apply incSat_keeps
    | with_reducible apply insertCell_keeps
    | with_reducible apply useSync_keeps
    | split
    | dsimp only

theorem takeRx_keeps {W0 : List Part} {r0 : State} {s : State} {p : Bytes → Bool} (h_chn : Part.chn ∈ W0) {it : RxCell} {t0 : State}
    (hx : takeRx s p = some (it, t0)) (h0 : Keeps W0 r0 s) : Keeps W0 r0 t0 := by
  unfold takeRx at hx
  split at hx
  · injection hx with hx
    injection hx with _ hx
    subst hx
    simp only [Keeps.chn, h_chn, h0]
  · cases hx

theorem sendLocal_keeps {W0 : List Part} {r0 : State} (s : State) (p : Nat) (c : Bytes) (h_regs : Part.regs ∈ W0) (h_chn : Part.chn ∈ W0) (h_out : Part.out ∈ W0) (h0 : Keeps W0 r0 s) :
    Keeps W0 r0 (sendLocal s p c) := by
  unfold sendLocal
  repeat' first
    | with_reducible assumption
    | with_reducible apply emit_keeps
    | with_reducible apply insertCell_keeps
    | split

theorem preqArrive_keeps {W0 : List Part} {r0 : State} (s : State) (x : RxCell) (h_regs : Part.regs ∈ W0) (h_chn : Part.chn ∈ W0) (h_out : Part.out ∈ W0) (h0 : Keeps W0 r0 s) :
    Keeps W0 r0 (preqArrive s x) := by
  unfold preqArrive
  repeat' first
    | with_reducible assumption
    | with_reducible apply sendLocal_keeps

theorem preqSend_keeps {W0 : List Part} {r0 : State} (s : State) (p : Nat) (h_regs : Part.regs ∈ W0) (h_chn : Part.chn ∈ W0) (h_tim : Part.tim ∈ W0) (h_out : Part.out ∈ W0) (h0 : Keeps W0 r0 s) :
    Keeps W0 r0 (preqSend s p) := by
  unfold preqSend
  repeat' first
    | with_reducible assumption
    | simp only [Keeps.tim, h_tim]
    | with_reducible apply sendLocal_keeps
    | split

theorem preqLeft_keeps {W0 : List Part} {r0 : State} (s : State) (p : Nat) (c : Bytes) (now : Nat) (h_tim : Part.tim ∈ W0) (h0 : Keeps W0 r0 s) :
    Keeps W0 r0 (preqLeft s p c now) := by
  unfold preqLeft
  repeat' first
    | with_reducible assumption
    | simp only [Keeps.tim, h_tim]
    | split

theorem preqRestart_keeps {W0 : List Part} {r0 : State} (s : State) (p : Nat) (h_tim : Part.tim ∈ W0) (h0 : Keeps W0 r0 s) :
    Keeps W0 r0 (preqRestart s p) := by
  unfold preqRestart
  repeat' first
    | with_reducible assumption
    | simp only [Keeps.tim, h_tim]

theorem pdShow_keeps {W0 : List Part} {r0 : State} (s : State) (p : Nat) (x : PdSt) (h_regs : Part.regs ∈ W0) (h_tim : Part.tim ∈ W0) (h0 : Keeps W0 r0 s) :
    Keeps W0 r0 (pdShow s p x) := by
  unfold pdShow
  repeat' first
    | with_reducible assumption
    | simp only [Keeps.tim, h_tim]
    | with_reducible apply setF_keeps

theorem pdTake_keeps {W0 : List Part} {r0 : State} (s : State) (p : Nat) (v : Int) (h_regs : Part.regs ∈ W0) (h_tim : Part.tim ∈ W0) (h0 : Keeps W0 r0 s) :
    Keeps W0 r0 (pdTake s p v) := by
  unfold pdTake
  repeat' first
    | with_reducible assumption
    | with_reducible apply pdShow_keeps
    | split
    | dsimp only

theorem prespArrive_keeps {W0 : List Part} {r0 : State} (s : State) (x : RxCell) (h_regs : Part.regs ∈ W0) (h_tim : Part.tim ∈ W0) (h0 : Keeps W0 r0 s) :
    Keeps W0 r0 (prespArrive s x) := by
  unfold prespArrive
  repeat' first
    | with_reducible assumption
    | simp only [Keeps.tim, h_tim]
    | with_reducible apply pdTake_keeps
    | split

theorem preqLost_keeps {W0 : List Part} {r0 : State} (s : State) (p : Nat) (h_regs : Part.regs ∈ W0) (h_tim : Part.tim ∈ W0) (h0 : Keeps W0 r0 s) :
    Keeps W0 r0 (preqLost s p) := by
  unfold preqLost
  repeat' first
    | with_reducible assumption
    | simp only [Keeps.tim, h_tim]
    | with_reducible apply incSat_keeps
    | split

theorem syncLoss_keeps {W0 : List Part} {r0 : State} (s : State) (h_regs : Part.regs ∈ W0) (h_hif : Part.hif ∈ W0) (h_chn : Part.chn ∈ W0) (h_tim : Part.tim ∈ W0) (h_tan : Part.tan ∈ W0) (h_lmp : Part.lmp ∈ W0) (h_out : Part.out ∈ W0) (h0 : Keeps W0 r0 s) :
    Keeps W0 r0 (syncLoss s) := by
  unfold syncLoss
  repeat' first
    | with_reducible assumption
    | with_reducible apply toHoldover_keeps
    | split
    | dsimp only

theorem setCap_keeps {W0 : List Part} {r0 : State} (s : State) (c : Nat) (x : CapSt) (h_regs : Part.regs ∈ W0) (h_tim : Part.tim ∈ W0) (h0 : Keeps W0 r0 s) :
    Keeps W0 r0 (setCap s c x) := by
  unfold setCap
  repeat' first
    | with_reducible assumption
    | simp only [Keeps.tim, h_tim]
    | with_reducible apply setF_keeps

theorem capEdge_keeps {W0 : List Part} {r0 : State} (s : State) (c : Nat) (eighths : Nat) (fall : Bool) (h_regs : Part.regs ∈ W0) (h_hif : Part.hif ∈ W0) (h_chn : Part.chn ∈ W0) (h_tim : Part.tim ∈ W0) (h_out : Part.out ∈ W0) (h0 : Keeps W0 r0 s) :
    Keeps W0 r0 (capEdge s c eighths fall) := by
  unfold capEdge
  repeat' first
    | with_reducible assumption
    | with_reducible apply incSat_keeps
    | with_reducible apply raise_keeps
    | with_reducible apply setCap_keeps
    | with_reducible unfold capEdge.stampEdge
    | split
    | dsimp only

theorem capRead_keeps {W0 : List Part} {r0 : State} (s : State) (c : Nat) (h_regs : Part.regs ∈ W0) (h_tim : Part.tim ∈ W0) (h0 : Keeps W0 r0 s) :
    Keeps W0 r0 (capRead s c).2 := by
  unfold capRead
  repeat' first
    | with_reducible assumption
    | with_reducible apply setF_keeps
    | with_reducible apply setCap_keeps
    | split

theorem capStart_keeps {W0 : List Part} {r0 : State} (s : State) (c : Nat) (h_regs : Part.regs ∈ W0) (h_tim : Part.tim ∈ W0) (h0 : Keeps W0 r0 s) :
    Keeps W0 r0 (capStart s c) := by
  unfold capStart
  repeat' first
    | with_reducible assumption
    | with_reducible apply setF_keeps
    | with_reducible apply setCap_keeps

theorem timBlockReset_keeps {W0 : List Part} {r0 : State} (s : State) (h_regs : Part.regs ∈ W0) (h_hif : Part.hif ∈ W0) (h_chn : Part.chn ∈ W0) (h_tim : Part.tim ∈ W0) (h_lmp : Part.lmp ∈ W0) (h_out : Part.out ∈ W0) (h0 : Keeps W0 r0 s) :
    Keeps W0 r0 (timBlockReset s) := by
  unfold timBlockReset
  repeat' first
    | with_reducible assumption
    | simp only [Keeps.tim, h_tim]
    | with_reducible apply setWord_keeps
    | with_reducible apply setF_keeps
    | with_reducible apply resetRegs_keeps
    | with_reducible apply raise_keeps
    | with_reducible apply lampDrop_keeps
    | with_reducible apply Keeps.foldl
    | split
    | dsimp only
    | intro _

theorem timResetEnd_keeps {W0 : List Part} {r0 : State} (s : State) (h_regs : Part.regs ∈ W0) (h_tim : Part.tim ∈ W0) (h0 : Keeps W0 r0 s) :
    Keeps W0 r0 (timResetEnd s) := by
  unfold timResetEnd
  repeat' first
    | with_reducible assumption
    | with_reducible apply incSat_keeps
    | with_reducible apply genProgram_keeps
    | with_reducible apply Keeps.foldl
    | with_reducible refine Keeps.of_snd (by with_reducible assumption) ?_
    | with_reducible refine Keeps.of_snd2 (by with_reducible assumption) ?_
    | split
    | dsimp only
    | intro _

theorem execSyncPostmark_keeps {W0 : List Part} {r0 : State} (s : State) (h_regs : Part.regs ∈ W0) (h_hif : Part.hif ∈ W0) (h_sor : Part.sor ∈ W0) (h_chn : Part.chn ∈ W0) (h_tim : Part.tim ∈ W0) (h_tan : Part.tan ∈ W0) (h_sec : Part.sec ∈ W0) (h_lmp : Part.lmp ∈ W0) (h_time : Part.time ∈ W0) (h_wraps : Part.wraps ∈ W0) (h_out : Part.out ∈ W0) (h_free : Part.free ∈ W0) {t0 : State} (h0 : Keeps W0 r0 s) (ht : execSyncPostmark s = .next t0) :
    Keeps W0 r0 t0 := by
  unfold execSyncPostmark at ht
  apply whenOn_keeps (ht := ht)
  repeat' first
    | with_reducible assumption
    | with_reducible apply syncArrive_keeps
    | with_reducible refine takeRx_keeps (hx := by with_reducible assumption) ?_ ?_
    | split
    | dsimp only
    | intro _

theorem execPreqPostmark_keeps {W0 : List Part} {r0 : State} (s : State) (h_regs : Part.regs ∈ W0) (h_chn : Part.chn ∈ W0) (h_out : Part.out ∈ W0) {t0 : State} (h0 : Keeps W0 r0 s) (ht : execPreqPostmark s = .next t0) :
    Keeps W0 r0 t0 := by
  unfold execPreqPostmark at ht
  apply whenOn_keeps (ht := ht)
  repeat' first
    | with_reducible assumption
    | with_reducible refine takeRx_keeps (hx := by with_reducible assumption) ?_ ?_
    | with_reducible apply preqArrive_keeps
    | split
    | dsimp only
    | intro _

theorem execPrespPostmark_keeps {W0 : List Part} {r0 : State} (s : State) (h_regs : Part.regs ∈ W0) (h_chn : Part.chn ∈ W0) (h_tim : Part.tim ∈ W0) {t0 : State} (h0 : Keeps W0 r0 s) (ht : execPrespPostmark s = .next t0) :
    Keeps W0 r0 t0 := by
  unfold execPrespPostmark at ht
  apply whenOn_keeps (ht := ht)
  repeat' first
    | with_reducible assumption
    | with_reducible refine takeRx_keeps (hx := by with_reducible assumption) ?_ ?_
    | with_reducible apply prespArrive_keeps
    | split
    | dsimp only
    | intro _

theorem execPreqSend_keeps {W0 : List Part} {r0 : State} (dt : Nat) (p : Nat) (s : State) (h_regs : Part.regs ∈ W0) (h_hif : Part.hif ∈ W0) (h_chn : Part.chn ∈ W0) (h_tim : Part.tim ∈ W0) (h_time : Part.time ∈ W0) (h_wraps : Part.wraps ∈ W0) (h_up : Part.up ∈ W0) (h_out : Part.out ∈ W0) {t0 : State} (h0 : Keeps W0 r0 s) (ht : execPreqSend dt p s = .next t0) :
    Keeps W0 r0 t0 := by
  unfold execPreqSend at ht
  apply whenOn_keeps (ht := ht)
  repeat' first
    | with_reducible assumption
    | with_reducible apply advance_keeps
    | with_reducible apply preqSend_keeps
    | split
    | dsimp only
    | intro _

theorem execPreqLost_keeps {W0 : List Part} {r0 : State} (x : After) (s : State) (h_regs : Part.regs ∈ W0) (h_hif : Part.hif ∈ W0) (h_chn : Part.chn ∈ W0) (h_tim : Part.tim ∈ W0) (h_time : Part.time ∈ W0) (h_wraps : Part.wraps ∈ W0) (h_up : Part.up ∈ W0) (h_out : Part.out ∈ W0) {t0 : State} (h0 : Keeps W0 r0 s) (ht : execPreqLost x s = .next t0) :
    Keeps W0 r0 t0 := by
  unfold execPreqLost at ht
  apply whenOn_keeps (ht := ht)
  repeat' first
    | with_reducible assumption
    | with_reducible apply advance_keeps
    | with_reducible apply preqLost_keeps
    | split
    | dsimp only
    | intro _

theorem execSyncLoss_keeps {W0 : List Part} {r0 : State} (dt : Nat) (s : State) (h_regs : Part.regs ∈ W0) (h_hif : Part.hif ∈ W0) (h_chn : Part.chn ∈ W0) (h_tim : Part.tim ∈ W0) (h_tan : Part.tan ∈ W0) (h_lmp : Part.lmp ∈ W0) (h_time : Part.time ∈ W0) (h_wraps : Part.wraps ∈ W0) (h_up : Part.up ∈ W0) (h_out : Part.out ∈ W0) {t0 : State} (h0 : Keeps W0 r0 s) (ht : execSyncLoss dt s = .next t0) :
    Keeps W0 r0 t0 := by
  unfold execSyncLoss at ht
  apply whenOn_keeps (ht := ht)
  repeat' first
    | with_reducible assumption
    | with_reducible apply advance_keeps
    | with_reducible apply syncLoss_keeps
    | split
    | dsimp only
    | intro _

theorem execTimeWrap_keeps {W0 : List Part} {r0 : State} (s : State) (h_regs : Part.regs ∈ W0) (h_hif : Part.hif ∈ W0) (h_chn : Part.chn ∈ W0) (h_time : Part.time ∈ W0) (h_wraps : Part.wraps ∈ W0) (h_up : Part.up ∈ W0) (h_out : Part.out ∈ W0) {t0 : State} (h0 : Keeps W0 r0 s) (ht : execTimeWrap s = .next t0) :
    Keeps W0 r0 t0 := by
  unfold execTimeWrap at ht
  injection ht with ht
  subst ht
  repeat' first
    | with_reducible assumption
    | with_reducible apply advance_keeps
    | split

theorem execReferenceEdge_keeps {W0 : List Part} {r0 : State} (dt : Nat) (eighths : Nat) (fall : Bool) (s : State) (h_regs : Part.regs ∈ W0) (h_hif : Part.hif ∈ W0) (h_sor : Part.sor ∈ W0) (h_chn : Part.chn ∈ W0) (h_tim : Part.tim ∈ W0) (h_tan : Part.tan ∈ W0) (h_lmp : Part.lmp ∈ W0) (h_time : Part.time ∈ W0) (h_wraps : Part.wraps ∈ W0) (h_up : Part.up ∈ W0) (h_out : Part.out ∈ W0) (h_free : Part.free ∈ W0) {t0 : State} (h0 : Keeps W0 r0 s) (ht : execReferenceEdge dt eighths fall s = .next t0) :
    Keeps W0 r0 t0 := by
  unfold execReferenceEdge at ht
  apply whenOn_keeps (ht := ht)
  repeat' first
    | with_reducible assumption
    | with_reducible apply advance_keeps
    | with_reducible apply refEdge_keeps
    | split
    | dsimp only
    | intro _

theorem execReferenceLoss_keeps {W0 : List Part} {r0 : State} (dt : Nat) (s : State) (h_regs : Part.regs ∈ W0) (h_hif : Part.hif ∈ W0) (h_chn : Part.chn ∈ W0) (h_tim : Part.tim ∈ W0) (h_tan : Part.tan ∈ W0) (h_lmp : Part.lmp ∈ W0) (h_time : Part.time ∈ W0) (h_wraps : Part.wraps ∈ W0) (h_up : Part.up ∈ W0) (h_out : Part.out ∈ W0) {t0 : State} (h0 : Keeps W0 r0 s) (ht : execReferenceLoss dt s = .next t0) :
    Keeps W0 r0 t0 := by
  unfold execReferenceLoss at ht
  apply whenOn_keeps (ht := ht)
  repeat' first
    | with_reducible assumption
    | with_reducible apply advance_keeps
    | with_reducible apply refLoss_keeps
    | split
    | dsimp only
    | intro _

theorem execCaptureEdge_keeps {W0 : List Part} {r0 : State} (dt : Nat) (c : Nat) (eighths : Nat) (fall : Bool) (s : State) (h_regs : Part.regs ∈ W0) (h_hif : Part.hif ∈ W0) (h_chn : Part.chn ∈ W0) (h_tim : Part.tim ∈ W0) (h_time : Part.time ∈ W0) (h_wraps : Part.wraps ∈ W0) (h_up : Part.up ∈ W0) (h_out : Part.out ∈ W0) {t0 : State} (h0 : Keeps W0 r0 s) (ht : execCaptureEdge dt c eighths fall s = .next t0) :
    Keeps W0 r0 t0 := by
  unfold execCaptureEdge at ht
  apply whenOn_keeps (ht := ht)
  repeat' first
    | with_reducible assumption
    | with_reducible apply advance_keeps
    | with_reducible apply capEdge_keeps
    | split
    | dsimp only
    | intro _

end Sys2Proof.Machine
end

