-- ==== Sys2Proof/Laws/KeepKeys.lean ====
section
/-! SUPPORT. What each operation of Machine/Keys.lean touches. -/

namespace Sys2Proof.Machine

theorem setKeySlot_keeps {W0 : List Part} {r0 : State} (s : State) (k : Nat) (v : Option KeySlot) (h_regs : Part.regs ∈ W0) (h_chn : Part.chn ∈ W0) (h0 : Keeps W0 r0 s) :
    Keeps W0 r0 (setKeySlot s k v) := by
  unfold setKeySlot
  repeat' first
    | with_reducible assumption
    | simp only [Keeps.chn, h_chn]
    | with_reducible apply setF_keeps
    | with_reducible apply setBitF_keeps
    | split

theorem dropKeySlots_keeps {W0 : List Part} {r0 : State} (s : State) (h_regs : Part.regs ∈ W0) (h_chn : Part.chn ∈ W0) (h0 : Keeps W0 r0 s) :
    Keeps W0 r0 (dropKeySlots s) := by
  unfold dropKeySlots
  repeat' first
    | with_reducible assumption
    | simp only [Keeps.chn, h_chn]
    | with_reducible apply setKeySlot_keeps
    | with_reducible apply Keeps.foldl
    | split
    | dsimp only
    | intro _

theorem touchKeySlot_keeps {W0 : List Part} {r0 : State} (s : State) (k : Nat) (f : KeySlot → KeySlot) (h_chn : Part.chn ∈ W0) (h0 : Keeps W0 r0 s) :
    Keeps W0 r0 (touchKeySlot s k f) := by
  unfold touchKeySlot
  repeat' first
    | with_reducible assumption
    | simp only [Keeps.chn, h_chn]

theorem sealNext_keeps {W0 : List Part} {r0 : State} (s : State) (session : Nat) (lkey : Bytes) (h_chn : Part.chn ∈ W0) (h0 : Keeps W0 r0 s) :
    Keeps W0 r0 (sealNext s session lkey) := by
  unfold sealNext
  repeat' first
    | with_reducible assumption
    | simp only [Keeps.chn, h_chn]

theorem sealReply_keeps {W0 : List Part} {r0 : State} {s : State} {session : Nat} {lkey : Bytes} {ltype rank lid addr lfl : Nat}
    {plain : Bytes} (h_chn : Part.chn ∈ W0) {it : Bytes} {t0 : State}
    (hx : sealReply s session lkey ltype rank lid addr lfl plain = some (it, t0)) (h0 : Keeps W0 r0 s) : Keeps W0 r0 t0 := by
  unfold sealReply at hx
  obtain ⟨x, -, hx⟩ := Option.map_eq_some_iff.1 hx
  injection hx with _ hx
  subst hx
  with_reducible exact sealNext_keeps _ _ _ h_chn h0

theorem setKeyRec_keeps {W0 : List Part} {r0 : State} (s : State) (i : Nat) (r : KeyRec) (h_sec : Part.sec ∈ W0) (h0 : Keeps W0 r0 s) :
    Keeps W0 r0 (setKeyRec s i r) := by
  unfold setKeyRec
  repeat' first
    | with_reducible assumption
    | simp only [Keeps.sec, h_sec]

theorem senderContent_keeps {W0 : List Part} {r0 : State} (s : State) (addr : Nat) (ltype : Nat) (rank : Nat) (lid : Nat) (wantSeal : Bool) (toSender : Bool) (content : Bytes) (h_sec : Part.sec ∈ W0) (h0 : Keeps W0 r0 s) :
    Keeps W0 r0 (senderContent s addr ltype rank lid wantSeal toSender content).2.2 := by
  unfold senderContent
  repeat' first
    | with_reducible assumption
    | simp only [Keeps.sec, h_sec]
    | with_reducible apply setKeyRec_keeps
    | split

theorem sendLetter_keeps {W0 : List Part} {r0 : State} (s : State) (ports : List Nat) (addr : Nat) (ltype : Nat) (lid : Nat) (wantSeal : Bool) (toSender : Bool) (content : Bytes) (h_chn : Part.chn ∈ W0) (h_sec : Part.sec ∈ W0) (h_out : Part.out ∈ W0) (h0 : Keeps W0 r0 s) :
    Keeps W0 r0 (sendLetter s ports addr ltype lid wantSeal toSender content) := by
  unfold sendLetter
  repeat' first
    | with_reducible assumption
    | with_reducible apply sendLetterCells_keeps
    | with_reducible apply senderContent_keeps
    | with_reducible apply Keeps.foldl
    | with_reducible refine Keeps.of_snd (by with_reducible assumption) ?_
    | with_reducible refine Keeps.of_snd2 (by with_reducible assumption) ?_
    | split
    | dsimp only
    | intro _

theorem secDone_keeps {W0 : List Part} {r0 : State} (s : State) (it : Item) (c : Status) (result : Nat) (rcode : Nat) (dead : Bool) (h_regs : Part.regs ∈ W0) (h_hif : Part.hif ∈ W0) (h_queues : Part.queues ∈ W0) (h_sor : Part.sor ∈ W0) (h_ring : Part.ring ∈ W0) (h_out : Part.out ∈ W0) (h0 : Keeps W0 r0 s) :
    Keeps W0 r0 (secDone s it c result rcode dead) := by
  unfold secDone
  repeat' first
    | with_reducible assumption
    | with_reducible apply complete40_keeps

theorem promoteKeys_keeps {W0 : List Part} {r0 : State} (s : State) (h_sec : Part.sec ∈ W0) (h0 : Keeps W0 r0 s) :
    Keeps W0 r0 (promoteKeys s) := by
  unfold promoteKeys
  repeat' first
    | with_reducible assumption
    | simp only [Keeps.sec, h_sec]

theorem switchKeys_keeps {W0 : List Part} {r0 : State} (s : State) (n : Nat) (h_regs : Part.regs ∈ W0) (h_hif : Part.hif ∈ W0) (h_queues : Part.queues ∈ W0) (h_sor : Part.sor ∈ W0) (h_sec : Part.sec ∈ W0) (h_ring : Part.ring ∈ W0) (h_out : Part.out ∈ W0) (h0 : Keeps W0 r0 s) :
    Keeps W0 r0 (switchKeys s n) := by
  unfold switchKeys
  repeat' first
    | with_reducible assumption
    | simp only [Keeps.sec, h_sec]
    | with_reducible apply secDone_keeps
    | with_reducible apply promoteKeys_keeps
    | with_reducible apply Keeps.foldl
    | split
    | dsimp only
    | intro _

end Sys2Proof.Machine
end

