-- ==== Sys2Proof/Laws/KeepCmp.lean ====
section
/-! SUPPORT. What each operation of Machine/Cmp.lean touches. -/

namespace Sys2Proof.Machine

theorem bindError_keeps {W0 : List Part} {r0 : State} (s : State) (k : Nat) (c : Status) (h_regs : Part.regs ∈ W0) (h0 : Keeps W0 r0 s) :
    Keeps W0 r0 (bindError s k c) := by
  unfold bindError
  repeat' first
    | with_reducible assumption
    | with_reducible apply setF_keeps
    | with_reducible apply incSat_keeps

theorem queueNeeds_keeps {W0 : List Part} {r0 : State} (s : State) (fc : FrameCfg) (layers : List Nat) (cn : Nat) (win : Nat) (given : List (Nat × Nat)) (h_srf : Part.srf ∈ W0) (h_free : Part.free ∈ W0) (h0 : Keeps W0 r0 s) :
    Keeps W0 r0 (queueNeeds s fc layers cn win given) := by
  unfold queueNeeds
  repeat' first
    | with_reducible assumption
    | simp only [Keeps.srf, h_srf]
    | with_reducible apply drawNat_keeps
    | with_reducible apply addNeed_keeps
    | with_reducible apply Keeps.foldl
    | with_reducible refine Keeps.of_snd (by with_reducible assumption) ?_
    | with_reducible refine Keeps.of_snd2 (by with_reducible assumption) ?_
    | split
    | dsimp only
    | intro _

theorem crcNote_keeps {W0 : List Part} {r0 : State} (s : State) (n : Nat) (aborted : Bool) (vals : List (Nat × Nat)) (h_sec : Part.sec ∈ W0) (h0 : Keeps W0 r0 s) :
    Keeps W0 r0 (crcNote s n aborted vals) := by
  unfold crcNote
  repeat' first
    | with_reducible assumption
    | simp only [Keeps.sec, h_sec]
    | split

theorem underrun_keeps {W0 : List Part} {r0 : State} (s : State) (n : Nat) (cause : Nat) (c : Status) (h_regs : Part.regs ∈ W0) (h_hif : Part.hif ∈ W0) (h_srf : Part.srf ∈ W0) (h_drc : Part.drc ∈ W0) (h_chn : Part.chn ∈ W0) (h_cmp : Part.cmp ∈ W0) (h_frt : Part.frt ∈ W0) (h_sec : Part.sec ∈ W0) (h_out : Part.out ∈ W0) (h_free : Part.free ∈ W0) (h0 : Keeps W0 r0 s) :
    Keeps W0 r0 (underrun s n cause c) := by
  unfold underrun
  repeat' first
    | with_reducible assumption
    | simp only [Keeps.chn_cmp_frt, h_chn, h_cmp, h_frt]
    | with_reducible apply setF_keeps
    | with_reducible apply incSat_keeps
    | with_reducible apply sendNow_keeps
    | with_reducible apply yield_keeps
    | with_reducible apply touchNeeds_keeps
    | with_reducible apply crcNote_keeps
    | split

theorem cmpDone_keeps {W0 : List Part} {r0 : State} (s : State) (it : Item) (c : Status) (badidx : Nat) (oframe : Nat) (dead : Bool) (h_regs : Part.regs ∈ W0) (h_hif : Part.hif ∈ W0) (h_queues : Part.queues ∈ W0) (h_sor : Part.sor ∈ W0) (h_ring : Part.ring ∈ W0) (h_out : Part.out ∈ W0) (h0 : Keeps W0 r0 s) :
    Keeps W0 r0 (cmpDone s it c badidx oframe dead) := by
  unfold cmpDone
  repeat' first
    | with_reducible assumption
    | with_reducible apply complete40_keeps

theorem noteSizes_keeps {W0 : List Part} {r0 : State} (s : State) (n : Nat) (h_cmp : Part.cmp ∈ W0) (h0 : Keeps W0 r0 s) :
    Keeps W0 r0 (noteSizes s n) := by
  unfold noteSizes
  repeat' first
    | with_reducible assumption
    | simp only [Keeps.cmp, h_cmp]
    | split

theorem useLoad_keeps {W0 : List Part} {r0 : State} (s : State) (l : Load) (h_cmp : Part.cmp ∈ W0) (h0 : Keeps W0 r0 s) :
    Keeps W0 r0 (useLoad s l) := by
  unfold useLoad
  repeat' first
    | with_reducible assumption
    | simp only [Keeps.cmp, h_cmp]
    | split

theorem installLoad_keeps {W0 : List Part} {r0 : State} (s : State) (l : Load) (c : Status) (oframe : Nat) (h_regs : Part.regs ∈ W0) (h_hif : Part.hif ∈ W0) (h_queues : Part.queues ∈ W0) (h_sor : Part.sor ∈ W0) (h_cmp : Part.cmp ∈ W0) (h_ring : Part.ring ∈ W0) (h_out : Part.out ∈ W0) (h0 : Keeps W0 r0 s) :
    Keeps W0 r0 (installLoad s l c oframe) := by
  unfold installLoad
  repeat' first
    | with_reducible assumption
    | with_reducible apply cmpDone_keeps
    | with_reducible apply useLoad_keeps

theorem acceptLoad_keeps {W0 : List Part} {r0 : State} (s : State) (l : Load) (h_regs : Part.regs ∈ W0) (h_hif : Part.hif ∈ W0) (h_queues : Part.queues ∈ W0) (h_sor : Part.sor ∈ W0) (h_cmp : Part.cmp ∈ W0) (h_ring : Part.ring ∈ W0) (h_out : Part.out ∈ W0) (h0 : Keeps W0 r0 s) :
    Keeps W0 r0 (acceptLoad s l) := by
  unfold acceptLoad
  repeat' first
    | with_reducible assumption
    | simp only [Keeps.cmp, h_cmp]
    | with_reducible apply cmpDone_keeps
    | with_reducible apply installLoad_keeps
    | with_reducible apply Keeps.foldl
    | split
    | dsimp only
    | intro _

theorem cmpEntry_keeps {W0 : List Part} {r0 : State} (s : State) (it : Item) (host : HostRes) (h_regs : Part.regs ∈ W0) (h_hif : Part.hif ∈ W0) (h_queues : Part.queues ∈ W0) (h_sor : Part.sor ∈ W0) (h_srf : Part.srf ∈ W0) (h_drc : Part.drc ∈ W0) (h_chn : Part.chn ∈ W0) (h_cmp : Part.cmp ∈ W0) (h_ring : Part.ring ∈ W0) (h_out : Part.out ∈ W0) (h_free : Part.free ∈ W0) (h0 : Keeps W0 r0 s) :
    Keeps W0 r0 (cmpEntry s it host) := by
  unfold cmpEntry
  repeat' first
    | with_reducible assumption
    | with_reducible apply areaFetch_keeps
    | with_reducible apply cmpDone_keeps
    | with_reducible apply acceptLoad_keeps
    | with_reducible refine Keeps.of_snd (by with_reducible assumption) ?_
    | with_reducible refine Keeps.of_snd2 (by with_reducible assumption) ?_
    | split
    | dsimp only

theorem installDue_keeps {W0 : List Part} {r0 : State} (s : State) (n : Nat) (h_regs : Part.regs ∈ W0) (h_hif : Part.hif ∈ W0) (h_queues : Part.queues ∈ W0) (h_sor : Part.sor ∈ W0) (h_cmp : Part.cmp ∈ W0) (h_ring : Part.ring ∈ W0) (h_out : Part.out ∈ W0) (h0 : Keeps W0 r0 s) :
    Keeps W0 r0 (installDue s n) := by
  unfold installDue
  repeat' first
    | with_reducible assumption
    | simp only [Keeps.cmp, h_cmp]
    | with_reducible apply installLoad_keeps
    | with_reducible apply Keeps.foldl
    | split
    | dsimp only
    | intro _

theorem applyStep_keeps {W0 : List Part} {r0 : State} (s : State) (h_regs : Part.regs ∈ W0) (h0 : Keeps W0 r0 s) :
    Keeps W0 r0 (applyStep s) := by
  unfold applyStep
  repeat' first
    | with_reducible assumption
    | with_reducible apply setF_keeps

theorem showNow_keeps {W0 : List Part} {r0 : State} (s : State) (ramps : List (Nat × Ramp)) (n : Nat) (h_regs : Part.regs ∈ W0) (h0 : Keeps W0 r0 s) :
    Keeps W0 r0 (showNow s ramps n) := by
  unfold showNow
  repeat' first
    | with_reducible assumption
    | with_reducible apply setF_keeps
    | with_reducible apply Keeps.foldl
    | split
    | dsimp only
    | intro _

theorem rasterStart_keeps {W0 : List Part} {r0 : State} (s : State) (q : QFrame) (cn : Nat) (win : Nat) (h_regs : Part.regs ∈ W0) (h_hif : Part.hif ∈ W0) (h_queues : Part.queues ∈ W0) (h_sor : Part.sor ∈ W0) (h_srf : Part.srf ∈ W0) (h_drc : Part.drc ∈ W0) (h_chn : Part.chn ∈ W0) (h_cmp : Part.cmp ∈ W0) (h_sec : Part.sec ∈ W0) (h_ring : Part.ring ∈ W0) (h_out : Part.out ∈ W0) (h_free : Part.free ∈ W0) (h0 : Keeps W0 r0 s) :
    Keeps W0 r0 (rasterStart s q cn win) := by
  unfold rasterStart
  repeat' first
    | with_reducible assumption
    | simp only [Keeps.cmp, h_cmp]
    | with_reducible apply setF_keeps
    | with_reducible apply yield_keeps
    | with_reducible apply engineStart_keeps
    | with_reducible apply prefetchDue_keeps
    | with_reducible apply switchKeys_keeps
    | with_reducible apply bindError_keeps
    | with_reducible apply queueNeeds_keeps
    | with_reducible apply installDue_keeps
    | with_reducible apply applyStep_keeps
    | with_reducible apply showNow_keeps
    | with_reducible apply Keeps.foldl
    | split
    | dsimp only
    | intro _

theorem rasterDeadline_keeps {W0 : List Part} {r0 : State} (s : State) (h_regs : Part.regs ∈ W0) (h_hif : Part.hif ∈ W0) (h_srf : Part.srf ∈ W0) (h_drc : Part.drc ∈ W0) (h_chn : Part.chn ∈ W0) (h_cmp : Part.cmp ∈ W0) (h_frt : Part.frt ∈ W0) (h_sec : Part.sec ∈ W0) (h_out : Part.out ∈ W0) (h_free : Part.free ∈ W0) (h0 : Keeps W0 r0 s) :
    Keeps W0 r0 (rasterDeadline s) := by
  unfold rasterDeadline
  repeat' first
    | with_reducible assumption
    | with_reducible apply underrun_keeps
    | split

theorem frameDone_keeps {W0 : List Part} {r0 : State} (s : State) (h_regs : Part.regs ∈ W0) (h_hif : Part.hif ∈ W0) (h_srf : Part.srf ∈ W0) (h_drc : Part.drc ∈ W0) (h_chn : Part.chn ∈ W0) (h_cmp : Part.cmp ∈ W0) (h_frt : Part.frt ∈ W0) (h_sec : Part.sec ∈ W0) (h_out : Part.out ∈ W0) (h_free : Part.free ∈ W0) (h0 : Keeps W0 r0 s) :
    Keeps W0 r0 (frameDone s) := by
  unfold frameDone
  repeat' first
    | with_reducible assumption
    | simp only [Keeps.cmp, h_cmp]
    | with_reducible apply setF_keeps
    | with_reducible apply incSat_keeps
    | with_reducible apply drawNat_keeps
    | with_reducible apply setTx_keeps
    | with_reducible apply flushPorts_keeps
    | with_reducible apply engineNote_keeps
    | with_reducible apply touchNeeds_keeps
    | with_reducible apply crcNote_keeps
    | with_reducible apply underrun_keeps
    | with_reducible apply rasterDeadline_keeps
    | with_reducible apply Keeps.foldl
    | with_reducible refine Keeps.of_snd (by with_reducible assumption) ?_
    | with_reducible refine Keeps.of_snd2 (by with_reducible assumption) ?_
    | split
    | dsimp only
    | intro _

theorem stopRaster_keeps {W0 : List Part} {r0 : State} (s : State) (h_regs : Part.regs ∈ W0) (h_hif : Part.hif ∈ W0) (h_srf : Part.srf ∈ W0) (h_drc : Part.drc ∈ W0) (h_chn : Part.chn ∈ W0) (h_cmp : Part.cmp ∈ W0) (h_frt : Part.frt ∈ W0) (h_sec : Part.sec ∈ W0) (h_out : Part.out ∈ W0) (h_free : Part.free ∈ W0) (h0 : Keeps W0 r0 s) :
    Keeps W0 r0 (stopRaster s) := by
  unfold stopRaster
  repeat' first
    | with_reducible assumption
    | with_reducible apply underrun_keeps
    | with_reducible apply rasterDeadline_keeps
    | split
    | dsimp only

theorem cmpBlockReset_keeps {W0 : List Part} {r0 : State} (s : State) (h_regs : Part.regs ∈ W0) (h_hif : Part.hif ∈ W0) (h_queues : Part.queues ∈ W0) (h_sor : Part.sor ∈ W0) (h_srf : Part.srf ∈ W0) (h_drc : Part.drc ∈ W0) (h_chn : Part.chn ∈ W0) (h_cmp : Part.cmp ∈ W0) (h_frt : Part.frt ∈ W0) (h_sec : Part.sec ∈ W0) (h_ring : Part.ring ∈ W0) (h_out : Part.out ∈ W0) (h_free : Part.free ∈ W0) (h0 : Keeps W0 r0 s) :
    Keeps W0 r0 (cmpBlockReset s) := by
  unfold cmpBlockReset
  repeat' first
    | with_reducible assumption
    | simp only [Keeps.cmp, h_cmp]
    | with_reducible apply resetRegs_keeps
    | with_reducible apply engineStop_keeps
    | with_reducible apply cmpDone_keeps
    | with_reducible apply stopRaster_keeps
    | with_reducible apply Keeps.foldl
    | split
    | dsimp only
    | intro _

theorem execBookLoad_keeps {W0 : List Part} {r0 : State} (host : HostRes) (s : State) (h_regs : Part.regs ∈ W0) (h_hif : Part.hif ∈ W0) (h_queues : Part.queues ∈ W0) (h_sor : Part.sor ∈ W0) (h_srf : Part.srf ∈ W0) (h_drc : Part.drc ∈ W0) (h_chn : Part.chn ∈ W0) (h_cmp : Part.cmp ∈ W0) (h_ring : Part.ring ∈ W0) (h_out : Part.out ∈ W0) (h_free : Part.free ∈ W0) {t0 : State} (h0 : Keeps W0 r0 s) (ht : execBookLoad host s = .next t0) :
    Keeps W0 r0 t0 := by
  unfold execBookLoad at ht
  apply whenOn_keeps (ht := ht)
  repeat' first
    | with_reducible assumption
    | with_reducible apply onEntryRead_keeps
    | with_reducible apply cmpEntry_keeps
    | split
    | dsimp only
    | intro _

theorem execCurveLoad_keeps {W0 : List Part} {r0 : State} (host : HostRes) (s : State) (h_regs : Part.regs ∈ W0) (h_hif : Part.hif ∈ W0) (h_queues : Part.queues ∈ W0) (h_sor : Part.sor ∈ W0) (h_srf : Part.srf ∈ W0) (h_drc : Part.drc ∈ W0) (h_chn : Part.chn ∈ W0) (h_cmp : Part.cmp ∈ W0) (h_ring : Part.ring ∈ W0) (h_out : Part.out ∈ W0) (h_free : Part.free ∈ W0) {t0 : State} (h0 : Keeps W0 r0 s) (ht : execCurveLoad host s = .next t0) :
    Keeps W0 r0 t0 := by
  unfold execCurveLoad at ht
  apply whenOn_keeps (ht := ht)
  repeat' first
    | with_reducible assumption
    | with_reducible apply onEntryRead_keeps
    | with_reducible apply cmpEntry_keeps
    | split
    | dsimp only
    | intro _

theorem execFilterLoad_keeps {W0 : List Part} {r0 : State} (host : HostRes) (s : State) (h_regs : Part.regs ∈ W0) (h_hif : Part.hif ∈ W0) (h_queues : Part.queues ∈ W0) (h_sor : Part.sor ∈ W0) (h_srf : Part.srf ∈ W0) (h_drc : Part.drc ∈ W0) (h_chn : Part.chn ∈ W0) (h_cmp : Part.cmp ∈ W0) (h_ring : Part.ring ∈ W0) (h_out : Part.out ∈ W0) (h_free : Part.free ∈ W0) {t0 : State} (h0 : Keeps W0 r0 s) (ht : execFilterLoad host s = .next t0) :
    Keeps W0 r0 t0 := by
  unfold execFilterLoad at ht
  apply whenOn_keeps (ht := ht)
  repeat' first
    | with_reducible assumption
    | with_reducible apply onEntryRead_keeps
    | with_reducible apply cmpEntry_keeps
    | split
    | dsimp only
    | intro _

theorem execCmpFrameDone_keeps {W0 : List Part} {r0 : State} (dt : Nat) (s : State) (h_regs : Part.regs ∈ W0) (h_hif : Part.hif ∈ W0) (h_srf : Part.srf ∈ W0) (h_drc : Part.drc ∈ W0) (h_chn : Part.chn ∈ W0) (h_cmp : Part.cmp ∈ W0) (h_frt : Part.frt ∈ W0) (h_sec : Part.sec ∈ W0) (h_time : Part.time ∈ W0) (h_wraps : Part.wraps ∈ W0) (h_up : Part.up ∈ W0) (h_out : Part.out ∈ W0) (h_free : Part.free ∈ W0) {t0 : State} (h0 : Keeps W0 r0 s) (ht : execCmpFrameDone dt s = .next t0) :
    Keeps W0 r0 t0 := by
  unfold execCmpFrameDone at ht
  apply whenOn_keeps (ht := ht)
  repeat' first
    | with_reducible assumption
    | with_reducible apply advance_keeps
    | with_reducible apply frameDone_keeps
    | split
    | dsimp only
    | intro _

end Sys2Proof.Machine
end

