-- ==== Sys2Proof/Laws/KeepFrt.lean ====
section
/-! SUPPORT. What each operation of Machine/Frt.lean touches. -/

namespace Sys2Proof.Machine

theorem dropHold_keeps {W0 : List Part} {r0 : State} (s : State) (h_tan : Part.tan ∈ W0) (h0 : Keeps W0 r0 s) :
    Keeps W0 r0 (dropHold s) := by
  unfold dropHold
  repeat' first
    | with_reducible assumption
    | simp only [Keeps.tan, h_tan]

theorem installMode_keeps {W0 : List Part} {r0 : State} (s : State) (m : Mode) (h_regs : Part.regs ∈ W0) (h_frt : Part.frt ∈ W0) (h_tan : Part.tan ∈ W0) (h0 : Keeps W0 r0 s) :
    Keeps W0 r0 (installMode s m) := by
  unfold installMode
  repeat' first
    | with_reducible assumption
    | simp only [Keeps.frt, h_frt]
    | with_reducible apply setF_keeps
    | with_reducible apply incMod_keeps
    | with_reducible apply dropHold_keeps

theorem frtDone_keeps {W0 : List Part} {r0 : State} (s : State) (it : Item) (c : Status) (frame : Nat) (t : Nat) (dead : Bool) (h_regs : Part.regs ∈ W0) (h_hif : Part.hif ∈ W0) (h_queues : Part.queues ∈ W0) (h_sor : Part.sor ∈ W0) (h_ring : Part.ring ∈ W0) (h_out : Part.out ∈ W0) (h0 : Keeps W0 r0 s) :
    Keeps W0 r0 (frtDone s it c frame t dead) := by
  unfold frtDone
  repeat' first
    | with_reducible assumption
    | with_reducible apply complete40_keeps

theorem sendMode_keeps {W0 : List Part} {r0 : State} (s : State) (aframe : Nat) (capply : Nat) (m : Mode) (h_chn : Part.chn ∈ W0) (h_sec : Part.sec ∈ W0) (h_out : Part.out ∈ W0) (h0 : Keeps W0 r0 s) :
    Keeps W0 r0 (sendMode s aframe capply m) := by
  unfold sendMode
  repeat' first
    | with_reducible assumption
    | with_reducible apply newLid_keeps
    | with_reducible apply sendLetter_keeps

theorem applyValues_keeps {W0 : List Part} {r0 : State} (s : State) (vals : List (Nat × Word)) (last : Nat) (f0 : Option Nat) (h_cmp : Part.cmp ∈ W0) (h0 : Keeps W0 r0 s) :
    Keeps W0 r0 (applyValues s vals last f0) := by
  unfold applyValues
  repeat' first
    | with_reducible assumption
    | simp only [Keeps.cmp, h_cmp]

theorem applyArmed_keeps {W0 : List Part} {r0 : State} (s : State) (last : Nat) (f0 : Option Nat) (oframe : Nat) (tlatch : Nat) (h_regs : Part.regs ∈ W0) (h_hif : Part.hif ∈ W0) (h_queues : Part.queues ∈ W0) (h_sor : Part.sor ∈ W0) (h_cmp : Part.cmp ∈ W0) (h_frt : Part.frt ∈ W0) (h_ring : Part.ring ∈ W0) (h_out : Part.out ∈ W0) (h0 : Keeps W0 r0 s) :
    Keeps W0 r0 (applyArmed s last f0 oframe tlatch) := by
  unfold applyArmed
  repeat' first
    | with_reducible assumption
    | simp only [Keeps.cmp_frt, h_cmp, h_frt]
    | with_reducible apply setF_keeps
    | with_reducible apply frtDone_keeps
    | with_reducible apply applyValues_keeps
    | with_reducible apply Keeps.foldl
    | split
    | dsimp only
    | intro _

theorem latchNext_keeps {W0 : List Part} {r0 : State} (s : State) (m : Mode) (needs : List (Nat × Nat)) (h_regs : Part.regs ∈ W0) (h_hif : Part.hif ∈ W0) (h_queues : Part.queues ∈ W0) (h_sor : Part.sor ∈ W0) (h_srf : Part.srf ∈ W0) (h_drc : Part.drc ∈ W0) (h_chn : Part.chn ∈ W0) (h_cmp : Part.cmp ∈ W0) (h_frt : Part.frt ∈ W0) (h_ring : Part.ring ∈ W0) (h_out : Part.out ∈ W0) (h_free : Part.free ∈ W0) (h0 : Keeps W0 r0 s) :
    Keeps W0 r0 (latchNext s m needs) := by
  unfold latchNext
  repeat' first
    | with_reducible assumption
    | simp only [Keeps.cmp, Keeps.cmp_frt, Keeps.frt, h_cmp, h_frt]
    | with_reducible apply setF_keeps
    | with_reducible apply engineQueue_keeps
    | with_reducible apply prefetchDue_keeps
    | with_reducible apply queueNeeds_keeps
    | with_reducible apply noteSizes_keeps
    | with_reducible apply applyArmed_keeps
    | split

theorem latchInstant_keeps {W0 : List Part} {r0 : State} (s : State) (needs : List (Nat × Nat)) (h_regs : Part.regs ∈ W0) (h_hif : Part.hif ∈ W0) (h_queues : Part.queues ∈ W0) (h_sor : Part.sor ∈ W0) (h_srf : Part.srf ∈ W0) (h_drc : Part.drc ∈ W0) (h_chn : Part.chn ∈ W0) (h_cmp : Part.cmp ∈ W0) (h_frt : Part.frt ∈ W0) (h_ring : Part.ring ∈ W0) (h_out : Part.out ∈ W0) (h_free : Part.free ∈ W0) (h0 : Keeps W0 r0 s) :
    Keeps W0 r0 (latchInstant s needs) := by
  unfold latchInstant
  repeat' first
    | with_reducible assumption
    | with_reducible apply latchNext_keeps
    | split

theorem latchThrough_keeps {W0 : List Part} {r0 : State} (m : Mode) (n : Nat) (h_regs : Part.regs ∈ W0) (h_hif : Part.hif ∈ W0) (h_queues : Part.queues ∈ W0) (h_sor : Part.sor ∈ W0) (h_srf : Part.srf ∈ W0) (h_drc : Part.drc ∈ W0) (h_chn : Part.chn ∈ W0) (h_cmp : Part.cmp ∈ W0) (h_frt : Part.frt ∈ W0) (h_ring : Part.ring ∈ W0) (h_out : Part.out ∈ W0) (h_free : Part.free ∈ W0) (y0 : Nat) (y1 : State)
    (h0 : Keeps W0 r0 y1) :
    Keeps W0 r0 (latchThrough m n y0 y1) := by
  induction y0 generalizing y1 m n with
  | zero =>
    unfold latchThrough
    repeat' first
      | with_reducible assumption
  | succ y0 ih =>
    unfold latchThrough
    repeat' first
      | with_reducible assumption
      | with_reducible apply ih
      | with_reducible apply latchNext_keeps
      | split

theorem latchOverdue_keeps {W0 : List Part} {r0 : State} (h_regs : Part.regs ∈ W0) (h_hif : Part.hif ∈ W0) (h_queues : Part.queues ∈ W0) (h_sor : Part.sor ∈ W0) (h_srf : Part.srf ∈ W0) (h_drc : Part.drc ∈ W0) (h_chn : Part.chn ∈ W0) (h_cmp : Part.cmp ∈ W0) (h_frt : Part.frt ∈ W0) (h_ring : Part.ring ∈ W0) (h_out : Part.out ∈ W0) (h_free : Part.free ∈ W0) (y0 : Nat) (y1 : State)
    (h0 : Keeps W0 r0 y1) :
    Keeps W0 r0 (latchOverdue y0 y1) := by
  induction y0 generalizing y1 with
  | zero =>
    unfold latchOverdue
    repeat' first
      | with_reducible assumption
  | succ y0 ih =>
    unfold latchOverdue
    repeat' first
      | with_reducible assumption
      | with_reducible apply ih
      | with_reducible apply latchNext_keeps
      | split

theorem commit_keeps {W0 : List Part} {r0 : State} (s : State) (it : Option Item) (h_regs : Part.regs ∈ W0) (h_hif : Part.hif ∈ W0) (h_queues : Part.queues ∈ W0) (h_sor : Part.sor ∈ W0) (h_srf : Part.srf ∈ W0) (h_drc : Part.drc ∈ W0) (h_chn : Part.chn ∈ W0) (h_cmp : Part.cmp ∈ W0) (h_frt : Part.frt ∈ W0) (h_ring : Part.ring ∈ W0) (h_out : Part.out ∈ W0) (h_free : Part.free ∈ W0) (h0 : Keeps W0 r0 s) :
    Keeps W0 r0 (commit s it) := by
  unfold commit
  repeat' first
    | with_reducible assumption
    | simp only [Keeps.cmp, Keeps.cmp_frt, h_cmp, h_frt]
    | with_reducible apply setF_keeps
    | with_reducible apply frtDone_keeps
    | with_reducible apply applyValues_keeps
    | with_reducible apply latchOverdue_keeps
    | with_reducible apply Keeps.foldl
    | split

theorem sendBeacon_keeps {W0 : List Part} {r0 : State} (s : State) (h_chn : Part.chn ∈ W0) (h_out : Part.out ∈ W0) (h0 : Keeps W0 r0 s) :
    Keeps W0 r0 (sendBeacon s) := by
  unfold sendBeacon
  repeat' first
    | with_reducible assumption
    | simp only [Keeps.chn, h_chn]
    | with_reducible apply sendNow_keeps
    | split

theorem drainPorts_keeps {W0 : List Part} {r0 : State} (s : State) (slots : List Nat) (h_chn : Part.chn ∈ W0) (h_out : Part.out ∈ W0) (h0 : Keeps W0 r0 s) :
    Keeps W0 r0 (drainPorts s slots) := by
  unfold drainPorts
  repeat' first
    | with_reducible assumption
    | with_reducible apply txRun_keeps
    | with_reducible apply Keeps.foldl
    | split
    | dsimp only
    | intro _

theorem closeFrame_keeps {W0 : List Part} {r0 : State} (s : State) (h_regs : Part.regs ∈ W0) (h_hif : Part.hif ∈ W0) (h_srf : Part.srf ∈ W0) (h_drc : Part.drc ∈ W0) (h_chn : Part.chn ∈ W0) (h_cmp : Part.cmp ∈ W0) (h_frt : Part.frt ∈ W0) (h_sec : Part.sec ∈ W0) (h_out : Part.out ∈ W0) (h_free : Part.free ∈ W0) (h0 : Keeps W0 r0 s) :
    Keeps W0 r0 (closeFrame s) := by
  unfold closeFrame
  repeat' first
    | with_reducible assumption
    | with_reducible apply underrun_keeps
    | split

theorem modeAtCadence_keeps {W0 : List Part} {r0 : State} (s : State) (n : Nat) (cn : Int) (h_regs : Part.regs ∈ W0) (h_hif : Part.hif ∈ W0) (h_queues : Part.queues ∈ W0) (h_sor : Part.sor ∈ W0) (h_frt : Part.frt ∈ W0) (h_tim : Part.tim ∈ W0) (h_tan : Part.tan ∈ W0) (h_ring : Part.ring ∈ W0) (h_out : Part.out ∈ W0) (h0 : Keeps W0 r0 s) :
    Keeps W0 r0 (modeAtCadence s n cn) := by
  unfold modeAtCadence
  repeat' first
    | with_reducible assumption
    | simp only [Keeps.frt, h_frt]
    | with_reducible apply setF_keeps
    | with_reducible apply genProgram_keeps
    | with_reducible apply installMode_keeps
    | with_reducible apply frtDone_keeps
    | split

theorem dropQueued_keeps {W0 : List Part} {r0 : State} (s : State) (n : Nat) (h_regs : Part.regs ∈ W0) (h_hif : Part.hif ∈ W0) (h_queues : Part.queues ∈ W0) (h_sor : Part.sor ∈ W0) (h_srf : Part.srf ∈ W0) (h_frt : Part.frt ∈ W0) (h_ring : Part.ring ∈ W0) (h_out : Part.out ∈ W0) (h0 : Keeps W0 r0 s) :
    Keeps W0 r0 (dropQueued s n) := by
  unfold dropQueued
  repeat' first
    | with_reducible assumption
    | simp only [Keeps.frt, h_frt]
    | with_reducible apply sweepPend_keeps
    | with_reducible apply forgetFrame_keeps
    | with_reducible apply Keeps.foldl
    | split
    | dsimp only
    | intro _

theorem frameStart_keeps {W0 : List Part} {r0 : State} (s : State) (h_lnk : Part.lnk ∈ W0) (h_out : Part.out ∈ W0) (h0 : Keeps W0 r0 s) :
    Keeps W0 r0 (frameStart s) := by
  unfold frameStart
  repeat' first
    | with_reducible assumption
    | simp only [Keeps.lnk, h_lnk]
    | with_reducible apply emitAll_keeps

theorem startRaster_keeps {W0 : List Part} {r0 : State} (s : State) (m : Mode) (n : Nat) (cn : Int) (tr : Bool) (h_regs : Part.regs ∈ W0) (h_hif : Part.hif ∈ W0) (h_queues : Part.queues ∈ W0) (h_sor : Part.sor ∈ W0) (h_srf : Part.srf ∈ W0) (h_drc : Part.drc ∈ W0) (h_chn : Part.chn ∈ W0) (h_cmp : Part.cmp ∈ W0) (h_frt : Part.frt ∈ W0) (h_sec : Part.sec ∈ W0) (h_ring : Part.ring ∈ W0) (h_out : Part.out ∈ W0) (h_free : Part.free ∈ W0) (h0 : Keeps W0 r0 s) :
    Keeps W0 r0 (startRaster s m n cn tr) := by
  unfold startRaster
  repeat' first
    | with_reducible assumption
    | simp only [Keeps.cmp_frt, h_cmp, h_frt]
    | with_reducible apply rasterStart_keeps
    | with_reducible apply dropQueued_keeps
    | split

theorem senderCadence_keeps {W0 : List Part} {r0 : State} (s : State) (slots : List Nat) (h_regs : Part.regs ∈ W0) (h_hif : Part.hif ∈ W0) (h_queues : Part.queues ∈ W0) (h_sor : Part.sor ∈ W0) (h_srf : Part.srf ∈ W0) (h_drc : Part.drc ∈ W0) (h_chn : Part.chn ∈ W0) (h_cmp : Part.cmp ∈ W0) (h_frt : Part.frt ∈ W0) (h_lnk : Part.lnk ∈ W0) (h_tim : Part.tim ∈ W0) (h_tan : Part.tan ∈ W0) (h_sec : Part.sec ∈ W0) (h_ring : Part.ring ∈ W0) (h_out : Part.out ∈ W0) (h_free : Part.free ∈ W0) (h0 : Keeps W0 r0 s) :
    Keeps W0 r0 (senderCadence s slots) := by
  unfold senderCadence
  repeat' first
    | with_reducible assumption
    | with_reducible apply setF_keeps
    | with_reducible apply genFire_keeps
    | with_reducible apply syncPulse_keeps
    | with_reducible apply crcNote_keeps
    | with_reducible apply latchThrough_keeps
    | with_reducible apply sendBeacon_keeps
    | with_reducible apply drainPorts_keeps
    | with_reducible apply closeFrame_keeps
    | with_reducible apply modeAtCadence_keeps
    | with_reducible apply frameStart_keeps
    | with_reducible apply startRaster_keeps
    | split
    | dsimp only

theorem latePageStep_keeps {W0 : List Part} {r0 : State} (s : State) (h_regs : Part.regs ∈ W0) (h_hif : Part.hif ∈ W0) (h_srf : Part.srf ∈ W0) (h_drc : Part.drc ∈ W0) (h_chn : Part.chn ∈ W0) (h_cmp : Part.cmp ∈ W0) (h_frt : Part.frt ∈ W0) (h_sec : Part.sec ∈ W0) (h_out : Part.out ∈ W0) (h_free : Part.free ∈ W0) (h0 : Keeps W0 r0 s) :
    Keeps W0 r0 (latePageStep s) := by
  unfold latePageStep
  repeat' first
    | with_reducible assumption
    | with_reducible apply recordLate_keeps
    | with_reducible apply underrun_keeps
    | split
    | dsimp only

theorem armMove_keeps {W0 : List Part} {r0 : State} (s : State) (h_regs : Part.regs ∈ W0) (h_hif : Part.hif ∈ W0) (h_chn : Part.chn ∈ W0) (h_upd : Part.upd ∈ W0) (h_out : Part.out ∈ W0) (h0 : Keeps W0 r0 s) :
    Keeps W0 r0 (armMove s) := by
  unfold armMove
  repeat' first
    | with_reducible assumption
    | simp only [Keeps.upd, h_upd]
    | with_reducible apply setF_keeps
    | with_reducible apply yield_keeps
    | split

theorem acceptMode_keeps {W0 : List Part} {r0 : State} (s : State) (it : Item) (h_regs : Part.regs ∈ W0) (h_hif : Part.hif ∈ W0) (h_queues : Part.queues ∈ W0) (h_sor : Part.sor ∈ W0) (h_chn : Part.chn ∈ W0) (h_frt : Part.frt ∈ W0) (h_tan : Part.tan ∈ W0) (h_sec : Part.sec ∈ W0) (h_upd : Part.upd ∈ W0) (h_ring : Part.ring ∈ W0) (h_out : Part.out ∈ W0) (h0 : Keeps W0 r0 s) :
    Keeps W0 r0 (acceptMode s it) := by
  unfold acceptMode
  repeat' first
    | with_reducible assumption
    | simp only [Keeps.frt, h_frt]
    | with_reducible apply setF_keeps
    | with_reducible apply installMode_keeps
    | with_reducible apply frtDone_keeps
    | with_reducible apply sendMode_keeps
    | with_reducible apply armMove_keeps
    | split

theorem frtEntry_keeps {W0 : List Part} {r0 : State} (s : State) (it : Item) (h_regs : Part.regs ∈ W0) (h_hif : Part.hif ∈ W0) (h_queues : Part.queues ∈ W0) (h_sor : Part.sor ∈ W0) (h_srf : Part.srf ∈ W0) (h_drc : Part.drc ∈ W0) (h_chn : Part.chn ∈ W0) (h_cmp : Part.cmp ∈ W0) (h_frt : Part.frt ∈ W0) (h_tan : Part.tan ∈ W0) (h_sec : Part.sec ∈ W0) (h_upd : Part.upd ∈ W0) (h_ring : Part.ring ∈ W0) (h_out : Part.out ∈ W0) (h_free : Part.free ∈ W0) (h0 : Keeps W0 r0 s) :
    Keeps W0 r0 (frtEntry s it) := by
  unfold frtEntry
  repeat' first
    | with_reducible assumption
    | with_reducible apply frtDone_keeps
    | with_reducible apply commit_keeps
    | with_reducible apply acceptMode_keeps
    | split

theorem frtEnable_keeps {W0 : List Part} {r0 : State} (s : State) (h_regs : Part.regs ∈ W0) (h_chn : Part.chn ∈ W0) (h_frt : Part.frt ∈ W0) (h_tim : Part.tim ∈ W0) (h_sec : Part.sec ∈ W0) (h_out : Part.out ∈ W0) (h0 : Keeps W0 r0 s) :
    Keeps W0 r0 (frtEnable s) := by
  unfold frtEnable
  repeat' first
    | with_reducible assumption
    | simp only [Keeps.frt, h_frt]
    | with_reducible apply setF_keeps
    | with_reducible apply genProgram_keeps
    | with_reducible apply genTake_keeps
    | with_reducible apply sendMode_keeps
    | split

theorem frtDisable_keeps {W0 : List Part} {r0 : State} (s : State) (h_regs : Part.regs ∈ W0) (h_hif : Part.hif ∈ W0) (h_queues : Part.queues ∈ W0) (h_sor : Part.sor ∈ W0) (h_srf : Part.srf ∈ W0) (h_chn : Part.chn ∈ W0) (h_cmp : Part.cmp ∈ W0) (h_frt : Part.frt ∈ W0) (h_tim : Part.tim ∈ W0) (h_tan : Part.tan ∈ W0) (h_ring : Part.ring ∈ W0) (h_out : Part.out ∈ W0) (h0 : Keeps W0 r0 s) :
    Keeps W0 r0 (frtDisable s) := by
  unfold frtDisable
  repeat' first
    | with_reducible assumption
    | simp only [Keeps.frt, h_frt]
    | with_reducible apply setF_keeps
    | with_reducible apply flushPorts_keeps
    | with_reducible apply engineStop_keeps
    | with_reducible apply genRelease_keeps
    | with_reducible apply dropHold_keeps
    | with_reducible apply installMode_keeps
    | with_reducible apply frtDone_keeps
    | with_reducible apply applyArmed_keeps
    | split

theorem frtBlockReset_keeps {W0 : List Part} {r0 : State} (s : State) (h_regs : Part.regs ∈ W0) (h_hif : Part.hif ∈ W0) (h_queues : Part.queues ∈ W0) (h_sor : Part.sor ∈ W0) (h_srf : Part.srf ∈ W0) (h_drc : Part.drc ∈ W0) (h_chn : Part.chn ∈ W0) (h_cmp : Part.cmp ∈ W0) (h_frt : Part.frt ∈ W0) (h_tim : Part.tim ∈ W0) (h_tan : Part.tan ∈ W0) (h_sec : Part.sec ∈ W0) (h_ring : Part.ring ∈ W0) (h_out : Part.out ∈ W0) (h_free : Part.free ∈ W0) (h0 : Keeps W0 r0 s) :
    Keeps W0 r0 (frtBlockReset s) := by
  unfold frtBlockReset
  repeat' first
    | with_reducible assumption
    | simp only [Keeps.cmp_frt, h_cmp, h_frt]
    | with_reducible apply resetRegs_keeps
    | with_reducible apply flushPorts_keeps
    | with_reducible apply engineStop_keeps
    | with_reducible apply genRelease_keeps
    | with_reducible apply stopRaster_keeps
    | with_reducible apply dropHold_keeps
    | with_reducible apply frtDone_keeps
    | with_reducible apply Keeps.foldl
    | split
    | dsimp only
    | intro _

theorem execLatePage_keeps {W0 : List Part} {r0 : State} (dt : Nat) (s : State) (h_regs : Part.regs ∈ W0) (h_hif : Part.hif ∈ W0) (h_srf : Part.srf ∈ W0) (h_drc : Part.drc ∈ W0) (h_chn : Part.chn ∈ W0) (h_cmp : Part.cmp ∈ W0) (h_frt : Part.frt ∈ W0) (h_sec : Part.sec ∈ W0) (h_time : Part.time ∈ W0) (h_wraps : Part.wraps ∈ W0) (h_up : Part.up ∈ W0) (h_out : Part.out ∈ W0) (h_free : Part.free ∈ W0) {t0 : State} (h0 : Keeps W0 r0 s) (ht : execLatePage dt s = .next t0) :
    Keeps W0 r0 t0 := by
  unfold execLatePage at ht
  apply whenOn_keeps (ht := ht)
  repeat' first
    | with_reducible assumption
    | with_reducible apply advance_keeps
    | with_reducible apply latePageStep_keeps
    | split
    | dsimp only
    | intro _

theorem execRasterDeadline_keeps {W0 : List Part} {r0 : State} (dt : Nat) (s : State) (h_regs : Part.regs ∈ W0) (h_hif : Part.hif ∈ W0) (h_srf : Part.srf ∈ W0) (h_drc : Part.drc ∈ W0) (h_chn : Part.chn ∈ W0) (h_cmp : Part.cmp ∈ W0) (h_frt : Part.frt ∈ W0) (h_sec : Part.sec ∈ W0) (h_time : Part.time ∈ W0) (h_wraps : Part.wraps ∈ W0) (h_up : Part.up ∈ W0) (h_out : Part.out ∈ W0) (h_free : Part.free ∈ W0) {t0 : State} (h0 : Keeps W0 r0 s) (ht : execRasterDeadline dt s = .next t0) :
    Keeps W0 r0 t0 := by
  unfold execRasterDeadline at ht
  apply whenOn_keeps (ht := ht)
  repeat' first
    | with_reducible assumption
    | with_reducible apply advance_keeps
    | with_reducible apply rasterDeadline_keeps
    | split
    | dsimp only
    | intro _

theorem execLatchInstant_keeps {W0 : List Part} {r0 : State} (dt : Nat) (needs : List (Nat × Nat)) (s : State) (h_regs : Part.regs ∈ W0) (h_hif : Part.hif ∈ W0) (h_queues : Part.queues ∈ W0) (h_sor : Part.sor ∈ W0) (h_srf : Part.srf ∈ W0) (h_drc : Part.drc ∈ W0) (h_chn : Part.chn ∈ W0) (h_cmp : Part.cmp ∈ W0) (h_frt : Part.frt ∈ W0) (h_ring : Part.ring ∈ W0) (h_time : Part.time ∈ W0) (h_wraps : Part.wraps ∈ W0) (h_up : Part.up ∈ W0) (h_out : Part.out ∈ W0) (h_free : Part.free ∈ W0) {t0 : State} (h0 : Keeps W0 r0 s) (ht : execLatchInstant dt needs s = .next t0) :
    Keeps W0 r0 t0 := by
  unfold execLatchInstant at ht
  apply whenOn_keeps (ht := ht)
  repeat' first
    | with_reducible assumption
    | with_reducible apply advance_keeps
    | with_reducible apply latchInstant_keeps
    | split
    | dsimp only
    | intro _

theorem execCommitEntry_keeps {W0 : List Part} {r0 : State} (s : State) (h_regs : Part.regs ∈ W0) (h_hif : Part.hif ∈ W0) (h_queues : Part.queues ∈ W0) (h_sor : Part.sor ∈ W0) (h_srf : Part.srf ∈ W0) (h_drc : Part.drc ∈ W0) (h_chn : Part.chn ∈ W0) (h_cmp : Part.cmp ∈ W0) (h_frt : Part.frt ∈ W0) (h_tan : Part.tan ∈ W0) (h_sec : Part.sec ∈ W0) (h_upd : Part.upd ∈ W0) (h_ring : Part.ring ∈ W0) (h_out : Part.out ∈ W0) (h_free : Part.free ∈ W0) {t0 : State} (h0 : Keeps W0 r0 s) (ht : execCommitEntry s = .next t0) :
    Keeps W0 r0 t0 := by
  unfold execCommitEntry at ht
  apply whenOn_keeps (ht := ht)
  repeat' first
    | with_reducible assumption
    | with_reducible apply onEntry_keeps
    | with_reducible apply frtEntry_keeps
    | split
    | dsimp only
    | intro _

theorem execModeEntry_keeps {W0 : List Part} {r0 : State} (s : State) (h_regs : Part.regs ∈ W0) (h_hif : Part.hif ∈ W0) (h_queues : Part.queues ∈ W0) (h_sor : Part.sor ∈ W0) (h_srf : Part.srf ∈ W0) (h_drc : Part.drc ∈ W0) (h_chn : Part.chn ∈ W0) (h_cmp : Part.cmp ∈ W0) (h_frt : Part.frt ∈ W0) (h_tan : Part.tan ∈ W0) (h_sec : Part.sec ∈ W0) (h_upd : Part.upd ∈ W0) (h_ring : Part.ring ∈ W0) (h_out : Part.out ∈ W0) (h_free : Part.free ∈ W0) {t0 : State} (h0 : Keeps W0 r0 s) (ht : execModeEntry s = .next t0) :
    Keeps W0 r0 t0 := by
  unfold execModeEntry at ht
  apply whenOn_keeps (ht := ht)
  repeat' first
    | with_reducible assumption
    | with_reducible apply onEntry_keeps
    | with_reducible apply frtEntry_keeps
    | split
    | dsimp only
    | intro _

end Sys2Proof.Machine
end

