-- ==== Sys2Proof/Laws/KeepTan.lean ====
section
/-! SUPPORT. What each operation of Machine/Tan.lean touches. -/

namespace Sys2Proof.Machine

theorem tanChoose_keeps {W0 : List Part} {r0 : State} (s : State) (n : Nat) (h_regs : Part.regs ∈ W0) (h_hif : Part.hif ∈ W0) (h_chn : Part.chn ∈ W0) (h_tan : Part.tan ∈ W0) (h_out : Part.out ∈ W0) (h0 : Keeps W0 r0 s) :
    Keeps W0 r0 (tanChoose s n) := by
  unfold tanChoose
  repeat' first
    | with_reducible assumption
    | simp only [Keeps.tan, h_tan]
    | with_reducible apply setF_keeps
    | with_reducible apply incSat_keeps
    | with_reducible apply raise_keeps
    | with_reducible refine Keeps.of_snd (by with_reducible assumption) ?_
    | with_reducible refine Keeps.of_snd2 (by with_reducible assumption) ?_
    | split

theorem tanRechoose_keeps {W0 : List Part} {r0 : State} (s : State) (h_regs : Part.regs ∈ W0) (h_hif : Part.hif ∈ W0) (h_chn : Part.chn ∈ W0) (h_tan : Part.tan ∈ W0) (h_out : Part.out ∈ W0) (h0 : Keeps W0 r0 s) :
    Keeps W0 r0 (tanRechoose s) := by
  unfold tanRechoose
  repeat' first
    | with_reducible assumption
    | with_reducible apply tanChoose_keeps
    | split

theorem tanDead_keeps {W0 : List Part} {r0 : State} (s : State) (p : Nat) (h_regs : Part.regs ∈ W0) (h_hif : Part.hif ∈ W0) (h_chn : Part.chn ∈ W0) (h_tan : Part.tan ∈ W0) (h_out : Part.out ∈ W0) (h0 : Keeps W0 r0 s) :
    Keeps W0 r0 (tanDead s p) := by
  unfold tanDead
  repeat' first
    | with_reducible assumption
    | with_reducible apply setF_keeps
    | with_reducible apply tanRechoose_keeps
    | split

theorem beaconTile_keeps {W0 : List Part} {r0 : State} (s : State) (x : RxCell) (h_regs : Part.regs ∈ W0) (h_hif : Part.hif ∈ W0) (h_chn : Part.chn ∈ W0) (h_tan : Part.tan ∈ W0) (h_out : Part.out ∈ W0) (h0 : Keeps W0 r0 s) :
    Keeps W0 r0 (beaconTile s x) := by
  unfold beaconTile
  repeat' first
    | with_reducible assumption
    | simp only [Keeps.tan, h_tan]
    | with_reducible apply setF_keeps
    | with_reducible apply tanRechoose_keeps
    | with_reducible apply tanDead_keeps
    | split

theorem takeBeacons_keeps {W0 : List Part} {r0 : State} (s : State) (e : Nat) (f : State → RxCell → State) (h_chn : Part.chn ∈ W0) (h_f : ∀ (x0 : State) (x1 : RxCell), Keeps W0 r0 x0 → Keeps W0 r0 (f x0 x1)) (h0 : Keeps W0 r0 s) :
    Keeps W0 r0 (takeBeacons s e f) := by
  unfold takeBeacons
  repeat' first
    | with_reducible assumption
    | simp only [Keeps.chn, h_chn]
    | with_reducible apply h_f
    | with_reducible apply Keeps.foldl

theorem tanChooseFrame_keeps {W0 : List Part} {r0 : State} (s : State) (n : Nat) (e : Nat) (h_regs : Part.regs ∈ W0) (h_hif : Part.hif ∈ W0) (h_chn : Part.chn ∈ W0) (h_tan : Part.tan ∈ W0) (h_out : Part.out ∈ W0) (h0 : Keeps W0 r0 s) :
    Keeps W0 r0 (tanChooseFrame s n e) := by
  unfold tanChooseFrame
  repeat' first
    | with_reducible assumption
    | with_reducible apply incSat_keeps
    | with_reducible apply tanChoose_keeps
    | with_reducible apply beaconTile_keeps
    | with_reducible apply takeBeacons_keeps
    | split
    | dsimp only
    | intro _

theorem claimExpiry_keeps {W0 : List Part} {r0 : State} (s : State) (p : Nat) (h_regs : Part.regs ∈ W0) (h_hif : Part.hif ∈ W0) (h_chn : Part.chn ∈ W0) (h_tan : Part.tan ∈ W0) (h_out : Part.out ∈ W0) (h0 : Keeps W0 r0 s) :
    Keeps W0 r0 (claimExpiry s p) := by
  unfold claimExpiry
  repeat' first
    | with_reducible assumption
    | with_reducible apply tanDead_keeps
    | split

theorem holdCheck_keeps {W0 : List Part} {r0 : State} (s : State) (h_tan : Part.tan ∈ W0) (h0 : Keeps W0 r0 s) :
    Keeps W0 r0 (holdCheck s) := by
  unfold holdCheck
  repeat' first
    | with_reducible assumption
    | with_reducible apply dropHold_keeps
    | split

theorem snapShow_keeps {W0 : List Part} {r0 : State} (s : State) (h_regs : Part.regs ∈ W0) (h_tan : Part.tan ∈ W0) (h0 : Keeps W0 r0 s) :
    Keeps W0 r0 (snapShow s) := by
  unfold snapShow
  repeat' first
    | with_reducible assumption
    | with_reducible apply setF_keeps
    | with_reducible apply holdCheck_keeps

theorem tanEvent_keeps {W0 : List Part} {r0 : State} (s : State) (h_regs : Part.regs ∈ W0) (h_hif : Part.hif ∈ W0) (h_chn : Part.chn ∈ W0) (h_out : Part.out ∈ W0) (h0 : Keeps W0 r0 s) :
    Keeps W0 r0 (tanEvent s) := by
  unfold tanEvent
  repeat' first
    | with_reducible assumption
    | with_reducible apply raise_keeps

theorem snapDone_keeps {W0 : List Part} {r0 : State} (s : State) (it : Item) (c : Status) (gen : Nat) (npart : Nat) (h_regs : Part.regs ∈ W0) (h_hif : Part.hif ∈ W0) (h_queues : Part.queues ∈ W0) (h_sor : Part.sor ∈ W0) (h_ring : Part.ring ∈ W0) (h_out : Part.out ∈ W0) (h0 : Keeps W0 r0 s) :
    Keeps W0 r0 (snapDone s it c gen npart) := by
  unfold snapDone
  repeat' first
    | with_reducible assumption
    | with_reducible apply complete40_keeps

theorem snapsAbort_keeps {W0 : List Part} {r0 : State} (s : State) (h_regs : Part.regs ∈ W0) (h_hif : Part.hif ∈ W0) (h_queues : Part.queues ∈ W0) (h_sor : Part.sor ∈ W0) (h_chn : Part.chn ∈ W0) (h_tan : Part.tan ∈ W0) (h_ring : Part.ring ∈ W0) (h_out : Part.out ∈ W0) (h0 : Keeps W0 r0 s) :
    Keeps W0 r0 (snapsAbort s) := by
  unfold snapsAbort
  repeat' first
    | with_reducible assumption
    | simp only [Keeps.chn_tan, h_chn, h_tan]
    | with_reducible apply snapDone_keeps
    | with_reducible apply Keeps.foldl
    | split
    | dsimp only
    | intro _

theorem setTan_keeps {W0 : List Part} {r0 : State} (s : State) (st : Nat) (epoch : Nat) (h_regs : Part.regs ∈ W0) (h_hif : Part.hif ∈ W0) (h_queues : Part.queues ∈ W0) (h_sor : Part.sor ∈ W0) (h_chn : Part.chn ∈ W0) (h_tan : Part.tan ∈ W0) (h_ring : Part.ring ∈ W0) (h_out : Part.out ∈ W0) (h0 : Keeps W0 r0 s) :
    Keeps W0 r0 (setTan s st epoch) := by
  unfold setTan
  repeat' first
    | with_reducible assumption
    | with_reducible apply setF_keeps
    | with_reducible apply tanEvent_keeps
    | with_reducible apply snapsAbort_keeps
    | split
    | dsimp only

theorem takeover_keeps {W0 : List Part} {r0 : State} (s : State) (h_regs : Part.regs ∈ W0) (h_hif : Part.hif ∈ W0) (h_queues : Part.queues ∈ W0) (h_sor : Part.sor ∈ W0) (h_chn : Part.chn ∈ W0) (h_tan : Part.tan ∈ W0) (h_ring : Part.ring ∈ W0) (h_out : Part.out ∈ W0) (h0 : Keeps W0 r0 s) :
    Keeps W0 r0 (takeover s) := by
  unfold takeover
  repeat' first
    | with_reducible assumption
    | simp only [Keeps.tan, h_tan]
    | with_reducible apply incSat_keeps
    | with_reducible apply snapShow_keeps
    | with_reducible apply setTan_keeps

theorem tanEnable_keeps {W0 : List Part} {r0 : State} (s : State) (h_regs : Part.regs ∈ W0) (h_hif : Part.hif ∈ W0) (h_queues : Part.queues ∈ W0) (h_sor : Part.sor ∈ W0) (h_chn : Part.chn ∈ W0) (h_tim : Part.tim ∈ W0) (h_tan : Part.tan ∈ W0) (h_ring : Part.ring ∈ W0) (h_out : Part.out ∈ W0) (h0 : Keeps W0 r0 s) :
    Keeps W0 r0 (tanEnable s) := by
  unfold tanEnable
  repeat' first
    | with_reducible assumption
    | simp only [Keeps.tan, h_tan]
    | with_reducible apply setF_keeps
    | with_reducible apply genTake_keeps
    | with_reducible apply setTan_keeps

theorem tanDisable_keeps {W0 : List Part} {r0 : State} (s : State) (h_regs : Part.regs ∈ W0) (h_hif : Part.hif ∈ W0) (h_queues : Part.queues ∈ W0) (h_sor : Part.sor ∈ W0) (h_chn : Part.chn ∈ W0) (h_tim : Part.tim ∈ W0) (h_tan : Part.tan ∈ W0) (h_ring : Part.ring ∈ W0) (h_out : Part.out ∈ W0) (h0 : Keeps W0 r0 s) :
    Keeps W0 r0 (tanDisable s) := by
  unfold tanDisable
  repeat' first
    | with_reducible assumption
    | with_reducible apply setF_keeps
    | with_reducible apply genRelease_keeps
    | with_reducible apply dropHold_keeps
    | with_reducible apply setTan_keeps

theorem hear_keeps {W0 : List Part} {r0 : State} (s : State) (h : Heard) (h_regs : Part.regs ∈ W0) (h_tan : Part.tan ∈ W0) (h0 : Keeps W0 r0 s) :
    Keeps W0 r0 (hear s h) := by
  unfold hear
  repeat' first
    | with_reducible assumption
    | simp only [Keeps.tan, h_tan]
    | with_reducible apply setBitF_keeps
    | split

theorem peerBeacon_keeps {W0 : List Part} {r0 : State} (s : State) (x : RxCell) (h_regs : Part.regs ∈ W0) (h_hif : Part.hif ∈ W0) (h_queues : Part.queues ∈ W0) (h_sor : Part.sor ∈ W0) (h_chn : Part.chn ∈ W0) (h_tan : Part.tan ∈ W0) (h_ring : Part.ring ∈ W0) (h_out : Part.out ∈ W0) (h0 : Keeps W0 r0 s) :
    Keeps W0 r0 (peerBeacon s x) := by
  unfold peerBeacon
  repeat' first
    | with_reducible assumption
    | with_reducible apply setF_keeps
    | with_reducible apply tanEvent_keeps
    | with_reducible apply setTan_keeps
    | with_reducible apply hear_keeps
    | split
    | dsimp only

theorem heartbeatWindow_keeps {W0 : List Part} {r0 : State} (s : State) (e : Nat) (h_regs : Part.regs ∈ W0) (h_hif : Part.hif ∈ W0) (h_queues : Part.queues ∈ W0) (h_sor : Part.sor ∈ W0) (h_chn : Part.chn ∈ W0) (h_tan : Part.tan ∈ W0) (h_ring : Part.ring ∈ W0) (h_out : Part.out ∈ W0) (h0 : Keeps W0 r0 s) :
    Keeps W0 r0 (heartbeatWindow s e) := by
  unfold heartbeatWindow
  repeat' first
    | with_reducible assumption
    | simp only [Keeps.tan, h_tan]
    | with_reducible apply setF_keeps
    | with_reducible apply takeover_keeps
    | split

theorem snapSettle_keeps {W0 : List Part} {r0 : State} (s : State) (h_regs : Part.regs ∈ W0) (h_hif : Part.hif ∈ W0) (h_queues : Part.queues ∈ W0) (h_sor : Part.sor ∈ W0) (h_tan : Part.tan ∈ W0) (h_ring : Part.ring ∈ W0) (h_out : Part.out ∈ W0) (h0 : Keeps W0 r0 s) :
    Keeps W0 r0 (snapSettle s) := by
  unfold snapSettle
  repeat' first
    | with_reducible assumption
    | simp only [Keeps.tan, h_tan]
    | with_reducible apply snapDone_keeps
    | with_reducible apply Keeps.foldl
    | split
    | dsimp only
    | intro _

theorem heartbeat_keeps {W0 : List Part} {r0 : State} (s : State) (h_regs : Part.regs ∈ W0) (h_hif : Part.hif ∈ W0) (h_queues : Part.queues ∈ W0) (h_sor : Part.sor ∈ W0) (h_chn : Part.chn ∈ W0) (h_tim : Part.tim ∈ W0) (h_tan : Part.tan ∈ W0) (h_ring : Part.ring ∈ W0) (h_out : Part.out ∈ W0) (h0 : Keeps W0 r0 s) :
    Keeps W0 r0 (heartbeat s) := by
  unfold heartbeat
  repeat' first
    | with_reducible assumption
    | simp only [Keeps.tan, h_tan]
    | with_reducible apply genFire_keeps
    | with_reducible apply syncPulse_keeps
    | with_reducible apply sendBeacon_keeps
    | with_reducible apply takeBeacons_keeps
    | with_reducible apply peerBeacon_keeps
    | with_reducible apply heartbeatWindow_keeps
    | with_reducible apply snapSettle_keeps
    | split
    | dsimp only
    | intro _

theorem revertExpiry_keeps {W0 : List Part} {r0 : State} (s : State) (h_regs : Part.regs ∈ W0) (h_hif : Part.hif ∈ W0) (h_queues : Part.queues ∈ W0) (h_sor : Part.sor ∈ W0) (h_chn : Part.chn ∈ W0) (h_tan : Part.tan ∈ W0) (h_ring : Part.ring ∈ W0) (h_out : Part.out ∈ W0) (h0 : Keeps W0 r0 s) :
    Keeps W0 r0 (revertExpiry s) := by
  unfold revertExpiry
  repeat' first
    | with_reducible assumption
    | with_reducible apply takeover_keeps
    | split

theorem renum_keeps {W0 : List Part} {r0 : State} (s : State) (x : Nat) (h_regs : Part.regs ∈ W0) (h_hif : Part.hif ∈ W0) (h_queues : Part.queues ∈ W0) (h_sor : Part.sor ∈ W0) (h_chn : Part.chn ∈ W0) (h_tan : Part.tan ∈ W0) (h_ring : Part.ring ∈ W0) (h_out : Part.out ∈ W0) (h0 : Keeps W0 r0 s) :
    Keeps W0 r0 (renum s x) := by
  unfold renum
  repeat' first
    | with_reducible assumption
    | with_reducible apply setTan_keeps

theorem snapEntry_keeps {W0 : List Part} {r0 : State} (s : State) (it : Item) (host : HostRes) (h_regs : Part.regs ∈ W0) (h_hif : Part.hif ∈ W0) (h_queues : Part.queues ∈ W0) (h_sor : Part.sor ∈ W0) (h_srf : Part.srf ∈ W0) (h_drc : Part.drc ∈ W0) (h_chn : Part.chn ∈ W0) (h_tan : Part.tan ∈ W0) (h_sec : Part.sec ∈ W0) (h_ring : Part.ring ∈ W0) (h_out : Part.out ∈ W0) (h_free : Part.free ∈ W0) (h0 : Keeps W0 r0 s) :
    Keeps W0 r0 (snapEntry s it host) := by
  unfold snapEntry
  repeat' first
    | with_reducible assumption
    | simp only [Keeps.tan, h_tan]
    | with_reducible apply setF_keeps
    | with_reducible apply newLid_keeps
    | with_reducible apply areaFetch_keeps
    | with_reducible apply sendLetter_keeps
    | with_reducible apply snapShow_keeps
    | with_reducible apply snapDone_keeps
    | with_reducible apply snapSettle_keeps
    | with_reducible apply Keeps.foldl
    | with_reducible refine Keeps.of_snd (by with_reducible assumption) ?_
    | with_reducible refine Keeps.of_snd2 (by with_reducible assumption) ?_
    | split
    | dsimp only
    | intro _

theorem commitRepeat_keeps {W0 : List Part} {r0 : State} (s : State) (h_chn : Part.chn ∈ W0) (h_tan : Part.tan ∈ W0) (h_sec : Part.sec ∈ W0) (h_out : Part.out ∈ W0) (h0 : Keeps W0 r0 s) :
    Keeps W0 r0 (commitRepeat s) := by
  unfold commitRepeat
  repeat' first
    | with_reducible assumption
    | simp only [Keeps.tan, h_tan]
    | with_reducible apply newLid_keeps
    | with_reducible apply sendLetter_keeps
    | with_reducible refine Keeps.of_snd (by with_reducible assumption) ?_
    | with_reducible refine Keeps.of_snd2 (by with_reducible assumption) ?_
    | split

theorem snapFail_keeps {W0 : List Part} {r0 : State} (s : State) (gen : Nat) (c : Status) (h_regs : Part.regs ∈ W0) (h_hif : Part.hif ∈ W0) (h_chn : Part.chn ∈ W0) (h_tan : Part.tan ∈ W0) (h_out : Part.out ∈ W0) (h0 : Keeps W0 r0 s) :
    Keeps W0 r0 (snapFail s gen c) := by
  unfold snapFail
  repeat' first
    | with_reducible assumption
    | simp only [Keeps.tan, h_tan]
    | with_reducible apply incSat_keeps
    | with_reducible apply raise_keeps
    | with_reducible apply snapShow_keeps

theorem snapSeen_keeps {W0 : List Part} {r0 : State} (s : State) (gen : Nat) (h_regs : Part.regs ∈ W0) (h_tan : Part.tan ∈ W0) (h0 : Keeps W0 r0 s) :
    Keeps W0 r0 (snapSeen s gen) := by
  unfold snapSeen
  repeat' first
    | with_reducible assumption
    | with_reducible apply setF_keeps
    | with_reducible apply snapShow_keeps
    | split

theorem tryCommit_keeps {W0 : List Part} {r0 : State} (s : State) (host : HostRes) (h_regs : Part.regs ∈ W0) (h_hif : Part.hif ∈ W0) (h_queues : Part.queues ∈ W0) (h_sor : Part.sor ∈ W0) (h_srf : Part.srf ∈ W0) (h_drc : Part.drc ∈ W0) (h_chn : Part.chn ∈ W0) (h_cmp : Part.cmp ∈ W0) (h_frt : Part.frt ∈ W0) (h_tan : Part.tan ∈ W0) (h_ring : Part.ring ∈ W0) (h_out : Part.out ∈ W0) (h_free : Part.free ∈ W0) (h0 : Keeps W0 r0 s) :
    Keeps W0 r0 (tryCommit s host) := by
  unfold tryCommit
  repeat' first
    | with_reducible assumption
    | simp only [Keeps.tan, h_tan]
    | with_reducible apply setF_keeps
    | with_reducible apply raise_keeps
    | with_reducible apply svcFetch_keeps
    | with_reducible apply commit_keeps
    | with_reducible apply snapShow_keeps
    | with_reducible apply snapFail_keeps
    | with_reducible refine Keeps.of_snd (by with_reducible assumption) ?_
    | with_reducible refine Keeps.of_snd2 (by with_reducible assumption) ?_
    | split

theorem storePart_keeps {W0 : List Part} {r0 : State} (s : State) (x : Surf) (g : Staging) (part : Nat) (data : Bytes) (h_regs : Part.regs ∈ W0) (h_hif : Part.hif ∈ W0) (h_srf : Part.srf ∈ W0) (h_drc : Part.drc ∈ W0) (h_chn : Part.chn ∈ W0) (h_tan : Part.tan ∈ W0) (h_dram : Part.dram ∈ W0) (h_out : Part.out ∈ W0) (h_free : Part.free ∈ W0) (h0 : Keeps W0 r0 s) :
    Keeps W0 r0 (storePart s x g part data) := by
  unfold storePart
  repeat' first
    | with_reducible assumption
    | simp only [Keeps.tan, h_tan]
    | with_reducible apply svcWrite_keeps
    | with_reducible apply snapShow_keeps

theorem takePart_keeps {W0 : List Part} {r0 : State} (s : State) (c : Bytes) (host : HostRes) (h_regs : Part.regs ∈ W0) (h_hif : Part.hif ∈ W0) (h_queues : Part.queues ∈ W0) (h_sor : Part.sor ∈ W0) (h_srf : Part.srf ∈ W0) (h_drc : Part.drc ∈ W0) (h_chn : Part.chn ∈ W0) (h_cmp : Part.cmp ∈ W0) (h_frt : Part.frt ∈ W0) (h_tan : Part.tan ∈ W0) (h_dram : Part.dram ∈ W0) (h_ring : Part.ring ∈ W0) (h_out : Part.out ∈ W0) (h_free : Part.free ∈ W0) (h0 : Keeps W0 r0 s) :
    Keeps W0 r0 (takePart s c host) := by
  unfold takePart
  repeat' first
    | with_reducible assumption
    | with_reducible apply snapFail_keeps
    | with_reducible apply tryCommit_keeps
    | with_reducible apply storePart_keeps
    | split
    | dsimp only

theorem snapPart_keeps {W0 : List Part} {r0 : State} (s : State) (l : Letter) (host : HostRes) (h_regs : Part.regs ∈ W0) (h_hif : Part.hif ∈ W0) (h_queues : Part.queues ∈ W0) (h_sor : Part.sor ∈ W0) (h_srf : Part.srf ∈ W0) (h_drc : Part.drc ∈ W0) (h_chn : Part.chn ∈ W0) (h_cmp : Part.cmp ∈ W0) (h_frt : Part.frt ∈ W0) (h_tan : Part.tan ∈ W0) (h_dram : Part.dram ∈ W0) (h_ring : Part.ring ∈ W0) (h_out : Part.out ∈ W0) (h_free : Part.free ∈ W0) (h0 : Keeps W0 r0 s) :
    Keeps W0 r0 (snapPart s l host) := by
  unfold snapPart
  repeat' first
    | with_reducible assumption
    | with_reducible apply snapSeen_keeps
    | with_reducible apply takePart_keeps
    | split
    | dsimp only

theorem snapCommit_keeps {W0 : List Part} {r0 : State} (s : State) (l : Letter) (host : HostRes) (h_regs : Part.regs ∈ W0) (h_hif : Part.hif ∈ W0) (h_queues : Part.queues ∈ W0) (h_sor : Part.sor ∈ W0) (h_srf : Part.srf ∈ W0) (h_drc : Part.drc ∈ W0) (h_chn : Part.chn ∈ W0) (h_cmp : Part.cmp ∈ W0) (h_frt : Part.frt ∈ W0) (h_tan : Part.tan ∈ W0) (h_ring : Part.ring ∈ W0) (h_out : Part.out ∈ W0) (h_free : Part.free ∈ W0) (h0 : Keeps W0 r0 s) :
    Keeps W0 r0 (snapCommit s l host) := by
  unfold snapCommit
  repeat' first
    | with_reducible assumption
    | simp only [Keeps.tan, h_tan]
    | with_reducible apply commit_keeps
    | with_reducible apply snapShow_keeps
    | with_reducible apply snapSeen_keeps
    | with_reducible apply tryCommit_keeps
    | split

theorem snapTimeout_keeps {W0 : List Part} {r0 : State} (s : State) (h_regs : Part.regs ∈ W0) (h_hif : Part.hif ∈ W0) (h_queues : Part.queues ∈ W0) (h_sor : Part.sor ∈ W0) (h_srf : Part.srf ∈ W0) (h_drc : Part.drc ∈ W0) (h_chn : Part.chn ∈ W0) (h_cmp : Part.cmp ∈ W0) (h_frt : Part.frt ∈ W0) (h_tan : Part.tan ∈ W0) (h_ring : Part.ring ∈ W0) (h_out : Part.out ∈ W0) (h_free : Part.free ∈ W0) (h0 : Keeps W0 r0 s) :
    Keeps W0 r0 (snapTimeout s) := by
  unfold snapTimeout
  repeat' first
    | with_reducible assumption
    | with_reducible apply commit_keeps
    | with_reducible apply snapFail_keeps
    | split

theorem takeLetter_keeps {W0 : List Part} {r0 : State} {s : State} {p : Letter → Bool} (h_chn : Part.chn ∈ W0) {it : Letter} {t0 : State}
    (hx : takeLetter s p = some (it, t0)) (h0 : Keeps W0 r0 s) : Keeps W0 r0 t0 := by
  unfold takeLetter at hx
  split at hx
  · injection hx with hx
    injection hx with _ hx
    subst hx
    simp only [Keeps.chn, h_chn, h0]
  · cases hx

theorem onLetter_keeps {W0 : List Part} {r0 : State} (s : State) (ltype : Nat) (f : State → Letter → State) (h_chn : Part.chn ∈ W0) (h_f : ∀ (x0 : State) (x1 : Letter), Keeps W0 r0 x0 → Keeps W0 r0 (f x0 x1)) (h0 : Keeps W0 r0 s) :
    Keeps W0 r0 (onLetter s ltype f) := by
  unfold onLetter
  repeat' first
    | with_reducible assumption
    | with_reducible apply h_f
    | with_reducible refine takeLetter_keeps (hx := by with_reducible assumption) ?_ ?_
    | split

theorem onSnap_keeps {W0 : List Part} {r0 : State} (s : State) (ltype : Nat) (f : State → Letter → State) (h_chn : Part.chn ∈ W0) (h_f : ∀ (x0 : State) (x1 : Letter), Keeps W0 r0 x0 → Keeps W0 r0 (f x0 x1)) (h0 : Keeps W0 r0 s) :
    Keeps W0 r0 (onSnap s ltype f) := by
  unfold onSnap
  repeat' first
    | with_reducible assumption
    | with_reducible apply h_f
    | with_reducible refine takeLetter_keeps (hx := by with_reducible assumption) ?_ ?_
    | split

theorem tanBlockReset_keeps {W0 : List Part} {r0 : State} (s : State) (h_regs : Part.regs ∈ W0) (h_hif : Part.hif ∈ W0) (h_queues : Part.queues ∈ W0) (h_sor : Part.sor ∈ W0) (h_chn : Part.chn ∈ W0) (h_tim : Part.tim ∈ W0) (h_tan : Part.tan ∈ W0) (h_ring : Part.ring ∈ W0) (h_out : Part.out ∈ W0) (h0 : Keeps W0 r0 s) :
    Keeps W0 r0 (tanBlockReset s) := by
  unfold tanBlockReset
  repeat' first
    | with_reducible assumption
    | simp only [Keeps.tan, h_tan]
    | with_reducible apply resetRegs_keeps
    | with_reducible apply genRelease_keeps
    | with_reducible apply tanRechoose_keeps
    | with_reducible apply tanEvent_keeps
    | with_reducible apply snapsAbort_keeps
    | split

theorem tanResetEnd_keeps {W0 : List Part} {r0 : State} (s : State) (h_chn : Part.chn ∈ W0) (h0 : Keeps W0 r0 s) :
    Keeps W0 r0 (tanResetEnd s) := by
  unfold tanResetEnd
  repeat' first
    | with_reducible assumption
    | simp only [Keeps.chn, h_chn]

theorem execBeaconCell_keeps {W0 : List Part} {r0 : State} (s : State) (h_regs : Part.regs ∈ W0) (h_hif : Part.hif ∈ W0) (h_chn : Part.chn ∈ W0) (h_tan : Part.tan ∈ W0) (h_out : Part.out ∈ W0) {t0 : State} (h0 : Keeps W0 r0 s) (ht : execBeaconCell s = .next t0) :
    Keeps W0 r0 t0 := by
  unfold execBeaconCell at ht
  apply whenOn_keeps (ht := ht)
  repeat' first
    | with_reducible assumption
    | with_reducible refine takeRx_keeps (hx := by with_reducible assumption) ?_ ?_
    | with_reducible apply beaconTile_keeps
    | split
    | dsimp only
    | intro _

theorem execPeerBeacon_keeps {W0 : List Part} {r0 : State} (s : State) (h_regs : Part.regs ∈ W0) (h_hif : Part.hif ∈ W0) (h_queues : Part.queues ∈ W0) (h_sor : Part.sor ∈ W0) (h_chn : Part.chn ∈ W0) (h_tan : Part.tan ∈ W0) (h_ring : Part.ring ∈ W0) (h_out : Part.out ∈ W0) {t0 : State} (h0 : Keeps W0 r0 s) (ht : execPeerBeacon s = .next t0) :
    Keeps W0 r0 t0 := by
  unfold execPeerBeacon at ht
  apply whenOn_keeps (ht := ht)
  repeat' first
    | with_reducible assumption
    | with_reducible refine takeRx_keeps (hx := by with_reducible assumption) ?_ ?_
    | with_reducible apply peerBeacon_keeps
    | split
    | dsimp only
    | intro _

theorem execClaimExpiry_keeps {W0 : List Part} {r0 : State} (dt : Nat) (p : Nat) (s : State) (h_regs : Part.regs ∈ W0) (h_hif : Part.hif ∈ W0) (h_chn : Part.chn ∈ W0) (h_tan : Part.tan ∈ W0) (h_time : Part.time ∈ W0) (h_wraps : Part.wraps ∈ W0) (h_up : Part.up ∈ W0) (h_out : Part.out ∈ W0) {t0 : State} (h0 : Keeps W0 r0 s) (ht : execClaimExpiry dt p s = .next t0) :
    Keeps W0 r0 t0 := by
  unfold execClaimExpiry at ht
  apply whenOn_keeps (ht := ht)
  repeat' first
    | with_reducible assumption
    | with_reducible apply advance_keeps
    | with_reducible apply claimExpiry_keeps
    | split
    | dsimp only
    | intro _

theorem execHeartbeatPulse_keeps {W0 : List Part} {r0 : State} (dt : Nat) (s : State) (h_regs : Part.regs ∈ W0) (h_hif : Part.hif ∈ W0) (h_queues : Part.queues ∈ W0) (h_sor : Part.sor ∈ W0) (h_chn : Part.chn ∈ W0) (h_tim : Part.tim ∈ W0) (h_tan : Part.tan ∈ W0) (h_ring : Part.ring ∈ W0) (h_time : Part.time ∈ W0) (h_wraps : Part.wraps ∈ W0) (h_up : Part.up ∈ W0) (h_out : Part.out ∈ W0) {t0 : State} (h0 : Keeps W0 r0 s) (ht : execHeartbeatPulse dt s = .next t0) :
    Keeps W0 r0 t0 := by
  unfold execHeartbeatPulse at ht
  apply whenOn_keeps (ht := ht)
  repeat' first
    | with_reducible assumption
    | with_reducible apply advance_keeps
    | with_reducible apply heartbeat_keeps
    | split
    | dsimp only
    | intro _

theorem execRevertHoldExpiry_keeps {W0 : List Part} {r0 : State} (dt : Nat) (s : State) (h_regs : Part.regs ∈ W0) (h_hif : Part.hif ∈ W0) (h_queues : Part.queues ∈ W0) (h_sor : Part.sor ∈ W0) (h_chn : Part.chn ∈ W0) (h_tan : Part.tan ∈ W0) (h_ring : Part.ring ∈ W0) (h_time : Part.time ∈ W0) (h_wraps : Part.wraps ∈ W0) (h_up : Part.up ∈ W0) (h_out : Part.out ∈ W0) {t0 : State} (h0 : Keeps W0 r0 s) (ht : execRevertHoldExpiry dt s = .next t0) :
    Keeps W0 r0 t0 := by
  unfold execRevertHoldExpiry at ht
  apply whenOn_keeps (ht := ht)
  repeat' first
    | with_reducible assumption
    | with_reducible apply advance_keeps
    | with_reducible apply revertExpiry_keeps
    | split
    | dsimp only
    | intro _

theorem execSenderCadence_keeps {W0 : List Part} {r0 : State} (dt : Nat) (slots : List Nat) (s : State) (h_regs : Part.regs ∈ W0) (h_hif : Part.hif ∈ W0) (h_queues : Part.queues ∈ W0) (h_sor : Part.sor ∈ W0) (h_srf : Part.srf ∈ W0) (h_drc : Part.drc ∈ W0) (h_chn : Part.chn ∈ W0) (h_cmp : Part.cmp ∈ W0) (h_frt : Part.frt ∈ W0) (h_lnk : Part.lnk ∈ W0) (h_tim : Part.tim ∈ W0) (h_tan : Part.tan ∈ W0) (h_sec : Part.sec ∈ W0) (h_ring : Part.ring ∈ W0) (h_time : Part.time ∈ W0) (h_wraps : Part.wraps ∈ W0) (h_up : Part.up ∈ W0) (h_out : Part.out ∈ W0) (h_free : Part.free ∈ W0) {t0 : State} (h0 : Keeps W0 r0 s) (ht : execSenderCadence dt slots s = .next t0) :
    Keeps W0 r0 t0 := by
  unfold execSenderCadence at ht
  apply whenOn_keeps (ht := ht)
  repeat' first
    | with_reducible assumption
    | with_reducible apply advance_keeps
    | with_reducible apply senderCadence_keeps
    | with_reducible apply snapSettle_keeps
    | split
    | dsimp only
    | intro _

theorem execSnapEntry_keeps {W0 : List Part} {r0 : State} (host : HostRes) (s : State) (h_regs : Part.regs ∈ W0) (h_hif : Part.hif ∈ W0) (h_queues : Part.queues ∈ W0) (h_sor : Part.sor ∈ W0) (h_srf : Part.srf ∈ W0) (h_drc : Part.drc ∈ W0) (h_chn : Part.chn ∈ W0) (h_tan : Part.tan ∈ W0) (h_sec : Part.sec ∈ W0) (h_ring : Part.ring ∈ W0) (h_out : Part.out ∈ W0) (h_free : Part.free ∈ W0) {t0 : State} (h0 : Keeps W0 r0 s) (ht : execSnapEntry host s = .next t0) :
    Keeps W0 r0 t0 := by
  unfold execSnapEntry at ht
  apply whenOn_keeps (ht := ht)
  repeat' first
    | with_reducible assumption
    | with_reducible apply onEntryRead_keeps
    | with_reducible apply snapEntry_keeps
    | split
    | dsimp only
    | intro _

theorem execSnapCommitRepeat_keeps {W0 : List Part} {r0 : State} (dt : Nat) (s : State) (h_regs : Part.regs ∈ W0) (h_hif : Part.hif ∈ W0) (h_chn : Part.chn ∈ W0) (h_tan : Part.tan ∈ W0) (h_sec : Part.sec ∈ W0) (h_time : Part.time ∈ W0) (h_wraps : Part.wraps ∈ W0) (h_up : Part.up ∈ W0) (h_out : Part.out ∈ W0) {t0 : State} (h0 : Keeps W0 r0 s) (ht : execSnapCommitRepeat dt s = .next t0) :
    Keeps W0 r0 t0 := by
  unfold execSnapCommitRepeat at ht
  apply whenOn_keeps (ht := ht)
  repeat' first
    | with_reducible assumption
    | with_reducible apply advance_keeps
    | with_reducible apply commitRepeat_keeps
    | split
    | dsimp only
    | intro _

theorem execSnapPartLetter_keeps {W0 : List Part} {r0 : State} (host : HostRes) (s : State) (h_regs : Part.regs ∈ W0) (h_hif : Part.hif ∈ W0) (h_queues : Part.queues ∈ W0) (h_sor : Part.sor ∈ W0) (h_srf : Part.srf ∈ W0) (h_drc : Part.drc ∈ W0) (h_chn : Part.chn ∈ W0) (h_cmp : Part.cmp ∈ W0) (h_frt : Part.frt ∈ W0) (h_tan : Part.tan ∈ W0) (h_dram : Part.dram ∈ W0) (h_ring : Part.ring ∈ W0) (h_out : Part.out ∈ W0) (h_free : Part.free ∈ W0) {t0 : State} (h0 : Keeps W0 r0 s) (ht : execSnapPartLetter host s = .next t0) :
    Keeps W0 r0 t0 := by
  unfold execSnapPartLetter at ht
  apply whenOn_keeps (ht := ht)
  repeat' first
    | with_reducible assumption
    | with_reducible apply snapPart_keeps
    | with_reducible apply onSnap_keeps
    | split
    | dsimp only
    | intro _

theorem execSnapCommitLetter_keeps {W0 : List Part} {r0 : State} (host : HostRes) (s : State) (h_regs : Part.regs ∈ W0) (h_hif : Part.hif ∈ W0) (h_queues : Part.queues ∈ W0) (h_sor : Part.sor ∈ W0) (h_srf : Part.srf ∈ W0) (h_drc : Part.drc ∈ W0) (h_chn : Part.chn ∈ W0) (h_cmp : Part.cmp ∈ W0) (h_frt : Part.frt ∈ W0) (h_tan : Part.tan ∈ W0) (h_ring : Part.ring ∈ W0) (h_out : Part.out ∈ W0) (h_free : Part.free ∈ W0) {t0 : State} (h0 : Keeps W0 r0 s) (ht : execSnapCommitLetter host s = .next t0) :
    Keeps W0 r0 t0 := by
  unfold execSnapCommitLetter at ht
  apply whenOn_keeps (ht := ht)
  repeat' first
    | with_reducible assumption
    | with_reducible apply tryCommit_keeps
    | with_reducible apply snapCommit_keeps
    | with_reducible apply onSnap_keeps
    | split
    | dsimp only
    | intro _

theorem execSnapWaitTimeout_keeps {W0 : List Part} {r0 : State} (dt : Nat) (s : State) (h_regs : Part.regs ∈ W0) (h_hif : Part.hif ∈ W0) (h_queues : Part.queues ∈ W0) (h_sor : Part.sor ∈ W0) (h_srf : Part.srf ∈ W0) (h_drc : Part.drc ∈ W0) (h_chn : Part.chn ∈ W0) (h_cmp : Part.cmp ∈ W0) (h_frt : Part.frt ∈ W0) (h_tan : Part.tan ∈ W0) (h_ring : Part.ring ∈ W0) (h_time : Part.time ∈ W0) (h_wraps : Part.wraps ∈ W0) (h_up : Part.up ∈ W0) (h_out : Part.out ∈ W0) (h_free : Part.free ∈ W0) {t0 : State} (h0 : Keeps W0 r0 s) (ht : execSnapWaitTimeout dt s = .next t0) :
    Keeps W0 r0 t0 := by
  unfold execSnapWaitTimeout at ht
  apply whenOn_keeps (ht := ht)
  repeat' first
    | with_reducible assumption
    | with_reducible apply advance_keeps
    | with_reducible apply snapTimeout_keeps
    | split
    | dsimp only
    | intro _

end Sys2Proof.Machine
end

