-- ==== Sys2Proof/Laws/KeepLnk.lean ====
section
/-! SUPPORT. What each operation of Machine/Lnk.lean touches. -/

namespace Sys2Proof.Machine

theorem setPort_keeps {W0 : List Part} {r0 : State} (s : State) (p : Nat) (x : PortSt) (h_lnk : Part.lnk ∈ W0) (h0 : Keeps W0 r0 s) :
    Keeps W0 r0 (setPort s p x) := by
  unfold setPort
  repeat' first
    | with_reducible assumption
    | simp only [Keeps.lnk, h_lnk]

theorem setStage_keeps {W0 : List Part} {r0 : State} (s : State) (p : Nat) (st : Nat) (h_regs : Part.regs ∈ W0) (h_lnk : Part.lnk ∈ W0) (h0 : Keeps W0 r0 s) :
    Keeps W0 r0 (setStage s p st) := by
  unfold setStage
  repeat' first
    | with_reducible assumption
    | with_reducible apply setF_keeps
    | with_reducible apply setPort_keeps

theorem lanesDark_keeps {W0 : List Part} {r0 : State} (s : State) (p : Nat) (h_regs : Part.regs ∈ W0) (h0 : Keeps W0 r0 s) :
    Keeps W0 r0 (lanesDark s p) := by
  unfold lanesDark
  repeat' first
    | with_reducible assumption
    | with_reducible apply setF_keeps
    | with_reducible apply Keeps.foldl
    | split
    | dsimp only
    | intro _

theorem stopForward_keeps {W0 : List Part} {r0 : State} (s : State) (h_lnk : Part.lnk ∈ W0) (h_out : Part.out ∈ W0) (h0 : Keeps W0 r0 s) :
    Keeps W0 r0 (stopForward s) := by
  unfold stopForward
  repeat' first
    | with_reducible assumption
    | with_reducible apply emit_keeps
    | with_reducible apply setPort_keeps
    | with_reducible apply Keeps.foldl
    | split
    | dsimp only
    | intro _

theorem setTaps_keeps {W0 : List Part} {r0 : State} (s : State) (p : Nat) (l : Nat) (t : Taps) (h_lnk : Part.lnk ∈ W0) (h0 : Keeps W0 r0 s) :
    Keeps W0 r0 (setTaps s p l t) := by
  unfold setTaps
  repeat' first
    | with_reducible assumption
    | with_reducible apply setPort_keeps

theorem calAbort_keeps {W0 : List Part} {r0 : State} (s : State) (c : Status) (keepCopy : Bool) (h_regs : Part.regs ∈ W0) (h_lnk : Part.lnk ∈ W0) (h_cal : Part.cal ∈ W0) (h0 : Keeps W0 r0 s) :
    Keeps W0 r0 (calAbort s c keepCopy) := by
  unfold calAbort
  repeat' first
    | with_reducible assumption
    | simp only [Keeps.cal, h_cal]
    | with_reducible apply setF_keeps
    | with_reducible apply incSat_keeps
    | with_reducible apply setTaps_keeps
    | split

theorem calAbortOn_keeps {W0 : List Part} {r0 : State} (s : State) (p : Nat) (c : Status) (h_regs : Part.regs ∈ W0) (h_lnk : Part.lnk ∈ W0) (h_cal : Part.cal ∈ W0) (h0 : Keeps W0 r0 s) :
    Keeps W0 r0 (calAbortOn s p c) := by
  unfold calAbortOn
  repeat' first
    | with_reducible assumption
    | with_reducible apply calAbort_keeps
    | split

theorem portQuiet_keeps {W0 : List Part} {r0 : State} (s : State) (p : Nat) (h_regs : Part.regs ∈ W0) (h_chn : Part.chn ∈ W0) (h_lnk : Part.lnk ∈ W0) (h_cal : Part.cal ∈ W0) (h0 : Keeps W0 r0 s) :
    Keeps W0 r0 (portQuiet s p) := by
  unfold portQuiet
  repeat' first
    | with_reducible assumption
    | simp only [Keeps.chn, h_chn]
    | with_reducible apply incSat_keeps
    | with_reducible apply setTx_keeps
    | with_reducible apply setPort_keeps
    | with_reducible apply lanesDark_keeps
    | with_reducible apply calAbortOn_keeps
    | split

theorem portDown_keeps {W0 : List Part} {r0 : State} (s : State) (p : Nat) (st : Nat) (h_regs : Part.regs ∈ W0) (h_hif : Part.hif ∈ W0) (h_chn : Part.chn ∈ W0) (h_lnk : Part.lnk ∈ W0) (h_tan : Part.tan ∈ W0) (h_cal : Part.cal ∈ W0) (h_out : Part.out ∈ W0) (h0 : Keeps W0 r0 s) :
    Keeps W0 r0 (portDown s p st) := by
  unfold portDown
  repeat' first
    | with_reducible assumption
    | with_reducible apply setF_keeps
    | with_reducible apply incSat_keeps
    | with_reducible apply emit_keeps
    | with_reducible apply raise_keeps
    | with_reducible apply tanDead_keeps
    | with_reducible apply setStage_keeps
    | with_reducible apply lanesDark_keeps
    | with_reducible apply stopForward_keeps
    | with_reducible apply portQuiet_keeps
    | split
    | dsimp only

theorem attemptFail_keeps {W0 : List Part} {r0 : State} (s : State) (p : Nat) (c : Status) (h_regs : Part.regs ∈ W0) (h_lnk : Part.lnk ∈ W0) (h_out : Part.out ∈ W0) (h_free : Part.free ∈ W0) (h0 : Keeps W0 r0 s) :
    Keeps W0 r0 (attemptFail s p c) := by
  unfold attemptFail
  repeat' first
    | with_reducible assumption
    | with_reducible apply setF_keeps
    | with_reducible apply incSat_keeps
    | with_reducible apply drawNat_keeps
    | with_reducible apply emit_keeps
    | with_reducible apply setPort_keeps
    | with_reducible apply setStage_keeps
    | with_reducible apply lanesDark_keeps

theorem injSettle_keeps {W0 : List Part} {r0 : State} (s : State) (i : Nat) (n : Nat) (on : Bool) (h_regs : Part.regs ∈ W0) (h_lnk : Part.lnk ∈ W0) (h0 : Keeps W0 r0 s) :
    Keeps W0 r0 (injSettle s i n on) := by
  unfold injSettle
  repeat' first
    | with_reducible assumption
    | with_reducible apply incSat_keeps
    | with_reducible apply setPort_keeps

theorem testLane_keeps {W0 : List Part} {r0 : State} (s : State) (i : Nat) (b : Bytes) (h_regs : Part.regs ∈ W0) (h_lnk : Part.lnk ∈ W0) (h_out : Part.out ∈ W0) (h0 : Keeps W0 r0 s) :
    Keeps W0 r0 (testLane s i b) := by
  unfold testLane
  repeat' first
    | with_reducible assumption
    | with_reducible apply setF_keeps
    | with_reducible apply incSat_keeps
    | with_reducible apply emit_keeps
    | with_reducible apply setPort_keeps
    | with_reducible refine Keeps.of_snd (by with_reducible assumption) ?_
    | with_reducible refine Keeps.of_snd2 (by with_reducible assumption) ?_
    | split
    | dsimp only

theorem testSlot_keeps {W0 : List Part} {r0 : State} (s : State) (p : Nat) (raw : Bytes) (h_regs : Part.regs ∈ W0) (h_lnk : Part.lnk ∈ W0) (h_out : Part.out ∈ W0) (h0 : Keeps W0 r0 s) :
    Keeps W0 r0 (testSlot s p raw) := by
  unfold testSlot
  repeat' first
    | with_reducible assumption
    | with_reducible apply testLane_keeps
    | with_reducible apply Keeps.foldl
    | split
    | dsimp only
    | intro _

theorem lctlReset_keeps {W0 : List Part} {r0 : State} (s : State) (p : Nat) (h_regs : Part.regs ∈ W0) (h_lnk : Part.lnk ∈ W0) (h0 : Keeps W0 r0 s) :
    Keeps W0 r0 (lctlReset s p) := by
  unfold lctlReset
  repeat' first
    | with_reducible assumption
    | with_reducible apply setWord_keeps
    | with_reducible apply setF_keeps
    | with_reducible apply setPort_keeps
    | with_reducible apply injSettle_keeps
    | with_reducible apply Keeps.foldl
    | split
    | dsimp only
    | intro _

theorem toDetect_keeps {W0 : List Part} {r0 : State} (s : State) (p : Nat) (h_regs : Part.regs ∈ W0) (h_lnk : Part.lnk ∈ W0) (h_out : Part.out ∈ W0) (h0 : Keeps W0 r0 s) :
    Keeps W0 r0 (toDetect s p) := by
  unfold toDetect
  repeat' first
    | with_reducible assumption
    | with_reducible apply emit_keeps
    | with_reducible apply setPort_keeps
    | with_reducible apply setStage_keeps

theorem portControl_keeps {W0 : List Part} {r0 : State} (s : State) (p : Nat) (wasEn : Bool) (wasTest : Bool) (retrain : Bool) (h_regs : Part.regs ∈ W0) (h_hif : Part.hif ∈ W0) (h_chn : Part.chn ∈ W0) (h_lnk : Part.lnk ∈ W0) (h_tan : Part.tan ∈ W0) (h_cal : Part.cal ∈ W0) (h_out : Part.out ∈ W0) (h0 : Keeps W0 r0 s) :
    Keeps W0 r0 (portControl s p wasEn wasTest retrain) := by
  unfold portControl
  repeat' first
    | with_reducible assumption
    | with_reducible apply portDown_keeps
    | with_reducible apply lctlReset_keeps
    | with_reducible apply toDetect_keeps
    | split
    | dsimp only

theorem laneControl_keeps {W0 : List Part} {r0 : State} (s0 : State) (s : State) (i : Nat) (inj : Bool) (h_regs : Part.regs ∈ W0) (h_lnk : Part.lnk ∈ W0) (h_out : Part.out ∈ W0) (h0 : Keeps W0 r0 s) :
    Keeps W0 r0 (laneControl s0 s i inj) := by
  unfold laneControl
  repeat' first
    | with_reducible assumption
    | with_reducible apply setF_keeps
    | with_reducible apply incSat_keeps
    | with_reducible apply emit_keeps
    | with_reducible apply setPort_keeps
    | with_reducible apply injSettle_keeps
    | split

theorem sendSets_keeps {W0 : List Part} {r0 : State} (s : State) (p : Nat) (h_out : Part.out ∈ W0) (h0 : Keeps W0 r0 s) :
    Keeps W0 r0 (sendSets s p) := by
  unfold sendSets
  repeat' first
    | with_reducible assumption
    | with_reducible apply emit_keeps
    | split

theorem readSets_keeps {W0 : List Part} {r0 : State} (s : State) (p : Nat) (sets : List Bytes) (h_regs : Part.regs ∈ W0) (h_lnk : Part.lnk ∈ W0) (h0 : Keeps W0 r0 s) :
    Keeps W0 r0 (readSets s p sets) := by
  unfold readSets
  repeat' first
    | with_reducible assumption
    | with_reducible apply setF_keeps
    | with_reducible apply setPort_keeps
    | with_reducible apply Keeps.foldl
    | split
    | dsimp only
    | intro _

theorem receiverDetect_keeps {W0 : List Part} {r0 : State} (s : State) (p : Nat) (found : Nat) (h_regs : Part.regs ∈ W0) (h_lnk : Part.lnk ∈ W0) (h_out : Part.out ∈ W0) (h0 : Keeps W0 r0 s) :
    Keeps W0 r0 (receiverDetect s p found) := by
  unfold receiverDetect
  repeat' first
    | with_reducible assumption
    | with_reducible apply setF_keeps
    | with_reducible apply setPort_keeps
    | with_reducible apply setStage_keeps
    | with_reducible apply sendSets_keeps
    | split

theorem countLanes_keeps {W0 : List Part} {r0 : State} (s : State) (p : Nat) (cv : List Nat) (disp : List Nat) (h_regs : Part.regs ∈ W0) (h0 : Keeps W0 r0 s) :
    Keeps W0 r0 (countLanes s p cv disp) := by
  unfold countLanes
  repeat' first
    | with_reducible assumption
    | with_reducible apply incSat_keeps
    | with_reducible apply Keeps.foldl
    | split
    | dsimp only
    | intro _

theorem presetTrial_keeps {W0 : List Part} {r0 : State} (s : State) (p : Nat) (o : TrialObs) (h_regs : Part.regs ∈ W0) (h_lnk : Part.lnk ∈ W0) (h_out : Part.out ∈ W0) (h0 : Keeps W0 r0 s) :
    Keeps W0 r0 (presetTrial s p o) := by
  unfold presetTrial
  repeat' first
    | with_reducible assumption
    | with_reducible apply setPort_keeps
    | with_reducible apply sendSets_keeps
    | with_reducible apply readSets_keeps
    | with_reducible apply countLanes_keeps
    | split

theorem stageLanes_keeps {W0 : List Part} {r0 : State} (s : State) (p : Nat) (m : Nat) (f : Nat → Fld) (h_regs : Part.regs ∈ W0) (h_lnk : Part.lnk ∈ W0) (h0 : Keeps W0 r0 s) :
    Keeps W0 r0 (stageLanes s p m f) := by
  unfold stageLanes
  repeat' first
    | with_reducible assumption
    | with_reducible apply setF_keeps
    | with_reducible apply setPort_keeps
    | with_reducible apply Keeps.foldl
    | split
    | dsimp only
    | intro _

theorem stageOrder_keeps {W0 : List Part} {r0 : State} (s : State) (p : Nat) (o : StageObs) (h_regs : Part.regs ∈ W0) (h_lnk : Part.lnk ∈ W0) (h_out : Part.out ∈ W0) (h_free : Part.free ∈ W0) (h0 : Keeps W0 r0 s) :
    Keeps W0 r0 (stageOrder s p o) := by
  unfold stageOrder
  repeat' first
    | with_reducible assumption
    | with_reducible apply setWord_keeps
    | with_reducible apply setF_keeps
    | with_reducible apply setStage_keeps
    | with_reducible apply attemptFail_keeps
    | split
    | dsimp only

theorem showLogical_keeps {W0 : List Part} {r0 : State} (s : State) (p : Nat) (h_regs : Part.regs ∈ W0) (h0 : Keeps W0 r0 s) :
    Keeps W0 r0 (showLogical s p) := by
  unfold showLogical
  repeat' first
    | with_reducible assumption
    | with_reducible apply setF_keeps
    | with_reducible apply Keeps.foldl
    | split
    | dsimp only
    | intro _

theorem stageSpare_keeps {W0 : List Part} {r0 : State} (s : State) (p : Nat) (h_regs : Part.regs ∈ W0) (h_lnk : Part.lnk ∈ W0) (h_tim : Part.tim ∈ W0) (h_out : Part.out ∈ W0) (h_free : Part.free ∈ W0) (h0 : Keeps W0 r0 s) :
    Keeps W0 r0 (stageSpare s p) := by
  unfold stageSpare
  repeat' first
    | with_reducible assumption
    | with_reducible apply setF_keeps
    | with_reducible apply steer_keeps
    | with_reducible apply setPort_keeps
    | with_reducible apply setStage_keeps
    | with_reducible apply attemptFail_keeps
    | with_reducible apply showLogical_keeps
    | split
    | dsimp only

theorem startLane_keeps {W0 : List Part} {r0 : State} (s : State) (p : Nat) (l : Nat) (eye : Nat × Nat) (h_regs : Part.regs ∈ W0) (h_lnk : Part.lnk ∈ W0) (h0 : Keeps W0 r0 s) :
    Keeps W0 r0 (startLane s p l eye) := by
  unfold startLane
  repeat' first
    | with_reducible assumption
    | with_reducible apply setF_keeps
    | with_reducible apply setPort_keeps
    | split
    | dsimp only

theorem steerSend_keeps {W0 : List Part} {r0 : State} (s : State) (p : Nat) (n : Nat) (h_regs : Part.regs ∈ W0) (h_lnk : Part.lnk ∈ W0) (h_tim : Part.tim ∈ W0) (h_out : Part.out ∈ W0) (h_free : Part.free ∈ W0) (h0 : Keeps W0 r0 s) :
    Keeps W0 r0 (steerSend s p n) := by
  unfold steerSend
  repeat' first
    | with_reducible assumption
    | with_reducible apply emit_keeps
    | with_reducible apply steer_keeps
    | with_reducible apply setPort_keeps
    | split

theorem steerFor_keeps {W0 : List Part} {r0 : State} (s : State) (p : Nat) (n : Nat) (h_regs : Part.regs ∈ W0) (h_lnk : Part.lnk ∈ W0) (h_tim : Part.tim ∈ W0) (h_out : Part.out ∈ W0) (h_free : Part.free ∈ W0) (h0 : Keeps W0 r0 s) :
    Keeps W0 r0 (steerFor s p n) := by
  unfold steerFor
  repeat' first
    | with_reducible assumption
    | with_reducible apply setF_keeps
    | with_reducible apply steerSend_keeps

theorem chainUp_keeps {W0 : List Part} {r0 : State} (s : State) (p : Nat) (o : StageObs) (h_regs : Part.regs ∈ W0) (h_hif : Part.hif ∈ W0) (h_chn : Part.chn ∈ W0) (h_lnk : Part.lnk ∈ W0) (h_tim : Part.tim ∈ W0) (h_sec : Part.sec ∈ W0) (h_out : Part.out ∈ W0) (h_free : Part.free ∈ W0) (h0 : Keeps W0 r0 s) :
    Keeps W0 r0 (chainUp s p o) := by
  unfold chainUp
  repeat' first
    | with_reducible assumption
    | with_reducible apply setF_keeps
    | with_reducible apply incSat_keeps
    | with_reducible apply sendHeld_keeps
    | with_reducible apply raise_keeps
    | with_reducible apply steer_keeps
    | with_reducible apply preqRestart_keeps
    | with_reducible apply setPort_keeps
    | with_reducible apply setStage_keeps
    | with_reducible apply startLane_keeps
    | with_reducible apply steerFor_keeps
    | with_reducible apply Keeps.foldl
    | split
    | dsimp only
    | intro _

theorem stagePass_keeps {W0 : List Part} {r0 : State} (s : State) (p : Nat) (o : StageObs) (h_regs : Part.regs ∈ W0) (h_lnk : Part.lnk ∈ W0) (h_tim : Part.tim ∈ W0) (h_out : Part.out ∈ W0) (h_free : Part.free ∈ W0) (h0 : Keeps W0 r0 s) :
    Keeps W0 r0 (stagePass s p o) := by
  unfold stagePass
  repeat' first
    | with_reducible assumption
    | with_reducible apply setF_keeps
    | with_reducible apply emit_keeps
    | with_reducible apply setPort_keeps
    | with_reducible apply setStage_keeps
    | with_reducible apply attemptFail_keeps
    | with_reducible apply stageLanes_keeps
    | with_reducible apply stageOrder_keeps
    | with_reducible apply stageSpare_keeps
    | split
    | dsimp only

theorem stageDone_keeps {W0 : List Part} {r0 : State} (s : State) (p : Nat) (o : StageObs) (h_regs : Part.regs ∈ W0) (h_hif : Part.hif ∈ W0) (h_chn : Part.chn ∈ W0) (h_lnk : Part.lnk ∈ W0) (h_tim : Part.tim ∈ W0) (h_sec : Part.sec ∈ W0) (h_out : Part.out ∈ W0) (h_free : Part.free ∈ W0) (h0 : Keeps W0 r0 s) :
    Keeps W0 r0 (stageDone s p o) := by
  unfold stageDone
  repeat' first
    | with_reducible assumption
    | with_reducible apply sendSets_keeps
    | with_reducible apply readSets_keeps
    | with_reducible apply countLanes_keeps
    | with_reducible apply chainUp_keeps
    | with_reducible apply stagePass_keeps
    | split
    | dsimp only

theorem steerRepeat_keeps {W0 : List Part} {r0 : State} (s : State) (p : Nat) (h_regs : Part.regs ∈ W0) (h_lnk : Part.lnk ∈ W0) (h_tim : Part.tim ∈ W0) (h_out : Part.out ∈ W0) (h_free : Part.free ∈ W0) (h0 : Keeps W0 r0 s) :
    Keeps W0 r0 (steerRepeat s p) := by
  unfold steerRepeat
  repeat' first
    | with_reducible assumption
    | with_reducible apply steer_keeps
    | with_reducible apply steerSend_keeps
    | split
    | dsimp only

theorem showSpared_keeps {W0 : List Part} {r0 : State} (s : State) (p : Nat) (n : Nat) (h_regs : Part.regs ∈ W0) (h0 : Keeps W0 r0 s) :
    Keeps W0 r0 (showSpared s p n) := by
  unfold showSpared
  repeat' first
    | with_reducible assumption
    | with_reducible apply setF_keeps

theorem pannierLost_keeps {W0 : List Part} {r0 : State} (s : State) (p : Nat) (h_regs : Part.regs ∈ W0) (h_hif : Part.hif ∈ W0) (h_chn : Part.chn ∈ W0) (h_lnk : Part.lnk ∈ W0) (h_tan : Part.tan ∈ W0) (h_cal : Part.cal ∈ W0) (h_out : Part.out ∈ W0) (h0 : Keeps W0 r0 s) :
    Keeps W0 r0 (pannierLost s p) := by
  unfold pannierLost
  repeat' first
    | with_reducible assumption
    | with_reducible apply setF_keeps
    | with_reducible apply setPort_keeps
    | with_reducible apply calAbort_keeps
    | with_reducible apply portDown_keeps
    | split
    | dsimp only

theorem laneLost_keeps {W0 : List Part} {r0 : State} (s : State) (p : Nat) (n : Nat) (h_regs : Part.regs ∈ W0) (h_hif : Part.hif ∈ W0) (h_chn : Part.chn ∈ W0) (h_lnk : Part.lnk ∈ W0) (h_tim : Part.tim ∈ W0) (h_tan : Part.tan ∈ W0) (h_cal : Part.cal ∈ W0) (h_out : Part.out ∈ W0) (h_free : Part.free ∈ W0) (h0 : Keeps W0 r0 s) :
    Keeps W0 r0 (laneLost s p n) := by
  unfold laneLost
  repeat' first
    | with_reducible assumption
    | with_reducible apply setF_keeps
    | with_reducible apply setPort_keeps
    | with_reducible apply calAbort_keeps
    | with_reducible apply portDown_keeps
    | with_reducible apply steerFor_keeps
    | with_reducible apply showSpared_keeps
    | with_reducible apply pannierLost_keeps
    | split
    | dsimp only

theorem steerReceive_keeps {W0 : List Part} {r0 : State} (s : State) (p : Nat) (cmd : Nat) (ncmd : Nat) (h_lnk : Part.lnk ∈ W0) (h_out : Part.out ∈ W0) (h0 : Keeps W0 r0 s) :
    Keeps W0 r0 (steerReceive s p cmd ncmd) := by
  unfold steerReceive
  repeat' first
    | with_reducible assumption
    | with_reducible apply emit_keeps
    | with_reducible apply setPort_keeps
    | split

theorem pannierSwitch_keeps {W0 : List Part} {r0 : State} (s : State) (p : Nat) (h_regs : Part.regs ∈ W0) (h0 : Keeps W0 r0 s) :
    Keeps W0 r0 (pannierSwitch s p) := by
  unfold pannierSwitch
  repeat' first
    | with_reducible assumption
    | with_reducible apply setF_keeps
    | with_reducible apply showSpared_keeps
    | split

theorem blockForward_keeps {W0 : List Part} {r0 : State} (s : State) (q : Nat) (kind : Nat) (len : Nat) (h_regs : Part.regs ∈ W0) (h_lnk : Part.lnk ∈ W0) (h_tim : Part.tim ∈ W0) (h_out : Part.out ∈ W0) (h_free : Part.free ∈ W0) (h0 : Keeps W0 r0 s) :
    Keeps W0 r0 (blockForward s q kind len) := by
  unfold blockForward
  repeat' first
    | with_reducible assumption
    | with_reducible apply emit_keeps
    | with_reducible apply steer_keeps
    | with_reducible apply setPort_keeps
    | split
    | dsimp only

theorem blockReceive_keeps {W0 : List Part} {r0 : State} (s : State) (p : Nat) (coms : Nat) (marks : List Nat) (cut : Nat) (len : Nat) (fill : Nat) (cv : List Nat) (disp : List Nat) (h_regs : Part.regs ∈ W0) (h_lnk : Part.lnk ∈ W0) (h_tim : Part.tim ∈ W0) (h_out : Part.out ∈ W0) (h_free : Part.free ∈ W0) (h0 : Keeps W0 r0 s) :
    Keeps W0 r0 (blockReceive s p coms marks cut len fill cv disp) := by
  unfold blockReceive
  repeat' first
    | with_reducible assumption
    | with_reducible apply incSat_keeps
    | with_reducible apply setPort_keeps
    | with_reducible apply countLanes_keeps
    | with_reducible apply blockForward_keeps
    | split
    | dsimp only

theorem elasticSlip_keeps {W0 : List Part} {r0 : State} (s : State) (p : Nat) (cut : Nat) (h_regs : Part.regs ∈ W0) (h_lnk : Part.lnk ∈ W0) (h0 : Keeps W0 r0 s) :
    Keeps W0 r0 (elasticSlip s p cut) := by
  unfold elasticSlip
  repeat' first
    | with_reducible assumption
    | with_reducible apply incSat_keeps
    | with_reducible apply setPort_keeps
    | split

theorem reseed_keeps {W0 : List Part} {r0 : State} (s : State) (p : Nat) (h_lnk : Part.lnk ∈ W0) (h_out : Part.out ∈ W0) (h0 : Keeps W0 r0 s) :
    Keeps W0 r0 (reseed s p) := by
  unfold reseed
  repeat' first
    | with_reducible assumption
    | with_reducible apply emit_keeps
    | with_reducible apply setPort_keeps
    | split
    | dsimp only

theorem adaptWindow_keeps {W0 : List Part} {r0 : State} (s : State) (p : Nat) (l : Nat) (diff : Nat) (taps : Taps) (h_regs : Part.regs ∈ W0) (h_lnk : Part.lnk ∈ W0) (h0 : Keeps W0 r0 s) :
    Keeps W0 r0 (adaptWindow s p l diff taps) := by
  unfold adaptWindow
  repeat' first
    | with_reducible assumption
    | with_reducible apply setF_keeps
    | with_reducible apply setTaps_keeps
    | split
    | dsimp only

theorem laneRevert_keeps {W0 : List Part} {r0 : State} (s : State) (p : Nat) (l : Nat) (h_regs : Part.regs ∈ W0) (h_lnk : Part.lnk ∈ W0) (h_cal : Part.cal ∈ W0) (h0 : Keeps W0 r0 s) :
    Keeps W0 r0 (laneRevert s p l) := by
  unfold laneRevert
  repeat' first
    | with_reducible assumption
    | with_reducible apply incSat_keeps
    | with_reducible apply setPort_keeps
    | with_reducible apply calAbort_keeps
    | split
    | dsimp only

theorem marginMeasure_keeps {W0 : List Part} {r0 : State} (s : State) (p : Nat) (l : Nat) (ew : Nat) (eh : Nat) (h_regs : Part.regs ∈ W0) (h_lnk : Part.lnk ∈ W0) (h_cal : Part.cal ∈ W0) (h0 : Keeps W0 r0 s) :
    Keeps W0 r0 (marginMeasure s p l ew eh) := by
  unfold marginMeasure
  repeat' first
    | with_reducible assumption
    | with_reducible apply setF_keeps
    | with_reducible apply setPort_keeps
    | with_reducible apply laneRevert_keeps
    | split
    | dsimp only

theorem timingChange_keeps {W0 : List Part} {r0 : State} (s : State) (h_regs : Part.regs ∈ W0) (h_lnk : Part.lnk ∈ W0) (h0 : Keeps W0 r0 s) :
    Keeps W0 r0 (timingChange s) := by
  unfold timingChange
  repeat' first
    | with_reducible assumption
    | simp only [Keeps.lnk, h_lnk]
    | with_reducible apply setF_keeps
    | with_reducible apply incSat_keeps
    | split

theorem timingLocked_keeps {W0 : List Part} {r0 : State} (s : State) (h_regs : Part.regs ∈ W0) (h_lnk : Part.lnk ∈ W0) (h0 : Keeps W0 r0 s) :
    Keeps W0 r0 (timingLocked s) := by
  unfold timingLocked
  repeat' first
    | with_reducible assumption
    | simp only [Keeps.lnk, h_lnk]
    | with_reducible apply setF_keeps
    | split

theorem lnkBlockReset_keeps {W0 : List Part} {r0 : State} (s : State) (h_regs : Part.regs ∈ W0) (h_hif : Part.hif ∈ W0) (h_chn : Part.chn ∈ W0) (h_lnk : Part.lnk ∈ W0) (h_tan : Part.tan ∈ W0) (h_cal : Part.cal ∈ W0) (h_out : Part.out ∈ W0) (h0 : Keeps W0 r0 s) :
    Keeps W0 r0 (lnkBlockReset s) := by
  unfold lnkBlockReset
  repeat' first
    | with_reducible assumption
    | simp only [Keeps.lnk, h_lnk]
    | with_reducible apply resetRegs_keeps
    | with_reducible apply calAbort_keeps
    | with_reducible apply portDown_keeps
    | with_reducible apply Keeps.foldl
    | split
    | dsimp only
    | intro _

theorem execReceiverDetect_keeps {W0 : List Part} {r0 : State} (dt : Nat) (p : Nat) (found : Nat) (s : State) (h_regs : Part.regs ∈ W0) (h_hif : Part.hif ∈ W0) (h_chn : Part.chn ∈ W0) (h_lnk : Part.lnk ∈ W0) (h_time : Part.time ∈ W0) (h_wraps : Part.wraps ∈ W0) (h_up : Part.up ∈ W0) (h_out : Part.out ∈ W0) {t0 : State} (h0 : Keeps W0 r0 s) (ht : execReceiverDetect dt p found s = .next t0) :
    Keeps W0 r0 t0 := by
  unfold execReceiverDetect at ht
  dsimp only at ht
  injection ht with ht
  subst ht
  repeat' first
    | with_reducible assumption
    | with_reducible apply advance_keeps
    | with_reducible apply receiverDetect_keeps
    | split

theorem execPresetTrial_keeps {W0 : List Part} {r0 : State} (p : Nat) (o : TrialObs) (s : State) (h_regs : Part.regs ∈ W0) (h_lnk : Part.lnk ∈ W0) (h_out : Part.out ∈ W0) {t0 : State} (h0 : Keeps W0 r0 s) (ht : execPresetTrial p o s = .next t0) :
    Keeps W0 r0 t0 := by
  unfold execPresetTrial at ht
  injection ht with ht
  subst ht
  repeat' first
    | with_reducible assumption
    | with_reducible apply presetTrial_keeps
    | split

theorem execLinkStageDone_keeps {W0 : List Part} {r0 : State} (p : Nat) (o : StageObs) (s : State) (h_regs : Part.regs ∈ W0) (h_hif : Part.hif ∈ W0) (h_chn : Part.chn ∈ W0) (h_lnk : Part.lnk ∈ W0) (h_tim : Part.tim ∈ W0) (h_sec : Part.sec ∈ W0) (h_out : Part.out ∈ W0) (h_free : Part.free ∈ W0) {t0 : State} (h0 : Keeps W0 r0 s) (ht : execLinkStageDone p o s = .next t0) :
    Keeps W0 r0 t0 := by
  unfold execLinkStageDone at ht
  injection ht with ht
  subst ht
  repeat' first
    | with_reducible assumption
    | with_reducible apply stageDone_keeps
    | split

theorem execLinkAttemptFail_keeps {W0 : List Part} {r0 : State} (x : AttemptEnd) (s : State) (h_regs : Part.regs ∈ W0) (h_hif : Part.hif ∈ W0) (h_chn : Part.chn ∈ W0) (h_lnk : Part.lnk ∈ W0) (h_time : Part.time ∈ W0) (h_wraps : Part.wraps ∈ W0) (h_up : Part.up ∈ W0) (h_out : Part.out ∈ W0) (h_free : Part.free ∈ W0) {t0 : State} (h0 : Keeps W0 r0 s) (ht : execLinkAttemptFail x s = .next t0) :
    Keeps W0 r0 t0 := by
  unfold execLinkAttemptFail at ht
  dsimp only at ht
  injection ht with ht
  subst ht
  repeat' first
    | with_reducible assumption
    | with_reducible apply advance_keeps
    | with_reducible apply attemptFail_keeps
    | split

theorem execLinkBackoffEnd_keeps {W0 : List Part} {r0 : State} (dt : Nat) (p : Nat) (s : State) (h_regs : Part.regs ∈ W0) (h_hif : Part.hif ∈ W0) (h_chn : Part.chn ∈ W0) (h_lnk : Part.lnk ∈ W0) (h_time : Part.time ∈ W0) (h_wraps : Part.wraps ∈ W0) (h_up : Part.up ∈ W0) (h_out : Part.out ∈ W0) {t0 : State} (h0 : Keeps W0 r0 s) (ht : execLinkBackoffEnd dt p s = .next t0) :
    Keeps W0 r0 t0 := by
  unfold execLinkBackoffEnd at ht
  dsimp only at ht
  injection ht with ht
  subst ht
  repeat' first
    | with_reducible assumption
    | with_reducible apply advance_keeps
    | with_reducible apply toDetect_keeps
    | split

theorem execChainDown_keeps {W0 : List Part} {r0 : State} (p : Nat) (s : State) (h_regs : Part.regs ∈ W0) (h_hif : Part.hif ∈ W0) (h_chn : Part.chn ∈ W0) (h_lnk : Part.lnk ∈ W0) (h_tan : Part.tan ∈ W0) (h_cal : Part.cal ∈ W0) (h_out : Part.out ∈ W0) {t0 : State} (h0 : Keeps W0 r0 s) (ht : execChainDown p s = .next t0) :
    Keeps W0 r0 t0 := by
  unfold execChainDown at ht
  injection ht with ht
  subst ht
  repeat' first
    | with_reducible assumption
    | with_reducible apply portDown_keeps
    | split

theorem execLaneSpare_keeps {W0 : List Part} {r0 : State} (p : Nat) (n : Nat) (s : State) (h_regs : Part.regs ∈ W0) (h_hif : Part.hif ∈ W0) (h_chn : Part.chn ∈ W0) (h_lnk : Part.lnk ∈ W0) (h_tim : Part.tim ∈ W0) (h_tan : Part.tan ∈ W0) (h_cal : Part.cal ∈ W0) (h_out : Part.out ∈ W0) (h_free : Part.free ∈ W0) {t0 : State} (h0 : Keeps W0 r0 s) (ht : execLaneSpare p n s = .next t0) :
    Keeps W0 r0 t0 := by
  unfold execLaneSpare at ht
  injection ht with ht
  subst ht
  repeat' first
    | with_reducible assumption
    | with_reducible apply laneLost_keeps
    | split

theorem execSteerReceive_keeps {W0 : List Part} {r0 : State} (p : Nat) (cmd : Nat) (ncmd : Nat) (s : State) (h_lnk : Part.lnk ∈ W0) (h_out : Part.out ∈ W0) {t0 : State} (h0 : Keeps W0 r0 s) (ht : execSteerReceive p cmd ncmd s = .next t0) :
    Keeps W0 r0 t0 := by
  unfold execSteerReceive at ht
  injection ht with ht
  subst ht
  repeat' first
    | with_reducible assumption
    | with_reducible apply steerReceive_keeps
    | split

theorem execSteerRepeat_keeps {W0 : List Part} {r0 : State} (x : After) (s : State) (h_regs : Part.regs ∈ W0) (h_hif : Part.hif ∈ W0) (h_chn : Part.chn ∈ W0) (h_lnk : Part.lnk ∈ W0) (h_tim : Part.tim ∈ W0) (h_time : Part.time ∈ W0) (h_wraps : Part.wraps ∈ W0) (h_up : Part.up ∈ W0) (h_out : Part.out ∈ W0) (h_free : Part.free ∈ W0) {t0 : State} (h0 : Keeps W0 r0 s) (ht : execSteerRepeat x s = .next t0) :
    Keeps W0 r0 t0 := by
  unfold execSteerRepeat at ht
  dsimp only at ht
  injection ht with ht
  subst ht
  repeat' first
    | with_reducible assumption
    | with_reducible apply advance_keeps
    | with_reducible apply steerRepeat_keeps
    | split

theorem execPannierSwitch_keeps {W0 : List Part} {r0 : State} (p : Nat) (s : State) (h_regs : Part.regs ∈ W0) {t0 : State} (h0 : Keeps W0 r0 s) (ht : execPannierSwitch p s = .next t0) :
    Keeps W0 r0 t0 := by
  unfold execPannierSwitch at ht
  injection ht with ht
  subst ht
  repeat' first
    | with_reducible assumption
    | with_reducible apply pannierSwitch_keeps
    | split

theorem execElasticSlip_keeps {W0 : List Part} {r0 : State} (x : SlipAt) (s : State) (h_regs : Part.regs ∈ W0) (h_lnk : Part.lnk ∈ W0) {t0 : State} (h0 : Keeps W0 r0 s) (ht : execElasticSlip x s = .next t0) :
    Keeps W0 r0 t0 := by
  unfold execElasticSlip at ht
  injection ht with ht
  subst ht
  repeat' first
    | with_reducible assumption
    | with_reducible apply elasticSlip_keeps
    | split

theorem execReseedTimer_keeps {W0 : List Part} {r0 : State} (dt : Nat) (p : Nat) (s : State) (h_regs : Part.regs ∈ W0) (h_hif : Part.hif ∈ W0) (h_chn : Part.chn ∈ W0) (h_lnk : Part.lnk ∈ W0) (h_time : Part.time ∈ W0) (h_wraps : Part.wraps ∈ W0) (h_up : Part.up ∈ W0) (h_out : Part.out ∈ W0) {t0 : State} (h0 : Keeps W0 r0 s) (ht : execReseedTimer dt p s = .next t0) :
    Keeps W0 r0 t0 := by
  unfold execReseedTimer at ht
  dsimp only at ht
  injection ht with ht
  subst ht
  repeat' first
    | with_reducible assumption
    | with_reducible apply advance_keeps
    | with_reducible apply reseed_keeps
    | split

theorem execBlockReceive_keeps {W0 : List Part} {r0 : State} (p : Nat) (coms : Nat) (marks : List Nat) (o : BlockObs) (s : State) (h_regs : Part.regs ∈ W0) (h_lnk : Part.lnk ∈ W0) (h_tim : Part.tim ∈ W0) (h_out : Part.out ∈ W0) (h_free : Part.free ∈ W0) {t0 : State} (h0 : Keeps W0 r0 s) (ht : execBlockReceive p coms marks o s = .next t0) :
    Keeps W0 r0 t0 := by
  unfold execBlockReceive at ht
  injection ht with ht
  subst ht
  repeat' first
    | with_reducible assumption
    | with_reducible apply blockReceive_keeps
    | split

theorem execAdaptWindow_keeps {W0 : List Part} {r0 : State} (p : Nat) (l : Nat) (diff : Nat) (taps : Taps) (s : State) (h_regs : Part.regs ∈ W0) (h_lnk : Part.lnk ∈ W0) {t0 : State} (h0 : Keeps W0 r0 s) (ht : execAdaptWindow p l diff taps s = .next t0) :
    Keeps W0 r0 t0 := by
  unfold execAdaptWindow at ht
  injection ht with ht
  subst ht
  repeat' first
    | with_reducible assumption
    | with_reducible apply adaptWindow_keeps
    | split

theorem execMarginMeasure_keeps {W0 : List Part} {r0 : State} (p : Nat) (l : Nat) (ew : Nat) (eh : Nat) (s : State) (h_regs : Part.regs ∈ W0) (h_lnk : Part.lnk ∈ W0) (h_cal : Part.cal ∈ W0) {t0 : State} (h0 : Keeps W0 r0 s) (ht : execMarginMeasure p l ew eh s = .next t0) :
    Keeps W0 r0 t0 := by
  unfold execMarginMeasure at ht
  injection ht with ht
  subst ht
  repeat' first
    | with_reducible assumption
    | with_reducible apply marginMeasure_keeps
    | split

theorem execTimingPortChange_keeps {W0 : List Part} {r0 : State} (s : State) (h_regs : Part.regs ∈ W0) (h_lnk : Part.lnk ∈ W0) {t0 : State} (h0 : Keeps W0 r0 s) (ht : execTimingPortChange s = .next t0) :
    Keeps W0 r0 t0 := by
  unfold execTimingPortChange at ht
  apply whenOn_keeps (ht := ht)
  repeat' first
    | with_reducible assumption
    | with_reducible apply timingChange_keeps
    | split
    | dsimp only
    | intro _

theorem execTimingPortLocked_keeps {W0 : List Part} {r0 : State} (s : State) (h_regs : Part.regs ∈ W0) (h_lnk : Part.lnk ∈ W0) {t0 : State} (h0 : Keeps W0 r0 s) (ht : execTimingPortLocked s = .next t0) :
    Keeps W0 r0 t0 := by
  unfold execTimingPortLocked at ht
  apply whenOn_keeps (ht := ht)
  repeat' first
    | with_reducible assumption
    | with_reducible apply timingLocked_keeps
    | split
    | dsimp only
    | intro _

end Sys2Proof.Machine
end

