-- ==== Sys2Proof/Laws/KeepChn.lean ====
section
/-! SUPPORT. What each operation of Machine/Chn.lean touches. -/

namespace Sys2Proof.Machine

theorem deliver_keeps {W0 : List Part} {r0 : State} (s : State) (p : Nat) (c : Bytes) (t : Nat) (h_chn : Part.chn ∈ W0) (h0 : Keeps W0 r0 s) :
    Keeps W0 r0 (deliver s p c t) := by
  unfold deliver
  repeat' first
    | with_reducible assumption
    | simp only [Keeps.chn, h_chn]

theorem consume_keeps {W0 : List Part} {r0 : State} (s : State) (p : Nat) (w : Bytes) (t : Nat) (h_regs : Part.regs ∈ W0) (h_chn : Part.chn ∈ W0) (h0 : Keeps W0 r0 s) :
    Keeps W0 r0 (consume s p w t) := by
  unfold consume
  repeat' first
    | with_reducible assumption
    | with_reducible apply incSat_keeps
    | with_reducible apply deliver_keeps
    | split
    | dsimp only

theorem sendInserted_keeps {W0 : List Part} {r0 : State} (s : State) (p : Nat) (h_chn : Part.chn ∈ W0) (h_tim : Part.tim ∈ W0) (h_out : Part.out ∈ W0) (h0 : Keeps W0 r0 s) :
    Keeps W0 r0 (sendInserted s p) := by
  unfold sendInserted
  repeat' first
    | with_reducible assumption
    | simp only [Keeps.chn, h_chn]
    | with_reducible apply emit_keeps
    | with_reducible apply preqLeft_keeps
    | split

theorem forwardSlot_keeps {W0 : List Part} {r0 : State} (s : State) (p : Nat) (w : Bytes) (free : Bool) (h_chn : Part.chn ∈ W0) (h_tim : Part.tim ∈ W0) (h_out : Part.out ∈ W0) (h0 : Keeps W0 r0 s) :
    Keeps W0 r0 (forwardSlot s p w free) := by
  unfold forwardSlot
  repeat' first
    | with_reducible assumption
    | with_reducible apply emit_keeps
    | with_reducible apply sendInserted_keeps
    | split
    | dsimp only

theorem countSymbols_keeps {W0 : List Part} {r0 : State} (s : State) (p : Nat) (cv : List Nat) (disp : List Nat) (h_regs : Part.regs ∈ W0) (h0 : Keeps W0 r0 s) :
    Keeps W0 r0 (countSymbols s p cv disp) := by
  unfold countSymbols
  repeat' first
    | with_reducible assumption
    | with_reducible apply incSat_keeps
    | with_reducible apply Keeps.foldl
    | split
    | dsimp only
    | intro _

theorem classify_keeps {W0 : List Part} {r0 : State} (s : State) (p : Nat) (w : Bytes) (h_regs : Part.regs ∈ W0) (h_chn : Part.chn ∈ W0) (h_tim : Part.tim ∈ W0) (h_out : Part.out ∈ W0) (h0 : Keeps W0 r0 s) :
    Keeps W0 r0 (classify s p w) := by
  unfold classify
  repeat' first
    | with_reducible assumption
    | simp only [Keeps.chn, h_chn]
    | with_reducible apply incSat_keeps
    | with_reducible apply consume_keeps
    | with_reducible apply forwardSlot_keeps
    | split

theorem takeCodeword_keeps {W0 : List Part} {r0 : State} (s : State) (p : Nat) (raw : Bytes) (cv : List Nat) (v : Nat) (h_regs : Part.regs ∈ W0) (h_hif : Part.hif ∈ W0) (h_chn : Part.chn ∈ W0) (h_lnk : Part.lnk ∈ W0) (h_tim : Part.tim ∈ W0) (h_tan : Part.tan ∈ W0) (h_cal : Part.cal ∈ W0) (h_out : Part.out ∈ W0) (h0 : Keeps W0 r0 s) :
    Keeps W0 r0 (takeCodeword s p raw cv v) := by
  unfold takeCodeword
  repeat' first
    | with_reducible assumption
    | with_reducible apply incSat_keeps
    | with_reducible apply setPort_keeps
    | with_reducible apply portDown_keeps
    | with_reducible apply sendInserted_keeps
    | with_reducible apply classify_keeps
    | with_reducible refine Keeps.of_snd (by with_reducible assumption) ?_
    | with_reducible refine Keeps.of_snd2 (by with_reducible assumption) ?_
    | split
    | dsimp only

theorem cellForward_keeps {W0 : List Part} {r0 : State} (s : State) (p : Nat) (raw : Bytes) (cv : List Nat) (disp : List Nat) (h_regs : Part.regs ∈ W0) (h_hif : Part.hif ∈ W0) (h_chn : Part.chn ∈ W0) (h_lnk : Part.lnk ∈ W0) (h_tim : Part.tim ∈ W0) (h_tan : Part.tan ∈ W0) (h_cal : Part.cal ∈ W0) (h_out : Part.out ∈ W0) (h0 : Keeps W0 r0 s) :
    Keeps W0 r0 (cellForward s p raw cv disp) := by
  unfold cellForward
  repeat' first
    | with_reducible assumption
    | with_reducible apply testSlot_keeps
    | with_reducible apply countSymbols_keeps
    | with_reducible apply takeCodeword_keeps
    | split
    | dsimp only

theorem candidateDone_keeps {W0 : List Part} {r0 : State} (s : State) (h_regs : Part.regs ∈ W0) (h_chn : Part.chn ∈ W0) (h0 : Keeps W0 r0 s) :
    Keeps W0 r0 (candidateDone s) := by
  unfold candidateDone
  repeat' first
    | with_reducible assumption
    | simp only [Keeps.chn, h_chn]
    | with_reducible apply incSat_keeps
    | with_reducible apply deliver_keeps
    | split

theorem insertTimeout_keeps {W0 : List Part} {r0 : State} (s : State) (p : Nat) (h_regs : Part.regs ∈ W0) (h_chn : Part.chn ∈ W0) (h0 : Keeps W0 r0 s) :
    Keeps W0 r0 (insertTimeout s p) := by
  unfold insertTimeout
  repeat' first
    | with_reducible assumption
    | simp only [Keeps.chn, h_chn]
    | with_reducible apply incSat_keeps
    | split

theorem tileReply_keeps {W0 : List Part} {r0 : State} (s : State) (p : Nat) (ltype : Nat) (rank : Nat) (lid : Nat) (slot : Option (Nat × Nat × Bytes)) (content : Bytes) (h_regs : Part.regs ∈ W0) (h_chn : Part.chn ∈ W0) (h0 : Keeps W0 r0 s) :
    Keeps W0 r0 (tileReply s p ltype rank lid slot content) := by
  unfold tileReply
  dsimp only
  split
  · rename_i hx
    obtain ⟨k, -, hx⟩ := Option.bind_eq_some_iff.1 hx
    obtain ⟨q, hq, he⟩ := Option.map_eq_some_iff.1 hx
    injection he with _ he
    subst he
    with_reducible apply insertCells_keeps <;> first | assumption | exact sealReply_keeps h_chn hq h0
  · with_reducible apply insertCells_keeps <;> assumption

theorem reply_keeps {W0 : List Part} {r0 : State} (s : State) (l : Letter) (content : Bytes) (h_regs : Part.regs ∈ W0) (h_chn : Part.chn ∈ W0) (h0 : Keeps W0 r0 s) :
    Keeps W0 r0 (reply s l content) := by
  unfold reply
  repeat' first
    | with_reducible assumption
    | with_reducible apply tileReply_keeps
    | split

theorem refuse_keeps {W0 : List Part} {r0 : State} (s : State) (l : Letter) (c : Status) (h_regs : Part.regs ∈ W0) (h_chn : Part.chn ∈ W0) (h0 : Keeps W0 r0 s) :
    Keeps W0 r0 (refuse s l c) := by
  unfold refuse
  repeat' first
    | with_reducible assumption
    | with_reducible apply incSat_keeps
    | with_reducible apply reply_keeps

theorem answer_keeps {W0 : List Part} {r0 : State} (s : State) (l : Letter) (c : Status) (rest : Bytes) (h_regs : Part.regs ∈ W0) (h_chn : Part.chn ∈ W0) (h0 : Keeps W0 r0 s) :
    Keeps W0 r0 (answer s l c rest) := by
  unfold answer
  repeat' first
    | with_reducible assumption
    | with_reducible apply incSat_keeps
    | with_reducible apply reply_keeps
    | split

theorem openAtTile_keeps {W0 : List Part} {r0 : State} (s : State) (l : Letter) (h_chn : Part.chn ∈ W0) (h0 : Keeps W0 r0 s) :
    Keeps W0 r0 (openAtTile s l).2.2 := by
  unfold openAtTile
  repeat' first
    | with_reducible assumption
    | with_reducible apply touchKeySlot_keeps
    | split
    | dsimp only

theorem letterAtTile_keeps {W0 : List Part} {r0 : State} (s : State) (l : Letter) (h_regs : Part.regs ∈ W0) (h_chn : Part.chn ∈ W0) (h0 : Keeps W0 r0 s) :
    Keeps W0 r0 (letterAtTile s l) := by
  unfold letterAtTile
  repeat' first
    | with_reducible assumption
    | simp only [Keeps.chn, h_chn]
    | with_reducible apply refuse_keeps
    | with_reducible apply openAtTile_keeps
    | with_reducible refine Keeps.of_snd (by with_reducible assumption) ?_
    | with_reducible refine Keeps.of_snd2 (by with_reducible assumption) ?_
    | split

theorem segRefuse_keeps {W0 : List Part} {r0 : State} (s : State) (x : RxCell) (c : Status) (h_regs : Part.regs ∈ W0) (h_chn : Part.chn ∈ W0) (h0 : Keeps W0 r0 s) :
    Keeps W0 r0 (segRefuse s x c) := by
  unfold segRefuse
  repeat' first
    | with_reducible assumption
    | with_reducible apply incSat_keeps
    | with_reducible apply refuse_keeps
    | split

theorem letterDone_keeps {W0 : List Part} {r0 : State} (s : State) (l : Letter) (h_regs : Part.regs ∈ W0) (h_chn : Part.chn ∈ W0) (h0 : Keeps W0 r0 s) :
    Keeps W0 r0 (letterDone s l) := by
  unfold letterDone
  repeat' first
    | with_reducible assumption
    | simp only [Keeps.chn, h_chn]
    | with_reducible apply letterAtTile_keeps
    | split

theorem segment_keeps {W0 : List Part} {r0 : State} (s : State) (x : RxCell) (h_regs : Part.regs ∈ W0) (h_chn : Part.chn ∈ W0) (h0 : Keeps W0 r0 s) :
    Keeps W0 r0 (segment s x) := by
  unfold segment
  repeat' first
    | with_reducible assumption
    | simp only [Keeps.chn, h_chn]
    | with_reducible apply segRefuse_keeps
    | with_reducible apply letterDone_keeps
    | split

theorem reasmTimeout_keeps {W0 : List Part} {r0 : State} (s : State) (h_regs : Part.regs ∈ W0) (h_chn : Part.chn ∈ W0) (h0 : Keeps W0 r0 s) :
    Keeps W0 r0 (reasmTimeout s) := by
  unfold reasmTimeout
  repeat' first
    | with_reducible assumption
    | simp only [Keeps.chn, h_chn]
    | with_reducible apply incSat_keeps
    | split

theorem rollReply_keeps {W0 : List Part} {r0 : State} (s : State) (p : Nat) (rank : Nat) (rid : Nat) (c : Status) (h_regs : Part.regs ∈ W0) (h_chn : Part.chn ∈ W0) (h0 : Keeps W0 r0 s) :
    Keeps W0 r0 (rollReply s p rank rid c) := by
  unfold rollReply
  repeat' first
    | with_reducible assumption
    | with_reducible apply newLid_keeps
    | with_reducible apply tileReply_keeps

theorem adopt_keeps {W0 : List Part} {r0 : State} (s : State) (chain : Nat) (pos : Nat) (src : Nat) (h_regs : Part.regs ∈ W0) (h0 : Keeps W0 r0 s) :
    Keeps W0 r0 (adopt s chain pos src) := by
  unfold adopt
  repeat' first
    | with_reducible assumption
    | with_reducible apply setF_keeps

theorem sendRollcall_keeps {W0 : List Part} {r0 : State} (s : State) (h_chn : Part.chn ∈ W0) (h_out : Part.out ∈ W0) (h_free : Part.free ∈ W0) (h0 : Keeps W0 r0 s) :
    Keeps W0 r0 (sendRollcall s) := by
  unfold sendRollcall
  repeat' first
    | with_reducible assumption
    | with_reducible apply drawNat_keeps
    | with_reducible apply newLid_keeps
    | with_reducible apply sendNow_keeps
    | with_reducible apply Keeps.foldl
    | with_reducible refine Keeps.of_snd (by with_reducible assumption) ?_
    | with_reducible refine Keeps.of_snd2 (by with_reducible assumption) ?_
    | split
    | dsimp only
    | intro _

theorem rollcall_keeps {W0 : List Part} {r0 : State} (s : State) (x : RxCell) (h_regs : Part.regs ∈ W0) (h_chn : Part.chn ∈ W0) (h0 : Keeps W0 r0 s) :
    Keeps W0 r0 (rollcall s x) := by
  unfold rollcall
  repeat' first
    | with_reducible assumption
    | simp only [Keeps.chn, h_chn]
    | with_reducible apply setF_keeps
    | with_reducible apply insertCell_keeps
    | with_reducible apply rollReply_keeps
    | with_reducible apply adopt_keeps
    | split

theorem sendDone_keeps {W0 : List Part} {r0 : State} (s : State) (it : Item) (c : Status) (rcode : Nat) (lid : Nat) (replies : Nat) (h_regs : Part.regs ∈ W0) (h_hif : Part.hif ∈ W0) (h_queues : Part.queues ∈ W0) (h_sor : Part.sor ∈ W0) (h_ring : Part.ring ∈ W0) (h_out : Part.out ∈ W0) (h0 : Keeps W0 r0 s) :
    Keeps W0 r0 (sendDone s it c rcode lid replies) := by
  unfold sendDone
  repeat' first
    | with_reducible assumption
    | with_reducible apply complete40_keeps

theorem sendEntry_keeps {W0 : List Part} {r0 : State} (s : State) (it : Item) (host : HostRes) (h_regs : Part.regs ∈ W0) (h_hif : Part.hif ∈ W0) (h_queues : Part.queues ∈ W0) (h_sor : Part.sor ∈ W0) (h_srf : Part.srf ∈ W0) (h_drc : Part.drc ∈ W0) (h_chn : Part.chn ∈ W0) (h_sec : Part.sec ∈ W0) (h_ring : Part.ring ∈ W0) (h_out : Part.out ∈ W0) (h_free : Part.free ∈ W0) (h0 : Keeps W0 r0 s) :
    Keeps W0 r0 (sendEntry s it host) := by
  unfold sendEntry
  repeat' first
    | with_reducible assumption
    | simp only [Keeps.chn, h_chn]
    | with_reducible apply newLid_keeps
    | with_reducible apply areaFetch_keeps
    | with_reducible apply sendLetter_keeps
    | with_reducible apply sendDone_keeps
    | with_reducible refine Keeps.of_snd (by with_reducible assumption) ?_
    | with_reducible refine Keeps.of_snd2 (by with_reducible assumption) ?_
    | split

theorem openReply_keeps {W0 : List Part} {r0 : State} {s : State} {l : Letter} (h_sec : Part.sec ∈ W0) {it : Bytes} {t0 : State}
    (hx : openReply s l = some (it, t0)) (h0 : Keeps W0 r0 s) : Keeps W0 r0 t0 := by
  unfold openReply at hx
  split at hx
  · injection hx with hx
    injection hx with _ hx
    exact hx ▸ h0
  · split at hx
    · split at hx
      · split at hx
        · injection hx with hx
          injection hx with _ hx
          subst hx
          with_reducible apply setKeyRec_keeps <;> assumption
        · cases hx
      · cases hx
    · cases hx

theorem sendReply_keeps {W0 : List Part} {r0 : State} (s : State) (x : Send) (l : Letter) (code : Nat) (h_regs : Part.regs ∈ W0) (h_hif : Part.hif ∈ W0) (h_queues : Part.queues ∈ W0) (h_sor : Part.sor ∈ W0) (h_srf : Part.srf ∈ W0) (h_drc : Part.drc ∈ W0) (h_chn : Part.chn ∈ W0) (h_dram : Part.dram ∈ W0) (h_ring : Part.ring ∈ W0) (h_out : Part.out ∈ W0) (h_free : Part.free ∈ W0) (h0 : Keeps W0 r0 s) :
    Keeps W0 r0 (sendReply s x l code) := by
  unfold sendReply
  repeat' first
    | with_reducible assumption
    | simp only [Keeps.chn, h_chn]
    | with_reducible apply svcWrite_keeps
    | with_reducible apply sendDone_keeps
    | split

theorem sendReplyStep_keeps {W0 : List Part} {r0 : State} (s : State) (h_regs : Part.regs ∈ W0) (h_hif : Part.hif ∈ W0) (h_queues : Part.queues ∈ W0) (h_sor : Part.sor ∈ W0) (h_srf : Part.srf ∈ W0) (h_drc : Part.drc ∈ W0) (h_chn : Part.chn ∈ W0) (h_sec : Part.sec ∈ W0) (h_dram : Part.dram ∈ W0) (h_ring : Part.ring ∈ W0) (h_out : Part.out ∈ W0) (h_free : Part.free ∈ W0) (h0 : Keeps W0 r0 s) :
    Keeps W0 r0 (sendReplyStep s) := by
  unfold sendReplyStep
  repeat' first
    | with_reducible assumption
    | with_reducible refine takeLetter_keeps (hx := by with_reducible assumption) ?_ ?_
    | with_reducible refine openReply_keeps (hx := by with_reducible assumption) ?_ ?_
    | with_reducible apply sendReply_keeps
    | split

theorem sendTimeout_keeps {W0 : List Part} {r0 : State} (s : State) (h_regs : Part.regs ∈ W0) (h_hif : Part.hif ∈ W0) (h_queues : Part.queues ∈ W0) (h_sor : Part.sor ∈ W0) (h_chn : Part.chn ∈ W0) (h_ring : Part.ring ∈ W0) (h_out : Part.out ∈ W0) (h0 : Keeps W0 r0 s) :
    Keeps W0 r0 (sendTimeout s) := by
  unfold sendTimeout
  repeat' first
    | with_reducible assumption
    | simp only [Keeps.chn, h_chn]
    | with_reducible apply sendDone_keeps
    | split

theorem inboxStore_keeps {W0 : List Part} {r0 : State} (s : State) (l : Letter) (h_regs : Part.regs ∈ W0) (h_hif : Part.hif ∈ W0) (h_srf : Part.srf ∈ W0) (h_drc : Part.drc ∈ W0) (h_chn : Part.chn ∈ W0) (h_dram : Part.dram ∈ W0) (h_out : Part.out ∈ W0) (h_free : Part.free ∈ W0) (h0 : Keeps W0 r0 s) :
    Keeps W0 r0 (inboxStore s l) := by
  unfold inboxStore
  repeat' first
    | with_reducible assumption
    | with_reducible apply setF_keeps
    | with_reducible apply incSat_keeps
    | with_reducible apply sendVec_keeps
    | with_reducible apply svcWrite_keeps
    | split
    | dsimp only

theorem inboxStep_keeps {W0 : List Part} {r0 : State} (s : State) (h_regs : Part.regs ∈ W0) (h_hif : Part.hif ∈ W0) (h_srf : Part.srf ∈ W0) (h_drc : Part.drc ∈ W0) (h_chn : Part.chn ∈ W0) (h_dram : Part.dram ∈ W0) (h_out : Part.out ∈ W0) (h_free : Part.free ∈ W0) (h0 : Keeps W0 r0 s) :
    Keeps W0 r0 (inboxStep s) := by
  unfold inboxStep
  repeat' first
    | with_reducible assumption
    | with_reducible refine takeLetter_keeps (hx := by with_reducible assumption) ?_ ?_
    | with_reducible apply inboxStore_keeps
    | split

theorem chnBlockReset_keeps {W0 : List Part} {r0 : State} (s : State) (h_regs : Part.regs ∈ W0) (h_hif : Part.hif ∈ W0) (h_queues : Part.queues ∈ W0) (h_sor : Part.sor ∈ W0) (h_chn : Part.chn ∈ W0) (h_lnk : Part.lnk ∈ W0) (h_sec : Part.sec ∈ W0) (h_lmp : Part.lmp ∈ W0) (h_ring : Part.ring ∈ W0) (h_out : Part.out ∈ W0) (h0 : Keeps W0 r0 s) :
    Keeps W0 r0 (chnBlockReset s) := by
  unfold chnBlockReset
  repeat' first
    | with_reducible assumption
    | simp only [Keeps.chn_sec_lmp, h_chn, h_lmp, h_sec]
    | with_reducible apply resetRegs_keeps
    | with_reducible apply stopForward_keeps
    | with_reducible apply sendDone_keeps
    | with_reducible apply Keeps.foldl
    | split
    | dsimp only
    | intro _

theorem execCellForward_keeps {W0 : List Part} {r0 : State} (dt : Nat) (p : Nat) (raw : Bytes) (cv : List Nat) (disp : List Nat) (s : State) (h_regs : Part.regs ∈ W0) (h_hif : Part.hif ∈ W0) (h_chn : Part.chn ∈ W0) (h_lnk : Part.lnk ∈ W0) (h_tim : Part.tim ∈ W0) (h_tan : Part.tan ∈ W0) (h_cal : Part.cal ∈ W0) (h_time : Part.time ∈ W0) (h_wraps : Part.wraps ∈ W0) (h_up : Part.up ∈ W0) (h_out : Part.out ∈ W0) {t0 : State} (h0 : Keeps W0 r0 s) (ht : execCellForward dt p raw cv disp s = .next t0) :
    Keeps W0 r0 t0 := by
  unfold execCellForward at ht
  dsimp only at ht
  injection ht with ht
  subst ht
  repeat' first
    | with_reducible assumption
    | with_reducible apply advance_keeps
    | with_reducible apply cellForward_keeps
    | split

theorem execCandidateCorrected_keeps {W0 : List Part} {r0 : State} (s : State) (h_regs : Part.regs ∈ W0) (h_chn : Part.chn ∈ W0) {t0 : State} (h0 : Keeps W0 r0 s) (ht : execCandidateCorrected s = .next t0) :
    Keeps W0 r0 t0 := by
  unfold execCandidateCorrected at ht
  apply whenOn_keeps (ht := ht)
  repeat' first
    | with_reducible assumption
    | with_reducible apply candidateDone_keeps
    | split
    | dsimp only
    | intro _

theorem execInsertQueueTimeout_keeps {W0 : List Part} {r0 : State} (dt : Nat) (p : Nat) (s : State) (h_regs : Part.regs ∈ W0) (h_hif : Part.hif ∈ W0) (h_chn : Part.chn ∈ W0) (h_time : Part.time ∈ W0) (h_wraps : Part.wraps ∈ W0) (h_up : Part.up ∈ W0) (h_out : Part.out ∈ W0) {t0 : State} (h0 : Keeps W0 r0 s) (ht : execInsertQueueTimeout dt p s = .next t0) :
    Keeps W0 r0 t0 := by
  unfold execInsertQueueTimeout at ht
  apply whenOn_keeps (ht := ht)
  repeat' first
    | with_reducible assumption
    | with_reducible apply advance_keeps
    | with_reducible apply insertTimeout_keeps
    | split
    | dsimp only
    | intro _

theorem execLetterSegment_keeps {W0 : List Part} {r0 : State} (s : State) (h_regs : Part.regs ∈ W0) (h_chn : Part.chn ∈ W0) {t0 : State} (h0 : Keeps W0 r0 s) (ht : execLetterSegment s = .next t0) :
    Keeps W0 r0 t0 := by
  unfold execLetterSegment at ht
  apply whenOn_keeps (ht := ht)
  repeat' first
    | with_reducible assumption
    | with_reducible refine takeRx_keeps (hx := by with_reducible assumption) ?_ ?_
    | with_reducible apply segment_keeps
    | split
    | dsimp only
    | intro _

theorem execReassemblyTimeout_keeps {W0 : List Part} {r0 : State} (dt : Nat) (s : State) (h_regs : Part.regs ∈ W0) (h_hif : Part.hif ∈ W0) (h_chn : Part.chn ∈ W0) (h_time : Part.time ∈ W0) (h_wraps : Part.wraps ∈ W0) (h_up : Part.up ∈ W0) (h_out : Part.out ∈ W0) {t0 : State} (h0 : Keeps W0 r0 s) (ht : execReassemblyTimeout dt s = .next t0) :
    Keeps W0 r0 t0 := by
  unfold execReassemblyTimeout at ht
  apply whenOn_keeps (ht := ht)
  repeat' first
    | with_reducible assumption
    | with_reducible apply advance_keeps
    | with_reducible apply reasmTimeout_keeps
    | split
    | dsimp only
    | intro _

theorem execRollcallCell_keeps {W0 : List Part} {r0 : State} (s : State) (h_regs : Part.regs ∈ W0) (h_chn : Part.chn ∈ W0) (h_out : Part.out ∈ W0) (h_free : Part.free ∈ W0) {t0 : State} (h0 : Keeps W0 r0 s) (ht : execRollcallCell s = .next t0) :
    Keeps W0 r0 t0 := by
  unfold execRollcallCell at ht
  apply whenOn_keeps (ht := ht)
  repeat' first
    | with_reducible assumption
    | with_reducible refine takeRx_keeps (hx := by with_reducible assumption) ?_ ?_
    | with_reducible apply sendRollcall_keeps
    | with_reducible apply rollcall_keeps
    | split
    | dsimp only
    | intro _

theorem execSendEntry_keeps {W0 : List Part} {r0 : State} (host : HostRes) (s : State) (h_regs : Part.regs ∈ W0) (h_hif : Part.hif ∈ W0) (h_queues : Part.queues ∈ W0) (h_sor : Part.sor ∈ W0) (h_srf : Part.srf ∈ W0) (h_drc : Part.drc ∈ W0) (h_chn : Part.chn ∈ W0) (h_sec : Part.sec ∈ W0) (h_ring : Part.ring ∈ W0) (h_out : Part.out ∈ W0) (h_free : Part.free ∈ W0) {t0 : State} (h0 : Keeps W0 r0 s) (ht : execSendEntry host s = .next t0) :
    Keeps W0 r0 t0 := by
  unfold execSendEntry at ht
  apply whenOn_keeps (ht := ht)
  repeat' first
    | with_reducible assumption
    | with_reducible apply onEntryRead_keeps
    | with_reducible apply sendEntry_keeps
    | split
    | dsimp only
    | intro _

theorem execSendReply_keeps {W0 : List Part} {r0 : State} (s : State) (h_regs : Part.regs ∈ W0) (h_hif : Part.hif ∈ W0) (h_queues : Part.queues ∈ W0) (h_sor : Part.sor ∈ W0) (h_srf : Part.srf ∈ W0) (h_drc : Part.drc ∈ W0) (h_chn : Part.chn ∈ W0) (h_sec : Part.sec ∈ W0) (h_dram : Part.dram ∈ W0) (h_ring : Part.ring ∈ W0) (h_out : Part.out ∈ W0) (h_free : Part.free ∈ W0) {t0 : State} (h0 : Keeps W0 r0 s) (ht : execSendReply s = .next t0) :
    Keeps W0 r0 t0 := by
  unfold execSendReply at ht
  apply whenOn_keeps (ht := ht)
  repeat' first
    | with_reducible assumption
    | with_reducible apply sendReplyStep_keeps
    | split
    | dsimp only
    | intro _

theorem execSendTimeout_keeps {W0 : List Part} {r0 : State} (dt : Nat) (s : State) (h_regs : Part.regs ∈ W0) (h_hif : Part.hif ∈ W0) (h_queues : Part.queues ∈ W0) (h_sor : Part.sor ∈ W0) (h_chn : Part.chn ∈ W0) (h_ring : Part.ring ∈ W0) (h_time : Part.time ∈ W0) (h_wraps : Part.wraps ∈ W0) (h_up : Part.up ∈ W0) (h_out : Part.out ∈ W0) {t0 : State} (h0 : Keeps W0 r0 s) (ht : execSendTimeout dt s = .next t0) :
    Keeps W0 r0 t0 := by
  unfold execSendTimeout at ht
  apply whenOn_keeps (ht := ht)
  repeat' first
    | with_reducible assumption
    | with_reducible apply advance_keeps
    | with_reducible apply sendTimeout_keeps
    | split
    | dsimp only
    | intro _

theorem execInboxRecord_keeps {W0 : List Part} {r0 : State} (s : State) (h_regs : Part.regs ∈ W0) (h_hif : Part.hif ∈ W0) (h_srf : Part.srf ∈ W0) (h_drc : Part.drc ∈ W0) (h_chn : Part.chn ∈ W0) (h_dram : Part.dram ∈ W0) (h_out : Part.out ∈ W0) (h_free : Part.free ∈ W0) {t0 : State} (h0 : Keeps W0 r0 s) (ht : execInboxRecord s = .next t0) :
    Keeps W0 r0 t0 := by
  unfold execInboxRecord at ht
  apply whenOn_keeps (ht := ht)
  repeat' first
    | with_reducible assumption
    | with_reducible apply inboxStep_keeps
    | split
    | dsimp only
    | intro _

end Sys2Proof.Machine
end

