-- ==== Sys2Proof/Laws/KeepNvm.lean ====
section
/-! SUPPORT. What each operation of Machine/Nvm.lean touches. -/

namespace Sys2Proof.Machine

theorem flashWr_keeps {W0 : List Part} {r0 : State} (s : State) (slot off : Nat) (b : Bytes) (h_upd : Part.upd ∈ W0)
    (h_flash : Part.flash ∈ W0) (h0 : Keeps W0 r0 s) : Keeps W0 r0 (flashWr s slot off b) := by
  refine h0.leaf rfl (fun hw => ?_)
    (fun p hp => by cases p <;> first | rfl | exact absurd h_upd hp | exact absurd h_flash hp)
  simp only [State.wf, flashWr, Bool.and_eq_true] at hw ⊢
  exact ⟨⟨⟨⟨hw.1.1.1.1, hw.1.1.1.2⟩, hw.1.1.2⟩, tcanon_wrBytes _ b hw.1.2⟩, hw.2⟩

theorem flashOut_keeps {W0 : List Part} {r0 : State} (s : State) (o : FlashOp) (h_out : Part.out ∈ W0) (h_free : Part.free ∈ W0) (h0 : Keeps W0 r0 s) :
    Keeps W0 r0 (flashOut s o) := by
  unfold flashOut
  repeat' first
    | with_reducible assumption
    | with_reducible apply drawNat_keeps
    | with_reducible apply emit_keeps
    | with_reducible refine Keeps.of_snd (by with_reducible assumption) ?_
    | with_reducible refine Keeps.of_snd2 (by with_reducible assumption) ?_
    | split

theorem flashStart_keeps {W0 : List Part} {r0 : State} (s : State) (h_regs : Part.regs ∈ W0) (h_out : Part.out ∈ W0) (h_free : Part.free ∈ W0) (h0 : Keeps W0 r0 s) :
    Keeps W0 r0 (flashStart s) := by
  unfold flashStart
  repeat' first
    | with_reducible assumption
    | with_reducible apply setF_keeps
    | with_reducible apply flashOut_keeps
    | split

theorem flashPush_keeps {W0 : List Part} {r0 : State} (s : State) (o : FlashOp) (h_regs : Part.regs ∈ W0) (h_upd : Part.upd ∈ W0) (h_out : Part.out ∈ W0) (h_free : Part.free ∈ W0) (h0 : Keeps W0 r0 s) :
    Keeps W0 r0 (flashPush s o) := by
  unfold flashPush
  repeat' first
    | with_reducible assumption
    | simp only [Keeps.upd, h_upd]
    | with_reducible apply flashStart_keeps
    | split

theorem pushMaps_keeps {W0 : List Part} {r0 : State} (s : State) (h_regs : Part.regs ∈ W0) (h_upd : Part.upd ∈ W0) (h_out : Part.out ∈ W0) (h_free : Part.free ∈ W0) (h0 : Keeps W0 r0 s) :
    Keeps W0 r0 (pushMaps s) := by
  unfold pushMaps
  repeat' first
    | with_reducible assumption
    | with_reducible apply flashPush_keeps

theorem flashNext_keeps {W0 : List Part} {r0 : State} (s : State) (h_regs : Part.regs ∈ W0) (h_upd : Part.upd ∈ W0) (h_out : Part.out ∈ W0) (h_free : Part.free ∈ W0) (h0 : Keeps W0 r0 s) :
    Keeps W0 r0 (flashNext s) := by
  unfold flashNext
  repeat' first
    | with_reducible assumption
    | simp only [Keeps.upd, h_upd]
    | with_reducible apply flashStart_keeps

end Sys2Proof.Machine
end

