-- ==== Sys2Proof/Laws/KeepSec.lean ====
section
/-! SUPPORT. What each operation of Machine/Sec.lean touches. -/

namespace Sys2Proof.Machine

theorem signWith_keeps {W0 : List Part} {r0 : State} (s : State) (msg : Bytes) (h_free : Part.free ∈ W0) (h0 : Keeps W0 r0 s) :
    Keeps W0 r0 (signWith s msg).2 := by
  unfold signWith
  repeat' first
    | with_reducible assumption
    | simp only [Keeps.free, h_free]

theorem measExtend_keeps {W0 : List Part} {r0 : State} (s : State) (i : Nat) (d : Bytes) (h_sec : Part.sec ∈ W0) (h0 : Keeps W0 r0 s) :
    Keeps W0 r0 (measExtend s i d) := by
  unfold measExtend
  repeat' first
    | with_reducible assumption
    | simp only [Keeps.sec, h_sec]

theorem drawNonce_keeps {W0 : List Part} {r0 : State} (s : State) (h_regs : Part.regs ∈ W0) (h_sec : Part.sec ∈ W0) (h_free : Part.free ∈ W0) (h0 : Keeps W0 r0 s) :
    Keeps W0 r0 (drawNonce s) := by
  unfold drawNonce
  repeat' first
    | with_reducible assumption
    | simp only [Keeps.sec, h_sec]
    | with_reducible apply setWord_keeps
    | with_reducible apply drawBytes_keeps
    | with_reducible apply Keeps.foldl
    | with_reducible refine Keeps.of_snd (by with_reducible assumption) ?_
    | with_reducible refine Keeps.of_snd2 (by with_reducible assumption) ?_
    | split
    | dsimp only
    | intro _

theorem tokenCheck_keeps {W0 : List Part} {r0 : State} (s : State) (t : Bytes) (h_sec : Part.sec ∈ W0) (h0 : Keeps W0 r0 s) :
    Keeps W0 r0 (tokenCheck s t).2 := by
  unfold tokenCheck
  repeat' first
    | with_reducible assumption
    | simp only [Keeps.sec, h_sec]
    | split

theorem tokenAct_keeps {W0 : List Part} {r0 : State} (s : State) (t : Bytes) (h_regs : Part.regs ∈ W0) (h_chn : Part.chn ∈ W0) (h_sec : Part.sec ∈ W0) (h_fuses : Part.fuses ∈ W0) (h0 : Keeps W0 r0 s) :
    Keeps W0 r0 (tokenAct s t) := by
  unfold tokenAct
  repeat' first
    | with_reducible assumption
    | simp only [Keeps.sec, Keeps.sec_fuses, h_fuses, h_sec]
    | with_reducible apply dropKeySlots_keeps
    | with_reducible apply measExtend_keeps
    | split

theorem tokenTake_keeps {W0 : List Part} {r0 : State} (s : State) (t : Bytes) (h_regs : Part.regs ∈ W0) (h_chn : Part.chn ∈ W0) (h_sec : Part.sec ∈ W0) (h_fuses : Part.fuses ∈ W0) (h0 : Keeps W0 r0 s) :
    Keeps W0 r0 (tokenTake s t).2 := by
  unfold tokenTake
  repeat' first
    | with_reducible assumption
    | with_reducible apply incSat_keeps
    | with_reducible apply measExtend_keeps
    | with_reducible apply tokenCheck_keeps
    | with_reducible apply tokenAct_keeps
    | with_reducible refine Keeps.of_snd (by with_reducible assumption) ?_
    | with_reducible refine Keeps.of_snd2 (by with_reducible assumption) ?_
    | split

theorem engineShow_keeps {W0 : List Part} {r0 : State} (s : State) (h_regs : Part.regs ∈ W0) (h0 : Keeps W0 r0 s) :
    Keeps W0 r0 (engineShow s) := by
  unfold engineShow
  repeat' first
    | with_reducible assumption
    | with_reducible apply setF_keeps

theorem engineRun_keeps {W0 : List Part} {r0 : State} (h_regs : Part.regs ∈ W0) (h_sec : Part.sec ∈ W0) (y0 : Nat) (y1 : State)
    (h0 : Keeps W0 r0 y1) :
    Keeps W0 r0 (engineRun y0 y1) := by
  induction y0 generalizing y1 with
  | zero =>
    unfold engineRun
    repeat' first
      | with_reducible assumption
      | simp only [Keeps.sec, h_sec]
      | with_reducible apply ih
      | with_reducible apply engineShow_keeps
  | succ y0 ih =>
    unfold engineRun
    repeat' first
      | with_reducible assumption
      | simp only [Keeps.sec, h_sec]
      | with_reducible apply ih
      | with_reducible apply engineShow_keeps
      | split

theorem engineAdd_keeps {W0 : List Part} {r0 : State} (s : State) (o : EngOp) (h_regs : Part.regs ∈ W0) (h_sec : Part.sec ∈ W0) (h0 : Keeps W0 r0 s) :
    Keeps W0 r0 (engineAdd s o) := by
  unfold engineAdd
  repeat' first
    | with_reducible assumption
    | simp only [Keeps.sec, h_sec]
    | with_reducible apply engineRun_keeps

theorem certGet_keeps {W0 : List Part} {r0 : State} (s : State) (l : Letter) (h_regs : Part.regs ∈ W0) (h_chn : Part.chn ∈ W0) (h0 : Keeps W0 r0 s) :
    Keeps W0 r0 (certGet s l) := by
  unfold certGet
  repeat' first
    | with_reducible assumption
    | with_reducible apply answer_keeps
    | split

theorem unwrapDone_keeps {W0 : List Part} {r0 : State} (s : State) (l : Letter) (h_regs : Part.regs ∈ W0) (h_chn : Part.chn ∈ W0) (h0 : Keeps W0 r0 s) :
    Keeps W0 r0 (unwrapDone s l) := by
  unfold unwrapDone
  repeat' first
    | with_reducible assumption
    | with_reducible apply incSat_keeps
    | with_reducible apply setKeySlot_keeps
    | with_reducible apply answer_keeps
    | split

theorem quoteRecord_keeps {W0 : List Part} {r0 : State} (s : State) (mask : Nat) (nonce : Bytes) (h_free : Part.free ∈ W0) (h0 : Keeps W0 r0 s) :
    Keeps W0 r0 (quoteRecord s mask nonce).2 := by
  unfold quoteRecord
  repeat' first
    | with_reducible assumption
    | with_reducible apply signWith_keeps

theorem quoteReq_keeps {W0 : List Part} {r0 : State} (s : State) (l : Letter) (h_regs : Part.regs ∈ W0) (h_chn : Part.chn ∈ W0) (h_sec : Part.sec ∈ W0) (h0 : Keeps W0 r0 s) :
    Keeps W0 r0 (quoteReq s l) := by
  unfold quoteReq
  repeat' first
    | with_reducible assumption
    | with_reducible apply incSat_keeps
    | with_reducible apply answer_keeps
    | with_reducible apply engineAdd_keeps
    | split
    | dsimp only

theorem quoteLetterDone_keeps {W0 : List Part} {r0 : State} (s : State) (l : Letter) (mask : Nat) (h_regs : Part.regs ∈ W0) (h_chn : Part.chn ∈ W0) (h_free : Part.free ∈ W0) (h0 : Keeps W0 r0 s) :
    Keeps W0 r0 (quoteLetterDone s l mask) := by
  unfold quoteLetterDone
  repeat' first
    | with_reducible assumption
    | with_reducible apply answer_keeps
    | with_reducible apply quoteRecord_keeps
    | with_reducible refine Keeps.of_snd (by with_reducible assumption) ?_
    | with_reducible refine Keeps.of_snd2 (by with_reducible assumption) ?_
    | split

theorem quoteEntryDone_keeps {W0 : List Part} {r0 : State} (s : State) (it : Item) (nonce : Bytes) (h_regs : Part.regs ∈ W0) (h_hif : Part.hif ∈ W0) (h_queues : Part.queues ∈ W0) (h_sor : Part.sor ∈ W0) (h_srf : Part.srf ∈ W0) (h_drc : Part.drc ∈ W0) (h_chn : Part.chn ∈ W0) (h_dram : Part.dram ∈ W0) (h_ring : Part.ring ∈ W0) (h_out : Part.out ∈ W0) (h_free : Part.free ∈ W0) (h0 : Keeps W0 r0 s) :
    Keeps W0 r0 (quoteEntryDone s it nonce) := by
  unfold quoteEntryDone
  repeat' first
    | with_reducible assumption
    | with_reducible apply svcWrite_keeps
    | with_reducible apply secDone_keeps
    | with_reducible apply quoteRecord_keeps
    | with_reducible refine Keeps.of_snd (by with_reducible assumption) ?_
    | with_reducible refine Keeps.of_snd2 (by with_reducible assumption) ?_
    | split
    | dsimp only

theorem keyset_keeps {W0 : List Part} {r0 : State} (s : State) (it : Item) (h_regs : Part.regs ∈ W0) (h_hif : Part.hif ∈ W0) (h_queues : Part.queues ∈ W0) (h_sor : Part.sor ∈ W0) (h_sec : Part.sec ∈ W0) (h_upd : Part.upd ∈ W0) (h_ring : Part.ring ∈ W0) (h_out : Part.out ∈ W0) (h_free : Part.free ∈ W0) (h0 : Keeps W0 r0 s) :
    Keeps W0 r0 (keyset s it) := by
  unfold keyset
  repeat' first
    | with_reducible assumption
    | simp only [Keeps.sec, h_sec]
    | with_reducible apply setF_keeps
    | with_reducible apply drawBytes_keeps
    | with_reducible apply secDone_keeps
    | with_reducible apply flashPush_keeps
    | with_reducible refine Keeps.of_snd (by with_reducible assumption) ?_
    | with_reducible refine Keeps.of_snd2 (by with_reducible assumption) ?_
    | split

theorem enrolEnd_keeps {W0 : List Part} {r0 : State} (s : State) (x : Enrol) (c : Status) (result : Nat) (rcode : Nat) (h_regs : Part.regs ∈ W0) (h_hif : Part.hif ∈ W0) (h_queues : Part.queues ∈ W0) (h_sor : Part.sor ∈ W0) (h_sec : Part.sec ∈ W0) (h_ring : Part.ring ∈ W0) (h_out : Part.out ∈ W0) (h0 : Keeps W0 r0 s) :
    Keeps W0 r0 (enrolEnd s x c result rcode) := by
  unfold enrolEnd
  repeat' first
    | with_reducible assumption
    | simp only [Keeps.sec, h_sec]
    | with_reducible apply secDone_keeps

theorem enrolSet_keeps {W0 : List Part} {r0 : State} (s : State) (x : Enrol) (h_sec : Part.sec ∈ W0) (h0 : Keeps W0 r0 s) :
    Keeps W0 r0 (enrolSet s x) := by
  unfold enrolSet
  repeat' first
    | with_reducible assumption
    | simp only [Keeps.sec, h_sec]

theorem enrolSend_keeps {W0 : List Part} {r0 : State} (s : State) (x : Enrol) (ltype : Nat) (slot : Nat) (content : Bytes) (h_chn : Part.chn ∈ W0) (h_sec : Part.sec ∈ W0) (h_out : Part.out ∈ W0) (h0 : Keeps W0 r0 s) :
    Keeps W0 r0 (enrolSend s x ltype slot content) := by
  unfold enrolSend
  repeat' first
    | with_reducible assumption
    | with_reducible apply newLid_keeps
    | with_reducible apply sendLetterCells_keeps
    | with_reducible apply enrolSet_keeps
    | with_reducible apply Keeps.foldl
    | with_reducible refine Keeps.of_snd (by with_reducible assumption) ?_
    | with_reducible refine Keeps.of_snd2 (by with_reducible assumption) ?_
    | split
    | dsimp only
    | intro _

theorem enrolStart_keeps {W0 : List Part} {r0 : State} (s : State) (it : Item) (h_regs : Part.regs ∈ W0) (h_hif : Part.hif ∈ W0) (h_queues : Part.queues ∈ W0) (h_sor : Part.sor ∈ W0) (h_chn : Part.chn ∈ W0) (h_sec : Part.sec ∈ W0) (h_ring : Part.ring ∈ W0) (h_out : Part.out ∈ W0) (h0 : Keeps W0 r0 s) :
    Keeps W0 r0 (enrolStart s it) := by
  unfold enrolStart
  repeat' first
    | with_reducible assumption
    | simp only [Keeps.sec, h_sec]
    | with_reducible apply secDone_keeps
    | with_reducible apply enrolSend_keeps
    | split

theorem enrolInstall_keeps {W0 : List Part} {r0 : State} (s : State) (x : Enrol) (h_sec : Part.sec ∈ W0) (h0 : Keeps W0 r0 s) :
    Keeps W0 r0 (enrolInstall s x) := by
  unfold enrolInstall
  repeat' first
    | with_reducible assumption
    | simp only [Keeps.sec, h_sec]
    | with_reducible apply setKeyRec_keeps
    | split

theorem enrolReply_keeps {W0 : List Part} {r0 : State} (s : State) (x : Enrol) (c : Bytes) (h_regs : Part.regs ∈ W0) (h_hif : Part.hif ∈ W0) (h_queues : Part.queues ∈ W0) (h_sor : Part.sor ∈ W0) (h_sec : Part.sec ∈ W0) (h_ring : Part.ring ∈ W0) (h_out : Part.out ∈ W0) (h0 : Keeps W0 r0 s) :
    Keeps W0 r0 (enrolReply s x c) := by
  unfold enrolReply
  repeat' first
    | with_reducible assumption
    | with_reducible apply engineAdd_keeps
    | with_reducible apply enrolEnd_keeps
    | with_reducible apply enrolSet_keeps
    | with_reducible apply enrolInstall_keeps
    | split
    | dsimp only

theorem enrolReplyStep_keeps {W0 : List Part} {r0 : State} (s : State) (h_regs : Part.regs ∈ W0) (h_hif : Part.hif ∈ W0) (h_queues : Part.queues ∈ W0) (h_sor : Part.sor ∈ W0) (h_chn : Part.chn ∈ W0) (h_sec : Part.sec ∈ W0) (h_ring : Part.ring ∈ W0) (h_out : Part.out ∈ W0) (h0 : Keeps W0 r0 s) :
    Keeps W0 r0 (enrolReplyStep s) := by
  unfold enrolReplyStep
  repeat' first
    | with_reducible assumption
    | with_reducible refine takeLetter_keeps (hx := by with_reducible assumption) ?_ ?_
    | with_reducible apply enrolReply_keeps
    | split
    | dsimp only

theorem enrolTimeout_keeps {W0 : List Part} {r0 : State} (s : State) (h_regs : Part.regs ∈ W0) (h_hif : Part.hif ∈ W0) (h_queues : Part.queues ∈ W0) (h_sor : Part.sor ∈ W0) (h_sec : Part.sec ∈ W0) (h_ring : Part.ring ∈ W0) (h_out : Part.out ∈ W0) (h0 : Keeps W0 r0 s) :
    Keeps W0 r0 (enrolTimeout s) := by
  unfold enrolTimeout
  repeat' first
    | with_reducible assumption
    | with_reducible apply enrolEnd_keeps
    | split

theorem enrolStep_keeps {W0 : List Part} {r0 : State} (s : State) (x : Enrol) (h_regs : Part.regs ∈ W0) (h_hif : Part.hif ∈ W0) (h_queues : Part.queues ∈ W0) (h_sor : Part.sor ∈ W0) (h_chn : Part.chn ∈ W0) (h_sec : Part.sec ∈ W0) (h_ring : Part.ring ∈ W0) (h_out : Part.out ∈ W0) (h_free : Part.free ∈ W0) (h0 : Keeps W0 r0 s) :
    Keeps W0 r0 (enrolStep s x) := by
  unfold enrolStep
  repeat' first
    | with_reducible assumption
    | with_reducible apply drawBytes_keeps
    | with_reducible apply setKeyRec_keeps
    | with_reducible apply engineAdd_keeps
    | with_reducible apply enrolEnd_keeps
    | with_reducible apply enrolSet_keeps
    | with_reducible apply enrolSend_keeps
    | with_reducible refine Keeps.of_snd (by with_reducible assumption) ?_
    | with_reducible refine Keeps.of_snd2 (by with_reducible assumption) ?_
    | split

theorem switchEntry_keeps {W0 : List Part} {r0 : State} (s : State) (it : Item) (h_regs : Part.regs ∈ W0) (h_hif : Part.hif ∈ W0) (h_queues : Part.queues ∈ W0) (h_sor : Part.sor ∈ W0) (h_sec : Part.sec ∈ W0) (h_ring : Part.ring ∈ W0) (h_out : Part.out ∈ W0) (h0 : Keeps W0 r0 s) :
    Keeps W0 r0 (switchEntry s it) := by
  unfold switchEntry
  repeat' first
    | with_reducible assumption
    | simp only [Keeps.sec, h_sec]
    | with_reducible apply secDone_keeps
    | split

theorem quoteEntry_keeps {W0 : List Part} {r0 : State} (s : State) (it : Item) (host : HostRes) (h_regs : Part.regs ∈ W0) (h_hif : Part.hif ∈ W0) (h_queues : Part.queues ∈ W0) (h_sor : Part.sor ∈ W0) (h_srf : Part.srf ∈ W0) (h_drc : Part.drc ∈ W0) (h_chn : Part.chn ∈ W0) (h_sec : Part.sec ∈ W0) (h_ring : Part.ring ∈ W0) (h_out : Part.out ∈ W0) (h_free : Part.free ∈ W0) (h0 : Keeps W0 r0 s) :
    Keeps W0 r0 (quoteEntry s it host) := by
  unfold quoteEntry
  repeat' first
    | with_reducible assumption
    | with_reducible apply incSat_keeps
    | with_reducible apply areaFetch_keeps
    | with_reducible apply secDone_keeps
    | with_reducible apply engineAdd_keeps
    | with_reducible refine Keeps.of_snd (by with_reducible assumption) ?_
    | with_reducible refine Keeps.of_snd2 (by with_reducible assumption) ?_
    | split
    | dsimp only

theorem extendEntry_keeps {W0 : List Part} {r0 : State} (s : State) (it : Item) (host : HostRes) (h_regs : Part.regs ∈ W0) (h_hif : Part.hif ∈ W0) (h_queues : Part.queues ∈ W0) (h_sor : Part.sor ∈ W0) (h_srf : Part.srf ∈ W0) (h_drc : Part.drc ∈ W0) (h_chn : Part.chn ∈ W0) (h_sec : Part.sec ∈ W0) (h_ring : Part.ring ∈ W0) (h_out : Part.out ∈ W0) (h_free : Part.free ∈ W0) (h0 : Keeps W0 r0 s) :
    Keeps W0 r0 (extendEntry s it host) := by
  unfold extendEntry
  repeat' first
    | with_reducible assumption
    | with_reducible apply areaFetch_keeps
    | with_reducible apply secDone_keeps
    | with_reducible apply measExtend_keeps
    | with_reducible refine Keeps.of_snd (by with_reducible assumption) ?_
    | with_reducible refine Keeps.of_snd2 (by with_reducible assumption) ?_
    | split
    | dsimp only

theorem lifeEntry_keeps {W0 : List Part} {r0 : State} (s : State) (it : Item) (host : HostRes) (h_regs : Part.regs ∈ W0) (h_hif : Part.hif ∈ W0) (h_queues : Part.queues ∈ W0) (h_sor : Part.sor ∈ W0) (h_srf : Part.srf ∈ W0) (h_drc : Part.drc ∈ W0) (h_chn : Part.chn ∈ W0) (h_sec : Part.sec ∈ W0) (h_ring : Part.ring ∈ W0) (h_out : Part.out ∈ W0) (h_free : Part.free ∈ W0) (h_fuses : Part.fuses ∈ W0) (h0 : Keeps W0 r0 s) :
    Keeps W0 r0 (lifeEntry s it host) := by
  unfold lifeEntry
  repeat' first
    | with_reducible assumption
    | with_reducible apply areaFetch_keeps
    | with_reducible apply secDone_keeps
    | with_reducible apply tokenTake_keeps
    | with_reducible refine Keeps.of_snd (by with_reducible assumption) ?_
    | with_reducible refine Keeps.of_snd2 (by with_reducible assumption) ?_
    | split
    | dsimp only

theorem intervalClose_keeps {W0 : List Part} {r0 : State} (s : State) (h_regs : Part.regs ∈ W0) (h_sec : Part.sec ∈ W0) (h0 : Keeps W0 r0 s) :
    Keeps W0 r0 (intervalClose s) := by
  unfold intervalClose
  repeat' first
    | with_reducible assumption
    | simp only [Keeps.sec, h_sec]
    | with_reducible apply engineAdd_keeps
    | with_reducible refine Keeps.of_snd (by with_reducible assumption) ?_
    | with_reducible refine Keeps.of_snd2 (by with_reducible assumption) ?_
    | split

theorem intervalEnd_keeps {W0 : List Part} {r0 : State} (s : State) (a : Int) (h_regs : Part.regs ∈ W0) (h_sec : Part.sec ∈ W0) (h0 : Keeps W0 r0 s) :
    Keeps W0 r0 (intervalEnd s a) := by
  unfold intervalEnd
  repeat' first
    | with_reducible assumption
    | simp only [Keeps.sec, h_sec]
    | with_reducible apply intervalClose_keeps
    | split

theorem intervalFlag_keeps {W0 : List Part} {r0 : State} (s : State) (f : Nat) (h_sec : Part.sec ∈ W0) (h0 : Keeps W0 r0 s) :
    Keeps W0 r0 (intervalFlag s f) := by
  unfold intervalFlag
  repeat' first
    | with_reducible assumption
    | simp only [Keeps.sec, h_sec]

theorem receiptFrame_keeps {W0 : List Part} {r0 : State} (s : State) (n : Nat) (a : Int) (missed : Bool) (v : Nat) (claim : Nat) (test : Bool) (h_regs : Part.regs ∈ W0) (h_sec : Part.sec ∈ W0) (h0 : Keeps W0 r0 s) :
    Keeps W0 r0 (receiptFrame s n a missed v claim test) := by
  unfold receiptFrame
  repeat' first
    | with_reducible assumption
    | simp only [Keeps.sec, h_sec]
    | with_reducible apply intervalEnd_keeps
    | split

theorem receiptBytes_keeps {W0 : List Part} {r0 : State} (s : State) (iv : Interval) (rseq : Nat) (h_free : Part.free ∈ W0) (h0 : Keeps W0 r0 s) :
    Keeps W0 r0 (receiptBytes s iv rseq).2 := by
  unfold receiptBytes
  repeat' first
    | with_reducible assumption
    | with_reducible apply signWith_keeps

theorem heldDrop_keeps {W0 : List Part} {r0 : State} (s : State) (h_regs : Part.regs ∈ W0) (h_sec : Part.sec ∈ W0) (h0 : Keeps W0 r0 s) :
    Keeps W0 r0 (heldDrop s) := by
  unfold heldDrop
  repeat' first
    | with_reducible assumption
    | simp only [Keeps.sec, h_sec]
    | with_reducible apply incSat_keeps
    | split

theorem receiptDone_keeps {W0 : List Part} {r0 : State} (s : State) (iv : Interval) (h_regs : Part.regs ∈ W0) (h_sec : Part.sec ∈ W0) (h_free : Part.free ∈ W0) (h0 : Keeps W0 r0 s) :
    Keeps W0 r0 (receiptDone s iv) := by
  unfold receiptDone
  repeat' first
    | with_reducible assumption
    | simp only [Keeps.sec, h_sec]
    | with_reducible apply setF_keeps
    | with_reducible apply receiptBytes_keeps
    | with_reducible apply heldDrop_keeps
    | with_reducible refine Keeps.of_snd (by with_reducible assumption) ?_
    | with_reducible refine Keeps.of_snd2 (by with_reducible assumption) ?_
    | split

theorem receiptSend_keeps {W0 : List Part} {r0 : State} (s : State) (h_regs : Part.regs ∈ W0) (h_chn : Part.chn ∈ W0) (h_sec : Part.sec ∈ W0) (h0 : Keeps W0 r0 s) :
    Keeps W0 r0 (receiptSend s) := by
  unfold receiptSend
  repeat' first
    | with_reducible assumption
    | with_reducible apply sendHeld_keeps
    | with_reducible apply heldDrop_keeps
    | split

theorem engineFinish_keeps {W0 : List Part} {r0 : State} (s : State) (o : EngOp) (h_regs : Part.regs ∈ W0) (h_hif : Part.hif ∈ W0) (h_queues : Part.queues ∈ W0) (h_sor : Part.sor ∈ W0) (h_srf : Part.srf ∈ W0) (h_drc : Part.drc ∈ W0) (h_chn : Part.chn ∈ W0) (h_sec : Part.sec ∈ W0) (h_dram : Part.dram ∈ W0) (h_ring : Part.ring ∈ W0) (h_out : Part.out ∈ W0) (h_free : Part.free ∈ W0) (h0 : Keeps W0 r0 s) :
    Keeps W0 r0 (engineFinish s o) := by
  unfold engineFinish
  repeat' first
    | with_reducible assumption
    | with_reducible apply unwrapDone_keeps
    | with_reducible apply quoteLetterDone_keeps
    | with_reducible apply quoteEntryDone_keeps
    | with_reducible apply enrolStep_keeps
    | with_reducible apply quoteEntry_keeps
    | with_reducible apply receiptDone_keeps
    | split

theorem engineDone_keeps {W0 : List Part} {r0 : State} (s : State) (h_regs : Part.regs ∈ W0) (h_hif : Part.hif ∈ W0) (h_queues : Part.queues ∈ W0) (h_sor : Part.sor ∈ W0) (h_srf : Part.srf ∈ W0) (h_drc : Part.drc ∈ W0) (h_chn : Part.chn ∈ W0) (h_sec : Part.sec ∈ W0) (h_dram : Part.dram ∈ W0) (h_ring : Part.ring ∈ W0) (h_out : Part.out ∈ W0) (h_free : Part.free ∈ W0) (h0 : Keeps W0 r0 s) :
    Keeps W0 r0 (engineDone s) := by
  unfold engineDone
  repeat' first
    | with_reducible assumption
    | simp only [Keeps.sec, h_sec]
    | with_reducible apply engineRun_keeps
    | with_reducible apply engineFinish_keeps
    | split

theorem crcWrite_keeps {W0 : List Part} {r0 : State} (s : State) (h_regs : Part.regs ∈ W0) (h_hif : Part.hif ∈ W0) (h_srf : Part.srf ∈ W0) (h_drc : Part.drc ∈ W0) (h_chn : Part.chn ∈ W0) (h_sec : Part.sec ∈ W0) (h_dram : Part.dram ∈ W0) (h_out : Part.out ∈ W0) (h_free : Part.free ∈ W0) (h0 : Keeps W0 r0 s) :
    Keeps W0 r0 (crcWrite s) := by
  unfold crcWrite
  repeat' first
    | with_reducible assumption
    | simp only [Keeps.sec, h_sec]
    | with_reducible apply svcWrite_keeps
    | split

theorem whenSec_keeps {W0 : List Part} {r0 : State} (s : State) (f : State → State) (h_f : ∀ (x0 : State), Keeps W0 r0 x0 → Keeps W0 r0 (f x0)) {t0 : State} (h0 : Keeps W0 r0 s) (ht : whenSec s f = .next t0) :
    Keeps W0 r0 t0 := by
  unfold whenSec at ht
  apply whenOn_keeps (ht := ht)
  repeat' first
    | with_reducible assumption

theorem execCertGetLetter_keeps {W0 : List Part} {r0 : State} (s : State) (h_regs : Part.regs ∈ W0) (h_chn : Part.chn ∈ W0) {t0 : State} (h0 : Keeps W0 r0 s) (ht : execCertGetLetter s = .next t0) :
    Keeps W0 r0 t0 := by
  unfold execCertGetLetter at ht
  apply whenSec_keeps (ht := ht)
  repeat' first
    | with_reducible assumption
    | with_reducible apply onLetter_keeps
    | with_reducible apply certGet_keeps
    | split
    | dsimp only
    | intro _

theorem execKeyWrapLetter_keeps {W0 : List Part} {r0 : State} (s : State) (h_regs : Part.regs ∈ W0) (h_chn : Part.chn ∈ W0) (h_sec : Part.sec ∈ W0) {t0 : State} (h0 : Keeps W0 r0 s) (ht : execKeyWrapLetter s = .next t0) :
    Keeps W0 r0 t0 := by
  unfold execKeyWrapLetter at ht
  apply whenSec_keeps (ht := ht)
  repeat' first
    | with_reducible assumption
    | with_reducible apply onLetter_keeps
    | with_reducible apply engineAdd_keeps
    | split
    | dsimp only
    | intro _

theorem execQuoteReqLetter_keeps {W0 : List Part} {r0 : State} (s : State) (h_regs : Part.regs ∈ W0) (h_chn : Part.chn ∈ W0) (h_sec : Part.sec ∈ W0) {t0 : State} (h0 : Keeps W0 r0 s) (ht : execQuoteReqLetter s = .next t0) :
    Keeps W0 r0 t0 := by
  unfold execQuoteReqLetter at ht
  apply whenSec_keeps (ht := ht)
  repeat' first
    | with_reducible assumption
    | with_reducible apply onLetter_keeps
    | with_reducible apply quoteReq_keeps
    | split
    | dsimp only
    | intro _

theorem execKeysetEntry_keeps {W0 : List Part} {r0 : State} (s : State) (h_regs : Part.regs ∈ W0) (h_hif : Part.hif ∈ W0) (h_queues : Part.queues ∈ W0) (h_sor : Part.sor ∈ W0) (h_sec : Part.sec ∈ W0) (h_upd : Part.upd ∈ W0) (h_ring : Part.ring ∈ W0) (h_out : Part.out ∈ W0) (h_free : Part.free ∈ W0) {t0 : State} (h0 : Keeps W0 r0 s) (ht : execKeysetEntry s = .next t0) :
    Keeps W0 r0 t0 := by
  unfold execKeysetEntry at ht
  apply whenSec_keeps (ht := ht)
  repeat' first
    | with_reducible assumption
    | with_reducible apply onEntry_keeps
    | with_reducible apply keyset_keeps
    | split
    | dsimp only
    | intro _

theorem execEnrolEntry_keeps {W0 : List Part} {r0 : State} (s : State) (h_regs : Part.regs ∈ W0) (h_hif : Part.hif ∈ W0) (h_queues : Part.queues ∈ W0) (h_sor : Part.sor ∈ W0) (h_chn : Part.chn ∈ W0) (h_sec : Part.sec ∈ W0) (h_ring : Part.ring ∈ W0) (h_out : Part.out ∈ W0) {t0 : State} (h0 : Keeps W0 r0 s) (ht : execEnrolEntry s = .next t0) :
    Keeps W0 r0 t0 := by
  unfold execEnrolEntry at ht
  apply whenSec_keeps (ht := ht)
  repeat' first
    | with_reducible assumption
    | with_reducible apply onEntry_keeps
    | with_reducible apply enrolStart_keeps
    | split
    | dsimp only
    | intro _

theorem execEnrolReply_keeps {W0 : List Part} {r0 : State} (s : State) (h_regs : Part.regs ∈ W0) (h_hif : Part.hif ∈ W0) (h_queues : Part.queues ∈ W0) (h_sor : Part.sor ∈ W0) (h_chn : Part.chn ∈ W0) (h_sec : Part.sec ∈ W0) (h_ring : Part.ring ∈ W0) (h_out : Part.out ∈ W0) {t0 : State} (h0 : Keeps W0 r0 s) (ht : execEnrolReply s = .next t0) :
    Keeps W0 r0 t0 := by
  unfold execEnrolReply at ht
  apply whenSec_keeps (ht := ht)
  repeat' first
    | with_reducible assumption
    | with_reducible apply enrolReplyStep_keeps
    | split
    | dsimp only
    | intro _

theorem execEnrolTimeout_keeps {W0 : List Part} {r0 : State} (dt : Nat) (s : State) (h_regs : Part.regs ∈ W0) (h_hif : Part.hif ∈ W0) (h_queues : Part.queues ∈ W0) (h_sor : Part.sor ∈ W0) (h_chn : Part.chn ∈ W0) (h_sec : Part.sec ∈ W0) (h_ring : Part.ring ∈ W0) (h_time : Part.time ∈ W0) (h_wraps : Part.wraps ∈ W0) (h_up : Part.up ∈ W0) (h_out : Part.out ∈ W0) {t0 : State} (h0 : Keeps W0 r0 s) (ht : execEnrolTimeout dt s = .next t0) :
    Keeps W0 r0 t0 := by
  unfold execEnrolTimeout at ht
  apply whenSec_keeps (ht := ht)
  repeat' first
    | with_reducible assumption
    | with_reducible apply advance_keeps
    | with_reducible apply enrolTimeout_keeps
    | split
    | dsimp only
    | intro _

theorem execSwitchEntry_keeps {W0 : List Part} {r0 : State} (s : State) (h_regs : Part.regs ∈ W0) (h_hif : Part.hif ∈ W0) (h_queues : Part.queues ∈ W0) (h_sor : Part.sor ∈ W0) (h_sec : Part.sec ∈ W0) (h_ring : Part.ring ∈ W0) (h_out : Part.out ∈ W0) {t0 : State} (h0 : Keeps W0 r0 s) (ht : execSwitchEntry s = .next t0) :
    Keeps W0 r0 t0 := by
  unfold execSwitchEntry at ht
  apply whenSec_keeps (ht := ht)
  repeat' first
    | with_reducible assumption
    | with_reducible apply onEntry_keeps
    | with_reducible apply switchEntry_keeps
    | split
    | dsimp only
    | intro _

theorem execQuoteEntry_keeps {W0 : List Part} {r0 : State} (host : HostRes) (s : State) (h_regs : Part.regs ∈ W0) (h_hif : Part.hif ∈ W0) (h_queues : Part.queues ∈ W0) (h_sor : Part.sor ∈ W0) (h_srf : Part.srf ∈ W0) (h_drc : Part.drc ∈ W0) (h_chn : Part.chn ∈ W0) (h_sec : Part.sec ∈ W0) (h_ring : Part.ring ∈ W0) (h_out : Part.out ∈ W0) (h_free : Part.free ∈ W0) {t0 : State} (h0 : Keeps W0 r0 s) (ht : execQuoteEntry host s = .next t0) :
    Keeps W0 r0 t0 := by
  unfold execQuoteEntry at ht
  apply whenSec_keeps (ht := ht)
  repeat' first
    | with_reducible assumption
    | with_reducible apply onEntryRead_keeps
    | with_reducible apply quoteEntry_keeps
    | split
    | dsimp only
    | intro _

theorem execExtendEntry_keeps {W0 : List Part} {r0 : State} (host : HostRes) (s : State) (h_regs : Part.regs ∈ W0) (h_hif : Part.hif ∈ W0) (h_queues : Part.queues ∈ W0) (h_sor : Part.sor ∈ W0) (h_srf : Part.srf ∈ W0) (h_drc : Part.drc ∈ W0) (h_chn : Part.chn ∈ W0) (h_sec : Part.sec ∈ W0) (h_ring : Part.ring ∈ W0) (h_out : Part.out ∈ W0) (h_free : Part.free ∈ W0) {t0 : State} (h0 : Keeps W0 r0 s) (ht : execExtendEntry host s = .next t0) :
    Keeps W0 r0 t0 := by
  unfold execExtendEntry at ht
  apply whenSec_keeps (ht := ht)
  repeat' first
    | with_reducible assumption
    | with_reducible apply onEntryRead_keeps
    | with_reducible apply extendEntry_keeps
    | split
    | dsimp only
    | intro _

theorem execLifeEntry_keeps {W0 : List Part} {r0 : State} (host : HostRes) (s : State) (h_regs : Part.regs ∈ W0) (h_hif : Part.hif ∈ W0) (h_queues : Part.queues ∈ W0) (h_sor : Part.sor ∈ W0) (h_srf : Part.srf ∈ W0) (h_drc : Part.drc ∈ W0) (h_chn : Part.chn ∈ W0) (h_sec : Part.sec ∈ W0) (h_ring : Part.ring ∈ W0) (h_out : Part.out ∈ W0) (h_free : Part.free ∈ W0) (h_fuses : Part.fuses ∈ W0) {t0 : State} (h0 : Keeps W0 r0 s) (ht : execLifeEntry host s = .next t0) :
    Keeps W0 r0 t0 := by
  unfold execLifeEntry at ht
  apply whenSec_keeps (ht := ht)
  repeat' first
    | with_reducible assumption
    | with_reducible apply onEntryRead_keeps
    | with_reducible apply lifeEntry_keeps
    | split
    | dsimp only
    | intro _

theorem execSignEngineDone_keeps {W0 : List Part} {r0 : State} (dt : Nat) (s : State) (h_regs : Part.regs ∈ W0) (h_hif : Part.hif ∈ W0) (h_queues : Part.queues ∈ W0) (h_sor : Part.sor ∈ W0) (h_srf : Part.srf ∈ W0) (h_drc : Part.drc ∈ W0) (h_chn : Part.chn ∈ W0) (h_sec : Part.sec ∈ W0) (h_dram : Part.dram ∈ W0) (h_ring : Part.ring ∈ W0) (h_time : Part.time ∈ W0) (h_wraps : Part.wraps ∈ W0) (h_up : Part.up ∈ W0) (h_out : Part.out ∈ W0) (h_free : Part.free ∈ W0) {t0 : State} (h0 : Keeps W0 r0 s) (ht : execSignEngineDone dt s = .next t0) :
    Keeps W0 r0 t0 := by
  unfold execSignEngineDone at ht
  apply whenSec_keeps (ht := ht)
  repeat' first
    | with_reducible assumption
    | with_reducible apply advance_keeps
    | with_reducible apply engineDone_keeps
    | split
    | dsimp only
    | intro _

theorem execReceiptSigned_keeps {W0 : List Part} {r0 : State} (s : State) (h_regs : Part.regs ∈ W0) (h_chn : Part.chn ∈ W0) (h_sec : Part.sec ∈ W0) {t0 : State} (h0 : Keeps W0 r0 s) (ht : execReceiptSigned s = .next t0) :
    Keeps W0 r0 t0 := by
  unfold execReceiptSigned at ht
  apply whenSec_keeps (ht := ht)
  repeat' first
    | with_reducible assumption
    | with_reducible apply receiptSend_keeps
    | split
    | dsimp only
    | intro _

theorem execCrcRecordWrite_keeps {W0 : List Part} {r0 : State} (dt : Nat) (s : State) (h_regs : Part.regs ∈ W0) (h_hif : Part.hif ∈ W0) (h_srf : Part.srf ∈ W0) (h_drc : Part.drc ∈ W0) (h_chn : Part.chn ∈ W0) (h_sec : Part.sec ∈ W0) (h_dram : Part.dram ∈ W0) (h_time : Part.time ∈ W0) (h_wraps : Part.wraps ∈ W0) (h_up : Part.up ∈ W0) (h_out : Part.out ∈ W0) (h_free : Part.free ∈ W0) {t0 : State} (h0 : Keeps W0 r0 s) (ht : execCrcRecordWrite dt s = .next t0) :
    Keeps W0 r0 t0 := by
  unfold execCrcRecordWrite at ht
  apply whenSec_keeps (ht := ht)
  repeat' first
    | with_reducible assumption
    | with_reducible apply advance_keeps
    | with_reducible apply crcWrite_keeps
    | split
    | dsimp only
    | intro _

end Sys2Proof.Machine
end

