-- ==== Sys2Proof/Laws/KeepLmp.lean ====
section
/-! SUPPORT. What each operation of Machine/Lmp.lean touches. -/

namespace Sys2Proof.Machine

theorem checkMode_keeps {W0 : List Part} {r0 : State} (s : State) (m : Mode) (h_regs : Part.regs ∈ W0) (h_lmp : Part.lmp ∈ W0) (h0 : Keeps W0 r0 s) :
    Keeps W0 r0 (checkMode s m) := by
  unfold checkMode
  repeat' first
    | with_reducible assumption
    | with_reducible apply setF_keeps
    | with_reducible apply lampDrop_keeps

theorem storeRun_keeps {W0 : List Part} {r0 : State} (s : State) (buf : Nat) (stream : Nat) (run : Nat) (count : Nat) (pix : Bytes) (h_regs : Part.regs ∈ W0) (h_hif : Part.hif ∈ W0) (h_srf : Part.srf ∈ W0) (h_drc : Part.drc ∈ W0) (h_chn : Part.chn ∈ W0) (h_dram : Part.dram ∈ W0) (h_out : Part.out ∈ W0) (h_free : Part.free ∈ W0) (h0 : Keeps W0 r0 s) :
    Keeps W0 r0 (storeRun s buf stream run count pix) := by
  unfold storeRun
  repeat' first
    | with_reducible assumption
    | with_reducible apply surfWrite_keeps
    | with_reducible apply Keeps.foldl
    | split
    | dsimp only
    | intro _

theorem setFrame_keeps {W0 : List Part} {r0 : State} (s : State) (f : TFrame) (h_lmp : Part.lmp ∈ W0) (h0 : Keeps W0 r0 s) :
    Keeps W0 r0 (setFrame s f) := by
  unfold setFrame
  repeat' first
    | with_reducible assumption
    | simp only [Keeps.lmp, h_lmp]

theorem markNobuf_keeps {W0 : List Part} {r0 : State} (s : State) (f : TFrame) (h_regs : Part.regs ∈ W0) (h_lmp : Part.lmp ∈ W0) (h0 : Keeps W0 r0 s) :
    Keeps W0 r0 (markNobuf s f) := by
  unfold markNobuf
  repeat' first
    | with_reducible assumption
    | with_reducible apply incSat_keeps
    | with_reducible apply setFrame_keeps

theorem takeRun_keeps {W0 : List Part} {r0 : State} (s : State) (n : Nat) (stream : Nat) (run : Nat) (count : Nat) (stamp : Nat) (pix : Bytes) (h_regs : Part.regs ∈ W0) (h_hif : Part.hif ∈ W0) (h_srf : Part.srf ∈ W0) (h_drc : Part.drc ∈ W0) (h_chn : Part.chn ∈ W0) (h_lmp : Part.lmp ∈ W0) (h_dram : Part.dram ∈ W0) (h_out : Part.out ∈ W0) (h_free : Part.free ∈ W0) (h0 : Keeps W0 r0 s) :
    Keeps W0 r0 (takeRun s n stream run count stamp pix) := by
  unfold takeRun
  repeat' first
    | with_reducible assumption
    | with_reducible apply incSat_keeps
    | with_reducible apply storeRun_keeps
    | with_reducible apply setFrame_keeps
    | with_reducible apply markNobuf_keeps
    | split
    | dsimp only

theorem runArrive_keeps {W0 : List Part} {r0 : State} (s : State) (x : RxCell) (h_regs : Part.regs ∈ W0) (h_hif : Part.hif ∈ W0) (h_srf : Part.srf ∈ W0) (h_drc : Part.drc ∈ W0) (h_chn : Part.chn ∈ W0) (h_lmp : Part.lmp ∈ W0) (h_dram : Part.dram ∈ W0) (h_out : Part.out ∈ W0) (h_free : Part.free ∈ W0) (h0 : Keeps W0 r0 s) :
    Keeps W0 r0 (runArrive s x) := by
  unfold runArrive
  repeat' first
    | with_reducible assumption
    | simp only [Keeps.chn, h_chn]
    | with_reducible apply setF_keeps
    | with_reducible apply incSat_keeps
    | with_reducible apply touchKeySlot_keeps
    | with_reducible apply takeRun_keeps
    | split

theorem abortArrive_keeps {W0 : List Part} {r0 : State} (s : State) (x : RxCell) (h_chn : Part.chn ∈ W0) (h_lmp : Part.lmp ∈ W0) (h0 : Keeps W0 r0 s) :
    Keeps W0 r0 (abortArrive s x) := by
  unfold abortArrive
  repeat' first
    | with_reducible assumption
    | simp only [Keeps.chn, h_chn]
    | with_reducible apply setFrame_keeps
    | with_reducible refine Keeps.of_snd (by with_reducible assumption) ?_
    | with_reducible refine Keeps.of_snd2 (by with_reducible assumption) ?_
    | split

theorem dimArm_keeps {W0 : List Part} {r0 : State} (s : State) (h_regs : Part.regs ∈ W0) (h_lmp : Part.lmp ∈ W0) (h0 : Keeps W0 r0 s) :
    Keeps W0 r0 (dimArm s) := by
  unfold dimArm
  repeat' first
    | with_reducible assumption
    | simp only [Keeps.lmp, h_lmp]
    | with_reducible apply setF_keeps
    | split

theorem dimStep_keeps {W0 : List Part} {r0 : State} (s : State) (n : Nat) (h_regs : Part.regs ∈ W0) (h_hif : Part.hif ∈ W0) (h_queues : Part.queues ∈ W0) (h_sor : Part.sor ∈ W0) (h_dma : Part.dma ∈ W0) (h_srf : Part.srf ∈ W0) (h_drc : Part.drc ∈ W0) (h_chn : Part.chn ∈ W0) (h_lmp : Part.lmp ∈ W0) (h_dram : Part.dram ∈ W0) (h_ring : Part.ring ∈ W0) (h_out : Part.out ∈ W0) (h_free : Part.free ∈ W0) (h0 : Keeps W0 r0 s) :
    Keeps W0 r0 (dimStep s n).2 := by
  unfold dimStep
  repeat' first
    | with_reducible assumption
    | simp only [Keeps.lmp, h_lmp]
    | with_reducible apply setF_keeps
    | with_reducible apply settle_keeps
    | with_reducible refine Keeps.of_snd (by with_reducible assumption) ?_
    | with_reducible refine Keeps.of_snd2 (by with_reducible assumption) ?_
    | split

theorem curvesDue_keeps {W0 : List Part} {r0 : State} (s : State) (n : Nat) (h_regs : Part.regs ∈ W0) (h_hif : Part.hif ∈ W0) (h_queues : Part.queues ∈ W0) (h_sor : Part.sor ∈ W0) (h_lmp : Part.lmp ∈ W0) (h_ring : Part.ring ∈ W0) (h_out : Part.out ∈ W0) (h0 : Keeps W0 r0 s) :
    Keeps W0 r0 (curvesDue s n) := by
  unfold curvesDue
  repeat' first
    | with_reducible assumption
    | simp only [Keeps.lmp, h_lmp]
    | with_reducible apply cmpDone_keeps
    | with_reducible apply Keeps.foldl
    | split
    | dsimp only
    | intro _

theorem sampleAll_keeps {W0 : List Part} {r0 : State} (s : State) (n : Nat) (h_regs : Part.regs ∈ W0) (h_hif : Part.hif ∈ W0) (h_queues : Part.queues ∈ W0) (h_sor : Part.sor ∈ W0) (h_dma : Part.dma ∈ W0) (h_srf : Part.srf ∈ W0) (h_drc : Part.drc ∈ W0) (h_chn : Part.chn ∈ W0) (h_lmp : Part.lmp ∈ W0) (h_dram : Part.dram ∈ W0) (h_ring : Part.ring ∈ W0) (h_out : Part.out ∈ W0) (h_free : Part.free ∈ W0) (h0 : Keeps W0 r0 s) :
    Keeps W0 r0 (sampleAll s n).2 := by
  unfold sampleAll
  repeat' first
    | with_reducible assumption
    | with_reducible apply setF_keeps
    | with_reducible apply dimStep_keeps
    | with_reducible apply curvesDue_keeps
    | with_reducible apply Keeps.foldl
    | with_reducible refine Keeps.of_snd (by with_reducible assumption) ?_
    | with_reducible refine Keeps.of_snd2 (by with_reducible assumption) ?_
    | split
    | dsimp only
    | intro _

theorem missEvent_keeps {W0 : List Part} {r0 : State} (s : State) (n : Nat) (cause : Nat) (h_regs : Part.regs ∈ W0) (h_hif : Part.hif ∈ W0) (h_chn : Part.chn ∈ W0) (h_lmp : Part.lmp ∈ W0) (h_out : Part.out ∈ W0) (h0 : Keeps W0 r0 s) :
    Keeps W0 r0 (missEvent s n cause) := by
  unfold missEvent
  repeat' first
    | with_reducible assumption
    | simp only [Keeps.lmp, h_lmp]
    | with_reducible apply raise_keeps
    | split

theorem missFrame_keeps {W0 : List Part} {r0 : State} (s : State) (n : Nat) (cause : Nat) (h_regs : Part.regs ∈ W0) (h_hif : Part.hif ∈ W0) (h_chn : Part.chn ∈ W0) (h_lmp : Part.lmp ∈ W0) (h_out : Part.out ∈ W0) (h0 : Keeps W0 r0 s) :
    Keeps W0 r0 (missFrame s n cause) := by
  unfold missFrame
  repeat' first
    | with_reducible assumption
    | simp only [Keeps.lmp, h_lmp]
    | with_reducible apply setF_keeps
    | with_reducible apply incSat_keeps
    | with_reducible apply yield_keeps
    | with_reducible apply missEvent_keeps
    | split

theorem showDone_keeps {W0 : List Part} {r0 : State} (s : State) (h_regs : Part.regs ∈ W0) (h_hif : Part.hif ∈ W0) (h_queues : Part.queues ∈ W0) (h_sor : Part.sor ∈ W0) (h_srf : Part.srf ∈ W0) (h_lmp : Part.lmp ∈ W0) (h_ring : Part.ring ∈ W0) (h_out : Part.out ∈ W0) (h0 : Keeps W0 r0 s) :
    Keeps W0 r0 (showDone s) := by
  unfold showDone
  repeat' first
    | with_reducible assumption
    | simp only [Keeps.lmp, h_lmp]
    | with_reducible apply retireFrame_keeps
    | split

theorem showsEnd_keeps {W0 : List Part} {r0 : State} (s : State) (h_regs : Part.regs ∈ W0) (h_hif : Part.hif ∈ W0) (h_queues : Part.queues ∈ W0) (h_sor : Part.sor ∈ W0) (h_srf : Part.srf ∈ W0) (h_lmp : Part.lmp ∈ W0) (h_ring : Part.ring ∈ W0) (h_out : Part.out ∈ W0) (h0 : Keeps W0 r0 s) :
    Keeps W0 r0 (showsEnd s) := by
  unfold showsEnd
  repeat' first
    | with_reducible assumption
    | with_reducible apply showDone_keeps
    | with_reducible apply Keeps.foldl
    | split
    | dsimp only
    | intro _

theorem cutShow_keeps {W0 : List Part} {r0 : State} (s : State) (de : Int) (h : Show) (h_regs : Part.regs ∈ W0) (h0 : Keeps W0 r0 s) :
    Keeps W0 r0 (cutShow s de h).2 := by
  unfold cutShow
  repeat' first
    | with_reducible assumption
    | with_reducible apply incSat_keeps

theorem dropShows_keeps {W0 : List Part} {r0 : State} (h_regs : Part.regs ∈ W0) (h_hif : Part.hif ∈ W0) (h_queues : Part.queues ∈ W0) (h_sor : Part.sor ∈ W0) (h_srf : Part.srf ∈ W0) (h_lmp : Part.lmp ∈ W0) (h_ring : Part.ring ∈ W0) (h_out : Part.out ∈ W0) (y0 : Nat) (y1 : State)
    (h0 : Keeps W0 r0 y1) :
    Keeps W0 r0 (dropShows y0 y1) := by
  induction y0 generalizing y1 with
  | zero =>
    unfold dropShows
    repeat' first
      | with_reducible assumption
  | succ y0 ih =>
    unfold dropShows
    repeat' first
      | with_reducible assumption
      | with_reducible apply ih
      | with_reducible apply showDone_keeps
      | split

theorem cutShows_keeps {W0 : List Part} {r0 : State} (s : State) (e : Nat) (de : Int) (h_regs : Part.regs ∈ W0) (h_hif : Part.hif ∈ W0) (h_queues : Part.queues ∈ W0) (h_sor : Part.sor ∈ W0) (h_srf : Part.srf ∈ W0) (h_lmp : Part.lmp ∈ W0) (h_ring : Part.ring ∈ W0) (h_out : Part.out ∈ W0) (h0 : Keeps W0 r0 s) :
    Keeps W0 r0 (cutShows s e de) := by
  unfold cutShows
  repeat' first
    | with_reducible assumption
    | simp only [Keeps.lmp, h_lmp]
    | with_reducible apply cutShow_keeps
    | with_reducible apply dropShows_keeps
    | with_reducible apply Keeps.foldl
    | with_reducible apply Keeps.snd
    | with_reducible apply Keeps.snd2
    | with_reducible apply Keeps.fst
    | with_reducible apply Keeps.foldl_snd
    | with_reducible apply Keeps.foldl_snd2
    | with_reducible apply Keeps.foldl_fst
    | with_reducible refine Keeps.of_fst (by with_reducible assumption) ?_
    | with_reducible refine Keeps.of_snd (by with_reducible assumption) ?_
    | with_reducible refine Keeps.of_snd2 (by with_reducible assumption) ?_
    | split
    | dsimp only
    | intro _

theorem placeShow_keeps {W0 : List Part} {r0 : State} (s : State) (n : Nat) (m : Mode) (st : Anchor) (samp : Samp) (h_regs : Part.regs ∈ W0) (h_hif : Part.hif ∈ W0) (h_queues : Part.queues ∈ W0) (h_sor : Part.sor ∈ W0) (h_srf : Part.srf ∈ W0) (h_lmp : Part.lmp ∈ W0) (h_ring : Part.ring ∈ W0) (h_out : Part.out ∈ W0) (h0 : Keeps W0 r0 s) :
    Keeps W0 r0 (placeShow s n m st samp) := by
  unfold placeShow
  repeat' first
    | with_reducible assumption
    | simp only [Keeps.lmp, h_lmp]
    | with_reducible apply engineStart_keeps
    | with_reducible apply cutShow_keeps
    | with_reducible apply dropShows_keeps
    | with_reducible refine Keeps.of_snd (by with_reducible assumption) ?_
    | with_reducible refine Keeps.of_snd2 (by with_reducible assumption) ?_
    | split

theorem commitFrame_keeps {W0 : List Part} {r0 : State} (s : State) (n : Nat) (m : Mode) (f : TFrame) (h_regs : Part.regs ∈ W0) (h_lmp : Part.lmp ∈ W0) (h0 : Keeps W0 r0 s) :
    Keeps W0 r0 (commitFrame s n m f) := by
  unfold commitFrame
  repeat' first
    | with_reducible assumption
    | simp only [Keeps.lmp, h_lmp]
    | with_reducible apply setF_keeps

theorem keepMissed_keeps {W0 : List Part} {r0 : State} (s : State) (n : Nat) (h_lmp : Part.lmp ∈ W0) (h0 : Keeps W0 r0 s) :
    Keeps W0 r0 (keepMissed s n) := by
  unfold keepMissed
  repeat' first
    | with_reducible assumption
    | simp only [Keeps.lmp, h_lmp]
    | with_reducible apply setFrame_keeps

theorem afterCommit_keeps {W0 : List Part} {r0 : State} (s : State) (n : Nat) (a : Int) (h_chn : Part.chn ∈ W0) (h_lmp : Part.lmp ∈ W0) (h0 : Keeps W0 r0 s) :
    Keeps W0 r0 (afterCommit s n a) := by
  unfold afterCommit
  repeat' first
    | with_reducible assumption
    | simp only [Keeps.chn_lmp, h_chn, h_lmp]

theorem commitOutcome_keeps {W0 : List Part} {r0 : State} (s : State) (n : Nat) (m : Mode) (a : Int) (h_regs : Part.regs ∈ W0) (h_hif : Part.hif ∈ W0) (h_chn : Part.chn ∈ W0) (h_lmp : Part.lmp ∈ W0) (h_out : Part.out ∈ W0) (h0 : Keeps W0 r0 s) :
    Keeps W0 r0 (commitOutcome s n m a).2.2 := by
  unfold commitOutcome
  repeat' first
    | with_reducible assumption
    | simp only [Keeps.lmp, h_lmp]
    | with_reducible apply missFrame_keeps
    | with_reducible apply commitFrame_keeps
    | with_reducible apply keepMissed_keeps
    | split

theorem recheckMode_keeps {W0 : List Part} {r0 : State} (s : State) (h_regs : Part.regs ∈ W0) (h_lmp : Part.lmp ∈ W0) (h0 : Keeps W0 r0 s) :
    Keeps W0 r0 (recheckMode s) := by
  unfold recheckMode
  repeat' first
    | with_reducible assumption
    | simp only [Keeps.lmp, h_lmp]
    | with_reducible apply checkMode_keeps
    | split

theorem commitRun_keeps {W0 : List Part} {r0 : State} (s : State) (n : Nat) (m : Mode) (st : Anchor) (a : Int) (h_regs : Part.regs ∈ W0) (h_hif : Part.hif ∈ W0) (h_queues : Part.queues ∈ W0) (h_sor : Part.sor ∈ W0) (h_dma : Part.dma ∈ W0) (h_srf : Part.srf ∈ W0) (h_drc : Part.drc ∈ W0) (h_chn : Part.chn ∈ W0) (h_sec : Part.sec ∈ W0) (h_lmp : Part.lmp ∈ W0) (h_dram : Part.dram ∈ W0) (h_ring : Part.ring ∈ W0) (h_out : Part.out ∈ W0) (h_free : Part.free ∈ W0) (h0 : Keeps W0 r0 s) :
    Keeps W0 r0 (commitRun s n m st a) := by
  unfold commitRun
  repeat' first
    | with_reducible assumption
    | with_reducible apply receiptFrame_keeps
    | with_reducible apply sampleAll_keeps
    | with_reducible apply placeShow_keeps
    | with_reducible apply afterCommit_keeps
    | with_reducible apply commitOutcome_keeps

theorem commitInstant_keeps {W0 : List Part} {r0 : State} (s : State) (h_regs : Part.regs ∈ W0) (h_hif : Part.hif ∈ W0) (h_queues : Part.queues ∈ W0) (h_sor : Part.sor ∈ W0) (h_dma : Part.dma ∈ W0) (h_srf : Part.srf ∈ W0) (h_drc : Part.drc ∈ W0) (h_chn : Part.chn ∈ W0) (h_sec : Part.sec ∈ W0) (h_lmp : Part.lmp ∈ W0) (h_dram : Part.dram ∈ W0) (h_ring : Part.ring ∈ W0) (h_out : Part.out ∈ W0) (h_free : Part.free ∈ W0) (h0 : Keeps W0 r0 s) :
    Keeps W0 r0 (commitInstant s) := by
  unfold commitInstant
  repeat' first
    | with_reducible assumption
    | with_reducible apply recheckMode_keeps
    | with_reducible apply commitRun_keeps
    | split
    | dsimp only

theorem intervalStep_keeps {W0 : List Part} {r0 : State} (s : State) (h_regs : Part.regs ∈ W0) (h_sec : Part.sec ∈ W0) (h0 : Keeps W0 r0 s) :
    Keeps W0 r0 (intervalStep s) := by
  unfold intervalStep
  repeat' first
    | with_reducible assumption
    | with_reducible apply intervalEnd_keeps
    | split
    | dsimp only

theorem showMode_keeps {W0 : List Part} {r0 : State} (s : State) (m : Mode) (late : Bool) (h_regs : Part.regs ∈ W0) (h_hif : Part.hif ∈ W0) (h_chn : Part.chn ∈ W0) (h_sec : Part.sec ∈ W0) (h_lmp : Part.lmp ∈ W0) (h_out : Part.out ∈ W0) (h0 : Keeps W0 r0 s) :
    Keeps W0 r0 (showMode s m late) := by
  unfold showMode
  repeat' first
    | with_reducible assumption
    | simp only [Keeps.lmp, h_lmp]
    | with_reducible apply setF_keeps
    | with_reducible apply raise_keeps
    | with_reducible apply intervalFlag_keeps
    | with_reducible apply checkMode_keeps
    | split

theorem firstMode_keeps {W0 : List Part} {r0 : State} (s : State) (m : Mode) (r : Int) (h_regs : Part.regs ∈ W0) (h_hif : Part.hif ∈ W0) (h_chn : Part.chn ∈ W0) (h_tim : Part.tim ∈ W0) (h_sec : Part.sec ∈ W0) (h_lmp : Part.lmp ∈ W0) (h_out : Part.out ∈ W0) (h0 : Keeps W0 r0 s) :
    Keeps W0 r0 (firstMode s m r) := by
  unfold firstMode
  repeat' first
    | with_reducible assumption
    | simp only [Keeps.lmp, h_lmp]
    | with_reducible apply genTake_keeps
    | with_reducible apply showMode_keeps

theorem changeMode_keeps {W0 : List Part} {r0 : State} (s : State) (m : Mode) (e : Nat) (late : Bool) (h_regs : Part.regs ∈ W0) (h_hif : Part.hif ∈ W0) (h_queues : Part.queues ∈ W0) (h_sor : Part.sor ∈ W0) (h_srf : Part.srf ∈ W0) (h_chn : Part.chn ∈ W0) (h_tim : Part.tim ∈ W0) (h_sec : Part.sec ∈ W0) (h_lmp : Part.lmp ∈ W0) (h_ring : Part.ring ∈ W0) (h_out : Part.out ∈ W0) (h0 : Keeps W0 r0 s) :
    Keeps W0 r0 (changeMode s m e late) := by
  unfold changeMode
  repeat' first
    | with_reducible assumption
    | simp only [Keeps.lmp, h_lmp]
    | with_reducible apply genProgram_keeps
    | with_reducible apply cutShows_keeps
    | with_reducible apply showMode_keeps
    | with_reducible refine Keeps.of_snd (by with_reducible assumption) ?_
    | with_reducible refine Keeps.of_snd2 (by with_reducible assumption) ?_
    | split

theorem modeLetter_keeps {W0 : List Part} {r0 : State} (s : State) (l : Letter) (h_regs : Part.regs ∈ W0) (h_hif : Part.hif ∈ W0) (h_chn : Part.chn ∈ W0) (h_tim : Part.tim ∈ W0) (h_sec : Part.sec ∈ W0) (h_lmp : Part.lmp ∈ W0) (h_upd : Part.upd ∈ W0) (h_out : Part.out ∈ W0) (h0 : Keeps W0 r0 s) :
    Keeps W0 r0 (modeLetter s l) := by
  unfold modeLetter
  repeat' first
    | with_reducible assumption
    | simp only [Keeps.lmp, h_lmp]
    | with_reducible apply armMove_keeps
    | with_reducible apply refuse_keeps
    | with_reducible apply firstMode_keeps
    | with_reducible refine Keeps.of_snd (by with_reducible assumption) ?_
    | with_reducible refine Keeps.of_snd2 (by with_reducible assumption) ?_
    | split

theorem lateMode_keeps {W0 : List Part} {r0 : State} (s : State) (h_regs : Part.regs ∈ W0) (h_hif : Part.hif ∈ W0) (h_queues : Part.queues ∈ W0) (h_sor : Part.sor ∈ W0) (h_srf : Part.srf ∈ W0) (h_chn : Part.chn ∈ W0) (h_tim : Part.tim ∈ W0) (h_sec : Part.sec ∈ W0) (h_lmp : Part.lmp ∈ W0) (h_ring : Part.ring ∈ W0) (h_out : Part.out ∈ W0) (h0 : Keeps W0 r0 s) :
    Keeps W0 r0 (lateMode s) := by
  unfold lateMode
  repeat' first
    | with_reducible assumption
    | with_reducible apply changeMode_keeps
    | split
    | dsimp only

theorem tileCadence_keeps {W0 : List Part} {r0 : State} (s : State) (h_regs : Part.regs ∈ W0) (h_hif : Part.hif ∈ W0) (h_queues : Part.queues ∈ W0) (h_sor : Part.sor ∈ W0) (h_srf : Part.srf ∈ W0) (h_chn : Part.chn ∈ W0) (h_tim : Part.tim ∈ W0) (h_tan : Part.tan ∈ W0) (h_sec : Part.sec ∈ W0) (h_lmp : Part.lmp ∈ W0) (h_ring : Part.ring ∈ W0) (h_out : Part.out ∈ W0) (h0 : Keeps W0 r0 s) :
    Keeps W0 r0 (tileCadence s) := by
  unfold tileCadence
  repeat' first
    | with_reducible assumption
    | simp only [Keeps.lmp, h_lmp]
    | with_reducible apply genFire_keeps
    | with_reducible apply tanChooseFrame_keeps
    | with_reducible apply changeMode_keeps
    | with_reducible apply lateMode_keeps
    | split

theorem slotWalk_keeps {W0 : List Part} {r0 : State} (s : State) (h : Show) (slot : Nat) (h_regs : Part.regs ∈ W0) (h_hif : Part.hif ∈ W0) (h_srf : Part.srf ∈ W0) (h_drc : Part.drc ∈ W0) (h_chn : Part.chn ∈ W0) (h_out : Part.out ∈ W0) (h_free : Part.free ∈ W0) (h0 : Keeps W0 r0 s) :
    Keeps W0 r0 (slotWalk s h slot) := by
  unfold slotWalk
  repeat' first
    | with_reducible assumption
    | with_reducible apply srfWalk_keeps
    | with_reducible apply engineNote_keeps
    | with_reducible apply Keeps.foldl
    | split
    | dsimp only
    | intro _

theorem selfShow_keeps {W0 : List Part} {r0 : State} (s : State) (n : Nat) (disp : Int) (h_regs : Part.regs ∈ W0) (h_hif : Part.hif ∈ W0) (h_queues : Part.queues ∈ W0) (h_sor : Part.sor ∈ W0) (h_dma : Part.dma ∈ W0) (h_srf : Part.srf ∈ W0) (h_drc : Part.drc ∈ W0) (h_chn : Part.chn ∈ W0) (h_lmp : Part.lmp ∈ W0) (h_dram : Part.dram ∈ W0) (h_ring : Part.ring ∈ W0) (h_out : Part.out ∈ W0) (h_free : Part.free ∈ W0) (h0 : Keeps W0 r0 s) :
    Keeps W0 r0 (selfShow s n disp) := by
  unfold selfShow
  repeat' first
    | with_reducible assumption
    | simp only [Keeps.lmp, h_lmp]
    | with_reducible apply sampleAll_keeps

theorem lampRise_keeps {W0 : List Part} {r0 : State} (s : State) (h_lmp : Part.lmp ∈ W0) (h0 : Keeps W0 r0 s) :
    Keeps W0 r0 (lampRise s) := by
  unfold lampRise
  repeat' first
    | with_reducible assumption
    | simp only [Keeps.lmp, h_lmp]
    | split

theorem slotLatch_keeps {W0 : List Part} {r0 : State} (s : State) (late : Bool) (h_regs : Part.regs ∈ W0) (h_hif : Part.hif ∈ W0) (h_queues : Part.queues ∈ W0) (h_sor : Part.sor ∈ W0) (h_dma : Part.dma ∈ W0) (h_srf : Part.srf ∈ W0) (h_drc : Part.drc ∈ W0) (h_chn : Part.chn ∈ W0) (h_lmp : Part.lmp ∈ W0) (h_spk : Part.spk ∈ W0) (h_dram : Part.dram ∈ W0) (h_ring : Part.ring ∈ W0) (h_out : Part.out ∈ W0) (h_free : Part.free ∈ W0) (h0 : Keeps W0 r0 s) :
    Keeps W0 r0 (slotLatch s late) := by
  unfold slotLatch
  repeat' first
    | with_reducible assumption
    | simp only [Keeps.lmp, Keeps.lmp_spk, Keeps.spk, h_lmp, h_spk]
    | with_reducible apply incSat_keeps
    | with_reducible apply yield_keeps
    | with_reducible apply showDone_keeps
    | with_reducible apply selfShow_keeps
    | with_reducible apply lampRise_keeps
    | split

theorem lmpEnable_keeps {W0 : List Part} {r0 : State} (s : State) (h_regs : Part.regs ∈ W0) (h_lmp : Part.lmp ∈ W0) (h_spk : Part.spk ∈ W0) (h0 : Keeps W0 r0 s) :
    Keeps W0 r0 (lmpEnable s) := by
  unfold lmpEnable
  repeat' first
    | with_reducible assumption
    | simp only [Keeps.lmp_spk, h_lmp, h_spk]
    | with_reducible apply setF_keeps

theorem lmpDisable_keeps {W0 : List Part} {r0 : State} (s : State) (h_regs : Part.regs ∈ W0) (h_hif : Part.hif ∈ W0) (h_queues : Part.queues ∈ W0) (h_sor : Part.sor ∈ W0) (h_srf : Part.srf ∈ W0) (h_lmp : Part.lmp ∈ W0) (h_ring : Part.ring ∈ W0) (h_out : Part.out ∈ W0) (h0 : Keeps W0 r0 s) :
    Keeps W0 r0 (lmpDisable s) := by
  unfold lmpDisable
  repeat' first
    | with_reducible assumption
    | with_reducible apply setF_keeps
    | with_reducible apply lampDrop_keeps
    | with_reducible apply engineStop_keeps

theorem svcPress_keeps {W0 : List Part} {r0 : State} (s : State) (h_regs : Part.regs ∈ W0) (h_hif : Part.hif ∈ W0) (h_chn : Part.chn ∈ W0) (h_lmp : Part.lmp ∈ W0) (h_out : Part.out ∈ W0) (h0 : Keeps W0 r0 s) :
    Keeps W0 r0 (svcPress s) := by
  unfold svcPress
  repeat' first
    | with_reducible assumption
    | simp only [Keeps.lmp, h_lmp]
    | with_reducible apply setF_keeps
    | with_reducible apply raise_keeps
    | split

theorem svcHold_keeps {W0 : List Part} {r0 : State} (s : State) (h_regs : Part.regs ∈ W0) (h_hif : Part.hif ∈ W0) (h_queues : Part.queues ∈ W0) (h_sor : Part.sor ∈ W0) (h_dma : Part.dma ∈ W0) (h_srf : Part.srf ∈ W0) (h_drc : Part.drc ∈ W0) (h_chn : Part.chn ∈ W0) (h_lmp : Part.lmp ∈ W0) (h_dram : Part.dram ∈ W0) (h_ring : Part.ring ∈ W0) (h_out : Part.out ∈ W0) (h_free : Part.free ∈ W0) (h0 : Keeps W0 r0 s) :
    Keeps W0 r0 (svcHold s) := by
  unfold svcHold
  repeat' first
    | with_reducible assumption
    | simp only [Keeps.lmp, h_lmp]
    | with_reducible apply setF_keeps
    | with_reducible apply selfShow_keeps
    | split

theorem locatorEnd_keeps {W0 : List Part} {r0 : State} (s : State) (h_regs : Part.regs ∈ W0) (h_lmp : Part.lmp ∈ W0) (h0 : Keeps W0 r0 s) :
    Keeps W0 r0 (locatorEnd s) := by
  unfold locatorEnd
  repeat' first
    | with_reducible assumption
    | simp only [Keeps.lmp, h_lmp]
    | with_reducible apply setF_keeps
    | split

theorem selfTestEnd_keeps {W0 : List Part} {r0 : State} (s : State) (h_regs : Part.regs ∈ W0) (h_lmp : Part.lmp ∈ W0) (h0 : Keeps W0 r0 s) :
    Keeps W0 r0 (selfTestEnd s) := by
  unfold selfTestEnd
  repeat' first
    | with_reducible assumption
    | simp only [Keeps.lmp, h_lmp]
    | with_reducible apply setF_keeps
    | with_reducible apply lampDrop_keeps
    | split

theorem scanOff_keeps {W0 : List Part} {r0 : State} (s : State) (h_spk : Part.spk ∈ W0) (h_out : Part.out ∈ W0) (h0 : Keeps W0 r0 s) :
    Keeps W0 r0 (scanOff s) := by
  unfold scanOff
  repeat' first
    | with_reducible assumption
    | simp only [Keeps.spk, h_spk]
    | with_reducible apply emitAll_keeps

theorem spokesDark_keeps {W0 : List Part} {r0 : State} (s : State) (h_regs : Part.regs ∈ W0) (h_spk : Part.spk ∈ W0) (h_out : Part.out ∈ W0) (h0 : Keeps W0 r0 s) :
    Keeps W0 r0 (spokesDark s) := by
  unfold spokesDark
  repeat' first
    | with_reducible assumption
    | simp only [Keeps.spk, h_spk]
    | with_reducible apply setF_keeps
    | with_reducible apply scanOff_keeps
    | with_reducible apply Keeps.foldl
    | split
    | dsimp only
    | intro _

theorem lmpBlockReset_keeps {W0 : List Part} {r0 : State} (s : State) (h_regs : Part.regs ∈ W0) (h_hif : Part.hif ∈ W0) (h_queues : Part.queues ∈ W0) (h_sor : Part.sor ∈ W0) (h_srf : Part.srf ∈ W0) (h_chn : Part.chn ∈ W0) (h_tim : Part.tim ∈ W0) (h_lmp : Part.lmp ∈ W0) (h_spk : Part.spk ∈ W0) (h_ring : Part.ring ∈ W0) (h_out : Part.out ∈ W0) (h0 : Keeps W0 r0 s) :
    Keeps W0 r0 (lmpBlockReset s) := by
  unfold lmpBlockReset
  repeat' first
    | with_reducible assumption
    | simp only [Keeps.lmp, h_lmp]
    | with_reducible apply resetRegs_keeps
    | with_reducible apply raise_keeps
    | with_reducible apply engineStop_keeps
    | with_reducible apply genRelease_keeps
    | with_reducible apply cmpDone_keeps
    | with_reducible apply showsEnd_keeps
    | with_reducible apply spokesDark_keeps
    | with_reducible apply Keeps.foldl
    | split
    | dsimp only
    | intro _

theorem lmpCurve_keeps {W0 : List Part} {r0 : State} (s : State) (it : Item) (host : HostRes) (h_regs : Part.regs ∈ W0) (h_hif : Part.hif ∈ W0) (h_queues : Part.queues ∈ W0) (h_sor : Part.sor ∈ W0) (h_srf : Part.srf ∈ W0) (h_drc : Part.drc ∈ W0) (h_chn : Part.chn ∈ W0) (h_lmp : Part.lmp ∈ W0) (h_ring : Part.ring ∈ W0) (h_out : Part.out ∈ W0) (h_free : Part.free ∈ W0) (h0 : Keeps W0 r0 s) :
    Keeps W0 r0 (lmpCurve s it host) := by
  unfold lmpCurve
  repeat' first
    | with_reducible assumption
    | simp only [Keeps.lmp, h_lmp]
    | with_reducible apply areaFetch_keeps
    | with_reducible apply cmpDone_keeps
    | with_reducible apply Keeps.foldl
    | with_reducible refine Keeps.of_snd (by with_reducible assumption) ?_
    | with_reducible refine Keeps.of_snd2 (by with_reducible assumption) ?_
    | split
    | dsimp only
    | intro _

theorem execRunCell_keeps {W0 : List Part} {r0 : State} (s : State) (h_regs : Part.regs ∈ W0) (h_hif : Part.hif ∈ W0) (h_srf : Part.srf ∈ W0) (h_drc : Part.drc ∈ W0) (h_chn : Part.chn ∈ W0) (h_lmp : Part.lmp ∈ W0) (h_dram : Part.dram ∈ W0) (h_out : Part.out ∈ W0) (h_free : Part.free ∈ W0) {t0 : State} (h0 : Keeps W0 r0 s) (ht : execRunCell s = .next t0) :
    Keeps W0 r0 t0 := by
  unfold execRunCell at ht
  apply whenOn_keeps (ht := ht)
  repeat' first
    | with_reducible assumption
    | with_reducible refine takeRx_keeps (hx := by with_reducible assumption) ?_ ?_
    | with_reducible apply runArrive_keeps
    | split
    | dsimp only
    | intro _

theorem execAbortCell_keeps {W0 : List Part} {r0 : State} (s : State) (h_chn : Part.chn ∈ W0) (h_lmp : Part.lmp ∈ W0) {t0 : State} (h0 : Keeps W0 r0 s) (ht : execAbortCell s = .next t0) :
    Keeps W0 r0 t0 := by
  unfold execAbortCell at ht
  apply whenOn_keeps (ht := ht)
  repeat' first
    | with_reducible assumption
    | with_reducible refine takeRx_keeps (hx := by with_reducible assumption) ?_ ?_
    | with_reducible apply abortArrive_keeps
    | split
    | dsimp only
    | intro _

theorem execModeLetter_keeps {W0 : List Part} {r0 : State} (s : State) (h_regs : Part.regs ∈ W0) (h_hif : Part.hif ∈ W0) (h_chn : Part.chn ∈ W0) (h_tim : Part.tim ∈ W0) (h_sec : Part.sec ∈ W0) (h_lmp : Part.lmp ∈ W0) (h_upd : Part.upd ∈ W0) (h_out : Part.out ∈ W0) {t0 : State} (h0 : Keeps W0 r0 s) (ht : execModeLetter s = .next t0) :
    Keeps W0 r0 t0 := by
  unfold execModeLetter at ht
  apply whenOn_keeps (ht := ht)
  repeat' first
    | with_reducible assumption
    | with_reducible apply onLetter_keeps
    | with_reducible apply modeLetter_keeps
    | split
    | dsimp only
    | intro _

theorem execTileCadence_keeps {W0 : List Part} {r0 : State} (dt : Nat) (s : State) (h_regs : Part.regs ∈ W0) (h_hif : Part.hif ∈ W0) (h_queues : Part.queues ∈ W0) (h_sor : Part.sor ∈ W0) (h_srf : Part.srf ∈ W0) (h_chn : Part.chn ∈ W0) (h_tim : Part.tim ∈ W0) (h_tan : Part.tan ∈ W0) (h_sec : Part.sec ∈ W0) (h_lmp : Part.lmp ∈ W0) (h_ring : Part.ring ∈ W0) (h_time : Part.time ∈ W0) (h_wraps : Part.wraps ∈ W0) (h_up : Part.up ∈ W0) (h_out : Part.out ∈ W0) {t0 : State} (h0 : Keeps W0 r0 s) (ht : execTileCadence dt s = .next t0) :
    Keeps W0 r0 t0 := by
  unfold execTileCadence at ht
  apply whenOn_keeps (ht := ht)
  repeat' first
    | with_reducible assumption
    | with_reducible apply advance_keeps
    | with_reducible apply tileCadence_keeps
    | split
    | dsimp only
    | intro _

theorem execCommitInstant_keeps {W0 : List Part} {r0 : State} (dt : Nat) (s : State) (h_regs : Part.regs ∈ W0) (h_hif : Part.hif ∈ W0) (h_queues : Part.queues ∈ W0) (h_sor : Part.sor ∈ W0) (h_dma : Part.dma ∈ W0) (h_srf : Part.srf ∈ W0) (h_drc : Part.drc ∈ W0) (h_chn : Part.chn ∈ W0) (h_sec : Part.sec ∈ W0) (h_lmp : Part.lmp ∈ W0) (h_dram : Part.dram ∈ W0) (h_ring : Part.ring ∈ W0) (h_time : Part.time ∈ W0) (h_wraps : Part.wraps ∈ W0) (h_up : Part.up ∈ W0) (h_out : Part.out ∈ W0) (h_free : Part.free ∈ W0) {t0 : State} (h0 : Keeps W0 r0 s) (ht : execCommitInstant dt s = .next t0) :
    Keeps W0 r0 t0 := by
  unfold execCommitInstant at ht
  apply whenOn_keeps (ht := ht)
  repeat' first
    | with_reducible assumption
    | with_reducible apply advance_keeps
    | with_reducible apply commitInstant_keeps
    | split
    | dsimp only
    | intro _

theorem execReceiptIntervalClose_keeps {W0 : List Part} {r0 : State} (dt : Nat) (s : State) (h_regs : Part.regs ∈ W0) (h_hif : Part.hif ∈ W0) (h_chn : Part.chn ∈ W0) (h_sec : Part.sec ∈ W0) (h_time : Part.time ∈ W0) (h_wraps : Part.wraps ∈ W0) (h_up : Part.up ∈ W0) (h_out : Part.out ∈ W0) {t0 : State} (h0 : Keeps W0 r0 s) (ht : execReceiptIntervalClose dt s = .next t0) :
    Keeps W0 r0 t0 := by
  unfold execReceiptIntervalClose at ht
  apply whenOn_keeps (ht := ht)
  repeat' first
    | with_reducible assumption
    | with_reducible apply advance_keeps
    | with_reducible apply intervalStep_keeps
    | split
    | dsimp only
    | intro _

theorem execSlotLatch_keeps {W0 : List Part} {r0 : State} (dt : Nat) (late : Bool) (s : State) (h_regs : Part.regs ∈ W0) (h_hif : Part.hif ∈ W0) (h_queues : Part.queues ∈ W0) (h_sor : Part.sor ∈ W0) (h_dma : Part.dma ∈ W0) (h_srf : Part.srf ∈ W0) (h_drc : Part.drc ∈ W0) (h_chn : Part.chn ∈ W0) (h_lmp : Part.lmp ∈ W0) (h_spk : Part.spk ∈ W0) (h_dram : Part.dram ∈ W0) (h_ring : Part.ring ∈ W0) (h_time : Part.time ∈ W0) (h_wraps : Part.wraps ∈ W0) (h_up : Part.up ∈ W0) (h_out : Part.out ∈ W0) (h_free : Part.free ∈ W0) {t0 : State} (h0 : Keeps W0 r0 s) (ht : execSlotLatch dt late s = .next t0) :
    Keeps W0 r0 t0 := by
  unfold execSlotLatch at ht
  apply whenOn_keeps (ht := ht)
  repeat' first
    | with_reducible assumption
    | with_reducible apply advance_keeps
    | with_reducible apply slotLatch_keeps
    | split
    | dsimp only
    | intro _

theorem execLmpCurveLoad_keeps {W0 : List Part} {r0 : State} (host : HostRes) (s : State) (h_regs : Part.regs ∈ W0) (h_hif : Part.hif ∈ W0) (h_queues : Part.queues ∈ W0) (h_sor : Part.sor ∈ W0) (h_srf : Part.srf ∈ W0) (h_drc : Part.drc ∈ W0) (h_chn : Part.chn ∈ W0) (h_lmp : Part.lmp ∈ W0) (h_ring : Part.ring ∈ W0) (h_out : Part.out ∈ W0) (h_free : Part.free ∈ W0) {t0 : State} (h0 : Keeps W0 r0 s) (ht : execLmpCurveLoad host s = .next t0) :
    Keeps W0 r0 t0 := by
  unfold execLmpCurveLoad at ht
  injection ht with ht
  subst ht
  repeat' first
    | with_reducible assumption
    | with_reducible apply onEntryRead_keeps
    | with_reducible apply lmpCurve_keeps
    | split
    | dsimp only
    | intro _

theorem execSvcPress_keeps {W0 : List Part} {r0 : State} (dt : Nat) (s : State) (h_regs : Part.regs ∈ W0) (h_hif : Part.hif ∈ W0) (h_chn : Part.chn ∈ W0) (h_lmp : Part.lmp ∈ W0) (h_time : Part.time ∈ W0) (h_wraps : Part.wraps ∈ W0) (h_up : Part.up ∈ W0) (h_out : Part.out ∈ W0) {t0 : State} (h0 : Keeps W0 r0 s) (ht : execSvcPress dt s = .next t0) :
    Keeps W0 r0 t0 := by
  unfold execSvcPress at ht
  apply whenOn_keeps (ht := ht)
  repeat' first
    | with_reducible assumption
    | with_reducible apply advance_keeps
    | with_reducible apply svcPress_keeps
    | split
    | dsimp only
    | intro _

theorem execSvcLongHold_keeps {W0 : List Part} {r0 : State} (dt : Nat) (s : State) (h_regs : Part.regs ∈ W0) (h_hif : Part.hif ∈ W0) (h_queues : Part.queues ∈ W0) (h_sor : Part.sor ∈ W0) (h_dma : Part.dma ∈ W0) (h_srf : Part.srf ∈ W0) (h_drc : Part.drc ∈ W0) (h_chn : Part.chn ∈ W0) (h_lmp : Part.lmp ∈ W0) (h_dram : Part.dram ∈ W0) (h_ring : Part.ring ∈ W0) (h_time : Part.time ∈ W0) (h_wraps : Part.wraps ∈ W0) (h_up : Part.up ∈ W0) (h_out : Part.out ∈ W0) (h_free : Part.free ∈ W0) {t0 : State} (h0 : Keeps W0 r0 s) (ht : execSvcLongHold dt s = .next t0) :
    Keeps W0 r0 t0 := by
  unfold execSvcLongHold at ht
  apply whenOn_keeps (ht := ht)
  repeat' first
    | with_reducible assumption
    | with_reducible apply advance_keeps
    | with_reducible apply svcHold_keeps
    | split
    | dsimp only
    | intro _

theorem execLocatorEnd_keeps {W0 : List Part} {r0 : State} (dt : Nat) (s : State) (h_regs : Part.regs ∈ W0) (h_hif : Part.hif ∈ W0) (h_chn : Part.chn ∈ W0) (h_lmp : Part.lmp ∈ W0) (h_time : Part.time ∈ W0) (h_wraps : Part.wraps ∈ W0) (h_up : Part.up ∈ W0) (h_out : Part.out ∈ W0) {t0 : State} (h0 : Keeps W0 r0 s) (ht : execLocatorEnd dt s = .next t0) :
    Keeps W0 r0 t0 := by
  unfold execLocatorEnd at ht
  apply whenOn_keeps (ht := ht)
  repeat' first
    | with_reducible assumption
    | with_reducible apply advance_keeps
    | with_reducible apply locatorEnd_keeps
    | split
    | dsimp only
    | intro _

theorem execSelfTestEnd_keeps {W0 : List Part} {r0 : State} (dt : Nat) (s : State) (h_regs : Part.regs ∈ W0) (h_hif : Part.hif ∈ W0) (h_chn : Part.chn ∈ W0) (h_lmp : Part.lmp ∈ W0) (h_time : Part.time ∈ W0) (h_wraps : Part.wraps ∈ W0) (h_up : Part.up ∈ W0) (h_out : Part.out ∈ W0) {t0 : State} (h0 : Keeps W0 r0 s) (ht : execSelfTestEnd dt s = .next t0) :
    Keeps W0 r0 t0 := by
  unfold execSelfTestEnd at ht
  apply whenOn_keeps (ht := ht)
  repeat' first
    | with_reducible assumption
    | with_reducible apply advance_keeps
    | with_reducible apply selfTestEnd_keeps
    | split
    | dsimp only
    | intro _

end Sys2Proof.Machine
end

