-- ==== Sys2Proof/Laws/KeepSpk.lean ====
section
/-! SUPPORT. What each operation of Machine/Spk.lean touches. -/

namespace Sys2Proof.Machine

theorem setSpoke_keeps {W0 : List Part} {r0 : State} (s : State) (n : Nat) (x : SpokeSt) (h_spk : Part.spk ∈ W0) (h0 : Keeps W0 r0 s) :
    Keeps W0 r0 (setSpoke s n x) := by
  unfold setSpoke
  repeat' first
    | with_reducible assumption
    | simp only [Keeps.spk, h_spk]

theorem surfWalk_keeps {W0 : List Part} {r0 : State} (s : State) (h : Nat) (off : Nat) (n : Nat) (h_regs : Part.regs ∈ W0) (h_hif : Part.hif ∈ W0) (h_srf : Part.srf ∈ W0) (h_drc : Part.drc ∈ W0) (h_chn : Part.chn ∈ W0) (h_out : Part.out ∈ W0) (h_free : Part.free ∈ W0) (h0 : Keeps W0 r0 s) :
    Keeps W0 r0 (surfWalk s h off n) := by
  unfold surfWalk
  repeat' first
    | with_reducible assumption
    | with_reducible apply srfWalk_keeps
    | with_reducible apply engineNote_keeps
    | with_reducible apply Keeps.foldl
    | split
    | dsimp only
    | intro _

theorem codeWalk_keeps {W0 : List Part} {r0 : State} (s : State) (n : Nat) (h_regs : Part.regs ∈ W0) (h_hif : Part.hif ∈ W0) (h_srf : Part.srf ∈ W0) (h_drc : Part.drc ∈ W0) (h_chn : Part.chn ∈ W0) (h_out : Part.out ∈ W0) (h_free : Part.free ∈ W0) (h0 : Keeps W0 r0 s) :
    Keeps W0 r0 (codeWalk s n) := by
  unfold codeWalk
  repeat' first
    | with_reducible assumption
    | with_reducible apply surfWalk_keeps

theorem spokeSend_keeps {W0 : List Part} {r0 : State} (s : State) (n : Nat) (ps : List Bytes) (h_out : Part.out ∈ W0) (h0 : Keeps W0 r0 s) :
    Keeps W0 r0 (spokeSend s n ps) := by
  unfold spokeSend
  repeat' first
    | with_reducible assumption
    | with_reducible apply emitAll_keeps

theorem sendWrite_keeps {W0 : List Part} {r0 : State} (s : State) (n : Nat) (b : Bytes) (h_spk : Part.spk ∈ W0) (h_out : Part.out ∈ W0) (h0 : Keeps W0 r0 s) :
    Keeps W0 r0 (sendWrite s n b) := by
  unfold sendWrite
  repeat' first
    | with_reducible assumption
    | with_reducible apply setSpoke_keeps
    | with_reducible apply spokeSend_keeps
    | split
    | dsimp only

theorem sendWrites_keeps {W0 : List Part} {r0 : State} (s : State) (n : Nat) (h_spk : Part.spk ∈ W0) (h_out : Part.out ∈ W0) (h0 : Keeps W0 r0 s) :
    Keeps W0 r0 (sendWrites s n) := by
  unfold sendWrites
  repeat' first
    | with_reducible assumption
    | with_reducible apply setSpoke_keeps
    | with_reducible apply sendWrite_keeps
    | with_reducible apply Keeps.foldl
    | split
    | dsimp only
    | intro _

theorem askRead_keeps {W0 : List Part} {r0 : State} (s : State) (n : Nat) (h_spk : Part.spk ∈ W0) (h_out : Part.out ∈ W0) (h0 : Keeps W0 r0 s) :
    Keeps W0 r0 (askRead s n) := by
  unfold askRead
  repeat' first
    | with_reducible assumption
    | with_reducible apply setSpoke_keeps
    | with_reducible apply spokeSend_keeps
    | with_reducible refine Keeps.of_snd (by with_reducible assumption) ?_
    | with_reducible refine Keeps.of_snd2 (by with_reducible assumption) ?_
    | split
    | dsimp only

theorem pump_keeps {W0 : List Part} {r0 : State} (s : State) (n : Nat) (h_spk : Part.spk ∈ W0) (h_out : Part.out ∈ W0) (h0 : Keeps W0 r0 s) :
    Keeps W0 r0 (pump s n) := by
  unfold pump
  repeat' first
    | with_reducible assumption
    | with_reducible apply sendWrites_keeps
    | with_reducible apply askRead_keeps

theorem bringUp_keeps {W0 : List Part} {r0 : State} (s : State) (n : Nat) (h_regs : Part.regs ∈ W0) (h_spk : Part.spk ∈ W0) (h_out : Part.out ∈ W0) (h0 : Keeps W0 r0 s) :
    Keeps W0 r0 (bringUp s n) := by
  unfold bringUp
  repeat' first
    | with_reducible assumption
    | with_reducible apply setF_keeps
    | with_reducible apply setSpoke_keeps
    | with_reducible apply spokeSend_keeps
    | with_reducible apply askRead_keeps

theorem toFault_keeps {W0 : List Part} {r0 : State} (s : State) (n : Nat) (c : Status) (found : Nat) (h_regs : Part.regs ∈ W0) (h_hif : Part.hif ∈ W0) (h_chn : Part.chn ∈ W0) (h_spk : Part.spk ∈ W0) (h_out : Part.out ∈ W0) (h0 : Keeps W0 r0 s) :
    Keeps W0 r0 (toFault s n c found) := by
  unfold toFault
  repeat' first
    | with_reducible assumption
    | with_reducible apply setF_keeps
    | with_reducible apply raise_keeps
    | with_reducible apply setSpoke_keeps

theorem idsDone_keeps {W0 : List Part} {r0 : State} (s : State) (n : Nat) (x : SpokeSt) (h_regs : Part.regs ∈ W0) (h_hif : Part.hif ∈ W0) (h_srf : Part.srf ∈ W0) (h_drc : Part.drc ∈ W0) (h_chn : Part.chn ∈ W0) (h_spk : Part.spk ∈ W0) (h_out : Part.out ∈ W0) (h_free : Part.free ∈ W0) (h0 : Keeps W0 r0 s) :
    Keeps W0 r0 (idsDone s n x) := by
  unfold idsDone
  repeat' first
    | with_reducible assumption
    | with_reducible apply setSpoke_keeps
    | with_reducible apply codeWalk_keeps
    | with_reducible apply spokeSend_keeps
    | with_reducible apply askRead_keeps
    | with_reducible apply toFault_keeps
    | split
    | dsimp only

theorem toRun_keeps {W0 : List Part} {r0 : State} (s : State) (n : Nat) (h_regs : Part.regs ∈ W0) (h_spk : Part.spk ∈ W0) (h0 : Keeps W0 r0 s) :
    Keeps W0 r0 (toRun s n) := by
  unfold toRun
  repeat' first
    | with_reducible assumption
    | with_reducible apply setF_keeps
    | with_reducible apply setSpoke_keeps

theorem faultEvent_keeps {W0 : List Part} {r0 : State} (s : State) (entry : Nat) (frame : Nat) (h_regs : Part.regs ∈ W0) (h_hif : Part.hif ∈ W0) (h_chn : Part.chn ∈ W0) (h_spk : Part.spk ∈ W0) (h_out : Part.out ∈ W0) (h0 : Keeps W0 r0 s) :
    Keeps W0 r0 (faultEvent s entry frame) := by
  unfold faultEvent
  repeat' first
    | with_reducible assumption
    | simp only [Keeps.spk, h_spk]
    | with_reducible apply raise_keeps
    | split

theorem confirmFault_keeps {W0 : List Part} {r0 : State} (s : State) (lamp : Nat) (kind : Nat) (frame : Nat) (h_regs : Part.regs ∈ W0) (h_hif : Part.hif ∈ W0) (h_chn : Part.chn ∈ W0) (h_spk : Part.spk ∈ W0) (h_out : Part.out ∈ W0) (h0 : Keeps W0 r0 s) :
    Keeps W0 r0 (confirmFault s lamp kind frame) := by
  unfold confirmFault
  repeat' first
    | with_reducible assumption
    | simp only [Keeps.spk, h_spk]
    | with_reducible apply setF_keeps
    | with_reducible apply faultEvent_keeps
    | split

theorem faultResult_keeps {W0 : List Part} {r0 : State} (s : State) (frame : Nat) (lamp : Nat) (kind : Nat) (shown : Bool) (h_regs : Part.regs ∈ W0) (h_hif : Part.hif ∈ W0) (h_chn : Part.chn ∈ W0) (h_spk : Part.spk ∈ W0) (h_out : Part.out ∈ W0) (h0 : Keeps W0 r0 s) :
    Keeps W0 r0 (faultResult s frame lamp kind shown) := by
  unfold faultResult
  repeat' first
    | with_reducible assumption
    | simp only [Keeps.spk, h_spk]
    | with_reducible apply confirmFault_keeps
    | split

theorem lineResult_keeps {W0 : List Part} {r0 : State} (s : State) (frame : Nat) (n : Nat) (d : Nat) (l : Nat) (open' : Nat) (short : Nat) (valid : Nat) (h_regs : Part.regs ∈ W0) (h_hif : Part.hif ∈ W0) (h_chn : Part.chn ∈ W0) (h_spk : Part.spk ∈ W0) (h_out : Part.out ∈ W0) (h0 : Keeps W0 r0 s) :
    Keeps W0 r0 (lineResult s frame n d l open' short valid) := by
  unfold lineResult
  repeat' first
    | with_reducible assumption
    | with_reducible apply faultResult_keeps
    | with_reducible apply Keeps.foldl
    | split
    | dsimp only
    | intro _

theorem clearLines_keeps {W0 : List Part} {r0 : State} (s : State) (frame : Nat) (n : Nat) (d : Nat) (lines : Nat) (h_spk : Part.spk ∈ W0) (h0 : Keeps W0 r0 s) :
    Keeps W0 r0 (clearLines s frame n d lines) := by
  unfold clearLines
  repeat' first
    | with_reducible assumption
    | simp only [Keeps.spk, h_spk]

theorem detDone_keeps {W0 : List Part} {r0 : State} (s : State) (n : Nat) (d : Nat) (h_spk : Part.spk ∈ W0) (h0 : Keeps W0 r0 s) :
    Keeps W0 r0 (detDone s n d) := by
  unfold detDone
  repeat' first
    | with_reducible assumption
    | simp only [Keeps.spk, h_spk]

theorem detResult_keeps {W0 : List Part} {r0 : State} (s : State) (n : Nat) (p : Nat) (r : Nat) (v : Nat) (h_regs : Part.regs ∈ W0) (h_hif : Part.hif ∈ W0) (h_chn : Part.chn ∈ W0) (h_spk : Part.spk ∈ W0) (h_out : Part.out ∈ W0) (h0 : Keeps W0 r0 s) :
    Keeps W0 r0 (detResult s n p r v) := by
  unfold detResult
  repeat' first
    | with_reducible assumption
    | with_reducible apply setSpoke_keeps
    | with_reducible apply lineResult_keeps
    | with_reducible apply clearLines_keeps
    | with_reducible apply detDone_keeps
    | split
    | dsimp only

theorem upRead_keeps {W0 : List Part} {r0 : State} (s : State) (n : Nat) (p : Nat) (r : Nat) (v : Option Nat) (h_regs : Part.regs ∈ W0) (h_hif : Part.hif ∈ W0) (h_srf : Part.srf ∈ W0) (h_drc : Part.drc ∈ W0) (h_chn : Part.chn ∈ W0) (h_spk : Part.spk ∈ W0) (h_out : Part.out ∈ W0) (h_free : Part.free ∈ W0) (h0 : Keeps W0 r0 s) :
    Keeps W0 r0 (upRead s n p r v) := by
  unfold upRead
  repeat' first
    | with_reducible assumption
    | with_reducible apply setSpoke_keeps
    | with_reducible apply askRead_keeps
    | with_reducible apply toFault_keeps
    | with_reducible apply idsDone_keeps
    | with_reducible apply toRun_keeps
    | with_reducible refine Keeps.of_snd (by with_reducible assumption) ?_
    | with_reducible refine Keeps.of_snd2 (by with_reducible assumption) ?_
    | split
    | dsimp only

theorem readEnd_keeps {W0 : List Part} {r0 : State} (s : State) (n : Nat) (v : Option Nat) (h_regs : Part.regs ∈ W0) (h_hif : Part.hif ∈ W0) (h_srf : Part.srf ∈ W0) (h_drc : Part.drc ∈ W0) (h_chn : Part.chn ∈ W0) (h_spk : Part.spk ∈ W0) (h_out : Part.out ∈ W0) (h_free : Part.free ∈ W0) (h0 : Keeps W0 r0 s) :
    Keeps W0 r0 (readEnd s n v) := by
  unfold readEnd
  repeat' first
    | with_reducible assumption
    | with_reducible apply incSat_keeps
    | with_reducible apply setSpoke_keeps
    | with_reducible apply askRead_keeps
    | with_reducible apply toFault_keeps
    | with_reducible apply detResult_keeps
    | with_reducible apply upRead_keeps
    | with_reducible refine Keeps.of_snd (by with_reducible assumption) ?_
    | with_reducible refine Keeps.of_snd2 (by with_reducible assumption) ?_
    | split

theorem readMiss_keeps {W0 : List Part} {r0 : State} (s : State) (n : Nat) (h_regs : Part.regs ∈ W0) (h_hif : Part.hif ∈ W0) (h_srf : Part.srf ∈ W0) (h_drc : Part.drc ∈ W0) (h_chn : Part.chn ∈ W0) (h_spk : Part.spk ∈ W0) (h_out : Part.out ∈ W0) (h_free : Part.free ∈ W0) (h0 : Keeps W0 r0 s) :
    Keeps W0 r0 (readMiss s n) := by
  unfold readMiss
  repeat' first
    | with_reducible assumption
    | with_reducible apply setSpoke_keeps
    | with_reducible apply askRead_keeps
    | with_reducible apply readEnd_keeps
    | split
    | dsimp only

theorem readAbsent_keeps {W0 : List Part} {r0 : State} (s : State) (n : Nat) (h_regs : Part.regs ∈ W0) (h_hif : Part.hif ∈ W0) (h_srf : Part.srf ∈ W0) (h_drc : Part.drc ∈ W0) (h_chn : Part.chn ∈ W0) (h_spk : Part.spk ∈ W0) (h_out : Part.out ∈ W0) (h_free : Part.free ∈ W0) (h0 : Keeps W0 r0 s) :
    Keeps W0 r0 (readAbsent s n) := by
  unfold readAbsent
  repeat' first
    | with_reducible assumption
    | with_reducible apply readMiss_keeps
    | split

theorem readAnswer_keeps {W0 : List Part} {r0 : State} (s : State) (n : Nat) (b : Bytes) (h_regs : Part.regs ∈ W0) (h_hif : Part.hif ∈ W0) (h_srf : Part.srf ∈ W0) (h_drc : Part.drc ∈ W0) (h_chn : Part.chn ∈ W0) (h_spk : Part.spk ∈ W0) (h_out : Part.out ∈ W0) (h_free : Part.free ∈ W0) (h0 : Keeps W0 r0 s) :
    Keeps W0 r0 (readAnswer s n b) := by
  unfold readAnswer
  repeat' first
    | with_reducible assumption
    | with_reducible apply readEnd_keeps
    | with_reducible apply readMiss_keeps
    | split
    | dsimp only

theorem spkEnable_keeps {W0 : List Part} {r0 : State} (s : State) (h_regs : Part.regs ∈ W0) (h_spk : Part.spk ∈ W0) (h_out : Part.out ∈ W0) (h0 : Keeps W0 r0 s) :
    Keeps W0 r0 (spkEnable s) := by
  unfold spkEnable
  repeat' first
    | with_reducible assumption
    | simp only [Keeps.spk, h_spk]
    | with_reducible apply setF_keeps
    | with_reducible apply bringUp_keeps
    | with_reducible apply Keeps.foldl
    | split
    | dsimp only
    | intro _

theorem spkDisable_keeps {W0 : List Part} {r0 : State} (s : State) (h_regs : Part.regs ∈ W0) (h_spk : Part.spk ∈ W0) (h_out : Part.out ∈ W0) (h0 : Keeps W0 r0 s) :
    Keeps W0 r0 (spkDisable s) := by
  unfold spkDisable
  repeat' first
    | with_reducible assumption
    | with_reducible apply setF_keeps
    | with_reducible apply spokesDark_keeps

theorem bringUpRetry_keeps {W0 : List Part} {r0 : State} (s : State) (n : Nat) (h_regs : Part.regs ∈ W0) (h_spk : Part.spk ∈ W0) (h_out : Part.out ∈ W0) (h0 : Keeps W0 r0 s) :
    Keeps W0 r0 (bringUpRetry s n) := by
  unfold bringUpRetry
  repeat' first
    | with_reducible assumption
    | with_reducible apply bringUp_keeps
    | split

theorem statPoll_keeps {W0 : List Part} {r0 : State} (s : State) (h_spk : Part.spk ∈ W0) (h_out : Part.out ∈ W0) (h0 : Keeps W0 r0 s) :
    Keeps W0 r0 (statPoll s) := by
  unfold statPoll
  repeat' first
    | with_reducible assumption
    | simp only [Keeps.spk, h_spk]
    | with_reducible apply setSpoke_keeps
    | with_reducible apply pump_keeps
    | with_reducible apply Keeps.foldl
    | split
    | dsimp only
    | intro _

theorem spkReload_keeps {W0 : List Part} {r0 : State} (s : State) (h_regs : Part.regs ∈ W0) (h_hif : Part.hif ∈ W0) (h_srf : Part.srf ∈ W0) (h_drc : Part.drc ∈ W0) (h_chn : Part.chn ∈ W0) (h_spk : Part.spk ∈ W0) (h_out : Part.out ∈ W0) (h_free : Part.free ∈ W0) (h0 : Keeps W0 r0 s) :
    Keeps W0 r0 (spkReload s) := by
  unfold spkReload
  repeat' first
    | with_reducible assumption
    | with_reducible apply codeWalk_keeps
    | with_reducible apply sendWrite_keeps
    | with_reducible apply Keeps.foldl
    | split
    | dsimp only
    | intro _

theorem readbackEvent_keeps {W0 : List Part} {r0 : State} (s : State) (h_regs : Part.regs ∈ W0) (h_hif : Part.hif ∈ W0) (h_chn : Part.chn ∈ W0) (h_spk : Part.spk ∈ W0) (h_out : Part.out ∈ W0) (h0 : Keeps W0 r0 s) :
    Keeps W0 r0 (readbackEvent s) := by
  unfold readbackEvent
  repeat' first
    | with_reducible assumption
    | simp only [Keeps.spk, h_spk]
    | with_reducible apply raise_keeps
    | split

theorem mismatch_keeps {W0 : List Part} {r0 : State} (s : State) (spokes : Nat) (groups : Nat) (counted : Bool) (h_regs : Part.regs ∈ W0) (h_hif : Part.hif ∈ W0) (h_chn : Part.chn ∈ W0) (h_sec : Part.sec ∈ W0) (h_spk : Part.spk ∈ W0) (h_out : Part.out ∈ W0) (h0 : Keeps W0 r0 s) :
    Keeps W0 r0 (mismatch s spokes groups counted) := by
  unfold mismatch
  repeat' first
    | with_reducible assumption
    | simp only [Keeps.sec, h_sec]
    | with_reducible apply setF_keeps
    | with_reducible apply incSat_keeps
    | with_reducible apply readbackEvent_keeps
    | split

theorem latchOn_keeps {W0 : List Part} {r0 : State} (s : State) (i : Int) (lw : Nat) (slot : Nat) (det : Bool) (dark : Bool) (n : Nat) (h_spk : Part.spk ∈ W0) (h_out : Part.out ∈ W0) (h0 : Keeps W0 r0 s) :
    Keeps W0 r0 (latchOn s i lw slot det dark n) := by
  unfold latchOn
  repeat' first
    | with_reducible assumption
    | with_reducible apply emit_keeps
    | with_reducible apply setSpoke_keeps
    | split
    | dsimp only

theorem slotSend_keeps {W0 : List Part} {r0 : State} (s : State) (h : Show) (slot : Nat) (lw : Nat) (i : Int) (det : Bool) (dark : Bool) (n : Nat) (h_regs : Part.regs ∈ W0) (h_hif : Part.hif ∈ W0) (h_srf : Part.srf ∈ W0) (h_drc : Part.drc ∈ W0) (h_chn : Part.chn ∈ W0) (h_spk : Part.spk ∈ W0) (h_out : Part.out ∈ W0) (h_free : Part.free ∈ W0) (h0 : Keeps W0 r0 s) :
    Keeps W0 r0 (slotSend s h slot lw i det dark n) := by
  unfold slotSend
  repeat' first
    | with_reducible assumption
    | simp only [Keeps.spk, h_spk]
    | with_reducible apply surfWalk_keeps
    | with_reducible apply spokeSend_keeps
    | with_reducible apply latchOn_keeps
    | split

theorem stepWrite_keeps {W0 : List Part} {r0 : State} (s : State) (step : Nat) (h_spk : Part.spk ∈ W0) (h_out : Part.out ∈ W0) (h0 : Keeps W0 r0 s) :
    Keeps W0 r0 (stepWrite s step) := by
  unfold stepWrite
  repeat' first
    | with_reducible assumption
    | with_reducible apply setSpoke_keeps
    | with_reducible apply spokeSend_keeps
    | with_reducible apply Keeps.foldl
    | split
    | dsimp only
    | intro _

theorem detCut_keeps {W0 : List Part} {r0 : State} (s : State) (h_spk : Part.spk ∈ W0) (h0 : Keeps W0 r0 s) :
    Keeps W0 r0 (detCut s) := by
  unfold detCut
  repeat' first
    | with_reducible assumption
    | with_reducible apply setSpoke_keeps
    | with_reducible apply Keeps.foldl
    | split
    | dsimp only
    | intro _

theorem latchSend_keeps {W0 : List Part} {r0 : State} (s : State) (late : Bool) (pads : List (Nat × Nat)) (h_regs : Part.regs ∈ W0) (h_hif : Part.hif ∈ W0) (h_srf : Part.srf ∈ W0) (h_drc : Part.drc ∈ W0) (h_chn : Part.chn ∈ W0) (h_sec : Part.sec ∈ W0) (h_lmp : Part.lmp ∈ W0) (h_spk : Part.spk ∈ W0) (h_out : Part.out ∈ W0) (h_free : Part.free ∈ W0) (h0 : Keeps W0 r0 s) :
    Keeps W0 r0 (latchSend s late pads) := by
  unfold latchSend
  repeat' first
    | with_reducible assumption
    | simp only [Keeps.lmp_spk, Keeps.spk, h_lmp, h_spk]
    | with_reducible apply incSat_keeps
    | with_reducible apply slotWalk_keeps
    | with_reducible apply pump_keeps
    | with_reducible apply mismatch_keeps
    | with_reducible apply slotSend_keeps
    | with_reducible apply stepWrite_keeps
    | with_reducible apply detCut_keeps
    | with_reducible apply Keeps.foldl
    | with_reducible apply Keeps.snd
    | with_reducible apply Keeps.snd2
    | with_reducible apply Keeps.fst
    | with_reducible apply Keeps.foldl_snd
    | with_reducible apply Keeps.foldl_snd2
    | with_reducible apply Keeps.foldl_fst
    | with_reducible refine Keeps.of_fst (by with_reducible assumption) ?_
    | with_reducible refine Keeps.of_snd (by with_reducible assumption) ?_
    | with_reducible refine Keeps.of_snd2 (by with_reducible assumption) ?_
    | split
    | dsimp only
    | intro _

theorem driveScan_keeps {W0 : List Part} {r0 : State} (s : State) (t : Nat) (g : Nat) (a : Nat) (en : Bool) (gd : Bool) (h_spk : Part.spk ∈ W0) (h_out : Part.out ∈ W0) (h0 : Keeps W0 r0 s) :
    Keeps W0 r0 (driveScan s t g a en gd) := by
  unfold driveScan
  repeat' first
    | with_reducible assumption
    | simp only [Keeps.spk, h_spk]
    | with_reducible apply emit_keeps

theorem scanEdges_keeps {W0 : List Part} {r0 : State} (s : State) (e : Emission) (t : Nat) (edges : Nat → List (Nat × Nat × Bool × Bool)) (h_spk : Part.spk ∈ W0) (h_out : Part.out ∈ W0) (h0 : Keeps W0 r0 s) :
    Keeps W0 r0 (scanEdges s e t edges).2 := by
  unfold scanEdges
  repeat' first
    | with_reducible assumption
    | with_reducible apply driveScan_keeps
    | with_reducible apply Keeps.foldl
    | split
    | dsimp only
    | intro _

theorem lineSlot_keeps {W0 : List Part} {r0 : State} (s : State) (h_spk : Part.spk ∈ W0) (h_out : Part.out ∈ W0) (h0 : Keeps W0 r0 s) :
    Keeps W0 r0 (lineSlot s) := by
  unfold lineSlot
  repeat' first
    | with_reducible assumption
    | simp only [Keeps.spk, h_spk]
    | with_reducible apply scanEdges_keeps
    | with_reducible refine Keeps.of_snd (by with_reducible assumption) ?_
    | with_reducible refine Keeps.of_snd2 (by with_reducible assumption) ?_
    | split

theorem detStart_keeps {W0 : List Part} {r0 : State} (s : State) (frame : Nat) (h_regs : Part.regs ∈ W0) (h_spk : Part.spk ∈ W0) (h_out : Part.out ∈ W0) (h0 : Keeps W0 r0 s) :
    Keeps W0 r0 (detStart s frame) := by
  unfold detStart
  repeat' first
    | with_reducible assumption
    | simp only [Keeps.spk, h_spk]
    | with_reducible apply incMod_keeps
    | with_reducible apply setSpoke_keeps
    | with_reducible apply pump_keeps
    | with_reducible apply Keeps.foldl
    | with_reducible apply Keeps.snd
    | with_reducible apply Keeps.snd2
    | with_reducible apply Keeps.fst
    | with_reducible apply Keeps.foldl_snd
    | with_reducible apply Keeps.foldl_snd2
    | with_reducible apply Keeps.foldl_fst
    | with_reducible refine Keeps.of_fst (by with_reducible assumption) ?_
    | with_reducible refine Keeps.of_snd (by with_reducible assumption) ?_
    | with_reducible refine Keeps.of_snd2 (by with_reducible assumption) ?_
    | split
    | dsimp only
    | intro _

theorem emissionEnd_keeps {W0 : List Part} {r0 : State} (s : State) (pads : List (Nat × Nat)) (h_regs : Part.regs ∈ W0) (h_hif : Part.hif ∈ W0) (h_chn : Part.chn ∈ W0) (h_sec : Part.sec ∈ W0) (h_spk : Part.spk ∈ W0) (h_out : Part.out ∈ W0) (h0 : Keeps W0 r0 s) :
    Keeps W0 r0 (emissionEnd s pads) := by
  unfold emissionEnd
  repeat' first
    | with_reducible assumption
    | simp only [Keeps.spk, h_spk]
    | with_reducible apply mismatch_keeps
    | with_reducible apply scanEdges_keeps
    | with_reducible apply detStart_keeps
    | with_reducible refine Keeps.of_snd (by with_reducible assumption) ?_
    | with_reducible refine Keeps.of_snd2 (by with_reducible assumption) ?_
    | split

theorem faultClear_keeps {W0 : List Part} {r0 : State} (s : State) (h_regs : Part.regs ∈ W0) (h_spk : Part.spk ∈ W0) (h0 : Keeps W0 r0 s) :
    Keeps W0 r0 (faultClear s) := by
  unfold faultClear
  repeat' first
    | with_reducible assumption
    | simp only [Keeps.spk, h_spk]
    | with_reducible apply setF_keeps

theorem spkBlockReset_keeps {W0 : List Part} {r0 : State} (s : State) (h_regs : Part.regs ∈ W0) (h_spk : Part.spk ∈ W0) (h_out : Part.out ∈ W0) (h0 : Keeps W0 r0 s) :
    Keeps W0 r0 (spkBlockReset s) := by
  unfold spkBlockReset
  repeat' first
    | with_reducible assumption
    | simp only [Keeps.spk, h_spk]
    | with_reducible apply resetRegs_keeps
    | with_reducible apply scanOff_keeps

theorem execSpokeBringupRetry_keeps {W0 : List Part} {r0 : State} (dt : Nat) (n : Nat) (s : State) (h_regs : Part.regs ∈ W0) (h_hif : Part.hif ∈ W0) (h_chn : Part.chn ∈ W0) (h_spk : Part.spk ∈ W0) (h_time : Part.time ∈ W0) (h_wraps : Part.wraps ∈ W0) (h_up : Part.up ∈ W0) (h_out : Part.out ∈ W0) {t0 : State} (h0 : Keeps W0 r0 s) (ht : execSpokeBringupRetry dt n s = .next t0) :
    Keeps W0 r0 t0 := by
  unfold execSpokeBringupRetry at ht
  apply whenOn_keeps (ht := ht)
  repeat' first
    | with_reducible assumption
    | with_reducible apply advance_keeps
    | with_reducible apply bringUpRetry_keeps
    | split
    | dsimp only
    | intro _

theorem execDriverStatPoll_keeps {W0 : List Part} {r0 : State} (dt : Nat) (s : State) (h_regs : Part.regs ∈ W0) (h_hif : Part.hif ∈ W0) (h_chn : Part.chn ∈ W0) (h_spk : Part.spk ∈ W0) (h_time : Part.time ∈ W0) (h_wraps : Part.wraps ∈ W0) (h_up : Part.up ∈ W0) (h_out : Part.out ∈ W0) {t0 : State} (h0 : Keeps W0 r0 s) (ht : execDriverStatPoll dt s = .next t0) :
    Keeps W0 r0 t0 := by
  unfold execDriverStatPoll at ht
  apply whenOn_keeps (ht := ht)
  repeat' first
    | with_reducible assumption
    | with_reducible apply advance_keeps
    | with_reducible apply statPoll_keeps
    | split
    | dsimp only
    | intro _

theorem execReadAnswer_keeps {W0 : List Part} {r0 : State} (n : Nat) (b : Bytes) (s : State) (h_regs : Part.regs ∈ W0) (h_hif : Part.hif ∈ W0) (h_srf : Part.srf ∈ W0) (h_drc : Part.drc ∈ W0) (h_chn : Part.chn ∈ W0) (h_spk : Part.spk ∈ W0) (h_out : Part.out ∈ W0) (h_free : Part.free ∈ W0) {t0 : State} (h0 : Keeps W0 r0 s) (ht : execReadAnswer n b s = .next t0) :
    Keeps W0 r0 t0 := by
  unfold execReadAnswer at ht
  apply whenOn_keeps (ht := ht)
  repeat' first
    | with_reducible assumption
    | with_reducible apply readAnswer_keeps
    | split
    | dsimp only
    | intro _

theorem execReadAbsent_keeps {W0 : List Part} {r0 : State} (x : After) (s : State) (h_regs : Part.regs ∈ W0) (h_hif : Part.hif ∈ W0) (h_srf : Part.srf ∈ W0) (h_drc : Part.drc ∈ W0) (h_chn : Part.chn ∈ W0) (h_spk : Part.spk ∈ W0) (h_time : Part.time ∈ W0) (h_wraps : Part.wraps ∈ W0) (h_up : Part.up ∈ W0) (h_out : Part.out ∈ W0) (h_free : Part.free ∈ W0) {t0 : State} (h0 : Keeps W0 r0 s) (ht : execReadAbsent x s = .next t0) :
    Keeps W0 r0 t0 := by
  unfold execReadAbsent at ht
  apply whenOn_keeps (ht := ht)
  repeat' first
    | with_reducible assumption
    | with_reducible apply advance_keeps
    | with_reducible apply readAbsent_keeps
    | split
    | dsimp only
    | intro _

theorem execLatchSend_keeps {W0 : List Part} {r0 : State} (dt : Nat) (late : Bool) (pads : List (Nat × Nat)) (s : State) (h_regs : Part.regs ∈ W0) (h_hif : Part.hif ∈ W0) (h_srf : Part.srf ∈ W0) (h_drc : Part.drc ∈ W0) (h_chn : Part.chn ∈ W0) (h_sec : Part.sec ∈ W0) (h_lmp : Part.lmp ∈ W0) (h_spk : Part.spk ∈ W0) (h_time : Part.time ∈ W0) (h_wraps : Part.wraps ∈ W0) (h_up : Part.up ∈ W0) (h_out : Part.out ∈ W0) (h_free : Part.free ∈ W0) {t0 : State} (h0 : Keeps W0 r0 s) (ht : execLatchSend dt late pads s = .next t0) :
    Keeps W0 r0 t0 := by
  unfold execLatchSend at ht
  apply whenOn_keeps (ht := ht)
  repeat' first
    | with_reducible assumption
    | with_reducible apply advance_keeps
    | with_reducible apply latchSend_keeps
    | split
    | dsimp only
    | intro _

theorem execLineSlot_keeps {W0 : List Part} {r0 : State} (dt : Nat) (s : State) (h_regs : Part.regs ∈ W0) (h_hif : Part.hif ∈ W0) (h_chn : Part.chn ∈ W0) (h_spk : Part.spk ∈ W0) (h_time : Part.time ∈ W0) (h_wraps : Part.wraps ∈ W0) (h_up : Part.up ∈ W0) (h_out : Part.out ∈ W0) {t0 : State} (h0 : Keeps W0 r0 s) (ht : execLineSlot dt s = .next t0) :
    Keeps W0 r0 t0 := by
  unfold execLineSlot at ht
  apply whenOn_keeps (ht := ht)
  repeat' first
    | with_reducible assumption
    | with_reducible apply advance_keeps
    | with_reducible apply lineSlot_keeps
    | split
    | dsimp only
    | intro _

theorem execSlotEmissionEnd_keeps {W0 : List Part} {r0 : State} (dt : Nat) (pads : List (Nat × Nat)) (s : State) (h_regs : Part.regs ∈ W0) (h_hif : Part.hif ∈ W0) (h_chn : Part.chn ∈ W0) (h_sec : Part.sec ∈ W0) (h_spk : Part.spk ∈ W0) (h_time : Part.time ∈ W0) (h_wraps : Part.wraps ∈ W0) (h_up : Part.up ∈ W0) (h_out : Part.out ∈ W0) {t0 : State} (h0 : Keeps W0 r0 s) (ht : execSlotEmissionEnd dt pads s = .next t0) :
    Keeps W0 r0 t0 := by
  unfold execSlotEmissionEnd at ht
  apply whenOn_keeps (ht := ht)
  repeat' first
    | with_reducible assumption
    | with_reducible apply advance_keeps
    | with_reducible apply emissionEnd_keeps
    | split
    | dsimp only
    | intro _

theorem execDetectionRead_keeps {W0 : List Part} {r0 : State} (n : Nat) (d : Nat) (reg : Nat) (b : Bytes) (s : State) (h_regs : Part.regs ∈ W0) (h_hif : Part.hif ∈ W0) (h_srf : Part.srf ∈ W0) (h_drc : Part.drc ∈ W0) (h_chn : Part.chn ∈ W0) (h_spk : Part.spk ∈ W0) (h_out : Part.out ∈ W0) (h_free : Part.free ∈ W0) {t0 : State} (h0 : Keeps W0 r0 s) (ht : execDetectionRead n d reg b s = .next t0) :
    Keeps W0 r0 t0 := by
  unfold execDetectionRead at ht
  apply whenOn_keeps (ht := ht)
  repeat' first
    | with_reducible assumption
    | with_reducible apply readAnswer_keeps
    | split
    | dsimp only
    | intro _

end Sys2Proof.Machine
end

