-- ==== Sys2Proof/Laws/KeepCal.lean ====
section
/-! SUPPORT. What each operation of Machine/Cal.lean touches. -/

namespace Sys2Proof.Machine

theorem calRun_keeps {W0 : List Part} {r0 : State} (s : State) (r : Recal) (h_cal : Part.cal ∈ W0) (h0 : Keeps W0 r0 s) :
    Keeps W0 r0 (calRun s r) := by
  unfold calRun
  repeat' first
    | with_reducible assumption
    | simp only [Keeps.cal, h_cal]

theorem calSweep_keeps {W0 : List Part} {r0 : State} (s : State) (r : Recal) (h_regs : Part.regs ∈ W0) (h_lnk : Part.lnk ∈ W0) (h_cal : Part.cal ∈ W0) (h0 : Keeps W0 r0 s) :
    Keeps W0 r0 (calSweep s r) := by
  unfold calSweep
  repeat' first
    | with_reducible assumption
    | with_reducible apply setF_keeps
    | with_reducible apply setTaps_keeps
    | with_reducible apply calRun_keeps

theorem calStart_keeps {W0 : List Part} {r0 : State} (s : State) (i : Nat) (fromSet : Bool) (h_regs : Part.regs ∈ W0) (h_lnk : Part.lnk ∈ W0) (h_tim : Part.tim ∈ W0) (h_cal : Part.cal ∈ W0) (h_out : Part.out ∈ W0) (h_free : Part.free ∈ W0) (h0 : Keeps W0 r0 s) :
    Keeps W0 r0 (calStart s i fromSet) := by
  unfold calStart
  repeat' first
    | with_reducible assumption
    | with_reducible apply setF_keeps
    | with_reducible apply steerFor_keeps
    | with_reducible apply calRun_keeps
    | with_reducible apply calSweep_keeps
    | split
    | dsimp only

theorem calPannier_keeps {W0 : List Part} {r0 : State} (s : State) (h_regs : Part.regs ∈ W0) (h_lnk : Part.lnk ∈ W0) (h_cal : Part.cal ∈ W0) (h0 : Keeps W0 r0 s) :
    Keeps W0 r0 (calPannier s) := by
  unfold calPannier
  repeat' first
    | with_reducible assumption
    | with_reducible apply setF_keeps
    | with_reducible apply calSweep_keeps
    | split

theorem calComplete_keeps {W0 : List Part} {r0 : State} (s : State) (r : Recal) (h_regs : Part.regs ∈ W0) (h_lnk : Part.lnk ∈ W0) (h_cal : Part.cal ∈ W0) (h0 : Keeps W0 r0 s) :
    Keeps W0 r0 (calComplete s r) := by
  unfold calComplete
  repeat' first
    | with_reducible assumption
    | simp only [Keeps.cal, h_cal]
    | with_reducible apply setF_keeps
    | with_reducible apply incSat_keeps
    | with_reducible apply incMod_keeps
    | with_reducible apply setPort_keeps
    | split

theorem calDecide_keeps {W0 : List Part} {r0 : State} (s : State) (r : Recal) (h_regs : Part.regs ∈ W0) (h_lnk : Part.lnk ∈ W0) (h_cal : Part.cal ∈ W0) (h0 : Keeps W0 r0 s) :
    Keeps W0 r0 (calDecide s r) := by
  unfold calDecide
  repeat' first
    | with_reducible assumption
    | with_reducible apply setTaps_keeps
    | with_reducible apply calRun_keeps
    | with_reducible apply calComplete_keeps
    | with_reducible refine Keeps.of_snd (by with_reducible assumption) ?_
    | with_reducible refine Keeps.of_snd2 (by with_reducible assumption) ?_
    | split
    | dsimp only

theorem calWindow_keeps {W0 : List Part} {r0 : State} (s : State) (diff : Nat) (ew : Nat) (eh : Nat) (h_regs : Part.regs ∈ W0) (h_lnk : Part.lnk ∈ W0) (h_cal : Part.cal ∈ W0) (h0 : Keeps W0 r0 s) :
    Keeps W0 r0 (calWindow s diff ew eh) := by
  unfold calWindow
  repeat' first
    | with_reducible assumption
    | with_reducible apply setTaps_keeps
    | with_reducible apply calRun_keeps
    | with_reducible apply calDecide_keeps
    | split
    | dsimp only

theorem calMatched_keeps {W0 : List Part} {r0 : State} (s : State) (ok : Bool) (h_regs : Part.regs ∈ W0) (h_lnk : Part.lnk ∈ W0) (h_cal : Part.cal ∈ W0) (h0 : Keeps W0 r0 s) :
    Keeps W0 r0 (calMatched s ok) := by
  unfold calMatched
  repeat' first
    | with_reducible assumption
    | with_reducible apply setTaps_keeps
    | with_reducible apply calAbort_keeps
    | with_reducible apply calRun_keeps
    | split

theorem calSwitch_keeps {W0 : List Part} {r0 : State} (s : State) (sof : Bool) (h_regs : Part.regs ∈ W0) (h_lnk : Part.lnk ∈ W0) (h_cal : Part.cal ∈ W0) (h0 : Keeps W0 r0 s) :
    Keeps W0 r0 (calSwitch s sof) := by
  unfold calSwitch
  repeat' first
    | with_reducible assumption
    | with_reducible apply calComplete_keeps
    | split

theorem calBand_keeps {W0 : List Part} {r0 : State} (s : State) (band : Nat) (h_cal : Part.cal ∈ W0) (h0 : Keeps W0 r0 s) :
    Keeps W0 r0 (calBand s band) := by
  unfold calBand
  repeat' first
    | with_reducible assumption
    | simp only [Keeps.cal, h_cal]
    | split

theorem calTimer_keeps {W0 : List Part} {r0 : State} (s : State) (h_cal : Part.cal ∈ W0) (h0 : Keeps W0 r0 s) :
    Keeps W0 r0 (calTimer s) := by
  unfold calTimer
  repeat' first
    | with_reducible assumption
    | simp only [Keeps.cal, h_cal]

theorem calNext_keeps {W0 : List Part} {r0 : State} (s : State) (h_regs : Part.regs ∈ W0) (h_lnk : Part.lnk ∈ W0) (h_tim : Part.tim ∈ W0) (h_cal : Part.cal ∈ W0) (h_out : Part.out ∈ W0) (h_free : Part.free ∈ W0) (h0 : Keeps W0 r0 s) :
    Keeps W0 r0 (calNext s) := by
  unfold calNext
  repeat' first
    | with_reducible assumption
    | simp only [Keeps.cal, h_cal]
    | with_reducible apply calStart_keeps
    | with_reducible apply calTimer_keeps
    | split

theorem calManual_keeps {W0 : List Part} {r0 : State} (s : State) (h_regs : Part.regs ∈ W0) (h_lnk : Part.lnk ∈ W0) (h_tim : Part.tim ∈ W0) (h_cal : Part.cal ∈ W0) (h_out : Part.out ∈ W0) (h_free : Part.free ∈ W0) (h0 : Keeps W0 r0 s) :
    Keeps W0 r0 (calManual s) := by
  unfold calManual
  repeat' first
    | with_reducible assumption
    | with_reducible apply calStart_keeps

theorem calDisable_keeps {W0 : List Part} {r0 : State} (s : State) (h_regs : Part.regs ∈ W0) (h_lnk : Part.lnk ∈ W0) (h_cal : Part.cal ∈ W0) (h0 : Keeps W0 r0 s) :
    Keeps W0 r0 (calDisable s) := by
  unfold calDisable
  repeat' first
    | with_reducible assumption
    | with_reducible apply calAbort_keeps

theorem standbyRetrain_keeps {W0 : List Part} {r0 : State} (s : State) (c : Nat) (ok : Bool) (l : List LTrain) (h_regs : Part.regs ∈ W0) (h_cal : Part.cal ∈ W0) (h0 : Keeps W0 r0 s) :
    Keeps W0 r0 (standbyRetrain s c ok l) := by
  unfold standbyRetrain
  repeat' first
    | with_reducible assumption
    | simp only [Keeps.cal, h_cal]
    | with_reducible apply setF_keeps
    | with_reducible apply incSat_keeps
    | with_reducible apply incMod_keeps
    | with_reducible apply calTrain_keeps
    | with_reducible apply retrackChan_keeps
    | split

theorem calSave_keeps {W0 : List Part} {r0 : State} (s : State) (h_regs : Part.regs ∈ W0) (h_cal : Part.cal ∈ W0) (h_upd : Part.upd ∈ W0) (h_out : Part.out ∈ W0) (h_free : Part.free ∈ W0) (h0 : Keeps W0 r0 s) :
    Keeps W0 r0 (calSave s) := by
  unfold calSave
  repeat' first
    | with_reducible assumption
    | simp only [Keeps.cal, h_cal]
    | with_reducible apply flashPush_keeps
    | split

theorem calBlockReset_keeps {W0 : List Part} {r0 : State} (s : State) (h_regs : Part.regs ∈ W0) (h_lnk : Part.lnk ∈ W0) (h_cal : Part.cal ∈ W0) (h0 : Keeps W0 r0 s) :
    Keeps W0 r0 (calBlockReset s) := by
  unfold calBlockReset
  repeat' first
    | with_reducible assumption
    | simp only [Keeps.cal, h_cal]
    | with_reducible apply resetRegs_keeps
    | with_reducible apply calAbort_keeps

theorem trackStep_keeps {W0 : List Part} {r0 : State} (s : State) (osc : List Nat) (h_regs : Part.regs ∈ W0) (h_cal : Part.cal ∈ W0) (h0 : Keeps W0 r0 s) :
    Keeps W0 r0 (trackStep s osc) := by
  unfold trackStep
  repeat' first
    | with_reducible assumption
    | simp only [Keeps.cal, h_cal]
    | with_reducible apply trackChan_keeps
    | with_reducible apply Keeps.foldl
    | split
    | dsimp only
    | intro _

theorem execDramTrackStep_keeps {W0 : List Part} {r0 : State} (dt : Nat) (osc : List Nat) (s : State) (h_regs : Part.regs ∈ W0) (h_hif : Part.hif ∈ W0) (h_chn : Part.chn ∈ W0) (h_cal : Part.cal ∈ W0) (h_time : Part.time ∈ W0) (h_wraps : Part.wraps ∈ W0) (h_up : Part.up ∈ W0) (h_out : Part.out ∈ W0) {t0 : State} (h0 : Keeps W0 r0 s) (ht : execDramTrackStep dt osc s = .next t0) :
    Keeps W0 r0 t0 := by
  unfold execDramTrackStep at ht
  apply whenOn_keeps (ht := ht)
  repeat' first
    | with_reducible assumption
    | with_reducible apply advance_keeps
    | with_reducible apply trackStep_keeps
    | split
    | dsimp only
    | intro _

theorem execStandbyRetrain_keeps {W0 : List Part} {r0 : State} (dt : Nat) (c : Nat) (ok : Bool) (l : List LTrain) (s : State) (h_regs : Part.regs ∈ W0) (h_hif : Part.hif ∈ W0) (h_chn : Part.chn ∈ W0) (h_cal : Part.cal ∈ W0) (h_time : Part.time ∈ W0) (h_wraps : Part.wraps ∈ W0) (h_up : Part.up ∈ W0) (h_out : Part.out ∈ W0) {t0 : State} (h0 : Keeps W0 r0 s) (ht : execStandbyRetrain dt c ok l s = .next t0) :
    Keeps W0 r0 t0 := by
  unfold execStandbyRetrain at ht
  apply whenOn_keeps (ht := ht)
  repeat' first
    | with_reducible assumption
    | with_reducible apply advance_keeps
    | with_reducible apply standbyRetrain_keeps
    | split
    | dsimp only
    | intro _

theorem execRecalStart_keeps {W0 : List Part} {r0 : State} (dt : Nat) (s : State) (h_regs : Part.regs ∈ W0) (h_hif : Part.hif ∈ W0) (h_chn : Part.chn ∈ W0) (h_lnk : Part.lnk ∈ W0) (h_tim : Part.tim ∈ W0) (h_cal : Part.cal ∈ W0) (h_time : Part.time ∈ W0) (h_wraps : Part.wraps ∈ W0) (h_up : Part.up ∈ W0) (h_out : Part.out ∈ W0) (h_free : Part.free ∈ W0) {t0 : State} (h0 : Keeps W0 r0 s) (ht : execRecalStart dt s = .next t0) :
    Keeps W0 r0 t0 := by
  unfold execRecalStart at ht
  apply whenOn_keeps (ht := ht)
  repeat' first
    | with_reducible assumption
    | with_reducible apply advance_keeps
    | with_reducible apply calNext_keeps
    | split
    | dsimp only
    | intro _

theorem execRecalPannierMatched_keeps {W0 : List Part} {r0 : State} (s : State) (h_regs : Part.regs ∈ W0) (h_lnk : Part.lnk ∈ W0) (h_cal : Part.cal ∈ W0) {t0 : State} (h0 : Keeps W0 r0 s) (ht : execRecalPannierMatched s = .next t0) :
    Keeps W0 r0 t0 := by
  unfold execRecalPannierMatched at ht
  apply whenOn_keeps (ht := ht)
  repeat' first
    | with_reducible assumption
    | with_reducible apply calPannier_keeps
    | split
    | dsimp only
    | intro _

theorem execRecalMeasureWindow_keeps {W0 : List Part} {r0 : State} (dt : Nat) (diff : Nat) (ew : Nat) (eh : Nat) (s : State) (h_regs : Part.regs ∈ W0) (h_hif : Part.hif ∈ W0) (h_chn : Part.chn ∈ W0) (h_lnk : Part.lnk ∈ W0) (h_cal : Part.cal ∈ W0) (h_time : Part.time ∈ W0) (h_wraps : Part.wraps ∈ W0) (h_up : Part.up ∈ W0) (h_out : Part.out ∈ W0) {t0 : State} (h0 : Keeps W0 r0 s) (ht : execRecalMeasureWindow dt diff ew eh s = .next t0) :
    Keeps W0 r0 t0 := by
  unfold execRecalMeasureWindow at ht
  apply whenOn_keeps (ht := ht)
  repeat' first
    | with_reducible assumption
    | with_reducible apply advance_keeps
    | with_reducible apply calWindow_keeps
    | split
    | dsimp only
    | intro _

theorem execRecalLaneMatched_keeps {W0 : List Part} {r0 : State} (ok : Bool) (s : State) (h_regs : Part.regs ∈ W0) (h_lnk : Part.lnk ∈ W0) (h_cal : Part.cal ∈ W0) {t0 : State} (h0 : Keeps W0 r0 s) (ht : execRecalLaneMatched ok s = .next t0) :
    Keeps W0 r0 t0 := by
  unfold execRecalLaneMatched at ht
  apply whenOn_keeps (ht := ht)
  repeat' first
    | with_reducible assumption
    | with_reducible apply calMatched_keeps
    | split
    | dsimp only
    | intro _

theorem execRecalSwitchBack_keeps {W0 : List Part} {r0 : State} (dt : Nat) (sof : Bool) (s : State) (h_regs : Part.regs ∈ W0) (h_hif : Part.hif ∈ W0) (h_chn : Part.chn ∈ W0) (h_lnk : Part.lnk ∈ W0) (h_cal : Part.cal ∈ W0) (h_time : Part.time ∈ W0) (h_wraps : Part.wraps ∈ W0) (h_up : Part.up ∈ W0) (h_out : Part.out ∈ W0) {t0 : State} (h0 : Keeps W0 r0 s) (ht : execRecalSwitchBack dt sof s = .next t0) :
    Keeps W0 r0 t0 := by
  unfold execRecalSwitchBack at ht
  apply whenOn_keeps (ht := ht)
  repeat' first
    | with_reducible assumption
    | with_reducible apply advance_keeps
    | with_reducible apply calSwitch_keeps
    | split
    | dsimp only
    | intro _

theorem execRecalAbort_keeps {W0 : List Part} {r0 : State} (c : Status) (s : State) (h_regs : Part.regs ∈ W0) (h_lnk : Part.lnk ∈ W0) (h_cal : Part.cal ∈ W0) {t0 : State} (h0 : Keeps W0 r0 s) (ht : execRecalAbort c s = .next t0) :
    Keeps W0 r0 t0 := by
  unfold execRecalAbort at ht
  apply whenOn_keeps (ht := ht)
  repeat' first
    | with_reducible assumption
    | with_reducible apply calAbort_keeps
    | split
    | dsimp only
    | intro _

theorem execCalSetSave_keeps {W0 : List Part} {r0 : State} (dt : Nat) (s : State) (h_regs : Part.regs ∈ W0) (h_hif : Part.hif ∈ W0) (h_chn : Part.chn ∈ W0) (h_cal : Part.cal ∈ W0) (h_upd : Part.upd ∈ W0) (h_time : Part.time ∈ W0) (h_wraps : Part.wraps ∈ W0) (h_up : Part.up ∈ W0) (h_out : Part.out ∈ W0) (h_free : Part.free ∈ W0) {t0 : State} (h0 : Keeps W0 r0 s) (ht : execCalSetSave dt s = .next t0) :
    Keeps W0 r0 t0 := by
  unfold execCalSetSave at ht
  apply whenOn_keeps (ht := ht)
  repeat' first
    | with_reducible assumption
    | with_reducible apply advance_keeps
    | with_reducible apply calSave_keeps
    | split
    | dsimp only
    | intro _

end Sys2Proof.Machine
end

