-- ==== Sys2Proof/Laws/KeepThm.lean ====
section
/-! SUPPORT. What each operation of Machine/Thm.lean touches. -/

namespace Sys2Proof.Machine

theorem sampleOne_keeps {W0 : List Part} {r0 : State} (s : State) (n : Nat) (v : Int) (bad : Bool) (h_regs : Part.regs ∈ W0) (h_hif : Part.hif ∈ W0) (h_chn : Part.chn ∈ W0) (h_thm : Part.thm ∈ W0) (h_out : Part.out ∈ W0) (h0 : Keeps W0 r0 s) :
    Keeps W0 r0 (sampleOne s n v bad).2 := by
  unfold sampleOne
  repeat' first
    | with_reducible assumption
    | simp only [Keeps.thm, h_thm]
    | with_reducible apply setWord_keeps
    | with_reducible apply setF_keeps
    | with_reducible apply raise_keeps
    | split

theorem sampleOd_keeps {W0 : List Part} {r0 : State} (s : State) (k : Nat) (v : Int) (h_regs : Part.regs ∈ W0) (h_hif : Part.hif ∈ W0) (h_chn : Part.chn ∈ W0) (h_thm : Part.thm ∈ W0) (h_out : Part.out ∈ W0) (h0 : Keeps W0 r0 s) :
    Keeps W0 r0 (sampleOd s k v).2 := by
  unfold sampleOd
  repeat' first
    | with_reducible assumption
    | simp only [Keeps.thm, h_thm]
    | with_reducible apply sampleOne_keeps

theorem sampleTd_keeps {W0 : List Part} {r0 : State} (s : State) (z : Nat) (v : Int) (mv : Nat) (h_regs : Part.regs ∈ W0) (h_hif : Part.hif ∈ W0) (h_chn : Part.chn ∈ W0) (h_thm : Part.thm ∈ W0) (h_out : Part.out ∈ W0) (h0 : Keeps W0 r0 s) :
    Keeps W0 r0 (sampleTd s z v mv).2 := by
  unfold sampleTd
  repeat' first
    | with_reducible assumption
    | simp only [Keeps.thm, h_thm]
    | with_reducible apply sampleOne_keeps
    | split

theorem thmJunction_keeps {W0 : List Part} {r0 : State} (s : State) (h_regs : Part.regs ∈ W0) (h_thm : Part.thm ∈ W0) (h_free : Part.free ∈ W0) (h0 : Keeps W0 r0 s) :
    Keeps W0 r0 (thmJunction s) := by
  unfold thmJunction
  repeat' first
    | with_reducible assumption
    | simp only [Keeps.thm, h_thm]
    | with_reducible apply setF_keeps
    | with_reducible apply drawNat_keeps
    | with_reducible apply Keeps.foldl
    | with_reducible refine Keeps.of_snd (by with_reducible assumption) ?_
    | with_reducible refine Keeps.of_snd2 (by with_reducible assumption) ?_
    | split

theorem thmBandShow_keeps {W0 : List Part} {r0 : State} (s : State) (h_regs : Part.regs ∈ W0) (h_hif : Part.hif ∈ W0) (h_chn : Part.chn ∈ W0) (h_thm : Part.thm ∈ W0) (h_cal : Part.cal ∈ W0) (h_out : Part.out ∈ W0) (h0 : Keeps W0 r0 s) :
    Keeps W0 r0 (thmBandShow s) := by
  unfold thmBandShow
  repeat' first
    | with_reducible assumption
    | simp only [Keeps.thm, h_thm]
    | with_reducible apply setF_keeps
    | with_reducible apply raise_keeps
    | with_reducible apply drcBand_keeps
    | with_reducible apply calBand_keeps
    | split

theorem powerShow_keeps {W0 : List Part} {r0 : State} (s : State) (h_regs : Part.regs ∈ W0) (h0 : Keeps W0 r0 s) :
    Keeps W0 r0 (powerShow s) := by
  unfold powerShow
  repeat' first
    | with_reducible assumption
    | with_reducible apply setF_keeps

theorem displayOff_keeps {W0 : List Part} {r0 : State} (s : State) (h_regs : Part.regs ∈ W0) (h_hif : Part.hif ∈ W0) (h_queues : Part.queues ∈ W0) (h_sor : Part.sor ∈ W0) (h_srf : Part.srf ∈ W0) (h_lmp : Part.lmp ∈ W0) (h_spk : Part.spk ∈ W0) (h_ring : Part.ring ∈ W0) (h_out : Part.out ∈ W0) (h0 : Keeps W0 r0 s) :
    Keeps W0 r0 (displayOff s) := by
  unfold displayOff
  repeat' first
    | with_reducible assumption
    | simp only [Keeps.lmp, h_lmp]
    | with_reducible apply engineStop_keeps
    | with_reducible apply showsEnd_keeps
    | with_reducible apply spokesDark_keeps

theorem powerEffect_keeps {W0 : List Part} {r0 : State} (s : State) (a : Nat) (b : Nat) (h_regs : Part.regs ∈ W0) (h_hif : Part.hif ∈ W0) (h_queues : Part.queues ∈ W0) (h_sor : Part.sor ∈ W0) (h_srf : Part.srf ∈ W0) (h_drc : Part.drc ∈ W0) (h_chn : Part.chn ∈ W0) (h_lnk : Part.lnk ∈ W0) (h_tan : Part.tan ∈ W0) (h_sec : Part.sec ∈ W0) (h_lmp : Part.lmp ∈ W0) (h_spk : Part.spk ∈ W0) (h_cal : Part.cal ∈ W0) (h_ring : Part.ring ∈ W0) (h_out : Part.out ∈ W0) (h0 : Keeps W0 r0 s) :
    Keeps W0 r0 (powerEffect s a b) := by
  unfold powerEffect
  repeat' first
    | with_reducible assumption
    | simp only [Keeps.cal, h_cal]
    | with_reducible apply leaveSelfRef_keeps
    | with_reducible apply selfRefEntry_keeps
    | with_reducible apply setStage_keeps
    | with_reducible apply portDown_keeps
    | with_reducible apply lctlReset_keeps
    | with_reducible apply toDetect_keeps
    | with_reducible apply intervalClose_keeps
    | with_reducible apply spkEnable_keeps
    | with_reducible apply displayOff_keeps
    | with_reducible apply Keeps.foldl
    | split
    | dsimp only
    | intro _

theorem powerMove_keeps {W0 : List Part} {r0 : State} (s : State) (h_regs : Part.regs ∈ W0) (h_hif : Part.hif ∈ W0) (h_queues : Part.queues ∈ W0) (h_sor : Part.sor ∈ W0) (h_srf : Part.srf ∈ W0) (h_drc : Part.drc ∈ W0) (h_chn : Part.chn ∈ W0) (h_lnk : Part.lnk ∈ W0) (h_tan : Part.tan ∈ W0) (h_sec : Part.sec ∈ W0) (h_lmp : Part.lmp ∈ W0) (h_spk : Part.spk ∈ W0) (h_cal : Part.cal ∈ W0) (h_ring : Part.ring ∈ W0) (h_out : Part.out ∈ W0) (h0 : Keeps W0 r0 s) :
    Keeps W0 r0 (powerMove s) := by
  unfold powerMove
  repeat' first
    | with_reducible assumption
    | with_reducible apply setF_keeps
    | with_reducible apply raise_keeps
    | with_reducible apply lampDrop_keeps
    | with_reducible apply powerShow_keeps
    | with_reducible apply powerEffect_keeps
    | split
    | dsimp only

theorem thmForce_keeps {W0 : List Part} {r0 : State} (s : State) (h_regs : Part.regs ∈ W0) (h_hif : Part.hif ∈ W0) (h_queues : Part.queues ∈ W0) (h_sor : Part.sor ∈ W0) (h_srf : Part.srf ∈ W0) (h_drc : Part.drc ∈ W0) (h_chn : Part.chn ∈ W0) (h_lnk : Part.lnk ∈ W0) (h_tan : Part.tan ∈ W0) (h_sec : Part.sec ∈ W0) (h_lmp : Part.lmp ∈ W0) (h_spk : Part.spk ∈ W0) (h_thm : Part.thm ∈ W0) (h_cal : Part.cal ∈ W0) (h_ring : Part.ring ∈ W0) (h_out : Part.out ∈ W0) (h0 : Keeps W0 r0 s) :
    Keeps W0 r0 (thmForce s) := by
  unfold thmForce
  repeat' first
    | with_reducible assumption
    | simp only [Keeps.thm, h_thm]
    | with_reducible apply setF_keeps
    | with_reducible apply powerShow_keeps
    | with_reducible apply powerMove_keeps
    | split

theorem thmStepShow_keeps {W0 : List Part} {r0 : State} (s : State) (h_regs : Part.regs ∈ W0) (h0 : Keeps W0 r0 s) :
    Keeps W0 r0 (thmStepShow s) := by
  unfold thmStepShow
  repeat' first
    | with_reducible assumption
    | with_reducible apply setF_keeps

theorem stepReport_keeps {W0 : List Part} {r0 : State} (s : State) (up : Bool) (h_regs : Part.regs ∈ W0) (h_hif : Part.hif ∈ W0) (h_chn : Part.chn ∈ W0) (h_out : Part.out ∈ W0) (h0 : Keeps W0 r0 s) :
    Keeps W0 r0 (stepReport s up) := by
  unfold stepReport
  repeat' first
    | with_reducible assumption
    | with_reducible apply raise_keeps
    | with_reducible apply yield_keeps
    | with_reducible apply thmStepShow_keeps

theorem stepDown_keeps {W0 : List Part} {r0 : State} (s : State) (h_regs : Part.regs ∈ W0) (h_hif : Part.hif ∈ W0) (h_chn : Part.chn ∈ W0) (h_cmp : Part.cmp ∈ W0) (h_out : Part.out ∈ W0) (h0 : Keeps W0 r0 s) :
    Keeps W0 r0 (stepDown s) := by
  unfold stepDown
  repeat' first
    | with_reducible assumption
    | simp only [Keeps.cmp, h_cmp]
    | with_reducible apply setF_keeps
    | with_reducible apply stepReport_keeps
    | split

theorem stepUp_keeps {W0 : List Part} {r0 : State} (s : State) (h_regs : Part.regs ∈ W0) (h_hif : Part.hif ∈ W0) (h_chn : Part.chn ∈ W0) (h_cmp : Part.cmp ∈ W0) (h_out : Part.out ∈ W0) (h0 : Keeps W0 r0 s) :
    Keeps W0 r0 (stepUp s) := by
  unfold stepUp
  repeat' first
    | with_reducible assumption
    | simp only [Keeps.cmp, h_cmp]
    | with_reducible apply setF_keeps
    | with_reducible apply stepReport_keeps
    | split

theorem thmCopies_keeps {W0 : List Part} {r0 : State} (s : State) (h_regs : Part.regs ∈ W0) (h0 : Keeps W0 r0 s) :
    Keeps W0 r0 (thmCopies s) := by
  unfold thmCopies
  repeat' first
    | with_reducible assumption
    | with_reducible apply setF_keeps
    | with_reducible apply Keeps.foldl
    | split
    | dsimp only
    | intro _

theorem stepDowns_keeps {W0 : List Part} {r0 : State} (h_regs : Part.regs ∈ W0) (h_hif : Part.hif ∈ W0) (h_chn : Part.chn ∈ W0) (h_cmp : Part.cmp ∈ W0) (h_out : Part.out ∈ W0) (y0 : Nat) (y1 : State)
    (h0 : Keeps W0 r0 y1) :
    Keeps W0 r0 (stepDowns y0 y1) := by
  induction y0 generalizing y1 with
  | zero =>
    unfold stepDowns
    repeat' first
      | with_reducible assumption
  | succ y0 ih =>
    unfold stepDowns
    repeat' first
      | with_reducible assumption
      | with_reducible apply ih
      | with_reducible apply stepDown_keeps

theorem thmEval_keeps {W0 : List Part} {r0 : State} (s : State) (fails : Nat) (h_regs : Part.regs ∈ W0) (h_hif : Part.hif ∈ W0) (h_queues : Part.queues ∈ W0) (h_sor : Part.sor ∈ W0) (h_srf : Part.srf ∈ W0) (h_drc : Part.drc ∈ W0) (h_chn : Part.chn ∈ W0) (h_cmp : Part.cmp ∈ W0) (h_lnk : Part.lnk ∈ W0) (h_tan : Part.tan ∈ W0) (h_sec : Part.sec ∈ W0) (h_lmp : Part.lmp ∈ W0) (h_spk : Part.spk ∈ W0) (h_thm : Part.thm ∈ W0) (h_cal : Part.cal ∈ W0) (h_ring : Part.ring ∈ W0) (h_out : Part.out ∈ W0) (h_free : Part.free ∈ W0) (h0 : Keeps W0 r0 s) :
    Keeps W0 r0 (thmEval s fails) := by
  unfold thmEval
  repeat' first
    | with_reducible assumption
    | simp only [Keeps.thm, h_thm]
    | with_reducible apply setF_keeps
    | with_reducible apply thmJunction_keeps
    | with_reducible apply thmBandShow_keeps
    | with_reducible apply thmForce_keeps
    | with_reducible apply thmStepShow_keeps
    | with_reducible apply thmCopies_keeps
    | with_reducible apply stepDowns_keeps

theorem sensorSample_keeps {W0 : List Part} {r0 : State} (s : State) (od : List Int) (td : List (Int × Nat)) (h_regs : Part.regs ∈ W0) (h_hif : Part.hif ∈ W0) (h_queues : Part.queues ∈ W0) (h_sor : Part.sor ∈ W0) (h_srf : Part.srf ∈ W0) (h_drc : Part.drc ∈ W0) (h_chn : Part.chn ∈ W0) (h_cmp : Part.cmp ∈ W0) (h_lnk : Part.lnk ∈ W0) (h_tan : Part.tan ∈ W0) (h_sec : Part.sec ∈ W0) (h_lmp : Part.lmp ∈ W0) (h_spk : Part.spk ∈ W0) (h_thm : Part.thm ∈ W0) (h_cal : Part.cal ∈ W0) (h_ring : Part.ring ∈ W0) (h_out : Part.out ∈ W0) (h_free : Part.free ∈ W0) (h0 : Keeps W0 r0 s) :
    Keeps W0 r0 (sensorSample s od td) := by
  unfold sensorSample
  repeat' first
    | with_reducible assumption
    | simp only [Keeps.thm, h_thm]
    | with_reducible apply sampleOd_keeps
    | with_reducible apply sampleTd_keeps
    | with_reducible apply thmEval_keeps
    | with_reducible apply Keeps.foldl
    | with_reducible apply Keeps.snd
    | with_reducible apply Keeps.snd2
    | with_reducible apply Keeps.fst
    | with_reducible apply Keeps.foldl_snd
    | with_reducible apply Keeps.foldl_snd2
    | with_reducible apply Keeps.foldl_fst
    | with_reducible refine Keeps.of_fst (by with_reducible assumption) ?_
    | with_reducible refine Keeps.of_snd (by with_reducible assumption) ?_
    | with_reducible refine Keeps.of_snd2 (by with_reducible assumption) ?_
    | split
    | dsimp only
    | intro _

theorem gridStep_keeps {W0 : List Part} {r0 : State} (s : State) (h_regs : Part.regs ∈ W0) (h_hif : Part.hif ∈ W0) (h_chn : Part.chn ∈ W0) (h_cmp : Part.cmp ∈ W0) (h_thm : Part.thm ∈ W0) (h_out : Part.out ∈ W0) (h0 : Keeps W0 r0 s) :
    Keeps W0 r0 (gridStep s) := by
  unfold gridStep
  repeat' first
    | with_reducible assumption
    | simp only [Keeps.thm, h_thm]
    | with_reducible apply stepDown_keeps
    | split

theorem upStep_keeps {W0 : List Part} {r0 : State} (s : State) (h_regs : Part.regs ∈ W0) (h_hif : Part.hif ∈ W0) (h_chn : Part.chn ∈ W0) (h_cmp : Part.cmp ∈ W0) (h_thm : Part.thm ∈ W0) (h_out : Part.out ∈ W0) (h0 : Keeps W0 r0 s) :
    Keeps W0 r0 (upStep s) := by
  unfold upStep
  repeat' first
    | with_reducible assumption
    | simp only [Keeps.thm, h_thm]
    | with_reducible apply stepUp_keeps
    | split

theorem shutStart_keeps {W0 : List Part} {r0 : State} (s : State) (cause : Nat) (h_regs : Part.regs ∈ W0) (h_hif : Part.hif ∈ W0) (h_queues : Part.queues ∈ W0) (h_sor : Part.sor ∈ W0) (h_srf : Part.srf ∈ W0) (h_chn : Part.chn ∈ W0) (h_lmp : Part.lmp ∈ W0) (h_spk : Part.spk ∈ W0) (h_thm : Part.thm ∈ W0) (h_ring : Part.ring ∈ W0) (h_out : Part.out ∈ W0) (h0 : Keeps W0 r0 s) :
    Keeps W0 r0 (shutStart s cause) := by
  unfold shutStart
  repeat' first
    | with_reducible assumption
    | simp only [Keeps.thm, h_thm]
    | with_reducible apply raise_keeps
    | with_reducible apply displayOff_keeps
    | split

theorem t5Step_keeps {W0 : List Part} {r0 : State} (s : State) (h_regs : Part.regs ∈ W0) (h_hif : Part.hif ∈ W0) (h_queues : Part.queues ∈ W0) (h_sor : Part.sor ∈ W0) (h_srf : Part.srf ∈ W0) (h_chn : Part.chn ∈ W0) (h_lmp : Part.lmp ∈ W0) (h_spk : Part.spk ∈ W0) (h_thm : Part.thm ∈ W0) (h_ring : Part.ring ∈ W0) (h_out : Part.out ∈ W0) (h0 : Keeps W0 r0 s) :
    Keeps W0 r0 (t5Step s) := by
  unfold t5Step
  repeat' first
    | with_reducible assumption
    | with_reducible apply shutStart_keeps
    | split

theorem powerRequest_keeps {W0 : List Part} {r0 : State} (s : State) (h_regs : Part.regs ∈ W0) (h_hif : Part.hif ∈ W0) (h_queues : Part.queues ∈ W0) (h_sor : Part.sor ∈ W0) (h_srf : Part.srf ∈ W0) (h_chn : Part.chn ∈ W0) (h_lmp : Part.lmp ∈ W0) (h_spk : Part.spk ∈ W0) (h_thm : Part.thm ∈ W0) (h_ring : Part.ring ∈ W0) (h_out : Part.out ∈ W0) (h0 : Keeps W0 r0 s) :
    Keeps W0 r0 (powerRequest s) := by
  unfold powerRequest
  repeat' first
    | with_reducible assumption
    | with_reducible apply powerShow_keeps
    | with_reducible apply shutStart_keeps
    | split

theorem execSensorSample_keeps {W0 : List Part} {r0 : State} (dt : Nat) (od : List Int) (td : List (Int × Nat)) (s : State) (h_regs : Part.regs ∈ W0) (h_hif : Part.hif ∈ W0) (h_queues : Part.queues ∈ W0) (h_sor : Part.sor ∈ W0) (h_srf : Part.srf ∈ W0) (h_drc : Part.drc ∈ W0) (h_chn : Part.chn ∈ W0) (h_cmp : Part.cmp ∈ W0) (h_lnk : Part.lnk ∈ W0) (h_tan : Part.tan ∈ W0) (h_sec : Part.sec ∈ W0) (h_lmp : Part.lmp ∈ W0) (h_spk : Part.spk ∈ W0) (h_thm : Part.thm ∈ W0) (h_cal : Part.cal ∈ W0) (h_ring : Part.ring ∈ W0) (h_time : Part.time ∈ W0) (h_wraps : Part.wraps ∈ W0) (h_up : Part.up ∈ W0) (h_out : Part.out ∈ W0) (h_free : Part.free ∈ W0) {t0 : State} (h0 : Keeps W0 r0 s) (ht : execSensorSample dt od td s = .next t0) :
    Keeps W0 r0 t0 := by
  unfold execSensorSample at ht
  apply whenOn_keeps (ht := ht)
  repeat' first
    | with_reducible assumption
    | with_reducible apply advance_keeps
    | with_reducible apply sensorSample_keeps
    | split
    | dsimp only
    | intro _

theorem execThrottleStepDown_keeps {W0 : List Part} {r0 : State} (dt : Nat) (s : State) (h_regs : Part.regs ∈ W0) (h_hif : Part.hif ∈ W0) (h_chn : Part.chn ∈ W0) (h_cmp : Part.cmp ∈ W0) (h_thm : Part.thm ∈ W0) (h_time : Part.time ∈ W0) (h_wraps : Part.wraps ∈ W0) (h_up : Part.up ∈ W0) (h_out : Part.out ∈ W0) {t0 : State} (h0 : Keeps W0 r0 s) (ht : execThrottleStepDown dt s = .next t0) :
    Keeps W0 r0 t0 := by
  unfold execThrottleStepDown at ht
  apply whenOn_keeps (ht := ht)
  repeat' first
    | with_reducible assumption
    | with_reducible apply advance_keeps
    | with_reducible apply gridStep_keeps
    | split
    | dsimp only
    | intro _

theorem execThrottleStepUp_keeps {W0 : List Part} {r0 : State} (dt : Nat) (s : State) (h_regs : Part.regs ∈ W0) (h_hif : Part.hif ∈ W0) (h_chn : Part.chn ∈ W0) (h_cmp : Part.cmp ∈ W0) (h_thm : Part.thm ∈ W0) (h_time : Part.time ∈ W0) (h_wraps : Part.wraps ∈ W0) (h_up : Part.up ∈ W0) (h_out : Part.out ∈ W0) {t0 : State} (h0 : Keeps W0 r0 s) (ht : execThrottleStepUp dt s = .next t0) :
    Keeps W0 r0 t0 := by
  unfold execThrottleStepUp at ht
  apply whenOn_keeps (ht := ht)
  repeat' first
    | with_reducible assumption
    | with_reducible apply advance_keeps
    | with_reducible apply upStep_keeps
    | split
    | dsimp only
    | intro _

theorem execT5Shutdown_keeps {W0 : List Part} {r0 : State} (dt : Nat) (s : State) (h_regs : Part.regs ∈ W0) (h_hif : Part.hif ∈ W0) (h_queues : Part.queues ∈ W0) (h_sor : Part.sor ∈ W0) (h_srf : Part.srf ∈ W0) (h_chn : Part.chn ∈ W0) (h_lmp : Part.lmp ∈ W0) (h_spk : Part.spk ∈ W0) (h_thm : Part.thm ∈ W0) (h_ring : Part.ring ∈ W0) (h_time : Part.time ∈ W0) (h_wraps : Part.wraps ∈ W0) (h_up : Part.up ∈ W0) (h_out : Part.out ∈ W0) {t0 : State} (h0 : Keeps W0 r0 s) (ht : execT5Shutdown dt s = .next t0) :
    Keeps W0 r0 t0 := by
  unfold execT5Shutdown at ht
  apply whenOn_keeps (ht := ht)
  repeat' first
    | with_reducible assumption
    | with_reducible apply advance_keeps
    | with_reducible apply t5Step_keeps
    | split
    | dsimp only
    | intro _

theorem execPowerStateReached_keeps {W0 : List Part} {r0 : State} (dt : Nat) (s : State) (h_regs : Part.regs ∈ W0) (h_hif : Part.hif ∈ W0) (h_queues : Part.queues ∈ W0) (h_sor : Part.sor ∈ W0) (h_srf : Part.srf ∈ W0) (h_drc : Part.drc ∈ W0) (h_chn : Part.chn ∈ W0) (h_lnk : Part.lnk ∈ W0) (h_tan : Part.tan ∈ W0) (h_sec : Part.sec ∈ W0) (h_lmp : Part.lmp ∈ W0) (h_spk : Part.spk ∈ W0) (h_cal : Part.cal ∈ W0) (h_ring : Part.ring ∈ W0) (h_time : Part.time ∈ W0) (h_wraps : Part.wraps ∈ W0) (h_up : Part.up ∈ W0) (h_out : Part.out ∈ W0) {t0 : State} (h0 : Keeps W0 r0 s) (ht : execPowerStateReached dt s = .next t0) :
    Keeps W0 r0 t0 := by
  unfold execPowerStateReached at ht
  apply whenOn_keeps (ht := ht)
  repeat' first
    | with_reducible assumption
    | with_reducible apply advance_keeps
    | with_reducible apply powerMove_keeps
    | split
    | dsimp only
    | intro _

end Sys2Proof.Machine
end

