-- ==== Sys2Proof/Laws/KeepImage.lean ====
section
/-! SUPPORT. What each operation of Machine/Image.lean touches. -/

namespace Sys2Proof.Machine

theorem recWrite_keeps {W0 : List Part} {r0 : State} (s : State) (r : SlotRec) (h_upd : Part.upd ∈ W0) (h0 : Keeps W0 r0 s) :
    Keeps W0 r0 (recWrite s r) := by
  unfold recWrite
  repeat' first
    | with_reducible assumption
    | simp only [Keeps.upd, h_upd]

end Sys2Proof.Machine
end

