-- ==== Sys2Proof/Laws/KeepUpd.lean ====
section
/-! SUPPORT. What each operation of Machine/Upd.lean touches. -/

namespace Sys2Proof.Machine

theorem warmRequest_keeps {W0 : List Part} {r0 : State} (s : State) (cause : Fld) (h_regs : Part.regs ∈ W0) (h_boot : Part.boot ∈ W0) (h_hif : Part.hif ∈ W0) (h_queues : Part.queues ∈ W0) (h_sor : Part.sor ∈ W0) (h_srf : Part.srf ∈ W0) (h_lmp : Part.lmp ∈ W0) (h_spk : Part.spk ∈ W0) (h_ring : Part.ring ∈ W0) (h_out : Part.out ∈ W0) (h0 : Keeps W0 r0 s) :
    Keeps W0 r0 (warmRequest s cause) := by
  unfold warmRequest
  repeat' first
    | with_reducible assumption
    | simp only [Keeps.boot, h_boot]
    | with_reducible apply setF_keeps
    | with_reducible apply displayOff_keeps
    | split

theorem setUstate_keeps {W0 : List Part} {r0 : State} (s : State) (u : Nat) (h_regs : Part.regs ∈ W0) (h_hif : Part.hif ∈ W0) (h_chn : Part.chn ∈ W0) (h_tan : Part.tan ∈ W0) (h_out : Part.out ∈ W0) (h0 : Keeps W0 r0 s) :
    Keeps W0 r0 (setUstate s u) := by
  unfold setUstate
  repeat' first
    | with_reducible assumption
    | with_reducible apply setF_keeps
    | with_reducible apply raise_keeps
    | with_reducible apply dropHold_keeps
    | split

theorem lastCode_keeps {W0 : List Part} {r0 : State} (s : State) (c : Status) (h_regs : Part.regs ∈ W0) (h0 : Keeps W0 r0 s) :
    Keeps W0 r0 (lastCode s c) := by
  unfold lastCode
  repeat' first
    | with_reducible assumption
    | with_reducible apply setF_keeps

theorem updShow_keeps {W0 : List Part} {r0 : State} (s : State) (h_regs : Part.regs ∈ W0) (h0 : Keeps W0 r0 s) :
    Keeps W0 r0 (updShow s) := by
  unfold updShow
  repeat' first
    | with_reducible assumption
    | with_reducible apply setWord_keeps
    | with_reducible apply setF_keeps
    | with_reducible apply Keeps.foldl
    | split
    | dsimp only
    | intro _

theorem pkgDrop_keeps {W0 : List Part} {r0 : State} (s : State) (h_regs : Part.regs ∈ W0) (h_hif : Part.hif ∈ W0) (h_chn : Part.chn ∈ W0) (h_tan : Part.tan ∈ W0) (h_upd : Part.upd ∈ W0) (h_out : Part.out ∈ W0) (h0 : Keeps W0 r0 s) :
    Keeps W0 r0 (pkgDrop s) := by
  unfold pkgDrop
  repeat' first
    | with_reducible assumption
    | simp only [Keeps.upd, h_upd]
    | with_reducible apply setUstate_keeps
    | with_reducible apply updShow_keeps

theorem parcelReply_keeps {W0 : List Part} {r0 : State} (s : State) (l : Letter) (c : Status) (query : Option Nat) (h_regs : Part.regs ∈ W0) (h_chn : Part.chn ∈ W0) (h0 : Keeps W0 r0 s) :
    Keeps W0 r0 (parcelReply s l c query) := by
  unfold parcelReply
  repeat' first
    | with_reducible assumption
    | with_reducible apply incSat_keeps
    | with_reducible apply tileReply_keeps
    | with_reducible apply lastCode_keeps
    | split

theorem updDone_keeps {W0 : List Part} {r0 : State} (s : State) (it : Item) (c : Status) (result : Nat) (rcode : Nat) (dead : Bool) (h_regs : Part.regs ∈ W0) (h_hif : Part.hif ∈ W0) (h_queues : Part.queues ∈ W0) (h_sor : Part.sor ∈ W0) (h_ring : Part.ring ∈ W0) (h_out : Part.out ∈ W0) (h0 : Keeps W0 r0 s) :
    Keeps W0 r0 (updDone s it c result rcode dead) := by
  unfold updDone
  repeat' first
    | with_reducible assumption
    | with_reducible apply complete40_keeps
    | with_reducible apply lastCode_keeps
    | split

theorem pkgOpen_keeps {W0 : List Part} {r0 : State} (s : State) (id : Bytes) (m : Bytes) (h_regs : Part.regs ∈ W0) (h_hif : Part.hif ∈ W0) (h_chn : Part.chn ∈ W0) (h_tan : Part.tan ∈ W0) (h_upd : Part.upd ∈ W0) (h_out : Part.out ∈ W0) (h_free : Part.free ∈ W0) (h0 : Keeps W0 r0 s) :
    Keeps W0 r0 (pkgOpen s id m) := by
  unfold pkgOpen
  repeat' first
    | with_reducible assumption
    | simp only [Keeps.upd, h_upd]
    | with_reducible apply pushMaps_keeps
    | with_reducible apply setUstate_keeps
    | with_reducible apply updShow_keeps
    | split

theorem parcelWrite_keeps {W0 : List Part} {r0 : State} (s : State) (k : Nat) (data : Bytes) (who : PFrom) (h_regs : Part.regs ∈ W0) (h_upd : Part.upd ∈ W0) (h_out : Part.out ∈ W0) (h_free : Part.free ∈ W0) (h0 : Keeps W0 r0 s) :
    Keeps W0 r0 (parcelWrite s k data who) := by
  unfold parcelWrite
  repeat' first
    | with_reducible assumption
    | with_reducible apply flashPush_keeps
    | split

theorem parcelData_keeps {W0 : List Part} {r0 : State} (s : State) (l : Letter) (h_regs : Part.regs ∈ W0) (h_hif : Part.hif ∈ W0) (h_chn : Part.chn ∈ W0) (h_tan : Part.tan ∈ W0) (h_upd : Part.upd ∈ W0) (h_out : Part.out ∈ W0) (h_free : Part.free ∈ W0) (h0 : Keeps W0 r0 s) :
    Keeps W0 r0 (parcelData s l) := by
  unfold parcelData
  repeat' first
    | with_reducible assumption
    | with_reducible apply parcelReply_keeps
    | with_reducible apply pkgOpen_keeps
    | with_reducible apply parcelWrite_keeps
    | split
    | dsimp only

theorem parcelQuery_keeps {W0 : List Part} {r0 : State} (s : State) (l : Letter) (h_regs : Part.regs ∈ W0) (h_chn : Part.chn ∈ W0) (h0 : Keeps W0 r0 s) :
    Keeps W0 r0 (parcelQuery s l) := by
  unfold parcelQuery
  repeat' first
    | with_reducible assumption
    | with_reducible apply parcelReply_keeps
    | split
    | dsimp only

theorem stageWalk_keeps {W0 : List Part} {r0 : State} (h_regs : Part.regs ∈ W0) (h_hif : Part.hif ∈ W0) (h_chn : Part.chn ∈ W0) (h_tan : Part.tan ∈ W0) (h_upd : Part.upd ∈ W0) (h_out : Part.out ∈ W0) (h_free : Part.free ∈ W0) (y0 : Nat) (y1 : Nat) (y2 : Bytes) (y3 : List (Nat × Bytes)) (y4 : State)
    (h0 : Keeps W0 r0 y4) :
    Keeps W0 r0 (stageWalk y0 y1 y2 y3 y4).2.2 := by
  induction y0 generalizing y1 y2 y3 y4 with
  | zero =>
    unfold stageWalk
    repeat' first
      | with_reducible assumption
  | succ y0 ih =>
    unfold stageWalk
    repeat' first
      | with_reducible assumption
      | with_reducible apply ih
      | with_reducible apply pkgOpen_keeps
      | split
      | dsimp only

theorem stageApply_keeps {W0 : List Part} {r0 : State} (s : State) (it : Item) (b : Bytes) (h_regs : Part.regs ∈ W0) (h_hif : Part.hif ∈ W0) (h_queues : Part.queues ∈ W0) (h_sor : Part.sor ∈ W0) (h_chn : Part.chn ∈ W0) (h_tan : Part.tan ∈ W0) (h_upd : Part.upd ∈ W0) (h_ring : Part.ring ∈ W0) (h_out : Part.out ∈ W0) (h_free : Part.free ∈ W0) (h0 : Keeps W0 r0 s) :
    Keeps W0 r0 (stageApply s it b) := by
  unfold stageApply
  repeat' first
    | with_reducible assumption
    | with_reducible apply updDone_keeps
    | with_reducible apply parcelWrite_keeps
    | with_reducible apply stageWalk_keeps
    | with_reducible apply Keeps.foldl
    | with_reducible refine Keeps.of_snd (by with_reducible assumption) ?_
    | with_reducible refine Keeps.of_snd2 (by with_reducible assumption) ?_
    | split
    | dsimp only
    | intro _

theorem armDone_keeps {W0 : List Part} {r0 : State} (s : State) (a : Arm) (c : Status) (h_regs : Part.regs ∈ W0) (h_hif : Part.hif ∈ W0) (h_queues : Part.queues ∈ W0) (h_sor : Part.sor ∈ W0) (h_ring : Part.ring ∈ W0) (h_out : Part.out ∈ W0) (h0 : Keeps W0 r0 s) :
    Keeps W0 r0 (armDone s a c) := by
  unfold armDone
  repeat' first
    | with_reducible assumption
    | with_reducible apply updDone_keeps
    | split

theorem disarm_keeps {W0 : List Part} {r0 : State} (s : State) (c : Status) (h_regs : Part.regs ∈ W0) (h_hif : Part.hif ∈ W0) (h_queues : Part.queues ∈ W0) (h_sor : Part.sor ∈ W0) (h_upd : Part.upd ∈ W0) (h_ring : Part.ring ∈ W0) (h_out : Part.out ∈ W0) (h0 : Keeps W0 r0 s) :
    Keeps W0 r0 (disarm s c) := by
  unfold disarm
  repeat' first
    | with_reducible assumption
    | simp only [Keeps.upd, h_upd]
    | with_reducible apply setF_keeps
    | with_reducible apply armDone_keeps
    | split

theorem activate_keeps {W0 : List Part} {r0 : State} (s : State) (h_regs : Part.regs ∈ W0) (h_hif : Part.hif ∈ W0) (h_queues : Part.queues ∈ W0) (h_sor : Part.sor ∈ W0) (h_chn : Part.chn ∈ W0) (h_upd : Part.upd ∈ W0) (h_ring : Part.ring ∈ W0) (h_out : Part.out ∈ W0) (h_free : Part.free ∈ W0) (h0 : Keeps W0 r0 s) :
    Keeps W0 r0 (activate s) := by
  unfold activate
  repeat' first
    | with_reducible assumption
    | with_reducible apply raise_keeps
    | with_reducible apply flashPush_keeps
    | with_reducible apply disarm_keeps
    | split

theorem armSet_keeps {W0 : List Part} {r0 : State} (s : State) (f : Nat) (now : Bool) (it : Option Item) (h_regs : Part.regs ∈ W0) (h_hif : Part.hif ∈ W0) (h_queues : Part.queues ∈ W0) (h_sor : Part.sor ∈ W0) (h_chn : Part.chn ∈ W0) (h_tan : Part.tan ∈ W0) (h_upd : Part.upd ∈ W0) (h_ring : Part.ring ∈ W0) (h_out : Part.out ∈ W0) (h_free : Part.free ∈ W0) (h0 : Keeps W0 r0 s) :
    Keeps W0 r0 (armSet s f now it) := by
  unfold armSet
  repeat' first
    | with_reducible assumption
    | simp only [Keeps.upd, h_upd]
    | with_reducible apply setF_keeps
    | with_reducible apply armMove_keeps
    | with_reducible apply setUstate_keeps
    | with_reducible apply disarm_keeps
    | with_reducible apply activate_keeps
    | split

theorem parcelArm_keeps {W0 : List Part} {r0 : State} (s : State) (l : Letter) (h_regs : Part.regs ∈ W0) (h_hif : Part.hif ∈ W0) (h_queues : Part.queues ∈ W0) (h_sor : Part.sor ∈ W0) (h_chn : Part.chn ∈ W0) (h_tan : Part.tan ∈ W0) (h_upd : Part.upd ∈ W0) (h_ring : Part.ring ∈ W0) (h_out : Part.out ∈ W0) (h_free : Part.free ∈ W0) (h0 : Keeps W0 r0 s) :
    Keeps W0 r0 (parcelArm s l) := by
  unfold parcelArm
  repeat' first
    | with_reducible assumption
    | with_reducible apply parcelReply_keeps
    | with_reducible apply armSet_keeps
    | split
    | dsimp only

theorem activationStep_keeps {W0 : List Part} {r0 : State} (s : State) (h_regs : Part.regs ∈ W0) (h_hif : Part.hif ∈ W0) (h_queues : Part.queues ∈ W0) (h_sor : Part.sor ∈ W0) (h_chn : Part.chn ∈ W0) (h_upd : Part.upd ∈ W0) (h_ring : Part.ring ∈ W0) (h_out : Part.out ∈ W0) (h_free : Part.free ∈ W0) (h0 : Keeps W0 r0 s) :
    Keeps W0 r0 (activationStep s) := by
  unfold activationStep
  repeat' first
    | with_reducible assumption
    | with_reducible apply activate_keeps
    | split
    | dsimp only

theorem abandon_keeps {W0 : List Part} {r0 : State} (s : State) (h_regs : Part.regs ∈ W0) (h_hif : Part.hif ∈ W0) (h_queues : Part.queues ∈ W0) (h_sor : Part.sor ∈ W0) (h_chn : Part.chn ∈ W0) (h_tan : Part.tan ∈ W0) (h_upd : Part.upd ∈ W0) (h_ring : Part.ring ∈ W0) (h_out : Part.out ∈ W0) (h0 : Keeps W0 r0 s) :
    Keeps W0 r0 (abandon s).2 := by
  unfold abandon
  repeat' first
    | with_reducible assumption
    | with_reducible apply pkgDrop_keeps
    | with_reducible apply disarm_keeps
    | split

theorem parcelAbandon_keeps {W0 : List Part} {r0 : State} (s : State) (l : Letter) (h_regs : Part.regs ∈ W0) (h_hif : Part.hif ∈ W0) (h_queues : Part.queues ∈ W0) (h_sor : Part.sor ∈ W0) (h_chn : Part.chn ∈ W0) (h_tan : Part.tan ∈ W0) (h_upd : Part.upd ∈ W0) (h_ring : Part.ring ∈ W0) (h_out : Part.out ∈ W0) (h0 : Keeps W0 r0 s) :
    Keeps W0 r0 (parcelAbandon s l) := by
  unfold parcelAbandon
  repeat' first
    | with_reducible assumption
    | with_reducible apply parcelReply_keeps
    | with_reducible apply abandon_keeps
    | with_reducible refine Keeps.of_snd (by with_reducible assumption) ?_
    | with_reducible refine Keeps.of_snd2 (by with_reducible assumption) ?_
    | split

theorem verifyDiscard_keeps {W0 : List Part} {r0 : State} (s : State) (c : Status) (h_regs : Part.regs ∈ W0) (h_hif : Part.hif ∈ W0) (h_chn : Part.chn ∈ W0) (h_tan : Part.tan ∈ W0) (h_upd : Part.upd ∈ W0) (h_out : Part.out ∈ W0) (h0 : Keeps W0 r0 s) :
    Keeps W0 r0 (verifyDiscard s c) := by
  unfold verifyDiscard
  repeat' first
    | with_reducible assumption
    | with_reducible apply lastCode_keeps
    | with_reducible apply pkgDrop_keeps

theorem markMissing_keeps {W0 : List Part} {r0 : State} (s : State) (p : Nat → Bool) (h_regs : Part.regs ∈ W0) (h_upd : Part.upd ∈ W0) (h_out : Part.out ∈ W0) (h_free : Part.free ∈ W0) (h0 : Keeps W0 r0 s) :
    Keeps W0 r0 (markMissing s p) := by
  unfold markMissing
  repeat' first
    | with_reducible assumption
    | simp only [Keeps.upd, h_upd]
    | with_reducible apply pushMaps_keeps
    | with_reducible apply updShow_keeps

theorem sectorClear_keeps {W0 : List Part} {r0 : State} (s : State) (k : Nat) (h_upd : Part.upd ∈ W0)
    (h_flash : Part.flash ∈ W0) (h0 : Keeps W0 r0 s) : Keeps W0 r0 (sectorClear s k) := by
  refine h0.leaf rfl (fun hw => ?_)
    (fun p hp => by cases p <;> first | rfl | exact absurd h_upd hp | exact absurd h_flash hp)
  simp only [State.wf, sectorClear, Bool.and_eq_true] at hw ⊢
  exact ⟨⟨⟨⟨hw.1.1.1.1, hw.1.1.1.2⟩, hw.1.1.2⟩, tcanon_filter _ hw.1.2⟩, hw.2⟩

theorem sectorErased_keeps {W0 : List Part} {r0 : State} (s : State) (k : Nat) (h_upd : Part.upd ∈ W0) (h_flash : Part.flash ∈ W0) (h0 : Keeps W0 r0 s) :
    Keeps W0 r0 (sectorErased s k) := by
  unfold sectorErased
  repeat' first
    | with_reducible assumption
    | simp only [Keeps.upd, h_upd]
    | with_reducible apply sectorClear_keeps

theorem sectorReady_keeps {W0 : List Part} {r0 : State} (s : State) (k : Nat) (h_upd : Part.upd ∈ W0) (h_out : Part.out ∈ W0) (h_flash : Part.flash ∈ W0) (h0 : Keeps W0 r0 s) :
    Keeps W0 r0 (sectorReady s k) := by
  unfold sectorReady
  repeat' first
    | with_reducible assumption
    | with_reducible apply emit_keeps
    | with_reducible apply sectorErased_keeps
    | split

theorem stagingWrite_keeps {W0 : List Part} {r0 : State} (s : State) (a : Nat) (b : Bytes) (h_upd : Part.upd ∈ W0) (h_out : Part.out ∈ W0) (h_flash : Part.flash ∈ W0) (h0 : Keeps W0 r0 s) :
    Keeps W0 r0 (stagingWrite s a b) := by
  unfold stagingWrite
  repeat' first
    | with_reducible assumption
    | with_reducible apply emit_keeps
    | with_reducible apply flashWr_keeps
    | with_reducible apply sectorReady_keeps
    | with_reducible apply Keeps.foldl
    | split
    | dsimp only
    | intro _

theorem copyInherited_keeps {W0 : List Part} {r0 : State} (s : State) (m : Bytes) (i : Nat) (h_upd : Part.upd ∈ W0) (h_out : Part.out ∈ W0) (h_flash : Part.flash ∈ W0) (h0 : Keeps W0 r0 s) :
    Keeps W0 r0 (copyInherited s m i) := by
  unfold copyInherited
  repeat' first
    | with_reducible assumption
    | with_reducible apply stagingWrite_keeps
    | split

theorem verify_keeps {W0 : List Part} {r0 : State} (s : State) (m : Bytes) (h_regs : Part.regs ∈ W0) (h_hif : Part.hif ∈ W0) (h_chn : Part.chn ∈ W0) (h_tan : Part.tan ∈ W0) (h_upd : Part.upd ∈ W0) (h_out : Part.out ∈ W0) (h_free : Part.free ∈ W0) (h_flash : Part.flash ∈ W0) (h0 : Keeps W0 r0 s) :
    Keeps W0 r0 (verify s m) := by
  unfold verify
  repeat' first
    | with_reducible assumption
    | with_reducible apply setUstate_keeps
    | with_reducible apply lastCode_keeps
    | with_reducible apply verifyDiscard_keeps
    | with_reducible apply markMissing_keeps
    | with_reducible apply copyInherited_keeps
    | with_reducible apply Keeps.foldl
    | split
    | dsimp only
    | intro _

theorem verifyStep_keeps {W0 : List Part} {r0 : State} (s : State) (h_regs : Part.regs ∈ W0) (h_hif : Part.hif ∈ W0) (h_chn : Part.chn ∈ W0) (h_tan : Part.tan ∈ W0) (h_upd : Part.upd ∈ W0) (h_out : Part.out ∈ W0) (h_free : Part.free ∈ W0) (h_flash : Part.flash ∈ W0) (h0 : Keeps W0 r0 s) :
    Keeps W0 r0 (verifyStep s) := by
  unfold verifyStep
  repeat' first
    | with_reducible assumption
    | with_reducible apply verify_keeps
    | split

theorem pkgFull_keeps {W0 : List Part} {r0 : State} (s : State) (h_regs : Part.regs ∈ W0) (h_hif : Part.hif ∈ W0) (h_chn : Part.chn ∈ W0) (h_tan : Part.tan ∈ W0) (h_out : Part.out ∈ W0) (h0 : Keeps W0 r0 s) :
    Keeps W0 r0 (pkgFull s) := by
  unfold pkgFull
  repeat' first
    | with_reducible assumption
    | with_reducible apply setUstate_keeps
    | split

theorem trialConfirm_keeps {W0 : List Part} {r0 : State} (s : State) (h_regs : Part.regs ∈ W0) (h_upd : Part.upd ∈ W0) (h_out : Part.out ∈ W0) (h_free : Part.free ∈ W0) (h0 : Keeps W0 r0 s) :
    Keeps W0 r0 (trialConfirm s) := by
  unfold trialConfirm
  repeat' first
    | with_reducible assumption
    | with_reducible apply flashPush_keeps
    | split

theorem curShow_keeps {W0 : List Part} {r0 : State} (s : State) (h_regs : Part.regs ∈ W0) (h0 : Keeps W0 r0 s) :
    Keeps W0 r0 (curShow s) := by
  unfold curShow
  repeat' first
    | with_reducible assumption
    | with_reducible apply setF_keeps

theorem fuseSvn_keeps {W0 : List Part} {r0 : State} (s : State) (h_sec : Part.sec ∈ W0) (h_fuses : Part.fuses ∈ W0) (h0 : Keeps W0 r0 s) :
    Keeps W0 r0 (fuseSvn s) := by
  unfold fuseSvn
  repeat' first
    | with_reducible assumption
    | simp only [Keeps.sec, Keeps.sec_fuses, h_fuses, h_sec]

theorem confirmed_keeps {W0 : List Part} {r0 : State} (s : State) (h_regs : Part.regs ∈ W0) (h_hif : Part.hif ∈ W0) (h_chn : Part.chn ∈ W0) (h_tan : Part.tan ∈ W0) (h_sec : Part.sec ∈ W0) (h_upd : Part.upd ∈ W0) (h_out : Part.out ∈ W0) (h_fuses : Part.fuses ∈ W0) (h0 : Keeps W0 r0 s) :
    Keeps W0 r0 (confirmed s) := by
  unfold confirmed
  repeat' first
    | with_reducible assumption
    | simp only [Keeps.upd, h_upd]
    | with_reducible apply setF_keeps
    | with_reducible apply setUstate_keeps
    | with_reducible apply updShow_keeps
    | with_reducible apply curShow_keeps
    | with_reducible apply fuseSvn_keeps

theorem confirmExpiry_keeps {W0 : List Part} {r0 : State} (s : State) (h_regs : Part.regs ∈ W0) (h_boot : Part.boot ∈ W0) (h_hif : Part.hif ∈ W0) (h_queues : Part.queues ∈ W0) (h_sor : Part.sor ∈ W0) (h_srf : Part.srf ∈ W0) (h_lmp : Part.lmp ∈ W0) (h_spk : Part.spk ∈ W0) (h_ring : Part.ring ∈ W0) (h_out : Part.out ∈ W0) (h0 : Keeps W0 r0 s) :
    Keeps W0 r0 (confirmExpiry s) := by
  unfold confirmExpiry
  repeat' first
    | with_reducible assumption
    | with_reducible apply warmRequest_keeps
    | split

theorem hostConfirm_keeps {W0 : List Part} {r0 : State} (s : State) (h_upd : Part.upd ∈ W0) (h0 : Keeps W0 r0 s) :
    Keeps W0 r0 (hostConfirm s) := by
  unfold hostConfirm
  repeat' first
    | with_reducible assumption
    | simp only [Keeps.upd, h_upd]

theorem parcelEnd_keeps {W0 : List Part} {r0 : State} (s : State) (who : PFrom) (c : Status) (h_regs : Part.regs ∈ W0) (h_hif : Part.hif ∈ W0) (h_queues : Part.queues ∈ W0) (h_sor : Part.sor ∈ W0) (h_chn : Part.chn ∈ W0) (h_upd : Part.upd ∈ W0) (h_ring : Part.ring ∈ W0) (h_out : Part.out ∈ W0) (h0 : Keeps W0 r0 s) :
    Keeps W0 r0 (parcelEnd s who c) := by
  unfold parcelEnd
  repeat' first
    | with_reducible assumption
    | simp only [Keeps.upd, h_upd]
    | with_reducible apply parcelReply_keeps
    | with_reducible apply updDone_keeps
    | split

theorem flashEffect_keeps {W0 : List Part} {r0 : State} (s : State) (o : FlashOp) (ok : Bool) (h_regs : Part.regs ∈ W0) (h_boot : Part.boot ∈ W0) (h_hif : Part.hif ∈ W0) (h_queues : Part.queues ∈ W0) (h_sor : Part.sor ∈ W0) (h_srf : Part.srf ∈ W0) (h_chn : Part.chn ∈ W0) (h_tan : Part.tan ∈ W0) (h_sec : Part.sec ∈ W0) (h_lmp : Part.lmp ∈ W0) (h_spk : Part.spk ∈ W0) (h_upd : Part.upd ∈ W0) (h_ring : Part.ring ∈ W0) (h_out : Part.out ∈ W0) (h_free : Part.free ∈ W0) (h_fuses : Part.fuses ∈ W0) (h_flash : Part.flash ∈ W0) (h0 : Keeps W0 r0 s) :
    Keeps W0 r0 (flashEffect s o ok) := by
  unfold flashEffect
  repeat' first
    | with_reducible assumption
    | simp only [Keeps.upd, h_upd]
    | with_reducible apply flashWr_keeps
    | with_reducible apply recWrite_keeps
    | with_reducible apply warmRequest_keeps
    | with_reducible apply updShow_keeps
    | with_reducible apply markMissing_keeps
    | with_reducible apply sectorErased_keeps
    | with_reducible apply pkgFull_keeps
    | with_reducible apply confirmed_keeps
    | with_reducible apply parcelEnd_keeps
    | split

theorem flashDone_keeps {W0 : List Part} {r0 : State} (s : State) (ok : Bool) (h_regs : Part.regs ∈ W0) (h_boot : Part.boot ∈ W0) (h_hif : Part.hif ∈ W0) (h_queues : Part.queues ∈ W0) (h_sor : Part.sor ∈ W0) (h_srf : Part.srf ∈ W0) (h_chn : Part.chn ∈ W0) (h_tan : Part.tan ∈ W0) (h_sec : Part.sec ∈ W0) (h_lmp : Part.lmp ∈ W0) (h_spk : Part.spk ∈ W0) (h_upd : Part.upd ∈ W0) (h_ring : Part.ring ∈ W0) (h_out : Part.out ∈ W0) (h_free : Part.free ∈ W0) (h_fuses : Part.fuses ∈ W0) (h_flash : Part.flash ∈ W0) (h0 : Keeps W0 r0 s) :
    Keeps W0 r0 (flashDone s ok) := by
  unfold flashDone
  repeat' first
    | with_reducible assumption
    | with_reducible apply flashNext_keeps
    | with_reducible apply flashEffect_keeps
    | split

theorem flashSettle_keeps {W0 : List Part} {r0 : State} (s : State) (h_regs : Part.regs ∈ W0) (h_boot : Part.boot ∈ W0) (h_hif : Part.hif ∈ W0) (h_queues : Part.queues ∈ W0) (h_sor : Part.sor ∈ W0) (h_srf : Part.srf ∈ W0) (h_chn : Part.chn ∈ W0) (h_tan : Part.tan ∈ W0) (h_sec : Part.sec ∈ W0) (h_lmp : Part.lmp ∈ W0) (h_spk : Part.spk ∈ W0) (h_upd : Part.upd ∈ W0) (h_ring : Part.ring ∈ W0) (h_out : Part.out ∈ W0) (h_free : Part.free ∈ W0) (h_fuses : Part.fuses ∈ W0) (h_flash : Part.flash ∈ W0) (h0 : Keeps W0 r0 s) :
    Keeps W0 r0 (flashSettle s) := by
  unfold flashSettle
  repeat' first
    | with_reducible assumption
    | simp only [Keeps.upd, h_upd]
    | with_reducible apply setF_keeps
    | with_reducible apply flashEffect_keeps
    | split

theorem flashCut_keeps {W0 : List Part} {r0 : State} (s : State) (h_regs : Part.regs ∈ W0) (h_upd : Part.upd ∈ W0) (h0 : Keeps W0 r0 s) :
    Keeps W0 r0 (flashCut s) := by
  unfold flashCut
  repeat' first
    | with_reducible assumption
    | simp only [Keeps.upd, h_upd]
    | with_reducible apply setF_keeps

theorem journalWrite_keeps {W0 : List Part} {r0 : State} (s : State) (r : JRec) (h_upd : Part.upd ∈ W0) (h_out : Part.out ∈ W0) (h_free : Part.free ∈ W0) (h0 : Keeps W0 r0 s) :
    Keeps W0 r0 (journalWrite s r) := by
  unfold journalWrite
  repeat' first
    | with_reducible assumption
    | simp only [Keeps.upd, h_upd]
    | with_reducible apply flashOut_keeps

theorem orderlyShutdown_keeps {W0 : List Part} {r0 : State} (s : State) (h_regs : Part.regs ∈ W0) (h_boot : Part.boot ∈ W0) (h_hif : Part.hif ∈ W0) (h_queues : Part.queues ∈ W0) (h_sor : Part.sor ∈ W0) (h_srf : Part.srf ∈ W0) (h_drc : Part.drc ∈ W0) (h_chn : Part.chn ∈ W0) (h_tan : Part.tan ∈ W0) (h_sec : Part.sec ∈ W0) (h_lmp : Part.lmp ∈ W0) (h_spk : Part.spk ∈ W0) (h_upd : Part.upd ∈ W0) (h_ring : Part.ring ∈ W0) (h_out : Part.out ∈ W0) (h_free : Part.free ∈ W0) (h_fuses : Part.fuses ∈ W0) (h_flash : Part.flash ∈ W0) (h0 : Keeps W0 r0 s) :
    Keeps W0 r0 (orderlyShutdown s) := by
  unfold orderlyShutdown
  repeat' first
    | with_reducible assumption
    | with_reducible apply setF_keeps
    | with_reducible apply raise_keeps
    | with_reducible apply selfRefEntry_keeps
    | with_reducible apply powerShow_keeps
    | with_reducible apply flashSettle_keeps
    | with_reducible apply journalWrite_keeps
    | with_reducible apply Keeps.foldl
    | split
    | dsimp only
    | intro _

theorem updFetch_keeps {W0 : List Part} {r0 : State} (s : State) (e : Bytes) (n : Nat) (host : HostRes) (h_regs : Part.regs ∈ W0) (h_hif : Part.hif ∈ W0) (h_srf : Part.srf ∈ W0) (h_drc : Part.drc ∈ W0) (h_chn : Part.chn ∈ W0) (h_out : Part.out ∈ W0) (h_free : Part.free ∈ W0) (h0 : Keeps W0 r0 s) :
    Keeps W0 r0 (updFetch s e n host).2 := by
  unfold updFetch
  repeat' first
    | with_reducible assumption
    | with_reducible apply areaFetch_keeps
    | split

theorem stageEntry_keeps {W0 : List Part} {r0 : State} (s : State) (it : Item) (host : HostRes) (h_regs : Part.regs ∈ W0) (h_hif : Part.hif ∈ W0) (h_queues : Part.queues ∈ W0) (h_sor : Part.sor ∈ W0) (h_srf : Part.srf ∈ W0) (h_drc : Part.drc ∈ W0) (h_chn : Part.chn ∈ W0) (h_tan : Part.tan ∈ W0) (h_upd : Part.upd ∈ W0) (h_ring : Part.ring ∈ W0) (h_out : Part.out ∈ W0) (h_free : Part.free ∈ W0) (h0 : Keeps W0 r0 s) :
    Keeps W0 r0 (stageEntry s it host) := by
  unfold stageEntry
  repeat' first
    | with_reducible assumption
    | with_reducible apply updDone_keeps
    | with_reducible apply stageApply_keeps
    | with_reducible apply updFetch_keeps
    | with_reducible refine Keeps.of_snd (by with_reducible assumption) ?_
    | with_reducible refine Keeps.of_snd2 (by with_reducible assumption) ?_
    | split
    | dsimp only

theorem activateEntry_keeps {W0 : List Part} {r0 : State} (s : State) (it : Item) (h_regs : Part.regs ∈ W0) (h_hif : Part.hif ∈ W0) (h_queues : Part.queues ∈ W0) (h_sor : Part.sor ∈ W0) (h_chn : Part.chn ∈ W0) (h_tan : Part.tan ∈ W0) (h_upd : Part.upd ∈ W0) (h_ring : Part.ring ∈ W0) (h_out : Part.out ∈ W0) (h_free : Part.free ∈ W0) (h0 : Keeps W0 r0 s) :
    Keeps W0 r0 (activateEntry s it) := by
  unfold activateEntry
  repeat' first
    | with_reducible assumption
    | with_reducible apply updDone_keeps
    | with_reducible apply armSet_keeps
    | split

theorem confirmEntry_keeps {W0 : List Part} {r0 : State} (s : State) (it : Item) (h_regs : Part.regs ∈ W0) (h_hif : Part.hif ∈ W0) (h_queues : Part.queues ∈ W0) (h_sor : Part.sor ∈ W0) (h_upd : Part.upd ∈ W0) (h_ring : Part.ring ∈ W0) (h_out : Part.out ∈ W0) (h0 : Keeps W0 r0 s) :
    Keeps W0 r0 (confirmEntry s it) := by
  unfold confirmEntry
  repeat' first
    | with_reducible assumption
    | with_reducible apply updDone_keeps
    | with_reducible apply hostConfirm_keeps
    | split

theorem abandonEntry_keeps {W0 : List Part} {r0 : State} (s : State) (it : Item) (h_regs : Part.regs ∈ W0) (h_hif : Part.hif ∈ W0) (h_queues : Part.queues ∈ W0) (h_sor : Part.sor ∈ W0) (h_chn : Part.chn ∈ W0) (h_tan : Part.tan ∈ W0) (h_upd : Part.upd ∈ W0) (h_ring : Part.ring ∈ W0) (h_out : Part.out ∈ W0) (h0 : Keeps W0 r0 s) :
    Keeps W0 r0 (abandonEntry s it) := by
  unfold abandonEntry
  repeat' first
    | with_reducible assumption
    | with_reducible apply updDone_keeps
    | with_reducible apply abandon_keeps
    | with_reducible refine Keeps.of_snd (by with_reducible assumption) ?_
    | with_reducible refine Keeps.of_snd2 (by with_reducible assumption) ?_
    | split

theorem hostimgEntry_keeps {W0 : List Part} {r0 : State} (s : State) (it : Item) (h_regs : Part.regs ∈ W0) (h_hif : Part.hif ∈ W0) (h_queues : Part.queues ∈ W0) (h_sor : Part.sor ∈ W0) (h_srf : Part.srf ∈ W0) (h_drc : Part.drc ∈ W0) (h_chn : Part.chn ∈ W0) (h_sec : Part.sec ∈ W0) (h_dram : Part.dram ∈ W0) (h_ring : Part.ring ∈ W0) (h_out : Part.out ∈ W0) (h_free : Part.free ∈ W0) (h0 : Keeps W0 r0 s) :
    Keeps W0 r0 (hostimgEntry s it) := by
  unfold hostimgEntry
  repeat' first
    | with_reducible assumption
    | with_reducible apply svcWrite_keeps
    | with_reducible apply measExtend_keeps
    | with_reducible apply updDone_keeps
    | split
    | dsimp only

theorem pushSet_keeps {W0 : List Part} {r0 : State} (s : State) (x : Push) (h_upd : Part.upd ∈ W0) (h0 : Keeps W0 r0 s) :
    Keeps W0 r0 (pushSet s x) := by
  unfold pushSet
  repeat' first
    | with_reducible assumption
    | simp only [Keeps.upd, h_upd]

theorem pushEnd_keeps {W0 : List Part} {r0 : State} (s : State) (x : Push) (c : Status) (h_regs : Part.regs ∈ W0) (h_hif : Part.hif ∈ W0) (h_queues : Part.queues ∈ W0) (h_sor : Part.sor ∈ W0) (h_upd : Part.upd ∈ W0) (h_ring : Part.ring ∈ W0) (h_out : Part.out ∈ W0) (h0 : Keeps W0 r0 s) :
    Keeps W0 r0 (pushEnd s x c) := by
  unfold pushEnd
  repeat' first
    | with_reducible assumption
    | simp only [Keeps.upd, h_upd]
    | with_reducible apply updDone_keeps

theorem pushLetter_keeps {W0 : List Part} {r0 : State} (s : State) (x : Push) (content : Bytes) (query : Bool) (h_chn : Part.chn ∈ W0) (h_sec : Part.sec ∈ W0) (h_upd : Part.upd ∈ W0) (h_out : Part.out ∈ W0) (h0 : Keeps W0 r0 s) :
    Keeps W0 r0 (pushLetter s x content query) := by
  unfold pushLetter
  repeat' first
    | with_reducible assumption
    | with_reducible apply newLid_keeps
    | with_reducible apply sendLetter_keeps
    | with_reducible apply pushSet_keeps
    | with_reducible refine Keeps.of_snd (by with_reducible assumption) ?_
    | with_reducible refine Keeps.of_snd2 (by with_reducible assumption) ?_
    | split
    | dsimp only

theorem pushGo_keeps {W0 : List Part} {r0 : State} (h_regs : Part.regs ∈ W0) (h_hif : Part.hif ∈ W0) (h_queues : Part.queues ∈ W0) (h_sor : Part.sor ∈ W0) (h_chn : Part.chn ∈ W0) (h_sec : Part.sec ∈ W0) (h_upd : Part.upd ∈ W0) (h_ring : Part.ring ∈ W0) (h_out : Part.out ∈ W0) (y0 : Nat) (y1 : State) (y2 : Push)
    (h0 : Keeps W0 r0 y1) :
    Keeps W0 r0 (pushGo y0 y1 y2) := by
  induction y0 generalizing y1 y2 with
  | zero =>
    unfold pushGo
    repeat' first
      | with_reducible assumption
  | succ y0 ih =>
    unfold pushGo
    repeat' first
      | with_reducible assumption
      | simp only [Keeps.upd, h_upd]
      | with_reducible apply ih
      | with_reducible apply pushSet_keeps
      | with_reducible apply pushEnd_keeps
      | with_reducible apply pushLetter_keeps
      | with_reducible apply Keeps.foldl
      | split

theorem pushPump_keeps {W0 : List Part} {r0 : State} (s : State) (h_regs : Part.regs ∈ W0) (h_hif : Part.hif ∈ W0) (h_queues : Part.queues ∈ W0) (h_sor : Part.sor ∈ W0) (h_chn : Part.chn ∈ W0) (h_sec : Part.sec ∈ W0) (h_upd : Part.upd ∈ W0) (h_ring : Part.ring ∈ W0) (h_out : Part.out ∈ W0) (h0 : Keeps W0 r0 s) :
    Keeps W0 r0 (pushPump s) := by
  unfold pushPump
  repeat' first
    | with_reducible assumption
    | with_reducible apply pushGo_keeps
    | with_reducible apply Keeps.foldl
    | split
    | dsimp only
    | intro _

theorem pushEntry_keeps {W0 : List Part} {r0 : State} (s : State) (it : Item) (host : HostRes) (h_regs : Part.regs ∈ W0) (h_hif : Part.hif ∈ W0) (h_queues : Part.queues ∈ W0) (h_sor : Part.sor ∈ W0) (h_srf : Part.srf ∈ W0) (h_drc : Part.drc ∈ W0) (h_chn : Part.chn ∈ W0) (h_sec : Part.sec ∈ W0) (h_upd : Part.upd ∈ W0) (h_ring : Part.ring ∈ W0) (h_out : Part.out ∈ W0) (h_free : Part.free ∈ W0) (h0 : Keeps W0 r0 s) :
    Keeps W0 r0 (pushEntry s it host) := by
  unfold pushEntry
  repeat' first
    | with_reducible assumption
    | simp only [Keeps.upd, h_upd]
    | with_reducible apply drawBytes_keeps
    | with_reducible apply updDone_keeps
    | with_reducible apply updFetch_keeps
    | with_reducible apply pushGo_keeps
    | with_reducible refine Keeps.of_snd (by with_reducible assumption) ?_
    | with_reducible refine Keeps.of_snd2 (by with_reducible assumption) ?_
    | split

theorem pushReply_keeps {W0 : List Part} {r0 : State} (s : State) (x : Push) (c : Bytes) (query : Bool) (h_regs : Part.regs ∈ W0) (h_hif : Part.hif ∈ W0) (h_queues : Part.queues ∈ W0) (h_sor : Part.sor ∈ W0) (h_chn : Part.chn ∈ W0) (h_sec : Part.sec ∈ W0) (h_upd : Part.upd ∈ W0) (h_ring : Part.ring ∈ W0) (h_out : Part.out ∈ W0) (h0 : Keeps W0 r0 s) :
    Keeps W0 r0 (pushReply s x c query) := by
  unfold pushReply
  repeat' first
    | with_reducible assumption
    | with_reducible apply pushSet_keeps
    | with_reducible apply pushEnd_keeps
    | with_reducible apply pushGo_keeps
    | split
    | dsimp only

theorem pushReplyStep_keeps {W0 : List Part} {r0 : State} (s : State) (h_regs : Part.regs ∈ W0) (h_hif : Part.hif ∈ W0) (h_queues : Part.queues ∈ W0) (h_sor : Part.sor ∈ W0) (h_chn : Part.chn ∈ W0) (h_sec : Part.sec ∈ W0) (h_upd : Part.upd ∈ W0) (h_ring : Part.ring ∈ W0) (h_out : Part.out ∈ W0) (h0 : Keeps W0 r0 s) :
    Keeps W0 r0 (pushReplyStep s) := by
  unfold pushReplyStep
  repeat' first
    | with_reducible assumption
    | with_reducible refine takeLetter_keeps (hx := by with_reducible assumption) ?_ ?_
    | with_reducible refine openReply_keeps (hx := by with_reducible assumption) ?_ ?_
    | with_reducible apply pushReply_keeps
    | split

theorem recoveryGo_keeps {W0 : List Part} {r0 : State} (s : State) (h_regs : Part.regs ∈ W0) (h_sec : Part.sec ∈ W0) (h0 : Keeps W0 r0 s) :
    Keeps W0 r0 (recoveryGo s) := by
  unfold recoveryGo
  repeat' first
    | with_reducible assumption
    | with_reducible apply setF_keeps
    | with_reducible apply measExtend_keeps
    | split
    | dsimp only

theorem whenUpd_keeps {W0 : List Part} {r0 : State} (s : State) (f : State → State) (h_f : ∀ (x0 : State), Keeps W0 r0 x0 → Keeps W0 r0 (f x0)) {t0 : State} (h0 : Keeps W0 r0 s) (ht : whenUpd s f = .next t0) :
    Keeps W0 r0 t0 := by
  unfold whenUpd at ht
  apply whenOn_keeps (ht := ht)
  repeat' first
    | with_reducible assumption

theorem onParcel_keeps {W0 : List Part} {r0 : State} (s : State) (op : Nat) (f : State → Letter → State) (h_chn : Part.chn ∈ W0) (h_f : ∀ (x0 : State) (x1 : Letter), Keeps W0 r0 x0 → Keeps W0 r0 (f x0 x1)) (h0 : Keeps W0 r0 s) :
    Keeps W0 r0 (onParcel s op f) := by
  unfold onParcel
  repeat' first
    | with_reducible assumption
    | with_reducible apply h_f
    | with_reducible refine takeLetter_keeps (hx := by with_reducible assumption) ?_ ?_
    | split

theorem execParcelData_keeps {W0 : List Part} {r0 : State} (s : State) (h_regs : Part.regs ∈ W0) (h_hif : Part.hif ∈ W0) (h_chn : Part.chn ∈ W0) (h_tan : Part.tan ∈ W0) (h_upd : Part.upd ∈ W0) (h_out : Part.out ∈ W0) (h_free : Part.free ∈ W0) {t0 : State} (h0 : Keeps W0 r0 s) (ht : execParcelData s = .next t0) :
    Keeps W0 r0 t0 := by
  unfold execParcelData at ht
  apply whenUpd_keeps (ht := ht)
  repeat' first
    | with_reducible assumption
    | with_reducible apply parcelData_keeps
    | with_reducible apply onParcel_keeps
    | split
    | dsimp only
    | intro _

theorem execParcelQuery_keeps {W0 : List Part} {r0 : State} (s : State) (h_regs : Part.regs ∈ W0) (h_chn : Part.chn ∈ W0) {t0 : State} (h0 : Keeps W0 r0 s) (ht : execParcelQuery s = .next t0) :
    Keeps W0 r0 t0 := by
  unfold execParcelQuery at ht
  apply whenUpd_keeps (ht := ht)
  repeat' first
    | with_reducible assumption
    | with_reducible apply parcelQuery_keeps
    | with_reducible apply onParcel_keeps
    | split
    | dsimp only
    | intro _

theorem execParcelArm_keeps {W0 : List Part} {r0 : State} (s : State) (h_regs : Part.regs ∈ W0) (h_hif : Part.hif ∈ W0) (h_queues : Part.queues ∈ W0) (h_sor : Part.sor ∈ W0) (h_chn : Part.chn ∈ W0) (h_tan : Part.tan ∈ W0) (h_upd : Part.upd ∈ W0) (h_ring : Part.ring ∈ W0) (h_out : Part.out ∈ W0) (h_free : Part.free ∈ W0) {t0 : State} (h0 : Keeps W0 r0 s) (ht : execParcelArm s = .next t0) :
    Keeps W0 r0 t0 := by
  unfold execParcelArm at ht
  apply whenUpd_keeps (ht := ht)
  repeat' first
    | with_reducible assumption
    | with_reducible apply parcelArm_keeps
    | with_reducible apply onParcel_keeps
    | split
    | dsimp only
    | intro _

theorem execParcelAbandon_keeps {W0 : List Part} {r0 : State} (s : State) (h_regs : Part.regs ∈ W0) (h_hif : Part.hif ∈ W0) (h_queues : Part.queues ∈ W0) (h_sor : Part.sor ∈ W0) (h_chn : Part.chn ∈ W0) (h_tan : Part.tan ∈ W0) (h_upd : Part.upd ∈ W0) (h_ring : Part.ring ∈ W0) (h_out : Part.out ∈ W0) {t0 : State} (h0 : Keeps W0 r0 s) (ht : execParcelAbandon s = .next t0) :
    Keeps W0 r0 t0 := by
  unfold execParcelAbandon at ht
  apply whenUpd_keeps (ht := ht)
  repeat' first
    | with_reducible assumption
    | with_reducible apply parcelAbandon_keeps
    | with_reducible apply onParcel_keeps
    | split
    | dsimp only
    | intro _

theorem execStageEntry_keeps {W0 : List Part} {r0 : State} (host : HostRes) (s : State) (h_regs : Part.regs ∈ W0) (h_hif : Part.hif ∈ W0) (h_queues : Part.queues ∈ W0) (h_sor : Part.sor ∈ W0) (h_srf : Part.srf ∈ W0) (h_drc : Part.drc ∈ W0) (h_chn : Part.chn ∈ W0) (h_tan : Part.tan ∈ W0) (h_upd : Part.upd ∈ W0) (h_ring : Part.ring ∈ W0) (h_out : Part.out ∈ W0) (h_free : Part.free ∈ W0) {t0 : State} (h0 : Keeps W0 r0 s) (ht : execStageEntry host s = .next t0) :
    Keeps W0 r0 t0 := by
  unfold execStageEntry at ht
  apply whenUpd_keeps (ht := ht)
  repeat' first
    | with_reducible assumption
    | with_reducible apply onEntryRead_keeps
    | with_reducible apply stageEntry_keeps
    | split
    | dsimp only
    | intro _

theorem execPushEntry_keeps {W0 : List Part} {r0 : State} (host : HostRes) (s : State) (h_regs : Part.regs ∈ W0) (h_hif : Part.hif ∈ W0) (h_queues : Part.queues ∈ W0) (h_sor : Part.sor ∈ W0) (h_srf : Part.srf ∈ W0) (h_drc : Part.drc ∈ W0) (h_chn : Part.chn ∈ W0) (h_sec : Part.sec ∈ W0) (h_upd : Part.upd ∈ W0) (h_ring : Part.ring ∈ W0) (h_out : Part.out ∈ W0) (h_free : Part.free ∈ W0) {t0 : State} (h0 : Keeps W0 r0 s) (ht : execPushEntry host s = .next t0) :
    Keeps W0 r0 t0 := by
  unfold execPushEntry at ht
  apply whenUpd_keeps (ht := ht)
  repeat' first
    | with_reducible assumption
    | with_reducible apply onEntryRead_keeps
    | with_reducible apply pushEntry_keeps
    | split
    | dsimp only
    | intro _

theorem execPushReply_keeps {W0 : List Part} {r0 : State} (s : State) (h_regs : Part.regs ∈ W0) (h_hif : Part.hif ∈ W0) (h_queues : Part.queues ∈ W0) (h_sor : Part.sor ∈ W0) (h_chn : Part.chn ∈ W0) (h_sec : Part.sec ∈ W0) (h_upd : Part.upd ∈ W0) (h_ring : Part.ring ∈ W0) (h_out : Part.out ∈ W0) {t0 : State} (h0 : Keeps W0 r0 s) (ht : execPushReply s = .next t0) :
    Keeps W0 r0 t0 := by
  unfold execPushReply at ht
  apply whenUpd_keeps (ht := ht)
  repeat' first
    | with_reducible assumption
    | with_reducible apply pushReplyStep_keeps
    | split
    | dsimp only
    | intro _

theorem execActivateEntry_keeps {W0 : List Part} {r0 : State} (s : State) (h_regs : Part.regs ∈ W0) (h_hif : Part.hif ∈ W0) (h_queues : Part.queues ∈ W0) (h_sor : Part.sor ∈ W0) (h_chn : Part.chn ∈ W0) (h_tan : Part.tan ∈ W0) (h_upd : Part.upd ∈ W0) (h_ring : Part.ring ∈ W0) (h_out : Part.out ∈ W0) (h_free : Part.free ∈ W0) {t0 : State} (h0 : Keeps W0 r0 s) (ht : execActivateEntry s = .next t0) :
    Keeps W0 r0 t0 := by
  unfold execActivateEntry at ht
  apply whenUpd_keeps (ht := ht)
  repeat' first
    | with_reducible assumption
    | with_reducible apply onEntry_keeps
    | with_reducible apply activateEntry_keeps
    | split
    | dsimp only
    | intro _

theorem execConfirmEntry_keeps {W0 : List Part} {r0 : State} (s : State) (h_regs : Part.regs ∈ W0) (h_hif : Part.hif ∈ W0) (h_queues : Part.queues ∈ W0) (h_sor : Part.sor ∈ W0) (h_upd : Part.upd ∈ W0) (h_ring : Part.ring ∈ W0) (h_out : Part.out ∈ W0) {t0 : State} (h0 : Keeps W0 r0 s) (ht : execConfirmEntry s = .next t0) :
    Keeps W0 r0 t0 := by
  unfold execConfirmEntry at ht
  apply whenUpd_keeps (ht := ht)
  repeat' first
    | with_reducible assumption
    | with_reducible apply onEntry_keeps
    | with_reducible apply confirmEntry_keeps
    | split
    | dsimp only
    | intro _

theorem execAbandonEntry_keeps {W0 : List Part} {r0 : State} (s : State) (h_regs : Part.regs ∈ W0) (h_hif : Part.hif ∈ W0) (h_queues : Part.queues ∈ W0) (h_sor : Part.sor ∈ W0) (h_chn : Part.chn ∈ W0) (h_tan : Part.tan ∈ W0) (h_upd : Part.upd ∈ W0) (h_ring : Part.ring ∈ W0) (h_out : Part.out ∈ W0) {t0 : State} (h0 : Keeps W0 r0 s) (ht : execAbandonEntry s = .next t0) :
    Keeps W0 r0 t0 := by
  unfold execAbandonEntry at ht
  apply whenUpd_keeps (ht := ht)
  repeat' first
    | with_reducible assumption
    | with_reducible apply onEntry_keeps
    | with_reducible apply abandonEntry_keeps
    | split
    | dsimp only
    | intro _

theorem execHostimgEntry_keeps {W0 : List Part} {r0 : State} (s : State) (h_regs : Part.regs ∈ W0) (h_hif : Part.hif ∈ W0) (h_queues : Part.queues ∈ W0) (h_sor : Part.sor ∈ W0) (h_srf : Part.srf ∈ W0) (h_drc : Part.drc ∈ W0) (h_chn : Part.chn ∈ W0) (h_sec : Part.sec ∈ W0) (h_dram : Part.dram ∈ W0) (h_ring : Part.ring ∈ W0) (h_out : Part.out ∈ W0) (h_free : Part.free ∈ W0) {t0 : State} (h0 : Keeps W0 r0 s) (ht : execHostimgEntry s = .next t0) :
    Keeps W0 r0 t0 := by
  unfold execHostimgEntry at ht
  apply whenUpd_keeps (ht := ht)
  repeat' first
    | with_reducible assumption
    | with_reducible apply onEntry_keeps
    | with_reducible apply hostimgEntry_keeps
    | split
    | dsimp only
    | intro _

theorem execVerifyDone_keeps {W0 : List Part} {r0 : State} (s : State) (h_regs : Part.regs ∈ W0) (h_hif : Part.hif ∈ W0) (h_chn : Part.chn ∈ W0) (h_tan : Part.tan ∈ W0) (h_upd : Part.upd ∈ W0) (h_out : Part.out ∈ W0) (h_free : Part.free ∈ W0) (h_flash : Part.flash ∈ W0) {t0 : State} (h0 : Keeps W0 r0 s) (ht : execVerifyDone s = .next t0) :
    Keeps W0 r0 t0 := by
  unfold execVerifyDone at ht
  apply whenUpd_keeps (ht := ht)
  repeat' first
    | with_reducible assumption
    | with_reducible apply verifyStep_keeps
    | split
    | dsimp only
    | intro _

theorem execActivationInstant_keeps {W0 : List Part} {r0 : State} (dt : Nat) (s : State) (h_regs : Part.regs ∈ W0) (h_hif : Part.hif ∈ W0) (h_queues : Part.queues ∈ W0) (h_sor : Part.sor ∈ W0) (h_chn : Part.chn ∈ W0) (h_upd : Part.upd ∈ W0) (h_ring : Part.ring ∈ W0) (h_time : Part.time ∈ W0) (h_wraps : Part.wraps ∈ W0) (h_up : Part.up ∈ W0) (h_out : Part.out ∈ W0) (h_free : Part.free ∈ W0) {t0 : State} (h0 : Keeps W0 r0 s) (ht : execActivationInstant dt s = .next t0) :
    Keeps W0 r0 t0 := by
  unfold execActivationInstant at ht
  apply whenUpd_keeps (ht := ht)
  repeat' first
    | with_reducible assumption
    | with_reducible apply advance_keeps
    | with_reducible apply activationStep_keeps
    | split
    | dsimp only
    | intro _

theorem execTrialConfirm_keeps {W0 : List Part} {r0 : State} (s : State) (h_regs : Part.regs ∈ W0) (h_upd : Part.upd ∈ W0) (h_out : Part.out ∈ W0) (h_free : Part.free ∈ W0) {t0 : State} (h0 : Keeps W0 r0 s) (ht : execTrialConfirm s = .next t0) :
    Keeps W0 r0 t0 := by
  unfold execTrialConfirm at ht
  apply whenUpd_keeps (ht := ht)
  repeat' first
    | with_reducible assumption
    | with_reducible apply trialConfirm_keeps
    | split
    | dsimp only
    | intro _

theorem execConfirmWindowExpiry_keeps {W0 : List Part} {r0 : State} (dt : Nat) (s : State) (h_regs : Part.regs ∈ W0) (h_boot : Part.boot ∈ W0) (h_hif : Part.hif ∈ W0) (h_queues : Part.queues ∈ W0) (h_sor : Part.sor ∈ W0) (h_srf : Part.srf ∈ W0) (h_chn : Part.chn ∈ W0) (h_lmp : Part.lmp ∈ W0) (h_spk : Part.spk ∈ W0) (h_ring : Part.ring ∈ W0) (h_time : Part.time ∈ W0) (h_wraps : Part.wraps ∈ W0) (h_up : Part.up ∈ W0) (h_out : Part.out ∈ W0) {t0 : State} (h0 : Keeps W0 r0 s) (ht : execConfirmWindowExpiry dt s = .next t0) :
    Keeps W0 r0 t0 := by
  unfold execConfirmWindowExpiry at ht
  apply whenUpd_keeps (ht := ht)
  repeat' first
    | with_reducible assumption
    | with_reducible apply advance_keeps
    | with_reducible apply confirmExpiry_keeps
    | split
    | dsimp only
    | intro _

theorem execFlashOperationDone_keeps {W0 : List Part} {r0 : State} (ok : Bool) (s : State) (h_regs : Part.regs ∈ W0) (h_boot : Part.boot ∈ W0) (h_hif : Part.hif ∈ W0) (h_queues : Part.queues ∈ W0) (h_sor : Part.sor ∈ W0) (h_srf : Part.srf ∈ W0) (h_chn : Part.chn ∈ W0) (h_tan : Part.tan ∈ W0) (h_sec : Part.sec ∈ W0) (h_lmp : Part.lmp ∈ W0) (h_spk : Part.spk ∈ W0) (h_upd : Part.upd ∈ W0) (h_ring : Part.ring ∈ W0) (h_out : Part.out ∈ W0) (h_free : Part.free ∈ W0) (h_fuses : Part.fuses ∈ W0) (h_flash : Part.flash ∈ W0) {t0 : State} (h0 : Keeps W0 r0 s) (ht : execFlashOperationDone ok s = .next t0) :
    Keeps W0 r0 t0 := by
  unfold execFlashOperationDone at ht
  apply whenUpd_keeps (ht := ht)
  repeat' first
    | with_reducible assumption
    | with_reducible apply flashDone_keeps
    | split
    | dsimp only
    | intro _

theorem execOrderlyShutdown_keeps {W0 : List Part} {r0 : State} (s : State) (h_regs : Part.regs ∈ W0) (h_boot : Part.boot ∈ W0) (h_hif : Part.hif ∈ W0) (h_queues : Part.queues ∈ W0) (h_sor : Part.sor ∈ W0) (h_srf : Part.srf ∈ W0) (h_drc : Part.drc ∈ W0) (h_chn : Part.chn ∈ W0) (h_tan : Part.tan ∈ W0) (h_sec : Part.sec ∈ W0) (h_lmp : Part.lmp ∈ W0) (h_spk : Part.spk ∈ W0) (h_upd : Part.upd ∈ W0) (h_ring : Part.ring ∈ W0) (h_out : Part.out ∈ W0) (h_free : Part.free ∈ W0) (h_fuses : Part.fuses ∈ W0) (h_flash : Part.flash ∈ W0) {t0 : State} (h0 : Keeps W0 r0 s) (ht : execOrderlyShutdown s = .next t0) :
    Keeps W0 r0 t0 := by
  unfold execOrderlyShutdown at ht
  apply whenOn_keeps (ht := ht)
  repeat' first
    | with_reducible assumption
    | with_reducible apply orderlyShutdown_keeps
    | split
    | dsimp only
    | intro _

end Sys2Proof.Machine
end

