-- ==== Sys2Proof/Laws/KeepBoot.lean ====
section
/-! SUPPORT. What each operation of Machine/Boot.lean touches. -/

namespace Sys2Proof.Machine

theorem keepF_keeps {W0 : List Part} {r0 : State} (old s : State) (f : Fld) (h_regs : Part.regs ∈ W0) (h0 : Keeps W0 r0 s) :
    Keeps W0 r0 (keepF old s f) := setF_keeps s f _ h_regs h0

theorem resetCore_keeps {W0 : List Part} {r0 : State} (s : State) (h_regs : Part.regs ∈ W0) (h_boot : Part.boot ∈ W0) (h_hif : Part.hif ∈ W0) (h_queues : Part.queues ∈ W0) (h_sor : Part.sor ∈ W0) (h_dma : Part.dma ∈ W0) (h_srf : Part.srf ∈ W0) (h_drc : Part.drc ∈ W0) (h_chn : Part.chn ∈ W0) (h_cmp : Part.cmp ∈ W0) (h_frt : Part.frt ∈ W0) (h_lnk : Part.lnk ∈ W0) (h_tim : Part.tim ∈ W0) (h_tan : Part.tan ∈ W0) (h_sec : Part.sec ∈ W0) (h_lmp : Part.lmp ∈ W0) (h_spk : Part.spk ∈ W0) (h_thm : Part.thm ∈ W0) (h_cal : Part.cal ∈ W0) (h_upd : Part.upd ∈ W0) (h_dram : Part.dram ∈ W0) (h_ring : Part.ring ∈ W0) (h_time : Part.time ∈ W0) (h_wraps : Part.wraps ∈ W0) (h_recov : Part.recov ∈ W0) (h0 : Keeps W0 r0 s) : Keeps W0 r0 (resetCore s) := by
  refine h0.leaf rfl (fun hw => ?_) (fun p hp => by cases p <;> first | rfl | exact absurd (by assumption) hp)
  simp only [State.wf, Bool.and_eq_true] at hw ⊢
  exact ⟨⟨⟨⟨rfl, rfl⟩, rfl⟩, hw.1.2⟩, rfl⟩

theorem padsOff_keeps {W0 : List Part} {r0 : State} (s : State) (h_regs : Part.regs ∈ W0) (h_hif : Part.hif ∈ W0) (h_queues : Part.queues ∈ W0) (h_sor : Part.sor ∈ W0) (h_srf : Part.srf ∈ W0) (h_lmp : Part.lmp ∈ W0) (h_spk : Part.spk ∈ W0) (h_ring : Part.ring ∈ W0) (h_out : Part.out ∈ W0) (h0 : Keeps W0 r0 s) :
    Keeps W0 r0 (padsOff s) := by
  unfold padsOff
  repeat' first
    | with_reducible assumption
    | with_reducible apply emit_keeps
    | with_reducible apply displayOff_keeps
    | with_reducible apply Keeps.foldl
    | split
    | dsimp only
    | intro _

theorem coldReset_keeps {W0 : List Part} {r0 : State} (s : State) (h_regs : Part.regs ∈ W0) (h_boot : Part.boot ∈ W0) (h_hif : Part.hif ∈ W0) (h_queues : Part.queues ∈ W0) (h_sor : Part.sor ∈ W0) (h_dma : Part.dma ∈ W0) (h_srf : Part.srf ∈ W0) (h_drc : Part.drc ∈ W0) (h_chn : Part.chn ∈ W0) (h_cmp : Part.cmp ∈ W0) (h_frt : Part.frt ∈ W0) (h_lnk : Part.lnk ∈ W0) (h_tim : Part.tim ∈ W0) (h_tan : Part.tan ∈ W0) (h_sec : Part.sec ∈ W0) (h_lmp : Part.lmp ∈ W0) (h_spk : Part.spk ∈ W0) (h_thm : Part.thm ∈ W0) (h_cal : Part.cal ∈ W0) (h_upd : Part.upd ∈ W0) (h_dram : Part.dram ∈ W0) (h_ring : Part.ring ∈ W0) (h_time : Part.time ∈ W0) (h_wraps : Part.wraps ∈ W0) (h_out : Part.out ∈ W0) (h_recov : Part.recov ∈ W0) (h0 : Keeps W0 r0 s) :
    Keeps W0 r0 (coldReset s) := by
  unfold coldReset
  repeat' first
    | with_reducible assumption
    | with_reducible apply flashCut_keeps
    | with_reducible apply keepF_keeps
    | with_reducible apply resetCore_keeps
    | with_reducible apply padsOff_keeps
    | with_reducible apply Keeps.foldl
    | split
    | dsimp only
    | intro _

theorem warmKeep_keeps {W0 : List Part} {r0 : State} (s r : State) (h_boot : Part.boot ∈ W0) (h_drc : Part.drc ∈ W0) (h_lnk : Part.lnk ∈ W0) (h_cal : Part.cal ∈ W0) (h_dram : Part.dram ∈ W0)
    (h0 : Keeps W0 r0 s) (h1 : Keeps W0 r0 r) : Keeps W0 r0 (warmKeep s r) := by
  refine ⟨h1.1, fun hw => ?_, fun p hp => ?_⟩
  · have a := h0.2.1 hw
    have b := h1.2.1 hw
    simp only [State.wf, warmKeep, Bool.and_eq_true] at a b ⊢
    refine ⟨⟨⟨⟨b.1.1.1.1, ?_⟩, b.1.1.2⟩, b.1.2⟩, b.2⟩
    split
    · rfl
    · exact a.1.1.1.2
  · cases p <;> first | exact absurd (by assumption) hp | exact h1.2.2 _ hp

theorem warmAssert_keeps {W0 : List Part} {r0 : State} (s : State) (h_regs : Part.regs ∈ W0) (h_boot : Part.boot ∈ W0) (h_hif : Part.hif ∈ W0) (h_queues : Part.queues ∈ W0) (h_sor : Part.sor ∈ W0) (h_dma : Part.dma ∈ W0) (h_srf : Part.srf ∈ W0) (h_drc : Part.drc ∈ W0) (h_chn : Part.chn ∈ W0) (h_cmp : Part.cmp ∈ W0) (h_frt : Part.frt ∈ W0) (h_lnk : Part.lnk ∈ W0) (h_tim : Part.tim ∈ W0) (h_tan : Part.tan ∈ W0) (h_sec : Part.sec ∈ W0) (h_lmp : Part.lmp ∈ W0) (h_spk : Part.spk ∈ W0) (h_thm : Part.thm ∈ W0) (h_cal : Part.cal ∈ W0) (h_upd : Part.upd ∈ W0) (h_dram : Part.dram ∈ W0) (h_ring : Part.ring ∈ W0) (h_time : Part.time ∈ W0) (h_wraps : Part.wraps ∈ W0) (h_out : Part.out ∈ W0) (h_free : Part.free ∈ W0) (h_fuses : Part.fuses ∈ W0) (h_flash : Part.flash ∈ W0) (h_recov : Part.recov ∈ W0) (h0 : Keeps W0 r0 s) :
    Keeps W0 r0 (warmAssert s) := by
  unfold warmAssert
  repeat' first
    | with_reducible assumption
    | with_reducible apply issueAllWrites_keeps
    | with_reducible apply selfRefEntry_keeps
    | with_reducible apply flashSettle_keeps
    | with_reducible apply keepF_keeps
    | with_reducible apply resetCore_keeps
    | with_reducible apply padsOff_keeps
    | with_reducible apply warmKeep_keeps
    | with_reducible apply Keeps.foldl
    | split
    | dsimp only
    | intro _

theorem bootStart_keeps {W0 : List Part} {r0 : State} (s : State) (warm : Bool) (h_regs : Part.regs ∈ W0) (h_boot : Part.boot ∈ W0) (h0 : Keeps W0 r0 s) :
    Keeps W0 r0 (bootStart s warm) := by
  unfold bootStart
  repeat' first
    | with_reducible assumption
    | simp only [Keeps.boot, h_boot]
    | with_reducible apply setF_keeps
    | split

theorem railsGone_keeps {W0 : List Part} {r0 : State} (s : State) (l : List Nat) (h_boot : Part.boot ∈ W0) (h0 : Keeps W0 r0 s) :
    Keeps W0 r0 (railsGone s l) := by
  unfold railsGone
  repeat' first
    | with_reducible assumption
    | simp only [Keeps.boot, h_boot]

theorem railFault_keeps {W0 : List Part} {r0 : State} (s : State) (mask : Nat) (h_regs : Part.regs ∈ W0) (h_boot : Part.boot ∈ W0) (h_hif : Part.hif ∈ W0) (h_queues : Part.queues ∈ W0) (h_sor : Part.sor ∈ W0) (h_dma : Part.dma ∈ W0) (h_srf : Part.srf ∈ W0) (h_drc : Part.drc ∈ W0) (h_chn : Part.chn ∈ W0) (h_cmp : Part.cmp ∈ W0) (h_frt : Part.frt ∈ W0) (h_lnk : Part.lnk ∈ W0) (h_tim : Part.tim ∈ W0) (h_tan : Part.tan ∈ W0) (h_sec : Part.sec ∈ W0) (h_lmp : Part.lmp ∈ W0) (h_spk : Part.spk ∈ W0) (h_thm : Part.thm ∈ W0) (h_cal : Part.cal ∈ W0) (h_upd : Part.upd ∈ W0) (h_dram : Part.dram ∈ W0) (h_ring : Part.ring ∈ W0) (h_time : Part.time ∈ W0) (h_wraps : Part.wraps ∈ W0) (h_out : Part.out ∈ W0) (h_recov : Part.recov ∈ W0) (h0 : Keeps W0 r0 s) :
    Keeps W0 r0 (railFault s mask) := by
  unfold railFault
  repeat' first
    | with_reducible assumption
    | simp only [Keeps.boot, h_boot]
    | with_reducible apply setF_keeps
    | with_reducible apply coldReset_keeps
    | with_reducible apply railsGone_keeps
    | split

theorem railWarn_keeps {W0 : List Part} {r0 : State} (s : State) (k : Nat) (below : Bool) (h_regs : Part.regs ∈ W0) (h_boot : Part.boot ∈ W0) (h_hif : Part.hif ∈ W0) (h_chn : Part.chn ∈ W0) (h_out : Part.out ∈ W0) (h0 : Keeps W0 r0 s) :
    Keeps W0 r0 (railWarn s k below) := by
  unfold railWarn
  repeat' first
    | with_reducible assumption
    | simp only [Keeps.boot, h_boot]
    | with_reducible apply setBitF_keeps
    | with_reducible apply raise_keeps
    | split

theorem aonApply_keeps {W0 : List Part} {r0 : State} (s : State) (h_regs : Part.regs ∈ W0) (h_boot : Part.boot ∈ W0) (h_upd : Part.upd ∈ W0) (h0 : Keeps W0 r0 s) :
    Keeps W0 r0 (aonApply s) := by
  unfold aonApply
  repeat' first
    | with_reducible assumption
    | simp only [Keeps.boot_upd, h_boot, h_upd]
    | with_reducible apply setWord_keeps

theorem hardwareTrip_keeps {W0 : List Part} {r0 : State} (s : State) (k : Nat) (h_regs : Part.regs ∈ W0) (h_boot : Part.boot ∈ W0) (h_hif : Part.hif ∈ W0) (h_queues : Part.queues ∈ W0) (h_sor : Part.sor ∈ W0) (h_dma : Part.dma ∈ W0) (h_srf : Part.srf ∈ W0) (h_drc : Part.drc ∈ W0) (h_chn : Part.chn ∈ W0) (h_cmp : Part.cmp ∈ W0) (h_frt : Part.frt ∈ W0) (h_lnk : Part.lnk ∈ W0) (h_tim : Part.tim ∈ W0) (h_tan : Part.tan ∈ W0) (h_sec : Part.sec ∈ W0) (h_lmp : Part.lmp ∈ W0) (h_spk : Part.spk ∈ W0) (h_thm : Part.thm ∈ W0) (h_cal : Part.cal ∈ W0) (h_upd : Part.upd ∈ W0) (h_dram : Part.dram ∈ W0) (h_ring : Part.ring ∈ W0) (h_time : Part.time ∈ W0) (h_wraps : Part.wraps ∈ W0) (h_out : Part.out ∈ W0) (h_recov : Part.recov ∈ W0) (h0 : Keeps W0 r0 s) :
    Keeps W0 r0 (hardwareTrip s k) := by
  unfold hardwareTrip
  repeat' first
    | with_reducible assumption
    | simp only [Keeps.boot, h_boot]
    | with_reducible apply setF_keeps
    | with_reducible apply coldReset_keeps
    | split

theorem pwronAssert_keeps {W0 : List Part} {r0 : State} (s : State) (h_regs : Part.regs ∈ W0) (h_boot : Part.boot ∈ W0) (h_hif : Part.hif ∈ W0) (h_queues : Part.queues ∈ W0) (h_sor : Part.sor ∈ W0) (h_dma : Part.dma ∈ W0) (h_srf : Part.srf ∈ W0) (h_drc : Part.drc ∈ W0) (h_chn : Part.chn ∈ W0) (h_cmp : Part.cmp ∈ W0) (h_frt : Part.frt ∈ W0) (h_lnk : Part.lnk ∈ W0) (h_tim : Part.tim ∈ W0) (h_tan : Part.tan ∈ W0) (h_sec : Part.sec ∈ W0) (h_lmp : Part.lmp ∈ W0) (h_spk : Part.spk ∈ W0) (h_thm : Part.thm ∈ W0) (h_cal : Part.cal ∈ W0) (h_upd : Part.upd ∈ W0) (h_dram : Part.dram ∈ W0) (h_ring : Part.ring ∈ W0) (h_time : Part.time ∈ W0) (h_wraps : Part.wraps ∈ W0) (h_out : Part.out ∈ W0) (h_recov : Part.recov ∈ W0) (h0 : Keeps W0 r0 s) :
    Keeps W0 r0 (pwronAssert s) := by
  unfold pwronAssert
  repeat' first
    | with_reducible assumption
    | simp only [Keeps.boot, h_boot]
    | with_reducible apply setF_keeps
    | with_reducible apply coldReset_keeps

theorem coldRelease_keeps {W0 : List Part} {r0 : State} (s : State) (sel : Nat) (uci : Bool) (h_regs : Part.regs ∈ W0) (h_boot : Part.boot ∈ W0) (h_lnk : Part.lnk ∈ W0) (h_free : Part.free ∈ W0) (h0 : Keeps W0 r0 s) :
    Keeps W0 r0 (coldRelease s sel uci) := by
  unfold coldRelease
  repeat' first
    | with_reducible assumption
    | simp only [Keeps.boot, Keeps.lnk, h_boot, h_lnk]
    | with_reducible apply setF_keeps
    | with_reducible apply drawNat_keeps
    | with_reducible apply bootStart_keeps
    | with_reducible refine Keeps.of_snd (by with_reducible assumption) ?_
    | with_reducible refine Keeps.of_snd2 (by with_reducible assumption) ?_
    | split

theorem warmRelease_keeps {W0 : List Part} {r0 : State} (s : State) (h_regs : Part.regs ∈ W0) (h_boot : Part.boot ∈ W0) (h0 : Keeps W0 r0 s) :
    Keeps W0 r0 (warmRelease s) := by
  unfold warmRelease
  repeat' first
    | with_reducible assumption
    | simp only [Keeps.boot, h_boot]
    | with_reducible apply bootStart_keeps

theorem refClkLoss_keeps {W0 : List Part} {r0 : State} (s : State) (h_regs : Part.regs ∈ W0) (h_hif : Part.hif ∈ W0) (h_chn : Part.chn ∈ W0) (h_out : Part.out ∈ W0) (h0 : Keeps W0 r0 s) :
    Keeps W0 r0 (refClkLoss s) := by
  unfold refClkLoss
  repeat' first
    | with_reducible assumption
    | with_reducible apply setF_keeps
    | with_reducible apply raise_keeps
    | split
    | dsimp only

theorem refClkGood_keeps {W0 : List Part} {r0 : State} (s : State) (h_regs : Part.regs ∈ W0) (h0 : Keeps W0 r0 s) :
    Keeps W0 r0 (refClkGood s) := by
  unfold refClkGood
  repeat' first
    | with_reducible assumption
    | with_reducible apply setF_keeps

theorem pllUnlock_keeps {W0 : List Part} {r0 : State} (s : State) (k : Nat) (h_regs : Part.regs ∈ W0) (h0 : Keeps W0 r0 s) :
    Keeps W0 r0 (pllUnlock s k) := by
  unfold pllUnlock
  repeat' first
    | with_reducible assumption
    | with_reducible apply setBitF_keeps
    | split

theorem ucieStart_keeps {W0 : List Part} {r0 : State} (s : State) (h_boot : Part.boot ∈ W0) (h0 : Keeps W0 r0 s) :
    Keeps W0 r0 (ucieStart s) := by
  unfold ucieStart
  repeat' first
    | with_reducible assumption
    | simp only [Keeps.boot, h_boot]

theorem ucieOpen_keeps {W0 : List Part} {r0 : State} (s : State) (h_boot : Part.boot ∈ W0) (h0 : Keeps W0 r0 s) :
    Keeps W0 r0 (ucieOpen s) := by
  unfold ucieOpen
  repeat' first
    | with_reducible assumption
    | simp only [Keeps.boot, h_boot]
    | with_reducible apply ucieStart_keeps

theorem setBootStage_keeps {W0 : List Part} {r0 : State} (s : State) (k : Nat) (h_regs : Part.regs ∈ W0) (h0 : Keeps W0 r0 s) :
    Keeps W0 r0 (setBootStage s k) := by
  unfold setBootStage
  repeat' first
    | with_reducible assumption
    | with_reducible apply setF_keeps

theorem failCode_keeps {W0 : List Part} {r0 : State} (s : State) (c : Status) (h_regs : Part.regs ∈ W0) (h0 : Keeps W0 r0 s) :
    Keeps W0 r0 (failCode s c) := by
  unfold failCode
  repeat' first
    | with_reducible assumption
    | with_reducible apply setF_keeps

theorem bootFail_keeps {W0 : List Part} {r0 : State} (s : State) (c : Status) (h_regs : Part.regs ∈ W0) (h_boot : Part.boot ∈ W0) (h0 : Keeps W0 r0 s) :
    Keeps W0 r0 (bootFail s c) := by
  unfold bootFail
  repeat' first
    | with_reducible assumption
    | with_reducible apply ucieOpen_keeps
    | with_reducible apply setBootStage_keeps
    | with_reducible apply failCode_keeps

theorem startPorts_keeps {W0 : List Part} {r0 : State} (s : State) (ports : List Nat) (all : Bool) (h_regs : Part.regs ∈ W0) (h_lnk : Part.lnk ∈ W0) (h_out : Part.out ∈ W0) (h0 : Keeps W0 r0 s) :
    Keeps W0 r0 (startPorts s ports all) := by
  unfold startPorts
  repeat' first
    | with_reducible assumption
    | with_reducible apply setWord_keeps
    | with_reducible apply setF_keeps
    | with_reducible apply toDetect_keeps
    | with_reducible apply Keeps.foldl
    | split
    | dsimp only
    | intro _

theorem toReady_keeps {W0 : List Part} {r0 : State} (s : State) (ms : Nat) (h_regs : Part.regs ∈ W0) (h_hif : Part.hif ∈ W0) (h_chn : Part.chn ∈ W0) (h_lnk : Part.lnk ∈ W0) (h_sec : Part.sec ∈ W0) (h_upd : Part.upd ∈ W0) (h_out : Part.out ∈ W0) (h_fuses : Part.fuses ∈ W0) (h0 : Keeps W0 r0 s) :
    Keeps W0 r0 (toReady s ms) := by
  unfold toReady
  repeat' first
    | with_reducible assumption
    | simp only [Keeps.upd, h_upd]
    | with_reducible apply setF_keeps
    | with_reducible apply raise_keeps
    | with_reducible apply fuseSvn_keeps
    | with_reducible apply setBootStage_keeps
    | with_reducible apply startPorts_keeps
    | split

theorem ucieFail_keeps {W0 : List Part} {r0 : State} (s : State) (h_regs : Part.regs ∈ W0) (h_boot : Part.boot ∈ W0) (h0 : Keeps W0 r0 s) :
    Keeps W0 r0 (ucieFail s) := by
  unfold ucieFail
  repeat' first
    | with_reducible assumption
    | simp only [Keeps.boot, h_boot]
    | with_reducible apply incSat_keeps

theorem ucieUp_keeps {W0 : List Part} {r0 : State} (s : State) (mods : Nat) (rate : Nat) (ms : Nat) (h_regs : Part.regs ∈ W0) (h_boot : Part.boot ∈ W0) (h_hif : Part.hif ∈ W0) (h_chn : Part.chn ∈ W0) (h_lnk : Part.lnk ∈ W0) (h_sec : Part.sec ∈ W0) (h_upd : Part.upd ∈ W0) (h_out : Part.out ∈ W0) (h_fuses : Part.fuses ∈ W0) (h0 : Keeps W0 r0 s) :
    Keeps W0 r0 (ucieUp s mods rate ms) := by
  unfold ucieUp
  repeat' first
    | with_reducible assumption
    | simp only [Keeps.boot, h_boot]
    | with_reducible apply setF_keeps
    | with_reducible apply issueWaiting_keeps
    | with_reducible apply toReady_keeps
    | split

theorem ucieAttemptEnd_keeps {W0 : List Part} {r0 : State} (s : State) (mods : List (Option Nat)) (left : Bool) (ms : Nat) (h_regs : Part.regs ∈ W0) (h_boot : Part.boot ∈ W0) (h_hif : Part.hif ∈ W0) (h_chn : Part.chn ∈ W0) (h_lnk : Part.lnk ∈ W0) (h_sec : Part.sec ∈ W0) (h_upd : Part.upd ∈ W0) (h_out : Part.out ∈ W0) (h_fuses : Part.fuses ∈ W0) (h0 : Keeps W0 r0 s) :
    Keeps W0 r0 (ucieAttemptEnd s mods left ms) := by
  unfold ucieAttemptEnd
  repeat' first
    | with_reducible assumption
    | with_reducible apply ucieFail_keeps
    | with_reducible apply ucieUp_keeps
    | split

theorem linkDown_keeps {W0 : List Part} {r0 : State} (s : State) (h_regs : Part.regs ∈ W0) (h_hif : Part.hif ∈ W0) (h_queues : Part.queues ∈ W0) (h_sor : Part.sor ∈ W0) (h_dma : Part.dma ∈ W0) (h_srf : Part.srf ∈ W0) (h_drc : Part.drc ∈ W0) (h_chn : Part.chn ∈ W0) (h_dram : Part.dram ∈ W0) (h_ring : Part.ring ∈ W0) (h_out : Part.out ∈ W0) (h_free : Part.free ∈ W0) (h0 : Keeps W0 r0 s) :
    Keeps W0 r0 (linkDown s) := by
  unfold linkDown
  repeat' first
    | with_reducible assumption
    | simp only [Keeps.hif, h_hif]
    | with_reducible apply setF_keeps
    | with_reducible apply queueError_keeps
    | with_reducible apply lateLost_keeps
    | with_reducible apply srfLinkLoss_keeps
    | with_reducible apply dmaLinkLoss_keeps
    | with_reducible apply sorLinkLoss_keeps
    | with_reducible apply Keeps.foldl
    | split
    | dsimp only
    | intro _

theorem linkLoss_keeps {W0 : List Part} {r0 : State} (s : State) (h_regs : Part.regs ∈ W0) (h_boot : Part.boot ∈ W0) (h_hif : Part.hif ∈ W0) (h_queues : Part.queues ∈ W0) (h_sor : Part.sor ∈ W0) (h_dma : Part.dma ∈ W0) (h_srf : Part.srf ∈ W0) (h_drc : Part.drc ∈ W0) (h_chn : Part.chn ∈ W0) (h_dram : Part.dram ∈ W0) (h_ring : Part.ring ∈ W0) (h_out : Part.out ∈ W0) (h_free : Part.free ∈ W0) (h0 : Keeps W0 r0 s) :
    Keeps W0 r0 (linkLoss s) := by
  unfold linkLoss
  repeat' first
    | with_reducible assumption
    | simp only [Keeps.boot, h_boot]
    | with_reducible apply setF_keeps
    | with_reducible apply incSat_keeps
    | with_reducible apply raise_keeps
    | with_reducible apply ucieOpen_keeps
    | with_reducible apply linkDown_keeps
    | split

theorem linkRetrain_keeps {W0 : List Part} {r0 : State} (s : State) (h_regs : Part.regs ∈ W0) (h_boot : Part.boot ∈ W0) (h_hif : Part.hif ∈ W0) (h_queues : Part.queues ∈ W0) (h_sor : Part.sor ∈ W0) (h_dma : Part.dma ∈ W0) (h_srf : Part.srf ∈ W0) (h_drc : Part.drc ∈ W0) (h_chn : Part.chn ∈ W0) (h_dram : Part.dram ∈ W0) (h_ring : Part.ring ∈ W0) (h_out : Part.out ∈ W0) (h_free : Part.free ∈ W0) (h0 : Keeps W0 r0 s) :
    Keeps W0 r0 (linkRetrain s) := by
  unfold linkRetrain
  repeat' first
    | with_reducible assumption
    | with_reducible apply ucieStart_keeps
    | with_reducible apply linkLoss_keeps
    | split

theorem sendPending_keeps {W0 : List Part} {r0 : State} (s : State) (h_regs : Part.regs ∈ W0) (h_hif : Part.hif ∈ W0) (h_out : Part.out ∈ W0) (h0 : Keeps W0 r0 s) :
    Keeps W0 r0 (sendPending s) := by
  unfold sendPending
  repeat' first
    | with_reducible assumption
    | simp only [Keeps.hif, h_hif]
    | with_reducible apply issueUp_keeps
    | with_reducible apply Keeps.foldl
    | split
    | dsimp only
    | intro _

theorem waitedGo_keeps {W0 : List Part} {r0 : State} (s : State) (u : Up) (h_regs : Part.regs ∈ W0) (h_hif : Part.hif ∈ W0) (h_queues : Part.queues ∈ W0) (h_sor : Part.sor ∈ W0) (h_dma : Part.dma ∈ W0) (h_srf : Part.srf ∈ W0) (h_drc : Part.drc ∈ W0) (h_chn : Part.chn ∈ W0) (h_dram : Part.dram ∈ W0) (h_ring : Part.ring ∈ W0) (h_out : Part.out ∈ W0) (h_free : Part.free ∈ W0) (h0 : Keeps W0 r0 s) :
    Keeps W0 r0 (waitedGo s u) := by
  unfold waitedGo
  repeat' first
    | with_reducible assumption
    | with_reducible apply upstream_keeps
    | with_reducible apply settle_keeps
    | split

theorem busOpen_keeps {W0 : List Part} {r0 : State} (s : State) (h_regs : Part.regs ∈ W0) (h_hif : Part.hif ∈ W0) (h_queues : Part.queues ∈ W0) (h_sor : Part.sor ∈ W0) (h_dma : Part.dma ∈ W0) (h_srf : Part.srf ∈ W0) (h_drc : Part.drc ∈ W0) (h_chn : Part.chn ∈ W0) (h_dram : Part.dram ∈ W0) (h_ring : Part.ring ∈ W0) (h_out : Part.out ∈ W0) (h_free : Part.free ∈ W0) (h0 : Keeps W0 r0 s) :
    Keeps W0 r0 (busOpen s) := by
  unfold busOpen
  repeat' first
    | with_reducible assumption
    | simp only [Keeps.hif, h_hif]
    | with_reducible apply waitedGo_keeps
    | with_reducible apply Keeps.foldl
    | split
    | dsimp only
    | intro _

theorem busTimers_keeps {W0 : List Part} {r0 : State} (s : State) (h_hif : Part.hif ∈ W0) (h0 : Keeps W0 r0 s) :
    Keeps W0 r0 (busTimers s) := by
  unfold busTimers
  repeat' first
    | with_reducible assumption
    | simp only [Keeps.hif, h_hif]
    | split

theorem bmeChange_keeps {W0 : List Part} {r0 : State} (s : State) (b : Bool) (mps : Nat) (mrrs : Nat) (h_regs : Part.regs ∈ W0) (h_hif : Part.hif ∈ W0) (h_queues : Part.queues ∈ W0) (h_sor : Part.sor ∈ W0) (h_dma : Part.dma ∈ W0) (h_srf : Part.srf ∈ W0) (h_drc : Part.drc ∈ W0) (h_chn : Part.chn ∈ W0) (h_dram : Part.dram ∈ W0) (h_ring : Part.ring ∈ W0) (h_out : Part.out ∈ W0) (h_free : Part.free ∈ W0) (h0 : Keeps W0 r0 s) :
    Keeps W0 r0 (bmeChange s b mps mrrs) := by
  unfold bmeChange
  repeat' first
    | with_reducible assumption
    | simp only [Keeps.hif, h_hif]
    | with_reducible apply setF_keeps
    | with_reducible apply retireLate_keeps
    | with_reducible apply dmaPumpAll_keeps
    | with_reducible apply busOpen_keeps
    | with_reducible apply busTimers_keeps
    | split

theorem msixUnmask_keeps {W0 : List Part} {r0 : State} (s : State) (u : Unmask) (h_regs : Part.regs ∈ W0) (h_hif : Part.hif ∈ W0) (h_out : Part.out ∈ W0) (h0 : Keeps W0 r0 s) :
    Keeps W0 r0 (msixUnmask s u) := by
  unfold msixUnmask
  repeat' first
    | with_reducible assumption
    | simp only [Keeps.hif, h_hif]
    | with_reducible apply setMsixWord_keeps
    | with_reducible apply sendPending_keeps
    | split

theorem romDone_keeps {W0 : List Part} {r0 : State} (s : State) (h_regs : Part.regs ∈ W0) (h_sec : Part.sec ∈ W0) (h0 : Keeps W0 r0 s) :
    Keeps W0 r0 (romDone s) := by
  unfold romDone
  repeat' first
    | with_reducible assumption
    | with_reducible apply measExtend_keeps
    | with_reducible apply setBootStage_keeps

theorem tcanon_foldl_wrBytes {d : Byte} (l : List (Nat × Bytes)) {m : List Host.Cell} (h : tcanon (fun _ => d) m = true) :
    tcanon (fun _ => d) (l.foldl (fun m e => wrBytes d m e.1 e.2) m) = true := by
  induction l generalizing m with
  | nil => exact h
  | cons x l ih => exact ih (tcanon_wrBytes x.1 x.2 h)

theorem flashFound_keeps {W0 : List Part} {r0 : State} (s : State) (o : FirstObs) (h_upd : Part.upd ∈ W0)
    (h_flash : Part.flash ∈ W0) (h0 : Keeps W0 r0 s) : Keeps W0 r0 (flashFound s o) := by
  refine h0.leaf rfl (fun hw => ?_)
    (fun p hp => by cases p <;> first | rfl | exact absurd h_upd hp | exact absurd h_flash hp)
  simp only [State.wf, flashFound, Bool.and_eq_true] at hw ⊢
  exact ⟨⟨⟨⟨hw.1.1.1.1, hw.1.1.1.2⟩, hw.1.1.2⟩, tcanon_foldl_wrBytes _ rfl⟩, hw.2⟩

theorem flashLearn_keeps {W0 : List Part} {r0 : State} (s : State) (o : FirstObs) (h_regs : Part.regs ∈ W0) (h_upd : Part.upd ∈ W0) (h_flash : Part.flash ∈ W0) (h0 : Keeps W0 r0 s) :
    Keeps W0 r0 (flashLearn s o) := by
  unfold flashLearn
  repeat' first
    | with_reducible assumption
    | with_reducible apply setF_keeps
    | with_reducible apply flashFound_keeps
    | split
    | dsimp only

theorem bootSlot_keeps {W0 : List Part} {r0 : State} (s : State) (k : Nat) (trial : Bool) (h_regs : Part.regs ∈ W0) (h_hif : Part.hif ∈ W0) (h_chn : Part.chn ∈ W0) (h_tan : Part.tan ∈ W0) (h_sec : Part.sec ∈ W0) (h_upd : Part.upd ∈ W0) (h_out : Part.out ∈ W0) (h0 : Keeps W0 r0 s) :
    Keeps W0 r0 (bootSlot s k trial) := by
  unfold bootSlot
  repeat' first
    | with_reducible assumption
    | simp only [Keeps.upd, h_upd]
    | with_reducible apply setF_keeps
    | with_reducible apply measExtend_keeps
    | with_reducible apply setUstate_keeps
    | with_reducible apply updShow_keeps
    | with_reducible apply curShow_keeps
    | with_reducible apply setBootStage_keeps

theorem bootRec_keeps {W0 : List Part} {r0 : State} (s : State) (r : SlotRec) (h_upd : Part.upd ∈ W0) (h_out : Part.out ∈ W0) (h_free : Part.free ∈ W0) (h0 : Keeps W0 r0 s) :
    Keeps W0 r0 (bootRec s r) := by
  unfold bootRec
  repeat' first
    | with_reducible assumption
    | with_reducible apply flashOut_keeps
    | with_reducible apply recWrite_keeps

theorem candGiveUp_keeps {W0 : List Part} {r0 : State} (s : State) (cur : Nat) (c : Status) (h_regs : Part.regs ∈ W0) (h_upd : Part.upd ∈ W0) (h_out : Part.out ∈ W0) (h_free : Part.free ∈ W0) (h0 : Keeps W0 r0 s) :
    Keeps W0 r0 (candGiveUp s cur c) := by
  unfold candGiveUp
  repeat' first
    | with_reducible assumption
    | with_reducible apply lastCode_keeps
    | with_reducible apply bootRec_keeps

theorem bootCurrent_keeps {W0 : List Part} {r0 : State} (s : State) (o : FirstObs) (cur : Nat) (other : Bool) (h_regs : Part.regs ∈ W0) (h_boot : Part.boot ∈ W0) (h_hif : Part.hif ∈ W0) (h_chn : Part.chn ∈ W0) (h_tan : Part.tan ∈ W0) (h_sec : Part.sec ∈ W0) (h_upd : Part.upd ∈ W0) (h_out : Part.out ∈ W0) (h0 : Keeps W0 r0 s) :
    Keeps W0 r0 (bootCurrent s o cur other) := by
  unfold bootCurrent
  repeat' first
    | with_reducible assumption
    | with_reducible apply failCode_keeps
    | with_reducible apply bootFail_keeps
    | with_reducible apply bootSlot_keeps
    | split
    | dsimp only

theorem firstDone_keeps {W0 : List Part} {r0 : State} (s : State) (o : FirstObs) (h_regs : Part.regs ∈ W0) (h_boot : Part.boot ∈ W0) (h_hif : Part.hif ∈ W0) (h_chn : Part.chn ∈ W0) (h_tan : Part.tan ∈ W0) (h_sec : Part.sec ∈ W0) (h_upd : Part.upd ∈ W0) (h_out : Part.out ∈ W0) (h_free : Part.free ∈ W0) (h_flash : Part.flash ∈ W0) (h0 : Keeps W0 r0 s) :
    Keeps W0 r0 (firstDone s o) := by
  unfold firstDone
  repeat' first
    | with_reducible assumption
    | simp only [Keeps.upd, h_upd]
    | with_reducible apply setF_keeps
    | with_reducible apply failCode_keeps
    | with_reducible apply bootFail_keeps
    | with_reducible apply flashLearn_keeps
    | with_reducible apply bootSlot_keeps
    | with_reducible apply bootRec_keeps
    | with_reducible apply candGiveUp_keeps
    | with_reducible apply bootCurrent_keeps
    | split

theorem dramDone_keeps {W0 : List Part} {r0 : State} (s : State) (l : List DramCh) (rates : Nat × Nat × Nat) (h_regs : Part.regs ∈ W0) (h_boot : Part.boot ∈ W0) (h_drc : Part.drc ∈ W0) (h_cal : Part.cal ∈ W0) (h_dram : Part.dram ∈ W0) (h0 : Keeps W0 r0 s) :
    Keeps W0 r0 (dramDone s l rates) := by
  unfold dramDone
  repeat' first
    | with_reducible assumption
    | with_reducible apply setF_keeps
    | with_reducible apply calTrain_keeps
    | with_reducible apply retrackChan_keeps
    | with_reducible apply dramStage_keeps
    | with_reducible apply setBootStage_keeps
    | with_reducible apply failCode_keeps
    | with_reducible apply Keeps.foldl
    | with_reducible refine Keeps.of_snd (by with_reducible assumption) ?_
    | with_reducible refine Keeps.of_snd2 (by with_reducible assumption) ?_
    | split
    | dsimp only
    | intro _

theorem faultRecords_keeps {W0 : List Part} {r0 : State} (s : State) (h_regs : Part.regs ∈ W0) (h_boot : Part.boot ∈ W0) (h_upd : Part.upd ∈ W0) (h_out : Part.out ∈ W0) (h_free : Part.free ∈ W0) (h0 : Keeps W0 r0 s) :
    Keeps W0 r0 (faultRecords s) := by
  unfold faultRecords
  repeat' first
    | with_reducible assumption
    | simp only [Keeps.boot, h_boot]
    | with_reducible apply setWord_keeps
    | with_reducible apply journalWrite_keeps
    | split

theorem calLoad_keeps {W0 : List Part} {r0 : State} (s : State) (h_cal : Part.cal ∈ W0) (h0 : Keeps W0 r0 s) :
    Keeps W0 r0 (calLoad s) := by
  unfold calLoad
  repeat' first
    | with_reducible assumption
    | simp only [Keeps.cal, h_cal]
    | split

theorem firmwareFail_keeps {W0 : List Part} {r0 : State} (s : State) (c : Status) (h_regs : Part.regs ∈ W0) (h_boot : Part.boot ∈ W0) (h_hif : Part.hif ∈ W0) (h_queues : Part.queues ∈ W0) (h_sor : Part.sor ∈ W0) (h_srf : Part.srf ∈ W0) (h_lmp : Part.lmp ∈ W0) (h_spk : Part.spk ∈ W0) (h_upd : Part.upd ∈ W0) (h_ring : Part.ring ∈ W0) (h_out : Part.out ∈ W0) (h0 : Keeps W0 r0 s) :
    Keeps W0 r0 (firmwareFail s c) := by
  unfold firmwareFail
  repeat' first
    | with_reducible assumption
    | simp only [Keeps.upd, h_upd]
    | with_reducible apply warmRequest_keeps
    | with_reducible apply failCode_keeps
    | with_reducible apply bootFail_keeps
    | split

theorem firmwareDone_keeps {W0 : List Part} {r0 : State} (s : State) (o : FwObs) (h_regs : Part.regs ∈ W0) (h_boot : Part.boot ∈ W0) (h_hif : Part.hif ∈ W0) (h_queues : Part.queues ∈ W0) (h_sor : Part.sor ∈ W0) (h_srf : Part.srf ∈ W0) (h_lnk : Part.lnk ∈ W0) (h_sec : Part.sec ∈ W0) (h_lmp : Part.lmp ∈ W0) (h_spk : Part.spk ∈ W0) (h_cal : Part.cal ∈ W0) (h_upd : Part.upd ∈ W0) (h_ring : Part.ring ∈ W0) (h_out : Part.out ∈ W0) (h_free : Part.free ∈ W0) (h0 : Keeps W0 r0 s) :
    Keeps W0 r0 (firmwareDone s o) := by
  unfold firmwareDone
  repeat' first
    | with_reducible assumption
    | simp only [Keeps.boot_hif_sec, h_boot, h_hif, h_sec]
    | with_reducible apply setWord_keeps
    | with_reducible apply measExtend_keeps
    | with_reducible apply ucieOpen_keeps
    | with_reducible apply setBootStage_keeps
    | with_reducible apply startPorts_keeps
    | with_reducible apply faultRecords_keeps
    | with_reducible apply calLoad_keeps
    | with_reducible apply firmwareFail_keeps
    | with_reducible apply Keeps.foldl
    | split
    | dsimp only
    | intro _

theorem execRailFault_keeps {W0 : List Part} {r0 : State} (mask : Nat) (s : State) (h_regs : Part.regs ∈ W0) (h_boot : Part.boot ∈ W0) (h_hif : Part.hif ∈ W0) (h_queues : Part.queues ∈ W0) (h_sor : Part.sor ∈ W0) (h_dma : Part.dma ∈ W0) (h_srf : Part.srf ∈ W0) (h_drc : Part.drc ∈ W0) (h_chn : Part.chn ∈ W0) (h_cmp : Part.cmp ∈ W0) (h_frt : Part.frt ∈ W0) (h_lnk : Part.lnk ∈ W0) (h_tim : Part.tim ∈ W0) (h_tan : Part.tan ∈ W0) (h_sec : Part.sec ∈ W0) (h_lmp : Part.lmp ∈ W0) (h_spk : Part.spk ∈ W0) (h_thm : Part.thm ∈ W0) (h_cal : Part.cal ∈ W0) (h_upd : Part.upd ∈ W0) (h_dram : Part.dram ∈ W0) (h_ring : Part.ring ∈ W0) (h_time : Part.time ∈ W0) (h_wraps : Part.wraps ∈ W0) (h_out : Part.out ∈ W0) (h_recov : Part.recov ∈ W0) {t0 : State} (h0 : Keeps W0 r0 s) (ht : execRailFault mask s = .next t0) :
    Keeps W0 r0 t0 := by
  unfold execRailFault at ht
  injection ht with ht
  subst ht
  repeat' first
    | with_reducible assumption
    | with_reducible apply railFault_keeps

theorem execRailWarn_keeps {W0 : List Part} {r0 : State} (x : RailSide) (s : State) (h_regs : Part.regs ∈ W0) (h_boot : Part.boot ∈ W0) (h_hif : Part.hif ∈ W0) (h_chn : Part.chn ∈ W0) (h_out : Part.out ∈ W0) {t0 : State} (h0 : Keeps W0 r0 s) (ht : execRailWarn x s = .next t0) :
    Keeps W0 r0 t0 := by
  unfold execRailWarn at ht
  injection ht with ht
  subst ht
  repeat' first
    | with_reducible assumption
    | with_reducible apply railWarn_keeps
    | split

theorem execVddAonApply_keeps {W0 : List Part} {r0 : State} (s : State) (h_regs : Part.regs ∈ W0) (h_boot : Part.boot ∈ W0) (h_upd : Part.upd ∈ W0) {t0 : State} (h0 : Keeps W0 r0 s) (ht : execVddAonApply s = .next t0) :
    Keeps W0 r0 t0 := by
  unfold execVddAonApply at ht
  injection ht with ht
  subst ht
  repeat' first
    | with_reducible assumption
    | with_reducible apply aonApply_keeps

theorem execPwronResetAssert_keeps {W0 : List Part} {r0 : State} (s : State) (h_regs : Part.regs ∈ W0) (h_boot : Part.boot ∈ W0) (h_hif : Part.hif ∈ W0) (h_queues : Part.queues ∈ W0) (h_sor : Part.sor ∈ W0) (h_dma : Part.dma ∈ W0) (h_srf : Part.srf ∈ W0) (h_drc : Part.drc ∈ W0) (h_chn : Part.chn ∈ W0) (h_cmp : Part.cmp ∈ W0) (h_frt : Part.frt ∈ W0) (h_lnk : Part.lnk ∈ W0) (h_tim : Part.tim ∈ W0) (h_tan : Part.tan ∈ W0) (h_sec : Part.sec ∈ W0) (h_lmp : Part.lmp ∈ W0) (h_spk : Part.spk ∈ W0) (h_thm : Part.thm ∈ W0) (h_cal : Part.cal ∈ W0) (h_upd : Part.upd ∈ W0) (h_dram : Part.dram ∈ W0) (h_ring : Part.ring ∈ W0) (h_time : Part.time ∈ W0) (h_wraps : Part.wraps ∈ W0) (h_out : Part.out ∈ W0) (h_recov : Part.recov ∈ W0) {t0 : State} (h0 : Keeps W0 r0 s) (ht : execPwronResetAssert s = .next t0) :
    Keeps W0 r0 t0 := by
  unfold execPwronResetAssert at ht
  injection ht with ht
  subst ht
  repeat' first
    | with_reducible assumption
    | with_reducible apply pwronAssert_keeps

theorem execColdResetRelease_keeps {W0 : List Part} {r0 : State} (sel : Nat) (uci : Bool) (s : State) (h_regs : Part.regs ∈ W0) (h_boot : Part.boot ∈ W0) (h_lnk : Part.lnk ∈ W0) (h_free : Part.free ∈ W0) {t0 : State} (h0 : Keeps W0 r0 s) (ht : execColdResetRelease sel uci s = .next t0) :
    Keeps W0 r0 t0 := by
  unfold execColdResetRelease at ht
  injection ht with ht
  subst ht
  repeat' first
    | with_reducible assumption
    | with_reducible apply coldRelease_keeps

theorem execWarmResetPin_keeps {W0 : List Part} {r0 : State} (s : State) (h_regs : Part.regs ∈ W0) (h_boot : Part.boot ∈ W0) (h_hif : Part.hif ∈ W0) (h_queues : Part.queues ∈ W0) (h_sor : Part.sor ∈ W0) (h_srf : Part.srf ∈ W0) (h_lmp : Part.lmp ∈ W0) (h_spk : Part.spk ∈ W0) (h_ring : Part.ring ∈ W0) (h_out : Part.out ∈ W0) {t0 : State} (h0 : Keeps W0 r0 s) (ht : execWarmResetPin s = .next t0) :
    Keeps W0 r0 t0 := by
  unfold execWarmResetPin at ht
  injection ht with ht
  subst ht
  repeat' first
    | with_reducible assumption
    | with_reducible apply warmRequest_keeps

theorem execWatchdogExpiry_keeps {W0 : List Part} {r0 : State} (s : State) (h_regs : Part.regs ∈ W0) (h_boot : Part.boot ∈ W0) (h_hif : Part.hif ∈ W0) (h_queues : Part.queues ∈ W0) (h_sor : Part.sor ∈ W0) (h_srf : Part.srf ∈ W0) (h_lmp : Part.lmp ∈ W0) (h_spk : Part.spk ∈ W0) (h_ring : Part.ring ∈ W0) (h_out : Part.out ∈ W0) {t0 : State} (h0 : Keeps W0 r0 s) (ht : execWatchdogExpiry s = .next t0) :
    Keeps W0 r0 t0 := by
  unfold execWatchdogExpiry at ht
  injection ht with ht
  subst ht
  repeat' first
    | with_reducible assumption
    | with_reducible apply warmRequest_keeps

theorem execWarmResetAssert_keeps {W0 : List Part} {r0 : State} (s : State) (h_regs : Part.regs ∈ W0) (h_boot : Part.boot ∈ W0) (h_hif : Part.hif ∈ W0) (h_queues : Part.queues ∈ W0) (h_sor : Part.sor ∈ W0) (h_dma : Part.dma ∈ W0) (h_srf : Part.srf ∈ W0) (h_drc : Part.drc ∈ W0) (h_chn : Part.chn ∈ W0) (h_cmp : Part.cmp ∈ W0) (h_frt : Part.frt ∈ W0) (h_lnk : Part.lnk ∈ W0) (h_tim : Part.tim ∈ W0) (h_tan : Part.tan ∈ W0) (h_sec : Part.sec ∈ W0) (h_lmp : Part.lmp ∈ W0) (h_spk : Part.spk ∈ W0) (h_thm : Part.thm ∈ W0) (h_cal : Part.cal ∈ W0) (h_upd : Part.upd ∈ W0) (h_dram : Part.dram ∈ W0) (h_ring : Part.ring ∈ W0) (h_time : Part.time ∈ W0) (h_wraps : Part.wraps ∈ W0) (h_out : Part.out ∈ W0) (h_free : Part.free ∈ W0) (h_fuses : Part.fuses ∈ W0) (h_flash : Part.flash ∈ W0) (h_recov : Part.recov ∈ W0) {t0 : State} (h0 : Keeps W0 r0 s) (ht : execWarmResetAssert s = .next t0) :
    Keeps W0 r0 t0 := by
  unfold execWarmResetAssert at ht
  injection ht with ht
  subst ht
  repeat' first
    | with_reducible assumption
    | with_reducible apply warmAssert_keeps
    | split

theorem execWarmResetRelease_keeps {W0 : List Part} {r0 : State} (s : State) (h_regs : Part.regs ∈ W0) (h_boot : Part.boot ∈ W0) {t0 : State} (h0 : Keeps W0 r0 s) (ht : execWarmResetRelease s = .next t0) :
    Keeps W0 r0 t0 := by
  unfold execWarmResetRelease at ht
  injection ht with ht
  subst ht
  repeat' first
    | with_reducible assumption
    | with_reducible apply warmRelease_keeps
    | split

theorem execHardwareTrip_keeps {W0 : List Part} {r0 : State} (k : Nat) (s : State) (h_regs : Part.regs ∈ W0) (h_boot : Part.boot ∈ W0) (h_hif : Part.hif ∈ W0) (h_queues : Part.queues ∈ W0) (h_sor : Part.sor ∈ W0) (h_dma : Part.dma ∈ W0) (h_srf : Part.srf ∈ W0) (h_drc : Part.drc ∈ W0) (h_chn : Part.chn ∈ W0) (h_cmp : Part.cmp ∈ W0) (h_frt : Part.frt ∈ W0) (h_lnk : Part.lnk ∈ W0) (h_tim : Part.tim ∈ W0) (h_tan : Part.tan ∈ W0) (h_sec : Part.sec ∈ W0) (h_lmp : Part.lmp ∈ W0) (h_spk : Part.spk ∈ W0) (h_thm : Part.thm ∈ W0) (h_cal : Part.cal ∈ W0) (h_upd : Part.upd ∈ W0) (h_dram : Part.dram ∈ W0) (h_ring : Part.ring ∈ W0) (h_time : Part.time ∈ W0) (h_wraps : Part.wraps ∈ W0) (h_out : Part.out ∈ W0) (h_recov : Part.recov ∈ W0) {t0 : State} (h0 : Keeps W0 r0 s) (ht : execHardwareTrip k s = .next t0) :
    Keeps W0 r0 t0 := by
  unfold execHardwareTrip at ht
  injection ht with ht
  subst ht
  repeat' first
    | with_reducible assumption
    | with_reducible apply hardwareTrip_keeps

theorem execRefClkLoss_keeps {W0 : List Part} {r0 : State} (s : State) (h_regs : Part.regs ∈ W0) (h_hif : Part.hif ∈ W0) (h_chn : Part.chn ∈ W0) (h_out : Part.out ∈ W0) {t0 : State} (h0 : Keeps W0 r0 s) (ht : execRefClkLoss s = .next t0) :
    Keeps W0 r0 t0 := by
  unfold execRefClkLoss at ht
  injection ht with ht
  subst ht
  repeat' first
    | with_reducible assumption
    | with_reducible apply refClkLoss_keeps

theorem execRefClkGood_keeps {W0 : List Part} {r0 : State} (s : State) (h_regs : Part.regs ∈ W0) {t0 : State} (h0 : Keeps W0 r0 s) (ht : execRefClkGood s = .next t0) :
    Keeps W0 r0 t0 := by
  unfold execRefClkGood at ht
  injection ht with ht
  subst ht
  repeat' first
    | with_reducible assumption
    | with_reducible apply refClkGood_keeps

theorem execPllUnlock_keeps {W0 : List Part} {r0 : State} (k : Nat) (s : State) (h_regs : Part.regs ∈ W0) {t0 : State} (h0 : Keeps W0 r0 s) (ht : execPllUnlock k s = .next t0) :
    Keeps W0 r0 t0 := by
  unfold execPllUnlock at ht
  injection ht with ht
  subst ht
  repeat' first
    | with_reducible assumption
    | with_reducible apply pllUnlock_keeps

theorem execPllStageDone_keeps {W0 : List Part} {r0 : State} (s : State) (h_regs : Part.regs ∈ W0) (h_boot : Part.boot ∈ W0) {t0 : State} (h0 : Keeps W0 r0 s) (ht : execPllStageDone s = .next t0) :
    Keeps W0 r0 t0 := by
  unfold execPllStageDone at ht
  injection ht with ht
  subst ht
  repeat' first
    | with_reducible assumption
    | with_reducible apply setF_keeps
    | with_reducible apply ucieOpen_keeps
    | with_reducible apply setBootStage_keeps
    | split
    | dsimp only

theorem execRomStageDone_keeps {W0 : List Part} {r0 : State} (s : State) (h_regs : Part.regs ∈ W0) (h_sec : Part.sec ∈ W0) {t0 : State} (h0 : Keeps W0 r0 s) (ht : execRomStageDone s = .next t0) :
    Keeps W0 r0 t0 := by
  unfold execRomStageDone at ht
  injection ht with ht
  subst ht
  repeat' first
    | with_reducible assumption
    | with_reducible apply romDone_keeps
    | split

theorem execFirstStageDone_keeps {W0 : List Part} {r0 : State} (o : FirstObs) (s : State) (h_regs : Part.regs ∈ W0) (h_boot : Part.boot ∈ W0) (h_hif : Part.hif ∈ W0) (h_chn : Part.chn ∈ W0) (h_tan : Part.tan ∈ W0) (h_sec : Part.sec ∈ W0) (h_upd : Part.upd ∈ W0) (h_out : Part.out ∈ W0) (h_free : Part.free ∈ W0) (h_flash : Part.flash ∈ W0) {t0 : State} (h0 : Keeps W0 r0 s) (ht : execFirstStageDone o s = .next t0) :
    Keeps W0 r0 t0 := by
  unfold execFirstStageDone at ht
  injection ht with ht
  subst ht
  repeat' first
    | with_reducible assumption
    | with_reducible apply firstDone_keeps
    | split

theorem execDramStageDone_keeps {W0 : List Part} {r0 : State} (l : List DramCh) (rates : Nat × Nat × Nat) (s : State) (h_regs : Part.regs ∈ W0) (h_boot : Part.boot ∈ W0) (h_drc : Part.drc ∈ W0) (h_cal : Part.cal ∈ W0) (h_dram : Part.dram ∈ W0) {t0 : State} (h0 : Keeps W0 r0 s) (ht : execDramStageDone l rates s = .next t0) :
    Keeps W0 r0 t0 := by
  unfold execDramStageDone at ht
  injection ht with ht
  subst ht
  repeat' first
    | with_reducible assumption
    | with_reducible apply dramDone_keeps
    | split

theorem execFirmwareStageDone_keeps {W0 : List Part} {r0 : State} (o : FwObs) (s : State) (h_regs : Part.regs ∈ W0) (h_boot : Part.boot ∈ W0) (h_hif : Part.hif ∈ W0) (h_queues : Part.queues ∈ W0) (h_sor : Part.sor ∈ W0) (h_srf : Part.srf ∈ W0) (h_lnk : Part.lnk ∈ W0) (h_sec : Part.sec ∈ W0) (h_lmp : Part.lmp ∈ W0) (h_spk : Part.spk ∈ W0) (h_cal : Part.cal ∈ W0) (h_upd : Part.upd ∈ W0) (h_ring : Part.ring ∈ W0) (h_out : Part.out ∈ W0) (h_free : Part.free ∈ W0) {t0 : State} (h0 : Keeps W0 r0 s) (ht : execFirmwareStageDone o s = .next t0) :
    Keeps W0 r0 t0 := by
  unfold execFirmwareStageDone at ht
  injection ht with ht
  subst ht
  repeat' first
    | with_reducible assumption
    | with_reducible apply firmwareDone_keeps
    | split

theorem execUcieAttemptEnd_keeps {W0 : List Part} {r0 : State} (dt : Nat) (mods : List (Option Nat)) (left : Bool) (ms : Nat) (s : State) (h_regs : Part.regs ∈ W0) (h_boot : Part.boot ∈ W0) (h_hif : Part.hif ∈ W0) (h_chn : Part.chn ∈ W0) (h_lnk : Part.lnk ∈ W0) (h_sec : Part.sec ∈ W0) (h_upd : Part.upd ∈ W0) (h_time : Part.time ∈ W0) (h_wraps : Part.wraps ∈ W0) (h_up : Part.up ∈ W0) (h_out : Part.out ∈ W0) (h_fuses : Part.fuses ∈ W0) {t0 : State} (h0 : Keeps W0 r0 s) (ht : execUcieAttemptEnd dt mods left ms s = .next t0) :
    Keeps W0 r0 t0 := by
  unfold execUcieAttemptEnd at ht
  apply whenOn_keeps (ht := ht)
  repeat' first
    | with_reducible assumption
    | with_reducible apply advance_keeps
    | with_reducible apply ucieAttemptEnd_keeps
    | split
    | dsimp only
    | intro _

theorem execUcieBackoffEnd_keeps {W0 : List Part} {r0 : State} (dt : Nat) (s : State) (h_regs : Part.regs ∈ W0) (h_boot : Part.boot ∈ W0) (h_hif : Part.hif ∈ W0) (h_chn : Part.chn ∈ W0) (h_time : Part.time ∈ W0) (h_wraps : Part.wraps ∈ W0) (h_up : Part.up ∈ W0) (h_out : Part.out ∈ W0) {t0 : State} (h0 : Keeps W0 r0 s) (ht : execUcieBackoffEnd dt s = .next t0) :
    Keeps W0 r0 t0 := by
  unfold execUcieBackoffEnd at ht
  apply whenOn_keeps (ht := ht)
  repeat' first
    | with_reducible assumption
    | with_reducible apply advance_keeps
    | with_reducible apply ucieStart_keeps
    | split
    | dsimp only
    | intro _

theorem execBootHoldRetry_keeps {W0 : List Part} {r0 : State} (dt : Nat) (s : State) (h_regs : Part.regs ∈ W0) (h_boot : Part.boot ∈ W0) (h_hif : Part.hif ∈ W0) (h_chn : Part.chn ∈ W0) (h_time : Part.time ∈ W0) (h_wraps : Part.wraps ∈ W0) (h_up : Part.up ∈ W0) (h_out : Part.out ∈ W0) {t0 : State} (h0 : Keeps W0 r0 s) (ht : execBootHoldRetry dt s = .next t0) :
    Keeps W0 r0 t0 := by
  unfold execBootHoldRetry at ht
  apply whenOn_keeps (ht := ht)
  repeat' first
    | with_reducible assumption
    | with_reducible apply advance_keeps
    | with_reducible apply ucieOpen_keeps
    | split
    | dsimp only
    | intro _

theorem execHifLinkLoss_keeps {W0 : List Part} {r0 : State} (s : State) (h_regs : Part.regs ∈ W0) (h_boot : Part.boot ∈ W0) (h_hif : Part.hif ∈ W0) (h_queues : Part.queues ∈ W0) (h_sor : Part.sor ∈ W0) (h_dma : Part.dma ∈ W0) (h_srf : Part.srf ∈ W0) (h_drc : Part.drc ∈ W0) (h_chn : Part.chn ∈ W0) (h_dram : Part.dram ∈ W0) (h_ring : Part.ring ∈ W0) (h_out : Part.out ∈ W0) (h_free : Part.free ∈ W0) {t0 : State} (h0 : Keeps W0 r0 s) (ht : execHifLinkLoss s = .next t0) :
    Keeps W0 r0 t0 := by
  unfold execHifLinkLoss at ht
  apply whenOn_keeps (ht := ht)
  repeat' first
    | with_reducible assumption
    | with_reducible apply linkLoss_keeps
    | split
    | dsimp only
    | intro _

theorem execHifRetryTimer_keeps {W0 : List Part} {r0 : State} (dt : Nat) (s : State) (h_regs : Part.regs ∈ W0) (h_boot : Part.boot ∈ W0) (h_hif : Part.hif ∈ W0) (h_chn : Part.chn ∈ W0) (h_time : Part.time ∈ W0) (h_wraps : Part.wraps ∈ W0) (h_up : Part.up ∈ W0) (h_out : Part.out ∈ W0) {t0 : State} (h0 : Keeps W0 r0 s) (ht : execHifRetryTimer dt s = .next t0) :
    Keeps W0 r0 t0 := by
  unfold execHifRetryTimer at ht
  apply whenOn_keeps (ht := ht)
  repeat' first
    | with_reducible assumption
    | with_reducible apply advance_keeps
    | with_reducible apply ucieStart_keeps
    | split
    | dsimp only
    | intro _

theorem execBmeChange_keeps {W0 : List Part} {r0 : State} (x : BusCtl) (s : State) (h_regs : Part.regs ∈ W0) (h_hif : Part.hif ∈ W0) (h_queues : Part.queues ∈ W0) (h_sor : Part.sor ∈ W0) (h_dma : Part.dma ∈ W0) (h_srf : Part.srf ∈ W0) (h_drc : Part.drc ∈ W0) (h_chn : Part.chn ∈ W0) (h_dram : Part.dram ∈ W0) (h_ring : Part.ring ∈ W0) (h_out : Part.out ∈ W0) (h_free : Part.free ∈ W0) {t0 : State} (h0 : Keeps W0 r0 s) (ht : execBmeChange x s = .next t0) :
    Keeps W0 r0 t0 := by
  unfold execBmeChange at ht
  apply whenOn_keeps (ht := ht)
  repeat' first
    | with_reducible assumption
    | with_reducible apply bmeChange_keeps
    | split
    | dsimp only
    | intro _

theorem execMsixUnmask_keeps {W0 : List Part} {r0 : State} (u : Unmask) (s : State) (h_regs : Part.regs ∈ W0) (h_hif : Part.hif ∈ W0) (h_out : Part.out ∈ W0) {t0 : State} (h0 : Keeps W0 r0 s) (ht : execMsixUnmask u s = .next t0) :
    Keeps W0 r0 t0 := by
  unfold execMsixUnmask at ht
  apply whenOn_keeps (ht := ht)
  repeat' first
    | with_reducible assumption
    | with_reducible apply msixUnmask_keeps
    | split
    | dsimp only
    | intro _

theorem execPcieD3hotChange_keeps {W0 : List Part} {r0 : State} (b : Bool) (s : State) (h_hif : Part.hif ∈ W0) {t0 : State} (h0 : Keeps W0 r0 s) (ht : execPcieD3hotChange b s = .next t0) :
    Keeps W0 r0 t0 := by
  unfold execPcieD3hotChange at ht
  apply whenOn_keeps (ht := ht)
  repeat' first
    | with_reducible assumption
    | simp only [Keeps.hif, h_hif]
    | split
    | dsimp only
    | intro _

end Sys2Proof.Machine
end

