-- ==== Sys2Proof/Laws/KeepRegWrite.lean ====
section
/-! SUPPORT. What each operation of Machine/RegWrite.lean touches. -/

namespace Sys2Proof.Machine

theorem storeReg_keeps {W0 : List Part} {r0 : State} (s : State) (off : Nat) (v : Word) (h_regs : Part.regs ∈ W0) (h_cmp : Part.cmp ∈ W0) (h0 : Keeps W0 r0 s) :
    Keeps W0 r0 (storeReg s off v) := by
  unfold storeReg
  repeat' first
    | with_reducible assumption
    | simp only [Keeps.cmp, h_cmp]
    | with_reducible apply setWord_keeps
    | split

theorem dbgBlockReset_keeps {W0 : List Part} {r0 : State} (s : State) (h_sec : Part.sec ∈ W0) (h0 : Keeps W0 r0 s) :
    Keeps W0 r0 (dbgBlockReset s) := by
  unfold dbgBlockReset
  repeat' first
    | with_reducible assumption
    | simp only [Keeps.sec, h_sec]

theorem blockHeld_keeps {W0 : List Part} {r0 : State} (s : State) (k : Nat) (h_regs : Part.regs ∈ W0) (h_boot : Part.boot ∈ W0) (h0 : Keeps W0 r0 s) :
    Keeps W0 r0 (blockHeld s k) := by
  unfold blockHeld
  repeat' first
    | with_reducible assumption
    | simp only [Keeps.boot, h_boot]
    | with_reducible apply setBitF_keeps

theorem Keeps.ite {W : List Part} {r a b : State} {c : Prop} [Decidable c] (ha : Keeps W r a) (hb : Keeps W r b) :
    Keeps W r (if c then a else b) := by
  split
  · exact ha
  · exact hb

theorem blockReset_keeps {W0 : List Part} {r0 : State} (s : State) (k : Nat) (h_regs : Part.regs ∈ W0) (h_boot : Part.boot ∈ W0) (h_hif : Part.hif ∈ W0) (h_queues : Part.queues ∈ W0) (h_sor : Part.sor ∈ W0) (h_dma : Part.dma ∈ W0) (h_srf : Part.srf ∈ W0) (h_drc : Part.drc ∈ W0) (h_chn : Part.chn ∈ W0) (h_cmp : Part.cmp ∈ W0) (h_frt : Part.frt ∈ W0) (h_lnk : Part.lnk ∈ W0) (h_tim : Part.tim ∈ W0) (h_tan : Part.tan ∈ W0) (h_sec : Part.sec ∈ W0) (h_lmp : Part.lmp ∈ W0) (h_spk : Part.spk ∈ W0) (h_cal : Part.cal ∈ W0) (h_ring : Part.ring ∈ W0) (h_out : Part.out ∈ W0) (h_free : Part.free ∈ W0) (h0 : Keeps W0 r0 s) :
    Keeps W0 r0 (blockReset s k) := by
  unfold blockReset
  have h1 : Keeps W0 r0 (blockHeld s k) := by
    with_reducible apply blockHeld_keeps <;> with_reducible assumption
  generalize blockHeld s k = t at h1
  dsimp only
  with_reducible refine Keeps.ite (by with_reducible apply queBlockReset_keeps <;> with_reducible assumption) ?_
  with_reducible refine Keeps.ite (by with_reducible apply dmaBlockReset_keeps <;> with_reducible assumption) ?_
  with_reducible refine Keeps.ite (by with_reducible apply sorBlockReset_keeps <;> with_reducible assumption) ?_
  with_reducible refine Keeps.ite (by with_reducible apply srfBlockReset_keeps <;> with_reducible assumption) ?_
  with_reducible refine Keeps.ite (by with_reducible apply cmpBlockReset_keeps <;> with_reducible assumption) ?_
  with_reducible refine Keeps.ite (by with_reducible apply frtBlockReset_keeps <;> with_reducible assumption) ?_
  with_reducible refine Keeps.ite (by with_reducible apply chnBlockReset_keeps <;> with_reducible assumption) ?_
  with_reducible refine Keeps.ite (by with_reducible apply lnkBlockReset_keeps <;> with_reducible assumption) ?_
  with_reducible refine Keeps.ite (by with_reducible apply timBlockReset_keeps <;> with_reducible assumption) ?_
  with_reducible refine Keeps.ite (by with_reducible apply tanBlockReset_keeps <;> with_reducible assumption) ?_
  with_reducible refine Keeps.ite (by with_reducible apply lmpBlockReset_keeps <;> with_reducible assumption) ?_
  with_reducible refine Keeps.ite (by with_reducible apply spkBlockReset_keeps <;> with_reducible assumption) ?_
  with_reducible refine Keeps.ite (by with_reducible apply calBlockReset_keeps <;> with_reducible assumption) ?_
  with_reducible refine Keeps.ite (by with_reducible apply dbgBlockReset_keeps <;> with_reducible assumption) ?_
  exact h1

theorem lmpResetEnd_keeps {W0 : List Part} {r0 : State} (s : State) (h_regs : Part.regs ∈ W0) (h_spk : Part.spk ∈ W0) (h_out : Part.out ∈ W0) (h0 : Keeps W0 r0 s) :
    Keeps W0 r0 (lmpResetEnd s) := by
  unfold lmpResetEnd
  repeat' first
    | with_reducible assumption
    | with_reducible apply spkEnable_keeps
    | split

theorem blockResetEnd_keeps {W0 : List Part} {r0 : State} (s : State) (k : Nat) (h_regs : Part.regs ∈ W0) (h_chn : Part.chn ∈ W0) (h_lnk : Part.lnk ∈ W0) (h_tim : Part.tim ∈ W0) (h_spk : Part.spk ∈ W0) (h_cal : Part.cal ∈ W0) (h_out : Part.out ∈ W0) (h0 : Keeps W0 r0 s) :
    Keeps W0 r0 (blockResetEnd s k) := by
  unfold blockResetEnd
  repeat' first
    | with_reducible assumption
    | with_reducible apply setBitF_keeps
    | with_reducible apply timResetEnd_keeps
    | with_reducible apply tanResetEnd_keeps
    | with_reducible apply calTimer_keeps
    | with_reducible apply startPorts_keeps
    | with_reducible apply lmpResetEnd_keeps
    | split
    | dsimp only

theorem onReg_keeps {W0 : List Part} {r0 : State} (s : State) (r : Nat → Nat) (n : Nat) (off : Nat) (f : Nat → State) (h_f : ∀ (x0 : Nat), Keeps W0 r0 (f x0)) (h0 : Keeps W0 r0 s) :
    Keeps W0 r0 (onReg s r n off f) := by
  unfold onReg
  repeat' first
    | with_reducible assumption
    | with_reducible apply h_f
    | split

theorem effectGlb_keeps {W0 : List Part} {r0 : State} (s0 : State) (s : State) (off : Nat) (v : Word) (h_regs : Part.regs ∈ W0) (h_boot : Part.boot ∈ W0) (h_hif : Part.hif ∈ W0) (h_queues : Part.queues ∈ W0) (h_sor : Part.sor ∈ W0) (h_dma : Part.dma ∈ W0) (h_srf : Part.srf ∈ W0) (h_drc : Part.drc ∈ W0) (h_chn : Part.chn ∈ W0) (h_cmp : Part.cmp ∈ W0) (h_frt : Part.frt ∈ W0) (h_lnk : Part.lnk ∈ W0) (h_tim : Part.tim ∈ W0) (h_tan : Part.tan ∈ W0) (h_sec : Part.sec ∈ W0) (h_lmp : Part.lmp ∈ W0) (h_spk : Part.spk ∈ W0) (h_cal : Part.cal ∈ W0) (h_ring : Part.ring ∈ W0) (h_out : Part.out ∈ W0) (h_free : Part.free ∈ W0) (h0 : Keeps W0 r0 s) :
    Keeps W0 r0 (effectGlb s0 s off v) := by
  unfold effectGlb
  repeat' first
    | with_reducible assumption
    | with_reducible apply clearErrors_keeps
    | with_reducible apply warmRequest_keeps
    | with_reducible apply blockReset_keeps
    | with_reducible apply Keeps.foldl
    | with_reducible apply Keeps.snd
    | with_reducible apply Keeps.snd2
    | with_reducible apply Keeps.fst
    | with_reducible apply Keeps.foldl_snd
    | with_reducible apply Keeps.foldl_snd2
    | with_reducible apply Keeps.foldl_fst
    | with_reducible refine Keeps.of_fst (by with_reducible assumption) ?_
    | with_reducible refine Keeps.of_snd (by with_reducible assumption) ?_
    | with_reducible refine Keeps.of_snd2 (by with_reducible assumption) ?_
    | split
    | dsimp only
    | intro _

theorem effectQue_keeps {W0 : List Part} {r0 : State} (s0 : State) (s : State) (off : Nat) (v : Word) (h_regs : Part.regs ∈ W0) (h_hif : Part.hif ∈ W0) (h_queues : Part.queues ∈ W0) (h_out : Part.out ∈ W0) (h0 : Keeps W0 r0 s) :
    Keeps W0 r0 (effectQue s0 s off v) := by
  unfold effectQue
  repeat' first
    | with_reducible assumption
    | with_reducible apply queueEnable_keeps
    | with_reducible apply queueDisable_keeps
    | with_reducible apply queueStop_keeps
    | with_reducible apply queueResume_keeps
    | with_reducible apply onReg_keeps
    | split
    | dsimp only
    | intro _

theorem effectSor_keeps {W0 : List Part} {r0 : State} (s0 : State) (s : State) (off : Nat) (v : Word) (h_regs : Part.regs ∈ W0) (h_hif : Part.hif ∈ W0) (h_sor : Part.sor ∈ W0) (h_out : Part.out ∈ W0) (h0 : Keeps W0 r0 s) :
    Keeps W0 r0 (effectSor s0 s off v) := by
  unfold effectSor
  repeat' first
    | with_reducible assumption
    | simp only [Keeps.sor, h_sor]
    | with_reducible apply setF_keeps
    | with_reducible apply forgetLast_keeps
    | with_reducible apply slotNext_keeps
    | with_reducible apply onReg_keeps
    | split
    | dsimp only
    | intro _

theorem effectFrt_keeps {W0 : List Part} {r0 : State} (s0 : State) (s : State) (off : Nat) (v : Word) (h_regs : Part.regs ∈ W0) (h_hif : Part.hif ∈ W0) (h_queues : Part.queues ∈ W0) (h_sor : Part.sor ∈ W0) (h_srf : Part.srf ∈ W0) (h_drc : Part.drc ∈ W0) (h_chn : Part.chn ∈ W0) (h_cmp : Part.cmp ∈ W0) (h_frt : Part.frt ∈ W0) (h_tim : Part.tim ∈ W0) (h_tan : Part.tan ∈ W0) (h_sec : Part.sec ∈ W0) (h_ring : Part.ring ∈ W0) (h_out : Part.out ∈ W0) (h_free : Part.free ∈ W0) (h0 : Keeps W0 r0 s) :
    Keeps W0 r0 (effectFrt s0 s off v) := by
  unfold effectFrt
  repeat' first
    | with_reducible assumption
    | with_reducible apply setF_keeps
    | with_reducible apply commit_keeps
    | with_reducible apply frtEnable_keeps
    | with_reducible apply frtDisable_keeps
    | split

theorem effectLnk_keeps {W0 : List Part} {r0 : State} (s0 : State) (s : State) (off : Nat) (v : Word) (h_regs : Part.regs ∈ W0) (h_hif : Part.hif ∈ W0) (h_chn : Part.chn ∈ W0) (h_lnk : Part.lnk ∈ W0) (h_tan : Part.tan ∈ W0) (h_cal : Part.cal ∈ W0) (h_out : Part.out ∈ W0) (h0 : Keeps W0 r0 s) :
    Keeps W0 r0 (effectLnk s0 s off v) := by
  unfold effectLnk
  repeat' first
    | with_reducible assumption
    | with_reducible apply setWord_keeps
    | with_reducible apply injSettle_keeps
    | with_reducible apply portControl_keeps
    | with_reducible apply laneControl_keeps
    | with_reducible apply onReg_keeps
    | split
    | dsimp only
    | intro _

theorem effectTim_keeps {W0 : List Part} {r0 : State} (s0 : State) (s : State) (off : Nat) (v : Word) (h_regs : Part.regs ∈ W0) (h_hif : Part.hif ∈ W0) (h_sor : Part.sor ∈ W0) (h_chn : Part.chn ∈ W0) (h_tim : Part.tim ∈ W0) (h_tan : Part.tan ∈ W0) (h_lmp : Part.lmp ∈ W0) (h_time : Part.time ∈ W0) (h_wraps : Part.wraps ∈ W0) (h_out : Part.out ∈ W0) (h0 : Keeps W0 r0 s) :
    Keeps W0 r0 (effectTim s0 s off v) := by
  unfold effectTim
  repeat' first
    | with_reducible assumption
    | with_reducible apply setF_keeps
    | with_reducible apply genShow_keeps
    | with_reducible apply genEnable_keeps
    | with_reducible apply genStop_keeps
    | with_reducible apply genLast_keeps
    | with_reducible apply stepTime_keeps
    | with_reducible apply setServo_keeps
    | with_reducible apply capStart_keeps
    | with_reducible apply onReg_keeps
    | split
    | dsimp only
    | intro _

theorem effectTan_keeps {W0 : List Part} {r0 : State} (s0 : State) (s : State) (off : Nat) (v : Word) (h_regs : Part.regs ∈ W0) (h_hif : Part.hif ∈ W0) (h_queues : Part.queues ∈ W0) (h_sor : Part.sor ∈ W0) (h_chn : Part.chn ∈ W0) (h_tim : Part.tim ∈ W0) (h_tan : Part.tan ∈ W0) (h_ring : Part.ring ∈ W0) (h_out : Part.out ∈ W0) (h0 : Keeps W0 r0 s) :
    Keeps W0 r0 (effectTan s0 s off v) := by
  unfold effectTan
  repeat' first
    | with_reducible assumption
    | with_reducible apply holdCheck_keeps
    | with_reducible apply takeover_keeps
    | with_reducible apply tanEnable_keeps
    | with_reducible apply tanDisable_keeps
    | with_reducible apply renum_keeps
    | split

theorem effectLmp_keeps {W0 : List Part} {r0 : State} (s0 : State) (s : State) (off : Nat) (v : Word) (h_regs : Part.regs ∈ W0) (h_hif : Part.hif ∈ W0) (h_queues : Part.queues ∈ W0) (h_sor : Part.sor ∈ W0) (h_srf : Part.srf ∈ W0) (h_lmp : Part.lmp ∈ W0) (h_spk : Part.spk ∈ W0) (h_ring : Part.ring ∈ W0) (h_out : Part.out ∈ W0) (h0 : Keeps W0 r0 s) :
    Keeps W0 r0 (effectLmp s0 s off v) := by
  unfold effectLmp
  repeat' first
    | with_reducible assumption
    | with_reducible apply lampDrop_keeps
    | with_reducible apply dimArm_keeps
    | with_reducible apply lmpEnable_keeps
    | with_reducible apply lmpDisable_keeps
    | split

theorem effectSpk_keeps {W0 : List Part} {r0 : State} (s0 : State) (s : State) (off : Nat) (v : Word) (h_regs : Part.regs ∈ W0) (h_hif : Part.hif ∈ W0) (h_srf : Part.srf ∈ W0) (h_drc : Part.drc ∈ W0) (h_chn : Part.chn ∈ W0) (h_spk : Part.spk ∈ W0) (h_out : Part.out ∈ W0) (h_free : Part.free ∈ W0) (h0 : Keeps W0 r0 s) :
    Keeps W0 r0 (effectSpk s0 s off v) := by
  unfold effectSpk
  repeat' first
    | with_reducible assumption
    | with_reducible apply spkEnable_keeps
    | with_reducible apply spkDisable_keeps
    | with_reducible apply spkReload_keeps
    | with_reducible apply faultClear_keeps
    | split

theorem effectThm_keeps {W0 : List Part} {r0 : State} (s : State) (off : Nat) (h_regs : Part.regs ∈ W0) (h_hif : Part.hif ∈ W0) (h_queues : Part.queues ∈ W0) (h_sor : Part.sor ∈ W0) (h_srf : Part.srf ∈ W0) (h_drc : Part.drc ∈ W0) (h_chn : Part.chn ∈ W0) (h_cmp : Part.cmp ∈ W0) (h_lnk : Part.lnk ∈ W0) (h_tan : Part.tan ∈ W0) (h_sec : Part.sec ∈ W0) (h_lmp : Part.lmp ∈ W0) (h_spk : Part.spk ∈ W0) (h_thm : Part.thm ∈ W0) (h_cal : Part.cal ∈ W0) (h_ring : Part.ring ∈ W0) (h_out : Part.out ∈ W0) (h_free : Part.free ∈ W0) (h0 : Keeps W0 r0 s) :
    Keeps W0 r0 (effectThm s off) := by
  unfold effectThm
  repeat' first
    | with_reducible assumption
    | with_reducible apply thmEval_keeps
    | with_reducible apply powerRequest_keeps
    | split

theorem effectCal_keeps {W0 : List Part} {r0 : State} (s0 : State) (s : State) (off : Nat) (v : Word) (h_regs : Part.regs ∈ W0) (h_lnk : Part.lnk ∈ W0) (h_tim : Part.tim ∈ W0) (h_cal : Part.cal ∈ W0) (h_out : Part.out ∈ W0) (h_free : Part.free ∈ W0) (h0 : Keeps W0 r0 s) :
    Keeps W0 r0 (effectCal s0 s off v) := by
  unfold effectCal
  repeat' first
    | with_reducible assumption
    | with_reducible apply calManual_keeps
    | with_reducible apply calDisable_keeps
    | split

theorem effectUpd_keeps {W0 : List Part} {r0 : State} (s : State) (off : Nat) (v : Word) (h_regs : Part.regs ∈ W0) (h_hif : Part.hif ∈ W0) (h_queues : Part.queues ∈ W0) (h_sor : Part.sor ∈ W0) (h_chn : Part.chn ∈ W0) (h_tan : Part.tan ∈ W0) (h_sec : Part.sec ∈ W0) (h_upd : Part.upd ∈ W0) (h_ring : Part.ring ∈ W0) (h_out : Part.out ∈ W0) (h0 : Keeps W0 r0 s) :
    Keeps W0 r0 (effectUpd s off v) := by
  unfold effectUpd
  repeat' first
    | with_reducible assumption
    | with_reducible apply abandon_keeps
    | with_reducible apply hostConfirm_keeps
    | with_reducible apply recoveryGo_keeps
    | split

theorem regEffect_keeps {W0 : List Part} {r0 : State} (s0 : State) (s : State) (off : Nat) (v : Word) (h_regs : Part.regs ∈ W0) (h_boot : Part.boot ∈ W0) (h_hif : Part.hif ∈ W0) (h_queues : Part.queues ∈ W0) (h_sor : Part.sor ∈ W0) (h_dma : Part.dma ∈ W0) (h_srf : Part.srf ∈ W0) (h_drc : Part.drc ∈ W0) (h_chn : Part.chn ∈ W0) (h_cmp : Part.cmp ∈ W0) (h_frt : Part.frt ∈ W0) (h_lnk : Part.lnk ∈ W0) (h_tim : Part.tim ∈ W0) (h_tan : Part.tan ∈ W0) (h_sec : Part.sec ∈ W0) (h_lmp : Part.lmp ∈ W0) (h_spk : Part.spk ∈ W0) (h_thm : Part.thm ∈ W0) (h_cal : Part.cal ∈ W0) (h_upd : Part.upd ∈ W0) (h_dram : Part.dram ∈ W0) (h_ring : Part.ring ∈ W0) (h_time : Part.time ∈ W0) (h_wraps : Part.wraps ∈ W0) (h_out : Part.out ∈ W0) (h_free : Part.free ∈ W0) (h0 : Keeps W0 r0 s) :
    Keeps W0 r0 (regEffect s0 s off v) := by
  unfold regEffect
  repeat' first
    | with_reducible assumption
    | with_reducible apply setWord_keeps
    | with_reducible apply engineStop_keeps
    | with_reducible apply srfEnable_keeps
    | with_reducible apply dmaShow_keeps
    | with_reducible apply chanConfig_keeps
    | with_reducible apply freqGo_keeps
    | with_reducible apply linkRetrain_keeps
    | with_reducible apply onReg_keeps
    | with_reducible apply effectGlb_keeps
    | with_reducible apply effectQue_keeps
    | with_reducible apply effectSor_keeps
    | with_reducible apply effectFrt_keeps
    | with_reducible apply effectLnk_keeps
    | with_reducible apply effectTim_keeps
    | with_reducible apply effectTan_keeps
    | with_reducible apply effectLmp_keeps
    | with_reducible apply effectSpk_keeps
    | with_reducible apply effectThm_keeps
    | with_reducible apply effectCal_keeps
    | with_reducible apply effectUpd_keeps
    | split
    | dsimp only
    | intro _

theorem recovWr_keeps {W0 : List Part} {r0 : State} (s : State) (a : Nat) (v : Word) (h_upd : Part.upd ∈ W0)
    (h_recov : Part.recov ∈ W0) (h0 : Keeps W0 r0 s) : Keeps W0 r0 (recovWr s a v) := by
  refine h0.leaf rfl (fun hw => ?_)
    (fun p hp => by cases p <;> first | rfl | exact absurd h_upd hp | exact absurd h_recov hp)
  simp only [State.wf, recovWr, Bool.and_eq_true] at hw ⊢
  exact ⟨⟨⟨⟨hw.1.1.1.1, hw.1.1.1.2⟩, hw.1.1.2⟩, hw.1.2⟩, tcanon_wrBytes a _ hw.2⟩

theorem regWrite_keeps {W0 : List Part} {r0 : State} (s : State) (src : Nat) (off : Nat) (v : Word) (h_regs : Part.regs ∈ W0) (h_boot : Part.boot ∈ W0) (h_hif : Part.hif ∈ W0) (h_queues : Part.queues ∈ W0) (h_sor : Part.sor ∈ W0) (h_dma : Part.dma ∈ W0) (h_srf : Part.srf ∈ W0) (h_drc : Part.drc ∈ W0) (h_chn : Part.chn ∈ W0) (h_cmp : Part.cmp ∈ W0) (h_frt : Part.frt ∈ W0) (h_lnk : Part.lnk ∈ W0) (h_tim : Part.tim ∈ W0) (h_tan : Part.tan ∈ W0) (h_sec : Part.sec ∈ W0) (h_lmp : Part.lmp ∈ W0) (h_spk : Part.spk ∈ W0) (h_thm : Part.thm ∈ W0) (h_cal : Part.cal ∈ W0) (h_upd : Part.upd ∈ W0) (h_dram : Part.dram ∈ W0) (h_ring : Part.ring ∈ W0) (h_time : Part.time ∈ W0) (h_wraps : Part.wraps ∈ W0) (h_out : Part.out ∈ W0) (h_free : Part.free ∈ W0) (h_recov : Part.recov ∈ W0) (h0 : Keeps W0 r0 s) :
    Keeps W0 r0 (regWrite s src off v).2 := by
  unfold regWrite
  repeat' first
    | with_reducible assumption
    | with_reducible apply setMsixWord_keeps
    | with_reducible apply logError_keeps
    | with_reducible apply sendPending_keeps
    | with_reducible apply storeReg_keeps
    | with_reducible apply regEffect_keeps
    | with_reducible apply recovWr_keeps
    | split

theorem hostWrite_keeps {W0 : List Part} {r0 : State} (s : State) (off : Nat) (v : Word) (h_regs : Part.regs ∈ W0) (h_boot : Part.boot ∈ W0) (h_hif : Part.hif ∈ W0) (h_queues : Part.queues ∈ W0) (h_sor : Part.sor ∈ W0) (h_dma : Part.dma ∈ W0) (h_srf : Part.srf ∈ W0) (h_drc : Part.drc ∈ W0) (h_chn : Part.chn ∈ W0) (h_cmp : Part.cmp ∈ W0) (h_frt : Part.frt ∈ W0) (h_lnk : Part.lnk ∈ W0) (h_tim : Part.tim ∈ W0) (h_tan : Part.tan ∈ W0) (h_sec : Part.sec ∈ W0) (h_lmp : Part.lmp ∈ W0) (h_spk : Part.spk ∈ W0) (h_thm : Part.thm ∈ W0) (h_cal : Part.cal ∈ W0) (h_upd : Part.upd ∈ W0) (h_dram : Part.dram ∈ W0) (h_ring : Part.ring ∈ W0) (h_time : Part.time ∈ W0) (h_wraps : Part.wraps ∈ W0) (h_out : Part.out ∈ W0) (h_free : Part.free ∈ W0) (h_recov : Part.recov ∈ W0) (h0 : Keeps W0 r0 s) :
    Keeps W0 r0 (hostWrite s off v) := by
  unfold hostWrite
  repeat' first
    | with_reducible assumption
    | with_reducible apply regWrite_keeps
    | split

theorem barWrite_keeps {W0 : List Part} {r0 : State} (s : State) (size : Nat) (off : Nat) (v : Nat) (h_regs : Part.regs ∈ W0) (h_boot : Part.boot ∈ W0) (h_hif : Part.hif ∈ W0) (h_queues : Part.queues ∈ W0) (h_sor : Part.sor ∈ W0) (h_dma : Part.dma ∈ W0) (h_srf : Part.srf ∈ W0) (h_drc : Part.drc ∈ W0) (h_chn : Part.chn ∈ W0) (h_cmp : Part.cmp ∈ W0) (h_frt : Part.frt ∈ W0) (h_lnk : Part.lnk ∈ W0) (h_tim : Part.tim ∈ W0) (h_tan : Part.tan ∈ W0) (h_sec : Part.sec ∈ W0) (h_lmp : Part.lmp ∈ W0) (h_spk : Part.spk ∈ W0) (h_thm : Part.thm ∈ W0) (h_cal : Part.cal ∈ W0) (h_upd : Part.upd ∈ W0) (h_dram : Part.dram ∈ W0) (h_ring : Part.ring ∈ W0) (h_time : Part.time ∈ W0) (h_wraps : Part.wraps ∈ W0) (h_out : Part.out ∈ W0) (h_free : Part.free ∈ W0) (h_recov : Part.recov ∈ W0) (h0 : Keeps W0 r0 s) :
    Keeps W0 r0 (barWrite s size off v) := by
  unfold barWrite
  repeat' first
    | with_reducible assumption
    | with_reducible apply logError_keeps
    | with_reducible apply hostWrite_keeps
    | split

theorem eventRead_keeps {W0 : List Part} {r0 : State} (s : State) (h_regs : Part.regs ∈ W0) (h_hif : Part.hif ∈ W0) (h0 : Keeps W0 r0 s) :
    Keeps W0 r0 (eventRead s).2 := by
  unfold eventRead
  repeat' first
    | with_reducible assumption
    | simp only [Keeps.hif, h_hif]
    | with_reducible apply setWord_keeps
    | split

theorem nowRead_keeps {W0 : List Part} {r0 : State} (s : State) (h_regs : Part.regs ∈ W0) (h0 : Keeps W0 r0 s) :
    Keeps W0 r0 (nowRead s).2 := by
  unfold nowRead
  repeat' first
    | with_reducible assumption
    | with_reducible apply setWord_keeps

theorem bytesRead_keeps {W0 : List Part} {r0 : State} (s : State) (c : Nat) (h_regs : Part.regs ∈ W0) (h0 : Keeps W0 r0 s) :
    Keeps W0 r0 (bytesRead s c).2 := by
  unfold bytesRead
  repeat' first
    | with_reducible assumption
    | with_reducible apply setWord_keeps

theorem regRead_keeps {W0 : List Part} {r0 : State} (s : State) (off : Nat) (h_regs : Part.regs ∈ W0) (h_hif : Part.hif ∈ W0) (h_tim : Part.tim ∈ W0) (h_sec : Part.sec ∈ W0) (h_free : Part.free ∈ W0) (h0 : Keeps W0 r0 s) :
    Keeps W0 r0 (regRead s off).2 := by
  unfold regRead
  repeat' first
    | with_reducible assumption
    | with_reducible apply capRead_keeps
    | with_reducible apply drawNonce_keeps
    | with_reducible apply eventRead_keeps
    | with_reducible apply nowRead_keeps
    | with_reducible apply bytesRead_keeps
    | with_reducible refine Keeps.of_snd (by with_reducible assumption) ?_
    | with_reducible refine Keeps.of_snd2 (by with_reducible assumption) ?_
    | split

theorem hostRead_keeps {W0 : List Part} {r0 : State} (s : State) (off : Nat) (h_regs : Part.regs ∈ W0) (h_hif : Part.hif ∈ W0) (h_tim : Part.tim ∈ W0) (h_sec : Part.sec ∈ W0) (h_out : Part.out ∈ W0) (h_free : Part.free ∈ W0) (h0 : Keeps W0 r0 s) :
    Keeps W0 r0 (hostRead s off) := by
  unfold hostRead
  repeat' first
    | with_reducible assumption
    | with_reducible apply emit_keeps
    | with_reducible apply regRead_keeps
    | with_reducible refine Keeps.of_snd (by with_reducible assumption) ?_
    | with_reducible refine Keeps.of_snd2 (by with_reducible assumption) ?_
    | split

end Sys2Proof.Machine
end

