-- ==== Sys2Proof/Laws/KeepHost.lean ====
section
/-! SUPPORT. What each operation of Machine/Host.lean touches. -/

namespace Sys2Proof.Machine

theorem fieldWrite_keeps {W0 : List Part} {r0 : State} (s : State) (f : Fld) (x : Nat) (v : Word) (h_regs : Part.regs ∈ W0) (h_boot : Part.boot ∈ W0) (h_hif : Part.hif ∈ W0) (h_queues : Part.queues ∈ W0) (h_sor : Part.sor ∈ W0) (h_dma : Part.dma ∈ W0) (h_srf : Part.srf ∈ W0) (h_drc : Part.drc ∈ W0) (h_chn : Part.chn ∈ W0) (h_cmp : Part.cmp ∈ W0) (h_frt : Part.frt ∈ W0) (h_lnk : Part.lnk ∈ W0) (h_tim : Part.tim ∈ W0) (h_tan : Part.tan ∈ W0) (h_sec : Part.sec ∈ W0) (h_lmp : Part.lmp ∈ W0) (h_spk : Part.spk ∈ W0) (h_thm : Part.thm ∈ W0) (h_cal : Part.cal ∈ W0) (h_upd : Part.upd ∈ W0) (h_dram : Part.dram ∈ W0) (h_ring : Part.ring ∈ W0) (h_time : Part.time ∈ W0) (h_wraps : Part.wraps ∈ W0) (h_out : Part.out ∈ W0) (h_free : Part.free ∈ W0) (h_recov : Part.recov ∈ W0) {t0 : State} (h0 : Keeps W0 r0 s) (ht : fieldWrite s f x v = .next t0) :
    Keeps W0 r0 t0 := by
  unfold fieldWrite at ht
  injection ht with ht
  subst ht
  repeat' first
    | with_reducible assumption
    | with_reducible apply hostWrite_keeps

theorem execRegisterWrite_keeps {W0 : List Part} {r0 : State} (size : Nat) (off : Nat) (v : Nat) (s : State) (h_regs : Part.regs ∈ W0) (h_boot : Part.boot ∈ W0) (h_hif : Part.hif ∈ W0) (h_queues : Part.queues ∈ W0) (h_sor : Part.sor ∈ W0) (h_dma : Part.dma ∈ W0) (h_srf : Part.srf ∈ W0) (h_drc : Part.drc ∈ W0) (h_chn : Part.chn ∈ W0) (h_cmp : Part.cmp ∈ W0) (h_frt : Part.frt ∈ W0) (h_lnk : Part.lnk ∈ W0) (h_tim : Part.tim ∈ W0) (h_tan : Part.tan ∈ W0) (h_sec : Part.sec ∈ W0) (h_lmp : Part.lmp ∈ W0) (h_spk : Part.spk ∈ W0) (h_thm : Part.thm ∈ W0) (h_cal : Part.cal ∈ W0) (h_upd : Part.upd ∈ W0) (h_dram : Part.dram ∈ W0) (h_ring : Part.ring ∈ W0) (h_time : Part.time ∈ W0) (h_wraps : Part.wraps ∈ W0) (h_out : Part.out ∈ W0) (h_free : Part.free ∈ W0) (h_recov : Part.recov ∈ W0) {t0 : State} (h0 : Keeps W0 r0 s) (ht : execRegisterWrite size off v s = .next t0) :
    Keeps W0 r0 t0 := by
  unfold execRegisterWrite at ht
  injection ht with ht
  subst ht
  repeat' first
    | with_reducible assumption
    | with_reducible apply barWrite_keeps

theorem barRead4_keeps {W0 : List Part} {r0 : State} (s : State) (bar2 : Bool) (off : Nat) (h_regs : Part.regs ∈ W0) (h_hif : Part.hif ∈ W0) (h_tim : Part.tim ∈ W0) (h_sec : Part.sec ∈ W0) (h_out : Part.out ∈ W0) (h_free : Part.free ∈ W0) (h0 : Keeps W0 r0 s) :
    Keeps W0 r0 (barRead4 s bar2 off) := by
  unfold barRead4
  repeat' first
    | with_reducible assumption
    | with_reducible apply emit_keeps
    | with_reducible apply hostRead_keeps
    | split

theorem barRead_keeps {W0 : List Part} {r0 : State} (s : State) (bar2 : Bool) (size : Nat) (off : Nat) (h_regs : Part.regs ∈ W0) (h_hif : Part.hif ∈ W0) (h_chn : Part.chn ∈ W0) (h_tim : Part.tim ∈ W0) (h_sec : Part.sec ∈ W0) (h_out : Part.out ∈ W0) (h_free : Part.free ∈ W0) (h0 : Keeps W0 r0 s) :
    Keeps W0 r0 (barRead s bar2 size off) := by
  unfold barRead
  repeat' first
    | with_reducible assumption
    | with_reducible apply emit_keeps
    | with_reducible apply logError_keeps
    | with_reducible apply barRead4_keeps
    | split

theorem execBarMisalignedRead_keeps {W0 : List Part} {r0 : State} (bar2 : Bool) (size : Nat) (off : Nat) (s : State) (h_regs : Part.regs ∈ W0) (h_hif : Part.hif ∈ W0) (h_chn : Part.chn ∈ W0) (h_tim : Part.tim ∈ W0) (h_sec : Part.sec ∈ W0) (h_out : Part.out ∈ W0) (h_free : Part.free ∈ W0) {t0 : State} (h0 : Keeps W0 r0 s) (ht : execBarMisalignedRead bar2 size off s = .next t0) :
    Keeps W0 r0 t0 := by
  unfold execBarMisalignedRead at ht
  injection ht with ht
  subst ht
  repeat' first
    | with_reducible assumption
    | with_reducible apply barRead_keeps
    | split

theorem execEvtqRead_keeps {W0 : List Part} {r0 : State} (s : State) (h_regs : Part.regs ∈ W0) (h_hif : Part.hif ∈ W0) (h_tim : Part.tim ∈ W0) (h_sec : Part.sec ∈ W0) (h_out : Part.out ∈ W0) (h_free : Part.free ∈ W0) {t0 : State} (h0 : Keeps W0 r0 s) (ht : execEvtqRead s = .next t0) :
    Keeps W0 r0 t0 := by
  unfold execEvtqRead at ht
  injection ht with ht
  subst ht
  repeat' first
    | with_reducible assumption
    | with_reducible apply hostRead_keeps

theorem execDmaBytesRead_keeps {W0 : List Part} {r0 : State} (c : Nat) (s : State) (h_regs : Part.regs ∈ W0) (h_hif : Part.hif ∈ W0) (h_tim : Part.tim ∈ W0) (h_sec : Part.sec ∈ W0) (h_out : Part.out ∈ W0) (h_free : Part.free ∈ W0) {t0 : State} (h0 : Keeps W0 r0 s) (ht : execDmaBytesRead c s = .next t0) :
    Keeps W0 r0 t0 := by
  unfold execDmaBytesRead at ht
  injection ht with ht
  subst ht
  repeat' first
    | with_reducible assumption
    | with_reducible apply hostRead_keeps
    | split

theorem execTimNowRead_keeps {W0 : List Part} {r0 : State} (dt : Nat) (s : State) (h_regs : Part.regs ∈ W0) (h_hif : Part.hif ∈ W0) (h_chn : Part.chn ∈ W0) (h_tim : Part.tim ∈ W0) (h_sec : Part.sec ∈ W0) (h_time : Part.time ∈ W0) (h_wraps : Part.wraps ∈ W0) (h_up : Part.up ∈ W0) (h_out : Part.out ∈ W0) (h_free : Part.free ∈ W0) {t0 : State} (h0 : Keeps W0 r0 s) (ht : execTimNowRead dt s = .next t0) :
    Keeps W0 r0 t0 := by
  unfold execTimNowRead at ht
  injection ht with ht
  subst ht
  repeat' first
    | with_reducible assumption
    | with_reducible apply advance_keeps
    | with_reducible apply hostRead_keeps

theorem execTimCapRead_keeps {W0 : List Part} {r0 : State} (c : Nat) (s : State) (h_regs : Part.regs ∈ W0) (h_hif : Part.hif ∈ W0) (h_tim : Part.tim ∈ W0) (h_sec : Part.sec ∈ W0) (h_out : Part.out ∈ W0) (h_free : Part.free ∈ W0) {t0 : State} (h0 : Keeps W0 r0 s) (ht : execTimCapRead c s = .next t0) :
    Keeps W0 r0 t0 := by
  unfold execTimCapRead at ht
  injection ht with ht
  subst ht
  repeat' first
    | with_reducible assumption
    | with_reducible apply hostRead_keeps
    | split

theorem execSecNonceRead_keeps {W0 : List Part} {r0 : State} (s : State) (h_regs : Part.regs ∈ W0) (h_hif : Part.hif ∈ W0) (h_tim : Part.tim ∈ W0) (h_sec : Part.sec ∈ W0) (h_out : Part.out ∈ W0) (h_free : Part.free ∈ W0) {t0 : State} (h0 : Keeps W0 r0 s) (ht : execSecNonceRead s = .next t0) :
    Keeps W0 r0 t0 := by
  unfold execSecNonceRead at ht
  injection ht with ht
  subst ht
  repeat' first
    | with_reducible assumption
    | with_reducible apply hostRead_keeps

theorem blockResetWrite_keeps {W0 : List Part} {r0 : State} (s : State) (k : Nat) (h_regs : Part.regs ∈ W0) (h_boot : Part.boot ∈ W0) (h_hif : Part.hif ∈ W0) (h_queues : Part.queues ∈ W0) (h_sor : Part.sor ∈ W0) (h_dma : Part.dma ∈ W0) (h_srf : Part.srf ∈ W0) (h_drc : Part.drc ∈ W0) (h_chn : Part.chn ∈ W0) (h_cmp : Part.cmp ∈ W0) (h_frt : Part.frt ∈ W0) (h_lnk : Part.lnk ∈ W0) (h_tim : Part.tim ∈ W0) (h_tan : Part.tan ∈ W0) (h_sec : Part.sec ∈ W0) (h_lmp : Part.lmp ∈ W0) (h_spk : Part.spk ∈ W0) (h_thm : Part.thm ∈ W0) (h_cal : Part.cal ∈ W0) (h_upd : Part.upd ∈ W0) (h_dram : Part.dram ∈ W0) (h_ring : Part.ring ∈ W0) (h_time : Part.time ∈ W0) (h_wraps : Part.wraps ∈ W0) (h_out : Part.out ∈ W0) (h_free : Part.free ∈ W0) (h_recov : Part.recov ∈ W0) {t0 : State} (h0 : Keeps W0 r0 s) (ht : blockResetWrite s k = .next t0) :
    Keeps W0 r0 t0 := by
  unfold blockResetWrite at ht
  injection ht with ht
  subst ht
  repeat' first
    | with_reducible assumption
    | with_reducible apply hostWrite_keeps

theorem execBlockResetEnd_keeps {W0 : List Part} {r0 : State} (dt : Nat) (k : Nat) (s : State) (h_regs : Part.regs ∈ W0) (h_hif : Part.hif ∈ W0) (h_chn : Part.chn ∈ W0) (h_lnk : Part.lnk ∈ W0) (h_tim : Part.tim ∈ W0) (h_spk : Part.spk ∈ W0) (h_cal : Part.cal ∈ W0) (h_time : Part.time ∈ W0) (h_wraps : Part.wraps ∈ W0) (h_up : Part.up ∈ W0) (h_out : Part.out ∈ W0) {t0 : State} (h0 : Keeps W0 r0 s) (ht : execBlockResetEnd dt k s = .next t0) :
    Keeps W0 r0 t0 := by
  unfold execBlockResetEnd at ht
  dsimp only at ht
  injection ht with ht
  subst ht
  repeat' first
    | with_reducible assumption
    | with_reducible apply advance_keeps
    | with_reducible apply blockResetEnd_keeps
    | split

theorem queueSettings_keeps {W0 : List Part} {r0 : State} (s : State) (qs : List (Nat × Word)) (h_regs : Part.regs ∈ W0) (h_boot : Part.boot ∈ W0) (h_hif : Part.hif ∈ W0) (h_queues : Part.queues ∈ W0) (h_sor : Part.sor ∈ W0) (h_dma : Part.dma ∈ W0) (h_srf : Part.srf ∈ W0) (h_drc : Part.drc ∈ W0) (h_chn : Part.chn ∈ W0) (h_cmp : Part.cmp ∈ W0) (h_frt : Part.frt ∈ W0) (h_lnk : Part.lnk ∈ W0) (h_tim : Part.tim ∈ W0) (h_tan : Part.tan ∈ W0) (h_sec : Part.sec ∈ W0) (h_lmp : Part.lmp ∈ W0) (h_spk : Part.spk ∈ W0) (h_thm : Part.thm ∈ W0) (h_cal : Part.cal ∈ W0) (h_upd : Part.upd ∈ W0) (h_dram : Part.dram ∈ W0) (h_ring : Part.ring ∈ W0) (h_time : Part.time ∈ W0) (h_wraps : Part.wraps ∈ W0) (h_out : Part.out ∈ W0) (h_free : Part.free ∈ W0) (h0 : Keeps W0 r0 s) :
    Keeps W0 r0 (queueSettings s qs) := by
  unfold queueSettings
  repeat' first
    | with_reducible assumption
    | with_reducible apply storeReg_keeps
    | with_reducible apply regEffect_keeps
    | with_reducible apply Keeps.foldl
    | split
    | dsimp only
    | intro _

theorem windowClose_keeps {W0 : List Part} {r0 : State} (s : State) (qs : List (Nat × Word)) (ms : Nat) (h_regs : Part.regs ∈ W0) (h_boot : Part.boot ∈ W0) (h_hif : Part.hif ∈ W0) (h_queues : Part.queues ∈ W0) (h_sor : Part.sor ∈ W0) (h_dma : Part.dma ∈ W0) (h_srf : Part.srf ∈ W0) (h_drc : Part.drc ∈ W0) (h_chn : Part.chn ∈ W0) (h_cmp : Part.cmp ∈ W0) (h_frt : Part.frt ∈ W0) (h_lnk : Part.lnk ∈ W0) (h_tim : Part.tim ∈ W0) (h_tan : Part.tan ∈ W0) (h_sec : Part.sec ∈ W0) (h_lmp : Part.lmp ∈ W0) (h_spk : Part.spk ∈ W0) (h_thm : Part.thm ∈ W0) (h_cal : Part.cal ∈ W0) (h_upd : Part.upd ∈ W0) (h_dram : Part.dram ∈ W0) (h_ring : Part.ring ∈ W0) (h_time : Part.time ∈ W0) (h_wraps : Part.wraps ∈ W0) (h_out : Part.out ∈ W0) (h_free : Part.free ∈ W0) (h_fuses : Part.fuses ∈ W0) (h0 : Keeps W0 r0 s) :
    Keeps W0 r0 (windowClose s qs ms) := by
  unfold windowClose
  repeat' first
    | with_reducible assumption
    | simp only [Keeps.boot, h_boot]
    | with_reducible apply setF_keeps
    | with_reducible apply setBootStage_keeps
    | with_reducible apply toReady_keeps
    | with_reducible apply queueSettings_keeps
    | split

theorem execUcieWindowClose_keeps {W0 : List Part} {r0 : State} (qs : List (Nat × Word)) (ms : Nat) (s : State) (h_regs : Part.regs ∈ W0) (h_boot : Part.boot ∈ W0) (h_hif : Part.hif ∈ W0) (h_queues : Part.queues ∈ W0) (h_sor : Part.sor ∈ W0) (h_dma : Part.dma ∈ W0) (h_srf : Part.srf ∈ W0) (h_drc : Part.drc ∈ W0) (h_chn : Part.chn ∈ W0) (h_cmp : Part.cmp ∈ W0) (h_frt : Part.frt ∈ W0) (h_lnk : Part.lnk ∈ W0) (h_tim : Part.tim ∈ W0) (h_tan : Part.tan ∈ W0) (h_sec : Part.sec ∈ W0) (h_lmp : Part.lmp ∈ W0) (h_spk : Part.spk ∈ W0) (h_thm : Part.thm ∈ W0) (h_cal : Part.cal ∈ W0) (h_upd : Part.upd ∈ W0) (h_dram : Part.dram ∈ W0) (h_ring : Part.ring ∈ W0) (h_time : Part.time ∈ W0) (h_wraps : Part.wraps ∈ W0) (h_out : Part.out ∈ W0) (h_free : Part.free ∈ W0) (h_fuses : Part.fuses ∈ W0) {t0 : State} (h0 : Keeps W0 r0 s) (ht : execUcieWindowClose qs ms s = .next t0) :
    Keeps W0 r0 t0 := by
  unfold execUcieWindowClose at ht
  apply whenOn_keeps (ht := ht)
  repeat' first
    | with_reducible assumption
    | with_reducible apply windowClose_keeps
    | split
    | dsimp only
    | intro _

theorem queueWrite_keeps {W0 : List Part} {r0 : State} (s : State) (q : Nat) (w : Nat) (h_regs : Part.regs ∈ W0) (h_boot : Part.boot ∈ W0) (h_hif : Part.hif ∈ W0) (h_queues : Part.queues ∈ W0) (h_sor : Part.sor ∈ W0) (h_dma : Part.dma ∈ W0) (h_srf : Part.srf ∈ W0) (h_drc : Part.drc ∈ W0) (h_chn : Part.chn ∈ W0) (h_cmp : Part.cmp ∈ W0) (h_frt : Part.frt ∈ W0) (h_lnk : Part.lnk ∈ W0) (h_tim : Part.tim ∈ W0) (h_tan : Part.tan ∈ W0) (h_sec : Part.sec ∈ W0) (h_lmp : Part.lmp ∈ W0) (h_spk : Part.spk ∈ W0) (h_thm : Part.thm ∈ W0) (h_cal : Part.cal ∈ W0) (h_upd : Part.upd ∈ W0) (h_dram : Part.dram ∈ W0) (h_ring : Part.ring ∈ W0) (h_time : Part.time ∈ W0) (h_wraps : Part.wraps ∈ W0) (h_out : Part.out ∈ W0) (h_free : Part.free ∈ W0) (h_recov : Part.recov ∈ W0) {t0 : State} (h0 : Keeps W0 r0 s) (ht : queueWrite s q w = .next t0) :
    Keeps W0 r0 t0 := by
  unfold queueWrite at ht
  injection ht with ht
  subst ht
  repeat' first
    | with_reducible assumption
    | with_reducible apply hostWrite_keeps
    | split

theorem doorbellWrite_keeps {W0 : List Part} {r0 : State} (s : State) (off : Nat) (v : Nat) (h_regs : Part.regs ∈ W0) (h_hif : Part.hif ∈ W0) (h_queues : Part.queues ∈ W0) (h_chn : Part.chn ∈ W0) (h_out : Part.out ∈ W0) (h0 : Keeps W0 r0 s) :
    Keeps W0 r0 (doorbellWrite s off v) := by
  unfold doorbellWrite
  repeat' first
    | with_reducible assumption
    | with_reducible apply logError_keeps
    | with_reducible apply acceptTail_keeps
    | split
    | dsimp only

theorem doorbell_keeps {W0 : List Part} {r0 : State} (s : State) (size : Nat) (off : Nat) (v : Nat) (h_regs : Part.regs ∈ W0) (h_hif : Part.hif ∈ W0) (h_queues : Part.queues ∈ W0) (h_chn : Part.chn ∈ W0) (h_out : Part.out ∈ W0) (h0 : Keeps W0 r0 s) :
    Keeps W0 r0 (doorbell s size off v) := by
  unfold doorbell
  repeat' first
    | with_reducible assumption
    | with_reducible apply logError_keeps
    | with_reducible apply doorbellWrite_keeps
    | split

theorem execDoorbell_keeps {W0 : List Part} {r0 : State} (size : Nat) (off : Nat) (v : Nat) (s : State) (h_regs : Part.regs ∈ W0) (h_hif : Part.hif ∈ W0) (h_queues : Part.queues ∈ W0) (h_chn : Part.chn ∈ W0) (h_out : Part.out ∈ W0) {t0 : State} (h0 : Keeps W0 r0 s) (ht : execDoorbell size off v s = .next t0) :
    Keeps W0 r0 t0 := by
  unfold execDoorbell at ht
  injection ht with ht
  subst ht
  repeat' first
    | with_reducible assumption
    | with_reducible apply doorbell_keeps
    | split

theorem execRingReadComplete_keeps {W0 : List Part} {r0 : State} (q : Nat) (res : RdRes) (s : State) (h_regs : Part.regs ∈ W0) (h_hif : Part.hif ∈ W0) (h_queues : Part.queues ∈ W0) (h_sor : Part.sor ∈ W0) (h_out : Part.out ∈ W0) {t0 : State} (h0 : Keeps W0 r0 s) (ht : execRingReadComplete q res s = .next t0) :
    Keeps W0 r0 t0 := by
  unfold execRingReadComplete at ht
  apply whenOn_keeps (ht := ht)
  repeat' first
    | with_reducible assumption
    | with_reducible apply onRead_keeps
    | with_reducible apply ringRead_keeps
    | split
    | dsimp only
    | intro _

theorem execRingRecheckTimeout_keeps {W0 : List Part} {r0 : State} (dt : Nat) (q : Nat) (s : State) (h_regs : Part.regs ∈ W0) (h_hif : Part.hif ∈ W0) (h_queues : Part.queues ∈ W0) (h_chn : Part.chn ∈ W0) (h_time : Part.time ∈ W0) (h_wraps : Part.wraps ∈ W0) (h_up : Part.up ∈ W0) (h_out : Part.out ∈ W0) {t0 : State} (h0 : Keeps W0 r0 s) (ht : execRingRecheckTimeout dt q s = .next t0) :
    Keeps W0 r0 t0 := by
  unfold execRingRecheckTimeout at ht
  apply whenOn_keeps (ht := ht)
  repeat' first
    | with_reducible assumption
    | with_reducible apply recheckTimeout_keeps
    | with_reducible apply advance_keeps
    | split
    | dsimp only
    | intro _

theorem readExpired_keeps {W0 : List Part} {r0 : State} (s : State) (who : Rd) (h_regs : Part.regs ∈ W0) (h_hif : Part.hif ∈ W0) (h_queues : Part.queues ∈ W0) (h_sor : Part.sor ∈ W0) (h_dma : Part.dma ∈ W0) (h_srf : Part.srf ∈ W0) (h_drc : Part.drc ∈ W0) (h_chn : Part.chn ∈ W0) (h_dram : Part.dram ∈ W0) (h_ring : Part.ring ∈ W0) (h_out : Part.out ∈ W0) (h_free : Part.free ∈ W0) (h0 : Keeps W0 r0 s) :
    Keeps W0 r0 (readExpired s who) := by
  unfold readExpired
  repeat' first
    | with_reducible assumption
    | with_reducible apply setQrec_keeps
    | with_reducible apply queueError_keeps
    | with_reducible apply prefetchFail_keeps
    | with_reducible apply segFail_keeps
    | with_reducible apply readFail_keeps
    | with_reducible apply slotFail_keeps
    | split
    | dsimp only

theorem readTimeout_keeps {W0 : List Part} {r0 : State} (s : State) (who : Rd) (h_regs : Part.regs ∈ W0) (h_hif : Part.hif ∈ W0) (h_queues : Part.queues ∈ W0) (h_sor : Part.sor ∈ W0) (h_dma : Part.dma ∈ W0) (h_srf : Part.srf ∈ W0) (h_drc : Part.drc ∈ W0) (h_chn : Part.chn ∈ W0) (h_dram : Part.dram ∈ W0) (h_ring : Part.ring ∈ W0) (h_out : Part.out ∈ W0) (h_free : Part.free ∈ W0) (h0 : Keeps W0 r0 s) :
    Keeps W0 r0 (readTimeout s who) := by
  unfold readTimeout
  repeat' first
    | with_reducible assumption
    | simp only [Keeps.hif, h_hif]
    | with_reducible apply endRead_keeps
    | with_reducible apply readExpired_keeps
    | split

theorem execHostReadTimeout_keeps {W0 : List Part} {r0 : State} (dt : Nat) (who : Rd) (s : State) (h_regs : Part.regs ∈ W0) (h_hif : Part.hif ∈ W0) (h_queues : Part.queues ∈ W0) (h_sor : Part.sor ∈ W0) (h_dma : Part.dma ∈ W0) (h_srf : Part.srf ∈ W0) (h_drc : Part.drc ∈ W0) (h_chn : Part.chn ∈ W0) (h_dram : Part.dram ∈ W0) (h_ring : Part.ring ∈ W0) (h_time : Part.time ∈ W0) (h_wraps : Part.wraps ∈ W0) (h_up : Part.up ∈ W0) (h_out : Part.out ∈ W0) (h_free : Part.free ∈ W0) {t0 : State} (h0 : Keeps W0 r0 s) (ht : execHostReadTimeout dt who s = .next t0) :
    Keeps W0 r0 t0 := by
  unfold execHostReadTimeout at ht
  apply whenOn_keeps (ht := ht)
  repeat' first
    | with_reducible assumption
    | with_reducible apply advance_keeps
    | with_reducible apply readTimeout_keeps
    | split
    | dsimp only
    | intro _

theorem execLateCompletion_keeps {W0 : List Part} {r0 : State} (s : State) (h_regs : Part.regs ∈ W0) (h_hif : Part.hif ∈ W0) {t0 : State} (h0 : Keeps W0 r0 s) (ht : execLateCompletion s = .next t0) :
    Keeps W0 r0 t0 := by
  unfold execLateCompletion at ht
  apply whenOn_keeps (ht := ht)
  repeat' first
    | with_reducible assumption
    | simp only [Keeps.hif, h_hif]
    | with_reducible apply incSat_keeps
    | split
    | dsimp only
    | intro _

end Sys2Proof.Machine
end

