-- ==== Sys2Proof/Laws/KeepRows.lean ====
section
/-! SUPPORT. What each operation of Machine/Rows.lean touches. -/

namespace Sys2Proof.Machine

theorem indexWrite_keeps {W0 : List Part} {r0 : State} (s : State) (i : Nat) (n : Nat) (f : Fld) (x : Nat) (v : Word) (h_regs : Part.regs ∈ W0) (h_boot : Part.boot ∈ W0) (h_hif : Part.hif ∈ W0) (h_queues : Part.queues ∈ W0) (h_sor : Part.sor ∈ W0) (h_dma : Part.dma ∈ W0) (h_srf : Part.srf ∈ W0) (h_drc : Part.drc ∈ W0) (h_chn : Part.chn ∈ W0) (h_cmp : Part.cmp ∈ W0) (h_frt : Part.frt ∈ W0) (h_lnk : Part.lnk ∈ W0) (h_tim : Part.tim ∈ W0) (h_tan : Part.tan ∈ W0) (h_sec : Part.sec ∈ W0) (h_lmp : Part.lmp ∈ W0) (h_spk : Part.spk ∈ W0) (h_thm : Part.thm ∈ W0) (h_cal : Part.cal ∈ W0) (h_upd : Part.upd ∈ W0) (h_dram : Part.dram ∈ W0) (h_ring : Part.ring ∈ W0) (h_time : Part.time ∈ W0) (h_wraps : Part.wraps ∈ W0) (h_out : Part.out ∈ W0) (h_free : Part.free ∈ W0) (h_recov : Part.recov ∈ W0) {t0 : State} (h0 : Keeps W0 r0 s) (ht : indexWrite s i n f x v = .next t0) :
    Keeps W0 r0 t0 := by
  unfold indexWrite at ht
  injection ht with ht
  subst ht
  repeat' first
    | with_reducible assumption
    | with_reducible apply hostWrite_keeps
    | split

theorem ownerPulse_keeps {W0 : List Part} {r0 : State} (s : State) (g : Nat) (slots : List Nat) (h_regs : Part.regs ∈ W0) (h_hif : Part.hif ∈ W0) (h_queues : Part.queues ∈ W0) (h_sor : Part.sor ∈ W0) (h_srf : Part.srf ∈ W0) (h_drc : Part.drc ∈ W0) (h_chn : Part.chn ∈ W0) (h_cmp : Part.cmp ∈ W0) (h_frt : Part.frt ∈ W0) (h_lnk : Part.lnk ∈ W0) (h_tim : Part.tim ∈ W0) (h_tan : Part.tan ∈ W0) (h_sec : Part.sec ∈ W0) (h_lmp : Part.lmp ∈ W0) (h_ring : Part.ring ∈ W0) (h_out : Part.out ∈ W0) (h_free : Part.free ∈ W0) (h0 : Keeps W0 r0 s) :
    Keeps W0 r0 (ownerPulse s g slots) := by
  unfold ownerPulse
  repeat' first
    | with_reducible assumption
    | with_reducible apply genFire_keeps
    | with_reducible apply syncPulse_keeps
    | with_reducible apply senderCadence_keeps
    | with_reducible apply snapSettle_keeps
    | with_reducible apply heartbeat_keeps
    | with_reducible apply tileCadence_keeps
    | split

theorem generatorPulse_keeps {W0 : List Part} {r0 : State} (s : State) (g : Nat) (slots : List Nat) (h_regs : Part.regs ∈ W0) (h_hif : Part.hif ∈ W0) (h_queues : Part.queues ∈ W0) (h_sor : Part.sor ∈ W0) (h_srf : Part.srf ∈ W0) (h_drc : Part.drc ∈ W0) (h_chn : Part.chn ∈ W0) (h_cmp : Part.cmp ∈ W0) (h_frt : Part.frt ∈ W0) (h_lnk : Part.lnk ∈ W0) (h_tim : Part.tim ∈ W0) (h_tan : Part.tan ∈ W0) (h_sec : Part.sec ∈ W0) (h_lmp : Part.lmp ∈ W0) (h_ring : Part.ring ∈ W0) (h_out : Part.out ∈ W0) (h_free : Part.free ∈ W0) (h0 : Keeps W0 r0 s) :
    Keeps W0 r0 (generatorPulse s g slots) := by
  unfold generatorPulse
  repeat' first
    | with_reducible assumption
    | with_reducible apply ownerPulse_keeps
    | with_reducible apply Keeps.foldl
    | split
    | dsimp only
    | intro _

theorem execGeneratorPulse_keeps {W0 : List Part} {r0 : State} (dt : Nat) (g : Nat) (slots : List Nat) (s : State) (h_regs : Part.regs ∈ W0) (h_hif : Part.hif ∈ W0) (h_queues : Part.queues ∈ W0) (h_sor : Part.sor ∈ W0) (h_srf : Part.srf ∈ W0) (h_drc : Part.drc ∈ W0) (h_chn : Part.chn ∈ W0) (h_cmp : Part.cmp ∈ W0) (h_frt : Part.frt ∈ W0) (h_lnk : Part.lnk ∈ W0) (h_tim : Part.tim ∈ W0) (h_tan : Part.tan ∈ W0) (h_sec : Part.sec ∈ W0) (h_lmp : Part.lmp ∈ W0) (h_ring : Part.ring ∈ W0) (h_time : Part.time ∈ W0) (h_wraps : Part.wraps ∈ W0) (h_up : Part.up ∈ W0) (h_out : Part.out ∈ W0) (h_free : Part.free ∈ W0) {t0 : State} (h0 : Keeps W0 r0 s) (ht : execGeneratorPulse dt g slots s = .next t0) :
    Keeps W0 r0 t0 := by
  unfold execGeneratorPulse at ht
  apply whenOn_keeps (ht := ht)
  repeat' first
    | with_reducible assumption
    | with_reducible apply advance_keeps
    | with_reducible apply generatorPulse_keeps
    | split
    | dsimp only
    | intro _

end Sys2Proof.Machine
end

