-- ==== Sys2Proof/Laws/KeepLetters.lean ====
section
/-! SUPPORT. What each operation of Machine/Letters.lean touches. -/

namespace Sys2Proof.Machine

theorem regEntry_keeps {W0 : List Part} {r0 : State} (s : State) (write : Bool) (e : Bytes) (h_regs : Part.regs ∈ W0) (h_boot : Part.boot ∈ W0) (h_hif : Part.hif ∈ W0) (h_queues : Part.queues ∈ W0) (h_sor : Part.sor ∈ W0) (h_dma : Part.dma ∈ W0) (h_srf : Part.srf ∈ W0) (h_drc : Part.drc ∈ W0) (h_chn : Part.chn ∈ W0) (h_cmp : Part.cmp ∈ W0) (h_frt : Part.frt ∈ W0) (h_lnk : Part.lnk ∈ W0) (h_tim : Part.tim ∈ W0) (h_tan : Part.tan ∈ W0) (h_sec : Part.sec ∈ W0) (h_lmp : Part.lmp ∈ W0) (h_spk : Part.spk ∈ W0) (h_thm : Part.thm ∈ W0) (h_cal : Part.cal ∈ W0) (h_upd : Part.upd ∈ W0) (h_dram : Part.dram ∈ W0) (h_ring : Part.ring ∈ W0) (h_time : Part.time ∈ W0) (h_wraps : Part.wraps ∈ W0) (h_out : Part.out ∈ W0) (h_free : Part.free ∈ W0) (h_recov : Part.recov ∈ W0) (h0 : Keeps W0 r0 s) :
    Keeps W0 r0 (regEntry s write e).2 := by
  unfold regEntry
  repeat' first
    | with_reducible assumption
    | with_reducible apply regWrite_keeps
    | with_reducible apply regRead_keeps
    | with_reducible refine Keeps.of_snd (by with_reducible assumption) ?_
    | with_reducible refine Keeps.of_snd2 (by with_reducible assumption) ?_
    | split
    | dsimp only

theorem regEntries_keeps {W0 : List Part} {r0 : State} (write : Bool) (h_regs : Part.regs ∈ W0) (h_boot : Part.boot ∈ W0) (h_hif : Part.hif ∈ W0) (h_queues : Part.queues ∈ W0) (h_sor : Part.sor ∈ W0) (h_dma : Part.dma ∈ W0) (h_srf : Part.srf ∈ W0) (h_drc : Part.drc ∈ W0) (h_chn : Part.chn ∈ W0) (h_cmp : Part.cmp ∈ W0) (h_frt : Part.frt ∈ W0) (h_lnk : Part.lnk ∈ W0) (h_tim : Part.tim ∈ W0) (h_tan : Part.tan ∈ W0) (h_sec : Part.sec ∈ W0) (h_lmp : Part.lmp ∈ W0) (h_spk : Part.spk ∈ W0) (h_thm : Part.thm ∈ W0) (h_cal : Part.cal ∈ W0) (h_upd : Part.upd ∈ W0) (h_dram : Part.dram ∈ W0) (h_ring : Part.ring ∈ W0) (h_time : Part.time ∈ W0) (h_wraps : Part.wraps ∈ W0) (h_out : Part.out ∈ W0) (h_free : Part.free ∈ W0) (h_recov : Part.recov ∈ W0) (y0 : List Bytes) (y1 : State)
    (h0 : Keeps W0 r0 y1) :
    Keeps W0 r0 (regEntries write y0 y1).2 := by
  induction y0 generalizing y1 write with
  | nil =>
    unfold regEntries
    repeat' first
      | with_reducible assumption
  | cons x0 y0 ih =>
    unfold regEntries
    repeat' first
      | with_reducible assumption
      | with_reducible apply ih
      | with_reducible apply regEntry_keeps

theorem regLetter_keeps {W0 : List Part} {r0 : State} (s : State) (write : Bool) (l : Letter) (h_regs : Part.regs ∈ W0) (h_boot : Part.boot ∈ W0) (h_hif : Part.hif ∈ W0) (h_queues : Part.queues ∈ W0) (h_sor : Part.sor ∈ W0) (h_dma : Part.dma ∈ W0) (h_srf : Part.srf ∈ W0) (h_drc : Part.drc ∈ W0) (h_chn : Part.chn ∈ W0) (h_cmp : Part.cmp ∈ W0) (h_frt : Part.frt ∈ W0) (h_lnk : Part.lnk ∈ W0) (h_tim : Part.tim ∈ W0) (h_tan : Part.tan ∈ W0) (h_sec : Part.sec ∈ W0) (h_lmp : Part.lmp ∈ W0) (h_spk : Part.spk ∈ W0) (h_thm : Part.thm ∈ W0) (h_cal : Part.cal ∈ W0) (h_upd : Part.upd ∈ W0) (h_dram : Part.dram ∈ W0) (h_ring : Part.ring ∈ W0) (h_time : Part.time ∈ W0) (h_wraps : Part.wraps ∈ W0) (h_out : Part.out ∈ W0) (h_free : Part.free ∈ W0) (h_recov : Part.recov ∈ W0) (h0 : Keeps W0 r0 s) :
    Keeps W0 r0 (regLetter s write l) := by
  unfold regLetter
  repeat' first
    | with_reducible assumption
    | with_reducible apply refuse_keeps
    | with_reducible apply answer_keeps
    | with_reducible apply regEntries_keeps
    | with_reducible refine Keeps.of_snd (by with_reducible assumption) ?_
    | with_reducible refine Keeps.of_snd2 (by with_reducible assumption) ?_
    | split

theorem ringAnswer_keeps {W0 : List Part} {r0 : State} (s : State) (l : Letter) (c : Status) (q : Nat) (rest : Bytes) (h_regs : Part.regs ∈ W0) (h_chn : Part.chn ∈ W0) (h0 : Keeps W0 r0 s) :
    Keeps W0 r0 (ringAnswer s l c q rest) := by
  unfold ringAnswer
  repeat' first
    | with_reducible assumption
    | with_reducible apply answer_keeps

theorem ringFillLetter_keeps {W0 : List Part} {r0 : State} (s : State) (l : Letter) (h_regs : Part.regs ∈ W0) (h_hif : Part.hif ∈ W0) (h_queues : Part.queues ∈ W0) (h_chn : Part.chn ∈ W0) (h_ring : Part.ring ∈ W0) (h_out : Part.out ∈ W0) (h0 : Keeps W0 r0 s) :
    Keeps W0 r0 (ringFillLetter s l) := by
  unfold ringFillLetter
  repeat' first
    | with_reducible assumption
    | with_reducible apply acceptTail_keeps
    | with_reducible apply ringFillWrite_keeps
    | with_reducible apply ringAnswer_keeps
    | split
    | dsimp only

theorem ringReadLetter_keeps {W0 : List Part} {r0 : State} (s : State) (l : Letter) (h_regs : Part.regs ∈ W0) (h_chn : Part.chn ∈ W0) (h0 : Keeps W0 r0 s) :
    Keeps W0 r0 (ringReadLetter s l) := by
  unfold ringReadLetter
  repeat' first
    | with_reducible assumption
    | with_reducible apply ringAnswer_keeps
    | split
    | dsimp only

theorem keyDrop_keeps {W0 : List Part} {r0 : State} (s : State) (l : Letter) (h_regs : Part.regs ∈ W0) (h_chn : Part.chn ∈ W0) (h0 : Keeps W0 r0 s) :
    Keeps W0 r0 (keyDrop s l) := by
  unfold keyDrop
  repeat' first
    | with_reducible assumption
    | with_reducible apply setKeySlot_keeps
    | with_reducible apply refuse_keeps
    | with_reducible apply answer_keeps
    | split

theorem tileLetterStep_keeps {W0 : List Part} {r0 : State} (s : State) (ltype : Nat) (f : State → Letter → State) (h_chn : Part.chn ∈ W0) (h_f : ∀ (x0 : State) (x1 : Letter), Keeps W0 r0 x0 → Keeps W0 r0 (f x0 x1)) {t0 : State} (h0 : Keeps W0 r0 s) (ht : tileLetterStep s ltype f = .next t0) :
    Keeps W0 r0 t0 := by
  unfold tileLetterStep at ht
  apply whenOn_keeps (ht := ht)
  repeat' first
    | with_reducible assumption
    | with_reducible apply h_f
    | with_reducible apply onLetter_keeps
    | split
    | dsimp only
    | intro _

theorem execRegReadLetter_keeps {W0 : List Part} {r0 : State} (s : State) (h_regs : Part.regs ∈ W0) (h_boot : Part.boot ∈ W0) (h_hif : Part.hif ∈ W0) (h_queues : Part.queues ∈ W0) (h_sor : Part.sor ∈ W0) (h_dma : Part.dma ∈ W0) (h_srf : Part.srf ∈ W0) (h_drc : Part.drc ∈ W0) (h_chn : Part.chn ∈ W0) (h_cmp : Part.cmp ∈ W0) (h_frt : Part.frt ∈ W0) (h_lnk : Part.lnk ∈ W0) (h_tim : Part.tim ∈ W0) (h_tan : Part.tan ∈ W0) (h_sec : Part.sec ∈ W0) (h_lmp : Part.lmp ∈ W0) (h_spk : Part.spk ∈ W0) (h_thm : Part.thm ∈ W0) (h_cal : Part.cal ∈ W0) (h_upd : Part.upd ∈ W0) (h_dram : Part.dram ∈ W0) (h_ring : Part.ring ∈ W0) (h_time : Part.time ∈ W0) (h_wraps : Part.wraps ∈ W0) (h_out : Part.out ∈ W0) (h_free : Part.free ∈ W0) (h_recov : Part.recov ∈ W0) {t0 : State} (h0 : Keeps W0 r0 s) (ht : execRegReadLetter s = .next t0) :
    Keeps W0 r0 t0 := by
  unfold execRegReadLetter at ht
  apply tileLetterStep_keeps (ht := ht)
  repeat' first
    | with_reducible assumption
    | with_reducible apply regLetter_keeps
    | split
    | dsimp only
    | intro _

theorem execRegWriteLetter_keeps {W0 : List Part} {r0 : State} (s : State) (h_regs : Part.regs ∈ W0) (h_boot : Part.boot ∈ W0) (h_hif : Part.hif ∈ W0) (h_queues : Part.queues ∈ W0) (h_sor : Part.sor ∈ W0) (h_dma : Part.dma ∈ W0) (h_srf : Part.srf ∈ W0) (h_drc : Part.drc ∈ W0) (h_chn : Part.chn ∈ W0) (h_cmp : Part.cmp ∈ W0) (h_frt : Part.frt ∈ W0) (h_lnk : Part.lnk ∈ W0) (h_tim : Part.tim ∈ W0) (h_tan : Part.tan ∈ W0) (h_sec : Part.sec ∈ W0) (h_lmp : Part.lmp ∈ W0) (h_spk : Part.spk ∈ W0) (h_thm : Part.thm ∈ W0) (h_cal : Part.cal ∈ W0) (h_upd : Part.upd ∈ W0) (h_dram : Part.dram ∈ W0) (h_ring : Part.ring ∈ W0) (h_time : Part.time ∈ W0) (h_wraps : Part.wraps ∈ W0) (h_out : Part.out ∈ W0) (h_free : Part.free ∈ W0) (h_recov : Part.recov ∈ W0) {t0 : State} (h0 : Keeps W0 r0 s) (ht : execRegWriteLetter s = .next t0) :
    Keeps W0 r0 t0 := by
  unfold execRegWriteLetter at ht
  apply tileLetterStep_keeps (ht := ht)
  repeat' first
    | with_reducible assumption
    | with_reducible apply regLetter_keeps
    | split
    | dsimp only
    | intro _

theorem execRingFillLetter_keeps {W0 : List Part} {r0 : State} (s : State) (h_regs : Part.regs ∈ W0) (h_hif : Part.hif ∈ W0) (h_queues : Part.queues ∈ W0) (h_chn : Part.chn ∈ W0) (h_ring : Part.ring ∈ W0) (h_out : Part.out ∈ W0) {t0 : State} (h0 : Keeps W0 r0 s) (ht : execRingFillLetter s = .next t0) :
    Keeps W0 r0 t0 := by
  unfold execRingFillLetter at ht
  apply tileLetterStep_keeps (ht := ht)
  repeat' first
    | with_reducible assumption
    | with_reducible apply ringFillLetter_keeps
    | split
    | dsimp only
    | intro _

theorem execRingReadLetter_keeps {W0 : List Part} {r0 : State} (s : State) (h_regs : Part.regs ∈ W0) (h_chn : Part.chn ∈ W0) {t0 : State} (h0 : Keeps W0 r0 s) (ht : execRingReadLetter s = .next t0) :
    Keeps W0 r0 t0 := by
  unfold execRingReadLetter at ht
  apply tileLetterStep_keeps (ht := ht)
  repeat' first
    | with_reducible assumption
    | with_reducible apply ringReadLetter_keeps
    | split
    | dsimp only
    | intro _

theorem execKeyDropLetter_keeps {W0 : List Part} {r0 : State} (s : State) (h_regs : Part.regs ∈ W0) (h_chn : Part.chn ∈ W0) {t0 : State} (h0 : Keeps W0 r0 s) (ht : execKeyDropLetter s = .next t0) :
    Keeps W0 r0 t0 := by
  unfold execKeyDropLetter at ht
  apply tileLetterStep_keeps (ht := ht)
  repeat' first
    | with_reducible assumption
    | with_reducible apply keyDrop_keeps
    | split
    | dsimp only
    | intro _

end Sys2Proof.Machine
end

