-- ==== Sys2Proof/Laws/KeepJtag.lean ====
section
/-! SUPPORT. What each operation of Machine/Jtag.lean touches. -/

namespace Sys2Proof.Machine

theorem leaveExtest_keeps {W0 : List Part} {r0 : State} (s : State) (h_sec : Part.sec ∈ W0) (h0 : Keeps W0 r0 s) :
    Keeps W0 r0 (leaveExtest s) := by
  unfold leaveExtest
  repeat' first
    | with_reducible assumption
    | simp only [Keeps.sec, h_sec]

theorem dbgToken_keeps {W0 : List Part} {r0 : State} (s : State) (t : Bytes) (h_regs : Part.regs ∈ W0) (h_chn : Part.chn ∈ W0) (h_sec : Part.sec ∈ W0) (h_out : Part.out ∈ W0) (h_fuses : Part.fuses ∈ W0) (h0 : Keeps W0 r0 s) :
    Keeps W0 r0 (dbgToken s t) := by
  unfold dbgToken
  repeat' first
    | with_reducible assumption
    | with_reducible apply emit_keeps
    | with_reducible apply tokenTake_keeps
    | with_reducible apply leaveExtest_keeps

theorem dbgNonce_keeps {W0 : List Part} {r0 : State} (s : State) (h_regs : Part.regs ∈ W0) (h_sec : Part.sec ∈ W0) (h_out : Part.out ∈ W0) (h_free : Part.free ∈ W0) (h0 : Keeps W0 r0 s) :
    Keeps W0 r0 (dbgNonce s) := by
  unfold dbgNonce
  repeat' first
    | with_reducible assumption
    | with_reducible apply emit_keeps
    | with_reducible apply drawNonce_keeps
    | with_reducible apply leaveExtest_keeps

theorem regAcc_keeps {W0 : List Part} {r0 : State} (s : State) (off : Nat) (v : Option Word) (h_regs : Part.regs ∈ W0) (h_boot : Part.boot ∈ W0) (h_hif : Part.hif ∈ W0) (h_queues : Part.queues ∈ W0) (h_sor : Part.sor ∈ W0) (h_dma : Part.dma ∈ W0) (h_srf : Part.srf ∈ W0) (h_drc : Part.drc ∈ W0) (h_chn : Part.chn ∈ W0) (h_cmp : Part.cmp ∈ W0) (h_frt : Part.frt ∈ W0) (h_lnk : Part.lnk ∈ W0) (h_tim : Part.tim ∈ W0) (h_tan : Part.tan ∈ W0) (h_sec : Part.sec ∈ W0) (h_lmp : Part.lmp ∈ W0) (h_spk : Part.spk ∈ W0) (h_thm : Part.thm ∈ W0) (h_cal : Part.cal ∈ W0) (h_upd : Part.upd ∈ W0) (h_dram : Part.dram ∈ W0) (h_ring : Part.ring ∈ W0) (h_time : Part.time ∈ W0) (h_wraps : Part.wraps ∈ W0) (h_out : Part.out ∈ W0) (h_free : Part.free ∈ W0) (h_recov : Part.recov ∈ W0) (h0 : Keeps W0 r0 s) :
    Keeps W0 r0 (regAcc s off v) := by
  unfold regAcc
  repeat' first
    | with_reducible assumption
    | with_reducible apply emit_keeps
    | with_reducible apply logError_keeps
    | with_reducible apply regWrite_keeps
    | with_reducible apply regRead_keeps
    | with_reducible apply leaveExtest_keeps
    | with_reducible refine Keeps.of_snd (by with_reducible assumption) ?_
    | with_reducible refine Keeps.of_snd2 (by with_reducible assumption) ?_
    | split
    | dsimp only

theorem memAcc_keeps {W0 : List Part} {r0 : State} (s : State) (sram : Bool) (addr : Nat) (n : Nat) (data : Option Bytes) (h_regs : Part.regs ∈ W0) (h_hif : Part.hif ∈ W0) (h_drc : Part.drc ∈ W0) (h_chn : Part.chn ∈ W0) (h_sec : Part.sec ∈ W0) (h_dram : Part.dram ∈ W0) (h_out : Part.out ∈ W0) (h_free : Part.free ∈ W0) (h0 : Keeps W0 r0 s) :
    Keeps W0 r0 (memAcc s sram addr n data) := by
  unfold memAcc
  repeat' first
    | with_reducible assumption
    | with_reducible apply drawBytes_keeps
    | with_reducible apply emit_keeps
    | with_reducible apply noteBad_keeps
    | with_reducible apply dramStore_keeps
    | with_reducible apply leaveExtest_keeps
    | with_reducible refine Keeps.of_snd (by with_reducible assumption) ?_
    | with_reducible refine Keeps.of_snd2 (by with_reducible assumption) ?_
    | split
    | dsimp only

theorem trace_keeps {W0 : List Part} {r0 : State} (s : State) (n : Nat) (h_sec : Part.sec ∈ W0) (h_out : Part.out ∈ W0) (h_free : Part.free ∈ W0) (h0 : Keeps W0 r0 s) :
    Keeps W0 r0 (trace s n) := by
  unfold trace
  repeat' first
    | with_reducible assumption
    | with_reducible apply drawBytes_keeps
    | with_reducible apply emit_keeps
    | with_reducible apply leaveExtest_keeps
    | with_reducible refine Keeps.of_snd (by with_reducible assumption) ?_
    | with_reducible refine Keeps.of_snd2 (by with_reducible assumption) ?_
    | split
    | dsimp only

theorem extestOn_keeps {W0 : List Part} {r0 : State} (s : State) (h_sec : Part.sec ∈ W0) (h_lmp : Part.lmp ∈ W0) (h_spk : Part.spk ∈ W0) (h_out : Part.out ∈ W0) (h0 : Keeps W0 r0 s) :
    Keeps W0 r0 (extestOn s) := by
  unfold extestOn
  repeat' first
    | with_reducible assumption
    | simp only [Keeps.sec, h_sec]
    | with_reducible apply lampDrop_keeps
    | with_reducible apply scanOff_keeps

theorem whenDbg_keeps {W0 : List Part} {r0 : State} (s : State) (f : State → State) (h_f : ∀ (x0 : State), Keeps W0 r0 x0 → Keeps W0 r0 (f x0)) {t0 : State} (h0 : Keeps W0 r0 s) (ht : whenDbg s f = .next t0) :
    Keeps W0 r0 t0 := by
  unfold whenDbg at ht
  apply whenOn_keeps (ht := ht)
  repeat' first
    | with_reducible assumption

theorem execDbgtoken_keeps {W0 : List Part} {r0 : State} (t : Bytes) (s : State) (h_regs : Part.regs ∈ W0) (h_chn : Part.chn ∈ W0) (h_sec : Part.sec ∈ W0) (h_out : Part.out ∈ W0) (h_fuses : Part.fuses ∈ W0) {t0 : State} (h0 : Keeps W0 r0 s) (ht : execDbgtoken t s = .next t0) :
    Keeps W0 r0 t0 := by
  unfold execDbgtoken at ht
  apply whenDbg_keeps (ht := ht)
  repeat' first
    | with_reducible assumption
    | with_reducible apply dbgToken_keeps
    | split
    | dsimp only
    | intro _

theorem execDbgnonce_keeps {W0 : List Part} {r0 : State} (s : State) (h_regs : Part.regs ∈ W0) (h_sec : Part.sec ∈ W0) (h_out : Part.out ∈ W0) (h_free : Part.free ∈ W0) {t0 : State} (h0 : Keeps W0 r0 s) (ht : execDbgnonce s = .next t0) :
    Keeps W0 r0 t0 := by
  unfold execDbgnonce at ht
  apply whenDbg_keeps (ht := ht)
  repeat' first
    | with_reducible assumption
    | with_reducible apply dbgNonce_keeps
    | split
    | dsimp only
    | intro _

theorem execRegacc_keeps {W0 : List Part} {r0 : State} (off : Nat) (v : Option Word) (s : State) (h_regs : Part.regs ∈ W0) (h_boot : Part.boot ∈ W0) (h_hif : Part.hif ∈ W0) (h_queues : Part.queues ∈ W0) (h_sor : Part.sor ∈ W0) (h_dma : Part.dma ∈ W0) (h_srf : Part.srf ∈ W0) (h_drc : Part.drc ∈ W0) (h_chn : Part.chn ∈ W0) (h_cmp : Part.cmp ∈ W0) (h_frt : Part.frt ∈ W0) (h_lnk : Part.lnk ∈ W0) (h_tim : Part.tim ∈ W0) (h_tan : Part.tan ∈ W0) (h_sec : Part.sec ∈ W0) (h_lmp : Part.lmp ∈ W0) (h_spk : Part.spk ∈ W0) (h_thm : Part.thm ∈ W0) (h_cal : Part.cal ∈ W0) (h_upd : Part.upd ∈ W0) (h_dram : Part.dram ∈ W0) (h_ring : Part.ring ∈ W0) (h_time : Part.time ∈ W0) (h_wraps : Part.wraps ∈ W0) (h_out : Part.out ∈ W0) (h_free : Part.free ∈ W0) (h_recov : Part.recov ∈ W0) {t0 : State} (h0 : Keeps W0 r0 s) (ht : execRegacc off v s = .next t0) :
    Keeps W0 r0 t0 := by
  unfold execRegacc at ht
  apply whenDbg_keeps (ht := ht)
  repeat' first
    | with_reducible assumption
    | with_reducible apply regAcc_keeps
    | split
    | dsimp only
    | intro _

theorem execMemacc_keeps {W0 : List Part} {r0 : State} (sram : Bool) (addr : Nat) (n : Nat) (data : Option Bytes) (s : State) (h_regs : Part.regs ∈ W0) (h_hif : Part.hif ∈ W0) (h_drc : Part.drc ∈ W0) (h_chn : Part.chn ∈ W0) (h_sec : Part.sec ∈ W0) (h_dram : Part.dram ∈ W0) (h_out : Part.out ∈ W0) (h_free : Part.free ∈ W0) {t0 : State} (h0 : Keeps W0 r0 s) (ht : execMemacc sram addr n data s = .next t0) :
    Keeps W0 r0 t0 := by
  unfold execMemacc at ht
  apply whenDbg_keeps (ht := ht)
  repeat' first
    | with_reducible assumption
    | with_reducible apply memAcc_keeps
    | split
    | dsimp only
    | intro _

theorem execTrace_keeps {W0 : List Part} {r0 : State} (n : Nat) (s : State) (h_sec : Part.sec ∈ W0) (h_out : Part.out ∈ W0) (h_free : Part.free ∈ W0) {t0 : State} (h0 : Keeps W0 r0 s) (ht : execTrace n s = .next t0) :
    Keeps W0 r0 t0 := by
  unfold execTrace at ht
  apply whenDbg_keeps (ht := ht)
  repeat' first
    | with_reducible assumption
    | with_reducible apply trace_keeps
    | split
    | dsimp only
    | intro _

theorem execExtest_keeps {W0 : List Part} {r0 : State} (s : State) (h_sec : Part.sec ∈ W0) (h_lmp : Part.lmp ∈ W0) (h_spk : Part.spk ∈ W0) (h_out : Part.out ∈ W0) {t0 : State} (h0 : Keeps W0 r0 s) (ht : execExtest s = .next t0) :
    Keeps W0 r0 t0 := by
  unfold execExtest at ht
  apply whenDbg_keeps (ht := ht)
  repeat' first
    | with_reducible assumption
    | with_reducible apply extestOn_keeps
    | split
    | dsimp only
    | intro _

end Sys2Proof.Machine
end

