-- ==== Sys2Proof/Laws/KeepIdle.lean ====
section
/-! SUPPORT. What each operation of Machine/Idle.lean touches. -/

namespace Sys2Proof.Machine

theorem idle_keeps {W0 : List Part} {r0 : State} (s : State) (h_regs : Part.regs ∈ W0) (h_hif : Part.hif ∈ W0) (h_queues : Part.queues ∈ W0) (h_sor : Part.sor ∈ W0) (h_dma : Part.dma ∈ W0) (h_srf : Part.srf ∈ W0) (h_drc : Part.drc ∈ W0) (h_chn : Part.chn ∈ W0) (h_sec : Part.sec ∈ W0) (h_upd : Part.upd ∈ W0) (h_dram : Part.dram ∈ W0) (h_ring : Part.ring ∈ W0) (h_time : Part.time ∈ W0) (h_wraps : Part.wraps ∈ W0) (h_up : Part.up ∈ W0) (h_out : Part.out ∈ W0) (h_free : Part.free ∈ W0) (h0 : Keeps W0 r0 s) :
    Keeps W0 r0 (idle s) := by
  unfold idle
  repeat' first
    | with_reducible assumption
    | with_reducible apply advance_keeps
    | with_reducible apply dmaPumpAll_keeps
    | with_reducible apply pushPump_keeps

end Sys2Proof.Machine
end

