-- ==== Sys2Proof/Laws/KeepWrites.lean ====
section
/-! SUPPORT. What each command that is one host write of one register touches. -/

namespace Sys2Proof.Machine

/-- What holds after a host write of a register, if it holds before, after a refusal is logged, and after the effect. -/
theorem hostWrite_frame {P : State → Prop} {s : State} {off : Nat} {v : Word} (hm : ¬ (0x30000 ≤ off ∧ off < 0x38100))
    (hr : off < 0x800000) (h0 : P s) (hl : ∀ c, P (logError s srcBar0 off c)) (he : P (regEffect s (storeReg s off v) off v)) :
    P (hostWrite s off v) := by
  unfold hostWrite regWrite
  split
  · rw [if_neg (fun h => hm ⟨h.1, h.2.1⟩), if_neg (fun h => by omega)]
    split
    · exact he
    · exact hl _
  · exact h0

/-- A write of one bit of GLB_BLKRST resets that block. -/
theorem effectGlb_blkrst (s0 s : State) {k : Nat} (hk : k < 32) :
    effectGlb s0 s R.GLB_BLKRST (BitVec.ofNat 32 (2 ^ k)) = if blkReset s0 k then s else blockReset s k := by
  have e : ((List.range 32).filter (fun j => (BitVec.ofNat 32 (2 ^ k)).toNat.testBit j && !blkReset s0 j))
      = ((List.range 32).filter (fun j => (BitVec.ofNat 32 (2 ^ k)).toNat.testBit j)).filter (fun j => !blkReset s0 j) := by
    rw [List.filter_filter]
    congr 1
    funext j
    exact Bool.and_comm _ _
  have e2 : (List.range 32).filter (fun j => (BitVec.ofNat 32 (2 ^ k)).toNat.testBit j) = [k] := by
    interval_cases k <;> decide
  unfold effectGlb
  rw [if_neg (by decide), if_neg (by decide), if_pos (by decide), e, e2]
  by_cases h : blkReset s0 k = true <;> simp [h]

theorem regEffect_00 (s0 s : State) {off : Nat} (v : Word) (h : off / 0x10000 = 0) :
    regEffect s0 s off v = effectGlb s0 s off v := by
  simp only [regEffect, h]

theorem regEffect_02 (s0 s : State) {off : Nat} (v : Word) (h : off / 0x10000 = 2) :
    regEffect s0 s off v = (if off = R.HIF_LINKCFG ∧ F.HIF_LINKCFG_RETRAIN.get v = 1 then linkRetrain s else s) := by
  simp only [regEffect, h]

theorem regEffect_09 (s0 s : State) {off : Nat} (v : Word) (h : off / 0x10000 = 9) :
    regEffect s0 s off v = effectSor s0 s off v := by
  simp only [regEffect, h]

theorem regEffect_0a (s0 s : State) {off : Nat} (v : Word) (h : off / 0x10000 = 10) :
    regEffect s0 s off v = (if off = R.SRF_CTL ∧ rises s0 F.SRF_CTL_EN v then srfEnable s else s) := by
  simp only [regEffect, h]

theorem regEffect_0b (s0 s : State) {off : Nat} (v : Word) (h : off / 0x10000 = 11) :
    regEffect s0 s off v = (if off = R.CMP_CTL ∧ falls s0 F.CMP_CTL_EN v then engineStop s else s) := by
  simp only [regEffect, h]

theorem regEffect_0c (s0 s : State) {off : Nat} (v : Word) (h : off / 0x10000 = 12) :
    regEffect s0 s off v = effectFrt s0 s off v := by
  simp only [regEffect, h]

theorem regEffect_0d (s0 s : State) {off : Nat} (v : Word) (h : off / 0x10000 = 13) :
    regEffect s0 s off v = (if off = R.CHN_INBOX ∧ rises s0 F.CHN_INBOX_EN v then s.setWord R.CHN_INBOXIDX 0#32 else s) := by
  simp only [regEffect, h]

theorem regEffect_0e (s0 s : State) {off : Nat} (v : Word) (h : off / 0x10000 = 14) :
    regEffect s0 s off v = effectLnk s0 s off v := by
  simp only [regEffect, h]

theorem regEffect_0f (s0 s : State) {off : Nat} (v : Word) (h : off / 0x10000 = 15) :
    regEffect s0 s off v = effectTim s0 s off v := by
  simp only [regEffect, h]

theorem regEffect_10 (s0 s : State) {off : Nat} (v : Word) (h : off / 0x10000 = 16) :
    regEffect s0 s off v = effectTan s0 s off v := by
  simp only [regEffect, h]

theorem regEffect_11 (s0 s : State) {off : Nat} (v : Word) (h : off / 0x10000 = 17) :
    regEffect s0 s off v = effectLmp s0 s off v := by
  simp only [regEffect, h]

theorem regEffect_12 (s0 s : State) {off : Nat} (v : Word) (h : off / 0x10000 = 18) :
    regEffect s0 s off v = effectSpk s0 s off v := by
  simp only [regEffect, h]

theorem regEffect_13 (s0 s : State) {off : Nat} (v : Word) (h : off / 0x10000 = 19) :
    regEffect s0 s off v = (if off = R.DRC_FREQ ∧ F.DRC_FREQ_GO.get v = 1 then freqGo s (F.DRC_FREQ_FSP.get v) (F.DRC_FREQ_FORCE.get v == 1) else s) := by
  simp only [regEffect, h]

theorem regEffect_14 (s0 s : State) {off : Nat} (v : Word) (h : off / 0x10000 = 20) :
    regEffect s0 s off v = effectThm s off := by
  simp only [regEffect, h]

theorem regEffect_15 (s0 s : State) {off : Nat} (v : Word) (h : off / 0x10000 = 21) :
    regEffect s0 s off v = effectCal s0 s off v := by
  simp only [regEffect, h]

theorem regEffect_17 (s0 s : State) {off : Nat} (v : Word) (h : off / 0x10000 = 23) :
    regEffect s0 s off v = effectUpd s off v := by
  simp only [regEffect, h]

theorem regEffect_que (s0 s : State) {off : Nat} (v : Word) (h : 4 ≤ off / 0x10000) (h2 : off / 0x10000 ≤ 7) :
    regEffect s0 s off v = effectQue s0 s off v := by
  have : off / 0x10000 = 4 ∨ off / 0x10000 = 5 ∨ off / 0x10000 = 6 ∨ off / 0x10000 = 7 := by omega
  rcases this with h | h | h | h <;> simp only [regEffect, h]

theorem blockReset_04 (s : State) : blockReset s 0x04 = queBlockReset (blockHeld s 0x04) := by
  simp [blockReset]

theorem blockReset_08 (s : State) : blockReset s 0x08 = dmaBlockReset (blockHeld s 0x08) := by
  simp [blockReset]

theorem blockReset_09 (s : State) : blockReset s 0x09 = sorBlockReset (blockHeld s 0x09) := by
  simp [blockReset]

theorem blockReset_0a (s : State) : blockReset s 0x0A = srfBlockReset (blockHeld s 0x0A) := by
  simp [blockReset]

theorem blockReset_0b (s : State) : blockReset s 0x0B = cmpBlockReset (blockHeld s 0x0B) := by
  simp [blockReset]

theorem blockReset_0c (s : State) : blockReset s 0x0C = frtBlockReset (blockHeld s 0x0C) := by
  simp [blockReset]

theorem blockReset_0d (s : State) : blockReset s 0x0D = chnBlockReset (blockHeld s 0x0D) := by
  simp [blockReset]

theorem blockReset_0e (s : State) : blockReset s 0x0E = lnkBlockReset (blockHeld s 0x0E) := by
  simp [blockReset]

theorem blockReset_0f (s : State) : blockReset s 0x0F = timBlockReset (blockHeld s 0x0F) := by
  simp [blockReset]

theorem blockReset_10 (s : State) : blockReset s 0x10 = tanBlockReset (blockHeld s 0x10) := by
  simp [blockReset]

theorem blockReset_11 (s : State) : blockReset s 0x11 = lmpBlockReset (blockHeld s 0x11) := by
  simp [blockReset]

theorem blockReset_12 (s : State) : blockReset s 0x12 = spkBlockReset (blockHeld s 0x12) := by
  simp [blockReset]

theorem blockReset_15 (s : State) : blockReset s 0x15 = calBlockReset (blockHeld s 0x15) := by
  simp [blockReset]

theorem blockReset_19 (s : State) : blockReset s 0x19 = dbgBlockReset (blockHeld s 0x19) := by
  simp [blockReset]

theorem execErrinfoClear_keeps {W0 : List Part} {r0 : State} (s : State) (h_regs : Part.regs ∈ W0) (h_hif : Part.hif ∈ W0) (h_chn : Part.chn ∈ W0) (h_cmp : Part.cmp ∈ W0) (h_out : Part.out ∈ W0) {t0 : State} (h0 : Keeps W0 r0 s)
    (ht : execErrinfoClear s = .next t0) : Keeps W0 r0 t0 := by
  unfold execErrinfoClear fieldWrite at ht
  injection ht with ht
  subst ht
  with_reducible refine hostWrite_frame (P := Keeps W0 r0) (by decide) (by decide) ?_ (fun c => ?_) ?_
  on_goal 3 => rw [regEffect_00 _ _ _ (by decide), effectGlb, if_pos (by decide)]
  repeat' first
    | with_reducible assumption
    | with_reducible apply storeReg_keeps
    | with_reducible apply logError_keeps
    | with_reducible apply setBitF_keeps
    | with_reducible apply clearErrors_keeps
    | split

theorem execWarmResetSoftware_keeps {W0 : List Part} {r0 : State} (s : State) (h_regs : Part.regs ∈ W0) (h_boot : Part.boot ∈ W0) (h_hif : Part.hif ∈ W0) (h_queues : Part.queues ∈ W0) (h_sor : Part.sor ∈ W0) (h_srf : Part.srf ∈ W0) (h_chn : Part.chn ∈ W0) (h_cmp : Part.cmp ∈ W0) (h_lmp : Part.lmp ∈ W0) (h_spk : Part.spk ∈ W0) (h_ring : Part.ring ∈ W0) (h_out : Part.out ∈ W0) {t0 : State} (h0 : Keeps W0 r0 s)
    (ht : execWarmResetSoftware s = .next t0) : Keeps W0 r0 t0 := by
  unfold execWarmResetSoftware fieldWrite at ht
  injection ht with ht
  subst ht
  with_reducible refine hostWrite_frame (P := Keeps W0 r0) (by decide) (by decide) ?_ (fun c => ?_) ?_
  on_goal 3 => rw [regEffect_00 _ _ _ (by decide), effectGlb, if_neg (by decide), if_pos (by decide)]
  repeat' first
    | with_reducible assumption
    | with_reducible apply storeReg_keeps
    | with_reducible apply logError_keeps
    | with_reducible apply setBitF_keeps
    | with_reducible apply warmRequest_keeps
    | split

theorem execQueBlockReset_keeps {W0 : List Part} {r0 : State} (s : State) (h_regs : Part.regs ∈ W0) (h_boot : Part.boot ∈ W0) (h_hif : Part.hif ∈ W0) (h_queues : Part.queues ∈ W0) (h_sor : Part.sor ∈ W0) (h_chn : Part.chn ∈ W0) (h_cmp : Part.cmp ∈ W0) (h_ring : Part.ring ∈ W0) (h_out : Part.out ∈ W0) {t0 : State} (h0 : Keeps W0 r0 s)
    (ht : execQueBlockReset s = .next t0) : Keeps W0 r0 t0 := by
  unfold execQueBlockReset blockResetWrite at ht
  injection ht with ht
  subst ht
  with_reducible refine hostWrite_frame (P := Keeps W0 r0) (by decide) (by decide) ?_ (fun c => ?_) ?_
  on_goal 3 => rw [regEffect_00 _ _ _ (by decide), effectGlb_blkrst _ _ (by decide), blockReset_04]
  repeat' first
    | with_reducible assumption
    | with_reducible apply storeReg_keeps
    | with_reducible apply logError_keeps
    | with_reducible apply blockHeld_keeps
    | with_reducible apply queBlockReset_keeps
    | split

theorem execDmaBlockReset_keeps {W0 : List Part} {r0 : State} (s : State) (h_regs : Part.regs ∈ W0) (h_boot : Part.boot ∈ W0) (h_hif : Part.hif ∈ W0) (h_queues : Part.queues ∈ W0) (h_sor : Part.sor ∈ W0) (h_dma : Part.dma ∈ W0) (h_chn : Part.chn ∈ W0) (h_cmp : Part.cmp ∈ W0) (h_ring : Part.ring ∈ W0) (h_out : Part.out ∈ W0) {t0 : State} (h0 : Keeps W0 r0 s)
    (ht : execDmaBlockReset s = .next t0) : Keeps W0 r0 t0 := by
  unfold execDmaBlockReset blockResetWrite at ht
  injection ht with ht
  subst ht
  with_reducible refine hostWrite_frame (P := Keeps W0 r0) (by decide) (by decide) ?_ (fun c => ?_) ?_
  on_goal 3 => rw [regEffect_00 _ _ _ (by decide), effectGlb_blkrst _ _ (by decide), blockReset_08]
  repeat' first
    | with_reducible assumption
    | with_reducible apply storeReg_keeps
    | with_reducible apply logError_keeps
    | with_reducible apply blockHeld_keeps
    | with_reducible apply dmaBlockReset_keeps
    | split

theorem execSorBlockReset_keeps {W0 : List Part} {r0 : State} (s : State) (h_regs : Part.regs ∈ W0) (h_boot : Part.boot ∈ W0) (h_hif : Part.hif ∈ W0) (h_queues : Part.queues ∈ W0) (h_sor : Part.sor ∈ W0) (h_chn : Part.chn ∈ W0) (h_cmp : Part.cmp ∈ W0) (h_ring : Part.ring ∈ W0) (h_out : Part.out ∈ W0) {t0 : State} (h0 : Keeps W0 r0 s)
    (ht : execSorBlockReset s = .next t0) : Keeps W0 r0 t0 := by
  unfold execSorBlockReset blockResetWrite at ht
  injection ht with ht
  subst ht
  with_reducible refine hostWrite_frame (P := Keeps W0 r0) (by decide) (by decide) ?_ (fun c => ?_) ?_
  on_goal 3 => rw [regEffect_00 _ _ _ (by decide), effectGlb_blkrst _ _ (by decide), blockReset_09]
  repeat' first
    | with_reducible assumption
    | with_reducible apply storeReg_keeps
    | with_reducible apply logError_keeps
    | with_reducible apply blockHeld_keeps
    | with_reducible apply sorBlockReset_keeps
    | split

theorem execSrfBlockReset_keeps {W0 : List Part} {r0 : State} (s : State) (h_regs : Part.regs ∈ W0) (h_boot : Part.boot ∈ W0) (h_hif : Part.hif ∈ W0) (h_queues : Part.queues ∈ W0) (h_sor : Part.sor ∈ W0) (h_srf : Part.srf ∈ W0) (h_chn : Part.chn ∈ W0) (h_cmp : Part.cmp ∈ W0) (h_ring : Part.ring ∈ W0) (h_out : Part.out ∈ W0) {t0 : State} (h0 : Keeps W0 r0 s)
    (ht : execSrfBlockReset s = .next t0) : Keeps W0 r0 t0 := by
  unfold execSrfBlockReset blockResetWrite at ht
  injection ht with ht
  subst ht
  with_reducible refine hostWrite_frame (P := Keeps W0 r0) (by decide) (by decide) ?_ (fun c => ?_) ?_
  on_goal 3 => rw [regEffect_00 _ _ _ (by decide), effectGlb_blkrst _ _ (by decide), blockReset_0a]
  repeat' first
    | with_reducible assumption
    | with_reducible apply storeReg_keeps
    | with_reducible apply logError_keeps
    | with_reducible apply blockHeld_keeps
    | with_reducible apply srfBlockReset_keeps
    | split

theorem execCmpBlockReset_keeps {W0 : List Part} {r0 : State} (s : State) (h_regs : Part.regs ∈ W0) (h_boot : Part.boot ∈ W0) (h_hif : Part.hif ∈ W0) (h_queues : Part.queues ∈ W0) (h_sor : Part.sor ∈ W0) (h_srf : Part.srf ∈ W0) (h_drc : Part.drc ∈ W0) (h_chn : Part.chn ∈ W0) (h_cmp : Part.cmp ∈ W0) (h_frt : Part.frt ∈ W0) (h_sec : Part.sec ∈ W0) (h_ring : Part.ring ∈ W0) (h_out : Part.out ∈ W0) (h_free : Part.free ∈ W0) {t0 : State} (h0 : Keeps W0 r0 s)
    (ht : execCmpBlockReset s = .next t0) : Keeps W0 r0 t0 := by
  unfold execCmpBlockReset blockResetWrite at ht
  injection ht with ht
  subst ht
  with_reducible refine hostWrite_frame (P := Keeps W0 r0) (by decide) (by decide) ?_ (fun c => ?_) ?_
  on_goal 3 => rw [regEffect_00 _ _ _ (by decide), effectGlb_blkrst _ _ (by decide), blockReset_0b]
  repeat' first
    | with_reducible assumption
    | with_reducible apply storeReg_keeps
    | with_reducible apply logError_keeps
    | with_reducible apply blockHeld_keeps
    | with_reducible apply cmpBlockReset_keeps
    | split

theorem execFrtBlockReset_keeps {W0 : List Part} {r0 : State} (s : State) (h_regs : Part.regs ∈ W0) (h_boot : Part.boot ∈ W0) (h_hif : Part.hif ∈ W0) (h_queues : Part.queues ∈ W0) (h_sor : Part.sor ∈ W0) (h_srf : Part.srf ∈ W0) (h_drc : Part.drc ∈ W0) (h_chn : Part.chn ∈ W0) (h_cmp : Part.cmp ∈ W0) (h_frt : Part.frt ∈ W0) (h_tim : Part.tim ∈ W0) (h_tan : Part.tan ∈ W0) (h_sec : Part.sec ∈ W0) (h_ring : Part.ring ∈ W0) (h_out : Part.out ∈ W0) (h_free : Part.free ∈ W0) {t0 : State} (h0 : Keeps W0 r0 s)
    (ht : execFrtBlockReset s = .next t0) : Keeps W0 r0 t0 := by
  unfold execFrtBlockReset blockResetWrite at ht
  injection ht with ht
  subst ht
  with_reducible refine hostWrite_frame (P := Keeps W0 r0) (by decide) (by decide) ?_ (fun c => ?_) ?_
  on_goal 3 => rw [regEffect_00 _ _ _ (by decide), effectGlb_blkrst _ _ (by decide), blockReset_0c]
  repeat' first
    | with_reducible assumption
    | with_reducible apply storeReg_keeps
    | with_reducible apply logError_keeps
    | with_reducible apply blockHeld_keeps
    | with_reducible apply frtBlockReset_keeps
    | split

theorem execChnBlockReset_keeps {W0 : List Part} {r0 : State} (s : State) (h_regs : Part.regs ∈ W0) (h_boot : Part.boot ∈ W0) (h_hif : Part.hif ∈ W0) (h_queues : Part.queues ∈ W0) (h_sor : Part.sor ∈ W0) (h_chn : Part.chn ∈ W0) (h_cmp : Part.cmp ∈ W0) (h_lnk : Part.lnk ∈ W0) (h_sec : Part.sec ∈ W0) (h_lmp : Part.lmp ∈ W0) (h_ring : Part.ring ∈ W0) (h_out : Part.out ∈ W0) {t0 : State} (h0 : Keeps W0 r0 s)
    (ht : execChnBlockReset s = .next t0) : Keeps W0 r0 t0 := by
  unfold execChnBlockReset blockResetWrite at ht
  injection ht with ht
  subst ht
  with_reducible refine hostWrite_frame (P := Keeps W0 r0) (by decide) (by decide) ?_ (fun c => ?_) ?_
  on_goal 3 => rw [regEffect_00 _ _ _ (by decide), effectGlb_blkrst _ _ (by decide), blockReset_0d]
  repeat' first
    | with_reducible assumption
    | with_reducible apply storeReg_keeps
    | with_reducible apply logError_keeps
    | with_reducible apply blockHeld_keeps
    | with_reducible apply chnBlockReset_keeps
    | split

theorem execLnkBlockReset_keeps {W0 : List Part} {r0 : State} (s : State) (h_regs : Part.regs ∈ W0) (h_boot : Part.boot ∈ W0) (h_hif : Part.hif ∈ W0) (h_chn : Part.chn ∈ W0) (h_cmp : Part.cmp ∈ W0) (h_lnk : Part.lnk ∈ W0) (h_tan : Part.tan ∈ W0) (h_cal : Part.cal ∈ W0) (h_out : Part.out ∈ W0) {t0 : State} (h0 : Keeps W0 r0 s)
    (ht : execLnkBlockReset s = .next t0) : Keeps W0 r0 t0 := by
  unfold execLnkBlockReset blockResetWrite at ht
  injection ht with ht
  subst ht
  with_reducible refine hostWrite_frame (P := Keeps W0 r0) (by decide) (by decide) ?_ (fun c => ?_) ?_
  on_goal 3 => rw [regEffect_00 _ _ _ (by decide), effectGlb_blkrst _ _ (by decide), blockReset_0e]
  repeat' first
    | with_reducible assumption
    | with_reducible apply storeReg_keeps
    | with_reducible apply logError_keeps
    | with_reducible apply blockHeld_keeps
    | with_reducible apply lnkBlockReset_keeps
    | split

theorem execTimBlockReset_keeps {W0 : List Part} {r0 : State} (s : State) (h_regs : Part.regs ∈ W0) (h_boot : Part.boot ∈ W0) (h_hif : Part.hif ∈ W0) (h_chn : Part.chn ∈ W0) (h_cmp : Part.cmp ∈ W0) (h_tim : Part.tim ∈ W0) (h_lmp : Part.lmp ∈ W0) (h_out : Part.out ∈ W0) {t0 : State} (h0 : Keeps W0 r0 s)
    (ht : execTimBlockReset s = .next t0) : Keeps W0 r0 t0 := by
  unfold execTimBlockReset blockResetWrite at ht
  injection ht with ht
  subst ht
  with_reducible refine hostWrite_frame (P := Keeps W0 r0) (by decide) (by decide) ?_ (fun c => ?_) ?_
  on_goal 3 => rw [regEffect_00 _ _ _ (by decide), effectGlb_blkrst _ _ (by decide), blockReset_0f]
  repeat' first
    | with_reducible assumption
    | with_reducible apply storeReg_keeps
    | with_reducible apply logError_keeps
    | with_reducible apply blockHeld_keeps
    | with_reducible apply timBlockReset_keeps
    | split

theorem execTanBlockReset_keeps {W0 : List Part} {r0 : State} (s : State) (h_regs : Part.regs ∈ W0) (h_boot : Part.boot ∈ W0) (h_hif : Part.hif ∈ W0) (h_queues : Part.queues ∈ W0) (h_sor : Part.sor ∈ W0) (h_chn : Part.chn ∈ W0) (h_cmp : Part.cmp ∈ W0) (h_tim : Part.tim ∈ W0) (h_tan : Part.tan ∈ W0) (h_ring : Part.ring ∈ W0) (h_out : Part.out ∈ W0) {t0 : State} (h0 : Keeps W0 r0 s)
    (ht : execTanBlockReset s = .next t0) : Keeps W0 r0 t0 := by
  unfold execTanBlockReset blockResetWrite at ht
  injection ht with ht
  subst ht
  with_reducible refine hostWrite_frame (P := Keeps W0 r0) (by decide) (by decide) ?_ (fun c => ?_) ?_
  on_goal 3 => rw [regEffect_00 _ _ _ (by decide), effectGlb_blkrst _ _ (by decide), blockReset_10]
  repeat' first
    | with_reducible assumption
    | with_reducible apply storeReg_keeps
    | with_reducible apply logError_keeps
    | with_reducible apply blockHeld_keeps
    | with_reducible apply tanBlockReset_keeps
    | split

theorem execLmpBlockReset_keeps {W0 : List Part} {r0 : State} (s : State) (h_regs : Part.regs ∈ W0) (h_boot : Part.boot ∈ W0) (h_hif : Part.hif ∈ W0) (h_queues : Part.queues ∈ W0) (h_sor : Part.sor ∈ W0) (h_srf : Part.srf ∈ W0) (h_chn : Part.chn ∈ W0) (h_cmp : Part.cmp ∈ W0) (h_tim : Part.tim ∈ W0) (h_lmp : Part.lmp ∈ W0) (h_spk : Part.spk ∈ W0) (h_ring : Part.ring ∈ W0) (h_out : Part.out ∈ W0) {t0 : State} (h0 : Keeps W0 r0 s)
    (ht : execLmpBlockReset s = .next t0) : Keeps W0 r0 t0 := by
  unfold execLmpBlockReset blockResetWrite at ht
  injection ht with ht
  subst ht
  with_reducible refine hostWrite_frame (P := Keeps W0 r0) (by decide) (by decide) ?_ (fun c => ?_) ?_
  on_goal 3 => rw [regEffect_00 _ _ _ (by decide), effectGlb_blkrst _ _ (by decide), blockReset_11]
  repeat' first
    | with_reducible assumption
    | with_reducible apply storeReg_keeps
    | with_reducible apply logError_keeps
    | with_reducible apply blockHeld_keeps
    | with_reducible apply lmpBlockReset_keeps
    | split

theorem execSpkBlockReset_keeps {W0 : List Part} {r0 : State} (s : State) (h_regs : Part.regs ∈ W0) (h_boot : Part.boot ∈ W0) (h_hif : Part.hif ∈ W0) (h_chn : Part.chn ∈ W0) (h_cmp : Part.cmp ∈ W0) (h_spk : Part.spk ∈ W0) (h_out : Part.out ∈ W0) {t0 : State} (h0 : Keeps W0 r0 s)
    (ht : execSpkBlockReset s = .next t0) : Keeps W0 r0 t0 := by
  unfold execSpkBlockReset blockResetWrite at ht
  injection ht with ht
  subst ht
  with_reducible refine hostWrite_frame (P := Keeps W0 r0) (by decide) (by decide) ?_ (fun c => ?_) ?_
  on_goal 3 => rw [regEffect_00 _ _ _ (by decide), effectGlb_blkrst _ _ (by decide), blockReset_12]
  repeat' first
    | with_reducible assumption
    | with_reducible apply storeReg_keeps
    | with_reducible apply logError_keeps
    | with_reducible apply blockHeld_keeps
    | with_reducible apply spkBlockReset_keeps
    | split

theorem execCalBlockReset_keeps {W0 : List Part} {r0 : State} (s : State) (h_regs : Part.regs ∈ W0) (h_boot : Part.boot ∈ W0) (h_hif : Part.hif ∈ W0) (h_chn : Part.chn ∈ W0) (h_cmp : Part.cmp ∈ W0) (h_lnk : Part.lnk ∈ W0) (h_cal : Part.cal ∈ W0) (h_out : Part.out ∈ W0) {t0 : State} (h0 : Keeps W0 r0 s)
    (ht : execCalBlockReset s = .next t0) : Keeps W0 r0 t0 := by
  unfold execCalBlockReset blockResetWrite at ht
  injection ht with ht
  subst ht
  with_reducible refine hostWrite_frame (P := Keeps W0 r0) (by decide) (by decide) ?_ (fun c => ?_) ?_
  on_goal 3 => rw [regEffect_00 _ _ _ (by decide), effectGlb_blkrst _ _ (by decide), blockReset_15]
  repeat' first
    | with_reducible assumption
    | with_reducible apply storeReg_keeps
    | with_reducible apply logError_keeps
    | with_reducible apply blockHeld_keeps
    | with_reducible apply calBlockReset_keeps
    | split

theorem execDbgBlockReset_keeps {W0 : List Part} {r0 : State} (s : State) (h_regs : Part.regs ∈ W0) (h_boot : Part.boot ∈ W0) (h_hif : Part.hif ∈ W0) (h_chn : Part.chn ∈ W0) (h_cmp : Part.cmp ∈ W0) (h_sec : Part.sec ∈ W0) (h_out : Part.out ∈ W0) {t0 : State} (h0 : Keeps W0 r0 s)
    (ht : execDbgBlockReset s = .next t0) : Keeps W0 r0 t0 := by
  unfold execDbgBlockReset blockResetWrite at ht
  injection ht with ht
  subst ht
  with_reducible refine hostWrite_frame (P := Keeps W0 r0) (by decide) (by decide) ?_ (fun c => ?_) ?_
  on_goal 3 => rw [regEffect_00 _ _ _ (by decide), effectGlb_blkrst _ _ (by decide), blockReset_19]
  repeat' first
    | with_reducible assumption
    | with_reducible apply storeReg_keeps
    | with_reducible apply logError_keeps
    | with_reducible apply blockHeld_keeps
    | with_reducible apply dbgBlockReset_keeps
    | split

theorem execHifRetrain_keeps {W0 : List Part} {r0 : State} (v : Word) (s : State) (h_regs : Part.regs ∈ W0) (h_boot : Part.boot ∈ W0) (h_hif : Part.hif ∈ W0) (h_queues : Part.queues ∈ W0) (h_sor : Part.sor ∈ W0) (h_dma : Part.dma ∈ W0) (h_srf : Part.srf ∈ W0) (h_drc : Part.drc ∈ W0) (h_chn : Part.chn ∈ W0) (h_cmp : Part.cmp ∈ W0) (h_dram : Part.dram ∈ W0) (h_ring : Part.ring ∈ W0) (h_out : Part.out ∈ W0) (h_free : Part.free ∈ W0) {t0 : State} (h0 : Keeps W0 r0 s)
    (ht : execHifRetrain v s = .next t0) : Keeps W0 r0 t0 := by
  unfold execHifRetrain fieldWrite at ht
  injection ht with ht
  subst ht
  with_reducible refine hostWrite_frame (P := Keeps W0 r0) (by decide) (by decide) ?_ (fun c => ?_) ?_
  on_goal 3 => rw [regEffect_02 _ _ _ (by decide)]
  repeat' first
    | with_reducible assumption
    | with_reducible apply storeReg_keeps
    | with_reducible apply logError_keeps
    | with_reducible apply setBitF_keeps
    | with_reducible apply linkRetrain_keeps
    | split

theorem execQueueEnable_keeps {W0 : List Part} {r0 : State} (q : Nat) (s : State) (h_regs : Part.regs ∈ W0) (h_hif : Part.hif ∈ W0) (h_queues : Part.queues ∈ W0) (h_chn : Part.chn ∈ W0) (h_cmp : Part.cmp ∈ W0) (h_out : Part.out ∈ W0) {t0 : State} (h0 : Keeps W0 r0 s)
    (ht : execQueueEnable q s = .next t0) : Keeps W0 r0 t0 := by
  unfold execQueueEnable queueWrite at ht
  injection ht with ht
  subst ht
  split
  on_goal 2 => exact h0
  rename_i hi
  with_reducible refine hostWrite_frame (P := Keeps W0 r0) (by unfold R.QUE_CTL; omega) (by unfold R.QUE_CTL; omega) ?_ (fun c => ?_) ?_
  on_goal 3 => rw [regEffect_que _ _ _ (by unfold R.QUE_CTL; omega) (by unfold R.QUE_CTL; omega)]
  repeat' first
    | with_reducible assumption
    | with_reducible apply storeReg_keeps
    | with_reducible apply logError_keeps
    | with_reducible apply setBitF_keeps
    | with_reducible apply effectQue_keeps

theorem execQueueDisable_keeps {W0 : List Part} {r0 : State} (q : Nat) (s : State) (h_regs : Part.regs ∈ W0) (h_hif : Part.hif ∈ W0) (h_queues : Part.queues ∈ W0) (h_chn : Part.chn ∈ W0) (h_cmp : Part.cmp ∈ W0) (h_out : Part.out ∈ W0) {t0 : State} (h0 : Keeps W0 r0 s)
    (ht : execQueueDisable q s = .next t0) : Keeps W0 r0 t0 := by
  unfold execQueueDisable queueWrite at ht
  injection ht with ht
  subst ht
  split
  on_goal 2 => exact h0
  rename_i hi
  with_reducible refine hostWrite_frame (P := Keeps W0 r0) (by unfold R.QUE_CTL; omega) (by unfold R.QUE_CTL; omega) ?_ (fun c => ?_) ?_
  on_goal 3 => rw [regEffect_que _ _ _ (by unfold R.QUE_CTL; omega) (by unfold R.QUE_CTL; omega)]
  repeat' first
    | with_reducible assumption
    | with_reducible apply storeReg_keeps
    | with_reducible apply logError_keeps
    | with_reducible apply setBitF_keeps
    | with_reducible apply effectQue_keeps

theorem execQueueStop_keeps {W0 : List Part} {r0 : State} (q : Nat) (s : State) (h_regs : Part.regs ∈ W0) (h_hif : Part.hif ∈ W0) (h_queues : Part.queues ∈ W0) (h_chn : Part.chn ∈ W0) (h_cmp : Part.cmp ∈ W0) (h_out : Part.out ∈ W0) {t0 : State} (h0 : Keeps W0 r0 s)
    (ht : execQueueStop q s = .next t0) : Keeps W0 r0 t0 := by
  unfold execQueueStop queueWrite at ht
  injection ht with ht
  subst ht
  split
  on_goal 2 => exact h0
  rename_i hi
  with_reducible refine hostWrite_frame (P := Keeps W0 r0) (by unfold R.QUE_CTL; omega) (by unfold R.QUE_CTL; omega) ?_ (fun c => ?_) ?_
  on_goal 3 => rw [regEffect_que _ _ _ (by unfold R.QUE_CTL; omega) (by unfold R.QUE_CTL; omega)]
  repeat' first
    | with_reducible assumption
    | with_reducible apply storeReg_keeps
    | with_reducible apply logError_keeps
    | with_reducible apply setBitF_keeps
    | with_reducible apply effectQue_keeps

theorem execQueueResume_keeps {W0 : List Part} {r0 : State} (q : Nat) (s : State) (h_regs : Part.regs ∈ W0) (h_hif : Part.hif ∈ W0) (h_queues : Part.queues ∈ W0) (h_chn : Part.chn ∈ W0) (h_cmp : Part.cmp ∈ W0) (h_out : Part.out ∈ W0) {t0 : State} (h0 : Keeps W0 r0 s)
    (ht : execQueueResume q s = .next t0) : Keeps W0 r0 t0 := by
  unfold execQueueResume queueWrite at ht
  injection ht with ht
  subst ht
  split
  on_goal 2 => exact h0
  rename_i hi
  with_reducible refine hostWrite_frame (P := Keeps W0 r0) (by unfold R.QUE_CTL; omega) (by unfold R.QUE_CTL; omega) ?_ (fun c => ?_) ?_
  on_goal 3 => rw [regEffect_que _ _ _ (by unfold R.QUE_CTL; omega) (by unfold R.QUE_CTL; omega)]
  repeat' first
    | with_reducible assumption
    | with_reducible apply storeReg_keeps
    | with_reducible apply logError_keeps
    | with_reducible apply setBitF_keeps
    | with_reducible apply effectQue_keeps

theorem execSrfEnable_keeps {W0 : List Part} {r0 : State} (s : State) (h_regs : Part.regs ∈ W0) (h_hif : Part.hif ∈ W0) (h_srf : Part.srf ∈ W0) (h_chn : Part.chn ∈ W0) (h_cmp : Part.cmp ∈ W0) (h_out : Part.out ∈ W0) {t0 : State} (h0 : Keeps W0 r0 s)
    (ht : execSrfEnable s = .next t0) : Keeps W0 r0 t0 := by
  unfold execSrfEnable fieldWrite at ht
  injection ht with ht
  subst ht
  with_reducible refine hostWrite_frame (P := Keeps W0 r0) (by decide) (by decide) ?_ (fun c => ?_) ?_
  on_goal 3 => rw [regEffect_0a _ _ _ (by decide)]
  repeat' first
    | with_reducible assumption
    | with_reducible apply storeReg_keeps
    | with_reducible apply logError_keeps
    | with_reducible apply setBitF_keeps
    | with_reducible apply srfEnable_keeps
    | split

theorem execCmpEnable_keeps {W0 : List Part} {r0 : State} (v : Word) (s : State) (h_regs : Part.regs ∈ W0) (h_hif : Part.hif ∈ W0) (h_queues : Part.queues ∈ W0) (h_sor : Part.sor ∈ W0) (h_srf : Part.srf ∈ W0) (h_chn : Part.chn ∈ W0) (h_cmp : Part.cmp ∈ W0) (h_ring : Part.ring ∈ W0) (h_out : Part.out ∈ W0) {t0 : State} (h0 : Keeps W0 r0 s)
    (ht : execCmpEnable v s = .next t0) : Keeps W0 r0 t0 := by
  unfold execCmpEnable fieldWrite at ht
  injection ht with ht
  subst ht
  with_reducible refine hostWrite_frame (P := Keeps W0 r0) (by decide) (by decide) ?_ (fun c => ?_) ?_
  on_goal 3 => rw [regEffect_0b _ _ _ (by decide)]
  repeat' first
    | with_reducible assumption
    | with_reducible apply storeReg_keeps
    | with_reducible apply logError_keeps
    | with_reducible apply setBitF_keeps
    | with_reducible apply engineStop_keeps
    | split

theorem execCmpDisable_keeps {W0 : List Part} {r0 : State} (v : Word) (s : State) (h_regs : Part.regs ∈ W0) (h_hif : Part.hif ∈ W0) (h_queues : Part.queues ∈ W0) (h_sor : Part.sor ∈ W0) (h_srf : Part.srf ∈ W0) (h_chn : Part.chn ∈ W0) (h_cmp : Part.cmp ∈ W0) (h_ring : Part.ring ∈ W0) (h_out : Part.out ∈ W0) {t0 : State} (h0 : Keeps W0 r0 s)
    (ht : execCmpDisable v s = .next t0) : Keeps W0 r0 t0 := by
  unfold execCmpDisable fieldWrite at ht
  injection ht with ht
  subst ht
  with_reducible refine hostWrite_frame (P := Keeps W0 r0) (by decide) (by decide) ?_ (fun c => ?_) ?_
  on_goal 3 => rw [regEffect_0b _ _ _ (by decide)]
  repeat' first
    | with_reducible assumption
    | with_reducible apply storeReg_keeps
    | with_reducible apply logError_keeps
    | with_reducible apply setBitF_keeps
    | with_reducible apply engineStop_keeps
    | split

theorem execCommitGo_keeps {W0 : List Part} {r0 : State} (dt : Nat) (s : State) (h_regs : Part.regs ∈ W0) (h_hif : Part.hif ∈ W0) (h_queues : Part.queues ∈ W0) (h_sor : Part.sor ∈ W0) (h_srf : Part.srf ∈ W0) (h_drc : Part.drc ∈ W0) (h_chn : Part.chn ∈ W0) (h_cmp : Part.cmp ∈ W0) (h_frt : Part.frt ∈ W0) (h_tim : Part.tim ∈ W0) (h_tan : Part.tan ∈ W0) (h_sec : Part.sec ∈ W0) (h_ring : Part.ring ∈ W0) (h_time : Part.time ∈ W0) (h_wraps : Part.wraps ∈ W0) (h_up : Part.up ∈ W0) (h_out : Part.out ∈ W0) (h_free : Part.free ∈ W0) {t0 : State} (h0 : Keeps W0 r0 s)
    (ht : execCommitGo dt s = .next t0) : Keeps W0 r0 t0 := by
  unfold execCommitGo fieldWrite at ht
  injection ht with ht
  subst ht
  with_reducible refine hostWrite_frame (P := Keeps W0 r0) (by decide) (by decide) ?_ (fun c => ?_) ?_
  on_goal 3 => rw [regEffect_0c _ _ _ (by decide)]
  repeat' first
    | with_reducible assumption
    | with_reducible apply storeReg_keeps
    | with_reducible apply logError_keeps
    | with_reducible apply setBitF_keeps
    | with_reducible apply effectFrt_keeps
    | with_reducible apply advance_keeps

theorem execFrtEnable_keeps {W0 : List Part} {r0 : State} (dt : Nat) (v : Word) (s : State) (h_regs : Part.regs ∈ W0) (h_hif : Part.hif ∈ W0) (h_queues : Part.queues ∈ W0) (h_sor : Part.sor ∈ W0) (h_srf : Part.srf ∈ W0) (h_drc : Part.drc ∈ W0) (h_chn : Part.chn ∈ W0) (h_cmp : Part.cmp ∈ W0) (h_frt : Part.frt ∈ W0) (h_tim : Part.tim ∈ W0) (h_tan : Part.tan ∈ W0) (h_sec : Part.sec ∈ W0) (h_ring : Part.ring ∈ W0) (h_time : Part.time ∈ W0) (h_wraps : Part.wraps ∈ W0) (h_up : Part.up ∈ W0) (h_out : Part.out ∈ W0) (h_free : Part.free ∈ W0) {t0 : State} (h0 : Keeps W0 r0 s)
    (ht : execFrtEnable dt v s = .next t0) : Keeps W0 r0 t0 := by
  unfold execFrtEnable fieldWrite at ht
  injection ht with ht
  subst ht
  with_reducible refine hostWrite_frame (P := Keeps W0 r0) (by decide) (by decide) ?_ (fun c => ?_) ?_
  on_goal 3 => rw [regEffect_0c _ _ _ (by decide)]
  repeat' first
    | with_reducible assumption
    | with_reducible apply storeReg_keeps
    | with_reducible apply logError_keeps
    | with_reducible apply setBitF_keeps
    | with_reducible apply effectFrt_keeps
    | with_reducible apply advance_keeps

theorem execFrtDisable_keeps {W0 : List Part} {r0 : State} (dt : Nat) (v : Word) (s : State) (h_regs : Part.regs ∈ W0) (h_hif : Part.hif ∈ W0) (h_queues : Part.queues ∈ W0) (h_sor : Part.sor ∈ W0) (h_srf : Part.srf ∈ W0) (h_drc : Part.drc ∈ W0) (h_chn : Part.chn ∈ W0) (h_cmp : Part.cmp ∈ W0) (h_frt : Part.frt ∈ W0) (h_tim : Part.tim ∈ W0) (h_tan : Part.tan ∈ W0) (h_sec : Part.sec ∈ W0) (h_ring : Part.ring ∈ W0) (h_time : Part.time ∈ W0) (h_wraps : Part.wraps ∈ W0) (h_up : Part.up ∈ W0) (h_out : Part.out ∈ W0) (h_free : Part.free ∈ W0) {t0 : State} (h0 : Keeps W0 r0 s)
    (ht : execFrtDisable dt v s = .next t0) : Keeps W0 r0 t0 := by
  unfold execFrtDisable fieldWrite at ht
  injection ht with ht
  subst ht
  with_reducible refine hostWrite_frame (P := Keeps W0 r0) (by decide) (by decide) ?_ (fun c => ?_) ?_
  on_goal 3 => rw [regEffect_0c _ _ _ (by decide)]
  repeat' first
    | with_reducible assumption
    | with_reducible apply storeReg_keeps
    | with_reducible apply logError_keeps
    | with_reducible apply setBitF_keeps
    | with_reducible apply effectFrt_keeps
    | with_reducible apply advance_keeps

theorem execInboxEnable_keeps {W0 : List Part} {r0 : State} (v : Word) (s : State) (h_regs : Part.regs ∈ W0) (h_hif : Part.hif ∈ W0) (h_chn : Part.chn ∈ W0) (h_cmp : Part.cmp ∈ W0) (h_out : Part.out ∈ W0) {t0 : State} (h0 : Keeps W0 r0 s)
    (ht : execInboxEnable v s = .next t0) : Keeps W0 r0 t0 := by
  unfold execInboxEnable fieldWrite at ht
  injection ht with ht
  subst ht
  with_reducible refine hostWrite_frame (P := Keeps W0 r0) (by decide) (by decide) ?_ (fun c => ?_) ?_
  on_goal 3 => rw [regEffect_0d _ _ _ (by decide)]
  repeat' first
    | with_reducible assumption
    | with_reducible apply storeReg_keeps
    | with_reducible apply logError_keeps
    | with_reducible apply setBitF_keeps
    | with_reducible apply setWord_keeps
    | split

theorem execInboxRdWrite_keeps {W0 : List Part} {r0 : State} (rd : Nat) (s : State) (h_regs : Part.regs ∈ W0) (h_hif : Part.hif ∈ W0) (h_chn : Part.chn ∈ W0) (h_cmp : Part.cmp ∈ W0) (h_out : Part.out ∈ W0) {t0 : State} (h0 : Keeps W0 r0 s)
    (ht : execInboxRdWrite rd s = .next t0) : Keeps W0 r0 t0 := by
  unfold execInboxRdWrite fieldWrite at ht
  injection ht with ht
  subst ht
  with_reducible refine hostWrite_frame (P := Keeps W0 r0) (by decide) (by decide) ?_ (fun c => ?_) ?_
  on_goal 3 => rw [regEffect_0d _ _ _ (by decide), if_neg (fun h => absurd h.1 (by decide))]
  repeat' first
    | with_reducible assumption
    | with_reducible apply storeReg_keeps
    | with_reducible apply logError_keeps
    | with_reducible apply setBitF_keeps
    | split

theorem execPortEnable_keeps {W0 : List Part} {r0 : State} (p : Nat) (v : Word) (s : State) (h_regs : Part.regs ∈ W0) (h_hif : Part.hif ∈ W0) (h_chn : Part.chn ∈ W0) (h_cmp : Part.cmp ∈ W0) (h_lnk : Part.lnk ∈ W0) (h_tan : Part.tan ∈ W0) (h_cal : Part.cal ∈ W0) (h_out : Part.out ∈ W0) {t0 : State} (h0 : Keeps W0 r0 s)
    (ht : execPortEnable p v s = .next t0) : Keeps W0 r0 t0 := by
  unfold execPortEnable indexWrite at ht
  injection ht with ht
  subst ht
  split
  on_goal 2 => exact h0
  rename_i hi
  with_reducible refine hostWrite_frame (P := Keeps W0 r0) (by dsimp only; omega) (by dsimp only; omega) ?_ (fun c => ?_) ?_
  on_goal 3 => rw [regEffect_0e _ _ _ (by dsimp only; omega)]
  repeat' first
    | with_reducible assumption
    | with_reducible apply storeReg_keeps
    | with_reducible apply logError_keeps
    | with_reducible apply setBitF_keeps
    | with_reducible apply effectLnk_keeps

theorem execPortDisable_keeps {W0 : List Part} {r0 : State} (p : Nat) (v : Word) (s : State) (h_regs : Part.regs ∈ W0) (h_hif : Part.hif ∈ W0) (h_chn : Part.chn ∈ W0) (h_cmp : Part.cmp ∈ W0) (h_lnk : Part.lnk ∈ W0) (h_tan : Part.tan ∈ W0) (h_cal : Part.cal ∈ W0) (h_out : Part.out ∈ W0) {t0 : State} (h0 : Keeps W0 r0 s)
    (ht : execPortDisable p v s = .next t0) : Keeps W0 r0 t0 := by
  unfold execPortDisable indexWrite at ht
  injection ht with ht
  subst ht
  split
  on_goal 2 => exact h0
  rename_i hi
  with_reducible refine hostWrite_frame (P := Keeps W0 r0) (by dsimp only; omega) (by dsimp only; omega) ?_ (fun c => ?_) ?_
  on_goal 3 => rw [regEffect_0e _ _ _ (by dsimp only; omega)]
  repeat' first
    | with_reducible assumption
    | with_reducible apply storeReg_keeps
    | with_reducible apply logError_keeps
    | with_reducible apply setBitF_keeps
    | with_reducible apply effectLnk_keeps

theorem execPortRetrain_keeps {W0 : List Part} {r0 : State} (p : Nat) (v : Word) (s : State) (h_regs : Part.regs ∈ W0) (h_hif : Part.hif ∈ W0) (h_chn : Part.chn ∈ W0) (h_cmp : Part.cmp ∈ W0) (h_lnk : Part.lnk ∈ W0) (h_tan : Part.tan ∈ W0) (h_cal : Part.cal ∈ W0) (h_out : Part.out ∈ W0) {t0 : State} (h0 : Keeps W0 r0 s)
    (ht : execPortRetrain p v s = .next t0) : Keeps W0 r0 t0 := by
  unfold execPortRetrain indexWrite at ht
  injection ht with ht
  subst ht
  split
  on_goal 2 => exact h0
  rename_i hi
  with_reducible refine hostWrite_frame (P := Keeps W0 r0) (by dsimp only; omega) (by dsimp only; omega) ?_ (fun c => ?_) ?_
  on_goal 3 => rw [regEffect_0e _ _ _ (by dsimp only; omega)]
  repeat' first
    | with_reducible assumption
    | with_reducible apply storeReg_keeps
    | with_reducible apply logError_keeps
    | with_reducible apply setBitF_keeps
    | with_reducible apply effectLnk_keeps

theorem execPortTestEnter_keeps {W0 : List Part} {r0 : State} (p : Nat) (v : Word) (s : State) (h_regs : Part.regs ∈ W0) (h_hif : Part.hif ∈ W0) (h_chn : Part.chn ∈ W0) (h_cmp : Part.cmp ∈ W0) (h_lnk : Part.lnk ∈ W0) (h_tan : Part.tan ∈ W0) (h_cal : Part.cal ∈ W0) (h_out : Part.out ∈ W0) {t0 : State} (h0 : Keeps W0 r0 s)
    (ht : execPortTestEnter p v s = .next t0) : Keeps W0 r0 t0 := by
  unfold execPortTestEnter indexWrite at ht
  injection ht with ht
  subst ht
  split
  on_goal 2 => exact h0
  rename_i hi
  with_reducible refine hostWrite_frame (P := Keeps W0 r0) (by dsimp only; omega) (by dsimp only; omega) ?_ (fun c => ?_) ?_
  on_goal 3 => rw [regEffect_0e _ _ _ (by dsimp only; omega)]
  repeat' first
    | with_reducible assumption
    | with_reducible apply storeReg_keeps
    | with_reducible apply logError_keeps
    | with_reducible apply setBitF_keeps
    | with_reducible apply effectLnk_keeps

theorem execPortTestExit_keeps {W0 : List Part} {r0 : State} (p : Nat) (v : Word) (s : State) (h_regs : Part.regs ∈ W0) (h_hif : Part.hif ∈ W0) (h_chn : Part.chn ∈ W0) (h_cmp : Part.cmp ∈ W0) (h_lnk : Part.lnk ∈ W0) (h_tan : Part.tan ∈ W0) (h_cal : Part.cal ∈ W0) (h_out : Part.out ∈ W0) {t0 : State} (h0 : Keeps W0 r0 s)
    (ht : execPortTestExit p v s = .next t0) : Keeps W0 r0 t0 := by
  unfold execPortTestExit indexWrite at ht
  injection ht with ht
  subst ht
  split
  on_goal 2 => exact h0
  rename_i hi
  with_reducible refine hostWrite_frame (P := Keeps W0 r0) (by dsimp only; omega) (by dsimp only; omega) ?_ (fun c => ?_) ?_
  on_goal 3 => rw [regEffect_0e _ _ _ (by dsimp only; omega)]
  repeat' first
    | with_reducible assumption
    | with_reducible apply storeReg_keeps
    | with_reducible apply logError_keeps
    | with_reducible apply setBitF_keeps
    | with_reducible apply effectLnk_keeps

theorem execPrbsInject_keeps {W0 : List Part} {r0 : State} (i : Nat) (v : Word) (s : State) (h_regs : Part.regs ∈ W0) (h_hif : Part.hif ∈ W0) (h_chn : Part.chn ∈ W0) (h_cmp : Part.cmp ∈ W0) (h_lnk : Part.lnk ∈ W0) (h_tan : Part.tan ∈ W0) (h_cal : Part.cal ∈ W0) (h_out : Part.out ∈ W0) {t0 : State} (h0 : Keeps W0 r0 s)
    (ht : execPrbsInject i v s = .next t0) : Keeps W0 r0 t0 := by
  unfold execPrbsInject indexWrite at ht
  injection ht with ht
  subst ht
  split
  on_goal 2 => exact h0
  rename_i hi
  with_reducible refine hostWrite_frame (P := Keeps W0 r0) (by dsimp only; omega) (by dsimp only; omega) ?_ (fun c => ?_) ?_
  on_goal 3 => rw [regEffect_0e _ _ _ (by dsimp only; omega)]
  repeat' first
    | with_reducible assumption
    | with_reducible apply storeReg_keeps
    | with_reducible apply logError_keeps
    | with_reducible apply setBitF_keeps
    | with_reducible apply effectLnk_keeps

theorem execTimeAdjStep_keeps {W0 : List Part} {r0 : State} (step : Nat) (s : State) (h_regs : Part.regs ∈ W0) (h_hif : Part.hif ∈ W0) (h_sor : Part.sor ∈ W0) (h_chn : Part.chn ∈ W0) (h_cmp : Part.cmp ∈ W0) (h_tim : Part.tim ∈ W0) (h_tan : Part.tan ∈ W0) (h_lmp : Part.lmp ∈ W0) (h_time : Part.time ∈ W0) (h_wraps : Part.wraps ∈ W0) (h_out : Part.out ∈ W0) {t0 : State} (h0 : Keeps W0 r0 s)
    (ht : execTimeAdjStep step s = .next t0) : Keeps W0 r0 t0 := by
  unfold execTimeAdjStep fieldWrite at ht
  injection ht with ht
  subst ht
  with_reducible refine hostWrite_frame (P := Keeps W0 r0) (by decide) (by decide) ?_ (fun c => ?_) ?_
  on_goal 3 => rw [regEffect_0f _ _ _ (by decide)]
  repeat' first
    | with_reducible assumption
    | with_reducible apply storeReg_keeps
    | with_reducible apply logError_keeps
    | with_reducible apply setBitF_keeps
    | with_reducible apply effectTim_keeps

theorem execRefArm_keeps {W0 : List Part} {r0 : State} (v : Word) (s : State) (h_regs : Part.regs ∈ W0) (h_hif : Part.hif ∈ W0) (h_sor : Part.sor ∈ W0) (h_chn : Part.chn ∈ W0) (h_cmp : Part.cmp ∈ W0) (h_tim : Part.tim ∈ W0) (h_tan : Part.tan ∈ W0) (h_lmp : Part.lmp ∈ W0) (h_time : Part.time ∈ W0) (h_wraps : Part.wraps ∈ W0) (h_out : Part.out ∈ W0) {t0 : State} (h0 : Keeps W0 r0 s)
    (ht : execRefArm v s = .next t0) : Keeps W0 r0 t0 := by
  unfold execRefArm fieldWrite at ht
  injection ht with ht
  subst ht
  with_reducible refine hostWrite_frame (P := Keeps W0 r0) (by decide) (by decide) ?_ (fun c => ?_) ?_
  on_goal 3 => rw [regEffect_0f _ _ _ (by decide)]
  repeat' first
    | with_reducible assumption
    | with_reducible apply storeReg_keeps
    | with_reducible apply logError_keeps
    | with_reducible apply setBitF_keeps
    | with_reducible apply effectTim_keeps

theorem execGeneratorEnable_keeps {W0 : List Part} {r0 : State} (dt : Nat) (g : Nat) (v : Word) (s : State) (h_regs : Part.regs ∈ W0) (h_hif : Part.hif ∈ W0) (h_sor : Part.sor ∈ W0) (h_chn : Part.chn ∈ W0) (h_cmp : Part.cmp ∈ W0) (h_tim : Part.tim ∈ W0) (h_tan : Part.tan ∈ W0) (h_lmp : Part.lmp ∈ W0) (h_time : Part.time ∈ W0) (h_wraps : Part.wraps ∈ W0) (h_up : Part.up ∈ W0) (h_out : Part.out ∈ W0) {t0 : State} (h0 : Keeps W0 r0 s)
    (ht : execGeneratorEnable dt g v s = .next t0) : Keeps W0 r0 t0 := by
  unfold execGeneratorEnable indexWrite at ht
  injection ht with ht
  subst ht
  split
  on_goal 2 => with_reducible apply advance_keeps <;> with_reducible assumption
  rename_i hi
  with_reducible refine hostWrite_frame (P := Keeps W0 r0) (by dsimp only; omega) (by dsimp only; omega) ?_ (fun c => ?_) ?_
  on_goal 3 => rw [regEffect_0f _ _ _ (by dsimp only; omega)]
  repeat' first
    | with_reducible assumption
    | with_reducible apply storeReg_keeps
    | with_reducible apply logError_keeps
    | with_reducible apply setBitF_keeps
    | with_reducible apply effectTim_keeps
    | with_reducible apply advance_keeps

theorem execGeneratorDisable_keeps {W0 : List Part} {r0 : State} (dt : Nat) (g : Nat) (v : Word) (s : State) (h_regs : Part.regs ∈ W0) (h_hif : Part.hif ∈ W0) (h_sor : Part.sor ∈ W0) (h_chn : Part.chn ∈ W0) (h_cmp : Part.cmp ∈ W0) (h_tim : Part.tim ∈ W0) (h_tan : Part.tan ∈ W0) (h_lmp : Part.lmp ∈ W0) (h_time : Part.time ∈ W0) (h_wraps : Part.wraps ∈ W0) (h_up : Part.up ∈ W0) (h_out : Part.out ∈ W0) {t0 : State} (h0 : Keeps W0 r0 s)
    (ht : execGeneratorDisable dt g v s = .next t0) : Keeps W0 r0 t0 := by
  unfold execGeneratorDisable indexWrite at ht
  injection ht with ht
  subst ht
  split
  on_goal 2 => with_reducible apply advance_keeps <;> with_reducible assumption
  rename_i hi
  with_reducible refine hostWrite_frame (P := Keeps W0 r0) (by dsimp only; omega) (by dsimp only; omega) ?_ (fun c => ?_) ?_
  on_goal 3 => rw [regEffect_0f _ _ _ (by dsimp only; omega)]
  repeat' first
    | with_reducible assumption
    | with_reducible apply storeReg_keeps
    | with_reducible apply logError_keeps
    | with_reducible apply setBitF_keeps
    | with_reducible apply effectTim_keeps
    | with_reducible apply advance_keeps

theorem execCadgenWrite_keeps {W0 : List Part} {r0 : State} (g : Nat) (v : Word) (s : State) (h_regs : Part.regs ∈ W0) (h_hif : Part.hif ∈ W0) (h_sor : Part.sor ∈ W0) (h_chn : Part.chn ∈ W0) (h_cmp : Part.cmp ∈ W0) (h_tim : Part.tim ∈ W0) (h_tan : Part.tan ∈ W0) (h_lmp : Part.lmp ∈ W0) (h_time : Part.time ∈ W0) (h_wraps : Part.wraps ∈ W0) (h_out : Part.out ∈ W0) {t0 : State} (h0 : Keeps W0 r0 s)
    (ht : execCadgenWrite g v s = .next t0) : Keeps W0 r0 t0 := by
  unfold execCadgenWrite fieldWrite at ht
  injection ht with ht
  subst ht
  with_reducible refine hostWrite_frame (P := Keeps W0 r0) (by decide) (by decide) ?_ (fun c => ?_) ?_
  on_goal 3 => rw [regEffect_0f _ _ _ (by decide)]
  repeat' first
    | with_reducible assumption
    | with_reducible apply storeReg_keeps
    | with_reducible apply logError_keeps
    | with_reducible apply setBitF_keeps
    | with_reducible apply effectTim_keeps

theorem execTanEnable_keeps {W0 : List Part} {r0 : State} (v : Word) (s : State) (h_regs : Part.regs ∈ W0) (h_hif : Part.hif ∈ W0) (h_queues : Part.queues ∈ W0) (h_sor : Part.sor ∈ W0) (h_chn : Part.chn ∈ W0) (h_cmp : Part.cmp ∈ W0) (h_tim : Part.tim ∈ W0) (h_tan : Part.tan ∈ W0) (h_ring : Part.ring ∈ W0) (h_out : Part.out ∈ W0) {t0 : State} (h0 : Keeps W0 r0 s)
    (ht : execTanEnable v s = .next t0) : Keeps W0 r0 t0 := by
  unfold execTanEnable fieldWrite at ht
  injection ht with ht
  subst ht
  with_reducible refine hostWrite_frame (P := Keeps W0 r0) (by decide) (by decide) ?_ (fun c => ?_) ?_
  on_goal 3 => rw [regEffect_10 _ _ _ (by decide)]
  repeat' first
    | with_reducible assumption
    | with_reducible apply storeReg_keeps
    | with_reducible apply logError_keeps
    | with_reducible apply setBitF_keeps
    | with_reducible apply effectTan_keeps

theorem execTanDisable_keeps {W0 : List Part} {r0 : State} (v : Word) (s : State) (h_regs : Part.regs ∈ W0) (h_hif : Part.hif ∈ W0) (h_queues : Part.queues ∈ W0) (h_sor : Part.sor ∈ W0) (h_chn : Part.chn ∈ W0) (h_cmp : Part.cmp ∈ W0) (h_tim : Part.tim ∈ W0) (h_tan : Part.tan ∈ W0) (h_ring : Part.ring ∈ W0) (h_out : Part.out ∈ W0) {t0 : State} (h0 : Keeps W0 r0 s)
    (ht : execTanDisable v s = .next t0) : Keeps W0 r0 t0 := by
  unfold execTanDisable fieldWrite at ht
  injection ht with ht
  subst ht
  with_reducible refine hostWrite_frame (P := Keeps W0 r0) (by decide) (by decide) ?_ (fun c => ?_) ?_
  on_goal 3 => rw [regEffect_10 _ _ _ (by decide)]
  repeat' first
    | with_reducible assumption
    | with_reducible apply storeReg_keeps
    | with_reducible apply logError_keeps
    | with_reducible apply setBitF_keeps
    | with_reducible apply effectTan_keeps

theorem execTanTake_keeps {W0 : List Part} {r0 : State} (v : Word) (s : State) (h_regs : Part.regs ∈ W0) (h_hif : Part.hif ∈ W0) (h_queues : Part.queues ∈ W0) (h_sor : Part.sor ∈ W0) (h_chn : Part.chn ∈ W0) (h_cmp : Part.cmp ∈ W0) (h_tim : Part.tim ∈ W0) (h_tan : Part.tan ∈ W0) (h_ring : Part.ring ∈ W0) (h_out : Part.out ∈ W0) {t0 : State} (h0 : Keeps W0 r0 s)
    (ht : execTanTake v s = .next t0) : Keeps W0 r0 t0 := by
  unfold execTanTake fieldWrite at ht
  injection ht with ht
  subst ht
  with_reducible refine hostWrite_frame (P := Keeps W0 r0) (by decide) (by decide) ?_ (fun c => ?_) ?_
  on_goal 3 => rw [regEffect_10 _ _ _ (by decide)]
  repeat' first
    | with_reducible assumption
    | with_reducible apply storeReg_keeps
    | with_reducible apply logError_keeps
    | with_reducible apply setBitF_keeps
    | with_reducible apply effectTan_keeps

theorem execTanRenum_keeps {W0 : List Part} {r0 : State} (epoch : Nat) (s : State) (h_regs : Part.regs ∈ W0) (h_hif : Part.hif ∈ W0) (h_queues : Part.queues ∈ W0) (h_sor : Part.sor ∈ W0) (h_chn : Part.chn ∈ W0) (h_cmp : Part.cmp ∈ W0) (h_tim : Part.tim ∈ W0) (h_tan : Part.tan ∈ W0) (h_ring : Part.ring ∈ W0) (h_out : Part.out ∈ W0) {t0 : State} (h0 : Keeps W0 r0 s)
    (ht : execTanRenum epoch s = .next t0) : Keeps W0 r0 t0 := by
  unfold execTanRenum fieldWrite at ht
  injection ht with ht
  subst ht
  with_reducible refine hostWrite_frame (P := Keeps W0 r0) (by decide) (by decide) ?_ (fun c => ?_) ?_
  on_goal 3 => rw [regEffect_10 _ _ _ (by decide)]
  repeat' first
    | with_reducible assumption
    | with_reducible apply storeReg_keeps
    | with_reducible apply logError_keeps
    | with_reducible apply setBitF_keeps
    | with_reducible apply effectTan_keeps

theorem execDimWrite_keeps {W0 : List Part} {r0 : State} (dt : Nat) (v : Word) (s : State) (h_regs : Part.regs ∈ W0) (h_hif : Part.hif ∈ W0) (h_queues : Part.queues ∈ W0) (h_sor : Part.sor ∈ W0) (h_srf : Part.srf ∈ W0) (h_chn : Part.chn ∈ W0) (h_cmp : Part.cmp ∈ W0) (h_lmp : Part.lmp ∈ W0) (h_spk : Part.spk ∈ W0) (h_ring : Part.ring ∈ W0) (h_time : Part.time ∈ W0) (h_wraps : Part.wraps ∈ W0) (h_up : Part.up ∈ W0) (h_out : Part.out ∈ W0) {t0 : State} (h0 : Keeps W0 r0 s)
    (ht : execDimWrite dt v s = .next t0) : Keeps W0 r0 t0 := by
  unfold execDimWrite at ht
  injection ht with ht
  subst ht
  with_reducible refine hostWrite_frame (P := Keeps W0 r0) (by decide) (by decide) ?_ (fun c => ?_) ?_
  on_goal 3 => rw [regEffect_11 _ _ _ (by decide)]
  repeat' first
    | with_reducible assumption
    | with_reducible apply storeReg_keeps
    | with_reducible apply logError_keeps
    | with_reducible apply setBitF_keeps
    | with_reducible apply effectLmp_keeps
    | with_reducible apply advance_keeps

theorem execLmpEnable_keeps {W0 : List Part} {r0 : State} (v : Word) (s : State) (h_regs : Part.regs ∈ W0) (h_hif : Part.hif ∈ W0) (h_queues : Part.queues ∈ W0) (h_sor : Part.sor ∈ W0) (h_srf : Part.srf ∈ W0) (h_chn : Part.chn ∈ W0) (h_cmp : Part.cmp ∈ W0) (h_lmp : Part.lmp ∈ W0) (h_spk : Part.spk ∈ W0) (h_ring : Part.ring ∈ W0) (h_out : Part.out ∈ W0) {t0 : State} (h0 : Keeps W0 r0 s)
    (ht : execLmpEnable v s = .next t0) : Keeps W0 r0 t0 := by
  unfold execLmpEnable fieldWrite at ht
  injection ht with ht
  subst ht
  with_reducible refine hostWrite_frame (P := Keeps W0 r0) (by decide) (by decide) ?_ (fun c => ?_) ?_
  on_goal 3 => rw [regEffect_11 _ _ _ (by decide)]
  repeat' first
    | with_reducible assumption
    | with_reducible apply storeReg_keeps
    | with_reducible apply logError_keeps
    | with_reducible apply setBitF_keeps
    | with_reducible apply effectLmp_keeps

theorem execLmpDisable_keeps {W0 : List Part} {r0 : State} (v : Word) (s : State) (h_regs : Part.regs ∈ W0) (h_hif : Part.hif ∈ W0) (h_queues : Part.queues ∈ W0) (h_sor : Part.sor ∈ W0) (h_srf : Part.srf ∈ W0) (h_chn : Part.chn ∈ W0) (h_cmp : Part.cmp ∈ W0) (h_lmp : Part.lmp ∈ W0) (h_spk : Part.spk ∈ W0) (h_ring : Part.ring ∈ W0) (h_out : Part.out ∈ W0) {t0 : State} (h0 : Keeps W0 r0 s)
    (ht : execLmpDisable v s = .next t0) : Keeps W0 r0 t0 := by
  unfold execLmpDisable fieldWrite at ht
  injection ht with ht
  subst ht
  with_reducible refine hostWrite_frame (P := Keeps W0 r0) (by decide) (by decide) ?_ (fun c => ?_) ?_
  on_goal 3 => rw [regEffect_11 _ _ _ (by decide)]
  repeat' first
    | with_reducible assumption
    | with_reducible apply storeReg_keeps
    | with_reducible apply logError_keeps
    | with_reducible apply setBitF_keeps
    | with_reducible apply effectLmp_keeps

theorem execSpkEnable_keeps {W0 : List Part} {r0 : State} (v : Word) (s : State) (h_regs : Part.regs ∈ W0) (h_hif : Part.hif ∈ W0) (h_srf : Part.srf ∈ W0) (h_drc : Part.drc ∈ W0) (h_chn : Part.chn ∈ W0) (h_cmp : Part.cmp ∈ W0) (h_spk : Part.spk ∈ W0) (h_out : Part.out ∈ W0) (h_free : Part.free ∈ W0) {t0 : State} (h0 : Keeps W0 r0 s)
    (ht : execSpkEnable v s = .next t0) : Keeps W0 r0 t0 := by
  unfold execSpkEnable fieldWrite at ht
  injection ht with ht
  subst ht
  with_reducible refine hostWrite_frame (P := Keeps W0 r0) (by decide) (by decide) ?_ (fun c => ?_) ?_
  on_goal 3 => rw [regEffect_12 _ _ _ (by decide)]
  repeat' first
    | with_reducible assumption
    | with_reducible apply storeReg_keeps
    | with_reducible apply logError_keeps
    | with_reducible apply setBitF_keeps
    | with_reducible apply effectSpk_keeps

theorem execSpkDisable_keeps {W0 : List Part} {r0 : State} (v : Word) (s : State) (h_regs : Part.regs ∈ W0) (h_hif : Part.hif ∈ W0) (h_srf : Part.srf ∈ W0) (h_drc : Part.drc ∈ W0) (h_chn : Part.chn ∈ W0) (h_cmp : Part.cmp ∈ W0) (h_spk : Part.spk ∈ W0) (h_out : Part.out ∈ W0) (h_free : Part.free ∈ W0) {t0 : State} (h0 : Keeps W0 r0 s)
    (ht : execSpkDisable v s = .next t0) : Keeps W0 r0 t0 := by
  unfold execSpkDisable fieldWrite at ht
  injection ht with ht
  subst ht
  with_reducible refine hostWrite_frame (P := Keeps W0 r0) (by decide) (by decide) ?_ (fun c => ?_) ?_
  on_goal 3 => rw [regEffect_12 _ _ _ (by decide)]
  repeat' first
    | with_reducible assumption
    | with_reducible apply storeReg_keeps
    | with_reducible apply logError_keeps
    | with_reducible apply setBitF_keeps
    | with_reducible apply effectSpk_keeps

theorem execSpkReload_keeps {W0 : List Part} {r0 : State} (s : State) (h_regs : Part.regs ∈ W0) (h_hif : Part.hif ∈ W0) (h_srf : Part.srf ∈ W0) (h_drc : Part.drc ∈ W0) (h_chn : Part.chn ∈ W0) (h_cmp : Part.cmp ∈ W0) (h_spk : Part.spk ∈ W0) (h_out : Part.out ∈ W0) (h_free : Part.free ∈ W0) {t0 : State} (h0 : Keeps W0 r0 s)
    (ht : execSpkReload s = .next t0) : Keeps W0 r0 t0 := by
  unfold execSpkReload fieldWrite at ht
  injection ht with ht
  subst ht
  with_reducible refine hostWrite_frame (P := Keeps W0 r0) (by decide) (by decide) ?_ (fun c => ?_) ?_
  on_goal 3 => rw [regEffect_12 _ _ _ (by decide)]
  repeat' first
    | with_reducible assumption
    | with_reducible apply storeReg_keeps
    | with_reducible apply logError_keeps
    | with_reducible apply setBitF_keeps
    | with_reducible apply effectSpk_keeps

theorem execFaultTableClear_keeps {W0 : List Part} {r0 : State} (s : State) (h_regs : Part.regs ∈ W0) (h_hif : Part.hif ∈ W0) (h_srf : Part.srf ∈ W0) (h_drc : Part.drc ∈ W0) (h_chn : Part.chn ∈ W0) (h_cmp : Part.cmp ∈ W0) (h_spk : Part.spk ∈ W0) (h_out : Part.out ∈ W0) (h_free : Part.free ∈ W0) {t0 : State} (h0 : Keeps W0 r0 s)
    (ht : execFaultTableClear s = .next t0) : Keeps W0 r0 t0 := by
  unfold execFaultTableClear fieldWrite at ht
  injection ht with ht
  subst ht
  with_reducible refine hostWrite_frame (P := Keeps W0 r0) (by decide) (by decide) ?_ (fun c => ?_) ?_
  on_goal 3 => rw [regEffect_12 _ _ _ (by decide)]
  repeat' first
    | with_reducible assumption
    | with_reducible apply storeReg_keeps
    | with_reducible apply logError_keeps
    | with_reducible apply setBitF_keeps
    | with_reducible apply effectSpk_keeps

theorem execReadbackSpokeClear_keeps {W0 : List Part} {r0 : State} (mask : Nat) (s : State) (h_regs : Part.regs ∈ W0) (h_hif : Part.hif ∈ W0) (h_srf : Part.srf ∈ W0) (h_drc : Part.drc ∈ W0) (h_chn : Part.chn ∈ W0) (h_cmp : Part.cmp ∈ W0) (h_spk : Part.spk ∈ W0) (h_out : Part.out ∈ W0) (h_free : Part.free ∈ W0) {t0 : State} (h0 : Keeps W0 r0 s)
    (ht : execReadbackSpokeClear mask s = .next t0) : Keeps W0 r0 t0 := by
  unfold execReadbackSpokeClear fieldWrite at ht
  injection ht with ht
  subst ht
  with_reducible refine hostWrite_frame (P := Keeps W0 r0) (by decide) (by decide) ?_ (fun c => ?_) ?_
  on_goal 3 => rw [regEffect_12 _ _ _ (by decide)]
  repeat' first
    | with_reducible assumption
    | with_reducible apply storeReg_keeps
    | with_reducible apply logError_keeps
    | with_reducible apply setBitF_keeps
    | with_reducible apply effectSpk_keeps

theorem execFreqChangeGo_keeps {W0 : List Part} {r0 : State} (v : Word) (s : State) (h_regs : Part.regs ∈ W0) (h_hif : Part.hif ∈ W0) (h_drc : Part.drc ∈ W0) (h_chn : Part.chn ∈ W0) (h_cmp : Part.cmp ∈ W0) (h_out : Part.out ∈ W0) {t0 : State} (h0 : Keeps W0 r0 s)
    (ht : execFreqChangeGo v s = .next t0) : Keeps W0 r0 t0 := by
  unfold execFreqChangeGo fieldWrite at ht
  injection ht with ht
  subst ht
  with_reducible refine hostWrite_frame (P := Keeps W0 r0) (by decide) (by decide) ?_ (fun c => ?_) ?_
  on_goal 3 => rw [regEffect_13 _ _ _ (by decide)]
  repeat' first
    | with_reducible assumption
    | with_reducible apply storeReg_keeps
    | with_reducible apply logError_keeps
    | with_reducible apply setBitF_keeps
    | with_reducible apply freqGo_keeps
    | split

theorem execThmFailClear_keeps {W0 : List Part} {r0 : State} (mask : Nat) (s : State) (h_regs : Part.regs ∈ W0) (h_hif : Part.hif ∈ W0) (h_queues : Part.queues ∈ W0) (h_sor : Part.sor ∈ W0) (h_srf : Part.srf ∈ W0) (h_drc : Part.drc ∈ W0) (h_chn : Part.chn ∈ W0) (h_cmp : Part.cmp ∈ W0) (h_lnk : Part.lnk ∈ W0) (h_tan : Part.tan ∈ W0) (h_sec : Part.sec ∈ W0) (h_lmp : Part.lmp ∈ W0) (h_spk : Part.spk ∈ W0) (h_thm : Part.thm ∈ W0) (h_cal : Part.cal ∈ W0) (h_ring : Part.ring ∈ W0) (h_out : Part.out ∈ W0) (h_free : Part.free ∈ W0) {t0 : State} (h0 : Keeps W0 r0 s)
    (ht : execThmFailClear mask s = .next t0) : Keeps W0 r0 t0 := by
  unfold execThmFailClear at ht
  injection ht with ht
  subst ht
  with_reducible refine hostWrite_frame (P := Keeps W0 r0) (by decide) (by decide) ?_ (fun c => ?_) ?_
  on_goal 3 => rw [regEffect_14 _ _ _ (by decide)]
  repeat' first
    | with_reducible assumption
    | with_reducible apply storeReg_keeps
    | with_reducible apply logError_keeps
    | with_reducible apply setBitF_keeps
    | with_reducible apply effectThm_keeps

theorem execPowerRequest_keeps {W0 : List Part} {r0 : State} (req : Nat) (s : State) (h_regs : Part.regs ∈ W0) (h_hif : Part.hif ∈ W0) (h_queues : Part.queues ∈ W0) (h_sor : Part.sor ∈ W0) (h_srf : Part.srf ∈ W0) (h_drc : Part.drc ∈ W0) (h_chn : Part.chn ∈ W0) (h_cmp : Part.cmp ∈ W0) (h_lnk : Part.lnk ∈ W0) (h_tan : Part.tan ∈ W0) (h_sec : Part.sec ∈ W0) (h_lmp : Part.lmp ∈ W0) (h_spk : Part.spk ∈ W0) (h_thm : Part.thm ∈ W0) (h_cal : Part.cal ∈ W0) (h_ring : Part.ring ∈ W0) (h_out : Part.out ∈ W0) (h_free : Part.free ∈ W0) {t0 : State} (h0 : Keeps W0 r0 s)
    (ht : execPowerRequest req s = .next t0) : Keeps W0 r0 t0 := by
  unfold execPowerRequest fieldWrite at ht
  injection ht with ht
  subst ht
  with_reducible refine hostWrite_frame (P := Keeps W0 r0) (by decide) (by decide) ?_ (fun c => ?_) ?_
  on_goal 3 => rw [regEffect_14 _ _ _ (by decide)]
  repeat' first
    | with_reducible assumption
    | with_reducible apply storeReg_keeps
    | with_reducible apply logError_keeps
    | with_reducible apply setBitF_keeps
    | with_reducible apply effectThm_keeps

theorem execRecalManualStart_keeps {W0 : List Part} {r0 : State} (v : Word) (s : State) (h_regs : Part.regs ∈ W0) (h_hif : Part.hif ∈ W0) (h_chn : Part.chn ∈ W0) (h_cmp : Part.cmp ∈ W0) (h_lnk : Part.lnk ∈ W0) (h_tim : Part.tim ∈ W0) (h_cal : Part.cal ∈ W0) (h_out : Part.out ∈ W0) (h_free : Part.free ∈ W0) {t0 : State} (h0 : Keeps W0 r0 s)
    (ht : execRecalManualStart v s = .next t0) : Keeps W0 r0 t0 := by
  unfold execRecalManualStart fieldWrite at ht
  injection ht with ht
  subst ht
  with_reducible refine hostWrite_frame (P := Keeps W0 r0) (by decide) (by decide) ?_ (fun c => ?_) ?_
  on_goal 3 => rw [regEffect_15 _ _ _ (by decide)]
  repeat' first
    | with_reducible assumption
    | with_reducible apply storeReg_keeps
    | with_reducible apply logError_keeps
    | with_reducible apply setBitF_keeps
    | with_reducible apply effectCal_keeps

theorem execCalDisable_keeps {W0 : List Part} {r0 : State} (v : Word) (s : State) (h_regs : Part.regs ∈ W0) (h_hif : Part.hif ∈ W0) (h_chn : Part.chn ∈ W0) (h_cmp : Part.cmp ∈ W0) (h_lnk : Part.lnk ∈ W0) (h_tim : Part.tim ∈ W0) (h_cal : Part.cal ∈ W0) (h_out : Part.out ∈ W0) (h_free : Part.free ∈ W0) {t0 : State} (h0 : Keeps W0 r0 s)
    (ht : execCalDisable v s = .next t0) : Keeps W0 r0 t0 := by
  unfold execCalDisable fieldWrite at ht
  injection ht with ht
  subst ht
  with_reducible refine hostWrite_frame (P := Keeps W0 r0) (by decide) (by decide) ?_ (fun c => ?_) ?_
  on_goal 3 => rw [regEffect_15 _ _ _ (by decide)]
  repeat' first
    | with_reducible assumption
    | with_reducible apply storeReg_keeps
    | with_reducible apply logError_keeps
    | with_reducible apply setBitF_keeps
    | with_reducible apply effectCal_keeps

theorem execUpdConfirmWrite_keeps {W0 : List Part} {r0 : State} (s : State) (h_regs : Part.regs ∈ W0) (h_hif : Part.hif ∈ W0) (h_queues : Part.queues ∈ W0) (h_sor : Part.sor ∈ W0) (h_chn : Part.chn ∈ W0) (h_cmp : Part.cmp ∈ W0) (h_tan : Part.tan ∈ W0) (h_sec : Part.sec ∈ W0) (h_upd : Part.upd ∈ W0) (h_ring : Part.ring ∈ W0) (h_out : Part.out ∈ W0) {t0 : State} (h0 : Keeps W0 r0 s)
    (ht : execUpdConfirmWrite s = .next t0) : Keeps W0 r0 t0 := by
  unfold execUpdConfirmWrite fieldWrite at ht
  injection ht with ht
  subst ht
  with_reducible refine hostWrite_frame (P := Keeps W0 r0) (by decide) (by decide) ?_ (fun c => ?_) ?_
  on_goal 3 => rw [regEffect_17 _ _ _ (by decide)]
  repeat' first
    | with_reducible assumption
    | with_reducible apply storeReg_keeps
    | with_reducible apply logError_keeps
    | with_reducible apply setBitF_keeps
    | with_reducible apply effectUpd_keeps

theorem execUpdAbandonWrite_keeps {W0 : List Part} {r0 : State} (s : State) (h_regs : Part.regs ∈ W0) (h_hif : Part.hif ∈ W0) (h_queues : Part.queues ∈ W0) (h_sor : Part.sor ∈ W0) (h_chn : Part.chn ∈ W0) (h_cmp : Part.cmp ∈ W0) (h_tan : Part.tan ∈ W0) (h_sec : Part.sec ∈ W0) (h_upd : Part.upd ∈ W0) (h_ring : Part.ring ∈ W0) (h_out : Part.out ∈ W0) {t0 : State} (h0 : Keeps W0 r0 s)
    (ht : execUpdAbandonWrite s = .next t0) : Keeps W0 r0 t0 := by
  unfold execUpdAbandonWrite fieldWrite at ht
  injection ht with ht
  subst ht
  with_reducible refine hostWrite_frame (P := Keeps W0 r0) (by decide) (by decide) ?_ (fun c => ?_) ?_
  on_goal 3 => rw [regEffect_17 _ _ _ (by decide)]
  repeat' first
    | with_reducible assumption
    | with_reducible apply storeReg_keeps
    | with_reducible apply logError_keeps
    | with_reducible apply setBitF_keeps
    | with_reducible apply effectUpd_keeps

theorem execRecoveryGo_keeps {W0 : List Part} {r0 : State} (len : Nat) (s : State) (h_regs : Part.regs ∈ W0) (h_hif : Part.hif ∈ W0) (h_queues : Part.queues ∈ W0) (h_sor : Part.sor ∈ W0) (h_chn : Part.chn ∈ W0) (h_cmp : Part.cmp ∈ W0) (h_tan : Part.tan ∈ W0) (h_sec : Part.sec ∈ W0) (h_upd : Part.upd ∈ W0) (h_ring : Part.ring ∈ W0) (h_out : Part.out ∈ W0) {t0 : State} (h0 : Keeps W0 r0 s)
    (ht : execRecoveryGo len s = .next t0) : Keeps W0 r0 t0 := by
  unfold execRecoveryGo fieldWrite at ht
  injection ht with ht
  subst ht
  with_reducible refine hostWrite_frame (P := Keeps W0 r0) (by decide) (by decide) ?_ (fun c => ?_) ?_
  on_goal 3 => rw [regEffect_17 _ _ _ (by decide)]
  repeat' first
    | with_reducible assumption
    | with_reducible apply storeReg_keeps
    | with_reducible apply logError_keeps
    | with_reducible apply setBitF_keeps
    | with_reducible apply effectUpd_keeps

end Sys2Proof.Machine
end

