-- ==== Sys2Proof/Laws/RegsBut.lean ====
section
/-! SUPPORT. The relation `RegsBut` and the updates that preserve it. -/

namespace Sys2Proof.Machine

theorem RegsBut.same {W : Nat → Prop} {s : State} : RegsBut W s s := fun _ _ => rfl

theorem RegsBut.trans {W : Nat → Prop} {s t u : State} (h : RegsBut W s t) (k : RegsBut W t u) : RegsBut W s u :=
  fun o ho => (k o ho).trans (h o ho)

theorem RegsBut.mono {W V : Nat → Prop} {s t : State} (h : RegsBut W s t) (hs : ∀ o, W o → V o) : RegsBut V s t :=
  fun o ho => h o (fun hw => ho (hs o hw))

/-- Where every register may change, nothing is said. -/
theorem RegsBut.all {W : Nat → Prop} {s t : State} (h : ∀ o, W o) : RegsBut W s t := fun o ho => absurd (h o) ho

/-- Equal register files. -/
theorem RegsBut.of_regs {W : Nat → Prop} {r s t : State} (he : t.regs = s.regs) (h : RegsBut W r s) : RegsBut W r t :=
  fun o ho => by rw [← h o ho, State.word, State.word, he]

/-- A state taken from a pair. -/
theorem RegsBut.of_snd {α : Type} {W : Nat → Prop} {r t : State} {a : α} {e : α × State} (he : e = (a, t)) (h : RegsBut W r e.2) :
    RegsBut W r t := by subst he; exact h

theorem RegsBut.of_fst {α : Type} {W : Nat → Prop} {r t : State} {a : α} {e : State × α} (he : e = (t, a)) (h : RegsBut W r e.1) :
    RegsBut W r t := by subst he; exact h

theorem RegsBut.of_snd2 {α β : Type} {W : Nat → Prop} {r t : State} {a : α} {b : β} {e : α × β × State} (he : e = (a, b, t))
    (h : RegsBut W r e.2.2) : RegsBut W r t := by subst he; exact h

/-- `RegsBut` for a part of a pair; these names keep the kernel from reducing the pair. -/
def RegsFst {β : Type} (W : Nat → Prop) (r : State) (q : State × β) : Prop := RegsBut W r q.1
def RegsSnd {β : Type} (W : Nat → Prop) (r : State) (q : β × State) : Prop := RegsBut W r q.2
def RegsSnd2 {β γ : Type} (W : Nat → Prop) (r : State) (q : β × γ × State) : Prop := RegsBut W r q.2.2

theorem RegsBut.fst {β : Type} {W : Nat → Prop} {r : State} {q : State × β} (h : RegsBut W r q.1) : RegsFst W r q := h
theorem RegsBut.snd {β : Type} {W : Nat → Prop} {r : State} {q : β × State} (h : RegsBut W r q.2) : RegsSnd W r q := h
theorem RegsBut.snd2 {β γ : Type} {W : Nat → Prop} {r : State} {q : β × γ × State} (h : RegsBut W r q.2.2) : RegsSnd2 W r q := h

theorem RegsBut.foldl {α : Type} {W : Nat → Prop} {r s : State} {f : State → α → State} {l : List α}
    (hf : ∀ t x, RegsBut W r t → RegsBut W r (f t x)) (h : RegsBut W r s) : RegsBut W r (l.foldl f s) := by
  induction l generalizing s with
  | nil => exact h
  | cons x l ih => exact ih (hf s x h)

theorem RegsBut.foldl_snd {α β : Type} {W : Nat → Prop} {r : State} {p : β × State} {f : β × State → α → β × State} {l : List α}
    (hf : ∀ q x, RegsBut W r q.2 → RegsSnd W r (f q x)) (h : RegsBut W r p.2) : RegsBut W r (l.foldl f p).2 := by
  induction l generalizing p with
  | nil => exact h
  | cons x l ih => exact ih (hf p x h)

theorem RegsBut.foldl_fst {α β : Type} {W : Nat → Prop} {r : State} {p : State × β} {f : State × β → α → State × β} {l : List α}
    (hf : ∀ q x, RegsBut W r q.1 → RegsFst W r (f q x)) (h : RegsBut W r p.1) : RegsBut W r (l.foldl f p).1 := by
  induction l generalizing p with
  | nil => exact h
  | cons x l ih => exact ih (hf p x h)

theorem RegsBut.foldl_snd2 {α β γ : Type} {W : Nat → Prop} {r : State} {p : β × γ × State} {f : β × γ × State → α → β × γ × State}
    {l : List α} (hf : ∀ q x, RegsBut W r q.2.2 → RegsSnd2 W r (f q x)) (h : RegsBut W r p.2.2) :
    RegsBut W r (l.foldl f p).2.2 := by
  induction l generalizing p with
  | nil => exact h
  | cons x l ih => exact ih (hf p x h)

/-! ### Primitive updates -/

theorem setWord_regs {W : Nat → Prop} {r : State} (s : State) (off : Nat) (w : Word) (h_off : W off) (h : RegsBut W r s) :
    RegsBut W r (s.setWord off w) :=
  fun o ho => by
    have hne : o ≠ off := by rintro rfl; exact ho h_off
    rw [word_setWord_ne s w hne]
    exact h o ho

theorem setF_regs {W : Nat → Prop} {r : State} (s : State) (f : Fld) (v : Nat) (h_f : W f.off) (h : RegsBut W r s) :
    RegsBut W r (setF s f v) := setWord_regs s _ _ h_f h

/-- A filter that keeps every entry of a key does not change what the key reads as. -/
theorem tget_filter {α : Type} (d : α) (m : List (Nat × α)) (p : Nat × α → Bool) (k : Nat) (h : ∀ e, e.1 = k → p e = true) :
    tget d (m.filter p) k = tget d m k := by
  have : (m.filter p).find? (fun e => e.1 == k) = m.find? (fun e => e.1 == k) := by
    induction m with
    | nil => rfl
    | cons x l ih =>
      by_cases hx : x.1 = k
      · simp [h x hx, hx]
      · have hb : (x.1 == k) = false := by simpa using hx
        cases hp : p x
        · rw [List.filter_cons_of_neg (by simp [hp]), List.find?_cons, hb, ih]
        · rw [List.filter_cons_of_pos hp, List.find?_cons, List.find?_cons, hb, ih]
  unfold tget
  rw [this]

/-- Registers outside the range read as before. -/
theorem word_resetRegs_out (s : State) (lo hi o : Nat) (ho : ¬ (lo ≤ o ∧ o < hi)) : (resetRegs s lo hi).word o = s.word o := by
  refine tget_filter _ _ _ _ (fun e he => ?_)
  subst he
  simp only [Bool.not_eq_true', Bool.and_eq_false_iff, decide_eq_false_iff_not]
  omega

/-- Registers in the range read their reset values. -/
theorem word_resetRegs_in (s : State) (lo hi o : Nat) (ho : lo ≤ o ∧ o < hi) : (resetRegs s lo hi).word o = regFill o := by
  unfold resetRegs State.word tget
  have : (s.regs.filter (fun e => !(decide (lo ≤ e.1) && decide (e.1 < hi)))).find? (fun e => e.1 == o) = none := by
    rw [List.find?_eq_none]
    intro x hx
    rw [List.mem_filter] at hx
    intro he
    have : x.1 = o := by simpa using he
    simp [this, ho] at hx
  dsimp only
  rw [this]

theorem resetRegs_regs {W : Nat → Prop} {r : State} (s : State) (lo hi : Nat) (h_r : ∀ off, lo ≤ off → off < hi → W off)
    (h : RegsBut W r s) : RegsBut W r (resetRegs s lo hi) :=
  fun o ho => by rw [word_resetRegs_out s lo hi o (fun e => ho (h_r o e.1 e.2))]; exact h o ho

theorem dramWr_regs {W : Nat → Prop} {r : State} (s : State) (a : Nat) (b : Bytes) (h : RegsBut W r s) :
    RegsBut W r (dramWr s a b) := h

theorem ringWr_regs {W : Nat → Prop} {r : State} (s : State) (a : Nat) (b : Bytes) (h : RegsBut W r s) :
    RegsBut W r (ringWr s a b) := h

/-! ### Record updates -/

theorem RegsBut.boot {W : Nat → Prop} {r s : State} {v_boot : BootSt} :
    RegsBut W r { s with boot := v_boot } ↔ RegsBut W r s := Iff.rfl

theorem RegsBut.boot_hif_sec {W : Nat → Prop} {r s : State} {v_boot : BootSt} {v_hif : HifSt} {v_sec : SecSt} :
    RegsBut W r { s with boot := v_boot, hif := v_hif, sec := v_sec } ↔ RegsBut W r s := Iff.rfl

theorem RegsBut.boot_upd {W : Nat → Prop} {r s : State} {v_boot : BootSt} {v_upd : UpdSt} :
    RegsBut W r { s with boot := v_boot, upd := v_upd } ↔ RegsBut W r s := Iff.rfl

theorem RegsBut.cal {W : Nat → Prop} {r s : State} {v_cal : CalSt} :
    RegsBut W r { s with cal := v_cal } ↔ RegsBut W r s := Iff.rfl

theorem RegsBut.chn {W : Nat → Prop} {r s : State} {v_chn : ChnSt} :
    RegsBut W r { s with chn := v_chn } ↔ RegsBut W r s := Iff.rfl

theorem RegsBut.chn_cmp_frt {W : Nat → Prop} {r s : State} {v_chn : ChnSt} {v_cmp : CmpSt} {v_frt : FrtSt} :
    RegsBut W r { s with chn := v_chn, cmp := v_cmp, frt := v_frt } ↔ RegsBut W r s := Iff.rfl

theorem RegsBut.chn_lmp {W : Nat → Prop} {r s : State} {v_chn : ChnSt} {v_lmp : LmpSt} :
    RegsBut W r { s with chn := v_chn, lmp := v_lmp } ↔ RegsBut W r s := Iff.rfl

theorem RegsBut.chn_sec_lmp {W : Nat → Prop} {r s : State} {v_chn : ChnSt} {v_sec : SecSt} {v_lmp : LmpSt} :
    RegsBut W r { s with chn := v_chn, sec := v_sec, lmp := v_lmp } ↔ RegsBut W r s := Iff.rfl

theorem RegsBut.chn_tan {W : Nat → Prop} {r s : State} {v_chn : ChnSt} {v_tan : TanSt} :
    RegsBut W r { s with chn := v_chn, tan := v_tan } ↔ RegsBut W r s := Iff.rfl

theorem RegsBut.cmp {W : Nat → Prop} {r s : State} {v_cmp : CmpSt} :
    RegsBut W r { s with cmp := v_cmp } ↔ RegsBut W r s := Iff.rfl

theorem RegsBut.cmp_frt {W : Nat → Prop} {r s : State} {v_cmp : CmpSt} {v_frt : FrtSt} :
    RegsBut W r { s with cmp := v_cmp, frt := v_frt } ↔ RegsBut W r s := Iff.rfl

theorem RegsBut.dma {W : Nat → Prop} {r s : State} {v_dma : List (Nat × Chan)} :
    RegsBut W r { s with dma := v_dma } ↔ RegsBut W r s := Iff.rfl

theorem RegsBut.drc {W : Nat → Prop} {r s : State} {v_drc : DrcSt} :
    RegsBut W r { s with drc := v_drc } ↔ RegsBut W r s := Iff.rfl

theorem RegsBut.drc_dram {W : Nat → Prop} {r s : State} {v_drc : DrcSt} {v_dram : List Host.Cell} :
    RegsBut W r { s with drc := v_drc, dram := v_dram } ↔ RegsBut W r s := Iff.rfl

theorem RegsBut.free {W : Nat → Prop} {r s : State} {v_free : Nat} :
    RegsBut W r { s with free := v_free } ↔ RegsBut W r s := Iff.rfl

theorem RegsBut.frt {W : Nat → Prop} {r s : State} {v_frt : FrtSt} :
    RegsBut W r { s with frt := v_frt } ↔ RegsBut W r s := Iff.rfl

theorem RegsBut.hif {W : Nat → Prop} {r s : State} {v_hif : HifSt} :
    RegsBut W r { s with hif := v_hif } ↔ RegsBut W r s := Iff.rfl

theorem RegsBut.lmp {W : Nat → Prop} {r s : State} {v_lmp : LmpSt} :
    RegsBut W r { s with lmp := v_lmp } ↔ RegsBut W r s := Iff.rfl

theorem RegsBut.lmp_spk {W : Nat → Prop} {r s : State} {v_lmp : LmpSt} {v_spk : SpkSt} :
    RegsBut W r { s with lmp := v_lmp, spk := v_spk } ↔ RegsBut W r s := Iff.rfl

theorem RegsBut.lnk {W : Nat → Prop} {r s : State} {v_lnk : LnkSt} :
    RegsBut W r { s with lnk := v_lnk } ↔ RegsBut W r s := Iff.rfl

theorem RegsBut.out {W : Nat → Prop} {r s : State} {v_out : List Out} :
    RegsBut W r { s with out := v_out } ↔ RegsBut W r s := Iff.rfl

theorem RegsBut.queues {W : Nat → Prop} {r s : State} {v_queues : List (Nat × QRec)} :
    RegsBut W r { s with queues := v_queues } ↔ RegsBut W r s := Iff.rfl

theorem RegsBut.queues_sor {W : Nat → Prop} {r s : State} {v_queues : List (Nat × QRec)} {v_sor : SorSt} :
    RegsBut W r { s with queues := v_queues, sor := v_sor } ↔ RegsBut W r s := Iff.rfl

theorem RegsBut.ring {W : Nat → Prop} {r s : State} {v_ring : List Host.Cell} :
    RegsBut W r { s with ring := v_ring } ↔ RegsBut W r s := Iff.rfl

theorem RegsBut.sec {W : Nat → Prop} {r s : State} {v_sec : SecSt} :
    RegsBut W r { s with sec := v_sec } ↔ RegsBut W r s := Iff.rfl

theorem RegsBut.sor {W : Nat → Prop} {r s : State} {v_sor : SorSt} :
    RegsBut W r { s with sor := v_sor } ↔ RegsBut W r s := Iff.rfl

theorem RegsBut.spk {W : Nat → Prop} {r s : State} {v_spk : SpkSt} :
    RegsBut W r { s with spk := v_spk } ↔ RegsBut W r s := Iff.rfl

theorem RegsBut.srf {W : Nat → Prop} {r s : State} {v_srf : SrfSt} :
    RegsBut W r { s with srf := v_srf } ↔ RegsBut W r s := Iff.rfl

theorem RegsBut.tan {W : Nat → Prop} {r s : State} {v_tan : TanSt} :
    RegsBut W r { s with tan := v_tan } ↔ RegsBut W r s := Iff.rfl

theorem RegsBut.thm {W : Nat → Prop} {r s : State} {v_thm : ThmSt} :
    RegsBut W r { s with thm := v_thm } ↔ RegsBut W r s := Iff.rfl

theorem RegsBut.tim {W : Nat → Prop} {r s : State} {v_tim : TimSt} :
    RegsBut W r { s with tim := v_tim } ↔ RegsBut W r s := Iff.rfl

theorem RegsBut.tim_sec_lmp_wraps {W : Nat → Prop} {r s : State} {v_tim : TimSt} {v_sec : SecSt} {v_lmp : LmpSt} {v_wraps : Nat} :
    RegsBut W r { s with tim := v_tim, sec := v_sec, lmp := v_lmp, wraps := v_wraps } ↔ RegsBut W r s := Iff.rfl

theorem RegsBut.tim_tan {W : Nat → Prop} {r s : State} {v_tim : TimSt} {v_tan : TanSt} :
    RegsBut W r { s with tim := v_tim, tan := v_tan } ↔ RegsBut W r s := Iff.rfl

theorem RegsBut.time_up {W : Nat → Prop} {r s : State} {v_time : Nat} {v_up : Nat} :
    RegsBut W r { s with time := v_time, up := v_up } ↔ RegsBut W r s := Iff.rfl

theorem RegsBut.time_wraps {W : Nat → Prop} {r s : State} {v_time : Nat} {v_wraps : Nat} :
    RegsBut W r { s with time := v_time, wraps := v_wraps } ↔ RegsBut W r s := Iff.rfl

theorem RegsBut.upd {W : Nat → Prop} {r s : State} {v_upd : UpdSt} :
    RegsBut W r { s with upd := v_upd } ↔ RegsBut W r s := Iff.rfl

theorem RegsBut.wraps {W : Nat → Prop} {r s : State} {v_wraps : Nat} :
    RegsBut W r { s with wraps := v_wraps } ↔ RegsBut W r s := Iff.rfl

end Sys2Proof.Machine
end

