-- ==== Sys2Proof/Laws/RegsOps.lean ====
section
/-! SUPPORT. Which registers each operation of Machine/Ops.lean may write. -/

namespace Sys2Proof.Machine

theorem incSat_regs {W0 : Nat → Prop} {r0 : State} (s : State) (f : Fld) (n : Nat) (h_f : W0 f.off) (h0 : RegsBut W0 r0 s) :
    RegsBut W0 r0 (incSat s f n) := by
  unfold incSat
  repeat' first
    | with_reducible assumption
    | with_reducible apply setF_regs

theorem incMod_regs {W0 : Nat → Prop} {r0 : State} (s : State) (f : Fld) (n : Nat) (h_f : W0 f.off) (h0 : RegsBut W0 r0 s) :
    RegsBut W0 r0 (incMod s f n) := by
  unfold incMod
  repeat' first
    | with_reducible assumption
    | with_reducible apply setF_regs

theorem setBitF_regs {W0 : Nat → Prop} {r0 : State} (s : State) (f : Fld) (k : Nat) (b : Bool) (h_f : W0 f.off) (h0 : RegsBut W0 r0 s) :
    RegsBut W0 r0 (setBitF s f k b) := by
  unfold setBitF
  repeat' first
    | with_reducible assumption
    | with_reducible apply setF_regs

theorem whenOn_regs {W0 : Nat → Prop} {r0 : State} (id : Nat) (s : State) (f : State → State) (h_f : ∀ (x0 : State), RegsBut W0 r0 x0 → RegsBut W0 r0 (f x0)) {t0 : State} (h0 : RegsBut W0 r0 s) (ht : whenOn id s f = .next t0) :
    RegsBut W0 r0 t0 := by
  unfold whenOn at ht
  injection ht with ht
  subst ht
  repeat' first
    | with_reducible assumption
    | with_reducible apply h_f
    | split

theorem drawNat_regs {W0 : Nat → Prop} {r0 : State} (s : State) (h0 : RegsBut W0 r0 s) :
    RegsBut W0 r0 (drawNat s).2 := by
  unfold drawNat
  repeat' first
    | with_reducible assumption
    | simp only [RegsBut.free]

theorem drawBytes_regs {W0 : Nat → Prop} {r0 : State} (s : State) (n : Nat) (h0 : RegsBut W0 r0 s) :
    RegsBut W0 r0 (drawBytes s n).2 := by
  unfold drawBytes
  repeat' first
    | with_reducible assumption
    | simp only [RegsBut.free]

theorem emit_regs {W0 : Nat → Prop} {r0 : State} (s : State) (o : Out) (h0 : RegsBut W0 r0 s) :
    RegsBut W0 r0 (emit s o) := by
  unfold emit
  repeat' first
    | with_reducible assumption
    | simp only [RegsBut.out]

theorem emitAll_regs {W0 : Nat → Prop} {r0 : State} (s : State) (os : List Out) (h0 : RegsBut W0 r0 s) :
    RegsBut W0 r0 (emitAll s os) := by
  unfold emitAll
  repeat' first
    | with_reducible assumption
    | simp only [RegsBut.out]

theorem setMsixWord_regs {W0 : Nat → Prop} {r0 : State} (s : State) (off : Nat) (w : Word) (h_off : W0 off) (h0 : RegsBut W0 r0 s) :
    RegsBut W0 r0 (setMsixWord s off w) := by
  unfold setMsixWord
  repeat' first
    | with_reducible assumption
    | with_reducible apply setWord_regs

theorem setVecPending_regs {W0 : Nat → Prop} {r0 : State} (s : State) (v : Nat) (b : Bool) (h_pba : ∀ k, W0 (0x38000 + 4 * (k % 64))) (h0 : RegsBut W0 r0 s) :
    RegsBut W0 r0 (setVecPending s v b) := by
  unfold setVecPending
  repeat' first
    | with_reducible assumption
    | with_reducible exact h_pba _
    | with_reducible apply setMsixWord_regs

theorem sendVec_regs {W0 : Nat → Prop} {r0 : State} (s : State) (v : Nat) (h_pba : ∀ k, W0 (0x38000 + 4 * (k % 64))) (h0 : RegsBut W0 r0 s) :
    RegsBut W0 r0 (sendVec s v) := by
  unfold sendVec
  repeat' first
    | with_reducible assumption
    | simp only [RegsBut.hif]
    | with_reducible apply emit_regs
    | with_reducible apply setVecPending_regs
    | split

theorem issueUp_regs {W0 : Nat → Prop} {r0 : State} (s : State) (u : Up) (h_pba : ∀ k, W0 (0x38000 + 4 * (k % 64))) (h0 : RegsBut W0 r0 s) :
    RegsBut W0 r0 (issueUp s u) := by
  unfold issueUp
  repeat' first
    | with_reducible assumption
    | simp only [RegsBut.hif]
    | with_reducible apply emit_regs
    | with_reducible apply emitAll_regs
    | with_reducible apply setVecPending_regs
    | split

theorem upstream_regs {W0 : Nat → Prop} {r0 : State} (s : State) (u : Up) (h_pba : ∀ k, W0 (0x38000 + 4 * (k % 64))) (h0 : RegsBut W0 r0 s) :
    RegsBut W0 r0 (upstream s u) := by
  unfold upstream
  repeat' first
    | with_reducible assumption
    | simp only [RegsBut.hif]
    | with_reducible apply issueUp_regs
    | split

theorem issueWaiting_regs {W0 : Nat → Prop} {r0 : State} (s : State) (h_pba : ∀ k, W0 (0x38000 + 4 * (k % 64))) (h0 : RegsBut W0 r0 s) :
    RegsBut W0 r0 (issueWaiting s) := by
  unfold issueWaiting
  repeat' first
    | with_reducible assumption
    | simp only [RegsBut.hif]
    | with_reducible apply upstream_regs
    | with_reducible apply RegsBut.foldl
    | split
    | dsimp only
    | with_reducible intro _

theorem endRead_regs {W0 : Nat → Prop} {r0 : State} (s : State) (who : Rd) (h_pba : ∀ k, W0 (0x38000 + 4 * (k % 64))) (h0 : RegsBut W0 r0 s) :
    RegsBut W0 r0 (endRead s who) := by
  unfold endRead
  repeat' first
    | with_reducible assumption
    | simp only [RegsBut.hif]
    | with_reducible apply issueWaiting_regs

theorem dropRead_regs {W0 : Nat → Prop} {r0 : State} (s : State) (who : Rd) (h_pba : ∀ k, W0 (0x38000 + 4 * (k % 64))) (h0 : RegsBut W0 r0 s) :
    RegsBut W0 r0 (dropRead s who) := by
  unfold dropRead
  repeat' first
    | with_reducible assumption
    | simp only [RegsBut.hif]
    | with_reducible apply endRead_regs

theorem giveUpRead_regs {W0 : Nat → Prop} {r0 : State} (s : State) (who : Rd) (h0 : RegsBut W0 r0 s) :
    RegsBut W0 r0 (giveUpRead s who) := by
  unfold giveUpRead
  repeat' first
    | with_reducible assumption
    | simp only [RegsBut.hif]

theorem onRead_regs {W0 : Nat → Prop} {r0 : State} (s : State) (who : Rd) (f : State → State) (h_pba : ∀ k, W0 (0x38000 + 4 * (k % 64))) (h_f : ∀ (x0 : State), RegsBut W0 r0 x0 → RegsBut W0 r0 (f x0)) (h0 : RegsBut W0 r0 s) :
    RegsBut W0 r0 (onRead s who f) := by
  unfold onRead
  repeat' first
    | with_reducible assumption
    | with_reducible apply h_f
    | with_reducible apply endRead_regs
    | split

end Sys2Proof.Machine
end

