-- ==== Sys2Proof/Laws/RegsSlots.lean ====
section
/-! SUPPORT. Which registers each operation of Machine/Slots.lean may write. -/

namespace Sys2Proof.Machine

theorem calTrain_regs {W0 : Nat → Prop} {r0 : State} (s : State) (c : Nat) (l : List LTrain) (h0 : RegsBut W0 r0 s) :
    RegsBut W0 r0 (calTrain s c l) := by
  unfold calTrain
  repeat' first
    | with_reducible assumption
    | simp only [RegsBut.cal]
    | with_reducible apply RegsBut.foldl
    | split
    | dsimp only
    | with_reducible intro _

theorem laneEyes_regs {W0 : Nat → Prop} {r0 : State} (s : State) (c : Nat) (lane : Nat) (h_DRC_LANE : ∀ i j, W0 (R.DRC_LANE i j)) (h0 : RegsBut W0 r0 s) :
    RegsBut W0 r0 (laneEyes s c lane) := by
  unfold laneEyes
  repeat' first
    | with_reducible assumption
    | with_reducible exact h_DRC_LANE _ _
    | with_reducible apply setF_regs
    | split

theorem laneUse_regs {W0 : Nat → Prop} {r0 : State} (s : State) (c : Nat) (lane : Nat) (v : Nat × Nat × Nat) (h_DRC_LANE : ∀ i j, W0 (R.DRC_LANE i j)) (h0 : RegsBut W0 r0 s) :
    RegsBut W0 r0 (laneUse s c lane v) := by
  unfold laneUse
  repeat' first
    | with_reducible assumption
    | simp only [RegsBut.cal]
    | with_reducible exact h_DRC_LANE _ _
    | with_reducible apply setF_regs
    | with_reducible apply laneEyes_regs

theorem retrackChan_regs {W0 : Nat → Prop} {r0 : State} (s : State) (c : Nat) (h_DRC_LANE : ∀ i j, W0 (R.DRC_LANE i j)) (h0 : RegsBut W0 r0 s) :
    RegsBut W0 r0 (retrackChan s c) := by
  unfold retrackChan
  repeat' first
    | with_reducible assumption
    | with_reducible apply laneUse_regs
    | with_reducible apply RegsBut.foldl
    | split
    | dsimp only
    | with_reducible intro _

theorem trackChan_regs {W0 : Nat → Prop} {r0 : State} (s : State) (c : Nat) (osc : Option Nat) (h_DRC_LANE : ∀ i j, W0 (R.DRC_LANE i j)) (h0 : RegsBut W0 r0 s) :
    RegsBut W0 r0 (trackChan s c osc) := by
  unfold trackChan
  repeat' first
    | with_reducible assumption
    | with_reducible apply laneUse_regs
    | with_reducible apply RegsBut.foldl
    | split
    | dsimp only
    | with_reducible intro _

end Sys2Proof.Machine
end

