-- ==== Sys2Proof/Laws/RegsCells.lean ====
section
/-! SUPPORT. Which registers each operation of Machine/Cells.lean may write. -/

namespace Sys2Proof.Machine

theorem insertCell_regs {W0 : Nat → Prop} {r0 : State} (s : State) (p : Nat) (cls : Nat) (c : Bytes) (m : Mark) (h_CHN_PERR : ∀ i, W0 (R.CHN_PERR i)) (h0 : RegsBut W0 r0 s) :
    RegsBut W0 r0 (insertCell s p cls c m) := by
  unfold insertCell
  repeat' first
    | with_reducible assumption
    | simp only [RegsBut.chn]
    | with_reducible exact h_CHN_PERR _
    | with_reducible apply incSat_regs
    | split

theorem insertCells_regs {W0 : Nat → Prop} {r0 : State} (s : State) (p : Nat) (cls : Nat) (cs : List Bytes) (h_CHN_PERR : ∀ i, W0 (R.CHN_PERR i)) (h0 : RegsBut W0 r0 s) :
    RegsBut W0 r0 (insertCells s p cls cs) := by
  unfold insertCells
  repeat' first
    | with_reducible assumption
    | with_reducible apply insertCell_regs
    | with_reducible apply RegsBut.foldl
    | split
    | dsimp only
    | with_reducible intro _

theorem newLid_regs {W0 : Nat → Prop} {r0 : State} (s : State) (h0 : RegsBut W0 r0 s) :
    RegsBut W0 r0 (newLid s).2 := by
  unfold newLid
  repeat' first
    | with_reducible assumption
    | simp only [RegsBut.chn]

theorem tileLetter_regs {W0 : Nat → Prop} {r0 : State} (s : State) (cls : Nat) (kind : Nat) (ltype : Nat) (content : Bytes) (h_CHN_PERR : ∀ i, W0 (R.CHN_PERR i)) (h0 : RegsBut W0 r0 s) :
    RegsBut W0 r0 (tileLetter s cls kind ltype content) := by
  unfold tileLetter
  repeat' first
    | with_reducible assumption
    | with_reducible apply insertCells_regs
    | with_reducible apply newLid_regs
    | with_reducible apply RegsBut.foldl
    | with_reducible refine RegsBut.of_snd (by with_reducible assumption) ?_
    | with_reducible refine RegsBut.of_snd2 (by with_reducible assumption) ?_
    | split
    | dsimp only
    | with_reducible intro _

theorem sendHeld_regs {W0 : Nat → Prop} {r0 : State} (s : State) (h_CHN_PERR : ∀ i, W0 (R.CHN_PERR i)) (h0 : RegsBut W0 r0 s) :
    RegsBut W0 r0 (sendHeld s) := by
  unfold sendHeld
  repeat' first
    | with_reducible assumption
    | simp only [RegsBut.sec]
    | with_reducible apply tileLetter_regs
    | with_reducible apply RegsBut.foldl
    | split
    | dsimp only
    | with_reducible intro _

theorem setTx_regs {W0 : Nat → Prop} {r0 : State} (s : State) (p : Nat) (t : TxPort) (h0 : RegsBut W0 r0 s) :
    RegsBut W0 r0 (setTx s p t) := by
  unfold setTx
  repeat' first
    | with_reducible assumption
    | simp only [RegsBut.chn]

theorem txOne_regs {W0 : Nat → Prop} {r0 : State} (s : State) (p : Nat) (h0 : RegsBut W0 r0 s) :
    RegsBut W0 r0 (txOne s p) := by
  unfold txOne
  repeat' first
    | with_reducible assumption
    | with_reducible apply emit_regs
    | with_reducible apply setTx_regs
    | with_reducible refine RegsBut.of_snd (by with_reducible assumption) ?_
    | with_reducible refine RegsBut.of_snd2 (by with_reducible assumption) ?_
    | split
    | dsimp only

theorem txRun_regs {W0 : Nat → Prop} {r0 : State} (p : Nat) (y0 : Nat) (y1 : State)
    (h0 : RegsBut W0 r0 y1) :
    RegsBut W0 r0 (txRun p y0 y1) := by
  induction y0 generalizing y1 p with
  | zero =>
    unfold txRun
    repeat' first
      | with_reducible assumption
  | succ y0 ih =>
    unfold txRun
    repeat' first
      | with_reducible assumption
      | with_reducible apply ih
      | with_reducible apply txOne_regs

theorem txFlush_regs {W0 : Nat → Prop} {r0 : State} (s : State) (p : Nat) (h0 : RegsBut W0 r0 s) :
    RegsBut W0 r0 (txFlush s p) := by
  unfold txFlush
  repeat' first
    | with_reducible assumption
    | with_reducible apply txRun_regs
    | split
    | dsimp only

theorem flushPorts_regs {W0 : Nat → Prop} {r0 : State} (s : State) (h0 : RegsBut W0 r0 s) :
    RegsBut W0 r0 (flushPorts s) := by
  unfold flushPorts
  repeat' first
    | with_reducible assumption
    | with_reducible apply txFlush_regs
    | with_reducible apply RegsBut.foldl

theorem sendLetterCells_regs {W0 : Nat → Prop} {r0 : State} (s : State) (p : Nat) (cs : List Bytes) (h0 : RegsBut W0 r0 s) :
    RegsBut W0 r0 (sendLetterCells s p cs) := by
  unfold sendLetterCells
  repeat' first
    | with_reducible assumption
    | with_reducible apply setTx_regs
    | with_reducible apply txFlush_regs
    | split

theorem sendFirst_regs {W0 : Nat → Prop} {r0 : State} (c : Bytes) (s : State) (p : Nat) (h0 : RegsBut W0 r0 s) :
    RegsBut W0 r0 (sendFirst c s p) := by
  unfold sendFirst
  repeat' first
    | with_reducible assumption
    | with_reducible apply emit_regs
    | with_reducible apply setTx_regs

theorem sendNow_regs {W0 : Nat → Prop} {r0 : State} (s : State) (ports : List Nat) (c : Bytes) (h0 : RegsBut W0 r0 s) :
    RegsBut W0 r0 (sendNow s ports c) := by
  unfold sendNow
  repeat' first
    | with_reducible assumption
    | with_reducible apply sendFirst_regs
    | with_reducible apply RegsBut.foldl

end Sys2Proof.Machine
end

