-- ==== Sys2Proof/Laws/RegsFlags.lean ====
section
/-! SUPPORT. Which registers each operation of Machine/Flags.lean may write. -/

namespace Sys2Proof.Machine

theorem appendEvent_regs {W0 : Nat → Prop} {r0 : State} (s : State) (e : Ev) (h_pba : ∀ k, W0 (0x38000 + 4 * (k % 64))) (h_GLB_EVTOVF : W0 R.GLB_EVTOVF) (h0 : RegsBut W0 r0 s) :
    RegsBut W0 r0 (appendEvent s e) := by
  unfold appendEvent
  repeat' first
    | with_reducible assumption
    | simp only [RegsBut.hif]
    | with_reducible exact h_GLB_EVTOVF
    | with_reducible apply incSat_regs
    | with_reducible apply sendVec_regs
    | split

theorem raise_regs {W0 : Nat → Prop} {r0 : State} (s : State) (code : Nat) (det : Bytes) (h_pba : ∀ k, W0 (0x38000 + 4 * (k % 64))) (h_GLB_EVTOVF : W0 R.GLB_EVTOVF) (h_CHN_PERR : ∀ i, W0 (R.CHN_PERR i)) (h0 : RegsBut W0 r0 s) :
    RegsBut W0 r0 (raise s code det) := by
  unfold raise
  repeat' first
    | with_reducible assumption
    | with_reducible apply tileLetter_regs
    | with_reducible apply appendEvent_regs
    | split
    | dsimp only

theorem uncorrectable_regs {W0 : Nat → Prop} {r0 : State} (s : State) (b : Nat) (h_pba : ∀ k, W0 (0x38000 + 4 * (k % 64))) (h_GLB_EVTOVF : W0 R.GLB_EVTOVF) (h_CHN_PERR : ∀ i, W0 (R.CHN_PERR i)) (h_DRC_ECCSTAT : W0 R.DRC_ECCSTAT) (h_DRC_UEADDR : W0 R.DRC_UEADDR) (h0 : RegsBut W0 r0 s) :
    RegsBut W0 r0 (uncorrectable s b) := by
  unfold uncorrectable
  repeat' first
    | with_reducible assumption
    | simp only [RegsBut.drc]
    | with_reducible exact h_DRC_ECCSTAT
    | with_reducible exact h_DRC_UEADDR
    | with_reducible apply setF_regs
    | with_reducible apply incSat_regs
    | with_reducible apply raise_regs

theorem noteBad_regs {W0 : Nat → Prop} {r0 : State} (s : State) (a : Nat) (n : Nat) (h_pba : ∀ k, W0 (0x38000 + 4 * (k % 64))) (h_GLB_EVTOVF : W0 R.GLB_EVTOVF) (h_CHN_PERR : ∀ i, W0 (R.CHN_PERR i)) (h_DRC_ECCSTAT : W0 R.DRC_ECCSTAT) (h_DRC_UEADDR : W0 R.DRC_UEADDR) (h0 : RegsBut W0 r0 s) :
    RegsBut W0 r0 (noteBad s a n) := by
  unfold noteBad
  repeat' first
    | with_reducible assumption
    | with_reducible apply uncorrectable_regs
    | with_reducible apply RegsBut.foldl
    | split
    | dsimp only
    | with_reducible intro _

theorem blockStore_regs {W0 : Nat → Prop} {r0 : State} (s : State) (port : Nat) (a : Nat) (b : Bytes) (h_pba : ∀ k, W0 (0x38000 + 4 * (k % 64))) (h_GLB_EVTOVF : W0 R.GLB_EVTOVF) (h_CHN_PERR : ∀ i, W0 (R.CHN_PERR i)) (h_DRC_ECCSTAT : W0 R.DRC_ECCSTAT) (h_DRC_UEADDR : W0 R.DRC_UEADDR) (h_DRC_HAZSTAT : W0 R.DRC_HAZSTAT) (h0 : RegsBut W0 r0 s) :
    RegsBut W0 r0 (blockStore s port a b) := by
  unfold blockStore
  repeat' first
    | with_reducible assumption
    | with_reducible exact h_DRC_HAZSTAT
    | with_reducible apply incSat_regs
    | with_reducible apply dramWr_regs
    | with_reducible apply emit_regs
    | with_reducible apply uncorrectable_regs
    | split
    | dsimp only

theorem dramStore_regs {W0 : Nat → Prop} {r0 : State} (s : State) (port : Nat) (a : Nat) (b : Bytes) (h_pba : ∀ k, W0 (0x38000 + 4 * (k % 64))) (h_GLB_EVTOVF : W0 R.GLB_EVTOVF) (h_CHN_PERR : ∀ i, W0 (R.CHN_PERR i)) (h_DRC_ECCSTAT : W0 R.DRC_ECCSTAT) (h_DRC_UEADDR : W0 R.DRC_UEADDR) (h_DRC_HAZSTAT : W0 R.DRC_HAZSTAT) (h0 : RegsBut W0 r0 s) :
    RegsBut W0 r0 (dramStore s port a b) := by
  unfold dramStore
  repeat' first
    | with_reducible assumption
    | with_reducible apply blockStore_regs
    | with_reducible apply RegsBut.foldl
    | split
    | dsimp only
    | with_reducible intro _

theorem countYield_regs {W0 : Nat → Prop} {r0 : State} (s : State) (y : Yield) (h_pba : ∀ k, W0 (0x38000 + 4 * (k % 64))) (h_GLB_YIELDCNT : W0 R.GLB_YIELDCNT) (h_GLB_EVTOVF : W0 R.GLB_EVTOVF) (h_CHN_PERR : ∀ i, W0 (R.CHN_PERR i)) (h0 : RegsBut W0 r0 s) :
    RegsBut W0 r0 (countYield s y) := by
  unfold countYield
  have : (yieldCounter y.loser).off = R.GLB_YIELDCNT := by unfold yieldCounter; split_ifs <;> rfl
  with_reducible apply raise_regs
  all_goals try with_reducible assumption
  with_reducible apply incSat_regs
  · rw [this]; exact h_GLB_YIELDCNT
  · exact h0

theorem recordYield_regs {W0 : Nat → Prop} {r0 : State} (s : State) (y : Yield) (h_GLB_YIELDLAST : W0 R.GLB_YIELDLAST) (h_GLB_YIELDFRM : W0 R.GLB_YIELDFRM) (h0 : RegsBut W0 r0 s) :
    RegsBut W0 r0 (recordYield s y) := by
  unfold recordYield
  repeat' first
    | with_reducible assumption
    | with_reducible exact h_GLB_YIELDLAST
    | with_reducible exact h_GLB_YIELDFRM
    | with_reducible apply setWord_regs

theorem yields_regs {W0 : Nat → Prop} {r0 : State} (s : State) (ys : List Yield) (h_pba : ∀ k, W0 (0x38000 + 4 * (k % 64))) (h_GLB_YIELDCNT : W0 R.GLB_YIELDCNT) (h_GLB_YIELDLAST : W0 R.GLB_YIELDLAST) (h_GLB_YIELDFRM : W0 R.GLB_YIELDFRM) (h_GLB_EVTOVF : W0 R.GLB_EVTOVF) (h_CHN_PERR : ∀ i, W0 (R.CHN_PERR i)) (h0 : RegsBut W0 r0 s) :
    RegsBut W0 r0 (yields s ys) := by
  unfold yields
  repeat' first
    | with_reducible assumption
    | with_reducible apply countYield_regs
    | with_reducible apply recordYield_regs
    | with_reducible apply RegsBut.foldl
    | split
    | dsimp only
    | with_reducible intro _

theorem yield_regs {W0 : Nat → Prop} {r0 : State} (s : State) (winner : Nat) (loser : Nat) (block : Nat) (code : Status) (frame : Nat) (h_pba : ∀ k, W0 (0x38000 + 4 * (k % 64))) (h_GLB_YIELDCNT : W0 R.GLB_YIELDCNT) (h_GLB_YIELDLAST : W0 R.GLB_YIELDLAST) (h_GLB_YIELDFRM : W0 R.GLB_YIELDFRM) (h_GLB_EVTOVF : W0 R.GLB_EVTOVF) (h_CHN_PERR : ∀ i, W0 (R.CHN_PERR i)) (h0 : RegsBut W0 r0 s) :
    RegsBut W0 r0 (yield s winner loser block code frame) := by
  unfold yield
  repeat' first
    | with_reducible assumption
    | with_reducible apply yields_regs

theorem logError_regs {W0 : Nat → Prop} {r0 : State} (s : State) (src : Nat) (off : Nat) (c : Status) (h_pba : ∀ k, W0 (0x38000 + 4 * (k % 64))) (h_GLB_ERRLOG : W0 R.GLB_ERRLOG) (h_GLB_ERRINFO : W0 R.GLB_ERRINFO) (h_GLB_EVTOVF : W0 R.GLB_EVTOVF) (h_CHN_PERR : ∀ i, W0 (R.CHN_PERR i)) (h0 : RegsBut W0 r0 s) :
    RegsBut W0 r0 (logError s src off c) := by
  unfold logError
  repeat' first
    | with_reducible assumption
    | with_reducible exact h_GLB_ERRLOG
    | with_reducible exact h_GLB_ERRINFO
    | with_reducible apply setF_regs
    | with_reducible apply incSat_regs
    | with_reducible apply raise_regs
    | split

theorem clearErrors_regs {W0 : Nat → Prop} {r0 : State} (s : State) (h_GLB_ERRLOG : W0 R.GLB_ERRLOG) (h_GLB_ERRINFO : W0 R.GLB_ERRINFO) (h0 : RegsBut W0 r0 s) :
    RegsBut W0 r0 (clearErrors s) := by
  unfold clearErrors
  repeat' first
    | with_reducible assumption
    | with_reducible exact h_GLB_ERRLOG
    | with_reducible exact h_GLB_ERRINFO
    | with_reducible apply setWord_regs
    | with_reducible apply setF_regs

end Sys2Proof.Machine
end

