-- ==== Sys2Proof/Laws/RegsQue.lean ====
section
/-! SUPPORT. Which registers each operation of Machine/Que.lean may write. -/

namespace Sys2Proof.Machine

theorem setQrec_regs {W0 : Nat → Prop} {r0 : State} (s : State) (q : Nat) (r : QRec) (h0 : RegsBut W0 r0 s) :
    RegsBut W0 r0 (setQrec s q r) := by
  unfold setQrec
  repeat' first
    | with_reducible assumption
    | simp only [RegsBut.queues]

theorem qVector_regs {W0 : Nat → Prop} {r0 : State} (s : State) (q : Nat) (h_pba : ∀ k, W0 (0x38000 + 4 * (k % 64))) (h0 : RegsBut W0 r0 s) :
    RegsBut W0 r0 (qVector s q) := by
  unfold qVector
  repeat' first
    | with_reducible assumption
    | with_reducible apply sendVec_regs

theorem dropFetch_regs {W0 : Nat → Prop} {r0 : State} (s : State) (q : Nat) (h0 : RegsBut W0 r0 s) :
    RegsBut W0 r0 (dropFetch s q) := by
  unfold dropFetch
  repeat' first
    | with_reducible assumption
    | with_reducible apply giveUpRead_regs
    | with_reducible apply setQrec_regs

theorem queueError_regs {W0 : Nat → Prop} {r0 : State} (s : State) (q : Nat) (c : Status) (h_pba : ∀ k, W0 (0x38000 + 4 * (k % 64))) (h_QUE_STAT : ∀ i, W0 (R.QUE_STAT i)) (h0 : RegsBut W0 r0 s) :
    RegsBut W0 r0 (queueError s q c) := by
  unfold queueError
  repeat' first
    | with_reducible assumption
    | with_reducible exact h_QUE_STAT _
    | with_reducible apply setF_regs
    | with_reducible apply qVector_regs
    | with_reducible apply dropFetch_regs
    | split
    | dsimp only

theorem startRead_regs {W0 : Nat → Prop} {r0 : State} (s : State) (q : Nat) (final : Bool) (h_pba : ∀ k, W0 (0x38000 + 4 * (k % 64))) (h0 : RegsBut W0 r0 s) :
    RegsBut W0 r0 (startRead s q final) := by
  unfold startRead
  repeat' first
    | with_reducible assumption
    | with_reducible apply upstream_regs
    | with_reducible apply setQrec_regs
    | split
    | dsimp only

theorem kick_regs {W0 : Nat → Prop} {r0 : State} (s : State) (q : Nat) (h_pba : ∀ k, W0 (0x38000 + 4 * (k % 64))) (h0 : RegsBut W0 r0 s) :
    RegsBut W0 r0 (kick s q) := by
  unfold kick
  repeat' first
    | with_reducible assumption
    | with_reducible apply setQrec_regs
    | with_reducible apply startRead_regs
    | split

theorem kickAll_regs {W0 : Nat → Prop} {r0 : State} (s : State) (h_pba : ∀ k, W0 (0x38000 + 4 * (k % 64))) (h0 : RegsBut W0 r0 s) :
    RegsBut W0 r0 (kickAll s) := by
  unfold kickAll
  repeat' first
    | with_reducible assumption
    | with_reducible apply kick_regs
    | with_reducible apply RegsBut.foldl
    | split
    | dsimp only
    | with_reducible intro _

theorem holdItem_regs {W0 : Nat → Prop} {r0 : State} (s : State) (i : Item) (h_SOR_GSTAT : W0 R.SOR_GSTAT) (h0 : RegsBut W0 r0 s) :
    RegsBut W0 r0 (holdItem s i) := by
  unfold holdItem
  repeat' first
    | with_reducible assumption
    | simp only [RegsBut.sor]
    | with_reducible exact h_SOR_GSTAT
    | with_reducible apply setF_regs
    | split

theorem handOn_regs {W0 : Nat → Prop} {r0 : State} (s : State) (q : Nat) (e : Bytes) (h_QUE_STAT : ∀ i, W0 (R.QUE_STAT i)) (h_QUE_IDX : ∀ i, W0 (R.QUE_IDX i)) (h_SOR_GSTAT : W0 R.SOR_GSTAT) (h0 : RegsBut W0 r0 s) :
    RegsBut W0 r0 (handOn s q e) := by
  unfold handOn
  repeat' first
    | with_reducible assumption
    | with_reducible exact h_QUE_STAT _
    | with_reducible exact h_QUE_IDX _
    | with_reducible apply setF_regs
    | with_reducible apply setQrec_regs
    | with_reducible apply holdItem_regs

theorem ringRead_regs {W0 : Nat → Prop} {r0 : State} (s : State) (q : Nat) (res : RdRes) (h_pba : ∀ k, W0 (0x38000 + 4 * (k % 64))) (h_QUE_STAT : ∀ i, W0 (R.QUE_STAT i)) (h_QUE_IDX : ∀ i, W0 (R.QUE_IDX i)) (h_SOR_GSTAT : W0 R.SOR_GSTAT) (h0 : RegsBut W0 r0 s) :
    RegsBut W0 r0 (ringRead s q res) := by
  unfold ringRead
  repeat' first
    | with_reducible assumption
    | with_reducible apply dropRead_regs
    | with_reducible apply setQrec_regs
    | with_reducible apply queueError_regs
    | with_reducible apply kick_regs
    | with_reducible apply handOn_regs
    | split
    | dsimp only

theorem recheckTimeout_regs {W0 : Nat → Prop} {r0 : State} (s : State) (q : Nat) (h_pba : ∀ k, W0 (0x38000 + 4 * (k % 64))) (h0 : RegsBut W0 r0 s) :
    RegsBut W0 r0 (recheckTimeout s q) := by
  unfold recheckTimeout
  repeat' first
    | with_reducible assumption
    | with_reducible apply startRead_regs
    | split

theorem slotWrite_regs {W0 : Nat → Prop} {r0 : State} (s : State) (q : Nat) (i : Nat) (off : Nat) (b : Bytes) (h_pba : ∀ k, W0 (0x38000 + 4 * (k % 64))) (h0 : RegsBut W0 r0 s) :
    RegsBut W0 r0 (slotWrite s q i off b) := by
  unfold slotWrite
  repeat' first
    | with_reducible assumption
    | with_reducible apply ringWr_regs
    | with_reducible apply upstream_regs
    | split

theorem stopDrained_regs {W0 : Nat → Prop} {r0 : State} (s : State) (q : Nat) (h_QUE_STAT : ∀ i, W0 (R.QUE_STAT i)) (h0 : RegsBut W0 r0 s) :
    RegsBut W0 r0 (stopDrained s q) := by
  unfold stopDrained
  repeat' first
    | with_reducible assumption
    | with_reducible exact h_QUE_STAT _
    | with_reducible apply setF_regs
    | split

theorem serialReady_regs {W0 : Nat → Prop} {r0 : State} (s : State) (q : Nat) (h0 : RegsBut W0 r0 s) :
    RegsBut W0 r0 (serialReady s q) := by
  unfold serialReady
  repeat' first
    | with_reducible assumption
    | simp only [RegsBut.sor]
    | split

theorem retireEntry_regs {W0 : Nat → Prop} {r0 : State} (s : State) (q : Nat) (i : Nat) (h_QUE_STAT : ∀ i, W0 (R.QUE_STAT i)) (h_QUE_RET : ∀ i, W0 (R.QUE_RET i)) (h0 : RegsBut W0 r0 s) :
    RegsBut W0 r0 (retireEntry s q i) := by
  unfold retireEntry
  repeat' first
    | with_reducible assumption
    | with_reducible exact h_QUE_STAT _
    | with_reducible exact h_QUE_RET _
    | with_reducible apply setF_regs
    | with_reducible apply setQrec_regs
    | with_reducible apply stopDrained_regs

theorem retireLate_regs {W0 : Nat → Prop} {r0 : State} (s : State) (h_QUE_STAT : ∀ i, W0 (R.QUE_STAT i)) (h_QUE_RET : ∀ i, W0 (R.QUE_RET i)) (h0 : RegsBut W0 r0 s) :
    RegsBut W0 r0 (retireLate s) := by
  unfold retireLate
  repeat' first
    | with_reducible assumption
    | with_reducible apply setQrec_regs
    | with_reducible apply serialReady_regs
    | with_reducible apply retireEntry_regs
    | with_reducible apply RegsBut.foldl
    | split
    | dsimp only
    | with_reducible intro _

theorem entryLost_regs {W0 : Nat → Prop} {r0 : State} (s : State) (q : Nat) (i : Nat) (h0 : RegsBut W0 r0 s) :
    RegsBut W0 r0 (entryLost s q i) := by
  unfold entryLost
  repeat' first
    | with_reducible assumption
    | with_reducible apply setQrec_regs
    | with_reducible apply serialReady_regs

theorem lateLost_regs {W0 : Nat → Prop} {r0 : State} (s : State) (h0 : RegsBut W0 r0 s) :
    RegsBut W0 r0 (lateLost s) := by
  unfold lateLost
  repeat' first
    | with_reducible assumption
    | with_reducible apply setQrec_regs
    | with_reducible apply entryLost_regs
    | with_reducible apply RegsBut.foldl
    | split
    | dsimp only
    | with_reducible intro _

theorem completeEntry_regs {W0 : Nat → Prop} {r0 : State} (s : State) (q : Nat) (i : Nat) (flags : Nat) (words : List (Nat × Bytes)) (c : Nat) (dead : Bool) (h_pba : ∀ k, W0 (0x38000 + 4 * (k % 64))) (h_QUE_STAT : ∀ i, W0 (R.QUE_STAT i)) (h_QUE_RET : ∀ i, W0 (R.QUE_RET i)) (h0 : RegsBut W0 r0 s) :
    RegsBut W0 r0 (completeEntry s q i flags words c dead) := by
  unfold completeEntry
  repeat' first
    | with_reducible assumption
    | with_reducible apply setQrec_regs
    | with_reducible apply qVector_regs
    | with_reducible apply slotWrite_regs
    | with_reducible apply serialReady_regs
    | with_reducible apply retireEntry_regs
    | with_reducible apply RegsBut.foldl
    | split
    | dsimp only
    | with_reducible intro _

theorem completeItem_regs {W0 : Nat → Prop} {r0 : State} (s : State) (it : Item) (words : List (Nat × Bytes)) (c : Nat) (dead : Bool) (h_pba : ∀ k, W0 (0x38000 + 4 * (k % 64))) (h_QUE_STAT : ∀ i, W0 (R.QUE_STAT i)) (h_QUE_RET : ∀ i, W0 (R.QUE_RET i)) (h0 : RegsBut W0 r0 s) :
    RegsBut W0 r0 (completeItem s it words c dead) := by
  unfold completeItem
  repeat' first
    | with_reducible assumption
    | with_reducible apply entryLost_regs
    | with_reducible apply completeEntry_regs
    | split

theorem complete_regs {W0 : Nat → Prop} {r0 : State} (s : State) (it : Item) (words : List (Nat × Bytes)) (c : Status) (dead : Bool) (h_pba : ∀ k, W0 (0x38000 + 4 * (k % 64))) (h_QUE_STAT : ∀ i, W0 (R.QUE_STAT i)) (h_QUE_RET : ∀ i, W0 (R.QUE_RET i)) (h0 : RegsBut W0 r0 s) :
    RegsBut W0 r0 (complete s it words c dead) := by
  unfold complete
  repeat' first
    | with_reducible assumption
    | with_reducible apply completeItem_regs

theorem complete40_regs {W0 : Nat → Prop} {r0 : State} (s : State) (it : Item) (words : Bytes) (c : Status) (dead : Bool) (h_pba : ∀ k, W0 (0x38000 + 4 * (k % 64))) (h_QUE_STAT : ∀ i, W0 (R.QUE_STAT i)) (h_QUE_RET : ∀ i, W0 (R.QUE_RET i)) (h0 : RegsBut W0 r0 s) :
    RegsBut W0 r0 (complete40 s it words c dead) := by
  unfold complete40
  repeat' first
    | with_reducible assumption
    | with_reducible apply complete_regs

theorem queueEnable_regs {W0 : Nat → Prop} {r0 : State} (s : State) (q : Nat) (h_QUE_STAT : ∀ i, W0 (R.QUE_STAT i)) (h_QUE_IDX : ∀ i, W0 (R.QUE_IDX i)) (h_QUE_RET : ∀ i, W0 (R.QUE_RET i)) (h0 : RegsBut W0 r0 s) :
    RegsBut W0 r0 (queueEnable s q) := by
  unfold queueEnable
  repeat' first
    | with_reducible assumption
    | with_reducible exact h_QUE_STAT _
    | with_reducible exact h_QUE_IDX _
    | with_reducible exact h_QUE_RET _
    | with_reducible apply setWord_regs
    | with_reducible apply setF_regs
    | with_reducible apply setQrec_regs

theorem queueDisable_regs {W0 : Nat → Prop} {r0 : State} (s : State) (q : Nat) (h_QUE_STAT : ∀ i, W0 (R.QUE_STAT i)) (h0 : RegsBut W0 r0 s) :
    RegsBut W0 r0 (queueDisable s q) := by
  unfold queueDisable
  repeat' first
    | with_reducible assumption
    | with_reducible exact h_QUE_STAT _
    | with_reducible apply setF_regs
    | with_reducible apply setQrec_regs

theorem queueStop_regs {W0 : Nat → Prop} {r0 : State} (s : State) (q : Nat) (h_QUE_STAT : ∀ i, W0 (R.QUE_STAT i)) (h0 : RegsBut W0 r0 s) :
    RegsBut W0 r0 (queueStop s q) := by
  unfold queueStop
  repeat' first
    | with_reducible assumption
    | with_reducible exact h_QUE_STAT _
    | with_reducible apply setF_regs
    | with_reducible apply dropFetch_regs
    | with_reducible apply stopDrained_regs

theorem queueResume_regs {W0 : Nat → Prop} {r0 : State} (s : State) (q : Nat) (h_pba : ∀ k, W0 (0x38000 + 4 * (k % 64))) (h_QUE_STAT : ∀ i, W0 (R.QUE_STAT i)) (h0 : RegsBut W0 r0 s) :
    RegsBut W0 r0 (queueResume s q) := by
  unfold queueResume
  repeat' first
    | with_reducible assumption
    | with_reducible exact h_QUE_STAT _
    | with_reducible apply setF_regs
    | with_reducible apply kick_regs

theorem acceptTail_regs {W0 : Nat → Prop} {r0 : State} (s : State) (q : Nat) (t : Nat) (h_pba : ∀ k, W0 (0x38000 + 4 * (k % 64))) (h_QUE_IDX : ∀ i, W0 (R.QUE_IDX i)) (h0 : RegsBut W0 r0 s) :
    RegsBut W0 r0 (acceptTail s q t) := by
  unfold acceptTail
  repeat' first
    | with_reducible assumption
    | with_reducible exact h_QUE_IDX _
    | with_reducible apply setF_regs
    | with_reducible apply setQrec_regs
    | with_reducible apply kick_regs

theorem ringFillWrite_regs {W0 : Nat → Prop} {r0 : State} (s : State) (q : Nat) (f : Nat) (y0 : List Bytes)
    (h0 : RegsBut W0 r0 s) :
    RegsBut W0 r0 (ringFillWrite s q f y0) := by
  induction y0 generalizing s q f with
  | nil =>
    unfold ringFillWrite
    repeat' first
      | with_reducible assumption
  | cons x0 y0 ih =>
    unfold ringFillWrite
    repeat' first
      | with_reducible assumption
      | with_reducible apply ih
      | with_reducible apply ringWr_regs

theorem queAbortAll_regs {W0 : Nat → Prop} {r0 : State} (s : State) (h_pba : ∀ k, W0 (0x38000 + 4 * (k % 64))) (h_QUE_STAT : ∀ i, W0 (R.QUE_STAT i)) (h_QUE_RET : ∀ i, W0 (R.QUE_RET i)) (h0 : RegsBut W0 r0 s) :
    RegsBut W0 r0 (queAbortAll s) := by
  unfold queAbortAll
  repeat' first
    | with_reducible assumption
    | with_reducible apply completeEntry_regs
    | with_reducible apply RegsBut.foldl
    | split
    | dsimp only
    | with_reducible intro _

theorem queBlockReset_regs {W0 : Nat → Prop} {r0 : State} (s : State) (h_pba : ∀ k, W0 (0x38000 + 4 * (k % 64))) (h_r0x40000 : ∀ off, 0x40000 ≤ off → off < 0x80000 → W0 off) (h_QUE_STAT : ∀ i, W0 (R.QUE_STAT i)) (h_QUE_RET : ∀ i, W0 (R.QUE_RET i)) (h0 : RegsBut W0 r0 s) :
    RegsBut W0 r0 (queBlockReset s) := by
  unfold queBlockReset
  repeat' first
    | with_reducible assumption
    | simp only [RegsBut.queues_sor]
    | with_reducible assumption
    | with_reducible apply resetRegs_regs
    | with_reducible apply giveUpRead_regs
    | with_reducible apply queAbortAll_regs
    | with_reducible apply RegsBut.foldl
    | split
    | dsimp only
    | with_reducible intro _

end Sys2Proof.Machine
end

