-- ==== Sys2Proof/Laws/RegsCores.lean ====
section
/-! SUPPORT. Which registers each operation of Machine/Cores.lean may write. -/

namespace Sys2Proof.Machine

theorem wrapTimes_regs {W0 : Nat → Prop} {r0 : State} (h_pba : ∀ k, W0 (0x38000 + 4 * (k % 64))) (h_GLB_EVTOVF : W0 R.GLB_EVTOVF) (h_CHN_PERR : ∀ i, W0 (R.CHN_PERR i)) (y0 : Nat) (y1 : State)
    (h0 : RegsBut W0 r0 y1) :
    RegsBut W0 r0 (wrapTimes y0 y1) := by
  induction y0 generalizing y1 with
  | zero =>
    unfold wrapTimes
    repeat' first
      | with_reducible assumption
  | succ y0 ih =>
    unfold wrapTimes
    repeat' first
      | with_reducible assumption
      | simp only [RegsBut.wraps]
      | with_reducible apply ih
      | with_reducible apply raise_regs

theorem longWindow_regs {W0 : Nat → Prop} {r0 : State} (s : State) (e : Nat) (h_SOR_GSTAT : W0 R.SOR_GSTAT) (h0 : RegsBut W0 r0 s) :
    RegsBut W0 r0 (longWindow s e) := by
  unfold longWindow
  repeat' first
    | with_reducible assumption
    | with_reducible exact h_SOR_GSTAT
    | with_reducible apply setF_regs
    | split

theorem advance_regs {W0 : Nat → Prop} {r0 : State} (n : Nat) (s : State) (h_pba : ∀ k, W0 (0x38000 + 4 * (k % 64))) (h_GLB_EVTOVF : W0 R.GLB_EVTOVF) (h_SOR_GSTAT : W0 R.SOR_GSTAT) (h_CHN_PERR : ∀ i, W0 (R.CHN_PERR i)) (h0 : RegsBut W0 r0 s) :
    RegsBut W0 r0 (advance n s) := by
  unfold advance
  repeat' first
    | with_reducible assumption
    | simp only [RegsBut.time_up]
    | with_reducible apply wrapTimes_regs
    | with_reducible apply longWindow_regs
    | split

theorem lampDrop_regs {W0 : Nat → Prop} {r0 : State} (s : State) (h0 : RegsBut W0 r0 s) :
    RegsBut W0 r0 (lampDrop s) := by
  unfold lampDrop
  repeat' first
    | with_reducible assumption
    | simp only [RegsBut.lmp]
    | split

theorem setTrec_regs {W0 : Nat → Prop} {r0 : State} (s : State) (t : Nat) (r : TRec) (h0 : RegsBut W0 r0 s) :
    RegsBut W0 r0 (setTrec s t r) := by
  unfold setTrec
  repeat' first
    | with_reducible assumption
    | simp only [RegsBut.sor]

theorem busyMark_regs {W0 : Nat → Prop} {r0 : State} (s : State) (t : Nat) (busy : Bool) (h0 : RegsBut W0 r0 s) :
    RegsBut W0 r0 (busyMark s t busy) := by
  unfold busyMark
  repeat' first
    | with_reducible assumption
    | with_reducible apply setTrec_regs

theorem showTarget_regs {W0 : Nat → Prop} {r0 : State} (s : State) (t : Nat) (active : Option Item) (susp : Bool) (h_SOR_TGTSTAT : ∀ i, W0 (R.SOR_TGTSTAT i)) (h0 : RegsBut W0 r0 s) :
    RegsBut W0 r0 (showTarget s t active susp) := by
  unfold showTarget
  repeat' first
    | with_reducible assumption
    | with_reducible exact h_SOR_TGTSTAT _
    | with_reducible apply setF_regs
    | with_reducible apply busyMark_regs

theorem showCore_regs {W0 : Nat → Prop} {r0 : State} (s : State) (t : Nat) (h_SOR_TGTSTAT : ∀ i, W0 (R.SOR_TGTSTAT i)) (h0 : RegsBut W0 r0 s) :
    RegsBut W0 r0 (showCore s t) := by
  unfold showCore
  repeat' first
    | with_reducible assumption
    | with_reducible apply showTarget_regs

theorem coreRelease_regs {W0 : Nat → Prop} {r0 : State} (s : State) (t : Nat) (h_SOR_TGTSTAT : ∀ i, W0 (R.SOR_TGTSTAT i)) (h0 : RegsBut W0 r0 s) :
    RegsBut W0 r0 (coreRelease s t) := by
  unfold coreRelease
  repeat' first
    | with_reducible assumption
    | with_reducible apply setTrec_regs
    | with_reducible apply showCore_regs

theorem coreTake_regs {W0 : Nat → Prop} {r0 : State} {s : State} {op : Nat} (h_SOR_TGTSTAT : ∀ i, W0 (R.SOR_TGTSTAT i))
    {it : Item} {t0 : State} (hx : coreTake s op = some (it, t0)) (h0 : RegsBut W0 r0 s) : RegsBut W0 r0 t0 := by
  unfold coreTake at hx
  split at hx
  · obtain ⟨q, -, he⟩ := Option.map_eq_some_iff.1 hx
    injection he with _ he
    subst he
    with_reducible apply coreRelease_regs <;> assumption
  · cases hx

theorem onEntry_regs {W0 : Nat → Prop} {r0 : State} (s : State) (op : Nat) (f : State → Item → State) (h_SOR_TGTSTAT : ∀ i, W0 (R.SOR_TGTSTAT i)) (h_f : ∀ (x0 : State) (x1 : Item), RegsBut W0 r0 x0 → RegsBut W0 r0 (f x0 x1)) (h0 : RegsBut W0 r0 s) :
    RegsBut W0 r0 (onEntry s op f) := by
  unfold onEntry
  repeat' first
    | with_reducible assumption
    | with_reducible apply h_f
    | with_reducible refine coreTake_regs (hx := by with_reducible assumption) ?_ ?_
    | split

theorem onEntryRead_regs {W0 : Nat → Prop} {r0 : State} (s : State) (op : Nat) (wait : State → Item → Bool) (f : State → Item → State) (h_SOR_TGTSTAT : ∀ i, W0 (R.SOR_TGTSTAT i)) (h_f : ∀ (x0 : State) (x1 : Item), RegsBut W0 r0 x0 → RegsBut W0 r0 (f x0 x1)) (h0 : RegsBut W0 r0 s) :
    RegsBut W0 r0 (onEntryRead s op wait f) := by
  unfold onEntryRead
  repeat' first
    | with_reducible assumption
    | with_reducible apply h_f
    | with_reducible refine coreTake_regs (hx := by with_reducible assumption) ?_ ?_
    | split

end Sys2Proof.Machine
end

