-- ==== Sys2Proof/Laws/RegsSrf.lean ====
section
/-! SUPPORT. Which registers each operation of Machine/Srf.lean may write. -/

namespace Sys2Proof.Machine

theorem srfShow_regs {W0 : Nat → Prop} {r0 : State} (s : State) (h_SRF_STAT : W0 R.SRF_STAT) (h_SRF_FREEPG : W0 R.SRF_FREEPG) (h0 : RegsBut W0 r0 s) :
    RegsBut W0 r0 (srfShow s) := by
  unfold srfShow
  repeat' first
    | with_reducible assumption
    | with_reducible exact h_SRF_STAT
    | with_reducible exact h_SRF_FREEPG
    | with_reducible apply setF_regs

theorem allocPages_regs {W0 : Nat → Prop} {r0 : State} (y0 : Nat) (y1 : State)
    (h0 : RegsBut W0 r0 y1) :
    RegsBut W0 r0 (allocPages y0 y1).2 := by
  induction y0 generalizing y1 with
  | zero =>
    unfold allocPages
    repeat' first
      | with_reducible assumption
  | succ y0 ih =>
    unfold allocPages
    repeat' first
      | with_reducible assumption
      | simp only [RegsBut.srf]
      | with_reducible apply ih
      | with_reducible apply drawNat_regs

theorem freePool_regs {W0 : Nat → Prop} {r0 : State} (s : State) (ps : List Nat) (h0 : RegsBut W0 r0 s) :
    RegsBut W0 r0 (freePool s ps) := by
  unfold freePool
  repeat' first
    | with_reducible assumption
    | simp only [RegsBut.srf]

theorem srfWalk_regs {W0 : Nat → Prop} {r0 : State} (s : State) (vp : Nat) (h_pba : ∀ k, W0 (0x38000 + 4 * (k % 64))) (h_GLB_EVTOVF : W0 R.GLB_EVTOVF) (h_SRF_TCMISS : W0 R.SRF_TCMISS) (h_CHN_PERR : ∀ i, W0 (R.CHN_PERR i)) (h_DRC_ECCSTAT : W0 R.DRC_ECCSTAT) (h_DRC_UEADDR : W0 R.DRC_UEADDR) (h0 : RegsBut W0 r0 s) :
    RegsBut W0 r0 (srfWalk s vp) := by
  unfold srfWalk
  repeat' first
    | with_reducible assumption
    | simp only [RegsBut.srf]
    | with_reducible exact h_SRF_TCMISS
    | with_reducible apply incMod_regs
    | with_reducible apply drawNat_regs
    | with_reducible apply uncorrectable_regs
    | with_reducible refine RegsBut.of_snd (by with_reducible assumption) ?_
    | with_reducible refine RegsBut.of_snd2 (by with_reducible assumption) ?_
    | split

theorem dropCopies_regs {W0 : Nat → Prop} {r0 : State} (s : State) (vp : Nat) (n : Nat) (frames : List Nat) (h0 : RegsBut W0 r0 s) :
    RegsBut W0 r0 (dropCopies s vp n frames) := by
  unfold dropCopies
  repeat' first
    | with_reducible assumption
    | simp only [RegsBut.srf]

theorem loseCopies_regs {W0 : Nat → Prop} {r0 : State} (s : State) (vp : Nat) (n : Nat) (h0 : RegsBut W0 r0 s) :
    RegsBut W0 r0 (loseCopies s vp n) := by
  unfold loseCopies
  repeat' first
    | with_reducible assumption
    | simp only [RegsBut.srf]

theorem engineNote_regs {W0 : Nat → Prop} {r0 : State} (s : State) (f : Nat) (vp : Nat) (a : Nat) (n : Nat) (h_pba : ∀ k, W0 (0x38000 + 4 * (k % 64))) (h_GLB_EVTOVF : W0 R.GLB_EVTOVF) (h_CHN_PERR : ∀ i, W0 (R.CHN_PERR i)) (h_DRC_ECCSTAT : W0 R.DRC_ECCSTAT) (h_DRC_UEADDR : W0 R.DRC_UEADDR) (h0 : RegsBut W0 r0 s) :
    RegsBut W0 r0 (engineNote s f vp a n) := by
  unfold engineNote
  repeat' first
    | with_reducible assumption
    | simp only [RegsBut.srf]
    | with_reducible apply noteBad_regs
    | with_reducible apply RegsBut.foldl
    | split
    | dsimp only
    | with_reducible intro _

theorem pieceNote_regs {W0 : Nat → Prop} {r0 : State} (s : State) (p : Nat × Nat × Nat) (h_pba : ∀ k, W0 (0x38000 + 4 * (k % 64))) (h_GLB_EVTOVF : W0 R.GLB_EVTOVF) (h_CHN_PERR : ∀ i, W0 (R.CHN_PERR i)) (h_DRC_ECCSTAT : W0 R.DRC_ECCSTAT) (h_DRC_UEADDR : W0 R.DRC_UEADDR) (h0 : RegsBut W0 r0 s) :
    RegsBut W0 r0 (pieceNote s p) := by
  unfold pieceNote
  repeat' first
    | with_reducible assumption
    | with_reducible apply noteBad_regs
    | split

theorem svcFetch_regs {W0 : Nat → Prop} {r0 : State} (s : State) (vp : Nat) (a : Nat) (n : Nat) (host : HostRes) (h_pba : ∀ k, W0 (0x38000 + 4 * (k % 64))) (h_GLB_EVTOVF : W0 R.GLB_EVTOVF) (h_SRF_TCMISS : W0 R.SRF_TCMISS) (h_CHN_PERR : ∀ i, W0 (R.CHN_PERR i)) (h_DRC_ECCSTAT : W0 R.DRC_ECCSTAT) (h_DRC_UEADDR : W0 R.DRC_UEADDR) (h0 : RegsBut W0 r0 s) :
    RegsBut W0 r0 (svcFetch s vp a n host).2 := by
  unfold svcFetch
  repeat' first
    | with_reducible assumption
    | with_reducible apply emitAll_regs
    | with_reducible apply srfWalk_regs
    | with_reducible apply pieceNote_regs
    | with_reducible apply RegsBut.foldl
    | split
    | dsimp only
    | with_reducible intro _

theorem surfWrite_regs {W0 : Nat → Prop} {r0 : State} (port : Nat) (s : State) (a : Nat) (b : Bytes) (h_pba : ∀ k, W0 (0x38000 + 4 * (k % 64))) (h_GLB_EVTOVF : W0 R.GLB_EVTOVF) (h_SRF_TCMISS : W0 R.SRF_TCMISS) (h_CHN_PERR : ∀ i, W0 (R.CHN_PERR i)) (h_DRC_ECCSTAT : W0 R.DRC_ECCSTAT) (h_DRC_UEADDR : W0 R.DRC_UEADDR) (h_DRC_HAZSTAT : W0 R.DRC_HAZSTAT) (h0 : RegsBut W0 r0 s) :
    RegsBut W0 r0 (surfWrite port s a b) := by
  unfold surfWrite
  repeat' first
    | with_reducible assumption
    | with_reducible apply upstream_regs
    | with_reducible apply dramStore_regs
    | with_reducible apply srfWalk_regs
    | with_reducible apply RegsBut.foldl
    | with_reducible apply RegsBut.snd
    | with_reducible apply RegsBut.snd2
    | with_reducible apply RegsBut.fst
    | with_reducible apply RegsBut.foldl_snd
    | with_reducible apply RegsBut.foldl_snd2
    | with_reducible apply RegsBut.foldl_fst
    | with_reducible refine RegsBut.of_fst (by with_reducible assumption) ?_
    | with_reducible refine RegsBut.of_snd (by with_reducible assumption) ?_
    | with_reducible refine RegsBut.of_snd2 (by with_reducible assumption) ?_
    | split
    | dsimp only
    | with_reducible intro _

theorem svcWrite_regs {W0 : Nat → Prop} {r0 : State} (s : State) (a : Nat) (b : Bytes) (h_pba : ∀ k, W0 (0x38000 + 4 * (k % 64))) (h_GLB_EVTOVF : W0 R.GLB_EVTOVF) (h_SRF_TCMISS : W0 R.SRF_TCMISS) (h_CHN_PERR : ∀ i, W0 (R.CHN_PERR i)) (h_DRC_ECCSTAT : W0 R.DRC_ECCSTAT) (h_DRC_UEADDR : W0 R.DRC_UEADDR) (h_DRC_HAZSTAT : W0 R.DRC_HAZSTAT) (h0 : RegsBut W0 r0 s) :
    RegsBut W0 r0 (svcWrite s a b) := by
  unfold svcWrite
  repeat' first
    | with_reducible assumption
    | with_reducible apply surfWrite_regs

theorem srfDone_regs {W0 : Nat → Prop} {r0 : State} (s : State) (it : Item) (c : Status) (handle : Nat) (pages : Nat) (frame : Nat) (h_pba : ∀ k, W0 (0x38000 + 4 * (k % 64))) (h_QUE_STAT : ∀ i, W0 (R.QUE_STAT i)) (h_QUE_RET : ∀ i, W0 (R.QUE_RET i)) (h0 : RegsBut W0 r0 s) :
    RegsBut W0 r0 (srfDone s it c handle pages frame) := by
  unfold srfDone
  repeat' first
    | with_reducible assumption
    | with_reducible apply complete40_regs

theorem finishFree_regs {W0 : Nat → Prop} {r0 : State} (s : State) (it : Item) (x : Surf) (h_pba : ∀ k, W0 (0x38000 + 4 * (k % 64))) (h_QUE_STAT : ∀ i, W0 (R.QUE_STAT i)) (h_QUE_RET : ∀ i, W0 (R.QUE_RET i)) (h_SRF_STAT : W0 R.SRF_STAT) (h_SRF_FREEPG : W0 R.SRF_FREEPG) (h0 : RegsBut W0 r0 s) :
    RegsBut W0 r0 (finishFree s it x) := by
  unfold finishFree
  repeat' first
    | with_reducible assumption
    | simp only [RegsBut.srf]
    | with_reducible apply srfShow_regs
    | with_reducible apply freePool_regs
    | with_reducible apply loseCopies_regs
    | with_reducible apply srfDone_regs

theorem finishPend_regs {W0 : Nat → Prop} {r0 : State} (s : State) (o : PendOp) (h_pba : ∀ k, W0 (0x38000 + 4 * (k % 64))) (h_QUE_STAT : ∀ i, W0 (R.QUE_STAT i)) (h_QUE_RET : ∀ i, W0 (R.QUE_RET i)) (h_SRF_STAT : W0 R.SRF_STAT) (h_SRF_FREEPG : W0 R.SRF_FREEPG) (h0 : RegsBut W0 r0 s) :
    RegsBut W0 r0 (finishPend s o) := by
  unfold finishPend
  repeat' first
    | with_reducible assumption
    | with_reducible apply srfShow_regs
    | with_reducible apply freePool_regs
    | with_reducible apply srfDone_regs
    | with_reducible apply finishFree_regs
    | split

theorem sweepPend_regs {W0 : Nat → Prop} {r0 : State} (s : State) (h_pba : ∀ k, W0 (0x38000 + 4 * (k % 64))) (h_QUE_STAT : ∀ i, W0 (R.QUE_STAT i)) (h_QUE_RET : ∀ i, W0 (R.QUE_RET i)) (h_SRF_STAT : W0 R.SRF_STAT) (h_SRF_FREEPG : W0 R.SRF_FREEPG) (h0 : RegsBut W0 r0 s) :
    RegsBut W0 r0 (sweepPend s) := by
  unfold sweepPend
  repeat' first
    | with_reducible assumption
    | simp only [RegsBut.srf]
    | with_reducible apply srfShow_regs
    | with_reducible apply finishPend_regs
    | with_reducible apply RegsBut.foldl
    | split
    | dsimp only
    | with_reducible intro _

theorem forgetFrame_regs {W0 : Nat → Prop} {r0 : State} (s : State) (n : Nat) (h0 : RegsBut W0 r0 s) :
    RegsBut W0 r0 (forgetFrame s n) := by
  unfold forgetFrame
  repeat' first
    | with_reducible assumption
    | simp only [RegsBut.srf]

theorem retireFrame_regs {W0 : Nat → Prop} {r0 : State} (s : State) (h_pba : ∀ k, W0 (0x38000 + 4 * (k % 64))) (h_QUE_STAT : ∀ i, W0 (R.QUE_STAT i)) (h_QUE_RET : ∀ i, W0 (R.QUE_RET i)) (h_SRF_STAT : W0 R.SRF_STAT) (h_SRF_FREEPG : W0 R.SRF_FREEPG) (h_SRF_RETIRED : W0 R.SRF_RETIRED) (h0 : RegsBut W0 r0 s) :
    RegsBut W0 r0 (retireFrame s) := by
  unfold retireFrame
  repeat' first
    | with_reducible assumption
    | simp only [RegsBut.srf]
    | with_reducible exact h_SRF_RETIRED
    | with_reducible apply setF_regs
    | with_reducible apply sweepPend_regs
    | with_reducible apply forgetFrame_regs
    | split

theorem engineStop_regs {W0 : Nat → Prop} {r0 : State} (s : State) (h_pba : ∀ k, W0 (0x38000 + 4 * (k % 64))) (h_QUE_STAT : ∀ i, W0 (R.QUE_STAT i)) (h_QUE_RET : ∀ i, W0 (R.QUE_RET i)) (h_SRF_STAT : W0 R.SRF_STAT) (h_SRF_FREEPG : W0 R.SRF_FREEPG) (h0 : RegsBut W0 r0 s) :
    RegsBut W0 r0 (engineStop s) := by
  unfold engineStop
  repeat' first
    | with_reducible assumption
    | simp only [RegsBut.srf]
    | with_reducible apply sweepPend_regs
    | with_reducible apply forgetFrame_regs
    | with_reducible apply RegsBut.foldl

theorem engineQueue_regs {W0 : Nat → Prop} {r0 : State} (s : State) (n : Nat) (h0 : RegsBut W0 r0 s) :
    RegsBut W0 r0 (engineQueue s n) := by
  unfold engineQueue
  repeat' first
    | with_reducible assumption
    | simp only [RegsBut.srf]

theorem addNeed_regs {W0 : Nat → Prop} {r0 : State} (s : State) (n : Nat) (vp : Nat) (deadline : Nat) (canvas : Nat) (h0 : RegsBut W0 r0 s) :
    RegsBut W0 r0 (addNeed s n vp deadline canvas) := by
  unfold addNeed
  repeat' first
    | with_reducible assumption
    | simp only [RegsBut.srf]

theorem engineStart_regs {W0 : Nat → Prop} {r0 : State} (s : State) (n : Nat) (handles : List Nat) (h0 : RegsBut W0 r0 s) :
    RegsBut W0 r0 (engineStart s n handles) := by
  unfold engineStart
  repeat' first
    | with_reducible assumption
    | simp only [RegsBut.srf]

theorem areaFetch_regs {W0 : Nat → Prop} {r0 : State} (s : State) (handle : Nat) (off : Nat) (n : Nat) (host : HostRes) (h_pba : ∀ k, W0 (0x38000 + 4 * (k % 64))) (h_GLB_EVTOVF : W0 R.GLB_EVTOVF) (h_SRF_TCMISS : W0 R.SRF_TCMISS) (h_CHN_PERR : ∀ i, W0 (R.CHN_PERR i)) (h_DRC_ECCSTAT : W0 R.DRC_ECCSTAT) (h_DRC_UEADDR : W0 R.DRC_UEADDR) (h0 : RegsBut W0 r0 s) :
    RegsBut W0 r0 (areaFetch s handle off n host).2 := by
  unfold areaFetch
  repeat' first
    | with_reducible assumption
    | with_reducible apply svcFetch_regs
    | split

theorem srfCreate_regs {W0 : Nat → Prop} {r0 : State} (s : State) (it : Item) (h_pba : ∀ k, W0 (0x38000 + 4 * (k % 64))) (h_QUE_STAT : ∀ i, W0 (R.QUE_STAT i)) (h_QUE_RET : ∀ i, W0 (R.QUE_RET i)) (h_SRF_STAT : W0 R.SRF_STAT) (h_SRF_FREEPG : W0 R.SRF_FREEPG) (h0 : RegsBut W0 r0 s) :
    RegsBut W0 r0 (srfCreate s it) := by
  unfold srfCreate
  repeat' first
    | with_reducible assumption
    | simp only [RegsBut.srf]
    | with_reducible apply srfShow_regs
    | with_reducible apply allocPages_regs
    | with_reducible apply srfDone_regs

theorem allocRanges_regs {W0 : Nat → Prop} {r0 : State} (y0 : List (Nat × Nat)) (y1 : State)
    (h0 : RegsBut W0 r0 y1) :
    RegsBut W0 r0 (allocRanges y0 y1).2 := by
  induction y0 generalizing y1 with
  | nil =>
    unfold allocRanges
    repeat' first
      | with_reducible assumption
  | cons x0 y0 ih =>
    unfold allocRanges
    repeat' first
      | with_reducible assumption
      | with_reducible apply ih
      | with_reducible apply allocPages_regs

theorem srfBack_regs {W0 : Nat → Prop} {r0 : State} (s : State) (it : Item) (h_pba : ∀ k, W0 (0x38000 + 4 * (k % 64))) (h_QUE_STAT : ∀ i, W0 (R.QUE_STAT i)) (h_QUE_RET : ∀ i, W0 (R.QUE_RET i)) (h_SRF_STAT : W0 R.SRF_STAT) (h_SRF_FREEPG : W0 R.SRF_FREEPG) (h0 : RegsBut W0 r0 s) :
    RegsBut W0 r0 (srfBack s it) := by
  unfold srfBack
  repeat' first
    | with_reducible assumption
    | simp only [RegsBut.srf]
    | with_reducible apply srfShow_regs
    | with_reducible apply dropCopies_regs
    | with_reducible apply finishPend_regs
    | with_reducible apply allocRanges_regs
    | with_reducible refine RegsBut.of_snd (by with_reducible assumption) ?_
    | with_reducible refine RegsBut.of_snd2 (by with_reducible assumption) ?_
    | split

theorem srfInval_regs {W0 : Nat → Prop} {r0 : State} (s : State) (it : Item) (h_pba : ∀ k, W0 (0x38000 + 4 * (k % 64))) (h_QUE_STAT : ∀ i, W0 (R.QUE_STAT i)) (h_QUE_RET : ∀ i, W0 (R.QUE_RET i)) (h_SRF_STAT : W0 R.SRF_STAT) (h_SRF_FREEPG : W0 R.SRF_FREEPG) (h0 : RegsBut W0 r0 s) :
    RegsBut W0 r0 (srfInval s it) := by
  unfold srfInval
  repeat' first
    | with_reducible assumption
    | simp only [RegsBut.srf]
    | with_reducible apply srfShow_regs
    | with_reducible apply dropCopies_regs
    | with_reducible apply finishPend_regs
    | split

theorem srfFree_regs {W0 : Nat → Prop} {r0 : State} (s : State) (it : Item) (h_pba : ∀ k, W0 (0x38000 + 4 * (k % 64))) (h_QUE_STAT : ∀ i, W0 (R.QUE_STAT i)) (h_QUE_RET : ∀ i, W0 (R.QUE_RET i)) (h_SRF_STAT : W0 R.SRF_STAT) (h_SRF_FREEPG : W0 R.SRF_FREEPG) (h0 : RegsBut W0 r0 s) :
    RegsBut W0 r0 (srfFree s it) := by
  unfold srfFree
  repeat' first
    | with_reducible assumption
    | simp only [RegsBut.srf]
    | with_reducible apply srfShow_regs
    | with_reducible apply finishFree_regs
    | split

theorem srfApply_regs {W0 : Nat → Prop} {r0 : State} (s : State) (it : Item) (h_pba : ∀ k, W0 (0x38000 + 4 * (k % 64))) (h_QUE_STAT : ∀ i, W0 (R.QUE_STAT i)) (h_QUE_RET : ∀ i, W0 (R.QUE_RET i)) (h_SRF_STAT : W0 R.SRF_STAT) (h_SRF_FREEPG : W0 R.SRF_FREEPG) (h0 : RegsBut W0 r0 s) :
    RegsBut W0 r0 (srfApply s it) := by
  unfold srfApply
  repeat' first
    | with_reducible assumption
    | with_reducible apply srfDone_regs
    | with_reducible apply srfCreate_regs
    | with_reducible apply srfBack_regs
    | with_reducible apply srfInval_regs
    | with_reducible apply srfFree_regs
    | split
    | dsimp only

theorem srfEntry_regs {W0 : Nat → Prop} {r0 : State} (s : State) (it : Item) (h_pba : ∀ k, W0 (0x38000 + 4 * (k % 64))) (h_QUE_STAT : ∀ i, W0 (R.QUE_STAT i)) (h_QUE_RET : ∀ i, W0 (R.QUE_RET i)) (h_SRF_STAT : W0 R.SRF_STAT) (h_SRF_FREEPG : W0 R.SRF_FREEPG) (h0 : RegsBut W0 r0 s) :
    RegsBut W0 r0 (srfEntry s it) := by
  unfold srfEntry
  repeat' first
    | with_reducible assumption
    | simp only [RegsBut.srf]
    | with_reducible apply srfApply_regs
    | split

theorem srfEnable_regs {W0 : Nat → Prop} {r0 : State} (s : State) (h_SRF_CTL : W0 R.SRF_CTL) (h_SRF_STAT : W0 R.SRF_STAT) (h_SRF_FREEPG : W0 R.SRF_FREEPG) (h0 : RegsBut W0 r0 s) :
    RegsBut W0 r0 (srfEnable s) := by
  unfold srfEnable
  repeat' first
    | with_reducible assumption
    | simp only [RegsBut.srf]
    | with_reducible exact h_SRF_CTL
    | with_reducible apply setF_regs
    | with_reducible apply srfShow_regs

theorem srfTableDone_regs {W0 : Nat → Prop} {r0 : State} (s : State) (h_pba : ∀ k, W0 (0x38000 + 4 * (k % 64))) (h_QUE_STAT : ∀ i, W0 (R.QUE_STAT i)) (h_QUE_RET : ∀ i, W0 (R.QUE_RET i)) (h_SRF_STAT : W0 R.SRF_STAT) (h_SRF_FREEPG : W0 R.SRF_FREEPG) (h0 : RegsBut W0 r0 s) :
    RegsBut W0 r0 (srfTableDone s) := by
  unfold srfTableDone
  repeat' first
    | with_reducible assumption
    | simp only [RegsBut.srf]
    | with_reducible apply srfApply_regs
    | with_reducible apply RegsBut.foldl
    | split
    | dsimp only
    | with_reducible intro _

theorem prefetchMiss_regs {W0 : Nat → Prop} {r0 : State} (s : State) (vp : Nat) (frame : Nat) (c : Status) (h_SRF_PFSTAT : W0 R.SRF_PFSTAT) (h_SRF_PFLAST : W0 R.SRF_PFLAST) (h0 : RegsBut W0 r0 s) :
    RegsBut W0 r0 (prefetchMiss s vp frame c) := by
  unfold prefetchMiss
  repeat' first
    | with_reducible assumption
    | simp only [RegsBut.srf]
    | with_reducible exact h_SRF_PFSTAT
    | with_reducible exact h_SRF_PFLAST
    | with_reducible apply setF_regs
    | with_reducible apply incSat_regs

theorem prefetchOne_regs {W0 : Nat → Prop} {r0 : State} (s : State) (p : Need → Bool) (h_pba : ∀ k, W0 (0x38000 + 4 * (k % 64))) (h_GLB_EVTOVF : W0 R.GLB_EVTOVF) (h_SRF_PFSTAT : W0 R.SRF_PFSTAT) (h_SRF_PFLAST : W0 R.SRF_PFLAST) (h_SRF_TCMISS : W0 R.SRF_TCMISS) (h_CHN_PERR : ∀ i, W0 (R.CHN_PERR i)) (h_DRC_ECCSTAT : W0 R.DRC_ECCSTAT) (h_DRC_UEADDR : W0 R.DRC_UEADDR) (h0 : RegsBut W0 r0 s) :
    RegsBut W0 r0 (prefetchOne s p) := by
  unfold prefetchOne
  repeat' first
    | with_reducible assumption
    | simp only [RegsBut.srf]
    | with_reducible apply upstream_regs
    | with_reducible apply srfWalk_regs
    | with_reducible apply prefetchMiss_regs
    | split

theorem prefetchDue_regs {W0 : Nat → Prop} {r0 : State} (s : State) (h_pba : ∀ k, W0 (0x38000 + 4 * (k % 64))) (h_GLB_EVTOVF : W0 R.GLB_EVTOVF) (h_SRF_PFSTAT : W0 R.SRF_PFSTAT) (h_SRF_PFLAST : W0 R.SRF_PFLAST) (h_SRF_TCMISS : W0 R.SRF_TCMISS) (h_CHN_PERR : ∀ i, W0 (R.CHN_PERR i)) (h_DRC_ECCSTAT : W0 R.DRC_ECCSTAT) (h_DRC_UEADDR : W0 R.DRC_UEADDR) (h0 : RegsBut W0 r0 s) :
    RegsBut W0 r0 (prefetchDue s) := by
  unfold prefetchDue
  repeat' first
    | with_reducible assumption
    | with_reducible apply prefetchOne_regs
    | with_reducible apply RegsBut.foldl
    | split
    | dsimp only
    | with_reducible intro _

theorem prefetchIssue_regs {W0 : Nat → Prop} {r0 : State} (s : State) (h_pba : ∀ k, W0 (0x38000 + 4 * (k % 64))) (h_GLB_EVTOVF : W0 R.GLB_EVTOVF) (h_SRF_PFSTAT : W0 R.SRF_PFSTAT) (h_SRF_PFLAST : W0 R.SRF_PFLAST) (h_SRF_TCMISS : W0 R.SRF_TCMISS) (h_CHN_PERR : ∀ i, W0 (R.CHN_PERR i)) (h_DRC_ECCSTAT : W0 R.DRC_ECCSTAT) (h_DRC_UEADDR : W0 R.DRC_UEADDR) (h0 : RegsBut W0 r0 s) :
    RegsBut W0 r0 (prefetchIssue s) := by
  unfold prefetchIssue
  repeat' first
    | with_reducible assumption
    | with_reducible apply prefetchOne_regs
    | with_reducible apply prefetchDue_regs

theorem prefetchDone_regs {W0 : Nat → Prop} {r0 : State} (s : State) (vp : Nat) (b : Bytes) (h_pba : ∀ k, W0 (0x38000 + 4 * (k % 64))) (h0 : RegsBut W0 r0 s) :
    RegsBut W0 r0 (prefetchDone s vp b) := by
  unfold prefetchDone
  repeat' first
    | with_reducible assumption
    | simp only [RegsBut.srf]
    | with_reducible apply dramWr_regs
    | with_reducible apply dropRead_regs
    | split

theorem prefetchFail_regs {W0 : Nat → Prop} {r0 : State} (s : State) (vp : Nat) (c : Status) (h_pba : ∀ k, W0 (0x38000 + 4 * (k % 64))) (h_SRF_PFSTAT : W0 R.SRF_PFSTAT) (h_SRF_PFLAST : W0 R.SRF_PFLAST) (h0 : RegsBut W0 r0 s) :
    RegsBut W0 r0 (prefetchFail s vp c) := by
  unfold prefetchFail
  repeat' first
    | with_reducible assumption
    | simp only [RegsBut.srf]
    | with_reducible apply dropRead_regs
    | with_reducible apply prefetchMiss_regs
    | split

theorem recordLate_regs {W0 : Nat → Prop} {r0 : State} (s : State) (d : Need) (h_SRF_PFSTAT : W0 R.SRF_PFSTAT) (h_SRF_PFLAST : W0 R.SRF_PFLAST) (h_SRF_PFFRM : W0 R.SRF_PFFRM) (h0 : RegsBut W0 r0 s) :
    RegsBut W0 r0 (recordLate s d) := by
  unfold recordLate
  repeat' first
    | with_reducible assumption
    | simp only [RegsBut.srf]
    | with_reducible exact h_SRF_PFSTAT
    | with_reducible exact h_SRF_PFLAST
    | with_reducible exact h_SRF_PFFRM
    | with_reducible apply setF_regs
    | with_reducible apply incSat_regs

theorem touchNeeds_regs {W0 : Nat → Prop} {r0 : State} (s : State) (n : Nat) (p : Need → Bool) (h_pba : ∀ k, W0 (0x38000 + 4 * (k % 64))) (h_GLB_EVTOVF : W0 R.GLB_EVTOVF) (h_SRF_TCMISS : W0 R.SRF_TCMISS) (h_CHN_PERR : ∀ i, W0 (R.CHN_PERR i)) (h_DRC_ECCSTAT : W0 R.DRC_ECCSTAT) (h_DRC_UEADDR : W0 R.DRC_UEADDR) (h0 : RegsBut W0 r0 s) :
    RegsBut W0 r0 (touchNeeds s n p) := by
  unfold touchNeeds
  repeat' first
    | with_reducible assumption
    | simp only [RegsBut.srf]
    | with_reducible apply srfWalk_regs
    | with_reducible apply RegsBut.foldl
    | split
    | dsimp only
    | with_reducible intro _

theorem srfLinkLoss_regs {W0 : Nat → Prop} {r0 : State} (s : State) (h_pba : ∀ k, W0 (0x38000 + 4 * (k % 64))) (h_SRF_PFSTAT : W0 R.SRF_PFSTAT) (h_SRF_PFLAST : W0 R.SRF_PFLAST) (h0 : RegsBut W0 r0 s) :
    RegsBut W0 r0 (srfLinkLoss s) := by
  unfold srfLinkLoss
  repeat' first
    | with_reducible assumption
    | with_reducible apply prefetchFail_regs
    | with_reducible apply RegsBut.foldl
    | split
    | dsimp only
    | with_reducible intro _

theorem srfBlockReset_regs {W0 : Nat → Prop} {r0 : State} (s : State) (h_pba : ∀ k, W0 (0x38000 + 4 * (k % 64))) (h_r0xA0000 : ∀ off, 0xA0000 ≤ off → off < 0xB0000 → W0 off) (h_QUE_STAT : ∀ i, W0 (R.QUE_STAT i)) (h_QUE_RET : ∀ i, W0 (R.QUE_RET i)) (h0 : RegsBut W0 r0 s) :
    RegsBut W0 r0 (srfBlockReset s) := by
  unfold srfBlockReset
  repeat' first
    | with_reducible assumption
    | simp only [RegsBut.srf]
    | with_reducible assumption
    | with_reducible apply resetRegs_regs
    | with_reducible apply srfDone_regs
    | with_reducible apply RegsBut.foldl
    | split
    | dsimp only
    | with_reducible intro _

theorem execSrfTableInitDone_regs {W0 : Nat → Prop} {r0 : State} (s : State) (h_pba : ∀ k, W0 (0x38000 + 4 * (k % 64))) (h_QUE_STAT : ∀ i, W0 (R.QUE_STAT i)) (h_QUE_RET : ∀ i, W0 (R.QUE_RET i)) (h_SRF_STAT : W0 R.SRF_STAT) (h_SRF_FREEPG : W0 R.SRF_FREEPG) {t0 : State} (h0 : RegsBut W0 r0 s) (ht : execSrfTableInitDone s = .next t0) :
    RegsBut W0 r0 t0 := by
  unfold execSrfTableInitDone at ht
  apply whenOn_regs (ht := ht)
  repeat' first
    | with_reducible assumption
    | with_reducible apply srfTableDone_regs
    | split
    | dsimp only
    | with_reducible intro _

theorem execSurfaceCreate_regs {W0 : Nat → Prop} {r0 : State} (s : State) (h_pba : ∀ k, W0 (0x38000 + 4 * (k % 64))) (h_QUE_STAT : ∀ i, W0 (R.QUE_STAT i)) (h_QUE_RET : ∀ i, W0 (R.QUE_RET i)) (h_SOR_TGTSTAT : ∀ i, W0 (R.SOR_TGTSTAT i)) (h_SRF_STAT : W0 R.SRF_STAT) (h_SRF_FREEPG : W0 R.SRF_FREEPG) {t0 : State} (h0 : RegsBut W0 r0 s) (ht : execSurfaceCreate s = .next t0) :
    RegsBut W0 r0 t0 := by
  unfold execSurfaceCreate at ht
  apply whenOn_regs (ht := ht)
  repeat' first
    | with_reducible assumption
    | with_reducible apply onEntry_regs
    | with_reducible apply srfEntry_regs
    | split
    | dsimp only
    | with_reducible intro _

theorem execSurfaceBack_regs {W0 : Nat → Prop} {r0 : State} (s : State) (h_pba : ∀ k, W0 (0x38000 + 4 * (k % 64))) (h_QUE_STAT : ∀ i, W0 (R.QUE_STAT i)) (h_QUE_RET : ∀ i, W0 (R.QUE_RET i)) (h_SOR_TGTSTAT : ∀ i, W0 (R.SOR_TGTSTAT i)) (h_SRF_STAT : W0 R.SRF_STAT) (h_SRF_FREEPG : W0 R.SRF_FREEPG) {t0 : State} (h0 : RegsBut W0 r0 s) (ht : execSurfaceBack s = .next t0) :
    RegsBut W0 r0 t0 := by
  unfold execSurfaceBack at ht
  apply whenOn_regs (ht := ht)
  repeat' first
    | with_reducible assumption
    | with_reducible apply onEntry_regs
    | with_reducible apply srfEntry_regs
    | split
    | dsimp only
    | with_reducible intro _

theorem execSurfaceFree_regs {W0 : Nat → Prop} {r0 : State} (s : State) (h_pba : ∀ k, W0 (0x38000 + 4 * (k % 64))) (h_QUE_STAT : ∀ i, W0 (R.QUE_STAT i)) (h_QUE_RET : ∀ i, W0 (R.QUE_RET i)) (h_SOR_TGTSTAT : ∀ i, W0 (R.SOR_TGTSTAT i)) (h_SRF_STAT : W0 R.SRF_STAT) (h_SRF_FREEPG : W0 R.SRF_FREEPG) {t0 : State} (h0 : RegsBut W0 r0 s) (ht : execSurfaceFree s = .next t0) :
    RegsBut W0 r0 t0 := by
  unfold execSurfaceFree at ht
  apply whenOn_regs (ht := ht)
  repeat' first
    | with_reducible assumption
    | with_reducible apply onEntry_regs
    | with_reducible apply srfEntry_regs
    | split
    | dsimp only
    | with_reducible intro _

theorem execSurfaceInval_regs {W0 : Nat → Prop} {r0 : State} (s : State) (h_pba : ∀ k, W0 (0x38000 + 4 * (k % 64))) (h_QUE_STAT : ∀ i, W0 (R.QUE_STAT i)) (h_QUE_RET : ∀ i, W0 (R.QUE_RET i)) (h_SOR_TGTSTAT : ∀ i, W0 (R.SOR_TGTSTAT i)) (h_SRF_STAT : W0 R.SRF_STAT) (h_SRF_FREEPG : W0 R.SRF_FREEPG) {t0 : State} (h0 : RegsBut W0 r0 s) (ht : execSurfaceInval s = .next t0) :
    RegsBut W0 r0 t0 := by
  unfold execSurfaceInval at ht
  apply whenOn_regs (ht := ht)
  repeat' first
    | with_reducible assumption
    | with_reducible apply onEntry_regs
    | with_reducible apply srfEntry_regs
    | split
    | dsimp only
    | with_reducible intro _

theorem execFrameRetire_regs {W0 : Nat → Prop} {r0 : State} (s : State) (h_pba : ∀ k, W0 (0x38000 + 4 * (k % 64))) (h_QUE_STAT : ∀ i, W0 (R.QUE_STAT i)) (h_QUE_RET : ∀ i, W0 (R.QUE_RET i)) (h_SRF_STAT : W0 R.SRF_STAT) (h_SRF_FREEPG : W0 R.SRF_FREEPG) (h_SRF_RETIRED : W0 R.SRF_RETIRED) {t0 : State} (h0 : RegsBut W0 r0 s) (ht : execFrameRetire s = .next t0) :
    RegsBut W0 r0 t0 := by
  unfold execFrameRetire at ht
  apply whenOn_regs (ht := ht)
  repeat' first
    | with_reducible assumption
    | with_reducible apply retireFrame_regs
    | split
    | dsimp only
    | with_reducible intro _

theorem execPrefetchIssue_regs {W0 : Nat → Prop} {r0 : State} (s : State) (h_pba : ∀ k, W0 (0x38000 + 4 * (k % 64))) (h_GLB_EVTOVF : W0 R.GLB_EVTOVF) (h_SRF_PFSTAT : W0 R.SRF_PFSTAT) (h_SRF_PFLAST : W0 R.SRF_PFLAST) (h_SRF_TCMISS : W0 R.SRF_TCMISS) (h_CHN_PERR : ∀ i, W0 (R.CHN_PERR i)) (h_DRC_ECCSTAT : W0 R.DRC_ECCSTAT) (h_DRC_UEADDR : W0 R.DRC_UEADDR) {t0 : State} (h0 : RegsBut W0 r0 s) (ht : execPrefetchIssue s = .next t0) :
    RegsBut W0 r0 t0 := by
  unfold execPrefetchIssue at ht
  apply whenOn_regs (ht := ht)
  repeat' first
    | with_reducible assumption
    | with_reducible apply prefetchIssue_regs
    | split
    | dsimp only
    | with_reducible intro _

theorem execPrefetchDone_regs {W0 : Nat → Prop} {r0 : State} (vp : Nat) (b : Bytes) (s : State) (h_pba : ∀ k, W0 (0x38000 + 4 * (k % 64))) {t0 : State} (h0 : RegsBut W0 r0 s) (ht : execPrefetchDone vp b s = .next t0) :
    RegsBut W0 r0 t0 := by
  unfold execPrefetchDone at ht
  apply whenOn_regs (ht := ht)
  repeat' first
    | with_reducible assumption
    | with_reducible apply prefetchDone_regs
    | split
    | dsimp only
    | with_reducible intro _

theorem execPrefetchFail_regs {W0 : Nat → Prop} {r0 : State} (vp : Nat) (poisoned : Bool) (s : State) (h_pba : ∀ k, W0 (0x38000 + 4 * (k % 64))) (h_SRF_PFSTAT : W0 R.SRF_PFSTAT) (h_SRF_PFLAST : W0 R.SRF_PFLAST) {t0 : State} (h0 : RegsBut W0 r0 s) (ht : execPrefetchFail vp poisoned s = .next t0) :
    RegsBut W0 r0 t0 := by
  unfold execPrefetchFail at ht
  apply whenOn_regs (ht := ht)
  repeat' first
    | with_reducible assumption
    | with_reducible apply prefetchFail_regs
    | split
    | dsimp only
    | with_reducible intro _

end Sys2Proof.Machine
end

