-- ==== Sys2Proof/Laws/RegsDma.lean ====
section
/-! SUPPORT. Which registers each operation of Machine/Dma.lean may write. -/

namespace Sys2Proof.Machine

theorem setChan_regs {W0 : Nat → Prop} {r0 : State} (s : State) (c : Nat) (x : Chan) (h0 : RegsBut W0 r0 s) :
    RegsBut W0 r0 (setChan s c x) := by
  unfold setChan
  repeat' first
    | with_reducible assumption
    | simp only [RegsBut.dma]

theorem dmaShow_regs {W0 : Nat → Prop} {r0 : State} (s : State) (c : Nat) (h_DMA_CHSTAT : ∀ i, W0 (R.DMA_CHSTAT i)) (h_SOR_TGTSTAT : ∀ i, W0 (R.SOR_TGTSTAT i)) (h0 : RegsBut W0 r0 s) :
    RegsBut W0 r0 (dmaShow s c) := by
  unfold dmaShow
  repeat' first
    | with_reducible assumption
    | with_reducible exact h_DMA_CHSTAT _
    | with_reducible apply setF_regs
    | with_reducible apply showTarget_regs

theorem dmaFinish_regs {W0 : Nat → Prop} {r0 : State} (s : State) (c : Nat) (d : Desc) (code : Status) (fseg : Nat) (finfo : Nat) (h_pba : ∀ k, W0 (0x38000 + 4 * (k % 64))) (h_QUE_STAT : ∀ i, W0 (R.QUE_STAT i)) (h_QUE_RET : ∀ i, W0 (R.QUE_RET i)) (h_DMA_CHCNT : ∀ i, W0 (R.DMA_CHCNT i)) (h_DMA_CHDEAD : ∀ i, W0 (R.DMA_CHDEAD i)) (h0 : RegsBut W0 r0 s) :
    RegsBut W0 r0 (dmaFinish s c d code fseg finfo) := by
  unfold dmaFinish
  repeat' first
    | with_reducible assumption
    | with_reducible exact h_DMA_CHCNT _
    | with_reducible exact h_DMA_CHDEAD _
    | with_reducible apply setF_regs
    | with_reducible apply incSat_regs
    | with_reducible apply incMod_regs
    | with_reducible apply complete40_regs
    | split
    | dsimp only

theorem dmaEnd_regs {W0 : Nat → Prop} {r0 : State} (s : State) (c : Nat) (d : Desc) (h_pba : ∀ k, W0 (0x38000 + 4 * (k % 64))) (h_QUE_STAT : ∀ i, W0 (R.QUE_STAT i)) (h_QUE_RET : ∀ i, W0 (R.QUE_RET i)) (h_DMA_CHCNT : ∀ i, W0 (R.DMA_CHCNT i)) (h_DMA_CHDEAD : ∀ i, W0 (R.DMA_CHDEAD i)) (h0 : RegsBut W0 r0 s) :
    RegsBut W0 r0 (dmaEnd s c d) := by
  unfold dmaEnd
  repeat' first
    | with_reducible assumption
    | with_reducible apply dmaFinish_regs
    | split

theorem putBlock_regs {W0 : Nat → Prop} {r0 : State} (s : State) (c : Nat) (d : Desc) (b : Bytes) (h_pba : ∀ k, W0 (0x38000 + 4 * (k % 64))) (h_GLB_EVTOVF : W0 R.GLB_EVTOVF) (h_SRF_TCMISS : W0 R.SRF_TCMISS) (h_CHN_PERR : ∀ i, W0 (R.CHN_PERR i)) (h_DRC_ECCSTAT : W0 R.DRC_ECCSTAT) (h_DRC_UEADDR : W0 R.DRC_UEADDR) (h0 : RegsBut W0 r0 s) :
    RegsBut W0 r0 (putBlock s c d b).2 := by
  unfold putBlock
  repeat' first
    | with_reducible assumption
    | with_reducible apply dramWr_regs
    | with_reducible apply upstream_regs
    | with_reducible apply srfWalk_regs
    | with_reducible apply setChan_regs
    | split
    | dsimp only

theorem srcBlock_regs {W0 : Nat → Prop} {r0 : State} (s : State) (d : Desc) (a : Nat) (h0 : RegsBut W0 r0 s) :
    RegsBut W0 r0 (srcBlock s d a).2 := by
  unfold srcBlock
  repeat' first
    | with_reducible assumption
    | with_reducible apply drawNat_regs
    | with_reducible refine RegsBut.of_snd (by with_reducible assumption) ?_
    | with_reducible refine RegsBut.of_snd2 (by with_reducible assumption) ?_
    | split

theorem moveBlocks_regs {W0 : Nat → Prop} {r0 : State} (c : Nat) (h_pba : ∀ k, W0 (0x38000 + 4 * (k % 64))) (h_GLB_EVTOVF : W0 R.GLB_EVTOVF) (h_SRF_TCMISS : W0 R.SRF_TCMISS) (h_CHN_PERR : ∀ i, W0 (R.CHN_PERR i)) (h_DRC_ECCSTAT : W0 R.DRC_ECCSTAT) (h_DRC_UEADDR : W0 R.DRC_UEADDR) (y0 : Nat) (y1 : Bytes) (y2 : Desc) (y3 : State)
    (h0 : RegsBut W0 r0 y3) :
    RegsBut W0 r0 (moveBlocks c y0 y1 y2 y3).2 := by
  induction y0 generalizing y1 y2 y3 c with
  | zero =>
    unfold moveBlocks
    repeat' first
      | with_reducible assumption
  | succ y0 ih =>
    unfold moveBlocks
    repeat' first
      | with_reducible assumption
      | with_reducible apply ih
      | with_reducible apply noteBad_regs
      | with_reducible apply srfWalk_regs
      | with_reducible apply putBlock_regs
      | with_reducible apply srcBlock_regs
      | with_reducible refine RegsBut.of_snd (by with_reducible assumption) ?_
      | with_reducible refine RegsBut.of_snd2 (by with_reducible assumption) ?_
      | split
      | dsimp only

theorem fillBlocks_regs {W0 : Nat → Prop} {r0 : State} (c : Nat) (h_pba : ∀ k, W0 (0x38000 + 4 * (k % 64))) (h_GLB_EVTOVF : W0 R.GLB_EVTOVF) (h_SRF_TCMISS : W0 R.SRF_TCMISS) (h_CHN_PERR : ∀ i, W0 (R.CHN_PERR i)) (h_DRC_ECCSTAT : W0 R.DRC_ECCSTAT) (h_DRC_UEADDR : W0 R.DRC_UEADDR) (y0 : Nat) (y1 : Desc) (y2 : State)
    (h0 : RegsBut W0 r0 y2) :
    RegsBut W0 r0 (fillBlocks c y0 y1 y2).2 := by
  induction y0 generalizing y1 y2 c with
  | zero =>
    unfold fillBlocks
    repeat' first
      | with_reducible assumption
  | succ y0 ih =>
    unfold fillBlocks
    repeat' first
      | with_reducible assumption
      | with_reducible apply ih
      | with_reducible apply putBlock_regs
      | with_reducible refine RegsBut.of_snd (by with_reducible assumption) ?_
      | with_reducible refine RegsBut.of_snd2 (by with_reducible assumption) ?_
      | split

theorem payRead_regs {W0 : Nat → Prop} {r0 : State} (s : State) (c : Nat) (n : Nat) (h0 : RegsBut W0 r0 s) :
    RegsBut W0 r0 (payRead s c n) := by
  unfold payRead
  repeat' first
    | with_reducible assumption
    | with_reducible apply setChan_regs
    | split
    | dsimp only

theorem chanConfig_regs {W0 : Nat → Prop} {r0 : State} (s : State) (c : Nat) (h0 : RegsBut W0 r0 s) :
    RegsBut W0 r0 (chanConfig s c) := by
  unfold chanConfig
  repeat' first
    | with_reducible assumption
    | with_reducible apply setChan_regs

theorem waitTurn_regs {W0 : Nat → Prop} {r0 : State} (s : State) (c : Nat) (h0 : RegsBut W0 r0 s) :
    RegsBut W0 r0 (waitTurn s c) := by
  unfold waitTurn
  repeat' first
    | with_reducible assumption
    | simp only [RegsBut.hif]
    | split

theorem askSeg_regs {W0 : Nat → Prop} {r0 : State} (s : State) (c : Nat) (shadow : Bool) (d : Desc) (dst : Bool) (h_pba : ∀ k, W0 (0x38000 + 4 * (k % 64))) (h_GLB_EVTOVF : W0 R.GLB_EVTOVF) (h_SRF_TCMISS : W0 R.SRF_TCMISS) (h_CHN_PERR : ∀ i, W0 (R.CHN_PERR i)) (h_DRC_ECCSTAT : W0 R.DRC_ECCSTAT) (h_DRC_UEADDR : W0 R.DRC_UEADDR) (h0 : RegsBut W0 r0 s) :
    RegsBut W0 r0 (askSeg s c shadow d dst).2 := by
  unfold askSeg
  repeat' first
    | with_reducible assumption
    | with_reducible apply upstream_regs
    | with_reducible apply srfWalk_regs
    | with_reducible apply payRead_regs
    | with_reducible apply waitTurn_regs
    | split
    | dsimp only

theorem askSegs_regs {W0 : Nat → Prop} {r0 : State} (s : State) (c : Nat) (shadow : Bool) (d : Desc) (h_pba : ∀ k, W0 (0x38000 + 4 * (k % 64))) (h_GLB_EVTOVF : W0 R.GLB_EVTOVF) (h_SRF_TCMISS : W0 R.SRF_TCMISS) (h_CHN_PERR : ∀ i, W0 (R.CHN_PERR i)) (h_DRC_ECCSTAT : W0 R.DRC_ECCSTAT) (h_DRC_UEADDR : W0 R.DRC_UEADDR) (h0 : RegsBut W0 r0 s) :
    RegsBut W0 r0 (askSegs s c shadow d).2 := by
  unfold askSegs
  repeat' first
    | with_reducible assumption
    | with_reducible apply askSeg_regs
    | with_reducible refine RegsBut.of_snd (by with_reducible assumption) ?_
    | with_reducible refine RegsBut.of_snd2 (by with_reducible assumption) ?_
    | split

theorem putHeld_regs {W0 : Nat → Prop} {r0 : State} (s : State) (c : Nat) (d : Desc) (h_pba : ∀ k, W0 (0x38000 + 4 * (k % 64))) (h_GLB_EVTOVF : W0 R.GLB_EVTOVF) (h_SRF_TCMISS : W0 R.SRF_TCMISS) (h_CHN_PERR : ∀ i, W0 (R.CHN_PERR i)) (h_DRC_ECCSTAT : W0 R.DRC_ECCSTAT) (h_DRC_UEADDR : W0 R.DRC_UEADDR) (h0 : RegsBut W0 r0 s) :
    RegsBut W0 r0 (putHeld s c d).2 := by
  unfold putHeld
  repeat' first
    | with_reducible assumption
    | with_reducible apply moveBlocks_regs
    | with_reducible apply waitTurn_regs
    | split

theorem askData_regs {W0 : Nat → Prop} {r0 : State} (s : State) (c : Nat) (d : Desc) (h_pba : ∀ k, W0 (0x38000 + 4 * (k % 64))) (h_GLB_EVTOVF : W0 R.GLB_EVTOVF) (h_SRF_TCMISS : W0 R.SRF_TCMISS) (h_CHN_PERR : ∀ i, W0 (R.CHN_PERR i)) (h_DRC_ECCSTAT : W0 R.DRC_ECCSTAT) (h_DRC_UEADDR : W0 R.DRC_UEADDR) (h0 : RegsBut W0 r0 s) :
    RegsBut W0 r0 (askData s c d) := by
  unfold askData
  repeat' first
    | with_reducible assumption
    | with_reducible apply upstream_regs
    | with_reducible apply srfWalk_regs
    | with_reducible apply setChan_regs
    | with_reducible apply payRead_regs
    | with_reducible apply waitTurn_regs
    | split

theorem dmaPump_regs {W0 : Nat → Prop} {r0 : State} (s : State) (c : Nat) (h_pba : ∀ k, W0 (0x38000 + 4 * (k % 64))) (h_GLB_EVTOVF : W0 R.GLB_EVTOVF) (h_SRF_TCMISS : W0 R.SRF_TCMISS) (h_CHN_PERR : ∀ i, W0 (R.CHN_PERR i)) (h_DRC_ECCSTAT : W0 R.DRC_ECCSTAT) (h_DRC_UEADDR : W0 R.DRC_UEADDR) (h0 : RegsBut W0 r0 s) :
    RegsBut W0 r0 (dmaPump s c) := by
  unfold dmaPump
  repeat' first
    | with_reducible assumption
    | with_reducible apply setChan_regs
    | with_reducible apply fillBlocks_regs
    | with_reducible apply waitTurn_regs
    | with_reducible apply askSegs_regs
    | with_reducible apply putHeld_regs
    | with_reducible apply askData_regs
    | with_reducible refine RegsBut.of_snd (by with_reducible assumption) ?_
    | with_reducible refine RegsBut.of_snd2 (by with_reducible assumption) ?_
    | split
    | dsimp only

theorem dropShadow_regs {W0 : Nat → Prop} {r0 : State} (s : State) (c : Nat) (h_pba : ∀ k, W0 (0x38000 + 4 * (k % 64))) (h_QUE_STAT : ∀ i, W0 (R.QUE_STAT i)) (h_QUE_RET : ∀ i, W0 (R.QUE_RET i)) (h_DMA_CHCNT : ∀ i, W0 (R.DMA_CHCNT i)) (h_DMA_CHDEAD : ∀ i, W0 (R.DMA_CHDEAD i)) (h0 : RegsBut W0 r0 s) :
    RegsBut W0 r0 (dropShadow s c) := by
  unfold dropShadow
  repeat' first
    | with_reducible assumption
    | with_reducible apply giveUpRead_regs
    | with_reducible apply setChan_regs
    | with_reducible apply dmaEnd_regs
    | split
    | dsimp only

theorem swapIn_regs {W0 : Nat → Prop} {r0 : State} (s : State) (c : Nat) (h0 : RegsBut W0 r0 s) :
    RegsBut W0 r0 (swapIn s c) := by
  unfold swapIn
  repeat' first
    | with_reducible assumption
    | with_reducible apply setChan_regs
    | split
    | dsimp only

theorem promote_regs {W0 : Nat → Prop} {r0 : State} (s : State) (c : Nat) (h0 : RegsBut W0 r0 s) :
    RegsBut W0 r0 (promote s c) := by
  unfold promote
  repeat' first
    | with_reducible assumption
    | with_reducible apply setChan_regs
    | split
    | dsimp only

theorem endFailed_regs {W0 : Nat → Prop} {r0 : State} (s : State) (c : Nat) (h_pba : ∀ k, W0 (0x38000 + 4 * (k % 64))) (h_QUE_STAT : ∀ i, W0 (R.QUE_STAT i)) (h_QUE_RET : ∀ i, W0 (R.QUE_RET i)) (h_DMA_CHCNT : ∀ i, W0 (R.DMA_CHCNT i)) (h_DMA_CHDEAD : ∀ i, W0 (R.DMA_CHDEAD i)) (h0 : RegsBut W0 r0 s) :
    RegsBut W0 r0 (endFailed s c) := by
  unfold endFailed
  repeat' first
    | with_reducible assumption
    | with_reducible apply setChan_regs
    | with_reducible apply dmaEnd_regs
    | split
    | dsimp only

theorem shadowAsk_regs {W0 : Nat → Prop} {r0 : State} (s : State) (c : Nat) (h_pba : ∀ k, W0 (0x38000 + 4 * (k % 64))) (h_GLB_EVTOVF : W0 R.GLB_EVTOVF) (h_SRF_TCMISS : W0 R.SRF_TCMISS) (h_CHN_PERR : ∀ i, W0 (R.CHN_PERR i)) (h_DRC_ECCSTAT : W0 R.DRC_ECCSTAT) (h_DRC_UEADDR : W0 R.DRC_UEADDR) (h0 : RegsBut W0 r0 s) :
    RegsBut W0 r0 (shadowAsk s c) := by
  unfold shadowAsk
  repeat' first
    | with_reducible assumption
    | with_reducible apply setChan_regs
    | with_reducible apply askSegs_regs
    | with_reducible refine RegsBut.of_snd (by with_reducible assumption) ?_
    | with_reducible refine RegsBut.of_snd2 (by with_reducible assumption) ?_
    | split
    | dsimp only

theorem settleOnce_regs {W0 : Nat → Prop} {r0 : State} (s : State) (c : Nat) (h_pba : ∀ k, W0 (0x38000 + 4 * (k % 64))) (h_GLB_EVTOVF : W0 R.GLB_EVTOVF) (h_QUE_STAT : ∀ i, W0 (R.QUE_STAT i)) (h_QUE_RET : ∀ i, W0 (R.QUE_RET i)) (h_DMA_CHCNT : ∀ i, W0 (R.DMA_CHCNT i)) (h_DMA_CHDEAD : ∀ i, W0 (R.DMA_CHDEAD i)) (h_SRF_TCMISS : W0 R.SRF_TCMISS) (h_CHN_PERR : ∀ i, W0 (R.CHN_PERR i)) (h_DRC_ECCSTAT : W0 R.DRC_ECCSTAT) (h_DRC_UEADDR : W0 R.DRC_UEADDR) (h0 : RegsBut W0 r0 s) :
    RegsBut W0 r0 (settleOnce s c) := by
  unfold settleOnce
  repeat' first
    | with_reducible assumption
    | with_reducible apply dmaPump_regs
    | with_reducible apply dropShadow_regs
    | with_reducible apply swapIn_regs
    | with_reducible apply promote_regs
    | with_reducible apply endFailed_regs
    | with_reducible apply shadowAsk_regs

theorem settle_regs {W0 : Nat → Prop} {r0 : State} (s : State) (c : Nat) (h_pba : ∀ k, W0 (0x38000 + 4 * (k % 64))) (h_GLB_EVTOVF : W0 R.GLB_EVTOVF) (h_QUE_STAT : ∀ i, W0 (R.QUE_STAT i)) (h_QUE_RET : ∀ i, W0 (R.QUE_RET i)) (h_DMA_CHSTAT : ∀ i, W0 (R.DMA_CHSTAT i)) (h_DMA_CHCNT : ∀ i, W0 (R.DMA_CHCNT i)) (h_DMA_CHDEAD : ∀ i, W0 (R.DMA_CHDEAD i)) (h_SOR_TGTSTAT : ∀ i, W0 (R.SOR_TGTSTAT i)) (h_SRF_TCMISS : W0 R.SRF_TCMISS) (h_CHN_PERR : ∀ i, W0 (R.CHN_PERR i)) (h_DRC_ECCSTAT : W0 R.DRC_ECCSTAT) (h_DRC_UEADDR : W0 R.DRC_UEADDR) (h0 : RegsBut W0 r0 s) :
    RegsBut W0 r0 (settle s c) := by
  unfold settle
  repeat' first
    | with_reducible assumption
    | with_reducible apply kickAll_regs
    | with_reducible apply dmaShow_regs
    | with_reducible apply settleOnce_regs
    | split
    | dsimp only

theorem dmaHand_regs {W0 : Nat → Prop} {r0 : State} (s : State) (c : Nat) (it : Item) (h_pba : ∀ k, W0 (0x38000 + 4 * (k % 64))) (h_GLB_EVTOVF : W0 R.GLB_EVTOVF) (h_QUE_STAT : ∀ i, W0 (R.QUE_STAT i)) (h_QUE_RET : ∀ i, W0 (R.QUE_RET i)) (h_DMA_CHSTAT : ∀ i, W0 (R.DMA_CHSTAT i)) (h_DMA_CHCNT : ∀ i, W0 (R.DMA_CHCNT i)) (h_DMA_CHDEAD : ∀ i, W0 (R.DMA_CHDEAD i)) (h_SOR_TGTSTAT : ∀ i, W0 (R.SOR_TGTSTAT i)) (h_SRF_TCMISS : W0 R.SRF_TCMISS) (h_CHN_PERR : ∀ i, W0 (R.CHN_PERR i)) (h_DRC_ECCSTAT : W0 R.DRC_ECCSTAT) (h_DRC_UEADDR : W0 R.DRC_UEADDR) (h0 : RegsBut W0 r0 s) :
    RegsBut W0 r0 (dmaHand s c it) := by
  unfold dmaHand
  repeat' first
    | with_reducible assumption
    | with_reducible apply setChan_regs
    | with_reducible apply shadowAsk_regs
    | with_reducible apply settle_regs

theorem dmaReturn_regs {W0 : Nat → Prop} {r0 : State} (s : State) (c : Nat) (h0 : RegsBut W0 r0 s) :
    RegsBut W0 r0 (dmaReturn s c) := by
  unfold dmaReturn
  repeat' first
    | with_reducible assumption
    | simp only [RegsBut.sor]
    | with_reducible apply giveUpRead_regs
    | with_reducible apply setChan_regs

theorem dmaPreempt_regs {W0 : Nat → Prop} {r0 : State} (s : State) (c : Nat) (it : Item) (h_pba : ∀ k, W0 (0x38000 + 4 * (k % 64))) (h_GLB_EVTOVF : W0 R.GLB_EVTOVF) (h_QUE_STAT : ∀ i, W0 (R.QUE_STAT i)) (h_QUE_RET : ∀ i, W0 (R.QUE_RET i)) (h_DMA_CHSTAT : ∀ i, W0 (R.DMA_CHSTAT i)) (h_DMA_CHCNT : ∀ i, W0 (R.DMA_CHCNT i)) (h_DMA_CHDEAD : ∀ i, W0 (R.DMA_CHDEAD i)) (h_SOR_TGTSTAT : ∀ i, W0 (R.SOR_TGTSTAT i)) (h_SRF_TCMISS : W0 R.SRF_TCMISS) (h_CHN_PERR : ∀ i, W0 (R.CHN_PERR i)) (h_DRC_ECCSTAT : W0 R.DRC_ECCSTAT) (h_DRC_UEADDR : W0 R.DRC_UEADDR) (h0 : RegsBut W0 r0 s) :
    RegsBut W0 r0 (dmaPreempt s c it) := by
  unfold dmaPreempt
  repeat' first
    | with_reducible assumption
    | with_reducible apply setChan_regs
    | with_reducible apply shadowAsk_regs
    | with_reducible apply settle_regs
    | with_reducible apply dmaReturn_regs

theorem segDone_regs {W0 : Nat → Prop} {r0 : State} (s : State) (c : Nat) (shadow : Bool) (dst : Bool) (res : RdRes) (h_pba : ∀ k, W0 (0x38000 + 4 * (k % 64))) (h_GLB_EVTOVF : W0 R.GLB_EVTOVF) (h_QUE_STAT : ∀ i, W0 (R.QUE_STAT i)) (h_QUE_RET : ∀ i, W0 (R.QUE_RET i)) (h_DMA_CHSTAT : ∀ i, W0 (R.DMA_CHSTAT i)) (h_DMA_CHCNT : ∀ i, W0 (R.DMA_CHCNT i)) (h_DMA_CHDEAD : ∀ i, W0 (R.DMA_CHDEAD i)) (h_SOR_TGTSTAT : ∀ i, W0 (R.SOR_TGTSTAT i)) (h_SRF_TCMISS : W0 R.SRF_TCMISS) (h_CHN_PERR : ∀ i, W0 (R.CHN_PERR i)) (h_DRC_ECCSTAT : W0 R.DRC_ECCSTAT) (h_DRC_UEADDR : W0 R.DRC_UEADDR) (h0 : RegsBut W0 r0 s) :
    RegsBut W0 r0 (segDone s c shadow dst res) := by
  unfold segDone
  repeat' first
    | with_reducible assumption
    | with_reducible apply dropRead_regs
    | with_reducible apply noteBad_regs
    | with_reducible apply setChan_regs
    | with_reducible apply settle_regs
    | split
    | dsimp only

theorem segFail_regs {W0 : Nat → Prop} {r0 : State} (s : State) (c : Nat) (shadow : Bool) (dst : Bool) (k : Status) (h_pba : ∀ k, W0 (0x38000 + 4 * (k % 64))) (h_GLB_EVTOVF : W0 R.GLB_EVTOVF) (h_QUE_STAT : ∀ i, W0 (R.QUE_STAT i)) (h_QUE_RET : ∀ i, W0 (R.QUE_RET i)) (h_DMA_CHSTAT : ∀ i, W0 (R.DMA_CHSTAT i)) (h_DMA_CHCNT : ∀ i, W0 (R.DMA_CHCNT i)) (h_DMA_CHDEAD : ∀ i, W0 (R.DMA_CHDEAD i)) (h_SOR_TGTSTAT : ∀ i, W0 (R.SOR_TGTSTAT i)) (h_SRF_TCMISS : W0 R.SRF_TCMISS) (h_CHN_PERR : ∀ i, W0 (R.CHN_PERR i)) (h_DRC_ECCSTAT : W0 R.DRC_ECCSTAT) (h_DRC_UEADDR : W0 R.DRC_UEADDR) (h0 : RegsBut W0 r0 s) :
    RegsBut W0 r0 (segFail s c shadow dst k) := by
  unfold segFail
  repeat' first
    | with_reducible assumption
    | with_reducible apply dropRead_regs
    | with_reducible apply setChan_regs
    | with_reducible apply settle_regs
    | split
    | dsimp only

theorem readDone_regs {W0 : Nat → Prop} {r0 : State} (s : State) (c : Nat) (res : RdRes) (h_pba : ∀ k, W0 (0x38000 + 4 * (k % 64))) (h_GLB_EVTOVF : W0 R.GLB_EVTOVF) (h_QUE_STAT : ∀ i, W0 (R.QUE_STAT i)) (h_QUE_RET : ∀ i, W0 (R.QUE_RET i)) (h_DMA_CHSTAT : ∀ i, W0 (R.DMA_CHSTAT i)) (h_DMA_CHCNT : ∀ i, W0 (R.DMA_CHCNT i)) (h_DMA_CHDEAD : ∀ i, W0 (R.DMA_CHDEAD i)) (h_SOR_TGTSTAT : ∀ i, W0 (R.SOR_TGTSTAT i)) (h_SRF_TCMISS : W0 R.SRF_TCMISS) (h_CHN_PERR : ∀ i, W0 (R.CHN_PERR i)) (h_DRC_ECCSTAT : W0 R.DRC_ECCSTAT) (h_DRC_UEADDR : W0 R.DRC_UEADDR) (h0 : RegsBut W0 r0 s) :
    RegsBut W0 r0 (readDone s c res) := by
  unfold readDone
  repeat' first
    | with_reducible assumption
    | with_reducible apply dropRead_regs
    | with_reducible apply setChan_regs
    | with_reducible apply moveBlocks_regs
    | with_reducible apply settle_regs
    | with_reducible refine RegsBut.of_snd (by with_reducible assumption) ?_
    | with_reducible refine RegsBut.of_snd2 (by with_reducible assumption) ?_
    | split
    | dsimp only

theorem readFail_regs {W0 : Nat → Prop} {r0 : State} (s : State) (c : Nat) (k : Status) (h_pba : ∀ k, W0 (0x38000 + 4 * (k % 64))) (h_GLB_EVTOVF : W0 R.GLB_EVTOVF) (h_QUE_STAT : ∀ i, W0 (R.QUE_STAT i)) (h_QUE_RET : ∀ i, W0 (R.QUE_RET i)) (h_DMA_CHSTAT : ∀ i, W0 (R.DMA_CHSTAT i)) (h_DMA_CHCNT : ∀ i, W0 (R.DMA_CHCNT i)) (h_DMA_CHDEAD : ∀ i, W0 (R.DMA_CHDEAD i)) (h_SOR_TGTSTAT : ∀ i, W0 (R.SOR_TGTSTAT i)) (h_SRF_TCMISS : W0 R.SRF_TCMISS) (h_CHN_PERR : ∀ i, W0 (R.CHN_PERR i)) (h_DRC_ECCSTAT : W0 R.DRC_ECCSTAT) (h_DRC_UEADDR : W0 R.DRC_UEADDR) (h0 : RegsBut W0 r0 s) :
    RegsBut W0 r0 (readFail s c k) := by
  unfold readFail
  repeat' first
    | with_reducible assumption
    | with_reducible apply dropRead_regs
    | with_reducible apply setChan_regs
    | with_reducible apply settle_regs
    | split
    | dsimp only

theorem descComplete_regs {W0 : Nat → Prop} {r0 : State} (s : State) (c : Nat) (h_pba : ∀ k, W0 (0x38000 + 4 * (k % 64))) (h_GLB_EVTOVF : W0 R.GLB_EVTOVF) (h_QUE_STAT : ∀ i, W0 (R.QUE_STAT i)) (h_QUE_RET : ∀ i, W0 (R.QUE_RET i)) (h_DMA_CHSTAT : ∀ i, W0 (R.DMA_CHSTAT i)) (h_DMA_CHCNT : ∀ i, W0 (R.DMA_CHCNT i)) (h_DMA_CHDEAD : ∀ i, W0 (R.DMA_CHDEAD i)) (h_SOR_TGTSTAT : ∀ i, W0 (R.SOR_TGTSTAT i)) (h_SRF_TCMISS : W0 R.SRF_TCMISS) (h_CHN_PERR : ∀ i, W0 (R.CHN_PERR i)) (h_DRC_ECCSTAT : W0 R.DRC_ECCSTAT) (h_DRC_UEADDR : W0 R.DRC_UEADDR) (h0 : RegsBut W0 r0 s) :
    RegsBut W0 r0 (descComplete s c) := by
  unfold descComplete
  repeat' first
    | with_reducible assumption
    | with_reducible apply setChan_regs
    | with_reducible apply dmaEnd_regs
    | with_reducible apply settle_regs
    | split
    | dsimp only

theorem chanLinkLoss_regs {W0 : Nat → Prop} {r0 : State} (s : State) (c : Nat) (h_pba : ∀ k, W0 (0x38000 + 4 * (k % 64))) (h_GLB_EVTOVF : W0 R.GLB_EVTOVF) (h_QUE_STAT : ∀ i, W0 (R.QUE_STAT i)) (h_QUE_RET : ∀ i, W0 (R.QUE_RET i)) (h_DMA_CHSTAT : ∀ i, W0 (R.DMA_CHSTAT i)) (h_DMA_CHCNT : ∀ i, W0 (R.DMA_CHCNT i)) (h_DMA_CHDEAD : ∀ i, W0 (R.DMA_CHDEAD i)) (h_SOR_TGTSTAT : ∀ i, W0 (R.SOR_TGTSTAT i)) (h_SRF_TCMISS : W0 R.SRF_TCMISS) (h_CHN_PERR : ∀ i, W0 (R.CHN_PERR i)) (h_DRC_ECCSTAT : W0 R.DRC_ECCSTAT) (h_DRC_UEADDR : W0 R.DRC_UEADDR) (h0 : RegsBut W0 r0 s) :
    RegsBut W0 r0 (chanLinkLoss s c) := by
  unfold chanLinkLoss
  repeat' first
    | with_reducible assumption
    | with_reducible apply setChan_regs
    | with_reducible apply settle_regs

theorem dmaLinkLoss_regs {W0 : Nat → Prop} {r0 : State} (s : State) (h_pba : ∀ k, W0 (0x38000 + 4 * (k % 64))) (h_GLB_EVTOVF : W0 R.GLB_EVTOVF) (h_QUE_STAT : ∀ i, W0 (R.QUE_STAT i)) (h_QUE_RET : ∀ i, W0 (R.QUE_RET i)) (h_DMA_CHSTAT : ∀ i, W0 (R.DMA_CHSTAT i)) (h_DMA_CHCNT : ∀ i, W0 (R.DMA_CHCNT i)) (h_DMA_CHDEAD : ∀ i, W0 (R.DMA_CHDEAD i)) (h_SOR_TGTSTAT : ∀ i, W0 (R.SOR_TGTSTAT i)) (h_SRF_TCMISS : W0 R.SRF_TCMISS) (h_CHN_PERR : ∀ i, W0 (R.CHN_PERR i)) (h_DRC_ECCSTAT : W0 R.DRC_ECCSTAT) (h_DRC_UEADDR : W0 R.DRC_UEADDR) (h0 : RegsBut W0 r0 s) :
    RegsBut W0 r0 (dmaLinkLoss s) := by
  unfold dmaLinkLoss
  repeat' first
    | with_reducible assumption
    | with_reducible apply chanLinkLoss_regs
    | with_reducible apply RegsBut.foldl
    | split
    | dsimp only
    | with_reducible intro _

theorem dmaPumpAll_regs {W0 : Nat → Prop} {r0 : State} (s : State) (h_pba : ∀ k, W0 (0x38000 + 4 * (k % 64))) (h_GLB_EVTOVF : W0 R.GLB_EVTOVF) (h_QUE_STAT : ∀ i, W0 (R.QUE_STAT i)) (h_QUE_RET : ∀ i, W0 (R.QUE_RET i)) (h_DMA_CHSTAT : ∀ i, W0 (R.DMA_CHSTAT i)) (h_DMA_CHCNT : ∀ i, W0 (R.DMA_CHCNT i)) (h_DMA_CHDEAD : ∀ i, W0 (R.DMA_CHDEAD i)) (h_SOR_TGTSTAT : ∀ i, W0 (R.SOR_TGTSTAT i)) (h_SRF_TCMISS : W0 R.SRF_TCMISS) (h_CHN_PERR : ∀ i, W0 (R.CHN_PERR i)) (h_DRC_ECCSTAT : W0 R.DRC_ECCSTAT) (h_DRC_UEADDR : W0 R.DRC_UEADDR) (h0 : RegsBut W0 r0 s) :
    RegsBut W0 r0 (dmaPumpAll s) := by
  unfold dmaPumpAll
  repeat' first
    | with_reducible assumption
    | with_reducible apply settle_regs
    | with_reducible apply RegsBut.foldl
    | with_reducible refine RegsBut.of_snd (by with_reducible assumption) ?_
    | with_reducible refine RegsBut.of_snd2 (by with_reducible assumption) ?_
    | split
    | dsimp only
    | with_reducible intro _

theorem chanGiveUp_regs {W0 : Nat → Prop} {r0 : State} (s : State) (c : Nat) (h0 : RegsBut W0 r0 s) :
    RegsBut W0 r0 (chanGiveUp s c) := by
  unfold chanGiveUp
  repeat' first
    | with_reducible assumption
    | with_reducible apply giveUpRead_regs
    | with_reducible apply RegsBut.foldl

theorem dmaBlockReset_regs {W0 : Nat → Prop} {r0 : State} (s : State) (h_pba : ∀ k, W0 (0x38000 + 4 * (k % 64))) (h_r0x80000 : ∀ off, 0x80000 ≤ off → off < 0x90000 → W0 off) (h_QUE_STAT : ∀ i, W0 (R.QUE_STAT i)) (h_QUE_RET : ∀ i, W0 (R.QUE_RET i)) (h_DMA_CHCNT : ∀ i, W0 (R.DMA_CHCNT i)) (h_DMA_CHDEAD : ∀ i, W0 (R.DMA_CHDEAD i)) (h_SOR_TGTSTAT : ∀ i, W0 (R.SOR_TGTSTAT i)) (h0 : RegsBut W0 r0 s) :
    RegsBut W0 r0 (dmaBlockReset s) := by
  unfold dmaBlockReset
  repeat' first
    | with_reducible assumption
    | simp only [RegsBut.dma]
    | with_reducible assumption
    | with_reducible apply resetRegs_regs
    | with_reducible apply showTarget_regs
    | with_reducible apply dmaFinish_regs
    | with_reducible apply chanGiveUp_regs
    | with_reducible apply RegsBut.foldl
    | split
    | dsimp only
    | with_reducible intro _

theorem execDmaSegmentReadDone_regs {W0 : Nat → Prop} {r0 : State} (c : Nat) (shadow : Bool) (dst : Bool) (res : RdRes) (s : State) (h_pba : ∀ k, W0 (0x38000 + 4 * (k % 64))) (h_GLB_EVTOVF : W0 R.GLB_EVTOVF) (h_QUE_STAT : ∀ i, W0 (R.QUE_STAT i)) (h_QUE_RET : ∀ i, W0 (R.QUE_RET i)) (h_DMA_CHSTAT : ∀ i, W0 (R.DMA_CHSTAT i)) (h_DMA_CHCNT : ∀ i, W0 (R.DMA_CHCNT i)) (h_DMA_CHDEAD : ∀ i, W0 (R.DMA_CHDEAD i)) (h_SOR_TGTSTAT : ∀ i, W0 (R.SOR_TGTSTAT i)) (h_SRF_TCMISS : W0 R.SRF_TCMISS) (h_CHN_PERR : ∀ i, W0 (R.CHN_PERR i)) (h_DRC_ECCSTAT : W0 R.DRC_ECCSTAT) (h_DRC_UEADDR : W0 R.DRC_UEADDR) {t0 : State} (h0 : RegsBut W0 r0 s) (ht : execDmaSegmentReadDone c shadow dst res s = .next t0) :
    RegsBut W0 r0 t0 := by
  unfold execDmaSegmentReadDone at ht
  apply whenOn_regs (ht := ht)
  repeat' first
    | with_reducible assumption
    | with_reducible apply onRead_regs
    | with_reducible apply segDone_regs
    | split
    | dsimp only
    | with_reducible intro _

theorem execDmaReadDone_regs {W0 : Nat → Prop} {r0 : State} (c : Nat) (res : RdRes) (s : State) (h_pba : ∀ k, W0 (0x38000 + 4 * (k % 64))) (h_GLB_EVTOVF : W0 R.GLB_EVTOVF) (h_QUE_STAT : ∀ i, W0 (R.QUE_STAT i)) (h_QUE_RET : ∀ i, W0 (R.QUE_RET i)) (h_DMA_CHSTAT : ∀ i, W0 (R.DMA_CHSTAT i)) (h_DMA_CHCNT : ∀ i, W0 (R.DMA_CHCNT i)) (h_DMA_CHDEAD : ∀ i, W0 (R.DMA_CHDEAD i)) (h_SOR_TGTSTAT : ∀ i, W0 (R.SOR_TGTSTAT i)) (h_SRF_TCMISS : W0 R.SRF_TCMISS) (h_CHN_PERR : ∀ i, W0 (R.CHN_PERR i)) (h_DRC_ECCSTAT : W0 R.DRC_ECCSTAT) (h_DRC_UEADDR : W0 R.DRC_UEADDR) {t0 : State} (h0 : RegsBut W0 r0 s) (ht : execDmaReadDone c res s = .next t0) :
    RegsBut W0 r0 t0 := by
  unfold execDmaReadDone at ht
  apply whenOn_regs (ht := ht)
  repeat' first
    | with_reducible assumption
    | with_reducible apply onRead_regs
    | with_reducible apply readDone_regs
    | split
    | dsimp only
    | with_reducible intro _

theorem execDmaDescriptorComplete_regs {W0 : Nat → Prop} {r0 : State} (c : Nat) (s : State) (h_pba : ∀ k, W0 (0x38000 + 4 * (k % 64))) (h_GLB_EVTOVF : W0 R.GLB_EVTOVF) (h_QUE_STAT : ∀ i, W0 (R.QUE_STAT i)) (h_QUE_RET : ∀ i, W0 (R.QUE_RET i)) (h_DMA_CHSTAT : ∀ i, W0 (R.DMA_CHSTAT i)) (h_DMA_CHCNT : ∀ i, W0 (R.DMA_CHCNT i)) (h_DMA_CHDEAD : ∀ i, W0 (R.DMA_CHDEAD i)) (h_SOR_TGTSTAT : ∀ i, W0 (R.SOR_TGTSTAT i)) (h_SRF_TCMISS : W0 R.SRF_TCMISS) (h_CHN_PERR : ∀ i, W0 (R.CHN_PERR i)) (h_DRC_ECCSTAT : W0 R.DRC_ECCSTAT) (h_DRC_UEADDR : W0 R.DRC_UEADDR) {t0 : State} (h0 : RegsBut W0 r0 s) (ht : execDmaDescriptorComplete c s = .next t0) :
    RegsBut W0 r0 t0 := by
  unfold execDmaDescriptorComplete at ht
  apply whenOn_regs (ht := ht)
  repeat' first
    | with_reducible assumption
    | with_reducible apply descComplete_regs
    | split
    | dsimp only
    | with_reducible intro _

end Sys2Proof.Machine
end

