-- ==== Sys2Proof/Laws/RegsSor.lean ====
section
/-! SUPPORT. Which registers each operation of Machine/Sor.lean may write. -/

namespace Sys2Proof.Machine

theorem forgetLast_regs {W0 : Nat → Prop} {r0 : State} (s : State) (g : Nat) (h0 : RegsBut W0 r0 s) :
    RegsBut W0 r0 (forgetLast s g) := by
  unfold forgetLast
  repeat' first
    | with_reducible assumption
    | simp only [RegsBut.sor]

theorem takeReady_regs {W0 : Nat → Prop} {r0 : State} (s : State) (i : Item) (h0 : RegsBut W0 r0 s) :
    RegsBut W0 r0 (takeReady s i) := by
  unfold takeReady
  repeat' first
    | with_reducible assumption
    | simp only [RegsBut.sor]

theorem writeSlot_regs {W0 : Nat → Prop} {r0 : State} (s : State) (t : Nat) (urgent : Bool) (i : Item) (h_pba : ∀ k, W0 (0x38000 + 4 * (k % 64))) (h0 : RegsBut W0 r0 s) :
    RegsBut W0 r0 (writeSlot s t urgent i) := by
  unfold writeSlot
  repeat' first
    | with_reducible assumption
    | with_reducible apply sendVec_regs
    | with_reducible apply upstream_regs

theorem refuseOpcode_regs {W0 : Nat → Prop} {r0 : State} (s : State) (i : Item) (h_pba : ∀ k, W0 (0x38000 + 4 * (k % 64))) (h_QUE_STAT : ∀ i, W0 (R.QUE_STAT i)) (h_QUE_RET : ∀ i, W0 (R.QUE_RET i)) (h0 : RegsBut W0 r0 s) :
    RegsBut W0 r0 (refuseOpcode s i) := by
  unfold refuseOpcode
  repeat' first
    | with_reducible assumption
    | with_reducible apply complete40_regs

theorem slotNext_regs {W0 : Nat → Prop} {r0 : State} (s : State) (t : Nat) (h_pba : ∀ k, W0 (0x38000 + 4 * (k % 64))) (h_SOR_TGTSTAT : ∀ i, W0 (R.SOR_TGTSTAT i)) (h0 : RegsBut W0 r0 s) :
    RegsBut W0 r0 (slotNext s t) := by
  unfold slotNext
  repeat' first
    | with_reducible assumption
    | with_reducible apply setTrec_regs
    | with_reducible apply showCore_regs
    | with_reducible apply writeSlot_regs
    | split
    | dsimp only

theorem refuseTrailer_regs {W0 : Nat → Prop} {r0 : State} (s : State) (i : Item) (h_pba : ∀ k, W0 (0x38000 + 4 * (k % 64))) (h_QUE_STAT : ∀ i, W0 (R.QUE_STAT i)) (h_QUE_RET : ∀ i, W0 (R.QUE_RET i)) (h0 : RegsBut W0 r0 s) :
    RegsBut W0 r0 (refuseTrailer s i) := by
  unfold refuseTrailer
  repeat' first
    | with_reducible assumption
    | with_reducible apply complete_regs

theorem handTo_regs {W0 : Nat → Prop} {r0 : State} (s : State) (t : Nat) (i : Item) (h_pba : ∀ k, W0 (0x38000 + 4 * (k % 64))) (h_GLB_EVTOVF : W0 R.GLB_EVTOVF) (h_QUE_STAT : ∀ i, W0 (R.QUE_STAT i)) (h_QUE_RET : ∀ i, W0 (R.QUE_RET i)) (h_DMA_CHSTAT : ∀ i, W0 (R.DMA_CHSTAT i)) (h_DMA_CHCNT : ∀ i, W0 (R.DMA_CHCNT i)) (h_DMA_CHDEAD : ∀ i, W0 (R.DMA_CHDEAD i)) (h_SOR_TGTSTAT : ∀ i, W0 (R.SOR_TGTSTAT i)) (h_SRF_TCMISS : W0 R.SRF_TCMISS) (h_CHN_PERR : ∀ i, W0 (R.CHN_PERR i)) (h_DRC_ECCSTAT : W0 R.DRC_ECCSTAT) (h_DRC_UEADDR : W0 R.DRC_UEADDR) (h0 : RegsBut W0 r0 s) :
    RegsBut W0 r0 (handTo s t i) := by
  unfold handTo
  repeat' first
    | with_reducible assumption
    | with_reducible apply setTrec_regs
    | with_reducible apply showCore_regs
    | with_reducible apply dmaHand_regs
    | with_reducible apply dmaReturn_regs
    | with_reducible apply refuseOpcode_regs
    | with_reducible apply slotNext_regs
    | with_reducible apply refuseTrailer_regs
    | split
    | dsimp only

theorem dispatch_regs {W0 : Nat → Prop} {r0 : State} (s : State) (h_pba : ∀ k, W0 (0x38000 + 4 * (k % 64))) (h_GLB_EVTOVF : W0 R.GLB_EVTOVF) (h_QUE_STAT : ∀ i, W0 (R.QUE_STAT i)) (h_QUE_RET : ∀ i, W0 (R.QUE_RET i)) (h_DMA_CHSTAT : ∀ i, W0 (R.DMA_CHSTAT i)) (h_DMA_CHCNT : ∀ i, W0 (R.DMA_CHCNT i)) (h_DMA_CHDEAD : ∀ i, W0 (R.DMA_CHDEAD i)) (h_SOR_TGTSTAT : ∀ i, W0 (R.SOR_TGTSTAT i)) (h_SRF_TCMISS : W0 R.SRF_TCMISS) (h_CHN_PERR : ∀ i, W0 (R.CHN_PERR i)) (h_DRC_ECCSTAT : W0 R.DRC_ECCSTAT) (h_DRC_UEADDR : W0 R.DRC_UEADDR) (h0 : RegsBut W0 r0 s) :
    RegsBut W0 r0 (dispatch s) := by
  unfold dispatch
  repeat' first
    | with_reducible assumption
    | simp only [RegsBut.sor]
    | with_reducible apply kickAll_regs
    | with_reducible apply forgetLast_regs
    | with_reducible apply takeReady_regs
    | with_reducible apply handTo_regs
    | split

theorem preemptTarget_regs {W0 : Nat → Prop} {r0 : State} (s : State) (t : Nat) (i : Item) (h_pba : ∀ k, W0 (0x38000 + 4 * (k % 64))) (h_GLB_EVTOVF : W0 R.GLB_EVTOVF) (h_QUE_STAT : ∀ i, W0 (R.QUE_STAT i)) (h_QUE_RET : ∀ i, W0 (R.QUE_RET i)) (h_DMA_CHSTAT : ∀ i, W0 (R.DMA_CHSTAT i)) (h_DMA_CHCNT : ∀ i, W0 (R.DMA_CHCNT i)) (h_DMA_CHDEAD : ∀ i, W0 (R.DMA_CHDEAD i)) (h_SOR_GSTAT : W0 R.SOR_GSTAT) (h_SOR_TGTSTAT : ∀ i, W0 (R.SOR_TGTSTAT i)) (h_SRF_TCMISS : W0 R.SRF_TCMISS) (h_CHN_PERR : ∀ i, W0 (R.CHN_PERR i)) (h_DRC_ECCSTAT : W0 R.DRC_ECCSTAT) (h_DRC_UEADDR : W0 R.DRC_UEADDR) (h0 : RegsBut W0 r0 s) :
    RegsBut W0 r0 (preemptTarget s t i) := by
  unfold preemptTarget
  repeat' first
    | with_reducible assumption
    | with_reducible exact h_SOR_GSTAT
    | with_reducible apply incMod_regs
    | with_reducible apply setTrec_regs
    | with_reducible apply showCore_regs
    | with_reducible apply dmaPreempt_regs
    | with_reducible apply writeSlot_regs
    | with_reducible apply refuseOpcode_regs
    | with_reducible apply refuseTrailer_regs
    | split

theorem arrive_regs {W0 : Nat → Prop} {r0 : State} (s : State) (h_pba : ∀ k, W0 (0x38000 + 4 * (k % 64))) (h_GLB_EVTOVF : W0 R.GLB_EVTOVF) (h_QUE_STAT : ∀ i, W0 (R.QUE_STAT i)) (h_QUE_RET : ∀ i, W0 (R.QUE_RET i)) (h_DMA_CHSTAT : ∀ i, W0 (R.DMA_CHSTAT i)) (h_DMA_CHCNT : ∀ i, W0 (R.DMA_CHCNT i)) (h_DMA_CHDEAD : ∀ i, W0 (R.DMA_CHDEAD i)) (h_SOR_GSTAT : W0 R.SOR_GSTAT) (h_SOR_TGTSTAT : ∀ i, W0 (R.SOR_TGTSTAT i)) (h_SRF_TCMISS : W0 R.SRF_TCMISS) (h_CHN_PERR : ∀ i, W0 (R.CHN_PERR i)) (h_DRC_ECCSTAT : W0 R.DRC_ECCSTAT) (h_DRC_UEADDR : W0 R.DRC_UEADDR) (h0 : RegsBut W0 r0 s) :
    RegsBut W0 r0 (arrive s) := by
  unfold arrive
  repeat' first
    | with_reducible assumption
    | simp only [RegsBut.sor]
    | with_reducible apply kickAll_regs
    | with_reducible apply handTo_regs
    | with_reducible apply preemptTarget_regs
    | split

theorem pickVictim_regs {W0 : Nat → Prop} {r0 : State} (s : State) (h0 : RegsBut W0 r0 s) :
    RegsBut W0 r0 (pickVictim s) := by
  unfold pickVictim
  repeat' first
    | with_reducible assumption
    | simp only [RegsBut.sor]
    | with_reducible apply takeReady_regs
    | split

theorem sorPreempt_regs {W0 : Nat → Prop} {r0 : State} (s : State) (later : Bool) (h_pba : ∀ k, W0 (0x38000 + 4 * (k % 64))) (h_GLB_EVTOVF : W0 R.GLB_EVTOVF) (h_QUE_STAT : ∀ i, W0 (R.QUE_STAT i)) (h_QUE_RET : ∀ i, W0 (R.QUE_RET i)) (h_DMA_CHSTAT : ∀ i, W0 (R.DMA_CHSTAT i)) (h_DMA_CHCNT : ∀ i, W0 (R.DMA_CHCNT i)) (h_DMA_CHDEAD : ∀ i, W0 (R.DMA_CHDEAD i)) (h_SOR_GSTAT : W0 R.SOR_GSTAT) (h_SOR_TGTSTAT : ∀ i, W0 (R.SOR_TGTSTAT i)) (h_SRF_TCMISS : W0 R.SRF_TCMISS) (h_CHN_PERR : ∀ i, W0 (R.CHN_PERR i)) (h_DRC_ECCSTAT : W0 R.DRC_ECCSTAT) (h_DRC_UEADDR : W0 R.DRC_UEADDR) (h0 : RegsBut W0 r0 s) :
    RegsBut W0 r0 (sorPreempt s later) := by
  unfold sorPreempt
  repeat' first
    | with_reducible assumption
    | with_reducible apply arrive_regs
    | with_reducible apply pickVictim_regs
    | split

theorem pollSlots_regs {W0 : Nat → Prop} {r0 : State} (s : State) (h_pba : ∀ k, W0 (0x38000 + 4 * (k % 64))) (h0 : RegsBut W0 r0 s) :
    RegsBut W0 r0 (pollSlots s) := by
  unfold pollSlots
  repeat' first
    | with_reducible assumption
    | with_reducible apply upstream_regs
    | with_reducible apply RegsBut.foldl
    | split
    | dsimp only
    | with_reducible intro _

theorem slotRelease_regs {W0 : Nat → Prop} {r0 : State} (s : State) (t : Nat) (urgent : Bool) (h_pba : ∀ k, W0 (0x38000 + 4 * (k % 64))) (h_SOR_TGTSTAT : ∀ i, W0 (R.SOR_TGTSTAT i)) (h0 : RegsBut W0 r0 s) :
    RegsBut W0 r0 (slotRelease s t urgent) := by
  unfold slotRelease
  repeat' first
    | with_reducible assumption
    | with_reducible apply setTrec_regs
    | with_reducible apply showCore_regs
    | with_reducible apply slotNext_regs

theorem slotDone_regs {W0 : Nat → Prop} {r0 : State} (s : State) (t : Nat) (urgent : Bool) (b : Bytes) (h_pba : ∀ k, W0 (0x38000 + 4 * (k % 64))) (h_QUE_STAT : ∀ i, W0 (R.QUE_STAT i)) (h_QUE_RET : ∀ i, W0 (R.QUE_RET i)) (h_SOR_TGTSTAT : ∀ i, W0 (R.SOR_TGTSTAT i)) (h0 : RegsBut W0 r0 s) :
    RegsBut W0 r0 (slotDone s t urgent b) := by
  unfold slotDone
  repeat' first
    | with_reducible assumption
    | with_reducible apply dropRead_regs
    | with_reducible apply completeItem_regs
    | with_reducible apply slotRelease_regs
    | split
    | dsimp only

theorem faultTarget_regs {W0 : Nat → Prop} {r0 : State} (s : State) (t : Nat) (c : Status) (h_SOR_TGTSTAT : ∀ i, W0 (R.SOR_TGTSTAT i)) (h0 : RegsBut W0 r0 s) :
    RegsBut W0 r0 (faultTarget s t c) := by
  unfold faultTarget
  repeat' first
    | with_reducible assumption
    | with_reducible exact h_SOR_TGTSTAT _
    | with_reducible apply setF_regs

theorem slotFail_regs {W0 : Nat → Prop} {r0 : State} (s : State) (t : Nat) (urgent : Bool) (c : Status) (h_pba : ∀ k, W0 (0x38000 + 4 * (k % 64))) (h_QUE_STAT : ∀ i, W0 (R.QUE_STAT i)) (h_QUE_RET : ∀ i, W0 (R.QUE_RET i)) (h_SOR_TGTSTAT : ∀ i, W0 (R.SOR_TGTSTAT i)) (h0 : RegsBut W0 r0 s) :
    RegsBut W0 r0 (slotFail s t urgent c) := by
  unfold slotFail
  repeat' first
    | with_reducible assumption
    | with_reducible apply dropRead_regs
    | with_reducible apply complete_regs
    | with_reducible apply setTrec_regs
    | with_reducible apply showCore_regs
    | with_reducible apply faultTarget_regs
    | split
    | dsimp only

theorem sorLinkLoss_regs {W0 : Nat → Prop} {r0 : State} (s : State) (h_pba : ∀ k, W0 (0x38000 + 4 * (k % 64))) (h_QUE_STAT : ∀ i, W0 (R.QUE_STAT i)) (h_QUE_RET : ∀ i, W0 (R.QUE_RET i)) (h_SOR_TGTSTAT : ∀ i, W0 (R.SOR_TGTSTAT i)) (h0 : RegsBut W0 r0 s) :
    RegsBut W0 r0 (sorLinkLoss s) := by
  unfold sorLinkLoss
  repeat' first
    | with_reducible assumption
    | with_reducible apply dropRead_regs
    | with_reducible apply complete_regs
    | with_reducible apply setTrec_regs
    | with_reducible apply showCore_regs
    | with_reducible apply faultTarget_regs
    | with_reducible apply RegsBut.foldl
    | split
    | dsimp only
    | with_reducible intro _

theorem windowCut_regs {W0 : Nat → Prop} {r0 : State} (s : State) (e : Nat) (h0 : RegsBut W0 r0 s) :
    RegsBut W0 r0 (windowCut s e) := by
  unfold windowCut
  repeat' first
    | with_reducible assumption
    | simp only [RegsBut.sor]
    | with_reducible apply setTrec_regs
    | with_reducible apply RegsBut.foldl
    | split
    | dsimp only
    | with_reducible intro _

theorem sorPulse_regs {W0 : Nat → Prop} {r0 : State} (s : State) (g : Nat) (at0 : Nat) (h0 : RegsBut W0 r0 s) :
    RegsBut W0 r0 (sorPulse s g at0) := by
  unfold sorPulse
  repeat' first
    | with_reducible assumption
    | simp only [RegsBut.sor]
    | with_reducible apply windowCut_regs
    | split

theorem slotPoll_regs {W0 : Nat → Prop} {r0 : State} (s : State) (win : Bool) (h_pba : ∀ k, W0 (0x38000 + 4 * (k % 64))) (h0 : RegsBut W0 r0 s) :
    RegsBut W0 r0 (slotPoll s win) := by
  unfold slotPoll
  repeat' first
    | with_reducible assumption
    | simp only [RegsBut.sor]
    | with_reducible apply pollSlots_regs
    | split

theorem windowEnd_regs {W0 : Nat → Prop} {r0 : State} (s : State) (h_SOR_WINNS : W0 R.SOR_WINNS) (h_SOR_TGTLOAD : ∀ i, W0 (R.SOR_TGTLOAD i)) (h0 : RegsBut W0 r0 s) :
    RegsBut W0 r0 (windowEnd s) := by
  unfold windowEnd
  repeat' first
    | with_reducible assumption
    | simp only [RegsBut.sor]
    | with_reducible exact h_SOR_WINNS
    | with_reducible exact h_SOR_TGTLOAD _
    | with_reducible apply setWord_regs
    | with_reducible apply setF_regs
    | with_reducible apply RegsBut.foldl
    | with_reducible refine RegsBut.of_snd (by with_reducible assumption) ?_
    | with_reducible refine RegsBut.of_snd2 (by with_reducible assumption) ?_
    | split
    | dsimp only
    | with_reducible intro _

theorem sorBlockReset_regs {W0 : Nat → Prop} {r0 : State} (s : State) (h_pba : ∀ k, W0 (0x38000 + 4 * (k % 64))) (h_r0x90000 : ∀ off, 0x90000 ≤ off → off < 0xA0000 → W0 off) (h_QUE_STAT : ∀ i, W0 (R.QUE_STAT i)) (h_QUE_RET : ∀ i, W0 (R.QUE_RET i)) (h_DMA_CHSTAT : ∀ i, W0 (R.DMA_CHSTAT i)) (h_SOR_TGTSTAT : ∀ i, W0 (R.SOR_TGTSTAT i)) (h0 : RegsBut W0 r0 s) :
    RegsBut W0 r0 (sorBlockReset s) := by
  unfold sorBlockReset
  repeat' first
    | with_reducible assumption
    | simp only [RegsBut.sor]
    | with_reducible assumption
    | with_reducible apply resetRegs_regs
    | with_reducible apply giveUpRead_regs
    | with_reducible apply queueError_regs
    | with_reducible apply complete_regs
    | with_reducible apply showCore_regs
    | with_reducible apply dmaShow_regs
    | with_reducible apply RegsBut.foldl
    | split
    | dsimp only
    | with_reducible intro _

theorem execSorDispatch_regs {W0 : Nat → Prop} {r0 : State} (s : State) (h_pba : ∀ k, W0 (0x38000 + 4 * (k % 64))) (h_GLB_EVTOVF : W0 R.GLB_EVTOVF) (h_QUE_STAT : ∀ i, W0 (R.QUE_STAT i)) (h_QUE_RET : ∀ i, W0 (R.QUE_RET i)) (h_DMA_CHSTAT : ∀ i, W0 (R.DMA_CHSTAT i)) (h_DMA_CHCNT : ∀ i, W0 (R.DMA_CHCNT i)) (h_DMA_CHDEAD : ∀ i, W0 (R.DMA_CHDEAD i)) (h_SOR_TGTSTAT : ∀ i, W0 (R.SOR_TGTSTAT i)) (h_SRF_TCMISS : W0 R.SRF_TCMISS) (h_CHN_PERR : ∀ i, W0 (R.CHN_PERR i)) (h_DRC_ECCSTAT : W0 R.DRC_ECCSTAT) (h_DRC_UEADDR : W0 R.DRC_UEADDR) {t0 : State} (h0 : RegsBut W0 r0 s) (ht : execSorDispatch s = .next t0) :
    RegsBut W0 r0 t0 := by
  unfold execSorDispatch at ht
  apply whenOn_regs (ht := ht)
  repeat' first
    | with_reducible assumption
    | with_reducible apply dispatch_regs
    | split
    | dsimp only
    | with_reducible intro _

theorem execSorPreempt_regs {W0 : Nat → Prop} {r0 : State} (later : Bool) (s : State) (h_pba : ∀ k, W0 (0x38000 + 4 * (k % 64))) (h_GLB_EVTOVF : W0 R.GLB_EVTOVF) (h_QUE_STAT : ∀ i, W0 (R.QUE_STAT i)) (h_QUE_RET : ∀ i, W0 (R.QUE_RET i)) (h_DMA_CHSTAT : ∀ i, W0 (R.DMA_CHSTAT i)) (h_DMA_CHCNT : ∀ i, W0 (R.DMA_CHCNT i)) (h_DMA_CHDEAD : ∀ i, W0 (R.DMA_CHDEAD i)) (h_SOR_GSTAT : W0 R.SOR_GSTAT) (h_SOR_TGTSTAT : ∀ i, W0 (R.SOR_TGTSTAT i)) (h_SRF_TCMISS : W0 R.SRF_TCMISS) (h_CHN_PERR : ∀ i, W0 (R.CHN_PERR i)) (h_DRC_ECCSTAT : W0 R.DRC_ECCSTAT) (h_DRC_UEADDR : W0 R.DRC_UEADDR) {t0 : State} (h0 : RegsBut W0 r0 s) (ht : execSorPreempt later s = .next t0) :
    RegsBut W0 r0 t0 := by
  unfold execSorPreempt at ht
  apply whenOn_regs (ht := ht)
  repeat' first
    | with_reducible assumption
    | with_reducible apply sorPreempt_regs
    | split
    | dsimp only
    | with_reducible intro _

theorem execSlotPoll_regs {W0 : Nat → Prop} {r0 : State} (dt : Nat) (win : Bool) (s : State) (h_pba : ∀ k, W0 (0x38000 + 4 * (k % 64))) (h_GLB_EVTOVF : W0 R.GLB_EVTOVF) (h_SOR_GSTAT : W0 R.SOR_GSTAT) (h_CHN_PERR : ∀ i, W0 (R.CHN_PERR i)) {t0 : State} (h0 : RegsBut W0 r0 s) (ht : execSlotPoll dt win s = .next t0) :
    RegsBut W0 r0 t0 := by
  unfold execSlotPoll at ht
  apply whenOn_regs (ht := ht)
  repeat' first
    | with_reducible assumption
    | with_reducible apply advance_regs
    | with_reducible apply slotPoll_regs
    | split
    | dsimp only
    | with_reducible intro _

theorem execSlotReadDone_regs {W0 : Nat → Prop} {r0 : State} (t : Nat) (urgent : Bool) (b : Bytes) (s : State) (h_pba : ∀ k, W0 (0x38000 + 4 * (k % 64))) (h_QUE_STAT : ∀ i, W0 (R.QUE_STAT i)) (h_QUE_RET : ∀ i, W0 (R.QUE_RET i)) (h_SOR_TGTSTAT : ∀ i, W0 (R.SOR_TGTSTAT i)) {t0 : State} (h0 : RegsBut W0 r0 s) (ht : execSlotReadDone t urgent b s = .next t0) :
    RegsBut W0 r0 t0 := by
  unfold execSlotReadDone at ht
  apply whenOn_regs (ht := ht)
  repeat' first
    | with_reducible assumption
    | with_reducible apply onRead_regs
    | with_reducible apply slotDone_regs
    | split
    | dsimp only
    | with_reducible intro _

theorem execSlotReadFail_regs {W0 : Nat → Prop} {r0 : State} (t : Nat) (urgent : Bool) (s : State) (h_pba : ∀ k, W0 (0x38000 + 4 * (k % 64))) (h_QUE_STAT : ∀ i, W0 (R.QUE_STAT i)) (h_QUE_RET : ∀ i, W0 (R.QUE_RET i)) (h_SOR_TGTSTAT : ∀ i, W0 (R.SOR_TGTSTAT i)) {t0 : State} (h0 : RegsBut W0 r0 s) (ht : execSlotReadFail t urgent s = .next t0) :
    RegsBut W0 r0 t0 := by
  unfold execSlotReadFail at ht
  apply whenOn_regs (ht := ht)
  repeat' first
    | with_reducible assumption
    | with_reducible apply onRead_regs
    | with_reducible apply slotFail_regs
    | split
    | dsimp only
    | with_reducible intro _

theorem execLoadWindowEnd_regs {W0 : Nat → Prop} {r0 : State} (dt : Nat) (s : State) (h_pba : ∀ k, W0 (0x38000 + 4 * (k % 64))) (h_GLB_EVTOVF : W0 R.GLB_EVTOVF) (h_SOR_GSTAT : W0 R.SOR_GSTAT) (h_SOR_WINNS : W0 R.SOR_WINNS) (h_SOR_TGTLOAD : ∀ i, W0 (R.SOR_TGTLOAD i)) (h_CHN_PERR : ∀ i, W0 (R.CHN_PERR i)) {t0 : State} (h0 : RegsBut W0 r0 s) (ht : execLoadWindowEnd dt s = .next t0) :
    RegsBut W0 r0 t0 := by
  unfold execLoadWindowEnd at ht
  apply whenOn_regs (ht := ht)
  repeat' first
    | with_reducible assumption
    | with_reducible apply advance_regs
    | with_reducible apply windowEnd_regs
    | split
    | dsimp only
    | with_reducible intro _

end Sys2Proof.Machine
end

