-- ==== Sys2Proof/Laws/RegsDrc.lean ====
section
/-! SUPPORT. Which registers each operation of Machine/Drc.lean may write. -/

namespace Sys2Proof.Machine

theorem enqueue_regs {W0 : Nat → Prop} {r0 : State} (s : State) (r : DReq) (h_DRC_HAZSTAT : W0 R.DRC_HAZSTAT) (h0 : RegsBut W0 r0 s) :
    RegsBut W0 r0 (enqueue s r) := by
  unfold enqueue
  repeat' first
    | with_reducible assumption
    | simp only [RegsBut.drc]
    | with_reducible exact h_DRC_HAZSTAT
    | with_reducible apply incSat_regs
    | split

theorem drcRequest_regs {W0 : Nat → Prop} {r0 : State} (s : State) (port : Nat) (cls : Nat) (wr : Bool) (block : Nat) (data : Bytes) (part : Option (Nat × List (Nat × Nat))) (h_DRC_HAZSTAT : W0 R.DRC_HAZSTAT) (h0 : RegsBut W0 r0 s) :
    RegsBut W0 r0 (drcRequest s port cls wr block data part) := by
  unfold drcRequest
  repeat' first
    | with_reducible assumption
    | simp only [RegsBut.drc]
    | with_reducible apply emit_regs
    | with_reducible apply enqueue_regs
    | split

theorem setOwed_regs {W0 : Nat → Prop} {r0 : State} (s : State) (c : Nat) (rank : Nat) (v : Int) (h_DRC_CHSTAT : ∀ i, W0 (R.DRC_CHSTAT i)) (h0 : RegsBut W0 r0 s) :
    RegsBut W0 r0 (setOwed s c rank v) := by
  unfold setOwed
  repeat' first
    | with_reducible assumption
    | simp only [RegsBut.drc]
    | with_reducible exact h_DRC_CHSTAT _
    | with_reducible apply setF_regs
    | split

theorem catchUp_regs {W0 : Nat → Prop} {r0 : State} (s : State) (c : Nat) (h_DRC_CHSTAT : ∀ i, W0 (R.DRC_CHSTAT i)) (h0 : RegsBut W0 r0 s) :
    RegsBut W0 r0 (catchUp s c) := by
  unfold catchUp
  repeat' first
    | with_reducible assumption
    | with_reducible apply setOwed_regs
    | split
    | dsimp only

theorem drcComplete_regs {W0 : Nat → Prop} {r0 : State} (s : State) (r : DReq) (h_pba : ∀ k, W0 (0x38000 + 4 * (k % 64))) (h_GLB_YIELDCNT : W0 R.GLB_YIELDCNT) (h_GLB_YIELDLAST : W0 R.GLB_YIELDLAST) (h_GLB_YIELDFRM : W0 R.GLB_YIELDFRM) (h_GLB_EVTOVF : W0 R.GLB_EVTOVF) (h_CHN_PERR : ∀ i, W0 (R.CHN_PERR i)) (h_DRC_QMISS : W0 R.DRC_QMISS) (h_DRC_CHSTAT : ∀ i, W0 (R.DRC_CHSTAT i)) (h0 : RegsBut W0 r0 s) :
    RegsBut W0 r0 (drcComplete s r) := by
  unfold drcComplete
  repeat' first
    | with_reducible assumption
    | simp only [RegsBut.drc]
    | with_reducible exact h_DRC_QMISS
    | with_reducible apply incSat_regs
    | with_reducible apply yield_regs
    | with_reducible apply catchUp_regs
    | with_reducible (unfold missCounter; split_ifs <;> assumption)
    | split

theorem deviceWrite_regs {W0 : Nat → Prop} {r0 : State} (s : State) (b : Nat) (d : Bytes) (h0 : RegsBut W0 r0 s) :
    RegsBut W0 r0 (deviceWrite s b d) := by
  unfold deviceWrite
  repeat' first
    | with_reducible assumption
    | with_reducible apply dramWr_regs
    | with_reducible apply emitAll_regs

theorem eccRead_regs {W0 : Nat → Prop} {r0 : State} (s : State) (b : Nat) (err : List (Nat × Nat)) (h_pba : ∀ k, W0 (0x38000 + 4 * (k % 64))) (h_GLB_EVTOVF : W0 R.GLB_EVTOVF) (h_CHN_PERR : ∀ i, W0 (R.CHN_PERR i)) (h_DRC_ECCSTAT : W0 R.DRC_ECCSTAT) (h_DRC_UEADDR : W0 R.DRC_UEADDR) (h0 : RegsBut W0 r0 s) :
    RegsBut W0 r0 (eccRead s b err).2 := by
  unfold eccRead
  repeat' first
    | with_reducible assumption
    | with_reducible exact h_DRC_ECCSTAT
    | with_reducible apply incSat_regs
    | with_reducible apply uncorrectable_regs
    | with_reducible apply deviceWrite_regs
    | split
    | dsimp only

theorem mergeWrite_regs {W0 : Nat → Prop} {r0 : State} (s : State) (r : DReq) (off : Nat) (err : List (Nat × Nat)) (h_pba : ∀ k, W0 (0x38000 + 4 * (k % 64))) (h_GLB_EVTOVF : W0 R.GLB_EVTOVF) (h_CHN_PERR : ∀ i, W0 (R.CHN_PERR i)) (h_DRC_ECCSTAT : W0 R.DRC_ECCSTAT) (h_DRC_UEADDR : W0 R.DRC_UEADDR) (h_DRC_HAZSTAT : W0 R.DRC_HAZSTAT) (h0 : RegsBut W0 r0 s) :
    RegsBut W0 r0 (mergeWrite s r off err) := by
  unfold mergeWrite
  repeat' first
    | with_reducible assumption
    | with_reducible exact h_DRC_HAZSTAT
    | with_reducible apply incSat_regs
    | with_reducible apply emit_regs
    | with_reducible apply deviceWrite_regs
    | with_reducible apply eccRead_regs
    | with_reducible refine RegsBut.of_snd (by with_reducible assumption) ?_
    | with_reducible refine RegsBut.of_snd2 (by with_reducible assumption) ?_
    | split
    | dsimp only

theorem issueWrite_regs {W0 : Nat → Prop} {r0 : State} (s : State) (r : DReq) (h_pba : ∀ k, W0 (0x38000 + 4 * (k % 64))) (h_GLB_YIELDCNT : W0 R.GLB_YIELDCNT) (h_GLB_YIELDLAST : W0 R.GLB_YIELDLAST) (h_GLB_YIELDFRM : W0 R.GLB_YIELDFRM) (h_GLB_EVTOVF : W0 R.GLB_EVTOVF) (h_CHN_PERR : ∀ i, W0 (R.CHN_PERR i)) (h_DRC_QMISS : W0 R.DRC_QMISS) (h_DRC_ECCSTAT : W0 R.DRC_ECCSTAT) (h_DRC_UEADDR : W0 R.DRC_UEADDR) (h_DRC_HAZSTAT : W0 R.DRC_HAZSTAT) (h_DRC_CHSTAT : ∀ i, W0 (R.DRC_CHSTAT i)) (h0 : RegsBut W0 r0 s) :
    RegsBut W0 r0 (issueWrite s r) := by
  unfold issueWrite
  repeat' first
    | with_reducible assumption
    | with_reducible apply drcComplete_regs
    | with_reducible apply deviceWrite_regs
    | with_reducible apply mergeWrite_regs
    | split

theorem issueWrites_regs {W0 : Nat → Prop} {r0 : State} (s : State) (b : Nat) (h_pba : ∀ k, W0 (0x38000 + 4 * (k % 64))) (h_GLB_YIELDCNT : W0 R.GLB_YIELDCNT) (h_GLB_YIELDLAST : W0 R.GLB_YIELDLAST) (h_GLB_YIELDFRM : W0 R.GLB_YIELDFRM) (h_GLB_EVTOVF : W0 R.GLB_EVTOVF) (h_CHN_PERR : ∀ i, W0 (R.CHN_PERR i)) (h_DRC_QMISS : W0 R.DRC_QMISS) (h_DRC_ECCSTAT : W0 R.DRC_ECCSTAT) (h_DRC_UEADDR : W0 R.DRC_UEADDR) (h_DRC_HAZSTAT : W0 R.DRC_HAZSTAT) (h_DRC_CHSTAT : ∀ i, W0 (R.DRC_CHSTAT i)) (h0 : RegsBut W0 r0 s) :
    RegsBut W0 r0 (issueWrites s b) := by
  unfold issueWrites
  repeat' first
    | with_reducible assumption
    | with_reducible apply issueWrite_regs
    | with_reducible apply RegsBut.foldl
    | split
    | dsimp only
    | with_reducible intro _

theorem issueAllWrites_regs {W0 : Nat → Prop} {r0 : State} (s : State) (h_pba : ∀ k, W0 (0x38000 + 4 * (k % 64))) (h_GLB_YIELDCNT : W0 R.GLB_YIELDCNT) (h_GLB_YIELDLAST : W0 R.GLB_YIELDLAST) (h_GLB_YIELDFRM : W0 R.GLB_YIELDFRM) (h_GLB_EVTOVF : W0 R.GLB_EVTOVF) (h_CHN_PERR : ∀ i, W0 (R.CHN_PERR i)) (h_DRC_QMISS : W0 R.DRC_QMISS) (h_DRC_ECCSTAT : W0 R.DRC_ECCSTAT) (h_DRC_UEADDR : W0 R.DRC_UEADDR) (h_DRC_HAZSTAT : W0 R.DRC_HAZSTAT) (h_DRC_CHSTAT : ∀ i, W0 (R.DRC_CHSTAT i)) (h0 : RegsBut W0 r0 s) :
    RegsBut W0 r0 (issueAllWrites s) := by
  unfold issueAllWrites
  repeat' first
    | with_reducible assumption
    | with_reducible apply issueWrite_regs
    | with_reducible apply RegsBut.foldl
    | split
    | dsimp only
    | with_reducible intro _

theorem issueFreeWrites_regs {W0 : Nat → Prop} {r0 : State} (s : State) (h_pba : ∀ k, W0 (0x38000 + 4 * (k % 64))) (h_GLB_YIELDCNT : W0 R.GLB_YIELDCNT) (h_GLB_YIELDLAST : W0 R.GLB_YIELDLAST) (h_GLB_YIELDFRM : W0 R.GLB_YIELDFRM) (h_GLB_EVTOVF : W0 R.GLB_EVTOVF) (h_CHN_PERR : ∀ i, W0 (R.CHN_PERR i)) (h_DRC_QMISS : W0 R.DRC_QMISS) (h_DRC_ECCSTAT : W0 R.DRC_ECCSTAT) (h_DRC_UEADDR : W0 R.DRC_UEADDR) (h_DRC_HAZSTAT : W0 R.DRC_HAZSTAT) (h_DRC_CHSTAT : ∀ i, W0 (R.DRC_CHSTAT i)) (h0 : RegsBut W0 r0 s) :
    RegsBut W0 r0 (issueFreeWrites s) := by
  unfold issueFreeWrites
  repeat' first
    | with_reducible assumption
    | with_reducible apply issueWrite_regs
    | with_reducible apply RegsBut.foldl
    | split
    | dsimp only
    | with_reducible intro _

theorem readReturn_regs {W0 : Nat → Prop} {r0 : State} (s : State) (port : Nat) (block : Nat) (err : List (Nat × Nat)) (h_pba : ∀ k, W0 (0x38000 + 4 * (k % 64))) (h_GLB_YIELDCNT : W0 R.GLB_YIELDCNT) (h_GLB_YIELDLAST : W0 R.GLB_YIELDLAST) (h_GLB_YIELDFRM : W0 R.GLB_YIELDFRM) (h_GLB_EVTOVF : W0 R.GLB_EVTOVF) (h_CHN_PERR : ∀ i, W0 (R.CHN_PERR i)) (h_DRC_QMISS : W0 R.DRC_QMISS) (h_DRC_ECCSTAT : W0 R.DRC_ECCSTAT) (h_DRC_UEADDR : W0 R.DRC_UEADDR) (h_DRC_HAZSTAT : W0 R.DRC_HAZSTAT) (h_DRC_CHSTAT : ∀ i, W0 (R.DRC_CHSTAT i)) (h0 : RegsBut W0 r0 s) :
    RegsBut W0 r0 (readReturn s port block err) := by
  unfold readReturn
  repeat' first
    | with_reducible assumption
    | with_reducible apply emit_regs
    | with_reducible apply drcComplete_regs
    | with_reducible apply eccRead_regs
    | with_reducible apply issueWrites_regs
    | with_reducible refine RegsBut.of_snd (by with_reducible assumption) ?_
    | with_reducible refine RegsBut.of_snd2 (by with_reducible assumption) ?_
    | split

theorem partialWrite_regs {W0 : Nat → Prop} {r0 : State} (s : State) (port : Nat) (block : Nat) (off : Nat) (b : Bytes) (err : List (Nat × Nat)) (h_pba : ∀ k, W0 (0x38000 + 4 * (k % 64))) (h_GLB_YIELDCNT : W0 R.GLB_YIELDCNT) (h_GLB_YIELDLAST : W0 R.GLB_YIELDLAST) (h_GLB_YIELDFRM : W0 R.GLB_YIELDFRM) (h_GLB_EVTOVF : W0 R.GLB_EVTOVF) (h_CHN_PERR : ∀ i, W0 (R.CHN_PERR i)) (h_DRC_QMISS : W0 R.DRC_QMISS) (h_DRC_ECCSTAT : W0 R.DRC_ECCSTAT) (h_DRC_UEADDR : W0 R.DRC_UEADDR) (h_DRC_HAZSTAT : W0 R.DRC_HAZSTAT) (h_DRC_CHSTAT : ∀ i, W0 (R.DRC_CHSTAT i)) (h0 : RegsBut W0 r0 s) :
    RegsBut W0 r0 (partialWrite s port block off b err) := by
  unfold partialWrite
  repeat' first
    | with_reducible assumption
    | with_reducible apply drcRequest_regs
    | with_reducible apply issueWrites_regs
    | split
    | dsimp only

theorem patrolRead_regs {W0 : Nat → Prop} {r0 : State} (s : State) (b : Nat) (due : Nat) (err : List (Nat × Nat)) (h_pba : ∀ k, W0 (0x38000 + 4 * (k % 64))) (h_GLB_EVTOVF : W0 R.GLB_EVTOVF) (h_CHN_PERR : ∀ i, W0 (R.CHN_PERR i)) (h_DRC_QMISS : W0 R.DRC_QMISS) (h_DRC_ECCSTAT : W0 R.DRC_ECCSTAT) (h_DRC_UEADDR : W0 R.DRC_UEADDR) (h0 : RegsBut W0 r0 s) :
    RegsBut W0 r0 (patrolRead s b due err) := by
  unfold patrolRead
  repeat' first
    | with_reducible assumption
    | with_reducible exact h_DRC_QMISS
    | with_reducible apply incSat_regs
    | with_reducible apply eccRead_regs
    | split
    | dsimp only

theorem patrolStep_regs {W0 : Nat → Prop} {r0 : State} (s : State) (err : List (Nat × Nat)) (h_pba : ∀ k, W0 (0x38000 + 4 * (k % 64))) (h_GLB_EVTOVF : W0 R.GLB_EVTOVF) (h_CHN_PERR : ∀ i, W0 (R.CHN_PERR i)) (h_DRC_QMISS : W0 R.DRC_QMISS) (h_DRC_ECCSTAT : W0 R.DRC_ECCSTAT) (h_DRC_UEADDR : W0 R.DRC_UEADDR) (h0 : RegsBut W0 r0 s) :
    RegsBut W0 r0 (patrolStep s err) := by
  unfold patrolStep
  repeat' first
    | with_reducible assumption
    | simp only [RegsBut.drc]
    | with_reducible apply patrolRead_regs
    | split

theorem drcBand_regs {W0 : Nat → Prop} {r0 : State} (s : State) (band : Nat) (h_DRC_CFG : W0 R.DRC_CFG) (h0 : RegsBut W0 r0 s) :
    RegsBut W0 r0 (drcBand s band) := by
  unfold drcBand
  repeat' first
    | with_reducible assumption
    | with_reducible exact h_DRC_CFG
    | with_reducible apply setF_regs

theorem setRefAt_regs {W0 : Nat → Prop} {r0 : State} (s : State) (c : Nat) (rank : Nat) (t : Nat) (h0 : RegsBut W0 r0 s) :
    RegsBut W0 r0 (setRefAt s c rank t) := by
  unfold setRefAt
  repeat' first
    | with_reducible assumption
    | simp only [RegsBut.drc]

theorem refreshOwed_regs {W0 : Nat → Prop} {r0 : State} (s : State) (c : Nat) (rank : Nat) (h_DRC_REFSTAT : W0 R.DRC_REFSTAT) (h_DRC_CHSTAT : ∀ i, W0 (R.DRC_CHSTAT i)) (h0 : RegsBut W0 r0 s) :
    RegsBut W0 r0 (refreshOwed s c rank) := by
  unfold refreshOwed
  repeat' first
    | with_reducible assumption
    | simp only [RegsBut.drc]
    | with_reducible exact h_DRC_REFSTAT
    | with_reducible apply incSat_regs
    | with_reducible apply setOwed_regs
    | with_reducible apply catchUp_regs
    | split

theorem refreshDue_regs {W0 : Nat → Prop} {r0 : State} (s : State) (c : Nat) (rank : Nat) (h_DRC_REFSTAT : W0 R.DRC_REFSTAT) (h_DRC_CHSTAT : ∀ i, W0 (R.DRC_CHSTAT i)) (h0 : RegsBut W0 r0 s) :
    RegsBut W0 r0 (refreshDue s c rank) := by
  unfold refreshDue
  repeat' first
    | with_reducible assumption
    | with_reducible apply setRefAt_regs
    | with_reducible apply refreshOwed_regs
    | split

theorem pullIn_regs {W0 : Nat → Prop} {r0 : State} (s : State) (c : Nat) (rank : Nat) (h_DRC_REFSTAT : W0 R.DRC_REFSTAT) (h_DRC_CHSTAT : ∀ i, W0 (R.DRC_CHSTAT i)) (h0 : RegsBut W0 r0 s) :
    RegsBut W0 r0 (pullIn s c rank) := by
  unfold pullIn
  repeat' first
    | with_reducible assumption
    | with_reducible exact h_DRC_REFSTAT
    | with_reducible apply incSat_regs
    | with_reducible apply setOwed_regs
    | split
    | dsimp only

theorem releasePorts_regs {W0 : Nat → Prop} {r0 : State} (s : State) (c : Nat) (h_DRC_HAZSTAT : W0 R.DRC_HAZSTAT) (h0 : RegsBut W0 r0 s) :
    RegsBut W0 r0 (releasePorts s c) := by
  unfold releasePorts
  repeat' first
    | with_reducible assumption
    | simp only [RegsBut.drc]
    | with_reducible apply enqueue_regs
    | with_reducible apply RegsBut.foldl
    | split
    | dsimp only
    | with_reducible intro _

theorem chanStart_regs {W0 : Nat → Prop} {r0 : State} (s : State) (c : Nat) (h0 : RegsBut W0 r0 s) :
    RegsBut W0 r0 (chanStart s c) := by
  unfold chanStart
  repeat' first
    | with_reducible assumption
    | simp only [RegsBut.drc]
    | with_reducible apply setRefAt_regs

theorem leaveSelfRef_regs {W0 : Nat → Prop} {r0 : State} (s : State) (c : Nat) (h_DRC_HAZSTAT : W0 R.DRC_HAZSTAT) (h_DRC_CHSTAT : ∀ i, W0 (R.DRC_CHSTAT i)) (h0 : RegsBut W0 r0 s) :
    RegsBut W0 r0 (leaveSelfRef s c) := by
  unfold leaveSelfRef
  repeat' first
    | with_reducible assumption
    | with_reducible exact h_DRC_CHSTAT _
    | with_reducible apply setF_regs
    | with_reducible apply setOwed_regs
    | with_reducible apply releasePorts_regs
    | with_reducible apply chanStart_regs
    | split

theorem selfRefEntry_regs {W0 : Nat → Prop} {r0 : State} (s : State) (c : Nat) (h_DRC_CHSTAT : ∀ i, W0 (R.DRC_CHSTAT i)) (h0 : RegsBut W0 r0 s) :
    RegsBut W0 r0 (selfRefEntry s c) := by
  unfold selfRefEntry
  repeat' first
    | with_reducible assumption
    | simp only [RegsBut.drc]
    | with_reducible exact h_DRC_CHSTAT _
    | with_reducible apply setF_regs
    | with_reducible apply setOwed_regs
    | split

theorem freqEnd_regs {W0 : Nat → Prop} {r0 : State} (s : State) (at0 : Nat) (c : Status) (h_DRC_FREQ : W0 R.DRC_FREQ) (h_DRC_HAZSTAT : W0 R.DRC_HAZSTAT) (h_DRC_CHSTAT : ∀ i, W0 (R.DRC_CHSTAT i)) (h0 : RegsBut W0 r0 s) :
    RegsBut W0 r0 (freqEnd s at0 c) := by
  unfold freqEnd
  repeat' first
    | with_reducible assumption
    | simp only [RegsBut.drc]
    | with_reducible exact h_DRC_FREQ
    | with_reducible apply setF_regs
    | with_reducible apply leaveSelfRef_regs
    | with_reducible apply RegsBut.foldl
    | split
    | dsimp only
    | with_reducible intro _

theorem selfRefExit_regs {W0 : Nat → Prop} {r0 : State} (s : State) (c : Nat) (h_DRC_CFG : W0 R.DRC_CFG) (h_DRC_FREQ : W0 R.DRC_FREQ) (h_DRC_HAZSTAT : W0 R.DRC_HAZSTAT) (h_DRC_CHSTAT : ∀ i, W0 (R.DRC_CHSTAT i)) (h_DRC_LANE : ∀ i j, W0 (R.DRC_LANE i j)) (h_CAL_DCNT : ∀ i, W0 (R.CAL_DCNT i)) (h0 : RegsBut W0 r0 s) :
    RegsBut W0 r0 (selfRefExit s c) := by
  unfold selfRefExit
  repeat' first
    | with_reducible assumption
    | with_reducible exact h_DRC_CFG
    | with_reducible exact h_CAL_DCNT _
    | with_reducible apply setF_regs
    | with_reducible apply incMod_regs
    | with_reducible apply retrackChan_regs
    | with_reducible apply leaveSelfRef_regs
    | with_reducible apply freqEnd_regs
    | with_reducible apply RegsBut.foldl
    | split
    | dsimp only
    | with_reducible intro _

theorem freqGo_regs {W0 : Nat → Prop} {r0 : State} (s : State) (fsp : Nat) (force : Bool) (h_DRC_CFG : W0 R.DRC_CFG) (h_DRC_FREQ : W0 R.DRC_FREQ) (h0 : RegsBut W0 r0 s) :
    RegsBut W0 r0 (freqGo s fsp force) := by
  unfold freqGo
  repeat' first
    | with_reducible assumption
    | simp only [RegsBut.drc]
    | with_reducible exact h_DRC_CFG
    | with_reducible exact h_DRC_FREQ
    | with_reducible apply setF_regs
    | split

theorem freqTimeout_regs {W0 : Nat → Prop} {r0 : State} (s : State) (h_DRC_FREQ : W0 R.DRC_FREQ) (h_DRC_HAZSTAT : W0 R.DRC_HAZSTAT) (h_DRC_CHSTAT : ∀ i, W0 (R.DRC_CHSTAT i)) (h0 : RegsBut W0 r0 s) :
    RegsBut W0 r0 (freqTimeout s) := by
  unfold freqTimeout
  repeat' first
    | with_reducible assumption
    | with_reducible apply freqEnd_regs
    | split

theorem showChan_regs {W0 : Nat → Prop} {r0 : State} (s : State) (c : Nat) (d : DramCh) (r : Status) (warm : Bool) (h_DRC_CHSTAT : ∀ i, W0 (R.DRC_CHSTAT i)) (h0 : RegsBut W0 r0 s) :
    RegsBut W0 r0 (showChan s c d r warm) := by
  unfold showChan
  repeat' first
    | with_reducible assumption
    | with_reducible exact h_DRC_CHSTAT _
    | with_reducible apply setF_regs
    | with_reducible apply chanStart_regs
    | split

theorem hideChan_regs {W0 : Nat → Prop} {r0 : State} (s : State) (c : Nat) (h_DRC_CHSTAT : ∀ i, W0 (R.DRC_CHSTAT i)) (h_DRC_LANE : ∀ i j, W0 (R.DRC_LANE i j)) (h0 : RegsBut W0 r0 s) :
    RegsBut W0 r0 (hideChan s c) := by
  unfold hideChan
  repeat' first
    | with_reducible assumption
    | with_reducible exact h_DRC_CHSTAT _
    | with_reducible exact h_DRC_LANE _ _
    | with_reducible apply setWord_regs
    | with_reducible apply RegsBut.foldl
    | split
    | dsimp only
    | with_reducible intro _

theorem loseDram_regs {W0 : Nat → Prop} {r0 : State} (s : State) (h0 : RegsBut W0 r0 s) :
    RegsBut W0 r0 (loseDram s) := by
  unfold loseDram
  repeat' first
    | with_reducible assumption
    | simp only [RegsBut.drc_dram]

theorem dramStage_regs {W0 : Nat → Prop} {r0 : State} (s : State) (l : List DramCh) (rates : Nat × Nat × Nat) (warm : Bool) (h_DRC_CFG : W0 R.DRC_CFG) (h_DRC_FSPRATE : W0 R.DRC_FSPRATE) (h_DRC_CAP : W0 R.DRC_CAP) (h_DRC_CHSTAT : ∀ i, W0 (R.DRC_CHSTAT i)) (h_DRC_LANE : ∀ i j, W0 (R.DRC_LANE i j)) (h0 : RegsBut W0 r0 s) :
    RegsBut W0 r0 (dramStage s l rates warm).2 := by
  unfold dramStage
  repeat' first
    | with_reducible assumption
    | simp only [RegsBut.boot]
    | with_reducible exact h_DRC_CFG
    | with_reducible exact h_DRC_FSPRATE
    | with_reducible exact h_DRC_CAP
    | with_reducible apply setF_regs
    | with_reducible apply showChan_regs
    | with_reducible apply hideChan_regs
    | with_reducible apply loseDram_regs
    | with_reducible apply RegsBut.foldl
    | split
    | dsimp only
    | with_reducible intro _

theorem whenDram_regs {W0 : Nat → Prop} {r0 : State} (s : State) (f : State → State) (h_f : ∀ (x0 : State), RegsBut W0 r0 x0 → RegsBut W0 r0 (f x0)) {t0 : State} (h0 : RegsBut W0 r0 s) (ht : whenDram s f = .next t0) :
    RegsBut W0 r0 t0 := by
  unfold whenDram at ht
  apply whenOn_regs (ht := ht)
  repeat' first
    | with_reducible assumption
    | with_reducible apply h_f
    | split
    | dsimp only
    | with_reducible intro _

theorem execDramReadRequest_regs {W0 : Nat → Prop} {r0 : State} (dt : Nat) (port : Nat) (cls : Nat) (block : Nat) (s : State) (h_pba : ∀ k, W0 (0x38000 + 4 * (k % 64))) (h_GLB_EVTOVF : W0 R.GLB_EVTOVF) (h_SOR_GSTAT : W0 R.SOR_GSTAT) (h_CHN_PERR : ∀ i, W0 (R.CHN_PERR i)) (h_DRC_HAZSTAT : W0 R.DRC_HAZSTAT) {t0 : State} (h0 : RegsBut W0 r0 s) (ht : execDramReadRequest dt port cls block s = .next t0) :
    RegsBut W0 r0 t0 := by
  unfold execDramReadRequest at ht
  apply whenDram_regs (ht := ht)
  repeat' first
    | with_reducible assumption
    | with_reducible apply advance_regs
    | with_reducible apply drcRequest_regs
    | split
    | dsimp only
    | with_reducible intro _

theorem execDramReadReturn_regs {W0 : Nat → Prop} {r0 : State} (dt : Nat) (port : Nat) (block : Nat) (err : List (Nat × Nat)) (s : State) (h_pba : ∀ k, W0 (0x38000 + 4 * (k % 64))) (h_GLB_YIELDCNT : W0 R.GLB_YIELDCNT) (h_GLB_YIELDLAST : W0 R.GLB_YIELDLAST) (h_GLB_YIELDFRM : W0 R.GLB_YIELDFRM) (h_GLB_EVTOVF : W0 R.GLB_EVTOVF) (h_SOR_GSTAT : W0 R.SOR_GSTAT) (h_CHN_PERR : ∀ i, W0 (R.CHN_PERR i)) (h_DRC_QMISS : W0 R.DRC_QMISS) (h_DRC_ECCSTAT : W0 R.DRC_ECCSTAT) (h_DRC_UEADDR : W0 R.DRC_UEADDR) (h_DRC_HAZSTAT : W0 R.DRC_HAZSTAT) (h_DRC_CHSTAT : ∀ i, W0 (R.DRC_CHSTAT i)) {t0 : State} (h0 : RegsBut W0 r0 s) (ht : execDramReadReturn dt port block err s = .next t0) :
    RegsBut W0 r0 t0 := by
  unfold execDramReadReturn at ht
  apply whenDram_regs (ht := ht)
  repeat' first
    | with_reducible assumption
    | with_reducible apply advance_regs
    | with_reducible apply readReturn_regs
    | split
    | dsimp only
    | with_reducible intro _

theorem execDramWriteRequest_regs {W0 : Nat → Prop} {r0 : State} (dt : Nat) (port : Nat) (cls : Nat) (block : Nat) (data : Bytes) (issue : Bool) (s : State) (h_pba : ∀ k, W0 (0x38000 + 4 * (k % 64))) (h_GLB_YIELDCNT : W0 R.GLB_YIELDCNT) (h_GLB_YIELDLAST : W0 R.GLB_YIELDLAST) (h_GLB_YIELDFRM : W0 R.GLB_YIELDFRM) (h_GLB_EVTOVF : W0 R.GLB_EVTOVF) (h_SOR_GSTAT : W0 R.SOR_GSTAT) (h_CHN_PERR : ∀ i, W0 (R.CHN_PERR i)) (h_DRC_QMISS : W0 R.DRC_QMISS) (h_DRC_ECCSTAT : W0 R.DRC_ECCSTAT) (h_DRC_UEADDR : W0 R.DRC_UEADDR) (h_DRC_HAZSTAT : W0 R.DRC_HAZSTAT) (h_DRC_CHSTAT : ∀ i, W0 (R.DRC_CHSTAT i)) {t0 : State} (h0 : RegsBut W0 r0 s) (ht : execDramWriteRequest dt port cls block data issue s = .next t0) :
    RegsBut W0 r0 t0 := by
  unfold execDramWriteRequest at ht
  apply whenDram_regs (ht := ht)
  repeat' first
    | with_reducible assumption
    | with_reducible apply advance_regs
    | with_reducible apply drcRequest_regs
    | with_reducible apply issueFreeWrites_regs
    | split
    | dsimp only
    | with_reducible intro _

theorem execDramPartialWrite_regs {W0 : Nat → Prop} {r0 : State} (dt : Nat) (x : PartAt) (off : Nat) (data : Bytes) (err : List (Nat × Nat)) (s : State) (h_pba : ∀ k, W0 (0x38000 + 4 * (k % 64))) (h_GLB_YIELDCNT : W0 R.GLB_YIELDCNT) (h_GLB_YIELDLAST : W0 R.GLB_YIELDLAST) (h_GLB_YIELDFRM : W0 R.GLB_YIELDFRM) (h_GLB_EVTOVF : W0 R.GLB_EVTOVF) (h_SOR_GSTAT : W0 R.SOR_GSTAT) (h_CHN_PERR : ∀ i, W0 (R.CHN_PERR i)) (h_DRC_QMISS : W0 R.DRC_QMISS) (h_DRC_ECCSTAT : W0 R.DRC_ECCSTAT) (h_DRC_UEADDR : W0 R.DRC_UEADDR) (h_DRC_HAZSTAT : W0 R.DRC_HAZSTAT) (h_DRC_CHSTAT : ∀ i, W0 (R.DRC_CHSTAT i)) {t0 : State} (h0 : RegsBut W0 r0 s) (ht : execDramPartialWrite dt x off data err s = .next t0) :
    RegsBut W0 r0 t0 := by
  unfold execDramPartialWrite at ht
  apply whenDram_regs (ht := ht)
  repeat' first
    | with_reducible assumption
    | with_reducible apply advance_regs
    | with_reducible apply partialWrite_regs
    | split
    | dsimp only
    | with_reducible intro _

theorem execRefreshDue_regs {W0 : Nat → Prop} {r0 : State} (dt : Nat) (c : Nat) (rank : Nat) (s : State) (h_pba : ∀ k, W0 (0x38000 + 4 * (k % 64))) (h_GLB_EVTOVF : W0 R.GLB_EVTOVF) (h_SOR_GSTAT : W0 R.SOR_GSTAT) (h_CHN_PERR : ∀ i, W0 (R.CHN_PERR i)) (h_DRC_REFSTAT : W0 R.DRC_REFSTAT) (h_DRC_CHSTAT : ∀ i, W0 (R.DRC_CHSTAT i)) {t0 : State} (h0 : RegsBut W0 r0 s) (ht : execRefreshDue dt c rank s = .next t0) :
    RegsBut W0 r0 t0 := by
  unfold execRefreshDue at ht
  apply whenDram_regs (ht := ht)
  repeat' first
    | with_reducible assumption
    | with_reducible apply advance_regs
    | with_reducible apply refreshDue_regs
    | split
    | dsimp only
    | with_reducible intro _

theorem execRefreshPullin_regs {W0 : Nat → Prop} {r0 : State} (dt : Nat) (c : Nat) (rank : Nat) (s : State) (h_pba : ∀ k, W0 (0x38000 + 4 * (k % 64))) (h_GLB_EVTOVF : W0 R.GLB_EVTOVF) (h_SOR_GSTAT : W0 R.SOR_GSTAT) (h_CHN_PERR : ∀ i, W0 (R.CHN_PERR i)) (h_DRC_REFSTAT : W0 R.DRC_REFSTAT) (h_DRC_CHSTAT : ∀ i, W0 (R.DRC_CHSTAT i)) {t0 : State} (h0 : RegsBut W0 r0 s) (ht : execRefreshPullin dt c rank s = .next t0) :
    RegsBut W0 r0 t0 := by
  unfold execRefreshPullin at ht
  apply whenDram_regs (ht := ht)
  repeat' first
    | with_reducible assumption
    | with_reducible apply advance_regs
    | with_reducible apply pullIn_regs
    | split
    | dsimp only
    | with_reducible intro _

theorem execPatrolScrub_regs {W0 : Nat → Prop} {r0 : State} (dt : Nat) (err : List (Nat × Nat)) (s : State) (h_pba : ∀ k, W0 (0x38000 + 4 * (k % 64))) (h_GLB_EVTOVF : W0 R.GLB_EVTOVF) (h_SOR_GSTAT : W0 R.SOR_GSTAT) (h_CHN_PERR : ∀ i, W0 (R.CHN_PERR i)) (h_DRC_QMISS : W0 R.DRC_QMISS) (h_DRC_ECCSTAT : W0 R.DRC_ECCSTAT) (h_DRC_UEADDR : W0 R.DRC_UEADDR) {t0 : State} (h0 : RegsBut W0 r0 s) (ht : execPatrolScrub dt err s = .next t0) :
    RegsBut W0 r0 t0 := by
  unfold execPatrolScrub at ht
  apply whenDram_regs (ht := ht)
  repeat' first
    | with_reducible assumption
    | with_reducible apply advance_regs
    | with_reducible apply patrolStep_regs
    | split
    | dsimp only
    | with_reducible intro _

theorem mr4Poll_regs {W0 : Nat → Prop} {r0 : State} (s : State) (quarters : Nat) (h0 : RegsBut W0 r0 s) :
    RegsBut W0 r0 (mr4Poll s quarters) := by
  unfold mr4Poll
  repeat' first
    | with_reducible assumption
    | simp only [RegsBut.drc]
    | split

theorem execMr4Poll_regs {W0 : Nat → Prop} {r0 : State} (quarters : Nat) (s : State) {t0 : State} (h0 : RegsBut W0 r0 s) (ht : execMr4Poll quarters s = .next t0) :
    RegsBut W0 r0 t0 := by
  unfold execMr4Poll at ht
  apply whenDram_regs (ht := ht)
  repeat' first
    | with_reducible assumption
    | with_reducible apply mr4Poll_regs
    | split
    | dsimp only
    | with_reducible intro _

theorem execSelfRefreshEntry_regs {W0 : Nat → Prop} {r0 : State} (dt : Nat) (c : Nat) (s : State) (h_pba : ∀ k, W0 (0x38000 + 4 * (k % 64))) (h_GLB_EVTOVF : W0 R.GLB_EVTOVF) (h_SOR_GSTAT : W0 R.SOR_GSTAT) (h_CHN_PERR : ∀ i, W0 (R.CHN_PERR i)) (h_DRC_CHSTAT : ∀ i, W0 (R.DRC_CHSTAT i)) {t0 : State} (h0 : RegsBut W0 r0 s) (ht : execSelfRefreshEntry dt c s = .next t0) :
    RegsBut W0 r0 t0 := by
  unfold execSelfRefreshEntry at ht
  apply whenDram_regs (ht := ht)
  repeat' first
    | with_reducible assumption
    | with_reducible apply advance_regs
    | with_reducible apply selfRefEntry_regs
    | split
    | dsimp only
    | with_reducible intro _

theorem execSelfRefreshExit_regs {W0 : Nat → Prop} {r0 : State} (dt : Nat) (c : Nat) (s : State) (h_pba : ∀ k, W0 (0x38000 + 4 * (k % 64))) (h_GLB_EVTOVF : W0 R.GLB_EVTOVF) (h_SOR_GSTAT : W0 R.SOR_GSTAT) (h_CHN_PERR : ∀ i, W0 (R.CHN_PERR i)) (h_DRC_CFG : W0 R.DRC_CFG) (h_DRC_FREQ : W0 R.DRC_FREQ) (h_DRC_HAZSTAT : W0 R.DRC_HAZSTAT) (h_DRC_CHSTAT : ∀ i, W0 (R.DRC_CHSTAT i)) (h_DRC_LANE : ∀ i j, W0 (R.DRC_LANE i j)) (h_CAL_DCNT : ∀ i, W0 (R.CAL_DCNT i)) {t0 : State} (h0 : RegsBut W0 r0 s) (ht : execSelfRefreshExit dt c s = .next t0) :
    RegsBut W0 r0 t0 := by
  unfold execSelfRefreshExit at ht
  apply whenDram_regs (ht := ht)
  repeat' first
    | with_reducible assumption
    | with_reducible apply advance_regs
    | with_reducible apply selfRefExit_regs
    | split
    | dsimp only
    | with_reducible intro _

theorem execFreqChangeTimeout_regs {W0 : Nat → Prop} {r0 : State} (dt : Nat) (s : State) (h_pba : ∀ k, W0 (0x38000 + 4 * (k % 64))) (h_GLB_EVTOVF : W0 R.GLB_EVTOVF) (h_SOR_GSTAT : W0 R.SOR_GSTAT) (h_CHN_PERR : ∀ i, W0 (R.CHN_PERR i)) (h_DRC_FREQ : W0 R.DRC_FREQ) (h_DRC_HAZSTAT : W0 R.DRC_HAZSTAT) (h_DRC_CHSTAT : ∀ i, W0 (R.DRC_CHSTAT i)) {t0 : State} (h0 : RegsBut W0 r0 s) (ht : execFreqChangeTimeout dt s = .next t0) :
    RegsBut W0 r0 t0 := by
  unfold execFreqChangeTimeout at ht
  apply whenDram_regs (ht := ht)
  repeat' first
    | with_reducible assumption
    | with_reducible apply advance_regs
    | with_reducible apply freqTimeout_regs
    | split
    | dsimp only
    | with_reducible intro _

end Sys2Proof.Machine
end

