-- ==== Sys2Proof/Laws/RegsTim.lean ====
section
/-! SUPPORT. Which registers each operation of Machine/Tim.lean may write. -/

namespace Sys2Proof.Machine

theorem syncSend_regs {W0 : Nat → Prop} {r0 : State} (s : State) (h0 : RegsBut W0 r0 s) :
    RegsBut W0 r0 (syncSend s) := by
  unfold syncSend
  repeat' first
    | with_reducible assumption
    | simp only [RegsBut.tim]
    | with_reducible apply sendNow_regs

theorem setGen_regs {W0 : Nat → Prop} {r0 : State} (s : State) (g : Nat) (x : Gen) (h0 : RegsBut W0 r0 s) :
    RegsBut W0 r0 (setGen s g x) := by
  unfold setGen
  repeat' first
    | with_reducible assumption
    | simp only [RegsBut.tim]

theorem genShow_regs {W0 : Nat → Prop} {r0 : State} (s : State) (g : Nat) (h_TIM_PGCFG : ∀ i, W0 (R.TIM_PGCFG i)) (h_TIM_PGNEXT : ∀ i, W0 (R.TIM_PGNEXT i)) (h0 : RegsBut W0 r0 s) :
    RegsBut W0 r0 (genShow s g) := by
  unfold genShow
  repeat' first
    | with_reducible assumption
    | with_reducible exact h_TIM_PGCFG _
    | with_reducible exact h_TIM_PGNEXT _
    | with_reducible apply setF_regs
    | split
    | dsimp only

theorem genEnable_regs {W0 : Nat → Prop} {r0 : State} (s : State) (g : Nat) (h_TIM_PGCFG : ∀ i, W0 (R.TIM_PGCFG i)) (h_TIM_PGSTAT : ∀ i, W0 (R.TIM_PGSTAT i)) (h_TIM_PGNEXT : ∀ i, W0 (R.TIM_PGNEXT i)) (h0 : RegsBut W0 r0 s) :
    RegsBut W0 r0 (genEnable s g) := by
  unfold genEnable
  repeat' first
    | with_reducible assumption
    | with_reducible exact h_TIM_PGCFG _
    | with_reducible exact h_TIM_PGSTAT _
    | with_reducible apply setF_regs
    | with_reducible apply setGen_regs
    | with_reducible apply genShow_regs

theorem genStop_regs {W0 : Nat → Prop} {r0 : State} (s : State) (g : Nat) (h_TIM_PGCFG : ∀ i, W0 (R.TIM_PGCFG i)) (h_TIM_PGNEXT : ∀ i, W0 (R.TIM_PGNEXT i)) (h0 : RegsBut W0 r0 s) :
    RegsBut W0 r0 (genStop s g) := by
  unfold genStop
  repeat' first
    | with_reducible assumption
    | with_reducible exact h_TIM_PGCFG _
    | with_reducible apply setF_regs
    | with_reducible apply genShow_regs

theorem genProgram_regs {W0 : Nat → Prop} {r0 : State} (s : State) (g : Nat) (owner : Nat) (st : Int) (per : Nat) (k : Nat) (h_TIM_PGCFG : ∀ i, W0 (R.TIM_PGCFG i)) (h_TIM_PGSTART : ∀ i, W0 (R.TIM_PGSTART i)) (h_TIM_PGPER : ∀ i, W0 (R.TIM_PGPER i)) (h_TIM_PGPERF : ∀ i, W0 (R.TIM_PGPERF i)) (h_TIM_PGNEXT : ∀ i, W0 (R.TIM_PGNEXT i)) (h0 : RegsBut W0 r0 s) :
    RegsBut W0 r0 (genProgram s g owner st per k) := by
  unfold genProgram
  repeat' first
    | with_reducible assumption
    | with_reducible exact h_TIM_PGCFG _
    | with_reducible exact h_TIM_PGSTART _
    | with_reducible exact h_TIM_PGPER _
    | with_reducible exact h_TIM_PGPERF _
    | with_reducible apply setF_regs
    | with_reducible apply setGen_regs
    | with_reducible apply genShow_regs

theorem genTake_regs {W0 : Nat → Prop} {r0 : State} (s : State) (g : Nat) (owner : Nat) (st : Int) (per : Nat) (k : Nat) (h_TIM_PGCFG : ∀ i, W0 (R.TIM_PGCFG i)) (h_TIM_PGSTART : ∀ i, W0 (R.TIM_PGSTART i)) (h_TIM_PGPER : ∀ i, W0 (R.TIM_PGPER i)) (h_TIM_PGPERF : ∀ i, W0 (R.TIM_PGPERF i)) (h_TIM_PGSTAT : ∀ i, W0 (R.TIM_PGSTAT i)) (h_TIM_PGNEXT : ∀ i, W0 (R.TIM_PGNEXT i)) (h0 : RegsBut W0 r0 s) :
    RegsBut W0 r0 (genTake s g owner st per k) := by
  unfold genTake
  repeat' first
    | with_reducible assumption
    | with_reducible exact h_TIM_PGSTAT _
    | with_reducible apply setF_regs
    | with_reducible apply genProgram_regs

theorem genRelease_regs {W0 : Nat → Prop} {r0 : State} (s : State) (g : Nat) (h_TIM_PGCFG : ∀ i, W0 (R.TIM_PGCFG i)) (h_TIM_PGNEXT : ∀ i, W0 (R.TIM_PGNEXT i)) (h0 : RegsBut W0 r0 s) :
    RegsBut W0 r0 (genRelease s g) := by
  unfold genRelease
  repeat' first
    | with_reducible assumption
    | with_reducible apply setGen_regs
    | with_reducible apply genStop_regs

theorem trigPulse_regs {W0 : Nat → Prop} {r0 : State} (s : State) (g : Nat) (ik : Int) (h0 : RegsBut W0 r0 s) :
    RegsBut W0 r0 (trigPulse s g ik) := by
  unfold trigPulse
  repeat' first
    | with_reducible assumption
    | simp only [RegsBut.tim]
    | with_reducible apply emit_regs

theorem genFire_regs {W0 : Nat → Prop} {r0 : State} (s : State) (g : Nat) (h_pba : ∀ k, W0 (0x38000 + 4 * (k % 64))) (h_GLB_EVTOVF : W0 R.GLB_EVTOVF) (h_CHN_PERR : ∀ i, W0 (R.CHN_PERR i)) (h_TIM_PGCFG : ∀ i, W0 (R.TIM_PGCFG i)) (h_TIM_PGSTAT : ∀ i, W0 (R.TIM_PGSTAT i)) (h_TIM_PGNEXT : ∀ i, W0 (R.TIM_PGNEXT i)) (h0 : RegsBut W0 r0 s) :
    RegsBut W0 r0 (genFire s g) := by
  unfold genFire
  repeat' first
    | with_reducible assumption
    | with_reducible exact h_TIM_PGSTAT _
    | with_reducible apply incMod_regs
    | with_reducible apply raise_regs
    | with_reducible apply sorPulse_regs
    | with_reducible apply setGen_regs
    | with_reducible apply genShow_regs
    | with_reducible apply genStop_regs
    | with_reducible apply trigPulse_regs
    | split
    | dsimp only

theorem syncPulse_regs {W0 : Nat → Prop} {r0 : State} (s : State) (g : Nat) (h0 : RegsBut W0 r0 s) :
    RegsBut W0 r0 (syncPulse s g) := by
  unfold syncPulse
  repeat' first
    | with_reducible assumption
    | with_reducible apply syncSend_regs
    | split

theorem genPulse_regs {W0 : Nat → Prop} {r0 : State} (s : State) (g : Nat) (h_pba : ∀ k, W0 (0x38000 + 4 * (k % 64))) (h_GLB_EVTOVF : W0 R.GLB_EVTOVF) (h_CHN_PERR : ∀ i, W0 (R.CHN_PERR i)) (h_TIM_PGCFG : ∀ i, W0 (R.TIM_PGCFG i)) (h_TIM_PGSTAT : ∀ i, W0 (R.TIM_PGSTAT i)) (h_TIM_PGNEXT : ∀ i, W0 (R.TIM_PGNEXT i)) (h0 : RegsBut W0 r0 s) :
    RegsBut W0 r0 (genPulse s g) := by
  unfold genPulse
  repeat' first
    | with_reducible assumption
    | with_reducible apply genFire_regs
    | with_reducible apply syncPulse_regs

theorem genPulses_regs {W0 : Nat → Prop} {r0 : State} (g : Nat) (h_pba : ∀ k, W0 (0x38000 + 4 * (k % 64))) (h_GLB_EVTOVF : W0 R.GLB_EVTOVF) (h_CHN_PERR : ∀ i, W0 (R.CHN_PERR i)) (h_TIM_PGCFG : ∀ i, W0 (R.TIM_PGCFG i)) (h_TIM_PGSTAT : ∀ i, W0 (R.TIM_PGSTAT i)) (h_TIM_PGNEXT : ∀ i, W0 (R.TIM_PGNEXT i)) (y0 : Nat) (y1 : State)
    (h0 : RegsBut W0 r0 y1) :
    RegsBut W0 r0 (genPulses g y0 y1) := by
  induction y0 generalizing y1 g with
  | zero =>
    unfold genPulses
    repeat' first
      | with_reducible assumption
  | succ y0 ih =>
    unfold genPulses
    repeat' first
      | with_reducible assumption
      | with_reducible apply ih
      | with_reducible apply genPulse_regs
      | split

theorem genLast_regs {W0 : Nat → Prop} {r0 : State} (s0 : State) (g : Nat) (h_pba : ∀ k, W0 (0x38000 + 4 * (k % 64))) (h_GLB_EVTOVF : W0 R.GLB_EVTOVF) (h_CHN_PERR : ∀ i, W0 (R.CHN_PERR i)) (h_TIM_PGCFG : ∀ i, W0 (R.TIM_PGCFG i)) (h_TIM_PGSTAT : ∀ i, W0 (R.TIM_PGSTAT i)) (h_TIM_PGNEXT : ∀ i, W0 (R.TIM_PGNEXT i)) (h0 : RegsBut W0 r0 s0) :
    RegsBut W0 r0 (genLast s0 g) := by
  unfold genLast
  repeat' first
    | with_reducible assumption
    | with_reducible exact h_TIM_PGCFG _
    | with_reducible apply setF_regs
    | with_reducible apply genPulses_regs

theorem genStep_regs {W0 : Nat → Prop} {r0 : State} (s : State) (g : Nat) (h_pba : ∀ k, W0 (0x38000 + 4 * (k % 64))) (h_GLB_EVTOVF : W0 R.GLB_EVTOVF) (h_CHN_PERR : ∀ i, W0 (R.CHN_PERR i)) (h_TIM_PGCFG : ∀ i, W0 (R.TIM_PGCFG i)) (h_TIM_PGSTAT : ∀ i, W0 (R.TIM_PGSTAT i)) (h_TIM_PGNEXT : ∀ i, W0 (R.TIM_PGNEXT i)) (h0 : RegsBut W0 r0 s) :
    RegsBut W0 r0 (genStep s g) := by
  unfold genStep
  repeat' first
    | with_reducible assumption
    | with_reducible exact h_TIM_PGSTAT _
    | with_reducible apply setF_regs
    | with_reducible apply incSat_regs
    | with_reducible apply setGen_regs
    | with_reducible apply genShow_regs
    | with_reducible apply genPulse_regs
    | split

theorem stepTime_regs {W0 : Nat → Prop} {r0 : State} (s : State) (d : Int) (h_pba : ∀ k, W0 (0x38000 + 4 * (k % 64))) (h_GLB_EVTOVF : W0 R.GLB_EVTOVF) (h_SOR_GSTAT : W0 R.SOR_GSTAT) (h_CHN_PERR : ∀ i, W0 (R.CHN_PERR i)) (h_TIM_STAT : W0 R.TIM_STAT) (h_TIM_PGCFG : ∀ i, W0 (R.TIM_PGCFG i)) (h_TIM_PGSTAT : ∀ i, W0 (R.TIM_PGSTAT i)) (h_TIM_PGNEXT : ∀ i, W0 (R.TIM_PGNEXT i)) (h0 : RegsBut W0 r0 s) :
    RegsBut W0 r0 (stepTime s d) := by
  unfold stepTime
  repeat' first
    | with_reducible assumption
    | simp only [RegsBut.lmp, RegsBut.time_wraps]
    | with_reducible exact h_TIM_STAT
    | with_reducible apply incSat_regs
    | with_reducible apply raise_regs
    | with_reducible apply longWindow_regs
    | with_reducible apply genStep_regs
    | with_reducible apply RegsBut.foldl
    | split
    | dsimp only
    | with_reducible intro _

theorem setServo_regs {W0 : Nat → Prop} {r0 : State} (s : State) (st : Nat) (h_pba : ∀ k, W0 (0x38000 + 4 * (k % 64))) (h_GLB_EVTOVF : W0 R.GLB_EVTOVF) (h_CHN_PERR : ∀ i, W0 (R.CHN_PERR i)) (h_TIM_STAT : W0 R.TIM_STAT) (h0 : RegsBut W0 r0 s) :
    RegsBut W0 r0 (setServo s st) := by
  unfold setServo
  repeat' first
    | with_reducible assumption
    | simp only [RegsBut.tim_tan]
    | with_reducible exact h_TIM_STAT
    | with_reducible apply setF_regs
    | with_reducible apply raise_regs
    | with_reducible apply lampDrop_regs
    | split

theorem steer_regs {W0 : Nat → Prop} {r0 : State} (s : State) (kept : Bool) (h_TIM_INC : W0 R.TIM_INC) (h0 : RegsBut W0 r0 s) :
    RegsBut W0 r0 (steer s kept) := by
  unfold steer
  repeat' first
    | with_reducible assumption
    | simp only [RegsBut.tim]
    | with_reducible exact h_TIM_INC
    | with_reducible apply setF_regs
    | with_reducible apply drawNat_regs

theorem holdInc_regs {W0 : Nat → Prop} {r0 : State} (s : State) (h_TIM_INC : W0 R.TIM_INC) (h0 : RegsBut W0 r0 s) :
    RegsBut W0 r0 (holdInc s) := by
  unfold holdInc
  repeat' first
    | with_reducible assumption
    | with_reducible exact h_TIM_INC
    | with_reducible apply setF_regs
    | split

theorem toHoldover_regs {W0 : Nat → Prop} {r0 : State} (s : State) (h_pba : ∀ k, W0 (0x38000 + 4 * (k % 64))) (h_GLB_EVTOVF : W0 R.GLB_EVTOVF) (h_CHN_PERR : ∀ i, W0 (R.CHN_PERR i)) (h_TIM_STAT : W0 R.TIM_STAT) (h_TIM_INC : W0 R.TIM_INC) (h0 : RegsBut W0 r0 s) :
    RegsBut W0 r0 (toHoldover s) := by
  unfold toHoldover
  repeat' first
    | with_reducible assumption
    | simp only [RegsBut.tim]
    | with_reducible apply setServo_regs
    | with_reducible apply holdInc_regs

theorem showOffset_regs {W0 : Nat → Prop} {r0 : State} (s : State) (o : Int) (h_TIM_OFFSET : W0 R.TIM_OFFSET) (h0 : RegsBut W0 r0 s) :
    RegsBut W0 r0 (showOffset s o) := by
  unfold showOffset
  repeat' first
    | with_reducible assumption
    | with_reducible exact h_TIM_OFFSET
    | with_reducible apply setF_regs

theorem outlier_regs {W0 : Nat → Prop} {r0 : State} (s : State) (h_TIM_SSTAT : W0 R.TIM_SSTAT) (h0 : RegsBut W0 r0 s) :
    RegsBut W0 r0 (outlier s).2 := by
  unfold outlier
  repeat' first
    | with_reducible assumption
    | simp only [RegsBut.tim]
    | with_reducible exact h_TIM_SSTAT
    | with_reducible apply incSat_regs

theorem startSlew_regs {W0 : Nat → Prop} {r0 : State} (s : State) (h0 : RegsBut W0 r0 s) :
    RegsBut W0 r0 (startSlew s) := by
  unfold startSlew
  repeat' first
    | with_reducible assumption
    | simp only [RegsBut.tim]

theorem keepInc_regs {W0 : Nat → Prop} {r0 : State} (s : State) (h0 : RegsBut W0 r0 s) :
    RegsBut W0 r0 (keepInc s) := by
  unfold keepInc
  repeat' first
    | with_reducible assumption
    | simp only [RegsBut.tim]

theorem towardLock_regs {W0 : Nat → Prop} {r0 : State} (s : State) (inBounds : Bool) (need : Nat) (h_pba : ∀ k, W0 (0x38000 + 4 * (k % 64))) (h_GLB_EVTOVF : W0 R.GLB_EVTOVF) (h_CHN_PERR : ∀ i, W0 (R.CHN_PERR i)) (h_TIM_STAT : W0 R.TIM_STAT) (h0 : RegsBut W0 r0 s) :
    RegsBut W0 r0 (towardLock s inBounds need) := by
  unfold towardLock
  repeat' first
    | with_reducible assumption
    | simp only [RegsBut.tim]
    | with_reducible apply setServo_regs
    | split

theorem servoSync_regs {W0 : Nat → Prop} {r0 : State} (s : State) (o : Int) (h_pba : ∀ k, W0 (0x38000 + 4 * (k % 64))) (h_GLB_EVTOVF : W0 R.GLB_EVTOVF) (h_SOR_GSTAT : W0 R.SOR_GSTAT) (h_CHN_PERR : ∀ i, W0 (R.CHN_PERR i)) (h_TIM_STAT : W0 R.TIM_STAT) (h_TIM_INC : W0 R.TIM_INC) (h_TIM_OFFSET : W0 R.TIM_OFFSET) (h_TIM_SSTAT : W0 R.TIM_SSTAT) (h_TIM_PGCFG : ∀ i, W0 (R.TIM_PGCFG i)) (h_TIM_PGSTAT : ∀ i, W0 (R.TIM_PGSTAT i)) (h_TIM_PGNEXT : ∀ i, W0 (R.TIM_PGNEXT i)) (h0 : RegsBut W0 r0 s) :
    RegsBut W0 r0 (servoSync s o) := by
  unfold servoSync
  repeat' first
    | with_reducible assumption
    | simp only [RegsBut.tim]
    | with_reducible apply stepTime_regs
    | with_reducible apply setServo_regs
    | with_reducible apply steer_regs
    | with_reducible apply showOffset_regs
    | with_reducible apply outlier_regs
    | with_reducible apply keepInc_regs
    | with_reducible apply towardLock_regs
    | with_reducible refine RegsBut.of_snd (by with_reducible assumption) ?_
    | with_reducible refine RegsBut.of_snd2 (by with_reducible assumption) ?_
    | split

theorem servoEdge_regs {W0 : Nat → Prop} {r0 : State} (s : State) (e : Int) (h_pba : ∀ k, W0 (0x38000 + 4 * (k % 64))) (h_GLB_EVTOVF : W0 R.GLB_EVTOVF) (h_CHN_PERR : ∀ i, W0 (R.CHN_PERR i)) (h_TIM_STAT : W0 R.TIM_STAT) (h_TIM_INC : W0 R.TIM_INC) (h_TIM_OFFSET : W0 R.TIM_OFFSET) (h_TIM_SSTAT : W0 R.TIM_SSTAT) (h0 : RegsBut W0 r0 s) :
    RegsBut W0 r0 (servoEdge s e) := by
  unfold servoEdge
  repeat' first
    | with_reducible assumption
    | simp only [RegsBut.tim]
    | with_reducible apply setServo_regs
    | with_reducible apply steer_regs
    | with_reducible apply showOffset_regs
    | with_reducible apply outlier_regs
    | with_reducible apply startSlew_regs
    | with_reducible apply towardLock_regs
    | with_reducible refine RegsBut.of_snd (by with_reducible assumption) ?_
    | with_reducible refine RegsBut.of_snd2 (by with_reducible assumption) ?_
    | split

theorem refEdge_regs {W0 : Nat → Prop} {r0 : State} (s : State) (eighths : Nat) (h_pba : ∀ k, W0 (0x38000 + 4 * (k % 64))) (h_GLB_EVTOVF : W0 R.GLB_EVTOVF) (h_SOR_GSTAT : W0 R.SOR_GSTAT) (h_CHN_PERR : ∀ i, W0 (R.CHN_PERR i)) (h_TIM_STAT : W0 R.TIM_STAT) (h_TIM_INC : W0 R.TIM_INC) (h_TIM_REFCFG : W0 R.TIM_REFCFG) (h_TIM_OFFSET : W0 R.TIM_OFFSET) (h_TIM_SSTAT : W0 R.TIM_SSTAT) (h_TIM_PGCFG : ∀ i, W0 (R.TIM_PGCFG i)) (h_TIM_PGSTAT : ∀ i, W0 (R.TIM_PGSTAT i)) (h_TIM_PGNEXT : ∀ i, W0 (R.TIM_PGNEXT i)) (h0 : RegsBut W0 r0 s) :
    RegsBut W0 r0 (refEdge s eighths) := by
  unfold refEdge
  repeat' first
    | with_reducible assumption
    | simp only [RegsBut.tim]
    | with_reducible exact h_TIM_REFCFG
    | with_reducible apply setF_regs
    | with_reducible apply stepTime_regs
    | with_reducible apply setServo_regs
    | with_reducible apply servoEdge_regs
    | split

theorem refLoss_regs {W0 : Nat → Prop} {r0 : State} (s : State) (h_pba : ∀ k, W0 (0x38000 + 4 * (k % 64))) (h_GLB_EVTOVF : W0 R.GLB_EVTOVF) (h_CHN_PERR : ∀ i, W0 (R.CHN_PERR i)) (h_TIM_STAT : W0 R.TIM_STAT) (h_TIM_INC : W0 R.TIM_INC) (h0 : RegsBut W0 r0 s) :
    RegsBut W0 r0 (refLoss s) := by
  unfold refLoss
  repeat' first
    | with_reducible assumption
    | with_reducible apply toHoldover_regs
    | split

theorem useSync_regs {W0 : Nat → Prop} {r0 : State} (s : State) (x : RxCell) (h_pba : ∀ k, W0 (0x38000 + 4 * (k % 64))) (h_GLB_EVTOVF : W0 R.GLB_EVTOVF) (h_SOR_GSTAT : W0 R.SOR_GSTAT) (h_CHN_PERR : ∀ i, W0 (R.CHN_PERR i)) (h_TIM_STAT : W0 R.TIM_STAT) (h_TIM_INC : W0 R.TIM_INC) (h_TIM_OFFSET : W0 R.TIM_OFFSET) (h_TIM_SSTAT : W0 R.TIM_SSTAT) (h_TIM_PGCFG : ∀ i, W0 (R.TIM_PGCFG i)) (h_TIM_PGSTAT : ∀ i, W0 (R.TIM_PGSTAT i)) (h_TIM_PGNEXT : ∀ i, W0 (R.TIM_PGNEXT i)) (h0 : RegsBut W0 r0 s) :
    RegsBut W0 r0 (useSync s x) := by
  unfold useSync
  repeat' first
    | with_reducible assumption
    | simp only [RegsBut.tim, RegsBut.tim_sec_lmp_wraps]
    | with_reducible exact h_TIM_STAT
    | with_reducible exact h_TIM_SSTAT
    | with_reducible apply setF_regs
    | with_reducible apply incSat_regs
    | with_reducible apply servoSync_regs
    | split

theorem syncArrive_regs {W0 : Nat → Prop} {r0 : State} (s : State) (x : RxCell) (h_pba : ∀ k, W0 (0x38000 + 4 * (k % 64))) (h_GLB_EVTOVF : W0 R.GLB_EVTOVF) (h_SOR_GSTAT : W0 R.SOR_GSTAT) (h_CHN_PERR : ∀ i, W0 (R.CHN_PERR i)) (h_TIM_STAT : W0 R.TIM_STAT) (h_TIM_INC : W0 R.TIM_INC) (h_TIM_OFFSET : W0 R.TIM_OFFSET) (h_TIM_SSTAT : W0 R.TIM_SSTAT) (h_TIM_PGCFG : ∀ i, W0 (R.TIM_PGCFG i)) (h_TIM_PGSTAT : ∀ i, W0 (R.TIM_PGSTAT i)) (h_TIM_PGNEXT : ∀ i, W0 (R.TIM_PGNEXT i)) (h0 : RegsBut W0 r0 s) :
    RegsBut W0 r0 (syncArrive s x) := by
  unfold syncArrive
  repeat' first
    | with_reducible assumption
    | with_reducible exact h_TIM_SSTAT
    | with_reducible apply incSat_regs
    | with_reducible apply insertCell_regs
    | with_reducible apply useSync_regs
    | split
    | dsimp only

theorem takeRx_regs {W0 : Nat → Prop} {r0 : State} {s : State} {p : Bytes → Bool} {it : RxCell} {t0 : State}
    (hx : takeRx s p = some (it, t0)) (h0 : RegsBut W0 r0 s) : RegsBut W0 r0 t0 := by
  unfold takeRx at hx
  split at hx
  · injection hx with hx
    injection hx with _ hx
    subst hx
    exact h0
  · cases hx

theorem sendLocal_regs {W0 : Nat → Prop} {r0 : State} (s : State) (p : Nat) (c : Bytes) (h_CHN_PERR : ∀ i, W0 (R.CHN_PERR i)) (h0 : RegsBut W0 r0 s) :
    RegsBut W0 r0 (sendLocal s p c) := by
  unfold sendLocal
  repeat' first
    | with_reducible assumption
    | with_reducible apply emit_regs
    | with_reducible apply insertCell_regs
    | split

theorem preqArrive_regs {W0 : Nat → Prop} {r0 : State} (s : State) (x : RxCell) (h_CHN_PERR : ∀ i, W0 (R.CHN_PERR i)) (h0 : RegsBut W0 r0 s) :
    RegsBut W0 r0 (preqArrive s x) := by
  unfold preqArrive
  repeat' first
    | with_reducible assumption
    | with_reducible apply sendLocal_regs

theorem preqSend_regs {W0 : Nat → Prop} {r0 : State} (s : State) (p : Nat) (h_CHN_PERR : ∀ i, W0 (R.CHN_PERR i)) (h0 : RegsBut W0 r0 s) :
    RegsBut W0 r0 (preqSend s p) := by
  unfold preqSend
  repeat' first
    | with_reducible assumption
    | simp only [RegsBut.tim]
    | with_reducible apply sendLocal_regs
    | split

theorem preqLeft_regs {W0 : Nat → Prop} {r0 : State} (s : State) (p : Nat) (c : Bytes) (now : Nat) (h0 : RegsBut W0 r0 s) :
    RegsBut W0 r0 (preqLeft s p c now) := by
  unfold preqLeft
  repeat' first
    | with_reducible assumption
    | simp only [RegsBut.tim]
    | split

theorem preqRestart_regs {W0 : Nat → Prop} {r0 : State} (s : State) (p : Nat) (h0 : RegsBut W0 r0 s) :
    RegsBut W0 r0 (preqRestart s p) := by
  unfold preqRestart
  repeat' first
    | with_reducible assumption
    | simp only [RegsBut.tim]

theorem pdShow_regs {W0 : Nat → Prop} {r0 : State} (s : State) (p : Nat) (x : PdSt) (h_TIM_PDLY : ∀ i, W0 (R.TIM_PDLY i)) (h0 : RegsBut W0 r0 s) :
    RegsBut W0 r0 (pdShow s p x) := by
  unfold pdShow
  repeat' first
    | with_reducible assumption
    | simp only [RegsBut.tim]
    | with_reducible exact h_TIM_PDLY _
    | with_reducible apply setF_regs

theorem pdTake_regs {W0 : Nat → Prop} {r0 : State} (s : State) (p : Nat) (v : Int) (h_TIM_PDLY : ∀ i, W0 (R.TIM_PDLY i)) (h0 : RegsBut W0 r0 s) :
    RegsBut W0 r0 (pdTake s p v) := by
  unfold pdTake
  repeat' first
    | with_reducible assumption
    | with_reducible apply pdShow_regs
    | split
    | dsimp only

theorem prespArrive_regs {W0 : Nat → Prop} {r0 : State} (s : State) (x : RxCell) (h_TIM_PDLY : ∀ i, W0 (R.TIM_PDLY i)) (h0 : RegsBut W0 r0 s) :
    RegsBut W0 r0 (prespArrive s x) := by
  unfold prespArrive
  repeat' first
    | with_reducible assumption
    | simp only [RegsBut.tim]
    | with_reducible apply pdTake_regs
    | split

theorem preqLost_regs {W0 : Nat → Prop} {r0 : State} (s : State) (p : Nat) (h_TIM_SSTAT : W0 R.TIM_SSTAT) (h0 : RegsBut W0 r0 s) :
    RegsBut W0 r0 (preqLost s p) := by
  unfold preqLost
  repeat' first
    | with_reducible assumption
    | simp only [RegsBut.tim]
    | with_reducible exact h_TIM_SSTAT
    | with_reducible apply incSat_regs
    | split

theorem syncLoss_regs {W0 : Nat → Prop} {r0 : State} (s : State) (h_pba : ∀ k, W0 (0x38000 + 4 * (k % 64))) (h_GLB_EVTOVF : W0 R.GLB_EVTOVF) (h_CHN_PERR : ∀ i, W0 (R.CHN_PERR i)) (h_TIM_STAT : W0 R.TIM_STAT) (h_TIM_INC : W0 R.TIM_INC) (h0 : RegsBut W0 r0 s) :
    RegsBut W0 r0 (syncLoss s) := by
  unfold syncLoss
  repeat' first
    | with_reducible assumption
    | with_reducible apply toHoldover_regs
    | split
    | dsimp only

theorem setCap_regs {W0 : Nat → Prop} {r0 : State} (s : State) (c : Nat) (x : CapSt) (h_TIM_CAPCFG : ∀ i, W0 (R.TIM_CAPCFG i)) (h0 : RegsBut W0 r0 s) :
    RegsBut W0 r0 (setCap s c x) := by
  unfold setCap
  repeat' first
    | with_reducible assumption
    | simp only [RegsBut.tim]
    | with_reducible exact h_TIM_CAPCFG _
    | with_reducible apply setF_regs

theorem capEdge_regs {W0 : Nat → Prop} {r0 : State} (s : State) (c : Nat) (eighths : Nat) (fall : Bool) (h_pba : ∀ k, W0 (0x38000 + 4 * (k % 64))) (h_GLB_EVTOVF : W0 R.GLB_EVTOVF) (h_CHN_PERR : ∀ i, W0 (R.CHN_PERR i)) (h_TIM_CAPCFG : ∀ i, W0 (R.TIM_CAPCFG i)) (h0 : RegsBut W0 r0 s) :
    RegsBut W0 r0 (capEdge s c eighths fall) := by
  unfold capEdge
  repeat' first
    | with_reducible assumption
    | with_reducible exact h_TIM_CAPCFG _
    | with_reducible apply incSat_regs
    | with_reducible apply raise_regs
    | with_reducible apply setCap_regs
    | with_reducible unfold capEdge.stampEdge
    | split
    | dsimp only

theorem capRead_regs {W0 : Nat → Prop} {r0 : State} (s : State) (c : Nat) (h_TIM_CAPCFG : ∀ i, W0 (R.TIM_CAPCFG i)) (h_TIM_CAPHI : ∀ i, W0 (R.TIM_CAPHI i)) (h0 : RegsBut W0 r0 s) :
    RegsBut W0 r0 (capRead s c).2 := by
  unfold capRead
  repeat' first
    | with_reducible assumption
    | with_reducible exact h_TIM_CAPHI _
    | with_reducible apply setF_regs
    | with_reducible apply setCap_regs
    | split

theorem capStart_regs {W0 : Nat → Prop} {r0 : State} (s : State) (c : Nat) (h_TIM_CAPCFG : ∀ i, W0 (R.TIM_CAPCFG i)) (h0 : RegsBut W0 r0 s) :
    RegsBut W0 r0 (capStart s c) := by
  unfold capStart
  repeat' first
    | with_reducible assumption
    | with_reducible exact h_TIM_CAPCFG _
    | with_reducible apply setF_regs
    | with_reducible apply setCap_regs

theorem timBlockReset_regs {W0 : Nat → Prop} {r0 : State} (s : State) (h_pba : ∀ k, W0 (0x38000 + 4 * (k % 64))) (h_r0xF0000 : ∀ off, 0xF0000 ≤ off → off < 0x100000 → W0 off) (h_GLB_EVTOVF : W0 R.GLB_EVTOVF) (h_CHN_PERR : ∀ i, W0 (R.CHN_PERR i)) (h_TIM_INC : W0 R.TIM_INC) (h_TIM_PGCFG : ∀ i, W0 (R.TIM_PGCFG i)) (h0 : RegsBut W0 r0 s) :
    RegsBut W0 r0 (timBlockReset s) := by
  unfold timBlockReset
  repeat' first
    | with_reducible assumption
    | simp only [RegsBut.tim]
    | with_reducible assumption
    | with_reducible exact h_TIM_INC
    | with_reducible exact h_TIM_PGCFG _
    | with_reducible apply setWord_regs
    | with_reducible apply setF_regs
    | with_reducible apply resetRegs_regs
    | with_reducible apply raise_regs
    | with_reducible apply lampDrop_regs
    | with_reducible apply RegsBut.foldl
    | split
    | dsimp only
    | with_reducible intro _

theorem timResetEnd_regs {W0 : Nat → Prop} {r0 : State} (s : State) (h_TIM_PGCFG : ∀ i, W0 (R.TIM_PGCFG i)) (h_TIM_PGSTART : ∀ i, W0 (R.TIM_PGSTART i)) (h_TIM_PGPER : ∀ i, W0 (R.TIM_PGPER i)) (h_TIM_PGPERF : ∀ i, W0 (R.TIM_PGPERF i)) (h_TIM_PGSTAT : ∀ i, W0 (R.TIM_PGSTAT i)) (h_TIM_PGNEXT : ∀ i, W0 (R.TIM_PGNEXT i)) (h0 : RegsBut W0 r0 s) :
    RegsBut W0 r0 (timResetEnd s) := by
  unfold timResetEnd
  repeat' first
    | with_reducible assumption
    | with_reducible exact h_TIM_PGSTAT _
    | with_reducible apply incSat_regs
    | with_reducible apply genProgram_regs
    | with_reducible apply RegsBut.foldl
    | with_reducible refine RegsBut.of_snd (by with_reducible assumption) ?_
    | with_reducible refine RegsBut.of_snd2 (by with_reducible assumption) ?_
    | split
    | dsimp only
    | with_reducible intro _

theorem execSyncPostmark_regs {W0 : Nat → Prop} {r0 : State} (s : State) (h_pba : ∀ k, W0 (0x38000 + 4 * (k % 64))) (h_GLB_EVTOVF : W0 R.GLB_EVTOVF) (h_SOR_GSTAT : W0 R.SOR_GSTAT) (h_CHN_PERR : ∀ i, W0 (R.CHN_PERR i)) (h_TIM_STAT : W0 R.TIM_STAT) (h_TIM_INC : W0 R.TIM_INC) (h_TIM_OFFSET : W0 R.TIM_OFFSET) (h_TIM_SSTAT : W0 R.TIM_SSTAT) (h_TIM_PGCFG : ∀ i, W0 (R.TIM_PGCFG i)) (h_TIM_PGSTAT : ∀ i, W0 (R.TIM_PGSTAT i)) (h_TIM_PGNEXT : ∀ i, W0 (R.TIM_PGNEXT i)) {t0 : State} (h0 : RegsBut W0 r0 s) (ht : execSyncPostmark s = .next t0) :
    RegsBut W0 r0 t0 := by
  unfold execSyncPostmark at ht
  apply whenOn_regs (ht := ht)
  repeat' first
    | with_reducible assumption
    | with_reducible apply syncArrive_regs
    | with_reducible refine takeRx_regs (hx := by with_reducible assumption) ?_
    | split
    | dsimp only
    | with_reducible intro _

theorem execPreqPostmark_regs {W0 : Nat → Prop} {r0 : State} (s : State) (h_CHN_PERR : ∀ i, W0 (R.CHN_PERR i)) {t0 : State} (h0 : RegsBut W0 r0 s) (ht : execPreqPostmark s = .next t0) :
    RegsBut W0 r0 t0 := by
  unfold execPreqPostmark at ht
  apply whenOn_regs (ht := ht)
  repeat' first
    | with_reducible assumption
    | with_reducible refine takeRx_regs (hx := by with_reducible assumption) ?_
    | with_reducible apply preqArrive_regs
    | split
    | dsimp only
    | with_reducible intro _

theorem execPrespPostmark_regs {W0 : Nat → Prop} {r0 : State} (s : State) (h_TIM_PDLY : ∀ i, W0 (R.TIM_PDLY i)) {t0 : State} (h0 : RegsBut W0 r0 s) (ht : execPrespPostmark s = .next t0) :
    RegsBut W0 r0 t0 := by
  unfold execPrespPostmark at ht
  apply whenOn_regs (ht := ht)
  repeat' first
    | with_reducible assumption
    | with_reducible refine takeRx_regs (hx := by with_reducible assumption) ?_
    | with_reducible apply prespArrive_regs
    | split
    | dsimp only
    | with_reducible intro _

theorem execPreqSend_regs {W0 : Nat → Prop} {r0 : State} (dt : Nat) (p : Nat) (s : State) (h_pba : ∀ k, W0 (0x38000 + 4 * (k % 64))) (h_GLB_EVTOVF : W0 R.GLB_EVTOVF) (h_SOR_GSTAT : W0 R.SOR_GSTAT) (h_CHN_PERR : ∀ i, W0 (R.CHN_PERR i)) {t0 : State} (h0 : RegsBut W0 r0 s) (ht : execPreqSend dt p s = .next t0) :
    RegsBut W0 r0 t0 := by
  unfold execPreqSend at ht
  apply whenOn_regs (ht := ht)
  repeat' first
    | with_reducible assumption
    | with_reducible apply advance_regs
    | with_reducible apply preqSend_regs
    | split
    | dsimp only
    | with_reducible intro _

theorem execPreqLost_regs {W0 : Nat → Prop} {r0 : State} (x : After) (s : State) (h_pba : ∀ k, W0 (0x38000 + 4 * (k % 64))) (h_GLB_EVTOVF : W0 R.GLB_EVTOVF) (h_SOR_GSTAT : W0 R.SOR_GSTAT) (h_CHN_PERR : ∀ i, W0 (R.CHN_PERR i)) (h_TIM_SSTAT : W0 R.TIM_SSTAT) {t0 : State} (h0 : RegsBut W0 r0 s) (ht : execPreqLost x s = .next t0) :
    RegsBut W0 r0 t0 := by
  unfold execPreqLost at ht
  apply whenOn_regs (ht := ht)
  repeat' first
    | with_reducible assumption
    | with_reducible apply advance_regs
    | with_reducible apply preqLost_regs
    | split
    | dsimp only
    | with_reducible intro _

theorem execSyncLoss_regs {W0 : Nat → Prop} {r0 : State} (dt : Nat) (s : State) (h_pba : ∀ k, W0 (0x38000 + 4 * (k % 64))) (h_GLB_EVTOVF : W0 R.GLB_EVTOVF) (h_SOR_GSTAT : W0 R.SOR_GSTAT) (h_CHN_PERR : ∀ i, W0 (R.CHN_PERR i)) (h_TIM_STAT : W0 R.TIM_STAT) (h_TIM_INC : W0 R.TIM_INC) {t0 : State} (h0 : RegsBut W0 r0 s) (ht : execSyncLoss dt s = .next t0) :
    RegsBut W0 r0 t0 := by
  unfold execSyncLoss at ht
  apply whenOn_regs (ht := ht)
  repeat' first
    | with_reducible assumption
    | with_reducible apply advance_regs
    | with_reducible apply syncLoss_regs
    | split
    | dsimp only
    | with_reducible intro _

theorem execTimeWrap_regs {W0 : Nat → Prop} {r0 : State} (s : State) (h_pba : ∀ k, W0 (0x38000 + 4 * (k % 64))) (h_GLB_EVTOVF : W0 R.GLB_EVTOVF) (h_SOR_GSTAT : W0 R.SOR_GSTAT) (h_CHN_PERR : ∀ i, W0 (R.CHN_PERR i)) {t0 : State} (h0 : RegsBut W0 r0 s) (ht : execTimeWrap s = .next t0) :
    RegsBut W0 r0 t0 := by
  unfold execTimeWrap at ht
  injection ht with ht
  subst ht
  repeat' first
    | with_reducible assumption
    | with_reducible apply advance_regs
    | split

theorem execReferenceEdge_regs {W0 : Nat → Prop} {r0 : State} (dt : Nat) (eighths : Nat) (fall : Bool) (s : State) (h_pba : ∀ k, W0 (0x38000 + 4 * (k % 64))) (h_GLB_EVTOVF : W0 R.GLB_EVTOVF) (h_SOR_GSTAT : W0 R.SOR_GSTAT) (h_CHN_PERR : ∀ i, W0 (R.CHN_PERR i)) (h_TIM_STAT : W0 R.TIM_STAT) (h_TIM_INC : W0 R.TIM_INC) (h_TIM_REFCFG : W0 R.TIM_REFCFG) (h_TIM_OFFSET : W0 R.TIM_OFFSET) (h_TIM_SSTAT : W0 R.TIM_SSTAT) (h_TIM_PGCFG : ∀ i, W0 (R.TIM_PGCFG i)) (h_TIM_PGSTAT : ∀ i, W0 (R.TIM_PGSTAT i)) (h_TIM_PGNEXT : ∀ i, W0 (R.TIM_PGNEXT i)) {t0 : State} (h0 : RegsBut W0 r0 s) (ht : execReferenceEdge dt eighths fall s = .next t0) :
    RegsBut W0 r0 t0 := by
  unfold execReferenceEdge at ht
  apply whenOn_regs (ht := ht)
  repeat' first
    | with_reducible assumption
    | with_reducible apply advance_regs
    | with_reducible apply refEdge_regs
    | split
    | dsimp only
    | with_reducible intro _

theorem execReferenceLoss_regs {W0 : Nat → Prop} {r0 : State} (dt : Nat) (s : State) (h_pba : ∀ k, W0 (0x38000 + 4 * (k % 64))) (h_GLB_EVTOVF : W0 R.GLB_EVTOVF) (h_SOR_GSTAT : W0 R.SOR_GSTAT) (h_CHN_PERR : ∀ i, W0 (R.CHN_PERR i)) (h_TIM_STAT : W0 R.TIM_STAT) (h_TIM_INC : W0 R.TIM_INC) {t0 : State} (h0 : RegsBut W0 r0 s) (ht : execReferenceLoss dt s = .next t0) :
    RegsBut W0 r0 t0 := by
  unfold execReferenceLoss at ht
  apply whenOn_regs (ht := ht)
  repeat' first
    | with_reducible assumption
    | with_reducible apply advance_regs
    | with_reducible apply refLoss_regs
    | split
    | dsimp only
    | with_reducible intro _

theorem execCaptureEdge_regs {W0 : Nat → Prop} {r0 : State} (dt : Nat) (c : Nat) (eighths : Nat) (fall : Bool) (s : State) (h_pba : ∀ k, W0 (0x38000 + 4 * (k % 64))) (h_GLB_EVTOVF : W0 R.GLB_EVTOVF) (h_SOR_GSTAT : W0 R.SOR_GSTAT) (h_CHN_PERR : ∀ i, W0 (R.CHN_PERR i)) (h_TIM_CAPCFG : ∀ i, W0 (R.TIM_CAPCFG i)) {t0 : State} (h0 : RegsBut W0 r0 s) (ht : execCaptureEdge dt c eighths fall s = .next t0) :
    RegsBut W0 r0 t0 := by
  unfold execCaptureEdge at ht
  apply whenOn_regs (ht := ht)
  repeat' first
    | with_reducible assumption
    | with_reducible apply advance_regs
    | with_reducible apply capEdge_regs
    | split
    | dsimp only
    | with_reducible intro _

end Sys2Proof.Machine
end

