-- ==== Sys2Proof/Laws/RegsKeys.lean ====
section
/-! SUPPORT. Which registers each operation of Machine/Keys.lean may write. -/

namespace Sys2Proof.Machine

theorem setKeySlot_regs {W0 : Nat → Prop} {r0 : State} (s : State) (k : Nat) (v : Option KeySlot) (h_CHN_KEYSTAT : W0 R.CHN_KEYSTAT) (h_CHN_KSESS : ∀ i, W0 (R.CHN_KSESS i)) (h0 : RegsBut W0 r0 s) :
    RegsBut W0 r0 (setKeySlot s k v) := by
  unfold setKeySlot
  repeat' first
    | with_reducible assumption
    | simp only [RegsBut.chn]
    | with_reducible exact h_CHN_KEYSTAT
    | with_reducible exact h_CHN_KSESS _
    | with_reducible apply setF_regs
    | with_reducible apply setBitF_regs
    | split

theorem dropKeySlots_regs {W0 : Nat → Prop} {r0 : State} (s : State) (h_CHN_KEYSTAT : W0 R.CHN_KEYSTAT) (h_CHN_KSESS : ∀ i, W0 (R.CHN_KSESS i)) (h0 : RegsBut W0 r0 s) :
    RegsBut W0 r0 (dropKeySlots s) := by
  unfold dropKeySlots
  repeat' first
    | with_reducible assumption
    | simp only [RegsBut.chn]
    | with_reducible apply setKeySlot_regs
    | with_reducible apply RegsBut.foldl
    | split
    | dsimp only
    | with_reducible intro _

theorem touchKeySlot_regs {W0 : Nat → Prop} {r0 : State} (s : State) (k : Nat) (f : KeySlot → KeySlot) (h0 : RegsBut W0 r0 s) :
    RegsBut W0 r0 (touchKeySlot s k f) := by
  unfold touchKeySlot
  repeat' first
    | with_reducible assumption
    | simp only [RegsBut.chn]

theorem sealNext_regs {W0 : Nat → Prop} {r0 : State} (s : State) (session : Nat) (lkey : Bytes) (h0 : RegsBut W0 r0 s) :
    RegsBut W0 r0 (sealNext s session lkey) := by
  unfold sealNext
  repeat' first
    | with_reducible assumption
    | simp only [RegsBut.chn]

theorem sealReply_regs {W0 : Nat → Prop} {r0 : State} {s : State} {session : Nat} {lkey : Bytes} {ltype rank lid addr lfl : Nat}
    {plain : Bytes} {it : Bytes} {t0 : State}
    (hx : sealReply s session lkey ltype rank lid addr lfl plain = some (it, t0)) (h0 : RegsBut W0 r0 s) : RegsBut W0 r0 t0 := by
  unfold sealReply at hx
  obtain ⟨x, -, hx⟩ := Option.map_eq_some_iff.1 hx
  injection hx with _ hx
  subst hx
  exact h0

theorem setKeyRec_regs {W0 : Nat → Prop} {r0 : State} (s : State) (i : Nat) (r : KeyRec) (h0 : RegsBut W0 r0 s) :
    RegsBut W0 r0 (setKeyRec s i r) := by
  unfold setKeyRec
  repeat' first
    | with_reducible assumption
    | simp only [RegsBut.sec]

theorem senderContent_regs {W0 : Nat → Prop} {r0 : State} (s : State) (addr : Nat) (ltype : Nat) (rank : Nat) (lid : Nat) (wantSeal : Bool) (toSender : Bool) (content : Bytes) (h0 : RegsBut W0 r0 s) :
    RegsBut W0 r0 (senderContent s addr ltype rank lid wantSeal toSender content).2.2 := by
  unfold senderContent
  repeat' first
    | with_reducible assumption
    | simp only [RegsBut.sec]
    | with_reducible apply setKeyRec_regs
    | split

theorem sendLetter_regs {W0 : Nat → Prop} {r0 : State} (s : State) (ports : List Nat) (addr : Nat) (ltype : Nat) (lid : Nat) (wantSeal : Bool) (toSender : Bool) (content : Bytes) (h0 : RegsBut W0 r0 s) :
    RegsBut W0 r0 (sendLetter s ports addr ltype lid wantSeal toSender content) := by
  unfold sendLetter
  repeat' first
    | with_reducible assumption
    | with_reducible apply sendLetterCells_regs
    | with_reducible apply senderContent_regs
    | with_reducible apply RegsBut.foldl
    | with_reducible refine RegsBut.of_snd (by with_reducible assumption) ?_
    | with_reducible refine RegsBut.of_snd2 (by with_reducible assumption) ?_
    | split
    | dsimp only
    | with_reducible intro _

theorem secDone_regs {W0 : Nat → Prop} {r0 : State} (s : State) (it : Item) (c : Status) (result : Nat) (rcode : Nat) (dead : Bool) (h_pba : ∀ k, W0 (0x38000 + 4 * (k % 64))) (h_QUE_STAT : ∀ i, W0 (R.QUE_STAT i)) (h_QUE_RET : ∀ i, W0 (R.QUE_RET i)) (h0 : RegsBut W0 r0 s) :
    RegsBut W0 r0 (secDone s it c result rcode dead) := by
  unfold secDone
  repeat' first
    | with_reducible assumption
    | with_reducible apply complete40_regs

theorem promoteKeys_regs {W0 : Nat → Prop} {r0 : State} (s : State) (h0 : RegsBut W0 r0 s) :
    RegsBut W0 r0 (promoteKeys s) := by
  unfold promoteKeys
  repeat' first
    | with_reducible assumption
    | simp only [RegsBut.sec]

theorem switchKeys_regs {W0 : Nat → Prop} {r0 : State} (s : State) (n : Nat) (h_pba : ∀ k, W0 (0x38000 + 4 * (k % 64))) (h_QUE_STAT : ∀ i, W0 (R.QUE_STAT i)) (h_QUE_RET : ∀ i, W0 (R.QUE_RET i)) (h0 : RegsBut W0 r0 s) :
    RegsBut W0 r0 (switchKeys s n) := by
  unfold switchKeys
  repeat' first
    | with_reducible assumption
    | simp only [RegsBut.sec]
    | with_reducible apply secDone_regs
    | with_reducible apply promoteKeys_regs
    | with_reducible apply RegsBut.foldl
    | split
    | dsimp only
    | with_reducible intro _

end Sys2Proof.Machine
end

