-- ==== Sys2Proof/Laws/RegsCmp.lean ====
section
/-! SUPPORT. Which registers each operation of Machine/Cmp.lean may write. -/

namespace Sys2Proof.Machine

theorem bindError_regs {W0 : Nat → Prop} {r0 : State} (s : State) (k : Nat) (c : Status) (h_CMP_LERR : W0 R.CMP_LERR) (h0 : RegsBut W0 r0 s) :
    RegsBut W0 r0 (bindError s k c) := by
  unfold bindError
  repeat' first
    | with_reducible assumption
    | with_reducible exact h_CMP_LERR
    | with_reducible apply setF_regs
    | with_reducible apply incSat_regs

theorem queueNeeds_regs {W0 : Nat → Prop} {r0 : State} (s : State) (fc : FrameCfg) (layers : List Nat) (cn : Nat) (win : Nat) (given : List (Nat × Nat)) (h0 : RegsBut W0 r0 s) :
    RegsBut W0 r0 (queueNeeds s fc layers cn win given) := by
  unfold queueNeeds
  repeat' first
    | with_reducible assumption
    | simp only [RegsBut.srf]
    | with_reducible apply drawNat_regs
    | with_reducible apply addNeed_regs
    | with_reducible apply RegsBut.foldl
    | with_reducible refine RegsBut.of_snd (by with_reducible assumption) ?_
    | with_reducible refine RegsBut.of_snd2 (by with_reducible assumption) ?_
    | split
    | dsimp only
    | with_reducible intro _

theorem crcNote_regs {W0 : Nat → Prop} {r0 : State} (s : State) (n : Nat) (aborted : Bool) (vals : List (Nat × Nat)) (h0 : RegsBut W0 r0 s) :
    RegsBut W0 r0 (crcNote s n aborted vals) := by
  unfold crcNote
  repeat' first
    | with_reducible assumption
    | simp only [RegsBut.sec]
    | split

theorem underrun_regs {W0 : Nat → Prop} {r0 : State} (s : State) (n : Nat) (cause : Nat) (c : Status) (h_pba : ∀ k, W0 (0x38000 + 4 * (k % 64))) (h_GLB_YIELDCNT : W0 R.GLB_YIELDCNT) (h_GLB_YIELDLAST : W0 R.GLB_YIELDLAST) (h_GLB_YIELDFRM : W0 R.GLB_YIELDFRM) (h_GLB_EVTOVF : W0 R.GLB_EVTOVF) (h_SRF_TCMISS : W0 R.SRF_TCMISS) (h_FRT_USTAT : W0 R.FRT_USTAT) (h_FRT_UFRM : W0 R.FRT_UFRM) (h_CHN_PERR : ∀ i, W0 (R.CHN_PERR i)) (h_DRC_ECCSTAT : W0 R.DRC_ECCSTAT) (h_DRC_UEADDR : W0 R.DRC_UEADDR) (h0 : RegsBut W0 r0 s) :
    RegsBut W0 r0 (underrun s n cause c) := by
  unfold underrun
  repeat' first
    | with_reducible assumption
    | simp only [RegsBut.chn_cmp_frt]
    | with_reducible exact h_FRT_USTAT
    | with_reducible exact h_FRT_UFRM
    | with_reducible apply setF_regs
    | with_reducible apply incSat_regs
    | with_reducible apply sendNow_regs
    | with_reducible apply yield_regs
    | with_reducible apply touchNeeds_regs
    | with_reducible apply crcNote_regs
    | split

theorem cmpDone_regs {W0 : Nat → Prop} {r0 : State} (s : State) (it : Item) (c : Status) (badidx : Nat) (oframe : Nat) (dead : Bool) (h_pba : ∀ k, W0 (0x38000 + 4 * (k % 64))) (h_QUE_STAT : ∀ i, W0 (R.QUE_STAT i)) (h_QUE_RET : ∀ i, W0 (R.QUE_RET i)) (h0 : RegsBut W0 r0 s) :
    RegsBut W0 r0 (cmpDone s it c badidx oframe dead) := by
  unfold cmpDone
  repeat' first
    | with_reducible assumption
    | with_reducible apply complete40_regs

theorem noteSizes_regs {W0 : Nat → Prop} {r0 : State} (s : State) (n : Nat) (h0 : RegsBut W0 r0 s) :
    RegsBut W0 r0 (noteSizes s n) := by
  unfold noteSizes
  repeat' first
    | with_reducible assumption
    | simp only [RegsBut.cmp]
    | split

theorem useLoad_regs {W0 : Nat → Prop} {r0 : State} (s : State) (l : Load) (h0 : RegsBut W0 r0 s) :
    RegsBut W0 r0 (useLoad s l) := by
  unfold useLoad
  repeat' first
    | with_reducible assumption
    | simp only [RegsBut.cmp]
    | split

theorem installLoad_regs {W0 : Nat → Prop} {r0 : State} (s : State) (l : Load) (c : Status) (oframe : Nat) (h_pba : ∀ k, W0 (0x38000 + 4 * (k % 64))) (h_QUE_STAT : ∀ i, W0 (R.QUE_STAT i)) (h_QUE_RET : ∀ i, W0 (R.QUE_RET i)) (h0 : RegsBut W0 r0 s) :
    RegsBut W0 r0 (installLoad s l c oframe) := by
  unfold installLoad
  repeat' first
    | with_reducible assumption
    | with_reducible apply cmpDone_regs
    | with_reducible apply useLoad_regs

theorem acceptLoad_regs {W0 : Nat → Prop} {r0 : State} (s : State) (l : Load) (h_pba : ∀ k, W0 (0x38000 + 4 * (k % 64))) (h_QUE_STAT : ∀ i, W0 (R.QUE_STAT i)) (h_QUE_RET : ∀ i, W0 (R.QUE_RET i)) (h0 : RegsBut W0 r0 s) :
    RegsBut W0 r0 (acceptLoad s l) := by
  unfold acceptLoad
  repeat' first
    | with_reducible assumption
    | simp only [RegsBut.cmp]
    | with_reducible apply cmpDone_regs
    | with_reducible apply installLoad_regs
    | with_reducible apply RegsBut.foldl
    | split
    | dsimp only
    | with_reducible intro _

theorem cmpEntry_regs {W0 : Nat → Prop} {r0 : State} (s : State) (it : Item) (host : HostRes) (h_pba : ∀ k, W0 (0x38000 + 4 * (k % 64))) (h_GLB_EVTOVF : W0 R.GLB_EVTOVF) (h_QUE_STAT : ∀ i, W0 (R.QUE_STAT i)) (h_QUE_RET : ∀ i, W0 (R.QUE_RET i)) (h_SRF_TCMISS : W0 R.SRF_TCMISS) (h_CHN_PERR : ∀ i, W0 (R.CHN_PERR i)) (h_DRC_ECCSTAT : W0 R.DRC_ECCSTAT) (h_DRC_UEADDR : W0 R.DRC_UEADDR) (h0 : RegsBut W0 r0 s) :
    RegsBut W0 r0 (cmpEntry s it host) := by
  unfold cmpEntry
  repeat' first
    | with_reducible assumption
    | with_reducible apply areaFetch_regs
    | with_reducible apply cmpDone_regs
    | with_reducible apply acceptLoad_regs
    | with_reducible refine RegsBut.of_snd (by with_reducible assumption) ?_
    | with_reducible refine RegsBut.of_snd2 (by with_reducible assumption) ?_
    | split
    | dsimp only

theorem installDue_regs {W0 : Nat → Prop} {r0 : State} (s : State) (n : Nat) (h_pba : ∀ k, W0 (0x38000 + 4 * (k % 64))) (h_QUE_STAT : ∀ i, W0 (R.QUE_STAT i)) (h_QUE_RET : ∀ i, W0 (R.QUE_RET i)) (h0 : RegsBut W0 r0 s) :
    RegsBut W0 r0 (installDue s n) := by
  unfold installDue
  repeat' first
    | with_reducible assumption
    | simp only [RegsBut.cmp]
    | with_reducible apply installLoad_regs
    | with_reducible apply RegsBut.foldl
    | split
    | dsimp only
    | with_reducible intro _

theorem applyStep_regs {W0 : Nat → Prop} {r0 : State} (s : State) (h_CMP_QSTAT : W0 R.CMP_QSTAT) (h0 : RegsBut W0 r0 s) :
    RegsBut W0 r0 (applyStep s) := by
  unfold applyStep
  repeat' first
    | with_reducible assumption
    | with_reducible exact h_CMP_QSTAT
    | with_reducible apply setF_regs

theorem showNow_regs {W0 : Nat → Prop} {r0 : State} (s : State) (ramps : List (Nat × Ramp)) (n : Nat) (h_CMP_CANNOW : ∀ i, W0 (R.CMP_CANNOW i)) (h_CMP_LNOW : ∀ i, W0 (R.CMP_LNOW i)) (h0 : RegsBut W0 r0 s) :
    RegsBut W0 r0 (showNow s ramps n) := by
  unfold showNow
  repeat' first
    | with_reducible assumption
    | with_reducible exact h_CMP_CANNOW _
    | with_reducible exact h_CMP_LNOW _
    | with_reducible apply setF_regs
    | with_reducible apply RegsBut.foldl
    | split
    | dsimp only
    | with_reducible intro _

theorem rasterStart_regs {W0 : Nat → Prop} {r0 : State} (s : State) (q : QFrame) (cn : Nat) (win : Nat) (h_pba : ∀ k, W0 (0x38000 + 4 * (k % 64))) (h_GLB_YIELDCNT : W0 R.GLB_YIELDCNT) (h_GLB_YIELDLAST : W0 R.GLB_YIELDLAST) (h_GLB_YIELDFRM : W0 R.GLB_YIELDFRM) (h_GLB_EVTOVF : W0 R.GLB_EVTOVF) (h_QUE_STAT : ∀ i, W0 (R.QUE_STAT i)) (h_QUE_RET : ∀ i, W0 (R.QUE_RET i)) (h_SRF_PFSTAT : W0 R.SRF_PFSTAT) (h_SRF_PFLAST : W0 R.SRF_PFLAST) (h_SRF_TCMISS : W0 R.SRF_TCMISS) (h_CMP_QSTAT : W0 R.CMP_QSTAT) (h_CMP_LERR : W0 R.CMP_LERR) (h_CMP_CANNOW : ∀ i, W0 (R.CMP_CANNOW i)) (h_CMP_LNOW : ∀ i, W0 (R.CMP_LNOW i)) (h_CHN_PERR : ∀ i, W0 (R.CHN_PERR i)) (h_DRC_ECCSTAT : W0 R.DRC_ECCSTAT) (h_DRC_UEADDR : W0 R.DRC_UEADDR) (h0 : RegsBut W0 r0 s) :
    RegsBut W0 r0 (rasterStart s q cn win) := by
  unfold rasterStart
  repeat' first
    | with_reducible assumption
    | simp only [RegsBut.cmp]
    | with_reducible exact h_CMP_QSTAT
    | with_reducible apply setF_regs
    | with_reducible apply yield_regs
    | with_reducible apply engineStart_regs
    | with_reducible apply prefetchDue_regs
    | with_reducible apply switchKeys_regs
    | with_reducible apply bindError_regs
    | with_reducible apply queueNeeds_regs
    | with_reducible apply installDue_regs
    | with_reducible apply applyStep_regs
    | with_reducible apply showNow_regs
    | with_reducible apply RegsBut.foldl
    | split
    | dsimp only
    | with_reducible intro _

theorem rasterDeadline_regs {W0 : Nat → Prop} {r0 : State} (s : State) (h_pba : ∀ k, W0 (0x38000 + 4 * (k % 64))) (h_GLB_YIELDCNT : W0 R.GLB_YIELDCNT) (h_GLB_YIELDLAST : W0 R.GLB_YIELDLAST) (h_GLB_YIELDFRM : W0 R.GLB_YIELDFRM) (h_GLB_EVTOVF : W0 R.GLB_EVTOVF) (h_SRF_TCMISS : W0 R.SRF_TCMISS) (h_FRT_USTAT : W0 R.FRT_USTAT) (h_FRT_UFRM : W0 R.FRT_UFRM) (h_CHN_PERR : ∀ i, W0 (R.CHN_PERR i)) (h_DRC_ECCSTAT : W0 R.DRC_ECCSTAT) (h_DRC_UEADDR : W0 R.DRC_UEADDR) (h0 : RegsBut W0 r0 s) :
    RegsBut W0 r0 (rasterDeadline s) := by
  unfold rasterDeadline
  repeat' first
    | with_reducible assumption
    | with_reducible apply underrun_regs
    | split

theorem frameDone_regs {W0 : Nat → Prop} {r0 : State} (s : State) (h_pba : ∀ k, W0 (0x38000 + 4 * (k % 64))) (h_GLB_YIELDCNT : W0 R.GLB_YIELDCNT) (h_GLB_YIELDLAST : W0 R.GLB_YIELDLAST) (h_GLB_YIELDFRM : W0 R.GLB_YIELDFRM) (h_GLB_EVTOVF : W0 R.GLB_EVTOVF) (h_SRF_PFLAST : W0 R.SRF_PFLAST) (h_SRF_TCMISS : W0 R.SRF_TCMISS) (h_CMP_FCLK : W0 R.CMP_FCLK) (h_FRT_USTAT : W0 R.FRT_USTAT) (h_FRT_UFRM : W0 R.FRT_UFRM) (h_CHN_LSTAT : W0 R.CHN_LSTAT) (h_CHN_PERR : ∀ i, W0 (R.CHN_PERR i)) (h_DRC_ECCSTAT : W0 R.DRC_ECCSTAT) (h_DRC_UEADDR : W0 R.DRC_UEADDR) (h0 : RegsBut W0 r0 s) :
    RegsBut W0 r0 (frameDone s) := by
  unfold frameDone
  repeat' first
    | with_reducible assumption
    | simp only [RegsBut.cmp]
    | with_reducible exact h_SRF_PFLAST
    | with_reducible exact h_CMP_FCLK
    | with_reducible exact h_CHN_LSTAT
    | with_reducible apply setF_regs
    | with_reducible apply incSat_regs
    | with_reducible apply drawNat_regs
    | with_reducible apply setTx_regs
    | with_reducible apply flushPorts_regs
    | with_reducible apply engineNote_regs
    | with_reducible apply touchNeeds_regs
    | with_reducible apply crcNote_regs
    | with_reducible apply underrun_regs
    | with_reducible apply rasterDeadline_regs
    | with_reducible apply RegsBut.foldl
    | with_reducible refine RegsBut.of_snd (by with_reducible assumption) ?_
    | with_reducible refine RegsBut.of_snd2 (by with_reducible assumption) ?_
    | split
    | dsimp only
    | with_reducible intro _

theorem stopRaster_regs {W0 : Nat → Prop} {r0 : State} (s : State) (h_pba : ∀ k, W0 (0x38000 + 4 * (k % 64))) (h_GLB_YIELDCNT : W0 R.GLB_YIELDCNT) (h_GLB_YIELDLAST : W0 R.GLB_YIELDLAST) (h_GLB_YIELDFRM : W0 R.GLB_YIELDFRM) (h_GLB_EVTOVF : W0 R.GLB_EVTOVF) (h_SRF_TCMISS : W0 R.SRF_TCMISS) (h_FRT_USTAT : W0 R.FRT_USTAT) (h_FRT_UFRM : W0 R.FRT_UFRM) (h_CHN_PERR : ∀ i, W0 (R.CHN_PERR i)) (h_DRC_ECCSTAT : W0 R.DRC_ECCSTAT) (h_DRC_UEADDR : W0 R.DRC_UEADDR) (h0 : RegsBut W0 r0 s) :
    RegsBut W0 r0 (stopRaster s) := by
  unfold stopRaster
  repeat' first
    | with_reducible assumption
    | with_reducible apply underrun_regs
    | with_reducible apply rasterDeadline_regs
    | split
    | dsimp only

theorem cmpBlockReset_regs {W0 : Nat → Prop} {r0 : State} (s : State) (h_pba : ∀ k, W0 (0x38000 + 4 * (k % 64))) (h_r0xB0000 : ∀ off, 0xB0000 ≤ off → off < 0xC0000 → W0 off) (h_GLB_YIELDCNT : W0 R.GLB_YIELDCNT) (h_GLB_YIELDLAST : W0 R.GLB_YIELDLAST) (h_GLB_YIELDFRM : W0 R.GLB_YIELDFRM) (h_GLB_EVTOVF : W0 R.GLB_EVTOVF) (h_QUE_STAT : ∀ i, W0 (R.QUE_STAT i)) (h_QUE_RET : ∀ i, W0 (R.QUE_RET i)) (h_SRF_STAT : W0 R.SRF_STAT) (h_SRF_FREEPG : W0 R.SRF_FREEPG) (h_SRF_TCMISS : W0 R.SRF_TCMISS) (h_FRT_USTAT : W0 R.FRT_USTAT) (h_FRT_UFRM : W0 R.FRT_UFRM) (h_CHN_PERR : ∀ i, W0 (R.CHN_PERR i)) (h_DRC_ECCSTAT : W0 R.DRC_ECCSTAT) (h_DRC_UEADDR : W0 R.DRC_UEADDR) (h0 : RegsBut W0 r0 s) :
    RegsBut W0 r0 (cmpBlockReset s) := by
  unfold cmpBlockReset
  repeat' first
    | with_reducible assumption
    | simp only [RegsBut.cmp]
    | with_reducible assumption
    | with_reducible apply resetRegs_regs
    | with_reducible apply engineStop_regs
    | with_reducible apply cmpDone_regs
    | with_reducible apply stopRaster_regs
    | with_reducible apply RegsBut.foldl
    | split
    | dsimp only
    | with_reducible intro _

theorem execBookLoad_regs {W0 : Nat → Prop} {r0 : State} (host : HostRes) (s : State) (h_pba : ∀ k, W0 (0x38000 + 4 * (k % 64))) (h_GLB_EVTOVF : W0 R.GLB_EVTOVF) (h_QUE_STAT : ∀ i, W0 (R.QUE_STAT i)) (h_QUE_RET : ∀ i, W0 (R.QUE_RET i)) (h_SOR_TGTSTAT : ∀ i, W0 (R.SOR_TGTSTAT i)) (h_SRF_TCMISS : W0 R.SRF_TCMISS) (h_CHN_PERR : ∀ i, W0 (R.CHN_PERR i)) (h_DRC_ECCSTAT : W0 R.DRC_ECCSTAT) (h_DRC_UEADDR : W0 R.DRC_UEADDR) {t0 : State} (h0 : RegsBut W0 r0 s) (ht : execBookLoad host s = .next t0) :
    RegsBut W0 r0 t0 := by
  unfold execBookLoad at ht
  apply whenOn_regs (ht := ht)
  repeat' first
    | with_reducible assumption
    | with_reducible apply onEntryRead_regs
    | with_reducible apply cmpEntry_regs
    | split
    | dsimp only
    | with_reducible intro _

theorem execCurveLoad_regs {W0 : Nat → Prop} {r0 : State} (host : HostRes) (s : State) (h_pba : ∀ k, W0 (0x38000 + 4 * (k % 64))) (h_GLB_EVTOVF : W0 R.GLB_EVTOVF) (h_QUE_STAT : ∀ i, W0 (R.QUE_STAT i)) (h_QUE_RET : ∀ i, W0 (R.QUE_RET i)) (h_SOR_TGTSTAT : ∀ i, W0 (R.SOR_TGTSTAT i)) (h_SRF_TCMISS : W0 R.SRF_TCMISS) (h_CHN_PERR : ∀ i, W0 (R.CHN_PERR i)) (h_DRC_ECCSTAT : W0 R.DRC_ECCSTAT) (h_DRC_UEADDR : W0 R.DRC_UEADDR) {t0 : State} (h0 : RegsBut W0 r0 s) (ht : execCurveLoad host s = .next t0) :
    RegsBut W0 r0 t0 := by
  unfold execCurveLoad at ht
  apply whenOn_regs (ht := ht)
  repeat' first
    | with_reducible assumption
    | with_reducible apply onEntryRead_regs
    | with_reducible apply cmpEntry_regs
    | split
    | dsimp only
    | with_reducible intro _

theorem execFilterLoad_regs {W0 : Nat → Prop} {r0 : State} (host : HostRes) (s : State) (h_pba : ∀ k, W0 (0x38000 + 4 * (k % 64))) (h_GLB_EVTOVF : W0 R.GLB_EVTOVF) (h_QUE_STAT : ∀ i, W0 (R.QUE_STAT i)) (h_QUE_RET : ∀ i, W0 (R.QUE_RET i)) (h_SOR_TGTSTAT : ∀ i, W0 (R.SOR_TGTSTAT i)) (h_SRF_TCMISS : W0 R.SRF_TCMISS) (h_CHN_PERR : ∀ i, W0 (R.CHN_PERR i)) (h_DRC_ECCSTAT : W0 R.DRC_ECCSTAT) (h_DRC_UEADDR : W0 R.DRC_UEADDR) {t0 : State} (h0 : RegsBut W0 r0 s) (ht : execFilterLoad host s = .next t0) :
    RegsBut W0 r0 t0 := by
  unfold execFilterLoad at ht
  apply whenOn_regs (ht := ht)
  repeat' first
    | with_reducible assumption
    | with_reducible apply onEntryRead_regs
    | with_reducible apply cmpEntry_regs
    | split
    | dsimp only
    | with_reducible intro _

theorem execCmpFrameDone_regs {W0 : Nat → Prop} {r0 : State} (dt : Nat) (s : State) (h_pba : ∀ k, W0 (0x38000 + 4 * (k % 64))) (h_GLB_YIELDCNT : W0 R.GLB_YIELDCNT) (h_GLB_YIELDLAST : W0 R.GLB_YIELDLAST) (h_GLB_YIELDFRM : W0 R.GLB_YIELDFRM) (h_GLB_EVTOVF : W0 R.GLB_EVTOVF) (h_SOR_GSTAT : W0 R.SOR_GSTAT) (h_SRF_PFLAST : W0 R.SRF_PFLAST) (h_SRF_TCMISS : W0 R.SRF_TCMISS) (h_CMP_FCLK : W0 R.CMP_FCLK) (h_FRT_USTAT : W0 R.FRT_USTAT) (h_FRT_UFRM : W0 R.FRT_UFRM) (h_CHN_LSTAT : W0 R.CHN_LSTAT) (h_CHN_PERR : ∀ i, W0 (R.CHN_PERR i)) (h_DRC_ECCSTAT : W0 R.DRC_ECCSTAT) (h_DRC_UEADDR : W0 R.DRC_UEADDR) {t0 : State} (h0 : RegsBut W0 r0 s) (ht : execCmpFrameDone dt s = .next t0) :
    RegsBut W0 r0 t0 := by
  unfold execCmpFrameDone at ht
  apply whenOn_regs (ht := ht)
  repeat' first
    | with_reducible assumption
    | with_reducible apply advance_regs
    | with_reducible apply frameDone_regs
    | split
    | dsimp only
    | with_reducible intro _

end Sys2Proof.Machine
end

