-- ==== Sys2Proof/Laws/RegsFrt.lean ====
section
/-! SUPPORT. Which registers each operation of Machine/Frt.lean may write. -/

namespace Sys2Proof.Machine

theorem dropHold_regs {W0 : Nat → Prop} {r0 : State} (s : State) (h0 : RegsBut W0 r0 s) :
    RegsBut W0 r0 (dropHold s) := by
  unfold dropHold
  repeat' first
    | with_reducible assumption
    | simp only [RegsBut.tan]

theorem installMode_regs {W0 : Nat → Prop} {r0 : State} (s : State) (m : Mode) (h_FRT_PERNS : W0 R.FRT_PERNS) (h_FRT_PERFRAC : W0 R.FRT_PERFRAC) (h_FRT_LAT : W0 R.FRT_LAT) (h_FRT_WIN : W0 R.FRT_WIN) (h_FRT_MARGIN : W0 R.FRT_MARGIN) (h_FRT_EFRAME : W0 R.FRT_EFRAME) (h_FRT_ANCHOR : W0 R.FRT_ANCHOR) (h_FRT_MSTAT : W0 R.FRT_MSTAT) (h0 : RegsBut W0 r0 s) :
    RegsBut W0 r0 (installMode s m) := by
  unfold installMode
  repeat' first
    | with_reducible assumption
    | simp only [RegsBut.frt]
    | with_reducible exact h_FRT_PERNS
    | with_reducible exact h_FRT_PERFRAC
    | with_reducible exact h_FRT_LAT
    | with_reducible exact h_FRT_WIN
    | with_reducible exact h_FRT_MARGIN
    | with_reducible exact h_FRT_EFRAME
    | with_reducible exact h_FRT_ANCHOR
    | with_reducible exact h_FRT_MSTAT
    | with_reducible apply setF_regs
    | with_reducible apply incMod_regs
    | with_reducible apply dropHold_regs

theorem frtDone_regs {W0 : Nat → Prop} {r0 : State} (s : State) (it : Item) (c : Status) (frame : Nat) (t : Nat) (dead : Bool) (h_pba : ∀ k, W0 (0x38000 + 4 * (k % 64))) (h_QUE_STAT : ∀ i, W0 (R.QUE_STAT i)) (h_QUE_RET : ∀ i, W0 (R.QUE_RET i)) (h0 : RegsBut W0 r0 s) :
    RegsBut W0 r0 (frtDone s it c frame t dead) := by
  unfold frtDone
  repeat' first
    | with_reducible assumption
    | with_reducible apply complete40_regs

theorem sendMode_regs {W0 : Nat → Prop} {r0 : State} (s : State) (aframe : Nat) (capply : Nat) (m : Mode) (h0 : RegsBut W0 r0 s) :
    RegsBut W0 r0 (sendMode s aframe capply m) := by
  unfold sendMode
  repeat' first
    | with_reducible assumption
    | with_reducible apply newLid_regs
    | with_reducible apply sendLetter_regs

theorem applyValues_regs {W0 : Nat → Prop} {r0 : State} (s : State) (vals : List (Nat × Word)) (last : Nat) (f0 : Option Nat) (h0 : RegsBut W0 r0 s) :
    RegsBut W0 r0 (applyValues s vals last f0) := by
  unfold applyValues
  repeat' first
    | with_reducible assumption
    | simp only [RegsBut.cmp]

theorem applyArmed_regs {W0 : Nat → Prop} {r0 : State} (s : State) (last : Nat) (f0 : Option Nat) (oframe : Nat) (tlatch : Nat) (h_pba : ∀ k, W0 (0x38000 + 4 * (k % 64))) (h_QUE_STAT : ∀ i, W0 (R.QUE_STAT i)) (h_QUE_RET : ∀ i, W0 (R.QUE_RET i)) (h_FRT_COMMIT : W0 R.FRT_COMMIT) (h0 : RegsBut W0 r0 s) :
    RegsBut W0 r0 (applyArmed s last f0 oframe tlatch) := by
  unfold applyArmed
  repeat' first
    | with_reducible assumption
    | simp only [RegsBut.cmp_frt]
    | with_reducible exact h_FRT_COMMIT
    | with_reducible apply setF_regs
    | with_reducible apply frtDone_regs
    | with_reducible apply applyValues_regs
    | with_reducible apply RegsBut.foldl
    | split
    | dsimp only
    | with_reducible intro _

theorem latchNext_regs {W0 : Nat → Prop} {r0 : State} (s : State) (m : Mode) (needs : List (Nat × Nat)) (h_pba : ∀ k, W0 (0x38000 + 4 * (k % 64))) (h_GLB_EVTOVF : W0 R.GLB_EVTOVF) (h_QUE_STAT : ∀ i, W0 (R.QUE_STAT i)) (h_QUE_RET : ∀ i, W0 (R.QUE_RET i)) (h_SRF_PFSTAT : W0 R.SRF_PFSTAT) (h_SRF_PFLAST : W0 R.SRF_PFLAST) (h_SRF_TCMISS : W0 R.SRF_TCMISS) (h_FRT_COMMIT : W0 R.FRT_COMMIT) (h_FRT_NEXTLAT : W0 R.FRT_NEXTLAT) (h_CHN_PERR : ∀ i, W0 (R.CHN_PERR i)) (h_DRC_ECCSTAT : W0 R.DRC_ECCSTAT) (h_DRC_UEADDR : W0 R.DRC_UEADDR) (h0 : RegsBut W0 r0 s) :
    RegsBut W0 r0 (latchNext s m needs) := by
  unfold latchNext
  repeat' first
    | with_reducible assumption
    | simp only [RegsBut.cmp, RegsBut.cmp_frt, RegsBut.frt]
    | with_reducible exact h_FRT_NEXTLAT
    | with_reducible apply setF_regs
    | with_reducible apply engineQueue_regs
    | with_reducible apply prefetchDue_regs
    | with_reducible apply queueNeeds_regs
    | with_reducible apply noteSizes_regs
    | with_reducible apply applyArmed_regs
    | split

theorem latchInstant_regs {W0 : Nat → Prop} {r0 : State} (s : State) (needs : List (Nat × Nat)) (h_pba : ∀ k, W0 (0x38000 + 4 * (k % 64))) (h_GLB_EVTOVF : W0 R.GLB_EVTOVF) (h_QUE_STAT : ∀ i, W0 (R.QUE_STAT i)) (h_QUE_RET : ∀ i, W0 (R.QUE_RET i)) (h_SRF_PFSTAT : W0 R.SRF_PFSTAT) (h_SRF_PFLAST : W0 R.SRF_PFLAST) (h_SRF_TCMISS : W0 R.SRF_TCMISS) (h_FRT_COMMIT : W0 R.FRT_COMMIT) (h_FRT_NEXTLAT : W0 R.FRT_NEXTLAT) (h_CHN_PERR : ∀ i, W0 (R.CHN_PERR i)) (h_DRC_ECCSTAT : W0 R.DRC_ECCSTAT) (h_DRC_UEADDR : W0 R.DRC_UEADDR) (h0 : RegsBut W0 r0 s) :
    RegsBut W0 r0 (latchInstant s needs) := by
  unfold latchInstant
  repeat' first
    | with_reducible assumption
    | with_reducible apply latchNext_regs
    | split

theorem latchThrough_regs {W0 : Nat → Prop} {r0 : State} (m : Mode) (n : Nat) (h_pba : ∀ k, W0 (0x38000 + 4 * (k % 64))) (h_GLB_EVTOVF : W0 R.GLB_EVTOVF) (h_QUE_STAT : ∀ i, W0 (R.QUE_STAT i)) (h_QUE_RET : ∀ i, W0 (R.QUE_RET i)) (h_SRF_PFSTAT : W0 R.SRF_PFSTAT) (h_SRF_PFLAST : W0 R.SRF_PFLAST) (h_SRF_TCMISS : W0 R.SRF_TCMISS) (h_FRT_COMMIT : W0 R.FRT_COMMIT) (h_FRT_NEXTLAT : W0 R.FRT_NEXTLAT) (h_CHN_PERR : ∀ i, W0 (R.CHN_PERR i)) (h_DRC_ECCSTAT : W0 R.DRC_ECCSTAT) (h_DRC_UEADDR : W0 R.DRC_UEADDR) (y0 : Nat) (y1 : State)
    (h0 : RegsBut W0 r0 y1) :
    RegsBut W0 r0 (latchThrough m n y0 y1) := by
  induction y0 generalizing y1 m n with
  | zero =>
    unfold latchThrough
    repeat' first
      | with_reducible assumption
  | succ y0 ih =>
    unfold latchThrough
    repeat' first
      | with_reducible assumption
      | with_reducible apply ih
      | with_reducible apply latchNext_regs
      | split

theorem latchOverdue_regs {W0 : Nat → Prop} {r0 : State} (h_pba : ∀ k, W0 (0x38000 + 4 * (k % 64))) (h_GLB_EVTOVF : W0 R.GLB_EVTOVF) (h_QUE_STAT : ∀ i, W0 (R.QUE_STAT i)) (h_QUE_RET : ∀ i, W0 (R.QUE_RET i)) (h_SRF_PFSTAT : W0 R.SRF_PFSTAT) (h_SRF_PFLAST : W0 R.SRF_PFLAST) (h_SRF_TCMISS : W0 R.SRF_TCMISS) (h_FRT_COMMIT : W0 R.FRT_COMMIT) (h_FRT_NEXTLAT : W0 R.FRT_NEXTLAT) (h_CHN_PERR : ∀ i, W0 (R.CHN_PERR i)) (h_DRC_ECCSTAT : W0 R.DRC_ECCSTAT) (h_DRC_UEADDR : W0 R.DRC_UEADDR) (y0 : Nat) (y1 : State)
    (h0 : RegsBut W0 r0 y1) :
    RegsBut W0 r0 (latchOverdue y0 y1) := by
  induction y0 generalizing y1 with
  | zero =>
    unfold latchOverdue
    repeat' first
      | with_reducible assumption
  | succ y0 ih =>
    unfold latchOverdue
    repeat' first
      | with_reducible assumption
      | with_reducible apply ih
      | with_reducible apply latchNext_regs
      | split

theorem commit_regs {W0 : Nat → Prop} {r0 : State} (s : State) (it : Option Item) (h_pba : ∀ k, W0 (0x38000 + 4 * (k % 64))) (h_GLB_EVTOVF : W0 R.GLB_EVTOVF) (h_QUE_STAT : ∀ i, W0 (R.QUE_STAT i)) (h_QUE_RET : ∀ i, W0 (R.QUE_RET i)) (h_SRF_PFSTAT : W0 R.SRF_PFSTAT) (h_SRF_PFLAST : W0 R.SRF_PFLAST) (h_SRF_TCMISS : W0 R.SRF_TCMISS) (h_FRT_COMMIT : W0 R.FRT_COMMIT) (h_FRT_NEXTLAT : W0 R.FRT_NEXTLAT) (h_CHN_PERR : ∀ i, W0 (R.CHN_PERR i)) (h_DRC_ECCSTAT : W0 R.DRC_ECCSTAT) (h_DRC_UEADDR : W0 R.DRC_UEADDR) (h0 : RegsBut W0 r0 s) :
    RegsBut W0 r0 (commit s it) := by
  unfold commit
  repeat' first
    | with_reducible assumption
    | simp only [RegsBut.cmp, RegsBut.cmp_frt]
    | with_reducible exact h_FRT_COMMIT
    | with_reducible apply setF_regs
    | with_reducible apply frtDone_regs
    | with_reducible apply applyValues_regs
    | with_reducible apply latchOverdue_regs
    | with_reducible apply RegsBut.foldl
    | split

theorem sendBeacon_regs {W0 : Nat → Prop} {r0 : State} (s : State) (h0 : RegsBut W0 r0 s) :
    RegsBut W0 r0 (sendBeacon s) := by
  unfold sendBeacon
  repeat' first
    | with_reducible assumption
    | simp only [RegsBut.chn]
    | with_reducible apply sendNow_regs
    | split

theorem drainPorts_regs {W0 : Nat → Prop} {r0 : State} (s : State) (slots : List Nat) (h0 : RegsBut W0 r0 s) :
    RegsBut W0 r0 (drainPorts s slots) := by
  unfold drainPorts
  repeat' first
    | with_reducible assumption
    | with_reducible apply txRun_regs
    | with_reducible apply RegsBut.foldl
    | split
    | dsimp only
    | with_reducible intro _

theorem closeFrame_regs {W0 : Nat → Prop} {r0 : State} (s : State) (h_pba : ∀ k, W0 (0x38000 + 4 * (k % 64))) (h_GLB_YIELDCNT : W0 R.GLB_YIELDCNT) (h_GLB_YIELDLAST : W0 R.GLB_YIELDLAST) (h_GLB_YIELDFRM : W0 R.GLB_YIELDFRM) (h_GLB_EVTOVF : W0 R.GLB_EVTOVF) (h_SRF_TCMISS : W0 R.SRF_TCMISS) (h_FRT_USTAT : W0 R.FRT_USTAT) (h_FRT_UFRM : W0 R.FRT_UFRM) (h_CHN_PERR : ∀ i, W0 (R.CHN_PERR i)) (h_DRC_ECCSTAT : W0 R.DRC_ECCSTAT) (h_DRC_UEADDR : W0 R.DRC_UEADDR) (h0 : RegsBut W0 r0 s) :
    RegsBut W0 r0 (closeFrame s) := by
  unfold closeFrame
  repeat' first
    | with_reducible assumption
    | with_reducible apply underrun_regs
    | split

theorem modeAtCadence_regs {W0 : Nat → Prop} {r0 : State} (s : State) (n : Nat) (cn : Int) (h_pba : ∀ k, W0 (0x38000 + 4 * (k % 64))) (h_QUE_STAT : ∀ i, W0 (R.QUE_STAT i)) (h_QUE_RET : ∀ i, W0 (R.QUE_RET i)) (h_FRT_PERNS : W0 R.FRT_PERNS) (h_FRT_PERFRAC : W0 R.FRT_PERFRAC) (h_FRT_LAT : W0 R.FRT_LAT) (h_FRT_WIN : W0 R.FRT_WIN) (h_FRT_MARGIN : W0 R.FRT_MARGIN) (h_FRT_EFRAME : W0 R.FRT_EFRAME) (h_FRT_ANCHOR : W0 R.FRT_ANCHOR) (h_FRT_MSTAT : W0 R.FRT_MSTAT) (h_TIM_PGCFG : ∀ i, W0 (R.TIM_PGCFG i)) (h_TIM_PGSTART : ∀ i, W0 (R.TIM_PGSTART i)) (h_TIM_PGPER : ∀ i, W0 (R.TIM_PGPER i)) (h_TIM_PGPERF : ∀ i, W0 (R.TIM_PGPERF i)) (h_TIM_PGNEXT : ∀ i, W0 (R.TIM_PGNEXT i)) (h0 : RegsBut W0 r0 s) :
    RegsBut W0 r0 (modeAtCadence s n cn) := by
  unfold modeAtCadence
  repeat' first
    | with_reducible assumption
    | simp only [RegsBut.frt]
    | with_reducible exact h_FRT_MSTAT
    | with_reducible apply setF_regs
    | with_reducible apply genProgram_regs
    | with_reducible apply installMode_regs
    | with_reducible apply frtDone_regs
    | split

theorem dropQueued_regs {W0 : Nat → Prop} {r0 : State} (s : State) (n : Nat) (h_pba : ∀ k, W0 (0x38000 + 4 * (k % 64))) (h_QUE_STAT : ∀ i, W0 (R.QUE_STAT i)) (h_QUE_RET : ∀ i, W0 (R.QUE_RET i)) (h_SRF_STAT : W0 R.SRF_STAT) (h_SRF_FREEPG : W0 R.SRF_FREEPG) (h0 : RegsBut W0 r0 s) :
    RegsBut W0 r0 (dropQueued s n) := by
  unfold dropQueued
  repeat' first
    | with_reducible assumption
    | simp only [RegsBut.frt]
    | with_reducible apply sweepPend_regs
    | with_reducible apply forgetFrame_regs
    | with_reducible apply RegsBut.foldl
    | split
    | dsimp only
    | with_reducible intro _

theorem frameStart_regs {W0 : Nat → Prop} {r0 : State} (s : State) (h0 : RegsBut W0 r0 s) :
    RegsBut W0 r0 (frameStart s) := by
  unfold frameStart
  repeat' first
    | with_reducible assumption
    | simp only [RegsBut.lnk]
    | with_reducible apply emitAll_regs

theorem startRaster_regs {W0 : Nat → Prop} {r0 : State} (s : State) (m : Mode) (n : Nat) (cn : Int) (tr : Bool) (h_pba : ∀ k, W0 (0x38000 + 4 * (k % 64))) (h_GLB_YIELDCNT : W0 R.GLB_YIELDCNT) (h_GLB_YIELDLAST : W0 R.GLB_YIELDLAST) (h_GLB_YIELDFRM : W0 R.GLB_YIELDFRM) (h_GLB_EVTOVF : W0 R.GLB_EVTOVF) (h_QUE_STAT : ∀ i, W0 (R.QUE_STAT i)) (h_QUE_RET : ∀ i, W0 (R.QUE_RET i)) (h_SRF_STAT : W0 R.SRF_STAT) (h_SRF_FREEPG : W0 R.SRF_FREEPG) (h_SRF_PFSTAT : W0 R.SRF_PFSTAT) (h_SRF_PFLAST : W0 R.SRF_PFLAST) (h_SRF_TCMISS : W0 R.SRF_TCMISS) (h_CMP_QSTAT : W0 R.CMP_QSTAT) (h_CMP_LERR : W0 R.CMP_LERR) (h_CMP_CANNOW : ∀ i, W0 (R.CMP_CANNOW i)) (h_CMP_LNOW : ∀ i, W0 (R.CMP_LNOW i)) (h_CHN_PERR : ∀ i, W0 (R.CHN_PERR i)) (h_DRC_ECCSTAT : W0 R.DRC_ECCSTAT) (h_DRC_UEADDR : W0 R.DRC_UEADDR) (h0 : RegsBut W0 r0 s) :
    RegsBut W0 r0 (startRaster s m n cn tr) := by
  unfold startRaster
  repeat' first
    | with_reducible assumption
    | simp only [RegsBut.cmp_frt]
    | with_reducible apply rasterStart_regs
    | with_reducible apply dropQueued_regs
    | split

theorem senderCadence_regs {W0 : Nat → Prop} {r0 : State} (s : State) (slots : List Nat) (h_pba : ∀ k, W0 (0x38000 + 4 * (k % 64))) (h_GLB_YIELDCNT : W0 R.GLB_YIELDCNT) (h_GLB_YIELDLAST : W0 R.GLB_YIELDLAST) (h_GLB_YIELDFRM : W0 R.GLB_YIELDFRM) (h_GLB_EVTOVF : W0 R.GLB_EVTOVF) (h_QUE_STAT : ∀ i, W0 (R.QUE_STAT i)) (h_QUE_RET : ∀ i, W0 (R.QUE_RET i)) (h_SRF_STAT : W0 R.SRF_STAT) (h_SRF_FREEPG : W0 R.SRF_FREEPG) (h_SRF_PFSTAT : W0 R.SRF_PFSTAT) (h_SRF_PFLAST : W0 R.SRF_PFLAST) (h_SRF_TCMISS : W0 R.SRF_TCMISS) (h_CMP_QSTAT : W0 R.CMP_QSTAT) (h_CMP_LERR : W0 R.CMP_LERR) (h_CMP_CANNOW : ∀ i, W0 (R.CMP_CANNOW i)) (h_CMP_LNOW : ∀ i, W0 (R.CMP_LNOW i)) (h_FRT_COMMIT : W0 R.FRT_COMMIT) (h_FRT_FRAME : W0 R.FRT_FRAME) (h_FRT_NEXTLAT : W0 R.FRT_NEXTLAT) (h_FRT_PERNS : W0 R.FRT_PERNS) (h_FRT_PERFRAC : W0 R.FRT_PERFRAC) (h_FRT_LAT : W0 R.FRT_LAT) (h_FRT_WIN : W0 R.FRT_WIN) (h_FRT_MARGIN : W0 R.FRT_MARGIN) (h_FRT_EFRAME : W0 R.FRT_EFRAME) (h_FRT_ANCHOR : W0 R.FRT_ANCHOR) (h_FRT_MSTAT : W0 R.FRT_MSTAT) (h_FRT_USTAT : W0 R.FRT_USTAT) (h_FRT_UFRM : W0 R.FRT_UFRM) (h_CHN_PERR : ∀ i, W0 (R.CHN_PERR i)) (h_TIM_PGCFG : ∀ i, W0 (R.TIM_PGCFG i)) (h_TIM_PGSTART : ∀ i, W0 (R.TIM_PGSTART i)) (h_TIM_PGPER : ∀ i, W0 (R.TIM_PGPER i)) (h_TIM_PGPERF : ∀ i, W0 (R.TIM_PGPERF i)) (h_TIM_PGSTAT : ∀ i, W0 (R.TIM_PGSTAT i)) (h_TIM_PGNEXT : ∀ i, W0 (R.TIM_PGNEXT i)) (h_DRC_ECCSTAT : W0 R.DRC_ECCSTAT) (h_DRC_UEADDR : W0 R.DRC_UEADDR) (h0 : RegsBut W0 r0 s) :
    RegsBut W0 r0 (senderCadence s slots) := by
  unfold senderCadence
  repeat' first
    | with_reducible assumption
    | with_reducible exact h_FRT_FRAME
    | with_reducible apply setF_regs
    | with_reducible apply genFire_regs
    | with_reducible apply syncPulse_regs
    | with_reducible apply crcNote_regs
    | with_reducible apply latchThrough_regs
    | with_reducible apply sendBeacon_regs
    | with_reducible apply drainPorts_regs
    | with_reducible apply closeFrame_regs
    | with_reducible apply modeAtCadence_regs
    | with_reducible apply frameStart_regs
    | with_reducible apply startRaster_regs
    | split
    | dsimp only

theorem latePageStep_regs {W0 : Nat → Prop} {r0 : State} (s : State) (h_pba : ∀ k, W0 (0x38000 + 4 * (k % 64))) (h_GLB_YIELDCNT : W0 R.GLB_YIELDCNT) (h_GLB_YIELDLAST : W0 R.GLB_YIELDLAST) (h_GLB_YIELDFRM : W0 R.GLB_YIELDFRM) (h_GLB_EVTOVF : W0 R.GLB_EVTOVF) (h_SRF_PFSTAT : W0 R.SRF_PFSTAT) (h_SRF_PFLAST : W0 R.SRF_PFLAST) (h_SRF_PFFRM : W0 R.SRF_PFFRM) (h_SRF_TCMISS : W0 R.SRF_TCMISS) (h_FRT_USTAT : W0 R.FRT_USTAT) (h_FRT_UFRM : W0 R.FRT_UFRM) (h_CHN_PERR : ∀ i, W0 (R.CHN_PERR i)) (h_DRC_ECCSTAT : W0 R.DRC_ECCSTAT) (h_DRC_UEADDR : W0 R.DRC_UEADDR) (h0 : RegsBut W0 r0 s) :
    RegsBut W0 r0 (latePageStep s) := by
  unfold latePageStep
  repeat' first
    | with_reducible assumption
    | with_reducible apply recordLate_regs
    | with_reducible apply underrun_regs
    | split
    | dsimp only

theorem armMove_regs {W0 : Nat → Prop} {r0 : State} (s : State) (h_pba : ∀ k, W0 (0x38000 + 4 * (k % 64))) (h_GLB_YIELDCNT : W0 R.GLB_YIELDCNT) (h_GLB_YIELDLAST : W0 R.GLB_YIELDLAST) (h_GLB_YIELDFRM : W0 R.GLB_YIELDFRM) (h_GLB_EVTOVF : W0 R.GLB_EVTOVF) (h_CHN_PERR : ∀ i, W0 (R.CHN_PERR i)) (h_UPD_AFRAME : W0 R.UPD_AFRAME) (h0 : RegsBut W0 r0 s) :
    RegsBut W0 r0 (armMove s) := by
  unfold armMove
  repeat' first
    | with_reducible assumption
    | simp only [RegsBut.upd]
    | with_reducible exact h_UPD_AFRAME
    | with_reducible apply setF_regs
    | with_reducible apply yield_regs
    | split

theorem acceptMode_regs {W0 : Nat → Prop} {r0 : State} (s : State) (it : Item) (h_pba : ∀ k, W0 (0x38000 + 4 * (k % 64))) (h_GLB_YIELDCNT : W0 R.GLB_YIELDCNT) (h_GLB_YIELDLAST : W0 R.GLB_YIELDLAST) (h_GLB_YIELDFRM : W0 R.GLB_YIELDFRM) (h_GLB_EVTOVF : W0 R.GLB_EVTOVF) (h_QUE_STAT : ∀ i, W0 (R.QUE_STAT i)) (h_QUE_RET : ∀ i, W0 (R.QUE_RET i)) (h_FRT_PERNS : W0 R.FRT_PERNS) (h_FRT_PERFRAC : W0 R.FRT_PERFRAC) (h_FRT_LAT : W0 R.FRT_LAT) (h_FRT_WIN : W0 R.FRT_WIN) (h_FRT_MARGIN : W0 R.FRT_MARGIN) (h_FRT_EFRAME : W0 R.FRT_EFRAME) (h_FRT_ANCHOR : W0 R.FRT_ANCHOR) (h_FRT_MSTAT : W0 R.FRT_MSTAT) (h_CHN_PERR : ∀ i, W0 (R.CHN_PERR i)) (h_UPD_AFRAME : W0 R.UPD_AFRAME) (h0 : RegsBut W0 r0 s) :
    RegsBut W0 r0 (acceptMode s it) := by
  unfold acceptMode
  repeat' first
    | with_reducible assumption
    | simp only [RegsBut.frt]
    | with_reducible exact h_FRT_MSTAT
    | with_reducible apply setF_regs
    | with_reducible apply installMode_regs
    | with_reducible apply frtDone_regs
    | with_reducible apply sendMode_regs
    | with_reducible apply armMove_regs
    | split

theorem frtEntry_regs {W0 : Nat → Prop} {r0 : State} (s : State) (it : Item) (h_pba : ∀ k, W0 (0x38000 + 4 * (k % 64))) (h_GLB_YIELDCNT : W0 R.GLB_YIELDCNT) (h_GLB_YIELDLAST : W0 R.GLB_YIELDLAST) (h_GLB_YIELDFRM : W0 R.GLB_YIELDFRM) (h_GLB_EVTOVF : W0 R.GLB_EVTOVF) (h_QUE_STAT : ∀ i, W0 (R.QUE_STAT i)) (h_QUE_RET : ∀ i, W0 (R.QUE_RET i)) (h_SRF_PFSTAT : W0 R.SRF_PFSTAT) (h_SRF_PFLAST : W0 R.SRF_PFLAST) (h_SRF_TCMISS : W0 R.SRF_TCMISS) (h_FRT_COMMIT : W0 R.FRT_COMMIT) (h_FRT_NEXTLAT : W0 R.FRT_NEXTLAT) (h_FRT_PERNS : W0 R.FRT_PERNS) (h_FRT_PERFRAC : W0 R.FRT_PERFRAC) (h_FRT_LAT : W0 R.FRT_LAT) (h_FRT_WIN : W0 R.FRT_WIN) (h_FRT_MARGIN : W0 R.FRT_MARGIN) (h_FRT_EFRAME : W0 R.FRT_EFRAME) (h_FRT_ANCHOR : W0 R.FRT_ANCHOR) (h_FRT_MSTAT : W0 R.FRT_MSTAT) (h_CHN_PERR : ∀ i, W0 (R.CHN_PERR i)) (h_DRC_ECCSTAT : W0 R.DRC_ECCSTAT) (h_DRC_UEADDR : W0 R.DRC_UEADDR) (h_UPD_AFRAME : W0 R.UPD_AFRAME) (h0 : RegsBut W0 r0 s) :
    RegsBut W0 r0 (frtEntry s it) := by
  unfold frtEntry
  repeat' first
    | with_reducible assumption
    | with_reducible apply frtDone_regs
    | with_reducible apply commit_regs
    | with_reducible apply acceptMode_regs
    | split

theorem frtEnable_regs {W0 : Nat → Prop} {r0 : State} (s : State) (h_FRT_CTL : W0 R.FRT_CTL) (h_FRT_NEXTLAT : W0 R.FRT_NEXTLAT) (h_TIM_PGCFG : ∀ i, W0 (R.TIM_PGCFG i)) (h_TIM_PGSTART : ∀ i, W0 (R.TIM_PGSTART i)) (h_TIM_PGPER : ∀ i, W0 (R.TIM_PGPER i)) (h_TIM_PGPERF : ∀ i, W0 (R.TIM_PGPERF i)) (h_TIM_PGSTAT : ∀ i, W0 (R.TIM_PGSTAT i)) (h_TIM_PGNEXT : ∀ i, W0 (R.TIM_PGNEXT i)) (h0 : RegsBut W0 r0 s) :
    RegsBut W0 r0 (frtEnable s) := by
  unfold frtEnable
  repeat' first
    | with_reducible assumption
    | simp only [RegsBut.frt]
    | with_reducible exact h_FRT_CTL
    | with_reducible exact h_FRT_NEXTLAT
    | with_reducible apply setF_regs
    | with_reducible apply genProgram_regs
    | with_reducible apply genTake_regs
    | with_reducible apply sendMode_regs
    | split

theorem frtDisable_regs {W0 : Nat → Prop} {r0 : State} (s : State) (h_pba : ∀ k, W0 (0x38000 + 4 * (k % 64))) (h_QUE_STAT : ∀ i, W0 (R.QUE_STAT i)) (h_QUE_RET : ∀ i, W0 (R.QUE_RET i)) (h_SRF_STAT : W0 R.SRF_STAT) (h_SRF_FREEPG : W0 R.SRF_FREEPG) (h_FRT_CTL : W0 R.FRT_CTL) (h_FRT_COMMIT : W0 R.FRT_COMMIT) (h_FRT_PERNS : W0 R.FRT_PERNS) (h_FRT_PERFRAC : W0 R.FRT_PERFRAC) (h_FRT_LAT : W0 R.FRT_LAT) (h_FRT_WIN : W0 R.FRT_WIN) (h_FRT_MARGIN : W0 R.FRT_MARGIN) (h_FRT_EFRAME : W0 R.FRT_EFRAME) (h_FRT_ANCHOR : W0 R.FRT_ANCHOR) (h_FRT_MSTAT : W0 R.FRT_MSTAT) (h_TIM_PGCFG : ∀ i, W0 (R.TIM_PGCFG i)) (h_TIM_PGNEXT : ∀ i, W0 (R.TIM_PGNEXT i)) (h0 : RegsBut W0 r0 s) :
    RegsBut W0 r0 (frtDisable s) := by
  unfold frtDisable
  repeat' first
    | with_reducible assumption
    | simp only [RegsBut.frt]
    | with_reducible exact h_FRT_CTL
    | with_reducible exact h_FRT_MSTAT
    | with_reducible apply setF_regs
    | with_reducible apply flushPorts_regs
    | with_reducible apply engineStop_regs
    | with_reducible apply genRelease_regs
    | with_reducible apply dropHold_regs
    | with_reducible apply installMode_regs
    | with_reducible apply frtDone_regs
    | with_reducible apply applyArmed_regs
    | split

theorem frtBlockReset_regs {W0 : Nat → Prop} {r0 : State} (s : State) (h_pba : ∀ k, W0 (0x38000 + 4 * (k % 64))) (h_r0xC0000 : ∀ off, 0xC0000 ≤ off → off < 0xD0000 → W0 off) (h_GLB_YIELDCNT : W0 R.GLB_YIELDCNT) (h_GLB_YIELDLAST : W0 R.GLB_YIELDLAST) (h_GLB_YIELDFRM : W0 R.GLB_YIELDFRM) (h_GLB_EVTOVF : W0 R.GLB_EVTOVF) (h_QUE_STAT : ∀ i, W0 (R.QUE_STAT i)) (h_QUE_RET : ∀ i, W0 (R.QUE_RET i)) (h_SRF_STAT : W0 R.SRF_STAT) (h_SRF_FREEPG : W0 R.SRF_FREEPG) (h_SRF_TCMISS : W0 R.SRF_TCMISS) (h_FRT_USTAT : W0 R.FRT_USTAT) (h_FRT_UFRM : W0 R.FRT_UFRM) (h_CHN_PERR : ∀ i, W0 (R.CHN_PERR i)) (h_TIM_PGCFG : ∀ i, W0 (R.TIM_PGCFG i)) (h_TIM_PGNEXT : ∀ i, W0 (R.TIM_PGNEXT i)) (h_DRC_ECCSTAT : W0 R.DRC_ECCSTAT) (h_DRC_UEADDR : W0 R.DRC_UEADDR) (h0 : RegsBut W0 r0 s) :
    RegsBut W0 r0 (frtBlockReset s) := by
  unfold frtBlockReset
  repeat' first
    | with_reducible assumption
    | simp only [RegsBut.cmp_frt]
    | with_reducible assumption
    | with_reducible apply resetRegs_regs
    | with_reducible apply flushPorts_regs
    | with_reducible apply engineStop_regs
    | with_reducible apply genRelease_regs
    | with_reducible apply stopRaster_regs
    | with_reducible apply dropHold_regs
    | with_reducible apply frtDone_regs
    | with_reducible apply RegsBut.foldl
    | split
    | dsimp only
    | with_reducible intro _

theorem execLatePage_regs {W0 : Nat → Prop} {r0 : State} (dt : Nat) (s : State) (h_pba : ∀ k, W0 (0x38000 + 4 * (k % 64))) (h_GLB_YIELDCNT : W0 R.GLB_YIELDCNT) (h_GLB_YIELDLAST : W0 R.GLB_YIELDLAST) (h_GLB_YIELDFRM : W0 R.GLB_YIELDFRM) (h_GLB_EVTOVF : W0 R.GLB_EVTOVF) (h_SOR_GSTAT : W0 R.SOR_GSTAT) (h_SRF_PFSTAT : W0 R.SRF_PFSTAT) (h_SRF_PFLAST : W0 R.SRF_PFLAST) (h_SRF_PFFRM : W0 R.SRF_PFFRM) (h_SRF_TCMISS : W0 R.SRF_TCMISS) (h_FRT_USTAT : W0 R.FRT_USTAT) (h_FRT_UFRM : W0 R.FRT_UFRM) (h_CHN_PERR : ∀ i, W0 (R.CHN_PERR i)) (h_DRC_ECCSTAT : W0 R.DRC_ECCSTAT) (h_DRC_UEADDR : W0 R.DRC_UEADDR) {t0 : State} (h0 : RegsBut W0 r0 s) (ht : execLatePage dt s = .next t0) :
    RegsBut W0 r0 t0 := by
  unfold execLatePage at ht
  apply whenOn_regs (ht := ht)
  repeat' first
    | with_reducible assumption
    | with_reducible apply advance_regs
    | with_reducible apply latePageStep_regs
    | split
    | dsimp only
    | with_reducible intro _

theorem execRasterDeadline_regs {W0 : Nat → Prop} {r0 : State} (dt : Nat) (s : State) (h_pba : ∀ k, W0 (0x38000 + 4 * (k % 64))) (h_GLB_YIELDCNT : W0 R.GLB_YIELDCNT) (h_GLB_YIELDLAST : W0 R.GLB_YIELDLAST) (h_GLB_YIELDFRM : W0 R.GLB_YIELDFRM) (h_GLB_EVTOVF : W0 R.GLB_EVTOVF) (h_SOR_GSTAT : W0 R.SOR_GSTAT) (h_SRF_TCMISS : W0 R.SRF_TCMISS) (h_FRT_USTAT : W0 R.FRT_USTAT) (h_FRT_UFRM : W0 R.FRT_UFRM) (h_CHN_PERR : ∀ i, W0 (R.CHN_PERR i)) (h_DRC_ECCSTAT : W0 R.DRC_ECCSTAT) (h_DRC_UEADDR : W0 R.DRC_UEADDR) {t0 : State} (h0 : RegsBut W0 r0 s) (ht : execRasterDeadline dt s = .next t0) :
    RegsBut W0 r0 t0 := by
  unfold execRasterDeadline at ht
  apply whenOn_regs (ht := ht)
  repeat' first
    | with_reducible assumption
    | with_reducible apply advance_regs
    | with_reducible apply rasterDeadline_regs
    | split
    | dsimp only
    | with_reducible intro _

theorem execLatchInstant_regs {W0 : Nat → Prop} {r0 : State} (dt : Nat) (needs : List (Nat × Nat)) (s : State) (h_pba : ∀ k, W0 (0x38000 + 4 * (k % 64))) (h_GLB_EVTOVF : W0 R.GLB_EVTOVF) (h_QUE_STAT : ∀ i, W0 (R.QUE_STAT i)) (h_QUE_RET : ∀ i, W0 (R.QUE_RET i)) (h_SOR_GSTAT : W0 R.SOR_GSTAT) (h_SRF_PFSTAT : W0 R.SRF_PFSTAT) (h_SRF_PFLAST : W0 R.SRF_PFLAST) (h_SRF_TCMISS : W0 R.SRF_TCMISS) (h_FRT_COMMIT : W0 R.FRT_COMMIT) (h_FRT_NEXTLAT : W0 R.FRT_NEXTLAT) (h_CHN_PERR : ∀ i, W0 (R.CHN_PERR i)) (h_DRC_ECCSTAT : W0 R.DRC_ECCSTAT) (h_DRC_UEADDR : W0 R.DRC_UEADDR) {t0 : State} (h0 : RegsBut W0 r0 s) (ht : execLatchInstant dt needs s = .next t0) :
    RegsBut W0 r0 t0 := by
  unfold execLatchInstant at ht
  apply whenOn_regs (ht := ht)
  repeat' first
    | with_reducible assumption
    | with_reducible apply advance_regs
    | with_reducible apply latchInstant_regs
    | split
    | dsimp only
    | with_reducible intro _

theorem execCommitEntry_regs {W0 : Nat → Prop} {r0 : State} (s : State) (h_pba : ∀ k, W0 (0x38000 + 4 * (k % 64))) (h_GLB_YIELDCNT : W0 R.GLB_YIELDCNT) (h_GLB_YIELDLAST : W0 R.GLB_YIELDLAST) (h_GLB_YIELDFRM : W0 R.GLB_YIELDFRM) (h_GLB_EVTOVF : W0 R.GLB_EVTOVF) (h_QUE_STAT : ∀ i, W0 (R.QUE_STAT i)) (h_QUE_RET : ∀ i, W0 (R.QUE_RET i)) (h_SOR_TGTSTAT : ∀ i, W0 (R.SOR_TGTSTAT i)) (h_SRF_PFSTAT : W0 R.SRF_PFSTAT) (h_SRF_PFLAST : W0 R.SRF_PFLAST) (h_SRF_TCMISS : W0 R.SRF_TCMISS) (h_FRT_COMMIT : W0 R.FRT_COMMIT) (h_FRT_NEXTLAT : W0 R.FRT_NEXTLAT) (h_FRT_PERNS : W0 R.FRT_PERNS) (h_FRT_PERFRAC : W0 R.FRT_PERFRAC) (h_FRT_LAT : W0 R.FRT_LAT) (h_FRT_WIN : W0 R.FRT_WIN) (h_FRT_MARGIN : W0 R.FRT_MARGIN) (h_FRT_EFRAME : W0 R.FRT_EFRAME) (h_FRT_ANCHOR : W0 R.FRT_ANCHOR) (h_FRT_MSTAT : W0 R.FRT_MSTAT) (h_CHN_PERR : ∀ i, W0 (R.CHN_PERR i)) (h_DRC_ECCSTAT : W0 R.DRC_ECCSTAT) (h_DRC_UEADDR : W0 R.DRC_UEADDR) (h_UPD_AFRAME : W0 R.UPD_AFRAME) {t0 : State} (h0 : RegsBut W0 r0 s) (ht : execCommitEntry s = .next t0) :
    RegsBut W0 r0 t0 := by
  unfold execCommitEntry at ht
  apply whenOn_regs (ht := ht)
  repeat' first
    | with_reducible assumption
    | with_reducible apply onEntry_regs
    | with_reducible apply frtEntry_regs
    | split
    | dsimp only
    | with_reducible intro _

theorem execModeEntry_regs {W0 : Nat → Prop} {r0 : State} (s : State) (h_pba : ∀ k, W0 (0x38000 + 4 * (k % 64))) (h_GLB_YIELDCNT : W0 R.GLB_YIELDCNT) (h_GLB_YIELDLAST : W0 R.GLB_YIELDLAST) (h_GLB_YIELDFRM : W0 R.GLB_YIELDFRM) (h_GLB_EVTOVF : W0 R.GLB_EVTOVF) (h_QUE_STAT : ∀ i, W0 (R.QUE_STAT i)) (h_QUE_RET : ∀ i, W0 (R.QUE_RET i)) (h_SOR_TGTSTAT : ∀ i, W0 (R.SOR_TGTSTAT i)) (h_SRF_PFSTAT : W0 R.SRF_PFSTAT) (h_SRF_PFLAST : W0 R.SRF_PFLAST) (h_SRF_TCMISS : W0 R.SRF_TCMISS) (h_FRT_COMMIT : W0 R.FRT_COMMIT) (h_FRT_NEXTLAT : W0 R.FRT_NEXTLAT) (h_FRT_PERNS : W0 R.FRT_PERNS) (h_FRT_PERFRAC : W0 R.FRT_PERFRAC) (h_FRT_LAT : W0 R.FRT_LAT) (h_FRT_WIN : W0 R.FRT_WIN) (h_FRT_MARGIN : W0 R.FRT_MARGIN) (h_FRT_EFRAME : W0 R.FRT_EFRAME) (h_FRT_ANCHOR : W0 R.FRT_ANCHOR) (h_FRT_MSTAT : W0 R.FRT_MSTAT) (h_CHN_PERR : ∀ i, W0 (R.CHN_PERR i)) (h_DRC_ECCSTAT : W0 R.DRC_ECCSTAT) (h_DRC_UEADDR : W0 R.DRC_UEADDR) (h_UPD_AFRAME : W0 R.UPD_AFRAME) {t0 : State} (h0 : RegsBut W0 r0 s) (ht : execModeEntry s = .next t0) :
    RegsBut W0 r0 t0 := by
  unfold execModeEntry at ht
  apply whenOn_regs (ht := ht)
  repeat' first
    | with_reducible assumption
    | with_reducible apply onEntry_regs
    | with_reducible apply frtEntry_regs
    | split
    | dsimp only
    | with_reducible intro _

end Sys2Proof.Machine
end

