-- ==== Sys2Proof/Laws/RegsTan.lean ====
section
/-! SUPPORT. Which registers each operation of Machine/Tan.lean may write. -/

namespace Sys2Proof.Machine

theorem tanChoose_regs {W0 : Nat → Prop} {r0 : State} (s : State) (n : Nat) (h_pba : ∀ k, W0 (0x38000 + 4 * (k % 64))) (h_GLB_EVTOVF : W0 R.GLB_EVTOVF) (h_CHN_PERR : ∀ i, W0 (R.CHN_PERR i)) (h_TAN_TSTAT : W0 R.TAN_TSTAT) (h0 : RegsBut W0 r0 s) :
    RegsBut W0 r0 (tanChoose s n) := by
  unfold tanChoose
  repeat' first
    | with_reducible assumption
    | simp only [RegsBut.tan]
    | with_reducible exact h_TAN_TSTAT
    | with_reducible apply setF_regs
    | with_reducible apply incSat_regs
    | with_reducible apply raise_regs
    | with_reducible refine RegsBut.of_snd (by with_reducible assumption) ?_
    | with_reducible refine RegsBut.of_snd2 (by with_reducible assumption) ?_
    | split

theorem tanRechoose_regs {W0 : Nat → Prop} {r0 : State} (s : State) (h_pba : ∀ k, W0 (0x38000 + 4 * (k % 64))) (h_GLB_EVTOVF : W0 R.GLB_EVTOVF) (h_CHN_PERR : ∀ i, W0 (R.CHN_PERR i)) (h_TAN_TSTAT : W0 R.TAN_TSTAT) (h0 : RegsBut W0 r0 s) :
    RegsBut W0 r0 (tanRechoose s) := by
  unfold tanRechoose
  repeat' first
    | with_reducible assumption
    | with_reducible apply tanChoose_regs
    | split

theorem tanDead_regs {W0 : Nat → Prop} {r0 : State} (s : State) (p : Nat) (h_pba : ∀ k, W0 (0x38000 + 4 * (k % 64))) (h_GLB_EVTOVF : W0 R.GLB_EVTOVF) (h_CHN_PERR : ∀ i, W0 (R.CHN_PERR i)) (h_TAN_TSTAT : W0 R.TAN_TSTAT) (h0 : RegsBut W0 r0 s) :
    RegsBut W0 r0 (tanDead s p) := by
  unfold tanDead
  repeat' first
    | with_reducible assumption
    | with_reducible exact h_TAN_TSTAT
    | with_reducible apply setF_regs
    | with_reducible apply tanRechoose_regs
    | with_reducible apply RegsBut.foldl
    | with_reducible apply RegsBut.snd
    | with_reducible apply RegsBut.snd2
    | with_reducible apply RegsBut.fst
    | with_reducible apply RegsBut.foldl_snd
    | with_reducible apply RegsBut.foldl_snd2
    | with_reducible apply RegsBut.foldl_fst
    | with_reducible refine RegsBut.of_fst (by with_reducible assumption) ?_
    | with_reducible refine RegsBut.of_snd (by with_reducible assumption) ?_
    | with_reducible refine RegsBut.of_snd2 (by with_reducible assumption) ?_
    | with_reducible (unfold liveFld; split_ifs <;> assumption)
    | split

theorem beaconTile_regs {W0 : Nat → Prop} {r0 : State} (s : State) (x : RxCell) (h_pba : ∀ k, W0 (0x38000 + 4 * (k % 64))) (h_GLB_EVTOVF : W0 R.GLB_EVTOVF) (h_CHN_PERR : ∀ i, W0 (R.CHN_PERR i)) (h_TAN_TSTAT : W0 R.TAN_TSTAT) (h_TAN_TCLAIM0 : W0 R.TAN_TCLAIM0) (h_TAN_TCLAIM1 : W0 R.TAN_TCLAIM1) (h0 : RegsBut W0 r0 s) :
    RegsBut W0 r0 (beaconTile s x) := by
  unfold beaconTile
  repeat' first
    | with_reducible assumption
    | simp only [RegsBut.tan]
    | with_reducible exact h_TAN_TSTAT
    | with_reducible exact h_TAN_TCLAIM0
    | with_reducible exact h_TAN_TCLAIM1
    | with_reducible apply setF_regs
    | with_reducible apply tanRechoose_regs
    | with_reducible apply tanDead_regs
    | with_reducible apply RegsBut.foldl
    | with_reducible apply RegsBut.snd
    | with_reducible apply RegsBut.snd2
    | with_reducible apply RegsBut.fst
    | with_reducible apply RegsBut.foldl_snd
    | with_reducible apply RegsBut.foldl_snd2
    | with_reducible apply RegsBut.foldl_fst
    | with_reducible refine RegsBut.of_fst (by with_reducible assumption) ?_
    | with_reducible refine RegsBut.of_snd (by with_reducible assumption) ?_
    | with_reducible refine RegsBut.of_snd2 (by with_reducible assumption) ?_
    | with_reducible (unfold liveFld; split_ifs <;> assumption)
    | split

theorem takeBeacons_regs {W0 : Nat → Prop} {r0 : State} (s : State) (e : Nat) (f : State → RxCell → State) (h_f : ∀ (x0 : State) (x1 : RxCell), RegsBut W0 r0 x0 → RegsBut W0 r0 (f x0 x1)) (h0 : RegsBut W0 r0 s) :
    RegsBut W0 r0 (takeBeacons s e f) := by
  unfold takeBeacons
  repeat' first
    | with_reducible assumption
    | simp only [RegsBut.chn]
    | with_reducible apply h_f
    | with_reducible apply RegsBut.foldl

theorem tanChooseFrame_regs {W0 : Nat → Prop} {r0 : State} (s : State) (n : Nat) (e : Nat) (h_pba : ∀ k, W0 (0x38000 + 4 * (k % 64))) (h_GLB_EVTOVF : W0 R.GLB_EVTOVF) (h_CHN_PERR : ∀ i, W0 (R.CHN_PERR i)) (h_TAN_TSTAT : W0 R.TAN_TSTAT) (h_TAN_TCLAIM0 : W0 R.TAN_TCLAIM0) (h_TAN_TCLAIM1 : W0 R.TAN_TCLAIM1) (h0 : RegsBut W0 r0 s) :
    RegsBut W0 r0 (tanChooseFrame s n e) := by
  unfold tanChooseFrame
  repeat' first
    | with_reducible assumption
    | with_reducible exact h_TAN_TSTAT
    | with_reducible apply incSat_regs
    | with_reducible apply tanChoose_regs
    | with_reducible apply beaconTile_regs
    | with_reducible apply takeBeacons_regs
    | split
    | dsimp only
    | with_reducible intro _

theorem claimExpiry_regs {W0 : Nat → Prop} {r0 : State} (s : State) (p : Nat) (h_pba : ∀ k, W0 (0x38000 + 4 * (k % 64))) (h_GLB_EVTOVF : W0 R.GLB_EVTOVF) (h_CHN_PERR : ∀ i, W0 (R.CHN_PERR i)) (h_TAN_TSTAT : W0 R.TAN_TSTAT) (h0 : RegsBut W0 r0 s) :
    RegsBut W0 r0 (claimExpiry s p) := by
  unfold claimExpiry
  repeat' first
    | with_reducible assumption
    | with_reducible apply tanDead_regs
    | split

theorem holdCheck_regs {W0 : Nat → Prop} {r0 : State} (s : State) (h0 : RegsBut W0 r0 s) :
    RegsBut W0 r0 (holdCheck s) := by
  unfold holdCheck
  repeat' first
    | with_reducible assumption
    | with_reducible apply dropHold_regs
    | split

theorem snapShow_regs {W0 : Nat → Prop} {r0 : State} (s : State) (h_TAN_SNAPSTAT : W0 R.TAN_SNAPSTAT) (h0 : RegsBut W0 r0 s) :
    RegsBut W0 r0 (snapShow s) := by
  unfold snapShow
  repeat' first
    | with_reducible assumption
    | with_reducible exact h_TAN_SNAPSTAT
    | with_reducible apply setF_regs
    | with_reducible apply holdCheck_regs

theorem tanEvent_regs {W0 : Nat → Prop} {r0 : State} (s : State) (h_pba : ∀ k, W0 (0x38000 + 4 * (k % 64))) (h_GLB_EVTOVF : W0 R.GLB_EVTOVF) (h_CHN_PERR : ∀ i, W0 (R.CHN_PERR i)) (h0 : RegsBut W0 r0 s) :
    RegsBut W0 r0 (tanEvent s) := by
  unfold tanEvent
  repeat' first
    | with_reducible assumption
    | with_reducible apply raise_regs

theorem snapDone_regs {W0 : Nat → Prop} {r0 : State} (s : State) (it : Item) (c : Status) (gen : Nat) (npart : Nat) (h_pba : ∀ k, W0 (0x38000 + 4 * (k % 64))) (h_QUE_STAT : ∀ i, W0 (R.QUE_STAT i)) (h_QUE_RET : ∀ i, W0 (R.QUE_RET i)) (h0 : RegsBut W0 r0 s) :
    RegsBut W0 r0 (snapDone s it c gen npart) := by
  unfold snapDone
  repeat' first
    | with_reducible assumption
    | with_reducible apply complete40_regs

theorem snapsAbort_regs {W0 : Nat → Prop} {r0 : State} (s : State) (h_pba : ∀ k, W0 (0x38000 + 4 * (k % 64))) (h_QUE_STAT : ∀ i, W0 (R.QUE_STAT i)) (h_QUE_RET : ∀ i, W0 (R.QUE_RET i)) (h0 : RegsBut W0 r0 s) :
    RegsBut W0 r0 (snapsAbort s) := by
  unfold snapsAbort
  repeat' first
    | with_reducible assumption
    | simp only [RegsBut.chn_tan]
    | with_reducible apply snapDone_regs
    | with_reducible apply RegsBut.foldl
    | split
    | dsimp only
    | with_reducible intro _

theorem setTan_regs {W0 : Nat → Prop} {r0 : State} (s : State) (st : Nat) (epoch : Nat) (h_pba : ∀ k, W0 (0x38000 + 4 * (k % 64))) (h_GLB_EVTOVF : W0 R.GLB_EVTOVF) (h_QUE_STAT : ∀ i, W0 (R.QUE_STAT i)) (h_QUE_RET : ∀ i, W0 (R.QUE_RET i)) (h_CHN_PERR : ∀ i, W0 (R.CHN_PERR i)) (h_TAN_CLAIM : W0 R.TAN_CLAIM) (h_TAN_STAT : W0 R.TAN_STAT) (h0 : RegsBut W0 r0 s) :
    RegsBut W0 r0 (setTan s st epoch) := by
  unfold setTan
  repeat' first
    | with_reducible assumption
    | with_reducible exact h_TAN_CLAIM
    | with_reducible exact h_TAN_STAT
    | with_reducible apply setF_regs
    | with_reducible apply tanEvent_regs
    | with_reducible apply snapsAbort_regs
    | split
    | dsimp only

theorem takeover_regs {W0 : Nat → Prop} {r0 : State} (s : State) (h_pba : ∀ k, W0 (0x38000 + 4 * (k % 64))) (h_GLB_EVTOVF : W0 R.GLB_EVTOVF) (h_QUE_STAT : ∀ i, W0 (R.QUE_STAT i)) (h_QUE_RET : ∀ i, W0 (R.QUE_RET i)) (h_CHN_PERR : ∀ i, W0 (R.CHN_PERR i)) (h_TAN_CLAIM : W0 R.TAN_CLAIM) (h_TAN_STAT : W0 R.TAN_STAT) (h_TAN_SNAPSTAT : W0 R.TAN_SNAPSTAT) (h0 : RegsBut W0 r0 s) :
    RegsBut W0 r0 (takeover s) := by
  unfold takeover
  repeat' first
    | with_reducible assumption
    | simp only [RegsBut.tan]
    | with_reducible exact h_TAN_STAT
    | with_reducible apply incSat_regs
    | with_reducible apply snapShow_regs
    | with_reducible apply setTan_regs

theorem tanEnable_regs {W0 : Nat → Prop} {r0 : State} (s : State) (h_pba : ∀ k, W0 (0x38000 + 4 * (k % 64))) (h_GLB_EVTOVF : W0 R.GLB_EVTOVF) (h_QUE_STAT : ∀ i, W0 (R.QUE_STAT i)) (h_QUE_RET : ∀ i, W0 (R.QUE_RET i)) (h_CHN_PERR : ∀ i, W0 (R.CHN_PERR i)) (h_TIM_PGCFG : ∀ i, W0 (R.TIM_PGCFG i)) (h_TIM_PGSTART : ∀ i, W0 (R.TIM_PGSTART i)) (h_TIM_PGPER : ∀ i, W0 (R.TIM_PGPER i)) (h_TIM_PGPERF : ∀ i, W0 (R.TIM_PGPERF i)) (h_TIM_PGSTAT : ∀ i, W0 (R.TIM_PGSTAT i)) (h_TIM_PGNEXT : ∀ i, W0 (R.TIM_PGNEXT i)) (h_TAN_CFG : W0 R.TAN_CFG) (h_TAN_CLAIM : W0 R.TAN_CLAIM) (h_TAN_STAT : W0 R.TAN_STAT) (h0 : RegsBut W0 r0 s) :
    RegsBut W0 r0 (tanEnable s) := by
  unfold tanEnable
  repeat' first
    | with_reducible assumption
    | simp only [RegsBut.tan]
    | with_reducible exact h_TAN_CFG
    | with_reducible apply setF_regs
    | with_reducible apply genTake_regs
    | with_reducible apply setTan_regs

theorem tanDisable_regs {W0 : Nat → Prop} {r0 : State} (s : State) (h_pba : ∀ k, W0 (0x38000 + 4 * (k % 64))) (h_GLB_EVTOVF : W0 R.GLB_EVTOVF) (h_QUE_STAT : ∀ i, W0 (R.QUE_STAT i)) (h_QUE_RET : ∀ i, W0 (R.QUE_RET i)) (h_CHN_PERR : ∀ i, W0 (R.CHN_PERR i)) (h_TIM_PGCFG : ∀ i, W0 (R.TIM_PGCFG i)) (h_TIM_PGNEXT : ∀ i, W0 (R.TIM_PGNEXT i)) (h_TAN_CFG : W0 R.TAN_CFG) (h_TAN_CLAIM : W0 R.TAN_CLAIM) (h_TAN_STAT : W0 R.TAN_STAT) (h0 : RegsBut W0 r0 s) :
    RegsBut W0 r0 (tanDisable s) := by
  unfold tanDisable
  repeat' first
    | with_reducible assumption
    | with_reducible exact h_TAN_CFG
    | with_reducible apply setF_regs
    | with_reducible apply genRelease_regs
    | with_reducible apply dropHold_regs
    | with_reducible apply setTan_regs

theorem hear_regs {W0 : Nat → Prop} {r0 : State} (s : State) (h : Heard) (h_TAN_STAT : W0 R.TAN_STAT) (h0 : RegsBut W0 r0 s) :
    RegsBut W0 r0 (hear s h) := by
  unfold hear
  repeat' first
    | with_reducible assumption
    | simp only [RegsBut.tan]
    | with_reducible exact h_TAN_STAT
    | with_reducible apply setBitF_regs
    | split

theorem peerBeacon_regs {W0 : Nat → Prop} {r0 : State} (s : State) (x : RxCell) (h_pba : ∀ k, W0 (0x38000 + 4 * (k % 64))) (h_GLB_EVTOVF : W0 R.GLB_EVTOVF) (h_QUE_STAT : ∀ i, W0 (R.QUE_STAT i)) (h_QUE_RET : ∀ i, W0 (R.QUE_RET i)) (h_CHN_PERR : ∀ i, W0 (R.CHN_PERR i)) (h_TAN_CLAIM : W0 R.TAN_CLAIM) (h_TAN_STAT : W0 R.TAN_STAT) (h_TAN_PEER : W0 R.TAN_PEER) (h0 : RegsBut W0 r0 s) :
    RegsBut W0 r0 (peerBeacon s x) := by
  unfold peerBeacon
  repeat' first
    | with_reducible assumption
    | with_reducible exact h_TAN_STAT
    | with_reducible exact h_TAN_PEER
    | with_reducible apply setF_regs
    | with_reducible apply tanEvent_regs
    | with_reducible apply setTan_regs
    | with_reducible apply hear_regs
    | split
    | dsimp only

theorem heartbeatWindow_regs {W0 : Nat → Prop} {r0 : State} (s : State) (e : Nat) (h_pba : ∀ k, W0 (0x38000 + 4 * (k % 64))) (h_GLB_EVTOVF : W0 R.GLB_EVTOVF) (h_QUE_STAT : ∀ i, W0 (R.QUE_STAT i)) (h_QUE_RET : ∀ i, W0 (R.QUE_RET i)) (h_CHN_PERR : ∀ i, W0 (R.CHN_PERR i)) (h_TAN_CLAIM : W0 R.TAN_CLAIM) (h_TAN_STAT : W0 R.TAN_STAT) (h_TAN_SNAPSTAT : W0 R.TAN_SNAPSTAT) (h0 : RegsBut W0 r0 s) :
    RegsBut W0 r0 (heartbeatWindow s e) := by
  unfold heartbeatWindow
  repeat' first
    | with_reducible assumption
    | simp only [RegsBut.tan]
    | with_reducible exact h_TAN_STAT
    | with_reducible apply setF_regs
    | with_reducible apply takeover_regs
    | split

theorem snapSettle_regs {W0 : Nat → Prop} {r0 : State} (s : State) (h_pba : ∀ k, W0 (0x38000 + 4 * (k % 64))) (h_QUE_STAT : ∀ i, W0 (R.QUE_STAT i)) (h_QUE_RET : ∀ i, W0 (R.QUE_RET i)) (h0 : RegsBut W0 r0 s) :
    RegsBut W0 r0 (snapSettle s) := by
  unfold snapSettle
  repeat' first
    | with_reducible assumption
    | simp only [RegsBut.tan]
    | with_reducible apply snapDone_regs
    | with_reducible apply RegsBut.foldl
    | split
    | dsimp only
    | with_reducible intro _

theorem heartbeat_regs {W0 : Nat → Prop} {r0 : State} (s : State) (h_pba : ∀ k, W0 (0x38000 + 4 * (k % 64))) (h_GLB_EVTOVF : W0 R.GLB_EVTOVF) (h_QUE_STAT : ∀ i, W0 (R.QUE_STAT i)) (h_QUE_RET : ∀ i, W0 (R.QUE_RET i)) (h_CHN_PERR : ∀ i, W0 (R.CHN_PERR i)) (h_TIM_PGCFG : ∀ i, W0 (R.TIM_PGCFG i)) (h_TIM_PGSTAT : ∀ i, W0 (R.TIM_PGSTAT i)) (h_TIM_PGNEXT : ∀ i, W0 (R.TIM_PGNEXT i)) (h_TAN_CLAIM : W0 R.TAN_CLAIM) (h_TAN_STAT : W0 R.TAN_STAT) (h_TAN_PEER : W0 R.TAN_PEER) (h_TAN_SNAPSTAT : W0 R.TAN_SNAPSTAT) (h0 : RegsBut W0 r0 s) :
    RegsBut W0 r0 (heartbeat s) := by
  unfold heartbeat
  repeat' first
    | with_reducible assumption
    | simp only [RegsBut.tan]
    | with_reducible apply genFire_regs
    | with_reducible apply syncPulse_regs
    | with_reducible apply sendBeacon_regs
    | with_reducible apply takeBeacons_regs
    | with_reducible apply peerBeacon_regs
    | with_reducible apply heartbeatWindow_regs
    | with_reducible apply snapSettle_regs
    | split
    | dsimp only
    | with_reducible intro _

theorem revertExpiry_regs {W0 : Nat → Prop} {r0 : State} (s : State) (h_pba : ∀ k, W0 (0x38000 + 4 * (k % 64))) (h_GLB_EVTOVF : W0 R.GLB_EVTOVF) (h_QUE_STAT : ∀ i, W0 (R.QUE_STAT i)) (h_QUE_RET : ∀ i, W0 (R.QUE_RET i)) (h_CHN_PERR : ∀ i, W0 (R.CHN_PERR i)) (h_TAN_CLAIM : W0 R.TAN_CLAIM) (h_TAN_STAT : W0 R.TAN_STAT) (h_TAN_SNAPSTAT : W0 R.TAN_SNAPSTAT) (h0 : RegsBut W0 r0 s) :
    RegsBut W0 r0 (revertExpiry s) := by
  unfold revertExpiry
  repeat' first
    | with_reducible assumption
    | with_reducible apply takeover_regs
    | split

theorem renum_regs {W0 : Nat → Prop} {r0 : State} (s : State) (x : Nat) (h_pba : ∀ k, W0 (0x38000 + 4 * (k % 64))) (h_GLB_EVTOVF : W0 R.GLB_EVTOVF) (h_QUE_STAT : ∀ i, W0 (R.QUE_STAT i)) (h_QUE_RET : ∀ i, W0 (R.QUE_RET i)) (h_CHN_PERR : ∀ i, W0 (R.CHN_PERR i)) (h_TAN_CLAIM : W0 R.TAN_CLAIM) (h_TAN_STAT : W0 R.TAN_STAT) (h0 : RegsBut W0 r0 s) :
    RegsBut W0 r0 (renum s x) := by
  unfold renum
  repeat' first
    | with_reducible assumption
    | with_reducible apply setTan_regs

theorem snapEntry_regs {W0 : Nat → Prop} {r0 : State} (s : State) (it : Item) (host : HostRes) (h_pba : ∀ k, W0 (0x38000 + 4 * (k % 64))) (h_GLB_EVTOVF : W0 R.GLB_EVTOVF) (h_QUE_STAT : ∀ i, W0 (R.QUE_STAT i)) (h_QUE_RET : ∀ i, W0 (R.QUE_RET i)) (h_SRF_TCMISS : W0 R.SRF_TCMISS) (h_CHN_PERR : ∀ i, W0 (R.CHN_PERR i)) (h_TAN_SNAPSTAT : W0 R.TAN_SNAPSTAT) (h_TAN_SNAPSEEN : W0 R.TAN_SNAPSEEN) (h_DRC_ECCSTAT : W0 R.DRC_ECCSTAT) (h_DRC_UEADDR : W0 R.DRC_UEADDR) (h0 : RegsBut W0 r0 s) :
    RegsBut W0 r0 (snapEntry s it host) := by
  unfold snapEntry
  repeat' first
    | with_reducible assumption
    | simp only [RegsBut.tan]
    | with_reducible exact h_TAN_SNAPSEEN
    | with_reducible apply setF_regs
    | with_reducible apply newLid_regs
    | with_reducible apply areaFetch_regs
    | with_reducible apply sendLetter_regs
    | with_reducible apply snapShow_regs
    | with_reducible apply snapDone_regs
    | with_reducible apply snapSettle_regs
    | with_reducible apply RegsBut.foldl
    | with_reducible refine RegsBut.of_snd (by with_reducible assumption) ?_
    | with_reducible refine RegsBut.of_snd2 (by with_reducible assumption) ?_
    | split
    | dsimp only
    | with_reducible intro _

theorem commitRepeat_regs {W0 : Nat → Prop} {r0 : State} (s : State) (h0 : RegsBut W0 r0 s) :
    RegsBut W0 r0 (commitRepeat s) := by
  unfold commitRepeat
  repeat' first
    | with_reducible assumption
    | simp only [RegsBut.tan]
    | with_reducible apply newLid_regs
    | with_reducible apply sendLetter_regs
    | with_reducible refine RegsBut.of_snd (by with_reducible assumption) ?_
    | with_reducible refine RegsBut.of_snd2 (by with_reducible assumption) ?_
    | split

theorem snapFail_regs {W0 : Nat → Prop} {r0 : State} (s : State) (gen : Nat) (c : Status) (h_pba : ∀ k, W0 (0x38000 + 4 * (k % 64))) (h_GLB_EVTOVF : W0 R.GLB_EVTOVF) (h_CHN_PERR : ∀ i, W0 (R.CHN_PERR i)) (h_TAN_SNAPSTAT : W0 R.TAN_SNAPSTAT) (h0 : RegsBut W0 r0 s) :
    RegsBut W0 r0 (snapFail s gen c) := by
  unfold snapFail
  repeat' first
    | with_reducible assumption
    | simp only [RegsBut.tan]
    | with_reducible exact h_TAN_SNAPSTAT
    | with_reducible apply incSat_regs
    | with_reducible apply raise_regs
    | with_reducible apply snapShow_regs

theorem snapSeen_regs {W0 : Nat → Prop} {r0 : State} (s : State) (gen : Nat) (h_TAN_SNAPSTAT : W0 R.TAN_SNAPSTAT) (h_TAN_SNAPSEEN : W0 R.TAN_SNAPSEEN) (h0 : RegsBut W0 r0 s) :
    RegsBut W0 r0 (snapSeen s gen) := by
  unfold snapSeen
  repeat' first
    | with_reducible assumption
    | with_reducible exact h_TAN_SNAPSEEN
    | with_reducible apply setF_regs
    | with_reducible apply snapShow_regs
    | split

theorem tryCommit_regs {W0 : Nat → Prop} {r0 : State} (s : State) (host : HostRes) (h_pba : ∀ k, W0 (0x38000 + 4 * (k % 64))) (h_GLB_EVTOVF : W0 R.GLB_EVTOVF) (h_QUE_STAT : ∀ i, W0 (R.QUE_STAT i)) (h_QUE_RET : ∀ i, W0 (R.QUE_RET i)) (h_SRF_PFSTAT : W0 R.SRF_PFSTAT) (h_SRF_PFLAST : W0 R.SRF_PFLAST) (h_SRF_TCMISS : W0 R.SRF_TCMISS) (h_FRT_COMMIT : W0 R.FRT_COMMIT) (h_FRT_NEXTLAT : W0 R.FRT_NEXTLAT) (h_CHN_PERR : ∀ i, W0 (R.CHN_PERR i)) (h_TAN_SNAPSTAT : W0 R.TAN_SNAPSTAT) (h_TAN_SNAPGEN : W0 R.TAN_SNAPGEN) (h_TAN_SNAPLEN : W0 R.TAN_SNAPLEN) (h_DRC_ECCSTAT : W0 R.DRC_ECCSTAT) (h_DRC_UEADDR : W0 R.DRC_UEADDR) (h0 : RegsBut W0 r0 s) :
    RegsBut W0 r0 (tryCommit s host) := by
  unfold tryCommit
  repeat' first
    | with_reducible assumption
    | simp only [RegsBut.tan]
    | with_reducible exact h_TAN_SNAPSTAT
    | with_reducible exact h_TAN_SNAPGEN
    | with_reducible exact h_TAN_SNAPLEN
    | with_reducible apply setF_regs
    | with_reducible apply raise_regs
    | with_reducible apply svcFetch_regs
    | with_reducible apply commit_regs
    | with_reducible apply snapShow_regs
    | with_reducible apply snapFail_regs
    | with_reducible refine RegsBut.of_snd (by with_reducible assumption) ?_
    | with_reducible refine RegsBut.of_snd2 (by with_reducible assumption) ?_
    | split

theorem storePart_regs {W0 : Nat → Prop} {r0 : State} (s : State) (x : Surf) (g : Staging) (part : Nat) (data : Bytes) (h_pba : ∀ k, W0 (0x38000 + 4 * (k % 64))) (h_GLB_EVTOVF : W0 R.GLB_EVTOVF) (h_SRF_TCMISS : W0 R.SRF_TCMISS) (h_CHN_PERR : ∀ i, W0 (R.CHN_PERR i)) (h_TAN_SNAPSTAT : W0 R.TAN_SNAPSTAT) (h_DRC_ECCSTAT : W0 R.DRC_ECCSTAT) (h_DRC_UEADDR : W0 R.DRC_UEADDR) (h_DRC_HAZSTAT : W0 R.DRC_HAZSTAT) (h0 : RegsBut W0 r0 s) :
    RegsBut W0 r0 (storePart s x g part data) := by
  unfold storePart
  repeat' first
    | with_reducible assumption
    | simp only [RegsBut.tan]
    | with_reducible apply svcWrite_regs
    | with_reducible apply snapShow_regs

theorem takePart_regs {W0 : Nat → Prop} {r0 : State} (s : State) (c : Bytes) (host : HostRes) (h_pba : ∀ k, W0 (0x38000 + 4 * (k % 64))) (h_GLB_EVTOVF : W0 R.GLB_EVTOVF) (h_QUE_STAT : ∀ i, W0 (R.QUE_STAT i)) (h_QUE_RET : ∀ i, W0 (R.QUE_RET i)) (h_SRF_PFSTAT : W0 R.SRF_PFSTAT) (h_SRF_PFLAST : W0 R.SRF_PFLAST) (h_SRF_TCMISS : W0 R.SRF_TCMISS) (h_FRT_COMMIT : W0 R.FRT_COMMIT) (h_FRT_NEXTLAT : W0 R.FRT_NEXTLAT) (h_CHN_PERR : ∀ i, W0 (R.CHN_PERR i)) (h_TAN_SNAPSTAT : W0 R.TAN_SNAPSTAT) (h_TAN_SNAPGEN : W0 R.TAN_SNAPGEN) (h_TAN_SNAPLEN : W0 R.TAN_SNAPLEN) (h_DRC_ECCSTAT : W0 R.DRC_ECCSTAT) (h_DRC_UEADDR : W0 R.DRC_UEADDR) (h_DRC_HAZSTAT : W0 R.DRC_HAZSTAT) (h0 : RegsBut W0 r0 s) :
    RegsBut W0 r0 (takePart s c host) := by
  unfold takePart
  repeat' first
    | with_reducible assumption
    | with_reducible apply snapFail_regs
    | with_reducible apply tryCommit_regs
    | with_reducible apply storePart_regs
    | split
    | dsimp only

theorem snapPart_regs {W0 : Nat → Prop} {r0 : State} (s : State) (l : Letter) (host : HostRes) (h_pba : ∀ k, W0 (0x38000 + 4 * (k % 64))) (h_GLB_EVTOVF : W0 R.GLB_EVTOVF) (h_QUE_STAT : ∀ i, W0 (R.QUE_STAT i)) (h_QUE_RET : ∀ i, W0 (R.QUE_RET i)) (h_SRF_PFSTAT : W0 R.SRF_PFSTAT) (h_SRF_PFLAST : W0 R.SRF_PFLAST) (h_SRF_TCMISS : W0 R.SRF_TCMISS) (h_FRT_COMMIT : W0 R.FRT_COMMIT) (h_FRT_NEXTLAT : W0 R.FRT_NEXTLAT) (h_CHN_PERR : ∀ i, W0 (R.CHN_PERR i)) (h_TAN_SNAPSTAT : W0 R.TAN_SNAPSTAT) (h_TAN_SNAPGEN : W0 R.TAN_SNAPGEN) (h_TAN_SNAPSEEN : W0 R.TAN_SNAPSEEN) (h_TAN_SNAPLEN : W0 R.TAN_SNAPLEN) (h_DRC_ECCSTAT : W0 R.DRC_ECCSTAT) (h_DRC_UEADDR : W0 R.DRC_UEADDR) (h_DRC_HAZSTAT : W0 R.DRC_HAZSTAT) (h0 : RegsBut W0 r0 s) :
    RegsBut W0 r0 (snapPart s l host) := by
  unfold snapPart
  repeat' first
    | with_reducible assumption
    | with_reducible apply snapSeen_regs
    | with_reducible apply takePart_regs
    | split
    | dsimp only

theorem snapCommit_regs {W0 : Nat → Prop} {r0 : State} (s : State) (l : Letter) (host : HostRes) (h_pba : ∀ k, W0 (0x38000 + 4 * (k % 64))) (h_GLB_EVTOVF : W0 R.GLB_EVTOVF) (h_QUE_STAT : ∀ i, W0 (R.QUE_STAT i)) (h_QUE_RET : ∀ i, W0 (R.QUE_RET i)) (h_SRF_PFSTAT : W0 R.SRF_PFSTAT) (h_SRF_PFLAST : W0 R.SRF_PFLAST) (h_SRF_TCMISS : W0 R.SRF_TCMISS) (h_FRT_COMMIT : W0 R.FRT_COMMIT) (h_FRT_NEXTLAT : W0 R.FRT_NEXTLAT) (h_CHN_PERR : ∀ i, W0 (R.CHN_PERR i)) (h_TAN_SNAPSTAT : W0 R.TAN_SNAPSTAT) (h_TAN_SNAPGEN : W0 R.TAN_SNAPGEN) (h_TAN_SNAPSEEN : W0 R.TAN_SNAPSEEN) (h_TAN_SNAPLEN : W0 R.TAN_SNAPLEN) (h_DRC_ECCSTAT : W0 R.DRC_ECCSTAT) (h_DRC_UEADDR : W0 R.DRC_UEADDR) (h0 : RegsBut W0 r0 s) :
    RegsBut W0 r0 (snapCommit s l host) := by
  unfold snapCommit
  repeat' first
    | with_reducible assumption
    | simp only [RegsBut.tan]
    | with_reducible apply commit_regs
    | with_reducible apply snapShow_regs
    | with_reducible apply snapSeen_regs
    | with_reducible apply tryCommit_regs
    | split

theorem snapTimeout_regs {W0 : Nat → Prop} {r0 : State} (s : State) (h_pba : ∀ k, W0 (0x38000 + 4 * (k % 64))) (h_GLB_EVTOVF : W0 R.GLB_EVTOVF) (h_QUE_STAT : ∀ i, W0 (R.QUE_STAT i)) (h_QUE_RET : ∀ i, W0 (R.QUE_RET i)) (h_SRF_PFSTAT : W0 R.SRF_PFSTAT) (h_SRF_PFLAST : W0 R.SRF_PFLAST) (h_SRF_TCMISS : W0 R.SRF_TCMISS) (h_FRT_COMMIT : W0 R.FRT_COMMIT) (h_FRT_NEXTLAT : W0 R.FRT_NEXTLAT) (h_CHN_PERR : ∀ i, W0 (R.CHN_PERR i)) (h_TAN_SNAPSTAT : W0 R.TAN_SNAPSTAT) (h_DRC_ECCSTAT : W0 R.DRC_ECCSTAT) (h_DRC_UEADDR : W0 R.DRC_UEADDR) (h0 : RegsBut W0 r0 s) :
    RegsBut W0 r0 (snapTimeout s) := by
  unfold snapTimeout
  repeat' first
    | with_reducible assumption
    | with_reducible apply commit_regs
    | with_reducible apply snapFail_regs
    | split

theorem takeLetter_regs {W0 : Nat → Prop} {r0 : State} {s : State} {p : Letter → Bool} {it : Letter} {t0 : State}
    (hx : takeLetter s p = some (it, t0)) (h0 : RegsBut W0 r0 s) : RegsBut W0 r0 t0 := by
  unfold takeLetter at hx
  split at hx
  · injection hx with hx
    injection hx with _ hx
    subst hx
    exact h0
  · cases hx

theorem onLetter_regs {W0 : Nat → Prop} {r0 : State} (s : State) (ltype : Nat) (f : State → Letter → State) (h_f : ∀ (x0 : State) (x1 : Letter), RegsBut W0 r0 x0 → RegsBut W0 r0 (f x0 x1)) (h0 : RegsBut W0 r0 s) :
    RegsBut W0 r0 (onLetter s ltype f) := by
  unfold onLetter
  repeat' first
    | with_reducible assumption
    | with_reducible apply h_f
    | with_reducible refine takeLetter_regs (hx := by with_reducible assumption) ?_
    | split

theorem onSnap_regs {W0 : Nat → Prop} {r0 : State} (s : State) (ltype : Nat) (f : State → Letter → State) (h_f : ∀ (x0 : State) (x1 : Letter), RegsBut W0 r0 x0 → RegsBut W0 r0 (f x0 x1)) (h0 : RegsBut W0 r0 s) :
    RegsBut W0 r0 (onSnap s ltype f) := by
  unfold onSnap
  repeat' first
    | with_reducible assumption
    | with_reducible apply h_f
    | with_reducible refine takeLetter_regs (hx := by with_reducible assumption) ?_
    | split

theorem tanBlockReset_regs {W0 : Nat → Prop} {r0 : State} (s : State) (h_pba : ∀ k, W0 (0x38000 + 4 * (k % 64))) (h_r0x100000 : ∀ off, 0x100000 ≤ off → off < 0x110000 → W0 off) (h_GLB_EVTOVF : W0 R.GLB_EVTOVF) (h_QUE_STAT : ∀ i, W0 (R.QUE_STAT i)) (h_QUE_RET : ∀ i, W0 (R.QUE_RET i)) (h_CHN_PERR : ∀ i, W0 (R.CHN_PERR i)) (h_TIM_PGCFG : ∀ i, W0 (R.TIM_PGCFG i)) (h_TIM_PGNEXT : ∀ i, W0 (R.TIM_PGNEXT i)) (h_TAN_TSTAT : W0 R.TAN_TSTAT) (h0 : RegsBut W0 r0 s) :
    RegsBut W0 r0 (tanBlockReset s) := by
  unfold tanBlockReset
  repeat' first
    | with_reducible assumption
    | simp only [RegsBut.tan]
    | with_reducible assumption
    | with_reducible apply resetRegs_regs
    | with_reducible apply genRelease_regs
    | with_reducible apply tanRechoose_regs
    | with_reducible apply tanEvent_regs
    | with_reducible apply snapsAbort_regs
    | split

theorem tanResetEnd_regs {W0 : Nat → Prop} {r0 : State} (s : State) (h0 : RegsBut W0 r0 s) :
    RegsBut W0 r0 (tanResetEnd s) := by
  unfold tanResetEnd
  repeat' first
    | with_reducible assumption
    | simp only [RegsBut.chn]

theorem execBeaconCell_regs {W0 : Nat → Prop} {r0 : State} (s : State) (h_pba : ∀ k, W0 (0x38000 + 4 * (k % 64))) (h_GLB_EVTOVF : W0 R.GLB_EVTOVF) (h_CHN_PERR : ∀ i, W0 (R.CHN_PERR i)) (h_TAN_TSTAT : W0 R.TAN_TSTAT) (h_TAN_TCLAIM0 : W0 R.TAN_TCLAIM0) (h_TAN_TCLAIM1 : W0 R.TAN_TCLAIM1) {t0 : State} (h0 : RegsBut W0 r0 s) (ht : execBeaconCell s = .next t0) :
    RegsBut W0 r0 t0 := by
  unfold execBeaconCell at ht
  apply whenOn_regs (ht := ht)
  repeat' first
    | with_reducible assumption
    | with_reducible refine takeRx_regs (hx := by with_reducible assumption) ?_
    | with_reducible apply beaconTile_regs
    | split
    | dsimp only
    | with_reducible intro _

theorem execPeerBeacon_regs {W0 : Nat → Prop} {r0 : State} (s : State) (h_pba : ∀ k, W0 (0x38000 + 4 * (k % 64))) (h_GLB_EVTOVF : W0 R.GLB_EVTOVF) (h_QUE_STAT : ∀ i, W0 (R.QUE_STAT i)) (h_QUE_RET : ∀ i, W0 (R.QUE_RET i)) (h_CHN_PERR : ∀ i, W0 (R.CHN_PERR i)) (h_TAN_CLAIM : W0 R.TAN_CLAIM) (h_TAN_STAT : W0 R.TAN_STAT) (h_TAN_PEER : W0 R.TAN_PEER) {t0 : State} (h0 : RegsBut W0 r0 s) (ht : execPeerBeacon s = .next t0) :
    RegsBut W0 r0 t0 := by
  unfold execPeerBeacon at ht
  apply whenOn_regs (ht := ht)
  repeat' first
    | with_reducible assumption
    | with_reducible refine takeRx_regs (hx := by with_reducible assumption) ?_
    | with_reducible apply peerBeacon_regs
    | split
    | dsimp only
    | with_reducible intro _

theorem execClaimExpiry_regs {W0 : Nat → Prop} {r0 : State} (dt : Nat) (p : Nat) (s : State) (h_pba : ∀ k, W0 (0x38000 + 4 * (k % 64))) (h_GLB_EVTOVF : W0 R.GLB_EVTOVF) (h_SOR_GSTAT : W0 R.SOR_GSTAT) (h_CHN_PERR : ∀ i, W0 (R.CHN_PERR i)) (h_TAN_TSTAT : W0 R.TAN_TSTAT) {t0 : State} (h0 : RegsBut W0 r0 s) (ht : execClaimExpiry dt p s = .next t0) :
    RegsBut W0 r0 t0 := by
  unfold execClaimExpiry at ht
  apply whenOn_regs (ht := ht)
  repeat' first
    | with_reducible assumption
    | with_reducible apply advance_regs
    | with_reducible apply claimExpiry_regs
    | split
    | dsimp only
    | with_reducible intro _

theorem execHeartbeatPulse_regs {W0 : Nat → Prop} {r0 : State} (dt : Nat) (s : State) (h_pba : ∀ k, W0 (0x38000 + 4 * (k % 64))) (h_GLB_EVTOVF : W0 R.GLB_EVTOVF) (h_QUE_STAT : ∀ i, W0 (R.QUE_STAT i)) (h_QUE_RET : ∀ i, W0 (R.QUE_RET i)) (h_SOR_GSTAT : W0 R.SOR_GSTAT) (h_CHN_PERR : ∀ i, W0 (R.CHN_PERR i)) (h_TIM_PGCFG : ∀ i, W0 (R.TIM_PGCFG i)) (h_TIM_PGSTAT : ∀ i, W0 (R.TIM_PGSTAT i)) (h_TIM_PGNEXT : ∀ i, W0 (R.TIM_PGNEXT i)) (h_TAN_CLAIM : W0 R.TAN_CLAIM) (h_TAN_STAT : W0 R.TAN_STAT) (h_TAN_PEER : W0 R.TAN_PEER) (h_TAN_SNAPSTAT : W0 R.TAN_SNAPSTAT) {t0 : State} (h0 : RegsBut W0 r0 s) (ht : execHeartbeatPulse dt s = .next t0) :
    RegsBut W0 r0 t0 := by
  unfold execHeartbeatPulse at ht
  apply whenOn_regs (ht := ht)
  repeat' first
    | with_reducible assumption
    | with_reducible apply advance_regs
    | with_reducible apply heartbeat_regs
    | split
    | dsimp only
    | with_reducible intro _

theorem execRevertHoldExpiry_regs {W0 : Nat → Prop} {r0 : State} (dt : Nat) (s : State) (h_pba : ∀ k, W0 (0x38000 + 4 * (k % 64))) (h_GLB_EVTOVF : W0 R.GLB_EVTOVF) (h_QUE_STAT : ∀ i, W0 (R.QUE_STAT i)) (h_QUE_RET : ∀ i, W0 (R.QUE_RET i)) (h_SOR_GSTAT : W0 R.SOR_GSTAT) (h_CHN_PERR : ∀ i, W0 (R.CHN_PERR i)) (h_TAN_CLAIM : W0 R.TAN_CLAIM) (h_TAN_STAT : W0 R.TAN_STAT) (h_TAN_SNAPSTAT : W0 R.TAN_SNAPSTAT) {t0 : State} (h0 : RegsBut W0 r0 s) (ht : execRevertHoldExpiry dt s = .next t0) :
    RegsBut W0 r0 t0 := by
  unfold execRevertHoldExpiry at ht
  apply whenOn_regs (ht := ht)
  repeat' first
    | with_reducible assumption
    | with_reducible apply advance_regs
    | with_reducible apply revertExpiry_regs
    | split
    | dsimp only
    | with_reducible intro _

theorem execSenderCadence_regs {W0 : Nat → Prop} {r0 : State} (dt : Nat) (slots : List Nat) (s : State) (h_pba : ∀ k, W0 (0x38000 + 4 * (k % 64))) (h_GLB_YIELDCNT : W0 R.GLB_YIELDCNT) (h_GLB_YIELDLAST : W0 R.GLB_YIELDLAST) (h_GLB_YIELDFRM : W0 R.GLB_YIELDFRM) (h_GLB_EVTOVF : W0 R.GLB_EVTOVF) (h_QUE_STAT : ∀ i, W0 (R.QUE_STAT i)) (h_QUE_RET : ∀ i, W0 (R.QUE_RET i)) (h_SOR_GSTAT : W0 R.SOR_GSTAT) (h_SRF_STAT : W0 R.SRF_STAT) (h_SRF_FREEPG : W0 R.SRF_FREEPG) (h_SRF_PFSTAT : W0 R.SRF_PFSTAT) (h_SRF_PFLAST : W0 R.SRF_PFLAST) (h_SRF_TCMISS : W0 R.SRF_TCMISS) (h_CMP_QSTAT : W0 R.CMP_QSTAT) (h_CMP_LERR : W0 R.CMP_LERR) (h_CMP_CANNOW : ∀ i, W0 (R.CMP_CANNOW i)) (h_CMP_LNOW : ∀ i, W0 (R.CMP_LNOW i)) (h_FRT_COMMIT : W0 R.FRT_COMMIT) (h_FRT_FRAME : W0 R.FRT_FRAME) (h_FRT_NEXTLAT : W0 R.FRT_NEXTLAT) (h_FRT_PERNS : W0 R.FRT_PERNS) (h_FRT_PERFRAC : W0 R.FRT_PERFRAC) (h_FRT_LAT : W0 R.FRT_LAT) (h_FRT_WIN : W0 R.FRT_WIN) (h_FRT_MARGIN : W0 R.FRT_MARGIN) (h_FRT_EFRAME : W0 R.FRT_EFRAME) (h_FRT_ANCHOR : W0 R.FRT_ANCHOR) (h_FRT_MSTAT : W0 R.FRT_MSTAT) (h_FRT_USTAT : W0 R.FRT_USTAT) (h_FRT_UFRM : W0 R.FRT_UFRM) (h_CHN_PERR : ∀ i, W0 (R.CHN_PERR i)) (h_TIM_PGCFG : ∀ i, W0 (R.TIM_PGCFG i)) (h_TIM_PGSTART : ∀ i, W0 (R.TIM_PGSTART i)) (h_TIM_PGPER : ∀ i, W0 (R.TIM_PGPER i)) (h_TIM_PGPERF : ∀ i, W0 (R.TIM_PGPERF i)) (h_TIM_PGSTAT : ∀ i, W0 (R.TIM_PGSTAT i)) (h_TIM_PGNEXT : ∀ i, W0 (R.TIM_PGNEXT i)) (h_DRC_ECCSTAT : W0 R.DRC_ECCSTAT) (h_DRC_UEADDR : W0 R.DRC_UEADDR) {t0 : State} (h0 : RegsBut W0 r0 s) (ht : execSenderCadence dt slots s = .next t0) :
    RegsBut W0 r0 t0 := by
  unfold execSenderCadence at ht
  apply whenOn_regs (ht := ht)
  repeat' first
    | with_reducible assumption
    | with_reducible apply advance_regs
    | with_reducible apply senderCadence_regs
    | with_reducible apply snapSettle_regs
    | split
    | dsimp only
    | with_reducible intro _

theorem execSnapEntry_regs {W0 : Nat → Prop} {r0 : State} (host : HostRes) (s : State) (h_pba : ∀ k, W0 (0x38000 + 4 * (k % 64))) (h_GLB_EVTOVF : W0 R.GLB_EVTOVF) (h_QUE_STAT : ∀ i, W0 (R.QUE_STAT i)) (h_QUE_RET : ∀ i, W0 (R.QUE_RET i)) (h_SOR_TGTSTAT : ∀ i, W0 (R.SOR_TGTSTAT i)) (h_SRF_TCMISS : W0 R.SRF_TCMISS) (h_CHN_PERR : ∀ i, W0 (R.CHN_PERR i)) (h_TAN_SNAPSTAT : W0 R.TAN_SNAPSTAT) (h_TAN_SNAPSEEN : W0 R.TAN_SNAPSEEN) (h_DRC_ECCSTAT : W0 R.DRC_ECCSTAT) (h_DRC_UEADDR : W0 R.DRC_UEADDR) {t0 : State} (h0 : RegsBut W0 r0 s) (ht : execSnapEntry host s = .next t0) :
    RegsBut W0 r0 t0 := by
  unfold execSnapEntry at ht
  apply whenOn_regs (ht := ht)
  repeat' first
    | with_reducible assumption
    | with_reducible apply onEntryRead_regs
    | with_reducible apply snapEntry_regs
    | split
    | dsimp only
    | with_reducible intro _

theorem execSnapCommitRepeat_regs {W0 : Nat → Prop} {r0 : State} (dt : Nat) (s : State) (h_pba : ∀ k, W0 (0x38000 + 4 * (k % 64))) (h_GLB_EVTOVF : W0 R.GLB_EVTOVF) (h_SOR_GSTAT : W0 R.SOR_GSTAT) (h_CHN_PERR : ∀ i, W0 (R.CHN_PERR i)) {t0 : State} (h0 : RegsBut W0 r0 s) (ht : execSnapCommitRepeat dt s = .next t0) :
    RegsBut W0 r0 t0 := by
  unfold execSnapCommitRepeat at ht
  apply whenOn_regs (ht := ht)
  repeat' first
    | with_reducible assumption
    | with_reducible apply advance_regs
    | with_reducible apply commitRepeat_regs

theorem execSnapPartLetter_regs {W0 : Nat → Prop} {r0 : State} (host : HostRes) (s : State) (h_pba : ∀ k, W0 (0x38000 + 4 * (k % 64))) (h_GLB_EVTOVF : W0 R.GLB_EVTOVF) (h_QUE_STAT : ∀ i, W0 (R.QUE_STAT i)) (h_QUE_RET : ∀ i, W0 (R.QUE_RET i)) (h_SRF_PFSTAT : W0 R.SRF_PFSTAT) (h_SRF_PFLAST : W0 R.SRF_PFLAST) (h_SRF_TCMISS : W0 R.SRF_TCMISS) (h_FRT_COMMIT : W0 R.FRT_COMMIT) (h_FRT_NEXTLAT : W0 R.FRT_NEXTLAT) (h_CHN_PERR : ∀ i, W0 (R.CHN_PERR i)) (h_TAN_SNAPSTAT : W0 R.TAN_SNAPSTAT) (h_TAN_SNAPGEN : W0 R.TAN_SNAPGEN) (h_TAN_SNAPSEEN : W0 R.TAN_SNAPSEEN) (h_TAN_SNAPLEN : W0 R.TAN_SNAPLEN) (h_DRC_ECCSTAT : W0 R.DRC_ECCSTAT) (h_DRC_UEADDR : W0 R.DRC_UEADDR) (h_DRC_HAZSTAT : W0 R.DRC_HAZSTAT) {t0 : State} (h0 : RegsBut W0 r0 s) (ht : execSnapPartLetter host s = .next t0) :
    RegsBut W0 r0 t0 := by
  unfold execSnapPartLetter at ht
  apply whenOn_regs (ht := ht)
  repeat' first
    | with_reducible assumption
    | with_reducible apply snapPart_regs
    | with_reducible apply onSnap_regs
    | split
    | dsimp only
    | with_reducible intro _

theorem execSnapCommitLetter_regs {W0 : Nat → Prop} {r0 : State} (host : HostRes) (s : State) (h_pba : ∀ k, W0 (0x38000 + 4 * (k % 64))) (h_GLB_EVTOVF : W0 R.GLB_EVTOVF) (h_QUE_STAT : ∀ i, W0 (R.QUE_STAT i)) (h_QUE_RET : ∀ i, W0 (R.QUE_RET i)) (h_SRF_PFSTAT : W0 R.SRF_PFSTAT) (h_SRF_PFLAST : W0 R.SRF_PFLAST) (h_SRF_TCMISS : W0 R.SRF_TCMISS) (h_FRT_COMMIT : W0 R.FRT_COMMIT) (h_FRT_NEXTLAT : W0 R.FRT_NEXTLAT) (h_CHN_PERR : ∀ i, W0 (R.CHN_PERR i)) (h_TAN_SNAPSTAT : W0 R.TAN_SNAPSTAT) (h_TAN_SNAPGEN : W0 R.TAN_SNAPGEN) (h_TAN_SNAPSEEN : W0 R.TAN_SNAPSEEN) (h_TAN_SNAPLEN : W0 R.TAN_SNAPLEN) (h_DRC_ECCSTAT : W0 R.DRC_ECCSTAT) (h_DRC_UEADDR : W0 R.DRC_UEADDR) {t0 : State} (h0 : RegsBut W0 r0 s) (ht : execSnapCommitLetter host s = .next t0) :
    RegsBut W0 r0 t0 := by
  unfold execSnapCommitLetter at ht
  apply whenOn_regs (ht := ht)
  repeat' first
    | with_reducible assumption
    | with_reducible apply tryCommit_regs
    | with_reducible apply snapCommit_regs
    | with_reducible apply onSnap_regs
    | split
    | dsimp only
    | with_reducible intro _

theorem execSnapWaitTimeout_regs {W0 : Nat → Prop} {r0 : State} (dt : Nat) (s : State) (h_pba : ∀ k, W0 (0x38000 + 4 * (k % 64))) (h_GLB_EVTOVF : W0 R.GLB_EVTOVF) (h_QUE_STAT : ∀ i, W0 (R.QUE_STAT i)) (h_QUE_RET : ∀ i, W0 (R.QUE_RET i)) (h_SOR_GSTAT : W0 R.SOR_GSTAT) (h_SRF_PFSTAT : W0 R.SRF_PFSTAT) (h_SRF_PFLAST : W0 R.SRF_PFLAST) (h_SRF_TCMISS : W0 R.SRF_TCMISS) (h_FRT_COMMIT : W0 R.FRT_COMMIT) (h_FRT_NEXTLAT : W0 R.FRT_NEXTLAT) (h_CHN_PERR : ∀ i, W0 (R.CHN_PERR i)) (h_TAN_SNAPSTAT : W0 R.TAN_SNAPSTAT) (h_DRC_ECCSTAT : W0 R.DRC_ECCSTAT) (h_DRC_UEADDR : W0 R.DRC_UEADDR) {t0 : State} (h0 : RegsBut W0 r0 s) (ht : execSnapWaitTimeout dt s = .next t0) :
    RegsBut W0 r0 t0 := by
  unfold execSnapWaitTimeout at ht
  apply whenOn_regs (ht := ht)
  repeat' first
    | with_reducible assumption
    | with_reducible apply advance_regs
    | with_reducible apply snapTimeout_regs
    | split
    | dsimp only
    | with_reducible intro _

end Sys2Proof.Machine
end

