-- ==== Sys2Proof/Laws/RegsLnk.lean ====
section
/-! SUPPORT. Which registers each operation of Machine/Lnk.lean may write. -/

namespace Sys2Proof.Machine

theorem setPort_regs {W0 : Nat → Prop} {r0 : State} (s : State) (p : Nat) (x : PortSt) (h0 : RegsBut W0 r0 s) :
    RegsBut W0 r0 (setPort s p x) := by
  unfold setPort
  repeat' first
    | with_reducible assumption
    | simp only [RegsBut.lnk]

theorem setStage_regs {W0 : Nat → Prop} {r0 : State} (s : State) (p : Nat) (st : Nat) (h_LNK_PSTAT : ∀ i, W0 (R.LNK_PSTAT i)) (h0 : RegsBut W0 r0 s) :
    RegsBut W0 r0 (setStage s p st) := by
  unfold setStage
  repeat' first
    | with_reducible assumption
    | with_reducible exact h_LNK_PSTAT _
    | with_reducible apply setF_regs
    | with_reducible apply setPort_regs

theorem lanesDark_regs {W0 : Nat → Prop} {r0 : State} (s : State) (p : Nat) (h_LNK_LSTAT : ∀ i, W0 (R.LNK_LSTAT i)) (h0 : RegsBut W0 r0 s) :
    RegsBut W0 r0 (lanesDark s p) := by
  unfold lanesDark
  repeat' first
    | with_reducible assumption
    | with_reducible exact h_LNK_LSTAT _
    | with_reducible apply setF_regs
    | with_reducible apply RegsBut.foldl
    | split
    | dsimp only
    | with_reducible intro _

theorem stopForward_regs {W0 : Nat → Prop} {r0 : State} (s : State) (h0 : RegsBut W0 r0 s) :
    RegsBut W0 r0 (stopForward s) := by
  unfold stopForward
  repeat' first
    | with_reducible assumption
    | with_reducible apply emit_regs
    | with_reducible apply setPort_regs
    | with_reducible apply RegsBut.foldl
    | split
    | dsimp only
    | with_reducible intro _

theorem setTaps_regs {W0 : Nat → Prop} {r0 : State} (s : State) (p : Nat) (l : Nat) (t : Taps) (h0 : RegsBut W0 r0 s) :
    RegsBut W0 r0 (setTaps s p l t) := by
  unfold setTaps
  repeat' first
    | with_reducible assumption
    | with_reducible apply setPort_regs

theorem calAbort_regs {W0 : Nat → Prop} {r0 : State} (s : State) (c : Status) (keepCopy : Bool) (h_LNK_PMAP : ∀ i, W0 (R.LNK_PMAP i)) (h_LNK_LSTAT : ∀ i, W0 (R.LNK_LSTAT i)) (h_CAL_STAT : W0 R.CAL_STAT) (h0 : RegsBut W0 r0 s) :
    RegsBut W0 r0 (calAbort s c keepCopy) := by
  unfold calAbort
  repeat' first
    | with_reducible assumption
    | simp only [RegsBut.cal]
    | with_reducible exact h_LNK_PMAP _
    | with_reducible exact h_LNK_LSTAT _
    | with_reducible exact h_CAL_STAT
    | with_reducible apply setF_regs
    | with_reducible apply incSat_regs
    | with_reducible apply setTaps_regs
    | split

theorem calAbortOn_regs {W0 : Nat → Prop} {r0 : State} (s : State) (p : Nat) (c : Status) (h_LNK_PMAP : ∀ i, W0 (R.LNK_PMAP i)) (h_LNK_LSTAT : ∀ i, W0 (R.LNK_LSTAT i)) (h_CAL_STAT : W0 R.CAL_STAT) (h0 : RegsBut W0 r0 s) :
    RegsBut W0 r0 (calAbortOn s p c) := by
  unfold calAbortOn
  repeat' first
    | with_reducible assumption
    | with_reducible apply calAbort_regs
    | split

theorem portQuiet_regs {W0 : Nat → Prop} {r0 : State} (s : State) (p : Nat) (h_CHN_PERR : ∀ i, W0 (R.CHN_PERR i)) (h_LNK_PMAP : ∀ i, W0 (R.LNK_PMAP i)) (h_LNK_LSTAT : ∀ i, W0 (R.LNK_LSTAT i)) (h_CAL_STAT : W0 R.CAL_STAT) (h0 : RegsBut W0 r0 s) :
    RegsBut W0 r0 (portQuiet s p) := by
  unfold portQuiet
  repeat' first
    | with_reducible assumption
    | simp only [RegsBut.chn]
    | with_reducible exact h_CHN_PERR _
    | with_reducible apply incSat_regs
    | with_reducible apply setTx_regs
    | with_reducible apply setPort_regs
    | with_reducible apply lanesDark_regs
    | with_reducible apply calAbortOn_regs
    | split

theorem portDown_regs {W0 : Nat → Prop} {r0 : State} (s : State) (p : Nat) (st : Nat) (h_pba : ∀ k, W0 (0x38000 + 4 * (k % 64))) (h_GLB_EVTOVF : W0 R.GLB_EVTOVF) (h_CHN_PERR : ∀ i, W0 (R.CHN_PERR i)) (h_LNK_PSTAT : ∀ i, W0 (R.LNK_PSTAT i)) (h_LNK_PMAP : ∀ i, W0 (R.LNK_PMAP i)) (h_LNK_PCNT : ∀ i, W0 (R.LNK_PCNT i)) (h_LNK_LSTAT : ∀ i, W0 (R.LNK_LSTAT i)) (h_TAN_TSTAT : W0 R.TAN_TSTAT) (h_CAL_STAT : W0 R.CAL_STAT) (h0 : RegsBut W0 r0 s) :
    RegsBut W0 r0 (portDown s p st) := by
  unfold portDown
  repeat' first
    | with_reducible assumption
    | with_reducible exact h_LNK_PSTAT _
    | with_reducible exact h_LNK_PCNT _
    | with_reducible apply setF_regs
    | with_reducible apply incSat_regs
    | with_reducible apply emit_regs
    | with_reducible apply raise_regs
    | with_reducible apply tanDead_regs
    | with_reducible apply setStage_regs
    | with_reducible apply lanesDark_regs
    | with_reducible apply stopForward_regs
    | with_reducible apply portQuiet_regs
    | split
    | dsimp only

theorem attemptFail_regs {W0 : Nat → Prop} {r0 : State} (s : State) (p : Nat) (c : Status) (h_LNK_PSTAT : ∀ i, W0 (R.LNK_PSTAT i)) (h_LNK_PCNT : ∀ i, W0 (R.LNK_PCNT i)) (h_LNK_LSTAT : ∀ i, W0 (R.LNK_LSTAT i)) (h0 : RegsBut W0 r0 s) :
    RegsBut W0 r0 (attemptFail s p c) := by
  unfold attemptFail
  repeat' first
    | with_reducible assumption
    | with_reducible exact h_LNK_PSTAT _
    | with_reducible exact h_LNK_PCNT _
    | with_reducible apply setF_regs
    | with_reducible apply incSat_regs
    | with_reducible apply drawNat_regs
    | with_reducible apply emit_regs
    | with_reducible apply setPort_regs
    | with_reducible apply setStage_regs
    | with_reducible apply lanesDark_regs

theorem injSettle_regs {W0 : Nat → Prop} {r0 : State} (s : State) (i : Nat) (n : Nat) (on : Bool) (h_LNK_LPRBS : ∀ i, W0 (R.LNK_LPRBS i)) (h0 : RegsBut W0 r0 s) :
    RegsBut W0 r0 (injSettle s i n on) := by
  unfold injSettle
  repeat' first
    | with_reducible assumption
    | with_reducible exact h_LNK_LPRBS _
    | with_reducible apply incSat_regs
    | with_reducible apply setPort_regs

theorem testLane_regs {W0 : Nat → Prop} {r0 : State} (s : State) (i : Nat) (b : Bytes) (h_LNK_LSTAT : ∀ i, W0 (R.LNK_LSTAT i)) (h_LNK_LPRBS : ∀ i, W0 (R.LNK_LPRBS i)) (h0 : RegsBut W0 r0 s) :
    RegsBut W0 r0 (testLane s i b) := by
  unfold testLane
  repeat' first
    | with_reducible assumption
    | with_reducible exact h_LNK_LSTAT _
    | with_reducible exact h_LNK_LPRBS _
    | with_reducible apply setF_regs
    | with_reducible apply incSat_regs
    | with_reducible apply emit_regs
    | with_reducible apply setPort_regs
    | with_reducible refine RegsBut.of_snd (by with_reducible assumption) ?_
    | with_reducible refine RegsBut.of_snd2 (by with_reducible assumption) ?_
    | split
    | dsimp only

theorem testSlot_regs {W0 : Nat → Prop} {r0 : State} (s : State) (p : Nat) (raw : Bytes) (h_LNK_LSTAT : ∀ i, W0 (R.LNK_LSTAT i)) (h_LNK_LPRBS : ∀ i, W0 (R.LNK_LPRBS i)) (h0 : RegsBut W0 r0 s) :
    RegsBut W0 r0 (testSlot s p raw) := by
  unfold testSlot
  repeat' first
    | with_reducible assumption
    | with_reducible apply testLane_regs
    | with_reducible apply RegsBut.foldl
    | split
    | dsimp only
    | with_reducible intro _

theorem lctlReset_regs {W0 : Nat → Prop} {r0 : State} (s : State) (p : Nat) (h_LNK_LCTL : ∀ i, W0 (R.LNK_LCTL i)) (h_LNK_LSTAT : ∀ i, W0 (R.LNK_LSTAT i)) (h_LNK_LPRBS : ∀ i, W0 (R.LNK_LPRBS i)) (h0 : RegsBut W0 r0 s) :
    RegsBut W0 r0 (lctlReset s p) := by
  unfold lctlReset
  repeat' first
    | with_reducible assumption
    | with_reducible exact h_LNK_LCTL _
    | with_reducible exact h_LNK_LSTAT _
    | with_reducible apply setWord_regs
    | with_reducible apply setF_regs
    | with_reducible apply setPort_regs
    | with_reducible apply injSettle_regs
    | with_reducible apply RegsBut.foldl
    | split
    | dsimp only
    | with_reducible intro _

theorem toDetect_regs {W0 : Nat → Prop} {r0 : State} (s : State) (p : Nat) (h_LNK_PSTAT : ∀ i, W0 (R.LNK_PSTAT i)) (h0 : RegsBut W0 r0 s) :
    RegsBut W0 r0 (toDetect s p) := by
  unfold toDetect
  repeat' first
    | with_reducible assumption
    | with_reducible apply emit_regs
    | with_reducible apply setPort_regs
    | with_reducible apply setStage_regs

theorem portControl_regs {W0 : Nat → Prop} {r0 : State} (s : State) (p : Nat) (wasEn : Bool) (wasTest : Bool) (retrain : Bool) (h_pba : ∀ k, W0 (0x38000 + 4 * (k % 64))) (h_GLB_EVTOVF : W0 R.GLB_EVTOVF) (h_CHN_PERR : ∀ i, W0 (R.CHN_PERR i)) (h_LNK_PSTAT : ∀ i, W0 (R.LNK_PSTAT i)) (h_LNK_PMAP : ∀ i, W0 (R.LNK_PMAP i)) (h_LNK_PCNT : ∀ i, W0 (R.LNK_PCNT i)) (h_LNK_LCTL : ∀ i, W0 (R.LNK_LCTL i)) (h_LNK_LSTAT : ∀ i, W0 (R.LNK_LSTAT i)) (h_LNK_LPRBS : ∀ i, W0 (R.LNK_LPRBS i)) (h_TAN_TSTAT : W0 R.TAN_TSTAT) (h_CAL_STAT : W0 R.CAL_STAT) (h0 : RegsBut W0 r0 s) :
    RegsBut W0 r0 (portControl s p wasEn wasTest retrain) := by
  unfold portControl
  repeat' first
    | with_reducible assumption
    | with_reducible apply portDown_regs
    | with_reducible apply lctlReset_regs
    | with_reducible apply toDetect_regs
    | split
    | dsimp only

theorem laneControl_regs {W0 : Nat → Prop} {r0 : State} (s0 : State) (s : State) (i : Nat) (inj : Bool) (h_LNK_LSTAT : ∀ i, W0 (R.LNK_LSTAT i)) (h_LNK_LPRBS : ∀ i, W0 (R.LNK_LPRBS i)) (h0 : RegsBut W0 r0 s) :
    RegsBut W0 r0 (laneControl s0 s i inj) := by
  unfold laneControl
  repeat' first
    | with_reducible assumption
    | with_reducible exact h_LNK_LSTAT _
    | with_reducible exact h_LNK_LPRBS _
    | with_reducible apply setF_regs
    | with_reducible apply incSat_regs
    | with_reducible apply emit_regs
    | with_reducible apply setPort_regs
    | with_reducible apply injSettle_regs
    | split

theorem sendSets_regs {W0 : Nat → Prop} {r0 : State} (s : State) (p : Nat) (h0 : RegsBut W0 r0 s) :
    RegsBut W0 r0 (sendSets s p) := by
  unfold sendSets
  repeat' first
    | with_reducible assumption
    | with_reducible apply emit_regs
    | split

theorem readSets_regs {W0 : Nat → Prop} {r0 : State} (s : State) (p : Nat) (sets : List Bytes) (h_LNK_PSTAT : ∀ i, W0 (R.LNK_PSTAT i)) (h0 : RegsBut W0 r0 s) :
    RegsBut W0 r0 (readSets s p sets) := by
  unfold readSets
  repeat' first
    | with_reducible assumption
    | with_reducible exact h_LNK_PSTAT _
    | with_reducible apply setF_regs
    | with_reducible apply setPort_regs
    | with_reducible apply RegsBut.foldl
    | split
    | dsimp only
    | with_reducible intro _

theorem receiverDetect_regs {W0 : Nat → Prop} {r0 : State} (s : State) (p : Nat) (found : Nat) (h_LNK_PSTAT : ∀ i, W0 (R.LNK_PSTAT i)) (h0 : RegsBut W0 r0 s) :
    RegsBut W0 r0 (receiverDetect s p found) := by
  unfold receiverDetect
  repeat' first
    | with_reducible assumption
    | with_reducible exact h_LNK_PSTAT _
    | with_reducible apply setF_regs
    | with_reducible apply setPort_regs
    | with_reducible apply setStage_regs
    | with_reducible apply sendSets_regs
    | split

theorem countLanes_regs {W0 : Nat → Prop} {r0 : State} (s : State) (p : Nat) (cv : List Nat) (disp : List Nat) (h_LNK_LCV : ∀ i, W0 (R.LNK_LCV i)) (h0 : RegsBut W0 r0 s) :
    RegsBut W0 r0 (countLanes s p cv disp) := by
  unfold countLanes
  repeat' first
    | with_reducible assumption
    | with_reducible exact h_LNK_LCV _
    | with_reducible apply incSat_regs
    | with_reducible apply RegsBut.foldl
    | split
    | dsimp only
    | with_reducible intro _

theorem presetTrial_regs {W0 : Nat → Prop} {r0 : State} (s : State) (p : Nat) (o : TrialObs) (h_LNK_PSTAT : ∀ i, W0 (R.LNK_PSTAT i)) (h_LNK_LCV : ∀ i, W0 (R.LNK_LCV i)) (h0 : RegsBut W0 r0 s) :
    RegsBut W0 r0 (presetTrial s p o) := by
  unfold presetTrial
  repeat' first
    | with_reducible assumption
    | with_reducible apply setPort_regs
    | with_reducible apply sendSets_regs
    | with_reducible apply readSets_regs
    | with_reducible apply countLanes_regs
    | split

theorem stageLanes_regs {W0 : Nat → Prop} {r0 : State} (s : State) (p : Nat) (m : Nat) (f : Nat → Fld) (h_f : ∀ k, W0 (f k).off) (h0 : RegsBut W0 r0 s) :
    RegsBut W0 r0 (stageLanes s p m f) := by
  unfold stageLanes
  repeat' first
    | with_reducible assumption
    | with_reducible apply setF_regs
    | with_reducible apply setPort_regs
    | with_reducible apply RegsBut.foldl
    | with_reducible apply RegsBut.snd
    | with_reducible apply RegsBut.snd2
    | with_reducible apply RegsBut.fst
    | with_reducible apply RegsBut.foldl_snd
    | with_reducible apply RegsBut.foldl_snd2
    | with_reducible apply RegsBut.foldl_fst
    | with_reducible refine RegsBut.of_fst (by with_reducible assumption) ?_
    | with_reducible refine RegsBut.of_snd (by with_reducible assumption) ?_
    | with_reducible refine RegsBut.of_snd2 (by with_reducible assumption) ?_
    | with_reducible exact h_f _
    | split
    | dsimp only
    | with_reducible intro _

theorem stageOrder_regs {W0 : Nat → Prop} {r0 : State} (s : State) (p : Nat) (o : StageObs) (h_LNK_PSTAT : ∀ i, W0 (R.LNK_PSTAT i)) (h_LNK_PMAP : ∀ i, W0 (R.LNK_PMAP i)) (h_LNK_PCNT : ∀ i, W0 (R.LNK_PCNT i)) (h_LNK_LSTAT : ∀ i, W0 (R.LNK_LSTAT i)) (h0 : RegsBut W0 r0 s) :
    RegsBut W0 r0 (stageOrder s p o) := by
  unfold stageOrder
  repeat' first
    | with_reducible assumption
    | with_reducible exact h_LNK_PMAP _
    | with_reducible apply setWord_regs
    | with_reducible apply setF_regs
    | with_reducible apply setStage_regs
    | with_reducible apply attemptFail_regs
    | split
    | dsimp only

theorem showLogical_regs {W0 : Nat → Prop} {r0 : State} (s : State) (p : Nat) (h_LNK_LSTAT : ∀ i, W0 (R.LNK_LSTAT i)) (h0 : RegsBut W0 r0 s) :
    RegsBut W0 r0 (showLogical s p) := by
  unfold showLogical
  repeat' first
    | with_reducible assumption
    | with_reducible exact h_LNK_LSTAT _
    | with_reducible apply setF_regs
    | with_reducible apply RegsBut.foldl
    | split
    | dsimp only
    | with_reducible intro _

theorem stageSpare_regs {W0 : Nat → Prop} {r0 : State} (s : State) (p : Nat) (h_LNK_PSTAT : ∀ i, W0 (R.LNK_PSTAT i)) (h_LNK_PMAP : ∀ i, W0 (R.LNK_PMAP i)) (h_LNK_PCNT : ∀ i, W0 (R.LNK_PCNT i)) (h_LNK_LSTAT : ∀ i, W0 (R.LNK_LSTAT i)) (h_TIM_INC : W0 R.TIM_INC) (h0 : RegsBut W0 r0 s) :
    RegsBut W0 r0 (stageSpare s p) := by
  unfold stageSpare
  repeat' first
    | with_reducible assumption
    | with_reducible exact h_LNK_PMAP _
    | with_reducible apply setF_regs
    | with_reducible apply steer_regs
    | with_reducible apply setPort_regs
    | with_reducible apply setStage_regs
    | with_reducible apply attemptFail_regs
    | with_reducible apply showLogical_regs
    | split
    | dsimp only

theorem startLane_regs {W0 : Nat → Prop} {r0 : State} (s : State) (p : Nat) (l : Nat) (eye : Nat × Nat) (h_CAL_LQUAL : ∀ i, W0 (R.CAL_LQUAL i)) (h0 : RegsBut W0 r0 s) :
    RegsBut W0 r0 (startLane s p l eye) := by
  unfold startLane
  repeat' first
    | with_reducible assumption
    | with_reducible exact h_CAL_LQUAL _
    | with_reducible apply setF_regs
    | with_reducible apply setPort_regs
    | split
    | dsimp only

theorem steerSend_regs {W0 : Nat → Prop} {r0 : State} (s : State) (p : Nat) (n : Nat) (h_TIM_INC : W0 R.TIM_INC) (h0 : RegsBut W0 r0 s) :
    RegsBut W0 r0 (steerSend s p n) := by
  unfold steerSend
  repeat' first
    | with_reducible assumption
    | with_reducible apply emit_regs
    | with_reducible apply steer_regs
    | with_reducible apply setPort_regs
    | split

theorem steerFor_regs {W0 : Nat → Prop} {r0 : State} (s : State) (p : Nat) (n : Nat) (h_LNK_PMAP : ∀ i, W0 (R.LNK_PMAP i)) (h_TIM_INC : W0 R.TIM_INC) (h0 : RegsBut W0 r0 s) :
    RegsBut W0 r0 (steerFor s p n) := by
  unfold steerFor
  repeat' first
    | with_reducible assumption
    | with_reducible exact h_LNK_PMAP _
    | with_reducible apply setF_regs
    | with_reducible apply steerSend_regs

theorem chainUp_regs {W0 : Nat → Prop} {r0 : State} (s : State) (p : Nat) (o : StageObs) (h_pba : ∀ k, W0 (0x38000 + 4 * (k % 64))) (h_GLB_EVTOVF : W0 R.GLB_EVTOVF) (h_CHN_PERR : ∀ i, W0 (R.CHN_PERR i)) (h_LNK_PSTAT : ∀ i, W0 (R.LNK_PSTAT i)) (h_LNK_PMAP : ∀ i, W0 (R.LNK_PMAP i)) (h_LNK_PCNT : ∀ i, W0 (R.LNK_PCNT i)) (h_TIM_INC : W0 R.TIM_INC) (h_CAL_LQUAL : ∀ i, W0 (R.CAL_LQUAL i)) (h0 : RegsBut W0 r0 s) :
    RegsBut W0 r0 (chainUp s p o) := by
  unfold chainUp
  repeat' first
    | with_reducible assumption
    | with_reducible exact h_LNK_PSTAT _
    | with_reducible exact h_LNK_PCNT _
    | with_reducible apply setF_regs
    | with_reducible apply incSat_regs
    | with_reducible apply sendHeld_regs
    | with_reducible apply raise_regs
    | with_reducible apply steer_regs
    | with_reducible apply preqRestart_regs
    | with_reducible apply setPort_regs
    | with_reducible apply setStage_regs
    | with_reducible apply startLane_regs
    | with_reducible apply steerFor_regs
    | with_reducible apply RegsBut.foldl
    | split
    | dsimp only
    | with_reducible intro _

theorem stagePass_regs {W0 : Nat → Prop} {r0 : State} (s : State) (p : Nat) (o : StageObs) (h_LNK_PSTAT : ∀ i, W0 (R.LNK_PSTAT i)) (h_LNK_PMAP : ∀ i, W0 (R.LNK_PMAP i)) (h_LNK_PCNT : ∀ i, W0 (R.LNK_PCNT i)) (h_LNK_LSTAT : ∀ i, W0 (R.LNK_LSTAT i)) (h_TIM_INC : W0 R.TIM_INC) (h0 : RegsBut W0 r0 s) :
    RegsBut W0 r0 (stagePass s p o) := by
  unfold stagePass
  repeat' first
    | with_reducible assumption
    | with_reducible exact h_LNK_PMAP _
    | with_reducible exact h_LNK_LSTAT _
    | with_reducible apply setF_regs
    | with_reducible apply emit_regs
    | with_reducible apply setPort_regs
    | with_reducible apply setStage_regs
    | with_reducible apply attemptFail_regs
    | with_reducible apply stageLanes_regs
    | with_reducible apply stageOrder_regs
    | with_reducible apply stageSpare_regs
    | split
    | dsimp only

theorem stageDone_regs {W0 : Nat → Prop} {r0 : State} (s : State) (p : Nat) (o : StageObs) (h_pba : ∀ k, W0 (0x38000 + 4 * (k % 64))) (h_GLB_EVTOVF : W0 R.GLB_EVTOVF) (h_CHN_PERR : ∀ i, W0 (R.CHN_PERR i)) (h_LNK_PSTAT : ∀ i, W0 (R.LNK_PSTAT i)) (h_LNK_PMAP : ∀ i, W0 (R.LNK_PMAP i)) (h_LNK_PCNT : ∀ i, W0 (R.LNK_PCNT i)) (h_LNK_LSTAT : ∀ i, W0 (R.LNK_LSTAT i)) (h_LNK_LCV : ∀ i, W0 (R.LNK_LCV i)) (h_TIM_INC : W0 R.TIM_INC) (h_CAL_LQUAL : ∀ i, W0 (R.CAL_LQUAL i)) (h0 : RegsBut W0 r0 s) :
    RegsBut W0 r0 (stageDone s p o) := by
  unfold stageDone
  repeat' first
    | with_reducible assumption
    | with_reducible apply sendSets_regs
    | with_reducible apply readSets_regs
    | with_reducible apply countLanes_regs
    | with_reducible apply chainUp_regs
    | with_reducible apply stagePass_regs
    | split
    | dsimp only

theorem steerRepeat_regs {W0 : Nat → Prop} {r0 : State} (s : State) (p : Nat) (h_TIM_INC : W0 R.TIM_INC) (h0 : RegsBut W0 r0 s) :
    RegsBut W0 r0 (steerRepeat s p) := by
  unfold steerRepeat
  repeat' first
    | with_reducible assumption
    | with_reducible apply steer_regs
    | with_reducible apply steerSend_regs
    | split
    | dsimp only

theorem showSpared_regs {W0 : Nat → Prop} {r0 : State} (s : State) (p : Nat) (n : Nat) (h_LNK_LSTAT : ∀ i, W0 (R.LNK_LSTAT i)) (h0 : RegsBut W0 r0 s) :
    RegsBut W0 r0 (showSpared s p n) := by
  unfold showSpared
  repeat' first
    | with_reducible assumption
    | with_reducible exact h_LNK_LSTAT _
    | with_reducible apply setF_regs

theorem pannierLost_regs {W0 : Nat → Prop} {r0 : State} (s : State) (p : Nat) (h_pba : ∀ k, W0 (0x38000 + 4 * (k % 64))) (h_GLB_EVTOVF : W0 R.GLB_EVTOVF) (h_CHN_PERR : ∀ i, W0 (R.CHN_PERR i)) (h_LNK_PSTAT : ∀ i, W0 (R.LNK_PSTAT i)) (h_LNK_PMAP : ∀ i, W0 (R.LNK_PMAP i)) (h_LNK_PCNT : ∀ i, W0 (R.LNK_PCNT i)) (h_LNK_LSTAT : ∀ i, W0 (R.LNK_LSTAT i)) (h_TAN_TSTAT : W0 R.TAN_TSTAT) (h_CAL_STAT : W0 R.CAL_STAT) (h0 : RegsBut W0 r0 s) :
    RegsBut W0 r0 (pannierLost s p) := by
  unfold pannierLost
  repeat' first
    | with_reducible assumption
    | with_reducible exact h_LNK_LSTAT _
    | with_reducible apply setF_regs
    | with_reducible apply setPort_regs
    | with_reducible apply calAbort_regs
    | with_reducible apply portDown_regs
    | split
    | dsimp only

theorem laneLost_regs {W0 : Nat → Prop} {r0 : State} (s : State) (p : Nat) (n : Nat) (h_pba : ∀ k, W0 (0x38000 + 4 * (k % 64))) (h_GLB_EVTOVF : W0 R.GLB_EVTOVF) (h_CHN_PERR : ∀ i, W0 (R.CHN_PERR i)) (h_LNK_PSTAT : ∀ i, W0 (R.LNK_PSTAT i)) (h_LNK_PMAP : ∀ i, W0 (R.LNK_PMAP i)) (h_LNK_PCNT : ∀ i, W0 (R.LNK_PCNT i)) (h_LNK_LSTAT : ∀ i, W0 (R.LNK_LSTAT i)) (h_TIM_INC : W0 R.TIM_INC) (h_TAN_TSTAT : W0 R.TAN_TSTAT) (h_CAL_STAT : W0 R.CAL_STAT) (h0 : RegsBut W0 r0 s) :
    RegsBut W0 r0 (laneLost s p n) := by
  unfold laneLost
  repeat' first
    | with_reducible assumption
    | with_reducible exact h_LNK_PMAP _
    | with_reducible exact h_LNK_LSTAT _
    | with_reducible apply setF_regs
    | with_reducible apply setPort_regs
    | with_reducible apply calAbort_regs
    | with_reducible apply portDown_regs
    | with_reducible apply steerFor_regs
    | with_reducible apply showSpared_regs
    | with_reducible apply pannierLost_regs
    | split
    | dsimp only

theorem steerReceive_regs {W0 : Nat → Prop} {r0 : State} (s : State) (p : Nat) (cmd : Nat) (ncmd : Nat) (h0 : RegsBut W0 r0 s) :
    RegsBut W0 r0 (steerReceive s p cmd ncmd) := by
  unfold steerReceive
  repeat' first
    | with_reducible assumption
    | with_reducible apply emit_regs
    | with_reducible apply setPort_regs
    | split

theorem pannierSwitch_regs {W0 : Nat → Prop} {r0 : State} (s : State) (p : Nat) (h_LNK_PMAP : ∀ i, W0 (R.LNK_PMAP i)) (h_LNK_LSTAT : ∀ i, W0 (R.LNK_LSTAT i)) (h0 : RegsBut W0 r0 s) :
    RegsBut W0 r0 (pannierSwitch s p) := by
  unfold pannierSwitch
  repeat' first
    | with_reducible assumption
    | with_reducible exact h_LNK_PMAP _
    | with_reducible apply setF_regs
    | with_reducible apply showSpared_regs
    | split

theorem blockForward_regs {W0 : Nat → Prop} {r0 : State} (s : State) (q : Nat) (kind : Nat) (len : Nat) (h_TIM_INC : W0 R.TIM_INC) (h0 : RegsBut W0 r0 s) :
    RegsBut W0 r0 (blockForward s q kind len) := by
  unfold blockForward
  repeat' first
    | with_reducible assumption
    | with_reducible apply emit_regs
    | with_reducible apply steer_regs
    | with_reducible apply setPort_regs
    | split
    | dsimp only

theorem blockReceive_regs {W0 : Nat → Prop} {r0 : State} (s : State) (p : Nat) (coms : Nat) (marks : List Nat) (cut : Nat) (len : Nat) (fill : Nat) (cv : List Nat) (disp : List Nat) (h_LNK_PERR : ∀ i, W0 (R.LNK_PERR i)) (h_LNK_LCV : ∀ i, W0 (R.LNK_LCV i)) (h_TIM_INC : W0 R.TIM_INC) (h0 : RegsBut W0 r0 s) :
    RegsBut W0 r0 (blockReceive s p coms marks cut len fill cv disp) := by
  unfold blockReceive
  repeat' first
    | with_reducible assumption
    | with_reducible exact h_LNK_PERR _
    | with_reducible apply incSat_regs
    | with_reducible apply setPort_regs
    | with_reducible apply countLanes_regs
    | with_reducible apply blockForward_regs
    | split
    | dsimp only

theorem elasticSlip_regs {W0 : Nat → Prop} {r0 : State} (s : State) (p : Nat) (cut : Nat) (h_LNK_PERR : ∀ i, W0 (R.LNK_PERR i)) (h0 : RegsBut W0 r0 s) :
    RegsBut W0 r0 (elasticSlip s p cut) := by
  unfold elasticSlip
  repeat' first
    | with_reducible assumption
    | with_reducible exact h_LNK_PERR _
    | with_reducible apply incSat_regs
    | with_reducible apply setPort_regs
    | split

theorem reseed_regs {W0 : Nat → Prop} {r0 : State} (s : State) (p : Nat) (h0 : RegsBut W0 r0 s) :
    RegsBut W0 r0 (reseed s p) := by
  unfold reseed
  repeat' first
    | with_reducible assumption
    | with_reducible apply emit_regs
    | with_reducible apply setPort_regs
    | split
    | dsimp only

theorem adaptWindow_regs {W0 : Nat → Prop} {r0 : State} (s : State) (p : Nat) (l : Nat) (diff : Nat) (taps : Taps) (h_LNK_LSTAT : ∀ i, W0 (R.LNK_LSTAT i)) (h0 : RegsBut W0 r0 s) :
    RegsBut W0 r0 (adaptWindow s p l diff taps) := by
  unfold adaptWindow
  repeat' first
    | with_reducible assumption
    | with_reducible exact h_LNK_LSTAT _
    | with_reducible apply setF_regs
    | with_reducible apply setTaps_regs
    | split
    | dsimp only

theorem laneRevert_regs {W0 : Nat → Prop} {r0 : State} (s : State) (p : Nat) (l : Nat) (h_LNK_PMAP : ∀ i, W0 (R.LNK_PMAP i)) (h_LNK_LSTAT : ∀ i, W0 (R.LNK_LSTAT i)) (h_CAL_STAT : W0 R.CAL_STAT) (h0 : RegsBut W0 r0 s) :
    RegsBut W0 r0 (laneRevert s p l) := by
  unfold laneRevert
  repeat' first
    | with_reducible assumption
    | with_reducible exact h_LNK_LSTAT _
    | with_reducible apply incSat_regs
    | with_reducible apply setPort_regs
    | with_reducible apply calAbort_regs
    | split
    | dsimp only

theorem marginMeasure_regs {W0 : Nat → Prop} {r0 : State} (s : State) (p : Nat) (l : Nat) (ew : Nat) (eh : Nat) (h_LNK_PMAP : ∀ i, W0 (R.LNK_PMAP i)) (h_LNK_LSTAT : ∀ i, W0 (R.LNK_LSTAT i)) (h_LNK_LMARGIN : ∀ i, W0 (R.LNK_LMARGIN i)) (h_CAL_STAT : W0 R.CAL_STAT) (h0 : RegsBut W0 r0 s) :
    RegsBut W0 r0 (marginMeasure s p l ew eh) := by
  unfold marginMeasure
  repeat' first
    | with_reducible assumption
    | with_reducible exact h_LNK_LMARGIN _
    | with_reducible apply setF_regs
    | with_reducible apply setPort_regs
    | with_reducible apply laneRevert_regs
    | split
    | dsimp only

theorem timingChange_regs {W0 : Nat → Prop} {r0 : State} (s : State) (h_LNK_TIMING : W0 R.LNK_TIMING) (h0 : RegsBut W0 r0 s) :
    RegsBut W0 r0 (timingChange s) := by
  unfold timingChange
  repeat' first
    | with_reducible assumption
    | simp only [RegsBut.lnk]
    | with_reducible exact h_LNK_TIMING
    | with_reducible apply setF_regs
    | with_reducible apply incSat_regs
    | split

theorem timingLocked_regs {W0 : Nat → Prop} {r0 : State} (s : State) (h_LNK_TIMING : W0 R.LNK_TIMING) (h0 : RegsBut W0 r0 s) :
    RegsBut W0 r0 (timingLocked s) := by
  unfold timingLocked
  repeat' first
    | with_reducible assumption
    | simp only [RegsBut.lnk]
    | with_reducible exact h_LNK_TIMING
    | with_reducible apply setF_regs
    | split

theorem lnkBlockReset_regs {W0 : Nat → Prop} {r0 : State} (s : State) (h_pba : ∀ k, W0 (0x38000 + 4 * (k % 64))) (h_r0xE0000 : ∀ off, 0xE0000 ≤ off → off < 0xF0000 → W0 off) (h_GLB_EVTOVF : W0 R.GLB_EVTOVF) (h_CHN_PERR : ∀ i, W0 (R.CHN_PERR i)) (h_LNK_PSTAT : ∀ i, W0 (R.LNK_PSTAT i)) (h_LNK_PMAP : ∀ i, W0 (R.LNK_PMAP i)) (h_LNK_PCNT : ∀ i, W0 (R.LNK_PCNT i)) (h_LNK_LSTAT : ∀ i, W0 (R.LNK_LSTAT i)) (h_TAN_TSTAT : W0 R.TAN_TSTAT) (h_CAL_STAT : W0 R.CAL_STAT) (h0 : RegsBut W0 r0 s) :
    RegsBut W0 r0 (lnkBlockReset s) := by
  unfold lnkBlockReset
  repeat' first
    | with_reducible assumption
    | simp only [RegsBut.lnk]
    | with_reducible assumption
    | with_reducible apply resetRegs_regs
    | with_reducible apply calAbort_regs
    | with_reducible apply portDown_regs
    | with_reducible apply RegsBut.foldl
    | split
    | dsimp only
    | with_reducible intro _

theorem execReceiverDetect_regs {W0 : Nat → Prop} {r0 : State} (dt : Nat) (p : Nat) (found : Nat) (s : State) (h_pba : ∀ k, W0 (0x38000 + 4 * (k % 64))) (h_GLB_EVTOVF : W0 R.GLB_EVTOVF) (h_SOR_GSTAT : W0 R.SOR_GSTAT) (h_CHN_PERR : ∀ i, W0 (R.CHN_PERR i)) (h_LNK_PSTAT : ∀ i, W0 (R.LNK_PSTAT i)) {t0 : State} (h0 : RegsBut W0 r0 s) (ht : execReceiverDetect dt p found s = .next t0) :
    RegsBut W0 r0 t0 := by
  unfold execReceiverDetect at ht
  dsimp only at ht
  injection ht with ht
  subst ht
  repeat' first
    | with_reducible assumption
    | with_reducible apply advance_regs
    | with_reducible apply receiverDetect_regs
    | split

theorem execPresetTrial_regs {W0 : Nat → Prop} {r0 : State} (p : Nat) (o : TrialObs) (s : State) (h_LNK_PSTAT : ∀ i, W0 (R.LNK_PSTAT i)) (h_LNK_LCV : ∀ i, W0 (R.LNK_LCV i)) {t0 : State} (h0 : RegsBut W0 r0 s) (ht : execPresetTrial p o s = .next t0) :
    RegsBut W0 r0 t0 := by
  unfold execPresetTrial at ht
  injection ht with ht
  subst ht
  repeat' first
    | with_reducible assumption
    | with_reducible apply presetTrial_regs
    | split

theorem execLinkStageDone_regs {W0 : Nat → Prop} {r0 : State} (p : Nat) (o : StageObs) (s : State) (h_pba : ∀ k, W0 (0x38000 + 4 * (k % 64))) (h_GLB_EVTOVF : W0 R.GLB_EVTOVF) (h_CHN_PERR : ∀ i, W0 (R.CHN_PERR i)) (h_LNK_PSTAT : ∀ i, W0 (R.LNK_PSTAT i)) (h_LNK_PMAP : ∀ i, W0 (R.LNK_PMAP i)) (h_LNK_PCNT : ∀ i, W0 (R.LNK_PCNT i)) (h_LNK_LSTAT : ∀ i, W0 (R.LNK_LSTAT i)) (h_LNK_LCV : ∀ i, W0 (R.LNK_LCV i)) (h_TIM_INC : W0 R.TIM_INC) (h_CAL_LQUAL : ∀ i, W0 (R.CAL_LQUAL i)) {t0 : State} (h0 : RegsBut W0 r0 s) (ht : execLinkStageDone p o s = .next t0) :
    RegsBut W0 r0 t0 := by
  unfold execLinkStageDone at ht
  injection ht with ht
  subst ht
  repeat' first
    | with_reducible assumption
    | with_reducible apply stageDone_regs
    | split

theorem execLinkAttemptFail_regs {W0 : Nat → Prop} {r0 : State} (x : AttemptEnd) (s : State) (h_pba : ∀ k, W0 (0x38000 + 4 * (k % 64))) (h_GLB_EVTOVF : W0 R.GLB_EVTOVF) (h_SOR_GSTAT : W0 R.SOR_GSTAT) (h_CHN_PERR : ∀ i, W0 (R.CHN_PERR i)) (h_LNK_PSTAT : ∀ i, W0 (R.LNK_PSTAT i)) (h_LNK_PCNT : ∀ i, W0 (R.LNK_PCNT i)) (h_LNK_LSTAT : ∀ i, W0 (R.LNK_LSTAT i)) {t0 : State} (h0 : RegsBut W0 r0 s) (ht : execLinkAttemptFail x s = .next t0) :
    RegsBut W0 r0 t0 := by
  unfold execLinkAttemptFail at ht
  dsimp only at ht
  injection ht with ht
  subst ht
  repeat' first
    | with_reducible assumption
    | with_reducible apply advance_regs
    | with_reducible apply attemptFail_regs
    | split

theorem execLinkBackoffEnd_regs {W0 : Nat → Prop} {r0 : State} (dt : Nat) (p : Nat) (s : State) (h_pba : ∀ k, W0 (0x38000 + 4 * (k % 64))) (h_GLB_EVTOVF : W0 R.GLB_EVTOVF) (h_SOR_GSTAT : W0 R.SOR_GSTAT) (h_CHN_PERR : ∀ i, W0 (R.CHN_PERR i)) (h_LNK_PSTAT : ∀ i, W0 (R.LNK_PSTAT i)) {t0 : State} (h0 : RegsBut W0 r0 s) (ht : execLinkBackoffEnd dt p s = .next t0) :
    RegsBut W0 r0 t0 := by
  unfold execLinkBackoffEnd at ht
  dsimp only at ht
  injection ht with ht
  subst ht
  repeat' first
    | with_reducible assumption
    | with_reducible apply advance_regs
    | with_reducible apply toDetect_regs
    | split

theorem execChainDown_regs {W0 : Nat → Prop} {r0 : State} (p : Nat) (s : State) (h_pba : ∀ k, W0 (0x38000 + 4 * (k % 64))) (h_GLB_EVTOVF : W0 R.GLB_EVTOVF) (h_CHN_PERR : ∀ i, W0 (R.CHN_PERR i)) (h_LNK_PSTAT : ∀ i, W0 (R.LNK_PSTAT i)) (h_LNK_PMAP : ∀ i, W0 (R.LNK_PMAP i)) (h_LNK_PCNT : ∀ i, W0 (R.LNK_PCNT i)) (h_LNK_LSTAT : ∀ i, W0 (R.LNK_LSTAT i)) (h_TAN_TSTAT : W0 R.TAN_TSTAT) (h_CAL_STAT : W0 R.CAL_STAT) {t0 : State} (h0 : RegsBut W0 r0 s) (ht : execChainDown p s = .next t0) :
    RegsBut W0 r0 t0 := by
  unfold execChainDown at ht
  injection ht with ht
  subst ht
  repeat' first
    | with_reducible assumption
    | with_reducible apply portDown_regs
    | split

theorem execLaneSpare_regs {W0 : Nat → Prop} {r0 : State} (p : Nat) (n : Nat) (s : State) (h_pba : ∀ k, W0 (0x38000 + 4 * (k % 64))) (h_GLB_EVTOVF : W0 R.GLB_EVTOVF) (h_CHN_PERR : ∀ i, W0 (R.CHN_PERR i)) (h_LNK_PSTAT : ∀ i, W0 (R.LNK_PSTAT i)) (h_LNK_PMAP : ∀ i, W0 (R.LNK_PMAP i)) (h_LNK_PCNT : ∀ i, W0 (R.LNK_PCNT i)) (h_LNK_LSTAT : ∀ i, W0 (R.LNK_LSTAT i)) (h_TIM_INC : W0 R.TIM_INC) (h_TAN_TSTAT : W0 R.TAN_TSTAT) (h_CAL_STAT : W0 R.CAL_STAT) {t0 : State} (h0 : RegsBut W0 r0 s) (ht : execLaneSpare p n s = .next t0) :
    RegsBut W0 r0 t0 := by
  unfold execLaneSpare at ht
  injection ht with ht
  subst ht
  repeat' first
    | with_reducible assumption
    | with_reducible apply laneLost_regs
    | split

theorem execSteerReceive_regs {W0 : Nat → Prop} {r0 : State} (p : Nat) (cmd : Nat) (ncmd : Nat) (s : State) {t0 : State} (h0 : RegsBut W0 r0 s) (ht : execSteerReceive p cmd ncmd s = .next t0) :
    RegsBut W0 r0 t0 := by
  unfold execSteerReceive at ht
  injection ht with ht
  subst ht
  repeat' first
    | with_reducible assumption
    | with_reducible apply steerReceive_regs
    | split

theorem execSteerRepeat_regs {W0 : Nat → Prop} {r0 : State} (x : After) (s : State) (h_pba : ∀ k, W0 (0x38000 + 4 * (k % 64))) (h_GLB_EVTOVF : W0 R.GLB_EVTOVF) (h_SOR_GSTAT : W0 R.SOR_GSTAT) (h_CHN_PERR : ∀ i, W0 (R.CHN_PERR i)) (h_TIM_INC : W0 R.TIM_INC) {t0 : State} (h0 : RegsBut W0 r0 s) (ht : execSteerRepeat x s = .next t0) :
    RegsBut W0 r0 t0 := by
  unfold execSteerRepeat at ht
  dsimp only at ht
  injection ht with ht
  subst ht
  repeat' first
    | with_reducible assumption
    | with_reducible apply advance_regs
    | with_reducible apply steerRepeat_regs
    | split

theorem execPannierSwitch_regs {W0 : Nat → Prop} {r0 : State} (p : Nat) (s : State) (h_LNK_PMAP : ∀ i, W0 (R.LNK_PMAP i)) (h_LNK_LSTAT : ∀ i, W0 (R.LNK_LSTAT i)) {t0 : State} (h0 : RegsBut W0 r0 s) (ht : execPannierSwitch p s = .next t0) :
    RegsBut W0 r0 t0 := by
  unfold execPannierSwitch at ht
  injection ht with ht
  subst ht
  repeat' first
    | with_reducible assumption
    | with_reducible apply pannierSwitch_regs
    | split

theorem execElasticSlip_regs {W0 : Nat → Prop} {r0 : State} (x : SlipAt) (s : State) (h_LNK_PERR : ∀ i, W0 (R.LNK_PERR i)) {t0 : State} (h0 : RegsBut W0 r0 s) (ht : execElasticSlip x s = .next t0) :
    RegsBut W0 r0 t0 := by
  unfold execElasticSlip at ht
  injection ht with ht
  subst ht
  repeat' first
    | with_reducible assumption
    | with_reducible apply elasticSlip_regs
    | split

theorem execReseedTimer_regs {W0 : Nat → Prop} {r0 : State} (dt : Nat) (p : Nat) (s : State) (h_pba : ∀ k, W0 (0x38000 + 4 * (k % 64))) (h_GLB_EVTOVF : W0 R.GLB_EVTOVF) (h_SOR_GSTAT : W0 R.SOR_GSTAT) (h_CHN_PERR : ∀ i, W0 (R.CHN_PERR i)) {t0 : State} (h0 : RegsBut W0 r0 s) (ht : execReseedTimer dt p s = .next t0) :
    RegsBut W0 r0 t0 := by
  unfold execReseedTimer at ht
  dsimp only at ht
  injection ht with ht
  subst ht
  repeat' first
    | with_reducible assumption
    | with_reducible apply advance_regs
    | with_reducible apply reseed_regs
    | split

theorem execBlockReceive_regs {W0 : Nat → Prop} {r0 : State} (p : Nat) (coms : Nat) (marks : List Nat) (o : BlockObs) (s : State) (h_LNK_PERR : ∀ i, W0 (R.LNK_PERR i)) (h_LNK_LCV : ∀ i, W0 (R.LNK_LCV i)) (h_TIM_INC : W0 R.TIM_INC) {t0 : State} (h0 : RegsBut W0 r0 s) (ht : execBlockReceive p coms marks o s = .next t0) :
    RegsBut W0 r0 t0 := by
  unfold execBlockReceive at ht
  injection ht with ht
  subst ht
  repeat' first
    | with_reducible assumption
    | with_reducible apply blockReceive_regs
    | split

theorem execAdaptWindow_regs {W0 : Nat → Prop} {r0 : State} (p : Nat) (l : Nat) (diff : Nat) (taps : Taps) (s : State) (h_LNK_LSTAT : ∀ i, W0 (R.LNK_LSTAT i)) {t0 : State} (h0 : RegsBut W0 r0 s) (ht : execAdaptWindow p l diff taps s = .next t0) :
    RegsBut W0 r0 t0 := by
  unfold execAdaptWindow at ht
  injection ht with ht
  subst ht
  repeat' first
    | with_reducible assumption
    | with_reducible apply adaptWindow_regs
    | split

theorem execMarginMeasure_regs {W0 : Nat → Prop} {r0 : State} (p : Nat) (l : Nat) (ew : Nat) (eh : Nat) (s : State) (h_LNK_PMAP : ∀ i, W0 (R.LNK_PMAP i)) (h_LNK_LSTAT : ∀ i, W0 (R.LNK_LSTAT i)) (h_LNK_LMARGIN : ∀ i, W0 (R.LNK_LMARGIN i)) (h_CAL_STAT : W0 R.CAL_STAT) {t0 : State} (h0 : RegsBut W0 r0 s) (ht : execMarginMeasure p l ew eh s = .next t0) :
    RegsBut W0 r0 t0 := by
  unfold execMarginMeasure at ht
  injection ht with ht
  subst ht
  repeat' first
    | with_reducible assumption
    | with_reducible apply marginMeasure_regs
    | split

theorem execTimingPortChange_regs {W0 : Nat → Prop} {r0 : State} (s : State) (h_LNK_TIMING : W0 R.LNK_TIMING) {t0 : State} (h0 : RegsBut W0 r0 s) (ht : execTimingPortChange s = .next t0) :
    RegsBut W0 r0 t0 := by
  unfold execTimingPortChange at ht
  apply whenOn_regs (ht := ht)
  repeat' first
    | with_reducible assumption
    | with_reducible apply timingChange_regs
    | split
    | dsimp only
    | with_reducible intro _

theorem execTimingPortLocked_regs {W0 : Nat → Prop} {r0 : State} (s : State) (h_LNK_TIMING : W0 R.LNK_TIMING) {t0 : State} (h0 : RegsBut W0 r0 s) (ht : execTimingPortLocked s = .next t0) :
    RegsBut W0 r0 t0 := by
  unfold execTimingPortLocked at ht
  apply whenOn_regs (ht := ht)
  repeat' first
    | with_reducible assumption
    | with_reducible apply timingLocked_regs
    | split
    | dsimp only
    | with_reducible intro _

end Sys2Proof.Machine
end

