-- ==== Sys2Proof/Laws/RegsChn.lean ====
section
/-! SUPPORT. Which registers each operation of Machine/Chn.lean may write. -/

namespace Sys2Proof.Machine

theorem deliver_regs {W0 : Nat → Prop} {r0 : State} (s : State) (p : Nat) (c : Bytes) (t : Nat) (h0 : RegsBut W0 r0 s) :
    RegsBut W0 r0 (deliver s p c t) := by
  unfold deliver
  repeat' first
    | with_reducible assumption
    | simp only [RegsBut.chn]

theorem consume_regs {W0 : Nat → Prop} {r0 : State} (s : State) (p : Nat) (w : Bytes) (t : Nat) (h_CHN_PERR : ∀ i, W0 (R.CHN_PERR i)) (h_LNK_PFEC : ∀ i, W0 (R.LNK_PFEC i)) (h0 : RegsBut W0 r0 s) :
    RegsBut W0 r0 (consume s p w t) := by
  unfold consume
  repeat' first
    | with_reducible assumption
    | with_reducible exact h_CHN_PERR _
    | with_reducible exact h_LNK_PFEC _
    | with_reducible apply incSat_regs
    | with_reducible apply deliver_regs
    | split
    | dsimp only

theorem sendInserted_regs {W0 : Nat → Prop} {r0 : State} (s : State) (p : Nat) (h0 : RegsBut W0 r0 s) :
    RegsBut W0 r0 (sendInserted s p) := by
  unfold sendInserted
  repeat' first
    | with_reducible assumption
    | simp only [RegsBut.chn]
    | with_reducible apply emit_regs
    | with_reducible apply preqLeft_regs
    | split

theorem forwardSlot_regs {W0 : Nat → Prop} {r0 : State} (s : State) (p : Nat) (w : Bytes) (free : Bool) (h0 : RegsBut W0 r0 s) :
    RegsBut W0 r0 (forwardSlot s p w free) := by
  unfold forwardSlot
  repeat' first
    | with_reducible assumption
    | with_reducible apply emit_regs
    | with_reducible apply sendInserted_regs
    | split
    | dsimp only

theorem countSymbols_regs {W0 : Nat → Prop} {r0 : State} (s : State) (p : Nat) (cv : List Nat) (disp : List Nat) (h_LNK_LCV : ∀ i, W0 (R.LNK_LCV i)) (h0 : RegsBut W0 r0 s) :
    RegsBut W0 r0 (countSymbols s p cv disp) := by
  unfold countSymbols
  repeat' first
    | with_reducible assumption
    | with_reducible exact h_LNK_LCV _
    | with_reducible apply incSat_regs
    | with_reducible apply RegsBut.foldl
    | split
    | dsimp only
    | with_reducible intro _

theorem classify_regs {W0 : Nat → Prop} {r0 : State} (s : State) (p : Nat) (w : Bytes) (h_CHN_PERR : ∀ i, W0 (R.CHN_PERR i)) (h_LNK_PFEC : ∀ i, W0 (R.LNK_PFEC i)) (h0 : RegsBut W0 r0 s) :
    RegsBut W0 r0 (classify s p w) := by
  unfold classify
  repeat' first
    | with_reducible assumption
    | simp only [RegsBut.chn]
    | with_reducible exact h_CHN_PERR _
    | with_reducible apply incSat_regs
    | with_reducible apply consume_regs
    | with_reducible apply forwardSlot_regs
    | split

theorem takeCodeword_regs {W0 : Nat → Prop} {r0 : State} (s : State) (p : Nat) (raw : Bytes) (cv : List Nat) (v : Nat) (h_pba : ∀ k, W0 (0x38000 + 4 * (k % 64))) (h_GLB_EVTOVF : W0 R.GLB_EVTOVF) (h_CHN_PERR : ∀ i, W0 (R.CHN_PERR i)) (h_LNK_PSTAT : ∀ i, W0 (R.LNK_PSTAT i)) (h_LNK_PMAP : ∀ i, W0 (R.LNK_PMAP i)) (h_LNK_PCNT : ∀ i, W0 (R.LNK_PCNT i)) (h_LNK_PERR : ∀ i, W0 (R.LNK_PERR i)) (h_LNK_PFEC : ∀ i, W0 (R.LNK_PFEC i)) (h_LNK_LSTAT : ∀ i, W0 (R.LNK_LSTAT i)) (h_TAN_TSTAT : W0 R.TAN_TSTAT) (h_CAL_STAT : W0 R.CAL_STAT) (h0 : RegsBut W0 r0 s) :
    RegsBut W0 r0 (takeCodeword s p raw cv v) := by
  unfold takeCodeword
  repeat' first
    | with_reducible assumption
    | with_reducible exact h_LNK_PERR _
    | with_reducible apply incSat_regs
    | with_reducible apply setPort_regs
    | with_reducible apply portDown_regs
    | with_reducible apply sendInserted_regs
    | with_reducible apply classify_regs
    | with_reducible refine RegsBut.of_snd (by with_reducible assumption) ?_
    | with_reducible refine RegsBut.of_snd2 (by with_reducible assumption) ?_
    | split
    | dsimp only

theorem cellForward_regs {W0 : Nat → Prop} {r0 : State} (s : State) (p : Nat) (raw : Bytes) (cv : List Nat) (disp : List Nat) (h_pba : ∀ k, W0 (0x38000 + 4 * (k % 64))) (h_GLB_EVTOVF : W0 R.GLB_EVTOVF) (h_CHN_PERR : ∀ i, W0 (R.CHN_PERR i)) (h_LNK_PSTAT : ∀ i, W0 (R.LNK_PSTAT i)) (h_LNK_PMAP : ∀ i, W0 (R.LNK_PMAP i)) (h_LNK_PCNT : ∀ i, W0 (R.LNK_PCNT i)) (h_LNK_PERR : ∀ i, W0 (R.LNK_PERR i)) (h_LNK_PFEC : ∀ i, W0 (R.LNK_PFEC i)) (h_LNK_LSTAT : ∀ i, W0 (R.LNK_LSTAT i)) (h_LNK_LPRBS : ∀ i, W0 (R.LNK_LPRBS i)) (h_LNK_LCV : ∀ i, W0 (R.LNK_LCV i)) (h_TAN_TSTAT : W0 R.TAN_TSTAT) (h_CAL_STAT : W0 R.CAL_STAT) (h0 : RegsBut W0 r0 s) :
    RegsBut W0 r0 (cellForward s p raw cv disp) := by
  unfold cellForward
  repeat' first
    | with_reducible assumption
    | with_reducible apply testSlot_regs
    | with_reducible apply countSymbols_regs
    | with_reducible apply takeCodeword_regs
    | split
    | dsimp only

theorem candidateDone_regs {W0 : Nat → Prop} {r0 : State} (s : State) (h_CHN_PERR : ∀ i, W0 (R.CHN_PERR i)) (h_LNK_PFEC : ∀ i, W0 (R.LNK_PFEC i)) (h0 : RegsBut W0 r0 s) :
    RegsBut W0 r0 (candidateDone s) := by
  unfold candidateDone
  repeat' first
    | with_reducible assumption
    | simp only [RegsBut.chn]
    | with_reducible exact h_CHN_PERR _
    | with_reducible exact h_LNK_PFEC _
    | with_reducible apply incSat_regs
    | with_reducible apply deliver_regs
    | split

theorem insertTimeout_regs {W0 : Nat → Prop} {r0 : State} (s : State) (p : Nat) (h_CHN_PERR : ∀ i, W0 (R.CHN_PERR i)) (h0 : RegsBut W0 r0 s) :
    RegsBut W0 r0 (insertTimeout s p) := by
  unfold insertTimeout
  repeat' first
    | with_reducible assumption
    | simp only [RegsBut.chn]
    | with_reducible exact h_CHN_PERR _
    | with_reducible apply incSat_regs
    | split

theorem tileReply_regs {W0 : Nat → Prop} {r0 : State} (s : State) (p : Nat) (ltype : Nat) (rank : Nat) (lid : Nat) (slot : Option (Nat × Nat × Bytes)) (content : Bytes) (h_CHN_PERR : ∀ i, W0 (R.CHN_PERR i)) (h0 : RegsBut W0 r0 s) :
    RegsBut W0 r0 (tileReply s p ltype rank lid slot content) := by
  unfold tileReply
  dsimp only
  split
  · rename_i hx
    obtain ⟨k, -, hx⟩ := Option.bind_eq_some_iff.1 hx
    obtain ⟨q, hq, he⟩ := Option.map_eq_some_iff.1 hx
    injection he with _ he
    subst he
    with_reducible apply insertCells_regs <;> first | assumption | exact sealReply_regs hq h0
  · with_reducible apply insertCells_regs <;> assumption

theorem reply_regs {W0 : Nat → Prop} {r0 : State} (s : State) (l : Letter) (content : Bytes) (h_CHN_PERR : ∀ i, W0 (R.CHN_PERR i)) (h0 : RegsBut W0 r0 s) :
    RegsBut W0 r0 (reply s l content) := by
  unfold reply
  repeat' first
    | with_reducible assumption
    | with_reducible apply tileReply_regs
    | split

theorem refuse_regs {W0 : Nat → Prop} {r0 : State} (s : State) (l : Letter) (c : Status) (h_CHN_LSTAT : W0 R.CHN_LSTAT) (h_CHN_PERR : ∀ i, W0 (R.CHN_PERR i)) (h0 : RegsBut W0 r0 s) :
    RegsBut W0 r0 (refuse s l c) := by
  unfold refuse
  repeat' first
    | with_reducible assumption
    | with_reducible exact h_CHN_LSTAT
    | with_reducible apply incSat_regs
    | with_reducible apply reply_regs

theorem answer_regs {W0 : Nat → Prop} {r0 : State} (s : State) (l : Letter) (c : Status) (rest : Bytes) (h_CHN_LSTAT : W0 R.CHN_LSTAT) (h_CHN_PERR : ∀ i, W0 (R.CHN_PERR i)) (h0 : RegsBut W0 r0 s) :
    RegsBut W0 r0 (answer s l c rest) := by
  unfold answer
  repeat' first
    | with_reducible assumption
    | with_reducible exact h_CHN_LSTAT
    | with_reducible apply incSat_regs
    | with_reducible apply reply_regs
    | split

theorem openAtTile_regs {W0 : Nat → Prop} {r0 : State} (s : State) (l : Letter) (h0 : RegsBut W0 r0 s) :
    RegsBut W0 r0 (openAtTile s l).2.2 := by
  unfold openAtTile
  repeat' first
    | with_reducible assumption
    | with_reducible apply touchKeySlot_regs
    | split
    | dsimp only

theorem letterAtTile_regs {W0 : Nat → Prop} {r0 : State} (s : State) (l : Letter) (h_CHN_LSTAT : W0 R.CHN_LSTAT) (h_CHN_PERR : ∀ i, W0 (R.CHN_PERR i)) (h0 : RegsBut W0 r0 s) :
    RegsBut W0 r0 (letterAtTile s l) := by
  unfold letterAtTile
  repeat' first
    | with_reducible assumption
    | simp only [RegsBut.chn]
    | with_reducible apply refuse_regs
    | with_reducible apply openAtTile_regs
    | with_reducible refine RegsBut.of_snd (by with_reducible assumption) ?_
    | with_reducible refine RegsBut.of_snd2 (by with_reducible assumption) ?_
    | split

theorem segRefuse_regs {W0 : Nat → Prop} {r0 : State} (s : State) (x : RxCell) (c : Status) (h_CHN_LSTAT : W0 R.CHN_LSTAT) (h_CHN_PERR : ∀ i, W0 (R.CHN_PERR i)) (h0 : RegsBut W0 r0 s) :
    RegsBut W0 r0 (segRefuse s x c) := by
  unfold segRefuse
  repeat' first
    | with_reducible assumption
    | with_reducible exact h_CHN_LSTAT
    | with_reducible apply incSat_regs
    | with_reducible apply refuse_regs
    | split

theorem letterDone_regs {W0 : Nat → Prop} {r0 : State} (s : State) (l : Letter) (h_CHN_LSTAT : W0 R.CHN_LSTAT) (h_CHN_PERR : ∀ i, W0 (R.CHN_PERR i)) (h0 : RegsBut W0 r0 s) :
    RegsBut W0 r0 (letterDone s l) := by
  unfold letterDone
  repeat' first
    | with_reducible assumption
    | simp only [RegsBut.chn]
    | with_reducible apply letterAtTile_regs
    | split

theorem segment_regs {W0 : Nat → Prop} {r0 : State} (s : State) (x : RxCell) (h_CHN_LSTAT : W0 R.CHN_LSTAT) (h_CHN_PERR : ∀ i, W0 (R.CHN_PERR i)) (h0 : RegsBut W0 r0 s) :
    RegsBut W0 r0 (segment s x) := by
  unfold segment
  repeat' first
    | with_reducible assumption
    | simp only [RegsBut.chn]
    | with_reducible apply segRefuse_regs
    | with_reducible apply letterDone_regs
    | split

theorem reasmTimeout_regs {W0 : Nat → Prop} {r0 : State} (s : State) (h_CHN_LSTAT : W0 R.CHN_LSTAT) (h0 : RegsBut W0 r0 s) :
    RegsBut W0 r0 (reasmTimeout s) := by
  unfold reasmTimeout
  repeat' first
    | with_reducible assumption
    | simp only [RegsBut.chn]
    | with_reducible exact h_CHN_LSTAT
    | with_reducible apply incSat_regs
    | split

theorem rollReply_regs {W0 : Nat → Prop} {r0 : State} (s : State) (p : Nat) (rank : Nat) (rid : Nat) (c : Status) (h_CHN_PERR : ∀ i, W0 (R.CHN_PERR i)) (h0 : RegsBut W0 r0 s) :
    RegsBut W0 r0 (rollReply s p rank rid c) := by
  unfold rollReply
  repeat' first
    | with_reducible assumption
    | with_reducible apply newLid_regs
    | with_reducible apply tileReply_regs

theorem adopt_regs {W0 : Nat → Prop} {r0 : State} (s : State) (chain : Nat) (pos : Nat) (src : Nat) (h_CHN_POSTCODE : W0 R.CHN_POSTCODE) (h0 : RegsBut W0 r0 s) :
    RegsBut W0 r0 (adopt s chain pos src) := by
  unfold adopt
  repeat' first
    | with_reducible assumption
    | with_reducible exact h_CHN_POSTCODE
    | with_reducible apply setF_regs

theorem sendRollcall_regs {W0 : Nat → Prop} {r0 : State} (s : State) (h0 : RegsBut W0 r0 s) :
    RegsBut W0 r0 (sendRollcall s) := by
  unfold sendRollcall
  repeat' first
    | with_reducible assumption
    | with_reducible apply drawNat_regs
    | with_reducible apply newLid_regs
    | with_reducible apply sendNow_regs
    | with_reducible apply RegsBut.foldl
    | with_reducible refine RegsBut.of_snd (by with_reducible assumption) ?_
    | with_reducible refine RegsBut.of_snd2 (by with_reducible assumption) ?_
    | split
    | dsimp only
    | with_reducible intro _

theorem rollcall_regs {W0 : Nat → Prop} {r0 : State} (s : State) (x : RxCell) (h_CHN_POSTCODE : W0 R.CHN_POSTCODE) (h_CHN_PORTCTL : ∀ i, W0 (R.CHN_PORTCTL i)) (h_CHN_PERR : ∀ i, W0 (R.CHN_PERR i)) (h0 : RegsBut W0 r0 s) :
    RegsBut W0 r0 (rollcall s x) := by
  unfold rollcall
  repeat' first
    | with_reducible assumption
    | simp only [RegsBut.chn]
    | with_reducible exact h_CHN_PORTCTL _
    | with_reducible apply setF_regs
    | with_reducible apply insertCell_regs
    | with_reducible apply rollReply_regs
    | with_reducible apply adopt_regs
    | split

theorem sendDone_regs {W0 : Nat → Prop} {r0 : State} (s : State) (it : Item) (c : Status) (rcode : Nat) (lid : Nat) (replies : Nat) (h_pba : ∀ k, W0 (0x38000 + 4 * (k % 64))) (h_QUE_STAT : ∀ i, W0 (R.QUE_STAT i)) (h_QUE_RET : ∀ i, W0 (R.QUE_RET i)) (h0 : RegsBut W0 r0 s) :
    RegsBut W0 r0 (sendDone s it c rcode lid replies) := by
  unfold sendDone
  repeat' first
    | with_reducible assumption
    | with_reducible apply complete40_regs

theorem sendEntry_regs {W0 : Nat → Prop} {r0 : State} (s : State) (it : Item) (host : HostRes) (h_pba : ∀ k, W0 (0x38000 + 4 * (k % 64))) (h_GLB_EVTOVF : W0 R.GLB_EVTOVF) (h_QUE_STAT : ∀ i, W0 (R.QUE_STAT i)) (h_QUE_RET : ∀ i, W0 (R.QUE_RET i)) (h_SRF_TCMISS : W0 R.SRF_TCMISS) (h_CHN_PERR : ∀ i, W0 (R.CHN_PERR i)) (h_DRC_ECCSTAT : W0 R.DRC_ECCSTAT) (h_DRC_UEADDR : W0 R.DRC_UEADDR) (h0 : RegsBut W0 r0 s) :
    RegsBut W0 r0 (sendEntry s it host) := by
  unfold sendEntry
  repeat' first
    | with_reducible assumption
    | simp only [RegsBut.chn]
    | with_reducible apply newLid_regs
    | with_reducible apply areaFetch_regs
    | with_reducible apply sendLetter_regs
    | with_reducible apply sendDone_regs
    | with_reducible refine RegsBut.of_snd (by with_reducible assumption) ?_
    | with_reducible refine RegsBut.of_snd2 (by with_reducible assumption) ?_
    | split

theorem openReply_regs {W0 : Nat → Prop} {r0 : State} {s : State} {l : Letter}  {it : Bytes} {t0 : State}
    (hx : openReply s l = some (it, t0)) (h0 : RegsBut W0 r0 s) : RegsBut W0 r0 t0 := by
  unfold openReply at hx
  split at hx
  · injection hx with hx
    injection hx with _ hx
    exact hx ▸ h0
  · split at hx
    · split at hx
      · split at hx
        · injection hx with hx
          injection hx with _ hx
          subst hx
          with_reducible apply setKeyRec_regs <;> assumption
        · cases hx
      · cases hx
    · cases hx

theorem sendReply_regs {W0 : Nat → Prop} {r0 : State} (s : State) (x : Send) (l : Letter) (code : Nat) (h_pba : ∀ k, W0 (0x38000 + 4 * (k % 64))) (h_GLB_EVTOVF : W0 R.GLB_EVTOVF) (h_QUE_STAT : ∀ i, W0 (R.QUE_STAT i)) (h_QUE_RET : ∀ i, W0 (R.QUE_RET i)) (h_SRF_TCMISS : W0 R.SRF_TCMISS) (h_CHN_PERR : ∀ i, W0 (R.CHN_PERR i)) (h_DRC_ECCSTAT : W0 R.DRC_ECCSTAT) (h_DRC_UEADDR : W0 R.DRC_UEADDR) (h_DRC_HAZSTAT : W0 R.DRC_HAZSTAT) (h0 : RegsBut W0 r0 s) :
    RegsBut W0 r0 (sendReply s x l code) := by
  unfold sendReply
  repeat' first
    | with_reducible assumption
    | simp only [RegsBut.chn]
    | with_reducible apply svcWrite_regs
    | with_reducible apply sendDone_regs
    | split

theorem sendReplyStep_regs {W0 : Nat → Prop} {r0 : State} (s : State) (h_pba : ∀ k, W0 (0x38000 + 4 * (k % 64))) (h_GLB_EVTOVF : W0 R.GLB_EVTOVF) (h_QUE_STAT : ∀ i, W0 (R.QUE_STAT i)) (h_QUE_RET : ∀ i, W0 (R.QUE_RET i)) (h_SRF_TCMISS : W0 R.SRF_TCMISS) (h_CHN_PERR : ∀ i, W0 (R.CHN_PERR i)) (h_DRC_ECCSTAT : W0 R.DRC_ECCSTAT) (h_DRC_UEADDR : W0 R.DRC_UEADDR) (h_DRC_HAZSTAT : W0 R.DRC_HAZSTAT) (h0 : RegsBut W0 r0 s) :
    RegsBut W0 r0 (sendReplyStep s) := by
  unfold sendReplyStep
  repeat' first
    | with_reducible assumption
    | with_reducible refine takeLetter_regs (hx := by with_reducible assumption) ?_
    | with_reducible refine openReply_regs (hx := by with_reducible assumption) ?_
    | with_reducible apply sendReply_regs
    | split

theorem sendTimeout_regs {W0 : Nat → Prop} {r0 : State} (s : State) (h_pba : ∀ k, W0 (0x38000 + 4 * (k % 64))) (h_QUE_STAT : ∀ i, W0 (R.QUE_STAT i)) (h_QUE_RET : ∀ i, W0 (R.QUE_RET i)) (h0 : RegsBut W0 r0 s) :
    RegsBut W0 r0 (sendTimeout s) := by
  unfold sendTimeout
  repeat' first
    | with_reducible assumption
    | simp only [RegsBut.chn]
    | with_reducible apply sendDone_regs
    | split

theorem inboxStore_regs {W0 : Nat → Prop} {r0 : State} (s : State) (l : Letter) (h_pba : ∀ k, W0 (0x38000 + 4 * (k % 64))) (h_GLB_EVTOVF : W0 R.GLB_EVTOVF) (h_SRF_TCMISS : W0 R.SRF_TCMISS) (h_CHN_LSTAT : W0 R.CHN_LSTAT) (h_CHN_INBOXIDX : W0 R.CHN_INBOXIDX) (h_CHN_PERR : ∀ i, W0 (R.CHN_PERR i)) (h_DRC_ECCSTAT : W0 R.DRC_ECCSTAT) (h_DRC_UEADDR : W0 R.DRC_UEADDR) (h_DRC_HAZSTAT : W0 R.DRC_HAZSTAT) (h0 : RegsBut W0 r0 s) :
    RegsBut W0 r0 (inboxStore s l) := by
  unfold inboxStore
  repeat' first
    | with_reducible assumption
    | with_reducible exact h_CHN_LSTAT
    | with_reducible exact h_CHN_INBOXIDX
    | with_reducible apply setF_regs
    | with_reducible apply incSat_regs
    | with_reducible apply sendVec_regs
    | with_reducible apply svcWrite_regs
    | split
    | dsimp only

theorem inboxStep_regs {W0 : Nat → Prop} {r0 : State} (s : State) (h_pba : ∀ k, W0 (0x38000 + 4 * (k % 64))) (h_GLB_EVTOVF : W0 R.GLB_EVTOVF) (h_SRF_TCMISS : W0 R.SRF_TCMISS) (h_CHN_LSTAT : W0 R.CHN_LSTAT) (h_CHN_INBOXIDX : W0 R.CHN_INBOXIDX) (h_CHN_PERR : ∀ i, W0 (R.CHN_PERR i)) (h_DRC_ECCSTAT : W0 R.DRC_ECCSTAT) (h_DRC_UEADDR : W0 R.DRC_UEADDR) (h_DRC_HAZSTAT : W0 R.DRC_HAZSTAT) (h0 : RegsBut W0 r0 s) :
    RegsBut W0 r0 (inboxStep s) := by
  unfold inboxStep
  repeat' first
    | with_reducible assumption
    | with_reducible refine takeLetter_regs (hx := by with_reducible assumption) ?_
    | with_reducible apply inboxStore_regs
    | split

theorem chnBlockReset_regs {W0 : Nat → Prop} {r0 : State} (s : State) (h_pba : ∀ k, W0 (0x38000 + 4 * (k % 64))) (h_r0xD0000 : ∀ off, 0xD0000 ≤ off → off < 0xE0000 → W0 off) (h_QUE_STAT : ∀ i, W0 (R.QUE_STAT i)) (h_QUE_RET : ∀ i, W0 (R.QUE_RET i)) (h0 : RegsBut W0 r0 s) :
    RegsBut W0 r0 (chnBlockReset s) := by
  unfold chnBlockReset
  repeat' first
    | with_reducible assumption
    | simp only [RegsBut.chn_sec_lmp]
    | with_reducible assumption
    | with_reducible apply resetRegs_regs
    | with_reducible apply stopForward_regs
    | with_reducible apply sendDone_regs
    | with_reducible apply RegsBut.foldl
    | split
    | dsimp only
    | with_reducible intro _

theorem execCellForward_regs {W0 : Nat → Prop} {r0 : State} (dt : Nat) (p : Nat) (raw : Bytes) (cv : List Nat) (disp : List Nat) (s : State) (h_pba : ∀ k, W0 (0x38000 + 4 * (k % 64))) (h_GLB_EVTOVF : W0 R.GLB_EVTOVF) (h_SOR_GSTAT : W0 R.SOR_GSTAT) (h_CHN_PERR : ∀ i, W0 (R.CHN_PERR i)) (h_LNK_PSTAT : ∀ i, W0 (R.LNK_PSTAT i)) (h_LNK_PMAP : ∀ i, W0 (R.LNK_PMAP i)) (h_LNK_PCNT : ∀ i, W0 (R.LNK_PCNT i)) (h_LNK_PERR : ∀ i, W0 (R.LNK_PERR i)) (h_LNK_PFEC : ∀ i, W0 (R.LNK_PFEC i)) (h_LNK_LSTAT : ∀ i, W0 (R.LNK_LSTAT i)) (h_LNK_LPRBS : ∀ i, W0 (R.LNK_LPRBS i)) (h_LNK_LCV : ∀ i, W0 (R.LNK_LCV i)) (h_TAN_TSTAT : W0 R.TAN_TSTAT) (h_CAL_STAT : W0 R.CAL_STAT) {t0 : State} (h0 : RegsBut W0 r0 s) (ht : execCellForward dt p raw cv disp s = .next t0) :
    RegsBut W0 r0 t0 := by
  unfold execCellForward at ht
  dsimp only at ht
  injection ht with ht
  subst ht
  repeat' first
    | with_reducible assumption
    | with_reducible apply advance_regs
    | with_reducible apply cellForward_regs
    | split

theorem execCandidateCorrected_regs {W0 : Nat → Prop} {r0 : State} (s : State) (h_CHN_PERR : ∀ i, W0 (R.CHN_PERR i)) (h_LNK_PFEC : ∀ i, W0 (R.LNK_PFEC i)) {t0 : State} (h0 : RegsBut W0 r0 s) (ht : execCandidateCorrected s = .next t0) :
    RegsBut W0 r0 t0 := by
  unfold execCandidateCorrected at ht
  apply whenOn_regs (ht := ht)
  repeat' first
    | with_reducible assumption
    | with_reducible apply candidateDone_regs
    | split
    | dsimp only
    | with_reducible intro _

theorem execInsertQueueTimeout_regs {W0 : Nat → Prop} {r0 : State} (dt : Nat) (p : Nat) (s : State) (h_pba : ∀ k, W0 (0x38000 + 4 * (k % 64))) (h_GLB_EVTOVF : W0 R.GLB_EVTOVF) (h_SOR_GSTAT : W0 R.SOR_GSTAT) (h_CHN_PERR : ∀ i, W0 (R.CHN_PERR i)) {t0 : State} (h0 : RegsBut W0 r0 s) (ht : execInsertQueueTimeout dt p s = .next t0) :
    RegsBut W0 r0 t0 := by
  unfold execInsertQueueTimeout at ht
  apply whenOn_regs (ht := ht)
  repeat' first
    | with_reducible assumption
    | with_reducible apply advance_regs
    | with_reducible apply insertTimeout_regs
    | split
    | dsimp only
    | with_reducible intro _

theorem execLetterSegment_regs {W0 : Nat → Prop} {r0 : State} (s : State) (h_CHN_LSTAT : W0 R.CHN_LSTAT) (h_CHN_PERR : ∀ i, W0 (R.CHN_PERR i)) {t0 : State} (h0 : RegsBut W0 r0 s) (ht : execLetterSegment s = .next t0) :
    RegsBut W0 r0 t0 := by
  unfold execLetterSegment at ht
  apply whenOn_regs (ht := ht)
  repeat' first
    | with_reducible assumption
    | with_reducible refine takeRx_regs (hx := by with_reducible assumption) ?_
    | with_reducible apply segment_regs
    | split
    | dsimp only
    | with_reducible intro _

theorem execReassemblyTimeout_regs {W0 : Nat → Prop} {r0 : State} (dt : Nat) (s : State) (h_pba : ∀ k, W0 (0x38000 + 4 * (k % 64))) (h_GLB_EVTOVF : W0 R.GLB_EVTOVF) (h_SOR_GSTAT : W0 R.SOR_GSTAT) (h_CHN_LSTAT : W0 R.CHN_LSTAT) (h_CHN_PERR : ∀ i, W0 (R.CHN_PERR i)) {t0 : State} (h0 : RegsBut W0 r0 s) (ht : execReassemblyTimeout dt s = .next t0) :
    RegsBut W0 r0 t0 := by
  unfold execReassemblyTimeout at ht
  apply whenOn_regs (ht := ht)
  repeat' first
    | with_reducible assumption
    | with_reducible apply advance_regs
    | with_reducible apply reasmTimeout_regs
    | split
    | dsimp only
    | with_reducible intro _

theorem execRollcallCell_regs {W0 : Nat → Prop} {r0 : State} (s : State) (h_CHN_POSTCODE : W0 R.CHN_POSTCODE) (h_CHN_PORTCTL : ∀ i, W0 (R.CHN_PORTCTL i)) (h_CHN_PERR : ∀ i, W0 (R.CHN_PERR i)) {t0 : State} (h0 : RegsBut W0 r0 s) (ht : execRollcallCell s = .next t0) :
    RegsBut W0 r0 t0 := by
  unfold execRollcallCell at ht
  apply whenOn_regs (ht := ht)
  repeat' first
    | with_reducible assumption
    | with_reducible refine takeRx_regs (hx := by with_reducible assumption) ?_
    | with_reducible apply sendRollcall_regs
    | with_reducible apply rollcall_regs
    | split
    | dsimp only
    | with_reducible intro _

theorem execSendEntry_regs {W0 : Nat → Prop} {r0 : State} (host : HostRes) (s : State) (h_pba : ∀ k, W0 (0x38000 + 4 * (k % 64))) (h_GLB_EVTOVF : W0 R.GLB_EVTOVF) (h_QUE_STAT : ∀ i, W0 (R.QUE_STAT i)) (h_QUE_RET : ∀ i, W0 (R.QUE_RET i)) (h_SOR_TGTSTAT : ∀ i, W0 (R.SOR_TGTSTAT i)) (h_SRF_TCMISS : W0 R.SRF_TCMISS) (h_CHN_PERR : ∀ i, W0 (R.CHN_PERR i)) (h_DRC_ECCSTAT : W0 R.DRC_ECCSTAT) (h_DRC_UEADDR : W0 R.DRC_UEADDR) {t0 : State} (h0 : RegsBut W0 r0 s) (ht : execSendEntry host s = .next t0) :
    RegsBut W0 r0 t0 := by
  unfold execSendEntry at ht
  apply whenOn_regs (ht := ht)
  repeat' first
    | with_reducible assumption
    | with_reducible apply onEntryRead_regs
    | with_reducible apply sendEntry_regs
    | split
    | dsimp only
    | with_reducible intro _

theorem execSendReply_regs {W0 : Nat → Prop} {r0 : State} (s : State) (h_pba : ∀ k, W0 (0x38000 + 4 * (k % 64))) (h_GLB_EVTOVF : W0 R.GLB_EVTOVF) (h_QUE_STAT : ∀ i, W0 (R.QUE_STAT i)) (h_QUE_RET : ∀ i, W0 (R.QUE_RET i)) (h_SRF_TCMISS : W0 R.SRF_TCMISS) (h_CHN_PERR : ∀ i, W0 (R.CHN_PERR i)) (h_DRC_ECCSTAT : W0 R.DRC_ECCSTAT) (h_DRC_UEADDR : W0 R.DRC_UEADDR) (h_DRC_HAZSTAT : W0 R.DRC_HAZSTAT) {t0 : State} (h0 : RegsBut W0 r0 s) (ht : execSendReply s = .next t0) :
    RegsBut W0 r0 t0 := by
  unfold execSendReply at ht
  apply whenOn_regs (ht := ht)
  repeat' first
    | with_reducible assumption
    | with_reducible apply sendReplyStep_regs
    | split
    | dsimp only
    | with_reducible intro _

theorem execSendTimeout_regs {W0 : Nat → Prop} {r0 : State} (dt : Nat) (s : State) (h_pba : ∀ k, W0 (0x38000 + 4 * (k % 64))) (h_GLB_EVTOVF : W0 R.GLB_EVTOVF) (h_QUE_STAT : ∀ i, W0 (R.QUE_STAT i)) (h_QUE_RET : ∀ i, W0 (R.QUE_RET i)) (h_SOR_GSTAT : W0 R.SOR_GSTAT) (h_CHN_PERR : ∀ i, W0 (R.CHN_PERR i)) {t0 : State} (h0 : RegsBut W0 r0 s) (ht : execSendTimeout dt s = .next t0) :
    RegsBut W0 r0 t0 := by
  unfold execSendTimeout at ht
  apply whenOn_regs (ht := ht)
  repeat' first
    | with_reducible assumption
    | with_reducible apply advance_regs
    | with_reducible apply sendTimeout_regs
    | split
    | dsimp only
    | with_reducible intro _

theorem execInboxRecord_regs {W0 : Nat → Prop} {r0 : State} (s : State) (h_pba : ∀ k, W0 (0x38000 + 4 * (k % 64))) (h_GLB_EVTOVF : W0 R.GLB_EVTOVF) (h_SRF_TCMISS : W0 R.SRF_TCMISS) (h_CHN_LSTAT : W0 R.CHN_LSTAT) (h_CHN_INBOXIDX : W0 R.CHN_INBOXIDX) (h_CHN_PERR : ∀ i, W0 (R.CHN_PERR i)) (h_DRC_ECCSTAT : W0 R.DRC_ECCSTAT) (h_DRC_UEADDR : W0 R.DRC_UEADDR) (h_DRC_HAZSTAT : W0 R.DRC_HAZSTAT) {t0 : State} (h0 : RegsBut W0 r0 s) (ht : execInboxRecord s = .next t0) :
    RegsBut W0 r0 t0 := by
  unfold execInboxRecord at ht
  apply whenOn_regs (ht := ht)
  repeat' first
    | with_reducible assumption
    | with_reducible apply inboxStep_regs
    | split
    | dsimp only
    | with_reducible intro _

end Sys2Proof.Machine
end

