-- ==== Sys2Proof/Laws/RegsNvm.lean ====
section
/-! SUPPORT. Which registers each operation of Machine/Nvm.lean may write. -/

namespace Sys2Proof.Machine

theorem flashWr_regs {W0 : Nat → Prop} {r0 : State} (s : State) (slot : Nat) (off : Nat) (b : Bytes) (h0 : RegsBut W0 r0 s) :
    RegsBut W0 r0 (flashWr s slot off b) := by
  unfold flashWr
  repeat' first
    | with_reducible assumption
    | simp only [RegsBut.upd]

theorem flashOut_regs {W0 : Nat → Prop} {r0 : State} (s : State) (o : FlashOp) (h0 : RegsBut W0 r0 s) :
    RegsBut W0 r0 (flashOut s o) := by
  unfold flashOut
  repeat' first
    | with_reducible assumption
    | with_reducible apply drawNat_regs
    | with_reducible apply emit_regs
    | with_reducible refine RegsBut.of_snd (by with_reducible assumption) ?_
    | with_reducible refine RegsBut.of_snd2 (by with_reducible assumption) ?_
    | split

theorem flashStart_regs {W0 : Nat → Prop} {r0 : State} (s : State) (h_NVM_STAT : W0 R.NVM_STAT) (h0 : RegsBut W0 r0 s) :
    RegsBut W0 r0 (flashStart s) := by
  unfold flashStart
  repeat' first
    | with_reducible assumption
    | with_reducible exact h_NVM_STAT
    | with_reducible apply setF_regs
    | with_reducible apply flashOut_regs
    | split

theorem flashPush_regs {W0 : Nat → Prop} {r0 : State} (s : State) (o : FlashOp) (h_NVM_STAT : W0 R.NVM_STAT) (h0 : RegsBut W0 r0 s) :
    RegsBut W0 r0 (flashPush s o) := by
  unfold flashPush
  repeat' first
    | with_reducible assumption
    | simp only [RegsBut.upd]
    | with_reducible apply flashStart_regs
    | split

theorem pushMaps_regs {W0 : Nat → Prop} {r0 : State} (s : State) (h_NVM_STAT : W0 R.NVM_STAT) (h0 : RegsBut W0 r0 s) :
    RegsBut W0 r0 (pushMaps s) := by
  unfold pushMaps
  repeat' first
    | with_reducible assumption
    | with_reducible apply flashPush_regs

theorem flashNext_regs {W0 : Nat → Prop} {r0 : State} (s : State) (h_NVM_STAT : W0 R.NVM_STAT) (h0 : RegsBut W0 r0 s) :
    RegsBut W0 r0 (flashNext s) := by
  unfold flashNext
  repeat' first
    | with_reducible assumption
    | simp only [RegsBut.upd]
    | with_reducible apply flashStart_regs

end Sys2Proof.Machine
end

