-- ==== Sys2Proof/Laws/RegsSec.lean ====
section
/-! SUPPORT. Which registers each operation of Machine/Sec.lean may write. -/

namespace Sys2Proof.Machine

theorem signWith_regs {W0 : Nat → Prop} {r0 : State} (s : State) (msg : Bytes) (h0 : RegsBut W0 r0 s) :
    RegsBut W0 r0 (signWith s msg).2 := by
  unfold signWith
  repeat' first
    | with_reducible assumption
    | simp only [RegsBut.free]

theorem measExtend_regs {W0 : Nat → Prop} {r0 : State} (s : State) (i : Nat) (d : Bytes) (h0 : RegsBut W0 r0 s) :
    RegsBut W0 r0 (measExtend s i d) := by
  unfold measExtend
  repeat' first
    | with_reducible assumption
    | simp only [RegsBut.sec]

theorem drawNonce_regs {W0 : Nat → Prop} {r0 : State} (s : State) (h_SEC_NONCE : ∀ i, W0 (R.SEC_NONCE i)) (h0 : RegsBut W0 r0 s) :
    RegsBut W0 r0 (drawNonce s) := by
  unfold drawNonce
  repeat' first
    | with_reducible assumption
    | simp only [RegsBut.sec]
    | with_reducible exact h_SEC_NONCE _
    | with_reducible apply setWord_regs
    | with_reducible apply drawBytes_regs
    | with_reducible apply RegsBut.foldl
    | with_reducible refine RegsBut.of_snd (by with_reducible assumption) ?_
    | with_reducible refine RegsBut.of_snd2 (by with_reducible assumption) ?_
    | split
    | dsimp only
    | with_reducible intro _

theorem tokenCheck_regs {W0 : Nat → Prop} {r0 : State} (s : State) (t : Bytes) (h0 : RegsBut W0 r0 s) :
    RegsBut W0 r0 (tokenCheck s t).2 := by
  unfold tokenCheck
  repeat' first
    | with_reducible assumption
    | simp only [RegsBut.sec]
    | split

theorem tokenAct_regs {W0 : Nat → Prop} {r0 : State} (s : State) (t : Bytes) (h_CHN_KEYSTAT : W0 R.CHN_KEYSTAT) (h_CHN_KSESS : ∀ i, W0 (R.CHN_KSESS i)) (h0 : RegsBut W0 r0 s) :
    RegsBut W0 r0 (tokenAct s t) := by
  unfold tokenAct
  repeat' first
    | with_reducible assumption
    | simp only [RegsBut.sec]
    | with_reducible apply dropKeySlots_regs
    | with_reducible apply measExtend_regs
    | split

theorem tokenTake_regs {W0 : Nat → Prop} {r0 : State} (s : State) (t : Bytes) (h_CHN_KEYSTAT : W0 R.CHN_KEYSTAT) (h_CHN_KSESS : ∀ i, W0 (R.CHN_KSESS i)) (h_SEC_CNT : W0 R.SEC_CNT) (h0 : RegsBut W0 r0 s) :
    RegsBut W0 r0 (tokenTake s t).2 := by
  unfold tokenTake
  repeat' first
    | with_reducible assumption
    | with_reducible exact h_SEC_CNT
    | with_reducible apply incSat_regs
    | with_reducible apply measExtend_regs
    | with_reducible apply tokenCheck_regs
    | with_reducible apply tokenAct_regs
    | with_reducible refine RegsBut.of_snd (by with_reducible assumption) ?_
    | with_reducible refine RegsBut.of_snd2 (by with_reducible assumption) ?_
    | split

theorem engineShow_regs {W0 : Nat → Prop} {r0 : State} (s : State) (h_SEC_STAT : W0 R.SEC_STAT) (h0 : RegsBut W0 r0 s) :
    RegsBut W0 r0 (engineShow s) := by
  unfold engineShow
  repeat' first
    | with_reducible assumption
    | with_reducible exact h_SEC_STAT
    | with_reducible apply setF_regs

theorem engineRun_regs {W0 : Nat → Prop} {r0 : State} (h_SEC_STAT : W0 R.SEC_STAT) (y0 : Nat) (y1 : State)
    (h0 : RegsBut W0 r0 y1) :
    RegsBut W0 r0 (engineRun y0 y1) := by
  induction y0 generalizing y1 with
  | zero =>
    unfold engineRun
    repeat' first
      | with_reducible assumption
      | simp only [RegsBut.sec]
      | with_reducible apply ih
      | with_reducible apply engineShow_regs
  | succ y0 ih =>
    unfold engineRun
    repeat' first
      | with_reducible assumption
      | simp only [RegsBut.sec]
      | with_reducible apply ih
      | with_reducible apply engineShow_regs
      | split

theorem engineAdd_regs {W0 : Nat → Prop} {r0 : State} (s : State) (o : EngOp) (h_SEC_STAT : W0 R.SEC_STAT) (h0 : RegsBut W0 r0 s) :
    RegsBut W0 r0 (engineAdd s o) := by
  unfold engineAdd
  repeat' first
    | with_reducible assumption
    | simp only [RegsBut.sec]
    | with_reducible apply engineRun_regs

theorem certGet_regs {W0 : Nat → Prop} {r0 : State} (s : State) (l : Letter) (h_CHN_LSTAT : W0 R.CHN_LSTAT) (h_CHN_PERR : ∀ i, W0 (R.CHN_PERR i)) (h0 : RegsBut W0 r0 s) :
    RegsBut W0 r0 (certGet s l) := by
  unfold certGet
  repeat' first
    | with_reducible assumption
    | with_reducible apply answer_regs
    | split

theorem unwrapDone_regs {W0 : Nat → Prop} {r0 : State} (s : State) (l : Letter) (h_CHN_KEYSTAT : W0 R.CHN_KEYSTAT) (h_CHN_LSTAT : W0 R.CHN_LSTAT) (h_CHN_KSESS : ∀ i, W0 (R.CHN_KSESS i)) (h_CHN_PERR : ∀ i, W0 (R.CHN_PERR i)) (h_SEC_CNT : W0 R.SEC_CNT) (h0 : RegsBut W0 r0 s) :
    RegsBut W0 r0 (unwrapDone s l) := by
  unfold unwrapDone
  repeat' first
    | with_reducible assumption
    | with_reducible exact h_SEC_CNT
    | with_reducible apply incSat_regs
    | with_reducible apply setKeySlot_regs
    | with_reducible apply answer_regs
    | split

theorem quoteRecord_regs {W0 : Nat → Prop} {r0 : State} (s : State) (mask : Nat) (nonce : Bytes) (h0 : RegsBut W0 r0 s) :
    RegsBut W0 r0 (quoteRecord s mask nonce).2 := by
  unfold quoteRecord
  repeat' first
    | with_reducible assumption
    | with_reducible apply signWith_regs

theorem quoteReq_regs {W0 : Nat → Prop} {r0 : State} (s : State) (l : Letter) (h_CHN_LSTAT : W0 R.CHN_LSTAT) (h_CHN_PERR : ∀ i, W0 (R.CHN_PERR i)) (h_SEC_STAT : W0 R.SEC_STAT) (h_SEC_CNT : W0 R.SEC_CNT) (h0 : RegsBut W0 r0 s) :
    RegsBut W0 r0 (quoteReq s l) := by
  unfold quoteReq
  repeat' first
    | with_reducible assumption
    | with_reducible exact h_SEC_CNT
    | with_reducible apply incSat_regs
    | with_reducible apply answer_regs
    | with_reducible apply engineAdd_regs
    | split
    | dsimp only

theorem quoteLetterDone_regs {W0 : Nat → Prop} {r0 : State} (s : State) (l : Letter) (mask : Nat) (h_CHN_LSTAT : W0 R.CHN_LSTAT) (h_CHN_PERR : ∀ i, W0 (R.CHN_PERR i)) (h0 : RegsBut W0 r0 s) :
    RegsBut W0 r0 (quoteLetterDone s l mask) := by
  unfold quoteLetterDone
  repeat' first
    | with_reducible assumption
    | with_reducible apply answer_regs
    | with_reducible apply quoteRecord_regs
    | with_reducible refine RegsBut.of_snd (by with_reducible assumption) ?_
    | with_reducible refine RegsBut.of_snd2 (by with_reducible assumption) ?_
    | split

theorem quoteEntryDone_regs {W0 : Nat → Prop} {r0 : State} (s : State) (it : Item) (nonce : Bytes) (h_pba : ∀ k, W0 (0x38000 + 4 * (k % 64))) (h_GLB_EVTOVF : W0 R.GLB_EVTOVF) (h_QUE_STAT : ∀ i, W0 (R.QUE_STAT i)) (h_QUE_RET : ∀ i, W0 (R.QUE_RET i)) (h_SRF_TCMISS : W0 R.SRF_TCMISS) (h_CHN_PERR : ∀ i, W0 (R.CHN_PERR i)) (h_DRC_ECCSTAT : W0 R.DRC_ECCSTAT) (h_DRC_UEADDR : W0 R.DRC_UEADDR) (h_DRC_HAZSTAT : W0 R.DRC_HAZSTAT) (h0 : RegsBut W0 r0 s) :
    RegsBut W0 r0 (quoteEntryDone s it nonce) := by
  unfold quoteEntryDone
  repeat' first
    | with_reducible assumption
    | with_reducible apply svcWrite_regs
    | with_reducible apply secDone_regs
    | with_reducible apply quoteRecord_regs
    | with_reducible refine RegsBut.of_snd (by with_reducible assumption) ?_
    | with_reducible refine RegsBut.of_snd2 (by with_reducible assumption) ?_
    | split
    | dsimp only

theorem keyset_regs {W0 : Nat → Prop} {r0 : State} (s : State) (it : Item) (h_pba : ∀ k, W0 (0x38000 + 4 * (k % 64))) (h_QUE_STAT : ∀ i, W0 (R.QUE_STAT i)) (h_QUE_RET : ∀ i, W0 (R.QUE_RET i)) (h_SEC_SESSION : W0 R.SEC_SESSION) (h_NVM_STAT : W0 R.NVM_STAT) (h0 : RegsBut W0 r0 s) :
    RegsBut W0 r0 (keyset s it) := by
  unfold keyset
  repeat' first
    | with_reducible assumption
    | simp only [RegsBut.sec]
    | with_reducible exact h_SEC_SESSION
    | with_reducible apply setF_regs
    | with_reducible apply drawBytes_regs
    | with_reducible apply secDone_regs
    | with_reducible apply flashPush_regs
    | with_reducible refine RegsBut.of_snd (by with_reducible assumption) ?_
    | with_reducible refine RegsBut.of_snd2 (by with_reducible assumption) ?_
    | split

theorem enrolEnd_regs {W0 : Nat → Prop} {r0 : State} (s : State) (x : Enrol) (c : Status) (result : Nat) (rcode : Nat) (h_pba : ∀ k, W0 (0x38000 + 4 * (k % 64))) (h_QUE_STAT : ∀ i, W0 (R.QUE_STAT i)) (h_QUE_RET : ∀ i, W0 (R.QUE_RET i)) (h0 : RegsBut W0 r0 s) :
    RegsBut W0 r0 (enrolEnd s x c result rcode) := by
  unfold enrolEnd
  repeat' first
    | with_reducible assumption
    | simp only [RegsBut.sec]
    | with_reducible apply secDone_regs

theorem enrolSet_regs {W0 : Nat → Prop} {r0 : State} (s : State) (x : Enrol) (h0 : RegsBut W0 r0 s) :
    RegsBut W0 r0 (enrolSet s x) := by
  unfold enrolSet
  repeat' first
    | with_reducible assumption
    | simp only [RegsBut.sec]

theorem enrolSend_regs {W0 : Nat → Prop} {r0 : State} (s : State) (x : Enrol) (ltype : Nat) (slot : Nat) (content : Bytes) (h0 : RegsBut W0 r0 s) :
    RegsBut W0 r0 (enrolSend s x ltype slot content) := by
  unfold enrolSend
  repeat' first
    | with_reducible assumption
    | with_reducible apply newLid_regs
    | with_reducible apply sendLetterCells_regs
    | with_reducible apply enrolSet_regs
    | with_reducible apply RegsBut.foldl
    | with_reducible refine RegsBut.of_snd (by with_reducible assumption) ?_
    | with_reducible refine RegsBut.of_snd2 (by with_reducible assumption) ?_
    | split
    | dsimp only
    | with_reducible intro _

theorem enrolStart_regs {W0 : Nat → Prop} {r0 : State} (s : State) (it : Item) (h_pba : ∀ k, W0 (0x38000 + 4 * (k % 64))) (h_QUE_STAT : ∀ i, W0 (R.QUE_STAT i)) (h_QUE_RET : ∀ i, W0 (R.QUE_RET i)) (h0 : RegsBut W0 r0 s) :
    RegsBut W0 r0 (enrolStart s it) := by
  unfold enrolStart
  repeat' first
    | with_reducible assumption
    | simp only [RegsBut.sec]
    | with_reducible apply secDone_regs
    | with_reducible apply enrolSend_regs
    | split

theorem enrolInstall_regs {W0 : Nat → Prop} {r0 : State} (s : State) (x : Enrol) (h0 : RegsBut W0 r0 s) :
    RegsBut W0 r0 (enrolInstall s x) := by
  unfold enrolInstall
  repeat' first
    | with_reducible assumption
    | simp only [RegsBut.sec]
    | with_reducible apply setKeyRec_regs
    | split

theorem enrolReply_regs {W0 : Nat → Prop} {r0 : State} (s : State) (x : Enrol) (c : Bytes) (h_pba : ∀ k, W0 (0x38000 + 4 * (k % 64))) (h_QUE_STAT : ∀ i, W0 (R.QUE_STAT i)) (h_QUE_RET : ∀ i, W0 (R.QUE_RET i)) (h_SEC_STAT : W0 R.SEC_STAT) (h0 : RegsBut W0 r0 s) :
    RegsBut W0 r0 (enrolReply s x c) := by
  unfold enrolReply
  repeat' first
    | with_reducible assumption
    | with_reducible apply engineAdd_regs
    | with_reducible apply enrolEnd_regs
    | with_reducible apply enrolSet_regs
    | with_reducible apply enrolInstall_regs
    | split
    | dsimp only

theorem enrolReplyStep_regs {W0 : Nat → Prop} {r0 : State} (s : State) (h_pba : ∀ k, W0 (0x38000 + 4 * (k % 64))) (h_QUE_STAT : ∀ i, W0 (R.QUE_STAT i)) (h_QUE_RET : ∀ i, W0 (R.QUE_RET i)) (h_SEC_STAT : W0 R.SEC_STAT) (h0 : RegsBut W0 r0 s) :
    RegsBut W0 r0 (enrolReplyStep s) := by
  unfold enrolReplyStep
  repeat' first
    | with_reducible assumption
    | with_reducible refine takeLetter_regs (hx := by with_reducible assumption) ?_
    | with_reducible apply enrolReply_regs
    | split
    | dsimp only

theorem enrolTimeout_regs {W0 : Nat → Prop} {r0 : State} (s : State) (h_pba : ∀ k, W0 (0x38000 + 4 * (k % 64))) (h_QUE_STAT : ∀ i, W0 (R.QUE_STAT i)) (h_QUE_RET : ∀ i, W0 (R.QUE_RET i)) (h0 : RegsBut W0 r0 s) :
    RegsBut W0 r0 (enrolTimeout s) := by
  unfold enrolTimeout
  repeat' first
    | with_reducible assumption
    | with_reducible apply enrolEnd_regs
    | split

theorem enrolStep_regs {W0 : Nat → Prop} {r0 : State} (s : State) (x : Enrol) (h_pba : ∀ k, W0 (0x38000 + 4 * (k % 64))) (h_QUE_STAT : ∀ i, W0 (R.QUE_STAT i)) (h_QUE_RET : ∀ i, W0 (R.QUE_RET i)) (h_SEC_STAT : W0 R.SEC_STAT) (h0 : RegsBut W0 r0 s) :
    RegsBut W0 r0 (enrolStep s x) := by
  unfold enrolStep
  repeat' first
    | with_reducible assumption
    | with_reducible apply drawBytes_regs
    | with_reducible apply setKeyRec_regs
    | with_reducible apply engineAdd_regs
    | with_reducible apply enrolEnd_regs
    | with_reducible apply enrolSet_regs
    | with_reducible apply enrolSend_regs
    | with_reducible refine RegsBut.of_snd (by with_reducible assumption) ?_
    | with_reducible refine RegsBut.of_snd2 (by with_reducible assumption) ?_
    | split

theorem switchEntry_regs {W0 : Nat → Prop} {r0 : State} (s : State) (it : Item) (h_pba : ∀ k, W0 (0x38000 + 4 * (k % 64))) (h_QUE_STAT : ∀ i, W0 (R.QUE_STAT i)) (h_QUE_RET : ∀ i, W0 (R.QUE_RET i)) (h0 : RegsBut W0 r0 s) :
    RegsBut W0 r0 (switchEntry s it) := by
  unfold switchEntry
  repeat' first
    | with_reducible assumption
    | simp only [RegsBut.sec]
    | with_reducible apply secDone_regs
    | split

theorem quoteEntry_regs {W0 : Nat → Prop} {r0 : State} (s : State) (it : Item) (host : HostRes) (h_pba : ∀ k, W0 (0x38000 + 4 * (k % 64))) (h_GLB_EVTOVF : W0 R.GLB_EVTOVF) (h_QUE_STAT : ∀ i, W0 (R.QUE_STAT i)) (h_QUE_RET : ∀ i, W0 (R.QUE_RET i)) (h_SRF_TCMISS : W0 R.SRF_TCMISS) (h_CHN_PERR : ∀ i, W0 (R.CHN_PERR i)) (h_DRC_ECCSTAT : W0 R.DRC_ECCSTAT) (h_DRC_UEADDR : W0 R.DRC_UEADDR) (h_SEC_STAT : W0 R.SEC_STAT) (h_SEC_CNT : W0 R.SEC_CNT) (h0 : RegsBut W0 r0 s) :
    RegsBut W0 r0 (quoteEntry s it host) := by
  unfold quoteEntry
  repeat' first
    | with_reducible assumption
    | with_reducible exact h_SEC_CNT
    | with_reducible apply incSat_regs
    | with_reducible apply areaFetch_regs
    | with_reducible apply secDone_regs
    | with_reducible apply engineAdd_regs
    | with_reducible refine RegsBut.of_snd (by with_reducible assumption) ?_
    | with_reducible refine RegsBut.of_snd2 (by with_reducible assumption) ?_
    | split
    | dsimp only

theorem extendEntry_regs {W0 : Nat → Prop} {r0 : State} (s : State) (it : Item) (host : HostRes) (h_pba : ∀ k, W0 (0x38000 + 4 * (k % 64))) (h_GLB_EVTOVF : W0 R.GLB_EVTOVF) (h_QUE_STAT : ∀ i, W0 (R.QUE_STAT i)) (h_QUE_RET : ∀ i, W0 (R.QUE_RET i)) (h_SRF_TCMISS : W0 R.SRF_TCMISS) (h_CHN_PERR : ∀ i, W0 (R.CHN_PERR i)) (h_DRC_ECCSTAT : W0 R.DRC_ECCSTAT) (h_DRC_UEADDR : W0 R.DRC_UEADDR) (h0 : RegsBut W0 r0 s) :
    RegsBut W0 r0 (extendEntry s it host) := by
  unfold extendEntry
  repeat' first
    | with_reducible assumption
    | with_reducible apply areaFetch_regs
    | with_reducible apply secDone_regs
    | with_reducible apply measExtend_regs
    | with_reducible refine RegsBut.of_snd (by with_reducible assumption) ?_
    | with_reducible refine RegsBut.of_snd2 (by with_reducible assumption) ?_
    | split
    | dsimp only

theorem lifeEntry_regs {W0 : Nat → Prop} {r0 : State} (s : State) (it : Item) (host : HostRes) (h_pba : ∀ k, W0 (0x38000 + 4 * (k % 64))) (h_GLB_EVTOVF : W0 R.GLB_EVTOVF) (h_QUE_STAT : ∀ i, W0 (R.QUE_STAT i)) (h_QUE_RET : ∀ i, W0 (R.QUE_RET i)) (h_SRF_TCMISS : W0 R.SRF_TCMISS) (h_CHN_KEYSTAT : W0 R.CHN_KEYSTAT) (h_CHN_KSESS : ∀ i, W0 (R.CHN_KSESS i)) (h_CHN_PERR : ∀ i, W0 (R.CHN_PERR i)) (h_DRC_ECCSTAT : W0 R.DRC_ECCSTAT) (h_DRC_UEADDR : W0 R.DRC_UEADDR) (h_SEC_CNT : W0 R.SEC_CNT) (h0 : RegsBut W0 r0 s) :
    RegsBut W0 r0 (lifeEntry s it host) := by
  unfold lifeEntry
  repeat' first
    | with_reducible assumption
    | with_reducible apply areaFetch_regs
    | with_reducible apply secDone_regs
    | with_reducible apply tokenTake_regs
    | with_reducible refine RegsBut.of_snd (by with_reducible assumption) ?_
    | with_reducible refine RegsBut.of_snd2 (by with_reducible assumption) ?_
    | split
    | dsimp only

theorem intervalClose_regs {W0 : Nat → Prop} {r0 : State} (s : State) (h_SEC_STAT : W0 R.SEC_STAT) (h0 : RegsBut W0 r0 s) :
    RegsBut W0 r0 (intervalClose s) := by
  unfold intervalClose
  repeat' first
    | with_reducible assumption
    | simp only [RegsBut.sec]
    | with_reducible apply engineAdd_regs
    | with_reducible refine RegsBut.of_snd (by with_reducible assumption) ?_
    | with_reducible refine RegsBut.of_snd2 (by with_reducible assumption) ?_
    | split

theorem intervalEnd_regs {W0 : Nat → Prop} {r0 : State} (s : State) (a : Int) (h_SEC_STAT : W0 R.SEC_STAT) (h0 : RegsBut W0 r0 s) :
    RegsBut W0 r0 (intervalEnd s a) := by
  unfold intervalEnd
  repeat' first
    | with_reducible assumption
    | simp only [RegsBut.sec]
    | with_reducible apply intervalClose_regs
    | split

theorem intervalFlag_regs {W0 : Nat → Prop} {r0 : State} (s : State) (f : Nat) (h0 : RegsBut W0 r0 s) :
    RegsBut W0 r0 (intervalFlag s f) := by
  unfold intervalFlag
  repeat' first
    | with_reducible assumption
    | simp only [RegsBut.sec]

theorem receiptFrame_regs {W0 : Nat → Prop} {r0 : State} (s : State) (n : Nat) (a : Int) (missed : Bool) (v : Nat) (claim : Nat) (test : Bool) (h_SEC_STAT : W0 R.SEC_STAT) (h0 : RegsBut W0 r0 s) :
    RegsBut W0 r0 (receiptFrame s n a missed v claim test) := by
  unfold receiptFrame
  repeat' first
    | with_reducible assumption
    | simp only [RegsBut.sec]
    | with_reducible apply intervalEnd_regs
    | split

theorem receiptBytes_regs {W0 : Nat → Prop} {r0 : State} (s : State) (iv : Interval) (rseq : Nat) (h0 : RegsBut W0 r0 s) :
    RegsBut W0 r0 (receiptBytes s iv rseq).2 := by
  unfold receiptBytes
  repeat' first
    | with_reducible assumption
    | with_reducible apply signWith_regs

theorem heldDrop_regs {W0 : Nat → Prop} {r0 : State} (s : State) (h_SEC_CNT : W0 R.SEC_CNT) (h0 : RegsBut W0 r0 s) :
    RegsBut W0 r0 (heldDrop s) := by
  unfold heldDrop
  repeat' first
    | with_reducible assumption
    | simp only [RegsBut.sec]
    | with_reducible exact h_SEC_CNT
    | with_reducible apply incSat_regs
    | split

theorem receiptDone_regs {W0 : Nat → Prop} {r0 : State} (s : State) (iv : Interval) (h_SEC_RSEQ : W0 R.SEC_RSEQ) (h_SEC_CNT : W0 R.SEC_CNT) (h0 : RegsBut W0 r0 s) :
    RegsBut W0 r0 (receiptDone s iv) := by
  unfold receiptDone
  repeat' first
    | with_reducible assumption
    | simp only [RegsBut.sec]
    | with_reducible exact h_SEC_RSEQ
    | with_reducible apply setF_regs
    | with_reducible apply receiptBytes_regs
    | with_reducible apply heldDrop_regs
    | with_reducible refine RegsBut.of_snd (by with_reducible assumption) ?_
    | with_reducible refine RegsBut.of_snd2 (by with_reducible assumption) ?_
    | split

theorem receiptSend_regs {W0 : Nat → Prop} {r0 : State} (s : State) (h_CHN_PERR : ∀ i, W0 (R.CHN_PERR i)) (h_SEC_CNT : W0 R.SEC_CNT) (h0 : RegsBut W0 r0 s) :
    RegsBut W0 r0 (receiptSend s) := by
  unfold receiptSend
  repeat' first
    | with_reducible assumption
    | with_reducible apply sendHeld_regs
    | with_reducible apply heldDrop_regs
    | split

theorem engineFinish_regs {W0 : Nat → Prop} {r0 : State} (s : State) (o : EngOp) (h_pba : ∀ k, W0 (0x38000 + 4 * (k % 64))) (h_GLB_EVTOVF : W0 R.GLB_EVTOVF) (h_QUE_STAT : ∀ i, W0 (R.QUE_STAT i)) (h_QUE_RET : ∀ i, W0 (R.QUE_RET i)) (h_SRF_TCMISS : W0 R.SRF_TCMISS) (h_CHN_KEYSTAT : W0 R.CHN_KEYSTAT) (h_CHN_LSTAT : W0 R.CHN_LSTAT) (h_CHN_KSESS : ∀ i, W0 (R.CHN_KSESS i)) (h_CHN_PERR : ∀ i, W0 (R.CHN_PERR i)) (h_DRC_ECCSTAT : W0 R.DRC_ECCSTAT) (h_DRC_UEADDR : W0 R.DRC_UEADDR) (h_DRC_HAZSTAT : W0 R.DRC_HAZSTAT) (h_SEC_STAT : W0 R.SEC_STAT) (h_SEC_RSEQ : W0 R.SEC_RSEQ) (h_SEC_CNT : W0 R.SEC_CNT) (h0 : RegsBut W0 r0 s) :
    RegsBut W0 r0 (engineFinish s o) := by
  unfold engineFinish
  repeat' first
    | with_reducible assumption
    | with_reducible apply unwrapDone_regs
    | with_reducible apply quoteLetterDone_regs
    | with_reducible apply quoteEntryDone_regs
    | with_reducible apply enrolStep_regs
    | with_reducible apply quoteEntry_regs
    | with_reducible apply receiptDone_regs
    | split

theorem engineDone_regs {W0 : Nat → Prop} {r0 : State} (s : State) (h_pba : ∀ k, W0 (0x38000 + 4 * (k % 64))) (h_GLB_EVTOVF : W0 R.GLB_EVTOVF) (h_QUE_STAT : ∀ i, W0 (R.QUE_STAT i)) (h_QUE_RET : ∀ i, W0 (R.QUE_RET i)) (h_SRF_TCMISS : W0 R.SRF_TCMISS) (h_CHN_KEYSTAT : W0 R.CHN_KEYSTAT) (h_CHN_LSTAT : W0 R.CHN_LSTAT) (h_CHN_KSESS : ∀ i, W0 (R.CHN_KSESS i)) (h_CHN_PERR : ∀ i, W0 (R.CHN_PERR i)) (h_DRC_ECCSTAT : W0 R.DRC_ECCSTAT) (h_DRC_UEADDR : W0 R.DRC_UEADDR) (h_DRC_HAZSTAT : W0 R.DRC_HAZSTAT) (h_SEC_STAT : W0 R.SEC_STAT) (h_SEC_RSEQ : W0 R.SEC_RSEQ) (h_SEC_CNT : W0 R.SEC_CNT) (h0 : RegsBut W0 r0 s) :
    RegsBut W0 r0 (engineDone s) := by
  unfold engineDone
  repeat' first
    | with_reducible assumption
    | simp only [RegsBut.sec]
    | with_reducible apply engineRun_regs
    | with_reducible apply engineFinish_regs
    | split

theorem crcWrite_regs {W0 : Nat → Prop} {r0 : State} (s : State) (h_pba : ∀ k, W0 (0x38000 + 4 * (k % 64))) (h_GLB_EVTOVF : W0 R.GLB_EVTOVF) (h_SRF_TCMISS : W0 R.SRF_TCMISS) (h_CHN_PERR : ∀ i, W0 (R.CHN_PERR i)) (h_DRC_ECCSTAT : W0 R.DRC_ECCSTAT) (h_DRC_UEADDR : W0 R.DRC_UEADDR) (h_DRC_HAZSTAT : W0 R.DRC_HAZSTAT) (h0 : RegsBut W0 r0 s) :
    RegsBut W0 r0 (crcWrite s) := by
  unfold crcWrite
  repeat' first
    | with_reducible assumption
    | simp only [RegsBut.sec]
    | with_reducible apply svcWrite_regs
    | split

theorem whenSec_regs {W0 : Nat → Prop} {r0 : State} (s : State) (f : State → State) (h_f : ∀ (x0 : State), RegsBut W0 r0 x0 → RegsBut W0 r0 (f x0)) {t0 : State} (h0 : RegsBut W0 r0 s) (ht : whenSec s f = .next t0) :
    RegsBut W0 r0 t0 := by
  unfold whenSec at ht
  apply whenOn_regs (ht := ht)
  repeat' first
    | with_reducible assumption

theorem execCertGetLetter_regs {W0 : Nat → Prop} {r0 : State} (s : State) (h_CHN_LSTAT : W0 R.CHN_LSTAT) (h_CHN_PERR : ∀ i, W0 (R.CHN_PERR i)) {t0 : State} (h0 : RegsBut W0 r0 s) (ht : execCertGetLetter s = .next t0) :
    RegsBut W0 r0 t0 := by
  unfold execCertGetLetter at ht
  apply whenSec_regs (ht := ht)
  repeat' first
    | with_reducible assumption
    | with_reducible apply onLetter_regs
    | with_reducible apply certGet_regs
    | split
    | dsimp only
    | with_reducible intro _

theorem execKeyWrapLetter_regs {W0 : Nat → Prop} {r0 : State} (s : State) (h_SEC_STAT : W0 R.SEC_STAT) {t0 : State} (h0 : RegsBut W0 r0 s) (ht : execKeyWrapLetter s = .next t0) :
    RegsBut W0 r0 t0 := by
  unfold execKeyWrapLetter at ht
  apply whenSec_regs (ht := ht)
  repeat' first
    | with_reducible assumption
    | with_reducible apply onLetter_regs
    | with_reducible apply engineAdd_regs
    | split
    | dsimp only
    | with_reducible intro _

theorem execQuoteReqLetter_regs {W0 : Nat → Prop} {r0 : State} (s : State) (h_CHN_LSTAT : W0 R.CHN_LSTAT) (h_CHN_PERR : ∀ i, W0 (R.CHN_PERR i)) (h_SEC_STAT : W0 R.SEC_STAT) (h_SEC_CNT : W0 R.SEC_CNT) {t0 : State} (h0 : RegsBut W0 r0 s) (ht : execQuoteReqLetter s = .next t0) :
    RegsBut W0 r0 t0 := by
  unfold execQuoteReqLetter at ht
  apply whenSec_regs (ht := ht)
  repeat' first
    | with_reducible assumption
    | with_reducible apply onLetter_regs
    | with_reducible apply quoteReq_regs
    | split
    | dsimp only
    | with_reducible intro _

theorem execKeysetEntry_regs {W0 : Nat → Prop} {r0 : State} (s : State) (h_pba : ∀ k, W0 (0x38000 + 4 * (k % 64))) (h_QUE_STAT : ∀ i, W0 (R.QUE_STAT i)) (h_QUE_RET : ∀ i, W0 (R.QUE_RET i)) (h_SOR_TGTSTAT : ∀ i, W0 (R.SOR_TGTSTAT i)) (h_SEC_SESSION : W0 R.SEC_SESSION) (h_NVM_STAT : W0 R.NVM_STAT) {t0 : State} (h0 : RegsBut W0 r0 s) (ht : execKeysetEntry s = .next t0) :
    RegsBut W0 r0 t0 := by
  unfold execKeysetEntry at ht
  apply whenSec_regs (ht := ht)
  repeat' first
    | with_reducible assumption
    | with_reducible apply onEntry_regs
    | with_reducible apply keyset_regs
    | split
    | dsimp only
    | with_reducible intro _

theorem execEnrolEntry_regs {W0 : Nat → Prop} {r0 : State} (s : State) (h_pba : ∀ k, W0 (0x38000 + 4 * (k % 64))) (h_QUE_STAT : ∀ i, W0 (R.QUE_STAT i)) (h_QUE_RET : ∀ i, W0 (R.QUE_RET i)) (h_SOR_TGTSTAT : ∀ i, W0 (R.SOR_TGTSTAT i)) {t0 : State} (h0 : RegsBut W0 r0 s) (ht : execEnrolEntry s = .next t0) :
    RegsBut W0 r0 t0 := by
  unfold execEnrolEntry at ht
  apply whenSec_regs (ht := ht)
  repeat' first
    | with_reducible assumption
    | with_reducible apply onEntry_regs
    | with_reducible apply enrolStart_regs
    | split
    | dsimp only
    | with_reducible intro _

theorem execEnrolReply_regs {W0 : Nat → Prop} {r0 : State} (s : State) (h_pba : ∀ k, W0 (0x38000 + 4 * (k % 64))) (h_QUE_STAT : ∀ i, W0 (R.QUE_STAT i)) (h_QUE_RET : ∀ i, W0 (R.QUE_RET i)) (h_SEC_STAT : W0 R.SEC_STAT) {t0 : State} (h0 : RegsBut W0 r0 s) (ht : execEnrolReply s = .next t0) :
    RegsBut W0 r0 t0 := by
  unfold execEnrolReply at ht
  apply whenSec_regs (ht := ht)
  repeat' first
    | with_reducible assumption
    | with_reducible apply enrolReplyStep_regs
    | split
    | dsimp only
    | with_reducible intro _

theorem execEnrolTimeout_regs {W0 : Nat → Prop} {r0 : State} (dt : Nat) (s : State) (h_pba : ∀ k, W0 (0x38000 + 4 * (k % 64))) (h_GLB_EVTOVF : W0 R.GLB_EVTOVF) (h_QUE_STAT : ∀ i, W0 (R.QUE_STAT i)) (h_QUE_RET : ∀ i, W0 (R.QUE_RET i)) (h_SOR_GSTAT : W0 R.SOR_GSTAT) (h_CHN_PERR : ∀ i, W0 (R.CHN_PERR i)) {t0 : State} (h0 : RegsBut W0 r0 s) (ht : execEnrolTimeout dt s = .next t0) :
    RegsBut W0 r0 t0 := by
  unfold execEnrolTimeout at ht
  apply whenSec_regs (ht := ht)
  repeat' first
    | with_reducible assumption
    | with_reducible apply advance_regs
    | with_reducible apply enrolTimeout_regs
    | split
    | dsimp only
    | with_reducible intro _

theorem execSwitchEntry_regs {W0 : Nat → Prop} {r0 : State} (s : State) (h_pba : ∀ k, W0 (0x38000 + 4 * (k % 64))) (h_QUE_STAT : ∀ i, W0 (R.QUE_STAT i)) (h_QUE_RET : ∀ i, W0 (R.QUE_RET i)) (h_SOR_TGTSTAT : ∀ i, W0 (R.SOR_TGTSTAT i)) {t0 : State} (h0 : RegsBut W0 r0 s) (ht : execSwitchEntry s = .next t0) :
    RegsBut W0 r0 t0 := by
  unfold execSwitchEntry at ht
  apply whenSec_regs (ht := ht)
  repeat' first
    | with_reducible assumption
    | with_reducible apply onEntry_regs
    | with_reducible apply switchEntry_regs
    | split
    | dsimp only
    | with_reducible intro _

theorem execQuoteEntry_regs {W0 : Nat → Prop} {r0 : State} (host : HostRes) (s : State) (h_pba : ∀ k, W0 (0x38000 + 4 * (k % 64))) (h_GLB_EVTOVF : W0 R.GLB_EVTOVF) (h_QUE_STAT : ∀ i, W0 (R.QUE_STAT i)) (h_QUE_RET : ∀ i, W0 (R.QUE_RET i)) (h_SOR_TGTSTAT : ∀ i, W0 (R.SOR_TGTSTAT i)) (h_SRF_TCMISS : W0 R.SRF_TCMISS) (h_CHN_PERR : ∀ i, W0 (R.CHN_PERR i)) (h_DRC_ECCSTAT : W0 R.DRC_ECCSTAT) (h_DRC_UEADDR : W0 R.DRC_UEADDR) (h_SEC_STAT : W0 R.SEC_STAT) (h_SEC_CNT : W0 R.SEC_CNT) {t0 : State} (h0 : RegsBut W0 r0 s) (ht : execQuoteEntry host s = .next t0) :
    RegsBut W0 r0 t0 := by
  unfold execQuoteEntry at ht
  apply whenSec_regs (ht := ht)
  repeat' first
    | with_reducible assumption
    | with_reducible apply onEntryRead_regs
    | with_reducible apply quoteEntry_regs
    | split
    | dsimp only
    | with_reducible intro _

theorem execExtendEntry_regs {W0 : Nat → Prop} {r0 : State} (host : HostRes) (s : State) (h_pba : ∀ k, W0 (0x38000 + 4 * (k % 64))) (h_GLB_EVTOVF : W0 R.GLB_EVTOVF) (h_QUE_STAT : ∀ i, W0 (R.QUE_STAT i)) (h_QUE_RET : ∀ i, W0 (R.QUE_RET i)) (h_SOR_TGTSTAT : ∀ i, W0 (R.SOR_TGTSTAT i)) (h_SRF_TCMISS : W0 R.SRF_TCMISS) (h_CHN_PERR : ∀ i, W0 (R.CHN_PERR i)) (h_DRC_ECCSTAT : W0 R.DRC_ECCSTAT) (h_DRC_UEADDR : W0 R.DRC_UEADDR) {t0 : State} (h0 : RegsBut W0 r0 s) (ht : execExtendEntry host s = .next t0) :
    RegsBut W0 r0 t0 := by
  unfold execExtendEntry at ht
  apply whenSec_regs (ht := ht)
  repeat' first
    | with_reducible assumption
    | with_reducible apply onEntryRead_regs
    | with_reducible apply extendEntry_regs
    | split
    | dsimp only
    | with_reducible intro _

theorem execLifeEntry_regs {W0 : Nat → Prop} {r0 : State} (host : HostRes) (s : State) (h_pba : ∀ k, W0 (0x38000 + 4 * (k % 64))) (h_GLB_EVTOVF : W0 R.GLB_EVTOVF) (h_QUE_STAT : ∀ i, W0 (R.QUE_STAT i)) (h_QUE_RET : ∀ i, W0 (R.QUE_RET i)) (h_SOR_TGTSTAT : ∀ i, W0 (R.SOR_TGTSTAT i)) (h_SRF_TCMISS : W0 R.SRF_TCMISS) (h_CHN_KEYSTAT : W0 R.CHN_KEYSTAT) (h_CHN_KSESS : ∀ i, W0 (R.CHN_KSESS i)) (h_CHN_PERR : ∀ i, W0 (R.CHN_PERR i)) (h_DRC_ECCSTAT : W0 R.DRC_ECCSTAT) (h_DRC_UEADDR : W0 R.DRC_UEADDR) (h_SEC_CNT : W0 R.SEC_CNT) {t0 : State} (h0 : RegsBut W0 r0 s) (ht : execLifeEntry host s = .next t0) :
    RegsBut W0 r0 t0 := by
  unfold execLifeEntry at ht
  apply whenSec_regs (ht := ht)
  repeat' first
    | with_reducible assumption
    | with_reducible apply onEntryRead_regs
    | with_reducible apply lifeEntry_regs
    | split
    | dsimp only
    | with_reducible intro _

theorem execSignEngineDone_regs {W0 : Nat → Prop} {r0 : State} (dt : Nat) (s : State) (h_pba : ∀ k, W0 (0x38000 + 4 * (k % 64))) (h_GLB_EVTOVF : W0 R.GLB_EVTOVF) (h_QUE_STAT : ∀ i, W0 (R.QUE_STAT i)) (h_QUE_RET : ∀ i, W0 (R.QUE_RET i)) (h_SOR_GSTAT : W0 R.SOR_GSTAT) (h_SRF_TCMISS : W0 R.SRF_TCMISS) (h_CHN_KEYSTAT : W0 R.CHN_KEYSTAT) (h_CHN_LSTAT : W0 R.CHN_LSTAT) (h_CHN_KSESS : ∀ i, W0 (R.CHN_KSESS i)) (h_CHN_PERR : ∀ i, W0 (R.CHN_PERR i)) (h_DRC_ECCSTAT : W0 R.DRC_ECCSTAT) (h_DRC_UEADDR : W0 R.DRC_UEADDR) (h_DRC_HAZSTAT : W0 R.DRC_HAZSTAT) (h_SEC_STAT : W0 R.SEC_STAT) (h_SEC_RSEQ : W0 R.SEC_RSEQ) (h_SEC_CNT : W0 R.SEC_CNT) {t0 : State} (h0 : RegsBut W0 r0 s) (ht : execSignEngineDone dt s = .next t0) :
    RegsBut W0 r0 t0 := by
  unfold execSignEngineDone at ht
  apply whenSec_regs (ht := ht)
  repeat' first
    | with_reducible assumption
    | with_reducible apply advance_regs
    | with_reducible apply engineDone_regs
    | split
    | dsimp only
    | with_reducible intro _

theorem execReceiptSigned_regs {W0 : Nat → Prop} {r0 : State} (s : State) (h_CHN_PERR : ∀ i, W0 (R.CHN_PERR i)) (h_SEC_CNT : W0 R.SEC_CNT) {t0 : State} (h0 : RegsBut W0 r0 s) (ht : execReceiptSigned s = .next t0) :
    RegsBut W0 r0 t0 := by
  unfold execReceiptSigned at ht
  apply whenSec_regs (ht := ht)
  repeat' first
    | with_reducible assumption
    | with_reducible apply receiptSend_regs
    | split
    | dsimp only
    | with_reducible intro _

theorem execCrcRecordWrite_regs {W0 : Nat → Prop} {r0 : State} (dt : Nat) (s : State) (h_pba : ∀ k, W0 (0x38000 + 4 * (k % 64))) (h_GLB_EVTOVF : W0 R.GLB_EVTOVF) (h_SOR_GSTAT : W0 R.SOR_GSTAT) (h_SRF_TCMISS : W0 R.SRF_TCMISS) (h_CHN_PERR : ∀ i, W0 (R.CHN_PERR i)) (h_DRC_ECCSTAT : W0 R.DRC_ECCSTAT) (h_DRC_UEADDR : W0 R.DRC_UEADDR) (h_DRC_HAZSTAT : W0 R.DRC_HAZSTAT) {t0 : State} (h0 : RegsBut W0 r0 s) (ht : execCrcRecordWrite dt s = .next t0) :
    RegsBut W0 r0 t0 := by
  unfold execCrcRecordWrite at ht
  apply whenSec_regs (ht := ht)
  repeat' first
    | with_reducible assumption
    | with_reducible apply advance_regs
    | with_reducible apply crcWrite_regs
    | split
    | dsimp only
    | with_reducible intro _

end Sys2Proof.Machine
end

