-- ==== Sys2Proof/Laws/RegsLmp.lean ====
section
/-! SUPPORT. Which registers each operation of Machine/Lmp.lean may write. -/

namespace Sys2Proof.Machine

theorem checkMode_regs {W0 : Nat → Prop} {r0 : State} (s : State) (m : Mode) (h_LMP_MSTAT : W0 R.LMP_MSTAT) (h0 : RegsBut W0 r0 s) :
    RegsBut W0 r0 (checkMode s m) := by
  unfold checkMode
  repeat' first
    | with_reducible assumption
    | with_reducible exact h_LMP_MSTAT
    | with_reducible apply setF_regs
    | with_reducible apply lampDrop_regs

theorem storeRun_regs {W0 : Nat → Prop} {r0 : State} (s : State) (buf : Nat) (stream : Nat) (run : Nat) (count : Nat) (pix : Bytes) (h_pba : ∀ k, W0 (0x38000 + 4 * (k % 64))) (h_GLB_EVTOVF : W0 R.GLB_EVTOVF) (h_SRF_TCMISS : W0 R.SRF_TCMISS) (h_CHN_PERR : ∀ i, W0 (R.CHN_PERR i)) (h_DRC_ECCSTAT : W0 R.DRC_ECCSTAT) (h_DRC_UEADDR : W0 R.DRC_UEADDR) (h_DRC_HAZSTAT : W0 R.DRC_HAZSTAT) (h0 : RegsBut W0 r0 s) :
    RegsBut W0 r0 (storeRun s buf stream run count pix) := by
  unfold storeRun
  repeat' first
    | with_reducible assumption
    | with_reducible apply surfWrite_regs
    | with_reducible apply RegsBut.foldl
    | split
    | dsimp only
    | with_reducible intro _

theorem setFrame_regs {W0 : Nat → Prop} {r0 : State} (s : State) (f : TFrame) (h0 : RegsBut W0 r0 s) :
    RegsBut W0 r0 (setFrame s f) := by
  unfold setFrame
  repeat' first
    | with_reducible assumption
    | simp only [RegsBut.lmp]

theorem markNobuf_regs {W0 : Nat → Prop} {r0 : State} (s : State) (f : TFrame) (h_LMP_FSTAT : W0 R.LMP_FSTAT) (h0 : RegsBut W0 r0 s) :
    RegsBut W0 r0 (markNobuf s f) := by
  unfold markNobuf
  repeat' first
    | with_reducible assumption
    | with_reducible exact h_LMP_FSTAT
    | with_reducible apply incSat_regs
    | with_reducible apply setFrame_regs

theorem takeRun_regs {W0 : Nat → Prop} {r0 : State} (s : State) (n : Nat) (stream : Nat) (run : Nat) (count : Nat) (stamp : Nat) (pix : Bytes) (h_pba : ∀ k, W0 (0x38000 + 4 * (k % 64))) (h_GLB_EVTOVF : W0 R.GLB_EVTOVF) (h_SRF_TCMISS : W0 R.SRF_TCMISS) (h_CHN_PERR : ∀ i, W0 (R.CHN_PERR i)) (h_LMP_FSTAT : W0 R.LMP_FSTAT) (h_DRC_ECCSTAT : W0 R.DRC_ECCSTAT) (h_DRC_UEADDR : W0 R.DRC_UEADDR) (h_DRC_HAZSTAT : W0 R.DRC_HAZSTAT) (h0 : RegsBut W0 r0 s) :
    RegsBut W0 r0 (takeRun s n stream run count stamp pix) := by
  unfold takeRun
  repeat' first
    | with_reducible assumption
    | with_reducible exact h_LMP_FSTAT
    | with_reducible apply incSat_regs
    | with_reducible apply storeRun_regs
    | with_reducible apply setFrame_regs
    | with_reducible apply markNobuf_regs
    | split
    | dsimp only

theorem runArrive_regs {W0 : Nat → Prop} {r0 : State} (s : State) (x : RxCell) (h_pba : ∀ k, W0 (0x38000 + 4 * (k % 64))) (h_GLB_EVTOVF : W0 R.GLB_EVTOVF) (h_SRF_TCMISS : W0 R.SRF_TCMISS) (h_CHN_KEYSTAT : W0 R.CHN_KEYSTAT) (h_CHN_RSTAT : W0 R.CHN_RSTAT) (h_CHN_PERR : ∀ i, W0 (R.CHN_PERR i)) (h_LMP_FSTAT : W0 R.LMP_FSTAT) (h_DRC_ECCSTAT : W0 R.DRC_ECCSTAT) (h_DRC_UEADDR : W0 R.DRC_UEADDR) (h_DRC_HAZSTAT : W0 R.DRC_HAZSTAT) (h0 : RegsBut W0 r0 s) :
    RegsBut W0 r0 (runArrive s x) := by
  unfold runArrive
  repeat' first
    | with_reducible assumption
    | simp only [RegsBut.chn]
    | with_reducible exact h_CHN_KEYSTAT
    | with_reducible exact h_CHN_RSTAT
    | with_reducible apply setF_regs
    | with_reducible apply incSat_regs
    | with_reducible apply touchKeySlot_regs
    | with_reducible apply takeRun_regs
    | split

theorem abortArrive_regs {W0 : Nat → Prop} {r0 : State} (s : State) (x : RxCell) (h0 : RegsBut W0 r0 s) :
    RegsBut W0 r0 (abortArrive s x) := by
  unfold abortArrive
  repeat' first
    | with_reducible assumption
    | simp only [RegsBut.chn]
    | with_reducible apply setFrame_regs
    | with_reducible refine RegsBut.of_snd (by with_reducible assumption) ?_
    | with_reducible refine RegsBut.of_snd2 (by with_reducible assumption) ?_
    | split

theorem dimArm_regs {W0 : Nat → Prop} {r0 : State} (s : State) (h_LMP_DIMNOW : W0 R.LMP_DIMNOW) (h0 : RegsBut W0 r0 s) :
    RegsBut W0 r0 (dimArm s) := by
  unfold dimArm
  repeat' first
    | with_reducible assumption
    | simp only [RegsBut.lmp]
    | with_reducible exact h_LMP_DIMNOW
    | with_reducible apply setF_regs
    | split

theorem dimStep_regs {W0 : Nat → Prop} {r0 : State} (s : State) (n : Nat) (h_pba : ∀ k, W0 (0x38000 + 4 * (k % 64))) (h_GLB_EVTOVF : W0 R.GLB_EVTOVF) (h_QUE_STAT : ∀ i, W0 (R.QUE_STAT i)) (h_QUE_RET : ∀ i, W0 (R.QUE_RET i)) (h_DMA_CHSTAT : ∀ i, W0 (R.DMA_CHSTAT i)) (h_DMA_CHCNT : ∀ i, W0 (R.DMA_CHCNT i)) (h_DMA_CHDEAD : ∀ i, W0 (R.DMA_CHDEAD i)) (h_SOR_TGTSTAT : ∀ i, W0 (R.SOR_TGTSTAT i)) (h_SRF_TCMISS : W0 R.SRF_TCMISS) (h_CHN_PERR : ∀ i, W0 (R.CHN_PERR i)) (h_LMP_DIMNOW : W0 R.LMP_DIMNOW) (h_DRC_ECCSTAT : W0 R.DRC_ECCSTAT) (h_DRC_UEADDR : W0 R.DRC_UEADDR) (h0 : RegsBut W0 r0 s) :
    RegsBut W0 r0 (dimStep s n).2 := by
  unfold dimStep
  repeat' first
    | with_reducible assumption
    | simp only [RegsBut.lmp]
    | with_reducible exact h_LMP_DIMNOW
    | with_reducible apply setF_regs
    | with_reducible apply settle_regs
    | with_reducible refine RegsBut.of_snd (by with_reducible assumption) ?_
    | with_reducible refine RegsBut.of_snd2 (by with_reducible assumption) ?_
    | split

theorem curvesDue_regs {W0 : Nat → Prop} {r0 : State} (s : State) (n : Nat) (h_pba : ∀ k, W0 (0x38000 + 4 * (k % 64))) (h_QUE_STAT : ∀ i, W0 (R.QUE_STAT i)) (h_QUE_RET : ∀ i, W0 (R.QUE_RET i)) (h0 : RegsBut W0 r0 s) :
    RegsBut W0 r0 (curvesDue s n) := by
  unfold curvesDue
  repeat' first
    | with_reducible assumption
    | simp only [RegsBut.lmp]
    | with_reducible apply cmpDone_regs
    | with_reducible apply RegsBut.foldl
    | split
    | dsimp only
    | with_reducible intro _

theorem sampleAll_regs {W0 : Nat → Prop} {r0 : State} (s : State) (n : Nat) (h_pba : ∀ k, W0 (0x38000 + 4 * (k % 64))) (h_GLB_EVTOVF : W0 R.GLB_EVTOVF) (h_QUE_STAT : ∀ i, W0 (R.QUE_STAT i)) (h_QUE_RET : ∀ i, W0 (R.QUE_RET i)) (h_DMA_CHSTAT : ∀ i, W0 (R.DMA_CHSTAT i)) (h_DMA_CHCNT : ∀ i, W0 (R.DMA_CHCNT i)) (h_DMA_CHDEAD : ∀ i, W0 (R.DMA_CHDEAD i)) (h_SOR_TGTSTAT : ∀ i, W0 (R.SOR_TGTSTAT i)) (h_SRF_TCMISS : W0 R.SRF_TCMISS) (h_CHN_PERR : ∀ i, W0 (R.CHN_PERR i)) (h_LMP_DIMNOW : W0 R.LMP_DIMNOW) (h_LMP_ZTEMP : ∀ i, W0 (R.LMP_ZTEMP i)) (h_DRC_ECCSTAT : W0 R.DRC_ECCSTAT) (h_DRC_UEADDR : W0 R.DRC_UEADDR) (h0 : RegsBut W0 r0 s) :
    RegsBut W0 r0 (sampleAll s n).2 := by
  unfold sampleAll
  repeat' first
    | with_reducible assumption
    | with_reducible exact h_LMP_ZTEMP _
    | with_reducible apply setF_regs
    | with_reducible apply dimStep_regs
    | with_reducible apply curvesDue_regs
    | with_reducible apply RegsBut.foldl
    | with_reducible refine RegsBut.of_snd (by with_reducible assumption) ?_
    | with_reducible refine RegsBut.of_snd2 (by with_reducible assumption) ?_
    | split
    | dsimp only
    | with_reducible intro _

theorem missEvent_regs {W0 : Nat → Prop} {r0 : State} (s : State) (n : Nat) (cause : Nat) (h_pba : ∀ k, W0 (0x38000 + 4 * (k % 64))) (h_GLB_EVTOVF : W0 R.GLB_EVTOVF) (h_CHN_PERR : ∀ i, W0 (R.CHN_PERR i)) (h0 : RegsBut W0 r0 s) :
    RegsBut W0 r0 (missEvent s n cause) := by
  unfold missEvent
  repeat' first
    | with_reducible assumption
    | simp only [RegsBut.lmp]
    | with_reducible apply raise_regs
    | split

theorem missFrame_regs {W0 : Nat → Prop} {r0 : State} (s : State) (n : Nat) (cause : Nat) (h_pba : ∀ k, W0 (0x38000 + 4 * (k % 64))) (h_GLB_YIELDCNT : W0 R.GLB_YIELDCNT) (h_GLB_YIELDLAST : W0 R.GLB_YIELDLAST) (h_GLB_YIELDFRM : W0 R.GLB_YIELDFRM) (h_GLB_EVTOVF : W0 R.GLB_EVTOVF) (h_CHN_PERR : ∀ i, W0 (R.CHN_PERR i)) (h_LMP_FSTAT : W0 R.LMP_FSTAT) (h_LMP_LASTMISS : W0 R.LMP_LASTMISS) (h0 : RegsBut W0 r0 s) :
    RegsBut W0 r0 (missFrame s n cause) := by
  unfold missFrame
  repeat' first
    | with_reducible assumption
    | simp only [RegsBut.lmp]
    | with_reducible exact h_LMP_FSTAT
    | with_reducible exact h_LMP_LASTMISS
    | with_reducible apply setF_regs
    | with_reducible apply incSat_regs
    | with_reducible apply yield_regs
    | with_reducible apply missEvent_regs
    | split

theorem showDone_regs {W0 : Nat → Prop} {r0 : State} (s : State) (h_pba : ∀ k, W0 (0x38000 + 4 * (k % 64))) (h_QUE_STAT : ∀ i, W0 (R.QUE_STAT i)) (h_QUE_RET : ∀ i, W0 (R.QUE_RET i)) (h_SRF_STAT : W0 R.SRF_STAT) (h_SRF_FREEPG : W0 R.SRF_FREEPG) (h_SRF_RETIRED : W0 R.SRF_RETIRED) (h0 : RegsBut W0 r0 s) :
    RegsBut W0 r0 (showDone s) := by
  unfold showDone
  repeat' first
    | with_reducible assumption
    | simp only [RegsBut.lmp]
    | with_reducible apply retireFrame_regs
    | split

theorem showsEnd_regs {W0 : Nat → Prop} {r0 : State} (s : State) (h_pba : ∀ k, W0 (0x38000 + 4 * (k % 64))) (h_QUE_STAT : ∀ i, W0 (R.QUE_STAT i)) (h_QUE_RET : ∀ i, W0 (R.QUE_RET i)) (h_SRF_STAT : W0 R.SRF_STAT) (h_SRF_FREEPG : W0 R.SRF_FREEPG) (h_SRF_RETIRED : W0 R.SRF_RETIRED) (h0 : RegsBut W0 r0 s) :
    RegsBut W0 r0 (showsEnd s) := by
  unfold showsEnd
  repeat' first
    | with_reducible assumption
    | with_reducible apply showDone_regs
    | with_reducible apply RegsBut.foldl
    | split
    | dsimp only
    | with_reducible intro _

theorem cutShow_regs {W0 : Nat → Prop} {r0 : State} (s : State) (de : Int) (h : Show) (h_LMP_MSTAT : W0 R.LMP_MSTAT) (h0 : RegsBut W0 r0 s) :
    RegsBut W0 r0 (cutShow s de h).2 := by
  unfold cutShow
  repeat' first
    | with_reducible assumption
    | with_reducible exact h_LMP_MSTAT
    | with_reducible apply incSat_regs

theorem dropShows_regs {W0 : Nat → Prop} {r0 : State} (h_pba : ∀ k, W0 (0x38000 + 4 * (k % 64))) (h_QUE_STAT : ∀ i, W0 (R.QUE_STAT i)) (h_QUE_RET : ∀ i, W0 (R.QUE_RET i)) (h_SRF_STAT : W0 R.SRF_STAT) (h_SRF_FREEPG : W0 R.SRF_FREEPG) (h_SRF_RETIRED : W0 R.SRF_RETIRED) (y0 : Nat) (y1 : State)
    (h0 : RegsBut W0 r0 y1) :
    RegsBut W0 r0 (dropShows y0 y1) := by
  induction y0 generalizing y1 with
  | zero =>
    unfold dropShows
    repeat' first
      | with_reducible assumption
  | succ y0 ih =>
    unfold dropShows
    repeat' first
      | with_reducible assumption
      | with_reducible apply ih
      | with_reducible apply showDone_regs
      | split

theorem cutShows_regs {W0 : Nat → Prop} {r0 : State} (s : State) (e : Nat) (de : Int) (h_pba : ∀ k, W0 (0x38000 + 4 * (k % 64))) (h_QUE_STAT : ∀ i, W0 (R.QUE_STAT i)) (h_QUE_RET : ∀ i, W0 (R.QUE_RET i)) (h_SRF_STAT : W0 R.SRF_STAT) (h_SRF_FREEPG : W0 R.SRF_FREEPG) (h_SRF_RETIRED : W0 R.SRF_RETIRED) (h_LMP_MSTAT : W0 R.LMP_MSTAT) (h0 : RegsBut W0 r0 s) :
    RegsBut W0 r0 (cutShows s e de) := by
  unfold cutShows
  repeat' first
    | with_reducible assumption
    | simp only [RegsBut.lmp]
    | with_reducible apply cutShow_regs
    | with_reducible apply dropShows_regs
    | with_reducible apply RegsBut.foldl
    | with_reducible apply RegsBut.snd
    | with_reducible apply RegsBut.snd2
    | with_reducible apply RegsBut.fst
    | with_reducible apply RegsBut.foldl_snd
    | with_reducible apply RegsBut.foldl_snd2
    | with_reducible apply RegsBut.foldl_fst
    | with_reducible refine RegsBut.of_fst (by with_reducible assumption) ?_
    | with_reducible refine RegsBut.of_snd (by with_reducible assumption) ?_
    | with_reducible refine RegsBut.of_snd2 (by with_reducible assumption) ?_
    | split
    | dsimp only
    | with_reducible intro _

theorem placeShow_regs {W0 : Nat → Prop} {r0 : State} (s : State) (n : Nat) (m : Mode) (st : Anchor) (samp : Samp) (h_pba : ∀ k, W0 (0x38000 + 4 * (k % 64))) (h_QUE_STAT : ∀ i, W0 (R.QUE_STAT i)) (h_QUE_RET : ∀ i, W0 (R.QUE_RET i)) (h_SRF_STAT : W0 R.SRF_STAT) (h_SRF_FREEPG : W0 R.SRF_FREEPG) (h_SRF_RETIRED : W0 R.SRF_RETIRED) (h_LMP_MSTAT : W0 R.LMP_MSTAT) (h0 : RegsBut W0 r0 s) :
    RegsBut W0 r0 (placeShow s n m st samp) := by
  unfold placeShow
  repeat' first
    | with_reducible assumption
    | simp only [RegsBut.lmp]
    | with_reducible apply engineStart_regs
    | with_reducible apply cutShow_regs
    | with_reducible apply dropShows_regs
    | with_reducible refine RegsBut.of_snd (by with_reducible assumption) ?_
    | with_reducible refine RegsBut.of_snd2 (by with_reducible assumption) ?_
    | split

theorem commitFrame_regs {W0 : Nat → Prop} {r0 : State} (s : State) (n : Nat) (m : Mode) (f : TFrame) (h_LMP_FRAME : W0 R.LMP_FRAME) (h0 : RegsBut W0 r0 s) :
    RegsBut W0 r0 (commitFrame s n m f) := by
  unfold commitFrame
  repeat' first
    | with_reducible assumption
    | simp only [RegsBut.lmp]
    | with_reducible exact h_LMP_FRAME
    | with_reducible apply setF_regs

theorem keepMissed_regs {W0 : Nat → Prop} {r0 : State} (s : State) (n : Nat) (h0 : RegsBut W0 r0 s) :
    RegsBut W0 r0 (keepMissed s n) := by
  unfold keepMissed
  repeat' first
    | with_reducible assumption
    | simp only [RegsBut.lmp]
    | with_reducible apply setFrame_regs

theorem afterCommit_regs {W0 : Nat → Prop} {r0 : State} (s : State) (n : Nat) (a : Int) (h0 : RegsBut W0 r0 s) :
    RegsBut W0 r0 (afterCommit s n a) := by
  unfold afterCommit
  repeat' first
    | with_reducible assumption
    | simp only [RegsBut.chn_lmp]

theorem commitOutcome_regs {W0 : Nat → Prop} {r0 : State} (s : State) (n : Nat) (m : Mode) (a : Int) (h_pba : ∀ k, W0 (0x38000 + 4 * (k % 64))) (h_GLB_YIELDCNT : W0 R.GLB_YIELDCNT) (h_GLB_YIELDLAST : W0 R.GLB_YIELDLAST) (h_GLB_YIELDFRM : W0 R.GLB_YIELDFRM) (h_GLB_EVTOVF : W0 R.GLB_EVTOVF) (h_CHN_PERR : ∀ i, W0 (R.CHN_PERR i)) (h_LMP_FSTAT : W0 R.LMP_FSTAT) (h_LMP_FRAME : W0 R.LMP_FRAME) (h_LMP_LASTMISS : W0 R.LMP_LASTMISS) (h0 : RegsBut W0 r0 s) :
    RegsBut W0 r0 (commitOutcome s n m a).2.2 := by
  unfold commitOutcome
  repeat' first
    | with_reducible assumption
    | simp only [RegsBut.lmp]
    | with_reducible apply missFrame_regs
    | with_reducible apply commitFrame_regs
    | with_reducible apply keepMissed_regs
    | split

theorem recheckMode_regs {W0 : Nat → Prop} {r0 : State} (s : State) (h_LMP_MSTAT : W0 R.LMP_MSTAT) (h0 : RegsBut W0 r0 s) :
    RegsBut W0 r0 (recheckMode s) := by
  unfold recheckMode
  repeat' first
    | with_reducible assumption
    | simp only [RegsBut.lmp]
    | with_reducible apply checkMode_regs
    | split

theorem commitRun_regs {W0 : Nat → Prop} {r0 : State} (s : State) (n : Nat) (m : Mode) (st : Anchor) (a : Int) (h_pba : ∀ k, W0 (0x38000 + 4 * (k % 64))) (h_GLB_YIELDCNT : W0 R.GLB_YIELDCNT) (h_GLB_YIELDLAST : W0 R.GLB_YIELDLAST) (h_GLB_YIELDFRM : W0 R.GLB_YIELDFRM) (h_GLB_EVTOVF : W0 R.GLB_EVTOVF) (h_QUE_STAT : ∀ i, W0 (R.QUE_STAT i)) (h_QUE_RET : ∀ i, W0 (R.QUE_RET i)) (h_DMA_CHSTAT : ∀ i, W0 (R.DMA_CHSTAT i)) (h_DMA_CHCNT : ∀ i, W0 (R.DMA_CHCNT i)) (h_DMA_CHDEAD : ∀ i, W0 (R.DMA_CHDEAD i)) (h_SOR_TGTSTAT : ∀ i, W0 (R.SOR_TGTSTAT i)) (h_SRF_STAT : W0 R.SRF_STAT) (h_SRF_FREEPG : W0 R.SRF_FREEPG) (h_SRF_RETIRED : W0 R.SRF_RETIRED) (h_SRF_TCMISS : W0 R.SRF_TCMISS) (h_CHN_PERR : ∀ i, W0 (R.CHN_PERR i)) (h_LMP_DIMNOW : W0 R.LMP_DIMNOW) (h_LMP_MSTAT : W0 R.LMP_MSTAT) (h_LMP_FSTAT : W0 R.LMP_FSTAT) (h_LMP_FRAME : W0 R.LMP_FRAME) (h_LMP_LASTMISS : W0 R.LMP_LASTMISS) (h_LMP_ZTEMP : ∀ i, W0 (R.LMP_ZTEMP i)) (h_DRC_ECCSTAT : W0 R.DRC_ECCSTAT) (h_DRC_UEADDR : W0 R.DRC_UEADDR) (h_SEC_STAT : W0 R.SEC_STAT) (h0 : RegsBut W0 r0 s) :
    RegsBut W0 r0 (commitRun s n m st a) := by
  unfold commitRun
  repeat' first
    | with_reducible assumption
    | with_reducible apply receiptFrame_regs
    | with_reducible apply sampleAll_regs
    | with_reducible apply placeShow_regs
    | with_reducible apply afterCommit_regs
    | with_reducible apply commitOutcome_regs

theorem commitInstant_regs {W0 : Nat → Prop} {r0 : State} (s : State) (h_pba : ∀ k, W0 (0x38000 + 4 * (k % 64))) (h_GLB_YIELDCNT : W0 R.GLB_YIELDCNT) (h_GLB_YIELDLAST : W0 R.GLB_YIELDLAST) (h_GLB_YIELDFRM : W0 R.GLB_YIELDFRM) (h_GLB_EVTOVF : W0 R.GLB_EVTOVF) (h_QUE_STAT : ∀ i, W0 (R.QUE_STAT i)) (h_QUE_RET : ∀ i, W0 (R.QUE_RET i)) (h_DMA_CHSTAT : ∀ i, W0 (R.DMA_CHSTAT i)) (h_DMA_CHCNT : ∀ i, W0 (R.DMA_CHCNT i)) (h_DMA_CHDEAD : ∀ i, W0 (R.DMA_CHDEAD i)) (h_SOR_TGTSTAT : ∀ i, W0 (R.SOR_TGTSTAT i)) (h_SRF_STAT : W0 R.SRF_STAT) (h_SRF_FREEPG : W0 R.SRF_FREEPG) (h_SRF_RETIRED : W0 R.SRF_RETIRED) (h_SRF_TCMISS : W0 R.SRF_TCMISS) (h_CHN_PERR : ∀ i, W0 (R.CHN_PERR i)) (h_LMP_DIMNOW : W0 R.LMP_DIMNOW) (h_LMP_MSTAT : W0 R.LMP_MSTAT) (h_LMP_FSTAT : W0 R.LMP_FSTAT) (h_LMP_FRAME : W0 R.LMP_FRAME) (h_LMP_LASTMISS : W0 R.LMP_LASTMISS) (h_LMP_ZTEMP : ∀ i, W0 (R.LMP_ZTEMP i)) (h_DRC_ECCSTAT : W0 R.DRC_ECCSTAT) (h_DRC_UEADDR : W0 R.DRC_UEADDR) (h_SEC_STAT : W0 R.SEC_STAT) (h0 : RegsBut W0 r0 s) :
    RegsBut W0 r0 (commitInstant s) := by
  unfold commitInstant
  repeat' first
    | with_reducible assumption
    | with_reducible apply recheckMode_regs
    | with_reducible apply commitRun_regs
    | split
    | dsimp only

theorem intervalStep_regs {W0 : Nat → Prop} {r0 : State} (s : State) (h_SEC_STAT : W0 R.SEC_STAT) (h0 : RegsBut W0 r0 s) :
    RegsBut W0 r0 (intervalStep s) := by
  unfold intervalStep
  repeat' first
    | with_reducible assumption
    | with_reducible apply intervalEnd_regs
    | split
    | dsimp only

theorem showMode_regs {W0 : Nat → Prop} {r0 : State} (s : State) (m : Mode) (late : Bool) (h_pba : ∀ k, W0 (0x38000 + 4 * (k % 64))) (h_GLB_EVTOVF : W0 R.GLB_EVTOVF) (h_CHN_PERR : ∀ i, W0 (R.CHN_PERR i)) (h_LMP_MSTAT : W0 R.LMP_MSTAT) (h0 : RegsBut W0 r0 s) :
    RegsBut W0 r0 (showMode s m late) := by
  unfold showMode
  repeat' first
    | with_reducible assumption
    | simp only [RegsBut.lmp]
    | with_reducible exact h_LMP_MSTAT
    | with_reducible apply setF_regs
    | with_reducible apply raise_regs
    | with_reducible apply intervalFlag_regs
    | with_reducible apply checkMode_regs
    | split

theorem firstMode_regs {W0 : Nat → Prop} {r0 : State} (s : State) (m : Mode) (r : Int) (h_pba : ∀ k, W0 (0x38000 + 4 * (k % 64))) (h_GLB_EVTOVF : W0 R.GLB_EVTOVF) (h_CHN_PERR : ∀ i, W0 (R.CHN_PERR i)) (h_TIM_PGCFG : ∀ i, W0 (R.TIM_PGCFG i)) (h_TIM_PGSTART : ∀ i, W0 (R.TIM_PGSTART i)) (h_TIM_PGPER : ∀ i, W0 (R.TIM_PGPER i)) (h_TIM_PGPERF : ∀ i, W0 (R.TIM_PGPERF i)) (h_TIM_PGSTAT : ∀ i, W0 (R.TIM_PGSTAT i)) (h_TIM_PGNEXT : ∀ i, W0 (R.TIM_PGNEXT i)) (h_LMP_MSTAT : W0 R.LMP_MSTAT) (h0 : RegsBut W0 r0 s) :
    RegsBut W0 r0 (firstMode s m r) := by
  unfold firstMode
  repeat' first
    | with_reducible assumption
    | simp only [RegsBut.lmp]
    | with_reducible apply genTake_regs
    | with_reducible apply showMode_regs

theorem changeMode_regs {W0 : Nat → Prop} {r0 : State} (s : State) (m : Mode) (e : Nat) (late : Bool) (h_pba : ∀ k, W0 (0x38000 + 4 * (k % 64))) (h_GLB_EVTOVF : W0 R.GLB_EVTOVF) (h_QUE_STAT : ∀ i, W0 (R.QUE_STAT i)) (h_QUE_RET : ∀ i, W0 (R.QUE_RET i)) (h_SRF_STAT : W0 R.SRF_STAT) (h_SRF_FREEPG : W0 R.SRF_FREEPG) (h_SRF_RETIRED : W0 R.SRF_RETIRED) (h_CHN_PERR : ∀ i, W0 (R.CHN_PERR i)) (h_TIM_PGCFG : ∀ i, W0 (R.TIM_PGCFG i)) (h_TIM_PGSTART : ∀ i, W0 (R.TIM_PGSTART i)) (h_TIM_PGPER : ∀ i, W0 (R.TIM_PGPER i)) (h_TIM_PGPERF : ∀ i, W0 (R.TIM_PGPERF i)) (h_TIM_PGNEXT : ∀ i, W0 (R.TIM_PGNEXT i)) (h_LMP_MSTAT : W0 R.LMP_MSTAT) (h0 : RegsBut W0 r0 s) :
    RegsBut W0 r0 (changeMode s m e late) := by
  unfold changeMode
  repeat' first
    | with_reducible assumption
    | simp only [RegsBut.lmp]
    | with_reducible apply genProgram_regs
    | with_reducible apply cutShows_regs
    | with_reducible apply showMode_regs
    | with_reducible refine RegsBut.of_snd (by with_reducible assumption) ?_
    | with_reducible refine RegsBut.of_snd2 (by with_reducible assumption) ?_
    | split

theorem modeLetter_regs {W0 : Nat → Prop} {r0 : State} (s : State) (l : Letter) (h_pba : ∀ k, W0 (0x38000 + 4 * (k % 64))) (h_GLB_YIELDCNT : W0 R.GLB_YIELDCNT) (h_GLB_YIELDLAST : W0 R.GLB_YIELDLAST) (h_GLB_YIELDFRM : W0 R.GLB_YIELDFRM) (h_GLB_EVTOVF : W0 R.GLB_EVTOVF) (h_CHN_LSTAT : W0 R.CHN_LSTAT) (h_CHN_PERR : ∀ i, W0 (R.CHN_PERR i)) (h_TIM_PGCFG : ∀ i, W0 (R.TIM_PGCFG i)) (h_TIM_PGSTART : ∀ i, W0 (R.TIM_PGSTART i)) (h_TIM_PGPER : ∀ i, W0 (R.TIM_PGPER i)) (h_TIM_PGPERF : ∀ i, W0 (R.TIM_PGPERF i)) (h_TIM_PGSTAT : ∀ i, W0 (R.TIM_PGSTAT i)) (h_TIM_PGNEXT : ∀ i, W0 (R.TIM_PGNEXT i)) (h_LMP_MSTAT : W0 R.LMP_MSTAT) (h_UPD_AFRAME : W0 R.UPD_AFRAME) (h0 : RegsBut W0 r0 s) :
    RegsBut W0 r0 (modeLetter s l) := by
  unfold modeLetter
  repeat' first
    | with_reducible assumption
    | simp only [RegsBut.lmp]
    | with_reducible apply armMove_regs
    | with_reducible apply refuse_regs
    | with_reducible apply firstMode_regs
    | with_reducible refine RegsBut.of_snd (by with_reducible assumption) ?_
    | with_reducible refine RegsBut.of_snd2 (by with_reducible assumption) ?_
    | split

theorem lateMode_regs {W0 : Nat → Prop} {r0 : State} (s : State) (h_pba : ∀ k, W0 (0x38000 + 4 * (k % 64))) (h_GLB_EVTOVF : W0 R.GLB_EVTOVF) (h_QUE_STAT : ∀ i, W0 (R.QUE_STAT i)) (h_QUE_RET : ∀ i, W0 (R.QUE_RET i)) (h_SRF_STAT : W0 R.SRF_STAT) (h_SRF_FREEPG : W0 R.SRF_FREEPG) (h_SRF_RETIRED : W0 R.SRF_RETIRED) (h_CHN_PERR : ∀ i, W0 (R.CHN_PERR i)) (h_TIM_PGCFG : ∀ i, W0 (R.TIM_PGCFG i)) (h_TIM_PGSTART : ∀ i, W0 (R.TIM_PGSTART i)) (h_TIM_PGPER : ∀ i, W0 (R.TIM_PGPER i)) (h_TIM_PGPERF : ∀ i, W0 (R.TIM_PGPERF i)) (h_TIM_PGNEXT : ∀ i, W0 (R.TIM_PGNEXT i)) (h_LMP_MSTAT : W0 R.LMP_MSTAT) (h0 : RegsBut W0 r0 s) :
    RegsBut W0 r0 (lateMode s) := by
  unfold lateMode
  repeat' first
    | with_reducible assumption
    | with_reducible apply changeMode_regs
    | split
    | dsimp only

theorem tileCadence_regs {W0 : Nat → Prop} {r0 : State} (s : State) (h_pba : ∀ k, W0 (0x38000 + 4 * (k % 64))) (h_GLB_EVTOVF : W0 R.GLB_EVTOVF) (h_QUE_STAT : ∀ i, W0 (R.QUE_STAT i)) (h_QUE_RET : ∀ i, W0 (R.QUE_RET i)) (h_SRF_STAT : W0 R.SRF_STAT) (h_SRF_FREEPG : W0 R.SRF_FREEPG) (h_SRF_RETIRED : W0 R.SRF_RETIRED) (h_CHN_PERR : ∀ i, W0 (R.CHN_PERR i)) (h_TIM_PGCFG : ∀ i, W0 (R.TIM_PGCFG i)) (h_TIM_PGSTART : ∀ i, W0 (R.TIM_PGSTART i)) (h_TIM_PGPER : ∀ i, W0 (R.TIM_PGPER i)) (h_TIM_PGPERF : ∀ i, W0 (R.TIM_PGPERF i)) (h_TIM_PGSTAT : ∀ i, W0 (R.TIM_PGSTAT i)) (h_TIM_PGNEXT : ∀ i, W0 (R.TIM_PGNEXT i)) (h_TAN_TSTAT : W0 R.TAN_TSTAT) (h_TAN_TCLAIM0 : W0 R.TAN_TCLAIM0) (h_TAN_TCLAIM1 : W0 R.TAN_TCLAIM1) (h_LMP_MSTAT : W0 R.LMP_MSTAT) (h0 : RegsBut W0 r0 s) :
    RegsBut W0 r0 (tileCadence s) := by
  unfold tileCadence
  repeat' first
    | with_reducible assumption
    | simp only [RegsBut.lmp]
    | with_reducible apply genFire_regs
    | with_reducible apply tanChooseFrame_regs
    | with_reducible apply changeMode_regs
    | with_reducible apply lateMode_regs
    | split

theorem slotWalk_regs {W0 : Nat → Prop} {r0 : State} (s : State) (h : Show) (slot : Nat) (h_pba : ∀ k, W0 (0x38000 + 4 * (k % 64))) (h_GLB_EVTOVF : W0 R.GLB_EVTOVF) (h_SRF_TCMISS : W0 R.SRF_TCMISS) (h_CHN_PERR : ∀ i, W0 (R.CHN_PERR i)) (h_DRC_ECCSTAT : W0 R.DRC_ECCSTAT) (h_DRC_UEADDR : W0 R.DRC_UEADDR) (h0 : RegsBut W0 r0 s) :
    RegsBut W0 r0 (slotWalk s h slot) := by
  unfold slotWalk
  repeat' first
    | with_reducible assumption
    | with_reducible apply srfWalk_regs
    | with_reducible apply engineNote_regs
    | with_reducible apply RegsBut.foldl
    | split
    | dsimp only
    | with_reducible intro _

theorem selfShow_regs {W0 : Nat → Prop} {r0 : State} (s : State) (n : Nat) (disp : Int) (h_pba : ∀ k, W0 (0x38000 + 4 * (k % 64))) (h_GLB_EVTOVF : W0 R.GLB_EVTOVF) (h_QUE_STAT : ∀ i, W0 (R.QUE_STAT i)) (h_QUE_RET : ∀ i, W0 (R.QUE_RET i)) (h_DMA_CHSTAT : ∀ i, W0 (R.DMA_CHSTAT i)) (h_DMA_CHCNT : ∀ i, W0 (R.DMA_CHCNT i)) (h_DMA_CHDEAD : ∀ i, W0 (R.DMA_CHDEAD i)) (h_SOR_TGTSTAT : ∀ i, W0 (R.SOR_TGTSTAT i)) (h_SRF_TCMISS : W0 R.SRF_TCMISS) (h_CHN_PERR : ∀ i, W0 (R.CHN_PERR i)) (h_LMP_DIMNOW : W0 R.LMP_DIMNOW) (h_LMP_ZTEMP : ∀ i, W0 (R.LMP_ZTEMP i)) (h_DRC_ECCSTAT : W0 R.DRC_ECCSTAT) (h_DRC_UEADDR : W0 R.DRC_UEADDR) (h0 : RegsBut W0 r0 s) :
    RegsBut W0 r0 (selfShow s n disp) := by
  unfold selfShow
  repeat' first
    | with_reducible assumption
    | simp only [RegsBut.lmp]
    | with_reducible apply sampleAll_regs

theorem lampRise_regs {W0 : Nat → Prop} {r0 : State} (s : State) (h0 : RegsBut W0 r0 s) :
    RegsBut W0 r0 (lampRise s) := by
  unfold lampRise
  repeat' first
    | with_reducible assumption
    | simp only [RegsBut.lmp]
    | split

theorem slotLatch_regs {W0 : Nat → Prop} {r0 : State} (s : State) (late : Bool) (h_pba : ∀ k, W0 (0x38000 + 4 * (k % 64))) (h_GLB_YIELDCNT : W0 R.GLB_YIELDCNT) (h_GLB_YIELDLAST : W0 R.GLB_YIELDLAST) (h_GLB_YIELDFRM : W0 R.GLB_YIELDFRM) (h_GLB_EVTOVF : W0 R.GLB_EVTOVF) (h_QUE_STAT : ∀ i, W0 (R.QUE_STAT i)) (h_QUE_RET : ∀ i, W0 (R.QUE_RET i)) (h_DMA_CHSTAT : ∀ i, W0 (R.DMA_CHSTAT i)) (h_DMA_CHCNT : ∀ i, W0 (R.DMA_CHCNT i)) (h_DMA_CHDEAD : ∀ i, W0 (R.DMA_CHDEAD i)) (h_SOR_TGTSTAT : ∀ i, W0 (R.SOR_TGTSTAT i)) (h_SRF_STAT : W0 R.SRF_STAT) (h_SRF_FREEPG : W0 R.SRF_FREEPG) (h_SRF_RETIRED : W0 R.SRF_RETIRED) (h_SRF_TCMISS : W0 R.SRF_TCMISS) (h_CHN_PERR : ∀ i, W0 (R.CHN_PERR i)) (h_LMP_DIMNOW : W0 R.LMP_DIMNOW) (h_LMP_ERR : W0 R.LMP_ERR) (h_LMP_ZTEMP : ∀ i, W0 (R.LMP_ZTEMP i)) (h_DRC_ECCSTAT : W0 R.DRC_ECCSTAT) (h_DRC_UEADDR : W0 R.DRC_UEADDR) (h0 : RegsBut W0 r0 s) :
    RegsBut W0 r0 (slotLatch s late) := by
  unfold slotLatch
  repeat' first
    | with_reducible assumption
    | simp only [RegsBut.lmp, RegsBut.lmp_spk, RegsBut.spk]
    | with_reducible exact h_LMP_ERR
    | with_reducible apply incSat_regs
    | with_reducible apply yield_regs
    | with_reducible apply showDone_regs
    | with_reducible apply selfShow_regs
    | with_reducible apply lampRise_regs
    | split

theorem lmpEnable_regs {W0 : Nat → Prop} {r0 : State} (s : State) (h_LMP_CTL : W0 R.LMP_CTL) (h0 : RegsBut W0 r0 s) :
    RegsBut W0 r0 (lmpEnable s) := by
  unfold lmpEnable
  repeat' first
    | with_reducible assumption
    | simp only [RegsBut.lmp_spk]
    | with_reducible exact h_LMP_CTL
    | with_reducible apply setF_regs

theorem lmpDisable_regs {W0 : Nat → Prop} {r0 : State} (s : State) (h_pba : ∀ k, W0 (0x38000 + 4 * (k % 64))) (h_QUE_STAT : ∀ i, W0 (R.QUE_STAT i)) (h_QUE_RET : ∀ i, W0 (R.QUE_RET i)) (h_SRF_STAT : W0 R.SRF_STAT) (h_SRF_FREEPG : W0 R.SRF_FREEPG) (h_LMP_CTL : W0 R.LMP_CTL) (h0 : RegsBut W0 r0 s) :
    RegsBut W0 r0 (lmpDisable s) := by
  unfold lmpDisable
  repeat' first
    | with_reducible assumption
    | with_reducible exact h_LMP_CTL
    | with_reducible apply setF_regs
    | with_reducible apply lampDrop_regs
    | with_reducible apply engineStop_regs

theorem svcPress_regs {W0 : Nat → Prop} {r0 : State} (s : State) (h_pba : ∀ k, W0 (0x38000 + 4 * (k % 64))) (h_GLB_EVTOVF : W0 R.GLB_EVTOVF) (h_CHN_PERR : ∀ i, W0 (R.CHN_PERR i)) (h_LMP_TPCFG : W0 R.LMP_TPCFG) (h0 : RegsBut W0 r0 s) :
    RegsBut W0 r0 (svcPress s) := by
  unfold svcPress
  repeat' first
    | with_reducible assumption
    | simp only [RegsBut.lmp]
    | with_reducible exact h_LMP_TPCFG
    | with_reducible apply setF_regs
    | with_reducible apply raise_regs
    | split

theorem svcHold_regs {W0 : Nat → Prop} {r0 : State} (s : State) (h_pba : ∀ k, W0 (0x38000 + 4 * (k % 64))) (h_GLB_EVTOVF : W0 R.GLB_EVTOVF) (h_QUE_STAT : ∀ i, W0 (R.QUE_STAT i)) (h_QUE_RET : ∀ i, W0 (R.QUE_RET i)) (h_DMA_CHSTAT : ∀ i, W0 (R.DMA_CHSTAT i)) (h_DMA_CHCNT : ∀ i, W0 (R.DMA_CHCNT i)) (h_DMA_CHDEAD : ∀ i, W0 (R.DMA_CHDEAD i)) (h_SOR_TGTSTAT : ∀ i, W0 (R.SOR_TGTSTAT i)) (h_SRF_TCMISS : W0 R.SRF_TCMISS) (h_CHN_PERR : ∀ i, W0 (R.CHN_PERR i)) (h_LMP_DIMNOW : W0 R.LMP_DIMNOW) (h_LMP_TPCFG : W0 R.LMP_TPCFG) (h_LMP_ZTEMP : ∀ i, W0 (R.LMP_ZTEMP i)) (h_DRC_ECCSTAT : W0 R.DRC_ECCSTAT) (h_DRC_UEADDR : W0 R.DRC_UEADDR) (h0 : RegsBut W0 r0 s) :
    RegsBut W0 r0 (svcHold s) := by
  unfold svcHold
  repeat' first
    | with_reducible assumption
    | simp only [RegsBut.lmp]
    | with_reducible exact h_LMP_TPCFG
    | with_reducible apply setF_regs
    | with_reducible apply selfShow_regs
    | split

theorem locatorEnd_regs {W0 : Nat → Prop} {r0 : State} (s : State) (h_LMP_TPCFG : W0 R.LMP_TPCFG) (h0 : RegsBut W0 r0 s) :
    RegsBut W0 r0 (locatorEnd s) := by
  unfold locatorEnd
  repeat' first
    | with_reducible assumption
    | simp only [RegsBut.lmp]
    | with_reducible exact h_LMP_TPCFG
    | with_reducible apply setF_regs
    | split

theorem selfTestEnd_regs {W0 : Nat → Prop} {r0 : State} (s : State) (h_LMP_TPCFG : W0 R.LMP_TPCFG) (h0 : RegsBut W0 r0 s) :
    RegsBut W0 r0 (selfTestEnd s) := by
  unfold selfTestEnd
  repeat' first
    | with_reducible assumption
    | simp only [RegsBut.lmp]
    | with_reducible exact h_LMP_TPCFG
    | with_reducible apply setF_regs
    | with_reducible apply lampDrop_regs
    | split

theorem scanOff_regs {W0 : Nat → Prop} {r0 : State} (s : State) (h0 : RegsBut W0 r0 s) :
    RegsBut W0 r0 (scanOff s) := by
  unfold scanOff
  repeat' first
    | with_reducible assumption
    | simp only [RegsBut.spk]
    | with_reducible apply emitAll_regs

theorem spokesDark_regs {W0 : Nat → Prop} {r0 : State} (s : State) (h_SPK_SPKSTAT : ∀ i, W0 (R.SPK_SPKSTAT i)) (h0 : RegsBut W0 r0 s) :
    RegsBut W0 r0 (spokesDark s) := by
  unfold spokesDark
  repeat' first
    | with_reducible assumption
    | simp only [RegsBut.spk]
    | with_reducible exact h_SPK_SPKSTAT _
    | with_reducible apply setF_regs
    | with_reducible apply scanOff_regs
    | with_reducible apply RegsBut.foldl
    | split
    | dsimp only
    | with_reducible intro _

theorem lmpBlockReset_regs {W0 : Nat → Prop} {r0 : State} (s : State) (h_pba : ∀ k, W0 (0x38000 + 4 * (k % 64))) (h_r0x110000 : ∀ off, 0x110000 ≤ off → off < 0x120000 → W0 off) (h_GLB_EVTOVF : W0 R.GLB_EVTOVF) (h_QUE_STAT : ∀ i, W0 (R.QUE_STAT i)) (h_QUE_RET : ∀ i, W0 (R.QUE_RET i)) (h_SRF_STAT : W0 R.SRF_STAT) (h_SRF_FREEPG : W0 R.SRF_FREEPG) (h_SRF_RETIRED : W0 R.SRF_RETIRED) (h_CHN_PERR : ∀ i, W0 (R.CHN_PERR i)) (h_TIM_PGCFG : ∀ i, W0 (R.TIM_PGCFG i)) (h_TIM_PGNEXT : ∀ i, W0 (R.TIM_PGNEXT i)) (h_SPK_SPKSTAT : ∀ i, W0 (R.SPK_SPKSTAT i)) (h0 : RegsBut W0 r0 s) :
    RegsBut W0 r0 (lmpBlockReset s) := by
  unfold lmpBlockReset
  repeat' first
    | with_reducible assumption
    | simp only [RegsBut.lmp]
    | with_reducible assumption
    | with_reducible apply resetRegs_regs
    | with_reducible apply raise_regs
    | with_reducible apply engineStop_regs
    | with_reducible apply genRelease_regs
    | with_reducible apply cmpDone_regs
    | with_reducible apply showsEnd_regs
    | with_reducible apply spokesDark_regs
    | with_reducible apply RegsBut.foldl
    | split
    | dsimp only
    | with_reducible intro _

theorem lmpCurve_regs {W0 : Nat → Prop} {r0 : State} (s : State) (it : Item) (host : HostRes) (h_pba : ∀ k, W0 (0x38000 + 4 * (k % 64))) (h_GLB_EVTOVF : W0 R.GLB_EVTOVF) (h_QUE_STAT : ∀ i, W0 (R.QUE_STAT i)) (h_QUE_RET : ∀ i, W0 (R.QUE_RET i)) (h_SRF_TCMISS : W0 R.SRF_TCMISS) (h_CHN_PERR : ∀ i, W0 (R.CHN_PERR i)) (h_DRC_ECCSTAT : W0 R.DRC_ECCSTAT) (h_DRC_UEADDR : W0 R.DRC_UEADDR) (h0 : RegsBut W0 r0 s) :
    RegsBut W0 r0 (lmpCurve s it host) := by
  unfold lmpCurve
  repeat' first
    | with_reducible assumption
    | simp only [RegsBut.lmp]
    | with_reducible apply areaFetch_regs
    | with_reducible apply cmpDone_regs
    | with_reducible apply RegsBut.foldl
    | with_reducible refine RegsBut.of_snd (by with_reducible assumption) ?_
    | with_reducible refine RegsBut.of_snd2 (by with_reducible assumption) ?_
    | split
    | dsimp only
    | with_reducible intro _

theorem execRunCell_regs {W0 : Nat → Prop} {r0 : State} (s : State) (h_pba : ∀ k, W0 (0x38000 + 4 * (k % 64))) (h_GLB_EVTOVF : W0 R.GLB_EVTOVF) (h_SRF_TCMISS : W0 R.SRF_TCMISS) (h_CHN_KEYSTAT : W0 R.CHN_KEYSTAT) (h_CHN_RSTAT : W0 R.CHN_RSTAT) (h_CHN_PERR : ∀ i, W0 (R.CHN_PERR i)) (h_LMP_FSTAT : W0 R.LMP_FSTAT) (h_DRC_ECCSTAT : W0 R.DRC_ECCSTAT) (h_DRC_UEADDR : W0 R.DRC_UEADDR) (h_DRC_HAZSTAT : W0 R.DRC_HAZSTAT) {t0 : State} (h0 : RegsBut W0 r0 s) (ht : execRunCell s = .next t0) :
    RegsBut W0 r0 t0 := by
  unfold execRunCell at ht
  apply whenOn_regs (ht := ht)
  repeat' first
    | with_reducible assumption
    | with_reducible refine takeRx_regs (hx := by with_reducible assumption) ?_
    | with_reducible apply runArrive_regs
    | split
    | dsimp only
    | with_reducible intro _

theorem execAbortCell_regs {W0 : Nat → Prop} {r0 : State} (s : State) {t0 : State} (h0 : RegsBut W0 r0 s) (ht : execAbortCell s = .next t0) :
    RegsBut W0 r0 t0 := by
  unfold execAbortCell at ht
  apply whenOn_regs (ht := ht)
  repeat' first
    | with_reducible assumption
    | with_reducible refine takeRx_regs (hx := by with_reducible assumption) ?_
    | with_reducible apply abortArrive_regs
    | split
    | dsimp only
    | with_reducible intro _

theorem execModeLetter_regs {W0 : Nat → Prop} {r0 : State} (s : State) (h_pba : ∀ k, W0 (0x38000 + 4 * (k % 64))) (h_GLB_YIELDCNT : W0 R.GLB_YIELDCNT) (h_GLB_YIELDLAST : W0 R.GLB_YIELDLAST) (h_GLB_YIELDFRM : W0 R.GLB_YIELDFRM) (h_GLB_EVTOVF : W0 R.GLB_EVTOVF) (h_CHN_LSTAT : W0 R.CHN_LSTAT) (h_CHN_PERR : ∀ i, W0 (R.CHN_PERR i)) (h_TIM_PGCFG : ∀ i, W0 (R.TIM_PGCFG i)) (h_TIM_PGSTART : ∀ i, W0 (R.TIM_PGSTART i)) (h_TIM_PGPER : ∀ i, W0 (R.TIM_PGPER i)) (h_TIM_PGPERF : ∀ i, W0 (R.TIM_PGPERF i)) (h_TIM_PGSTAT : ∀ i, W0 (R.TIM_PGSTAT i)) (h_TIM_PGNEXT : ∀ i, W0 (R.TIM_PGNEXT i)) (h_LMP_MSTAT : W0 R.LMP_MSTAT) (h_UPD_AFRAME : W0 R.UPD_AFRAME) {t0 : State} (h0 : RegsBut W0 r0 s) (ht : execModeLetter s = .next t0) :
    RegsBut W0 r0 t0 := by
  unfold execModeLetter at ht
  apply whenOn_regs (ht := ht)
  repeat' first
    | with_reducible assumption
    | with_reducible apply onLetter_regs
    | with_reducible apply modeLetter_regs
    | split
    | dsimp only
    | with_reducible intro _

theorem execTileCadence_regs {W0 : Nat → Prop} {r0 : State} (dt : Nat) (s : State) (h_pba : ∀ k, W0 (0x38000 + 4 * (k % 64))) (h_GLB_EVTOVF : W0 R.GLB_EVTOVF) (h_QUE_STAT : ∀ i, W0 (R.QUE_STAT i)) (h_QUE_RET : ∀ i, W0 (R.QUE_RET i)) (h_SOR_GSTAT : W0 R.SOR_GSTAT) (h_SRF_STAT : W0 R.SRF_STAT) (h_SRF_FREEPG : W0 R.SRF_FREEPG) (h_SRF_RETIRED : W0 R.SRF_RETIRED) (h_CHN_PERR : ∀ i, W0 (R.CHN_PERR i)) (h_TIM_PGCFG : ∀ i, W0 (R.TIM_PGCFG i)) (h_TIM_PGSTART : ∀ i, W0 (R.TIM_PGSTART i)) (h_TIM_PGPER : ∀ i, W0 (R.TIM_PGPER i)) (h_TIM_PGPERF : ∀ i, W0 (R.TIM_PGPERF i)) (h_TIM_PGSTAT : ∀ i, W0 (R.TIM_PGSTAT i)) (h_TIM_PGNEXT : ∀ i, W0 (R.TIM_PGNEXT i)) (h_TAN_TSTAT : W0 R.TAN_TSTAT) (h_TAN_TCLAIM0 : W0 R.TAN_TCLAIM0) (h_TAN_TCLAIM1 : W0 R.TAN_TCLAIM1) (h_LMP_MSTAT : W0 R.LMP_MSTAT) {t0 : State} (h0 : RegsBut W0 r0 s) (ht : execTileCadence dt s = .next t0) :
    RegsBut W0 r0 t0 := by
  unfold execTileCadence at ht
  apply whenOn_regs (ht := ht)
  repeat' first
    | with_reducible assumption
    | with_reducible apply advance_regs
    | with_reducible apply tileCadence_regs
    | split
    | dsimp only
    | with_reducible intro _

theorem execCommitInstant_regs {W0 : Nat → Prop} {r0 : State} (dt : Nat) (s : State) (h_pba : ∀ k, W0 (0x38000 + 4 * (k % 64))) (h_GLB_YIELDCNT : W0 R.GLB_YIELDCNT) (h_GLB_YIELDLAST : W0 R.GLB_YIELDLAST) (h_GLB_YIELDFRM : W0 R.GLB_YIELDFRM) (h_GLB_EVTOVF : W0 R.GLB_EVTOVF) (h_QUE_STAT : ∀ i, W0 (R.QUE_STAT i)) (h_QUE_RET : ∀ i, W0 (R.QUE_RET i)) (h_DMA_CHSTAT : ∀ i, W0 (R.DMA_CHSTAT i)) (h_DMA_CHCNT : ∀ i, W0 (R.DMA_CHCNT i)) (h_DMA_CHDEAD : ∀ i, W0 (R.DMA_CHDEAD i)) (h_SOR_GSTAT : W0 R.SOR_GSTAT) (h_SOR_TGTSTAT : ∀ i, W0 (R.SOR_TGTSTAT i)) (h_SRF_STAT : W0 R.SRF_STAT) (h_SRF_FREEPG : W0 R.SRF_FREEPG) (h_SRF_RETIRED : W0 R.SRF_RETIRED) (h_SRF_TCMISS : W0 R.SRF_TCMISS) (h_CHN_PERR : ∀ i, W0 (R.CHN_PERR i)) (h_LMP_DIMNOW : W0 R.LMP_DIMNOW) (h_LMP_MSTAT : W0 R.LMP_MSTAT) (h_LMP_FSTAT : W0 R.LMP_FSTAT) (h_LMP_FRAME : W0 R.LMP_FRAME) (h_LMP_LASTMISS : W0 R.LMP_LASTMISS) (h_LMP_ZTEMP : ∀ i, W0 (R.LMP_ZTEMP i)) (h_DRC_ECCSTAT : W0 R.DRC_ECCSTAT) (h_DRC_UEADDR : W0 R.DRC_UEADDR) (h_SEC_STAT : W0 R.SEC_STAT) {t0 : State} (h0 : RegsBut W0 r0 s) (ht : execCommitInstant dt s = .next t0) :
    RegsBut W0 r0 t0 := by
  unfold execCommitInstant at ht
  apply whenOn_regs (ht := ht)
  repeat' first
    | with_reducible assumption
    | with_reducible apply advance_regs
    | with_reducible apply commitInstant_regs
    | split
    | dsimp only
    | with_reducible intro _

theorem execReceiptIntervalClose_regs {W0 : Nat → Prop} {r0 : State} (dt : Nat) (s : State) (h_pba : ∀ k, W0 (0x38000 + 4 * (k % 64))) (h_GLB_EVTOVF : W0 R.GLB_EVTOVF) (h_SOR_GSTAT : W0 R.SOR_GSTAT) (h_CHN_PERR : ∀ i, W0 (R.CHN_PERR i)) (h_SEC_STAT : W0 R.SEC_STAT) {t0 : State} (h0 : RegsBut W0 r0 s) (ht : execReceiptIntervalClose dt s = .next t0) :
    RegsBut W0 r0 t0 := by
  unfold execReceiptIntervalClose at ht
  apply whenOn_regs (ht := ht)
  repeat' first
    | with_reducible assumption
    | with_reducible apply advance_regs
    | with_reducible apply intervalStep_regs
    | split
    | dsimp only
    | with_reducible intro _

theorem execSlotLatch_regs {W0 : Nat → Prop} {r0 : State} (dt : Nat) (late : Bool) (s : State) (h_pba : ∀ k, W0 (0x38000 + 4 * (k % 64))) (h_GLB_YIELDCNT : W0 R.GLB_YIELDCNT) (h_GLB_YIELDLAST : W0 R.GLB_YIELDLAST) (h_GLB_YIELDFRM : W0 R.GLB_YIELDFRM) (h_GLB_EVTOVF : W0 R.GLB_EVTOVF) (h_QUE_STAT : ∀ i, W0 (R.QUE_STAT i)) (h_QUE_RET : ∀ i, W0 (R.QUE_RET i)) (h_DMA_CHSTAT : ∀ i, W0 (R.DMA_CHSTAT i)) (h_DMA_CHCNT : ∀ i, W0 (R.DMA_CHCNT i)) (h_DMA_CHDEAD : ∀ i, W0 (R.DMA_CHDEAD i)) (h_SOR_GSTAT : W0 R.SOR_GSTAT) (h_SOR_TGTSTAT : ∀ i, W0 (R.SOR_TGTSTAT i)) (h_SRF_STAT : W0 R.SRF_STAT) (h_SRF_FREEPG : W0 R.SRF_FREEPG) (h_SRF_RETIRED : W0 R.SRF_RETIRED) (h_SRF_TCMISS : W0 R.SRF_TCMISS) (h_CHN_PERR : ∀ i, W0 (R.CHN_PERR i)) (h_LMP_DIMNOW : W0 R.LMP_DIMNOW) (h_LMP_ERR : W0 R.LMP_ERR) (h_LMP_ZTEMP : ∀ i, W0 (R.LMP_ZTEMP i)) (h_DRC_ECCSTAT : W0 R.DRC_ECCSTAT) (h_DRC_UEADDR : W0 R.DRC_UEADDR) {t0 : State} (h0 : RegsBut W0 r0 s) (ht : execSlotLatch dt late s = .next t0) :
    RegsBut W0 r0 t0 := by
  unfold execSlotLatch at ht
  apply whenOn_regs (ht := ht)
  repeat' first
    | with_reducible assumption
    | with_reducible apply advance_regs
    | with_reducible apply slotLatch_regs
    | split
    | dsimp only
    | with_reducible intro _

theorem execLmpCurveLoad_regs {W0 : Nat → Prop} {r0 : State} (host : HostRes) (s : State) (h_pba : ∀ k, W0 (0x38000 + 4 * (k % 64))) (h_GLB_EVTOVF : W0 R.GLB_EVTOVF) (h_QUE_STAT : ∀ i, W0 (R.QUE_STAT i)) (h_QUE_RET : ∀ i, W0 (R.QUE_RET i)) (h_SOR_TGTSTAT : ∀ i, W0 (R.SOR_TGTSTAT i)) (h_SRF_TCMISS : W0 R.SRF_TCMISS) (h_CHN_PERR : ∀ i, W0 (R.CHN_PERR i)) (h_DRC_ECCSTAT : W0 R.DRC_ECCSTAT) (h_DRC_UEADDR : W0 R.DRC_UEADDR) {t0 : State} (h0 : RegsBut W0 r0 s) (ht : execLmpCurveLoad host s = .next t0) :
    RegsBut W0 r0 t0 := by
  unfold execLmpCurveLoad at ht
  injection ht with ht
  subst ht
  repeat' first
    | with_reducible assumption
    | with_reducible apply onEntryRead_regs
    | with_reducible apply lmpCurve_regs
    | split
    | dsimp only
    | with_reducible intro _

theorem execSvcPress_regs {W0 : Nat → Prop} {r0 : State} (dt : Nat) (s : State) (h_pba : ∀ k, W0 (0x38000 + 4 * (k % 64))) (h_GLB_EVTOVF : W0 R.GLB_EVTOVF) (h_SOR_GSTAT : W0 R.SOR_GSTAT) (h_CHN_PERR : ∀ i, W0 (R.CHN_PERR i)) (h_LMP_TPCFG : W0 R.LMP_TPCFG) {t0 : State} (h0 : RegsBut W0 r0 s) (ht : execSvcPress dt s = .next t0) :
    RegsBut W0 r0 t0 := by
  unfold execSvcPress at ht
  apply whenOn_regs (ht := ht)
  repeat' first
    | with_reducible assumption
    | with_reducible apply advance_regs
    | with_reducible apply svcPress_regs
    | split
    | dsimp only
    | with_reducible intro _

theorem execSvcLongHold_regs {W0 : Nat → Prop} {r0 : State} (dt : Nat) (s : State) (h_pba : ∀ k, W0 (0x38000 + 4 * (k % 64))) (h_GLB_EVTOVF : W0 R.GLB_EVTOVF) (h_QUE_STAT : ∀ i, W0 (R.QUE_STAT i)) (h_QUE_RET : ∀ i, W0 (R.QUE_RET i)) (h_DMA_CHSTAT : ∀ i, W0 (R.DMA_CHSTAT i)) (h_DMA_CHCNT : ∀ i, W0 (R.DMA_CHCNT i)) (h_DMA_CHDEAD : ∀ i, W0 (R.DMA_CHDEAD i)) (h_SOR_GSTAT : W0 R.SOR_GSTAT) (h_SOR_TGTSTAT : ∀ i, W0 (R.SOR_TGTSTAT i)) (h_SRF_TCMISS : W0 R.SRF_TCMISS) (h_CHN_PERR : ∀ i, W0 (R.CHN_PERR i)) (h_LMP_DIMNOW : W0 R.LMP_DIMNOW) (h_LMP_TPCFG : W0 R.LMP_TPCFG) (h_LMP_ZTEMP : ∀ i, W0 (R.LMP_ZTEMP i)) (h_DRC_ECCSTAT : W0 R.DRC_ECCSTAT) (h_DRC_UEADDR : W0 R.DRC_UEADDR) {t0 : State} (h0 : RegsBut W0 r0 s) (ht : execSvcLongHold dt s = .next t0) :
    RegsBut W0 r0 t0 := by
  unfold execSvcLongHold at ht
  apply whenOn_regs (ht := ht)
  repeat' first
    | with_reducible assumption
    | with_reducible apply advance_regs
    | with_reducible apply svcHold_regs
    | split
    | dsimp only
    | with_reducible intro _

theorem execLocatorEnd_regs {W0 : Nat → Prop} {r0 : State} (dt : Nat) (s : State) (h_pba : ∀ k, W0 (0x38000 + 4 * (k % 64))) (h_GLB_EVTOVF : W0 R.GLB_EVTOVF) (h_SOR_GSTAT : W0 R.SOR_GSTAT) (h_CHN_PERR : ∀ i, W0 (R.CHN_PERR i)) (h_LMP_TPCFG : W0 R.LMP_TPCFG) {t0 : State} (h0 : RegsBut W0 r0 s) (ht : execLocatorEnd dt s = .next t0) :
    RegsBut W0 r0 t0 := by
  unfold execLocatorEnd at ht
  apply whenOn_regs (ht := ht)
  repeat' first
    | with_reducible assumption
    | with_reducible apply advance_regs
    | with_reducible apply locatorEnd_regs
    | split
    | dsimp only
    | with_reducible intro _

theorem execSelfTestEnd_regs {W0 : Nat → Prop} {r0 : State} (dt : Nat) (s : State) (h_pba : ∀ k, W0 (0x38000 + 4 * (k % 64))) (h_GLB_EVTOVF : W0 R.GLB_EVTOVF) (h_SOR_GSTAT : W0 R.SOR_GSTAT) (h_CHN_PERR : ∀ i, W0 (R.CHN_PERR i)) (h_LMP_TPCFG : W0 R.LMP_TPCFG) {t0 : State} (h0 : RegsBut W0 r0 s) (ht : execSelfTestEnd dt s = .next t0) :
    RegsBut W0 r0 t0 := by
  unfold execSelfTestEnd at ht
  apply whenOn_regs (ht := ht)
  repeat' first
    | with_reducible assumption
    | with_reducible apply advance_regs
    | with_reducible apply selfTestEnd_regs
    | split
    | dsimp only
    | with_reducible intro _

end Sys2Proof.Machine
end

