-- ==== Sys2Proof/Laws/RegsSpk.lean ====
section
/-! SUPPORT. Which registers each operation of Machine/Spk.lean may write. -/

namespace Sys2Proof.Machine

theorem setSpoke_regs {W0 : Nat → Prop} {r0 : State} (s : State) (n : Nat) (x : SpokeSt) (h0 : RegsBut W0 r0 s) :
    RegsBut W0 r0 (setSpoke s n x) := by
  unfold setSpoke
  repeat' first
    | with_reducible assumption
    | simp only [RegsBut.spk]

theorem surfWalk_regs {W0 : Nat → Prop} {r0 : State} (s : State) (h : Nat) (off : Nat) (n : Nat) (h_pba : ∀ k, W0 (0x38000 + 4 * (k % 64))) (h_GLB_EVTOVF : W0 R.GLB_EVTOVF) (h_SRF_TCMISS : W0 R.SRF_TCMISS) (h_CHN_PERR : ∀ i, W0 (R.CHN_PERR i)) (h_DRC_ECCSTAT : W0 R.DRC_ECCSTAT) (h_DRC_UEADDR : W0 R.DRC_UEADDR) (h0 : RegsBut W0 r0 s) :
    RegsBut W0 r0 (surfWalk s h off n) := by
  unfold surfWalk
  repeat' first
    | with_reducible assumption
    | with_reducible apply srfWalk_regs
    | with_reducible apply engineNote_regs
    | with_reducible apply RegsBut.foldl
    | split
    | dsimp only
    | with_reducible intro _

theorem codeWalk_regs {W0 : Nat → Prop} {r0 : State} (s : State) (n : Nat) (h_pba : ∀ k, W0 (0x38000 + 4 * (k % 64))) (h_GLB_EVTOVF : W0 R.GLB_EVTOVF) (h_SRF_TCMISS : W0 R.SRF_TCMISS) (h_CHN_PERR : ∀ i, W0 (R.CHN_PERR i)) (h_DRC_ECCSTAT : W0 R.DRC_ECCSTAT) (h_DRC_UEADDR : W0 R.DRC_UEADDR) (h0 : RegsBut W0 r0 s) :
    RegsBut W0 r0 (codeWalk s n) := by
  unfold codeWalk
  repeat' first
    | with_reducible assumption
    | with_reducible apply surfWalk_regs

theorem spokeSend_regs {W0 : Nat → Prop} {r0 : State} (s : State) (n : Nat) (ps : List Bytes) (h0 : RegsBut W0 r0 s) :
    RegsBut W0 r0 (spokeSend s n ps) := by
  unfold spokeSend
  repeat' first
    | with_reducible assumption
    | with_reducible apply emitAll_regs

theorem sendWrite_regs {W0 : Nat → Prop} {r0 : State} (s : State) (n : Nat) (b : Bytes) (h0 : RegsBut W0 r0 s) :
    RegsBut W0 r0 (sendWrite s n b) := by
  unfold sendWrite
  repeat' first
    | with_reducible assumption
    | with_reducible apply setSpoke_regs
    | with_reducible apply spokeSend_regs
    | split
    | dsimp only

theorem sendWrites_regs {W0 : Nat → Prop} {r0 : State} (s : State) (n : Nat) (h0 : RegsBut W0 r0 s) :
    RegsBut W0 r0 (sendWrites s n) := by
  unfold sendWrites
  repeat' first
    | with_reducible assumption
    | with_reducible apply setSpoke_regs
    | with_reducible apply sendWrite_regs
    | with_reducible apply RegsBut.foldl
    | split
    | dsimp only
    | with_reducible intro _

theorem askRead_regs {W0 : Nat → Prop} {r0 : State} (s : State) (n : Nat) (h0 : RegsBut W0 r0 s) :
    RegsBut W0 r0 (askRead s n) := by
  unfold askRead
  repeat' first
    | with_reducible assumption
    | with_reducible apply setSpoke_regs
    | with_reducible apply spokeSend_regs
    | with_reducible refine RegsBut.of_snd (by with_reducible assumption) ?_
    | with_reducible refine RegsBut.of_snd2 (by with_reducible assumption) ?_
    | split
    | dsimp only

theorem pump_regs {W0 : Nat → Prop} {r0 : State} (s : State) (n : Nat) (h0 : RegsBut W0 r0 s) :
    RegsBut W0 r0 (pump s n) := by
  unfold pump
  repeat' first
    | with_reducible assumption
    | with_reducible apply sendWrites_regs
    | with_reducible apply askRead_regs

theorem bringUp_regs {W0 : Nat → Prop} {r0 : State} (s : State) (n : Nat) (h_SPK_SPKSTAT : ∀ i, W0 (R.SPK_SPKSTAT i)) (h0 : RegsBut W0 r0 s) :
    RegsBut W0 r0 (bringUp s n) := by
  unfold bringUp
  repeat' first
    | with_reducible assumption
    | with_reducible exact h_SPK_SPKSTAT _
    | with_reducible apply setF_regs
    | with_reducible apply setSpoke_regs
    | with_reducible apply spokeSend_regs
    | with_reducible apply askRead_regs

theorem toFault_regs {W0 : Nat → Prop} {r0 : State} (s : State) (n : Nat) (c : Status) (found : Nat) (h_pba : ∀ k, W0 (0x38000 + 4 * (k % 64))) (h_GLB_EVTOVF : W0 R.GLB_EVTOVF) (h_CHN_PERR : ∀ i, W0 (R.CHN_PERR i)) (h_SPK_SPKSTAT : ∀ i, W0 (R.SPK_SPKSTAT i)) (h0 : RegsBut W0 r0 s) :
    RegsBut W0 r0 (toFault s n c found) := by
  unfold toFault
  repeat' first
    | with_reducible assumption
    | with_reducible exact h_SPK_SPKSTAT _
    | with_reducible apply setF_regs
    | with_reducible apply raise_regs
    | with_reducible apply setSpoke_regs

theorem idsDone_regs {W0 : Nat → Prop} {r0 : State} (s : State) (n : Nat) (x : SpokeSt) (h_pba : ∀ k, W0 (0x38000 + 4 * (k % 64))) (h_GLB_EVTOVF : W0 R.GLB_EVTOVF) (h_SRF_TCMISS : W0 R.SRF_TCMISS) (h_CHN_PERR : ∀ i, W0 (R.CHN_PERR i)) (h_SPK_SPKSTAT : ∀ i, W0 (R.SPK_SPKSTAT i)) (h_DRC_ECCSTAT : W0 R.DRC_ECCSTAT) (h_DRC_UEADDR : W0 R.DRC_UEADDR) (h0 : RegsBut W0 r0 s) :
    RegsBut W0 r0 (idsDone s n x) := by
  unfold idsDone
  repeat' first
    | with_reducible assumption
    | with_reducible apply setSpoke_regs
    | with_reducible apply codeWalk_regs
    | with_reducible apply spokeSend_regs
    | with_reducible apply askRead_regs
    | with_reducible apply toFault_regs
    | split
    | dsimp only

theorem toRun_regs {W0 : Nat → Prop} {r0 : State} (s : State) (n : Nat) (h_SPK_SPKSTAT : ∀ i, W0 (R.SPK_SPKSTAT i)) (h0 : RegsBut W0 r0 s) :
    RegsBut W0 r0 (toRun s n) := by
  unfold toRun
  repeat' first
    | with_reducible assumption
    | with_reducible exact h_SPK_SPKSTAT _
    | with_reducible apply setF_regs
    | with_reducible apply setSpoke_regs

theorem faultEvent_regs {W0 : Nat → Prop} {r0 : State} (s : State) (entry : Nat) (frame : Nat) (h_pba : ∀ k, W0 (0x38000 + 4 * (k % 64))) (h_GLB_EVTOVF : W0 R.GLB_EVTOVF) (h_CHN_PERR : ∀ i, W0 (R.CHN_PERR i)) (h0 : RegsBut W0 r0 s) :
    RegsBut W0 r0 (faultEvent s entry frame) := by
  unfold faultEvent
  repeat' first
    | with_reducible assumption
    | simp only [RegsBut.spk]
    | with_reducible apply raise_regs
    | split

theorem confirmFault_regs {W0 : Nat → Prop} {r0 : State} (s : State) (lamp : Nat) (kind : Nat) (frame : Nat) (h_pba : ∀ k, W0 (0x38000 + 4 * (k % 64))) (h_GLB_EVTOVF : W0 R.GLB_EVTOVF) (h_CHN_PERR : ∀ i, W0 (R.CHN_PERR i)) (h_SPK_FLCNT : W0 R.SPK_FLCNT) (h0 : RegsBut W0 r0 s) :
    RegsBut W0 r0 (confirmFault s lamp kind frame) := by
  unfold confirmFault
  repeat' first
    | with_reducible assumption
    | simp only [RegsBut.spk]
    | with_reducible exact h_SPK_FLCNT
    | with_reducible apply setF_regs
    | with_reducible apply faultEvent_regs
    | split

theorem faultResult_regs {W0 : Nat → Prop} {r0 : State} (s : State) (frame : Nat) (lamp : Nat) (kind : Nat) (shown : Bool) (h_pba : ∀ k, W0 (0x38000 + 4 * (k % 64))) (h_GLB_EVTOVF : W0 R.GLB_EVTOVF) (h_CHN_PERR : ∀ i, W0 (R.CHN_PERR i)) (h_SPK_FLCNT : W0 R.SPK_FLCNT) (h0 : RegsBut W0 r0 s) :
    RegsBut W0 r0 (faultResult s frame lamp kind shown) := by
  unfold faultResult
  repeat' first
    | with_reducible assumption
    | simp only [RegsBut.spk]
    | with_reducible apply confirmFault_regs
    | split

theorem lineResult_regs {W0 : Nat → Prop} {r0 : State} (s : State) (frame : Nat) (n : Nat) (d : Nat) (l : Nat) (open' : Nat) (short : Nat) (valid : Nat) (h_pba : ∀ k, W0 (0x38000 + 4 * (k % 64))) (h_GLB_EVTOVF : W0 R.GLB_EVTOVF) (h_CHN_PERR : ∀ i, W0 (R.CHN_PERR i)) (h_SPK_FLCNT : W0 R.SPK_FLCNT) (h0 : RegsBut W0 r0 s) :
    RegsBut W0 r0 (lineResult s frame n d l open' short valid) := by
  unfold lineResult
  repeat' first
    | with_reducible assumption
    | with_reducible apply faultResult_regs
    | with_reducible apply RegsBut.foldl
    | split
    | dsimp only
    | with_reducible intro _

theorem clearLines_regs {W0 : Nat → Prop} {r0 : State} (s : State) (frame : Nat) (n : Nat) (d : Nat) (lines : Nat) (h0 : RegsBut W0 r0 s) :
    RegsBut W0 r0 (clearLines s frame n d lines) := by
  unfold clearLines
  repeat' first
    | with_reducible assumption
    | simp only [RegsBut.spk]

theorem detDone_regs {W0 : Nat → Prop} {r0 : State} (s : State) (n : Nat) (d : Nat) (h0 : RegsBut W0 r0 s) :
    RegsBut W0 r0 (detDone s n d) := by
  unfold detDone
  repeat' first
    | with_reducible assumption
    | simp only [RegsBut.spk]

theorem detResult_regs {W0 : Nat → Prop} {r0 : State} (s : State) (n : Nat) (p : Nat) (r : Nat) (v : Nat) (h_pba : ∀ k, W0 (0x38000 + 4 * (k % 64))) (h_GLB_EVTOVF : W0 R.GLB_EVTOVF) (h_CHN_PERR : ∀ i, W0 (R.CHN_PERR i)) (h_SPK_FLCNT : W0 R.SPK_FLCNT) (h0 : RegsBut W0 r0 s) :
    RegsBut W0 r0 (detResult s n p r v) := by
  unfold detResult
  repeat' first
    | with_reducible assumption
    | with_reducible apply setSpoke_regs
    | with_reducible apply lineResult_regs
    | with_reducible apply clearLines_regs
    | with_reducible apply detDone_regs
    | split
    | dsimp only

theorem upRead_regs {W0 : Nat → Prop} {r0 : State} (s : State) (n : Nat) (p : Nat) (r : Nat) (v : Option Nat) (h_pba : ∀ k, W0 (0x38000 + 4 * (k % 64))) (h_GLB_EVTOVF : W0 R.GLB_EVTOVF) (h_SRF_TCMISS : W0 R.SRF_TCMISS) (h_CHN_PERR : ∀ i, W0 (R.CHN_PERR i)) (h_SPK_SPKSTAT : ∀ i, W0 (R.SPK_SPKSTAT i)) (h_DRC_ECCSTAT : W0 R.DRC_ECCSTAT) (h_DRC_UEADDR : W0 R.DRC_UEADDR) (h0 : RegsBut W0 r0 s) :
    RegsBut W0 r0 (upRead s n p r v) := by
  unfold upRead
  repeat' first
    | with_reducible assumption
    | with_reducible apply setSpoke_regs
    | with_reducible apply askRead_regs
    | with_reducible apply toFault_regs
    | with_reducible apply idsDone_regs
    | with_reducible apply toRun_regs
    | with_reducible refine RegsBut.of_snd (by with_reducible assumption) ?_
    | with_reducible refine RegsBut.of_snd2 (by with_reducible assumption) ?_
    | split
    | dsimp only

theorem readEnd_regs {W0 : Nat → Prop} {r0 : State} (s : State) (n : Nat) (v : Option Nat) (h_pba : ∀ k, W0 (0x38000 + 4 * (k % 64))) (h_GLB_EVTOVF : W0 R.GLB_EVTOVF) (h_SRF_TCMISS : W0 R.SRF_TCMISS) (h_CHN_PERR : ∀ i, W0 (R.CHN_PERR i)) (h_SPK_FLCNT : W0 R.SPK_FLCNT) (h_SPK_SPKSTAT : ∀ i, W0 (R.SPK_SPKSTAT i)) (h_DRC_ECCSTAT : W0 R.DRC_ECCSTAT) (h_DRC_UEADDR : W0 R.DRC_UEADDR) (h0 : RegsBut W0 r0 s) :
    RegsBut W0 r0 (readEnd s n v) := by
  unfold readEnd
  repeat' first
    | with_reducible assumption
    | with_reducible exact h_SPK_SPKSTAT _
    | with_reducible apply incSat_regs
    | with_reducible apply setSpoke_regs
    | with_reducible apply askRead_regs
    | with_reducible apply toFault_regs
    | with_reducible apply detResult_regs
    | with_reducible apply upRead_regs
    | with_reducible refine RegsBut.of_snd (by with_reducible assumption) ?_
    | with_reducible refine RegsBut.of_snd2 (by with_reducible assumption) ?_
    | split

theorem readMiss_regs {W0 : Nat → Prop} {r0 : State} (s : State) (n : Nat) (h_pba : ∀ k, W0 (0x38000 + 4 * (k % 64))) (h_GLB_EVTOVF : W0 R.GLB_EVTOVF) (h_SRF_TCMISS : W0 R.SRF_TCMISS) (h_CHN_PERR : ∀ i, W0 (R.CHN_PERR i)) (h_SPK_FLCNT : W0 R.SPK_FLCNT) (h_SPK_SPKSTAT : ∀ i, W0 (R.SPK_SPKSTAT i)) (h_DRC_ECCSTAT : W0 R.DRC_ECCSTAT) (h_DRC_UEADDR : W0 R.DRC_UEADDR) (h0 : RegsBut W0 r0 s) :
    RegsBut W0 r0 (readMiss s n) := by
  unfold readMiss
  repeat' first
    | with_reducible assumption
    | with_reducible apply setSpoke_regs
    | with_reducible apply askRead_regs
    | with_reducible apply readEnd_regs
    | split
    | dsimp only

theorem readAbsent_regs {W0 : Nat → Prop} {r0 : State} (s : State) (n : Nat) (h_pba : ∀ k, W0 (0x38000 + 4 * (k % 64))) (h_GLB_EVTOVF : W0 R.GLB_EVTOVF) (h_SRF_TCMISS : W0 R.SRF_TCMISS) (h_CHN_PERR : ∀ i, W0 (R.CHN_PERR i)) (h_SPK_FLCNT : W0 R.SPK_FLCNT) (h_SPK_SPKSTAT : ∀ i, W0 (R.SPK_SPKSTAT i)) (h_DRC_ECCSTAT : W0 R.DRC_ECCSTAT) (h_DRC_UEADDR : W0 R.DRC_UEADDR) (h0 : RegsBut W0 r0 s) :
    RegsBut W0 r0 (readAbsent s n) := by
  unfold readAbsent
  repeat' first
    | with_reducible assumption
    | with_reducible apply readMiss_regs
    | split

theorem readAnswer_regs {W0 : Nat → Prop} {r0 : State} (s : State) (n : Nat) (b : Bytes) (h_pba : ∀ k, W0 (0x38000 + 4 * (k % 64))) (h_GLB_EVTOVF : W0 R.GLB_EVTOVF) (h_SRF_TCMISS : W0 R.SRF_TCMISS) (h_CHN_PERR : ∀ i, W0 (R.CHN_PERR i)) (h_SPK_FLCNT : W0 R.SPK_FLCNT) (h_SPK_SPKSTAT : ∀ i, W0 (R.SPK_SPKSTAT i)) (h_DRC_ECCSTAT : W0 R.DRC_ECCSTAT) (h_DRC_UEADDR : W0 R.DRC_UEADDR) (h0 : RegsBut W0 r0 s) :
    RegsBut W0 r0 (readAnswer s n b) := by
  unfold readAnswer
  repeat' first
    | with_reducible assumption
    | with_reducible apply readEnd_regs
    | with_reducible apply readMiss_regs
    | split
    | dsimp only

theorem spkEnable_regs {W0 : Nat → Prop} {r0 : State} (s : State) (h_SPK_CTL : W0 R.SPK_CTL) (h_SPK_SPKSTAT : ∀ i, W0 (R.SPK_SPKSTAT i)) (h0 : RegsBut W0 r0 s) :
    RegsBut W0 r0 (spkEnable s) := by
  unfold spkEnable
  repeat' first
    | with_reducible assumption
    | simp only [RegsBut.spk]
    | with_reducible exact h_SPK_CTL
    | with_reducible apply setF_regs
    | with_reducible apply bringUp_regs
    | with_reducible apply RegsBut.foldl
    | split
    | dsimp only
    | with_reducible intro _

theorem spkDisable_regs {W0 : Nat → Prop} {r0 : State} (s : State) (h_SPK_CTL : W0 R.SPK_CTL) (h_SPK_SPKSTAT : ∀ i, W0 (R.SPK_SPKSTAT i)) (h0 : RegsBut W0 r0 s) :
    RegsBut W0 r0 (spkDisable s) := by
  unfold spkDisable
  repeat' first
    | with_reducible assumption
    | with_reducible exact h_SPK_CTL
    | with_reducible apply setF_regs
    | with_reducible apply spokesDark_regs

theorem bringUpRetry_regs {W0 : Nat → Prop} {r0 : State} (s : State) (n : Nat) (h_SPK_SPKSTAT : ∀ i, W0 (R.SPK_SPKSTAT i)) (h0 : RegsBut W0 r0 s) :
    RegsBut W0 r0 (bringUpRetry s n) := by
  unfold bringUpRetry
  repeat' first
    | with_reducible assumption
    | with_reducible apply bringUp_regs
    | split

theorem statPoll_regs {W0 : Nat → Prop} {r0 : State} (s : State) (h0 : RegsBut W0 r0 s) :
    RegsBut W0 r0 (statPoll s) := by
  unfold statPoll
  repeat' first
    | with_reducible assumption
    | simp only [RegsBut.spk]
    | with_reducible apply setSpoke_regs
    | with_reducible apply pump_regs
    | with_reducible apply RegsBut.foldl
    | split
    | dsimp only
    | with_reducible intro _

theorem spkReload_regs {W0 : Nat → Prop} {r0 : State} (s : State) (h_pba : ∀ k, W0 (0x38000 + 4 * (k % 64))) (h_GLB_EVTOVF : W0 R.GLB_EVTOVF) (h_SRF_TCMISS : W0 R.SRF_TCMISS) (h_CHN_PERR : ∀ i, W0 (R.CHN_PERR i)) (h_DRC_ECCSTAT : W0 R.DRC_ECCSTAT) (h_DRC_UEADDR : W0 R.DRC_UEADDR) (h0 : RegsBut W0 r0 s) :
    RegsBut W0 r0 (spkReload s) := by
  unfold spkReload
  repeat' first
    | with_reducible assumption
    | with_reducible apply codeWalk_regs
    | with_reducible apply sendWrite_regs
    | with_reducible apply RegsBut.foldl
    | split
    | dsimp only
    | with_reducible intro _

theorem readbackEvent_regs {W0 : Nat → Prop} {r0 : State} (s : State) (h_pba : ∀ k, W0 (0x38000 + 4 * (k % 64))) (h_GLB_EVTOVF : W0 R.GLB_EVTOVF) (h_CHN_PERR : ∀ i, W0 (R.CHN_PERR i)) (h0 : RegsBut W0 r0 s) :
    RegsBut W0 r0 (readbackEvent s) := by
  unfold readbackEvent
  repeat' first
    | with_reducible assumption
    | simp only [RegsBut.spk]
    | with_reducible apply raise_regs
    | split

theorem mismatch_regs {W0 : Nat → Prop} {r0 : State} (s : State) (spokes : Nat) (groups : Nat) (counted : Bool) (h_pba : ∀ k, W0 (0x38000 + 4 * (k % 64))) (h_GLB_EVTOVF : W0 R.GLB_EVTOVF) (h_CHN_PERR : ∀ i, W0 (R.CHN_PERR i)) (h_SPK_RBSTAT : W0 R.SPK_RBSTAT) (h_SPK_RBSPK : W0 R.SPK_RBSPK) (h_SPK_RBGRP : W0 R.SPK_RBGRP) (h0 : RegsBut W0 r0 s) :
    RegsBut W0 r0 (mismatch s spokes groups counted) := by
  unfold mismatch
  repeat' first
    | with_reducible assumption
    | simp only [RegsBut.sec]
    | with_reducible exact h_SPK_RBSTAT
    | with_reducible exact h_SPK_RBSPK
    | with_reducible exact h_SPK_RBGRP
    | with_reducible apply setF_regs
    | with_reducible apply incSat_regs
    | with_reducible apply readbackEvent_regs
    | split

theorem latchOn_regs {W0 : Nat → Prop} {r0 : State} (s : State) (i : Int) (lw : Nat) (slot : Nat) (det : Bool) (dark : Bool) (n : Nat) (h0 : RegsBut W0 r0 s) :
    RegsBut W0 r0 (latchOn s i lw slot det dark n) := by
  unfold latchOn
  repeat' first
    | with_reducible assumption
    | with_reducible apply emit_regs
    | with_reducible apply setSpoke_regs
    | split
    | dsimp only

theorem slotSend_regs {W0 : Nat → Prop} {r0 : State} (s : State) (h : Show) (slot : Nat) (lw : Nat) (i : Int) (det : Bool) (dark : Bool) (n : Nat) (h_pba : ∀ k, W0 (0x38000 + 4 * (k % 64))) (h_GLB_EVTOVF : W0 R.GLB_EVTOVF) (h_SRF_TCMISS : W0 R.SRF_TCMISS) (h_CHN_PERR : ∀ i, W0 (R.CHN_PERR i)) (h_DRC_ECCSTAT : W0 R.DRC_ECCSTAT) (h_DRC_UEADDR : W0 R.DRC_UEADDR) (h0 : RegsBut W0 r0 s) :
    RegsBut W0 r0 (slotSend s h slot lw i det dark n) := by
  unfold slotSend
  repeat' first
    | with_reducible assumption
    | simp only [RegsBut.spk]
    | with_reducible apply surfWalk_regs
    | with_reducible apply spokeSend_regs
    | with_reducible apply latchOn_regs
    | split

theorem stepWrite_regs {W0 : Nat → Prop} {r0 : State} (s : State) (step : Nat) (h0 : RegsBut W0 r0 s) :
    RegsBut W0 r0 (stepWrite s step) := by
  unfold stepWrite
  repeat' first
    | with_reducible assumption
    | with_reducible apply setSpoke_regs
    | with_reducible apply spokeSend_regs
    | with_reducible apply RegsBut.foldl
    | split
    | dsimp only
    | with_reducible intro _

theorem detCut_regs {W0 : Nat → Prop} {r0 : State} (s : State) (h0 : RegsBut W0 r0 s) :
    RegsBut W0 r0 (detCut s) := by
  unfold detCut
  repeat' first
    | with_reducible assumption
    | with_reducible apply setSpoke_regs
    | with_reducible apply RegsBut.foldl
    | split
    | dsimp only
    | with_reducible intro _

theorem latchSend_regs {W0 : Nat → Prop} {r0 : State} (s : State) (late : Bool) (pads : List (Nat × Nat)) (h_pba : ∀ k, W0 (0x38000 + 4 * (k % 64))) (h_GLB_EVTOVF : W0 R.GLB_EVTOVF) (h_SRF_TCMISS : W0 R.SRF_TCMISS) (h_CHN_PERR : ∀ i, W0 (R.CHN_PERR i)) (h_LMP_ERR : W0 R.LMP_ERR) (h_SPK_RBSTAT : W0 R.SPK_RBSTAT) (h_SPK_RBSPK : W0 R.SPK_RBSPK) (h_SPK_RBGRP : W0 R.SPK_RBGRP) (h_DRC_ECCSTAT : W0 R.DRC_ECCSTAT) (h_DRC_UEADDR : W0 R.DRC_UEADDR) (h0 : RegsBut W0 r0 s) :
    RegsBut W0 r0 (latchSend s late pads) := by
  unfold latchSend
  repeat' first
    | with_reducible assumption
    | simp only [RegsBut.lmp_spk, RegsBut.spk]
    | with_reducible exact h_LMP_ERR
    | with_reducible apply incSat_regs
    | with_reducible apply slotWalk_regs
    | with_reducible apply pump_regs
    | with_reducible apply mismatch_regs
    | with_reducible apply slotSend_regs
    | with_reducible apply stepWrite_regs
    | with_reducible apply detCut_regs
    | with_reducible apply RegsBut.foldl
    | split
    | dsimp only
    | with_reducible intro _

theorem driveScan_regs {W0 : Nat → Prop} {r0 : State} (s : State) (t : Nat) (g : Nat) (a : Nat) (en : Bool) (gd : Bool) (h0 : RegsBut W0 r0 s) :
    RegsBut W0 r0 (driveScan s t g a en gd) := by
  unfold driveScan
  repeat' first
    | with_reducible assumption
    | simp only [RegsBut.spk]
    | with_reducible apply emit_regs

theorem scanEdges_regs {W0 : Nat → Prop} {r0 : State} (s : State) (e : Emission) (t : Nat) (edges : Nat → List (Nat × Nat × Bool × Bool)) (h0 : RegsBut W0 r0 s) :
    RegsBut W0 r0 (scanEdges s e t edges).2 := by
  unfold scanEdges
  repeat' first
    | with_reducible assumption
    | with_reducible apply driveScan_regs
    | with_reducible apply RegsBut.foldl
    | split
    | dsimp only
    | with_reducible intro _

theorem lineSlot_regs {W0 : Nat → Prop} {r0 : State} (s : State) (h0 : RegsBut W0 r0 s) :
    RegsBut W0 r0 (lineSlot s) := by
  unfold lineSlot
  repeat' first
    | with_reducible assumption
    | simp only [RegsBut.spk]
    | with_reducible apply scanEdges_regs
    | with_reducible refine RegsBut.of_snd (by with_reducible assumption) ?_
    | with_reducible refine RegsBut.of_snd2 (by with_reducible assumption) ?_
    | split

theorem detStart_regs {W0 : Nat → Prop} {r0 : State} (s : State) (frame : Nat) (h_SPK_FLCNT : W0 R.SPK_FLCNT) (h0 : RegsBut W0 r0 s) :
    RegsBut W0 r0 (detStart s frame) := by
  unfold detStart
  repeat' first
    | with_reducible assumption
    | simp only [RegsBut.spk]
    | with_reducible exact h_SPK_FLCNT
    | with_reducible apply incMod_regs
    | with_reducible apply setSpoke_regs
    | with_reducible apply pump_regs
    | with_reducible apply RegsBut.foldl
    | split
    | dsimp only
    | with_reducible intro _

theorem emissionEnd_regs {W0 : Nat → Prop} {r0 : State} (s : State) (pads : List (Nat × Nat)) (h_pba : ∀ k, W0 (0x38000 + 4 * (k % 64))) (h_GLB_EVTOVF : W0 R.GLB_EVTOVF) (h_CHN_PERR : ∀ i, W0 (R.CHN_PERR i)) (h_SPK_FLCNT : W0 R.SPK_FLCNT) (h_SPK_RBSTAT : W0 R.SPK_RBSTAT) (h_SPK_RBSPK : W0 R.SPK_RBSPK) (h_SPK_RBGRP : W0 R.SPK_RBGRP) (h0 : RegsBut W0 r0 s) :
    RegsBut W0 r0 (emissionEnd s pads) := by
  unfold emissionEnd
  repeat' first
    | with_reducible assumption
    | simp only [RegsBut.spk]
    | with_reducible apply mismatch_regs
    | with_reducible apply scanEdges_regs
    | with_reducible apply detStart_regs
    | with_reducible refine RegsBut.of_snd (by with_reducible assumption) ?_
    | with_reducible refine RegsBut.of_snd2 (by with_reducible assumption) ?_
    | split

theorem faultClear_regs {W0 : Nat → Prop} {r0 : State} (s : State) (h_SPK_FLCNT : W0 R.SPK_FLCNT) (h0 : RegsBut W0 r0 s) :
    RegsBut W0 r0 (faultClear s) := by
  unfold faultClear
  repeat' first
    | with_reducible assumption
    | simp only [RegsBut.spk]
    | with_reducible exact h_SPK_FLCNT
    | with_reducible apply setF_regs

theorem spkBlockReset_regs {W0 : Nat → Prop} {r0 : State} (s : State) (h_r0x120000 : ∀ off, 0x120000 ≤ off → off < 0x130000 → W0 off) (h0 : RegsBut W0 r0 s) :
    RegsBut W0 r0 (spkBlockReset s) := by
  unfold spkBlockReset
  repeat' first
    | with_reducible assumption
    | simp only [RegsBut.spk]
    | with_reducible assumption
    | with_reducible apply resetRegs_regs
    | with_reducible apply scanOff_regs

theorem execSpokeBringupRetry_regs {W0 : Nat → Prop} {r0 : State} (dt : Nat) (n : Nat) (s : State) (h_pba : ∀ k, W0 (0x38000 + 4 * (k % 64))) (h_GLB_EVTOVF : W0 R.GLB_EVTOVF) (h_SOR_GSTAT : W0 R.SOR_GSTAT) (h_CHN_PERR : ∀ i, W0 (R.CHN_PERR i)) (h_SPK_SPKSTAT : ∀ i, W0 (R.SPK_SPKSTAT i)) {t0 : State} (h0 : RegsBut W0 r0 s) (ht : execSpokeBringupRetry dt n s = .next t0) :
    RegsBut W0 r0 t0 := by
  unfold execSpokeBringupRetry at ht
  apply whenOn_regs (ht := ht)
  repeat' first
    | with_reducible assumption
    | with_reducible apply advance_regs
    | with_reducible apply bringUpRetry_regs
    | split
    | dsimp only
    | with_reducible intro _

theorem execDriverStatPoll_regs {W0 : Nat → Prop} {r0 : State} (dt : Nat) (s : State) (h_pba : ∀ k, W0 (0x38000 + 4 * (k % 64))) (h_GLB_EVTOVF : W0 R.GLB_EVTOVF) (h_SOR_GSTAT : W0 R.SOR_GSTAT) (h_CHN_PERR : ∀ i, W0 (R.CHN_PERR i)) {t0 : State} (h0 : RegsBut W0 r0 s) (ht : execDriverStatPoll dt s = .next t0) :
    RegsBut W0 r0 t0 := by
  unfold execDriverStatPoll at ht
  apply whenOn_regs (ht := ht)
  repeat' first
    | with_reducible assumption
    | with_reducible apply advance_regs
    | with_reducible apply statPoll_regs
    | split
    | dsimp only
    | with_reducible intro _

theorem execReadAnswer_regs {W0 : Nat → Prop} {r0 : State} (n : Nat) (b : Bytes) (s : State) (h_pba : ∀ k, W0 (0x38000 + 4 * (k % 64))) (h_GLB_EVTOVF : W0 R.GLB_EVTOVF) (h_SRF_TCMISS : W0 R.SRF_TCMISS) (h_CHN_PERR : ∀ i, W0 (R.CHN_PERR i)) (h_SPK_FLCNT : W0 R.SPK_FLCNT) (h_SPK_SPKSTAT : ∀ i, W0 (R.SPK_SPKSTAT i)) (h_DRC_ECCSTAT : W0 R.DRC_ECCSTAT) (h_DRC_UEADDR : W0 R.DRC_UEADDR) {t0 : State} (h0 : RegsBut W0 r0 s) (ht : execReadAnswer n b s = .next t0) :
    RegsBut W0 r0 t0 := by
  unfold execReadAnswer at ht
  apply whenOn_regs (ht := ht)
  repeat' first
    | with_reducible assumption
    | with_reducible apply readAnswer_regs
    | split
    | dsimp only
    | with_reducible intro _

theorem execReadAbsent_regs {W0 : Nat → Prop} {r0 : State} (x : After) (s : State) (h_pba : ∀ k, W0 (0x38000 + 4 * (k % 64))) (h_GLB_EVTOVF : W0 R.GLB_EVTOVF) (h_SOR_GSTAT : W0 R.SOR_GSTAT) (h_SRF_TCMISS : W0 R.SRF_TCMISS) (h_CHN_PERR : ∀ i, W0 (R.CHN_PERR i)) (h_SPK_FLCNT : W0 R.SPK_FLCNT) (h_SPK_SPKSTAT : ∀ i, W0 (R.SPK_SPKSTAT i)) (h_DRC_ECCSTAT : W0 R.DRC_ECCSTAT) (h_DRC_UEADDR : W0 R.DRC_UEADDR) {t0 : State} (h0 : RegsBut W0 r0 s) (ht : execReadAbsent x s = .next t0) :
    RegsBut W0 r0 t0 := by
  unfold execReadAbsent at ht
  apply whenOn_regs (ht := ht)
  repeat' first
    | with_reducible assumption
    | with_reducible apply advance_regs
    | with_reducible apply readAbsent_regs
    | split
    | dsimp only
    | with_reducible intro _

theorem execLatchSend_regs {W0 : Nat → Prop} {r0 : State} (dt : Nat) (late : Bool) (pads : List (Nat × Nat)) (s : State) (h_pba : ∀ k, W0 (0x38000 + 4 * (k % 64))) (h_GLB_EVTOVF : W0 R.GLB_EVTOVF) (h_SOR_GSTAT : W0 R.SOR_GSTAT) (h_SRF_TCMISS : W0 R.SRF_TCMISS) (h_CHN_PERR : ∀ i, W0 (R.CHN_PERR i)) (h_LMP_ERR : W0 R.LMP_ERR) (h_SPK_RBSTAT : W0 R.SPK_RBSTAT) (h_SPK_RBSPK : W0 R.SPK_RBSPK) (h_SPK_RBGRP : W0 R.SPK_RBGRP) (h_DRC_ECCSTAT : W0 R.DRC_ECCSTAT) (h_DRC_UEADDR : W0 R.DRC_UEADDR) {t0 : State} (h0 : RegsBut W0 r0 s) (ht : execLatchSend dt late pads s = .next t0) :
    RegsBut W0 r0 t0 := by
  unfold execLatchSend at ht
  apply whenOn_regs (ht := ht)
  repeat' first
    | with_reducible assumption
    | with_reducible apply advance_regs
    | with_reducible apply latchSend_regs
    | split
    | dsimp only
    | with_reducible intro _

theorem execLineSlot_regs {W0 : Nat → Prop} {r0 : State} (dt : Nat) (s : State) (h_pba : ∀ k, W0 (0x38000 + 4 * (k % 64))) (h_GLB_EVTOVF : W0 R.GLB_EVTOVF) (h_SOR_GSTAT : W0 R.SOR_GSTAT) (h_CHN_PERR : ∀ i, W0 (R.CHN_PERR i)) {t0 : State} (h0 : RegsBut W0 r0 s) (ht : execLineSlot dt s = .next t0) :
    RegsBut W0 r0 t0 := by
  unfold execLineSlot at ht
  apply whenOn_regs (ht := ht)
  repeat' first
    | with_reducible assumption
    | with_reducible apply advance_regs
    | with_reducible apply lineSlot_regs
    | split
    | dsimp only
    | with_reducible intro _

theorem execSlotEmissionEnd_regs {W0 : Nat → Prop} {r0 : State} (dt : Nat) (pads : List (Nat × Nat)) (s : State) (h_pba : ∀ k, W0 (0x38000 + 4 * (k % 64))) (h_GLB_EVTOVF : W0 R.GLB_EVTOVF) (h_SOR_GSTAT : W0 R.SOR_GSTAT) (h_CHN_PERR : ∀ i, W0 (R.CHN_PERR i)) (h_SPK_FLCNT : W0 R.SPK_FLCNT) (h_SPK_RBSTAT : W0 R.SPK_RBSTAT) (h_SPK_RBSPK : W0 R.SPK_RBSPK) (h_SPK_RBGRP : W0 R.SPK_RBGRP) {t0 : State} (h0 : RegsBut W0 r0 s) (ht : execSlotEmissionEnd dt pads s = .next t0) :
    RegsBut W0 r0 t0 := by
  unfold execSlotEmissionEnd at ht
  apply whenOn_regs (ht := ht)
  repeat' first
    | with_reducible assumption
    | with_reducible apply advance_regs
    | with_reducible apply emissionEnd_regs
    | split
    | dsimp only
    | with_reducible intro _

theorem execDetectionRead_regs {W0 : Nat → Prop} {r0 : State} (n : Nat) (d : Nat) (reg : Nat) (b : Bytes) (s : State) (h_pba : ∀ k, W0 (0x38000 + 4 * (k % 64))) (h_GLB_EVTOVF : W0 R.GLB_EVTOVF) (h_SRF_TCMISS : W0 R.SRF_TCMISS) (h_CHN_PERR : ∀ i, W0 (R.CHN_PERR i)) (h_SPK_FLCNT : W0 R.SPK_FLCNT) (h_SPK_SPKSTAT : ∀ i, W0 (R.SPK_SPKSTAT i)) (h_DRC_ECCSTAT : W0 R.DRC_ECCSTAT) (h_DRC_UEADDR : W0 R.DRC_UEADDR) {t0 : State} (h0 : RegsBut W0 r0 s) (ht : execDetectionRead n d reg b s = .next t0) :
    RegsBut W0 r0 t0 := by
  unfold execDetectionRead at ht
  apply whenOn_regs (ht := ht)
  repeat' first
    | with_reducible assumption
    | with_reducible apply readAnswer_regs
    | split
    | dsimp only
    | with_reducible intro _

end Sys2Proof.Machine
end

