-- ==== Sys2Proof/Laws/RegsCal.lean ====
section
/-! SUPPORT. Which registers each operation of Machine/Cal.lean may write. -/

namespace Sys2Proof.Machine

theorem calRun_regs {W0 : Nat → Prop} {r0 : State} (s : State) (r : Recal) (h0 : RegsBut W0 r0 s) :
    RegsBut W0 r0 (calRun s r) := by
  unfold calRun
  repeat' first
    | with_reducible assumption
    | simp only [RegsBut.cal]

theorem calSweep_regs {W0 : Nat → Prop} {r0 : State} (s : State) (r : Recal) (h_LNK_LSTAT : ∀ i, W0 (R.LNK_LSTAT i)) (h0 : RegsBut W0 r0 s) :
    RegsBut W0 r0 (calSweep s r) := by
  unfold calSweep
  repeat' first
    | with_reducible assumption
    | with_reducible exact h_LNK_LSTAT _
    | with_reducible apply setF_regs
    | with_reducible apply setTaps_regs
    | with_reducible apply calRun_regs

theorem calStart_regs {W0 : Nat → Prop} {r0 : State} (s : State) (i : Nat) (fromSet : Bool) (h_LNK_PMAP : ∀ i, W0 (R.LNK_PMAP i)) (h_LNK_LSTAT : ∀ i, W0 (R.LNK_LSTAT i)) (h_TIM_INC : W0 R.TIM_INC) (h_CAL_STAT : W0 R.CAL_STAT) (h0 : RegsBut W0 r0 s) :
    RegsBut W0 r0 (calStart s i fromSet) := by
  unfold calStart
  repeat' first
    | with_reducible assumption
    | with_reducible exact h_CAL_STAT
    | with_reducible apply setF_regs
    | with_reducible apply steerFor_regs
    | with_reducible apply calRun_regs
    | with_reducible apply calSweep_regs
    | split
    | dsimp only

theorem calPannier_regs {W0 : Nat → Prop} {r0 : State} (s : State) (h_LNK_PMAP : ∀ i, W0 (R.LNK_PMAP i)) (h_LNK_LSTAT : ∀ i, W0 (R.LNK_LSTAT i)) (h0 : RegsBut W0 r0 s) :
    RegsBut W0 r0 (calPannier s) := by
  unfold calPannier
  repeat' first
    | with_reducible assumption
    | with_reducible exact h_LNK_PMAP _
    | with_reducible apply setF_regs
    | with_reducible apply calSweep_regs
    | split

theorem calComplete_regs {W0 : Nat → Prop} {r0 : State} (s : State) (r : Recal) (h_LNK_PMAP : ∀ i, W0 (R.LNK_PMAP i)) (h_LNK_LSTAT : ∀ i, W0 (R.LNK_LSTAT i)) (h_CAL_STAT : W0 R.CAL_STAT) (h_CAL_LQUAL : ∀ i, W0 (R.CAL_LQUAL i)) (h_CAL_LCNT : ∀ i, W0 (R.CAL_LCNT i)) (h_CAL_LFRM : ∀ i, W0 (R.CAL_LFRM i)) (h_CAL_LTIME : ∀ i, W0 (R.CAL_LTIME i)) (h0 : RegsBut W0 r0 s) :
    RegsBut W0 r0 (calComplete s r) := by
  unfold calComplete
  repeat' first
    | with_reducible assumption
    | simp only [RegsBut.cal]
    | with_reducible exact h_LNK_PMAP _
    | with_reducible exact h_LNK_LSTAT _
    | with_reducible exact h_CAL_STAT
    | with_reducible exact h_CAL_LQUAL _
    | with_reducible exact h_CAL_LCNT _
    | with_reducible exact h_CAL_LFRM _
    | with_reducible exact h_CAL_LTIME _
    | with_reducible apply setF_regs
    | with_reducible apply incSat_regs
    | with_reducible apply incMod_regs
    | with_reducible apply setPort_regs
    | split

theorem calDecide_regs {W0 : Nat → Prop} {r0 : State} (s : State) (r : Recal) (h_LNK_PMAP : ∀ i, W0 (R.LNK_PMAP i)) (h_LNK_LSTAT : ∀ i, W0 (R.LNK_LSTAT i)) (h_CAL_STAT : W0 R.CAL_STAT) (h_CAL_LQUAL : ∀ i, W0 (R.CAL_LQUAL i)) (h_CAL_LCNT : ∀ i, W0 (R.CAL_LCNT i)) (h_CAL_LFRM : ∀ i, W0 (R.CAL_LFRM i)) (h_CAL_LTIME : ∀ i, W0 (R.CAL_LTIME i)) (h0 : RegsBut W0 r0 s) :
    RegsBut W0 r0 (calDecide s r) := by
  unfold calDecide
  repeat' first
    | with_reducible assumption
    | with_reducible apply setTaps_regs
    | with_reducible apply calRun_regs
    | with_reducible apply calComplete_regs
    | with_reducible refine RegsBut.of_snd (by with_reducible assumption) ?_
    | with_reducible refine RegsBut.of_snd2 (by with_reducible assumption) ?_
    | split
    | dsimp only

theorem calWindow_regs {W0 : Nat → Prop} {r0 : State} (s : State) (diff : Nat) (ew : Nat) (eh : Nat) (h_LNK_PMAP : ∀ i, W0 (R.LNK_PMAP i)) (h_LNK_LSTAT : ∀ i, W0 (R.LNK_LSTAT i)) (h_CAL_STAT : W0 R.CAL_STAT) (h_CAL_LQUAL : ∀ i, W0 (R.CAL_LQUAL i)) (h_CAL_LCNT : ∀ i, W0 (R.CAL_LCNT i)) (h_CAL_LFRM : ∀ i, W0 (R.CAL_LFRM i)) (h_CAL_LTIME : ∀ i, W0 (R.CAL_LTIME i)) (h0 : RegsBut W0 r0 s) :
    RegsBut W0 r0 (calWindow s diff ew eh) := by
  unfold calWindow
  repeat' first
    | with_reducible assumption
    | with_reducible apply setTaps_regs
    | with_reducible apply calRun_regs
    | with_reducible apply calDecide_regs
    | split
    | dsimp only

theorem calMatched_regs {W0 : Nat → Prop} {r0 : State} (s : State) (ok : Bool) (h_LNK_PMAP : ∀ i, W0 (R.LNK_PMAP i)) (h_LNK_LSTAT : ∀ i, W0 (R.LNK_LSTAT i)) (h_CAL_STAT : W0 R.CAL_STAT) (h0 : RegsBut W0 r0 s) :
    RegsBut W0 r0 (calMatched s ok) := by
  unfold calMatched
  repeat' first
    | with_reducible assumption
    | with_reducible apply setTaps_regs
    | with_reducible apply calAbort_regs
    | with_reducible apply calRun_regs
    | split

theorem calSwitch_regs {W0 : Nat → Prop} {r0 : State} (s : State) (sof : Bool) (h_LNK_PMAP : ∀ i, W0 (R.LNK_PMAP i)) (h_LNK_LSTAT : ∀ i, W0 (R.LNK_LSTAT i)) (h_CAL_STAT : W0 R.CAL_STAT) (h_CAL_LQUAL : ∀ i, W0 (R.CAL_LQUAL i)) (h_CAL_LCNT : ∀ i, W0 (R.CAL_LCNT i)) (h_CAL_LFRM : ∀ i, W0 (R.CAL_LFRM i)) (h_CAL_LTIME : ∀ i, W0 (R.CAL_LTIME i)) (h0 : RegsBut W0 r0 s) :
    RegsBut W0 r0 (calSwitch s sof) := by
  unfold calSwitch
  repeat' first
    | with_reducible assumption
    | with_reducible apply calComplete_regs
    | split

theorem calBand_regs {W0 : Nat → Prop} {r0 : State} (s : State) (band : Nat) (h0 : RegsBut W0 r0 s) :
    RegsBut W0 r0 (calBand s band) := by
  unfold calBand
  repeat' first
    | with_reducible assumption
    | simp only [RegsBut.cal]
    | split

theorem calTimer_regs {W0 : Nat → Prop} {r0 : State} (s : State) (h0 : RegsBut W0 r0 s) :
    RegsBut W0 r0 (calTimer s) := by
  unfold calTimer
  repeat' first
    | with_reducible assumption
    | simp only [RegsBut.cal]

theorem calNext_regs {W0 : Nat → Prop} {r0 : State} (s : State) (h_LNK_PMAP : ∀ i, W0 (R.LNK_PMAP i)) (h_LNK_LSTAT : ∀ i, W0 (R.LNK_LSTAT i)) (h_TIM_INC : W0 R.TIM_INC) (h_CAL_STAT : W0 R.CAL_STAT) (h0 : RegsBut W0 r0 s) :
    RegsBut W0 r0 (calNext s) := by
  unfold calNext
  repeat' first
    | with_reducible assumption
    | simp only [RegsBut.cal]
    | with_reducible apply calStart_regs
    | with_reducible apply calTimer_regs
    | split

theorem calManual_regs {W0 : Nat → Prop} {r0 : State} (s : State) (h_LNK_PMAP : ∀ i, W0 (R.LNK_PMAP i)) (h_LNK_LSTAT : ∀ i, W0 (R.LNK_LSTAT i)) (h_TIM_INC : W0 R.TIM_INC) (h_CAL_STAT : W0 R.CAL_STAT) (h0 : RegsBut W0 r0 s) :
    RegsBut W0 r0 (calManual s) := by
  unfold calManual
  repeat' first
    | with_reducible assumption
    | with_reducible apply calStart_regs

theorem calDisable_regs {W0 : Nat → Prop} {r0 : State} (s : State) (h_LNK_PMAP : ∀ i, W0 (R.LNK_PMAP i)) (h_LNK_LSTAT : ∀ i, W0 (R.LNK_LSTAT i)) (h_CAL_STAT : W0 R.CAL_STAT) (h0 : RegsBut W0 r0 s) :
    RegsBut W0 r0 (calDisable s) := by
  unfold calDisable
  repeat' first
    | with_reducible assumption
    | with_reducible apply calAbort_regs

theorem standbyRetrain_regs {W0 : Nat → Prop} {r0 : State} (s : State) (c : Nat) (ok : Bool) (l : List LTrain) (h_DRC_LANE : ∀ i j, W0 (R.DRC_LANE i j)) (h_CAL_DCNT : ∀ i, W0 (R.CAL_DCNT i)) (h_CAL_DFRM : ∀ i, W0 (R.CAL_DFRM i)) (h_CAL_DTIME : ∀ i, W0 (R.CAL_DTIME i)) (h0 : RegsBut W0 r0 s) :
    RegsBut W0 r0 (standbyRetrain s c ok l) := by
  unfold standbyRetrain
  repeat' first
    | with_reducible assumption
    | simp only [RegsBut.cal]
    | with_reducible exact h_CAL_DCNT _
    | with_reducible exact h_CAL_DFRM _
    | with_reducible exact h_CAL_DTIME _
    | with_reducible apply setF_regs
    | with_reducible apply incSat_regs
    | with_reducible apply incMod_regs
    | with_reducible apply calTrain_regs
    | with_reducible apply retrackChan_regs
    | split

theorem calSave_regs {W0 : Nat → Prop} {r0 : State} (s : State) (h_NVM_STAT : W0 R.NVM_STAT) (h0 : RegsBut W0 r0 s) :
    RegsBut W0 r0 (calSave s) := by
  unfold calSave
  repeat' first
    | with_reducible assumption
    | simp only [RegsBut.cal]
    | with_reducible apply flashPush_regs
    | split

theorem calBlockReset_regs {W0 : Nat → Prop} {r0 : State} (s : State) (h_r0x150000 : ∀ off, 0x150000 ≤ off → off < 0x160000 → W0 off) (h_LNK_PMAP : ∀ i, W0 (R.LNK_PMAP i)) (h_LNK_LSTAT : ∀ i, W0 (R.LNK_LSTAT i)) (h_CAL_STAT : W0 R.CAL_STAT) (h0 : RegsBut W0 r0 s) :
    RegsBut W0 r0 (calBlockReset s) := by
  unfold calBlockReset
  repeat' first
    | with_reducible assumption
    | simp only [RegsBut.cal]
    | with_reducible assumption
    | with_reducible apply resetRegs_regs
    | with_reducible apply calAbort_regs

theorem trackStep_regs {W0 : Nat → Prop} {r0 : State} (s : State) (osc : List Nat) (h_DRC_LANE : ∀ i j, W0 (R.DRC_LANE i j)) (h0 : RegsBut W0 r0 s) :
    RegsBut W0 r0 (trackStep s osc) := by
  unfold trackStep
  repeat' first
    | with_reducible assumption
    | simp only [RegsBut.cal]
    | with_reducible apply trackChan_regs
    | with_reducible apply RegsBut.foldl
    | split
    | dsimp only
    | with_reducible intro _

theorem execDramTrackStep_regs {W0 : Nat → Prop} {r0 : State} (dt : Nat) (osc : List Nat) (s : State) (h_pba : ∀ k, W0 (0x38000 + 4 * (k % 64))) (h_GLB_EVTOVF : W0 R.GLB_EVTOVF) (h_SOR_GSTAT : W0 R.SOR_GSTAT) (h_CHN_PERR : ∀ i, W0 (R.CHN_PERR i)) (h_DRC_LANE : ∀ i j, W0 (R.DRC_LANE i j)) {t0 : State} (h0 : RegsBut W0 r0 s) (ht : execDramTrackStep dt osc s = .next t0) :
    RegsBut W0 r0 t0 := by
  unfold execDramTrackStep at ht
  apply whenOn_regs (ht := ht)
  repeat' first
    | with_reducible assumption
    | with_reducible apply advance_regs
    | with_reducible apply trackStep_regs
    | split
    | dsimp only
    | with_reducible intro _

theorem execStandbyRetrain_regs {W0 : Nat → Prop} {r0 : State} (dt : Nat) (c : Nat) (ok : Bool) (l : List LTrain) (s : State) (h_pba : ∀ k, W0 (0x38000 + 4 * (k % 64))) (h_GLB_EVTOVF : W0 R.GLB_EVTOVF) (h_SOR_GSTAT : W0 R.SOR_GSTAT) (h_CHN_PERR : ∀ i, W0 (R.CHN_PERR i)) (h_DRC_LANE : ∀ i j, W0 (R.DRC_LANE i j)) (h_CAL_DCNT : ∀ i, W0 (R.CAL_DCNT i)) (h_CAL_DFRM : ∀ i, W0 (R.CAL_DFRM i)) (h_CAL_DTIME : ∀ i, W0 (R.CAL_DTIME i)) {t0 : State} (h0 : RegsBut W0 r0 s) (ht : execStandbyRetrain dt c ok l s = .next t0) :
    RegsBut W0 r0 t0 := by
  unfold execStandbyRetrain at ht
  apply whenOn_regs (ht := ht)
  repeat' first
    | with_reducible assumption
    | with_reducible apply advance_regs
    | with_reducible apply standbyRetrain_regs
    | split
    | dsimp only
    | with_reducible intro _

theorem execRecalStart_regs {W0 : Nat → Prop} {r0 : State} (dt : Nat) (s : State) (h_pba : ∀ k, W0 (0x38000 + 4 * (k % 64))) (h_GLB_EVTOVF : W0 R.GLB_EVTOVF) (h_SOR_GSTAT : W0 R.SOR_GSTAT) (h_CHN_PERR : ∀ i, W0 (R.CHN_PERR i)) (h_LNK_PMAP : ∀ i, W0 (R.LNK_PMAP i)) (h_LNK_LSTAT : ∀ i, W0 (R.LNK_LSTAT i)) (h_TIM_INC : W0 R.TIM_INC) (h_CAL_STAT : W0 R.CAL_STAT) {t0 : State} (h0 : RegsBut W0 r0 s) (ht : execRecalStart dt s = .next t0) :
    RegsBut W0 r0 t0 := by
  unfold execRecalStart at ht
  apply whenOn_regs (ht := ht)
  repeat' first
    | with_reducible assumption
    | with_reducible apply advance_regs
    | with_reducible apply calNext_regs
    | split
    | dsimp only
    | with_reducible intro _

theorem execRecalPannierMatched_regs {W0 : Nat → Prop} {r0 : State} (s : State) (h_LNK_PMAP : ∀ i, W0 (R.LNK_PMAP i)) (h_LNK_LSTAT : ∀ i, W0 (R.LNK_LSTAT i)) {t0 : State} (h0 : RegsBut W0 r0 s) (ht : execRecalPannierMatched s = .next t0) :
    RegsBut W0 r0 t0 := by
  unfold execRecalPannierMatched at ht
  apply whenOn_regs (ht := ht)
  repeat' first
    | with_reducible assumption
    | with_reducible apply calPannier_regs
    | split
    | dsimp only
    | with_reducible intro _

theorem execRecalMeasureWindow_regs {W0 : Nat → Prop} {r0 : State} (dt : Nat) (diff : Nat) (ew : Nat) (eh : Nat) (s : State) (h_pba : ∀ k, W0 (0x38000 + 4 * (k % 64))) (h_GLB_EVTOVF : W0 R.GLB_EVTOVF) (h_SOR_GSTAT : W0 R.SOR_GSTAT) (h_CHN_PERR : ∀ i, W0 (R.CHN_PERR i)) (h_LNK_PMAP : ∀ i, W0 (R.LNK_PMAP i)) (h_LNK_LSTAT : ∀ i, W0 (R.LNK_LSTAT i)) (h_CAL_STAT : W0 R.CAL_STAT) (h_CAL_LQUAL : ∀ i, W0 (R.CAL_LQUAL i)) (h_CAL_LCNT : ∀ i, W0 (R.CAL_LCNT i)) (h_CAL_LFRM : ∀ i, W0 (R.CAL_LFRM i)) (h_CAL_LTIME : ∀ i, W0 (R.CAL_LTIME i)) {t0 : State} (h0 : RegsBut W0 r0 s) (ht : execRecalMeasureWindow dt diff ew eh s = .next t0) :
    RegsBut W0 r0 t0 := by
  unfold execRecalMeasureWindow at ht
  apply whenOn_regs (ht := ht)
  repeat' first
    | with_reducible assumption
    | with_reducible apply advance_regs
    | with_reducible apply calWindow_regs
    | split
    | dsimp only
    | with_reducible intro _

theorem execRecalLaneMatched_regs {W0 : Nat → Prop} {r0 : State} (ok : Bool) (s : State) (h_LNK_PMAP : ∀ i, W0 (R.LNK_PMAP i)) (h_LNK_LSTAT : ∀ i, W0 (R.LNK_LSTAT i)) (h_CAL_STAT : W0 R.CAL_STAT) {t0 : State} (h0 : RegsBut W0 r0 s) (ht : execRecalLaneMatched ok s = .next t0) :
    RegsBut W0 r0 t0 := by
  unfold execRecalLaneMatched at ht
  apply whenOn_regs (ht := ht)
  repeat' first
    | with_reducible assumption
    | with_reducible apply calMatched_regs
    | split
    | dsimp only
    | with_reducible intro _

theorem execRecalSwitchBack_regs {W0 : Nat → Prop} {r0 : State} (dt : Nat) (sof : Bool) (s : State) (h_pba : ∀ k, W0 (0x38000 + 4 * (k % 64))) (h_GLB_EVTOVF : W0 R.GLB_EVTOVF) (h_SOR_GSTAT : W0 R.SOR_GSTAT) (h_CHN_PERR : ∀ i, W0 (R.CHN_PERR i)) (h_LNK_PMAP : ∀ i, W0 (R.LNK_PMAP i)) (h_LNK_LSTAT : ∀ i, W0 (R.LNK_LSTAT i)) (h_CAL_STAT : W0 R.CAL_STAT) (h_CAL_LQUAL : ∀ i, W0 (R.CAL_LQUAL i)) (h_CAL_LCNT : ∀ i, W0 (R.CAL_LCNT i)) (h_CAL_LFRM : ∀ i, W0 (R.CAL_LFRM i)) (h_CAL_LTIME : ∀ i, W0 (R.CAL_LTIME i)) {t0 : State} (h0 : RegsBut W0 r0 s) (ht : execRecalSwitchBack dt sof s = .next t0) :
    RegsBut W0 r0 t0 := by
  unfold execRecalSwitchBack at ht
  apply whenOn_regs (ht := ht)
  repeat' first
    | with_reducible assumption
    | with_reducible apply advance_regs
    | with_reducible apply calSwitch_regs
    | split
    | dsimp only
    | with_reducible intro _

theorem execRecalAbort_regs {W0 : Nat → Prop} {r0 : State} (c : Status) (s : State) (h_LNK_PMAP : ∀ i, W0 (R.LNK_PMAP i)) (h_LNK_LSTAT : ∀ i, W0 (R.LNK_LSTAT i)) (h_CAL_STAT : W0 R.CAL_STAT) {t0 : State} (h0 : RegsBut W0 r0 s) (ht : execRecalAbort c s = .next t0) :
    RegsBut W0 r0 t0 := by
  unfold execRecalAbort at ht
  apply whenOn_regs (ht := ht)
  repeat' first
    | with_reducible assumption
    | with_reducible apply calAbort_regs
    | split
    | dsimp only
    | with_reducible intro _

theorem execCalSetSave_regs {W0 : Nat → Prop} {r0 : State} (dt : Nat) (s : State) (h_pba : ∀ k, W0 (0x38000 + 4 * (k % 64))) (h_GLB_EVTOVF : W0 R.GLB_EVTOVF) (h_SOR_GSTAT : W0 R.SOR_GSTAT) (h_CHN_PERR : ∀ i, W0 (R.CHN_PERR i)) (h_NVM_STAT : W0 R.NVM_STAT) {t0 : State} (h0 : RegsBut W0 r0 s) (ht : execCalSetSave dt s = .next t0) :
    RegsBut W0 r0 t0 := by
  unfold execCalSetSave at ht
  apply whenOn_regs (ht := ht)
  repeat' first
    | with_reducible assumption
    | with_reducible apply advance_regs
    | with_reducible apply calSave_regs
    | split
    | dsimp only
    | with_reducible intro _

end Sys2Proof.Machine
end

