-- ==== Sys2Proof/Laws/RegsThm.lean ====
section
/-! SUPPORT. Which registers each operation of Machine/Thm.lean may write. -/

namespace Sys2Proof.Machine

theorem sampleOne_regs {W0 : Nat → Prop} {r0 : State} (s : State) (n : Nat) (v : Int) (bad : Bool) (h_pba : ∀ k, W0 (0x38000 + 4 * (k % 64))) (h_GLB_EVTOVF : W0 R.GLB_EVTOVF) (h_CHN_PERR : ∀ i, W0 (R.CHN_PERR i)) (h_THM_FAIL : W0 R.THM_FAIL) (h_THM_OD : ∀ i, W0 (R.THM_OD i)) (h_THM_TD : ∀ i, W0 (R.THM_TD i)) (h0 : RegsBut W0 r0 s) :
    RegsBut W0 r0 (sampleOne s n v bad).2 := by
  unfold sampleOne
  repeat' first
    | with_reducible assumption
    | simp only [RegsBut.thm]
    | with_reducible exact h_THM_FAIL
    | with_reducible exact h_THM_OD _
    | with_reducible exact h_THM_TD _
    | with_reducible apply setWord_regs
    | with_reducible apply setF_regs
    | with_reducible apply raise_regs
    | with_reducible apply RegsBut.foldl
    | with_reducible apply RegsBut.snd
    | with_reducible apply RegsBut.snd2
    | with_reducible apply RegsBut.fst
    | with_reducible apply RegsBut.foldl_snd
    | with_reducible apply RegsBut.foldl_snd2
    | with_reducible apply RegsBut.foldl_fst
    | with_reducible refine RegsBut.of_fst (by with_reducible assumption) ?_
    | with_reducible refine RegsBut.of_snd (by with_reducible assumption) ?_
    | with_reducible refine RegsBut.of_snd2 (by with_reducible assumption) ?_
    | with_reducible (unfold tempFld; split_ifs <;> solve_by_elim)
    | split

theorem sampleOd_regs {W0 : Nat → Prop} {r0 : State} (s : State) (k : Nat) (v : Int) (h_pba : ∀ k, W0 (0x38000 + 4 * (k % 64))) (h_GLB_EVTOVF : W0 R.GLB_EVTOVF) (h_CHN_PERR : ∀ i, W0 (R.CHN_PERR i)) (h_THM_FAIL : W0 R.THM_FAIL) (h_THM_OD : ∀ i, W0 (R.THM_OD i)) (h_THM_TD : ∀ i, W0 (R.THM_TD i)) (h0 : RegsBut W0 r0 s) :
    RegsBut W0 r0 (sampleOd s k v).2 := by
  unfold sampleOd
  repeat' first
    | with_reducible assumption
    | simp only [RegsBut.thm]
    | with_reducible apply sampleOne_regs

theorem sampleTd_regs {W0 : Nat → Prop} {r0 : State} (s : State) (z : Nat) (v : Int) (mv : Nat) (h_pba : ∀ k, W0 (0x38000 + 4 * (k % 64))) (h_GLB_EVTOVF : W0 R.GLB_EVTOVF) (h_CHN_PERR : ∀ i, W0 (R.CHN_PERR i)) (h_THM_FAIL : W0 R.THM_FAIL) (h_THM_OD : ∀ i, W0 (R.THM_OD i)) (h_THM_TD : ∀ i, W0 (R.THM_TD i)) (h0 : RegsBut W0 r0 s) :
    RegsBut W0 r0 (sampleTd s z v mv).2 := by
  unfold sampleTd
  repeat' first
    | with_reducible assumption
    | simp only [RegsBut.thm]
    | with_reducible apply sampleOne_regs
    | split

theorem thmJunction_regs {W0 : Nat → Prop} {r0 : State} (s : State) (h_THM_STAT : W0 R.THM_STAT) (h0 : RegsBut W0 r0 s) :
    RegsBut W0 r0 (thmJunction s) := by
  unfold thmJunction
  repeat' first
    | with_reducible assumption
    | simp only [RegsBut.thm]
    | with_reducible exact h_THM_STAT
    | with_reducible apply setF_regs
    | with_reducible apply drawNat_regs
    | with_reducible apply RegsBut.foldl
    | with_reducible refine RegsBut.of_snd (by with_reducible assumption) ?_
    | with_reducible refine RegsBut.of_snd2 (by with_reducible assumption) ?_
    | split

theorem thmBandShow_regs {W0 : Nat → Prop} {r0 : State} (s : State) (h_pba : ∀ k, W0 (0x38000 + 4 * (k % 64))) (h_GLB_EVTOVF : W0 R.GLB_EVTOVF) (h_CHN_PERR : ∀ i, W0 (R.CHN_PERR i)) (h_DRC_CFG : W0 R.DRC_CFG) (h_THM_STAT : W0 R.THM_STAT) (h0 : RegsBut W0 r0 s) :
    RegsBut W0 r0 (thmBandShow s) := by
  unfold thmBandShow
  repeat' first
    | with_reducible assumption
    | simp only [RegsBut.thm]
    | with_reducible exact h_THM_STAT
    | with_reducible apply setF_regs
    | with_reducible apply raise_regs
    | with_reducible apply drcBand_regs
    | with_reducible apply calBand_regs
    | split

theorem powerShow_regs {W0 : Nat → Prop} {r0 : State} (s : State) (h_THM_PWR : W0 R.THM_PWR) (h0 : RegsBut W0 r0 s) :
    RegsBut W0 r0 (powerShow s) := by
  unfold powerShow
  repeat' first
    | with_reducible assumption
    | with_reducible exact h_THM_PWR
    | with_reducible apply setF_regs

theorem displayOff_regs {W0 : Nat → Prop} {r0 : State} (s : State) (h_pba : ∀ k, W0 (0x38000 + 4 * (k % 64))) (h_QUE_STAT : ∀ i, W0 (R.QUE_STAT i)) (h_QUE_RET : ∀ i, W0 (R.QUE_RET i)) (h_SRF_STAT : W0 R.SRF_STAT) (h_SRF_FREEPG : W0 R.SRF_FREEPG) (h_SRF_RETIRED : W0 R.SRF_RETIRED) (h_SPK_SPKSTAT : ∀ i, W0 (R.SPK_SPKSTAT i)) (h0 : RegsBut W0 r0 s) :
    RegsBut W0 r0 (displayOff s) := by
  unfold displayOff
  repeat' first
    | with_reducible assumption
    | simp only [RegsBut.lmp]
    | with_reducible apply engineStop_regs
    | with_reducible apply showsEnd_regs
    | with_reducible apply spokesDark_regs

theorem powerEffect_regs {W0 : Nat → Prop} {r0 : State} (s : State) (a : Nat) (b : Nat) (h_pba : ∀ k, W0 (0x38000 + 4 * (k % 64))) (h_GLB_EVTOVF : W0 R.GLB_EVTOVF) (h_QUE_STAT : ∀ i, W0 (R.QUE_STAT i)) (h_QUE_RET : ∀ i, W0 (R.QUE_RET i)) (h_SRF_STAT : W0 R.SRF_STAT) (h_SRF_FREEPG : W0 R.SRF_FREEPG) (h_SRF_RETIRED : W0 R.SRF_RETIRED) (h_CHN_PERR : ∀ i, W0 (R.CHN_PERR i)) (h_LNK_PSTAT : ∀ i, W0 (R.LNK_PSTAT i)) (h_LNK_PMAP : ∀ i, W0 (R.LNK_PMAP i)) (h_LNK_PCNT : ∀ i, W0 (R.LNK_PCNT i)) (h_LNK_LCTL : ∀ i, W0 (R.LNK_LCTL i)) (h_LNK_LSTAT : ∀ i, W0 (R.LNK_LSTAT i)) (h_LNK_LPRBS : ∀ i, W0 (R.LNK_LPRBS i)) (h_TAN_TSTAT : W0 R.TAN_TSTAT) (h_SPK_CTL : W0 R.SPK_CTL) (h_SPK_SPKSTAT : ∀ i, W0 (R.SPK_SPKSTAT i)) (h_DRC_HAZSTAT : W0 R.DRC_HAZSTAT) (h_DRC_CHSTAT : ∀ i, W0 (R.DRC_CHSTAT i)) (h_CAL_STAT : W0 R.CAL_STAT) (h_SEC_STAT : W0 R.SEC_STAT) (h0 : RegsBut W0 r0 s) :
    RegsBut W0 r0 (powerEffect s a b) := by
  unfold powerEffect
  repeat' first
    | with_reducible assumption
    | simp only [RegsBut.cal]
    | with_reducible apply leaveSelfRef_regs
    | with_reducible apply selfRefEntry_regs
    | with_reducible apply setStage_regs
    | with_reducible apply portDown_regs
    | with_reducible apply lctlReset_regs
    | with_reducible apply toDetect_regs
    | with_reducible apply intervalClose_regs
    | with_reducible apply spkEnable_regs
    | with_reducible apply displayOff_regs
    | with_reducible apply RegsBut.foldl
    | split
    | dsimp only
    | with_reducible intro _

theorem powerMove_regs {W0 : Nat → Prop} {r0 : State} (s : State) (h_pba : ∀ k, W0 (0x38000 + 4 * (k % 64))) (h_GLB_EVTOVF : W0 R.GLB_EVTOVF) (h_QUE_STAT : ∀ i, W0 (R.QUE_STAT i)) (h_QUE_RET : ∀ i, W0 (R.QUE_RET i)) (h_SRF_STAT : W0 R.SRF_STAT) (h_SRF_FREEPG : W0 R.SRF_FREEPG) (h_SRF_RETIRED : W0 R.SRF_RETIRED) (h_CHN_PERR : ∀ i, W0 (R.CHN_PERR i)) (h_LNK_PSTAT : ∀ i, W0 (R.LNK_PSTAT i)) (h_LNK_PMAP : ∀ i, W0 (R.LNK_PMAP i)) (h_LNK_PCNT : ∀ i, W0 (R.LNK_PCNT i)) (h_LNK_LCTL : ∀ i, W0 (R.LNK_LCTL i)) (h_LNK_LSTAT : ∀ i, W0 (R.LNK_LSTAT i)) (h_LNK_LPRBS : ∀ i, W0 (R.LNK_LPRBS i)) (h_TAN_TSTAT : W0 R.TAN_TSTAT) (h_SPK_CTL : W0 R.SPK_CTL) (h_SPK_SPKSTAT : ∀ i, W0 (R.SPK_SPKSTAT i)) (h_DRC_HAZSTAT : W0 R.DRC_HAZSTAT) (h_DRC_CHSTAT : ∀ i, W0 (R.DRC_CHSTAT i)) (h_THM_PWR : W0 R.THM_PWR) (h_CAL_STAT : W0 R.CAL_STAT) (h_SEC_STAT : W0 R.SEC_STAT) (h0 : RegsBut W0 r0 s) :
    RegsBut W0 r0 (powerMove s) := by
  unfold powerMove
  repeat' first
    | with_reducible assumption
    | with_reducible exact h_THM_PWR
    | with_reducible apply setF_regs
    | with_reducible apply raise_regs
    | with_reducible apply lampDrop_regs
    | with_reducible apply powerShow_regs
    | with_reducible apply powerEffect_regs
    | split
    | dsimp only

theorem thmForce_regs {W0 : Nat → Prop} {r0 : State} (s : State) (h_pba : ∀ k, W0 (0x38000 + 4 * (k % 64))) (h_GLB_EVTOVF : W0 R.GLB_EVTOVF) (h_QUE_STAT : ∀ i, W0 (R.QUE_STAT i)) (h_QUE_RET : ∀ i, W0 (R.QUE_RET i)) (h_SRF_STAT : W0 R.SRF_STAT) (h_SRF_FREEPG : W0 R.SRF_FREEPG) (h_SRF_RETIRED : W0 R.SRF_RETIRED) (h_CHN_PERR : ∀ i, W0 (R.CHN_PERR i)) (h_LNK_PSTAT : ∀ i, W0 (R.LNK_PSTAT i)) (h_LNK_PMAP : ∀ i, W0 (R.LNK_PMAP i)) (h_LNK_PCNT : ∀ i, W0 (R.LNK_PCNT i)) (h_LNK_LCTL : ∀ i, W0 (R.LNK_LCTL i)) (h_LNK_LSTAT : ∀ i, W0 (R.LNK_LSTAT i)) (h_LNK_LPRBS : ∀ i, W0 (R.LNK_LPRBS i)) (h_TAN_TSTAT : W0 R.TAN_TSTAT) (h_SPK_CTL : W0 R.SPK_CTL) (h_SPK_SPKSTAT : ∀ i, W0 (R.SPK_SPKSTAT i)) (h_DRC_HAZSTAT : W0 R.DRC_HAZSTAT) (h_DRC_CHSTAT : ∀ i, W0 (R.DRC_CHSTAT i)) (h_THM_PWR : W0 R.THM_PWR) (h_CAL_STAT : W0 R.CAL_STAT) (h_SEC_STAT : W0 R.SEC_STAT) (h0 : RegsBut W0 r0 s) :
    RegsBut W0 r0 (thmForce s) := by
  unfold thmForce
  repeat' first
    | with_reducible assumption
    | simp only [RegsBut.thm]
    | with_reducible exact h_THM_PWR
    | with_reducible apply setF_regs
    | with_reducible apply powerShow_regs
    | with_reducible apply powerMove_regs
    | split

theorem thmStepShow_regs {W0 : Nat → Prop} {r0 : State} (s : State) (h_THM_STAT : W0 R.THM_STAT) (h0 : RegsBut W0 r0 s) :
    RegsBut W0 r0 (thmStepShow s) := by
  unfold thmStepShow
  repeat' first
    | with_reducible assumption
    | with_reducible exact h_THM_STAT
    | with_reducible apply setF_regs

theorem stepReport_regs {W0 : Nat → Prop} {r0 : State} (s : State) (up : Bool) (h_pba : ∀ k, W0 (0x38000 + 4 * (k % 64))) (h_GLB_YIELDCNT : W0 R.GLB_YIELDCNT) (h_GLB_YIELDLAST : W0 R.GLB_YIELDLAST) (h_GLB_YIELDFRM : W0 R.GLB_YIELDFRM) (h_GLB_EVTOVF : W0 R.GLB_EVTOVF) (h_CHN_PERR : ∀ i, W0 (R.CHN_PERR i)) (h_THM_STAT : W0 R.THM_STAT) (h0 : RegsBut W0 r0 s) :
    RegsBut W0 r0 (stepReport s up) := by
  unfold stepReport
  repeat' first
    | with_reducible assumption
    | with_reducible apply raise_regs
    | with_reducible apply yield_regs
    | with_reducible apply thmStepShow_regs

theorem stepDown_regs {W0 : Nat → Prop} {r0 : State} (s : State) (h_pba : ∀ k, W0 (0x38000 + 4 * (k % 64))) (h_GLB_YIELDCNT : W0 R.GLB_YIELDCNT) (h_GLB_YIELDLAST : W0 R.GLB_YIELDLAST) (h_GLB_YIELDFRM : W0 R.GLB_YIELDFRM) (h_GLB_EVTOVF : W0 R.GLB_EVTOVF) (h_CHN_PERR : ∀ i, W0 (R.CHN_PERR i)) (h_LMP_CEIL : W0 R.LMP_CEIL) (h_THM_STAT : W0 R.THM_STAT) (h0 : RegsBut W0 r0 s) :
    RegsBut W0 r0 (stepDown s) := by
  unfold stepDown
  repeat' first
    | with_reducible assumption
    | simp only [RegsBut.cmp]
    | with_reducible exact h_LMP_CEIL
    | with_reducible apply setF_regs
    | with_reducible apply stepReport_regs
    | split

theorem stepUp_regs {W0 : Nat → Prop} {r0 : State} (s : State) (h_pba : ∀ k, W0 (0x38000 + 4 * (k % 64))) (h_GLB_YIELDCNT : W0 R.GLB_YIELDCNT) (h_GLB_YIELDLAST : W0 R.GLB_YIELDLAST) (h_GLB_YIELDFRM : W0 R.GLB_YIELDFRM) (h_GLB_EVTOVF : W0 R.GLB_EVTOVF) (h_CHN_PERR : ∀ i, W0 (R.CHN_PERR i)) (h_LMP_CEIL : W0 R.LMP_CEIL) (h_THM_STAT : W0 R.THM_STAT) (h0 : RegsBut W0 r0 s) :
    RegsBut W0 r0 (stepUp s) := by
  unfold stepUp
  repeat' first
    | with_reducible assumption
    | simp only [RegsBut.cmp]
    | with_reducible exact h_LMP_CEIL
    | with_reducible apply setF_regs
    | with_reducible apply stepReport_regs
    | split

theorem thmCopies_regs {W0 : Nat → Prop} {r0 : State} (s : State) (h_THM_OD : ∀ i, W0 (R.THM_OD i)) (h_THM_TD : ∀ i, W0 (R.THM_TD i)) (h0 : RegsBut W0 r0 s) :
    RegsBut W0 r0 (thmCopies s) := by
  unfold thmCopies
  repeat' first
    | with_reducible assumption
    | with_reducible exact h_THM_OD _
    | with_reducible exact h_THM_TD _
    | with_reducible apply setF_regs
    | with_reducible apply RegsBut.foldl
    | split
    | dsimp only
    | with_reducible intro _

theorem stepDowns_regs {W0 : Nat → Prop} {r0 : State} (h_pba : ∀ k, W0 (0x38000 + 4 * (k % 64))) (h_GLB_YIELDCNT : W0 R.GLB_YIELDCNT) (h_GLB_YIELDLAST : W0 R.GLB_YIELDLAST) (h_GLB_YIELDFRM : W0 R.GLB_YIELDFRM) (h_GLB_EVTOVF : W0 R.GLB_EVTOVF) (h_CHN_PERR : ∀ i, W0 (R.CHN_PERR i)) (h_LMP_CEIL : W0 R.LMP_CEIL) (h_THM_STAT : W0 R.THM_STAT) (y0 : Nat) (y1 : State)
    (h0 : RegsBut W0 r0 y1) :
    RegsBut W0 r0 (stepDowns y0 y1) := by
  induction y0 generalizing y1 with
  | zero =>
    unfold stepDowns
    repeat' first
      | with_reducible assumption
  | succ y0 ih =>
    unfold stepDowns
    repeat' first
      | with_reducible assumption
      | with_reducible apply ih
      | with_reducible apply stepDown_regs

theorem thmEval_regs {W0 : Nat → Prop} {r0 : State} (s : State) (fails : Nat) (h_pba : ∀ k, W0 (0x38000 + 4 * (k % 64))) (h_GLB_YIELDCNT : W0 R.GLB_YIELDCNT) (h_GLB_YIELDLAST : W0 R.GLB_YIELDLAST) (h_GLB_YIELDFRM : W0 R.GLB_YIELDFRM) (h_GLB_EVTOVF : W0 R.GLB_EVTOVF) (h_QUE_STAT : ∀ i, W0 (R.QUE_STAT i)) (h_QUE_RET : ∀ i, W0 (R.QUE_RET i)) (h_SRF_STAT : W0 R.SRF_STAT) (h_SRF_FREEPG : W0 R.SRF_FREEPG) (h_SRF_RETIRED : W0 R.SRF_RETIRED) (h_CHN_PERR : ∀ i, W0 (R.CHN_PERR i)) (h_LNK_PSTAT : ∀ i, W0 (R.LNK_PSTAT i)) (h_LNK_PMAP : ∀ i, W0 (R.LNK_PMAP i)) (h_LNK_PCNT : ∀ i, W0 (R.LNK_PCNT i)) (h_LNK_LCTL : ∀ i, W0 (R.LNK_LCTL i)) (h_LNK_LSTAT : ∀ i, W0 (R.LNK_LSTAT i)) (h_LNK_LPRBS : ∀ i, W0 (R.LNK_LPRBS i)) (h_TAN_TSTAT : W0 R.TAN_TSTAT) (h_LMP_CEIL : W0 R.LMP_CEIL) (h_SPK_CTL : W0 R.SPK_CTL) (h_SPK_SPKSTAT : ∀ i, W0 (R.SPK_SPKSTAT i)) (h_DRC_CFG : W0 R.DRC_CFG) (h_DRC_HAZSTAT : W0 R.DRC_HAZSTAT) (h_DRC_CHSTAT : ∀ i, W0 (R.DRC_CHSTAT i)) (h_THM_STAT : W0 R.THM_STAT) (h_THM_PWR : W0 R.THM_PWR) (h_THM_OD : ∀ i, W0 (R.THM_OD i)) (h_THM_TD : ∀ i, W0 (R.THM_TD i)) (h_CAL_STAT : W0 R.CAL_STAT) (h_SEC_STAT : W0 R.SEC_STAT) (h0 : RegsBut W0 r0 s) :
    RegsBut W0 r0 (thmEval s fails) := by
  unfold thmEval
  repeat' first
    | with_reducible assumption
    | simp only [RegsBut.thm]
    | with_reducible exact h_THM_STAT
    | with_reducible apply setF_regs
    | with_reducible apply thmJunction_regs
    | with_reducible apply thmBandShow_regs
    | with_reducible apply thmForce_regs
    | with_reducible apply thmStepShow_regs
    | with_reducible apply thmCopies_regs
    | with_reducible apply stepDowns_regs

theorem sensorSample_regs {W0 : Nat → Prop} {r0 : State} (s : State) (od : List Int) (td : List (Int × Nat)) (h_pba : ∀ k, W0 (0x38000 + 4 * (k % 64))) (h_GLB_YIELDCNT : W0 R.GLB_YIELDCNT) (h_GLB_YIELDLAST : W0 R.GLB_YIELDLAST) (h_GLB_YIELDFRM : W0 R.GLB_YIELDFRM) (h_GLB_EVTOVF : W0 R.GLB_EVTOVF) (h_QUE_STAT : ∀ i, W0 (R.QUE_STAT i)) (h_QUE_RET : ∀ i, W0 (R.QUE_RET i)) (h_SRF_STAT : W0 R.SRF_STAT) (h_SRF_FREEPG : W0 R.SRF_FREEPG) (h_SRF_RETIRED : W0 R.SRF_RETIRED) (h_CHN_PERR : ∀ i, W0 (R.CHN_PERR i)) (h_LNK_PSTAT : ∀ i, W0 (R.LNK_PSTAT i)) (h_LNK_PMAP : ∀ i, W0 (R.LNK_PMAP i)) (h_LNK_PCNT : ∀ i, W0 (R.LNK_PCNT i)) (h_LNK_LCTL : ∀ i, W0 (R.LNK_LCTL i)) (h_LNK_LSTAT : ∀ i, W0 (R.LNK_LSTAT i)) (h_LNK_LPRBS : ∀ i, W0 (R.LNK_LPRBS i)) (h_TAN_TSTAT : W0 R.TAN_TSTAT) (h_LMP_CEIL : W0 R.LMP_CEIL) (h_SPK_CTL : W0 R.SPK_CTL) (h_SPK_SPKSTAT : ∀ i, W0 (R.SPK_SPKSTAT i)) (h_DRC_CFG : W0 R.DRC_CFG) (h_DRC_HAZSTAT : W0 R.DRC_HAZSTAT) (h_DRC_CHSTAT : ∀ i, W0 (R.DRC_CHSTAT i)) (h_THM_STAT : W0 R.THM_STAT) (h_THM_FAIL : W0 R.THM_FAIL) (h_THM_PWR : W0 R.THM_PWR) (h_THM_OD : ∀ i, W0 (R.THM_OD i)) (h_THM_TD : ∀ i, W0 (R.THM_TD i)) (h_CAL_STAT : W0 R.CAL_STAT) (h_SEC_STAT : W0 R.SEC_STAT) (h0 : RegsBut W0 r0 s) :
    RegsBut W0 r0 (sensorSample s od td) := by
  unfold sensorSample
  repeat' first
    | with_reducible assumption
    | simp only [RegsBut.thm]
    | with_reducible apply sampleOd_regs
    | with_reducible apply sampleTd_regs
    | with_reducible apply thmEval_regs
    | with_reducible apply RegsBut.foldl
    | with_reducible apply RegsBut.snd
    | with_reducible apply RegsBut.snd2
    | with_reducible apply RegsBut.fst
    | with_reducible apply RegsBut.foldl_snd
    | with_reducible apply RegsBut.foldl_snd2
    | with_reducible apply RegsBut.foldl_fst
    | with_reducible refine RegsBut.of_fst (by with_reducible assumption) ?_
    | with_reducible refine RegsBut.of_snd (by with_reducible assumption) ?_
    | with_reducible refine RegsBut.of_snd2 (by with_reducible assumption) ?_
    | split
    | dsimp only
    | with_reducible intro _

theorem gridStep_regs {W0 : Nat → Prop} {r0 : State} (s : State) (h_pba : ∀ k, W0 (0x38000 + 4 * (k % 64))) (h_GLB_YIELDCNT : W0 R.GLB_YIELDCNT) (h_GLB_YIELDLAST : W0 R.GLB_YIELDLAST) (h_GLB_YIELDFRM : W0 R.GLB_YIELDFRM) (h_GLB_EVTOVF : W0 R.GLB_EVTOVF) (h_CHN_PERR : ∀ i, W0 (R.CHN_PERR i)) (h_LMP_CEIL : W0 R.LMP_CEIL) (h_THM_STAT : W0 R.THM_STAT) (h0 : RegsBut W0 r0 s) :
    RegsBut W0 r0 (gridStep s) := by
  unfold gridStep
  repeat' first
    | with_reducible assumption
    | simp only [RegsBut.thm]
    | with_reducible apply stepDown_regs
    | split

theorem upStep_regs {W0 : Nat → Prop} {r0 : State} (s : State) (h_pba : ∀ k, W0 (0x38000 + 4 * (k % 64))) (h_GLB_YIELDCNT : W0 R.GLB_YIELDCNT) (h_GLB_YIELDLAST : W0 R.GLB_YIELDLAST) (h_GLB_YIELDFRM : W0 R.GLB_YIELDFRM) (h_GLB_EVTOVF : W0 R.GLB_EVTOVF) (h_CHN_PERR : ∀ i, W0 (R.CHN_PERR i)) (h_LMP_CEIL : W0 R.LMP_CEIL) (h_THM_STAT : W0 R.THM_STAT) (h0 : RegsBut W0 r0 s) :
    RegsBut W0 r0 (upStep s) := by
  unfold upStep
  repeat' first
    | with_reducible assumption
    | simp only [RegsBut.thm]
    | with_reducible apply stepUp_regs
    | split

theorem shutStart_regs {W0 : Nat → Prop} {r0 : State} (s : State) (cause : Nat) (h_pba : ∀ k, W0 (0x38000 + 4 * (k % 64))) (h_GLB_EVTOVF : W0 R.GLB_EVTOVF) (h_QUE_STAT : ∀ i, W0 (R.QUE_STAT i)) (h_QUE_RET : ∀ i, W0 (R.QUE_RET i)) (h_SRF_STAT : W0 R.SRF_STAT) (h_SRF_FREEPG : W0 R.SRF_FREEPG) (h_SRF_RETIRED : W0 R.SRF_RETIRED) (h_CHN_PERR : ∀ i, W0 (R.CHN_PERR i)) (h_SPK_SPKSTAT : ∀ i, W0 (R.SPK_SPKSTAT i)) (h0 : RegsBut W0 r0 s) :
    RegsBut W0 r0 (shutStart s cause) := by
  unfold shutStart
  repeat' first
    | with_reducible assumption
    | simp only [RegsBut.thm]
    | with_reducible apply raise_regs
    | with_reducible apply displayOff_regs
    | split

theorem t5Step_regs {W0 : Nat → Prop} {r0 : State} (s : State) (h_pba : ∀ k, W0 (0x38000 + 4 * (k % 64))) (h_GLB_EVTOVF : W0 R.GLB_EVTOVF) (h_QUE_STAT : ∀ i, W0 (R.QUE_STAT i)) (h_QUE_RET : ∀ i, W0 (R.QUE_RET i)) (h_SRF_STAT : W0 R.SRF_STAT) (h_SRF_FREEPG : W0 R.SRF_FREEPG) (h_SRF_RETIRED : W0 R.SRF_RETIRED) (h_CHN_PERR : ∀ i, W0 (R.CHN_PERR i)) (h_SPK_SPKSTAT : ∀ i, W0 (R.SPK_SPKSTAT i)) (h0 : RegsBut W0 r0 s) :
    RegsBut W0 r0 (t5Step s) := by
  unfold t5Step
  repeat' first
    | with_reducible assumption
    | with_reducible apply shutStart_regs
    | split

theorem powerRequest_regs {W0 : Nat → Prop} {r0 : State} (s : State) (h_pba : ∀ k, W0 (0x38000 + 4 * (k % 64))) (h_GLB_EVTOVF : W0 R.GLB_EVTOVF) (h_QUE_STAT : ∀ i, W0 (R.QUE_STAT i)) (h_QUE_RET : ∀ i, W0 (R.QUE_RET i)) (h_SRF_STAT : W0 R.SRF_STAT) (h_SRF_FREEPG : W0 R.SRF_FREEPG) (h_SRF_RETIRED : W0 R.SRF_RETIRED) (h_CHN_PERR : ∀ i, W0 (R.CHN_PERR i)) (h_SPK_SPKSTAT : ∀ i, W0 (R.SPK_SPKSTAT i)) (h_THM_PWR : W0 R.THM_PWR) (h0 : RegsBut W0 r0 s) :
    RegsBut W0 r0 (powerRequest s) := by
  unfold powerRequest
  repeat' first
    | with_reducible assumption
    | with_reducible apply powerShow_regs
    | with_reducible apply shutStart_regs
    | split

theorem execSensorSample_regs {W0 : Nat → Prop} {r0 : State} (dt : Nat) (od : List Int) (td : List (Int × Nat)) (s : State) (h_pba : ∀ k, W0 (0x38000 + 4 * (k % 64))) (h_GLB_YIELDCNT : W0 R.GLB_YIELDCNT) (h_GLB_YIELDLAST : W0 R.GLB_YIELDLAST) (h_GLB_YIELDFRM : W0 R.GLB_YIELDFRM) (h_GLB_EVTOVF : W0 R.GLB_EVTOVF) (h_QUE_STAT : ∀ i, W0 (R.QUE_STAT i)) (h_QUE_RET : ∀ i, W0 (R.QUE_RET i)) (h_SOR_GSTAT : W0 R.SOR_GSTAT) (h_SRF_STAT : W0 R.SRF_STAT) (h_SRF_FREEPG : W0 R.SRF_FREEPG) (h_SRF_RETIRED : W0 R.SRF_RETIRED) (h_CHN_PERR : ∀ i, W0 (R.CHN_PERR i)) (h_LNK_PSTAT : ∀ i, W0 (R.LNK_PSTAT i)) (h_LNK_PMAP : ∀ i, W0 (R.LNK_PMAP i)) (h_LNK_PCNT : ∀ i, W0 (R.LNK_PCNT i)) (h_LNK_LCTL : ∀ i, W0 (R.LNK_LCTL i)) (h_LNK_LSTAT : ∀ i, W0 (R.LNK_LSTAT i)) (h_LNK_LPRBS : ∀ i, W0 (R.LNK_LPRBS i)) (h_TAN_TSTAT : W0 R.TAN_TSTAT) (h_LMP_CEIL : W0 R.LMP_CEIL) (h_SPK_CTL : W0 R.SPK_CTL) (h_SPK_SPKSTAT : ∀ i, W0 (R.SPK_SPKSTAT i)) (h_DRC_CFG : W0 R.DRC_CFG) (h_DRC_HAZSTAT : W0 R.DRC_HAZSTAT) (h_DRC_CHSTAT : ∀ i, W0 (R.DRC_CHSTAT i)) (h_THM_STAT : W0 R.THM_STAT) (h_THM_FAIL : W0 R.THM_FAIL) (h_THM_PWR : W0 R.THM_PWR) (h_THM_OD : ∀ i, W0 (R.THM_OD i)) (h_THM_TD : ∀ i, W0 (R.THM_TD i)) (h_CAL_STAT : W0 R.CAL_STAT) (h_SEC_STAT : W0 R.SEC_STAT) {t0 : State} (h0 : RegsBut W0 r0 s) (ht : execSensorSample dt od td s = .next t0) :
    RegsBut W0 r0 t0 := by
  unfold execSensorSample at ht
  apply whenOn_regs (ht := ht)
  repeat' first
    | with_reducible assumption
    | with_reducible apply advance_regs
    | with_reducible apply sensorSample_regs
    | split
    | dsimp only
    | with_reducible intro _

theorem execThrottleStepDown_regs {W0 : Nat → Prop} {r0 : State} (dt : Nat) (s : State) (h_pba : ∀ k, W0 (0x38000 + 4 * (k % 64))) (h_GLB_YIELDCNT : W0 R.GLB_YIELDCNT) (h_GLB_YIELDLAST : W0 R.GLB_YIELDLAST) (h_GLB_YIELDFRM : W0 R.GLB_YIELDFRM) (h_GLB_EVTOVF : W0 R.GLB_EVTOVF) (h_SOR_GSTAT : W0 R.SOR_GSTAT) (h_CHN_PERR : ∀ i, W0 (R.CHN_PERR i)) (h_LMP_CEIL : W0 R.LMP_CEIL) (h_THM_STAT : W0 R.THM_STAT) {t0 : State} (h0 : RegsBut W0 r0 s) (ht : execThrottleStepDown dt s = .next t0) :
    RegsBut W0 r0 t0 := by
  unfold execThrottleStepDown at ht
  apply whenOn_regs (ht := ht)
  repeat' first
    | with_reducible assumption
    | with_reducible apply advance_regs
    | with_reducible apply gridStep_regs
    | split
    | dsimp only
    | with_reducible intro _

theorem execThrottleStepUp_regs {W0 : Nat → Prop} {r0 : State} (dt : Nat) (s : State) (h_pba : ∀ k, W0 (0x38000 + 4 * (k % 64))) (h_GLB_YIELDCNT : W0 R.GLB_YIELDCNT) (h_GLB_YIELDLAST : W0 R.GLB_YIELDLAST) (h_GLB_YIELDFRM : W0 R.GLB_YIELDFRM) (h_GLB_EVTOVF : W0 R.GLB_EVTOVF) (h_SOR_GSTAT : W0 R.SOR_GSTAT) (h_CHN_PERR : ∀ i, W0 (R.CHN_PERR i)) (h_LMP_CEIL : W0 R.LMP_CEIL) (h_THM_STAT : W0 R.THM_STAT) {t0 : State} (h0 : RegsBut W0 r0 s) (ht : execThrottleStepUp dt s = .next t0) :
    RegsBut W0 r0 t0 := by
  unfold execThrottleStepUp at ht
  apply whenOn_regs (ht := ht)
  repeat' first
    | with_reducible assumption
    | with_reducible apply advance_regs
    | with_reducible apply upStep_regs
    | split
    | dsimp only
    | with_reducible intro _

theorem execT5Shutdown_regs {W0 : Nat → Prop} {r0 : State} (dt : Nat) (s : State) (h_pba : ∀ k, W0 (0x38000 + 4 * (k % 64))) (h_GLB_EVTOVF : W0 R.GLB_EVTOVF) (h_QUE_STAT : ∀ i, W0 (R.QUE_STAT i)) (h_QUE_RET : ∀ i, W0 (R.QUE_RET i)) (h_SOR_GSTAT : W0 R.SOR_GSTAT) (h_SRF_STAT : W0 R.SRF_STAT) (h_SRF_FREEPG : W0 R.SRF_FREEPG) (h_SRF_RETIRED : W0 R.SRF_RETIRED) (h_CHN_PERR : ∀ i, W0 (R.CHN_PERR i)) (h_SPK_SPKSTAT : ∀ i, W0 (R.SPK_SPKSTAT i)) {t0 : State} (h0 : RegsBut W0 r0 s) (ht : execT5Shutdown dt s = .next t0) :
    RegsBut W0 r0 t0 := by
  unfold execT5Shutdown at ht
  apply whenOn_regs (ht := ht)
  repeat' first
    | with_reducible assumption
    | with_reducible apply advance_regs
    | with_reducible apply t5Step_regs
    | split
    | dsimp only
    | with_reducible intro _

theorem execPowerStateReached_regs {W0 : Nat → Prop} {r0 : State} (dt : Nat) (s : State) (h_pba : ∀ k, W0 (0x38000 + 4 * (k % 64))) (h_GLB_EVTOVF : W0 R.GLB_EVTOVF) (h_QUE_STAT : ∀ i, W0 (R.QUE_STAT i)) (h_QUE_RET : ∀ i, W0 (R.QUE_RET i)) (h_SOR_GSTAT : W0 R.SOR_GSTAT) (h_SRF_STAT : W0 R.SRF_STAT) (h_SRF_FREEPG : W0 R.SRF_FREEPG) (h_SRF_RETIRED : W0 R.SRF_RETIRED) (h_CHN_PERR : ∀ i, W0 (R.CHN_PERR i)) (h_LNK_PSTAT : ∀ i, W0 (R.LNK_PSTAT i)) (h_LNK_PMAP : ∀ i, W0 (R.LNK_PMAP i)) (h_LNK_PCNT : ∀ i, W0 (R.LNK_PCNT i)) (h_LNK_LCTL : ∀ i, W0 (R.LNK_LCTL i)) (h_LNK_LSTAT : ∀ i, W0 (R.LNK_LSTAT i)) (h_LNK_LPRBS : ∀ i, W0 (R.LNK_LPRBS i)) (h_TAN_TSTAT : W0 R.TAN_TSTAT) (h_SPK_CTL : W0 R.SPK_CTL) (h_SPK_SPKSTAT : ∀ i, W0 (R.SPK_SPKSTAT i)) (h_DRC_HAZSTAT : W0 R.DRC_HAZSTAT) (h_DRC_CHSTAT : ∀ i, W0 (R.DRC_CHSTAT i)) (h_THM_PWR : W0 R.THM_PWR) (h_CAL_STAT : W0 R.CAL_STAT) (h_SEC_STAT : W0 R.SEC_STAT) {t0 : State} (h0 : RegsBut W0 r0 s) (ht : execPowerStateReached dt s = .next t0) :
    RegsBut W0 r0 t0 := by
  unfold execPowerStateReached at ht
  apply whenOn_regs (ht := ht)
  repeat' first
    | with_reducible assumption
    | with_reducible apply advance_regs
    | with_reducible apply powerMove_regs
    | split
    | dsimp only
    | with_reducible intro _

end Sys2Proof.Machine
end

