-- ==== Sys2Proof/Laws/RegsImage.lean ====
section
/-! SUPPORT. Which registers each operation of Machine/Image.lean may write. -/

namespace Sys2Proof.Machine

theorem recWrite_regs {W0 : Nat → Prop} {r0 : State} (s : State) (r : SlotRec) (h0 : RegsBut W0 r0 s) :
    RegsBut W0 r0 (recWrite s r) := by
  unfold recWrite
  repeat' first
    | with_reducible assumption
    | simp only [RegsBut.upd]

end Sys2Proof.Machine
end

