-- ==== Sys2Proof/Laws/RegsUpd.lean ====
section
/-! SUPPORT. Which registers each operation of Machine/Upd.lean may write. -/

namespace Sys2Proof.Machine

theorem warmRequest_regs {W0 : Nat → Prop} {r0 : State} (s : State) (cause : Fld) (h_pba : ∀ k, W0 (0x38000 + 4 * (k % 64))) (h_QUE_STAT : ∀ i, W0 (R.QUE_STAT i)) (h_QUE_RET : ∀ i, W0 (R.QUE_RET i)) (h_SRF_STAT : W0 R.SRF_STAT) (h_SRF_FREEPG : W0 R.SRF_FREEPG) (h_SRF_RETIRED : W0 R.SRF_RETIRED) (h_SPK_SPKSTAT : ∀ i, W0 (R.SPK_SPKSTAT i)) (h_cause : W0 cause.off) (h0 : RegsBut W0 r0 s) :
    RegsBut W0 r0 (warmRequest s cause) := by
  unfold warmRequest
  repeat' first
    | with_reducible assumption
    | simp only [RegsBut.boot]
    | with_reducible apply setF_regs
    | with_reducible apply displayOff_regs
    | split

theorem setUstate_regs {W0 : Nat → Prop} {r0 : State} (s : State) (u : Nat) (h_pba : ∀ k, W0 (0x38000 + 4 * (k % 64))) (h_GLB_EVTOVF : W0 R.GLB_EVTOVF) (h_CHN_PERR : ∀ i, W0 (R.CHN_PERR i)) (h_UPD_STAT : W0 R.UPD_STAT) (h0 : RegsBut W0 r0 s) :
    RegsBut W0 r0 (setUstate s u) := by
  unfold setUstate
  repeat' first
    | with_reducible assumption
    | with_reducible exact h_UPD_STAT
    | with_reducible apply setF_regs
    | with_reducible apply raise_regs
    | with_reducible apply dropHold_regs
    | split

theorem lastCode_regs {W0 : Nat → Prop} {r0 : State} (s : State) (c : Status) (h_UPD_STAT : W0 R.UPD_STAT) (h0 : RegsBut W0 r0 s) :
    RegsBut W0 r0 (lastCode s c) := by
  unfold lastCode
  repeat' first
    | with_reducible assumption
    | with_reducible exact h_UPD_STAT
    | with_reducible apply setF_regs

theorem updShow_regs {W0 : Nat → Prop} {r0 : State} (s : State) (h_UPD_HELD : W0 R.UPD_HELD) (h_UPD_PKGID : ∀ i, W0 (R.UPD_PKGID i)) (h0 : RegsBut W0 r0 s) :
    RegsBut W0 r0 (updShow s) := by
  unfold updShow
  repeat' first
    | with_reducible assumption
    | with_reducible exact h_UPD_HELD
    | with_reducible exact h_UPD_PKGID _
    | with_reducible apply setWord_regs
    | with_reducible apply setF_regs
    | with_reducible apply RegsBut.foldl
    | split
    | dsimp only
    | with_reducible intro _

theorem pkgDrop_regs {W0 : Nat → Prop} {r0 : State} (s : State) (h_pba : ∀ k, W0 (0x38000 + 4 * (k % 64))) (h_GLB_EVTOVF : W0 R.GLB_EVTOVF) (h_CHN_PERR : ∀ i, W0 (R.CHN_PERR i)) (h_UPD_STAT : W0 R.UPD_STAT) (h_UPD_HELD : W0 R.UPD_HELD) (h_UPD_PKGID : ∀ i, W0 (R.UPD_PKGID i)) (h0 : RegsBut W0 r0 s) :
    RegsBut W0 r0 (pkgDrop s) := by
  unfold pkgDrop
  repeat' first
    | with_reducible assumption
    | simp only [RegsBut.upd]
    | with_reducible apply setUstate_regs
    | with_reducible apply updShow_regs

theorem parcelReply_regs {W0 : Nat → Prop} {r0 : State} (s : State) (l : Letter) (c : Status) (query : Option Nat) (h_CHN_LSTAT : W0 R.CHN_LSTAT) (h_CHN_PERR : ∀ i, W0 (R.CHN_PERR i)) (h_UPD_STAT : W0 R.UPD_STAT) (h0 : RegsBut W0 r0 s) :
    RegsBut W0 r0 (parcelReply s l c query) := by
  unfold parcelReply
  repeat' first
    | with_reducible assumption
    | with_reducible exact h_CHN_LSTAT
    | with_reducible apply incSat_regs
    | with_reducible apply tileReply_regs
    | with_reducible apply lastCode_regs
    | split

theorem updDone_regs {W0 : Nat → Prop} {r0 : State} (s : State) (it : Item) (c : Status) (result : Nat) (rcode : Nat) (dead : Bool) (h_pba : ∀ k, W0 (0x38000 + 4 * (k % 64))) (h_QUE_STAT : ∀ i, W0 (R.QUE_STAT i)) (h_QUE_RET : ∀ i, W0 (R.QUE_RET i)) (h_UPD_STAT : W0 R.UPD_STAT) (h0 : RegsBut W0 r0 s) :
    RegsBut W0 r0 (updDone s it c result rcode dead) := by
  unfold updDone
  repeat' first
    | with_reducible assumption
    | with_reducible apply complete40_regs
    | with_reducible apply lastCode_regs
    | split

theorem pkgOpen_regs {W0 : Nat → Prop} {r0 : State} (s : State) (id : Bytes) (m : Bytes) (h_pba : ∀ k, W0 (0x38000 + 4 * (k % 64))) (h_GLB_EVTOVF : W0 R.GLB_EVTOVF) (h_CHN_PERR : ∀ i, W0 (R.CHN_PERR i)) (h_UPD_STAT : W0 R.UPD_STAT) (h_UPD_HELD : W0 R.UPD_HELD) (h_UPD_PKGID : ∀ i, W0 (R.UPD_PKGID i)) (h_NVM_STAT : W0 R.NVM_STAT) (h0 : RegsBut W0 r0 s) :
    RegsBut W0 r0 (pkgOpen s id m) := by
  unfold pkgOpen
  repeat' first
    | with_reducible assumption
    | simp only [RegsBut.upd]
    | with_reducible apply pushMaps_regs
    | with_reducible apply setUstate_regs
    | with_reducible apply updShow_regs
    | split

theorem parcelWrite_regs {W0 : Nat → Prop} {r0 : State} (s : State) (k : Nat) (data : Bytes) (who : PFrom) (h_NVM_STAT : W0 R.NVM_STAT) (h0 : RegsBut W0 r0 s) :
    RegsBut W0 r0 (parcelWrite s k data who) := by
  unfold parcelWrite
  repeat' first
    | with_reducible assumption
    | with_reducible apply flashPush_regs
    | split

theorem parcelData_regs {W0 : Nat → Prop} {r0 : State} (s : State) (l : Letter) (h_pba : ∀ k, W0 (0x38000 + 4 * (k % 64))) (h_GLB_EVTOVF : W0 R.GLB_EVTOVF) (h_CHN_LSTAT : W0 R.CHN_LSTAT) (h_CHN_PERR : ∀ i, W0 (R.CHN_PERR i)) (h_UPD_STAT : W0 R.UPD_STAT) (h_UPD_HELD : W0 R.UPD_HELD) (h_UPD_PKGID : ∀ i, W0 (R.UPD_PKGID i)) (h_NVM_STAT : W0 R.NVM_STAT) (h0 : RegsBut W0 r0 s) :
    RegsBut W0 r0 (parcelData s l) := by
  unfold parcelData
  repeat' first
    | with_reducible assumption
    | with_reducible apply parcelReply_regs
    | with_reducible apply pkgOpen_regs
    | with_reducible apply parcelWrite_regs
    | split
    | dsimp only

theorem parcelQuery_regs {W0 : Nat → Prop} {r0 : State} (s : State) (l : Letter) (h_CHN_LSTAT : W0 R.CHN_LSTAT) (h_CHN_PERR : ∀ i, W0 (R.CHN_PERR i)) (h_UPD_STAT : W0 R.UPD_STAT) (h0 : RegsBut W0 r0 s) :
    RegsBut W0 r0 (parcelQuery s l) := by
  unfold parcelQuery
  repeat' first
    | with_reducible assumption
    | with_reducible apply parcelReply_regs
    | split
    | dsimp only

theorem stageWalk_regs {W0 : Nat → Prop} {r0 : State} (h_pba : ∀ k, W0 (0x38000 + 4 * (k % 64))) (h_GLB_EVTOVF : W0 R.GLB_EVTOVF) (h_CHN_PERR : ∀ i, W0 (R.CHN_PERR i)) (h_UPD_STAT : W0 R.UPD_STAT) (h_UPD_HELD : W0 R.UPD_HELD) (h_UPD_PKGID : ∀ i, W0 (R.UPD_PKGID i)) (h_NVM_STAT : W0 R.NVM_STAT) (y0 : Nat) (y1 : Nat) (y2 : Bytes) (y3 : List (Nat × Bytes)) (y4 : State)
    (h0 : RegsBut W0 r0 y4) :
    RegsBut W0 r0 (stageWalk y0 y1 y2 y3 y4).2.2 := by
  induction y0 generalizing y1 y2 y3 y4 with
  | zero =>
    unfold stageWalk
    repeat' first
      | with_reducible assumption
  | succ y0 ih =>
    unfold stageWalk
    repeat' first
      | with_reducible assumption
      | with_reducible apply ih
      | with_reducible apply pkgOpen_regs
      | split
      | dsimp only

theorem stageApply_regs {W0 : Nat → Prop} {r0 : State} (s : State) (it : Item) (b : Bytes) (h_pba : ∀ k, W0 (0x38000 + 4 * (k % 64))) (h_GLB_EVTOVF : W0 R.GLB_EVTOVF) (h_QUE_STAT : ∀ i, W0 (R.QUE_STAT i)) (h_QUE_RET : ∀ i, W0 (R.QUE_RET i)) (h_CHN_PERR : ∀ i, W0 (R.CHN_PERR i)) (h_UPD_STAT : W0 R.UPD_STAT) (h_UPD_HELD : W0 R.UPD_HELD) (h_UPD_PKGID : ∀ i, W0 (R.UPD_PKGID i)) (h_NVM_STAT : W0 R.NVM_STAT) (h0 : RegsBut W0 r0 s) :
    RegsBut W0 r0 (stageApply s it b) := by
  unfold stageApply
  repeat' first
    | with_reducible assumption
    | with_reducible apply updDone_regs
    | with_reducible apply parcelWrite_regs
    | with_reducible apply stageWalk_regs
    | with_reducible apply RegsBut.foldl
    | with_reducible refine RegsBut.of_snd (by with_reducible assumption) ?_
    | with_reducible refine RegsBut.of_snd2 (by with_reducible assumption) ?_
    | split
    | dsimp only
    | with_reducible intro _

theorem armDone_regs {W0 : Nat → Prop} {r0 : State} (s : State) (a : Arm) (c : Status) (h_pba : ∀ k, W0 (0x38000 + 4 * (k % 64))) (h_QUE_STAT : ∀ i, W0 (R.QUE_STAT i)) (h_QUE_RET : ∀ i, W0 (R.QUE_RET i)) (h_UPD_STAT : W0 R.UPD_STAT) (h0 : RegsBut W0 r0 s) :
    RegsBut W0 r0 (armDone s a c) := by
  unfold armDone
  repeat' first
    | with_reducible assumption
    | with_reducible apply updDone_regs
    | split

theorem disarm_regs {W0 : Nat → Prop} {r0 : State} (s : State) (c : Status) (h_pba : ∀ k, W0 (0x38000 + 4 * (k % 64))) (h_QUE_STAT : ∀ i, W0 (R.QUE_STAT i)) (h_QUE_RET : ∀ i, W0 (R.QUE_RET i)) (h_UPD_STAT : W0 R.UPD_STAT) (h_UPD_AFRAME : W0 R.UPD_AFRAME) (h0 : RegsBut W0 r0 s) :
    RegsBut W0 r0 (disarm s c) := by
  unfold disarm
  repeat' first
    | with_reducible assumption
    | simp only [RegsBut.upd]
    | with_reducible exact h_UPD_AFRAME
    | with_reducible apply setF_regs
    | with_reducible apply armDone_regs
    | split

theorem activate_regs {W0 : Nat → Prop} {r0 : State} (s : State) (h_pba : ∀ k, W0 (0x38000 + 4 * (k % 64))) (h_GLB_EVTOVF : W0 R.GLB_EVTOVF) (h_QUE_STAT : ∀ i, W0 (R.QUE_STAT i)) (h_QUE_RET : ∀ i, W0 (R.QUE_RET i)) (h_CHN_PERR : ∀ i, W0 (R.CHN_PERR i)) (h_UPD_STAT : W0 R.UPD_STAT) (h_UPD_AFRAME : W0 R.UPD_AFRAME) (h_NVM_STAT : W0 R.NVM_STAT) (h0 : RegsBut W0 r0 s) :
    RegsBut W0 r0 (activate s) := by
  unfold activate
  repeat' first
    | with_reducible assumption
    | with_reducible apply raise_regs
    | with_reducible apply flashPush_regs
    | with_reducible apply disarm_regs
    | split

theorem armSet_regs {W0 : Nat → Prop} {r0 : State} (s : State) (f : Nat) (now : Bool) (it : Option Item) (h_pba : ∀ k, W0 (0x38000 + 4 * (k % 64))) (h_GLB_YIELDCNT : W0 R.GLB_YIELDCNT) (h_GLB_YIELDLAST : W0 R.GLB_YIELDLAST) (h_GLB_YIELDFRM : W0 R.GLB_YIELDFRM) (h_GLB_EVTOVF : W0 R.GLB_EVTOVF) (h_QUE_STAT : ∀ i, W0 (R.QUE_STAT i)) (h_QUE_RET : ∀ i, W0 (R.QUE_RET i)) (h_CHN_PERR : ∀ i, W0 (R.CHN_PERR i)) (h_UPD_STAT : W0 R.UPD_STAT) (h_UPD_AFRAME : W0 R.UPD_AFRAME) (h_NVM_STAT : W0 R.NVM_STAT) (h0 : RegsBut W0 r0 s) :
    RegsBut W0 r0 (armSet s f now it) := by
  unfold armSet
  repeat' first
    | with_reducible assumption
    | simp only [RegsBut.upd]
    | with_reducible exact h_UPD_AFRAME
    | with_reducible apply setF_regs
    | with_reducible apply armMove_regs
    | with_reducible apply setUstate_regs
    | with_reducible apply disarm_regs
    | with_reducible apply activate_regs
    | split

theorem parcelArm_regs {W0 : Nat → Prop} {r0 : State} (s : State) (l : Letter) (h_pba : ∀ k, W0 (0x38000 + 4 * (k % 64))) (h_GLB_YIELDCNT : W0 R.GLB_YIELDCNT) (h_GLB_YIELDLAST : W0 R.GLB_YIELDLAST) (h_GLB_YIELDFRM : W0 R.GLB_YIELDFRM) (h_GLB_EVTOVF : W0 R.GLB_EVTOVF) (h_QUE_STAT : ∀ i, W0 (R.QUE_STAT i)) (h_QUE_RET : ∀ i, W0 (R.QUE_RET i)) (h_CHN_LSTAT : W0 R.CHN_LSTAT) (h_CHN_PERR : ∀ i, W0 (R.CHN_PERR i)) (h_UPD_STAT : W0 R.UPD_STAT) (h_UPD_AFRAME : W0 R.UPD_AFRAME) (h_NVM_STAT : W0 R.NVM_STAT) (h0 : RegsBut W0 r0 s) :
    RegsBut W0 r0 (parcelArm s l) := by
  unfold parcelArm
  repeat' first
    | with_reducible assumption
    | with_reducible apply parcelReply_regs
    | with_reducible apply armSet_regs
    | split
    | dsimp only

theorem activationStep_regs {W0 : Nat → Prop} {r0 : State} (s : State) (h_pba : ∀ k, W0 (0x38000 + 4 * (k % 64))) (h_GLB_EVTOVF : W0 R.GLB_EVTOVF) (h_QUE_STAT : ∀ i, W0 (R.QUE_STAT i)) (h_QUE_RET : ∀ i, W0 (R.QUE_RET i)) (h_CHN_PERR : ∀ i, W0 (R.CHN_PERR i)) (h_UPD_STAT : W0 R.UPD_STAT) (h_UPD_AFRAME : W0 R.UPD_AFRAME) (h_NVM_STAT : W0 R.NVM_STAT) (h0 : RegsBut W0 r0 s) :
    RegsBut W0 r0 (activationStep s) := by
  unfold activationStep
  repeat' first
    | with_reducible assumption
    | with_reducible apply activate_regs
    | split
    | dsimp only

theorem abandon_regs {W0 : Nat → Prop} {r0 : State} (s : State) (h_pba : ∀ k, W0 (0x38000 + 4 * (k % 64))) (h_GLB_EVTOVF : W0 R.GLB_EVTOVF) (h_QUE_STAT : ∀ i, W0 (R.QUE_STAT i)) (h_QUE_RET : ∀ i, W0 (R.QUE_RET i)) (h_CHN_PERR : ∀ i, W0 (R.CHN_PERR i)) (h_UPD_STAT : W0 R.UPD_STAT) (h_UPD_HELD : W0 R.UPD_HELD) (h_UPD_AFRAME : W0 R.UPD_AFRAME) (h_UPD_PKGID : ∀ i, W0 (R.UPD_PKGID i)) (h0 : RegsBut W0 r0 s) :
    RegsBut W0 r0 (abandon s).2 := by
  unfold abandon
  repeat' first
    | with_reducible assumption
    | with_reducible apply pkgDrop_regs
    | with_reducible apply disarm_regs
    | split

theorem parcelAbandon_regs {W0 : Nat → Prop} {r0 : State} (s : State) (l : Letter) (h_pba : ∀ k, W0 (0x38000 + 4 * (k % 64))) (h_GLB_EVTOVF : W0 R.GLB_EVTOVF) (h_QUE_STAT : ∀ i, W0 (R.QUE_STAT i)) (h_QUE_RET : ∀ i, W0 (R.QUE_RET i)) (h_CHN_LSTAT : W0 R.CHN_LSTAT) (h_CHN_PERR : ∀ i, W0 (R.CHN_PERR i)) (h_UPD_STAT : W0 R.UPD_STAT) (h_UPD_HELD : W0 R.UPD_HELD) (h_UPD_AFRAME : W0 R.UPD_AFRAME) (h_UPD_PKGID : ∀ i, W0 (R.UPD_PKGID i)) (h0 : RegsBut W0 r0 s) :
    RegsBut W0 r0 (parcelAbandon s l) := by
  unfold parcelAbandon
  repeat' first
    | with_reducible assumption
    | with_reducible apply parcelReply_regs
    | with_reducible apply abandon_regs
    | with_reducible refine RegsBut.of_snd (by with_reducible assumption) ?_
    | with_reducible refine RegsBut.of_snd2 (by with_reducible assumption) ?_
    | split

theorem verifyDiscard_regs {W0 : Nat → Prop} {r0 : State} (s : State) (c : Status) (h_pba : ∀ k, W0 (0x38000 + 4 * (k % 64))) (h_GLB_EVTOVF : W0 R.GLB_EVTOVF) (h_CHN_PERR : ∀ i, W0 (R.CHN_PERR i)) (h_UPD_STAT : W0 R.UPD_STAT) (h_UPD_HELD : W0 R.UPD_HELD) (h_UPD_PKGID : ∀ i, W0 (R.UPD_PKGID i)) (h0 : RegsBut W0 r0 s) :
    RegsBut W0 r0 (verifyDiscard s c) := by
  unfold verifyDiscard
  repeat' first
    | with_reducible assumption
    | with_reducible apply lastCode_regs
    | with_reducible apply pkgDrop_regs

theorem markMissing_regs {W0 : Nat → Prop} {r0 : State} (s : State) (p : Nat → Bool) (h_UPD_HELD : W0 R.UPD_HELD) (h_UPD_PKGID : ∀ i, W0 (R.UPD_PKGID i)) (h_NVM_STAT : W0 R.NVM_STAT) (h0 : RegsBut W0 r0 s) :
    RegsBut W0 r0 (markMissing s p) := by
  unfold markMissing
  repeat' first
    | with_reducible assumption
    | simp only [RegsBut.upd]
    | with_reducible apply pushMaps_regs
    | with_reducible apply updShow_regs

theorem sectorClear_regs {W0 : Nat → Prop} {r0 : State} (s : State) (k : Nat) (h0 : RegsBut W0 r0 s) :
    RegsBut W0 r0 (sectorClear s k) := by
  unfold sectorClear
  repeat' first
    | with_reducible assumption
    | simp only [RegsBut.upd]

theorem sectorErased_regs {W0 : Nat → Prop} {r0 : State} (s : State) (k : Nat) (h0 : RegsBut W0 r0 s) :
    RegsBut W0 r0 (sectorErased s k) := by
  unfold sectorErased
  repeat' first
    | with_reducible assumption
    | simp only [RegsBut.upd]
    | with_reducible apply sectorClear_regs

theorem sectorReady_regs {W0 : Nat → Prop} {r0 : State} (s : State) (k : Nat) (h0 : RegsBut W0 r0 s) :
    RegsBut W0 r0 (sectorReady s k) := by
  unfold sectorReady
  repeat' first
    | with_reducible assumption
    | with_reducible apply emit_regs
    | with_reducible apply sectorErased_regs
    | split

theorem stagingWrite_regs {W0 : Nat → Prop} {r0 : State} (s : State) (a : Nat) (b : Bytes) (h0 : RegsBut W0 r0 s) :
    RegsBut W0 r0 (stagingWrite s a b) := by
  unfold stagingWrite
  repeat' first
    | with_reducible assumption
    | with_reducible apply emit_regs
    | with_reducible apply flashWr_regs
    | with_reducible apply sectorReady_regs
    | with_reducible apply RegsBut.foldl

theorem copyInherited_regs {W0 : Nat → Prop} {r0 : State} (s : State) (m : Bytes) (i : Nat) (h0 : RegsBut W0 r0 s) :
    RegsBut W0 r0 (copyInherited s m i) := by
  unfold copyInherited
  repeat' first
    | with_reducible assumption
    | with_reducible apply stagingWrite_regs
    | split

theorem verify_regs {W0 : Nat → Prop} {r0 : State} (s : State) (m : Bytes) (h_pba : ∀ k, W0 (0x38000 + 4 * (k % 64))) (h_GLB_EVTOVF : W0 R.GLB_EVTOVF) (h_CHN_PERR : ∀ i, W0 (R.CHN_PERR i)) (h_UPD_STAT : W0 R.UPD_STAT) (h_UPD_HELD : W0 R.UPD_HELD) (h_UPD_PKGID : ∀ i, W0 (R.UPD_PKGID i)) (h_NVM_STAT : W0 R.NVM_STAT) (h0 : RegsBut W0 r0 s) :
    RegsBut W0 r0 (verify s m) := by
  unfold verify
  repeat' first
    | with_reducible assumption
    | with_reducible apply setUstate_regs
    | with_reducible apply lastCode_regs
    | with_reducible apply verifyDiscard_regs
    | with_reducible apply markMissing_regs
    | with_reducible apply copyInherited_regs
    | with_reducible apply RegsBut.foldl
    | split
    | dsimp only
    | with_reducible intro _

theorem verifyStep_regs {W0 : Nat → Prop} {r0 : State} (s : State) (h_pba : ∀ k, W0 (0x38000 + 4 * (k % 64))) (h_GLB_EVTOVF : W0 R.GLB_EVTOVF) (h_CHN_PERR : ∀ i, W0 (R.CHN_PERR i)) (h_UPD_STAT : W0 R.UPD_STAT) (h_UPD_HELD : W0 R.UPD_HELD) (h_UPD_PKGID : ∀ i, W0 (R.UPD_PKGID i)) (h_NVM_STAT : W0 R.NVM_STAT) (h0 : RegsBut W0 r0 s) :
    RegsBut W0 r0 (verifyStep s) := by
  unfold verifyStep
  repeat' first
    | with_reducible assumption
    | with_reducible apply verify_regs
    | split

theorem pkgFull_regs {W0 : Nat → Prop} {r0 : State} (s : State) (h_pba : ∀ k, W0 (0x38000 + 4 * (k % 64))) (h_GLB_EVTOVF : W0 R.GLB_EVTOVF) (h_CHN_PERR : ∀ i, W0 (R.CHN_PERR i)) (h_UPD_STAT : W0 R.UPD_STAT) (h0 : RegsBut W0 r0 s) :
    RegsBut W0 r0 (pkgFull s) := by
  unfold pkgFull
  repeat' first
    | with_reducible assumption
    | with_reducible apply setUstate_regs
    | split

theorem trialConfirm_regs {W0 : Nat → Prop} {r0 : State} (s : State) (h_NVM_STAT : W0 R.NVM_STAT) (h0 : RegsBut W0 r0 s) :
    RegsBut W0 r0 (trialConfirm s) := by
  unfold trialConfirm
  repeat' first
    | with_reducible assumption
    | with_reducible apply flashPush_regs
    | split

theorem curShow_regs {W0 : Nat → Prop} {r0 : State} (s : State) (h_UPD_STAT : W0 R.UPD_STAT) (h_UPD_BUILD : W0 R.UPD_BUILD) (h0 : RegsBut W0 r0 s) :
    RegsBut W0 r0 (curShow s) := by
  unfold curShow
  repeat' first
    | with_reducible assumption
    | with_reducible exact h_UPD_STAT
    | with_reducible exact h_UPD_BUILD
    | with_reducible apply setF_regs

theorem fuseSvn_regs {W0 : Nat → Prop} {r0 : State} (s : State) (h0 : RegsBut W0 r0 s) :
    RegsBut W0 r0 (fuseSvn s) := by
  unfold fuseSvn
  repeat' first
    | with_reducible assumption
    | simp only [RegsBut.sec]

theorem confirmed_regs {W0 : Nat → Prop} {r0 : State} (s : State) (h_pba : ∀ k, W0 (0x38000 + 4 * (k % 64))) (h_GLB_EVTOVF : W0 R.GLB_EVTOVF) (h_CHN_PERR : ∀ i, W0 (R.CHN_PERR i)) (h_UPD_STAT : W0 R.UPD_STAT) (h_UPD_HELD : W0 R.UPD_HELD) (h_UPD_BUILD : W0 R.UPD_BUILD) (h_UPD_PKGID : ∀ i, W0 (R.UPD_PKGID i)) (h0 : RegsBut W0 r0 s) :
    RegsBut W0 r0 (confirmed s) := by
  unfold confirmed
  repeat' first
    | with_reducible assumption
    | simp only [RegsBut.upd]
    | with_reducible exact h_UPD_STAT
    | with_reducible apply setF_regs
    | with_reducible apply setUstate_regs
    | with_reducible apply updShow_regs
    | with_reducible apply curShow_regs
    | with_reducible apply fuseSvn_regs

theorem confirmExpiry_regs {W0 : Nat → Prop} {r0 : State} (s : State) (h_pba : ∀ k, W0 (0x38000 + 4 * (k % 64))) (h_GLB_RSTCAUSE : W0 R.GLB_RSTCAUSE) (h_QUE_STAT : ∀ i, W0 (R.QUE_STAT i)) (h_QUE_RET : ∀ i, W0 (R.QUE_RET i)) (h_SRF_STAT : W0 R.SRF_STAT) (h_SRF_FREEPG : W0 R.SRF_FREEPG) (h_SRF_RETIRED : W0 R.SRF_RETIRED) (h_SPK_SPKSTAT : ∀ i, W0 (R.SPK_SPKSTAT i)) (h0 : RegsBut W0 r0 s) :
    RegsBut W0 r0 (confirmExpiry s) := by
  unfold confirmExpiry
  repeat' first
    | with_reducible assumption
    | with_reducible exact h_GLB_RSTCAUSE
    | with_reducible apply warmRequest_regs
    | split

theorem hostConfirm_regs {W0 : Nat → Prop} {r0 : State} (s : State) (h0 : RegsBut W0 r0 s) :
    RegsBut W0 r0 (hostConfirm s) := by
  unfold hostConfirm
  repeat' first
    | with_reducible assumption
    | simp only [RegsBut.upd]

theorem parcelEnd_regs {W0 : Nat → Prop} {r0 : State} (s : State) (who : PFrom) (c : Status) (h_pba : ∀ k, W0 (0x38000 + 4 * (k % 64))) (h_QUE_STAT : ∀ i, W0 (R.QUE_STAT i)) (h_QUE_RET : ∀ i, W0 (R.QUE_RET i)) (h_CHN_LSTAT : W0 R.CHN_LSTAT) (h_CHN_PERR : ∀ i, W0 (R.CHN_PERR i)) (h_UPD_STAT : W0 R.UPD_STAT) (h0 : RegsBut W0 r0 s) :
    RegsBut W0 r0 (parcelEnd s who c) := by
  unfold parcelEnd
  repeat' first
    | with_reducible assumption
    | simp only [RegsBut.upd]
    | with_reducible apply parcelReply_regs
    | with_reducible apply updDone_regs
    | split

theorem flashEffect_regs {W0 : Nat → Prop} {r0 : State} (s : State) (o : FlashOp) (ok : Bool) (h_pba : ∀ k, W0 (0x38000 + 4 * (k % 64))) (h_GLB_RSTCAUSE : W0 R.GLB_RSTCAUSE) (h_GLB_EVTOVF : W0 R.GLB_EVTOVF) (h_QUE_STAT : ∀ i, W0 (R.QUE_STAT i)) (h_QUE_RET : ∀ i, W0 (R.QUE_RET i)) (h_SRF_STAT : W0 R.SRF_STAT) (h_SRF_FREEPG : W0 R.SRF_FREEPG) (h_SRF_RETIRED : W0 R.SRF_RETIRED) (h_CHN_LSTAT : W0 R.CHN_LSTAT) (h_CHN_PERR : ∀ i, W0 (R.CHN_PERR i)) (h_SPK_SPKSTAT : ∀ i, W0 (R.SPK_SPKSTAT i)) (h_UPD_STAT : W0 R.UPD_STAT) (h_UPD_HELD : W0 R.UPD_HELD) (h_UPD_BUILD : W0 R.UPD_BUILD) (h_UPD_PKGID : ∀ i, W0 (R.UPD_PKGID i)) (h_NVM_STAT : W0 R.NVM_STAT) (h0 : RegsBut W0 r0 s) :
    RegsBut W0 r0 (flashEffect s o ok) := by
  unfold flashEffect
  repeat' first
    | with_reducible assumption
    | simp only [RegsBut.upd]
    | with_reducible exact h_GLB_RSTCAUSE
    | with_reducible apply flashWr_regs
    | with_reducible apply recWrite_regs
    | with_reducible apply warmRequest_regs
    | with_reducible apply updShow_regs
    | with_reducible apply markMissing_regs
    | with_reducible apply sectorErased_regs
    | with_reducible apply pkgFull_regs
    | with_reducible apply confirmed_regs
    | with_reducible apply parcelEnd_regs
    | split

theorem flashDone_regs {W0 : Nat → Prop} {r0 : State} (s : State) (ok : Bool) (h_pba : ∀ k, W0 (0x38000 + 4 * (k % 64))) (h_GLB_RSTCAUSE : W0 R.GLB_RSTCAUSE) (h_GLB_EVTOVF : W0 R.GLB_EVTOVF) (h_QUE_STAT : ∀ i, W0 (R.QUE_STAT i)) (h_QUE_RET : ∀ i, W0 (R.QUE_RET i)) (h_SRF_STAT : W0 R.SRF_STAT) (h_SRF_FREEPG : W0 R.SRF_FREEPG) (h_SRF_RETIRED : W0 R.SRF_RETIRED) (h_CHN_LSTAT : W0 R.CHN_LSTAT) (h_CHN_PERR : ∀ i, W0 (R.CHN_PERR i)) (h_SPK_SPKSTAT : ∀ i, W0 (R.SPK_SPKSTAT i)) (h_UPD_STAT : W0 R.UPD_STAT) (h_UPD_HELD : W0 R.UPD_HELD) (h_UPD_BUILD : W0 R.UPD_BUILD) (h_UPD_PKGID : ∀ i, W0 (R.UPD_PKGID i)) (h_NVM_STAT : W0 R.NVM_STAT) (h0 : RegsBut W0 r0 s) :
    RegsBut W0 r0 (flashDone s ok) := by
  unfold flashDone
  repeat' first
    | with_reducible assumption
    | with_reducible apply flashNext_regs
    | with_reducible apply flashEffect_regs
    | split

theorem flashSettle_regs {W0 : Nat → Prop} {r0 : State} (s : State) (h_pba : ∀ k, W0 (0x38000 + 4 * (k % 64))) (h_GLB_RSTCAUSE : W0 R.GLB_RSTCAUSE) (h_GLB_EVTOVF : W0 R.GLB_EVTOVF) (h_QUE_STAT : ∀ i, W0 (R.QUE_STAT i)) (h_QUE_RET : ∀ i, W0 (R.QUE_RET i)) (h_SRF_STAT : W0 R.SRF_STAT) (h_SRF_FREEPG : W0 R.SRF_FREEPG) (h_SRF_RETIRED : W0 R.SRF_RETIRED) (h_CHN_LSTAT : W0 R.CHN_LSTAT) (h_CHN_PERR : ∀ i, W0 (R.CHN_PERR i)) (h_SPK_SPKSTAT : ∀ i, W0 (R.SPK_SPKSTAT i)) (h_UPD_STAT : W0 R.UPD_STAT) (h_UPD_HELD : W0 R.UPD_HELD) (h_UPD_BUILD : W0 R.UPD_BUILD) (h_UPD_PKGID : ∀ i, W0 (R.UPD_PKGID i)) (h_NVM_STAT : W0 R.NVM_STAT) (h0 : RegsBut W0 r0 s) :
    RegsBut W0 r0 (flashSettle s) := by
  unfold flashSettle
  repeat' first
    | with_reducible assumption
    | simp only [RegsBut.upd]
    | with_reducible exact h_NVM_STAT
    | with_reducible apply setF_regs
    | with_reducible apply flashEffect_regs
    | split

theorem flashCut_regs {W0 : Nat → Prop} {r0 : State} (s : State) (h_NVM_STAT : W0 R.NVM_STAT) (h0 : RegsBut W0 r0 s) :
    RegsBut W0 r0 (flashCut s) := by
  unfold flashCut
  repeat' first
    | with_reducible assumption
    | simp only [RegsBut.upd]
    | with_reducible exact h_NVM_STAT
    | with_reducible apply setF_regs

theorem journalWrite_regs {W0 : Nat → Prop} {r0 : State} (s : State) (r : JRec) (h0 : RegsBut W0 r0 s) :
    RegsBut W0 r0 (journalWrite s r) := by
  unfold journalWrite
  repeat' first
    | with_reducible assumption
    | simp only [RegsBut.upd]
    | with_reducible apply flashOut_regs

theorem orderlyShutdown_regs {W0 : Nat → Prop} {r0 : State} (s : State) (h_pba : ∀ k, W0 (0x38000 + 4 * (k % 64))) (h_GLB_RSTCAUSE : W0 R.GLB_RSTCAUSE) (h_GLB_EVTOVF : W0 R.GLB_EVTOVF) (h_HIF_LINKSTAT : W0 R.HIF_LINKSTAT) (h_QUE_STAT : ∀ i, W0 (R.QUE_STAT i)) (h_QUE_RET : ∀ i, W0 (R.QUE_RET i)) (h_SRF_STAT : W0 R.SRF_STAT) (h_SRF_FREEPG : W0 R.SRF_FREEPG) (h_SRF_RETIRED : W0 R.SRF_RETIRED) (h_CHN_LSTAT : W0 R.CHN_LSTAT) (h_CHN_PERR : ∀ i, W0 (R.CHN_PERR i)) (h_SPK_SPKSTAT : ∀ i, W0 (R.SPK_SPKSTAT i)) (h_DRC_CHSTAT : ∀ i, W0 (R.DRC_CHSTAT i)) (h_THM_PWR : W0 R.THM_PWR) (h_UPD_STAT : W0 R.UPD_STAT) (h_UPD_HELD : W0 R.UPD_HELD) (h_UPD_BUILD : W0 R.UPD_BUILD) (h_UPD_PKGID : ∀ i, W0 (R.UPD_PKGID i)) (h_NVM_STAT : W0 R.NVM_STAT) (h0 : RegsBut W0 r0 s) :
    RegsBut W0 r0 (orderlyShutdown s) := by
  unfold orderlyShutdown
  repeat' first
    | with_reducible assumption
    | with_reducible exact h_HIF_LINKSTAT
    | with_reducible exact h_THM_PWR
    | with_reducible apply setF_regs
    | with_reducible apply raise_regs
    | with_reducible apply selfRefEntry_regs
    | with_reducible apply powerShow_regs
    | with_reducible apply flashSettle_regs
    | with_reducible apply journalWrite_regs
    | with_reducible apply RegsBut.foldl
    | split
    | dsimp only
    | with_reducible intro _

theorem updFetch_regs {W0 : Nat → Prop} {r0 : State} (s : State) (e : Bytes) (n : Nat) (host : HostRes) (h_pba : ∀ k, W0 (0x38000 + 4 * (k % 64))) (h_GLB_EVTOVF : W0 R.GLB_EVTOVF) (h_SRF_TCMISS : W0 R.SRF_TCMISS) (h_CHN_PERR : ∀ i, W0 (R.CHN_PERR i)) (h_DRC_ECCSTAT : W0 R.DRC_ECCSTAT) (h_DRC_UEADDR : W0 R.DRC_UEADDR) (h0 : RegsBut W0 r0 s) :
    RegsBut W0 r0 (updFetch s e n host).2 := by
  unfold updFetch
  repeat' first
    | with_reducible assumption
    | with_reducible apply areaFetch_regs
    | split

theorem stageEntry_regs {W0 : Nat → Prop} {r0 : State} (s : State) (it : Item) (host : HostRes) (h_pba : ∀ k, W0 (0x38000 + 4 * (k % 64))) (h_GLB_EVTOVF : W0 R.GLB_EVTOVF) (h_QUE_STAT : ∀ i, W0 (R.QUE_STAT i)) (h_QUE_RET : ∀ i, W0 (R.QUE_RET i)) (h_SRF_TCMISS : W0 R.SRF_TCMISS) (h_CHN_PERR : ∀ i, W0 (R.CHN_PERR i)) (h_DRC_ECCSTAT : W0 R.DRC_ECCSTAT) (h_DRC_UEADDR : W0 R.DRC_UEADDR) (h_UPD_STAT : W0 R.UPD_STAT) (h_UPD_HELD : W0 R.UPD_HELD) (h_UPD_PKGID : ∀ i, W0 (R.UPD_PKGID i)) (h_NVM_STAT : W0 R.NVM_STAT) (h0 : RegsBut W0 r0 s) :
    RegsBut W0 r0 (stageEntry s it host) := by
  unfold stageEntry
  repeat' first
    | with_reducible assumption
    | with_reducible apply updDone_regs
    | with_reducible apply stageApply_regs
    | with_reducible apply updFetch_regs
    | with_reducible refine RegsBut.of_snd (by with_reducible assumption) ?_
    | with_reducible refine RegsBut.of_snd2 (by with_reducible assumption) ?_
    | split
    | dsimp only

theorem activateEntry_regs {W0 : Nat → Prop} {r0 : State} (s : State) (it : Item) (h_pba : ∀ k, W0 (0x38000 + 4 * (k % 64))) (h_GLB_YIELDCNT : W0 R.GLB_YIELDCNT) (h_GLB_YIELDLAST : W0 R.GLB_YIELDLAST) (h_GLB_YIELDFRM : W0 R.GLB_YIELDFRM) (h_GLB_EVTOVF : W0 R.GLB_EVTOVF) (h_QUE_STAT : ∀ i, W0 (R.QUE_STAT i)) (h_QUE_RET : ∀ i, W0 (R.QUE_RET i)) (h_CHN_PERR : ∀ i, W0 (R.CHN_PERR i)) (h_UPD_STAT : W0 R.UPD_STAT) (h_UPD_AFRAME : W0 R.UPD_AFRAME) (h_NVM_STAT : W0 R.NVM_STAT) (h0 : RegsBut W0 r0 s) :
    RegsBut W0 r0 (activateEntry s it) := by
  unfold activateEntry
  repeat' first
    | with_reducible assumption
    | with_reducible apply updDone_regs
    | with_reducible apply armSet_regs
    | split

theorem confirmEntry_regs {W0 : Nat → Prop} {r0 : State} (s : State) (it : Item) (h_pba : ∀ k, W0 (0x38000 + 4 * (k % 64))) (h_QUE_STAT : ∀ i, W0 (R.QUE_STAT i)) (h_QUE_RET : ∀ i, W0 (R.QUE_RET i)) (h_UPD_STAT : W0 R.UPD_STAT) (h0 : RegsBut W0 r0 s) :
    RegsBut W0 r0 (confirmEntry s it) := by
  unfold confirmEntry
  repeat' first
    | with_reducible assumption
    | with_reducible apply updDone_regs
    | with_reducible apply hostConfirm_regs
    | split

theorem abandonEntry_regs {W0 : Nat → Prop} {r0 : State} (s : State) (it : Item) (h_pba : ∀ k, W0 (0x38000 + 4 * (k % 64))) (h_GLB_EVTOVF : W0 R.GLB_EVTOVF) (h_QUE_STAT : ∀ i, W0 (R.QUE_STAT i)) (h_QUE_RET : ∀ i, W0 (R.QUE_RET i)) (h_CHN_PERR : ∀ i, W0 (R.CHN_PERR i)) (h_UPD_STAT : W0 R.UPD_STAT) (h_UPD_HELD : W0 R.UPD_HELD) (h_UPD_AFRAME : W0 R.UPD_AFRAME) (h_UPD_PKGID : ∀ i, W0 (R.UPD_PKGID i)) (h0 : RegsBut W0 r0 s) :
    RegsBut W0 r0 (abandonEntry s it) := by
  unfold abandonEntry
  repeat' first
    | with_reducible assumption
    | with_reducible apply updDone_regs
    | with_reducible apply abandon_regs
    | with_reducible refine RegsBut.of_snd (by with_reducible assumption) ?_
    | with_reducible refine RegsBut.of_snd2 (by with_reducible assumption) ?_
    | split

theorem hostimgEntry_regs {W0 : Nat → Prop} {r0 : State} (s : State) (it : Item) (h_pba : ∀ k, W0 (0x38000 + 4 * (k % 64))) (h_GLB_EVTOVF : W0 R.GLB_EVTOVF) (h_QUE_STAT : ∀ i, W0 (R.QUE_STAT i)) (h_QUE_RET : ∀ i, W0 (R.QUE_RET i)) (h_SRF_TCMISS : W0 R.SRF_TCMISS) (h_CHN_PERR : ∀ i, W0 (R.CHN_PERR i)) (h_DRC_ECCSTAT : W0 R.DRC_ECCSTAT) (h_DRC_UEADDR : W0 R.DRC_UEADDR) (h_DRC_HAZSTAT : W0 R.DRC_HAZSTAT) (h_UPD_STAT : W0 R.UPD_STAT) (h0 : RegsBut W0 r0 s) :
    RegsBut W0 r0 (hostimgEntry s it) := by
  unfold hostimgEntry
  repeat' first
    | with_reducible assumption
    | with_reducible apply svcWrite_regs
    | with_reducible apply measExtend_regs
    | with_reducible apply updDone_regs
    | split
    | dsimp only

theorem pushSet_regs {W0 : Nat → Prop} {r0 : State} (s : State) (x : Push) (h0 : RegsBut W0 r0 s) :
    RegsBut W0 r0 (pushSet s x) := by
  unfold pushSet
  repeat' first
    | with_reducible assumption
    | simp only [RegsBut.upd]

theorem pushEnd_regs {W0 : Nat → Prop} {r0 : State} (s : State) (x : Push) (c : Status) (h_pba : ∀ k, W0 (0x38000 + 4 * (k % 64))) (h_QUE_STAT : ∀ i, W0 (R.QUE_STAT i)) (h_QUE_RET : ∀ i, W0 (R.QUE_RET i)) (h_UPD_STAT : W0 R.UPD_STAT) (h0 : RegsBut W0 r0 s) :
    RegsBut W0 r0 (pushEnd s x c) := by
  unfold pushEnd
  repeat' first
    | with_reducible assumption
    | simp only [RegsBut.upd]
    | with_reducible apply updDone_regs

theorem pushLetter_regs {W0 : Nat → Prop} {r0 : State} (s : State) (x : Push) (content : Bytes) (query : Bool) (h0 : RegsBut W0 r0 s) :
    RegsBut W0 r0 (pushLetter s x content query) := by
  unfold pushLetter
  repeat' first
    | with_reducible assumption
    | with_reducible apply newLid_regs
    | with_reducible apply sendLetter_regs
    | with_reducible apply pushSet_regs
    | with_reducible refine RegsBut.of_snd (by with_reducible assumption) ?_
    | with_reducible refine RegsBut.of_snd2 (by with_reducible assumption) ?_
    | split
    | dsimp only

theorem pushGo_regs {W0 : Nat → Prop} {r0 : State} (h_pba : ∀ k, W0 (0x38000 + 4 * (k % 64))) (h_QUE_STAT : ∀ i, W0 (R.QUE_STAT i)) (h_QUE_RET : ∀ i, W0 (R.QUE_RET i)) (h_UPD_STAT : W0 R.UPD_STAT) (y0 : Nat) (y1 : State) (y2 : Push)
    (h0 : RegsBut W0 r0 y1) :
    RegsBut W0 r0 (pushGo y0 y1 y2) := by
  induction y0 generalizing y1 y2 with
  | zero =>
    unfold pushGo
    repeat' first
      | with_reducible assumption
  | succ y0 ih =>
    unfold pushGo
    repeat' first
      | with_reducible assumption
      | simp only [RegsBut.upd]
      | with_reducible apply ih
      | with_reducible apply pushSet_regs
      | with_reducible apply pushEnd_regs
      | with_reducible apply pushLetter_regs
      | with_reducible apply RegsBut.foldl
      | split

theorem pushPump_regs {W0 : Nat → Prop} {r0 : State} (s : State) (h_pba : ∀ k, W0 (0x38000 + 4 * (k % 64))) (h_QUE_STAT : ∀ i, W0 (R.QUE_STAT i)) (h_QUE_RET : ∀ i, W0 (R.QUE_RET i)) (h_UPD_STAT : W0 R.UPD_STAT) (h0 : RegsBut W0 r0 s) :
    RegsBut W0 r0 (pushPump s) := by
  unfold pushPump
  repeat' first
    | with_reducible assumption
    | with_reducible apply pushGo_regs
    | with_reducible apply RegsBut.foldl
    | split
    | dsimp only
    | with_reducible intro _

theorem pushEntry_regs {W0 : Nat → Prop} {r0 : State} (s : State) (it : Item) (host : HostRes) (h_pba : ∀ k, W0 (0x38000 + 4 * (k % 64))) (h_GLB_EVTOVF : W0 R.GLB_EVTOVF) (h_QUE_STAT : ∀ i, W0 (R.QUE_STAT i)) (h_QUE_RET : ∀ i, W0 (R.QUE_RET i)) (h_SRF_TCMISS : W0 R.SRF_TCMISS) (h_CHN_PERR : ∀ i, W0 (R.CHN_PERR i)) (h_DRC_ECCSTAT : W0 R.DRC_ECCSTAT) (h_DRC_UEADDR : W0 R.DRC_UEADDR) (h_UPD_STAT : W0 R.UPD_STAT) (h0 : RegsBut W0 r0 s) :
    RegsBut W0 r0 (pushEntry s it host) := by
  unfold pushEntry
  repeat' first
    | with_reducible assumption
    | simp only [RegsBut.upd]
    | with_reducible apply drawBytes_regs
    | with_reducible apply updDone_regs
    | with_reducible apply updFetch_regs
    | with_reducible apply pushGo_regs
    | with_reducible refine RegsBut.of_snd (by with_reducible assumption) ?_
    | with_reducible refine RegsBut.of_snd2 (by with_reducible assumption) ?_
    | split

theorem pushReply_regs {W0 : Nat → Prop} {r0 : State} (s : State) (x : Push) (c : Bytes) (query : Bool) (h_pba : ∀ k, W0 (0x38000 + 4 * (k % 64))) (h_QUE_STAT : ∀ i, W0 (R.QUE_STAT i)) (h_QUE_RET : ∀ i, W0 (R.QUE_RET i)) (h_UPD_STAT : W0 R.UPD_STAT) (h0 : RegsBut W0 r0 s) :
    RegsBut W0 r0 (pushReply s x c query) := by
  unfold pushReply
  repeat' first
    | with_reducible assumption
    | with_reducible apply pushSet_regs
    | with_reducible apply pushEnd_regs
    | with_reducible apply pushGo_regs
    | split
    | dsimp only

theorem pushReplyStep_regs {W0 : Nat → Prop} {r0 : State} (s : State) (h_pba : ∀ k, W0 (0x38000 + 4 * (k % 64))) (h_QUE_STAT : ∀ i, W0 (R.QUE_STAT i)) (h_QUE_RET : ∀ i, W0 (R.QUE_RET i)) (h_UPD_STAT : W0 R.UPD_STAT) (h0 : RegsBut W0 r0 s) :
    RegsBut W0 r0 (pushReplyStep s) := by
  unfold pushReplyStep
  repeat' first
    | with_reducible assumption
    | with_reducible refine takeLetter_regs (hx := by with_reducible assumption) ?_
    | with_reducible refine openReply_regs (hx := by with_reducible assumption) ?_
    | with_reducible apply pushReply_regs
    | split

theorem recoveryGo_regs {W0 : Nat → Prop} {r0 : State} (s : State) (h_GLB_BOOTSTAT : W0 R.GLB_BOOTSTAT) (h_UPD_STAT : W0 R.UPD_STAT) (h_UPD_RECOV : W0 R.UPD_RECOV) (h0 : RegsBut W0 r0 s) :
    RegsBut W0 r0 (recoveryGo s) := by
  unfold recoveryGo
  repeat' first
    | with_reducible assumption
    | with_reducible exact h_GLB_BOOTSTAT
    | with_reducible exact h_UPD_STAT
    | with_reducible exact h_UPD_RECOV
    | with_reducible apply setF_regs
    | with_reducible apply measExtend_regs
    | split
    | dsimp only

theorem whenUpd_regs {W0 : Nat → Prop} {r0 : State} (s : State) (f : State → State) (h_f : ∀ (x0 : State), RegsBut W0 r0 x0 → RegsBut W0 r0 (f x0)) {t0 : State} (h0 : RegsBut W0 r0 s) (ht : whenUpd s f = .next t0) :
    RegsBut W0 r0 t0 := by
  unfold whenUpd at ht
  apply whenOn_regs (ht := ht)
  repeat' first
    | with_reducible assumption

theorem onParcel_regs {W0 : Nat → Prop} {r0 : State} (s : State) (op : Nat) (f : State → Letter → State) (h_f : ∀ (x0 : State) (x1 : Letter), RegsBut W0 r0 x0 → RegsBut W0 r0 (f x0 x1)) (h0 : RegsBut W0 r0 s) :
    RegsBut W0 r0 (onParcel s op f) := by
  unfold onParcel
  repeat' first
    | with_reducible assumption
    | with_reducible apply h_f
    | with_reducible refine takeLetter_regs (hx := by with_reducible assumption) ?_
    | split

theorem execParcelData_regs {W0 : Nat → Prop} {r0 : State} (s : State) (h_pba : ∀ k, W0 (0x38000 + 4 * (k % 64))) (h_GLB_EVTOVF : W0 R.GLB_EVTOVF) (h_CHN_LSTAT : W0 R.CHN_LSTAT) (h_CHN_PERR : ∀ i, W0 (R.CHN_PERR i)) (h_UPD_STAT : W0 R.UPD_STAT) (h_UPD_HELD : W0 R.UPD_HELD) (h_UPD_PKGID : ∀ i, W0 (R.UPD_PKGID i)) (h_NVM_STAT : W0 R.NVM_STAT) {t0 : State} (h0 : RegsBut W0 r0 s) (ht : execParcelData s = .next t0) :
    RegsBut W0 r0 t0 := by
  unfold execParcelData at ht
  apply whenUpd_regs (ht := ht)
  repeat' first
    | with_reducible assumption
    | with_reducible apply parcelData_regs
    | with_reducible apply onParcel_regs
    | split
    | dsimp only
    | with_reducible intro _

theorem execParcelQuery_regs {W0 : Nat → Prop} {r0 : State} (s : State) (h_CHN_LSTAT : W0 R.CHN_LSTAT) (h_CHN_PERR : ∀ i, W0 (R.CHN_PERR i)) (h_UPD_STAT : W0 R.UPD_STAT) {t0 : State} (h0 : RegsBut W0 r0 s) (ht : execParcelQuery s = .next t0) :
    RegsBut W0 r0 t0 := by
  unfold execParcelQuery at ht
  apply whenUpd_regs (ht := ht)
  repeat' first
    | with_reducible assumption
    | with_reducible apply parcelQuery_regs
    | with_reducible apply onParcel_regs
    | split
    | dsimp only
    | with_reducible intro _

theorem execParcelArm_regs {W0 : Nat → Prop} {r0 : State} (s : State) (h_pba : ∀ k, W0 (0x38000 + 4 * (k % 64))) (h_GLB_YIELDCNT : W0 R.GLB_YIELDCNT) (h_GLB_YIELDLAST : W0 R.GLB_YIELDLAST) (h_GLB_YIELDFRM : W0 R.GLB_YIELDFRM) (h_GLB_EVTOVF : W0 R.GLB_EVTOVF) (h_QUE_STAT : ∀ i, W0 (R.QUE_STAT i)) (h_QUE_RET : ∀ i, W0 (R.QUE_RET i)) (h_CHN_LSTAT : W0 R.CHN_LSTAT) (h_CHN_PERR : ∀ i, W0 (R.CHN_PERR i)) (h_UPD_STAT : W0 R.UPD_STAT) (h_UPD_AFRAME : W0 R.UPD_AFRAME) (h_NVM_STAT : W0 R.NVM_STAT) {t0 : State} (h0 : RegsBut W0 r0 s) (ht : execParcelArm s = .next t0) :
    RegsBut W0 r0 t0 := by
  unfold execParcelArm at ht
  apply whenUpd_regs (ht := ht)
  repeat' first
    | with_reducible assumption
    | with_reducible apply parcelArm_regs
    | with_reducible apply onParcel_regs
    | split
    | dsimp only
    | with_reducible intro _

theorem execParcelAbandon_regs {W0 : Nat → Prop} {r0 : State} (s : State) (h_pba : ∀ k, W0 (0x38000 + 4 * (k % 64))) (h_GLB_EVTOVF : W0 R.GLB_EVTOVF) (h_QUE_STAT : ∀ i, W0 (R.QUE_STAT i)) (h_QUE_RET : ∀ i, W0 (R.QUE_RET i)) (h_CHN_LSTAT : W0 R.CHN_LSTAT) (h_CHN_PERR : ∀ i, W0 (R.CHN_PERR i)) (h_UPD_STAT : W0 R.UPD_STAT) (h_UPD_HELD : W0 R.UPD_HELD) (h_UPD_AFRAME : W0 R.UPD_AFRAME) (h_UPD_PKGID : ∀ i, W0 (R.UPD_PKGID i)) {t0 : State} (h0 : RegsBut W0 r0 s) (ht : execParcelAbandon s = .next t0) :
    RegsBut W0 r0 t0 := by
  unfold execParcelAbandon at ht
  apply whenUpd_regs (ht := ht)
  repeat' first
    | with_reducible assumption
    | with_reducible apply parcelAbandon_regs
    | with_reducible apply onParcel_regs
    | split
    | dsimp only
    | with_reducible intro _

theorem execStageEntry_regs {W0 : Nat → Prop} {r0 : State} (host : HostRes) (s : State) (h_pba : ∀ k, W0 (0x38000 + 4 * (k % 64))) (h_GLB_EVTOVF : W0 R.GLB_EVTOVF) (h_QUE_STAT : ∀ i, W0 (R.QUE_STAT i)) (h_QUE_RET : ∀ i, W0 (R.QUE_RET i)) (h_SOR_TGTSTAT : ∀ i, W0 (R.SOR_TGTSTAT i)) (h_SRF_TCMISS : W0 R.SRF_TCMISS) (h_CHN_PERR : ∀ i, W0 (R.CHN_PERR i)) (h_DRC_ECCSTAT : W0 R.DRC_ECCSTAT) (h_DRC_UEADDR : W0 R.DRC_UEADDR) (h_UPD_STAT : W0 R.UPD_STAT) (h_UPD_HELD : W0 R.UPD_HELD) (h_UPD_PKGID : ∀ i, W0 (R.UPD_PKGID i)) (h_NVM_STAT : W0 R.NVM_STAT) {t0 : State} (h0 : RegsBut W0 r0 s) (ht : execStageEntry host s = .next t0) :
    RegsBut W0 r0 t0 := by
  unfold execStageEntry at ht
  apply whenUpd_regs (ht := ht)
  repeat' first
    | with_reducible assumption
    | with_reducible apply onEntryRead_regs
    | with_reducible apply stageEntry_regs
    | split
    | dsimp only
    | with_reducible intro _

theorem execPushEntry_regs {W0 : Nat → Prop} {r0 : State} (host : HostRes) (s : State) (h_pba : ∀ k, W0 (0x38000 + 4 * (k % 64))) (h_GLB_EVTOVF : W0 R.GLB_EVTOVF) (h_QUE_STAT : ∀ i, W0 (R.QUE_STAT i)) (h_QUE_RET : ∀ i, W0 (R.QUE_RET i)) (h_SOR_TGTSTAT : ∀ i, W0 (R.SOR_TGTSTAT i)) (h_SRF_TCMISS : W0 R.SRF_TCMISS) (h_CHN_PERR : ∀ i, W0 (R.CHN_PERR i)) (h_DRC_ECCSTAT : W0 R.DRC_ECCSTAT) (h_DRC_UEADDR : W0 R.DRC_UEADDR) (h_UPD_STAT : W0 R.UPD_STAT) {t0 : State} (h0 : RegsBut W0 r0 s) (ht : execPushEntry host s = .next t0) :
    RegsBut W0 r0 t0 := by
  unfold execPushEntry at ht
  apply whenUpd_regs (ht := ht)
  repeat' first
    | with_reducible assumption
    | with_reducible apply onEntryRead_regs
    | with_reducible apply pushEntry_regs
    | split
    | dsimp only
    | with_reducible intro _

theorem execPushReply_regs {W0 : Nat → Prop} {r0 : State} (s : State) (h_pba : ∀ k, W0 (0x38000 + 4 * (k % 64))) (h_QUE_STAT : ∀ i, W0 (R.QUE_STAT i)) (h_QUE_RET : ∀ i, W0 (R.QUE_RET i)) (h_UPD_STAT : W0 R.UPD_STAT) {t0 : State} (h0 : RegsBut W0 r0 s) (ht : execPushReply s = .next t0) :
    RegsBut W0 r0 t0 := by
  unfold execPushReply at ht
  apply whenUpd_regs (ht := ht)
  repeat' first
    | with_reducible assumption
    | with_reducible apply pushReplyStep_regs
    | split
    | dsimp only
    | with_reducible intro _

theorem execActivateEntry_regs {W0 : Nat → Prop} {r0 : State} (s : State) (h_pba : ∀ k, W0 (0x38000 + 4 * (k % 64))) (h_GLB_YIELDCNT : W0 R.GLB_YIELDCNT) (h_GLB_YIELDLAST : W0 R.GLB_YIELDLAST) (h_GLB_YIELDFRM : W0 R.GLB_YIELDFRM) (h_GLB_EVTOVF : W0 R.GLB_EVTOVF) (h_QUE_STAT : ∀ i, W0 (R.QUE_STAT i)) (h_QUE_RET : ∀ i, W0 (R.QUE_RET i)) (h_SOR_TGTSTAT : ∀ i, W0 (R.SOR_TGTSTAT i)) (h_CHN_PERR : ∀ i, W0 (R.CHN_PERR i)) (h_UPD_STAT : W0 R.UPD_STAT) (h_UPD_AFRAME : W0 R.UPD_AFRAME) (h_NVM_STAT : W0 R.NVM_STAT) {t0 : State} (h0 : RegsBut W0 r0 s) (ht : execActivateEntry s = .next t0) :
    RegsBut W0 r0 t0 := by
  unfold execActivateEntry at ht
  apply whenUpd_regs (ht := ht)
  repeat' first
    | with_reducible assumption
    | with_reducible apply onEntry_regs
    | with_reducible apply activateEntry_regs
    | split
    | dsimp only
    | with_reducible intro _

theorem execConfirmEntry_regs {W0 : Nat → Prop} {r0 : State} (s : State) (h_pba : ∀ k, W0 (0x38000 + 4 * (k % 64))) (h_QUE_STAT : ∀ i, W0 (R.QUE_STAT i)) (h_QUE_RET : ∀ i, W0 (R.QUE_RET i)) (h_SOR_TGTSTAT : ∀ i, W0 (R.SOR_TGTSTAT i)) (h_UPD_STAT : W0 R.UPD_STAT) {t0 : State} (h0 : RegsBut W0 r0 s) (ht : execConfirmEntry s = .next t0) :
    RegsBut W0 r0 t0 := by
  unfold execConfirmEntry at ht
  apply whenUpd_regs (ht := ht)
  repeat' first
    | with_reducible assumption
    | with_reducible apply onEntry_regs
    | with_reducible apply confirmEntry_regs
    | split
    | dsimp only
    | with_reducible intro _

theorem execAbandonEntry_regs {W0 : Nat → Prop} {r0 : State} (s : State) (h_pba : ∀ k, W0 (0x38000 + 4 * (k % 64))) (h_GLB_EVTOVF : W0 R.GLB_EVTOVF) (h_QUE_STAT : ∀ i, W0 (R.QUE_STAT i)) (h_QUE_RET : ∀ i, W0 (R.QUE_RET i)) (h_SOR_TGTSTAT : ∀ i, W0 (R.SOR_TGTSTAT i)) (h_CHN_PERR : ∀ i, W0 (R.CHN_PERR i)) (h_UPD_STAT : W0 R.UPD_STAT) (h_UPD_HELD : W0 R.UPD_HELD) (h_UPD_AFRAME : W0 R.UPD_AFRAME) (h_UPD_PKGID : ∀ i, W0 (R.UPD_PKGID i)) {t0 : State} (h0 : RegsBut W0 r0 s) (ht : execAbandonEntry s = .next t0) :
    RegsBut W0 r0 t0 := by
  unfold execAbandonEntry at ht
  apply whenUpd_regs (ht := ht)
  repeat' first
    | with_reducible assumption
    | with_reducible apply onEntry_regs
    | with_reducible apply abandonEntry_regs
    | split
    | dsimp only
    | with_reducible intro _

theorem execHostimgEntry_regs {W0 : Nat → Prop} {r0 : State} (s : State) (h_pba : ∀ k, W0 (0x38000 + 4 * (k % 64))) (h_GLB_EVTOVF : W0 R.GLB_EVTOVF) (h_QUE_STAT : ∀ i, W0 (R.QUE_STAT i)) (h_QUE_RET : ∀ i, W0 (R.QUE_RET i)) (h_SOR_TGTSTAT : ∀ i, W0 (R.SOR_TGTSTAT i)) (h_SRF_TCMISS : W0 R.SRF_TCMISS) (h_CHN_PERR : ∀ i, W0 (R.CHN_PERR i)) (h_DRC_ECCSTAT : W0 R.DRC_ECCSTAT) (h_DRC_UEADDR : W0 R.DRC_UEADDR) (h_DRC_HAZSTAT : W0 R.DRC_HAZSTAT) (h_UPD_STAT : W0 R.UPD_STAT) {t0 : State} (h0 : RegsBut W0 r0 s) (ht : execHostimgEntry s = .next t0) :
    RegsBut W0 r0 t0 := by
  unfold execHostimgEntry at ht
  apply whenUpd_regs (ht := ht)
  repeat' first
    | with_reducible assumption
    | with_reducible apply onEntry_regs
    | with_reducible apply hostimgEntry_regs
    | split
    | dsimp only
    | with_reducible intro _

theorem execVerifyDone_regs {W0 : Nat → Prop} {r0 : State} (s : State) (h_pba : ∀ k, W0 (0x38000 + 4 * (k % 64))) (h_GLB_EVTOVF : W0 R.GLB_EVTOVF) (h_CHN_PERR : ∀ i, W0 (R.CHN_PERR i)) (h_UPD_STAT : W0 R.UPD_STAT) (h_UPD_HELD : W0 R.UPD_HELD) (h_UPD_PKGID : ∀ i, W0 (R.UPD_PKGID i)) (h_NVM_STAT : W0 R.NVM_STAT) {t0 : State} (h0 : RegsBut W0 r0 s) (ht : execVerifyDone s = .next t0) :
    RegsBut W0 r0 t0 := by
  unfold execVerifyDone at ht
  apply whenUpd_regs (ht := ht)
  repeat' first
    | with_reducible assumption
    | with_reducible apply verifyStep_regs
    | split
    | dsimp only
    | with_reducible intro _

theorem execActivationInstant_regs {W0 : Nat → Prop} {r0 : State} (dt : Nat) (s : State) (h_pba : ∀ k, W0 (0x38000 + 4 * (k % 64))) (h_GLB_EVTOVF : W0 R.GLB_EVTOVF) (h_QUE_STAT : ∀ i, W0 (R.QUE_STAT i)) (h_QUE_RET : ∀ i, W0 (R.QUE_RET i)) (h_SOR_GSTAT : W0 R.SOR_GSTAT) (h_CHN_PERR : ∀ i, W0 (R.CHN_PERR i)) (h_UPD_STAT : W0 R.UPD_STAT) (h_UPD_AFRAME : W0 R.UPD_AFRAME) (h_NVM_STAT : W0 R.NVM_STAT) {t0 : State} (h0 : RegsBut W0 r0 s) (ht : execActivationInstant dt s = .next t0) :
    RegsBut W0 r0 t0 := by
  unfold execActivationInstant at ht
  apply whenUpd_regs (ht := ht)
  repeat' first
    | with_reducible assumption
    | with_reducible apply advance_regs
    | with_reducible apply activationStep_regs
    | split
    | dsimp only
    | with_reducible intro _

theorem execTrialConfirm_regs {W0 : Nat → Prop} {r0 : State} (s : State) (h_NVM_STAT : W0 R.NVM_STAT) {t0 : State} (h0 : RegsBut W0 r0 s) (ht : execTrialConfirm s = .next t0) :
    RegsBut W0 r0 t0 := by
  unfold execTrialConfirm at ht
  apply whenUpd_regs (ht := ht)
  repeat' first
    | with_reducible assumption
    | with_reducible apply trialConfirm_regs
    | split
    | dsimp only
    | with_reducible intro _

theorem execConfirmWindowExpiry_regs {W0 : Nat → Prop} {r0 : State} (dt : Nat) (s : State) (h_pba : ∀ k, W0 (0x38000 + 4 * (k % 64))) (h_GLB_RSTCAUSE : W0 R.GLB_RSTCAUSE) (h_GLB_EVTOVF : W0 R.GLB_EVTOVF) (h_QUE_STAT : ∀ i, W0 (R.QUE_STAT i)) (h_QUE_RET : ∀ i, W0 (R.QUE_RET i)) (h_SOR_GSTAT : W0 R.SOR_GSTAT) (h_SRF_STAT : W0 R.SRF_STAT) (h_SRF_FREEPG : W0 R.SRF_FREEPG) (h_SRF_RETIRED : W0 R.SRF_RETIRED) (h_CHN_PERR : ∀ i, W0 (R.CHN_PERR i)) (h_SPK_SPKSTAT : ∀ i, W0 (R.SPK_SPKSTAT i)) {t0 : State} (h0 : RegsBut W0 r0 s) (ht : execConfirmWindowExpiry dt s = .next t0) :
    RegsBut W0 r0 t0 := by
  unfold execConfirmWindowExpiry at ht
  apply whenUpd_regs (ht := ht)
  repeat' first
    | with_reducible assumption
    | with_reducible apply advance_regs
    | with_reducible apply confirmExpiry_regs
    | split
    | dsimp only
    | with_reducible intro _

theorem execFlashOperationDone_regs {W0 : Nat → Prop} {r0 : State} (ok : Bool) (s : State) (h_pba : ∀ k, W0 (0x38000 + 4 * (k % 64))) (h_GLB_RSTCAUSE : W0 R.GLB_RSTCAUSE) (h_GLB_EVTOVF : W0 R.GLB_EVTOVF) (h_QUE_STAT : ∀ i, W0 (R.QUE_STAT i)) (h_QUE_RET : ∀ i, W0 (R.QUE_RET i)) (h_SRF_STAT : W0 R.SRF_STAT) (h_SRF_FREEPG : W0 R.SRF_FREEPG) (h_SRF_RETIRED : W0 R.SRF_RETIRED) (h_CHN_LSTAT : W0 R.CHN_LSTAT) (h_CHN_PERR : ∀ i, W0 (R.CHN_PERR i)) (h_SPK_SPKSTAT : ∀ i, W0 (R.SPK_SPKSTAT i)) (h_UPD_STAT : W0 R.UPD_STAT) (h_UPD_HELD : W0 R.UPD_HELD) (h_UPD_BUILD : W0 R.UPD_BUILD) (h_UPD_PKGID : ∀ i, W0 (R.UPD_PKGID i)) (h_NVM_STAT : W0 R.NVM_STAT) {t0 : State} (h0 : RegsBut W0 r0 s) (ht : execFlashOperationDone ok s = .next t0) :
    RegsBut W0 r0 t0 := by
  unfold execFlashOperationDone at ht
  apply whenUpd_regs (ht := ht)
  repeat' first
    | with_reducible assumption
    | with_reducible apply flashDone_regs
    | split
    | dsimp only
    | with_reducible intro _

theorem execOrderlyShutdown_regs {W0 : Nat → Prop} {r0 : State} (s : State) (h_pba : ∀ k, W0 (0x38000 + 4 * (k % 64))) (h_GLB_RSTCAUSE : W0 R.GLB_RSTCAUSE) (h_GLB_EVTOVF : W0 R.GLB_EVTOVF) (h_HIF_LINKSTAT : W0 R.HIF_LINKSTAT) (h_QUE_STAT : ∀ i, W0 (R.QUE_STAT i)) (h_QUE_RET : ∀ i, W0 (R.QUE_RET i)) (h_SRF_STAT : W0 R.SRF_STAT) (h_SRF_FREEPG : W0 R.SRF_FREEPG) (h_SRF_RETIRED : W0 R.SRF_RETIRED) (h_CHN_LSTAT : W0 R.CHN_LSTAT) (h_CHN_PERR : ∀ i, W0 (R.CHN_PERR i)) (h_SPK_SPKSTAT : ∀ i, W0 (R.SPK_SPKSTAT i)) (h_DRC_CHSTAT : ∀ i, W0 (R.DRC_CHSTAT i)) (h_THM_PWR : W0 R.THM_PWR) (h_UPD_STAT : W0 R.UPD_STAT) (h_UPD_HELD : W0 R.UPD_HELD) (h_UPD_BUILD : W0 R.UPD_BUILD) (h_UPD_PKGID : ∀ i, W0 (R.UPD_PKGID i)) (h_NVM_STAT : W0 R.NVM_STAT) {t0 : State} (h0 : RegsBut W0 r0 s) (ht : execOrderlyShutdown s = .next t0) :
    RegsBut W0 r0 t0 := by
  unfold execOrderlyShutdown at ht
  apply whenOn_regs (ht := ht)
  repeat' first
    | with_reducible assumption
    | with_reducible apply orderlyShutdown_regs
    | split
    | dsimp only
    | with_reducible intro _

end Sys2Proof.Machine
end

