-- ==== Sys2Proof/Laws/RegsBoot.lean ====
section
/-! SUPPORT. Which registers each operation of Machine/Boot.lean may write. -/

namespace Sys2Proof.Machine

theorem keepF_regs {W0 : Nat → Prop} {r0 : State} (old s : State) (f : Fld) (h_f : W0 f.off) (h0 : RegsBut W0 r0 s) :
    RegsBut W0 r0 (keepF old s f) := setF_regs s f _ h_f h0

theorem resetCore_regs {W0 : Nat → Prop} {r0 : State} (s : State) (h_all : ∀ off, W0 off) (h0 : RegsBut W0 r0 s) :
    RegsBut W0 r0 (resetCore s) := by
  exact RegsBut.all h_all

theorem padsOff_regs {W0 : Nat → Prop} {r0 : State} (s : State) (h_pba : ∀ k, W0 (0x38000 + 4 * (k % 64))) (h_QUE_STAT : ∀ i, W0 (R.QUE_STAT i)) (h_QUE_RET : ∀ i, W0 (R.QUE_RET i)) (h_SRF_STAT : W0 R.SRF_STAT) (h_SRF_FREEPG : W0 R.SRF_FREEPG) (h_SRF_RETIRED : W0 R.SRF_RETIRED) (h_SPK_SPKSTAT : ∀ i, W0 (R.SPK_SPKSTAT i)) (h0 : RegsBut W0 r0 s) :
    RegsBut W0 r0 (padsOff s) := by
  unfold padsOff
  repeat' first
    | with_reducible assumption
    | with_reducible apply emit_regs
    | with_reducible apply displayOff_regs
    | with_reducible apply RegsBut.foldl
    | split
    | dsimp only
    | with_reducible intro _

theorem coldReset_regs {W0 : Nat → Prop} {r0 : State} (s : State) (h_all : ∀ off, W0 off) (h0 : RegsBut W0 r0 s) :
    RegsBut W0 r0 (coldReset s) := by
  exact RegsBut.all h_all

theorem warmKeep_regs {W0 : Nat → Prop} {r0 : State} (s r : State) (h0 : RegsBut W0 r0 r) : RegsBut W0 r0 (warmKeep s r) := h0

theorem warmAssert_regs {W0 : Nat → Prop} {r0 : State} (s : State) (h_all : ∀ off, W0 off) (h0 : RegsBut W0 r0 s) :
    RegsBut W0 r0 (warmAssert s) := by
  exact RegsBut.all h_all

theorem bootStart_regs {W0 : Nat → Prop} {r0 : State} (s : State) (warm : Bool) (h_GLB_ROLE : W0 R.GLB_ROLE) (h_GLB_BOOTSTAT : W0 R.GLB_BOOTSTAT) (h_TIM_PGCFG : ∀ i, W0 (R.TIM_PGCFG i)) (h0 : RegsBut W0 r0 s) :
    RegsBut W0 r0 (bootStart s warm) := by
  unfold bootStart
  repeat' first
    | with_reducible assumption
    | simp only [RegsBut.boot]
    | with_reducible exact h_GLB_ROLE
    | with_reducible exact h_GLB_BOOTSTAT
    | with_reducible exact h_TIM_PGCFG _
    | with_reducible apply setF_regs
    | split

theorem railsGone_regs {W0 : Nat → Prop} {r0 : State} (s : State) (l : List Nat) (h0 : RegsBut W0 r0 s) :
    RegsBut W0 r0 (railsGone s l) := by
  unfold railsGone
  repeat' first
    | with_reducible assumption
    | simp only [RegsBut.boot]

theorem railFault_regs {W0 : Nat → Prop} {r0 : State} (s : State) (mask : Nat) (h_all : ∀ off, W0 off) (h0 : RegsBut W0 r0 s) :
    RegsBut W0 r0 (railFault s mask) := by
  exact RegsBut.all h_all

theorem railWarn_regs {W0 : Nat → Prop} {r0 : State} (s : State) (k : Nat) (below : Bool) (h_pba : ∀ k, W0 (0x38000 + 4 * (k % 64))) (h_GLB_RAILSTAT : W0 R.GLB_RAILSTAT) (h_GLB_EVTOVF : W0 R.GLB_EVTOVF) (h_CHN_PERR : ∀ i, W0 (R.CHN_PERR i)) (h0 : RegsBut W0 r0 s) :
    RegsBut W0 r0 (railWarn s k below) := by
  unfold railWarn
  repeat' first
    | with_reducible assumption
    | simp only [RegsBut.boot]
    | with_reducible exact h_GLB_RAILSTAT
    | with_reducible apply setBitF_regs
    | with_reducible apply raise_regs
    | split

theorem aonApply_regs {W0 : Nat → Prop} {r0 : State} (s : State) (h_GLB_RSTCAUSE : W0 R.GLB_RSTCAUSE) (h_THM_TRIP : W0 R.THM_TRIP) (h0 : RegsBut W0 r0 s) :
    RegsBut W0 r0 (aonApply s) := by
  unfold aonApply
  repeat' first
    | with_reducible assumption
    | simp only [RegsBut.boot_upd]
    | with_reducible exact h_GLB_RSTCAUSE
    | with_reducible exact h_THM_TRIP
    | with_reducible apply setWord_regs

theorem hardwareTrip_regs {W0 : Nat → Prop} {r0 : State} (s : State) (k : Nat) (h_all : ∀ off, W0 off) (h0 : RegsBut W0 r0 s) :
    RegsBut W0 r0 (hardwareTrip s k) := by
  exact RegsBut.all h_all

theorem pwronAssert_regs {W0 : Nat → Prop} {r0 : State} (s : State) (h_all : ∀ off, W0 off) (h0 : RegsBut W0 r0 s) :
    RegsBut W0 r0 (pwronAssert s) := by
  exact RegsBut.all h_all

theorem coldRelease_regs {W0 : Nat → Prop} {r0 : State} (s : State) (sel : Nat) (uci : Bool) (h_GLB_ROLE : W0 R.GLB_ROLE) (h_GLB_RSTCAUSE : W0 R.GLB_RSTCAUSE) (h_GLB_BOOTSTAT : W0 R.GLB_BOOTSTAT) (h_TIM_PGCFG : ∀ i, W0 (R.TIM_PGCFG i)) (h0 : RegsBut W0 r0 s) :
    RegsBut W0 r0 (coldRelease s sel uci) := by
  unfold coldRelease
  repeat' first
    | with_reducible assumption
    | simp only [RegsBut.boot, RegsBut.lnk]
    | with_reducible exact h_GLB_ROLE
    | with_reducible exact h_GLB_RSTCAUSE
    | with_reducible apply setF_regs
    | with_reducible apply drawNat_regs
    | with_reducible apply bootStart_regs
    | with_reducible refine RegsBut.of_snd (by with_reducible assumption) ?_
    | with_reducible refine RegsBut.of_snd2 (by with_reducible assumption) ?_
    | split

theorem warmRelease_regs {W0 : Nat → Prop} {r0 : State} (s : State) (h_GLB_ROLE : W0 R.GLB_ROLE) (h_GLB_BOOTSTAT : W0 R.GLB_BOOTSTAT) (h_TIM_PGCFG : ∀ i, W0 (R.TIM_PGCFG i)) (h0 : RegsBut W0 r0 s) :
    RegsBut W0 r0 (warmRelease s) := by
  unfold warmRelease
  repeat' first
    | with_reducible assumption
    | simp only [RegsBut.boot]
    | with_reducible apply bootStart_regs

theorem refClkLoss_regs {W0 : Nat → Prop} {r0 : State} (s : State) (h_pba : ∀ k, W0 (0x38000 + 4 * (k % 64))) (h_GLB_EVTOVF : W0 R.GLB_EVTOVF) (h_CLK_LOCK : W0 R.CLK_LOCK) (h_CHN_PERR : ∀ i, W0 (R.CHN_PERR i)) (h0 : RegsBut W0 r0 s) :
    RegsBut W0 r0 (refClkLoss s) := by
  unfold refClkLoss
  repeat' first
    | with_reducible assumption
    | with_reducible exact h_CLK_LOCK
    | with_reducible apply setF_regs
    | with_reducible apply raise_regs
    | split
    | dsimp only

theorem refClkGood_regs {W0 : Nat → Prop} {r0 : State} (s : State) (h_CLK_LOCK : W0 R.CLK_LOCK) (h0 : RegsBut W0 r0 s) :
    RegsBut W0 r0 (refClkGood s) := by
  unfold refClkGood
  repeat' first
    | with_reducible assumption
    | with_reducible exact h_CLK_LOCK
    | with_reducible apply setF_regs

theorem pllUnlock_regs {W0 : Nat → Prop} {r0 : State} (s : State) (k : Nat) (h_CLK_LOCK : W0 R.CLK_LOCK) (h0 : RegsBut W0 r0 s) :
    RegsBut W0 r0 (pllUnlock s k) := by
  unfold pllUnlock
  repeat' first
    | with_reducible assumption
    | with_reducible exact h_CLK_LOCK
    | with_reducible apply setBitF_regs
    | split

theorem ucieStart_regs {W0 : Nat → Prop} {r0 : State} (s : State) (h0 : RegsBut W0 r0 s) :
    RegsBut W0 r0 (ucieStart s) := by
  unfold ucieStart
  repeat' first
    | with_reducible assumption
    | simp only [RegsBut.boot]

theorem ucieOpen_regs {W0 : Nat → Prop} {r0 : State} (s : State) (h0 : RegsBut W0 r0 s) :
    RegsBut W0 r0 (ucieOpen s) := by
  unfold ucieOpen
  repeat' first
    | with_reducible assumption
    | simp only [RegsBut.boot]
    | with_reducible apply ucieStart_regs

theorem setBootStage_regs {W0 : Nat → Prop} {r0 : State} (s : State) (k : Nat) (h_GLB_BOOTSTAT : W0 R.GLB_BOOTSTAT) (h0 : RegsBut W0 r0 s) :
    RegsBut W0 r0 (setBootStage s k) := by
  unfold setBootStage
  repeat' first
    | with_reducible assumption
    | with_reducible exact h_GLB_BOOTSTAT
    | with_reducible apply setF_regs

theorem failCode_regs {W0 : Nat → Prop} {r0 : State} (s : State) (c : Status) (h_GLB_BOOTSTAT : W0 R.GLB_BOOTSTAT) (h0 : RegsBut W0 r0 s) :
    RegsBut W0 r0 (failCode s c) := by
  unfold failCode
  repeat' first
    | with_reducible assumption
    | with_reducible exact h_GLB_BOOTSTAT
    | with_reducible apply setF_regs

theorem bootFail_regs {W0 : Nat → Prop} {r0 : State} (s : State) (c : Status) (h_GLB_BOOTSTAT : W0 R.GLB_BOOTSTAT) (h0 : RegsBut W0 r0 s) :
    RegsBut W0 r0 (bootFail s c) := by
  unfold bootFail
  repeat' first
    | with_reducible assumption
    | with_reducible apply ucieOpen_regs
    | with_reducible apply setBootStage_regs
    | with_reducible apply failCode_regs

theorem startPorts_regs {W0 : Nat → Prop} {r0 : State} (s : State) (ports : List Nat) (all : Bool) (h_LNK_CFG : W0 R.LNK_CFG) (h_LNK_PCTL : ∀ i, W0 (R.LNK_PCTL i)) (h_LNK_PSTAT : ∀ i, W0 (R.LNK_PSTAT i)) (h0 : RegsBut W0 r0 s) :
    RegsBut W0 r0 (startPorts s ports all) := by
  unfold startPorts
  repeat' first
    | with_reducible assumption
    | with_reducible exact h_LNK_CFG
    | with_reducible exact h_LNK_PCTL _
    | with_reducible apply setWord_regs
    | with_reducible apply setF_regs
    | with_reducible apply toDetect_regs
    | with_reducible apply RegsBut.foldl
    | split
    | dsimp only
    | with_reducible intro _

theorem toReady_regs {W0 : Nat → Prop} {r0 : State} (s : State) (ms : Nat) (h_pba : ∀ k, W0 (0x38000 + 4 * (k % 64))) (h_GLB_ROLE : W0 R.GLB_ROLE) (h_GLB_BOOTSTAT : W0 R.GLB_BOOTSTAT) (h_GLB_EVTOVF : W0 R.GLB_EVTOVF) (h_CHN_PERR : ∀ i, W0 (R.CHN_PERR i)) (h_LNK_CFG : W0 R.LNK_CFG) (h_LNK_PCTL : ∀ i, W0 (R.LNK_PCTL i)) (h_LNK_PSTAT : ∀ i, W0 (R.LNK_PSTAT i)) (h0 : RegsBut W0 r0 s) :
    RegsBut W0 r0 (toReady s ms) := by
  unfold toReady
  repeat' first
    | with_reducible assumption
    | simp only [RegsBut.upd]
    | with_reducible exact h_GLB_ROLE
    | with_reducible exact h_GLB_BOOTSTAT
    | with_reducible apply setF_regs
    | with_reducible apply raise_regs
    | with_reducible apply fuseSvn_regs
    | with_reducible apply setBootStage_regs
    | with_reducible apply startPorts_regs
    | split

theorem ucieFail_regs {W0 : Nat → Prop} {r0 : State} (s : State) (h_GLB_ROLE : W0 R.GLB_ROLE) (h0 : RegsBut W0 r0 s) :
    RegsBut W0 r0 (ucieFail s) := by
  unfold ucieFail
  repeat' first
    | with_reducible assumption
    | simp only [RegsBut.boot]
    | with_reducible exact h_GLB_ROLE
    | with_reducible apply incSat_regs

theorem ucieUp_regs {W0 : Nat → Prop} {r0 : State} (s : State) (mods : Nat) (rate : Nat) (ms : Nat) (h_pba : ∀ k, W0 (0x38000 + 4 * (k % 64))) (h_GLB_ROLE : W0 R.GLB_ROLE) (h_GLB_BOOTSTAT : W0 R.GLB_BOOTSTAT) (h_GLB_EVTOVF : W0 R.GLB_EVTOVF) (h_HIF_LINKSTAT : W0 R.HIF_LINKSTAT) (h_CHN_PERR : ∀ i, W0 (R.CHN_PERR i)) (h_LNK_CFG : W0 R.LNK_CFG) (h_LNK_PCTL : ∀ i, W0 (R.LNK_PCTL i)) (h_LNK_PSTAT : ∀ i, W0 (R.LNK_PSTAT i)) (h0 : RegsBut W0 r0 s) :
    RegsBut W0 r0 (ucieUp s mods rate ms) := by
  unfold ucieUp
  repeat' first
    | with_reducible assumption
    | simp only [RegsBut.boot]
    | with_reducible exact h_HIF_LINKSTAT
    | with_reducible apply setF_regs
    | with_reducible apply issueWaiting_regs
    | with_reducible apply toReady_regs
    | split

theorem ucieAttemptEnd_regs {W0 : Nat → Prop} {r0 : State} (s : State) (mods : List (Option Nat)) (left : Bool) (ms : Nat) (h_pba : ∀ k, W0 (0x38000 + 4 * (k % 64))) (h_GLB_ROLE : W0 R.GLB_ROLE) (h_GLB_BOOTSTAT : W0 R.GLB_BOOTSTAT) (h_GLB_EVTOVF : W0 R.GLB_EVTOVF) (h_HIF_LINKSTAT : W0 R.HIF_LINKSTAT) (h_CHN_PERR : ∀ i, W0 (R.CHN_PERR i)) (h_LNK_CFG : W0 R.LNK_CFG) (h_LNK_PCTL : ∀ i, W0 (R.LNK_PCTL i)) (h_LNK_PSTAT : ∀ i, W0 (R.LNK_PSTAT i)) (h0 : RegsBut W0 r0 s) :
    RegsBut W0 r0 (ucieAttemptEnd s mods left ms) := by
  unfold ucieAttemptEnd
  repeat' first
    | with_reducible assumption
    | with_reducible apply ucieFail_regs
    | with_reducible apply ucieUp_regs
    | split

theorem linkDown_regs {W0 : Nat → Prop} {r0 : State} (s : State) (h_pba : ∀ k, W0 (0x38000 + 4 * (k % 64))) (h_GLB_EVTOVF : W0 R.GLB_EVTOVF) (h_HIF_LINKSTAT : W0 R.HIF_LINKSTAT) (h_QUE_STAT : ∀ i, W0 (R.QUE_STAT i)) (h_QUE_RET : ∀ i, W0 (R.QUE_RET i)) (h_DMA_CHSTAT : ∀ i, W0 (R.DMA_CHSTAT i)) (h_DMA_CHCNT : ∀ i, W0 (R.DMA_CHCNT i)) (h_DMA_CHDEAD : ∀ i, W0 (R.DMA_CHDEAD i)) (h_SOR_TGTSTAT : ∀ i, W0 (R.SOR_TGTSTAT i)) (h_SRF_PFSTAT : W0 R.SRF_PFSTAT) (h_SRF_PFLAST : W0 R.SRF_PFLAST) (h_SRF_TCMISS : W0 R.SRF_TCMISS) (h_CHN_PERR : ∀ i, W0 (R.CHN_PERR i)) (h_DRC_ECCSTAT : W0 R.DRC_ECCSTAT) (h_DRC_UEADDR : W0 R.DRC_UEADDR) (h0 : RegsBut W0 r0 s) :
    RegsBut W0 r0 (linkDown s) := by
  unfold linkDown
  repeat' first
    | with_reducible assumption
    | simp only [RegsBut.hif]
    | with_reducible exact h_HIF_LINKSTAT
    | with_reducible apply setF_regs
    | with_reducible apply queueError_regs
    | with_reducible apply lateLost_regs
    | with_reducible apply srfLinkLoss_regs
    | with_reducible apply dmaLinkLoss_regs
    | with_reducible apply sorLinkLoss_regs
    | with_reducible apply RegsBut.foldl
    | split
    | dsimp only
    | with_reducible intro _

theorem linkLoss_regs {W0 : Nat → Prop} {r0 : State} (s : State) (h_pba : ∀ k, W0 (0x38000 + 4 * (k % 64))) (h_GLB_EVTOVF : W0 R.GLB_EVTOVF) (h_HIF_LINKSTAT : W0 R.HIF_LINKSTAT) (h_QUE_STAT : ∀ i, W0 (R.QUE_STAT i)) (h_QUE_RET : ∀ i, W0 (R.QUE_RET i)) (h_DMA_CHSTAT : ∀ i, W0 (R.DMA_CHSTAT i)) (h_DMA_CHCNT : ∀ i, W0 (R.DMA_CHCNT i)) (h_DMA_CHDEAD : ∀ i, W0 (R.DMA_CHDEAD i)) (h_SOR_TGTSTAT : ∀ i, W0 (R.SOR_TGTSTAT i)) (h_SRF_PFSTAT : W0 R.SRF_PFSTAT) (h_SRF_PFLAST : W0 R.SRF_PFLAST) (h_SRF_TCMISS : W0 R.SRF_TCMISS) (h_CHN_PERR : ∀ i, W0 (R.CHN_PERR i)) (h_DRC_ECCSTAT : W0 R.DRC_ECCSTAT) (h_DRC_UEADDR : W0 R.DRC_UEADDR) (h0 : RegsBut W0 r0 s) :
    RegsBut W0 r0 (linkLoss s) := by
  unfold linkLoss
  repeat' first
    | with_reducible assumption
    | simp only [RegsBut.boot]
    | with_reducible exact h_HIF_LINKSTAT
    | with_reducible apply setF_regs
    | with_reducible apply incSat_regs
    | with_reducible apply raise_regs
    | with_reducible apply ucieOpen_regs
    | with_reducible apply linkDown_regs
    | split

theorem linkRetrain_regs {W0 : Nat → Prop} {r0 : State} (s : State) (h_pba : ∀ k, W0 (0x38000 + 4 * (k % 64))) (h_GLB_EVTOVF : W0 R.GLB_EVTOVF) (h_HIF_LINKSTAT : W0 R.HIF_LINKSTAT) (h_QUE_STAT : ∀ i, W0 (R.QUE_STAT i)) (h_QUE_RET : ∀ i, W0 (R.QUE_RET i)) (h_DMA_CHSTAT : ∀ i, W0 (R.DMA_CHSTAT i)) (h_DMA_CHCNT : ∀ i, W0 (R.DMA_CHCNT i)) (h_DMA_CHDEAD : ∀ i, W0 (R.DMA_CHDEAD i)) (h_SOR_TGTSTAT : ∀ i, W0 (R.SOR_TGTSTAT i)) (h_SRF_PFSTAT : W0 R.SRF_PFSTAT) (h_SRF_PFLAST : W0 R.SRF_PFLAST) (h_SRF_TCMISS : W0 R.SRF_TCMISS) (h_CHN_PERR : ∀ i, W0 (R.CHN_PERR i)) (h_DRC_ECCSTAT : W0 R.DRC_ECCSTAT) (h_DRC_UEADDR : W0 R.DRC_UEADDR) (h0 : RegsBut W0 r0 s) :
    RegsBut W0 r0 (linkRetrain s) := by
  unfold linkRetrain
  repeat' first
    | with_reducible assumption
    | with_reducible apply ucieStart_regs
    | with_reducible apply linkLoss_regs
    | split

theorem sendPending_regs {W0 : Nat → Prop} {r0 : State} (s : State) (h_pba : ∀ k, W0 (0x38000 + 4 * (k % 64))) (h0 : RegsBut W0 r0 s) :
    RegsBut W0 r0 (sendPending s) := by
  unfold sendPending
  repeat' first
    | with_reducible assumption
    | simp only [RegsBut.hif]
    | with_reducible apply issueUp_regs
    | with_reducible apply RegsBut.foldl
    | split
    | dsimp only
    | with_reducible intro _

theorem waitedGo_regs {W0 : Nat → Prop} {r0 : State} (s : State) (u : Up) (h_pba : ∀ k, W0 (0x38000 + 4 * (k % 64))) (h_GLB_EVTOVF : W0 R.GLB_EVTOVF) (h_QUE_STAT : ∀ i, W0 (R.QUE_STAT i)) (h_QUE_RET : ∀ i, W0 (R.QUE_RET i)) (h_DMA_CHSTAT : ∀ i, W0 (R.DMA_CHSTAT i)) (h_DMA_CHCNT : ∀ i, W0 (R.DMA_CHCNT i)) (h_DMA_CHDEAD : ∀ i, W0 (R.DMA_CHDEAD i)) (h_SOR_TGTSTAT : ∀ i, W0 (R.SOR_TGTSTAT i)) (h_SRF_TCMISS : W0 R.SRF_TCMISS) (h_CHN_PERR : ∀ i, W0 (R.CHN_PERR i)) (h_DRC_ECCSTAT : W0 R.DRC_ECCSTAT) (h_DRC_UEADDR : W0 R.DRC_UEADDR) (h0 : RegsBut W0 r0 s) :
    RegsBut W0 r0 (waitedGo s u) := by
  unfold waitedGo
  repeat' first
    | with_reducible assumption
    | with_reducible apply upstream_regs
    | with_reducible apply settle_regs
    | split

theorem busOpen_regs {W0 : Nat → Prop} {r0 : State} (s : State) (h_pba : ∀ k, W0 (0x38000 + 4 * (k % 64))) (h_GLB_EVTOVF : W0 R.GLB_EVTOVF) (h_QUE_STAT : ∀ i, W0 (R.QUE_STAT i)) (h_QUE_RET : ∀ i, W0 (R.QUE_RET i)) (h_DMA_CHSTAT : ∀ i, W0 (R.DMA_CHSTAT i)) (h_DMA_CHCNT : ∀ i, W0 (R.DMA_CHCNT i)) (h_DMA_CHDEAD : ∀ i, W0 (R.DMA_CHDEAD i)) (h_SOR_TGTSTAT : ∀ i, W0 (R.SOR_TGTSTAT i)) (h_SRF_TCMISS : W0 R.SRF_TCMISS) (h_CHN_PERR : ∀ i, W0 (R.CHN_PERR i)) (h_DRC_ECCSTAT : W0 R.DRC_ECCSTAT) (h_DRC_UEADDR : W0 R.DRC_UEADDR) (h0 : RegsBut W0 r0 s) :
    RegsBut W0 r0 (busOpen s) := by
  unfold busOpen
  repeat' first
    | with_reducible assumption
    | simp only [RegsBut.hif]
    | with_reducible apply waitedGo_regs
    | with_reducible apply RegsBut.foldl
    | split
    | dsimp only
    | with_reducible intro _

theorem busTimers_regs {W0 : Nat → Prop} {r0 : State} (s : State) (h0 : RegsBut W0 r0 s) :
    RegsBut W0 r0 (busTimers s) := by
  unfold busTimers
  repeat' first
    | with_reducible assumption
    | simp only [RegsBut.hif]
    | split

theorem bmeChange_regs {W0 : Nat → Prop} {r0 : State} (s : State) (b : Bool) (mps : Nat) (mrrs : Nat) (h_pba : ∀ k, W0 (0x38000 + 4 * (k % 64))) (h_GLB_EVTOVF : W0 R.GLB_EVTOVF) (h_HIF_LINKSTAT : W0 R.HIF_LINKSTAT) (h_QUE_STAT : ∀ i, W0 (R.QUE_STAT i)) (h_QUE_RET : ∀ i, W0 (R.QUE_RET i)) (h_DMA_CHSTAT : ∀ i, W0 (R.DMA_CHSTAT i)) (h_DMA_CHCNT : ∀ i, W0 (R.DMA_CHCNT i)) (h_DMA_CHDEAD : ∀ i, W0 (R.DMA_CHDEAD i)) (h_SOR_TGTSTAT : ∀ i, W0 (R.SOR_TGTSTAT i)) (h_SRF_TCMISS : W0 R.SRF_TCMISS) (h_CHN_PERR : ∀ i, W0 (R.CHN_PERR i)) (h_DRC_ECCSTAT : W0 R.DRC_ECCSTAT) (h_DRC_UEADDR : W0 R.DRC_UEADDR) (h0 : RegsBut W0 r0 s) :
    RegsBut W0 r0 (bmeChange s b mps mrrs) := by
  unfold bmeChange
  repeat' first
    | with_reducible assumption
    | simp only [RegsBut.hif]
    | with_reducible exact h_HIF_LINKSTAT
    | with_reducible apply setF_regs
    | with_reducible apply retireLate_regs
    | with_reducible apply dmaPumpAll_regs
    | with_reducible apply busOpen_regs
    | with_reducible apply busTimers_regs
    | split

theorem msixUnmask_regs {W0 : Nat → Prop} {r0 : State} (s : State) (u : Unmask) (h_pba : ∀ k, W0 (0x38000 + 4 * (k % 64))) (h_msix : ∀ k, W0 (0x30000 + 16 * (k % 2048) + 12)) (h0 : RegsBut W0 r0 s) :
    RegsBut W0 r0 (msixUnmask s u) := by
  unfold msixUnmask
  repeat' first
    | with_reducible assumption
    | simp only [RegsBut.hif]
    | with_reducible exact h_msix _
    | with_reducible apply setMsixWord_regs
    | with_reducible apply sendPending_regs
    | with_reducible apply RegsBut.foldl
    | with_reducible apply RegsBut.snd
    | with_reducible apply RegsBut.snd2
    | with_reducible apply RegsBut.fst
    | with_reducible apply RegsBut.foldl_snd
    | with_reducible apply RegsBut.foldl_snd2
    | with_reducible apply RegsBut.foldl_fst
    | with_reducible refine RegsBut.of_fst (by with_reducible assumption) ?_
    | with_reducible refine RegsBut.of_snd (by with_reducible assumption) ?_
    | with_reducible refine RegsBut.of_snd2 (by with_reducible assumption) ?_
    | with_reducible (unfold msixOff; exact h_msix _)
    | split

theorem romDone_regs {W0 : Nat → Prop} {r0 : State} (s : State) (h_GLB_BOOTSTAT : W0 R.GLB_BOOTSTAT) (h0 : RegsBut W0 r0 s) :
    RegsBut W0 r0 (romDone s) := by
  unfold romDone
  repeat' first
    | with_reducible assumption
    | with_reducible apply measExtend_regs
    | with_reducible apply setBootStage_regs

theorem flashFound_regs {W0 : Nat → Prop} {r0 : State} (s : State) (o : FirstObs) (h0 : RegsBut W0 r0 s) :
    RegsBut W0 r0 (flashFound s o) := by
  unfold flashFound
  repeat' first
    | with_reducible assumption
    | simp only [RegsBut.upd]

theorem flashLearn_regs {W0 : Nat → Prop} {r0 : State} (s : State) (o : FirstObs) (h_NVM_STAT : W0 R.NVM_STAT) (h0 : RegsBut W0 r0 s) :
    RegsBut W0 r0 (flashLearn s o) := by
  unfold flashLearn
  repeat' first
    | with_reducible assumption
    | with_reducible exact h_NVM_STAT
    | with_reducible apply setF_regs
    | with_reducible apply flashFound_regs
    | split
    | dsimp only

theorem bootSlot_regs {W0 : Nat → Prop} {r0 : State} (s : State) (k : Nat) (trial : Bool) (h_pba : ∀ k, W0 (0x38000 + 4 * (k % 64))) (h_GLB_BOOTSTAT : W0 R.GLB_BOOTSTAT) (h_GLB_EVTOVF : W0 R.GLB_EVTOVF) (h_CHN_PERR : ∀ i, W0 (R.CHN_PERR i)) (h_UPD_STAT : W0 R.UPD_STAT) (h_UPD_HELD : W0 R.UPD_HELD) (h_UPD_BUILD : W0 R.UPD_BUILD) (h_UPD_PKGID : ∀ i, W0 (R.UPD_PKGID i)) (h0 : RegsBut W0 r0 s) :
    RegsBut W0 r0 (bootSlot s k trial) := by
  unfold bootSlot
  repeat' first
    | with_reducible assumption
    | simp only [RegsBut.upd]
    | with_reducible exact h_GLB_BOOTSTAT
    | with_reducible exact h_UPD_STAT
    | with_reducible apply setF_regs
    | with_reducible apply measExtend_regs
    | with_reducible apply setUstate_regs
    | with_reducible apply updShow_regs
    | with_reducible apply curShow_regs
    | with_reducible apply setBootStage_regs

theorem bootRec_regs {W0 : Nat → Prop} {r0 : State} (s : State) (r : SlotRec) (h0 : RegsBut W0 r0 s) :
    RegsBut W0 r0 (bootRec s r) := by
  unfold bootRec
  repeat' first
    | with_reducible assumption
    | with_reducible apply flashOut_regs
    | with_reducible apply recWrite_regs

theorem candGiveUp_regs {W0 : Nat → Prop} {r0 : State} (s : State) (cur : Nat) (c : Status) (h_UPD_STAT : W0 R.UPD_STAT) (h0 : RegsBut W0 r0 s) :
    RegsBut W0 r0 (candGiveUp s cur c) := by
  unfold candGiveUp
  repeat' first
    | with_reducible assumption
    | with_reducible apply lastCode_regs
    | with_reducible apply bootRec_regs

theorem bootCurrent_regs {W0 : Nat → Prop} {r0 : State} (s : State) (o : FirstObs) (cur : Nat) (other : Bool) (h_pba : ∀ k, W0 (0x38000 + 4 * (k % 64))) (h_GLB_BOOTSTAT : W0 R.GLB_BOOTSTAT) (h_GLB_EVTOVF : W0 R.GLB_EVTOVF) (h_CHN_PERR : ∀ i, W0 (R.CHN_PERR i)) (h_UPD_STAT : W0 R.UPD_STAT) (h_UPD_HELD : W0 R.UPD_HELD) (h_UPD_BUILD : W0 R.UPD_BUILD) (h_UPD_PKGID : ∀ i, W0 (R.UPD_PKGID i)) (h0 : RegsBut W0 r0 s) :
    RegsBut W0 r0 (bootCurrent s o cur other) := by
  unfold bootCurrent
  repeat' first
    | with_reducible assumption
    | with_reducible apply failCode_regs
    | with_reducible apply bootFail_regs
    | with_reducible apply bootSlot_regs
    | split
    | dsimp only

theorem firstDone_regs {W0 : Nat → Prop} {r0 : State} (s : State) (o : FirstObs) (h_pba : ∀ k, W0 (0x38000 + 4 * (k % 64))) (h_GLB_BOOTSTAT : W0 R.GLB_BOOTSTAT) (h_GLB_EVTOVF : W0 R.GLB_EVTOVF) (h_CHN_PERR : ∀ i, W0 (R.CHN_PERR i)) (h_UPD_STAT : W0 R.UPD_STAT) (h_UPD_HELD : W0 R.UPD_HELD) (h_UPD_BUILD : W0 R.UPD_BUILD) (h_UPD_PKGID : ∀ i, W0 (R.UPD_PKGID i)) (h_NVM_STAT : W0 R.NVM_STAT) (h0 : RegsBut W0 r0 s) :
    RegsBut W0 r0 (firstDone s o) := by
  unfold firstDone
  repeat' first
    | with_reducible assumption
    | simp only [RegsBut.upd]
    | with_reducible exact h_UPD_STAT
    | with_reducible apply setF_regs
    | with_reducible apply failCode_regs
    | with_reducible apply bootFail_regs
    | with_reducible apply flashLearn_regs
    | with_reducible apply bootSlot_regs
    | with_reducible apply bootRec_regs
    | with_reducible apply candGiveUp_regs
    | with_reducible apply bootCurrent_regs
    | split

theorem dramDone_regs {W0 : Nat → Prop} {r0 : State} (s : State) (l : List DramCh) (rates : Nat × Nat × Nat) (h_GLB_BOOTSTAT : W0 R.GLB_BOOTSTAT) (h_DRC_CFG : W0 R.DRC_CFG) (h_DRC_FSPRATE : W0 R.DRC_FSPRATE) (h_DRC_CAP : W0 R.DRC_CAP) (h_DRC_CHSTAT : ∀ i, W0 (R.DRC_CHSTAT i)) (h_DRC_LANE : ∀ i j, W0 (R.DRC_LANE i j)) (h0 : RegsBut W0 r0 s) :
    RegsBut W0 r0 (dramDone s l rates) := by
  unfold dramDone
  repeat' first
    | with_reducible assumption
    | with_reducible exact h_DRC_CFG
    | with_reducible exact h_DRC_CAP
    | with_reducible apply setF_regs
    | with_reducible apply calTrain_regs
    | with_reducible apply retrackChan_regs
    | with_reducible apply dramStage_regs
    | with_reducible apply setBootStage_regs
    | with_reducible apply failCode_regs
    | with_reducible apply RegsBut.foldl
    | with_reducible refine RegsBut.of_snd (by with_reducible assumption) ?_
    | with_reducible refine RegsBut.of_snd2 (by with_reducible assumption) ?_
    | split
    | dsimp only
    | with_reducible intro _

theorem faultRecords_regs {W0 : Nat → Prop} {r0 : State} (s : State) (h_THM_TRIP : W0 R.THM_TRIP) (h0 : RegsBut W0 r0 s) :
    RegsBut W0 r0 (faultRecords s) := by
  unfold faultRecords
  repeat' first
    | with_reducible assumption
    | simp only [RegsBut.boot]
    | with_reducible exact h_THM_TRIP
    | with_reducible apply setWord_regs
    | with_reducible apply journalWrite_regs
    | split

theorem calLoad_regs {W0 : Nat → Prop} {r0 : State} (s : State) (h0 : RegsBut W0 r0 s) :
    RegsBut W0 r0 (calLoad s) := by
  unfold calLoad
  repeat' first
    | with_reducible assumption
    | simp only [RegsBut.cal]
    | split

theorem firmwareFail_regs {W0 : Nat → Prop} {r0 : State} (s : State) (c : Status) (h_pba : ∀ k, W0 (0x38000 + 4 * (k % 64))) (h_GLB_RSTCAUSE : W0 R.GLB_RSTCAUSE) (h_GLB_BOOTSTAT : W0 R.GLB_BOOTSTAT) (h_QUE_STAT : ∀ i, W0 (R.QUE_STAT i)) (h_QUE_RET : ∀ i, W0 (R.QUE_RET i)) (h_SRF_STAT : W0 R.SRF_STAT) (h_SRF_FREEPG : W0 R.SRF_FREEPG) (h_SRF_RETIRED : W0 R.SRF_RETIRED) (h_SPK_SPKSTAT : ∀ i, W0 (R.SPK_SPKSTAT i)) (h0 : RegsBut W0 r0 s) :
    RegsBut W0 r0 (firmwareFail s c) := by
  unfold firmwareFail
  repeat' first
    | with_reducible assumption
    | simp only [RegsBut.upd]
    | with_reducible exact h_GLB_RSTCAUSE
    | with_reducible apply warmRequest_regs
    | with_reducible apply failCode_regs
    | with_reducible apply bootFail_regs
    | split

theorem firmwareDone_regs {W0 : Nat → Prop} {r0 : State} (s : State) (o : FwObs) (h_pba : ∀ k, W0 (0x38000 + 4 * (k % 64))) (h_GLB_RSTCAUSE : W0 R.GLB_RSTCAUSE) (h_GLB_BOOTSTAT : W0 R.GLB_BOOTSTAT) (h_HIF_LINKCFG : W0 R.HIF_LINKCFG) (h_QUE_STAT : ∀ i, W0 (R.QUE_STAT i)) (h_QUE_RET : ∀ i, W0 (R.QUE_RET i)) (h_SRF_STAT : W0 R.SRF_STAT) (h_SRF_FREEPG : W0 R.SRF_FREEPG) (h_SRF_RETIRED : W0 R.SRF_RETIRED) (h_LNK_CFG : W0 R.LNK_CFG) (h_LNK_PCTL : ∀ i, W0 (R.LNK_PCTL i)) (h_LNK_PSTAT : ∀ i, W0 (R.LNK_PSTAT i)) (h_SPK_SPKSTAT : ∀ i, W0 (R.SPK_SPKSTAT i)) (h_THM_TRIP : W0 R.THM_TRIP) (h0 : RegsBut W0 r0 s) :
    RegsBut W0 r0 (firmwareDone s o) := by
  unfold firmwareDone
  repeat' first
    | with_reducible assumption
    | simp only [RegsBut.boot_hif_sec]
    | with_reducible exact h_HIF_LINKCFG
    | with_reducible apply setWord_regs
    | with_reducible apply measExtend_regs
    | with_reducible apply ucieOpen_regs
    | with_reducible apply setBootStage_regs
    | with_reducible apply startPorts_regs
    | with_reducible apply faultRecords_regs
    | with_reducible apply calLoad_regs
    | with_reducible apply firmwareFail_regs
    | with_reducible apply RegsBut.foldl
    | split
    | dsimp only
    | with_reducible intro _

theorem execRailFault_regs {W0 : Nat → Prop} {r0 : State} (mask : Nat) (s : State) (h_all : ∀ off, W0 off) {t0 : State} (h0 : RegsBut W0 r0 s) (ht : execRailFault mask s = .next t0) :
    RegsBut W0 r0 t0 := by
  exact RegsBut.all h_all

theorem execRailWarn_regs {W0 : Nat → Prop} {r0 : State} (x : RailSide) (s : State) (h_pba : ∀ k, W0 (0x38000 + 4 * (k % 64))) (h_GLB_RAILSTAT : W0 R.GLB_RAILSTAT) (h_GLB_EVTOVF : W0 R.GLB_EVTOVF) (h_CHN_PERR : ∀ i, W0 (R.CHN_PERR i)) {t0 : State} (h0 : RegsBut W0 r0 s) (ht : execRailWarn x s = .next t0) :
    RegsBut W0 r0 t0 := by
  unfold execRailWarn at ht
  injection ht with ht
  subst ht
  repeat' first
    | with_reducible assumption
    | with_reducible apply railWarn_regs
    | split

theorem execVddAonApply_regs {W0 : Nat → Prop} {r0 : State} (s : State) (h_GLB_RSTCAUSE : W0 R.GLB_RSTCAUSE) (h_THM_TRIP : W0 R.THM_TRIP) {t0 : State} (h0 : RegsBut W0 r0 s) (ht : execVddAonApply s = .next t0) :
    RegsBut W0 r0 t0 := by
  unfold execVddAonApply at ht
  injection ht with ht
  subst ht
  repeat' first
    | with_reducible assumption
    | with_reducible apply aonApply_regs

theorem execPwronResetAssert_regs {W0 : Nat → Prop} {r0 : State} (s : State) (h_all : ∀ off, W0 off) {t0 : State} (h0 : RegsBut W0 r0 s) (ht : execPwronResetAssert s = .next t0) :
    RegsBut W0 r0 t0 := by
  exact RegsBut.all h_all

theorem execColdResetRelease_regs {W0 : Nat → Prop} {r0 : State} (sel : Nat) (uci : Bool) (s : State) (h_GLB_ROLE : W0 R.GLB_ROLE) (h_GLB_RSTCAUSE : W0 R.GLB_RSTCAUSE) (h_GLB_BOOTSTAT : W0 R.GLB_BOOTSTAT) (h_TIM_PGCFG : ∀ i, W0 (R.TIM_PGCFG i)) {t0 : State} (h0 : RegsBut W0 r0 s) (ht : execColdResetRelease sel uci s = .next t0) :
    RegsBut W0 r0 t0 := by
  unfold execColdResetRelease at ht
  injection ht with ht
  subst ht
  repeat' first
    | with_reducible assumption
    | with_reducible apply coldRelease_regs

theorem execWarmResetPin_regs {W0 : Nat → Prop} {r0 : State} (s : State) (h_pba : ∀ k, W0 (0x38000 + 4 * (k % 64))) (h_GLB_RSTCAUSE : W0 R.GLB_RSTCAUSE) (h_QUE_STAT : ∀ i, W0 (R.QUE_STAT i)) (h_QUE_RET : ∀ i, W0 (R.QUE_RET i)) (h_SRF_STAT : W0 R.SRF_STAT) (h_SRF_FREEPG : W0 R.SRF_FREEPG) (h_SRF_RETIRED : W0 R.SRF_RETIRED) (h_SPK_SPKSTAT : ∀ i, W0 (R.SPK_SPKSTAT i)) {t0 : State} (h0 : RegsBut W0 r0 s) (ht : execWarmResetPin s = .next t0) :
    RegsBut W0 r0 t0 := by
  unfold execWarmResetPin at ht
  injection ht with ht
  subst ht
  repeat' first
    | with_reducible assumption
    | with_reducible exact h_GLB_RSTCAUSE
    | with_reducible apply warmRequest_regs

theorem execWatchdogExpiry_regs {W0 : Nat → Prop} {r0 : State} (s : State) (h_pba : ∀ k, W0 (0x38000 + 4 * (k % 64))) (h_GLB_RSTCAUSE : W0 R.GLB_RSTCAUSE) (h_QUE_STAT : ∀ i, W0 (R.QUE_STAT i)) (h_QUE_RET : ∀ i, W0 (R.QUE_RET i)) (h_SRF_STAT : W0 R.SRF_STAT) (h_SRF_FREEPG : W0 R.SRF_FREEPG) (h_SRF_RETIRED : W0 R.SRF_RETIRED) (h_SPK_SPKSTAT : ∀ i, W0 (R.SPK_SPKSTAT i)) {t0 : State} (h0 : RegsBut W0 r0 s) (ht : execWatchdogExpiry s = .next t0) :
    RegsBut W0 r0 t0 := by
  unfold execWatchdogExpiry at ht
  injection ht with ht
  subst ht
  repeat' first
    | with_reducible assumption
    | with_reducible exact h_GLB_RSTCAUSE
    | with_reducible apply warmRequest_regs

theorem execWarmResetAssert_regs {W0 : Nat → Prop} {r0 : State} (s : State) (h_all : ∀ off, W0 off) {t0 : State} (h0 : RegsBut W0 r0 s) (ht : execWarmResetAssert s = .next t0) :
    RegsBut W0 r0 t0 := by
  exact RegsBut.all h_all

theorem execWarmResetRelease_regs {W0 : Nat → Prop} {r0 : State} (s : State) (h_GLB_ROLE : W0 R.GLB_ROLE) (h_GLB_BOOTSTAT : W0 R.GLB_BOOTSTAT) (h_TIM_PGCFG : ∀ i, W0 (R.TIM_PGCFG i)) {t0 : State} (h0 : RegsBut W0 r0 s) (ht : execWarmResetRelease s = .next t0) :
    RegsBut W0 r0 t0 := by
  unfold execWarmResetRelease at ht
  injection ht with ht
  subst ht
  repeat' first
    | with_reducible assumption
    | with_reducible apply warmRelease_regs
    | split

theorem execHardwareTrip_regs {W0 : Nat → Prop} {r0 : State} (k : Nat) (s : State) (h_all : ∀ off, W0 off) {t0 : State} (h0 : RegsBut W0 r0 s) (ht : execHardwareTrip k s = .next t0) :
    RegsBut W0 r0 t0 := by
  exact RegsBut.all h_all

theorem execRefClkLoss_regs {W0 : Nat → Prop} {r0 : State} (s : State) (h_pba : ∀ k, W0 (0x38000 + 4 * (k % 64))) (h_GLB_EVTOVF : W0 R.GLB_EVTOVF) (h_CLK_LOCK : W0 R.CLK_LOCK) (h_CHN_PERR : ∀ i, W0 (R.CHN_PERR i)) {t0 : State} (h0 : RegsBut W0 r0 s) (ht : execRefClkLoss s = .next t0) :
    RegsBut W0 r0 t0 := by
  unfold execRefClkLoss at ht
  injection ht with ht
  subst ht
  repeat' first
    | with_reducible assumption
    | with_reducible apply refClkLoss_regs

theorem execRefClkGood_regs {W0 : Nat → Prop} {r0 : State} (s : State) (h_CLK_LOCK : W0 R.CLK_LOCK) {t0 : State} (h0 : RegsBut W0 r0 s) (ht : execRefClkGood s = .next t0) :
    RegsBut W0 r0 t0 := by
  unfold execRefClkGood at ht
  injection ht with ht
  subst ht
  repeat' first
    | with_reducible assumption
    | with_reducible apply refClkGood_regs

theorem execPllUnlock_regs {W0 : Nat → Prop} {r0 : State} (k : Nat) (s : State) (h_CLK_LOCK : W0 R.CLK_LOCK) {t0 : State} (h0 : RegsBut W0 r0 s) (ht : execPllUnlock k s = .next t0) :
    RegsBut W0 r0 t0 := by
  unfold execPllUnlock at ht
  injection ht with ht
  subst ht
  repeat' first
    | with_reducible assumption
    | with_reducible apply pllUnlock_regs

theorem execPllStageDone_regs {W0 : Nat → Prop} {r0 : State} (s : State) (h_GLB_BOOTSTAT : W0 R.GLB_BOOTSTAT) (h_CLK_LOCK : W0 R.CLK_LOCK) {t0 : State} (h0 : RegsBut W0 r0 s) (ht : execPllStageDone s = .next t0) :
    RegsBut W0 r0 t0 := by
  unfold execPllStageDone at ht
  injection ht with ht
  subst ht
  repeat' first
    | with_reducible assumption
    | with_reducible exact h_CLK_LOCK
    | with_reducible apply setF_regs
    | with_reducible apply ucieOpen_regs
    | with_reducible apply setBootStage_regs
    | split
    | dsimp only

theorem execRomStageDone_regs {W0 : Nat → Prop} {r0 : State} (s : State) (h_GLB_BOOTSTAT : W0 R.GLB_BOOTSTAT) {t0 : State} (h0 : RegsBut W0 r0 s) (ht : execRomStageDone s = .next t0) :
    RegsBut W0 r0 t0 := by
  unfold execRomStageDone at ht
  injection ht with ht
  subst ht
  repeat' first
    | with_reducible assumption
    | with_reducible apply romDone_regs
    | split

theorem execFirstStageDone_regs {W0 : Nat → Prop} {r0 : State} (o : FirstObs) (s : State) (h_pba : ∀ k, W0 (0x38000 + 4 * (k % 64))) (h_GLB_BOOTSTAT : W0 R.GLB_BOOTSTAT) (h_GLB_EVTOVF : W0 R.GLB_EVTOVF) (h_CHN_PERR : ∀ i, W0 (R.CHN_PERR i)) (h_UPD_STAT : W0 R.UPD_STAT) (h_UPD_HELD : W0 R.UPD_HELD) (h_UPD_BUILD : W0 R.UPD_BUILD) (h_UPD_PKGID : ∀ i, W0 (R.UPD_PKGID i)) (h_NVM_STAT : W0 R.NVM_STAT) {t0 : State} (h0 : RegsBut W0 r0 s) (ht : execFirstStageDone o s = .next t0) :
    RegsBut W0 r0 t0 := by
  unfold execFirstStageDone at ht
  injection ht with ht
  subst ht
  repeat' first
    | with_reducible assumption
    | with_reducible apply firstDone_regs
    | split

theorem execDramStageDone_regs {W0 : Nat → Prop} {r0 : State} (l : List DramCh) (rates : Nat × Nat × Nat) (s : State) (h_GLB_BOOTSTAT : W0 R.GLB_BOOTSTAT) (h_DRC_CFG : W0 R.DRC_CFG) (h_DRC_FSPRATE : W0 R.DRC_FSPRATE) (h_DRC_CAP : W0 R.DRC_CAP) (h_DRC_CHSTAT : ∀ i, W0 (R.DRC_CHSTAT i)) (h_DRC_LANE : ∀ i j, W0 (R.DRC_LANE i j)) {t0 : State} (h0 : RegsBut W0 r0 s) (ht : execDramStageDone l rates s = .next t0) :
    RegsBut W0 r0 t0 := by
  unfold execDramStageDone at ht
  injection ht with ht
  subst ht
  repeat' first
    | with_reducible assumption
    | with_reducible apply dramDone_regs
    | split

theorem execFirmwareStageDone_regs {W0 : Nat → Prop} {r0 : State} (o : FwObs) (s : State) (h_pba : ∀ k, W0 (0x38000 + 4 * (k % 64))) (h_GLB_RSTCAUSE : W0 R.GLB_RSTCAUSE) (h_GLB_BOOTSTAT : W0 R.GLB_BOOTSTAT) (h_HIF_LINKCFG : W0 R.HIF_LINKCFG) (h_QUE_STAT : ∀ i, W0 (R.QUE_STAT i)) (h_QUE_RET : ∀ i, W0 (R.QUE_RET i)) (h_SRF_STAT : W0 R.SRF_STAT) (h_SRF_FREEPG : W0 R.SRF_FREEPG) (h_SRF_RETIRED : W0 R.SRF_RETIRED) (h_LNK_CFG : W0 R.LNK_CFG) (h_LNK_PCTL : ∀ i, W0 (R.LNK_PCTL i)) (h_LNK_PSTAT : ∀ i, W0 (R.LNK_PSTAT i)) (h_SPK_SPKSTAT : ∀ i, W0 (R.SPK_SPKSTAT i)) (h_THM_TRIP : W0 R.THM_TRIP) {t0 : State} (h0 : RegsBut W0 r0 s) (ht : execFirmwareStageDone o s = .next t0) :
    RegsBut W0 r0 t0 := by
  unfold execFirmwareStageDone at ht
  injection ht with ht
  subst ht
  repeat' first
    | with_reducible assumption
    | with_reducible apply firmwareDone_regs
    | split

theorem execUcieAttemptEnd_regs {W0 : Nat → Prop} {r0 : State} (dt : Nat) (mods : List (Option Nat)) (left : Bool) (ms : Nat) (s : State) (h_pba : ∀ k, W0 (0x38000 + 4 * (k % 64))) (h_GLB_ROLE : W0 R.GLB_ROLE) (h_GLB_BOOTSTAT : W0 R.GLB_BOOTSTAT) (h_GLB_EVTOVF : W0 R.GLB_EVTOVF) (h_HIF_LINKSTAT : W0 R.HIF_LINKSTAT) (h_SOR_GSTAT : W0 R.SOR_GSTAT) (h_CHN_PERR : ∀ i, W0 (R.CHN_PERR i)) (h_LNK_CFG : W0 R.LNK_CFG) (h_LNK_PCTL : ∀ i, W0 (R.LNK_PCTL i)) (h_LNK_PSTAT : ∀ i, W0 (R.LNK_PSTAT i)) {t0 : State} (h0 : RegsBut W0 r0 s) (ht : execUcieAttemptEnd dt mods left ms s = .next t0) :
    RegsBut W0 r0 t0 := by
  unfold execUcieAttemptEnd at ht
  apply whenOn_regs (ht := ht)
  repeat' first
    | with_reducible assumption
    | with_reducible apply advance_regs
    | with_reducible apply ucieAttemptEnd_regs
    | split
    | dsimp only
    | with_reducible intro _

theorem execUcieBackoffEnd_regs {W0 : Nat → Prop} {r0 : State} (dt : Nat) (s : State) (h_pba : ∀ k, W0 (0x38000 + 4 * (k % 64))) (h_GLB_EVTOVF : W0 R.GLB_EVTOVF) (h_SOR_GSTAT : W0 R.SOR_GSTAT) (h_CHN_PERR : ∀ i, W0 (R.CHN_PERR i)) {t0 : State} (h0 : RegsBut W0 r0 s) (ht : execUcieBackoffEnd dt s = .next t0) :
    RegsBut W0 r0 t0 := by
  unfold execUcieBackoffEnd at ht
  apply whenOn_regs (ht := ht)
  repeat' first
    | with_reducible assumption
    | with_reducible apply advance_regs
    | with_reducible apply ucieStart_regs
    | split
    | dsimp only
    | with_reducible intro _

theorem execBootHoldRetry_regs {W0 : Nat → Prop} {r0 : State} (dt : Nat) (s : State) (h_pba : ∀ k, W0 (0x38000 + 4 * (k % 64))) (h_GLB_EVTOVF : W0 R.GLB_EVTOVF) (h_SOR_GSTAT : W0 R.SOR_GSTAT) (h_CHN_PERR : ∀ i, W0 (R.CHN_PERR i)) {t0 : State} (h0 : RegsBut W0 r0 s) (ht : execBootHoldRetry dt s = .next t0) :
    RegsBut W0 r0 t0 := by
  unfold execBootHoldRetry at ht
  apply whenOn_regs (ht := ht)
  repeat' first
    | with_reducible assumption
    | with_reducible apply advance_regs
    | with_reducible apply ucieOpen_regs
    | split
    | dsimp only
    | with_reducible intro _

theorem execHifLinkLoss_regs {W0 : Nat → Prop} {r0 : State} (s : State) (h_pba : ∀ k, W0 (0x38000 + 4 * (k % 64))) (h_GLB_EVTOVF : W0 R.GLB_EVTOVF) (h_HIF_LINKSTAT : W0 R.HIF_LINKSTAT) (h_QUE_STAT : ∀ i, W0 (R.QUE_STAT i)) (h_QUE_RET : ∀ i, W0 (R.QUE_RET i)) (h_DMA_CHSTAT : ∀ i, W0 (R.DMA_CHSTAT i)) (h_DMA_CHCNT : ∀ i, W0 (R.DMA_CHCNT i)) (h_DMA_CHDEAD : ∀ i, W0 (R.DMA_CHDEAD i)) (h_SOR_TGTSTAT : ∀ i, W0 (R.SOR_TGTSTAT i)) (h_SRF_PFSTAT : W0 R.SRF_PFSTAT) (h_SRF_PFLAST : W0 R.SRF_PFLAST) (h_SRF_TCMISS : W0 R.SRF_TCMISS) (h_CHN_PERR : ∀ i, W0 (R.CHN_PERR i)) (h_DRC_ECCSTAT : W0 R.DRC_ECCSTAT) (h_DRC_UEADDR : W0 R.DRC_UEADDR) {t0 : State} (h0 : RegsBut W0 r0 s) (ht : execHifLinkLoss s = .next t0) :
    RegsBut W0 r0 t0 := by
  unfold execHifLinkLoss at ht
  apply whenOn_regs (ht := ht)
  repeat' first
    | with_reducible assumption
    | with_reducible apply linkLoss_regs
    | split
    | dsimp only
    | with_reducible intro _

theorem execHifRetryTimer_regs {W0 : Nat → Prop} {r0 : State} (dt : Nat) (s : State) (h_pba : ∀ k, W0 (0x38000 + 4 * (k % 64))) (h_GLB_EVTOVF : W0 R.GLB_EVTOVF) (h_SOR_GSTAT : W0 R.SOR_GSTAT) (h_CHN_PERR : ∀ i, W0 (R.CHN_PERR i)) {t0 : State} (h0 : RegsBut W0 r0 s) (ht : execHifRetryTimer dt s = .next t0) :
    RegsBut W0 r0 t0 := by
  unfold execHifRetryTimer at ht
  apply whenOn_regs (ht := ht)
  repeat' first
    | with_reducible assumption
    | with_reducible apply advance_regs
    | with_reducible apply ucieStart_regs
    | split
    | dsimp only
    | with_reducible intro _

theorem execBmeChange_regs {W0 : Nat → Prop} {r0 : State} (x : BusCtl) (s : State) (h_pba : ∀ k, W0 (0x38000 + 4 * (k % 64))) (h_GLB_EVTOVF : W0 R.GLB_EVTOVF) (h_HIF_LINKSTAT : W0 R.HIF_LINKSTAT) (h_QUE_STAT : ∀ i, W0 (R.QUE_STAT i)) (h_QUE_RET : ∀ i, W0 (R.QUE_RET i)) (h_DMA_CHSTAT : ∀ i, W0 (R.DMA_CHSTAT i)) (h_DMA_CHCNT : ∀ i, W0 (R.DMA_CHCNT i)) (h_DMA_CHDEAD : ∀ i, W0 (R.DMA_CHDEAD i)) (h_SOR_TGTSTAT : ∀ i, W0 (R.SOR_TGTSTAT i)) (h_SRF_TCMISS : W0 R.SRF_TCMISS) (h_CHN_PERR : ∀ i, W0 (R.CHN_PERR i)) (h_DRC_ECCSTAT : W0 R.DRC_ECCSTAT) (h_DRC_UEADDR : W0 R.DRC_UEADDR) {t0 : State} (h0 : RegsBut W0 r0 s) (ht : execBmeChange x s = .next t0) :
    RegsBut W0 r0 t0 := by
  unfold execBmeChange at ht
  apply whenOn_regs (ht := ht)
  repeat' first
    | with_reducible assumption
    | with_reducible apply bmeChange_regs
    | split
    | dsimp only
    | with_reducible intro _

theorem execMsixUnmask_regs {W0 : Nat → Prop} {r0 : State} (u : Unmask) (s : State) (h_pba : ∀ k, W0 (0x38000 + 4 * (k % 64))) (h_msix : ∀ k, W0 (0x30000 + 16 * (k % 2048) + 12)) {t0 : State} (h0 : RegsBut W0 r0 s) (ht : execMsixUnmask u s = .next t0) :
    RegsBut W0 r0 t0 := by
  unfold execMsixUnmask at ht
  apply whenOn_regs (ht := ht)
  repeat' first
    | with_reducible assumption
    | with_reducible apply msixUnmask_regs
    | split
    | dsimp only
    | with_reducible intro _

theorem execPcieD3hotChange_regs {W0 : Nat → Prop} {r0 : State} (b : Bool) (s : State) {t0 : State} (h0 : RegsBut W0 r0 s) (ht : execPcieD3hotChange b s = .next t0) :
    RegsBut W0 r0 t0 := by
  unfold execPcieD3hotChange at ht
  apply whenOn_regs (ht := ht)
  repeat' first
    | with_reducible assumption
    | simp only [RegsBut.hif]
    | split
    | dsimp only
    | with_reducible intro _

end Sys2Proof.Machine
end

