-- ==== Sys2Proof/Laws/RegsRegWrite.lean ====
section
/-! SUPPORT. Which registers each operation of Machine/RegWrite.lean may write. -/

namespace Sys2Proof.Machine

theorem storeReg_regs {W0 : Nat → Prop} {r0 : State} (s : State) (off : Nat) (v : Word) (h_off : W0 off) (h0 : RegsBut W0 r0 s) :
    RegsBut W0 r0 (storeReg s off v) := by
  unfold storeReg
  repeat' first
    | with_reducible assumption
    | simp only [RegsBut.cmp]
    | with_reducible apply setWord_regs
    | split

theorem dbgBlockReset_regs {W0 : Nat → Prop} {r0 : State} (s : State) (h0 : RegsBut W0 r0 s) :
    RegsBut W0 r0 (dbgBlockReset s) := by
  unfold dbgBlockReset
  repeat' first
    | with_reducible assumption
    | simp only [RegsBut.sec]

theorem blockHeld_regs {W0 : Nat → Prop} {r0 : State} (s : State) (k : Nat) (h_GLB_BLKRST : W0 R.GLB_BLKRST) (h0 : RegsBut W0 r0 s) :
    RegsBut W0 r0 (blockHeld s k) := by
  unfold blockHeld
  repeat' first
    | with_reducible assumption
    | simp only [RegsBut.boot]
    | with_reducible exact h_GLB_BLKRST
    | with_reducible apply setBitF_regs

theorem RegsBut.ite {W : Nat → Prop} {r a b : State} {c : Prop} [Decidable c] (ha : RegsBut W r a) (hb : RegsBut W r b) :
    RegsBut W r (if c then a else b) := by
  split
  · exact ha
  · exact hb

theorem blockReset_regs {W0 : Nat → Prop} {r0 : State} (s : State) (k : Nat) (h_pba : ∀ k, W0 (0x38000 + 4 * (k % 64))) (h_r0x100000 : ∀ off, 0x100000 ≤ off → off < 0x110000 → W0 off) (h_r0x110000 : ∀ off, 0x110000 ≤ off → off < 0x120000 → W0 off) (h_r0x120000 : ∀ off, 0x120000 ≤ off → off < 0x130000 → W0 off) (h_r0x150000 : ∀ off, 0x150000 ≤ off → off < 0x160000 → W0 off) (h_r0x40000 : ∀ off, 0x40000 ≤ off → off < 0x80000 → W0 off) (h_r0x80000 : ∀ off, 0x80000 ≤ off → off < 0x90000 → W0 off) (h_r0x90000 : ∀ off, 0x90000 ≤ off → off < 0xA0000 → W0 off) (h_r0xA0000 : ∀ off, 0xA0000 ≤ off → off < 0xB0000 → W0 off) (h_r0xB0000 : ∀ off, 0xB0000 ≤ off → off < 0xC0000 → W0 off) (h_r0xC0000 : ∀ off, 0xC0000 ≤ off → off < 0xD0000 → W0 off) (h_r0xD0000 : ∀ off, 0xD0000 ≤ off → off < 0xE0000 → W0 off) (h_r0xE0000 : ∀ off, 0xE0000 ≤ off → off < 0xF0000 → W0 off) (h_r0xF0000 : ∀ off, 0xF0000 ≤ off → off < 0x100000 → W0 off) (h_GLB_BLKRST : W0 R.GLB_BLKRST) (h_GLB_YIELDCNT : W0 R.GLB_YIELDCNT) (h_GLB_YIELDLAST : W0 R.GLB_YIELDLAST) (h_GLB_YIELDFRM : W0 R.GLB_YIELDFRM) (h_GLB_EVTOVF : W0 R.GLB_EVTOVF) (h_QUE_STAT : ∀ i, W0 (R.QUE_STAT i)) (h_QUE_RET : ∀ i, W0 (R.QUE_RET i)) (h_DMA_CHSTAT : ∀ i, W0 (R.DMA_CHSTAT i)) (h_DMA_CHCNT : ∀ i, W0 (R.DMA_CHCNT i)) (h_DMA_CHDEAD : ∀ i, W0 (R.DMA_CHDEAD i)) (h_SOR_TGTSTAT : ∀ i, W0 (R.SOR_TGTSTAT i)) (h_SRF_STAT : W0 R.SRF_STAT) (h_SRF_FREEPG : W0 R.SRF_FREEPG) (h_SRF_RETIRED : W0 R.SRF_RETIRED) (h_SRF_TCMISS : W0 R.SRF_TCMISS) (h_FRT_USTAT : W0 R.FRT_USTAT) (h_FRT_UFRM : W0 R.FRT_UFRM) (h_CHN_PERR : ∀ i, W0 (R.CHN_PERR i)) (h_LNK_PSTAT : ∀ i, W0 (R.LNK_PSTAT i)) (h_LNK_PMAP : ∀ i, W0 (R.LNK_PMAP i)) (h_LNK_PCNT : ∀ i, W0 (R.LNK_PCNT i)) (h_LNK_LSTAT : ∀ i, W0 (R.LNK_LSTAT i)) (h_TIM_INC : W0 R.TIM_INC) (h_TIM_PGCFG : ∀ i, W0 (R.TIM_PGCFG i)) (h_TIM_PGNEXT : ∀ i, W0 (R.TIM_PGNEXT i)) (h_TAN_TSTAT : W0 R.TAN_TSTAT) (h_SPK_SPKSTAT : ∀ i, W0 (R.SPK_SPKSTAT i)) (h_DRC_ECCSTAT : W0 R.DRC_ECCSTAT) (h_DRC_UEADDR : W0 R.DRC_UEADDR) (h_CAL_STAT : W0 R.CAL_STAT) (h0 : RegsBut W0 r0 s) :
    RegsBut W0 r0 (blockReset s k) := by
  unfold blockReset
  have h1 : RegsBut W0 r0 (blockHeld s k) := blockHeld_regs s k h_GLB_BLKRST h0
  generalize blockHeld s k = t at h1
  dsimp only
  with_reducible refine RegsBut.ite (by with_reducible apply queBlockReset_regs <;> with_reducible assumption) ?_
  with_reducible refine RegsBut.ite (by with_reducible apply dmaBlockReset_regs <;> with_reducible assumption) ?_
  with_reducible refine RegsBut.ite (by with_reducible apply sorBlockReset_regs <;> with_reducible assumption) ?_
  with_reducible refine RegsBut.ite (by with_reducible apply srfBlockReset_regs <;> with_reducible assumption) ?_
  with_reducible refine RegsBut.ite (by with_reducible apply cmpBlockReset_regs <;> with_reducible assumption) ?_
  with_reducible refine RegsBut.ite (by with_reducible apply frtBlockReset_regs <;> with_reducible assumption) ?_
  with_reducible refine RegsBut.ite (by with_reducible apply chnBlockReset_regs <;> with_reducible assumption) ?_
  with_reducible refine RegsBut.ite (by with_reducible apply lnkBlockReset_regs <;> with_reducible assumption) ?_
  with_reducible refine RegsBut.ite (by with_reducible apply timBlockReset_regs <;> with_reducible assumption) ?_
  with_reducible refine RegsBut.ite (by with_reducible apply tanBlockReset_regs <;> with_reducible assumption) ?_
  with_reducible refine RegsBut.ite (by with_reducible apply lmpBlockReset_regs <;> with_reducible assumption) ?_
  with_reducible refine RegsBut.ite (by with_reducible apply spkBlockReset_regs <;> with_reducible assumption) ?_
  with_reducible refine RegsBut.ite (by with_reducible apply calBlockReset_regs <;> with_reducible assumption) ?_
  with_reducible refine RegsBut.ite (by with_reducible apply dbgBlockReset_regs <;> with_reducible assumption) ?_
  exact h1

theorem lmpResetEnd_regs {W0 : Nat → Prop} {r0 : State} (s : State) (h_SPK_CTL : W0 R.SPK_CTL) (h_SPK_SPKSTAT : ∀ i, W0 (R.SPK_SPKSTAT i)) (h0 : RegsBut W0 r0 s) :
    RegsBut W0 r0 (lmpResetEnd s) := by
  unfold lmpResetEnd
  repeat' first
    | with_reducible assumption
    | with_reducible apply spkEnable_regs
    | split

theorem blockResetEnd_regs {W0 : Nat → Prop} {r0 : State} (s : State) (k : Nat) (h_GLB_BLKRST : W0 R.GLB_BLKRST) (h_LNK_CFG : W0 R.LNK_CFG) (h_LNK_PCTL : ∀ i, W0 (R.LNK_PCTL i)) (h_LNK_PSTAT : ∀ i, W0 (R.LNK_PSTAT i)) (h_TIM_PGCFG : ∀ i, W0 (R.TIM_PGCFG i)) (h_TIM_PGSTART : ∀ i, W0 (R.TIM_PGSTART i)) (h_TIM_PGPER : ∀ i, W0 (R.TIM_PGPER i)) (h_TIM_PGPERF : ∀ i, W0 (R.TIM_PGPERF i)) (h_TIM_PGSTAT : ∀ i, W0 (R.TIM_PGSTAT i)) (h_TIM_PGNEXT : ∀ i, W0 (R.TIM_PGNEXT i)) (h_SPK_CTL : W0 R.SPK_CTL) (h_SPK_SPKSTAT : ∀ i, W0 (R.SPK_SPKSTAT i)) (h0 : RegsBut W0 r0 s) :
    RegsBut W0 r0 (blockResetEnd s k) := by
  unfold blockResetEnd
  repeat' first
    | with_reducible assumption
    | with_reducible exact h_GLB_BLKRST
    | with_reducible apply setBitF_regs
    | with_reducible apply timResetEnd_regs
    | with_reducible apply tanResetEnd_regs
    | with_reducible apply calTimer_regs
    | with_reducible apply startPorts_regs
    | with_reducible apply lmpResetEnd_regs
    | split
    | dsimp only

theorem onReg_regs {W0 : Nat → Prop} {r0 : State} (s : State) (r : Nat → Nat) (n : Nat) (off : Nat) (f : Nat → State) (h_f : ∀ (x0 : Nat), RegsBut W0 r0 (f x0)) (h0 : RegsBut W0 r0 s) :
    RegsBut W0 r0 (onReg s r n off f) := by
  unfold onReg
  repeat' first
    | with_reducible assumption
    | with_reducible apply h_f
    | split

theorem effectGlb_regs {W0 : Nat → Prop} {r0 : State} (s0 : State) (s : State) (off : Nat) (v : Word) (h_pba : ∀ k, W0 (0x38000 + 4 * (k % 64))) (h_r0x100000 : ∀ off, 0x100000 ≤ off → off < 0x110000 → W0 off) (h_r0x110000 : ∀ off, 0x110000 ≤ off → off < 0x120000 → W0 off) (h_r0x120000 : ∀ off, 0x120000 ≤ off → off < 0x130000 → W0 off) (h_r0x150000 : ∀ off, 0x150000 ≤ off → off < 0x160000 → W0 off) (h_r0x40000 : ∀ off, 0x40000 ≤ off → off < 0x80000 → W0 off) (h_r0x80000 : ∀ off, 0x80000 ≤ off → off < 0x90000 → W0 off) (h_r0x90000 : ∀ off, 0x90000 ≤ off → off < 0xA0000 → W0 off) (h_r0xA0000 : ∀ off, 0xA0000 ≤ off → off < 0xB0000 → W0 off) (h_r0xB0000 : ∀ off, 0xB0000 ≤ off → off < 0xC0000 → W0 off) (h_r0xC0000 : ∀ off, 0xC0000 ≤ off → off < 0xD0000 → W0 off) (h_r0xD0000 : ∀ off, 0xD0000 ≤ off → off < 0xE0000 → W0 off) (h_r0xE0000 : ∀ off, 0xE0000 ≤ off → off < 0xF0000 → W0 off) (h_r0xF0000 : ∀ off, 0xF0000 ≤ off → off < 0x100000 → W0 off) (h_GLB_RSTCAUSE : W0 R.GLB_RSTCAUSE) (h_GLB_ERRLOG : W0 R.GLB_ERRLOG) (h_GLB_ERRINFO : W0 R.GLB_ERRINFO) (h_GLB_BLKRST : W0 R.GLB_BLKRST) (h_GLB_YIELDCNT : W0 R.GLB_YIELDCNT) (h_GLB_YIELDLAST : W0 R.GLB_YIELDLAST) (h_GLB_YIELDFRM : W0 R.GLB_YIELDFRM) (h_GLB_EVTOVF : W0 R.GLB_EVTOVF) (h_QUE_STAT : ∀ i, W0 (R.QUE_STAT i)) (h_QUE_RET : ∀ i, W0 (R.QUE_RET i)) (h_DMA_CHSTAT : ∀ i, W0 (R.DMA_CHSTAT i)) (h_DMA_CHCNT : ∀ i, W0 (R.DMA_CHCNT i)) (h_DMA_CHDEAD : ∀ i, W0 (R.DMA_CHDEAD i)) (h_SOR_TGTSTAT : ∀ i, W0 (R.SOR_TGTSTAT i)) (h_SRF_STAT : W0 R.SRF_STAT) (h_SRF_FREEPG : W0 R.SRF_FREEPG) (h_SRF_RETIRED : W0 R.SRF_RETIRED) (h_SRF_TCMISS : W0 R.SRF_TCMISS) (h_FRT_USTAT : W0 R.FRT_USTAT) (h_FRT_UFRM : W0 R.FRT_UFRM) (h_CHN_PERR : ∀ i, W0 (R.CHN_PERR i)) (h_LNK_PSTAT : ∀ i, W0 (R.LNK_PSTAT i)) (h_LNK_PMAP : ∀ i, W0 (R.LNK_PMAP i)) (h_LNK_PCNT : ∀ i, W0 (R.LNK_PCNT i)) (h_LNK_LSTAT : ∀ i, W0 (R.LNK_LSTAT i)) (h_TIM_INC : W0 R.TIM_INC) (h_TIM_PGCFG : ∀ i, W0 (R.TIM_PGCFG i)) (h_TIM_PGNEXT : ∀ i, W0 (R.TIM_PGNEXT i)) (h_TAN_TSTAT : W0 R.TAN_TSTAT) (h_SPK_SPKSTAT : ∀ i, W0 (R.SPK_SPKSTAT i)) (h_DRC_ECCSTAT : W0 R.DRC_ECCSTAT) (h_DRC_UEADDR : W0 R.DRC_UEADDR) (h_CAL_STAT : W0 R.CAL_STAT) (h0 : RegsBut W0 r0 s) :
    RegsBut W0 r0 (effectGlb s0 s off v) := by
  unfold effectGlb
  repeat' first
    | with_reducible assumption
    | with_reducible exact h_GLB_RSTCAUSE
    | with_reducible apply clearErrors_regs
    | with_reducible apply warmRequest_regs
    | with_reducible apply blockReset_regs
    | with_reducible apply RegsBut.foldl
    | with_reducible apply RegsBut.snd
    | with_reducible apply RegsBut.snd2
    | with_reducible apply RegsBut.fst
    | with_reducible apply RegsBut.foldl_snd
    | with_reducible apply RegsBut.foldl_snd2
    | with_reducible apply RegsBut.foldl_fst
    | with_reducible refine RegsBut.of_fst (by with_reducible assumption) ?_
    | with_reducible refine RegsBut.of_snd (by with_reducible assumption) ?_
    | with_reducible refine RegsBut.of_snd2 (by with_reducible assumption) ?_
    | split
    | dsimp only
    | with_reducible intro _

theorem effectQue_regs {W0 : Nat → Prop} {r0 : State} (s0 : State) (s : State) (off : Nat) (v : Word) (h_pba : ∀ k, W0 (0x38000 + 4 * (k % 64))) (h_QUE_STAT : ∀ i, W0 (R.QUE_STAT i)) (h_QUE_IDX : ∀ i, W0 (R.QUE_IDX i)) (h_QUE_RET : ∀ i, W0 (R.QUE_RET i)) (h0 : RegsBut W0 r0 s) :
    RegsBut W0 r0 (effectQue s0 s off v) := by
  unfold effectQue
  repeat' first
    | with_reducible assumption
    | with_reducible apply queueEnable_regs
    | with_reducible apply queueDisable_regs
    | with_reducible apply queueStop_regs
    | with_reducible apply queueResume_regs
    | with_reducible apply onReg_regs
    | split
    | dsimp only
    | with_reducible intro _

theorem effectSor_regs {W0 : Nat → Prop} {r0 : State} (s0 : State) (s : State) (off : Nat) (v : Word) (h_pba : ∀ k, W0 (0x38000 + 4 * (k % 64))) (h_SOR_TGTSTAT : ∀ i, W0 (R.SOR_TGTSTAT i)) (h0 : RegsBut W0 r0 s) :
    RegsBut W0 r0 (effectSor s0 s off v) := by
  unfold effectSor
  repeat' first
    | with_reducible assumption
    | simp only [RegsBut.sor]
    | with_reducible exact h_SOR_TGTSTAT _
    | with_reducible apply setF_regs
    | with_reducible apply forgetLast_regs
    | with_reducible apply slotNext_regs
    | with_reducible apply onReg_regs
    | split
    | dsimp only
    | with_reducible intro _

theorem effectFrt_regs {W0 : Nat → Prop} {r0 : State} (s0 : State) (s : State) (off : Nat) (v : Word) (h_pba : ∀ k, W0 (0x38000 + 4 * (k % 64))) (h_GLB_EVTOVF : W0 R.GLB_EVTOVF) (h_QUE_STAT : ∀ i, W0 (R.QUE_STAT i)) (h_QUE_RET : ∀ i, W0 (R.QUE_RET i)) (h_SRF_STAT : W0 R.SRF_STAT) (h_SRF_FREEPG : W0 R.SRF_FREEPG) (h_SRF_PFSTAT : W0 R.SRF_PFSTAT) (h_SRF_PFLAST : W0 R.SRF_PFLAST) (h_SRF_TCMISS : W0 R.SRF_TCMISS) (h_FRT_CTL : W0 R.FRT_CTL) (h_FRT_COMMIT : W0 R.FRT_COMMIT) (h_FRT_NEXTLAT : W0 R.FRT_NEXTLAT) (h_FRT_PERNS : W0 R.FRT_PERNS) (h_FRT_PERFRAC : W0 R.FRT_PERFRAC) (h_FRT_LAT : W0 R.FRT_LAT) (h_FRT_WIN : W0 R.FRT_WIN) (h_FRT_MARGIN : W0 R.FRT_MARGIN) (h_FRT_EFRAME : W0 R.FRT_EFRAME) (h_FRT_ANCHOR : W0 R.FRT_ANCHOR) (h_FRT_MSTAT : W0 R.FRT_MSTAT) (h_CHN_PERR : ∀ i, W0 (R.CHN_PERR i)) (h_TIM_PGCFG : ∀ i, W0 (R.TIM_PGCFG i)) (h_TIM_PGSTART : ∀ i, W0 (R.TIM_PGSTART i)) (h_TIM_PGPER : ∀ i, W0 (R.TIM_PGPER i)) (h_TIM_PGPERF : ∀ i, W0 (R.TIM_PGPERF i)) (h_TIM_PGSTAT : ∀ i, W0 (R.TIM_PGSTAT i)) (h_TIM_PGNEXT : ∀ i, W0 (R.TIM_PGNEXT i)) (h_DRC_ECCSTAT : W0 R.DRC_ECCSTAT) (h_DRC_UEADDR : W0 R.DRC_UEADDR) (h0 : RegsBut W0 r0 s) :
    RegsBut W0 r0 (effectFrt s0 s off v) := by
  unfold effectFrt
  repeat' first
    | with_reducible assumption
    | with_reducible exact h_FRT_CTL
    | with_reducible apply setF_regs
    | with_reducible apply commit_regs
    | with_reducible apply frtEnable_regs
    | with_reducible apply frtDisable_regs
    | split

theorem effectLnk_regs {W0 : Nat → Prop} {r0 : State} (s0 : State) (s : State) (off : Nat) (v : Word) (h_pba : ∀ k, W0 (0x38000 + 4 * (k % 64))) (h_GLB_EVTOVF : W0 R.GLB_EVTOVF) (h_CHN_PERR : ∀ i, W0 (R.CHN_PERR i)) (h_LNK_PSTAT : ∀ i, W0 (R.LNK_PSTAT i)) (h_LNK_PMAP : ∀ i, W0 (R.LNK_PMAP i)) (h_LNK_PCNT : ∀ i, W0 (R.LNK_PCNT i)) (h_LNK_LCTL : ∀ i, W0 (R.LNK_LCTL i)) (h_LNK_LSTAT : ∀ i, W0 (R.LNK_LSTAT i)) (h_LNK_LPRBS : ∀ i, W0 (R.LNK_LPRBS i)) (h_TAN_TSTAT : W0 R.TAN_TSTAT) (h_CAL_STAT : W0 R.CAL_STAT) (h0 : RegsBut W0 r0 s) :
    RegsBut W0 r0 (effectLnk s0 s off v) := by
  unfold effectLnk
  repeat' first
    | with_reducible assumption
    | with_reducible exact h_LNK_LPRBS _
    | with_reducible apply setWord_regs
    | with_reducible apply injSettle_regs
    | with_reducible apply portControl_regs
    | with_reducible apply laneControl_regs
    | with_reducible apply onReg_regs
    | split
    | dsimp only
    | with_reducible intro _

theorem effectTim_regs {W0 : Nat → Prop} {r0 : State} (s0 : State) (s : State) (off : Nat) (v : Word) (h_pba : ∀ k, W0 (0x38000 + 4 * (k % 64))) (h_GLB_EVTOVF : W0 R.GLB_EVTOVF) (h_SOR_GSTAT : W0 R.SOR_GSTAT) (h_CHN_PERR : ∀ i, W0 (R.CHN_PERR i)) (h_TIM_STAT : W0 R.TIM_STAT) (h_TIM_REFCFG : W0 R.TIM_REFCFG) (h_TIM_PGCFG : ∀ i, W0 (R.TIM_PGCFG i)) (h_TIM_PGSTAT : ∀ i, W0 (R.TIM_PGSTAT i)) (h_TIM_PGNEXT : ∀ i, W0 (R.TIM_PGNEXT i)) (h_TIM_CAPCFG : ∀ i, W0 (R.TIM_CAPCFG i)) (h0 : RegsBut W0 r0 s) :
    RegsBut W0 r0 (effectTim s0 s off v) := by
  unfold effectTim
  repeat' first
    | with_reducible assumption
    | with_reducible exact h_TIM_REFCFG
    | with_reducible apply setF_regs
    | with_reducible apply genShow_regs
    | with_reducible apply genEnable_regs
    | with_reducible apply genStop_regs
    | with_reducible apply genLast_regs
    | with_reducible apply stepTime_regs
    | with_reducible apply setServo_regs
    | with_reducible apply capStart_regs
    | with_reducible apply onReg_regs
    | split
    | dsimp only
    | with_reducible intro _

theorem effectTan_regs {W0 : Nat → Prop} {r0 : State} (s0 : State) (s : State) (off : Nat) (v : Word) (h_pba : ∀ k, W0 (0x38000 + 4 * (k % 64))) (h_GLB_EVTOVF : W0 R.GLB_EVTOVF) (h_QUE_STAT : ∀ i, W0 (R.QUE_STAT i)) (h_QUE_RET : ∀ i, W0 (R.QUE_RET i)) (h_CHN_PERR : ∀ i, W0 (R.CHN_PERR i)) (h_TIM_PGCFG : ∀ i, W0 (R.TIM_PGCFG i)) (h_TIM_PGSTART : ∀ i, W0 (R.TIM_PGSTART i)) (h_TIM_PGPER : ∀ i, W0 (R.TIM_PGPER i)) (h_TIM_PGPERF : ∀ i, W0 (R.TIM_PGPERF i)) (h_TIM_PGSTAT : ∀ i, W0 (R.TIM_PGSTAT i)) (h_TIM_PGNEXT : ∀ i, W0 (R.TIM_PGNEXT i)) (h_TAN_CFG : W0 R.TAN_CFG) (h_TAN_CLAIM : W0 R.TAN_CLAIM) (h_TAN_STAT : W0 R.TAN_STAT) (h_TAN_SNAPSTAT : W0 R.TAN_SNAPSTAT) (h0 : RegsBut W0 r0 s) :
    RegsBut W0 r0 (effectTan s0 s off v) := by
  unfold effectTan
  repeat' first
    | with_reducible assumption
    | with_reducible apply holdCheck_regs
    | with_reducible apply takeover_regs
    | with_reducible apply tanEnable_regs
    | with_reducible apply tanDisable_regs
    | with_reducible apply renum_regs
    | split

theorem effectLmp_regs {W0 : Nat → Prop} {r0 : State} (s0 : State) (s : State) (off : Nat) (v : Word) (h_pba : ∀ k, W0 (0x38000 + 4 * (k % 64))) (h_QUE_STAT : ∀ i, W0 (R.QUE_STAT i)) (h_QUE_RET : ∀ i, W0 (R.QUE_RET i)) (h_SRF_STAT : W0 R.SRF_STAT) (h_SRF_FREEPG : W0 R.SRF_FREEPG) (h_LMP_CTL : W0 R.LMP_CTL) (h_LMP_DIMNOW : W0 R.LMP_DIMNOW) (h0 : RegsBut W0 r0 s) :
    RegsBut W0 r0 (effectLmp s0 s off v) := by
  unfold effectLmp
  repeat' first
    | with_reducible assumption
    | with_reducible apply lampDrop_regs
    | with_reducible apply dimArm_regs
    | with_reducible apply lmpEnable_regs
    | with_reducible apply lmpDisable_regs
    | split

theorem effectSpk_regs {W0 : Nat → Prop} {r0 : State} (s0 : State) (s : State) (off : Nat) (v : Word) (h_pba : ∀ k, W0 (0x38000 + 4 * (k % 64))) (h_GLB_EVTOVF : W0 R.GLB_EVTOVF) (h_SRF_TCMISS : W0 R.SRF_TCMISS) (h_CHN_PERR : ∀ i, W0 (R.CHN_PERR i)) (h_SPK_CTL : W0 R.SPK_CTL) (h_SPK_FLCNT : W0 R.SPK_FLCNT) (h_SPK_SPKSTAT : ∀ i, W0 (R.SPK_SPKSTAT i)) (h_DRC_ECCSTAT : W0 R.DRC_ECCSTAT) (h_DRC_UEADDR : W0 R.DRC_UEADDR) (h0 : RegsBut W0 r0 s) :
    RegsBut W0 r0 (effectSpk s0 s off v) := by
  unfold effectSpk
  repeat' first
    | with_reducible assumption
    | with_reducible apply spkEnable_regs
    | with_reducible apply spkDisable_regs
    | with_reducible apply spkReload_regs
    | with_reducible apply faultClear_regs
    | split

theorem effectThm_regs {W0 : Nat → Prop} {r0 : State} (s : State) (off : Nat) (h_pba : ∀ k, W0 (0x38000 + 4 * (k % 64))) (h_GLB_YIELDCNT : W0 R.GLB_YIELDCNT) (h_GLB_YIELDLAST : W0 R.GLB_YIELDLAST) (h_GLB_YIELDFRM : W0 R.GLB_YIELDFRM) (h_GLB_EVTOVF : W0 R.GLB_EVTOVF) (h_QUE_STAT : ∀ i, W0 (R.QUE_STAT i)) (h_QUE_RET : ∀ i, W0 (R.QUE_RET i)) (h_SRF_STAT : W0 R.SRF_STAT) (h_SRF_FREEPG : W0 R.SRF_FREEPG) (h_SRF_RETIRED : W0 R.SRF_RETIRED) (h_CHN_PERR : ∀ i, W0 (R.CHN_PERR i)) (h_LNK_PSTAT : ∀ i, W0 (R.LNK_PSTAT i)) (h_LNK_PMAP : ∀ i, W0 (R.LNK_PMAP i)) (h_LNK_PCNT : ∀ i, W0 (R.LNK_PCNT i)) (h_LNK_LCTL : ∀ i, W0 (R.LNK_LCTL i)) (h_LNK_LSTAT : ∀ i, W0 (R.LNK_LSTAT i)) (h_LNK_LPRBS : ∀ i, W0 (R.LNK_LPRBS i)) (h_TAN_TSTAT : W0 R.TAN_TSTAT) (h_LMP_CEIL : W0 R.LMP_CEIL) (h_SPK_CTL : W0 R.SPK_CTL) (h_SPK_SPKSTAT : ∀ i, W0 (R.SPK_SPKSTAT i)) (h_DRC_CFG : W0 R.DRC_CFG) (h_DRC_HAZSTAT : W0 R.DRC_HAZSTAT) (h_DRC_CHSTAT : ∀ i, W0 (R.DRC_CHSTAT i)) (h_THM_STAT : W0 R.THM_STAT) (h_THM_PWR : W0 R.THM_PWR) (h_THM_OD : ∀ i, W0 (R.THM_OD i)) (h_THM_TD : ∀ i, W0 (R.THM_TD i)) (h_CAL_STAT : W0 R.CAL_STAT) (h_SEC_STAT : W0 R.SEC_STAT) (h0 : RegsBut W0 r0 s) :
    RegsBut W0 r0 (effectThm s off) := by
  unfold effectThm
  repeat' first
    | with_reducible assumption
    | with_reducible apply thmEval_regs
    | with_reducible apply powerRequest_regs
    | split

theorem effectCal_regs {W0 : Nat → Prop} {r0 : State} (s0 : State) (s : State) (off : Nat) (v : Word) (h_LNK_PMAP : ∀ i, W0 (R.LNK_PMAP i)) (h_LNK_LSTAT : ∀ i, W0 (R.LNK_LSTAT i)) (h_TIM_INC : W0 R.TIM_INC) (h_CAL_STAT : W0 R.CAL_STAT) (h0 : RegsBut W0 r0 s) :
    RegsBut W0 r0 (effectCal s0 s off v) := by
  unfold effectCal
  repeat' first
    | with_reducible assumption
    | with_reducible apply calManual_regs
    | with_reducible apply calDisable_regs
    | split

theorem effectUpd_regs {W0 : Nat → Prop} {r0 : State} (s : State) (off : Nat) (v : Word) (h_pba : ∀ k, W0 (0x38000 + 4 * (k % 64))) (h_GLB_BOOTSTAT : W0 R.GLB_BOOTSTAT) (h_GLB_EVTOVF : W0 R.GLB_EVTOVF) (h_QUE_STAT : ∀ i, W0 (R.QUE_STAT i)) (h_QUE_RET : ∀ i, W0 (R.QUE_RET i)) (h_CHN_PERR : ∀ i, W0 (R.CHN_PERR i)) (h_UPD_STAT : W0 R.UPD_STAT) (h_UPD_HELD : W0 R.UPD_HELD) (h_UPD_AFRAME : W0 R.UPD_AFRAME) (h_UPD_PKGID : ∀ i, W0 (R.UPD_PKGID i)) (h_UPD_RECOV : W0 R.UPD_RECOV) (h0 : RegsBut W0 r0 s) :
    RegsBut W0 r0 (effectUpd s off v) := by
  unfold effectUpd
  repeat' first
    | with_reducible assumption
    | with_reducible apply abandon_regs
    | with_reducible apply hostConfirm_regs
    | with_reducible apply recoveryGo_regs
    | split

theorem regEffect_regs {W0 : Nat → Prop} {r0 : State} (s0 : State) (s : State) (off : Nat) (v : Word) (h_pba : ∀ k, W0 (0x38000 + 4 * (k % 64))) (h_r0x100000 : ∀ off, 0x100000 ≤ off → off < 0x110000 → W0 off) (h_r0x110000 : ∀ off, 0x110000 ≤ off → off < 0x120000 → W0 off) (h_r0x120000 : ∀ off, 0x120000 ≤ off → off < 0x130000 → W0 off) (h_r0x150000 : ∀ off, 0x150000 ≤ off → off < 0x160000 → W0 off) (h_r0x40000 : ∀ off, 0x40000 ≤ off → off < 0x80000 → W0 off) (h_r0x80000 : ∀ off, 0x80000 ≤ off → off < 0x90000 → W0 off) (h_r0x90000 : ∀ off, 0x90000 ≤ off → off < 0xA0000 → W0 off) (h_r0xA0000 : ∀ off, 0xA0000 ≤ off → off < 0xB0000 → W0 off) (h_r0xB0000 : ∀ off, 0xB0000 ≤ off → off < 0xC0000 → W0 off) (h_r0xC0000 : ∀ off, 0xC0000 ≤ off → off < 0xD0000 → W0 off) (h_r0xD0000 : ∀ off, 0xD0000 ≤ off → off < 0xE0000 → W0 off) (h_r0xE0000 : ∀ off, 0xE0000 ≤ off → off < 0xF0000 → W0 off) (h_r0xF0000 : ∀ off, 0xF0000 ≤ off → off < 0x100000 → W0 off) (h_GLB_RSTCAUSE : W0 R.GLB_RSTCAUSE) (h_GLB_BOOTSTAT : W0 R.GLB_BOOTSTAT) (h_GLB_ERRLOG : W0 R.GLB_ERRLOG) (h_GLB_ERRINFO : W0 R.GLB_ERRINFO) (h_GLB_BLKRST : W0 R.GLB_BLKRST) (h_GLB_YIELDCNT : W0 R.GLB_YIELDCNT) (h_GLB_YIELDLAST : W0 R.GLB_YIELDLAST) (h_GLB_YIELDFRM : W0 R.GLB_YIELDFRM) (h_GLB_EVTOVF : W0 R.GLB_EVTOVF) (h_HIF_LINKSTAT : W0 R.HIF_LINKSTAT) (h_QUE_STAT : ∀ i, W0 (R.QUE_STAT i)) (h_QUE_IDX : ∀ i, W0 (R.QUE_IDX i)) (h_QUE_RET : ∀ i, W0 (R.QUE_RET i)) (h_DMA_CHSTAT : ∀ i, W0 (R.DMA_CHSTAT i)) (h_DMA_CHCNT : ∀ i, W0 (R.DMA_CHCNT i)) (h_DMA_CHDEAD : ∀ i, W0 (R.DMA_CHDEAD i)) (h_SOR_GSTAT : W0 R.SOR_GSTAT) (h_SOR_TGTSTAT : ∀ i, W0 (R.SOR_TGTSTAT i)) (h_SRF_CTL : W0 R.SRF_CTL) (h_SRF_STAT : W0 R.SRF_STAT) (h_SRF_FREEPG : W0 R.SRF_FREEPG) (h_SRF_PFSTAT : W0 R.SRF_PFSTAT) (h_SRF_PFLAST : W0 R.SRF_PFLAST) (h_SRF_RETIRED : W0 R.SRF_RETIRED) (h_SRF_TCMISS : W0 R.SRF_TCMISS) (h_FRT_CTL : W0 R.FRT_CTL) (h_FRT_COMMIT : W0 R.FRT_COMMIT) (h_FRT_NEXTLAT : W0 R.FRT_NEXTLAT) (h_FRT_PERNS : W0 R.FRT_PERNS) (h_FRT_PERFRAC : W0 R.FRT_PERFRAC) (h_FRT_LAT : W0 R.FRT_LAT) (h_FRT_WIN : W0 R.FRT_WIN) (h_FRT_MARGIN : W0 R.FRT_MARGIN) (h_FRT_EFRAME : W0 R.FRT_EFRAME) (h_FRT_ANCHOR : W0 R.FRT_ANCHOR) (h_FRT_MSTAT : W0 R.FRT_MSTAT) (h_FRT_USTAT : W0 R.FRT_USTAT) (h_FRT_UFRM : W0 R.FRT_UFRM) (h_CHN_INBOXIDX : W0 R.CHN_INBOXIDX) (h_CHN_PERR : ∀ i, W0 (R.CHN_PERR i)) (h_LNK_PSTAT : ∀ i, W0 (R.LNK_PSTAT i)) (h_LNK_PMAP : ∀ i, W0 (R.LNK_PMAP i)) (h_LNK_PCNT : ∀ i, W0 (R.LNK_PCNT i)) (h_LNK_LCTL : ∀ i, W0 (R.LNK_LCTL i)) (h_LNK_LSTAT : ∀ i, W0 (R.LNK_LSTAT i)) (h_LNK_LPRBS : ∀ i, W0 (R.LNK_LPRBS i)) (h_TIM_STAT : W0 R.TIM_STAT) (h_TIM_INC : W0 R.TIM_INC) (h_TIM_REFCFG : W0 R.TIM_REFCFG) (h_TIM_PGCFG : ∀ i, W0 (R.TIM_PGCFG i)) (h_TIM_PGSTART : ∀ i, W0 (R.TIM_PGSTART i)) (h_TIM_PGPER : ∀ i, W0 (R.TIM_PGPER i)) (h_TIM_PGPERF : ∀ i, W0 (R.TIM_PGPERF i)) (h_TIM_PGSTAT : ∀ i, W0 (R.TIM_PGSTAT i)) (h_TIM_PGNEXT : ∀ i, W0 (R.TIM_PGNEXT i)) (h_TIM_CAPCFG : ∀ i, W0 (R.TIM_CAPCFG i)) (h_TAN_CFG : W0 R.TAN_CFG) (h_TAN_CLAIM : W0 R.TAN_CLAIM) (h_TAN_STAT : W0 R.TAN_STAT) (h_TAN_SNAPSTAT : W0 R.TAN_SNAPSTAT) (h_TAN_TSTAT : W0 R.TAN_TSTAT) (h_LMP_CTL : W0 R.LMP_CTL) (h_LMP_DIMNOW : W0 R.LMP_DIMNOW) (h_LMP_CEIL : W0 R.LMP_CEIL) (h_SPK_CTL : W0 R.SPK_CTL) (h_SPK_FLCNT : W0 R.SPK_FLCNT) (h_SPK_SPKSTAT : ∀ i, W0 (R.SPK_SPKSTAT i)) (h_DRC_CFG : W0 R.DRC_CFG) (h_DRC_FREQ : W0 R.DRC_FREQ) (h_DRC_ECCSTAT : W0 R.DRC_ECCSTAT) (h_DRC_UEADDR : W0 R.DRC_UEADDR) (h_DRC_HAZSTAT : W0 R.DRC_HAZSTAT) (h_DRC_CHSTAT : ∀ i, W0 (R.DRC_CHSTAT i)) (h_THM_STAT : W0 R.THM_STAT) (h_THM_PWR : W0 R.THM_PWR) (h_THM_OD : ∀ i, W0 (R.THM_OD i)) (h_THM_TD : ∀ i, W0 (R.THM_TD i)) (h_CAL_STAT : W0 R.CAL_STAT) (h_SEC_STAT : W0 R.SEC_STAT) (h_UPD_STAT : W0 R.UPD_STAT) (h_UPD_HELD : W0 R.UPD_HELD) (h_UPD_AFRAME : W0 R.UPD_AFRAME) (h_UPD_PKGID : ∀ i, W0 (R.UPD_PKGID i)) (h_UPD_RECOV : W0 R.UPD_RECOV) (h0 : RegsBut W0 r0 s) :
    RegsBut W0 r0 (regEffect s0 s off v) := by
  unfold regEffect
  repeat' first
    | with_reducible assumption
    | with_reducible exact h_CHN_INBOXIDX
    | with_reducible apply setWord_regs
    | with_reducible apply engineStop_regs
    | with_reducible apply srfEnable_regs
    | with_reducible apply dmaShow_regs
    | with_reducible apply chanConfig_regs
    | with_reducible apply freqGo_regs
    | with_reducible apply linkRetrain_regs
    | with_reducible apply onReg_regs
    | with_reducible apply effectGlb_regs
    | with_reducible apply effectQue_regs
    | with_reducible apply effectSor_regs
    | with_reducible apply effectFrt_regs
    | with_reducible apply effectLnk_regs
    | with_reducible apply effectTim_regs
    | with_reducible apply effectTan_regs
    | with_reducible apply effectLmp_regs
    | with_reducible apply effectSpk_regs
    | with_reducible apply effectThm_regs
    | with_reducible apply effectCal_regs
    | with_reducible apply effectUpd_regs
    | split
    | dsimp only
    | with_reducible intro _

theorem recovWr_regs {W0 : Nat → Prop} {r0 : State} (s : State) (a : Nat) (v : Word) (h0 : RegsBut W0 r0 s) :
    RegsBut W0 r0 (recovWr s a v) := by
  unfold recovWr
  repeat' first
    | with_reducible assumption
    | simp only [RegsBut.upd]

theorem regWrite_regs {W0 : Nat → Prop} {r0 : State} (s : State) (src : Nat) (off : Nat) (v : Word) (h_all : ∀ off, W0 off) (h0 : RegsBut W0 r0 s) :
    RegsBut W0 r0 (regWrite s src off v).2 := by
  exact RegsBut.all h_all

theorem hostWrite_regs {W0 : Nat → Prop} {r0 : State} (s : State) (off : Nat) (v : Word) (h_all : ∀ off, W0 off) (h0 : RegsBut W0 r0 s) :
    RegsBut W0 r0 (hostWrite s off v) := by
  exact RegsBut.all h_all

theorem barWrite_regs {W0 : Nat → Prop} {r0 : State} (s : State) (size : Nat) (off : Nat) (v : Nat) (h_all : ∀ off, W0 off) (h0 : RegsBut W0 r0 s) :
    RegsBut W0 r0 (barWrite s size off v) := by
  exact RegsBut.all h_all

theorem eventRead_regs {W0 : Nat → Prop} {r0 : State} (s : State) (h_GLB_EVTTIME : W0 R.GLB_EVTTIME) (h_GLB_EVTDET0 : W0 R.GLB_EVTDET0) (h_GLB_EVTDET1 : W0 R.GLB_EVTDET1) (h0 : RegsBut W0 r0 s) :
    RegsBut W0 r0 (eventRead s).2 := by
  unfold eventRead
  repeat' first
    | with_reducible assumption
    | simp only [RegsBut.hif]
    | with_reducible exact h_GLB_EVTTIME
    | with_reducible exact h_GLB_EVTDET0
    | with_reducible exact h_GLB_EVTDET1
    | with_reducible apply setWord_regs
    | split

theorem nowRead_regs {W0 : Nat → Prop} {r0 : State} (s : State) (h_TIM_NOWFR : W0 R.TIM_NOWFR) (h_TIM_NOWWR : W0 R.TIM_NOWWR) (h0 : RegsBut W0 r0 s) :
    RegsBut W0 r0 (nowRead s).2 := by
  unfold nowRead
  repeat' first
    | with_reducible assumption
    | with_reducible exact h_TIM_NOWFR
    | with_reducible exact h_TIM_NOWWR
    | with_reducible apply setWord_regs

theorem bytesRead_regs {W0 : Nat → Prop} {r0 : State} (s : State) (c : Nat) (h_DMA_CHBYTHI : ∀ i, W0 (R.DMA_CHBYTHI i)) (h0 : RegsBut W0 r0 s) :
    RegsBut W0 r0 (bytesRead s c).2 := by
  unfold bytesRead
  repeat' first
    | with_reducible assumption
    | with_reducible exact h_DMA_CHBYTHI _
    | with_reducible apply setWord_regs

theorem regRead_regs {W0 : Nat → Prop} {r0 : State} (s : State) (off : Nat) (h_GLB_EVTTIME : W0 R.GLB_EVTTIME) (h_GLB_EVTDET0 : W0 R.GLB_EVTDET0) (h_GLB_EVTDET1 : W0 R.GLB_EVTDET1) (h_DMA_CHBYTHI : ∀ i, W0 (R.DMA_CHBYTHI i)) (h_TIM_NOWFR : W0 R.TIM_NOWFR) (h_TIM_NOWWR : W0 R.TIM_NOWWR) (h_TIM_CAPCFG : ∀ i, W0 (R.TIM_CAPCFG i)) (h_TIM_CAPHI : ∀ i, W0 (R.TIM_CAPHI i)) (h_SEC_NONCE : ∀ i, W0 (R.SEC_NONCE i)) (h0 : RegsBut W0 r0 s) :
    RegsBut W0 r0 (regRead s off).2 := by
  unfold regRead
  repeat' first
    | with_reducible assumption
    | with_reducible apply capRead_regs
    | with_reducible apply drawNonce_regs
    | with_reducible apply eventRead_regs
    | with_reducible apply nowRead_regs
    | with_reducible apply bytesRead_regs
    | with_reducible refine RegsBut.of_snd (by with_reducible assumption) ?_
    | with_reducible refine RegsBut.of_snd2 (by with_reducible assumption) ?_
    | split

theorem hostRead_regs {W0 : Nat → Prop} {r0 : State} (s : State) (off : Nat) (h_GLB_EVTTIME : W0 R.GLB_EVTTIME) (h_GLB_EVTDET0 : W0 R.GLB_EVTDET0) (h_GLB_EVTDET1 : W0 R.GLB_EVTDET1) (h_DMA_CHBYTHI : ∀ i, W0 (R.DMA_CHBYTHI i)) (h_TIM_NOWFR : W0 R.TIM_NOWFR) (h_TIM_NOWWR : W0 R.TIM_NOWWR) (h_TIM_CAPCFG : ∀ i, W0 (R.TIM_CAPCFG i)) (h_TIM_CAPHI : ∀ i, W0 (R.TIM_CAPHI i)) (h_SEC_NONCE : ∀ i, W0 (R.SEC_NONCE i)) (h0 : RegsBut W0 r0 s) :
    RegsBut W0 r0 (hostRead s off) := by
  unfold hostRead
  repeat' first
    | with_reducible assumption
    | with_reducible apply emit_regs
    | with_reducible apply regRead_regs
    | with_reducible refine RegsBut.of_snd (by with_reducible assumption) ?_
    | with_reducible refine RegsBut.of_snd2 (by with_reducible assumption) ?_
    | split

end Sys2Proof.Machine
end

