-- ==== Sys2Proof/Laws/RegsHost.lean ====
section
/-! SUPPORT. Which registers each operation of Machine/Host.lean may write. -/

namespace Sys2Proof.Machine

theorem fieldWrite_regs {W0 : Nat → Prop} {r0 : State} (s : State) (f : Fld) (x : Nat) (v : Word) (h_all : ∀ off, W0 off) {t0 : State} (h0 : RegsBut W0 r0 s) (ht : fieldWrite s f x v = .next t0) :
    RegsBut W0 r0 t0 := by
  exact RegsBut.all h_all

theorem execRegisterWrite_regs {W0 : Nat → Prop} {r0 : State} (size : Nat) (off : Nat) (v : Nat) (s : State) (h_all : ∀ off, W0 off) {t0 : State} (h0 : RegsBut W0 r0 s) (ht : execRegisterWrite size off v s = .next t0) :
    RegsBut W0 r0 t0 := by
  exact RegsBut.all h_all

theorem barRead4_regs {W0 : Nat → Prop} {r0 : State} (s : State) (bar2 : Bool) (off : Nat) (h_GLB_EVTTIME : W0 R.GLB_EVTTIME) (h_GLB_EVTDET0 : W0 R.GLB_EVTDET0) (h_GLB_EVTDET1 : W0 R.GLB_EVTDET1) (h_DMA_CHBYTHI : ∀ i, W0 (R.DMA_CHBYTHI i)) (h_TIM_NOWFR : W0 R.TIM_NOWFR) (h_TIM_NOWWR : W0 R.TIM_NOWWR) (h_TIM_CAPCFG : ∀ i, W0 (R.TIM_CAPCFG i)) (h_TIM_CAPHI : ∀ i, W0 (R.TIM_CAPHI i)) (h_SEC_NONCE : ∀ i, W0 (R.SEC_NONCE i)) (h0 : RegsBut W0 r0 s) :
    RegsBut W0 r0 (barRead4 s bar2 off) := by
  unfold barRead4
  repeat' first
    | with_reducible assumption
    | with_reducible apply emit_regs
    | with_reducible apply hostRead_regs
    | split

theorem barRead_regs {W0 : Nat → Prop} {r0 : State} (s : State) (bar2 : Bool) (size : Nat) (off : Nat) (h_pba : ∀ k, W0 (0x38000 + 4 * (k % 64))) (h_GLB_ERRLOG : W0 R.GLB_ERRLOG) (h_GLB_ERRINFO : W0 R.GLB_ERRINFO) (h_GLB_EVTTIME : W0 R.GLB_EVTTIME) (h_GLB_EVTDET0 : W0 R.GLB_EVTDET0) (h_GLB_EVTDET1 : W0 R.GLB_EVTDET1) (h_GLB_EVTOVF : W0 R.GLB_EVTOVF) (h_DMA_CHBYTHI : ∀ i, W0 (R.DMA_CHBYTHI i)) (h_CHN_PERR : ∀ i, W0 (R.CHN_PERR i)) (h_TIM_NOWFR : W0 R.TIM_NOWFR) (h_TIM_NOWWR : W0 R.TIM_NOWWR) (h_TIM_CAPCFG : ∀ i, W0 (R.TIM_CAPCFG i)) (h_TIM_CAPHI : ∀ i, W0 (R.TIM_CAPHI i)) (h_SEC_NONCE : ∀ i, W0 (R.SEC_NONCE i)) (h0 : RegsBut W0 r0 s) :
    RegsBut W0 r0 (barRead s bar2 size off) := by
  unfold barRead
  repeat' first
    | with_reducible assumption
    | with_reducible apply emit_regs
    | with_reducible apply logError_regs
    | with_reducible apply barRead4_regs
    | split

theorem execBarMisalignedRead_regs {W0 : Nat → Prop} {r0 : State} (bar2 : Bool) (size : Nat) (off : Nat) (s : State) (h_pba : ∀ k, W0 (0x38000 + 4 * (k % 64))) (h_GLB_ERRLOG : W0 R.GLB_ERRLOG) (h_GLB_ERRINFO : W0 R.GLB_ERRINFO) (h_GLB_EVTTIME : W0 R.GLB_EVTTIME) (h_GLB_EVTDET0 : W0 R.GLB_EVTDET0) (h_GLB_EVTDET1 : W0 R.GLB_EVTDET1) (h_GLB_EVTOVF : W0 R.GLB_EVTOVF) (h_DMA_CHBYTHI : ∀ i, W0 (R.DMA_CHBYTHI i)) (h_CHN_PERR : ∀ i, W0 (R.CHN_PERR i)) (h_TIM_NOWFR : W0 R.TIM_NOWFR) (h_TIM_NOWWR : W0 R.TIM_NOWWR) (h_TIM_CAPCFG : ∀ i, W0 (R.TIM_CAPCFG i)) (h_TIM_CAPHI : ∀ i, W0 (R.TIM_CAPHI i)) (h_SEC_NONCE : ∀ i, W0 (R.SEC_NONCE i)) {t0 : State} (h0 : RegsBut W0 r0 s) (ht : execBarMisalignedRead bar2 size off s = .next t0) :
    RegsBut W0 r0 t0 := by
  unfold execBarMisalignedRead at ht
  injection ht with ht
  subst ht
  repeat' first
    | with_reducible assumption
    | with_reducible apply barRead_regs
    | split

theorem execEvtqRead_regs {W0 : Nat → Prop} {r0 : State} (s : State) (h_GLB_EVTTIME : W0 R.GLB_EVTTIME) (h_GLB_EVTDET0 : W0 R.GLB_EVTDET0) (h_GLB_EVTDET1 : W0 R.GLB_EVTDET1) (h_DMA_CHBYTHI : ∀ i, W0 (R.DMA_CHBYTHI i)) (h_TIM_NOWFR : W0 R.TIM_NOWFR) (h_TIM_NOWWR : W0 R.TIM_NOWWR) (h_TIM_CAPCFG : ∀ i, W0 (R.TIM_CAPCFG i)) (h_TIM_CAPHI : ∀ i, W0 (R.TIM_CAPHI i)) (h_SEC_NONCE : ∀ i, W0 (R.SEC_NONCE i)) {t0 : State} (h0 : RegsBut W0 r0 s) (ht : execEvtqRead s = .next t0) :
    RegsBut W0 r0 t0 := by
  unfold execEvtqRead at ht
  injection ht with ht
  subst ht
  repeat' first
    | with_reducible assumption
    | with_reducible apply hostRead_regs

theorem execDmaBytesRead_regs {W0 : Nat → Prop} {r0 : State} (c : Nat) (s : State) (h_GLB_EVTTIME : W0 R.GLB_EVTTIME) (h_GLB_EVTDET0 : W0 R.GLB_EVTDET0) (h_GLB_EVTDET1 : W0 R.GLB_EVTDET1) (h_DMA_CHBYTHI : ∀ i, W0 (R.DMA_CHBYTHI i)) (h_TIM_NOWFR : W0 R.TIM_NOWFR) (h_TIM_NOWWR : W0 R.TIM_NOWWR) (h_TIM_CAPCFG : ∀ i, W0 (R.TIM_CAPCFG i)) (h_TIM_CAPHI : ∀ i, W0 (R.TIM_CAPHI i)) (h_SEC_NONCE : ∀ i, W0 (R.SEC_NONCE i)) {t0 : State} (h0 : RegsBut W0 r0 s) (ht : execDmaBytesRead c s = .next t0) :
    RegsBut W0 r0 t0 := by
  unfold execDmaBytesRead at ht
  injection ht with ht
  subst ht
  repeat' first
    | with_reducible assumption
    | with_reducible apply hostRead_regs
    | split

theorem execTimNowRead_regs {W0 : Nat → Prop} {r0 : State} (dt : Nat) (s : State) (h_pba : ∀ k, W0 (0x38000 + 4 * (k % 64))) (h_GLB_EVTTIME : W0 R.GLB_EVTTIME) (h_GLB_EVTDET0 : W0 R.GLB_EVTDET0) (h_GLB_EVTDET1 : W0 R.GLB_EVTDET1) (h_GLB_EVTOVF : W0 R.GLB_EVTOVF) (h_DMA_CHBYTHI : ∀ i, W0 (R.DMA_CHBYTHI i)) (h_SOR_GSTAT : W0 R.SOR_GSTAT) (h_CHN_PERR : ∀ i, W0 (R.CHN_PERR i)) (h_TIM_NOWFR : W0 R.TIM_NOWFR) (h_TIM_NOWWR : W0 R.TIM_NOWWR) (h_TIM_CAPCFG : ∀ i, W0 (R.TIM_CAPCFG i)) (h_TIM_CAPHI : ∀ i, W0 (R.TIM_CAPHI i)) (h_SEC_NONCE : ∀ i, W0 (R.SEC_NONCE i)) {t0 : State} (h0 : RegsBut W0 r0 s) (ht : execTimNowRead dt s = .next t0) :
    RegsBut W0 r0 t0 := by
  unfold execTimNowRead at ht
  injection ht with ht
  subst ht
  repeat' first
    | with_reducible assumption
    | with_reducible apply advance_regs
    | with_reducible apply hostRead_regs

theorem execTimCapRead_regs {W0 : Nat → Prop} {r0 : State} (c : Nat) (s : State) (h_GLB_EVTTIME : W0 R.GLB_EVTTIME) (h_GLB_EVTDET0 : W0 R.GLB_EVTDET0) (h_GLB_EVTDET1 : W0 R.GLB_EVTDET1) (h_DMA_CHBYTHI : ∀ i, W0 (R.DMA_CHBYTHI i)) (h_TIM_NOWFR : W0 R.TIM_NOWFR) (h_TIM_NOWWR : W0 R.TIM_NOWWR) (h_TIM_CAPCFG : ∀ i, W0 (R.TIM_CAPCFG i)) (h_TIM_CAPHI : ∀ i, W0 (R.TIM_CAPHI i)) (h_SEC_NONCE : ∀ i, W0 (R.SEC_NONCE i)) {t0 : State} (h0 : RegsBut W0 r0 s) (ht : execTimCapRead c s = .next t0) :
    RegsBut W0 r0 t0 := by
  unfold execTimCapRead at ht
  injection ht with ht
  subst ht
  repeat' first
    | with_reducible assumption
    | with_reducible apply hostRead_regs
    | split

theorem execSecNonceRead_regs {W0 : Nat → Prop} {r0 : State} (s : State) (h_GLB_EVTTIME : W0 R.GLB_EVTTIME) (h_GLB_EVTDET0 : W0 R.GLB_EVTDET0) (h_GLB_EVTDET1 : W0 R.GLB_EVTDET1) (h_DMA_CHBYTHI : ∀ i, W0 (R.DMA_CHBYTHI i)) (h_TIM_NOWFR : W0 R.TIM_NOWFR) (h_TIM_NOWWR : W0 R.TIM_NOWWR) (h_TIM_CAPCFG : ∀ i, W0 (R.TIM_CAPCFG i)) (h_TIM_CAPHI : ∀ i, W0 (R.TIM_CAPHI i)) (h_SEC_NONCE : ∀ i, W0 (R.SEC_NONCE i)) {t0 : State} (h0 : RegsBut W0 r0 s) (ht : execSecNonceRead s = .next t0) :
    RegsBut W0 r0 t0 := by
  unfold execSecNonceRead at ht
  injection ht with ht
  subst ht
  repeat' first
    | with_reducible assumption
    | with_reducible apply hostRead_regs

theorem blockResetWrite_regs {W0 : Nat → Prop} {r0 : State} (s : State) (k : Nat) (h_all : ∀ off, W0 off) {t0 : State} (h0 : RegsBut W0 r0 s) (ht : blockResetWrite s k = .next t0) :
    RegsBut W0 r0 t0 := by
  exact RegsBut.all h_all

theorem execBlockResetEnd_regs {W0 : Nat → Prop} {r0 : State} (dt : Nat) (k : Nat) (s : State) (h_pba : ∀ k, W0 (0x38000 + 4 * (k % 64))) (h_GLB_BLKRST : W0 R.GLB_BLKRST) (h_GLB_EVTOVF : W0 R.GLB_EVTOVF) (h_SOR_GSTAT : W0 R.SOR_GSTAT) (h_CHN_PERR : ∀ i, W0 (R.CHN_PERR i)) (h_LNK_CFG : W0 R.LNK_CFG) (h_LNK_PCTL : ∀ i, W0 (R.LNK_PCTL i)) (h_LNK_PSTAT : ∀ i, W0 (R.LNK_PSTAT i)) (h_TIM_PGCFG : ∀ i, W0 (R.TIM_PGCFG i)) (h_TIM_PGSTART : ∀ i, W0 (R.TIM_PGSTART i)) (h_TIM_PGPER : ∀ i, W0 (R.TIM_PGPER i)) (h_TIM_PGPERF : ∀ i, W0 (R.TIM_PGPERF i)) (h_TIM_PGSTAT : ∀ i, W0 (R.TIM_PGSTAT i)) (h_TIM_PGNEXT : ∀ i, W0 (R.TIM_PGNEXT i)) (h_SPK_CTL : W0 R.SPK_CTL) (h_SPK_SPKSTAT : ∀ i, W0 (R.SPK_SPKSTAT i)) {t0 : State} (h0 : RegsBut W0 r0 s) (ht : execBlockResetEnd dt k s = .next t0) :
    RegsBut W0 r0 t0 := by
  unfold execBlockResetEnd at ht
  dsimp only at ht
  injection ht with ht
  subst ht
  repeat' first
    | with_reducible assumption
    | with_reducible apply advance_regs
    | with_reducible apply blockResetEnd_regs
    | split

theorem queueSettings_regs {W0 : Nat → Prop} {r0 : State} (s : State) (qs : List (Nat × Word)) (h_pba : ∀ k, W0 (0x38000 + 4 * (k % 64))) (h_r0x40000 : ∀ off, 0x40000 ≤ off → off < 0x80000 → W0 off) (h_r0x90000 : ∀ off, 0x90000 ≤ off → off < 0xA0000 → W0 off) (h_QUE_STAT : ∀ i, W0 (R.QUE_STAT i)) (h_QUE_IDX : ∀ i, W0 (R.QUE_IDX i)) (h_QUE_RET : ∀ i, W0 (R.QUE_RET i)) (h_SOR_TGTSTAT : ∀ i, W0 (R.SOR_TGTSTAT i))
    (h0 : RegsBut W0 r0 s) : RegsBut W0 r0 (queueSettings s qs) := by
  refine RegsBut.foldl (fun t x h => ?_) h0
  split
  · rename_i hx
    split
    · have hst : RegsBut W0 r0 (storeReg t x.1 x.2) :=
        storeReg_regs t x.1 x.2 (hx.elim (fun k => h_r0x40000 _ k.1 k.2) (fun k => h_r0x90000 _ k.1 k.2)) h
      have hd : x.1 / 0x10000 = 4 ∨ x.1 / 0x10000 = 5 ∨ x.1 / 0x10000 = 6 ∨ x.1 / 0x10000 = 7 ∨ x.1 / 0x10000 = 9 := by omega
      rcases hd with hd | hd | hd | hd | hd <;> simp only [regEffect, hd] <;>
        first
        | (with_reducible apply effectQue_regs) <;> with_reducible assumption
        | (with_reducible apply effectSor_regs) <;> with_reducible assumption
    · exact h
  · exact h

theorem windowClose_regs {W0 : Nat → Prop} {r0 : State} (s : State) (qs : List (Nat × Word)) (ms : Nat) (h_pba : ∀ k, W0 (0x38000 + 4 * (k % 64))) (h_r0x40000 : ∀ off, 0x40000 ≤ off → off < 0x80000 → W0 off) (h_r0x90000 : ∀ off, 0x90000 ≤ off → off < 0xA0000 → W0 off) (h_GLB_ROLE : W0 R.GLB_ROLE) (h_GLB_BOOTSTAT : W0 R.GLB_BOOTSTAT) (h_GLB_EVTOVF : W0 R.GLB_EVTOVF) (h_QUE_STAT : ∀ i, W0 (R.QUE_STAT i)) (h_QUE_IDX : ∀ i, W0 (R.QUE_IDX i)) (h_QUE_RET : ∀ i, W0 (R.QUE_RET i)) (h_SOR_TGTSTAT : ∀ i, W0 (R.SOR_TGTSTAT i)) (h_CHN_PERR : ∀ i, W0 (R.CHN_PERR i)) (h_LNK_CFG : W0 R.LNK_CFG) (h_LNK_PCTL : ∀ i, W0 (R.LNK_PCTL i)) (h_LNK_PSTAT : ∀ i, W0 (R.LNK_PSTAT i)) (h0 : RegsBut W0 r0 s) :
    RegsBut W0 r0 (windowClose s qs ms) := by
  unfold windowClose
  repeat' first
    | with_reducible assumption
    | simp only [RegsBut.boot]
    | with_reducible exact h_GLB_ROLE
    | with_reducible apply setF_regs
    | with_reducible apply setBootStage_regs
    | with_reducible apply toReady_regs
    | with_reducible apply queueSettings_regs
    | with_reducible apply RegsBut.foldl
    | with_reducible apply RegsBut.snd
    | with_reducible apply RegsBut.snd2
    | with_reducible apply RegsBut.fst
    | with_reducible apply RegsBut.foldl_snd
    | with_reducible apply RegsBut.foldl_snd2
    | with_reducible apply RegsBut.foldl_fst
    | with_reducible refine RegsBut.of_fst (by with_reducible assumption) ?_
    | with_reducible refine RegsBut.of_snd (by with_reducible assumption) ?_
    | with_reducible refine RegsBut.of_snd2 (by with_reducible assumption) ?_
    | split

theorem execUcieWindowClose_regs {W0 : Nat → Prop} {r0 : State} (qs : List (Nat × Word)) (ms : Nat) (s : State) (h_pba : ∀ k, W0 (0x38000 + 4 * (k % 64))) (h_r0x40000 : ∀ off, 0x40000 ≤ off → off < 0x80000 → W0 off) (h_r0x90000 : ∀ off, 0x90000 ≤ off → off < 0xA0000 → W0 off) (h_GLB_ROLE : W0 R.GLB_ROLE) (h_GLB_BOOTSTAT : W0 R.GLB_BOOTSTAT) (h_GLB_EVTOVF : W0 R.GLB_EVTOVF) (h_QUE_STAT : ∀ i, W0 (R.QUE_STAT i)) (h_QUE_IDX : ∀ i, W0 (R.QUE_IDX i)) (h_QUE_RET : ∀ i, W0 (R.QUE_RET i)) (h_SOR_TGTSTAT : ∀ i, W0 (R.SOR_TGTSTAT i)) (h_CHN_PERR : ∀ i, W0 (R.CHN_PERR i)) (h_LNK_CFG : W0 R.LNK_CFG) (h_LNK_PCTL : ∀ i, W0 (R.LNK_PCTL i)) (h_LNK_PSTAT : ∀ i, W0 (R.LNK_PSTAT i)) {t0 : State} (h0 : RegsBut W0 r0 s) (ht : execUcieWindowClose qs ms s = .next t0) :
    RegsBut W0 r0 t0 := by
  unfold execUcieWindowClose at ht
  apply whenOn_regs (ht := ht)
  repeat' first
    | with_reducible assumption
    | with_reducible apply windowClose_regs
    | split
    | dsimp only
    | with_reducible intro _

theorem queueWrite_regs {W0 : Nat → Prop} {r0 : State} (s : State) (q : Nat) (w : Nat) (h_all : ∀ off, W0 off) {t0 : State} (h0 : RegsBut W0 r0 s) (ht : queueWrite s q w = .next t0) :
    RegsBut W0 r0 t0 := by
  exact RegsBut.all h_all

theorem doorbellWrite_regs {W0 : Nat → Prop} {r0 : State} (s : State) (off : Nat) (v : Nat) (h_pba : ∀ k, W0 (0x38000 + 4 * (k % 64))) (h_GLB_ERRLOG : W0 R.GLB_ERRLOG) (h_GLB_ERRINFO : W0 R.GLB_ERRINFO) (h_GLB_EVTOVF : W0 R.GLB_EVTOVF) (h_QUE_IDX : ∀ i, W0 (R.QUE_IDX i)) (h_CHN_PERR : ∀ i, W0 (R.CHN_PERR i)) (h0 : RegsBut W0 r0 s) :
    RegsBut W0 r0 (doorbellWrite s off v) := by
  unfold doorbellWrite
  repeat' first
    | with_reducible assumption
    | with_reducible apply logError_regs
    | with_reducible apply acceptTail_regs
    | split
    | dsimp only

theorem doorbell_regs {W0 : Nat → Prop} {r0 : State} (s : State) (size : Nat) (off : Nat) (v : Nat) (h_pba : ∀ k, W0 (0x38000 + 4 * (k % 64))) (h_GLB_ERRLOG : W0 R.GLB_ERRLOG) (h_GLB_ERRINFO : W0 R.GLB_ERRINFO) (h_GLB_EVTOVF : W0 R.GLB_EVTOVF) (h_QUE_IDX : ∀ i, W0 (R.QUE_IDX i)) (h_CHN_PERR : ∀ i, W0 (R.CHN_PERR i)) (h0 : RegsBut W0 r0 s) :
    RegsBut W0 r0 (doorbell s size off v) := by
  unfold doorbell
  repeat' first
    | with_reducible assumption
    | with_reducible apply logError_regs
    | with_reducible apply doorbellWrite_regs
    | split

theorem execDoorbell_regs {W0 : Nat → Prop} {r0 : State} (size : Nat) (off : Nat) (v : Nat) (s : State) (h_pba : ∀ k, W0 (0x38000 + 4 * (k % 64))) (h_GLB_ERRLOG : W0 R.GLB_ERRLOG) (h_GLB_ERRINFO : W0 R.GLB_ERRINFO) (h_GLB_EVTOVF : W0 R.GLB_EVTOVF) (h_QUE_IDX : ∀ i, W0 (R.QUE_IDX i)) (h_CHN_PERR : ∀ i, W0 (R.CHN_PERR i)) {t0 : State} (h0 : RegsBut W0 r0 s) (ht : execDoorbell size off v s = .next t0) :
    RegsBut W0 r0 t0 := by
  unfold execDoorbell at ht
  injection ht with ht
  subst ht
  repeat' first
    | with_reducible assumption
    | with_reducible apply doorbell_regs
    | split

theorem execRingReadComplete_regs {W0 : Nat → Prop} {r0 : State} (q : Nat) (res : RdRes) (s : State) (h_pba : ∀ k, W0 (0x38000 + 4 * (k % 64))) (h_QUE_STAT : ∀ i, W0 (R.QUE_STAT i)) (h_QUE_IDX : ∀ i, W0 (R.QUE_IDX i)) (h_SOR_GSTAT : W0 R.SOR_GSTAT) {t0 : State} (h0 : RegsBut W0 r0 s) (ht : execRingReadComplete q res s = .next t0) :
    RegsBut W0 r0 t0 := by
  unfold execRingReadComplete at ht
  apply whenOn_regs (ht := ht)
  repeat' first
    | with_reducible assumption
    | with_reducible apply onRead_regs
    | with_reducible apply ringRead_regs
    | split
    | dsimp only
    | with_reducible intro _

theorem execRingRecheckTimeout_regs {W0 : Nat → Prop} {r0 : State} (dt : Nat) (q : Nat) (s : State) (h_pba : ∀ k, W0 (0x38000 + 4 * (k % 64))) (h_GLB_EVTOVF : W0 R.GLB_EVTOVF) (h_SOR_GSTAT : W0 R.SOR_GSTAT) (h_CHN_PERR : ∀ i, W0 (R.CHN_PERR i)) {t0 : State} (h0 : RegsBut W0 r0 s) (ht : execRingRecheckTimeout dt q s = .next t0) :
    RegsBut W0 r0 t0 := by
  unfold execRingRecheckTimeout at ht
  apply whenOn_regs (ht := ht)
  repeat' first
    | with_reducible assumption
    | with_reducible apply recheckTimeout_regs
    | with_reducible apply advance_regs
    | split
    | dsimp only
    | with_reducible intro _

theorem readExpired_regs {W0 : Nat → Prop} {r0 : State} (s : State) (who : Rd) (h_pba : ∀ k, W0 (0x38000 + 4 * (k % 64))) (h_GLB_EVTOVF : W0 R.GLB_EVTOVF) (h_QUE_STAT : ∀ i, W0 (R.QUE_STAT i)) (h_QUE_RET : ∀ i, W0 (R.QUE_RET i)) (h_DMA_CHSTAT : ∀ i, W0 (R.DMA_CHSTAT i)) (h_DMA_CHCNT : ∀ i, W0 (R.DMA_CHCNT i)) (h_DMA_CHDEAD : ∀ i, W0 (R.DMA_CHDEAD i)) (h_SOR_TGTSTAT : ∀ i, W0 (R.SOR_TGTSTAT i)) (h_SRF_PFSTAT : W0 R.SRF_PFSTAT) (h_SRF_PFLAST : W0 R.SRF_PFLAST) (h_SRF_TCMISS : W0 R.SRF_TCMISS) (h_CHN_PERR : ∀ i, W0 (R.CHN_PERR i)) (h_DRC_ECCSTAT : W0 R.DRC_ECCSTAT) (h_DRC_UEADDR : W0 R.DRC_UEADDR) (h0 : RegsBut W0 r0 s) :
    RegsBut W0 r0 (readExpired s who) := by
  unfold readExpired
  repeat' first
    | with_reducible assumption
    | with_reducible apply setQrec_regs
    | with_reducible apply queueError_regs
    | with_reducible apply prefetchFail_regs
    | with_reducible apply segFail_regs
    | with_reducible apply readFail_regs
    | with_reducible apply slotFail_regs
    | split
    | dsimp only

theorem readTimeout_regs {W0 : Nat → Prop} {r0 : State} (s : State) (who : Rd) (h_pba : ∀ k, W0 (0x38000 + 4 * (k % 64))) (h_GLB_EVTOVF : W0 R.GLB_EVTOVF) (h_QUE_STAT : ∀ i, W0 (R.QUE_STAT i)) (h_QUE_RET : ∀ i, W0 (R.QUE_RET i)) (h_DMA_CHSTAT : ∀ i, W0 (R.DMA_CHSTAT i)) (h_DMA_CHCNT : ∀ i, W0 (R.DMA_CHCNT i)) (h_DMA_CHDEAD : ∀ i, W0 (R.DMA_CHDEAD i)) (h_SOR_TGTSTAT : ∀ i, W0 (R.SOR_TGTSTAT i)) (h_SRF_PFSTAT : W0 R.SRF_PFSTAT) (h_SRF_PFLAST : W0 R.SRF_PFLAST) (h_SRF_TCMISS : W0 R.SRF_TCMISS) (h_CHN_PERR : ∀ i, W0 (R.CHN_PERR i)) (h_DRC_ECCSTAT : W0 R.DRC_ECCSTAT) (h_DRC_UEADDR : W0 R.DRC_UEADDR) (h0 : RegsBut W0 r0 s) :
    RegsBut W0 r0 (readTimeout s who) := by
  unfold readTimeout
  repeat' first
    | with_reducible assumption
    | simp only [RegsBut.hif]
    | with_reducible apply endRead_regs
    | with_reducible apply readExpired_regs
    | split

theorem execHostReadTimeout_regs {W0 : Nat → Prop} {r0 : State} (dt : Nat) (who : Rd) (s : State) (h_pba : ∀ k, W0 (0x38000 + 4 * (k % 64))) (h_GLB_EVTOVF : W0 R.GLB_EVTOVF) (h_QUE_STAT : ∀ i, W0 (R.QUE_STAT i)) (h_QUE_RET : ∀ i, W0 (R.QUE_RET i)) (h_DMA_CHSTAT : ∀ i, W0 (R.DMA_CHSTAT i)) (h_DMA_CHCNT : ∀ i, W0 (R.DMA_CHCNT i)) (h_DMA_CHDEAD : ∀ i, W0 (R.DMA_CHDEAD i)) (h_SOR_GSTAT : W0 R.SOR_GSTAT) (h_SOR_TGTSTAT : ∀ i, W0 (R.SOR_TGTSTAT i)) (h_SRF_PFSTAT : W0 R.SRF_PFSTAT) (h_SRF_PFLAST : W0 R.SRF_PFLAST) (h_SRF_TCMISS : W0 R.SRF_TCMISS) (h_CHN_PERR : ∀ i, W0 (R.CHN_PERR i)) (h_DRC_ECCSTAT : W0 R.DRC_ECCSTAT) (h_DRC_UEADDR : W0 R.DRC_UEADDR) {t0 : State} (h0 : RegsBut W0 r0 s) (ht : execHostReadTimeout dt who s = .next t0) :
    RegsBut W0 r0 t0 := by
  unfold execHostReadTimeout at ht
  apply whenOn_regs (ht := ht)
  repeat' first
    | with_reducible assumption
    | with_reducible apply advance_regs
    | with_reducible apply readTimeout_regs
    | split
    | dsimp only
    | with_reducible intro _

theorem execLateCompletion_regs {W0 : Nat → Prop} {r0 : State} (s : State) (h_DMA_GSTAT : W0 R.DMA_GSTAT) {t0 : State} (h0 : RegsBut W0 r0 s) (ht : execLateCompletion s = .next t0) :
    RegsBut W0 r0 t0 := by
  unfold execLateCompletion at ht
  apply whenOn_regs (ht := ht)
  repeat' first
    | with_reducible assumption
    | simp only [RegsBut.hif]
    | with_reducible exact h_DMA_GSTAT
    | with_reducible apply incSat_regs
    | split
    | dsimp only
    | with_reducible intro _

end Sys2Proof.Machine
end

