-- ==== Sys2Proof/Laws/RegsRows.lean ====
section
/-! SUPPORT. Which registers each operation of Machine/Rows.lean may write. -/

namespace Sys2Proof.Machine

theorem indexWrite_regs {W0 : Nat → Prop} {r0 : State} (s : State) (i : Nat) (n : Nat) (f : Fld) (x : Nat) (v : Word) (h_all : ∀ off, W0 off) {t0 : State} (h0 : RegsBut W0 r0 s) (ht : indexWrite s i n f x v = .next t0) :
    RegsBut W0 r0 t0 := by
  exact RegsBut.all h_all

theorem ownerPulse_regs {W0 : Nat → Prop} {r0 : State} (s : State) (g : Nat) (slots : List Nat) (h_pba : ∀ k, W0 (0x38000 + 4 * (k % 64))) (h_GLB_YIELDCNT : W0 R.GLB_YIELDCNT) (h_GLB_YIELDLAST : W0 R.GLB_YIELDLAST) (h_GLB_YIELDFRM : W0 R.GLB_YIELDFRM) (h_GLB_EVTOVF : W0 R.GLB_EVTOVF) (h_QUE_STAT : ∀ i, W0 (R.QUE_STAT i)) (h_QUE_RET : ∀ i, W0 (R.QUE_RET i)) (h_SRF_STAT : W0 R.SRF_STAT) (h_SRF_FREEPG : W0 R.SRF_FREEPG) (h_SRF_PFSTAT : W0 R.SRF_PFSTAT) (h_SRF_PFLAST : W0 R.SRF_PFLAST) (h_SRF_RETIRED : W0 R.SRF_RETIRED) (h_SRF_TCMISS : W0 R.SRF_TCMISS) (h_CMP_QSTAT : W0 R.CMP_QSTAT) (h_CMP_LERR : W0 R.CMP_LERR) (h_CMP_CANNOW : ∀ i, W0 (R.CMP_CANNOW i)) (h_CMP_LNOW : ∀ i, W0 (R.CMP_LNOW i)) (h_FRT_COMMIT : W0 R.FRT_COMMIT) (h_FRT_FRAME : W0 R.FRT_FRAME) (h_FRT_NEXTLAT : W0 R.FRT_NEXTLAT) (h_FRT_PERNS : W0 R.FRT_PERNS) (h_FRT_PERFRAC : W0 R.FRT_PERFRAC) (h_FRT_LAT : W0 R.FRT_LAT) (h_FRT_WIN : W0 R.FRT_WIN) (h_FRT_MARGIN : W0 R.FRT_MARGIN) (h_FRT_EFRAME : W0 R.FRT_EFRAME) (h_FRT_ANCHOR : W0 R.FRT_ANCHOR) (h_FRT_MSTAT : W0 R.FRT_MSTAT) (h_FRT_USTAT : W0 R.FRT_USTAT) (h_FRT_UFRM : W0 R.FRT_UFRM) (h_CHN_PERR : ∀ i, W0 (R.CHN_PERR i)) (h_TIM_PGCFG : ∀ i, W0 (R.TIM_PGCFG i)) (h_TIM_PGSTART : ∀ i, W0 (R.TIM_PGSTART i)) (h_TIM_PGPER : ∀ i, W0 (R.TIM_PGPER i)) (h_TIM_PGPERF : ∀ i, W0 (R.TIM_PGPERF i)) (h_TIM_PGSTAT : ∀ i, W0 (R.TIM_PGSTAT i)) (h_TIM_PGNEXT : ∀ i, W0 (R.TIM_PGNEXT i)) (h_TAN_CLAIM : W0 R.TAN_CLAIM) (h_TAN_STAT : W0 R.TAN_STAT) (h_TAN_PEER : W0 R.TAN_PEER) (h_TAN_SNAPSTAT : W0 R.TAN_SNAPSTAT) (h_TAN_TSTAT : W0 R.TAN_TSTAT) (h_TAN_TCLAIM0 : W0 R.TAN_TCLAIM0) (h_TAN_TCLAIM1 : W0 R.TAN_TCLAIM1) (h_LMP_MSTAT : W0 R.LMP_MSTAT) (h_DRC_ECCSTAT : W0 R.DRC_ECCSTAT) (h_DRC_UEADDR : W0 R.DRC_UEADDR) (h0 : RegsBut W0 r0 s) :
    RegsBut W0 r0 (ownerPulse s g slots) := by
  unfold ownerPulse
  repeat' first
    | with_reducible assumption
    | with_reducible apply genFire_regs
    | with_reducible apply syncPulse_regs
    | with_reducible apply senderCadence_regs
    | with_reducible apply snapSettle_regs
    | with_reducible apply heartbeat_regs
    | with_reducible apply tileCadence_regs
    | split

theorem generatorPulse_regs {W0 : Nat → Prop} {r0 : State} (s : State) (g : Nat) (slots : List Nat) (h_pba : ∀ k, W0 (0x38000 + 4 * (k % 64))) (h_GLB_YIELDCNT : W0 R.GLB_YIELDCNT) (h_GLB_YIELDLAST : W0 R.GLB_YIELDLAST) (h_GLB_YIELDFRM : W0 R.GLB_YIELDFRM) (h_GLB_EVTOVF : W0 R.GLB_EVTOVF) (h_QUE_STAT : ∀ i, W0 (R.QUE_STAT i)) (h_QUE_RET : ∀ i, W0 (R.QUE_RET i)) (h_SRF_STAT : W0 R.SRF_STAT) (h_SRF_FREEPG : W0 R.SRF_FREEPG) (h_SRF_PFSTAT : W0 R.SRF_PFSTAT) (h_SRF_PFLAST : W0 R.SRF_PFLAST) (h_SRF_RETIRED : W0 R.SRF_RETIRED) (h_SRF_TCMISS : W0 R.SRF_TCMISS) (h_CMP_QSTAT : W0 R.CMP_QSTAT) (h_CMP_LERR : W0 R.CMP_LERR) (h_CMP_CANNOW : ∀ i, W0 (R.CMP_CANNOW i)) (h_CMP_LNOW : ∀ i, W0 (R.CMP_LNOW i)) (h_FRT_COMMIT : W0 R.FRT_COMMIT) (h_FRT_FRAME : W0 R.FRT_FRAME) (h_FRT_NEXTLAT : W0 R.FRT_NEXTLAT) (h_FRT_PERNS : W0 R.FRT_PERNS) (h_FRT_PERFRAC : W0 R.FRT_PERFRAC) (h_FRT_LAT : W0 R.FRT_LAT) (h_FRT_WIN : W0 R.FRT_WIN) (h_FRT_MARGIN : W0 R.FRT_MARGIN) (h_FRT_EFRAME : W0 R.FRT_EFRAME) (h_FRT_ANCHOR : W0 R.FRT_ANCHOR) (h_FRT_MSTAT : W0 R.FRT_MSTAT) (h_FRT_USTAT : W0 R.FRT_USTAT) (h_FRT_UFRM : W0 R.FRT_UFRM) (h_CHN_PERR : ∀ i, W0 (R.CHN_PERR i)) (h_TIM_PGCFG : ∀ i, W0 (R.TIM_PGCFG i)) (h_TIM_PGSTART : ∀ i, W0 (R.TIM_PGSTART i)) (h_TIM_PGPER : ∀ i, W0 (R.TIM_PGPER i)) (h_TIM_PGPERF : ∀ i, W0 (R.TIM_PGPERF i)) (h_TIM_PGSTAT : ∀ i, W0 (R.TIM_PGSTAT i)) (h_TIM_PGNEXT : ∀ i, W0 (R.TIM_PGNEXT i)) (h_TAN_CLAIM : W0 R.TAN_CLAIM) (h_TAN_STAT : W0 R.TAN_STAT) (h_TAN_PEER : W0 R.TAN_PEER) (h_TAN_SNAPSTAT : W0 R.TAN_SNAPSTAT) (h_TAN_TSTAT : W0 R.TAN_TSTAT) (h_TAN_TCLAIM0 : W0 R.TAN_TCLAIM0) (h_TAN_TCLAIM1 : W0 R.TAN_TCLAIM1) (h_LMP_MSTAT : W0 R.LMP_MSTAT) (h_DRC_ECCSTAT : W0 R.DRC_ECCSTAT) (h_DRC_UEADDR : W0 R.DRC_UEADDR) (h0 : RegsBut W0 r0 s) :
    RegsBut W0 r0 (generatorPulse s g slots) := by
  unfold generatorPulse
  repeat' first
    | with_reducible assumption
    | with_reducible apply ownerPulse_regs
    | with_reducible apply RegsBut.foldl
    | split
    | dsimp only
    | with_reducible intro _

theorem execGeneratorPulse_regs {W0 : Nat → Prop} {r0 : State} (dt : Nat) (g : Nat) (slots : List Nat) (s : State) (h_pba : ∀ k, W0 (0x38000 + 4 * (k % 64))) (h_GLB_YIELDCNT : W0 R.GLB_YIELDCNT) (h_GLB_YIELDLAST : W0 R.GLB_YIELDLAST) (h_GLB_YIELDFRM : W0 R.GLB_YIELDFRM) (h_GLB_EVTOVF : W0 R.GLB_EVTOVF) (h_QUE_STAT : ∀ i, W0 (R.QUE_STAT i)) (h_QUE_RET : ∀ i, W0 (R.QUE_RET i)) (h_SOR_GSTAT : W0 R.SOR_GSTAT) (h_SRF_STAT : W0 R.SRF_STAT) (h_SRF_FREEPG : W0 R.SRF_FREEPG) (h_SRF_PFSTAT : W0 R.SRF_PFSTAT) (h_SRF_PFLAST : W0 R.SRF_PFLAST) (h_SRF_RETIRED : W0 R.SRF_RETIRED) (h_SRF_TCMISS : W0 R.SRF_TCMISS) (h_CMP_QSTAT : W0 R.CMP_QSTAT) (h_CMP_LERR : W0 R.CMP_LERR) (h_CMP_CANNOW : ∀ i, W0 (R.CMP_CANNOW i)) (h_CMP_LNOW : ∀ i, W0 (R.CMP_LNOW i)) (h_FRT_COMMIT : W0 R.FRT_COMMIT) (h_FRT_FRAME : W0 R.FRT_FRAME) (h_FRT_NEXTLAT : W0 R.FRT_NEXTLAT) (h_FRT_PERNS : W0 R.FRT_PERNS) (h_FRT_PERFRAC : W0 R.FRT_PERFRAC) (h_FRT_LAT : W0 R.FRT_LAT) (h_FRT_WIN : W0 R.FRT_WIN) (h_FRT_MARGIN : W0 R.FRT_MARGIN) (h_FRT_EFRAME : W0 R.FRT_EFRAME) (h_FRT_ANCHOR : W0 R.FRT_ANCHOR) (h_FRT_MSTAT : W0 R.FRT_MSTAT) (h_FRT_USTAT : W0 R.FRT_USTAT) (h_FRT_UFRM : W0 R.FRT_UFRM) (h_CHN_PERR : ∀ i, W0 (R.CHN_PERR i)) (h_TIM_PGCFG : ∀ i, W0 (R.TIM_PGCFG i)) (h_TIM_PGSTART : ∀ i, W0 (R.TIM_PGSTART i)) (h_TIM_PGPER : ∀ i, W0 (R.TIM_PGPER i)) (h_TIM_PGPERF : ∀ i, W0 (R.TIM_PGPERF i)) (h_TIM_PGSTAT : ∀ i, W0 (R.TIM_PGSTAT i)) (h_TIM_PGNEXT : ∀ i, W0 (R.TIM_PGNEXT i)) (h_TAN_CLAIM : W0 R.TAN_CLAIM) (h_TAN_STAT : W0 R.TAN_STAT) (h_TAN_PEER : W0 R.TAN_PEER) (h_TAN_SNAPSTAT : W0 R.TAN_SNAPSTAT) (h_TAN_TSTAT : W0 R.TAN_TSTAT) (h_TAN_TCLAIM0 : W0 R.TAN_TCLAIM0) (h_TAN_TCLAIM1 : W0 R.TAN_TCLAIM1) (h_LMP_MSTAT : W0 R.LMP_MSTAT) (h_DRC_ECCSTAT : W0 R.DRC_ECCSTAT) (h_DRC_UEADDR : W0 R.DRC_UEADDR) {t0 : State} (h0 : RegsBut W0 r0 s) (ht : execGeneratorPulse dt g slots s = .next t0) :
    RegsBut W0 r0 t0 := by
  unfold execGeneratorPulse at ht
  apply whenOn_regs (ht := ht)
  repeat' first
    | with_reducible assumption
    | with_reducible apply advance_regs
    | with_reducible apply generatorPulse_regs
    | split
    | dsimp only
    | with_reducible intro _

end Sys2Proof.Machine
end

