-- ==== Sys2Proof/Laws/RegsLetters.lean ====
section
/-! SUPPORT. Which registers each operation of Machine/Letters.lean may write. -/

namespace Sys2Proof.Machine

theorem regEntry_regs {W0 : Nat → Prop} {r0 : State} (s : State) (write : Bool) (e : Bytes) (h_all : ∀ off, W0 off) (h0 : RegsBut W0 r0 s) :
    RegsBut W0 r0 (regEntry s write e).2 := by
  exact RegsBut.all h_all

theorem regEntries_regs {W0 : Nat → Prop} {r0 : State} (write : Bool) (h_all : ∀ off, W0 off) (y0 : List Bytes) (y1 : State)
    (h0 : RegsBut W0 r0 y1) :
    RegsBut W0 r0 (regEntries write y0 y1).2 := by
  induction y0 generalizing y1 write with
  | nil =>
    unfold regEntries
    repeat' first
      | with_reducible assumption
  | cons x0 y0 ih =>
    unfold regEntries
    repeat' first
      | with_reducible assumption
      | with_reducible apply ih
      | with_reducible exact RegsBut.all h_all

theorem regLetter_regs {W0 : Nat → Prop} {r0 : State} (s : State) (write : Bool) (l : Letter) (h_all : ∀ off, W0 off) (h0 : RegsBut W0 r0 s) :
    RegsBut W0 r0 (regLetter s write l) := by
  exact RegsBut.all h_all

theorem ringAnswer_regs {W0 : Nat → Prop} {r0 : State} (s : State) (l : Letter) (c : Status) (q : Nat) (rest : Bytes) (h_CHN_LSTAT : W0 R.CHN_LSTAT) (h_CHN_PERR : ∀ i, W0 (R.CHN_PERR i)) (h0 : RegsBut W0 r0 s) :
    RegsBut W0 r0 (ringAnswer s l c q rest) := by
  unfold ringAnswer
  repeat' first
    | with_reducible assumption
    | with_reducible apply answer_regs

theorem ringFillLetter_regs {W0 : Nat → Prop} {r0 : State} (s : State) (l : Letter) (h_pba : ∀ k, W0 (0x38000 + 4 * (k % 64))) (h_QUE_IDX : ∀ i, W0 (R.QUE_IDX i)) (h_CHN_LSTAT : W0 R.CHN_LSTAT) (h_CHN_PERR : ∀ i, W0 (R.CHN_PERR i)) (h0 : RegsBut W0 r0 s) :
    RegsBut W0 r0 (ringFillLetter s l) := by
  unfold ringFillLetter
  repeat' first
    | with_reducible assumption
    | with_reducible apply acceptTail_regs
    | with_reducible apply ringFillWrite_regs
    | with_reducible apply ringAnswer_regs
    | split
    | dsimp only

theorem ringReadLetter_regs {W0 : Nat → Prop} {r0 : State} (s : State) (l : Letter) (h_CHN_LSTAT : W0 R.CHN_LSTAT) (h_CHN_PERR : ∀ i, W0 (R.CHN_PERR i)) (h0 : RegsBut W0 r0 s) :
    RegsBut W0 r0 (ringReadLetter s l) := by
  unfold ringReadLetter
  repeat' first
    | with_reducible assumption
    | with_reducible apply ringAnswer_regs
    | split
    | dsimp only

theorem keyDrop_regs {W0 : Nat → Prop} {r0 : State} (s : State) (l : Letter) (h_CHN_KEYSTAT : W0 R.CHN_KEYSTAT) (h_CHN_LSTAT : W0 R.CHN_LSTAT) (h_CHN_KSESS : ∀ i, W0 (R.CHN_KSESS i)) (h_CHN_PERR : ∀ i, W0 (R.CHN_PERR i)) (h0 : RegsBut W0 r0 s) :
    RegsBut W0 r0 (keyDrop s l) := by
  unfold keyDrop
  repeat' first
    | with_reducible assumption
    | with_reducible apply setKeySlot_regs
    | with_reducible apply refuse_regs
    | with_reducible apply answer_regs
    | split

theorem tileLetterStep_regs {W0 : Nat → Prop} {r0 : State} (s : State) (ltype : Nat) (f : State → Letter → State) (h_f : ∀ (x0 : State) (x1 : Letter), RegsBut W0 r0 x0 → RegsBut W0 r0 (f x0 x1)) {t0 : State} (h0 : RegsBut W0 r0 s) (ht : tileLetterStep s ltype f = .next t0) :
    RegsBut W0 r0 t0 := by
  unfold tileLetterStep at ht
  apply whenOn_regs (ht := ht)
  repeat' first
    | with_reducible assumption
    | with_reducible apply h_f
    | with_reducible apply onLetter_regs
    | split
    | dsimp only
    | with_reducible intro _

theorem execRegReadLetter_regs {W0 : Nat → Prop} {r0 : State} (s : State) (h_all : ∀ off, W0 off) {t0 : State} (h0 : RegsBut W0 r0 s) (ht : execRegReadLetter s = .next t0) :
    RegsBut W0 r0 t0 := by
  exact RegsBut.all h_all

theorem execRegWriteLetter_regs {W0 : Nat → Prop} {r0 : State} (s : State) (h_all : ∀ off, W0 off) {t0 : State} (h0 : RegsBut W0 r0 s) (ht : execRegWriteLetter s = .next t0) :
    RegsBut W0 r0 t0 := by
  exact RegsBut.all h_all

theorem execRingFillLetter_regs {W0 : Nat → Prop} {r0 : State} (s : State) (h_pba : ∀ k, W0 (0x38000 + 4 * (k % 64))) (h_QUE_IDX : ∀ i, W0 (R.QUE_IDX i)) (h_CHN_LSTAT : W0 R.CHN_LSTAT) (h_CHN_PERR : ∀ i, W0 (R.CHN_PERR i)) {t0 : State} (h0 : RegsBut W0 r0 s) (ht : execRingFillLetter s = .next t0) :
    RegsBut W0 r0 t0 := by
  unfold execRingFillLetter at ht
  apply tileLetterStep_regs (ht := ht)
  repeat' first
    | with_reducible assumption
    | with_reducible apply ringFillLetter_regs
    | split
    | dsimp only
    | with_reducible intro _

theorem execRingReadLetter_regs {W0 : Nat → Prop} {r0 : State} (s : State) (h_CHN_LSTAT : W0 R.CHN_LSTAT) (h_CHN_PERR : ∀ i, W0 (R.CHN_PERR i)) {t0 : State} (h0 : RegsBut W0 r0 s) (ht : execRingReadLetter s = .next t0) :
    RegsBut W0 r0 t0 := by
  unfold execRingReadLetter at ht
  apply tileLetterStep_regs (ht := ht)
  repeat' first
    | with_reducible assumption
    | with_reducible apply ringReadLetter_regs
    | split
    | dsimp only
    | with_reducible intro _

theorem execKeyDropLetter_regs {W0 : Nat → Prop} {r0 : State} (s : State) (h_CHN_KEYSTAT : W0 R.CHN_KEYSTAT) (h_CHN_LSTAT : W0 R.CHN_LSTAT) (h_CHN_KSESS : ∀ i, W0 (R.CHN_KSESS i)) (h_CHN_PERR : ∀ i, W0 (R.CHN_PERR i)) {t0 : State} (h0 : RegsBut W0 r0 s) (ht : execKeyDropLetter s = .next t0) :
    RegsBut W0 r0 t0 := by
  unfold execKeyDropLetter at ht
  apply tileLetterStep_regs (ht := ht)
  repeat' first
    | with_reducible assumption
    | with_reducible apply keyDrop_regs
    | split
    | dsimp only
    | with_reducible intro _

end Sys2Proof.Machine
end

