-- ==== Sys2Proof/Laws/RegsJtag.lean ====
section
/-! SUPPORT. Which registers each operation of Machine/Jtag.lean may write. -/

namespace Sys2Proof.Machine

theorem leaveExtest_regs {W0 : Nat → Prop} {r0 : State} (s : State) (h0 : RegsBut W0 r0 s) :
    RegsBut W0 r0 (leaveExtest s) := by
  unfold leaveExtest
  repeat' first
    | with_reducible assumption
    | simp only [RegsBut.sec]

theorem dbgToken_regs {W0 : Nat → Prop} {r0 : State} (s : State) (t : Bytes) (h_CHN_KEYSTAT : W0 R.CHN_KEYSTAT) (h_CHN_KSESS : ∀ i, W0 (R.CHN_KSESS i)) (h_SEC_CNT : W0 R.SEC_CNT) (h0 : RegsBut W0 r0 s) :
    RegsBut W0 r0 (dbgToken s t) := by
  unfold dbgToken
  repeat' first
    | with_reducible assumption
    | with_reducible apply emit_regs
    | with_reducible apply tokenTake_regs
    | with_reducible apply leaveExtest_regs

theorem dbgNonce_regs {W0 : Nat → Prop} {r0 : State} (s : State) (h_SEC_NONCE : ∀ i, W0 (R.SEC_NONCE i)) (h0 : RegsBut W0 r0 s) :
    RegsBut W0 r0 (dbgNonce s) := by
  unfold dbgNonce
  repeat' first
    | with_reducible assumption
    | with_reducible apply emit_regs
    | with_reducible apply drawNonce_regs
    | with_reducible apply leaveExtest_regs

theorem regAcc_regs {W0 : Nat → Prop} {r0 : State} (s : State) (off : Nat) (v : Option Word) (h_all : ∀ off, W0 off) (h0 : RegsBut W0 r0 s) :
    RegsBut W0 r0 (regAcc s off v) := by
  exact RegsBut.all h_all

theorem memAcc_regs {W0 : Nat → Prop} {r0 : State} (s : State) (sram : Bool) (addr : Nat) (n : Nat) (data : Option Bytes) (h_pba : ∀ k, W0 (0x38000 + 4 * (k % 64))) (h_GLB_EVTOVF : W0 R.GLB_EVTOVF) (h_CHN_PERR : ∀ i, W0 (R.CHN_PERR i)) (h_DRC_ECCSTAT : W0 R.DRC_ECCSTAT) (h_DRC_UEADDR : W0 R.DRC_UEADDR) (h_DRC_HAZSTAT : W0 R.DRC_HAZSTAT) (h0 : RegsBut W0 r0 s) :
    RegsBut W0 r0 (memAcc s sram addr n data) := by
  unfold memAcc
  repeat' first
    | with_reducible assumption
    | with_reducible apply drawBytes_regs
    | with_reducible apply emit_regs
    | with_reducible apply noteBad_regs
    | with_reducible apply dramStore_regs
    | with_reducible apply leaveExtest_regs
    | with_reducible refine RegsBut.of_snd (by with_reducible assumption) ?_
    | with_reducible refine RegsBut.of_snd2 (by with_reducible assumption) ?_
    | split
    | dsimp only

theorem trace_regs {W0 : Nat → Prop} {r0 : State} (s : State) (n : Nat) (h0 : RegsBut W0 r0 s) :
    RegsBut W0 r0 (trace s n) := by
  unfold trace
  repeat' first
    | with_reducible assumption
    | with_reducible apply drawBytes_regs
    | with_reducible apply emit_regs
    | with_reducible apply leaveExtest_regs
    | with_reducible refine RegsBut.of_snd (by with_reducible assumption) ?_
    | with_reducible refine RegsBut.of_snd2 (by with_reducible assumption) ?_
    | split
    | dsimp only

theorem extestOn_regs {W0 : Nat → Prop} {r0 : State} (s : State) (h0 : RegsBut W0 r0 s) :
    RegsBut W0 r0 (extestOn s) := by
  unfold extestOn
  repeat' first
    | with_reducible assumption
    | simp only [RegsBut.sec]
    | with_reducible apply lampDrop_regs
    | with_reducible apply scanOff_regs

theorem whenDbg_regs {W0 : Nat → Prop} {r0 : State} (s : State) (f : State → State) (h_f : ∀ (x0 : State), RegsBut W0 r0 x0 → RegsBut W0 r0 (f x0)) {t0 : State} (h0 : RegsBut W0 r0 s) (ht : whenDbg s f = .next t0) :
    RegsBut W0 r0 t0 := by
  unfold whenDbg at ht
  apply whenOn_regs (ht := ht)
  repeat' first
    | with_reducible assumption

theorem execDbgtoken_regs {W0 : Nat → Prop} {r0 : State} (t : Bytes) (s : State) (h_CHN_KEYSTAT : W0 R.CHN_KEYSTAT) (h_CHN_KSESS : ∀ i, W0 (R.CHN_KSESS i)) (h_SEC_CNT : W0 R.SEC_CNT) {t0 : State} (h0 : RegsBut W0 r0 s) (ht : execDbgtoken t s = .next t0) :
    RegsBut W0 r0 t0 := by
  unfold execDbgtoken at ht
  apply whenDbg_regs (ht := ht)
  repeat' first
    | with_reducible assumption
    | with_reducible apply dbgToken_regs
    | split
    | dsimp only
    | with_reducible intro _

theorem execDbgnonce_regs {W0 : Nat → Prop} {r0 : State} (s : State) (h_SEC_NONCE : ∀ i, W0 (R.SEC_NONCE i)) {t0 : State} (h0 : RegsBut W0 r0 s) (ht : execDbgnonce s = .next t0) :
    RegsBut W0 r0 t0 := by
  unfold execDbgnonce at ht
  apply whenDbg_regs (ht := ht)
  repeat' first
    | with_reducible assumption
    | with_reducible apply dbgNonce_regs
    | split
    | dsimp only
    | with_reducible intro _

theorem execRegacc_regs {W0 : Nat → Prop} {r0 : State} (off : Nat) (v : Option Word) (s : State) (h_all : ∀ off, W0 off) {t0 : State} (h0 : RegsBut W0 r0 s) (ht : execRegacc off v s = .next t0) :
    RegsBut W0 r0 t0 := by
  exact RegsBut.all h_all

theorem execMemacc_regs {W0 : Nat → Prop} {r0 : State} (sram : Bool) (addr : Nat) (n : Nat) (data : Option Bytes) (s : State) (h_pba : ∀ k, W0 (0x38000 + 4 * (k % 64))) (h_GLB_EVTOVF : W0 R.GLB_EVTOVF) (h_CHN_PERR : ∀ i, W0 (R.CHN_PERR i)) (h_DRC_ECCSTAT : W0 R.DRC_ECCSTAT) (h_DRC_UEADDR : W0 R.DRC_UEADDR) (h_DRC_HAZSTAT : W0 R.DRC_HAZSTAT) {t0 : State} (h0 : RegsBut W0 r0 s) (ht : execMemacc sram addr n data s = .next t0) :
    RegsBut W0 r0 t0 := by
  unfold execMemacc at ht
  apply whenDbg_regs (ht := ht)
  repeat' first
    | with_reducible assumption
    | with_reducible apply memAcc_regs
    | split
    | dsimp only
    | with_reducible intro _

theorem execTrace_regs {W0 : Nat → Prop} {r0 : State} (n : Nat) (s : State) {t0 : State} (h0 : RegsBut W0 r0 s) (ht : execTrace n s = .next t0) :
    RegsBut W0 r0 t0 := by
  unfold execTrace at ht
  apply whenDbg_regs (ht := ht)
  repeat' first
    | with_reducible assumption
    | with_reducible apply trace_regs
    | split
    | dsimp only
    | with_reducible intro _

theorem execExtest_regs {W0 : Nat → Prop} {r0 : State} (s : State) {t0 : State} (h0 : RegsBut W0 r0 s) (ht : execExtest s = .next t0) :
    RegsBut W0 r0 t0 := by
  unfold execExtest at ht
  apply whenDbg_regs (ht := ht)
  repeat' first
    | with_reducible assumption
    | with_reducible apply extestOn_regs

end Sys2Proof.Machine
end

