-- ==== Sys2Proof/Laws/RegsIdle.lean ====
section
/-! SUPPORT. Which registers each operation of Machine/Idle.lean may write. -/

namespace Sys2Proof.Machine

theorem idle_regs {W0 : Nat → Prop} {r0 : State} (s : State) (h_pba : ∀ k, W0 (0x38000 + 4 * (k % 64))) (h_GLB_EVTOVF : W0 R.GLB_EVTOVF) (h_QUE_STAT : ∀ i, W0 (R.QUE_STAT i)) (h_QUE_RET : ∀ i, W0 (R.QUE_RET i)) (h_DMA_CHSTAT : ∀ i, W0 (R.DMA_CHSTAT i)) (h_DMA_CHCNT : ∀ i, W0 (R.DMA_CHCNT i)) (h_DMA_CHDEAD : ∀ i, W0 (R.DMA_CHDEAD i)) (h_SOR_GSTAT : W0 R.SOR_GSTAT) (h_SOR_TGTSTAT : ∀ i, W0 (R.SOR_TGTSTAT i)) (h_SRF_TCMISS : W0 R.SRF_TCMISS) (h_CHN_PERR : ∀ i, W0 (R.CHN_PERR i)) (h_DRC_ECCSTAT : W0 R.DRC_ECCSTAT) (h_DRC_UEADDR : W0 R.DRC_UEADDR) (h_UPD_STAT : W0 R.UPD_STAT) (h0 : RegsBut W0 r0 s) :
    RegsBut W0 r0 (idle s) := by
  unfold idle
  repeat' first
    | with_reducible assumption
    | with_reducible apply advance_regs
    | with_reducible apply dmaPumpAll_regs
    | with_reducible apply pushPump_regs

end Sys2Proof.Machine
end

