-- ==== Sys2Proof/Laws/RegsWrites.lean ====
section
/-! SUPPORT. What each command that is one host write of one register may write. -/

namespace Sys2Proof.Machine

theorem execErrinfoClear_regs {W0 : Nat → Prop} {r0 : State} (s : State) (h_pba : ∀ k, W0 (0x38000 + 4 * (k % 64))) (h_GLB_ERRLOG : W0 R.GLB_ERRLOG) (h_GLB_ERRINFO : W0 R.GLB_ERRINFO) (h_GLB_EVTOVF : W0 R.GLB_EVTOVF) (h_CHN_PERR : ∀ i, W0 (R.CHN_PERR i)) {t0 : State} (h0 : RegsBut W0 r0 s)
    (ht : execErrinfoClear s = .next t0) : RegsBut W0 r0 t0 := by
  unfold execErrinfoClear fieldWrite at ht
  injection ht with ht
  subst ht
  with_reducible refine hostWrite_frame (P := RegsBut W0 r0) (by decide) (by decide) ?_ (fun c => ?_) ?_
  on_goal 3 => rw [regEffect_00 _ _ _ (by decide), effectGlb, if_pos (by decide)]
  repeat' first
    | with_reducible assumption
    | with_reducible exact h_pba _
    | with_reducible exact h_CHN_PERR _
    | with_reducible apply storeReg_regs
    | with_reducible apply logError_regs
    | with_reducible apply setBitF_regs
    | with_reducible apply clearErrors_regs
    | split

theorem execWarmResetSoftware_regs {W0 : Nat → Prop} {r0 : State} (s : State) (h_pba : ∀ k, W0 (0x38000 + 4 * (k % 64))) (h_GLB_RSTCAUSE : W0 R.GLB_RSTCAUSE) (h_GLB_ERRLOG : W0 R.GLB_ERRLOG) (h_GLB_ERRINFO : W0 R.GLB_ERRINFO) (h_GLB_WARMRST : W0 R.GLB_WARMRST) (h_GLB_EVTOVF : W0 R.GLB_EVTOVF) (h_QUE_STAT : ∀ i, W0 (R.QUE_STAT i)) (h_QUE_RET : ∀ i, W0 (R.QUE_RET i)) (h_SRF_STAT : W0 R.SRF_STAT) (h_SRF_FREEPG : W0 R.SRF_FREEPG) (h_SRF_RETIRED : W0 R.SRF_RETIRED) (h_CHN_PERR : ∀ i, W0 (R.CHN_PERR i)) (h_SPK_SPKSTAT : ∀ i, W0 (R.SPK_SPKSTAT i)) {t0 : State} (h0 : RegsBut W0 r0 s)
    (ht : execWarmResetSoftware s = .next t0) : RegsBut W0 r0 t0 := by
  unfold execWarmResetSoftware fieldWrite at ht
  injection ht with ht
  subst ht
  with_reducible refine hostWrite_frame (P := RegsBut W0 r0) (by decide) (by decide) ?_ (fun c => ?_) ?_
  on_goal 3 => rw [regEffect_00 _ _ _ (by decide), effectGlb, if_neg (by decide), if_pos (by decide)]
  repeat' first
    | with_reducible assumption
    | with_reducible exact h_pba _
    | with_reducible exact h_QUE_STAT _
    | with_reducible exact h_QUE_RET _
    | with_reducible exact h_CHN_PERR _
    | with_reducible exact h_SPK_SPKSTAT _
    | with_reducible apply storeReg_regs
    | with_reducible apply logError_regs
    | with_reducible apply setBitF_regs
    | with_reducible apply warmRequest_regs
    | split

theorem execQueBlockReset_regs {W0 : Nat → Prop} {r0 : State} (s : State) (h_pba : ∀ k, W0 (0x38000 + 4 * (k % 64))) (h_r0x40000 : ∀ off, 0x40000 ≤ off → off < 0x80000 → W0 off) (h_GLB_ERRLOG : W0 R.GLB_ERRLOG) (h_GLB_ERRINFO : W0 R.GLB_ERRINFO) (h_GLB_BLKRST : W0 R.GLB_BLKRST) (h_GLB_EVTOVF : W0 R.GLB_EVTOVF) (h_QUE_STAT : ∀ i, W0 (R.QUE_STAT i)) (h_QUE_RET : ∀ i, W0 (R.QUE_RET i)) (h_CHN_PERR : ∀ i, W0 (R.CHN_PERR i)) {t0 : State} (h0 : RegsBut W0 r0 s)
    (ht : execQueBlockReset s = .next t0) : RegsBut W0 r0 t0 := by
  unfold execQueBlockReset blockResetWrite at ht
  injection ht with ht
  subst ht
  with_reducible refine hostWrite_frame (P := RegsBut W0 r0) (by decide) (by decide) ?_ (fun c => ?_) ?_
  on_goal 3 => rw [regEffect_00 _ _ _ (by decide), effectGlb_blkrst _ _ (by decide), blockReset_04]
  repeat' first
    | with_reducible assumption
    | with_reducible exact h_pba _
    | with_reducible exact h_QUE_STAT _
    | with_reducible exact h_QUE_RET _
    | with_reducible exact h_CHN_PERR _
    | with_reducible apply storeReg_regs
    | with_reducible apply logError_regs
    | with_reducible apply blockHeld_regs
    | with_reducible apply queBlockReset_regs
    | split

theorem execDmaBlockReset_regs {W0 : Nat → Prop} {r0 : State} (s : State) (h_pba : ∀ k, W0 (0x38000 + 4 * (k % 64))) (h_r0x80000 : ∀ off, 0x80000 ≤ off → off < 0x90000 → W0 off) (h_GLB_ERRLOG : W0 R.GLB_ERRLOG) (h_GLB_ERRINFO : W0 R.GLB_ERRINFO) (h_GLB_BLKRST : W0 R.GLB_BLKRST) (h_GLB_EVTOVF : W0 R.GLB_EVTOVF) (h_QUE_STAT : ∀ i, W0 (R.QUE_STAT i)) (h_QUE_RET : ∀ i, W0 (R.QUE_RET i)) (h_DMA_CHCNT : ∀ i, W0 (R.DMA_CHCNT i)) (h_DMA_CHDEAD : ∀ i, W0 (R.DMA_CHDEAD i)) (h_SOR_TGTSTAT : ∀ i, W0 (R.SOR_TGTSTAT i)) (h_CHN_PERR : ∀ i, W0 (R.CHN_PERR i)) {t0 : State} (h0 : RegsBut W0 r0 s)
    (ht : execDmaBlockReset s = .next t0) : RegsBut W0 r0 t0 := by
  unfold execDmaBlockReset blockResetWrite at ht
  injection ht with ht
  subst ht
  with_reducible refine hostWrite_frame (P := RegsBut W0 r0) (by decide) (by decide) ?_ (fun c => ?_) ?_
  on_goal 3 => rw [regEffect_00 _ _ _ (by decide), effectGlb_blkrst _ _ (by decide), blockReset_08]
  repeat' first
    | with_reducible assumption
    | with_reducible exact h_pba _
    | with_reducible exact h_QUE_STAT _
    | with_reducible exact h_QUE_RET _
    | with_reducible exact h_DMA_CHCNT _
    | with_reducible exact h_DMA_CHDEAD _
    | with_reducible exact h_SOR_TGTSTAT _
    | with_reducible exact h_CHN_PERR _
    | with_reducible apply storeReg_regs
    | with_reducible apply logError_regs
    | with_reducible apply blockHeld_regs
    | with_reducible apply dmaBlockReset_regs
    | split

theorem execSorBlockReset_regs {W0 : Nat → Prop} {r0 : State} (s : State) (h_pba : ∀ k, W0 (0x38000 + 4 * (k % 64))) (h_r0x90000 : ∀ off, 0x90000 ≤ off → off < 0xA0000 → W0 off) (h_GLB_ERRLOG : W0 R.GLB_ERRLOG) (h_GLB_ERRINFO : W0 R.GLB_ERRINFO) (h_GLB_BLKRST : W0 R.GLB_BLKRST) (h_GLB_EVTOVF : W0 R.GLB_EVTOVF) (h_QUE_STAT : ∀ i, W0 (R.QUE_STAT i)) (h_QUE_RET : ∀ i, W0 (R.QUE_RET i)) (h_DMA_CHSTAT : ∀ i, W0 (R.DMA_CHSTAT i)) (h_SOR_TGTSTAT : ∀ i, W0 (R.SOR_TGTSTAT i)) (h_CHN_PERR : ∀ i, W0 (R.CHN_PERR i)) {t0 : State} (h0 : RegsBut W0 r0 s)
    (ht : execSorBlockReset s = .next t0) : RegsBut W0 r0 t0 := by
  unfold execSorBlockReset blockResetWrite at ht
  injection ht with ht
  subst ht
  with_reducible refine hostWrite_frame (P := RegsBut W0 r0) (by decide) (by decide) ?_ (fun c => ?_) ?_
  on_goal 3 => rw [regEffect_00 _ _ _ (by decide), effectGlb_blkrst _ _ (by decide), blockReset_09]
  repeat' first
    | with_reducible assumption
    | with_reducible exact h_pba _
    | with_reducible exact h_QUE_STAT _
    | with_reducible exact h_QUE_RET _
    | with_reducible exact h_DMA_CHSTAT _
    | with_reducible exact h_SOR_TGTSTAT _
    | with_reducible exact h_CHN_PERR _
    | with_reducible apply storeReg_regs
    | with_reducible apply logError_regs
    | with_reducible apply blockHeld_regs
    | with_reducible apply sorBlockReset_regs
    | split

theorem execSrfBlockReset_regs {W0 : Nat → Prop} {r0 : State} (s : State) (h_pba : ∀ k, W0 (0x38000 + 4 * (k % 64))) (h_r0xA0000 : ∀ off, 0xA0000 ≤ off → off < 0xB0000 → W0 off) (h_GLB_ERRLOG : W0 R.GLB_ERRLOG) (h_GLB_ERRINFO : W0 R.GLB_ERRINFO) (h_GLB_BLKRST : W0 R.GLB_BLKRST) (h_GLB_EVTOVF : W0 R.GLB_EVTOVF) (h_QUE_STAT : ∀ i, W0 (R.QUE_STAT i)) (h_QUE_RET : ∀ i, W0 (R.QUE_RET i)) (h_CHN_PERR : ∀ i, W0 (R.CHN_PERR i)) {t0 : State} (h0 : RegsBut W0 r0 s)
    (ht : execSrfBlockReset s = .next t0) : RegsBut W0 r0 t0 := by
  unfold execSrfBlockReset blockResetWrite at ht
  injection ht with ht
  subst ht
  with_reducible refine hostWrite_frame (P := RegsBut W0 r0) (by decide) (by decide) ?_ (fun c => ?_) ?_
  on_goal 3 => rw [regEffect_00 _ _ _ (by decide), effectGlb_blkrst _ _ (by decide), blockReset_0a]
  repeat' first
    | with_reducible assumption
    | with_reducible exact h_pba _
    | with_reducible exact h_QUE_STAT _
    | with_reducible exact h_QUE_RET _
    | with_reducible exact h_CHN_PERR _
    | with_reducible apply storeReg_regs
    | with_reducible apply logError_regs
    | with_reducible apply blockHeld_regs
    | with_reducible apply srfBlockReset_regs
    | split

theorem execCmpBlockReset_regs {W0 : Nat → Prop} {r0 : State} (s : State) (h_pba : ∀ k, W0 (0x38000 + 4 * (k % 64))) (h_r0xB0000 : ∀ off, 0xB0000 ≤ off → off < 0xC0000 → W0 off) (h_GLB_ERRLOG : W0 R.GLB_ERRLOG) (h_GLB_ERRINFO : W0 R.GLB_ERRINFO) (h_GLB_BLKRST : W0 R.GLB_BLKRST) (h_GLB_YIELDCNT : W0 R.GLB_YIELDCNT) (h_GLB_YIELDLAST : W0 R.GLB_YIELDLAST) (h_GLB_YIELDFRM : W0 R.GLB_YIELDFRM) (h_GLB_EVTOVF : W0 R.GLB_EVTOVF) (h_QUE_STAT : ∀ i, W0 (R.QUE_STAT i)) (h_QUE_RET : ∀ i, W0 (R.QUE_RET i)) (h_SRF_STAT : W0 R.SRF_STAT) (h_SRF_FREEPG : W0 R.SRF_FREEPG) (h_SRF_TCMISS : W0 R.SRF_TCMISS) (h_FRT_USTAT : W0 R.FRT_USTAT) (h_FRT_UFRM : W0 R.FRT_UFRM) (h_CHN_PERR : ∀ i, W0 (R.CHN_PERR i)) (h_DRC_ECCSTAT : W0 R.DRC_ECCSTAT) (h_DRC_UEADDR : W0 R.DRC_UEADDR) {t0 : State} (h0 : RegsBut W0 r0 s)
    (ht : execCmpBlockReset s = .next t0) : RegsBut W0 r0 t0 := by
  unfold execCmpBlockReset blockResetWrite at ht
  injection ht with ht
  subst ht
  with_reducible refine hostWrite_frame (P := RegsBut W0 r0) (by decide) (by decide) ?_ (fun c => ?_) ?_
  on_goal 3 => rw [regEffect_00 _ _ _ (by decide), effectGlb_blkrst _ _ (by decide), blockReset_0b]
  repeat' first
    | with_reducible assumption
    | with_reducible exact h_pba _
    | with_reducible exact h_QUE_STAT _
    | with_reducible exact h_QUE_RET _
    | with_reducible exact h_CHN_PERR _
    | with_reducible apply storeReg_regs
    | with_reducible apply logError_regs
    | with_reducible apply blockHeld_regs
    | with_reducible apply cmpBlockReset_regs
    | split

theorem execFrtBlockReset_regs {W0 : Nat → Prop} {r0 : State} (s : State) (h_pba : ∀ k, W0 (0x38000 + 4 * (k % 64))) (h_r0xC0000 : ∀ off, 0xC0000 ≤ off → off < 0xD0000 → W0 off) (h_GLB_ERRLOG : W0 R.GLB_ERRLOG) (h_GLB_ERRINFO : W0 R.GLB_ERRINFO) (h_GLB_BLKRST : W0 R.GLB_BLKRST) (h_GLB_YIELDCNT : W0 R.GLB_YIELDCNT) (h_GLB_YIELDLAST : W0 R.GLB_YIELDLAST) (h_GLB_YIELDFRM : W0 R.GLB_YIELDFRM) (h_GLB_EVTOVF : W0 R.GLB_EVTOVF) (h_QUE_STAT : ∀ i, W0 (R.QUE_STAT i)) (h_QUE_RET : ∀ i, W0 (R.QUE_RET i)) (h_SRF_STAT : W0 R.SRF_STAT) (h_SRF_FREEPG : W0 R.SRF_FREEPG) (h_SRF_TCMISS : W0 R.SRF_TCMISS) (h_FRT_USTAT : W0 R.FRT_USTAT) (h_FRT_UFRM : W0 R.FRT_UFRM) (h_CHN_PERR : ∀ i, W0 (R.CHN_PERR i)) (h_TIM_PGCFG : ∀ i, W0 (R.TIM_PGCFG i)) (h_TIM_PGNEXT : ∀ i, W0 (R.TIM_PGNEXT i)) (h_DRC_ECCSTAT : W0 R.DRC_ECCSTAT) (h_DRC_UEADDR : W0 R.DRC_UEADDR) {t0 : State} (h0 : RegsBut W0 r0 s)
    (ht : execFrtBlockReset s = .next t0) : RegsBut W0 r0 t0 := by
  unfold execFrtBlockReset blockResetWrite at ht
  injection ht with ht
  subst ht
  with_reducible refine hostWrite_frame (P := RegsBut W0 r0) (by decide) (by decide) ?_ (fun c => ?_) ?_
  on_goal 3 => rw [regEffect_00 _ _ _ (by decide), effectGlb_blkrst _ _ (by decide), blockReset_0c]
  repeat' first
    | with_reducible assumption
    | with_reducible exact h_pba _
    | with_reducible exact h_QUE_STAT _
    | with_reducible exact h_QUE_RET _
    | with_reducible exact h_CHN_PERR _
    | with_reducible exact h_TIM_PGCFG _
    | with_reducible exact h_TIM_PGNEXT _
    | with_reducible apply storeReg_regs
    | with_reducible apply logError_regs
    | with_reducible apply blockHeld_regs
    | with_reducible apply frtBlockReset_regs
    | split

theorem execChnBlockReset_regs {W0 : Nat → Prop} {r0 : State} (s : State) (h_pba : ∀ k, W0 (0x38000 + 4 * (k % 64))) (h_r0xD0000 : ∀ off, 0xD0000 ≤ off → off < 0xE0000 → W0 off) (h_GLB_ERRLOG : W0 R.GLB_ERRLOG) (h_GLB_ERRINFO : W0 R.GLB_ERRINFO) (h_GLB_BLKRST : W0 R.GLB_BLKRST) (h_GLB_EVTOVF : W0 R.GLB_EVTOVF) (h_QUE_STAT : ∀ i, W0 (R.QUE_STAT i)) (h_QUE_RET : ∀ i, W0 (R.QUE_RET i)) (h_CHN_PERR : ∀ i, W0 (R.CHN_PERR i)) {t0 : State} (h0 : RegsBut W0 r0 s)
    (ht : execChnBlockReset s = .next t0) : RegsBut W0 r0 t0 := by
  unfold execChnBlockReset blockResetWrite at ht
  injection ht with ht
  subst ht
  with_reducible refine hostWrite_frame (P := RegsBut W0 r0) (by decide) (by decide) ?_ (fun c => ?_) ?_
  on_goal 3 => rw [regEffect_00 _ _ _ (by decide), effectGlb_blkrst _ _ (by decide), blockReset_0d]
  repeat' first
    | with_reducible assumption
    | with_reducible exact h_pba _
    | with_reducible exact h_QUE_STAT _
    | with_reducible exact h_QUE_RET _
    | with_reducible exact h_CHN_PERR _
    | with_reducible apply storeReg_regs
    | with_reducible apply logError_regs
    | with_reducible apply blockHeld_regs
    | with_reducible apply chnBlockReset_regs
    | split

theorem execLnkBlockReset_regs {W0 : Nat → Prop} {r0 : State} (s : State) (h_pba : ∀ k, W0 (0x38000 + 4 * (k % 64))) (h_r0xE0000 : ∀ off, 0xE0000 ≤ off → off < 0xF0000 → W0 off) (h_GLB_ERRLOG : W0 R.GLB_ERRLOG) (h_GLB_ERRINFO : W0 R.GLB_ERRINFO) (h_GLB_BLKRST : W0 R.GLB_BLKRST) (h_GLB_EVTOVF : W0 R.GLB_EVTOVF) (h_CHN_PERR : ∀ i, W0 (R.CHN_PERR i)) (h_LNK_PSTAT : ∀ i, W0 (R.LNK_PSTAT i)) (h_LNK_PMAP : ∀ i, W0 (R.LNK_PMAP i)) (h_LNK_PCNT : ∀ i, W0 (R.LNK_PCNT i)) (h_LNK_LSTAT : ∀ i, W0 (R.LNK_LSTAT i)) (h_TAN_TSTAT : W0 R.TAN_TSTAT) (h_CAL_STAT : W0 R.CAL_STAT) {t0 : State} (h0 : RegsBut W0 r0 s)
    (ht : execLnkBlockReset s = .next t0) : RegsBut W0 r0 t0 := by
  unfold execLnkBlockReset blockResetWrite at ht
  injection ht with ht
  subst ht
  with_reducible refine hostWrite_frame (P := RegsBut W0 r0) (by decide) (by decide) ?_ (fun c => ?_) ?_
  on_goal 3 => rw [regEffect_00 _ _ _ (by decide), effectGlb_blkrst _ _ (by decide), blockReset_0e]
  repeat' first
    | with_reducible assumption
    | with_reducible exact h_pba _
    | with_reducible exact h_CHN_PERR _
    | with_reducible exact h_LNK_PSTAT _
    | with_reducible exact h_LNK_PMAP _
    | with_reducible exact h_LNK_PCNT _
    | with_reducible exact h_LNK_LSTAT _
    | with_reducible apply storeReg_regs
    | with_reducible apply logError_regs
    | with_reducible apply blockHeld_regs
    | with_reducible apply lnkBlockReset_regs
    | split

theorem execTimBlockReset_regs {W0 : Nat → Prop} {r0 : State} (s : State) (h_pba : ∀ k, W0 (0x38000 + 4 * (k % 64))) (h_r0xF0000 : ∀ off, 0xF0000 ≤ off → off < 0x100000 → W0 off) (h_GLB_ERRLOG : W0 R.GLB_ERRLOG) (h_GLB_ERRINFO : W0 R.GLB_ERRINFO) (h_GLB_BLKRST : W0 R.GLB_BLKRST) (h_GLB_EVTOVF : W0 R.GLB_EVTOVF) (h_CHN_PERR : ∀ i, W0 (R.CHN_PERR i)) (h_TIM_INC : W0 R.TIM_INC) (h_TIM_PGCFG : ∀ i, W0 (R.TIM_PGCFG i)) {t0 : State} (h0 : RegsBut W0 r0 s)
    (ht : execTimBlockReset s = .next t0) : RegsBut W0 r0 t0 := by
  unfold execTimBlockReset blockResetWrite at ht
  injection ht with ht
  subst ht
  with_reducible refine hostWrite_frame (P := RegsBut W0 r0) (by decide) (by decide) ?_ (fun c => ?_) ?_
  on_goal 3 => rw [regEffect_00 _ _ _ (by decide), effectGlb_blkrst _ _ (by decide), blockReset_0f]
  repeat' first
    | with_reducible assumption
    | with_reducible exact h_pba _
    | with_reducible exact h_CHN_PERR _
    | with_reducible exact h_TIM_PGCFG _
    | with_reducible apply storeReg_regs
    | with_reducible apply logError_regs
    | with_reducible apply blockHeld_regs
    | with_reducible apply timBlockReset_regs
    | split

theorem execTanBlockReset_regs {W0 : Nat → Prop} {r0 : State} (s : State) (h_pba : ∀ k, W0 (0x38000 + 4 * (k % 64))) (h_r0x100000 : ∀ off, 0x100000 ≤ off → off < 0x110000 → W0 off) (h_GLB_ERRLOG : W0 R.GLB_ERRLOG) (h_GLB_ERRINFO : W0 R.GLB_ERRINFO) (h_GLB_BLKRST : W0 R.GLB_BLKRST) (h_GLB_EVTOVF : W0 R.GLB_EVTOVF) (h_QUE_STAT : ∀ i, W0 (R.QUE_STAT i)) (h_QUE_RET : ∀ i, W0 (R.QUE_RET i)) (h_CHN_PERR : ∀ i, W0 (R.CHN_PERR i)) (h_TIM_PGCFG : ∀ i, W0 (R.TIM_PGCFG i)) (h_TIM_PGNEXT : ∀ i, W0 (R.TIM_PGNEXT i)) (h_TAN_TSTAT : W0 R.TAN_TSTAT) {t0 : State} (h0 : RegsBut W0 r0 s)
    (ht : execTanBlockReset s = .next t0) : RegsBut W0 r0 t0 := by
  unfold execTanBlockReset blockResetWrite at ht
  injection ht with ht
  subst ht
  with_reducible refine hostWrite_frame (P := RegsBut W0 r0) (by decide) (by decide) ?_ (fun c => ?_) ?_
  on_goal 3 => rw [regEffect_00 _ _ _ (by decide), effectGlb_blkrst _ _ (by decide), blockReset_10]
  repeat' first
    | with_reducible assumption
    | with_reducible exact h_pba _
    | with_reducible exact h_QUE_STAT _
    | with_reducible exact h_QUE_RET _
    | with_reducible exact h_CHN_PERR _
    | with_reducible exact h_TIM_PGCFG _
    | with_reducible exact h_TIM_PGNEXT _
    | with_reducible apply storeReg_regs
    | with_reducible apply logError_regs
    | with_reducible apply blockHeld_regs
    | with_reducible apply tanBlockReset_regs
    | split

theorem execLmpBlockReset_regs {W0 : Nat → Prop} {r0 : State} (s : State) (h_pba : ∀ k, W0 (0x38000 + 4 * (k % 64))) (h_r0x110000 : ∀ off, 0x110000 ≤ off → off < 0x120000 → W0 off) (h_GLB_ERRLOG : W0 R.GLB_ERRLOG) (h_GLB_ERRINFO : W0 R.GLB_ERRINFO) (h_GLB_BLKRST : W0 R.GLB_BLKRST) (h_GLB_EVTOVF : W0 R.GLB_EVTOVF) (h_QUE_STAT : ∀ i, W0 (R.QUE_STAT i)) (h_QUE_RET : ∀ i, W0 (R.QUE_RET i)) (h_SRF_STAT : W0 R.SRF_STAT) (h_SRF_FREEPG : W0 R.SRF_FREEPG) (h_SRF_RETIRED : W0 R.SRF_RETIRED) (h_CHN_PERR : ∀ i, W0 (R.CHN_PERR i)) (h_TIM_PGCFG : ∀ i, W0 (R.TIM_PGCFG i)) (h_TIM_PGNEXT : ∀ i, W0 (R.TIM_PGNEXT i)) (h_SPK_SPKSTAT : ∀ i, W0 (R.SPK_SPKSTAT i)) {t0 : State} (h0 : RegsBut W0 r0 s)
    (ht : execLmpBlockReset s = .next t0) : RegsBut W0 r0 t0 := by
  unfold execLmpBlockReset blockResetWrite at ht
  injection ht with ht
  subst ht
  with_reducible refine hostWrite_frame (P := RegsBut W0 r0) (by decide) (by decide) ?_ (fun c => ?_) ?_
  on_goal 3 => rw [regEffect_00 _ _ _ (by decide), effectGlb_blkrst _ _ (by decide), blockReset_11]
  repeat' first
    | with_reducible assumption
    | with_reducible exact h_pba _
    | with_reducible exact h_QUE_STAT _
    | with_reducible exact h_QUE_RET _
    | with_reducible exact h_CHN_PERR _
    | with_reducible exact h_TIM_PGCFG _
    | with_reducible exact h_TIM_PGNEXT _
    | with_reducible exact h_SPK_SPKSTAT _
    | with_reducible apply storeReg_regs
    | with_reducible apply logError_regs
    | with_reducible apply blockHeld_regs
    | with_reducible apply lmpBlockReset_regs
    | split

theorem execSpkBlockReset_regs {W0 : Nat → Prop} {r0 : State} (s : State) (h_pba : ∀ k, W0 (0x38000 + 4 * (k % 64))) (h_r0x120000 : ∀ off, 0x120000 ≤ off → off < 0x130000 → W0 off) (h_GLB_ERRLOG : W0 R.GLB_ERRLOG) (h_GLB_ERRINFO : W0 R.GLB_ERRINFO) (h_GLB_BLKRST : W0 R.GLB_BLKRST) (h_GLB_EVTOVF : W0 R.GLB_EVTOVF) (h_CHN_PERR : ∀ i, W0 (R.CHN_PERR i)) {t0 : State} (h0 : RegsBut W0 r0 s)
    (ht : execSpkBlockReset s = .next t0) : RegsBut W0 r0 t0 := by
  unfold execSpkBlockReset blockResetWrite at ht
  injection ht with ht
  subst ht
  with_reducible refine hostWrite_frame (P := RegsBut W0 r0) (by decide) (by decide) ?_ (fun c => ?_) ?_
  on_goal 3 => rw [regEffect_00 _ _ _ (by decide), effectGlb_blkrst _ _ (by decide), blockReset_12]
  repeat' first
    | with_reducible assumption
    | with_reducible exact h_pba _
    | with_reducible exact h_CHN_PERR _
    | with_reducible apply storeReg_regs
    | with_reducible apply logError_regs
    | with_reducible apply blockHeld_regs
    | with_reducible apply spkBlockReset_regs
    | split

theorem execCalBlockReset_regs {W0 : Nat → Prop} {r0 : State} (s : State) (h_pba : ∀ k, W0 (0x38000 + 4 * (k % 64))) (h_r0x150000 : ∀ off, 0x150000 ≤ off → off < 0x160000 → W0 off) (h_GLB_ERRLOG : W0 R.GLB_ERRLOG) (h_GLB_ERRINFO : W0 R.GLB_ERRINFO) (h_GLB_BLKRST : W0 R.GLB_BLKRST) (h_GLB_EVTOVF : W0 R.GLB_EVTOVF) (h_CHN_PERR : ∀ i, W0 (R.CHN_PERR i)) (h_LNK_PMAP : ∀ i, W0 (R.LNK_PMAP i)) (h_LNK_LSTAT : ∀ i, W0 (R.LNK_LSTAT i)) (h_CAL_STAT : W0 R.CAL_STAT) {t0 : State} (h0 : RegsBut W0 r0 s)
    (ht : execCalBlockReset s = .next t0) : RegsBut W0 r0 t0 := by
  unfold execCalBlockReset blockResetWrite at ht
  injection ht with ht
  subst ht
  with_reducible refine hostWrite_frame (P := RegsBut W0 r0) (by decide) (by decide) ?_ (fun c => ?_) ?_
  on_goal 3 => rw [regEffect_00 _ _ _ (by decide), effectGlb_blkrst _ _ (by decide), blockReset_15]
  repeat' first
    | with_reducible assumption
    | with_reducible exact h_pba _
    | with_reducible exact h_CHN_PERR _
    | with_reducible exact h_LNK_PMAP _
    | with_reducible exact h_LNK_LSTAT _
    | with_reducible apply storeReg_regs
    | with_reducible apply logError_regs
    | with_reducible apply blockHeld_regs
    | with_reducible apply calBlockReset_regs
    | split

theorem execDbgBlockReset_regs {W0 : Nat → Prop} {r0 : State} (s : State) (h_pba : ∀ k, W0 (0x38000 + 4 * (k % 64))) (h_GLB_ERRLOG : W0 R.GLB_ERRLOG) (h_GLB_ERRINFO : W0 R.GLB_ERRINFO) (h_GLB_BLKRST : W0 R.GLB_BLKRST) (h_GLB_EVTOVF : W0 R.GLB_EVTOVF) (h_CHN_PERR : ∀ i, W0 (R.CHN_PERR i)) {t0 : State} (h0 : RegsBut W0 r0 s)
    (ht : execDbgBlockReset s = .next t0) : RegsBut W0 r0 t0 := by
  unfold execDbgBlockReset blockResetWrite at ht
  injection ht with ht
  subst ht
  with_reducible refine hostWrite_frame (P := RegsBut W0 r0) (by decide) (by decide) ?_ (fun c => ?_) ?_
  on_goal 3 => rw [regEffect_00 _ _ _ (by decide), effectGlb_blkrst _ _ (by decide), blockReset_19]
  repeat' first
    | with_reducible assumption
    | with_reducible exact h_pba _
    | with_reducible exact h_CHN_PERR _
    | with_reducible apply storeReg_regs
    | with_reducible apply logError_regs
    | with_reducible apply blockHeld_regs
    | with_reducible apply dbgBlockReset_regs
    | split

theorem execHifRetrain_regs {W0 : Nat → Prop} {r0 : State} (v : Word) (s : State) (h_pba : ∀ k, W0 (0x38000 + 4 * (k % 64))) (h_GLB_ERRLOG : W0 R.GLB_ERRLOG) (h_GLB_ERRINFO : W0 R.GLB_ERRINFO) (h_GLB_EVTOVF : W0 R.GLB_EVTOVF) (h_HIF_LINKCFG : W0 R.HIF_LINKCFG) (h_HIF_LINKSTAT : W0 R.HIF_LINKSTAT) (h_QUE_STAT : ∀ i, W0 (R.QUE_STAT i)) (h_QUE_RET : ∀ i, W0 (R.QUE_RET i)) (h_DMA_CHSTAT : ∀ i, W0 (R.DMA_CHSTAT i)) (h_DMA_CHCNT : ∀ i, W0 (R.DMA_CHCNT i)) (h_DMA_CHDEAD : ∀ i, W0 (R.DMA_CHDEAD i)) (h_SOR_TGTSTAT : ∀ i, W0 (R.SOR_TGTSTAT i)) (h_SRF_PFSTAT : W0 R.SRF_PFSTAT) (h_SRF_PFLAST : W0 R.SRF_PFLAST) (h_SRF_TCMISS : W0 R.SRF_TCMISS) (h_CHN_PERR : ∀ i, W0 (R.CHN_PERR i)) (h_DRC_ECCSTAT : W0 R.DRC_ECCSTAT) (h_DRC_UEADDR : W0 R.DRC_UEADDR) {t0 : State} (h0 : RegsBut W0 r0 s)
    (ht : execHifRetrain v s = .next t0) : RegsBut W0 r0 t0 := by
  unfold execHifRetrain fieldWrite at ht
  injection ht with ht
  subst ht
  with_reducible refine hostWrite_frame (P := RegsBut W0 r0) (by decide) (by decide) ?_ (fun c => ?_) ?_
  on_goal 3 => rw [regEffect_02 _ _ _ (by decide)]
  repeat' first
    | with_reducible assumption
    | with_reducible exact h_pba _
    | with_reducible exact h_QUE_STAT _
    | with_reducible exact h_QUE_RET _
    | with_reducible exact h_DMA_CHSTAT _
    | with_reducible exact h_DMA_CHCNT _
    | with_reducible exact h_DMA_CHDEAD _
    | with_reducible exact h_SOR_TGTSTAT _
    | with_reducible exact h_CHN_PERR _
    | with_reducible apply storeReg_regs
    | with_reducible apply logError_regs
    | with_reducible apply setBitF_regs
    | with_reducible apply linkRetrain_regs
    | split

theorem execQueueEnable_regs {W0 : Nat → Prop} {r0 : State} (q : Nat) (s : State) (h_pba : ∀ k, W0 (0x38000 + 4 * (k % 64))) (h_GLB_ERRLOG : W0 R.GLB_ERRLOG) (h_GLB_ERRINFO : W0 R.GLB_ERRINFO) (h_GLB_EVTOVF : W0 R.GLB_EVTOVF) (h_QUE_CTL : ∀ i, W0 (R.QUE_CTL i)) (h_QUE_STAT : ∀ i, W0 (R.QUE_STAT i)) (h_QUE_IDX : ∀ i, W0 (R.QUE_IDX i)) (h_QUE_RET : ∀ i, W0 (R.QUE_RET i)) (h_CHN_PERR : ∀ i, W0 (R.CHN_PERR i)) {t0 : State} (h0 : RegsBut W0 r0 s)
    (ht : execQueueEnable q s = .next t0) : RegsBut W0 r0 t0 := by
  unfold execQueueEnable queueWrite at ht
  injection ht with ht
  subst ht
  split
  on_goal 2 => exact h0
  rename_i hi
  with_reducible refine hostWrite_frame (P := RegsBut W0 r0) (by unfold R.QUE_CTL; omega) (by unfold R.QUE_CTL; omega) ?_ (fun c => ?_) ?_
  on_goal 3 => rw [regEffect_que _ _ _ (by unfold R.QUE_CTL; omega) (by unfold R.QUE_CTL; omega)]
  repeat' first
    | with_reducible assumption
    | with_reducible exact h_pba _
    | with_reducible exact h_QUE_CTL _
    | with_reducible exact h_QUE_STAT _
    | with_reducible exact h_QUE_IDX _
    | with_reducible exact h_QUE_RET _
    | with_reducible exact h_CHN_PERR _
    | with_reducible apply storeReg_regs
    | with_reducible apply logError_regs
    | with_reducible apply setBitF_regs
    | with_reducible apply effectQue_regs

theorem execQueueDisable_regs {W0 : Nat → Prop} {r0 : State} (q : Nat) (s : State) (h_pba : ∀ k, W0 (0x38000 + 4 * (k % 64))) (h_GLB_ERRLOG : W0 R.GLB_ERRLOG) (h_GLB_ERRINFO : W0 R.GLB_ERRINFO) (h_GLB_EVTOVF : W0 R.GLB_EVTOVF) (h_QUE_CTL : ∀ i, W0 (R.QUE_CTL i)) (h_QUE_STAT : ∀ i, W0 (R.QUE_STAT i)) (h_QUE_IDX : ∀ i, W0 (R.QUE_IDX i)) (h_QUE_RET : ∀ i, W0 (R.QUE_RET i)) (h_CHN_PERR : ∀ i, W0 (R.CHN_PERR i)) {t0 : State} (h0 : RegsBut W0 r0 s)
    (ht : execQueueDisable q s = .next t0) : RegsBut W0 r0 t0 := by
  unfold execQueueDisable queueWrite at ht
  injection ht with ht
  subst ht
  split
  on_goal 2 => exact h0
  rename_i hi
  with_reducible refine hostWrite_frame (P := RegsBut W0 r0) (by unfold R.QUE_CTL; omega) (by unfold R.QUE_CTL; omega) ?_ (fun c => ?_) ?_
  on_goal 3 => rw [regEffect_que _ _ _ (by unfold R.QUE_CTL; omega) (by unfold R.QUE_CTL; omega)]
  repeat' first
    | with_reducible assumption
    | with_reducible exact h_pba _
    | with_reducible exact h_QUE_CTL _
    | with_reducible exact h_QUE_STAT _
    | with_reducible exact h_QUE_IDX _
    | with_reducible exact h_QUE_RET _
    | with_reducible exact h_CHN_PERR _
    | with_reducible apply storeReg_regs
    | with_reducible apply logError_regs
    | with_reducible apply setBitF_regs
    | with_reducible apply effectQue_regs

theorem execQueueStop_regs {W0 : Nat → Prop} {r0 : State} (q : Nat) (s : State) (h_pba : ∀ k, W0 (0x38000 + 4 * (k % 64))) (h_GLB_ERRLOG : W0 R.GLB_ERRLOG) (h_GLB_ERRINFO : W0 R.GLB_ERRINFO) (h_GLB_EVTOVF : W0 R.GLB_EVTOVF) (h_QUE_CTL : ∀ i, W0 (R.QUE_CTL i)) (h_QUE_STAT : ∀ i, W0 (R.QUE_STAT i)) (h_QUE_IDX : ∀ i, W0 (R.QUE_IDX i)) (h_QUE_RET : ∀ i, W0 (R.QUE_RET i)) (h_CHN_PERR : ∀ i, W0 (R.CHN_PERR i)) {t0 : State} (h0 : RegsBut W0 r0 s)
    (ht : execQueueStop q s = .next t0) : RegsBut W0 r0 t0 := by
  unfold execQueueStop queueWrite at ht
  injection ht with ht
  subst ht
  split
  on_goal 2 => exact h0
  rename_i hi
  with_reducible refine hostWrite_frame (P := RegsBut W0 r0) (by unfold R.QUE_CTL; omega) (by unfold R.QUE_CTL; omega) ?_ (fun c => ?_) ?_
  on_goal 3 => rw [regEffect_que _ _ _ (by unfold R.QUE_CTL; omega) (by unfold R.QUE_CTL; omega)]
  repeat' first
    | with_reducible assumption
    | with_reducible exact h_pba _
    | with_reducible exact h_QUE_CTL _
    | with_reducible exact h_QUE_STAT _
    | with_reducible exact h_QUE_IDX _
    | with_reducible exact h_QUE_RET _
    | with_reducible exact h_CHN_PERR _
    | with_reducible apply storeReg_regs
    | with_reducible apply logError_regs
    | with_reducible apply setBitF_regs
    | with_reducible apply effectQue_regs

theorem execQueueResume_regs {W0 : Nat → Prop} {r0 : State} (q : Nat) (s : State) (h_pba : ∀ k, W0 (0x38000 + 4 * (k % 64))) (h_GLB_ERRLOG : W0 R.GLB_ERRLOG) (h_GLB_ERRINFO : W0 R.GLB_ERRINFO) (h_GLB_EVTOVF : W0 R.GLB_EVTOVF) (h_QUE_CTL : ∀ i, W0 (R.QUE_CTL i)) (h_QUE_STAT : ∀ i, W0 (R.QUE_STAT i)) (h_QUE_IDX : ∀ i, W0 (R.QUE_IDX i)) (h_QUE_RET : ∀ i, W0 (R.QUE_RET i)) (h_CHN_PERR : ∀ i, W0 (R.CHN_PERR i)) {t0 : State} (h0 : RegsBut W0 r0 s)
    (ht : execQueueResume q s = .next t0) : RegsBut W0 r0 t0 := by
  unfold execQueueResume queueWrite at ht
  injection ht with ht
  subst ht
  split
  on_goal 2 => exact h0
  rename_i hi
  with_reducible refine hostWrite_frame (P := RegsBut W0 r0) (by unfold R.QUE_CTL; omega) (by unfold R.QUE_CTL; omega) ?_ (fun c => ?_) ?_
  on_goal 3 => rw [regEffect_que _ _ _ (by unfold R.QUE_CTL; omega) (by unfold R.QUE_CTL; omega)]
  repeat' first
    | with_reducible assumption
    | with_reducible exact h_pba _
    | with_reducible exact h_QUE_CTL _
    | with_reducible exact h_QUE_STAT _
    | with_reducible exact h_QUE_IDX _
    | with_reducible exact h_QUE_RET _
    | with_reducible exact h_CHN_PERR _
    | with_reducible apply storeReg_regs
    | with_reducible apply logError_regs
    | with_reducible apply setBitF_regs
    | with_reducible apply effectQue_regs

theorem execSrfEnable_regs {W0 : Nat → Prop} {r0 : State} (s : State) (h_pba : ∀ k, W0 (0x38000 + 4 * (k % 64))) (h_GLB_ERRLOG : W0 R.GLB_ERRLOG) (h_GLB_ERRINFO : W0 R.GLB_ERRINFO) (h_GLB_EVTOVF : W0 R.GLB_EVTOVF) (h_SRF_CTL : W0 R.SRF_CTL) (h_SRF_STAT : W0 R.SRF_STAT) (h_SRF_FREEPG : W0 R.SRF_FREEPG) (h_CHN_PERR : ∀ i, W0 (R.CHN_PERR i)) {t0 : State} (h0 : RegsBut W0 r0 s)
    (ht : execSrfEnable s = .next t0) : RegsBut W0 r0 t0 := by
  unfold execSrfEnable fieldWrite at ht
  injection ht with ht
  subst ht
  with_reducible refine hostWrite_frame (P := RegsBut W0 r0) (by decide) (by decide) ?_ (fun c => ?_) ?_
  on_goal 3 => rw [regEffect_0a _ _ _ (by decide)]
  repeat' first
    | with_reducible assumption
    | with_reducible exact h_pba _
    | with_reducible exact h_CHN_PERR _
    | with_reducible apply storeReg_regs
    | with_reducible apply logError_regs
    | with_reducible apply setBitF_regs
    | with_reducible apply srfEnable_regs
    | split

theorem execCmpEnable_regs {W0 : Nat → Prop} {r0 : State} (v : Word) (s : State) (h_pba : ∀ k, W0 (0x38000 + 4 * (k % 64))) (h_GLB_ERRLOG : W0 R.GLB_ERRLOG) (h_GLB_ERRINFO : W0 R.GLB_ERRINFO) (h_GLB_EVTOVF : W0 R.GLB_EVTOVF) (h_QUE_STAT : ∀ i, W0 (R.QUE_STAT i)) (h_QUE_RET : ∀ i, W0 (R.QUE_RET i)) (h_SRF_STAT : W0 R.SRF_STAT) (h_SRF_FREEPG : W0 R.SRF_FREEPG) (h_CMP_CTL : W0 R.CMP_CTL) (h_CHN_PERR : ∀ i, W0 (R.CHN_PERR i)) {t0 : State} (h0 : RegsBut W0 r0 s)
    (ht : execCmpEnable v s = .next t0) : RegsBut W0 r0 t0 := by
  unfold execCmpEnable fieldWrite at ht
  injection ht with ht
  subst ht
  with_reducible refine hostWrite_frame (P := RegsBut W0 r0) (by decide) (by decide) ?_ (fun c => ?_) ?_
  on_goal 3 => rw [regEffect_0b _ _ _ (by decide)]
  repeat' first
    | with_reducible assumption
    | with_reducible exact h_pba _
    | with_reducible exact h_QUE_STAT _
    | with_reducible exact h_QUE_RET _
    | with_reducible exact h_CHN_PERR _
    | with_reducible apply storeReg_regs
    | with_reducible apply logError_regs
    | with_reducible apply setBitF_regs
    | with_reducible apply engineStop_regs
    | split

theorem execCmpDisable_regs {W0 : Nat → Prop} {r0 : State} (v : Word) (s : State) (h_pba : ∀ k, W0 (0x38000 + 4 * (k % 64))) (h_GLB_ERRLOG : W0 R.GLB_ERRLOG) (h_GLB_ERRINFO : W0 R.GLB_ERRINFO) (h_GLB_EVTOVF : W0 R.GLB_EVTOVF) (h_QUE_STAT : ∀ i, W0 (R.QUE_STAT i)) (h_QUE_RET : ∀ i, W0 (R.QUE_RET i)) (h_SRF_STAT : W0 R.SRF_STAT) (h_SRF_FREEPG : W0 R.SRF_FREEPG) (h_CMP_CTL : W0 R.CMP_CTL) (h_CHN_PERR : ∀ i, W0 (R.CHN_PERR i)) {t0 : State} (h0 : RegsBut W0 r0 s)
    (ht : execCmpDisable v s = .next t0) : RegsBut W0 r0 t0 := by
  unfold execCmpDisable fieldWrite at ht
  injection ht with ht
  subst ht
  with_reducible refine hostWrite_frame (P := RegsBut W0 r0) (by decide) (by decide) ?_ (fun c => ?_) ?_
  on_goal 3 => rw [regEffect_0b _ _ _ (by decide)]
  repeat' first
    | with_reducible assumption
    | with_reducible exact h_pba _
    | with_reducible exact h_QUE_STAT _
    | with_reducible exact h_QUE_RET _
    | with_reducible exact h_CHN_PERR _
    | with_reducible apply storeReg_regs
    | with_reducible apply logError_regs
    | with_reducible apply setBitF_regs
    | with_reducible apply engineStop_regs
    | split

theorem execCommitGo_regs {W0 : Nat → Prop} {r0 : State} (dt : Nat) (s : State) (h_pba : ∀ k, W0 (0x38000 + 4 * (k % 64))) (h_GLB_ERRLOG : W0 R.GLB_ERRLOG) (h_GLB_ERRINFO : W0 R.GLB_ERRINFO) (h_GLB_EVTOVF : W0 R.GLB_EVTOVF) (h_QUE_STAT : ∀ i, W0 (R.QUE_STAT i)) (h_QUE_RET : ∀ i, W0 (R.QUE_RET i)) (h_SOR_GSTAT : W0 R.SOR_GSTAT) (h_SRF_STAT : W0 R.SRF_STAT) (h_SRF_FREEPG : W0 R.SRF_FREEPG) (h_SRF_PFSTAT : W0 R.SRF_PFSTAT) (h_SRF_PFLAST : W0 R.SRF_PFLAST) (h_SRF_TCMISS : W0 R.SRF_TCMISS) (h_FRT_CTL : W0 R.FRT_CTL) (h_FRT_COMMIT : W0 R.FRT_COMMIT) (h_FRT_NEXTLAT : W0 R.FRT_NEXTLAT) (h_FRT_PERNS : W0 R.FRT_PERNS) (h_FRT_PERFRAC : W0 R.FRT_PERFRAC) (h_FRT_LAT : W0 R.FRT_LAT) (h_FRT_WIN : W0 R.FRT_WIN) (h_FRT_MARGIN : W0 R.FRT_MARGIN) (h_FRT_EFRAME : W0 R.FRT_EFRAME) (h_FRT_ANCHOR : W0 R.FRT_ANCHOR) (h_FRT_MSTAT : W0 R.FRT_MSTAT) (h_CHN_PERR : ∀ i, W0 (R.CHN_PERR i)) (h_TIM_PGCFG : ∀ i, W0 (R.TIM_PGCFG i)) (h_TIM_PGSTART : ∀ i, W0 (R.TIM_PGSTART i)) (h_TIM_PGPER : ∀ i, W0 (R.TIM_PGPER i)) (h_TIM_PGPERF : ∀ i, W0 (R.TIM_PGPERF i)) (h_TIM_PGSTAT : ∀ i, W0 (R.TIM_PGSTAT i)) (h_TIM_PGNEXT : ∀ i, W0 (R.TIM_PGNEXT i)) (h_DRC_ECCSTAT : W0 R.DRC_ECCSTAT) (h_DRC_UEADDR : W0 R.DRC_UEADDR) {t0 : State} (h0 : RegsBut W0 r0 s)
    (ht : execCommitGo dt s = .next t0) : RegsBut W0 r0 t0 := by
  unfold execCommitGo fieldWrite at ht
  injection ht with ht
  subst ht
  with_reducible refine hostWrite_frame (P := RegsBut W0 r0) (by decide) (by decide) ?_ (fun c => ?_) ?_
  on_goal 3 => rw [regEffect_0c _ _ _ (by decide)]
  repeat' first
    | with_reducible assumption
    | with_reducible exact h_pba _
    | with_reducible exact h_QUE_STAT _
    | with_reducible exact h_QUE_RET _
    | with_reducible exact h_CHN_PERR _
    | with_reducible exact h_TIM_PGCFG _
    | with_reducible exact h_TIM_PGSTART _
    | with_reducible exact h_TIM_PGPER _
    | with_reducible exact h_TIM_PGPERF _
    | with_reducible exact h_TIM_PGSTAT _
    | with_reducible exact h_TIM_PGNEXT _
    | with_reducible apply storeReg_regs
    | with_reducible apply logError_regs
    | with_reducible apply setBitF_regs
    | with_reducible apply effectFrt_regs
    | with_reducible apply advance_regs

theorem execFrtEnable_regs {W0 : Nat → Prop} {r0 : State} (dt : Nat) (v : Word) (s : State) (h_pba : ∀ k, W0 (0x38000 + 4 * (k % 64))) (h_GLB_ERRLOG : W0 R.GLB_ERRLOG) (h_GLB_ERRINFO : W0 R.GLB_ERRINFO) (h_GLB_EVTOVF : W0 R.GLB_EVTOVF) (h_QUE_STAT : ∀ i, W0 (R.QUE_STAT i)) (h_QUE_RET : ∀ i, W0 (R.QUE_RET i)) (h_SOR_GSTAT : W0 R.SOR_GSTAT) (h_SRF_STAT : W0 R.SRF_STAT) (h_SRF_FREEPG : W0 R.SRF_FREEPG) (h_SRF_PFSTAT : W0 R.SRF_PFSTAT) (h_SRF_PFLAST : W0 R.SRF_PFLAST) (h_SRF_TCMISS : W0 R.SRF_TCMISS) (h_FRT_CTL : W0 R.FRT_CTL) (h_FRT_COMMIT : W0 R.FRT_COMMIT) (h_FRT_NEXTLAT : W0 R.FRT_NEXTLAT) (h_FRT_PERNS : W0 R.FRT_PERNS) (h_FRT_PERFRAC : W0 R.FRT_PERFRAC) (h_FRT_LAT : W0 R.FRT_LAT) (h_FRT_WIN : W0 R.FRT_WIN) (h_FRT_MARGIN : W0 R.FRT_MARGIN) (h_FRT_EFRAME : W0 R.FRT_EFRAME) (h_FRT_ANCHOR : W0 R.FRT_ANCHOR) (h_FRT_MSTAT : W0 R.FRT_MSTAT) (h_CHN_PERR : ∀ i, W0 (R.CHN_PERR i)) (h_TIM_PGCFG : ∀ i, W0 (R.TIM_PGCFG i)) (h_TIM_PGSTART : ∀ i, W0 (R.TIM_PGSTART i)) (h_TIM_PGPER : ∀ i, W0 (R.TIM_PGPER i)) (h_TIM_PGPERF : ∀ i, W0 (R.TIM_PGPERF i)) (h_TIM_PGSTAT : ∀ i, W0 (R.TIM_PGSTAT i)) (h_TIM_PGNEXT : ∀ i, W0 (R.TIM_PGNEXT i)) (h_DRC_ECCSTAT : W0 R.DRC_ECCSTAT) (h_DRC_UEADDR : W0 R.DRC_UEADDR) {t0 : State} (h0 : RegsBut W0 r0 s)
    (ht : execFrtEnable dt v s = .next t0) : RegsBut W0 r0 t0 := by
  unfold execFrtEnable fieldWrite at ht
  injection ht with ht
  subst ht
  with_reducible refine hostWrite_frame (P := RegsBut W0 r0) (by decide) (by decide) ?_ (fun c => ?_) ?_
  on_goal 3 => rw [regEffect_0c _ _ _ (by decide)]
  repeat' first
    | with_reducible assumption
    | with_reducible exact h_pba _
    | with_reducible exact h_QUE_STAT _
    | with_reducible exact h_QUE_RET _
    | with_reducible exact h_CHN_PERR _
    | with_reducible exact h_TIM_PGCFG _
    | with_reducible exact h_TIM_PGSTART _
    | with_reducible exact h_TIM_PGPER _
    | with_reducible exact h_TIM_PGPERF _
    | with_reducible exact h_TIM_PGSTAT _
    | with_reducible exact h_TIM_PGNEXT _
    | with_reducible apply storeReg_regs
    | with_reducible apply logError_regs
    | with_reducible apply setBitF_regs
    | with_reducible apply effectFrt_regs
    | with_reducible apply advance_regs

theorem execFrtDisable_regs {W0 : Nat → Prop} {r0 : State} (dt : Nat) (v : Word) (s : State) (h_pba : ∀ k, W0 (0x38000 + 4 * (k % 64))) (h_GLB_ERRLOG : W0 R.GLB_ERRLOG) (h_GLB_ERRINFO : W0 R.GLB_ERRINFO) (h_GLB_EVTOVF : W0 R.GLB_EVTOVF) (h_QUE_STAT : ∀ i, W0 (R.QUE_STAT i)) (h_QUE_RET : ∀ i, W0 (R.QUE_RET i)) (h_SOR_GSTAT : W0 R.SOR_GSTAT) (h_SRF_STAT : W0 R.SRF_STAT) (h_SRF_FREEPG : W0 R.SRF_FREEPG) (h_SRF_PFSTAT : W0 R.SRF_PFSTAT) (h_SRF_PFLAST : W0 R.SRF_PFLAST) (h_SRF_TCMISS : W0 R.SRF_TCMISS) (h_FRT_CTL : W0 R.FRT_CTL) (h_FRT_COMMIT : W0 R.FRT_COMMIT) (h_FRT_NEXTLAT : W0 R.FRT_NEXTLAT) (h_FRT_PERNS : W0 R.FRT_PERNS) (h_FRT_PERFRAC : W0 R.FRT_PERFRAC) (h_FRT_LAT : W0 R.FRT_LAT) (h_FRT_WIN : W0 R.FRT_WIN) (h_FRT_MARGIN : W0 R.FRT_MARGIN) (h_FRT_EFRAME : W0 R.FRT_EFRAME) (h_FRT_ANCHOR : W0 R.FRT_ANCHOR) (h_FRT_MSTAT : W0 R.FRT_MSTAT) (h_CHN_PERR : ∀ i, W0 (R.CHN_PERR i)) (h_TIM_PGCFG : ∀ i, W0 (R.TIM_PGCFG i)) (h_TIM_PGSTART : ∀ i, W0 (R.TIM_PGSTART i)) (h_TIM_PGPER : ∀ i, W0 (R.TIM_PGPER i)) (h_TIM_PGPERF : ∀ i, W0 (R.TIM_PGPERF i)) (h_TIM_PGSTAT : ∀ i, W0 (R.TIM_PGSTAT i)) (h_TIM_PGNEXT : ∀ i, W0 (R.TIM_PGNEXT i)) (h_DRC_ECCSTAT : W0 R.DRC_ECCSTAT) (h_DRC_UEADDR : W0 R.DRC_UEADDR) {t0 : State} (h0 : RegsBut W0 r0 s)
    (ht : execFrtDisable dt v s = .next t0) : RegsBut W0 r0 t0 := by
  unfold execFrtDisable fieldWrite at ht
  injection ht with ht
  subst ht
  with_reducible refine hostWrite_frame (P := RegsBut W0 r0) (by decide) (by decide) ?_ (fun c => ?_) ?_
  on_goal 3 => rw [regEffect_0c _ _ _ (by decide)]
  repeat' first
    | with_reducible assumption
    | with_reducible exact h_pba _
    | with_reducible exact h_QUE_STAT _
    | with_reducible exact h_QUE_RET _
    | with_reducible exact h_CHN_PERR _
    | with_reducible exact h_TIM_PGCFG _
    | with_reducible exact h_TIM_PGSTART _
    | with_reducible exact h_TIM_PGPER _
    | with_reducible exact h_TIM_PGPERF _
    | with_reducible exact h_TIM_PGSTAT _
    | with_reducible exact h_TIM_PGNEXT _
    | with_reducible apply storeReg_regs
    | with_reducible apply logError_regs
    | with_reducible apply setBitF_regs
    | with_reducible apply effectFrt_regs
    | with_reducible apply advance_regs

theorem execInboxEnable_regs {W0 : Nat → Prop} {r0 : State} (v : Word) (s : State) (h_pba : ∀ k, W0 (0x38000 + 4 * (k % 64))) (h_GLB_ERRLOG : W0 R.GLB_ERRLOG) (h_GLB_ERRINFO : W0 R.GLB_ERRINFO) (h_GLB_EVTOVF : W0 R.GLB_EVTOVF) (h_CHN_INBOX : W0 R.CHN_INBOX) (h_CHN_INBOXIDX : W0 R.CHN_INBOXIDX) (h_CHN_PERR : ∀ i, W0 (R.CHN_PERR i)) {t0 : State} (h0 : RegsBut W0 r0 s)
    (ht : execInboxEnable v s = .next t0) : RegsBut W0 r0 t0 := by
  unfold execInboxEnable fieldWrite at ht
  injection ht with ht
  subst ht
  with_reducible refine hostWrite_frame (P := RegsBut W0 r0) (by decide) (by decide) ?_ (fun c => ?_) ?_
  on_goal 3 => rw [regEffect_0d _ _ _ (by decide)]
  repeat' first
    | with_reducible assumption
    | with_reducible exact h_pba _
    | with_reducible exact h_CHN_PERR _
    | with_reducible apply storeReg_regs
    | with_reducible apply logError_regs
    | with_reducible apply setBitF_regs
    | with_reducible apply setWord_regs
    | split

theorem execInboxRdWrite_regs {W0 : Nat → Prop} {r0 : State} (rd : Nat) (s : State) (h_pba : ∀ k, W0 (0x38000 + 4 * (k % 64))) (h_GLB_ERRLOG : W0 R.GLB_ERRLOG) (h_GLB_ERRINFO : W0 R.GLB_ERRINFO) (h_GLB_EVTOVF : W0 R.GLB_EVTOVF) (h_CHN_INBOXIDX : W0 R.CHN_INBOXIDX) (h_CHN_PERR : ∀ i, W0 (R.CHN_PERR i)) {t0 : State} (h0 : RegsBut W0 r0 s)
    (ht : execInboxRdWrite rd s = .next t0) : RegsBut W0 r0 t0 := by
  unfold execInboxRdWrite fieldWrite at ht
  injection ht with ht
  subst ht
  with_reducible refine hostWrite_frame (P := RegsBut W0 r0) (by decide) (by decide) ?_ (fun c => ?_) ?_
  on_goal 3 => rw [regEffect_0d _ _ _ (by decide), if_neg (fun h => absurd h.1 (by decide))]
  repeat' first
    | with_reducible assumption
    | with_reducible exact h_pba _
    | with_reducible exact h_CHN_PERR _
    | with_reducible apply storeReg_regs
    | with_reducible apply logError_regs
    | with_reducible apply setBitF_regs
    | split

theorem execPortEnable_regs {W0 : Nat → Prop} {r0 : State} (p : Nat) (v : Word) (s : State) (h_pba : ∀ k, W0 (0x38000 + 4 * (k % 64))) (h_GLB_ERRLOG : W0 R.GLB_ERRLOG) (h_GLB_ERRINFO : W0 R.GLB_ERRINFO) (h_GLB_EVTOVF : W0 R.GLB_EVTOVF) (h_CHN_PERR : ∀ i, W0 (R.CHN_PERR i)) (h_LNK_PCTL : ∀ i, W0 (R.LNK_PCTL i)) (h_LNK_PSTAT : ∀ i, W0 (R.LNK_PSTAT i)) (h_LNK_PMAP : ∀ i, W0 (R.LNK_PMAP i)) (h_LNK_PCNT : ∀ i, W0 (R.LNK_PCNT i)) (h_LNK_LCTL : ∀ i, W0 (R.LNK_LCTL i)) (h_LNK_LSTAT : ∀ i, W0 (R.LNK_LSTAT i)) (h_LNK_LPRBS : ∀ i, W0 (R.LNK_LPRBS i)) (h_TAN_TSTAT : W0 R.TAN_TSTAT) (h_CAL_STAT : W0 R.CAL_STAT) {t0 : State} (h0 : RegsBut W0 r0 s)
    (ht : execPortEnable p v s = .next t0) : RegsBut W0 r0 t0 := by
  unfold execPortEnable indexWrite at ht
  injection ht with ht
  subst ht
  split
  on_goal 2 => exact h0
  rename_i hi
  with_reducible refine hostWrite_frame (P := RegsBut W0 r0) (by dsimp only; omega) (by dsimp only; omega) ?_ (fun c => ?_) ?_
  on_goal 3 => rw [regEffect_0e _ _ _ (by dsimp only; omega)]
  repeat' first
    | with_reducible assumption
    | with_reducible exact h_pba _
    | with_reducible exact h_CHN_PERR _
    | with_reducible exact h_LNK_PCTL _
    | with_reducible exact h_LNK_PSTAT _
    | with_reducible exact h_LNK_PMAP _
    | with_reducible exact h_LNK_PCNT _
    | with_reducible exact h_LNK_LCTL _
    | with_reducible exact h_LNK_LSTAT _
    | with_reducible exact h_LNK_LPRBS _
    | with_reducible apply storeReg_regs
    | with_reducible apply logError_regs
    | with_reducible apply setBitF_regs
    | with_reducible apply effectLnk_regs

theorem execPortDisable_regs {W0 : Nat → Prop} {r0 : State} (p : Nat) (v : Word) (s : State) (h_pba : ∀ k, W0 (0x38000 + 4 * (k % 64))) (h_GLB_ERRLOG : W0 R.GLB_ERRLOG) (h_GLB_ERRINFO : W0 R.GLB_ERRINFO) (h_GLB_EVTOVF : W0 R.GLB_EVTOVF) (h_CHN_PERR : ∀ i, W0 (R.CHN_PERR i)) (h_LNK_PCTL : ∀ i, W0 (R.LNK_PCTL i)) (h_LNK_PSTAT : ∀ i, W0 (R.LNK_PSTAT i)) (h_LNK_PMAP : ∀ i, W0 (R.LNK_PMAP i)) (h_LNK_PCNT : ∀ i, W0 (R.LNK_PCNT i)) (h_LNK_LCTL : ∀ i, W0 (R.LNK_LCTL i)) (h_LNK_LSTAT : ∀ i, W0 (R.LNK_LSTAT i)) (h_LNK_LPRBS : ∀ i, W0 (R.LNK_LPRBS i)) (h_TAN_TSTAT : W0 R.TAN_TSTAT) (h_CAL_STAT : W0 R.CAL_STAT) {t0 : State} (h0 : RegsBut W0 r0 s)
    (ht : execPortDisable p v s = .next t0) : RegsBut W0 r0 t0 := by
  unfold execPortDisable indexWrite at ht
  injection ht with ht
  subst ht
  split
  on_goal 2 => exact h0
  rename_i hi
  with_reducible refine hostWrite_frame (P := RegsBut W0 r0) (by dsimp only; omega) (by dsimp only; omega) ?_ (fun c => ?_) ?_
  on_goal 3 => rw [regEffect_0e _ _ _ (by dsimp only; omega)]
  repeat' first
    | with_reducible assumption
    | with_reducible exact h_pba _
    | with_reducible exact h_CHN_PERR _
    | with_reducible exact h_LNK_PCTL _
    | with_reducible exact h_LNK_PSTAT _
    | with_reducible exact h_LNK_PMAP _
    | with_reducible exact h_LNK_PCNT _
    | with_reducible exact h_LNK_LCTL _
    | with_reducible exact h_LNK_LSTAT _
    | with_reducible exact h_LNK_LPRBS _
    | with_reducible apply storeReg_regs
    | with_reducible apply logError_regs
    | with_reducible apply setBitF_regs
    | with_reducible apply effectLnk_regs

theorem execPortRetrain_regs {W0 : Nat → Prop} {r0 : State} (p : Nat) (v : Word) (s : State) (h_pba : ∀ k, W0 (0x38000 + 4 * (k % 64))) (h_GLB_ERRLOG : W0 R.GLB_ERRLOG) (h_GLB_ERRINFO : W0 R.GLB_ERRINFO) (h_GLB_EVTOVF : W0 R.GLB_EVTOVF) (h_CHN_PERR : ∀ i, W0 (R.CHN_PERR i)) (h_LNK_PCTL : ∀ i, W0 (R.LNK_PCTL i)) (h_LNK_PSTAT : ∀ i, W0 (R.LNK_PSTAT i)) (h_LNK_PMAP : ∀ i, W0 (R.LNK_PMAP i)) (h_LNK_PCNT : ∀ i, W0 (R.LNK_PCNT i)) (h_LNK_LCTL : ∀ i, W0 (R.LNK_LCTL i)) (h_LNK_LSTAT : ∀ i, W0 (R.LNK_LSTAT i)) (h_LNK_LPRBS : ∀ i, W0 (R.LNK_LPRBS i)) (h_TAN_TSTAT : W0 R.TAN_TSTAT) (h_CAL_STAT : W0 R.CAL_STAT) {t0 : State} (h0 : RegsBut W0 r0 s)
    (ht : execPortRetrain p v s = .next t0) : RegsBut W0 r0 t0 := by
  unfold execPortRetrain indexWrite at ht
  injection ht with ht
  subst ht
  split
  on_goal 2 => exact h0
  rename_i hi
  with_reducible refine hostWrite_frame (P := RegsBut W0 r0) (by dsimp only; omega) (by dsimp only; omega) ?_ (fun c => ?_) ?_
  on_goal 3 => rw [regEffect_0e _ _ _ (by dsimp only; omega)]
  repeat' first
    | with_reducible assumption
    | with_reducible exact h_pba _
    | with_reducible exact h_CHN_PERR _
    | with_reducible exact h_LNK_PCTL _
    | with_reducible exact h_LNK_PSTAT _
    | with_reducible exact h_LNK_PMAP _
    | with_reducible exact h_LNK_PCNT _
    | with_reducible exact h_LNK_LCTL _
    | with_reducible exact h_LNK_LSTAT _
    | with_reducible exact h_LNK_LPRBS _
    | with_reducible apply storeReg_regs
    | with_reducible apply logError_regs
    | with_reducible apply setBitF_regs
    | with_reducible apply effectLnk_regs

theorem execPortTestEnter_regs {W0 : Nat → Prop} {r0 : State} (p : Nat) (v : Word) (s : State) (h_pba : ∀ k, W0 (0x38000 + 4 * (k % 64))) (h_GLB_ERRLOG : W0 R.GLB_ERRLOG) (h_GLB_ERRINFO : W0 R.GLB_ERRINFO) (h_GLB_EVTOVF : W0 R.GLB_EVTOVF) (h_CHN_PERR : ∀ i, W0 (R.CHN_PERR i)) (h_LNK_PCTL : ∀ i, W0 (R.LNK_PCTL i)) (h_LNK_PSTAT : ∀ i, W0 (R.LNK_PSTAT i)) (h_LNK_PMAP : ∀ i, W0 (R.LNK_PMAP i)) (h_LNK_PCNT : ∀ i, W0 (R.LNK_PCNT i)) (h_LNK_LCTL : ∀ i, W0 (R.LNK_LCTL i)) (h_LNK_LSTAT : ∀ i, W0 (R.LNK_LSTAT i)) (h_LNK_LPRBS : ∀ i, W0 (R.LNK_LPRBS i)) (h_TAN_TSTAT : W0 R.TAN_TSTAT) (h_CAL_STAT : W0 R.CAL_STAT) {t0 : State} (h0 : RegsBut W0 r0 s)
    (ht : execPortTestEnter p v s = .next t0) : RegsBut W0 r0 t0 := by
  unfold execPortTestEnter indexWrite at ht
  injection ht with ht
  subst ht
  split
  on_goal 2 => exact h0
  rename_i hi
  with_reducible refine hostWrite_frame (P := RegsBut W0 r0) (by dsimp only; omega) (by dsimp only; omega) ?_ (fun c => ?_) ?_
  on_goal 3 => rw [regEffect_0e _ _ _ (by dsimp only; omega)]
  repeat' first
    | with_reducible assumption
    | with_reducible exact h_pba _
    | with_reducible exact h_CHN_PERR _
    | with_reducible exact h_LNK_PCTL _
    | with_reducible exact h_LNK_PSTAT _
    | with_reducible exact h_LNK_PMAP _
    | with_reducible exact h_LNK_PCNT _
    | with_reducible exact h_LNK_LCTL _
    | with_reducible exact h_LNK_LSTAT _
    | with_reducible exact h_LNK_LPRBS _
    | with_reducible apply storeReg_regs
    | with_reducible apply logError_regs
    | with_reducible apply setBitF_regs
    | with_reducible apply effectLnk_regs

theorem execPortTestExit_regs {W0 : Nat → Prop} {r0 : State} (p : Nat) (v : Word) (s : State) (h_pba : ∀ k, W0 (0x38000 + 4 * (k % 64))) (h_GLB_ERRLOG : W0 R.GLB_ERRLOG) (h_GLB_ERRINFO : W0 R.GLB_ERRINFO) (h_GLB_EVTOVF : W0 R.GLB_EVTOVF) (h_CHN_PERR : ∀ i, W0 (R.CHN_PERR i)) (h_LNK_PCTL : ∀ i, W0 (R.LNK_PCTL i)) (h_LNK_PSTAT : ∀ i, W0 (R.LNK_PSTAT i)) (h_LNK_PMAP : ∀ i, W0 (R.LNK_PMAP i)) (h_LNK_PCNT : ∀ i, W0 (R.LNK_PCNT i)) (h_LNK_LCTL : ∀ i, W0 (R.LNK_LCTL i)) (h_LNK_LSTAT : ∀ i, W0 (R.LNK_LSTAT i)) (h_LNK_LPRBS : ∀ i, W0 (R.LNK_LPRBS i)) (h_TAN_TSTAT : W0 R.TAN_TSTAT) (h_CAL_STAT : W0 R.CAL_STAT) {t0 : State} (h0 : RegsBut W0 r0 s)
    (ht : execPortTestExit p v s = .next t0) : RegsBut W0 r0 t0 := by
  unfold execPortTestExit indexWrite at ht
  injection ht with ht
  subst ht
  split
  on_goal 2 => exact h0
  rename_i hi
  with_reducible refine hostWrite_frame (P := RegsBut W0 r0) (by dsimp only; omega) (by dsimp only; omega) ?_ (fun c => ?_) ?_
  on_goal 3 => rw [regEffect_0e _ _ _ (by dsimp only; omega)]
  repeat' first
    | with_reducible assumption
    | with_reducible exact h_pba _
    | with_reducible exact h_CHN_PERR _
    | with_reducible exact h_LNK_PCTL _
    | with_reducible exact h_LNK_PSTAT _
    | with_reducible exact h_LNK_PMAP _
    | with_reducible exact h_LNK_PCNT _
    | with_reducible exact h_LNK_LCTL _
    | with_reducible exact h_LNK_LSTAT _
    | with_reducible exact h_LNK_LPRBS _
    | with_reducible apply storeReg_regs
    | with_reducible apply logError_regs
    | with_reducible apply setBitF_regs
    | with_reducible apply effectLnk_regs

theorem execPrbsInject_regs {W0 : Nat → Prop} {r0 : State} (i : Nat) (v : Word) (s : State) (h_pba : ∀ k, W0 (0x38000 + 4 * (k % 64))) (h_GLB_ERRLOG : W0 R.GLB_ERRLOG) (h_GLB_ERRINFO : W0 R.GLB_ERRINFO) (h_GLB_EVTOVF : W0 R.GLB_EVTOVF) (h_CHN_PERR : ∀ i, W0 (R.CHN_PERR i)) (h_LNK_PSTAT : ∀ i, W0 (R.LNK_PSTAT i)) (h_LNK_PMAP : ∀ i, W0 (R.LNK_PMAP i)) (h_LNK_PCNT : ∀ i, W0 (R.LNK_PCNT i)) (h_LNK_LCTL : ∀ i, W0 (R.LNK_LCTL i)) (h_LNK_LSTAT : ∀ i, W0 (R.LNK_LSTAT i)) (h_LNK_LPRBS : ∀ i, W0 (R.LNK_LPRBS i)) (h_TAN_TSTAT : W0 R.TAN_TSTAT) (h_CAL_STAT : W0 R.CAL_STAT) {t0 : State} (h0 : RegsBut W0 r0 s)
    (ht : execPrbsInject i v s = .next t0) : RegsBut W0 r0 t0 := by
  unfold execPrbsInject indexWrite at ht
  injection ht with ht
  subst ht
  split
  on_goal 2 => exact h0
  rename_i hi
  with_reducible refine hostWrite_frame (P := RegsBut W0 r0) (by dsimp only; omega) (by dsimp only; omega) ?_ (fun c => ?_) ?_
  on_goal 3 => rw [regEffect_0e _ _ _ (by dsimp only; omega)]
  repeat' first
    | with_reducible assumption
    | with_reducible exact h_pba _
    | with_reducible exact h_CHN_PERR _
    | with_reducible exact h_LNK_PSTAT _
    | with_reducible exact h_LNK_PMAP _
    | with_reducible exact h_LNK_PCNT _
    | with_reducible exact h_LNK_LCTL _
    | with_reducible exact h_LNK_LSTAT _
    | with_reducible exact h_LNK_LPRBS _
    | with_reducible apply storeReg_regs
    | with_reducible apply logError_regs
    | with_reducible apply setBitF_regs
    | with_reducible apply effectLnk_regs

theorem execTimeAdjStep_regs {W0 : Nat → Prop} {r0 : State} (step : Nat) (s : State) (h_pba : ∀ k, W0 (0x38000 + 4 * (k % 64))) (h_GLB_ERRLOG : W0 R.GLB_ERRLOG) (h_GLB_ERRINFO : W0 R.GLB_ERRINFO) (h_GLB_EVTOVF : W0 R.GLB_EVTOVF) (h_SOR_GSTAT : W0 R.SOR_GSTAT) (h_CHN_PERR : ∀ i, W0 (R.CHN_PERR i)) (h_TIM_STAT : W0 R.TIM_STAT) (h_TIM_ADJ : W0 R.TIM_ADJ) (h_TIM_REFCFG : W0 R.TIM_REFCFG) (h_TIM_PGCFG : ∀ i, W0 (R.TIM_PGCFG i)) (h_TIM_PGSTAT : ∀ i, W0 (R.TIM_PGSTAT i)) (h_TIM_PGNEXT : ∀ i, W0 (R.TIM_PGNEXT i)) (h_TIM_CAPCFG : ∀ i, W0 (R.TIM_CAPCFG i)) {t0 : State} (h0 : RegsBut W0 r0 s)
    (ht : execTimeAdjStep step s = .next t0) : RegsBut W0 r0 t0 := by
  unfold execTimeAdjStep fieldWrite at ht
  injection ht with ht
  subst ht
  with_reducible refine hostWrite_frame (P := RegsBut W0 r0) (by decide) (by decide) ?_ (fun c => ?_) ?_
  on_goal 3 => rw [regEffect_0f _ _ _ (by decide)]
  repeat' first
    | with_reducible assumption
    | with_reducible exact h_pba _
    | with_reducible exact h_CHN_PERR _
    | with_reducible exact h_TIM_PGCFG _
    | with_reducible exact h_TIM_PGSTAT _
    | with_reducible exact h_TIM_PGNEXT _
    | with_reducible exact h_TIM_CAPCFG _
    | with_reducible apply storeReg_regs
    | with_reducible apply logError_regs
    | with_reducible apply setBitF_regs
    | with_reducible apply effectTim_regs

theorem execRefArm_regs {W0 : Nat → Prop} {r0 : State} (v : Word) (s : State) (h_pba : ∀ k, W0 (0x38000 + 4 * (k % 64))) (h_GLB_ERRLOG : W0 R.GLB_ERRLOG) (h_GLB_ERRINFO : W0 R.GLB_ERRINFO) (h_GLB_EVTOVF : W0 R.GLB_EVTOVF) (h_SOR_GSTAT : W0 R.SOR_GSTAT) (h_CHN_PERR : ∀ i, W0 (R.CHN_PERR i)) (h_TIM_STAT : W0 R.TIM_STAT) (h_TIM_REFCFG : W0 R.TIM_REFCFG) (h_TIM_PGCFG : ∀ i, W0 (R.TIM_PGCFG i)) (h_TIM_PGSTAT : ∀ i, W0 (R.TIM_PGSTAT i)) (h_TIM_PGNEXT : ∀ i, W0 (R.TIM_PGNEXT i)) (h_TIM_CAPCFG : ∀ i, W0 (R.TIM_CAPCFG i)) {t0 : State} (h0 : RegsBut W0 r0 s)
    (ht : execRefArm v s = .next t0) : RegsBut W0 r0 t0 := by
  unfold execRefArm fieldWrite at ht
  injection ht with ht
  subst ht
  with_reducible refine hostWrite_frame (P := RegsBut W0 r0) (by decide) (by decide) ?_ (fun c => ?_) ?_
  on_goal 3 => rw [regEffect_0f _ _ _ (by decide)]
  repeat' first
    | with_reducible assumption
    | with_reducible exact h_pba _
    | with_reducible exact h_CHN_PERR _
    | with_reducible exact h_TIM_PGCFG _
    | with_reducible exact h_TIM_PGSTAT _
    | with_reducible exact h_TIM_PGNEXT _
    | with_reducible exact h_TIM_CAPCFG _
    | with_reducible apply storeReg_regs
    | with_reducible apply logError_regs
    | with_reducible apply setBitF_regs
    | with_reducible apply effectTim_regs

theorem execGeneratorEnable_regs {W0 : Nat → Prop} {r0 : State} (dt : Nat) (g : Nat) (v : Word) (s : State) (h_pba : ∀ k, W0 (0x38000 + 4 * (k % 64))) (h_GLB_ERRLOG : W0 R.GLB_ERRLOG) (h_GLB_ERRINFO : W0 R.GLB_ERRINFO) (h_GLB_EVTOVF : W0 R.GLB_EVTOVF) (h_SOR_GSTAT : W0 R.SOR_GSTAT) (h_CHN_PERR : ∀ i, W0 (R.CHN_PERR i)) (h_TIM_STAT : W0 R.TIM_STAT) (h_TIM_REFCFG : W0 R.TIM_REFCFG) (h_TIM_PGCFG : ∀ i, W0 (R.TIM_PGCFG i)) (h_TIM_PGSTAT : ∀ i, W0 (R.TIM_PGSTAT i)) (h_TIM_PGNEXT : ∀ i, W0 (R.TIM_PGNEXT i)) (h_TIM_CAPCFG : ∀ i, W0 (R.TIM_CAPCFG i)) {t0 : State} (h0 : RegsBut W0 r0 s)
    (ht : execGeneratorEnable dt g v s = .next t0) : RegsBut W0 r0 t0 := by
  unfold execGeneratorEnable indexWrite at ht
  injection ht with ht
  subst ht
  split
  on_goal 2 => with_reducible apply advance_regs <;> with_reducible assumption
  rename_i hi
  with_reducible refine hostWrite_frame (P := RegsBut W0 r0) (by dsimp only; omega) (by dsimp only; omega) ?_ (fun c => ?_) ?_
  on_goal 3 => rw [regEffect_0f _ _ _ (by dsimp only; omega)]
  repeat' first
    | with_reducible assumption
    | with_reducible exact h_pba _
    | with_reducible exact h_CHN_PERR _
    | with_reducible exact h_TIM_PGCFG _
    | with_reducible exact h_TIM_PGSTAT _
    | with_reducible exact h_TIM_PGNEXT _
    | with_reducible exact h_TIM_CAPCFG _
    | with_reducible apply storeReg_regs
    | with_reducible apply logError_regs
    | with_reducible apply setBitF_regs
    | with_reducible apply effectTim_regs
    | with_reducible apply advance_regs

theorem execGeneratorDisable_regs {W0 : Nat → Prop} {r0 : State} (dt : Nat) (g : Nat) (v : Word) (s : State) (h_pba : ∀ k, W0 (0x38000 + 4 * (k % 64))) (h_GLB_ERRLOG : W0 R.GLB_ERRLOG) (h_GLB_ERRINFO : W0 R.GLB_ERRINFO) (h_GLB_EVTOVF : W0 R.GLB_EVTOVF) (h_SOR_GSTAT : W0 R.SOR_GSTAT) (h_CHN_PERR : ∀ i, W0 (R.CHN_PERR i)) (h_TIM_STAT : W0 R.TIM_STAT) (h_TIM_REFCFG : W0 R.TIM_REFCFG) (h_TIM_PGCFG : ∀ i, W0 (R.TIM_PGCFG i)) (h_TIM_PGSTAT : ∀ i, W0 (R.TIM_PGSTAT i)) (h_TIM_PGNEXT : ∀ i, W0 (R.TIM_PGNEXT i)) (h_TIM_CAPCFG : ∀ i, W0 (R.TIM_CAPCFG i)) {t0 : State} (h0 : RegsBut W0 r0 s)
    (ht : execGeneratorDisable dt g v s = .next t0) : RegsBut W0 r0 t0 := by
  unfold execGeneratorDisable indexWrite at ht
  injection ht with ht
  subst ht
  split
  on_goal 2 => with_reducible apply advance_regs <;> with_reducible assumption
  rename_i hi
  with_reducible refine hostWrite_frame (P := RegsBut W0 r0) (by dsimp only; omega) (by dsimp only; omega) ?_ (fun c => ?_) ?_
  on_goal 3 => rw [regEffect_0f _ _ _ (by dsimp only; omega)]
  repeat' first
    | with_reducible assumption
    | with_reducible exact h_pba _
    | with_reducible exact h_CHN_PERR _
    | with_reducible exact h_TIM_PGCFG _
    | with_reducible exact h_TIM_PGSTAT _
    | with_reducible exact h_TIM_PGNEXT _
    | with_reducible exact h_TIM_CAPCFG _
    | with_reducible apply storeReg_regs
    | with_reducible apply logError_regs
    | with_reducible apply setBitF_regs
    | with_reducible apply effectTim_regs
    | with_reducible apply advance_regs

theorem execCadgenWrite_regs {W0 : Nat → Prop} {r0 : State} (g : Nat) (v : Word) (s : State) (h_pba : ∀ k, W0 (0x38000 + 4 * (k % 64))) (h_GLB_ERRLOG : W0 R.GLB_ERRLOG) (h_GLB_ERRINFO : W0 R.GLB_ERRINFO) (h_GLB_EVTOVF : W0 R.GLB_EVTOVF) (h_SOR_GSTAT : W0 R.SOR_GSTAT) (h_CHN_PERR : ∀ i, W0 (R.CHN_PERR i)) (h_TIM_CFG : W0 R.TIM_CFG) (h_TIM_STAT : W0 R.TIM_STAT) (h_TIM_REFCFG : W0 R.TIM_REFCFG) (h_TIM_PGCFG : ∀ i, W0 (R.TIM_PGCFG i)) (h_TIM_PGSTAT : ∀ i, W0 (R.TIM_PGSTAT i)) (h_TIM_PGNEXT : ∀ i, W0 (R.TIM_PGNEXT i)) (h_TIM_CAPCFG : ∀ i, W0 (R.TIM_CAPCFG i)) {t0 : State} (h0 : RegsBut W0 r0 s)
    (ht : execCadgenWrite g v s = .next t0) : RegsBut W0 r0 t0 := by
  unfold execCadgenWrite fieldWrite at ht
  injection ht with ht
  subst ht
  with_reducible refine hostWrite_frame (P := RegsBut W0 r0) (by decide) (by decide) ?_ (fun c => ?_) ?_
  on_goal 3 => rw [regEffect_0f _ _ _ (by decide)]
  repeat' first
    | with_reducible assumption
    | with_reducible exact h_pba _
    | with_reducible exact h_CHN_PERR _
    | with_reducible exact h_TIM_PGCFG _
    | with_reducible exact h_TIM_PGSTAT _
    | with_reducible exact h_TIM_PGNEXT _
    | with_reducible exact h_TIM_CAPCFG _
    | with_reducible apply storeReg_regs
    | with_reducible apply logError_regs
    | with_reducible apply setBitF_regs
    | with_reducible apply effectTim_regs

theorem execTanEnable_regs {W0 : Nat → Prop} {r0 : State} (v : Word) (s : State) (h_pba : ∀ k, W0 (0x38000 + 4 * (k % 64))) (h_GLB_ERRLOG : W0 R.GLB_ERRLOG) (h_GLB_ERRINFO : W0 R.GLB_ERRINFO) (h_GLB_EVTOVF : W0 R.GLB_EVTOVF) (h_QUE_STAT : ∀ i, W0 (R.QUE_STAT i)) (h_QUE_RET : ∀ i, W0 (R.QUE_RET i)) (h_CHN_PERR : ∀ i, W0 (R.CHN_PERR i)) (h_TIM_PGCFG : ∀ i, W0 (R.TIM_PGCFG i)) (h_TIM_PGSTART : ∀ i, W0 (R.TIM_PGSTART i)) (h_TIM_PGPER : ∀ i, W0 (R.TIM_PGPER i)) (h_TIM_PGPERF : ∀ i, W0 (R.TIM_PGPERF i)) (h_TIM_PGSTAT : ∀ i, W0 (R.TIM_PGSTAT i)) (h_TIM_PGNEXT : ∀ i, W0 (R.TIM_PGNEXT i)) (h_TAN_CFG : W0 R.TAN_CFG) (h_TAN_CLAIM : W0 R.TAN_CLAIM) (h_TAN_STAT : W0 R.TAN_STAT) (h_TAN_SNAPSTAT : W0 R.TAN_SNAPSTAT) {t0 : State} (h0 : RegsBut W0 r0 s)
    (ht : execTanEnable v s = .next t0) : RegsBut W0 r0 t0 := by
  unfold execTanEnable fieldWrite at ht
  injection ht with ht
  subst ht
  with_reducible refine hostWrite_frame (P := RegsBut W0 r0) (by decide) (by decide) ?_ (fun c => ?_) ?_
  on_goal 3 => rw [regEffect_10 _ _ _ (by decide)]
  repeat' first
    | with_reducible assumption
    | with_reducible exact h_pba _
    | with_reducible exact h_QUE_STAT _
    | with_reducible exact h_QUE_RET _
    | with_reducible exact h_CHN_PERR _
    | with_reducible exact h_TIM_PGCFG _
    | with_reducible exact h_TIM_PGSTART _
    | with_reducible exact h_TIM_PGPER _
    | with_reducible exact h_TIM_PGPERF _
    | with_reducible exact h_TIM_PGSTAT _
    | with_reducible exact h_TIM_PGNEXT _
    | with_reducible apply storeReg_regs
    | with_reducible apply logError_regs
    | with_reducible apply setBitF_regs
    | with_reducible apply effectTan_regs

theorem execTanDisable_regs {W0 : Nat → Prop} {r0 : State} (v : Word) (s : State) (h_pba : ∀ k, W0 (0x38000 + 4 * (k % 64))) (h_GLB_ERRLOG : W0 R.GLB_ERRLOG) (h_GLB_ERRINFO : W0 R.GLB_ERRINFO) (h_GLB_EVTOVF : W0 R.GLB_EVTOVF) (h_QUE_STAT : ∀ i, W0 (R.QUE_STAT i)) (h_QUE_RET : ∀ i, W0 (R.QUE_RET i)) (h_CHN_PERR : ∀ i, W0 (R.CHN_PERR i)) (h_TIM_PGCFG : ∀ i, W0 (R.TIM_PGCFG i)) (h_TIM_PGSTART : ∀ i, W0 (R.TIM_PGSTART i)) (h_TIM_PGPER : ∀ i, W0 (R.TIM_PGPER i)) (h_TIM_PGPERF : ∀ i, W0 (R.TIM_PGPERF i)) (h_TIM_PGSTAT : ∀ i, W0 (R.TIM_PGSTAT i)) (h_TIM_PGNEXT : ∀ i, W0 (R.TIM_PGNEXT i)) (h_TAN_CFG : W0 R.TAN_CFG) (h_TAN_CLAIM : W0 R.TAN_CLAIM) (h_TAN_STAT : W0 R.TAN_STAT) (h_TAN_SNAPSTAT : W0 R.TAN_SNAPSTAT) {t0 : State} (h0 : RegsBut W0 r0 s)
    (ht : execTanDisable v s = .next t0) : RegsBut W0 r0 t0 := by
  unfold execTanDisable fieldWrite at ht
  injection ht with ht
  subst ht
  with_reducible refine hostWrite_frame (P := RegsBut W0 r0) (by decide) (by decide) ?_ (fun c => ?_) ?_
  on_goal 3 => rw [regEffect_10 _ _ _ (by decide)]
  repeat' first
    | with_reducible assumption
    | with_reducible exact h_pba _
    | with_reducible exact h_QUE_STAT _
    | with_reducible exact h_QUE_RET _
    | with_reducible exact h_CHN_PERR _
    | with_reducible exact h_TIM_PGCFG _
    | with_reducible exact h_TIM_PGSTART _
    | with_reducible exact h_TIM_PGPER _
    | with_reducible exact h_TIM_PGPERF _
    | with_reducible exact h_TIM_PGSTAT _
    | with_reducible exact h_TIM_PGNEXT _
    | with_reducible apply storeReg_regs
    | with_reducible apply logError_regs
    | with_reducible apply setBitF_regs
    | with_reducible apply effectTan_regs

theorem execTanTake_regs {W0 : Nat → Prop} {r0 : State} (v : Word) (s : State) (h_pba : ∀ k, W0 (0x38000 + 4 * (k % 64))) (h_GLB_ERRLOG : W0 R.GLB_ERRLOG) (h_GLB_ERRINFO : W0 R.GLB_ERRINFO) (h_GLB_EVTOVF : W0 R.GLB_EVTOVF) (h_QUE_STAT : ∀ i, W0 (R.QUE_STAT i)) (h_QUE_RET : ∀ i, W0 (R.QUE_RET i)) (h_CHN_PERR : ∀ i, W0 (R.CHN_PERR i)) (h_TIM_PGCFG : ∀ i, W0 (R.TIM_PGCFG i)) (h_TIM_PGSTART : ∀ i, W0 (R.TIM_PGSTART i)) (h_TIM_PGPER : ∀ i, W0 (R.TIM_PGPER i)) (h_TIM_PGPERF : ∀ i, W0 (R.TIM_PGPERF i)) (h_TIM_PGSTAT : ∀ i, W0 (R.TIM_PGSTAT i)) (h_TIM_PGNEXT : ∀ i, W0 (R.TIM_PGNEXT i)) (h_TAN_CFG : W0 R.TAN_CFG) (h_TAN_CTL : W0 R.TAN_CTL) (h_TAN_CLAIM : W0 R.TAN_CLAIM) (h_TAN_STAT : W0 R.TAN_STAT) (h_TAN_SNAPSTAT : W0 R.TAN_SNAPSTAT) {t0 : State} (h0 : RegsBut W0 r0 s)
    (ht : execTanTake v s = .next t0) : RegsBut W0 r0 t0 := by
  unfold execTanTake fieldWrite at ht
  injection ht with ht
  subst ht
  with_reducible refine hostWrite_frame (P := RegsBut W0 r0) (by decide) (by decide) ?_ (fun c => ?_) ?_
  on_goal 3 => rw [regEffect_10 _ _ _ (by decide)]
  repeat' first
    | with_reducible assumption
    | with_reducible exact h_pba _
    | with_reducible exact h_QUE_STAT _
    | with_reducible exact h_QUE_RET _
    | with_reducible exact h_CHN_PERR _
    | with_reducible exact h_TIM_PGCFG _
    | with_reducible exact h_TIM_PGSTART _
    | with_reducible exact h_TIM_PGPER _
    | with_reducible exact h_TIM_PGPERF _
    | with_reducible exact h_TIM_PGSTAT _
    | with_reducible exact h_TIM_PGNEXT _
    | with_reducible apply storeReg_regs
    | with_reducible apply logError_regs
    | with_reducible apply setBitF_regs
    | with_reducible apply effectTan_regs

theorem execTanRenum_regs {W0 : Nat → Prop} {r0 : State} (epoch : Nat) (s : State) (h_pba : ∀ k, W0 (0x38000 + 4 * (k % 64))) (h_GLB_ERRLOG : W0 R.GLB_ERRLOG) (h_GLB_ERRINFO : W0 R.GLB_ERRINFO) (h_GLB_EVTOVF : W0 R.GLB_EVTOVF) (h_QUE_STAT : ∀ i, W0 (R.QUE_STAT i)) (h_QUE_RET : ∀ i, W0 (R.QUE_RET i)) (h_CHN_PERR : ∀ i, W0 (R.CHN_PERR i)) (h_TIM_PGCFG : ∀ i, W0 (R.TIM_PGCFG i)) (h_TIM_PGSTART : ∀ i, W0 (R.TIM_PGSTART i)) (h_TIM_PGPER : ∀ i, W0 (R.TIM_PGPER i)) (h_TIM_PGPERF : ∀ i, W0 (R.TIM_PGPERF i)) (h_TIM_PGSTAT : ∀ i, W0 (R.TIM_PGSTAT i)) (h_TIM_PGNEXT : ∀ i, W0 (R.TIM_PGNEXT i)) (h_TAN_CFG : W0 R.TAN_CFG) (h_TAN_CLAIM : W0 R.TAN_CLAIM) (h_TAN_STAT : W0 R.TAN_STAT) (h_TAN_RENUM : W0 R.TAN_RENUM) (h_TAN_SNAPSTAT : W0 R.TAN_SNAPSTAT) {t0 : State} (h0 : RegsBut W0 r0 s)
    (ht : execTanRenum epoch s = .next t0) : RegsBut W0 r0 t0 := by
  unfold execTanRenum fieldWrite at ht
  injection ht with ht
  subst ht
  with_reducible refine hostWrite_frame (P := RegsBut W0 r0) (by decide) (by decide) ?_ (fun c => ?_) ?_
  on_goal 3 => rw [regEffect_10 _ _ _ (by decide)]
  repeat' first
    | with_reducible assumption
    | with_reducible exact h_pba _
    | with_reducible exact h_QUE_STAT _
    | with_reducible exact h_QUE_RET _
    | with_reducible exact h_CHN_PERR _
    | with_reducible exact h_TIM_PGCFG _
    | with_reducible exact h_TIM_PGSTART _
    | with_reducible exact h_TIM_PGPER _
    | with_reducible exact h_TIM_PGPERF _
    | with_reducible exact h_TIM_PGSTAT _
    | with_reducible exact h_TIM_PGNEXT _
    | with_reducible apply storeReg_regs
    | with_reducible apply logError_regs
    | with_reducible apply setBitF_regs
    | with_reducible apply effectTan_regs

theorem execDimWrite_regs {W0 : Nat → Prop} {r0 : State} (dt : Nat) (v : Word) (s : State) (h_pba : ∀ k, W0 (0x38000 + 4 * (k % 64))) (h_GLB_ERRLOG : W0 R.GLB_ERRLOG) (h_GLB_ERRINFO : W0 R.GLB_ERRINFO) (h_GLB_EVTOVF : W0 R.GLB_EVTOVF) (h_QUE_STAT : ∀ i, W0 (R.QUE_STAT i)) (h_QUE_RET : ∀ i, W0 (R.QUE_RET i)) (h_SOR_GSTAT : W0 R.SOR_GSTAT) (h_SRF_STAT : W0 R.SRF_STAT) (h_SRF_FREEPG : W0 R.SRF_FREEPG) (h_CHN_PERR : ∀ i, W0 (R.CHN_PERR i)) (h_LMP_CTL : W0 R.LMP_CTL) (h_LMP_DIM : W0 R.LMP_DIM) (h_LMP_DIMNOW : W0 R.LMP_DIMNOW) {t0 : State} (h0 : RegsBut W0 r0 s)
    (ht : execDimWrite dt v s = .next t0) : RegsBut W0 r0 t0 := by
  unfold execDimWrite at ht
  injection ht with ht
  subst ht
  with_reducible refine hostWrite_frame (P := RegsBut W0 r0) (by decide) (by decide) ?_ (fun c => ?_) ?_
  on_goal 3 => rw [regEffect_11 _ _ _ (by decide)]
  repeat' first
    | with_reducible assumption
    | with_reducible exact h_pba _
    | with_reducible exact h_QUE_STAT _
    | with_reducible exact h_QUE_RET _
    | with_reducible exact h_CHN_PERR _
    | with_reducible apply storeReg_regs
    | with_reducible apply logError_regs
    | with_reducible apply setBitF_regs
    | with_reducible apply effectLmp_regs
    | with_reducible apply advance_regs

theorem execLmpEnable_regs {W0 : Nat → Prop} {r0 : State} (v : Word) (s : State) (h_pba : ∀ k, W0 (0x38000 + 4 * (k % 64))) (h_GLB_ERRLOG : W0 R.GLB_ERRLOG) (h_GLB_ERRINFO : W0 R.GLB_ERRINFO) (h_GLB_EVTOVF : W0 R.GLB_EVTOVF) (h_QUE_STAT : ∀ i, W0 (R.QUE_STAT i)) (h_QUE_RET : ∀ i, W0 (R.QUE_RET i)) (h_SRF_STAT : W0 R.SRF_STAT) (h_SRF_FREEPG : W0 R.SRF_FREEPG) (h_CHN_PERR : ∀ i, W0 (R.CHN_PERR i)) (h_LMP_CTL : W0 R.LMP_CTL) (h_LMP_DIMNOW : W0 R.LMP_DIMNOW) {t0 : State} (h0 : RegsBut W0 r0 s)
    (ht : execLmpEnable v s = .next t0) : RegsBut W0 r0 t0 := by
  unfold execLmpEnable fieldWrite at ht
  injection ht with ht
  subst ht
  with_reducible refine hostWrite_frame (P := RegsBut W0 r0) (by decide) (by decide) ?_ (fun c => ?_) ?_
  on_goal 3 => rw [regEffect_11 _ _ _ (by decide)]
  repeat' first
    | with_reducible assumption
    | with_reducible exact h_pba _
    | with_reducible exact h_QUE_STAT _
    | with_reducible exact h_QUE_RET _
    | with_reducible exact h_CHN_PERR _
    | with_reducible apply storeReg_regs
    | with_reducible apply logError_regs
    | with_reducible apply setBitF_regs
    | with_reducible apply effectLmp_regs

theorem execLmpDisable_regs {W0 : Nat → Prop} {r0 : State} (v : Word) (s : State) (h_pba : ∀ k, W0 (0x38000 + 4 * (k % 64))) (h_GLB_ERRLOG : W0 R.GLB_ERRLOG) (h_GLB_ERRINFO : W0 R.GLB_ERRINFO) (h_GLB_EVTOVF : W0 R.GLB_EVTOVF) (h_QUE_STAT : ∀ i, W0 (R.QUE_STAT i)) (h_QUE_RET : ∀ i, W0 (R.QUE_RET i)) (h_SRF_STAT : W0 R.SRF_STAT) (h_SRF_FREEPG : W0 R.SRF_FREEPG) (h_CHN_PERR : ∀ i, W0 (R.CHN_PERR i)) (h_LMP_CTL : W0 R.LMP_CTL) (h_LMP_DIMNOW : W0 R.LMP_DIMNOW) {t0 : State} (h0 : RegsBut W0 r0 s)
    (ht : execLmpDisable v s = .next t0) : RegsBut W0 r0 t0 := by
  unfold execLmpDisable fieldWrite at ht
  injection ht with ht
  subst ht
  with_reducible refine hostWrite_frame (P := RegsBut W0 r0) (by decide) (by decide) ?_ (fun c => ?_) ?_
  on_goal 3 => rw [regEffect_11 _ _ _ (by decide)]
  repeat' first
    | with_reducible assumption
    | with_reducible exact h_pba _
    | with_reducible exact h_QUE_STAT _
    | with_reducible exact h_QUE_RET _
    | with_reducible exact h_CHN_PERR _
    | with_reducible apply storeReg_regs
    | with_reducible apply logError_regs
    | with_reducible apply setBitF_regs
    | with_reducible apply effectLmp_regs

theorem execSpkEnable_regs {W0 : Nat → Prop} {r0 : State} (v : Word) (s : State) (h_pba : ∀ k, W0 (0x38000 + 4 * (k % 64))) (h_GLB_ERRLOG : W0 R.GLB_ERRLOG) (h_GLB_ERRINFO : W0 R.GLB_ERRINFO) (h_GLB_EVTOVF : W0 R.GLB_EVTOVF) (h_SRF_TCMISS : W0 R.SRF_TCMISS) (h_CHN_PERR : ∀ i, W0 (R.CHN_PERR i)) (h_SPK_CTL : W0 R.SPK_CTL) (h_SPK_FLCNT : W0 R.SPK_FLCNT) (h_SPK_SPKSTAT : ∀ i, W0 (R.SPK_SPKSTAT i)) (h_DRC_ECCSTAT : W0 R.DRC_ECCSTAT) (h_DRC_UEADDR : W0 R.DRC_UEADDR) {t0 : State} (h0 : RegsBut W0 r0 s)
    (ht : execSpkEnable v s = .next t0) : RegsBut W0 r0 t0 := by
  unfold execSpkEnable fieldWrite at ht
  injection ht with ht
  subst ht
  with_reducible refine hostWrite_frame (P := RegsBut W0 r0) (by decide) (by decide) ?_ (fun c => ?_) ?_
  on_goal 3 => rw [regEffect_12 _ _ _ (by decide)]
  repeat' first
    | with_reducible assumption
    | with_reducible exact h_pba _
    | with_reducible exact h_CHN_PERR _
    | with_reducible exact h_SPK_SPKSTAT _
    | with_reducible apply storeReg_regs
    | with_reducible apply logError_regs
    | with_reducible apply setBitF_regs
    | with_reducible apply effectSpk_regs

theorem execSpkDisable_regs {W0 : Nat → Prop} {r0 : State} (v : Word) (s : State) (h_pba : ∀ k, W0 (0x38000 + 4 * (k % 64))) (h_GLB_ERRLOG : W0 R.GLB_ERRLOG) (h_GLB_ERRINFO : W0 R.GLB_ERRINFO) (h_GLB_EVTOVF : W0 R.GLB_EVTOVF) (h_SRF_TCMISS : W0 R.SRF_TCMISS) (h_CHN_PERR : ∀ i, W0 (R.CHN_PERR i)) (h_SPK_CTL : W0 R.SPK_CTL) (h_SPK_FLCNT : W0 R.SPK_FLCNT) (h_SPK_SPKSTAT : ∀ i, W0 (R.SPK_SPKSTAT i)) (h_DRC_ECCSTAT : W0 R.DRC_ECCSTAT) (h_DRC_UEADDR : W0 R.DRC_UEADDR) {t0 : State} (h0 : RegsBut W0 r0 s)
    (ht : execSpkDisable v s = .next t0) : RegsBut W0 r0 t0 := by
  unfold execSpkDisable fieldWrite at ht
  injection ht with ht
  subst ht
  with_reducible refine hostWrite_frame (P := RegsBut W0 r0) (by decide) (by decide) ?_ (fun c => ?_) ?_
  on_goal 3 => rw [regEffect_12 _ _ _ (by decide)]
  repeat' first
    | with_reducible assumption
    | with_reducible exact h_pba _
    | with_reducible exact h_CHN_PERR _
    | with_reducible exact h_SPK_SPKSTAT _
    | with_reducible apply storeReg_regs
    | with_reducible apply logError_regs
    | with_reducible apply setBitF_regs
    | with_reducible apply effectSpk_regs

theorem execSpkReload_regs {W0 : Nat → Prop} {r0 : State} (s : State) (h_pba : ∀ k, W0 (0x38000 + 4 * (k % 64))) (h_GLB_ERRLOG : W0 R.GLB_ERRLOG) (h_GLB_ERRINFO : W0 R.GLB_ERRINFO) (h_GLB_EVTOVF : W0 R.GLB_EVTOVF) (h_SRF_TCMISS : W0 R.SRF_TCMISS) (h_CHN_PERR : ∀ i, W0 (R.CHN_PERR i)) (h_SPK_CTL : W0 R.SPK_CTL) (h_SPK_FLCNT : W0 R.SPK_FLCNT) (h_SPK_SPKSTAT : ∀ i, W0 (R.SPK_SPKSTAT i)) (h_DRC_ECCSTAT : W0 R.DRC_ECCSTAT) (h_DRC_UEADDR : W0 R.DRC_UEADDR) {t0 : State} (h0 : RegsBut W0 r0 s)
    (ht : execSpkReload s = .next t0) : RegsBut W0 r0 t0 := by
  unfold execSpkReload fieldWrite at ht
  injection ht with ht
  subst ht
  with_reducible refine hostWrite_frame (P := RegsBut W0 r0) (by decide) (by decide) ?_ (fun c => ?_) ?_
  on_goal 3 => rw [regEffect_12 _ _ _ (by decide)]
  repeat' first
    | with_reducible assumption
    | with_reducible exact h_pba _
    | with_reducible exact h_CHN_PERR _
    | with_reducible exact h_SPK_SPKSTAT _
    | with_reducible apply storeReg_regs
    | with_reducible apply logError_regs
    | with_reducible apply setBitF_regs
    | with_reducible apply effectSpk_regs

theorem execFaultTableClear_regs {W0 : Nat → Prop} {r0 : State} (s : State) (h_pba : ∀ k, W0 (0x38000 + 4 * (k % 64))) (h_GLB_ERRLOG : W0 R.GLB_ERRLOG) (h_GLB_ERRINFO : W0 R.GLB_ERRINFO) (h_GLB_EVTOVF : W0 R.GLB_EVTOVF) (h_SRF_TCMISS : W0 R.SRF_TCMISS) (h_CHN_PERR : ∀ i, W0 (R.CHN_PERR i)) (h_SPK_CTL : W0 R.SPK_CTL) (h_SPK_FDCTL : W0 R.SPK_FDCTL) (h_SPK_FLCNT : W0 R.SPK_FLCNT) (h_SPK_SPKSTAT : ∀ i, W0 (R.SPK_SPKSTAT i)) (h_DRC_ECCSTAT : W0 R.DRC_ECCSTAT) (h_DRC_UEADDR : W0 R.DRC_UEADDR) {t0 : State} (h0 : RegsBut W0 r0 s)
    (ht : execFaultTableClear s = .next t0) : RegsBut W0 r0 t0 := by
  unfold execFaultTableClear fieldWrite at ht
  injection ht with ht
  subst ht
  with_reducible refine hostWrite_frame (P := RegsBut W0 r0) (by decide) (by decide) ?_ (fun c => ?_) ?_
  on_goal 3 => rw [regEffect_12 _ _ _ (by decide)]
  repeat' first
    | with_reducible assumption
    | with_reducible exact h_pba _
    | with_reducible exact h_CHN_PERR _
    | with_reducible exact h_SPK_SPKSTAT _
    | with_reducible apply storeReg_regs
    | with_reducible apply logError_regs
    | with_reducible apply setBitF_regs
    | with_reducible apply effectSpk_regs

theorem execReadbackSpokeClear_regs {W0 : Nat → Prop} {r0 : State} (mask : Nat) (s : State) (h_pba : ∀ k, W0 (0x38000 + 4 * (k % 64))) (h_GLB_ERRLOG : W0 R.GLB_ERRLOG) (h_GLB_ERRINFO : W0 R.GLB_ERRINFO) (h_GLB_EVTOVF : W0 R.GLB_EVTOVF) (h_SRF_TCMISS : W0 R.SRF_TCMISS) (h_CHN_PERR : ∀ i, W0 (R.CHN_PERR i)) (h_SPK_CTL : W0 R.SPK_CTL) (h_SPK_FLCNT : W0 R.SPK_FLCNT) (h_SPK_RBSPK : W0 R.SPK_RBSPK) (h_SPK_SPKSTAT : ∀ i, W0 (R.SPK_SPKSTAT i)) (h_DRC_ECCSTAT : W0 R.DRC_ECCSTAT) (h_DRC_UEADDR : W0 R.DRC_UEADDR) {t0 : State} (h0 : RegsBut W0 r0 s)
    (ht : execReadbackSpokeClear mask s = .next t0) : RegsBut W0 r0 t0 := by
  unfold execReadbackSpokeClear fieldWrite at ht
  injection ht with ht
  subst ht
  with_reducible refine hostWrite_frame (P := RegsBut W0 r0) (by decide) (by decide) ?_ (fun c => ?_) ?_
  on_goal 3 => rw [regEffect_12 _ _ _ (by decide)]
  repeat' first
    | with_reducible assumption
    | with_reducible exact h_pba _
    | with_reducible exact h_CHN_PERR _
    | with_reducible exact h_SPK_SPKSTAT _
    | with_reducible apply storeReg_regs
    | with_reducible apply logError_regs
    | with_reducible apply setBitF_regs
    | with_reducible apply effectSpk_regs

theorem execFreqChangeGo_regs {W0 : Nat → Prop} {r0 : State} (v : Word) (s : State) (h_pba : ∀ k, W0 (0x38000 + 4 * (k % 64))) (h_GLB_ERRLOG : W0 R.GLB_ERRLOG) (h_GLB_ERRINFO : W0 R.GLB_ERRINFO) (h_GLB_EVTOVF : W0 R.GLB_EVTOVF) (h_CHN_PERR : ∀ i, W0 (R.CHN_PERR i)) (h_DRC_CFG : W0 R.DRC_CFG) (h_DRC_FREQ : W0 R.DRC_FREQ) {t0 : State} (h0 : RegsBut W0 r0 s)
    (ht : execFreqChangeGo v s = .next t0) : RegsBut W0 r0 t0 := by
  unfold execFreqChangeGo fieldWrite at ht
  injection ht with ht
  subst ht
  with_reducible refine hostWrite_frame (P := RegsBut W0 r0) (by decide) (by decide) ?_ (fun c => ?_) ?_
  on_goal 3 => rw [regEffect_13 _ _ _ (by decide)]
  repeat' first
    | with_reducible assumption
    | with_reducible exact h_pba _
    | with_reducible exact h_CHN_PERR _
    | with_reducible apply storeReg_regs
    | with_reducible apply logError_regs
    | with_reducible apply setBitF_regs
    | with_reducible apply freqGo_regs
    | split

theorem execThmFailClear_regs {W0 : Nat → Prop} {r0 : State} (mask : Nat) (s : State) (h_pba : ∀ k, W0 (0x38000 + 4 * (k % 64))) (h_GLB_ERRLOG : W0 R.GLB_ERRLOG) (h_GLB_ERRINFO : W0 R.GLB_ERRINFO) (h_GLB_YIELDCNT : W0 R.GLB_YIELDCNT) (h_GLB_YIELDLAST : W0 R.GLB_YIELDLAST) (h_GLB_YIELDFRM : W0 R.GLB_YIELDFRM) (h_GLB_EVTOVF : W0 R.GLB_EVTOVF) (h_QUE_STAT : ∀ i, W0 (R.QUE_STAT i)) (h_QUE_RET : ∀ i, W0 (R.QUE_RET i)) (h_SRF_STAT : W0 R.SRF_STAT) (h_SRF_FREEPG : W0 R.SRF_FREEPG) (h_SRF_RETIRED : W0 R.SRF_RETIRED) (h_CHN_PERR : ∀ i, W0 (R.CHN_PERR i)) (h_LNK_PSTAT : ∀ i, W0 (R.LNK_PSTAT i)) (h_LNK_PMAP : ∀ i, W0 (R.LNK_PMAP i)) (h_LNK_PCNT : ∀ i, W0 (R.LNK_PCNT i)) (h_LNK_LCTL : ∀ i, W0 (R.LNK_LCTL i)) (h_LNK_LSTAT : ∀ i, W0 (R.LNK_LSTAT i)) (h_LNK_LPRBS : ∀ i, W0 (R.LNK_LPRBS i)) (h_TAN_TSTAT : W0 R.TAN_TSTAT) (h_LMP_CEIL : W0 R.LMP_CEIL) (h_SPK_CTL : W0 R.SPK_CTL) (h_SPK_SPKSTAT : ∀ i, W0 (R.SPK_SPKSTAT i)) (h_DRC_CFG : W0 R.DRC_CFG) (h_DRC_HAZSTAT : W0 R.DRC_HAZSTAT) (h_DRC_CHSTAT : ∀ i, W0 (R.DRC_CHSTAT i)) (h_THM_STAT : W0 R.THM_STAT) (h_THM_FAIL : W0 R.THM_FAIL) (h_THM_PWR : W0 R.THM_PWR) (h_THM_OD : ∀ i, W0 (R.THM_OD i)) (h_THM_TD : ∀ i, W0 (R.THM_TD i)) (h_CAL_STAT : W0 R.CAL_STAT) (h_SEC_STAT : W0 R.SEC_STAT) {t0 : State} (h0 : RegsBut W0 r0 s)
    (ht : execThmFailClear mask s = .next t0) : RegsBut W0 r0 t0 := by
  unfold execThmFailClear at ht
  injection ht with ht
  subst ht
  with_reducible refine hostWrite_frame (P := RegsBut W0 r0) (by decide) (by decide) ?_ (fun c => ?_) ?_
  on_goal 3 => rw [regEffect_14 _ _ _ (by decide)]
  repeat' first
    | with_reducible assumption
    | with_reducible exact h_pba _
    | with_reducible exact h_QUE_STAT _
    | with_reducible exact h_QUE_RET _
    | with_reducible exact h_CHN_PERR _
    | with_reducible exact h_LNK_PSTAT _
    | with_reducible exact h_LNK_PMAP _
    | with_reducible exact h_LNK_PCNT _
    | with_reducible exact h_LNK_LCTL _
    | with_reducible exact h_LNK_LSTAT _
    | with_reducible exact h_LNK_LPRBS _
    | with_reducible exact h_SPK_SPKSTAT _
    | with_reducible exact h_DRC_CHSTAT _
    | with_reducible exact h_THM_OD _
    | with_reducible exact h_THM_TD _
    | with_reducible apply storeReg_regs
    | with_reducible apply logError_regs
    | with_reducible apply setBitF_regs
    | with_reducible apply effectThm_regs

theorem execPowerRequest_regs {W0 : Nat → Prop} {r0 : State} (req : Nat) (s : State) (h_pba : ∀ k, W0 (0x38000 + 4 * (k % 64))) (h_GLB_ERRLOG : W0 R.GLB_ERRLOG) (h_GLB_ERRINFO : W0 R.GLB_ERRINFO) (h_GLB_YIELDCNT : W0 R.GLB_YIELDCNT) (h_GLB_YIELDLAST : W0 R.GLB_YIELDLAST) (h_GLB_YIELDFRM : W0 R.GLB_YIELDFRM) (h_GLB_EVTOVF : W0 R.GLB_EVTOVF) (h_QUE_STAT : ∀ i, W0 (R.QUE_STAT i)) (h_QUE_RET : ∀ i, W0 (R.QUE_RET i)) (h_SRF_STAT : W0 R.SRF_STAT) (h_SRF_FREEPG : W0 R.SRF_FREEPG) (h_SRF_RETIRED : W0 R.SRF_RETIRED) (h_CHN_PERR : ∀ i, W0 (R.CHN_PERR i)) (h_LNK_PSTAT : ∀ i, W0 (R.LNK_PSTAT i)) (h_LNK_PMAP : ∀ i, W0 (R.LNK_PMAP i)) (h_LNK_PCNT : ∀ i, W0 (R.LNK_PCNT i)) (h_LNK_LCTL : ∀ i, W0 (R.LNK_LCTL i)) (h_LNK_LSTAT : ∀ i, W0 (R.LNK_LSTAT i)) (h_LNK_LPRBS : ∀ i, W0 (R.LNK_LPRBS i)) (h_TAN_TSTAT : W0 R.TAN_TSTAT) (h_LMP_CEIL : W0 R.LMP_CEIL) (h_SPK_CTL : W0 R.SPK_CTL) (h_SPK_SPKSTAT : ∀ i, W0 (R.SPK_SPKSTAT i)) (h_DRC_CFG : W0 R.DRC_CFG) (h_DRC_HAZSTAT : W0 R.DRC_HAZSTAT) (h_DRC_CHSTAT : ∀ i, W0 (R.DRC_CHSTAT i)) (h_THM_STAT : W0 R.THM_STAT) (h_THM_PWR : W0 R.THM_PWR) (h_THM_OD : ∀ i, W0 (R.THM_OD i)) (h_THM_TD : ∀ i, W0 (R.THM_TD i)) (h_CAL_STAT : W0 R.CAL_STAT) (h_SEC_STAT : W0 R.SEC_STAT) {t0 : State} (h0 : RegsBut W0 r0 s)
    (ht : execPowerRequest req s = .next t0) : RegsBut W0 r0 t0 := by
  unfold execPowerRequest fieldWrite at ht
  injection ht with ht
  subst ht
  with_reducible refine hostWrite_frame (P := RegsBut W0 r0) (by decide) (by decide) ?_ (fun c => ?_) ?_
  on_goal 3 => rw [regEffect_14 _ _ _ (by decide)]
  repeat' first
    | with_reducible assumption
    | with_reducible exact h_pba _
    | with_reducible exact h_QUE_STAT _
    | with_reducible exact h_QUE_RET _
    | with_reducible exact h_CHN_PERR _
    | with_reducible exact h_LNK_PSTAT _
    | with_reducible exact h_LNK_PMAP _
    | with_reducible exact h_LNK_PCNT _
    | with_reducible exact h_LNK_LCTL _
    | with_reducible exact h_LNK_LSTAT _
    | with_reducible exact h_LNK_LPRBS _
    | with_reducible exact h_SPK_SPKSTAT _
    | with_reducible exact h_DRC_CHSTAT _
    | with_reducible exact h_THM_OD _
    | with_reducible exact h_THM_TD _
    | with_reducible apply storeReg_regs
    | with_reducible apply logError_regs
    | with_reducible apply setBitF_regs
    | with_reducible apply effectThm_regs

theorem execRecalManualStart_regs {W0 : Nat → Prop} {r0 : State} (v : Word) (s : State) (h_pba : ∀ k, W0 (0x38000 + 4 * (k % 64))) (h_GLB_ERRLOG : W0 R.GLB_ERRLOG) (h_GLB_ERRINFO : W0 R.GLB_ERRINFO) (h_GLB_EVTOVF : W0 R.GLB_EVTOVF) (h_CHN_PERR : ∀ i, W0 (R.CHN_PERR i)) (h_LNK_PMAP : ∀ i, W0 (R.LNK_PMAP i)) (h_LNK_LSTAT : ∀ i, W0 (R.LNK_LSTAT i)) (h_TIM_INC : W0 R.TIM_INC) (h_CAL_CTL : W0 R.CAL_CTL) (h_CAL_STAT : W0 R.CAL_STAT) {t0 : State} (h0 : RegsBut W0 r0 s)
    (ht : execRecalManualStart v s = .next t0) : RegsBut W0 r0 t0 := by
  unfold execRecalManualStart fieldWrite at ht
  injection ht with ht
  subst ht
  with_reducible refine hostWrite_frame (P := RegsBut W0 r0) (by decide) (by decide) ?_ (fun c => ?_) ?_
  on_goal 3 => rw [regEffect_15 _ _ _ (by decide)]
  repeat' first
    | with_reducible assumption
    | with_reducible exact h_pba _
    | with_reducible exact h_CHN_PERR _
    | with_reducible exact h_LNK_PMAP _
    | with_reducible exact h_LNK_LSTAT _
    | with_reducible apply storeReg_regs
    | with_reducible apply logError_regs
    | with_reducible apply setBitF_regs
    | with_reducible apply effectCal_regs

theorem execCalDisable_regs {W0 : Nat → Prop} {r0 : State} (v : Word) (s : State) (h_pba : ∀ k, W0 (0x38000 + 4 * (k % 64))) (h_GLB_ERRLOG : W0 R.GLB_ERRLOG) (h_GLB_ERRINFO : W0 R.GLB_ERRINFO) (h_GLB_EVTOVF : W0 R.GLB_EVTOVF) (h_CHN_PERR : ∀ i, W0 (R.CHN_PERR i)) (h_LNK_PMAP : ∀ i, W0 (R.LNK_PMAP i)) (h_LNK_LSTAT : ∀ i, W0 (R.LNK_LSTAT i)) (h_TIM_INC : W0 R.TIM_INC) (h_CAL_CTL : W0 R.CAL_CTL) (h_CAL_STAT : W0 R.CAL_STAT) {t0 : State} (h0 : RegsBut W0 r0 s)
    (ht : execCalDisable v s = .next t0) : RegsBut W0 r0 t0 := by
  unfold execCalDisable fieldWrite at ht
  injection ht with ht
  subst ht
  with_reducible refine hostWrite_frame (P := RegsBut W0 r0) (by decide) (by decide) ?_ (fun c => ?_) ?_
  on_goal 3 => rw [regEffect_15 _ _ _ (by decide)]
  repeat' first
    | with_reducible assumption
    | with_reducible exact h_pba _
    | with_reducible exact h_CHN_PERR _
    | with_reducible exact h_LNK_PMAP _
    | with_reducible exact h_LNK_LSTAT _
    | with_reducible apply storeReg_regs
    | with_reducible apply logError_regs
    | with_reducible apply setBitF_regs
    | with_reducible apply effectCal_regs

theorem execUpdConfirmWrite_regs {W0 : Nat → Prop} {r0 : State} (s : State) (h_pba : ∀ k, W0 (0x38000 + 4 * (k % 64))) (h_GLB_BOOTSTAT : W0 R.GLB_BOOTSTAT) (h_GLB_ERRLOG : W0 R.GLB_ERRLOG) (h_GLB_ERRINFO : W0 R.GLB_ERRINFO) (h_GLB_EVTOVF : W0 R.GLB_EVTOVF) (h_QUE_STAT : ∀ i, W0 (R.QUE_STAT i)) (h_QUE_RET : ∀ i, W0 (R.QUE_RET i)) (h_CHN_PERR : ∀ i, W0 (R.CHN_PERR i)) (h_UPD_STAT : W0 R.UPD_STAT) (h_UPD_CTL : W0 R.UPD_CTL) (h_UPD_HELD : W0 R.UPD_HELD) (h_UPD_AFRAME : W0 R.UPD_AFRAME) (h_UPD_PKGID : ∀ i, W0 (R.UPD_PKGID i)) (h_UPD_RECOV : W0 R.UPD_RECOV) {t0 : State} (h0 : RegsBut W0 r0 s)
    (ht : execUpdConfirmWrite s = .next t0) : RegsBut W0 r0 t0 := by
  unfold execUpdConfirmWrite fieldWrite at ht
  injection ht with ht
  subst ht
  with_reducible refine hostWrite_frame (P := RegsBut W0 r0) (by decide) (by decide) ?_ (fun c => ?_) ?_
  on_goal 3 => rw [regEffect_17 _ _ _ (by decide)]
  repeat' first
    | with_reducible assumption
    | with_reducible exact h_pba _
    | with_reducible exact h_QUE_STAT _
    | with_reducible exact h_QUE_RET _
    | with_reducible exact h_CHN_PERR _
    | with_reducible exact h_UPD_PKGID _
    | with_reducible apply storeReg_regs
    | with_reducible apply logError_regs
    | with_reducible apply setBitF_regs
    | with_reducible apply effectUpd_regs

theorem execUpdAbandonWrite_regs {W0 : Nat → Prop} {r0 : State} (s : State) (h_pba : ∀ k, W0 (0x38000 + 4 * (k % 64))) (h_GLB_BOOTSTAT : W0 R.GLB_BOOTSTAT) (h_GLB_ERRLOG : W0 R.GLB_ERRLOG) (h_GLB_ERRINFO : W0 R.GLB_ERRINFO) (h_GLB_EVTOVF : W0 R.GLB_EVTOVF) (h_QUE_STAT : ∀ i, W0 (R.QUE_STAT i)) (h_QUE_RET : ∀ i, W0 (R.QUE_RET i)) (h_CHN_PERR : ∀ i, W0 (R.CHN_PERR i)) (h_UPD_STAT : W0 R.UPD_STAT) (h_UPD_CTL : W0 R.UPD_CTL) (h_UPD_HELD : W0 R.UPD_HELD) (h_UPD_AFRAME : W0 R.UPD_AFRAME) (h_UPD_PKGID : ∀ i, W0 (R.UPD_PKGID i)) (h_UPD_RECOV : W0 R.UPD_RECOV) {t0 : State} (h0 : RegsBut W0 r0 s)
    (ht : execUpdAbandonWrite s = .next t0) : RegsBut W0 r0 t0 := by
  unfold execUpdAbandonWrite fieldWrite at ht
  injection ht with ht
  subst ht
  with_reducible refine hostWrite_frame (P := RegsBut W0 r0) (by decide) (by decide) ?_ (fun c => ?_) ?_
  on_goal 3 => rw [regEffect_17 _ _ _ (by decide)]
  repeat' first
    | with_reducible assumption
    | with_reducible exact h_pba _
    | with_reducible exact h_QUE_STAT _
    | with_reducible exact h_QUE_RET _
    | with_reducible exact h_CHN_PERR _
    | with_reducible exact h_UPD_PKGID _
    | with_reducible apply storeReg_regs
    | with_reducible apply logError_regs
    | with_reducible apply setBitF_regs
    | with_reducible apply effectUpd_regs

theorem execRecoveryGo_regs {W0 : Nat → Prop} {r0 : State} (len : Nat) (s : State) (h_pba : ∀ k, W0 (0x38000 + 4 * (k % 64))) (h_GLB_BOOTSTAT : W0 R.GLB_BOOTSTAT) (h_GLB_ERRLOG : W0 R.GLB_ERRLOG) (h_GLB_ERRINFO : W0 R.GLB_ERRINFO) (h_GLB_EVTOVF : W0 R.GLB_EVTOVF) (h_QUE_STAT : ∀ i, W0 (R.QUE_STAT i)) (h_QUE_RET : ∀ i, W0 (R.QUE_RET i)) (h_CHN_PERR : ∀ i, W0 (R.CHN_PERR i)) (h_UPD_STAT : W0 R.UPD_STAT) (h_UPD_HELD : W0 R.UPD_HELD) (h_UPD_AFRAME : W0 R.UPD_AFRAME) (h_UPD_PKGID : ∀ i, W0 (R.UPD_PKGID i)) (h_UPD_RECOV : W0 R.UPD_RECOV) {t0 : State} (h0 : RegsBut W0 r0 s)
    (ht : execRecoveryGo len s = .next t0) : RegsBut W0 r0 t0 := by
  unfold execRecoveryGo fieldWrite at ht
  injection ht with ht
  subst ht
  with_reducible refine hostWrite_frame (P := RegsBut W0 r0) (by decide) (by decide) ?_ (fun c => ?_) ?_
  on_goal 3 => rw [regEffect_17 _ _ _ (by decide)]
  repeat' first
    | with_reducible assumption
    | with_reducible exact h_pba _
    | with_reducible exact h_QUE_STAT _
    | with_reducible exact h_QUE_RET _
    | with_reducible exact h_CHN_PERR _
    | with_reducible exact h_UPD_PKGID _
    | with_reducible apply storeReg_regs
    | with_reducible apply logError_regs
    | with_reducible apply setBitF_regs
    | with_reducible apply effectUpd_regs

end Sys2Proof.Machine
end

