-- ==== Sys2Proof/Laws/Reads.lean ====
section
/-! SUPPORT. Reading a state after an operation: how the frames `RegsBut` and `Keeps` give the value of a register, a field or a
part, and what raising an event leaves in the event queue. -/

namespace Sys2Proof.Machine

/-- A register that an operation does not write reads as before. -/
theorem word_of_regs {s t : State} {off : Nat} (h : RegsBut (fun o => o ≠ off) s t) : t.word off = s.word off :=
  h off (fun hn => hn rfl)

/-- A field of a register that an operation does not write reads as before. -/
theorem getF_of_regs {s t : State} {f : Fld} (h : RegsBut (fun o => o ≠ f.off) s t) : getF t f = getF s f := by
  simp only [getF, word_of_regs h]

/-- Every part but one. -/
def Part.others (p : Part) : List Part :=
  [.regs, .boot, .hif, .queues, .sor, .dma, .srf, .drc, .chn, .cmp, .frt, .lnk, .tim, .tan, .sec, .lmp, .spk, .thm, .cal, .upd,
    .dram, .ring, .time, .wraps, .up, .out, .free, .fuses, .flash, .recov].filter (fun q => q != p)

theorem Part.not_mem_others (p : Part) : p ∉ p.others := by cases p <;> decide

/-- A part that an operation does not touch is the same after it. -/
theorem same_of_keeps {s t : State} (p : Part) (h : Keeps p.others s t) : p.same s t := h.2.2 p p.not_mem_others

/-- A bit of a field that was set or cleared. -/
theorem fbit_setBitF_same (s : State) (f : Fld) (k : Nat) (b : Bool) (hw : f.lo + f.width ≤ 32) (hk : k < f.width) :
    fbit (setBitF s f k b) f k = b := by
  unfold fbit setBitF
  rw [getF_setF_same s f _ hw, Nat.testBit_mod_two_pow]
  simp only [hk, decide_true, Bool.true_and]
  unfold putBit
  cases b <;> simp [putBits_testBit]

/-- The event queue after an event is raised (R605). -/
theorem raise_events (s : State) (code : Nat) (det : Bytes) :
    (raise s code det).hif.events = (eventsWith s ⟨code, timeNs s, fit 8 det⟩).take (max 64 s.hif.events.length) := by
  have e : (appendEvent s ⟨code, timeNs s, fit 8 det⟩).hif.events =
      (eventsWith s ⟨code, timeNs s, fit 8 det⟩).take (max 64 s.hif.events.length) := by
    unfold appendEvent
    dsimp only
    split
    · rfl
    · split
      · unfold sendVec
        split
        · rfl
        · split
          · rfl
          · split
            · rfl
            · rfl
      · rfl
  unfold raise
  dsimp only
  split
  · rw [(same_of_keeps .hif (tileLetter_keeps _ 2 3 0x0E _ (by decide) (by decide) Keeps.same) : _ = _), e]
  · exact e

/-- With no event of this instant queued yet, one that is raised while there is room stands at the end. -/
theorem raise_events_room (s : State) (code : Nat) (det : Bytes) (h : s.hif.events.length < 64) (h0 : eventsNow s = 0) :
    (raise s code det).hif.events = s.hif.events ++ [⟨code, timeNs s, fit 8 det⟩] := by
  rw [raise_events]
  have e : eventsWith s ⟨code, timeNs s, fit 8 det⟩ = s.hif.events ++ [⟨code, timeNs s, fit 8 det⟩] := by
    simp [eventsWith, h0, insertEvent]
  rw [e, List.take_of_length_le]
  simp
  omega

end Sys2Proof.Machine
end

