-- ==== Sys2Proof/Laws/State.lean ====
section
/-! SUPPORT. What each primitive update leaves unchanged: one lemma per field of the state and update. -/

namespace Sys2Proof.Machine

/-! Writing a register word. -/

@[simp] theorem State.setWord_boot (s : State) (off : Nat) (w : Word) :
    (s.setWord off w).boot = s.boot := rfl
@[simp] theorem State.setWord_hif (s : State) (off : Nat) (w : Word) :
    (s.setWord off w).hif = s.hif := rfl
@[simp] theorem State.setWord_queues (s : State) (off : Nat) (w : Word) :
    (s.setWord off w).queues = s.queues := rfl
@[simp] theorem State.setWord_sor (s : State) (off : Nat) (w : Word) :
    (s.setWord off w).sor = s.sor := rfl
@[simp] theorem State.setWord_dma (s : State) (off : Nat) (w : Word) :
    (s.setWord off w).dma = s.dma := rfl
@[simp] theorem State.setWord_srf (s : State) (off : Nat) (w : Word) :
    (s.setWord off w).srf = s.srf := rfl
@[simp] theorem State.setWord_drc (s : State) (off : Nat) (w : Word) :
    (s.setWord off w).drc = s.drc := rfl
@[simp] theorem State.setWord_chn (s : State) (off : Nat) (w : Word) :
    (s.setWord off w).chn = s.chn := rfl
@[simp] theorem State.setWord_cmp (s : State) (off : Nat) (w : Word) :
    (s.setWord off w).cmp = s.cmp := rfl
@[simp] theorem State.setWord_frt (s : State) (off : Nat) (w : Word) :
    (s.setWord off w).frt = s.frt := rfl
@[simp] theorem State.setWord_lnk (s : State) (off : Nat) (w : Word) :
    (s.setWord off w).lnk = s.lnk := rfl
@[simp] theorem State.setWord_tim (s : State) (off : Nat) (w : Word) :
    (s.setWord off w).tim = s.tim := rfl
@[simp] theorem State.setWord_tan (s : State) (off : Nat) (w : Word) :
    (s.setWord off w).tan = s.tan := rfl
@[simp] theorem State.setWord_sec (s : State) (off : Nat) (w : Word) :
    (s.setWord off w).sec = s.sec := rfl
@[simp] theorem State.setWord_lmp (s : State) (off : Nat) (w : Word) :
    (s.setWord off w).lmp = s.lmp := rfl
@[simp] theorem State.setWord_spk (s : State) (off : Nat) (w : Word) :
    (s.setWord off w).spk = s.spk := rfl
@[simp] theorem State.setWord_thm (s : State) (off : Nat) (w : Word) :
    (s.setWord off w).thm = s.thm := rfl
@[simp] theorem State.setWord_cal (s : State) (off : Nat) (w : Word) :
    (s.setWord off w).cal = s.cal := rfl
@[simp] theorem State.setWord_upd (s : State) (off : Nat) (w : Word) :
    (s.setWord off w).upd = s.upd := rfl
@[simp] theorem State.setWord_dram (s : State) (off : Nat) (w : Word) :
    (s.setWord off w).dram = s.dram := rfl
@[simp] theorem State.setWord_ring (s : State) (off : Nat) (w : Word) :
    (s.setWord off w).ring = s.ring := rfl
@[simp] theorem State.setWord_time (s : State) (off : Nat) (w : Word) :
    (s.setWord off w).time = s.time := rfl
@[simp] theorem State.setWord_wraps (s : State) (off : Nat) (w : Word) :
    (s.setWord off w).wraps = s.wraps := rfl
@[simp] theorem State.setWord_up (s : State) (off : Nat) (w : Word) :
    (s.setWord off w).up = s.up := rfl
@[simp] theorem State.setWord_out (s : State) (off : Nat) (w : Word) :
    (s.setWord off w).out = s.out := rfl
@[simp] theorem State.setWord_free (s : State) (off : Nat) (w : Word) :
    (s.setWord off w).free = s.free := rfl
@[simp] theorem State.setWord_pending (s : State) (off : Nat) (w : Word) :
    (s.setWord off w).pending = s.pending := rfl

/-! Writing a register field. -/

@[simp] theorem setF_boot (s : State) (f : Fld) (v : Nat) :
    (setF s f v).boot = s.boot := rfl
@[simp] theorem setF_hif (s : State) (f : Fld) (v : Nat) :
    (setF s f v).hif = s.hif := rfl
@[simp] theorem setF_queues (s : State) (f : Fld) (v : Nat) :
    (setF s f v).queues = s.queues := rfl
@[simp] theorem setF_sor (s : State) (f : Fld) (v : Nat) :
    (setF s f v).sor = s.sor := rfl
@[simp] theorem setF_dma (s : State) (f : Fld) (v : Nat) :
    (setF s f v).dma = s.dma := rfl
@[simp] theorem setF_srf (s : State) (f : Fld) (v : Nat) :
    (setF s f v).srf = s.srf := rfl
@[simp] theorem setF_drc (s : State) (f : Fld) (v : Nat) :
    (setF s f v).drc = s.drc := rfl
@[simp] theorem setF_chn (s : State) (f : Fld) (v : Nat) :
    (setF s f v).chn = s.chn := rfl
@[simp] theorem setF_cmp (s : State) (f : Fld) (v : Nat) :
    (setF s f v).cmp = s.cmp := rfl
@[simp] theorem setF_frt (s : State) (f : Fld) (v : Nat) :
    (setF s f v).frt = s.frt := rfl
@[simp] theorem setF_lnk (s : State) (f : Fld) (v : Nat) :
    (setF s f v).lnk = s.lnk := rfl
@[simp] theorem setF_tim (s : State) (f : Fld) (v : Nat) :
    (setF s f v).tim = s.tim := rfl
@[simp] theorem setF_tan (s : State) (f : Fld) (v : Nat) :
    (setF s f v).tan = s.tan := rfl
@[simp] theorem setF_sec (s : State) (f : Fld) (v : Nat) :
    (setF s f v).sec = s.sec := rfl
@[simp] theorem setF_lmp (s : State) (f : Fld) (v : Nat) :
    (setF s f v).lmp = s.lmp := rfl
@[simp] theorem setF_spk (s : State) (f : Fld) (v : Nat) :
    (setF s f v).spk = s.spk := rfl
@[simp] theorem setF_thm (s : State) (f : Fld) (v : Nat) :
    (setF s f v).thm = s.thm := rfl
@[simp] theorem setF_cal (s : State) (f : Fld) (v : Nat) :
    (setF s f v).cal = s.cal := rfl
@[simp] theorem setF_upd (s : State) (f : Fld) (v : Nat) :
    (setF s f v).upd = s.upd := rfl
@[simp] theorem setF_dram (s : State) (f : Fld) (v : Nat) :
    (setF s f v).dram = s.dram := rfl
@[simp] theorem setF_ring (s : State) (f : Fld) (v : Nat) :
    (setF s f v).ring = s.ring := rfl
@[simp] theorem setF_time (s : State) (f : Fld) (v : Nat) :
    (setF s f v).time = s.time := rfl
@[simp] theorem setF_wraps (s : State) (f : Fld) (v : Nat) :
    (setF s f v).wraps = s.wraps := rfl
@[simp] theorem setF_up (s : State) (f : Fld) (v : Nat) :
    (setF s f v).up = s.up := rfl
@[simp] theorem setF_out (s : State) (f : Fld) (v : Nat) :
    (setF s f v).out = s.out := rfl
@[simp] theorem setF_free (s : State) (f : Fld) (v : Nat) :
    (setF s f v).free = s.free := rfl
@[simp] theorem setF_pending (s : State) (f : Fld) (v : Nat) :
    (setF s f v).pending = s.pending := rfl

/-! A saturating count. -/

@[simp] theorem incSat_boot (s : State) (f : Fld) (n : Nat) :
    (incSat s f n).boot = s.boot := rfl
@[simp] theorem incSat_hif (s : State) (f : Fld) (n : Nat) :
    (incSat s f n).hif = s.hif := rfl
@[simp] theorem incSat_queues (s : State) (f : Fld) (n : Nat) :
    (incSat s f n).queues = s.queues := rfl
@[simp] theorem incSat_sor (s : State) (f : Fld) (n : Nat) :
    (incSat s f n).sor = s.sor := rfl
@[simp] theorem incSat_dma (s : State) (f : Fld) (n : Nat) :
    (incSat s f n).dma = s.dma := rfl
@[simp] theorem incSat_srf (s : State) (f : Fld) (n : Nat) :
    (incSat s f n).srf = s.srf := rfl
@[simp] theorem incSat_drc (s : State) (f : Fld) (n : Nat) :
    (incSat s f n).drc = s.drc := rfl
@[simp] theorem incSat_chn (s : State) (f : Fld) (n : Nat) :
    (incSat s f n).chn = s.chn := rfl
@[simp] theorem incSat_cmp (s : State) (f : Fld) (n : Nat) :
    (incSat s f n).cmp = s.cmp := rfl
@[simp] theorem incSat_frt (s : State) (f : Fld) (n : Nat) :
    (incSat s f n).frt = s.frt := rfl
@[simp] theorem incSat_lnk (s : State) (f : Fld) (n : Nat) :
    (incSat s f n).lnk = s.lnk := rfl
@[simp] theorem incSat_tim (s : State) (f : Fld) (n : Nat) :
    (incSat s f n).tim = s.tim := rfl
@[simp] theorem incSat_tan (s : State) (f : Fld) (n : Nat) :
    (incSat s f n).tan = s.tan := rfl
@[simp] theorem incSat_sec (s : State) (f : Fld) (n : Nat) :
    (incSat s f n).sec = s.sec := rfl
@[simp] theorem incSat_lmp (s : State) (f : Fld) (n : Nat) :
    (incSat s f n).lmp = s.lmp := rfl
@[simp] theorem incSat_spk (s : State) (f : Fld) (n : Nat) :
    (incSat s f n).spk = s.spk := rfl
@[simp] theorem incSat_thm (s : State) (f : Fld) (n : Nat) :
    (incSat s f n).thm = s.thm := rfl
@[simp] theorem incSat_cal (s : State) (f : Fld) (n : Nat) :
    (incSat s f n).cal = s.cal := rfl
@[simp] theorem incSat_upd (s : State) (f : Fld) (n : Nat) :
    (incSat s f n).upd = s.upd := rfl
@[simp] theorem incSat_dram (s : State) (f : Fld) (n : Nat) :
    (incSat s f n).dram = s.dram := rfl
@[simp] theorem incSat_ring (s : State) (f : Fld) (n : Nat) :
    (incSat s f n).ring = s.ring := rfl
@[simp] theorem incSat_time (s : State) (f : Fld) (n : Nat) :
    (incSat s f n).time = s.time := rfl
@[simp] theorem incSat_wraps (s : State) (f : Fld) (n : Nat) :
    (incSat s f n).wraps = s.wraps := rfl
@[simp] theorem incSat_up (s : State) (f : Fld) (n : Nat) :
    (incSat s f n).up = s.up := rfl
@[simp] theorem incSat_out (s : State) (f : Fld) (n : Nat) :
    (incSat s f n).out = s.out := rfl
@[simp] theorem incSat_free (s : State) (f : Fld) (n : Nat) :
    (incSat s f n).free = s.free := rfl
@[simp] theorem incSat_pending (s : State) (f : Fld) (n : Nat) :
    (incSat s f n).pending = s.pending := rfl

/-! A wrapping count. -/

@[simp] theorem incMod_boot (s : State) (f : Fld) (n : Nat) :
    (incMod s f n).boot = s.boot := rfl
@[simp] theorem incMod_hif (s : State) (f : Fld) (n : Nat) :
    (incMod s f n).hif = s.hif := rfl
@[simp] theorem incMod_queues (s : State) (f : Fld) (n : Nat) :
    (incMod s f n).queues = s.queues := rfl
@[simp] theorem incMod_sor (s : State) (f : Fld) (n : Nat) :
    (incMod s f n).sor = s.sor := rfl
@[simp] theorem incMod_dma (s : State) (f : Fld) (n : Nat) :
    (incMod s f n).dma = s.dma := rfl
@[simp] theorem incMod_srf (s : State) (f : Fld) (n : Nat) :
    (incMod s f n).srf = s.srf := rfl
@[simp] theorem incMod_drc (s : State) (f : Fld) (n : Nat) :
    (incMod s f n).drc = s.drc := rfl
@[simp] theorem incMod_chn (s : State) (f : Fld) (n : Nat) :
    (incMod s f n).chn = s.chn := rfl
@[simp] theorem incMod_cmp (s : State) (f : Fld) (n : Nat) :
    (incMod s f n).cmp = s.cmp := rfl
@[simp] theorem incMod_frt (s : State) (f : Fld) (n : Nat) :
    (incMod s f n).frt = s.frt := rfl
@[simp] theorem incMod_lnk (s : State) (f : Fld) (n : Nat) :
    (incMod s f n).lnk = s.lnk := rfl
@[simp] theorem incMod_tim (s : State) (f : Fld) (n : Nat) :
    (incMod s f n).tim = s.tim := rfl
@[simp] theorem incMod_tan (s : State) (f : Fld) (n : Nat) :
    (incMod s f n).tan = s.tan := rfl
@[simp] theorem incMod_sec (s : State) (f : Fld) (n : Nat) :
    (incMod s f n).sec = s.sec := rfl
@[simp] theorem incMod_lmp (s : State) (f : Fld) (n : Nat) :
    (incMod s f n).lmp = s.lmp := rfl
@[simp] theorem incMod_spk (s : State) (f : Fld) (n : Nat) :
    (incMod s f n).spk = s.spk := rfl
@[simp] theorem incMod_thm (s : State) (f : Fld) (n : Nat) :
    (incMod s f n).thm = s.thm := rfl
@[simp] theorem incMod_cal (s : State) (f : Fld) (n : Nat) :
    (incMod s f n).cal = s.cal := rfl
@[simp] theorem incMod_upd (s : State) (f : Fld) (n : Nat) :
    (incMod s f n).upd = s.upd := rfl
@[simp] theorem incMod_dram (s : State) (f : Fld) (n : Nat) :
    (incMod s f n).dram = s.dram := rfl
@[simp] theorem incMod_ring (s : State) (f : Fld) (n : Nat) :
    (incMod s f n).ring = s.ring := rfl
@[simp] theorem incMod_time (s : State) (f : Fld) (n : Nat) :
    (incMod s f n).time = s.time := rfl
@[simp] theorem incMod_wraps (s : State) (f : Fld) (n : Nat) :
    (incMod s f n).wraps = s.wraps := rfl
@[simp] theorem incMod_up (s : State) (f : Fld) (n : Nat) :
    (incMod s f n).up = s.up := rfl
@[simp] theorem incMod_out (s : State) (f : Fld) (n : Nat) :
    (incMod s f n).out = s.out := rfl
@[simp] theorem incMod_free (s : State) (f : Fld) (n : Nat) :
    (incMod s f n).free = s.free := rfl
@[simp] theorem incMod_pending (s : State) (f : Fld) (n : Nat) :
    (incMod s f n).pending = s.pending := rfl

/-! Writing one bit of a field. -/

@[simp] theorem setBitF_boot (s : State) (f : Fld) (k : Nat) (b : Bool) :
    (setBitF s f k b).boot = s.boot := rfl
@[simp] theorem setBitF_hif (s : State) (f : Fld) (k : Nat) (b : Bool) :
    (setBitF s f k b).hif = s.hif := rfl
@[simp] theorem setBitF_queues (s : State) (f : Fld) (k : Nat) (b : Bool) :
    (setBitF s f k b).queues = s.queues := rfl
@[simp] theorem setBitF_sor (s : State) (f : Fld) (k : Nat) (b : Bool) :
    (setBitF s f k b).sor = s.sor := rfl
@[simp] theorem setBitF_dma (s : State) (f : Fld) (k : Nat) (b : Bool) :
    (setBitF s f k b).dma = s.dma := rfl
@[simp] theorem setBitF_srf (s : State) (f : Fld) (k : Nat) (b : Bool) :
    (setBitF s f k b).srf = s.srf := rfl
@[simp] theorem setBitF_drc (s : State) (f : Fld) (k : Nat) (b : Bool) :
    (setBitF s f k b).drc = s.drc := rfl
@[simp] theorem setBitF_chn (s : State) (f : Fld) (k : Nat) (b : Bool) :
    (setBitF s f k b).chn = s.chn := rfl
@[simp] theorem setBitF_cmp (s : State) (f : Fld) (k : Nat) (b : Bool) :
    (setBitF s f k b).cmp = s.cmp := rfl
@[simp] theorem setBitF_frt (s : State) (f : Fld) (k : Nat) (b : Bool) :
    (setBitF s f k b).frt = s.frt := rfl
@[simp] theorem setBitF_lnk (s : State) (f : Fld) (k : Nat) (b : Bool) :
    (setBitF s f k b).lnk = s.lnk := rfl
@[simp] theorem setBitF_tim (s : State) (f : Fld) (k : Nat) (b : Bool) :
    (setBitF s f k b).tim = s.tim := rfl
@[simp] theorem setBitF_tan (s : State) (f : Fld) (k : Nat) (b : Bool) :
    (setBitF s f k b).tan = s.tan := rfl
@[simp] theorem setBitF_sec (s : State) (f : Fld) (k : Nat) (b : Bool) :
    (setBitF s f k b).sec = s.sec := rfl
@[simp] theorem setBitF_lmp (s : State) (f : Fld) (k : Nat) (b : Bool) :
    (setBitF s f k b).lmp = s.lmp := rfl
@[simp] theorem setBitF_spk (s : State) (f : Fld) (k : Nat) (b : Bool) :
    (setBitF s f k b).spk = s.spk := rfl
@[simp] theorem setBitF_thm (s : State) (f : Fld) (k : Nat) (b : Bool) :
    (setBitF s f k b).thm = s.thm := rfl
@[simp] theorem setBitF_cal (s : State) (f : Fld) (k : Nat) (b : Bool) :
    (setBitF s f k b).cal = s.cal := rfl
@[simp] theorem setBitF_upd (s : State) (f : Fld) (k : Nat) (b : Bool) :
    (setBitF s f k b).upd = s.upd := rfl
@[simp] theorem setBitF_dram (s : State) (f : Fld) (k : Nat) (b : Bool) :
    (setBitF s f k b).dram = s.dram := rfl
@[simp] theorem setBitF_ring (s : State) (f : Fld) (k : Nat) (b : Bool) :
    (setBitF s f k b).ring = s.ring := rfl
@[simp] theorem setBitF_time (s : State) (f : Fld) (k : Nat) (b : Bool) :
    (setBitF s f k b).time = s.time := rfl
@[simp] theorem setBitF_wraps (s : State) (f : Fld) (k : Nat) (b : Bool) :
    (setBitF s f k b).wraps = s.wraps := rfl
@[simp] theorem setBitF_up (s : State) (f : Fld) (k : Nat) (b : Bool) :
    (setBitF s f k b).up = s.up := rfl
@[simp] theorem setBitF_out (s : State) (f : Fld) (k : Nat) (b : Bool) :
    (setBitF s f k b).out = s.out := rfl
@[simp] theorem setBitF_free (s : State) (f : Fld) (k : Nat) (b : Bool) :
    (setBitF s f k b).free = s.free := rfl
@[simp] theorem setBitF_pending (s : State) (f : Fld) (k : Nat) (b : Bool) :
    (setBitF s f k b).pending = s.pending := rfl

/-! Putting registers back at their reset values. -/

@[simp] theorem resetRegs_boot (s : State) (lo hi : Nat) :
    (resetRegs s lo hi).boot = s.boot := rfl
@[simp] theorem resetRegs_hif (s : State) (lo hi : Nat) :
    (resetRegs s lo hi).hif = s.hif := rfl
@[simp] theorem resetRegs_queues (s : State) (lo hi : Nat) :
    (resetRegs s lo hi).queues = s.queues := rfl
@[simp] theorem resetRegs_sor (s : State) (lo hi : Nat) :
    (resetRegs s lo hi).sor = s.sor := rfl
@[simp] theorem resetRegs_dma (s : State) (lo hi : Nat) :
    (resetRegs s lo hi).dma = s.dma := rfl
@[simp] theorem resetRegs_srf (s : State) (lo hi : Nat) :
    (resetRegs s lo hi).srf = s.srf := rfl
@[simp] theorem resetRegs_drc (s : State) (lo hi : Nat) :
    (resetRegs s lo hi).drc = s.drc := rfl
@[simp] theorem resetRegs_chn (s : State) (lo hi : Nat) :
    (resetRegs s lo hi).chn = s.chn := rfl
@[simp] theorem resetRegs_cmp (s : State) (lo hi : Nat) :
    (resetRegs s lo hi).cmp = s.cmp := rfl
@[simp] theorem resetRegs_frt (s : State) (lo hi : Nat) :
    (resetRegs s lo hi).frt = s.frt := rfl
@[simp] theorem resetRegs_lnk (s : State) (lo hi : Nat) :
    (resetRegs s lo hi).lnk = s.lnk := rfl
@[simp] theorem resetRegs_tim (s : State) (lo hi : Nat) :
    (resetRegs s lo hi).tim = s.tim := rfl
@[simp] theorem resetRegs_tan (s : State) (lo hi : Nat) :
    (resetRegs s lo hi).tan = s.tan := rfl
@[simp] theorem resetRegs_sec (s : State) (lo hi : Nat) :
    (resetRegs s lo hi).sec = s.sec := rfl
@[simp] theorem resetRegs_lmp (s : State) (lo hi : Nat) :
    (resetRegs s lo hi).lmp = s.lmp := rfl
@[simp] theorem resetRegs_spk (s : State) (lo hi : Nat) :
    (resetRegs s lo hi).spk = s.spk := rfl
@[simp] theorem resetRegs_thm (s : State) (lo hi : Nat) :
    (resetRegs s lo hi).thm = s.thm := rfl
@[simp] theorem resetRegs_cal (s : State) (lo hi : Nat) :
    (resetRegs s lo hi).cal = s.cal := rfl
@[simp] theorem resetRegs_upd (s : State) (lo hi : Nat) :
    (resetRegs s lo hi).upd = s.upd := rfl
@[simp] theorem resetRegs_dram (s : State) (lo hi : Nat) :
    (resetRegs s lo hi).dram = s.dram := rfl
@[simp] theorem resetRegs_ring (s : State) (lo hi : Nat) :
    (resetRegs s lo hi).ring = s.ring := rfl
@[simp] theorem resetRegs_time (s : State) (lo hi : Nat) :
    (resetRegs s lo hi).time = s.time := rfl
@[simp] theorem resetRegs_wraps (s : State) (lo hi : Nat) :
    (resetRegs s lo hi).wraps = s.wraps := rfl
@[simp] theorem resetRegs_up (s : State) (lo hi : Nat) :
    (resetRegs s lo hi).up = s.up := rfl
@[simp] theorem resetRegs_out (s : State) (lo hi : Nat) :
    (resetRegs s lo hi).out = s.out := rfl
@[simp] theorem resetRegs_free (s : State) (lo hi : Nat) :
    (resetRegs s lo hi).free = s.free := rfl
@[simp] theorem resetRegs_pending (s : State) (lo hi : Nat) :
    (resetRegs s lo hi).pending = s.pending := rfl

/-! Sending something out. -/

@[simp] theorem emit_regs_eq (s : State) (o : Out) :
    (emit s o).regs = s.regs := rfl
@[simp] theorem emit_boot (s : State) (o : Out) :
    (emit s o).boot = s.boot := rfl
@[simp] theorem emit_hif (s : State) (o : Out) :
    (emit s o).hif = s.hif := rfl
@[simp] theorem emit_queues (s : State) (o : Out) :
    (emit s o).queues = s.queues := rfl
@[simp] theorem emit_sor (s : State) (o : Out) :
    (emit s o).sor = s.sor := rfl
@[simp] theorem emit_dma (s : State) (o : Out) :
    (emit s o).dma = s.dma := rfl
@[simp] theorem emit_srf (s : State) (o : Out) :
    (emit s o).srf = s.srf := rfl
@[simp] theorem emit_drc (s : State) (o : Out) :
    (emit s o).drc = s.drc := rfl
@[simp] theorem emit_chn (s : State) (o : Out) :
    (emit s o).chn = s.chn := rfl
@[simp] theorem emit_cmp (s : State) (o : Out) :
    (emit s o).cmp = s.cmp := rfl
@[simp] theorem emit_frt (s : State) (o : Out) :
    (emit s o).frt = s.frt := rfl
@[simp] theorem emit_lnk (s : State) (o : Out) :
    (emit s o).lnk = s.lnk := rfl
@[simp] theorem emit_tim (s : State) (o : Out) :
    (emit s o).tim = s.tim := rfl
@[simp] theorem emit_tan (s : State) (o : Out) :
    (emit s o).tan = s.tan := rfl
@[simp] theorem emit_sec (s : State) (o : Out) :
    (emit s o).sec = s.sec := rfl
@[simp] theorem emit_lmp (s : State) (o : Out) :
    (emit s o).lmp = s.lmp := rfl
@[simp] theorem emit_spk (s : State) (o : Out) :
    (emit s o).spk = s.spk := rfl
@[simp] theorem emit_thm (s : State) (o : Out) :
    (emit s o).thm = s.thm := rfl
@[simp] theorem emit_cal (s : State) (o : Out) :
    (emit s o).cal = s.cal := rfl
@[simp] theorem emit_upd (s : State) (o : Out) :
    (emit s o).upd = s.upd := rfl
@[simp] theorem emit_dram (s : State) (o : Out) :
    (emit s o).dram = s.dram := rfl
@[simp] theorem emit_ring (s : State) (o : Out) :
    (emit s o).ring = s.ring := rfl
@[simp] theorem emit_time (s : State) (o : Out) :
    (emit s o).time = s.time := rfl
@[simp] theorem emit_wraps (s : State) (o : Out) :
    (emit s o).wraps = s.wraps := rfl
@[simp] theorem emit_up (s : State) (o : Out) :
    (emit s o).up = s.up := rfl
@[simp] theorem emit_free (s : State) (o : Out) :
    (emit s o).free = s.free := rfl
@[simp] theorem emit_pending (s : State) (o : Out) :
    (emit s o).pending = s.pending := rfl

/-! Sending several things out. -/

@[simp] theorem emitAll_regs_eq (s : State) (os : List Out) :
    (emitAll s os).regs = s.regs := rfl
@[simp] theorem emitAll_boot (s : State) (os : List Out) :
    (emitAll s os).boot = s.boot := rfl
@[simp] theorem emitAll_hif (s : State) (os : List Out) :
    (emitAll s os).hif = s.hif := rfl
@[simp] theorem emitAll_queues (s : State) (os : List Out) :
    (emitAll s os).queues = s.queues := rfl
@[simp] theorem emitAll_sor (s : State) (os : List Out) :
    (emitAll s os).sor = s.sor := rfl
@[simp] theorem emitAll_dma (s : State) (os : List Out) :
    (emitAll s os).dma = s.dma := rfl
@[simp] theorem emitAll_srf (s : State) (os : List Out) :
    (emitAll s os).srf = s.srf := rfl
@[simp] theorem emitAll_drc (s : State) (os : List Out) :
    (emitAll s os).drc = s.drc := rfl
@[simp] theorem emitAll_chn (s : State) (os : List Out) :
    (emitAll s os).chn = s.chn := rfl
@[simp] theorem emitAll_cmp (s : State) (os : List Out) :
    (emitAll s os).cmp = s.cmp := rfl
@[simp] theorem emitAll_frt (s : State) (os : List Out) :
    (emitAll s os).frt = s.frt := rfl
@[simp] theorem emitAll_lnk (s : State) (os : List Out) :
    (emitAll s os).lnk = s.lnk := rfl
@[simp] theorem emitAll_tim (s : State) (os : List Out) :
    (emitAll s os).tim = s.tim := rfl
@[simp] theorem emitAll_tan (s : State) (os : List Out) :
    (emitAll s os).tan = s.tan := rfl
@[simp] theorem emitAll_sec (s : State) (os : List Out) :
    (emitAll s os).sec = s.sec := rfl
@[simp] theorem emitAll_lmp (s : State) (os : List Out) :
    (emitAll s os).lmp = s.lmp := rfl
@[simp] theorem emitAll_spk (s : State) (os : List Out) :
    (emitAll s os).spk = s.spk := rfl
@[simp] theorem emitAll_thm (s : State) (os : List Out) :
    (emitAll s os).thm = s.thm := rfl
@[simp] theorem emitAll_cal (s : State) (os : List Out) :
    (emitAll s os).cal = s.cal := rfl
@[simp] theorem emitAll_upd (s : State) (os : List Out) :
    (emitAll s os).upd = s.upd := rfl
@[simp] theorem emitAll_dram (s : State) (os : List Out) :
    (emitAll s os).dram = s.dram := rfl
@[simp] theorem emitAll_ring (s : State) (os : List Out) :
    (emitAll s os).ring = s.ring := rfl
@[simp] theorem emitAll_time (s : State) (os : List Out) :
    (emitAll s os).time = s.time := rfl
@[simp] theorem emitAll_wraps (s : State) (os : List Out) :
    (emitAll s os).wraps = s.wraps := rfl
@[simp] theorem emitAll_up (s : State) (os : List Out) :
    (emitAll s os).up = s.up := rfl
@[simp] theorem emitAll_free (s : State) (os : List Out) :
    (emitAll s os).free = s.free := rfl
@[simp] theorem emitAll_pending (s : State) (os : List Out) :
    (emitAll s os).pending = s.pending := rfl

/-! A store into DRAM. -/

@[simp] theorem dramWr_regs_eq (s : State) (a : Nat) (b : Bytes) :
    (dramWr s a b).regs = s.regs := rfl
@[simp] theorem dramWr_boot (s : State) (a : Nat) (b : Bytes) :
    (dramWr s a b).boot = s.boot := rfl
@[simp] theorem dramWr_hif (s : State) (a : Nat) (b : Bytes) :
    (dramWr s a b).hif = s.hif := rfl
@[simp] theorem dramWr_queues (s : State) (a : Nat) (b : Bytes) :
    (dramWr s a b).queues = s.queues := rfl
@[simp] theorem dramWr_sor (s : State) (a : Nat) (b : Bytes) :
    (dramWr s a b).sor = s.sor := rfl
@[simp] theorem dramWr_dma (s : State) (a : Nat) (b : Bytes) :
    (dramWr s a b).dma = s.dma := rfl
@[simp] theorem dramWr_srf (s : State) (a : Nat) (b : Bytes) :
    (dramWr s a b).srf = s.srf := rfl
@[simp] theorem dramWr_chn (s : State) (a : Nat) (b : Bytes) :
    (dramWr s a b).chn = s.chn := rfl
@[simp] theorem dramWr_cmp (s : State) (a : Nat) (b : Bytes) :
    (dramWr s a b).cmp = s.cmp := rfl
@[simp] theorem dramWr_frt (s : State) (a : Nat) (b : Bytes) :
    (dramWr s a b).frt = s.frt := rfl
@[simp] theorem dramWr_lnk (s : State) (a : Nat) (b : Bytes) :
    (dramWr s a b).lnk = s.lnk := rfl
@[simp] theorem dramWr_tim (s : State) (a : Nat) (b : Bytes) :
    (dramWr s a b).tim = s.tim := rfl
@[simp] theorem dramWr_tan (s : State) (a : Nat) (b : Bytes) :
    (dramWr s a b).tan = s.tan := rfl
@[simp] theorem dramWr_sec (s : State) (a : Nat) (b : Bytes) :
    (dramWr s a b).sec = s.sec := rfl
@[simp] theorem dramWr_lmp (s : State) (a : Nat) (b : Bytes) :
    (dramWr s a b).lmp = s.lmp := rfl
@[simp] theorem dramWr_spk (s : State) (a : Nat) (b : Bytes) :
    (dramWr s a b).spk = s.spk := rfl
@[simp] theorem dramWr_thm (s : State) (a : Nat) (b : Bytes) :
    (dramWr s a b).thm = s.thm := rfl
@[simp] theorem dramWr_cal (s : State) (a : Nat) (b : Bytes) :
    (dramWr s a b).cal = s.cal := rfl
@[simp] theorem dramWr_upd (s : State) (a : Nat) (b : Bytes) :
    (dramWr s a b).upd = s.upd := rfl
@[simp] theorem dramWr_ring (s : State) (a : Nat) (b : Bytes) :
    (dramWr s a b).ring = s.ring := rfl
@[simp] theorem dramWr_time (s : State) (a : Nat) (b : Bytes) :
    (dramWr s a b).time = s.time := rfl
@[simp] theorem dramWr_wraps (s : State) (a : Nat) (b : Bytes) :
    (dramWr s a b).wraps = s.wraps := rfl
@[simp] theorem dramWr_up (s : State) (a : Nat) (b : Bytes) :
    (dramWr s a b).up = s.up := rfl
@[simp] theorem dramWr_out (s : State) (a : Nat) (b : Bytes) :
    (dramWr s a b).out = s.out := rfl
@[simp] theorem dramWr_free (s : State) (a : Nat) (b : Bytes) :
    (dramWr s a b).free = s.free := rfl
@[simp] theorem dramWr_pending (s : State) (a : Nat) (b : Bytes) :
    (dramWr s a b).pending = s.pending := rfl

/-! A store into ring memory. -/

@[simp] theorem ringWr_regs_eq (s : State) (a : Nat) (b : Bytes) :
    (ringWr s a b).regs = s.regs := rfl
@[simp] theorem ringWr_boot (s : State) (a : Nat) (b : Bytes) :
    (ringWr s a b).boot = s.boot := rfl
@[simp] theorem ringWr_hif (s : State) (a : Nat) (b : Bytes) :
    (ringWr s a b).hif = s.hif := rfl
@[simp] theorem ringWr_queues (s : State) (a : Nat) (b : Bytes) :
    (ringWr s a b).queues = s.queues := rfl
@[simp] theorem ringWr_sor (s : State) (a : Nat) (b : Bytes) :
    (ringWr s a b).sor = s.sor := rfl
@[simp] theorem ringWr_dma (s : State) (a : Nat) (b : Bytes) :
    (ringWr s a b).dma = s.dma := rfl
@[simp] theorem ringWr_srf (s : State) (a : Nat) (b : Bytes) :
    (ringWr s a b).srf = s.srf := rfl
@[simp] theorem ringWr_drc (s : State) (a : Nat) (b : Bytes) :
    (ringWr s a b).drc = s.drc := rfl
@[simp] theorem ringWr_chn (s : State) (a : Nat) (b : Bytes) :
    (ringWr s a b).chn = s.chn := rfl
@[simp] theorem ringWr_cmp (s : State) (a : Nat) (b : Bytes) :
    (ringWr s a b).cmp = s.cmp := rfl
@[simp] theorem ringWr_frt (s : State) (a : Nat) (b : Bytes) :
    (ringWr s a b).frt = s.frt := rfl
@[simp] theorem ringWr_lnk (s : State) (a : Nat) (b : Bytes) :
    (ringWr s a b).lnk = s.lnk := rfl
@[simp] theorem ringWr_tim (s : State) (a : Nat) (b : Bytes) :
    (ringWr s a b).tim = s.tim := rfl
@[simp] theorem ringWr_tan (s : State) (a : Nat) (b : Bytes) :
    (ringWr s a b).tan = s.tan := rfl
@[simp] theorem ringWr_sec (s : State) (a : Nat) (b : Bytes) :
    (ringWr s a b).sec = s.sec := rfl
@[simp] theorem ringWr_lmp (s : State) (a : Nat) (b : Bytes) :
    (ringWr s a b).lmp = s.lmp := rfl
@[simp] theorem ringWr_spk (s : State) (a : Nat) (b : Bytes) :
    (ringWr s a b).spk = s.spk := rfl
@[simp] theorem ringWr_thm (s : State) (a : Nat) (b : Bytes) :
    (ringWr s a b).thm = s.thm := rfl
@[simp] theorem ringWr_cal (s : State) (a : Nat) (b : Bytes) :
    (ringWr s a b).cal = s.cal := rfl
@[simp] theorem ringWr_upd (s : State) (a : Nat) (b : Bytes) :
    (ringWr s a b).upd = s.upd := rfl
@[simp] theorem ringWr_dram (s : State) (a : Nat) (b : Bytes) :
    (ringWr s a b).dram = s.dram := rfl
@[simp] theorem ringWr_time (s : State) (a : Nat) (b : Bytes) :
    (ringWr s a b).time = s.time := rfl
@[simp] theorem ringWr_wraps (s : State) (a : Nat) (b : Bytes) :
    (ringWr s a b).wraps = s.wraps := rfl
@[simp] theorem ringWr_up (s : State) (a : Nat) (b : Bytes) :
    (ringWr s a b).up = s.up := rfl
@[simp] theorem ringWr_out (s : State) (a : Nat) (b : Bytes) :
    (ringWr s a b).out = s.out := rfl
@[simp] theorem ringWr_free (s : State) (a : Nat) (b : Bytes) :
    (ringWr s a b).free = s.free := rfl
@[simp] theorem ringWr_pending (s : State) (a : Nat) (b : Bytes) :
    (ringWr s a b).pending = s.pending := rfl

/-! Writing a pending bit. -/

@[simp] theorem setVecPending_boot (s : State) (v : Nat) (b : Bool) :
    (setVecPending s v b).boot = s.boot := rfl
@[simp] theorem setVecPending_hif (s : State) (v : Nat) (b : Bool) :
    (setVecPending s v b).hif = s.hif := rfl
@[simp] theorem setVecPending_queues (s : State) (v : Nat) (b : Bool) :
    (setVecPending s v b).queues = s.queues := rfl
@[simp] theorem setVecPending_sor (s : State) (v : Nat) (b : Bool) :
    (setVecPending s v b).sor = s.sor := rfl
@[simp] theorem setVecPending_dma (s : State) (v : Nat) (b : Bool) :
    (setVecPending s v b).dma = s.dma := rfl
@[simp] theorem setVecPending_srf (s : State) (v : Nat) (b : Bool) :
    (setVecPending s v b).srf = s.srf := rfl
@[simp] theorem setVecPending_drc (s : State) (v : Nat) (b : Bool) :
    (setVecPending s v b).drc = s.drc := rfl
@[simp] theorem setVecPending_chn (s : State) (v : Nat) (b : Bool) :
    (setVecPending s v b).chn = s.chn := rfl
@[simp] theorem setVecPending_cmp (s : State) (v : Nat) (b : Bool) :
    (setVecPending s v b).cmp = s.cmp := rfl
@[simp] theorem setVecPending_frt (s : State) (v : Nat) (b : Bool) :
    (setVecPending s v b).frt = s.frt := rfl
@[simp] theorem setVecPending_lnk (s : State) (v : Nat) (b : Bool) :
    (setVecPending s v b).lnk = s.lnk := rfl
@[simp] theorem setVecPending_tim (s : State) (v : Nat) (b : Bool) :
    (setVecPending s v b).tim = s.tim := rfl
@[simp] theorem setVecPending_tan (s : State) (v : Nat) (b : Bool) :
    (setVecPending s v b).tan = s.tan := rfl
@[simp] theorem setVecPending_sec (s : State) (v : Nat) (b : Bool) :
    (setVecPending s v b).sec = s.sec := rfl
@[simp] theorem setVecPending_lmp (s : State) (v : Nat) (b : Bool) :
    (setVecPending s v b).lmp = s.lmp := rfl
@[simp] theorem setVecPending_spk (s : State) (v : Nat) (b : Bool) :
    (setVecPending s v b).spk = s.spk := rfl
@[simp] theorem setVecPending_thm (s : State) (v : Nat) (b : Bool) :
    (setVecPending s v b).thm = s.thm := rfl
@[simp] theorem setVecPending_cal (s : State) (v : Nat) (b : Bool) :
    (setVecPending s v b).cal = s.cal := rfl
@[simp] theorem setVecPending_upd (s : State) (v : Nat) (b : Bool) :
    (setVecPending s v b).upd = s.upd := rfl
@[simp] theorem setVecPending_dram (s : State) (v : Nat) (b : Bool) :
    (setVecPending s v b).dram = s.dram := rfl
@[simp] theorem setVecPending_ring (s : State) (v : Nat) (b : Bool) :
    (setVecPending s v b).ring = s.ring := rfl
@[simp] theorem setVecPending_time (s : State) (v : Nat) (b : Bool) :
    (setVecPending s v b).time = s.time := rfl
@[simp] theorem setVecPending_wraps (s : State) (v : Nat) (b : Bool) :
    (setVecPending s v b).wraps = s.wraps := rfl
@[simp] theorem setVecPending_up (s : State) (v : Nat) (b : Bool) :
    (setVecPending s v b).up = s.up := rfl
@[simp] theorem setVecPending_out (s : State) (v : Nat) (b : Bool) :
    (setVecPending s v b).out = s.out := rfl
@[simp] theorem setVecPending_free (s : State) (v : Nat) (b : Bool) :
    (setVecPending s v b).free = s.free := rfl
@[simp] theorem setVecPending_pending (s : State) (v : Nat) (b : Bool) :
    (setVecPending s v b).pending = s.pending := rfl

end Sys2Proof.Machine
end

