-- ==== Sys2Proof/Machine/Line.lean ====
section
/-! DEFINITION. The symbols that a chain port's transmit lanes carry: 8b/10b coding, blocks, trains, lane assignment, parity,
scrambling and the pannier lane (R265 to R268, R270 to R272, R280, R291, R294, R297). `State.out` records what a port sends as cells,
blocks and training sets; `lineSymbols` spells that record out in symbols. How many idle codewords, and how many repetitions of a
training set, time puts before an entry of the record is its argument. DESIGN CHOICE (log entry 140). -/

namespace Sys2Proof.Machine

/-- The characters that a lane sends: a data byte, or one of the five control characters of R265. -/
inductive Sym where
  | data (b : Byte)
  | com | fil | rsd | sof | str
  deriving DecidableEq, Repr

/-- The 5b/6b code of the low five bits at negative running disparity, bit a first. PRESUMED (log entry 140). -/
def code6 : List Nat :=
  [0b100111, 0b011101, 0b101101, 0b110001, 0b110101, 0b101001, 0b011001, 0b111000,
   0b111001, 0b100101, 0b010101, 0b110100, 0b001101, 0b101100, 0b011100, 0b010111,
   0b011011, 0b100011, 0b010011, 0b110010, 0b001011, 0b101010, 0b011010, 0b111010,
   0b110011, 0b100110, 0b010110, 0b110110, 0b001110, 0b101110, 0b011110, 0b101011]

/-- The 3b/4b code of the high three bits at negative running disparity, bit f first. PRESUMED (log entry 140). -/
def code4 : List Nat := [0b1011, 0b1001, 0b0101, 0b1100, 0b1101, 0b1010, 0b0110, 0b1110]

/-- Ones in the low `n` bits of a number. -/
def ones (n v : Nat) : Nat := ((List.range n).filter (fun i => v.testBit i)).length

/-- A sub-block of `n` bits at running disparity `rd` (true is positive), from its code at negative disparity: the complement where
the code is unbalanced or one of a balanced pair; with the disparity after it. -/
def subBlock (n v : Nat) (pair rd : Bool) : Nat × Bool :=
  let even := 2 * ones n v == n
  (if rd && (!even || pair) then 2 ^ n - 1 - v else v, if even then rd else !rd)

/-- The ten bits of a data byte, bit a first, and the running disparity after it. -/
def codeData (b : Nat) (rd : Bool) : Nat × Bool :=
  let x := b % 32
  let y := b / 32 % 8
  let (lo, rd1) := subBlock 6 (code6.getD x 0) (x == 7) rd
  let alt := y == 7 && (if rd1 then [11, 13, 14].contains x else [17, 18, 20].contains x)
  let (hi, rd2) := subBlock 4 (if alt then 0b0111 else code4.getD y 0) (y == 3) rd1
  (lo * 16 + hi, rd2)

/-- The ten bits of a control character at negative running disparity. -/
def ctlCode : Sym → Nat
  | .com => 0b0011111010
  | .fil => 0b0011110100
  | .rsd => 0b0011110101
  | .sof => 0b0011110011
  | .str => 0b0011110110
  | .data _ => 0

/-- A character as a lane sends it, and the lane's running disparity after it (R265). -/
def codeSym (rd : Bool) : Sym → Nat × Bool
  | .data b => codeData b.toNat rd
  | k => subBlock 10 (ctlCode k) true rd

/-- A transmitter's place in its stream. -/
structure LineSt where
  /-- transmit scrambler (R271) -/
  scr : Nat
  /-- running disparity of the five lanes -/
  rd : List Bool
  /-- codeword slots since the last block (R267) -/
  slot : Nat
  /-- the transmitter originates its stream (R270) -/
  orig : Bool
  /-- logical lane that the pannier lane copies, now and from the next block on (R291) -/
  copy : Nat
  next : Nat
  deriving DecidableEq, Repr

/-- A transmitter that leaves electrical idle: every lane at RD− (R265). -/
def lineIdle : LineSt := ⟨scrSeed, List.replicate 5 false, 68, true, 0, 0⟩

/-- One symbol time: five characters, coded. -/
def symbolTime (l : LineSt) (cs : List Sym) : List Nat × LineSt :=
  let r := (List.range 5).map (fun i => codeSym (l.rd.getD i false) (cs.getD i .com))
  (r.map Prod.fst, { l with rd := r.map Prod.snd })

/-- Symbol times one after the other. -/
def symbolTimes (l : LineSt) : List (List Sym) → List (List Nat) × LineSt
  | [] => ([], l)
  | cs :: t =>
    let (a, l) := symbolTime l cs
    let (r, l) := symbolTimes l t
    (a :: r, l)

/-- The characters of a block of `len` symbols (R266): 0 FWB, 1 SOF, 2 RSD, 3 STR for lane `n`. -/
def blockChars (kind len n : Nat) : List Sym :=
  match kind with
  | 1 => [.com, .sof] ++ List.replicate (len - 2) .fil
  | 2 => [.com, .rsd] ++ List.replicate (len - 2) .fil
  | 3 => [.com, .str, .data (byte (n % 4)), .data (byte (255 - n % 4))]
  | _ => .com :: List.replicate (len - 1) .fil

/-- A block on all five lanes at once: the train begins anew, SOF and RSD reload the scrambler, and a new pannier copy begins. -/
def lineBlock (l : LineSt) (kind len n : Nat) : List (List Nat) × LineSt :=
  let (r, l) := symbolTimes l ((blockChars kind len n).map (List.replicate 5 ·))
  (r, { l with slot := 0, copy := l.next, scr := if kind = 1 ∨ kind = 2 then scrSeed else l.scr })

/-- The 240 bytes of a codeword: one that goes on as received, or a cell with its parity (R272, R297). -/
def codewordOf (c : Bytes) : Bytes :=
  if c.length = 240 then c
  else
    let g : GF := ⟨8, 0x11D⟩
    fit 224 c ++ (g.parity (g.generator 0 16) ((fit 224 c).map BitVec.toNat)).map byte

/-- The characters of symbol time `j` of a codeword slot: byte k on logical lane k mod 4, and the copied lane on the pannier lane
(R268, R291). -/
def slotChars (copy : Nat) (w : Bytes) (j : Nat) : List Sym :=
  [0, 1, 2, 3, copy].map (fun n => .data (w.getD (4 * j + n) 0#8))

/-- One codeword slot (R268, R271). -/
def slotLine (l : LineSt) (w : Bytes) : List (List Nat) × LineSt :=
  let (x, v) := scramble l.scr w
  let (r, l) := symbolTimes l ((List.range 60).map (slotChars l.copy x))
  (r, { l with scr := v, slot := l.slot + 1 })

/-- A codeword in the next slot: an originating transmitter sends an FWB first where a train has ended (R267, R270). -/
def lineCodeword (l : LineSt) (w : Bytes) : List (List Nat) × LineSt :=
  if l.orig && decide (68 ≤ l.slot) then
    let (a, l) := lineBlock l 0 4 0
    let (b, l) := slotLine l w
    (a ++ b, l)
  else slotLine l w

/-- `n` idle codewords (R271). -/
def lineIdles (l : LineSt) : Nat → List (List Nat) × LineSt
  | 0 => ([], l)
  | n + 1 =>
    let (a, l) := lineCodeword l (zeros 240)
    let (b, l) := lineIdles l n
    (a ++ b, l)

/-- The training sets of the lanes, `n + 1` times (R280). -/
def lineSets (l : LineSt) (sets : List Bytes) : Nat → List (List Nat) × LineSt
  | n =>
    let at' (j : Nat) : List Sym :=
      (List.range 5).map (fun i => if j = 0 then .com else .data ((sets.getD i []).getD j 0#8))
    let one := (List.range 16).map at'
    symbolTimes { l with slot := 68, orig := true } (List.replicate (n + 1) one).flatten

/-- The first `j` symbol times of an idle codeword slot, cut short by a block (R269): its scrambler has advanced by their bytes. -/
def lineRunt (l : LineSt) (j : Nat) : List (List Nat) × LineSt :=
  let (x, v) := scramble l.scr (zeros (4 * j))
  let (r, l) := symbolTimes l ((List.range j).map (slotChars l.copy x))
  (r, { l with scr := v })

/-- A received block goes on at once. A transmitter that originated its stream until then leaves the idle slot it is in, `n` symbols of
idle codewords after its last entry, and forwards from here on (R270). -/
def lineForward (l : LineSt) (n kind len k : Nat) : List (List Nat) × LineSt :=
  let (a, l) := if l.orig then lineIdles l (n / 60) else ([], l)
  let (b, l) := if l.orig then lineRunt l (n % 60) else ([], l)
  let (c, l) := lineBlock { l with orig := false } kind len k
  (a ++ b ++ c, l)

/-- What one entry of `State.out` puts on the lanes of port `p`, with `n` idle codewords before it or repetitions of it; before a block
that is forwarded, `n` symbols of them. A block of an originating transmitter waits for its block position (R267, R270). -/
def lineEntry (p n : Nat) (l : LineSt) (o : Out) : List (List Nat) × LineSt :=
  let own (q kind k : Nat) : List (List Nat) × LineSt :=
    if q ≠ p then ([], l)
    else
      let (a, l) := lineIdles { l with orig := true } (68 - l.slot)
      let (b, l) := lineBlock l kind 4 k
      (a ++ b, l)
  match o with
  | .idleTx q => ([], if q = p then lineIdle else l)
  | .train q sets => if q = p then lineSets l sets n else ([], l)
  | .block q kind => own q kind 0
  | .steer q k false => own q 3 k
  | .steer q k true => if q = p then lineForward l n 3 4 k else ([], l)
  | .fwdBlock q kind len => if q = p then lineForward l n kind len 0 else ([], l)
  | .orig q => ([], if q = p then { l with orig := true } else l)
  | .pannier q k => ([], if q = p then { l with next := k } else l)
  | .cell q c =>
    if q = p then
      let (a, l) := lineIdles l n
      let (b, l) := lineCodeword l (codewordOf c)
      (a ++ b, l)
    else ([], l)
  | _ => ([], l)

/-- The symbols that the five transmit lanes of port `p` carry for a record of outputs, one list of five codes for each symbol time;
`idle i` is the number of idle codewords, or of repetitions, that belongs to entry `i`. -/
def lineSymbols (p : Nat) (idle : Nat → Nat) (outs : List Out) : List (List Nat) :=
  ((List.range outs.length).zip outs).foldl (fun (a : List (List Nat) × LineSt) e =>
    let (r, l) := lineEntry p (idle e.1) a.2 e.2
    (a.1 ++ r, l)) ([], lineIdle) |>.1

/-! ### Receiving (R265, R298) -/

/-- The characters that are sent (R265). -/
def sentChars : List Sym := (List.range 256).map (fun b => .data (byte b)) ++ [.com, .fil, .rsd, .sof, .str]

/-- The running disparity after the `n` bits of a received sub-block, the low half of them ones or zeros counting too. PRESUMED (log
entry 140). -/
def rdAfter (n v : Nat) (rd : Bool) : Bool :=
  let o := ones n v
  if n < 2 * o ∨ v + 1 = 2 ^ (n / 2) then true else if 2 * o < n ∨ v + 2 ^ (n / 2) = 2 ^ n then false else rd

/-- A received symbol: its character, none for a code violation; whether it stands at the wrong disparity; and the disparity after
it. A control character that is none of the five is a code violation (R265). -/
def decodeSym (rd : Bool) (code : Nat) : Option Sym × Bool × Bool :=
  let after := rdAfter 4 (code % 16) (rdAfter 6 (code / 16) rd)
  match sentChars.find? (fun c => (codeSym rd c).1 == code) with
  | some c => (some c, false, after)
  | none => (sentChars.find? (fun c => (codeSym (!rd) c).1 == code), true, after)

/-- A received symbol inside a codeword slot, with its entry number, joined to what came before: the data bytes, the entries with a code
violation and those with a disparity error, and the disparities. A control character there is a code violation; one of the five: DESIGN
CHOICE (log entry 140). -/
def slotSymbol (a : Bytes × List Nat × List Nat × List Bool) (e lane code : Nat) : Bytes × List Nat × List Nat × List Bool :=
  let (raw, cv, disp, rd) := a
  let (c, wrong, after) := decodeSym (rd.getD lane false) code
  let rd := rd.set lane after
  match c with
  | some (.data b) => (raw ++ [b], cv, if wrong then disp ++ [e] else disp, rd)
  | _ => (raw ++ [0#8], cv ++ [e], disp, rd)

/-- What the lanes bring in a codeword slot, one list for each symbol time with the codes of logical lanes 0 to 3 and of the lane that is
left: the operands of CELL_FORWARD, and the running disparities after it (R268, R298). -/
def receiveSlot (rd : List Bool) (codes : List (List Nat)) : Bytes × List Nat × List Nat × List Bool :=
  let data := (List.range 240).foldl (fun a k => slotSymbol a k (k % 4) ((codes.getD (k / 4) []).getD (k % 4) 0)) ([], [], [], rd)
  let (_, cv, disp, rd) := (List.range 60).foldl (fun a j => slotSymbol a (240 + j) 4 ((codes.getD j []).getD 4 0)) ([], data.2.1, data.2.2.1, data.2.2.2)
  (data.1, cv, disp, rd)

/-! ### Test patterns (R300) -/

/-- A lane's generator in TEST: pattern, error rate, register, bits sent, and an error that waits for the next bit. -/
structure TestSt where
  gen : Nat
  rate : Nat
  reg : Nat
  sent : Nat
  flip : Bool
  deriving DecidableEq, Repr

/-- The next `n` bits that a generator sends: one in every 2^(8 + 2 INJRATE) of them is flipped, and one for each write of INJ. -/
def testBits (t : TestSt) : Nat → List Bool × TestSt
  | 0 => ([], t)
  | n + 1 =>
    let (b, v) := prbsStep t.gen t.reg
    let period := 2 ^ (8 + 2 * t.rate)
    let flip := xor t.flip (t.rate != 0 && (t.sent + 1) % period == 0)
    let (l, t) := testBits { t with reg := v, sent := t.sent + 1, flip := false } n
    (xor b flip :: l, t)

/-- The raw bits that lane `i` sends for a record of outputs in TEST, bit 7 of a byte first: after each entry of a lane whose generator
runs, `time e` bits of its pattern, which starts from `seed`. DESIGN CHOICE (log entry 139). -/
def laneBits (i seed : Nat) (time : Nat → Nat) (outs : List Out) : List Bool :=
  ((List.range outs.length).zip outs).foldl (fun (a : List Bool × TestSt × Bool) e =>
    let (t, echo) := match e.2 with
      | .test l g r back => if l = i then ({ a.2.1 with gen := g, rate := r }, back) else a.2
      | .inject l => if l = i then ({ a.2.1 with flip := true }, a.2.2) else a.2
      | _ => a.2
    let back := match e.2 with | .echo l b => if l = i then toBits b else [] | _ => []
    let (l, t) := if echo || t.gen == 0 then (back, t) else testBits t (time e.1)
    (a.1 ++ l, t, echo)) ([], ⟨0, 0, seed, 0, false⟩, false) |>.1

end Sys2Proof.Machine
end

