-- ==== Sys2Proof/Machine/Pads.lean ====
section
/-! DEFINITION. What the signal bumps do (R49, R51, R57, R475, R608): a view of State. DESIGN CHOICE (log entry 146). -/

namespace Sys2Proof.Machine

/-- The signal bumps of R49, a group of bumps that always agree as one: scan group, spoke, pulse generator, UCIe module, chain port
and lane, DRAM channel by number. -/
inductive Pad where
  | lampEn
  | scan (g : Nat)
  | spoke (n : Nat)
  | spokeRet (n : Nat)
  | trigOut (k : Nat)
  | stat
  | tripN
  | nvmCsN
  | nvmRstN
  | nvmBus
  | tdo
  | uci (m : Nat)
  | chTx (p : Nat)
  | chRx (p : Nat)
  | ddrResetN (c : Nat)
  | ddr (c : Nat)
  deriving DecidableEq, Repr

/-- What a bump does. `driven` and `input` are the active states whose levels the block's own protocol gives. -/
inductive Drive where
  | notDriven
  | low
  | high
  | highZ
  | off
  | driven
  | electricalIdle
  | inputOff
  | input
  | terminationOff
  | terminationOn
  deriving DecidableEq, Repr

/-- The rail that supplies a bump, as a bit of GLB_RAILSTAT (R38, R47): which one supplies the chain, DDR and STAT bumps the spec does not
say. DESIGN CHOICE (log entry 146). -/
def padRail : Pad → Nat
  | .tripN => 2
  | .uci _ => 5
  | .chTx _ => 4
  | .chRx _ => 4
  | .ddrResetN _ => 7
  | .ddr _ => 7
  | _ => 9

/-- A bump whose supply is below its fault threshold. -/
def padUnpowered : Pad → Drive
  | .spokeRet _ => .inputOff
  | .chRx _ => .terminationOff
  | .stat => .off
  | _ => .notDriven

/-- A bump in cold or warm reset. -/
def padReset (s : State) : Pad → Drive
  | .lampEn => .low
  | .scan _ => .low
  | .spoke _ => .highZ
  | .spokeRet _ => .inputOff
  | .trigOut _ => .low
  | .stat => .off
  | .tripN => if tripN s then .highZ else .low
  | .nvmCsN => .high
  | .nvmRstN => if coldHeld s then .low else .high
  | .nvmBus => .highZ
  | .tdo => .highZ
  | .uci _ => .highZ
  | .chTx _ => .highZ
  | .chRx _ => .terminationOff
  | .ddrResetN _ => .low
  | .ddr _ => .highZ

/-- Is the block, port, generator or channel of a bump dormant or disabled? -/
def padDormant (s : State) : Pad → Bool
  | .lampEn => dormant s 0x11
  | .scan g => dormant s 0x12 || s.sec.extest || !groupOn s g
  | .spoke n => dormant s 0x12 || s.sec.extest || !spkOn s || !spokeOn s n
  | .spokeRet n => dormant s 0x12 || s.sec.extest || !spkOn s || !spokeOn s n
  | .trigOut k => !isSet s (F.TIM_PGCFG_EN k) && !trigOn s k
  | .uci _ => dormant s 0x02
  | .chTx p => portDormant s p
  | .chRx p => portDormant s p
  | .ddrResetN c => !chanOn s c
  | .ddr c => !chanOn s c
  | _ => false

/-- A bump in operation. -/
def padActive (s : State) : Pad → Drive
  | .lampEn => if s.lmp.lampEn then .high else .low
  | .spokeRet _ => .input
  | .trigOut k => if trigOn s k != isSet s (F.TIM_PGCFG_POL k) then .high else .low
  | .tripN => if tripN s then .highZ else .low
  | .nvmRstN => .high
  | .chTx p => if pDetect ≤ pState s p && pState s p ≤ pTest then .driven else .electricalIdle
  | .chRx p => if rxTermination s p then .terminationOn else .terminationOff
  | .ddrResetN _ => .high
  | _ => .driven

/-- What a bump does (R49). In OFF power the bumps are as in reset, and TRIP_N follows its latch. -/
def padState (s : State) (x : Pad) : Drive :=
  if s.boot.gone.contains (padRail x) then padUnpowered x
  else if inReset s || power s == 4 || padDormant s x then padReset s x
  else padActive s x

end Sys2Proof.Machine
end

