-- ==== Sys2Proof/Tests/Witness.lean ====
section
/-! SUPPORT. Small states and entries from which the witnesses of the statements' hypotheses are built. -/

namespace Sys2Proof.Machine

/-- Fields of a state, set one after the other. -/
def sets (s : State) (l : List (Fld × Nat)) : State := l.foldl (fun s e => setF s e.1 e.2) s

/-- A die out of reset and READY, with strap value `role`: 0 a sender, 1 a tile. -/
def die (role : Nat) (l : List (Fld × Nat)) : State :=
  sets { State.reset with boot := { State.reset.boot with pwronLow := false } }
    ((F.GLB_ROLE_STRAP, role) :: (F.GLB_BOOTSTAT_STAGE, 7) :: l)

/-- With the host link up, so that the host reaches the registers. -/
def up1 (s : State) : State := setF s F.HIF_LINKSTAT_UP 1

/-- An entry of 64 bytes from its nonzero fields: byte number, length, value. -/
def entryOf (l : List (Nat × Nat × Nat)) : Bytes :=
  (List.range 64).map (fun i => l.foldl (fun r e => if e.1 ≤ i && i < e.1 + e.2.1 then byte (e.2.2 / 256 ^ (i - e.1)) else r) 0#8)

/-- An item of queue 0 with this entry. -/
def itemOf (l : List (Nat × Nat × Nat)) : Item := ⟨0, 0, 0, 0, entryOf l, 0⟩

/-- Service core 0 holds this item. -/
def core0 (s : State) (it : Item) : State :=
  { s with sor := { s.sor with targets := [(0, ⟨some it, none, false, [], [], none⟩)] } }


/-! ### Data areas of zeros -/

theorem leNat_replicate (k : Nat) : leNat (List.replicate k 0#8) = 0 := by
  induction k with
  | zero => rfl
  | succ k ih => simp [List.replicate_succ, leNat, ih]

theorem leAt_zeros (n o k : Nat) : leAt (zeros n) o k = 0 := by
  have h : slice (zeros n) o k = List.replicate k 0#8 := by
    simp only [slice, zeros]
    rw [← List.length_range (n := k), ← List.map_const', List.length_range]
    refine List.map_congr_left fun i _ => ?_
    simp only [List.getD_eq_getElem?_getD, List.getElem?_replicate]
    split <;> rfl
  rw [leAt, h, leNat_replicate]

/-- The words of a curve of zeros. -/
def zeroWords : List Nat := (List.range 4096).map (fun i => leAt (zeros 16384) (4 * i) 4)

theorem curveBad_zeroWords (slot : Nat) : curveBad slot zeroWords = none := by
  have h (i : Nat) : zeroWords.getD i 0 = 0 := by
    simp only [zeroWords, leAt_zeros, List.getD_eq_getElem?_getD, List.getElem?_map]
    cases (List.range 4096)[i]? <;> rfl
  simp only [curveBad, List.find?_eq_none, h]
  intro i _
  split <;> decide

theorem areaFetch_zeros {x : State} {h off m n v p o g : Nat} {host : HostRes} (hz : m = n ∧ areaCheck x h off n = .ok ∧
    ((surfOf x h).map Surf.vp).getD 0 = v ∧ pieceList (65536 * v + off) n = [(p, o, n)] ∧ walkBad x p = false ∧
    pageMap x p = some (.loc g) ∧ dramBad x (65536 * g + o) n = false ∧ x.dram = []) :
    (areaFetch x h off m host).1 = .ok (zeros n) := by
  obtain ⟨hn, hc, hv, hp, hw, hm, hb, hd⟩ := hz
  subst hn
  have hz : dramRd x (65536 * g + o) m = zeros m := by
    rw [dramRd, hd, rdBytes, zeros, ← List.length_range (n := m), ← List.map_const', List.length_range]
    exact List.map_congr_left fun i _ => rfl
  simp only [areaFetch, hc, svcFetch, svcRead, hv, hp, List.foldl_cons, List.foldl_nil, hw, hm, hb, hz, List.nil_append]
  simp

theorem makeLoad_zeros {s : State} {it : Item} (h : byteAt it.entry 0 = 0x31) :
    makeLoad s it (zeros 16384) = .ok ⟨0x31, byteAt it.entry 1, leAt it.entry 16 4, it, zeroWords, []⟩ := by
  have hc := curveBad_zeroWords (byteAt it.entry 1)
  simp only [zeroWords] at hc
  simp [makeLoad, h, hc, zeroWords]

theorem makeLoad_filter {s : State} {it : Item} (b : Bytes) (h : byteAt it.entry 0 = 0x32) :
    makeLoad s it b = .ok ⟨0x32, byteAt it.entry 1, leAt it.entry 16 4, it, (List.range 512).map (fun i => leAt b (2 * i) 2), []⟩ := by
  simp [makeLoad, h]

theorem takeLetter_of {s : State} {p : Letter → Bool} {l : Letter} {r : List Letter}
    (h : s.chn.letters.find? p = some l ∧ s.chn.letters.erase l = r) :
    takeLetter s p = some (l, { s with chn := { s.chn with letters := r } }) := by
  obtain ⟨h, rfl⟩ := h
  simp [takeLetter, h]

theorem takeRx_of {s : State} {p : Bytes → Bool} {y : RxCell} {r : List RxCell}
    (h : s.chn.rx.find? (fun x => p x.cell) = some y ∧ s.chn.rx.erase y = r) :
    takeRx s p = some (y, { s with chn := { s.chn with rx := r } }) := by
  obtain ⟨h, rfl⟩ := h
  simp [takeRx, h]

end Sys2Proof.Machine
end

