-- ==== Sys2Proof/Tests/Boot.lean ====
section
/-! SUPPORT. For each statement of this family, states and operands that meet the hypotheses of its clauses. -/

set_option Elab.async false
set_option maxRecDepth 100000

namespace Sys2Proof.Machine

theorem test_ColdResets :
    (∃ (mask : Nat) (s : State) (k : Nat) (l : List Nat), QueuesOk s ∧ faultRails mask = k :: l ∧ getF s F.GLB_RSTCAUSE_RAIL = 0) ∧
    (∃ (k : Nat) (s : State), k < 10 ∧ k ∉ s.boot.low ∧ inReset s = false) ∧
    (∃ (k : Nat), k < 10) ∧
    (∃ (k : Nat) (s : State), QueuesOk s ∧ k < 12 ∧ thmIncluded s k = true ∧ getF s F.THM_TRIP_LATCH = 0) ∧
    (∃ (s : State), QueuesOk s) :=
  ⟨⟨992, die 0 [], 6, [7, 8, 9], by decide +kernel⟩,
   ⟨9, die 0 [], by decide +kernel⟩,
   ⟨9, by decide +kernel⟩,
   ⟨11, die 1 [], by decide +kernel⟩,
   ⟨die 1 [], by decide +kernel⟩⟩

theorem test_ColdResets_2 :
    (∃ (sel : _) (s : State), coldHeld s = true ∧ ((s.boot.tripHold = true → s.boot.tripCycled = true)) ∧ sel % 4 = 3 ∧ s.boot.pwronLow = true) ∧
    (∃ (s : State), coldHeld s = true ∧ ((s.boot.tripHold = true → s.boot.tripCycled = true))) :=
  ⟨⟨7, State.reset, by decide +kernel⟩,
   ⟨{ State.reset with boot := { State.reset.boot with tripHold := true, tripCycled := true } }, by decide +kernel⟩⟩

theorem test_WarmResetsAndClocks :
    (∃ (s : State), QueuesOk s ∧ coldHeld s = false ∧ power s ≠ 4 ∧ s.boot.warm = .none) ∧
    (∃ (s : State), QueuesOk s ∧ coldHeld s = false ∧ power s ≠ 4 ∧ s.boot.warm = .none) ∧
    (∃ (s : State), QueuesOk s ∧ barOpen s = true ∧ writeCode s R.GLB_WARMRST (F.GLB_WARMRST_KEY.put 0#32 0xA5) = .ok ∧ s.boot.warm = .none) ∧
    (∃ (s : State) (off : Nat), QueuesOk s ∧ s.boot.warm = .requested ∧ coldHeld s = false ∧ s.upd.ops = [] ∧ ((∀ f ∈ aonFields ++ warmFields, f.off ≠ off))) ∧
    (∃ (s : State), s.boot.warm = .asserted ∧ coldHeld s = false) :=
  ⟨⟨die 0 [], by decide +kernel⟩,
   ⟨die 1 [], by decide +kernel⟩,
   ⟨up1 (die 1 []), by decide +kernel⟩,
   ⟨{ die 0 [] with boot := { State.reset.boot with pwronLow := false, warm := .requested } }, 0xB0000, by decide +kernel⟩,
   ⟨{ die 0 [] with boot := { State.reset.boot with pwronLow := false, warm := .asserted } }, by decide +kernel⟩⟩

theorem test_WarmResetsAndClocks_2 :
    (∃ (s : State), inReset s = false ∧ isSet s F.CLK_LOCK_LOCK = true) ∧
    (∃ (k : Nat) (s : State), k < 8 ∧ inReset s = false ∧ pllGated s k = false ∧ fbit s F.CLK_LOCK_LOCK k = true) :=
  ⟨⟨die 0 [(F.CLK_LOCK_LOCK, 8)], by decide +kernel⟩,
   ⟨7, die 1 [(F.CLK_LOCK_LOCK, 255)], by decide +kernel⟩⟩

theorem test_BootStages :
    (∃ (s : State), booting s 1 = true ∧ isSet s F.CLK_LOCK_REFOK = true ∧ strapFault s = false) ∧
    (∃ (s : State), booting s 1 = true ∧ isSet s F.CLK_LOCK_REFOK = true ∧ strapFault s = true) ∧
    (∃ (s : State), booting s 2 = true) ∧
    (∃ (o : FirstObs) (s : State), booting s 3 = true ∧ o.layout = true ∧ newestRec (flashLearn s o) = none ∧ slotResult (flashLearn s o) o 0 = .ok) ∧
    (∃ (o : FirstObs) (s : State), booting s 3 = true ∧ o.layout = false) :=
  ⟨⟨{ die 0 [(F.GLB_BOOTSTAT_STAGE, 1), (F.CLK_LOCK_REFOK, 1)] with boot := { State.reset.boot with pwronLow := false } }, by decide +kernel⟩,
   ⟨{ die 0 [(F.GLB_BOOTSTAT_STAGE, 1), (F.CLK_LOCK_REFOK, 1), (F.GLB_ROLE_STRAP, 3)] with boot := { State.reset.boot with pwronLow := false } }, by decide +kernel⟩,
   ⟨{ die 0 [(F.GLB_BOOTSTAT_STAGE, 2)] with boot := { State.reset.boot with pwronLow := false } }, by decide +kernel⟩,
   ⟨(⟨2, 32, true, [], [], .ok, .ok⟩ : FirstObs), { die 0 [(F.GLB_BOOTSTAT_STAGE, 3)] with boot := { State.reset.boot with pwronLow := false } }, by decide +kernel⟩,
   ⟨(⟨1, 32, false, [], [], .ok, .ok⟩ : FirstObs), { die 0 [(F.GLB_BOOTSTAT_STAGE, 3)] with boot := { State.reset.boot with pwronLow := false } }, by decide +kernel⟩⟩

theorem test_BootStages_2 :
    (∃ (s : State), booting s 4 = true) ∧
    (∃ (d : DramCh) (rates : Nat × Nat × Nat) (s : State), booting s 4 = true ∧ s.boot.warmBoot = false ∧ d.on = true ∧ d.size ≤ 3 ∧ d.answers = true ∧ rates.1 ≤ 96 ∧ rates.2.1 ≤ 96 ∧ rates.2.2 ≤ 96 ∧ (trainPass (setPoints rates) d.first = true ∨ trainPass (setPoints rates) d.again = true)) ∧
    (∃ (d : DramCh) (rates : Nat × Nat × Nat) (s : State), booting s 4 = true ∧ s.boot.warmBoot = false ∧ d.on = true ∧ d.size ≤ 3 ∧ d.answers = false ∧ rates.1 ≤ 96 ∧ rates.2.1 ≤ 96 ∧ rates.2.2 ≤ 96) ∧
    (∃ (l : List Eye) (e : Eye), e ∈ l) ∧
    (∃ (o : FwObs) (s : State), QueuesOk s ∧ booting s 5 = true ∧ o.res = .ok) :=
  ⟨⟨{ die 0 [(F.GLB_BOOTSTAT_STAGE, 4)] with boot := { State.reset.boot with pwronLow := false } }, by decide +kernel⟩,
   ⟨(⟨true, 3, false, true, false, (List.range 4).map (fun b => ⟨0, b, [(60, 0, 12)], [(60, 0, 12)], 9, 0⟩), []⟩ : DramCh), (96, 0, 0), { die 0 [(F.GLB_BOOTSTAT_STAGE, 4)] with boot := { State.reset.boot with pwronLow := false } }, by decide +kernel⟩,
   ⟨(⟨true, 3, false, false, false, (List.range 4).map (fun b => ⟨0, b, [(60, 0, 12)], [(60, 0, 12)], 9, 0⟩), []⟩ : DramCh), (96, 0, 0), { die 0 [(F.GLB_BOOTSTAT_STAGE, 4)] with boot := { State.reset.boot with pwronLow := false } }, by decide +kernel⟩,
   ⟨[(60, 0, 5), (61, 9, 22), (62, 0, 13)], (62, 0, 13), by decide +kernel⟩,
   ⟨(⟨.ok, [], none, some (1, []), none⟩ : FwObs), { die 0 [(F.GLB_BOOTSTAT_STAGE, 5)] with boot := { State.reset.boot with pwronLow := false } }, by decide +kernel⟩⟩

theorem test_UcieLink :
    (∃ (dt : Nat) (mods : List (Option Nat)) (s : State) (m : Nat) (r : _), blkOn (advance dt s) 0x02 = true ∧ (advance dt s).boot.ucie = .attempt ∧ linkResult (advance dt s) mods = some (m, r) ∧ ((stage (advance dt s) = 6 ∨ stage (advance dt s) = 8)) ∧ strapFault (advance dt s) = false) ∧
    (∃ (dt : Nat) (s : State), blkOn (advance dt s) 0x02 = true ∧ (advance dt s).boot.ucie = .backoff ∧ (advance dt s).boot.relink = false ∧ (advance dt s).boot.due ≤ upNs (advance dt s)) ∧
    (∃ (dt : Nat) (s : State), blkOn (advance dt s) 0x02 = true ∧ (advance dt s).boot.ucie = .backoff ∧ (advance dt s).boot.relink = true ∧ (advance dt s).boot.due ≤ upNs (advance dt s)) ∧
    (∃ (dt : Nat) (s : State), blkOn (advance dt s) 0x02 = true ∧ stage (advance dt s) = 8 ∧ (advance dt s).boot.ucie = .closed ∧ (advance dt s).boot.fails = 0 ∧ isSet (advance dt s) F.HIF_LINKSTAT_UP = false ∧ (advance dt s).boot.due ≤ upNs (advance dt s)) ∧
    (∃ (s : State), blkOn s 0x02 = true ∧ s.boot.ucie = .closed ∧ s.boot.fails = 3 ∧ strapFault s = false ∧ stage s = 6 ∧ strap s = 2) :=
  ⟨⟨0, [some 4, some 5, some 7, some 6], { die 0 [(F.GLB_BOOTSTAT_STAGE, 6), (F.HIF_LINKCFG_MODMASK, 15), (F.HIF_LINKCFG_MAXRATE, 7)] with boot := { State.reset.boot with pwronLow := false, ucie := .attempt, modMask := 15, maxRate := 7 } }, 15, 4, by decide +kernel⟩,
   ⟨0, { die 0 [(F.GLB_BOOTSTAT_STAGE, 6)] with boot := { State.reset.boot with pwronLow := false, ucie := .backoff } }, by decide +kernel⟩,
   ⟨0, { die 0 [(F.GLB_BOOTSTAT_STAGE, 7)] with boot := { State.reset.boot with pwronLow := false, ucie := .backoff, relink := true } }, by decide +kernel⟩,
   ⟨0, { die 0 [(F.GLB_BOOTSTAT_STAGE, 8)] with boot := { State.reset.boot with pwronLow := false } }, by decide +kernel⟩,
   ⟨{ die 2 [(F.GLB_BOOTSTAT_STAGE, 6)] with boot := { State.reset.boot with pwronLow := false, fails := 3 } }, by decide +kernel⟩⟩

theorem test_UcieLink_2 :
    (∃ (s : State), blkOn s 0x02 = true ∧ s.boot.ucie = .closed ∧ s.boot.fails = 3 ∧ strapFault s = false ∧ stage s = 6 ∧ strap s ≠ 2) ∧
    (∃ (s : State), QueuesOk s ∧ blkOn s 0x02 = true ∧ isSet s F.HIF_LINKSTAT_UP = true ∧ isReady s = true) ∧
    (∃ (v : Word) (s : State), QueuesOk s ∧ barOpen s = true ∧ isReady s = true ∧ writeCode s R.HIF_LINKCFG (F.HIF_LINKCFG_RETRAIN.put v 1) = .ok) :=
  ⟨⟨{ die 1 [(F.GLB_BOOTSTAT_STAGE, 6)] with boot := { State.reset.boot with pwronLow := false, fails := 3 } }, by decide +kernel⟩,
   ⟨up1 (die 0 [(F.HIF_LINKSTAT_DOWNCNT, 65535)]), by decide +kernel⟩,
   ⟨regFill R.HIF_LINKCFG, up1 (die 1 []), by decide +kernel⟩⟩

theorem test_PcieFunction :
    (∃ (b : Bool) (mps : Nat) (mrrs : Nat) (s : State), QueuesOk s ∧ blkOn s 0x02 = true ∧ isSet s F.HIF_LINKSTAT_UP = true ∧ b = false ∧ [128, 256, 512].contains mps = true ∧ [128, 256, 512, 1024, 2048, 4096].contains mrrs = true) ∧
    (∃ (v : Nat) (s : State), blkOn s 0x02 = true ∧ isSet s F.HIF_LINKSTAT_UP = true ∧ v < 2048) ∧
    (∃ (s : State), blkOn s 0x02 = true ∧ isSet s F.HIF_LINKSTAT_UP = true) ∧
    (∃ (s : State), blkOn s 0x02 = true ∧ isSet s F.HIF_LINKSTAT_UP = true) :=
  ⟨⟨false, 128, 4096, up1 (die 0 [(F.HIF_LINKSTAT_BME, 1)]), by decide +kernel⟩,
   ⟨2047, up1 (die 0 []), by decide +kernel⟩,
   ⟨up1 (die 0 []), by decide +kernel⟩,
   ⟨up1 (die 0 []), by decide +kernel⟩⟩

end Sys2Proof.Machine
end

