-- ==== Sys2Proof/Tests/Cal.lean ====
section
/-! SUPPORT. For each statement of this family, states and operands that meet the hypotheses of its clauses. -/

set_option Elab.async false
set_option maxRecDepth 100000

namespace Sys2Proof.Machine

theorem test_LaneRecalibration :
    (∃ (dt : Nat) (i : Nat) (rest : List Nat) (s : State), blkOn (advance dt s) 0x15 = true ∧ isSet (advance dt s) F.CAL_CTL_EN = true ∧ s.cal.run = none ∧ s.cal.queue = i :: rest ∧ i < 20 ∧ calSkips (advance dt s) i = false) ∧
    (∃ (dt : Nat) (i : Nat) (rest : List Nat) (s : State), blkOn (advance dt s) 0x15 = true ∧ isSet (advance dt s) F.CAL_CTL_EN = true ∧ s.cal.run = none ∧ s.cal.queue = i :: rest ∧ i < 20 ∧ calSkips (advance dt s) i = false) ∧
    (∃ (v : Word) (s : State), WriteOk s R.CAL_CTL (F.CAL_CTL_START.put v 1)) ∧
    (∃ (r : Recal) (s : State), blkOn s 0x15 = true ∧ s.cal.run = some r ∧ r.stage = 0 ∧ r.logical ≠ 4 ∧ portUp s r.port = true ∧ r.port < 4 ∧ r.lane < 5) ∧
    (∃ (dt : Nat) (diff : Nat) (r : Recal) (s : State), blkOn (advance dt s) 0x15 = true ∧ s.cal.run = some r ∧ r.stage = 1 ∧ r.trialAt + 10000 ≤ upNs (advance dt s) ∧ (10 * diff < 4 * 40799 ∨ 6 * 40799 < 10 * diff)) :=
  ⟨⟨9, 15, [3], { die 0 [(F.CAL_CTL_EN, 1), (F.LNK_PSTAT_STATE 3, pUp)] with cal := { State.reset.cal with queue := [15, 3] }, lnk := { State.reset.lnk with ports := [(3, { portReset with lanes := List.replicate 5 { laneReset with taps := (List.replicate 9 0).set 0 9 } })] } }, by decide +kernel⟩,
   ⟨9, 18, [3], { die 0 [(F.CAL_CTL_EN, 1), (F.LNK_PSTAT_STATE 3, pUp)] with cal := { State.reset.cal with queue := [18, 3] }, lnk := { State.reset.lnk with ports := [(3, { portReset with lanes := List.replicate 5 { laneReset with taps := (List.replicate 9 0).set 0 9 } })] } }, by decide +kernel⟩,
   ⟨F.CAL_CTL_PORT.put (F.CAL_CTL_LANE.put (regFill R.CAL_CTL) 4) 3, up1 (die 0 [(F.LNK_PSTAT_STATE 3, pUp)]), by decide +kernel⟩,
   ⟨(⟨3, 4, 1, 0, 0, (List.replicate 9 0), (List.replicate 9 0).set 0 7, 3, 3, (List.replicate 9 0), 3, 3, false, false, 0, 0⟩ : Recal), { die 0 [(F.CAL_CTL_EN, 1), (F.LNK_PSTAT_STATE 3, pUp)] with cal := { State.reset.cal with run := some (⟨3, 4, 1, 0, 0, (List.replicate 9 0), (List.replicate 9 0).set 0 7, 3, 3, (List.replicate 9 0), 3, 3, false, false, 0, 0⟩ : Recal) } }, by decide +kernel⟩,
   ⟨10000, 16319, (⟨3, 4, 1, 1, 5, (List.replicate 9 0), (List.replicate 9 0).set 0 7, 3, 3, (List.replicate 9 0), 3, 3, false, false, 0, 0⟩ : Recal), { die 0 [(F.CAL_CTL_EN, 1), (F.LNK_PSTAT_STATE 3, pUp)] with cal := { State.reset.cal with run := some (⟨3, 4, 1, 1, 5, (List.replicate 9 0), (List.replicate 9 0).set 0 7, 3, 3, (List.replicate 9 0), 3, 3, false, false, 0, 0⟩ : Recal) } }, by decide +kernel⟩⟩

theorem test_LaneRecalibration_2 :
    (∃ (dt : Nat) (diff : Nat) (r : Recal) (s : State), blkOn (advance dt s) 0x15 = true ∧ s.cal.run = some r ∧ r.stage = 1 ∧ r.trialAt + 10000 ≤ upNs (advance dt s) ∧ 4 * 40799 ≤ 10 * diff ∧ 10 * diff ≤ 6 * 40799 ∧ r.trial < 87) ∧
    (∃ (dt : Nat) (diff : Nat) (r : Recal) (s : State), blkOn (advance dt s) 0x15 = true ∧ s.cal.run = some r ∧ r.stage = 1 ∧ r.trialAt + 10000 ≤ upNs (advance dt s) ∧ 4 * 40799 ≤ 10 * diff ∧ 10 * diff ≤ 6 * 40799 ∧ r.trial < 87) ∧
    (∃ (dt : Nat) (diff : Nat) (r : Recal) (s : State), blkOn (advance dt s) 0x15 = true ∧ s.cal.run = some r ∧ r.stage = 1 ∧ r.trialAt + 10000 ≤ upNs (advance dt s) ∧ 4 * 40799 ≤ 10 * diff ∧ 10 * diff ≤ 6 * 40799 ∧ r.trial < 87) ∧
    (∃ (dt : Nat) (diff : Nat) (r : Recal) (s : State), blkOn (advance dt s) 0x15 = true ∧ s.cal.run = some r ∧ r.stage = 1 ∧ r.trialAt + 10000 ≤ upNs (advance dt s) ∧ 4 * 40799 ≤ 10 * diff ∧ 10 * diff ≤ 6 * 40799 ∧ r.trial < 87) ∧
    (∃ (dt : Nat) (diff : Nat) (r : Recal) (s : State), blkOn (advance dt s) 0x15 = true ∧ s.cal.run = some r ∧ r.stage = 1 ∧ r.trialAt + 10000 ≤ upNs (advance dt s) ∧ 4 * 40799 ≤ 10 * diff ∧ 10 * diff ≤ 6 * 40799 ∧ 87 ≤ r.trial ∧ r.logical ≠ 4) :=
  ⟨⟨10000, 16320, (⟨3, 4, 1, 1, 0, (List.replicate 9 0), (List.replicate 9 0).set 0 7, 3, 3, (List.replicate 9 0), 3, 3, false, false, 0, 0⟩ : Recal), { die 0 [(F.CAL_CTL_EN, 1), (F.LNK_PSTAT_STATE 3, pUp)] with cal := { State.reset.cal with run := some (⟨3, 4, 1, 1, 0, (List.replicate 9 0), (List.replicate 9 0).set 0 7, 3, 3, (List.replicate 9 0), 3, 3, false, false, 0, 0⟩ : Recal) } }, by decide +kernel⟩,
   ⟨10000, 24479, (⟨3, 4, 1, 1, 15, (List.replicate 9 0), (List.replicate 9 0).set 0 7, 3, 3, (List.replicate 9 0), 3, 3, false, false, 0, 0⟩ : Recal), { die 0 [(F.CAL_CTL_EN, 1), (F.LNK_PSTAT_STATE 3, pUp)] with cal := { State.reset.cal with run := some (⟨3, 4, 1, 1, 15, (List.replicate 9 0), (List.replicate 9 0).set 0 7, 3, 3, (List.replicate 9 0), 3, 3, false, false, 0, 0⟩ : Recal) } }, by decide +kernel⟩,
   ⟨10000, 24479, (⟨3, 4, 1, 1, 16, (List.replicate 9 0), (List.replicate 9 0).set 0 7, 3, 3, (List.replicate 9 0), 3, 3, false, false, 0, 0⟩ : Recal), { die 0 [(F.CAL_CTL_EN, 1), (F.LNK_PSTAT_STATE 3, pUp)] with cal := { State.reset.cal with run := some (⟨3, 4, 1, 1, 16, (List.replicate 9 0), (List.replicate 9 0).set 0 7, 3, 3, (List.replicate 9 0), 3, 3, false, false, 0, 0⟩ : Recal) } }, by decide +kernel⟩,
   ⟨10000, 20000, (⟨3, 4, 1, 1, 86, (List.replicate 9 0), (List.replicate 9 0).set 0 7, 3, 3, (List.replicate 9 0), 3, 3, false, false, 0, 0⟩ : Recal), { die 0 [(F.CAL_CTL_EN, 1), (F.LNK_PSTAT_STATE 3, pUp)] with cal := { State.reset.cal with run := some (⟨3, 4, 1, 1, 86, (List.replicate 9 0), (List.replicate 9 0).set 0 7, 3, 3, (List.replicate 9 0), 3, 3, false, false, 0, 0⟩ : Recal) } }, by decide +kernel⟩,
   ⟨10000, 20000, (⟨3, 4, 1, 1, 87, (List.replicate 9 0), (List.replicate 9 0).set 0 7, 3, 3, (List.replicate 9 0), 3, 3, false, false, 0, 0⟩ : Recal), { die 0 [(F.CAL_CTL_EN, 1), (F.LNK_PSTAT_STATE 3, pUp)] with cal := { State.reset.cal with run := some (⟨3, 4, 1, 1, 87, (List.replicate 9 0), (List.replicate 9 0).set 0 7, 3, 3, (List.replicate 9 0), 3, 3, false, false, 0, 0⟩ : Recal) } }, by decide +kernel⟩⟩

theorem test_LaneRecalibration_3 :
    (∃ (dt : Nat) (diff : Nat) (r : Recal) (s : State), blkOn (advance dt s) 0x15 = true ∧ s.cal.run = some r ∧ r.stage = 1 ∧ r.trialAt + 10000 ≤ upNs (advance dt s) ∧ (10 * diff < 4 * 40799 ∨ 6 * 40799 < 10 * diff)) ∧
    (∃ (ok : Bool) (r : Recal) (s : State), blkOn s 0x15 = true ∧ s.cal.run = some r ∧ r.stage = 2 ∧ ok = true) ∧
    (∃ (ok : Bool) (r : Recal) (s : State), blkOn s 0x15 = true ∧ s.cal.run = some r ∧ r.stage = 2 ∧ ok = false ∧ r.retried = false) ∧
    (∃ (ok : Bool) (r : Recal) (s : State), blkOn s 0x15 = true ∧ s.cal.run = some r ∧ r.stage = 2 ∧ ok = false ∧ r.retried = true) ∧
    (∃ (dt : Nat) (sof : Bool) (r : Recal) (s : State), blkOn (advance dt s) 0x15 = true ∧ s.cal.run = some r ∧ r.stage = 3 ∧ r.port < 4 ∧ r.lane < 5 ∧ ((sof = true ∨ r.matchedAt + 50000000 ≤ upNs (advance dt s)))) :=
  ⟨⟨10000, 24480, (⟨3, 4, 1, 1, 87, (List.replicate 9 0), (List.replicate 9 0).set 0 7, 3, 3, (List.replicate 9 0), 3, 3, false, false, 0, 0⟩ : Recal), { die 0 [(F.CAL_CTL_EN, 1), (F.LNK_PSTAT_STATE 3, pUp)] with cal := { State.reset.cal with run := some (⟨3, 4, 1, 1, 87, (List.replicate 9 0), (List.replicate 9 0).set 0 7, 3, 3, (List.replicate 9 0), 3, 3, false, false, 0, 0⟩ : Recal) } }, by decide +kernel⟩,
   ⟨true, (⟨3, 4, 1, 2, 0, (List.replicate 9 0), (List.replicate 9 0).set 0 7, 3, 3, (List.replicate 9 0), 3, 3, false, false, 0, 0⟩ : Recal), { die 0 [(F.CAL_CTL_EN, 1), (F.LNK_PSTAT_STATE 3, pUp)] with cal := { State.reset.cal with run := some (⟨3, 4, 1, 2, 0, (List.replicate 9 0), (List.replicate 9 0).set 0 7, 3, 3, (List.replicate 9 0), 3, 3, false, false, 0, 0⟩ : Recal) } }, by decide +kernel⟩,
   ⟨false, (⟨3, 4, 1, 2, 0, (List.replicate 9 0), (List.replicate 9 0).set 0 7, 3, 3, (List.replicate 9 0), 3, 3, false, false, 0, 0⟩ : Recal), { die 0 [(F.CAL_CTL_EN, 1), (F.LNK_PSTAT_STATE 3, pUp)] with cal := { State.reset.cal with run := some (⟨3, 4, 1, 2, 0, (List.replicate 9 0), (List.replicate 9 0).set 0 7, 3, 3, (List.replicate 9 0), 3, 3, false, false, 0, 0⟩ : Recal) } }, by decide +kernel⟩,
   ⟨false, (⟨3, 4, 1, 2, 0, (List.replicate 9 0), (List.replicate 9 0).set 0 7, 3, 3, (List.replicate 9 0), 3, 3, false, true, 0, 0⟩ : Recal), { die 0 [(F.CAL_CTL_EN, 1), (F.LNK_PSTAT_STATE 3, pUp)] with cal := { State.reset.cal with run := some (⟨3, 4, 1, 2, 0, (List.replicate 9 0), (List.replicate 9 0).set 0 7, 3, 3, (List.replicate 9 0), 3, 3, false, true, 0, 0⟩ : Recal) } }, by decide +kernel⟩,
   ⟨9, true, (⟨3, 4, 1, 3, 0, (List.replicate 9 0), (List.replicate 9 0).set 0 7, 3, 3, (List.replicate 9 0), 3, 3, false, false, 50000000, 0⟩ : Recal), { die 0 [(F.CAL_CTL_EN, 1), (F.LNK_PSTAT_STATE 3, pUp), (F.CAL_LCNT_COUNT 19, 65535)] with cal := { State.reset.cal with run := some (⟨3, 4, 1, 3, 0, (List.replicate 9 0), (List.replicate 9 0).set 0 7, 3, 3, (List.replicate 9 0), 3, 3, false, false, 50000000, 0⟩ : Recal) }, up := 50000000 }, by decide +kernel⟩⟩

theorem test_LaneRecalibration_4 :
    (∃ (dt : Nat) (sof : Bool) (r : Recal) (s : State), blkOn (advance dt s) 0x15 = true ∧ s.cal.run = some r ∧ r.stage = 3 ∧ r.port < 4 ∧ r.lane < 5 ∧ ((sof = true ∨ r.matchedAt + 50000000 ≤ upNs (advance dt s)))) ∧
    (∃ (c : Status) (r : Recal) (s : State), blkOn s 0x15 = true ∧ s.cal.run = some r ∧ r.port < 4 ∧ r.lane < 5 ∧ (c = .aborted ∨ c = .linkAbsent ∨ c = .integrity)) ∧
    (∃ (c : Status) (r : Recal) (s : State), blkOn s 0x15 = true ∧ s.cal.run = some r ∧ r.port < 4 ∧ r.lane < 5 ∧ (c = .aborted ∨ c = .linkAbsent ∨ c = .integrity)) ∧
    (∃ (c : Status) (r : Recal) (s : State), blkOn s 0x15 = true ∧ s.cal.run = some r ∧ r.port < 4 ∧ r.lane < 5 ∧ (c = .aborted ∨ c = .linkAbsent ∨ c = .integrity)) ∧
    (∃ (v : Word) (r : Recal) (s : State), WriteOk s R.CAL_CTL (F.CAL_CTL_EN.put v 0) ∧ isSet s F.CAL_CTL_EN = true ∧ F.CAL_CTL_START.get v = 0 ∧ s.cal.run = some r ∧ r.port < 4 ∧ r.lane < 5) :=
  ⟨⟨9, false, (⟨3, 4, 1, 3, 0, (List.replicate 9 0), (List.replicate 9 0).set 0 7, 3, 3, (List.replicate 9 0), 3, 3, false, false, 9, 0⟩ : Recal), { die 0 [(F.CAL_CTL_EN, 1), (F.LNK_PSTAT_STATE 3, pUp), (F.CAL_LCNT_COUNT 19, 65535)] with cal := { State.reset.cal with run := some (⟨3, 4, 1, 3, 0, (List.replicate 9 0), (List.replicate 9 0).set 0 7, 3, 3, (List.replicate 9 0), 3, 3, false, false, 9, 0⟩ : Recal) }, up := 50000000 }, by decide +kernel⟩,
   ⟨Status.aborted, (⟨3, 4, 1, 1, 0, (List.replicate 9 0), (List.replicate 9 0).set 0 7, 3, 3, (List.replicate 9 0), 3, 3, false, false, 0, 0⟩ : Recal), { die 0 [(F.CAL_CTL_EN, 1), (F.LNK_PSTAT_STATE 3, pUp)] with cal := { State.reset.cal with run := some (⟨3, 4, 1, 1, 0, (List.replicate 9 0), (List.replicate 9 0).set 0 7, 3, 3, (List.replicate 9 0), 3, 3, false, false, 0, 0⟩ : Recal) } }, by decide +kernel⟩,
   ⟨Status.linkAbsent, (⟨3, 4, 1, 1, 0, (List.replicate 9 0), (List.replicate 9 0).set 0 7, 3, 3, (List.replicate 9 0), 3, 3, false, false, 0, 0⟩ : Recal), { die 0 [(F.CAL_CTL_EN, 1), (F.LNK_PSTAT_STATE 3, pUp)] with cal := { State.reset.cal with run := some (⟨3, 4, 1, 1, 0, (List.replicate 9 0), (List.replicate 9 0).set 0 7, 3, 3, (List.replicate 9 0), 3, 3, false, false, 0, 0⟩ : Recal) } }, by decide +kernel⟩,
   ⟨Status.integrity, (⟨3, 4, 1, 1, 0, (List.replicate 9 0), (List.replicate 9 0).set 0 7, 3, 3, (List.replicate 9 0), 3, 3, false, false, 0, 0⟩ : Recal), { die 0 [(F.CAL_CTL_EN, 1), (F.LNK_PSTAT_STATE 3, pUp)] with cal := { State.reset.cal with run := some (⟨3, 4, 1, 1, 0, (List.replicate 9 0), (List.replicate 9 0).set 0 7, 3, 3, (List.replicate 9 0), 3, 3, false, false, 0, 0⟩ : Recal) } }, by decide +kernel⟩,
   ⟨regFill R.CAL_CTL, (⟨3, 4, 1, 1, 0, (List.replicate 9 0), (List.replicate 9 0).set 0 7, 3, 3, (List.replicate 9 0), 3, 3, false, false, 0, 0⟩ : Recal), up1 { die 0 [(F.CAL_CTL_EN, 1), (F.LNK_PSTAT_STATE 3, pUp)] with cal := { State.reset.cal with run := some (⟨3, 4, 1, 1, 0, (List.replicate 9 0), (List.replicate 9 0).set 0 7, 3, 3, (List.replicate 9 0), 3, 3, false, false, 0, 0⟩ : Recal) } }, by decide +kernel⟩⟩

theorem test_CalibrationValues :
    (∃ (dt : Nat) (osc : List Nat) (c : Nat) (lane : Nat) (v : Nat × Nat × Nat) (s : State), blkOn (advance dt s) 0x15 = true ∧ c ∈ drcChannels (advance dt s) ∧ lane < 4 ∧ laneTarget (advance dt s) c lane (if isSet (advance dt s) F.CAL_DCFG_TRACK then osc[c]? else none) = some v ∧ (advance dt s).cal.trackAt + 16000000 ≤ upNs (advance dt s)) ∧
    (∃ (dt : Nat) (osc : List Nat) (c : Nat) (lane : Nat) (v : Nat × Nat × Nat) (s : State), blkOn (advance dt s) 0x15 = true ∧ c ∈ drcChannels (advance dt s) ∧ lane < 4 ∧ laneTarget (advance dt s) c lane (if isSet (advance dt s) F.CAL_DCFG_TRACK then osc[c]? else none) = some v ∧ (advance dt s).cal.trackAt + 16000000 ≤ upNs (advance dt s)) ∧
    (∃ (dt : Nat) (c : Nat) (ok : Bool) (l : List LTrain) (s : State), c < 8 ∧ blkOn (advance dt s) 0x15 = true ∧ retrainDue (advance dt s) c = true ∧ ok = true ∧ trainPass (fspsNow (advance dt s)) l = true) ∧
    (∃ (dt : Nat) (c : Nat) (ok : Bool) (l : List LTrain) (s : State), c < 8 ∧ blkOn (advance dt s) 0x15 = true ∧ retrainDue (advance dt s) c = true ∧ (ok = false ∨ trainPass (fspsNow (advance dt s)) l = false)) ∧
    (∃ (dt : Nat) (s : State), blkOn (advance dt s) 0x15 = true ∧ s.cal.changed = true ∧ s.thm.shut = none ∧ (s.cal.savedAt = some 9 ∧ 9 + 600000000000 ≤ upNs (advance dt s))) :=
  ⟨⟨16000000, ([] : List Nat), 1, 3, (9, 9, 9), { die 0 [(F.DRC_CFG_ENMASK, 3), (F.CAL_DCFG_TRACK, 0)] with cal := { State.reset.cal with slots := [⟨1, 3, 0, 0, -2000, 9, 9, 9, 12, 12, 9, 0⟩, ⟨1, 3, 0, 1, 2000, 9, 9, 9, 12, 12, 9, 0⟩], use := [(7, (10, 9, 8))] } }, by decide +kernel⟩,
   ⟨16000000, ([] : List Nat), 1, 3, (9, 9, 9), { die 0 [(F.DRC_CFG_ENMASK, 3), (F.CAL_DCFG_TRACK, 0)] with cal := { State.reset.cal with slots := [⟨1, 3, 0, 0, -2000, 9, 9, 9, 12, 12, 9, 0⟩, ⟨1, 3, 0, 1, 2000, 9, 9, 9, 12, 12, 9, 0⟩], use := [(6, (1, 1, 1))] } }, by decide +kernel⟩,
   ⟨9, 7, true, ((List.range 4).map (fun b => ⟨0, b, [(60, 0, 12)], [(60, 0, 12)], 9, 0⟩) : List LTrain), { die 0 [(F.THM_PWR_NOW, 2), (F.CAL_DCFG_SBRETRAIN, 1), (F.DRC_CHSTAT_STATE 7, chSelfRef), (F.CAL_DCNT_RETRAIN 7, 65535)] with up := 9 }, by decide +kernel⟩,
   ⟨9, 7, false, ((List.range 4).map (fun b => ⟨0, b, [(60, 0, 12)], [(60, 0, 12)], 9, 0⟩) : List LTrain), { die 0 [(F.THM_PWR_NOW, 2), (F.CAL_DCFG_SBRETRAIN, 1), (F.DRC_CHSTAT_STATE 7, chSelfRef), (F.CAL_DCNT_RETRAIN 7, 65535)] with up := 9 }, by decide +kernel⟩,
   ⟨9, { die 0 [] with up := 600000000000, cal := { State.reset.cal with changed := true, savedAt := some 9 } }, by decide +kernel⟩⟩

end Sys2Proof.Machine
end

