-- ==== Sys2Proof/Tests/Chn.lean ====
section
/-! SUPPORT. For each statement of this family, states and operands that meet the hypotheses of its clauses. -/

set_option Elab.async false
set_option maxRecDepth 100000

namespace Sys2Proof.Machine

/-- The codeword of a cell, as a port whose descrambler stands at `v` receives it. -/
def rawOf (v : Nat) (c : Bytes) : Bytes :=
  (scramble v (c ++ ((⟨8, 0x11D⟩ : GF).parity ((⟨8, 0x11D⟩ : GF).generator 0 16) (c.map BitVec.toNat)).map byte)).1

/-- Witness. -/
def witChn1 : Bytes := mkCell 9 3 false [1#8, 1#8, 0#8, 1#8, 0#8, 1#8, 1#8, 0#8, 0x55#8]

/-- Witness. -/
def witChn2 : Bytes := patch witChn1 3 [byte (255 - byteAt witChn1 3)]

/-- Witness. -/
def witChn3 : Bytes := mkCell 7 3 false [1#8, 1#8, 0#8, 1#8, 0#8, 1#8, 1#8, 0#8, 0x55#8]

/-- Witness. -/
def witChn4 : Bytes := (List.range 240).map (fun i => byte (i * i * 7 + 3))

/-- Witness. -/
def witChn5 : RxCell := ⟨1, witChn4, 99⟩

/-- Witness. -/
def witChn6 : State := { die 1 [(F.CHN_POSTCODE_POSTCODE, 7), (F.CHN_POSTCODE_VALID, 1)] with chn := { State.reset.chn with cand := [witChn5] } }

/-- Witness. -/
def witChn7 : Bytes := patch (witChn3 ++ ((⟨8, 0x11D⟩ : GF).parity ((⟨8, 0x11D⟩ : GF).generator 0 16) (witChn3.map BitVec.toNat)).map byte) 2 [0x13#8]

/-- Witness. -/
def witChn8 : RxCell := ⟨1, witChn7, 99⟩

/-- Witness. -/
def witChn9 : State := { die 1 [(F.CHN_POSTCODE_POSTCODE, 7), (F.CHN_POSTCODE_VALID, 1)] with chn := { State.reset.chn with cand := [witChn8] } }

/-- Witness. -/
def witChn10 : RxCell := ⟨0, mkCell 9 3 true [1#8, 1#8, 0#8, 1#8, 0#8, 1#8, 1#8, 0#8, 0x55#8], 99⟩

/-- Witness. -/
def witChn11 : State := { die 0 [] with chn := { State.reset.chn with rx := [⟨0, idleCell, 0⟩, witChn10] } }

/-- Witness. -/
def witChn12 : RxCell := ⟨0, mkCell 9 3 false [1#8, 1#8, 0#8, 1#8, 31#8, 32#8, 200#8, 0#8, 0x55#8], 99⟩

/-- Witness. -/
def witChn13 : State := { die 1 [] with chn := { State.reset.chn with rx := [⟨0, idleCell, 0⟩, witChn12] } }

/-- Witness. -/
def witChn14 : RxCell := ⟨1, mkCell 0xFFFE 8 false [0xF0#8, 1#8, 1#8, 0xFF#8, 0#8, 0#8, 0#8, 9#8], 99⟩

/-- Witness. -/
def witChn15 : State := { die 1 [(F.LNK_PSTAT_STATE 0, pUp), (F.LNK_PSTAT_STATE 1, pUp)] with chn := { State.reset.chn with rx := [witChn14] } }

/-- Witness. -/
def witChn16 : Item := itemOf [(0, 1, 0x40), (1, 1, 15), (2, 2, 9), (4, 1, 1), (6, 2, 4), (8, 2, 5), (10, 2, 5), (12, 4, 64), (16, 8, 64), (24, 8, 128)]

/-- Witness. -/
def witChn17 : State := core0 { die 0 [(F.SRF_CTL_EN, 1), (F.SRF_POOLBASE_BASE, 16), (F.SRF_POOLLEN_LEN, 256), (F.SRF_TBLLEN_LEN, 66), (F.SRF_PFCFG_CACHE16, 1)] with srf := { State.reset.srf with surfs := [⟨5, 3, 4, true, false, none, false⟩], segs := [⟨3, 4, .loc 256⟩] } } witChn16

/-- Witness. -/
def witChn18 : State := coreRelease witChn17 0

/-- Witness. -/
def witChn19 : Bytes := match (areaFetch witChn18 (leAt witChn16.entry 8 2) (leAt witChn16.entry 16 8) (leAt witChn16.entry 6 2) .busError).1 with | .ok b => b | _ => []

/-- Witness. -/
def witChn20 : State := (areaFetch witChn18 (leAt witChn16.entry 8 2) (leAt witChn16.entry 16 8) (leAt witChn16.entry 6 2) .busError).2

/-- Witness. -/
def witChn21 : Send := ⟨witChn16, 1, 9, 1, 0, 0, 0, 0xFF, false⟩

/-- Witness. -/
def witChn22 : State := { die 0 [(F.SRF_CTL_EN, 1), (F.SRF_POOLBASE_BASE, 16), (F.SRF_POOLLEN_LEN, 256), (F.SRF_TBLLEN_LEN, 66), (F.SRF_PFCFG_CACHE16, 1)] with srf := { State.reset.srf with surfs := [⟨5, 3, 4, true, false, none, false⟩], segs := [⟨3, 4, .loc 256⟩] }, chn := { State.reset.chn with sends := [witChn21], letters := [⟨0, 9, true, 1, 1, 1, 2, [0#8], none, 3, 0⟩] } }

/-- Witness. -/
def witChn23 : State := { die 0 [(F.SRF_CTL_EN, 1), (F.SRF_POOLBASE_BASE, 16), (F.SRF_POOLLEN_LEN, 256), (F.SRF_TBLLEN_LEN, 66), (F.SRF_PFCFG_CACHE16, 1), (F.CHN_INBOX_HANDLE, 5)] with srf := { State.reset.srf with surfs := [⟨5, 3, 4, true, false, none, false⟩], segs := [⟨3, 4, .loc 256⟩] }, chn := { State.reset.chn with letters := [⟨0, 9, true, 1, 1, 1, 2, [0#8], none, 3, 0⟩] } }

/-- Witness. -/
def witChn24 : State := { die 0 [(F.SRF_CTL_EN, 1), (F.SRF_POOLBASE_BASE, 16), (F.SRF_POOLLEN_LEN, 256), (F.SRF_TBLLEN_LEN, 66), (F.SRF_PFCFG_CACHE16, 1), (F.CHN_INBOX_HANDLE, 5), (F.CHN_INBOX_EN, 1), (F.CHN_INBOXIDX_WR, 65535), (F.CHN_INBOXIDX_RD, 65520)] with srf := { State.reset.srf with surfs := [⟨5, 3, 4, true, false, none, false⟩], segs := [⟨3, 4, .loc 256⟩] }, chn := { State.reset.chn with letters := [⟨0, 9, true, 1, 1, 1, 2, [0#8], none, 3, 0⟩] } }

/-- Witness. -/
def witChn25 : State := { die 0 [(F.SRF_CTL_EN, 1), (F.SRF_POOLBASE_BASE, 16), (F.SRF_POOLLEN_LEN, 256), (F.SRF_TBLLEN_LEN, 66), (F.SRF_PFCFG_CACHE16, 1), (F.CHN_INBOX_HANDLE, 5), (F.CHN_INBOX_EN, 1), (F.CHN_INBOXIDX_WR, 15), (F.CHN_INBOXIDX_RD, 65535)] with srf := { State.reset.srf with surfs := [⟨5, 3, 4, true, false, none, false⟩], segs := [⟨3, 4, .loc 256⟩] }, chn := { State.reset.chn with letters := [⟨0, 9, true, 1, 1, 1, 2, [0#8], none, 3, 0⟩] } }

/-- Witness. -/
def witChn26 : State := { die 0 [(F.SRF_CTL_EN, 1), (F.SRF_POOLBASE_BASE, 16), (F.SRF_POOLLEN_LEN, 256), (F.SRF_TBLLEN_LEN, 66), (F.SRF_PFCFG_CACHE16, 1), (F.CHN_INBOX_HANDLE, 5), (F.CHN_INBOX_EN, 1), (F.CHN_INBOX_HANDLE, 6)] with srf := { State.reset.srf with surfs := [⟨5, 3, 4, true, false, none, false⟩], segs := [⟨3, 4, .loc 256⟩] }, chn := { State.reset.chn with letters := [⟨0, 9, true, 1, 1, 1, 2, [0#8], none, 3, 0⟩] } }

/-- Witness. -/
def witChn27 : Letter := ⟨0, 9, false, 1, 1, 1, 0, ([1#8, 0#8, 0#8, 0#8] ++ beBytes 4 0xE0000 ++ zeros 4), none, 3, 0⟩

/-- Witness. -/
def witChn28 : State := { die 1 [] with chn := { State.reset.chn with letters := [witChn27] } }

/-- Witness. -/
def witChn29 : Letter := ⟨0, 9, false, 1, 1, 1, 0, [], none, 3, 0⟩

/-- Witness. -/
def witChn30 : State := { die 1 [] with chn := { State.reset.chn with letters := [witChn29] } }

/-- Witness. -/
def witChn31 : Letter := ⟨0, 9, false, 1, 1, 2, 0, ([1#8, 0#8, 0#8, 0#8] ++ beBytes 4 0xE0000 ++ zeros 4), none, 3, 0⟩

/-- Witness. -/
def witChn32 : State := { die 1 [] with chn := { State.reset.chn with letters := [witChn31] } }

/-- Witness. -/
def witChn33 : Letter := ⟨0, 9, false, 1, 1, 2, 0, [], none, 3, 0⟩

/-- Witness. -/
def witChn34 : State := { die 1 [] with chn := { State.reset.chn with letters := [witChn33] } }

/-- Witness. -/
def witChn35 : Letter := ⟨0, 9, false, 1, 1, 1, 0, ([1#8, 0#8, 0#8, 0#8] ++ beBytes 4 0xFFFFFC ++ zeros 4), none, 3, 0⟩

/-- Witness. -/
def witChn36 : State := { die 1 [] with chn := { State.reset.chn with letters := [witChn35] } }

/-- Witness. -/
def witChn37 : Letter := ⟨0, 9, false, 1, 1, 2, 0, ([1#8, 0#8, 0#8, 0#8] ++ beBytes 4 0xFFFFFC ++ beBytes 4 7), none, 3, 0⟩

/-- Witness. -/
def witChn38 : State := { die 1 [] with chn := { State.reset.chn with letters := [witChn37] } }

/-- Witness. -/
def witChn39 : Letter := ⟨0, 9, false, 1, 1, 3, 0, (beBytes 2 4095 ++ beBytes 2 65535 ++ [8#8] ++ zeros 3 ++ (List.range 8).flatMap (fun i => [byte (i + 1)] ++ zeros 63)), none, 3, 0⟩

/-- Witness. -/
def witChn40 : State := { die 1 [(F.QUE_STAT_STATE 4095, qRunning), (F.QUE_CFG_SRC 4095, 1), (F.QUE_CFG_LOC 4095, 1), (F.QUE_CFG_SIZE 4095, 3), (F.QUE_IDX_TAIL 4095, 65535), (F.QUE_RET_RETIRE 4095, 65535)] with chn := { State.reset.chn with letters := [witChn39] } }

/-- Witness. -/
def witChn41 : Letter := ⟨0, 9, false, 1, 1, 4, 0, (beBytes 2 4095 ++ beBytes 2 65535 ++ [8#8]), none, 3, 0⟩

/-- Witness. -/
def witChn42 : State := { die 1 [(F.QUE_STAT_STATE 4095, qRunning), (F.QUE_CFG_SRC 4095, 1), (F.QUE_CFG_LOC 4095, 1), (F.QUE_CFG_SIZE 4095, 3), (F.QUE_IDX_TAIL 4095, 7), (F.QUE_RET_RETIRE 4095, 65535)] with chn := { State.reset.chn with letters := [witChn41] } }

/-- Witness. -/
def witChn43 : Letter := ⟨0, 9, false, 1, 1, 9, 0, [3#8], none, 3, 0⟩

/-- Witness. -/
def witChn44 : State := { die 1 [] with chn := { State.reset.chn with letters := [witChn43], slots := [(3, ⟨5, [], [], [], none, none, 0, 0, none⟩)] } }

theorem test_CellsForwarded :
    (∃ (dt : Nat) (p : Nat) (v : Nat) (raw : Bytes) (cv : List Nat) (s : State), PortOk (advance dt s) p ∧ portUp (advance dt s) p = true ∧ (port (advance dt s) p).rxScr = some v ∧ syndromeBad (rxBytes v raw cv) = true ∧ (port (advance dt s) p).errRun = 15) ∧
    (∃ (dt : Nat) (p : Nat) (v : Nat) (raw : Bytes) (cv : List Nat) (s : State), PortOk (advance dt s) p ∧ portUp (advance dt s) p = true ∧ (port (advance dt s) p).rxScr = some v ∧ syndromeBad (rxBytes v raw cv) = false ∧ blkOn (advance dt s) 0x0D = true ∧ fwdOn (advance dt s) p = true ∧ fwdOn (advance dt s) (1 - p) = true ∧ headerOk ((rxBytes v raw cv).take 224) = true ∧ badHeader ((rxBytes v raw cv).take 224) = false ∧ slotEmpty (advance dt s) (typedCell (rxBytes v raw cv)) = false ∧ consumes (advance dt s) (typedCell (rxBytes v raw cv)) = false) ∧
    (∃ (dt : Nat) (p : Nat) (v : Nat) (raw : Bytes) (cv : List Nat) (s : State), PortOk (advance dt s) p ∧ portUp (advance dt s) p = true ∧ (port (advance dt s) p).rxScr = some v ∧ syndromeBad (rxBytes v raw cv) = false ∧ blkOn (advance dt s) 0x0D = true ∧ fwdOn (advance dt s) p = true ∧ fwdOn (advance dt s) (1 - p) = true ∧ headerOk ((rxBytes v raw cv).take 224) = true ∧ badHeader ((rxBytes v raw cv).take 224) = false ∧ slotEmpty (advance dt s) (typedCell (rxBytes v raw cv)) = true ∧ insCount (advance dt s) (1 - p) = 0) ∧
    (∃ (dt : Nat) (p : Nat) (v : Nat) (raw : Bytes) (cv : List Nat) (s : State), PortOk (advance dt s) p ∧ portUp (advance dt s) p = true ∧ (port (advance dt s) p).rxScr = some v ∧ syndromeBad (rxBytes v raw cv) = false ∧ blkOn (advance dt s) 0x0D = true ∧ fwdOn (advance dt s) p = true ∧ fwdOn (advance dt s) (1 - p) = true ∧ headerOk ((rxBytes v raw cv).take 224) = false) ∧
    (∃ (y : RxCell) (l : List RxCell) (s : State), blkOn s 0x0D = true ∧ s.chn.cand = y :: l ∧ y.port < 4 ∧ correct y.cell = none) :=
  ⟨⟨7, 1, 5, [], [], { die 1 [(F.LNK_PSTAT_STATE 0, pUp), (F.LNK_PSTAT_STATE 1, pUp), (F.CHN_POSTCODE_POSTCODE, 7), (F.CHN_POSTCODE_VALID, 1)] with lnk := { State.reset.lnk with ports := [(1, { portReset with fwd := true, rxScr := some 5, errRun := 15 }), (0, { portReset with fwd := true })] } }, by decide +kernel⟩,
   ⟨7, 1, 5, rawOf 5 witChn1, [], { die 1 [(F.LNK_PSTAT_STATE 0, pUp), (F.LNK_PSTAT_STATE 1, pUp), (F.CHN_POSTCODE_POSTCODE, 7), (F.CHN_POSTCODE_VALID, 1)] with lnk := { State.reset.lnk with ports := [(1, { portReset with fwd := true, rxScr := some 5 }), (0, { portReset with fwd := true })] } }, by decide +kernel⟩,
   ⟨7, 1, 5, rawOf 5 idleCell, [], { die 1 [(F.LNK_PSTAT_STATE 0, pUp), (F.LNK_PSTAT_STATE 1, pUp), (F.CHN_POSTCODE_POSTCODE, 7), (F.CHN_POSTCODE_VALID, 1)] with lnk := { State.reset.lnk with ports := [(1, { portReset with fwd := true, rxScr := some 5 }), (0, { portReset with fwd := true })] } }, by decide +kernel⟩,
   ⟨7, 1, 5, rawOf 5 witChn2, [], { die 1 [(F.LNK_PSTAT_STATE 0, pUp), (F.LNK_PSTAT_STATE 1, pUp), (F.CHN_POSTCODE_POSTCODE, 7), (F.CHN_POSTCODE_VALID, 1)] with lnk := { State.reset.lnk with ports := [(1, { portReset with fwd := true, rxScr := some 5 }), (0, { portReset with fwd := true })] } }, by decide +kernel⟩,
   ⟨witChn5, ([] : List RxCell), witChn6, by decide +kernel⟩⟩

theorem test_CellsForwarded_2 :
    (∃ (y : RxCell) (l : List RxCell) (s : State) (w : Bytes) (n : Nat), blkOn s 0x0D = true ∧ s.chn.cand = y :: l ∧ y.port < 4 ∧ correct y.cell = some (w, n) ∧ headerOk (w.take 224) = true ∧ badHeader (w.take 224) = false ∧ consumes s (w.take 224) = true) ∧
    (∃ (dt : Nat) (p : Nat) (e : Nat × InsCell) (s : State), p < 4 ∧ blkOn (advance dt s) 0x0D = true ∧ (advance dt s).chn.ins.find? (fun e => e.1 == p && e.2.at0 + 1000000 ≤ upNs (advance dt s)) = some e) :=
  ⟨⟨witChn8, ([] : List RxCell), witChn9, (witChn3 ++ ((⟨8, 0x11D⟩ : GF).parity ((⟨8, 0x11D⟩ : GF).generator 0 16) (witChn3.map BitVec.toNat)).map byte), 1, by decide +kernel⟩,
   ⟨5, 1, ((1, ⟨3, idleCell, .none, 0⟩) : Nat × InsCell), { die 1 [] with up := 1000000, chn := { State.reset.chn with ins := [(0, ⟨0, idleCell, .none, 0⟩), (1, ⟨3, idleCell, .none, 0⟩)] } }, by decide +kernel⟩⟩

theorem test_SegmentsAndRollCalls :
    (∃ (y : RxCell) (x : State) (s : State), blkOn s 0x0D = true ∧ takeRx s (fun c => cellKind c == 3 || cellKind c == 7) = some (y, x) ∧ s.chn.reasm.find? (segOf y.cell) = none ∧ segOk y.cell = true ∧ byteAt y.cell 9 = 1 ∧ isTile s = false) ∧
    (∃ (y : RxCell) (x : State) (s : State), blkOn s 0x0D = true ∧ takeRx s (fun c => cellKind c == 3 || cellKind c == 7) = some (y, x) ∧ s.chn.reasm.find? (segOf y.cell) = none ∧ segOk y.cell = true ∧ byteAt y.cell 9 ≠ 1 ∧ s.chn.reasm.length < 8 ∧ (isTile s = false ∨ bit (byteAt y.cell 11) 4 = false)) ∧
    (∃ (dt : Nat) (r : Reasm) (s : State), blkOn (advance dt s) 0x0D = true ∧ (advance dt s).chn.reasm.find? (fun r => r.at0 + 10000000 ≤ upNs (advance dt s)) = some r) ∧
    (∃ (s : State), blkOn s 0x0D = true ∧ isSender s = true) ∧
    (∃ (y : RxCell) (x : State) (s : State), blkOn s 0x0D = true ∧ isSender s = false ∧ takeRx s (fun c => cellKind c == 8) = some (y, x) ∧ y.port < 2 ∧ bit (bodyBE y.cell 0 1) 0 = false ∧ bodyBE y.cell 2 2 ≤ 511) :=
  ⟨⟨witChn10, { witChn11 with chn := { witChn11.chn with rx := [⟨0, idleCell, 0⟩] } }, witChn11, by decide +kernel, takeRx_of (by decide +kernel), by decide +kernel⟩,
   ⟨witChn12, { witChn13 with chn := { witChn13.chn with rx := [⟨0, idleCell, 0⟩] } }, witChn13, by decide +kernel, takeRx_of (by decide +kernel), by decide +kernel⟩,
   ⟨5, (⟨0, 9, false, 1, 1, 1, 0, 2, 3, 0, []⟩ : Reasm), { die 1 [] with up := 10000000, chn := { State.reset.chn with reasm := [⟨0, 9, false, 1, 1, 1, 0, 2, 3, 0, []⟩] } }, by decide +kernel⟩,
   ⟨die 0 [(F.LNK_PSTAT_STATE 3, pUp), (F.LNK_PCTL_EN 3, 1), (F.CHN_PORTCTL_CHAIN 3, 9), (F.CHN_PORTCTL_END 3, 1)], by decide +kernel⟩,
   ⟨witChn14, { witChn15 with chn := { witChn15.chn with rx := [] } }, witChn15, by decide +kernel, by decide +kernel, takeRx_of (by decide +kernel), by decide +kernel⟩⟩

theorem test_SendsAndInbox :
    (∃ (host : HostRes) (it : Item) (x : State) (b : Bytes) (z : State) (s : State), QueuesOk s ∧ blkOn s 0x0D = true ∧ coreTake s 0x40 = some (it, x) ∧ sendWaits s it = false ∧ sendCheck x it.entry = .ok ∧ areaFetch x (leAt it.entry 8 2) (leAt it.entry 16 8) (leAt it.entry 6 2) host = (.ok b, z) ∧ (((byteAt it.entry 5).testBit 0 = true → canSeal x (leAt it.entry 2 2) = true))) ∧
    (∃ (l : Letter) (x : State) (y : Send) (s : State), QueuesOk s ∧ blkOn s 0x0D = true ∧ isSender s = true ∧ takeLetter s (fun l => s.chn.sends.any (awaits s l)) = some (l, x) ∧ x.chn.sends.find? (awaits s l) = some y ∧ l.lfl.testBit 0 = false ∧ isBroadcast y.addr = false) ∧
    (∃ (dt : Nat) (y : Send) (s : State), QueuesOk s ∧ blkOn (advance dt s) 0x0D = true ∧ (advance dt s).chn.sends.find? (fun x => x.sent + getF (advance dt s) F.CHN_CFG_LETTERTO * 1000000 ≤ upNs (advance dt s)) = some y) ∧
    (∃ (v : Word) (s : State), WriteOk s R.CHN_INBOX (F.CHN_INBOX_EN.put v 1) ∧ getF s F.CHN_INBOX_EN = 0) ∧
    (∃ (rd : Nat) (s : State), rd < 65536 ∧ WriteOk s R.CHN_INBOXIDX (F.CHN_INBOXIDX_RD.put 0#32 rd)) :=
  ⟨⟨HostRes.busError, witChn16, witChn18, witChn19, witChn20, witChn17, by decide +kernel⟩,
   ⟨(⟨0, 9, true, 1, 1, 1, 2, [0#8], none, 3, 0⟩ : Letter), { witChn22 with chn := { witChn22.chn with letters := [] } }, witChn21, witChn22, by decide +kernel, by decide +kernel, by decide +kernel, takeLetter_of (by decide +kernel), by decide +kernel⟩,
   ⟨5, witChn21, { die 0 [(F.CHN_CFG_LETTERTO, 10)] with up := 10000000, chn := { State.reset.chn with sends := [witChn21] } }, by decide +kernel⟩,
   ⟨F.CHN_INBOX_HANDLE.put (regFill R.CHN_INBOX) 5, up1 { die 0 [(F.SRF_CTL_EN, 1), (F.SRF_POOLBASE_BASE, 16), (F.SRF_POOLLEN_LEN, 256), (F.SRF_TBLLEN_LEN, 66), (F.SRF_PFCFG_CACHE16, 1), (F.CHN_INBOXIDX_WR, 5)] with srf := { State.reset.srf with surfs := [⟨5, 3, 4, true, false, none, false⟩], segs := [⟨3, 4, .loc 256⟩] } }, by decide +kernel⟩,
   ⟨65535, up1 (die 0 [(F.CHN_INBOXIDX_WR, 65535)]), by decide +kernel⟩⟩

theorem test_SendsAndInbox_2 :
    (∃ (l : Letter) (x : State) (s : State), blkOn s 0x0D = true ∧ isSender s = true ∧ takeLetter s (forInbox s) = some (l, x) ∧ isSet s F.CHN_INBOX_EN = false) ∧
    (∃ (l : Letter) (x : State) (s : State), blkOn s 0x0D = true ∧ isSender s = true ∧ takeLetter s (forInbox s) = some (l, x) ∧ isSet s F.CHN_INBOX_EN = true ∧ surfOf s (getF s F.CHN_INBOX_HANDLE) ≠ none ∧ msub 16 (getF s F.CHN_INBOXIDX_WR) (getF s F.CHN_INBOXIDX_RD) < inboxLen s) ∧
    (∃ (l : Letter) (x : State) (s : State), blkOn s 0x0D = true ∧ isSender s = true ∧ takeLetter s (forInbox s) = some (l, x) ∧ isSet s F.CHN_INBOX_EN = true ∧ (surfOf s (getF s F.CHN_INBOX_HANDLE) = none ∨ inboxLen s ≤ msub 16 (getF s F.CHN_INBOXIDX_WR) (getF s F.CHN_INBOXIDX_RD))) ∧
    (∃ (l : Letter) (x : State) (s : State), blkOn s 0x0D = true ∧ isSender s = true ∧ takeLetter s (forInbox s) = some (l, x) ∧ isSet s F.CHN_INBOX_EN = true ∧ (surfOf s (getF s F.CHN_INBOX_HANDLE) = none ∨ inboxLen s ≤ msub 16 (getF s F.CHN_INBOXIDX_WR) (getF s F.CHN_INBOXIDX_RD))) :=
  ⟨⟨(⟨0, 9, true, 1, 1, 1, 2, [0#8], none, 3, 0⟩ : Letter), { witChn23 with chn := { witChn23.chn with letters := [] } }, witChn23, by decide +kernel, by decide +kernel, takeLetter_of (by decide +kernel), by decide +kernel⟩,
   ⟨(⟨0, 9, true, 1, 1, 1, 2, [0#8], none, 3, 0⟩ : Letter), { witChn24 with chn := { witChn24.chn with letters := [] } }, witChn24, by decide +kernel, by decide +kernel, takeLetter_of (by decide +kernel), by decide +kernel⟩,
   ⟨(⟨0, 9, true, 1, 1, 1, 2, [0#8], none, 3, 0⟩ : Letter), { witChn25 with chn := { witChn25.chn with letters := [] } }, witChn25, by decide +kernel, by decide +kernel, takeLetter_of (by decide +kernel), by decide +kernel⟩,
   ⟨(⟨0, 9, true, 1, 1, 1, 2, [0#8], none, 3, 0⟩ : Letter), { witChn26 with chn := { witChn26.chn with letters := [] } }, witChn26, by decide +kernel, by decide +kernel, takeLetter_of (by decide +kernel), by decide +kernel⟩⟩

theorem test_TileLetters :
    (∃ (l : Letter) (x : State) (s : State), LetterTaken s 1 l x ∧ regForm l.content = true) ∧
    (∃ (l : Letter) (x : State) (s : State), LetterTaken s 1 l x ∧ regForm l.content = false) ∧
    (∃ (l : Letter) (x : State) (s : State), LetterTaken s 2 l x ∧ regForm l.content = true) ∧
    (∃ (l : Letter) (x : State) (s : State), LetterTaken s 2 l x ∧ regForm l.content = false) ∧
    (∃ (l : Letter) (x : State) (s : State), LetterTaken s 1 l x ∧ regForm l.content = true ∧ byteAt l.content 0 = 1 ∧ beAt l.content 4 4 < 2 ^ 24 ∧ beAt l.content 4 4 % 4 = 0) :=
  ⟨⟨witChn27, { witChn28 with chn := { witChn28.chn with letters := [] } }, witChn28, ⟨by decide +kernel, by decide +kernel, takeLetter_of (by decide +kernel)⟩, by decide +kernel⟩,
   ⟨witChn29, { witChn30 with chn := { witChn30.chn with letters := [] } }, witChn30, ⟨by decide +kernel, by decide +kernel, takeLetter_of (by decide +kernel)⟩, by decide +kernel⟩,
   ⟨witChn31, { witChn32 with chn := { witChn32.chn with letters := [] } }, witChn32, ⟨by decide +kernel, by decide +kernel, takeLetter_of (by decide +kernel)⟩, by decide +kernel⟩,
   ⟨witChn33, { witChn34 with chn := { witChn34.chn with letters := [] } }, witChn34, ⟨by decide +kernel, by decide +kernel, takeLetter_of (by decide +kernel)⟩, by decide +kernel⟩,
   ⟨witChn35, { witChn36 with chn := { witChn36.chn with letters := [] } }, witChn36, ⟨by decide +kernel, by decide +kernel, takeLetter_of (by decide +kernel)⟩, by decide +kernel⟩⟩

theorem test_TileLetters_2 :
    (∃ (l : Letter) (x : State) (s : State), LetterTaken s 2 l x ∧ regForm l.content = true ∧ byteAt l.content 0 = 1 ∧ beAt l.content 4 4 < 2 ^ 24 ∧ beAt l.content 4 4 % 4 = 0) ∧
    (∃ (l : Letter) (x : State) (s : State), LetterTaken s 3 l x ∧ ringFillCheck x (beAt l.content 0 2) (beAt l.content 2 2) (byteAt l.content 4) = .ok) ∧
    (∃ (l : Letter) (x : State) (s : State), LetterTaken s 4 l x ∧ ringReadCheck x (beAt l.content 0 2) (beAt l.content 2 2) (byteAt l.content 4) = .ok) ∧
    (∃ (l : Letter) (x : State) (s : State), LetterTaken s 9 l x ∧ l.content.length = 1 ∧ byteAt l.content 0 ≤ 3) :=
  ⟨⟨witChn37, { witChn38 with chn := { witChn38.chn with letters := [] } }, witChn38, ⟨by decide +kernel, by decide +kernel, takeLetter_of (by decide +kernel)⟩, by decide +kernel⟩,
   ⟨witChn39, { witChn40 with chn := { witChn40.chn with letters := [] } }, witChn40, ⟨by decide +kernel, by decide +kernel, takeLetter_of (by decide +kernel)⟩, by decide +kernel⟩,
   ⟨witChn41, { witChn42 with chn := { witChn42.chn with letters := [] } }, witChn42, ⟨by decide +kernel, by decide +kernel, takeLetter_of (by decide +kernel)⟩, by decide +kernel⟩,
   ⟨witChn43, { witChn44 with chn := { witChn44.chn with letters := [] } }, witChn44, ⟨by decide +kernel, by decide +kernel, takeLetter_of (by decide +kernel)⟩, by decide +kernel⟩⟩

end Sys2Proof.Machine
end

