-- ==== Sys2Proof/Tests/Frt.lean ====
section
/-! SUPPORT. For each statement of this family, states and operands that meet the hypotheses of its clauses. -/

set_option Elab.async false
set_option maxRecDepth 100000

namespace Sys2Proof.Machine

/-- Witness. -/
def witFrt1 : Item := itemOf [(0, 1, 0x30), (2, 2, 5), (4, 2, 1), (16, 4, 7)]

/-- Witness. -/
def witFrt2 : State := core0 { die 0 [(F.SRF_CTL_EN, 1), (F.SRF_POOLBASE_BASE, 16), (F.SRF_POOLLEN_LEN, 256), (F.SRF_TBLLEN_LEN, 66), (F.SRF_PFCFG_CACHE16, 1), (F.CMP_CTL_EN, 0)] with srf := { State.reset.srf with surfs := [⟨5, 3, 4, true, false, none, false⟩], segs := [⟨3, 4, .loc 256⟩] }, dram := [(0x1000000, 5#8), (0x1000008, 1#8), (0x100000a, 1#8)] } witFrt1

/-- Witness. -/
def witFrt3 : State := coreRelease witFrt2 0

/-- Witness. -/
def witFrt4 : Bytes := match (areaFetch witFrt3 (leAt witFrt1.entry 2 2) (leAt witFrt1.entry 8 8) (loadBytes witFrt1.entry) .busError).1 with | .ok b => b | _ => []

/-- Witness. -/
def witFrt5 : Load := match makeLoad (areaFetch witFrt3 (leAt witFrt1.entry 2 2) (leAt witFrt1.entry 8 8) (loadBytes witFrt1.entry) .busError).2 witFrt1 witFrt4 with | .ok l => l | _ => ⟨0, 0, 0, witFrt1, [], []⟩

/-- Witness. -/
def witFrt6 : Item := itemOf [(0, 1, 0x31), (2, 2, 5), (1, 1, 19)]

/-- Witness. -/
def witFrt7 : State := core0 { die 0 [(F.SRF_CTL_EN, 1), (F.SRF_POOLBASE_BASE, 16), (F.SRF_POOLLEN_LEN, 256), (F.SRF_TBLLEN_LEN, 66), (F.SRF_PFCFG_CACHE16, 1), (F.CMP_CTL_EN, 0)] with srf := { State.reset.srf with surfs := [⟨5, 3, 4, true, false, none, false⟩], segs := [⟨3, 4, .loc 256⟩] } } witFrt6

/-- Witness. -/
def witFrt8 : State := coreRelease witFrt7 0

/-- Witness. -/
def witFrt9 : Item := itemOf [(0, 1, 0x32), (2, 2, 5), (1, 1, 7)]

/-- Witness. -/
def witFrt10 : State := core0 { die 0 [(F.SRF_CTL_EN, 1), (F.SRF_POOLBASE_BASE, 16), (F.SRF_POOLLEN_LEN, 256), (F.SRF_TBLLEN_LEN, 66), (F.SRF_PFCFG_CACHE16, 1), (F.CMP_CTL_EN, 0)] with srf := { State.reset.srf with surfs := [⟨5, 3, 4, true, false, none, false⟩], segs := [⟨3, 4, .loc 256⟩] }, dram := [(0x1000000, 5#8), (0x1000008, 1#8), (0x100000a, 1#8)] } witFrt9

/-- Witness. -/
def witFrt11 : State := coreRelease witFrt10 0

/-- Witness. -/
def witFrt12 : Bytes := match (areaFetch witFrt11 (leAt witFrt9.entry 2 2) (leAt witFrt9.entry 8 8) (loadBytes witFrt9.entry) .busError).1 with | .ok b => b | _ => []

/-- Witness. -/
def witFrt13 : Item := itemOf [(0, 1, 0x30), (2, 2, 5), (4, 2, 1), (16, 4, 7)]

/-- Witness. -/
def witFrt14 : State := core0 { die 0 [(F.SRF_CTL_EN, 1), (F.SRF_POOLBASE_BASE, 16), (F.SRF_POOLLEN_LEN, 256), (F.SRF_TBLLEN_LEN, 66), (F.SRF_PFCFG_CACHE16, 1), (F.CMP_CTL_EN, 1)] with srf := { State.reset.srf with surfs := [⟨5, 3, 4, true, false, none, false⟩], segs := [⟨3, 4, .loc 256⟩] }, dram := [(0x1000000, 5#8), (0x1000008, 1#8), (0x100000a, 1#8)] } witFrt13

/-- Witness. -/
def witFrt15 : State := coreRelease witFrt14 0

/-- Witness. -/
def witFrt16 : Bytes := match (areaFetch witFrt15 (leAt witFrt13.entry 2 2) (leAt witFrt13.entry 8 8) (loadBytes witFrt13.entry) .busError).1 with | .ok b => b | _ => []

/-- Witness. -/
def witFrt17 : Load := match makeLoad (areaFetch witFrt15 (leAt witFrt13.entry 2 2) (leAt witFrt13.entry 8 8) (loadBytes witFrt13.entry) .busError).2 witFrt13 witFrt16 with | .ok l => l | _ => ⟨0, 0, 0, witFrt13, [], []⟩

/-- Witness. -/
def witFrt18 : Item := itemOf [(0, 1, 0x31), (2, 2, 5), (1, 1, 19)]

/-- Witness. -/
def witFrt19 : State := core0 { die 0 [(F.SRF_CTL_EN, 1), (F.SRF_POOLBASE_BASE, 16), (F.SRF_POOLLEN_LEN, 256), (F.SRF_TBLLEN_LEN, 66), (F.SRF_PFCFG_CACHE16, 1), (F.CMP_CTL_EN, 1)] with srf := { State.reset.srf with surfs := [⟨5, 3, 4, true, false, none, false⟩], segs := [⟨3, 4, .loc 256⟩] } } witFrt18

/-- Witness. -/
def witFrt20 : State := coreRelease witFrt19 0

/-- Witness. -/
def witFrt21 : Item := itemOf [(0, 1, 0x32), (2, 2, 5), (1, 1, 7)]

/-- Witness. -/
def witFrt22 : State := core0 { die 0 [(F.SRF_CTL_EN, 1), (F.SRF_POOLBASE_BASE, 16), (F.SRF_POOLLEN_LEN, 256), (F.SRF_TBLLEN_LEN, 66), (F.SRF_PFCFG_CACHE16, 1), (F.CMP_CTL_EN, 1)] with srf := { State.reset.srf with surfs := [⟨5, 3, 4, true, false, none, false⟩], segs := [⟨3, 4, .loc 256⟩] }, dram := [(0x1000000, 5#8), (0x1000008, 1#8), (0x100000a, 1#8)] } witFrt21

/-- Witness. -/
def witFrt23 : State := coreRelease witFrt22 0

/-- Witness. -/
def witFrt24 : Bytes := match (areaFetch witFrt23 (leAt witFrt21.entry 2 2) (leAt witFrt21.entry 8 8) (loadBytes witFrt21.entry) .busError).1 with | .ok b => b | _ => []

/-- Witness. -/
def witFrt25 : Item := itemOf [(0, 1, 0x38)]

/-- Witness. -/
def witFrt26 : State := core0 { die 0 [] with cmp := { State.reset.cmp with pend := [(0xB0200, 3#32)], base := [(0xB0200, 1#32), (0xB0204, 2#32)] } } witFrt25

/-- Witness. -/
def witFrt27 : State := coreRelease witFrt26 0

/-- Witness. -/
def witFrt28 : Item := itemOf [(0, 1, 0x38)]

/-- Witness. -/
def witFrt29 : State := core0 { die 0 [(F.FRT_CTL_EN, 1)] with cmp := { State.reset.cmp with pend := [(0xB0200, 3#32)], base := [(0xB0200, 1#32), (0xB0204, 2#32)] } } witFrt28

/-- Witness. -/
def witFrt30 : State := coreRelease witFrt29 0

/-- Witness. -/
def witFrt31 : Item := itemOf [(0, 1, 0x39), (1, 1, 0x23), (8, 4, 1000), (4, 4, 200), (12, 4, 16666666), (20, 4, 5000000), (24, 4, 4000000), (28, 4, 100000)]

/-- Witness. -/
def witFrt32 : State := core0 (die 0 [(F.FRT_MSTAT_MGEN, F.FRT_MSTAT_MGEN.top)]) witFrt31

/-- Witness. -/
def witFrt33 : State := coreRelease witFrt32 0

/-- Witness. -/
def witFrt34 : Item := itemOf [(0, 1, 0x39), (1, 1, 3), (4, 4, 200), (12, 4, 16666666), (20, 4, 5000000), (24, 4, 4000000), (28, 4, 100000)]

/-- Witness. -/
def witFrt35 : State := core0 { die 0 [(F.FRT_CTL_EN, 1)] with frt := { State.reset.frt with mode := some ⟨16666666, 0, 5000000, 4000000, 100000, 4, 0, 100, 1000, true⟩ } } witFrt34

/-- Witness. -/
def witFrt36 : State := coreRelease witFrt35 0

theorem test_CompositorLoads :
    (∃ (host : HostRes) (it : Item) (x : State) (b : Bytes) (l : Load) (s : State), QueuesOk s ∧ LoadTakes s 0x30 host it x b l ∧ isSet x F.CMP_CTL_EN = false) ∧
    (∃ (host : HostRes) (it : Item) (x : State) (b : Bytes) (l : Load) (s : State), QueuesOk s ∧ LoadTakes s 0x31 host it x b l ∧ isSet x F.CMP_CTL_EN = false) ∧
    (∃ (host : HostRes) (it : Item) (x : State) (b : Bytes) (l : Load) (s : State), QueuesOk s ∧ LoadTakes s 0x32 host it x b l ∧ isSet x F.CMP_CTL_EN = false) ∧
    (∃ (host : HostRes) (it : Item) (x : State) (b : Bytes) (l : Load) (s : State), QueuesOk s ∧ LoadTakes s 0x30 host it x b l ∧ isSet x F.CMP_CTL_EN = true) ∧
    (∃ (host : HostRes) (it : Item) (x : State) (b : Bytes) (l : Load) (s : State), QueuesOk s ∧ LoadTakes s 0x31 host it x b l ∧ isSet x F.CMP_CTL_EN = true) :=
  ⟨⟨HostRes.busError, witFrt1, witFrt3, witFrt4, witFrt5, witFrt2, by decide +kernel⟩,
   ⟨HostRes.busError, witFrt6, witFrt8, zeros 16384, ⟨0x31, byteAt witFrt6.entry 1, leAt witFrt6.entry 16 4, witFrt6, zeroWords, []⟩, witFrt7, by decide +kernel, ⟨by decide +kernel, by decide +kernel, by decide +kernel, by decide +kernel, areaFetch_zeros (v := 3) (p := 3) (o := 0) (g := 256) (by decide +kernel), makeLoad_zeros (by decide +kernel)⟩, by decide +kernel⟩,
   ⟨HostRes.busError, witFrt9, witFrt11, witFrt12, ⟨0x32, byteAt witFrt9.entry 1, leAt witFrt9.entry 16 4, witFrt9, (List.range 512).map (fun i => leAt witFrt12 (2 * i) 2), []⟩, witFrt10, by decide +kernel, ⟨by decide +kernel, by decide +kernel, by decide +kernel, by decide +kernel, by decide +kernel, makeLoad_filter _ (by decide +kernel)⟩, by decide +kernel⟩,
   ⟨HostRes.busError, witFrt13, witFrt15, witFrt16, witFrt17, witFrt14, by decide +kernel⟩,
   ⟨HostRes.busError, witFrt18, witFrt20, zeros 16384, ⟨0x31, byteAt witFrt18.entry 1, leAt witFrt18.entry 16 4, witFrt18, zeroWords, []⟩, witFrt19, by decide +kernel, ⟨by decide +kernel, by decide +kernel, by decide +kernel, by decide +kernel, areaFetch_zeros (v := 3) (p := 3) (o := 0) (g := 256) (by decide +kernel), makeLoad_zeros (by decide +kernel)⟩, by decide +kernel⟩⟩

theorem test_CompositorLoads_2 :
    (∃ (host : HostRes) (it : Item) (x : State) (b : Bytes) (l : Load) (s : State), QueuesOk s ∧ LoadTakes s 0x32 host it x b l ∧ isSet x F.CMP_CTL_EN = true) ∧
    (∃ (v : Word) (s : State), WriteOk s R.CMP_CTL (F.CMP_CTL_EN.put v 1)) ∧
    (∃ (v : Word) (s : State), WriteOk s R.CMP_CTL (F.CMP_CTL_EN.put v 0)) ∧
    (∃ (dt : Nat) (r : Raster) (s : State), blkOn (advance dt s) 0x0B = true ∧ (advance dt s).cmp.raster = some r ∧ r.finished = false ∧ r.aborted = false ∧ matOrAfter 32 (timeNs (advance dt s)) r.due = false ∧ frameBad (advance dt s) ⟨r.frame, r.cfg, r.ramps, r.step⟩ r.layers = none) :=
  ⟨⟨HostRes.busError, witFrt21, witFrt23, witFrt24, ⟨0x32, byteAt witFrt21.entry 1, leAt witFrt21.entry 16 4, witFrt21, (List.range 512).map (fun i => leAt witFrt24 (2 * i) 2), []⟩, witFrt22, by decide +kernel, ⟨by decide +kernel, by decide +kernel, by decide +kernel, by decide +kernel, by decide +kernel, makeLoad_filter _ (by decide +kernel)⟩, by decide +kernel⟩,
   ⟨regFill R.CMP_CTL, up1 (die 0 [(F.SRF_CTL_EN, 1)]), by decide +kernel⟩,
   ⟨regFill R.CMP_CTL, { up1 (die 0 [(F.CMP_CTL_EN, 1), (F.SRF_CTL_EN, 1)]) with cmp := { State.reset.cmp with raster := some ⟨7, 1, 10000, [], 0, [], [], 0, [], [], [], false, false⟩ } }, by decide +kernel⟩,
   ⟨5, (⟨7, 1, 10000, [], 0, [], [], 0, [], [], [], false, false⟩ : Raster), { die 0 [(F.CMP_CTL_EN, 1), (F.SRF_CTL_EN, 1)] with cmp := { State.reset.cmp with raster := some ⟨7, 1, 10000, [], 0, [], [], 0, [], [], [], false, false⟩ } }, by decide +kernel⟩⟩

theorem test_CommitsAndModes :
    (∃ (dt : Nat) (s : State), QueuesOk s ∧ WriteOk (advance dt s) R.FRT_COMMIT (F.FRT_COMMIT_GO.put 0#32 1) ∧ frtEn (advance dt s) = false) ∧
    (∃ (dt : Nat) (s : State), QueuesOk s ∧ WriteOk (advance dt s) R.FRT_COMMIT (F.FRT_COMMIT_GO.put 0#32 1) ∧ frtEn (advance dt s) = true) ∧
    (∃ (it : Item) (x : State) (s : State), QueuesOk s ∧ blkOn s 0x0C = true ∧ coreTake s 0x38 = some (it, x) ∧ frtCheck x it.entry = .ok ∧ frtEn x = false) ∧
    (∃ (it : Item) (x : State) (s : State), QueuesOk s ∧ blkOn s 0x0C = true ∧ coreTake s 0x38 = some (it, x) ∧ frtCheck x it.entry = .ok ∧ frtEn x = true) ∧
    (∃ (it : Item) (x : State) (s : State), QueuesOk s ∧ blkOn s 0x0C = true ∧ coreTake s 0x39 = some (it, x) ∧ frtCheck x it.entry = .ok ∧ frtEn x = false) :=
  ⟨⟨3, { up1 (die 0 []) with cmp := { State.reset.cmp with pend := [(0xB0200, 3#32)], base := [(0xB0200, 1#32), (0xB0204, 2#32)] } }, by decide +kernel⟩,
   ⟨3, { up1 (die 0 [(F.FRT_CTL_EN, 1)]) with cmp := { State.reset.cmp with pend := [(0xB0200, 3#32)], base := [(0xB0200, 1#32), (0xB0204, 2#32)] } }, by decide +kernel⟩,
   ⟨witFrt25, witFrt27, witFrt26, by decide +kernel⟩,
   ⟨witFrt28, witFrt30, witFrt29, by decide +kernel⟩,
   ⟨witFrt31, witFrt33, witFrt32, by decide +kernel⟩⟩

theorem test_CommitsAndModes_2 :
    (∃ (it : Item) (x : State) (s : State), QueuesOk s ∧ blkOn s 0x0C = true ∧ coreTake s 0x39 = some (it, x) ∧ frtCheck x it.entry = .ok ∧ frtEn x = true ∧ x.frt.mode ≠ none) ∧
    (∃ (dt : Nat) (v : Word) (m : Mode) (s : State), QueuesOk s ∧ WriteOk (advance dt s) R.FRT_CTL (F.FRT_CTL_EN.put v 1) ∧ frtEn (advance dt s) = false ∧ (advance dt s).frt.mode = some m) ∧
    (∃ (dt : Nat) (v : Word) (s : State), QueuesOk s ∧ WriteOk (advance dt s) R.FRT_CTL (F.FRT_CTL_EN.put v 0) ∧ frtEn (advance dt s) = true) :=
  ⟨⟨witFrt34, witFrt36, witFrt35, by decide +kernel⟩,
   ⟨3, regFill R.FRT_CTL, ⟨16666666, 0, 5000000, 4000000, 100000, 4, 0, 100, 100000000, true⟩, { up1 (die 0 []) with frt := { State.reset.frt with mode := some ⟨16666666, 0, 5000000, 4000000, 100000, 4, 0, 100, 100000000, true⟩ } }, by decide +kernel⟩,
   ⟨3, regFill R.FRT_CTL, { up1 (die 0 [(F.FRT_CTL_EN, 1)]) with frt := { State.reset.frt with queued := [⟨3, [], [], false⟩], mode := some ⟨16666666, 0, 5000000, 4000000, 100000, 4, 0, 100, 1000, true⟩ }, cmp := { State.reset.cmp with pend := [(0xB0200, 3#32)], base := [(0xB0200, 1#32), (0xB0204, 2#32)] } }, by decide +kernel⟩⟩

theorem test_SenderFrames :
    (∃ (dt : Nat) (m : Mode) (s : State), QueuesOk s ∧ blkOn (advance dt s) 0x0C = true ∧ (advance dt s).frt.mode = some m ∧ frtOn (advance dt s) = true ∧ latchExt (advance dt s) m (getF (advance dt s) F.FRT_NEXTLAT_FRAME) ≤ nowFine (advance dt s)) ∧
    (∃ (dt : Nat) (m : Mode) (s : State), QueuesOk s ∧ blkOn (advance dt s) 0x0C = true ∧ (advance dt s).frt.mode = some m ∧ frtOn (advance dt s) = true ∧ genDue (advance dt s) (frtGen (advance dt s)) = true) ∧
    (∃ (dt : Nat) (r : Raster) (s : State), QueuesOk s ∧ blkOn (advance dt s) 0x0C = true ∧ (advance dt s).cmp.raster = some r ∧ r.finished = false ∧ r.aborted = false ∧ (advance dt s).frt.under ≠ some r.frame ∧ matOrAfter 32 (timeNs (advance dt s)) r.due = true) :=
  ⟨⟨3, ⟨16666666, 0, 5000000, 4000000, 100000, 4, 0, 100, 1000, true⟩, { die 0 [(F.FRT_CTL_EN, 1), (F.FRT_NEXTLAT_FRAME, 101), (F.CMP_CTL_EN, 1), (F.SRF_CTL_EN, 1), (F.TIM_PGCFG_EN 0, 1)] with frt := { State.reset.frt with mode := some ⟨16666666, 0, 5000000, 4000000, 100000, 4, 0, 100, 1000, true⟩ }, tim := { State.reset.tim with gens := [(0, ⟨1, 1000, 279620261, 1⟩)] }, time := 16700000 * 2 ^ 28 }, by decide +kernel⟩,
   ⟨0, ⟨16666666, 0, 5000000, 4000000, 100000, 4, 0, 100, 1000, true⟩, { die 0 [(F.FRT_CTL_EN, 1), (F.FRT_NEXTLAT_FRAME, 101), (F.CMP_CTL_EN, 1), (F.SRF_CTL_EN, 1), (F.TIM_PGCFG_EN 0, 1)] with frt := { State.reset.frt with queued := [⟨101, [], [], false⟩], mode := some ⟨16666666, 0, 5000000, 4000000, 100000, 4, 0, 100, 1000, true⟩ }, tim := { State.reset.tim with gens := [(0, ⟨1, 1000, 279620261, 1⟩)] }, time := 16800000 * 2 ^ 28 }, by decide +kernel⟩,
   ⟨5, (⟨7, 1, 10000, [], 0, [], [], 0, [], [], [], false, false⟩ : Raster), { die 0 [(F.CMP_CTL_EN, 1), (F.SRF_CTL_EN, 1), (F.FRT_CTL_EN, 1)] with time := 10000 * 2 ^ 28, cmp := { State.reset.cmp with raster := some ⟨7, 1, 10000, [], 0, [], [], 0, [], [], [], false, false⟩ } }, by decide +kernel⟩⟩

end Sys2Proof.Machine
end

