-- ==== Sys2Proof/Tests/Host.lean ====
section
/-! SUPPORT. For each statement of this family, states and operands that meet the hypotheses of its clauses. -/

set_option Elab.async false
set_option maxRecDepth 100000

namespace Sys2Proof.Machine

/-- Witness. -/
def witHost1 : Desc := (⟨itemOf [], 1, 64, false, [], ⟨0, true, [], 0, 0x4000, false⟩, ⟨0, true, [], 0, 0x8000, false⟩, true, true, 0, 0, none, false, [], none, none⟩ : Desc)

/-- Witness. -/
def witHost2 : Desc := (⟨itemOf [], 1, 64, false, [], ⟨0, false, [⟨0x4000, 64, none⟩], 0, 0, true⟩, ⟨1, false, [⟨0x40040, 64, none⟩], 0, 0, true⟩, false, false, 0, 64, none, false, [], none, none⟩ : Desc)

/-- Witness. -/
def witHost3 : Desc := (⟨itemOf [], 1, 128, false, [], ⟨0, false, [], 0, 0, true⟩, ⟨1, false, [], 0, 0, true⟩, false, false, 128, 0, none, false, [], none, none⟩ : Desc)

/-- Witness. -/
def witHost4 : Item := itemOf [(0, 1, 0x20)]

/-- Witness. -/
def witHost5 : Item := { itemOf [(0, 1, 0x20)] with prio := 3 }

/-- Witness. -/
def witHost6 : DReq := ⟨1, 2, false, 1048575, [], 0, 100, false, false, false, none⟩

/-- Witness. -/
def witHost7 : DReq := ⟨1, 0, false, 1, [], 0, 100, false, false, false, none⟩

theorem test_HostAccess :
    (∃ (off : Nat) (v : Nat) (s : State), off % 4 = 0 ∧ (¬ (0x30000 ≤ off ∧ off < 0x38100)) ∧ off < 0x800000 ∧ WriteOk s off (BitVec.ofNat 32 v)) ∧
    (∃ (off : Nat) (v : Nat) (s : State), off % 4 = 0 ∧ (¬ (0x30000 ≤ off ∧ off < 0x38100)) ∧ off < 0x800000 ∧ barOpen s = true ∧ writeCode s off (BitVec.ofNat 32 v) ≠ .ok) ∧
    (∃ (off : Nat) (s : State), off % 4 = 0 ∧ 0x30000 ≤ off ∧ off < 0x38000 ∧ barOpen s = true) ∧
    (∃ (off : Nat) (s : State), off % 4 = 0 ∧ 0x30000 ≤ off ∧ off < 0x38000 ∧ barOpen s = true) ∧
    (∃ (off : Nat) (s : State), off % 8 = 0 ∧ barOpen s = true) :=
  ⟨⟨0xE0000, 0, up1 (die 0 []), by decide +kernel⟩,
   ⟨0x7FFFFC, 1, up1 (die 0 []), by decide +kernel⟩,
   ⟨0x30000, up1 (die 0 []), by decide +kernel⟩,
   ⟨0x37FFC, up1 (die 0 []), by decide +kernel⟩,
   ⟨0x30008, up1 (die 0 []), by decide +kernel⟩⟩

theorem test_HostAccess_2 :
    (∃ (size : Nat) (off : Nat) (s : State), barOpen s = true ∧ (¬ (size = 4 ∧ off % 4 = 0)) ∧ (¬ (size = 8 ∧ off % 8 = 0))) ∧
    (∃ (size : Nat) (off : Nat) (s : State), barOpen s = true ∧ (¬ (size = 4 ∧ off % 4 = 0)) ∧ (¬ (size = 8 ∧ off % 8 = 0))) ∧
    (∃ (s : State), WriteOk s R.GLB_ERRINFO (F.GLB_ERRINFO_VALID.put 0#32 1)) ∧
    (∃ (size : Nat) (off : Nat) (s : State), barOpen s = true ∧ (¬ (size = 4 ∧ off % 4 = 0)) ∧ (¬ (size = 8 ∧ off % 8 = 0)) ∧ getF s F.GLB_ERRINFO_VALID = 0) ∧
    (∃ (size : Nat) (off : Nat) (s : State), barOpen s = true ∧ (¬ (size = 4 ∧ off % 4 = 0)) ∧ (¬ (size = 8 ∧ off % 8 = 0)) ∧ getF s F.GLB_ERRINFO_VALID = 0) :=
  ⟨⟨4, 0xFFFFFE, up1 (die 0 []), by decide +kernel⟩,
   ⟨8, 4, up1 (die 0 []), by decide +kernel⟩,
   ⟨up1 (die 0 [(F.GLB_ERRINFO_VALID, 1), (F.GLB_ERRINFO_COUNT, 255)]), by decide +kernel⟩,
   ⟨2, 0, up1 (die 0 []), by decide +kernel⟩,
   ⟨8, 4, up1 (die 0 []), by decide +kernel⟩⟩

theorem test_HostAccess_3 :
    (∃ (off : Nat) (s : State), barOpen s = true ∧ off % 4 = 0) ∧
    (∃ (off : Nat) (s : State), barOpen s = true ∧ off % 8 = 0) ∧
    (∃ (q : Nat) (s : State), q < 4096 ∧ barOpen s = true ∧ dormant s 0x04 = false) ∧
    (∃ (e : Ev) (l : List Ev) (s : State), barOpen s = true ∧ s.hif.events = e :: l) ∧
    (∃ (c : Nat) (s : State), c < 64 ∧ barOpen s = true ∧ readsReset s (R.DMA_CHBYTLO c) = false) :=
  ⟨⟨0xFFFFFC, up1 (die 0 []), by decide +kernel⟩,
   ⟨8, up1 (die 0 []), by decide +kernel⟩,
   ⟨4095, up1 (die 0 [(F.QUE_IDX_TAIL 4095, 7), (F.QUE_RET_RETIRE 4095, 5)]), by decide +kernel⟩,
   ⟨(⟨0x13, 99, [1#8,2#8,3#8,4#8,5#8,6#8,7#8,8#8]⟩ : Ev), ([] : List Ev), { up1 (die 0 []) with hif := { State.reset.hif with events := [⟨0x13, 99, [1#8,2#8,3#8,4#8,5#8,6#8,7#8,8#8]⟩] } }, by decide +kernel⟩,
   ⟨63, { up1 (die 0 []) with dma := [(63, { chanReset with bytes := 2 ^ 40 + 1 })] }, by decide +kernel⟩⟩

theorem test_HostAccess_4 :
    (∃ (dt : Nat) (s : State), barOpen (advance dt s) = true ∧ readsReset (advance dt s) R.TIM_NOWLO = false) ∧
    (∃ (s : State), barOpen s = true ∧ readsReset s (R.SEC_NONCE 0) = false) ∧
    (∃ (s : State), (s.hif.events.drop (s.hif.events.length - eventsNow s)).Pairwise (fun a b => a.key ≤ b.key)) ∧
    (∃ (dt : Nat) (k : Nat) (s : State), inReset (advance dt s) = false ∧ power (advance dt s) ≠ 4 ∧ k < 32 ∧ blkReset (advance dt s) k = true ∧ (advance dt s).boot.blkAt.getD k 0 + 1000 ≤ upNs (advance dt s)) :=
  ⟨⟨1000, { up1 (die 0 []) with wraps := 3 }, by decide +kernel⟩,
   ⟨up1 (die 0 []), by decide +kernel⟩,
   ⟨{ up1 (die 0 []) with hif := { State.reset.hif with events := [⟨0x1E, 99, []⟩] } }, by decide +kernel⟩,
   ⟨1000, 31, setBitF (die 0 []) F.GLB_BLKRST_BLK 31 true, by decide +kernel⟩⟩

theorem test_Queues :
    (∃ (q : Nat) (s : State), q < 4096 ∧ WriteOk s (R.QUE_CTL q) 1#32 ∧ getF s (F.QUE_CTL_ENABLE q) = 0) ∧
    (∃ (q : Nat) (s : State), q < 4096 ∧ WriteOk s (R.QUE_CTL q) 0#32 ∧ getF s (F.QUE_CTL_ENABLE q) = 1) ∧
    (∃ (q : Nat) (s : State), q < 4096 ∧ WriteOk s (R.QUE_CTL q) (BitVec.ofNat 32 (getF s (F.QUE_CTL_ENABLE q) + 2))) ∧
    (∃ (q : Nat) (s : State), q < 4096 ∧ WriteOk s (R.QUE_CTL q) (BitVec.ofNat 32 (getF s (F.QUE_CTL_ENABLE q) + 2))) ∧
    (∃ (q : Nat) (s : State), q < 4096 ∧ WriteOk s (R.QUE_CTL q) (BitVec.ofNat 32 (getF s (F.QUE_CTL_ENABLE q) + 4))) :=
  ⟨⟨4095, up1 (die 0 []), by decide +kernel⟩,
   ⟨4095, up1 (die 0 [(F.QUE_CTL_ENABLE 4095, 1), (F.QUE_STAT_STATE 4095, qStopped)]), by decide +kernel⟩,
   ⟨4095, up1 (die 0 [(F.QUE_CTL_ENABLE 4095, 1), (F.QUE_STAT_STATE 4095, qRunning)]), by decide +kernel⟩,
   ⟨0, up1 (die 0 [(F.QUE_CTL_ENABLE 0, 1), (F.QUE_STAT_STATE 0, qRunning), (F.QUE_STAT_INFLIGHT 0, 1)]), by decide +kernel⟩,
   ⟨4095, up1 (die 0 [(F.QUE_CTL_ENABLE 4095, 1), (F.QUE_STAT_STATE 4095, qStopped)]), by decide +kernel⟩⟩

theorem test_Queues_2 :
    (∃ (q : Nat) (v : Nat) (s : State), q < 4096 ∧ v < 2 ^ 32 ∧ barOpen s = true ∧ dormant s 0x04 = false ∧ blkReset s 0x04 = false ∧ doorbellCheck s q v = .ok) ∧
    (∃ (q : Nat) (v : Nat) (s : State), q < 4096 ∧ v < 2 ^ 32 ∧ barOpen s = true ∧ dormant s 0x04 = false ∧ blkReset s 0x04 = false ∧ doorbellCheck s q v ≠ .ok) ∧
    (∃ (q : Nat) (b : Bytes) (s : State), q < 4096 ∧ blkOn s 0x04 = true ∧ deadRead s (.ring q) = false ∧ (qrec s q).reading = true ∧ qState s q = qRunning ∧ qLocal s q = false ∧ (byteAt (fit 64 b) 60).testBit 0 = true ∧ leAt (fit 64 b) 56 2 = qFetch s q) ∧
    (∃ (dt : Nat) (q : Nat) (s : State), q < 4096 ∧ blkOn (advance dt s) 0x04 = true ∧ (qrec (advance dt s) q).waiting = true ∧ qState (advance dt s) q = qRunning ∧ (qrec (advance dt s) q).since + 1000000 ≤ upNs (advance dt s) ∧ storeRoom (advance dt s) q = true) ∧
    (∃ (dt : Nat) (q : Nat) (r : OutRead) (s : State), QueuesOk s ∧ q < 4096 ∧ blkOn (advance dt s) 0x02 = true ∧ (advance dt s).hif.reads.find? (fun r => r.who == .ring q) = some r ∧ r.live = true ∧ r.due ≤ upNs (advance dt s) ∧ (qrec (advance dt s) q).reading = true ∧ qState (advance dt s) q = qRunning) :=
  ⟨⟨4095, 4, up1 (die 0 [(F.QUE_STAT_STATE 4095, qStopped), (F.QUE_CFG_SIZE 4095, 2)]), by decide +kernel⟩,
   ⟨4095, 17, up1 (die 0 [(F.QUE_STAT_STATE 4095, qStopped), (F.QUE_CFG_SIZE 4095, 2)]), by decide +kernel⟩,
   ⟨4095, entryOf [(0, 1, 0x10), (59, 1, 3), (60, 1, 1)], { up1 (die 0 [(F.QUE_STAT_STATE 4095, qRunning)]) with queues := [(4095, { qrecReset with reading := true })] }, by decide +kernel⟩,
   ⟨1000000, 4095, { up1 (die 0 [(F.QUE_STAT_STATE 4095, qRunning)]) with queues := [(4095, { qrecReset with waiting := true })] }, by decide +kernel⟩,
   ⟨10, 4095, (⟨.ring 4095, 10, true, 1⟩ : OutRead), { { up1 (die 0 [(F.QUE_STAT_STATE 4095, qRunning)]) with queues := [(4095, { qrecReset with reading := true })] } with hif := { State.reset.hif with reads := [⟨.ring 4095, 10, true, 1⟩] } }, by decide +kernel⟩⟩

theorem test_Queues_3 : ∃ (s : State), blkOn s 0x02 = true ∧ 0 < s.hif.timedOut :=
  ⟨{ up1 (die 0 [(F.DMA_GSTAT_LATECPL, F.DMA_GSTAT_LATECPL.top)]) with hif := { State.reset.hif with timedOut := 1 } }, by decide +kernel⟩

theorem test_DmaEngine :
    (∃ (c : Nat) (b : Bytes) (a : Nat) (d : Desc) (s : State), QueuesOk s ∧ c < 64 ∧ blkOn s 0x08 = true ∧ deadRead s (.seg c false false) = false ∧ (chan s c).active = some d ∧ (chan s c).shadow = none ∧ d.wantSrc = true ∧ d.wantDst = true ∧ d.fault = none ∧ d.held = none ∧ place s d.src.sp d.src.next = .host a ∧ segCheck (fit 64 b) d.src.sp (d.len - d.done) d.src.segs = none) ∧
    (∃ (c : Nat) (a : Nat) (p : Nat) (g : Option (Nat × Nat)) (a2 : Nat) (g2 : Option (Nat × Nat)) (d : Desc) (s : State), QueuesOk s ∧ c < 64 ∧ blkOn s 0x08 = true ∧ deadRead s (.data c) = false ∧ (chan s c).active = some d ∧ (chan s c).shadow = none ∧ (chan s c).susp = none ∧ d.wantSrc = false ∧ d.wantDst = false ∧ d.fault = none ∧ d.held = none ∧ d.op = 1 ∧ d.asked = 64 ∧ d.len = d.done + 64 ∧ d.src.sp = 0 ∧ d.src.elems = [⟨a, 64, g⟩] ∧ d.dst.sp = 1 ∧ d.dst.elems = [⟨a2, 64, g2⟩] ∧ place s 0 a = .host a ∧ place s 1 a2 = .dram p) ∧
    (∃ (c : Nat) (d : Desc) (s : State), QueuesOk s ∧ c < 64 ∧ blkOn s 0x08 = true ∧ (chan s c).active = some d ∧ (chan s c).shadow = none ∧ (chan s c).susp = none ∧ d.fault = none ∧ d.len ≤ d.done ∧ d.asked = 0) :=
  ⟨⟨63, entryOf [(0, 6, 0x100000), (8, 4, 64), (56, 1, 1), (57, 1, 1)], 0x4000, witHost1, { up1 (die 0 [(F.HIF_LINKSTAT_BME, 1), (F.SRF_CTL_EN, 1), (F.SRF_TBLLEN_LEN, 64), (F.DRC_CAP_PAGES, 1024)]) with dma := [(63, { chanReset with active := some witHost1 })] }, by decide +kernel⟩,
   ⟨63, 0x4000, 0x1000040, none, 0x40040, none, witHost2, { up1 (die 0 [(F.HIF_LINKSTAT_BME, 1), (F.SRF_CTL_EN, 1), (F.SRF_TBLLEN_LEN, 64), (F.DRC_CAP_PAGES, 1024)]) with dma := [(63, { chanReset with active := some witHost2 })], srf := { State.reset.srf with segs := [⟨4, 1, .loc 0x100⟩] } }, by decide +kernel⟩,
   ⟨63, witHost3, { up1 (die 0 [(F.HIF_LINKSTAT_BME, 1), (F.SRF_CTL_EN, 1), (F.SRF_TBLLEN_LEN, 64), (F.DRC_CAP_PAGES, 1024), (F.DMA_CHCFG_ENABLE 63, 1), (F.DMA_CHCNT_CNT 63, (F.DMA_CHCNT_CNT 63).top)]) with dma := [(63, { chanReset with active := some witHost3 })] }, by decide +kernel⟩⟩

theorem test_SortingOffice :
    (∃ (i : Item) (k : Nat) (s : State), QueuesOk s ∧ blkOn s 0x09 = true ∧ bestItem s (fun i => (chooseTarget s (groupOf s i.q)).isSome) = some i ∧ chooseTarget s (groupOf s i.q) = some k ∧ k < 8 ∧ coreOpcodes.contains (opcode i) = true ∧ (trec s k).active = none) ∧
    (∃ (i : Item) (k : Nat) (s : State), QueuesOk s ∧ blkOn s 0x09 = true ∧ bestItem s (fun i => (chooseTarget s (groupOf s i.q)).isNone && (chooseVictim s i).isSome) = some i ∧ chooseVictim s i = some k ∧ k < 8 ∧ coreOpcodes.contains (opcode i) = true ∧ s.sor.picked = []) ∧
    (∃ (dt : Nat) (win : Bool) (k : Nat) (i : Item) (s : State), blkOn (advance dt s) 0x09 = true ∧ (if win then (advance dt s).sor.winPollDue else (advance dt s).sor.pollDue) = true ∧ k < 64 ∧ isSet (advance dt s) F.HIF_LINKSTAT_UP = true ∧ (trec (advance dt s) (72 + k)).normal = some i) ∧
    (∃ (dt : Nat) (win : Bool) (k : Nat) (i : Item) (s : State), blkOn (advance dt s) 0x09 = true ∧ (if win then (advance dt s).sor.winPollDue else (advance dt s).sor.pollDue) = true ∧ k < 64 ∧ isSet (advance dt s) F.HIF_LINKSTAT_UP = true ∧ (trec (advance dt s) (72 + k)).normal = some i) ∧
    (∃ (k : Nat) (urgent : Bool) (b : Bytes) (i : Item) (s : State), QueuesOk s ∧ k < 136 ∧ blkOn s 0x09 = true ∧ deadRead s (.slot k urgent) = false ∧ slotItem s k urgent = some i ∧ (byteAt b 60).testBit 0 = false) :=
  ⟨⟨witHost5, 7, { die 0 [(F.SOR_GRPCFG_CLASS 0, 0), ((⟨R.SOR_GRPMLO 0, 0, 32⟩ : Fld), 0x80), (F.SOR_TGTCFG_EN 7, 1)] with sor := { State.reset.sor with ready := [witHost5] } }, by decide +kernel⟩,
   ⟨witHost4, 7, { die 0 [(F.SOR_GRPCFG_CLASS 0, 0), ((⟨R.SOR_GRPMLO 0, 0, 32⟩ : Fld), 0x80), (F.SOR_TGTCFG_EN 7, 1), (F.SOR_TGTCFG_PREEMPT 7, 1), (F.SOR_TGTSTAT_BUSY 7, 1), (F.SOR_TGTSTAT_PRIO 7, 3)] with sor := { State.reset.sor with ready := [witHost4], targets := [(7, ⟨some witHost5, none, false, [], [], none⟩)] } }, by decide +kernel⟩,
   ⟨0, true, 63, witHost5, { up1 (die 0 [(F.SOR_TGTCFG_EN 135, 1)]) with sor := { State.reset.sor with winPollDue := true, targets := [(135, ⟨some witHost5, none, false, [], [], none⟩)] } }, by decide +kernel⟩,
   ⟨0, false, 63, witHost5, { up1 (die 0 [(F.SOR_TGTCFG_EN 135, 1), (F.HIF_LINKSTAT_BME, 1)]) with sor := { State.reset.sor with pollDue := true, targets := [(135, ⟨some witHost5, none, false, [], [], none⟩)] } }, by decide +kernel⟩,
   ⟨135, false, [], witHost5, { up1 (die 0 [(F.SOR_TGTCFG_EN 135, 1)]) with sor := { State.reset.sor with winDone := [], targets := [(135, ⟨some witHost5, none, false, [witHost4], [], none⟩)] } }, by decide +kernel⟩⟩

theorem test_SortingOffice_2 :
    (∃ (k : Nat) (urgent : Bool) (b : Bytes) (i : Item) (s : State), QueuesOk s ∧ k < 136 ∧ blkOn s 0x09 = true ∧ deadRead s (.slot k urgent) = false ∧ slotItem s k urgent = some i ∧ (byteAt b 60).testBit 0 = false) ∧
    (∃ (k : Nat) (urgent : Bool) (i : Item) (s : State), QueuesOk s ∧ k < 136 ∧ blkOn s 0x09 = true ∧ deadRead s (.slot k urgent) = false ∧ slotItem s k urgent = some i) ∧
    (∃ (dt : Nat) (n : Nat) (busy : List Nat) (l : List (Nat × List Nat)) (s : State) (k : Nat), blkOn (advance dt s) 0x09 = true ∧ (advance dt s).sor.winDone = (n, busy) :: l ∧ k < 136) :=
  ⟨⟨135, true, [], witHost4, { up1 (die 0 [(F.SOR_TGTCFG_EN 135, 1)]) with sor := { State.reset.sor with winDone := [], targets := [(135, ⟨some witHost5, some witHost4, true, [], [], none⟩)] } }, by decide +kernel⟩,
   ⟨135, false, witHost5, { up1 (die 0 [(F.SOR_TGTCFG_EN 135, 1)]) with sor := { State.reset.sor with winDone := [], targets := [(135, ⟨some witHost5, none, false, [], [], none⟩)] } }, by decide +kernel⟩,
   ⟨7, 1000, (List.replicate 135 0 ++ [500]), [(5, [])], { up1 (die 0 [(F.SOR_TGTCFG_EN 135, 1)]) with sor := { State.reset.sor with winDone := [(1000, List.replicate 135 0 ++ [500]), (5, [])], targets := [(135, ⟨some witHost5, none, false, [], [], none⟩)] } }, 135, by decide +kernel⟩⟩

theorem test_DramAccess :
    (∃ (dt : Nat) (b : Nat) (s : State), DramOn (advance dt s) ∧ b < drcBlocks (advance dt s) ∧ portsHeld (advance dt s) (blockChan (advance dt s) b) = false) ∧
    (∃ (dt : Nat) (b : Nat) (s : State), DramOn (advance dt s) ∧ drcBlocks (advance dt s) ≤ b) ∧
    (∃ (dt : Nat) (port : Nat) (b : Nat) (err : List (Nat × Nat)) (r : DReq) (d : Bytes) (s : State), DramOn (advance dt s) ∧ (advance dt s).drc.reqs.find? (fun r => !r.wr && r.port == port && r.block == b) = some r ∧ r.hazard = false ∧ mayIssue (advance dt s) r = true ∧ eccRead (advance dt s) b err = (some d, advance dt s)) ∧
    (∃ (dt : Nat) (port : Nat) (b : Nat) (r : DReq) (s : State), DramOn (advance dt s) ∧ (advance dt s).drc.reqs.find? (fun r => !r.wr && r.port == port && r.block == b) = some r ∧ r.hazard = false ∧ mayIssue (advance dt s) r = true ∧ (advance dt s).drc.poison.contains b = true) ∧
    (∃ (dt : Nat) (b : Nat) (s : State), DramOn (advance dt s) ∧ b < drcBlocks (advance dt s) ∧ portsHeld (advance dt s) (blockChan (advance dt s) b) = false ∧ (advance dt s).drc.reqs.filter DReq.wr = [] ∧ (chReqs (advance dt s) (blockChan (advance dt s) b)).isEmpty = true) :=
  ⟨⟨5, 1048575, { die 0 [(F.DRC_CFG_ENMASK, 3), (F.DRC_CAP_PAGES, 1024)] with drc := { State.reset.drc with patrol := 0 } }, by decide +kernel⟩,
   ⟨5, 1048576, { die 0 [(F.DRC_CFG_ENMASK, 3), (F.DRC_CAP_PAGES, 1024)] with drc := { State.reset.drc with patrol := 0 } }, by decide +kernel⟩,
   ⟨5, 1, 1048575, ([] : List (Nat × Nat)), witHost6, (List.replicate 64 0#8), { die 0 [(F.DRC_CFG_ENMASK, 3), (F.DRC_CAP_PAGES, 1024)] with drc := { State.reset.drc with reqs := [witHost6] } }, by decide +kernel⟩,
   ⟨5, 1, 1048575, witHost6, { die 0 [(F.DRC_CFG_ENMASK, 3), (F.DRC_CAP_PAGES, 1024)] with drc := { State.reset.drc with reqs := [witHost6], poison := [1048575] } }, by decide +kernel⟩,
   ⟨5, 1048575, { die 0 [(F.DRC_CFG_ENMASK, 3), (F.DRC_CAP_PAGES, 1024)] with drc := { State.reset.drc with patrol := 0 } }, by decide +kernel⟩⟩

theorem test_DramAccess_2 :
    (∃ (dt : Nat) (b : Nat) (err : List (Nat × Nat)) (s : State) (d : Bytes), DramOn (advance dt s) ∧ b < drcBlocks (advance dt s) ∧ portsHeld (advance dt s) (blockChan (advance dt s) b) = false ∧ (chReqs (advance dt s) (blockChan (advance dt s) b)).isEmpty = true ∧ (eccRead (advance dt s) b err).1 = some d) ∧
    (∃ (dt : Nat) (s : State), DramOn (advance dt s) ∧ isSet (advance dt s) F.DRC_REFCFG_SCRUBH = true ∧ 0 < drcBlocks (advance dt s) ∧ patrolDue (advance dt s) = true ∧ chState (advance dt s) (blockChan (advance dt s) ((advance dt s).drc.patrol % drcBlocks (advance dt s))) = chActive ∧ (chReqs (advance dt s) (blockChan (advance dt s) ((advance dt s).drc.patrol % drcBlocks (advance dt s)))).isEmpty = true) :=
  ⟨⟨5, 1048575, ([] : List (Nat × Nat)), { die 0 [(F.DRC_CFG_ENMASK, 3), (F.DRC_CAP_PAGES, 1024)] with drc := { State.reset.drc with patrol := 0 } }, (List.replicate 64 0#8), by decide +kernel⟩,
   ⟨5, { { die 0 [(F.DRC_CFG_ENMASK, 3), (F.DRC_CAP_PAGES, 1024), (F.DRC_REFCFG_SCRUBH, 1), (F.DRC_CHSTAT_STATE 0, chActive), (F.DRC_CHSTAT_STATE 1, chActive)] with drc := { State.reset.drc with patrol := 1048575 } } with up := 10 ^ 13 }, by decide +kernel⟩⟩

theorem test_DramRefresh :
    (∃ (dt : Nat) (c : Nat) (s : State), DramOn (advance dt s) ∧ chState (advance dt s) c = chActive ∧ owed (advance dt s) c 0 < 8 ∧ realTime (advance dt s) c = false ∧ urgentReq (advance dt s) c = false ∧ c < 8 ∧ refAt (advance dt s) c 0 ≤ upNs (advance dt s)) ∧
    (∃ (dt : Nat) (c : Nat) (s : State), DramOn (advance dt s) ∧ chState (advance dt s) c = chActive ∧ owed (advance dt s) c 0 < 8 ∧ realTime (advance dt s) c = false ∧ urgentReq (advance dt s) c = false ∧ c < 8 ∧ refAt (advance dt s) c 0 ≤ upNs (advance dt s)) ∧
    (∃ (dt : Nat) (c : Nat) (rank : Nat) (s : State), DramOn (advance dt s) ∧ chState (advance dt s) c = chActive ∧ owed (advance dt s) c rank = 8 ∧ hasRank (advance dt s) c rank = true ∧ refAt (advance dt s) c rank ≤ upNs (advance dt s)) ∧
    (∃ (dt : Nat) (c : Nat) (rank : Nat) (s : State), DramOn (advance dt s) ∧ chState (advance dt s) c = chActive ∧ owed (advance dt s) c rank = 8 ∧ hasRank (advance dt s) c rank = true ∧ refAt (advance dt s) c rank ≤ upNs (advance dt s)) ∧
    (∃ (dt : Nat) (c : Nat) (s : State), DramOn (advance dt s) ∧ chState (advance dt s) c = chActive ∧ isSet (advance dt s) F.DRC_REFCFG_PULLIN = true ∧ (chReqs (advance dt s) c).isEmpty = true ∧ owed (advance dt s) c 0 ≤ 0 ∧ (advance dt s).drc.quietAt.getD c 0 + 10 * getF (advance dt s) F.DRC_REFCFG_IDLE ≤ upNs (advance dt s)) :=
  ⟨⟨4000, 1, { die 0 [(F.DRC_CFG_ENMASK, 3), (F.DRC_CAP_PAGES, 1024), (F.DRC_CHSTAT_STATE 1, chActive), (F.DRC_CHSTAT_OWED 1, 7)] with drc := { State.reset.drc with patrol := 0 } }, by decide +kernel⟩,
   ⟨4000, 0, { die 0 [(F.DRC_CFG_ENMASK, 3), (F.DRC_CAP_PAGES, 1024), (F.DRC_CHSTAT_STATE 0, chActive), (F.DRC_CHSTAT_OWED 0, 29)] with drc := { State.reset.drc with patrol := 0 } }, by decide +kernel⟩,
   ⟨4000, 1, 0, { die 0 [(F.DRC_CFG_ENMASK, 3), (F.DRC_CAP_PAGES, 1024), (F.DRC_CHSTAT_STATE 1, chActive), (F.DRC_CHSTAT_OWED 1, 8)] with drc := { State.reset.drc with reqs := [witHost7] } }, by decide +kernel⟩,
   ⟨4000, 0, 1, { die 0 [(F.DRC_CFG_ENMASK, 3), (F.DRC_CAP_PAGES, 1024), (F.DRC_CHSTAT_STATE 0, chActive), (F.DRC_CHSTAT_RANKS 0, 1)] with drc := { State.reset.drc with reqs := [witHost7], owed1 := [8] } }, by decide +kernel⟩,
   ⟨10000, 1, { die 0 [(F.DRC_CFG_ENMASK, 3), (F.DRC_CAP_PAGES, 1024), (F.DRC_CHSTAT_STATE 1, chActive), (F.DRC_REFCFG_PULLIN, 1), (F.DRC_REFCFG_IDLE, 10)] with drc := { State.reset.drc with patrol := 0 } }, by decide +kernel⟩⟩

theorem test_DramRefresh_2 :
    (∃ (s : State), DramOn s ∧ s.drc.mr4At + 16000000 ≤ upNs s) ∧
    (∃ (dt : Nat) (c : Nat) (s : State), DramOn (advance dt s) ∧ chState (advance dt s) c = chActive ∧ (chReqs (advance dt s) c).isEmpty = true) ∧
    (∃ (dt : Nat) (c : Nat) (s : State), DramOn (advance dt s) ∧ chState (advance dt s) c = chSelfRef ∧ (advance dt s).drc.chg = none) ∧
    (∃ (v : Word) (s : State), WriteOk s R.DRC_FREQ (F.DRC_FREQ_GO.put v 1) ∧ F.DRC_FREQ_FSP.get v = getF s F.DRC_CFG_FSP) ∧
    (∃ (v : Word) (s : State), WriteOk s R.DRC_FREQ (F.DRC_FREQ_GO.put v 1) ∧ (drcChannels s).isEmpty = true) :=
  ⟨⟨{ { die 0 [(F.DRC_CFG_ENMASK, 3), (F.DRC_CAP_PAGES, 1024)] with drc := { State.reset.drc with patrol := 0 } } with up := 16000000 }, by decide +kernel⟩,
   ⟨0, 1, { die 0 [(F.DRC_CFG_ENMASK, 3), (F.DRC_CAP_PAGES, 1024), (F.DRC_CHSTAT_STATE 1, chActive)] with drc := { State.reset.drc with patrol := 0 } }, by decide +kernel⟩,
   ⟨0, 1, { die 0 [(F.DRC_CFG_ENMASK, 3), (F.DRC_CAP_PAGES, 1024), (F.DRC_CHSTAT_STATE 1, chSelfRef)] with drc := { State.reset.drc with patrol := 0 } }, by decide +kernel⟩,
   ⟨regFill R.DRC_FREQ, up1 { die 0 [(F.DRC_CFG_ENMASK, 3), (F.DRC_CAP_PAGES, 1024), (F.DRC_FSPRATE_RATE0, 5), (F.DRC_FSPRATE_RATE1, 5)] with drc := { State.reset.drc with patrol := 0 } }, by decide +kernel⟩,
   ⟨F.DRC_FREQ_FSP.put (regFill R.DRC_FREQ) 1, up1 { die 0 [(F.DRC_CFG_ENMASK, 3), (F.DRC_CAP_PAGES, 1024), (F.DRC_FSPRATE_RATE0, 5), (F.DRC_FSPRATE_RATE1, 5), (F.DRC_CFG_ENMASK, 0)] with drc := { State.reset.drc with patrol := 0 } }, by decide +kernel⟩⟩

theorem test_DramRefresh_3 :
    (∃ (v : Word) (s : State), WriteOk s R.DRC_FREQ (F.DRC_FREQ_GO.put v 1) ∧ F.DRC_FREQ_FSP.get v ≠ getF s F.DRC_CFG_FSP ∧ (drcChannels s).isEmpty = false) ∧
    (∃ (dt : Nat) (c : Nat) (g : FreqChg) (s : State), DramOn (advance dt s) ∧ (advance dt s).drc.chg = some g ∧ (drcChannels (advance dt s)).all (fun c => chState (advance dt s) c == chSelfRef) = true ∧ g.entered + 12500 ≤ upNs (advance dt s)) ∧
    (∃ (dt : Nat) (g : FreqChg) (s : State), DramOn (advance dt s) ∧ (advance dt s).drc.chg = some g ∧ g.force = false ∧ g.at0 + 100000000 ≤ upNs (advance dt s) ∧ (drcChannels (advance dt s)).all (fun c => chState (advance dt s) c == chSelfRef) = false) :=
  ⟨⟨F.DRC_FREQ_FSP.put (regFill R.DRC_FREQ) 1, up1 { die 0 [(F.DRC_CFG_ENMASK, 3), (F.DRC_CAP_PAGES, 1024), (F.DRC_FSPRATE_RATE0, 5), (F.DRC_FSPRATE_RATE1, 5)] with drc := { State.reset.drc with patrol := 0 } }, by decide +kernel⟩,
   ⟨5, 1, (⟨1, false, 0, 99987500⟩ : FreqChg), { { die 0 [(F.DRC_CFG_ENMASK, 3), (F.DRC_CAP_PAGES, 1024), (F.DRC_CHSTAT_STATE 1, chSelfRef), (F.DRC_CHSTAT_STATE 0, chSelfRef)] with drc := { State.reset.drc with chg := some ⟨1, false, 0, 99987500⟩ } } with up := 100000000 }, by decide +kernel⟩,
   ⟨5, (⟨1, false, 0, 0⟩ : FreqChg), { { die 0 [(F.DRC_CFG_ENMASK, 3), (F.DRC_CAP_PAGES, 1024), (F.DRC_CHSTAT_STATE 1, chActive), (F.DRC_CHSTAT_STATE 0, chActive)] with drc := { State.reset.drc with chg := some ⟨1, false, 0, 0⟩ } } with up := 100000000 }, by decide +kernel⟩⟩

end Sys2Proof.Machine
end

