-- ==== Sys2Proof/Tests/Lmp.lean ====
section
/-! SUPPORT. For each statement of this family, states and operands that meet the hypotheses of its clauses. -/

set_option Elab.async false
set_option maxRecDepth 100000

namespace Sys2Proof.Machine

/-- A CLEAR of this frame and run word, with its check code. -/
def clearOf (n word : Nat) : Bytes :=
  let b := mkCell 7 2 false (beBytes 4 n ++ beBytes 4 word)
  patch b 208 (leBytes 4 (crc32 (slice b 0 208)))

/-- Witness. -/
def witLmp1 : RxCell := ⟨0, clearOf 101 0, 99⟩

/-- Witness. -/
def witLmp2 : State := { die 1 [] with chn := { State.reset.chn with rx := [witLmp1] }, tan := { State.reset.tan with chosen := [(101, 1, 0x301)] } }

/-- Witness. -/
def witLmp3 : RxCell := ⟨1, clearOf 101 0, 99⟩

/-- Witness. -/
def witLmp4 : State := { die 1 [(F.CHN_CFG_SEALRUN, 1), (F.CHN_RSTAT_BADRUN, F.CHN_RSTAT_BADRUN.top)] with chn := { State.reset.chn with rx := [witLmp3] }, tan := { State.reset.tan with chosen := [(101, 1, 0x301)] } }

/-- Witness. -/
def witLmp5 : RxCell := ⟨1, mkCell 7 1 false (beBytes 4 101 ++ beBytes 4 0x40000000), 99⟩

/-- Witness. -/
def witLmp6 : State := { die 1 [] with chn := { State.reset.chn with rx := [witLmp5] }, tan := { State.reset.tan with chosen := [(101, 1, 0x301)] }, lmp := { State.reset.lmp with mode := some ⟨16666666, 0, 5000000, 4000000, 100000, 1, 0, 100, 1000, false⟩ } }

/-- Witness. -/
def witLmp7 : RxCell := ⟨1, mkCell 7 1 false (beBytes 4 101 ++ beBytes 4 0x14000000), 99⟩

/-- Witness. -/
def witLmp8 : State := { die 1 [] with chn := { State.reset.chn with rx := [witLmp7] }, tan := { State.reset.tan with chosen := [(101, 1, 0x301)] }, lmp := { State.reset.lmp with mode := some ⟨16666666, 0, 5000000, 4000000, 100000, 1, 0, 100, 1000, false⟩ } }

/-- Witness. -/
def witLmp9 : RxCell := ⟨1, clearOf 101 0x04000000, 99⟩

/-- Witness. -/
def witLmp10 : State := { die 1 [(F.CHN_CFG_SEALRUN, 0)] with chn := { State.reset.chn with rx := [witLmp9] }, tan := { State.reset.tan with chosen := [(101, 1, 0x301)] }, lmp := { State.reset.lmp with mode := some ⟨16666666, 0, 5000000, 4000000, 100000, 1, 0, 100, 1000, false⟩, last := some 100 }, tim := { State.reset.tim with gens := [(getF State.reset F.TIM_CFG_CADGEN, ⟨3, 1000, 16666666 * 2 ^ 24, 1⟩)] }, time := 17000000 * 2 ^ 28 }

/-- Witness. -/
def witLmp11 : RxCell := ⟨1, mkCell 0xFFFE 5 false (beBytes 4 101 ++ beBytes 4 0x301), 99⟩

/-- Witness. -/
def witLmp12 : State := { die 1 [] with chn := { State.reset.chn with rx := [witLmp11] }, tan := { State.reset.tan with chosen := [(101, 1, 0x301)] }, lmp := { State.reset.lmp with mode := some ⟨16666666, 0, 5000000, 4000000, 100000, 1, 0, 100, 1000, false⟩, last := some 100, nextA := 101, frames := [⟨101, some 1, false, false, [⟨0, 0, 5, []⟩], false⟩] }, tim := { State.reset.tim with gens := [(getF State.reset F.TIM_CFG_CADGEN, ⟨3, 1000, 16666666 * 2 ^ 24, 1⟩)] }, time := 17000000 * 2 ^ 28 }

/-- Witness. -/
def witLmp13 : Letter := ⟨0, 0xFFFE, false, 1, 1, 5, 0, (zeros 31), none, 3, 0⟩

/-- Witness. -/
def witLmp14 : State := { die 1 [] with chn := { State.reset.chn with letters := [witLmp13] }, tan := { State.reset.tan with chosen := [(101, 1, 0x301)] } }

/-- Witness. -/
def witLmp15 : Letter := ⟨0, 0xFFFE, false, 1, 1, 5, 0, (zeros 5 ++ [1#8] ++ zeros 26), none, 3, 0⟩

/-- Witness. -/
def witLmp16 : State := { die 1 [] with chn := { State.reset.chn with letters := [witLmp15] }, tan := { State.reset.tan with chosen := [(101, 1, 0x301)] } }

/-- Witness. -/
def witLmp17 : Letter := ⟨0, 0xFFFE, false, 1, 1, 5, 0, (beBytes 4 100 ++ [0x20#8, 0#8, 0#8, 0#8] ++ beBytes 4 1000 ++ beBytes 4 16666666 ++ beBytes 4 0 ++ beBytes 4 5000000 ++ beBytes 4 4000000 ++ beBytes 4 100000), none, 3, 0⟩

/-- Witness. -/
def witLmp18 : State := { die 1 [] with chn := { State.reset.chn with letters := [witLmp17] }, tan := { State.reset.tan with chosen := [(101, 1, 0x301)] } }

/-- Witness. -/
def witLmp19 : Anchor := ⟨1000, 1⟩

/-- Witness. -/
def witLmp20 : Show := ⟨101, ⟨16666666, 0, 5000000, 4000000, 100000, 1, 0, 100, 1000, false⟩, 5, none, [], ⟨[], 0, 32, 0, 0x190, 0x2D0, 0x410, 16, 0#32, 0, []⟩, 0, 2, true, false, [], false⟩

/-- Witness. -/
def witLmp21 : Show := ⟨101, ⟨16666666, 0, 5000000, 4000000, 100000, 1, 0, 100, 1000, false⟩, 5, none, [], ⟨[], 0, 32, 0, 0x190, 0x2D0, 0x410, 16, 0#32, 0, []⟩, 0, 2, true, false, [], false⟩

/-- Witness. -/
def witLmp22 : Show := ⟨101, ⟨16666666, 0, 5000000, 4000000, 100000, 1, 0, 100, 1000, false⟩, 5, none, [], ⟨[], 0, 32, 0, 0x190, 0x2D0, 0x410, 16, 0#32, 0, []⟩, 0, 2, false, false, [], false⟩

/-- Witness. -/
def witLmp23 : Show := ⟨101, ⟨16666666, 0, 5000000, 4000000, 100000, 1, 0, 100, 1000, false⟩, 5, none, [], ⟨[], 0, 32, 0, 0x190, 0x2D0, 0x410, 16, 0#32, 0, []⟩, 0, 2, true, true, [], false⟩

/-- Witness. -/
def witLmp24 : Item := itemOf [(0, 1, 0x50), (1, 1, 3), (2, 2, 5)]

/-- Witness. -/
def witLmp25 : State := core0 { die 1 [(F.SRF_CTL_EN, 1), (F.SRF_POOLBASE_BASE, 16), (F.SRF_POOLLEN_LEN, 256), (F.SRF_TBLLEN_LEN, 66), (F.SRF_PFCFG_CACHE16, 1), (F.LMP_CTL_EN, 0)] with srf := { State.reset.srf with surfs := [⟨5, 3, 4, true, false, none, false⟩], segs := [⟨3, 4, .loc 256⟩] } } witLmp24

/-- Witness. -/
def witLmp26 : State := coreRelease witLmp25 0

/-- Witness. -/
def witLmp27 : Item := itemOf [(0, 1, 0x50), (1, 1, 3), (2, 2, 5)]

/-- Witness. -/
def witLmp28 : State := core0 { die 1 [(F.SRF_CTL_EN, 1), (F.SRF_POOLBASE_BASE, 16), (F.SRF_POOLLEN_LEN, 256), (F.SRF_TBLLEN_LEN, 66), (F.SRF_PFCFG_CACHE16, 1), (F.LMP_CTL_EN, 1)] with srf := { State.reset.srf with surfs := [⟨5, 3, 4, true, false, none, false⟩], segs := [⟨3, 4, .loc 256⟩] } } witLmp27

/-- Witness. -/
def witLmp29 : State := coreRelease witLmp28 0

/-- Witness. -/
def witLmp30 : State := { up1 (die 1 [(F.LMP_DIMFRM_F0, 77)]) with lmp := { State.reset.lmp with mode := some ⟨16666666, 0, 5000000, 4000000, 100000, 1, 0, 100, 1000, false⟩, nextA := 101 }, tim := { State.reset.tim with gens := [(getF State.reset F.TIM_CFG_CADGEN, ⟨3, 1000, 16666666 * 2 ^ 24, 1⟩)] }, time := 10 ^ 9 * 2 ^ 28 }

theorem test_RunsAndAborts :
    (∃ (y : RxCell) (x : State) (s : State), TileCell s (fun c => cellKind c == 1 || cellKind c == 2) y x ∧ (acceptedFor s (runFrame y.cell)).1 ≠ y.port) ∧
    (∃ (y : RxCell) (x : State) (s : State), TileCell s (fun c => cellKind c == 1 || cellKind c == 2) y x ∧ (acceptedFor s (runFrame y.cell)).1 = y.port ∧ cellKind y.cell = 2 ∧ isSet s F.CHN_CFG_SEALRUN = true) ∧
    (∃ (y : RxCell) (x : State) (s : State), TileCell s (fun c => cellKind c == 1 || cellKind c == 2) y x ∧ (acceptedFor s (runFrame y.cell)).1 = y.port ∧ cellKind y.cell = 1 ∧ runFits s y.cell = false) ∧
    (∃ (y : RxCell) (x : State) (s : State), TileCell s (fun c => cellKind c == 1 || cellKind c == 2) y x ∧ (acceptedFor s (runFrame y.cell)).1 = y.port ∧ cellKind y.cell = 1 ∧ runFits s y.cell = true ∧ keySlot s (runSlot y.cell) = none) ∧
    (∃ (y : RxCell) (x : State) (s : State) (m : Mode) (l : Nat) (pix : Bytes), TileCell s (fun c => cellKind c == 1 || cellKind c == 2) y x ∧ (acceptedFor s (runFrame y.cell)).1 = y.port ∧ cellKind y.cell = 2 ∧ isSet s F.CHN_CFG_SEALRUN = false ∧ runFits s y.cell = true ∧ s.lmp.mode = some m ∧ lastCommitted s = some l ∧ mafter 32 (runFrame y.cell) l = true ∧ runOpen y.cell none = some pix) :=
  ⟨⟨witLmp1, { witLmp2 with chn := { witLmp2.chn with rx := [] } }, witLmp2, by decide +kernel⟩,
   ⟨witLmp3, { witLmp4 with chn := { witLmp4.chn with rx := [] } }, witLmp4, by decide +kernel⟩,
   ⟨witLmp5, { witLmp6 with chn := { witLmp6.chn with rx := [] } }, witLmp6, by decide +kernel⟩,
   ⟨witLmp7, { witLmp8 with chn := { witLmp8.chn with rx := [] } }, witLmp8, by decide +kernel⟩,
   ⟨witLmp9, { witLmp10 with chn := { witLmp10.chn with rx := [] } }, witLmp10, ⟨16666666, 0, 5000000, 4000000, 100000, 1, 0, 100, 1000, false⟩, 100, (zeros 196), by decide +kernel⟩⟩

theorem test_RunsAndAborts_2 : ∃ (y : RxCell) (x : State) (s : State), TileCell s (fun c => cellKind c == 5) y x ∧ acceptedFor s (bodyBE y.cell 0 4) = (y.port, bodyBE y.cell 4 4) ∧ commitPast s (bodyBE y.cell 0 4) = false ∧ ((stampExt s y.time : Int) * 2 ^ 8 < commitAt ⟨16666666, 0, 5000000, 4000000, 100000, 1, 0, 100, 1000, false⟩ (modeStart s) (bodyBE y.cell 0 4) ∧ modeOf s (bodyBE y.cell 0 4) = some (⟨16666666, 0, 5000000, 4000000, 100000, 1, 0, 100, 1000, false⟩, modeStart s)) ∧ (lastCommitted s = some 100 ∧ mafter 32 (bodyBE y.cell 0 4) 100 = true) :=
  ⟨witLmp11, { witLmp12 with chn := { witLmp12.chn with rx := [] } }, witLmp12, by decide +kernel⟩

theorem test_TileFrames :
    (∃ (l : Letter) (x : State) (s : State), blkOn s 0x11 = true ∧ takeLetter s (fun l => l.ltype == 5) = some (l, x) ∧ (l.content.length ≠ 32 ∨ allZero (slice l.content 5 3) = false)) ∧
    (∃ (l : Letter) (x : State) (s : State), blkOn s 0x11 = true ∧ takeLetter s (fun l => l.ltype == 5) = some (l, x) ∧ (l.content.length ≠ 32 ∨ allZero (slice l.content 5 3) = false)) ∧
    (∃ (l : Letter) (x : State) (s : State), blkOn s 0x11 = true ∧ takeLetter s (fun l => l.ltype == 5) = some (l, x) ∧ l.content.length = 32 ∧ allZero (slice l.content 5 3) = true ∧ (lastChoice s).1 ≠ 3 ∧ claimRank (lastChoice s).2 = l.rank ∧ s.lmp.mode = none) ∧
    (∃ (dt : Nat) (m : Mode) (s : State), QueuesOk s ∧ blkOn (advance dt s) 0x11 = true ∧ (advance dt s).lmp.mode = some m ∧ (advance dt s).lmp.pend = none ∧ (advance dt s).chn.rx = [] ∧ (gen (advance dt s) (tileGen (advance dt s))).owner = 3 ∧ genDue (advance dt s) (tileGen (advance dt s)) = true) ∧
    (∃ (dt : Nat) (m : Mode) (st : Anchor) (s : State), QueuesOk s ∧ blkOn (advance dt s) 0x11 = true ∧ modeOf (advance dt s) (advance dt s).lmp.nextA = some (m, st) ∧ commitAt m st (advance dt s).lmp.nextA ≤ nowFine (advance dt s) ∧ isSet (advance dt s) F.LMP_CTL_EN = false ∧ (advance dt s).lmp.prev = none) :=
  ⟨⟨witLmp13, { witLmp14 with chn := { witLmp14.chn with letters := [] } }, witLmp14, by decide +kernel, takeLetter_of (by decide +kernel), by decide +kernel⟩,
   ⟨witLmp15, { witLmp16 with chn := { witLmp16.chn with letters := [] } }, witLmp16, by decide +kernel, takeLetter_of (by decide +kernel), by decide +kernel⟩,
   ⟨witLmp17, { witLmp18 with chn := { witLmp18.chn with letters := [] } }, witLmp18, by decide +kernel, takeLetter_of (by decide +kernel), by decide +kernel⟩,
   ⟨9, (⟨16666666, 0, 5000000, 4000000, 100000, 1, 0, 100, 1000, false⟩ : Mode), { die 1 [(F.TIM_PGCFG_EN (getF State.reset F.TIM_CFG_CADGEN), 1)] with lmp := { State.reset.lmp with mode := some ⟨16666666, 0, 5000000, 4000000, 100000, 1, 0, 100, 1000, false⟩ }, tim := { State.reset.tim with gens := [(getF State.reset F.TIM_CFG_CADGEN, ⟨3, 1000, 16666666 * 2 ^ 24, 1⟩)] }, time := 17000000 * 2 ^ 28 }, by decide +kernel⟩,
   ⟨9, (⟨16666666, 0, 5000000, 4000000, 100000, 1, 0, 100, 1000, false⟩ : Mode), witLmp19, { die 1 [(F.LMP_CTL_EN, 0)] with lmp := { State.reset.lmp with mode := some ⟨16666666, 0, 5000000, 4000000, 100000, 1, 0, 100, 1000, false⟩, nextA := 101, frames := [⟨101, some 1, false, false, [⟨0, 0, 5, []⟩], false⟩] }, tim := { State.reset.tim with gens := [(getF State.reset F.TIM_CFG_CADGEN, ⟨3, 1000, 16666666 * 2 ^ 24, 1⟩)] }, time := 23000000 * 2 ^ 28, tan := { State.reset.tan with chosen := [(101, 1, 0x301)] }, chn := { State.reset.chn with aborted := [100, 101, 102] } }, by decide +kernel⟩⟩

theorem test_TileFrames_2 :
    (∃ (dt : Nat) (m : Mode) (st : Anchor) (s : State), QueuesOk s ∧ blkOn (advance dt s) 0x11 = true ∧ modeOf (advance dt s) (advance dt s).lmp.nextA = some (m, st) ∧ commitAt m st (advance dt s).lmp.nextA ≤ nowFine (advance dt s) ∧ (advance dt s).lmp.prev = none) ∧
    (∃ (dt : Nat) (h : Show) (rest : List Show) (s : State), QueuesOk s ∧ blkOn (advance dt s) 0x11 = true ∧ (advance dt s).lmp.shows = h :: rest ∧ slotAt (advance dt s) h h.slot ≤ nowFine (advance dt s) ∧ h.slot + 1 < h.upto ∧ passedOver (advance dt s) (slotAt (advance dt s) h h.slot) = true) ∧
    (∃ (dt : Nat) (h : Show) (rest : List Show) (s : State), QueuesOk s ∧ blkOn (advance dt s) 0x11 = true ∧ (advance dt s).lmp.shows = h :: rest ∧ slotAt (advance dt s) h h.slot ≤ nowFine (advance dt s) ∧ h.slot + 1 < h.upto ∧ passedOver (advance dt s) (slotAt (advance dt s) h h.slot) = false) ∧
    (∃ (dt : Nat) (late : Bool) (h : Show) (rest : List Show) (s : State), QueuesOk s ∧ blkOn (advance dt s) 0x11 = true ∧ (advance dt s).lmp.shows = h :: rest ∧ slotAt (advance dt s) h h.slot ≤ nowFine (advance dt s) ∧ h.slot + 1 < h.upto ∧ passedOver (advance dt s) (slotAt (advance dt s) h h.slot) = false ∧ (if h.sent then h.late else late) = true ∧ passedOver (advance dt s) (slotAt (advance dt s) h h.slot) = false) ∧
    (∃ (dt : Nat) (late : Bool) (h : Show) (rest : List Show) (s : State), QueuesOk s ∧ blkOn (advance dt s) 0x11 = true ∧ (advance dt s).lmp.shows = h :: rest ∧ slotAt (advance dt s) h h.slot ≤ nowFine (advance dt s) ∧ h.slot + 1 < h.upto ∧ passedOver (advance dt s) (slotAt (advance dt s) h h.slot) = false ∧ (if h.sent then h.late else late) = true ∧ passedOver (advance dt s) (slotAt (advance dt s) h h.slot) = false) :=
  ⟨⟨9, (⟨16666666, 0, 5000000, 4000000, 100000, 1, 0, 100, 1000, false⟩ : Mode), witLmp19, { die 1 [(F.LMP_CTL_EN, 1)] with lmp := { State.reset.lmp with mode := some ⟨16666666, 0, 5000000, 4000000, 100000, 1, 0, 100, 1000, false⟩, nextA := 101, frames := [⟨101, some 1, false, false, [⟨0, 0, 5, []⟩], false⟩] }, tim := { State.reset.tim with gens := [(getF State.reset F.TIM_CFG_CADGEN, ⟨3, 1000, 16666666 * 2 ^ 24, 1⟩)] }, time := 23000000 * 2 ^ 28, tan := { State.reset.tan with chosen := [(101, 1, 0x301)] }, chn := { State.reset.chn with aborted := [100, 101, 102] } }, by decide +kernel⟩,
   ⟨9, witLmp20, ([] : List Show), { die 1 [(F.LMP_ERR_SLOTLATE, F.LMP_ERR_SLOTLATE.top)] with lmp := { State.reset.lmp with shows := [witLmp20], skips := [(0, 2 ^ 60)] }, time := 23000000 * 2 ^ 28 }, by decide +kernel⟩,
   ⟨9, witLmp21, ([] : List Show), { die 1 [(F.LMP_ERR_SLOTLATE, F.LMP_ERR_SLOTLATE.top)] with lmp := { State.reset.lmp with shows := [witLmp21], skips := [] }, time := 23000000 * 2 ^ 28 }, by decide +kernel⟩,
   ⟨9, true, witLmp22, ([] : List Show), { die 1 [(F.LMP_ERR_SLOTLATE, F.LMP_ERR_SLOTLATE.top)] with lmp := { State.reset.lmp with shows := [witLmp22], skips := [] }, time := 23000000 * 2 ^ 28 }, by decide +kernel⟩,
   ⟨9, false, witLmp23, ([] : List Show), { die 1 [(F.LMP_ERR_SLOTLATE, F.LMP_ERR_SLOTLATE.top)] with lmp := { State.reset.lmp with shows := [witLmp23], skips := [] }, time := 23000000 * 2 ^ 28 }, by decide +kernel⟩⟩

theorem test_TileFrames_3 :
    (∃ (host : HostRes) (it : Item) (x : State) (b : Bytes) (z : State) (s : State), QueuesOk s ∧ blkOn s 0x11 = true ∧ coreTake s 0x50 = some (it, x) ∧ lmpWaits s it = false ∧ lmpCurveCheck x it.entry = .ok ∧ areaFetch x (leAt it.entry 2 2) (leAt it.entry 8 8) 16384 host = (.ok b, z) ∧ curveBad 0 ((List.range 4096).map (fun i => leAt b (4 * i) 4)) = none ∧ isSet x F.LMP_CTL_EN = false) ∧
    (∃ (host : HostRes) (it : Item) (x : State) (b : Bytes) (z : State) (s : State), QueuesOk s ∧ blkOn s 0x11 = true ∧ coreTake s 0x50 = some (it, x) ∧ lmpWaits s it = false ∧ lmpCurveCheck x it.entry = .ok ∧ areaFetch x (leAt it.entry 2 2) (leAt it.entry 8 8) 16384 host = (.ok b, z) ∧ curveBad 0 ((List.range 4096).map (fun i => leAt b (4 * i) 4)) = none ∧ isSet x F.LMP_CTL_EN = true) :=
  ⟨⟨HostRes.busError, witLmp24, witLmp26, zeros 16384, (areaFetch witLmp26 (leAt witLmp24.entry 2 2) (leAt witLmp24.entry 8 8) 16384 .busError).2, witLmp25, by decide +kernel, by decide +kernel, by decide +kernel, by decide +kernel, by decide +kernel, Prod.ext (areaFetch_zeros (v := 3) (p := 3) (o := 0) (g := 256) (by decide +kernel)) rfl, curveBad_zeroWords 0, by decide +kernel⟩,
   ⟨HostRes.busError, witLmp27, witLmp29, zeros 16384, (areaFetch witLmp29 (leAt witLmp27.entry 2 2) (leAt witLmp27.entry 8 8) 16384 .busError).2, witLmp28, by decide +kernel, by decide +kernel, by decide +kernel, by decide +kernel, by decide +kernel, Prod.ext (areaFetch_zeros (v := 3) (p := 3) (o := 0) (g := 256) (by decide +kernel)) rfl, curveBad_zeroWords 0, by decide +kernel⟩⟩

theorem test_TileControls :
    (∃ (v : Word) (s : State), QueuesOk s ∧ WriteOk s R.LMP_CTL (F.LMP_CTL_EN.put v 1) ∧ getF s F.LMP_CTL_EN = 0) ∧
    (∃ (v : Word) (s : State), QueuesOk s ∧ WriteOk s R.LMP_CTL (F.LMP_CTL_EN.put v 0) ∧ getF s F.LMP_CTL_EN = 1) ∧
    (∃ (dt : Nat) (v : Word) (s : State), WriteOk (advance dt s) R.LMP_DIM v ∧ modeOf (advance dt s) (getF (advance dt s) F.LMP_DIMFRM_F0) = none) ∧
    (∃ (dt : Nat) (v : Word) (s : State) (m : Mode) (st : Anchor), WriteOk (advance dt s) R.LMP_DIM v ∧ modeOf (advance dt s) (getF (advance dt s) F.LMP_DIMFRM_F0) = some (m, st) ∧ commitAt m st (getF (advance dt s) F.LMP_DIMFRM_F0) ≤ nowFine (advance dt s)) ∧
    (∃ (dt : Nat) (s : State), blkOn (advance dt s) 0x11 = true ∧ isReady (advance dt s) = true ∧ getF (advance dt s) F.LMP_TPCFG_SELF = 0) :=
  ⟨⟨regFill R.LMP_CTL, { up1 (die 1 [(F.SRF_CTL_EN, 1), (F.LMP_FSSURF_HANDLE, 5), (F.LMP_CORSURF_HANDLE, 6), (F.LMP_GEOM_TWM1, 15), (F.LMP_GEOM_THM1, 15)]) with srf := { State.reset.srf with surfs := [⟨5, 3, 400, true, false, none, false⟩, ⟨6, 500, 400, true, false, none, false⟩], segs := [⟨3, 400, .loc 256⟩, ⟨500, 400, .loc 1000⟩] } }, by decide +kernel⟩,
   ⟨regFill R.LMP_CTL, { up1 (die 1 [(F.LMP_CTL_EN, 1)]) with lmp := { State.reset.lmp with lampEn := true } }, by decide +kernel⟩,
   ⟨9, regFill R.LMP_DIM, up1 (die 1 [(F.LMP_DIMFRM_F0, 77)]), by decide +kernel⟩,
   ⟨9, regFill R.LMP_DIM, witLmp30, ⟨16666666, 0, 5000000, 4000000, 100000, 1, 0, 100, 1000, false⟩, (modeStart (advance 9 witLmp30)), by decide +kernel⟩,
   ⟨9, die 1 [(F.LMP_TPCFG_LOC, 0)], by decide +kernel⟩⟩

theorem test_TileControls_2 :
    (∃ (dt : Nat) (s : State), blkOn (advance dt s) 0x11 = true ∧ isReady (advance dt s) = true ∧ getF (advance dt s) F.LMP_TPCFG_SELF = 0) ∧
    (∃ (dt : Nat) (s : State), QueuesOk s ∧ blkOn (advance dt s) 0x11 = true ∧ isReady (advance dt s) = true ∧ getF (advance dt s) F.LMP_TPCFG_SELF = 0 ∧ (((advance dt s).lmp.mode ≠ none ∨ selfFits (advance dt s) = true))) ∧
    (∃ (dt : Nat) (f : Nat) (s : State), blkOn (advance dt s) 0x11 = true ∧ (advance dt s).lmp.locAt = some f ∧ f + 30000000000 ≤ upNs (advance dt s)) ∧
    (∃ (dt : Nat) (f : Nat) (s : State), blkOn (advance dt s) 0x11 = true ∧ (advance dt s).lmp.selfAt = some f ∧ f + 16000000000 ≤ upNs (advance dt s)) :=
  ⟨⟨9, die 1 [(F.LMP_TPCFG_LOC, 1)], by decide +kernel⟩,
   ⟨9, { die 1 [(F.LMP_TPCFG_LOC, 1)] with lmp := { State.reset.lmp with locAt := some 0, mode := some ⟨16666666, 0, 5000000, 4000000, 100000, 1, 0, 100, 1000, false⟩ } }, by decide +kernel⟩,
   ⟨9, 9, { die 1 [(F.LMP_TPCFG_LOC, 1)] with up := 30000000000, lmp := { State.reset.lmp with locAt := some 9 } }, by decide +kernel⟩,
   ⟨9, 9, { die 1 [(F.LMP_TPCFG_SELF, 1)] with up := 16000000000, lmp := { State.reset.lmp with selfAt := some 9 } }, by decide +kernel⟩⟩

end Sys2Proof.Machine
end

