-- ==== Sys2Proof/Tests/Lnk.lean ====
section
/-! SUPPORT. For each statement of this family, states and operands that meet the hypotheses of its clauses. -/

set_option Elab.async false
set_option maxRecDepth 100000

namespace Sys2Proof.Machine

theorem test_PortControl :
    (∃ (p : Nat) (v : Word) (s : State), p < 4 ∧ power s ≠ 3 ∧ WriteOk s (R.LNK_PCTL p) ((F.LNK_PCTL_EN p).put v 1) ∧ getF s (F.LNK_PCTL_EN p) = 0 ∧ (F.LNK_PCTL_TEST p).get v = 0) ∧
    (∃ (p : Nat) (v : Word) (s : State), p < 4 ∧ power s ≠ 3 ∧ WriteOk s (R.LNK_PCTL p) ((F.LNK_PCTL_EN p).put v 0) ∧ getF s (F.LNK_PCTL_EN p) = 1) ∧
    (∃ (p : Nat) (v : Word) (s : State), p < 4 ∧ power s ≠ 3 ∧ WriteOk s (R.LNK_PCTL p) ((F.LNK_PCTL_RETRAIN p).put v 1) ∧ getF s (F.LNK_PCTL_EN p) = 1 ∧ (F.LNK_PCTL_EN p).get v = 1 ∧ getF s (F.LNK_PCTL_TEST p) = 0 ∧ (F.LNK_PCTL_TEST p).get v = 0) ∧
    (∃ (p : Nat) (v : Word) (s : State), p < 4 ∧ power s ≠ 3 ∧ WriteOk s (R.LNK_PCTL p) ((F.LNK_PCTL_TEST p).put v 1) ∧ (F.LNK_PCTL_EN p).get v = 1 ∧ getF s (F.LNK_PCTL_TEST p) = 0) ∧
    (∃ (p : Nat) (v : Word) (s : State), p < 4 ∧ power s ≠ 3 ∧ WriteOk s (R.LNK_PCTL p) ((F.LNK_PCTL_TEST p).put v 0) ∧ (F.LNK_PCTL_EN p).get v = 1 ∧ getF s (F.LNK_PCTL_EN p) = 1 ∧ getF s (F.LNK_PCTL_TEST p) = 1) :=
  ⟨⟨3, (F.LNK_PCTL_PRESET 3).put (regFill (R.LNK_PCTL 3)) 5, up1 ((die 0 [(F.LNK_PSTAT_STATE 3, pOff), (F.LNK_PCTL_EN 3, 0)])), by decide +kernel⟩,
   ⟨3, (0#32 : Word), up1 ((die 0 [(F.LNK_PSTAT_STATE 3, pUp), (F.LNK_PCTL_EN 3, 1)])), by decide +kernel⟩,
   ⟨3, (1#32 : Word), up1 ((die 0 [(F.LNK_PSTAT_STATE 3, pUp), (F.LNK_PCTL_EN 3, 1)])), by decide +kernel⟩,
   ⟨3, (1#32 : Word), up1 ((die 0 [(F.LNK_PSTAT_STATE 3, pUp), (F.LNK_PCTL_EN 3, 1)])), by decide +kernel⟩,
   ⟨1, (1#32 : Word), up1 ((die 1 [(F.LNK_PSTAT_STATE 1, pTest), (F.LNK_PCTL_EN 1, 1), (F.LNK_PCTL_TEST 1, 1), (F.LNK_LCTL_GEN 9, 1)])), by decide +kernel⟩⟩

theorem test_PortControl_2 : ∃ (i : Nat) (v : Word) (s : State), i < 20 ∧ WriteOk s (R.LNK_LCTL i) ((F.LNK_LCTL_INJ i).put v 1) ∧ (F.LNK_LCTL_NELB i).get v = 1 ∧ (F.LNK_LCTL_CHK i).get v ≠ 0 ∧ (F.LNK_LCTL_CHK i).get v = (F.LNK_LCTL_GEN i).get v ∧ pState s (i / 5) = pTest ∧ ((port s (i / 5)).lane (i % 5)).injFrom = none :=
  ⟨19, (F.LNK_LCTL_NELB 19).put ((F.LNK_LCTL_CHK 19).put ((F.LNK_LCTL_GEN 19).put 0#32 1) 1) 1, up1 ((die 0 [(F.LNK_PSTAT_STATE 3, pTest), (F.LNK_PCTL_EN 3, 1), (F.LNK_PCTL_TEST 3, 1), (F.LNK_LPRBS_ERR 19, (F.LNK_LPRBS_ERR 19).top)])), by decide +kernel⟩

theorem test_PortBringUp :
    (∃ (dt : Nat) (p : Nat) (found : Nat) (s : State), PortOk (advance dt s) p ∧ pState (advance dt s) p = pDetect ∧ 4 ≤ found) ∧
    (∃ (dt : Nat) (p : Nat) (found : Nat) (s : State), PortOk (advance dt s) p ∧ pState (advance dt s) p = pDetect ∧ found < 4) ∧
    (∃ (p : Nat) (s : State), PortOk s p ∧ pState s p = pCdr ∧ (port s p).trial < 8 ∧ (port s p).trial < 7) ∧
    (∃ (p : Nat) (s : State), PortOk s p ∧ pState s p = pCdr ∧ (port s p).trial < 8 ∧ (port s p).trial < 7) ∧
    (∃ (p : Nat) (s : State), PortOk s p ∧ pState s p = pCdr ∧ (port s p).trial < 8) :=
  ⟨⟨7, 3, 4, (die 0 [(F.LNK_PSTAT_STATE 3, pDetect)]), by decide +kernel⟩,
   ⟨7, 3, 3, (die 0 [(F.LNK_PSTAT_STATE 3, pDetect)]), by decide +kernel⟩,
   ⟨1, { die 1 [(F.LNK_PSTAT_STATE 1, pCdr)] with lnk := { State.reset.lnk with ports := [(1, { portReset with trial := 0 })] } }, by decide +kernel⟩,
   ⟨1, { die 1 [(F.LNK_PSTAT_STATE 1, pCdr)] with lnk := { State.reset.lnk with ports := [(1, { portReset with trial := 6 })] } }, by decide +kernel⟩,
   ⟨1, { die 1 [(F.LNK_PSTAT_STATE 1, pCdr)] with lnk := { State.reset.lnk with ports := [(1, { portReset with trial := 7 })] } }, by decide +kernel⟩⟩

theorem test_PortBringUp_2 :
    (∃ (p : Nat) (o : StageObs) (s : State), PortOk s p ∧ pState s p = pComma ∧ 4 ≤ maskCount (passMask (port s p) o.lanes)) ∧
    (∃ (p : Nat) (s : State), PortOk s p ∧ pState s p = pConfirm) ∧
    (∃ (p : Nat) (s : State), PortOk s p ∧ pState s p = pFec ∧ (port s p).rsd = true ∧ 4 ≤ (port s p).okRun) ∧
    (∃ (dt : Nat) (p : Nat) (los : Bool) (s : State), PortOk (advance dt s) p ∧ 2 ≤ pState (advance dt s) p ∧ pState (advance dt s) p ≤ 9 ∧ ((los = true ∨ (port (advance dt s) p).since + stageLimit (pState (advance dt s) p) ≤ upNs (advance dt s)))) ∧
    (∃ (dt : Nat) (p : Nat) (los : Bool) (s : State), PortOk (advance dt s) p ∧ 2 ≤ pState (advance dt s) p ∧ pState (advance dt s) p ≤ 9 ∧ ((los = true ∨ (port (advance dt s) p).since + stageLimit (pState (advance dt s) p) ≤ upNs (advance dt s)))) :=
  ⟨⟨3, (⟨30, [], 0, 0, [(1, 1)], [], []⟩ : StageObs), (die 0 [(F.LNK_PSTAT_STATE 3, pComma)]), by decide +kernel⟩,
   ⟨3, (die 0 [(F.LNK_PSTAT_STATE 3, pConfirm)]), by decide +kernel⟩,
   ⟨3, { die 0 [(F.LNK_PSTAT_STATE 3, pFec)] with lnk := { State.reset.lnk with ports := [(3, { portReset with rxScr := some 1, rsd := true, okRun := 4, nonce := 77 })] } }, by decide +kernel⟩,
   ⟨7, 3, true, { die 0 [(F.LNK_PSTAT_STATE 3, pCdr)] with lnk := { State.reset.lnk with ports := [(3, { portReset with fails := 10 })] } }, by decide +kernel⟩,
   ⟨4000000, 3, false, { die 0 [(F.LNK_PSTAT_STATE 3, pFec)] with lnk := { State.reset.lnk with ports := [(3, { portReset with fails := 0 })] }, up := 96000000 }, by decide +kernel⟩⟩

theorem test_PortBringUp_3 :
    (∃ (dt : Nat) (p : Nat) (los : Bool) (s : State), PortOk (advance dt s) p ∧ 2 ≤ pState (advance dt s) p ∧ pState (advance dt s) p ≤ 9 ∧ ((los = true ∨ (port (advance dt s) p).since + stageLimit (pState (advance dt s) p) ≤ upNs (advance dt s)))) ∧
    (∃ (dt : Nat) (p : Nat) (s : State), PortOk (advance dt s) p ∧ pState (advance dt s) p = pBackoff ∧ (port (advance dt s) p).wake ≤ upNs (advance dt s)) ∧
    (∃ (p : Nat) (s : State), PortOk s p ∧ portUp s p = true) :=
  ⟨⟨4000000, 3, false, { die 0 [(F.LNK_PSTAT_STATE 3, pPolarity)] with lnk := { State.reset.lnk with ports := [(3, { portReset with fails := 0 })] }, up := 96000000 }, by decide +kernel⟩,
   ⟨7, 3, { die 0 [(F.LNK_PSTAT_STATE 3, pBackoff)] with lnk := { State.reset.lnk with ports := [(3, { portReset with wake := 7 })] } }, by decide +kernel⟩,
   ⟨3, (die 0 [(F.LNK_PSTAT_STATE 3, pUp)]), by decide +kernel⟩⟩

theorem test_LanesSpared :
    (∃ (p : Nat) (n : Nat) (s : State), PortOk s p ∧ portUp s p = true ∧ n < 4 ∧ (port s p).lost.testBit n = false ∧ (port s p).lost = 0 ∧ getF s (F.LNK_PMAP_SPARED p) = 0 ∧ getF s (F.LNK_PMAP_NOPAN p) = 0) ∧
    (∃ (p : Nat) (n : Nat) (s : State), PortOk s p ∧ portUp s p = true ∧ n < 4 ∧ (port s p).lost.testBit n = false ∧ ((port s p).lost ≠ 0 ∨ getF s (F.LNK_PMAP_SPARED p) = 1 ∨ getF s (F.LNK_PMAP_NOPAN p) = 1)) ∧
    (∃ (p : Nat) (n : Nat) (s : State), PortOk s p ∧ portUp s p = true ∧ n < 4 ∧ (port s p).lost.testBit n = false ∧ ((port s p).lost ≠ 0 ∨ getF s (F.LNK_PMAP_SPARED p) = 1 ∨ getF s (F.LNK_PMAP_NOPAN p) = 1)) ∧
    (∃ (p : Nat) (cmd : Nat) (s : State), PortOk s p ∧ portUp s p = true ∧ cmd < 256) ∧
    (∃ (dt : Nat) (p : Nat) (n : Nat) (s : State), PortOk (advance dt s) p ∧ portUp (advance dt s) p = true ∧ (port (advance dt s) p).steer = some n ∧ (port (advance dt s) p).steerAt + steerPeriod (advance dt s) ≤ upNs (advance dt s) ∧ fwdOn (advance dt s) p = false) :=
  ⟨⟨1, 3, (die 1 [(F.LNK_PSTAT_STATE 1, pUp)]), by decide +kernel⟩,
   ⟨1, 3, { die 1 [(F.LNK_PSTAT_STATE 1, pUp)] with lnk := { State.reset.lnk with ports := [(1, { portReset with lost := 2 })] } }, by decide +kernel⟩,
   ⟨1, 0, (die 1 [(F.LNK_PSTAT_STATE 1, pUp), (F.LNK_PMAP_NOPAN 1, 1)]), by decide +kernel⟩,
   ⟨1, 255, (die 1 [(F.LNK_PSTAT_STATE 1, pUp)]), by decide +kernel⟩,
   ⟨1000000000, 1, 3, { die 0 [(F.LNK_PSTAT_STATE 1, pUp), (F.LNK_PSTAT_STATE 0, pUp)] with lnk := { State.reset.lnk with ports := [(1, { portReset with steer := some 3 })] } }, by decide +kernel⟩⟩

theorem test_LanesSpared_2 :
    (∃ (dt : Nat) (p : Nat) (n : Nat) (s : State), PortOk (advance dt s) p ∧ portUp (advance dt s) p = true ∧ (port (advance dt s) p).steer = some n ∧ (port (advance dt s) p).steerAt + steerPeriod (advance dt s) ≤ upNs (advance dt s) ∧ fwdOn (advance dt s) p = false) ∧
    (∃ (dt : Nat) (p : Nat) (n : Nat) (s : State), PortOk (advance dt s) p ∧ portUp (advance dt s) p = true ∧ (port (advance dt s) p).steer = some n ∧ (port (advance dt s) p).steerAt + steerPeriod (advance dt s) ≤ upNs (advance dt s) ∧ fwdOn (advance dt s) p = true) ∧
    (∃ (p : Nat) (s : State), PortOk s p ∧ portUp s p = true ∧ getF s (F.LNK_PMAP_NOPAN p) = 0 ∧ recalOn s p = none ∧ getF s (F.LNK_PMAP_SPARED p) = 0) ∧
    (∃ (p : Nat) (s : State), PortOk s p ∧ portUp s p = true ∧ getF s (F.LNK_PMAP_NOPAN p) = 0 ∧ recalOn s p = none ∧ getF s (F.LNK_PMAP_SPARED p) = 1 ∧ getF s (F.LNK_PMAP_PANSRC p) = getF s (F.LNK_PMAP_SPAREFOR p) ∧ getF s (F.LNK_PMAP_SPAREFOR p) < 4) :=
  ⟨⟨1000000000, 1, 3, { die 1 [(F.LNK_PSTAT_STATE 1, pUp), (F.LNK_PSTAT_STATE 0, pUp)] with lnk := { State.reset.lnk with ports := [(1, { portReset with steer := some 3 })] } }, by decide +kernel⟩,
   ⟨1000000000, 1, 3, { die 1 [(F.LNK_PSTAT_STATE 1, pUp), (F.LNK_PSTAT_STATE 0, pUp)] with lnk := { State.reset.lnk with ports := [(1, { portReset with steer := some 3, fwd := true })] } }, by decide +kernel⟩,
   ⟨1, (die 1 [(F.LNK_PSTAT_STATE 1, pUp)]), by decide +kernel⟩,
   ⟨1, (die 1 [(F.LNK_PSTAT_STATE 1, pUp), (F.LNK_PMAP_SPARED 1, 1), (F.LNK_PMAP_SPAREFOR 1, 3), (F.LNK_PMAP_PANSRC 1, 3)]), by decide +kernel⟩⟩

theorem test_PortStream :
    (∃ (p : Nat) (s : State), PortOk s p ∧ portUp s p = true ∧ s.lnk.bypass ≠ some p) ∧
    (∃ (dt : Nat) (p : Nat) (s : State), PortOk (advance dt s) p ∧ portUp (advance dt s) p = true ∧ fwdOn (advance dt s) p = false ∧ (port (advance dt s) p).seeded + 2 ^ 24 ≤ upNs (advance dt s)) ∧
    (∃ (p : Nat) (coms : Nat) (marks : List Nat) (s : State), PortOk s p ∧ portUp s p = true ∧ 3 ≤ coms ∧ blockKind marks ≠ 3 ∧ s.lnk.bypass ≠ some p ∧ (blockKind marks = 1 ∨ blockKind marks = 2)) ∧
    (∃ (p : Nat) (coms : Nat) (marks : List Nat) (s : State), PortOk s p ∧ portUp s p = true ∧ 3 ≤ coms ∧ (blockKind marks = 1 ∨ blockKind marks = 2)) ∧
    (∃ (p : Nat) (coms : Nat) (marks : List Nat) (s : State), PortOk s p ∧ portUp s p = true ∧ 3 ≤ coms ∧ (blockKind marks = 0 ∨ blockKind marks = 3)) :=
  ⟨⟨1, { die 1 [(F.LNK_PSTAT_STATE 1, pUp), (F.LNK_PERR_SLIP 1, (F.LNK_PERR_SLIP 1).top)] with lnk := { State.reset.lnk with ports := [(1, { portReset with rxScr := some 5 })] } }, by decide +kernel⟩,
   ⟨16777216, 1, (die 1 [(F.LNK_PSTAT_STATE 1, pUp)]), by decide +kernel⟩,
   ⟨1, 3, [1, 1, 1, 0], { die 1 [(F.LNK_PSTAT_STATE 1, pUp)] with lnk := { State.reset.lnk with ports := [(1, { portReset with rxScr := some 5 })] } }, by decide +kernel⟩,
   ⟨1, 3, [2, 2, 0, 2], { die 1 [(F.LNK_PSTAT_STATE 1, pUp)] with lnk := { State.reset.lnk with ports := [(1, { portReset with rxScr := some 5 })] } }, by decide +kernel⟩,
   ⟨1, 3, [3, 3, 3, 3], { die 1 [(F.LNK_PSTAT_STATE 1, pUp)] with lnk := { State.reset.lnk with ports := [(1, { portReset with rxScr := some 5 })] } }, by decide +kernel⟩⟩

theorem test_PortStream_2 :
    (∃ (p : Nat) (coms : Nat) (marks : List Nat) (s : State), PortOk s p ∧ portUp s p = true ∧ 3 ≤ coms ∧ blockKind marks ≠ 3 ∧ s.lnk.bypass ≠ some p ∧ (blockKind marks = 0 ∨ blockKind marks = 3)) ∧
    (∃ (p : Nat) (coms : Nat) (s : State) (l : Nat) (y : Taps), PortOk s p ∧ portUp s p = true ∧ 3 ≤ coms ∧ ((port s p).lane l).reload = some y) ∧
    (∃ (p : Nat) (l : Nat) (diff : Nat) (s : State), PortOk s p ∧ portUp s p = true ∧ l < 5 ∧ (port s p).rxScr.isSome = true ∧ 4 * 40799 ≤ 10 * diff ∧ 10 * diff ≤ 6 * 40799 ∧ ((port s p).lane l).holdTo ≤ upNs s ∧ heldByCal s p l = false) ∧
    (∃ (p : Nat) (l : Nat) (diff : Nat) (s : State), PortOk s p ∧ portUp s p = true ∧ l < 5 ∧ (port s p).rxScr.isSome = true ∧ 4 * 40799 ≤ 10 * diff ∧ 10 * diff ≤ 6 * 40799 ∧ ((port s p).lane l).holdTo ≤ upNs s ∧ heldByCal s p l = false) ∧
    (∃ (p : Nat) (l : Nat) (diff : Nat) (s : State), PortOk s p ∧ portUp s p = true ∧ l < 5 ∧ (10 * diff < 4 * 40799 ∨ 6 * 40799 < 10 * diff)) :=
  ⟨⟨1, 3, [0, 0, 0, 0], { die 1 [(F.LNK_PSTAT_STATE 1, pUp)] with lnk := { State.reset.lnk with ports := [(1, { portReset with rxScr := some 5 })] } }, by decide +kernel⟩,
   ⟨1, 3, { die 1 [(F.LNK_PSTAT_STATE 1, pUp)] with lnk := { State.reset.lnk with ports := [(1, { portReset with rxScr := some 5, lanes := (List.replicate 4 laneReset) ++ [{ laneReset with reload := some tapsReset }] })] } }, 4, tapsReset, by decide +kernel⟩,
   ⟨1, 4, 16320, { die 1 [(F.LNK_PSTAT_STATE 1, pUp)] with lnk := { State.reset.lnk with ports := [(1, { portReset with rxScr := some 5 })] } }, by decide +kernel⟩,
   ⟨1, 4, 24479, { die 1 [(F.LNK_PSTAT_STATE 1, pUp)] with lnk := { State.reset.lnk with ports := [(1, { portReset with rxScr := some 5 })] } }, by decide +kernel⟩,
   ⟨1, 4, 16319, { die 1 [(F.LNK_PSTAT_STATE 1, pUp)] with lnk := { State.reset.lnk with ports := [(1, { portReset with rxScr := some 5 })] } }, by decide +kernel⟩⟩

theorem test_PortStream_3 :
    (∃ (p : Nat) (l : Nat) (diff : Nat) (s : State), PortOk s p ∧ portUp s p = true ∧ l < 5 ∧ (10 * diff < 4 * 40799 ∨ 6 * 40799 < 10 * diff)) ∧
    (∃ (p : Nat) (l : Nat) (ew : Nat) (eh : Nat) (s : State), PortOk s p ∧ portUp s p = true ∧ l < 5 ∧ recalOn s p = none ∧ getF s F.LNK_ADAPTCFG_MINEW ≤ ew ∧ getF s F.LNK_ADAPTCFG_MINEH ≤ eh ∧ 9 ≤ ((port s p).lane l).goodRun) ∧
    (∃ (p : Nat) (l : Nat) (ew : Nat) (eh : Nat) (s : State), PortOk s p ∧ portUp s p = true ∧ l < 5 ∧ recalOn s p = none ∧ (ew < getF s F.LNK_ADAPTCFG_MINEW ∨ eh < getF s F.LNK_ADAPTCFG_MINEH) ∧ 2 ≤ ((port s p).lane l).lowRun) ∧
    (∃ (s : State), blkOn s 0x0E = true ∧ timingSource s ≠ s.lnk.source) ∧
    (∃ (s : State), blkOn s 0x0E = true ∧ getF s F.LNK_TIMING_SRC = 5) :=
  ⟨⟨1, 4, 24480, { die 1 [(F.LNK_PSTAT_STATE 1, pUp)] with lnk := { State.reset.lnk with ports := [(1, { portReset with rxScr := some 5 })] } }, by decide +kernel⟩,
   ⟨1, 4, 63, 300, { die 1 [(F.LNK_PSTAT_STATE 1, pUp)] with lnk := { State.reset.lnk with ports := [(1, { portReset with lanes := (List.replicate 4 laneReset) ++ [{ laneReset with goodRun := 9 }] })] } }, by decide +kernel⟩,
   ⟨1, 4, 0, 300, { die 1 [(F.LNK_PSTAT_STATE 1, pUp)] with lnk := { State.reset.lnk with ports := [(1, { portReset with lanes := (List.replicate 4 laneReset) ++ [{ laneReset with lowRun := 2 }] })] } }, by decide +kernel⟩,
   ⟨{ die 0 [] with lnk := { State.reset.lnk with source := 1 } }, by decide +kernel⟩,
   ⟨die 0 [(F.LNK_TIMING_SRC, 5)], by decide +kernel⟩⟩

end Sys2Proof.Machine
end

