-- ==== Sys2Proof/Tests/Rst.lean ====
section
/-! SUPPORT. For each statement of this family, states and operands that meet the hypotheses of its clauses. -/

set_option Elab.async false
set_option maxRecDepth 100000

namespace Sys2Proof.Machine

theorem test_HostBlockResets :
    (∃ (s : State), ResetOk s 0x04) ∧
    (∃ (s : State), ResetOk s 0x08) ∧
    (∃ (s : State), ResetOk s 0x09) ∧
    (∃ (s : State), ResetOk s 0x0A) ∧
    (∃ (s : State), ResetOk s 0x0B) :=
  ⟨⟨{ up1 (die 0 []) with queues := [(5, { qrecReset with gen := 3, reading := true })] }, by decide +kernel⟩,
   ⟨up1 (die 0 []), by decide +kernel⟩,
   ⟨up1 (die 0 []), by decide +kernel⟩,
   ⟨up1 (die 0 []), by decide +kernel⟩,
   ⟨up1 (die 0 []), by decide +kernel⟩⟩

theorem test_HostBlockResets_2 :
    (∃ (s : State), ResetOk s 0x0C) ∧
    (∃ (s : State) (r : Raster), ResetOk s 0x0B ∧ (match exec .cmpBlockReset s with | .next t => t.cmp.raster | _ => none) = some r) :=
  ⟨⟨up1 (die 0 []), by decide +kernel⟩,
   ⟨{ up1 (die 0 []) with cmp := { State.reset.cmp with raster := some ⟨5, 0, 0, [], 0, [], [], 0, [], [], [], true, false⟩, nextStep := 3 } }, (⟨5, 0, 0, [], 0, [], [], 0, [], [], [], true, false⟩ : Raster), by decide +kernel⟩⟩

theorem test_ChainBlockResets :
    (∃ (s : State), ResetOk s 0x0D) ∧
    (∃ (s : State), ResetOk s 0x0E) ∧
    (∃ (s : State), ResetOk s 0x0F) ∧
    (∃ (s : State), ResetOk s 0x10 ∧ isTile s = false) ∧
    (∃ (s : State), ResetOk s 0x11) :=
  ⟨⟨up1 (die 0 []), by decide +kernel⟩,
   ⟨up1 (die 0 []), by decide +kernel⟩,
   ⟨up1 (die 0 []), by decide +kernel⟩,
   ⟨up1 (die 0 []), by decide +kernel⟩,
   ⟨up1 (die 1 []), by decide +kernel⟩⟩

theorem test_ChainBlockResets_2 :
    (∃ (s : State), ResetOk s 0x12) ∧
    (∃ (s : State), ResetOk s 0x15) ∧
    (∃ (s : State), ResetOk s 0x19) :=
  ⟨⟨up1 (die 1 []), by decide +kernel⟩,
   ⟨up1 (die 0 []), by decide +kernel⟩,
   ⟨up1 (die 0 []), by decide +kernel⟩⟩

end Sys2Proof.Machine
end

