-- ==== Sys2Proof/Tests/Sec.lean ====
section
/-! SUPPORT. For each statement of this family, states and operands that meet the hypotheses of its clauses. -/

set_option Elab.async false
set_option maxRecDepth 100000

namespace Sys2Proof.Machine

/-- Witness. -/
def witSec1 : Item := itemOf [(0, 1, 0x58), (1, 1, 2)]

/-- Witness. -/
def witSec2 : State := core0 { die 0 [] with sec := { State.reset.sec with counter := 2 ^ 24 - 1, reserved := 256 } } witSec1

/-- Witness. -/
def witSec3 : State := coreRelease witSec2 0

/-- Witness. -/
def witSec4 : Item := itemOf [(0, 1, 0x58), (1, 1, 2)]

/-- Witness. -/
def witSec5 : State := core0 { die 0 [] with sec := { State.reset.sec with enrol := some (0x1000001, 3), counter := 2 ^ 24 - 1, reserved := 256 } } witSec4

/-- Witness. -/
def witSec6 : State := coreRelease witSec5 0

/-- Witness. -/
def witSec7 : Item := itemOf [(0, 1, 0x59), (2, 2, 0x5003)]

/-- Witness. -/
def witSec8 : State := core0 (die 0 [(F.LNK_PCTL_EN 2, 1), (F.CHN_PORTCTL_CHAIN 2, 5), (F.LNK_PSTAT_STATE 2, pUp)]) witSec7

/-- Witness. -/
def witSec9 : State := coreRelease witSec8 0

/-- Witness. -/
def witSec10 : Item := itemOf [(0, 1, 0x59), (2, 2, 0x5003)]

/-- Witness. -/
def witSec11 : State := core0 { die 0 [(F.LNK_PCTL_EN 2, 1), (F.CHN_PORTCTL_CHAIN 2, 5), (F.LNK_PSTAT_STATE 2, pUp)] with sec := { State.reset.sec with enrol := some (0x1000001, 3) }, chn := { State.reset.chn with nextLid := 65535 } } witSec10

/-- Witness. -/
def witSec12 : State := coreRelease witSec11 0

/-- Witness. -/
def witSec13 : Letter := ⟨2, 0x5003, true, 1, 9, 6, 2, [2#8], none, 3, 0⟩

/-- Witness. -/
def witSec14 : Enrol := ⟨itemOf [(0, 1, 0x59)], 0x5003, 9, 6, 0, true, 0, [], [], 0x1000001, 3, [], [], [], []⟩

/-- Witness. -/
def witSec15 : State := { die 0 [(F.LNK_PCTL_EN 2, 1), (F.CHN_PORTCTL_CHAIN 2, 5), (F.LNK_PSTAT_STATE 2, pUp)] with sec := { State.reset.sec with enrols := [witSec14] }, chn := { State.reset.chn with letters := [witSec13] } }

/-- Witness. -/
def witSec16 : Letter := ⟨2, 0x5003, true, 1, 9, 7, 2, [2#8], none, 3, 0⟩

/-- Witness. -/
def witSec17 : Enrol := ⟨itemOf [(0, 1, 0x59)], 0x5003, 9, 7, 0, true, 0, [], [], 0x1000001, 3, [], [], [], []⟩

/-- Witness. -/
def witSec18 : State := { die 0 [(F.LNK_PCTL_EN 2, 1), (F.CHN_PORTCTL_CHAIN 2, 5), (F.LNK_PSTAT_STATE 2, pUp)] with sec := { State.reset.sec with enrols := [witSec17] }, chn := { State.reset.chn with letters := [witSec16] } }

/-- Witness. -/
def witSec19 : Letter := ⟨2, 0x5003, true, 1, 9, 6, 2, [0#8], none, 3, 0⟩

/-- Witness. -/
def witSec20 : Enrol := ⟨itemOf [(0, 1, 0x59)], 0x5003, 9, 6, 0, true, 0, [], [], 0x1000001, 3, [], [], [], []⟩

/-- Witness. -/
def witSec21 : State := { die 0 [(F.LNK_PCTL_EN 2, 1), (F.CHN_PORTCTL_CHAIN 2, 5), (F.LNK_PSTAT_STATE 2, pUp)] with sec := { State.reset.sec with enrols := [witSec20] }, chn := { State.reset.chn with letters := [witSec19] } }

/-- Witness. -/
def witSec22 : Enrol := ⟨itemOf [(0, 1, 0x59)], 0x5003, 9, 6, 0, true, 0, [], [], 0x1000001, 3, [], [], [], []⟩

/-- Witness. -/
def witSec23 : Item := itemOf [(0, 1, 0x5A), (4, 4, 0xFFFFFFFF)]

/-- Witness. -/
def witSec24 : State := core0 (die 0 []) witSec23

/-- Witness. -/
def witSec25 : State := coreRelease witSec24 0

/-- Witness. -/
def witSec26 : Item := itemOf [(0, 1, 0x5B), (1, 1, 0xFF), (8, 2, 5)]

/-- Witness. -/
def witSec27 : State := core0 { die 0 [(F.SRF_CTL_EN, 1), (F.SRF_POOLBASE_BASE, 16), (F.SRF_POOLLEN_LEN, 256), (F.SRF_TBLLEN_LEN, 66), (F.SRF_PFCFG_CACHE16, 1)] with srf := { State.reset.srf with surfs := [⟨5, 3, 4, true, false, none, false⟩], segs := [⟨3, 4, .loc 256⟩] }, sec := { State.reset.sec with ops := List.replicate 15 (.enrol (itemOf [])), busy := some (.enrol (itemOf [])) } } witSec26

/-- Witness. -/
def witSec28 : State := coreRelease witSec27 0

/-- Witness. -/
def witSec29 : Bytes := match (areaFetch witSec28 (leAt witSec26.entry 8 2) (leAt witSec26.entry 16 8) 780 .busError).1 with | .ok b => b | _ => []

/-- Witness. -/
def witSec30 : State := (areaFetch witSec28 (leAt witSec26.entry 8 2) (leAt witSec26.entry 16 8) 780 .busError).2

/-- Witness. -/
def witSec31 : Item := itemOf [(0, 1, 0x5B), (1, 1, 0xFF), (8, 2, 5)]

/-- Witness. -/
def witSec32 : State := core0 { die 1 [(F.SRF_CTL_EN, 1), (F.SRF_POOLBASE_BASE, 16), (F.SRF_POOLLEN_LEN, 256), (F.SRF_TBLLEN_LEN, 66), (F.SRF_PFCFG_CACHE16, 1)] with srf := { State.reset.srf with surfs := [⟨5, 3, 4, true, false, none, false⟩], segs := [⟨3, 4, .loc 256⟩] }, sec := { State.reset.sec with ops := List.replicate 14 (.enrol (itemOf [])), busy := some (.enrol (itemOf [])) } } witSec31

/-- Witness. -/
def witSec33 : State := coreRelease witSec32 0

/-- Witness. -/
def witSec34 : Bytes := match (areaFetch witSec33 (leAt witSec31.entry 8 2) (leAt witSec31.entry 16 8) 780 .busError).1 with | .ok b => b | _ => []

/-- Witness. -/
def witSec35 : State := (areaFetch witSec33 (leAt witSec31.entry 8 2) (leAt witSec31.entry 16 8) 780 .busError).2

/-- Witness. -/
def witSec36 : Item := itemOf [(0, 1, 0x5B), (1, 1, 0xFF), (8, 2, 5)]

/-- Witness. -/
def witSec37 : State := core0 { die 1 [(F.SRF_CTL_EN, 1), (F.SRF_POOLBASE_BASE, 16), (F.SRF_POOLLEN_LEN, 256), (F.SRF_TBLLEN_LEN, 66), (F.SRF_PFCFG_CACHE16, 1)] with srf := { State.reset.srf with surfs := [⟨5, 3, 4, true, false, none, false⟩], segs := [⟨3, 4, .loc 256⟩] } } witSec36

/-- Witness. -/
def witSec38 : State := coreRelease witSec37 0

/-- Witness. -/
def witSec39 : Bytes := match (areaFetch witSec38 (leAt witSec36.entry 8 2) (leAt witSec36.entry 16 8) 780 .busError).1 with | .ok b => b | _ => []

/-- Witness. -/
def witSec40 : State := (areaFetch witSec38 (leAt witSec36.entry 8 2) (leAt witSec36.entry 16 8) 780 .busError).2

/-- Witness. -/
def witSec41 : Item := itemOf [(0, 1, 0x5C), (8, 2, 5)]

/-- Witness. -/
def witSec42 : State := core0 { die 1 [(F.SRF_CTL_EN, 1), (F.SRF_POOLBASE_BASE, 16), (F.SRF_POOLLEN_LEN, 256), (F.SRF_TBLLEN_LEN, 66), (F.SRF_PFCFG_CACHE16, 1)] with srf := { State.reset.srf with surfs := [⟨5, 3, 4, true, false, none, false⟩], segs := [⟨3, 4, .loc 256⟩] } } witSec41

/-- Witness. -/
def witSec43 : State := coreRelease witSec42 0

/-- Witness. -/
def witSec44 : Bytes := match (areaFetch witSec43 (leAt witSec41.entry 8 2) (leAt witSec41.entry 16 8) 64 .busError).1 with | .ok b => b | _ => []

/-- Witness. -/
def witSec45 : State := (areaFetch witSec43 (leAt witSec41.entry 8 2) (leAt witSec41.entry 16 8) 64 .busError).2

/-- Witness. -/
def witSec46 : Item := itemOf [(0, 1, 0x5C), (8, 2, 5)]

/-- Witness. -/
def witSec47 : State := core0 { die 1 [(F.SRF_CTL_EN, 1), (F.SRF_POOLBASE_BASE, 16), (F.SRF_POOLLEN_LEN, 256), (F.SRF_TBLLEN_LEN, 66), (F.SRF_PFCFG_CACHE16, 1)] with srf := { State.reset.srf with surfs := [⟨5, 3, 4, true, false, none, false⟩], segs := [⟨3, 4, .loc 256⟩] } } witSec46

/-- Witness. -/
def witSec48 : State := coreRelease witSec47 0

/-- Witness. -/
def witSec49 : Bytes := match (areaFetch witSec48 (leAt witSec46.entry 8 2) (leAt witSec46.entry 16 8) 64 .busError).1 with | .ok b => b | _ => []

/-- Witness. -/
def witSec50 : State := (areaFetch witSec48 (leAt witSec46.entry 8 2) (leAt witSec46.entry 16 8) 64 .busError).2

/-- Witness. -/
def witSec51 : Item := itemOf [(0, 1, 0x5D), (1, 1, 4), (8, 2, 5)]

/-- Witness. -/
def witSec52 : State := core0 { die 1 [(F.SRF_CTL_EN, 1), (F.SRF_POOLBASE_BASE, 16), (F.SRF_POOLLEN_LEN, 256), (F.SRF_TBLLEN_LEN, 66), (F.SRF_PFCFG_CACHE16, 1)] with srf := { State.reset.srf with surfs := [⟨5, 3, 4, true, false, none, false⟩], segs := [⟨3, 4, .loc 256⟩] } } witSec51

/-- Witness. -/
def witSec53 : State := coreRelease witSec52 0

/-- Witness. -/
def witSec54 : Bytes := match (areaFetch witSec53 (leAt witSec51.entry 8 2) (leAt witSec51.entry 16 8) 304 .busError).1 with | .ok b => b | _ => []

/-- Witness. -/
def witSec55 : State := (areaFetch witSec53 (leAt witSec51.entry 8 2) (leAt witSec51.entry 16 8) 304 .busError).2

/-- Witness. -/
def witSec56 : Letter := ⟨1, 0xFFFE, false, 1, 1, 6, 0, [], none, 3, 0⟩

/-- Witness. -/
def witSec57 : State := { die 1 [] with chn := { State.reset.chn with letters := [witSec56] } }

/-- Witness. -/
def witSec58 : Letter := ⟨1, 0xFFFE, false, 1, 1, 6, 0, [0], none, 3, 0⟩

/-- Witness. -/
def witSec59 : State := { die 1 [] with chn := { State.reset.chn with letters := [witSec58] }, sec := { State.reset.sec with idkey := false } }

/-- Witness. -/
def witSec60 : Letter := ⟨1, 0xFFFE, false, 1, 1, 6, 0, [0], none, 3, 0⟩

/-- Witness. -/
def witSec61 : State := { die 1 [] with chn := { State.reset.chn with letters := [witSec60] } }

/-- Witness. -/
def witSec62 : Letter := ⟨1, 0xFFFE, false, 1, 1, 7, 0, (zeros 284), none, 3, 0⟩

/-- Witness. -/
def witSec63 : State := { die 1 [] with chn := { State.reset.chn with letters := [witSec62] } }

/-- Witness. -/
def witSec64 : Letter := ⟨1, 0xFFFE, false, 1, 1, 7, 0, (zeros 284), none, 3, 0⟩

/-- Witness. -/
def witSec65 : State := { die 1 [] with chn := { State.reset.chn with letters := [witSec64] }, sec := { State.reset.sec with ops := List.replicate 15 (.enrol (itemOf [])), busy := some (.enrol (itemOf [])) } }

/-- Witness. -/
def witSec66 : Letter := ⟨1, 0xFFFE, false, 1, 1, 8, 0, (zeros 36), none, 3, 0⟩

/-- Witness. -/
def witSec67 : State := { die 1 [] with chn := { State.reset.chn with letters := [witSec66] } }

/-- Witness. -/
def witSec68 : Letter := ⟨1, 0xFFFE, false, 1, 1, 8, 0, (zeros 36), none, 3, 0⟩

/-- Witness. -/
def witSec69 : State := { die 1 [] with chn := { State.reset.chn with letters := [witSec68] }, sec := { State.reset.sec with ops := List.replicate 15 (.enrol (itemOf [])), busy := some (.enrol (itemOf [])) } }

/-- Witness. -/
def witSec70 : Letter := ⟨1, 0xFFFE, false, 1, 1, 7, 0, zeros 284, none, 3, 0⟩

/-- Witness. -/
def witSec71 : State := { die 1 [(F.SEC_RCPTCFG_PERIOD, 1)] with lmp := { State.reset.lmp with mode := some ⟨16666666, 0, 5000000, 4000000, 100000, 1, 0, 100, 1000, false⟩, last := some 100, nextA := 101 }, tim := { State.reset.tim with gens := [(getF State.reset F.TIM_CFG_CADGEN, ⟨3, 1000, 16666666 * 2 ^ 24, 1⟩)] }, time := 40000000 * 2 ^ 28, sec := { State.reset.sec with interval := some (⟨7, 1, 0, [], 0, 0, 0, 0, 0, 0, 0, zeros 8⟩ : Interval), nextT := 1000 } }

/-- Witness. -/
def witSec72 : State := { die 1 [(F.SEC_RCPTCFG_PERIOD, 1)] with lmp := { State.reset.lmp with mode := some ⟨16666666, 0, 5000000, 4000000, 100000, 1, 0, 100, 1000, false⟩, last := some 100, nextA := 101 }, tim := { State.reset.tim with gens := [(getF State.reset F.TIM_CFG_CADGEN, ⟨3, 1000, 16666666 * 2 ^ 24, 1⟩)] }, time := 40000000 * 2 ^ 28, sec := { State.reset.sec with interval := some (⟨7, 1, 0, [], 0, 0, 0, 0, 0, 0, 0, zeros 8⟩ : Interval), nextT := 0 - 5000000000 * 2 ^ 24 } }

theorem test_SecEntries :
    (∃ (it : Item) (x : State) (s : State), QueuesOk s ∧ EntryTaken s 0x16 0x58 it x ∧ secCheck x it.entry = .ok ∧ x.sec.enrol.map Prod.snd ≠ some (byteAt it.entry 1) ∧ x.sec.counter < 2 ^ 24) ∧
    (∃ (it : Item) (x : State) (s : State), QueuesOk s ∧ EntryTaken s 0x16 0x58 it x ∧ secCheck x it.entry = .ok ∧ x.sec.enrol.map Prod.snd ≠ some (byteAt it.entry 1) ∧ x.sec.counter < 2 ^ 24) ∧
    (∃ (it : Item) (x : State) (s : State), QueuesOk s ∧ EntryTaken s 0x16 0x59 it x ∧ secCheck x it.entry = .ok ∧ x.sec.enrol = none) ∧
    (∃ (it : Item) (x : State) (s : State) (n : Nat) (k : Nat), QueuesOk s ∧ EntryTaken s 0x16 0x59 it x ∧ secCheck x it.entry = .ok ∧ x.sec.enrol = some (n, k)) ∧
    (∃ (l : Letter) (rest : List Letter) (e : Enrol) (es : List Enrol) (s : State), QueuesOk s ∧ blkOn s 0x16 = true ∧ isSender s = true ∧ s.chn.letters = l :: rest ∧ s.sec.enrols = e :: es ∧ isReply s l = true ∧ e.waits = true ∧ e.lid = l.lid ∧ e.ltype = l.ltype ∧ e.postcode = l.addr ∧ byteAt l.content 0 ≠ 0) :=
  ⟨⟨witSec1, witSec3, witSec2, by decide +kernel⟩,
   ⟨witSec4, witSec6, witSec5, by decide +kernel⟩,
   ⟨witSec7, witSec9, witSec8, by decide +kernel⟩,
   ⟨witSec10, witSec12, witSec11, 16777217, 3, by decide +kernel⟩,
   ⟨witSec13, [], witSec14, [], witSec15, by decide +kernel⟩⟩

theorem test_SecEntries_2 :
    (∃ (l : Letter) (rest : List Letter) (e : Enrol) (es : List Enrol) (s : State), QueuesOk s ∧ blkOn s 0x16 = true ∧ isSender s = true ∧ s.chn.letters = l :: rest ∧ s.sec.enrols = e :: es ∧ isReply s l = true ∧ e.waits = true ∧ e.lid = l.lid ∧ e.ltype = l.ltype ∧ e.postcode = l.addr ∧ byteAt l.content 0 ≠ 0) ∧
    (∃ (l : Letter) (rest : List Letter) (e : Enrol) (es : List Enrol) (s : State), QueuesOk s ∧ blkOn s 0x16 = true ∧ isSender s = true ∧ s.chn.letters = l :: rest ∧ s.sec.enrols = e :: es ∧ isReply s l = true ∧ e.waits = true ∧ e.lid = l.lid ∧ e.ltype = l.ltype ∧ e.postcode = l.addr ∧ byteAt l.content 0 = 0 ∧ e.ltype = 6) ∧
    (∃ (dt : Nat) (e : Enrol) (es : List Enrol) (s : State), QueuesOk s ∧ blkOn (advance dt s) 0x16 = true ∧ s.sec.enrols = e :: es ∧ e.waits = true ∧ e.sent + getF s F.CHN_CFG_LETTERTO * 1000000 ≤ upNs (advance dt s)) ∧
    (∃ (it : Item) (x : State) (s : State), QueuesOk s ∧ EntryTaken s 0x16 0x5A it x ∧ secCheck x it.entry = .ok) ∧
    (∃ (host : HostRes) (it : Item) (x : State) (b : Bytes) (z : _) (s : State), QueuesOk s ∧ EntryTaken s 0x16 0x5B it x ∧ secWaits 780 s it = false ∧ secCheck x it.entry = .ok ∧ areaFetch x (leAt it.entry 8 2) (leAt it.entry 16 8) 780 host = (.ok b, z) ∧ engineFull x = true) :=
  ⟨⟨witSec16, [], witSec17, [], witSec18, by decide +kernel⟩,
   ⟨witSec19, [], witSec20, [], witSec21, by decide +kernel⟩,
   ⟨9, witSec22, [], { die 0 [(F.CHN_CFG_LETTERTO, 1)] with up := 999991, sec := { State.reset.sec with enrols := [witSec22] } }, by decide +kernel⟩,
   ⟨witSec23, witSec25, witSec24, by decide +kernel⟩,
   ⟨HostRes.busError, witSec26, witSec28, witSec29, witSec30, witSec27, by decide +kernel⟩⟩

theorem test_SecEntries_3 :
    (∃ (host : HostRes) (it : Item) (x : State) (b : Bytes) (z : _) (s : State), QueuesOk s ∧ EntryTaken s 0x16 0x5B it x ∧ secWaits 780 s it = false ∧ secCheck x it.entry = .ok ∧ areaFetch x (leAt it.entry 8 2) (leAt it.entry 16 8) 780 host = (.ok b, z) ∧ engineFull x = false) ∧
    (∃ (host : HostRes) (it : Item) (x : State) (b : Bytes) (z : _) (s : State), QueuesOk s ∧ EntryTaken s 0x16 0x5B it x ∧ secWaits 780 s it = false ∧ secCheck x it.entry = .ok ∧ areaFetch x (leAt it.entry 8 2) (leAt it.entry 16 8) 780 host = (.ok b, z) ∧ engineFull x = false) ∧
    (∃ (host : HostRes) (it : Item) (x : State) (b : Bytes) (z : _) (s : State) (i : _), QueuesOk s ∧ EntryTaken s 0x16 0x5C it x ∧ secWaits 64 s it = false ∧ secCheck x it.entry = .ok ∧ areaFetch x (leAt it.entry 8 2) (leAt it.entry 16 8) 64 host = (.ok b, z) ∧ i < 8) ∧
    (∃ (host : HostRes) (it : Item) (x : State) (b : Bytes) (z : _) (s : State) (i : _), QueuesOk s ∧ EntryTaken s 0x16 0x5C it x ∧ secWaits 64 s it = false ∧ secCheck x it.entry = .ok ∧ areaFetch x (leAt it.entry 8 2) (leAt it.entry 16 8) 64 host = (.ok b, z) ∧ i < 8) ∧
    (∃ (host : HostRes) (it : Item) (x : State) (b : Bytes) (z : _) (s : State), QueuesOk s ∧ EntryTaken s 0x16 0x5D it x ∧ secWaits 304 s it = false ∧ secCheck x it.entry = .ok ∧ areaFetch x (leAt it.entry 8 2) (leAt it.entry 16 8) 304 host = (.ok b, z)) :=
  ⟨⟨HostRes.busError, witSec31, witSec33, witSec34, witSec35, witSec32, by decide +kernel⟩,
   ⟨HostRes.busError, witSec36, witSec38, witSec39, witSec40, witSec37, by decide +kernel⟩,
   ⟨HostRes.busError, witSec41, witSec43, witSec44, witSec45, witSec42, 0, by decide +kernel⟩,
   ⟨HostRes.busError, witSec46, witSec48, witSec49, witSec50, witSec47, 6, by decide +kernel⟩,
   ⟨HostRes.busError, witSec51, witSec53, witSec54, witSec55, witSec52, by decide +kernel⟩⟩

theorem test_SecLettersAndReceipts :
    (∃ (l : Letter) (x : State) (s : State), SecLetter s 6 l x) ∧
    (∃ (l : Letter) (x : State) (s : State), SecLetter s 6 l x) ∧
    (∃ (l : Letter) (x : State) (s : State), SecLetter s 6 l x) ∧
    (∃ (l : Letter) (x : State) (s : State), SecLetter s 7 l x) ∧
    (∃ (l : Letter) (x : State) (s : State), SecLetter s 7 l x) :=
  ⟨⟨witSec56, { witSec57 with chn := { witSec57.chn with letters := [] } }, witSec57, by decide +kernel⟩,
   ⟨witSec58, { witSec59 with chn := { witSec59.chn with letters := [] } }, witSec59, by decide +kernel⟩,
   ⟨witSec60, { witSec61 with chn := { witSec61.chn with letters := [] } }, witSec61, by decide +kernel⟩,
   ⟨witSec62, { witSec63 with chn := { witSec63.chn with letters := [] } }, witSec63, by decide +kernel⟩,
   ⟨witSec64, { witSec65 with chn := { witSec65.chn with letters := [] } }, witSec65, by decide +kernel⟩⟩

theorem test_SecLettersAndReceipts_2 :
    (∃ (l : Letter) (x : State) (s : State), SecLetter s 8 l x ∧ allZero (slice l.content 33 3) = true ∧ x.sec.idkey = true ∧ engineFull x = false) ∧
    (∃ (l : Letter) (x : State) (s : State), SecLetter s 8 l x ∧ allZero (slice l.content 33 3) = true ∧ x.sec.idkey = true ∧ engineFull x = true) ∧
    (∃ (dt : Nat) (o : EngOp) (s : State) (iv : Interval), QueuesOk s ∧ blkOn (advance dt s) 0x16 = true ∧ s.sec.busy = some o ∧ o = .receipt iv ∧ s.sec.idkey = true ∧ s.sec.rseq < 2 ^ 32) ∧
    (∃ (dt : Nat) (o : EngOp) (s : State) (iv : Interval), QueuesOk s ∧ blkOn (advance dt s) 0x16 = true ∧ s.sec.busy = some o ∧ o = .receipt iv ∧ s.sec.idkey = true ∧ s.sec.rseq < 2 ^ 32) ∧
    (∃ (dt : Nat) (o : EngOp) (s : State) (iv : Interval), QueuesOk s ∧ blkOn (advance dt s) 0x16 = true ∧ s.sec.busy = some o ∧ o = .receipt iv ∧ s.sec.idkey = true ∧ s.sec.rseq < 2 ^ 32) :=
  ⟨⟨witSec66, { witSec67 with chn := { witSec67.chn with letters := [] } }, witSec67, by decide +kernel⟩,
   ⟨witSec68, { witSec69 with chn := { witSec69.chn with letters := [] } }, witSec69, by decide +kernel⟩,
   ⟨9, (.receipt (⟨7, 1, 0, [], 0, 0, 0, 0, 0, 0, 0, zeros 8⟩ : Interval)), { die 1 [] with sec := { State.reset.sec with busy := some (.receipt (⟨7, 1, 0, [], 0, 0, 0, 0, 0, 0, 0, zeros 8⟩ : Interval)), rseq := 2 ^ 32 - 1 } }, (⟨7, 1, 0, [], 0, 0, 0, 0, 0, 0, 0, zeros 8⟩ : Interval), by decide +kernel⟩,
   ⟨9, (.receipt (⟨7, 1, 0, [], 0, 0, 0, 0, 0, 0, 0, zeros 8⟩ : Interval)), { die 1 [(F.LNK_PSTAT_STATE 0, pUp)] with sec := { State.reset.sec with busy := some (.receipt (⟨7, 1, 0, [], 0, 0, 0, 0, 0, 0, 0, zeros 8⟩ : Interval)), held := List.replicate 4 [1#8] } }, (⟨7, 1, 0, [], 0, 0, 0, 0, 0, 0, 0, zeros 8⟩ : Interval), by decide +kernel⟩,
   ⟨9, (.receipt (⟨7, 1, 0, [], 0, 0, 0, 0, 0, 0, 0, zeros 8⟩ : Interval)), { die 1 [] with sec := { State.reset.sec with busy := some (.receipt (⟨7, 1, 0, [], 0, 0, 0, 0, 0, 0, 0, zeros 8⟩ : Interval)), held := List.replicate 4 [1#8] } }, (⟨7, 1, 0, [], 0, 0, 0, 0, 0, 0, 0, zeros 8⟩ : Interval), by decide +kernel⟩⟩

theorem test_SecLettersAndReceipts_3 :
    (∃ (dt : Nat) (o : EngOp) (s : State) (l : Letter), QueuesOk s ∧ blkOn (advance dt s) 0x16 = true ∧ s.sec.busy = some o ∧ o = .unwrap l ∧ l.port < 4) ∧
    (∃ (dt : Nat) (m : Mode) (st : Anchor) (iv : Interval) (s : State), blkOn (advance dt s) 0x11 = true ∧ modeOf (advance dt s) s.lmp.nextA = some (m, st) ∧ commitAt m st s.lmp.nextA ≤ nowFine (advance dt s) ∧ s.sec.interval = some iv ∧ s.sec.nextT ≤ commitAt m st s.lmp.nextA ∧ s.sec.idkey = true) ∧
    (∃ (dt : Nat) (m : Mode) (st : Anchor) (iv : Interval) (s : State), blkOn (advance dt s) 0x11 = true ∧ modeOf (advance dt s) s.lmp.nextA = some (m, st) ∧ commitAt m st s.lmp.nextA ≤ nowFine (advance dt s) ∧ s.sec.interval = some iv ∧ s.sec.nextT ≤ commitAt m st s.lmp.nextA ∧ s.sec.idkey = true) ∧
    (∃ (s : State), blkOn s 0x16 = true ∧ receiptsHeld s = true) ∧
    (∃ (s : State), blkOn s 0x16 = true ∧ receiptsHeld s = false) :=
  ⟨⟨9, (.unwrap witSec70), { die 1 [] with sec := { State.reset.sec with busy := some (.unwrap witSec70) } }, witSec70, by decide +kernel⟩,
   ⟨9, ⟨16666666, 0, 5000000, 4000000, 100000, 1, 0, 100, 1000, false⟩, (modeStart (advance 9 witSec71)), (⟨7, 1, 0, [], 0, 0, 0, 0, 0, 0, 0, zeros 8⟩ : Interval), witSec71, by decide +kernel⟩,
   ⟨9, ⟨16666666, 0, 5000000, 4000000, 100000, 1, 0, 100, 1000, false⟩, (modeStart (advance 9 witSec72)), (⟨7, 1, 0, [], 0, 0, 0, 0, 0, 0, 0, zeros 8⟩ : Interval), witSec72, by decide +kernel⟩,
   ⟨{ die 1 [(F.SEC_CNT_RDROP, F.SEC_CNT_RDROP.top - 1)] with sec := { State.reset.sec with held := List.replicate 6 [1#8] } }, by decide +kernel⟩,
   ⟨{ die 1 [(F.LNK_PSTAT_STATE 0, pUp)] with sec := { State.reset.sec with held := List.replicate 6 [1#8] } }, by decide +kernel⟩⟩

theorem test_SecLettersAndReceipts_4 :
    (∃ (dt : Nat) (e : Nat × Bool × List (Nat × Nat)) (rest : List (Nat × Bool × List (Nat × Nat))) (s : State), blkOn (advance dt s) 0x16 = true ∧ s.sec.crcs = e :: rest ∧ crcReady (advance dt s) e = true ∧ surfOf (advance dt s) (getF s F.SEC_CRCCFG_HANDLE) = none) ∧
    (∃ (dt : Nat) (e : Nat × Bool × List (Nat × Nat)) (rest : List (Nat × Bool × List (Nat × Nat))) (s : State), blkOn (advance dt s) 0x16 = true ∧ s.sec.crcs = e :: rest ∧ crcReady (advance dt s) e = true) :=
  ⟨⟨9, (7, true, [(3, 5)]), [], { die 0 [] with sec := { State.reset.sec with crcs := [(7, true, [(3, 5)])] } }, by decide +kernel⟩,
   ⟨9, (7, false, [(3, 5)]), [], { die 0 [(F.FRT_FRAME_FRAME, 8), (F.SRF_CTL_EN, 1), (F.SRF_POOLBASE_BASE, 16), (F.SRF_POOLLEN_LEN, 256), (F.SRF_TBLLEN_LEN, 66), (F.SRF_PFCFG_CACHE16, 1), (F.SEC_CRCCFG_HANDLE, 5)] with srf := { State.reset.srf with surfs := [⟨5, 3, 4, true, false, none, false⟩], segs := [⟨3, 4, .loc 256⟩] }, sec := { State.reset.sec with crcs := [(7, false, [(3, 5)])] } }, by decide +kernel⟩⟩

theorem test_DebugPort :
    (∃ (s : State), blkOn s 0x19 = true) ∧
    (∃ (s : State), blkOn s 0x19 = true) ∧
    (∃ (s : State) (k : Nat), blkOn s 0x19 = true ∧ k < 4) ∧
    (∃ (s : State), blkOn s 0x19 = true ∧ s.sec.dbg = 0) ∧
    (∃ (off : Nat) (s : State), blkOn s 0x19 = true ∧ s.sec.dbg ≠ 0 ∧ off % 4 = 0) :=
  ⟨⟨(die 0 []), by decide +kernel⟩,
   ⟨(die 1 [(F.SEC_CNT_TOKFAIL, F.SEC_CNT_TOKFAIL.top)]), by decide +kernel⟩,
   ⟨(die 0 []), 3, by decide +kernel⟩,
   ⟨{ die 0 [] with sec := { State.reset.sec with dbg := 0, extest := true } }, by decide +kernel⟩,
   ⟨8, { die 0 [] with sec := { State.reset.sec with dbg := 1, extest := true } }, by decide +kernel⟩⟩

theorem test_DebugPort_2 :
    (∃ (off : Nat) (v : Option Word) (s : State), blkOn s 0x19 = true ∧ s.sec.dbg ≠ 0 ∧ off % 4 = 0 ∧ v = none) ∧
    (∃ (off : Nat) (s : State), blkOn s 0x19 = true ∧ s.sec.dbg ≠ 0 ∧ off % 4 ≠ 0 ∧ getF s F.GLB_ERRINFO_VALID = 0) ∧
    (∃ (off : Nat) (v : Option Word) (s : State), blkOn s 0x19 = true ∧ s.sec.dbg ≠ 0 ∧ off % 4 = 0 ∧ v = none) ∧
    (∃ (s : State), blkOn s 0x19 = true ∧ s.sec.dbg ≠ 2) ∧
    (∃ (a : Nat) (n : Nat) (data : Option Bytes) (s : State), blkOn s 0x19 = true ∧ s.sec.dbg = 2 ∧ a + n ≤ 64 * drcBlocks s ∧ dramBad s a n = false ∧ data = none) :=
  ⟨⟨8, none, { die 0 [] with sec := { State.reset.sec with dbg := 2, extest := true } }, by decide +kernel⟩,
   ⟨9, { die 0 [] with sec := { State.reset.sec with dbg := 1, extest := true } }, by decide +kernel⟩,
   ⟨0, none, { die 0 [] with sec := { State.reset.sec with dbg := 1, extest := true } }, by decide +kernel⟩,
   ⟨{ die 0 [] with sec := { State.reset.sec with dbg := 1, extest := true } }, by decide +kernel⟩,
   ⟨131068, 4, none, { die 0 [(F.DRC_CAP_PAGES, 2)] with sec := { State.reset.sec with dbg := 2 }, dram := [(1, 5), (64, 7), (131071, 9)] }, by decide +kernel⟩⟩

theorem test_DebugPort_3 :
    (∃ (a : Nat) (n : Nat) (data : Option Bytes) (s : State), blkOn s 0x19 = true ∧ s.sec.dbg = 2 ∧ a + n ≤ 64 * drcBlocks s ∧ dramBad s a n = true ∧ data = none) ∧
    (∃ (a : Nat) (n : Nat) (s : State), blkOn s 0x19 = true ∧ s.sec.dbg = 2 ∧ a + n ≤ 64 * drcBlocks s) ∧
    (∃ (s : State), blkOn s 0x19 = true ∧ s.sec.dbg = 0) ∧
    (∃ (s : State), blkOn s 0x19 = true ∧ s.sec.dbg ≠ 0) ∧
    (∃ (s : State), blkOn s 0x19 = true) :=
  ⟨⟨131068, 4, none, { die 0 [(F.DRC_CAP_PAGES, 2)] with sec := { State.reset.sec with dbg := 2 }, dram := [(1, 5), (64, 7), (131071, 9)], drc := { State.reset.drc with poison := [2047] } }, by decide +kernel⟩,
   ⟨131070, 2, { die 0 [(F.DRC_CAP_PAGES, 2)] with sec := { State.reset.sec with dbg := 2 }, dram := [(1, 5), (64, 7), (131071, 9)] }, by decide +kernel⟩,
   ⟨{ die 0 [] with sec := { State.reset.sec with dbg := 0, extest := true } }, by decide +kernel⟩,
   ⟨{ die 0 [] with sec := { State.reset.sec with dbg := 1, extest := true } }, by decide +kernel⟩,
   ⟨{ die 0 [] with lmp := { State.reset.lmp with lampEn := true } }, by decide +kernel⟩⟩

end Sys2Proof.Machine
end

