-- ==== Sys2Proof/WellFormed.lean ====
section
/-! DEFINITION. Well-formed commands: each operand names a thing the die has, and each word or byte string has the size the
interface gives it. -/

namespace Sys2Proof
open Sys2Proof.Machine

/-- Is a command well-formed? -/
def Instr.wellFormed (i : Instr) : Bool :=
  match i with
  | .railFault mask => decide (mask < 1024)
  | .railWarn x => decide (x.rail < 10)
  | .vddAonApply => true
  | .pwronResetAssert => true
  | .coldResetRelease sel _ => decide (sel < 4)
  | .warmResetPin => true
  | .warmResetSoftware => true
  | .watchdogExpiry => true
  | .warmResetAssert => true
  | .warmResetRelease => true
  | .refClkLoss => true
  | .refClkGood => true
  | .pllStageDone => true
  | .romStageDone => true
  | .firstStageDone o => if o.ndev = 0 then !o.layout else o.ndev ≤ 2 && 8 ≤ o.size4 && o.size4 ≤ 64 && 16 ≤ o.ndev * o.size4
  | .dramStageDone l _ => decide (l.length ≤ 8)
  | .firmwareStageDone _ => true
  | .ucieAttemptEnd _ mods _ ms => decide (mods.length ≤ 4) && decide (ms < 65536)
  | .ucieBackoffEnd _ => true
  | .ucieWindowClose _ ms => decide (ms < 65536)
  | .bootHoldRetry _ => true
  | .registerWrite size off v => decide (off < 2 ^ 24) && decide (v < 2 ^ (8 * size))
  | .errinfoClear => true
  | .barMisalignedRead _ _ off => decide (off < 2 ^ 24)
  | .evtqRead => true
  | .dmaBytesRead c => decide (c < 64)
  | .timNowRead _ => true
  | .timCapRead c => decide (c < 4)
  | .secNonceRead => true
  | .queBlockReset => true
  | .dmaBlockReset => true
  | .sorBlockReset => true
  | .srfBlockReset => true
  | .cmpBlockReset => true
  | .frtBlockReset => true
  | .lnkBlockReset => true
  | .chnBlockReset => true
  | .timBlockReset => true
  | .tanBlockReset => true
  | .lmpBlockReset => true
  | .spkBlockReset => true
  | .calBlockReset => true
  | .dbgBlockReset => true
  | .blockResetEnd _ k => decide (k < 32)
  | .hifLinkLoss => true
  | .hifRetrain _ => true
  | .hifRetryTimer _ => true
  | .bmeChange x => [128, 256, 512].contains x.mps && [128, 256, 512, 1024, 2048, 4096].contains x.mrrs
  | .msixUnmask _ => true
  | .queueEnable q => decide (q < 4096)
  | .queueDisable q => decide (q < 4096)
  | .queueStop q => decide (q < 4096)
  | .queueResume q => decide (q < 4096)
  | .doorbell size off v => decide (off < 2 ^ 24) && decide (v < 2 ^ (8 * size))
  | .ringReadComplete q _ => decide (q < 4096)
  | .ringRecheckTimeout _ q => decide (q < 4096)
  | .sorDispatch => true
  | .sorPreempt _ => true
  | .dmaSegmentReadDone c _ _ _ => decide (c < 64)
  | .dmaReadDone c _ => decide (c < 64)
  | .hostReadTimeout _ _ => true
  | .lateCompletion => true
  | .dmaDescriptorComplete c => decide (c < 64)
  | .slotPoll _ _ => true
  | .slotReadDone t _ b => decide (72 ≤ t) && decide (t < 136) && decide (b.length = 64)
  | .slotReadFail t _ => decide (72 ≤ t) && decide (t < 136)
  | .loadWindowEnd _ => true
  | .srfEnable => true
  | .srfTableInitDone => true
  | .surfaceCreate => true
  | .surfaceBack => true
  | .surfaceFree => true
  | .surfaceInval => true
  | .frameRetire => true
  | .prefetchIssue => true
  | .prefetchDone _ b => decide (b.length = 65536)
  | .prefetchFail _ _ => true
  | .latePage _ => true
  | .bookLoad _ => true
  | .curveLoad _ => true
  | .filterLoad _ => true
  | .cmpEnable _ => true
  | .cmpDisable _ => true
  | .cmpFrameDone _ => true
  | .senderCadence _ _ => true
  | .rasterDeadline _ => true
  | .latchInstant _ _ => true
  | .commitGo _ => true
  | .commitEntry => true
  | .modeEntry => true
  | .frtEnable _ _ => true
  | .frtDisable _ _ => true
  | .portEnable p _ => decide (p < 4)
  | .portDisable p _ => decide (p < 4)
  | .portRetrain p _ => decide (p < 4)
  | .portTestEnter p _ => decide (p < 4)
  | .portTestExit p _ => decide (p < 4)
  | .prbsInject idx _ => decide (idx < 20)
  | .receiverDetect _ p _ => decide (p < 4)
  | .presetTrial p _ => decide (p < 4)
  | .linkStageDone p _ => decide (p < 4)
  | .linkAttemptFail x => decide (x.port < 4)
  | .linkBackoffEnd _ p => decide (p < 4)
  | .chainDown p => decide (p < 4)
  | .laneSpare p n => decide (p < 4) && decide (n < 5)
  | .steerReceive p _ _ => decide (p < 4)
  | .steerRepeat x => decide (x.n < 4)
  | .pannierSwitch p => decide (p < 4)
  | .elasticSlip x => decide (x.port < 4)
  | .reseedTimer _ p => decide (p < 4)
  | .adaptWindow p l _ _ => decide (p < 4) && decide (l < 5)
  | .marginMeasure p l _ _ => decide (p < 4) && decide (l < 5)
  | .timingPortChange => true
  | .timingPortLocked => true
  | .cellForward _ p raw _ _ => decide (p < 4) && (decide (raw.length = 240) || decide (raw.length = 375))
  | .candidateCorrected => true
  | .insertQueueTimeout _ p => decide (p < 4)
  | .runCell => true
  | .abortCell => true
  | .beaconCell => true
  | .peerBeacon => true
  | .letterSegment => true
  | .reassemblyTimeout _ => true
  | .regReadLetter => true
  | .regWriteLetter => true
  | .ringFillLetter => true
  | .ringReadLetter => true
  | .modeLetter => true
  | .certGetLetter => true
  | .keyWrapLetter => true
  | .quoteReqLetter => true
  | .keyDropLetter => true
  | .parcelData => true
  | .parcelQuery => true
  | .parcelArm => true
  | .parcelAbandon => true
  | .snapPartLetter _ => true
  | .snapCommitLetter _ => true
  | .snapWaitTimeout _ => true
  | .inboxRecord => true
  | .sendEntry _ => true
  | .sendReply => true
  | .sendTimeout _ => true
  | .inboxEnable _ => true
  | .inboxRdWrite rd => decide (rd < 65536)
  | .rollcallCell => true
  | .syncPostmark => true
  | .preqPostmark => true
  | .prespPostmark => true
  | .preqSend _ p => decide (p < 4)
  | .preqLost x => decide (x.n < 4)
  | .syncLoss _ => true
  | .timeWrap => true
  | .timeAdjStep step => decide (step < 2 ^ 32)
  | .refArm _ => true
  | .referenceEdge _ eighths _ => decide (eighths < 8)
  | .referenceLoss _ => true
  | .generatorEnable _ g _ => decide (g < 16)
  | .generatorDisable _ g _ => decide (g < 16)
  | .generatorPulse _ g _ => decide (g < 16)
  | .captureEdge _ c eighths _ => decide (c < 4) && decide (eighths < 8)
  | .cadgenWrite g _ => decide (g < 16)
  | .tanEnable _ => true
  | .tanDisable _ => true
  | .heartbeatPulse _ => true
  | .tanTake _ => true
  | .revertHoldExpiry _ => true
  | .tanRenum epoch => decide (epoch < 2 ^ 24)
  | .snapEntry _ => true
  | .snapCommitRepeat _ => true
  | .claimExpiry _ p => decide (p < 2)
  | .tileCadence _ => true
  | .commitInstant _ => true
  | .slotLatch _ _ => true
  | .lmpCurveLoad _ => true
  | .dimWrite _ _ => true
  | .lmpEnable _ => true
  | .lmpDisable _ => true
  | .svcPress _ => true
  | .svcLongHold _ => true
  | .locatorEnd _ => true
  | .selfTestEnd _ => true
  | .spkEnable _ => true
  | .spkDisable _ => true
  | .spokeBringupRetry _ n => decide (n < 32)
  | .driverStatPoll _ => true
  | .spkReload => true
  | .latchSend _ _ pads => pads.all (fun p => decide (p.1 < 32) && decide (p.2 < 2 ^ 32))
  | .lineSlot _ => true
  | .slotEmissionEnd _ pads => pads.all (fun p => decide (p.1 < 4) && decide (p.2 < 2 ^ 32))
  | .readAnswer n _ => decide (n < 32)
  | .readAbsent x => decide (x.n < 32)
  | .detectionRead n d reg _ => decide (n < 32) && decide (d < 32) && [8, 0x20, 0x22, 0x24].contains reg
  | .faultTableClear => true
  | .readbackSpokeClear mask => decide (mask < 2 ^ 32)
  | .dramReadRequest _ _ cls _ => decide (cls < 4)
  | .dramReadReturn _ _ _ _ => true
  | .dramWriteRequest _ _ cls _ data _ => decide (cls < 4) && decide (data.length = 64)
  | .dramPartialWrite _ x off data _ => decide (x.port ≤ 7 ∧ off + data.length ≤ 64)
  | .refreshDue _ c rank => decide (c < 8) && decide (rank < 2)
  | .refreshPullin _ c rank => decide (c < 8) && decide (rank < 2)
  | .patrolScrub _ _ => true
  | .mr4Poll _ => true
  | .selfRefreshEntry _ c => decide (c < 8)
  | .selfRefreshExit _ c => decide (c < 8)
  | .freqChangeGo _ => true
  | .freqChangeTimeout _ => true
  | .dramTrackStep _ _ => true
  | .standbyRetrain _ c _ _ => decide (c < 8)
  | .sensorSample _ od td => decide (od.length = 12) && decide (td.length = 16)
  | .throttleStepDown _ => true
  | .throttleStepUp _ => true
  | .thmFailClear mask => decide (mask < 2 ^ 32)
  | .t5Shutdown _ => true
  | .orderlyShutdown => true
  | .hardwareTrip k => decide (k < 12)
  | .powerRequest req => decide (req < 8)
  | .powerStateReached _ => true
  | .recalStart _ => true
  | .recalManualStart _ => true
  | .recalPannierMatched => true
  | .recalMeasureWindow _ _ _ _ => true
  | .recalLaneMatched _ => true
  | .recalSwitchBack _ _ => true
  | .recalAbort _ => true
  | .calDisable _ => true
  | .calSetSave _ => true
  | .keysetEntry => true
  | .enrolEntry => true
  | .enrolReply => true
  | .enrolTimeout _ => true
  | .switchEntry => true
  | .quoteEntry _ => true
  | .extendEntry _ => true
  | .lifeEntry _ => true
  | .dbgtoken t => decide (t.length = 304)
  | .dbgnonce => true
  | .regacc off _ => decide (off < 2 ^ 24)
  | .memacc _ _ n data => (match data with | some b => b.length == n | none => true)
  | .trace _ => true
  | .extest => true
  | .signEngineDone _ => true
  | .receiptIntervalClose _ => true
  | .receiptSigned => true
  | .crcRecordWrite _ => true
  | .stageEntry _ => true
  | .pushEntry _ => true
  | .activateEntry => true
  | .confirmEntry => true
  | .abandonEntry => true
  | .hostimgEntry => true
  | .updConfirmWrite => true
  | .updAbandonWrite => true
  | .verifyDone => true
  | .activationInstant _ => true
  | .trialConfirm => true
  | .confirmWindowExpiry _ => true
  | .recoveryGo len => decide (len < 2 ^ 23)
  | .blockReceive p _ _ o => decide (p < 4) && decide (o.fill ≤ 16)
  | .pllUnlock k => decide (k < 8)
  | .flashOperationDone _ => true
  | .pushReply => true
  | .pcieD3hotChange _ => true

end Sys2Proof
end

