-- ==== Sys2Proof/Tests/Slice0.lean ====
section
/-! SUPPORT. Tests: the machine answers at reset, each check of well-formed commands refuses a term that fails it alone, and
witnesses of the hypotheses of the statements about steps, registers and numbers. The witnesses of the statements of each family stand
in files of their own beside this one. -/

set_option Elab.async false
set_option maxRecDepth 100000

namespace Sys2Proof.Machine

theorem test_reset_answers : ∃ t, step State.reset = .next t := ⟨_, rfl⟩

theorem test_wellFormed_refuses_1 (d : DramCh) : (
  [.railFault 1024, .railWarn ⟨10, false⟩, .coldResetRelease 4 false, .firstStageDone ⟨3, 32, true, [], [], .ok, .ok⟩,
   .firstStageDone ⟨2, 65, true, [], [], .ok, .ok⟩, .firstStageDone ⟨1, 15, true, [], [], .ok, .ok⟩,
   .firstStageDone ⟨0, 0, true, [], [], .ok, .ok⟩, .dramStageDone (List.replicate 9 d) (0, 0, 0),
   .ucieAttemptEnd 0 (List.replicate 5 none) false 0, .ucieAttemptEnd 0 [] false 65536, .ucieWindowClose [] 65536,
   .registerWrite 0 (2 ^ 24) 0, .registerWrite 0 0 (2 ^ (8 * 0)), .barMisalignedRead false 0 (2 ^ 24), .dmaBytesRead 64,
   .timCapRead 4, .blockResetEnd 0 32, .bmeChange ⟨false, 127, 128⟩, .bmeChange ⟨false, 128, 127⟩, .queueEnable 4096,
   .queueDisable 4096, .queueStop 4096, .queueResume 4096, .doorbell 0 (2 ^ 24) 0, .doorbell 0 0 (2 ^ (8 * 0))] : List Instr).any Instr.wellFormed =
    false := rfl

theorem test_wellFormed_refuses_2 (o : StageObs) (r : RdRes) : (
  [.ringReadComplete 4096 r, .ringRecheckTimeout 0 4096, .dmaSegmentReadDone 64 false false r, .dmaReadDone 64 r,
   .dmaDescriptorComplete 64, .slotReadDone 71 false (List.replicate 64 0#8), .slotReadDone 136 false (List.replicate 64 0#8),
   .slotReadDone 72 false (List.replicate 63 0#8), .slotReadFail 71 false, .slotReadFail 136 false, .prefetchDone 0 [],
   .portEnable 4 0#32, .portDisable 4 0#32, .portRetrain 4 0#32, .portTestEnter 4 0#32, .portTestExit 4 0#32,
   .prbsInject 20 0#32, .receiverDetect 0 4 0, .presetTrial 4 ⟨[], [], [], []⟩, .linkStageDone 4 o,
   .linkAttemptFail ⟨0, 4, false, 0⟩, .linkBackoffEnd 0 4, .chainDown 4, .laneSpare 4 0, .laneSpare 0 5] : List Instr).any Instr.wellFormed =
    false := rfl

theorem test_wellFormed_refuses_3 (tp : Taps) : (
  [.steerReceive 4 0 0, .steerRepeat ⟨0, 4⟩, .pannierSwitch 4, .elasticSlip ⟨4, 0⟩, .reseedTimer 0 4, .adaptWindow 4 0 0 tp,
   .adaptWindow 0 5 0 tp, .marginMeasure 4 0 0 0, .marginMeasure 0 5 0 0, .cellForward 0 4 [] [] [], .insertQueueTimeout 0 4,
   .inboxRdWrite 65536, .preqSend 0 4, .preqLost ⟨0, 4⟩, .timeAdjStep (2 ^ 32), .referenceEdge 0 8 false,
   .generatorEnable 0 16 0#32, .generatorDisable 0 16 0#32, .generatorPulse 0 16 [], .captureEdge 0 4 0 false,
   .captureEdge 0 0 8 false, .cadgenWrite 16 0#32, .tanRenum (2 ^ 24), .claimExpiry 0 2, .spokeBringupRetry 0 32] : List Instr).any Instr.wellFormed =
    false := rfl

theorem test_wellFormed_refuses_4 : (
  [.latchSend 0 false [(32, 0)], .latchSend 0 false [(0, 4294967296)], .slotEmissionEnd 0 [(32, 0)],
   .slotEmissionEnd 0 [(0, 4294967296)], .readAnswer 32 [], .readAbsent ⟨0, 32⟩, .detectionRead 32 0 128 [],
   .detectionRead 0 32 128 [], .detectionRead 0 0 127 [], .readbackSpokeClear (2 ^ 32), .dramReadRequest 0 0 4 0,
   .dramWriteRequest 0 0 4 0 (List.replicate 64 0#8) false, .dramWriteRequest 0 0 0 0 (List.replicate 63 0#8) false,
   .dramPartialWrite 0 ⟨8, 0⟩ 0 [] [], .dramPartialWrite 0 ⟨0, 0⟩ 65 [] [], .refreshDue 0 8 0, .refreshDue 0 0 2,
   .refreshPullin 0 8 0, .refreshPullin 0 0 2, .selfRefreshEntry 0 8, .selfRefreshExit 0 8, .standbyRetrain 0 8 false [],
   .sensorSample 0 (List.replicate 11 0) (List.replicate 16 (0, 0)),
   .sensorSample 0 (List.replicate 12 0) (List.replicate 15 (0, 0)), .thmFailClear (2 ^ 32)] : List Instr).any Instr.wellFormed =
    false := rfl

theorem test_wellFormed_refuses_5 : (
  [.hardwareTrip 12, .powerRequest 8, .dbgtoken (List.replicate 303 0#8), .regacc (2 ^ 24) none,
   .memacc false 0 0 (some [0#8]), .recoveryGo (2 ^ 23), .blockReceive 4 0 [] ⟨0, 0, 0, [], []⟩,
   .blockReceive 0 0 [] ⟨0, 0, 17, [], []⟩, .pllUnlock 8] : List Instr).any Instr.wellFormed =
    false := rfl

/-! ### Witnesses of the hypotheses of the statements -/

theorem test_StepRunsFrontCommand : ∃ (c : Instr) (l : List Instr) (s : State), s.pending = c :: l :=
  ⟨.evtqRead, [.vddAonApply], { State.reset with pending := [.evtqRead, .vddAonApply] }, rfl⟩

theorem test_EmptyQueuePassesTime : State.reset.pending = [] := rfl

theorem test_StepKeepsWellFormed : ∃ s t : State, s.wf = true ∧ step s = .next t := ⟨die 1 [], _, by decide +kernel, rfl⟩

theorem test_CommandKeepsOtherParts : ∃ t p, exec .refClkLoss (die 1 []) = .next t ∧ p ∉ touched .refClkLoss :=
  ⟨_, .dram, rfl, by decide +kernel⟩

theorem test_CommandKeepsOtherRegisters : ∃ t, exec .refClkLoss (die 1 []) = .next t ∧ ¬ writes .refClkLoss R.THM_PWR :=
  ⟨_, rfl, by
    rintro ⟨r, h, h'⟩
    have hr : r = .one R.CLK_LOCK ∨ r = .one R.GLB_EVTOVF ∨ r = .any pbaWord ∨ r = .any R.CHN_PERR := by
      simpa [regsOf, eventRegs] using h
    rcases hr with rfl | rfl | rfl | rfl
    · exact absurd (show R.THM_PWR = R.CLK_LOCK from h') (by decide)
    · exact absurd (show R.THM_PWR = R.GLB_EVTOVF from h') (by decide)
    · obtain ⟨k, h'⟩ := h'
      have h2 : R.THM_PWR = 0x38000 + 4 * (k % 64) := h'
      unfold R.THM_PWR at h2
      omega
    · obtain ⟨k, h'⟩ := h'
      have h2 : R.THM_PWR = 0xd0104 + 0x40 * (k % 4) := h'
      unfold R.THM_PWR at h2
      omega⟩

theorem test_FusesOnlyMoveForward : ∃ s t : State, step s = .next t ∧ t.sec.idkey = true ∧ 2 ≤ s.sec.life :=
  ⟨{ die 1 [] with sec := { State.reset.sec with life := 2 } }, _, rfl, by decide +kernel⟩

theorem test_QueueNumbersStay : ∃ s t : State, QueuesOk s ∧ step s = .next t :=
  ⟨{ die 1 [] with queues := [(4095, { qrecReset with waiting := true })] }, _, by decide +kernel, rfl⟩

theorem test_RejectionIsLogged : ∃ s : State, ∃ src off, src < 4 ∧ off < 2 ^ 24 ∧ getF s F.GLB_ERRINFO_VALID = 0 ∧ s.hif.events.length < 64 :=
  ⟨die 1 [], 3, 0xFFFFFC, by decide +kernel⟩

theorem test_RejectionIsLogged_b : ∃ s : State, ∃ src off, src < 4 ∧ off < 2 ^ 24 ∧ getF s F.GLB_ERRINFO_VALID = 0 ∧
    64 ≤ s.hif.events.length :=
  ⟨{ die 1 [] with hif := { State.reset.hif with events := List.replicate 64 ⟨2, 0, []⟩ } }, 3, 0, by decide +kernel⟩

theorem test_RejectionIsLogged_c : ∃ s : State, ∃ src off, src < 4 ∧ off < 2 ^ 24 ∧ getF s F.GLB_ERRINFO_VALID = 1 :=
  ⟨die 1 [(F.GLB_ERRINFO_VALID, 1)], 0, 0, by decide +kernel⟩

theorem test_QueueSettingsNeedDisabled : ∃ q v, ∃ s : State, q < 4096 ∧ dormant s 0x04 = false ∧
    writeCode s (R.QUE_BASELO q) v = .ok ∧ writeCode s (R.QUE_BASEHI q) v = .ok ∧ writeCode s (R.QUE_CFG q) 4#32 = .ok :=
  ⟨4095, 0x1000#32, die 1 [], by decide +kernel⟩

theorem test_QueueSettingsNeedDisabled_b : ∃ q, ∃ s : State, q < 4096 ∧ dormant s 0x04 = false ∧ qState s q ≠ qDisabled :=
  ⟨4095, die 0 [(F.QUE_STAT_STATE 4095, 1)], by decide +kernel⟩

theorem test_CurveAndTrimFormulas : (4095 * 16 + 15 : Nat) < 65536 := by decide

end Sys2Proof.Machine
end

