-- ==== Sys2Proof/Tests/Spk.lean ====
section
/-! SUPPORT. For each statement of this family, states and operands that meet the hypotheses of its clauses. -/

set_option Elab.async false
set_option maxRecDepth 100000

namespace Sys2Proof.Machine

/-- Witness. -/
def witSpk1 : Show := ⟨101, ⟨16666666, 0, 5000000, 4000000, 100000, 1, 0, 100, 1000, false⟩, 5, none, [], ⟨[], 0, 32, 0, 0x190, 0x2D0, 0x410, 16, 0#32, 0, []⟩, 0, 2, false, false, [], false⟩

/-- Witness. -/
def witSpk2 : Emission := ⟨101, 0, false, false, 100, false, 3, 10, 1000, []⟩

/-- Witness. -/
def witSpk3 : Emission := ⟨101, 0, true, false, 100, false, 0, 10, 1000, []⟩

/-- Witness. -/
def witSpk4 : Emission := ⟨101, 0, false, false, 100, false, (scanPasses State.reset * scanD State.reset), 10, 1000, []⟩

theorem test_Spokes :
    (∃ (v : Word) (s : State), WriteOk s R.SPK_CTL (F.SPK_CTL_EN.put v 1) ∧ getF s F.SPK_CTL_EN = 0) ∧
    (∃ (v : Word) (s : State), WriteOk s R.SPK_CTL (F.SPK_CTL_EN.put v 0) ∧ getF s F.SPK_CTL_EN = 1) ∧
    (∃ (dt : Nat) (n : Nat) (s : State), n < 32 ∧ spkOn (advance dt s) = true ∧ spokeState (advance dt s) n = spokeFault ∧ (spoke (advance dt s) n).faultAt + 1000000000 ≤ upNs (advance dt s)) ∧
    (∃ (dt : Nat) (s : State), spkOn (advance dt s) = true ∧ upNs (advance dt s) < (advance dt s).spk.polledAt + 1000000000) ∧
    (∃ (dt : Nat) (s : State), spkOn (advance dt s) = true ∧ (advance dt s).spk.polledAt + 1000000000 ≤ upNs (advance dt s)) :=
  ⟨⟨regFill R.SPK_CTL, { up1 (die 1 [(F.SRF_CTL_EN, 1), (F.SPK_SURF_MAP, 5), (F.SPK_SURF_ICODE, 6), (F.SPK_SPKEN_EN, 2 ^ 31 + 1), (F.SPK_SPKCFG_NDM1 31, 1), (F.SPK_SPKCFG_NDM1 0, 0), (F.SPK_SPKCFG_NCH 31, 4), (F.SPK_SPKCFG_NCH 0, 4)]) with srf := { State.reset.srf with surfs := [⟨5, 3, 400, true, false, none, false⟩, ⟨6, 500, 400, true, false, none, false⟩], segs := [⟨3, 400, .loc 256⟩, ⟨500, 400, .loc 1000⟩] } }, by decide +kernel⟩,
   ⟨regFill R.SPK_CTL, up1 (die 1 [(F.SPK_CTL_EN, 1), (F.SRF_CTL_EN, 1), (F.SPK_SURF_MAP, 5), (F.SPK_SURF_ICODE, 6), (F.SPK_SPKEN_EN, 2 ^ 31 + 1), (F.SPK_SPKCFG_NDM1 31, 1), (F.SPK_SPKCFG_NDM1 0, 0), (F.SPK_SPKCFG_NCH 31, 4), (F.SPK_SPKCFG_NCH 0, 4), (F.SPK_SPKSTAT_STATE 31, spokeRun)]), by decide +kernel⟩,
   ⟨9, 31, { die 1 [(F.SPK_CTL_EN, 1), (F.SRF_CTL_EN, 1), (F.SPK_SURF_MAP, 5), (F.SPK_SURF_ICODE, 6), (F.SPK_SPKEN_EN, 2 ^ 31 + 1), (F.SPK_SPKCFG_NDM1 31, 1), (F.SPK_SPKCFG_NDM1 0, 0), (F.SPK_SPKCFG_NCH 31, 4), (F.SPK_SPKCFG_NCH 0, 4), (F.SPK_SPKSTAT_STATE 31, spokeFault), (F.SPK_SPKSTAT_CODE 31, 5)] with srf := { State.reset.srf with surfs := [⟨5, 3, 400, true, false, none, false⟩, ⟨6, 500, 400, true, false, none, false⟩], segs := [⟨3, 400, .loc 256⟩, ⟨500, 400, .loc 1000⟩] }, up := 10 ^ 9, spk := { State.reset.spk with spokes := [(31, { spokeReset with faultAt := 9 })] } }, by decide +kernel⟩,
   ⟨9, { die 1 [(F.SPK_CTL_EN, 1), (F.SRF_CTL_EN, 1), (F.SPK_SURF_MAP, 5), (F.SPK_SURF_ICODE, 6), (F.SPK_SPKEN_EN, 2 ^ 31 + 1), (F.SPK_SPKCFG_NDM1 31, 1), (F.SPK_SPKCFG_NDM1 0, 0), (F.SPK_SPKCFG_NCH 31, 4), (F.SPK_SPKCFG_NCH 0, 4), (F.SPK_SPKSTAT_STATE 31, spokeRun)] with srf := { State.reset.srf with surfs := [⟨5, 3, 400, true, false, none, false⟩, ⟨6, 500, 400, true, false, none, false⟩], segs := [⟨3, 400, .loc 256⟩, ⟨500, 400, .loc 1000⟩] }, up := 0 }, by decide +kernel⟩,
   ⟨9, { die 1 [(F.SPK_CTL_EN, 1), (F.SRF_CTL_EN, 1), (F.SPK_SURF_MAP, 5), (F.SPK_SURF_ICODE, 6), (F.SPK_SPKEN_EN, 2 ^ 31 + 1), (F.SPK_SPKCFG_NDM1 31, 1), (F.SPK_SPKCFG_NDM1 0, 0), (F.SPK_SPKCFG_NCH 31, 4), (F.SPK_SPKCFG_NCH 0, 4), (F.SPK_SPKSTAT_STATE 31, spokeRun)] with srf := { State.reset.srf with surfs := [⟨5, 3, 400, true, false, none, false⟩, ⟨6, 500, 400, true, false, none, false⟩], segs := [⟨3, 400, .loc 256⟩, ⟨500, 400, .loc 1000⟩] }, up := 1000000000 }, by decide +kernel⟩⟩

theorem test_Spokes_2 :
    (∃ (s : State) (n : Nat) (d : Nat), WriteOk s R.SPK_CTL (F.SPK_CTL_RELOAD.put (s.word R.SPK_CTL) 1) ∧ n < 32 ∧ spokeState s n = spokeRun ∧ d < spokeNd s n) ∧
    (∃ (s : State) (n : Nat) (d : Nat), WriteOk s R.SPK_CTL (F.SPK_CTL_RELOAD.put (s.word R.SPK_CTL) 1) ∧ n < 32 ∧ spokeState s n = spokeRun ∧ d < spokeNd s n) ∧
    (∃ (n : Nat) (p : Nat) (r : Nat) (q : Nat × Nat) (rest : List (Nat × Nat)) (b : Bytes) (s : State), n < 32 ∧ spkOn s = true ∧ (spoke s n).live = true ∧ (spoke s n).reads = (p, r) :: q :: rest ∧ leAt b 8 4 = crc32 (slice b 0 8) ∧ r = 0) ∧
    (∃ (n : Nat) (p : Nat) (r : Nat) (q : Nat × Nat) (rest : List (Nat × Nat)) (b : Bytes) (s : State), n < 32 ∧ spkOn s = true ∧ (spoke s n).live = true ∧ (spoke s n).reads = (p, r) :: q :: rest ∧ leAt b 8 4 = crc32 (slice b 0 8) ∧ r = 6) ∧
    (∃ (dt : Nat) (n : Nat) (p : Nat) (r : Nat) (rest : List (Nat × Nat)) (s : State), n < 32 ∧ spkOn (advance dt s) = true ∧ (spoke (advance dt s) n).live = true ∧ (spoke (advance dt s) n).reads = (p, r) :: rest ∧ (spoke (advance dt s) n).askedAt + 20000 ≤ upNs (advance dt s) ∧ (spoke (advance dt s) n).tries < 2) :=
  ⟨⟨up1 { die 1 [(F.SPK_CTL_EN, 1), (F.SRF_CTL_EN, 1), (F.SPK_SURF_MAP, 5), (F.SPK_SURF_ICODE, 6), (F.SPK_SPKEN_EN, 2 ^ 31 + 1), (F.SPK_SPKCFG_NDM1 31, 1), (F.SPK_SPKCFG_NDM1 0, 0), (F.SPK_SPKCFG_NCH 31, 4), (F.SPK_SPKCFG_NCH 0, 4), (F.SPK_SPKSTAT_STATE 31, spokeRun)] with srf := { State.reset.srf with surfs := [⟨5, 3, 400, true, false, none, false⟩, ⟨6, 500, 400, true, false, none, false⟩], segs := [⟨3, 400, .loc 256⟩, ⟨500, 400, .loc 1000⟩] }, up := 5 }, 31, 1, by decide +kernel⟩,
   ⟨up1 { die 1 [(F.SPK_CTL_EN, 1), (F.SRF_CTL_EN, 1), (F.SPK_SURF_MAP, 5), (F.SPK_SURF_ICODE, 6), (F.SPK_SPKEN_EN, 2 ^ 31 + 1), (F.SPK_SPKCFG_NDM1 31, 1), (F.SPK_SPKCFG_NDM1 0, 0), (F.SPK_SPKCFG_NCH 31, 4), (F.SPK_SPKCFG_NCH 0, 4), (F.SPK_SPKSTAT_STATE 31, spokeRun)] with srf := { State.reset.srf with surfs := [⟨5, 3, 400, true, false, none, false⟩, ⟨6, 500, 400, true, false, none, false⟩], segs := [⟨3, 400, .loc 256⟩, ⟨500, 400, .loc 1000⟩] }, lmp := { State.reset.lmp with shows := [⟨101, ⟨16666666, 0, 5000000, 4000000, 100000, 1, 0, 100, 1000, false⟩, 5, none, [], ⟨[], 0, 32, 0, 0x190, 0x2D0, 0x410, 16, 0#32, 0, []⟩, 0, 2, false, false, [], false⟩] }, up := 5 }, 31, 1, by decide +kernel⟩,
   ⟨31, 1, 0, (2, 0), [(3, 0)], (let b := zeros 4 ++ beBytes 4 0x1234; b ++ leBytes 4 (crc32 b)), { die 1 [(F.SPK_CTL_EN, 1), (F.SRF_CTL_EN, 1), (F.SPK_SURF_MAP, 5), (F.SPK_SURF_ICODE, 6), (F.SPK_SPKEN_EN, 2 ^ 31 + 1), (F.SPK_SPKCFG_NDM1 31, 1), (F.SPK_SPKCFG_NDM1 0, 0), (F.SPK_SPKCFG_NCH 31, 4), (F.SPK_SPKCFG_NCH 0, 4), (F.SPK_SPKSTAT_STATE 31, spokeRun)] with srf := { State.reset.srf with surfs := [⟨5, 3, 400, true, false, none, false⟩, ⟨6, 500, 400, true, false, none, false⟩], segs := [⟨3, 400, .loc 256⟩, ⟨500, 400, .loc 1000⟩] }, spk := { State.reset.spk with spokes := [(31, { spokeReset with reads := [(1, 0), (2, 0), (3, 0)], live := true, tries := 1, found := 1 })] } }, by decide +kernel⟩,
   ⟨31, 1, 6, (2, 6), [(3, 6)], (let b := zeros 4 ++ beBytes 4 0x1234; b ++ leBytes 4 (crc32 b)), { die 1 [(F.SPK_CTL_EN, 1), (F.SRF_CTL_EN, 1), (F.SPK_SURF_MAP, 5), (F.SPK_SURF_ICODE, 6), (F.SPK_SPKEN_EN, 2 ^ 31 + 1), (F.SPK_SPKCFG_NDM1 31, 1), (F.SPK_SPKCFG_NDM1 0, 0), (F.SPK_SPKCFG_NCH 31, 4), (F.SPK_SPKCFG_NCH 0, 4), (F.SPK_SPKSTAT_STATE 31, spokeRun)] with srf := { State.reset.srf with surfs := [⟨5, 3, 400, true, false, none, false⟩, ⟨6, 500, 400, true, false, none, false⟩], segs := [⟨3, 400, .loc 256⟩, ⟨500, 400, .loc 1000⟩] }, spk := { State.reset.spk with spokes := [(31, { spokeReset with reads := [(1, 6), (2, 6), (3, 6)], live := true, tries := 1, found := 1 })] } }, by decide +kernel⟩,
   ⟨20000, 31, 1, 6, ([] : List (Nat × Nat)), { die 1 [(F.SPK_CTL_EN, 1), (F.SRF_CTL_EN, 1), (F.SPK_SURF_MAP, 5), (F.SPK_SURF_ICODE, 6), (F.SPK_SPKEN_EN, 2 ^ 31 + 1), (F.SPK_SPKCFG_NDM1 31, 1), (F.SPK_SPKCFG_NDM1 0, 0), (F.SPK_SPKCFG_NCH 31, 4), (F.SPK_SPKCFG_NCH 0, 4), (F.SPK_SPKSTAT_STATE 31, spokeRun)] with srf := { State.reset.srf with surfs := [⟨5, 3, 400, true, false, none, false⟩, ⟨6, 500, 400, true, false, none, false⟩], segs := [⟨3, 400, .loc 256⟩, ⟨500, 400, .loc 1000⟩] }, spk := { State.reset.spk with spokes := [(31, { spokeReset with reads := [(1, 6)], live := true, tries := 1, found := 1 })] } }, by decide +kernel⟩⟩

theorem test_Spokes_3 :
    (∃ (dt : Nat) (n : Nat) (p : Nat) (r : Nat) (rest : List (Nat × Nat)) (s : State), n < 32 ∧ spkOn (advance dt s) = true ∧ (spoke (advance dt s) n).live = true ∧ (spoke (advance dt s) n).reads = (p, r) :: rest ∧ (spoke (advance dt s) n).askedAt + 20000 ≤ upNs (advance dt s) ∧ (spoke (advance dt s) n).tries < 2) ∧
    (∃ (dt : Nat) (n : Nat) (p : Nat) (r : Nat) (rest : List (Nat × Nat)) (s : State), n < 32 ∧ spkOn (advance dt s) = true ∧ (spoke (advance dt s) n).live = true ∧ (spoke (advance dt s) n).reads = (p, r) :: rest ∧ (spoke (advance dt s) n).askedAt + 20000 ≤ upNs (advance dt s) ∧ 2 ≤ (spoke (advance dt s) n).tries ∧ r = 6) :=
  ⟨⟨20000, 31, 1, 6, ([] : List (Nat × Nat)), { die 1 [(F.SPK_CTL_EN, 1), (F.SRF_CTL_EN, 1), (F.SPK_SURF_MAP, 5), (F.SPK_SURF_ICODE, 6), (F.SPK_SPKEN_EN, 2 ^ 31 + 1), (F.SPK_SPKCFG_NDM1 31, 1), (F.SPK_SPKCFG_NDM1 0, 0), (F.SPK_SPKCFG_NCH 31, 4), (F.SPK_SPKCFG_NCH 0, 4), (F.SPK_SPKSTAT_STATE 31, spokeUp)] with srf := { State.reset.srf with surfs := [⟨5, 3, 400, true, false, none, false⟩, ⟨6, 500, 400, true, false, none, false⟩], segs := [⟨3, 400, .loc 256⟩, ⟨500, 400, .loc 1000⟩] }, spk := { State.reset.spk with spokes := [(31, { spokeReset with reads := [(1, 6)], live := true, tries := 1, found := 1 })] } }, by decide +kernel⟩,
   ⟨20000, 31, 1, 6, ([] : List (Nat × Nat)), { die 1 [(F.SPK_CTL_EN, 1), (F.SRF_CTL_EN, 1), (F.SPK_SURF_MAP, 5), (F.SPK_SURF_ICODE, 6), (F.SPK_SPKEN_EN, 2 ^ 31 + 1), (F.SPK_SPKCFG_NDM1 31, 1), (F.SPK_SPKCFG_NDM1 0, 0), (F.SPK_SPKCFG_NCH 31, 4), (F.SPK_SPKCFG_NCH 0, 4), (F.SPK_SPKSTAT_STATE 31, spokeRun)] with srf := { State.reset.srf with surfs := [⟨5, 3, 400, true, false, none, false⟩, ⟨6, 500, 400, true, false, none, false⟩], segs := [⟨3, 400, .loc 256⟩, ⟨500, 400, .loc 1000⟩] }, spk := { State.reset.spk with spokes := [(31, { spokeReset with reads := [(1, 6)], live := true, tries := 2, found := 1 })] } }, by decide +kernel⟩⟩

theorem test_SlotsOnSpokes :
    (∃ (dt : Nat) (h : Show) (rest : List Show) (s : State), spkOn (advance dt s) = true ∧ (advance dt s).lmp.shows = h :: rest ∧ h.sent = false ∧ slotAt (advance dt s) h h.slot ≤ nowFine (advance dt s) + latchLead (advance dt s) ∧ passedOver (advance dt s) (slotAt (advance dt s) h h.slot) = false) ∧
    (∃ (dt : Nat) (h : Show) (rest : List Show) (s : State), spkOn (advance dt s) = true ∧ (advance dt s).lmp.shows = h :: rest ∧ h.sent = false ∧ slotAt (advance dt s) h h.slot ≤ nowFine (advance dt s) + latchLead (advance dt s) ∧ passedOver (advance dt s) (slotAt (advance dt s) h h.slot) = false) ∧
    (∃ (dt : Nat) (e : Emission) (s : State), spkOn (advance dt s) = true ∧ (advance dt s).spk.emission = some e ∧ e.dark = false ∧ e.lines < scanPasses (advance dt s) * scanD (advance dt s) ∧ upNs (advance dt s) < lineStart (advance dt s) e e.lines) ∧
    (∃ (dt : Nat) (e : Emission) (s : State), spkOn (advance dt s) = true ∧ (advance dt s).spk.emission = some e ∧ e.dark = false ∧ e.lines < scanPasses (advance dt s) * scanD (advance dt s) ∧ lineStart (advance dt s) e e.lines ≤ upNs (advance dt s)) ∧
    (∃ (dt : Nat) (e : Emission) (s : State), spkOn (advance dt s) = true ∧ (advance dt s).spk.emission = some e ∧ ((e.dark = true ∨ (scanPasses (advance dt s) * scanD (advance dt s) ≤ e.lines ∧ lineStart (advance dt s) e e.lines ≤ upNs (advance dt s))))) :=
  ⟨⟨9, witSpk1, ([] : List Show), { die 1 [(F.SPK_CTL_EN, 1), (F.SRF_CTL_EN, 1), (F.SPK_SURF_MAP, 5), (F.SPK_SURF_ICODE, 6), (F.SPK_SPKEN_EN, 2 ^ 31 + 1), (F.SPK_SPKCFG_NDM1 31, 1), (F.SPK_SPKCFG_NDM1 0, 0), (F.SPK_SPKCFG_NCH 31, 4), (F.SPK_SPKCFG_NCH 0, 4), (F.LMP_GEOM_TWM1, 1), (F.LMP_GEOM_THM1, 1)] with srf := { State.reset.srf with surfs := [⟨5, 3, 400, true, false, none, false⟩, ⟨6, 500, 400, true, false, none, false⟩], segs := [⟨3, 400, .loc 256⟩, ⟨500, 400, .loc 1000⟩] }, lmp := { State.reset.lmp with shows := [witSpk1], lampEn := true }, time := 10 ^ 6 * 2 ^ 28 }, by decide +kernel⟩,
   ⟨9, witSpk1, ([] : List Show), { die 1 [(F.SPK_CTL_EN, 1), (F.SRF_CTL_EN, 1), (F.SPK_SURF_MAP, 5), (F.SPK_SURF_ICODE, 6), (F.SPK_SPKEN_EN, 2 ^ 31 + 1), (F.SPK_SPKCFG_NDM1 31, 1), (F.SPK_SPKCFG_NDM1 0, 0), (F.SPK_SPKCFG_NCH 31, 4), (F.SPK_SPKCFG_NCH 0, 4), (F.LMP_GEOM_TWM1, 1), (F.LMP_GEOM_THM1, 1)] with srf := { State.reset.srf with surfs := [⟨5, 3, 400, true, false, none, false⟩, ⟨6, 500, 400, true, false, none, false⟩], segs := [⟨3, 400, .loc 256⟩, ⟨500, 400, .loc 1000⟩] }, lmp := { State.reset.lmp with shows := [witSpk1], lampEn := true }, time := 10 ^ 6 * 2 ^ 28 }, by decide +kernel⟩,
   ⟨9, witSpk2, { die 1 [(F.SPK_CTL_EN, 1), (F.SRF_CTL_EN, 1), (F.SPK_SURF_MAP, 5), (F.SPK_SURF_ICODE, 6), (F.SPK_SPKEN_EN, 2 ^ 31 + 1), (F.SPK_SPKCFG_NDM1 31, 1), (F.SPK_SPKCFG_NDM1 0, 0), (F.SPK_SPKCFG_NCH 31, 4), (F.SPK_SPKCFG_NCH 0, 4), (F.SPK_SCAN0_GRPEN, 5), (F.SPK_SCAN1_DIS, 3)] with srf := { State.reset.srf with surfs := [⟨5, 3, 400, true, false, none, false⟩, ⟨6, 500, 400, true, false, none, false⟩], segs := [⟨3, 400, .loc 256⟩, ⟨500, 400, .loc 1000⟩] }, up := 990, spk := { State.reset.spk with emission := some witSpk2 } }, by decide +kernel⟩,
   ⟨9, witSpk2, { die 1 [(F.SPK_CTL_EN, 1), (F.SRF_CTL_EN, 1), (F.SPK_SURF_MAP, 5), (F.SPK_SURF_ICODE, 6), (F.SPK_SPKEN_EN, 2 ^ 31 + 1), (F.SPK_SPKCFG_NDM1 31, 1), (F.SPK_SPKCFG_NDM1 0, 0), (F.SPK_SPKCFG_NCH 31, 4), (F.SPK_SPKCFG_NCH 0, 4), (F.SPK_SCAN0_GRPEN, 5), (F.SPK_SCAN1_DIS, 3)] with srf := { State.reset.srf with surfs := [⟨5, 3, 400, true, false, none, false⟩, ⟨6, 500, 400, true, false, none, false⟩], segs := [⟨3, 400, .loc 256⟩, ⟨500, 400, .loc 1000⟩] }, up := 1000000, spk := { State.reset.spk with emission := some witSpk2 } }, by decide +kernel⟩,
   ⟨9, witSpk3, { die 1 [(F.SPK_CTL_EN, 1), (F.SRF_CTL_EN, 1), (F.SPK_SURF_MAP, 5), (F.SPK_SURF_ICODE, 6), (F.SPK_SPKEN_EN, 2 ^ 31 + 1), (F.SPK_SPKCFG_NDM1 31, 1), (F.SPK_SPKCFG_NDM1 0, 0), (F.SPK_SPKCFG_NCH 31, 4), (F.SPK_SPKCFG_NCH 0, 4)] with srf := { State.reset.srf with surfs := [⟨5, 3, 400, true, false, none, false⟩, ⟨6, 500, 400, true, false, none, false⟩], segs := [⟨3, 400, .loc 256⟩, ⟨500, 400, .loc 1000⟩] }, spk := { State.reset.spk with emission := some witSpk3 } }, by decide +kernel⟩⟩

theorem test_SlotsOnSpokes_2 :
    (∃ (dt : Nat) (e : Emission) (s : State), spkOn (advance dt s) = true ∧ (advance dt s).spk.emission = some e ∧ ((e.dark = true ∨ (scanPasses (advance dt s) * scanD (advance dt s) ≤ e.lines ∧ lineStart (advance dt s) e e.lines ≤ upNs (advance dt s)))) ∧ e.dark = false) ∧
    (∃ (n : Nat) (d : Nat) (b : Bytes) (frame : Nat) (todo : List (Nat × Nat)) (rest : List (Nat × Nat)) (s : State), n < 32 ∧ spkOn s = true ∧ s.spk.det = some (frame, todo) ∧ todo.contains (n, d) = true ∧ (spoke s n).live = true ∧ (spoke s n).reads = (d, 8) :: rest ∧ leAt b 8 4 = crc32 (slice b 0 8) ∧ (beAt b 4 4).testBit 23 = false) ∧
    (∃ (n : Nat) (d : Nat) (b : Bytes) (frame : Nat) (todo : List (Nat × Nat)) (rest : List (Nat × Nat)) (s : State), n < 32 ∧ spkOn s = true ∧ s.spk.det = some (frame, todo) ∧ todo.contains (n, d) = true ∧ (spoke s n).live = true ∧ (spoke s n).reads = (d, 8) :: rest ∧ leAt b 8 4 = crc32 (slice b 0 8) ∧ (beAt b 4 4).testBit 23 = true ∧ bits (beAt b 4 4) 16 7 < scanD s) ∧
    (∃ (n : Nat) (d : Nat) (reg : Nat) (l : Nat) (b : Bytes) (frame : Nat) (todo : List (Nat × Nat)) (rest : List (Nat × Nat)) (s : State), n < 32 ∧ spkOn s = true ∧ s.spk.det = some (frame, todo) ∧ todo.contains (n, d) = true ∧ ((reg = 0x20 ∨ reg = 0x22 ∨ reg = 0x24)) ∧ (spoke s n).live = true ∧ (spoke s n).reads = (d, reg + 256 * l) :: rest ∧ leAt b 12 4 = crc32 (slice b 0 12)) ∧
    (∃ (n : Nat) (d : Nat) (reg : Nat) (l : Nat) (b : Bytes) (frame : Nat) (todo : List (Nat × Nat)) (rest : List (Nat × Nat)) (s : State), n < 32 ∧ spkOn s = true ∧ s.spk.det = some (frame, todo) ∧ todo.contains (n, d) = true ∧ ((reg = 0x20 ∨ reg = 0x22 ∨ reg = 0x24)) ∧ (spoke s n).live = true ∧ (spoke s n).reads = (d, reg + 256 * l) :: rest ∧ leAt b 12 4 = crc32 (slice b 0 12)) :=
  ⟨⟨9, witSpk4, { die 1 [(F.SPK_CTL_EN, 1), (F.SRF_CTL_EN, 1), (F.SPK_SURF_MAP, 5), (F.SPK_SURF_ICODE, 6), (F.SPK_SPKEN_EN, 2 ^ 31 + 1), (F.SPK_SPKCFG_NDM1 31, 1), (F.SPK_SPKCFG_NDM1 0, 0), (F.SPK_SPKCFG_NCH 31, 4), (F.SPK_SPKCFG_NCH 0, 4), (F.SPK_SCAN0_GRPEN, 5), (F.SPK_SCAN1_DIS, 3)] with srf := { State.reset.srf with surfs := [⟨5, 3, 400, true, false, none, false⟩, ⟨6, 500, 400, true, false, none, false⟩], segs := [⟨3, 400, .loc 256⟩, ⟨500, 400, .loc 1000⟩] }, up := 10 ^ 9, spk := { State.reset.spk with emission := some witSpk4, scan := [(5, true, false), (0, false, false), (7, true, false), (0, false, false)] } }, by decide +kernel⟩,
   ⟨31, 1, (let b := zeros 4 ++ beBytes 4 (0); b ++ leBytes 4 (crc32 b)), 5, [(0, 0), (31, 1)], [(1, 6)], { die 1 [(F.SPK_CTL_EN, 1), (F.SRF_CTL_EN, 1), (F.SPK_SURF_MAP, 5), (F.SPK_SURF_ICODE, 6), (F.SPK_SPKEN_EN, 2 ^ 31 + 1), (F.SPK_SPKCFG_NDM1 31, 1), (F.SPK_SPKCFG_NDM1 0, 0), (F.SPK_SPKCFG_NCH 31, 4), (F.SPK_SPKCFG_NCH 0, 4), (F.SPK_SPKSTAT_STATE 31, spokeRun)] with srf := { State.reset.srf with surfs := [⟨5, 3, 400, true, false, none, false⟩, ⟨6, 500, 400, true, false, none, false⟩], segs := [⟨3, 400, .loc 256⟩, ⟨500, 400, .loc 1000⟩] }, spk := { State.reset.spk with det := some (5, [(0, 0), (31, 1)]), seen := [⟨7, 1, 4, true, false⟩], spokes := [(31, { spokeReset with reads := [(1, 8), (1, 6)], live := true })] } }, by decide +kernel⟩,
   ⟨31, 1, (let b := zeros 4 ++ beBytes 4 (2 ^ 23 + 2 ^ 16); b ++ leBytes 4 (crc32 b)), 5, [(0, 0), (31, 1)], [(1, 6)], { die 1 [(F.SPK_CTL_EN, 1), (F.SRF_CTL_EN, 1), (F.SPK_SURF_MAP, 5), (F.SPK_SURF_ICODE, 6), (F.SPK_SPKEN_EN, 2 ^ 31 + 1), (F.SPK_SPKCFG_NDM1 31, 1), (F.SPK_SPKCFG_NDM1 0, 0), (F.SPK_SPKCFG_NCH 31, 4), (F.SPK_SPKCFG_NCH 0, 4), (F.SPK_SPKSTAT_STATE 31, spokeRun)] with srf := { State.reset.srf with surfs := [⟨5, 3, 400, true, false, none, false⟩, ⟨6, 500, 400, true, false, none, false⟩], segs := [⟨3, 400, .loc 256⟩, ⟨500, 400, .loc 1000⟩] }, spk := { State.reset.spk with det := some (5, [(0, 0), (31, 1)]), seen := [⟨7, 1, 4, true, false⟩], spokes := [(31, { spokeReset with reads := [(1, 8), (1, 6)], live := true })] } }, by decide +kernel⟩,
   ⟨31, 1, 0x20, 0, (let b := zeros 4 ++ beBytes 4 (3) ++ beBytes 4 (0); b ++ leBytes 4 (crc32 b)), 5, [(0, 0), (31, 1)], [(1, 6)], { die 1 [(F.SPK_CTL_EN, 1), (F.SRF_CTL_EN, 1), (F.SPK_SURF_MAP, 5), (F.SPK_SURF_ICODE, 6), (F.SPK_SPKEN_EN, 2 ^ 31 + 1), (F.SPK_SPKCFG_NDM1 31, 1), (F.SPK_SPKCFG_NDM1 0, 0), (F.SPK_SPKCFG_NCH 31, 4), (F.SPK_SPKCFG_NCH 0, 4), (F.SPK_SPKSTAT_STATE 31, spokeRun)] with srf := { State.reset.srf with surfs := [⟨5, 3, 400, true, false, none, false⟩, ⟨6, 500, 400, true, false, none, false⟩], segs := [⟨3, 400, .loc 256⟩, ⟨500, 400, .loc 1000⟩] }, spk := { State.reset.spk with det := some (5, [(0, 0), (31, 1)]), seen := [⟨7, 1, 4, true, false⟩], spokes := [(31, { spokeReset with reads := [(1, 0x20 + 256 * 0), (1, 6)], live := true })] } }, by decide +kernel⟩,
   ⟨31, 1, 0x24, (scanD State.reset - 1), (let b := zeros 4 ++ beBytes 4 (3) ++ beBytes 4 (0); b ++ leBytes 4 (crc32 b)), 5, [(0, 0), (31, 1)], [(1, 6)], { die 1 [(F.SPK_CTL_EN, 1), (F.SRF_CTL_EN, 1), (F.SPK_SURF_MAP, 5), (F.SPK_SURF_ICODE, 6), (F.SPK_SPKEN_EN, 2 ^ 31 + 1), (F.SPK_SPKCFG_NDM1 31, 1), (F.SPK_SPKCFG_NDM1 0, 0), (F.SPK_SPKCFG_NCH 31, 4), (F.SPK_SPKCFG_NCH 0, 4), (F.SPK_SPKSTAT_STATE 31, spokeRun)] with srf := { State.reset.srf with surfs := [⟨5, 3, 400, true, false, none, false⟩, ⟨6, 500, 400, true, false, none, false⟩], segs := [⟨3, 400, .loc 256⟩, ⟨500, 400, .loc 1000⟩] }, spk := { State.reset.spk with det := some (5, [(0, 0), (31, 1)]), seen := [⟨7, 1, 4, true, false⟩], spokes := [(31, { spokeReset with reads := [(1, 0x24 + 256 * (scanD State.reset - 1)), (1, 6)], live := true })] } }, by decide +kernel⟩⟩

theorem test_SlotsOnSpokes_3 :
    (∃ (n : Nat) (d : Nat) (reg : Nat) (l : Nat) (b : Bytes) (frame : Nat) (todo : List (Nat × Nat)) (rest : List (Nat × Nat)) (s : State), n < 32 ∧ spkOn s = true ∧ s.spk.det = some (frame, todo) ∧ todo.contains (n, d) = true ∧ ((reg = 0x20 ∨ reg = 0x22 ∨ reg = 0x24)) ∧ (spoke s n).live = true ∧ (spoke s n).reads = (d, reg + 256 * l) :: rest ∧ leAt b 12 4 = crc32 (slice b 0 12)) ∧
    (∃ (s : State), WriteOk s R.SPK_FDCTL (F.SPK_FDCTL_CLEAR.put 0#32 1)) ∧
    (∃ (mask : Nat) (s : State), mask < 2 ^ 32 ∧ WriteOk s R.SPK_RBSPK (F.SPK_RBSPK_SPK.put 0#32 mask)) :=
  ⟨⟨31, 1, 0x24, 0, (let b := zeros 4 ++ beBytes 4 (3) ++ beBytes 4 (0); b ++ leBytes 4 (crc32 b)), 5, [(0, 0), (31, 1)], [(1, 6)], { die 1 [(F.SPK_CTL_EN, 1), (F.SRF_CTL_EN, 1), (F.SPK_SURF_MAP, 5), (F.SPK_SURF_ICODE, 6), (F.SPK_SPKEN_EN, 2 ^ 31 + 1), (F.SPK_SPKCFG_NDM1 31, 1), (F.SPK_SPKCFG_NDM1 0, 0), (F.SPK_SPKCFG_NCH 31, 4), (F.SPK_SPKCFG_NCH 0, 4), (F.SPK_SPKSTAT_STATE 31, spokeRun)] with srf := { State.reset.srf with surfs := [⟨5, 3, 400, true, false, none, false⟩, ⟨6, 500, 400, true, false, none, false⟩], segs := [⟨3, 400, .loc 256⟩, ⟨500, 400, .loc 1000⟩] }, spk := { State.reset.spk with det := some (5, [(0, 0), (31, 1)]), seen := [⟨7, 1, 4, true, false⟩], spokes := [(31, { spokeReset with reads := [(1, 0x24 + 256 * 0), (1, 6)], live := true })] } }, by decide +kernel⟩,
   ⟨{ up1 (die 1 [(F.SPK_FLCNT_OVF, 1)]) with spk := { State.reset.spk with faults := [3], masked := [3], seen := [⟨3, 1, 4, true, false⟩] } }, by decide +kernel⟩,
   ⟨2 ^ 31 + 1, up1 (die 1 [(F.SPK_RBSPK_SPK, 0x80000002)]), by decide +kernel⟩⟩

end Sys2Proof.Machine
end

