-- ==== Sys2Proof/Tests/Srf.lean ====
section
/-! SUPPORT. For each statement of this family, states and operands that meet the hypotheses of its clauses. -/

set_option Elab.async false
set_option maxRecDepth 100000

namespace Sys2Proof.Machine

/-- Witness. -/
def witSrf1 : Item := itemOf [(0, 1, 0x20), (1, 1, 1), (8, 8, 0x30000), (16, 8, 0x20000)]

/-- Witness. -/
def witSrf2 : State := core0 (die 0 [(F.SRF_CTL_EN, 1), (F.SRF_POOLBASE_BASE, 16), (F.SRF_POOLLEN_LEN, 256), (F.SRF_TBLLEN_LEN, 66), (F.SRF_PFCFG_CACHE16, 1)]) witSrf1

/-- Witness. -/
def witSrf3 : State := coreRelease witSrf2 0

/-- Witness. -/
def witSrf4 : Item := itemOf [(0, 1, 0x20), (8, 8, 0x30000), (16, 8, 0x20000)]

/-- Witness. -/
def witSrf5 : State := core0 (die 0 [(F.SRF_CTL_EN, 1), (F.SRF_POOLBASE_BASE, 16), (F.SRF_POOLLEN_LEN, 256), (F.SRF_TBLLEN_LEN, 66), (F.SRF_PFCFG_CACHE16, 1)]) witSrf4

/-- Witness. -/
def witSrf6 : State := coreRelease witSrf5 0

/-- Witness. -/
def witSrf7 : Item := itemOf [(0, 1, 0x21), (1, 1, 2), (2, 2, 5), (8, 8, 0x30000), (16, 8, 0x20000), (24, 8, 0x123456000)]

/-- Witness. -/
def witSrf8 : State := core0 { die 0 [(F.SRF_CTL_EN, 1), (F.SRF_POOLBASE_BASE, 16), (F.SRF_POOLLEN_LEN, 256), (F.SRF_TBLLEN_LEN, 66), (F.SRF_PFCFG_CACHE16, 1), (F.HIF_LINKSTAT_UP, 1), (F.HIF_LINKSTAT_BME, 1)] with srf := { srfReset with surfs := [⟨5, 3, 4, true, false, none, false⟩], segs := [⟨3, 4, .hole⟩] } } witSrf7

/-- Witness. -/
def witSrf9 : State := coreRelease witSrf8 0

/-- Witness. -/
def witSrf10 : Item := itemOf [(0, 1, 0x22), (2, 2, 5)]

/-- Witness. -/
def witSrf11 : State := core0 { die 0 [(F.SRF_CTL_EN, 1), (F.SRF_POOLBASE_BASE, 16), (F.SRF_POOLLEN_LEN, 256), (F.SRF_TBLLEN_LEN, 66), (F.SRF_PFCFG_CACHE16, 1)] with srf := { srfReset with surfs := [⟨5, 3, 4, true, false, none, false⟩], segs := [⟨3, 4, .hole⟩] } } witSrf10

/-- Witness. -/
def witSrf12 : State := coreRelease witSrf11 0

/-- Witness. -/
def witSrf13 : Item := itemOf [(0, 1, 0x22), (2, 2, 5)]

/-- Witness. -/
def witSrf14 : State := core0 { die 0 [(F.SRF_CTL_EN, 1), (F.SRF_POOLBASE_BASE, 16), (F.SRF_POOLLEN_LEN, 256), (F.SRF_TBLLEN_LEN, 66), (F.SRF_PFCFG_CACHE16, 1)] with srf := { srfReset with surfs := [⟨5, 3, 4, true, false, some 7, false⟩], segs := [⟨3, 4, .hole⟩], frames := [⟨7, true⟩] } } witSrf13

/-- Witness. -/
def witSrf15 : State := coreRelease witSrf14 0

/-- Witness. -/
def witSrf16 : Item := itemOf [(0, 1, 0x23), (2, 2, 5), (8, 8, 0x30000), (16, 8, 0x20000)]

/-- Witness. -/
def witSrf17 : State := core0 { die 0 [(F.SRF_CTL_EN, 1), (F.SRF_POOLBASE_BASE, 16), (F.SRF_POOLLEN_LEN, 256), (F.SRF_TBLLEN_LEN, 66), (F.SRF_PFCFG_CACHE16, 1)] with srf := { srfReset with surfs := [⟨5, 3, 4, true, false, none, false⟩], segs := [⟨3, 4, .host 0⟩], copies := [⟨3, 256, 0, none⟩], frames := [⟨7, true⟩] } } witSrf16

/-- Witness. -/
def witSrf18 : State := coreRelease witSrf17 0

theorem test_SurfaceOperations :
    (∃ (it : Item) (x : State) (s : State), QueuesOk s ∧ SrfTakes s 0x20 it x ∧ srfSparse it.entry = true) ∧
    (∃ (it : Item) (x : State) (s : State), QueuesOk s ∧ SrfTakes s 0x20 it x ∧ srfSparse it.entry = false) ∧
    (∃ (it : Item) (x : State) (s : State), QueuesOk s ∧ SrfTakes s 0x21 it x ∧ srfKind it.entry = 1) ∧
    (∃ (it : Item) (x : State) (y : Surf) (s : State), QueuesOk s ∧ SrfTakes s 0x22 it x ∧ x.srf.surfs.find? (fun u => u.handle == srfHandle it.entry) = some y ∧ freeWaits x y = false) ∧
    (∃ (it : Item) (x : State) (y : Surf) (s : State), QueuesOk s ∧ SrfTakes s 0x22 it x ∧ x.srf.surfs.find? (fun u => u.handle == srfHandle it.entry) = some y ∧ freeWaits x y = true) :=
  ⟨⟨witSrf1, witSrf3, witSrf2, by decide +kernel⟩,
   ⟨witSrf4, witSrf6, witSrf5, by decide +kernel⟩,
   ⟨witSrf7, witSrf9, witSrf8, by decide +kernel⟩,
   ⟨witSrf10, witSrf12, (⟨5, 3, 4, true, false, none, false⟩ : Surf), witSrf11, by decide +kernel⟩,
   ⟨witSrf13, witSrf15, (⟨5, 3, 4, true, false, some 7, false⟩ : Surf), witSrf14, by decide +kernel⟩⟩

theorem test_SurfaceOperations_2 :
    (∃ (it : Item) (x : State) (s : State), QueuesOk s ∧ SrfTakes s 0x23 it x) ∧
    (∃ (s : State), WriteOk s R.SRF_CTL (F.SRF_CTL_EN.put 0#32 1) ∧ getF s F.SRF_CTL_EN = 0) ∧
    (∃ (s : State), QueuesOk s ∧ blkOn s 0x0A = true ∧ s.srf.initBusy = true) :=
  ⟨⟨witSrf16, witSrf18, witSrf17, by decide +kernel⟩,
   ⟨up1 (die 0 [(F.SRF_POOLLEN_LEN, 128), (F.SRF_TBLLEN_LEN, 64), (F.DRC_CAP_PAGES, 128)]), by decide +kernel⟩,
   ⟨{ die 0 [(F.SRF_CTL_EN, 1), (F.SRF_POOLBASE_BASE, 16), (F.SRF_POOLLEN_LEN, 256), (F.SRF_TBLLEN_LEN, 66), (F.SRF_PFCFG_CACHE16, 1)] with srf := { srfReset with initBusy := true } }, by decide +kernel⟩⟩

theorem test_FramesAndPrefetch :
    (∃ (f : FrameRef) (l : List FrameRef) (s : State), QueuesOk s ∧ blkOn s 0x0A = true ∧ s.srf.frames = f :: l ∧ f.running = true) ∧
    (∃ (d : Need) (a : Nat) (p : Nat) (s : State), srfOn s = true ∧ upOpen s = true ∧ (needsSorted s).find? (needsRead s) = some d ∧ pageMapFor s d.frame d.vp = some (.host a) ∧ walkBad s d.vp = false ∧ cacheFree s = some p ∧ tagFree s (.read (.page d.vp) a 65536) = true) ∧
    (∃ (vp : Nat) (f : Fetch) (s : State), blkOn s 0x0A = true ∧ s.srf.fetching.find? (fun f => f.vp == vp) = some f ∧ f.only ≠ some []) ∧
    (∃ (vp : Nat) (f : Fetch) (s : State), blkOn s 0x0A = true ∧ s.srf.fetching.find? (fun f => f.vp == vp) = some f) ∧
    (∃ (dt : Nat) (d : Need) (s : State), blkOn (advance dt s) 0x0A = true ∧ latePage (advance dt s) = some d ∧ (advance dt s).cmp.raster = none) :=
  ⟨⟨(⟨7, true⟩ : FrameRef), ([⟨8, true⟩] : List FrameRef), { die 0 [(F.SRF_CTL_EN, 1), (F.SRF_POOLBASE_BASE, 16), (F.SRF_POOLLEN_LEN, 256), (F.SRF_TBLLEN_LEN, 66), (F.SRF_PFCFG_CACHE16, 1)] with srf := { srfReset with frames := [⟨7, true⟩, ⟨8, true⟩] } }, by decide +kernel⟩,
   ⟨(⟨7, 4, 0, 0, 0⟩ : Need), 0x10000, 256, { die 0 [(F.SRF_CTL_EN, 1), (F.SRF_POOLBASE_BASE, 16), (F.SRF_POOLLEN_LEN, 256), (F.SRF_TBLLEN_LEN, 66), (F.SRF_PFCFG_CACHE16, 1), (F.HIF_LINKSTAT_UP, 1), (F.HIF_LINKSTAT_BME, 1)] with srf := { srfReset with segs := [⟨3, 4, .host 0⟩], needs := [⟨7, 4, 0, 0, 0⟩], frames := [⟨7, true⟩] } }, by decide +kernel⟩,
   ⟨4, (⟨4, 256, 7, none⟩ : Fetch), { die 0 [(F.SRF_CTL_EN, 1), (F.SRF_POOLBASE_BASE, 16), (F.SRF_POOLLEN_LEN, 256), (F.SRF_TBLLEN_LEN, 66), (F.SRF_PFCFG_CACHE16, 1)] with srf := { srfReset with fetching := [⟨4, 256, 7, none⟩] } }, by decide +kernel⟩,
   ⟨4, (⟨4, 256, 7, none⟩ : Fetch), { die 0 [(F.SRF_CTL_EN, 1), (F.SRF_POOLBASE_BASE, 16), (F.SRF_POOLLEN_LEN, 256), (F.SRF_TBLLEN_LEN, 66), (F.SRF_PFCFG_CACHE16, 1)] with srf := { srfReset with fetching := [⟨4, 256, 7, none⟩] } }, by decide +kernel⟩,
   ⟨0, (⟨7, 4, 0, 0, 0⟩ : Need), { die 0 [(F.SRF_CTL_EN, 1), (F.SRF_POOLBASE_BASE, 16), (F.SRF_POOLLEN_LEN, 256), (F.SRF_TBLLEN_LEN, 66), (F.SRF_PFCFG_CACHE16, 1)] with srf := { srfReset with segs := [⟨3, 4, .host 0⟩], needs := [⟨7, 4, 0, 0, 0⟩], frames := [⟨7, true⟩] } }, by decide +kernel⟩⟩

end Sys2Proof.Machine
end

