-- ==== Sys2Proof/Tests/Tan.lean ====
section
/-! SUPPORT. For each statement of this family, states and operands that meet the hypotheses of its clauses. -/

set_option Elab.async false
set_option maxRecDepth 100000

namespace Sys2Proof.Machine

/-- A beacon with this claim and these flags. -/
def beaconOf (claim flags : Nat) : Bytes := mkCell 0xFFFE 6 false (beBytes 4 claim ++ zeros 12 ++ [byte flags, 5#8])

/-- Witness. -/
def witTan1 : RxCell := ⟨1, beaconOf (2 ^ 32 - 2) 2, 99⟩

/-- Witness. -/
def witTan2 : State := { die 1 [] with chn := { State.reset.chn with rx := [witTan1] } }

/-- Witness. -/
def witTan3 : RxCell := ⟨1, beaconOf 1 0, 99⟩

/-- Witness. -/
def witTan4 : State := { die 1 [(F.TAN_TSTAT_LIVE1, 1)] with chn := { State.reset.chn with rx := [witTan3] } }

/-- Witness. -/
def witTan5 : RxCell := ⟨3, beaconOf 0x301 3, 99⟩

/-- Witness. -/
def witTan6 : State := { die 0 [(F.TAN_STAT_STATE, tanActive), (F.TAN_CLAIM_EPOCH, 2)] with chn := { State.reset.chn with rx := [witTan5] } }

/-- Witness. -/
def witTan7 : RxCell := ⟨3, beaconOf 0x302 3, 99⟩

/-- Witness. -/
def witTan8 : State := { die 0 [(F.TAN_STAT_STATE, tanActive), (F.TAN_CLAIM_EPOCH, 2)] with chn := { State.reset.chn with rx := [witTan7] } }

/-- Witness. -/
def witTan9 : Item := itemOf [(0, 1, 0x48), (1, 1, 15), (2, 2, 5), (4, 4, 64), (8, 8, 64)]

/-- Witness. -/
def witTan10 : State := core0 { die 0 [(F.SRF_CTL_EN, 1), (F.SRF_POOLBASE_BASE, 16), (F.SRF_POOLLEN_LEN, 256), (F.SRF_TBLLEN_LEN, 66), (F.SRF_PFCFG_CACHE16, 1), (F.TAN_STAT_STATE, tanActive), (F.LNK_PSTAT_STATE 3, pUp), (F.TAN_SNAPSEEN_GEN, 2 ^ 32 - 1)] with srf := { State.reset.srf with surfs := [⟨5, 3, 4, true, false, none, false⟩], segs := [⟨3, 4, .loc 256⟩] } } witTan9

/-- Witness. -/
def witTan11 : State := coreRelease witTan10 0

/-- Witness. -/
def witTan12 : Bytes := match (areaFetch witTan11 (leAt witTan9.entry 2 2) (leAt witTan9.entry 8 8) (leAt witTan9.entry 4 4) .busError).1 with | .ok b => b | _ => []

/-- Witness. -/
def witTan13 : State := (areaFetch witTan11 (leAt witTan9.entry 2 2) (leAt witTan9.entry 8 8) (leAt witTan9.entry 4 4) .busError).2

/-- Witness. -/
def witTan14 : Letter := ⟨0, 0xFFFE, false, 2, 1, 12, 16, (beBytes 4 3 ++ beBytes 2 0 ++ beBytes 2 1 ++ beBytes 4 65536 ++ zeros 4 ++ [9#8]), none, 3, 0⟩

/-- Witness. -/
def witTan15 : State := { die 0 [(F.SRF_CTL_EN, 1), (F.SRF_POOLBASE_BASE, 16), (F.SRF_POOLLEN_LEN, 256), (F.SRF_TBLLEN_LEN, 66), (F.SRF_PFCFG_CACHE16, 1), (F.TAN_SNAPCFG_HANDLE, 5)] with srf := { State.reset.srf with surfs := [⟨5, 3, 4, true, false, none, false⟩], segs := [⟨3, 4, .loc 256⟩] }, chn := { State.reset.chn with letters := [witTan14] } }

/-- Witness. -/
def witTan16 : Letter := ⟨0, 0xFFFE, false, 2, 1, 12, 16, (beBytes 4 3 ++ beBytes 2 0 ++ beBytes 2 1 ++ beBytes 4 65536 ++ zeros 4 ++ [9#8]), none, 3, 0⟩

/-- Witness. -/
def witTan17 : State := { die 0 [(F.SRF_CTL_EN, 1), (F.SRF_POOLBASE_BASE, 16), (F.SRF_POOLLEN_LEN, 256), (F.SRF_TBLLEN_LEN, 66), (F.SRF_PFCFG_CACHE16, 1), (F.TAN_SNAPCFG_HANDLE, 5), (F.TAN_SNAPCFG_RXEN, 1), (F.TAN_SNAPGEN_GEN, 2)] with srf := { State.reset.srf with surfs := [⟨5, 3, 4, true, false, none, false⟩], segs := [⟨3, 4, .loc 256⟩] }, chn := { State.reset.chn with letters := [witTan16] } }

/-- Witness. -/
def witTan18 : Letter := ⟨0, 0xFFFE, false, 2, 1, 13, 16, (beBytes 4 3 ++ beBytes 2 1 ++ zeros 2 ++ beBytes 4 65536 ++ zeros 4 ++ zeros 64), none, 3, 0⟩

/-- Witness. -/
def witTan19 : State := { die 0 [(F.SRF_CTL_EN, 1), (F.SRF_POOLBASE_BASE, 16), (F.SRF_POOLLEN_LEN, 256), (F.SRF_TBLLEN_LEN, 66), (F.SRF_PFCFG_CACHE16, 1), (F.TAN_SNAPCFG_HANDLE, 5)] with srf := { State.reset.srf with surfs := [⟨5, 3, 4, true, false, none, false⟩], segs := [⟨3, 4, .loc 256⟩] }, chn := { State.reset.chn with letters := [witTan18] } }

/-- Witness. -/
def witTan20 : Letter := ⟨0, 0xFFFE, false, 2, 1, 13, 16, (beBytes 4 3 ++ beBytes 2 1 ++ zeros 2 ++ beBytes 4 65536 ++ zeros 4 ++ zeros 64), none, 3, 0⟩

/-- Witness. -/
def witTan21 : State := { die 0 [(F.SRF_CTL_EN, 1), (F.SRF_POOLBASE_BASE, 16), (F.SRF_POOLLEN_LEN, 256), (F.SRF_TBLLEN_LEN, 66), (F.SRF_PFCFG_CACHE16, 1), (F.TAN_SNAPCFG_HANDLE, 5), (F.TAN_SNAPCFG_RXEN, 1), (F.TAN_SNAPGEN_GEN, 2)] with srf := { State.reset.srf with surfs := [⟨5, 3, 4, true, false, none, false⟩], segs := [⟨3, 4, .loc 256⟩] }, chn := { State.reset.chn with letters := [witTan20] } }

theorem test_TandemClaims :
    (∃ (y : RxCell) (x : State) (s : State), blkOn s 0x10 = true ∧ isTile s = true ∧ takeRx s (fun c => cellKind c == 6) = some (y, x) ∧ beaconOk y.cell = true ∧ y.port < 2 ∧ bcRunning y.cell = true) ∧
    (∃ (y : RxCell) (x : State) (s : State), blkOn s 0x10 = true ∧ isTile s = true ∧ takeRx s (fun c => cellKind c == 6) = some (y, x) ∧ beaconOk y.cell = true ∧ y.port < 2) ∧
    (∃ (dt : Nat) (p : Nat) (s : State), p < 2 ∧ blkOn (advance dt s) 0x10 = true ∧ isTile (advance dt s) = true ∧ tget 0 (advance dt s).tan.seen p + 300000 ≤ upNs (advance dt s)) ∧
    (∃ (y : RxCell) (x : State) (s : State), QueuesOk s ∧ blkOn s 0x10 = true ∧ isSender s = true ∧ takeRx s (fun c => cellKind c == 6) = some (y, x) ∧ beaconOk y.cell = true ∧ claimRank (bcClaim y.cell) = getF s F.TAN_CFG_RANK) ∧
    (∃ (y : RxCell) (x : State) (s : State), QueuesOk s ∧ blkOn s 0x10 = true ∧ isSender s = true ∧ takeRx s (fun c => cellKind c == 6) = some (y, x) ∧ beaconOk y.cell = true ∧ claimRank (bcClaim y.cell) ≠ getF s F.TAN_CFG_RANK) :=
  ⟨⟨witTan1, { witTan2 with chn := { witTan2.chn with rx := [] } }, witTan2, by decide +kernel, by decide +kernel, takeRx_of (by decide +kernel), by decide +kernel⟩,
   ⟨witTan3, { witTan4 with chn := { witTan4.chn with rx := [] } }, witTan4, by decide +kernel, by decide +kernel, takeRx_of (by decide +kernel), by decide +kernel⟩,
   ⟨300000, 1, { die 1 [(F.TAN_TSTAT_LIVE1, 1)] with tan := { State.reset.tan with seen := [(1, 0)] } }, by decide +kernel⟩,
   ⟨witTan5, { witTan6 with chn := { witTan6.chn with rx := [] } }, witTan6, by decide +kernel, by decide +kernel, by decide +kernel, takeRx_of (by decide +kernel), by decide +kernel⟩,
   ⟨witTan7, { witTan8 with chn := { witTan8.chn with rx := [] } }, witTan8, by decide +kernel, by decide +kernel, by decide +kernel, takeRx_of (by decide +kernel), by decide +kernel⟩⟩

theorem test_TandemClaims_2 :
    (∃ (v : Word) (s : State), QueuesOk s ∧ WriteOk s R.TAN_CFG (F.TAN_CFG_EN.put v 1) ∧ getF s F.TAN_CFG_EN = 0) ∧
    (∃ (v : Word) (s : State), QueuesOk s ∧ WriteOk s R.TAN_CFG (F.TAN_CFG_EN.put v 0) ∧ getF s F.TAN_CFG_EN = 1) ∧
    (∃ (dt : Nat) (s : State), QueuesOk s ∧ blkOn (advance dt s) 0x10 = true ∧ isSet (advance dt s) F.TAN_CFG_EN = true ∧ genDue (advance dt s) (getF (advance dt s) F.TAN_CFG_HBGEN) = true ∧ (advance dt s).tan.winAt.isSome = true ∧ tanState (advance dt s) = tanStandby ∧ (advance dt s).chn.rx = [] ∧ ((∀ h ∈ (advance dt s).tan.heard, h.act = none)) ∧ 2 ≤ (advance dt s).tan.noAct) ∧
    (∃ (dt : Nat) (s : State), QueuesOk s ∧ blkOn (advance dt s) 0x10 = true ∧ isSet (advance dt s) F.TAN_CFG_EN = true ∧ genDue (advance dt s) (getF (advance dt s) F.TAN_CFG_HBGEN) = true ∧ (advance dt s).tan.winAt.isSome = true ∧ tanState (advance dt s) = tanStandby ∧ (advance dt s).chn.rx = [] ∧ ((∀ h ∈ (advance dt s).tan.heard, h.act = none)) ∧ 2 ≤ (advance dt s).tan.noAct) ∧
    (∃ (v : Word) (s : State), QueuesOk s ∧ WriteOk s R.TAN_CTL (F.TAN_CTL_TAKE.put v 1)) :=
  ⟨⟨regFill R.TAN_CFG, up1 (die 0 []), by decide +kernel⟩,
   ⟨regFill R.TAN_CFG, { up1 (die 0 [(F.TAN_CFG_EN, 1), (F.TAN_STAT_STATE, tanActive)]) with tan := { State.reset.tan with snaps := [⟨itemOf [], 1, 1, [0], []⟩] } }, by decide +kernel⟩,
   ⟨9, { die 0 [(F.TAN_CFG_EN, 1), (F.TAN_STAT_STATE, tanStandby), (F.TIM_PGCFG_EN 1, 1), (F.FRT_CTL_EN, 0)] with tan := { State.reset.tan with noAct := 2, winAt := some 0, heard := [⟨2, 5, none⟩] }, tim := { State.reset.tim with gens := [(1, ⟨2, 5, 250000 * 2 ^ 24, 1⟩)] }, time := 250005 * 2 ^ 28, chn := { State.reset.chn with hbseq := 2 ^ 32 - 1 } }, by decide +kernel⟩,
   ⟨9, { die 0 [(F.TAN_CFG_EN, 1), (F.TAN_STAT_STATE, tanStandby), (F.TIM_PGCFG_EN 1, 1), (F.FRT_CTL_EN, 1)] with tan := { State.reset.tan with noAct := 2, winAt := some 0, heard := [⟨2, 5, none⟩] }, tim := { State.reset.tim with gens := [(1, ⟨2, 5, 250000 * 2 ^ 24, 1⟩)] }, time := 250005 * 2 ^ 28, chn := { State.reset.chn with hbseq := 2 ^ 32 - 1 } }, by decide +kernel⟩,
   ⟨regFill R.TAN_CTL, up1 (die 0 [(F.TAN_STAT_STATE, tanStandby), (F.FRT_CTL_EN, 1), (F.TAN_CLAIM_EPOCH, 2 ^ 24 - 1), (F.TAN_PEER_CLAIM, 0x302)]), by decide +kernel⟩⟩

theorem test_TandemClaims_3 :
    (∃ (v : Word) (s : State), QueuesOk s ∧ WriteOk s R.TAN_CTL (F.TAN_CTL_TAKE.put v 1)) ∧
    (∃ (dt : Nat) (f : Nat) (s : State), QueuesOk s ∧ blkOn (advance dt s) 0x10 = true ∧ (advance dt s).tan.holdFrom = some f ∧ f + getF (advance dt s) F.TAN_CFG_HOLDS * 1000000000 ≤ upNs (advance dt s) ∧ returnOk (advance dt s) = true) ∧
    (∃ (epoch : Nat) (s : State), QueuesOk s ∧ epoch < 2 ^ 24 ∧ WriteOk s R.TAN_RENUM (F.TAN_RENUM_EPOCH.put 0#32 epoch)) ∧
    (∃ (epoch : Nat) (s : State), QueuesOk s ∧ epoch < 2 ^ 24 ∧ WriteOk s R.TAN_RENUM (F.TAN_RENUM_EPOCH.put 0#32 epoch)) :=
  ⟨⟨regFill R.TAN_CTL, up1 (die 0 [(F.TAN_STAT_STATE, tanStandby), (F.FRT_CTL_EN, 1), (F.TAN_CLAIM_EPOCH, 2 ^ 24 - 1)]), by decide +kernel⟩,
   ⟨9, 0, { die 0 [(F.TAN_CFG_PREF, 1), (F.TAN_STAT_STATE, tanStandby), (F.FRT_CTL_EN, 1), (F.TIM_STAT_STATE, tLocked), (F.TAN_STAT_ACTPORTS, 15), (F.FRT_MSTAT_MGEN, 5)] with up := 30000000000, tan := { State.reset.tan with holdFrom := some 0, mgen := some 5 } }, by decide +kernel⟩,
   ⟨2 ^ 23, up1 (die 0 [(F.TAN_STAT_STATE, tanActive), (F.TAN_CLAIM_EPOCH, 2)]), by decide +kernel⟩,
   ⟨0, up1 (die 0 [(F.TAN_STAT_STATE, tanActive), (F.TAN_CLAIM_EPOCH, 2 ^ 24 - 1)]), by decide +kernel⟩⟩

theorem test_Snapshots :
    (∃ (host : HostRes) (it : Item) (x : State) (b : Bytes) (z : State) (s : State), QueuesOk s ∧ blkOn s 0x10 = true ∧ s.tan.snaps = [] ∧ coreTake s 0x48 = some (it, x) ∧ snapWaits s it = false ∧ snapCheck x it.entry = .ok ∧ areaFetch x (leAt it.entry 2 2) (leAt it.entry 8 8) (leAt it.entry 4 4) host = (.ok b, z) ∧ ((upPorts x).filter (fun p => (byteAt it.entry 1).testBit p)).isEmpty = false) ∧
    (∃ (dt : Nat) (gen : Nat) (npart : Nat) (len : Nat) (digest : Bytes) (s : State), blkOn (advance dt s) 0x10 = true ∧ (advance dt s).tan.sent = some (gen, npart, len, digest) ∧ gen = getF (advance dt s) F.TAN_SNAPSEEN_GEN ∧ (advance dt s).tan.sentAt + 1000000000 ≤ upNs (advance dt s)) ∧
    (∃ (dt : Nat) (gen : Nat) (npart : Nat) (len : Nat) (digest : Bytes) (s : State), blkOn (advance dt s) 0x10 = true ∧ (advance dt s).tan.sent = some (gen, npart, len, digest) ∧ (gen ≠ getF (advance dt s) F.TAN_SNAPSEEN_GEN ∨ upNs (advance dt s) < (advance dt s).tan.sentAt + 1000000000)) ∧
    (∃ (dt : Nat) (gen : Nat) (npart : Nat) (len : Nat) (digest : Bytes) (s : State), blkOn (advance dt s) 0x10 = true ∧ (advance dt s).tan.sent = some (gen, npart, len, digest) ∧ (gen ≠ getF (advance dt s) F.TAN_SNAPSEEN_GEN ∨ upNs (advance dt s) < (advance dt s).tan.sentAt + 1000000000)) ∧
    (∃ (l : Letter) (x : State) (s : State), QueuesOk s ∧ blkOn s 0x10 = true ∧ takeLetter s (fun l => l.ltype == 0x0C && isSnapLetter l) = some (l, x) ∧ snapIgnored s (beAt l.content 0 4) = true) :=
  ⟨⟨HostRes.busError, witTan9, witTan11, witTan12, witTan13, witTan10, by decide +kernel⟩,
   ⟨5, 7, 1, 64, [1#8], { die 0 [(F.TAN_SNAPSEEN_GEN, 7)] with up := 999999995, tan := { State.reset.tan with sent := some (7, 1, 64, [1#8]) } }, by decide +kernel⟩,
   ⟨5, 6, 1, 64, [1#8], { die 0 [(F.TAN_SNAPSEEN_GEN, 7)] with up := 999999995, tan := { State.reset.tan with sent := some (6, 1, 64, [1#8]) } }, by decide +kernel⟩,
   ⟨4, 7, 1, 64, [1#8], { die 0 [(F.TAN_SNAPSEEN_GEN, 7)] with up := 999999995, tan := { State.reset.tan with sent := some (7, 1, 64, [1#8]) } }, by decide +kernel⟩,
   ⟨witTan14, { witTan15 with chn := { witTan15.chn with letters := [] } }, witTan15, by decide +kernel, by decide +kernel, takeLetter_of (by decide +kernel), by decide +kernel⟩⟩

theorem test_Snapshots_2 :
    (∃ (l : Letter) (x : State) (s : State), QueuesOk s ∧ blkOn s 0x10 = true ∧ takeLetter s (fun l => l.ltype == 0x0C && isSnapLetter l) = some (l, x) ∧ snapIgnored s (beAt l.content 0 4) = false ∧ s.tan.staging = none ∧ beAt l.content 8 4 ≤ bankSize s ∧ beAt l.content 4 2 < beAt l.content 6 2 ∧ surfOf s (getF s F.TAN_SNAPCFG_HANDLE) ≠ none) ∧
    (∃ (l : Letter) (x : State) (s : State), QueuesOk s ∧ blkOn s 0x10 = true ∧ commitGoes s = false ∧ takeLetter s (fun l => l.ltype == 0x0D && isSnapLetter l) = some (l, x) ∧ snapIgnored s (beAt l.content 0 4) = true) ∧
    (∃ (l : Letter) (x : State) (s : State), QueuesOk s ∧ blkOn s 0x10 = true ∧ commitGoes s = false ∧ takeLetter s (fun l => l.ltype == 0x0D && isSnapLetter l) = some (l, x) ∧ snapIgnored s (beAt l.content 0 4) = false ∧ s.tan.staging = none) ∧
    (∃ (dt : Nat) (g : Staging) (npart : Nat) (len : Nat) (digest : Bytes) (c : Nat) (s : State), QueuesOk s ∧ blkOn (advance dt s) 0x10 = true ∧ (advance dt s).tan.staging = some g ∧ g.commit = some (npart, len, digest, c) ∧ commitReady (advance dt s) = false ∧ c + 20000000 ≤ upNs (advance dt s)) :=
  ⟨⟨witTan16, { witTan17 with chn := { witTan17.chn with letters := [] } }, witTan17, by decide +kernel, by decide +kernel, takeLetter_of (by decide +kernel), by decide +kernel⟩,
   ⟨witTan18, { witTan19 with chn := { witTan19.chn with letters := [] } }, witTan19, by decide +kernel, by decide +kernel, by decide +kernel, takeLetter_of (by decide +kernel), by decide +kernel⟩,
   ⟨witTan20, { witTan21 with chn := { witTan21.chn with letters := [] } }, witTan21, by decide +kernel, by decide +kernel, by decide +kernel, takeLetter_of (by decide +kernel), by decide +kernel⟩,
   ⟨9, (⟨3, 1, 64, [], some (1, 64, [], 0)⟩ : Staging), 1, 64, [], 0, { die 0 [] with up := 20000000, tan := { State.reset.tan with staging := some ⟨3, 1, 64, [], some (1, 64, [], 0)⟩ } }, by decide +kernel⟩⟩

end Sys2Proof.Machine
end

