-- ==== Sys2Proof/Tests/Thm.lean ====
section
/-! SUPPORT. For each statement of this family, states and operands that meet the hypotheses of its clauses. -/

set_option Elab.async false
set_option maxRecDepth 100000

namespace Sys2Proof.Machine

theorem test_SensorsAndThrottling :
    (∃ (dt : Nat) (od : List Int) (k : Nat) (v : Int) (s : State), QueuesOk s ∧ blkOn (advance dt s) 0x14 = true ∧ k < 12 ∧ od[k]? = some v ∧ (advance dt s).thm.sampledAt + 1000000 ≤ upNs (advance dt s) ∧ -880 ≤ v ∧ v ≤ 2400 ∧ (((advance dt s).thm.prev.find? (fun e => e.1 == k) = some (11, -560) ∧ (v + 560).natAbs ≤ 320))) ∧
    (∃ (dt : Nat) (od : List Int) (k : Nat) (v : Int) (s : State), QueuesOk s ∧ blkOn (advance dt s) 0x14 = true ∧ k < 12 ∧ od[k]? = some v ∧ (advance dt s).thm.sampledAt + 1000000 ≤ upNs (advance dt s) ∧ (v < -880 ∨ 2400 < v)) ∧
    (∃ (dt : Nat) (g : _) (s : State), QueuesOk s ∧ blkOn (advance dt s) 0x14 = true ∧ (advance dt s).thm.grid = some g ∧ g ≤ upNs (advance dt s) ∧ heatCause (advance dt s) = true ∧ isTile s = true ∧ getF (advance dt s) F.THM_CFG_CEILMIN < getF (advance dt s) F.LMP_CEIL_CEIL) ∧
    (∃ (dt : Nat) (g : _) (s : State), QueuesOk s ∧ blkOn (advance dt s) 0x14 = true ∧ (advance dt s).thm.grid = some g ∧ g ≤ upNs (advance dt s) ∧ heatCause (advance dt s) = true ∧ isTile s = true ∧ getF (advance dt s) F.LMP_CEIL_CEIL ≤ getF (advance dt s) F.THM_CFG_CEILMIN) ∧
    (∃ (dt : Nat) (g : _) (s : State), QueuesOk s ∧ blkOn (advance dt s) 0x14 = true ∧ (advance dt s).thm.grid = some g ∧ g ≤ upNs (advance dt s) ∧ heatCause (advance dt s) = true ∧ isSender s = true ∧ isTile s = false) :=
  ⟨⟨0, ((List.replicate 11 (400 : Int)) ++ [-880]), 11, (-880 : Int), { die 1 [] with thm := { State.reset.thm with prev := [(11, -560)] }, up := 1000000 }, by decide +kernel⟩,
   ⟨0, [(2401 : Int)], 0, (2401 : Int), { die 0 [] with up := 1000000 }, by decide +kernel⟩,
   ⟨0, 0, { die 1 [(F.LMP_CEIL_CEIL, 20), (F.THM_CFG_CEILMIN, 19)] with thm := { State.reset.thm with grid := some 0, band := 4 } }, by decide +kernel⟩,
   ⟨0, 0, { die 1 [(F.LMP_CEIL_CEIL, 19), (F.THM_CFG_CEILMIN, 19)] with thm := { State.reset.thm with grid := some 0, band := 4 } }, by decide +kernel⟩,
   ⟨0, 0, { die 0 [] with thm := { State.reset.thm with grid := some 0, band := 4 }, cmp := { State.reset.cmp with nextStep := 5 } }, by decide +kernel⟩⟩

theorem test_SensorsAndThrottling_2 :
    (∃ (dt : Nat) (g : _) (s : State), QueuesOk s ∧ blkOn (advance dt s) 0x14 = true ∧ (advance dt s).thm.up = some g ∧ g ≤ upNs (advance dt s) ∧ isTile s = true ∧ getF (advance dt s) F.LMP_CEIL_CEIL < 32) ∧
    (∃ (dt : Nat) (g : _) (s : State), QueuesOk s ∧ blkOn (advance dt s) 0x14 = true ∧ (advance dt s).thm.up = some g ∧ g ≤ upNs (advance dt s) ∧ isTile s = true ∧ 32 ≤ getF (advance dt s) F.LMP_CEIL_CEIL) ∧
    (∃ (dt : Nat) (g : _) (s : State), QueuesOk s ∧ blkOn (advance dt s) 0x14 = true ∧ (advance dt s).thm.up = some g ∧ g ≤ upNs (advance dt s) ∧ isSender s = true ∧ isTile s = false) ∧
    (∃ (mask : Nat) (s : State), QueuesOk s ∧ WriteOk s R.THM_FAIL (BitVec.ofNat 32 mask)) :=
  ⟨⟨0, 0, { die 1 [(F.LMP_CEIL_CEIL, 31)] with thm := { State.reset.thm with up := some 0 } }, by decide +kernel⟩,
   ⟨0, 0, { die 1 [(F.LMP_CEIL_CEIL, 32)] with thm := { State.reset.thm with up := some 0 } }, by decide +kernel⟩,
   ⟨0, 0, { die 0 [] with thm := { State.reset.thm with up := some 0 }, cmp := { State.reset.cmp with nextStep := 1 } }, by decide +kernel⟩,
   ⟨0x80000001, up1 ((die 1 []).setWord R.THM_FAIL 0x80010003#32), by decide +kernel⟩⟩

theorem test_PowerStates :
    (∃ (dt : Nat) (a : _) (s : State), QueuesOk s ∧ blkOn (advance dt s) 0x14 = true ∧ (advance dt s).thm.t5 = some a ∧ a + 10000000 ≤ upNs (advance dt s) ∧ s.thm.shut = none ∧ isTile s = true) ∧
    (∃ (req : _) (s : State), QueuesOk s ∧ req < 5 ∧ WriteOk s R.THM_PWR (F.THM_PWR_REQ.put 0#32 req) ∧ s.thm.shut = none ∧ req = 4) ∧
    (∃ (req : _) (s : State), QueuesOk s ∧ req < 5 ∧ WriteOk s R.THM_PWR (F.THM_PWR_REQ.put 0#32 req) ∧ s.thm.shut = none ∧ req < 4) ∧
    (∃ (dt : Nat) (s : State), QueuesOk s ∧ blkOn (advance dt s) 0x14 = true ∧ s.thm.shut = none ∧ powerTarget (advance dt s) < 4 ∧ power (advance dt s) ≠ powerTarget (advance dt s)) ∧
    (∃ (dt : Nat) (s : State), QueuesOk s ∧ blkOn (advance dt s) 0x14 = true ∧ s.thm.shut = none ∧ powerTarget (advance dt s) < 4 ∧ power (advance dt s) ≠ powerTarget (advance dt s)) :=
  ⟨⟨0, 0, { die 1 [] with thm := { State.reset.thm with t5 := some 0 }, up := 10000000 }, by decide +kernel⟩,
   ⟨4, up1 (die 1 []), by decide +kernel⟩,
   ⟨3, up1 (die 1 [(F.THM_PWR_FORCED, 1)]), by decide +kernel⟩,
   ⟨0, die 1 [(F.THM_PWR_REQ, 3)], by decide +kernel⟩,
   ⟨0, die 0 [(F.THM_PWR_NOW, 3), (F.THM_PWR_REQ, 0)], by decide +kernel⟩⟩

theorem test_PowerStates_2 : ∃ (cause : _) (s : State), QueuesOk s ∧ blkOn s 0x14 = true ∧ s.thm.shut = some cause :=
  ⟨2, { die 1 [] with thm := { State.reset.thm with shut := some 2 } }, by decide +kernel⟩

end Sys2Proof.Machine
end

