-- ==== Sys2Proof/Tests/Tim.lean ====
section
/-! SUPPORT. For each statement of this family, states and operands that meet the hypotheses of its clauses. -/

set_option Elab.async false
set_option maxRecDepth 100000

namespace Sys2Proof.Machine

/-- Witness. -/
def witTim1 : RxCell := ⟨2, postmark false 0 0 9 1 0 0 0 0, 3276800⟩

/-- Witness. -/
def witTim2 : State := { die 0 [(F.TIM_CFG_FPORT, 1), (F.TIM_PDLY_COUNT 2, 1)] with chn := { State.reset.chn with rx := [witTim1] } }

/-- Witness. -/
def witTim3 : RxCell := ⟨2, postmark false 0 0 9 1 0 0 0 0, 3276800⟩

/-- Witness. -/
def witTim4 : State := { die 0 [(F.TIM_CFG_FPORT, 2), (F.TIM_STAT_STATE, tLocked)] with chn := { State.reset.chn with rx := [witTim3] } }

/-- Witness. -/
def witTim5 : RxCell := ⟨2, postmark false 0 0 9 1 0 0 0 0, 3276800⟩

/-- Witness. -/
def witTim6 : State := { die 0 [(F.TIM_CFG_FPORT, 2), (F.TIM_PDLY_COUNT 2, 1), (F.TIM_STAT_STATE, tLocked)] with chn := { State.reset.chn with rx := [witTim5] } }

/-- Witness. -/
def witTim7 : RxCell := ⟨2, postmark false 1 0 9 1 0 0 0 0, 3276800⟩

/-- Witness. -/
def witTim8 : State := { die 0 [] with chn := { State.reset.chn with rx := [witTim7] } }

/-- Witness. -/
def witTim9 : RxCell := ⟨1, postmark false 1 0 9 1 0 0 0 0, 3276800⟩

/-- Witness. -/
def witTim10 : State := { die 1 [] with chn := { State.reset.chn with rx := [witTim9] } }

/-- Witness. -/
def witTim11 : RxCell := ⟨1, postmark false 2 0 9 0 800000 0 900000 0, 1000000⟩

/-- Witness. -/
def witTim12 : State := { die 0 [] with chn := { State.reset.chn with rx := [witTim11] }, tim := { State.reset.tim with preq := [(⟨1, 9, 0, some 700000⟩ : Preq)] } }

theorem test_TimeSteps :
    (∃ (s : State), timeRuns s = true ∧ s.time < 2 ^ 60 ∧ 0 < getF s F.TIM_INC_INC) ∧
    (∃ (step : Nat) (s : State), step < 2 ^ 32 ∧ WriteOk s R.TIM_ADJ (F.TIM_ADJ_STEP.put 0#32 step)) ∧
    (∃ (step : Nat) (s : State), step < 2 ^ 32 ∧ WriteOk s R.TIM_ADJ (F.TIM_ADJ_STEP.put 0#32 step)) ∧
    (∃ (v : Word) (s : State), WriteOk s R.TIM_REFCFG (F.TIM_REFCFG_ARM.put v 1)) ∧
    (∃ (dt : Nat) (s : State), blkOn (advance dt s) 0x0F = true ∧ steered (advance dt s) = true ∧ hasRef (advance dt s) = true ∧ isSet (advance dt s) F.TIM_REFCFG_ARMED = true) :=
  ⟨⟨{ die 0 [] with time := 2 ^ 60 - 1, wraps := 2 ^ 32 - 1 }, by decide +kernel⟩,
   ⟨2 ^ 32 - 5, { up1 (die 0 [(F.TIM_STAT_STEPS, F.TIM_STAT_STEPS.top)]) with time := 2 ^ 28 }, by decide +kernel⟩,
   ⟨2 ^ 31 - 1, { up1 (die 0 []) with time := 2 ^ 60 - 1 }, by decide +kernel⟩,
   ⟨regFill R.TIM_REFCFG, up1 (die 0 [(F.TIM_CFG_ROLE, 1), (F.TIM_CFG_DISC, 1)]), by decide +kernel⟩,
   ⟨9, { die 0 [(F.TIM_CFG_ROLE, 1), (F.TIM_CFG_DISC, 1), (F.TIM_REFCFG_ARMED, 1), (F.TIM_REFVAL_VAL, 2 ^ 32 - 1), (F.TIM_REFCFG_REFDLY, 5)] with time := 2 ^ 40, wraps := 7 }, by decide +kernel⟩⟩

theorem test_TimeSteps_2 :
    (∃ (dt : Nat) (s : State), blkOn (advance dt s) 0x0F = true ∧ steered (advance dt s) = true ∧ hasRef (advance dt s) = true ∧ servo (advance dt s) = tLocked ∧ (advance dt s).tim.lastUsed * 2 ^ 25 + 3 * refPeriod (advance dt s) ≤ upNs (advance dt s) * 2 ^ 25) ∧
    (∃ (dt : Nat) (s : State), blkOn (advance dt s) 0x0F = true ∧ steered (advance dt s) = true ∧ ((isTile (advance dt s) = true ∨ isSet (advance dt s) F.TIM_CFG_ROLE = false)) ∧ ((servo (advance dt s) = tAcquire ∨ servo (advance dt s) = tLocked)) ∧ (advance dt s).tim.lastUsed + 1000 * getF (advance dt s) F.TIM_SYNCCFG_LOSSUS ≤ upNs (advance dt s)) ∧
    (∃ (dt : Nat) (s : State), blkOn (advance dt s) 0x0F = true ∧ steered (advance dt s) = true ∧ ((isTile (advance dt s) = true ∨ isSet (advance dt s) F.TIM_CFG_ROLE = false)) ∧ ((servo (advance dt s) = tAcquire ∨ servo (advance dt s) = tLocked)) ∧ (advance dt s).tim.lastUsed + 1000 * getF (advance dt s) F.TIM_SYNCCFG_LOSSUS ≤ upNs (advance dt s)) ∧
    (∃ (y : RxCell) (x : State) (s : State), blkOn s 0x0F = true ∧ takeRx s (isPostmark 0) = some (y, x) ∧ isTile s = false ∧ isSet s F.TIM_CFG_ROLE = false ∧ y.port ≠ getF s F.TIM_CFG_FPORT) ∧
    (∃ (y : RxCell) (x : State) (s : State), blkOn s 0x0F = true ∧ takeRx s (isPostmark 0) = some (y, x) ∧ isTile s = false ∧ isSet s F.TIM_CFG_ROLE = false ∧ y.port = getF s F.TIM_CFG_FPORT ∧ syncWraps y = s.wraps ∧ servo s = tLocked ∧ (syncOffset s y).natAbs ≤ 50 * 65536 ∧ s.tim.slew = none) :=
  ⟨⟨3000000000, die 0 [(F.TIM_CFG_ROLE, 1), (F.TIM_CFG_DISC, 1), (F.TIM_STAT_STATE, tLocked)], by decide +kernel⟩,
   ⟨1000000000, die 0 [(F.TIM_STAT_STATE, tAcquire)], by decide +kernel⟩,
   ⟨1000000000, die 1 [(F.TIM_STAT_STATE, tLocked)], by decide +kernel⟩,
   ⟨witTim1, { witTim2 with chn := { witTim2.chn with rx := [] } }, witTim2, by decide +kernel, takeRx_of (by decide +kernel), by decide +kernel⟩,
   ⟨witTim3, { witTim4 with chn := { witTim4.chn with rx := [] } }, witTim4, by decide +kernel, takeRx_of (by decide +kernel), by decide +kernel⟩⟩

theorem test_TimeSteps_3 : ∃ (y : RxCell) (x : State) (s : State), blkOn s 0x0F = true ∧ takeRx s (isPostmark 0) = some (y, x) ∧ isTile s = false ∧ isSet s F.TIM_CFG_ROLE = false ∧ y.port = getF s F.TIM_CFG_FPORT ∧ syncWraps y = s.wraps ∧ servo s = tLocked ∧ (syncOffset s y).natAbs ≤ 50 * 65536 ∧ s.tim.slew = none :=
  ⟨witTim5, { witTim6 with chn := { witTim6.chn with rx := [] } }, witTim6, by decide +kernel, takeRx_of (by decide +kernel), by decide +kernel⟩

theorem test_LinkDelays :
    (∃ (dt : Nat) (p : Nat) (s : State), p < 4 ∧ blkOn (advance dt s) 0x0F = true ∧ portUp (advance dt s) p = true ∧ preqDue (advance dt s) p ≤ upNs (advance dt s) ∧ isTile (advance dt s) = false) ∧
    (∃ (dt : Nat) (p : Nat) (s : State), p < 4 ∧ blkOn (advance dt s) 0x0F = true ∧ portUp (advance dt s) p = true ∧ preqDue (advance dt s) p ≤ upNs (advance dt s)) ∧
    (∃ (y : RxCell) (x : State) (s : State), blkOn s 0x0F = true ∧ takeRx s (isPostmark 1) = some (y, x) ∧ isTile s = false) ∧
    (∃ (y : RxCell) (x : State) (s : State), blkOn s 0x0F = true ∧ takeRx s (isPostmark 1) = some (y, x) ∧ isTile s = true ∧ insCount s y.port < 32) ∧
    (∃ (y : RxCell) (x : State) (r : Preq) (s : State), blkOn s 0x0F = true ∧ takeRx s (isPostmark 2) = some (y, x) ∧ y.port < 4 ∧ s.tim.preq.find? (fun r => r.port == y.port && r.seq == pmSeq y.cell) = some r ∧ r.t1 ≠ none ∧ (tget pdReset s.tim.pd y.port).vals = []) :=
  ⟨⟨20000, 3, { die 0 [(F.LNK_PSTAT_STATE 3, pUp)] with tim := { State.reset.tim with pdSeq := 65535, pdSent := [(3, (2, 0))] } }, by decide +kernel⟩,
   ⟨0, 1, die 1 [(F.LNK_PSTAT_STATE 1, pUp)], by decide +kernel⟩,
   ⟨witTim7, { witTim8 with chn := { witTim8.chn with rx := [] } }, witTim8, by decide +kernel, takeRx_of (by decide +kernel), by decide +kernel⟩,
   ⟨witTim9, { witTim10 with chn := { witTim10.chn with rx := [] } }, witTim10, by decide +kernel, takeRx_of (by decide +kernel), by decide +kernel⟩,
   ⟨witTim11, { witTim12 with chn := { witTim12.chn with rx := [] } }, (⟨1, 9, 0, some 700000⟩ : Preq), witTim12, by decide +kernel, takeRx_of (by decide +kernel), by decide +kernel⟩⟩

theorem test_LinkDelays_2 : ∃ (dt : Nat) (p : Nat) (r : Preq) (s : State), blkOn (advance dt s) 0x0F = true ∧ (advance dt s).tim.preq.find? (fun r => r.port == p && decide (r.since + 1000000 ≤ upNs (advance dt s))) = some r :=
  ⟨5, 1, (⟨1, 9, 0, some 700000⟩ : Preq), { die 0 [(F.TIM_SSTAT_PDLOST, F.TIM_SSTAT_PDLOST.top)] with up := 1000000, tim := { State.reset.tim with preq := [(⟨1, 9, 0, some 700000⟩ : Preq)] } }, by decide +kernel⟩

theorem test_GeneratorsAndCaptures :
    (∃ (dt : Nat) (g : Nat) (v : Word) (s : State), g < 16 ∧ WriteOk (advance dt s) (R.TIM_PGCFG g) ((F.TIM_PGCFG_EN g).put v 1) ∧ getF (advance dt s) (F.TIM_PGCFG_EN g) = 0) ∧
    (∃ (dt : Nat) (g : Nat) (v : Word) (s : State), g < 16 ∧ WriteOk (advance dt s) (R.TIM_PGCFG g) ((F.TIM_PGCFG_EN g).put v 0) ∧ getF (advance dt s) (F.TIM_PGCFG_EN g) = 1) ∧
    (∃ (dt : Nat) (g : Nat) (s : State), QueuesOk s ∧ g < 16 ∧ blkOn (advance dt s) 0x0F = true ∧ genDue (advance dt s) g = true ∧ (gen (advance dt s) g).owner = 0) ∧
    (∃ (dt : Nat) (g : Nat) (s : State), QueuesOk s ∧ g < 16 ∧ blkOn (advance dt s) 0x0F = true ∧ genDue (advance dt s) g = true ∧ (gen (advance dt s) g).owner = 0) ∧
    (∃ (g : Nat) (v : Word) (s : State), g < 16 ∧ WriteOk s R.TIM_CFG (F.TIM_CFG_CADGEN.put v g) ∧ isTile s = true) :=
  ⟨⟨9, 15, F.TIM_PGCFG_PERIODIC 15 |>.put (regFill (R.TIM_PGCFG 15)) 1, up1 (die 0 [(F.TIM_PGSTART_S 15, 100000), (F.TIM_PGPER_PER 15, 2000), (F.TIM_PGSTAT_COUNT 15, 9)]), by decide +kernel⟩,
   ⟨9, 15, regFill (R.TIM_PGCFG 15), { up1 (die 0 [(F.TIM_PGCFG_EN 15, 1)]) with tim := { State.reset.tim with gens := [(15, ⟨0, 5, 2000 * 2 ^ 24, 0⟩)] } }, by decide +kernel⟩,
   ⟨9, 15, { die 0 [(F.TIM_PGCFG_EN 15, 1), (F.TIM_PGCFG_PERIODIC 15, 0), (F.TIM_PGSTAT_COUNT 15, 65535)] with tim := { State.reset.tim with gens := [(15, ⟨0, 5, 2000 * 2 ^ 24, 0⟩)] } }, by decide +kernel⟩,
   ⟨9, 15, { die 0 [(F.TIM_PGCFG_EN 15, 1), (F.TIM_PGCFG_PERIODIC 15, 1), (F.TIM_PGSTAT_COUNT 15, 65535)] with tim := { State.reset.tim with gens := [(15, ⟨0, 5, 2000 * 2 ^ 24, 0⟩)] } }, by decide +kernel⟩,
   ⟨15, regFill R.TIM_CFG, up1 (die 1 []), by decide +kernel⟩⟩

theorem test_GeneratorsAndCaptures_2 :
    (∃ (g : Nat) (v : Word) (s : State), g < 16 ∧ WriteOk s R.TIM_CFG (F.TIM_CFG_CADGEN.put v g)) ∧
    (∃ (dt : Nat) (c : Nat) (eighths : Nat) (fall : Bool) (s : State), c < 4 ∧ blkOn (advance dt s) 0x0F = true ∧ isSet (advance dt s) (F.TIM_CAPCFG_EN c) = true ∧ ((getF (advance dt s) (F.TIM_CAPCFG_EDGE c) = 2 ∨ getF (advance dt s) (F.TIM_CAPCFG_EDGE c) = b2n fall)) ∧ ((cap (advance dt s) c).last = some 807 ∧ 807 + 64 ≤ 8 * upNs (advance dt s) + eighths) ∧ (cap (advance dt s) c).queue.length < 16) ∧
    (∃ (dt : Nat) (c : Nat) (eighths : Nat) (fall : Bool) (s : State), c < 4 ∧ blkOn (advance dt s) 0x0F = true ∧ isSet (advance dt s) (F.TIM_CAPCFG_EN c) = true ∧ ((getF (advance dt s) (F.TIM_CAPCFG_EDGE c) = 2 ∨ getF (advance dt s) (F.TIM_CAPCFG_EDGE c) = b2n fall)) ∧ ((cap (advance dt s) c).last = some 807 ∧ 807 + 64 ≤ 8 * upNs (advance dt s) + eighths) ∧ 16 ≤ (cap (advance dt s) c).queue.length) ∧
    (∃ (c : Nat) (y : Stamp) (l : List Stamp) (s : State), c < 4 ∧ barOpen s = true ∧ readsReset s (R.TIM_CAPLO c) = false ∧ (cap s c).queue = y :: l) :=
  ⟨⟨15, regFill R.TIM_CFG, up1 (die 0 []), by decide +kernel⟩,
   ⟨9, 3, 7, true, { die 0 [(F.TIM_CAPCFG_EN 3, 1), (F.TIM_CAPCFG_EDGE 3, 1)] with time := 5 * 2 ^ 28, wraps := 257, up := 99, tim := { State.reset.tim with caps := [(3, ⟨List.replicate 15 ⟨1, 2, false, 3⟩, some 807⟩)] } }, by decide +kernel⟩,
   ⟨9, 3, 7, true, { die 0 [(F.TIM_CAPCFG_EN 3, 1), (F.TIM_CAPCFG_EDGE 3, 1)] with time := 5 * 2 ^ 28, wraps := 257, up := 99, tim := { State.reset.tim with caps := [(3, ⟨List.replicate 16 ⟨1, 2, false, 3⟩, some 807⟩)] } }, by decide +kernel⟩,
   ⟨3, (⟨2 ^ 32 - 1, 2, false, 3⟩ : Stamp), ([] : List Stamp), { up1 (die 0 []) with tim := { State.reset.tim with caps := [(3, ⟨[⟨2 ^ 32 - 1, 2, false, 3⟩], none⟩)] } }, by decide +kernel⟩⟩

end Sys2Proof.Machine
end

