-- ==== Sys2Proof/Tests/Upd.lean ====
section
/-! SUPPORT. For each statement of this family, states and operands that meet the hypotheses of its clauses. -/

set_option Elab.async false
set_option maxRecDepth 100000

namespace Sys2Proof.Machine

/-- A manifest of one part of type `t` and `len` bytes, at 0x40000. -/
def manOf (t len : Nat) : Bytes :=
  zeros 7 ++ (1#8 :: (zeros 24 ++ (beBytes 4 (0x40000 + 65536) ++ (zeros 28 ++ (byte t :: (zeros 3 ++ (beBytes 4 0x40000 ++ (beBytes 4 len ++ zeros 4020))))))))

/-- A DATA letter's content. -/
def parcelOf (k crc : Nat) : Bytes := ([1#8, 0#8, 0#8, 0#8] ++ zeros 16 ++ beBytes 4 k ++ beBytes 4 crc ++ zeros 4) ++ zeros 4096

/-- The register of CRC-32 after `n` more bits of 0. -/
def crcRun : Nat → Nat → Nat
  | 0, c => c
  | n + 1, c => bif c.beq c then crcRun n (crcStepR 0xEDB88320 c false) else 0

theorem crcRun_foldl (n c : Nat) : (List.replicate n false).foldl (crcStepR 0xEDB88320) c = crcRun n c := by
  induction n generalizing c with
  | zero => rfl
  | succ n ih =>
    simp [List.replicate_succ, crcRun, ih]

theorem toBitsR_zeros (n : Nat) : toBitsR (zeros n) = List.replicate (8 * n) false := by
  induction n with
  | zero => rfl
  | succ n ih =>
    have h : zeros (n + 1) = 0#8 :: zeros n := List.replicate_succ
    rw [h, show 8 * (n + 1) = 8 + 8 * n by omega, ← List.replicate_append_replicate, ← ih]
    rfl

theorem crc32_zeros : crc32 (zeros 4096) = 0xC71C0011 := by
  rw [crc32, toBitsR_zeros, crcRun_foldl]
  decide +kernel

theorem slice_append (a b : Bytes) (k n : Nat) (ha : a.length = k) (hb : b.length = n) : slice (a ++ b) k n = b := by
  subst ha hb
  refine List.ext_getElem (by simp [slice]) fun i h1 h2 => ?_
  simp [slice, List.getElem?_append_right, h2]

theorem parcelOf_data (k crc : Nat) : slice (parcelOf k crc) 32 4096 = zeros 4096 :=
  slice_append _ _ _ _ (by simp [beBytes, leBytes, zeros]) List.length_replicate

theorem updFetch_ok {x : State} {e : Bytes} {n : Nat} {host : HostRes} (h : updArea x e n = .ok) :
    updFetch x e n host = areaFetch x (leAt e 8 2) (leAt e 16 8) n host := by simp [updFetch, h]

/-- Witness. -/
def witUpd1 : Letter := ⟨1, 0xFFFE, false, 1, 1, 0x0A, 0, (parcelOf 64 5), none, 3, 0⟩

/-- Witness. -/
def witUpd2 : State := { die 1 [] with chn := { State.reset.chn with letters := [witUpd1] }, upd := { State.reset.upd with pkg := some ⟨zeros 16, manOf 6 8192, [], []⟩ } }

/-- Witness. -/
def witUpd3 : Letter := ⟨1, 0xFFFE, false, 1, 1, 0x0A, 0, (parcelOf 66 5), none, 3, 0⟩

/-- Witness. -/
def witUpd4 : State := { die 1 [(F.UPD_STAT_USTATE, 1)] with chn := { State.reset.chn with letters := [witUpd3] }, upd := { State.reset.upd with pkg := some ⟨zeros 16, manOf 6 8192, [], []⟩ } }

/-- Witness. -/
def witUpd5 : Letter := ⟨1, 0xFFFE, false, 1, 1, 0x0A, 0, (parcelOf 64 5), none, 3, 0⟩

/-- Witness. -/
def witUpd6 : State := { die 1 [(F.UPD_STAT_USTATE, 1)] with chn := { State.reset.chn with letters := [witUpd5] }, upd := { State.reset.upd with pkg := some ⟨[1#8], manOf 6 8192, [], []⟩ } }

/-- Witness. -/
def witUpd7 : Letter := ⟨1, 0xFFFE, false, 1, 1, 0x0A, 0, (parcelOf 64 5), none, 3, 0⟩

/-- Witness. -/
def witUpd8 : State := { die 1 [(F.UPD_STAT_USTATE, 1)] with chn := { State.reset.chn with letters := [witUpd7] }, upd := { State.reset.upd with pkg := some ⟨zeros 16, manOf 6 8192, [], []⟩ } }

/-- Witness. -/
def witUpd9 : Letter := ⟨1, 0xFFFE, false, 1, 1, 0x0A, 0, (parcelOf 65 0xC71C0011), none, 3, 0⟩

/-- Witness. -/
def witUpd10 : State := { die 1 [(F.UPD_STAT_USTATE, 1)] with chn := { State.reset.chn with letters := [witUpd9] }, upd := { State.reset.upd with pkg := some ⟨zeros 16, manOf 6 8192, [64], []⟩ } }

/-- Witness. -/
def witUpd11 : Letter := ⟨1, 0xFFFE, false, 1, 1, 0x0A, 0, ([2#8] ++ zeros 19 ++ beBytes 4 64 ++ beBytes 4 0 ++ [0#8] ++ zeros 3), none, 3, 0⟩

/-- Witness. -/
def witUpd12 : State := { die 1 [(F.UPD_STAT_USTATE, 1)] with chn := { State.reset.chn with letters := [witUpd11] }, upd := { State.reset.upd with pkg := some ⟨zeros 16, manOf 6 8192, [65], []⟩ } }

/-- Witness. -/
def witUpd13 : Letter := ⟨1, 0xFFFE, false, 1, 1, 0x0A, 0, ([2#8] ++ zeros 19 ++ beBytes 4 64 ++ beBytes 4 0 ++ [0#8] ++ zeros 3), none, 3, 0⟩

/-- Witness. -/
def witUpd14 : State := { die 1 [] with chn := { State.reset.chn with letters := [witUpd13] } }

/-- Witness. -/
def witUpd15 : Letter := ⟨1, 0xFFFE, false, 1, 1, 0x0A, 0, ([3#8] ++ zeros 19 ++ beBytes 4 0 ++ beBytes 4 200 ++ [0#8] ++ zeros 3), none, 3, 0⟩

/-- Witness. -/
def witUpd16 : State := { die 1 [(F.UPD_STAT_USTATE, 1)] with chn := { State.reset.chn with letters := [witUpd15] }, upd := { State.reset.upd with pkg := some ⟨zeros 16, manOf 6 8192, [], []⟩ } }

/-- Witness. -/
def witUpd17 : Letter := ⟨1, 0xFFFE, false, 1, 1, 0x0A, 0, ([3#8] ++ zeros 19 ++ beBytes 4 0 ++ beBytes 4 101 ++ [0#8] ++ zeros 3), none, 3, 0⟩

/-- Witness. -/
def witUpd18 : State := { die 1 [(F.UPD_STAT_USTATE, 3)] with chn := { State.reset.chn with letters := [witUpd17] }, upd := { State.reset.upd with pkg := some ⟨zeros 16, manOf 6 8192, [0, 64, 65], []⟩ }, lmp := { State.reset.lmp with mode := some ⟨16666666, 0, 5000000, 4000000, 100000, 1, 0, 100, 1000, false⟩, last := some 100, nextA := 101 } }

/-- Witness. -/
def witUpd19 : Letter := ⟨1, 0xFFFE, false, 1, 1, 0x0A, 0, ([3#8] ++ zeros 19 ++ beBytes 4 0 ++ beBytes 4 200 ++ [0#8] ++ zeros 3), none, 3, 0⟩

/-- Witness. -/
def witUpd20 : State := { die 1 [(F.UPD_STAT_USTATE, 3)] with chn := { State.reset.chn with letters := [witUpd19] }, upd := { State.reset.upd with pkg := some ⟨zeros 16, manOf 6 8192, [0, 64, 65], []⟩ }, lmp := { State.reset.lmp with mode := some ⟨16666666, 0, 5000000, 4000000, 100000, 1, 0, 100, 1000, false⟩, last := some 100, nextA := 101 } }

/-- Witness. -/
def witUpd21 : Letter := ⟨1, 0xFFFE, false, 1, 1, 0x0A, 0, ([4#8] ++ zeros 19 ++ beBytes 4 0 ++ beBytes 4 0 ++ [0#8] ++ zeros 3), none, 3, 0⟩

/-- Witness. -/
def witUpd22 : State := { die 1 [(F.UPD_STAT_USTATE, 5)] with chn := { State.reset.chn with letters := [witUpd21] }, upd := { State.reset.upd with pkg := some ⟨zeros 16, manOf 6 8192, [], []⟩ } }

/-- Witness. -/
def witUpd23 : Letter := ⟨1, 0xFFFE, false, 1, 1, 0x0A, 0, ([4#8] ++ zeros 19 ++ beBytes 4 0 ++ beBytes 4 0 ++ [0#8] ++ zeros 3), none, 3, 0⟩

/-- Witness. -/
def witUpd24 : State := { die 1 [(F.UPD_STAT_USTATE, 1)] with chn := { State.reset.chn with letters := [witUpd23] }, upd := { State.reset.upd with pkg := some ⟨zeros 16, manOf 6 8192, [], []⟩ } }

/-- Witness. -/
def witUpd25 : Letter := ⟨1, 0xFFFE, false, 1, 1, 0x0A, 0, ([4#8] ++ zeros 19 ++ beBytes 4 0 ++ beBytes 4 0 ++ [0#8] ++ zeros 3), none, 3, 0⟩

/-- Witness. -/
def witUpd26 : State := { die 1 [(F.UPD_STAT_USTATE, 2)] with chn := { State.reset.chn with letters := [witUpd25] }, upd := { State.reset.upd with pkg := some ⟨zeros 16, manOf 6 8192, [], []⟩ } }

/-- Witness. -/
def witUpd27 : Letter := ⟨1, 0xFFFE, false, 1, 1, 0x0A, 0, ([4#8] ++ zeros 19 ++ beBytes 4 0 ++ beBytes 4 0 ++ [0#8] ++ zeros 3), none, 3, 0⟩

/-- Witness. -/
def witUpd28 : State := { die 1 [(F.UPD_STAT_USTATE, 3)] with chn := { State.reset.chn with letters := [witUpd27] }, upd := { State.reset.upd with pkg := some ⟨zeros 16, manOf 6 8192, [], []⟩ } }

/-- Witness. -/
def witUpd29 : Letter := ⟨1, 0xFFFE, false, 1, 1, 0x0A, 0, ([4#8] ++ zeros 19 ++ beBytes 4 0 ++ beBytes 4 0 ++ [0#8] ++ zeros 3), none, 3, 0⟩

/-- Witness. -/
def witUpd30 : State := { die 1 [(F.UPD_STAT_USTATE, 4)] with chn := { State.reset.chn with letters := [witUpd29] }, upd := { State.reset.upd with pkg := some ⟨zeros 16, manOf 6 8192, [], []⟩ } }

/-- Witness. -/
def witUpd31 : Item := itemOf [(0, 1, 0x60), (4, 4, 65), (8, 2, 5), (10, 2, 1)]

/-- Witness. -/
def witUpd32 : State := core0 { die 1 [(F.SRF_CTL_EN, 1), (F.SRF_POOLBASE_BASE, 16), (F.SRF_POOLLEN_LEN, 256), (F.SRF_TBLLEN_LEN, 66), (F.SRF_PFCFG_CACHE16, 1), (F.UPD_STAT_USTATE, 1)] with srf := { State.reset.srf with surfs := [⟨5, 3, 4, true, false, none, false⟩], segs := [⟨3, 4, .loc 256⟩] }, upd := { State.reset.upd with pkg := some ⟨zeros 16, manOf 6 8192, [64], []⟩ } } witUpd31

/-- Witness. -/
def witUpd33 : State := coreRelease witUpd32 0

/-- Witness. -/
def witUpd34 : Letter := ⟨1, 0xFFFE, false, 1, 1, 0x0A, 0, zeros 32, none, 3, 0⟩

/-- Witness. -/
def witUpd35 : Item := itemOf [(0, 1, 0x62), (1, 1, 0), (4, 4, 101)]

/-- Witness. -/
def witUpd36 : State := core0 (die 0 []) witUpd35

/-- Witness. -/
def witUpd37 : State := coreRelease witUpd36 0

/-- Witness. -/
def witUpd38 : Item := itemOf [(0, 1, 0x62), (1, 1, 0), (4, 4, 101)]

/-- Witness. -/
def witUpd39 : State := core0 { die 1 [(F.UPD_STAT_USTATE, 3)] with upd := { State.reset.upd with pkg := some ⟨zeros 16, manOf 6 8192, [0, 64, 65], []⟩ }, lmp := { State.reset.lmp with mode := some ⟨16666666, 0, 5000000, 4000000, 100000, 1, 0, 100, 1000, false⟩, last := some 100, nextA := 101 } } witUpd38

/-- Witness. -/
def witUpd40 : State := coreRelease witUpd39 0

/-- Witness. -/
def witUpd41 : Item := itemOf [(0, 1, 0x62), (1, 1, 0), (4, 4, 101)]

/-- Witness. -/
def witUpd42 : State := core0 { die 0 [(F.UPD_STAT_USTATE, 4), (F.FRT_CTL_EN, 1), (F.FRT_FRAME_FRAME, 100)] with upd := { State.reset.upd with pkg := some ⟨zeros 16, manOf 6 8192, [0, 64, 65], []⟩, arm := some ⟨300, some (itemOf []), false⟩ }, frt := { State.reset.frt with mode := some ⟨16666666, 0, 5000000, 4000000, 100000, 1, 0, 100, 1000, false⟩ } } witUpd41

/-- Witness. -/
def witUpd43 : State := coreRelease witUpd42 0

/-- Witness. -/
def witUpd44 : Item := itemOf [(0, 1, 0x62), (1, 1, 1), (4, 4, 0)]

/-- Witness. -/
def witUpd45 : State := core0 { die 1 [(F.UPD_STAT_USTATE, 3)] with upd := { State.reset.upd with pkg := some ⟨zeros 16, manOf 6 8192, [0, 64, 65], []⟩ }, lmp := { State.reset.lmp with mode := some ⟨16666666, 0, 5000000, 4000000, 100000, 1, 0, 100, 1000, false⟩, last := some 100, nextA := 101 } } witUpd44

/-- Witness. -/
def witUpd46 : State := coreRelease witUpd45 0

/-- Witness. -/
def witUpd47 : Item := itemOf [(0, 1, 0x62), (1, 1, 1), (4, 4, 0)]

/-- Witness. -/
def witUpd48 : State := core0 { die 0 [(F.UPD_STAT_USTATE, 3)] with upd := { State.reset.upd with pkg := some ⟨zeros 16, manOf 6 8192, [0, 64, 65], []⟩ } } witUpd47

/-- Witness. -/
def witUpd49 : State := coreRelease witUpd48 0

/-- Witness. -/
def witUpd50 : Item := itemOf [(0, 1, 0x63)]

/-- Witness. -/
def witUpd51 : State := core0 (die 0 [(F.UPD_STAT_USTATE, 5)]) witUpd50

/-- Witness. -/
def witUpd52 : State := coreRelease witUpd51 0

/-- Witness. -/
def witUpd53 : Item := itemOf [(0, 1, 0x63)]

/-- Witness. -/
def witUpd54 : State := core0 (die 0 [(F.UPD_STAT_USTATE, 4)]) witUpd53

/-- Witness. -/
def witUpd55 : State := coreRelease witUpd54 0

/-- Witness. -/
def witUpd56 : Item := itemOf [(0, 1, 0x64)]

/-- Witness. -/
def witUpd57 : State := core0 { die 0 [(F.UPD_STAT_USTATE, 0)] with upd := { State.reset.upd with pkg := some ⟨zeros 16, manOf 6 8192, [], []⟩, arm := some ⟨300, some (itemOf []), false⟩ } } witUpd56

/-- Witness. -/
def witUpd58 : State := coreRelease witUpd57 0

/-- Witness. -/
def witUpd59 : Item := itemOf [(0, 1, 0x64)]

/-- Witness. -/
def witUpd60 : State := core0 { die 0 [(F.UPD_STAT_USTATE, 5)] with upd := { State.reset.upd with pkg := some ⟨zeros 16, manOf 6 8192, [], []⟩, arm := some ⟨300, some (itemOf []), false⟩ } } witUpd59

/-- Witness. -/
def witUpd61 : State := coreRelease witUpd60 0

/-- Witness. -/
def witUpd62 : Item := itemOf [(0, 1, 0x64)]

/-- Witness. -/
def witUpd63 : State := core0 { die 0 [(F.UPD_STAT_USTATE, 1)] with upd := { State.reset.upd with pkg := some ⟨zeros 16, manOf 6 8192, [], []⟩, arm := some ⟨300, some (itemOf []), false⟩ } } witUpd62

/-- Witness. -/
def witUpd64 : State := coreRelease witUpd63 0

/-- Witness. -/
def witUpd65 : Item := itemOf [(0, 1, 0x64)]

/-- Witness. -/
def witUpd66 : State := core0 { die 0 [(F.UPD_STAT_USTATE, 4)] with upd := { State.reset.upd with pkg := some ⟨zeros 16, manOf 6 8192, [], []⟩, arm := some ⟨300, some (itemOf []), false⟩ } } witUpd65

/-- Witness. -/
def witUpd67 : State := coreRelease witUpd66 0

/-- Witness. -/
def witUpd68 : Item := itemOf [(0, 1, 0x61), (1, 1, 15), (2, 2, 20483), (4, 4, 7), (8, 2, 5), (10, 2, 2)]

/-- Witness. -/
def witUpd69 : State := core0 { die 0 [(F.SRF_CTL_EN, 1), (F.SRF_POOLBASE_BASE, 16), (F.SRF_POOLLEN_LEN, 256), (F.SRF_TBLLEN_LEN, 66), (F.SRF_PFCFG_CACHE16, 1), (F.UPD_TXCFG_RATE, 0), (F.LNK_PCTL_EN 2, 1), (F.CHN_PORTCTL_CHAIN 2, 5), (F.LNK_PSTAT_STATE 2, pUp)] with srf := { State.reset.srf with surfs := [⟨5, 3, 4, true, false, none, false⟩], segs := [⟨3, 4, .loc 256⟩] } } witUpd68

/-- Witness. -/
def witUpd70 : State := coreRelease witUpd69 0

/-- Witness. -/
def witUpd71 : Item := itemOf [(0, 1, 0x61), (1, 1, 15), (2, 2, 65534), (4, 4, 7), (8, 2, 5), (10, 2, 2)]

/-- Witness. -/
def witUpd72 : State := core0 { die 0 [(F.SRF_CTL_EN, 1), (F.SRF_POOLBASE_BASE, 16), (F.SRF_POOLLEN_LEN, 256), (F.SRF_TBLLEN_LEN, 66), (F.SRF_PFCFG_CACHE16, 1), (F.UPD_TXCFG_RATE, 0), (F.LNK_PCTL_EN 2, 1), (F.CHN_PORTCTL_CHAIN 2, 5), (F.LNK_PSTAT_STATE 2, pUp)] with srf := { State.reset.srf with surfs := [⟨5, 3, 4, true, false, none, false⟩], segs := [⟨3, 4, .loc 256⟩] } } witUpd71

/-- Witness. -/
def witUpd73 : State := coreRelease witUpd72 0

/-- Witness. -/
def witUpd74 : Push := ⟨itemOf [(0, 1, 0x61), (2, 2, 0x5003), (4, 4, 7), (10, 2, 2)], zeros 8, zeros 16, 1024, [], 1, 0, some (9, true)⟩

/-- Witness. -/
def witUpd75 : Letter := ⟨2, 0x5003, true, 1, 9, 0x0A, 2, 2#8 :: zeros 39, none, 3, 0⟩

/-- Witness. -/
def witUpd76 : Push := ⟨itemOf [(0, 1, 0x61), (2, 2, 0x5003), (4, 4, 7), (10, 2, 2)], zeros 8, zeros 16, 9, [], 1, 0, some (9, false)⟩

/-- Witness. -/
def witUpd77 : Letter := ⟨2, 0x5003, true, 1, 9, 0x0A, 2, 0#8 :: zeros 39, none, 3, 0⟩

/-- Witness. -/
def witUpd78 : Item := itemOf [(0, 1, 0x65), (1, 1, 0), (8, 2, 5)]

/-- Witness. -/
def witUpd79 : State := core0 { die 0 [(F.SRF_CTL_EN, 1), (F.SRF_POOLBASE_BASE, 16), (F.SRF_POOLLEN_LEN, 256), (F.SRF_TBLLEN_LEN, 66), (F.SRF_PFCFG_CACHE16, 1)] with srf := { State.reset.srf with surfs := [⟨5, 3, 4, true, false, none, false⟩], segs := [⟨3, 4, .loc 256⟩] }, upd := { State.reset.upd with flash := [(0x1000007, 1), (0x1000040, 6), (0x1000041, 0), (0x1000044, 0), (0x1000045, 4), (0x1000046, 0), (0x1000047, 0), (0x1000048, 0), (0x1000049, 0), (0x100004A, 0), (0x100004B, 4)] } } witUpd78

/-- Witness. -/
def witUpd80 : State := coreRelease witUpd79 0

/-- Witness. -/
def witUpd81 : Item := itemOf [(0, 1, 0x65), (1, 1, 1), (8, 2, 5)]

/-- Witness. -/
def witUpd82 : State := core0 { die 0 [(F.SRF_CTL_EN, 1), (F.SRF_POOLBASE_BASE, 16), (F.SRF_POOLLEN_LEN, 256), (F.SRF_TBLLEN_LEN, 66), (F.SRF_PFCFG_CACHE16, 1)] with srf := { State.reset.srf with surfs := [⟨5, 3, 4, true, false, none, false⟩], segs := [⟨3, 4, .loc 256⟩] }, upd := { State.reset.upd with flash := [(0x1000007, 1), (0x1000040, 6), (0x1000041, 0), (0x1000044, 0), (0x1000045, 4), (0x1000046, 0), (0x1000047, 0), (0x1000048, 0), (0x1000049, 0), (0x100004A, 0), (0x100004B, 4)] } } witUpd81

/-- Witness. -/
def witUpd83 : State := coreRelease witUpd82 0

theorem test_Parcels :
    (∃ (l : Letter) (x : State) (s : State) (c : Status), QueuesOk s ∧ ParcelTaken s 1 l x ∧ dataForm l.content ∧ parcelCheck x (beAt l.content 20 4) (slice l.content 4 16) (slice l.content 32 4096) false = c ∧ c ≠ .ok ∧ c ≠ .late) ∧
    (∃ (l : Letter) (x : State) (s : State) (c : Status), QueuesOk s ∧ ParcelTaken s 1 l x ∧ dataForm l.content ∧ parcelCheck x (beAt l.content 20 4) (slice l.content 4 16) (slice l.content 32 4096) false = c ∧ c ≠ .ok ∧ c ≠ .late) ∧
    (∃ (l : Letter) (x : State) (s : State) (c : Status), QueuesOk s ∧ ParcelTaken s 1 l x ∧ dataForm l.content ∧ parcelCheck x (beAt l.content 20 4) (slice l.content 4 16) (slice l.content 32 4096) false = c ∧ c ≠ .ok ∧ c ≠ .late) ∧
    (∃ (l : Letter) (x : State) (s : State), QueuesOk s ∧ ParcelTaken s 1 l x ∧ dataForm l.content ∧ parcelCheck x (beAt l.content 20 4) (slice l.content 4 16) (slice l.content 32 4096) false = .ok ∧ crc32 (slice l.content 32 4096) ≠ beAt l.content 24 4) ∧
    (∃ (l : Letter) (x : State) (s : State), QueuesOk s ∧ ParcelTaken s 1 l x ∧ dataForm l.content ∧ parcelCheck x (beAt l.content 20 4) (slice l.content 4 16) (slice l.content 32 4096) false = .ok ∧ crc32 (slice l.content 32 4096) = beAt l.content 24 4 ∧ parcelHeld x (beAt l.content 20 4) = false ∧ s.thm.shut = none) :=
  ⟨⟨witUpd1, { witUpd2 with chn := { witUpd2.chn with letters := [] } }, witUpd2, Status.wrongState, by decide +kernel⟩,
   ⟨witUpd3, { witUpd4 with chn := { witUpd4.chn with letters := [] } }, witUpd4, Status.range, by decide +kernel⟩,
   ⟨witUpd5, { witUpd6 with chn := { witUpd6.chn with letters := [] } }, witUpd6, Status.staleState, by decide +kernel⟩,
   ⟨witUpd7, { witUpd8 with chn := { witUpd8.chn with letters := [] } }, witUpd8, by decide +kernel, by decide +kernel, by decide +kernel, by decide +kernel, by rw [show (witUpd7).content = parcelOf 64 5 from rfl, parcelOf_data, crc32_zeros]; decide +kernel⟩,
   ⟨witUpd9, { witUpd10 with chn := { witUpd10.chn with letters := [] } }, witUpd10, by decide +kernel, by decide +kernel, by decide +kernel, by decide +kernel, by rw [show (witUpd9).content = parcelOf 65 0xC71C0011 from rfl, parcelOf_data, crc32_zeros]; decide +kernel, by decide +kernel, by decide +kernel⟩⟩

theorem test_Parcels_2 :
    (∃ (l : Letter) (x : State) (s : State), ParcelTaken s 2 l x ∧ parcelForm l.content = true) ∧
    (∃ (l : Letter) (x : State) (s : State), ParcelTaken s 2 l x ∧ parcelForm l.content = true) ∧
    (∃ (l : Letter) (x : State) (s : State), QueuesOk s ∧ ParcelTaken s 3 l x ∧ parcelForm l.content = true ∧ armable s = false) ∧
    (∃ (l : Letter) (x : State) (s : State), QueuesOk s ∧ ParcelTaken s 3 l x ∧ parcelForm l.content = true ∧ armable s = true ∧ (byteAt l.content 28).testBit 0 = false ∧ s.lmp.mode ≠ none ∧ s.lmp.pend = none ∧ matOrAfter 32 (beAt l.content 24 4) s.lmp.nextA = true) ∧
    (∃ (l : Letter) (x : State) (s : State), QueuesOk s ∧ ParcelTaken s 3 l x ∧ parcelForm l.content = true ∧ armable s = true ∧ (byteAt l.content 28).testBit 0 = false ∧ s.lmp.mode ≠ none ∧ s.lmp.pend = none ∧ matOrAfter 32 (beAt l.content 24 4) s.lmp.nextA = true) :=
  ⟨⟨witUpd11, { witUpd12 with chn := { witUpd12.chn with letters := [] } }, witUpd12, by decide +kernel⟩,
   ⟨witUpd13, { witUpd14 with chn := { witUpd14.chn with letters := [] } }, witUpd14, by decide +kernel⟩,
   ⟨witUpd15, { witUpd16 with chn := { witUpd16.chn with letters := [] } }, witUpd16, by decide +kernel⟩,
   ⟨witUpd17, { witUpd18 with chn := { witUpd18.chn with letters := [] } }, witUpd18, by decide +kernel⟩,
   ⟨witUpd19, { witUpd20 with chn := { witUpd20.chn with letters := [] } }, witUpd20, by decide +kernel⟩⟩

theorem test_Parcels_3 :
    (∃ (l : Letter) (x : State) (s : State), QueuesOk s ∧ ParcelTaken s 4 l x ∧ parcelForm l.content = true ∧ ustate s = 5) ∧
    (∃ (l : Letter) (x : State) (s : State), QueuesOk s ∧ ParcelTaken s 4 l x ∧ parcelForm l.content = true ∧ ustate s ≠ 5 ∧ ustate s ≠ 0 ∧ parcelOurs s l.content = true) ∧
    (∃ (l : Letter) (x : State) (s : State), QueuesOk s ∧ ParcelTaken s 4 l x ∧ parcelForm l.content = true ∧ ustate s ≠ 5 ∧ ustate s ≠ 0 ∧ parcelOurs s l.content = true) ∧
    (∃ (l : Letter) (x : State) (s : State), QueuesOk s ∧ ParcelTaken s 4 l x ∧ parcelForm l.content = true ∧ ustate s ≠ 5 ∧ ustate s ≠ 0 ∧ parcelOurs s l.content = true) ∧
    (∃ (l : Letter) (x : State) (s : State), QueuesOk s ∧ ParcelTaken s 4 l x ∧ parcelForm l.content = true ∧ ustate s ≠ 5 ∧ ustate s ≠ 0 ∧ parcelOurs s l.content = true) :=
  ⟨⟨witUpd21, { witUpd22 with chn := { witUpd22.chn with letters := [] } }, witUpd22, by decide +kernel⟩,
   ⟨witUpd23, { witUpd24 with chn := { witUpd24.chn with letters := [] } }, witUpd24, by decide +kernel⟩,
   ⟨witUpd25, { witUpd26 with chn := { witUpd26.chn with letters := [] } }, witUpd26, by decide +kernel⟩,
   ⟨witUpd27, { witUpd28 with chn := { witUpd28.chn with letters := [] } }, witUpd28, by decide +kernel⟩,
   ⟨witUpd29, { witUpd30 with chn := { witUpd30.chn with letters := [] } }, witUpd30, by decide +kernel⟩⟩

theorem test_Parcels_4 :
    (∃ (host : HostRes) (it : Item) (x : State) (b : Bytes) (z : _) (p : Pkg) (s : State), QueuesOk s ∧ EntryTaken s 0x17 0x60 it x ∧ updWaits s it = false ∧ updReserved it.entry = true ∧ leAt it.entry 10 2 = 1 ∧ updFetch x it.entry 4096 host = (.ok b, z) ∧ leAt it.entry 4 4 ≠ 0 ∧ ustate x = 1 ∧ x.upd.pkg = some p ∧ leAt it.entry 4 4 < nParcel p.manifest ∧ needed p.manifest (leAt it.entry 4 4) = true ∧ p.held.contains (leAt it.entry 4 4) = false ∧ s.thm.shut = none) ∧
    (∃ (o : FlashOp) (rest : List FlashOp) (s : State) (k : Nat) (d : Bytes) (who : PFrom) (p : Pkg), QueuesOk s ∧ blkOn s 0x17 = true ∧ s.upd.ops = o :: rest ∧ o = .parcel k d who ∧ s.upd.pkg = some p ∧ p.held.contains k = false) ∧
    (∃ (o : FlashOp) (rest : List FlashOp) (s : State) (k : Nat) (d : Bytes) (who : PFrom) (p : Pkg), QueuesOk s ∧ blkOn s 0x17 = true ∧ s.upd.ops = o :: rest ∧ o = .parcel k d who ∧ s.upd.pkg = some p ∧ p.held.contains k = false) ∧
    (∃ (ok : Bool) (o : FlashOp) (rest : List FlashOp) (s : State) (k : Nat), QueuesOk s ∧ blkOn s 0x17 = true ∧ s.upd.ops = o :: rest ∧ o = .erase k ∧ ok = true) ∧
    (∃ (ok : Bool) (o : FlashOp) (rest : List FlashOp) (s : State) (k : Nat), QueuesOk s ∧ blkOn s 0x17 = true ∧ s.upd.ops = o :: rest ∧ o = .erase k ∧ ok = true) :=
  ⟨⟨HostRes.busError, witUpd31, witUpd33, (zeros 4096), ((updFetch witUpd33 witUpd31.entry (4096) .busError).2), ⟨zeros 16, manOf 6 8192, [64], []⟩, witUpd32, by decide +kernel, by decide +kernel, by decide +kernel, by decide +kernel, by decide +kernel, Prod.ext ((congrArg Prod.fst (updFetch_ok (by decide +kernel))).trans (areaFetch_zeros (v := 3) (p := 3) (o := 0) (g := 256) (by decide +kernel))) rfl, by decide +kernel⟩,
   ⟨(.parcel 65 [1#8, 2#8] (.letter witUpd34)), [], { die 1 [(F.UPD_STAT_USTATE, 1)] with upd := { State.reset.upd with pkg := some ⟨zeros 16, manOf 6 8192, [64, 80], []⟩, ops := (.parcel 65 [1#8, 2#8] (.letter witUpd34)) :: [] } }, 65, [1#8, 2#8], (.letter witUpd34), ⟨zeros 16, manOf 6 8192, [64, 80], []⟩, by decide +kernel⟩,
   ⟨(.parcel 65 [1#8, 2#8] (.letter witUpd34)), [], { die 1 [(F.UPD_STAT_USTATE, 1)] with upd := { State.reset.upd with pkg := some ⟨zeros 16, manOf 6 8192, [64, 80], []⟩, ops := (.parcel 65 [1#8, 2#8] (.letter witUpd34)) :: [] } }, 65, [1#8, 2#8], (.letter witUpd34), ⟨zeros 16, manOf 6 8192, [64, 80], []⟩, by decide +kernel⟩,
   ⟨true, (.erase 0), [.newMaps], { die 1 [] with upd := { State.reset.upd with pkg := some ⟨zeros 16, manOf 6 8192, [64, 80], []⟩, ops := (.erase 0) :: [.newMaps], flash := [(slotStart State.reset 0, 5), (slotStart State.reset 0 + 65535, 6), (slotStart State.reset 1 - 1, 7), (slotStart State.reset 1, 5), (slotStart State.reset 1 + 65535, 6), (slotStart State.reset 1 + 65536, 7)] } }, 0, by decide +kernel⟩,
   ⟨true, (.erase 0), [.newMaps], { die 1 [] with upd := { State.reset.upd with pkg := some ⟨zeros 16, manOf 6 8192, [64, 80], []⟩, ops := (.erase 0) :: [.newMaps], flash := [(slotStart State.reset 0, 5), (slotStart State.reset 0 + 65535, 6), (slotStart State.reset 1 - 1, 7), (slotStart State.reset 1, 5), (slotStart State.reset 1 + 65535, 6), (slotStart State.reset 1 + 65536, 7)] } }, 0, by decide +kernel⟩⟩

theorem test_Parcels_5 :
    (∃ (ok : Bool) (o : FlashOp) (rest : List FlashOp) (s : State) (k : Nat), QueuesOk s ∧ blkOn s 0x17 = true ∧ s.upd.ops = o :: rest ∧ o = .erase k ∧ ok = true) ∧
    (∃ (ok : Bool) (o : FlashOp) (rest : List FlashOp) (s : State) (k : Nat), QueuesOk s ∧ blkOn s 0x17 = true ∧ s.upd.ops = o :: rest ∧ o = .erase k ∧ ok = true) ∧
    (∃ (ok : Bool) (o : FlashOp) (rest : List FlashOp) (s : State) (k : Nat), QueuesOk s ∧ blkOn s 0x17 = true ∧ s.upd.ops = o :: rest ∧ o = .erase k ∧ ok = true) ∧
    (∃ (ok : Bool) (o : FlashOp) (rest : List FlashOp) (s : State) (k : Nat), QueuesOk s ∧ blkOn s 0x17 = true ∧ s.upd.ops = o :: rest ∧ o = .erase k ∧ ok = true) ∧
    (∃ (ok : Bool) (o : FlashOp) (rest : List FlashOp) (s : State) (k : Nat), QueuesOk s ∧ blkOn s 0x17 = true ∧ s.upd.ops = o :: rest ∧ o = .erase k ∧ ok = true) :=
  ⟨⟨true, (.erase 0), [.newMaps], { die 1 [] with upd := { State.reset.upd with pkg := some ⟨zeros 16, manOf 6 8192, [64, 80], []⟩, ops := (.erase 0) :: [.newMaps], flash := [(slotStart State.reset 0, 5), (slotStart State.reset 0 + 65535, 6), (slotStart State.reset 1 - 1, 7), (slotStart State.reset 1, 5), (slotStart State.reset 1 + 65535, 6), (slotStart State.reset 1 + 65536, 7)] } }, 0, by decide +kernel⟩,
   ⟨true, (.erase 0), [.newMaps], { die 1 [] with upd := { State.reset.upd with pkg := some ⟨zeros 16, manOf 6 8192, [64, 80], []⟩, ops := (.erase 0) :: [.newMaps], flash := [(slotStart State.reset 0, 5), (slotStart State.reset 0 + 65535, 6), (slotStart State.reset 1 - 1, 7), (slotStart State.reset 1, 5), (slotStart State.reset 1 + 65535, 6), (slotStart State.reset 1 + 65536, 7)] } }, 0, by decide +kernel⟩,
   ⟨true, (.erase 0), [.newMaps], { die 1 [] with upd := { State.reset.upd with pkg := some ⟨zeros 16, manOf 6 8192, [64, 80], []⟩, ops := (.erase 0) :: [.newMaps], flash := [(slotStart State.reset 0, 5), (slotStart State.reset 0 + 65535, 6), (slotStart State.reset 1 - 1, 7), (slotStart State.reset 1, 5), (slotStart State.reset 1 + 65535, 6), (slotStart State.reset 1 + 65536, 7)] } }, 0, by decide +kernel⟩,
   ⟨true, (.erase 0), [.newMaps], { die 1 [] with upd := { State.reset.upd with pkg := some ⟨zeros 16, manOf 6 8192, [64, 80], []⟩, ops := (.erase 0) :: [.newMaps], flash := [(slotStart State.reset 0, 5), (slotStart State.reset 0 + 65535, 6), (slotStart State.reset 1 - 1, 7), (slotStart State.reset 1, 5), (slotStart State.reset 1 + 65535, 6), (slotStart State.reset 1 + 65536, 7)] } }, 0, by decide +kernel⟩,
   ⟨true, (.erase 0), [.newMaps], { die 1 [] with upd := { State.reset.upd with pkg := some ⟨zeros 16, manOf 6 8192, [64, 80], []⟩, ops := (.erase 0) :: [.newMaps], flash := [(slotStart State.reset 0, 5), (slotStart State.reset 0 + 65535, 6), (slotStart State.reset 1 - 1, 7), (slotStart State.reset 1, 5), (slotStart State.reset 1 + 65535, 6), (slotStart State.reset 1 + 65536, 7)] } }, 0, by decide +kernel⟩⟩

theorem test_Parcels_6 :
    (∃ (ok : Bool) (o : FlashOp) (rest : List FlashOp) (s : State) (k : Nat), QueuesOk s ∧ blkOn s 0x17 = true ∧ s.upd.ops = o :: rest ∧ o = .erase k ∧ ok = true) ∧
    (∃ (o : FlashOp) (rest : List FlashOp) (s : State), QueuesOk s ∧ blkOn s 0x17 = true ∧ s.upd.ops = o :: rest ∧ o = .newMaps) ∧
    (∃ (o : FlashOp) (rest : List FlashOp) (s : State) (r : JRec), QueuesOk s ∧ blkOn s 0x17 = true ∧ s.upd.ops = o :: rest ∧ o = .journal r) :=
  ⟨⟨true, (.erase 0), [.newMaps], { die 1 [] with upd := { State.reset.upd with pkg := some ⟨zeros 16, manOf 6 8192, [64, 80], []⟩, ops := (.erase 0) :: [.newMaps], flash := [(slotStart State.reset 0, 5), (slotStart State.reset 0 + 65535, 6), (slotStart State.reset 1 - 1, 7), (slotStart State.reset 1, 5), (slotStart State.reset 1 + 65535, 6), (slotStart State.reset 1 + 65536, 7)] } }, 0, by decide +kernel⟩,
   ⟨.newMaps, [.erase 1], { die 1 [] with upd := { State.reset.upd with pkg := some ⟨zeros 16, manOf 6 8192, [64, 80], []⟩, ops := .newMaps :: [.erase 1], maps := 3 } }, by decide +kernel⟩,
   ⟨(.journal ⟨5, 1, 2, 3, 4, 5, 6, 7, 8, 9⟩), [.newMaps], { die 1 [] with upd := { State.reset.upd with pkg := some ⟨zeros 16, manOf 6 8192, [64, 80], []⟩, ops := (.journal ⟨5, 1, 2, 3, 4, 5, 6, 7, 8, 9⟩) :: [.newMaps] } }, ⟨5, 1, 2, 3, 4, 5, 6, 7, 8, 9⟩, by decide +kernel⟩⟩

theorem test_Activation :
    (∃ (it : Item) (x : State) (s : State), QueuesOk s ∧ EntryTaken s 0x17 0x62 it x ∧ updReserved it.entry = true ∧ armable x = false) ∧
    (∃ (it : Item) (x : State) (s : State), QueuesOk s ∧ EntryTaken s 0x17 0x62 it x ∧ updReserved it.entry = true ∧ armable x = true ∧ NoModeHeld x ∧ (byteAt it.entry 1).testBit 0 = false ∧ cadenceOn x = true ∧ matOrAfter 32 (leAt it.entry 4 4) (nextBoundary x) = true) ∧
    (∃ (it : Item) (x : State) (s : State), QueuesOk s ∧ EntryTaken s 0x17 0x62 it x ∧ updReserved it.entry = true ∧ armable x = true ∧ NoModeHeld x ∧ (byteAt it.entry 1).testBit 0 = false ∧ cadenceOn x = true ∧ matOrAfter 32 (leAt it.entry 4 4) (nextBoundary x) = true) ∧
    (∃ (it : Item) (x : State) (s : State), QueuesOk s ∧ EntryTaken s 0x17 0x62 it x ∧ updReserved it.entry = true ∧ armable x = true ∧ NoModeHeld x ∧ (byteAt it.entry 1).testBit 0 = true ∧ s.thm.shut = none) ∧
    (∃ (it : Item) (x : State) (s : State), QueuesOk s ∧ EntryTaken s 0x17 0x62 it x ∧ updReserved it.entry = true ∧ armable x = true ∧ NoModeHeld x ∧ (byteAt it.entry 1).testBit 0 = true ∧ s.thm.shut = none) :=
  ⟨⟨witUpd35, witUpd37, witUpd36, by decide +kernel⟩,
   ⟨witUpd38, witUpd40, witUpd39, by decide +kernel⟩,
   ⟨witUpd41, witUpd43, witUpd42, by decide +kernel⟩,
   ⟨witUpd44, witUpd46, witUpd45, by decide +kernel⟩,
   ⟨witUpd47, witUpd49, witUpd48, by decide +kernel⟩⟩

theorem test_Activation_2 :
    (∃ (it : Item) (x : State) (s : State), QueuesOk s ∧ EntryTaken s 0x17 0x63 it x ∧ updReserved it.entry = true ∧ ustate x = 5) ∧
    (∃ (it : Item) (x : State) (s : State), QueuesOk s ∧ EntryTaken s 0x17 0x63 it x ∧ updReserved it.entry = true ∧ ustate x ≠ 5) ∧
    (∃ (it : Item) (x : State) (s : State), QueuesOk s ∧ EntryTaken s 0x17 0x64 it x ∧ updReserved it.entry = true ∧ (ustate x = 0 ∨ ustate x = 5)) ∧
    (∃ (it : Item) (x : State) (s : State), QueuesOk s ∧ EntryTaken s 0x17 0x64 it x ∧ updReserved it.entry = true ∧ (ustate x = 0 ∨ ustate x = 5)) ∧
    (∃ (it : Item) (x : State) (s : State), QueuesOk s ∧ EntryTaken s 0x17 0x64 it x ∧ updReserved it.entry = true ∧ ustate x ≠ 0 ∧ ustate x ≠ 5) :=
  ⟨⟨witUpd50, witUpd52, witUpd51, by decide +kernel⟩,
   ⟨witUpd53, witUpd55, witUpd54, by decide +kernel⟩,
   ⟨witUpd56, witUpd58, witUpd57, by decide +kernel⟩,
   ⟨witUpd59, witUpd61, witUpd60, by decide +kernel⟩,
   ⟨witUpd62, witUpd64, witUpd63, by decide +kernel⟩⟩

theorem test_Activation_3 :
    (∃ (it : Item) (x : State) (s : State), QueuesOk s ∧ EntryTaken s 0x17 0x64 it x ∧ updReserved it.entry = true ∧ ustate x ≠ 0 ∧ ustate x ≠ 5) ∧
    (∃ (s : State), WriteOk s R.UPD_CTL (F.UPD_CTL_CONFIRM.put 0#32 1)) ∧
    (∃ (s : State), QueuesOk s ∧ WriteOk s R.UPD_CTL (F.UPD_CTL_ABANDON.put 0#32 1)) ∧
    (∃ (s : State), QueuesOk s ∧ WriteOk s R.UPD_CTL (F.UPD_CTL_ABANDON.put 0#32 1)) ∧
    (∃ (p : Pkg) (s : State), blkOn s 0x17 = true ∧ isReady s = true ∧ ustate s = 2 ∧ s.upd.pkg = some p ∧ 0 ∈ partsOf p.manifest 1 ++ partsOf p.manifest 2 ∧ imageOk (partType p.manifest 0) (partBytes s (stagingSlot s) p.manifest 0) = false) :=
  ⟨⟨witUpd65, witUpd67, witUpd66, by decide +kernel⟩,
   ⟨up1 { die 0 [(F.UPD_STAT_USTATE, 5)] with upd := { State.reset.upd with pkg := some ⟨zeros 16, manOf 6 8192, [], []⟩ } }, by decide +kernel⟩,
   ⟨up1 { die 0 [(F.UPD_STAT_USTATE, 1)] with upd := { State.reset.upd with pkg := some ⟨zeros 16, manOf 6 8192, [], []⟩, arm := some ⟨300, some (itemOf []), false⟩ } }, by decide +kernel⟩,
   ⟨up1 { die 0 [(F.UPD_STAT_USTATE, 4)] with upd := { State.reset.upd with pkg := some ⟨zeros 16, manOf 6 8192, [], []⟩, arm := some ⟨300, some (itemOf []), false⟩ } }, by decide +kernel⟩,
   ⟨⟨zeros 16, manOf 1 100, [0, 64], []⟩, { die 1 [(F.UPD_STAT_USTATE, 2)] with upd := { State.reset.upd with pkg := some ⟨zeros 16, manOf 1 100, [0, 64], []⟩ } }, by decide +kernel⟩⟩

theorem test_Activation_4 :
    (∃ (p : Pkg) (s : State), blkOn s 0x17 = true ∧ isReady s = true ∧ ustate s = 2 ∧ s.upd.pkg = some p) ∧
    (∃ (dt : Nat) (a : Arm) (s : State), QueuesOk s ∧ blkOn (advance dt s) 0x17 = true ∧ ustate s = 4 ∧ s.upd.arm = some a ∧ s.thm.shut = none ∧ ((cadenceOn (advance dt s) = false ∨ (isTile s = true ∧ mafter 32 s.lmp.nextA a.frame = true) ∨ (isTile s = false ∧ matOrAfter 32 (getF s F.FRT_FRAME_FRAME) a.frame = true)))) ∧
    (∃ (dt : Nat) (a : Arm) (s : State), QueuesOk s ∧ blkOn (advance dt s) 0x17 = true ∧ ustate s = 4 ∧ s.upd.arm = some a ∧ s.thm.shut = none ∧ ((cadenceOn (advance dt s) = false ∨ (isTile s = true ∧ mafter 32 s.lmp.nextA a.frame = true) ∨ (isTile s = false ∧ matOrAfter 32 (getF s F.FRT_FRAME_FRAME) a.frame = true)))) ∧
    (∃ (dt : Nat) (a : Arm) (s : State), QueuesOk s ∧ blkOn (advance dt s) 0x17 = true ∧ ustate s = 4 ∧ s.upd.arm = some a ∧ s.thm.shut = none ∧ ((cadenceOn (advance dt s) = false ∨ (isTile s = true ∧ mafter 32 s.lmp.nextA a.frame = true) ∨ (isTile s = false ∧ matOrAfter 32 (getF s F.FRT_FRAME_FRAME) a.frame = true)))) ∧
    (∃ (dt : Nat) (a : Arm) (s : State), QueuesOk s ∧ blkOn (advance dt s) 0x17 = true ∧ ustate s = 4 ∧ s.upd.arm = some a ∧ s.thm.shut = none ∧ ((cadenceOn (advance dt s) = false ∨ (isTile s = true ∧ mafter 32 s.lmp.nextA a.frame = true) ∨ (isTile s = false ∧ matOrAfter 32 (getF s F.FRT_FRAME_FRAME) a.frame = true)))) :=
  ⟨⟨⟨zeros 16, manOf 6 100, [0, 64], []⟩, { die 1 [(F.UPD_STAT_USTATE, 2)] with upd := { State.reset.upd with pkg := some ⟨zeros 16, manOf 6 100, [0, 64], []⟩ } }, by decide +kernel⟩,
   ⟨9, ⟨101, none, false⟩, { die 0 [(F.UPD_STAT_USTATE, 4)] with upd := { State.reset.upd with arm := some ⟨101, none, false⟩ } }, by decide +kernel⟩,
   ⟨9, ⟨101, none, false⟩, { die 1 [(F.UPD_STAT_USTATE, 4)] with upd := { State.reset.upd with arm := some ⟨101, none, false⟩ } }, by decide +kernel⟩,
   ⟨9, ⟨101, none, false⟩, { die 1 [(F.UPD_STAT_USTATE, 4)] with upd := { State.reset.upd with arm := some ⟨101, none, false⟩ }, lmp := { State.reset.lmp with mode := some ⟨16666666, 0, 5000000, 4000000, 100000, 1, 0, 100, 1000, false⟩, last := some 100, nextA := 102 } }, by decide +kernel⟩,
   ⟨9, ⟨101, none, false⟩, { die 0 [(F.UPD_STAT_USTATE, 4), (F.FRT_CTL_EN, 1), (F.FRT_FRAME_FRAME, 101)] with upd := { State.reset.upd with arm := some ⟨101, none, false⟩ }, frt := { State.reset.frt with mode := some ⟨16666666, 0, 5000000, 4000000, 100000, 1, 0, 100, 1000, false⟩ } }, by decide +kernel⟩⟩

theorem test_Activation_5 :
    (∃ (s : State), blkOn s 0x17 = true ∧ ustate s = 5 ∧ trialOk s = true ∧ recBusy s = false ∧ s.thm.shut = none) ∧
    (∃ (s : State), blkOn s 0x17 = true ∧ ustate s = 5 ∧ trialOk s = true ∧ recBusy s = false ∧ s.thm.shut = none) ∧
    (∃ (dt : Nat) (a : Nat) (s : State), QueuesOk s ∧ blkOn (advance dt s) 0x17 = true ∧ s.upd.readyAt = some a ∧ ustate s = 5 ∧ a + getF s F.UPD_CFG_CONFS * 1000000000 ≤ upNs (advance dt s) ∧ recBusy s = false ∧ s.boot.warm = .none) ∧
    (∃ (len : Nat) (s : State), len < 2 ^ 23 ∧ WriteOk s R.UPD_RECOV (F.UPD_RECOV_GO.put (F.UPD_RECOV_LEN.put 0#32 len) 1) ∧ imageOk 1 (rdBytes recovFill s.upd.recov 0 len) = false) ∧
    (∃ (len : Nat) (s : State), len < 2 ^ 23 ∧ WriteOk s R.UPD_RECOV (F.UPD_RECOV_GO.put (F.UPD_RECOV_LEN.put 0#32 len) 1) ∧ imageOk 1 (rdBytes recovFill s.upd.recov 0 len) = false) :=
  ⟨⟨{ die 1 [(F.UPD_STAT_USTATE, 5), (F.LNK_PSTAT_STATE 1, pUp), (F.UPD_CFG_HOSTCONF, 0)] with upd := { State.reset.upd with readyAt := some 0, running := 1, trial := true } }, by decide +kernel⟩,
   ⟨{ die 0 [(F.UPD_STAT_USTATE, 5), (F.UPD_CFG_HOSTCONF, 1)] with upd := { State.reset.upd with readyAt := some 0, running := 1, trial := true, confirm := true, ops := [.newMaps] } }, by decide +kernel⟩,
   ⟨9, 0, { die 0 [(F.UPD_STAT_USTATE, 5), (F.UPD_CFG_CONFS, 1)] with up := 999999991, upd := { State.reset.upd with readyAt := some 0 } }, by decide +kernel⟩,
   ⟨100, up1 (setF (die 1 []) F.GLB_BOOTSTAT_STAGE 9), by decide +kernel⟩,
   ⟨0, up1 (setF (die 0 []) F.GLB_BOOTSTAT_STAGE 9), by decide +kernel⟩⟩

theorem test_PushAndHostImage :
    (∃ (host : HostRes) (it : Item) (x : State) (b : Bytes) (z : _) (s : State), QueuesOk s ∧ EntryTaken s 0x17 0x61 it x ∧ updWaits s it = false ∧ updReserved it.entry = true ∧ isSender x = true ∧ updFetch x it.entry (4096 * leAt it.entry 10 2) host = (.ok b, z) ∧ isBroadcast (leAt it.entry 2 2) = false) ∧
    (∃ (host : HostRes) (it : Item) (x : State) (b : Bytes) (z : _) (s : State), QueuesOk s ∧ EntryTaken s 0x17 0x61 it x ∧ updWaits s it = false ∧ updReserved it.entry = true ∧ isSender x = true ∧ updFetch x it.entry (4096 * leAt it.entry 10 2) host = (.ok b, z) ∧ isBroadcast (leAt it.entry 2 2) = true ∧ getF x F.UPD_TXCFG_RATE = 0 ∧ x.upd.txAt = []) ∧
    (∃ (l : Letter) (rest : List Letter) (y : Push) (ys : List Push) (s : State), QueuesOk s ∧ blkOn s 0x17 = true ∧ isSender s = true ∧ s.chn.letters = l :: rest ∧ s.upd.pushes = y :: ys ∧ isReply s l = true ∧ pushAwaits l y = true ∧ l.lfl.testBit 0 = false ∧ byteAt l.content 0 ≠ 0) ∧
    (∃ (l : Letter) (rest : List Letter) (y : Push) (ys : List Push) (s : State), QueuesOk s ∧ blkOn s 0x17 = true ∧ isSender s = true ∧ s.chn.letters = l :: rest ∧ s.upd.pushes = y :: ys ∧ isReply s l = true ∧ pushAwaits l y = true ∧ l.lfl.testBit 0 = false ∧ byteAt l.content 0 = 0 ∧ y.wait.any Prod.snd = false ∧ y.left = [] ∧ leAt y.item.entry 4 4 + leAt y.item.entry 10 2 ≤ y.next) ∧
    (∃ (it : Item) (x : State) (s : State) (i : Nat), QueuesOk s ∧ EntryTaken s 0x17 0x65 it x ∧ updReserved it.entry = true ∧ (partsOf (slotManifest x x.upd.running) 6)[byteAt it.entry 1]? = some i ∧ partInherit (slotManifest x x.upd.running) i = false ∧ updArea x it.entry (partLen (slotManifest x x.upd.running) i) = .ok) :=
  ⟨⟨HostRes.busError, witUpd68, witUpd70, (zeros 8192), ((updFetch witUpd70 witUpd68.entry (4096 * leAt witUpd68.entry 10 2) .busError).2), witUpd69, by decide +kernel, by decide +kernel, by decide +kernel, by decide +kernel, by decide +kernel, Prod.ext ((congrArg Prod.fst (updFetch_ok (by decide +kernel))).trans (areaFetch_zeros (v := 3) (p := 3) (o := 0) (g := 256) (by decide +kernel))) rfl, by decide +kernel⟩,
   ⟨HostRes.busError, witUpd71, witUpd73, (zeros 8192), ((updFetch witUpd73 witUpd71.entry (4096 * leAt witUpd71.entry 10 2) .busError).2), witUpd72, by decide +kernel, by decide +kernel, by decide +kernel, by decide +kernel, by decide +kernel, Prod.ext ((congrArg Prod.fst (updFetch_ok (by decide +kernel))).trans (areaFetch_zeros (v := 3) (p := 3) (o := 0) (g := 256) (by decide +kernel))) rfl, by decide +kernel⟩,
   ⟨witUpd75, [], witUpd74, [], { die 0 [(F.LNK_PCTL_EN 2, 1), (F.CHN_PORTCTL_CHAIN 2, 5), (F.LNK_PSTAT_STATE 2, pUp)] with upd := { State.reset.upd with pushes := [witUpd74] }, chn := { State.reset.chn with letters := [witUpd75] } }, by decide +kernel⟩,
   ⟨witUpd77, [], witUpd76, [], { die 0 [(F.LNK_PCTL_EN 2, 1), (F.CHN_PORTCTL_CHAIN 2, 5), (F.LNK_PSTAT_STATE 2, pUp)] with upd := { State.reset.upd with pushes := [witUpd76] }, chn := { State.reset.chn with letters := [witUpd77] } }, by decide +kernel⟩,
   ⟨witUpd78, witUpd80, witUpd79, 0, by decide +kernel⟩⟩

theorem test_PushAndHostImage_2 : ∃ (it : Item) (x : State) (s : State), QueuesOk s ∧ EntryTaken s 0x17 0x65 it x ∧ updReserved it.entry = true ∧ (partsOf (slotManifest x x.upd.running) 6)[byteAt it.entry 1]? = none ∧ updArea x it.entry 0 = .ok :=
  ⟨witUpd81, witUpd83, witUpd82, by decide +kernel⟩

end Sys2Proof.Machine
end

section
/-! PROOF. Host accesses: what a read or write of BAR0 or BAR2 does where the function is reached, the error log, the reads that
change the state, and the order of the event queue (R98, R102, R103, R152, R358, R540, R605 to R607). -/

namespace Sys2Proof.Machine

/-! ### The order of events of one instant (R605) -/

theorem insertEvent_perm (e : Ev) (l : List Ev) : (insertEvent e l).Perm (e :: l) := by
  induction l with
  | nil => exact .refl _
  | cons x l ih =>
    rw [insertEvent]
    split
    · exact .refl _
    · exact (ih.cons x).trans (.swap e x l)

/-- Inserting an event among events that stand in order keeps the order. -/
theorem insertEvent_pairwise (e : Ev) {l : List Ev} (h : l.Pairwise (fun a b => a.key ≤ b.key)) :
    (insertEvent e l).Pairwise (fun a b => a.key ≤ b.key) := by
  induction l with
  | nil => simp [insertEvent]
  | cons x l ih =>
    obtain ⟨hx, hl⟩ := List.pairwise_cons.1 h
    rw [insertEvent]
    split
    case isTrue hlt =>
      refine List.pairwise_cons.2 ⟨fun b hb => ?_, h⟩
      rcases List.mem_cons.1 hb with rfl | hb
      · exact hlt.le
      · exact hlt.le.trans (hx b hb)
    case isFalse hge =>
      refine List.pairwise_cons.2 ⟨fun b hb => ?_, ih hl⟩
      rcases List.mem_cons.1 ((insertEvent_perm e l).mem_iff.1 hb) with rfl | hb
      · exact Nat.le_of_not_lt hge
      · exact hx b hb

/-- The events of earlier instants stay in front; the new one takes its place behind them. -/
theorem eventsWith_drop (s : State) (e : Ev) :
    (eventsWith s e).drop (s.hif.events.length - eventsNow s) =
      insertEvent e (s.hif.events.drop (s.hif.events.length - eventsNow s)) :=
  List.drop_left' (by simp)

theorem eventsWith_perm (s : State) (e : Ev) : (eventsWith s e).Perm (e :: s.hif.events) := by
  have h := ((insertEvent_perm e (s.hif.events.drop (s.hif.events.length - eventsNow s))).append_left
    (s.hif.events.take (s.hif.events.length - eventsNow s))).trans List.perm_middle
  rwa [List.take_append_drop] at h

/-! ### The error log (R102, R103) -/

/-- Raising an event writes no register below the Pending Bit Array but the count of events lost. -/
theorem word_raise (s : State) (code : Nat) (det : Bytes) {off : Nat} (hovf : off ≠ R.GLB_EVTOVF) (hoff : off < 0x38000) :
    (raise s code det).word off = s.word off :=
  word_of_regs (raise_regs s code det (fun k => by omega) (Ne.symm hovf) (fun i => by simp only [R.CHN_PERR]; omega)
    RegsBut.same)

/-- The empty error log filled with a refused access. -/
def errorFilled (s : State) (src off : Nat) (c : Status) : State :=
  setF (setF (setF (setF (setF s F.GLB_ERRLOG_OFFSET off) F.GLB_ERRLOG_CODE c.code) F.GLB_ERRINFO_SRC src)
    F.GLB_ERRINFO_VALID 1) F.GLB_ERRINFO_COUNT 1

theorem logError_of_empty {s : State} (h : getF s F.GLB_ERRINFO_VALID = 0) (src off : Nat) (c : Status) :
    ∃ det, logError s src off c = raise (errorFilled s src off c) 0x0002 det :=
  ⟨_, if_neg (by simp [isSet, h])⟩

theorem getF_logError_of_empty {s : State} (h : getF s F.GLB_ERRINFO_VALID = 0) (src off : Nat) (c : Status) {f : Fld}
    (hf : f.off < R.GLB_EVTOVF) : getF (logError s src off c) f = getF (errorFilled s src off c) f := by
  obtain ⟨det, e⟩ := logError_of_empty h src off c
  rw [e, getF, word_raise _ _ _ hf.ne (hf.trans (by decide)), getF]

theorem getF_errorFilled (s : State) {src : Nat} (off : Nat) (c : Status) (hsrc : src < 4) :
    getF (errorFilled s src off c) F.GLB_ERRINFO_VALID = 1 ∧ getF (errorFilled s src off c) F.GLB_ERRINFO_COUNT = 1 ∧
      getF (errorFilled s src off c) F.GLB_ERRINFO_SRC = src ∧ getF (errorFilled s src off c) F.GLB_ERRLOG_CODE = c.code := by
  unfold errorFilled
  refine ⟨?_, ?_, ?_, ?_⟩
  · rw [getF_setF_other _ _ (by decide) (by decide), getF_setF_same _ _ _ (by decide)]
    rfl
  · exact getF_setF_same _ _ _ (by decide)
  · rw [getF_setF_other _ _ (by decide) (by decide), getF_setF_other _ _ (by decide) (by decide),
      getF_setF_same _ _ _ (by decide)]
    exact Nat.mod_eq_of_lt hsrc
  · rw [getF_setF_other _ _ (by decide) (by decide), getF_setF_other _ _ (by decide) (by decide),
      getF_setF_other _ _ (by decide) (by decide), getF_setF_same _ _ _ (by decide)]
    cases c <;> rfl

theorem clearErrors_empties (s : State) :
    getF (clearErrors s) F.GLB_ERRINFO_VALID = 0 ∧ getF (clearErrors s) F.GLB_ERRINFO_OVER = 0 ∧
      getF (clearErrors s) F.GLB_ERRINFO_COUNT = 0 ∧ (clearErrors s).word R.GLB_ERRLOG = 0#32 := by
  have info (f : Fld) (hf : f.off ≠ R.GLB_ERRLOG) : getF (clearErrors s) f =
      getF (setF (setF (setF s F.GLB_ERRINFO_VALID 0) F.GLB_ERRINFO_OVER 0) F.GLB_ERRINFO_COUNT 0) f :=
    congrArg f.get (word_setWord_ne _ _ hf)
  refine ⟨?_, ?_, ?_, word_setWord_same _ _ _⟩
  · rw [info _ (by decide), getF_setF_other _ _ (by decide) (by decide), getF_setF_other _ _ (by decide) (by decide)]
    exact getF_setF_same _ _ _ (by decide)
  · rw [info _ (by decide), getF_setF_other _ _ (by decide) (by decide)]
    exact getF_setF_same _ _ _ (by decide)
  · rw [info _ (by decide)]
    exact getF_setF_same _ _ _ (by decide)

/-! ### Writes (R5, R98) -/

theorem dormant_hif_of_barOpen {s : State} (h : barOpen s = true) : dormant s 0x02 = false := by
  simp only [barOpen, blkOn, Bool.and_eq_true, Bool.not_eq_true'] at h
  obtain ⟨⟨⟨⟨_, hd⟩, _⟩, _⟩, _⟩ := h
  exact hd

theorem regWrite_register (s : State) (src : Nat) {off : Nat} (w : Word) (hm : ¬ (0x30000 ≤ off ∧ off < 0x38100))
    (hr : off < 0x800000) : (regWrite s src off w).2 =
      if writeCode s off w = .ok then regEffect s (storeReg s off w) off w else logError s src off (writeCode s off w) := by
  unfold regWrite
  rw [if_neg (fun h => hm ⟨h.1, h.2.1⟩), if_neg (fun h => by omega)]
  split
  case h_1 hok => rw [if_pos hok]
  case h_2 hne => rw [if_neg hne]

theorem hostWrite_accepted {s : State} {off : Nat} {w : Word} (hm : ¬ (0x30000 ≤ off ∧ off < 0x38100)) (hr : off < 0x800000)
    (h : WriteOk s off w) : hostWrite s off w = regEffect s (storeReg s off w) off w := by
  rw [hostWrite, if_pos h.1, regWrite_register s _ w hm hr, if_pos h.2]

theorem hostWrite_refused {s : State} {off : Nat} {w : Word} (hm : ¬ (0x30000 ≤ off ∧ off < 0x38100)) (hr : off < 0x800000)
    (hb : barOpen s = true) (h : writeCode s off w ≠ .ok) :
    hostWrite s off w = logError s srcBar0 off (writeCode s off w) := by
  rw [hostWrite, if_pos hb, regWrite_register s _ w hm hr, if_neg h]

/-- A write of a word of the MSI-X table; vectors it unmasks then go out (R99). -/
theorem hostWrite_msix {s : State} {off : Nat} (w : Word) (hlo : 0x30000 ≤ off) (hhi : off < 0x38000) (hb : barOpen s = true) :
    hostWrite s off w = sendPending (setMsixWord s off w) := by
  rw [hostWrite, if_pos hb, regWrite,
    if_pos ⟨hlo, by omega, by rw [dormant_hif_of_barOpen hb]; rfl⟩, if_pos hhi]

theorem word_sendPending (s : State) {off : Nat} (h : off < 0x38000) : (sendPending s).word off = s.word off :=
  word_of_regs (sendPending_regs s (fun k => by omega) RegsBut.same)

section
variable {s : State} {off : Nat} (hb : barOpen s = true)
include hb

theorem barWrite_four (v : Nat) (h4 : off % 4 = 0) : barWrite s 4 off v = hostWrite s off (BitVec.ofNat 32 v) := by
  simp [barWrite, hb, h4]

theorem barWrite_eight (v : Nat) (h8 : off % 8 = 0) : barWrite s 8 off v =
    hostWrite (hostWrite s off (BitVec.ofNat 32 v)) (off + 4) (BitVec.ofNat 32 (v / 2 ^ 32)) := by
  simp [barWrite, hb, h8]

theorem barWrite_misaligned {size : Nat} (v : Nat) (h4 : ¬ (size = 4 ∧ off % 4 = 0)) (h8 : ¬ (size = 8 ∧ off % 8 = 0)) :
    barWrite s size off v = logError s srcBar0 off (misalignCode s off) := by
  rw [barWrite, hb, if_neg (by decide), if_neg h4, if_neg h8]

end

/-- A write of ERRINFO with VALID = 1 clears the log (R102). -/
theorem regEffect_errinfo (s t : State) :
    regEffect s t R.GLB_ERRINFO (F.GLB_ERRINFO_VALID.put 0#32 1) = clearErrors t := by
  rw [regEffect_00 _ _ _ (by decide), effectGlb, if_pos rfl, if_pos (by decide)]

/-! ### Reads (R98, R118) -/

theorem barRead_four (s : State) (bar2 : Bool) {off : Nat} (h4 : off % 4 = 0) : barRead s bar2 4 off = barRead4 s bar2 off :=
  if_pos ⟨rfl, h4⟩

theorem barRead_eight (s : State) (bar2 : Bool) {off : Nat} (h8 : off % 8 = 0) :
    barRead s bar2 8 off = barRead4 (barRead4 s bar2 off) bar2 (off + 4) := by
  rw [barRead, if_neg (by omega), if_pos ⟨rfl, h8⟩]

theorem barRead_misaligned (s : State) (bar2 : Bool) {size off : Nat} (h4 : ¬ (size = 4 ∧ off % 4 = 0))
    (h8 : ¬ (size = 8 ∧ off % 8 = 0)) :
    barRead s bar2 size off = emit (logError s (b2n bar2) off .align) (.readData off 0xFFFFFFFF) := by
  rw [barRead, if_neg h4, if_neg h8]
  cases bar2 <;> rfl

theorem doorbellRead_page {s : State} {q : Nat} (hq : q < 4096) (hd : dormant s 0x04 = false) :
    doorbellRead s (4096 * q) = qTail s q + 2 ^ 16 * qRetire s q := by
  have hdiv : 4096 * q / 4096 = q := by omega
  rw [doorbellRead, hdiv, if_pos ⟨hq, by omega, by simp [hd]⟩]

theorem hostRead_of_regRead {s x : State} {off : Nat} {w : Word} (hb : barOpen s = true) (h : regRead s off = (w, x)) :
    hostRead s off = emit x (.readData off w.toNat) := by
  rw [hostRead, if_pos hb, h]

theorem out_emit (s : State) (o : Out) : (emit s o).out = s.out ++ [o] := rfl

theorem word_emit (s : State) (o : Out) (off : Nat) : (emit s o).word off = s.word off := rfl

/-! ### The reads that change the state (R152, R358, R540, R606) -/

/-- GLB_EVTQ is a register of GLB, which is never dormant. -/
theorem readsReset_evtq (s : State) : readsReset s R.GLB_EVTQ = false := by
  have hd : dormant s 0 = false := by
    unfold dormant
    split
    · decide
    · split <;> simp
  have hp : portReg s R.GLB_EVTQ = false := rfl
  have ht : tanOther s R.GLB_EVTQ = false := by
    simp [tanOther, show ¬ R.TAN_CFG ≤ R.GLB_EVTQ by decide, show ¬ R.TAN_TSTAT ≤ R.GLB_EVTQ by decide]
  have hc : calAway s R.GLB_EVTQ = false := rfl
  rw [readsReset, show regBlock R.GLB_EVTQ = 0 from rfl, hd, hp, ht, hc]
  rfl

theorem regRead_evtq (s : State) : regRead s R.GLB_EVTQ = eventRead s := by
  obtain ⟨r, hr⟩ := Option.isSome_iff_exists.1 (show (regAt R.GLB_EVTQ).isSome = true by decide)
  rw [regRead, if_neg (by decide), if_neg (fun hw => absurd hw.1 (by decide)), hr]
  simp only [readsReset_evtq, Bool.false_eq_true, if_false, if_true]

theorem regRead_nowlo {s : State} (h : readsReset s R.TIM_NOWLO = false) : regRead s R.TIM_NOWLO = nowRead s := by
  obtain ⟨r, hr⟩ := Option.isSome_iff_exists.1 (show (regAt R.TIM_NOWLO).isSome = true by decide)
  rw [regRead, if_neg (by decide), if_neg (fun hw => absurd hw.1 (by decide)), hr]
  simp only [h, Bool.false_eq_true, if_false, if_true]
  rw [if_neg (by decide)]

theorem regRead_nonce {s : State} (h : readsReset s (R.SEC_NONCE 0) = false) :
    regRead s (R.SEC_NONCE 0) = ((drawNonce s).word (R.SEC_NONCE 0), drawNonce s) := by
  obtain ⟨r, hr⟩ := Option.isSome_iff_exists.1 (show (regAt (R.SEC_NONCE 0)).isSome = true by decide)
  rw [regRead, if_neg (by decide), if_neg (fun hw => absurd hw.1 (by decide)), hr]
  simp only [h, Bool.false_eq_true, if_false, if_true]
  rw [if_neg (by decide), if_neg (by decide)]

/-- The offset of DMA_CHBYTLO of channel `c`, as a number. -/
theorem chbytlo_eq {c : Nat} (hc : c < 64) : R.DMA_CHBYTLO c = 0x81010 + 0x20 * c := by
  simp only [R.DMA_CHBYTLO, Nat.mod_eq_of_lt hc]

theorem regAt_chbytlo {c : Nat} (hc : c < 64) : (regAt (R.DMA_CHBYTLO c)).isSome = true := by
  have all : ∀ c < 64, (regAt (R.DMA_CHBYTLO c)).isSome = true := by decide
  exact all c hc

theorem regIdx_chbytlo {c : Nat} (hc : c < 64) : regIdx R.DMA_CHBYTLO 64 (R.DMA_CHBYTLO c) = some c := by
  have hd : R.DMA_CHBYTLO c - R.DMA_CHBYTLO 0 = 0x20 * c := by
    rw [chbytlo_eq hc]
    exact Nat.add_sub_cancel_left _ _
  have hs : R.DMA_CHBYTLO 1 - R.DMA_CHBYTLO 0 = 0x20 := rfl
  have hle : R.DMA_CHBYTLO 0 ≤ R.DMA_CHBYTLO c := Nat.add_le_add_left (by simp) _
  simp [regIdx, hd, hs, hle, hc]

theorem regRead_chbytlo {s : State} {c : Nat} (hc : c < 64) (h : readsReset s (R.DMA_CHBYTLO c) = false) :
    regRead s (R.DMA_CHBYTLO c) = bytesRead s c := by
  obtain ⟨r, hr⟩ := Option.isSome_iff_exists.1 (regAt_chbytlo hc)
  have hoff : 0x81010 ≤ R.DMA_CHBYTLO c ∧ R.DMA_CHBYTLO c < 0x82000 := by rw [chbytlo_eq hc]; omega
  have hother (o : Nat) (ho : o < 0x81010 ∨ 0x82000 ≤ o) : R.DMA_CHBYTLO c ≠ o := by omega
  rw [regRead, if_neg (by omega), if_neg (by omega), hr]
  simp only [h, Bool.false_eq_true, if_false]
  rw [if_neg (hother _ (by decide)), if_neg (hother _ (by decide)), if_neg (hother _ (by decide)), regIdx_chbytlo hc]

/-- The completion of a read of GLB_EVTQ: VALID, the number of events left, and the code (R606). -/
theorem evtq_word_toNat (code left : Nat) :
    (BitVec.ofNat 32 (code % 2 ^ 16 + 2 ^ 16 * (left % 128) + 2 ^ 31)).toNat =
      code % 2 ^ 16 + 2 ^ 16 * (left % 128) + 2 ^ 31 := by
  rw [BitVec.toNat_ofNat, Nat.mod_eq_of_lt (by omega)]

theorem drawNonce_nonce (s : State) : (drawNonce s).sec.nonce = some (fit 16 (Config.random s.free 16)) := rfl

theorem drawNonce_free (s : State) : (drawNonce s).free = s.free + 1 := rfl

theorem drawNonce_out (s : State) : (drawNonce s).out = s.out := rfl

/-! ### The end of a block reset (R81) -/

/-- What follows once the bit of a block is cleared writes registers of LNK, TIM and SPK, never GLB_BLKRST. -/
theorem blockResetEnd_clears {s : State} {k : Nat} (hr : blkReset s k = true) (ht : s.boot.blkAt.getD k 0 + 1000 ≤ upNs s) :
    RegsBut (fun o => o ≠ R.GLB_BLKRST) (setBitF s F.GLB_BLKRST_BLK k false) (blockResetEnd s k) := by
  have apart {o : Nat} (ho : 0x10000 ≤ o) : o ≠ R.GLB_BLKRST := fun e => absurd (e ▸ ho) (by decide)
  have ports (t : State) (l : List Nat) (all : Bool) : RegsBut (fun o => o ≠ R.GLB_BLKRST) t (startPorts t l all) :=
    startPorts_regs t l all (apart (by decide)) (fun i => apart (Nat.le_add_right_of_le (by decide)))
      (fun i => apart (Nat.le_add_right_of_le (by decide))) RegsBut.same
  rw [blockResetEnd, if_neg (not_or.2 ⟨by simp [hr], Nat.not_lt.2 ht⟩)]
  refine RegsBut.ite ?tim (RegsBut.ite ?tan (RegsBut.ite ?lmp (RegsBut.ite ?cal (RegsBut.ite ?lnk RegsBut.same))))
  case tim =>
    apply timResetEnd_regs _ _ _ _ _ _ _ RegsBut.same <;> exact fun i => apart (Nat.le_add_right_of_le (by decide))
  case tan => exact tanResetEnd_regs _ RegsBut.same
  case lmp => exact lmpResetEnd_regs _ (apart (by decide)) (fun i => apart (Nat.le_add_right_of_le (by decide))) RegsBut.same
  case cal => exact calTimer_regs _ RegsBut.same
  case lnk => exact RegsBut.ite (ports _ _ _) (RegsBut.ite (ports _ _ _) RegsBut.same)

theorem blkReset_blockResetEnd {s : State} {k : Nat} (hk : k < 32) (hr : blkReset s k = true)
    (ht : s.boot.blkAt.getD k 0 + 1000 ≤ upNs s) : blkReset (blockResetEnd s k) k = false := by
  have hkeep : fbit (blockResetEnd s k) F.GLB_BLKRST_BLK k = fbit (setBitF s F.GLB_BLKRST_BLK k false) F.GLB_BLKRST_BLK k :=
    congrArg (fun n => n.testBit k) (getF_of_regs (blockResetEnd_clears hr ht))
  rw [blkReset, hkeep, fbit_setBitF_same _ _ _ _ (by decide) hk]

/-! ### The commands -/

/-- ERRINFO_CLEAR, where its write is accepted, empties the log (R102). -/
theorem exec_errinfoClear {s : State} (h : WriteOk s R.GLB_ERRINFO (F.GLB_ERRINFO_VALID.put 0#32 1)) :
    exec .errinfoClear s = .next (clearErrors (storeReg s R.GLB_ERRINFO (F.GLB_ERRINFO_VALID.put 0#32 1))) :=
  congrArg Host.Outcome.next ((hostWrite_accepted (by decide) (by decide) h).trans (regEffect_errinfo ..))

/-- REGISTER_WRITE of 4 aligned bytes is one host write (R98). -/
theorem exec_registerWrite_four {s : State} {off : Nat} (hb : barOpen s = true) (v : Nat) (h4 : off % 4 = 0) :
    exec (.registerWrite 4 off v) s = .next (hostWrite s off (BitVec.ofNat 32 v)) :=
  congrArg Host.Outcome.next (barWrite_four hb v h4)

/-- A read of BAR0 or BAR2 where the host reaches the function (R98). -/
theorem exec_barRead {s : State} (hb : barOpen s = true) (bar2 : Bool) (size off : Nat) :
    exec (.barMisalignedRead bar2 size off) s = .next (barRead s bar2 size off) :=
  congrArg Host.Outcome.next (if_pos hb)

/-- A misaligned read is answered with all ones, and fills an empty error log with ALIGN (R98, R103). -/
theorem barRead_misaligned_logs (s : State) (bar2 : Bool) {size off : Nat} (h4 : ¬ (size = 4 ∧ off % 4 = 0))
    (h8 : ¬ (size = 8 ∧ off % 8 = 0)) :
    (barRead s bar2 size off).out.getLast? = some (.readData off 0xFFFFFFFF) ∧
      (getF s F.GLB_ERRINFO_VALID = 0 → getF (barRead s bar2 size off) F.GLB_ERRINFO_VALID = 1 ∧
        getF (barRead s bar2 size off) F.GLB_ERRINFO_COUNT = 1 ∧
        getF (barRead s bar2 size off) F.GLB_ERRINFO_SRC = b2n bar2 ∧
        getF (barRead s bar2 size off) F.GLB_ERRLOG_CODE = Status.align.code) := by
  rw [barRead_misaligned s bar2 h4 h8]
  refine ⟨by simp [out_emit], fun hv => ?_⟩
  have hlog (f : Fld) (hf : f.off < R.GLB_EVTOVF) :
      getF (emit (logError s (b2n bar2) off .align) (.readData off 0xFFFFFFFF)) f =
        getF (errorFilled s (b2n bar2) off .align) f := getF_logError_of_empty hv _ _ _ hf
  rw [hlog _ (by decide), hlog _ (by decide), hlog _ (by decide), hlog _ (by decide)]
  exact getF_errorFilled s off .align (by cases bar2 <;> decide)

/-- EVTQ_READ takes the oldest event and shows its time and details (R606). -/
theorem exec_evtqRead {s : State} {e : Ev} {l : List Ev} (hb : barOpen s = true) (he : s.hif.events = e :: l) :
    ∃ t, exec .evtqRead s = .next t ∧ t.hif.events = l ∧
      t.out = s.out ++ [.readData R.GLB_EVTQ (e.code % 2 ^ 16 + 2 ^ 16 * (l.length % 128) + 2 ^ 31)] ∧
      t.word R.GLB_EVTTIME = BitVec.ofNat 32 e.time ∧ t.word R.GLB_EVTDET0 = BitVec.ofNat 32 (beAt e.det 0 4) ∧
      t.word R.GLB_EVTDET1 = BitVec.ofNat 32 (beAt e.det 4 4) := by
  have hread := regRead_evtq s
  rw [eventRead, he] at hread
  refine ⟨_, congrArg Host.Outcome.next (hostRead_of_regRead hb hread), rfl, ?_, ?_, ?_, ?_⟩
  · rw [evtq_word_toNat]
    rfl
  · exact (word_setWord_ne _ _ (by decide)).trans ((word_setWord_ne _ _ (by decide)).trans (word_setWord_same _ _ _))
  · exact (word_setWord_ne _ _ (by decide)).trans (word_setWord_same _ _ _)
  · exact word_setWord_same _ _ _

/-- DMA_BYTES_READ answers the low half of the count and shows the high half (R152). -/
theorem exec_dmaBytesRead {s : State} {c : Nat} (hc : c < 64) (hb : barOpen s = true)
    (hr : readsReset s (R.DMA_CHBYTLO c) = false) :
    ∃ t, exec (.dmaBytesRead c) s = .next t ∧ t.word (R.DMA_CHBYTHI c) = BitVec.ofNat 32 ((chan s c).bytes / 2 ^ 32) ∧
      t.out = s.out ++ [.readData (R.DMA_CHBYTLO c) ((chan s c).bytes % 2 ^ 32)] := by
  have hread := hostRead_of_regRead hb (regRead_chbytlo hc hr)
  refine ⟨_, congrArg Host.Outcome.next ((if_pos hc).trans hread), word_setWord_same _ _ _, ?_⟩
  rw [BitVec.toNat_ofNat]
  rfl

/-- TIM_NOW_READ answers TIME_NS and shows TIME_FRAC and the wraps of the same instant (R358). -/
theorem exec_timNowRead {dt : Nat} {s : State} (hb : barOpen (advance dt s) = true)
    (hr : readsReset (advance dt s) R.TIM_NOWLO = false) :
    ∃ t, exec (.timNowRead dt) s = .next t ∧ t.word R.TIM_NOWFR = BitVec.ofNat 32 (timeFrac (advance dt s)) ∧
      t.word R.TIM_NOWWR = BitVec.ofNat 32 (advance dt s).wraps ∧
      t.out = (advance dt s).out ++ [.readData R.TIM_NOWLO (timeNs (advance dt s))] := by
  have hns : (BitVec.ofNat 32 (timeNs (advance dt s))).toNat = timeNs (advance dt s) :=
    (BitVec.toNat_ofNat _ _).trans (Nat.mod_mod _ _)
  refine ⟨_, congrArg Host.Outcome.next (hostRead_of_regRead hb (regRead_nowlo hr)), ?_, word_setWord_same _ _ _, ?_⟩
  · exact (word_setWord_ne _ _ (by decide)).trans (word_setWord_same _ _ _)
  · rw [hns]
    rfl

/-- SEC_NONCE_READ draws a nonce and answers its first word (R540). -/
theorem exec_secNonceRead {s : State} (hb : barOpen s = true) (hr : readsReset s (R.SEC_NONCE 0) = false) :
    ∃ t, exec .secNonceRead s = .next t ∧ t.sec.nonce = some (fit 16 (Config.random s.free 16)) ∧ t.free = s.free + 1 ∧
      t.out = s.out ++ [.readData (R.SEC_NONCE 0) (t.word (R.SEC_NONCE 0)).toNat] := by
  refine ⟨_, congrArg Host.Outcome.next (hostRead_of_regRead hb (regRead_nonce hr)), ?_, ?_, ?_⟩
  · rw [emit_sec, drawNonce_nonce]
  · rw [emit_free, drawNonce_free]
  · rw [word_emit, out_emit, drawNonce_out]

/-- BLOCK_RESET_END where the device is in no reset and not OFF (R81). -/
theorem exec_blockResetEnd {dt k : Nat} {s : State} (hr : inReset (advance dt s) = false) (hp : power (advance dt s) ≠ 4) :
    exec (.blockResetEnd dt k) s = .next (blockResetEnd (advance dt s) k) :=
  congrArg Host.Outcome.next (if_neg (by simp [hr, hp]))

/-- Settles O20, clause by clause: the writes, the error log, the reads, the end of a block reset, and the event queue. -/
theorem hostAccess : Obligations.HostAccess := by
  unfold Obligations.HostAccess
  refine ⟨?write, ?refused, ?msix, ?eight, ?misaligned, ?clear, ?readMisaligned, ?readFour, ?readEight, ?doorbell, ?evtq,
    ?bytes, ?now, ?nonce, ?resetEnd, ?events⟩
  case write =>
    intro off v s h4 hm hr h
    rw [exec_registerWrite_four h.1 v h4, hostWrite_accepted hm hr h]
  case refused =>
    intro off v s h4 hm hr hb h
    rw [exec_registerWrite_four hb v h4, hostWrite_refused hm hr hb h]
  case msix =>
    intro off v s h4 hlo hhi hb
    refine ⟨_, exec_registerWrite_four hb v h4, ?_⟩
    rw [hostWrite_msix _ hlo hhi hb, word_sendPending _ hhi]
    exact word_setWord_same _ _ _
  case eight => exact fun off v s h8 hb => congrArg Host.Outcome.next (barWrite_eight hb v h8)
  case misaligned => exact fun size off v s hb h4 h8 => congrArg Host.Outcome.next (barWrite_misaligned hb v h4 h8)
  case clear => exact fun s h => ⟨_, exec_errinfoClear h, clearErrors_empties _⟩
  case readMisaligned =>
    exact fun bar2 size off s hb h4 h8 => ⟨_, exec_barRead hb .., barRead_misaligned_logs s bar2 h4 h8⟩
  case readFour =>
    intro off s hb h4
    rw [exec_barRead hb, barRead_four s _ h4]
    rfl
  case readEight =>
    intro off s hb h8
    rw [exec_barRead hb, barRead_eight s _ h8]
    rfl
  case doorbell =>
    intro q s hq hb hd
    refine ⟨_, exec_barRead hb .., ?_⟩
    rw [barRead_four s _ (by omega), ← doorbellRead_page hq hd]
    rfl
  case evtq => exact fun e l s hb he => exec_evtqRead hb he
  case bytes => exact fun c s hc hb hr => exec_dmaBytesRead hc hb hr
  case now => exact fun dt s hb hr => exec_timNowRead hb hr
  case nonce => exact fun s hb hr => exec_secNonceRead hb hr
  case resetEnd =>
    exact fun dt k s hr hp hk hblk ht => ⟨_, exec_blockResetEnd hr hp, blkReset_blockResetEnd hk hblk ht⟩
  case events =>
    intro e s h
    rw [eventsWith_drop]
    exact ⟨insertEvent_pairwise e h, eventsWith_perm s e⟩

end Sys2Proof.Machine
end

section
/-! PROOF. Supplies and cold reset: the state after reset, what an asserted cold reset leaves, the rails, the hardware trip, and the
start of a cold boot (R19, R43 to R47, R76 to R78, R83, R512). -/

namespace Sys2Proof.Machine

/-! ### Fields -/

/-- A field of one bit that is not 0 is 1. -/
theorem getF_one_of_isSet {s : State} {f : Fld} (hw : f.width = 1) (h : isSet s f = true) : getF s f = 1 := by
  have hlt := getF_lt s f
  rw [hw] at hlt
  have hne : getF s f ≠ 0 := by simpa [isSet] using h
  omega

/-- A field set where `c` holds. -/
def setIf (c : Bool) (s : State) (f : Fld) (v : Nat) : State := if c then setF s f v else s

@[simp] theorem setIf_boot (c : Bool) (s : State) (f : Fld) (v : Nat) : (setIf c s f v).boot = s.boot := by cases c <;> rfl
@[simp] theorem setIf_lnk (c : Bool) (s : State) (f : Fld) (v : Nat) : (setIf c s f v).lnk = s.lnk := by cases c <;> rfl
@[simp] theorem setIf_free (c : Bool) (s : State) (f : Fld) (v : Nat) : (setIf c s f v).free = s.free := by cases c <;> rfl

theorem getF_setIf_same {c : Bool} (hc : c = true) (s : State) {f : Fld} (v : Nat) (h : f.lo + f.width ≤ 32) :
    getF (setIf c s f v) f = v % 2 ^ f.width := by
  rw [setIf, if_pos hc, getF_setF_same _ _ _ h]

theorem getF_setIf_other (c : Bool) (s : State) {f g : Fld} (v : Nat) (h : f.apart g = true) (hg : g.lo + g.width ≤ 32) :
    getF (setIf c s f v) g = getF s g := by
  cases c
  · rfl
  · exact getF_setF_other s v h hg

/-- A cause: the first to be recorded sets the flag `f` and its number in `g`; a later one changes neither (R44, R512). -/
def recordFirst (s : State) (f g : Fld) (k : Nat) : State := if isSet s f then s else setF (setF s f 1) g k

section
variable (s : State) (f g : Fld) (k : Nat)

@[simp] theorem recordFirst_boot : (recordFirst s f g k).boot = s.boot := by unfold recordFirst; split <;> rfl
@[simp] theorem recordFirst_sec : (recordFirst s f g k).sec = s.sec := by unfold recordFirst; split <;> rfl
@[simp] theorem recordFirst_upd : (recordFirst s f g k).upd = s.upd := by unfold recordFirst; split <;> rfl
@[simp] theorem recordFirst_pending : (recordFirst s f g k).pending = s.pending := by unfold recordFirst; split <;> rfl

end

theorem getF_recordFirst_flag (s : State) {f g : Fld} (k : Nat) (hw : f.width = 1) (hf : f.lo + f.width ≤ 32)
    (h : g.apart f = true) : getF (recordFirst s f g k) f = 1 := by
  unfold recordFirst
  split
  case isTrue hset => exact getF_one_of_isSet hw hset
  case isFalse => simp [getF_setF_other _ _ h hf, getF_setF_same _ _ _ hf, hw]

theorem getF_recordFirst_number {s : State} {f : Fld} (g : Fld) {k : Nat} (h0 : getF s f = 0) (hg : g.lo + g.width ≤ 32)
    (hk : k < 2 ^ g.width) : getF (recordFirst s f g k) g = k := by
  rw [recordFirst, if_neg (by simp [isSet, h0]), getF_setF_same _ _ _ hg, Nat.mod_eq_of_lt hk]

/-! ### What an asserted cold reset leaves (R76, R78) -/

/-- The parts that turning the pads off touches: the display, what it sends, and the queues and surfaces it releases. -/
abbrev displayParts : List Part := [.regs, .hif, .queues, .sor, .srf, .lmp, .spk, .ring, .out]

theorem padsOff_keeps_others (s : State) : Keeps displayParts s (padsOff s) :=
  padsOff_keeps s (by decide) (by decide) (by decide) (by decide) (by decide) (by decide) (by decide) (by decide) (by decide)
    Keeps.same

theorem padsOff_pending (s : State) : (padsOff s).pending = s.pending := (padsOff_keeps_others s).1

theorem padsOff_same (s : State) (p : Part) (h : p ∉ displayParts) : p.same s (padsOff s) := by
  obtain ⟨_, _, same⟩ := padsOff_keeps_others s
  exact same p h

/-- The registers of the AON domain but CLK_LOCK, which a cold reset leaves whole. -/
abbrev AonWord (off : Nat) : Prop := off = R.GLB_RSTCAUSE ∨ off = R.THM_TRIP

theorem word_padsOff_aon (s : State) {off : Nat} (h : AonWord off) : (padsOff s).word off = s.word off := by
  have hoff : off = 0x18 ∨ off = 0x140014 := h
  exact word_of_regs (padsOff_regs s (fun k => by omega) (fun i => by simp only [R.QUE_STAT]; omega)
    (fun i => by simp only [R.QUE_RET]; omega) (by simp only [R.SRF_STAT]; omega) (by simp only [R.SRF_FREEPG]; omega)
    (by simp only [R.SRF_RETIRED]; omega) (fun i => by simp only [R.SPK_SPKSTAT]; omega) RegsBut.same)

theorem word_flashCut_aon (s : State) {off : Nat} (h : AonWord off) : (flashCut s).word off = s.word off :=
  word_setF_ne _ F.NVM_STAT_BUSY 0 (by rcases h with rfl | rfl <;> decide)

/-- A cold reset is everything at reset with three fields of the AON domain kept, as they were with the pads off. -/
theorem coldReset_eq (s : State) : coldReset s =
    keepF (padsOff (flashCut s)) (keepF (padsOff (flashCut s)) (keepF (padsOff (flashCut s))
      (resetCore (padsOff (flashCut s))) ⟨R.GLB_RSTCAUSE, 0, 32⟩) ⟨R.THM_TRIP, 0, 32⟩) F.CLK_LOCK_REFOK := rfl

theorem word_resetCore (s : State) (off : Nat) : (resetCore s).word off = regFill off := rfl

theorem word_keepF_ne (old s : State) (f : Fld) {off : Nat} (h : off ≠ f.off) : (keepF old s f).word off = s.word off :=
  word_setF_ne s f _ h

section
variable (old s : State) (f : Fld)

@[simp] theorem keepF_boot : (keepF old s f).boot = s.boot := by rw [keepF, setF_boot]
@[simp] theorem keepF_queues : (keepF old s f).queues = s.queues := by rw [keepF, setF_queues]
@[simp] theorem keepF_sec : (keepF old s f).sec = s.sec := by rw [keepF, setF_sec]
@[simp] theorem keepF_lmp : (keepF old s f).lmp = s.lmp := by rw [keepF, setF_lmp]
@[simp] theorem keepF_upd : (keepF old s f).upd = s.upd := by rw [keepF, setF_upd]
@[simp] theorem keepF_dram : (keepF old s f).dram = s.dram := by rw [keepF, setF_dram]
@[simp] theorem keepF_ring : (keepF old s f).ring = s.ring := by rw [keepF, setF_ring]
@[simp] theorem keepF_pending : (keepF old s f).pending = s.pending := by rw [keepF, setF_pending]

end

/-- A register kept whole holds its old word. -/
theorem word_keepF_whole (old s : State) (off : Nat) : (keepF old s ⟨off, 0, 32⟩).word off = old.word off := by
  have h : getF (keepF old s ⟨off, 0, 32⟩) ⟨off, 0, 32⟩ = getF old ⟨off, 0, 32⟩ % 2 ^ 32 :=
    getF_setF_same _ _ _ (Nat.le_refl 32)
  simp only [getF, Fld.get, bits, pow_zero, Nat.div_one] at h
  apply BitVec.eq_of_toNat_eq
  omega

theorem word_coldReset_aon (s : State) {off : Nat} (h : AonWord off) : (coldReset s).word off = s.word off := by
  have kept : (coldReset s).word off = (padsOff (flashCut s)).word off := by
    rw [coldReset_eq]
    rcases h with rfl | rfl
    · rw [word_keepF_ne _ _ _ (by decide), word_keepF_ne _ _ _ (by decide), word_keepF_whole]
    · rw [word_keepF_ne _ _ _ (by decide), word_keepF_whole]
  rw [kept, word_padsOff_aon _ h, word_flashCut_aon _ h]

theorem getF_coldReset_aon (s : State) {f : Fld} (h : AonWord f.off) : getF (coldReset s) f = getF s f := by
  rw [getF, word_coldReset_aon s h, getF]

theorem word_coldReset (s : State) {off : Nat} (h1 : off ≠ R.GLB_RSTCAUSE) (h2 : off ≠ R.THM_TRIP) (h3 : off ≠ R.CLK_LOCK) :
    (coldReset s).word off = regFill off := by
  rw [coldReset_eq, word_keepF_ne _ _ _ h3, word_keepF_ne _ _ _ h2, word_keepF_ne _ _ _ h1, word_resetCore]

/-- Of CLK_LOCK only REFOK is kept: no PLL is locked in cold reset. -/
theorem getF_coldReset_lock (s : State) : getF (coldReset s) F.CLK_LOCK_LOCK = 0 := by
  rw [coldReset_eq, keepF, getF_setF_other _ _ (by decide) (by decide), getF, word_keepF_ne _ _ _ (by decide),
    word_keepF_ne _ _ _ (by decide), word_resetCore]
  decide

section
variable (s : State)

theorem coldReset_boot : (coldReset s).boot = (resetCore (padsOff (flashCut s))).boot := by
  rw [coldReset_eq]
  simp only [keepF_boot]

theorem coldReset_sec : (coldReset s).sec = (resetCore (padsOff (flashCut s))).sec := by
  rw [coldReset_eq]
  simp only [keepF_sec]

theorem coldReset_upd : (coldReset s).upd = (resetCore (padsOff (flashCut s))).upd := by
  rw [coldReset_eq]
  simp only [keepF_upd]

theorem resetCore_pending : (resetCore s).pending = s.pending := rfl

theorem resetCore_holds : (resetCore s).boot.pwronLow = s.boot.pwronLow ∧ (resetCore s).boot.railHold = s.boot.railHold ∧
    (resetCore s).boot.tripHold = s.boot.tripHold := ⟨rfl, rfl, rfl⟩
theorem resetCore_empties : (resetCore s).dram = [] ∧ (resetCore s).ring = [] ∧ (resetCore s).queues = [] ∧
    (resetCore s).lmp.lampEn = false := ⟨rfl, rfl, rfl, rfl⟩
theorem resetCore_fuses : (resetCore s).sec.fuses = s.sec.fuses := rfl
theorem resetCore_flash : (resetCore s).upd.flash = s.upd.flash := rfl

/-- What holds a cold reset stands after it. -/
theorem coldReset_holds : (coldReset s).boot.pwronLow = s.boot.pwronLow ∧
    (coldReset s).boot.railHold = s.boot.railHold ∧ (coldReset s).boot.tripHold = s.boot.tripHold := by
  have h : (padsOff (flashCut s)).boot = s.boot := padsOff_same (flashCut s) .boot (by decide)
  rw [coldReset_boot, ← h]
  exact resetCore_holds _

theorem coldHeld_coldReset : coldHeld (coldReset s) = coldHeld s := by
  obtain ⟨hp, hr, ht⟩ := coldReset_holds s
  rw [coldHeld, hp, hr, ht, coldHeld]

theorem coldReset_pending : (coldReset s).pending = s.pending := by
  have h : (padsOff (flashCut s)).pending = (flashCut s).pending := padsOff_pending _
  rw [coldReset_eq]
  simp only [keepF_pending]
  rw [resetCore_pending, h, flashCut, setF_pending]

/-- The memories and the queues are empty and the lamps off. -/
theorem coldReset_empties : (coldReset s).dram = [] ∧ (coldReset s).ring = [] ∧ (coldReset s).queues = [] ∧
    (coldReset s).lmp.lampEn = false := by
  rw [coldReset_eq]
  simp only [keepF_dram, keepF_ring, keepF_queues, keepF_lmp]
  exact resetCore_empties _

theorem coldReset_fuses : (coldReset s).sec.fuses = s.sec.fuses := by
  have h : (padsOff (flashCut s)).sec.fuses = (flashCut s).sec.fuses := padsOff_same (flashCut s) .fuses (by decide)
  rw [coldReset_sec, resetCore_fuses, h, flashCut, setF_sec]

theorem coldReset_flash : (coldReset s).upd.flash = s.upd.flash := by
  have h : (padsOff (flashCut s)).upd.flash = (flashCut s).upd.flash := padsOff_same (flashCut s) .flash (by decide)
  rw [coldReset_upd, resetCore_flash, h, flashCut, setF_upd]

end

/-- A cold reset of `x`, where `x` holds it and has the fuses, the flash and the commands of `s`, leaves what `ColdLeft` says. -/
theorem coldLeft_coldReset {s x : State} (hc : coldHeld x = true) (hs : x.sec = s.sec) (hu : x.upd = s.upd)
    (hp : x.pending = s.pending) : ColdLeft s (coldReset x) := by
  obtain ⟨hdram, hring, hqueues, hlamp⟩ := coldReset_empties x
  exact ⟨(coldHeld_coldReset x).trans hc, fun _ h1 h2 h3 => word_coldReset x h1 h2 h3, getF_coldReset_lock x, hdram, hring, hqueues,
    hlamp, (coldReset_fuses x).trans (by rw [hs]), (coldReset_flash x).trans (by rw [hu]), (coldReset_pending x).trans hp⟩

/-! ### Rails (R44, R45, R47) -/

theorem lt_of_mem_faultRails {mask k : Nat} (h : k ∈ faultRails mask) : k < 10 :=
  List.mem_range.1 (List.mem_of_mem_filter h)

/-- The state that a rail fault resets: the rails are gone, the first is recorded, and the fault holds cold reset. -/
def railRecorded (s : State) (mask k : Nat) : State :=
  let x := recordFirst (railsGone s ((List.range 10).filter (fun k => mask.testBit k))) F.GLB_RSTCAUSE_RAIL F.GLB_RSTCAUSE_RAILNUM k
  { x with boot := { x.boot with railHold := true, railRec := true } }

theorem railFault_of_faultRails (s : State) {mask k : Nat} {l : List Nat} (h : faultRails mask = k :: l) :
    railFault s mask = coldReset (railRecorded s mask k) := by
  unfold railFault
  rw [h]
  rfl

theorem railFault_leaves (s : State) {mask k : Nat} {l : List Nat} (h : faultRails mask = k :: l) :
    ColdLeft s (railFault s mask) ∧ (railFault s mask).boot.railHold = true ∧ getF (railFault s mask) F.GLB_RSTCAUSE_RAIL = 1 ∧
      (getF s F.GLB_RSTCAUSE_RAIL = 0 → getF (railFault s mask) F.GLB_RSTCAUSE_RAILNUM = k) := by
  have hk : k < 10 := lt_of_mem_faultRails (by simp [h] : k ∈ faultRails mask)
  rw [railFault_of_faultRails s h]
  refine ⟨coldLeft_coldReset (by simp [coldHeld, railRecorded]) (recordFirst_sec ..) (recordFirst_upd ..) (recordFirst_pending ..),
    (coldReset_holds _).2.1, ?_, fun h0 => ?_⟩
  · rw [getF_coldReset_aon _ (.inl rfl)]
    exact getF_recordFirst_flag _ _ rfl (by decide) (by decide)
  · rw [getF_coldReset_aon _ (.inl rfl)]
    exact getF_recordFirst_number _ h0 (by decide) (hk.trans (by decide))

/-- The state in which a falling crossing of rail `k` raises its event. -/
def railDipped (s : State) (k : Nat) : State :=
  setBitF { s with boot := { s.boot with low := s.boot.low ++ [k] } } F.GLB_RAILSTAT_DIP k true

theorem eventsNow_congr {s t : State} (hh : t.hif = s.hif) (hu : t.up = s.up) : eventsNow t = eventsNow s := by
  rw [eventsNow, eventsNow, upNs, upNs, hh, hu]

/-- An event raised after an update that left the event queue and the time is raised all the same. -/
theorem raised_of_raise {s x : State} (hh : x.hif = s.hif) (hu : x.up = s.up) (ht : x.time = s.time) (code : Nat) (det : Bytes) :
    Raised s (raise x code det) code det := by
  intro h0 hlen
  rw [raise_events_room x code det (hh ▸ hlen) ((eventsNow_congr hh hu).trans h0), timeNs, timeNs, hh, ht]

@[simp] theorem railDipped_hif (s : State) (k : Nat) : (railDipped s k).hif = s.hif := by rw [railDipped, setBitF_hif]
@[simp] theorem railDipped_up (s : State) (k : Nat) : (railDipped s k).up = s.up := by rw [railDipped, setBitF_up]
@[simp] theorem railDipped_time (s : State) (k : Nat) : (railDipped s k).time = s.time := by rw [railDipped, setBitF_time]
@[simp] theorem railDipped_low (s : State) (k : Nat) : (railDipped s k).boot.low = s.boot.low ++ [k] := by
  rw [railDipped, setBitF_boot]

theorem railWarn_falling {s : State} {k : Nat} (hlow : k ∉ s.boot.low) (hr : inReset s = false) :
    railWarn s k true = raise (railDipped s k) 0x0003 [byte k] := by
  have hr' : inReset { s with boot := { s.boot with low := s.boot.low ++ [k] } } = false := hr
  simp [railWarn, hlow, hr', railDipped]

theorem raise_boot (s : State) (code : Nat) (det : Bytes) : (raise s code det).boot = s.boot :=
  same_of_keeps .boot (raise_keeps s code det (by decide) (by decide) (by decide) (by decide) Keeps.same)

theorem railWarn_falling_effect {s : State} {k : Nat} (hk : k < 10) (hlow : k ∉ s.boot.low) (hr : inReset s = false) :
    fbit (railWarn s k true) F.GLB_RAILSTAT_DIP k = true ∧ k ∈ (railWarn s k true).boot.low ∧
      Raised s (railWarn s k true) 0x0003 [byte k] := by
  rw [railWarn_falling hlow hr]
  refine ⟨?dip, ?low, raised_of_raise (by simp) (by simp) (by simp) _ _⟩
  case dip =>
    rw [fbit, getF, word_raise _ _ _ (by decide) (by decide)]
    exact fbit_setBitF_same _ _ _ _ (by decide) hk
  case low =>
    rw [raise_boot, railDipped_low]
    exact List.mem_append_right _ (List.mem_singleton_self k)

theorem railWarn_rising (s : State) (k : Nat) :
    k ∉ (railWarn s k false).boot.low ∧ (railWarn s k false).regs = s.regs := by
  simp [railWarn]

theorem exec_railWarn {k : Nat} (hk : k < 10) (below : Bool) (s : State) :
    exec (.railWarn ⟨k, below⟩) s = .next (railWarn s k below) :=
  congrArg Host.Outcome.next (if_pos hk)

/-! ### VDD_AON (R43) -/

theorem word_aonApply (s : State) (off : Nat) : (aonApply s).word off =
    ((s.setWord R.THM_TRIP (resetWord R.THM_TRIP)).setWord R.GLB_RSTCAUSE (resetWord R.GLB_RSTCAUSE)).word off := rfl

theorem aonApply_resets (s : State) :
    (aonApply s).word R.THM_TRIP = resetWord R.THM_TRIP ∧ (aonApply s).word R.GLB_RSTCAUSE = resetWord R.GLB_RSTCAUSE ∧
      (aonApply s).upd.aonTries = 0 ∧ (aonApply s).upd.aonFailed = none :=
  ⟨by rw [word_aonApply, word_setWord_ne _ _ (by decide), word_setWord_same], by rw [word_aonApply, word_setWord_same], rfl, rfl⟩

/-! ### The hardware trip and PWRON_RST_N (R76, R512) -/

/-- The state that a hardware trip resets: the first sensor is latched, the cause is set, and the trip holds cold reset. -/
def tripRecorded (s : State) (k : Nat) : State :=
  let x := setF (recordFirst s F.THM_TRIP_LATCH F.THM_TRIP_SENSOR k) F.GLB_RSTCAUSE_TRIP 1
  { x with boot := { x.boot with tripHold := true, tripCycled := false } }

theorem hardwareTrip_of_included {s : State} {k : Nat} (hk : k < 12) (hi : thmIncluded s k = true) :
    hardwareTrip s k = coldReset (tripRecorded s k) :=
  if_neg (by simp [hk, hi])

theorem getF_tripRecorded_other (s : State) (k : Nat) {g : Fld} (h : F.GLB_RSTCAUSE_TRIP.apart g = true)
    (hg : g.lo + g.width ≤ 32) :
    getF (tripRecorded s k) g = getF (recordFirst s F.THM_TRIP_LATCH F.THM_TRIP_SENSOR k) g :=
  getF_setF_other _ _ h hg

theorem hardwareTrip_leaves {s : State} {k : Nat} (hk : k < 12) (hi : thmIncluded s k = true) :
    ColdLeft s (hardwareTrip s k) ∧ (hardwareTrip s k).boot.tripHold = true ∧ getF (hardwareTrip s k) F.THM_TRIP_LATCH = 1 ∧
      getF (hardwareTrip s k) F.GLB_RSTCAUSE_TRIP = 1 ∧
      (getF s F.THM_TRIP_LATCH = 0 → getF (hardwareTrip s k) F.THM_TRIP_SENSOR = k) := by
  rw [hardwareTrip_of_included hk hi]
  refine ⟨coldLeft_coldReset (by simp [coldHeld, tripRecorded]) (recordFirst_sec ..) (recordFirst_upd ..) (recordFirst_pending ..),
    (coldReset_holds _).2.2, ?latch, ?cause, fun h0 => ?sensor⟩
  case latch =>
    rw [getF_coldReset_aon _ (.inr rfl), getF_tripRecorded_other _ _ (by decide) (by decide)]
    exact getF_recordFirst_flag _ _ rfl (by decide) (by decide)
  case cause =>
    rw [getF_coldReset_aon _ (.inl rfl)]
    exact getF_setF_same _ _ _ (by decide)
  case sensor =>
    rw [getF_coldReset_aon _ (.inr rfl), getF_tripRecorded_other _ _ (by decide) (by decide)]
    exact getF_recordFirst_number _ h0 (by decide) (hk.trans (by decide))

theorem pwronAssert_leaves (s : State) :
    ColdLeft s (pwronAssert s) ∧ (pwronAssert s).boot.pwronLow = true ∧ getF (pwronAssert s) F.GLB_RSTCAUSE_PWRON = 1 := by
  unfold pwronAssert
  refine ⟨coldLeft_coldReset rfl rfl rfl rfl, (coldReset_holds _).1, ?_⟩
  rw [getF_coldReset_aon _ (.inl rfl)]
  exact getF_setF_same _ _ _ (by decide)

/-! ### The start of a boot (R19, R77, R377) -/

theorem isTile_congr {s t : State} (h : strap t = strap s) : isTile t = isTile s := by rw [isTile, isTile, h]

/-- A boot start that has noted whether it follows a warm reset. -/
def warmMarked (s : State) (warm : Bool) : State :=
  setF { s with boot := { s.boot with warmBoot := warm } } F.GLB_BOOTSTAT_WARMBOOT (b2n warm)

/-- A boot start that has set strap fault hold, too, where the strap gives it (R19). -/
def holdMarked (s : State) (warm : Bool) : State :=
  setIf (strapFault (warmMarked s warm)) (warmMarked s warm) F.GLB_ROLE_HOLD 1

section
variable (s : State) (warm : Bool)

theorem bootStart_eq : bootStart s warm = setIf (isTile (holdMarked s warm)) (holdMarked s warm) (F.TIM_PGCFG_OWNED 15) 1 := rfl

theorem strap_warmMarked : strap (warmMarked s warm) = strap s := getF_setF_other _ _ (by decide) (by decide)

theorem strap_holdMarked : strap (holdMarked s warm) = strap s :=
  (getF_setIf_other _ _ _ (by decide) (by decide)).trans (strap_warmMarked s warm)

theorem strap_bootStart : strap (bootStart s warm) = strap s :=
  (getF_setIf_other _ _ _ (by decide) (by decide)).trans (strap_holdMarked s warm)

theorem getF_bootStart_warmboot : getF (bootStart s warm) F.GLB_BOOTSTAT_WARMBOOT = b2n warm := by
  rw [bootStart_eq, getF_setIf_other _ _ _ (by decide) (by decide), holdMarked,
    getF_setIf_other _ _ _ (by decide) (by decide), warmMarked, getF_setF_same _ _ _ (by decide)]
  cases warm <;> rfl

theorem word_bootStart_rstcause : (bootStart s warm).word R.GLB_RSTCAUSE = s.word R.GLB_RSTCAUSE :=
  word_of_regs (bootStart_regs s warm (by decide) (by decide) (fun i => by simp only [R.TIM_PGCFG, R.GLB_RSTCAUSE]; omega)
    RegsBut.same)

theorem bootStart_boot : (bootStart s warm).boot = { s.boot with warmBoot := warm } := by
  rw [bootStart_eq, setIf_boot, holdMarked, setIf_boot, warmMarked, setF_boot]

theorem bootStart_lnk : (bootStart s warm).lnk = s.lnk := by
  rw [bootStart_eq, setIf_lnk, holdMarked, setIf_lnk, warmMarked, setF_lnk]

variable {s}

/-- Strap fault hold (R19). -/
theorem getF_bootStart_hold (h : strap s = 3) : getF (bootStart s warm) F.GLB_ROLE_HOLD = 1 := by
  have hf : strapFault (warmMarked s warm) = true := beq_iff_eq.2 ((strap_warmMarked s warm).trans h)
  rw [bootStart_eq, getF_setIf_other _ _ _ (by decide) (by decide)]
  exact getF_setIf_same hf _ _ (by decide)

/-- The cadence generator of a tile is reserved (R377). -/
theorem getF_bootStart_owned (h : isTile s = true) : getF (bootStart s warm) (F.TIM_PGCFG_OWNED 15) = 1 :=
  getF_setIf_same ((isTile_congr (strap_holdMarked s warm)).trans h) _ _ (by decide)

end

/-! ### The release of cold reset (R76, R77, R83) -/

/-- The state in which a cold boot starts: nothing holds cold reset, the strap is sampled and the NONCE drawn. -/
def strapSampled (s : State) (sel : Nat) (uci : Bool) : State :=
  let x := setIf s.boot.pwronLow s F.GLB_RSTCAUSE_PWRON 1
  let x := setF { x with boot := { x.boot with
    pwronLow := false, railHold := false, tripHold := false, tripCycled := false,
    low := if uci then [] else [5], gone := if uci then [] else x.boot.gone.filter (· == 5) } } F.GLB_ROLE_STRAP sel
  { x with free := x.free + 1, lnk := { x.lnk with nonce := Config.freeNat x.free % 65536 } }

theorem coldRelease_of_held {s : State} (sel : Nat) (uci : Bool) (hc : coldHeld s = true)
    (ht : s.boot.tripHold = true → s.boot.tripCycled = true) :
    coldRelease s sel uci = bootStart (strapSampled s sel uci) false := by
  have hn : ¬ ((!coldHeld s) = true ∨ (s.boot.tripHold = true ∧ (!s.boot.tripCycled) = true)) := by simpa [hc] using ht
  rw [coldRelease, if_neg hn]
  rfl

section
variable (s : State) (sel : Nat) (uci : Bool)

theorem strap_strapSampled : strap (strapSampled s sel uci) = sel % 4 := getF_setF_same _ _ _ (by decide)

theorem coldHeld_strapSampled : coldHeld (strapSampled s sel uci) = false := rfl

theorem strapSampled_nonce : (strapSampled s sel uci).lnk.nonce = Config.freeNat s.free % 65536 := by
  rw [← setIf_free s.boot.pwronLow s F.GLB_RSTCAUSE_PWRON 1]
  rfl

variable {s} in
/-- PWRON_RST_N that held cold reset is a cause (R83). -/
theorem getF_strapSampled_pwron (h : s.boot.pwronLow = true) : getF (strapSampled s sel uci) F.GLB_RSTCAUSE_PWRON = 1 := by
  have e : getF (strapSampled s sel uci) F.GLB_RSTCAUSE_PWRON =
      getF (setIf s.boot.pwronLow s F.GLB_RSTCAUSE_PWRON 1) F.GLB_RSTCAUSE_PWRON :=
    getF_setF_other _ _ (by decide) (by decide)
  exact e.trans (getF_setIf_same h _ _ (by decide))

end

theorem coldRelease_starts {s : State} (sel : Nat) (uci : Bool) (hc : coldHeld s = true)
    (ht : s.boot.tripHold = true → s.boot.tripCycled = true) :
    coldHeld (coldRelease s sel uci) = false ∧ strap (coldRelease s sel uci) = sel % 4 ∧
      (coldRelease s sel uci).lnk.nonce = Config.freeNat s.free % 65536 ∧
      getF (coldRelease s sel uci) F.GLB_BOOTSTAT_WARMBOOT = 0 ∧
      (sel % 4 = 3 → getF (coldRelease s sel uci) F.GLB_ROLE_HOLD = 1) ∧
      (s.boot.pwronLow = true → getF (coldRelease s sel uci) F.GLB_RSTCAUSE_PWRON = 1) ∧
      (isTile (coldRelease s sel uci) = true → getF (coldRelease s sel uci) (F.TIM_PGCFG_OWNED 15) = 1) := by
  rw [coldRelease_of_held sel uci hc ht]
  have hstrap := strap_strapSampled s sel uci
  refine ⟨?held, (strap_bootStart _ _).trans hstrap, ?nonce, getF_bootStart_warmboot _ _, fun h => ?hold, fun h => ?pwron,
    fun h => ?owned⟩
  case held =>
    rw [coldHeld, bootStart_boot]
    exact coldHeld_strapSampled s sel uci
  case nonce => rw [bootStart_lnk, strapSampled_nonce]
  case hold => exact getF_bootStart_hold _ (hstrap.trans h)
  case pwron =>
    rw [getF, word_bootStart_rstcause]
    exact getF_strapSampled_pwron sel uci h
  case owned => exact getF_bootStart_owned _ ((isTile_congr (strap_bootStart _ _)).symm.trans h)

/-! ### The obligations -/

/-- Settles O3: every part of the state after reset is written out, and no register is listed. -/
theorem resetState : Obligations.ResetState := by
  unfold Obligations.ResetState
  exact ⟨rfl, rfl, rfl, rfl, fun _ => rfl, rfl, rfl, rfl, rfl, rfl⟩

/-- Settles O15, command by command: each of the three resets by what `coldReset` leaves of the state that records its cause. -/
theorem coldResets : Obligations.ColdResets := by
  unfold Obligations.ColdResets
  refine ⟨?railFault, ?falling, ?rising, ?aon, ?trip, ?pwron, ?release⟩
  case railFault => exact fun mask s k l _ h => ⟨_, rfl, railFault_leaves s h⟩
  case falling => exact fun k s hk hlow hr => ⟨_, exec_railWarn hk true s, railWarn_falling_effect hk hlow hr⟩
  case rising => exact fun k s hk => ⟨_, exec_railWarn hk false s, railWarn_rising s k⟩
  case aon => exact fun s => ⟨_, rfl, aonApply_resets s⟩
  case trip => exact fun k s _ hk hi => ⟨_, rfl, hardwareTrip_leaves hk hi⟩
  case pwron => exact fun s _ => ⟨_, rfl, pwronAssert_leaves s⟩
  case release => exact fun sel uci s hc ht => ⟨_, rfl, coldRelease_starts sel uci hc ht⟩

end Sys2Proof.Machine
end

section
/-! PROOF. Block resets of the chain's and the tile's blocks, and of TIM, CAL and DBG (R80, R81, R309, R355, R393, R415, R445, R480,
R535, R601): what the accepted write of GLB_BLKRST starts, and what each block's own reset leaves. -/

namespace Sys2Proof.Machine

/-! ### The write of GLB_BLKRST (R80, R81) -/

/-- The state in which the reset of block `k` begins: the write is stored and the block is held. -/
def resetBegun (s : State) (k : Nat) : State := blockHeld (storeReg s R.GLB_BLKRST (BitVec.ofNat 32 (2 ^ k))) k

/-- The bit that a write of a 1 to one block's bit selects. -/
theorem onlyBlock_selected {s : State} {k : Nat} (hk : k < 32) (h : blkReset s k = false) :
    (List.range 32).filter (fun j => (BitVec.ofNat 32 (2 ^ k)).toNat.testBit j && !blkReset s j) = [k] := by
  have single : ∀ k < 32, (List.range 32).filter (fun j => j == k) = [k] := by decide
  have hw : (BitVec.ofNat 32 (2 ^ k)).toNat = 2 ^ k :=
    (BitVec.toNat_ofNat _ _).trans (Nat.mod_eq_of_lt (Nat.pow_lt_pow_right (by decide) hk))
  rw [← single k hk, hw]
  refine List.filter_congr fun j _ => ?_
  rw [Nat.testBit_two_pow]
  by_cases hj : k = j
  · subst hj
    simp [h]
  · simp [hj, Ne.symm hj]

/-- An accepted write of a 1 to the bit of block `k` runs the block's own reset `f` in the state in which the reset begins. -/
theorem blockResetWrite_accepted {k : Nat} (f : State → State) (hf : ∀ x, blockReset x k = f (blockHeld x k)) (hk : k < 32)
    {s : State} (h : ResetOk s k) : blockResetWrite s k = .next (f (resetBegun s k)) := by
  obtain ⟨_, hw, hr⟩ := h
  rw [blockResetWrite, hostWrite_accepted (by decide) (by decide) hw, regEffect_00 _ _ _ (by decide), effectGlb,
    if_neg (by decide), if_neg (by decide), if_pos rfl, onlyBlock_selected hk hr, List.foldl_cons, List.foldl_nil, hf, resetBegun]

theorem resetBegun_keeps (s : State) (k : Nat) : Keeps [.regs, .boot, .cmp] s (resetBegun s k) :=
  blockHeld_keeps _ k (by decide) (by decide) (storeReg_keeps s _ _ (by decide) (by decide) Keeps.same)

theorem resetBegun_same (s : State) (k : Nat) (p : Part) (h : p ∉ [Part.regs, .boot, .cmp]) : p.same s (resetBegun s k) := by
  obtain ⟨_, _, same⟩ := resetBegun_keeps s k
  exact same p h

theorem word_resetBegun (s : State) (k : Nat) {off : Nat} (h : off ≠ R.GLB_BLKRST) : (resetBegun s k).word off = s.word off :=
  word_of_regs (blockHeld_regs _ k h.symm (storeReg_regs s _ _ h.symm RegsBut.same))

theorem blkReset_resetBegun (s : State) {k : Nat} (hk : k < 32) : blkReset (resetBegun s k) k = true :=
  fbit_setBitF_same _ _ _ _ (by decide) hk

theorem isTile_resetBegun (s : State) (k : Nat) : isTile (resetBegun s k) = isTile s := by
  have h : strap (resetBegun s k) = strap s := congrArg F.GLB_ROLE_STRAP.get (word_resetBegun s k (by decide))
  exact isTile_congr h

/-- GLB_BLKRST stands before the registers of every block that has a block reset. -/
theorem ne_blkrst {o : Nat} (h : 0x30000 ≤ o) : o ≠ R.GLB_BLKRST := fun e => absurd (e ▸ h) (by decide)

theorem indexed_ne_blkrst {base n : Nat} (h : 0x30000 ≤ base) : base + n ≠ R.GLB_BLKRST := ne_blkrst (Nat.le_add_right_of_le h)

/-- A block stays in reset while its own reset writes other registers than GLB_BLKRST. -/
theorem blkReset_of_regs {s t : State} {k : Nat} (h : RegsBut (fun o => o ≠ R.GLB_BLKRST) s t) (hs : blkReset s k = true) :
    blkReset t k = true :=
  (congrArg (fun n => n.testBit k) (getF_of_regs h)).trans hs

/-! ### Registers at their reset values -/

theorem regsAtReset_resetRegs (s : State) {lo hi : Nat} (h : 0x38000 ≤ lo) : RegsAtReset lo hi (resetRegs s lo hi) := by
  intro off h1 h2
  rw [word_resetRegs_in s lo hi off ⟨h1, h2⟩, regFill, if_neg (by omega)]

/-- Registers at their reset values stay so while only registers outside them are written. -/
theorem RegsAtReset.of_regs {lo hi : Nat} {s t : State} (h : RegsBut (fun o => o < lo ∨ hi ≤ o) s t) (hs : RegsAtReset lo hi s) :
    RegsAtReset lo hi t :=
  fun off h1 h2 => (h off (by omega)).trans (hs off h1 h2)

/-! ### CHN (R355) -/

theorem chnBlockReset_registers (s : State) : RegsAtReset 0xD0000 0xE0000 (chnBlockReset s) :=
  regsAtReset_resetRegs _ (by decide)

theorem chnBlockReset_chn (s : State) : (chnBlockReset s).chn = { chnReset with nextLid := s.chn.nextLid } := by
  have h : (s.chn.sends.foldl (fun s x => sendDone s x.item .aborted x.rcode x.lid x.replies) s).chn = s.chn :=
    same_of_keeps .chn (Keeps.foldl (fun t x ht => sendDone_keeps t _ _ _ _ _ (by decide) (by decide) (by decide) (by decide)
      (by decide) (by decide) ht) Keeps.same)
  rw [← h]
  rfl

theorem chnBlockReset_last (s : State) : (chnBlockReset s).lmp.last = none := rfl

theorem blkReset_chnBlockReset {s : State} {k : Nat} (h : blkReset s k = true) : blkReset (chnBlockReset s) k = true :=
  blkReset_of_regs (chnBlockReset_regs s (fun _ => indexed_ne_blkrst (by decide)) (fun off h _ => ne_blkrst (by omega))
    (fun _ => indexed_ne_blkrst (by decide)) (fun _ => indexed_ne_blkrst (by decide)) RegsBut.same) h

/-! ### LNK (R309), and the recalibration that it ends (R525) -/

theorem calAbort_run (s : State) (c : Status) (keepCopy : Bool) : (calAbort s c keepCopy).cal.run = none := by
  unfold calAbort
  split
  case h_1 h => exact h
  case h_2 => simp only [setF_cal, incSat_cal]

theorem calAbortOn_of_no_run {s : State} (h : s.cal.run = none) (p : Nat) (c : Status) : calAbortOn s p c = s := by
  simp [calAbortOn, recalOn, h]

/-- A port that stops carrying its streams, before the recalibration on it ends: its insertion queue, its candidates and a sender's
waiting letters are gone. -/
def portDropped (s : State) (p : Nat) : State :=
  let s := incSat s (F.CHN_PERR_DROP p) (insCount s p)
  let s := { s with chn := { s.chn with
    ins := s.chn.ins.filter (fun e => e.1 != p), cand := s.chn.cand.filter (fun x => x.port != p) } }
  if isSender s then setTx s p { txPort s p with letters := [] } else s

theorem portDropped_cal (s : State) (p : Nat) : (portDropped s p).cal = s.cal := by
  unfold portDropped
  have dropped (x : ChnSt) := (Keeps.chn (v_chn := x) (W := Part.others .cal) (by decide)).2
    (incSat_keeps s (F.CHN_PERR_DROP p) (insCount s p) (by decide) Keeps.same)
  exact same_of_keeps .cal (Keeps.ite (setTx_keeps _ _ _ (by decide) (dropped _)) (dropped _))

theorem portQuiet_ends (s : State) (p : Nat) : ∃ x, portQuiet s p =
    setPort (lanesDark (calAbortOn (portDropped s p) p .linkAbsent) p) p x := ⟨_, rfl⟩

theorem portQuiet_cal {s : State} (h : s.cal.run = none) (p : Nat) : (portQuiet s p).cal = s.cal := by
  obtain ⟨x, hx⟩ := portQuiet_ends s p
  have hd := portDropped_cal s p
  rw [hx, calAbortOn_of_no_run (hd ▸ h), ← hd]
  exact same_of_keeps .cal (setPort_keeps _ _ _ (by decide) (lanesDark_keeps _ p (by decide) Keeps.same))

/-- A port that goes down while no recalibration runs leaves CAL as it is. -/
theorem portDown_cal {s : State} (h : s.cal.run = none) (p st : Nat) : (portDown s p st).cal = s.cal := by
  have quiet : (portQuiet (emit s (.idleTx p)) p).cal = s.cal := portQuiet_cal (s := emit s (.idleTx p)) h p
  unfold portDown
  dsimp only
  split
  case isTrue =>
    exact same_of_keeps .cal (setStage_keeps _ _ _ (by decide) (by decide) (lanesDark_keeps _ _ (by decide)
      (emit_keeps s _ (by decide) Keeps.same)))
  case isFalse =>
    refine Eq.trans (same_of_keeps .cal ?_) quiet
    have down := raise_keeps (setF (incSat (setStage (stopForward (portQuiet (emit s (.idleTx p)) p)) p st)
      (F.LNK_PCNT_DOWNS p)) (F.LNK_PSTAT_CODE p) Status.linkAbsent.code) 0x0E02 [byte p, byte Status.linkAbsent.code]
      (W0 := Part.others .cal) (by decide) (by decide) (by decide) (by decide) (setF_keeps _ _ _ (by decide)
        (incSat_keeps _ _ _ (by decide) (setStage_keeps _ _ _ (by decide) (by decide)
          (stopForward_keeps _ (by decide) (by decide) Keeps.same))))
    exact Keeps.ite (tanDead_keeps _ _ (by decide) (by decide) (by decide) (by decide) (by decide) down) down

/-- Ports that go off while no recalibration runs start none. -/
theorem portsOff_run {s : State} (h : s.cal.run = none) (l : List Nat) :
    (l.foldl (fun s p => if pState s p = pOff then s else portDown s p pOff) s).cal.run = none := by
  induction l generalizing s with
  | nil => exact h
  | cons p l ih =>
    refine ih ?_
    dsimp only
    split
    · exact h
    · rw [portDown_cal h]
      exact h

theorem lnkBlockReset_registers (s : State) : RegsAtReset 0xE0000 0xF0000 (lnkBlockReset s) :=
  regsAtReset_resetRegs _ (by decide)

theorem lnkBlockReset_run (s : State) : (lnkBlockReset s).cal.run = none := portsOff_run (calAbort_run s _ _) _

theorem lnkBlockReset_lnk (s : State) : (lnkBlockReset s).lnk.source = 4 ∧ (lnkBlockReset s).lnk.bypass = none := ⟨rfl, rfl⟩

theorem blkReset_lnkBlockReset {s : State} {k : Nat} (h : blkReset s k = true) : blkReset (lnkBlockReset s) k = true :=
  blkReset_of_regs (lnkBlockReset_regs s (fun _ => indexed_ne_blkrst (by decide)) (fun off h _ => ne_blkrst (by omega))
    (by decide) (fun _ => indexed_ne_blkrst (by decide)) (fun _ => indexed_ne_blkrst (by decide))
    (fun _ => indexed_ne_blkrst (by decide)) (fun _ => indexed_ne_blkrst (by decide)) (fun _ => indexed_ne_blkrst (by decide))
    (by decide) (by decide) RegsBut.same) h

/-! ### TIM (R393) -/

/-- The state of TIM with its registers at reset but TIM_INC, and of its internal state the owners and the triggers kept. -/
def timCleared (s : State) : State :=
  { (resetRegs s 0xF0000 0x100000).setWord R.TIM_INC (s.word R.TIM_INC) with
    tim := { timReset with gens := s.tim.gens.filter (fun e => e.2.owner != 0), trigTo := s.tim.trigTo } }

/-- The generators that have an owner show it. -/
def ownersShown (s : State) : State :=
  (List.range 16).foldl (fun s g => if genOwned s g then setF s (F.TIM_PGCFG_OWNED g) 1 else s) s

theorem timBlockReset_eq (s : State) :
    timBlockReset s = lampDrop (raise (ownersShown (timCleared s)) 0x0F03 [byte tFree, byte (servo s)]) := rfl

theorem ownersShown_keeps {W : List Part} {r : State} (s : State) (h_regs : Part.regs ∈ W) (h : Keeps W r s) :
    Keeps W r (ownersShown s) :=
  Keeps.foldl (fun _ _ ht => Keeps.ite (setF_keeps _ _ _ h_regs ht) ht) h

theorem ownersShown_regs {W : Nat → Prop} {r : State} (s : State) (h_TIM_PGCFG : ∀ i, W (R.TIM_PGCFG i)) (h : RegsBut W r s) :
    RegsBut W r (ownersShown s) :=
  RegsBut.foldl (fun _ _ ht => RegsBut.ite (setF_regs _ _ _ (h_TIM_PGCFG _) ht) ht) h

/-- The general registers of TIM, below those of the generators, read as they were cleared. -/
theorem word_timBlockReset (s : State) {off : Nat} (h1 : 0xF0000 ≤ off) (h2 : off < 0xF1000) :
    (timBlockReset s).word off = (timCleared s).word off :=
  word_of_regs (lampDrop_regs _ (raise_regs _ _ _ (fun k => by omega) (by simp only [R.GLB_EVTOVF]; omega)
    (fun i => by simp only [R.CHN_PERR]; omega)
    (ownersShown_regs _ (fun i => by simp only [R.TIM_PGCFG]; omega) RegsBut.same)))

theorem timBlockReset_inc (s : State) : (timBlockReset s).word R.TIM_INC = s.word R.TIM_INC := by
  rw [word_timBlockReset s (by decide) (by decide)]
  exact word_setWord_same _ _ _

theorem timBlockReset_servo (s : State) : servo (timBlockReset s) = tFree := by
  have h : (timCleared s).word R.TIM_STAT = resetWord R.TIM_STAT :=
    (word_setWord_ne _ _ (by decide)).trans (regsAtReset_resetRegs s (by decide) _ (by decide) (by decide))
  rw [servo, getF, word_timBlockReset s (by decide) (by decide), h]
  decide

theorem timBlockReset_tim (s : State) : (timBlockReset s).tim =
    { timReset with gens := s.tim.gens.filter (fun e => e.2.owner != 0), trigTo := s.tim.trigTo } := by
  have h : (timBlockReset s).tim = (timCleared s).tim :=
    same_of_keeps .tim (lampDrop_keeps _ (by decide) (raise_keeps _ _ _ (by decide) (by decide) (by decide) (by decide)
      (ownersShown_keeps _ (by decide) Keeps.same)))
  rw [h]
  rfl

theorem blkReset_timBlockReset {s : State} {k : Nat} (h : blkReset s k = true) : blkReset (timBlockReset s) k = true :=
  blkReset_of_regs (timBlockReset_regs s (fun _ => indexed_ne_blkrst (by decide)) (fun off h _ => ne_blkrst (by omega))
    (by decide) (fun _ => indexed_ne_blkrst (by decide)) (by decide) (fun _ => indexed_ne_blkrst (by decide)) RegsBut.same) h

/-! ### TAN on a sender (R415) -/

theorem tanBlockReset_sender {s : State} (h : isTile s = false) : tanBlockReset s =
    tanEvent { resetRegs (snapsAbort (if isSet s F.TAN_CFG_EN then genRelease s (getF s F.TAN_CFG_HBGEN) else s))
      0x100000 0x110000 with tan := tanReset } := by
  rw [tanBlockReset, h]
  rfl

theorem tanBlockReset_tan {s : State} (h : isTile s = false) : (tanBlockReset s).tan = tanReset := by
  rw [tanBlockReset_sender h]
  exact same_of_keeps .tan (tanEvent_keeps _ (by decide) (by decide) (by decide) (by decide) Keeps.same)

theorem tanBlockReset_registers {s : State} (h : isTile s = false) : RegsAtReset 0x100000 0x110000 (tanBlockReset s) := by
  rw [tanBlockReset_sender h]
  exact RegsAtReset.of_regs
    (tanEvent_regs _ (fun k => by omega) (by decide) (fun i => by simp only [R.CHN_PERR]; omega) RegsBut.same)
    (regsAtReset_resetRegs _ (by decide))

theorem blkReset_tanBlockReset {s : State} {k : Nat} (h : blkReset s k = true) : blkReset (tanBlockReset s) k = true :=
  blkReset_of_regs (tanBlockReset_regs s (fun _ => indexed_ne_blkrst (by decide)) (fun off h _ => ne_blkrst (by omega))
    (by decide) (fun _ => indexed_ne_blkrst (by decide)) (fun _ => indexed_ne_blkrst (by decide))
    (fun _ => indexed_ne_blkrst (by decide)) (fun _ => indexed_ne_blkrst (by decide)) (fun _ => indexed_ne_blkrst (by decide))
    (by decide) RegsBut.same) h

/-! ### LMP (R445) -/

/-- LMP at reset, once its loads have ended and its reading engine has stopped. -/
def lmpCleared (s : State) : State :=
  { engineStop (resetRegs (showsEnd (s.lmp.loads.foldl (fun s l => cmpDone s l.item .aborted 0xFFFF 0 true) s))
      0x110000 0x120000) with lmp := lmpReset }

/-- What follows the reset of LMP releases its generator, turns the spokes off and raises an event. -/
theorem lmpBlockReset_releases (s : State) : ∃ (had : Bool) (g : Nat), lmpBlockReset s =
    raise (spokesDark (if had then genRelease (lmpCleared s) g else lmpCleared s)) 0x1102 (zeros 8) := ⟨_, _, rfl⟩

theorem lmpBlockReset_lmp (s : State) : (lmpBlockReset s).lmp = lmpReset := by
  obtain ⟨had, g, h⟩ := lmpBlockReset_releases s
  rw [h]
  exact same_of_keeps (s := lmpCleared s) .lmp (raise_keeps _ _ _ (by decide) (by decide) (by decide) (by decide)
    (spokesDark_keeps _ (by decide) (by decide) (by decide)
      (Keeps.ite (genRelease_keeps _ _ (by decide) (by decide) Keeps.same) Keeps.same)))

theorem lmpCleared_registers (s : State) : RegsAtReset 0x110000 0x120000 (lmpCleared s) := by
  unfold lmpCleared
  exact RegsAtReset.of_regs (RegsBut.lmp.2 (engineStop_regs _ (fun k => by omega) (fun i => by simp only [R.QUE_STAT]; omega)
    (fun i => by simp only [R.QUE_RET]; omega) (by decide) (by decide) RegsBut.same)) (regsAtReset_resetRegs _ (by decide))

theorem lmpBlockReset_registers (s : State) : RegsAtReset 0x110000 0x120000 (lmpBlockReset s) := by
  obtain ⟨had, g, h⟩ := lmpBlockReset_releases s
  rw [h]
  refine RegsAtReset.of_regs (raise_regs _ _ _ (fun k => by omega) (by decide) (fun i => by simp only [R.CHN_PERR]; omega)
    (spokesDark_regs _ (fun i => by simp only [R.SPK_SPKSTAT]; omega) (RegsBut.ite (genRelease_regs _ _
      (fun i => by simp only [R.TIM_PGCFG]; omega) (fun i => by simp only [R.TIM_PGNEXT]; omega) RegsBut.same) RegsBut.same)))
    (lmpCleared_registers s)

theorem blkReset_lmpBlockReset {s : State} {k : Nat} (h : blkReset s k = true) : blkReset (lmpBlockReset s) k = true :=
  blkReset_of_regs (lmpBlockReset_regs s (fun _ => indexed_ne_blkrst (by decide)) (fun off h _ => ne_blkrst (by omega))
    (by decide) (fun _ => indexed_ne_blkrst (by decide)) (fun _ => indexed_ne_blkrst (by decide)) (by decide) (by decide)
    (by decide) (fun _ => indexed_ne_blkrst (by decide)) (fun _ => indexed_ne_blkrst (by decide))
    (fun _ => indexed_ne_blkrst (by decide)) (fun _ => indexed_ne_blkrst (by decide)) RegsBut.same) h

/-! ### SPK, CAL and DBG (R480, R535, R601) -/

theorem spkBlockReset_registers (s : State) : RegsAtReset 0x120000 0x130000 (spkBlockReset s) :=
  regsAtReset_resetRegs _ (by decide)

theorem spkBlockReset_spk (s : State) : (spkBlockReset s).spk = spkReset := rfl

theorem blkReset_spkBlockReset {s : State} {k : Nat} (h : blkReset s k = true) : blkReset (spkBlockReset s) k = true :=
  blkReset_of_regs (spkBlockReset_regs s (fun off h _ => ne_blkrst (by omega)) RegsBut.same) h

theorem calBlockReset_registers (s : State) : RegsAtReset 0x150000 0x160000 (calBlockReset s) :=
  regsAtReset_resetRegs _ (by decide)

theorem calBlockReset_run (s : State) : (calBlockReset s).cal.run = none := calAbort_run s _ _

theorem calBlockReset_queue (s : State) : (calBlockReset s).cal.queue = [] ∧ (calBlockReset s).cal.next = 0 := ⟨rfl, rfl⟩

theorem blkReset_calBlockReset {s : State} {k : Nat} (h : blkReset s k = true) : blkReset (calBlockReset s) k = true :=
  blkReset_of_regs (calBlockReset_regs s (fun off h _ => ne_blkrst (by omega)) (fun _ => indexed_ne_blkrst (by decide))
    (fun _ => indexed_ne_blkrst (by decide)) (by decide) RegsBut.same) h

theorem dbgBlockReset_extest (s : State) : (dbgBlockReset s).sec.extest = false := rfl

theorem blkReset_dbgBlockReset {s : State} {k : Nat} (h : blkReset s k = true) : blkReset (dbgBlockReset s) k = true :=
  blkReset_of_regs (dbgBlockReset_regs s RegsBut.same) h

/-- Settles O27, block by block: the accepted write starts the block's own reset in the state `resetBegun`. -/
theorem chainBlockResets : Obligations.ChainBlockResets := by
  unfold Obligations.ChainBlockResets
  refine ⟨?chn, ?lnk, ?tim, ?tan, ?lmp, ?spk, ?cal, ?dbg⟩
  case chn =>
    intro s h
    refine ⟨_, blockResetWrite_accepted chnBlockReset (fun _ => by simp [blockReset]) (by decide) h,
      blkReset_chnBlockReset (blkReset_resetBegun s (by decide)),
      chnBlockReset_registers _, ?_, chnBlockReset_last _⟩
    have hchn : (resetBegun s 0x0D).chn = s.chn := resetBegun_same s _ .chn (by decide)
    rw [← hchn]
    exact chnBlockReset_chn _
  case lnk =>
    intro s h
    obtain ⟨hsource, hbypass⟩ := lnkBlockReset_lnk (resetBegun s 0x0E)
    exact ⟨_, blockResetWrite_accepted lnkBlockReset (fun _ => by simp [blockReset]) (by decide) h,
      blkReset_lnkBlockReset (blkReset_resetBegun s (by decide)), lnkBlockReset_registers _, hsource, hbypass, lnkBlockReset_run _⟩
  case tim =>
    intro s h
    refine ⟨_, blockResetWrite_accepted timBlockReset (fun _ => by simp [blockReset]) (by decide) h,
      blkReset_timBlockReset (blkReset_resetBegun s (by decide)),
      (timBlockReset_inc _).trans (word_resetBegun s _ (by decide)), timBlockReset_servo _, ?_⟩
    have htim : (resetBegun s 0x0F).tim = s.tim := resetBegun_same s _ .tim (by decide)
    rw [← htim]
    exact timBlockReset_tim _
  case tan =>
    intro s h ht
    have hrole : isTile (resetBegun s 0x10) = false := (isTile_resetBegun s _).trans ht
    exact ⟨_, blockResetWrite_accepted tanBlockReset (fun _ => by simp [blockReset]) (by decide) h,
      blkReset_tanBlockReset (blkReset_resetBegun s (by decide)),
      tanBlockReset_tan hrole, tanBlockReset_registers hrole⟩
  case lmp =>
    intro s h
    exact ⟨_, blockResetWrite_accepted lmpBlockReset (fun _ => by simp [blockReset]) (by decide) h,
      blkReset_lmpBlockReset (blkReset_resetBegun s (by decide)),
      lmpBlockReset_lmp _, lmpBlockReset_registers _⟩
  case spk =>
    intro s h
    exact ⟨_, blockResetWrite_accepted spkBlockReset (fun _ => by simp [blockReset]) (by decide) h,
      blkReset_spkBlockReset (blkReset_resetBegun s (by decide)),
      spkBlockReset_spk _, spkBlockReset_registers _⟩
  case cal =>
    intro s h
    obtain ⟨hqueue, hnext⟩ := calBlockReset_queue (resetBegun s 0x15)
    exact ⟨_, blockResetWrite_accepted calBlockReset (fun _ => by simp [blockReset]) (by decide) h,
      blkReset_calBlockReset (blkReset_resetBegun s (by decide)),
      calBlockReset_registers _, calBlockReset_run _, hqueue, hnext⟩
  case dbg =>
    intro s h
    exact ⟨_, blockResetWrite_accepted dbgBlockReset (fun _ => by simp [blockReset]) (by decide) h,
      blkReset_dbgBlockReset (blkReset_resetBegun s (by decide)),
      dbgBlockReset_extest _⟩

end Sys2Proof.Machine
end

section
/-! PROOF. Warm resets, the reference clock and the PLLs (R72 to R75, R78, R79, R82, R83): what a request leaves, what an asserted
warm reset keeps, and what the clock commands show. -/

namespace Sys2Proof.Machine

/-! ### Requests (R78, R79, R82, R83) -/

/-- Turning the display off writes no register below the Pending Bit Array. -/
theorem word_displayOff (s : State) {off : Nat} (h : off < 0x38000) : (displayOff s).word off = s.word off :=
  word_of_regs (displayOff_regs s (fun k => by omega) (fun i => by simp only [R.QUE_STAT]; omega)
    (fun i => by simp only [R.QUE_RET]; omega) (by simp only [R.SRF_STAT]; omega) (by simp only [R.SRF_FREEPG]; omega)
    (by simp only [R.SRF_RETIRED]; omega) (fun i => by simp only [R.SPK_SPKSTAT]; omega) RegsBut.same)

theorem displayOff_boot (s : State) : (displayOff s).boot = s.boot :=
  same_of_keeps .boot (displayOff_keeps s (by decide) (by decide) (by decide) (by decide) (by decide) (by decide) (by decide)
    (by decide) (by decide) Keeps.same)

/-- A request outside cold reset and OFF sets its cause bit and leaves a warm reset requested, if none was under way. -/
theorem warmRequest_requests {s : State} {cause : Fld} (hoff : cause.off = R.GLB_RSTCAUSE) (hw : cause.width = 1)
    (hlo : cause.lo < 32) (hc : coldHeld s = false) (hp : power s ≠ 4) : getF (warmRequest s cause) cause = 1 ∧
      (s.boot.warm = .none → (warmRequest s cause).boot.warm = .requested) := by
  have hset (x : State) : getF (setF x cause 1) cause = 1 := by
    rw [getF_setF_same _ _ _ (by omega), hw]
    rfl
  rw [warmRequest, if_neg (by simp [hc, hp])]
  dsimp only
  split
  case isTrue =>
    refine ⟨?_, fun _ => by rw [displayOff_boot]⟩
    rw [getF, word_displayOff _ (by rw [hoff]; decide)]
    exact hset s
  case isFalse hwarm => exact ⟨hset s, fun h => absurd h hwarm⟩

theorem awake_of_barOpen {s : State} (h : barOpen s = true) : coldHeld s = false ∧ power s ≠ 4 := by
  simp only [barOpen, blkOn, inReset, Bool.and_eq_true, Bool.not_eq_true', Bool.or_eq_false_iff, bne_iff_ne] at h
  obtain ⟨⟨⟨⟨⟨⟨hc, _⟩, hp⟩, _⟩, _⟩, _⟩, _⟩ := h
  exact ⟨hc, hp⟩

theorem storeReg_boot (s : State) (off : Nat) (v : Word) : (storeReg s off v).boot = s.boot :=
  same_of_keeps .boot (storeReg_keeps s off v (by decide) (by decide) Keeps.same)

theorem word_storeReg_ne (s : State) {off o : Nat} (v : Word) (h : o ≠ off) : (storeReg s off v).word o = s.word o :=
  word_of_regs (storeReg_regs s off v h.symm RegsBut.same)

theorem coldHeld_congr {s t : State} (h : t.boot = s.boot) : coldHeld t = coldHeld s := by rw [coldHeld, coldHeld, h]

/-- The state in which a request by software is taken: the key is stored. -/
def keyStored (s : State) : State := storeReg s R.GLB_WARMRST (F.GLB_WARMRST_KEY.put 0#32 0xA5)

theorem exec_warmResetSoftware {s : State} (h : WriteOk s R.GLB_WARMRST (F.GLB_WARMRST_KEY.put 0#32 0xA5)) :
    exec .warmResetSoftware s = .next (warmRequest (keyStored s) F.GLB_RSTCAUSE_WARMSW) := by
  refine congrArg Host.Outcome.next ((hostWrite_accepted (by decide) (by decide) h).trans ?_)
  rw [regEffect_00 _ _ _ (by decide), effectGlb, if_neg (by decide), if_pos rfl, keyStored]

theorem keyStored_awake {s : State} (h : barOpen s = true) : coldHeld (keyStored s) = false ∧ power (keyStored s) ≠ 4 := by
  obtain ⟨hc, hp⟩ := awake_of_barOpen h
  have hpow : power (keyStored s) = power s := congrArg F.THM_PWR_NOW.get (word_storeReg_ne s _ (by decide))
  exact ⟨(coldHeld_congr (storeReg_boot s _ _)).trans hc, hpow ▸ hp⟩

/-! ### Fields kept from an earlier state -/

theorem word_keepAll_ne (old : State) {fs : List Fld} (s : State) {off : Nat} (h : ∀ f ∈ fs, f.off ≠ off) :
    (fs.foldl (keepF old) s).word off = s.word off := by
  induction fs generalizing s with
  | nil => rfl
  | cons f fs ih =>
    rw [List.foldl_cons, ih _ (fun g hg => h g (List.mem_cons_of_mem _ hg)),
      word_keepF_ne _ _ _ (h f List.mem_cons_self).symm]

theorem getF_keepAll_apart (old : State) {fs : List Fld} (s : State) {g : Fld} (hg : g.lo + g.width ≤ 32)
    (h : ∀ f ∈ fs, f.apart g = true) : getF (fs.foldl (keepF old) s) g = getF s g := by
  induction fs generalizing s with
  | nil => rfl
  | cons f fs ih =>
    rw [List.foldl_cons, ih _ (fun g hg => h g (List.mem_cons_of_mem _ hg)), keepF,
      getF_setF_other _ _ (h f List.mem_cons_self) hg]

/-- A field that is kept, and apart from those kept after it, has its old value. -/
theorem getF_keepAll_kept (old : State) (before : List Fld) {f : Fld} {after : List Fld} (s : State) (hf : f.lo + f.width ≤ 32)
    (h : ∀ g ∈ after, g.apart f = true) : getF ((before ++ f :: after).foldl (keepF old) s) f = getF old f := by
  rw [List.foldl_append, List.foldl_cons, getF_keepAll_apart _ _ hf h, keepF, getF_setF_same _ _ _ hf]
  exact Nat.mod_eq_of_lt (getF_lt old f)

theorem keepAll_keeps (old : State) (fs : List Fld) (s : State) : Keeps [.regs] s (fs.foldl (keepF old) s) :=
  Keeps.foldl (fun t f h => keepF_keeps old t f (by decide) h) Keeps.same

theorem keepAll_same (old : State) (fs : List Fld) (s : State) (p : Part) (h : p ∉ [Part.regs]) :
    p.same s (fs.foldl (keepF old) s) := by
  obtain ⟨_, _, same⟩ := keepAll_keeps old fs s
  exact same p h

/-! ### What an asserted warm reset leaves (R78) -/

/-- The flash operation finished, the writes issued and the channels in self-refresh, before the pads go off. -/
def warmQuiet (s : State) : State :=
  (drcChannels s).foldl selfRefEntry (issueAllWrites (flashSettle s))

/-- A warm reset is everything at reset with the fields of the AON domain and those of a warm reset kept, and some state of DRAM,
CAL and the chain ports. -/
theorem warmAssert_eq (s : State) : warmAssert s = warmKeep (padsOff (warmQuiet s))
    ((aonFields ++ warmFields).foldl (keepF (padsOff (warmQuiet s))) (resetCore (padsOff (warmQuiet s)))) := rfl

theorem word_warmKeep (s r : State) (off : Nat) : (warmKeep s r).word off = r.word off := rfl
theorem warmKeep_warm (s r : State) : (warmKeep s r).boot.warm = .asserted := rfl
theorem warmKeep_sec (s r : State) : (warmKeep s r).sec = r.sec := rfl
theorem warmKeep_upd (s r : State) : (warmKeep s r).upd = r.upd := rfl

theorem word_padsOff (s : State) {off : Nat} (h : off < 0x38000) : (padsOff s).word off = s.word off :=
  word_of_regs (padsOff_regs s (fun k => by omega) (fun i => by simp only [R.QUE_STAT]; omega)
    (fun i => by simp only [R.QUE_RET]; omega) (by simp only [R.SRF_STAT]; omega) (by simp only [R.SRF_FREEPG]; omega)
    (by simp only [R.SRF_RETIRED]; omega) (fun i => by simp only [R.SPK_SPKSTAT]; omega) RegsBut.same)

/-- The writes of DRAM and the entries into self-refresh write no register up to GLB_WARMRST. -/
theorem word_warmQuiet (s : State) {off : Nat} (h : off ≤ R.GLB_WARMRST) : (warmQuiet s).word off = (flashSettle s).word off := by
  have hoff : off ≤ 0x34 := h
  have issued : RegsBut (fun o => o ≠ off) (flashSettle s) (issueAllWrites (flashSettle s)) :=
    issueAllWrites_regs _ (fun k => by omega) (by simp only [R.GLB_YIELDCNT]; omega) (by simp only [R.GLB_YIELDLAST]; omega)
      (by simp only [R.GLB_YIELDFRM]; omega) (by simp only [R.GLB_EVTOVF]; omega) (fun i => by simp only [R.CHN_PERR]; omega)
      (by simp only [R.DRC_QMISS]; omega) (by simp only [R.DRC_ECCSTAT]; omega) (by simp only [R.DRC_UEADDR]; omega)
      (by simp only [R.DRC_HAZSTAT]; omega) (fun i => by simp only [R.DRC_CHSTAT]; omega) RegsBut.same
  exact word_of_regs (RegsBut.foldl (fun t c ht => selfRefEntry_regs t c (fun i => by simp only [R.DRC_CHSTAT]; omega) ht) issued)

theorem warmQuiet_keeps (s : State) : Keeps [.regs, .hif, .drc, .chn, .dram, .out] (flashSettle s) (warmQuiet s) :=
  Keeps.foldl (fun t c h => selfRefEntry_keeps t c (by decide) (by decide) h)
    (issueAllWrites_keeps _ (by decide) (by decide) (by decide) (by decide) (by decide) (by decide) Keeps.same)

/-- A part outside the display, DRAM and the events is the same with the pads off as when the flash operation had finished. -/
theorem padsOff_warmQuiet_same (s : State) (p : Part) (h1 : p ∉ displayParts)
    (h2 : p ∉ [Part.regs, .hif, .drc, .chn, .dram, .out]) : p.same (flashSettle s) (padsOff (warmQuiet s)) := by
  obtain ⟨_, _, same⟩ := warmQuiet_keeps s
  exact Part.same_trans (same p h2) (padsOff_same _ p h1)

/-- Whatever flash operation finishes, the strap stands. -/
theorem word_flashSettle_role (s : State) : (flashSettle s).word R.GLB_ROLE = s.word R.GLB_ROLE :=
  word_of_regs (flashSettle_regs s (fun k => by simp only [R.GLB_ROLE]; omega) (by decide) (by decide)
    (fun i => by simp only [R.QUE_STAT, R.GLB_ROLE]; omega) (fun i => by simp only [R.QUE_RET, R.GLB_ROLE]; omega) (by decide)
    (by decide) (by decide) (by decide) (fun i => by simp only [R.CHN_PERR, R.GLB_ROLE]; omega)
    (fun i => by simp only [R.SPK_SPKSTAT, R.GLB_ROLE]; omega) (by decide) (by decide) (by decide)
    (fun i => by simp only [R.UPD_PKGID, R.GLB_ROLE]; omega) (by decide) RegsBut.same)

/-- With no flash operation left there is none to finish. -/
theorem flashSettle_of_none {s : State} (h : s.upd.ops = []) : flashSettle s = flashCut s := by
  rw [flashSettle, h, flashCut]

theorem warmAssert_warm (s : State) : (warmAssert s).boot.warm = .asserted := by rw [warmAssert_eq, warmKeep_warm]

theorem warmAssert_strap (s : State) : strap (warmAssert s) = strap s := by
  have kept : strap (warmAssert s) = strap (padsOff (warmQuiet s)) := by
    rw [warmAssert_eq, strap, getF, word_warmKeep]
    exact getF_keepAll_kept _ aonFields (f := F.GLB_ROLE_STRAP) (after := warmFields.tail) _ (by decide) (by decide)
  have hword : (padsOff (warmQuiet s)).word R.GLB_ROLE = s.word R.GLB_ROLE := by
    rw [word_padsOff _ (by decide), word_warmQuiet _ (by decide), word_flashSettle_role]
  exact kept.trans (congrArg F.GLB_ROLE_STRAP.get hword)

theorem warmAssert_stage (s : State) : stage (warmAssert s) = 1 := by
  rw [warmAssert_eq, stage, getF, word_warmKeep]
  refine (getF_keepAll_apart _ _ (by decide) (by decide)).trans ?_
  rw [getF, word_resetCore]
  decide

theorem word_warmAssert (s : State) {off : Nat} (h : ∀ f ∈ aonFields ++ warmFields, f.off ≠ off) :
    (warmAssert s).word off = regFill off := by
  rw [warmAssert_eq, word_warmKeep, word_keepAll_ne _ _ h, word_resetCore]

theorem warmAssert_fuses {s : State} (h : s.upd.ops = []) : (warmAssert s).sec.fuses = s.sec.fuses := by
  have hsec := keepAll_same (padsOff (warmQuiet s)) (aonFields ++ warmFields) (resetCore (padsOff (warmQuiet s))) .sec (by decide)
  have hquiet : (padsOff (warmQuiet s)).sec.fuses = (flashSettle s).sec.fuses :=
    padsOff_warmQuiet_same s .fuses (by decide) (by decide)
  rw [warmAssert_eq, warmKeep_sec, hsec, resetCore_fuses, hquiet, flashSettle_of_none h, flashCut, setF_sec]

theorem warmAssert_flash {s : State} (h : s.upd.ops = []) : (warmAssert s).upd.flash = s.upd.flash := by
  have hupd := keepAll_same (padsOff (warmQuiet s)) (aonFields ++ warmFields) (resetCore (padsOff (warmQuiet s))) .upd (by decide)
  have hquiet : (padsOff (warmQuiet s)).upd.flash = (flashSettle s).upd.flash :=
    padsOff_warmQuiet_same s .flash (by decide) (by decide)
  rw [warmAssert_eq, warmKeep_upd, hupd, resetCore_flash, hquiet, flashSettle_of_none h, flashCut, setF_upd]

theorem warmAssert_rstcause {s : State} (h : s.upd.ops = []) :
    (warmAssert s).word R.GLB_RSTCAUSE = s.word R.GLB_RSTCAUSE := by
  rw [warmAssert_eq, word_warmKeep, aonFields, List.cons_append, List.foldl_cons, word_keepAll_ne _ _ (by decide),
    word_keepF_whole, word_padsOff _ (by decide), word_warmQuiet _ (by decide), flashSettle_of_none h,
    word_flashCut_aon _ (.inl rfl)]

theorem exec_warmResetAssert {s : State} (hw : s.boot.warm = .requested) (hc : coldHeld s = false) :
    exec .warmResetAssert s = .next (warmAssert s) :=
  congrArg Host.Outcome.next (if_pos ⟨hw, by simp [hc]⟩)

/-! ### The release of a warm reset (R78) -/

theorem exec_warmResetRelease {s : State} (hw : s.boot.warm = .asserted) (hc : coldHeld s = false) :
    exec .warmResetRelease s = .next (warmRelease s) :=
  congrArg Host.Outcome.next (if_pos ⟨hw, by simp [hc]⟩)

theorem warmRelease_starts (s : State) : (warmRelease s).boot.warm = .none ∧ (warmRelease s).boot.warmBoot = true ∧
    getF (warmRelease s) F.GLB_BOOTSTAT_WARMBOOT = 1 := by
  unfold warmRelease
  rw [bootStart_boot, getF_bootStart_warmboot]
  exact ⟨rfl, rfl, rfl⟩

/-! ### The reference clock (R72, R73) -/

/-- The state in which a loss of REF_CLK outside reset raises its event. -/
def refLost (s : State) : State := setF (setF (setF s F.CLK_LOCK_REFOK 0) F.CLK_LOCK_REFLOSS 1) F.CLK_LOCK_HOLDOVER 1

theorem isSet_congr {s t : State} {f : Fld} (h : getF t f = getF s f) : isSet t f = isSet s f := by rw [isSet, isSet, h]

theorem refClkLoss_locked {s : State} (hr : inReset s = false) (hl : isSet s F.CLK_LOCK_LOCK = true) :
    refClkLoss s = raise (refLost s) 0x0101 [] := by
  have hlock : isSet (setF (setF s F.CLK_LOCK_REFOK 0) F.CLK_LOCK_REFLOSS 1) F.CLK_LOCK_LOCK = true := by
    rw [isSet_congr ((getF_setF_other _ _ (by decide) (by decide)).trans (getF_setF_other _ _ (by decide) (by decide))), hl]
  have hreset : ¬ inReset (setF s F.CLK_LOCK_REFOK 0) = true := by
    have : inReset (setF s F.CLK_LOCK_REFOK 0) = inReset s := rfl
    simp [this, hr]
  rw [refClkLoss, if_neg hreset, if_pos hlock, refLost]

theorem getF_refClkLoss_refok (s : State) : getF (refClkLoss s) F.CLK_LOCK_REFOK = 0 := by
  have cleared : getF (setF s F.CLK_LOCK_REFOK 0) F.CLK_LOCK_REFOK = 0 := getF_setF_same _ _ _ (by decide)
  have lost : getF (setF (setF s F.CLK_LOCK_REFOK 0) F.CLK_LOCK_REFLOSS 1) F.CLK_LOCK_REFOK = 0 :=
    (getF_setF_other _ _ (by decide) (by decide)).trans cleared
  unfold refClkLoss
  dsimp only
  split
  · exact cleared
  · split
    · rw [getF, word_raise _ _ _ (by decide) (by decide)]
      exact (getF_setF_other _ _ (by decide) (by decide)).trans lost
    · exact lost

theorem getF_refLost (s : State) : getF (refLost s) F.CLK_LOCK_REFLOSS = 1 ∧ getF (refLost s) F.CLK_LOCK_HOLDOVER = 1 := by
  unfold refLost
  exact ⟨(getF_setF_other _ _ (by decide) (by decide)).trans (getF_setF_same _ _ _ (by decide)),
    getF_setF_same _ _ _ (by decide)⟩

/-- Raising an event leaves CLK_LOCK as it was. -/
theorem getF_raise_clock (s : State) (code : Nat) (det : Bytes) {f : Fld} (hf : f.off = R.CLK_LOCK) :
    getF (raise s code det) f = getF s f := by
  rw [getF, word_raise _ _ _ (by rw [hf]; decide) (by rw [hf]; decide), getF]

theorem refLost_same (s : State) : (refLost s).hif = s.hif ∧ (refLost s).up = s.up ∧ (refLost s).time = s.time := by
  unfold refLost
  exact ⟨by rw [setF_hif, setF_hif, setF_hif], by rw [setF_up, setF_up, setF_up], by rw [setF_time, setF_time, setF_time]⟩

theorem refClkLoss_locked_effect {s : State} (hr : inReset s = false) (hl : isSet s F.CLK_LOCK_LOCK = true) :
    getF (refClkLoss s) F.CLK_LOCK_REFLOSS = 1 ∧ getF (refClkLoss s) F.CLK_LOCK_HOLDOVER = 1 ∧
      Raised s (refClkLoss s) 0x0101 [] := by
  obtain ⟨hloss, hhold⟩ := getF_refLost s
  obtain ⟨hhif, hup, htime⟩ := refLost_same s
  rw [refClkLoss_locked hr hl]
  exact ⟨(getF_raise_clock _ _ _ rfl).trans hloss, (getF_raise_clock _ _ _ rfl).trans hhold,
    raised_of_raise hhif hup htime _ _⟩

theorem refClkGood_effect (s : State) :
    getF (refClkGood s) F.CLK_LOCK_REFOK = 1 ∧ getF (refClkGood s) F.CLK_LOCK_HOLDOVER = 0 := by
  unfold refClkGood
  exact ⟨(getF_setF_other _ _ (by decide) (by decide)).trans (getF_setF_same _ _ _ (by decide)),
    getF_setF_same _ _ _ (by decide)⟩

/-! ### The PLLs (R74) -/

theorem pllUnlock_effect {s : State} {k : Nat} (hk : k < 8) (hr : inReset s = false) (hg : pllGated s k = false)
    (hl : fbit s F.CLK_LOCK_LOCK k = true) : fbit (pllUnlock s k) F.CLK_LOCK_LOCK k = false ∧
      fbit (pllUnlock s k) F.CLK_LOCK_UNLOCK k = true := by
  rw [pllUnlock, if_neg (by simp [hk, hr, hg, hl])]
  refine ⟨?_, fbit_setBitF_same _ _ _ _ (by decide) hk⟩
  rw [fbit, setBitF, getF_setF_other _ _ (by decide) (by decide)]
  exact fbit_setBitF_same _ _ _ _ (by decide) hk

/-- Settles O16, command by command; of an asserted warm reset each part by its own lemma. -/
theorem warmResetsAndClocks : Obligations.WarmResetsAndClocks := by
  unfold Obligations.WarmResetsAndClocks
  refine ⟨?pin, ?watchdog, ?software, ?assert, ?release, ?loss, ?good, ?unlock⟩
  case pin => exact fun s _ hc hp => ⟨_, rfl, warmRequest_requests rfl rfl (by decide) hc hp⟩
  case watchdog => exact fun s _ hc hp => ⟨_, rfl, warmRequest_requests rfl rfl (by decide) hc hp⟩
  case software =>
    intro s _ hb hw
    obtain ⟨hc, hp⟩ := keyStored_awake hb
    obtain ⟨hcause, hwarm⟩ := warmRequest_requests (cause := F.GLB_RSTCAUSE_WARMSW) rfl rfl (by decide) hc hp
    refine ⟨_, exec_warmResetSoftware ⟨hb, hw⟩, hcause, fun h => hwarm ?_⟩
    rw [keyStored, storeReg_boot, h]
  case assert =>
    intro s _ hw hc
    exact ⟨_, exec_warmResetAssert hw hc, warmAssert_warm s, warmAssert_strap s, warmAssert_stage s,
      fun h => ⟨warmAssert_fuses h, warmAssert_rstcause h, warmAssert_flash h⟩, fun off h => word_warmAssert s h⟩
  case release => exact fun s hw hc => ⟨_, exec_warmResetRelease hw hc, warmRelease_starts s⟩
  case loss => exact fun s => ⟨_, rfl, getF_refClkLoss_refok s, fun hr hl => refClkLoss_locked_effect hr hl⟩
  case good => exact fun s => ⟨_, rfl, refClkGood_effect s⟩
  case unlock => exact fun k s hk hr hg hl => ⟨_, rfl, pllUnlock_effect hk hr hg hl⟩

end Sys2Proof.Machine
end

section
/-! PROOF. The UCIe link (R20 to R22, R84, R86, R92 to R95): attempts that end, back-offs, windows, READY, and the loss of the
link. -/

namespace Sys2Proof.Machine

theorem whenOn_of_on {id : Nat} {s : State} (h : blkOn s id = true) (f : State → State) : whenOn id s f = .next (f s) :=
  congrArg Host.Outcome.next (if_pos h)

theorem stage_congr {s t : State} (h : t.word R.GLB_BOOTSTAT = s.word R.GLB_BOOTSTAT) : stage t = stage s :=
  congrArg F.GLB_BOOTSTAT_STAGE.get h

theorem strap_congr {s t : State} (h : t.word R.GLB_ROLE = s.word R.GLB_ROLE) : strap t = strap s :=
  congrArg F.GLB_ROLE_STRAP.get h

theorem strapFault_congr {s t : State} (h : t.word R.GLB_ROLE = s.word R.GLB_ROLE) : strapFault t = strapFault s := by
  rw [strapFault, strapFault, strap_congr h]

/-! ### READY (R84) -/

/-- A unit that is READY, before its ports start and its event is raised. -/
def readyMarked (s : State) (ms : Nat) : State :=
  setBootStage (setF (setF s F.GLB_ROLE_HOLD 0) F.GLB_BOOTSTAT_BOOTMS (min 0xFFFF ms)) 7

/-- The instant of READY is kept (R580). -/
def readyTimed (s : State) : State := { s with upd := { s.upd with readyAt := some (upNs s) } }

theorem word_readyTimed (s : State) (off : Nat) : (readyTimed s).word off = s.word off := rfl

/-- The ports of a sender start with READY. -/
def readyPorts (s : State) : State := if isSender s then startPorts s [0, 1, 2, 3] false else s

theorem toReady_eq (s : State) (ms : Nat) : toReady s ms = raise (fuseSvn (readyPorts (readyTimed (readyMarked s ms)))) 0x0004
    (beBytes 4 ((readyPorts (readyTimed (readyMarked s ms))).word R.GLB_BOOTSTAT).toNat) := rfl

theorem word_readyPorts (s : State) {off : Nat} (h : off < 0x38000) : (readyPorts s).word off = s.word off :=
  word_of_regs (RegsBut.ite (startPorts_regs s _ _ (by simp only [R.LNK_CFG]; omega)
    (fun i => by simp only [R.LNK_PCTL]; omega) (fun i => by simp only [R.LNK_PSTAT]; omega) RegsBut.same) RegsBut.same)

/-- What follows READY writes registers of the chain ports and of the event queue only. -/
theorem word_toReady (s : State) (ms : Nat) {off : Nat} (h : off < 0x38000) (hovf : off ≠ R.GLB_EVTOVF) :
    (toReady s ms).word off = (readyMarked s ms).word off := by
  rw [toReady_eq, word_raise _ _ _ hovf h, word_of_regs (fuseSvn_regs _ RegsBut.same), word_readyPorts _ h, word_readyTimed]

theorem stage_toReady (s : State) (ms : Nat) : stage (toReady s ms) = 7 :=
  (stage_congr (word_toReady s ms (by decide) (by decide))).trans (getF_setF_same _ _ _ (by decide))

theorem bootms_toReady (s : State) (ms : Nat) : getF (toReady s ms) F.GLB_BOOTSTAT_BOOTMS = min 0xFFFF ms := by
  have h : getF (readyMarked s ms) F.GLB_BOOTSTAT_BOOTMS = min 0xFFFF ms % 2 ^ 16 :=
    (getF_setF_other _ _ (by decide) (by decide)).trans (getF_setF_same _ _ _ (by decide))
  have hlt : min 0xFFFF ms < 2 ^ 16 := (Nat.min_le_left _ _).trans_lt (by decide)
  rw [getF, word_toReady _ _ (by decide) (by decide), ← Nat.mod_eq_of_lt hlt]
  exact h

theorem isHostless_toReady (s : State) (ms : Nat) : isHostless (toReady s ms) = isHostless s := by
  have h : getF (readyMarked s ms) F.GLB_ROLE_HOSTLESS = getF s F.GLB_ROLE_HOSTLESS :=
    (getF_setF_other _ _ (by decide) (by decide)).trans
      ((getF_setF_other _ _ (by decide) (by decide)).trans (getF_setF_other _ _ (by decide) (by decide)))
  exact isSet_congr ((congrArg F.GLB_ROLE_HOSTLESS.get (word_toReady s ms (by decide) (by decide))).trans h)

theorem toReady_boot (s : State) (ms : Nat) : (toReady s ms).boot = s.boot :=
  same_of_keeps .boot (toReady_keeps s ms (by decide) (by decide) (by decide) (by decide) (by decide) (by decide) (by decide)
    (by decide) Keeps.same)

/-! ### An attempt that ends with a link (R86, R92) -/

/-- The link registers of a link with modules `m` at rate `r`. -/
def linkShown (s : State) (m r : Nat) : State :=
  setF (setF (setF s F.HIF_LINKSTAT_UP 1) F.HIF_LINKSTAT_MODS m) F.HIF_LINKSTAT_RATE r

/-- The link is trained, and what waited for it goes. -/
def linkTrained (s : State) (m r : Nat) : State :=
  issueWaiting { linkShown s m r with boot := { s.boot with ucie := .closed, fails := 0, relink := false } }

theorem ucieUp_eq (s : State) (m r ms : Nat) : ucieUp s m r ms =
    if (stage (linkTrained s m r) = 6 ∨ stage (linkTrained s m r) = 8) ∧ !strapFault (linkTrained s m r) then
      toReady (linkTrained s m r) ms
    else linkTrained s m r := rfl

theorem word_linkTrained (s : State) (m r : Nat) {off : Nat} (h : off < 0x38000) :
    (linkTrained s m r).word off = (linkShown s m r).word off :=
  word_of_regs (issueWaiting_regs _ (fun k => by omega) RegsBut.same)

theorem word_linkTrained_other (s : State) (m r : Nat) {off : Nat} (h : off < 0x38000) (hl : off ≠ R.HIF_LINKSTAT) :
    (linkTrained s m r).word off = s.word off := by
  rw [word_linkTrained s m r h, linkShown, word_setF_ne _ _ _ hl, word_setF_ne _ _ _ hl, word_setF_ne _ _ _ hl]

theorem linkTrained_ucie (s : State) (m r : Nat) : (linkTrained s m r).boot.ucie = .closed := by
  have h := same_of_keeps .boot (issueWaiting_keeps
    { linkShown s m r with boot := { s.boot with ucie := .closed, fails := 0, relink := false } } (by decide) (by decide)
    (by decide) Keeps.same)
  exact congrArg BootSt.ucie h

theorem word_ucieUp_linkstat (s : State) (m r ms : Nat) :
    (ucieUp s m r ms).word R.HIF_LINKSTAT = (linkShown s m r).word R.HIF_LINKSTAT := by
  rw [ucieUp_eq]
  split
  · rw [word_toReady _ _ (by decide) (by decide), readyMarked, setBootStage, word_setF_ne _ _ _ (by decide),
      word_setF_ne _ _ _ (by decide), word_setF_ne _ _ _ (by decide), word_linkTrained _ _ _ (by decide)]
  · exact word_linkTrained _ _ _ (by decide)

theorem getF_linkShown (s : State) (m r : Nat) : getF (linkShown s m r) F.HIF_LINKSTAT_UP = 1 ∧
    getF (linkShown s m r) F.HIF_LINKSTAT_MODS = m % 2 ^ F.HIF_LINKSTAT_MODS.width ∧
    getF (linkShown s m r) F.HIF_LINKSTAT_RATE = r % 2 ^ F.HIF_LINKSTAT_RATE.width := by
  unfold linkShown
  refine ⟨?_, ?_, getF_setF_same _ _ _ (by decide)⟩
  · exact (getF_setF_other _ _ (by decide) (by decide)).trans
      ((getF_setF_other _ _ (by decide) (by decide)).trans (getF_setF_same _ _ _ (by decide)))
  · exact (getF_setF_other _ _ (by decide) (by decide)).trans (getF_setF_same _ _ _ (by decide))

theorem ucieUp_shows (s : State) (m r ms : Nat) : getF (ucieUp s m r ms) F.HIF_LINKSTAT_UP = 1 ∧
    getF (ucieUp s m r ms) F.HIF_LINKSTAT_MODS = m % 2 ^ F.HIF_LINKSTAT_MODS.width ∧
    getF (ucieUp s m r ms) F.HIF_LINKSTAT_RATE = r % 2 ^ F.HIF_LINKSTAT_RATE.width := by
  have h (f : Fld) (hf : f.off = R.HIF_LINKSTAT) : getF (ucieUp s m r ms) f = getF (linkShown s m r) f := by
    rw [getF, hf, word_ucieUp_linkstat, ← hf, getF]
  rw [h _ rfl, h _ rfl, h _ rfl]
  exact getF_linkShown s m r

theorem ucieUp_closes (s : State) (m r ms : Nat) : (ucieUp s m r ms).boot.ucie = .closed := by
  rw [ucieUp_eq]
  split
  · rw [toReady_boot, linkTrained_ucie]
  · exact linkTrained_ucie s m r

/-- In the UCIe stage or in boot hold a link makes the unit READY (R84, R20, R22). -/
theorem ucieUp_ready {s : State} (m r ms : Nat) (hs : stage s = 6 ∨ stage s = 8) (hf : strapFault s = false) :
    stage (ucieUp s m r ms) = 7 ∧ getF (ucieUp s m r ms) F.GLB_BOOTSTAT_BOOTMS = min 0xFFFF ms := by
  have hstage := stage_congr (word_linkTrained_other s m r (off := R.GLB_BOOTSTAT) (by decide) (by decide))
  have hfault := strapFault_congr (word_linkTrained_other s m r (off := R.GLB_ROLE) (by decide) (by decide))
  rw [ucieUp_eq, if_pos ⟨by rwa [hstage], by simp [hfault, hf]⟩]
  exact ⟨stage_toReady _ ms, bootms_toReady _ ms⟩

theorem ucieAttemptEnd_linked {s : State} {mods : List (Option Nat)} {m r : Nat} (hu : s.boot.ucie = .attempt)
    (hl : linkResult s mods = some (m, r)) (ms : Nat) : ucieAttemptEnd s mods false ms = ucieUp s m r ms := by
  rw [ucieAttemptEnd, if_neg (by simp [hu]), if_neg (by decide), hl]

theorem exec_ucieAttemptEnd {dt : Nat} {s : State} {mods : List (Option Nat)} {m r : Nat}
    (hb : blkOn (advance dt s) 0x02 = true) (hu : (advance dt s).boot.ucie = .attempt)
    (hl : linkResult (advance dt s) mods = some (m, r)) (ms : Nat) :
    exec (.ucieAttemptEnd dt mods false ms) s = .next (ucieUp (advance dt s) m r ms) :=
  (whenOn_of_on hb (ucieAttemptEnd · mods false ms)).trans (congrArg Host.Outcome.next (ucieAttemptEnd_linked hu hl ms))

/-! ### Attempts that start (R86, R93, R94) -/

/-- An attempt runs under the settings that HIF_LINKCFG has as it starts. -/
theorem ucieStart_attempt (s : State) : (ucieStart s).boot.ucie = .attempt ∧
    (ucieStart s).boot.modMask = getF (ucieStart s) F.HIF_LINKCFG_MODMASK ∧
    (ucieStart s).boot.maxRate = getF (ucieStart s) F.HIF_LINKCFG_MAXRATE := ⟨rfl, rfl, rfl⟩

theorem ucieOpen_window (s : State) : (ucieOpen s).boot.ucie = .attempt ∧ (ucieOpen s).boot.fails = 0 ∧
    (ucieOpen s).boot.relink = s.boot.relink := ⟨rfl, rfl, rfl⟩

theorem exec_ucieBackoffEnd {dt : Nat} {s : State} (hb : blkOn (advance dt s) 0x02 = true)
    (hu : (advance dt s).boot.ucie = .backoff) (hr : (advance dt s).boot.relink = false)
    (hd : (advance dt s).boot.due ≤ upNs (advance dt s)) :
    exec (.ucieBackoffEnd dt) s = .next (ucieStart (advance dt s)) :=
  (whenOn_of_on hb _).trans (congrArg Host.Outcome.next (if_pos ⟨hu, by simp [hr], hd⟩))

theorem exec_hifRetryTimer {dt : Nat} {s : State} (hb : blkOn (advance dt s) 0x02 = true)
    (hu : (advance dt s).boot.ucie = .backoff) (hr : (advance dt s).boot.relink = true)
    (hd : (advance dt s).boot.due ≤ upNs (advance dt s)) :
    exec (.hifRetryTimer dt) s = .next (ucieStart (advance dt s)) :=
  (whenOn_of_on hb _).trans (congrArg Host.Outcome.next (if_pos ⟨hu, hr, hd⟩))

theorem exec_bootHoldRetry {dt : Nat} {s : State} (hb : blkOn (advance dt s) 0x02 = true) (hs : stage (advance dt s) = 8)
    (hu : (advance dt s).boot.ucie = .closed) (hf : (advance dt s).boot.fails = 0)
    (hl : isSet (advance dt s) F.HIF_LINKSTAT_UP = false) (hd : (advance dt s).boot.due ≤ upNs (advance dt s)) :
    exec (.bootHoldRetry dt) s = .next (ucieOpen (advance dt s)) :=
  (whenOn_of_on hb _).trans (congrArg Host.Outcome.next (if_pos ⟨hs, hu, hf, by simp [hl], hd⟩))

/-! ### A window that closes without a link (R20 to R22) -/

/-- The attempts of a window that has closed are counted anew. -/
def windowOver (s : State) : State := { s with boot := { s.boot with fails := 0 } }

section
variable {s : State} (hu : s.boot.ucie = .closed) (hn : s.boot.fails = 3) (hf : strapFault s = false) (hs : stage s = 6)
include hu hn hf hs

/-- A unit with strap value 2 goes on without a host (R21). -/
theorem windowClose_hostless (qs : List (Nat × Word)) (ms : Nat) (h : strap s = 2) : windowClose s qs ms =
    toReady (queueSettings (setF (windowOver s) F.GLB_ROLE_HOSTLESS 1) qs) ms := by
  have hgo : ¬ (s.boot.ucie ≠ .closed ∨ s.boot.fails ≠ 3) := by simp [hu, hn]
  have hf' : ¬ strapFault (windowOver s) = true := fun e => Bool.false_ne_true (hf.symm.trans e)
  exact (if_neg hgo).trans ((if_neg hf').trans ((if_pos hs).trans (if_pos h)))

/-- Any other unit holds (R20, R22). -/
theorem windowClose_holds (qs : List (Nat × Word)) (ms : Nat) (h : strap s ≠ 2) : windowClose s qs ms =
    { setBootStage (setF (windowOver s) F.GLB_ROLE_HOLD 1) 8 with
      boot := { (windowOver s).boot with due := upNs s + 1000000000 } } := by
  have hgo : ¬ (s.boot.ucie ≠ .closed ∨ s.boot.fails ≠ 3) := by simp [hu, hn]
  have hf' : ¬ strapFault (windowOver s) = true := fun e => Bool.false_ne_true (hf.symm.trans e)
  exact (if_neg hgo).trans ((if_neg hf').trans ((if_pos hs).trans (if_neg h)))

end

/-- The queue settings write registers of QUE and SOR, and pending bits of vectors. -/
theorem word_queueSettings (s : State) (qs : List (Nat × Word)) {off : Nat} (h : off < 0x38000) :
    (queueSettings s qs).word off = s.word off :=
  word_of_regs (queueSettings_regs s qs (fun k => by omega) (fun o _ _ => by omega) (fun o _ _ => by omega)
    (fun i => by simp only [R.QUE_STAT]; omega) (fun i => by simp only [R.QUE_IDX]; omega)
    (fun i => by simp only [R.QUE_RET]; omega) (fun i => by simp only [R.SOR_TGTSTAT]; omega) RegsBut.same)

/-- A tile that goes on without a host shows it (R21). -/
theorem hostless_ready (s : State) (qs : List (Nat × Word)) (ms : Nat) :
    stage (toReady (queueSettings (setF s F.GLB_ROLE_HOSTLESS 1) qs) ms) = 7 ∧
      isHostless (toReady (queueSettings (setF s F.GLB_ROLE_HOSTLESS 1) qs) ms) = true := by
  have h : getF (setF s F.GLB_ROLE_HOSTLESS 1) F.GLB_ROLE_HOSTLESS = 1 := getF_setF_same _ _ _ (by decide)
  refine ⟨stage_toReady _ _, ?_⟩
  rw [isHostless_toReady, isHostless, isSet, getF, word_queueSettings _ _ (by decide)]
  exact bne_iff_ne.2 (ne_of_eq_of_ne h (by decide))

theorem setBootStage_shows (s : State) {k : Nat} (hk : k < 16) : stage (setBootStage s k) = k :=
  (getF_setF_same _ _ _ (by decide)).trans (Nat.mod_eq_of_lt hk)

theorem getF_setBootStage_hold (s : State) (k : Nat) : getF (setBootStage (setF s F.GLB_ROLE_HOLD 1) k) F.GLB_ROLE_HOLD = 1 :=
  (getF_setF_other _ _ (by decide) (by decide)).trans (getF_setF_same _ _ _ (by decide))

/-- After a loss the link is wanted again. -/
def relinkWanted (s : State) : State := { s with boot := { s.boot with relink := true } }

theorem ucieOpen_relinkWanted (s : State) : (ucieOpen (relinkWanted s)).hif = s.hif ∧
    ∀ off, (ucieOpen (relinkWanted s)).word off = s.word off := ⟨rfl, fun _ => rfl⟩

/-! ### The loss of the link (R93) -/

theorem sendVec_reads (s : State) (v : Nat) : (sendVec s v).hif.reads = s.hif.reads := by
  unfold sendVec
  split
  · rfl
  · split
    · rfl
    · split <;> rfl

/-- Raising an event ends no read. -/
theorem raise_reads (s : State) (code : Nat) (det : Bytes) : (raise s code det).hif.reads = s.hif.reads := by
  have queued : (appendEvent s ⟨code, timeNs s, fit 8 det⟩).hif.reads = s.hif.reads := by
    unfold appendEvent
    dsimp only
    split
    · rfl
    · split
      · exact sendVec_reads _ _
      · rfl
  unfold raise
  dsimp only
  split
  · have h := same_of_keeps .hif (tileLetter_keeps (appendEvent s ⟨code, timeNs s, fit 8 det⟩) 2 3 0x0E
      (eventContent ⟨code, timeNs s, fit 8 det⟩) (by decide) (by decide) Keeps.same)
    exact (congrArg HifSt.reads h).trans queued
  · exact queued

/-- The link registers of a link that is gone. -/
def linkCleared (s : State) : State :=
  setF (setF (setF s F.HIF_LINKSTAT_UP 0) F.HIF_LINKSTAT_MODS 0) F.HIF_LINKSTAT_RATE 0

/-- What ends with the link writes no register of HIF. -/
theorem word_linkDown (s : State) : (linkDown s).word R.HIF_LINKSTAT = (linkCleared s).word R.HIF_LINKSTAT := by
  have hpba : ∀ k, 0x38000 + 4 * (k % 64) ≠ R.HIF_LINKSTAT := fun k => by simp only [R.HIF_LINKSTAT]; omega
  have hstat : ∀ i, R.QUE_STAT i ≠ R.HIF_LINKSTAT := fun i => by simp only [R.QUE_STAT, R.HIF_LINKSTAT]; omega
  have hret : ∀ i, R.QUE_RET i ≠ R.HIF_LINKSTAT := fun i => by simp only [R.QUE_RET, R.HIF_LINKSTAT]; omega
  have htgt : ∀ i, R.SOR_TGTSTAT i ≠ R.HIF_LINKSTAT := fun i => by simp only [R.SOR_TGTSTAT, R.HIF_LINKSTAT]; omega
  unfold linkDown
  refine word_of_regs (RegsBut.hif.2 (srfLinkLoss_regs _ hpba (by decide) (by decide) (sorLinkLoss_regs _ hpba hstat hret htgt
    (dmaLinkLoss_regs _ hpba (by decide) hstat hret (fun i => ?_) (fun i => ?_) (fun i => ?_) htgt (by decide) (fun i => ?_)
      (by decide) (by decide) (lateLost_regs _ (RegsBut.foldl
        (fun t q ht => RegsBut.ite (queueError_regs t q _ hpba hstat ht) ht) RegsBut.same))))))
  · simp only [R.DMA_CHSTAT, R.HIF_LINKSTAT]; omega
  · simp only [R.DMA_CHCNT, R.HIF_LINKSTAT]; omega
  · simp only [R.DMA_CHDEAD, R.HIF_LINKSTAT]; omega
  · simp only [R.CHN_PERR, R.HIF_LINKSTAT]; omega

theorem linkDown_reads (s : State) : (linkDown s).hif.reads = [] := rfl

theorem getF_linkCleared (s : State) : getF (linkCleared s) F.HIF_LINKSTAT_UP = 0 ∧
    getF (linkCleared s) F.HIF_LINKSTAT_DOWNCNT = getF s F.HIF_LINKSTAT_DOWNCNT := by
  unfold linkCleared
  constructor
  · exact (getF_setF_other _ _ (by decide) (by decide)).trans
      ((getF_setF_other _ _ (by decide) (by decide)).trans (getF_setF_same _ _ _ (by decide)))
  · exact (getF_setF_other _ _ (by decide) (by decide)).trans
      ((getF_setF_other _ _ (by decide) (by decide)).trans (getF_setF_other _ _ (by decide) (by decide)))

/-- The link down and counted, as its event is raised. -/
def lossCounted (s : State) : State := incSat (linkDown s) F.HIF_LINKSTAT_DOWNCNT

theorem getF_lossCounted (s : State) : getF (lossCounted s) F.HIF_LINKSTAT_UP = 0 ∧
    getF (lossCounted s) F.HIF_LINKSTAT_DOWNCNT = satAdd F.HIF_LINKSTAT_DOWNCNT.top (getF s F.HIF_LINKSTAT_DOWNCNT) 1 := by
  obtain ⟨hup, hcnt⟩ := getF_linkCleared s
  have hdown (f : Fld) (hf : f.off = R.HIF_LINKSTAT) : getF (linkDown s) f = getF (linkCleared s) f := by
    rw [getF, hf, word_linkDown, ← hf, getF]
  have hsat : satAdd F.HIF_LINKSTAT_DOWNCNT.top (getF s F.HIF_LINKSTAT_DOWNCNT) 1 < 2 ^ 8 :=
    (Nat.min_le_left _ _).trans_lt (by decide)
  unfold lossCounted incSat
  constructor
  · rw [getF_setF_other _ _ (by decide) (by decide), hdown _ rfl, hup]
  · rw [getF_setF_same _ _ _ (by decide), hdown _ rfl, hcnt]
    exact Nat.mod_eq_of_lt hsat

def lossRaised (s : State) : State := raise (lossCounted s) 0x0201 [byte (getF (lossCounted s) F.HIF_LINKSTAT_DOWNCNT)]

/-- A trained link that is lost at READY goes down with its event, and a window to train it again opens. -/
theorem linkLoss_ready {s : State} (hl : isSet s F.HIF_LINKSTAT_UP = true) (hr : isReady s = true) :
    linkLoss s = ucieOpen (relinkWanted (lossRaised s)) :=
  (if_neg (by simp [hl])).trans (if_neg (by simp [hr]))

theorem linkLoss_effect {s : State} (hl : isSet s F.HIF_LINKSTAT_UP = true) (hr : isReady s = true) :
    getF (linkLoss s) F.HIF_LINKSTAT_UP = 0 ∧ (linkLoss s).boot.relink = true ∧ (linkLoss s).boot.ucie = .attempt ∧
      (linkLoss s).hif.reads = [] ∧
      getF (linkLoss s) F.HIF_LINKSTAT_DOWNCNT = satAdd F.HIF_LINKSTAT_DOWNCNT.top (getF s F.HIF_LINKSTAT_DOWNCNT) 1 := by
  obtain ⟨hup, hcnt⟩ := getF_lossCounted s
  obtain ⟨hhif, hword⟩ := ucieOpen_relinkWanted (lossRaised s)
  have h := linkLoss_ready hl hr
  have hstat : (linkLoss s).word R.HIF_LINKSTAT = (lossCounted s).word R.HIF_LINKSTAT := by
    rw [h, hword, lossRaised]
    exact word_raise (lossCounted s) _ _ (by decide) (by decide)
  have hreads : (linkLoss s).hif.reads = [] := by
    rw [h, hhif, lossRaised]
    exact (raise_reads (lossCounted s) _ _).trans (linkDown_reads s)
  refine ⟨(congrArg F.HIF_LINKSTAT_UP.get hstat).trans hup, ?_, ?_, hreads,
    (congrArg F.HIF_LINKSTAT_DOWNCNT.get hstat).trans hcnt⟩
  · rw [h]
    exact (ucieOpen_window _).2.2
  · rw [h]
    exact (ucieOpen_window _).1

/-! ### RETRAIN (R94) -/

/-- The settings of a write of HIF_LINKCFG with RETRAIN, stored. -/
def retrainStored (s : State) (v : Word) : State := storeReg s R.HIF_LINKCFG (F.HIF_LINKCFG_RETRAIN.put v 1)

theorem linkUp_of_barOpen {s : State} (h : barOpen s = true) : isSet s F.HIF_LINKSTAT_UP = true := by
  simp only [barOpen, Bool.and_eq_true] at h
  obtain ⟨⟨_, hl⟩, _⟩ := h
  exact hl

theorem retrainStored_up {s : State} (v : Word) (h : barOpen s = true) : isSet (retrainStored s v) F.HIF_LINKSTAT_UP = true :=
  (isSet_congr (congrArg F.HIF_LINKSTAT_UP.get (word_storeReg_ne s _ (by decide)))).trans (linkUp_of_barOpen h)

theorem retrainStored_ready {s : State} (v : Word) (h : isReady s = true) : isReady (retrainStored s v) = true := by
  have hs : stage (retrainStored s v) = stage s := stage_congr (word_storeReg_ne s _ (by decide))
  rw [isReady, hs]
  exact h

theorem exec_hifRetrain {v : Word} {s : State} (h : WriteOk s R.HIF_LINKCFG (F.HIF_LINKCFG_RETRAIN.put v 1)) :
    exec (.hifRetrain v) s = .next (linkLoss (retrainStored s v)) := by
  have hgo : F.HIF_LINKCFG_RETRAIN.get (F.HIF_LINKCFG_RETRAIN.put v 1) = 1 := get_put_same _ _ _ (by decide)
  refine congrArg Host.Outcome.next ((hostWrite_accepted (by decide) (by decide) h).trans ?_)
  rw [regEffect_02 _ _ _ (by decide), if_pos ⟨rfl, hgo⟩, linkRetrain]
  exact if_pos (retrainStored_up v h.1)

/-- Settles O18, command by command. -/
theorem ucieLink : Obligations.UcieLink := by
  unfold Obligations.UcieLink
  refine ⟨?attemptEnd, ?backoff, ?retry, ?hold, ?window, ?loss, ?retrain⟩
  case attemptEnd =>
    intro dt mods ms s m r hb hu hl
    obtain ⟨hup, hmods, hrate⟩ := ucieUp_shows (advance dt s) m r ms
    exact ⟨_, exec_ucieAttemptEnd hb hu hl ms, hup, hmods, hrate, ucieUp_closes _ m r ms, ucieUp_ready m r ms⟩
  case backoff => exact fun dt s hb hu hr hd => ⟨_, exec_ucieBackoffEnd hb hu hr hd, ucieStart_attempt _⟩
  case retry => exact fun dt s hb hu hr hd => ⟨_, exec_hifRetryTimer hb hu hr hd, ucieStart_attempt _⟩
  case hold =>
    intro dt s hb hs hu hf hl hd
    obtain ⟨hucie, hfails, _⟩ := ucieOpen_window (advance dt s)
    exact ⟨_, exec_bootHoldRetry hb hs hu hf hl hd, hucie, hfails⟩
  case window =>
    intro qs ms s hb hu hn hf hs
    refine ⟨_, whenOn_of_on hb (windowClose · qs ms), fun h => ?_, fun h => ?_⟩
    · rw [windowClose_hostless hu hn hf hs qs ms h]
      exact hostless_ready _ qs ms
    · rw [windowClose_holds hu hn hf hs qs ms h]
      exact ⟨setBootStage_shows _ (by decide), getF_setBootStage_hold _ 8, rfl⟩
  case loss => exact fun s _ hb hl hr => ⟨_, whenOn_of_on hb linkLoss, linkLoss_effect hl hr⟩
  case retrain =>
    intro v s _ hb hr hw
    obtain ⟨hup, hrelink, hucie, _, _⟩ := linkLoss_effect (retrainStored_up v hb) (retrainStored_ready v hr)
    exact ⟨_, exec_hifRetrain ⟨hb, hw⟩, hup, hrelink, hucie⟩

end Sys2Proof.Machine
end

section
/-! PROOF. The boot stages (R84, R85, R87): what the end of each stage leaves, the training of one DRAM channel (R482, R487, R488),
and the eye that a sweep selects (R487). -/

namespace Sys2Proof.Machine

/-! ### Shared by the stages -/

theorem word_ucieOpen (s : State) (off : Nat) : (ucieOpen s).word off = s.word off := rfl

theorem word_setBootStage (s : State) (k : Nat) {off : Nat} (h : off ≠ R.GLB_BOOTSTAT) :
    (setBootStage s k).word off = s.word off :=
  word_setF_ne _ _ _ h

theorem stage_ucieOpen_setBootStage (s : State) {k : Nat} (hk : k < 16) : stage (ucieOpen (setBootStage s k)) = k :=
  (stage_congr (word_ucieOpen _ _)).trans (setBootStage_shows s hk)

/-- A unit that stops in FAIL shows why (R87). -/
theorem bootFail_shows (s : State) (c : Status) (hc : c.code < 2 ^ 8) : stage (bootFail s c) = 9 ∧
    getF (bootFail s c) F.GLB_BOOTSTAT_FAILCODE = c.code := by
  have hcode : getF (setBootStage (failCode s c) 9) F.GLB_BOOTSTAT_FAILCODE = c.code :=
    (getF_setF_other _ _ (by decide) (by decide)).trans
      ((getF_setF_same _ _ _ (by decide)).trans (Nat.mod_eq_of_lt hc))
  exact ⟨stage_ucieOpen_setBootStage _ (by decide), (congrArg F.GLB_BOOTSTAT_FAILCODE.get (word_ucieOpen _ _)).trans hcode⟩

/-! ### The PLL stage (R85, R19) -/

theorem exec_pllStageDone {s : State} (hb : booting s 1 = true) (hr : isSet s F.CLK_LOCK_REFOK = true) :
    exec .pllStageDone s = .next (if strapFault (setF s F.CLK_LOCK_LOCK 0xFF) then
      ucieOpen (setBootStage (setF s F.CLK_LOCK_LOCK 0xFF) 8) else setBootStage (setF s F.CLK_LOCK_LOCK 0xFF) 2) :=
  congrArg Host.Outcome.next (if_pos ⟨hb, hr⟩)

theorem getF_locked (s : State) (k : Nat) : getF (setBootStage (setF s F.CLK_LOCK_LOCK 0xFF) k) F.CLK_LOCK_LOCK = 0xFF :=
  (getF_setF_other _ _ (by decide) (by decide)).trans (getF_setF_same _ _ _ (by decide))

theorem pllStageDone_effect {s : State} (hb : booting s 1 = true) (hr : isSet s F.CLK_LOCK_REFOK = true) :
    ∃ t, exec .pllStageDone s = .next t ∧ getF t F.CLK_LOCK_LOCK = 0xFF ∧ (strapFault s = false → stage t = 2) ∧
      (strapFault s = true → stage t = 8 ∧ t.boot.ucie = .attempt) := by
  have hf : strapFault (setF s F.CLK_LOCK_LOCK 0xFF) = strapFault s := strapFault_congr (word_setF_ne _ _ _ (by decide))
  refine ⟨_, exec_pllStageDone hb hr, ?_⟩
  rw [hf]
  by_cases h : strapFault s = true
  · rw [if_pos h]
    exact ⟨(congrArg F.CLK_LOCK_LOCK.get (word_ucieOpen _ _)).trans (getF_locked s 8),
      fun h' => absurd (h.symm.trans h') (by decide), fun _ => ⟨stage_ucieOpen_setBootStage _ (by decide), (ucieOpen_window _).1⟩⟩
  · rw [if_neg h]
    exact ⟨getF_locked s 2, fun _ => setBootStage_shows _ (by decide), fun h' => absurd h' h⟩

/-! ### The ROM stage (R544) -/

theorem meas_measExtend_same (s : State) {i : Nat} (hi : i < 8) (d : Bytes) :
    meas (measExtend s i d) i = sha (meas s i ++ fit 64 d) := by
  rw [meas, measExtend, List.getD_eq_getElem _ _ (by simpa using hi), List.getElem_map, List.getElem_range, if_pos rfl]

theorem meas_setBootStage (s : State) (k i : Nat) : meas (setBootStage s k) i = meas s i := by
  rw [meas, meas, setBootStage, setF_sec]

theorem romDone_effect (s : State) : stage (romDone s) = 3 ∧ ∃ d, meas (romDone s) 0 = sha (meas s 0 ++ fit 64 d) :=
  ⟨setBootStage_shows _ (by decide), _, (meas_setBootStage _ _ _).trans (meas_measExtend_same s (by decide) _)⟩

/-! ### The FIRST stage (R563, R569, R578) -/

/-- M1 is extended with the FIRST image of the slot that boots (R544). -/
def slotMeasured (s : State) (k : Nat) : State :=
  measExtend s 1 (sha (((partsOf (slotManifest s k) 1).head?).elim [] (partBytes s k (slotManifest s k))))

/-- SLOT, TRIES and the registers of CUR show the slot. -/
def slotBooted (s : State) (k : Nat) (trial : Bool) : State :=
  curShow (setF (setF (slotMeasured s k) F.GLB_BOOTSTAT_SLOT k) F.UPD_STAT_TRIES
    (if trial then candTries (slotMeasured s k) else 0))

/-- The slot runs from here on. -/
def slotRunning (s : State) (k : Nat) (trial : Bool) : State := { s with upd := { s.upd with running := k, trial := trial } }

/-- The state of the update that a boot shows (R569). -/
def bootUstate (s : State) (trial : Bool) : Nat :=
  if trial then 5 else if s.upd.pkg.isNone then 0 else if (pkgNeed s).length = (pkgHeld s).length then 2 else 1

theorem bootSlot_eq (s : State) (k : Nat) (trial : Bool) : bootSlot s k trial =
    setBootStage (setUstate (updShow (slotRunning (slotBooted s k trial) k trial))
      (bootUstate (updShow (slotRunning (slotBooted s k trial) k trial)) trial)) 4 := rfl

theorem word_slotRunning (s : State) (k : Nat) (trial : Bool) (off : Nat) : (slotRunning s k trial).word off = s.word off := rfl

theorem running_slotRunning (s : State) (k : Nat) (trial : Bool) : (slotRunning s k trial).upd.running = k := rfl

/-- Showing the update's state writes UPD, and what an event writes. -/
theorem word_ustateShown (s : State) (u : Nat) {off : Nat} (h : off < 0x38000) (hovf : off ≠ R.GLB_EVTOVF) :
    (setUstate (updShow s) u).word off = s.word off :=
  word_of_regs (setUstate_regs _ _ (fun k => by omega) hovf.symm (fun i => by simp only [R.CHN_PERR]; omega)
    (by simp only [R.UPD_STAT]; omega) (updShow_regs _ (by simp only [R.UPD_HELD]; omega)
      (fun i => by simp only [R.UPD_PKGID]; omega) RegsBut.same))

theorem running_ustateShown (s : State) (u : Nat) : (setUstate (updShow s) u).upd.running = s.upd.running :=
  congrArg UpdSt.running (same_of_keeps .upd (setUstate_keeps _ _ (by decide) (by decide) (by decide) (by decide) (by decide)
    (updShow_keeps _ (by decide) Keeps.same)))

theorem getF_slotBooted_slot (s : State) (k : Nat) (trial : Bool) : getF (slotBooted s k trial) F.GLB_BOOTSTAT_SLOT = k % 2 := by
  have h : (slotBooted s k trial).word R.GLB_BOOTSTAT = (setF (slotMeasured s k) F.GLB_BOOTSTAT_SLOT k).word R.GLB_BOOTSTAT :=
    (word_of_regs (curShow_regs _ (by decide) (by decide) RegsBut.same)).trans (word_setF_ne _ _ _ (by decide))
  exact (congrArg F.GLB_BOOTSTAT_SLOT.get h).trans (getF_setF_same _ _ _ (by decide))

theorem bootSlot_shows (s : State) (k : Nat) (trial : Bool) : stage (bootSlot s k trial) = 4 ∧
    getF (bootSlot s k trial) F.GLB_BOOTSTAT_SLOT = k % 2 ∧ (bootSlot s k trial).upd.running = k := by
  rw [bootSlot_eq]
  refine ⟨setBootStage_shows _ (by decide), ?_, ?_⟩
  · rw [setBootStage, getF_setF_other _ _ (by decide) (by decide), getF, word_ustateShown _ _ (by decide) (by decide),
      word_slotRunning]
    exact getF_slotBooted_slot s k trial
  · rw [setBootStage, setF_upd, running_ustateShown, running_slotRunning]

theorem word_bootSlot_nvm (s : State) (k : Nat) (trial : Bool) : (bootSlot s k trial).word R.NVM_STAT = s.word R.NVM_STAT :=
  word_of_regs (bootSlot_regs _ _ _ (fun k => by simp only [R.NVM_STAT]; omega) (by decide) (by decide)
    (fun i => by simp only [R.NVM_STAT, R.CHN_PERR]; omega) (by decide) (by decide) (by decide)
    (fun i => by simp only [R.NVM_STAT, R.UPD_PKGID]; omega) RegsBut.same)

theorem word_flashFound (s : State) (o : FirstObs) (off : Nat) : (flashFound s o).word off = s.word off := rfl

theorem getF_flashLearn_ndev (s : State) (o : FirstObs) :
    getF (flashLearn s o) F.NVM_STAT_NDEV = o.ndev % 2 ^ F.NVM_STAT_NDEV.width := by
  have h : getF (setF (setF s F.NVM_STAT_NDEV o.ndev) F.NVM_STAT_SIZEMIB4 o.size4) F.NVM_STAT_NDEV =
      o.ndev % 2 ^ F.NVM_STAT_NDEV.width :=
    (getF_setF_other _ _ (by decide) (by decide)).trans (getF_setF_same _ _ _ (by decide))
  unfold flashLearn
  dsimp only
  split
  · exact h
  · exact (congrArg F.NVM_STAT_NDEV.get (word_flashFound _ o _)).trans h

/-- With no record of a slot, slot A boots. -/
theorem firstDone_empty {s : State} {o : FirstObs} (hl : o.layout = true) (hn : newestRec (flashLearn s o) = none)
    (hr : slotResult (flashLearn s o) o 0 = .ok) : firstDone s o = bootSlot (flashLearn s o) 0 false := by
  rw [firstDone, if_neg (by simp [hl])]
  simp only [hn]
  rw [bootCurrent, hr]

theorem firstDone_noLayout (s : State) {o : FirstObs} (hl : o.layout = false) : firstDone s o = bootFail s .integrity :=
  if_pos (by simp [hl])

/-! ### The FIRMWARE stage (R84) -/

/-- What the running slot's parts leave: the records of faults, the calibration sets, and M2 to M4. -/
def imageMeasured (s : State) (o : FwObs) : State :=
  let parts (ts : List Nat) : List Bytes := partDigests s s.upd.running ts
  let ext (i : Nat) (l : List Bytes) (s : State) : State := l.foldl (fun s d => measExtend s i d) s
  ext 4 (parts [5] ++ o.cal) (ext 3 (parts [3, 4]) (ext 2 (parts [2]) (calLoad (faultRecords s))))

def linkCfgLoaded (s : State) (o : FwObs) : State :=
  match o.link with | some w => s.setWord R.HIF_LINKCFG (BitVec.ofNat 32 (w % 128)) | none => s

/-- The settings of the flash configuration, taken over. -/
def fwConfigured (s : State) (o : FwObs) : State :=
  { s with boot := { s.boot with chainCfg := o.chain }, hif := { s.hif with subsys := o.subsys },
           sec := { s.sec with counter := s.upd.sessions, reserved := s.upd.sessions } }

/-- The chain ports of a tile start before the UCIe window. -/
def tilePorts (s : State) : State := if isTile s then startPorts s [0, 1] true else s

theorem firmwareDone_ok (s : State) {o : FwObs} (h : o.res = .ok) : firmwareDone s o =
    ucieOpen (setBootStage (tilePorts (fwConfigured (linkCfgLoaded (imageMeasured s o) o) o)) 6) :=
  if_neg (by simp [h])

theorem tilePorts_boot (s : State) : (tilePorts s).boot = s.boot :=
  same_of_keeps .boot (Keeps.ite (startPorts_keeps s _ _ (by decide) (by decide) (by decide) Keeps.same) Keeps.same)

theorem ucieOpen_chainCfg (s : State) : (ucieOpen s).boot.chainCfg = s.boot.chainCfg := rfl

theorem fwConfigured_chainCfg (s : State) (o : FwObs) : (fwConfigured s o).boot.chainCfg = o.chain := rfl

theorem firmwareDone_effect (s : State) {o : FwObs} (h : o.res = .ok) : stage (firmwareDone s o) = 6 ∧
    (firmwareDone s o).boot.ucie = .attempt ∧ (firmwareDone s o).boot.fails = 0 ∧ (firmwareDone s o).boot.chainCfg = o.chain := by
  rw [firmwareDone_ok s h]
  obtain ⟨hucie, hfails, _⟩ := ucieOpen_window
    (setBootStage (tilePorts (fwConfigured (linkCfgLoaded (imageMeasured s o) o) o)) 6)
  refine ⟨stage_ucieOpen_setBootStage _ (by decide), hucie, hfails, ?_⟩
  rw [ucieOpen_chainCfg, setBootStage, setF_boot, tilePorts_boot, fwConfigured_chainCfg]

/-! ### The DRAM stage (R481, R487 to R489) -/

/-- Trained channels are restored on a warm boot (R489). -/
def dramWarm (s : State) : Bool := s.boot.warmBoot && s.boot.trained != 0

/-- What the training finds, from a unit with no channel in use. -/
def dramStaged (s : State) (l : List DramCh) (rates : Nat × Nat × Nat) : Option Status × State :=
  dramStage (setF (setF s F.DRC_CFG_ENMASK 0) F.DRC_CAP_PAGES 0) l rates (dramWarm s)

/-- A channel in use takes its delays. -/
def chanTuned (l : List DramCh) (rates : Nat × Nat × Nat) (warm : Bool) (s : State) (k : Nat) : State :=
  match l[k]? with
  | some d => retrackChan (if warm ∧ !d.lost then s else calTrain s k (d.trains (setPoints rates))) k
  | none => s

def dramTuned (s : State) (l : List DramCh) (rates : Nat × Nat × Nat) (warm : Bool) : State :=
  (drcChannels s).foldl (chanTuned l rates warm) s

def codeShown (s : State) (c : Option Status) : State := match c with | some c => failCode s c | none => s

theorem dramDone_eq (s : State) (l : List DramCh) (rates : Nat × Nat × Nat) : dramDone s l rates =
    setBootStage (codeShown (dramTuned (dramStaged s l rates).2 l rates (dramWarm s)) (dramStaged s l rates).1) 5 := rfl

theorem stage_dramDone (s : State) (l : List DramCh) (rates : Nat × Nat × Nat) : stage (dramDone s l rates) = 5 := by
  rw [dramDone_eq]
  exact setBootStage_shows _ (by decide)

/-- Taking over the delays writes the lanes only. -/
theorem word_dramTuned (s : State) (l : List DramCh) (rates : Nat × Nat × Nat) (warm : Bool) {off : Nat}
    (h : ∀ i j, R.DRC_LANE i j ≠ off) : (dramTuned s l rates warm).word off = s.word off := by
  have tuned (t : State) (k : Nat) (ht : RegsBut (fun o => o ≠ off) s t) :
      RegsBut (fun o => o ≠ off) s (chanTuned l rates warm t k) := by
    unfold chanTuned
    split
    · exact retrackChan_regs _ _ h (RegsBut.ite ht (calTrain_regs _ _ _ ht))
    · exact ht
  exact word_of_regs (RegsBut.foldl tuned RegsBut.same)

theorem word_codeShown (s : State) (c : Option Status) {off : Nat} (h : off ≠ R.GLB_BOOTSTAT) :
    (codeShown s c).word off = s.word off := by
  cases c with
  | none => rfl
  | some c => exact word_setF_ne _ _ _ h

theorem word_dramDone (s : State) (l : List DramCh) (rates : Nat × Nat × Nat) {off : Nat} (h : ∀ i j, R.DRC_LANE i j ≠ off)
    (hb : off ≠ R.GLB_BOOTSTAT) : (dramDone s l rates).word off = (dramStaged s l rates).2.word off := by
  rw [dramDone_eq, word_setBootStage _ _ hb, word_codeShown _ _ hb, word_dramTuned _ _ _ _ h]

/-- The set in use, its capacity and channel 0 read at the stage's end as the training left them. -/
theorem drcWords_dramDone {s x : State} {l : List DramCh} {rates : Nat × Nat × Nat} {c : Option Status}
    (hx : dramStaged s l rates = (c, x)) : (dramDone s l rates).word R.DRC_CFG = x.word R.DRC_CFG ∧
      (dramDone s l rates).word R.DRC_CAP = x.word R.DRC_CAP ∧
      (dramDone s l rates).word (R.DRC_CHSTAT 0) = x.word (R.DRC_CHSTAT 0) := by
  have kept {off : Nat} (h : off < 0x130104) (hb : off ≠ R.GLB_BOOTSTAT) : (dramDone s l rates).word off = x.word off := by
    rw [word_dramDone _ _ _ (fun i j => by simp only [R.DRC_LANE]; omega) hb, hx]
  exact ⟨kept (by decide) (by decide), kept (by decide) (by decide), kept (by decide) (by decide)⟩

/-- The stage's code goes to FAILCODE; without one FAILCODE stays (R88). -/
theorem failcode_dramDone (s : State) (l : List DramCh) (rates : Nat × Nat × Nat) :
    getF (dramDone s l rates) F.GLB_BOOTSTAT_FAILCODE = match (dramStaged s l rates).1 with
      | some c => c.code % 2 ^ 8
      | none => getF s F.GLB_BOOTSTAT_FAILCODE := by
  rw [dramDone_eq, setBootStage, getF_setF_other _ _ (by decide) (by decide)]
  cases (dramStaged s l rates).1 with
  | some c => exact getF_setF_same _ _ _ (by decide)
  | none =>
    have tuned : (dramTuned (dramStaged s l rates).2 l rates (dramWarm s)).word R.GLB_BOOTSTAT =
        (dramStaged s l rates).2.word R.GLB_BOOTSTAT :=
      word_dramTuned _ _ _ _ (fun i j => by simp only [R.DRC_LANE, R.GLB_BOOTSTAT]; omega)
    have staged : (dramStaged s l rates).2.word R.GLB_BOOTSTAT = s.word R.GLB_BOOTSTAT :=
      (word_of_regs (dramStage_regs _ _ _ _ (by decide) (by decide) (by decide)
        (fun i => by simp only [R.DRC_CHSTAT, R.GLB_BOOTSTAT]; omega)
        (fun i j => by simp only [R.DRC_LANE, R.GLB_BOOTSTAT]; omega) RegsBut.same)).trans
        ((word_setF_ne _ _ _ (by decide)).trans (word_setF_ne _ _ _ (by decide)))
    exact congrArg F.GLB_BOOTSTAT_FAILCODE.get (tuned.trans staged)

/-! ### One configured channel (R482, R488) -/

/-- `k` channels of `size` GiB are in use. -/
def capSet (s : State) (k size : Nat) : State :=
  setF (setF s F.DRC_CFG_ENMASK (2 ^ k - 1)) F.DRC_CAP_PAGES (k * size * 2 ^ 14 * 7 / 8)

def ratesSet (s : State) (rates : Nat × Nat × Nat) : State :=
  setF (setF (setF s F.DRC_FSPRATE_RATE0 rates.1) F.DRC_FSPRATE_RATE1 rates.2.1) F.DRC_FSPRATE_RATE2 rates.2.2

/-- The set in use is kept for a warm boot (R489). -/
def setKept (s : State) (k : Nat) : State := { s with boot := { s.boot with trained := 2 ^ k - 1 } }

/-- The capacity and the rates of `k` channels of `size` GiB in use. -/
def capShown (s : State) (k size : Nat) (rates : Nat × Nat × Nat) : State := setKept (ratesSet (capSet s k size) rates) k

theorem word_setKept (s : State) (k off : Nat) : (setKept s k).word off = s.word off := rfl

theorem word_ratesSet (s : State) (rates : Nat × Nat × Nat) {off : Nat} (h : off ≠ R.DRC_FSPRATE) :
    (ratesSet s rates).word off = s.word off :=
  (word_setF_ne _ _ _ h).trans ((word_setF_ne _ _ _ h).trans (word_setF_ne _ _ _ h))

theorem word_capShown (s : State) (k size : Nat) (rates : Nat × Nat × Nat) {off : Nat} (h : off ≠ R.DRC_FSPRATE) :
    (capShown s k size rates).word off = (capSet s k size).word off := by
  rw [capShown, word_setKept, word_ratesSet _ _ h]

/-- A channel that is neither in use nor failed reads as at reset (R499). -/
def unusedHidden (s : State) (c k : Nat) : State := if c < k ∨ chState s c = chFailed then s else hideChan s c

section
variable {d : DramCh} {rates : Nat × Nat × Nat} (hon : d.on = true) (hsize : d.size ≤ 3)
  (h0 : rates.1 ≤ 96) (h1 : rates.2.1 ≤ 96) (h2 : rates.2.2 ≤ 96)
include hon

theorem stageChans_one (s : State) : stageChans s [d] false = [d] := by simp [stageChans, hon]

include hsize h0 h1 h2

theorem dramCfgOk_one : dramCfgOk [d] rates = true := by simp [dramCfgOk, legalSets, hon, hsize, h0, h1, h2]

/-- The stage with one configured channel, trained. -/
theorem dramStage_one (s : State) : dramStage s [d] rates false =
    ([d.code (setPoints rates)].find? (· != .ok),
      capShown (unusedHidden (showChan s 0 d (d.code (setPoints rates)) false) 0 (trainedSet 1 [d.code (setPoints rates)]))
        (trainedSet 1 [d.code (setPoints rates)]) (gib d.size) rates) := by
  have hcfg : ¬ (!dramCfgOk [d] rates) = true := by simp [dramCfgOk_one hon hsize h0 h1 h2]
  rw [dramStage, if_neg hcfg, stageChans_one hon]
  rfl

theorem dramStaged_one {s : State} (hw : s.boot.warmBoot = false) : ∃ x, dramStaged s [d] rates =
    ([d.code (setPoints rates)].find? (· != .ok),
      capShown (unusedHidden (showChan x 0 d (d.code (setPoints rates)) false) 0 (trainedSet 1 [d.code (setPoints rates)]))
        (trainedSet 1 [d.code (setPoints rates)]) (gib d.size) rates) := by
  have hwarm : dramWarm s = false := by rw [dramWarm, hw]; rfl
  rw [dramStaged, hwarm]
  exact ⟨_, dramStage_one hon hsize h0 h1 h2 _⟩

end

theorem word_chanStart (s : State) (c off : Nat) : (chanStart s c).word off = s.word off :=
  word_of_regs (chanStart_regs _ _ RegsBut.same)

/-- A channel's state and code as its training shows them (R502). -/
theorem showChan_shows (s : State) (d : DramCh) (r : Status) :
    chState (showChan s 0 d r false) 0 = (if r = .ok then chActive else chFailed) ∧
      getF (showChan s 0 d r false) (F.DRC_CHSTAT_CODE 0) = r.code % 2 ^ 8 := by
  have code (t : State) (n : Nat) : getF (setF (setF (setF t (F.DRC_CHSTAT_CODE 0) r.code) (F.DRC_CHSTAT_LOST 0)
      (b2n (false && d.lost))) (F.DRC_CHSTAT_STATE 0) n) (F.DRC_CHSTAT_CODE 0) = r.code % 2 ^ 8 :=
    (getF_setF_other _ _ (by decide) (by decide)).trans
      ((getF_setF_other _ _ (by decide) (by decide)).trans (getF_setF_same _ _ _ (by decide)))
  unfold showChan
  dsimp only
  by_cases h : r = .ok
  · rw [if_pos h, if_pos h, chState, getF, getF, word_chanStart]
    exact ⟨getF_setF_same _ _ _ (by decide), code _ _⟩
  · rw [if_neg h, if_neg h]
    exact ⟨getF_setF_same _ _ _ (by decide), code _ _⟩

theorem capShown_shows (s : State) (k size : Nat) (rates : Nat × Nat × Nat) :
    getF (capShown s k size rates) F.DRC_CFG_ENMASK = (2 ^ k - 1) % 2 ^ 8 ∧
      getF (capShown s k size rates) F.DRC_CAP_PAGES = k * size * 2 ^ 14 * 7 / 8 % 2 ^ 22 ∧
      (capShown s k size rates).word (R.DRC_CHSTAT 0) = s.word (R.DRC_CHSTAT 0) := by
  refine ⟨?_, ?_, ?_⟩
  · rw [getF, word_capShown _ _ _ _ (by decide)]
    exact (getF_setF_other _ _ (by decide) (by decide)).trans (getF_setF_same _ _ _ (by decide))
  · rw [getF, word_capShown _ _ _ _ (by decide)]
    exact getF_setF_same _ _ _ (by decide)
  · rw [word_capShown _ _ _ _ (by decide), capSet, word_setF_ne _ _ _ (by decide), word_setF_ne _ _ _ (by decide)]

/-- 7/8 of a channel's capacity (R482) fits its field. -/
theorem pages_one {size : Nat} (h : size ≤ 3) : 1 * gib size * 2 ^ 14 * 7 / 8 % 2 ^ 22 = 2 ^ (size + 1) * 2 ^ 14 * 7 / 8 := by
  interval_cases size <;> decide

theorem code_ok {d : DramCh} {fsps : List Nat} (ha : d.answers = true)
    (hp : trainPass fsps d.first = true ∨ trainPass fsps d.again = true) : d.code fsps = .ok := by
  rw [DramCh.code, if_neg (by simp [ha]), if_pos (by simpa using hp)]

theorem code_linkAbsent {d : DramCh} (fsps : List Nat) (ha : d.answers = false) : d.code fsps = .linkAbsent :=
  if_pos (by simp [ha])

/-- A channel whose training passes is in use with 7/8 of its capacity, and no code is shown. -/
theorem dramDone_one_ok {d : DramCh} {rates : Nat × Nat × Nat} {s : State} (hw : s.boot.warmBoot = false) (hon : d.on = true)
    (hsize : d.size ≤ 3) (h0 : rates.1 ≤ 96) (h1 : rates.2.1 ≤ 96) (h2 : rates.2.2 ≤ 96) (hc : d.code (setPoints rates) = .ok) :
    getF (dramDone s [d] rates) F.DRC_CFG_ENMASK = 1 ∧ chState (dramDone s [d] rates) 0 = chActive ∧
      getF (dramDone s [d] rates) F.DRC_CAP_PAGES = 2 ^ (d.size + 1) * 2 ^ 14 * 7 / 8 ∧
      getF (dramDone s [d] rates) F.GLB_BOOTSTAT_FAILCODE = getF s F.GLB_BOOTSTAT_FAILCODE := by
  obtain ⟨x, hx⟩ := dramStaged_one hon hsize h0 h1 h2 hw
  rw [hc, show trainedSet 1 [Status.ok] = 1 from by decide, show [Status.ok].find? (· != .ok) = none from rfl, unusedHidden,
    if_pos (Or.inl Nat.one_pos)] at hx
  obtain ⟨hmask, hcap, hchan⟩ := capShown_shows (showChan x 0 d .ok false) 1 (gib d.size) rates
  obtain ⟨hstate, _⟩ := showChan_shows x d .ok
  obtain ⟨hcfg, hcapw, hchst⟩ := drcWords_dramDone hx
  have hfail := failcode_dramDone s [d] rates
  rw [hx] at hfail
  exact ⟨(congrArg F.DRC_CFG_ENMASK.get hcfg).trans hmask,
    (congrArg (F.DRC_CHSTAT_STATE 0).get (hchst.trans hchan)).trans hstate,
    (congrArg F.DRC_CAP_PAGES.get hcapw).trans (hcap.trans (pages_one hsize)), hfail⟩

/-- A channel that does not answer has failed, and FAILCODE says so. -/
theorem dramDone_one_absent {d : DramCh} {rates : Nat × Nat × Nat} {s : State} (hw : s.boot.warmBoot = false) (hon : d.on = true)
    (hsize : d.size ≤ 3) (h0 : rates.1 ≤ 96) (h1 : rates.2.1 ≤ 96) (h2 : rates.2.2 ≤ 96)
    (hc : d.code (setPoints rates) = .linkAbsent) :
    getF (dramDone s [d] rates) F.DRC_CFG_ENMASK = 0 ∧ chState (dramDone s [d] rates) 0 = chFailed ∧
      getF (dramDone s [d] rates) (F.DRC_CHSTAT_CODE 0) = Status.linkAbsent.code ∧
      getF (dramDone s [d] rates) F.GLB_BOOTSTAT_FAILCODE = Status.linkAbsent.code := by
  obtain ⟨x, hx⟩ := dramStaged_one hon hsize h0 h1 h2 hw
  obtain ⟨hstate, hcode⟩ := showChan_shows x d .linkAbsent
  rw [if_neg (by decide)] at hstate
  rw [hc, show trainedSet 1 [Status.linkAbsent] = 0 from by decide,
    show [Status.linkAbsent].find? (· != .ok) = some .linkAbsent from rfl, unusedHidden, if_pos (Or.inr hstate)] at hx
  obtain ⟨hmask, _, hchan⟩ := capShown_shows (showChan x 0 d .linkAbsent false) 0 (gib d.size) rates
  obtain ⟨hcfg, _, hchst⟩ := drcWords_dramDone hx
  have hfail := failcode_dramDone s [d] rates
  rw [hx] at hfail
  exact ⟨(congrArg F.DRC_CFG_ENMASK.get hcfg).trans hmask,
    (congrArg (F.DRC_CHSTAT_STATE 0).get (hchst.trans hchan)).trans hstate,
    (congrArg (F.DRC_CHSTAT_CODE 0).get (hchst.trans hchan)).trans hcode, hfail⟩

/-! ### The eye that a sweep selects (R487) -/

/-- The width of the widest eyes. -/
def widestWidth (l : List Eye) : Nat := (l.map eyeWidth).foldl max 0

theorem eyeWidth_le_widestWidth {l : List Eye} {e : Eye} (he : e ∈ l) : eyeWidth e ≤ widestWidth l :=
  (List.max?_eq_some_iff.1 (List.max?_cons' (x := 0) (xs := l.map eyeWidth))).2 _ (List.mem_cons_of_mem _ (List.mem_map_of_mem he))

/-- Some eye of a sweep that finds any has that width. -/
theorem exists_widest {l : List Eye} {e : Eye} (he : e ∈ l) : ∃ x ∈ l, eyeWidth x = widestWidth l := by
  have hmem := (List.max?_eq_some_iff.1 (List.max?_cons' (x := 0) (xs := l.map eyeWidth))).1
  rcases List.mem_cons.1 hmem with hzero | hin
  · have hle := eyeWidth_le_widestWidth he
    exact ⟨e, he, by rw [widestWidth] at *; omega⟩
  · obtain ⟨x, hx, hw⟩ := List.mem_map.1 hin
    exact ⟨x, hx, hw⟩

theorem eyeWidth_widestEye {l : List Eye} {e : Eye} (he : e ∈ l) : eyeWidth (widestEye l) = widestWidth l := by
  obtain ⟨x, hx, hw⟩ := exists_widest he
  have hpos : 0 < (l.filter (fun e => eyeWidth e == widestWidth l)).length :=
    List.length_pos_of_mem (List.mem_filter.2 ⟨hx, by simp [hw]⟩)
  have hmid : ((l.filter (fun e => eyeWidth e == widestWidth l)).length - 1) / 2 <
      (l.filter (fun e => eyeWidth e == widestWidth l)).length := by omega
  have hsel : widestEye l = (l.filter (fun e => eyeWidth e == widestWidth l))[_]'hmid := List.getD_eq_getElem _ _ hmid
  rw [hsel]
  exact beq_iff_eq.1 (List.mem_filter.1 (List.getElem_mem hmid)).2

theorem eyeWidth_le_widestEye {l : List Eye} {e : Eye} (he : e ∈ l) : eyeWidth e ≤ eyeWidth (widestEye l) :=
  (eyeWidth_le_widestWidth he).trans_eq (eyeWidth_widestEye he).symm

/-! ### The commands -/

theorem exec_romStageDone {s : State} (h : booting s 2 = true) : exec .romStageDone s = .next (romDone s) :=
  congrArg Host.Outcome.next (if_pos h)

theorem exec_firstStageDone {s : State} (o : FirstObs) (h : booting s 3 = true) :
    exec (.firstStageDone o) s = .next (firstDone s o) :=
  congrArg Host.Outcome.next (if_pos h)

theorem exec_dramStageDone {s : State} (l : List DramCh) (rates : Nat × Nat × Nat) (h : booting s 4 = true) :
    exec (.dramStageDone l rates) s = .next (dramDone s l rates) :=
  congrArg Host.Outcome.next (if_pos h)

theorem exec_firmwareStageDone {s : State} (o : FwObs) (h : booting s 5 = true) :
    exec (.firmwareStageDone o) s = .next (firmwareDone s o) :=
  congrArg Host.Outcome.next (if_pos h)

/-- Settles O17, stage by stage. -/
theorem bootStages : Obligations.BootStages := by
  unfold Obligations.BootStages
  refine ⟨?pll, ?rom, ?first, ?layout, ?dram, ?firmware, ?trained, ?absent, ?eye⟩
  case pll => exact fun s hb hr => pllStageDone_effect hb hr
  case rom => exact fun s hb => ⟨_, exec_romStageDone hb, romDone_effect s⟩
  case first =>
    intro o s hb hl hn hr
    obtain ⟨hstage, hslot, hrun⟩ := bootSlot_shows (flashLearn s o) 0 false
    refine ⟨_, (exec_firstStageDone o hb).trans (congrArg Host.Outcome.next (firstDone_empty hl hn hr)), hstage, hslot, hrun,
      ?_⟩
    exact (congrArg F.NVM_STAT_NDEV.get (word_bootSlot_nvm _ 0 false)).trans (getF_flashLearn_ndev s o)
  case layout =>
    intro o s hb hl
    exact ⟨_, (exec_firstStageDone o hb).trans (congrArg Host.Outcome.next (firstDone_noLayout s hl)),
      bootFail_shows s .integrity (by decide)⟩
  case dram => exact fun l rates s hb => ⟨_, exec_dramStageDone l rates hb, stage_dramDone s l rates⟩
  case firmware => exact fun o s _ hb hres => ⟨_, exec_firmwareStageDone o hb, firmwareDone_effect s hres⟩
  case trained =>
    intro d rates s hb hw hon hsize ha h0 h1 h2 hp
    exact ⟨_, exec_dramStageDone [d] rates hb, dramDone_one_ok hw hon hsize h0 h1 h2 (code_ok ha hp)⟩
  case absent =>
    intro d rates s hb hw hon hsize ha h0 h1 h2
    exact ⟨_, exec_dramStageDone [d] rates hb, dramDone_one_absent hw hon hsize h0 h1 h2 (code_linkAbsent _ ha)⟩
  case eye => exact fun l e he => eyeWidth_le_widestEye he

end Sys2Proof.Machine
end

section
/-! PROOF. The error log (R101 to R104): what one refused access leaves in it, with the log empty and with the log full. -/

namespace Sys2Proof.Machine

/-! ### Raising an event that no letter carries (R605) -/

theorem raise_of_unlettered (s : State) {code : Nat} (det : Bytes) (h : letterEvents.contains code = false) :
    raise s code det = appendEvent s ⟨code, timeNs s, fit 8 det⟩ :=
  if_neg fun hc => Bool.false_ne_true (h.symm.trans hc.2)

/-- Beyond 64 events one is counted as lost, and no vector is sent. -/
theorem getF_appendEvent_full {s : State} (e : Ev) (h : 64 ≤ s.hif.events.length) :
    getF (appendEvent s e) F.GLB_EVTOVF_COUNT = satAdd F.GLB_EVTOVF_COUNT.top (getF s F.GLB_EVTOVF_COUNT) 1 := by
  have hfit : satAdd F.GLB_EVTOVF_COUNT.top (getF s F.GLB_EVTOVF_COUNT) 1 < 2 ^ 16 := (Nat.min_le_left _ _).trans_lt (by decide)
  unfold appendEvent
  dsimp only
  rw [if_pos (decide_eq_true h)]
  exact (getF_setF_same _ _ _ (by decide)).trans (Nat.mod_eq_of_lt hfit)

theorem eventsWith_length (s : State) (e : Ev) : (eventsWith s e).length = s.hif.events.length + 1 :=
  (eventsWith_perm s e).length_eq

theorem eventsWith_first {s : State} (e : Ev) (h : eventsNow s = 0) : eventsWith s e = s.hif.events ++ [e] := by
  simp [eventsWith, h, insertEvent]

/-! ### The first refused access (R102, R103) -/

theorem errorFilled_hif (s : State) (src off : Nat) (c : Status) : (errorFilled s src off c).hif = s.hif := by
  rw [errorFilled, setF_hif, setF_hif, setF_hif, setF_hif, setF_hif]

theorem errorFilled_up (s : State) (src off : Nat) (c : Status) : (errorFilled s src off c).up = s.up := by
  rw [errorFilled, setF_up, setF_up, setF_up, setF_up, setF_up]

theorem errorFilled_time (s : State) (src off : Nat) (c : Status) : (errorFilled s src off c).time = s.time := by
  rw [errorFilled, setF_time, setF_time, setF_time, setF_time, setF_time]

/-- The event of a filled log is placed as in the state before. -/
theorem eventsWith_errorFilled (s : State) (src off : Nat) (c : Status) (e : Ev) :
    eventsWith (errorFilled s src off c) e = eventsWith s e := by
  rw [eventsWith, eventsNow, upNs, errorFilled_hif, errorFilled_up, eventsWith, eventsNow, upNs]

theorem timeNs_errorFilled (s : State) (src off : Nat) (c : Status) : timeNs (errorFilled s src off c) = timeNs s := by
  rw [timeNs, errorFilled_time, timeNs]

theorem getF_errorFilled_offset (s : State) (src : Nat) {off : Nat} (c : Status) (h : off < 2 ^ 24) :
    getF (errorFilled s src off c) F.GLB_ERRLOG_OFFSET = off := by
  unfold errorFilled
  rw [getF_setF_other _ _ (by decide) (by decide), getF_setF_other _ _ (by decide) (by decide),
    getF_setF_other _ _ (by decide) (by decide), getF_setF_other _ _ (by decide) (by decide), getF_setF_same _ _ _ (by decide)]
  exact Nat.mod_eq_of_lt h

theorem getF_errorFilled_evtovf (s : State) (src off : Nat) (c : Status) :
    getF (errorFilled s src off c) F.GLB_EVTOVF_COUNT = getF s F.GLB_EVTOVF_COUNT := by
  unfold errorFilled
  rw [getF_setF_ne _ _ _ _ (by decide), getF_setF_ne _ _ _ _ (by decide), getF_setF_ne _ _ _ _ (by decide),
    getF_setF_ne _ _ _ _ (by decide), getF_setF_ne _ _ _ _ (by decide)]

section
variable {s : State} (h : getF s F.GLB_ERRINFO_VALID = 0) (src off : Nat) (c : Status)
include h

/-- The event queue after the first refused access: the ERRLOG event in its place, and what is beyond 64 events cut off. -/
theorem logError_events : ∃ det, (logError s src off c).hif.events =
    (eventsWith s ⟨0x0002, timeNs s, det⟩).take (max 64 s.hif.events.length) := by
  obtain ⟨det, e⟩ := logError_of_empty h src off c
  refine ⟨fit 8 det, ?_⟩
  rw [e, raise_events, eventsWith_errorFilled, timeNs_errorFilled, errorFilled_hif]

theorem logError_events_room (hroom : s.hif.events.length < 64) : ∃ det,
    (logError s src off c).hif.events = eventsWith s ⟨0x0002, timeNs s, det⟩ ∧
      (eventsNow s = 0 → (logError s src off c).hif.events = s.hif.events ++ [⟨0x0002, timeNs s, det⟩]) := by
  obtain ⟨det, e⟩ := logError_events h src off c
  rw [List.take_of_length_le (by rw [eventsWith_length]; omega)] at e
  exact ⟨det, e, fun hnow => e.trans (eventsWith_first _ hnow)⟩

theorem logError_events_full (hfull : 64 ≤ s.hif.events.length) :
    (eventsNow s = 0 → (logError s src off c).hif.events = s.hif.events) ∧
      (logError s src off c).hif.events.length = s.hif.events.length ∧
      getF (logError s src off c) F.GLB_EVTOVF_COUNT = satAdd F.GLB_EVTOVF_COUNT.top (getF s F.GLB_EVTOVF_COUNT) 1 := by
  obtain ⟨det, e⟩ := logError_events h src off c
  rw [Nat.max_eq_right hfull] at e
  refine ⟨fun hnow => ?_, ?_, ?_⟩
  · rw [e, eventsWith_first _ hnow]
    exact List.take_left' rfl
  · rw [e, List.length_take, eventsWith_length]
    exact Nat.min_eq_left (Nat.le_succ _)
  · obtain ⟨det, e⟩ := logError_of_empty h src off c
    rw [e, raise_of_unlettered _ _ (by decide), getF_appendEvent_full _ (by rwa [errorFilled_hif]), getF_errorFilled_evtovf]

end

/-! ### A refused access while the log is full (R103) -/

/-- The log with OVER set, before the count. -/
def errorOver (s : State) : State := setF s F.GLB_ERRINFO_OVER 1

theorem logError_of_valid {s : State} (h : getF s F.GLB_ERRINFO_VALID = 1) (src off : Nat) (c : Status) :
    logError s src off c = incSat (errorOver s) F.GLB_ERRINFO_COUNT :=
  if_pos (by simp [isSet, h])

theorem errorOver_counted (s : State) :
    (incSat (errorOver s) F.GLB_ERRINFO_COUNT).word R.GLB_ERRLOG = s.word R.GLB_ERRLOG ∧
      getF (incSat (errorOver s) F.GLB_ERRINFO_COUNT) F.GLB_ERRINFO_SRC = getF s F.GLB_ERRINFO_SRC ∧
      getF (incSat (errorOver s) F.GLB_ERRINFO_COUNT) F.GLB_ERRINFO_OVER = 1 ∧
      getF (incSat (errorOver s) F.GLB_ERRINFO_COUNT) F.GLB_ERRINFO_COUNT = min 0xFF (getF s F.GLB_ERRINFO_COUNT + 1) := by
  have hcount : getF (errorOver s) F.GLB_ERRINFO_COUNT = getF s F.GLB_ERRINFO_COUNT :=
    getF_setF_other _ _ (by decide) (by decide)
  have hfit : min 0xFF (getF s F.GLB_ERRINFO_COUNT + 1) < 2 ^ 8 := (Nat.min_le_left _ _).trans_lt (by decide)
  unfold incSat
  refine ⟨?_, ?_, ?_, ?_⟩
  · rw [word_setF_ne _ _ _ (by decide), errorOver, word_setF_ne _ _ _ (by decide)]
  · rw [getF_setF_other _ _ (by decide) (by decide), errorOver, getF_setF_other _ _ (by decide) (by decide)]
  · rw [getF_setF_other _ _ (by decide) (by decide)]
    exact getF_setF_same _ _ _ (by decide)
  · rw [getF_setF_same _ _ _ (by decide), hcount]
    exact Nat.mod_eq_of_lt hfit

/-- Settles O11: VALID = 0 and VALID = 1 in turn. -/
theorem rejectionIsLogged : Obligations.RejectionIsLogged := by
  unfold Obligations.RejectionIsLogged
  intro s src off c hsrc hoff
  refine ⟨fun h => ?first, fun h => ?further⟩
  case first =>
    obtain ⟨hvalid, hcount, hs, hcode⟩ := getF_errorFilled s off c hsrc
    have hlog {f : Fld} (hf : f.off < R.GLB_EVTOVF) := getF_logError_of_empty h src off c hf
    exact ⟨(hlog (by decide)).trans (getF_errorFilled_offset s src c hoff), (hlog (by decide)).trans hcode,
      (hlog (by decide)).trans hs, (hlog (by decide)).trans hvalid, (hlog (by decide)).trans hcount,
      logError_events_room h src off c, logError_events_full h src off c⟩
  case further =>
    obtain ⟨hlog, hs, hover, hcount⟩ := errorOver_counted s
    rw [logError_of_valid h]
    exact ⟨hlog, hs, hover, hcount, rfl, rfl⟩

end Sys2Proof.Machine
end

section
/-! PROOF. The checks of a write of a queue's registers (R107, R607): which field map a register of QUE has, which register of a
group an offset names, and the code that comes first. -/

namespace Sys2Proof.Machine

/-! ### Codes of a refused write (R607) -/

theorem mem_chk {b : Bool} {c d : Status} : d ∈ chk b c ↔ b = true ∧ d = c := by
  unfold chk
  split <;> simp_all

theorem firstCode_notPermitted {cs : List Status} (h : Status.notPermitted ∈ cs) : firstCode cs = .notPermitted := by
  simp [firstCode, writeCodeOrder, h]

theorem firstCode_wrongState {cs : List Status} (h : Status.wrongState ∈ cs) (hn : Status.notPermitted ∉ cs) :
    firstCode cs = .wrongState := by
  simp [firstCode, writeCodeOrder, h, hn]

/-! ### Registers of a group -/

/-- The offset of register `q` of a group names register `q`. -/
theorem regIdx_same {f : Nat → Nat} {n st q : Nat} (hst : f 1 - f 0 = st) (hpos : 0 < st) (hq : f q = f 0 + st * q) (hn : q < n) :
    regIdx f n (f q) = some q := by
  simp [regIdx, hst, hq, hpos, hn]

/-- An offset that lies between two registers of a group names none of it. -/
theorem regIdx_between {f : Nat → Nat} {st off : Nat} (n : Nat) (hst : f 1 - f 0 = st) (h : f 0 ≤ off → (off - f 0) % st ≠ 0) :
    regIdx f n off = none := by
  simp only [regIdx, hst]
  exact if_neg fun ⟨hle, hmod, _⟩ => h hle hmod

/-! ### The field maps of QUE (R106 to R113) -/

/-- QUE covers four pages. -/
theorem page_queue (q : Nat) {k : Nat} (hk : k < 8) :
    (0x40000 + 4 * k + 0x40 * (q % 4096)) / 0x10000 = 4 ∨ (0x40000 + 4 * k + 0x40 * (q % 4096)) / 0x10000 = 5 ∨
    (0x40000 + 4 * k + 0x40 * (q % 4096)) / 0x10000 = 6 ∨ (0x40000 + 4 * k + 0x40 * (q % 4096)) / 0x10000 = 7 := by
  omega

/-- Every queue has the eight registers of the map. -/
theorem regAt_queue (q : Nat) {k : Nat} (hk : k < 8) : ∃ r ∈ regsQue, regAt (0x40000 + 4 * k + 0x40 * (q % 4096)) = some r := by
  have hpage : regsOfPage ((0x40000 + 4 * k + 0x40 * (q % 4096)) / 0x10000) = regsQue := by
    rcases page_queue q hk with hp | hp | hp | hp <;> rw [hp] <;> rfl
  have hrow : ∀ j < 8, ∃ r ∈ regsQue, r.base = 0x40000 + 4 * j ∧ r.n1 = 4096 ∧ r.s1 = 0x40 ∧ r.n2 = 1 ∧ r.s2 = 4 := by decide
  obtain ⟨r, hr, hbase, hn1, hs1, hn2, hs2⟩ := hrow k hk
  have hcov : r.covers (0x40000 + 4 * k + 0x40 * (q % 4096)) = true := by
    simp [RegRow.covers, hbase, hn1, hs1, hn2, hs2, Nat.mod_lt]
  have hsome : (regsQue.find? (fun r => r.covers (0x40000 + 4 * k + 0x40 * (q % 4096)))).isSome = true :=
    List.find?_isSome.2 ⟨r, hr, hcov⟩
  obtain ⟨x, hx⟩ := Option.isSome_iff_exists.1 hsome
  exact ⟨x, List.mem_of_find?_eq_some hx, by rw [regAt, hpage, hx]⟩

/-- No field map of QUE refuses a value with NOT_PERMITTED. -/
theorem mapChecks_queue {r : RegRow} (hr : r ∈ regsQue) (v : Word) : Status.notPermitted ∉ mapChecks r v := by
  have hbad : ∀ r ∈ regsQue, ∀ f ∈ r.fields, ∀ b ∈ f.bad, b.2.2 ≠ .notPermitted := by decide
  simp only [mapChecks, List.mem_append, List.mem_flatMap, mem_chk, not_or]
  refine ⟨⟨by simp, by simp⟩, ?_⟩
  rintro ⟨f, hf, b, hb, -, e⟩
  exact hbad r hr f hf b hb e.symm

section
variable {s : State} {q k : Nat} (hk : k < 8) (hd : dormant s 0x04 = false)

theorem regBlock_queue (hk : k < 8) : regBlock (0x40000 + 4 * k + 0x40 * (q % 4096)) = 4 := by
  rcases page_queue q hk with hp | hp | hp | hp <;> rw [regBlock, hp] <;> rfl

theorem stateChecks_queue (hk : k < 8) (v : Word) : stateChecks s (0x40000 + 4 * k + 0x40 * (q % 4096)) v =
    checkQue s (0x40000 + 4 * k + 0x40 * (q % 4096)) v := by
  rcases page_queue q hk with hp | hp | hp | hp <;> simp only [stateChecks, hp]

theorem portReg_queue (hk : k < 8) : portReg s (0x40000 + 4 * k + 0x40 * (q % 4096)) = false := by
  have hport : lnkPort (0x40000 + 4 * k + 0x40 * (q % 4096)) = none := by
    rw [lnkPort, if_neg (by omega), if_neg (by omega), if_neg (by omega)]
  rw [portReg, hport]

include hk hd

/-- A write of a queue's register is refused with NOT_PERMITTED where its state checks say so (R607). -/
theorem writeCode_queue_notPermitted {v : Word}
    (h : Status.notPermitted ∈ checkQue s (0x40000 + 4 * k + 0x40 * (q % 4096)) v) :
    writeCode s (0x40000 + 4 * k + 0x40 * (q % 4096)) v = .notPermitted := by
  obtain ⟨r, _, hat⟩ := regAt_queue q hk
  simp only [writeCode, hat, regBlock_queue hk, hd, stateChecks_queue hk]
  exact firstCode_notPermitted (List.mem_append_right _ h)

/-- A write of a queue's register is refused with WRONG_STATE where its state checks say that and not NOT_PERMITTED (R607). -/
theorem writeCode_queue_wrongState {v : Word} (h : Status.wrongState ∈ checkQue s (0x40000 + 4 * k + 0x40 * (q % 4096)) v)
    (hn : Status.notPermitted ∉ checkQue s (0x40000 + 4 * k + 0x40 * (q % 4096)) v) :
    writeCode s (0x40000 + 4 * k + 0x40 * (q % 4096)) v = .wrongState := by
  obtain ⟨r, hr, hat⟩ := regAt_queue q hk
  simp only [writeCode, hat, regBlock_queue hk, hd, stateChecks_queue hk, portReg_queue hk]
  refine firstCode_wrongState (List.mem_append_right _ h) ?_
  simp only [List.mem_append, mem_chk, not_or]
  exact ⟨⟨⟨by simp, by simp⟩, mapChecks_queue hr v⟩, hn⟩

end

/-! ### What holds a queue's settings (R107) -/

/-- A setting of QUE_CFG that the role forbids (R109). -/
abbrev RoleForbids (s : State) (q : Nat) (v : Word) : Prop :=
  (F.QUE_CFG_LOC q).get v = 1 ∧ isSender s = true ∨ (F.QUE_CFG_LOC q).get v = 0 ∧ isHostless s = true

theorem mem_inRegs {f : Nat → Nat} {n off : Nat} {g : Nat → List Status} {c : Status} :
    c ∈ inRegs f n off g ↔ ∃ i, regIdx f n off = some i ∧ c ∈ g i := by
  unfold inRegs
  split <;> simp_all

theorem mem_queueHeld {s : State} {q : Nat} {c : Status} : c ∈ queueHeld s q ↔ qState s q ≠ qDisabled ∧ c = .wrongState := by
  simp [queueHeld, mem_chk]

/-- NOT_PERMITTED comes from a setting of QUE_CFG that the role forbids, and from nothing else. -/
theorem notPermitted_mem_checkQue {s : State} {off : Nat} {v : Word} :
    Status.notPermitted ∈ checkQue s off v ↔ ∃ q, regIdx R.QUE_CFG 4096 off = some q ∧ RoleForbids s q v := by
  simp [checkQue, checkQueCtl, mem_inRegs, mem_queueHeld, mem_chk, RoleForbids]

/-- A write of a base register or of QUE_CFG while the queue is not DISABLED breaks a rule with WRONG_STATE. -/
theorem wrongState_mem_checkQue {s : State} {q off : Nat} (v : Word) (hs : qState s q ≠ qDisabled)
    (h : regIdx R.QUE_BASELO 4096 off = some q ∨ regIdx R.QUE_BASEHI 4096 off = some q ∨ regIdx R.QUE_CFG 4096 off = some q) :
    Status.wrongState ∈ checkQue s off v := by
  have held : Status.wrongState ∈ queueHeld s q := mem_queueHeld.2 ⟨hs, rfl⟩
  rw [checkQue, List.mem_append, List.mem_append, List.mem_append]
  rcases h with hi | hi | hi
  · exact Or.inl (Or.inl (Or.inl (mem_inRegs.2 ⟨q, hi, held⟩)))
  · exact Or.inl (Or.inl (Or.inr (mem_inRegs.2 ⟨q, hi, held⟩)))
  · exact Or.inl (Or.inr (mem_inRegs.2 ⟨q, hi, List.mem_append_right _ held⟩))

section
variable {s : State} {q : Nat} {v : Word} (hq : q < 4096) (hd : dormant s 0x04 = false) (hs : qState s q ≠ qDisabled)

theorem regIdx_queue {f : Nat → Nat} (hq : q < 4096) (hf : ∀ i, f i = f 0 + 0x40 * (i % 4096)) : regIdx f 4096 (f q) = some q :=
  regIdx_same (st := 0x40) (by rw [hf 1]; simp) (by decide) (by rw [hf q, Nat.mod_eq_of_lt hq]) hq

include hq hd hs

theorem writeCode_baselo_held : writeCode s (R.QUE_BASELO q) v = .wrongState := by
  have hidx : regIdx R.QUE_BASELO 4096 (R.QUE_BASELO q) = some q := regIdx_queue hq fun _ => rfl
  refine writeCode_queue_wrongState (k := 0) (by decide) hd (wrongState_mem_checkQue v hs (Or.inl hidx)) fun h => ?_
  obtain ⟨i, hi, _⟩ := notPermitted_mem_checkQue.1 h
  rw [regIdx_between (st := 0x40) 4096 rfl (by simp only [R.QUE_CFG]; omega)] at hi
  cases hi

theorem writeCode_basehi_held : writeCode s (R.QUE_BASEHI q) v = .wrongState := by
  have hidx : regIdx R.QUE_BASEHI 4096 (R.QUE_BASEHI q) = some q := regIdx_queue hq fun _ => rfl
  refine writeCode_queue_wrongState (k := 1) (by decide) hd (wrongState_mem_checkQue v hs (Or.inr (Or.inl hidx))) fun h => ?_
  obtain ⟨i, hi, _⟩ := notPermitted_mem_checkQue.1 h
  rw [regIdx_between (st := 0x40) 4096 rfl (by simp only [R.QUE_CFG]; omega)] at hi
  cases hi

theorem writeCode_cfg_held : writeCode s (R.QUE_CFG q) v = .wrongState ∨
    (writeCode s (R.QUE_CFG q) v = .notPermitted ∧ RoleForbids s q v) := by
  have hidx : regIdx R.QUE_CFG 4096 (R.QUE_CFG q) = some q := regIdx_queue hq fun _ => rfl
  by_cases hf : RoleForbids s q v
  · exact Or.inr ⟨writeCode_queue_notPermitted (k := 2) (by decide) hd (notPermitted_mem_checkQue.2 ⟨q, hidx, hf⟩), hf⟩
  · refine Or.inl (writeCode_queue_wrongState (k := 2) (by decide) hd (wrongState_mem_checkQue v hs (Or.inr (Or.inr hidx)))
      fun h => ?_)
    obtain ⟨i, hi, hforbid⟩ := notPermitted_mem_checkQue.1 h
    obtain rfl : q = i := Option.some.inj (hidx.symm.trans hi)
    exact hf hforbid

end

/-- Settles O12: what each of the three registers answers while the queue is not DISABLED. -/
theorem queueSettingsNeedDisabled : Obligations.QueueSettingsNeedDisabled := by
  unfold Obligations.QueueSettingsNeedDisabled
  intro q v s hq hd
  refine ⟨fun h => ?baselo, fun h => ?basehi, fun h => ?cfg,
    fun hs => ⟨writeCode_baselo_held hq hd hs, writeCode_basehi_held hq hd hs, writeCode_cfg_held hq hd hs⟩⟩
  case baselo =>
    by_contra hs
    exact absurd (h.symm.trans (writeCode_baselo_held hq hd hs)) (by decide)
  case basehi =>
    by_contra hs
    exact absurd (h.symm.trans (writeCode_basehi_held hq hd hs)) (by decide)
  case cfg =>
    by_contra hs
    rcases writeCode_cfg_held (v := v) hq hd hs with hw | ⟨hn, _⟩
    · exact absurd (h.symm.trans hw) (by decide)
    · exact absurd (h.symm.trans hn) (by decide)

end Sys2Proof.Machine
end

section
/-! PROOF. Letters a tile carries out (R123, R333, R335, R336): register entries, ring memory, and the emptying of a key slot. -/

namespace Sys2Proof.Machine

/-! ### Taking a letter -/

/-- Taking a letter changes only the letters that wait. -/
theorem takeLetter_state {s x : State} {p : Letter → Bool} {l : Letter} (h : takeLetter s p = some (l, x)) :
    x = { s with chn := { s.chn with letters := s.chn.letters.erase l } } := by
  unfold takeLetter at h
  split at h
  · cases h
    rfl
  · cases h

/-- A tile whose CHN works carries out the letter that it takes. -/
theorem tileLetterStep_taken {s x : State} {ltype : Nat} {l : Letter} (h : LetterTaken s ltype l x)
    (f : State → Letter → State) : tileLetterStep s ltype f = .next (f x l) := by
  obtain ⟨hon, htile, htake⟩ := h
  rw [tileLetterStep, whenOn_of_on hon, if_pos htile, onLetter, htake]

/-! ### Remote register access (R335) -/

theorem regLetter_eq (s : State) (write : Bool) (l : Letter) : regLetter s write l = if regForm l.content = true then
    answer (regEntries write ((List.range (byteAt l.content 0)).map (fun i => slice l.content (4 + 8 * i) 8)) s).2 l .ok
      (regEntries write ((List.range (byteAt l.content 0)).map (fun i => slice l.content (4 + 8 * i) 8)) s).1
    else refuse s l .illegalValue := rfl

theorem slice_slice (b : Bytes) (o n : Nat) {k m : Nat} (h : k + m ≤ n) : slice (slice b o n) k m = slice b (o + k) m := by
  refine List.map_congr_left fun i hi => ?_
  have hlt : k + i < n := by
    have := List.mem_range.1 hi
    omega
  simp [slice, List.getD_eq_getElem?_getD, hlt, Nat.add_assoc]

theorem beAt_slice (b : Bytes) (o n : Nat) {k m : Nat} (h : k + m ≤ n) : beAt (slice b o n) k m = beAt b (o + k) m := by
  rw [beAt, slice_slice b o n h, beAt]

section
variable {s : State} {e : Bytes} (hrange : beAt e 0 4 < 2 ^ 24) (halign : beAt e 0 4 % 4 = 0)
include hrange halign

/-- A read entry answers what a read of the register gives. -/
theorem regEntry_read : regEntry s false e =
    (byte Status.ok.code :: zeros 3 ++ beBytes 4 (regRead s (beAt e 0 4)).1.toNat, (regRead s (beAt e 0 4)).2) := by
  simp only [regEntry, Nat.div_eq_of_lt hrange, halign, ne_eq, not_true_eq_false, if_false, Bool.false_eq_true]

/-- A write entry answers the code of its write, and the value. -/
theorem regEntry_write : regEntry s true e =
    (byte (regWrite s srcLetter (beAt e 0 4) (BitVec.ofNat 32 (beAt e 4 4))).1.code :: zeros 3 ++ beBytes 4 (beAt e 4 4),
      (regWrite s srcLetter (beAt e 0 4) (BitVec.ofNat 32 (beAt e 4 4))).2) := by
  simp only [regEntry, Nat.div_eq_of_lt hrange, halign, ne_eq, not_true_eq_false, if_false, if_true]

end

theorem regEntries_one (write : Bool) (e : Bytes) (s : State) : regEntries write [e] s = regEntry s write e := by
  simp [regEntries]

/-- A register letter of right form with one entry. -/
theorem regLetter_one {s : State} {l : Letter} (write : Bool) (hform : regForm l.content = true) (hone : byteAt l.content 0 = 1) :
    regLetter s write l = answer (regEntry s write (slice l.content 4 8)).2 l .ok (regEntry s write (slice l.content 4 8)).1 := by
  have hlist : (List.range 1).map (fun i => slice l.content (4 + 8 * i) 8) = [slice l.content 4 8] := rfl
  rw [regLetter_eq, if_pos hform, hone, hlist, regEntries_one]

section
variable {s : State} {l : Letter} (hform : regForm l.content = true) (hone : byteAt l.content 0 = 1)
  (hrange : beAt l.content 4 4 < 2 ^ 24) (halign : beAt l.content 4 4 % 4 = 0)
include hform hone hrange halign

theorem regLetter_read : regLetter s false l = answer (regRead s (beAt l.content 4 4)).2 l .ok
    (byte Status.ok.code :: zeros 3 ++ beBytes 4 (regRead s (beAt l.content 4 4)).1.toNat) := by
  have hoff : beAt (slice l.content 4 8) 0 4 = beAt l.content 4 4 := beAt_slice _ _ _ (by decide)
  rw [regLetter_one false hform hone, regEntry_read (by rwa [hoff]) (by rwa [hoff]), hoff]

theorem regLetter_write : regLetter s true l =
    answer (regWrite s srcLetter (beAt l.content 4 4) (BitVec.ofNat 32 (beAt l.content 8 4))).2 l .ok
      (byte (regWrite s srcLetter (beAt l.content 4 4) (BitVec.ofNat 32 (beAt l.content 8 4))).1.code :: zeros 3 ++
        beBytes 4 (beAt l.content 8 4)) := by
  have hoff : beAt (slice l.content 4 8) 0 4 = beAt l.content 4 4 := beAt_slice _ _ _ (by decide)
  have hval : beAt (slice l.content 4 8) 4 4 = beAt l.content 8 4 := beAt_slice _ _ _ (by decide)
  rw [regLetter_one true hform hone, regEntry_write (by rwa [hoff]) (by rwa [hoff]), hoff, hval]

end

/-! ### Ring memory (R123, R336) -/

/-- A queue's read goes out or waits without a change of its indices. -/
theorem qTail_kick (s : State) (q k : Nat) : qTail (kick s q) k = qTail s k :=
  getF_of_regs (kick_regs s q (fun i => by simp only; omega) RegsBut.same)

theorem qTail_acceptTail (s : State) (q : Nat) {n : Nat} (h : n < 65536) : qTail (acceptTail s q n) q = n := by
  rw [acceptTail, qTail_kick]
  exact (getF_setF_same s (F.QUE_IDX_TAIL q) n (show 0 + 16 ≤ 32 by decide)).trans (Nat.mod_eq_of_lt h)

theorem qTail_ringAnswer (s : State) (l : Letter) (c : Status) (q : Nat) (rest : Bytes) (k : Nat) :
    qTail (ringAnswer s l c q rest) k = qTail s k :=
  getF_of_regs (ringAnswer_regs s l c q rest (by simp only [R.CHN_LSTAT]; omega)
    (fun i => by simp only [R.CHN_PERR]; omega) RegsBut.same)

/-- A RING_FILL letter that passes its checks: its entries written, and TAIL moved on. -/
theorem ringFillLetter_ok {s : State} {l : Letter}
    (h : ringFillCheck s (beAt l.content 0 2) (beAt l.content 2 2) (byteAt l.content 4) = .ok) :
    ringFillLetter s l = ringAnswer (acceptTail (ringFillWrite s (beAt l.content 0 2) (beAt l.content 2 2)
      ((List.range (byteAt l.content 4)).map (fun k => slice l.content (8 + 57 * k) 57))) (beAt l.content 0 2)
        ((beAt l.content 2 2 + byteAt l.content 4) % 65536)) l .ok (beAt l.content 0 2) [] := by
  simp only [ringFillLetter, h]

/-- The checks of R123 let a letter pass only at TAIL. -/
theorem ringFillCheck_at_tail {s : State} {q f n : Nat} (h : ringFillCheck s q f n = .ok) : f = qTail s q := by
  by_contra hne
  simp only [ringFillCheck, if_pos hne] at h
  split_ifs at h

theorem ringFillLetter_effect {s : State} {l : Letter}
    (h : ringFillCheck s (beAt l.content 0 2) (beAt l.content 2 2) (byteAt l.content 4) = .ok) :
    qTail (ringFillLetter s l) (beAt l.content 0 2) = (qTail s (beAt l.content 0 2) + byteAt l.content 4) % 65536 ∧
      (ringFillLetter s l).dram = s.dram := by
  constructor
  · rw [ringFillLetter_ok h, qTail_ringAnswer, qTail_acceptTail _ _ (Nat.mod_lt _ (by decide)), ringFillCheck_at_tail h]
  · exact same_of_keeps .dram (ringFillLetter_keeps s l (by decide) (by decide) (by decide) (by decide) (by decide) (by decide)
      Keeps.same)

/-- A RING_READ letter that passes its checks answers the entries it names. -/
theorem ringReadLetter_ok {s : State} {l : Letter}
    (h : ringReadCheck s (beAt l.content 0 2) (beAt l.content 2 2) (byteAt l.content 4) = .ok) :
    ringReadLetter s l = ringAnswer s l .ok (beAt l.content 0 2) (zeros 2 ++ (List.range (byteAt l.content 4)).flatMap (fun k =>
      ringRd s (slotAddr s (beAt l.content 0 2) (beAt l.content 2 2 + k)) 64)) := by
  simp only [ringReadLetter, h]

theorem ringReadLetter_keeps_memory (s : State) (l : Letter) :
    (ringReadLetter s l).ring = s.ring ∧ (ringReadLetter s l).queues = s.queues := by
  obtain ⟨_, _, hsame⟩ := ringReadLetter_keeps (W0 := [.regs, .chn]) s l (by decide) (by decide) Keeps.same
  exact ⟨hsame .ring (by decide), hsame .queues (by decide)⟩

/-! ### Key slots (R333) -/

theorem insertCell_slots (s : State) (p cls : Nat) (c : Bytes) : (insertCell s p cls c).chn.slots = s.chn.slots := by
  unfold insertCell
  split
  · rfl
  · split
    · rw [incSat_chn]
    · rfl

/-- Putting cells into an insertion queue leaves the key slots alone. -/
theorem keySlot_insertCells (s : State) (p cls : Nat) (cs : List Bytes) (k : Nat) :
    keySlot (insertCells s p cls cs) k = keySlot s k := by
  induction cs generalizing s with
  | nil => rfl
  | cons c cs ih =>
    refine (ih (insertCell s p cls c)).trans ?_
    rw [keySlot, insertCell_slots, keySlot]

/-- Sealing with a slot's keys leaves an empty slot empty. -/
theorem keySlot_sealNext {s : State} {k : Nat} (session : Nat) (lkey : Bytes) (h : keySlot s k = none) :
    keySlot (sealNext s session lkey) k = none := by
  simp only [keySlot, Option.map_eq_none_iff, List.find?_eq_none, sealNext, List.mem_map] at h ⊢
  rintro _ ⟨e, he, rfl⟩
  exact h e he

theorem keySlot_tileReply {s : State} {k : Nat} (p ltype rank lid : Nat) (slot : Option (Nat × Nat × Bytes)) (content : Bytes)
    (h : keySlot s k = none) : keySlot (tileReply s p ltype rank lid slot content) k = none := by
  unfold tileReply
  dsimp only
  split
  case h_1 j c x hx =>
    obtain ⟨y, _, hy⟩ := Option.bind_eq_some_iff.1 hx
    simp only [sealReply, Option.map_map, Option.map_eq_some_iff, Function.comp] at hy
    obtain ⟨z, _, hz⟩ := hy
    cases hz
    rw [keySlot_insertCells]
    exact keySlot_sealNext _ _ h
  case h_2 => rwa [keySlot_insertCells]

/-- An empty slot is empty still after an answer with OK. -/
theorem keySlot_answer_ok {s : State} {k : Nat} (l : Letter) (rest : Bytes) (h : keySlot s k = none) :
    keySlot (answer s l .ok rest) k = none := by
  rw [answer, if_pos rfl, reply]
  split
  · exact h
  · exact keySlot_tileReply _ _ _ _ _ _ h

theorem keyDrop_ok {s : State} {l : Letter} (hlen : l.content.length = 1) (hk : byteAt l.content 0 ≤ 3) :
    keyDrop s l = answer (setKeySlot s (byteAt l.content 0) none) l .ok [] := by
  rw [keyDrop, if_neg (by simp [hlen]), if_neg (by omega)]

theorem keySlot_setKeySlot_none (s : State) (k : Nat) : keySlot (setKeySlot s k none) k = none := by
  simp [setKeySlot, keySlot]

theorem keyValid_setKeySlot_none (s : State) {k : Nat} (hk : k < 4) : fbit (setKeySlot s k none) F.CHN_KEYSTAT_VALID k = false := by
  have hapart : R.CHN_KEYSTAT ≠ R.CHN_KSESS k := by simp only [R.CHN_KSESS, R.CHN_KEYSTAT]; omega
  rw [setKeySlot, fbit, getF_setF_ne _ _ _ _ hapart]
  exact fbit_setBitF_same _ _ _ _ (by decide) hk

theorem keyValid_answer (s : State) (l : Letter) (c : Status) (rest : Bytes) (k : Nat) :
    fbit (answer s l c rest) F.CHN_KEYSTAT_VALID k = fbit s F.CHN_KEYSTAT_VALID k :=
  congrArg (fun n => n.testBit k) (getF_of_regs (answer_regs s l c rest (by decide)
    (fun i => by simp only [R.CHN_PERR]; omega) RegsBut.same))

/-- A KEY_DROP letter that names a slot empties it. -/
theorem keyDrop_empties {s : State} {l : Letter} (hlen : l.content.length = 1) (hk : byteAt l.content 0 ≤ 3) :
    keySlot (keyDrop s l) (byteAt l.content 0) = none ∧
      fbit (keyDrop s l) F.CHN_KEYSTAT_VALID (byteAt l.content 0) = false := by
  rw [keyDrop_ok hlen hk]
  exact ⟨keySlot_answer_ok _ _ (keySlot_setKeySlot_none _ _),
    (keyValid_answer _ _ _ _ _).trans (keyValid_setKeySlot_none _ (by omega))⟩

/-- Settles O40, letter by letter. -/
theorem tileLetters : Obligations.TileLetters := by
  unfold Obligations.TileLetters
  refine ⟨?read, ?write, ?readOne, ?writeOne, ?fill, ?ringRead, ?drop⟩
  case read =>
    intro l x s h
    rw [← regLetter_eq]
    exact tileLetterStep_taken h _
  case write =>
    intro l x s h
    rw [← regLetter_eq]
    exact tileLetterStep_taken h _
  case readOne =>
    intro l x s h hform hone hrange halign
    rw [← regLetter_read hform hone hrange halign]
    exact tileLetterStep_taken h _
  case writeOne =>
    intro l x s h hform hone hrange halign
    rw [← regLetter_write hform hone hrange halign]
    exact tileLetterStep_taken h _
  case fill =>
    intro l x s h hc
    obtain ⟨_, _, htake⟩ := id h
    obtain ⟨htail, hdram⟩ := ringFillLetter_effect hc
    refine ⟨_, tileLetterStep_taken h ringFillLetter, ?_, ?_⟩
    · rw [htail, takeLetter_state htake]
      rfl
    · rw [hdram, takeLetter_state htake]
  case ringRead =>
    intro l x s h hc
    obtain ⟨_, _, htake⟩ := id h
    have hx := takeLetter_state htake
    obtain ⟨hring, hqueues⟩ := ringReadLetter_keeps_memory x l
    refine ⟨_, tileLetterStep_taken h ringReadLetter, hring.trans (by rw [hx]), hqueues.trans (by rw [hx]), ?_⟩
    rw [ringReadLetter_ok hc, hx]
    rfl
  case drop =>
    intro l x s h hlen hk
    exact ⟨_, tileLetterStep_taken h keyDrop, keyDrop_empties hlen hk⟩

end Sys2Proof.Machine
end

section
/-! PROOF. The statement about queues (R108 to R121) against the model: a host read does not time out while Bus Master Enable is 0
(R97, R139), however long ago it was due. -/

namespace Sys2Proof.Machine

/-- Before the clock of R139 has come to a read's time, the read goes on. -/
theorem readTimeout_before_due {s : State} {who : Rd} {r : OutRead} (hr : s.hif.reads.find? (fun r => r.who == who) = some r)
    (hdue : readClock s < r.due) : readTimeout s who = s := by
  simp only [readTimeout, hr]
  exact if_neg (Nat.not_le.2 hdue)

/-- A ring read of queue 0 that is due at 10 ns. -/
def shutRead : OutRead := ⟨.ring 0, 10, true, 1⟩

/-- A READY sender at 5 ns with its link up, queue 0 RUNNING and its ring read outstanding; Bus Master Enable has just become 0. -/
def shutQueue : State :=
  setF (setF (setF { State.reset with
      boot := { State.reset.boot with pwronLow := false }
      hif := { State.reset.hif with reads := [shutRead], shutAt := some 5 }
      queues := [(0, { qrecReset with reading := true })]
      up := 5 } F.GLB_BOOTSTAT_STAGE 7) F.HIF_LINKSTAT_UP 1) (F.QUE_STAT_STATE 0) qRunning

/-- HOST_READ_TIMEOUT 10 ns on changes nothing but the time: 5 ns of the read's time are left. -/
theorem exec_hostReadTimeout_shut : exec (.hostReadTimeout 10 (.ring 0)) shutQueue = .next (advance 10 shutQueue) :=
  (whenOn_of_on (by decide) (readTimeout · (.ring 0))).trans
    (congrArg Host.Outcome.next (readTimeout_before_due (r := shutRead) (by decide) (by decide)))

/-- Refutes O21 by its clause on host reads whose time is over: it compares the read's time with the time since power-up, where the
model, as R139 has it, counts no time in which Bus Master Enable is 0. In `shutQueue` queue 0 stays RUNNING. -/
theorem not_queues : ¬ Obligations.Queues := by
  unfold Obligations.Queues
  rintro ⟨_, _, _, _, _, _, _, _, htimeout, _⟩
  obtain ⟨t, hexec, herror, _⟩ := htimeout 10 0 shutRead shutQueue (by decide) (by decide) (by decide) (by decide) (by decide)
    (by decide) (by decide) (by decide)
  obtain rfl : advance 10 shutQueue = t := by simpa [exec_hostReadTimeout_shut] using hexec
  exact absurd herror (by decide)

end Sys2Proof.Machine
end

section
/-! PROOF. The PCIe function (R96, R97, R99): the two payload sizes are kept by everything that starts when Bus Master Enable comes
back, and by the vectors that go out. -/

namespace Sys2Proof.Machine

section
variable {p : Nat × Nat}

/-- The Max Payload Size and the Max Read Request Size (R96) are `p`. -/
def SizesAre (p : Nat × Nat) (s : State) : Prop := s.hif.mps = p.1 ∧ s.hif.mrrs = p.2

theorem SizesAre.keeps {s t : State} (h : SizesAre p s) (k : Keeps Part.hif.others s t) : SizesAre p t := by
  obtain ⟨hmps, hmrrs⟩ := h
  have hsame : t.hif = s.hif := same_of_keeps .hif k
  exact ⟨by rw [hsame, hmps], by rw [hsame, hmrrs]⟩

theorem sizesAre_iff {s : State} : SizesAre p s ↔ s.hif.mps = p.1 ∧ s.hif.mrrs = p.2 := Iff.rfl

theorem sizesAre_hif {s : State} {x : HifSt} : SizesAre p { s with hif := x } ↔ x.mps = p.1 ∧ x.mrrs = p.2 := Iff.rfl

theorem sizesAre_drc {s : State} {x : DrcSt} : SizesAre p { s with drc := x } ↔ SizesAre p s := Iff.rfl

theorem sizesAre_srf {s : State} {x : SrfSt} : SizesAre p { s with srf := x } ↔ SizesAre p s := Iff.rfl

theorem SizesAre.of_snd {α : Type} {t : State} {a : α} {e : α × State} (he : e = (a, t)) (h : SizesAre p e.2) : SizesAre p t := by
  subst he
  exact h

theorem SizesAre.foldl {α : Type} {f : State → α → State} {l : List α} {s : State}
    (hf : ∀ t x, SizesAre p t → SizesAre p (f t x)) (h : SizesAre p s) : SizesAre p (l.foldl f s) := by
  induction l generalizing s with
  | nil => exact h
  | cons x l ih => exact ih (hf s x h)

/-! ### What the bus and the channels do keeps the sizes -/

theorem setF_sizes (s : State) (f : Fld) (v : Nat) (h : SizesAre p s) : SizesAre p (setF s f v) :=
  h.keeps (setF_keeps _ _ _ (by decide) Keeps.same)

theorem incSat_sizes (s : State) (f : Fld) (n : Nat) (h : SizesAre p s) : SizesAre p (incSat s f n) :=
  h.keeps (incSat_keeps _ _ _ (by decide) Keeps.same)

theorem incMod_sizes (s : State) (f : Fld) (n : Nat) (h : SizesAre p s) : SizesAre p (incMod s f n) :=
  h.keeps (incMod_keeps _ _ _ (by decide) Keeps.same)

theorem emit_sizes (s : State) (o : Out) (h : SizesAre p s) : SizesAre p (emit s o) :=
  h.keeps (emit_keeps _ _ (by decide) Keeps.same)

theorem setVecPending_sizes (s : State) (v : Nat) (b : Bool) (h : SizesAre p s) : SizesAre p (setVecPending s v b) :=
  h.keeps (setVecPending_keeps _ _ _ (by decide) Keeps.same)

theorem sendVec_sizes (s : State) (v : Nat) (h : SizesAre p s) : SizesAre p (sendVec s v) := by
  unfold sendVec
  with_reducible repeat' first
    | assumption | apply emit_sizes | apply setVecPending_sizes | simp only [sizesAre_hif, ← sizesAre_iff] | split

theorem issueUp_sizes (s : State) (u : Up) (h : SizesAre p s) : SizesAre p (issueUp s u) := by
  unfold issueUp
  with_reducible repeat' first
    | assumption | apply emit_sizes | apply SizesAre.keeps (k := emitAll_keeps _ _ (by decide) Keeps.same)
    | apply setVecPending_sizes | simp only [sizesAre_hif, ← sizesAre_iff] | split

theorem upstream_sizes (s : State) (u : Up) (h : SizesAre p s) : SizesAre p (upstream s u) := by
  unfold upstream
  with_reducible repeat' first
    | assumption | apply issueUp_sizes | simp only [sizesAre_hif, ← sizesAre_iff] | split

theorem giveUpRead_sizes (s : State) (who : Rd) (h : SizesAre p s) : SizesAre p (giveUpRead s who) := by
  unfold giveUpRead
  with_reducible repeat' first
    | assumption | simp only [sizesAre_hif, ← sizesAre_iff]

theorem appendEvent_sizes (s : State) (e : Ev) (h : SizesAre p s) : SizesAre p (appendEvent s e) := by
  unfold appendEvent
  with_reducible repeat' first
    | assumption | apply incSat_sizes | apply sendVec_sizes | simp only [sizesAre_hif, ← sizesAre_iff] | split

theorem raise_sizes (s : State) (code : Nat) (det : Bytes) (h : SizesAre p s) : SizesAre p (raise s code det) := by
  unfold raise
  with_reducible repeat' first
    | assumption | apply SizesAre.keeps (k := tileLetter_keeps _ _ _ _ _ (by decide) (by decide) Keeps.same)
    | apply appendEvent_sizes | split | dsimp only

theorem uncorrectable_sizes (s : State) (b : Nat) (h : SizesAre p s) : SizesAre p (uncorrectable s b) := by
  unfold uncorrectable
  with_reducible repeat' first
    | assumption | apply setF_sizes | apply incSat_sizes | apply raise_sizes | simp only [sizesAre_drc]

theorem noteBad_sizes (s : State) (a n : Nat) (h : SizesAre p s) : SizesAre p (noteBad s a n) := by
  unfold noteBad
  with_reducible repeat' first
    | assumption | apply uncorrectable_sizes | apply SizesAre.foldl

theorem setQrec_sizes (s : State) (q : Nat) (r : QRec) (h : SizesAre p s) : SizesAre p (setQrec s q r) := h

theorem qVector_sizes (s : State) (q : Nat) (h : SizesAre p s) : SizesAre p (qVector s q) := by
  unfold qVector
  with_reducible repeat' first
    | assumption | apply sendVec_sizes

theorem startRead_sizes (s : State) (q : Nat) (final : Bool) (h : SizesAre p s) : SizesAre p (startRead s q final) := by
  unfold startRead
  with_reducible repeat' first
    | assumption | apply upstream_sizes | apply setQrec_sizes | split | dsimp only

theorem kick_sizes (s : State) (q : Nat) (h : SizesAre p s) : SizesAre p (kick s q) := by
  unfold kick
  with_reducible repeat' first
    | assumption | apply setQrec_sizes | apply startRead_sizes | split

theorem kickAll_sizes (s : State) (h : SizesAre p s) : SizesAre p (kickAll s) := by
  unfold kickAll
  with_reducible repeat' first
    | assumption | apply kick_sizes | apply SizesAre.foldl | split | dsimp only | intro _

theorem slotWrite_sizes (s : State) (q i off : Nat) (b : Bytes) (h : SizesAre p s) : SizesAre p (slotWrite s q i off b) := by
  unfold slotWrite
  with_reducible repeat' first
    | assumption | apply SizesAre.keeps (k := ringWr_keeps _ _ _ (by decide) Keeps.same) | apply upstream_sizes | split

theorem serialReady_sizes (s : State) (q : Nat) (h : SizesAre p s) : SizesAre p (serialReady s q) :=
  h.keeps (serialReady_keeps _ _ (by decide) Keeps.same)

theorem retireEntry_sizes (s : State) (q i : Nat) (h : SizesAre p s) : SizesAre p (retireEntry s q i) := by
  unfold retireEntry
  with_reducible repeat' first
    | assumption | apply setF_sizes | apply setQrec_sizes
    | apply SizesAre.keeps (k := stopDrained_keeps _ _ (by decide) Keeps.same)

theorem retireLate_sizes (s : State) (h : SizesAre p s) : SizesAre p (retireLate s) := by
  unfold retireLate
  with_reducible repeat' first
    | assumption | apply setQrec_sizes | apply serialReady_sizes | apply retireEntry_sizes | apply SizesAre.foldl | split
    | dsimp only | intro _

theorem entryLost_sizes (s : State) (q i : Nat) (h : SizesAre p s) : SizesAre p (entryLost s q i) := by
  unfold entryLost
  with_reducible repeat' first
    | assumption | apply setQrec_sizes | apply serialReady_sizes

theorem completeEntry_sizes (s : State) (q i flags : Nat) (words : List (Nat × Bytes)) (c : Nat) (dead : Bool)
    (h : SizesAre p s) :
    SizesAre p (completeEntry s q i flags words c dead) := by
  unfold completeEntry
  with_reducible repeat' first
    | assumption | apply setQrec_sizes | apply qVector_sizes | apply slotWrite_sizes | apply serialReady_sizes
    | apply retireEntry_sizes | apply SizesAre.foldl | split | dsimp only | intro _

theorem completeItem_sizes (s : State) (it : Item) (words : List (Nat × Bytes)) (c : Nat) (dead : Bool) (h : SizesAre p s) :
    SizesAre p (completeItem s it words c dead) := by
  unfold completeItem
  with_reducible repeat' first
    | assumption | apply entryLost_sizes | apply completeEntry_sizes | split

theorem complete_sizes (s : State) (it : Item) (words : List (Nat × Bytes)) (c : Status) (dead : Bool) (h : SizesAre p s) :
    SizesAre p (complete s it words c dead) := by
  unfold complete
  with_reducible repeat' first
    | assumption | apply completeItem_sizes

theorem complete40_sizes (s : State) (it : Item) (words : Bytes) (c : Status) (dead : Bool) (h : SizesAre p s) :
    SizesAre p (complete40 s it words c dead) := by
  unfold complete40
  with_reducible repeat' first
    | assumption | apply complete_sizes

theorem srfWalk_sizes (s : State) (vp : Nat) (h : SizesAre p s) : SizesAre p (srfWalk s vp) := by
  unfold srfWalk
  with_reducible repeat' first
    | assumption | apply incMod_sizes | apply SizesAre.keeps (k := drawNat_keeps _ (by decide) Keeps.same)
    | apply uncorrectable_sizes | simp only [sizesAre_srf] | refine SizesAre.of_snd (by assumption) ?_ | split

theorem setChan_sizes (s : State) (c : Nat) (x : Chan) (h : SizesAre p s) : SizesAre p (setChan s c x) :=
  h.keeps (setChan_keeps _ _ _ (by decide) Keeps.same)

theorem dmaFinish_sizes (s : State) (c : Nat) (d : Desc) (code : Status) (fseg finfo : Nat) (h : SizesAre p s) :
    SizesAre p (dmaFinish s c d code fseg finfo) := by
  unfold dmaFinish
  with_reducible repeat' first
    | assumption | apply setF_sizes | apply incSat_sizes | apply incMod_sizes | apply complete40_sizes | split | dsimp only

theorem dmaEnd_sizes (s : State) (c : Nat) (d : Desc) (h : SizesAre p s) : SizesAre p (dmaEnd s c d) := by
  unfold dmaEnd
  with_reducible repeat' first
    | assumption | apply dmaFinish_sizes | split

theorem putBlock_sizes (s : State) (c : Nat) (d : Desc) (b : Bytes) (h : SizesAre p s) : SizesAre p (putBlock s c d b).2 := by
  unfold putBlock
  with_reducible repeat' first
    | assumption | apply SizesAre.keeps (k := dramWr_keeps _ _ _ (by decide) (by decide) Keeps.same) | apply upstream_sizes
    | apply srfWalk_sizes | apply setChan_sizes | split | dsimp only

theorem moveBlocks_sizes (c y0 : Nat) (y1 : Bytes) (y2 : Desc) (y3 : State) (h : SizesAre p y3) :
    SizesAre p (moveBlocks c y0 y1 y2 y3).2 := by
  induction y0 generalizing y1 y2 y3 with
  | zero => exact h
  | succ y0 ih =>
    unfold moveBlocks
    with_reducible repeat' first
      | assumption | apply ih | apply noteBad_sizes | apply srfWalk_sizes | apply putBlock_sizes
      | apply SizesAre.keeps (k := srcBlock_keeps _ _ _ (by decide) Keeps.same) | refine SizesAre.of_snd (by assumption) ?_
      | split | dsimp only

theorem fillBlocks_sizes (c y0 : Nat) (y1 : Desc) (y2 : State) (h : SizesAre p y2) : SizesAre p (fillBlocks c y0 y1 y2).2 := by
  induction y0 generalizing y1 y2 with
  | zero => exact h
  | succ y0 ih =>
    unfold fillBlocks
    with_reducible repeat' first
      | assumption | apply ih | apply putBlock_sizes | refine SizesAre.of_snd (by assumption) ?_ | split

theorem payRead_sizes (s : State) (c n : Nat) (h : SizesAre p s) : SizesAre p (payRead s c n) :=
  h.keeps (payRead_keeps _ _ _ (by decide) Keeps.same)

theorem waitTurn_sizes (s : State) (c : Nat) (h : SizesAre p s) : SizesAre p (waitTurn s c) := by
  unfold waitTurn
  with_reducible repeat' first
    | assumption | simp only [sizesAre_hif, ← sizesAre_iff] | split

theorem askSeg_sizes (s : State) (c : Nat) (shadow : Bool) (d : Desc) (dst : Bool) (h : SizesAre p s) :
    SizesAre p (askSeg s c shadow d dst).2 := by
  unfold askSeg
  with_reducible repeat' first
    | assumption | apply upstream_sizes | apply srfWalk_sizes | apply payRead_sizes | apply waitTurn_sizes | split
    | dsimp only

theorem askSegs_sizes (s : State) (c : Nat) (shadow : Bool) (d : Desc) (h : SizesAre p s) :
    SizesAre p (askSegs s c shadow d).2 := by
  unfold askSegs
  with_reducible repeat' first
    | assumption | apply askSeg_sizes | refine SizesAre.of_snd (by assumption) ?_ | split

theorem putHeld_sizes (s : State) (c : Nat) (d : Desc) (h : SizesAre p s) : SizesAre p (putHeld s c d).2 := by
  unfold putHeld
  with_reducible repeat' first
    | assumption | apply moveBlocks_sizes | apply waitTurn_sizes | split

theorem askData_sizes (s : State) (c : Nat) (d : Desc) (h : SizesAre p s) : SizesAre p (askData s c d) := by
  unfold askData
  with_reducible repeat' first
    | assumption | apply upstream_sizes | apply srfWalk_sizes | apply setChan_sizes | apply payRead_sizes
    | apply waitTurn_sizes | split

theorem dmaPump_sizes (s : State) (c : Nat) (h : SizesAre p s) : SizesAre p (dmaPump s c) := by
  unfold dmaPump
  with_reducible repeat' first
    | assumption | apply setChan_sizes | apply fillBlocks_sizes | apply waitTurn_sizes | apply askSegs_sizes
    | apply putHeld_sizes | apply askData_sizes | refine SizesAre.of_snd (by assumption) ?_ | split | dsimp only

theorem dropShadow_sizes (s : State) (c : Nat) (h : SizesAre p s) : SizesAre p (dropShadow s c) := by
  unfold dropShadow
  with_reducible repeat' first
    | assumption | apply giveUpRead_sizes | apply setChan_sizes | apply dmaEnd_sizes | split | dsimp only

theorem endFailed_sizes (s : State) (c : Nat) (h : SizesAre p s) : SizesAre p (endFailed s c) := by
  unfold endFailed
  with_reducible repeat' first
    | assumption | apply setChan_sizes | apply dmaEnd_sizes | split | dsimp only

theorem shadowAsk_sizes (s : State) (c : Nat) (h : SizesAre p s) : SizesAre p (shadowAsk s c) := by
  unfold shadowAsk
  with_reducible repeat' first
    | assumption | apply setChan_sizes | apply askSegs_sizes | refine SizesAre.of_snd (by assumption) ?_ | split | dsimp only

theorem settleOnce_sizes (s : State) (c : Nat) (h : SizesAre p s) : SizesAre p (settleOnce s c) := by
  unfold settleOnce
  with_reducible repeat' first
    | assumption | apply dmaPump_sizes | apply dropShadow_sizes
    | apply SizesAre.keeps (k := swapIn_keeps _ _ (by decide) Keeps.same)
    | apply SizesAre.keeps (k := promote_keeps _ _ (by decide) Keeps.same) | apply endFailed_sizes | apply shadowAsk_sizes

theorem settle_sizes (s : State) (c : Nat) (h : SizesAre p s) : SizesAre p (settle s c) := by
  unfold settle
  with_reducible repeat' first
    | assumption | apply kickAll_sizes | apply SizesAre.keeps (k := dmaShow_keeps _ _ (by decide) (by decide) Keeps.same)
    | apply settleOnce_sizes | split | dsimp only

theorem dmaPumpAll_sizes (s : State) (h : SizesAre p s) : SizesAre p (dmaPumpAll s) := by
  unfold dmaPumpAll
  with_reducible repeat' first
    | assumption | apply settle_sizes | apply SizesAre.foldl | refine SizesAre.of_snd (by assumption) ?_ | split | dsimp only
    | intro _

theorem sendPending_sizes (s : State) (h : SizesAre p s) : SizesAre p (sendPending s) := by
  unfold sendPending
  with_reducible repeat' first
    | assumption | apply issueUp_sizes | apply SizesAre.foldl | simp only [sizesAre_hif, ← sizesAre_iff] | split | dsimp only
    | intro _

theorem waitedGo_sizes (s : State) (u : Up) (h : SizesAre p s) : SizesAre p (waitedGo s u) := by
  unfold waitedGo
  with_reducible repeat' first
    | assumption | apply upstream_sizes | apply settle_sizes | split

theorem busOpen_sizes (s : State) (h : SizesAre p s) : SizesAre p (busOpen s) := by
  unfold busOpen
  with_reducible repeat' first
    | assumption | apply waitedGo_sizes | apply SizesAre.foldl | simp only [sizesAre_hif, ← sizesAre_iff]

theorem busTimers_sizes (s : State) (h : SizesAre p s) : SizesAre p (busTimers s) := by
  unfold busTimers
  with_reducible repeat' first
    | assumption | simp only [sizesAre_hif, ← sizesAre_iff] | split

end

/-! ### Bus Master Enable (R96, R97) -/

/-- What BME_CHANGE writes, before anything that waited goes out. -/
def busSet (s : State) (b : Bool) (mps mrrs : Nat) : State :=
  setF { s with hif := { s.hif with
      mps := if [128, 256, 512].contains mps then mps else s.hif.mps
      mrrs := if [128, 256, 512, 1024, 2048, 4096].contains mrrs then mrrs else s.hif.mrrs
      shutAt := if b then s.hif.shutAt
        else s.hif.shutAt.orElse (fun _ => if isSet s F.HIF_LINKSTAT_BME then some (upNs s) else none) } }
    F.HIF_LINKSTAT_BME (b2n b)

theorem bmeChange_true (s : State) (mps mrrs : Nat) :
    bmeChange s true mps mrrs = dmaPumpAll (retireLate (busOpen (busTimers (busSet s true mps mrrs)))) := rfl

theorem bmeChange_false (s : State) (mps mrrs : Nat) : bmeChange s false mps mrrs = busSet s false mps mrrs := rfl

theorem busSet_hif (s : State) (b : Bool) (mps mrrs : Nat) : (busSet s b mps mrrs).hif = { s.hif with
    mps := if [128, 256, 512].contains mps then mps else s.hif.mps
    mrrs := if [128, 256, 512, 1024, 2048, 4096].contains mrrs then mrrs else s.hif.mrrs
    shutAt := if b then s.hif.shutAt
      else s.hif.shutAt.orElse (fun _ => if isSet s F.HIF_LINKSTAT_BME then some (upNs s) else none) } := by
  rw [busSet, setF_hif]

/-- The two sizes after BME_CHANGE: those it names, where R96 has them. -/
theorem busSet_sizes (s : State) (b : Bool) (mps mrrs : Nat) :
    SizesAre (if [128, 256, 512].contains mps then mps else s.hif.mps,
      if [128, 256, 512, 1024, 2048, 4096].contains mrrs then mrrs else s.hif.mrrs) (busSet s b mps mrrs) := by
  rw [sizesAre_iff, busSet_hif]
  exact ⟨rfl, rfl⟩

theorem bmeChange_sizes (s : State) (b : Bool) (mps mrrs : Nat) :
    SizesAre (if [128, 256, 512].contains mps then mps else s.hif.mps,
      if [128, 256, 512, 1024, 2048, 4096].contains mrrs then mrrs else s.hif.mrrs) (bmeChange s b mps mrrs) := by
  cases b
  case false => exact busSet_sizes s false mps mrrs
  case true =>
    rw [bmeChange_true]
    exact dmaPumpAll_sizes _ (retireLate_sizes _ (busOpen_sizes _ (busTimers_sizes _ (busSet_sizes s true mps mrrs))))

/-- What goes out when Bus Master Enable comes back leaves HIF_LINKSTAT as it was written. -/
theorem word_bmeChange (s : State) (b : Bool) (mps mrrs : Nat) :
    (bmeChange s b mps mrrs).word R.HIF_LINKSTAT = (busSet s b mps mrrs).word R.HIF_LINKSTAT := by
  cases b
  case false => rw [bmeChange_false]
  case true =>
    have hpba : ∀ k, 0x38000 + 4 * (k % 64) ≠ R.HIF_LINKSTAT := fun k => by simp only [R.HIF_LINKSTAT]; omega
    have hstat : ∀ i, R.QUE_STAT i ≠ R.HIF_LINKSTAT := fun i => by simp only [R.QUE_STAT, R.HIF_LINKSTAT]; omega
    have hret : ∀ i, R.QUE_RET i ≠ R.HIF_LINKSTAT := fun i => by simp only [R.QUE_RET, R.HIF_LINKSTAT]; omega
    have hch : ∀ i, R.DMA_CHSTAT i ≠ R.HIF_LINKSTAT := fun i => by simp only [R.DMA_CHSTAT, R.HIF_LINKSTAT]; omega
    have hcnt : ∀ i, R.DMA_CHCNT i ≠ R.HIF_LINKSTAT := fun i => by simp only [R.DMA_CHCNT, R.HIF_LINKSTAT]; omega
    have hdead : ∀ i, R.DMA_CHDEAD i ≠ R.HIF_LINKSTAT := fun i => by simp only [R.DMA_CHDEAD, R.HIF_LINKSTAT]; omega
    have htgt : ∀ i, R.SOR_TGTSTAT i ≠ R.HIF_LINKSTAT := fun i => by simp only [R.SOR_TGTSTAT, R.HIF_LINKSTAT]; omega
    have hperr : ∀ i, R.CHN_PERR i ≠ R.HIF_LINKSTAT := fun i => by simp only [R.CHN_PERR, R.HIF_LINKSTAT]; omega
    rw [bmeChange_true]
    exact word_of_regs (dmaPumpAll_regs _ hpba (by decide) hstat hret hch hcnt hdead htgt (by decide) hperr (by decide) (by decide)
      (retireLate_regs _ hstat hret
        (busOpen_regs _ hpba (by decide) hstat hret hch hcnt hdead htgt (by decide) hperr (by decide) (by decide)
          (busTimers_regs _ RegsBut.same))))

theorem bmeChange_linkstat (s : State) (b : Bool) (mps mrrs : Nat) : getF (bmeChange s b mps mrrs) F.HIF_LINKSTAT_BME = b2n b ∧
    getF (bmeChange s b mps mrrs) F.HIF_LINKSTAT_UP = getF s F.HIF_LINKSTAT_UP := by
  have hword := word_bmeChange s b mps mrrs
  constructor
  · refine (congrArg F.HIF_LINKSTAT_BME.get hword).trans ?_
    refine (getF_setF_same _ _ _ (by decide)).trans ?_
    cases b <;> rfl
  · exact (congrArg F.HIF_LINKSTAT_UP.get hword).trans (getF_setF_other _ _ (by decide) (by decide))

/-! ### MSI-X (R99) -/

/-- The vectors that go out leave Message Control alone. -/
theorem sendPending_control (s : State) :
    (sendPending s).hif.msixEnable = s.hif.msixEnable ∧ (sendPending s).hif.funcMask = s.hif.funcMask := by
  unfold sendPending
  refine List.foldlRecOn (motive := fun t : State => t.hif.msixEnable = s.hif.msixEnable ∧ t.hif.funcMask = s.hif.funcMask) _ _
    ⟨rfl, rfl⟩ fun t ht v _ => ?_
  split
  · exact ht
  split
  · rw [issueUp]
    split
    · rwa [emit_hif, setVecPending_hif]
    · exact ht
  split
  · exact ht
  · exact ht

theorem msixUnmask_vector {v : Nat} (h : v < 2048) (s : State) :
    ((msixUnmask s (.vector v)).word (msixOff v + 12)).toNat.testBit 0 = false := by
  have hoff : msixOff v + 12 < 0x38000 := by simp only [msixOff]; omega
  rw [msixUnmask, if_neg (by omega), word_sendPending _ hoff, setMsixWord, word_setWord_same]
  rw [BitVec.toNat_ofNat, Nat.testBit_mod_two_pow, putBit, putBits_testBit]
  rfl

/-- Settles O19, clause by clause. -/
theorem pcieFunction : Obligations.PcieFunction := by
  unfold Obligations.PcieFunction
  refine ⟨?bme, ?vector, ?control, ?power⟩
  case bme =>
    intro b mps mrrs s _ hon hup
    obtain ⟨hbme, hkeep⟩ := bmeChange_linkstat s b mps mrrs
    obtain ⟨hmps, hmrrs⟩ := bmeChange_sizes s b mps mrrs
    refine ⟨bmeChange s b mps mrrs, (whenOn_of_on hon _).trans (congrArg Host.Outcome.next (if_pos hup)), hbme,
      hkeep.trans (getF_one_of_isSet rfl hup), ?_, fun h => hmps.trans (if_pos h), fun h => hmrrs.trans (if_pos h)⟩
    rintro rfl
    rw [bmeChange_false, busSet_hif, busSet, setF_out, setF_dma]
    exact ⟨rfl, rfl, rfl, rfl⟩
  case vector =>
    intro v s hon hup hv
    exact ⟨_, (whenOn_of_on hon _).trans (congrArg Host.Outcome.next (if_pos hup)), msixUnmask_vector hv s⟩
  case control =>
    intro e m s hon hup
    exact ⟨_, (whenOn_of_on hon _).trans (congrArg Host.Outcome.next (if_pos hup)), sendPending_control _⟩
  case power =>
    intro b s hon hup
    exact (whenOn_of_on hon _).trans (congrArg Host.Outcome.next (if_pos hup))

end Sys2Proof.Machine
end

section
/-! PROOF. The numbers of the queues (R105, R106): only the 4,096 queues ever have a record. -/

namespace Sys2Proof.Machine

/-! ### What every function that leaves the records alone keeps -/

theorem Part.mem_others {p q : Part} (h : p ≠ q) : p ∈ q.others :=
  List.mem_filter.2 ⟨by cases p <;> decide, by simpa using h⟩

/-- `QueuesOk` under a name that is not unfolded on the way. -/
def QueuesHeld (s : State) : Prop := QueuesOk s

theorem QueuesHeld.keeps {s t : State} (h : QueuesHeld s) (k : Keeps Part.queues.others s t) : QueuesHeld t := by
  have hsame : t.queues = s.queues := same_of_keeps .queues k
  rwa [QueuesHeld, QueuesOk, hsame]

theorem queuesHeld_record {s : State} {regs : List (Nat × Word)} {boot : BootSt} {hif : HifSt} {sor : SorSt}
    {dma : List (Nat × Chan)} {srf : SrfSt} {drc : DrcSt} {chn : ChnSt} {cmp : CmpSt} {frt : FrtSt} {lnk : LnkSt} {tim : TimSt}
    {tan : TanSt} {sec : SecSt} {lmp : LmpSt} {spk : SpkSt} {thm : ThmSt} {cal : CalSt} {upd : UpdSt} {dram ring : List Host.Cell}
    {time wraps up : Nat} {out : List Out} {free : Nat} {pending : List Instr} :
    QueuesHeld ⟨regs, boot, hif, s.queues, sor, dma, srf, drc, chn, cmp, frt, lnk, tim, tan, sec, lmp, spk, thm, cal, upd, dram,
      ring, time, wraps, up, out, free, pending⟩ ↔ QueuesHeld s := Iff.rfl

theorem QueuesHeld.of_snd {α : Type} {t : State} {a : α} {e : α × State} (he : e = (a, t)) (h : QueuesHeld e.2) :
    QueuesHeld t := by
  subst he
  exact h

theorem QueuesHeld.of_snd2 {α β : Type} {t : State} {a : α} {b : β} {e : α × β × State} (he : e = (a, b, t))
    (h : QueuesHeld e.2.2) : QueuesHeld t := by
  subst he
  exact h

theorem ite_queuesHeld {c : Prop} [Decidable c] {s t : State} (hs : c → QueuesHeld s) (ht : ¬ c → QueuesHeld t) :
    QueuesHeld (if c then s else t) := by
  split
  · exact hs ‹_›
  · exact ht ‹_›

theorem QueuesHeld.foldl {α : Type} {f : State → α → State} {l : List α} {s : State}
    (hf : ∀ t x, QueuesHeld t → QueuesHeld (f t x)) (h : QueuesHeld s) : QueuesHeld (l.foldl f s) :=
  List.foldlRecOn (motive := QueuesHeld) l f h fun t ht x _ => hf t x ht

/-- The records of the state of a pair; the name keeps the pair from being reduced. -/
def QueuesHeldSnd {β : Type} (q : β × State) : Prop := QueuesHeld q.2

theorem QueuesHeld.foldl_snd {α β : Type} {f : β × State → α → β × State} {l : List α} {p : β × State}
    (hf : ∀ q x, QueuesHeld q.2 → QueuesHeldSnd (f q x)) (h : QueuesHeld p.2) : QueuesHeld (l.foldl f p).2 :=
  List.foldlRecOn (motive := QueuesHeldSnd) l f h fun q hq x _ => hf q x hq

theorem QueuesHeld.foldl_range {f : State → Nat → State} {n : Nat} {s : State}
    (hf : ∀ t q, q < n → QueuesHeld t → QueuesHeld (f t q)) (h : QueuesHeld s) : QueuesHeld ((List.range n).foldl f s) :=
  List.foldlRecOn (motive := QueuesHeld) _ f h fun t ht q hq => hf t q (List.mem_range.1 hq) ht

/-- A walk over the records of a state. -/
theorem QueuesHeld.foldl_queues {f : State → Nat × QRec → State} {r s : State} (hr : QueuesHeld r)
    (hf : ∀ t e, e.1 < 4096 → QueuesHeld t → QueuesHeld (f t e)) (h : QueuesHeld s) : QueuesHeld (r.queues.foldl f s) :=
  List.foldlRecOn (motive := QueuesHeld) _ f h fun t ht e he => hf t e (hr e he) ht

/-! ### The records themselves -/

/-- A queue that has a record is one of the 4,096. -/
theorem QueuesHeld.lt_of_qrec {s : State} (h : QueuesHeld s) {q : Nat} (hrec : qrec s q ≠ qrecReset) : q < 4096 := by
  unfold qrec tget at hrec
  split at hrec
  case h_1 e he =>
    have heq : e.1 = q := by simpa using List.find?_some he
    exact heq ▸ h e (List.mem_of_find?_eq_some he)
  case h_2 => exact absurd rfl hrec

/-- A record is written for one of the 4,096 queues, or it is the empty one. -/
theorem QueuesHeld.setQrec {s : State} (h : QueuesHeld s) {q : Nat} {r : QRec} (hq : q < 4096 ∨ r = qrecReset) :
    QueuesHeld (setQrec s q r) := by
  have hrest : ∀ e ∈ s.queues.filter (fun e => e.1 != q), e.1 < 4096 := fun e he => h e (List.mem_filter.1 he).1
  intro e he
  change e ∈ tset qrecReset s.queues q r at he
  unfold tset at he
  dsimp only at he
  split at he
  case isTrue => exact hrest e he
  case isFalse hr =>
    rcases mem_tins.1 he with rfl | he
    · exact hq.resolve_right hr
    · exact hrest e he

theorem regIdx_lt {f : Nat → Nat} {n off i : Nat} (h : regIdx f n off = some i) : i < n := by
  unfold regIdx at h
  dsimp only at h
  split at h
  case isTrue hc =>
    obtain ⟨_, _, hlt⟩ := hc
    exact Option.some.inj h ▸ hlt
  case isFalse => cases h

theorem ringFillCheck_queue {s : State} {q f n : Nat} (h : ringFillCheck s q f n = .ok) : q < 4096 := by
  by_contra hq
  simp only [ringFillCheck, if_pos (Nat.not_lt.1 hq)] at h
  cases h

theorem coreTake_queuesHeld {s t : State} {op : Nat} {it : Item} (hx : coreTake s op = some (it, t)) (h : QueuesHeld s) :
    QueuesHeld t := h.keeps (coreTake_keeps (by decide) (by decide) hx Keeps.same)

theorem takeRx_queuesHeld {s t : State} {p : Bytes → Bool} {it : RxCell} (hx : takeRx s p = some (it, t)) (h : QueuesHeld s) :
    QueuesHeld t := h.keeps (takeRx_keeps (by decide) hx Keeps.same)

theorem takeLetter_queuesHeld {s t : State} {p : Letter → Bool} {it : Letter} (hx : takeLetter s p = some (it, t))
    (h : QueuesHeld s) : QueuesHeld t := h.keeps (takeLetter_keeps (by decide) hx Keeps.same)

theorem openReply_queuesHeld {s t : State} {l : Letter} {it : Bytes} (hx : openReply s l = some (it, t)) (h : QueuesHeld s) :
    QueuesHeld t := h.keeps (openReply_keeps (by decide) hx Keeps.same)

/-! ### QUE, and what its functions use that writes no record -/

theorem setWord_queuesHeld (s : State) (off : Nat) (w : Word) (h : QueuesHeld s) : QueuesHeld (s.setWord off w) :=
  h.keeps (setWord_keeps _ _ _ (by decide) Keeps.same)

theorem setF_queuesHeld (s : State) (f : Fld) (v : Nat) (h : QueuesHeld s) : QueuesHeld (setF s f v) :=
  h.keeps (setF_keeps _ _ _ (by decide) Keeps.same)

theorem resetRegs_queuesHeld (s : State) (lo hi : Nat) (h : QueuesHeld s) : QueuesHeld (resetRegs s lo hi) :=
  h.keeps (resetRegs_keeps _ _ _ (by decide) Keeps.same)

theorem incSat_queuesHeld (s : State) (f : Fld) (n : Nat) (h : QueuesHeld s) : QueuesHeld (incSat s f n) :=
  h.keeps (incSat_keeps _ _ _ (by decide) Keeps.same)

theorem drawBytes_queuesHeld (s : State) (n : Nat) (h : QueuesHeld s) : QueuesHeld (drawBytes s n).2 :=
  h.keeps (drawBytes_keeps _ _ (by decide) Keeps.same)

theorem dropRead_queuesHeld (s : State) (who : Rd) (h : QueuesHeld s) : QueuesHeld (dropRead s who) :=
  h.keeps (dropRead_keeps _ _ (by decide) (by decide) (by decide) Keeps.same)

theorem giveUpRead_queuesHeld (s : State) (who : Rd) (h : QueuesHeld s) : QueuesHeld (giveUpRead s who) :=
  h.keeps (giveUpRead_keeps _ _ (by decide) Keeps.same)

theorem raise_queuesHeld (s : State) (code : Nat) (det : Bytes) (h : QueuesHeld s) : QueuesHeld (raise s code det) :=
  h.keeps (raise_keeps _ _ _ (by decide) (by decide) (by decide) (by decide) Keeps.same)

theorem logError_queuesHeld (s : State) (src off : Nat) (c : Status) (h : QueuesHeld s) : QueuesHeld (logError s src off c) :=
  h.keeps (logError_keeps _ _ _ _ (by decide) (by decide) (by decide) (by decide) Keeps.same)

theorem setQrec_queuesHeld (s : State) {q : Nat} (r : QRec) (hq : q < 4096) (h : QueuesHeld s) : QueuesHeld (setQrec s q r) :=
  h.setQrec (Or.inl hq)

theorem qVector_queuesHeld (s : State) (q : Nat) (h : QueuesHeld s) : QueuesHeld (qVector s q) :=
  h.keeps (qVector_keeps _ _ (by decide) (by decide) (by decide) Keeps.same)

theorem dropFetch_queuesHeld (s : State) (q : Nat) (hq : q < 4096) (h : QueuesHeld s) : QueuesHeld (dropFetch s q) := by
  unfold dropFetch
  with_reducible repeat' first
    | assumption | apply giveUpRead_queuesHeld | apply setQrec_queuesHeld

theorem queueError_queuesHeld (s : State) (q : Nat) (c : Status) (hq : q < 4096) (h : QueuesHeld s) :
    QueuesHeld (queueError s q c) := by
  unfold queueError
  with_reducible repeat' first
    | assumption | apply setF_queuesHeld | apply qVector_queuesHeld | apply dropFetch_queuesHeld | split | dsimp only

theorem startRead_queuesHeld (s : State) (q : Nat) (final : Bool) (hq : q < 4096) (h : QueuesHeld s) :
    QueuesHeld (startRead s q final) := by
  unfold startRead
  with_reducible repeat' first
    | assumption | apply QueuesHeld.keeps (k := upstream_keeps _ _ (by decide) (by decide) (by decide) Keeps.same)
    | apply setQrec_queuesHeld | split | dsimp only

theorem kick_queuesHeld (s : State) (q : Nat) (hq : q < 4096) (h : QueuesHeld s) : QueuesHeld (kick s q) := by
  unfold kick
  with_reducible repeat' first
    | assumption | apply setQrec_queuesHeld | apply startRead_queuesHeld | split

theorem kickAll_queuesHeld (s : State) (h : QueuesHeld s) : QueuesHeld (kickAll s) := by
  unfold kickAll
  exact h.foldl_queues (fun t e hq ht => kick_queuesHeld t e.1 hq ht) h

theorem handOn_queuesHeld (s : State) (q : Nat) (e : Bytes) (hq : q < 4096) (h : QueuesHeld s) : QueuesHeld (handOn s q e) := by
  unfold handOn
  with_reducible repeat' first
    | assumption | apply setF_queuesHeld | apply setQrec_queuesHeld
    | apply QueuesHeld.keeps (k := holdItem_keeps _ _ (by decide) (by decide) Keeps.same)

/-- The completion of a read that no queue asked for is dropped. -/
theorem ringRead_queuesHeld (s : State) (q : Nat) (res : RdRes) (h : QueuesHeld s) : QueuesHeld (ringRead s q res) := by
  unfold ringRead
  have hdrop : QueuesHeld (dropRead s (.ring q)) := dropRead_queuesHeld s _ h
  refine ite_queuesHeld (fun _ => hdrop) fun hread => ?_
  have hq : q < 4096 := h.lt_of_qrec fun e => by simp [e, qrecReset] at hread
  with_reducible repeat' first
    | assumption | apply setQrec_queuesHeld | apply queueError_queuesHeld | apply kick_queuesHeld | apply handOn_queuesHeld | split
    | dsimp only

/-- A queue without a record waits for no recheck. -/
theorem recheckTimeout_queuesHeld (s : State) (q : Nat) (h : QueuesHeld s) : QueuesHeld (recheckTimeout s q) := by
  unfold recheckTimeout
  split
  case isTrue hw => exact startRead_queuesHeld s q true (h.lt_of_qrec fun e => by simp [e, qrecReset] at hw) h
  case isFalse => exact h

theorem slotWrite_queuesHeld (s : State) (q i off : Nat) (b : Bytes) (h : QueuesHeld s) : QueuesHeld (slotWrite s q i off b) :=
  h.keeps (slotWrite_keeps _ _ _ _ _ (by decide) (by decide) (by decide) (by decide) Keeps.same)

theorem serialReady_queuesHeld (s : State) (q : Nat) (h : QueuesHeld s) : QueuesHeld (serialReady s q) :=
  h.keeps (serialReady_keeps _ _ (by decide) Keeps.same)

theorem retireEntry_queuesHeld (s : State) (q i : Nat) (hq : q < 4096) (h : QueuesHeld s) : QueuesHeld (retireEntry s q i) := by
  unfold retireEntry
  with_reducible repeat' first
    | assumption | apply setF_queuesHeld | apply setQrec_queuesHeld
    | apply QueuesHeld.keeps (k := stopDrained_keeps _ _ (by decide) Keeps.same)

theorem retireLate_queuesHeld (s : State) (h : QueuesHeld s) : QueuesHeld (retireLate s) := by
  unfold retireLate
  refine h.foldl_queues (fun t e hq ht => ?_) h
  refine QueuesHeld.foldl (fun u i hu => ?_) (setQrec_queuesHeld t _ hq ht)
  exact serialReady_queuesHeld _ _ (retireEntry_queuesHeld u e.1 i hq hu)

/-- A queue without a record has handed on no entry, and is left without one. -/
theorem entryLost_queuesHeld (s : State) (q i : Nat) (h : QueuesHeld s) : QueuesHeld (entryLost s q i) := by
  unfold entryLost
  refine serialReady_queuesHeld _ _ ?_
  by_cases hrec : qrec s q = qrecReset
  · exact h.setQrec (Or.inr (by rw [hrec]; rfl))
  · exact setQrec_queuesHeld s _ (h.lt_of_qrec hrec) h

theorem lateLost_queuesHeld (s : State) (h : QueuesHeld s) : QueuesHeld (lateLost s) := by
  unfold lateLost
  refine h.foldl_queues (fun t e hq ht => ?_) h
  exact QueuesHeld.foldl (fun u i hu => entryLost_queuesHeld u e.1 i hu) (setQrec_queuesHeld t _ hq ht)

/-- An entry is completed only in a queue that handed it on. -/
theorem completeEntry_queuesHeld (s : State) (q i flags : Nat) (words : List (Nat × Bytes)) (c : Nat) (dead : Bool)
    (h : QueuesHeld s) : QueuesHeld (completeEntry s q i flags words c dead) := by
  unfold completeEntry
  refine ite_queuesHeld (fun hhanded => ?_) fun _ => h
  have hq : q < 4096 := h.lt_of_qrec fun e => by simp [e, qrecReset] at hhanded
  with_reducible repeat' first
    | assumption | apply setQrec_queuesHeld | apply qVector_queuesHeld | apply slotWrite_queuesHeld | apply serialReady_queuesHeld
    | apply retireEntry_queuesHeld | apply QueuesHeld.foldl | split | dsimp only | intro _

theorem completeItem_queuesHeld (s : State) (it : Item) (words : List (Nat × Bytes)) (c : Nat) (dead : Bool) (h : QueuesHeld s) :
    QueuesHeld (completeItem s it words c dead) := by
  unfold completeItem
  with_reducible repeat' first
    | assumption | apply entryLost_queuesHeld | apply completeEntry_queuesHeld | split

theorem complete_queuesHeld (s : State) (it : Item) (words : List (Nat × Bytes)) (c : Status) (dead : Bool) (h : QueuesHeld s) :
    QueuesHeld (complete s it words c dead) :=
  completeItem_queuesHeld _ _ _ _ _ h

theorem complete40_queuesHeld (s : State) (it : Item) (words : Bytes) (c : Status) (dead : Bool) (h : QueuesHeld s) :
    QueuesHeld (complete40 s it words c dead) :=
  complete_queuesHeld _ _ _ _ _ h

theorem queueEnable_queuesHeld (s : State) (q : Nat) (hq : q < 4096) (h : QueuesHeld s) : QueuesHeld (queueEnable s q) := by
  unfold queueEnable
  with_reducible repeat' first
    | assumption | apply setWord_queuesHeld | apply setF_queuesHeld | apply setQrec_queuesHeld

theorem queueDisable_queuesHeld (s : State) (q : Nat) (hq : q < 4096) (h : QueuesHeld s) : QueuesHeld (queueDisable s q) := by
  unfold queueDisable
  with_reducible repeat' first
    | assumption | apply setF_queuesHeld | apply setQrec_queuesHeld

theorem queueStop_queuesHeld (s : State) (q : Nat) (hq : q < 4096) (h : QueuesHeld s) : QueuesHeld (queueStop s q) := by
  unfold queueStop
  with_reducible repeat' first
    | assumption | apply setF_queuesHeld | apply dropFetch_queuesHeld
    | apply QueuesHeld.keeps (k := stopDrained_keeps _ _ (by decide) Keeps.same)

theorem queueResume_queuesHeld (s : State) (q : Nat) (hq : q < 4096) (h : QueuesHeld s) : QueuesHeld (queueResume s q) := by
  unfold queueResume
  with_reducible repeat' first
    | assumption | apply setF_queuesHeld | apply kick_queuesHeld

theorem acceptTail_queuesHeld (s : State) (q t : Nat) (hq : q < 4096) (h : QueuesHeld s) : QueuesHeld (acceptTail s q t) := by
  unfold acceptTail
  with_reducible repeat' first
    | assumption | apply setF_queuesHeld | apply setQrec_queuesHeld | apply kick_queuesHeld

theorem ringFillWrite_queuesHeld (s : State) (q f : Nat) (y0 : List Bytes) (h : QueuesHeld s) :
    QueuesHeld (ringFillWrite s q f y0) :=
  h.keeps (ringFillWrite_keeps _ _ _ (by decide) _ Keeps.same)

theorem queAbortAll_queuesHeld (s : State) (h : QueuesHeld s) : QueuesHeld (queAbortAll s) := by
  unfold queAbortAll
  with_reducible repeat' first
    | assumption | apply completeEntry_queuesHeld | apply QueuesHeld.foldl | split | dsimp only | intro _

/-- A block reset of QUE keeps the numbers of the records. -/
theorem queBlockReset_queuesHeld (s : State) (h : QueuesHeld s) : QueuesHeld (queBlockReset s) := by
  unfold queBlockReset
  have hreset : QueuesHeld (resetRegs ((queAbortAll s).queues.foldl (fun s e => giveUpRead s (.ring e.1)) (queAbortAll s))
      0x40000 0x80000) :=
    QueuesHeld.keeps (QueuesHeld.foldl (fun _ _ ht => giveUpRead_queuesHeld _ _ ht) (queAbortAll_queuesHeld s h))
      (resetRegs_keeps _ _ _ (by decide) Keeps.same)
  intro e he
  obtain ⟨e', he', rfl⟩ := List.mem_map.1 he
  exact hreset e' he'

theorem advance_queuesHeld (n : Nat) (s : State) (h : QueuesHeld s) : QueuesHeld (advance n s) :=
  h.keeps (advance_keeps _ _ (by decide) (by decide) (by decide) (by decide) (by decide) (by decide) (by decide) Keeps.same)

theorem lampDrop_queuesHeld (s : State) (h : QueuesHeld s) : QueuesHeld (lampDrop s) :=
  h.keeps (lampDrop_keeps _ (by decide) Keeps.same)

theorem setTrec_queuesHeld (s : State) (t : Nat) (r : TRec) (h : QueuesHeld s) : QueuesHeld (setTrec s t r) :=
  h.keeps (setTrec_keeps _ _ _ (by decide) Keeps.same)

theorem showCore_queuesHeld (s : State) (t : Nat) (h : QueuesHeld s) : QueuesHeld (showCore s t) :=
  h.keeps (showCore_keeps _ _ (by decide) (by decide) Keeps.same)

theorem srfShow_queuesHeld (s : State) (h : QueuesHeld s) : QueuesHeld (srfShow s) :=
  h.keeps (srfShow_keeps _ (by decide) Keeps.same)

theorem svcWrite_queuesHeld (s : State) (a : Nat) (b : Bytes) (h : QueuesHeld s) : QueuesHeld (svcWrite s a b) :=
  h.keeps (svcWrite_keeps _ _ _ (by decide) (by decide) (by decide) (by decide) (by decide) (by decide) (by decide)
    (by decide) Keeps.same)

/-! ### Surfaces, DMA and dispatch -/

theorem srfDone_queuesHeld (s : State) (it : Item) (c : Status) (handle pages frame : Nat) (h : QueuesHeld s) :
    QueuesHeld (srfDone s it c handle pages frame) :=
  complete40_queuesHeld _ _ _ _ _ h

theorem finishFree_queuesHeld (s : State) (it : Item) (x : Surf) (h : QueuesHeld s) : QueuesHeld (finishFree s it x) := by
  unfold finishFree
  with_reducible repeat' first
    | assumption | apply srfShow_queuesHeld | apply QueuesHeld.keeps (k := freePool_keeps _ _ (by decide) Keeps.same)
    | apply QueuesHeld.keeps (k := loseCopies_keeps _ _ _ (by decide) Keeps.same) | apply srfDone_queuesHeld
    | simp only [queuesHeld_record]

theorem finishPend_queuesHeld (s : State) (o : PendOp) (h : QueuesHeld s) : QueuesHeld (finishPend s o) := by
  unfold finishPend
  with_reducible repeat' first
    | assumption | apply srfShow_queuesHeld | apply QueuesHeld.keeps (k := freePool_keeps _ _ (by decide) Keeps.same)
    | apply srfDone_queuesHeld | apply finishFree_queuesHeld | split

theorem sweepPend_queuesHeld (s : State) (h : QueuesHeld s) : QueuesHeld (sweepPend s) := by
  unfold sweepPend
  with_reducible repeat' first
    | assumption | apply srfShow_queuesHeld | apply finishPend_queuesHeld | apply QueuesHeld.foldl
    | simp only [queuesHeld_record]

theorem forgetFrame_queuesHeld (s : State) (n : Nat) (h : QueuesHeld s) : QueuesHeld (forgetFrame s n) :=
  h.keeps (forgetFrame_keeps _ _ (by decide) Keeps.same)

theorem retireFrame_queuesHeld (s : State) (h : QueuesHeld s) : QueuesHeld (retireFrame s) := by
  unfold retireFrame
  with_reducible repeat' first
    | assumption | apply setF_queuesHeld | apply sweepPend_queuesHeld | apply forgetFrame_queuesHeld
    | simp only [queuesHeld_record] | split

theorem engineStop_queuesHeld (s : State) (h : QueuesHeld s) : QueuesHeld (engineStop s) := by
  unfold engineStop
  with_reducible repeat' first
    | assumption | apply sweepPend_queuesHeld | apply forgetFrame_queuesHeld | apply QueuesHeld.foldl
    | simp only [queuesHeld_record]

theorem areaFetch_queuesHeld (s : State) (handle off n : Nat) (host : HostRes) (h : QueuesHeld s) :
    QueuesHeld (areaFetch s handle off n host).2 :=
  h.keeps (areaFetch_keeps _ _ _ _ _ (by decide) (by decide) (by decide) (by decide) (by decide) (by decide) (by decide) Keeps.same)

theorem srfCreate_queuesHeld (s : State) (it : Item) (h : QueuesHeld s) : QueuesHeld (srfCreate s it) := by
  unfold srfCreate
  with_reducible repeat' first
    | assumption | apply srfShow_queuesHeld
    | apply QueuesHeld.keeps (k := allocPages_keeps (by decide) (by decide) _ _ Keeps.same) | apply srfDone_queuesHeld
    | simp only [queuesHeld_record]

theorem srfBack_queuesHeld (s : State) (it : Item) (h : QueuesHeld s) : QueuesHeld (srfBack s it) := by
  unfold srfBack
  with_reducible repeat' first
    | assumption | apply srfShow_queuesHeld | apply QueuesHeld.keeps (k := dropCopies_keeps _ _ _ _ (by decide) Keeps.same)
    | apply finishPend_queuesHeld | apply QueuesHeld.keeps (k := allocRanges_keeps (by decide) (by decide) _ _ Keeps.same)
    | simp only [queuesHeld_record] | refine QueuesHeld.of_snd (by assumption) ?_
    | refine QueuesHeld.of_snd2 (by assumption) ?_ | split

theorem srfInval_queuesHeld (s : State) (it : Item) (h : QueuesHeld s) : QueuesHeld (srfInval s it) := by
  unfold srfInval
  with_reducible repeat' first
    | assumption | apply srfShow_queuesHeld | apply QueuesHeld.keeps (k := dropCopies_keeps _ _ _ _ (by decide) Keeps.same)
    | apply finishPend_queuesHeld | simp only [queuesHeld_record] | split

theorem srfFree_queuesHeld (s : State) (it : Item) (h : QueuesHeld s) : QueuesHeld (srfFree s it) := by
  unfold srfFree
  with_reducible repeat' first
    | assumption | apply srfShow_queuesHeld | apply finishFree_queuesHeld | simp only [queuesHeld_record] | split

theorem srfApply_queuesHeld (s : State) (it : Item) (h : QueuesHeld s) : QueuesHeld (srfApply s it) := by
  unfold srfApply
  with_reducible repeat' first
    | assumption | apply srfDone_queuesHeld | apply srfCreate_queuesHeld | apply srfBack_queuesHeld
    | apply srfInval_queuesHeld | apply srfFree_queuesHeld | split | dsimp only

theorem srfEntry_queuesHeld (s : State) (it : Item) (h : QueuesHeld s) : QueuesHeld (srfEntry s it) := by
  unfold srfEntry
  with_reducible repeat' first
    | assumption | apply srfApply_queuesHeld | simp only [queuesHeld_record] | split

theorem srfTableDone_queuesHeld (s : State) (h : QueuesHeld s) : QueuesHeld (srfTableDone s) := by
  unfold srfTableDone
  with_reducible repeat' first
    | assumption | apply srfApply_queuesHeld | apply QueuesHeld.foldl | simp only [queuesHeld_record] | split

theorem prefetchFail_queuesHeld (s : State) (vp : Nat) (c : Status) (h : QueuesHeld s) : QueuesHeld (prefetchFail s vp c) :=
  h.keeps (prefetchFail_keeps _ _ _ (by decide) (by decide) (by decide) (by decide) Keeps.same)

theorem srfBlockReset_queuesHeld (s : State) (h : QueuesHeld s) : QueuesHeld (srfBlockReset s) := by
  unfold srfBlockReset
  with_reducible repeat' first
    | assumption | apply resetRegs_queuesHeld | apply srfDone_queuesHeld | apply QueuesHeld.foldl
    | simp only [queuesHeld_record] | split | dsimp only | intro _

theorem setChan_queuesHeld (s : State) (c : Nat) (x : Chan) (h : QueuesHeld s) : QueuesHeld (setChan s c x) :=
  h.keeps (setChan_keeps _ _ _ (by decide) Keeps.same)

theorem dmaShow_queuesHeld (s : State) (c : Nat) (h : QueuesHeld s) : QueuesHeld (dmaShow s c) :=
  h.keeps (dmaShow_keeps _ _ (by decide) (by decide) Keeps.same)

theorem dmaFinish_queuesHeld (s : State) (c : Nat) (d : Desc) (code : Status) (fseg finfo : Nat) (h : QueuesHeld s) :
    QueuesHeld (dmaFinish s c d code fseg finfo) := by
  unfold dmaFinish
  with_reducible repeat' first
    | assumption | apply setF_queuesHeld | apply incSat_queuesHeld
    | apply QueuesHeld.keeps (k := incMod_keeps _ _ _ (by decide) Keeps.same) | apply complete40_queuesHeld | split
    | dsimp only

theorem dmaEnd_queuesHeld (s : State) (c : Nat) (d : Desc) (h : QueuesHeld s) : QueuesHeld (dmaEnd s c d) := by
  unfold dmaEnd
  with_reducible repeat' first
    | assumption | apply dmaFinish_queuesHeld | split

theorem dropShadow_queuesHeld (s : State) (c : Nat) (h : QueuesHeld s) : QueuesHeld (dropShadow s c) := by
  unfold dropShadow
  with_reducible repeat' first
    | assumption | apply giveUpRead_queuesHeld | apply setChan_queuesHeld | apply dmaEnd_queuesHeld | split | dsimp only

theorem endFailed_queuesHeld (s : State) (c : Nat) (h : QueuesHeld s) : QueuesHeld (endFailed s c) := by
  unfold endFailed
  with_reducible repeat' first
    | assumption | apply setChan_queuesHeld | apply dmaEnd_queuesHeld | split | dsimp only

theorem shadowAsk_queuesHeld (s : State) (c : Nat) (h : QueuesHeld s) : QueuesHeld (shadowAsk s c) :=
  h.keeps (shadowAsk_keeps _ _ (by decide) (by decide) (by decide) (by decide) (by decide) (by decide) (by decide)
    (by decide) Keeps.same)

theorem settleOnce_queuesHeld (s : State) (c : Nat) (h : QueuesHeld s) : QueuesHeld (settleOnce s c) := by
  unfold settleOnce
  with_reducible repeat' first
    | assumption
    | apply QueuesHeld.keeps (k := dmaPump_keeps _ _ (by decide) (by decide) (by decide) (by decide) (by decide)
          (by decide) (by decide) (by decide) (by decide) Keeps.same)
    | apply dropShadow_queuesHeld | apply QueuesHeld.keeps (k := swapIn_keeps _ _ (by decide) Keeps.same)
    | apply QueuesHeld.keeps (k := promote_keeps _ _ (by decide) Keeps.same) | apply endFailed_queuesHeld
    | apply shadowAsk_queuesHeld

theorem settle_queuesHeld (s : State) (c : Nat) (h : QueuesHeld s) : QueuesHeld (settle s c) := by
  unfold settle
  with_reducible repeat' first
    | assumption | apply kickAll_queuesHeld | apply dmaShow_queuesHeld | apply settleOnce_queuesHeld | split | dsimp only

theorem dmaHand_queuesHeld (s : State) (c : Nat) (it : Item) (h : QueuesHeld s) : QueuesHeld (dmaHand s c it) := by
  unfold dmaHand
  with_reducible repeat' first
    | assumption | apply setChan_queuesHeld | apply shadowAsk_queuesHeld | apply settle_queuesHeld

theorem dmaPreempt_queuesHeld (s : State) (c : Nat) (it : Item) (h : QueuesHeld s) : QueuesHeld (dmaPreempt s c it) := by
  unfold dmaPreempt
  with_reducible repeat' first
    | assumption | apply setChan_queuesHeld | apply shadowAsk_queuesHeld | apply settle_queuesHeld
    | apply QueuesHeld.keeps (k := dmaReturn_keeps _ _ (by decide) (by decide) (by decide) Keeps.same)

theorem segDone_queuesHeld (s : State) (c : Nat) (shadow dst : Bool) (res : RdRes) (h : QueuesHeld s) :
    QueuesHeld (segDone s c shadow dst res) := by
  unfold segDone
  with_reducible repeat' first
    | assumption | apply dropRead_queuesHeld
    | apply QueuesHeld.keeps (k := noteBad_keeps _ _ _ (by decide) (by decide) (by decide) (by decide) (by decide) Keeps.same)
    | apply setChan_queuesHeld | apply settle_queuesHeld | split | dsimp only

theorem segFail_queuesHeld (s : State) (c : Nat) (shadow dst : Bool) (k : Status) (h : QueuesHeld s) :
    QueuesHeld (segFail s c shadow dst k) := by
  unfold segFail
  with_reducible repeat' first
    | assumption | apply dropRead_queuesHeld | apply setChan_queuesHeld | apply settle_queuesHeld | split | dsimp only

theorem readDone_queuesHeld (s : State) (c : Nat) (res : RdRes) (h : QueuesHeld s) : QueuesHeld (readDone s c res) := by
  unfold readDone
  with_reducible repeat' first
    | assumption | apply dropRead_queuesHeld | apply setChan_queuesHeld
    | apply QueuesHeld.keeps (k := moveBlocks_keeps _ (by decide) (by decide) (by decide) (by decide) (by decide)
          (by decide) (by decide) (by decide) (by decide) _ _ _ _ Keeps.same)
    | apply settle_queuesHeld | refine QueuesHeld.of_snd (by assumption) ?_ | refine QueuesHeld.of_snd2 (by assumption) ?_
    | split | dsimp only

theorem readFail_queuesHeld (s : State) (c : Nat) (k : Status) (h : QueuesHeld s) : QueuesHeld (readFail s c k) := by
  unfold readFail
  with_reducible repeat' first
    | assumption | apply dropRead_queuesHeld | apply setChan_queuesHeld | apply settle_queuesHeld | split | dsimp only

theorem descComplete_queuesHeld (s : State) (c : Nat) (h : QueuesHeld s) : QueuesHeld (descComplete s c) := by
  unfold descComplete
  with_reducible repeat' first
    | assumption | apply setChan_queuesHeld | apply dmaEnd_queuesHeld | apply settle_queuesHeld | split | dsimp only

theorem chanLinkLoss_queuesHeld (s : State) (c : Nat) (h : QueuesHeld s) : QueuesHeld (chanLinkLoss s c) := by
  unfold chanLinkLoss
  with_reducible repeat' first
    | assumption | apply setChan_queuesHeld | apply settle_queuesHeld

theorem dmaLinkLoss_queuesHeld (s : State) (h : QueuesHeld s) : QueuesHeld (dmaLinkLoss s) := by
  unfold dmaLinkLoss
  with_reducible repeat' first
    | assumption | apply chanLinkLoss_queuesHeld | apply QueuesHeld.foldl | split | dsimp only | intro _

theorem dmaPumpAll_queuesHeld (s : State) (h : QueuesHeld s) : QueuesHeld (dmaPumpAll s) := by
  unfold dmaPumpAll
  with_reducible repeat' first
    | assumption | apply settle_queuesHeld | apply QueuesHeld.foldl | refine QueuesHeld.of_snd (by assumption) ?_
    | refine QueuesHeld.of_snd2 (by assumption) ?_ | split | dsimp only | intro _

theorem dmaBlockReset_queuesHeld (s : State) (h : QueuesHeld s) : QueuesHeld (dmaBlockReset s) := by
  unfold dmaBlockReset
  with_reducible repeat' first
    | assumption | apply resetRegs_queuesHeld
    | apply QueuesHeld.keeps (k := showTarget_keeps _ _ _ _ (by decide) (by decide) Keeps.same) | apply dmaFinish_queuesHeld
    | apply QueuesHeld.keeps (k := chanGiveUp_keeps _ _ (by decide) Keeps.same) | apply QueuesHeld.foldl
    | simp only [queuesHeld_record] | split | dsimp only | intro _

theorem refuseOpcode_queuesHeld (s : State) (i : Item) (h : QueuesHeld s) : QueuesHeld (refuseOpcode s i) :=
  complete40_queuesHeld _ _ _ _ _ h

theorem refuseTrailer_queuesHeld (s : State) (i : Item) (h : QueuesHeld s) : QueuesHeld (refuseTrailer s i) :=
  complete_queuesHeld _ _ _ _ _ h

theorem handTo_queuesHeld (s : State) (t : Nat) (i : Item) (h : QueuesHeld s) : QueuesHeld (handTo s t i) := by
  unfold handTo
  with_reducible repeat' first
    | assumption | apply setTrec_queuesHeld | apply showCore_queuesHeld | apply dmaHand_queuesHeld
    | apply QueuesHeld.keeps (k := dmaReturn_keeps _ _ (by decide) (by decide) (by decide) Keeps.same)
    | apply refuseOpcode_queuesHeld
    | apply QueuesHeld.keeps (k := slotNext_keeps _ _ (by decide) (by decide) (by decide) (by decide) Keeps.same)
    | apply refuseTrailer_queuesHeld | split | dsimp only

theorem dispatch_queuesHeld (s : State) (h : QueuesHeld s) : QueuesHeld (dispatch s) := by
  unfold dispatch
  with_reducible repeat' first
    | assumption | apply kickAll_queuesHeld | apply QueuesHeld.keeps (k := forgetLast_keeps _ _ (by decide) Keeps.same)
    | apply QueuesHeld.keeps (k := takeReady_keeps _ _ (by decide) Keeps.same) | apply handTo_queuesHeld
    | simp only [queuesHeld_record] | split

theorem preemptTarget_queuesHeld (s : State) (t : Nat) (i : Item) (h : QueuesHeld s) : QueuesHeld (preemptTarget s t i) := by
  unfold preemptTarget
  with_reducible repeat' first
    | assumption | apply QueuesHeld.keeps (k := incMod_keeps _ _ _ (by decide) Keeps.same) | apply setTrec_queuesHeld
    | apply showCore_queuesHeld | apply dmaPreempt_queuesHeld
    | apply QueuesHeld.keeps (k := writeSlot_keeps _ _ _ _ (by decide) (by decide) (by decide) Keeps.same)
    | apply refuseOpcode_queuesHeld | apply refuseTrailer_queuesHeld | split

theorem arrive_queuesHeld (s : State) (h : QueuesHeld s) : QueuesHeld (arrive s) := by
  unfold arrive
  with_reducible repeat' first
    | assumption | apply kickAll_queuesHeld | apply handTo_queuesHeld | apply preemptTarget_queuesHeld
    | simp only [queuesHeld_record] | split

theorem sorPreempt_queuesHeld (s : State) (later : Bool) (h : QueuesHeld s) : QueuesHeld (sorPreempt s later) := by
  unfold sorPreempt
  with_reducible repeat' first
    | assumption | apply arrive_queuesHeld | apply QueuesHeld.keeps (k := pickVictim_keeps _ (by decide) Keeps.same) | split

theorem slotDone_queuesHeld (s : State) (t : Nat) (urgent : Bool) (b : Bytes) (h : QueuesHeld s) :
    QueuesHeld (slotDone s t urgent b) := by
  unfold slotDone
  with_reducible repeat' first
    | assumption | apply dropRead_queuesHeld | apply completeItem_queuesHeld
    | apply QueuesHeld.keeps (k := slotRelease_keeps _ _ _ (by decide) (by decide) (by decide) (by decide) Keeps.same) | split
    | dsimp only

theorem slotFail_queuesHeld (s : State) (t : Nat) (urgent : Bool) (c : Status) (h : QueuesHeld s) :
    QueuesHeld (slotFail s t urgent c) := by
  unfold slotFail
  with_reducible repeat' first
    | assumption | apply dropRead_queuesHeld | apply complete_queuesHeld | apply setTrec_queuesHeld
    | apply showCore_queuesHeld | apply QueuesHeld.keeps (k := faultTarget_keeps _ _ _ (by decide) Keeps.same) | split
    | dsimp only

theorem sorLinkLoss_queuesHeld (s : State) (h : QueuesHeld s) : QueuesHeld (sorLinkLoss s) := by
  unfold sorLinkLoss
  with_reducible repeat' first
    | assumption | apply dropRead_queuesHeld | apply complete_queuesHeld | apply setTrec_queuesHeld
    | apply showCore_queuesHeld | apply QueuesHeld.keeps (k := faultTarget_keeps _ _ _ (by decide) Keeps.same)
    | apply QueuesHeld.foldl | split | dsimp only | intro _

theorem sorBlockReset_queuesHeld (s : State) (h : QueuesHeld s) : QueuesHeld (sorBlockReset s) := by
  unfold sorBlockReset
  with_reducible repeat' first
    | assumption | apply resetRegs_queuesHeld | apply giveUpRead_queuesHeld | apply queueError_queuesHeld
    | apply complete_queuesHeld | apply showCore_queuesHeld | apply dmaShow_queuesHeld | apply QueuesHeld.foldl_range
    | apply QueuesHeld.foldl | simp only [queuesHeld_record] | split | dsimp only | intro _

theorem selfRefEntry_queuesHeld (s : State) (c : Nat) (h : QueuesHeld s) : QueuesHeld (selfRefEntry s c) :=
  h.keeps (selfRefEntry_keeps _ _ (by decide) (by decide) Keeps.same)

theorem genRelease_queuesHeld (s : State) (g : Nat) (h : QueuesHeld s) : QueuesHeld (genRelease s g) :=
  h.keeps (genRelease_keeps _ _ (by decide) (by decide) Keeps.same)

theorem genFire_queuesHeld (s : State) (g : Nat) (h : QueuesHeld s) : QueuesHeld (genFire s g) :=
  h.keeps (genFire_keeps _ _ (by decide) (by decide) (by decide) (by decide) (by decide) (by decide) Keeps.same)

theorem syncPulse_queuesHeld (s : State) (g : Nat) (h : QueuesHeld s) : QueuesHeld (syncPulse s g) :=
  h.keeps (syncPulse_keeps _ _ (by decide) (by decide) (by decide) Keeps.same)

/-! ### The composer, frame timing and the tandem -/

theorem secDone_queuesHeld (s : State) (it : Item) (c : Status) (result rcode : Nat) (dead : Bool) (h : QueuesHeld s) :
    QueuesHeld (secDone s it c result rcode dead) :=
  complete40_queuesHeld _ _ _ _ _ h

theorem switchKeys_queuesHeld (s : State) (n : Nat) (h : QueuesHeld s) : QueuesHeld (switchKeys s n) := by
  unfold switchKeys
  with_reducible repeat' first
    | assumption | apply secDone_queuesHeld | apply QueuesHeld.keeps (k := promoteKeys_keeps _ (by decide) Keeps.same)
    | apply QueuesHeld.foldl | simp only [queuesHeld_record] | split | dsimp only | intro _

theorem cmpDone_queuesHeld (s : State) (it : Item) (c : Status) (badidx oframe : Nat) (dead : Bool) (h : QueuesHeld s) :
    QueuesHeld (cmpDone s it c badidx oframe dead) :=
  complete40_queuesHeld _ _ _ _ _ h

theorem installLoad_queuesHeld (s : State) (l : Load) (c : Status) (oframe : Nat) (h : QueuesHeld s) :
    QueuesHeld (installLoad s l c oframe) := by
  unfold installLoad
  with_reducible repeat' first
    | assumption | apply cmpDone_queuesHeld | apply QueuesHeld.keeps (k := useLoad_keeps _ _ (by decide) Keeps.same)

theorem acceptLoad_queuesHeld (s : State) (l : Load) (h : QueuesHeld s) : QueuesHeld (acceptLoad s l) := by
  unfold acceptLoad
  with_reducible repeat' first
    | assumption | apply cmpDone_queuesHeld | apply installLoad_queuesHeld | apply QueuesHeld.foldl
    | simp only [queuesHeld_record] | split | dsimp only | intro _

theorem cmpEntry_queuesHeld (s : State) (it : Item) (host : HostRes) (h : QueuesHeld s) : QueuesHeld (cmpEntry s it host) := by
  unfold cmpEntry
  with_reducible repeat' first
    | assumption | apply areaFetch_queuesHeld | apply cmpDone_queuesHeld | apply acceptLoad_queuesHeld
    | refine QueuesHeld.of_snd (by assumption) ?_ | refine QueuesHeld.of_snd2 (by assumption) ?_ | split | dsimp only

theorem installDue_queuesHeld (s : State) (n : Nat) (h : QueuesHeld s) : QueuesHeld (installDue s n) := by
  unfold installDue
  with_reducible repeat' first
    | assumption | apply installLoad_queuesHeld | apply QueuesHeld.foldl | simp only [queuesHeld_record] | split | dsimp only
    | intro _

theorem rasterStart_queuesHeld (s : State) (q : QFrame) (cn win : Nat) (h : QueuesHeld s) :
    QueuesHeld (rasterStart s q cn win) := by
  unfold rasterStart
  with_reducible repeat' first
    | assumption | apply setF_queuesHeld
    | apply QueuesHeld.keeps (k := yield_keeps _ _ _ _ _ _ (by decide) (by decide) (by decide) (by decide) Keeps.same)
    | apply QueuesHeld.keeps (k := engineStart_keeps _ _ _ (by decide) Keeps.same)
    | apply QueuesHeld.keeps (k := prefetchDue_keeps _ (by decide) (by decide) (by decide) (by decide) (by decide)
          (by decide) (by decide) Keeps.same)
    | apply switchKeys_queuesHeld | apply QueuesHeld.keeps (k := bindError_keeps _ _ _ (by decide) Keeps.same)
    | apply QueuesHeld.keeps (k := queueNeeds_keeps _ _ _ _ _ _ (by decide) (by decide) Keeps.same)
    | apply installDue_queuesHeld | apply QueuesHeld.keeps (k := applyStep_keeps _ (by decide) Keeps.same)
    | apply QueuesHeld.keeps (k := showNow_keeps _ _ _ (by decide) Keeps.same) | apply QueuesHeld.foldl
    | simp only [queuesHeld_record] | split | dsimp only | intro _

theorem cmpBlockReset_queuesHeld (s : State) (h : QueuesHeld s) : QueuesHeld (cmpBlockReset s) := by
  unfold cmpBlockReset
  with_reducible repeat' first
    | assumption | apply resetRegs_queuesHeld | apply engineStop_queuesHeld | apply cmpDone_queuesHeld
    | apply QueuesHeld.keeps (k := stopRaster_keeps _ (by decide) (by decide) (by decide) (by decide) (by decide)
          (by decide) (by decide) (by decide) (by decide) (by decide) Keeps.same)
    | apply QueuesHeld.foldl | simp only [queuesHeld_record] | split | dsimp only | intro _

theorem dropHold_queuesHeld (s : State) (h : QueuesHeld s) : QueuesHeld (dropHold s) :=
  h.keeps (dropHold_keeps _ (by decide) Keeps.same)

theorem installMode_queuesHeld (s : State) (m : Mode) (h : QueuesHeld s) : QueuesHeld (installMode s m) :=
  h.keeps (installMode_keeps _ _ (by decide) (by decide) (by decide) Keeps.same)

theorem frtDone_queuesHeld (s : State) (it : Item) (c : Status) (frame t : Nat) (dead : Bool) (h : QueuesHeld s) :
    QueuesHeld (frtDone s it c frame t dead) :=
  complete40_queuesHeld _ _ _ _ _ h

theorem applyArmed_queuesHeld (s : State) (last : Nat) (f0 : Option Nat) (oframe tlatch : Nat) (h : QueuesHeld s) :
    QueuesHeld (applyArmed s last f0 oframe tlatch) := by
  unfold applyArmed
  with_reducible repeat' first
    | assumption | apply setF_queuesHeld | apply frtDone_queuesHeld
    | apply QueuesHeld.keeps (k := applyValues_keeps _ _ _ _ (by decide) Keeps.same) | apply QueuesHeld.foldl
    | simp only [queuesHeld_record] | split | dsimp only | intro _

theorem latchNext_queuesHeld (s : State) (m : Mode) (needs : List (Nat × Nat)) (h : QueuesHeld s) :
    QueuesHeld (latchNext s m needs) := by
  unfold latchNext
  with_reducible repeat' first
    | assumption | apply setF_queuesHeld | apply QueuesHeld.keeps (k := engineQueue_keeps _ _ (by decide) Keeps.same)
    | apply QueuesHeld.keeps (k := prefetchDue_keeps _ (by decide) (by decide) (by decide) (by decide) (by decide)
          (by decide) (by decide) Keeps.same)
    | apply QueuesHeld.keeps (k := queueNeeds_keeps _ _ _ _ _ _ (by decide) (by decide) Keeps.same)
    | apply QueuesHeld.keeps (k := noteSizes_keeps _ _ (by decide) Keeps.same) | apply applyArmed_queuesHeld
    | simp only [queuesHeld_record] | split

theorem latchInstant_queuesHeld (s : State) (needs : List (Nat × Nat)) (h : QueuesHeld s) :
    QueuesHeld (latchInstant s needs) := by
  unfold latchInstant
  with_reducible repeat' first
    | assumption | apply latchNext_queuesHeld | split

theorem latchThrough_queuesHeld (m : Mode) (n y0 : Nat) (y1 : State) (h : QueuesHeld y1) :
    QueuesHeld (latchThrough m n y0 y1) := by
  induction y0 generalizing y1 m n with
  | zero => exact h
  | succ y0 ih =>
    unfold latchThrough
    with_reducible repeat' first
      | assumption | apply ih | apply latchNext_queuesHeld | split

theorem latchOverdue_queuesHeld (y0 : Nat) (y1 : State) (h : QueuesHeld y1) : QueuesHeld (latchOverdue y0 y1) := by
  induction y0 generalizing y1 with
  | zero => exact h
  | succ y0 ih =>
    unfold latchOverdue
    with_reducible repeat' first
      | assumption | apply ih | apply latchNext_queuesHeld | split

theorem commit_queuesHeld (s : State) (it : Option Item) (h : QueuesHeld s) : QueuesHeld (commit s it) := by
  unfold commit
  with_reducible repeat' first
    | assumption | apply setF_queuesHeld | apply frtDone_queuesHeld
    | apply QueuesHeld.keeps (k := applyValues_keeps _ _ _ _ (by decide) Keeps.same) | apply latchOverdue_queuesHeld
    | apply QueuesHeld.foldl | simp only [queuesHeld_record] | split

theorem modeAtCadence_queuesHeld (s : State) (n : Nat) (cn : Int) (h : QueuesHeld s) : QueuesHeld (modeAtCadence s n cn) := by
  unfold modeAtCadence
  with_reducible repeat' first
    | assumption | apply setF_queuesHeld
    | apply QueuesHeld.keeps (k := genProgram_keeps _ _ _ _ _ _ (by decide) (by decide) Keeps.same)
    | apply installMode_queuesHeld | apply frtDone_queuesHeld | simp only [queuesHeld_record] | split

theorem dropQueued_queuesHeld (s : State) (n : Nat) (h : QueuesHeld s) : QueuesHeld (dropQueued s n) := by
  unfold dropQueued
  with_reducible repeat' first
    | assumption | apply sweepPend_queuesHeld | apply forgetFrame_queuesHeld | apply QueuesHeld.foldl
    | simp only [queuesHeld_record] | split | dsimp only | intro _

theorem startRaster_queuesHeld (s : State) (m : Mode) (n : Nat) (cn : Int) (tr : Bool) (h : QueuesHeld s) :
    QueuesHeld (startRaster s m n cn tr) := by
  unfold startRaster
  with_reducible repeat' first
    | assumption | apply rasterStart_queuesHeld | apply dropQueued_queuesHeld | simp only [queuesHeld_record] | split

theorem senderCadence_queuesHeld (s : State) (slots : List Nat) (h : QueuesHeld s) : QueuesHeld (senderCadence s slots) := by
  unfold senderCadence
  with_reducible repeat' first
    | assumption | apply setF_queuesHeld | apply genFire_queuesHeld | apply syncPulse_queuesHeld
    | apply QueuesHeld.keeps (k := crcNote_keeps _ _ _ _ (by decide) Keeps.same) | apply latchThrough_queuesHeld
    | apply QueuesHeld.keeps (k := sendBeacon_keeps _ (by decide) (by decide) Keeps.same)
    | apply QueuesHeld.keeps (k := drainPorts_keeps _ _ (by decide) (by decide) Keeps.same)
    | apply QueuesHeld.keeps (k := closeFrame_keeps _ (by decide) (by decide) (by decide) (by decide) (by decide)
          (by decide) (by decide) (by decide) (by decide) (by decide) Keeps.same)
    | apply modeAtCadence_queuesHeld | apply QueuesHeld.keeps (k := frameStart_keeps _ (by decide) (by decide) Keeps.same)
    | apply startRaster_queuesHeld | split | dsimp only

theorem acceptMode_queuesHeld (s : State) (it : Item) (h : QueuesHeld s) : QueuesHeld (acceptMode s it) := by
  unfold acceptMode
  with_reducible repeat' first
    | assumption | apply setF_queuesHeld | apply installMode_queuesHeld | apply frtDone_queuesHeld
    | apply QueuesHeld.keeps (k := sendMode_keeps _ _ _ _ (by decide) (by decide) (by decide) Keeps.same)
    | apply QueuesHeld.keeps (k := armMove_keeps _ (by decide) (by decide) (by decide) (by decide) (by decide) Keeps.same)
    | simp only [queuesHeld_record] | split

theorem frtEntry_queuesHeld (s : State) (it : Item) (h : QueuesHeld s) : QueuesHeld (frtEntry s it) := by
  unfold frtEntry
  with_reducible repeat' first
    | assumption | apply frtDone_queuesHeld | apply commit_queuesHeld | apply acceptMode_queuesHeld | split

theorem frtDisable_queuesHeld (s : State) (h : QueuesHeld s) : QueuesHeld (frtDisable s) := by
  unfold frtDisable
  with_reducible repeat' first
    | assumption | apply setF_queuesHeld | apply QueuesHeld.keeps (k := flushPorts_keeps _ (by decide) (by decide) Keeps.same)
    | apply engineStop_queuesHeld | apply genRelease_queuesHeld | apply dropHold_queuesHeld | apply installMode_queuesHeld
    | apply frtDone_queuesHeld | apply applyArmed_queuesHeld | simp only [queuesHeld_record] | split

theorem frtBlockReset_queuesHeld (s : State) (h : QueuesHeld s) : QueuesHeld (frtBlockReset s) := by
  unfold frtBlockReset
  with_reducible repeat' first
    | assumption | apply resetRegs_queuesHeld
    | apply QueuesHeld.keeps (k := flushPorts_keeps _ (by decide) (by decide) Keeps.same) | apply engineStop_queuesHeld
    | apply genRelease_queuesHeld
    | apply QueuesHeld.keeps (k := stopRaster_keeps _ (by decide) (by decide) (by decide) (by decide) (by decide)
          (by decide) (by decide) (by decide) (by decide) (by decide) Keeps.same)
    | apply dropHold_queuesHeld | apply frtDone_queuesHeld | apply QueuesHeld.foldl | simp only [queuesHeld_record] | split
    | dsimp only | intro _

theorem takeBeacons_queuesHeld (s : State) (e : Nat) (f : State → RxCell → State)
    (hf : ∀ t x, QueuesHeld t → QueuesHeld (f t x)) (h : QueuesHeld s) : QueuesHeld (takeBeacons s e f) := by
  unfold takeBeacons
  exact QueuesHeld.foldl hf (queuesHeld_record.2 h)

theorem snapShow_queuesHeld (s : State) (h : QueuesHeld s) : QueuesHeld (snapShow s) :=
  h.keeps (snapShow_keeps _ (by decide) (by decide) Keeps.same)

theorem tanEvent_queuesHeld (s : State) (h : QueuesHeld s) : QueuesHeld (tanEvent s) :=
  h.keeps (tanEvent_keeps _ (by decide) (by decide) (by decide) (by decide) Keeps.same)

theorem snapDone_queuesHeld (s : State) (it : Item) (c : Status) (gen npart : Nat) (h : QueuesHeld s) :
    QueuesHeld (snapDone s it c gen npart) :=
  complete40_queuesHeld _ _ _ _ _ h

theorem snapsAbort_queuesHeld (s : State) (h : QueuesHeld s) : QueuesHeld (snapsAbort s) := by
  unfold snapsAbort
  with_reducible repeat' first
    | assumption | apply snapDone_queuesHeld | apply QueuesHeld.foldl | simp only [queuesHeld_record] | split | dsimp only
    | intro _

theorem setTan_queuesHeld (s : State) (st epoch : Nat) (h : QueuesHeld s) : QueuesHeld (setTan s st epoch) := by
  unfold setTan
  with_reducible repeat' first
    | assumption | apply setF_queuesHeld | apply tanEvent_queuesHeld | apply snapsAbort_queuesHeld | split | dsimp only

theorem takeover_queuesHeld (s : State) (h : QueuesHeld s) : QueuesHeld (takeover s) := by
  unfold takeover
  with_reducible repeat' first
    | assumption | apply incSat_queuesHeld | apply snapShow_queuesHeld | apply setTan_queuesHeld
    | simp only [queuesHeld_record]

theorem tanEnable_queuesHeld (s : State) (h : QueuesHeld s) : QueuesHeld (tanEnable s) := by
  unfold tanEnable
  with_reducible repeat' first
    | assumption | apply setF_queuesHeld
    | apply QueuesHeld.keeps (k := genTake_keeps _ _ _ _ _ _ (by decide) (by decide) Keeps.same) | apply setTan_queuesHeld
    | simp only [queuesHeld_record]

theorem tanDisable_queuesHeld (s : State) (h : QueuesHeld s) : QueuesHeld (tanDisable s) := by
  unfold tanDisable
  with_reducible repeat' first
    | assumption | apply setF_queuesHeld | apply genRelease_queuesHeld | apply dropHold_queuesHeld | apply setTan_queuesHeld

theorem peerBeacon_queuesHeld (s : State) (x : RxCell) (h : QueuesHeld s) : QueuesHeld (peerBeacon s x) := by
  unfold peerBeacon
  with_reducible repeat' first
    | assumption | apply setF_queuesHeld | apply tanEvent_queuesHeld | apply setTan_queuesHeld
    | apply QueuesHeld.keeps (k := hear_keeps _ _ (by decide) (by decide) Keeps.same) | split | dsimp only

theorem heartbeatWindow_queuesHeld (s : State) (e : Nat) (h : QueuesHeld s) : QueuesHeld (heartbeatWindow s e) := by
  unfold heartbeatWindow
  with_reducible repeat' first
    | assumption | apply setF_queuesHeld | apply takeover_queuesHeld | simp only [queuesHeld_record] | split

theorem snapSettle_queuesHeld (s : State) (h : QueuesHeld s) : QueuesHeld (snapSettle s) := by
  unfold snapSettle
  with_reducible repeat' first
    | assumption | apply snapDone_queuesHeld | apply QueuesHeld.foldl | simp only [queuesHeld_record] | split | dsimp only
    | intro _

theorem heartbeat_queuesHeld (s : State) (h : QueuesHeld s) : QueuesHeld (heartbeat s) := by
  unfold heartbeat
  with_reducible repeat' first
    | assumption | apply genFire_queuesHeld | apply syncPulse_queuesHeld
    | apply QueuesHeld.keeps (k := sendBeacon_keeps _ (by decide) (by decide) Keeps.same) | apply takeBeacons_queuesHeld
    | apply peerBeacon_queuesHeld | apply heartbeatWindow_queuesHeld | apply snapSettle_queuesHeld
    | simp only [queuesHeld_record] | split

theorem revertExpiry_queuesHeld (s : State) (h : QueuesHeld s) : QueuesHeld (revertExpiry s) := by
  unfold revertExpiry
  with_reducible repeat' first
    | assumption | apply takeover_queuesHeld | split

theorem renum_queuesHeld (s : State) (x : Nat) (h : QueuesHeld s) : QueuesHeld (renum s x) :=
  setTan_queuesHeld _ _ _ h

theorem snapEntry_queuesHeld (s : State) (it : Item) (host : HostRes) (h : QueuesHeld s) : QueuesHeld (snapEntry s it host) := by
  unfold snapEntry
  with_reducible repeat' first
    | assumption | apply setF_queuesHeld | apply QueuesHeld.keeps (k := newLid_keeps _ (by decide) Keeps.same)
    | apply areaFetch_queuesHeld
    | apply QueuesHeld.keeps (k := sendLetter_keeps _ _ _ _ _ _ _ _ (by decide) (by decide) (by decide) Keeps.same)
    | apply snapShow_queuesHeld | apply snapDone_queuesHeld | apply snapSettle_queuesHeld | apply QueuesHeld.foldl
    | simp only [queuesHeld_record] | refine QueuesHeld.of_snd (by assumption) ?_
    | refine QueuesHeld.of_snd2 (by assumption) ?_ | split | dsimp only | intro _

theorem snapFail_queuesHeld (s : State) (gen : Nat) (c : Status) (h : QueuesHeld s) : QueuesHeld (snapFail s gen c) :=
  h.keeps (snapFail_keeps _ _ _ (by decide) (by decide) (by decide) (by decide) (by decide) Keeps.same)

theorem tryCommit_queuesHeld (s : State) (host : HostRes) (h : QueuesHeld s) : QueuesHeld (tryCommit s host) := by
  unfold tryCommit
  with_reducible repeat' first
    | assumption | apply setF_queuesHeld | apply raise_queuesHeld
    | apply QueuesHeld.keeps (k := svcFetch_keeps _ _ _ _ _ (by decide) (by decide) (by decide) (by decide)
          (by decide) (by decide) (by decide) Keeps.same)
    | apply commit_queuesHeld | apply snapShow_queuesHeld | apply snapFail_queuesHeld | simp only [queuesHeld_record]
    | refine QueuesHeld.of_snd (by assumption) ?_ | refine QueuesHeld.of_snd2 (by assumption) ?_ | split

theorem takePart_queuesHeld (s : State) (c : Bytes) (host : HostRes) (h : QueuesHeld s) : QueuesHeld (takePart s c host) := by
  unfold takePart
  with_reducible repeat' first
    | assumption | apply snapFail_queuesHeld | apply tryCommit_queuesHeld
    | apply QueuesHeld.keeps (k := storePart_keeps _ _ _ _ _ (by decide) (by decide) (by decide) (by decide)
          (by decide) (by decide) (by decide) (by decide) (by decide) Keeps.same)
    | split | dsimp only

theorem snapPart_queuesHeld (s : State) (l : Letter) (host : HostRes) (h : QueuesHeld s) : QueuesHeld (snapPart s l host) := by
  unfold snapPart
  with_reducible repeat' first
    | assumption | apply QueuesHeld.keeps (k := snapSeen_keeps _ _ (by decide) (by decide) Keeps.same)
    | apply takePart_queuesHeld | split | dsimp only

theorem snapCommit_queuesHeld (s : State) (l : Letter) (host : HostRes) (h : QueuesHeld s) :
    QueuesHeld (snapCommit s l host) := by
  unfold snapCommit
  with_reducible repeat' first
    | assumption | apply commit_queuesHeld | apply snapShow_queuesHeld
    | apply QueuesHeld.keeps (k := snapSeen_keeps _ _ (by decide) (by decide) Keeps.same) | apply tryCommit_queuesHeld
    | simp only [queuesHeld_record] | split

theorem snapTimeout_queuesHeld (s : State) (h : QueuesHeld s) : QueuesHeld (snapTimeout s) := by
  unfold snapTimeout
  with_reducible repeat' first
    | assumption | apply commit_queuesHeld | apply snapFail_queuesHeld | split

theorem tanBlockReset_queuesHeld (s : State) (h : QueuesHeld s) : QueuesHeld (tanBlockReset s) := by
  unfold tanBlockReset
  with_reducible repeat' first
    | assumption | apply resetRegs_queuesHeld | apply genRelease_queuesHeld
    | apply QueuesHeld.keeps (k := tanRechoose_keeps _ (by decide) (by decide) (by decide) (by decide) (by decide) Keeps.same)
    | apply tanEvent_queuesHeld | apply snapsAbort_queuesHeld | simp only [queuesHeld_record] | split

/-! ### Letters and keys -/

theorem sendDone_queuesHeld (s : State) (it : Item) (c : Status) (rcode lid replies : Nat) (h : QueuesHeld s) :
    QueuesHeld (sendDone s it c rcode lid replies) :=
  complete40_queuesHeld _ _ _ _ _ h

theorem sendEntry_queuesHeld (s : State) (it : Item) (host : HostRes) (h : QueuesHeld s) : QueuesHeld (sendEntry s it host) := by
  unfold sendEntry
  with_reducible repeat' first
    | assumption | apply QueuesHeld.keeps (k := newLid_keeps _ (by decide) Keeps.same) | apply areaFetch_queuesHeld
    | apply QueuesHeld.keeps (k := sendLetter_keeps _ _ _ _ _ _ _ _ (by decide) (by decide) (by decide) Keeps.same)
    | apply sendDone_queuesHeld | simp only [queuesHeld_record] | refine QueuesHeld.of_snd (by assumption) ?_
    | refine QueuesHeld.of_snd2 (by assumption) ?_ | split

theorem sendReply_queuesHeld (s : State) (x : Send) (l : Letter) (code : Nat) (h : QueuesHeld s) :
    QueuesHeld (sendReply s x l code) := by
  unfold sendReply
  with_reducible repeat' first
    | assumption | apply svcWrite_queuesHeld | apply sendDone_queuesHeld | simp only [queuesHeld_record] | split

theorem sendReplyStep_queuesHeld (s : State) (h : QueuesHeld s) : QueuesHeld (sendReplyStep s) := by
  unfold sendReplyStep
  with_reducible repeat' first
    | assumption | refine takeLetter_queuesHeld (by assumption) ?_ | refine openReply_queuesHeld (by assumption) ?_
    | apply sendReply_queuesHeld | split

theorem sendTimeout_queuesHeld (s : State) (h : QueuesHeld s) : QueuesHeld (sendTimeout s) := by
  unfold sendTimeout
  with_reducible repeat' first
    | assumption | apply sendDone_queuesHeld | simp only [queuesHeld_record] | split

theorem chnBlockReset_queuesHeld (s : State) (h : QueuesHeld s) : QueuesHeld (chnBlockReset s) := by
  unfold chnBlockReset
  with_reducible repeat' first
    | assumption | apply resetRegs_queuesHeld
    | apply QueuesHeld.keeps (k := stopForward_keeps _ (by decide) (by decide) Keeps.same) | apply sendDone_queuesHeld
    | apply QueuesHeld.foldl | simp only [queuesHeld_record] | split | dsimp only | intro _

theorem measExtend_queuesHeld (s : State) (i : Nat) (d : Bytes) (h : QueuesHeld s) : QueuesHeld (measExtend s i d) :=
  h.keeps (measExtend_keeps _ _ _ (by decide) Keeps.same)

theorem engineAdd_queuesHeld (s : State) (o : EngOp) (h : QueuesHeld s) : QueuesHeld (engineAdd s o) :=
  h.keeps (engineAdd_keeps _ _ (by decide) (by decide) Keeps.same)

theorem quoteEntryDone_queuesHeld (s : State) (it : Item) (nonce : Bytes) (h : QueuesHeld s) :
    QueuesHeld (quoteEntryDone s it nonce) := by
  unfold quoteEntryDone
  with_reducible repeat' first
    | assumption | apply svcWrite_queuesHeld | apply secDone_queuesHeld
    | apply QueuesHeld.keeps (k := quoteRecord_keeps _ _ _ (by decide) Keeps.same)
    | refine QueuesHeld.of_snd (by assumption) ?_ | refine QueuesHeld.of_snd2 (by assumption) ?_ | split | dsimp only

theorem keyset_queuesHeld (s : State) (it : Item) (h : QueuesHeld s) : QueuesHeld (keyset s it) := by
  unfold keyset
  with_reducible repeat' first
    | assumption | apply setF_queuesHeld | apply drawBytes_queuesHeld | apply secDone_queuesHeld
    | apply QueuesHeld.keeps (k := flashPush_keeps _ _ (by decide) (by decide) (by decide) (by decide) Keeps.same)
    | simp only [queuesHeld_record] | refine QueuesHeld.of_snd (by assumption) ?_
    | refine QueuesHeld.of_snd2 (by assumption) ?_ | split

theorem enrolEnd_queuesHeld (s : State) (x : Enrol) (c : Status) (result rcode : Nat) (h : QueuesHeld s) :
    QueuesHeld (enrolEnd s x c result rcode) := by
  unfold enrolEnd
  with_reducible repeat' first
    | assumption | apply secDone_queuesHeld | simp only [queuesHeld_record]

theorem enrolStart_queuesHeld (s : State) (it : Item) (h : QueuesHeld s) : QueuesHeld (enrolStart s it) := by
  unfold enrolStart
  with_reducible repeat' first
    | assumption | apply secDone_queuesHeld
    | apply QueuesHeld.keeps (k := enrolSend_keeps _ _ _ _ _ (by decide) (by decide) (by decide) Keeps.same)
    | simp only [queuesHeld_record] | split

theorem enrolReply_queuesHeld (s : State) (x : Enrol) (c : Bytes) (h : QueuesHeld s) : QueuesHeld (enrolReply s x c) := by
  unfold enrolReply
  with_reducible repeat' first
    | assumption | apply engineAdd_queuesHeld | apply enrolEnd_queuesHeld
    | apply QueuesHeld.keeps (k := enrolSet_keeps _ _ (by decide) Keeps.same)
    | apply QueuesHeld.keeps (k := enrolInstall_keeps _ _ (by decide) Keeps.same) | split | dsimp only

theorem enrolReplyStep_queuesHeld (s : State) (h : QueuesHeld s) : QueuesHeld (enrolReplyStep s) := by
  unfold enrolReplyStep
  with_reducible repeat' first
    | assumption | refine takeLetter_queuesHeld (by assumption) ?_ | apply enrolReply_queuesHeld | split | dsimp only

theorem enrolTimeout_queuesHeld (s : State) (h : QueuesHeld s) : QueuesHeld (enrolTimeout s) := by
  unfold enrolTimeout
  with_reducible repeat' first
    | assumption | apply enrolEnd_queuesHeld | split

theorem enrolStep_queuesHeld (s : State) (x : Enrol) (h : QueuesHeld s) : QueuesHeld (enrolStep s x) := by
  unfold enrolStep
  with_reducible repeat' first
    | assumption | apply drawBytes_queuesHeld | apply QueuesHeld.keeps (k := setKeyRec_keeps _ _ _ (by decide) Keeps.same)
    | apply engineAdd_queuesHeld | apply enrolEnd_queuesHeld
    | apply QueuesHeld.keeps (k := enrolSet_keeps _ _ (by decide) Keeps.same)
    | apply QueuesHeld.keeps (k := enrolSend_keeps _ _ _ _ _ (by decide) (by decide) (by decide) Keeps.same)
    | refine QueuesHeld.of_snd (by assumption) ?_ | refine QueuesHeld.of_snd2 (by assumption) ?_ | split

theorem switchEntry_queuesHeld (s : State) (it : Item) (h : QueuesHeld s) : QueuesHeld (switchEntry s it) := by
  unfold switchEntry
  with_reducible repeat' first
    | assumption | apply secDone_queuesHeld | simp only [queuesHeld_record] | split

theorem quoteEntry_queuesHeld (s : State) (it : Item) (host : HostRes) (h : QueuesHeld s) :
    QueuesHeld (quoteEntry s it host) := by
  unfold quoteEntry
  with_reducible repeat' first
    | assumption | apply incSat_queuesHeld | apply areaFetch_queuesHeld | apply secDone_queuesHeld
    | apply engineAdd_queuesHeld | refine QueuesHeld.of_snd (by assumption) ?_ | refine QueuesHeld.of_snd2 (by assumption) ?_
    | split | dsimp only

theorem extendEntry_queuesHeld (s : State) (it : Item) (host : HostRes) (h : QueuesHeld s) :
    QueuesHeld (extendEntry s it host) := by
  unfold extendEntry
  with_reducible repeat' first
    | assumption | apply areaFetch_queuesHeld | apply secDone_queuesHeld | apply measExtend_queuesHeld
    | refine QueuesHeld.of_snd (by assumption) ?_ | refine QueuesHeld.of_snd2 (by assumption) ?_ | split | dsimp only

theorem lifeEntry_queuesHeld (s : State) (it : Item) (host : HostRes) (h : QueuesHeld s) : QueuesHeld (lifeEntry s it host) := by
  unfold lifeEntry
  with_reducible repeat' first
    | assumption | apply areaFetch_queuesHeld | apply secDone_queuesHeld
    | apply QueuesHeld.keeps (k := tokenTake_keeps _ _ (by decide) (by decide) (by decide) (by decide) Keeps.same)
    | refine QueuesHeld.of_snd (by assumption) ?_ | refine QueuesHeld.of_snd2 (by assumption) ?_ | split | dsimp only

theorem engineFinish_queuesHeld (s : State) (o : EngOp) (h : QueuesHeld s) : QueuesHeld (engineFinish s o) := by
  unfold engineFinish
  with_reducible repeat' first
    | assumption | apply QueuesHeld.keeps (k := unwrapDone_keeps _ _ (by decide) (by decide) Keeps.same)
    | apply QueuesHeld.keeps (k := quoteLetterDone_keeps _ _ _ (by decide) (by decide) (by decide) Keeps.same)
    | apply quoteEntryDone_queuesHeld | apply enrolStep_queuesHeld | apply quoteEntry_queuesHeld
    | apply QueuesHeld.keeps (k := receiptDone_keeps _ _ (by decide) (by decide) (by decide) Keeps.same) | split

theorem engineDone_queuesHeld (s : State) (h : QueuesHeld s) : QueuesHeld (engineDone s) := by
  unfold engineDone
  with_reducible repeat' first
    | assumption | apply QueuesHeld.keeps (k := engineRun_keeps (by decide) (by decide) _ _ Keeps.same)
    | apply engineFinish_queuesHeld | simp only [queuesHeld_record] | split

/-! ### Lamps, power and temperature -/

theorem dimStep_queuesHeld (s : State) (n : Nat) (h : QueuesHeld s) : QueuesHeld (dimStep s n).2 := by
  unfold dimStep
  with_reducible repeat' first
    | assumption | apply setF_queuesHeld | apply settle_queuesHeld | simp only [queuesHeld_record]
    | refine QueuesHeld.of_snd (by assumption) ?_ | refine QueuesHeld.of_snd2 (by assumption) ?_ | split

theorem curvesDue_queuesHeld (s : State) (n : Nat) (h : QueuesHeld s) : QueuesHeld (curvesDue s n) := by
  unfold curvesDue
  with_reducible repeat' first
    | assumption | apply cmpDone_queuesHeld | apply QueuesHeld.foldl | simp only [queuesHeld_record] | split | dsimp only
    | intro _

theorem sampleAll_queuesHeld (s : State) (n : Nat) (h : QueuesHeld s) : QueuesHeld (sampleAll s n).2 := by
  unfold sampleAll
  with_reducible repeat' first
    | assumption | apply setF_queuesHeld | apply dimStep_queuesHeld | apply curvesDue_queuesHeld | apply QueuesHeld.foldl
    | refine QueuesHeld.of_snd (by assumption) ?_ | refine QueuesHeld.of_snd2 (by assumption) ?_ | split | dsimp only
    | intro _

theorem showDone_queuesHeld (s : State) (h : QueuesHeld s) : QueuesHeld (showDone s) := by
  unfold showDone
  with_reducible repeat' first
    | assumption | apply retireFrame_queuesHeld | simp only [queuesHeld_record] | split

theorem showsEnd_queuesHeld (s : State) (h : QueuesHeld s) : QueuesHeld (showsEnd s) := by
  unfold showsEnd
  with_reducible repeat' first
    | assumption | apply showDone_queuesHeld | apply QueuesHeld.foldl | split | dsimp only | intro _

theorem dropShows_queuesHeld (y0 : Nat) (y1 : State) (h : QueuesHeld y1) : QueuesHeld (dropShows y0 y1) := by
  induction y0 generalizing y1 with
  | zero => exact h
  | succ y0 ih =>
    unfold dropShows
    with_reducible repeat' first
      | assumption | apply ih | apply showDone_queuesHeld | split

theorem cutShows_queuesHeld (s : State) (e : Nat) (de : Int) (h : QueuesHeld s) : QueuesHeld (cutShows s e de) := by
  unfold cutShows
  split
  next hs t ht =>
    refine dropShows_queuesHeld _ _ (queuesHeld_record.2 (QueuesHeld.of_snd ht (QueuesHeld.foldl_snd (fun acc x hacc => ?_) h)))
    split
    · exact hacc
    · split
      next x' u hu => exact QueuesHeld.of_snd hu (hacc.keeps (cutShow_keeps _ _ _ (by decide) Keeps.same))

theorem placeShow_queuesHeld (s : State) (n : Nat) (m : Mode) (st : Anchor) (samp : Samp) (h : QueuesHeld s) :
    QueuesHeld (placeShow s n m st samp) := by
  unfold placeShow
  with_reducible repeat' first
    | assumption | apply QueuesHeld.keeps (k := engineStart_keeps _ _ _ (by decide) Keeps.same)
    | apply QueuesHeld.keeps (k := cutShow_keeps _ _ _ (by decide) Keeps.same) | apply dropShows_queuesHeld
    | simp only [queuesHeld_record] | refine QueuesHeld.of_snd (by assumption) ?_
    | refine QueuesHeld.of_snd2 (by assumption) ?_ | split

theorem commitRun_queuesHeld (s : State) (n : Nat) (m : Mode) (st : Anchor) (a : Int) (h : QueuesHeld s) :
    QueuesHeld (commitRun s n m st a) := by
  unfold commitRun
  with_reducible repeat' first
    | assumption | apply QueuesHeld.keeps (k := receiptFrame_keeps _ _ _ _ _ _ _ (by decide) (by decide) Keeps.same)
    | apply sampleAll_queuesHeld | apply placeShow_queuesHeld
    | apply QueuesHeld.keeps (k := afterCommit_keeps _ _ _ (by decide) (by decide) Keeps.same)
    | apply QueuesHeld.keeps (k := commitOutcome_keeps _ _ _ _ (by decide) (by decide) (by decide) (by decide)
          (by decide) Keeps.same)

theorem commitInstant_queuesHeld (s : State) (h : QueuesHeld s) : QueuesHeld (commitInstant s) := by
  unfold commitInstant
  with_reducible repeat' first
    | assumption | apply QueuesHeld.keeps (k := recheckMode_keeps _ (by decide) (by decide) Keeps.same)
    | apply commitRun_queuesHeld | split | dsimp only

theorem changeMode_queuesHeld (s : State) (m : Mode) (e : Nat) (late : Bool) (h : QueuesHeld s) :
    QueuesHeld (changeMode s m e late) := by
  unfold changeMode
  with_reducible repeat' first
    | assumption | apply QueuesHeld.keeps (k := genProgram_keeps _ _ _ _ _ _ (by decide) (by decide) Keeps.same)
    | apply cutShows_queuesHeld
    | apply QueuesHeld.keeps (k := showMode_keeps _ _ _ (by decide) (by decide) (by decide) (by decide) (by decide)
          (by decide) Keeps.same)
    | simp only [queuesHeld_record] | refine QueuesHeld.of_snd (by assumption) ?_
    | refine QueuesHeld.of_snd2 (by assumption) ?_ | split

theorem lateMode_queuesHeld (s : State) (h : QueuesHeld s) : QueuesHeld (lateMode s) := by
  unfold lateMode
  with_reducible repeat' first
    | assumption | apply changeMode_queuesHeld | split | dsimp only

theorem tileCadence_queuesHeld (s : State) (h : QueuesHeld s) : QueuesHeld (tileCadence s) := by
  unfold tileCadence
  with_reducible repeat' first
    | assumption | apply genFire_queuesHeld
    | apply QueuesHeld.keeps (k := tanChooseFrame_keeps _ _ _ (by decide) (by decide) (by decide) (by decide)
          (by decide) Keeps.same)
    | apply changeMode_queuesHeld | apply lateMode_queuesHeld | simp only [queuesHeld_record] | split

theorem selfShow_queuesHeld (s : State) (n : Nat) (disp : Int) (h : QueuesHeld s) : QueuesHeld (selfShow s n disp) := by
  unfold selfShow
  with_reducible repeat' first
    | assumption | apply sampleAll_queuesHeld | simp only [queuesHeld_record]

theorem slotLatch_queuesHeld (s : State) (late : Bool) (h : QueuesHeld s) : QueuesHeld (slotLatch s late) := by
  unfold slotLatch
  with_reducible repeat' first
    | assumption | apply incSat_queuesHeld
    | apply QueuesHeld.keeps (k := yield_keeps _ _ _ _ _ _ (by decide) (by decide) (by decide) (by decide) Keeps.same)
    | apply showDone_queuesHeld | apply selfShow_queuesHeld
    | apply QueuesHeld.keeps (k := lampRise_keeps _ (by decide) Keeps.same) | simp only [queuesHeld_record] | split

theorem lmpDisable_queuesHeld (s : State) (h : QueuesHeld s) : QueuesHeld (lmpDisable s) := by
  unfold lmpDisable
  with_reducible repeat' first
    | assumption | apply setF_queuesHeld | apply lampDrop_queuesHeld | apply engineStop_queuesHeld

theorem svcHold_queuesHeld (s : State) (h : QueuesHeld s) : QueuesHeld (svcHold s) := by
  unfold svcHold
  with_reducible repeat' first
    | assumption | apply setF_queuesHeld | apply selfShow_queuesHeld | simp only [queuesHeld_record] | split

theorem lmpBlockReset_queuesHeld (s : State) (h : QueuesHeld s) : QueuesHeld (lmpBlockReset s) := by
  unfold lmpBlockReset
  with_reducible repeat' first
    | assumption | apply resetRegs_queuesHeld | apply raise_queuesHeld | apply engineStop_queuesHeld
    | apply genRelease_queuesHeld | apply cmpDone_queuesHeld | apply showsEnd_queuesHeld
    | apply QueuesHeld.keeps (k := spokesDark_keeps _ (by decide) (by decide) (by decide) Keeps.same) | apply QueuesHeld.foldl
    | simp only [queuesHeld_record] | split | dsimp only | intro _

theorem lmpCurve_queuesHeld (s : State) (it : Item) (host : HostRes) (h : QueuesHeld s) : QueuesHeld (lmpCurve s it host) := by
  unfold lmpCurve
  with_reducible repeat' first
    | assumption | apply areaFetch_queuesHeld | apply cmpDone_queuesHeld | apply QueuesHeld.foldl
    | simp only [queuesHeld_record] | refine QueuesHeld.of_snd (by assumption) ?_
    | refine QueuesHeld.of_snd2 (by assumption) ?_ | split | dsimp only | intro _

theorem powerShow_queuesHeld (s : State) (h : QueuesHeld s) : QueuesHeld (powerShow s) :=
  h.keeps (powerShow_keeps _ (by decide) Keeps.same)

theorem displayOff_queuesHeld (s : State) (h : QueuesHeld s) : QueuesHeld (displayOff s) := by
  unfold displayOff
  with_reducible repeat' first
    | assumption | apply engineStop_queuesHeld | apply showsEnd_queuesHeld
    | apply QueuesHeld.keeps (k := spokesDark_keeps _ (by decide) (by decide) (by decide) Keeps.same)
    | simp only [queuesHeld_record]

theorem powerEffect_queuesHeld (s : State) (a b : Nat) (h : QueuesHeld s) : QueuesHeld (powerEffect s a b) := by
  unfold powerEffect
  with_reducible repeat' first
    | assumption | apply QueuesHeld.keeps (k := leaveSelfRef_keeps _ _ (by decide) (by decide) Keeps.same)
    | apply selfRefEntry_queuesHeld | apply QueuesHeld.keeps (k := setStage_keeps _ _ _ (by decide) (by decide) Keeps.same)
    | apply QueuesHeld.keeps (k := portDown_keeps _ _ _ (by decide) (by decide) (by decide) (by decide) (by decide)
          (by decide) (by decide) Keeps.same)
    | apply QueuesHeld.keeps (k := lctlReset_keeps _ _ (by decide) (by decide) Keeps.same)
    | apply QueuesHeld.keeps (k := toDetect_keeps _ _ (by decide) (by decide) (by decide) Keeps.same)
    | apply QueuesHeld.keeps (k := intervalClose_keeps _ (by decide) (by decide) Keeps.same)
    | apply QueuesHeld.keeps (k := spkEnable_keeps _ (by decide) (by decide) (by decide) Keeps.same)
    | apply displayOff_queuesHeld | apply QueuesHeld.foldl | simp only [queuesHeld_record] | split | dsimp only | intro _

theorem powerMove_queuesHeld (s : State) (h : QueuesHeld s) : QueuesHeld (powerMove s) := by
  unfold powerMove
  with_reducible repeat' first
    | assumption | apply setF_queuesHeld | apply raise_queuesHeld | apply lampDrop_queuesHeld | apply powerShow_queuesHeld
    | apply powerEffect_queuesHeld | split | dsimp only

theorem thmForce_queuesHeld (s : State) (h : QueuesHeld s) : QueuesHeld (thmForce s) := by
  unfold thmForce
  with_reducible repeat' first
    | assumption | apply setF_queuesHeld | apply powerShow_queuesHeld | apply powerMove_queuesHeld
    | simp only [queuesHeld_record] | split

theorem thmEval_queuesHeld (s : State) (fails : Nat) (h : QueuesHeld s) : QueuesHeld (thmEval s fails) := by
  unfold thmEval
  with_reducible repeat' first
    | assumption | apply setF_queuesHeld
    | apply QueuesHeld.keeps (k := thmJunction_keeps _ (by decide) (by decide) (by decide) Keeps.same)
    | apply QueuesHeld.keeps (k := thmBandShow_keeps _ (by decide) (by decide) (by decide) (by decide) (by decide)
          (by decide) Keeps.same)
    | apply thmForce_queuesHeld | apply QueuesHeld.keeps (k := thmStepShow_keeps _ (by decide) Keeps.same)
    | apply QueuesHeld.keeps (k := thmCopies_keeps _ (by decide) Keeps.same)
    | apply QueuesHeld.keeps (k := stepDowns_keeps (by decide) (by decide) (by decide) (by decide) (by decide) _ _ Keeps.same)
    | simp only [queuesHeld_record]

theorem sensorSample_queuesHeld (s : State) (od : List Int) (td : List (Int × Nat)) (h : QueuesHeld s) :
    QueuesHeld (sensorSample s od td) := by
  unfold sensorSample
  refine ite_queuesHeld (fun _ => h) fun _ => thmEval_queuesHeld _ _ (QueuesHeld.foldl_snd (fun acc z hacc => ?td)
    (QueuesHeld.foldl_snd (fun acc k hacc => ?od) (queuesHeld_record.2 h)))
  case td =>
    split
    · exact hacc.keeps (sampleTd_keeps _ _ _ _ (by decide) (by decide) (by decide) (by decide) (by decide) Keeps.same)
    · exact hacc
  case od =>
    split
    · exact hacc.keeps (sampleOd_keeps _ _ _ (by decide) (by decide) (by decide) (by decide) (by decide) Keeps.same)
    · exact hacc

theorem shutStart_queuesHeld (s : State) (cause : Nat) (h : QueuesHeld s) : QueuesHeld (shutStart s cause) := by
  unfold shutStart
  with_reducible repeat' first
    | assumption | apply raise_queuesHeld | apply displayOff_queuesHeld | simp only [queuesHeld_record] | split

theorem t5Step_queuesHeld (s : State) (h : QueuesHeld s) : QueuesHeld (t5Step s) := by
  unfold t5Step
  with_reducible repeat' first
    | assumption | apply shutStart_queuesHeld | split

theorem powerRequest_queuesHeld (s : State) (h : QueuesHeld s) : QueuesHeld (powerRequest s) := by
  unfold powerRequest
  with_reducible repeat' first
    | assumption | apply powerShow_queuesHeld | apply shutStart_queuesHeld | split

theorem warmRequest_queuesHeld (s : State) (cause : Fld) (h : QueuesHeld s) : QueuesHeld (warmRequest s cause) := by
  unfold warmRequest
  with_reducible repeat' first
    | assumption | apply setF_queuesHeld | apply displayOff_queuesHeld | simp only [queuesHeld_record] | split

theorem parcelReply_queuesHeld (s : State) (l : Letter) (c : Status) (query : Option Nat) (h : QueuesHeld s) :
    QueuesHeld (parcelReply s l c query) :=
  h.keeps (parcelReply_keeps _ _ _ _ (by decide) (by decide) Keeps.same)

/-! ### Updates -/

theorem updDone_queuesHeld (s : State) (it : Item) (c : Status) (result rcode : Nat) (dead : Bool) (h : QueuesHeld s) :
    QueuesHeld (updDone s it c result rcode dead) := by
  unfold updDone
  with_reducible repeat' first
    | assumption | apply complete40_queuesHeld | apply QueuesHeld.keeps (k := lastCode_keeps _ _ (by decide) Keeps.same)
    | split

theorem stageApply_queuesHeld (s : State) (it : Item) (b : Bytes) (h : QueuesHeld s) : QueuesHeld (stageApply s it b) := by
  unfold stageApply
  with_reducible repeat' first
    | assumption | apply updDone_queuesHeld
    | apply QueuesHeld.keeps (k := parcelWrite_keeps _ _ _ _ (by decide) (by decide) (by decide) (by decide) Keeps.same)
    | apply QueuesHeld.keeps (k := stageWalk_keeps (by decide) (by decide) (by decide) (by decide) (by decide)
          (by decide) (by decide) _ _ _ _ _ Keeps.same)
    | apply QueuesHeld.foldl | refine QueuesHeld.of_snd (by assumption) ?_ | refine QueuesHeld.of_snd2 (by assumption) ?_
    | split | dsimp only | intro _

theorem armDone_queuesHeld (s : State) (a : Arm) (c : Status) (h : QueuesHeld s) : QueuesHeld (armDone s a c) := by
  unfold armDone
  with_reducible repeat' first
    | assumption | apply updDone_queuesHeld | split

theorem disarm_queuesHeld (s : State) (c : Status) (h : QueuesHeld s) : QueuesHeld (disarm s c) := by
  unfold disarm
  with_reducible repeat' first
    | assumption | apply setF_queuesHeld | apply armDone_queuesHeld | simp only [queuesHeld_record] | split

theorem activate_queuesHeld (s : State) (h : QueuesHeld s) : QueuesHeld (activate s) := by
  unfold activate
  with_reducible repeat' first
    | assumption | apply raise_queuesHeld
    | apply QueuesHeld.keeps (k := flashPush_keeps _ _ (by decide) (by decide) (by decide) (by decide) Keeps.same)
    | apply disarm_queuesHeld | split

theorem armSet_queuesHeld (s : State) (f : Nat) (now : Bool) (it : Option Item) (h : QueuesHeld s) :
    QueuesHeld (armSet s f now it) := by
  unfold armSet
  with_reducible repeat' first
    | assumption | apply setF_queuesHeld
    | apply QueuesHeld.keeps (k := armMove_keeps _ (by decide) (by decide) (by decide) (by decide) (by decide) Keeps.same)
    | apply QueuesHeld.keeps (k := setUstate_keeps _ _ (by decide) (by decide) (by decide) (by decide) (by decide) Keeps.same)
    | apply disarm_queuesHeld | apply activate_queuesHeld | simp only [queuesHeld_record] | split

theorem parcelArm_queuesHeld (s : State) (l : Letter) (h : QueuesHeld s) : QueuesHeld (parcelArm s l) := by
  unfold parcelArm
  with_reducible repeat' first
    | assumption | apply parcelReply_queuesHeld | apply armSet_queuesHeld | split | dsimp only

theorem activationStep_queuesHeld (s : State) (h : QueuesHeld s) : QueuesHeld (activationStep s) := by
  unfold activationStep
  with_reducible repeat' first
    | assumption | apply activate_queuesHeld | split | dsimp only

theorem abandon_queuesHeld (s : State) (h : QueuesHeld s) : QueuesHeld (abandon s).2 := by
  unfold abandon
  with_reducible repeat' first
    | assumption
    | apply QueuesHeld.keeps (k := pkgDrop_keeps _ (by decide) (by decide) (by decide) (by decide) (by decide)
          (by decide) Keeps.same)
    | apply disarm_queuesHeld | split

theorem parcelAbandon_queuesHeld (s : State) (l : Letter) (h : QueuesHeld s) : QueuesHeld (parcelAbandon s l) := by
  unfold parcelAbandon
  with_reducible repeat' first
    | assumption | apply parcelReply_queuesHeld | apply abandon_queuesHeld | refine QueuesHeld.of_snd (by assumption) ?_
    | refine QueuesHeld.of_snd2 (by assumption) ?_ | split

theorem confirmExpiry_queuesHeld (s : State) (h : QueuesHeld s) : QueuesHeld (confirmExpiry s) := by
  unfold confirmExpiry
  with_reducible repeat' first
    | assumption | apply warmRequest_queuesHeld | split

theorem parcelEnd_queuesHeld (s : State) (who : PFrom) (c : Status) (h : QueuesHeld s) : QueuesHeld (parcelEnd s who c) := by
  unfold parcelEnd
  with_reducible repeat' first
    | assumption | apply parcelReply_queuesHeld | apply updDone_queuesHeld | simp only [queuesHeld_record] | split

theorem flashEffect_queuesHeld (s : State) (o : FlashOp) (ok : Bool) (h : QueuesHeld s) : QueuesHeld (flashEffect s o ok) := by
  unfold flashEffect
  with_reducible repeat' first
    | assumption | apply QueuesHeld.keeps (k := flashWr_keeps _ _ _ _ (by decide) (by decide) Keeps.same)
    | apply QueuesHeld.keeps (k := recWrite_keeps _ _ (by decide) Keeps.same) | apply warmRequest_queuesHeld
    | apply QueuesHeld.keeps (k := updShow_keeps _ (by decide) Keeps.same)
    | apply QueuesHeld.keeps (k := markMissing_keeps _ _ (by decide) (by decide) (by decide) (by decide) Keeps.same)
    | apply QueuesHeld.keeps (k := sectorErased_keeps _ _ (by decide) (by decide) Keeps.same)
    | apply QueuesHeld.keeps (k := pkgFull_keeps _ (by decide) (by decide) (by decide) (by decide) (by decide) Keeps.same)
    | apply QueuesHeld.keeps (k := confirmed_keeps _ (by decide) (by decide) (by decide) (by decide) (by decide)
          (by decide) (by decide) (by decide) Keeps.same)
    | apply parcelEnd_queuesHeld | simp only [queuesHeld_record] | split

theorem flashDone_queuesHeld (s : State) (ok : Bool) (h : QueuesHeld s) : QueuesHeld (flashDone s ok) := by
  unfold flashDone
  with_reducible repeat' first
    | assumption | apply QueuesHeld.keeps (k := flashNext_keeps _ (by decide) (by decide) (by decide) (by decide) Keeps.same)
    | apply flashEffect_queuesHeld | split

theorem flashSettle_queuesHeld (s : State) (h : QueuesHeld s) : QueuesHeld (flashSettle s) := by
  unfold flashSettle
  with_reducible repeat' first
    | assumption | apply setF_queuesHeld | apply flashEffect_queuesHeld | simp only [queuesHeld_record] | split

theorem orderlyShutdown_queuesHeld (s : State) (h : QueuesHeld s) : QueuesHeld (orderlyShutdown s) := by
  unfold orderlyShutdown
  with_reducible repeat' first
    | assumption | apply setF_queuesHeld | apply raise_queuesHeld | apply selfRefEntry_queuesHeld | apply powerShow_queuesHeld
    | apply flashSettle_queuesHeld
    | apply QueuesHeld.keeps (k := journalWrite_keeps _ _ (by decide) (by decide) (by decide) Keeps.same)
    | apply QueuesHeld.foldl | split

theorem stageEntry_queuesHeld (s : State) (it : Item) (host : HostRes) (h : QueuesHeld s) :
    QueuesHeld (stageEntry s it host) := by
  unfold stageEntry
  with_reducible repeat' first
    | assumption | apply updDone_queuesHeld | apply stageApply_queuesHeld
    | apply QueuesHeld.keeps (k := updFetch_keeps _ _ _ _ (by decide) (by decide) (by decide) (by decide)
          (by decide) (by decide) (by decide) Keeps.same)
    | refine QueuesHeld.of_snd (by assumption) ?_ | refine QueuesHeld.of_snd2 (by assumption) ?_ | split | dsimp only

theorem activateEntry_queuesHeld (s : State) (it : Item) (h : QueuesHeld s) : QueuesHeld (activateEntry s it) := by
  unfold activateEntry
  with_reducible repeat' first
    | assumption | apply updDone_queuesHeld | apply armSet_queuesHeld | split

theorem confirmEntry_queuesHeld (s : State) (it : Item) (h : QueuesHeld s) : QueuesHeld (confirmEntry s it) := by
  unfold confirmEntry
  with_reducible repeat' first
    | assumption | apply updDone_queuesHeld | apply QueuesHeld.keeps (k := hostConfirm_keeps _ (by decide) Keeps.same) | split

theorem abandonEntry_queuesHeld (s : State) (it : Item) (h : QueuesHeld s) : QueuesHeld (abandonEntry s it) := by
  unfold abandonEntry
  with_reducible repeat' first
    | assumption | apply updDone_queuesHeld | apply abandon_queuesHeld | refine QueuesHeld.of_snd (by assumption) ?_
    | refine QueuesHeld.of_snd2 (by assumption) ?_ | split

theorem hostimgEntry_queuesHeld (s : State) (it : Item) (h : QueuesHeld s) : QueuesHeld (hostimgEntry s it) := by
  unfold hostimgEntry
  with_reducible repeat' first
    | assumption | apply svcWrite_queuesHeld | apply measExtend_queuesHeld | apply updDone_queuesHeld | split | dsimp only

theorem pushEnd_queuesHeld (s : State) (x : Push) (c : Status) (h : QueuesHeld s) : QueuesHeld (pushEnd s x c) := by
  unfold pushEnd
  with_reducible repeat' first
    | assumption | apply updDone_queuesHeld | simp only [queuesHeld_record]

theorem pushGo_queuesHeld (y0 : Nat) (y1 : State) (y2 : Push) (h : QueuesHeld y1) : QueuesHeld (pushGo y0 y1 y2) := by
  induction y0 generalizing y1 y2 with
  | zero => exact h
  | succ y0 ih =>
    unfold pushGo
    with_reducible repeat' first
      | assumption | apply ih | apply QueuesHeld.keeps (k := pushSet_keeps _ _ (by decide) Keeps.same)
      | apply pushEnd_queuesHeld
      | apply QueuesHeld.keeps (k := pushLetter_keeps _ _ _ _ (by decide) (by decide) (by decide) (by decide) Keeps.same)
      | apply QueuesHeld.foldl | simp only [queuesHeld_record] | split

theorem pushPump_queuesHeld (s : State) (h : QueuesHeld s) : QueuesHeld (pushPump s) := by
  unfold pushPump
  with_reducible repeat' first
    | assumption | apply pushGo_queuesHeld | apply QueuesHeld.foldl | split | dsimp only | intro _

theorem pushEntry_queuesHeld (s : State) (it : Item) (host : HostRes) (h : QueuesHeld s) : QueuesHeld (pushEntry s it host) := by
  unfold pushEntry
  with_reducible repeat' first
    | assumption | apply drawBytes_queuesHeld | apply updDone_queuesHeld
    | apply QueuesHeld.keeps (k := updFetch_keeps _ _ _ _ (by decide) (by decide) (by decide) (by decide)
          (by decide) (by decide) (by decide) Keeps.same)
    | apply pushGo_queuesHeld | simp only [queuesHeld_record] | refine QueuesHeld.of_snd (by assumption) ?_
    | refine QueuesHeld.of_snd2 (by assumption) ?_ | split

theorem pushReply_queuesHeld (s : State) (x : Push) (c : Bytes) (query : Bool) (h : QueuesHeld s) :
    QueuesHeld (pushReply s x c query) := by
  unfold pushReply
  with_reducible repeat' first
    | assumption | apply QueuesHeld.keeps (k := pushSet_keeps _ _ (by decide) Keeps.same) | apply pushEnd_queuesHeld
    | apply pushGo_queuesHeld | split | dsimp only

theorem pushReplyStep_queuesHeld (s : State) (h : QueuesHeld s) : QueuesHeld (pushReplyStep s) := by
  unfold pushReplyStep
  with_reducible repeat' first
    | assumption | refine takeLetter_queuesHeld (by assumption) ?_ | refine openReply_queuesHeld (by assumption) ?_
    | apply pushReply_queuesHeld | split

/-! ### Resets, the host link and the boot stages -/

theorem resetCore_queuesHeld (s : State) : QueuesHeld (resetCore s) := fun e he => by cases he

theorem padsOff_queuesHeld (s : State) (h : QueuesHeld s) : QueuesHeld (padsOff s) := by
  unfold padsOff
  with_reducible repeat' first
    | assumption | apply QueuesHeld.keeps (k := emit_keeps _ _ (by decide) Keeps.same) | apply displayOff_queuesHeld
    | apply QueuesHeld.foldl | split | dsimp only | intro _

theorem coldReset_queuesHeld (s : State) : QueuesHeld (coldReset s) := by
  unfold coldReset
  with_reducible repeat' first
    | assumption
    | apply QueuesHeld.keeps (k := keepF_keeps _ _ _ (by decide) Keeps.same) | apply resetCore_queuesHeld
    | apply padsOff_queuesHeld | apply QueuesHeld.foldl | split | dsimp only | intro _

theorem warmKeep_queuesHeld (s r : State) (h : QueuesHeld r) : QueuesHeld (warmKeep s r) := h

theorem warmAssert_queuesHeld (s : State) : QueuesHeld (warmAssert s) := by
  unfold warmAssert
  with_reducible repeat' first
    | assumption
    | apply selfRefEntry_queuesHeld | apply flashSettle_queuesHeld
    | apply QueuesHeld.keeps (k := keepF_keeps _ _ _ (by decide) Keeps.same) | apply resetCore_queuesHeld
    | apply padsOff_queuesHeld | apply warmKeep_queuesHeld | apply QueuesHeld.foldl | split | dsimp only | intro _

theorem railFault_queuesHeld (s : State) (mask : Nat) (h : QueuesHeld s) : QueuesHeld (railFault s mask) := by
  unfold railFault
  dsimp only
  split
  · exact h.keeps (railsGone_keeps _ _ (by decide) Keeps.same)
  · exact coldReset_queuesHeld _

theorem hardwareTrip_queuesHeld (s : State) (k : Nat) (h : QueuesHeld s) : QueuesHeld (hardwareTrip s k) := by
  unfold hardwareTrip
  exact ite_queuesHeld (fun _ => h) fun _ => coldReset_queuesHeld _

theorem pwronAssert_queuesHeld (s : State) : QueuesHeld (pwronAssert s) := coldReset_queuesHeld _

theorem linkDown_queuesHeld (s : State) (h : QueuesHeld s) : QueuesHeld (linkDown s) := by
  unfold linkDown
  with_reducible repeat' first
    | assumption | apply setF_queuesHeld | apply queueError_queuesHeld | apply lateLost_queuesHeld | apply dmaLinkLoss_queuesHeld
    | apply sorLinkLoss_queuesHeld
    | apply QueuesHeld.keeps (k := srfLinkLoss_keeps _ (by decide) (by decide) (by decide) (by decide) Keeps.same)
    | simp only [queuesHeld_record] | apply QueuesHeld.foldl_range | split | dsimp only | intro _

theorem linkLoss_queuesHeld (s : State) (h : QueuesHeld s) : QueuesHeld (linkLoss s) := by
  unfold linkLoss
  with_reducible repeat' first
    | assumption | apply setF_queuesHeld | apply incSat_queuesHeld | apply raise_queuesHeld
    | apply QueuesHeld.keeps (k := ucieOpen_keeps _ (by decide) Keeps.same) | apply linkDown_queuesHeld
    | simp only [queuesHeld_record] | split

theorem linkRetrain_queuesHeld (s : State) (h : QueuesHeld s) : QueuesHeld (linkRetrain s) := by
  unfold linkRetrain
  with_reducible repeat' first
    | assumption | apply QueuesHeld.keeps (k := ucieStart_keeps _ (by decide) Keeps.same) | apply linkLoss_queuesHeld | split

theorem waitedGo_queuesHeld (s : State) (u : Up) (h : QueuesHeld s) : QueuesHeld (waitedGo s u) := by
  unfold waitedGo
  with_reducible repeat' first
    | assumption | apply QueuesHeld.keeps (k := upstream_keeps _ _ (by decide) (by decide) (by decide) Keeps.same)
    | apply settle_queuesHeld | split

theorem busOpen_queuesHeld (s : State) (h : QueuesHeld s) : QueuesHeld (busOpen s) := by
  unfold busOpen
  with_reducible repeat' first
    | assumption | apply waitedGo_queuesHeld | apply QueuesHeld.foldl | simp only [queuesHeld_record]

theorem bmeChange_queuesHeld (s : State) (b : Bool) (mps mrrs : Nat) (h : QueuesHeld s) :
    QueuesHeld (bmeChange s b mps mrrs) := by
  unfold bmeChange
  with_reducible repeat' first
    | assumption | apply setF_queuesHeld | apply retireLate_queuesHeld | apply dmaPumpAll_queuesHeld
    | apply busOpen_queuesHeld | apply QueuesHeld.keeps (k := busTimers_keeps _ (by decide) Keeps.same)
    | simp only [queuesHeld_record] | split

theorem firmwareFail_queuesHeld (s : State) (c : Status) (h : QueuesHeld s) : QueuesHeld (firmwareFail s c) := by
  unfold firmwareFail
  with_reducible repeat' first
    | assumption | apply warmRequest_queuesHeld | apply QueuesHeld.keeps (k := failCode_keeps _ _ (by decide) Keeps.same)
    | apply QueuesHeld.keeps (k := bootFail_keeps _ _ (by decide) (by decide) Keeps.same) | simp only [queuesHeld_record]
    | split

theorem firmwareDone_queuesHeld (s : State) (o : FwObs) (h : QueuesHeld s) : QueuesHeld (firmwareDone s o) := by
  unfold firmwareDone
  with_reducible repeat' first
    | assumption | apply setWord_queuesHeld | apply measExtend_queuesHeld
    | apply QueuesHeld.keeps (k := ucieOpen_keeps _ (by decide) Keeps.same)
    | apply QueuesHeld.keeps (k := setBootStage_keeps _ _ (by decide) Keeps.same)
    | apply QueuesHeld.keeps (k := startPorts_keeps _ _ _ (by decide) (by decide) (by decide) Keeps.same)
    | apply QueuesHeld.keeps (k := faultRecords_keeps _ (by decide) (by decide) (by decide) (by decide) (by decide) Keeps.same)
    | apply QueuesHeld.keeps (k := calLoad_keeps _ (by decide) Keeps.same) | apply firmwareFail_queuesHeld
    | apply QueuesHeld.foldl | simp only [queuesHeld_record] | split | dsimp only | intro _

theorem blockReset_queuesHeld (s : State) (k : Nat) (h : QueuesHeld s) : QueuesHeld (blockReset s k) := by
  have hheld : QueuesHeld (blockHeld s k) := h.keeps (blockHeld_keeps _ _ (by decide) (by decide) Keeps.same)
  unfold blockReset
  generalize blockHeld s k = t at hheld
  with_reducible repeat' first
    | assumption | apply ite_queuesHeld | apply queBlockReset_queuesHeld | apply dmaBlockReset_queuesHeld
    | apply sorBlockReset_queuesHeld | apply srfBlockReset_queuesHeld | apply cmpBlockReset_queuesHeld
    | apply frtBlockReset_queuesHeld | apply chnBlockReset_queuesHeld
    | apply QueuesHeld.keeps (k := lnkBlockReset_keeps _ (by decide) (by decide) (by decide) (by decide) (by decide) (by decide) (by decide) Keeps.same)
    | apply QueuesHeld.keeps (k := timBlockReset_keeps _ (by decide) (by decide) (by decide) (by decide) (by decide) (by decide) Keeps.same)
    | apply tanBlockReset_queuesHeld | apply lmpBlockReset_queuesHeld
    | apply QueuesHeld.keeps (k := spkBlockReset_keeps _ (by decide) (by decide) (by decide) Keeps.same)
    | apply QueuesHeld.keeps (k := calBlockReset_keeps _ (by decide) (by decide) (by decide) Keeps.same)
    | apply QueuesHeld.keeps (k := dbgBlockReset_keeps _ (by decide) Keeps.same)
    | dsimp only | intro _

theorem onReg_queuesHeld {s : State} {r : Nat → Nat} {n off : Nat} {f : Nat → State} (hf : ∀ i < n, QueuesHeld (f i))
    (h : QueuesHeld s) : QueuesHeld (onReg s r n off f) := by
  unfold onReg
  split
  case h_1 i hi => exact hf i (regIdx_lt hi)
  case h_2 => exact h

/-! ### Register writes, doorbells and pulses -/

theorem effectGlb_queuesHeld (s0 s : State) (off : Nat) (v : Word) (h : QueuesHeld s) : QueuesHeld (effectGlb s0 s off v) := by
  unfold effectGlb
  with_reducible repeat' first
    | assumption | apply QueuesHeld.keeps (k := clearErrors_keeps _ (by decide) Keeps.same) | apply warmRequest_queuesHeld
    | apply blockReset_queuesHeld | apply QueuesHeld.foldl_snd2 | apply QueuesHeld.foldl_snd | apply QueuesHeld.foldl_fst
    | apply QueuesHeld.foldl | refine QueuesHeld.of_snd (by assumption) ?_ | refine QueuesHeld.of_snd2 (by assumption) ?_
    | split

theorem effectQue_queuesHeld (s0 s : State) (off : Nat) (v : Word) (h : QueuesHeld s) : QueuesHeld (effectQue s0 s off v) := by
  unfold effectQue
  with_reducible repeat' first
    | assumption | apply queueEnable_queuesHeld | apply queueDisable_queuesHeld | apply queueStop_queuesHeld
    | apply queueResume_queuesHeld | apply onReg_queuesHeld | split | dsimp only | intro _

theorem effectFrt_queuesHeld (s0 s : State) (off : Nat) (v : Word) (h : QueuesHeld s) : QueuesHeld (effectFrt s0 s off v) := by
  unfold effectFrt
  with_reducible repeat' first
    | assumption | apply setF_queuesHeld | apply commit_queuesHeld
    | apply QueuesHeld.keeps (k := frtEnable_keeps _ (by decide) (by decide) (by decide) (by decide) (by decide)
          (by decide) Keeps.same)
    | apply frtDisable_queuesHeld | split

theorem effectTan_queuesHeld (s0 s : State) (off : Nat) (v : Word) (h : QueuesHeld s) : QueuesHeld (effectTan s0 s off v) := by
  unfold effectTan
  with_reducible repeat' first
    | assumption | apply QueuesHeld.keeps (k := holdCheck_keeps _ (by decide) Keeps.same) | apply takeover_queuesHeld
    | apply tanEnable_queuesHeld | apply tanDisable_queuesHeld | apply renum_queuesHeld | split

theorem effectLmp_queuesHeld (s0 s : State) (off : Nat) (v : Word) (h : QueuesHeld s) : QueuesHeld (effectLmp s0 s off v) := by
  unfold effectLmp
  with_reducible repeat' first
    | assumption | apply lampDrop_queuesHeld | apply QueuesHeld.keeps (k := dimArm_keeps _ (by decide) (by decide) Keeps.same)
    | apply QueuesHeld.keeps (k := lmpEnable_keeps _ (by decide) (by decide) (by decide) Keeps.same)
    | apply lmpDisable_queuesHeld | split

theorem effectThm_queuesHeld (s : State) (off : Nat) (h : QueuesHeld s) : QueuesHeld (effectThm s off) := by
  unfold effectThm
  with_reducible repeat' first
    | assumption | apply thmEval_queuesHeld | apply powerRequest_queuesHeld | split

theorem effectUpd_queuesHeld (s : State) (off : Nat) (v : Word) (h : QueuesHeld s) : QueuesHeld (effectUpd s off v) := by
  unfold effectUpd
  with_reducible repeat' first
    | assumption | apply abandon_queuesHeld | apply QueuesHeld.keeps (k := hostConfirm_keeps _ (by decide) Keeps.same)
    | apply QueuesHeld.keeps (k := recoveryGo_keeps _ (by decide) (by decide) Keeps.same) | split

theorem regEffect_queuesHeld (s0 s : State) (off : Nat) (v : Word) (h : QueuesHeld s) : QueuesHeld (regEffect s0 s off v) := by
  unfold regEffect
  with_reducible repeat' first
    | assumption | apply setWord_queuesHeld | apply engineStop_queuesHeld
    | apply QueuesHeld.keeps (k := srfEnable_keeps _ (by decide) (by decide) Keeps.same) | apply dmaShow_queuesHeld
    | apply QueuesHeld.keeps (k := chanConfig_keeps _ _ (by decide) Keeps.same)
    | apply QueuesHeld.keeps (k := freqGo_keeps _ _ _ (by decide) (by decide) Keeps.same) | apply linkRetrain_queuesHeld
    | apply onReg_queuesHeld | apply effectGlb_queuesHeld | apply effectQue_queuesHeld
    | apply QueuesHeld.keeps (k := effectSor_keeps _ _ _ _ (by decide) (by decide) (by decide) (by decide) Keeps.same)
    | apply effectFrt_queuesHeld
    | apply QueuesHeld.keeps (k := effectLnk_keeps _ _ _ _ (by decide) (by decide) (by decide) (by decide)
          (by decide) (by decide) (by decide) Keeps.same)
    | apply QueuesHeld.keeps (k := effectTim_keeps _ _ _ _ (by decide) (by decide) (by decide) (by decide)
          (by decide) (by decide) (by decide) (by decide) (by decide) (by decide) Keeps.same)
    | apply effectTan_queuesHeld | apply effectLmp_queuesHeld
    | apply QueuesHeld.keeps (k := effectSpk_keeps _ _ _ _ (by decide) (by decide) (by decide) (by decide)
          (by decide) (by decide) (by decide) (by decide) Keeps.same)
    | apply effectThm_queuesHeld
    | apply QueuesHeld.keeps (k := effectCal_keeps _ _ _ _ (by decide) (by decide) (by decide) (by decide)
          (by decide) (by decide) Keeps.same)
    | apply effectUpd_queuesHeld | split | dsimp only | intro _

theorem regWrite_queuesHeld (s : State) (src off : Nat) (v : Word) (h : QueuesHeld s) : QueuesHeld (regWrite s src off v).2 := by
  unfold regWrite
  with_reducible repeat' first
    | assumption | apply QueuesHeld.keeps (k := setMsixWord_keeps _ _ _ (by decide) Keeps.same) | apply logError_queuesHeld
    | apply QueuesHeld.keeps (k := sendPending_keeps _ (by decide) (by decide) (by decide) Keeps.same)
    | apply QueuesHeld.keeps (k := storeReg_keeps _ _ _ (by decide) (by decide) Keeps.same) | apply regEffect_queuesHeld
    | apply QueuesHeld.keeps (k := recovWr_keeps _ _ _ (by decide) (by decide) Keeps.same) | split

theorem hostWrite_queuesHeld (s : State) (off : Nat) (v : Word) (h : QueuesHeld s) : QueuesHeld (hostWrite s off v) := by
  unfold hostWrite
  with_reducible repeat' first
    | assumption | apply regWrite_queuesHeld | split

theorem barWrite_queuesHeld (s : State) (size off v : Nat) (h : QueuesHeld s) : QueuesHeld (barWrite s size off v) := by
  unfold barWrite
  with_reducible repeat' first
    | assumption | apply logError_queuesHeld | apply hostWrite_queuesHeld | split

theorem queueSettings_queuesHeld (s : State) (qs : List (Nat × Word)) (h : QueuesHeld s) : QueuesHeld (queueSettings s qs) := by
  unfold queueSettings
  with_reducible repeat' first
    | assumption | apply QueuesHeld.keeps (k := storeReg_keeps _ _ _ (by decide) (by decide) Keeps.same)
    | apply regEffect_queuesHeld | apply QueuesHeld.foldl | split | dsimp only | intro _

theorem windowClose_queuesHeld (s : State) (qs : List (Nat × Word)) (ms : Nat) (h : QueuesHeld s) :
    QueuesHeld (windowClose s qs ms) := by
  unfold windowClose
  with_reducible repeat' first
    | assumption | apply setF_queuesHeld | apply QueuesHeld.keeps (k := setBootStage_keeps _ _ (by decide) Keeps.same)
    | apply QueuesHeld.keeps (k := toReady_keeps _ _ (by decide) (by decide) (by decide) (by decide) (by decide)
          (by decide) (by decide) (by decide) Keeps.same)
    | apply queueSettings_queuesHeld | simp only [queuesHeld_record] | split

theorem doorbellWrite_queuesHeld (s : State) (off v : Nat) (h : QueuesHeld s) : QueuesHeld (doorbellWrite s off v) := by
  unfold doorbellWrite
  refine ite_queuesHeld (fun _ => logError_queuesHeld _ _ _ _ h) fun hrange => ?_
  have hq : off / 4096 < 4096 := by omega
  with_reducible repeat' first
    | assumption | apply logError_queuesHeld | apply acceptTail_queuesHeld | split

theorem doorbell_queuesHeld (s : State) (size off v : Nat) (h : QueuesHeld s) : QueuesHeld (doorbell s size off v) := by
  unfold doorbell
  with_reducible repeat' first
    | assumption | apply logError_queuesHeld | apply doorbellWrite_queuesHeld | split

/-- A ring read ends only in a queue that reads. -/
theorem readExpired_queuesHeld (s : State) (who : Rd) (h : QueuesHeld s) : QueuesHeld (readExpired s who) := by
  unfold readExpired
  split
  case h_1 q =>
    refine ite_queuesHeld (fun hread => ?_) fun _ => h
    have hq : q < 4096 := h.lt_of_qrec fun e => by simp [e, qrecReset] at hread
    exact ite_queuesHeld (fun _ => queueError_queuesHeld _ _ _ hq (setQrec_queuesHeld s _ hq h))
      fun _ => setQrec_queuesHeld s _ hq h
  case h_2 t u => exact slotFail_queuesHeld _ _ _ _ h
  case h_3 c => exact readFail_queuesHeld _ _ _ h
  case h_4 c shadow dst => exact segFail_queuesHeld _ _ _ _ _ h
  case h_5 vp => exact prefetchFail_queuesHeld _ _ _ h
  case h_6 => exact h

theorem readTimeout_queuesHeld (s : State) (who : Rd) (h : QueuesHeld s) : QueuesHeld (readTimeout s who) := by
  unfold readTimeout
  with_reducible repeat' first
    | assumption | apply QueuesHeld.keeps (k := endRead_keeps _ _ (by decide) (by decide) (by decide) Keeps.same)
    | apply readExpired_queuesHeld | simp only [queuesHeld_record] | split

theorem ownerPulse_queuesHeld (s : State) (g : Nat) (slots : List Nat) (h : QueuesHeld s) :
    QueuesHeld (ownerPulse s g slots) := by
  unfold ownerPulse
  with_reducible repeat' first
    | assumption | apply genFire_queuesHeld | apply syncPulse_queuesHeld | apply senderCadence_queuesHeld
    | apply snapSettle_queuesHeld | apply heartbeat_queuesHeld | apply tileCadence_queuesHeld | split

theorem generatorPulse_queuesHeld (s : State) (g : Nat) (slots : List Nat) (h : QueuesHeld s) :
    QueuesHeld (generatorPulse s g slots) := by
  unfold generatorPulse
  with_reducible repeat' first
    | assumption | apply ownerPulse_queuesHeld | apply QueuesHeld.foldl | split | dsimp only | intro _

theorem regEntry_queuesHeld (s : State) (write : Bool) (e : Bytes) (h : QueuesHeld s) : QueuesHeld (regEntry s write e).2 := by
  unfold regEntry
  with_reducible repeat' first
    | assumption | apply regWrite_queuesHeld
    | apply QueuesHeld.keeps (k := regRead_keeps _ _ (by decide) (by decide) (by decide) (by decide) (by decide) Keeps.same)
    | refine QueuesHeld.of_snd (by assumption) ?_ | refine QueuesHeld.of_snd2 (by assumption) ?_ | split | dsimp only

theorem regEntries_queuesHeld (write : Bool) (y0 : List Bytes) (y1 : State) (h : QueuesHeld y1) :
    QueuesHeld (regEntries write y0 y1).2 := by
  induction y0 generalizing y1 write with
  | nil => exact h
  | cons x0 y0 ih =>
    unfold regEntries
    with_reducible repeat' first
      | assumption | apply ih | apply regEntry_queuesHeld

theorem regLetter_queuesHeld (s : State) (write : Bool) (l : Letter) (h : QueuesHeld s) : QueuesHeld (regLetter s write l) := by
  unfold regLetter
  with_reducible repeat' first
    | assumption | apply QueuesHeld.keeps (k := refuse_keeps _ _ _ (by decide) (by decide) Keeps.same)
    | apply QueuesHeld.keeps (k := answer_keeps _ _ _ _ (by decide) (by decide) Keeps.same) | apply regEntries_queuesHeld
    | refine QueuesHeld.of_snd (by assumption) ?_ | refine QueuesHeld.of_snd2 (by assumption) ?_ | split

theorem ringAnswer_queuesHeld (s : State) (l : Letter) (c : Status) (q : Nat) (rest : Bytes) (h : QueuesHeld s) :
    QueuesHeld (ringAnswer s l c q rest) :=
  h.keeps (ringAnswer_keeps _ _ _ _ _ (by decide) (by decide) Keeps.same)

theorem ringFillLetter_queuesHeld (s : State) (l : Letter) (h : QueuesHeld s) : QueuesHeld (ringFillLetter s l) := by
  unfold ringFillLetter
  dsimp only
  split
  case h_1 hc =>
    exact ringAnswer_queuesHeld _ _ _ _ _
      (acceptTail_queuesHeld _ _ _ (ringFillCheck_queue hc) (ringFillWrite_queuesHeld _ _ _ _ h))
  case h_2 => exact ringAnswer_queuesHeld _ _ _ _ _ h

theorem regAcc_queuesHeld (s : State) (off : Nat) (v : Option Word) (h : QueuesHeld s) : QueuesHeld (regAcc s off v) := by
  unfold regAcc
  with_reducible repeat' first
    | assumption | apply QueuesHeld.keeps (k := emit_keeps _ _ (by decide) Keeps.same) | apply logError_queuesHeld
    | apply regWrite_queuesHeld
    | apply QueuesHeld.keeps (k := regRead_keeps _ _ (by decide) (by decide) (by decide) (by decide) (by decide) Keeps.same)
    | apply QueuesHeld.keeps (k := leaveExtest_keeps _ (by decide) Keeps.same) | refine QueuesHeld.of_snd (by assumption) ?_
    | refine QueuesHeld.of_snd2 (by assumption) ?_ | split | dsimp only

theorem idle_queuesHeld (s : State) (h : QueuesHeld s) : QueuesHeld (idle s) := by
  unfold idle
  with_reducible repeat' first
    | assumption | apply advance_queuesHeld | apply dmaPumpAll_queuesHeld | apply pushPump_queuesHeld

/-! ### What carries a command out -/

section
variable {s t : State} {f : State → State} {g : State → Item → State} {k : State → Letter → State}

theorem next_queuesHeld {u : State} (h : QueuesHeld u) (hstep : Host.Outcome.next u = (.next t : Result)) : QueuesHeld t := by
  cases hstep
  exact h

theorem whenOn_queuesHeld {id : Nat} (hf : ∀ u, QueuesHeld u → QueuesHeld (f u)) (h : QueuesHeld s)
    (hstep : whenOn id s f = .next t) : QueuesHeld t :=
  next_queuesHeld (ite_queuesHeld (fun _ => hf s h) fun _ => h) hstep

theorem onRead_queuesHeld {who : Rd} (hf : ∀ u, QueuesHeld u → QueuesHeld (f u)) (h : QueuesHeld s) :
    QueuesHeld (onRead s who f) :=
  ite_queuesHeld (fun _ => h.keeps (endRead_keeps _ _ (by decide) (by decide) (by decide) Keeps.same)) fun _ => hf s h

theorem onEntry_queuesHeld {op : Nat} (hg : ∀ u i, QueuesHeld u → QueuesHeld (g u i)) (h : QueuesHeld s) :
    QueuesHeld (onEntry s op g) := by
  unfold onEntry
  split
  next i u hu => exact hg u i (coreTake_queuesHeld hu h)
  next => exact h

theorem onEntryRead_queuesHeld {op : Nat} {wait : State → Item → Bool} (hg : ∀ u i, QueuesHeld u → QueuesHeld (g u i))
    (h : QueuesHeld s) : QueuesHeld (onEntryRead s op wait g) := by
  unfold onEntryRead
  split
  next i u hu => exact ite_queuesHeld (fun _ => h) fun _ => hg u i (coreTake_queuesHeld hu h)
  next => exact h

theorem onLetter_queuesHeld {ltype : Nat} (hk : ∀ u l, QueuesHeld u → QueuesHeld (k u l)) (h : QueuesHeld s) :
    QueuesHeld (onLetter s ltype k) := by
  unfold onLetter
  split
  next l u hu => exact hk u l (takeLetter_queuesHeld hu h)
  next => exact h

theorem onSnap_queuesHeld {ltype : Nat} (hk : ∀ u l, QueuesHeld u → QueuesHeld (k u l)) (h : QueuesHeld s) :
    QueuesHeld (onSnap s ltype k) := by
  unfold onSnap
  split
  next l u hu => exact hk u l (takeLetter_queuesHeld hu h)
  next => exact h

theorem onParcel_queuesHeld {op : Nat} (hk : ∀ u l, QueuesHeld u → QueuesHeld (k u l)) (h : QueuesHeld s) :
    QueuesHeld (onParcel s op k) := by
  unfold onParcel
  refine ite_queuesHeld (fun _ => ?_) fun _ => h
  split
  next l u hu => exact hk u l (takeLetter_queuesHeld hu h)
  next => exact h

theorem tileLetterStep_queuesHeld {ltype : Nat} (hk : ∀ u l, QueuesHeld u → QueuesHeld (k u l)) (h : QueuesHeld s)
    (hstep : tileLetterStep s ltype k = .next t) : QueuesHeld t := by
  unfold tileLetterStep at hstep
  refine whenOn_queuesHeld (fun u hu => ?_) h hstep
  exact ite_queuesHeld (fun _ => onLetter_queuesHeld hk hu) fun _ => hu

theorem fieldWrite_queuesHeld {fld : Fld} {x : Nat} {v : Word} (h : QueuesHeld s) (hstep : fieldWrite s fld x v = .next t) :
    QueuesHeld t := next_queuesHeld (hostWrite_queuesHeld _ _ _ h) hstep

theorem blockResetWrite_queuesHeld {b : Nat} (h : QueuesHeld s) (hstep : blockResetWrite s b = .next t) : QueuesHeld t :=
  next_queuesHeld (hostWrite_queuesHeld _ _ _ h) hstep

theorem queueWrite_queuesHeld {q w : Nat} (h : QueuesHeld s) (hstep : queueWrite s q w = .next t) : QueuesHeld t :=
  next_queuesHeld (ite_queuesHeld (fun _ => hostWrite_queuesHeld _ _ _ h) fun _ => h) hstep

/-! ### Every command, and every step -/

/-- Every command keeps the numbers: one that writes no record by its frame, any other by the functions it carries out. -/
theorem exec_queuesHeld (c : Instr) (hstep : exec c s = .next t) (h : QueuesHeld s) : QueuesHeld t := by
  cases c <;> dsimp only [exec] at hstep
  case railFault _ => exact next_queuesHeld (railFault_queuesHeld _ _ h) hstep
  case railWarn _ =>
    exact h.keeps (by apply execRailWarn_keeps (ht := hstep) (h0 := Keeps.same) <;> exact Part.mem_others (by decide))
  case vddAonApply =>
    exact h.keeps (by apply execVddAonApply_keeps (ht := hstep) (h0 := Keeps.same) <;> exact Part.mem_others (by decide))
  case pwronResetAssert => exact next_queuesHeld (pwronAssert_queuesHeld _) hstep
  case coldResetRelease _ _ =>
    exact h.keeps (by apply execColdResetRelease_keeps (ht := hstep) (h0 := Keeps.same) <;> exact Part.mem_others (by decide))
  case warmResetPin => exact next_queuesHeld (warmRequest_queuesHeld _ _ h) hstep
  case warmResetSoftware => exact fieldWrite_queuesHeld h hstep
  case watchdogExpiry => exact next_queuesHeld (warmRequest_queuesHeld _ _ h) hstep
  case warmResetAssert => exact next_queuesHeld (ite_queuesHeld (fun _ => warmAssert_queuesHeld _) fun _ => h) hstep
  case warmResetRelease =>
    exact h.keeps (by apply execWarmResetRelease_keeps (ht := hstep) (h0 := Keeps.same) <;> exact Part.mem_others (by decide))
  case refClkLoss =>
    exact h.keeps (by apply execRefClkLoss_keeps (ht := hstep) (h0 := Keeps.same) <;> exact Part.mem_others (by decide))
  case refClkGood =>
    exact h.keeps (by apply execRefClkGood_keeps (ht := hstep) (h0 := Keeps.same); exact Part.mem_others (by decide))
  case pllStageDone =>
    exact h.keeps (by apply execPllStageDone_keeps (ht := hstep) (h0 := Keeps.same) <;> exact Part.mem_others (by decide))
  case romStageDone =>
    exact h.keeps (by apply execRomStageDone_keeps (ht := hstep) (h0 := Keeps.same) <;> exact Part.mem_others (by decide))
  case firstStageDone _ =>
    exact h.keeps (by apply execFirstStageDone_keeps (ht := hstep) (h0 := Keeps.same) <;> exact Part.mem_others (by decide))
  case dramStageDone _ _ =>
    exact h.keeps (by apply execDramStageDone_keeps (ht := hstep) (h0 := Keeps.same) <;> exact Part.mem_others (by decide))
  case firmwareStageDone _ => exact next_queuesHeld (ite_queuesHeld (fun _ => firmwareDone_queuesHeld _ _ h) fun _ => h) hstep
  case ucieAttemptEnd _ _ _ _ =>
    exact h.keeps (by apply execUcieAttemptEnd_keeps (ht := hstep) (h0 := Keeps.same) <;> exact Part.mem_others (by decide))
  case ucieBackoffEnd _ =>
    exact h.keeps (by apply execUcieBackoffEnd_keeps (ht := hstep) (h0 := Keeps.same) <;> exact Part.mem_others (by decide))
  case ucieWindowClose _ _ => exact whenOn_queuesHeld (fun _ ht => windowClose_queuesHeld _ _ _ ht) h hstep
  case bootHoldRetry _ =>
    exact h.keeps (by apply execBootHoldRetry_keeps (ht := hstep) (h0 := Keeps.same) <;> exact Part.mem_others (by decide))
  case registerWrite _ _ _ => exact next_queuesHeld (barWrite_queuesHeld _ _ _ _ h) hstep
  case errinfoClear =>
    exact h.keeps (by apply execErrinfoClear_keeps (ht := hstep) (h0 := Keeps.same) <;> exact Part.mem_others (by decide))
  case barMisalignedRead _ _ _ =>
    exact h.keeps (by apply execBarMisalignedRead_keeps (ht := hstep) (h0 := Keeps.same) <;> exact Part.mem_others (by decide))
  case evtqRead =>
    exact h.keeps (by apply execEvtqRead_keeps (ht := hstep) (h0 := Keeps.same) <;> exact Part.mem_others (by decide))
  case dmaBytesRead _ =>
    exact h.keeps (by apply execDmaBytesRead_keeps (ht := hstep) (h0 := Keeps.same) <;> exact Part.mem_others (by decide))
  case timNowRead _ =>
    exact h.keeps (by apply execTimNowRead_keeps (ht := hstep) (h0 := Keeps.same) <;> exact Part.mem_others (by decide))
  case timCapRead _ =>
    exact h.keeps (by apply execTimCapRead_keeps (ht := hstep) (h0 := Keeps.same) <;> exact Part.mem_others (by decide))
  case secNonceRead =>
    exact h.keeps (by apply execSecNonceRead_keeps (ht := hstep) (h0 := Keeps.same) <;> exact Part.mem_others (by decide))
  case queBlockReset => exact blockResetWrite_queuesHeld h hstep
  case dmaBlockReset => exact blockResetWrite_queuesHeld h hstep
  case sorBlockReset => exact blockResetWrite_queuesHeld h hstep
  case srfBlockReset => exact blockResetWrite_queuesHeld h hstep
  case cmpBlockReset => exact blockResetWrite_queuesHeld h hstep
  case frtBlockReset => exact blockResetWrite_queuesHeld h hstep
  case lnkBlockReset =>
    exact h.keeps (by apply execLnkBlockReset_keeps (ht := hstep) (h0 := Keeps.same) <;> exact Part.mem_others (by decide))
  case chnBlockReset => exact blockResetWrite_queuesHeld h hstep
  case timBlockReset =>
    exact h.keeps (by apply execTimBlockReset_keeps (ht := hstep) (h0 := Keeps.same) <;> exact Part.mem_others (by decide))
  case tanBlockReset => exact blockResetWrite_queuesHeld h hstep
  case lmpBlockReset => exact blockResetWrite_queuesHeld h hstep
  case spkBlockReset =>
    exact h.keeps (by apply execSpkBlockReset_keeps (ht := hstep) (h0 := Keeps.same) <;> exact Part.mem_others (by decide))
  case calBlockReset =>
    exact h.keeps (by apply execCalBlockReset_keeps (ht := hstep) (h0 := Keeps.same) <;> exact Part.mem_others (by decide))
  case dbgBlockReset =>
    exact h.keeps (by apply execDbgBlockReset_keeps (ht := hstep) (h0 := Keeps.same) <;> exact Part.mem_others (by decide))
  case blockResetEnd _ _ =>
    exact h.keeps (by apply execBlockResetEnd_keeps (ht := hstep) (h0 := Keeps.same) <;> exact Part.mem_others (by decide))
  case hifLinkLoss => exact whenOn_queuesHeld linkLoss_queuesHeld h hstep
  case hifRetrain _ => exact fieldWrite_queuesHeld h hstep
  case hifRetryTimer _ =>
    exact h.keeps (by apply execHifRetryTimer_keeps (ht := hstep) (h0 := Keeps.same) <;> exact Part.mem_others (by decide))
  case bmeChange _ =>
    dsimp only [execBmeChange] at hstep
    refine whenOn_queuesHeld (fun _ ht => ?_) h hstep
    exact ite_queuesHeld (fun _ => bmeChange_queuesHeld _ _ _ _ ht) fun _ => ht
  case msixUnmask _ =>
    exact h.keeps (by apply execMsixUnmask_keeps (ht := hstep) (h0 := Keeps.same) <;> exact Part.mem_others (by decide))
  case queueEnable _ => exact queueWrite_queuesHeld h hstep
  case queueDisable _ => exact queueWrite_queuesHeld h hstep
  case queueStop _ => exact queueWrite_queuesHeld h hstep
  case queueResume _ => exact queueWrite_queuesHeld h hstep
  case doorbell _ _ _ => exact next_queuesHeld (ite_queuesHeld (fun _ => doorbell_queuesHeld _ _ _ _ h) fun _ => h) hstep
  case ringReadComplete _ _ =>
    exact whenOn_queuesHeld (fun _ ht => onRead_queuesHeld (fun _ ht => ringRead_queuesHeld _ _ _ ht) ht) h hstep
  case ringRecheckTimeout _ _ =>
    exact whenOn_queuesHeld (fun _ ht => recheckTimeout_queuesHeld _ _ ht) (advance_queuesHeld _ _ h) hstep
  case sorDispatch => exact whenOn_queuesHeld dispatch_queuesHeld h hstep
  case sorPreempt _ => exact whenOn_queuesHeld (fun _ ht => sorPreempt_queuesHeld _ _ ht) h hstep
  case dmaSegmentReadDone _ _ _ _ =>
    exact whenOn_queuesHeld (fun _ ht => onRead_queuesHeld (fun _ ht => segDone_queuesHeld _ _ _ _ _ ht) ht) h hstep
  case dmaReadDone _ _ =>
    exact whenOn_queuesHeld (fun _ ht => onRead_queuesHeld (fun _ ht => readDone_queuesHeld _ _ _ ht) ht) h hstep
  case hostReadTimeout _ _ => exact whenOn_queuesHeld (fun _ ht => readTimeout_queuesHeld _ _ ht) (advance_queuesHeld _ _ h) hstep
  case lateCompletion =>
    exact h.keeps (by apply execLateCompletion_keeps (ht := hstep) (h0 := Keeps.same) <;> exact Part.mem_others (by decide))
  case dmaDescriptorComplete _ => exact whenOn_queuesHeld (fun _ ht => descComplete_queuesHeld _ _ ht) h hstep
  case slotPoll _ _ =>
    exact h.keeps (by apply execSlotPoll_keeps (ht := hstep) (h0 := Keeps.same) <;> exact Part.mem_others (by decide))
  case slotReadDone _ _ _ =>
    exact whenOn_queuesHeld (fun _ ht => onRead_queuesHeld (fun _ ht => slotDone_queuesHeld _ _ _ _ ht) ht) h hstep
  case slotReadFail _ _ =>
    exact whenOn_queuesHeld (fun _ ht => onRead_queuesHeld (fun _ ht => slotFail_queuesHeld _ _ _ _ ht) ht) h hstep
  case loadWindowEnd _ =>
    exact h.keeps (by apply execLoadWindowEnd_keeps (ht := hstep) (h0 := Keeps.same) <;> exact Part.mem_others (by decide))
  case srfEnable =>
    exact h.keeps (by apply execSrfEnable_keeps (ht := hstep) (h0 := Keeps.same) <;> exact Part.mem_others (by decide))
  case srfTableInitDone => exact whenOn_queuesHeld srfTableDone_queuesHeld h hstep
  case surfaceCreate => exact whenOn_queuesHeld (fun _ ht => onEntry_queuesHeld srfEntry_queuesHeld ht) h hstep
  case surfaceBack => exact whenOn_queuesHeld (fun _ ht => onEntry_queuesHeld srfEntry_queuesHeld ht) h hstep
  case surfaceFree => exact whenOn_queuesHeld (fun _ ht => onEntry_queuesHeld srfEntry_queuesHeld ht) h hstep
  case surfaceInval => exact whenOn_queuesHeld (fun _ ht => onEntry_queuesHeld srfEntry_queuesHeld ht) h hstep
  case frameRetire => exact whenOn_queuesHeld retireFrame_queuesHeld h hstep
  case prefetchIssue =>
    exact h.keeps (by apply execPrefetchIssue_keeps (ht := hstep) (h0 := Keeps.same) <;> exact Part.mem_others (by decide))
  case prefetchDone _ _ =>
    exact h.keeps (by apply execPrefetchDone_keeps (ht := hstep) (h0 := Keeps.same) <;> exact Part.mem_others (by decide))
  case prefetchFail _ _ =>
    exact h.keeps (by apply execPrefetchFail_keeps (ht := hstep) (h0 := Keeps.same) <;> exact Part.mem_others (by decide))
  case latePage _ =>
    exact h.keeps (by apply execLatePage_keeps (ht := hstep) (h0 := Keeps.same) <;> exact Part.mem_others (by decide))
  case bookLoad _ =>
    exact whenOn_queuesHeld (fun _ ht => onEntryRead_queuesHeld (fun _ _ ht => cmpEntry_queuesHeld _ _ _ ht) ht) h hstep
  case curveLoad _ =>
    exact whenOn_queuesHeld (fun _ ht => onEntryRead_queuesHeld (fun _ _ ht => cmpEntry_queuesHeld _ _ _ ht) ht) h hstep
  case filterLoad _ =>
    exact whenOn_queuesHeld (fun _ ht => onEntryRead_queuesHeld (fun _ _ ht => cmpEntry_queuesHeld _ _ _ ht) ht) h hstep
  case cmpEnable _ => exact fieldWrite_queuesHeld h hstep
  case cmpDisable _ => exact fieldWrite_queuesHeld h hstep
  case cmpFrameDone _ =>
    exact h.keeps (by apply execCmpFrameDone_keeps (ht := hstep) (h0 := Keeps.same) <;> exact Part.mem_others (by decide))
  case senderCadence _ _ =>
    exact whenOn_queuesHeld (fun _ ht => snapSettle_queuesHeld _ (senderCadence_queuesHeld _ _ ht))
      (advance_queuesHeld _ _ h) hstep
  case rasterDeadline _ =>
    exact h.keeps (by apply execRasterDeadline_keeps (ht := hstep) (h0 := Keeps.same) <;> exact Part.mem_others (by decide))
  case latchInstant _ _ => exact whenOn_queuesHeld (fun _ ht => latchInstant_queuesHeld _ _ ht) (advance_queuesHeld _ _ h) hstep
  case commitGo _ => exact fieldWrite_queuesHeld (advance_queuesHeld _ _ h) hstep
  case commitEntry => exact whenOn_queuesHeld (fun _ ht => onEntry_queuesHeld frtEntry_queuesHeld ht) h hstep
  case modeEntry => exact whenOn_queuesHeld (fun _ ht => onEntry_queuesHeld frtEntry_queuesHeld ht) h hstep
  case frtEnable _ _ => exact fieldWrite_queuesHeld (advance_queuesHeld _ _ h) hstep
  case frtDisable _ _ => exact fieldWrite_queuesHeld (advance_queuesHeld _ _ h) hstep
  case portEnable _ _ =>
    exact h.keeps (by apply execPortEnable_keeps (ht := hstep) (h0 := Keeps.same) <;> exact Part.mem_others (by decide))
  case portDisable _ _ =>
    exact h.keeps (by apply execPortDisable_keeps (ht := hstep) (h0 := Keeps.same) <;> exact Part.mem_others (by decide))
  case portRetrain _ _ =>
    exact h.keeps (by apply execPortRetrain_keeps (ht := hstep) (h0 := Keeps.same) <;> exact Part.mem_others (by decide))
  case portTestEnter _ _ =>
    exact h.keeps (by apply execPortTestEnter_keeps (ht := hstep) (h0 := Keeps.same) <;> exact Part.mem_others (by decide))
  case portTestExit _ _ =>
    exact h.keeps (by apply execPortTestExit_keeps (ht := hstep) (h0 := Keeps.same) <;> exact Part.mem_others (by decide))
  case prbsInject _ _ =>
    exact h.keeps (by apply execPrbsInject_keeps (ht := hstep) (h0 := Keeps.same) <;> exact Part.mem_others (by decide))
  case receiverDetect _ _ _ =>
    exact h.keeps (by apply execReceiverDetect_keeps (ht := hstep) (h0 := Keeps.same) <;> exact Part.mem_others (by decide))
  case presetTrial _ _ =>
    exact h.keeps (by apply execPresetTrial_keeps (ht := hstep) (h0 := Keeps.same) <;> exact Part.mem_others (by decide))
  case linkStageDone _ _ =>
    exact h.keeps (by apply execLinkStageDone_keeps (ht := hstep) (h0 := Keeps.same) <;> exact Part.mem_others (by decide))
  case linkAttemptFail _ =>
    exact h.keeps (by apply execLinkAttemptFail_keeps (ht := hstep) (h0 := Keeps.same) <;> exact Part.mem_others (by decide))
  case linkBackoffEnd _ _ =>
    exact h.keeps (by apply execLinkBackoffEnd_keeps (ht := hstep) (h0 := Keeps.same) <;> exact Part.mem_others (by decide))
  case chainDown _ =>
    exact h.keeps (by apply execChainDown_keeps (ht := hstep) (h0 := Keeps.same) <;> exact Part.mem_others (by decide))
  case laneSpare _ _ =>
    exact h.keeps (by apply execLaneSpare_keeps (ht := hstep) (h0 := Keeps.same) <;> exact Part.mem_others (by decide))
  case steerReceive _ _ _ =>
    exact h.keeps (by apply execSteerReceive_keeps (ht := hstep) (h0 := Keeps.same) <;> exact Part.mem_others (by decide))
  case steerRepeat _ =>
    exact h.keeps (by apply execSteerRepeat_keeps (ht := hstep) (h0 := Keeps.same) <;> exact Part.mem_others (by decide))
  case pannierSwitch _ =>
    exact h.keeps (by apply execPannierSwitch_keeps (ht := hstep) (h0 := Keeps.same); exact Part.mem_others (by decide))
  case elasticSlip _ =>
    exact h.keeps (by apply execElasticSlip_keeps (ht := hstep) (h0 := Keeps.same) <;> exact Part.mem_others (by decide))
  case reseedTimer _ _ =>
    exact h.keeps (by apply execReseedTimer_keeps (ht := hstep) (h0 := Keeps.same) <;> exact Part.mem_others (by decide))
  case adaptWindow _ _ _ _ =>
    exact h.keeps (by apply execAdaptWindow_keeps (ht := hstep) (h0 := Keeps.same) <;> exact Part.mem_others (by decide))
  case marginMeasure _ _ _ _ =>
    exact h.keeps (by apply execMarginMeasure_keeps (ht := hstep) (h0 := Keeps.same) <;> exact Part.mem_others (by decide))
  case timingPortChange =>
    exact h.keeps (by apply execTimingPortChange_keeps (ht := hstep) (h0 := Keeps.same) <;> exact Part.mem_others (by decide))
  case timingPortLocked =>
    exact h.keeps (by apply execTimingPortLocked_keeps (ht := hstep) (h0 := Keeps.same) <;> exact Part.mem_others (by decide))
  case cellForward _ _ _ _ _ =>
    exact h.keeps (by apply execCellForward_keeps (ht := hstep) (h0 := Keeps.same) <;> exact Part.mem_others (by decide))
  case candidateCorrected =>
    exact h.keeps (by apply execCandidateCorrected_keeps (ht := hstep) (h0 := Keeps.same) <;> exact Part.mem_others (by decide))
  case insertQueueTimeout _ _ =>
    exact h.keeps (by apply execInsertQueueTimeout_keeps (ht := hstep) (h0 := Keeps.same) <;> exact Part.mem_others (by decide))
  case runCell => exact h.keeps (by apply execRunCell_keeps (ht := hstep) (h0 := Keeps.same) <;> exact Part.mem_others (by decide))
  case abortCell =>
    exact h.keeps (by apply execAbortCell_keeps (ht := hstep) (h0 := Keeps.same) <;> exact Part.mem_others (by decide))
  case beaconCell =>
    exact h.keeps (by apply execBeaconCell_keeps (ht := hstep) (h0 := Keeps.same) <;> exact Part.mem_others (by decide))
  case peerBeacon =>
    dsimp only [execPeerBeacon] at hstep
    refine whenOn_queuesHeld (fun u hu => ite_queuesHeld (fun _ => ?_) fun _ => hu) h hstep
    split
    next x v hv => exact peerBeacon_queuesHeld v x (takeRx_queuesHeld hv hu)
    next => exact hu
  case letterSegment =>
    exact h.keeps (by apply execLetterSegment_keeps (ht := hstep) (h0 := Keeps.same) <;> exact Part.mem_others (by decide))
  case reassemblyTimeout _ =>
    exact h.keeps (by apply execReassemblyTimeout_keeps (ht := hstep) (h0 := Keeps.same) <;> exact Part.mem_others (by decide))
  case regReadLetter => exact tileLetterStep_queuesHeld (fun _ _ ht => regLetter_queuesHeld _ _ _ ht) h hstep
  case regWriteLetter => exact tileLetterStep_queuesHeld (fun _ _ ht => regLetter_queuesHeld _ _ _ ht) h hstep
  case ringFillLetter => exact tileLetterStep_queuesHeld ringFillLetter_queuesHeld h hstep
  case ringReadLetter =>
    exact h.keeps (by apply execRingReadLetter_keeps (ht := hstep) (h0 := Keeps.same) <;> exact Part.mem_others (by decide))
  case modeLetter =>
    exact h.keeps (by apply execModeLetter_keeps (ht := hstep) (h0 := Keeps.same) <;> exact Part.mem_others (by decide))
  case certGetLetter =>
    exact h.keeps (by apply execCertGetLetter_keeps (ht := hstep) (h0 := Keeps.same) <;> exact Part.mem_others (by decide))
  case keyWrapLetter =>
    exact h.keeps (by apply execKeyWrapLetter_keeps (ht := hstep) (h0 := Keeps.same) <;> exact Part.mem_others (by decide))
  case quoteReqLetter =>
    exact h.keeps (by apply execQuoteReqLetter_keeps (ht := hstep) (h0 := Keeps.same) <;> exact Part.mem_others (by decide))
  case keyDropLetter =>
    exact h.keeps (by apply execKeyDropLetter_keeps (ht := hstep) (h0 := Keeps.same) <;> exact Part.mem_others (by decide))
  case parcelData =>
    exact h.keeps (by apply execParcelData_keeps (ht := hstep) (h0 := Keeps.same) <;> exact Part.mem_others (by decide))
  case parcelQuery =>
    exact h.keeps (by apply execParcelQuery_keeps (ht := hstep) (h0 := Keeps.same) <;> exact Part.mem_others (by decide))
  case parcelArm => exact whenOn_queuesHeld (fun _ ht => onParcel_queuesHeld parcelArm_queuesHeld ht) h hstep
  case parcelAbandon => exact whenOn_queuesHeld (fun _ ht => onParcel_queuesHeld parcelAbandon_queuesHeld ht) h hstep
  case snapPartLetter _ =>
    exact whenOn_queuesHeld (fun _ ht => onSnap_queuesHeld (fun _ _ ht => snapPart_queuesHeld _ _ _ ht) ht) h hstep
  case snapCommitLetter _ =>
    dsimp only [execSnapCommitLetter] at hstep
    refine whenOn_queuesHeld (fun _ ht => ?_) h hstep
    exact ite_queuesHeld (fun _ => tryCommit_queuesHeld _ _ ht) fun _ =>
      onSnap_queuesHeld (fun _ _ ht => snapCommit_queuesHeld _ _ _ ht) ht
  case snapWaitTimeout _ => exact whenOn_queuesHeld snapTimeout_queuesHeld (advance_queuesHeld _ _ h) hstep
  case inboxRecord =>
    exact h.keeps (by apply execInboxRecord_keeps (ht := hstep) (h0 := Keeps.same) <;> exact Part.mem_others (by decide))
  case sendEntry _ =>
    exact whenOn_queuesHeld (fun _ ht => onEntryRead_queuesHeld (fun _ _ ht => sendEntry_queuesHeld _ _ _ ht) ht) h hstep
  case sendReply =>
    dsimp only [execSendReply] at hstep
    refine whenOn_queuesHeld (fun _ ht => ?_) h hstep
    exact ite_queuesHeld (fun _ => sendReplyStep_queuesHeld _ ht) fun _ => ht
  case sendTimeout _ => exact whenOn_queuesHeld sendTimeout_queuesHeld (advance_queuesHeld _ _ h) hstep
  case inboxEnable _ =>
    exact h.keeps (by apply execInboxEnable_keeps (ht := hstep) (h0 := Keeps.same) <;> exact Part.mem_others (by decide))
  case inboxRdWrite _ =>
    exact h.keeps (by apply execInboxRdWrite_keeps (ht := hstep) (h0 := Keeps.same) <;> exact Part.mem_others (by decide))
  case rollcallCell =>
    exact h.keeps (by apply execRollcallCell_keeps (ht := hstep) (h0 := Keeps.same) <;> exact Part.mem_others (by decide))
  case syncPostmark =>
    exact h.keeps (by apply execSyncPostmark_keeps (ht := hstep) (h0 := Keeps.same) <;> exact Part.mem_others (by decide))
  case preqPostmark =>
    exact h.keeps (by apply execPreqPostmark_keeps (ht := hstep) (h0 := Keeps.same) <;> exact Part.mem_others (by decide))
  case prespPostmark =>
    exact h.keeps (by apply execPrespPostmark_keeps (ht := hstep) (h0 := Keeps.same) <;> exact Part.mem_others (by decide))
  case preqSend _ _ =>
    exact h.keeps (by apply execPreqSend_keeps (ht := hstep) (h0 := Keeps.same) <;> exact Part.mem_others (by decide))
  case preqLost _ =>
    exact h.keeps (by apply execPreqLost_keeps (ht := hstep) (h0 := Keeps.same) <;> exact Part.mem_others (by decide))
  case syncLoss _ =>
    exact h.keeps (by apply execSyncLoss_keeps (ht := hstep) (h0 := Keeps.same) <;> exact Part.mem_others (by decide))
  case timeWrap =>
    exact h.keeps (by apply execTimeWrap_keeps (ht := hstep) (h0 := Keeps.same) <;> exact Part.mem_others (by decide))
  case timeAdjStep _ =>
    exact h.keeps (by apply execTimeAdjStep_keeps (ht := hstep) (h0 := Keeps.same) <;> exact Part.mem_others (by decide))
  case refArm _ => exact h.keeps (by apply execRefArm_keeps (ht := hstep) (h0 := Keeps.same) <;> exact Part.mem_others (by decide))
  case referenceEdge _ _ _ =>
    exact h.keeps (by apply execReferenceEdge_keeps (ht := hstep) (h0 := Keeps.same) <;> exact Part.mem_others (by decide))
  case referenceLoss _ =>
    exact h.keeps (by apply execReferenceLoss_keeps (ht := hstep) (h0 := Keeps.same) <;> exact Part.mem_others (by decide))
  case generatorEnable _ _ _ =>
    exact h.keeps (by apply execGeneratorEnable_keeps (ht := hstep) (h0 := Keeps.same) <;> exact Part.mem_others (by decide))
  case generatorDisable _ _ _ =>
    exact h.keeps (by apply execGeneratorDisable_keeps (ht := hstep) (h0 := Keeps.same) <;> exact Part.mem_others (by decide))
  case generatorPulse _ _ _ =>
    dsimp only [execGeneratorPulse] at hstep
    refine whenOn_queuesHeld (fun _ ht => ?_) (advance_queuesHeld _ _ h) hstep
    exact ite_queuesHeld (fun _ => generatorPulse_queuesHeld _ _ _ ht) fun _ => ht
  case captureEdge _ _ _ _ =>
    exact h.keeps (by apply execCaptureEdge_keeps (ht := hstep) (h0 := Keeps.same) <;> exact Part.mem_others (by decide))
  case cadgenWrite _ _ =>
    exact h.keeps (by apply execCadgenWrite_keeps (ht := hstep) (h0 := Keeps.same) <;> exact Part.mem_others (by decide))
  case tanEnable _ => exact fieldWrite_queuesHeld h hstep
  case tanDisable _ => exact fieldWrite_queuesHeld h hstep
  case heartbeatPulse _ => exact whenOn_queuesHeld heartbeat_queuesHeld (advance_queuesHeld _ _ h) hstep
  case tanTake _ => exact fieldWrite_queuesHeld h hstep
  case revertHoldExpiry _ => exact whenOn_queuesHeld revertExpiry_queuesHeld (advance_queuesHeld _ _ h) hstep
  case tanRenum _ => exact fieldWrite_queuesHeld h hstep
  case snapEntry _ =>
    dsimp only [execSnapEntry] at hstep
    refine whenOn_queuesHeld (fun _ ht => ?_) h hstep
    exact ite_queuesHeld (fun _ => onEntryRead_queuesHeld (fun _ _ ht => snapEntry_queuesHeld _ _ _ ht) ht) fun _ => ht
  case snapCommitRepeat _ =>
    exact h.keeps (by apply execSnapCommitRepeat_keeps (ht := hstep) (h0 := Keeps.same) <;> exact Part.mem_others (by decide))
  case claimExpiry _ _ =>
    exact h.keeps (by apply execClaimExpiry_keeps (ht := hstep) (h0 := Keeps.same) <;> exact Part.mem_others (by decide))
  case tileCadence _ => exact whenOn_queuesHeld tileCadence_queuesHeld (advance_queuesHeld _ _ h) hstep
  case commitInstant _ => exact whenOn_queuesHeld commitInstant_queuesHeld (advance_queuesHeld _ _ h) hstep
  case slotLatch _ _ => exact whenOn_queuesHeld (fun _ ht => slotLatch_queuesHeld _ _ ht) (advance_queuesHeld _ _ h) hstep
  case lmpCurveLoad _ =>
    exact next_queuesHeld (ite_queuesHeld (fun _ => onEntryRead_queuesHeld (fun _ _ ht => lmpCurve_queuesHeld _ _ _ ht) h)
      fun _ => h) hstep
  case dimWrite _ _ => exact next_queuesHeld (hostWrite_queuesHeld _ _ _ (advance_queuesHeld _ _ h)) hstep
  case lmpEnable _ => exact fieldWrite_queuesHeld h hstep
  case lmpDisable _ => exact fieldWrite_queuesHeld h hstep
  case svcPress _ =>
    exact h.keeps (by apply execSvcPress_keeps (ht := hstep) (h0 := Keeps.same) <;> exact Part.mem_others (by decide))
  case svcLongHold _ => exact whenOn_queuesHeld svcHold_queuesHeld (advance_queuesHeld _ _ h) hstep
  case locatorEnd _ =>
    exact h.keeps (by apply execLocatorEnd_keeps (ht := hstep) (h0 := Keeps.same) <;> exact Part.mem_others (by decide))
  case selfTestEnd _ =>
    exact h.keeps (by apply execSelfTestEnd_keeps (ht := hstep) (h0 := Keeps.same) <;> exact Part.mem_others (by decide))
  case spkEnable _ =>
    exact h.keeps (by apply execSpkEnable_keeps (ht := hstep) (h0 := Keeps.same) <;> exact Part.mem_others (by decide))
  case spkDisable _ =>
    exact h.keeps (by apply execSpkDisable_keeps (ht := hstep) (h0 := Keeps.same) <;> exact Part.mem_others (by decide))
  case spokeBringupRetry _ _ =>
    exact h.keeps (by apply execSpokeBringupRetry_keeps (ht := hstep) (h0 := Keeps.same) <;> exact Part.mem_others (by decide))
  case driverStatPoll _ =>
    exact h.keeps (by apply execDriverStatPoll_keeps (ht := hstep) (h0 := Keeps.same) <;> exact Part.mem_others (by decide))
  case spkReload =>
    exact h.keeps (by apply execSpkReload_keeps (ht := hstep) (h0 := Keeps.same) <;> exact Part.mem_others (by decide))
  case latchSend _ _ _ =>
    exact h.keeps (by apply execLatchSend_keeps (ht := hstep) (h0 := Keeps.same) <;> exact Part.mem_others (by decide))
  case lineSlot _ =>
    exact h.keeps (by apply execLineSlot_keeps (ht := hstep) (h0 := Keeps.same) <;> exact Part.mem_others (by decide))
  case slotEmissionEnd _ _ =>
    exact h.keeps (by apply execSlotEmissionEnd_keeps (ht := hstep) (h0 := Keeps.same) <;> exact Part.mem_others (by decide))
  case readAnswer _ _ =>
    exact h.keeps (by apply execReadAnswer_keeps (ht := hstep) (h0 := Keeps.same) <;> exact Part.mem_others (by decide))
  case readAbsent _ =>
    exact h.keeps (by apply execReadAbsent_keeps (ht := hstep) (h0 := Keeps.same) <;> exact Part.mem_others (by decide))
  case detectionRead _ _ _ _ =>
    exact h.keeps (by apply execDetectionRead_keeps (ht := hstep) (h0 := Keeps.same) <;> exact Part.mem_others (by decide))
  case faultTableClear =>
    exact h.keeps (by apply execFaultTableClear_keeps (ht := hstep) (h0 := Keeps.same) <;> exact Part.mem_others (by decide))
  case readbackSpokeClear _ =>
    exact h.keeps (by apply execReadbackSpokeClear_keeps (ht := hstep) (h0 := Keeps.same) <;> exact Part.mem_others (by decide))
  case dramReadRequest _ _ _ _ =>
    exact h.keeps (by apply execDramReadRequest_keeps (ht := hstep) (h0 := Keeps.same) <;> exact Part.mem_others (by decide))
  case dramReadReturn _ _ _ _ =>
    exact h.keeps (by apply execDramReadReturn_keeps (ht := hstep) (h0 := Keeps.same) <;> exact Part.mem_others (by decide))
  case dramWriteRequest _ _ _ _ _ _ =>
    exact h.keeps (by apply execDramWriteRequest_keeps (ht := hstep) (h0 := Keeps.same) <;> exact Part.mem_others (by decide))
  case dramPartialWrite _ _ _ _ _ =>
    exact h.keeps (by apply execDramPartialWrite_keeps (ht := hstep) (h0 := Keeps.same) <;> exact Part.mem_others (by decide))
  case refreshDue _ _ _ =>
    exact h.keeps (by apply execRefreshDue_keeps (ht := hstep) (h0 := Keeps.same) <;> exact Part.mem_others (by decide))
  case refreshPullin _ _ _ =>
    exact h.keeps (by apply execRefreshPullin_keeps (ht := hstep) (h0 := Keeps.same) <;> exact Part.mem_others (by decide))
  case patrolScrub _ _ =>
    exact h.keeps (by apply execPatrolScrub_keeps (ht := hstep) (h0 := Keeps.same) <;> exact Part.mem_others (by decide))
  case mr4Poll _ =>
    exact h.keeps (by apply execMr4Poll_keeps (ht := hstep) (h0 := Keeps.same); exact Part.mem_others (by decide))
  case selfRefreshEntry _ _ =>
    exact h.keeps (by apply execSelfRefreshEntry_keeps (ht := hstep) (h0 := Keeps.same) <;> exact Part.mem_others (by decide))
  case selfRefreshExit _ _ =>
    exact h.keeps (by apply execSelfRefreshExit_keeps (ht := hstep) (h0 := Keeps.same) <;> exact Part.mem_others (by decide))
  case freqChangeGo _ =>
    exact h.keeps (by apply execFreqChangeGo_keeps (ht := hstep) (h0 := Keeps.same) <;> exact Part.mem_others (by decide))
  case freqChangeTimeout _ =>
    exact h.keeps (by apply execFreqChangeTimeout_keeps (ht := hstep) (h0 := Keeps.same) <;> exact Part.mem_others (by decide))
  case dramTrackStep _ _ =>
    exact h.keeps (by apply execDramTrackStep_keeps (ht := hstep) (h0 := Keeps.same) <;> exact Part.mem_others (by decide))
  case standbyRetrain _ _ _ _ =>
    exact h.keeps (by apply execStandbyRetrain_keeps (ht := hstep) (h0 := Keeps.same) <;> exact Part.mem_others (by decide))
  case sensorSample _ _ _ =>
    exact whenOn_queuesHeld (fun _ ht => sensorSample_queuesHeld _ _ _ ht) (advance_queuesHeld _ _ h) hstep
  case throttleStepDown _ =>
    exact h.keeps (by apply execThrottleStepDown_keeps (ht := hstep) (h0 := Keeps.same) <;> exact Part.mem_others (by decide))
  case throttleStepUp _ =>
    exact h.keeps (by apply execThrottleStepUp_keeps (ht := hstep) (h0 := Keeps.same) <;> exact Part.mem_others (by decide))
  case thmFailClear _ => exact next_queuesHeld (hostWrite_queuesHeld _ _ _ h) hstep
  case t5Shutdown _ => exact whenOn_queuesHeld t5Step_queuesHeld (advance_queuesHeld _ _ h) hstep
  case orderlyShutdown => exact whenOn_queuesHeld orderlyShutdown_queuesHeld h hstep
  case hardwareTrip _ => exact next_queuesHeld (hardwareTrip_queuesHeld _ _ h) hstep
  case powerRequest _ => exact fieldWrite_queuesHeld h hstep
  case powerStateReached _ => exact whenOn_queuesHeld powerMove_queuesHeld (advance_queuesHeld _ _ h) hstep
  case recalStart _ =>
    exact h.keeps (by apply execRecalStart_keeps (ht := hstep) (h0 := Keeps.same) <;> exact Part.mem_others (by decide))
  case recalManualStart _ =>
    exact h.keeps (by apply execRecalManualStart_keeps (ht := hstep) (h0 := Keeps.same) <;> exact Part.mem_others (by decide))
  case recalPannierMatched =>
    exact h.keeps (by apply execRecalPannierMatched_keeps (ht := hstep) (h0 := Keeps.same) <;> exact Part.mem_others (by decide))
  case recalMeasureWindow _ _ _ _ =>
    exact h.keeps (by apply execRecalMeasureWindow_keeps (ht := hstep) (h0 := Keeps.same) <;> exact Part.mem_others (by decide))
  case recalLaneMatched _ =>
    exact h.keeps (by apply execRecalLaneMatched_keeps (ht := hstep) (h0 := Keeps.same) <;> exact Part.mem_others (by decide))
  case recalSwitchBack _ _ =>
    exact h.keeps (by apply execRecalSwitchBack_keeps (ht := hstep) (h0 := Keeps.same) <;> exact Part.mem_others (by decide))
  case recalAbort _ =>
    exact h.keeps (by apply execRecalAbort_keeps (ht := hstep) (h0 := Keeps.same) <;> exact Part.mem_others (by decide))
  case calDisable _ =>
    exact h.keeps (by apply execCalDisable_keeps (ht := hstep) (h0 := Keeps.same) <;> exact Part.mem_others (by decide))
  case calSetSave _ =>
    exact h.keeps (by apply execCalSetSave_keeps (ht := hstep) (h0 := Keeps.same) <;> exact Part.mem_others (by decide))
  case keysetEntry => exact whenOn_queuesHeld (fun _ ht => onEntry_queuesHeld keyset_queuesHeld ht) h hstep
  case enrolEntry => exact whenOn_queuesHeld (fun _ ht => onEntry_queuesHeld enrolStart_queuesHeld ht) h hstep
  case enrolReply =>
    dsimp only [execEnrolReply] at hstep
    refine whenOn_queuesHeld (fun _ ht => ?_) h hstep
    exact ite_queuesHeld (fun _ => enrolReplyStep_queuesHeld _ ht) fun _ => ht
  case enrolTimeout _ => exact whenOn_queuesHeld enrolTimeout_queuesHeld (advance_queuesHeld _ _ h) hstep
  case switchEntry => exact whenOn_queuesHeld (fun _ ht => onEntry_queuesHeld switchEntry_queuesHeld ht) h hstep
  case quoteEntry _ =>
    dsimp only [execQuoteEntry] at hstep
    refine whenOn_queuesHeld (fun _ ht => ?_) h hstep
    exact onEntryRead_queuesHeld (fun _ _ ht => quoteEntry_queuesHeld _ _ _ ht) ht
  case extendEntry _ =>
    dsimp only [execExtendEntry] at hstep
    refine whenOn_queuesHeld (fun _ ht => ?_) h hstep
    exact onEntryRead_queuesHeld (fun _ _ ht => extendEntry_queuesHeld _ _ _ ht) ht
  case lifeEntry _ =>
    dsimp only [execLifeEntry] at hstep
    refine whenOn_queuesHeld (fun _ ht => ?_) h hstep
    exact onEntryRead_queuesHeld (fun _ _ ht => lifeEntry_queuesHeld _ _ _ ht) ht
  case dbgtoken _ =>
    exact h.keeps (by apply execDbgtoken_keeps (ht := hstep) (h0 := Keeps.same) <;> exact Part.mem_others (by decide))
  case dbgnonce =>
    exact h.keeps (by apply execDbgnonce_keeps (ht := hstep) (h0 := Keeps.same) <;> exact Part.mem_others (by decide))
  case regacc _ _ => exact whenOn_queuesHeld (fun _ ht => regAcc_queuesHeld _ _ _ ht) h hstep
  case memacc _ _ _ _ =>
    exact h.keeps (by apply execMemacc_keeps (ht := hstep) (h0 := Keeps.same) <;> exact Part.mem_others (by decide))
  case trace _ => exact h.keeps (by apply execTrace_keeps (ht := hstep) (h0 := Keeps.same) <;> exact Part.mem_others (by decide))
  case extest => exact h.keeps (by apply execExtest_keeps (ht := hstep) (h0 := Keeps.same) <;> exact Part.mem_others (by decide))
  case signEngineDone _ => exact whenOn_queuesHeld engineDone_queuesHeld (advance_queuesHeld _ _ h) hstep
  case receiptIntervalClose _ =>
    exact h.keeps (by apply execReceiptIntervalClose_keeps (ht := hstep) (h0 := Keeps.same) <;> exact Part.mem_others (by decide))
  case receiptSigned =>
    exact h.keeps (by apply execReceiptSigned_keeps (ht := hstep) (h0 := Keeps.same) <;> exact Part.mem_others (by decide))
  case crcRecordWrite _ =>
    exact h.keeps (by apply execCrcRecordWrite_keeps (ht := hstep) (h0 := Keeps.same) <;> exact Part.mem_others (by decide))
  case stageEntry _ =>
    dsimp only [execStageEntry] at hstep
    refine whenOn_queuesHeld (fun _ ht => ?_) h hstep
    exact onEntryRead_queuesHeld (fun _ _ ht => stageEntry_queuesHeld _ _ _ ht) ht
  case pushEntry _ =>
    dsimp only [execPushEntry] at hstep
    refine whenOn_queuesHeld (fun _ ht => ?_) h hstep
    exact onEntryRead_queuesHeld (fun _ _ ht => pushEntry_queuesHeld _ _ _ ht) ht
  case activateEntry => exact whenOn_queuesHeld (fun _ ht => onEntry_queuesHeld activateEntry_queuesHeld ht) h hstep
  case confirmEntry => exact whenOn_queuesHeld (fun _ ht => onEntry_queuesHeld confirmEntry_queuesHeld ht) h hstep
  case abandonEntry => exact whenOn_queuesHeld (fun _ ht => onEntry_queuesHeld abandonEntry_queuesHeld ht) h hstep
  case hostimgEntry => exact whenOn_queuesHeld (fun _ ht => onEntry_queuesHeld hostimgEntry_queuesHeld ht) h hstep
  case updConfirmWrite => exact fieldWrite_queuesHeld h hstep
  case updAbandonWrite => exact fieldWrite_queuesHeld h hstep
  case verifyDone =>
    exact h.keeps (by apply execVerifyDone_keeps (ht := hstep) (h0 := Keeps.same) <;> exact Part.mem_others (by decide))
  case activationInstant _ => exact whenOn_queuesHeld activationStep_queuesHeld (advance_queuesHeld _ _ h) hstep
  case trialConfirm =>
    exact h.keeps (by apply execTrialConfirm_keeps (ht := hstep) (h0 := Keeps.same) <;> exact Part.mem_others (by decide))
  case confirmWindowExpiry _ => exact whenOn_queuesHeld confirmExpiry_queuesHeld (advance_queuesHeld _ _ h) hstep
  case recoveryGo _ => exact fieldWrite_queuesHeld h hstep
  case blockReceive _ _ _ _ =>
    exact h.keeps (by apply execBlockReceive_keeps (ht := hstep) (h0 := Keeps.same) <;> exact Part.mem_others (by decide))
  case pllUnlock _ =>
    exact h.keeps (by apply execPllUnlock_keeps (ht := hstep) (h0 := Keeps.same); exact Part.mem_others (by decide))
  case flashOperationDone _ => exact whenOn_queuesHeld (fun _ ht => flashDone_queuesHeld _ _ ht) h hstep
  case pushReply =>
    dsimp only [execPushReply] at hstep
    refine whenOn_queuesHeld (fun _ ht => ?_) h hstep
    exact ite_queuesHeld (fun _ => pushReplyStep_queuesHeld _ ht) fun _ => ht
  case pcieD3hotChange _ =>
    exact h.keeps (by apply execPcieD3hotChange_keeps (ht := hstep) (h0 := Keeps.same); exact Part.mem_others (by decide))

end

/-- Settles O10: reset leaves no record, and every command and every passing of time keeps the numbers. -/
theorem queueNumbersStay : Obligations.QueueNumbersStay := by
  unfold Obligations.QueueNumbersStay
  refine ⟨(resetCore_queuesHeld State.reset : QueuesHeld State.reset), fun s t h hstep => ?_⟩
  unfold step at hstep
  split at hstep
  case h_1 => exact next_queuesHeld (idle_queuesHeld s h) hstep
  case h_2 c rest _ => exact exec_queuesHeld c hstep (queuesHeld_record.2 h)

end Sys2Proof.Machine
end

section
/-! PROOF. The DMA engine (R126, R133 to R138, R143, R151): a channel in which nothing can go on by itself, where an access goes
after a translation is used, one block of host data moved to DRAM, and the three commands that end a read or a descriptor. -/

namespace Sys2Proof.Machine

/-! ### A channel that rests -/

theorem chan_setChan (s : State) (c : Nat) (x : Chan) : chan (setChan s c x) c = x := tget_tset_same _ _ _ _

theorem chan_congr {s t : State} (h : t.dma = s.dma) (c : Nat) : chan t c = chan s c := by rw [chan, chan, h]

/-- Storing a table entry a second time changes nothing. -/
theorem tset_tset_same {α : Type} [DecidableEq α] (d : α) (m : List (Nat × α)) (k : Nat) (v : α) :
    tset d (tset d m k v) k v = tset d m k v := by
  have hins (l : List (Nat × α)) : (tins k v l).filter (fun e => e.1 != k) = l.filter (fun e => e.1 != k) := by
    induction l with
    | nil => simp [tins]
    | cons e l ih =>
      rw [tins]
      split
      · simp
      · simp only [List.filter_cons, ih]
  by_cases hv : v = d <;> simp [tset, hv, hins]

/-- Nothing of the channel can go on by itself: its shadow set is empty, and it has no other descriptor, or an active one that has
not failed, holds nothing back, and waits for a list segment or for its last write. -/
structure Resting (x : Chan) : Prop where
  shadow : x.shadow = none
  susp : x.active = none → x.susp = none
  fault : ∀ d, x.active = some d → d.fault = none
  held : ∀ d, x.active = some d → d.held = none
  waits : ∀ d, x.active = some d → d.wantSrc = true ∨ d.wantDst = true ∨ d.len ≤ d.done

section
variable {s u : State} {c : Nat} {x : Chan}

theorem endFailed_of_resting (hr : Resting (chan s c)) : endFailed s c = s := by
  unfold endFailed
  dsimp only
  split
  case h_1 d hd => rw [hr.fault d hd]; rfl
  case h_2 => rfl

theorem dropShadow_of_resting (hr : Resting (chan s c)) : dropShadow s c = s := by simp only [dropShadow, hr.shadow]

theorem swapIn_of_resting (hr : Resting (chan s c)) : swapIn s c = s := by simp only [swapIn, hr.shadow]

theorem promote_of_resting (hr : Resting (chan s c)) : promote s c = s := by
  unfold promote
  dsimp only
  split
  case isTrue => rfl
  case isFalse h => rw [hr.susp (by simpa using h), hr.shadow]

theorem shadowAsk_of_resting (hr : Resting (chan s c)) : shadowAsk s c = s := by simp only [shadowAsk, hr.shadow]

/-- A resting channel writes its active descriptor back as it was. -/
theorem dmaPump_of_resting (hr : Resting (chan s c)) (hs : setChan s c (chan s c) = s) : dmaPump s c = s := by
  unfold dmaPump
  split
  case h_1 => rfl
  case h_2 d hd =>
    have hput : putHeld s c d = (d, s) := by rw [putHeld, hr.held d hd]
    have hback : setChan s c { chan s c with active := some d } = s := by rw [← hd, hs]
    have hwaits := hr.waits d hd
    rw [hput]
    dsimp only
    rw [hback, if_pos]
    rcases hwaits with h | h | h <;> simp [h]

theorem settleOnce_of_resting (hr : Resting (chan s c)) (hs : setChan s c (chan s c) = s) : settleOnce s c = s := by
  rw [settleOnce, endFailed_of_resting hr, dropShadow_of_resting hr, swapIn_of_resting hr, promote_of_resting hr,
    dmaPump_of_resting hr hs, shadowAsk_of_resting hr]

/-- A channel whose record was stored just now and rests settles at once: only its registers follow (R151). -/
theorem settle_of_resting (hd : u.dma = (setChan s c x).dma) (hr : Resting x) : settle u c = dmaShow u c := by
  have hx : chan u c = x := (chan_congr hd c).trans (chan_setChan s c x)
  have hs : setChan u c (chan u c) = u := by
    rw [hx, setChan, hd]
    exact congrArg (fun l => { u with dma := l }) ((tset_tset_same _ _ _ _).trans hd.symm)
  rw [← hx] at hr
  rw [settle]
  simp only [settleOnce_of_resting hr hs, hr.shadow, Option.isSome_none, Bool.false_and, Bool.false_eq_true, if_false]

end

theorem chan_dmaShow (s : State) (c k : Nat) : chan (dmaShow s c) k = chan s k :=
  chan_congr (same_of_keeps .dma (dmaShow_keeps s c (by decide) (by decide) Keeps.same)) k

theorem dram_dmaShow (s : State) (c : Nat) : (dmaShow s c).dram = s.dram :=
  same_of_keeps .dram (dmaShow_keeps s c (by decide) (by decide) Keeps.same)

/-- The channel's record after it has settled at rest. -/
theorem chan_settle_setChan {x : Chan} (s : State) (c : Nat) (hr : Resting x) : chan (settle (setChan s c x) c) c = x := by
  rw [settle_of_resting rfl hr, chan_dmaShow, chan_setChan]

theorem chan_dropRead (s : State) (who : Rd) (c : Nat) : chan (dropRead s who) c = chan s c :=
  chan_congr (same_of_keeps .dma (dropRead_keeps s who (by decide) (by decide) (by decide) Keeps.same)) c

theorem dram_dropRead (s : State) (who : Rd) : (dropRead s who).dram = s.dram :=
  same_of_keeps .dram (dropRead_keeps s who (by decide) (by decide) (by decide) Keeps.same)

/-! ### Where an access goes (R136, R178, R179) -/

/-- The registers that the place of an access depends on. -/
def placeRegs : List Nat :=
  [R.HIF_LINKSTAT, R.SRF_CTL, R.SRF_POOLBASE, R.SRF_TBLLEN, R.THM_PWR, R.GLB_ROLE, R.GLB_BLKRST]

theorem placeRegs_ranges : ∀ o ∈ placeRegs, o < 0x38000 ∨ 0xA0000 ≤ o ∧ o < 0xA0010 ∨ 0x140000 ≤ o := by decide

theorem pba_not_mem_placeRegs (k : Nat) : 0x38000 + 4 * (k % 64) ∉ placeRegs := by
  intro hmem
  have := placeRegs_ranges _ hmem
  omega

theorem perr_not_mem_placeRegs (i : Nat) : R.CHN_PERR i ∉ placeRegs := by
  intro hmem
  have hrange := placeRegs_ranges _ hmem
  simp only [R.CHN_PERR] at hrange
  omega

section
variable {s t : State} (hregs : RegsBut (fun o => o ∉ placeRegs) s t) (hboot : t.boot = s.boot)
include hregs

theorem getF_of_placeRegs {f : Fld} (h : f.off ∈ placeRegs) : getF t f = getF s f :=
  congrArg f.get (hregs f.off (fun hn => hn h))

theorem isSet_of_placeRegs {f : Fld} (h : f.off ∈ placeRegs) : isSet t f = isSet s f :=
  isSet_congr (getF_of_placeRegs hregs h)

include hboot

theorem blkOn_of_placeRegs (id : Nat) : blkOn t id = blkOn s id := by
  have hrole : t.word R.GLB_ROLE = s.word R.GLB_ROLE := hregs _ (fun hn => hn (by decide))
  have hhostless : isHostless t = isHostless s := isSet_of_placeRegs hregs (by decide)
  have hpower : power t = power s := getF_of_placeRegs hregs (by decide)
  have hreset : blkReset t id = blkReset s id :=
    congrArg (fun n => n.testBit id) (getF_of_placeRegs hregs (f := F.GLB_BLKRST_BLK) (by decide))
  have hdormant : dormant t id = dormant s id := by
    rw [dormant, dormant, isSender, isSender, strap_congr hrole, strapFault_congr hrole, hhostless]
  rw [blkOn, blkOn, inReset, inReset, coldHeld_congr hboot, hboot, hpower, hreset, hdormant]

theorem placeMap_of_placeRegs (hsegs : t.srf.segs = s.srf.segs) (sp a : Nat) : placeMap t sp a = placeMap s sp a := by
  have hup : isSet t F.HIF_LINKSTAT_UP = isSet s F.HIF_LINKSTAT_UP := isSet_of_placeRegs hregs (by decide)
  have hctl : isSet t F.SRF_CTL_EN = isSet s F.SRF_CTL_EN := isSet_of_placeRegs hregs (by decide)
  have hmap : pageMap t = pageMap s := by
    funext vp
    rw [pageMap, pageMap, srfOn, srfOn, blkOn_of_placeRegs hregs hboot, hctl, hsegs]
  rw [placeMap, placeMap, hup, hmap]

end

theorem placeMap_of_dram {s : State} {sp a p : Nat} (h : place s sp a = .dram p) : placeMap s sp a = .dram p := by
  unfold place at h
  split at h
  case isTrue => cases h
  case isFalse => exact h

/-- A host read that has been answered leaves every address where it was. -/
theorem place_dropRead (s : State) (who : Rd) (sp a : Nat) : place (dropRead s who) sp a = place s sp a := by
  obtain ⟨_, _, hsame⟩ := dropRead_keeps (W0 := [.regs, .hif, .out]) s who (by decide) (by decide) (by decide) Keeps.same
  have hregs : RegsBut (fun o => o ∉ placeRegs) s (dropRead s who) := dropRead_regs s who pba_not_mem_placeRegs RegsBut.same
  have hsrf : (dropRead s who).srf = s.srf := hsame .srf (by decide)
  have hdrc : (dropRead s who).drc = s.drc := hsame .drc (by decide)
  have hboot : (dropRead s who).boot = s.boot := hsame .boot (by decide)
  have hbase : getF (dropRead s who) F.SRF_POOLBASE_BASE = getF s F.SRF_POOLBASE_BASE := getF_of_placeRegs hregs (by decide)
  have hlen : getF (dropRead s who) F.SRF_TBLLEN_LEN = getF s F.SRF_TBLLEN_LEN := getF_of_placeRegs hregs (by decide)
  rw [place, place, placeMap_of_placeRegs hregs hboot (congrArg SrfSt.segs hsrf), walkBad, walkBad, tableBlock, tableBlock, hsrf,
    hdrc, hbase, hlen]

/-- Stated apart: a proof by `rfl` about the draw of a walk would have the kernel evaluate the walk's state. -/
theorem drawNat_srf (s : State) : (drawNat s).2.srf = s.srf := rfl

/-- A translation that can be read is cached by its use. -/
theorem srfWalk_of_good {s : State} {vp : Nat} (h : walkBad s vp = false) :
    srfWalk s vp = s ∧ s.srf.tc.contains vp = true ∨
      ∃ (u : State) (tc : List Nat), srfWalk s vp = { u with srf := { u.srf with tc := vp :: tc } } ∧ u.srf = s.srf := by
  by_cases hc : s.srf.tc.contains vp = true
  · exact .inl ⟨if_pos hc, hc⟩
  · refine .inr ?_
    have hsrf : (drawNat (incMod s F.SRF_TCMISS_COUNT)).2.srf = s.srf := by rw [drawNat_srf, incMod_srf]
    rw [srfWalk, if_neg hc, h, if_neg (by decide)]
    generalize drawNat (incMod s F.SRF_TCMISS_COUNT) = e at hsrf ⊢
    obtain ⟨r, u⟩ := e
    exact ⟨u, _, rfl, hsrf⟩

theorem segs_srfWalk {s : State} {vp : Nat} (h : walkBad s vp = false) : (srfWalk s vp).srf.segs = s.srf.segs := by
  obtain ⟨hs, _⟩ | ⟨u, tc, hs, hu⟩ := srfWalk_of_good h
  · rw [hs]
  · rw [hs, ← hu]

theorem walkBad_srfWalk {s : State} {vp : Nat} (h : walkBad s vp = false) : walkBad (srfWalk s vp) vp = false := by
  have htc : (srfWalk s vp).srf.tc.contains vp = true := by
    obtain ⟨hs, hc⟩ | ⟨u, tc, hs, _⟩ := srfWalk_of_good h
    · rw [hs, hc]
    · simp [hs]
  rw [walkBad, htc, Bool.not_true, Bool.false_and]

/-- The use of a translation that can be read leaves the address where it was. -/
theorem place_srfWalk {s : State} {a p : Nat} (h : place s 1 a = .dram p) : place (srfWalk s (a / 65536)) 1 a = .dram p := by
  have hgood : walkBad s (a / 65536) = false := by
    by_contra hb
    rw [Bool.not_eq_false] at hb
    simp [place, hb] at h
  have hkeeps := srfWalk_keeps (W0 := Part.boot.others) s (a / 65536) (by decide) (by decide) (by decide) (by decide) (by decide)
    (by decide) (by decide) Keeps.same
  have hregs : RegsBut (fun o => o ∉ placeRegs) s (srfWalk s (a / 65536)) :=
    srfWalk_regs s _ pba_not_mem_placeRegs (by decide) (by decide) perr_not_mem_placeRegs (by decide) (by decide) RegsBut.same
  rw [place, walkBad_srfWalk hgood, Bool.and_false, if_neg (by decide),
    placeMap_of_placeRegs hregs (same_of_keeps .boot hkeeps) (segs_srfWalk hgood), placeMap_of_dram h]

/-- An address in DRAM is not reached across UCIe. -/
theorem viaHost_of_dram {s : State} {sp a p : Nat} (h : place s sp a = .dram p) : viaHost s sp a = false := by
  have hmap := placeMap_of_dram h
  by_cases hsp : sp = 0
  · simp only [placeMap, hsp, if_true] at hmap
    split at hmap <;> cases hmap
  · simp only [placeMap, hsp, if_false] at hmap
    split at hmap
    case h_1 q hq => simp [viaHost, hsp, hq]
    case h_2 q hq => split at hmap <;> cases hmap
    case h_3 => cases hmap

/-- A write to DRAM never waits for Bus Master Enable. -/
theorem hostShut_of_dram {s : State} {x : Side} {e : Elem} {l : List Elem} {p : Nat} (hx : x.elems = e :: l)
    (h : place s x.sp e.addr = .dram p) : hostShut s x = false := by
  simp only [hostShut, headHost, hx, viaHost_of_dram h, Bool.and_false]

/-! ### Registers of a channel (R151, R152) -/

/-- What DMA_CHSTAT.STATE shows (R151). -/
theorem getF_dmaShow_state (s : State) (c : Nat) : getF (dmaShow s c) (F.DMA_CHSTAT_STATE c) =
    if (chan s c).susp.isSome then 3 else if (chan s c).active.isSome then 2
    else if isSet s (F.DMA_CHCFG_ENABLE c) then 1 else 0 := by
  rw [dmaShow, getF_of_regs (showTarget_regs _ _ _ _ (fun i => by simp only [R.SOR_TGTSTAT]; omega) RegsBut.same)]
  have hwidth : (F.DMA_CHSTAT_STATE c).lo + (F.DMA_CHSTAT_STATE c).width ≤ 32 := show 0 + 2 ≤ 32 by decide
  rw [getF_setF_apart _ (F.DMA_CHSTAT_QID c) (F.DMA_CHSTAT_STATE c) _ rfl hwidth (.inr (show 0 + 2 ≤ 16 by decide)),
    getF_setF_apart _ (F.DMA_CHSTAT_SHADOW c) (F.DMA_CHSTAT_STATE c) _ rfl hwidth (.inr (show 0 + 2 ≤ 2 by decide)),
    getF_setF_same _ _ _ hwidth]
  refine Nat.mod_eq_of_lt (show _ < 4 from ?_)
  split_ifs <;> decide

/-- A channel without a descriptor shows whether it is enabled. -/
theorem getF_dmaShow_idle {s : State} {c : Nat} (hactive : (chan s c).active = none) (hsusp : (chan s c).susp = none) :
    getF (dmaShow s c) (F.DMA_CHSTAT_STATE c) = getF s (F.DMA_CHCFG_ENABLE c) := by
  have hlt : getF s (F.DMA_CHCFG_ENABLE c) < 2 := getF_lt s _
  rw [getF_dmaShow_state, hactive, hsusp]
  by_cases h : getF s (F.DMA_CHCFG_ENABLE c) = 0
  · simp [isSet, h]
  · simp [isSet, show getF s (F.DMA_CHCFG_ENABLE c) = 1 by omega]

theorem getF_dmaShow_count (s : State) (c k : Nat) : getF (dmaShow s c) (F.DMA_CHCNT_CNT k) = getF s (F.DMA_CHCNT_CNT k) :=
  getF_of_regs (dmaShow_regs s c (fun i => by simp only [R.DMA_CHSTAT]; omega) (fun i => by simp only [R.SOR_TGTSTAT]; omega)
    RegsBut.same)

/-! ### The end of a descriptor (R138, R144, R152) -/

/-- A channel whose active descriptor has left it. -/
def channelFreed (s : State) (c : Nat) : State := setChan s c { chan s c with active := none }

theorem descComplete_last {s : State} {c : Nat} {d : Desc} (hact : (chan s c).active = some d) (hfault : d.fault = none)
    (hlen : d.len ≤ d.done) (hasked : d.asked = 0) :
    descComplete s c = settle (dmaEnd (channelFreed s c) c d) c := by
  simp [descComplete, channelFreed, hact, hfault, hlen, hasked]

theorem dma_dmaEnd (s : State) (c : Nat) (d : Desc) : (dmaEnd s c d).dma = s.dma :=
  same_of_keeps .dma (dmaEnd_keeps s c d (by decide) (by decide) (by decide) (by decide) (by decide) (by decide) Keeps.same)

theorem getF_dmaEnd_enable (s : State) (c : Nat) (d : Desc) (k : Nat) :
    getF (dmaEnd s c d) (F.DMA_CHCFG_ENABLE k) = getF s (F.DMA_CHCFG_ENABLE k) :=
  getF_of_regs (dmaEnd_regs s c d (fun i => by simp only; omega) (fun i => by simp only [R.QUE_STAT]; omega)
    (fun i => by simp only [R.QUE_RET]; omega) (fun i => by simp only [R.DMA_CHCNT]; omega)
    (fun i => by simp only [R.DMA_CHDEAD]; omega) RegsBut.same)

/-- A descriptor that ends with OK is written back and counted. -/
theorem dmaEnd_ok (s : State) (c : Nat) {d : Desc} (h : d.fault = none) :
    ∃ words, dmaEnd s c d = incMod (complete40 s d.item words .ok) (F.DMA_CHCNT_CNT c) := by
  rw [dmaEnd, h]
  exact ⟨_, by simp [dmaFinish]; rfl⟩

theorem getF_complete40_count (s : State) (it : Item) (words : Bytes) (code : Status) (dead : Bool) (k : Nat) :
    getF (complete40 s it words code dead) (F.DMA_CHCNT_CNT k) = getF s (F.DMA_CHCNT_CNT k) :=
  getF_of_regs (complete40_regs s it words code dead (fun i => by simp only; omega) (fun i => by simp only [R.QUE_STAT]; omega)
    (fun i => by simp only [R.QUE_RET]; omega) RegsBut.same)

theorem getF_dmaEnd_count (s : State) (c : Nat) {d : Desc} (h : d.fault = none) :
    getF (dmaEnd s c d) (F.DMA_CHCNT_CNT c) = (getF s (F.DMA_CHCNT_CNT c) + 1) % 2 ^ (F.DMA_CHCNT_CNT c).width := by
  obtain ⟨words, hend⟩ := dmaEnd_ok s c h
  rw [hend, incMod, getF_setF_same _ _ _ (show 0 + 32 ≤ 32 by decide), Nat.mod_mod, getF_complete40_count]

/-- The last write of a descriptor completes it, and its channel is idle. -/
theorem descComplete_effect {s : State} {c : Nat} {d : Desc} (hact : (chan s c).active = some d)
    (hshadow : (chan s c).shadow = none) (hsusp : (chan s c).susp = none) (hfault : d.fault = none)
    (hlen : d.len ≤ d.done) (hasked : d.asked = 0) :
    (chan (descComplete s c) c).active = none ∧
      getF (descComplete s c) (F.DMA_CHCNT_CNT c) = (getF s (F.DMA_CHCNT_CNT c) + 1) % 2 ^ (F.DMA_CHCNT_CNT c).width ∧
      getF (descComplete s c) (F.DMA_CHSTAT_STATE c) = getF s (F.DMA_CHCFG_ENABLE c) := by
  have hdma : (dmaEnd (channelFreed s c) c d).dma = (channelFreed s c).dma := dma_dmaEnd _ _ _
  have hchan : chan (dmaEnd (channelFreed s c) c d) c = { chan s c with active := none } :=
    (chan_congr hdma c).trans (chan_setChan s c _)
  have hrest : Resting { chan s c with active := none } := ⟨hshadow, fun _ => hsusp, by simp, by simp, by simp⟩
  rw [descComplete_last hact hfault hlen hasked, settle_of_resting hdma hrest]
  refine ⟨?active, ?count, ?state⟩
  case active => rw [chan_dmaShow, hchan]
  case count =>
    rw [getF_dmaShow_count, getF_dmaEnd_count _ _ hfault]
    rfl
  case state =>
    rw [getF_dmaShow_idle (by rw [hchan]) (by rw [hchan, hsusp]), getF_dmaEnd_enable]
    rfl

/-! ### A list segment that returns (R133, R135) -/

/-- A segment of a source list in host memory that passes its checks is taken into the source. -/
theorem segDone_source {s : State} {c a : Nat} {b : Bytes} {d : Desc} (hact : (chan s c).active = some d) (hsrc : d.wantSrc = true)
    (hplace : place s d.src.sp d.src.next = .host a) (hcheck : segCheck (fit 64 b) d.src.sp (d.len - d.done) d.src.segs = none) :
    segDone s c false false (.data b) = settle (setChan (dropRead s (.seg c false false)) c { chan s c with
      active := some { d with wantSrc := false, src := sideFeed d.src (fit 64 b) (d.len - d.done) } }) c := by
  have hchan : chan (dropRead s (.seg c false false)) c = chan s c := chan_dropRead _ _ _
  simp [segDone, hchan, hact, hsrc, place_dropRead, hplace, hcheck]

/-! ### One block of host data (R133, R136, R138, R152) -/

/-- A channel that has written one more block. -/
def Chan.counted (x : Chan) : Chan := { x with bytes := (x.bytes + 64) % 2 ^ 64 }

/-- A descriptor that has written one more block; `o` is the content of DRAM that it keeps (R142). -/
def Desc.advanced (d : Desc) (o : List (Nat × Bytes)) (now : Nat) : Desc :=
  { d with orig := o, dst := sideDrop d.dst 64, src := sideDrop d.src 64, done := d.done + 64, wrote := some now }

theorem srfWalk_frame (s : State) (vp : Nat) : (srfWalk s vp).dma = s.dma ∧ (srfWalk s vp).dram = s.dram := by
  obtain ⟨_, _, hsame⟩ := srfWalk_keeps (W0 := [.regs, .hif, .srf, .drc, .chn, .out, .free]) s vp (by decide) (by decide)
    (by decide) (by decide) (by decide) (by decide) (by decide) Keeps.same
  exact ⟨hsame .dma (by decide), hsame .dram (by decide)⟩

section
variable {s : State} {c : Nat} {d : Desc} {b : Bytes} {e e' : Elem} {l l' : List Elem} {h p : Nat}

theorem putBlock_of_dram (hdst : d.dst.elems = e :: l) (hsp : d.dst.sp = 1) (hplace : place s 1 e.addr = .dram p) :
    ∃ o, putBlock s c d b = (d.advanced o (timeNs (srfWalk s (e.addr / 65536))),
      setChan (dramWr (srfWalk s (e.addr / 65536)) p b) c (chan s c).counted) := by
  rw [← chan_congr (srfWalk_frame s (e.addr / 65536)).1 c, putBlock, hdst]
  simp only [hsp, if_true, place_srfWalk hplace]
  split
  · exact ⟨_, rfl⟩
  · exact ⟨_, rfl⟩

theorem moveBlocks_one (hfault : d.fault = none) (hopen : hostShut s d.dst = false) (hsrc : d.src.elems = e :: l)
    (hsp : d.src.sp = 0) (hplace : place s 0 e.addr = .host h) : moveBlocks c 1 b d s = putBlock s c d (fit 64 b) := by
  simp [moveBlocks, hfault, hopen, hsrc, hsp, hplace]

/-- One block of host data that goes to DRAM. -/
theorem moveBlocks_host_to_dram (hfault : d.fault = none) (hsrc : d.src.elems = e :: l) (hsp : d.src.sp = 0)
    (hplace : place s 0 e.addr = .host h) (hdst : d.dst.elems = e' :: l') (hsp' : d.dst.sp = 1)
    (hplace' : place s 1 e'.addr = .dram p) :
    ∃ o now u, moveBlocks c 1 b d s = (d.advanced o now, u) ∧ u.dram = wrBytes dramFill s.dram p (fit 64 b) ∧
      chan u c = (chan s c).counted := by
  obtain ⟨o, hput⟩ := putBlock_of_dram (c := c) (b := fit 64 b) hdst hsp' hplace'
  have hopen : hostShut s d.dst = false := hostShut_of_dram hdst (by rw [hsp', hplace'])
  refine ⟨o, _, _, (moveBlocks_one hfault hopen hsrc hsp hplace).trans hput, ?_, chan_setChan _ _ _⟩
  exact congrArg (fun m => wrBytes dramFill m p (fit 64 b)) (srfWalk_frame s _).2

theorem readDone_data {r : Desc × State} (hact : (chan s c).active = some d) (hasked : d.asked ≠ 0) (hheld : d.held = none)
    (hr : moveBlocks c (d.asked / 64) b { d with asked := 0 } (dropRead s (.data c)) = r) :
    readDone s c (.data b) = settle (setChan r.2 c { chan r.2 c with active := some r.1 }) c := by
  subst hr
  unfold readDone
  dsimp only
  rw [chan_dropRead, hact]
  dsimp only
  rw [if_neg (by simp [hasked, hheld])]
  split
  case h_1 hres => cases hres
  case h_2 hres => cases hres
  case h_3 hres => cases hres; rfl
  case h_4 hne => exact (hne b rfl).elim

/-- The block that completes a copy of host data into DRAM: what is written, what the descriptor has done, what the channel
counts. -/
theorem readDone_last_block (hact : (chan s c).active = some d) (hshadow : (chan s c).shadow = none) (hfault : d.fault = none)
    (hheld : d.held = none) (hasked : d.asked = 64) (hlen : d.len = d.done + 64) (hsrc : d.src.elems = e :: l) (hsp : d.src.sp = 0)
    (hplace : place s 0 e.addr = .host h) (hdst : d.dst.elems = e' :: l') (hsp' : d.dst.sp = 1)
    (hplace' : place s 1 e'.addr = .dram p) :
    (readDone s c (.data b)).dram = wrBytes dramFill s.dram p (fit 64 b) ∧
      (∃ d', (chan (readDone s c (.data b)) c).active = some d' ∧ d'.done = d.len) ∧
      (chan (readDone s c (.data b)) c).bytes = ((chan s c).bytes + 64) % 2 ^ 64 := by
  rw [← place_dropRead s (.data c)] at hplace hplace'
  obtain ⟨o, now, u, hmove, hdram, hchan⟩ :=
    moveBlocks_host_to_dram (d := { d with asked := 0 }) (c := c) (b := b) hfault hsrc hsp hplace hdst hsp' hplace'
  rw [chan_dropRead] at hchan
  rw [dram_dropRead] at hdram
  have hdone : readDone s c (.data b) = settle (setChan u c { (chan s c).counted with
      active := some (Desc.advanced { d with asked := 0 } o now) }) c := by
    rw [← hchan]
    exact readDone_data (r := (Desc.advanced { d with asked := 0 } o now, u)) hact (by omega) hheld
      (by rw [hasked]; exact hmove)
  have hrest : Resting { (chan s c).counted with active := some (Desc.advanced { d with asked := 0 } o now) } :=
    ⟨hshadow, by simp, by simpa [Desc.advanced] using hfault, by simpa [Desc.advanced] using hheld,
      by simp [Desc.advanced, hlen]⟩
  rw [hdone, chan_settle_setChan _ _ hrest, settle_of_resting rfl hrest, dram_dmaShow]
  exact ⟨hdram, ⟨_, rfl, hlen.symm⟩, rfl⟩

end

/-! ### The commands -/

theorem onRead_of_live {s : State} {who : Rd} (h : deadRead s who = false) (f : State → State) : onRead s who f = f s := by
  rw [onRead, h, if_neg (by decide)]

section
variable {s : State} (hon : blkOn s 0x08 = true)
include hon

theorem exec_dmaSegmentReadDone {c : Nat} {shadow dst : Bool} (hlive : deadRead s (.seg c shadow dst) = false) (res : RdRes) :
    exec (.dmaSegmentReadDone c shadow dst res) s = .next (segDone s c shadow dst res) :=
  (whenOn_of_on hon fun s => onRead s (.seg c shadow dst) fun s => segDone s c shadow dst res).trans
    (congrArg Host.Outcome.next (onRead_of_live hlive _))

theorem exec_dmaReadDone {c : Nat} (hlive : deadRead s (.data c) = false) (res : RdRes) :
    exec (.dmaReadDone c res) s = .next (readDone s c res) :=
  (whenOn_of_on hon fun s => onRead s (.data c) fun s => readDone s c res).trans
    (congrArg Host.Outcome.next (onRead_of_live hlive _))

theorem exec_dmaDescriptorComplete (c : Nat) : exec (.dmaDescriptorComplete c) s = .next (descComplete s c) :=
  whenOn_of_on hon fun s => descComplete s c

end

theorem fit_length (n : Nat) (b : Bytes) : (fit n b).length = n := by simp [fit, slice]

/-- Settles O22, command by command. -/
theorem dmaEngine : Obligations.DmaEngine := by
  unfold Obligations.DmaEngine
  refine ⟨?segment, ?data, ?complete⟩
  case segment =>
    intro c b a d s _ _ hon hlive hact hshadow hsrc hdst hfault hheld hplace hcheck
    refine ⟨_, exec_dmaSegmentReadDone hon hlive _, ?_⟩
    rw [segDone_source hact hsrc hplace hcheck, chan_settle_setChan]
    exact ⟨hshadow, by simp, by simpa using hfault, by simpa using hheld, by simp [hdst]⟩
  case data =>
    intro c b a p g a2 g2 d s _ _ hon hlive hact hshadow _ _ _ hfault hheld _ hasked hlen hsp hsrc hsp' hdst hplace hplace'
    obtain ⟨hdram, hdone, hbytes⟩ :=
      readDone_last_block (b := b) hact hshadow hfault hheld hasked hlen hsrc hsp hplace hdst hsp' hplace'
    refine ⟨_, exec_dmaReadDone hon hlive _, ?inside, ?outside, hdone, hbytes⟩
    case inside =>
      intro i h
      have hi : i < (fit 64 b).length := by rwa [fit_length]
      rw [hdram, rdByte_wrBytes_in _ _ _ _ _ hi, List.getD_eq_getElem _ _ hi]
    case outside =>
      intro i h
      rw [hdram, rdByte_wrBytes_out _ _ _ _ _ (by rwa [fit_length])]
  case complete =>
    intro c d s _ _ hon hact hshadow hsusp hfault hlen hasked
    exact ⟨_, exec_dmaDescriptorComplete hon c, descComplete_effect hact hshadow hsusp hfault hlen hasked⟩

end Sys2Proof.Machine
end

section
/-! PROOF. The sorting office (R155, R161 to R166, R171, R174): what a target's record and SOR_TGTSTAT hold after a hand-over, a
pre-emption, a release and a failed slot read; that a poll asks for every occupied slot; and the registers of a load window. -/

namespace Sys2Proof.Machine

/-! ### Target records and SOR_TGTSTAT (R171) -/

theorem getF_incMod_same (s : State) (f : Fld) (n : Nat) (h : f.lo + f.width ≤ 32) :
    getF (incMod s f n) f = (getF s f + n) % 2 ^ f.width := by rw [incMod, getF_setF_same _ _ _ h, Nat.mod_mod]

theorem getF_setTrec (s : State) (t : Nat) (r : TRec) (f : Fld) : getF (setTrec s t r) f = getF s f := rfl

theorem getF_busyMark (s : State) (t : Nat) (busy : Bool) (f : Fld) : getF (busyMark s t busy) f = getF s f := rfl

theorem b2n_le_one (b : Bool) : b2n b ≤ 1 := by cases b <;> decide

@[simp] theorem trec_setTrec (s : State) (t : Nat) (r : TRec) : trec (setTrec s t r) t = r := tget_tset_same _ _ _ _

theorem trec_congr {s u : State} (h : u.sor.targets = s.sor.targets) (t : Nat) : trec u t = trec s t := by rw [trec, trec, h]

theorem sor_showCore (s : State) (t : Nat) : (showCore s t).sor = (busyMark s t (trec s t).active.isSome).sor := by
  simp only [showCore, showTarget, setF_sor]

/-- Only the account of busy time changes in the record of a target that is shown. -/
theorem trec_showCore (s : State) (t : Nat) :
    ∃ l f, trec (showCore s t) t = { trec s t with spans := l, busyFrom := f } := by
  rw [trec_congr (congrArg SorSt.targets (sor_showCore s t)), busyMark]
  exact ⟨_, _, trec_setTrec _ _ _⟩

section
variable (s : State) (t : Nat)

@[simp] theorem trec_showCore_normal : (trec (showCore s t) t).normal = (trec s t).normal := by
  obtain ⟨l, f, h⟩ := trec_showCore s t
  rw [h]

@[simp] theorem trec_showCore_urgent : (trec (showCore s t) t).urgent = (trec s t).urgent := by
  obtain ⟨l, f, h⟩ := trec_showCore s t
  rw [h]

@[simp] theorem trec_showCore_susp : (trec (showCore s t) t).susp = (trec s t).susp := by
  obtain ⟨l, f, h⟩ := trec_showCore s t
  rw [h]

@[simp] theorem trec_showCore_next : (trec (showCore s t) t).next = (trec s t).next := by
  obtain ⟨l, f, h⟩ := trec_showCore s t
  rw [h]

theorem ready_showCore : (showCore s t).sor.ready = s.sor.ready := by
  rw [sor_showCore]
  rfl

theorem getF_showCore_busy : getF (showCore s t) (F.SOR_TGTSTAT_BUSY t) = b2n (trec s t).active.isSome := by
  simp [showCore, showTarget, getF_setF_other, getF_setF_same, Fld.apart, b2n_le_one]

theorem getF_showCore_susp : getF (showCore s t) (F.SOR_TGTSTAT_SUSP t) = b2n (trec s t).susp := by
  simp [showCore, showTarget, getF_setF_other, getF_setF_same, Fld.apart, b2n_le_one]

theorem getF_showCore_prio : getF (showCore s t) (F.SOR_TGTSTAT_PRIO t) =
    ((trec s t).active.map Item.prio).getD 0 % 2 ^ (F.SOR_TGTSTAT_PRIO t).width := by
  simp [showCore, showTarget, getF_setF_other, getF_setF_same, Fld.apart]

/-- FAULT of every target stands as it was. -/
theorem getF_showCore_fault (k : Nat) : getF (showCore s t) (F.SOR_TGTSTAT_FAULT k) = getF s (F.SOR_TGTSTAT_FAULT k) := by
  simp [showCore, showTarget, getF_setF_other, Fld.apart, getF_busyMark]

/-- Registers other than SOR_TGTSTAT stand as they were. -/
theorem getF_showCore_other {f : Fld} (hf : ∀ i, f.off ≠ R.SOR_TGTSTAT i) : getF (showCore s t) f = getF s f :=
  getF_of_regs (showCore_regs s t (fun i => (hf i).symm) RegsBut.same)

end

/-! ### What completions, slot writes and fetches leave alone -/

theorem sor_kickAll (s : State) : (kickAll s).sor = s.sor :=
  same_of_keeps .sor (kickAll_keeps s (by decide) (by decide) (by decide) (by decide) Keeps.same)

theorem sor_dropRead (s : State) (who : Rd) : (dropRead s who).sor = s.sor :=
  same_of_keeps .sor (dropRead_keeps s who (by decide) (by decide) (by decide) Keeps.same)

theorem sor_writeSlot (s : State) (t : Nat) (urgent : Bool) (i : Item) : (writeSlot s t urgent i).sor = s.sor :=
  same_of_keeps .sor (writeSlot_keeps s t urgent i (by decide) (by decide) (by decide) Keeps.same)

section
variable {f : Fld} (hf : 0x90000 ≤ f.off)
include hf

theorem getF_kickAll (s : State) : getF (kickAll s) f = getF s f :=
  getF_of_regs (kickAll_regs s (fun k => by omega) RegsBut.same)

theorem getF_dropRead (s : State) (who : Rd) : getF (dropRead s who) f = getF s f :=
  getF_of_regs (dropRead_regs s who (fun k => by omega) RegsBut.same)

theorem getF_completeItem (s : State) (it : Item) (words : List (Nat × Bytes)) (c : Nat) (dead : Bool) :
    getF (completeItem s it words c dead) f = getF s f :=
  getF_of_regs (completeItem_regs s it words c dead (fun k => by omega) (fun i => by simp only [R.QUE_STAT]; omega)
    (fun i => by simp only [R.QUE_RET]; omega) RegsBut.same)

end

theorem targets_of_keeps {s u : State} (h : Keeps Part.sor.others s u) : u.sor.targets = s.sor.targets :=
  congrArg SorSt.targets (same_of_keeps .sor h)

theorem targets_serialReady (s : State) (q : Nat) : (serialReady s q).sor.targets = s.sor.targets := by
  unfold serialReady
  split <;> rfl

theorem targets_entryLost (s : State) (q i : Nat) : (entryLost s q i).sor.targets = s.sor.targets := targets_serialReady _ _

theorem targets_retired (s : State) (q i : Nat) : (serialReady (retireEntry s q i) q).sor.targets = s.sor.targets :=
  (targets_serialReady _ _).trans (targets_of_keeps (retireEntry_keeps s q i (by decide) (by decide) Keeps.same))

/-- The writes of a completion have been made, and its vector sent (R117). -/
def entryWritten (s : State) (q i flags : Nat) (words : List (Nat × Bytes)) (c : Nat) (dead : Bool) : State :=
  let s := words.foldl (fun s w => slotWrite s q i w.1 w.2) s
  let s := slotWrite s q i 56 (leBytes 2 i ++ [byte c, byte (putBit flags 1 dead)])
  let s := slotWrite s q i 60 (zeros 4)
  if flags.testBit 0 then qVector s q else s

/-- The entry of a completion waits for its writes to go out, or retires at once (R97, R117). -/
theorem completeEntry_eq (s : State) (q i flags : Nat) (words : List (Nat × Bytes)) (c : Nat) (dead : Bool) :
    completeEntry s q i flags words c dead =
      if (qrec s q).handed.any (fun h => h.1 == i && !h.2.2) && !(qrec s q).late.contains i then
        let x := entryWritten s q i flags words c dead
        if slotWaits x q then setQrec x q { qrec x q with late := (qrec x q).late ++ [i] } else serialReady (retireEntry x q i) q
      else s := rfl

theorem targets_entryWritten (s : State) (q i flags : Nat) (words : List (Nat × Bytes)) (c : Nat) (dead : Bool) :
    (entryWritten s q i flags words c dead).sor.targets = s.sor.targets := by
  have hwrite (x : State) (off : Nat) (b : Bytes) (h : Keeps Part.sor.others s x) :
      Keeps Part.sor.others s (slotWrite x q i off b) :=
    slotWrite_keeps x q i off b (by decide) (by decide) (by decide) (by decide) h
  have hwritten := hwrite _ 60 (zeros 4) (hwrite _ 56 (leBytes 2 i ++ [byte c, byte (putBit flags 1 dead)])
    (Keeps.foldl (l := words) (fun x w => hwrite x w.1 w.2) Keeps.same))
  refine targets_of_keeps ?_
  unfold entryWritten
  dsimp only
  split
  · exact qVector_keeps _ _ (by decide) (by decide) (by decide) hwritten
  · exact hwritten

theorem targets_completeEntry (s : State) (q i flags : Nat) (words : List (Nat × Bytes)) (c : Nat) (dead : Bool) :
    (completeEntry s q i flags words c dead).sor.targets = s.sor.targets := by
  rw [completeEntry_eq]
  dsimp only
  split
  · split
    · exact targets_entryWritten _ _ _ _ _ _ _
    · exact (targets_retired _ _ _).trans (targets_entryWritten _ _ _ _ _ _ _)
  · rfl

theorem targets_completeItem (s : State) (it : Item) (words : List (Nat × Bytes)) (c : Nat) (dead : Bool) :
    (completeItem s it words c dead).sor.targets = s.sor.targets := by
  unfold completeItem
  split
  · rfl
  · split
    · exact targets_entryLost _ _ _
    · exact targets_completeEntry _ _ _ _ _ _ _

/-! ### The commands -/

section
variable {s : State} (hon : blkOn s 0x09 = true)
include hon

theorem exec_sorDispatch : exec .sorDispatch s = .next (dispatch s) := whenOn_of_on hon dispatch

theorem exec_sorPreempt (later : Bool) : exec (.sorPreempt later) s = .next (sorPreempt s later) :=
  whenOn_of_on hon fun s => sorPreempt s later

theorem exec_slotReadDone {k : Nat} {urgent : Bool} (hlive : deadRead s (.slot k urgent) = false) (b : Bytes) :
    exec (.slotReadDone k urgent b) s = .next (slotDone s k urgent b) :=
  (whenOn_of_on hon fun s => onRead s (.slot k urgent) fun s => slotDone s k urgent b).trans
    (congrArg Host.Outcome.next (onRead_of_live hlive _))

theorem exec_slotReadFail {k : Nat} {urgent : Bool} (hlive : deadRead s (.slot k urgent) = false) :
    exec (.slotReadFail k urgent) s = .next (slotFail s k urgent .busError) :=
  (whenOn_of_on hon fun s => onRead s (.slot k urgent) fun s => slotFail s k urgent .busError).trans
    (congrArg Host.Outcome.next (onRead_of_live hlive _))

end

section
variable {dt : Nat} {s : State} (hon : blkOn (advance dt s) 0x09 = true)
include hon

theorem exec_slotPoll (win : Bool) : exec (.slotPoll dt win) s = .next (slotPoll (advance dt s) win) :=
  whenOn_of_on hon fun s => slotPoll s win

theorem exec_loadWindowEnd : exec (.loadWindowEnd dt) s = .next (windowEnd (advance dt s)) := whenOn_of_on hon windowEnd

end

/-! ### A service core takes a ready item (R155, R161) -/

theorem targetClass_core {k : Nat} (hk : k < 8) : targetClass k = 0 := if_pos hk

theorem urgent_of_inactive {r : TRec} (h : r.active = none) : r.urgent = none := by
  cases hu : r.urgent with
  | none => rfl
  | some i => simp [TRec.active, hu] at h

/-- A ready item has left the store for target `k`, which its group now chose last (R161). -/
def takenFor (s : State) (i : Item) (k : Nat) : State :=
  let s' := forgetLast (takeReady s i) (groupOf s i.q)
  { s' with sor := { s'.sor with last := (groupOf s i.q, k - classBase (targetClass k)) :: s'.sor.last } }

theorem dispatch_of_choice {s : State} {i : Item} {k : Nat}
    (hbest : bestItem s (fun i => (chooseTarget s (groupOf s i.q)).isSome) = some i)
    (htarget : chooseTarget s (groupOf s i.q) = some k) : dispatch s = kickAll (handTo (takenFor s i k) k i) := by
  rw [dispatch, hbest]
  dsimp only
  rw [htarget]
  rfl

theorem handTo_idle_core {s : State} {k : Nat} {i : Item} (hk : k < 8) (hop : coreOpcodes.contains (opcode i) = true)
    (hidle : (trec s k).active = none) : handTo s k i = showCore (setTrec s k { trec s k with normal := some i }) k := by
  simp only [handTo, targetClass_core hk, hop, hidle, Nat.zero_ne_one, if_false, if_true, Bool.not_true, Bool.false_eq_true,
    Option.isNone_none]

/-- A service core that was idle runs the item it is handed and shows it. -/
theorem handTo_idle_core_effect {s : State} {k : Nat} {i : Item} (hk : k < 8) (hop : coreOpcodes.contains (opcode i) = true)
    (hidle : (trec s k).active = none) : (trec (handTo s k i) k).normal = some i ∧ (handTo s k i).sor.ready = s.sor.ready ∧
      getF (handTo s k i) (F.SOR_TGTSTAT_BUSY k) = 1 ∧
      getF (handTo s k i) (F.SOR_TGTSTAT_PRIO k) = i.prio % 2 ^ (F.SOR_TGTSTAT_PRIO k).width := by
  have hactive : TRec.active { trec s k with normal := some i } = some i := by
    simp [TRec.active, urgent_of_inactive hidle]
  rw [handTo_idle_core hk hop hidle, getF_showCore_busy, getF_showCore_prio, trec_setTrec, hactive]
  exact ⟨by simp, ready_showCore _ _, rfl, rfl⟩

/-! ### A service core is pre-empted (R162, R163) -/

/-- A fold that keeps its value or takes the element it has come to ends with its first value or with an element of the list. -/
theorem foldl_choice_mem {α : Type} {f : Option α → α → Option α} (hf : ∀ b x, f b x = b ∨ f b x = some x)
    {l : List α} {b : Option α} {y : α} (h : l.foldl f b = some y) : b = some y ∨ y ∈ l := by
  induction l generalizing b with
  | nil => exact .inl h
  | cons x l ih =>
    rcases ih h with hb | hmem
    · rcases hf b x with e | e
      · exact .inl (e.symm.trans hb)
      · exact .inr (by simp [Option.some.inj (e.symm.trans hb)])
    · exact .inr (List.mem_cons_of_mem _ hmem)

/-- The target that an item takes qualifies. -/
theorem qualifies_of_chooseVictim {s : State} {i : Item} {k : Nat} (h : chooseVictim s i = some k) : qualifies s i k = true := by
  refine (foldl_choice_mem (fun b x => ?_) h).elim (fun hnone => by cases hnone) (fun hmem => (List.mem_filter.1 hmem).2)
  cases b with
  | none => exact .inr rfl
  | some u =>
    dsimp only
    split
    · exact .inr rfl
    · exact .inl rfl

/-- A ready item is on its way to target `k`, which it will pre-empt (R162). -/
def onItsWay (s : State) (i : Item) (k : Nat) : State :=
  { takeReady s i with sor := { (takeReady s i).sor with picked := s.sor.picked ++ [(k, i)] } }

theorem pickVictim_of_choice {s : State} {i : Item} {k : Nat}
    (hbest : bestItem s (fun i => (chooseTarget s (groupOf s i.q)).isNone && (chooseVictim s i).isSome) = some i)
    (hvictim : chooseVictim s i = some k) : pickVictim s = onItsWay s i k := by
  simp only [pickVictim, hbest, hvictim]
  rfl

/-- The item on its way to target `k` has reached it. -/
def reached (s : State) (i : Item) (k : Nat) : State := { s with sor := { s.sor with picked := s.sor.picked.erase (k, i) } }

theorem arrive_of_givesWay {s : State} {i : Item} {k : Nat} (harr : arriving s = some (k, i)) (hway : givesWay s i k = true) :
    arrive s = kickAll (preemptTarget (reached s i k) k i) := by
  have hway' : givesWay (reached s i k) i k = true := hway
  rw [arrive, harr]
  exact congrArg kickAll (if_pos hway')

/-- With no item on its way, one that is chosen pre-empts its target at once. -/
theorem sorPreempt_of_choice {s : State} {i : Item} {k : Nat} (hnone : s.sor.picked = [])
    (hbest : bestItem s (fun i => (chooseTarget s (groupOf s i.q)).isNone && (chooseVictim s i).isSome) = some i)
    (hvictim : chooseVictim s i = some k) :
    sorPreempt s false = kickAll (preemptTarget (reached (onItsWay s i k) i k) k i) := by
  have hqual := qualifies_of_chooseVictim hvictim
  simp only [qualifies, Bool.and_eq_true] at hqual
  obtain ⟨⟨⟨hreceives, -⟩, -⟩, hway⟩ := hqual
  have hreceives' : receives (onItsWay s i k) k = true := hreceives
  have hbefore : arriving s = none := by simp [arriving, hnone]
  have harr : arriving (onItsWay s i k) = some (k, i) := by
    have hpicked : (onItsWay s i k).sor.picked = [(k, i)] := by simp [onItsWay, hnone]
    simp [arriving, hpicked, hreceives']
  rw [sorPreempt, hbefore, pickVictim_of_choice hbest hvictim]
  exact arrive_of_givesWay harr hway

theorem preemptTarget_core {s : State} {k : Nat} {i : Item} (hk : k < 8) (hop : coreOpcodes.contains (opcode i) = true) :
    preemptTarget s k i = showCore (setTrec (incMod s F.SOR_GSTAT_PREEMPTS) k
      { trec (incMod s F.SOR_GSTAT_PREEMPTS) k with urgent := some i, susp := true }) k := by
  simp only [preemptTarget, targetClass_core hk, hop, Nat.zero_ne_one, if_false, if_true, Bool.not_true, Bool.false_eq_true]

/-- A pre-empted service core runs the new item and keeps the one it displaced; the pre-emption is counted. -/
theorem preemptTarget_core_effect {s : State} {k : Nat} {i : Item} (hk : k < 8) (hop : coreOpcodes.contains (opcode i) = true) :
    (trec (preemptTarget s k i) k).urgent = some i ∧ (trec (preemptTarget s k i) k).susp = true ∧
      (trec (preemptTarget s k i) k).normal = (trec s k).normal ∧ getF (preemptTarget s k i) (F.SOR_TGTSTAT_SUSP k) = 1 ∧
      getF (preemptTarget s k i) F.SOR_GSTAT_PREEMPTS = (getF s F.SOR_GSTAT_PREEMPTS + 1) % 2 ^ F.SOR_GSTAT_PREEMPTS.width := by
  rw [preemptTarget_core hk hop, getF_showCore_susp, trec_setTrec,
    getF_showCore_other _ _ (fun j => by simp only [R.SOR_TGTSTAT]; omega)]
  refine ⟨by simp, by simp, ?displaced, rfl, ?counted⟩
  case displaced => rw [trec_showCore_normal, trec_setTrec, trec_congr (congrArg SorSt.targets (incMod_sor _ _ _))]
  case counted => rw [getF_setTrec, getF_incMod_same _ _ _ (by decide)]

/-! ### The slots of host cores are polled (R165) -/

/-- A fold establishes `Q` at one element if every step keeps `P` and `Q` and the step at that element takes `P` to `Q`. -/
theorem foldl_establishes {α β : Type} {f : α → β → α} {P Q : α → Prop} {l : List β} {x : β} (hx : x ∈ l)
    (hP : ∀ a, ∀ y ∈ l, P a → P (f a y)) (hQ : ∀ a, ∀ y ∈ l, Q a → Q (f a y)) (hPQ : ∀ a, P a → Q (f a x))
    {a : α} (h : P a) : Q (l.foldl f a) := by
  obtain ⟨before, after, rfl⟩ := List.append_of_mem hx
  have hbefore : P (before.foldl f a) := List.foldlRecOn _ _ h fun a ha y hy => hP a y (by simp [hy]) ha
  rw [List.foldl_append, List.foldl_cons]
  exact List.foldlRecOn _ _ (hPQ _ hbefore) fun a ha y hy => hQ a y (by simp [hy]) ha

/-- A read of a requester is outstanding or waits. -/
def Asked (who : Rd) (s : State) : Prop := readOut s who = true ∨ readWaits s who = true

/-- A slot that holds an item is read, unless a read of it is outstanding or waits already. -/
def askSlot (s : State) (t : Nat) (urgent : Bool) (i : Option Item) : State :=
  if i.isSome && !readOut s (.slot t urgent) && !readWaits s (.slot t urgent) then
    upstream s (.read (.slot t urgent) (slotBase s t + 64 * b2n urgent) 64)
  else s

/-- The two slots of a host core are asked for. -/
def pollCore (s : State) (k : Nat) : State :=
  askSlot (askSlot s (72 + k) false (trec s (72 + k)).normal) (72 + k) true (trec s (72 + k)).urgent

theorem pollSlots_eq (s : State) : pollSlots s = (List.range 64).foldl pollCore s := rfl

/-- A read that is asked for goes nowhere, is outstanding, or waits. -/
theorem upstream_read_hif (s : State) (who : Rd) (a n : Nat) : (upstream s (.read who a n)).hif = s.hif ∨
    (∃ r, (upstream s (.read who a n)).hif = { s.hif with reads := s.hif.reads ++ [r] }) ∨
    (upstream s (.read who a n)).hif = { s.hif with waiting := s.hif.waiting ++ [.read who a n] } := by
  unfold upstream
  split
  · exact .inl rfl
  · split
    · exact .inr (.inl ⟨_, rfl⟩)
    · exact .inr (.inr rfl)

/-- A read that is asked for leaves the reads of others where they are. -/
theorem asked_upstream {who : Rd} {s : State} (h : Asked who s) (other : Rd) (a n : Nat) :
    Asked who (upstream s (.read other a n)) := by
  rcases upstream_read_hif s other a n with e | ⟨r, e⟩ | e
  · simpa only [Asked, readOut, readWaits, e] using h
  · refine h.imp (fun hout => ?_) (fun hwaits => ?_)
    · simp only [readOut, e, List.any_append, Bool.or_eq_true]
      exact .inl hout
    · simpa only [readWaits, e] using hwaits
  · refine h.imp (fun hout => ?_) (fun hwaits => ?_)
    · simpa only [readOut, e] using hout
    · simp only [readWaits, e, List.any_append, Bool.or_eq_true]
      exact .inl hwaits

/-- With the link up, a read that is asked for is outstanding or waits. -/
theorem asked_upstream_self {s : State} (hup : isSet s F.HIF_LINKSTAT_UP = true) (who : Rd) (a n : Nat) :
    Asked who (upstream s (.read who a n)) := by
  unfold upstream
  simp only [hup, Bool.not_true, Bool.false_eq_true, if_false]
  split
  · exact .inl (by simp [readOut, issueUp])
  · exact .inr (by simp [readWaits])

theorem askSlot_keeps (s : State) (t : Nat) (urgent : Bool) (i : Option Item) :
    (askSlot s t urgent i).sor = s.sor ∧ isSet (askSlot s t urgent i) F.HIF_LINKSTAT_UP = isSet s F.HIF_LINKSTAT_UP := by
  unfold askSlot
  split
  · exact ⟨same_of_keeps .sor (upstream_keeps _ _ (by decide) (by decide) (by decide) Keeps.same),
      isSet_congr (getF_of_regs (upstream_regs _ _ (fun k => by simp only; omega) RegsBut.same))⟩
  · exact ⟨rfl, rfl⟩

theorem asked_askSlot {who : Rd} {s : State} (h : Asked who s) (t : Nat) (urgent : Bool) (i : Option Item) :
    Asked who (askSlot s t urgent i) := by
  unfold askSlot
  split
  · exact asked_upstream h _ _ _
  · exact h

theorem asked_askSlot_self {s : State} (hup : isSet s F.HIF_LINKSTAT_UP = true) (t : Nat) (urgent : Bool) (i : Item) :
    Asked (.slot t urgent) (askSlot s t urgent (some i)) := by
  by_cases h : Asked (.slot t urgent) s
  · exact asked_askSlot h t urgent _
  · have hnone : readOut s (.slot t urgent) = false ∧ readWaits s (.slot t urgent) = false := by simpa [Asked] using h
    simp only [askSlot, hnone, Option.isSome_some, Bool.not_false, Bool.and_self, if_true]
    exact asked_upstream_self hup _ _ _

theorem pollCore_keeps (s : State) (k : Nat) :
    (pollCore s k).sor = s.sor ∧ isSet (pollCore s k) F.HIF_LINKSTAT_UP = isSet s F.HIF_LINKSTAT_UP := by
  obtain ⟨hsor, hup⟩ := askSlot_keeps s (72 + k) false (trec s (72 + k)).normal
  obtain ⟨hsor', hup'⟩ :=
    askSlot_keeps (askSlot s (72 + k) false (trec s (72 + k)).normal) (72 + k) true (trec s (72 + k)).urgent
  exact ⟨hsor'.trans hsor, hup'.trans hup⟩

/-- After a poll with the link up, an occupied NORMAL slot has a read outstanding or waiting. -/
theorem asked_pollSlots {s : State} {k : Nat} {i : Item} (hk : k < 64) (hup : isSet s F.HIF_LINKSTAT_UP = true)
    (hslot : (trec s (72 + k)).normal = some i) : Asked (.slot (72 + k) false) (pollSlots s) := by
  rw [pollSlots_eq]
  refine foldl_establishes (f := pollCore) (P := fun x => x.sor = s.sor ∧ isSet x F.HIF_LINKSTAT_UP = true)
    (Q := Asked (.slot (72 + k) false)) (List.mem_range.2 hk) (fun x y _ h => ?keeps)
    (fun x y _ h => asked_askSlot (asked_askSlot h _ _ _) _ _ _) (fun x h => ?asks) ⟨rfl, hup⟩
  case keeps =>
    obtain ⟨hsor, hlink⟩ := pollCore_keeps x y
    exact ⟨hsor.trans h.1, hlink.trans h.2⟩
  case asks =>
    obtain ⟨hsor, hlink⟩ := h
    have hnormal : (trec x (72 + k)).normal = some i := by rw [trec_congr (congrArg SorSt.targets hsor), hslot]
    rw [pollCore, hnormal]
    exact asked_askSlot (asked_askSlot_self hlink _ _ _) _ _ _

theorem asked_slotPoll {s : State} {win : Bool} {k : Nat} {i : Item}
    (hdue : (if win then s.sor.winPollDue else s.sor.pollDue) = true) (hk : k < 64) (hup : isSet s F.HIF_LINKSTAT_UP = true)
    (hslot : (trec s (72 + k)).normal = some i) : Asked (.slot (72 + k) false) (slotPoll s win) := by
  cases win
  case true =>
    have hdue' : s.sor.winPollDue = true := hdue
    rw [slotPoll, if_pos rfl, if_pos hdue']
    exact asked_pollSlots hk hup hslot
  case false =>
    have hdue' : s.sor.pollDue = true := hdue
    rw [slotPoll, if_neg Bool.false_ne_true, if_pos hdue']
    exact asked_pollSlots hk hup hslot

/-! ### A slot is released, or its read fails (R155, R165, R166) -/

/-- The record of a target whose slot no longer holds an item. -/
def TRec.emptied (r : TRec) (urgent : Bool) : TRec :=
  if urgent then { r with urgent := none } else { r with normal := none, susp := false }

/-- The item in a slot of a record. -/
def TRec.slot (r : TRec) (urgent : Bool) : Option Item := if urgent then r.urgent else r.normal

theorem slotItem_eq (s : State) (t : Nat) (urgent : Bool) : slotItem s t urgent = (trec s t).slot urgent := rfl

theorem slot_emptied (r : TRec) (urgent : Bool) : (r.emptied urgent).slot urgent = none := by cases urgent <;> rfl

theorem next_emptied (r : TRec) (urgent : Bool) : (r.emptied urgent).next = r.next := by cases urgent <;> rfl

theorem slotItem_showCore (s : State) (t : Nat) (urgent : Bool) : slotItem (showCore s t) t urgent = slotItem s t urgent := by
  simp [slotItem]

theorem targetLive_congr {s u : State} {t : Nat} (hen : getF u (F.SOR_TGTCFG_EN t) = getF s (F.SOR_TGTCFG_EN t))
    (hfault : getF u (F.SOR_TGTSTAT_FAULT t) = getF s (F.SOR_TGTSTAT_FAULT t)) : targetLive u t = targetLive s t := by
  rw [targetLive, targetLive, isSet_congr hen, isSet_congr hfault]

theorem targetLive_showCore (s : State) (t k : Nat) : targetLive (showCore s t) k = targetLive s k :=
  targetLive_congr (getF_showCore_other _ _ (fun j => by simp only [R.SOR_TGTSTAT]; omega)) (getF_showCore_fault _ _ _)

theorem targetLive_setTrec (s : State) (t : Nat) (r : TRec) (k : Nat) : targetLive (setTrec s t r) k = targetLive s k := rfl

/-- The URGENT slot has no part in taking the next item that is kept. -/
theorem slotNext_urgent (s : State) (t : Nat) : (trec (slotNext s t) t).urgent = (trec s t).urgent := by
  unfold slotNext
  dsimp only
  split
  case h_1 i l _ _ =>
    split
    · rw [trec_showCore_urgent, trec_congr (congrArg SorSt.targets (sor_writeSlot _ _ _ _)), trec_setTrec]
    · rfl
  case h_2 => rfl

/-- A free NORMAL slot takes the first item kept, if the target may receive it. -/
theorem slotNext_normal {s : State} {t : Nat} (hfree : (trec s t).normal = none) :
    (trec (slotNext s t) t).normal = if targetLive s t = true then (trec s t).next.head? else none := by
  unfold slotNext
  dsimp only
  split
  case h_1 i l _ hnext =>
    split
    · rw [trec_showCore_normal, trec_congr (congrArg SorSt.targets (sor_writeSlot _ _ _ _)), trec_setTrec, hnext]
      rfl
    · exact hfree
  case h_2 hnone =>
    cases hnext : (trec s t).next with
    | nil => simp [hfree]
    | cons i l => exact (hnone i l hfree hnext).elim

theorem slotRelease_eq (s : State) (t : Nat) (urgent : Bool) :
    slotRelease s t urgent = slotNext (showCore (setTrec s t ((trec s t).emptied urgent)) t) t := rfl

/-- A slot that is released is empty, but for a NORMAL slot that takes the next item kept. -/
theorem slotItem_slotRelease (s : State) (t : Nat) (urgent : Bool) : slotItem (slotRelease s t urgent) t urgent =
    if urgent = false ∧ targetLive s t = true then (trec s t).next.head? else none := by
  rw [slotRelease_eq]
  cases urgent
  case true =>
    have hslot : slotItem (slotNext (showCore (setTrec s t ((trec s t).emptied true)) t) t) t true = none :=
      (slotNext_urgent _ _).trans (by simp [TRec.emptied])
    simpa using hslot
  case false =>
    have hfree : (trec (showCore (setTrec s t ((trec s t).emptied false)) t) t).normal = none := by simp [TRec.emptied]
    refine (slotNext_normal hfree).trans ?_
    rw [targetLive_showCore, targetLive_setTrec, trec_showCore_next, trec_setTrec, next_emptied]
    simp

/-- The item of a slot has completed after its read was answered. -/
def slotCompleted (s : State) (t : Nat) (urgent : Bool) (i : Item) (words : List (Nat × Bytes)) (c : Nat) (dead : Bool) : State :=
  completeItem (dropRead s (.slot t urgent)) i words c dead

section
variable (s : State) (t : Nat) (urgent : Bool) (i : Item) (words : List (Nat × Bytes)) (c : Nat) (dead : Bool)

theorem trec_slotCompleted (k : Nat) : trec (slotCompleted s t urgent i words c dead) k = trec s k :=
  trec_congr ((targets_completeItem _ _ _ _ _).trans (congrArg SorSt.targets (sor_dropRead s _))) k

theorem getF_slotCompleted {f : Fld} (hf : 0x90000 ≤ f.off) : getF (slotCompleted s t urgent i words c dead) f = getF s f :=
  (getF_completeItem hf _ _ _ _ _).trans (getF_dropRead hf s _)

theorem targetLive_slotCompleted (k : Nat) : targetLive (slotCompleted s t urgent i words c dead) k = targetLive s k :=
  targetLive_congr (getF_slotCompleted _ _ _ _ _ _ _ (by simp only; omega))
    (getF_slotCompleted _ _ _ _ _ _ _ (by simp only; omega))

end

theorem slotItem_dropRead (s : State) (who : Rd) (t : Nat) (urgent : Bool) :
    slotItem (dropRead s who) t urgent = slotItem s t urgent := by
  rw [slotItem_eq, trec_congr (congrArg SorSt.targets (sor_dropRead s who)), slotItem_eq]

/-- A read that finds the slot released completes its item and releases it. -/
theorem slotDone_of_released {s : State} {t : Nat} {urgent : Bool} {b : Bytes} {i : Item} (hslot : slotItem s t urgent = some i)
    (hown : (byteAt b 60).testBit 0 = false) : slotDone s t urgent b =
      slotRelease (slotCompleted s t urgent i [(40, slice b 40 16)] (byteAt b 58) (byteAt b 58 != 0)) t urgent := by
  rw [slotDone]
  dsimp only
  rw [slotItem_dropRead, hslot]
  dsimp only
  rw [if_neg (by simp [hown])]
  rfl

/-- A read that fails completes the item of its slot, empties the slot and faults its target. -/
theorem slotFail_of_held {s : State} {t : Nat} {urgent : Bool} {i : Item} (hslot : slotItem s t urgent = some i) (c : Status) :
    slotFail s t urgent c =
      faultTarget (showCore (setTrec (slotCompleted s t urgent i [] c.code true) t ((trec s t).emptied urgent)) t) t c := by
  rw [slotFail]
  dsimp only
  rw [slotItem_dropRead, hslot, trec_congr (congrArg SorSt.targets (sor_dropRead s _))]
  rfl

theorem sor_faultTarget (s : State) (t : Nat) (c : Status) : (faultTarget s t c).sor = s.sor :=
  same_of_keeps .sor (faultTarget_keeps s t c (by decide) Keeps.same)

theorem slotItem_faultTarget (s : State) (t : Nat) (c : Status) (k : Nat) (urgent : Bool) :
    slotItem (faultTarget s t c) k urgent = slotItem s k urgent := by
  rw [slotItem_eq, slotItem_eq, trec_congr (congrArg SorSt.targets (sor_faultTarget s t c))]

theorem getF_faultTarget_fault (s : State) (t : Nat) (c : Status) : getF (faultTarget s t c) (F.SOR_TGTSTAT_FAULT t) = 1 := by
  rw [faultTarget, getF_setF_other _ _ (by simp [Fld.apart]) (by simp), getF_setF_same _ _ _ (by simp)]
  rfl

theorem getF_faultTarget_code (s : State) (t : Nat) (c : Status) :
    getF (faultTarget s t c) (F.SOR_TGTSTAT_FCODE t) = c.code % 2 ^ (F.SOR_TGTSTAT_FCODE t).width :=
  getF_setF_same _ _ _ (by simp)

/-! ### A load window is shown (R174) -/

/-- What SOR_TGTLOAD shows of a target that was busy for `busy` of the `n` ns of a window. -/
def loadShown (n busy : Nat) : Nat := if n = 0 then 0 else min 0xFFFF (busy * 65536 / n)

theorem loadShown_lt (n busy : Nat) : loadShown n busy < 2 ^ 16 := by
  unfold loadShown
  split <;> omega

/-- The load of target `t` is shown; `busy` lists the busy times of the targets. -/
def showLoad (n : Nat) (busy : List Nat) (s : State) (t : Nat) : State :=
  setF s (F.SOR_TGTLOAD_LOAD t) (loadShown n (busy.getD t 0))

theorem sor_showLoad (n : Nat) (busy : List Nat) (s : State) (t : Nat) : (showLoad n busy s t).sor = s.sor := setF_sor _ _ _

theorem getF_showLoad_same (n : Nat) (busy : List Nat) (s : State) (k : Nat) :
    getF (showLoad n busy s k) (F.SOR_TGTLOAD_LOAD k) = loadShown n (busy.getD k 0) :=
  (getF_setF_same _ _ _ (by simp)).trans (Nat.mod_eq_of_lt (loadShown_lt _ _))

theorem getF_showLoad_ne (n : Nat) (busy : List Nat) (s : State) {t k : Nat} (ht : t < 136) (hk : k < 136) (h : t ≠ k) :
    getF (showLoad n busy s t) (F.SOR_TGTLOAD_LOAD k) = getF s (F.SOR_TGTLOAD_LOAD k) :=
  getF_setF_ne _ _ _ _ (by simp only; omega)

/-- The loads of all targets are shown. -/
def loadsShown (n : Nat) (busy : List Nat) (s : State) : State := (List.range 136).foldl (showLoad n busy) s

theorem sor_loadsShown (n : Nat) (busy : List Nat) (s : State) : (loadsShown n busy s).sor = s.sor :=
  List.foldlRecOn (motive := fun x : State => x.sor = s.sor) _ _ rfl fun x h _ _ => (sor_showLoad n busy x _).trans h

theorem getF_loadsShown (n : Nat) (busy : List Nat) (s : State) {k : Nat} (hk : k < 136) :
    getF (loadsShown n busy s) (F.SOR_TGTLOAD_LOAD k) = loadShown n (busy.getD k 0) := by
  refine foldl_establishes (f := showLoad n busy) (P := fun _ => True)
    (Q := fun x => getF x (F.SOR_TGTLOAD_LOAD k) = loadShown n (busy.getD k 0)) (List.mem_range.2 hk) (fun _ _ _ _ => trivial)
    (fun x t ht h => ?_) (fun x _ => getF_showLoad_same n busy x k) trivial
  by_cases e : t = k
  · rw [e, getF_showLoad_same]
  · rw [getF_showLoad_ne n busy x (List.mem_range.1 ht) hk e, h]

theorem windowEnd_of_done {s : State} {n : Nat} {busy : List Nat} {l : List (Nat × List Nat)}
    (h : s.sor.winDone = (n, busy) :: l) :
    windowEnd s = (loadsShown n busy { s with sor := { s.sor with winDone := l } }).setWord R.SOR_WINNS
      (BitVec.ofNat 32 (min n (2 ^ 32 - 1))) := by
  rw [windowEnd, h]
  rfl

/-- The window that ended first is shown and leaves the list of those still to be shown. -/
theorem windowEnd_effect {s : State} {n : Nat} {busy : List Nat} {l : List (Nat × List Nat)}
    (h : s.sor.winDone = (n, busy) :: l) :
    (windowEnd s).sor.winDone = l ∧ (windowEnd s).word R.SOR_WINNS = BitVec.ofNat 32 (min n (2 ^ 32 - 1)) ∧
      ∀ k, k < 136 → getF (windowEnd s) (F.SOR_TGTLOAD_LOAD k) = loadShown n (busy.getD k 0) := by
  rw [windowEnd_of_done h]
  refine ⟨?list, word_setWord_same _ _ _, fun k hk => ?load⟩
  case list => rw [State.setWord_sor, sor_loadsShown]
  case load =>
    rw [getF, word_setWord_ne _ _ (by simp only [R.SOR_WINNS]; omega)]
    exact getF_loadsShown n busy _ hk

/-! ### The statement -/

/-- Settles O23, clause by clause. -/
theorem sortingOffice : Obligations.SortingOffice := by
  unfold Obligations.SortingOffice
  refine ⟨?dispatch, ?preempt, ?poll, ?release, ?fail, ?window⟩
  case dispatch =>
    intro i k s _ hon hbest htarget hk hop hidle
    obtain ⟨hnormal, hready, hbusy, hprio⟩ := handTo_idle_core_effect (s := takenFor s i k) hk hop hidle
    refine ⟨_, exec_sorDispatch hon, ?_⟩
    rw [dispatch_of_choice hbest htarget, trec_congr (congrArg SorSt.targets (sor_kickAll _)), sor_kickAll,
      getF_kickAll (by simp only; omega), getF_kickAll (by simp only; omega)]
    exact ⟨hnormal, hready, hbusy, hprio⟩
  case preempt =>
    intro i k s _ hon hbest hvictim hk hop hnone
    have heffect := preemptTarget_core_effect (s := reached (onItsWay s i k) i k) hk hop
    refine ⟨_, exec_sorPreempt hon false, ?_⟩
    rw [sorPreempt_of_choice hnone hbest hvictim, trec_congr (congrArg SorSt.targets (sor_kickAll _)),
      getF_kickAll (by simp only; omega), getF_kickAll (by decide)]
    exact heffect
  case poll =>
    intro dt win k i s hon hdue hk hup hslot
    exact ⟨_, exec_slotPoll hon win, asked_slotPoll hdue hk hup hslot⟩
  case release =>
    intro k urgent b i s _ _ hon hlive hslot hown
    refine ⟨_, exec_slotReadDone hon hlive b, ?_⟩
    rw [slotDone_of_released hslot hown, slotItem_slotRelease, targetLive_slotCompleted, trec_slotCompleted]
  case fail =>
    intro k urgent i s _ _ hon hlive hslot
    refine ⟨_, exec_slotReadFail hon hlive, ?_⟩
    rw [slotFail_of_held hslot, getF_faultTarget_fault, getF_faultTarget_code, slotItem_faultTarget, slotItem_showCore, slotItem_eq,
      trec_setTrec]
    exact ⟨slot_emptied _ _, rfl, rfl⟩
  case window =>
    intro dt n busy l s hon hdone
    exact ⟨_, exec_loadWindowEnd hon, windowEnd_effect hdone⟩

end Sys2Proof.Machine
end

section
/-! PROOF. Surface operations (R183 to R186, R192, R197): what each of them, its completion and the initialisation of the table
leave of SRF. -/

namespace Sys2Proof.Machine

/-! ### What operations and their completion leave of SRF -/

/-- What no surface operation and no completion of one changes: the operations that wait for the table, and the frames. -/
def SrfSt.fixed (x : SrfSt) : Bool × List Item × List FrameRef × Bool := (x.initBusy, x.held, x.frames, x.retiredAny)

@[simp] theorem srf_srfDone (s : State) (it : Item) (c : Status) (handle pages frame : Nat) :
    (srfDone s it c handle pages frame).srf = s.srf :=
  same_of_keeps .srf (srfDone_keeps s it c handle pages frame (by decide) (by decide) (by decide) (by decide) (by decide) (by decide)
    Keeps.same)

@[simp] theorem srf_srfShow (s : State) : (srfShow s).srf = s.srf := same_of_keeps .srf (srfShow_keeps s (by decide) Keeps.same)

/-- Allocation takes as many pages as it is asked for, and changes the list of used pages only (R184). -/
theorem allocPages_effect (k : Nat) (s : State) :
    (allocPages k s).1.length = k ∧ ∃ used, (allocPages k s).2.srf = { s.srf with used := used } := by
  induction k generalizing s with
  | zero => exact ⟨rfl, _, rfl⟩
  | succ k ih =>
    unfold allocPages
    obtain ⟨hlen, used, hsrf⟩ := ih { (drawNat s).2 with srf := { (drawNat s).2.srf with
      used := insertRising (nthFree (drawNat s).2.srf.used (poolFirst (drawNat s).2) ((drawNat s).1 % freePages (drawNat s).2))
        (drawNat s).2.srf.used } }
    exact ⟨congrArg (· + 1) hlen, used, hsrf⟩

theorem srf_allocRanges (l : List (Nat × Nat)) (s : State) : ∃ used, (allocRanges l s).2.srf = { s.srf with used := used } := by
  induction l generalizing s with
  | nil => exact ⟨_, rfl⟩
  | cons r l ih =>
    obtain ⟨_, used, hsrf⟩ := allocPages_effect r.2 s
    obtain ⟨used', hsrf'⟩ := ih (allocPages r.2 s).2
    exact ⟨used', by rw [allocRanges]; exact hsrf'.trans (by rw [hsrf])⟩

/-! ### CREATE (R184) -/

/-- The pages of a new surface: one hole where it is sparse, else the pool pages `ps`. -/
def createdSegs (e : Bytes) (ps : List Nat) : List Seg :=
  if srfSparse e then [⟨srfVa e / 65536, srfSize e / 65536, .hole⟩] else localSegs (srfVa e / 65536) ps

theorem srfCreate_effect (s : State) (it : Item) : ∃ ps used,
    ps.length = (if srfSparse it.entry then 0 else srfSize it.entry / 65536) ∧ (srfCreate s it).srf = { s.srf with
      used := used,
      surfs := s.srf.surfs ++ [⟨freeHandle s, srfVa it.entry / 65536, srfSize it.entry / 65536, srfSparse it.entry, false, none,
        false⟩],
      segs := s.srf.segs ++ createdSegs it.entry ps } := by
  obtain ⟨hlen, used, hsrf⟩ := allocPages_effect (if srfSparse it.entry then 0 else srfSize it.entry / 65536) s
  refine ⟨_, used, hlen, ?_⟩
  simp only [srfCreate, srf_srfDone, srf_srfShow, hsrf, createdSegs]

/-! ### BACK and INVAL (R185, R186, R193) -/

/-- A BACK or INVAL completes at once while no frame is running or queued, and is pending otherwise. -/
def rangeAccepted (s : State) (o : PendOp) (frames : List Nat) : State :=
  if frames.isEmpty then finishPend s o else srfShow { s with srf := { s.srf with pend := s.srf.pend ++ [o] } }

theorem finishPend_range (s : State) {o : PendOp} (h : o.op ≠ 0x22) :
    finishPend s o = srfDone (srfShow (freePool s o.pages)) o.item .ok o.handle o.opages o.last := if_neg h

/-- Whether it completes or waits, its mappings and copies stand. -/
theorem srf_rangeAccepted (s : State) {o : PendOp} (h : o.op ≠ 0x22) (frames : List Nat) :
    ∃ used pend, (rangeAccepted s o frames).srf = { s.srf with used := used, pend := pend } := by
  unfold rangeAccepted
  split
  · rw [finishPend_range s h, srf_srfDone, srf_srfShow]
    exact ⟨_, _, rfl⟩
  · rw [srf_srfShow]
    exact ⟨_, _, rfl⟩

/-- The range of a BACK has its new mapping, and no copy of it is for a frame to come. -/
def remapped (s : State) (it : Item) (keep new : List Seg) (frames : List Nat) : State :=
  dropCopies { s with srf := { s.srf with
    segs := segsOut s.srf.segs (srfVa it.entry / 65536) (srfSize it.entry / 65536) ++ keep ++ new } }
    (srfVa it.entry / 65536) (srfSize it.entry / 65536) frames

/-- The mappings that a BACK makes, and the state in which it has taken the pool pages it needs. -/
def backTaken (s : State) (it : Item) : List Seg × State :=
  let vp := srfVa it.entry / 65536
  let n := srfSize it.entry / 65536
  if srfKind it.entry = 2 then allocRanges (notLocal s vp n) s
  else if srfKind it.entry = 1 then ([⟨vp, n, .host (srfHaddr it.entry)⟩], s) else ([⟨vp, n, .hole⟩], s)

/-- The mappings of its range that a BACK leaves: those in pool pages, where KIND is LOCAL. -/
def backKept (s : State) (it : Item) : List Seg :=
  if srfKind it.entry = 2 then
    (segsIn s.srf.segs (srfVa it.entry / 65536) (srfSize it.entry / 65536)).filter
      (fun g => match g.back with | .loc _ => true | _ => false)
  else []

theorem srf_backTaken (s : State) (it : Item) : ∃ used, (backTaken s it).2.srf = { s.srf with used := used } := by
  unfold backTaken
  dsimp only
  split
  · exact srf_allocRanges _ s
  · split <;> exact ⟨_, rfl⟩

theorem srfBack_remaps (s : State) (it : Item) : ∃ o, o.op ≠ 0x22 ∧ srfBack s it =
    rangeAccepted (remapped (backTaken s it).2 it (backKept s it) (backTaken s it).1 (frameList s)) o (frameList s) := by
  refine ⟨_, ?_, rfl⟩
  exact (by decide : 0x21 ≠ 0x22)

theorem srfInval_drops (s : State) (it : Item) : ∃ o, o.op ≠ 0x22 ∧ srfInval s it =
    rangeAccepted (dropCopies s (srfVa it.entry / 65536) (srfSize it.entry / 65536) (frameList s)) o (frameList s) := by
  refine ⟨_, ?_, rfl⟩
  exact (by decide : 0x23 ≠ 0x22)

/-- No copy of a range that is dropped is for a frame to come. -/
theorem dropCopies_only {s : State} {vp n : Nat} {frames : List Nat} {c : Copy} (hc : c ∈ (dropCopies s vp n frames).srf.copies)
    (hlo : vp ≤ c.vp) (hhi : c.vp < vp + n) : c.only ≠ none := by
  simp only [dropCopies, List.mem_filterMap] at hc
  obtain ⟨b, _, hb⟩ := hc
  split at hb
  next =>
    split at hb
    · cases hb
    · cases hb
      simp
  next hkept =>
    cases hb
    intro hnone
    simp [hlo, hhi, hnone] at hkept

/-! ### FREE (R192) -/

/-- The surface of a FREE is FREEING. -/
def freeMarked (s : State) (h : Nat) : State :=
  { s with srf := { s.srf with surfs := s.srf.surfs.map (fun y => if y.handle = h then { y with freeing := true } else y) } }

section
variable {s : State} {it : Item} {y : Surf} (hy : s.srf.surfs.find? (fun u => u.handle == srfHandle it.entry) = some y)
include hy

theorem handle_of_found : y.handle = srfHandle it.entry := by simpa using List.find?_some hy

theorem srfFree_found : srfFree s it =
    if freeWaits s y then srfShow { freeMarked s (srfHandle it.entry) with srf := { (freeMarked s (srfHandle it.entry)).srf with
      pend := s.srf.pend ++ [⟨0x22, it, srfHandle it.entry, y.vp, y.n, [], 0, [], [], 0⟩] } }
    else finishFree (freeMarked s (srfHandle it.entry)) it y := by
  simp only [srfFree, hy]
  rfl

end

theorem finishFree_effect (s : State) (it : Item) (x : Surf) : ∃ used copies fetching, (finishFree s it x).srf = { s.srf with
    used := used, copies := copies, fetching := fetching, segs := segsOut s.srf.segs x.vp x.n,
    surfs := s.srf.surfs.filter (fun y => y.handle != x.handle) } := by
  simp only [finishFree, srf_srfDone, srf_srfShow]
  exact ⟨_, _, _, rfl⟩

/-! ### The operations that wait for the table, and the frames -/

theorem fixed_finishFree (s : State) (it : Item) (x : Surf) : (finishFree s it x).srf.fixed = s.srf.fixed := by
  obtain ⟨_, _, _, hsrf⟩ := finishFree_effect s it x
  rw [hsrf]
  rfl

theorem fixed_finishPend (s : State) (o : PendOp) : (finishPend s o).srf.fixed = s.srf.fixed := by
  unfold finishPend
  split
  · split
    · exact fixed_finishFree _ _ _
    · rfl
  · rw [srf_srfDone, srf_srfShow]
    rfl

theorem fixed_sweepPend (s : State) : (sweepPend s).srf.fixed = s.srf.fixed := by
  unfold sweepPend
  dsimp only
  rw [srf_srfShow]
  refine List.foldlRecOn (motive := fun x => x.srf.fixed = s.srf.fixed) _ _ ?_ fun x hx o _ => (fixed_finishPend x o).trans hx
  rfl

theorem fixed_rangeAccepted (s : State) {o : PendOp} (h : o.op ≠ 0x22) (frames : List Nat) :
    (rangeAccepted s o frames).srf.fixed = s.srf.fixed := by
  obtain ⟨_, _, hsrf⟩ := srf_rangeAccepted s h frames
  rw [hsrf]
  rfl

theorem fixed_srfCreate (s : State) (it : Item) : (srfCreate s it).srf.fixed = s.srf.fixed := by
  obtain ⟨_, _, _, hsrf⟩ := srfCreate_effect s it
  rw [hsrf]
  rfl

theorem fixed_srfBack (s : State) (it : Item) : (srfBack s it).srf.fixed = s.srf.fixed := by
  obtain ⟨o, hop, hback⟩ := srfBack_remaps s it
  obtain ⟨used, hsrf⟩ := srf_backTaken s it
  calc (srfBack s it).srf.fixed = (backTaken s it).2.srf.fixed := by
        rw [hback, fixed_rangeAccepted _ hop]
        rfl
    _ = s.srf.fixed := by
        rw [hsrf]
        rfl

theorem fixed_srfInval (s : State) (it : Item) : (srfInval s it).srf.fixed = s.srf.fixed := by
  obtain ⟨o, hop, hinval⟩ := srfInval_drops s it
  rw [hinval, fixed_rangeAccepted _ hop]
  rfl

theorem fixed_srfFree (s : State) (it : Item) : (srfFree s it).srf.fixed = s.srf.fixed := by
  cases hfind : s.srf.surfs.find? (fun u => u.handle == srfHandle it.entry) with
  | none =>
    simp only [srfFree, hfind]
  | some y =>
    rw [srfFree_found hfind]
    split
    · rw [srf_srfShow]
      rfl
    · exact fixed_finishFree _ _ _

theorem fixed_srfApply (s : State) (it : Item) : (srfApply s it).srf.fixed = s.srf.fixed := by
  unfold srfApply
  dsimp only
  split
  · rw [srf_srfDone]
  · split
    · exact fixed_srfCreate s it
    · split
      · exact fixed_srfBack s it
      · split
        · exact fixed_srfFree s it
        · exact fixed_srfInval s it

/-- When the table region is ready, the operations that waited for it run, and none waits any more (R197). -/
theorem srfTableDone_runs {s : State} (h : s.srf.initBusy = true) :
    (srfTableDone s).srf.initBusy = false ∧ (srfTableDone s).srf.held = [] := by
  have hfixed : (srfTableDone s).srf.fixed = { s.srf with initBusy := false, held := [] }.fixed := by
    rw [srfTableDone, if_pos h]
    refine List.foldlRecOn (motive := fun x => x.srf.fixed = { s.srf with initBusy := false, held := [] }.fixed) _ _ ?_
      fun x hx it _ => (fixed_srfApply x it).trans hx
    rfl
  exact ⟨congrArg Prod.fst hfixed, congrArg (fun p => p.2.1) hfixed⟩

/-! ### EN 0 to 1 (R197) -/

theorem srfEnable_effect (s : State) : getF (srfEnable s) F.SRF_CTL_EN = 1 ∧ (srfEnable s).srf =
    { s.srf with initBusy := true, retiredAny := false, segs := [], used := [], copies := [], tc := [] } := by
  unfold srfEnable
  refine ⟨?_, srf_srfShow _⟩
  rw [getF_of_regs (srfShow_regs _ (by decide) (by decide) RegsBut.same)]
  exact getF_setF_same s F.SRF_CTL_EN 1 (by decide)

theorem exec_srfEnable {s : State} (h : WriteOk s R.SRF_CTL (F.SRF_CTL_EN.put 0#32 1)) (h0 : getF s F.SRF_CTL_EN = 0) :
    exec .srfEnable s = .next (srfEnable (storeReg s R.SRF_CTL (F.SRF_CTL_EN.put 0#32 1))) := by
  have hrises : rises s F.SRF_CTL_EN (F.SRF_CTL_EN.put 0#32 1) = true := by
    rw [rises, h0]
    decide
  refine congrArg Host.Outcome.next ((hostWrite_accepted (by decide) (by decide) h).trans ?_)
  rw [regEffect_0a _ _ _ (by decide), if_pos ⟨rfl, hrises⟩]

/-! ### An entry that SRF takes (R180, R183) -/

/-- The core that hands its entry over has one of the opcode that is asked for. -/
theorem opcode_of_coreFirst {s : State} {op k : Nat} (h : coreFirst s op = some k) :
    (trec s k).active.any (fun i => opcode i == op) = true := by
  have hmem : k ∈ (List.range 8).filter (fun t => !coreStopped s t && (trec s t).active.any (fun i => opcode i == op)) := by
    refine (foldl_choice_mem (fun b x => ?_) h).elim (fun hnone => by cases hnone) id
    cases b with
    | none => exact .inr rfl
    | some u =>
      dsimp only
      split
      · exact .inr rfl
      · exact .inl rfl
  simp only [List.mem_filter, Bool.and_eq_true] at hmem
  exact hmem.2.2

theorem opcode_of_coreTake {s x : State} {op : Nat} {it : Item} (h : coreTake s op = some (it, x)) : opcode it = op := by
  unfold coreTake at h
  split at h
  next k hk =>
    have hop := opcode_of_coreFirst hk
    obtain ⟨i, hi, heq⟩ := Option.map_eq_some_iff.1 h
    cases heq
    simpa [hi] using hop
  next => cases h

/-- An accepted entry reaches SRF while its table is ready: it is applied at once. -/
theorem srfEntry_taken {s x : State} {op : Nat} {it : Item} (h : SrfTakes s op it x) :
    onEntry s op srfEntry = srfApply x it := by
  obtain ⟨_, htake, hready, _⟩ := h
  rw [onEntry, htake]
  exact if_neg (by rw [hready]; decide)

theorem srfApply_accepted {s x : State} {op : Nat} {it : Item} (h : SrfTakes s op it x) : srfApply x it =
    if op = 0x20 then srfCreate x it else if op = 0x21 then srfBack x it else if op = 0x22 then srfFree x it
    else srfInval x it := by
  obtain ⟨_, htake, _, hok⟩ := h
  rw [srfApply, hok, opcode_of_coreTake htake]
  exact if_neg (by decide)

section
variable {s x : State} {it : Item}

theorem whenOn_srfTakes {op : Nat} (h : SrfTakes s op it x) :
    whenOn 0x0A s (fun s => onEntry s op srfEntry) = .next (srfApply x it) :=
  (whenOn_of_on h.1 _).trans (congrArg Host.Outcome.next (srfEntry_taken h))

theorem exec_surfaceCreate (h : SrfTakes s 0x20 it x) : exec .surfaceCreate s = .next (srfCreate x it) :=
  (whenOn_srfTakes h).trans (by simp [srfApply_accepted h])

theorem exec_surfaceBack (h : SrfTakes s 0x21 it x) : exec .surfaceBack s = .next (srfBack x it) :=
  (whenOn_srfTakes h).trans (by simp [srfApply_accepted h])

theorem exec_surfaceFree (h : SrfTakes s 0x22 it x) : exec .surfaceFree s = .next (srfFree x it) :=
  (whenOn_srfTakes h).trans (by simp [srfApply_accepted h])

theorem exec_surfaceInval (h : SrfTakes s 0x23 it x) : exec .surfaceInval s = .next (srfInval x it) :=
  (whenOn_srfTakes h).trans (by simp [srfApply_accepted h])

end

/-! ### What each operation leaves -/

theorem srfBack_host {s : State} {it : Item} (h : srfKind it.entry = 1) : (srfBack s it).srf.segs =
    segsOut s.srf.segs (srfVa it.entry / 65536) (srfSize it.entry / 65536) ++
      [⟨srfVa it.entry / 65536, srfSize it.entry / 65536, .host (srfHaddr it.entry)⟩] := by
  obtain ⟨o, hop, hback⟩ := srfBack_remaps s it
  obtain ⟨_, _, hsrf⟩ := srf_rangeAccepted (remapped (backTaken s it).2 it (backKept s it) (backTaken s it).1 (frameList s))
    hop (frameList s)
  have hkept : backKept s it = [] := if_neg (by rw [h]; decide)
  have htaken : backTaken s it = ([⟨srfVa it.entry / 65536, srfSize it.entry / 65536, .host (srfHaddr it.entry)⟩], s) :=
    (if_neg (by rw [h]; decide)).trans (if_pos h)
  rw [hback, hsrf, hkept, htaken]
  simp [remapped, dropCopies]

theorem srfInval_effect (s : State) (it : Item) : (srfInval s it).srf.segs = s.srf.segs ∧
    ∀ c ∈ (srfInval s it).srf.copies, srfVa it.entry / 65536 ≤ c.vp →
      c.vp < srfVa it.entry / 65536 + srfSize it.entry / 65536 → c.only ≠ none := by
  obtain ⟨o, hop, hinval⟩ := srfInval_drops s it
  obtain ⟨_, _, hsrf⟩ := srf_rangeAccepted
    (dropCopies s (srfVa it.entry / 65536) (srfSize it.entry / 65536) (frameList s)) hop (frameList s)
  rw [hinval, hsrf]
  exact ⟨rfl, fun c hc => dropCopies_only hc⟩

section
variable {s : State} {it : Item} {y : Surf} (hy : s.srf.surfs.find? (fun u => u.handle == srfHandle it.entry) = some y)
include hy

theorem srfFree_at_once (hw : freeWaits s y = false) : (srfFree s it).srf.segs = segsOut s.srf.segs y.vp y.n ∧
    ∀ u ∈ (srfFree s it).srf.surfs, u.handle ≠ y.handle := by
  obtain ⟨_, _, _, hsrf⟩ := finishFree_effect (freeMarked s (srfHandle it.entry)) it y
  rw [srfFree_found hy, if_neg (by rw [hw]; decide), hsrf]
  exact ⟨rfl, fun u hu => by simpa using (List.mem_filter.1 hu).2⟩

theorem srfFree_pending (hw : freeWaits s y = true) : (∃ o ∈ (srfFree s it).srf.pend, o.item = it) ∧
    ∀ u ∈ (srfFree s it).srf.surfs, u.handle = y.handle → u.freeing = true := by
  rw [srfFree_found hy, if_pos hw, srf_srfShow]
  refine ⟨⟨_, List.mem_append_right _ (List.mem_singleton_self _), rfl⟩, fun u hu hh => ?_⟩
  obtain ⟨z, _, rfl⟩ := List.mem_map.1 hu
  have hhandle : y.handle = srfHandle it.entry := by simpa using List.find?_some hy
  by_cases hz : z.handle = srfHandle it.entry
  · rw [if_pos hz]
  · rw [if_neg hz] at hh
    exact absurd (hh.trans hhandle) hz

end

/-- Settles O28, operation by operation. -/
theorem surfaceOperations : Obligations.SurfaceOperations := by
  unfold Obligations.SurfaceOperations
  refine ⟨?create, ?back, ?free, ?inval, ?enable, ?ready⟩
  case create =>
    intro it x s _ h
    obtain ⟨ps, used, hlen, hsrf⟩ := srfCreate_effect x it
    refine ⟨_, ps, exec_surfaceCreate h, by rw [hsrf], fun hsparse => ?_, fun hfull => ?_⟩
    · rw [hsrf]
      simp only [createdSegs, hsparse, if_true]
    · rw [hsrf]
      simp only [createdSegs, hfull, Bool.false_eq_true, if_false, and_true] at hlen ⊢
      exact hlen
  case back => exact fun it x s _ h hhost => ⟨_, exec_surfaceBack h, srfBack_host hhost⟩
  case free => exact fun it x y s _ h hy => ⟨_, exec_surfaceFree h, srfFree_at_once hy, srfFree_pending hy⟩
  case inval => exact fun it x s _ h => ⟨_, exec_surfaceInval h, srfInval_effect x it⟩
  case enable =>
    intro s h h0
    obtain ⟨hen, hsrf⟩ := srfEnable_effect (storeReg s R.SRF_CTL (F.SRF_CTL_EN.put 0#32 1))
    refine ⟨_, exec_srfEnable h h0, hen, ?_⟩
    rw [hsrf]
    exact ⟨rfl, rfl, rfl, rfl⟩
  case ready => exact fun s _ hon hbusy => ⟨_, whenOn_of_on hon srfTableDone, srfTableDone_runs hbusy⟩

end Sys2Proof.Machine
end

section
/-! PROOF. Frames and prefetch (R187 to R191): the frame that retires, that issuing reads takes nothing back, and what the read of a
page leaves when it is issued, returns, fails or is late. -/

namespace Sys2Proof.Machine

/-! ### Counters and codes -/

theorem getF_incSat_same (s : State) (f : Fld) (n : Nat) (h : f.lo + f.width ≤ 32) :
    getF (incSat s f n) f = satAdd f.top (getF s f) n := by
  have hfit : satAdd f.top (getF s f) n < 2 ^ f.width :=
    (Nat.min_le_left _ _).trans_lt (Nat.sub_lt (by positivity) Nat.one_pos)
  rw [incSat, getF_setF_same _ _ _ h, Nat.mod_eq_of_lt hfit]

theorem Status.code_lt (c : Status) : c.code < 2 ^ 8 := by cases c <;> decide

/-! ### The oldest frame retires (R191) -/

/-- Frame `n` has left the reading engine, and is the last that retired. -/
def frameOut (s : State) (n : Nat) : State :=
  setF { forgetFrame s n with srf := { (forgetFrame s n).srf with retiredAny := true } } F.SRF_RETIRED_FRAME n

theorem retireFrame_running {s : State} {f : FrameRef} {l : List FrameRef} (hf : s.srf.frames = f :: l) (hr : f.running = true) :
    retireFrame s = sweepPend (frameOut s f.n) := by
  simp only [retireFrame, hf, hr, if_true]
  rfl

theorem getF_sweepPend_retired (s : State) : getF (sweepPend s) F.SRF_RETIRED_FRAME = getF s F.SRF_RETIRED_FRAME :=
  getF_of_regs (sweepPend_regs s (fun k => by simp only; omega) (fun i => by simp only [R.QUE_STAT]; omega)
    (fun i => by simp only [R.QUE_RET]; omega) (by decide) (by decide) RegsBut.same)

theorem retireFrame_effect {s : State} {f : FrameRef} {l : List FrameRef} (hf : s.srf.frames = f :: l) (hr : f.running = true) :
    getF (retireFrame s) F.SRF_RETIRED_FRAME = f.n % 2 ^ 32 ∧ (retireFrame s).srf.retiredAny = true ∧
      ∀ g ∈ (retireFrame s).srf.frames, g.n ≠ f.n := by
  have hfixed : (retireFrame s).srf.fixed = (frameOut s f.n).srf.fixed := by
    rw [retireFrame_running hf hr, fixed_sweepPend]
  have hframes : (retireFrame s).srf.frames = s.srf.frames.filter (fun g => g.n != f.n) := congrArg (fun p => p.2.2.1) hfixed
  refine ⟨?_, congrArg (fun p => p.2.2.2) hfixed, fun g hg => ?_⟩
  · rw [retireFrame_running hf hr, getF_sweepPend_retired]
    exact getF_setF_same _ _ _ (by decide)
  · rw [hframes] at hg
    simpa using (List.mem_filter.1 hg).2

/-! ### Issuing reads takes nothing back -/

/-- Everything sent out, every host read outstanding and every page on its way in `s` is so in `t`, and in its place. -/
structure Grows (s t : State) : Prop where
  out : s.out <+: t.out
  reads : s.hif.reads <+: t.hif.reads
  fetching : s.srf.fetching <+: t.srf.fetching

theorem Grows.of_eq {s t : State} (hout : t.out = s.out) (hreads : t.hif.reads = s.hif.reads)
    (hfetching : t.srf.fetching = s.srf.fetching) : Grows s t :=
  ⟨hout ▸ List.prefix_rfl, hreads ▸ List.prefix_rfl, hfetching ▸ List.prefix_rfl⟩

theorem Grows.refl (s : State) : Grows s s := .of_eq rfl rfl rfl

theorem Grows.trans {s t u : State} (h : Grows s t) (k : Grows t u) : Grows s u :=
  ⟨h.out.trans k.out, h.reads.trans k.reads, h.fetching.trans k.fetching⟩

theorem Grows.readOut {s t : State} {who : Rd} (h : Grows s t) (hout : readOut s who = true) : readOut t who = true := by
  obtain ⟨r, hr, hlive⟩ := List.any_eq_true.1 hout
  exact List.any_eq_true.2 ⟨r, h.reads.subset hr, hlive⟩

theorem out_sendVec (s : State) (v : Nat) : s.out <+: (sendVec s v).out := by
  unfold sendVec
  split
  · exact List.prefix_rfl
  · split
    · exact List.prefix_rfl
    · split
      · exact List.prefix_append _ _
      · exact List.prefix_rfl

theorem out_appendEvent (s : State) (e : Ev) : s.out <+: (appendEvent s e).out := by
  unfold appendEvent
  dsimp only
  split
  · rw [incSat_out]
  · split
    · refine List.IsPrefix.trans ?_ (out_sendVec _ _)
      exact List.prefix_rfl
    · exact List.prefix_rfl

/-- The cells of a tile's letter wait in its insertion queues (R318). -/
theorem out_tileLetter (s : State) (cls kind ltype : Nat) (content : Bytes) : (tileLetter s cls kind ltype content).out = s.out :=
  same_of_keeps .out (tileLetter_keeps s cls kind ltype content (by decide) (by decide) Keeps.same)

theorem out_raise (s : State) (code : Nat) (det : Bytes) : s.out <+: (raise s code det).out := by
  unfold raise
  dsimp only
  split
  · rw [out_tileLetter]
    exact out_appendEvent _ _
  · exact out_appendEvent _ _

theorem grows_uncorrectable (s : State) (b : Nat) : Grows s (uncorrectable s b) := by
  refine ⟨?out, ?reads, ?fetching⟩
  case out =>
    refine List.IsPrefix.trans ?_ (out_raise _ _ _)
    rw [setF_out, setF_out, incSat_out]
  case reads =>
    rw [uncorrectable, raise_reads, setF_hif, setF_hif, incSat_hif]
  case fetching =>
    have hsrf : (uncorrectable s b).srf = s.srf := same_of_keeps .srf
      (uncorrectable_keeps s b (by decide) (by decide) (by decide) (by decide) (by decide) Keeps.same)
    rw [hsrf]

/-- A translation that can be read changes its count, the cache of translations and the free values. -/
theorem srfWalk_good_keeps {s : State} {vp : Nat} (h : walkBad s vp = false) : Keeps [.regs, .srf, .free] s (srfWalk s vp) := by
  unfold srfWalk
  split
  · exact Keeps.same
  · simp only [h, Bool.false_eq_true, if_false]
    exact (Keeps.srf (by decide)).2 (drawNat_keeps _ (by decide) (incMod_keeps s _ _ (by decide) Keeps.same))

theorem fetching_srfWalk_good {s : State} {vp : Nat} (h : walkBad s vp = false) :
    (srfWalk s vp).srf.fetching = s.srf.fetching := by
  obtain ⟨hs, _⟩ | ⟨u, tc, hs, hu⟩ := srfWalk_of_good h
  · rw [hs]
  · rw [hs, ← hu]

theorem grows_srfWalk (s : State) (vp : Nat) : Grows s (srfWalk s vp) := by
  by_cases hc : s.srf.tc.contains vp = true
  · rw [srfWalk, if_pos hc]
    exact .refl s
  · cases hbad : walkBad s vp with
    | true =>
      rw [srfWalk, if_neg hc, hbad, if_pos rfl]
      exact .trans (.of_eq (incMod_out _ _ _) (by rw [incMod_hif]) (by rw [incMod_srf])) (grows_uncorrectable _ _)
    | false =>
      obtain ⟨_, _, hsame⟩ := srfWalk_good_keeps hbad
      exact .of_eq (hsame .out (by decide)) (congrArg HifSt.reads (hsame .hif (by decide))) (fetching_srfWalk_good hbad)

theorem out_upstream_read (s : State) (who : Rd) (a n : Nat) : s.out <+: (upstream s (.read who a n)).out := by
  unfold upstream
  split
  · exact List.prefix_rfl
  · split
    · exact List.prefix_append _ _
    · exact List.prefix_rfl

theorem grows_upstream_read (s : State) (who : Rd) (a n : Nat) : Grows s (upstream s (.read who a n)) := by
  refine ⟨out_upstream_read s who a n, ?reads, ?fetching⟩
  case reads =>
    rcases upstream_read_hif s who a n with e | ⟨r, e⟩ | e
    · rw [e]
    · rw [e]
      exact List.prefix_append _ _
    · rw [e]
  case fetching =>
    have hsrf : (upstream s (.read who a n)).srf = s.srf :=
      same_of_keeps .srf (upstream_keeps s _ (by decide) (by decide) (by decide) Keeps.same)
    rw [hsrf]

/-- The page is noted as one whose read failed for frame `frame` (R190). -/
def missNoted (s : State) (vp frame : Nat) : State := { s with srf := { s.srf with failed := s.srf.failed ++ [(vp, frame)] } }

theorem prefetchMiss_eq (s : State) (vp frame : Nat) (c : Status) : prefetchMiss s vp frame c =
    setF (setF (incSat (missNoted s vp frame) F.SRF_PFSTAT_FAIL) F.SRF_PFLAST_HANDLE
      (surfAt (incSat (missNoted s vp frame) F.SRF_PFSTAT_FAIL) vp)) F.SRF_PFLAST_CODE c.code := rfl

theorem grows_prefetchMiss (s : State) (vp frame : Nat) (c : Status) : Grows s (prefetchMiss s vp frame c) := by
  rw [prefetchMiss_eq]
  refine .trans (t := missNoted s vp frame) (.of_eq rfl rfl rfl) (.of_eq ?_ ?_ ?_)
  · rw [setF_out, setF_out, incSat_out]
  · rw [setF_hif, setF_hif, incSat_hif]
  · rw [setF_srf, setF_srf, incSat_srf]

/-! ### The read of one page (R187, R188) -/

/-- Page `p` of the cache is kept for the page that `d` needs. -/
def fetchKept (s : State) (d : Need) (p : Nat) (only : Option (List Nat)) : State :=
  { s with srf := { s.srf with fetching := s.srf.fetching ++ [⟨d.vp, p, d.frame, only⟩] } }

/-- The page that `d` needs is asked for. -/
def fetchAsked (s : State) (d : Need) (a p : Nat) (only : Option (List Nat)) : State :=
  upstream (fetchKept s d p only) (.read (.page d.vp) a 65536)

/-- The translation of the page that `d` needs is used; the page is asked for, or its read fails with the translation (R179). -/
def fetchStarted (s : State) (d : Need) (a p : Nat) (only : Option (List Nat)) : State :=
  if walkBad s d.vp then prefetchMiss (srfWalk s d.vp) d.vp d.frame .integrity else fetchAsked (srfWalk s d.vp) d a p only

/-- The frames that may read the copy of a page read now, where the mapping that frames to come use is another. -/
def copyServes (s : State) (d : Need) (a : Nat) : Option (List Nat) :=
  if pageMap s d.vp == some (.host a) then none
  else some ((frameList s).filter (fun f => pageMapFor s f d.vp == some (.host a)))

/-- A prefetch starts the read of one page, for which it may evict a copy, or does nothing. -/
theorem prefetchOne_cases (s : State) (p : Need → Bool) : prefetchOne s p = s ∨
    ∃ u d a page only, Grows s u ∧ prefetchOne s p = fetchStarted u d a page only := by
  unfold prefetchOne
  split
  · exact .inl rfl
  · split
    · exact .inl rfl
    next d _ =>
      split
      next a _ =>
        dsimp only
        split
        next page _ => exact .inr ⟨s, d, a, page, copyServes s d a, .refl s, rfl⟩
        next =>
          split
          next c _ =>
            exact .inr ⟨{ s with srf := { s.srf with copies := s.srf.copies.erase c } }, d, a, c.page, copyServes s d a,
              .of_eq rfl rfl rfl, rfl⟩
          next => exact .inl rfl
      next => exact .inl rfl

theorem grows_fetchAsked (s : State) (d : Need) (a p : Nat) (only : Option (List Nat)) : Grows s (fetchAsked s d a p only) := by
  refine .trans (t := fetchKept s d p only) ⟨List.prefix_rfl, List.prefix_rfl, List.prefix_append _ _⟩ ?_
  exact grows_upstream_read _ _ _ _

theorem grows_fetchStarted (s : State) (d : Need) (a p : Nat) (only : Option (List Nat)) : Grows s (fetchStarted s d a p only) := by
  unfold fetchStarted
  split
  · exact (grows_srfWalk s d.vp).trans (grows_prefetchMiss _ _ _ _)
  · exact (grows_srfWalk s d.vp).trans (grows_fetchAsked _ _ _ _ _)

theorem grows_prefetchOne (s : State) (p : Need → Bool) : Grows s (prefetchOne s p) := by
  rcases prefetchOne_cases s p with e | ⟨u, d, a, page, only, hu, e⟩
  · rw [e]
    exact .refl s
  · rw [e]
    exact hu.trans (grows_fetchStarted u d a page only)

theorem grows_prefetchDue (s : State) : Grows s (prefetchDue s) :=
  List.foldlRecOn (motive := Grows s) _ _ (.refl s) fun x hx _ _ => hx.trans (grows_prefetchOne x _)

/-! ### PREFETCH_ISSUE (R187) -/

theorem linkUp_of_upOpen {s : State} (h : upOpen s = true) : isSet s F.HIF_LINKSTAT_UP = true := by
  simp only [upOpen, Bool.and_eq_true] at h
  exact h.1

section
variable {s : State} {d : Need} {a p : Nat}

/-- With a cache page free, the first read is of the page with the earliest deadline that needs one. -/
theorem prefetchOne_free (hon : srfOn s = true) (hup : upOpen s = true) (hfind : (needsSorted s).find? (needsRead s) = some d)
    (hmap : pageMapFor s d.frame d.vp = some (.host a)) (hfree : cacheFree s = some p) :
    prefetchOne s (fun _ => true) = fetchStarted s d a p (copyServes s d a) := by
  simp only [prefetchOne, hon, linkUp_of_upOpen hup, Bool.not_true, Bool.or_self, Bool.false_eq_true, if_false,
    Bool.and_true, hfind, hmap, hfree]
  rfl

/-- A read that may go now goes out at once, cut as R96 and R127 say, and is outstanding (R187). -/
theorem upstream_read_goes {who : Rd} {n : Nat} (hup : upOpen s = true) (htag : tagFree s (.read who a n) = true) :
    (upstream s (.read who a n)).out = s.out ++ (busParts s.hif.mrrs a n).map (fun q => Out.hostRead who q.1 q.2) ∧
      readOut (upstream s (.read who a n)) who = true := by
  have hgo : upstream s (.read who a n) = issueUp s (.read who a n) := by
    rw [upstream, if_neg (by simp [linkUp_of_upOpen hup]), if_pos (by rw [hup, htag, Bool.and_true])]
  rw [hgo]
  exact ⟨rfl, by simp [readOut, issueUp]⟩

theorem upOpen_srfWalk (s : State) (vp : Nat) : upOpen (srfWalk s vp) = upOpen s := by
  have hword : (srfWalk s vp).word R.HIF_LINKSTAT = s.word R.HIF_LINKSTAT :=
    word_of_regs (srfWalk_regs s vp (fun k => by simp only [R.HIF_LINKSTAT]; omega) (by decide) (by decide)
      (fun i => by simp only [R.CHN_PERR, R.HIF_LINKSTAT]; omega) (by decide) (by decide) RegsBut.same)
  simp only [upOpen, isSet, getF, hword]

/-- The read of the page that `d` needs, with its translation good and a tag free. -/
theorem fetchStarted_goes {only : Option (List Nat)} (hup : upOpen s = true) (hgood : walkBad s d.vp = false)
    (htag : tagFree s (.read (.page d.vp) a 65536) = true) :
    (fetchStarted s d a p only).out = s.out ++ (busParts s.hif.mrrs a 65536).map (fun q => Out.hostRead (.page d.vp) q.1 q.2) ∧
      readOut (fetchStarted s d a p only) (.page d.vp) = true ∧
      ⟨d.vp, p, d.frame, only⟩ ∈ (fetchStarted s d a p only).srf.fetching := by
  obtain ⟨_, _, hsame⟩ := srfWalk_good_keeps hgood
  have hout : (srfWalk s d.vp).out = s.out := hsame .out (by decide)
  have hhif : (srfWalk s d.vp).hif = s.hif := hsame .hif (by decide)
  have hstart : fetchStarted s d a p only =
      upstream (fetchKept (srfWalk s d.vp) d p only) (.read (.page d.vp) a 65536) := if_neg (by rw [hgood]; decide)
  have hup' : upOpen (fetchKept (srfWalk s d.vp) d p only) = true := (upOpen_srfWalk s d.vp).trans hup
  have htag' : tagFree (fetchKept (srfWalk s d.vp) d p only) (.read (.page d.vp) a 65536) = true := by
    simpa only [tagFree, fetchKept, hhif] using htag
  obtain ⟨hsent, hread⟩ := upstream_read_goes hup' htag'
  rw [hstart]
  refine ⟨?out, hread, (grows_upstream_read _ _ _ _).fetching.subset (List.mem_append_right _ (List.mem_singleton_self _))⟩
  rw [hsent]
  simp only [fetchKept, hout, hhif]

theorem prefetchIssue_effect (hon : srfOn s = true) (hup : upOpen s = true)
    (hfind : (needsSorted s).find? (needsRead s) = some d) (hmap : pageMapFor s d.frame d.vp = some (.host a))
    (hgood : walkBad s d.vp = false) (hfree : cacheFree s = some p) (htag : tagFree s (.read (.page d.vp) a 65536) = true) :
    ∃ l, readOut (prefetchIssue s) (.page d.vp) = true ∧
      (prefetchIssue s).out = s.out ++ (busParts s.hif.mrrs a 65536).map (fun q => Out.hostRead (.page d.vp) q.1 q.2) ++ l ∧
      ∃ f ∈ (prefetchIssue s).srf.fetching, f.vp = d.vp ∧ f.page = p ∧ f.frame = d.frame := by
  have hgrows : Grows (fetchStarted s d a p (copyServes s d a)) (prefetchIssue s) := by
    rw [prefetchIssue, prefetchOne_free hon hup hfind hmap hfree]
    exact grows_prefetchDue _
  obtain ⟨hout, hread, hfetch⟩ := fetchStarted_goes (p := p) (only := copyServes s d a) hup hgood htag
  obtain ⟨l, hl⟩ := hgrows.out
  exact ⟨l, hgrows.readOut hread, by rw [← hl, hout], _, hgrows.fetching.subset hfetch, rfl, rfl, rfl⟩

end

/-! ### PREFETCH_DONE and PREFETCH_FAIL (R187, R190) -/

theorem dropRead_same (s : State) (who : Rd) : (dropRead s who).srf = s.srf ∧ (dropRead s who).dram = s.dram := by
  obtain ⟨_, _, hsame⟩ := dropRead_keeps (W0 := [.regs, .hif, .out]) s who (by decide) (by decide) (by decide) Keeps.same
  exact ⟨hsame .srf (by decide), hsame .dram (by decide)⟩

/-- The read of page `vp` has ended. -/
def fetchEnded (s : State) (vp : Nat) (f : Fetch) : State :=
  { dropRead s (.page vp) with srf := { (dropRead s (.page vp)).srf with
    fetching := (dropRead s (.page vp)).srf.fetching.erase f } }

/-- The copy that `f` brought is resident (R187). -/
def copyKept (s : State) (vp : Nat) (f : Fetch) : State :=
  { s with srf := { s.srf with
    stamp := s.srf.stamp + 1, copies := s.srf.copies ++ [⟨vp, f.page, s.srf.stamp + 1, f.only⟩] } }

theorem dram_dramWr (s : State) (a : Nat) (b : Bytes) : (dramWr s a b).dram = wrBytes dramFill s.dram a b := rfl

section
variable {s : State} {vp : Nat} {f : Fetch} (hf : s.srf.fetching.find? (fun f => f.vp == vp) = some f)
include hf

theorem prefetchDone_kept (b : Bytes) (honly : f.only ≠ some []) :
    prefetchDone s vp b = dramWr (copyKept (fetchEnded s vp f) vp f) (65536 * f.page) (fit 65536 b) := by
  have hkept : (f.only == some []) = false := by simpa using honly
  simp only [prefetchDone, hf, hkept, Bool.false_eq_true, if_false]
  rfl

theorem prefetchDone_effect (b : Bytes) (honly : f.only ≠ some []) :
    (prefetchDone s vp b).dram = wrBytes dramFill s.dram (65536 * f.page) (fit 65536 b) ∧
      ∃ c ∈ (prefetchDone s vp b).srf.copies, c.vp = vp ∧ c.page = f.page ∧ c.only = f.only := by
  have hdram : (copyKept (fetchEnded s vp f) vp f).dram = s.dram := by
    rw [copyKept, fetchEnded, (dropRead_same s (.page vp)).2]
  rw [prefetchDone_kept hf b honly, dram_dramWr, hdram, dramWr_srf]
  exact ⟨rfl, _, List.mem_append_right _ (List.mem_singleton_self _), rfl, rfl, rfl⟩

theorem prefetchFail_misses (c : Status) : prefetchFail s vp c = prefetchMiss (fetchEnded s vp f) vp f.frame c := by
  simp only [prefetchFail, hf]
  rfl

end

theorem prefetchMiss_effect (s : State) (vp frame : Nat) (c : Status) : (vp, frame) ∈ (prefetchMiss s vp frame c).srf.failed ∧
    getF (prefetchMiss s vp frame c) F.SRF_PFLAST_CODE = c.code ∧
    getF (prefetchMiss s vp frame c) F.SRF_PFSTAT_FAIL = satAdd F.SRF_PFSTAT_FAIL.top (getF s F.SRF_PFSTAT_FAIL) 1 := by
  rw [prefetchMiss_eq]
  refine ⟨?failed, ?code, ?count⟩
  case failed =>
    rw [setF_srf, setF_srf, incSat_srf]
    exact List.mem_append_right _ (List.mem_singleton_self _)
  case code => rw [getF_setF_same _ _ _ (by decide), Nat.mod_eq_of_lt c.code_lt]
  case count =>
    rw [getF_setF_ne _ _ _ _ (by decide), getF_setF_ne _ _ _ _ (by decide), getF_incSat_same _ _ _ (by decide)]
    rfl

theorem prefetchFail_effect {s : State} {vp : Nat} {f : Fetch} (hf : s.srf.fetching.find? (fun f => f.vp == vp) = some f)
    (c : Status) : (vp, f.frame) ∈ (prefetchFail s vp c).srf.failed ∧ getF (prefetchFail s vp c) F.SRF_PFLAST_CODE = c.code ∧
    getF (prefetchFail s vp c) F.SRF_PFSTAT_FAIL = satAdd F.SRF_PFSTAT_FAIL.top (getF s F.SRF_PFSTAT_FAIL) 1 := by
  have hcount : getF (fetchEnded s vp f) F.SRF_PFSTAT_FAIL = getF s F.SRF_PFSTAT_FAIL := getF_dropRead (by decide) s (.page vp)
  rw [prefetchFail_misses hf, ← hcount]
  exact prefetchMiss_effect _ _ _ _

/-! ### LATE_PAGE (R189, R190) -/

/-- The need of a late page is met or lost. -/
def needGone (s : State) (d : Need) : State := { s with srf := { s.srf with needs := s.srf.needs.erase d } }

theorem recordLate_eq (s : State) (d : Need) : recordLate s d =
    setF (setF (setF (incSat (needGone s d) F.SRF_PFSTAT_LATE) F.SRF_PFLAST_HANDLE
      (surfAt (incSat (needGone s d) F.SRF_PFSTAT_LATE) d.vp)) F.SRF_PFLAST_CODE
        (if isSet s F.HIF_LINKSTAT_UP then Status.late else Status.linkAbsent).code) F.SRF_PFFRM_FRAME d.frame := rfl

theorem recordLate_effect (s : State) (d : Need) : getF (recordLate s d) F.SRF_PFFRM_FRAME = d.frame % 2 ^ 32 ∧
    getF (recordLate s d) F.SRF_PFLAST_CODE = (if isSet s F.HIF_LINKSTAT_UP then Status.late else Status.linkAbsent).code ∧
    getF (recordLate s d) F.SRF_PFSTAT_LATE = satAdd F.SRF_PFSTAT_LATE.top (getF s F.SRF_PFSTAT_LATE) 1 := by
  rw [recordLate_eq]
  refine ⟨getF_setF_same _ _ _ (by decide), ?code, ?count⟩
  case code => rw [getF_setF_ne _ _ _ _ (by decide), getF_setF_same _ _ _ (by decide), Nat.mod_eq_of_lt (Status.code_lt _)]
  case count =>
    rw [getF_setF_ne _ _ _ _ (by decide), getF_setF_ne _ _ _ _ (by decide), getF_setF_ne _ _ _ _ (by decide),
      getF_incSat_same _ _ _ (by decide)]
    rfl

theorem latePageStep_idle {s : State} {d : Need} (hlate : latePage s = some d) (hidle : s.cmp.raster = none) :
    latePageStep s = recordLate s d := by
  have hraster : (recordLate s d).cmp.raster = none := by
    rw [recordLate_eq, setF_cmp, setF_cmp, setF_cmp, incSat_cmp]
    exact hidle
  simp only [latePageStep, hlate, hraster]

/-- Settles O29, command by command. -/
theorem framesAndPrefetch : Obligations.FramesAndPrefetch := by
  unfold Obligations.FramesAndPrefetch
  refine ⟨?retire, ?issue, ?done, ?fail, ?late⟩
  case retire => exact fun f l s _ hon hf hr => ⟨_, whenOn_of_on hon retireFrame, retireFrame_effect hf hr⟩
  case issue =>
    intro d a p s hon hup hfind hmap hgood hfree htag
    have hblk : blkOn s 0x0A = true := by
      simp only [srfOn, Bool.and_eq_true] at hon
      exact hon.1
    obtain ⟨l, heffect⟩ := prefetchIssue_effect hon hup hfind hmap hgood hfree htag
    exact ⟨_, l, whenOn_of_on hblk prefetchIssue, heffect⟩
  case done =>
    intro vp b f s hon hf honly
    obtain ⟨hdram, hcopy⟩ := prefetchDone_effect hf b honly
    refine ⟨_, whenOn_of_on hon (prefetchDone · vp b), fun i hi => ?inside, fun i hi => ?outside, hcopy⟩
    case inside =>
      have hlen : i < (fit 65536 b).length := by rwa [fit_length]
      rw [hdram, rdByte_wrBytes_in _ _ _ _ _ hlen, List.getD_eq_getElem _ _ hlen]
    case outside => rw [hdram, rdByte_wrBytes_out _ _ _ _ _ (by rwa [fit_length])]
  case fail =>
    intro vp poisoned f s hon hf
    exact ⟨_, whenOn_of_on hon (prefetchFail · vp (if poisoned then .integrity else .busError)), prefetchFail_effect hf _⟩
  case late =>
    intro dt d s hon hlate hidle
    refine ⟨_, whenOn_of_on hon latePageStep, ?_⟩
    rw [latePageStep_idle hlate hidle]
    exact recordLate_effect _ _

end Sys2Proof.Machine
end

section
/-! PROOF. The decode curve and the low-grey trim (R207, R428) as the clipped formulas of the spec. -/

namespace Sys2Proof.Machine

/-! ### Clipping -/

theorem clip_nonneg {hi : Int} (h : 0 ≤ hi) (x : Int) : 0 ≤ clip 0 hi x := by
  unfold clip
  split
  · exact le_rfl
  · split
    · exact h
    · omega

theorem cast_clip_toNat {hi : Int} (h : 0 ≤ hi) (x : Int) : ((clip 0 hi x).toNat : Int) = clip 0 hi x :=
  Int.toNat_of_nonneg (clip_nonneg h x)

/-! ### The decode curve (R207) -/

/-- Point `k` of a decode curve, the implicit end point 4,096 among them (R207). -/
def curvePoint (e : Nat → Nat) (k : Nat) : Int := if k = 4096 then 2 * (e 4095 : Int) - e 4094 else e k

theorem curvePoint_entry (e : Nat → Nat) {k : Nat} (h : k < 4096) : curvePoint e k = e k := if_neg h.ne

theorem curvePoint_next (e : Nat → Nat) (k : Nat) :
    curvePoint e (k + 1) = if k = 4095 then (e 4095 : Int) + (e 4095 - e 4094) else e (k + 1) := by
  by_cases h : k = 4095
  · subst h
    rw [curvePoint, if_pos rfl, if_pos rfl]
    ring
  · rw [curvePoint, if_neg (by omega), if_neg h]

theorem decodeCurve_eq_clip (e : Nat → Nat) (u : Nat) : (decodeCurve e u : Int) = clip 0 0xFFFFFF
    (curvePoint e (u / 16) + (((curvePoint e (u / 16 + 1) - curvePoint e (u / 16)) * (u % 16 : Nat) + 8) >>> (4 : Nat))) := by
  rw [Int.shiftRight_eq_div_pow]
  exact cast_clip_toNat (by decide) _

/-! ### The low-grey trim (R428) -/

theorem trimLamp_black (trim : Int) (ks : Nat) : trimLamp 0 trim ks = 0 := by
  rw [trimLamp, if_pos rfl]

theorem trimLamp_lit {q : Int} (h : q ≠ 0) (trim : Int) (ks : Nat) : (trimLamp q trim ks : Int) =
    clip 0 0xFFFFFF (q + ((trim * 16 * ((2 : Int) ^ ks - min q (2 ^ ks))) >>> ks)) := by
  rw [trimLamp, if_neg h, Int.shiftRight_eq_div_pow, cast_clip_toNat (by decide)]
  rfl

/-- Settles O14: the curve by its points, the trim on black and on light. -/
theorem curveAndTrimFormulas : Obligations.CurveAndTrimFormulas := by
  unfold Obligations.CurveAndTrimFormulas
  refine ⟨fun e u hu => ?curve, fun q ks trim => ?trim⟩
  case curve => rw [decodeCurve_eq_clip, curvePoint_next, curvePoint_entry e (by omega)]
  case trim =>
    by_cases hq : q = 0
    · rw [if_pos hq, hq]
      exact congrArg Nat.cast (trimLamp_black trim ks)
    · rw [if_neg hq, trimLamp_lit (Int.natCast_ne_zero.2 hq)]

end Sys2Proof.Machine
end

section
/-! PROOF. The compositor (R227, R228, R230, R234): what an accepted load leaves of CMP while it is disabled and while it is enabled,
the writes of CMP_CTL.EN, and the end of compositing. -/

namespace Sys2Proof.Machine

/-! ### Loads that are accepted (R228) -/

theorem cmp_cmpDone (s : State) (it : Item) (c : Status) (badidx oframe : Nat) (dead : Bool) :
    (cmpDone s it c badidx oframe dead).cmp = s.cmp :=
  same_of_keeps .cmp (cmpDone_keeps s it c badidx oframe dead (by decide) (by decide) (by decide) (by decide) (by decide)
    (by decide) Keeps.same)

theorem isSet_cmpDone_en (s : State) (it : Item) (c : Status) (badidx oframe : Nat) (dead : Bool) :
    isSet (cmpDone s it c badidx oframe dead) F.CMP_CTL_EN = isSet s F.CMP_CTL_EN :=
  isSet_congr (getF_of_regs (cmpDone_regs s it c badidx oframe dead (fun k => by simp only; omega)
    (fun i => by simp only [R.QUE_STAT]; omega) (fun i => by simp only [R.QUE_RET]; omega) RegsBut.same))

/-- Is `m` a load of the book, bank or slot of `l`? -/
def Load.sameSlot (l m : Load) : Bool := m.op == l.op && m.index == l.index

/-- The loads still pending beside an accepted load `l`. -/
def CmpSt.loadsBeside (c : CmpSt) (l : Load) : List Load := c.loads.filter (fun m => !l.sameSlot m)

/-- `l` has taken the place of the pending loads of its slot, whose entries are completed. -/
def loadsReplaced (s : State) (l : Load) : State :=
  (s.cmp.loads.filter l.sameSlot).foldl (fun s m => cmpDone s m.item .staleState 0xFFFF 0 true)
    { s with cmp := { s.cmp with loads := s.cmp.loadsBeside l } }

theorem loadsReplaced_effect (s : State) (l : Load) :
    (loadsReplaced s l).cmp = { s.cmp with loads := s.cmp.loadsBeside l } ∧
      isSet (loadsReplaced s l) F.CMP_CTL_EN = isSet s F.CMP_CTL_EN := by
  unfold loadsReplaced
  refine List.foldlRecOn (motive := fun u => u.cmp = { s.cmp with loads := s.cmp.loadsBeside l } ∧
    isSet u F.CMP_CTL_EN = isSet s F.CMP_CTL_EN) _ _ ?init fun u ⟨hcmp, hen⟩ m _ => ⟨?cmp, ?en⟩
  case init => exact ⟨rfl, rfl⟩
  case cmp => rw [cmp_cmpDone, hcmp]
  case en => rw [isSet_cmpDone_en, hen]

theorem acceptLoad_eq (s : State) (l : Load) : acceptLoad s l =
    if isSet (loadsReplaced s l) F.CMP_CTL_EN then { loadsReplaced s l with cmp := { (loadsReplaced s l).cmp with
      loads := (loadsReplaced s l).cmp.loads ++ [l] } } else installLoad (loadsReplaced s l) l .ok 0 := rfl

/-- While CMP is enabled an accepted load is pending, and nothing else of CMP changes. -/
theorem cmp_acceptLoad_enabled {s : State} (h : isSet s F.CMP_CTL_EN = true) (l : Load) :
    (acceptLoad s l).cmp = { s.cmp with loads := s.cmp.loadsBeside l ++ [l] } := by
  obtain ⟨hcmp, hen⟩ := loadsReplaced_effect s l
  rw [acceptLoad_eq, if_pos (hen.trans h), hcmp]

theorem cmp_acceptLoad_disabled {s : State} (h : isSet s F.CMP_CTL_EN = false) (l : Load) :
    (acceptLoad s l).cmp = (useLoad (loadsReplaced s l) l).cmp := by
  obtain ⟨_, hen⟩ := loadsReplaced_effect s l
  rw [acceptLoad_eq, if_neg (by rw [hen, h]; decide)]
  exact cmp_cmpDone _ _ _ _ _ _

section
variable {s : State} {l : Load}

/-- A book goes into use at once while CMP is disabled. -/
theorem cmp_acceptLoad_book (h : isSet s F.CMP_CTL_EN = false) (hop : l.op = 0x30) :
    (acceptLoad s l).cmp = { s.cmp with loads := s.cmp.loadsBeside l, book := l.book } := by
  rw [cmp_acceptLoad_disabled h, useLoad, if_pos hop, (loadsReplaced_effect s l).1]

/-- A curve goes into use at once while CMP is disabled. -/
theorem curve_mem_acceptLoad (h : isSet s F.CMP_CTL_EN = false) (hop : l.op = 0x31) :
    (l.index, l.words) ∈ (acceptLoad s l).cmp.curves := by
  rw [cmp_acceptLoad_disabled h, useLoad, if_neg (by rw [hop]; decide), if_pos hop]
  exact List.mem_append_right _ (List.mem_singleton_self _)

/-- A filter goes into use at once while CMP is disabled. -/
theorem filter_mem_acceptLoad (h : isSet s F.CMP_CTL_EN = false) (hop : l.op = 0x32) :
    (l.index, l.words) ∈ (acceptLoad s l).cmp.filters := by
  rw [cmp_acceptLoad_disabled h, useLoad, if_neg (by rw [hop]; decide), if_neg (by rw [hop]; decide)]
  exact List.mem_append_right _ (List.mem_singleton_self _)

end

/-! ### Entries that CMP takes (R227) -/

/-- The state in which the data of an entry has been read. -/
def loadRead (x : State) (it : Item) (host : HostRes) : State :=
  (areaFetch x (leAt it.entry 2 2) (leAt it.entry 8 8) (loadBytes it.entry) host).2

theorem cmp_loadRead (x : State) (it : Item) (host : HostRes) : (loadRead x it host).cmp = x.cmp :=
  same_of_keeps .cmp (areaFetch_keeps x _ _ _ host (by decide) (by decide) (by decide) (by decide) (by decide) (by decide)
    (by decide) Keeps.same)

theorem isSet_loadRead_en (x : State) (it : Item) (host : HostRes) :
    isSet (loadRead x it host) F.CMP_CTL_EN = isSet x F.CMP_CTL_EN :=
  isSet_congr (getF_of_regs (areaFetch_regs x _ _ _ host (fun k => by simp only; omega) (by decide) (by decide)
    (fun i => by simp only [R.CHN_PERR]; omega) (by decide) (by decide) RegsBut.same))

section
variable {s x : State} {it : Item} {b : Bytes} {l : Load}

theorem makeLoad_slot (h : makeLoad s it b = .ok l) : l.op = byteAt it.entry 0 ∧ l.index = byteAt it.entry 1 := by
  unfold makeLoad at h
  dsimp only at h
  split at h
  · split at h
    · cases h
      exact ⟨rfl, rfl⟩
    · cases h
  · split at h
    · split at h
      · cases h
      · rw [← Except.ok.inj h]
        exact ⟨rfl, rfl⟩
    · rw [← Except.ok.inj h]
      exact ⟨rfl, rfl⟩

variable {op : Nat} {host : HostRes}

theorem loadTakes_slot (h : LoadTakes s op host it x b l) : l.op = op ∧ l.index = byteAt it.entry 1 := by
  obtain ⟨_, htake, _, _, _, hmake⟩ := h
  obtain ⟨hop, hindex⟩ := makeLoad_slot hmake
  exact ⟨hop.trans (opcode_of_coreTake htake), hindex⟩

theorem curve_words_of_loadTakes (h : LoadTakes s 0x31 host it x b l) :
    l.words = (List.range 4096).map (fun i => leAt b (4 * i) 4) := by
  obtain ⟨_, htake, _, _, _, hmake⟩ := h
  have hop : byteAt it.entry 0 = 0x31 := opcode_of_coreTake htake
  simp only [makeLoad, hop] at hmake
  rw [if_neg (by decide), if_pos trivial] at hmake
  split at hmake
  · cases hmake
  · rw [← Except.ok.inj hmake]

theorem filter_words_of_loadTakes (h : LoadTakes s 0x32 host it x b l) :
    l.words = (List.range 512).map (fun i => leAt b (2 * i) 2) := by
  obtain ⟨_, htake, _, _, _, hmake⟩ := h
  rw [makeLoad_filter b (opcode_of_coreTake htake)] at hmake
  rw [← Except.ok.inj hmake]

theorem cmpEntry_accepted (h : LoadTakes s op host it x b l) : cmpEntry x it host = acceptLoad (loadRead x it host) l := by
  obtain ⟨_, _, _, hcheck, hread, hmake⟩ := h
  simp only [cmpEntry, hcheck, hread, hmake]
  rfl

theorem whenOn_loadTakes (h : LoadTakes s op host it x b l) :
    whenOn 0x0B s (fun s => onEntryRead s op cmpWaits (fun s it => cmpEntry s it host)) =
      .next (acceptLoad (loadRead x it host) l) := by
  have hentry := cmpEntry_accepted h
  obtain ⟨hon, htake, hwait, _⟩ := h
  rw [whenOn_of_on hon, onEntryRead, htake]
  simp only [hwait, Bool.false_eq_true, if_false, hentry]

/-- While CMP is enabled a load that it takes is pending, and nothing in use changes. -/
theorem loadTaken_enabled (h : isSet x F.CMP_CTL_EN = true) :
    (acceptLoad (loadRead x it host) l).cmp.book = x.cmp.book ∧
      (acceptLoad (loadRead x it host) l).cmp.curves = x.cmp.curves ∧
      (acceptLoad (loadRead x it host) l).cmp.filters = x.cmp.filters ∧ l ∈ (acceptLoad (loadRead x it host) l).cmp.loads := by
  rw [cmp_acceptLoad_enabled ((isSet_loadRead_en x it host).trans h), cmp_loadRead]
  exact ⟨rfl, rfl, rfl, List.mem_append_right _ (List.mem_singleton_self _)⟩

/-- While CMP is disabled a book that it takes is in use. -/
theorem bookTaken_disabled (h : LoadTakes s 0x30 host it x b l) (hen : isSet x F.CMP_CTL_EN = false) :
    (acceptLoad (loadRead x it host) l).cmp = { x.cmp with loads := x.cmp.loadsBeside l, book := l.book } := by
  obtain ⟨hop, _⟩ := loadTakes_slot h
  rw [cmp_acceptLoad_book ((isSet_loadRead_en x it host).trans hen) hop, cmp_loadRead]

/-- While CMP is disabled a curve that it takes is in use. -/
theorem curveTaken_disabled (h : LoadTakes s 0x31 host it x b l) (hen : isSet x F.CMP_CTL_EN = false) :
    (byteAt it.entry 1, (List.range 4096).map (fun i => leAt b (4 * i) 4)) ∈
      (acceptLoad (loadRead x it host) l).cmp.curves := by
  obtain ⟨hop, hindex⟩ := loadTakes_slot h
  rw [← hindex, ← curve_words_of_loadTakes h]
  exact curve_mem_acceptLoad ((isSet_loadRead_en x it host).trans hen) hop

/-- While CMP is disabled a filter that it takes is in use. -/
theorem filterTaken_disabled (h : LoadTakes s 0x32 host it x b l) (hen : isSet x F.CMP_CTL_EN = false) :
    (byteAt it.entry 1, (List.range 512).map (fun i => leAt b (2 * i) 2)) ∈
      (acceptLoad (loadRead x it host) l).cmp.filters := by
  obtain ⟨hop, hindex⟩ := loadTakes_slot h
  rw [← hindex, ← filter_words_of_loadTakes h]
  exact filter_mem_acceptLoad ((isSet_loadRead_en x it host).trans hen) hop

end

/-! ### CMP_CTL.EN (R234) -/

/-- The row of CMP_CTL in the register map. -/
def cmpCtlRow : RegRow := ⟨"CMP_CTL", 0xb0000, 1, 4, 1, 4, false,
  [⟨"EN", 0, 1, .rw, 0, []⟩, ⟨"Reserved", 1, 31, .rsv, 0, []⟩]⟩

theorem regAt_cmpCtl : regAt R.CMP_CTL = some cmpCtlRow := rfl

/-- No value of CMP_CTL waits for a commit (R3). -/
theorem storeReg_cmpCtl (s : State) (v : Word) :
    storeReg s R.CMP_CTL v = s.setWord R.CMP_CTL (cmpCtlRow.store (s.word R.CMP_CTL) v) := by
  rw [storeReg, regAt_cmpCtl]
  exact if_neg (by decide)

theorem getF_storeReg_cmpEn (s : State) (v : Word) : getF (storeReg s R.CMP_CTL v) F.CMP_CTL_EN = F.CMP_CTL_EN.get v := by
  rw [storeReg_cmpCtl, getF, word_setWord_same]
  simp only [cmpCtlRow, RegRow.store, List.foldl_cons, List.foldl_nil, Acc.store, Fld.get, BitVec.toNat_ofNat]
  rw [bits_mod32 _ _ _ (by decide), bits_putBits_apart _ _ _ _ _ _ (by decide), bits_putBits_same]
  exact Nat.mod_eq_of_lt (Nat.mod_lt _ (by decide))

theorem cmp_setWord (s : State) (off : Nat) (w : Word) : (s.setWord off w).cmp = s.cmp := rfl

theorem cmp_storeReg_cmpCtl (s : State) (v : Word) : (storeReg s R.CMP_CTL v).cmp = s.cmp := by
  rw [storeReg_cmpCtl, cmp_setWord]

theorem engineStop_effect (s : State) : (engineStop s).cmp = s.cmp ∧ getF (engineStop s) F.CMP_CTL_EN = getF s F.CMP_CTL_EN :=
  ⟨same_of_keeps .cmp (engineStop_keeps s (by decide) (by decide) (by decide) (by decide) (by decide) (by decide) (by decide)
      Keeps.same),
    getF_of_regs (engineStop_regs s (fun k => by simp only; omega) (fun i => by simp only [R.QUE_STAT]; omega)
      (fun i => by simp only [R.QUE_RET]; omega) (by decide) (by decide) RegsBut.same)⟩

/-- An accepted write of CMP_CTL stores its value; where EN falls, the reading engine stops. -/
theorem hostWrite_cmpCtl {s : State} {v : Word} (h : WriteOk s R.CMP_CTL v) : hostWrite s R.CMP_CTL v =
    if falls s F.CMP_CTL_EN v then engineStop (storeReg s R.CMP_CTL v) else storeReg s R.CMP_CTL v := by
  rw [hostWrite_accepted (by decide) (by decide) h, regEffect_0b _ _ _ (by decide)]
  simp only [true_and]

/-- An accepted write of CMP_CTL leaves EN as written, and what else CMP holds as it was. -/
theorem hostWrite_cmpCtl_effect {s : State} {v : Word} (h : WriteOk s R.CMP_CTL v) :
    getF (hostWrite s R.CMP_CTL v) F.CMP_CTL_EN = F.CMP_CTL_EN.get v ∧ (hostWrite s R.CMP_CTL v).cmp = s.cmp := by
  rw [hostWrite_cmpCtl h]
  split
  · obtain ⟨hcmp, hen⟩ := engineStop_effect (storeReg s R.CMP_CTL v)
    rw [hen, hcmp, getF_storeReg_cmpEn, cmp_storeReg_cmpCtl]
    exact ⟨rfl, rfl⟩
  · rw [getF_storeReg_cmpEn, cmp_storeReg_cmpCtl]
    exact ⟨rfl, rfl⟩

theorem hostWrite_cmpEn {s : State} {v : Word} {n : Nat} (h : WriteOk s R.CMP_CTL (F.CMP_CTL_EN.put v n)) :
    getF (hostWrite s R.CMP_CTL (F.CMP_CTL_EN.put v n)) F.CMP_CTL_EN = n % 2 ∧
      (hostWrite s R.CMP_CTL (F.CMP_CTL_EN.put v n)).cmp.raster = s.cmp.raster := by
  obtain ⟨hen, hcmp⟩ := hostWrite_cmpCtl_effect h
  exact ⟨hen.trans (get_put_same _ _ _ (by decide)), congrArg CmpSt.raster hcmp⟩

/-! ### The end of compositing (R230) -/

/-- The cost of frame `r` is shown (R230). -/
def costShown (s : State) (r : Raster) : State :=
  setF s F.CMP_FCLK_CLOCKS (frameCost ⟨r.frame, r.cfg, r.ramps, r.step⟩ r.layers)

/-- Frame `r` is finished: its raster stands and its cost is shown, with the sums `vals` of its pixels (R555). -/
def frameClosed (s : State) (r : Raster) (vals : List (Nat × Nat)) : State :=
  { costShown s r with cmp := { (costShown s r).cmp with raster := some { r with finished := true }, sums := vals } }

/-- The CRC record of frame `n` is noted, and while FRT is disabled the ports send what they hold. -/
def frameSent (s : State) (n : Nat) (vals : List (Nat × Nat)) : State :=
  if isSet (crcNote s n false vals) F.FRT_CTL_EN then crcNote s n false vals else flushPorts (crcNote s n false vals)

section
variable {s : State} {r : Raster} (hr : s.cmp.raster = some r) (hfin : r.finished = false) (hab : r.aborted = false)
  (hdue : matOrAfter 32 (timeNs s) r.due = false)
include hr hfin hab hdue

theorem rasterDeadline_in_time : rasterDeadline s = s := by
  simp only [rasterDeadline, hr, hfin, hab, hdue, Bool.not_false, Bool.and_false, Bool.false_eq_true, if_false]

/-- A frame whose blocks are sound is closed and sent in time, from the state `u` in which its runs have been made. -/
theorem frameDone_closes (hgood : frameBad s ⟨r.frame, r.cfg, r.ramps, r.step⟩ r.layers = none) :
    ∃ u vals, frameDone s = frameSent (frameClosed u r vals) r.frame vals := by
  have hopen : ¬ (r.finished = true ∨ r.aborted = true) := by simp [hfin, hab]
  unfold frameDone frameSent frameClosed costShown
  rw [rasterDeadline_in_time hr hfin hab hdue]
  simp only [hr, hgood, hopen, if_false]
  exact ⟨_, _, rfl⟩

end

theorem cmp_frameSent (s : State) (n : Nat) (vals : List (Nat × Nat)) : (frameSent s n vals).cmp = s.cmp := by
  have hnote := crcNote_keeps s n false vals (W0 := Part.cmp.others) (by decide) Keeps.same
  unfold frameSent
  split
  · exact same_of_keeps .cmp hnote
  · exact same_of_keeps .cmp (flushPorts_keeps _ (by decide) (by decide) hnote)

theorem frameSent_regs {W : Nat → Prop} (s : State) (n : Nat) (vals : List (Nat × Nat)) : RegsBut W s (frameSent s n vals) := by
  have hnote := crcNote_regs s n false vals (W0 := W) RegsBut.same
  unfold frameSent
  split
  · exact hnote
  · exact flushPorts_regs _ hnote

theorem raster_frameClosed (s : State) (r : Raster) (vals : List (Nat × Nat)) :
    (frameClosed s r vals).cmp.raster = some { r with finished := true } := rfl

theorem frameClosed_regs {W : Nat → Prop} (s : State) (r : Raster) (vals : List (Nat × Nat)) :
    RegsBut W (costShown s r) (frameClosed s r vals) := by
  unfold frameClosed
  exact RegsBut.cmp.2 RegsBut.same

theorem getF_costShown (s : State) (r : Raster) : getF (costShown s r) F.CMP_FCLK_CLOCKS =
    frameCost ⟨r.frame, r.cfg, r.ramps, r.step⟩ r.layers % 2 ^ F.CMP_FCLK_CLOCKS.width := getF_setF_same _ _ _ (by decide)

/-- A frame that is finished stays so, and its cost is read, whatever its ports send. -/
theorem frameSent_frameClosed (s : State) (r : Raster) (vals : List (Nat × Nat)) :
    (frameSent (frameClosed s r vals) r.frame vals).cmp.raster = some { r with finished := true } ∧
      getF (frameSent (frameClosed s r vals) r.frame vals) F.CMP_FCLK_CLOCKS =
        frameCost ⟨r.frame, r.cfg, r.ramps, r.step⟩ r.layers % 2 ^ F.CMP_FCLK_CLOCKS.width := by
  rw [cmp_frameSent, raster_frameClosed, getF_of_regs (frameSent_regs _ _ _), getF_of_regs (frameClosed_regs _ _ _),
    getF_costShown]
  exact ⟨rfl, rfl⟩

/-- Settles O30, clause by clause. -/
theorem compositorLoads : Obligations.CompositorLoads := by
  unfold Obligations.CompositorLoads
  refine ⟨?book, ?curve, ?filter, ?enable, ?disable, ?done⟩
  case book =>
    intro host it x b l s _ h
    refine ⟨_, whenOn_loadTakes h, fun hen => ?_, fun hen => ?_⟩
    · rw [bookTaken_disabled h hen]
      exact ⟨rfl, rfl⟩
    · obtain ⟨hbook, _, _, hload⟩ := loadTaken_enabled hen
      exact ⟨hbook, hload⟩
  case curve =>
    intro host it x b l s _ h
    refine ⟨_, whenOn_loadTakes h, curveTaken_disabled h, fun hen => ?_⟩
    obtain ⟨_, hcurves, _, hload⟩ := loadTaken_enabled hen
    exact ⟨hcurves, hload⟩
  case filter =>
    intro host it x b l s _ h
    refine ⟨_, whenOn_loadTakes h, filterTaken_disabled h, fun hen => ?_⟩
    obtain ⟨_, _, hfilters, hload⟩ := loadTaken_enabled hen
    exact ⟨hfilters, hload⟩
  case enable => exact fun v s h => ⟨_, rfl, hostWrite_cmpEn h⟩
  case disable => exact fun v s h => ⟨_, rfl, hostWrite_cmpEn h⟩
  case done =>
    intro dt r s hon hr hfin hab hdue hgood
    obtain ⟨u, vals, hdone⟩ := frameDone_closes hr hfin hab hdue hgood
    exact ⟨_, (whenOn_of_on hon frameDone).trans (congrArg Host.Outcome.next hdone), frameSent_frameClosed u r vals⟩

end Sys2Proof.Machine
end

section
/-! PROOF. FRT as the other blocks see it: which operations leave FRT's registers, its part of the state and what CMP holds as they
were, and what applying armed values and latching a frame leave (R241 to R245). -/

namespace Sys2Proof.Machine

/-! ### What leaves FRT alone -/

/-- An offset outside FRT's registers (R254). -/
abbrev OutsideFrt (off : Nat) : Prop := off < 0xC0000 ∨ 0xD0000 ≤ off

/-- A field of one of FRT's registers. -/
abbrev Fld.inFrt (f : Fld) : Prop := 0xC0000 ≤ f.off ∧ f.off < 0xD0000

/-- Every part of the state but FRT's and CMP's. -/
def besideFrt : List Part := Part.frt.others.filter (fun p => p != .cmp)

/-- FRT's registers, its part of the state and CMP's are the same in two states. -/
structure FrtSame (s t : State) : Prop where
  frt : t.frt = s.frt
  cmp : t.cmp = s.cmp
  regs : RegsBut OutsideFrt s t

namespace FrtSame

theorem refl (s : State) : FrtSame s s := ⟨rfl, rfl, RegsBut.same⟩

theorem trans {s t u : State} (h : FrtSame s t) (k : FrtSame t u) : FrtSame s u :=
  ⟨k.frt.trans h.frt, k.cmp.trans h.cmp, h.regs.trans k.regs⟩

theorem of_frames {s t : State} (hk : Keeps besideFrt s t) (hr : RegsBut OutsideFrt s t) : FrtSame s t :=
  ⟨hk.2.2 .frt (by decide), hk.2.2 .cmp (by decide), hr⟩

theorem getF {s t : State} (h : FrtSame s t) {f : Fld} (hf : f.inFrt) : getF t f = getF s f :=
  getF_of_regs (h.regs.mono fun o ho => by rintro rfl; omega)

theorem frtEn {s t : State} (h : FrtSame s t) : frtEn t = frtEn s := isSet_congr (h.getF (by decide))

theorem foldl {α : Type} {g : State → α → State} (hg : ∀ t x, FrtSame t (g t x)) (l : List α) (s : State) :
    FrtSame s (l.foldl g s) :=
  List.foldlRecOn (motive := FrtSame s) l g (refl s) fun _ ht x _ => ht.trans (hg _ x)

end FrtSame

theorem outsideFrt_pba (k : Nat) : OutsideFrt (0x38000 + 4 * (k % 64)) := by omega
theorem outsideFrt_queStat (i : Nat) : OutsideFrt (R.QUE_STAT i) := by simp only [R.QUE_STAT]; omega
theorem outsideFrt_queRet (i : Nat) : OutsideFrt (R.QUE_RET i) := by simp only [R.QUE_RET]; omega
theorem outsideFrt_chnPerr (i : Nat) : OutsideFrt (R.CHN_PERR i) := by simp only [R.CHN_PERR]; omega
theorem outsideFrt_pgcfg (i : Nat) : OutsideFrt (R.TIM_PGCFG i) := by simp only [R.TIM_PGCFG]; omega
theorem outsideFrt_pgstart (i : Nat) : OutsideFrt (R.TIM_PGSTART i) := by simp only [R.TIM_PGSTART]; omega
theorem outsideFrt_pgper (i : Nat) : OutsideFrt (R.TIM_PGPER i) := by simp only [R.TIM_PGPER]; omega
theorem outsideFrt_pgperf (i : Nat) : OutsideFrt (R.TIM_PGPERF i) := by simp only [R.TIM_PGPERF]; omega
theorem outsideFrt_pgstat (i : Nat) : OutsideFrt (R.TIM_PGSTAT i) := by simp only [R.TIM_PGSTAT]; omega
theorem outsideFrt_pgnext (i : Nat) : OutsideFrt (R.TIM_PGNEXT i) := by simp only [R.TIM_PGNEXT]; omega

theorem frtDone_same (s : State) (it : Item) (c : Status) (frame t : Nat) (dead : Bool) :
    FrtSame s (frtDone s it c frame t dead) :=
  .of_frames (frtDone_keeps s it c frame t dead (by decide) (by decide) (by decide) (by decide) (by decide) (by decide) Keeps.same)
    (frtDone_regs s it c frame t dead outsideFrt_pba outsideFrt_queStat outsideFrt_queRet RegsBut.same)

theorem sendMode_same (s : State) (aframe capply : Nat) (m : Mode) : FrtSame s (sendMode s aframe capply m) :=
  .of_frames (sendMode_keeps s aframe capply m (by decide) (by decide) (by decide) Keeps.same)
    (sendMode_regs s aframe capply m RegsBut.same)

theorem armMove_same (s : State) : FrtSame s (armMove s) :=
  .of_frames (armMove_keeps s (by decide) (by decide) (by decide) (by decide) (by decide) Keeps.same)
    (armMove_regs s outsideFrt_pba (by decide) (by decide) (by decide) (by decide) outsideFrt_chnPerr (by decide) RegsBut.same)

theorem dropHold_same (s : State) : FrtSame s (dropHold s) :=
  .of_frames (dropHold_keeps s (by decide) Keeps.same) (dropHold_regs s RegsBut.same)

theorem engineStop_same (s : State) : FrtSame s (engineStop s) :=
  .of_frames (engineStop_keeps s (by decide) (by decide) (by decide) (by decide) (by decide) (by decide) (by decide) Keeps.same)
    (engineStop_regs s outsideFrt_pba outsideFrt_queStat outsideFrt_queRet (by decide) (by decide) RegsBut.same)

theorem flushPorts_same (s : State) : FrtSame s (flushPorts s) :=
  .of_frames (flushPorts_keeps s (by decide) (by decide) Keeps.same) (flushPorts_regs s RegsBut.same)

theorem genRelease_same (s : State) (g : Nat) : FrtSame s (genRelease s g) :=
  .of_frames (genRelease_keeps s g (by decide) (by decide) Keeps.same)
    (genRelease_regs s g outsideFrt_pgcfg outsideFrt_pgnext RegsBut.same)

theorem genProgram_same (s : State) (g owner : Nat) (st : Int) (per k : Nat) : FrtSame s (genProgram s g owner st per k) :=
  .of_frames (genProgram_keeps s g owner st per k (by decide) (by decide) Keeps.same)
    (genProgram_regs s g owner st per k outsideFrt_pgcfg outsideFrt_pgstart outsideFrt_pgper outsideFrt_pgperf outsideFrt_pgnext
      RegsBut.same)

theorem genTake_same (s : State) (g owner : Nat) (st : Int) (per k : Nat) : FrtSame s (genTake s g owner st per k) :=
  .of_frames (genTake_keeps s g owner st per k (by decide) (by decide) Keeps.same)
    (genTake_regs s g owner st per k outsideFrt_pgcfg outsideFrt_pgstart outsideFrt_pgper outsideFrt_pgperf outsideFrt_pgstat
      outsideFrt_pgnext RegsBut.same)

theorem prefetchDue_same (s : State) : FrtSame s (prefetchDue s) :=
  .of_frames (prefetchDue_keeps s (by decide) (by decide) (by decide) (by decide) (by decide) (by decide) (by decide) Keeps.same)
    (prefetchDue_regs s outsideFrt_pba (by decide) (by decide) (by decide) (by decide) outsideFrt_chnPerr (by decide) (by decide)
      RegsBut.same)

theorem queueNeeds_same (s : State) (fc : FrameCfg) (layers : List Nat) (cn win : Nat) (given : List (Nat × Nat)) :
    FrtSame s (queueNeeds s fc layers cn win given) :=
  .of_frames (queueNeeds_keeps s fc layers cn win given (by decide) (by decide) Keeps.same)
    (queueNeeds_regs s fc layers cn win given RegsBut.same)

theorem engineQueue_same (s : State) (n : Nat) : FrtSame s (engineQueue s n) := ⟨rfl, rfl, RegsBut.same⟩

theorem sendNow_same (s : State) (ports : List Nat) (c : Bytes) : FrtSame s (sendNow s ports c) :=
  .of_frames (sendNow_keeps s ports c (by decide) (by decide) Keeps.same) (sendNow_regs s ports c RegsBut.same)

theorem touchNeeds_same (s : State) (n : Nat) (p : Need → Bool) : FrtSame s (touchNeeds s n p) :=
  .of_frames (touchNeeds_keeps s n p (by decide) (by decide) (by decide) (by decide) (by decide) (by decide) (by decide) Keeps.same)
    (touchNeeds_regs s n p outsideFrt_pba (by decide) (by decide) outsideFrt_chnPerr (by decide) (by decide) RegsBut.same)

theorem crcNote_same (s : State) (n : Nat) (aborted : Bool) (vals : List (Nat × Nat)) : FrtSame s (crcNote s n aborted vals) :=
  .of_frames (crcNote_keeps s n aborted vals (by decide) Keeps.same) (crcNote_regs s n aborted vals RegsBut.same)

theorem yield_same (s : State) (winner loser block : Nat) (code : Status) (frame : Nat) :
    FrtSame s (yield s winner loser block code frame) :=
  .of_frames (yield_keeps s winner loser block code frame (by decide) (by decide) (by decide) (by decide) Keeps.same)
    (yield_regs s winner loser block code frame outsideFrt_pba (by decide) (by decide) (by decide) (by decide) outsideFrt_chnPerr
      RegsBut.same)

/-- FRT_CTL.EN is not touched by a write of a field that lies apart from it. -/
theorem frtEn_setF (s : State) {f : Fld} (v : Nat) (h : f.apart F.FRT_CTL_EN = true) : frtEn (setF s f v) = frtEn s :=
  isSet_congr (getF_setF_other s v h (by decide))

/-! ### Armed values apply (R242 to R244) -/

/-- The armed values are in force, and no COMMIT entry waits for them; `f0` is the frame that latches them. -/
def armedApplied (s : State) (last : Nat) (f0 : Option Nat) : State :=
  { s with cmp := { s.cmp with base := overlay s.cmp.base s.cmp.armed, ramps := commitRamps s.cmp.ramps s.cmp.armed last f0,
                               armed := [] },
           frt := { s.frt with commits := [] } }

theorem applyArmed_same (s : State) (last : Nat) (f0 : Option Nat) (oframe tlatch : Nat) :
    FrtSame (setF (armedApplied s last f0) F.FRT_COMMIT_ARMED 0) (applyArmed s last f0 oframe tlatch) :=
  FrtSame.foldl (fun t i => frtDone_same t i .ok oframe tlatch _) s.frt.commits _

theorem cmp_applyArmed (s : State) (last : Nat) (f0 : Option Nat) (oframe tlatch : Nat) :
    (applyArmed s last f0 oframe tlatch).cmp = (armedApplied s last f0).cmp := (applyArmed_same s last f0 oframe tlatch).cmp

theorem frt_applyArmed (s : State) (last : Nat) (f0 : Option Nat) (oframe tlatch : Nat) :
    (applyArmed s last f0 oframe tlatch).frt = { s.frt with commits := [] } := (applyArmed_same s last f0 oframe tlatch).frt

theorem getF_applyArmed_armed (s : State) (last : Nat) (f0 : Option Nat) (oframe tlatch : Nat) :
    getF (applyArmed s last f0 oframe tlatch) F.FRT_COMMIT_ARMED = 0 :=
  ((applyArmed_same s last f0 oframe tlatch).getF (by decide)).trans (getF_setF_same _ _ _ (by decide))

theorem getF_applyArmed_other (s : State) (last : Nat) (f0 : Option Nat) (oframe tlatch : Nat) {f : Fld} (hf : f.inFrt)
    (hne : f.off ≠ R.FRT_COMMIT) : getF (applyArmed s last f0 oframe tlatch) f = getF s f :=
  ((applyArmed_same s last f0 oframe tlatch).getF hf).trans (getF_setF_ne (armedApplied s last f0) _ _ _ hne)

/-! ### Latching a frame (R241) -/

/-- The frame that is latched next. -/
abbrev nextLatched (s : State) : Nat := getF s F.FRT_NEXTLAT_FRAME

/-- The armed values apply from the next frame on, and the ramps that begin with it start. -/
def valuesLatched (s : State) (m : Mode) : State :=
  let x := applyArmed s (msub 32 (nextLatched s) 1) (some (nextLatched s)) (nextLatched s)
    (instantNs (latchExt s m (nextLatched s)))
  { x with cmp := { x.cmp with ramps := startRamps x.cmp.ramps (nextLatched s) } }

/-- The configuration of the next frame is fixed. -/
def configFixed (s : State) (m : Mode) : State := noteSizes (valuesLatched s m) (nextLatched s)

/-- The next frame as it is queued for presentation. -/
def frameFixed (s : State) (m : Mode) : QFrame :=
  ⟨nextLatched s, (configFixed s m).cmp.base, (configFixed s m).cmp.ramps, isTransition (configFixed s m) (nextLatched s)⟩

/-- The next frame is queued, and the frame after it is the next. -/
def frameQueued (s : State) (m : Mode) : State :=
  setF { configFixed s m with frt := { (configFixed s m).frt with queued := (configFixed s m).frt.queued ++ [frameFixed s m] } }
    F.FRT_NEXTLAT_FRAME (nextLatched s + 1)

theorem noteSizes_hist (s : State) (n : Nat) : ∃ h, noteSizes s n = { s with cmp := { s.cmp with hist := h } } := by
  unfold noteSizes
  dsimp only
  split
  · split
    · exact ⟨_, rfl⟩
    · exact ⟨_, rfl⟩
  · exact ⟨_, rfl⟩

theorem valuesLatched_effect (s : State) (m : Mode) : (valuesLatched s m).frt = { s.frt with commits := [] } ∧
    (valuesLatched s m).cmp.armed = [] ∧ (valuesLatched s m).cmp.pend = s.cmp.pend ∧ frtEn (valuesLatched s m) = frtEn s := by
  unfold valuesLatched
  refine ⟨frt_applyArmed _ _ _ _ _, ?_, ?_, isSet_congr (getF_applyArmed_other _ _ _ _ _ (by decide) (by decide))⟩
  · simp only [cmp_applyArmed, armedApplied]
  · simp only [cmp_applyArmed, armedApplied]

/-- Fixing a configuration uses the armed values up, and leaves the pending ones and FRT's queue. -/
theorem configFixed_effect (s : State) (m : Mode) : (configFixed s m).frt = { s.frt with commits := [] } ∧
    (configFixed s m).cmp.armed = [] ∧ (configFixed s m).cmp.pend = s.cmp.pend ∧ frtEn (configFixed s m) = frtEn s := by
  obtain ⟨hist, hsizes⟩ := noteSizes_hist (valuesLatched s m) (nextLatched s)
  rw [configFixed, hsizes]
  exact valuesLatched_effect s m

/-- The reads of the pages of frame `n`, queued as `q`, are scheduled (R187). -/
def readsAhead (s : State) (m : Mode) (needs : List (Nat × Nat)) (n : Nat) (q : QFrame) : State :=
  let layers := (layersOn q.cfg).filter (fun k => bindCheck s q.cfg k == .ok)
  let f := frameMode s m n
  prefetchDue (queueNeeds (engineQueue s n) ⟨n, q.cfg, q.ramps, 0⟩ layers (instantNs f.2) f.1.win needs)

theorem latchNext_eq (s : State) (m : Mode) (needs : List (Nat × Nat)) : latchNext s m needs =
    if (frameFixed s m).transition then frameQueued s m
    else readsAhead (frameQueued s m) m needs (nextLatched s) (frameFixed s m) := rfl

theorem latchNext_same (s : State) (m : Mode) (needs : List (Nat × Nat)) : FrtSame (frameQueued s m) (latchNext s m needs) := by
  rw [latchNext_eq]
  split
  · exact FrtSame.refl _
  · exact ((engineQueue_same _ _).trans (queueNeeds_same _ _ _ _ _ _)).trans (prefetchDue_same _)

theorem frameQueued_effect (s : State) (m : Mode) :
    (frameQueued s m).frt = { s.frt with commits := [], queued := s.frt.queued ++ [frameFixed s m] } ∧
      (frameQueued s m).cmp = (configFixed s m).cmp ∧ frtEn (frameQueued s m) = frtEn (configFixed s m) := by
  obtain ⟨hfrt, _⟩ := configFixed_effect s m
  refine ⟨?_, by rw [frameQueued, setF_cmp], ?_⟩
  · rw [frameQueued, setF_frt, hfrt]
  · rw [frameQueued, frtEn_setF _ _ (by decide)]
    exact isSet_congr (getF_of_regs (RegsBut.frt.2 RegsBut.same))

/-- What latching leaves of FRT and of CMP's values (R241). -/
theorem latchNext_effect (s : State) (m : Mode) (needs : List (Nat × Nat)) :
    (latchNext s m needs).frt = { s.frt with commits := [], queued := s.frt.queued ++ [frameFixed s m] } ∧
      (latchNext s m needs).cmp.armed = [] ∧ (latchNext s m needs).cmp.pend = s.cmp.pend ∧
      frtEn (latchNext s m needs) = frtEn s := by
  obtain ⟨_, harmed, hpend, hen⟩ := configFixed_effect s m
  obtain ⟨hfrt, hcmp, hen'⟩ := frameQueued_effect s m
  have hsame := latchNext_same s m needs
  rw [hsame.frt, hsame.cmp, hsame.frtEn, hcmp, hen']
  exact ⟨hfrt, harmed, hpend, hen⟩

theorem nextLatched_latchNext (s : State) (m : Mode) (needs : List (Nat × Nat)) :
    nextLatched (latchNext s m needs) = (nextLatched s + 1) % 2 ^ 32 :=
  ((latchNext_same s m needs).getF (by decide)).trans (getF_setF_same _ _ _ (by decide))

end Sys2Proof.Machine
end

section
/-! PROOF. Commits, modes and the enable of a sender (R242 to R249, R255). -/

namespace Sys2Proof.Machine

/-! ### Commits (R242 to R244) -/

/-- The values armed once `e` is armed too: it takes the place of an earlier value of its register (R243). -/
def armValue (l : List (Nat × Word)) (e : Nat × Word) : List (Nat × Word) := l.filter (fun x => x.1 != e.1) ++ [e]

theorem key_mem_armValue {l : List (Nat × Word)} {e : Nat × Word} {k : Nat} (h : k = e.1 ∨ k ∈ l.map Prod.fst) :
    k ∈ (armValue l e).map Prod.fst := by
  rw [armValue, List.map_append, List.mem_append]
  by_cases hk : k = e.1
  · exact .inr (List.mem_singleton.2 hk)
  · obtain ⟨x, hx, rfl⟩ := List.mem_map.1 (h.resolve_left hk)
    exact .inl (List.mem_map_of_mem (List.mem_filter.2 ⟨hx, bne_iff_ne.2 hk⟩))

/-- Arming values arms their registers, and keeps those armed before. -/
theorem key_mem_armValues (vals l : List (Nat × Word)) {k : Nat} (h : k ∈ l.map Prod.fst ∨ k ∈ vals.map Prod.fst) :
    k ∈ (vals.foldl armValue l).map Prod.fst := by
  induction vals generalizing l with
  | nil => exact h.resolve_right List.not_mem_nil
  | cons e vals ih =>
    refine ih (armValue l e) ?_
    rw [List.map_cons, List.mem_cons] at h
    rcases h with hold | hnew | hlater
    · exact .inl (key_mem_armValue (.inr hold))
    · exact .inl (key_mem_armValue (.inl hnew))
    · exact .inr hlater

theorem armed_of_mem {vals : List (Nat × Word)} (l : List (Nat × Word)) {e : Nat × Word} (h : e ∈ vals) :
    ∃ w, (e.1, w) ∈ vals.foldl armValue l := by
  obtain ⟨x, hx, hkey⟩ := List.mem_map.1 (key_mem_armValues vals l (.inr (List.mem_map_of_mem h)))
  exact ⟨x.2, hkey ▸ hx⟩

theorem latchOverdue_disabled {s : State} (h : frtEn s = false) (k : Nat) : latchOverdue k s = s := by
  cases k with
  | zero => rfl
  | succ k =>
    unfold latchOverdue
    split
    · rw [if_neg (by simp [frtOn, h])]
    · rfl

/-- Latching the frames that are overdue leaves the pending values pending. -/
theorem latchOverdue_effect (k : Nat) (s : State) :
    (latchOverdue k s).cmp.pend = s.cmp.pend ∧ frtEn (latchOverdue k s) = frtEn s := by
  induction k generalizing s with
  | zero => exact ⟨rfl, rfl⟩
  | succ k ih =>
    unfold latchOverdue
    split
    · next m _ =>
      split
      · obtain ⟨_, _, hpend, hen⟩ := latchNext_effect s m []
        obtain ⟨hpend', hen'⟩ := ih (latchNext s m [])
        exact ⟨hpend'.trans hpend, hen'.trans hen⟩
      · exact ⟨rfl, rfl⟩
    · exact ⟨rfl, rfl⟩

/-- The pending values are in force. -/
def pendApplied (s : State) : State :=
  applyValues { s with cmp := { s.cmp with pend := [] } } s.cmp.pend (getF s F.FRT_FRAME_FRAME) none

/-- The pending values are armed, and the entry `it` of the commit, where it has one, waits. -/
def pendArmed (s : State) (it : Option Item) : State :=
  { s with cmp := { s.cmp with pend := [], armed := s.cmp.pend.foldl armValue s.cmp.armed },
           frt := { s.frt with commits := s.frt.commits ++ it.toList } }

theorem commit_disabled_same {s : State} (h : frtEn s = false) (it : Option Item) : FrtSame (pendApplied s) (commit s it) := by
  have hoff : frtEn { s with cmp := { s.cmp with pend := [] } } = false := h
  simp only [commit, latchOverdue_disabled h, hoff, Bool.not_false, if_true]
  cases it with
  | none => exact FrtSame.refl _
  | some i => exact frtDone_same _ _ _ _ _ _

/-- While FRT is disabled the values of a commit are in force at once (R244). -/
theorem commit_disabled {s : State} (h : frtEn s = false) (it : Option Item) :
    (commit s it).cmp.pend = [] ∧ (commit s it).cmp.base = overlay s.cmp.base s.cmp.pend := by
  rw [(commit_disabled_same h it).cmp]
  exact ⟨rfl, rfl⟩

theorem commit_enabled_eq {s : State} (h : frtEn s = true) (it : Option Item) :
    commit s it = setF (pendArmed (latchOverdue 8 s) it) F.FRT_COMMIT_ARMED 1 := by
  have hon : frtEn { latchOverdue 8 s with cmp := { (latchOverdue 8 s).cmp with pend := [] } } = true :=
    (latchOverdue_effect 8 s).2.trans h
  simp only [commit, hon, Bool.not_true, Bool.false_eq_true, if_false]
  rfl

/-- While FRT is enabled the values of a commit are armed, and its entry waits (R242). -/
theorem commit_enabled {s : State} (h : frtEn s = true) (it : Option Item) :
    (commit s it).cmp.pend = [] ∧ getF (commit s it) F.FRT_COMMIT_ARMED = 1 ∧
      (∀ e ∈ s.cmp.pend, ∃ w, (e.1, w) ∈ (commit s it).cmp.armed) ∧ ∀ i ∈ it, i ∈ (commit s it).frt.commits := by
  rw [commit_enabled_eq h]
  refine ⟨rfl, getF_setF_same _ _ _ (by decide), fun e he => ?_, fun i hi => ?_⟩
  · exact armed_of_mem _ ((latchOverdue_effect 8 s).1 ▸ he)
  · exact List.mem_append_right _ (Option.mem_toList.2 hi)

theorem pend_commit (s : State) (it : Option Item) : (commit s it).cmp.pend = [] := by
  cases h : frtEn s with
  | false => exact (commit_disabled h it).1
  | true => exact (commit_enabled h it).1

/-! ### Writes of FRT's registers (R255, R256) -/

/-- A register none of whose fields waits for a commit holds its value once it is written (R3). -/
theorem storeReg_of_row {off : Nat} {r : RegRow} (hr : regAt off = some r) (hn : r.fields.any (fun f => f.acc == .rws) = false)
    (s : State) (v : Word) : storeReg s off v = s.setWord off (r.store (s.word off) v) := by
  rw [storeReg, hr]
  exact if_neg (by rw [hn]; decide)

/-- The row of FRT_CTL in the register map. -/
def frtCtlRow : RegRow := ⟨"FRT_CTL", 0xc0000, 1, 4, 1, 4, false,
  [⟨"EN", 0, 1, .rw, 0, []⟩, ⟨"GEN", 1, 4, .rw, 0, []⟩, ⟨"QDEPTH", 5, 2, .rw, 0, []⟩, ⟨"Reserved", 7, 25, .rsv, 0, []⟩]⟩

/-- The row of FRT_COMMIT in the register map. -/
def frtCommitRow : RegRow := ⟨"FRT_COMMIT", 0xc0004, 1, 4, 1, 4, false,
  [⟨"GO", 0, 1, .wo, 0, []⟩, ⟨"ARMED", 1, 1, .ro, 0, []⟩, ⟨"Reserved", 2, 30, .rsv, 0, []⟩]⟩

theorem storeReg_frtCtl (s : State) (v : Word) :
    storeReg s R.FRT_CTL v = s.setWord R.FRT_CTL (frtCtlRow.store (s.word R.FRT_CTL) v) :=
  storeReg_of_row (r := frtCtlRow) rfl (by decide) s v

theorem storeReg_frtCommit (s : State) (v : Word) :
    storeReg s R.FRT_COMMIT v = s.setWord R.FRT_COMMIT (frtCommitRow.store (s.word R.FRT_COMMIT) v) :=
  storeReg_of_row (r := frtCommitRow) rfl (by decide) s v

theorem getF_storeReg_qdepth (s : State) (v : Word) :
    getF (storeReg s R.FRT_CTL v) F.FRT_CTL_QDEPTH = F.FRT_CTL_QDEPTH.get v := by
  rw [storeReg_frtCtl, getF, word_setWord_same]
  simp only [frtCtlRow, RegRow.store, List.foldl_cons, List.foldl_nil, Acc.store, Fld.get, BitVec.toNat_ofNat]
  rw [bits_mod32 _ _ _ (by decide), bits_putBits_apart _ _ _ _ _ _ (by decide), bits_putBits_same]
  exact Nat.mod_eq_of_lt (Nat.mod_lt _ (by decide))

/-- A write of FRT_COMMIT changes neither what CMP holds nor EN. -/
theorem storeReg_frtCommit_effect (s : State) (v : Word) :
    (storeReg s R.FRT_COMMIT v).cmp = s.cmp ∧ frtEn (storeReg s R.FRT_COMMIT v) = frtEn s := by
  refine ⟨?_, isSet_congr (congrArg F.FRT_CTL_EN.get (word_storeReg_ne s v (by decide)))⟩
  rw [storeReg_frtCommit, cmp_setWord]

theorem nowFine_congr {s t : State} (htime : t.time = s.time) (hwraps : t.wraps = s.wraps) : nowFine t = nowFine s := by
  rw [nowFine, nowFine, fullTime, fullTime, htime, hwraps]

theorem extOf_congr {s t : State} (htime : t.time = s.time) (hwraps : t.wraps = s.wraps) (n : Nat) : extOf t n = extOf s n := by
  rw [extOf, extOf, extNs, extNs, timeNs, timeNs, htime, hwraps]

/-- A write of FRT_CTL changes neither the mode nor the time, and stores QDEPTH. -/
theorem storeReg_frtCtl_effect (s : State) (v : Word) : (storeReg s R.FRT_CTL v).frt = s.frt ∧
    nowFine (storeReg s R.FRT_CTL v) = nowFine s ∧ (∀ t, extOf (storeReg s R.FRT_CTL v) t = extOf s t) ∧
    getF (storeReg s R.FRT_CTL v) F.FRT_CTL_QDEPTH = F.FRT_CTL_QDEPTH.get v := by
  have hk : Keeps [.regs] s (storeReg s R.FRT_CTL v) := by
    rw [storeReg_frtCtl]
    exact setWord_keeps _ _ _ (by decide) Keeps.same
  have htime : (storeReg s R.FRT_CTL v).time = s.time := hk.2.2 .time (by decide)
  have hwraps : (storeReg s R.FRT_CTL v).wraps = s.wraps := hk.2.2 .wraps (by decide)
  exact ⟨hk.2.2 .frt (by decide), nowFine_congr htime hwraps, extOf_congr htime hwraps, getF_storeReg_qdepth s v⟩

theorem hostWrite_frt {s : State} {off : Nat} {v : Word} (hoff : off / 0x10000 = 12) (h : WriteOk s off v) :
    hostWrite s off v = effectFrt s (storeReg s off v) off v := by
  rw [hostWrite_accepted (by omega) (by omega) h, regEffect_0c _ _ _ hoff]

/-- A write of GO = 1 commits (R242). -/
theorem hostWrite_commitGo {s : State} (h : WriteOk s R.FRT_COMMIT (F.FRT_COMMIT_GO.put 0#32 1)) :
    hostWrite s R.FRT_COMMIT (F.FRT_COMMIT_GO.put 0#32 1) =
      commit (storeReg s R.FRT_COMMIT (F.FRT_COMMIT_GO.put 0#32 1)) none := by
  rw [hostWrite_frt (by decide) h, effectFrt, if_pos rfl, if_pos (by decide)]

/-- A write of EN = 1 to a disabled FRT enables it (R248). -/
theorem hostWrite_frtEnable {s : State} {v : Word} (h : WriteOk s R.FRT_CTL (F.FRT_CTL_EN.put v 1)) (hen : frtEn s = false) :
    hostWrite s R.FRT_CTL (F.FRT_CTL_EN.put v 1) = frtEnable (storeReg s R.FRT_CTL (F.FRT_CTL_EN.put v 1)) := by
  have hrises : rises s F.FRT_CTL_EN (F.FRT_CTL_EN.put v 1) = true := by
    simp only [frtEn, isSet, bne_eq_false_iff_eq] at hen
    rw [rises, get_put_same _ _ _ (by decide), hen]
    rfl
  rw [hostWrite_frt (by decide) h, effectFrt, if_neg (by decide), if_pos rfl, if_pos hrises]

/-- A write of EN = 0 to an enabled FRT disables it (R255). -/
theorem hostWrite_frtDisable {s : State} {v : Word} (h : WriteOk s R.FRT_CTL (F.FRT_CTL_EN.put v 0)) (hen : frtEn s = true) :
    hostWrite s R.FRT_CTL (F.FRT_CTL_EN.put v 0) =
      frtDisable (setF (storeReg s R.FRT_CTL (F.FRT_CTL_EN.put v 0)) F.FRT_CTL_EN 1) := by
  have hget : F.FRT_CTL_EN.get (F.FRT_CTL_EN.put v 0) = 0 := get_put_same _ _ _ (by decide)
  have hrises : ¬ rises s F.FRT_CTL_EN (F.FRT_CTL_EN.put v 0) = true := by simp [rises, hget]
  have hfalls : falls s F.FRT_CTL_EN (F.FRT_CTL_EN.put v 0) = true := by
    rw [falls, hget]
    exact hen
  rw [hostWrite_frt (by decide) h, effectFrt, if_neg (by decide), if_pos rfl, if_neg hrises, if_pos hfalls]

/-! ### Mode entries (R248, R249) -/

theorem leNat_lt (b : Bytes) : leNat b < 256 ^ b.length := by
  induction b with
  | nil => exact Nat.one_pos
  | cons x t ih =>
    have hx : x.toNat < 256 := x.isLt
    rw [leNat, List.length_cons, Nat.pow_succ]
    omega

theorem leAt_lt (b : Bytes) (off n : Nat) : leAt b off n < 256 ^ n := by
  have h := leNat_lt (slice b off n)
  rwa [slice, List.length_map, List.length_range] at h

/-- The registers of the mode in force show `m` (R257, R258). -/
def modeShown (s : State) (m : Mode) : State :=
  let s := setF (setF s F.FRT_PERNS_NS m.perNs) F.FRT_PERFRAC_FRAC m.perFrac
  let s := setF (setF (setF s F.FRT_LAT_NS m.lat) F.FRT_WIN_NS m.win) F.FRT_MARGIN_NS m.margin
  let s := setF (setF s F.FRT_EFRAME_FRAME m.e) F.FRT_ANCHOR_TIME m.te
  setF (setF s F.FRT_MSTAT_NSLOTM1 (m.nslot - 1)) F.FRT_MSTAT_TSET m.tset

theorem installMode_eq (s : State) (m : Mode) : installMode s m =
    incMod (dropHold { modeShown s m with frt := { (modeShown s m).frt with mode := some m } }) F.FRT_MSTAT_MGEN := rfl

theorem frt_modeShown (s : State) (m : Mode) : (modeShown s m).frt = s.frt := by
  unfold modeShown
  iterate 9 rw [setF_frt]

theorem frt_installMode (s : State) (m : Mode) : (installMode s m).frt = { s.frt with mode := some m } := by
  rw [installMode_eq, incMod_frt, dropHold, frt_modeShown]

theorem cmp_installMode (s : State) (m : Mode) : (installMode s m).cmp = s.cmp :=
  same_of_keeps .cmp (installMode_keeps s m (by decide) (by decide) (by decide) Keeps.same)

/-- The mode's registers are shown, and MGEN has counted it. -/
theorem installMode_effect (s : State) (m : Mode) : getF (installMode s m) F.FRT_PERNS_NS = m.perNs % 2 ^ 32 ∧
    getF (installMode s m) F.FRT_MSTAT_MGEN = (getF s F.FRT_MSTAT_MGEN + 1) % 2 ^ F.FRT_MSTAT_MGEN.width := by
  have hperns : getF (modeShown s m) F.FRT_PERNS_NS = m.perNs % 2 ^ 32 := by
    simp (disch := decide) only [modeShown, getF_setF_other, getF_setF_same]
  have hmgen : getF (modeShown s m) F.FRT_MSTAT_MGEN = getF s F.FRT_MSTAT_MGEN := by
    simp (disch := decide) only [modeShown, getF_setF_other]
  have hbase (f : Fld) : getF (dropHold { modeShown s m with frt := { (modeShown s m).frt with mode := some m } }) f =
      getF (modeShown s m) f := getF_of_regs (dropHold_regs _ (RegsBut.frt.2 RegsBut.same))
  rw [installMode_eq]
  constructor
  · rw [incMod, getF_setF_other _ _ (by decide) (by decide), hbase, hperns]
  · rw [getF_incMod_same _ _ _ (by decide), hbase, hmgen]

/-- While FRT is disabled an accepted mode is installed, and its entry completes. -/
theorem acceptMode_disabled_same {s : State} (h : frtEn s = false) (it : Item) :
    FrtSame (installMode s (entryMode it.entry)) (acceptMode s it) := by
  simp only [acceptMode, h]
  exact frtDone_same _ _ _ _ _ _

/-- Does mode `m` come after the frame that it names is latched (R249)? -/
def modeLate (s : State) (m : Mode) : Bool := !matOrAfter 32 m.e (nextLatched s)

/-- The frame at which mode `m`, accepted now, applies (R249). -/
def modeFrame (s : State) (m : Mode) : Nat := if modeLate s m then nextLatched s else m.e

/-- The mode of entry `it` is pending. -/
def modePending (s : State) (it : Item) : State :=
  setF { s with frt := { s.frt with pendMode := some (it, entryMode it.entry, modeFrame s (entryMode it.entry),
    modeLate s (entryMode it.entry)) } } F.FRT_MSTAT_PEND 1

theorem acceptMode_running {s : State} {o : Mode} (h : frtEn s = true) (hm : s.frt.mode = some o) (it : Item) :
    acceptMode s it = armMove (sendMode (modePending s it) (modeFrame s (entryMode it.entry))
      (instantNs (cadenceExt (modePending s it) o (modeFrame s (entryMode it.entry)))) (entryMode it.entry)) := by
  unfold acceptMode
  split
  · next o' _ hm' =>
      cases hm.symm.trans hm'
      rfl
  · next hnone => exact absurd hm (hnone o h)

theorem frt_modePending (s : State) (it : Item) : (modePending s it).frt = { s.frt with pendMode := some (it, entryMode it.entry,
    modeFrame s (entryMode it.entry), modeLate s (entryMode it.entry)) } := by
  rw [modePending, setF_frt]

/-- While FRT runs an accepted mode is pending. -/
theorem acceptMode_running_same {s : State} {o : Mode} (h : frtEn s = true) (hm : s.frt.mode = some o) (it : Item) :
    FrtSame (modePending s it) (acceptMode s it) := by
  rw [acceptMode_running h hm]
  exact (sendMode_same _ _ _ _).trans (armMove_same _)

/-- An entry that passes its checks is a commit or a mode. -/
theorem frtEntry_ok {s : State} {it : Item} (h : frtCheck s it.entry = .ok) :
    frtEntry s it = if opcode it = 0x38 then commit s (some it) else acceptMode s it := by
  rw [frtEntry, h]

theorem exec_commitEntry {s x : State} {it : Item} (hon : blkOn s 0x0C = true) (htake : coreTake s 0x38 = some (it, x))
    (hcheck : frtCheck x it.entry = .ok) : exec .commitEntry s = .next (commit x (some it)) := by
  refine (whenOn_of_on hon (fun s => onEntry s 0x38 frtEntry)).trans (congrArg Host.Outcome.next ?_)
  rw [onEntry, htake]
  exact (frtEntry_ok hcheck).trans (if_pos (opcode_of_coreTake htake))

theorem exec_modeEntry {s x : State} {it : Item} (hon : blkOn s 0x0C = true) (htake : coreTake s 0x39 = some (it, x))
    (hcheck : frtCheck x it.entry = .ok) : exec .modeEntry s = .next (acceptMode x it) := by
  refine (whenOn_of_on hon (fun s => onEntry s 0x39 frtEntry)).trans (congrArg Host.Outcome.next ?_)
  rw [onEntry, htake]
  exact (frtEntry_ok hcheck).trans (if_neg (by rw [opcode_of_coreTake htake]; decide))

/-! ### Enable (R248) -/

theorem tim_genShow (s : State) (g : Nat) : (genShow s g).tim = s.tim :=
  same_of_keeps .tim (genShow_keeps s g (by decide) Keeps.same)

theorem gen_genProgram (s : State) (g owner : Nat) (st : Int) (per k : Nat) :
    gen (genProgram s g owner st per k) g = ⟨owner, st, per, k⟩ := by
  rw [genProgram, gen, tim_genShow]
  exact tget_tset_same _ _ _ _

/-- FRT holds its generator, which counts from the mode's anchor. -/
def genHeld (s : State) (m : Mode) : State := genTake s (frtGen s) 1 (extOf s m.te) m.per 0

/-- The generator's next instant is that of the `k`-th frame after the mode's anchor, which is latched next. -/
def cadenceSet (s : State) (m : Mode) (k : Nat) : State :=
  setF (genProgram (genHeld s m) (frtGen s) 1 (extOf s m.te) m.per k) F.FRT_NEXTLAT_FRAME (m.e + k)

/-- The cadence runs from the `k`-th frame after the mode's anchor on. -/
def cadenceFrom (s : State) (m : Mode) (k : Nat) : State :=
  { cadenceSet s m k with frt := { (cadenceSet s m k).frt with queued := [], under := none } }

theorem frtGen_genHeld (s : State) (m : Mode) : frtGen (genHeld s m) = frtGen s := (genTake_same _ _ _ _ _ _).getF (by decide)

theorem nowFine_genHeld (s : State) (m : Mode) : nowFine (genHeld s m) = nowFine s := by
  have hk := genTake_keeps s (frtGen s) 1 (extOf s m.te) m.per 0 (W0 := [.regs, .tim]) (by decide) (by decide) Keeps.same
  have htime : (genHeld s m).time = s.time := hk.2.2 .time (by decide)
  have hwraps : (genHeld s m).wraps = s.wraps := hk.2.2 .wraps (by decide)
  exact nowFine_congr htime hwraps

theorem latchExt_genHeld (s : State) (m : Mode) (n : Nat) : latchExt (genHeld s m) m n =
    cadenceAt m (extOf s m.te) (msub 32 n (getF s F.FRT_CTL_QDEPTH)) - 2000 * 2 ^ 24 := by
  have hgen : gen (genHeld s m) (frtGen s) = ⟨1, extOf s m.te, m.per, 0⟩ := gen_genProgram _ _ _ _ _ _
  have hq : getF (genHeld s m) F.FRT_CTL_QDEPTH = getF s F.FRT_CTL_QDEPTH := (genTake_same _ _ _ _ _ _).getF (by decide)
  rw [latchExt, cadenceExt, frtGen_genHeld, hgen, hq]

/-- Enabling starts the cadence from the anchor's frame on, or from a later one where the anchor's latch instant is past. -/
theorem frtEnable_eq {s : State} {m : Mode} (hm : s.frt.mode = some m) :
    ∃ k, frtEnable s = sendMode (cadenceFrom (setF s F.FRT_CTL_EN 1) m k) m.e m.te m ∧
      (nowFine (genHeld (setF s F.FRT_CTL_EN 1) m) < latchExt (genHeld (setF s F.FRT_CTL_EN 1) m) m m.e → k = 0) := by
  simp only [frtEnable, hm]
  exact ⟨_, rfl, fun h => if_pos h⟩

theorem cadenceSet_effect (s : State) (m : Mode) (k : Nat) : frtEn (cadenceSet s m k) = frtEn s ∧
    frtGen (cadenceSet s m k) = frtGen s ∧ (gen (cadenceSet s m k) (frtGen s)).owner = 1 ∧
    nextLatched (cadenceSet s m k) = (m.e + k) % 2 ^ 32 := by
  have hsame := (genTake_same s (frtGen s) 1 (extOf s m.te) m.per 0).trans (genProgram_same _ (frtGen s) 1 (extOf s m.te) m.per k)
  refine ⟨(frtEn_setF _ _ (by decide)).trans hsame.frtEn,
    (getF_setF_other _ _ (by decide) (by decide)).trans (hsame.getF (by decide)), ?_, getF_setF_same _ _ _ (by decide)⟩
  rw [cadenceSet, gen, setF_tim]
  exact congrArg Gen.owner (gen_genProgram _ _ _ _ _ _)

theorem getF_cadenceFrom (s : State) (m : Mode) (k : Nat) (f : Fld) : getF (cadenceFrom s m k) f = getF (cadenceSet s m k) f := by
  rw [cadenceFrom]
  exact getF_of_regs (RegsBut.frt.2 RegsBut.same)

theorem gen_frt (s : State) (x : FrtSt) (g : Nat) : gen { s with frt := x } g = gen s g := rfl

theorem gen_cadenceFrom (s : State) (m : Mode) (k g : Nat) : gen (cadenceFrom s m k) g = gen (cadenceSet s m k) g := by
  rw [cadenceFrom, gen_frt]

theorem cadenceFrom_effect (s : State) (m : Mode) (k : Nat) : frtEn (cadenceFrom s m k) = frtEn s ∧
    (cadenceFrom s m k).frt.queued = [] ∧ (gen (cadenceFrom s m k) (frtGen (cadenceFrom s m k))).owner = 1 ∧
    nextLatched (cadenceFrom s m k) = (m.e + k) % 2 ^ 32 := by
  obtain ⟨hen, hgen, howner, hnext⟩ := cadenceSet_effect s m k
  refine ⟨(isSet_congr (getF_cadenceFrom _ _ _ _)).trans hen, ?_, ?_, (getF_cadenceFrom _ _ _ _).trans hnext⟩
  · rw [cadenceFrom]
  · rw [frtGen, getF_cadenceFrom, gen_cadenceFrom, ← frtGen, hgen, howner]

theorem gen_sendMode (s : State) (aframe capply : Nat) (m : Mode) (g : Nat) : gen (sendMode s aframe capply m) g = gen s g := by
  have htim : (sendMode s aframe capply m).tim = s.tim :=
    same_of_keeps .tim (sendMode_keeps s aframe capply m (by decide) (by decide) (by decide) Keeps.same)
  rw [gen, gen, htim]

/-- What enabling leaves: EN set, nothing queued, the generator FRT's, and the first frame that is latched (R248). -/
theorem frtEnable_effect {s : State} {m : Mode} (hm : s.frt.mode = some m) :
    frtEn (frtEnable s) = true ∧ (frtEnable s).frt.queued = [] ∧ (gen (frtEnable s) (frtGen (frtEnable s))).owner = 1 ∧
      ∃ k, nextLatched (frtEnable s) = (m.e + k) % 2 ^ 32 ∧
        (nowFine s < cadenceAt m (extOf s m.te) (msub 32 m.e (getF s F.FRT_CTL_QDEPTH)) - 2000 * 2 ^ 24 → k = 0) := by
  obtain ⟨k, heq, hfirst⟩ := frtEnable_eq hm
  have hq : getF (setF s F.FRT_CTL_EN 1) F.FRT_CTL_QDEPTH = getF s F.FRT_CTL_QDEPTH := getF_setF_other _ _ (by decide) (by decide)
  have hon : frtEn (setF s F.FRT_CTL_EN 1) = true := by
    rw [frtEn, isSet, getF_setF_same _ _ _ (by decide)]
    rfl
  rw [nowFine_genHeld, latchExt_genHeld, hq] at hfirst
  obtain ⟨hen, hqueued, howner, hnext⟩ := cadenceFrom_effect (setF s F.FRT_CTL_EN 1) m k
  have hsame := sendMode_same (cadenceFrom (setF s F.FRT_CTL_EN 1) m k) m.e m.te m
  rw [heq]
  refine ⟨hsame.frtEn.trans (hen.trans hon), (congrArg FrtSt.queued hsame.frt).trans hqueued, ?_, k,
    (hsame.getF (by decide)).trans hnext, hfirst⟩
  have hgen : frtGen (sendMode (cadenceFrom (setF s F.FRT_CTL_EN 1) m k) m.e m.te m) =
      frtGen (cadenceFrom (setF s F.FRT_CTL_EN 1) m k) := hsame.getF (by decide)
  rw [gen_sendMode, hgen, howner]

/-! ### Disable (R255) -/

/-- The pending mode `m` is in force from its frame `a` on, whose cadence instant the mode `o` before it gives. -/
def modeSettled (s : State) (m : Mode) (a : Nat) (o : Mode) : State :=
  installMode { s with frt := { s.frt with pendMode := none } } { m with e := a, te := instantNs (cadenceExt s o a) }

/-- A mode that is still pending as FRT is disabled is installed, and its entry completes (R249). -/
def pendModeSettled (s : State) : State :=
  match s.frt.pendMode, s.frt.mode with
  | some (it, m, a, late), some o =>
    frtDone (setIf late (setF (modeSettled s m a o) F.FRT_MSTAT_PEND 0) F.FRT_MSTAT_LATE 1) it (if late then .late else .ok) a
      (instantNs (cadenceExt s o a)) false
  | _, _ => s

/-- FRT is disabled: nothing is queued, CMP's reads stop and the generator is released. -/
def cadenceStopped (s : State) : State :=
  let x := dropHold (setF s F.FRT_CTL_EN 0)
  let y := engineStop { x with frt := { x.frt with queued := [] } }
  flushPorts (genRelease y (frtGen y))

theorem frtDisable_eq (s : State) : frtDisable s =
    cadenceStopped (pendModeSettled (applyArmed s (msub 32 (nextLatched s) 1) none 0 0)) := rfl

theorem cmp_setIf (c : Bool) (s : State) (f : Fld) (v : Nat) : (setIf c s f v).cmp = s.cmp := by cases c <;> rfl

/-- Installing a pending mode concerns no commit. -/
theorem pendModeSettled_effect (s : State) : (pendModeSettled s).cmp = s.cmp ∧
    getF (pendModeSettled s) F.FRT_COMMIT_ARMED = getF s F.FRT_COMMIT_ARMED := by
  unfold pendModeSettled
  split
  · next it m a late o _ _ =>
    have hsame := frtDone_same (setIf late (setF (modeSettled s m a o) F.FRT_MSTAT_PEND 0) F.FRT_MSTAT_LATE 1) it
      (if late then .late else .ok) a (instantNs (cadenceExt s o a)) false
    have hfield : getF (modeSettled s m a o) F.FRT_COMMIT_ARMED = getF s F.FRT_COMMIT_ARMED :=
      getF_of_regs (installMode_regs _ _ (by decide) (by decide) (by decide) (by decide) (by decide) (by decide) (by decide)
        (by decide) RegsBut.same)
    refine ⟨hsame.cmp.trans ?_, (hsame.getF (by decide)).trans ?_⟩
    · rw [cmp_setIf, setF_cmp, modeSettled, cmp_installMode]
    · rw [getF_setIf_other _ _ _ (by decide) (by decide), getF_setF_other _ _ (by decide) (by decide), hfield]
  · exact ⟨rfl, rfl⟩

theorem cadenceStopped_same (s : State) :
    FrtSame { setF s F.FRT_CTL_EN 0 with frt := { s.frt with queued := [] } } (cadenceStopped s) :=
  have hstop := engineStop_same { dropHold (setF s F.FRT_CTL_EN 0) with frt := { s.frt with queued := [] } }
  FrtSame.trans ⟨hstop.frt, hstop.cmp, hstop.regs⟩ ((genRelease_same _ _).trans (flushPorts_same _))

theorem cadenceStopped_effect (s : State) : frtEn (cadenceStopped s) = false ∧ (cadenceStopped s).frt.queued = [] ∧
    (cadenceStopped s).cmp = s.cmp ∧ getF (cadenceStopped s) F.FRT_COMMIT_ARMED = getF s F.FRT_COMMIT_ARMED := by
  have hsame := cadenceStopped_same s
  have hoff : getF (setF s F.FRT_CTL_EN 0) F.FRT_CTL_EN = 0 := getF_setF_same _ _ _ (by decide)
  exact ⟨hsame.frtEn.trans (bne_eq_false_iff_eq.2 hoff), congrArg FrtSt.queued hsame.frt, hsame.cmp,
    (hsame.getF (by decide)).trans (getF_setF_ne s _ _ _ (by decide))⟩

/-- What disabling leaves: nothing armed and nothing queued (R255). -/
theorem frtDisable_effect (s : State) : frtEn (frtDisable s) = false ∧ (frtDisable s).frt.queued = [] ∧
    (frtDisable s).cmp.armed = [] ∧ getF (frtDisable s) F.FRT_COMMIT_ARMED = 0 := by
  have hused := cmp_applyArmed s (msub 32 (nextLatched s) 1) none 0 0
  have hunarmed := getF_applyArmed_armed s (msub 32 (nextLatched s) 1) none 0 0
  obtain ⟨hcmp, harmed⟩ := pendModeSettled_effect (applyArmed s (msub 32 (nextLatched s) 1) none 0 0)
  obtain ⟨hen, hqueued, hcmp', harmed'⟩ :=
    cadenceStopped_effect (pendModeSettled (applyArmed s (msub 32 (nextLatched s) 1) none 0 0))
  rw [frtDisable_eq]
  exact ⟨hen, hqueued, congrArg CmpSt.armed (hcmp'.trans (hcmp.trans hused)), harmed'.trans (harmed.trans hunarmed)⟩

/-- Settles O31, clause by clause. -/
theorem commitsAndModes : Obligations.CommitsAndModes := by
  unfold Obligations.CommitsAndModes
  refine ⟨?go, ?commit, ?mode, ?enable, ?disable⟩
  case go =>
    intro dt s _ h
    obtain ⟨hcmp, hstored⟩ := storeReg_frtCommit_effect (advance dt s) (F.FRT_COMMIT_GO.put 0#32 1)
    refine ⟨_, congrArg Host.Outcome.next (hostWrite_commitGo h), pend_commit _ _, fun hen => ?_, fun hen => ?_⟩
    · rw [← hcmp]
      exact (commit_disabled (hstored.trans hen) none).2
    · obtain ⟨_, harmed, hvals, _⟩ := commit_enabled (hstored.trans hen) none
      exact ⟨harmed, hcmp ▸ hvals⟩
  case commit =>
    intro it x s _ hon htake hcheck
    refine ⟨_, exec_commitEntry hon htake hcheck, pend_commit _ _, fun hen => (commit_disabled hen _).2, fun hen => ?_⟩
    obtain ⟨_, harmed, _, hwaits⟩ := commit_enabled hen (some it)
    exact ⟨harmed, hwaits it rfl⟩
  case mode =>
    intro it x s _ hon htake hcheck
    refine ⟨_, exec_modeEntry hon htake hcheck, fun hen => ?_, fun hen hm => ?_⟩
    · obtain ⟨hperns, hmgen⟩ := installMode_effect x (entryMode it.entry)
      have hsame := acceptMode_disabled_same hen it
      refine ⟨?_, (hsame.getF (by decide)).trans (hperns.trans (Nat.mod_eq_of_lt (leAt_lt it.entry 12 4))),
        (hsame.getF (by decide)).trans hmgen⟩
      rw [hsame.frt, frt_installMode]
    · obtain ⟨o, ho⟩ := Option.ne_none_iff_exists'.1 hm
      have hsame := acceptMode_running_same hen ho it
      refine ⟨(hsame.getF (by decide)).trans (getF_setF_same _ _ _ (by decide)), ?_, modeFrame x (entryMode it.entry),
        modeLate x (entryMode it.entry), ?_⟩
      · rw [hsame.frt, frt_modePending]
      · rw [hsame.frt, frt_modePending]
  case enable =>
    intro dt v m s _ h hen hm
    obtain ⟨hfrt, hnow, hext, hq⟩ := storeReg_frtCtl_effect (advance dt s) (F.FRT_CTL_EN.put v 1)
    have heffect := frtEnable_effect ((congrArg FrtSt.mode hfrt).trans hm)
    rw [hnow, hext, hq, get_put_apart _ _ _ _ (by decide) (by decide)] at heffect
    exact ⟨_, congrArg Host.Outcome.next (hostWrite_frtEnable h hen), heffect⟩
  case disable =>
    intro dt v s _ h hen
    exact ⟨_, congrArg Host.Outcome.next (hostWrite_frtDisable h hen), frtDisable_effect _⟩

end Sys2Proof.Machine
end

section
/-! PROOF. The sender's frames: latch instants, the cadence and the raster deadline (R239, R241, R251, R252). -/

namespace Sys2Proof.Machine

/-! ### The latch instant (R241) -/

theorem exec_latchInstant (dt : Nat) (needs : List (Nat × Nat)) {s : State} (hon : blkOn (advance dt s) 0x0C = true) :
    exec (.latchInstant dt needs) s = .next (latchInstant (advance dt s) needs) :=
  whenOn_of_on hon (fun s => latchInstant s needs)

/-- The frame whose latch instant has come is latched. -/
theorem latchInstant_due {s : State} {m : Mode} (needs : List (Nat × Nat)) (hm : s.frt.mode = some m) (hon : frtOn s = true)
    (hdue : latchExt s m (nextLatched s) ≤ nowFine s) : latchInstant s needs = latchNext s m needs := by
  simp only [latchInstant, hm]
  exact if_pos (by rw [hon, Bool.true_and]; exact decide_eq_true hdue)

/-! ### The cadence (R239) -/

/-- The frame before is closed, and FRT_FRAME shows the frame of the instant. -/
def frameReached (s : State) (m : Mode) (slots : List Nat) : State :=
  setF (latchThrough m (nextFrame s m) 8 (genFire (closeFrame (frameStart (drainPorts s slots))) (frtGen s)))
    F.FRT_FRAME_FRAME (nextFrame s m)

/-- A mode for this frame is in force, and BEACON and SYNC have gone out. -/
def cadenceSent (s : State) (m : Mode) (slots : List Nat) : State :=
  crcNote (syncPulse (sendBeacon (modeAtCadence (frameReached s m slots) (nextFrame s m) (genNext s (frtGen s)))) (frtGen s))
    (nextFrame s m) false []

theorem senderCadence_due {s : State} {m : Mode} (slots : List Nat) (hm : s.frt.mode = some m) (hon : frtOn s = true)
    (hdue : genDue s (frtGen s) = true) : senderCadence s slots = startRaster (cadenceSent s m slots) m (nextFrame s m)
      (genNext s (frtGen s)) (isTransition (frameReached s m slots) (nextFrame s m)) := by
  simp only [senderCadence, hm, hon, hdue, Bool.and_true, Bool.not_true, Bool.false_eq_true, if_false]
  rfl

theorem getF_frameReached (s : State) (m : Mode) (slots : List Nat) :
    getF (frameReached s m slots) F.FRT_FRAME_FRAME = nextFrame s m :=
  (getF_setF_same _ _ _ (by decide)).trans (Nat.mod_mod _ _)

/-- FRT_FRAME is written at no other place of the pulse. -/
theorem getF_cadenceSent (s : State) (m : Mode) (slots : List Nat) :
    getF (cadenceSent s m slots) F.FRT_FRAME_FRAME = getF (frameReached s m slots) F.FRT_FRAME_FRAME :=
  getF_of_regs (crcNote_regs _ _ _ _ (syncPulse_regs _ _ (sendBeacon_regs _ (modeAtCadence_regs _ _ _
    (fun k => by simp only; omega) (fun i => by simp only [R.QUE_STAT]; omega) (fun i => by simp only [R.QUE_RET]; omega)
    (by decide) (by decide) (by decide) (by decide) (by decide) (by decide) (by decide) (by decide)
    (fun i => by simp only [R.TIM_PGCFG]; omega) (fun i => by simp only [R.TIM_PGSTART]; omega)
    (fun i => by simp only [R.TIM_PGPER]; omega) (fun i => by simp only [R.TIM_PGPERF]; omega)
    (fun i => by simp only [R.TIM_PGNEXT]; omega) RegsBut.same))))

theorem startRaster_regs_frt (s : State) (m : Mode) (n : Nat) (cn : Int) (tr : Bool) :
    RegsBut OutsideFrt s (startRaster s m n cn tr) :=
  startRaster_regs s m n cn tr outsideFrt_pba (by decide) (by decide) (by decide) (by decide) outsideFrt_queStat outsideFrt_queRet
    (by decide) (by decide) (by decide) (by decide) (by decide) (by decide) (by decide)
    (fun i => by simp only [R.CMP_CANNOW]; omega) (fun i => by simp only [R.CMP_LNOW]; omega) outsideFrt_chnPerr
    (by decide) (by decide) RegsBut.same

/-- The frames still queued once frame `n` is reached. -/
def FrtSt.queuedAfter (x : FrtSt) (n : Nat) : List QFrame := x.queued.filter (fun q => !matOrAfter 32 n q.n)

theorem frt_dropQueued (s : State) (n : Nat) : (dropQueued s n).frt = { s.frt with queued := s.frt.queuedAfter n } := by
  have hk : Keeps Part.frt.others { s with frt := { s.frt with queued := s.frt.queuedAfter n } } (dropQueued s n) := by
    refine sweepPend_keeps _ (by decide) (by decide) (by decide) (by decide) (by decide) (by decide) (by decide)
      (Keeps.foldl (fun t q ht => ?_) Keeps.same)
    dsimp only
    split
    · exact forgetFrame_keeps _ _ (by decide) ht
    · exact ht
  exact same_of_keeps .frt hk

theorem frt_rasterStart (s : State) (q : QFrame) (cn win : Nat) : (rasterStart s q cn win).frt = s.frt :=
  same_of_keeps .frt (rasterStart_keeps s q cn win (by decide) (by decide) (by decide) (by decide) (by decide) (by decide)
    (by decide) (by decide) (by decide) (by decide) (by decide) (by decide) Keeps.same)

/-- The raster of frame `n` starts with no underrun recorded, and no frame up to `n` stays queued. -/
theorem frt_startRaster (s : State) (m : Mode) (n : Nat) (cn : Int) (tr : Bool) :
    (startRaster s m n cn tr).frt = { s.frt with under := none, queued := s.frt.queuedAfter n } := by
  unfold startRaster
  dsimp only
  rw [frt_dropQueued]
  split
  · split
    · rw [frt_rasterStart]
      rfl
    · rfl
  · rfl

theorem snapSettle_same (s : State) : FrtSame s (snapSettle s) :=
  .of_frames (snapSettle_keeps s (by decide) (by decide) (by decide) (by decide) (by decide) (by decide) (by decide) Keeps.same)
    (snapSettle_regs s outsideFrt_pba outsideFrt_queStat outsideFrt_queRet RegsBut.same)

theorem exec_senderCadence (dt : Nat) (slots : List Nat) {s : State} (hon : blkOn (advance dt s) 0x0C = true) :
    exec (.senderCadence dt slots) s = .next (snapSettle (senderCadence (advance dt s) slots)) :=
  whenOn_of_on hon (fun s => snapSettle (senderCadence s slots))

/-- What the cadence instant of the next frame leaves of FRT (R239). -/
theorem senderCadence_effect {s : State} {m : Mode} (slots : List Nat) (hm : s.frt.mode = some m) (hon : frtOn s = true)
    (hdue : genDue s (frtGen s) = true) :
    getF (senderCadence s slots) F.FRT_FRAME_FRAME = nextFrame s m ∧ (senderCadence s slots).frt.under = none ∧
      ∀ q ∈ (senderCadence s slots).frt.queued, matOrAfter 32 (nextFrame s m) q.n = false := by
  rw [senderCadence_due slots hm hon hdue, frt_startRaster]
  refine ⟨?frame, rfl, fun q hq => ?queue⟩
  case frame =>
    rw [getF_of_regs ((startRaster_regs_frt _ _ _ _ _).mono fun o ho => by rintro rfl; revert ho; decide), getF_cadenceSent,
      getF_frameReached]
  case queue =>
    obtain ⟨_, hlater⟩ := List.mem_filter.1 hq
    exact Bool.not_eq_true' _ |>.mp hlater

/-! ### Underruns (R251, R252) -/

/-- Frame `n` has underrun: its raster, if it is there, is aborted. -/
def CmpSt.rasterAborted (x : CmpSt) (n : Nat) : CmpSt :=
  { x with raster := x.raster.map (fun r => if r.frame = n then { r with aborted := true } else r) }

/-- Frame `n` is aborted in CMP, and its unsent runs are dropped. -/
def frameAborted (s : State) (n : Nat) : State :=
  { s with frt := { s.frt with under := some n }, cmp := s.cmp.rasterAborted n,
           chn := { s.chn with tx := s.chn.tx.map (fun e => (e.1, { e.2 with runs := e.2.runs.filter (fun r => r.1 != n) })) } }

/-- ABORT for frame `n` goes out on every enabled port. -/
def abortSent (s : State) (n cause : Nat) (c : Status) : State :=
  if blkOn s 0x0D then
    sendNow s (livePorts s) (mkCell 0xFFFE 5 false (beBytes 4 n ++ beBytes 4 (ownClaim s) ++ [byte cause, byte c.code]))
  else s

/-- The underrun of frame `n` is counted, with its cause and its code. -/
def underrunShown (s : State) (n cause : Nat) (c : Status) : State :=
  setF (setF (setF (incSat s F.FRT_USTAT_COUNT) F.FRT_USTAT_CAUSE cause) F.FRT_USTAT_CODE c.code) F.FRT_UFRM_FRAME n

theorem abortSent_same (s : State) (n cause : Nat) (c : Status) : FrtSame s (abortSent s n cause c) := by
  unfold abortSent
  split
  · exact sendNow_same _ _ _
  · exact FrtSame.refl s

/-- The state in which the underrun of frame `n` is recorded. -/
def underrunMade (s : State) (n cause : Nat) (c : Status) : State :=
  touchNeeds (abortSent (frameAborted s n) n cause c) n
    (fun d => matOrAfter 32 (timeNs (abortSent (frameAborted s n) n cause c)) d.deadline)

theorem underrun_eq {s : State} {n : Nat} (cause : Nat) (c : Status) (h : s.frt.under ≠ some n) : underrun s n cause c =
    yield (crcNote (underrunShown (underrunMade s n cause c) n cause c) n true []) 3 4 0x0C .aborted n := by
  rw [underrun, if_neg h]
  rfl

theorem underrunMade_same (s : State) (n cause : Nat) (c : Status) : FrtSame (frameAborted s n) (underrunMade s n cause c) :=
  (abortSent_same _ _ _ _).trans (touchNeeds_same _ _ _)

/-- The record of an underrun is written, and nothing else of FRT or CMP. -/
theorem underrunShown_effect (s : State) (n cause : Nat) (c : Status) :
    (underrunShown s n cause c).frt = s.frt ∧ (underrunShown s n cause c).cmp = s.cmp ∧
      getF (underrunShown s n cause c) F.FRT_UFRM_FRAME = n % 2 ^ 32 ∧
      getF (underrunShown s n cause c) F.FRT_USTAT_CODE = c.code % 2 ^ 8 ∧
      getF (underrunShown s n cause c) F.FRT_USTAT_CAUSE = cause % 2 ^ 2 := by
  unfold underrunShown
  refine ⟨?frt, ?cmp, getF_setF_same _ _ _ (by decide), ?code, ?cause⟩
  case frt => rw [setF_frt, setF_frt, setF_frt, incSat_frt]
  case cmp => rw [setF_cmp, setF_cmp, setF_cmp, incSat_cmp]
  case code => rw [getF_setF_other _ _ (by decide) (by decide), getF_setF_same _ _ _ (by decide)]
  case cause =>
    rw [getF_setF_other _ _ (by decide) (by decide), getF_setF_other _ _ (by decide) (by decide), getF_setF_same _ _ _ (by decide)]

/-- A frame that underruns is recorded with its cause and code. -/
theorem underrun_effect {s : State} {n : Nat} (cause : Nat) (c : Status) (h : s.frt.under ≠ some n) :
    (underrun s n cause c).frt = { s.frt with under := some n } ∧ (underrun s n cause c).cmp = s.cmp.rasterAborted n ∧
      getF (underrun s n cause c) F.FRT_UFRM_FRAME = n % 2 ^ 32 ∧ getF (underrun s n cause c) F.FRT_USTAT_CODE = c.code % 2 ^ 8 ∧
      getF (underrun s n cause c) F.FRT_USTAT_CAUSE = cause % 2 ^ 2 := by
  obtain ⟨hfrt, hcmp, hframe, hcode, hcause⟩ := underrunShown_effect (underrunMade s n cause c) n cause c
  have hmade := underrunMade_same s n cause c
  have hsame := (crcNote_same (underrunShown (underrunMade s n cause c) n cause c) n true []).trans
    (yield_same _ 3 4 0x0C .aborted n)
  rw [underrun_eq cause c h]
  exact ⟨hsame.frt.trans (hfrt.trans hmade.frt), hsame.cmp.trans (hcmp.trans hmade.cmp), (hsame.getF (by decide)).trans hframe,
    (hsame.getF (by decide)).trans hcode, (hsame.getF (by decide)).trans hcause⟩

theorem exec_rasterDeadline (dt : Nat) {s : State} (hon : blkOn (advance dt s) 0x0C = true) :
    exec (.rasterDeadline dt) s = .next (rasterDeadline (advance dt s)) := whenOn_of_on hon rasterDeadline

/-- A raster that its deadline finds unfinished underruns. -/
theorem rasterDeadline_passed {s : State} {r : Raster} (hr : s.cmp.raster = some r) (hfin : r.finished = false)
    (hab : r.aborted = false) (hdue : matOrAfter 32 (timeNs s) r.due = true) :
    rasterDeadline s = underrun s r.frame causeRaster .late := by
  simp only [rasterDeadline, hr, hfin, hab, hdue, Bool.not_false, Bool.and_true, if_true]

/-- Settles O32, clause by clause. -/
theorem senderFrames : Obligations.SenderFrames := by
  unfold Obligations.SenderFrames
  refine ⟨?latch, ?cadence, ?deadline⟩
  case latch =>
    intro dt needs m s _ hblk hm hon hdue
    have hlatch := latchInstant_due needs hm hon hdue
    obtain ⟨hfrt, harmed, _, _⟩ := latchNext_effect (advance dt s) m needs
    exact ⟨_, frameFixed (advance dt s) m, (exec_latchInstant dt needs hblk).trans (congrArg Host.Outcome.next hlatch),
      congrArg FrtSt.queued hfrt, rfl, harmed, nextLatched_latchNext _ _ _⟩
  case cadence =>
    intro dt slots m s _ hblk hm hon hdue
    obtain ⟨hframe, hunder, hqueue⟩ := senderCadence_effect slots hm hon hdue
    have hsame := snapSettle_same (senderCadence (advance dt s) slots)
    exact ⟨_, exec_senderCadence dt slots hblk, (hsame.getF (by decide)).trans hframe,
      (congrArg FrtSt.under hsame.frt).trans hunder, hsame.frt ▸ hqueue⟩
  case deadline =>
    intro dt r s _ hblk hr hfin hab hunder hdue
    have hlate := rasterDeadline_passed hr hfin hab hdue
    obtain ⟨hfrt, hcmp, hframe, hcode, hcause⟩ := underrun_effect causeRaster .late hunder
    refine ⟨_, (exec_rasterDeadline dt hblk).trans (congrArg Host.Outcome.next hlate), congrArg FrtSt.under hfrt, ?_, hframe,
      hcode, hcause⟩
    rw [hcmp, CmpSt.rasterAborted, hr, Option.map_some, if_pos rfl]

end Sys2Proof.Machine
end

section
/-! PROOF. LNK's registers and the records of its ports: what is read after a write, and which operations leave them alone. -/

namespace Sys2Proof.Machine

/-! ### The records of ports and lanes -/

section
variable (s : State) (p q : Nat) (x : PortSt)

@[simp] theorem port_setPort_same : port (setPort s p x) p = x := tget_tset_same _ _ _ _

theorem port_setPort_ne {p q : Nat} (h : q ≠ p) : port (setPort s p x) q = port s q := tget_tset_ne _ _ _ _ h

@[simp] theorem word_setPort (off : Nat) : (setPort s p x).word off = s.word off := rfl
@[simp] theorem getF_setPort (f : Fld) : getF (setPort s p x) f = getF s f := rfl
@[simp] theorem out_setPort : (setPort s p x).out = s.out := rfl
@[simp] theorem cal_setPort : (setPort s p x).cal = s.cal := rfl
@[simp] theorem port_setF (f : Fld) (v : Nat) : port (setF s f v) q = port s q := rfl
@[simp] theorem port_incSat (f : Fld) (n : Nat) : port (incSat s f n) q = port s q := rfl
@[simp] theorem port_emit (o : Out) : port (emit s o) q = port s q := rfl
@[simp] theorem getF_emit (o : Out) (f : Fld) : getF (emit s o) f = getF s f := rfl

end

theorem port_congr {s t : State} (h : t.lnk = s.lnk) (p : Nat) : port t p = port s p := by rw [port, port, h]

theorem lane_of_lanes {l : Nat} (hl : l < 5) {x : PortSt} {f : Nat → LaneSt} (h : x.lanes = (List.range 5).map f) :
    x.lane l = f l := by
  simp [PortSt.lane, h, hl]

theorem lane_setLane_same {l : Nat} (hl : l < 5) (x : PortSt) (y : LaneSt) : (x.setLane l y).lane l = y := by
  simp [PortSt.setLane, PortSt.lane, hl]

/-! ### Fields of one register, and registers of the groups -/

/-- A field is written and read back. -/
theorem getF_setF_read (s : State) (f : Fld) {v : Nat} (hv : v < 2 ^ f.width) (hf : decide (f.lo + f.width ≤ 32) = true) :
    getF (setF s f v) f = v :=
  (getF_setF_same s f v (of_decide_eq_true hf)).trans (Nat.mod_eq_of_lt hv)

/-- Writing a field leaves a field beside it in its register alone. -/
theorem getF_setF_beside (s : State) (f g : Fld) (v : Nat) (ho : g.off = f.off) (hg : decide (g.lo + g.width ≤ 32) = true)
    (h : (decide (f.lo + f.width ≤ g.lo) || decide (g.lo + g.width ≤ f.lo)) = true) : getF (setF s f v) g = getF s g :=
  getF_setF_apart s f g v ho (of_decide_eq_true hg) (by simpa using h)

theorem getF_incSat_beside (s : State) (f g : Fld) (n : Nat) (ho : g.off = f.off) (hg : decide (g.lo + g.width ≤ 32) = true)
    (h : (decide (f.lo + f.width ≤ g.lo) || decide (g.lo + g.width ≤ f.lo)) = true) : getF (incSat s f n) g = getF s g :=
  getF_setF_beside s f g _ ho hg h

theorem getF_incSat_ne (s : State) (f g : Fld) (n : Nat) (h : g.off ≠ f.off) : getF (incSat s f n) g = getF s g :=
  getF_setF_ne s f g _ h

/-- A counter counts one more. -/
theorem getF_incSat_read (s : State) (f : Fld) (n : Nat) (hf : decide (f.lo + f.width ≤ 32) = true) :
    getF (incSat s f n) f = satAdd f.top (getF s f) n := getF_incSat_same s f n (of_decide_eq_true hf)

/-- Registers of two kinds of the ports' group. -/
theorem portOff_ne {b c : Nat} (h : b % 0x40 ≠ c % 0x40) (i j : Nat) : b + 0x40 * (i % 4) ≠ c + 0x40 * (j % 4) := by omega

/-- Registers of two kinds of the lanes' group. -/
theorem laneOff_ne {b c : Nat} (h : b % 0x20 ≠ c % 0x20) (i j : Nat) : b + 0x20 * (i % 20) ≠ c + 0x20 * (j % 20) := by omega

/-- An offset outside the registers of the ports (R301). -/
abbrev OutsidePorts (off : Nat) : Prop := off < 0xE0100 ∨ 0xE0200 ≤ off

/-- A field of a register of a port. -/
abbrev Fld.inPorts (f : Fld) : Prop := 0xE0100 ≤ f.off ∧ f.off < 0xE0200

theorem Fld.inPorts_at {f : Fld} {b i : Nat} (h : f.off = b + 0x40 * (i % 4)) (hb : 0xE0100 ≤ b ∧ b < 0xE0140) : f.inPorts := by
  omega

theorem RegsBut.getF_port {s t : State} (h : RegsBut OutsidePorts s t) {f : Fld} (hf : f.inPorts) : getF t f = getF s f :=
  getF_of_regs (h.mono fun o ho => by rintro rfl; omega)

theorem outsidePorts_chnPerr (i : Nat) : OutsidePorts (R.CHN_PERR i) := by simp only [R.CHN_PERR]; omega
theorem outsidePorts_lstat (i : Nat) : OutsidePorts (R.LNK_LSTAT i) := by simp only [R.LNK_LSTAT]; omega
theorem outsidePorts_lcv (i : Nat) : OutsidePorts (R.LNK_LCV i) := by simp only [R.LNK_LCV]; omega
theorem outsidePorts_lqual (i : Nat) : OutsidePorts (R.CAL_LQUAL i) := by simp only [R.CAL_LQUAL]; omega

theorem pState_inPorts (p : Nat) : (F.LNK_PSTAT_STATE p).inPorts := Fld.inPorts_at rfl (by decide)

/-! ### What leaves LNK alone -/

/-- An offset outside LNK's registers (R301). -/
abbrev OutsideLnk (off : Nat) : Prop := off < 0xE0000 ∨ 0xF0000 ≤ off

/-- A field of one of LNK's registers. -/
abbrev Fld.inLnk (f : Fld) : Prop := 0xE0000 ≤ f.off ∧ f.off < 0xF0000

theorem Fld.inPorts.inLnk {f : Fld} (h : f.inPorts) : f.inLnk := by omega

/-- LNK's registers, its part of the state and CAL's are the same in two states. -/
structure LnkSame (s t : State) : Prop where
  lnk : t.lnk = s.lnk
  cal : t.cal = s.cal
  regs : RegsBut OutsideLnk s t

namespace LnkSame

theorem refl (s : State) : LnkSame s s := ⟨rfl, rfl, RegsBut.same⟩

theorem trans {s t u : State} (h : LnkSame s t) (k : LnkSame t u) : LnkSame s u :=
  ⟨k.lnk.trans h.lnk, k.cal.trans h.cal, h.regs.trans k.regs⟩

theorem getF {s t : State} (h : LnkSame s t) {f : Fld} (hf : f.inLnk) : getF t f = getF s f :=
  getF_of_regs (h.regs.mono fun o ho => by rintro rfl; omega)

theorem port {s t : State} (h : LnkSame s t) (p : Nat) : port t p = port s p := port_congr h.lnk p

theorem pState {s t : State} (h : LnkSame s t) (p : Nat) : pState t p = pState s p := h.getF (pState_inPorts p).inLnk

end LnkSame

theorem outsideLnk_pba (k : Nat) : OutsideLnk (0x38000 + 4 * (k % 64)) := by omega
theorem outsideLnk_chnPerr (i : Nat) : OutsideLnk (R.CHN_PERR i) := by simp only [R.CHN_PERR]; omega

/-- Every part of the state but LNK's and CAL's. -/
def besideLnk : List Part := Part.lnk.others.filter (fun p => p != .cal)

theorem LnkSame.of_frames {s t : State} (hk : Keeps besideLnk s t) (hr : RegsBut OutsideLnk s t) : LnkSame s t :=
  ⟨hk.2.2 .lnk (by decide), hk.2.2 .cal (by decide), hr⟩

theorem raise_lnkSame (s : State) (code : Nat) (det : Bytes) : LnkSame s (raise s code det) :=
  .of_frames (raise_keeps s code det (by decide) (by decide) (by decide) (by decide) Keeps.same)
    (raise_regs s code det outsideLnk_pba (by decide) outsideLnk_chnPerr RegsBut.same)

theorem tanDead_lnkSame (s : State) (p : Nat) : LnkSame s (tanDead s p) :=
  .of_frames (tanDead_keeps s p (by decide) (by decide) (by decide) (by decide) (by decide) Keeps.same)
    (tanDead_regs s p outsideLnk_pba (by decide) outsideLnk_chnPerr (by decide) RegsBut.same)

theorem sendHeld_lnkSame (s : State) : LnkSame s (sendHeld s) :=
  .of_frames (sendHeld_keeps s (by decide) (by decide) (by decide) Keeps.same) (sendHeld_regs s outsideLnk_chnPerr RegsBut.same)

/-! ### Stages (R281), and a command of LNK -/

theorem portUp_iff {s : State} {p : Nat} : portUp s p = true ↔ pState s p = pUp := beq_iff_eq

@[simp] theorem pState_emit (s : State) (o : Out) (p : Nat) : pState (emit s o) p = pState s p := rfl

theorem pState_setStage (s : State) (p : Nat) {st : Nat} (h : st < 16) : pState (setStage s p st) p = st :=
  getF_setF_read _ _ h rfl

theorem getF_setStage (s : State) (p st : Nat) {f : Fld} (h : f.off ≠ R.LNK_PSTAT p) : getF (setStage s p st) f = getF s f :=
  getF_setF_ne _ _ _ _ h

theorem port_setStage (s : State) (p st : Nat) : port (setStage s p st) p = { port s p with since := upNs s } := by
  rw [setStage, port_setF, port_setPort_same]

theorem out_setStage (s : State) (p st : Nat) : (setStage s p st).out = s.out := by rw [setStage, setF_out, out_setPort]

theorem lanesDark_frame (s : State) (p : Nat) : (lanesDark s p).lnk = s.lnk ∧ (lanesDark s p).up = s.up ∧
    RegsBut OutsidePorts s (lanesDark s p) := by
  have hkeeps := lanesDark_keeps (W0 := [.regs]) s p (by decide) Keeps.same
  exact ⟨hkeeps.2.2 .lnk (by decide), hkeeps.2.2 .up (by decide), lanesDark_regs s p outsidePorts_lstat RegsBut.same⟩

/-- A command of LNK on a port on which LNK acts. -/
theorem next_of_live {s : State} {p : Nat} (h : portLive s p = true) (t : State) :
    (.next (if portLive s p then t else s) : Result) = .next t := by rw [if_pos h]

/-! ### A port that leaves its state (R288) -/

/-- A port that was not UP has left its state. -/
theorem portDown_notUp {s : State} {p : Nat} (h : portUp s p = false) (st : Nat) :
    portDown s p st = setStage (lanesDark (emit s (.idleTx p)) p) p st :=
  if_pos (by rw [portUp, getF_emit, ← portUp, h]; rfl)

/-- A port that was UP has left its state and shows it, before the event. -/
def downShown (s : State) (p st : Nat) : State :=
  setF (incSat (setStage (stopForward (portQuiet (emit s (.idleTx p)) p)) p st) (F.LNK_PCNT_DOWNS p)) (F.LNK_PSTAT_CODE p)
    Status.linkAbsent.code

theorem portDown_up {s : State} {p : Nat} (h : portUp s p = true) (st : Nat) : LnkSame (downShown s p st) (portDown s p st) := by
  have hup : portUp (emit s (.idleTx p)) p = true := h
  have hraise := raise_lnkSame (downShown s p st) 0x0E02 [byte p, byte Status.linkAbsent.code]
  rw [portDown]
  dsimp only
  rw [hup, if_neg (by decide)]
  split
  · exact hraise.trans (tanDead_lnkSame _ _)
  · exact hraise

theorem pState_downShown (s : State) (p : Nat) {st : Nat} (h : st < 16) : pState (downShown s p st) p = st := by
  rw [downShown, pState, getF_setF_beside _ (F.LNK_PSTAT_CODE p) (F.LNK_PSTAT_STATE p) _ rfl rfl rfl,
    getF_incSat_ne _ _ _ _ (portOff_ne (by decide) _ _)]
  exact pState_setStage _ _ h

theorem getF_downShown_code (s : State) (p st : Nat) : getF (downShown s p st) (F.LNK_PSTAT_CODE p) = Status.linkAbsent.code :=
  getF_setF_read _ _ (Status.code_lt _) rfl

/-- The registers of the ports that the end of their streams writes: LNK_PMAP, where it ends a recalibration. -/
theorem portQuiet_regs_ports (s : State) (p : Nat) :
    RegsBut (fun o => OutsidePorts o ∨ ∃ i, o = R.LNK_PMAP i) s (stopForward (portQuiet s p)) :=
  stopForward_regs _ (portQuiet_regs s p (fun i => .inl (outsidePorts_chnPerr i)) (fun i => .inr ⟨i, rfl⟩)
    (fun i => .inl (outsidePorts_lstat i)) (.inl (by decide)) RegsBut.same)

theorem getF_downShown_downs (s : State) (p st : Nat) : getF (downShown s p st) (F.LNK_PCNT_DOWNS p) =
    satAdd (F.LNK_PCNT_DOWNS p).top (getF s (F.LNK_PCNT_DOWNS p)) 1 := by
  have hquiet : getF (stopForward (portQuiet (emit s (.idleTx p)) p)) (F.LNK_PCNT_DOWNS p) = getF s (F.LNK_PCNT_DOWNS p) :=
    getF_of_regs ((portQuiet_regs_ports (emit s (.idleTx p)) p).mono fun o ho => by
      rcases ho with ho | ⟨i, rfl⟩
      · rintro rfl
        have := Fld.inPorts_at (f := F.LNK_PCNT_DOWNS p) rfl (by decide)
        omega
      · exact portOff_ne (by decide) _ _)
  rw [downShown, getF_setF_ne _ _ _ _ (portOff_ne (by decide) _ _), getF_incSat_read _ _ _ rfl,
    getF_setStage _ _ _ (portOff_ne (by decide) _ _), hquiet]

theorem recalOn_congr {s t : State} (h : t.cal = s.cal) (p : Nat) : recalOn t p = recalOn s p := by rw [recalOn, recalOn, h]

theorem recalOn_calAbortOn (s : State) (p : Nat) (c : Status) : recalOn (calAbortOn s p c) p = none := by
  unfold calAbortOn
  split
  case isTrue => rw [recalOn, calAbort_run]
  case isFalse h => simpa using h

theorem recalOn_portQuiet (s : State) (p : Nat) : recalOn (portQuiet s p) p = none := by
  obtain ⟨x, hx⟩ := portQuiet_ends s p
  have hcal : (portQuiet s p).cal = (calAbortOn (portDropped s p) p .linkAbsent).cal := by
    rw [hx]
    exact same_of_keeps .cal (setPort_keeps _ _ _ (by decide) (lanesDark_keeps _ p (by decide) Keeps.same))
  rw [recalOn_congr hcal, recalOn_calAbortOn]

theorem recalOn_downShown (s : State) (p st : Nat) : recalOn (downShown s p st) p = none := by
  have hcal : (downShown s p st).cal = (portQuiet (emit s (.idleTx p)) p).cal :=
    same_of_keeps .cal (setF_keeps _ _ _ (by decide) (incSat_keeps _ _ _ (by decide) (setStage_keeps _ _ _ (by decide) (by decide)
      (stopForward_keeps _ (by decide) (by decide) Keeps.same))))
  rw [recalOn_congr hcal, recalOn_portQuiet]

theorem pState_portDown (s : State) (p : Nat) {st : Nat} (h : st < 16) : pState (portDown s p st) p = st := by
  cases hup : portUp s p with
  | false => rw [portDown_notUp hup, pState_setStage _ _ h]
  | true => rw [(portDown_up hup st).pState, pState_downShown _ _ h]

end Sys2Proof.Machine
end

section
/-! PROOF. Bring-up of a chain port: its stages, the attempts that fail, their back-offs, and the loss of an UP port (R281 to R288). -/

namespace Sys2Proof.Machine

/-! ### The search for a partner (R281), and the training sets (R280, R283) -/

theorem sendSets_keepsPort (s : State) (p : Nat) : pState (sendSets s p) p = pState s p ∧ port (sendSets s p) p = port s p := by
  unfold sendSets
  split <;> exact ⟨rfl, rfl⟩

theorem pState_receiverDetect {s : State} {p found : Nat} (hst : pState s p = pDetect) (h : 4 ≤ found) :
    pState (receiverDetect s p found) p = pCdr := by
  rw [receiverDetect, if_neg (not_not.2 hst), if_pos h, (sendSets_keepsPort _ _).1, pState_setStage _ _ (by decide)]

theorem receiverDetect_absent {s : State} {p found : Nat} (hst : pState s p = pDetect) (h : found < 4) :
    receiverDetect s p found = setF s (F.LNK_PSTAT_CODE p) Status.linkAbsent.code := by
  rw [receiverDetect, if_neg (not_not.2 hst), if_neg (by omega)]

/-- One lane's training set is read (R280). -/
def setRead (s : State) (p i : Nat) (b : Bytes) : State :=
  setF (setPort s p { (port s p).setLane i { (port s p).lane i with txPreset := byteAt b 6 % 8 } with nonce := beAt b 4 2 })
    (F.LNK_PSTAT_PMODE p) (byteAt b 3)

theorem readSets_eq (s : State) (p : Nat) (sets : List Bytes) : readSets s p sets =
    (List.range 5).foldl (fun t i => if setOk (sets.getD i []) then setRead t p i (sets.getD i []) else t) s := rfl

/-- The reading of training sets leaves the stage of the port, its trial and its failed lanes. -/
structure SetsFrame (s t : State) (p : Nat) : Prop where
  stage : pState t p = pState s p
  trial : (port t p).trial = (port s p).trial
  bad : (port t p).bad = (port s p).bad
  out : t.out = s.out

theorem SetsFrame.trans {s t u : State} {p : Nat} (h : SetsFrame s t p) (k : SetsFrame t u p) : SetsFrame s u p :=
  ⟨k.stage.trans h.stage, k.trial.trans h.trial, k.bad.trans h.bad, k.out.trans h.out⟩

theorem setRead_frame (s : State) (p i : Nat) (b : Bytes) : SetsFrame s (setRead s p i b) p where
  stage := by rw [pState, setRead, getF_setF_beside _ (F.LNK_PSTAT_PMODE p) (F.LNK_PSTAT_STATE p) _ rfl rfl rfl, getF_setPort, pState]
  trial := by rw [setRead, port_setF, port_setPort_same, PortSt.setLane]
  bad := by rw [setRead, port_setF, port_setPort_same, PortSt.setLane]
  out := by rw [setRead, setF_out, out_setPort]

theorem readSets_frame (s : State) (p : Nat) (sets : List Bytes) : SetsFrame s (readSets s p sets) p := by
  rw [readSets_eq]
  refine List.foldlRecOn (motive := fun t => SetsFrame s t p) _ _ ⟨rfl, rfl, rfl, rfl⟩ fun t ht i _ => ?_
  split
  · exact ht.trans (setRead_frame t p i _)
  · exact ht

theorem countLanes_frame (s : State) (p : Nat) (cv disp : List Nat) : (countLanes s p cv disp).lnk = s.lnk ∧
    (countLanes s p cv disp).out = s.out ∧ RegsBut OutsidePorts s (countLanes s p cv disp) := by
  have hkeeps := countLanes_keeps (W0 := [.regs]) s p cv disp (by decide) Keeps.same
  exact ⟨hkeeps.2.2 .lnk (by decide), hkeeps.2.2 .out (by decide), countLanes_regs s p cv disp outsidePorts_lcv RegsBut.same⟩

/-- The sets that came last are read, with the errors in them (R283, R298). -/
def setsRead (s : State) (p : Nat) (cv disp : List Nat) (sets : List Bytes) : State := readSets (countLanes s p cv disp) p sets

theorem setsRead_frame (s : State) (p : Nat) (cv disp : List Nat) (sets : List Bytes) : SetsFrame s (setsRead s p cv disp sets) p := by
  obtain ⟨hlnk, hout, hregs⟩ := countLanes_frame s p cv disp
  obtain ⟨hstage, htrial, hbad, hsets⟩ := readSets_frame (countLanes s p cv disp) p sets
  have hport := port_congr hlnk p
  exact ⟨hstage.trans (hregs.getF_port (pState_inPorts p)), htrial.trans (congrArg PortSt.trial hport),
    hbad.trans (congrArg PortSt.bad hport), hsets.trans hout⟩

/-- A lane after a preset trial: its best preset so far, and the preset it asks for next. -/
def trialLane (x : PortSt) (o : TrialObs) (l : Nat) : LaneSt :=
  let y := x.lane l
  let e := o.eyes.getD l 0
  let y := if x.trial = 0 ∨ y.bestEye < e then { y with bestEye := e, bestPreset := x.trial } else y
  { y with preq := if x.trial = 7 then y.bestPreset else x.trial + 1 }

theorem presetTrial_eq {s : State} {p : Nat} (o : TrialObs) (hst : pState s p = pCdr) (htrial : (port s p).trial < 8) :
    presetTrial s p o = sendSets (setPort (setsRead s p o.cv o.disp o.sets) p { port (setsRead s p o.cv o.disp o.sets) p with
      trial := (port (setsRead s p o.cv o.disp o.sets) p).trial + 1
      lanes := (List.range 5).map (trialLane (port (setsRead s p o.cv o.disp o.sets) p) o) }) p :=
  if_neg (by rw [hst]; omega)

/-- A preset trial ends (R283): the next preset is asked for on every lane. -/
theorem presetTrial_effect {s : State} {p : Nat} (o : TrialObs) (hst : pState s p = pCdr) (htrial : (port s p).trial < 8) :
    (port (presetTrial s p o) p).trial = (port s p).trial + 1 ∧
      ((port s p).trial < 7 → ∀ l, l < 5 → ((port (presetTrial s p o) p).lane l).preq = (port s p).trial + 1) := by
  have hread := (setsRead_frame s p o.cv o.disp o.sets).trial
  rw [presetTrial_eq o hst htrial, (sendSets_keepsPort _ p).2, port_setPort_same]
  refine ⟨congrArg (· + 1) hread, fun h l hl => ?_⟩
  rw [lane_of_lanes hl rfl, trialLane, ← hread]
  exact if_neg (by omega)

/-! ### Stages met (R281, R282) -/

theorem stageDone_training {s : State} {p : Nat} (o : StageObs) (hlo : pCdr ≤ pState s p) (hhi : pState s p ≤ pConfirm) :
    stageDone s p o = sendSets (stagePass (setsRead s p o.cv o.disp o.sets) p o) p := by
  have hstage := (setsRead_frame s p o.cv o.disp o.sets).stage
  have htraining : pCdr ≤ pState s p ∧ pState s p ≤ pConfirm := ⟨hlo, hhi⟩
  have hnotFec : pState (setsRead s p o.cv o.disp o.sets) p ≠ pFec := by
    rw [hstage]
    unfold pConfirm at hhi
    unfold pFec
    omega
  simp only [stageDone, htraining, and_self, if_true]
  exact if_neg hnotFec

/-- A stage before FEC is met on the lanes that passed before. -/
theorem passMask_setsRead (s : State) (p : Nat) (o : StageObs) :
    passMask (port (setsRead s p o.cv o.disp o.sets) p) o.lanes = passMask (port s p) o.lanes := by
  rw [passMask, passMask, (setsRead_frame s p o.cv o.disp o.sets).bad]

theorem pState_stageDone_comma {s : State} {p : Nat} {o : StageObs} (hst : pState s p = pComma)
    (h : 4 ≤ maskCount (passMask (port s p) o.lanes)) : pState (stageDone s p o) p = pPolarity := by
  have hstage := (setsRead_frame s p o.cv o.disp o.sets).stage.trans hst
  rw [stageDone_training o (by rw [hst]; decide) (by rw [hst]; decide), (sendSets_keepsPort _ p).1, stagePass, hstage,
    if_neg (by decide), if_pos rfl, passMask_setsRead, if_pos h, pState_setStage _ _ (by decide)]

theorem stagePass_confirm {s : State} {p : Nat} (o : StageObs) (hst : pState s p = pConfirm) :
    stagePass s p o = emit (setStage (setPort s p { port s p with
      seeded := upNs s, rxScr := none, rsd := false, okRun := 0, copy := 0, fill := 8 }) p pFec) (.block p 2) := by
  simp only [stagePass, hst]
  rfl

theorem stageDone_confirm {s : State} {p : Nat} {o : StageObs} (hst : pState s p = pConfirm) :
    pState (stageDone s p o) p = pFec ∧ (stageDone s p o).out = s.out ++ [.block p 2] := by
  obtain ⟨hstage, _, _, hout⟩ := setsRead_frame s p o.cv o.disp o.sets
  rw [stageDone_training o (by rw [hst]; decide) hst.le, stagePass_confirm o (hstage.trans hst)]
  have hfec (u : State) : pState (emit (setStage u p pFec) (.block p 2)) p = pFec := by
    rw [pState_emit, pState_setStage _ _ (by decide)]
  rw [sendSets, if_neg (by rw [hfec]; decide), hfec, out_emit, out_setStage, out_setPort, hout]
  exact ⟨rfl, rfl⟩

/-! ### UP (R282) -/

theorem stageDone_fec {s : State} {p : Nat} (o : StageObs) (hst : pState s p = pFec) (hrsd : (port s p).rsd = true)
    (hok : 4 ≤ (port s p).okRun) : stageDone s p o = chainUp s p o := by
  have hlate : ¬pFec ≤ pConfirm := by decide
  simp only [stageDone, hst, hlate, hrsd, hok, and_false, and_self, if_true, if_false]

/-- The lanes of a port start their adaptation, the partner of the attempt being known from now on. -/
def lanesStarted (s : State) (p : Nat) (o : StageObs) : State :=
  (List.range 5).foldl (fun s l => startLane s p l (o.eyes.getD l (0, 0))) (setPort s p { port s p with
    partner := some (port s p).nonce, fails := 0, errRun := 0, lost := 0, steer := none, steerDue := false })

/-- UP is shown and counted. -/
def upShown (s : State) (p : Nat) (o : StageObs) : State :=
  incSat (preqRestart (setStage (lanesStarted s p o) p pUp) p) (F.LNK_PCNT_UPS p)

/-- A lane spared in bring-up is asked for. -/
def upSteered (s : State) (p : Nat) (o : StageObs) : State :=
  if isSet (upShown s p o) (F.LNK_PMAP_SPARED p) then
    steerFor (upShown s p o) p (getF (upShown s p o) (F.LNK_PMAP_SPAREFOR p)) else upShown s p o

theorem partner_setLane (x : PortSt) (l : Nat) (y : LaneSt) : (x.setLane l y).partner = x.partner := rfl

theorem partner_startLane (s : State) (p l : Nat) (eye : Nat × Nat) : (port (startLane s p l eye) p).partner = (port s p).partner := by
  unfold startLane
  dsimp only
  split
  · rw [port_setF, port_setF, port_setF, port_setPort_same, partner_setLane]
  · rw [port_setPort_same, partner_setLane]

theorem partner_lanesStarted (s : State) (p : Nat) (o : StageObs) :
    (port (lanesStarted s p o) p).partner = some (port s p).nonce := by
  refine List.foldlRecOn (motive := fun t => (port t p).partner = some (port s p).nonce) _ _ ?_ fun t ht l _ => ?_
  · rw [port_setPort_same]
  · rw [partner_startLane, ht]

theorem lanesStarted_regs (s : State) (p : Nat) (o : StageObs) : RegsBut OutsidePorts s (lanesStarted s p o) :=
  RegsBut.foldl (fun t l ht => startLane_regs t p l _ outsidePorts_lqual ht) (setPort_regs s p _ RegsBut.same)

theorem upShown_effect (s : State) (p : Nat) (o : StageObs) : pState (upShown s p o) p = pUp ∧
    (port (upShown s p o) p).partner = some (port s p).nonce ∧
    getF (upShown s p o) (F.LNK_PCNT_UPS p) = satAdd (F.LNK_PCNT_UPS p).top (getF s (F.LNK_PCNT_UPS p)) 1 := by
  have hups : getF (lanesStarted s p o) (F.LNK_PCNT_UPS p) = getF s (F.LNK_PCNT_UPS p) :=
    (lanesStarted_regs s p o).getF_port (Fld.inPorts_at rfl (by decide))
  have hstage (f : Fld) : getF (preqRestart (setStage (lanesStarted s p o) p pUp) p) f =
    getF (setStage (lanesStarted s p o) p pUp) f := rfl
  have hport : port (preqRestart (setStage (lanesStarted s p o) p pUp) p) p = port (setStage (lanesStarted s p o) p pUp) p := rfl
  refine ⟨?stage, ?partner, ?count⟩
  case stage =>
    rw [upShown, pState, getF_incSat_ne _ _ _ _ (portOff_ne (by decide) _ _), hstage]
    exact pState_setStage _ _ (by decide)
  case partner => rw [upShown, port_incSat, hport, port_setStage, partner_lanesStarted]
  case count => rw [upShown, getF_incSat_read _ _ _ rfl, hstage, getF_setStage _ _ _ (portOff_ne (by decide) _ _), hups]

theorem steerSend_frame (s : State) (p n : Nat) : (steerSend s p n).regs = s.regs ∧
    (port (steerSend s p n) p).partner = (port s p).partner ∧ (port (steerSend s p n) p).lost = (port s p).lost := by
  unfold steerSend
  dsimp only
  split <;> refine ⟨rfl, ?_, ?_⟩ <;> simp only [port_emit, port_setPort_same]

/-- A steer request writes LNK_PMAP alone. -/
theorem steerFor_frame (s : State) (p n : Nat) : RegsBut (fun o => o = R.LNK_PMAP p) s (steerFor s p n) ∧
    (port (steerFor s p n) p).partner = (port s p).partner := by
  obtain ⟨hregs, hpartner, _⟩ := steerSend_frame (setF s (F.LNK_PMAP_PANSRC p) n) p n
  exact ⟨.of_regs hregs (setF_regs _ _ _ rfl RegsBut.same), hpartner⟩

theorem upSteered_frame (s : State) (p : Nat) (o : StageObs) :
    RegsBut (fun off => off = R.LNK_PMAP p) (upShown s p o) (upSteered s p o) ∧
      (port (upSteered s p o) p).partner = (port (upShown s p o) p).partner := by
  unfold upSteered
  split
  · exact steerFor_frame _ _ _
  · exact ⟨RegsBut.same, rfl⟩

theorem setIf_newPartner_frame (new : Bool) (s : State) (p : Nat) :
    pState (setIf new s (F.LNK_PSTAT_NEWPART p) 1) p = pState s p ∧
      getF (setIf new s (F.LNK_PSTAT_NEWPART p) 1) (F.LNK_PCNT_UPS p) = getF s (F.LNK_PCNT_UPS p) := by
  cases new with
  | false => exact ⟨rfl, rfl⟩
  | true => exact ⟨getF_setF_beside s (F.LNK_PSTAT_NEWPART p) (F.LNK_PSTAT_STATE p) 1 rfl rfl rfl,
      getF_setF_ne s (F.LNK_PSTAT_NEWPART p) (F.LNK_PCNT_UPS p) 1 (portOff_ne (by decide) _ _)⟩

theorem chainUp_ends (s : State) (p : Nat) (o : StageObs) : ∃ (new : Bool) (det : Bytes),
    chainUp s p o = sendHeld (raise (setIf new (upSteered s p o) (F.LNK_PSTAT_NEWPART p) 1) 0x0E01 det) :=
  ⟨(port s p).partner != some (port s p).nonce, _, rfl⟩

theorem chainUp_effect (s : State) (p : Nat) (o : StageObs) : pState (chainUp s p o) p = pUp ∧
    (port (chainUp s p o) p).partner = some (port s p).nonce ∧
    getF (chainUp s p o) (F.LNK_PCNT_UPS p) = satAdd (F.LNK_PCNT_UPS p).top (getF s (F.LNK_PCNT_UPS p)) 1 := by
  obtain ⟨new, det, h⟩ := chainUp_ends s p o
  obtain ⟨hstage, hpartner, hcount⟩ := upShown_effect s p o
  obtain ⟨hregs, hsteered⟩ := upSteered_frame s p o
  obtain ⟨hnewStage, hnewCount⟩ := setIf_newPartner_frame new (upSteered s p o) p
  have hsame := (raise_lnkSame (setIf new (upSteered s p o) (F.LNK_PSTAT_NEWPART p) 1) 0x0E01 det).trans (sendHeld_lnkSame _)
  rw [← h] at hsame
  refine ⟨?stage, ?partner, ?count⟩
  case stage =>
    rw [hsame.pState, hnewStage, ← hstage]
    exact getF_of_regs (hregs.mono fun o ho => ho ▸ portOff_ne (by decide) _ _)
  case partner => rw [hsame.port, port_congr (setIf_lnk _ _ _ _), hsteered, hpartner]
  case count =>
    rw [hsame.getF (Fld.inPorts_at rfl (by decide)).inLnk, hnewCount, ← hcount]
    exact getF_of_regs (hregs.mono fun o ho => ho ▸ portOff_ne (by decide) _ _)

/-! ### Failed attempts and their back-offs (R286, R287) -/

/-- The back-off that a free value gives to an attempt's failure: its base and up to half as long again. -/
def backoffFor (n r : Nat) : Nat := backoffNs n + backoffNs n * (r % 500001) / 1000000

theorem backoffFor_bounds (n r : Nat) : backoffNs n ≤ backoffFor n r ∧ 2 * backoffFor n r ≤ 3 * backoffNs n := by
  have hfree : backoffNs n * (r % 500001) ≤ backoffNs n * 500000 := Nat.mul_le_mul_left _ (by omega)
  unfold backoffFor
  omega

/-- An attempt's failure is recorded and shown (R286). -/
def failShown (s : State) (p : Nat) (c : Status) : State :=
  setF (setF (setPort (drawNat s).2 p { port s p with
      fails := (port s p).fails + 1, wake := upNs s + backoffFor ((port s p).fails + 1) (drawNat s).1 })
    (F.LNK_PSTAT_FAILSTAGE p) (pState s p)) (F.LNK_PSTAT_CODE p) c.code

/-- The failure is counted and the receivers stop. -/
def failCounted (s : State) (p : Nat) (c : Status) : State := lanesDark (incSat (failShown s p c) (F.LNK_PCNT_FAILS p)) p

theorem attemptFail_eq (s : State) (p : Nat) (c : Status) :
    attemptFail s p c = emit (setStage (failCounted s p c) p pBackoff) (.idleTx p) := by
  simp only [attemptFail, failCounted, failShown, backoffFor, ← Nat.add_assoc]
  rfl

theorem getF_failShown (s : State) (p : Nat) (c : Status) : getF (failShown s p c) (F.LNK_PSTAT_FAILSTAGE p) = pState s p ∧
    getF (failShown s p c) (F.LNK_PSTAT_CODE p) = c.code :=
  ⟨(getF_setF_beside _ (F.LNK_PSTAT_CODE p) (F.LNK_PSTAT_FAILSTAGE p) _ rfl rfl rfl).trans (getF_setF_read _ _ (getF_lt s _) rfl),
    getF_setF_read _ _ (Status.code_lt c) rfl⟩

theorem port_failCounted (s : State) (p : Nat) (c : Status) : port (failCounted s p c) p = { port s p with
    fails := (port s p).fails + 1, wake := upNs s + backoffFor ((port s p).fails + 1) (drawNat s).1 } := by
  rw [failCounted, port_congr (lanesDark_frame _ p).1, port_incSat, failShown, port_setF, port_setF, port_setPort_same]

theorem getF_failCounted (s : State) (p : Nat) (c : Status) {f : Fld} (h : f.off = R.LNK_PSTAT p) :
    getF (failCounted s p c) f = getF (failShown s p c) f := by
  rw [failCounted, (lanesDark_frame _ p).2.2.getF_port (Fld.inPorts_at h (by decide)),
    getF_incSat_ne _ _ _ _ (h ▸ portOff_ne (by decide) _ _)]

theorem attemptFail_effect (s : State) (p : Nat) (c : Status) : pState (attemptFail s p c) p = pBackoff ∧
    getF (attemptFail s p c) (F.LNK_PSTAT_FAILSTAGE p) = pState s p ∧ getF (attemptFail s p c) (F.LNK_PSTAT_CODE p) = c.code ∧
    (port (attemptFail s p c) p).fails = (port s p).fails + 1 ∧
    (port (attemptFail s p c) p).wake = upNs s + backoffFor ((port s p).fails + 1) (drawNat s).1 := by
  obtain ⟨hstage, hcode⟩ := getF_failShown s p c
  rw [attemptFail_eq, pState_emit, port_emit, port_setStage, port_failCounted, getF_emit, getF_emit]
  refine ⟨pState_setStage _ _ (by decide), ?_, ?_, rfl, rfl⟩
  · rw [setStage, getF_setF_beside _ (F.LNK_PSTAT_STATE p) (F.LNK_PSTAT_FAILSTAGE p) _ rfl rfl rfl, getF_setPort,
      getF_failCounted _ _ _ rfl, hstage]
  · rw [setStage, getF_setF_beside _ (F.LNK_PSTAT_STATE p) (F.LNK_PSTAT_CODE p) _ rfl rfl rfl, getF_setPort,
      getF_failCounted _ _ _ rfl, hcode]

theorem attemptCode_eq {s : State} {x : AttemptEnd} (h : 2 ≤ pState s x.port) : attemptCode s x =
    if x.los = false ∧ pState s x.port ≤ pPolarity ∧ maskCount (passMask (port s x.port) x.lanes) ≤ 3 then .noResource
    else .linkAbsent := by
  have hcdr : pCdr ≤ pState s x.port := h
  simp [attemptCode, hcdr]

theorem pState_toDetect (s : State) (p : Nat) : pState (toDetect s p) p = pDetect := pState_setStage _ _ (by decide)

/-! ### The loss of an UP port (R288) -/

theorem portDown_up_effect {s : State} {p : Nat} (h : portUp s p = true) (st : Nat) :
    getF (portDown s p st) (F.LNK_PCNT_DOWNS p) = satAdd (F.LNK_PCNT_DOWNS p).top (getF s (F.LNK_PCNT_DOWNS p)) 1 ∧
      getF (portDown s p st) (F.LNK_PSTAT_CODE p) = Status.linkAbsent.code ∧ recalOn (portDown s p st) p = none := by
  have hsame := portDown_up h st
  exact ⟨(hsame.getF (Fld.inPorts_at rfl (by decide)).inLnk).trans (getF_downShown_downs s p st),
    (hsame.getF (Fld.inPorts_at rfl (by decide)).inLnk).trans (getF_downShown_code s p st),
    (recalOn_congr hsame.cal p).trans (recalOn_downShown s p st)⟩

/-! ### The commands -/

theorem exec_linkAttemptFail {x : AttemptEnd} {s : State} (hlive : portLive (advance x.dt s) x.port = true)
    (hlo : 2 ≤ pState (advance x.dt s) x.port) (hhi : pState (advance x.dt s) x.port ≤ 9)
    (hend : x.los = true ∨ (port (advance x.dt s) x.port).since + stageLimit (pState (advance x.dt s) x.port) ≤ upNs (advance x.dt s)) :
    exec (.linkAttemptFail x) s = .next (attemptFail (advance x.dt s) x.port (attemptCode (advance x.dt s) x)) :=
  congrArg Host.Outcome.next (if_pos (by simp [hlive, hlo, hhi, hend]))

theorem exec_linkBackoffEnd {dt p : Nat} {s : State} (hlive : portLive (advance dt s) p = true)
    (hst : pState (advance dt s) p = pBackoff) (hwake : (port (advance dt s) p).wake ≤ upNs (advance dt s)) :
    exec (.linkBackoffEnd dt p) s = .next (toDetect (advance dt s) p) :=
  congrArg Host.Outcome.next (if_pos (by simp [hlive, hst, hwake]))

theorem exec_chainDown {p : Nat} {s : State} (hlive : portLive s p = true) (hup : portUp s p = true) :
    exec (.chainDown p) s = .next (portDown s p) := congrArg Host.Outcome.next (if_pos (by simp [hlive, hup]))

/-- Settles O34, command by command. -/
theorem portBringUp : Obligations.PortBringUp := by
  unfold Obligations.PortBringUp
  refine ⟨?detect, ?trial, ?stage, ?fail, ?backoff, ?down⟩
  case detect =>
    intro dt p found s ⟨_, hlive⟩ hst
    refine ⟨_, next_of_live hlive _, pState_receiverDetect hst, fun h => ?_⟩
    rw [receiverDetect_absent hst h, pState, getF_setF_beside _ (F.LNK_PSTAT_CODE p) (F.LNK_PSTAT_STATE p) _ rfl rfl rfl]
    exact ⟨hst, getF_setF_read _ _ (Status.code_lt _) rfl⟩
  case trial =>
    intro p eyes sets cv disp s ⟨_, hlive⟩ hst htrial
    exact ⟨_, next_of_live hlive _, presetTrial_effect _ hst htrial⟩
  case stage =>
    intro p o s ⟨_, hlive⟩
    refine ⟨_, next_of_live hlive _, pState_stageDone_comma, stageDone_confirm, fun hst hrsd hok => ?_⟩
    rw [stageDone_fec o hst hrsd hok]
    exact chainUp_effect s p o
  case fail =>
    intro dt p los lanes s ⟨_, hlive⟩ hlo hhi hend
    obtain ⟨hstage, hfail, hcode, hfails, hwake⟩ :=
      attemptFail_effect (advance dt s) p (attemptCode (advance dt s) ⟨dt, p, los, lanes⟩)
    obtain ⟨hbase, hlimit⟩ := backoffFor_bounds ((port (advance dt s) p).fails + 1) (drawNat (advance dt s)).1
    refine ⟨_, exec_linkAttemptFail (x := ⟨dt, p, los, lanes⟩) hlive hlo hhi hend, hstage, hfail, ?_, hfails, ?_, ?_⟩
    · rw [hcode, attemptCode_eq (x := ⟨dt, p, los, lanes⟩) hlo]
    · rw [hwake]
      omega
    · rw [hwake]
      omega
  case backoff =>
    intro dt p s ⟨_, hlive⟩ hst hwake
    exact ⟨_, exec_linkBackoffEnd hlive hst hwake, pState_toDetect _ _⟩
  case down =>
    intro p s ⟨_, hlive⟩ hup
    exact ⟨_, exec_chainDown hlive hup, pState_portDown _ _ (by decide), portDown_up_effect hup pDetect⟩

end Sys2Proof.Machine
end

section
/-! PROOF. Control of a chain port: what writes of LNK_PCTL and LNK_LCTL set in motion (R300, R303, R307). -/

namespace Sys2Proof.Machine

/-! ### What a field reads after a write of its register (R3) -/

/-- The fields of a register, in the order of their bits, do not overlap. -/
abbrev FieldsApart (l : List FieldRow) : Prop := l.Pairwise fun f g => f.lo + f.width ≤ g.lo

/-- The word of a register after some of its fields are written. -/
def storeFields (l : List FieldRow) (old v w : Nat) : Nat :=
  l.foldl (fun w f => putBits w f.lo f.width (f.acc.store (bits old f.lo f.width) (bits v f.lo f.width))) w

theorem bits_storeFields_before {l : List FieldRow} {x : FieldRow} (h : ∀ g ∈ l, x.lo + x.width ≤ g.lo) (old v w : Nat) :
    bits (storeFields l old v w) x.lo x.width = bits w x.lo x.width := by
  induction l generalizing w with
  | nil => rfl
  | cons f l ih =>
    rw [storeFields, List.foldl_cons, ← storeFields, ih (fun g hg => h g (List.mem_cons_of_mem _ hg)),
      bits_putBits_apart _ _ _ _ _ _ (.inr (h f List.mem_cons_self))]

theorem bits_storeFields {l : List FieldRow} {x : FieldRow} (hl : FieldsApart l) (hx : x ∈ l) (hrw : x.acc = .rw) (old v w : Nat) :
    bits (storeFields l old v w) x.lo x.width = bits v x.lo x.width := by
  induction l generalizing w with
  | nil => cases hx
  | cons f l ih =>
    obtain ⟨hf, hrest⟩ := List.pairwise_cons.1 hl
    rw [storeFields, List.foldl_cons, ← storeFields]
    rcases List.mem_cons.1 hx with rfl | hmem
    · rw [bits_storeFields_before hf, hrw, bits_putBits_same]
      exact Nat.mod_eq_of_lt (Nat.mod_lt _ (Nat.two_pow_pos _))
    · exact ih hrest hmem _

/-- An accepted write of a register is read back in its RW fields. -/
theorem getF_storeReg_rw {off : Nat} {r : RegRow} (hr : regAt off = some r) (hn : r.fields.any (fun f => f.acc == .rws) = false)
    (hl : FieldsApart r.fields) {f : Fld} {x : FieldRow} (hx : x ∈ r.fields) (hrw : x.acc = .rw) (hf : f = ⟨off, x.lo, x.width⟩)
    (hw : x.lo + x.width ≤ 32) (s : State) (v : Word) : getF (storeReg s off v) f = f.get v := by
  subst hf
  rw [storeReg_of_row hr hn, getF, word_setWord_same, Fld.get, Fld.get, RegRow.store, BitVec.toNat_ofNat, bits_mod32 _ _ _ hw,
    ← storeFields, bits_storeFields hl hx hrw]

/-- A field of a word is written and read back. -/
theorem get_put_read (f : Fld) (w : Word) {v : Nat} (hv : v < 2 ^ f.width) (hf : decide (f.lo + f.width ≤ 32) = true) :
    f.get (f.put w v) = v := (get_put_same f w v (of_decide_eq_true hf)).trans (Nat.mod_eq_of_lt hv)

theorem get_put_beside (f g : Fld) (w : Word) (v : Nat) (hg : decide (g.lo + g.width ≤ 32) = true)
    (h : (decide (f.lo + f.width ≤ g.lo) || decide (g.lo + g.width ≤ f.lo)) = true) : g.get (f.put w v) = g.get w :=
  get_put_apart f g w v (of_decide_eq_true hg) (by simpa using h)

/-! ### LNK_PCTL and LNK_LCTL (R303, R307) -/

/-- The row of LNK_PCTL in the register map. -/
def lnkPctlRow : RegRow := ⟨"LNK_PCTL", 0xe0100, 4, 0x40, 1, 4, false,
  [⟨"EN", 0, 1, .rw, 0, []⟩, ⟨"RETRAIN", 1, 1, .wo, 0, []⟩, ⟨"TEST", 2, 1, .rw, 0, []⟩, ⟨"Reserved", 3, 5, .rsv, 0, []⟩,
    ⟨"PRESET", 8, 3, .rw, 3, []⟩, ⟨"Reserved", 11, 21, .rsv, 0, []⟩]⟩

/-- The row of LNK_LCTL in the register map. -/
def lnkLctlRow : RegRow := ⟨"LNK_LCTL", 0xe1000, 20, 0x20, 1, 4, false,
  [⟨"GEN", 0, 2, .rw, 0, [(3, 3, .illegalValue)]⟩, ⟨"CHK", 2, 2, .rw, 0, [(3, 3, .illegalValue)]⟩, ⟨"INJ", 4, 1, .wo, 0, []⟩,
    ⟨"INJRATE", 5, 3, .rw, 0, []⟩, ⟨"NELB", 8, 1, .rw, 0, []⟩, ⟨"FELB", 9, 1, .rw, 0, []⟩, ⟨"Reserved", 10, 22, .rsv, 0, []⟩]⟩

theorem regAt_lnkPctl (p : Nat) : regAt (R.LNK_PCTL p) = some lnkPctlRow := by
  have hp : p % 4 < 4 := Nat.mod_lt _ (by decide)
  unfold R.LNK_PCTL
  generalize p % 4 = k at hp
  interval_cases k <;> rfl

theorem regAt_lnkLctl (i : Nat) : regAt (R.LNK_LCTL i) = some lnkLctlRow := by
  have hi : i % 20 < 20 := Nat.mod_lt _ (by decide)
  unfold R.LNK_LCTL
  generalize i % 20 = k at hi
  interval_cases k <;> rfl

section
variable (s : State) (p i : Nat) (v : Word)

theorem getF_storeReg_portEn : getF (storeReg s (R.LNK_PCTL p) v) (F.LNK_PCTL_EN p) = (F.LNK_PCTL_EN p).get v :=
  getF_storeReg_rw (regAt_lnkPctl p) (by decide) (by decide) (x := ⟨"EN", 0, 1, .rw, 0, []⟩) (by decide) rfl rfl (by decide) s v

theorem getF_storeReg_portTest : getF (storeReg s (R.LNK_PCTL p) v) (F.LNK_PCTL_TEST p) = (F.LNK_PCTL_TEST p).get v :=
  getF_storeReg_rw (regAt_lnkPctl p) (by decide) (by decide) (x := ⟨"TEST", 2, 1, .rw, 0, []⟩) (by decide) rfl rfl (by decide) s v

theorem getF_storeReg_portPreset : getF (storeReg s (R.LNK_PCTL p) v) (F.LNK_PCTL_PRESET p) = (F.LNK_PCTL_PRESET p).get v :=
  getF_storeReg_rw (regAt_lnkPctl p) (by decide) (by decide) (x := ⟨"PRESET", 8, 3, .rw, 3, []⟩) (by decide) rfl rfl (by decide) s v

theorem getF_storeReg_laneGen : getF (storeReg s (R.LNK_LCTL i) v) (F.LNK_LCTL_GEN i) = (F.LNK_LCTL_GEN i).get v :=
  getF_storeReg_rw (regAt_lnkLctl i) (by decide) (by decide) (x := ⟨"GEN", 0, 2, .rw, 0, [(3, 3, .illegalValue)]⟩) (by decide) rfl
    rfl (by decide) s v

theorem getF_storeReg_laneChk : getF (storeReg s (R.LNK_LCTL i) v) (F.LNK_LCTL_CHK i) = (F.LNK_LCTL_CHK i).get v :=
  getF_storeReg_rw (regAt_lnkLctl i) (by decide) (by decide) (x := ⟨"CHK", 2, 2, .rw, 0, [(3, 3, .illegalValue)]⟩) (by decide) rfl
    rfl (by decide) s v

theorem getF_storeReg_laneNelb : getF (storeReg s (R.LNK_LCTL i) v) (F.LNK_LCTL_NELB i) = (F.LNK_LCTL_NELB i).get v :=
  getF_storeReg_rw (regAt_lnkLctl i) (by decide) (by decide) (x := ⟨"NELB", 8, 1, .rw, 0, []⟩) (by decide) rfl rfl (by decide) s v

end

/-- An offset at or beyond the end of a group names none of it. -/
theorem regIdx_beyond {f : Nat → Nat} {n st off : Nat} (hst : f 1 - f 0 = st) (hpos : 0 < st) (h : n * st ≤ off - f 0) :
    regIdx f n off = none := by
  simp only [regIdx, hst]
  exact if_neg fun ⟨_, _, hlt⟩ => Nat.not_lt.2 ((Nat.le_div_iff_mul_le hpos).2 h) hlt

/-- An accepted write of LNK_PCTL stores its value and acts as EN, TEST and RETRAIN say. -/
theorem hostWrite_lnkPctl {s : State} {p : Nat} {v : Word} (hp : p < 4) (h : WriteOk s (R.LNK_PCTL p) v) :
    hostWrite s (R.LNK_PCTL p) v = portControl (storeReg s (R.LNK_PCTL p) v) p (isSet s (F.LNK_PCTL_EN p))
      (isSet s (F.LNK_PCTL_TEST p)) ((F.LNK_PCTL_RETRAIN p).get v == 1) := by
  have hoff : R.LNK_PCTL p = 0xE0100 + 0x40 * p := by rw [R.LNK_PCTL, Nat.mod_eq_of_lt hp]
  have hport : regIdx R.LNK_PCTL 4 (R.LNK_PCTL p) = some p :=
    regIdx_same (st := 0x40) rfl (by decide) hoff hp
  have hprbs : regIdx R.LNK_LPRBS 20 (R.LNK_PCTL p) = none :=
    regIdx_between (st := 0x20) 20 rfl (by simp only [hoff, R.LNK_LPRBS]; omega)
  have hlane : regIdx R.LNK_LCTL 20 (R.LNK_PCTL p) = none :=
    regIdx_between (st := 0x20) 20 rfl (by simp only [hoff, R.LNK_LCTL]; omega)
  rw [hostWrite_accepted (by omega) (by omega) h, regEffect_0e _ _ _ (by omega)]
  simp only [effectLnk, onReg, hport, hprbs, hlane]

/-- An accepted write of LNK_LCTL stores its value and sets what the lane does. -/
theorem hostWrite_lnkLctl {s : State} {i : Nat} {v : Word} (hi : i < 20) (h : WriteOk s (R.LNK_LCTL i) v) :
    hostWrite s (R.LNK_LCTL i) v = laneControl s (storeReg s (R.LNK_LCTL i) v) i ((F.LNK_LCTL_INJ i).get v == 1) := by
  have hoff : R.LNK_LCTL i = 0xE1000 + 0x20 * i := by rw [R.LNK_LCTL, Nat.mod_eq_of_lt hi]
  have hport : regIdx R.LNK_PCTL 4 (R.LNK_LCTL i) = none :=
    regIdx_beyond (st := 0x40) rfl (by decide) (by simp only [hoff, R.LNK_PCTL]; omega)
  have hprbs : regIdx R.LNK_LPRBS 20 (R.LNK_LCTL i) = none :=
    regIdx_between (st := 0x20) 20 rfl (by simp only [hoff, R.LNK_LPRBS]; omega)
  have hlane : regIdx R.LNK_LCTL 20 (R.LNK_LCTL i) = some i := regIdx_same (st := 0x20) rfl (by decide) hoff hi
  rw [hostWrite_accepted (by omega) (by omega) h, regEffect_0e _ _ _ (by omega)]
  simp only [effectLnk, onReg, hport, hprbs, hlane]

/-! ### What a port's control bits do (R303) -/

section
variable {s : State} {p : Nat} (wasEn wasTest retrain : Bool)

theorem portControl_off (hpwr : power s ≠ 3) (hen : getF s (F.LNK_PCTL_EN p) = 0) :
    portControl s p true wasTest retrain = portDown (if wasTest then lctlReset s p else s) p pOff := by
  simp [portControl, hpwr, isSet, hen]

theorem portControl_search (hpwr : power s ≠ 3) (hen : getF s (F.LNK_PCTL_EN p) = 1) (htest : getF s (F.LNK_PCTL_TEST p) = 0)
    (hwas : (wasEn && wasTest) = false) (hstart : (!wasEn || retrain) = true) :
    portControl s p wasEn wasTest retrain = toDetect (portDown s p) p := by
  simp [portControl, hpwr, isSet, hen, htest, hwas, hstart]

theorem portControl_test (hpwr : power s ≠ 3) (hen : getF s (F.LNK_PCTL_EN p) = 1) (htest : getF s (F.LNK_PCTL_TEST p) = 1) :
    portControl s p wasEn false retrain = portDown s p pTest := by
  simp [portControl, hpwr, isSet, hen, htest]

theorem portControl_testExit (hpwr : power s ≠ 3) (hen : getF s (F.LNK_PCTL_EN p) = 1) (htest : getF s (F.LNK_PCTL_TEST p) = 0) :
    portControl s p true true retrain = toDetect (lctlReset s p) p := by
  simp [portControl, hpwr, isSet, hen, htest]

end

theorem power_storeReg (s : State) {off : Nat} (v : Word) (h : F.THM_PWR_NOW.off ≠ off) : power (storeReg s off v) = power s := by
  rw [power, power, getF, getF, word_storeReg_ne s v h]

theorem power_storeReg_pctl {s : State} (h : power s ≠ 3) (p : Nat) (v : Word) : power (storeReg s (R.LNK_PCTL p) v) ≠ 3 := by
  rwa [power_storeReg _ _ (by simp only [R.LNK_PCTL]; omega)]

theorem lane_toDetect (s : State) (p : Nat) {l : Nat} (hl : l < 5) :
    ((port (toDetect s p) p).lane l).txPreset = getF s (F.LNK_PCTL_PRESET p) := by
  rw [toDetect, port_emit, port_setStage, port_setPort_same,
    lane_of_lanes hl (f := fun l => { (port s p).lane l with txPreset := getF s (F.LNK_PCTL_PRESET p) }) rfl]

/-- A port that leaves its state keeps its control bits. -/
theorem getF_portDown_pctl (s : State) (p st : Nat) {f : Fld} (h : f.off = R.LNK_PCTL p) : getF (portDown s p st) f = getF s f :=
  getF_of_regs (h ▸ portDown_regs s p st (fun k => by simp only [R.LNK_PCTL]; omega) (by simp only [R.LNK_PCTL, R.GLB_EVTOVF]; omega)
    (fun i => by simp only [R.LNK_PCTL, R.CHN_PERR]; omega) (fun i => portOff_ne (by decide) _ _) (fun i => portOff_ne (by decide) _ _)
    (fun i => portOff_ne (by decide) _ _) (fun i => by simp only [R.LNK_PCTL, R.LNK_LSTAT]; omega)
    (by simp only [R.LNK_PCTL, R.TAN_TSTAT]; omega) (by simp only [R.LNK_PCTL, R.CAL_STAT]; omega) RegsBut.same)

/-! ### A port leaves its test state -/

/-- A lane's LNK_LCTL returns to reset, the errors injected so far counted. -/
def laneCtlReset (s : State) (p l : Nat) : State :=
  let s := injSettle s (5 * p + l) (injCount s (5 * p + l)) false
  let x := port s p
  let s := setPort s p (x.setLane l { x.lane l with chk := none })
  setF (s.setWord (R.LNK_LCTL (5 * p + l)) (resetWord (R.LNK_LCTL (5 * p + l)))) (F.LNK_LSTAT_PRBSLOCK (5 * p + l)) 0

/-- LNK_LCTL of a lane reads its reset value. -/
def LctlIsReset (s : State) (i : Nat) : Prop := s.word (R.LNK_LCTL i) = resetWord (R.LNK_LCTL i)

theorem word_injSettle_lctl (s : State) (i n : Nat) (on : Bool) (j : Nat) :
    (injSettle s i n on).word (R.LNK_LCTL j) = s.word (R.LNK_LCTL j) := by
  rw [injSettle, word_setPort, incSat, word_setF_ne _ _ _ (laneOff_ne (by decide) _ _)]

theorem laneCtlReset_word (s : State) (p l j : Nat) : (laneCtlReset s p l).word (R.LNK_LCTL j) =
    if R.LNK_LCTL j = R.LNK_LCTL (5 * p + l) then resetWord (R.LNK_LCTL j) else s.word (R.LNK_LCTL j) := by
  rw [laneCtlReset, word_setF_ne _ _ _ (laneOff_ne (by decide) _ _)]
  split
  case isTrue h => rw [h, word_setWord_same]
  case isFalse h => rw [word_setWord_ne _ _ h, word_setPort, word_injSettle_lctl]

theorem laneCtlReset_isReset (s : State) (p l j : Nat) (h : R.LNK_LCTL j = R.LNK_LCTL (5 * p + l) ∨ LctlIsReset s j) :
    LctlIsReset (laneCtlReset s p l) j := by
  rw [LctlIsReset, laneCtlReset_word]
  split
  case isTrue => rfl
  case isFalse hne => exact h.resolve_left hne

theorem foldl_laneCtlReset_isReset {l : Nat} (p : Nat) (L : List Nat) (s : State) (h : l ∈ L ∨ LctlIsReset s (5 * p + l)) :
    LctlIsReset (L.foldl (fun t l => laneCtlReset t p l) s) (5 * p + l) := by
  induction L generalizing s with
  | nil => exact h.resolve_left (by simp)
  | cons m L ih =>
    refine ih _ ?_
    rcases h with h | h
    · rcases List.mem_cons.1 h with rfl | hmem
      · exact .inr (laneCtlReset_isReset s p l _ (.inl rfl))
      · exact .inl hmem
    · exact .inr (laneCtlReset_isReset s p m _ (.inr h))

theorem lctlReset_isReset (s : State) (p : Nat) {l : Nat} (hl : l < 5) : LctlIsReset (lctlReset s p) (5 * p + l) :=
  foldl_laneCtlReset_isReset p _ s (.inl (List.mem_range.2 hl))

theorem word_toDetect_lctl (s : State) (p i : Nat) : (toDetect s p).word (R.LNK_LCTL i) = s.word (R.LNK_LCTL i) :=
  word_setF_ne (setPort _ _ _) _ _ (by simp only [R.LNK_LCTL]; omega)

/-! ### Errors injected in TEST (R300) -/

theorem injCount_none {s : State} {i : Nat} (h : ((port s (i / 5)).lane (i % 5)).injFrom = none) : injCount s i = 0 := by
  rw [injCount, h]

theorem getF_injSettle_zero (s : State) (i : Nat) (on : Bool) :
    getF (injSettle s i 0 on) (F.LNK_LPRBS_ERR i) = getF s (F.LNK_LPRBS_ERR i) := by
  rw [injSettle, getF_setPort, getF_incSat_read _ _ _ rfl, satAdd, Nat.add_zero]
  exact Nat.min_eq_right (Nat.le_sub_one_of_lt (getF_lt s (F.LNK_LPRBS_ERR i)))

/-- A checker in near-end loopback is locked, and an injected error is one that it counts. -/
theorem laneControl_inject {s0 s : State} {i : Nat} (hst : pState s (i / 5) = pTest)
    (hnone : ((port s0 (i / 5)).lane (i % 5)).injFrom = none) (hloop : getF s (F.LNK_LCTL_NELB i) = 1)
    (hchk : getF s (F.LNK_LCTL_CHK i) ≠ 0) (hgen : getF s (F.LNK_LCTL_CHK i) = getF s (F.LNK_LCTL_GEN i)) :
    getF (laneControl s0 s i true) (F.LNK_LSTAT_PRBSLOCK i) = 1 ∧
      getF (laneControl s0 s i true) (F.LNK_LPRBS_ERR i) = satAdd (F.LNK_LPRBS_ERR i).top (getF s (F.LNK_LPRBS_ERR i)) 1 := by
  have hlocked : (isSet s (F.LNK_LCTL_NELB i) && getF s (F.LNK_LCTL_CHK i) != 0 &&
      getF s (F.LNK_LCTL_CHK i) == getF s (F.LNK_LCTL_GEN i)) = true := by
    simp [isSet, hloop, hchk, ← hgen]
  unfold laneControl
  dsimp only
  rw [if_neg (not_not.2 hst), if_pos rfl, hlocked, if_pos rfl, injCount_none hnone, Bool.true_or, getF_emit, getF_emit]
  refine ⟨?_, ?_⟩
  · rw [getF_incSat_ne _ _ _ _ (laneOff_ne (by decide) _ _), getF_emit, getF_setF_read _ _ (show b2n true < 2 from Nat.one_lt_two) rfl]
    rfl
  · rw [getF_incSat_read _ _ _ rfl, getF_emit, getF_setF_ne _ _ _ _ (laneOff_ne (by decide) _ _), getF_setPort, getF_injSettle_zero]

/-! ### The commands -/

theorem indexWrite_in {i n : Nat} (h : i < n) (s : State) (f : Fld) (x : Nat) (v : Word) :
    indexWrite s i n f x v = .next (hostWrite s f.off (f.put v x)) := by rw [indexWrite, if_pos h]

/-- A port enabled, or retrained, looks for its partner with the preset written. -/
theorem hostWrite_search {s : State} {p : Nat} {v : Word} (hp : p < 4) (hpwr : power s ≠ 3) (h : WriteOk s (R.LNK_PCTL p) v)
    (hen : (F.LNK_PCTL_EN p).get v = 1) (htest : (F.LNK_PCTL_TEST p).get v = 0)
    (hwas : getF s (F.LNK_PCTL_EN p) = 0 ∨ getF s (F.LNK_PCTL_TEST p) = 0)
    (hstart : getF s (F.LNK_PCTL_EN p) = 0 ∨ (F.LNK_PCTL_RETRAIN p).get v = 1) :
    hostWrite s (R.LNK_PCTL p) v = toDetect (portDown (storeReg s (R.LNK_PCTL p) v) p) p := by
  rw [hostWrite_lnkPctl hp h]
  refine portControl_search _ _ _ (power_storeReg_pctl hpwr p v) ((getF_storeReg_portEn s p v).trans hen)
    ((getF_storeReg_portTest s p v).trans htest) ?_ ?_
  · rcases hwas with h | h <;> simp [isSet, h]
  · rcases hstart with h | h <;> simp [isSet, h]

end Sys2Proof.Machine

namespace Sys2Proof
open Machine

/-- Settles O33: each write of a control field reaches the case of `portControl` or `laneControl` that acts on it. -/
theorem portControl : Obligations.PortControl := by
  unfold Obligations.PortControl
  refine ⟨?enable, ?disable, ?retrain, ?testEnter, ?testExit, ?inject⟩
  case enable =>
    intro p v s hp hpwr hw hwas htest
    have htest' : (F.LNK_PCTL_TEST p).get ((F.LNK_PCTL_EN p).put v 1) = 0 :=
      (get_put_beside _ _ _ _ rfl rfl).trans htest
    refine ⟨_, (indexWrite_in hp _ _ _ _).trans (congrArg _ (hostWrite_search hp hpwr hw (get_put_read _ _ Nat.one_lt_two rfl) htest'
      (.inl hwas) (.inl hwas))), pState_toDetect _ _, fun l hl => ?_⟩
    rw [lane_toDetect _ _ hl, getF_portDown_pctl _ _ _ rfl, getF_storeReg_portPreset]
    exact get_put_beside _ _ _ _ rfl rfl
  case disable =>
    intro p v s hp hpwr hw hwas
    refine ⟨_, indexWrite_in hp _ _ _ _, ?_⟩
    have hen : isSet s (F.LNK_PCTL_EN p) = true := by simp [isSet, hwas]
    rw [hostWrite_lnkPctl hp hw, hen, portControl_off _ _ (power_storeReg_pctl hpwr p _)
      ((getF_storeReg_portEn s p _).trans (get_put_read _ _ Nat.zero_lt_two rfl))]
    exact pState_portDown _ _ (by decide)
  case retrain =>
    intro p v s hp hpwr hw hwas hen htest hnew
    have hen' : (F.LNK_PCTL_EN p).get ((F.LNK_PCTL_RETRAIN p).put v 1) = 1 :=
      (get_put_beside _ _ _ _ rfl rfl).trans hen
    have htest' : (F.LNK_PCTL_TEST p).get ((F.LNK_PCTL_RETRAIN p).put v 1) = 0 :=
      (get_put_beside _ _ _ _ rfl rfl).trans hnew
    have hst := pState_toDetect (portDown (storeReg s (R.LNK_PCTL p) ((F.LNK_PCTL_RETRAIN p).put v 1)) p) p
    refine ⟨_, (indexWrite_in hp _ _ _ _).trans (congrArg _ (hostWrite_search hp hpwr hw hen' htest'
      (.inr htest) (.inr (get_put_read _ _ Nat.one_lt_two rfl)))), hst, ?_⟩
    exact Bool.eq_false_iff.2 fun h => absurd (hst.symm.trans (portUp_iff.1 h)) (by decide)
  case testEnter =>
    intro p v s hp hpwr hw hen htest
    refine ⟨_, indexWrite_in hp _ _ _ _, ?_⟩
    have hwas : isSet s (F.LNK_PCTL_TEST p) = false := by simp [isSet, htest]
    rw [hostWrite_lnkPctl hp hw, hwas, portControl_test _ _ (power_storeReg_pctl hpwr p _)
      ((getF_storeReg_portEn s p _).trans ((get_put_beside _ _ _ _ rfl rfl).trans hen))
      ((getF_storeReg_portTest s p _).trans (get_put_read _ _ Nat.one_lt_two rfl))]
    exact pState_portDown _ _ (by decide)
  case testExit =>
    intro p v s hp hpwr hw hen hwasEn hwasTest
    refine ⟨_, indexWrite_in hp _ _ _ _, ?_⟩
    have hwas : isSet s (F.LNK_PCTL_EN p) = true ∧ isSet s (F.LNK_PCTL_TEST p) = true := by simp [isSet, hwasEn, hwasTest]
    rw [hostWrite_lnkPctl hp hw, hwas.1, hwas.2, portControl_testExit _ (power_storeReg_pctl hpwr p _)
      ((getF_storeReg_portEn s p _).trans ((get_put_beside _ _ _ _ rfl rfl).trans hen))
      ((getF_storeReg_portTest s p _).trans (get_put_read _ _ Nat.zero_lt_two rfl))]
    exact ⟨pState_toDetect _ _, fun l hl => (word_toDetect_lctl _ _ _).trans (lctlReset_isReset _ _ hl)⟩
  case inject =>
    intro i v s hi hw hloop hchk hgen hst hnone
    refine ⟨_, indexWrite_in hi _ _ _ _, ?_⟩
    have hregs {f : Fld} (h : f.off ≠ R.LNK_LCTL i) (w : Word) : getF (storeReg s (R.LNK_LCTL i) w) f = getF s f :=
      getF_of_regs (storeReg_regs s _ w h.symm RegsBut.same)
    rw [hostWrite_lnkLctl hi hw, get_put_read _ _ Nat.one_lt_two rfl, ← hregs (f := F.LNK_LPRBS_ERR i) (laneOff_ne (by decide) _ _)]
    refine laneControl_inject ((hregs (by simp only [R.LNK_LCTL]; omega) _).trans hst) hnone ?_ ?_ ?_
    · rw [getF_storeReg_laneNelb, get_put_beside _ _ _ _ rfl rfl, hloop]
    · rwa [getF_storeReg_laneChk, get_put_beside _ _ _ _ rfl rfl]
    · rwa [getF_storeReg_laneChk, getF_storeReg_laneGen, get_put_beside _ _ _ _ rfl rfl,
        get_put_beside _ _ _ _ rfl rfl]

end Sys2Proof
end

section
/-! PROOF. The pannier of a chain port: lanes it stands in for, the copies its transmitter is asked for, and steering (R291 to R294). -/

namespace Sys2Proof.Machine

/-! ### A lost lane is spared for (R288, R293) -/

/-- A logical lane of an UP port is lost, and its physical lane shows it. -/
def laneGone (s : State) (p n : Nat) : State :=
  setF (setF (setPort s p { port s p with lost := 2 ^ n }) (F.LNK_LSTAT_CDR (5 * p + physLane s p n)) 0)
    (F.LNK_LSTAT_ALIGN (5 * p + physLane s p n)) 0

/-- Does the receiver use the copy of a lane already? -/
def copyInUse (s : State) (p n : Nat) : Bool := isSet s (F.LNK_PMAP_PANSEL p) && getF s (F.LNK_PMAP_PANSRC p) == n

/-- A recalibration on the port ends, as the pannier lane is needed. -/
def recalEnded (s : State) (p : Nat) (inUse : Bool) : State := if (recalOn s p).isSome then calAbort s .aborted inUse else s

/-- The lane that the pannier lane stands in for is shown. -/
def spareShown (s : State) (p n : Nat) : State := setF (setF s (F.LNK_PMAP_SPARED p) 1) (F.LNK_PMAP_SPAREFOR p) n

/-- The first lost lane of a port, up to the copy it needs. -/
def laneSpared (s : State) (p n : Nat) : State :=
  spareShown (recalEnded (laneGone s p n) p (copyInUse (laneGone s p n) p n)) p n

section
variable {s : State} {p n : Nat}

theorem laneLost_first (hup : portUp s p = true) (hn : n < 4) (hlost : (port s p).lost = 0) (hspared : getF s (F.LNK_PMAP_SPARED p) = 0)
    (hpan : getF s (F.LNK_PMAP_NOPAN p) = 0) : laneLost s p n =
      if copyInUse (laneGone s p n) p n then showSpared (laneSpared s p n) p n
      else steerFor (setF (laneSpared s p n) (F.LNK_PMAP_PANSEL p) 0) p n := by
  rw [laneLost]
  dsimp only
  rw [if_neg (by simp [hup, hlost]; omega), if_neg (by omega), if_neg (by simp [hlost, isSet, hspared, hpan])]
  rfl

theorem laneLost_second (hup : portUp s p = true) (hn : n < 4) (hbit : (port s p).lost.testBit n = false)
    (h : (port s p).lost ≠ 0 ∨ getF s (F.LNK_PMAP_SPARED p) = 1 ∨ getF s (F.LNK_PMAP_NOPAN p) = 1) :
    laneLost s p n = portDown s p := by
  have hneed : (port s p).lost ≠ 0 ∨ isSet s (F.LNK_PMAP_SPARED p) = true ∨ isSet s (F.LNK_PMAP_NOPAN p) = true :=
    h.imp id (Or.imp (by simp +contextual [isSet]) (by simp +contextual [isSet]))
  rw [laneLost]
  dsimp only
  rw [if_neg (by simp [hup, hbit]; omega), if_neg (by omega), if_pos hneed]

end

theorem lost_setLane (x : PortSt) (l : Nat) (y : LaneSt) : (x.setLane l y).lost = x.lost := rfl

theorem lost_setTaps (s : State) (q l : Nat) (t : Taps) (p : Nat) : (port (setTaps s q l t) p).lost = (port s p).lost := by
  rw [setTaps]
  dsimp only
  by_cases hq : p = q
  · rw [hq, port_setPort_same, lost_setLane]
  · rw [port_setPort_ne _ _ hq]

theorem lnk_calAbort_some {s : State} {r : Recal} (h : s.cal.run = some r) (c : Status) (keepCopy : Bool) :
    (calAbort s c keepCopy).lnk = (setTaps s r.port r.lane r.saved).lnk := by
  rw [calAbort, h]
  dsimp only
  rw [setF_lnk, setF_lnk, incSat_lnk]
  dsimp only
  rw [setF_lnk]
  split
  · rfl
  · rw [setF_lnk]

/-- The end of a recalibration leaves the lanes that are lost. -/
theorem lost_calAbort (s : State) (c : Status) (keepCopy : Bool) (p : Nat) :
    (port (calAbort s c keepCopy) p).lost = (port s p).lost := by
  cases h : s.cal.run with
  | none => rw [calAbort, h]
  | some r => rw [port_congr (lnk_calAbort_some h c keepCopy), lost_setTaps]

theorem lost_recalEnded (s : State) (p : Nat) (inUse : Bool) : (port (recalEnded s p inUse) p).lost = (port s p).lost := by
  unfold recalEnded
  split
  · exact lost_calAbort _ _ _ _
  · rfl

/-- The lane spared for, once it is shown. -/
theorem laneSpared_shown (s : State) (p : Nat) {n : Nat} (hn : n < 4) : getF (laneSpared s p n) (F.LNK_PMAP_SPARED p) = 1 ∧
    getF (laneSpared s p n) (F.LNK_PMAP_SPAREFOR p) = n ∧ (port (laneSpared s p n) p).lost = 2 ^ n := by
  rw [laneSpared, spareShown]
  refine ⟨?_, ?_, ?_⟩
  · rw [getF_setF_beside _ (F.LNK_PMAP_SPAREFOR p) (F.LNK_PMAP_SPARED p) _ rfl rfl rfl]
    exact getF_setF_read _ _ Nat.one_lt_two rfl
  · exact getF_setF_read _ _ hn rfl
  · rw [port_setF, port_setF, lost_recalEnded, laneGone, port_setF, port_setF, port_setPort_same]

theorem lstatOff_ne_pmap (i p : Nat) : R.LNK_PMAP p ≠ R.LNK_LSTAT i := by simp only [R.LNK_PMAP, R.LNK_LSTAT]; omega

/-- LNK_LSTAT of a port's lanes leaves LNK_PMAP alone. -/
theorem getF_showSpared (s : State) (p n : Nat) {f : Fld} (h : f.off = R.LNK_PMAP p) : getF (showSpared s p n) f = getF s f := by
  rw [showSpared, getF_setF_ne _ _ _ _ (h ▸ lstatOff_ne_pmap _ _), getF_setF_ne _ _ _ _ (h ▸ lstatOff_ne_pmap _ _)]

/-- The copy of a lane is asked for: LNK_PMAP shows which, and the rest of it stays. -/
theorem steerFor_keeps_spare (s : State) (p n : Nat) : getF (steerFor s p n) (F.LNK_PMAP_SPARED p) = getF s (F.LNK_PMAP_SPARED p) ∧
    getF (steerFor s p n) (F.LNK_PMAP_SPAREFOR p) = getF s (F.LNK_PMAP_SPAREFOR p) ∧
    (port (steerFor s p n) p).lost = (port s p).lost := by
  obtain ⟨hregs, _, hlost⟩ := steerSend_frame (setF s (F.LNK_PMAP_PANSRC p) n) p n
  have hsend (f : Fld) : getF (steerFor s p n) f = getF (setF s (F.LNK_PMAP_PANSRC p) n) f := by
    rw [steerFor, getF, getF, State.word, State.word, hregs]
  rw [hsend, hsend]
  exact ⟨getF_setF_beside s (F.LNK_PMAP_PANSRC p) (F.LNK_PMAP_SPARED p) n rfl rfl rfl,
    getF_setF_beside s (F.LNK_PMAP_PANSRC p) (F.LNK_PMAP_SPAREFOR p) n rfl rfl rfl, hlost⟩

theorem laneLost_first_effect {s : State} {p n : Nat} (hup : portUp s p = true) (hn : n < 4) (hlost : (port s p).lost = 0)
    (hspared : getF s (F.LNK_PMAP_SPARED p) = 0) (hpan : getF s (F.LNK_PMAP_NOPAN p) = 0) :
    getF (laneLost s p n) (F.LNK_PMAP_SPARED p) = 1 ∧ getF (laneLost s p n) (F.LNK_PMAP_SPAREFOR p) = n ∧
      (port (laneLost s p n) p).lost = 2 ^ n := by
  obtain ⟨hshown, hfor, hport⟩ := laneSpared_shown s p hn
  rw [laneLost_first hup hn hlost hspared hpan]
  split
  case isTrue =>
    rw [getF_showSpared _ _ _ rfl, getF_showSpared _ _ _ rfl, showSpared, port_setF, port_setF]
    exact ⟨hshown, hfor, hport⟩
  case isFalse =>
    obtain ⟨hkeepShown, hkeepFor, hkeepLost⟩ := steerFor_keeps_spare (setF (laneSpared s p n) (F.LNK_PMAP_PANSEL p) 0) p n
    rw [hkeepShown, hkeepFor, hkeepLost, getF_setF_beside _ (F.LNK_PMAP_PANSEL p) (F.LNK_PMAP_SPARED p) _ rfl rfl rfl,
      getF_setF_beside _ (F.LNK_PMAP_PANSEL p) (F.LNK_PMAP_SPAREFOR p) _ rfl rfl rfl, port_setF]
    exact ⟨hshown, hfor, hport⟩

/-! ### Steering (R294) -/

theorem steerReceive_agrees {s : State} {p cmd : Nat} (hup : portUp s p = true) (hcmd : cmd < 256) :
    steerReceive s p cmd (255 - cmd) = emit (setPort s p { port s p with copy := cmd % 4 }) (.pannier p (cmd % 4)) :=
  if_pos ⟨.inl hup, by omega⟩

theorem steerSend_effect (s : State) (p n : Nat) : (port (steerSend s p n) p).steerAt = upNs s ∧
    (fwdOn s p = false → (steerSend s p n).out = s.out ++ [.steer p n false]) ∧
    (fwdOn s p = true → (port (steerSend s p n) p).steerDue = true) := by
  unfold steerSend
  dsimp only
  cases fwdOn s p with
  | true =>
    rw [if_pos rfl, port_setPort_same]
    exact ⟨rfl, (fun h => nomatch h), fun _ => rfl⟩
  | false =>
    rw [if_neg (by decide), port_emit, port_setPort_same, out_emit, out_setPort]
    exact ⟨rfl, fun _ => rfl, fun h => nomatch h⟩

theorem steerRepeat_due {s : State} {p n : Nat} (hup : portUp s p = true) (hn : (port s p).steer = some n)
    (hdue : (port s p).steerAt + steerPeriod s ≤ upNs s) : steerRepeat s p = steerSend s p n := by
  rw [steerRepeat, hn]
  exact if_pos ⟨hup, hdue⟩

/-! ### The receiver's use of the copy (R292) -/

/-- The physical lanes of two lane numbers have registers of their own. -/
theorem physLane_ne (s : State) (p : Nat) {n : Nat} (hn : n < 4) :
    R.LNK_LSTAT (5 * p + physLane s p n) ≠ R.LNK_LSTAT (5 * p + physLane s p 4) := by
  unfold physLane laneNo
  simp only [R.LNK_LSTAT]
  split <;> omega

theorem pannierSwitch_back {s : State} {p : Nat} (hup : portUp s p = true) (hpan : getF s (F.LNK_PMAP_NOPAN p) = 0)
    (hcal : recalOn s p = none) (hspared : getF s (F.LNK_PMAP_SPARED p) = 0) :
    pannierSwitch s p = setF s (F.LNK_PMAP_PANSEL p) 0 := by
  simp [pannierSwitch, hup, isSet, hpan, hcal, hspared]

theorem pannierSwitch_copy {s : State} {p : Nat} (hup : portUp s p = true) (hpan : getF s (F.LNK_PMAP_NOPAN p) = 0)
    (hcal : recalOn s p = none) (hspared : getF s (F.LNK_PMAP_SPARED p) = 1)
    (hsrc : getF s (F.LNK_PMAP_PANSRC p) = getF s (F.LNK_PMAP_SPAREFOR p)) :
    pannierSwitch s p = setF (showSpared s p (getF s (F.LNK_PMAP_SPAREFOR p))) (F.LNK_PMAP_PANSEL p) 1 := by
  simp [pannierSwitch, hup, isSet, hpan, hcal, hspared, hsrc]

/-- The lanes show which of them the pannier lane stands in for. -/
theorem showSpared_shown (s : State) (p : Nat) {n : Nat} (hn : n < 4) :
    getF (showSpared s p n) (F.LNK_LSTAT_LOGICAL (5 * p + physLane s p n)) = 7 ∧
      getF (showSpared s p n) (F.LNK_LSTAT_LOGICAL (5 * p + physLane s p 4)) = n := by
  rw [showSpared, getF_setF_ne _ _ _ _ (physLane_ne s p hn)]
  exact ⟨getF_setF_read _ _ (by decide : 7 < 8) rfl, getF_setF_read _ _ (show n < 8 by omega) rfl⟩

/-- Settles O35, command by command. -/
theorem lanesSpared : Obligations.LanesSpared := by
  unfold Obligations.LanesSpared
  refine ⟨?lost, ?steer, ?repeated, ?switch⟩
  case lost =>
    intro p n s ⟨_, hlive⟩ hup hn hbit
    refine ⟨_, next_of_live hlive _, laneLost_first_effect hup hn, fun h => ?_⟩
    rw [laneLost_second hup hn hbit h]
    exact pState_portDown _ _ (by decide)
  case steer =>
    intro p cmd s ⟨_, hlive⟩ hup hcmd
    refine ⟨_, next_of_live hlive _, ?_⟩
    rw [steerReceive_agrees hup hcmd, port_emit, port_setPort_same, out_emit, out_setPort]
    exact ⟨rfl, rfl⟩
  case repeated =>
    intro dt p n s ⟨_, hlive⟩ hup hn hdue
    refine ⟨_, next_of_live hlive _, ?_⟩
    rw [steerRepeat_due hup hn hdue]
    exact steerSend_effect _ p n
  case switch =>
    intro p s ⟨_, hlive⟩ hup hpan hcal
    refine ⟨_, next_of_live hlive _, fun hspared => ?_, fun hspared hsrc hfor => ?_⟩
    · rw [pannierSwitch_back hup hpan hcal hspared]
      exact getF_setF_read _ _ Nat.zero_lt_two rfl
    · rw [pannierSwitch_copy hup hpan hcal hspared hsrc]
      refine ⟨getF_setF_read _ _ Nat.one_lt_two rfl, ?_⟩
      rw [getF_setF_ne _ _ _ _ (lstatOff_ne_pmap _ _).symm, getF_setF_ne _ _ _ _ (lstatOff_ne_pmap _ _).symm]
      exact showSpared_shown s p hfor

end Sys2Proof.Machine
end

section
/-! PROOF. An UP port's stream: slips, reseeds, blocks, adaptation, margins and the timing port (R269 to R279, R295, R296). -/

namespace Sys2Proof.Machine

/-! ### Slips and reseeds (R270, R279) -/

section
variable {s : State} {p : Nat}

theorem elasticSlip_up (hup : portUp s p = true) (hpath : s.lnk.bypass ≠ some p) (cut : Nat) :
    elasticSlip s p cut = incSat (incSat (setPort s p { port s p with fill := 8, rxScr := (port s p).rxScr.map (scrSkip (4 * cut)) })
      (F.LNK_PERR_SLIP p)) (F.LNK_PERR_RUNT p) := if_pos ⟨.inl hup, hpath⟩

theorem elasticSlip_effect (hup : portUp s p = true) (hpath : s.lnk.bypass ≠ some p) (cut : Nat) :
    (port (elasticSlip s p cut) p).fill = 8 ∧
      getF (elasticSlip s p cut) (F.LNK_PERR_SLIP p) = satAdd (F.LNK_PERR_SLIP p).top (getF s (F.LNK_PERR_SLIP p)) 1 ∧
      getF (elasticSlip s p cut) (F.LNK_PERR_RUNT p) = satAdd (F.LNK_PERR_RUNT p).top (getF s (F.LNK_PERR_RUNT p)) 1 := by
  rw [elasticSlip_up hup hpath cut]
  refine ⟨?_, ?_, ?_⟩
  · rw [port_incSat, port_incSat, port_setPort_same]
  · rw [getF_incSat_beside _ (F.LNK_PERR_RUNT p) (F.LNK_PERR_SLIP p) _ rfl rfl rfl, getF_incSat_read _ _ _ rfl, getF_setPort]
  · rw [getF_incSat_read _ _ _ rfl, getF_incSat_beside _ (F.LNK_PERR_SLIP p) (F.LNK_PERR_RUNT p) _ rfl rfl rfl, getF_setPort]

theorem reseed_due (hup : portUp s p = true) (hown : fwdOn s p = false) (hdue : (port s p).seeded + 2 ^ 24 ≤ upNs s) :
    reseed s p = emit (setPort s p { port s p with seeded := upNs s }) (.block p 2) :=
  if_pos (by simpa [hup, hown] using hdue)

end

/-! ### Blocks (R269, R271, R275, R279, R296) -/

/-- The record of a port once a block came: its descrambler, its elastic buffer, where no `held` keeps it as it is, and its lanes. -/
def portAfterBlock (x : PortSt) (held : Prop) [Decidable held] (k cut fill : Nat) : PortSt :=
  { x with
    rxScr := if k = 1 ∨ k = 2 then some scrSeed else x.rxScr.map (scrSkip (4 * cut))
    fill := if held then fill else if fill < 6 then fill + 1 else if 10 < fill then fill - 1 else fill
    rsd := x.rsd || k == 2
    okRun := if k = 2 ∧ !x.rsd then 0 else x.okRun
    lanes := x.lanes.map laneReload }

theorem port_blockForward {p q : Nat} (h : p ≠ q) (s : State) (kind len : Nat) : port (blockForward s q kind len) p = port s p := by
  unfold blockForward
  dsimp only
  split
  · rw [port_emit, port_setPort_ne _ _ h]
  · split
    · rw [port_emit, port_setPort_ne _ _ h]
    · rw [port_emit, port_setPort_ne _ _ h]

/-- A port that forwards does so to the other one. -/
theorem forwarding_other {s : State} {p : Nat} (h : forwarding s p = true) : p ≠ 1 - p := by
  simp only [forwarding, Bool.and_eq_true, decide_eq_true_eq] at h
  omega

theorem port_blockReceive {s : State} {p coms : Nat} (hup : portUp s p = true) (hcoms : 3 ≤ coms) (marks : List Nat)
    (cut len fill : Nat) (cv disp : List Nat) : port (blockReceive s p coms marks cut len fill cv disp) p =
      portAfterBlock (port s p) (blockKind marks = 3 ∨ s.lnk.bypass = some p) (blockKind marks) cut fill := by
  obtain ⟨hlnk, _, hregs⟩ := countLanes_frame s p cv disp
  have hstage : portUp (countLanes s p cv disp) p = true := by
    rw [portUp_iff, ← portUp_iff.1 hup]
    exact hregs.getF_port (pState_inPorts p)
  have hrunt (t : State) : port (if cut = 0 then t else incSat t (F.LNK_PERR_RUNT p)) p = port t p := by
    split
    · rfl
    · exact port_incSat _ _ _ _
  have hforward (t : State) (k len : Nat) :
      port (if forwarding t p = true ∧ blkOn t 0x0D = true then blockForward t (1 - p) k len else t) p = port t p := by
    split
    case isTrue h => exact port_blockForward (forwarding_other h.1) t k len
    case isFalse => rfl
  unfold blockReceive
  dsimp only
  rw [if_neg (by omega), if_neg (by simp [hstage]), hforward, hrunt, port_setPort_same, port_congr hlnk, hlnk]
  rfl

theorem lane_portAfterBlock (x : PortSt) (held : Prop) [Decidable held] (k cut fill l : Nat) :
    (portAfterBlock x held k cut fill).lane l = laneReload (x.lane l) := List.getD_map x.lanes laneReset laneReload

theorem laneReload_some {y : LaneSt} {t : Taps} (h : y.reload = some t) : laneReload y = { y with taps := t, reload := none } := by
  rw [laneReload, h]

/-! ### Adaptation and margins (R295, R296) -/

section
variable {s : State} {p l : Nat}

theorem adaptWindow_takes (hup : portUp s p = true) (hl : l < 5) {diff : Nat} (taps : Taps) (hscr : (port s p).rxScr.isSome = true)
    (hmin : 4 * 40799 ≤ 10 * diff) (hmax : 10 * diff ≤ 6 * 40799) (hheld : ((port s p).lane l).holdTo ≤ upNs s)
    (hcal : heldByCal s p l = false) :
    adaptWindow s p l diff taps = setTaps (setF s (F.LNK_LSTAT_FROZEN (5 * p + l)) 0) p l (tapsOf taps) := by
  have hin : ¬5 ≤ l := by omega
  simp [adaptWindow, hup, hin, hscr, hmin, hmax, hheld, hcal, b2n]

theorem adaptWindow_freezes (hl : l < 5) {diff : Nat} (taps : Taps) (h : 10 * diff < 4 * 40799 ∨ 6 * 40799 < 10 * diff) :
    adaptWindow s p l diff taps = setF s (F.LNK_LSTAT_FROZEN (5 * p + l)) 1 := by
  have hin : ¬5 ≤ l := by omega
  have hbounds : (decide (4 * 40799 ≤ 10 * diff) && decide (10 * diff ≤ 6 * 40799)) = false := by
    rw [Bool.and_eq_false_iff, decide_eq_false_iff_not, decide_eq_false_iff_not]
    omega
  have hout (a b c d : Bool) : (a && b && decide (4 * 40799 ≤ 10 * diff) && decide (10 * diff ≤ 6 * 40799) && c && d) = false := by
    rw [Bool.and_assoc (a && b), hbounds, Bool.and_false, Bool.false_and, Bool.false_and]
  unfold adaptWindow
  dsimp only
  rw [if_neg hin, hout]
  rfl

theorem lane_setTaps (s : State) (p : Nat) {l : Nat} (hl : l < 5) (t : Taps) :
    (port (setTaps s p l t) p).lane l = { (port s p).lane l with taps := t } := by
  rw [setTaps, port_setPort_same, lane_setLane_same hl]

/-- A margin measurement is shown. -/
def marginShown (s : State) (p l ew eh : Nat) : State :=
  setF (setF s (F.LNK_LMARGIN_EW (5 * p + l)) (min 63 ew)) (F.LNK_LMARGIN_EH (5 * p + l)) (min 255 eh)

/-- A lane after a good measurement. -/
def laneGood (y : LaneSt) : LaneSt :=
  if 10 ≤ y.goodRun + 1 then { y with good := some y.taps, goodRun := 0, lowRun := 0 }
  else { y with goodRun := y.goodRun + 1, lowRun := 0 }

/-- A lane after its third bad measurement. -/
def laneReverted (y : LaneSt) (holdTo : Nat) : LaneSt :=
  { y with reload := some (y.good.getD y.upTaps), lowRun := 0, goodRun := 0, holdTo := holdTo }

/-- A measurement where no recalibration runs on the port: what it shows, and the lane's record after it. -/
theorem marginMeasure_uncal (hup : portUp s p = true) (hl : l < 5) (hcal : recalOn s p = none) (ew eh : Nat) :
    marginMeasure s p l ew eh =
      if getF s F.LNK_ADAPTCFG_MINEW ≤ ew ∧ getF s F.LNK_ADAPTCFG_MINEH ≤ eh then
        setPort (marginShown s p l ew eh) p ((port s p).setLane l (laneGood ((port s p).lane l)))
      else if 3 ≤ ((port s p).lane l).lowRun + 1 then
        incSat (setPort (marginShown s p l ew eh) p ((port s p).setLane l (laneReverted ((port s p).lane l) (upNs s + 1000000))))
          (F.LNK_LSTAT_REVERTS (5 * p + l))
      else setPort (marginShown s p l ew eh) p ((port s p).setLane l { (port s p).lane l with
        lowRun := ((port s p).lane l).lowRun + 1, goodRun := 0 }) := by
  have hshown : recalOn (marginShown s p l ew eh) p = none := (recalOn_congr (by rw [marginShown, setF_cal, setF_cal]) p).trans hcal
  have hfree : heldByCal (marginShown s p l ew eh) p l = false := by rw [heldByCal, hshown]
  have hcfg {f : Fld} (h : f.off = R.LNK_ADAPTCFG) : getF (marginShown s p l ew eh) f = getF s f := by
    rw [marginShown, getF_setF_ne _ _ _ _ (by rw [h]; simp only [R.LNK_ADAPTCFG]; omega),
      getF_setF_ne _ _ _ _ (by rw [h]; simp only [R.LNK_ADAPTCFG]; omega)]
  have hrevert : laneRevert (marginShown s p l ew eh) p l = incSat (setPort (marginShown s p l ew eh) p
      ((port s p).setLane l (laneReverted ((port s p).lane l) (upNs s + 1000000)))) (F.LNK_LSTAT_REVERTS (5 * p + l)) := by
    unfold laneRevert
    dsimp only
    rw [recalOn_congr (s := marginShown s p l ew eh) (by rw [incSat_cal, cal_setPort]), hshown]
    rfl
  unfold marginMeasure
  dsimp only
  rw [if_neg (by simp [hup]; omega), ← marginShown, hcfg rfl, hcfg rfl, hfree, hrevert]
  rfl

theorem getF_marginShown (s : State) (p l ew eh : Nat) : getF (marginShown s p l ew eh) (F.LNK_LMARGIN_EW (5 * p + l)) = min 63 ew ∧
    getF (marginShown s p l ew eh) (F.LNK_LMARGIN_EH (5 * p + l)) = min 255 eh := by
  refine ⟨?_, getF_setF_read _ _ (show min 255 eh < 256 by omega) rfl⟩
  rw [marginShown, getF_setF_beside _ (F.LNK_LMARGIN_EH (5 * p + l)) (F.LNK_LMARGIN_EW (5 * p + l)) _ rfl rfl rfl]
  exact getF_setF_read _ _ (show min 63 ew < 64 by omega) rfl

theorem marginMeasure_shows (hup : portUp s p = true) (hl : l < 5) (hcal : recalOn s p = none) (ew eh : Nat) {f : Fld}
    (h : f.off = R.LNK_LMARGIN (5 * p + l)) : getF (marginMeasure s p l ew eh) f = getF (marginShown s p l ew eh) f := by
  rw [marginMeasure_uncal hup hl hcal]
  split
  · exact getF_setPort _ _ _ _
  · split
    · rw [getF_incSat_ne _ _ _ _ (h ▸ laneOff_ne (by decide) _ _), getF_setPort]
    · exact getF_setPort _ _ _ _

theorem marginMeasure_good (hup : portUp s p = true) (hl : l < 5) (hcal : recalOn s p = none) {ew eh : Nat}
    (hew : getF s F.LNK_ADAPTCFG_MINEW ≤ ew) (heh : getF s F.LNK_ADAPTCFG_MINEH ≤ eh) :
    (port (marginMeasure s p l ew eh) p).lane l = laneGood ((port s p).lane l) := by
  rw [marginMeasure_uncal hup hl hcal, if_pos ⟨hew, heh⟩, port_setPort_same, lane_setLane_same hl]

theorem marginMeasure_bad (hup : portUp s p = true) (hl : l < 5) (hcal : recalOn s p = none) {ew eh : Nat}
    (hbad : ew < getF s F.LNK_ADAPTCFG_MINEW ∨ eh < getF s F.LNK_ADAPTCFG_MINEH) (hlow : 2 ≤ ((port s p).lane l).lowRun) :
    (port (marginMeasure s p l ew eh) p).lane l = laneReverted ((port s p).lane l) (upNs s + 1000000) := by
  rw [marginMeasure_uncal hup hl hcal, if_neg (by omega), if_pos (by omega), port_incSat, port_setPort_same, lane_setLane_same hl]

end

/-! ### The timing port (R276) -/

section
variable {s : State}

theorem timingChange_effect (h : timingSource s ≠ s.lnk.source) : getF (timingChange s) F.LNK_TIMING_SRC = 5 ∧
    (timingChange s).lnk.source = timingSource s ∧
    getF (timingChange s) F.LNK_TIMING_SWITCHES = satAdd F.LNK_TIMING_SWITCHES.top (getF s F.LNK_TIMING_SWITCHES) 1 := by
  unfold timingChange
  dsimp only
  rw [if_neg h]
  refine ⟨?_, ?_, ?_⟩
  · rw [getF_incSat_beside _ F.LNK_TIMING_SWITCHES F.LNK_TIMING_SRC _ rfl rfl rfl]
    exact getF_setF_read _ _ (by decide) rfl
  · rw [incSat_lnk, setF_lnk]
  · rw [getF_incSat_read _ _ _ rfl, getF_setF_beside _ F.LNK_TIMING_SRC F.LNK_TIMING_SWITCHES _ rfl rfl rfl]
    rfl

theorem getF_timingLocked (h : getF s F.LNK_TIMING_SRC = 5) :
    getF (timingLocked s) F.LNK_TIMING_SRC = s.lnk.source % 2 ^ F.LNK_TIMING_SRC.width := by
  rw [timingLocked, if_pos h]
  exact getF_setF_same _ _ _ (by decide)

end

/-- Settles O36, command by command. -/
theorem portStream : Obligations.PortStream := by
  unfold Obligations.PortStream
  refine ⟨?slip, ?reseeds, ?blocks, ?adapt, ?margin, ?change, ?locked⟩
  case slip =>
    intro p cut s ⟨_, hlive⟩ hup hpath
    exact ⟨_, next_of_live hlive _, elasticSlip_effect hup hpath cut⟩
  case reseeds =>
    intro dt p s ⟨_, hlive⟩ hup hown hdue
    refine ⟨_, next_of_live hlive _, ?_⟩
    rw [reseed_due hup hown hdue, port_emit, port_setPort_same, out_emit, out_setPort]
    exact ⟨rfl, rfl⟩
  case blocks =>
    intro p coms marks cut len fill cv disp s ⟨_, hlive⟩ hup hcoms
    refine ⟨_, next_of_live hlive _, ?_⟩
    dsimp only
    rw [port_blockReceive hup hcoms]
    refine ⟨fun hk hpath => if_neg (by simp [hk, hpath]), fun l y hy => ?_, fun hk => if_pos hk, fun hk => if_neg (by omega)⟩
    rw [lane_portAfterBlock, laneReload_some hy]
    exact ⟨rfl, rfl⟩
  case adapt =>
    intro p l diff taps s ⟨_, hlive⟩ hup hl
    refine ⟨_, next_of_live hlive _, fun hscr hmin hmax hheld hcal => ?_, fun h => ?_⟩
    · rw [adaptWindow_takes hup hl taps hscr hmin hmax hheld hcal, lane_setTaps _ _ hl, setTaps, getF_setPort]
      exact ⟨getF_setF_read _ _ Nat.zero_lt_two rfl, rfl⟩
    · rw [adaptWindow_freezes hl taps h, setF_lnk]
      exact ⟨getF_setF_read _ _ Nat.one_lt_two rfl, rfl⟩
  case margin =>
    intro p l ew eh s ⟨_, hlive⟩ hup hl hcal
    obtain ⟨hew, heh⟩ := getF_marginShown s p l ew eh
    refine ⟨_, next_of_live hlive _, (marginMeasure_shows hup hl hcal ew eh rfl).trans hew,
      (marginMeasure_shows hup hl hcal ew eh rfl).trans heh, fun hminEw hminEh hrun => ?_, fun hbad hlow => ?_⟩
    · rw [marginMeasure_good hup hl hcal hminEw hminEh, laneGood, if_pos (by omega)]
    · rw [marginMeasure_bad hup hl hcal hbad hlow]
      exact ⟨rfl, rfl⟩
  case change =>
    intro s hon hsource
    exact ⟨_, whenOn_of_on hon _, timingChange_effect hsource⟩
  case locked =>
    intro s hon hsrc
    exact ⟨_, whenOn_of_on hon _, getF_timingLocked hsrc⟩

end Sys2Proof.Machine
end

section
/-! PROOF. Codewords on the chain: those forwarded, candidates, and cells that wait too long for insertion (R288, R299, R314 to R318). -/

namespace Sys2Proof.Machine

/-! ### What a codeword slot leaves as it is -/

/-- The offsets of the registers that count what happens to cells, codewords and symbols: CHN_PERR, LNK_PERR, LNK_PFEC and the
lanes' registers. -/
abbrev CounterOff (o : Nat) : Prop :=
  (0xD0100 ≤ o ∧ o < 0xD0200 ∧ o % 0x40 = 4) ∨ (0xE0100 ≤ o ∧ o < 0xE0200 ∧ 0x10 ≤ o % 0x40) ∨ (0xE1000 ≤ o ∧ o < 0xE1280)

theorem counterOff_chnPerr (i : Nat) : CounterOff (R.CHN_PERR i) := by simp only [CounterOff, R.CHN_PERR]; omega
theorem counterOff_lnkPerr (i : Nat) : CounterOff (R.LNK_PERR i) := by simp only [CounterOff, R.LNK_PERR]; omega
theorem counterOff_lnkPfec (i : Nat) : CounterOff (R.LNK_PFEC i) := by simp only [CounterOff, R.LNK_PFEC]; omega
theorem counterOff_lnkLcv (i : Nat) : CounterOff (R.LNK_LCV i) := by simp only [CounterOff, R.LNK_LCV]; omega

/-- Two states with the same ports, that differ in what a codeword slot may change. -/
structure SlotFrame (s t : State) : Prop where
  regs : RegsBut CounterOff s t
  boot : t.boot = s.boot
  time : t.time = s.time
  fwd : ∀ q, (port t q).fwd = (port s q).fwd

/-- The parts of the state that a codeword slot may change beside the record of its port. -/
def slotParts : List Part := [.regs, .chn, .tim, .out]

namespace SlotFrame

theorem refl (s : State) : SlotFrame s s := ⟨RegsBut.same, rfl, rfl, fun _ => rfl⟩

theorem trans {s t u : State} (h : SlotFrame s t) (k : SlotFrame t u) : SlotFrame s u :=
  ⟨h.regs.trans k.regs, k.boot.trans h.boot, k.time.trans h.time, fun q => (k.fwd q).trans (h.fwd q)⟩

theorem of_keeps {s t : State} (hk : Keeps slotParts s t) (hr : RegsBut CounterOff s t) : SlotFrame s t :=
  ⟨hr, hk.2.2 .boot (by decide), hk.2.2 .time (by decide), fun q => congrArg PortSt.fwd (port_congr (hk.2.2 .lnk (by decide)) q)⟩

section
variable {s t : State} (h : SlotFrame s t)
include h

theorem getF {f : Fld} (hf : ¬CounterOff f.off) : getF t f = getF s f := getF_of_regs (h.regs.mono fun _ ho he => hf (he ▸ ho))

theorem isTile : isTile t = isTile s := isTile_congr (h.getF (by decide))

theorem pState (q : Nat) : pState t q = pState s q := h.getF (by simp only [CounterOff]; omega)

theorem portUp (q : Nat) : portUp t q = portUp s q := congrArg (· == pUp) (h.pState q)

theorem fwdOn (q : Nat) : fwdOn t q = fwdOn s q := by
  rw [Machine.fwdOn, Machine.fwdOn, forwarding, forwarding, h.isTile, h.portUp, h.portUp, h.fwd]

theorem blkOn (id : Nat) : blkOn t id = blkOn s id :=
  blkOn_of_placeRegs (h.regs.mono fun q ho hmem => by
    have hrange := placeRegs_ranges q hmem
    omega) h.boot id

theorem stampNow : stampNow t = stampNow s := by rw [Machine.stampNow, Machine.stampNow, h.time]

theorem tileConsumes (c : Bytes) : tileConsumes t c = tileConsumes s c := by
  have hready : isReady t = isReady s := congrArg (· == 7) (h.getF (f := F.GLB_BOOTSTAT_STAGE) (by decide))
  have hown : ownPostcode t = ownPostcode s := h.getF (by decide)
  have hvalid : isSet t F.CHN_POSTCODE_VALID = isSet s F.CHN_POSTCODE_VALID := isSet_congr (h.getF (by decide))
  simp only [Machine.tileConsumes, isOwn, hready, hown, hvalid]

theorem consumes (c : Bytes) : consumes t c = consumes s c := by
  have hrank : Machine.getF t F.TAN_CFG_RANK = Machine.getF s F.TAN_CFG_RANK := h.getF (by decide)
  rw [Machine.consumes, Machine.consumes, h.isTile, h.tileConsumes]
  simp only [senderConsumes, hrank]

theorem slotEmpty (c : Bytes) : slotEmpty t c = slotEmpty s c := by rw [Machine.slotEmpty, Machine.slotEmpty, h.tileConsumes]

end

end SlotFrame

theorem slotFrame_incSat (s : State) {f : Fld} (n : Nat) (h : CounterOff f.off) : SlotFrame s (incSat s f n) :=
  .of_keeps (incSat_keeps _ _ _ (by decide) Keeps.same) (incSat_regs _ _ _ h RegsBut.same)

/-- A port's record changes, not whether it forwards. -/
theorem slotFrame_setPort (s : State) (p : Nat) {x : PortSt} (h : x.fwd = (port s p).fwd) : SlotFrame s (setPort s p x) where
  regs := setPort_regs s p x RegsBut.same
  boot := rfl
  time := rfl
  fwd q := by
    by_cases hq : q = p
    · rw [hq, port_setPort_same, h]
    · rw [port_setPort_ne _ _ hq]

theorem slotFrame_classify (s : State) (p : Nat) (w : Bytes) : SlotFrame s (classify s p w) :=
  .of_keeps (classify_keeps s p w (by decide) (by decide) (by decide) (by decide) Keeps.same)
    (classify_regs s p w counterOff_chnPerr counterOff_lnkPfec RegsBut.same)

/-- The symbols of a slot are counted on their lanes alone (R298). -/
theorem countSymbols_frame (s : State) (p : Nat) (cv disp : List Nat) : SlotFrame s (countSymbols s p cv disp) ∧
    (countSymbols s p cv disp).lnk = s.lnk ∧ (countSymbols s p cv disp).chn = s.chn ∧ (countSymbols s p cv disp).out = s.out := by
  have hkeeps := countSymbols_keeps (W0 := [.regs]) s p cv disp (by decide) Keeps.same
  exact ⟨.of_keeps (countSymbols_keeps s p cv disp (by decide) Keeps.same)
    (countSymbols_regs s p cv disp counterOff_lnkLcv RegsBut.same),
    hkeeps.2.2 .lnk (by decide), hkeeps.2.2 .chn (by decide), hkeeps.2.2 .out (by decide)⟩

/-! ### A codeword is checked (R288, R299) -/

theorem cellForward_up {s : State} {p v : Nat} (hup : portUp s p = true) (hscr : (port s p).rxScr = some v) (raw : Bytes)
    (cv disp : List Nat) : cellForward s p raw cv disp = takeCodeword (countSymbols s p cv disp) p raw cv v := by
  have hst : pState s p ≠ pTest := by
    rw [portUp_iff.1 hup]
    decide
  unfold cellForward
  dsimp only
  rw [if_neg hst, if_neg (by simp [hup]), port_congr (countSymbols_frame s p cv disp).2.1, hscr]

/-- The record of a port after a codeword that has an error or none. -/
def portChecked (x : PortSt) (v : Nat) (bad : Bool) : PortSt :=
  { x with rxScr := some v, errRun := if bad then x.errRun + 1 else 0, okRun := if bad ∨ !x.rsd then 0 else x.okRun + 1 }

/-- A codeword is checked, and counted where it has an error. -/
def codewordChecked (s : State) (p v : Nat) (bad : Bool) : State :=
  if bad then incSat (setPort s p (portChecked (port s p) v bad)) (F.LNK_PERR_ERRCW p) else setPort s p (portChecked (port s p) v bad)

/-- A codeword checked without a DOWN is classified; a tile that does not forward sends one of its own. -/
def codewordSorted (s : State) (p : Nat) (w : Bytes) : State :=
  if isTile (classify s p w) ∧ !fwdOn (classify s p w) p then sendInserted (classify s p w) p else classify s p w

theorem takeCodeword_eq (s : State) (p : Nat) (raw : Bytes) (cv : List Nat) (v : Nat) : takeCodeword s p raw cv v =
    let u := codewordChecked s p (scramble v (fit 240 raw)).2 (syndromeBad (rxBytes v raw cv))
    if !portUp u p then u
    else if 16 ≤ (port u p).errRun then portDown u p
    else if !blkOn u 0x0D then u
    else codewordSorted u p (rxBytes v raw cv) := by
  unfold takeCodeword codewordSorted rxBytes
  dsimp only
  generalize (List.range 240).map (fun i => if cv.contains i then 0#8 else (scramble v (fit 240 raw)).1.getD i 0#8) = w
  cases syndromeBad w with
  | true => rfl
  | false => rfl

theorem codewordChecked_frame (s : State) (p v : Nat) (bad : Bool) : SlotFrame s (codewordChecked s p v bad) ∧
    port (codewordChecked s p v bad) p = portChecked (port s p) v bad := by
  have hport := slotFrame_setPort s p (x := portChecked (port s p) v bad) rfl
  unfold codewordChecked
  split
  · rw [port_incSat, port_setPort_same]
    exact ⟨hport.trans (slotFrame_incSat _ _ (counterOff_lnkPerr p)), rfl⟩
  · exact ⟨hport, port_setPort_same _ _ _⟩

/-- The 16th codeword in error in a row takes the port down. -/
theorem takeCodeword_sixteenth {s : State} {p v : Nat} {raw : Bytes} {cv : List Nat} (hup : portUp s p = true)
    (hbad : syndromeBad (rxBytes v raw cv) = true) (hrun : (port s p).errRun = 15) : takeCodeword s p raw cv v =
      portDown (codewordChecked s p (scramble v (fit 240 raw)).2 true) p := by
  obtain ⟨hframe, hport⟩ := codewordChecked_frame s p (scramble v (fit 240 raw)).2 true
  rw [takeCodeword_eq, hbad]
  dsimp only
  rw [if_neg (by simp [hframe.portUp, hup]), hport]
  exact if_pos (by simp [portChecked, hrun])

/-- A codeword without an error on a port that forwards is classified. -/
theorem takeCodeword_good {s : State} {p v : Nat} {raw : Bytes} {cv : List Nat} (hup : portUp s p = true)
    (hgood : syndromeBad (rxBytes v raw cv) = false) (hon : blkOn s 0x0D = true) (hfwd : fwdOn s p = true) :
    takeCodeword s p raw cv v = classify (codewordChecked s p (scramble v (fit 240 raw)).2 false) p (rxBytes v raw cv) := by
  obtain ⟨hframe, hport⟩ := codewordChecked_frame s p (scramble v (fit 240 raw)).2 false
  have hsorted := hframe.trans (slotFrame_classify _ p (rxBytes v raw cv))
  rw [takeCodeword_eq, hgood]
  dsimp only
  rw [if_neg (by simp [hframe.portUp, hup]), hport, if_neg (by simp [portChecked]), if_neg (by simp [hframe.blkOn, hon])]
  exact if_neg (by simp [hsorted.fwdOn, hfwd])

/-! ### A codeword is classified (R313 to R317) -/

section
variable {s : State} {p : Nat} {w : Bytes}

/-- A candidate waits for its correction. -/
def candWaits (s : State) (p : Nat) (w : Bytes) : State :=
  { s with chn := { s.chn with cand := s.chn.cand ++ [⟨p, w, stampNow s⟩] } }

theorem classify_candidate (hhead : headerOk (w.take 224) = false) (hfwd : fwdOn s (1 - p) = true) :
    classify s p w = emit (candWaits s p w) (.cell (1 - p) w) := by
  unfold classify
  dsimp only
  rw [hhead, hfwd]
  rfl

/-- A cell of another chain is counted. -/
def misaddrCounted (s : State) (p : Nat) (w : Bytes) : State :=
  if misaddressed s (w.take 224) then incSat s (F.CHN_PERR_MISADDR p) else s

/-- A cell with a good header leaves by the other port. -/
def slotForwarded (s : State) (p : Nat) (w : Bytes) : State :=
  forwardSlot (misaddrCounted s p w) p w (slotEmpty (misaddrCounted s p w) (typedCell w))

theorem classify_sound (hhead : headerOk (w.take 224) = true) (hform : badHeader (w.take 224) = false)
    (hfwd : fwdOn s (1 - p) = true) : classify s p w =
      if consumes (slotForwarded s p w) (typedCell w) then consume (slotForwarded s p w) p w (stampNow s) else slotForwarded s p w := by
  unfold classify
  dsimp only
  rw [hhead, hform, hfwd]
  rfl

theorem misaddrCounted_frame (s : State) (p : Nat) (w : Bytes) : SlotFrame s (misaddrCounted s p w) ∧
    (misaddrCounted s p w).chn = s.chn ∧ (misaddrCounted s p w).out = s.out := by
  unfold misaddrCounted
  split
  · exact ⟨slotFrame_incSat s 1 (counterOff_chnPerr p), incSat_chn _ _ _, incSat_out _ _ _⟩
  · exact ⟨.refl s, rfl, rfl⟩

theorem slotFrame_slotForwarded (s : State) (p : Nat) (w : Bytes) : SlotFrame s (slotForwarded s p w) :=
  (misaddrCounted_frame s p w).1.trans (.of_keeps (forwardSlot_keeps _ p w _ (by decide) (by decide) (by decide) Keeps.same)
    (forwardSlot_regs _ p w _ RegsBut.same))

/-- What a cell's unit takes of it leaves by no port. -/
theorem classify_out (hhead : headerOk (w.take 224) = true) (hform : badHeader (w.take 224) = false)
    (hfwd : fwdOn s (1 - p) = true) : (classify s p w).out = (slotForwarded s p w).out := by
  rw [classify_sound hhead hform hfwd]
  split
  · exact same_of_keeps .out (consume_keeps _ p w _ (by decide) (by decide) Keeps.same)
  · rfl

/-- A slot that is not free leaves as it came. -/
theorem classify_forwards (hhead : headerOk (w.take 224) = true) (hform : badHeader (w.take 224) = false)
    (hfwd : fwdOn s (1 - p) = true) (hfree : slotEmpty s (typedCell w) = false) :
    (classify s p w).out = s.out ++ [.cell (1 - p) w] := by
  obtain ⟨hframe, _, hout⟩ := misaddrCounted_frame s p w
  rw [classify_out hhead hform hfwd, slotForwarded, hframe.slotEmpty, hfree, ← hout]
  rfl

/-- A free slot leaves as IDLE where no cell waits for insertion. -/
theorem classify_idles (hhead : headerOk (w.take 224) = true) (hform : badHeader (w.take 224) = false)
    (hfwd : fwdOn s (1 - p) = true) (hfree : slotEmpty s (typedCell w) = true) (hnone : insCount s (1 - p) = 0) :
    (classify s p w).out = s.out ++ [.cell (1 - p) (zeros 240)] := by
  obtain ⟨hframe, hchn, hout⟩ := misaddrCounted_frame s p w
  have hcount : insCount (misaddrCounted s p w) (1 - p) = 0 := by rw [insCount, hchn, ← insCount, hnone]
  rw [classify_out hhead hform hfwd, slotForwarded, hframe.slotEmpty, hfree, forwardSlot, if_pos rfl, if_pos hcount, out_emit, hout]

end

theorem chn_preqLeft (s : State) (p : Nat) (c : Bytes) (now : Nat) : (preqLeft s p c now).chn = s.chn := by
  unfold preqLeft
  split <;> rfl

theorem rx_sendInserted (s : State) (p : Nat) : (sendInserted s p).chn.rx = s.chn.rx := by
  unfold sendInserted
  split
  case h_1 => rfl
  case h_2 => rw [chn_preqLeft]; rfl

theorem rx_forwardSlot (s : State) (p : Nat) (w : Bytes) (free : Bool) : (forwardSlot s p w free).chn.rx = s.chn.rx := by
  unfold forwardSlot
  dsimp only
  split
  · split
    · rfl
    · exact rx_sendInserted _ _
  · rfl

/-- A cell that its unit does not consume is not taken. -/
theorem classify_leaves {s : State} {p : Nat} {w : Bytes} (hhead : headerOk (w.take 224) = true)
    (hform : badHeader (w.take 224) = false) (hfwd : fwdOn s (1 - p) = true) (hnot : consumes s (typedCell w) = false) :
    (classify s p w).chn.rx = s.chn.rx := by
  rw [classify_sound hhead hform hfwd, (slotFrame_slotForwarded s p w).consumes, hnot, if_neg (by decide), slotForwarded,
    rx_forwardSlot, (misaddrCounted_frame s p w).2.1]

/-! ### Candidates and cells that wait (R315, R318) -/

/-- The oldest candidate is finished with. -/
def candTaken (s : State) (l : List RxCell) : State := { s with chn := { s.chn with cand := l } }

theorem slotFrame_candTaken (s : State) (l : List RxCell) : SlotFrame s (candTaken s l) := ⟨RegsBut.same, rfl, rfl, fun _ => rfl⟩

theorem candidateDone_lost {s : State} {y : RxCell} {l : List RxCell} (h : s.chn.cand = y :: l) (hc : correct y.cell = none) :
    candidateDone s = incSat (incSat (candTaken s l) (F.LNK_PFEC_UNCORR y.port)) (F.CHN_PERR_CAND y.port) := by
  simp only [candidateDone, h, hc]
  rfl

/-- A corrected candidate with a sound header, its corrections counted. -/
def candSound (s : State) (y : RxCell) (l : List RxCell) (w : Bytes) (n : Nat) : State :=
  misaddrCounted (incSat (candTaken s l) (F.LNK_PFEC_CORR y.port) n) y.port w

theorem candidateDone_corrected {s : State} {y : RxCell} {l : List RxCell} {w : Bytes} {n : Nat} (h : s.chn.cand = y :: l)
    (hc : correct y.cell = some (w, n)) : candidateDone s =
      if !headerOk (w.take 224) ∨ badHeader (w.take 224) then
        incSat (incSat (candTaken s l) (F.LNK_PFEC_CORR y.port) n) (F.CHN_PERR_BADHDR y.port)
      else if consumes (candSound s y l w n) (w.take 224) then deliver (candSound s y l w n) y.port (w.take 224) y.time
      else candSound s y l w n := by
  simp only [candidateDone, h, hc]
  rfl

theorem candSound_frame (s : State) (y : RxCell) (l : List RxCell) (w : Bytes) (n : Nat) : SlotFrame s (candSound s y l w n) ∧
    (candSound s y l w n).chn = (candTaken s l).chn := by
  obtain ⟨hframe, hchn, _⟩ := misaddrCounted_frame (incSat (candTaken s l) (F.LNK_PFEC_CORR y.port) n) y.port w
  exact ⟨((slotFrame_candTaken s l).trans (slotFrame_incSat _ n (counterOff_lnkPfec y.port))).trans hframe,
    hchn.trans (incSat_chn _ _ _)⟩

theorem cand_candidateDone {s : State} {y : RxCell} {l : List RxCell} (h : s.chn.cand = y :: l) : (candidateDone s).chn.cand = l := by
  cases hc : correct y.cell with
  | none =>
    rw [candidateDone_lost h hc, incSat_chn, incSat_chn]
    rfl
  | some r =>
    obtain ⟨w, n⟩ := r
    have hsound : (candSound s y l w n).chn.cand = l := congrArg ChnSt.cand (candSound_frame s y l w n).2
    rw [candidateDone_corrected h hc]
    split
    · rw [incSat_chn, incSat_chn]
      rfl
    · split
      · exact hsound
      · exact hsound

/-- A candidate that cannot be corrected is lost and counted. -/
theorem candidateDone_lost_effect {s : State} {y : RxCell} {l : List RxCell} (h : s.chn.cand = y :: l) (hc : correct y.cell = none) :
    (candidateDone s).chn.rx = s.chn.rx ∧
      getF (candidateDone s) (F.CHN_PERR_CAND y.port) = satAdd (F.CHN_PERR_CAND y.port).top (getF s (F.CHN_PERR_CAND y.port)) 1 ∧
      getF (candidateDone s) (F.LNK_PFEC_UNCORR y.port) =
        satAdd (F.LNK_PFEC_UNCORR y.port).top (getF s (F.LNK_PFEC_UNCORR y.port)) 1 := by
  have hne : R.CHN_PERR y.port ≠ R.LNK_PFEC y.port := by simp only [R.CHN_PERR, R.LNK_PFEC]; omega
  rw [candidateDone_lost h hc, incSat_chn, incSat_chn, getF_incSat_read _ _ _ rfl, getF_incSat_ne _ _ _ _ hne,
    getF_incSat_ne _ _ _ _ hne.symm, getF_incSat_read _ _ _ rfl]
  exact ⟨rfl, rfl, rfl⟩

/-- A corrected candidate of the unit's goes to it. -/
theorem candidateDone_delivers {s : State} {y : RxCell} {l : List RxCell} {w : Bytes} {n : Nat} (h : s.chn.cand = y :: l)
    (hc : correct y.cell = some (w, n)) (hhead : headerOk (w.take 224) = true) (hform : badHeader (w.take 224) = false)
    (hown : consumes s (w.take 224) = true) : (candidateDone s).chn.rx = s.chn.rx ++ [⟨y.port, w.take 224, y.time⟩] := by
  obtain ⟨hframe, hchn⟩ := candSound_frame s y l w n
  rw [candidateDone_corrected h hc, if_neg (by simp [hhead, hform]), hframe.consumes, hown, if_pos rfl, deliver, hchn]
  rfl

theorem insertTimeout_due {s : State} {p : Nat} {e : Nat × InsCell}
    (h : s.chn.ins.find? (fun e => e.1 == p && e.2.at0 + 1000000 ≤ upNs s) = some e) :
    insertTimeout s p = incSat { s with chn := { s.chn with ins := s.chn.ins.erase e } } (F.CHN_PERR_DROP p) := by
  rw [insertTimeout, h]

/-! ### The commands -/

/-- A codeword slot of an UP port whose descrambler is loaded. -/
theorem cellForward_checked {s : State} {p v : Nat} (hup : portUp s p = true) (hscr : (port s p).rxScr = some v) (raw : Bytes)
    (cv disp : List Nat) : ∃ u, SlotFrame s u ∧ port u p = port s p ∧ u.chn = s.chn ∧ u.out = s.out ∧
      cellForward s p raw cv disp = takeCodeword u p raw cv v := by
  obtain ⟨hframe, hlnk, hchn, hout⟩ := countSymbols_frame s p cv disp
  exact ⟨_, hframe, port_congr hlnk p, hchn, hout, cellForward_up hup hscr raw cv disp⟩

/-- A codeword without an error on a port that forwards. -/
theorem cellForward_good {s : State} {p v : Nat} {raw : Bytes} {cv : List Nat} (hup : portUp s p = true)
    (hscr : (port s p).rxScr = some v) (hgood : syndromeBad (rxBytes v raw cv) = false) (hon : blkOn s 0x0D = true)
    (hfwd : fwdOn s p = true) (disp : List Nat) : ∃ u, SlotFrame s u ∧ u.chn = s.chn ∧ u.out = s.out ∧
      cellForward s p raw cv disp = classify u p (rxBytes v raw cv) := by
  obtain ⟨u, hframe, _, hchn, hout, h⟩ := cellForward_checked hup hscr raw cv disp
  rw [h, takeCodeword_good ((hframe.portUp p).trans hup) hgood ((hframe.blkOn _).trans hon) ((hframe.fwdOn p).trans hfwd)]
  exact ⟨_, hframe.trans (codewordChecked_frame u p _ false).1, hchn, hout, rfl⟩

/-- Settles O37: codewords, then candidates, then cells that wait for insertion. -/
theorem cellsForwarded : Obligations.CellsForwarded := by
  unfold Obligations.CellsForwarded
  refine ⟨?codewords, ?candidates, ?waiting⟩
  case codewords =>
    intro dt p v raw cv disp s ⟨_, hlive⟩ hup hscr
    refine ⟨_, next_of_live hlive _, fun hbad hrun => ?_, fun hgood hon hfwd hother => ?_⟩
    · obtain ⟨u, hframe, hport, _, _, h⟩ := cellForward_checked hup hscr raw cv disp
      rw [h, takeCodeword_sixteenth ((hframe.portUp p).trans hup) hbad (by rw [hport, hrun])]
      exact pState_portDown _ _ (by decide)
    · obtain ⟨u, hframe, hchn, hout, h⟩ := cellForward_good hup hscr hgood hon hfwd disp
      have hother' : fwdOn u (1 - p) = true := (hframe.fwdOn _).trans hother
      rw [h, ← hout, ← hchn]
      refine ⟨fun hhead hform => ⟨fun hfree => ?_, fun hfree hnone => ?_, fun hnot => ?_⟩, fun hhead => ?_⟩
      · exact classify_forwards hhead hform hother' ((hframe.slotEmpty _).trans hfree)
      · exact classify_idles hhead hform hother' ((hframe.slotEmpty _).trans hfree) (by rw [insCount, hchn, ← insCount, hnone])
      · exact classify_leaves hhead hform hother' ((hframe.consumes _).trans hnot)
      · rw [classify_candidate hhead hother', out_emit, ← hframe.stampNow]
        exact ⟨rfl, rfl⟩
  case candidates =>
    intro y l s hon hcand _
    exact ⟨_, whenOn_of_on hon _, cand_candidateDone hcand, candidateDone_lost_effect hcand,
      fun w n hc hhead hform hown => candidateDone_delivers hcand hc hhead hform hown⟩
  case waiting =>
    intro dt p e s _ hon hdue
    refine ⟨_, whenOn_of_on hon (fun s => insertTimeout s p), ?_⟩
    rw [insertTimeout_due hdue, incSat_chn, getF_incSat_read _ _ _ rfl]
    exact ⟨rfl, rfl⟩

end Sys2Proof.Machine
end

section
/-! PROOF. The idle cell (R271, R312): zero bytes are a codeword whatever the code's roots. -/

namespace Sys2Proof.Machine

theorem dbl_zero (g : GF) : g.dbl 0 = 0 := by simp [GF.dbl]

theorem mulN_zero (g : GF) (n b : Nat) : g.mulN n 0 b = 0 := by
  induction n generalizing b with
  | zero => rfl
  | succ n ih => rw [GF.mulN, ite_self, dbl_zero, ih, Nat.xor_self]

/-- The polynomial without a coefficient is zero everywhere. -/
theorem evalDesc_zeros (g : GF) (n x : Nat) : g.evalDesc (List.replicate n 0) x = 0 := by
  induction n with
  | zero => rfl
  | succ n ih =>
    have hstep : g.mul 0 x ^^^ 0 = 0 := (Nat.xor_zero _).trans (mulN_zero g g.m x)
    rw [GF.evalDesc, List.replicate_succ, List.foldl_cons, hstep]
    exact ih

/-- Zero bytes are a codeword. -/
theorem syndromeBad_zeros (n : Nat) : syndromeBad (zeros n) = false := by
  have hword : (zeros n).map BitVec.toNat = List.replicate n 0 := List.map_replicate
  simp [syndromeBad, GF.syndromes, hword, evalDesc_zeros]

theorem allZero_zeros (n : Nat) : allZero (zeros n) = true := by simp [allZero, zeros]

theorem getD_zeros (n i : Nat) : (zeros n).getD i 0#8 = 0#8 := by
  rw [zeros, List.getD_eq_getElem?_getD, List.getElem?_getD_replicate_default_eq]

theorem byteAt_zeros (n i : Nat) : byteAt (zeros n) i = 0 := congrArg BitVec.toNat (getD_zeros n i)

theorem slice_zeros (n off k : Nat) : slice (zeros n) off k = zeros k := by
  simp only [slice, getD_zeros, List.map_const', List.length_range]
  rfl

/-- Settles O13: header check, header form and parity in turn. -/
theorem idleCellIsZero : Obligations.IdleCellIsZero := by
  unfold Obligations.IdleCellIsZero
  refine ⟨rfl, ?check, ?form, ?parity⟩
  case check =>
    rw [headerOk, idleCell, slice_zeros, byteAt_zeros]
    decide +kernel
  case form =>
    rw [badHeader, cellKind, cellAddr, beAt, idleCell, allZero_zeros, slice_zeros, byteAt_zeros]
    decide
  case parity =>
    have hcodeword : idleCell ++ zeros 16 = zeros 240 := List.replicate_append_replicate
    rw [hcodeword, syndromeBad_zeros]

end Sys2Proof.Machine
end

section
/-! PROOF. Letters in segments and roll-calls (R330, R331, R345, R346), and the state in which a cell is taken. -/

namespace Sys2Proof.Machine

/-! ### A unit takes a cell -/

/-- A cell is taken out of the list of those that arrived for the unit. -/
def rxTaken (s : State) (y : RxCell) : State := { s with chn := { s.chn with rx := s.chn.rx.erase y } }

theorem takeRx_state {s x : State} {k : Bytes → Bool} {y : RxCell} (h : takeRx s k = some (y, x)) : x = rxTaken s y := by
  unfold takeRx at h
  split at h
  · obtain ⟨rfl, rfl⟩ := Prod.mk.inj (Option.some.inj h)
    rfl
  · cases h

/-! ### Segments (R331) -/

theorem exec_letterSegment {s x : State} {y : RxCell} (hon : blkOn s 0x0D = true)
    (h : takeRx s (fun c => cellKind c == 3 || cellKind c == 7) = some (y, x)) : exec .letterSegment s = .next (segment x y) := by
  show execLetterSegment s = _
  simp only [execLetterSegment, whenOn_of_on hon, h]

/-- What a segment carries. -/
def segPart (y : RxCell) : Nat × Bytes := (byteAt y.cell 8, slice y.cell 12 (byteAt y.cell 10))

/-- The reassembly that a letter's first segment starts. -/
def reasmOpened (s : State) (y : RxCell) : Reasm :=
  ⟨y.port, cellAddr y.cell, cellOrig y.cell, byteAt y.cell 5, beAt y.cell 6 2, byteAt y.cell 4, byteAt y.cell 11, byteAt y.cell 9,
    cellKind y.cell, upNs s, [segPart y]⟩

section
variable {s : State} {y : RxCell}

/-- A segment of no letter in reassembly, with its fields in range. -/
theorem segment_first (hnone : s.chn.reasm.find? (segOf y.cell) = none) (hok : segOk y.cell = true) : segment s y =
    if isTile s ∧ bit (byteAt y.cell 11) 4 then s
    else if byteAt y.cell 9 = 1 then letterDone s (segLetter y (segPart y).2)
    else if 8 ≤ s.chn.reasm.length then segRefuse s y .noResource
    else { s with chn := { s.chn with reasm := s.chn.reasm ++ [reasmOpened s y] } } := by
  simp only [segment, hnone, hok]
  rfl

/-- A letter of one segment is complete at a sender. -/
theorem segment_complete (hnone : s.chn.reasm.find? (segOf y.cell) = none) (hok : segOk y.cell = true)
    (hone : byteAt y.cell 9 = 1) (htile : isTile s = false) : (segment s y).chn.letters = s.chn.letters ++ [segLetter y (segPart y).2] := by
  rw [segment_first hnone hok, if_neg (by simp [htile]), if_pos hone, letterDone, if_neg (by simp [htile])]

/-- The first segment of a longer letter starts a reassembly. -/
theorem segment_opens (hnone : s.chn.reasm.find? (segOf y.cell) = none) (hok : segOk y.cell = true)
    (hmore : byteAt y.cell 9 ≠ 1) (hroom : s.chn.reasm.length < 8) (hhere : isTile s = false ∨ bit (byteAt y.cell 11) 4 = false) :
    segment s y = { s with chn := { s.chn with reasm := s.chn.reasm ++ [reasmOpened s y] } } := by
  rw [segment_first hnone hok, if_neg (by rcases hhere with h | h <;> simp [h]), if_neg hmore, if_neg (Nat.not_le.2 hroom)]

end

theorem reasmTimeout_due {s : State} {r : Reasm} (h : s.chn.reasm.find? (fun r => r.at0 + 10000000 ≤ upNs s) = some r) :
    reasmTimeout s = incSat { s with chn := { s.chn with reasm := s.chn.reasm.erase r } } F.CHN_LSTAT_REASMTO := by
  rw [reasmTimeout, h]

/-! ### A sender's roll-call (R345) -/

/-- The ROLLCALL that a sender sends on port `p`. -/
def rollcallOf (s : State) (rid p len : Nat) : Bytes :=
  mkCell 0xFFFE 8 false
    (rollcallBody (getF s (F.CHN_PORTCTL_CHAIN p)) (getF s F.TAN_CFG_RANK) 0 len rid (isSet s (F.CHN_PORTCTL_END p)))

/-- A sender roll-calls one chain; how many tiles it knows of is a free value. -/
def rollcallSent (rid : Nat) (s : State) (p : Nat) : State :=
  sendNow (drawNat s).2 [p] (rollcallOf s rid p (Config.freeNat s.free % 513))

theorem sendRollcall_eq (s : State) : sendRollcall s = (livePorts s).foldl (rollcallSent s.chn.nextLid) (newLid s).2 := rfl

theorem regs_rollcallSent (rid : Nat) (s : State) (p : Nat) : (rollcallSent rid s p).regs = s.regs := rfl

theorem out_rollcallSent (rid : Nat) (s : State) (p : Nat) :
    (rollcallSent rid s p).out = s.out ++ [.cell p (rollcallOf s rid p (Config.freeNat s.free % 513))] := rfl

theorem nextLid_rollcallSent (rid : Nat) (s : State) (p : Nat) : (rollcallSent rid s p).chn.nextLid = s.chn.nextLid := rfl

theorem rollcallOf_congr {s t : State} (h : t.regs = s.regs) (rid p len : Nat) : rollcallOf t rid p len = rollcallOf s rid p len := by
  simp only [rollcallOf, isSet, getF, State.word, h]

theorem nextLid_sendRollcall (s : State) : (sendRollcall s).chn.nextLid = (s.chn.nextLid + 1) % 65536 := by
  rw [sendRollcall_eq]
  refine List.foldlRecOn (motive := fun t : State => t.chn.nextLid = (s.chn.nextLid + 1) % 65536) (livePorts s) _ rfl ?_
  exact fun t ht p _ => (nextLid_rollcallSent _ t p).trans ht

/-- A roll-call goes out on each enabled port that is UP. -/
theorem sendRollcall_sends {s : State} {p : Nat} (hp : p ∈ livePorts s) :
    ∃ len, .cell p (rollcallOf s s.chn.nextLid p len) ∈ (sendRollcall s).out := by
  rw [sendRollcall_eq]
  refine foldl_establishes (f := rollcallSent s.chn.nextLid) (a := (newLid s).2) (P := fun t : State => t.regs = s.regs)
    (Q := fun t : State => ∃ len, .cell p (rollcallOf s s.chn.nextLid p len) ∈ t.out) hp
    (fun t q _ ht => (regs_rollcallSent _ t q).trans ht) (fun t q _ ht => ?_) (fun t ht => ?_) rfl
  · obtain ⟨len, hmem⟩ := ht
    exact ⟨len, by rw [out_rollcallSent]; exact List.mem_append_left _ hmem⟩
  · exact ⟨_, by rw [out_rollcallSent, rollcallOf_congr ht]; exact List.mem_append_right _ (List.mem_singleton_self _)⟩

/-! ### A roll-call reaches a tile (R346) -/

theorem exec_rollcallCell {s x : State} {y : RxCell} (hon : blkOn s 0x0D = true) (hsender : isSender s = false)
    (h : takeRx s (fun c => cellKind c == 8) = some (y, x)) : exec .rollcallCell s = .next (rollcall x y) := by
  show execRollcallCell s = _
  simp only [execRollcallCell, whenOn_of_on hon, hsender, h, Bool.false_eq_true, if_false]

theorem exec_rollcallCell_sender {s : State} (hon : blkOn s 0x0D = true) (hsender : isSender s = true) :
    exec .rollcallCell s = .next (sendRollcall s) := by
  show execRollcallCell s = _
  simp only [execRollcallCell, whenOn_of_on hon, hsender, if_true]

/-- A tile takes its postcode from the head, which lies at port `p`. -/
def headAdopted (s : State) (chain pos p : Nat) : State :=
  setF (setF (adopt s chain pos 0) (F.CHN_PORTCTL_HEADFACE p) 1) (F.CHN_PORTCTL_HEADFACE (1 - p)) 0

/-- A tile learns how many tiles its chain has. -/
def lengthKnown (s : State) (len : Nat) : State := if len = 0 then s else { s with chn := { s.chn with length := len } }

/-- A roll-call goes on to the next tile. -/
def rollcallPassed (s : State) (y : RxCell) : State :=
  if portUp s 0 ∧ portUp s 1 then insertCell s (1 - y.port) 0 (patch y.cell 6 (beBytes 2 (bodyBE y.cell 2 2 + 1))) else s

section
variable {s : State} {y : RxCell}

/-- A head roll-call with at most 511 hops. -/
theorem rollcall_head (hhead : bit (bodyBE y.cell 0 1) 0 = false) (hhops : bodyBE y.cell 2 2 ≤ 511) : rollcall s y =
    rollReply (rollcallPassed (headAdopted (lengthKnown s (bodyBE y.cell 4 2)) (bits (bodyBE y.cell 0 1) 4 4) (bodyBE y.cell 2 2)
      y.port) y) y.port (bodyBE y.cell 1 1) (bodyBE y.cell 6 2) .ok := by
  have hok : ¬511 < bodyBE y.cell 2 2 := Nat.not_lt.2 hhops
  simp only [rollcall, hhead, hok, rollcallPassed, headAdopted, lengthKnown, false_and, or_false, if_false, Bool.not_false, if_true,
    Bool.false_eq_true]

/-- Of the registers, passing a roll-call on and answering it change the count of dropped cells alone. -/
theorem rollcall_head_regs (hhead : bit (bodyBE y.cell 0 1) 0 = false) (hhops : bodyBE y.cell 2 2 ≤ 511) :
    RegsBut CounterOff (headAdopted (lengthKnown s (bodyBE y.cell 4 2)) (bits (bodyBE y.cell 0 1) 4 4) (bodyBE y.cell 2 2) y.port)
      (rollcall s y) := by
  rw [rollcall_head hhead hhops]
  refine rollReply_regs _ _ _ _ _ counterOff_chnPerr ?_
  unfold rollcallPassed
  split
  · exact insertCell_regs _ _ _ _ _ counterOff_chnPerr RegsBut.same
  · exact RegsBut.same

end

theorem headAdopted_fields (s : State) {chain pos p : Nat} (hchain : chain < 16) (hpos : pos ≤ 511) (hp : p < 2) :
    getF (headAdopted s chain pos p) F.CHN_POSTCODE_POSTCODE = 4096 * chain + pos ∧
    getF (headAdopted s chain pos p) F.CHN_POSTCODE_VALID = 1 ∧ getF (headAdopted s chain pos p) F.CHN_POSTCODE_SRC = 0 ∧
    getF (headAdopted s chain pos p) (F.CHN_PORTCTL_HEADFACE p) = 1 ∧
    getF (headAdopted s chain pos p) (F.CHN_PORTCTL_HEADFACE (1 - p)) = 0 := by
  have hport (q : Nat) : R.CHN_POSTCODE ≠ R.CHN_PORTCTL q := by simp only [R.CHN_POSTCODE, R.CHN_PORTCTL]; omega
  have hfaces : R.CHN_PORTCTL p ≠ R.CHN_PORTCTL (1 - p) := by simp only [R.CHN_PORTCTL]; omega
  have hpostcode : 4096 * chain + pos < 2 ^ F.CHN_POSTCODE_POSTCODE.width := by
    show _ < 65536
    omega
  have hadopt {f : Fld} (hf : f.off = R.CHN_POSTCODE) : getF (headAdopted s chain pos p) f = getF (adopt s chain pos 0) f := by
    rw [headAdopted, getF_setF_ne _ _ _ _ (hf.trans_ne (hport _)), getF_setF_ne _ _ _ _ (hf.trans_ne (hport _))]
  refine ⟨?postcode, ?valid, ?source, ?head, getF_setF_read _ _ Nat.two_pos rfl⟩
  case postcode =>
    rw [hadopt rfl, adopt, getF_setF_other _ _ (by decide) (by decide), getF_setF_other _ _ (by decide) (by decide),
      getF_setF_read _ _ hpostcode rfl]
  case valid => rw [hadopt rfl, adopt, getF_setF_other _ _ (by decide) (by decide), getF_setF_read _ _ (by decide) rfl]
  case source => rw [hadopt rfl, adopt, getF_setF_read _ _ (by decide) rfl]
  case head => rw [headAdopted, getF_setF_ne _ _ _ _ hfaces, getF_setF_read _ _ Nat.one_lt_two rfl]

/-- Settles O38, command by command; ROLLCALL_CELL at a sender and at a tile. -/
theorem segmentsAndRollCalls : Obligations.SegmentsAndRollCalls := by
  unfold Obligations.SegmentsAndRollCalls
  refine ⟨?segments, ?timeout, ?sender, ?tile⟩
  case segments =>
    intro y x s hon htake hnone hok
    refine ⟨_, exec_letterSegment hon htake, ?_⟩
    obtain rfl := takeRx_state htake
    refine ⟨fun hone htile => segment_complete (s := rxTaken s y) hnone hok hone htile, fun hmore hroom hhere => ?_⟩
    rw [segment_opens (s := rxTaken s y) hnone hok hmore hroom hhere]
    exact ⟨List.length_append, rfl⟩
  case timeout =>
    intro dt r s hon hdue
    refine ⟨_, whenOn_of_on hon _, ?_⟩
    rw [reasmTimeout_due hdue, incSat_chn, getF_incSat_read _ _ _ rfl]
    exact ⟨rfl, rfl⟩
  case sender =>
    intro s hon hsender
    exact ⟨_, exec_rollcallCell_sender hon hsender, nextLid_sendRollcall s, fun p hp => sendRollcall_sends hp⟩
  case tile =>
    intro y x s hon hsender htake hport hhead hhops
    refine ⟨_, exec_rollcallCell hon hsender htake, ?_⟩
    have hframe := rollcall_head_regs (s := x) hhead hhops
    have hsame {f : Fld} (hf : ¬CounterOff f.off) := getF_of_regs (hframe.mono fun _ ho he => hf (he ▸ ho)) (f := f)
    have hface (q : Nat) : ¬CounterOff (F.CHN_PORTCTL_HEADFACE q).off := by simp only [CounterOff]; omega
    rw [hsame (by decide), hsame (by decide), hsame (by decide), hsame (hface _), hsame (hface _)]
    exact headAdopted_fields _ (Nat.mod_lt _ (by decide)) hhops hport

end Sys2Proof.Machine
end

section
/-! PROOF. Runs and aborts at a tile (R322, R327 to R329, R418, R419). -/

namespace Sys2Proof.Machine

/-! ### What storing a run leaves of the runs noted as written -/

section
variable {l : List (Nat × Nat)}

/-- The runs noted as written and not yet committed (R328 check 7) are `l`. -/
def WrittenIs (l : List (Nat × Nat)) (s : State) : Prop := s.chn.written = l

theorem writtenIs_chn {s : State} {v : ChnSt} : WrittenIs l { s with chn := v } ↔ v.written = l := Iff.rfl

theorem writtenIs_srf {s : State} {v : SrfSt} : WrittenIs l { s with srf := v } ↔ WrittenIs l s := Iff.rfl

theorem writtenIs_free {s : State} {v : Nat} : WrittenIs l { s with free := v } ↔ WrittenIs l s := Iff.rfl

theorem WrittenIs.of_chn {s t : State} (h : WrittenIs l s) (hchn : t.chn = s.chn) : WrittenIs l t :=
  (congrArg ChnSt.written hchn).trans h

theorem WrittenIs.keeps {s t : State} (h : WrittenIs l s) (k : Keeps Part.chn.others s t) : WrittenIs l t :=
  h.of_chn (same_of_keeps .chn k)

theorem WrittenIs.foldl {α : Type} {f : State → α → State} {s : State} (h : WrittenIs l s)
    (hf : ∀ s x, WrittenIs l s → WrittenIs l (f s x)) (xs : List α) : WrittenIs l (xs.foldl f s) :=
  List.foldlRecOn xs f h fun t ht x _ => hf t x ht

theorem insertCell_writtenIs {s : State} (p cls : Nat) (c : Bytes) (m : Mark) (h : WrittenIs l s) :
    WrittenIs l (insertCell s p cls c m) := by
  unfold insertCell
  split
  · exact h
  · split
    · exact h.of_chn (incSat_chn _ _ _)
    · exact writtenIs_chn.2 h

theorem insertCells_writtenIs {s : State} (p cls : Nat) (cs : List Bytes) (h : WrittenIs l s) : WrittenIs l (insertCells s p cls cs) :=
  h.foldl (fun _ c ht => insertCell_writtenIs p cls c .none ht) cs

theorem tileLetter_writtenIs {s : State} (cls kind ltype : Nat) (content : Bytes) (h : WrittenIs l s) :
    WrittenIs l (tileLetter s cls kind ltype content) := by
  have hlid : WrittenIs l (newLid s).2 := writtenIs_chn.2 h
  unfold tileLetter
  exact hlid.foldl (fun _ p ht => insertCells_writtenIs p cls _ ht) _

/-- An event that a tile also sends as a letter puts the letter's cells into the insertion queues. -/
theorem raise_writtenIs {s : State} (code : Nat) (det : Bytes) (h : WrittenIs l s) : WrittenIs l (raise s code det) := by
  have hevent := h.keeps (appendEvent_keeps s ⟨code, timeNs s, fit 8 det⟩ (by decide) (by decide) (by decide) Keeps.same)
  unfold raise
  dsimp only
  split
  · exact tileLetter_writtenIs _ _ _ _ hevent
  · exact hevent

theorem uncorrectable_writtenIs {s : State} (b : Nat) (h : WrittenIs l s) : WrittenIs l (uncorrectable s b) := by
  unfold uncorrectable
  exact raise_writtenIs _ _ (h.of_chn (by rw [setF_chn, setF_chn, incSat_chn]))

theorem blockStore_writtenIs {s : State} (port a : Nat) (b : Bytes) (h : WrittenIs l s) : WrittenIs l (blockStore s port a b) := by
  have hcount : WrittenIs l (incSat s F.DRC_HAZSTAT_RMW) := h.of_chn (incSat_chn _ _ _)
  unfold blockStore
  dsimp only
  split
  · exact h.of_chn (dramWr_chn _ _ _)
  · split
    · exact (uncorrectable_writtenIs _ hcount).of_chn (emit_chn _ _)
    · exact hcount.of_chn (dramWr_chn _ _ _)

theorem dramStore_writtenIs {s : State} (port a : Nat) (b : Bytes) (h : WrittenIs l s) : WrittenIs l (dramStore s port a b) :=
  h.foldl (fun _ p ht => blockStore_writtenIs port p.1 p.2 ht) _

theorem srfWalk_writtenIs {s : State} (vp : Nat) (h : WrittenIs l s) : WrittenIs l (srfWalk s vp) := by
  have hmiss : WrittenIs l (incMod s F.SRF_TCMISS_COUNT) := h.of_chn (incMod_chn _ _ _)
  unfold srfWalk
  dsimp only
  split
  · exact h
  · split
    · exact uncorrectable_writtenIs _ hmiss
    · exact writtenIs_srf.2 (writtenIs_free.2 hmiss)

theorem surfWrite_writtenIs {s : State} (port a : Nat) (b : Bytes) (h : WrittenIs l s) : WrittenIs l (surfWrite port s a b) := by
  refine List.foldlRecOn (motive := fun q : State × Bytes => WrittenIs l q.1) _ _ h fun q hq p _ => ?_
  have hwalk := srfWalk_writtenIs p.1 hq
  dsimp only
  split
  · exact dramStore_writtenIs _ _ _ hwalk
  · exact hwalk.keeps (upstream_keeps _ _ (by decide) (by decide) (by decide) Keeps.same)
  · exact hwalk

theorem storeRun_writtenIs {s : State} (buf stream run count : Nat) (pix : Bytes) (h : WrittenIs l s) :
    WrittenIs l (storeRun s buf stream run count pix) := by
  unfold storeRun
  dsimp only
  split
  · exact h
  · exact h.foldl (fun _ _ ht => surfWrite_writtenIs 3 _ _ ht) _

theorem setFrame_writtenIs {s : State} (f : TFrame) (h : WrittenIs l s) : WrittenIs l (setFrame s f) :=
  h.keeps (setFrame_keeps s f (by decide) Keeps.same)

/-- What becomes of a run that passed its checks leaves the runs noted as written. -/
theorem takeRun_writtenIs {s : State} (n stream run count stamp : Nat) (pix : Bytes) (h : WrittenIs l s) :
    WrittenIs l (takeRun s n stream run count stamp pix) := by
  unfold takeRun
  dsimp only
  split
  case isTrue =>
    split
    · exact h
    · exact setFrame_writtenIs _ h
  case isFalse =>
    split
    case isTrue =>
      split
      · split
        · exact (setFrame_writtenIs _ h).of_chn (incSat_chn _ _ _)
        · exact setFrame_writtenIs _ h
      · exact setFrame_writtenIs _ h
    case isFalse =>
      split
      · exact h
      · split
        · exact (setFrame_writtenIs _ h).of_chn (incSat_chn _ _ _)
        · exact storeRun_writtenIs _ _ _ _ _ (setFrame_writtenIs _ h)

end

/-! ### A run is checked (R328) -/

/-- The tile and its LMP still work as the cell has been taken. -/
theorem tileCell_works {s x : State} {k : Bytes → Bool} {y : RxCell} (h : TileCell s k y x) :
    isTile x = true ∧ blkOn x 0x11 = true := by
  obtain ⟨_, hlmp, htile, htake⟩ := h
  rw [takeRx_state htake]
  exact ⟨htile, hlmp⟩

theorem exec_runCell {s x : State} {y : RxCell} (h : TileCell s (fun c => cellKind c == 1 || cellKind c == 2) y x) :
    exec .runCell s = .next (runArrive x y) := by
  obtain ⟨htile, hlmp⟩ := tileCell_works h
  obtain ⟨hon, _, _, htake⟩ := h
  show execRunCell s = _
  simp only [execRunCell, whenOn_of_on hon, htake, htile, hlmp, Bool.and_self, if_true]

/-- A CLEAR is noted as written; no key slot is in use. -/
def clearNoted (s : State) (c : Bytes) : State :=
  setF { s with chn := { s.chn with written := s.chn.written ++ [(runFrame c, runWord c)] } } F.CHN_KEYSTAT_INUSE 0

theorem clearNoted_writtenIs (s : State) (c : Bytes) : WrittenIs (s.chn.written ++ [(runFrame c, runWord c)]) (clearNoted s c) :=
  (writtenIs_chn (s := s).2 rfl).of_chn (setF_chn _ _ _)

section
variable {s : State} {y : RxCell}

/-- A cell of another port's stream. -/
theorem runArrive_other (h : (acceptedFor s (runFrame y.cell)).1 ≠ y.port) : runArrive s y = s := by
  unfold runArrive
  exact if_pos h

variable (hacc : (acceptedFor s (runFrame y.cell)).1 = y.port)
include hacc

/-- A CLEAR while runs must be sealed. -/
theorem runArrive_unsealed (hkind : cellKind y.cell = 2) (hseal : isSet s F.CHN_CFG_SEALRUN = true) :
    runArrive s y = incSat s F.CHN_RSTAT_BADRUN := by
  simp [runArrive, hacc, hkind, hseal]

/-- A sealed run that does not fit. -/
theorem runArrive_misfit (hkind : cellKind y.cell = 1) (hfit : runFits s y.cell = false) :
    runArrive s y = incSat s F.CHN_RSTAT_BADRUN := by
  simp [runArrive, hacc, hkind, hfit]

/-- A sealed run without a key in its slot. -/
theorem runArrive_keyless (hkind : cellKind y.cell = 1) (hfit : runFits s y.cell = true) (hkey : keySlot s (runSlot y.cell) = none) :
    runArrive s y = incSat s F.CHN_RSTAT_NOKEY := by
  simp [runArrive, hacc, hkind, hfit, hkey]

/-- A CLEAR that passes its checks is noted, unless it is already, and goes to the frame store. -/
theorem runArrive_clear {m : Mode} {l : Nat} {pix : Bytes} (hkind : cellKind y.cell = 2)
    (hseal : isSet s F.CHN_CFG_SEALRUN = false) (hfit : runFits s y.cell = true) (hmode : s.lmp.mode = some m)
    (hlast : lastCommitted s = some l) (hfresh : mafter 32 (runFrame y.cell) l = true)
    (hopen : runOpen y.cell none = some pix) : runArrive s y =
      if s.chn.written.contains (runFrame y.cell, runWord y.cell) then s
      else takeRun (clearNoted s y.cell) (runFrame y.cell) (runStream y.cell) (runNo y.cell) (runCount y.cell)
        (stampExt (clearNoted s y.cell) y.time) pix := by
  simp [runArrive, hacc, hkind, hseal, hfit, hmode, hlast, hfresh, hopen, clearNoted]

/-- A CLEAR that passes its checks is noted as written. -/
theorem runArrive_clear_noted {m : Mode} {l : Nat} {pix : Bytes} (hkind : cellKind y.cell = 2)
    (hseal : isSet s F.CHN_CFG_SEALRUN = false) (hfit : runFits s y.cell = true) (hmode : s.lmp.mode = some m)
    (hlast : lastCommitted s = some l) (hfresh : mafter 32 (runFrame y.cell) l = true)
    (hopen : runOpen y.cell none = some pix) :
    (runFrame y.cell, runWord y.cell) ∈ (runArrive s y).chn.written := by
  rw [runArrive_clear hacc hkind hseal hfit hmode hlast hfresh hopen]
  split
  case isTrue hold => exact List.contains_iff_mem.1 hold
  case isFalse =>
    rw [takeRun_writtenIs _ _ _ _ _ _ (clearNoted_writtenIs s y.cell)]
    exact List.mem_append_right _ (List.mem_singleton_self _)

end

/-! ### An ABORT (R322, R418) -/

theorem exec_abortCell {s x : State} {y : RxCell} (h : TileCell s (fun c => cellKind c == 5) y x) :
    exec .abortCell s = .next (abortArrive x y) := by
  obtain ⟨htile, hlmp⟩ := tileCell_works h
  obtain ⟨hon, _, _, htake⟩ := h
  show execAbortCell s = _
  simp only [execAbortCell, whenOn_of_on hon, htake, htile, hlmp, Bool.and_self, if_true]

section
variable {s : State} {n : Nat}

/-- Replacing a frame's record leaves no other record of the frame. -/
theorem eq_of_mem_setFrame {f g : TFrame} (hg : g ∈ (setFrame s f).lmp.frames) (hn : g.n = f.n) : g = f := by
  unfold setFrame at hg
  dsimp only at hg
  split at hg
  case isTrue =>
    obtain ⟨a, _, rfl⟩ := List.mem_map.1 hg
    by_cases ha : a.n = f.n
    · exact if_pos ha
    · rw [if_neg ha] at hn
      exact absurd hn ha
  case isFalse hnone =>
    rcases List.mem_append.1 hg with hold | hnew
    · exact absurd (List.any_eq_true.2 ⟨g, hold, by simpa using hn⟩) hnone
    · exact List.mem_singleton.1 hnew

/-- What was received of frame `n` is emptied. -/
def frameEmptied (s : State) (n : Nat) : State :=
  match s.lmp.frames.find? (fun f => f.n == n) with
  | some f => setFrame s { f with buf := none, runs := [], cut := f.cut || !f.runs.isEmpty }
  | none => s

theorem frameEmptied_chn : (frameEmptied s n).chn = s.chn := by
  unfold frameEmptied
  split
  · exact same_of_keeps .chn (setFrame_keeps _ _ (by decide) Keeps.same)
  · rfl

theorem frameEmptied_empties {g : TFrame} (hg : g ∈ (frameEmptied s n).lmp.frames) (hn : g.n = n) :
    g.buf = none ∧ g.runs = [] := by
  unfold frameEmptied at hg
  split at hg
  case h_1 f hfind =>
    have hf : f.n = n := by simpa using List.find?_some hfind
    rw [eq_of_mem_setFrame hg (hn.trans hf.symm)]
    exact ⟨rfl, rfl⟩
  case h_2 hfind => exact absurd (by simpa using hn) (List.find?_eq_none.1 hfind g hg)

/-- An ABORT of a frame is remembered. -/
def abortNoted (s : State) (n : Nat) : State := { s with chn := { s.chn with aborted := s.chn.aborted.filter (· != n) ++ [n] } }

/-- An ABORT of the accepted claim that comes before the commit instant of a frame that is not committed yet. -/
theorem abortArrive_accepted {y : RxCell} (hacc : acceptedFor s (bodyBE y.cell 0 4) = (y.port, bodyBE y.cell 4 4))
    (hpast : commitPast s (bodyBE y.cell 0 4) = false)
    (hearly : ∀ m st, modeOf s (bodyBE y.cell 0 4) = some (m, st) →
      (stampExt s y.time : Int) * 2 ^ 8 < commitAt m st (bodyBE y.cell 0 4))
    (hfresh : ∀ l, lastCommitted s = some l → mafter 32 (bodyBE y.cell 0 4) l = true) :
    abortArrive s y = frameEmptied (abortNoted s (bodyBE y.cell 0 4)) (bodyBE y.cell 0 4) := by
  unfold abortArrive
  dsimp only
  rw [hacc]
  dsimp only
  rw [if_neg]
  · unfold frameEmptied abortNoted
    rfl
  · rintro (hport | hclaim | hlate | hstale | hpassed)
    · exact hport rfl
    · exact hclaim rfl
    · split at hlate
      case h_1 m st hmode =>
        rw [decide_eq_true (hearly m st hmode)] at hlate
        cases hlate
      case h_2 => cases hlate
    · split at hstale
      case h_1 l hlast =>
        rw [hfresh l hlast] at hstale
        cases hstale
      case h_2 => cases hstale
    · rw [hpast] at hpassed
      cases hpassed

end

/-- Settles O46: a run by the branch of its checks that takes it, and an ABORT. -/
theorem runsAndAborts : Obligations.RunsAndAborts := by
  unfold Obligations.RunsAndAborts
  refine ⟨?runs, ?aborts⟩
  case runs =>
    intro y x s h
    refine ⟨_, exec_runCell h, ?_⟩
    obtain ⟨_, _, _, htake⟩ := h
    obtain rfl := takeRx_state htake
    refine ⟨fun hother => runArrive_other (s := rxTaken s y) hother, fun hacc hkind hseal => ?_, fun hacc hkind hfit => ?_,
      fun hacc hkind hfit hkey => ?_, fun m l pix hacc hkind hseal hfit hmode hlast hfresh hopen => ?_⟩
    · rw [runArrive_unsealed (s := rxTaken s y) hacc hkind hseal, getF_incSat_read _ _ _ rfl]
      rfl
    · rw [runArrive_misfit (s := rxTaken s y) hacc hkind hfit, getF_incSat_read _ _ _ rfl]
      rfl
    · rw [runArrive_keyless (s := rxTaken s y) hacc hkind hfit hkey, getF_incSat_read _ _ _ rfl, incSat_dram]
      exact ⟨rfl, rfl⟩
    · exact runArrive_clear_noted (s := rxTaken s y) hacc hkind hseal hfit hmode hlast hfresh hopen
  case aborts =>
    intro y x s h hacc hpast hearly hfresh
    refine ⟨_, exec_abortCell h, ?_⟩
    obtain ⟨_, _, _, htake⟩ := h
    obtain rfl := takeRx_state htake
    rw [abortArrive_accepted (s := rxTaken s y) hacc hpast hearly hfresh, frameEmptied_chn]
    exact ⟨List.mem_append_right _ (List.mem_singleton_self _), fun f hf hn => frameEmptied_empties hf hn⟩

end Sys2Proof.Machine
end

section
/-! PROOF. The statement about link delays (R341, R342, R371) against the model: while CHN is in block reset it keeps no cell (R355),
so a tile's PRESP is not inserted. -/

namespace Sys2Proof.Machine

theorem exec_preqPostmark {s x : State} {y : RxCell} (hon : blkOn s 0x0F = true) (h : takeRx s (isPostmark 1) = some (y, x)) :
    exec .preqPostmark s = .next (preqArrive x y) := by
  show execPreqPostmark s = _
  simp only [execPreqPostmark, whenOn_of_on hon, h]

/-- A tile whose CHN is in block reset answers no PREQ. -/
theorem preqArrive_chnReset {s : State} (htile : isTile s = true) (hreset : blkReset s 0x0D = true) (y : RxCell) :
    preqArrive s y = s := by
  rw [preqArrive, sendLocal, if_pos htile, insertCell, if_pos hreset]

/-- A PREQ that came by port 1. -/
def lonePreq : RxCell := ⟨1, postmark false 1 0 9 0 0 0 0 0, 3276800⟩

/-- A READY tile whose CHN is in block reset and has a PREQ taken; no cell waits for insertion. -/
def resetTile : State :=
  setF (setF (setF { State.reset with
      boot := { State.reset.boot with pwronLow := false }
      chn := { State.reset.chn with rx := [lonePreq] } } F.GLB_ROLE_STRAP 1) F.GLB_BOOTSTAT_STAGE 7) F.GLB_BLKRST_BLK (2 ^ 0x0D)

theorem takeRx_resetTile : takeRx resetTile (isPostmark 1) = some (lonePreq, rxTaken resetTile lonePreq) := by
  have hpreq : isPostmark 1 lonePreq.cell = true := by decide +kernel
  have hfind : resetTile.chn.rx.find? (fun x => isPostmark 1 x.cell) = some lonePreq := List.find?_cons_of_pos hpreq
  rw [takeRx, hfind]
  rfl

/-- PREQ_POSTMARK takes the PREQ and inserts no PRESP. -/
theorem exec_preqPostmark_resetTile : exec .preqPostmark resetTile = .next (rxTaken resetTile lonePreq) := by
  rw [exec_preqPostmark (by decide +kernel) takeRx_resetTile,
    preqArrive_chnReset (by decide +kernel) (by decide +kernel)]

/-- Refutes O42 by its clause on a PREQ received: that a tile inserts its PRESP where fewer than 32 cells wait there asks that TIM
works, but not that CHN does. In `resetTile`, one of all the states the clause speaks of, CHN is in block reset, and no cell is
inserted. -/
theorem not_linkDelays : ¬ Obligations.LinkDelays := by
  unfold Obligations.LinkDelays
  rintro ⟨_, hanswer, _, _⟩
  obtain ⟨t, hexec, _, hinserted⟩ := hanswer lonePreq _ resetTile (by decide +kernel) takeRx_resetTile
  obtain rfl : rxTaken resetTile lonePreq = t := by simpa [exec_preqPostmark_resetTile] using hexec
  have hins := congrArg List.length (hinserted (by decide +kernel) (by decide +kernel))
  rw [List.length_append] at hins
  exact absurd hins (by decide +kernel)

end Sys2Proof.Machine
end

section
/-! PROOF. The frame of every command: the parts of the state and the registers it leaves as they were, and that every step keeps
the tables canonical. -/

-- The proofs run one after another, so that the stacks of parallel ones stay within the memory of the check.
set_option Elab.async false

namespace Sys2Proof.Machine

/-! ### What a step runs -/

/-- Settles O1. -/
theorem stepRunsFrontCommand : Obligations.StepRunsFrontCommand := by
  unfold Obligations.StepRunsFrontCommand
  intro c l s h
  rw [step, h]

/-- Settles O4: no row of the table has bits, so there is nothing to decode. -/
theorem noWordSpellsCommand : Obligations.NoWordSpellsCommand := by
  unfold Obligations.NoWordSpellsCommand
  exact fun _ _ _ => ⟨rfl, rfl⟩

/-! ### The parts of the state that a command touches -/

/-- A command does to the queue, the tables and the parts of the state what `touched` lists. -/
theorem exec_keeps {c : Instr} {s t : State} (h : exec c s = .next t) : Keeps (touched c) s t := by
  cases c <;> dsimp only [exec, touched] at h ⊢
  case railFault => apply execRailFault_keeps (ht := h) (h0 := Keeps.same) <;> decide
  case railWarn => apply execRailWarn_keeps (ht := h) (h0 := Keeps.same) <;> decide
  case vddAonApply => apply execVddAonApply_keeps (ht := h) (h0 := Keeps.same) <;> decide
  case pwronResetAssert => apply execPwronResetAssert_keeps (ht := h) (h0 := Keeps.same) <;> decide
  case coldResetRelease => apply execColdResetRelease_keeps (ht := h) (h0 := Keeps.same) <;> decide
  case warmResetPin => apply execWarmResetPin_keeps (ht := h) (h0 := Keeps.same) <;> decide
  case warmResetSoftware => apply execWarmResetSoftware_keeps (ht := h) (h0 := Keeps.same) <;> decide
  case watchdogExpiry => apply execWatchdogExpiry_keeps (ht := h) (h0 := Keeps.same) <;> decide
  case warmResetAssert => apply execWarmResetAssert_keeps (ht := h) (h0 := Keeps.same) <;> decide
  case warmResetRelease => apply execWarmResetRelease_keeps (ht := h) (h0 := Keeps.same) <;> decide
  case refClkLoss => apply execRefClkLoss_keeps (ht := h) (h0 := Keeps.same) <;> decide
  case refClkGood => apply execRefClkGood_keeps (ht := h) (h0 := Keeps.same); decide
  case pllStageDone => apply execPllStageDone_keeps (ht := h) (h0 := Keeps.same) <;> decide
  case romStageDone => apply execRomStageDone_keeps (ht := h) (h0 := Keeps.same) <;> decide
  case firstStageDone => apply execFirstStageDone_keeps (ht := h) (h0 := Keeps.same) <;> decide
  case dramStageDone => apply execDramStageDone_keeps (ht := h) (h0 := Keeps.same) <;> decide
  case firmwareStageDone => apply execFirmwareStageDone_keeps (ht := h) (h0 := Keeps.same) <;> decide
  case ucieAttemptEnd => apply execUcieAttemptEnd_keeps (ht := h) (h0 := Keeps.same) <;> decide
  case ucieBackoffEnd => apply execUcieBackoffEnd_keeps (ht := h) (h0 := Keeps.same) <;> decide
  case ucieWindowClose => apply execUcieWindowClose_keeps (ht := h) (h0 := Keeps.same) <;> decide
  case bootHoldRetry => apply execBootHoldRetry_keeps (ht := h) (h0 := Keeps.same) <;> decide
  case registerWrite => apply execRegisterWrite_keeps (ht := h) (h0 := Keeps.same) <;> decide
  case errinfoClear => apply execErrinfoClear_keeps (ht := h) (h0 := Keeps.same) <;> decide
  case barMisalignedRead => apply execBarMisalignedRead_keeps (ht := h) (h0 := Keeps.same) <;> decide
  case evtqRead => apply execEvtqRead_keeps (ht := h) (h0 := Keeps.same) <;> decide
  case dmaBytesRead => apply execDmaBytesRead_keeps (ht := h) (h0 := Keeps.same) <;> decide
  case timNowRead => apply execTimNowRead_keeps (ht := h) (h0 := Keeps.same) <;> decide
  case timCapRead => apply execTimCapRead_keeps (ht := h) (h0 := Keeps.same) <;> decide
  case secNonceRead => apply execSecNonceRead_keeps (ht := h) (h0 := Keeps.same) <;> decide
  case queBlockReset => apply execQueBlockReset_keeps (ht := h) (h0 := Keeps.same) <;> decide
  case dmaBlockReset => apply execDmaBlockReset_keeps (ht := h) (h0 := Keeps.same) <;> decide
  case sorBlockReset => apply execSorBlockReset_keeps (ht := h) (h0 := Keeps.same) <;> decide
  case srfBlockReset => apply execSrfBlockReset_keeps (ht := h) (h0 := Keeps.same) <;> decide
  case cmpBlockReset => apply execCmpBlockReset_keeps (ht := h) (h0 := Keeps.same) <;> decide
  case frtBlockReset => apply execFrtBlockReset_keeps (ht := h) (h0 := Keeps.same) <;> decide
  case lnkBlockReset => apply execLnkBlockReset_keeps (ht := h) (h0 := Keeps.same) <;> decide
  case chnBlockReset => apply execChnBlockReset_keeps (ht := h) (h0 := Keeps.same) <;> decide
  case timBlockReset => apply execTimBlockReset_keeps (ht := h) (h0 := Keeps.same) <;> decide
  case tanBlockReset => apply execTanBlockReset_keeps (ht := h) (h0 := Keeps.same) <;> decide
  case lmpBlockReset => apply execLmpBlockReset_keeps (ht := h) (h0 := Keeps.same) <;> decide
  case spkBlockReset => apply execSpkBlockReset_keeps (ht := h) (h0 := Keeps.same) <;> decide
  case calBlockReset => apply execCalBlockReset_keeps (ht := h) (h0 := Keeps.same) <;> decide
  case dbgBlockReset => apply execDbgBlockReset_keeps (ht := h) (h0 := Keeps.same) <;> decide
  case blockResetEnd => apply execBlockResetEnd_keeps (ht := h) (h0 := Keeps.same) <;> decide
  case hifLinkLoss => apply execHifLinkLoss_keeps (ht := h) (h0 := Keeps.same) <;> decide
  case hifRetrain => apply execHifRetrain_keeps (ht := h) (h0 := Keeps.same) <;> decide
  case hifRetryTimer => apply execHifRetryTimer_keeps (ht := h) (h0 := Keeps.same) <;> decide
  case bmeChange => apply execBmeChange_keeps (ht := h) (h0 := Keeps.same) <;> decide
  case msixUnmask => apply execMsixUnmask_keeps (ht := h) (h0 := Keeps.same) <;> decide
  case queueEnable => apply execQueueEnable_keeps (ht := h) (h0 := Keeps.same) <;> decide
  case queueDisable => apply execQueueDisable_keeps (ht := h) (h0 := Keeps.same) <;> decide
  case queueStop => apply execQueueStop_keeps (ht := h) (h0 := Keeps.same) <;> decide
  case queueResume => apply execQueueResume_keeps (ht := h) (h0 := Keeps.same) <;> decide
  case doorbell => apply execDoorbell_keeps (ht := h) (h0 := Keeps.same) <;> decide
  case ringReadComplete => apply execRingReadComplete_keeps (ht := h) (h0 := Keeps.same) <;> decide
  case ringRecheckTimeout => apply execRingRecheckTimeout_keeps (ht := h) (h0 := Keeps.same) <;> decide
  case sorDispatch => apply execSorDispatch_keeps (ht := h) (h0 := Keeps.same) <;> decide
  case sorPreempt => apply execSorPreempt_keeps (ht := h) (h0 := Keeps.same) <;> decide
  case dmaSegmentReadDone => apply execDmaSegmentReadDone_keeps (ht := h) (h0 := Keeps.same) <;> decide
  case dmaReadDone => apply execDmaReadDone_keeps (ht := h) (h0 := Keeps.same) <;> decide
  case hostReadTimeout => apply execHostReadTimeout_keeps (ht := h) (h0 := Keeps.same) <;> decide
  case lateCompletion => apply execLateCompletion_keeps (ht := h) (h0 := Keeps.same) <;> decide
  case dmaDescriptorComplete => apply execDmaDescriptorComplete_keeps (ht := h) (h0 := Keeps.same) <;> decide
  case slotPoll => apply execSlotPoll_keeps (ht := h) (h0 := Keeps.same) <;> decide
  case slotReadDone => apply execSlotReadDone_keeps (ht := h) (h0 := Keeps.same) <;> decide
  case slotReadFail => apply execSlotReadFail_keeps (ht := h) (h0 := Keeps.same) <;> decide
  case loadWindowEnd => apply execLoadWindowEnd_keeps (ht := h) (h0 := Keeps.same) <;> decide
  case srfEnable => apply execSrfEnable_keeps (ht := h) (h0 := Keeps.same) <;> decide
  case srfTableInitDone => apply execSrfTableInitDone_keeps (ht := h) (h0 := Keeps.same) <;> decide
  case surfaceCreate => apply execSurfaceCreate_keeps (ht := h) (h0 := Keeps.same) <;> decide
  case surfaceBack => apply execSurfaceBack_keeps (ht := h) (h0 := Keeps.same) <;> decide
  case surfaceFree => apply execSurfaceFree_keeps (ht := h) (h0 := Keeps.same) <;> decide
  case surfaceInval => apply execSurfaceInval_keeps (ht := h) (h0 := Keeps.same) <;> decide
  case frameRetire => apply execFrameRetire_keeps (ht := h) (h0 := Keeps.same) <;> decide
  case prefetchIssue => apply execPrefetchIssue_keeps (ht := h) (h0 := Keeps.same) <;> decide
  case prefetchDone => apply execPrefetchDone_keeps (ht := h) (h0 := Keeps.same) <;> decide
  case prefetchFail => apply execPrefetchFail_keeps (ht := h) (h0 := Keeps.same) <;> decide
  case latePage => apply execLatePage_keeps (ht := h) (h0 := Keeps.same) <;> decide
  case bookLoad => apply execBookLoad_keeps (ht := h) (h0 := Keeps.same) <;> decide
  case curveLoad => apply execCurveLoad_keeps (ht := h) (h0 := Keeps.same) <;> decide
  case filterLoad => apply execFilterLoad_keeps (ht := h) (h0 := Keeps.same) <;> decide
  case cmpEnable => apply execCmpEnable_keeps (ht := h) (h0 := Keeps.same) <;> decide
  case cmpDisable => apply execCmpDisable_keeps (ht := h) (h0 := Keeps.same) <;> decide
  case cmpFrameDone => apply execCmpFrameDone_keeps (ht := h) (h0 := Keeps.same) <;> decide
  case senderCadence => apply execSenderCadence_keeps (ht := h) (h0 := Keeps.same) <;> decide
  case rasterDeadline => apply execRasterDeadline_keeps (ht := h) (h0 := Keeps.same) <;> decide
  case latchInstant => apply execLatchInstant_keeps (ht := h) (h0 := Keeps.same) <;> decide
  case commitGo => apply execCommitGo_keeps (ht := h) (h0 := Keeps.same) <;> decide
  case commitEntry => apply execCommitEntry_keeps (ht := h) (h0 := Keeps.same) <;> decide
  case modeEntry => apply execModeEntry_keeps (ht := h) (h0 := Keeps.same) <;> decide
  case frtEnable => apply execFrtEnable_keeps (ht := h) (h0 := Keeps.same) <;> decide
  case frtDisable => apply execFrtDisable_keeps (ht := h) (h0 := Keeps.same) <;> decide
  case portEnable => apply execPortEnable_keeps (ht := h) (h0 := Keeps.same) <;> decide
  case portDisable => apply execPortDisable_keeps (ht := h) (h0 := Keeps.same) <;> decide
  case portRetrain => apply execPortRetrain_keeps (ht := h) (h0 := Keeps.same) <;> decide
  case portTestEnter => apply execPortTestEnter_keeps (ht := h) (h0 := Keeps.same) <;> decide
  case portTestExit => apply execPortTestExit_keeps (ht := h) (h0 := Keeps.same) <;> decide
  case prbsInject => apply execPrbsInject_keeps (ht := h) (h0 := Keeps.same) <;> decide
  case receiverDetect => apply execReceiverDetect_keeps (ht := h) (h0 := Keeps.same) <;> decide
  case presetTrial => apply execPresetTrial_keeps (ht := h) (h0 := Keeps.same) <;> decide
  case linkStageDone => apply execLinkStageDone_keeps (ht := h) (h0 := Keeps.same) <;> decide
  case linkAttemptFail => apply execLinkAttemptFail_keeps (ht := h) (h0 := Keeps.same) <;> decide
  case linkBackoffEnd => apply execLinkBackoffEnd_keeps (ht := h) (h0 := Keeps.same) <;> decide
  case chainDown => apply execChainDown_keeps (ht := h) (h0 := Keeps.same) <;> decide
  case laneSpare => apply execLaneSpare_keeps (ht := h) (h0 := Keeps.same) <;> decide
  case steerReceive => apply execSteerReceive_keeps (ht := h) (h0 := Keeps.same) <;> decide
  case steerRepeat => apply execSteerRepeat_keeps (ht := h) (h0 := Keeps.same) <;> decide
  case pannierSwitch => apply execPannierSwitch_keeps (ht := h) (h0 := Keeps.same); decide
  case elasticSlip => apply execElasticSlip_keeps (ht := h) (h0 := Keeps.same) <;> decide
  case reseedTimer => apply execReseedTimer_keeps (ht := h) (h0 := Keeps.same) <;> decide
  case adaptWindow => apply execAdaptWindow_keeps (ht := h) (h0 := Keeps.same) <;> decide
  case marginMeasure => apply execMarginMeasure_keeps (ht := h) (h0 := Keeps.same) <;> decide
  case timingPortChange => apply execTimingPortChange_keeps (ht := h) (h0 := Keeps.same) <;> decide
  case timingPortLocked => apply execTimingPortLocked_keeps (ht := h) (h0 := Keeps.same) <;> decide
  case cellForward => apply execCellForward_keeps (ht := h) (h0 := Keeps.same) <;> decide
  case candidateCorrected => apply execCandidateCorrected_keeps (ht := h) (h0 := Keeps.same) <;> decide
  case insertQueueTimeout => apply execInsertQueueTimeout_keeps (ht := h) (h0 := Keeps.same) <;> decide
  case runCell => apply execRunCell_keeps (ht := h) (h0 := Keeps.same) <;> decide
  case abortCell => apply execAbortCell_keeps (ht := h) (h0 := Keeps.same) <;> decide
  case beaconCell => apply execBeaconCell_keeps (ht := h) (h0 := Keeps.same) <;> decide
  case peerBeacon => apply execPeerBeacon_keeps (ht := h) (h0 := Keeps.same) <;> decide
  case letterSegment => apply execLetterSegment_keeps (ht := h) (h0 := Keeps.same) <;> decide
  case reassemblyTimeout => apply execReassemblyTimeout_keeps (ht := h) (h0 := Keeps.same) <;> decide
  case regReadLetter => apply execRegReadLetter_keeps (ht := h) (h0 := Keeps.same) <;> decide
  case regWriteLetter => apply execRegWriteLetter_keeps (ht := h) (h0 := Keeps.same) <;> decide
  case ringFillLetter => apply execRingFillLetter_keeps (ht := h) (h0 := Keeps.same) <;> decide
  case ringReadLetter => apply execRingReadLetter_keeps (ht := h) (h0 := Keeps.same) <;> decide
  case modeLetter => apply execModeLetter_keeps (ht := h) (h0 := Keeps.same) <;> decide
  case certGetLetter => apply execCertGetLetter_keeps (ht := h) (h0 := Keeps.same) <;> decide
  case keyWrapLetter => apply execKeyWrapLetter_keeps (ht := h) (h0 := Keeps.same) <;> decide
  case quoteReqLetter => apply execQuoteReqLetter_keeps (ht := h) (h0 := Keeps.same) <;> decide
  case keyDropLetter => apply execKeyDropLetter_keeps (ht := h) (h0 := Keeps.same) <;> decide
  case parcelData => apply execParcelData_keeps (ht := h) (h0 := Keeps.same) <;> decide
  case parcelQuery => apply execParcelQuery_keeps (ht := h) (h0 := Keeps.same) <;> decide
  case parcelArm => apply execParcelArm_keeps (ht := h) (h0 := Keeps.same) <;> decide
  case parcelAbandon => apply execParcelAbandon_keeps (ht := h) (h0 := Keeps.same) <;> decide
  case snapPartLetter => apply execSnapPartLetter_keeps (ht := h) (h0 := Keeps.same) <;> decide
  case snapCommitLetter => apply execSnapCommitLetter_keeps (ht := h) (h0 := Keeps.same) <;> decide
  case snapWaitTimeout => apply execSnapWaitTimeout_keeps (ht := h) (h0 := Keeps.same) <;> decide
  case inboxRecord => apply execInboxRecord_keeps (ht := h) (h0 := Keeps.same) <;> decide
  case sendEntry => apply execSendEntry_keeps (ht := h) (h0 := Keeps.same) <;> decide
  case sendReply => apply execSendReply_keeps (ht := h) (h0 := Keeps.same) <;> decide
  case sendTimeout => apply execSendTimeout_keeps (ht := h) (h0 := Keeps.same) <;> decide
  case inboxEnable => apply execInboxEnable_keeps (ht := h) (h0 := Keeps.same) <;> decide
  case inboxRdWrite => apply execInboxRdWrite_keeps (ht := h) (h0 := Keeps.same) <;> decide
  case rollcallCell => apply execRollcallCell_keeps (ht := h) (h0 := Keeps.same) <;> decide
  case syncPostmark => apply execSyncPostmark_keeps (ht := h) (h0 := Keeps.same) <;> decide
  case preqPostmark => apply execPreqPostmark_keeps (ht := h) (h0 := Keeps.same) <;> decide
  case prespPostmark => apply execPrespPostmark_keeps (ht := h) (h0 := Keeps.same) <;> decide
  case preqSend => apply execPreqSend_keeps (ht := h) (h0 := Keeps.same) <;> decide
  case preqLost => apply execPreqLost_keeps (ht := h) (h0 := Keeps.same) <;> decide
  case syncLoss => apply execSyncLoss_keeps (ht := h) (h0 := Keeps.same) <;> decide
  case timeWrap => apply execTimeWrap_keeps (ht := h) (h0 := Keeps.same) <;> decide
  case timeAdjStep => apply execTimeAdjStep_keeps (ht := h) (h0 := Keeps.same) <;> decide
  case refArm => apply execRefArm_keeps (ht := h) (h0 := Keeps.same) <;> decide
  case referenceEdge => apply execReferenceEdge_keeps (ht := h) (h0 := Keeps.same) <;> decide
  case referenceLoss => apply execReferenceLoss_keeps (ht := h) (h0 := Keeps.same) <;> decide
  case generatorEnable => apply execGeneratorEnable_keeps (ht := h) (h0 := Keeps.same) <;> decide
  case generatorDisable => apply execGeneratorDisable_keeps (ht := h) (h0 := Keeps.same) <;> decide
  case generatorPulse => apply execGeneratorPulse_keeps (ht := h) (h0 := Keeps.same) <;> decide
  case captureEdge => apply execCaptureEdge_keeps (ht := h) (h0 := Keeps.same) <;> decide
  case cadgenWrite => apply execCadgenWrite_keeps (ht := h) (h0 := Keeps.same) <;> decide
  case tanEnable => apply execTanEnable_keeps (ht := h) (h0 := Keeps.same) <;> decide
  case tanDisable => apply execTanDisable_keeps (ht := h) (h0 := Keeps.same) <;> decide
  case heartbeatPulse => apply execHeartbeatPulse_keeps (ht := h) (h0 := Keeps.same) <;> decide
  case tanTake => apply execTanTake_keeps (ht := h) (h0 := Keeps.same) <;> decide
  case revertHoldExpiry => apply execRevertHoldExpiry_keeps (ht := h) (h0 := Keeps.same) <;> decide
  case tanRenum => apply execTanRenum_keeps (ht := h) (h0 := Keeps.same) <;> decide
  case snapEntry => apply execSnapEntry_keeps (ht := h) (h0 := Keeps.same) <;> decide
  case snapCommitRepeat => apply execSnapCommitRepeat_keeps (ht := h) (h0 := Keeps.same) <;> decide
  case claimExpiry => apply execClaimExpiry_keeps (ht := h) (h0 := Keeps.same) <;> decide
  case tileCadence => apply execTileCadence_keeps (ht := h) (h0 := Keeps.same) <;> decide
  case commitInstant => apply execCommitInstant_keeps (ht := h) (h0 := Keeps.same) <;> decide
  case slotLatch => apply execSlotLatch_keeps (ht := h) (h0 := Keeps.same) <;> decide
  case lmpCurveLoad => apply execLmpCurveLoad_keeps (ht := h) (h0 := Keeps.same) <;> decide
  case dimWrite => apply execDimWrite_keeps (ht := h) (h0 := Keeps.same) <;> decide
  case lmpEnable => apply execLmpEnable_keeps (ht := h) (h0 := Keeps.same) <;> decide
  case lmpDisable => apply execLmpDisable_keeps (ht := h) (h0 := Keeps.same) <;> decide
  case svcPress => apply execSvcPress_keeps (ht := h) (h0 := Keeps.same) <;> decide
  case svcLongHold => apply execSvcLongHold_keeps (ht := h) (h0 := Keeps.same) <;> decide
  case locatorEnd => apply execLocatorEnd_keeps (ht := h) (h0 := Keeps.same) <;> decide
  case selfTestEnd => apply execSelfTestEnd_keeps (ht := h) (h0 := Keeps.same) <;> decide
  case spkEnable => apply execSpkEnable_keeps (ht := h) (h0 := Keeps.same) <;> decide
  case spkDisable => apply execSpkDisable_keeps (ht := h) (h0 := Keeps.same) <;> decide
  case spokeBringupRetry => apply execSpokeBringupRetry_keeps (ht := h) (h0 := Keeps.same) <;> decide
  case driverStatPoll => apply execDriverStatPoll_keeps (ht := h) (h0 := Keeps.same) <;> decide
  case spkReload => apply execSpkReload_keeps (ht := h) (h0 := Keeps.same) <;> decide
  case latchSend => apply execLatchSend_keeps (ht := h) (h0 := Keeps.same) <;> decide
  case lineSlot => apply execLineSlot_keeps (ht := h) (h0 := Keeps.same) <;> decide
  case slotEmissionEnd => apply execSlotEmissionEnd_keeps (ht := h) (h0 := Keeps.same) <;> decide
  case readAnswer => apply execReadAnswer_keeps (ht := h) (h0 := Keeps.same) <;> decide
  case readAbsent => apply execReadAbsent_keeps (ht := h) (h0 := Keeps.same) <;> decide
  case detectionRead => apply execDetectionRead_keeps (ht := h) (h0 := Keeps.same) <;> decide
  case faultTableClear => apply execFaultTableClear_keeps (ht := h) (h0 := Keeps.same) <;> decide
  case readbackSpokeClear => apply execReadbackSpokeClear_keeps (ht := h) (h0 := Keeps.same) <;> decide
  case dramReadRequest => apply execDramReadRequest_keeps (ht := h) (h0 := Keeps.same) <;> decide
  case dramReadReturn => apply execDramReadReturn_keeps (ht := h) (h0 := Keeps.same) <;> decide
  case dramWriteRequest => apply execDramWriteRequest_keeps (ht := h) (h0 := Keeps.same) <;> decide
  case dramPartialWrite => apply execDramPartialWrite_keeps (ht := h) (h0 := Keeps.same) <;> decide
  case refreshDue => apply execRefreshDue_keeps (ht := h) (h0 := Keeps.same) <;> decide
  case refreshPullin => apply execRefreshPullin_keeps (ht := h) (h0 := Keeps.same) <;> decide
  case patrolScrub => apply execPatrolScrub_keeps (ht := h) (h0 := Keeps.same) <;> decide
  case mr4Poll => apply execMr4Poll_keeps (ht := h) (h0 := Keeps.same); decide
  case selfRefreshEntry => apply execSelfRefreshEntry_keeps (ht := h) (h0 := Keeps.same) <;> decide
  case selfRefreshExit => apply execSelfRefreshExit_keeps (ht := h) (h0 := Keeps.same) <;> decide
  case freqChangeGo => apply execFreqChangeGo_keeps (ht := h) (h0 := Keeps.same) <;> decide
  case freqChangeTimeout => apply execFreqChangeTimeout_keeps (ht := h) (h0 := Keeps.same) <;> decide
  case dramTrackStep => apply execDramTrackStep_keeps (ht := h) (h0 := Keeps.same) <;> decide
  case standbyRetrain => apply execStandbyRetrain_keeps (ht := h) (h0 := Keeps.same) <;> decide
  case sensorSample => apply execSensorSample_keeps (ht := h) (h0 := Keeps.same) <;> decide
  case throttleStepDown => apply execThrottleStepDown_keeps (ht := h) (h0 := Keeps.same) <;> decide
  case throttleStepUp => apply execThrottleStepUp_keeps (ht := h) (h0 := Keeps.same) <;> decide
  case thmFailClear => apply execThmFailClear_keeps (ht := h) (h0 := Keeps.same) <;> decide
  case t5Shutdown => apply execT5Shutdown_keeps (ht := h) (h0 := Keeps.same) <;> decide
  case orderlyShutdown => apply execOrderlyShutdown_keeps (ht := h) (h0 := Keeps.same) <;> decide
  case hardwareTrip => apply execHardwareTrip_keeps (ht := h) (h0 := Keeps.same) <;> decide
  case powerRequest => apply execPowerRequest_keeps (ht := h) (h0 := Keeps.same) <;> decide
  case powerStateReached => apply execPowerStateReached_keeps (ht := h) (h0 := Keeps.same) <;> decide
  case recalStart => apply execRecalStart_keeps (ht := h) (h0 := Keeps.same) <;> decide
  case recalManualStart => apply execRecalManualStart_keeps (ht := h) (h0 := Keeps.same) <;> decide
  case recalPannierMatched => apply execRecalPannierMatched_keeps (ht := h) (h0 := Keeps.same) <;> decide
  case recalMeasureWindow => apply execRecalMeasureWindow_keeps (ht := h) (h0 := Keeps.same) <;> decide
  case recalLaneMatched => apply execRecalLaneMatched_keeps (ht := h) (h0 := Keeps.same) <;> decide
  case recalSwitchBack => apply execRecalSwitchBack_keeps (ht := h) (h0 := Keeps.same) <;> decide
  case recalAbort => apply execRecalAbort_keeps (ht := h) (h0 := Keeps.same) <;> decide
  case calDisable => apply execCalDisable_keeps (ht := h) (h0 := Keeps.same) <;> decide
  case calSetSave => apply execCalSetSave_keeps (ht := h) (h0 := Keeps.same) <;> decide
  case keysetEntry => apply execKeysetEntry_keeps (ht := h) (h0 := Keeps.same) <;> decide
  case enrolEntry => apply execEnrolEntry_keeps (ht := h) (h0 := Keeps.same) <;> decide
  case enrolReply => apply execEnrolReply_keeps (ht := h) (h0 := Keeps.same) <;> decide
  case enrolTimeout => apply execEnrolTimeout_keeps (ht := h) (h0 := Keeps.same) <;> decide
  case switchEntry => apply execSwitchEntry_keeps (ht := h) (h0 := Keeps.same) <;> decide
  case quoteEntry => apply execQuoteEntry_keeps (ht := h) (h0 := Keeps.same) <;> decide
  case extendEntry => apply execExtendEntry_keeps (ht := h) (h0 := Keeps.same) <;> decide
  case lifeEntry => apply execLifeEntry_keeps (ht := h) (h0 := Keeps.same) <;> decide
  case dbgtoken => apply execDbgtoken_keeps (ht := h) (h0 := Keeps.same) <;> decide
  case dbgnonce => apply execDbgnonce_keeps (ht := h) (h0 := Keeps.same) <;> decide
  case regacc => apply execRegacc_keeps (ht := h) (h0 := Keeps.same) <;> decide
  case memacc => apply execMemacc_keeps (ht := h) (h0 := Keeps.same) <;> decide
  case trace => apply execTrace_keeps (ht := h) (h0 := Keeps.same) <;> decide
  case extest => apply execExtest_keeps (ht := h) (h0 := Keeps.same) <;> decide
  case signEngineDone => apply execSignEngineDone_keeps (ht := h) (h0 := Keeps.same) <;> decide
  case receiptIntervalClose => apply execReceiptIntervalClose_keeps (ht := h) (h0 := Keeps.same) <;> decide
  case receiptSigned => apply execReceiptSigned_keeps (ht := h) (h0 := Keeps.same) <;> decide
  case crcRecordWrite => apply execCrcRecordWrite_keeps (ht := h) (h0 := Keeps.same) <;> decide
  case stageEntry => apply execStageEntry_keeps (ht := h) (h0 := Keeps.same) <;> decide
  case pushEntry => apply execPushEntry_keeps (ht := h) (h0 := Keeps.same) <;> decide
  case activateEntry => apply execActivateEntry_keeps (ht := h) (h0 := Keeps.same) <;> decide
  case confirmEntry => apply execConfirmEntry_keeps (ht := h) (h0 := Keeps.same) <;> decide
  case abandonEntry => apply execAbandonEntry_keeps (ht := h) (h0 := Keeps.same) <;> decide
  case hostimgEntry => apply execHostimgEntry_keeps (ht := h) (h0 := Keeps.same) <;> decide
  case updConfirmWrite => apply execUpdConfirmWrite_keeps (ht := h) (h0 := Keeps.same) <;> decide
  case updAbandonWrite => apply execUpdAbandonWrite_keeps (ht := h) (h0 := Keeps.same) <;> decide
  case verifyDone => apply execVerifyDone_keeps (ht := h) (h0 := Keeps.same) <;> decide
  case activationInstant => apply execActivationInstant_keeps (ht := h) (h0 := Keeps.same) <;> decide
  case trialConfirm => apply execTrialConfirm_keeps (ht := h) (h0 := Keeps.same) <;> decide
  case confirmWindowExpiry => apply execConfirmWindowExpiry_keeps (ht := h) (h0 := Keeps.same) <;> decide
  case recoveryGo => apply execRecoveryGo_keeps (ht := h) (h0 := Keeps.same) <;> decide
  case blockReceive => apply execBlockReceive_keeps (ht := h) (h0 := Keeps.same) <;> decide
  case pllUnlock => apply execPllUnlock_keeps (ht := h) (h0 := Keeps.same); decide
  case flashOperationDone => apply execFlashOperationDone_keeps (ht := h) (h0 := Keeps.same) <;> decide
  case pushReply => apply execPushReply_keeps (ht := h) (h0 := Keeps.same) <;> decide
  case pcieD3hotChange => apply execPcieD3hotChange_keeps (ht := h) (h0 := Keeps.same); decide

/-! ### The registers that a command writes -/

/-- Does a predicate hold of every register of a set? Written out for each kind of set, as the laws of the registers ask for it. -/
def RegSet.within (W : Nat → Prop) : RegSet → Prop
  | .one off => W off
  | .any f => ∀ i, W (f i)
  | .any₂ f => ∀ i j, W (f i j)
  | .range lo hi => ∀ off, lo ≤ off → off < hi → W off
  | .all => ∀ off, W off

/-- Does a predicate hold of every register of each set of a list? -/
def allWithin (W : Nat → Prop) : List RegSet → Prop
  | [] => True
  | r :: l => r.within W ∧ allWithin W l

theorem RegSet.within_has {r : RegSet} {W : Nat → Prop} (h : ∀ off, r.has off → W off) : r.within W := by
  cases r with
  | one off => exact h off rfl
  | any f => exact fun i => h _ ⟨i, rfl⟩
  | any₂ f => exact fun i j => h _ ⟨i, j, rfl⟩
  | range lo hi => exact fun off h1 h2 => h off ⟨h1, h2⟩
  | all => exact fun off => h off trivial

theorem allWithin_writes (c : Instr) : allWithin (writes c) (regsOf c) := by
  have hall (l : List RegSet) (hl : ∀ r ∈ l, r ∈ regsOf c) : allWithin (writes c) l := by
    induction l with
    | nil => trivial
    | cons r l ih =>
      exact ⟨RegSet.within_has fun off ho => ⟨r, hl r (.head l), ho⟩, ih fun x hx => hl x (.tail r hx)⟩
  exact hall _ fun _ hr => hr

/-- A command leaves every register outside the sets of `regsOf` as it was. -/
theorem exec_regs {c : Instr} {s t : State} {W : Nat → Prop} (h : exec c s = .next t) (hw : allWithin W (regsOf c)) :
    RegsBut W s t := by
  cases c <;> dsimp only [exec] at h <;>
    dsimp only [regsOf, eventRegs, yieldRegs, List.cons_append, List.nil_append, allWithin, RegSet.within, pbaWord, vecControl] at hw
  case railFault => apply execRailFault_regs (ht := h) (h0 := RegsBut.same); simp only [hw, implies_true]
  case railWarn => apply execRailWarn_regs (ht := h) (h0 := RegsBut.same) <;> simp only [hw, implies_true]
  case vddAonApply => apply execVddAonApply_regs (ht := h) (h0 := RegsBut.same) <;> simp only [hw]
  case pwronResetAssert => apply execPwronResetAssert_regs (ht := h) (h0 := RegsBut.same); simp only [hw, implies_true]
  case coldResetRelease => apply execColdResetRelease_regs (ht := h) (h0 := RegsBut.same) <;> simp only [hw, implies_true]
  case warmResetPin => apply execWarmResetPin_regs (ht := h) (h0 := RegsBut.same) <;> simp only [hw, implies_true]
  case warmResetSoftware => apply execWarmResetSoftware_regs (ht := h) (h0 := RegsBut.same) <;> simp only [hw, implies_true]
  case watchdogExpiry => apply execWatchdogExpiry_regs (ht := h) (h0 := RegsBut.same) <;> simp only [hw, implies_true]
  case warmResetAssert => apply execWarmResetAssert_regs (ht := h) (h0 := RegsBut.same); simp only [hw, implies_true]
  case warmResetRelease => apply execWarmResetRelease_regs (ht := h) (h0 := RegsBut.same) <;> simp only [hw, implies_true]
  case refClkLoss => apply execRefClkLoss_regs (ht := h) (h0 := RegsBut.same) <;> simp only [hw, implies_true]
  case refClkGood => apply execRefClkGood_regs (ht := h) (h0 := RegsBut.same); simp only [hw]
  case pllStageDone => apply execPllStageDone_regs (ht := h) (h0 := RegsBut.same) <;> simp only [hw]
  case romStageDone => apply execRomStageDone_regs (ht := h) (h0 := RegsBut.same); simp only [hw]
  case firstStageDone => apply execFirstStageDone_regs (ht := h) (h0 := RegsBut.same) <;> simp only [hw, implies_true]
  case dramStageDone => apply execDramStageDone_regs (ht := h) (h0 := RegsBut.same) <;> simp only [hw, implies_true]
  case firmwareStageDone => apply execFirmwareStageDone_regs (ht := h) (h0 := RegsBut.same) <;> simp only [hw, implies_true]
  case ucieAttemptEnd => apply execUcieAttemptEnd_regs (ht := h) (h0 := RegsBut.same) <;> simp only [hw, implies_true]
  case ucieBackoffEnd => apply execUcieBackoffEnd_regs (ht := h) (h0 := RegsBut.same) <;> simp only [hw, implies_true]
  case ucieWindowClose => apply execUcieWindowClose_regs (ht := h) (h0 := RegsBut.same) <;> simp +contextual only [hw, implies_true]
  case bootHoldRetry => apply execBootHoldRetry_regs (ht := h) (h0 := RegsBut.same) <;> simp only [hw, implies_true]
  case registerWrite => apply execRegisterWrite_regs (ht := h) (h0 := RegsBut.same); simp only [hw, implies_true]
  case errinfoClear => apply execErrinfoClear_regs (ht := h) (h0 := RegsBut.same) <;> simp only [hw, implies_true]
  case barMisalignedRead => apply execBarMisalignedRead_regs (ht := h) (h0 := RegsBut.same) <;> simp only [hw, implies_true]
  case evtqRead => apply execEvtqRead_regs (ht := h) (h0 := RegsBut.same) <;> simp only [hw, implies_true]
  case dmaBytesRead => apply execDmaBytesRead_regs (ht := h) (h0 := RegsBut.same) <;> simp only [hw, implies_true]
  case timNowRead => apply execTimNowRead_regs (ht := h) (h0 := RegsBut.same) <;> simp only [hw, implies_true]
  case timCapRead => apply execTimCapRead_regs (ht := h) (h0 := RegsBut.same) <;> simp only [hw, implies_true]
  case secNonceRead => apply execSecNonceRead_regs (ht := h) (h0 := RegsBut.same) <;> simp only [hw, implies_true]
  case queBlockReset => apply execQueBlockReset_regs (ht := h) (h0 := RegsBut.same) <;> simp +contextual only [hw, implies_true]
  case dmaBlockReset => apply execDmaBlockReset_regs (ht := h) (h0 := RegsBut.same) <;> simp +contextual only [hw, implies_true]
  case sorBlockReset => apply execSorBlockReset_regs (ht := h) (h0 := RegsBut.same) <;> simp +contextual only [hw, implies_true]
  case srfBlockReset => apply execSrfBlockReset_regs (ht := h) (h0 := RegsBut.same) <;> simp +contextual only [hw, implies_true]
  case cmpBlockReset => apply execCmpBlockReset_regs (ht := h) (h0 := RegsBut.same) <;> simp +contextual only [hw, implies_true]
  case frtBlockReset => apply execFrtBlockReset_regs (ht := h) (h0 := RegsBut.same) <;> simp +contextual only [hw, implies_true]
  case lnkBlockReset => apply execLnkBlockReset_regs (ht := h) (h0 := RegsBut.same) <;> simp +contextual only [hw, implies_true]
  case chnBlockReset => apply execChnBlockReset_regs (ht := h) (h0 := RegsBut.same) <;> simp +contextual only [hw, implies_true]
  case timBlockReset => apply execTimBlockReset_regs (ht := h) (h0 := RegsBut.same) <;> simp +contextual only [hw, implies_true]
  case tanBlockReset => apply execTanBlockReset_regs (ht := h) (h0 := RegsBut.same) <;> simp +contextual only [hw, implies_true]
  case lmpBlockReset => apply execLmpBlockReset_regs (ht := h) (h0 := RegsBut.same) <;> simp +contextual only [hw, implies_true]
  case spkBlockReset => apply execSpkBlockReset_regs (ht := h) (h0 := RegsBut.same) <;> simp +contextual only [hw, implies_true]
  case calBlockReset => apply execCalBlockReset_regs (ht := h) (h0 := RegsBut.same) <;> simp +contextual only [hw, implies_true]
  case dbgBlockReset => apply execDbgBlockReset_regs (ht := h) (h0 := RegsBut.same) <;> simp only [hw, implies_true]
  case blockResetEnd => apply execBlockResetEnd_regs (ht := h) (h0 := RegsBut.same) <;> simp only [hw, implies_true]
  case hifLinkLoss => apply execHifLinkLoss_regs (ht := h) (h0 := RegsBut.same) <;> simp only [hw, implies_true]
  case hifRetrain => apply execHifRetrain_regs (ht := h) (h0 := RegsBut.same) <;> simp only [hw, implies_true]
  case hifRetryTimer => apply execHifRetryTimer_regs (ht := h) (h0 := RegsBut.same) <;> simp only [hw, implies_true]
  case bmeChange => apply execBmeChange_regs (ht := h) (h0 := RegsBut.same) <;> simp only [hw, implies_true]
  case msixUnmask => apply execMsixUnmask_regs (ht := h) (h0 := RegsBut.same) <;> simp only [hw, implies_true]
  case queueEnable => apply execQueueEnable_regs (ht := h) (h0 := RegsBut.same) <;> simp only [hw, implies_true]
  case queueDisable => apply execQueueDisable_regs (ht := h) (h0 := RegsBut.same) <;> simp only [hw, implies_true]
  case queueStop => apply execQueueStop_regs (ht := h) (h0 := RegsBut.same) <;> simp only [hw, implies_true]
  case queueResume => apply execQueueResume_regs (ht := h) (h0 := RegsBut.same) <;> simp only [hw, implies_true]
  case doorbell => apply execDoorbell_regs (ht := h) (h0 := RegsBut.same) <;> simp only [hw, implies_true]
  case ringReadComplete => apply execRingReadComplete_regs (ht := h) (h0 := RegsBut.same) <;> simp only [hw, implies_true]
  case ringRecheckTimeout => apply execRingRecheckTimeout_regs (ht := h) (h0 := RegsBut.same) <;> simp only [hw, implies_true]
  case sorDispatch => apply execSorDispatch_regs (ht := h) (h0 := RegsBut.same) <;> simp only [hw, implies_true]
  case sorPreempt => apply execSorPreempt_regs (ht := h) (h0 := RegsBut.same) <;> simp only [hw, implies_true]
  case dmaSegmentReadDone => apply execDmaSegmentReadDone_regs (ht := h) (h0 := RegsBut.same) <;> simp only [hw, implies_true]
  case dmaReadDone => apply execDmaReadDone_regs (ht := h) (h0 := RegsBut.same) <;> simp only [hw, implies_true]
  case hostReadTimeout => apply execHostReadTimeout_regs (ht := h) (h0 := RegsBut.same) <;> simp only [hw, implies_true]
  case lateCompletion => apply execLateCompletion_regs (ht := h) (h0 := RegsBut.same); simp only [hw]
  case dmaDescriptorComplete => apply execDmaDescriptorComplete_regs (ht := h) (h0 := RegsBut.same) <;> simp only [hw, implies_true]
  case slotPoll => apply execSlotPoll_regs (ht := h) (h0 := RegsBut.same) <;> simp only [hw, implies_true]
  case slotReadDone => apply execSlotReadDone_regs (ht := h) (h0 := RegsBut.same) <;> simp only [hw, implies_true]
  case slotReadFail => apply execSlotReadFail_regs (ht := h) (h0 := RegsBut.same) <;> simp only [hw, implies_true]
  case loadWindowEnd => apply execLoadWindowEnd_regs (ht := h) (h0 := RegsBut.same) <;> simp only [hw, implies_true]
  case srfEnable => apply execSrfEnable_regs (ht := h) (h0 := RegsBut.same) <;> simp only [hw, implies_true]
  case srfTableInitDone => apply execSrfTableInitDone_regs (ht := h) (h0 := RegsBut.same) <;> simp only [hw, implies_true]
  case surfaceCreate => apply execSurfaceCreate_regs (ht := h) (h0 := RegsBut.same) <;> simp only [hw, implies_true]
  case surfaceBack => apply execSurfaceBack_regs (ht := h) (h0 := RegsBut.same) <;> simp only [hw, implies_true]
  case surfaceFree => apply execSurfaceFree_regs (ht := h) (h0 := RegsBut.same) <;> simp only [hw, implies_true]
  case surfaceInval => apply execSurfaceInval_regs (ht := h) (h0 := RegsBut.same) <;> simp only [hw, implies_true]
  case frameRetire => apply execFrameRetire_regs (ht := h) (h0 := RegsBut.same) <;> simp only [hw, implies_true]
  case prefetchIssue => apply execPrefetchIssue_regs (ht := h) (h0 := RegsBut.same) <;> simp only [hw, implies_true]
  case prefetchDone => apply execPrefetchDone_regs (ht := h) (h0 := RegsBut.same); simp only [hw, implies_true]
  case prefetchFail => apply execPrefetchFail_regs (ht := h) (h0 := RegsBut.same) <;> simp only [hw, implies_true]
  case latePage => apply execLatePage_regs (ht := h) (h0 := RegsBut.same) <;> simp only [hw, implies_true]
  case bookLoad => apply execBookLoad_regs (ht := h) (h0 := RegsBut.same) <;> simp only [hw, implies_true]
  case curveLoad => apply execCurveLoad_regs (ht := h) (h0 := RegsBut.same) <;> simp only [hw, implies_true]
  case filterLoad => apply execFilterLoad_regs (ht := h) (h0 := RegsBut.same) <;> simp only [hw, implies_true]
  case cmpEnable => apply execCmpEnable_regs (ht := h) (h0 := RegsBut.same) <;> simp only [hw, implies_true]
  case cmpDisable => apply execCmpDisable_regs (ht := h) (h0 := RegsBut.same) <;> simp only [hw, implies_true]
  case cmpFrameDone => apply execCmpFrameDone_regs (ht := h) (h0 := RegsBut.same) <;> simp only [hw, implies_true]
  case senderCadence => apply execSenderCadence_regs (ht := h) (h0 := RegsBut.same) <;> simp only [hw, implies_true]
  case rasterDeadline => apply execRasterDeadline_regs (ht := h) (h0 := RegsBut.same) <;> simp only [hw, implies_true]
  case latchInstant => apply execLatchInstant_regs (ht := h) (h0 := RegsBut.same) <;> simp only [hw, implies_true]
  case commitGo => apply execCommitGo_regs (ht := h) (h0 := RegsBut.same) <;> simp only [hw, implies_true]
  case commitEntry => apply execCommitEntry_regs (ht := h) (h0 := RegsBut.same) <;> simp only [hw, implies_true]
  case modeEntry => apply execModeEntry_regs (ht := h) (h0 := RegsBut.same) <;> simp only [hw, implies_true]
  case frtEnable => apply execFrtEnable_regs (ht := h) (h0 := RegsBut.same) <;> simp only [hw, implies_true]
  case frtDisable => apply execFrtDisable_regs (ht := h) (h0 := RegsBut.same) <;> simp only [hw, implies_true]
  case portEnable => apply execPortEnable_regs (ht := h) (h0 := RegsBut.same) <;> simp only [hw, implies_true]
  case portDisable => apply execPortDisable_regs (ht := h) (h0 := RegsBut.same) <;> simp only [hw, implies_true]
  case portRetrain => apply execPortRetrain_regs (ht := h) (h0 := RegsBut.same) <;> simp only [hw, implies_true]
  case portTestEnter => apply execPortTestEnter_regs (ht := h) (h0 := RegsBut.same) <;> simp only [hw, implies_true]
  case portTestExit => apply execPortTestExit_regs (ht := h) (h0 := RegsBut.same) <;> simp only [hw, implies_true]
  case prbsInject => apply execPrbsInject_regs (ht := h) (h0 := RegsBut.same) <;> simp only [hw, implies_true]
  case receiverDetect => apply execReceiverDetect_regs (ht := h) (h0 := RegsBut.same) <;> simp only [hw, implies_true]
  case presetTrial => apply execPresetTrial_regs (ht := h) (h0 := RegsBut.same) <;> simp only [hw, implies_true]
  case linkStageDone => apply execLinkStageDone_regs (ht := h) (h0 := RegsBut.same) <;> simp only [hw, implies_true]
  case linkAttemptFail => apply execLinkAttemptFail_regs (ht := h) (h0 := RegsBut.same) <;> simp only [hw, implies_true]
  case linkBackoffEnd => apply execLinkBackoffEnd_regs (ht := h) (h0 := RegsBut.same) <;> simp only [hw, implies_true]
  case chainDown => apply execChainDown_regs (ht := h) (h0 := RegsBut.same) <;> simp only [hw, implies_true]
  case laneSpare => apply execLaneSpare_regs (ht := h) (h0 := RegsBut.same) <;> simp only [hw, implies_true]
  case steerReceive => exact execSteerReceive_regs (ht := h) (h0 := RegsBut.same)
  case steerRepeat => apply execSteerRepeat_regs (ht := h) (h0 := RegsBut.same) <;> simp only [hw, implies_true]
  case pannierSwitch => apply execPannierSwitch_regs (ht := h) (h0 := RegsBut.same) <;> simp only [hw, implies_true]
  case elasticSlip => apply execElasticSlip_regs (ht := h) (h0 := RegsBut.same); simp only [hw, implies_true]
  case reseedTimer => apply execReseedTimer_regs (ht := h) (h0 := RegsBut.same) <;> simp only [hw, implies_true]
  case adaptWindow => apply execAdaptWindow_regs (ht := h) (h0 := RegsBut.same); simp only [hw, implies_true]
  case marginMeasure => apply execMarginMeasure_regs (ht := h) (h0 := RegsBut.same) <;> simp only [hw, implies_true]
  case timingPortChange => apply execTimingPortChange_regs (ht := h) (h0 := RegsBut.same); simp only [hw]
  case timingPortLocked => apply execTimingPortLocked_regs (ht := h) (h0 := RegsBut.same); simp only [hw]
  case cellForward => apply execCellForward_regs (ht := h) (h0 := RegsBut.same) <;> simp only [hw, implies_true]
  case candidateCorrected => apply execCandidateCorrected_regs (ht := h) (h0 := RegsBut.same) <;> simp only [hw, implies_true]
  case insertQueueTimeout => apply execInsertQueueTimeout_regs (ht := h) (h0 := RegsBut.same) <;> simp only [hw, implies_true]
  case runCell => apply execRunCell_regs (ht := h) (h0 := RegsBut.same) <;> simp only [hw, implies_true]
  case abortCell => exact execAbortCell_regs (ht := h) (h0 := RegsBut.same)
  case beaconCell => apply execBeaconCell_regs (ht := h) (h0 := RegsBut.same) <;> simp only [hw, implies_true]
  case peerBeacon => apply execPeerBeacon_regs (ht := h) (h0 := RegsBut.same) <;> simp only [hw, implies_true]
  case letterSegment => apply execLetterSegment_regs (ht := h) (h0 := RegsBut.same) <;> simp only [hw, implies_true]
  case reassemblyTimeout => apply execReassemblyTimeout_regs (ht := h) (h0 := RegsBut.same) <;> simp only [hw, implies_true]
  case regReadLetter => apply execRegReadLetter_regs (ht := h) (h0 := RegsBut.same); simp only [hw, implies_true]
  case regWriteLetter => apply execRegWriteLetter_regs (ht := h) (h0 := RegsBut.same); simp only [hw, implies_true]
  case ringFillLetter => apply execRingFillLetter_regs (ht := h) (h0 := RegsBut.same) <;> simp only [hw, implies_true]
  case ringReadLetter => apply execRingReadLetter_regs (ht := h) (h0 := RegsBut.same) <;> simp only [hw, implies_true]
  case modeLetter => apply execModeLetter_regs (ht := h) (h0 := RegsBut.same) <;> simp only [hw, implies_true]
  case certGetLetter => apply execCertGetLetter_regs (ht := h) (h0 := RegsBut.same) <;> simp only [hw, implies_true]
  case keyWrapLetter => apply execKeyWrapLetter_regs (ht := h) (h0 := RegsBut.same); simp only [hw]
  case quoteReqLetter => apply execQuoteReqLetter_regs (ht := h) (h0 := RegsBut.same) <;> simp only [hw, implies_true]
  case keyDropLetter => apply execKeyDropLetter_regs (ht := h) (h0 := RegsBut.same) <;> simp only [hw, implies_true]
  case parcelData => apply execParcelData_regs (ht := h) (h0 := RegsBut.same) <;> simp only [hw, implies_true]
  case parcelQuery => apply execParcelQuery_regs (ht := h) (h0 := RegsBut.same) <;> simp only [hw, implies_true]
  case parcelArm => apply execParcelArm_regs (ht := h) (h0 := RegsBut.same) <;> simp only [hw, implies_true]
  case parcelAbandon => apply execParcelAbandon_regs (ht := h) (h0 := RegsBut.same) <;> simp only [hw, implies_true]
  case snapPartLetter => apply execSnapPartLetter_regs (ht := h) (h0 := RegsBut.same) <;> simp only [hw, implies_true]
  case snapCommitLetter => apply execSnapCommitLetter_regs (ht := h) (h0 := RegsBut.same) <;> simp only [hw, implies_true]
  case snapWaitTimeout => apply execSnapWaitTimeout_regs (ht := h) (h0 := RegsBut.same) <;> simp only [hw, implies_true]
  case inboxRecord => apply execInboxRecord_regs (ht := h) (h0 := RegsBut.same) <;> simp only [hw, implies_true]
  case sendEntry => apply execSendEntry_regs (ht := h) (h0 := RegsBut.same) <;> simp only [hw, implies_true]
  case sendReply => apply execSendReply_regs (ht := h) (h0 := RegsBut.same) <;> simp only [hw, implies_true]
  case sendTimeout => apply execSendTimeout_regs (ht := h) (h0 := RegsBut.same) <;> simp only [hw, implies_true]
  case inboxEnable => apply execInboxEnable_regs (ht := h) (h0 := RegsBut.same) <;> simp only [hw, implies_true]
  case inboxRdWrite => apply execInboxRdWrite_regs (ht := h) (h0 := RegsBut.same) <;> simp only [hw, implies_true]
  case rollcallCell => apply execRollcallCell_regs (ht := h) (h0 := RegsBut.same) <;> simp only [hw, implies_true]
  case syncPostmark => apply execSyncPostmark_regs (ht := h) (h0 := RegsBut.same) <;> simp only [hw, implies_true]
  case preqPostmark => apply execPreqPostmark_regs (ht := h) (h0 := RegsBut.same); simp only [hw, implies_true]
  case prespPostmark => apply execPrespPostmark_regs (ht := h) (h0 := RegsBut.same); simp only [hw, implies_true]
  case preqSend => apply execPreqSend_regs (ht := h) (h0 := RegsBut.same) <;> simp only [hw, implies_true]
  case preqLost => apply execPreqLost_regs (ht := h) (h0 := RegsBut.same) <;> simp only [hw, implies_true]
  case syncLoss => apply execSyncLoss_regs (ht := h) (h0 := RegsBut.same) <;> simp only [hw, implies_true]
  case timeWrap => apply execTimeWrap_regs (ht := h) (h0 := RegsBut.same) <;> simp only [hw, implies_true]
  case timeAdjStep => apply execTimeAdjStep_regs (ht := h) (h0 := RegsBut.same) <;> simp only [hw, implies_true]
  case refArm => apply execRefArm_regs (ht := h) (h0 := RegsBut.same) <;> simp only [hw, implies_true]
  case referenceEdge => apply execReferenceEdge_regs (ht := h) (h0 := RegsBut.same) <;> simp only [hw, implies_true]
  case referenceLoss => apply execReferenceLoss_regs (ht := h) (h0 := RegsBut.same) <;> simp only [hw, implies_true]
  case generatorEnable => apply execGeneratorEnable_regs (ht := h) (h0 := RegsBut.same) <;> simp only [hw, implies_true]
  case generatorDisable => apply execGeneratorDisable_regs (ht := h) (h0 := RegsBut.same) <;> simp only [hw, implies_true]
  case generatorPulse => apply execGeneratorPulse_regs (ht := h) (h0 := RegsBut.same) <;> simp only [hw, implies_true]
  case captureEdge => apply execCaptureEdge_regs (ht := h) (h0 := RegsBut.same) <;> simp only [hw, implies_true]
  case cadgenWrite => apply execCadgenWrite_regs (ht := h) (h0 := RegsBut.same) <;> simp only [hw, implies_true]
  case tanEnable => apply execTanEnable_regs (ht := h) (h0 := RegsBut.same) <;> simp only [hw, implies_true]
  case tanDisable => apply execTanDisable_regs (ht := h) (h0 := RegsBut.same) <;> simp only [hw, implies_true]
  case heartbeatPulse => apply execHeartbeatPulse_regs (ht := h) (h0 := RegsBut.same) <;> simp only [hw, implies_true]
  case tanTake => apply execTanTake_regs (ht := h) (h0 := RegsBut.same) <;> simp only [hw, implies_true]
  case revertHoldExpiry => apply execRevertHoldExpiry_regs (ht := h) (h0 := RegsBut.same) <;> simp only [hw, implies_true]
  case tanRenum => apply execTanRenum_regs (ht := h) (h0 := RegsBut.same) <;> simp only [hw, implies_true]
  case snapEntry => apply execSnapEntry_regs (ht := h) (h0 := RegsBut.same) <;> simp only [hw, implies_true]
  case snapCommitRepeat => apply execSnapCommitRepeat_regs (ht := h) (h0 := RegsBut.same) <;> simp only [hw, implies_true]
  case claimExpiry => apply execClaimExpiry_regs (ht := h) (h0 := RegsBut.same) <;> simp only [hw, implies_true]
  case tileCadence => apply execTileCadence_regs (ht := h) (h0 := RegsBut.same) <;> simp only [hw, implies_true]
  case commitInstant => apply execCommitInstant_regs (ht := h) (h0 := RegsBut.same) <;> simp only [hw, implies_true]
  case slotLatch => apply execSlotLatch_regs (ht := h) (h0 := RegsBut.same) <;> simp only [hw, implies_true]
  case lmpCurveLoad => apply execLmpCurveLoad_regs (ht := h) (h0 := RegsBut.same) <;> simp only [hw, implies_true]
  case dimWrite => apply execDimWrite_regs (ht := h) (h0 := RegsBut.same) <;> simp only [hw, implies_true]
  case lmpEnable => apply execLmpEnable_regs (ht := h) (h0 := RegsBut.same) <;> simp only [hw, implies_true]
  case lmpDisable => apply execLmpDisable_regs (ht := h) (h0 := RegsBut.same) <;> simp only [hw, implies_true]
  case svcPress => apply execSvcPress_regs (ht := h) (h0 := RegsBut.same) <;> simp only [hw, implies_true]
  case svcLongHold => apply execSvcLongHold_regs (ht := h) (h0 := RegsBut.same) <;> simp only [hw, implies_true]
  case locatorEnd => apply execLocatorEnd_regs (ht := h) (h0 := RegsBut.same) <;> simp only [hw, implies_true]
  case selfTestEnd => apply execSelfTestEnd_regs (ht := h) (h0 := RegsBut.same) <;> simp only [hw, implies_true]
  case spkEnable => apply execSpkEnable_regs (ht := h) (h0 := RegsBut.same) <;> simp only [hw, implies_true]
  case spkDisable => apply execSpkDisable_regs (ht := h) (h0 := RegsBut.same) <;> simp only [hw, implies_true]
  case spokeBringupRetry => apply execSpokeBringupRetry_regs (ht := h) (h0 := RegsBut.same) <;> simp only [hw, implies_true]
  case driverStatPoll => apply execDriverStatPoll_regs (ht := h) (h0 := RegsBut.same) <;> simp only [hw, implies_true]
  case spkReload => apply execSpkReload_regs (ht := h) (h0 := RegsBut.same) <;> simp only [hw, implies_true]
  case latchSend => apply execLatchSend_regs (ht := h) (h0 := RegsBut.same) <;> simp only [hw, implies_true]
  case lineSlot => apply execLineSlot_regs (ht := h) (h0 := RegsBut.same) <;> simp only [hw, implies_true]
  case slotEmissionEnd => apply execSlotEmissionEnd_regs (ht := h) (h0 := RegsBut.same) <;> simp only [hw, implies_true]
  case readAnswer => apply execReadAnswer_regs (ht := h) (h0 := RegsBut.same) <;> simp only [hw, implies_true]
  case readAbsent => apply execReadAbsent_regs (ht := h) (h0 := RegsBut.same) <;> simp only [hw, implies_true]
  case detectionRead => apply execDetectionRead_regs (ht := h) (h0 := RegsBut.same) <;> simp only [hw, implies_true]
  case faultTableClear => apply execFaultTableClear_regs (ht := h) (h0 := RegsBut.same) <;> simp only [hw, implies_true]
  case readbackSpokeClear => apply execReadbackSpokeClear_regs (ht := h) (h0 := RegsBut.same) <;> simp only [hw, implies_true]
  case dramReadRequest => apply execDramReadRequest_regs (ht := h) (h0 := RegsBut.same) <;> simp only [hw, implies_true]
  case dramReadReturn => apply execDramReadReturn_regs (ht := h) (h0 := RegsBut.same) <;> simp only [hw, implies_true]
  case dramWriteRequest => apply execDramWriteRequest_regs (ht := h) (h0 := RegsBut.same) <;> simp only [hw, implies_true]
  case dramPartialWrite => apply execDramPartialWrite_regs (ht := h) (h0 := RegsBut.same) <;> simp only [hw, implies_true]
  case refreshDue => apply execRefreshDue_regs (ht := h) (h0 := RegsBut.same) <;> simp only [hw, implies_true]
  case refreshPullin => apply execRefreshPullin_regs (ht := h) (h0 := RegsBut.same) <;> simp only [hw, implies_true]
  case patrolScrub => apply execPatrolScrub_regs (ht := h) (h0 := RegsBut.same) <;> simp only [hw, implies_true]
  case mr4Poll => exact execMr4Poll_regs (ht := h) (h0 := RegsBut.same)
  case selfRefreshEntry => apply execSelfRefreshEntry_regs (ht := h) (h0 := RegsBut.same) <;> simp only [hw, implies_true]
  case selfRefreshExit => apply execSelfRefreshExit_regs (ht := h) (h0 := RegsBut.same) <;> simp only [hw, implies_true]
  case freqChangeGo => apply execFreqChangeGo_regs (ht := h) (h0 := RegsBut.same) <;> simp only [hw, implies_true]
  case freqChangeTimeout => apply execFreqChangeTimeout_regs (ht := h) (h0 := RegsBut.same) <;> simp only [hw, implies_true]
  case dramTrackStep => apply execDramTrackStep_regs (ht := h) (h0 := RegsBut.same) <;> simp only [hw, implies_true]
  case standbyRetrain => apply execStandbyRetrain_regs (ht := h) (h0 := RegsBut.same) <;> simp only [hw, implies_true]
  case sensorSample => apply execSensorSample_regs (ht := h) (h0 := RegsBut.same) <;> simp only [hw, implies_true]
  case throttleStepDown => apply execThrottleStepDown_regs (ht := h) (h0 := RegsBut.same) <;> simp only [hw, implies_true]
  case throttleStepUp => apply execThrottleStepUp_regs (ht := h) (h0 := RegsBut.same) <;> simp only [hw, implies_true]
  case thmFailClear => apply execThmFailClear_regs (ht := h) (h0 := RegsBut.same) <;> simp only [hw, implies_true]
  case t5Shutdown => apply execT5Shutdown_regs (ht := h) (h0 := RegsBut.same) <;> simp only [hw, implies_true]
  case orderlyShutdown => apply execOrderlyShutdown_regs (ht := h) (h0 := RegsBut.same) <;> simp only [hw, implies_true]
  case hardwareTrip => apply execHardwareTrip_regs (ht := h) (h0 := RegsBut.same); simp only [hw, implies_true]
  case powerRequest => apply execPowerRequest_regs (ht := h) (h0 := RegsBut.same) <;> simp only [hw, implies_true]
  case powerStateReached => apply execPowerStateReached_regs (ht := h) (h0 := RegsBut.same) <;> simp only [hw, implies_true]
  case recalStart => apply execRecalStart_regs (ht := h) (h0 := RegsBut.same) <;> simp only [hw, implies_true]
  case recalManualStart => apply execRecalManualStart_regs (ht := h) (h0 := RegsBut.same) <;> simp only [hw, implies_true]
  case recalPannierMatched => apply execRecalPannierMatched_regs (ht := h) (h0 := RegsBut.same) <;> simp only [hw, implies_true]
  case recalMeasureWindow => apply execRecalMeasureWindow_regs (ht := h) (h0 := RegsBut.same) <;> simp only [hw, implies_true]
  case recalLaneMatched => apply execRecalLaneMatched_regs (ht := h) (h0 := RegsBut.same) <;> simp only [hw, implies_true]
  case recalSwitchBack => apply execRecalSwitchBack_regs (ht := h) (h0 := RegsBut.same) <;> simp only [hw, implies_true]
  case recalAbort => apply execRecalAbort_regs (ht := h) (h0 := RegsBut.same) <;> simp only [hw, implies_true]
  case calDisable => apply execCalDisable_regs (ht := h) (h0 := RegsBut.same) <;> simp only [hw, implies_true]
  case calSetSave => apply execCalSetSave_regs (ht := h) (h0 := RegsBut.same) <;> simp only [hw, implies_true]
  case keysetEntry => apply execKeysetEntry_regs (ht := h) (h0 := RegsBut.same) <;> simp only [hw, implies_true]
  case enrolEntry => apply execEnrolEntry_regs (ht := h) (h0 := RegsBut.same) <;> simp only [hw, implies_true]
  case enrolReply => apply execEnrolReply_regs (ht := h) (h0 := RegsBut.same) <;> simp only [hw, implies_true]
  case enrolTimeout => apply execEnrolTimeout_regs (ht := h) (h0 := RegsBut.same) <;> simp only [hw, implies_true]
  case switchEntry => apply execSwitchEntry_regs (ht := h) (h0 := RegsBut.same) <;> simp only [hw, implies_true]
  case quoteEntry => apply execQuoteEntry_regs (ht := h) (h0 := RegsBut.same) <;> simp only [hw, implies_true]
  case extendEntry => apply execExtendEntry_regs (ht := h) (h0 := RegsBut.same) <;> simp only [hw, implies_true]
  case lifeEntry => apply execLifeEntry_regs (ht := h) (h0 := RegsBut.same) <;> simp only [hw, implies_true]
  case dbgtoken => apply execDbgtoken_regs (ht := h) (h0 := RegsBut.same) <;> simp only [hw, implies_true]
  case dbgnonce => apply execDbgnonce_regs (ht := h) (h0 := RegsBut.same); simp only [hw, implies_true]
  case regacc => apply execRegacc_regs (ht := h) (h0 := RegsBut.same); simp only [hw, implies_true]
  case memacc => apply execMemacc_regs (ht := h) (h0 := RegsBut.same) <;> simp only [hw, implies_true]
  case trace => exact execTrace_regs (ht := h) (h0 := RegsBut.same)
  case extest => exact execExtest_regs (ht := h) (h0 := RegsBut.same)
  case signEngineDone => apply execSignEngineDone_regs (ht := h) (h0 := RegsBut.same) <;> simp only [hw, implies_true]
  case receiptIntervalClose => apply execReceiptIntervalClose_regs (ht := h) (h0 := RegsBut.same) <;> simp only [hw, implies_true]
  case receiptSigned => apply execReceiptSigned_regs (ht := h) (h0 := RegsBut.same) <;> simp only [hw, implies_true]
  case crcRecordWrite => apply execCrcRecordWrite_regs (ht := h) (h0 := RegsBut.same) <;> simp only [hw, implies_true]
  case stageEntry => apply execStageEntry_regs (ht := h) (h0 := RegsBut.same) <;> simp only [hw, implies_true]
  case pushEntry => apply execPushEntry_regs (ht := h) (h0 := RegsBut.same) <;> simp only [hw, implies_true]
  case activateEntry => apply execActivateEntry_regs (ht := h) (h0 := RegsBut.same) <;> simp only [hw, implies_true]
  case confirmEntry => apply execConfirmEntry_regs (ht := h) (h0 := RegsBut.same) <;> simp only [hw, implies_true]
  case abandonEntry => apply execAbandonEntry_regs (ht := h) (h0 := RegsBut.same) <;> simp only [hw, implies_true]
  case hostimgEntry => apply execHostimgEntry_regs (ht := h) (h0 := RegsBut.same) <;> simp only [hw, implies_true]
  case updConfirmWrite => apply execUpdConfirmWrite_regs (ht := h) (h0 := RegsBut.same) <;> simp only [hw, implies_true]
  case updAbandonWrite => apply execUpdAbandonWrite_regs (ht := h) (h0 := RegsBut.same) <;> simp only [hw, implies_true]
  case verifyDone => apply execVerifyDone_regs (ht := h) (h0 := RegsBut.same) <;> simp only [hw, implies_true]
  case activationInstant => apply execActivationInstant_regs (ht := h) (h0 := RegsBut.same) <;> simp only [hw, implies_true]
  case trialConfirm => apply execTrialConfirm_regs (ht := h) (h0 := RegsBut.same); simp only [hw]
  case confirmWindowExpiry => apply execConfirmWindowExpiry_regs (ht := h) (h0 := RegsBut.same) <;> simp only [hw, implies_true]
  case recoveryGo => apply execRecoveryGo_regs (ht := h) (h0 := RegsBut.same) <;> simp only [hw, implies_true]
  case blockReceive => apply execBlockReceive_regs (ht := h) (h0 := RegsBut.same) <;> simp only [hw, implies_true]
  case pllUnlock => apply execPllUnlock_regs (ht := h) (h0 := RegsBut.same); simp only [hw]
  case flashOperationDone => apply execFlashOperationDone_regs (ht := h) (h0 := RegsBut.same) <;> simp only [hw, implies_true]
  case pushReply => apply execPushReply_regs (ht := h) (h0 := RegsBut.same) <;> simp only [hw, implies_true]
  case pcieD3hotChange => exact execPcieD3hotChange_regs (ht := h) (h0 := RegsBut.same)

/-! ### Every command and every step -/

/-- Settles O5: every arm of `exec` ends in a next state. -/
theorem everyCommandAnswers : Obligations.EveryCommandAnswers := by
  unfold Obligations.EveryCommandAnswers
  intro c s
  cases c <;> exact ⟨_, rfl⟩

/-- Settles O7. -/
theorem commandKeepsOtherParts : Obligations.CommandKeepsOtherParts := by
  unfold Obligations.CommandKeepsOtherParts
  intro c s t h
  obtain ⟨hpending, _, hparts⟩ := exec_keeps h
  exact ⟨hpending, hparts⟩

/-- Settles O8. -/
theorem commandKeepsOtherRegisters : Obligations.CommandKeepsOtherRegisters := by
  unfold Obligations.CommandKeepsOtherRegisters
  exact fun c s t h => exec_regs h (allWithin_writes c)

/-- Every part of the state but the fuses, the flash and the recovery memory. -/
def Part.plain : List Part :=
  [.regs, .boot, .hif, .queues, .sor, .dma, .srf, .drc, .chn, .cmp, .frt, .lnk, .tim, .tan, .sec, .lmp, .spk, .thm, .cal, .upd,
    .dram, .ring, .time, .wraps, .up, .out, .free]

/-- While no command waits, the fuses and the flash stand, the tables stay canonical, and no command comes. -/
theorem idle_keeps_plain (s : State) : Keeps Part.plain s (idle s) := by
  apply idle_keeps (h0 := Keeps.same) <;> decide

/-- Settles O6: the command's frame, or that of a tick without one. -/
theorem stepKeepsWellFormed : Obligations.StepKeepsWellFormed := by
  unfold Obligations.StepKeepsWellFormed
  intro s t hwf h
  unfold step at h
  split at h
  next =>
    injection h with h
    subst h
    exact (idle_keeps_plain s).2.1 hwf
  next c rest _ => exact (exec_keeps h).2.1 hwf

end Sys2Proof.Machine
end

section
/-! PROOF. A tick of time on an empty queue, and that the fuses only move forward. -/

set_option Elab.async false

namespace Sys2Proof.Machine

/-! ### A tick of time -/

theorem wrapTimes_up (n : Nat) (s : State) : (wrapTimes n s).up = s.up :=
  same_of_keeps .up (by apply wrapTimes_keeps (h0 := Keeps.same) <;> decide)

theorem longWindow_up (s : State) (e : Nat) : (longWindow s e).up = s.up :=
  same_of_keeps .up (longWindow_keeps s e (by decide) Keeps.same)

/-- Where TIM counts, `n` ticks make the unit `n` ns older. -/
theorem advance_up (n : Nat) (s : State) : (advance n s).up = if timeRuns s then s.up + n else s.up := by
  unfold advance
  split
  · exact (longWindow_up _ _).trans (wrapTimes_up _ _)
  · rfl

theorem idle_up (s : State) : (idle s).up = (advance 1 s).up := by
  have hdma : (dmaPumpAll (advance 1 s)).up = (advance 1 s).up := same_of_keeps .up (by apply dmaPumpAll_keeps (h0 := Keeps.same) <;> decide)
  have hpush : (idle s).up = (dmaPumpAll (advance 1 s)).up := same_of_keeps .up (by apply pushPump_keeps (h0 := Keeps.same) <;> decide)
  exact hpush.trans hdma

/-- Settles O2. -/
theorem emptyQueuePassesTime : Obligations.EmptyQueuePassesTime := by
  unfold Obligations.EmptyQueuePassesTime
  intro s h
  obtain ⟨queue, _, same⟩ := idle_keeps_plain s
  exact ⟨idle s, by rw [step, h], queue.trans h, (idle_up s).trans (advance_up 1 s), same .fuses (by decide), same .flash (by decide)⟩

/-! ### Fuses move forward (R539, R580) -/

/-- The fuses of the second state are those of the first, or further on. -/
def FusesForward (s t : State) : Prop :=
  s.sec.life ≤ t.sec.life ∧ s.sec.svn ≤ t.sec.svn ∧ s.sec.ownTries ≤ t.sec.ownTries ∧
    (t.sec.idkey = true → s.sec.idkey = true) ∧ (2 ≤ s.sec.life → t.sec.owner = s.sec.owner)

theorem FusesForward.of_fuses {s t : State} (h : t.sec.fuses = s.sec.fuses) : FusesForward s t := by
  simp only [SecSt.fuses, Prod.mk.injEq] at h
  obtain ⟨life, key, svn, owner, tries⟩ := h
  exact ⟨life.ge, svn.ge, tries.ge, fun ht => key ▸ ht, fun _ => owner⟩

theorem FusesForward.refl (s : State) : FusesForward s s := .of_fuses rfl

theorem FusesForward.trans {s t u : State} (h1 : FusesForward s t) (h2 : FusesForward t u) : FusesForward s u := by
  obtain ⟨life, svn, tries, key, owner⟩ := h1
  obtain ⟨life', svn', tries', key', owner'⟩ := h2
  exact ⟨life.trans life', svn.trans svn', tries.trans tries', fun hu => key (key' hu),
    fun hs => (owner' (hs.trans life)).trans (owner hs)⟩

/-- An operation that touches no fuse. -/
theorem FusesForward.of_keeps {s t : State} (h : Keeps Part.fuses.others s t) : FusesForward s t := .of_fuses (same_of_keeps .fuses h)

/-- Moved forward, and then left alone by an operation. -/
theorem FusesForward.keeps {r s t : State} (h : Keeps Part.fuses.others s t) (h0 : FusesForward r s) : FusesForward r t :=
  h0.trans (.of_keeps h)

theorem FusesForward.onEntryRead {s : State} {op : Nat} {wait : State → Item → Bool} {f : State → Item → State}
    (hf : ∀ x it, FusesForward x (f x it)) : FusesForward s (onEntryRead s op wait f) := by
  unfold Machine.onEntryRead
  split
  next i s' h =>
    split
    · exact .refl s
    · have core : FusesForward s s' := .of_keeps (by apply coreTake_keeps (h0 := Keeps.same) (hx := h) <;> decide)
      exact core.trans (hf s' i)
  · exact .refl s

/-! ### Tokens -/

theorem measExtend_fuses (s : State) (i : Nat) (d : Bytes) : (measExtend s i d).sec.fuses = s.sec.fuses := rfl

theorem dropKeySlots_fuses (s : State) : (dropKeySlots s).sec.fuses = s.sec.fuses :=
  same_of_keeps .fuses (by apply dropKeySlots_keeps (h0 := Keeps.same) <;> decide)

/-- The tokens accepted in a lifecycle: an OWN leaves FACTORY only, and a RETIRE leads forward. -/
theorem tokensFor_life {life dbg type : Nat} (h : type ∈ tokensFor life dbg) :
    (type = 1 → life = 1) ∧ (type = 3 → life ≤ 3) := by
  unfold tokensFor at h
  split_ifs at h <;> simp_all
  omega

/-- The checks of a token leave the fuses, the lifecycle and the debug level; an accepted token is one of those of its state. -/
theorem tokenCheck_forward (s : State) (t : Bytes) : FusesForward s (tokenCheck s t).2 :=
  .of_keeps (tokenCheck_keeps s t (by decide) Keeps.same)

theorem tokenCheck_accepted {s s' : State} {t : Bytes} (h : tokenCheck s t = (.ok, s')) :
    byteAt t 0 ∈ tokensFor s'.sec.life s'.sec.dbg := by
  unfold tokenCheck at h
  dsimp only at h
  split at h
  · exact absurd (congrArg Prod.fst h) (by simp)
  · split at h
    · exact absurd (congrArg Prod.fst h) (by simp)
    · split at h
      · exact absurd (congrArg Prod.fst h) (by simp)
      next hfor =>
        split at h
        · exact absurd (congrArg Prod.fst h) (by simp)
        · split at h
          · exact absurd (congrArg Prod.fst h) (by simp)
          · injection h with _ h
            subst h
            simpa using hfor

theorem tokenAct_forward (s : State) (t : Bytes) (h : byteAt t 0 ∈ tokensFor s.sec.life s.sec.dbg) : FusesForward s (tokenAct s t) := by
  obtain ⟨own, retire⟩ := tokensFor_life h
  unfold tokenAct
  dsimp only
  split
  next h1 =>
    have life := own h1
    refine .trans ?_ (.of_fuses (measExtend_fuses _ _ _))
    exact ⟨by simp only [lifeOwned]; omega, le_rfl, Nat.le_succ _, id, fun h2 => by omega⟩
  · split
    · exact .of_fuses rfl
    · split
      next h3 =>
        have life := retire h3
        refine .trans ?_ (.of_fuses (dropKeySlots_fuses _))
        exact ⟨life, le_rfl, le_rfl, fun hk => absurd hk (by simp), fun _ => rfl⟩
      · exact .of_fuses rfl

theorem tokenTake_forward (s : State) (t : Bytes) : FusesForward s (tokenTake s t).2 := by
  have checked := tokenCheck_forward s t
  unfold tokenTake
  split
  next s' h =>
    rw [h] at checked
    split
    · exact checked
    · exact checked.trans ((tokenAct_forward s' t (tokenCheck_accepted h)).trans (.of_fuses (measExtend_fuses _ _ _)))
  next c s' _ h =>
    rw [h] at checked
    exact checked.trans (.of_fuses (congrArg SecSt.fuses (incSat_sec s' _ _)))

theorem dbgToken_forward (s : State) (t : Bytes) : FusesForward s (dbgToken s t) :=
  (tokenTake_forward (leaveExtest s) (fit 304 t)).trans (.of_fuses rfl)

theorem lifeEntry_forward (s : State) (it : Item) (host : HostRes) : FusesForward s (lifeEntry s it host) := by
  have done : ∀ (x : State) (c : Status), FusesForward x (secDone x it c 0 0xFF) := fun x c =>
    .of_keeps (by apply secDone_keeps (h0 := Keeps.same) <;> decide)
  unfold lifeEntry
  dsimp only
  split
  · have fetched : FusesForward s (areaFetch s (leAt it.entry 8 2) (leAt it.entry 16 8) 304 host).2 :=
      .of_keeps (by apply areaFetch_keeps (h0 := Keeps.same) <;> decide)
    refine fetched.trans ?_
    split
    · exact done _ _
    next b _ => exact (tokenTake_forward _ b).trans (done _ _)
  · exact done _ _

/-! ### The security version -/

theorem fuseSvn_forward (s : State) : FusesForward s (fuseSvn s) := ⟨le_rfl, le_max_left _ _, le_rfl, id, fun _ => rfl⟩

/-- The state in which the security version of a confirmed candidate is fused. -/
def confirmedShown (s : State) : State :=
  curShow { setF s F.UPD_STAT_CUR s.upd.running with
    upd := { (setF s F.UPD_STAT_CUR s.upd.running).upd with trial := false, confirm := false, pkg := none } }

theorem confirmed_eq (s : State) : confirmed s =
    updShow (setUstate (setF (setF (fuseSvn (confirmedShown s)) F.UPD_STAT_CONFIRMED 1) F.UPD_STAT_TRIES 0) 0) := rfl

theorem curShow_fuses (s : State) : (curShow s).sec.fuses = s.sec.fuses :=
  same_of_keeps .fuses (curShow_keeps s (by decide) Keeps.same)

theorem confirmed_forward (s : State) : FusesForward s (confirmed s) := by
  have shown : FusesForward s (confirmedShown s) := .of_fuses (curShow_fuses _)
  rw [confirmed_eq]
  refine .keeps (updShow_keeps _ (by decide) Keeps.same) (.keeps (by apply setUstate_keeps (h0 := Keeps.same) <;> decide) ?_)
  exact .keeps (setF_keeps _ _ _ (by decide) (setF_keeps _ _ _ (by decide) Keeps.same)) (shown.trans (fuseSvn_forward _))

/-- Only a record that confirms a candidate fuses a version; every other operation leaves the fuses alone. -/
theorem flashEffect_keeps_fuses (s : State) (o : FlashOp) (ok : Bool) (h : ∀ r, o ≠ .state r) :
    Keeps Part.fuses.others s (flashEffect s o ok) := by
  have hupd : Part.upd ∈ Part.fuses.others := by decide
  unfold flashEffect
  repeat' first
    | with_reducible exact Keeps.same
    | simp only [Keeps.upd, hupd]
    | with_reducible apply flashWr_keeps
    | with_reducible apply updShow_keeps
    | with_reducible apply markMissing_keeps
    | with_reducible apply sectorErased_keeps
    | with_reducible apply pkgFull_keeps
    | with_reducible apply parcelEnd_keeps
    | decide
    | exact absurd rfl (h _)
    | split

theorem flashEffect_state (s : State) (r : SlotRec) (ok : Bool) : flashEffect s (.state r) ok =
    if r.cand.isSome then warmRequest (recWrite s r) F.GLB_RSTCAUSE_WARMSW else confirmed (recWrite s r) := rfl

theorem flashEffect_forward (s : State) (o : FlashOp) (ok : Bool) : FusesForward s (flashEffect s o ok) := by
  cases o with
  | state r =>
    have written : FusesForward s (recWrite s r) := .of_keeps (by apply recWrite_keeps (h0 := Keeps.same); decide)
    rw [flashEffect_state]
    split
    · exact .keeps (by apply warmRequest_keeps (h0 := Keeps.same) <;> decide) written
    · exact written.trans (confirmed_forward _)
  | _ => exact .of_keeps (flashEffect_keeps_fuses s _ ok (fun r h => by cases h))

theorem flashDone_forward (s : State) (ok : Bool) : FusesForward s (flashDone s ok) := by
  unfold flashDone
  split
  next o _ _ =>
    have next : FusesForward s (flashNext s) := .of_keeps (by apply flashNext_keeps (h0 := Keeps.same) <;> decide)
    exact next.trans (flashEffect_forward _ o ok)
  · exact .refl s

/-- The state in which the flash operation in progress has finished. -/
def flashFinished (s : State) : State :=
  match s.upd.ops with
  | .erase _ :: _ => s
  | o :: _ => flashEffect { s with upd := { s.upd with ops := [] } } o true
  | [] => s

theorem flashSettle_eq (s : State) : flashSettle s = flashCut (flashFinished s) := rfl

theorem flashFinished_forward (s : State) : FusesForward s (flashFinished s) := by
  unfold flashFinished
  split
  · exact .refl s
  · exact flashEffect_forward { s with upd := { s.upd with ops := [] } } _ true
  · exact .refl s

theorem flashSettle_forward (s : State) : FusesForward s (flashSettle s) :=
  .keeps (flashCut_keeps _ (by decide) (by decide) Keeps.same) (flashFinished_forward s)

theorem orderlyShutdown_forward (s : State) : FusesForward s (orderlyShutdown s) := by
  unfold orderlyShutdown
  split
  · split
    · exact .refl s
    · refine .keeps (s := flashSettle s) ?_ (flashSettle_forward s)
      refine powerShow_keeps _ (by decide) (setF_keeps _ _ _ (by decide) ?_)
      refine raise_keeps _ _ _ (by decide) (by decide) (by decide) (by decide) (setF_keeps _ _ _ (by decide) ?_)
      refine Keeps.foldl (fun t c h => selfRefEntry_keeps t c (by decide) (by decide) h) ?_
      apply journalWrite_keeps (h0 := Keeps.same) <;> decide
  · exact .refl s

theorem warmAssert_forward (s : State) : FusesForward s (warmAssert s) := by
  have hsec := keepAll_same (padsOff (warmQuiet s)) (aonFields ++ warmFields) (resetCore (padsOff (warmQuiet s))) .sec (by decide)
  have hquiet : (padsOff (warmQuiet s)).sec.fuses = (flashSettle s).sec.fuses :=
    padsOff_warmQuiet_same s .fuses (by decide) (by decide)
  refine (flashSettle_forward s).trans (.of_fuses ?_)
  rw [warmAssert_eq, warmKeep_sec, hsec, resetCore_fuses, hquiet]

theorem readyTimed_fuses (s : State) : (readyTimed s).sec.fuses = s.sec.fuses := rfl

/-- On the way to READY the version of CUR is fused (R580). -/
theorem toReady_forward (s : State) (ms : Nat) : FusesForward s (toReady s ms) := by
  have marked : FusesForward s (readyMarked s ms) :=
    .of_keeps (by apply setBootStage_keeps (h0 := setF_keeps _ _ _ (by decide) (setF_keeps _ _ _ (by decide) Keeps.same)); decide)
  have timed : FusesForward s (readyTimed (readyMarked s ms)) := marked.trans (.of_fuses (readyTimed_fuses _))
  have ready : FusesForward s (readyPorts (readyTimed (readyMarked s ms))) := by
    unfold readyPorts
    split
    · exact .keeps (by apply startPorts_keeps (h0 := Keeps.same) <;> decide) timed
    · exact timed
  rw [toReady_eq]
  exact .keeps (by apply raise_keeps (h0 := Keeps.same) <;> decide) (ready.trans (fuseSvn_forward _))

theorem linkShown_fuses (s : State) (m r : Nat) : (linkShown s m r).sec.fuses = s.sec.fuses :=
  same_of_keeps .fuses (setF_keeps _ _ _ (by decide) (setF_keeps _ _ _ (by decide) (setF_keeps _ _ _ (by decide) Keeps.same)))

theorem ucieUp_forward (s : State) (mods rate ms : Nat) : FusesForward s (ucieUp s mods rate ms) := by
  have linked : FusesForward s (linkTrained s mods rate) :=
    .of_fuses ((same_of_keeps .fuses (issueWaiting_keeps _ (by decide) (by decide) (by decide) Keeps.same)).trans
      (linkShown_fuses s mods rate))
  rw [ucieUp_eq]
  split
  · exact linked.trans (toReady_forward _ ms)
  · exact linked

theorem ucieAttemptEnd_forward (s : State) (mods : List (Option Nat)) (left : Bool) (ms : Nat) :
    FusesForward s (ucieAttemptEnd s mods left ms) := by
  unfold ucieAttemptEnd
  split
  · exact .refl s
  · split
    next m r _ => exact ucieUp_forward s m r ms
    · exact .of_keeps (ucieFail_keeps s (by decide) (by decide) Keeps.same)

theorem windowClose_forward (s : State) (qs : List (Nat × Word)) (ms : Nat) : FusesForward s (windowClose s qs ms) := by
  have settings : ∀ x, FusesForward x (queueSettings x qs) := fun x => .of_keeps (by apply queueSettings_keeps (h0 := Keeps.same) <;> decide)
  unfold windowClose
  split
  · exact .refl s
  · dsimp only
    split
    · exact .of_fuses rfl
    · split
      · split
        · refine .trans (t := setF { s with boot := { s.boot with fails := 0 } } F.GLB_ROLE_HOSTLESS 1) (.of_fuses rfl) ?_
          exact (settings _).trans (toReady_forward _ ms)
        · exact .of_fuses rfl
      · split
        · exact .of_fuses rfl
        · exact .of_fuses rfl

/-! ### Every step -/

theorem whenOn_forward {id : Nat} {s t : State} {f : State → State} (h : whenOn id s f = .next t) (hf : ∀ x, FusesForward x (f x)) :
    FusesForward s t := by
  injection h with h
  subst h
  split
  · exact hf s
  · exact .refl s

theorem exec_forward {c : Instr} {s t : State} (h : exec c s = .next t) : FusesForward s t := by
  by_cases hf : Part.fuses ∈ touched c
  case neg =>
    obtain ⟨_, _, same⟩ := exec_keeps h
    exact .of_fuses (same .fuses hf)
  cases c <;> dsimp only [exec, touched] at h hf
  case warmResetAssert =>
    injection h with h
    subst h
    split
    · exact warmAssert_forward s
    · exact .refl s
  case ucieAttemptEnd dt mods left ms =>
    have passed : FusesForward s (advance dt s) := .of_keeps (by apply advance_keeps (h0 := Keeps.same) <;> decide)
    exact passed.trans (whenOn_forward h (fun x => ucieAttemptEnd_forward x mods left ms))
  case ucieWindowClose qs ms => exact whenOn_forward h (fun x => windowClose_forward x qs ms)
  case orderlyShutdown => exact whenOn_forward h orderlyShutdown_forward
  case lifeEntry host =>
    exact whenOn_forward (id := 0x16) (f := fun s => onEntryRead s 0x5D (secWaits 304) fun s it => lifeEntry s it host) h
      (fun x => .onEntryRead (fun x it => lifeEntry_forward x it host))
  case dbgtoken b => exact whenOn_forward (id := 0x19) (f := fun s => dbgToken s b) h (fun x => dbgToken_forward x b)
  case flashOperationDone ok => exact whenOn_forward (id := 0x17) (f := fun s => flashDone s ok) h (fun x => flashDone_forward x ok)
  all_goals exact absurd hf (by decide)

/-- Settles O9. -/
theorem fusesOnlyMoveForward : Obligations.FusesOnlyMoveForward := by
  unfold Obligations.FusesOnlyMoveForward
  intro s t h
  unfold step at h
  split at h
  next =>
    injection h with h
    subst h
    obtain ⟨_, _, same⟩ := idle_keeps_plain s
    exact FusesForward.of_fuses (same .fuses (by decide))
  next c rest _ => exact exec_forward (s := { s with pending := rest }) h

end Sys2Proof.Machine
end

section
/-! PROOF. Steps of the time (R357 to R360, R365 to R367, R373, R375): TIME_WRAP, TIM_ADJ, the reference, holdover, and a SYNC
in LOCKED. -/

set_option Elab.async false

namespace Sys2Proof.Machine

/-! ### What raising an event leaves -/

/-- Nothing changed but what raising events changes: every part but the registers, the host interface, the letters and the outputs
stands, and so does every register of the blocks behind CHN. -/
structure EventSame (s t : State) : Prop where
  parts : Keeps [.regs, .hif, .chn, .out] s t
  words : RegsBut (fun o => o < 0xE0000) s t

namespace EventSame

theorem refl (s : State) : EventSame s s := ⟨Keeps.same, RegsBut.same⟩

theorem same {s t : State} (h : EventSame s t) (p : Part) (hp : p ∉ [Part.regs, .hif, .chn, .out]) : p.same s t := h.parts.2.2 p hp

theorem word {s t : State} (h : EventSame s t) {off : Nat} (ho : 0xE0000 ≤ off) : t.word off = s.word off :=
  h.words off (Nat.not_lt.2 ho)

theorem getF {s t : State} (h : EventSame s t) {f : Fld} (hf : 0xE0000 ≤ f.off) : getF t f = getF s f := congrArg f.get (h.word hf)

end EventSame

theorem raise_eventSame (s : State) (code : Nat) (det : Bytes) : EventSame s (raise s code det) :=
  ⟨raise_keeps s code det (by decide) (by decide) (by decide) (by decide) Keeps.same,
    raise_regs s code det (fun k => by omega) (by decide) (fun i => by simp only [R.CHN_PERR]; omega) RegsBut.same⟩

/-- Fields are read from the register file alone. -/
theorem getF_congr {s t : State} (h : t.regs = s.regs) (f : Fld) : getF t f = getF s f := by
  rw [getF, getF, State.word, State.word, h]

theorem word_lampDrop (s : State) (off : Nat) : (lampDrop s).word off = s.word off := lampDrop_regs (W0 := fun _ => False) s RegsBut.same off id

theorem getF_lampDrop (s : State) (f : Fld) : getF (lampDrop s) f = getF s f := congrArg f.get (word_lampDrop s f.off)

theorem lampDrop_same (s : State) (p : Part) (hp : p ∉ [Part.lmp]) : p.same s (lampDrop s) :=
  (lampDrop_keeps s (by decide) Keeps.same).2.2 p hp

/-! ### The time wraps (R359) -/

theorem wrapTimes_time (n : Nat) (s : State) : (wrapTimes n s).time = s.time :=
  same_of_keeps .time (by apply wrapTimes_keeps (h0 := Keeps.same) <;> decide)

theorem wrapTimes_one (s : State) : (wrapTimes 1 s).wraps = (s.wraps + 1) % 2 ^ 32 :=
  (raise_eventSame { s with wraps := (s.wraps + 1) % 2 ^ 32 } _ _).same .wraps (by decide)

theorem longWindow_same (s : State) (e : Nat) (p : Part) (hp : p ∉ [Part.regs]) : p.same s (longWindow s e) :=
  (longWindow_keeps s e (by decide) Keeps.same).2.2 p hp

theorem advance_time {n : Nat} {s : State} (h : timeRuns s = true) : (advance n s).time = (s.time + n * getF s F.TIM_INC_INC) % 2 ^ 60 := by
  unfold advance
  rw [if_pos h]
  exact (longWindow_same _ _ .time (by decide)).trans (wrapTimes_time _ _)

theorem advance_wraps_once {n : Nat} {s : State} (h : timeRuns s = true) (h1 : (s.time + n * getF s F.TIM_INC_INC) / 2 ^ 60 = 1) :
    (advance n s).wraps = (s.wraps + 1) % 2 ^ 32 := by
  unfold advance
  rw [if_pos h]
  dsimp only
  rw [h1]
  exact (longWindow_same _ _ .wraps (by decide)).trans (wrapTimes_one _)

/-- The ticks of `inc` that take a time below `m` over `m`. -/
def ticksTo (m t inc : Nat) : Nat := (m - t + inc - 1) / inc

theorem ticksTo_bounds {m t inc : Nat} (ht : t < m) (hi : 0 < inc) : m ≤ t + ticksTo m t inc * inc ∧ t + ticksTo m t inc * inc < m + inc := by
  have hdiv := Nat.div_add_mod (m - t + inc - 1) inc
  have hmod := Nat.mod_lt (m - t + inc - 1) hi
  rw [Nat.mul_comm] at hdiv
  unfold ticksTo
  omega

theorem timeWrap_wraps {s : State} (hr : timeRuns s = true) (ht : s.time < 2 ^ 60) (hi : 0 < getF s F.TIM_INC_INC) :
    ∃ t, exec .timeWrap s = .next t ∧ t.wraps = (s.wraps + 1) % 2 ^ 32 ∧ t.time < getF s F.TIM_INC_INC := by
  obtain ⟨hlo, hhi⟩ := ticksTo_bounds ht hi
  have hinc : getF s F.TIM_INC_INC < 2 ^ 32 := getF_lt s F.TIM_INC_INC
  refine ⟨advance (ticksTo (2 ^ 60) s.time (getF s F.TIM_INC_INC)) s, congrArg Host.Outcome.next (if_pos hr),
    advance_wraps_once hr (by omega), ?_⟩
  rw [advance_time hr]
  omega

/-! ### A step of the time (R360) -/

/-- Where a step by `d` takes the extended time. -/
def stepTarget (s : State) (d : Int) : Int := ((fullTime s : Int) + d) % (2 ^ 92 : Nat)

/-- A forward step is noted (R435). -/
def skipNoted (s : State) (d : Int) : State :=
  if 0 < d then { s with lmp := { s.lmp with
    skips := (s.lmp.skips ++ [((fullTime s : Int) / 16, stepTarget s d / 16)]).drop (s.lmp.skips.length - 15) } } else s

/-- The time stands a step further on, and nothing has followed it yet. -/
def timeMoved (s : State) (d : Int) : State :=
  { skipNoted s d with time := (stepTarget s d).toNat % 2 ^ 60, wraps := (stepTarget s d).toNat / 2 ^ 60 }

/-- Every generator has followed the step. -/
def gensStepped (s : State) (d : Int) : State :=
  (List.range 16).foldl genStep (longWindow (timeMoved s d) (extNs (skipNoted s d)))

theorem stepTime_eq (s : State) (d : Int) :
    stepTime s d = raise (incSat (gensStepped s d) F.TIM_STAT_STEPS) 0x0F02 (beBytes 4 (sat32 (d / 2 ^ 28))) := by
  unfold stepTime gensStepped timeMoved skipNoted stepTarget
  rfl

theorem timeMoved_word (s : State) (d : Int) (off : Nat) : (timeMoved s d).word off = s.word off := by
  unfold timeMoved skipNoted
  split <;> rfl

/-- The parts that the generators touch as they follow a step. -/
def genParts : List Part := [.regs, .hif, .sor, .chn, .tim, .out]

theorem gensStepped_keeps (s : State) (d : Int) : Keeps genParts (timeMoved s d) (gensStepped s d) :=
  Keeps.foldl (fun t g h => genStep_keeps t g (by decide) (by decide) (by decide) (by decide) (by decide) (by decide) h)
    (longWindow_keeps _ _ (by decide) Keeps.same)

/-- The registers that no generator writes as it follows a step. -/
def BesideGens (off : Nat) : Prop := 0xF0000 ≤ off ∧ off < 0xF1000

theorem gensStepped_word (s : State) (d : Int) {off : Nat} (h : BesideGens off) : (gensStepped s d).word off = s.word off := by
  have hw : RegsBut (fun o => ¬ BesideGens o) (timeMoved s d) (gensStepped s d) := by
    refine RegsBut.foldl (fun t g ht => ?_) (longWindow_regs _ _ (by simp only [BesideGens, R.SOR_GSTAT]; omega) RegsBut.same)
    exact genStep_regs t g (fun k => by simp only [BesideGens]; omega) (by simp only [BesideGens, R.GLB_EVTOVF]; omega)
      (fun i => by simp only [BesideGens, R.CHN_PERR]; omega) (fun i => by simp only [BesideGens, R.TIM_PGCFG]; omega)
      (fun i => by simp only [BesideGens, R.TIM_PGSTAT]; omega) (fun i => by simp only [BesideGens, R.TIM_PGNEXT]; omega) ht
  exact (hw off (not_not.2 h)).trans (timeMoved_word s d off)

theorem stepTime_word (s : State) (d : Int) {off : Nat} (h : BesideGens off) (hs : off ≠ R.TIM_STAT) :
    (stepTime s d).word off = s.word off := by
  rw [stepTime_eq, (raise_eventSame _ _ _).word (by have := h.1; omega), incSat, word_setF_ne _ _ _ hs, gensStepped_word s d h]

theorem getF_stepTime (s : State) (d : Int) {f : Fld} (h : BesideGens f.off) (hs : f.off ≠ R.TIM_STAT) : getF (stepTime s d) f = getF s f :=
  congrArg f.get (stepTime_word s d h hs)

theorem servo_stepTime (s : State) (d : Int) : servo (stepTime s d) = servo s := by
  rw [stepTime_eq, servo, (raise_eventSame _ _ _).getF (by decide), incSat, getF_setF_beside _ F.TIM_STAT_STEPS F.TIM_STAT_STATE _ rfl (by decide) (by decide)]
  exact congrArg F.TIM_STAT_STATE.get (gensStepped_word s d ⟨by decide, by decide⟩)

/-- A step is counted (R360). -/
theorem steps_stepTime (s : State) (d : Int) :
    getF (stepTime s d) F.TIM_STAT_STEPS = satAdd F.TIM_STAT_STEPS.top (getF s F.TIM_STAT_STEPS) 1 := by
  rw [stepTime_eq, (raise_eventSame _ _ _).getF (by decide), getF_incSat_same _ _ _ (by decide)]
  exact congrArg (satAdd _ · 1) (congrArg F.TIM_STAT_STEPS.get (gensStepped_word s d ⟨by decide, by decide⟩))

theorem stepTime_same (s : State) (d : Int) (p : Part) (hp : p ∉ genParts) : p.same (timeMoved s d) (stepTime s d) := by
  have hk : Keeps genParts (timeMoved s d) (stepTime s d) := by
    rw [stepTime_eq]
    exact raise_keeps _ _ _ (by decide) (by decide) (by decide) (by decide) (incSat_keeps _ _ _ (by decide) (gensStepped_keeps s d))
  exact hk.2.2 p hp

/-- A step takes the extended time to its target (R360). -/
theorem fullTime_stepTime (s : State) (d : Int) : (fullTime (stepTime s d) : Int) = stepTarget s d := by
  have htime : (stepTime s d).time = (stepTarget s d).toNat % 2 ^ 60 := stepTime_same s d .time (by decide)
  have hwraps : (stepTime s d).wraps = (stepTarget s d).toNat / 2 ^ 60 := stepTime_same s d .wraps (by decide)
  have hpos : 0 ≤ stepTarget s d := Int.emod_nonneg _ (by decide)
  rw [fullTime, htime, hwraps, Nat.div_add_mod', Int.toNat_of_nonneg hpos]

/-! ### Writes of TIM_ADJ and TIM_REFCFG (R360, R366) -/

theorem hostWrite_tim {s : State} {off : Nat} {v : Word} (hoff : off / 0x10000 = 15) (h : WriteOk s off v) :
    hostWrite s off v = effectTim s (storeReg s off v) off v := by
  rw [hostWrite_accepted (by omega) (by omega) h, regEffect_0f _ _ _ hoff]

theorem storeReg_same (s : State) (off : Nat) (v : Word) (p : Part) (hp : p ∉ [Part.regs, .cmp]) : p.same s (storeReg s off v) :=
  (storeReg_keeps s off v (by decide) (by decide) Keeps.same).2.2 p hp

theorem getF_storeReg_ne (s : State) {off : Nat} (v : Word) {f : Fld} (h : f.off ≠ off) : getF (storeReg s off v) f = getF s f :=
  congrArg f.get (word_storeReg_ne s v h)

theorem fullTime_congr {s t : State} (htime : t.time = s.time) (hwraps : t.wraps = s.wraps) : fullTime t = fullTime s := by
  rw [fullTime, fullTime, htime, hwraps]

theorem fullTime_setF (s : State) (f : Fld) (v : Nat) : fullTime (setF s f v) = fullTime s := fullTime_congr rfl rfl

theorem fullTime_storeReg (s : State) (off : Nat) (v : Word) : fullTime (storeReg s off v) = fullTime s :=
  fullTime_congr (storeReg_same s off v .time (by decide)) (storeReg_same s off v .wraps (by decide))

theorem toNat_put_whole {off v : Nat} (hv : v < 2 ^ 32) : ((⟨off, 0, 32⟩ : Fld).put 0#32 v).toNat = v := by
  have hget := get_put_read ⟨off, 0, 32⟩ 0#32 hv (by rfl)
  rw [Fld.get, bits, pow_zero, Nat.div_one] at hget
  rwa [Nat.mod_eq_of_lt (BitVec.isLt _)] at hget

theorem timeAdjStep_steps {n : Nat} {s : State} (hn : n < 2 ^ 32) (h : WriteOk s R.TIM_ADJ (F.TIM_ADJ_STEP.put 0#32 n)) :
    ∃ t, exec (.timeAdjStep n) s = .next t ∧ (fullTime t : Int) = ((fullTime s : Int) + signed 32 n * 2 ^ 28) % (2 ^ 92 : Nat) ∧
      getF t F.TIM_STAT_STEPS = satAdd F.TIM_STAT_STEPS.top (getF s F.TIM_STAT_STEPS) 1 := by
  refine ⟨_, congrArg Host.Outcome.next ((hostWrite_tim (by decide) h).trans ((if_neg (by decide)).trans (if_pos rfl))), ?_, ?_⟩
  · rw [fullTime_stepTime, stepTarget, fullTime_storeReg, toNat_put_whole hn]
  · rw [steps_stepTime, getF_storeReg_ne _ _ (by decide)]

theorem refArm_arms {v : Word} {s : State} (h : WriteOk s R.TIM_REFCFG (F.TIM_REFCFG_ARM.put v 1)) :
    ∃ t, exec (.refArm v) s = .next t ∧ getF t F.TIM_REFCFG_ARMED = 1 ∧ fullTime t = fullTime s := by
  have harm : F.TIM_REFCFG_ARM.get (F.TIM_REFCFG_ARM.put v 1) = 1 := get_put_read _ _ (by decide) (by decide)
  refine ⟨_, congrArg Host.Outcome.next ((hostWrite_tim (by decide) h).trans ((if_neg (by decide)).trans ((if_neg (by decide)).trans
    ((if_pos rfl).trans (if_pos harm))))), getF_setF_read _ _ (by decide) (by decide), ?_⟩
  exact (fullTime_setF _ _ _).trans (fullTime_storeReg s _ _)

/-! ### The servo (R367, R375) -/

/-- The servo in a new state, before the event. -/
def servoSet (s : State) (st : Nat) : State :=
  { setF s F.TIM_STAT_STATE st with
    tim := { s.tim with good := 0, bad := 0, holdFrom := if st = tHoldover then some (upNs s) else none },
    tan := { s.tan with holdFrom := if st = tLocked then s.tan.holdFrom else none } }

theorem setServo_eq (s : State) (st : Nat) :
    setServo s st = if servo s = st then s else lampDrop (raise (servoSet s st) 0x0F03 [byte st, byte (servo s)]) := rfl

theorem servo_setServo (s : State) {st : Nat} (h : st < 4) : servo (setServo s st) = st := by
  rw [setServo_eq]
  split
  next heq => exact heq
  · rw [servo, getF_lampDrop, (raise_eventSame _ _ _).getF (by decide)]
    exact getF_setF_read s F.TIM_STAT_STATE h (by decide)

theorem setServo_word (s : State) (st : Nat) {off : Nat} (h : 0xE0000 ≤ off) (hs : off ≠ R.TIM_STAT) : (setServo s st).word off = s.word off := by
  rw [setServo_eq]
  split
  · rfl
  · rw [word_lampDrop, (raise_eventSame _ _ _).word h]
    exact word_setF_ne s F.TIM_STAT_STATE st hs

theorem getF_setServo (s : State) (st : Nat) {f : Fld} (h : 0xE0000 ≤ f.off) (hs : f.off ≠ R.TIM_STAT) : getF (setServo s st) f = getF s f :=
  congrArg f.get (setServo_word s st h hs)

theorem setServo_same (s : State) (st : Nat) (p : Part) (hp : p ∉ [Part.regs, .hif, .chn, .tim, .tan, .lmp, .out]) : p.same s (setServo s st) :=
  (setServo_keeps s st (by decide) (by decide) (by decide) (by decide) (by decide) (by decide) (by decide) Keeps.same).2.2 p hp

theorem fullTime_setServo (s : State) (st : Nat) : fullTime (setServo s st) = fullTime s :=
  fullTime_congr (setServo_same s st .time (by decide)) (setServo_same s st .wraps (by decide))

theorem tim_setServo {s : State} {st : Nat} (h : servo s ≠ st) : (setServo s st).tim = (servoSet s st).tim := by
  rw [setServo_eq, if_neg h]
  exact (lampDrop_same _ .tim (by decide)).trans ((raise_eventSame _ _ _).same .tim (by decide))

/-- A servo that comes into HOLDOVER counts its time there from now (R390). -/
theorem holdFrom_setServo {s : State} (h : servo s ≠ tHoldover) : (setServo s tHoldover).tim.holdFrom = some (upNs s) := by
  rw [tim_setServo h]
  rfl

/-- Into HOLDOVER from another state. -/
theorem toHoldover_holds {s : State} (h : servo s ≠ tHoldover) :
    servo (toHoldover s) = tHoldover ∧ (toHoldover s).tim.holdFrom = some (upNs s) := by
  have hheld : ∀ x, getF (holdInc x) F.TIM_STAT_STATE = getF x F.TIM_STAT_STATE := fun x =>
    getF_of_regs (holdInc_regs x (by decide) RegsBut.same)
  have hup : ∀ x, (holdInc x).up = x.up := fun x => same_of_keeps .up (holdInc_keeps x (by decide) Keeps.same)
  refine ⟨servo_setServo _ (by decide), (holdFrom_setServo fun he => h ?_).trans (congrArg some (hup _))⟩
  exact (hheld { s with tim := { s.tim with lockInc := getF s F.TIM_INC_INC } }).symm.trans he

/-! ### The reference (R366, R367) -/

/-- The step that sets the time to the value of an armed reference. -/
def refStep (s : State) : Int :=
  ((getF s F.TIM_REFVAL_VAL + getF s F.TIM_REFCFG_REFDLY) % 2 ^ 32 * 2 ^ 28 : Nat) - (fullTime s : Int)

/-- The reference of `s` was armed, and its edge has set the time, which gave `x`. -/
def refTaken (s x : State) : State :=
  let x := setF x F.TIM_REFCFG_ARMED 0
  { x with tim := { x.tim with refJ := 1, refWrap := (getF s F.TIM_REFVAL_VAL + getF s F.TIM_REFCFG_REFDLY) / 2 ^ 32, good := 0,
                               bad := 0, slew := none, incs := [], lastUsed := upNs x } }

theorem fullTime_refTaken (s x : State) : fullTime (refTaken s x) = fullTime x := fullTime_congr rfl rfl

theorem armed_refTaken (s x : State) : getF (refTaken s x) F.TIM_REFCFG_ARMED = 0 :=
  getF_setF_read x F.TIM_REFCFG_ARMED (by decide) (by decide)

theorem refEdge_armed {s : State} (hr : hasRef s = true) (ha : isSet s F.TIM_REFCFG_ARMED = true) (eighths : Nat) :
    refEdge s eighths = setServo (refTaken s (stepTime s (refStep s))) tAcquire := by
  unfold refEdge
  rw [if_neg (by simp [hr]), if_pos ha]
  simp only [refTaken, refStep]

theorem whole_ns_lt (n : Nat) : n % 2 ^ 32 * 2 ^ 28 < 2 ^ 92 :=
  calc n % 2 ^ 32 * 2 ^ 28 < 2 ^ 32 * 2 ^ 28 := Nat.mul_lt_mul_of_pos_right (Nat.mod_lt _ (by decide)) (by decide)
    _ < 2 ^ 92 := by decide

theorem fullTime_refStep (s : State) :
    fullTime (stepTime s (refStep s)) = (getF s F.TIM_REFVAL_VAL + getF s F.TIM_REFCFG_REFDLY) % 2 ^ 32 * 2 ^ 28 := by
  have hstep := fullTime_stepTime s (refStep s)
  rw [stepTarget, refStep, add_sub_cancel, ← Int.natCast_emod, Int.natCast_inj, Nat.mod_eq_of_lt (whole_ns_lt _)] at hstep
  exact hstep

theorem referenceEdge_sets {dt : Nat} {s : State} (eighths : Nat) (hon : blkOn (advance dt s) 0x0F = true) (hst : steered (advance dt s) = true)
    (hr : hasRef (advance dt s) = true) (ha : isSet (advance dt s) F.TIM_REFCFG_ARMED = true) :
    ∃ t, exec (.referenceEdge dt eighths (isSet (advance dt s) F.TIM_REFCFG_FALL)) s = .next t ∧
      fullTime t = (getF (advance dt s) F.TIM_REFVAL_VAL + getF (advance dt s) F.TIM_REFCFG_REFDLY) % 2 ^ 32 * 2 ^ 28 ∧
      servo t = tAcquire ∧ getF t F.TIM_REFCFG_ARMED = 0 := by
  refine ⟨setServo (refTaken (advance dt s) (stepTime (advance dt s) (refStep (advance dt s)))) tAcquire, (whenOn_of_on hon _).trans (congrArg Host.Outcome.next ?_), ?_,
    servo_setServo _ (by decide), ?_⟩
  · rw [if_pos ⟨rfl, hst⟩, refEdge_armed hr ha]
  · rw [fullTime_setServo, fullTime_refTaken, fullTime_refStep]
  · rw [getF_setServo _ _ (by decide) (by decide), armed_refTaken]

theorem referenceLoss_holds {dt : Nat} {s : State} (hon : blkOn (advance dt s) 0x0F = true) (hst : steered (advance dt s) = true)
    (hr : hasRef (advance dt s) = true) (hlock : servo (advance dt s) = tLocked)
    (hlate : (advance dt s).tim.lastUsed * 2 ^ 25 + 3 * refPeriod (advance dt s) ≤ upNs (advance dt s) * 2 ^ 25) :
    ∃ t, exec (.referenceLoss dt) s = .next t ∧ servo t = tHoldover ∧ t.tim.holdFrom = some (upNs (advance dt s)) := by
  refine ⟨toHoldover (advance dt s), (whenOn_of_on hon _).trans (congrArg Host.Outcome.next ?_), toHoldover_holds (by rw [hlock]; decide)⟩
  rw [if_pos hst, refLoss, if_pos ⟨hr, hlock, hlate⟩]

/-! ### SYNC (R373, R375) -/

theorem syncLoss_holds {dt : Nat} {s : State} (hon : blkOn (advance dt s) 0x0F = true) (hst : steered (advance dt s) = true)
    (hf : isTile (advance dt s) = true ∨ isSet (advance dt s) F.TIM_CFG_ROLE = false)
    (hs : servo (advance dt s) = tAcquire ∨ servo (advance dt s) = tLocked)
    (hlate : (advance dt s).tim.lastUsed + 1000 * getF (advance dt s) F.TIM_SYNCCFG_LOSSUS ≤ upNs (advance dt s)) :
    ∃ t, exec (.syncLoss dt) s = .next t ∧ servo t = tHoldover := by
  have hfree : servo (advance dt s) ≠ tFree := by rcases hs with h | h <;> rw [h] <;> decide
  have hhold : servo (advance dt s) ≠ tHoldover := by rcases hs with h | h <;> rw [h] <;> decide
  have hfollow : (isTile (advance dt s) || !isSet (advance dt s) F.TIM_CFG_ROLE) = true := by
    rcases hf with h | h <;> simp [h]
  refine ⟨toHoldover (advance dt s), (whenOn_of_on hon _).trans (congrArg Host.Outcome.next ?_), (toHoldover_holds hhold).1⟩
  rw [if_pos hst, syncLoss, if_pos ⟨hfollow, hfree, hhold, hlate⟩]

/-- The source of a SYNC is kept. -/
def srcKept (s : State) (y : RxCell) : State := { s with tim := { s.tim with lastSrc := pmSrc y.cell } }

/-- A unit that takes a SYNC of the wraps it is in keeps its wraps (R373). -/
theorem useSync_same_wraps {s : State} {y : RxCell} (h : syncWraps y = s.wraps) : useSync s y = servoSync (srcKept s y) (syncOffset s y) := by
  rw [syncWraps] at h
  unfold useSync
  dsimp only
  rw [if_pos h]
  rfl

/-- The bounds of R357, which hold of what steering picks where no slew narrows them. -/
theorem pick_in_range (r : Nat) : incLow ≤ incLow + r % (incHigh - incLow + 1) ∧ incLow + r % (incHigh - incLow + 1) ≤ incHigh := by
  have hmod := Nat.mod_lt r (by decide : 0 < incHigh - incLow + 1)
  have hle : incLow ≤ incHigh := by decide
  omega

/-- What the servo keeps of a steer to `v`. -/
def steerNoted (x : State) (kept : Bool) (v : Nat) : State :=
  { x with tim := { x.tim with incs := if kept then (v :: x.tim.incs).take 16 else x.tim.incs, lastUsed := upNs x } }

theorem steerNoted_keeps (x : State) (kept : Bool) (v : Nat) : (steerNoted x kept v).tim.lastUsed = upNs x ∧
    (steerNoted x kept v).time = x.time ∧ ∀ f, getF (steerNoted x kept v) f = getF x f := ⟨rfl, rfl, fun _ => rfl⟩

/-- A free value is drawn. -/
def drawn (s : State) : State := { s with free := s.free + 1 }

theorem getF_drawn (s : State) (f : Fld) : getF (drawn s) f = getF s f := rfl

/-- The value that steering picks with no slew. -/
def freeInc (s : State) : Nat := incLow + Config.freeNat s.free % (incHigh - incLow + 1)

theorem steer_of_no_slew {s : State} (hslew : s.tim.slew = none) (kept : Bool) :
    steer s kept = steerNoted (setF (drawn s) F.TIM_INC_INC (freeInc s)) kept (freeInc s) := by
  simp only [steer, drawNat, hslew, steerNoted, drawn, freeInc]

theorem steer_locked {s : State} (hslew : s.tim.slew = none) : (steer s).tim.lastUsed = upNs s ∧ (steer s).time = s.time ∧
    servo (steer s) = servo s ∧ incLow ≤ getF (steer s) F.TIM_INC_INC ∧ getF (steer s) F.TIM_INC_INC ≤ incHigh := by
  obtain ⟨hlo, hhi⟩ : incLow ≤ freeInc s ∧ freeInc s ≤ incHigh := pick_in_range _
  obtain ⟨used, time, fields⟩ := steerNoted_keeps (setF (drawn s) F.TIM_INC_INC (freeInc s)) true (freeInc s)
  have hinc : getF (setF (drawn s) F.TIM_INC_INC (freeInc s)) F.TIM_INC_INC = freeInc s :=
    getF_setF_read _ _ (hhi.trans_lt (by decide)) (by decide)
  have hserv : getF (setF (drawn s) F.TIM_INC_INC (freeInc s)) F.TIM_STAT_STATE = servo s :=
    (getF_setF_ne _ _ _ _ (by decide)).trans (getF_drawn s _)
  rw [steer_of_no_slew hslew, servo, fields, fields, hinc, hserv, used, time, upNs, setF_up, setF_time]
  exact ⟨rfl, rfl, rfl, hlo, hhi⟩

/-- No outlier in a row counts any more. -/
def outliersOver (x : State) : State := { x with tim := { x.tim with bad := 0 } }

theorem outliersOver_keeps (x : State) : (outliersOver x).tim.slew = x.tim.slew ∧ (outliersOver x).time = x.time ∧
    upNs (outliersOver x) = upNs x ∧ servo (outliersOver x) = servo x := ⟨rfl, rfl, rfl, rfl⟩

theorem servo_showOffset (s : State) (o : Int) : servo (showOffset s o) = servo s :=
  getF_of_regs (showOffset_regs s o (by decide) RegsBut.same)

theorem showOffset_same (s : State) (o : Int) (p : Part) (hp : p ∉ [Part.regs]) : p.same s (showOffset s o) :=
  (showOffset_keeps s o (by decide) Keeps.same).2.2 p hp

theorem servoSync_near {s : State} {o : Int} (hlock : servo s = tLocked) (ho : o.natAbs ≤ 50 * 65536) :
    servoSync s o = steer (outliersOver (showOffset s o)) := by
  have hserv : servo (showOffset s o) = tLocked := (servo_showOffset s o).trans hlock
  unfold servoSync
  dsimp only
  rw [if_neg (by rw [hserv]; decide), if_neg (by rw [hserv]; decide), if_pos hserv, if_neg (by omega), outliersOver]

theorem servoSync_locked {s : State} {o : Int} (hlock : servo s = tLocked) (ho : o.natAbs ≤ 50 * 65536) (hslew : s.tim.slew = none) :
    (servoSync s o).time = s.time ∧ servo (servoSync s o) = tLocked ∧ (servoSync s o).tim.lastUsed = upNs s ∧
      incLow ≤ getF (servoSync s o) F.TIM_INC_INC ∧ getF (servoSync s o) F.TIM_INC_INC ≤ incHigh := by
  obtain ⟨hsl, htime, hup, hserv⟩ := outliersOver_keeps (showOffset s o)
  have hshown : (showOffset s o).tim = s.tim := showOffset_same s o .tim (by decide)
  obtain ⟨used, time, serv, hlo, hhi⟩ := steer_locked (s := outliersOver (showOffset s o)) (by rw [hsl, hshown, hslew])
  rw [servoSync_near hlock ho]
  exact ⟨time.trans (htime.trans (showOffset_same s o .time (by decide))), serv.trans (hserv.trans ((servo_showOffset s o).trans hlock)),
    used.trans (hup.trans (showOffset_same s o .up (by decide))), hlo, hhi⟩

theorem rxTaken_keeps (s : State) (y : RxCell) : (rxTaken s y).time = s.time ∧ ∀ f, getF (rxTaken s y) f = getF s f :=
  ⟨rfl, fun _ => rfl⟩

theorem srcKept_keeps (s : State) (y : RxCell) : servo (srcKept (rxTaken s y) y) = servo s ∧
    (srcKept (rxTaken s y) y).tim.slew = s.tim.slew ∧ (srcKept (rxTaken s y) y).time = s.time ∧
    upNs (srcKept (rxTaken s y) y) = upNs s := ⟨rfl, rfl, rfl, rfl⟩

theorem exec_syncPostmark {s x : State} {y : RxCell} (hon : blkOn s 0x0F = true) (h : takeRx s (isPostmark 0) = some (y, x)) :
    exec .syncPostmark s = .next (syncArrive (rxTaken s y) y) := by
  show execSyncPostmark s = _
  simp only [execSyncPostmark, whenOn_of_on hon, h, takeRx_state h]

/-- A FOLLOW sender uses a SYNC from its FPORT and counts any other (R373). -/
theorem syncArrive_follow {s : State} (y : RxCell) (hs : isTile s = false) (hr : isSet s F.TIM_CFG_ROLE = false) :
    syncArrive s y = if y.port = getF s F.TIM_CFG_FPORT then useSync s y else incSat s F.TIM_SSTAT_SYNCDROP := by
  unfold syncArrive
  dsimp only
  rw [if_neg (by simp [hs]), if_neg (by simp [hr])]

theorem syncPostmark_used {y : RxCell} {x s : State} (hon : blkOn s 0x0F = true) (h : takeRx s (isPostmark 0) = some (y, x))
    (hs : isTile s = false) (hr : isSet s F.TIM_CFG_ROLE = false) :
    ∃ t, exec .syncPostmark s = .next t ∧
      (y.port ≠ getF s F.TIM_CFG_FPORT → t.time = s.time ∧
        getF t F.TIM_SSTAT_SYNCDROP = satAdd F.TIM_SSTAT_SYNCDROP.top (getF s F.TIM_SSTAT_SYNCDROP) 1) ∧
      (y.port = getF s F.TIM_CFG_FPORT → syncWraps y = s.wraps → servo s = tLocked →
        (syncOffset s y).natAbs ≤ 50 * 65536 → s.tim.slew = none → t.time = s.time ∧ servo t = tLocked ∧
        t.tim.lastUsed = upNs s ∧ incLow ≤ getF t F.TIM_INC_INC ∧ getF t F.TIM_INC_INC ≤ incHigh) := by
  have harrive : syncArrive (rxTaken s y) y = if y.port = getF s F.TIM_CFG_FPORT then useSync (rxTaken s y) y
      else incSat (rxTaken s y) F.TIM_SSTAT_SYNCDROP := syncArrive_follow (s := rxTaken s y) y hs hr
  refine ⟨_, exec_syncPostmark hon h, fun hp => ?_, fun hp hw hlock ho hslew => ?_⟩
  · rw [harrive, if_neg hp]
    refine ⟨(setF_time _ _ _).trans (rxTaken_keeps s y).1, ?_⟩
    rw [getF_incSat_same _ _ _ (by decide), (rxTaken_keeps s y).2]
  · rw [harrive, if_pos hp, useSync_same_wraps (s := rxTaken s y) hw]
    obtain ⟨hserv, hsl, htime, hup⟩ := srcKept_keeps s y
    obtain ⟨time, serv, used, hlo, hhi⟩ :=
      servoSync_locked (s := srcKept (rxTaken s y) y) (hserv.trans hlock) ho (hsl.trans hslew)
    exact ⟨time.trans htime, serv, used.trans hup, hlo, hhi⟩

/-- Settles O41. -/
theorem timeSteps : Obligations.TimeSteps := by
  unfold Obligations.TimeSteps
  exact ⟨fun s => timeWrap_wraps, fun n s => timeAdjStep_steps, fun v s => refArm_arms,
    fun dt eighths s => referenceEdge_sets eighths, fun dt s => referenceLoss_holds, fun dt s => syncLoss_holds,
    fun y x s => syncPostmark_used⟩

end Sys2Proof.Machine
end

section
/-! PROOF. The statement about pulse generators (R379) against the model: of the generators whose instants fall in one tick the lower
come first, and a lower one that TAN owns is answered by a pulse of the generator that TAN_CFG.HBGEN names. -/

set_option Elab.async false

namespace Sys2Proof.Machine

/-- A sender whose TAN owns generator 0 while TAN_CFG.HBGEN names generator 1, which no owner has; both are due at TIME 0, and a
period of 0 keeps generator 1 due. -/
def twoPulses : State :=
  { die 0 [(F.TAN_CFG_EN, 1), (F.TAN_CFG_HBGEN, 1), (F.TIM_PGCFG_EN 0, 1), (F.TIM_PGCFG_EN 1, 1), (F.TIM_PGCFG_PERIODIC 1, 1)] with
    tim := { State.reset.tim with gens := [(0, ⟨2, 0, 0, 0⟩)] } }

theorem exec_generatorPulse {dt g : Nat} {s : State} (hg : g < 16) (hon : blkOn (advance dt s) 0x0F = true) (slots : List Nat) :
    exec (.generatorPulse dt g slots) s = .next (generatorPulse (advance dt s) g slots) := by
  show execGeneratorPulse dt g slots s = _
  rw [execGeneratorPulse, whenOn_of_on hon, if_pos hg]

/-- Generator 1 fires as the heartbeat of generator 0 is answered, and then for itself. -/
theorem count_twoPulses : getF (generatorPulse (advance 0 twoPulses) 1 []) (F.TIM_PGSTAT_COUNT 1) = 2 := by decide +kernel

/-- Refutes O43 by its clause on an instant that is due: in `twoPulses`, one of all the states the clause speaks of, generator 1
counts two pulses in one GENERATOR_PULSE, since TAN's heartbeat, due on generator 0 in the same tick, fires the generator that
TAN_CFG.HBGEN names. -/
theorem not_generatorsAndCaptures : ¬ Obligations.GeneratorsAndCaptures := by
  unfold Obligations.GeneratorsAndCaptures
  rintro ⟨_, _, hpulse, _⟩
  obtain ⟨t, hexec, hcount, _⟩ := hpulse 0 1 [] twoPulses (by decide +kernel) (by decide) (by decide +kernel) (by decide +kernel)
    (by decide +kernel)
  obtain rfl : generatorPulse (advance 0 twoPulses) 1 [] = t :=
    Host.Outcome.next.inj ((exec_generatorPulse (by decide) (by decide +kernel) []).symm.trans hexec)
  rw [count_twoPulses] at hcount
  exact absurd hcount (by decide +kernel)

end Sys2Proof.Machine
end

section
/-! PROOF. The statement about the tandem (R396) against the model: a beacon that a tile takes later than 300 µs after it came leaves
no live claim. -/

set_option Elab.async false

namespace Sys2Proof.Machine

/-- The beacon of a running sender, stamped at TIME 0 on port 0. -/
def lateBeacon : RxCell := ⟨0, beaconOf 0x101 2, 0⟩

/-- A tile whose TAN has not taken `lateBeacon` 1 ms after it came. -/
def lateTile : State :=
  { die 1 [] with chn := { State.reset.chn with rx := [lateBeacon] }, time := 1000000 * 2 ^ 28, up := 1000000 }

theorem takeRx_lateTile : takeRx lateTile (fun c => cellKind c == 6) = some (lateBeacon, rxTaken lateTile lateBeacon) := by
  have hkind : (cellKind lateBeacon.cell == 6) = true := by decide +kernel
  have hfind : lateTile.chn.rx.find? (fun x => cellKind x.cell == 6) = some lateBeacon := List.find?_cons_of_pos hkind
  rw [takeRx, hfind]
  rfl

theorem exec_beaconCell {s x : State} {y : RxCell} (hon : blkOn s 0x10 = true) (htile : isTile s = true)
    (h : takeRx s (fun c => cellKind c == 6) = some (y, x)) : exec .beaconCell s = .next (beaconTile x y) := by
  show execBeaconCell s = _
  simp only [execBeaconCell, whenOn_of_on hon, if_pos htile, h]

/-- The 300 µs count from when the beacon came, and are over. -/
theorem tileLive_lateTile : tileLive (beaconTile (rxTaken lateTile lateBeacon) lateBeacon) 0 = false := by decide +kernel

/-- Refutes O44 by its clause on a tile's beacon: that the claim is live once the beacon of a running sender is taken leaves out when
the beacon came. In `lateTile`, one of all the states the clause speaks of, it came 1 ms ago, and its claim lives 300 µs. -/
theorem not_tandemClaims : ¬ Obligations.TandemClaims := by
  unfold Obligations.TandemClaims
  rintro ⟨hbeacon, _⟩
  obtain ⟨t, hexec, hlive, _⟩ := hbeacon lateBeacon _ lateTile (by decide +kernel) (by decide +kernel) takeRx_lateTile
    (by decide +kernel) (by decide)
  obtain rfl : beaconTile (rxTaken lateTile lateBeacon) lateBeacon = t :=
    Host.Outcome.next.inj ((exec_beaconCell (by decide +kernel) (by decide +kernel) takeRx_lateTile).symm.trans hexec)
  have hport : lateBeacon.port = 0 := rfl
  rw [hport, tileLive_lateTile] at hlive
  exact absurd hlive (by decide +kernel)

end Sys2Proof.Machine
end

section
/-! PROOF. The statement about the frames of a tile (R436) against the model: nothing in it says that the table of generators has one
entry per generator, and in a table with two the cadence generator does not read as the cadence's. -/

set_option Elab.async false

namespace Sys2Proof.Machine

/-- A MODE letter of rank 1. -/
def rankOneMode : Letter := ⟨0, 0xFFFE, false, 1, 1, 5, 0,
  beBytes 4 100 ++ zeros 4 ++ beBytes 4 1000 ++ beBytes 4 16666666 ++ zeros 4 ++ beBytes 4 5000000 ++ beBytes 4 4000000 ++
    beBytes 4 100000, none, 3, 0⟩

/-- A tile that accepts the claim of rank 1 and has no mode yet; its table of generators lists generator 0 twice. -/
def twoEntries : State :=
  { die 1 [] with
    chn := { State.reset.chn with letters := [rankOneMode] }
    tan := { State.reset.tan with chosen := [(101, 1, 0x301)] }
    tim := { State.reset.tim with gens := [(0, ⟨2, 0, 0, 0⟩), (0, ⟨3, 0, 0, 0⟩)] } }

/-- `twoEntries` with the letter taken. -/
def twoEntriesTaken : State := { twoEntries with chn := { twoEntries.chn with letters := [] } }

theorem takeLetter_twoEntries : takeLetter twoEntries (fun l => l.ltype == 5) = some (rankOneMode, twoEntriesTaken) := rfl

theorem exec_modeLetter {s x : State} {l : Letter} (hon : blkOn s 0x11 = true)
    (h : takeLetter s (fun l => l.ltype == 5) = some (l, x)) : exec .modeLetter s = .next (modeLetter x l) := by
  show execModeLetter s = _
  rw [execModeLetter, whenOn_of_on hon, onLetter, h]

theorem tileGen_twoEntries : (gen (modeLetter twoEntriesTaken rankOneMode) (tileGen (modeLetter twoEntriesTaken rankOneMode))).owner = 2 := by
  decide +kernel

/-- Refutes O47 by its clause on the first MODE letter: `twoEntries`, one of all the states the clause speaks of, lists generator 0
twice. The entry that the cadence owns is found, but the generator reads as the entry before it says. -/
theorem not_tileFrames : ¬ Obligations.TileFrames := by
  unfold Obligations.TileFrames
  rintro ⟨hmode, _⟩
  obtain ⟨t, hexec, _, hfirst⟩ := hmode rankOneMode _ twoEntries (by decide +kernel) takeLetter_twoEntries
  obtain rfl : modeLetter twoEntriesTaken rankOneMode = t :=
    Host.Outcome.next.inj ((exec_modeLetter (by decide +kernel) takeLetter_twoEntries).symm.trans hexec)
  obtain ⟨_, howner, _⟩ := hfirst (by decide +kernel) (by decide +kernel) (by decide +kernel) (by decide +kernel) rfl
  rw [tileGen_twoEntries] at howner
  exact absurd howner (by decide)

end Sys2Proof.Machine
end

section
/-! PROOF. Refresh, self-refresh and changes of set-point (R494 to R499, R501). -/

set_option Elab.async false

namespace Sys2Proof.Machine

/-! ### OWED -/

theorem signed_unsign_five {v : Int} (hlo : -16 ≤ v) (hhi : v < 16) : signed 5 (unsign 5 v) = v := by
  simp only [signed, unsign]
  norm_num
  split <;> omega

theorem signed_five_range (n : Nat) : -16 ≤ signed 5 n ∧ signed 5 n < 16 := by
  simp only [signed]
  norm_num
  split <;> omega

theorem owed_zero (s : State) (c : Nat) : owed s c 0 = signed 5 (getF s (F.DRC_CHSTAT_OWED c)) := rfl

theorem owed_zero_range (s : State) (c : Nat) : -16 ≤ owed s c 0 ∧ owed s c 0 < 16 := signed_five_range _

theorem owed_zero_congr {s t : State} {c : Nat} (h : getF t (F.DRC_CHSTAT_OWED c) = getF s (F.DRC_CHSTAT_OWED c)) :
    owed t c 0 = owed s c 0 := by rw [owed_zero, owed_zero, h]

theorem setOwed_zero (s : State) (c : Nat) (v : Int) : setOwed s c 0 v = setF s (F.DRC_CHSTAT_OWED c) (unsign 5 v) := if_pos rfl

/-- OWED of rank 1 is kept beside the registers. -/
def owedOne (s : State) (c : Nat) (v : Int) : State :=
  { s with drc := { s.drc with owed1 := (List.range 8).map (fun i => if i = c then v else s.drc.owed1.getD i 0) } }

theorem setOwed_one (s : State) (c : Nat) (v : Int) : setOwed s c 1 v = owedOne s c v := if_neg Nat.one_ne_zero

theorem owedOne_same (s : State) (c : Nat) (v : Int) : (owedOne s c v).regs = s.regs ∧ (owedOne s c v).drc.reqs = s.drc.reqs ∧
    (owedOne s c v).drc.refAt = s.drc.refAt ∧ (owedOne s c v).drc.chg = s.drc.chg ∧ upNs (owedOne s c v) = upNs s := ⟨rfl, rfl, rfl, rfl, rfl⟩

theorem owed_setOwed {s : State} {c : Nat} {v : Int} (hlo : -16 ≤ v) (hhi : v < 16) : owed (setOwed s c 0 v) c 0 = v := by
  have hget : getF (setOwed s c 0 v) (F.DRC_CHSTAT_OWED c) = unsign 5 v % 2 ^ 5 := by
    rw [setOwed_zero]
    exact getF_setF_same s (F.DRC_CHSTAT_OWED c) _ (of_decide_eq_true rfl)
  have hmod : signed 5 (unsign 5 v % 2 ^ 5) = signed 5 (unsign 5 v) := by simp only [signed, Nat.mod_mod]
  rw [owed_zero, hget, hmod, signed_unsign_five hlo hhi]

theorem owed_setOwed_one (s : State) (c : Nat) (v : Int) : owed (setOwed s c 1 v) c 0 = owed s c 0 := by
  rw [setOwed_one]
  exact owed_zero_congr (getF_congr (owedOne_same s c v).1 _)

/-- OWED of a rank is all that `setOwed` changes. -/
theorem setOwed_drc (s : State) (c : Nat) {rank : Nat} (v : Int) (h : rank < 2) : (setOwed s c rank v).drc.reqs = s.drc.reqs ∧
    (setOwed s c rank v).drc.refAt = s.drc.refAt ∧ (setOwed s c rank v).drc.chg = s.drc.chg ∧ upNs (setOwed s c rank v) = upNs s := by
  obtain rfl | rfl : rank = 0 ∨ rank = 1 := by omega
  · rw [setOwed_zero, upNs, upNs, setF_drc, setF_up]
    exact ⟨rfl, rfl, rfl, rfl⟩
  · rw [setOwed_one]
    exact (owedOne_same s c v).2

/-- The states of the channels are beside what is owed on them. -/
theorem chState_setOwed (s : State) (c : Nat) {rank : Nat} (v : Int) (h : rank < 2) : chState (setOwed s c rank v) c = chState s c := by
  obtain rfl | rfl : rank = 0 ∨ rank = 1 := by omega
  · rw [setOwed_zero]
    exact getF_setF_beside s (F.DRC_CHSTAT_OWED c) (F.DRC_CHSTAT_STATE c) _ rfl (by rfl) (by rfl)
  · rw [setOwed_one]
    exact getF_congr (owedOne_same s c v).1 _

/-! ### What the requests of a channel depend on -/

theorem drcChannels_congr {s t : State} (h : t.word R.DRC_CFG = s.word R.DRC_CFG) : drcChannels t = drcChannels s := by
  have hcfg : getF t F.DRC_CFG_ENMASK = getF s F.DRC_CFG_ENMASK := congrArg F.DRC_CFG_ENMASK.get h
  have hon : chanOn t = chanOn s := funext fun c => by rw [chanOn, chanOn, fbit, fbit, hcfg]
  rw [drcChannels, drcChannels, hon]

theorem blockChan_congr {s t : State} (h : t.word R.DRC_CFG = s.word R.DRC_CFG) (b : Nat) : blockChan t b = blockChan s b := by
  rw [blockChan, blockChan, drcChannels_congr h]

theorem chReqs_congr {s t : State} (hr : t.drc.reqs = s.drc.reqs) (h : t.word R.DRC_CFG = s.word R.DRC_CFG) (c : Nat) :
    chReqs t c = chReqs s c := by
  rw [chReqs, chReqs, hr]
  exact congrArg (List.filter · _) (funext fun r => by rw [blockChan_congr h])

theorem realTime_congr {s t : State} (hr : t.drc.reqs = s.drc.reqs) (h : t.word R.DRC_CFG = s.word R.DRC_CFG) (c : Nat) :
    realTime t c = realTime s c := by rw [realTime, realTime, chReqs_congr hr h]

theorem urgentReq_congr {s t : State} (hr : t.drc.reqs = s.drc.reqs) (h : t.word R.DRC_CFG = s.word R.DRC_CFG)
    (hup : upNs t = upNs s) (c : Nat) : urgentReq t c = urgentReq s c := by rw [urgentReq, urgentReq, chReqs_congr hr h, hup]

theorem setOwed_cfg (s : State) (c rank : Nat) (v : Int) : (setOwed s c rank v).word R.DRC_CFG = s.word R.DRC_CFG :=
  word_of_regs (setOwed_regs s c rank v (fun i => by simp only [R.DRC_CHSTAT, R.DRC_CFG]; omega) RegsBut.same)

/-! ### Refreshes that are owed (R495) -/

/-- What is owed on one rank of a channel is issued where nothing forbids it. -/
def rankCaught (s : State) (c k : Nat) : State := if 0 < owed s c k ∧ !realTime s c ∧ !urgentReq s c then setOwed s c k 0 else s

theorem catchUp_eq (s : State) (c : Nat) : catchUp s c = rankCaught (rankCaught s c 0) c 1 := rfl

theorem owed_rankCaught_one (s : State) (c : Nat) : owed (rankCaught s c 1) c 0 = owed s c 0 := by
  unfold rankCaught
  split
  · exact owed_setOwed_one s c 0
  · rfl

theorem refAtList_rankCaught (s : State) (c : Nat) {k : Nat} (h : k < 2) : (rankCaught s c k).drc.refAt = s.drc.refAt := by
  unfold rankCaught
  split
  · exact (setOwed_drc s c 0 h).2.1
  · rfl

theorem refAt_congr {s t : State} (h : t.drc.refAt = s.drc.refAt) (c rank : Nat) : refAt t c rank = refAt s c rank := by
  rw [refAt, refAt, h]

theorem refAt_catchUp (s : State) (c k : Nat) : refAt (catchUp s c) c k = refAt s c k := by
  rw [catchUp_eq]
  exact refAt_congr ((refAtList_rankCaught _ c Nat.one_lt_two).trans (refAtList_rankCaught s c Nat.two_pos)) c k

/-- Where no request forbids it, what is owed on rank 0 is issued. -/
theorem owed_catchUp_quiet {s : State} {c : Nat} (hr : realTime s c = false) (hu : urgentReq s c = false) :
    owed (catchUp s c) c 0 = min 0 (owed s c 0) := by
  rw [catchUp_eq, owed_rankCaught_one, rankCaught]
  split
  next h => rw [owed_setOwed (by decide) (by decide)]; omega
  next h =>
    have hle : ¬ 0 < owed s c 0 := fun hp => h ⟨hp, by simp [hr], by simp [hu]⟩
    omega

theorem getD_setAt (l : List Nat) {n k : Nat} (t : Nat) (h : k < n) : (setAt l n k t).getD k 0 = t := by
  simp [setAt, List.getD, h]

/-! ### REFRESH_DUE and REFRESH_PULLIN (R494 to R496) -/

theorem whenDram_of_on {s : State} (h : DramOn s) (f : State → State) : whenDram s f = .next (f s) := by
  obtain ⟨hon, hch⟩ := h
  rw [whenDram, whenOn_of_on hon, hch]
  rfl

theorem exec_refreshDue {dt : Nat} {s : State} (h : DramOn (advance dt s)) (c rank : Nat) :
    exec (.refreshDue dt c rank) s = .next (refreshDue (advance dt s) c rank) := by
  show execRefreshDue dt c rank s = _
  rw [execRefreshDue, whenDram_of_on h]

theorem exec_refreshPullin {dt : Nat} {s : State} (h : DramOn (advance dt s)) (c rank : Nat) :
    exec (.refreshPullin dt c rank) s = .next (pullIn (advance dt s) c rank) := by
  show execRefreshPullin dt c rank s = _
  rw [execRefreshPullin, whenDram_of_on h]

theorem exec_mr4Poll {s : State} (h : DramOn s) (n : Nat) : exec (.mr4Poll n) s = .next (mr4Poll s n) := by
  show execMr4Poll n s = _
  rw [execMr4Poll, whenDram_of_on h]

theorem exec_selfRefreshEntry {dt : Nat} {s : State} (h : DramOn (advance dt s)) (c : Nat) :
    exec (.selfRefreshEntry dt c) s = .next (selfRefEntry (advance dt s) c) := by
  show execSelfRefreshEntry dt c s = _
  rw [execSelfRefreshEntry, whenDram_of_on h]

theorem exec_selfRefreshExit {dt : Nat} {s : State} (h : DramOn (advance dt s)) (c : Nat) :
    exec (.selfRefreshExit dt c) s = .next (selfRefExit (advance dt s) c) := by
  show execSelfRefreshExit dt c s = _
  rw [execSelfRefreshExit, whenDram_of_on h]

theorem exec_freqChangeTimeout {dt : Nat} {s : State} (h : DramOn (advance dt s)) :
    exec (.freqChangeTimeout dt) s = .next (freqTimeout (advance dt s)) := by
  show execFreqChangeTimeout dt s = _
  rw [execFreqChangeTimeout, whenDram_of_on h]

theorem refAt_setRefAt (s : State) {c rank : Nat} (t : Nat) (h : 2 * c + rank < 16) : refAt (setRefAt s c rank t) c rank = t :=
  getD_setAt _ _ h

theorem setRefAt_regs_eq (s : State) (c rank t : Nat) : (setRefAt s c rank t).regs = s.regs := rfl

theorem owed_setRefAt (s : State) (c rank t k : Nat) : owed (setRefAt s c rank t) c k = owed s c k := rfl

theorem refreshDue_due {s : State} {c rank : Nat} (hact : chState s c = chActive) (hrank : hasRank s c rank = true)
    (hdue : refAt s c rank ≤ upNs s) :
    refreshDue s c rank = refreshOwed (setRefAt s c rank (refAt s c rank + trefi s)) c rank := by
  unfold refreshDue
  rw [if_neg (by rw [hrank]; simp [hact, hdue])]

theorem refreshDue_owes {dt c : Nat} {s : State} (hon : DramOn (advance dt s)) (hact : chState (advance dt s) c = chActive)
    (howed : owed (advance dt s) c 0 < 8) (hr : realTime (advance dt s) c = false) (hu : urgentReq (advance dt s) c = false)
    (hc : c < 8) (hdue : refAt (advance dt s) c 0 ≤ upNs (advance dt s)) :
    ∃ t, exec (.refreshDue dt c 0) s = .next t ∧ owed t c 0 = min 0 (owed (advance dt s) c 0 + 1) ∧
      refAt t c 0 = refAt (advance dt s) c 0 + trefi (advance dt s) := by
  refine ⟨_, exec_refreshDue hon c 0, ?_⟩
  rw [refreshDue_due hact rfl hdue]
  clear hon
  generalize advance dt s = s at *
  have hrange := owed_zero_range s c
  have hcatch : refreshOwed (setRefAt s c 0 (refAt s c 0 + trefi s)) c 0 =
      catchUp (setOwed (setRefAt s c 0 (refAt s c 0 + trefi s)) c 0 (owed s c 0 + 1)) c := by
    unfold refreshOwed
    rw [owed_setRefAt, if_neg (by omega)]
  have howed' : owed (setOwed (setRefAt s c 0 (refAt s c 0 + trefi s)) c 0 (owed s c 0 + 1)) c 0 = owed s c 0 + 1 :=
    owed_setOwed (by omega) (by omega)
  have hcfg := setOwed_cfg (setRefAt s c 0 (refAt s c 0 + trefi s)) c 0 (owed s c 0 + 1)
  obtain ⟨hreqs, hrefs, _, hup⟩ := setOwed_drc (setRefAt s c 0 (refAt s c 0 + trefi s)) c (owed s c 0 + 1) Nat.two_pos
  rw [hcatch]
  constructor
  · rw [owed_catchUp_quiet, howed']
    · exact (realTime_congr (s := s) hreqs hcfg c).trans hr
    · exact (urgentReq_congr (s := s) hreqs hcfg hup c).trans hu
  · rw [refAt_catchUp, refAt_congr hrefs, refAt_setRefAt _ _ (by omega)]

/-- A refresh of the channel is forced: its requests are urgent (R496). -/
def refreshForced (s : State) (c : Nat) : State :=
  { incSat s F.DRC_REFSTAT_FORCED with drc := { s.drc with reqs := s.drc.reqs.map (fun r =>
      if blockChan (incSat s F.DRC_REFSTAT_FORCED) r.block = c then { r with urg3 := true, forced := true } else r) } }

theorem refreshOwed_forced {s : State} {c rank : Nat} (h : owed s c rank = 8) : refreshOwed s c rank = refreshForced s c := by
  unfold refreshOwed
  rw [if_pos h]
  rfl

theorem refreshForced_regs (s : State) (c : Nat) : (refreshForced s c).regs = (incSat s F.DRC_REFSTAT_FORCED).regs := rfl

theorem refreshForced_urgent (s : State) (c : Nat) :
    ∀ r ∈ (refreshForced s c).drc.reqs, blockChan (refreshForced s c) r.block = c → r.urg3 = true ∧ r.forced = true := by
  intro r hr hchan
  have hsame : ∀ b, blockChan (refreshForced s c) b = blockChan (incSat s F.DRC_REFSTAT_FORCED) b := blockChan_congr rfl
  obtain ⟨q, _, rfl⟩ := List.mem_map.1 hr
  rw [hsame] at hchan
  split at hchan
  next h => rw [if_pos h]; exact ⟨rfl, rfl⟩
  next h => exact absurd hchan h

theorem refreshDue_forces {dt c rank : Nat} {s : State} (hon : DramOn (advance dt s)) (hact : chState (advance dt s) c = chActive)
    (howed : owed (advance dt s) c rank = 8) (hrank : hasRank (advance dt s) c rank = true)
    (hdue : refAt (advance dt s) c rank ≤ upNs (advance dt s)) :
    ∃ t, exec (.refreshDue dt c rank) s = .next t ∧
      getF t F.DRC_REFSTAT_FORCED = satAdd F.DRC_REFSTAT_FORCED.top (getF (advance dt s) F.DRC_REFSTAT_FORCED) 1 ∧
      (∀ r ∈ t.drc.reqs, blockChan t r.block = c → r.urg3 = true ∧ r.forced = true) := by
  refine ⟨_, exec_refreshDue hon c rank, ?_⟩
  rw [refreshDue_due hact hrank hdue, refreshOwed_forced ((owed_setRefAt _ _ _ _ _).trans howed)]
  refine ⟨?_, refreshForced_urgent _ c⟩
  rw [getF_congr (refreshForced_regs _ c), getF_incSat_same _ _ _ (by decide), getF_congr (setRefAt_regs_eq _ _ _ _)]

theorem refreshPullin_pulls {dt c : Nat} {s : State} (hon : DramOn (advance dt s)) (hact : chState (advance dt s) c = chActive)
    (hpull : isSet (advance dt s) F.DRC_REFCFG_PULLIN = true) (hidle : (chReqs (advance dt s) c).isEmpty = true)
    (howed : owed (advance dt s) c 0 ≤ 0)
    (hquiet : (advance dt s).drc.quietAt.getD c 0 + 10 * getF (advance dt s) F.DRC_REFCFG_IDLE ≤ upNs (advance dt s)) :
    ∃ t, exec (.refreshPullin dt c 0) s = .next t ∧ owed t c 0 = -8 := by
  refine ⟨_, exec_refreshPullin hon c 0, ?_⟩
  unfold pullIn
  dsimp only
  rw [if_pos ⟨hact, hpull, rfl, hidle, howed, hquiet⟩]
  exact owed_setOwed (by decide) (by decide)

theorem mr4Poll_polls {n : Nat} {s : State} (hon : DramOn s) (hdue : s.drc.mr4At + 16000000 ≤ upNs s) :
    exec (.mr4Poll n) s = .next { s with drc := { s.drc with mr4 := n, mr4At := upNs s } } :=
  (exec_mr4Poll hon n).trans (congrArg Host.Outcome.next (if_pos hdue))

/-! ### Self-refresh (R497) -/

/-- The instant of the last entry is noted in a change under way. -/
def entryNoted (s : State) : State := { s with drc := { s.drc with chg := s.drc.chg.map (fun g => { g with entered := upNs s }) } }

theorem selfRefEntry_idle {s : State} {c : Nat} (hact : chState s c = chActive) (hidle : (chReqs s c).isEmpty = true) :
    selfRefEntry s c = setF (setOwed (setOwed (entryNoted s) c 0 (min 0 (owed s c 0))) c 1 (min 0 (owed s c 1))) (F.DRC_CHSTAT_STATE c) chSelfRef := by
  unfold selfRefEntry
  rw [if_pos ⟨hact, hidle⟩]
  rfl

theorem selfRefreshEntry_enters {dt c : Nat} {s : State} (hon : DramOn (advance dt s)) (hact : chState (advance dt s) c = chActive)
    (hidle : (chReqs (advance dt s) c).isEmpty = true) :
    ∃ t, exec (.selfRefreshEntry dt c) s = .next t ∧ chState t c = chSelfRef ∧ owed t c 0 = min 0 (owed (advance dt s) c 0) := by
  refine ⟨_, exec_selfRefreshEntry hon c, ?_⟩
  rw [selfRefEntry_idle hact hidle]
  have hrange := owed_zero_range (advance dt s) c
  refine ⟨getF_setF_read _ (F.DRC_CHSTAT_STATE c) (of_decide_eq_true rfl) (by rfl), ?_⟩
  rw [owed_zero_congr (getF_setF_beside _ (F.DRC_CHSTAT_STATE c) (F.DRC_CHSTAT_OWED c) _ rfl (by rfl) (by rfl)),
    owed_setOwed_one, owed_setOwed (by omega) (by omega)]

/-- Out of self-refresh, before the requests held at the ports arrive. -/
def selfRefLeft (s : State) (c : Nat) : State :=
  chanStart (setOwed (setOwed (setF s (F.DRC_CHSTAT_STATE c) chActive) c 0 0) c 1 0) c

theorem leaveSelfRef_eq (s : State) (c : Nat) :
    leaveSelfRef s c = releasePorts (if chState s c = chSelfRef then selfRefLeft s c else s) c := rfl

theorem leaveSelfRef_in {s : State} {c : Nat} (h : chState s c = chSelfRef) : leaveSelfRef s c = releasePorts (selfRefLeft s c) c := by
  rw [leaveSelfRef_eq, if_pos h]

theorem getF_chanStart (s : State) (c : Nat) (f : Fld) : getF (chanStart s c) f = getF s f := congrArg f.get (word_chanStart s c f.off)

theorem getF_releasePorts (s : State) (c : Nat) {f : Fld} (h : f.off ≠ R.DRC_HAZSTAT) : getF (releasePorts s c) f = getF s f :=
  getF_of_regs (releasePorts_regs s c h.symm RegsBut.same)

theorem chState_selfRefLeft (s : State) (c : Nat) : chState (selfRefLeft s c) c = chActive := by
  rw [chState, selfRefLeft, getF_chanStart]
  exact (chState_setOwed _ c 0 Nat.one_lt_two).trans ((chState_setOwed _ c 0 Nat.two_pos).trans (getF_setF_read s (F.DRC_CHSTAT_STATE c) (of_decide_eq_true rfl) (by rfl)))

theorem owed_selfRefLeft (s : State) (c : Nat) : owed (selfRefLeft s c) c 0 = 0 := by
  rw [selfRefLeft, owed_zero_congr (getF_chanStart _ c _), owed_setOwed_one, owed_setOwed (by decide) (by decide)]

theorem chstat_ne_hazstat (c : Nat) : R.DRC_CHSTAT c ≠ R.DRC_HAZSTAT := by simp only [R.DRC_CHSTAT, R.DRC_HAZSTAT]; omega

theorem selfRefreshExit_leaves {dt c : Nat} {s : State} (hon : DramOn (advance dt s)) (hself : chState (advance dt s) c = chSelfRef)
    (hchg : (advance dt s).drc.chg = none) :
    ∃ t, exec (.selfRefreshExit dt c) s = .next t ∧ chState t c = chActive ∧ owed t c 0 = 0 := by
  refine ⟨_, exec_selfRefreshExit hon c, ?_⟩
  rw [selfRefExit, hchg]
  dsimp only
  rw [if_pos hself, leaveSelfRef_in hself]
  exact ⟨(getF_releasePorts _ c (chstat_ne_hazstat c)).trans (chState_selfRefLeft _ c),
    (owed_zero_congr (getF_releasePorts _ c (chstat_ne_hazstat c))).trans (owed_selfRefLeft _ c)⟩

/-! ### Changes of set-point (R498) -/

/-- A request that waits behind a write to its block is counted (R493). -/
def hazardCounted (s : State) (hz : Bool) : State := if hz then incSat s F.DRC_HAZSTAT_RAW else s

/-- A request at the end of the queue. -/
def joined (s : State) (r : DReq) : State := { s with drc := { s.drc with reqs := s.drc.reqs ++ [r] } }

/-- Does a request wait behind a write to its block? -/
def hazardOf (s : State) (r : DReq) : Bool := (!r.wr || r.part.isSome) && writePending s r.block

theorem enqueue_eq (s : State) (r : DReq) :
    enqueue s r = joined (hazardCounted s (hazardOf s r)) { r with hazard := hazardOf s r } := rfl

theorem drc_hazardCounted (s : State) (hz : Bool) : (hazardCounted s hz).drc = s.drc := by
  cases hz
  · rfl
  · exact incSat_drc _ _ _

theorem chg_joined (s : State) (r : DReq) : (joined s r).drc.chg = s.drc.chg := rfl

theorem chg_enqueue (s : State) (r : DReq) : (enqueue s r).drc.chg = s.drc.chg := by
  rw [enqueue_eq, chg_joined, drc_hazardCounted]

theorem chg_releasePorts (s : State) (c : Nat) : (releasePorts s c).drc.chg = s.drc.chg := by
  have hfold : ∀ (l : List DReq) (x : State), (l.foldl enqueue x).drc.chg = x.drc.chg := by
    intro l
    induction l with
    | nil => exact fun _ => rfl
    | cons r l ih => exact fun x => (ih _).trans (chg_enqueue x r)
  exact hfold _ _

theorem chg_chanStart (s : State) (c : Nat) : (chanStart s c).drc.chg = s.drc.chg := rfl

theorem chg_leaveSelfRef (s : State) (c : Nat) : (leaveSelfRef s c).drc.chg = s.drc.chg := by
  rw [leaveSelfRef_eq, chg_releasePorts]
  split
  · obtain ⟨_, _, hone, _⟩ := setOwed_drc (setOwed (setF s (F.DRC_CHSTAT_STATE c) chActive) c 0 0) c 0 Nat.one_lt_two
    obtain ⟨_, _, hzero, _⟩ := setOwed_drc (setF s (F.DRC_CHSTAT_STATE c) chActive) c 0 Nat.two_pos
    rw [selfRefLeft, chg_chanStart, hone, hzero, setF_drc]
  · rfl

theorem chg_leaveAll (l : List Nat) (s : State) : (l.foldl leaveSelfRef s).drc.chg = s.drc.chg := by
  induction l generalizing s with
  | nil => rfl
  | cons c l ih => exact (ih _).trans (chg_leaveSelfRef s c)

theorem getF_leaveAll (l : List Nat) (s : State) {f : Fld} (hh : f.off ≠ R.DRC_HAZSTAT) (hc : ∀ i, f.off ≠ R.DRC_CHSTAT i) :
    getF (l.foldl leaveSelfRef s) f = getF s f :=
  getF_of_regs (RegsBut.foldl (fun t c ht => leaveSelfRef_regs t c hh.symm (fun i => (hc i).symm) ht) RegsBut.same)

theorem freq_ne_chstat (i : Nat) : R.DRC_FREQ ≠ R.DRC_CHSTAT i := by simp only [R.DRC_CHSTAT, R.DRC_FREQ]; omega

/-- The end of a change is shown, with its code and how long it took. -/
def freqShown (s : State) (at0 : Nat) (c : Status) : State :=
  setF (setF (setF s F.DRC_FREQ_BUSY 0) F.DRC_FREQ_CODE c.code) F.DRC_FREQ_LASTUS (min 0xFFFF ((upNs s - at0) / 1000))

/-- No change of set-point is under way. -/
def noChange (s : State) : State := { s with drc := { s.drc with chg := none } }

theorem noChange_keeps (s : State) : (noChange s).drc.chg = none ∧ (noChange s).regs = s.regs := ⟨rfl, rfl⟩

theorem freqEnd_eq (s : State) (at0 : Nat) (c : Status) :
    freqEnd s at0 c = (drcChannels (freqShown s at0 c)).foldl leaveSelfRef (noChange (freqShown s at0 c)) := rfl

theorem busy_freqShown (s : State) (at0 : Nat) (c : Status) : getF (freqShown s at0 c) F.DRC_FREQ_BUSY = 0 := by
  rw [freqShown, getF_setF_beside _ F.DRC_FREQ_LASTUS F.DRC_FREQ_BUSY _ rfl (by rfl) (by rfl),
    getF_setF_beside _ F.DRC_FREQ_CODE F.DRC_FREQ_BUSY _ rfl (by rfl) (by rfl), getF_setF_read _ _ (by decide) (by rfl)]

theorem code_freqShown (s : State) (at0 : Nat) {c : Status} (hc : c.code < 2 ^ 8) : getF (freqShown s at0 c) F.DRC_FREQ_CODE = c.code := by
  rw [freqShown, getF_setF_beside _ F.DRC_FREQ_LASTUS F.DRC_FREQ_CODE _ rfl (by rfl) (by rfl), getF_setF_read _ _ hc (by rfl)]

/-- A change that ends is no longer under way, and its code is shown. -/
theorem freqEnd_ends (s : State) (at0 : Nat) {c : Status} (hc : c.code < 2 ^ 8) :
    (freqEnd s at0 c).drc.chg = none ∧ getF (freqEnd s at0 c) F.DRC_FREQ_BUSY = 0 ∧ getF (freqEnd s at0 c) F.DRC_FREQ_CODE = c.code := by
  obtain ⟨hnone, hregs⟩ := noChange_keeps (freqShown s at0 c)
  rw [freqEnd_eq, chg_leaveAll, getF_leaveAll _ _ (by decide) freq_ne_chstat, getF_leaveAll _ _ (by decide) freq_ne_chstat,
    getF_congr hregs, getF_congr hregs]
  exact ⟨hnone, busy_freqShown s at0 c, code_freqShown s at0 hc⟩

theorem cfg_freqEnd (s : State) (at0 : Nat) (c : Status) : getF (freqEnd s at0 c) F.DRC_CFG_FSP = getF s F.DRC_CFG_FSP :=
  getF_of_regs (freqEnd_regs s at0 c (by decide) (by decide) (fun i => by simp only [R.DRC_CHSTAT]; omega) RegsBut.same)

/-- Every channel retracks at the new set-point, and counts it. -/
def retracked (l : List Nat) (s : State) : State := l.foldl (fun s c => incMod (retrackChan s c) (F.CAL_DCNT_RETRAIN c)) s

theorem cfg_retracked (l : List Nat) (s : State) : getF (retracked l s) F.DRC_CFG_FSP = getF s F.DRC_CFG_FSP := by
  refine getF_of_regs (RegsBut.foldl (fun t c ht => ?_) RegsBut.same)
  exact incMod_regs _ _ _ (by simp only [ne_eq]; omega)
    (retrackChan_regs t c (fun i j => by simp only [R.DRC_LANE]; omega) ht)

theorem selfRefExit_change {s : State} {g : FreqChg} (c : Nat) (hchg : s.drc.chg = some g)
    (hall : (drcChannels s).all (fun c => chState s c == chSelfRef) = true) (hdue : g.entered + 12500 ≤ upNs s) :
    selfRefExit s c = freqEnd (retracked (drcChannels (setF s F.DRC_CFG_FSP g.fsp)) (setF s F.DRC_CFG_FSP g.fsp)) g.at0 .ok := by
  rw [selfRefExit, hchg]
  dsimp only
  rw [if_pos ⟨hall, hdue⟩]
  rfl

theorem selfRefreshExit_changes {dt c : Nat} {g : FreqChg} {s : State} (hon : DramOn (advance dt s))
    (hchg : (advance dt s).drc.chg = some g)
    (hall : (drcChannels (advance dt s)).all (fun c => chState (advance dt s) c == chSelfRef) = true)
    (hdue : g.entered + 12500 ≤ upNs (advance dt s)) : ∃ t, exec (.selfRefreshExit dt c) s = .next t ∧ t.drc.chg = none ∧
      getF t F.DRC_CFG_FSP = g.fsp % 2 ^ F.DRC_CFG_FSP.width ∧ getF t F.DRC_FREQ_BUSY = 0 ∧ getF t F.DRC_FREQ_CODE = 0 := by
  refine ⟨_, exec_selfRefreshExit hon c, ?_⟩
  rw [selfRefExit_change c hchg hall hdue]
  obtain ⟨hnone, hbusy, hcode⟩ := freqEnd_ends (retracked (drcChannels (setF (advance dt s) F.DRC_CFG_FSP g.fsp))
    (setF (advance dt s) F.DRC_CFG_FSP g.fsp)) g.at0 (c := .ok) (by decide)
  refine ⟨hnone, ?_, hbusy, hcode⟩
  rw [cfg_freqEnd, cfg_retracked, getF_setF_same _ _ _ (by decide)]

theorem freqChangeTimeout_aborts {dt : Nat} {g : FreqChg} {s : State} (hon : DramOn (advance dt s))
    (hchg : (advance dt s).drc.chg = some g) (hforce : g.force = false) (hdue : g.at0 + 100000000 ≤ upNs (advance dt s))
    (hall : (drcChannels (advance dt s)).all (fun c => chState (advance dt s) c == chSelfRef) = false) :
    ∃ t, exec (.freqChangeTimeout dt) s = .next t ∧ t.drc.chg = none ∧ getF t F.DRC_FREQ_BUSY = 0 ∧
      getF t F.DRC_FREQ_CODE = Status.aborted.code := by
  refine ⟨_, exec_freqChangeTimeout hon, ?_⟩
  have hend : freqTimeout (advance dt s) = freqEnd (advance dt s) g.at0 .aborted := by
    rw [freqTimeout, hchg]
    dsimp only
    rw [if_pos ⟨by simp [hforce], hdue, by simp [hall]⟩]
  rw [hend]
  exact freqEnd_ends _ _ (by decide)

/-- GO completes at once: the set-point is in force. -/
def fspSet (s : State) (fsp : Nat) : State := setF (setF (setF s F.DRC_CFG_FSP fsp) F.DRC_FREQ_CODE 0) F.DRC_FREQ_LASTUS 0

theorem freqGo_at_once {s : State} {fsp : Nat} (force : Bool) (h : fsp = getF s F.DRC_CFG_FSP ∨ (drcChannels s).isEmpty = true) :
    freqGo s fsp force = fspSet s fsp := if_pos h

theorem fspSet_shows (s : State) (fsp : Nat) : getF (fspSet s fsp) F.DRC_FREQ_CODE = 0 ∧ getF (fspSet s fsp) F.DRC_FREQ_LASTUS = 0 ∧
    getF (fspSet s fsp) F.DRC_CFG_FSP = fsp % 2 ^ 2 := by
  refine ⟨?_, getF_setF_read _ F.DRC_FREQ_LASTUS (by decide) (by rfl), ?_⟩
  · exact (getF_setF_beside _ F.DRC_FREQ_LASTUS F.DRC_FREQ_CODE _ rfl (by rfl) (by rfl)).trans
      (getF_setF_read _ F.DRC_FREQ_CODE (by decide) (by rfl))
  · rw [fspSet, getF_setF_ne _ _ _ _ (by decide), getF_setF_ne _ _ _ _ (by decide), getF_setF_same _ _ _ (by decide)]

/-- A change of set-point is under way. -/
def fspAsked (s : State) (fsp : Nat) (force : Bool) : State :=
  { setF s F.DRC_FREQ_BUSY 1 with drc := { s.drc with chg := some ⟨fsp, force, upNs s, upNs s⟩ } }

theorem freqGo_starts {s : State} {fsp : Nat} (force : Bool) (h : fsp ≠ getF s F.DRC_CFG_FSP) (hch : (drcChannels s).isEmpty = false) :
    freqGo s fsp force = fspAsked s fsp force := if_neg (by simp [h, hch])

theorem fspAsked_regs (s : State) (fsp : Nat) (force : Bool) : (fspAsked s fsp force).regs = (setF s F.DRC_FREQ_BUSY 1).regs := rfl

theorem fspAsked_chg (s : State) (fsp : Nat) (force : Bool) :
    (fspAsked s fsp force).drc.chg = some ⟨fsp, force, upNs s, upNs s⟩ := rfl

theorem exec_freqChangeGo {v : Word} {s : State} (h : WriteOk s R.DRC_FREQ (F.DRC_FREQ_GO.put v 1)) : exec (.freqChangeGo v) s =
    .next (freqGo (storeReg s R.DRC_FREQ (F.DRC_FREQ_GO.put v 1)) (F.DRC_FREQ_FSP.get v) (F.DRC_FREQ_FORCE.get v == 1)) := by
  have hgo : F.DRC_FREQ_GO.get (F.DRC_FREQ_GO.put v 1) = 1 := get_put_read _ _ (by decide) (by rfl)
  have hfsp : F.DRC_FREQ_FSP.get (F.DRC_FREQ_GO.put v 1) = F.DRC_FREQ_FSP.get v :=
    get_put_beside F.DRC_FREQ_GO F.DRC_FREQ_FSP v 1 (by rfl) (by rfl)
  have hforce : F.DRC_FREQ_FORCE.get (F.DRC_FREQ_GO.put v 1) = F.DRC_FREQ_FORCE.get v :=
    get_put_beside F.DRC_FREQ_GO F.DRC_FREQ_FORCE v 1 (by rfl) (by rfl)
  refine congrArg Host.Outcome.next ((hostWrite_accepted (by decide) (by decide) h).trans ?_)
  rw [regEffect_13 _ _ _ (by decide), if_pos ⟨rfl, hgo⟩, hfsp, hforce]

theorem freqChangeGo_goes {v : Word} {s : State} (h : WriteOk s R.DRC_FREQ (F.DRC_FREQ_GO.put v 1)) :
    ∃ t, exec (.freqChangeGo v) s = .next t ∧
    (F.DRC_FREQ_FSP.get v = getF s F.DRC_CFG_FSP → getF t F.DRC_FREQ_CODE = 0 ∧ getF t F.DRC_FREQ_LASTUS = 0) ∧
    ((drcChannels s).isEmpty = true → getF t F.DRC_FREQ_CODE = 0 ∧ getF t F.DRC_FREQ_LASTUS = 0 ∧
      getF t F.DRC_CFG_FSP = F.DRC_FREQ_FSP.get v) ∧
    (F.DRC_FREQ_FSP.get v ≠ getF s F.DRC_CFG_FSP → (drcChannels s).isEmpty = false → getF t F.DRC_FREQ_BUSY = 1 ∧
      t.drc.chg = some ⟨F.DRC_FREQ_FSP.get v, F.DRC_FREQ_FORCE.get v == 1, upNs s, upNs s⟩) := by
  have hcfg : ∀ w, getF (storeReg s R.DRC_FREQ w) F.DRC_CFG_FSP = getF s F.DRC_CFG_FSP := fun w => getF_storeReg_ne s w (by decide)
  have hchan : ∀ w, drcChannels (storeReg s R.DRC_FREQ w) = drcChannels s := fun w => drcChannels_congr (word_storeReg_ne s w (by decide))
  have hup : ∀ w, upNs (storeReg s R.DRC_FREQ w) = upNs s := fun w => storeReg_same s _ w .up (by decide)
  refine ⟨_, exec_freqChangeGo h, fun hfsp => ?_, fun hempty => ?_, fun hfsp hch => ?_⟩
  · rw [freqGo_at_once _ (.inl (hfsp.trans (hcfg _).symm))]
    obtain ⟨hcode, hlast, _⟩ := fspSet_shows (storeReg s R.DRC_FREQ (F.DRC_FREQ_GO.put v 1)) (F.DRC_FREQ_FSP.get v)
    exact ⟨hcode, hlast⟩
  · rw [freqGo_at_once _ (.inr (by rw [hchan]; exact hempty))]
    obtain ⟨hcode, hlast, hset⟩ := fspSet_shows (storeReg s R.DRC_FREQ (F.DRC_FREQ_GO.put v 1)) (F.DRC_FREQ_FSP.get v)
    exact ⟨hcode, hlast, hset.trans (Nat.mod_eq_of_lt (Nat.mod_lt _ (by decide)))⟩
  · rw [freqGo_starts _ (by rw [hcfg]; exact hfsp) (by rw [hchan]; exact hch), getF_congr (fspAsked_regs _ _ _), fspAsked_chg, hup]
    exact ⟨getF_setF_read _ F.DRC_FREQ_BUSY (by decide) (by rfl), rfl⟩

/-- Settles O25. -/
theorem dramRefresh : Obligations.DramRefresh := by
  unfold Obligations.DramRefresh
  exact ⟨fun dt c s => refreshDue_owes, fun dt c rank s => refreshDue_forces, fun dt c s => refreshPullin_pulls, fun n s => mr4Poll_polls,
    fun dt c s => selfRefreshEntry_enters, fun dt c s => selfRefreshExit_leaves, fun v s => freqChangeGo_goes,
    fun dt c g s => selfRefreshExit_changes, fun dt g s => freqChangeTimeout_aborts⟩

end Sys2Proof.Machine
end

section
/-! PROOF. Requests to DRAM: reads, writes, partial writes and the patrol (R482 to R486, R491 to R493). -/

set_option Elab.async false

namespace Sys2Proof.Machine

/-! ### Commands -/

theorem exec_dramReadRequest {dt : Nat} {s : State} (h : DramOn (advance dt s)) (port cls b : Nat) :
    exec (.dramReadRequest dt port cls b) s = .next (drcRequest (advance dt s) port cls false b []) := by
  show execDramReadRequest dt port cls b s = _
  rw [execDramReadRequest, whenDram_of_on h]

theorem exec_dramReadReturn {dt : Nat} {s : State} (h : DramOn (advance dt s)) (port b : Nat) (err : List (Nat × Nat)) :
    exec (.dramReadReturn dt port b err) s = .next (readReturn (advance dt s) port b err) := by
  show execDramReadReturn dt port b err s = _
  rw [execDramReadReturn, whenDram_of_on h]

theorem exec_dramWriteRequest_issue {dt : Nat} {s : State} (h : DramOn (advance dt s)) (port cls b : Nat) (data : Bytes) :
    exec (.dramWriteRequest dt port cls b data true) s =
      .next (issueFreeWrites (drcRequest (advance dt s) port cls true b data)) := by
  show execDramWriteRequest dt port cls b data true s = _
  rw [execDramWriteRequest, whenDram_of_on h]
  exact congrArg Host.Outcome.next (if_pos rfl)

theorem exec_dramPartialWrite {dt : Nat} {s : State} (h : DramOn (advance dt s)) (port b off : Nat) (data : Bytes)
    (err : List (Nat × Nat)) :
    exec (.dramPartialWrite dt ⟨port, b⟩ off data err) s = .next (partialWrite (advance dt s) port b off data err) := by
  show execDramPartialWrite dt ⟨port, b⟩ off data err s = _
  rw [execDramPartialWrite, whenDram_of_on h]

theorem exec_patrolScrub {dt : Nat} {s : State} (h : DramOn (advance dt s)) (err : List (Nat × Nat)) :
    exec (.patrolScrub dt err) s = .next (patrolStep (advance dt s) err) := by
  show execPatrolScrub dt err s = _
  rw [execPatrolScrub, whenDram_of_on h]

/-! ### A request arrives (R482, R493) -/

/-- A request as it comes. -/
def newReq (s : State) (port cls : Nat) (wr : Bool) (b : Nat) (data : Bytes) (part : Option (Nat × List (Nat × Nat))) : DReq :=
  ⟨port, portClass s port cls, wr, b, data, upNs s, upNs s + classTarget s (portClass s port cls), false, false, false, part⟩

theorem drcRequest_joins {s : State} {b : Nat} (hb : b < drcBlocks s) (hp : portsHeld s (blockChan s b) = false) (port cls : Nat)
    (wr : Bool) (data : Bytes) (part : Option (Nat × List (Nat × Nat))) :
    drcRequest s port cls wr b data part = enqueue s (newReq s port cls wr b data part) := by
  unfold drcRequest
  rw [if_neg (Nat.not_le.2 hb)]
  dsimp only
  rw [hp]
  rfl

theorem reqs_joined (s : State) (r : DReq) : (joined s r).drc.reqs = s.drc.reqs ++ [r] := rfl

theorem reqs_enqueue (s : State) (r : DReq) : (enqueue s r).drc.reqs = s.drc.reqs ++ [{ r with hazard := hazardOf s r }] := by
  rw [enqueue_eq, reqs_joined, drc_hazardCounted]

theorem dramReadRequest_waits {dt port cls b : Nat} {s : State} (hon : DramOn (advance dt s)) (hb : b < drcBlocks (advance dt s))
    (hp : portsHeld (advance dt s) (blockChan (advance dt s) b) = false) :
    ∃ t, exec (.dramReadRequest dt port cls b) s = .next t ∧ t.drc.reqs = (advance dt s).drc.reqs ++
      [⟨port, portClass (advance dt s) port cls, false, b, [], upNs (advance dt s),
        upNs (advance dt s) + classTarget (advance dt s) (portClass (advance dt s) port cls), writePending (advance dt s) b, false,
        false, none⟩] := by
  refine ⟨_, exec_dramReadRequest hon port cls b, ?_⟩
  rw [drcRequest_joins hb hp, reqs_enqueue]
  rfl

theorem dramReadRequest_beyond {dt port cls b : Nat} {s : State} (hon : DramOn (advance dt s)) (hb : drcBlocks (advance dt s) ≤ b) :
    exec (.dramReadRequest dt port cls b) s = .next (emit (advance dt s) (.answer port b .range [])) :=
  (exec_dramReadRequest hon port cls b).trans (congrArg Host.Outcome.next (if_pos hb))

/-! ### A request completes (R491) -/

theorem yield_eq (s : State) (winner loser block : Nat) (code : Status) (frame : Nat) : yield s winner loser block code frame =
    recordYield (countYield s ⟨winner, loser, block, code, frame⟩) ⟨winner, loser, block, code, frame⟩ := rfl

theorem out_recordYield (s : State) (y : Yield) : (recordYield s y).out = s.out := rfl

theorem out_yield (s : State) (winner loser block : Nat) (code : Status) (frame : Nat) :
    s.out <+: (yield s winner loser block code frame).out := by
  rw [yield_eq, out_recordYield, countYield]
  refine List.IsPrefix.trans ?_ (out_raise _ _ _)
  rw [incSat_out]

/-- A request has left the queue. -/
def reqEnded (s : State) (r : DReq) : State :=
  { s with drc := { s.drc with reqs := s.drc.reqs.erase r, quietAt := setAt s.drc.quietAt 8 (blockChan s r.block) (upNs s) } }

theorem reqEnded_same (s : State) (r : DReq) : (reqEnded s r).drc.reqs = s.drc.reqs.erase r ∧ (reqEnded s r).regs = s.regs ∧
    (reqEnded s r).dram = s.dram ∧ (reqEnded s r).out = s.out := ⟨rfl, rfl, rfl, rfl⟩

/-- A request past its deadline is a miss, and yields where a forced refresh delayed it. -/
def lateNoted (s : State) (r : DReq) : State :=
  if r.deadline < upNs s then
    if r.forced ∧ r.cls < 2 then
      yield (incSat s (missCounter r.cls)) 2 4 0x13 .late (currentFrame (incSat s (missCounter r.cls)))
    else incSat s (missCounter r.cls)
  else s

theorem drcComplete_eq (s : State) (r : DReq) : drcComplete s r =
    catchUp (lateNoted (reqEnded s r) r) (blockChan (lateNoted (reqEnded s r) r) r.block) := rfl

theorem lateNoted_keeps (s : State) (r : DReq) : Keeps [.regs, .hif, .chn, .out] s (lateNoted s r) := by
  unfold lateNoted
  split
  · split
    · exact yield_keeps _ _ _ _ _ _ (by decide) (by decide) (by decide) (by decide) (incSat_keeps _ _ _ (by decide) Keeps.same)
    · exact incSat_keeps _ _ _ (by decide) Keeps.same
  · exact Keeps.same

theorem out_lateNoted (s : State) (r : DReq) : s.out <+: (lateNoted s r).out := by
  unfold lateNoted
  split
  · split
    · exact List.IsPrefix.trans (by rw [incSat_out]) (out_yield _ _ _ _ _ _)
    · rw [incSat_out]
  · exact List.prefix_rfl

theorem reqs_rankCaught (s : State) (c : Nat) {k : Nat} (h : k < 2) : (rankCaught s c k).drc.reqs = s.drc.reqs := by
  unfold rankCaught
  split
  · exact (setOwed_drc s c 0 h).1
  · rfl

theorem reqs_catchUp (s : State) (c : Nat) : (catchUp s c).drc.reqs = s.drc.reqs := by
  rw [catchUp_eq, reqs_rankCaught _ c Nat.one_lt_two, reqs_rankCaught _ c Nat.two_pos]

theorem catchUp_same (s : State) (c : Nat) (p : Part) (hp : p ∉ [Part.regs, .drc]) : p.same s (catchUp s c) :=
  (catchUp_keeps s c (by decide) (by decide) Keeps.same).2.2 p hp

/-- A request that completes leaves the queue, and DRAM is as before. -/
theorem drcComplete_leaves (s : State) (r : DReq) : (drcComplete s r).drc.reqs = s.drc.reqs.erase r ∧
    (drcComplete s r).dram = s.dram ∧ s.out <+: (drcComplete s r).out := by
  obtain ⟨hreqs, _, hdram, hout⟩ := reqEnded_same s r
  have hmiss : (lateNoted (reqEnded s r) r).drc = (reqEnded s r).drc := (lateNoted_keeps _ r).2.2 .drc (by decide)
  have hkept : (lateNoted (reqEnded s r) r).dram = (reqEnded s r).dram := (lateNoted_keeps _ r).2.2 .dram (by decide)
  rw [drcComplete_eq, reqs_catchUp, hmiss, hreqs]
  refine ⟨rfl, (catchUp_same _ _ .dram (by decide)).trans (hkept.trans hdram), ?_⟩
  have hsame : (catchUp (lateNoted (reqEnded s r) r) (blockChan (lateNoted (reqEnded s r) r) r.block)).out =
      (lateNoted (reqEnded s r) r).out := catchUp_same _ _ .out (by decide)
  rw [hsame, ← hout]
  exact out_lateNoted _ r

/-- The counts and records of DRC that a completion leaves. -/
abbrev EccOff (off : Nat) : Prop := 0x130024 ≤ off ∧ off < 0x130030

theorem ne_of_eccOff {off o : Nat} (h : EccOff off) (ho : ¬ EccOff o) : o ≠ off := fun he => ho (he ▸ h)

theorem getF_drcComplete (s : State) (r : DReq) {f : Fld} (h : EccOff f.off) : getF (drcComplete s r) f = getF s f := by
  exact getF_of_regs (drcComplete_regs s r (fun k => ne_of_eccOff h (by omega)) (ne_of_eccOff h (by decide)) (ne_of_eccOff h (by decide))
    (ne_of_eccOff h (by decide)) (ne_of_eccOff h (by decide)) (fun i => ne_of_eccOff h (by simp only [R.CHN_PERR]; omega))
    (ne_of_eccOff h (by decide)) (fun i => ne_of_eccOff h (by simp only [R.DRC_CHSTAT]; omega)) RegsBut.same)

/-! ### Reads through the ECC (R484, R485) -/

theorem length_rsDecode {g : GF} {first p n : Nat} {word w : List Nat} (h : g.rsDecode first p word = some (w, n)) :
    w.length = word.length := by
  unfold GF.rsDecode at h
  dsimp only at h
  split at h
  · obtain ⟨rfl, rfl⟩ := Prod.mk.inj (Option.some.inj h)
    rfl
  · obtain ⟨_, hfixed⟩ := Option.ite_none_left_eq_some.1 h
    obtain ⟨_, hword⟩ := Option.ite_none_right_eq_some.1 hfixed
    obtain ⟨rfl, rfl⟩ := Prod.mk.inj (Option.some.inj hword)
    simp

/-- What a read of a block gets out of the codeword as it arrives, and how many symbols were wrong. -/
def decoded (s : State) (b : Nat) (err : List (Nat × Nat)) : Option (List Nat × Nat) :=
  if s.drc.poison.contains b then none else gfDram.rsDecode 0 4 (withErrors (codeword s b) err)

/-- The 64 bytes of a codeword. -/
def blockBytes (w : List Nat) : Bytes := (w.take 32).flatMap (leBytes 2)

/-- A correction is counted, and written back unless a newer write to the block is pending. -/
def correctionKept (s : State) (b : Nat) (w : List Nat) : State :=
  if writePending (incSat s F.DRC_ECCSTAT_CE) b then incSat s F.DRC_ECCSTAT_CE
  else deviceWrite (incSat s F.DRC_ECCSTAT_CE) b (blockBytes w)

theorem eccRead_of_none {s : State} {b : Nat} {err : List (Nat × Nat)} (h : decoded s b err = none) :
    eccRead s b err = (none, uncorrectable s b) := by
  unfold decoded at h
  unfold eccRead
  split at h
  next hp => rw [if_pos hp]
  next hp => rw [if_neg hp, h]

theorem eccRead_of_some {s : State} {b n : Nat} {err : List (Nat × Nat)} {w : List Nat} (h : decoded s b err = some (w, n)) :
    eccRead s b err = (some (blockBytes w), if n = 0 then s else correctionKept s b w) := by
  unfold decoded at h
  unfold eccRead
  split at h
  · cases h
  next hp =>
    rw [if_neg hp, h]
    dsimp only
    split <;> rfl

theorem decoded_congr {s t : State} (hp : t.drc.poison = s.drc.poison) (hd : t.dram = s.dram) (b : Nat) (err : List (Nat × Nat)) :
    decoded t b err = decoded s b err := by rw [decoded, decoded, hp, codeword, codeword, dramRd, dramRd, hd]

theorem length_blockBytes {s : State} {b n : Nat} {err : List (Nat × Nat)} {w : List Nat} (h : decoded s b err = some (w, n)) :
    (blockBytes w).length = 64 := by
  have hw : w.length = 36 := by
    unfold decoded at h
    split at h
    · cases h
    · exact (length_rsDecode h).trans (by simp [withErrors])
  have hle : ∀ l : List Nat, (l.flatMap (leBytes 2)).length = 2 * l.length := by
    intro l
    induction l with
    | nil => rfl
    | cons a l ih =>
      rw [List.flatMap_cons, List.length_append, ih, List.length_cons]
      simp only [leBytes, List.length_cons, List.length_nil]
      omega
  rw [blockBytes, hle, List.length_take, hw]
  rfl

theorem dramWr_drc_reqs (s : State) (a : Nat) (b : Bytes) : (dramWr s a b).drc.reqs = s.drc.reqs := rfl

theorem deviceWrite_same (s : State) (b : Nat) (d : Bytes) : (deviceWrite s b d).dram = wrBytes dramFill s.dram (64 * b) d ∧
    (deviceWrite s b d).drc.reqs = s.drc.reqs ∧ (deviceWrite s b d).regs = s.regs := by
  rw [deviceWrite, emitAll_dram, dram_dramWr, emitAll_drc, dramWr_drc_reqs, emitAll_regs_eq]
  exact ⟨rfl, rfl, rfl⟩

/-- A block is marked as one that cannot be corrected. -/
def poisoned (s : State) (b : Nat) : State :=
  { s with drc := { s.drc with poison := if s.drc.poison.contains b then s.drc.poison else b :: s.drc.poison } }

theorem poisoned_same (s : State) (b : Nat) : (poisoned s b).drc.reqs = s.drc.reqs ∧ (poisoned s b).regs = s.regs ∧
    (poisoned s b).dram = s.dram := ⟨rfl, rfl, rfl⟩

theorem uncorrectable_eq (s : State) (b : Nat) : uncorrectable s b =
    raise (setF (setF (incSat (poisoned s b) F.DRC_ECCSTAT_UE) F.DRC_UEADDR_BLOCK b) F.DRC_UEADDR_VALID 1) 0x1301 (beBytes 4 b) := rfl

theorem reqs_uncorrectable (s : State) (b : Nat) : (uncorrectable s b).drc.reqs = s.drc.reqs := by
  have hdrc : (uncorrectable s b).drc = (poisoned s b).drc := by
    rw [uncorrectable_eq]
    exact ((raise_eventSame _ _ _).same .drc (by decide)).trans (by rw [setF_drc, setF_drc, incSat_drc])
  rw [hdrc, (poisoned_same s b).1]

/-- A block that cannot be corrected is counted and recorded (R485). -/
theorem uncorrectable_recorded (s : State) (b : Nat) : getF (uncorrectable s b) F.DRC_UEADDR_VALID = 1 ∧
    getF (uncorrectable s b) F.DRC_UEADDR_BLOCK = b % 2 ^ F.DRC_UEADDR_BLOCK.width ∧
    getF (uncorrectable s b) F.DRC_ECCSTAT_UE = satAdd F.DRC_ECCSTAT_UE.top (getF s F.DRC_ECCSTAT_UE) 1 := by
  rw [uncorrectable_eq, (raise_eventSame _ _ _).getF (by decide), (raise_eventSame _ _ _).getF (by decide),
    (raise_eventSame _ _ _).getF (by decide)]
  refine ⟨getF_setF_read _ _ (by decide) (by decide), ?_, ?_⟩
  · rw [getF_setF_beside _ F.DRC_UEADDR_VALID F.DRC_UEADDR_BLOCK _ rfl (by decide) (by decide), getF_setF_same _ _ _ (by decide)]
  · rw [getF_setF_ne _ _ _ _ (by decide), getF_setF_ne _ _ _ _ (by decide), getF_incSat_same _ _ _ (by decide),
      getF_congr (poisoned_same s b).2.1]

/-! ### Reads return (R485, R493) -/

/-- What the master of a read receives. -/
def readAnswerOf (port b : Nat) (d : Option Bytes) : Out :=
  match d with | some x => .answer port b .ok x | none => .answer port b .integrity []

theorem readReturn_issued {s : State} {port b : Nat} {err : List (Nat × Nat)} {r : DReq} {d : Option Bytes} {x : State}
    (hfind : s.drc.reqs.find? (fun r => !r.wr && r.port == port && r.block == b) = some r) (hz : r.hazard = false)
    (hmay : mayIssue s r = true) (hread : eccRead s b err = (d, x)) :
    readReturn s port b err = drcComplete (emit x (readAnswerOf port b d)) r := by
  rw [readReturn, hfind]
  dsimp only
  rw [hmay, if_neg (by decide), hz, if_neg (by decide), hread]
  rfl

theorem mem_out_drcComplete (s : State) (o : Out) (r : DReq) : o ∈ (drcComplete (emit s o) r).out := by
  obtain ⟨_, _, hout⟩ := drcComplete_leaves (emit s o) r
  exact hout.subset (by rw [out_emit]; simp)

theorem dramReadReturn_answers {dt port b : Nat} {err : List (Nat × Nat)} {r : DReq} {d : Bytes} {s : State}
    (hon : DramOn (advance dt s)) (hfind : (advance dt s).drc.reqs.find? (fun r => !r.wr && r.port == port && r.block == b) = some r)
    (hz : r.hazard = false) (hmay : mayIssue (advance dt s) r = true)
    (hread : eccRead (advance dt s) b err = (some d, advance dt s)) :
    ∃ t, exec (.dramReadReturn dt port b err) s = .next t ∧ t.drc.reqs = (advance dt s).drc.reqs.erase r ∧
      .answer port b .ok d ∈ t.out ∧ t.dram = (advance dt s).dram := by
  refine ⟨_, exec_dramReadReturn hon port b err, ?_⟩
  rw [readReturn_issued hfind hz hmay hread]
  obtain ⟨hreqs, hdram, _⟩ := drcComplete_leaves (emit (advance dt s) (readAnswerOf port b (some d))) r
  rw [hreqs, hdram, emit_drc, emit_dram]
  exact ⟨rfl, mem_out_drcComplete _ (.answer port b .ok d) r, rfl⟩

theorem dramReadReturn_uncorrectable {dt port b : Nat} {err : List (Nat × Nat)} {r : DReq} {s : State}
    (hon : DramOn (advance dt s)) (hfind : (advance dt s).drc.reqs.find? (fun r => !r.wr && r.port == port && r.block == b) = some r)
    (hz : r.hazard = false) (hmay : mayIssue (advance dt s) r = true) (hpois : (advance dt s).drc.poison.contains b = true) :
    ∃ t, exec (.dramReadReturn dt port b err) s = .next t ∧ getF t F.DRC_UEADDR_VALID = 1 ∧
      getF t F.DRC_UEADDR_BLOCK = b % 2 ^ F.DRC_UEADDR_BLOCK.width ∧ .answer port b .integrity [] ∈ t.out ∧
      getF t F.DRC_ECCSTAT_UE = satAdd F.DRC_ECCSTAT_UE.top (getF (advance dt s) F.DRC_ECCSTAT_UE) 1 := by
  have hread : eccRead (advance dt s) b err = (none, uncorrectable (advance dt s) b) := eccRead_of_none (if_pos hpois)
  refine ⟨_, exec_dramReadReturn hon port b err, ?_⟩
  rw [readReturn_issued hfind hz hmay hread, getF_drcComplete _ r ⟨by decide, by decide⟩, getF_drcComplete _ r ⟨by decide, by decide⟩,
    getF_drcComplete _ r ⟨by decide, by decide⟩, getF_emit, getF_emit, getF_emit]
  obtain ⟨hvalid, hblock, hcount⟩ := uncorrectable_recorded (advance dt s) b
  exact ⟨hvalid, hblock, mem_out_drcComplete _ (.answer port b .integrity []) r, hcount⟩

/-! ### Writes to an idle channel (R483, R491, R492) -/

theorem block_apart_of_idle {s : State} {b : Nat} (hidle : (chReqs s (blockChan s b)).isEmpty = true) {q : DReq} (hq : q ∈ s.drc.reqs) :
    blockChan s q.block ≠ blockChan s b := by
  intro h
  have hmem : q ∈ chReqs s (blockChan s b) := List.mem_filter.2 ⟨hq, beq_iff_eq.2 h⟩
  rw [List.isEmpty_iff.1 hidle] at hmem
  cases hmem

theorem writePending_idle {s : State} {b : Nat} (hidle : (chReqs s (blockChan s b)).isEmpty = true) : writePending s b = false := by
  rw [writePending, List.any_eq_false]
  intro q hq h
  simp only [Bool.and_eq_true, beq_iff_eq] at h
  exact block_apart_of_idle hidle hq (by rw [h.2])

/-- A request that meets no other on its channel may be issued. -/
theorem mayIssue_joined {s : State} {r : DReq} (hidle : (chReqs s (blockChan s r.block)).isEmpty = true) :
    mayIssue (joined s r) r = true := by
  have hchan : ∀ b, blockChan (joined s r) b = blockChan s b := blockChan_congr rfl
  rw [mayIssue, Bool.not_eq_true', List.any_eq_false, reqs_joined]
  intro q hq h
  simp only [reqAhead, hchan, Bool.and_eq_true, beq_iff_eq, bne_iff_ne] at h
  obtain ⟨⟨⟨⟨⟨hsame, _⟩, _⟩, hne⟩, _⟩, _⟩ := h
  rcases List.mem_append.1 hq with hq | hq
  · exact block_apart_of_idle hidle hq hsame
  · exact hne (List.mem_singleton.1 hq)

theorem drcRequest_joined {s : State} {b : Nat} (hb : b < drcBlocks s) (hp : portsHeld s (blockChan s b) = false)
    (hidle : (chReqs s (blockChan s b)).isEmpty = true) (port cls : Nat) (wr : Bool) (data : Bytes)
    (part : Option (Nat × List (Nat × Nat))) :
    drcRequest s port cls wr b data part = joined s (newReq s port cls wr b data part) := by
  have hz : hazardOf s (newReq s port cls wr b data part) = false := by
    rw [hazardOf]
    exact (congrArg (_ && ·) (writePending_idle hidle)).trans (Bool.and_false _)
  rw [drcRequest_joins hb hp, enqueue_eq, hz]
  rfl

theorem newReq_not_mem {s : State} {b : Nat} (hidle : (chReqs s (blockChan s b)).isEmpty = true) (port cls : Nat) (wr : Bool)
    (data : Bytes) (part : Option (Nat × List (Nat × Nat))) : newReq s port cls wr b data part ∉ s.drc.reqs :=
  fun h => block_apart_of_idle hidle h rfl

theorem erase_joined {l : List DReq} {r : DReq} (h : r ∉ l) : (l ++ [r]).erase r = l := by
  rw [List.erase_append_right _ h, List.erase_cons_head, List.append_nil]

theorem rdByte_block {m : List Host.Cell} {b : Nat} {d : Bytes} (hd : d.length = 64) (a : Nat) :
    rdByte dramFill (wrBytes dramFill m (64 * b) d) a =
      if 64 * b ≤ a ∧ a < 64 * b + 64 then d.getD (a - 64 * b) 0#8 else rdByte dramFill m a := by
  split
  next h =>
    obtain ⟨i, rfl⟩ := Nat.exists_eq_add_of_le h.1
    rw [rdByte_wrBytes_in dramFill m (64 * b) d i (by omega), Nat.add_sub_cancel_left, List.getD_eq_getElem]
  next h => exact rdByte_wrBytes_out dramFill m (64 * b) d a (by omega)

theorem issueFreeWrites_only {s : State} {r : DReq} (hwr : r.wr = true) (hnone : s.drc.reqs.filter DReq.wr = [])
    (hidle : (chReqs s (blockChan s r.block)).isEmpty = true) : issueFreeWrites (joined s r) = issueWrite (joined s r) r := by
  have horder : writesInOrder (joined s r) = [r] := by
    rw [writesInOrder, reqs_joined, List.filter_append, hnone, List.filter_cons_of_pos hwr, List.filter_nil]
    rfl
  rw [issueFreeWrites, horder]
  exact if_pos (mayIssue_joined hidle)

theorem issueWrite_whole (s : State) {r : DReq} (h : r.part = none) :
    issueWrite s r = drcComplete (deviceWrite s r.block (fit 64 r.data)) r := by
  rw [issueWrite, h]

theorem joined_dram (s : State) (r : DReq) : (joined s r).dram = s.dram := rfl

theorem dramWriteRequest_stores {dt port cls b : Nat} {data : Bytes} {s : State} (hon : DramOn (advance dt s))
    (hb : b < drcBlocks (advance dt s)) (hp : portsHeld (advance dt s) (blockChan (advance dt s) b) = false)
    (hnone : (advance dt s).drc.reqs.filter DReq.wr = [])
    (hidle : (chReqs (advance dt s) (blockChan (advance dt s) b)).isEmpty = true) :
    ∃ t, exec (.dramWriteRequest dt port cls b data true) s = .next t ∧
      (∀ i, i < 64 → rdByte dramFill t.dram (64 * b + i) = (fit 64 data).getD i 0#8) ∧
      (∀ a, a < 64 * b ∨ 64 * b + 64 ≤ a → rdByte dramFill t.dram a = rdByte dramFill (advance dt s).dram a) := by
  refine ⟨_, exec_dramWriteRequest_issue hon port cls b data, ?_⟩
  rw [drcRequest_joined hb hp hidle, issueFreeWrites_only rfl hnone hidle, issueWrite_whole _ rfl, (drcComplete_leaves _ _).2.1,
    (deviceWrite_same _ _ _).1, joined_dram]
  have hlen : (fit 64 data).length = 64 := fit_length 64 data
  refine ⟨fun i hi => ?_, fun a ha => ?_⟩
  · exact (rdByte_block (b := b) hlen _).trans ((if_pos ⟨by omega, by omega⟩).trans (by rw [Nat.add_sub_cancel_left]))
  · exact (rdByte_block (b := b) hlen _).trans (if_neg (by omega))

/-! ### Partial writes (R483) -/

theorem issueWrites_only {s : State} {r : DReq} (hwr : r.wr = true) (hidle : (chReqs s (blockChan s r.block)).isEmpty = true) :
    (joined s r).drc.reqs.filter (fun q => q.wr && q.block == r.block) = [r] := by
  have hnone : s.drc.reqs.filter (fun q => q.wr && q.block == r.block) = [] := by
    refine List.filter_eq_nil_iff.2 fun q hq h => ?_
    simp only [Bool.and_eq_true, beq_iff_eq] at h
    exact block_apart_of_idle hidle hq (by rw [h.2])
  rw [reqs_joined, List.filter_append, hnone, List.filter_cons_of_pos (by simp [hwr]), List.filter_nil, List.nil_append]

theorem partialWrite_issues {s : State} {b : Nat} (hb : b < drcBlocks s) (hp : portsHeld s (blockChan s b) = false)
    (hidle : (chReqs s (blockChan s b)).isEmpty = true) (port off : Nat) (data : Bytes) (err : List (Nat × Nat)) :
    partialWrite s port b off data err = issueWrite (joined s (newReq s port 0 true b data (some (off, err))))
      (newReq s port 0 true b data (some (off, err))) := by
  have hlist : (joined s (newReq s port 0 true b data (some (off, err)))).drc.reqs.filter (fun q => q.wr && q.block == b) =
      [newReq s port 0 true b data (some (off, err))] :=
    issueWrites_only (r := newReq s port 0 true b data (some (off, err))) rfl hidle
  have hmay : mayIssue (joined s (newReq s port 0 true b data (some (off, err)))) (newReq s port 0 true b data (some (off, err))) = true :=
    mayIssue_joined (r := newReq s port 0 true b data (some (off, err))) hidle
  unfold partialWrite
  dsimp only
  rw [drcRequest_joined hb hp hidle, hlist, List.all_cons, List.all_nil, hmay, if_pos (by decide), issueWrites, hlist]
  rfl

theorem issueWrite_part (s : State) {r : DReq} {off : Nat} {err : List (Nat × Nat)} (h : r.part = some (off, err)) :
    issueWrite s r = drcComplete (mergeWrite s r off err) r := by
  rw [issueWrite, h]

theorem writePending_of_mem {s : State} {r : DReq} (h : r ∈ s.drc.reqs) (hw : r.wr = true) : writePending s r.block = true :=
  List.any_eq_true.2 ⟨r, h, by simp [hw]⟩

theorem mergeWrite_bad {s : State} {r : DReq} {off : Nat} {err : List (Nat × Nat)}
    (h : decoded (incSat s F.DRC_HAZSTAT_RMW) r.block err = none) : mergeWrite s r off err =
      emit (uncorrectable (incSat s F.DRC_HAZSTAT_RMW) r.block) (.answer r.port r.block .integrity []) := by
  rw [mergeWrite, eccRead_of_none h]

/-- A correction behind a pending write of the block is counted alone. -/
def correctionCounted (s : State) (n : Nat) : State := if n = 0 then s else incSat s F.DRC_ECCSTAT_CE

theorem correctionCounted_same (s : State) (n : Nat) : (correctionCounted s n).drc = s.drc ∧ (correctionCounted s n).dram = s.dram ∧
    getF (correctionCounted s n) F.DRC_HAZSTAT_RMW = getF s F.DRC_HAZSTAT_RMW := by
  unfold correctionCounted
  split
  · exact ⟨rfl, rfl, rfl⟩
  · exact ⟨incSat_drc _ _ _, incSat_dram _ _ _, getF_incSat_ne _ _ _ _ (by decide)⟩

theorem mergeWrite_good {s : State} {r : DReq} {off n : Nat} {err : List (Nat × Nat)} {w : List Nat} (hmem : r ∈ s.drc.reqs)
    (hw : r.wr = true) (h : decoded (incSat s F.DRC_HAZSTAT_RMW) r.block err = some (w, n)) : mergeWrite s r off err =
      deviceWrite (correctionCounted (incSat s F.DRC_HAZSTAT_RMW) n) r.block (patch (blockBytes w) off r.data) := by
  have hpend : writePending (incSat (incSat s F.DRC_HAZSTAT_RMW) F.DRC_ECCSTAT_CE) r.block = true :=
    writePending_of_mem (by rw [incSat_drc, incSat_drc]; exact hmem) hw
  rw [mergeWrite, eccRead_of_some h, correctionKept, if_pos hpend]
  rfl

theorem poison_incSat (s : State) (f : Fld) (n : Nat) : (incSat s f n).drc.poison = s.drc.poison := by rw [incSat_drc]

/-- A partial write is counted, and leaves the queue of requests as it was. -/
theorem mergeWrite_counted {s : State} {r : DReq} {off : Nat} {err : List (Nat × Nat)} (hmem : r ∈ s.drc.reqs) (hw : r.wr = true) :
    (mergeWrite s r off err).drc.reqs = s.drc.reqs ∧
      getF (mergeWrite s r off err) F.DRC_HAZSTAT_RMW = satAdd F.DRC_HAZSTAT_RMW.top (getF s F.DRC_HAZSTAT_RMW) 1 := by
  have hcount : getF (incSat s F.DRC_HAZSTAT_RMW) F.DRC_HAZSTAT_RMW = satAdd F.DRC_HAZSTAT_RMW.top (getF s F.DRC_HAZSTAT_RMW) 1 :=
    getF_incSat_same _ _ _ (by decide)
  rcases hdec : decoded (incSat s F.DRC_HAZSTAT_RMW) r.block err with _ | ⟨w, n⟩
  · rw [mergeWrite_bad hdec, emit_drc, reqs_uncorrectable, incSat_drc, getF_emit]
    refine ⟨rfl, (getF_of_regs (uncorrectable_regs _ _ (fun k => by simp only [ne_eq]; omega) (by decide)
      (fun i => by simp only [R.CHN_PERR]; omega) (by decide) (by decide) RegsBut.same)).trans hcount⟩
  · obtain ⟨hdrc, _, hrmw⟩ := correctionCounted_same (incSat s F.DRC_HAZSTAT_RMW) n
    obtain ⟨_, hreqs, hregs⟩ := deviceWrite_same (correctionCounted (incSat s F.DRC_HAZSTAT_RMW) n) r.block (patch (blockBytes w) off r.data)
    rw [mergeWrite_good hmem hw hdec, hreqs, hdrc, incSat_drc, getF_congr hregs, hrmw]
    exact ⟨rfl, hcount⟩

theorem length_patch (b : Bytes) (off : Nat) (p : Bytes) : (patch b off p).length = b.length := by simp [patch]

/-- A partial write of a block that can be read stores the block merged with its bytes. -/
theorem dram_mergeWrite {s : State} {r : DReq} {off : Nat} {err : List (Nat × Nat)} {d : Bytes} (hmem : r ∈ s.drc.reqs) (hw : r.wr = true)
    (hread : (eccRead s r.block err).1 = some d) :
    (mergeWrite s r off err).dram = wrBytes dramFill s.dram (64 * r.block) (patch d off r.data) ∧ d.length = 64 := by
  rcases hdec : decoded s r.block err with _ | ⟨w, n⟩
  · rw [eccRead_of_none hdec] at hread
    cases hread
  · have hcong : decoded (incSat s F.DRC_HAZSTAT_RMW) r.block err = some (w, n) :=
      (decoded_congr (poison_incSat _ _ _) (incSat_dram _ _ _) _ _).trans hdec
    rw [eccRead_of_some hdec] at hread
    obtain rfl := Option.some.inj hread
    obtain ⟨_, hdram, _⟩ := correctionCounted_same (incSat s F.DRC_HAZSTAT_RMW) n
    rw [mergeWrite_good hmem hw hcong, (deviceWrite_same _ _ _).1, hdram, incSat_dram]
    exact ⟨rfl, length_blockBytes hdec⟩

theorem eccRead_fst_congr {s t : State} (hp : t.drc.poison = s.drc.poison) (hd : t.dram = s.dram) (b : Nat) (err : List (Nat × Nat)) :
    (eccRead t b err).1 = (eccRead s b err).1 := by
  have hcong := decoded_congr hp hd b err
  rcases hdec : decoded s b err with _ | ⟨w, n⟩
  · rw [eccRead_of_none hdec, eccRead_of_none (hcong.trans hdec)]
  · rw [eccRead_of_some hdec, eccRead_of_some (hcong.trans hdec)]

theorem joined_same (s : State) (r : DReq) : (joined s r).drc.poison = s.drc.poison ∧ (joined s r).dram = s.dram ∧
    (joined s r).regs = s.regs := ⟨rfl, rfl, rfl⟩

theorem dramPartialWrite_merges {dt port b off : Nat} {data : Bytes} {err : List (Nat × Nat)} {s : State} (hon : DramOn (advance dt s))
    (hb : b < drcBlocks (advance dt s)) (hp : portsHeld (advance dt s) (blockChan (advance dt s) b) = false)
    (hidle : (chReqs (advance dt s) (blockChan (advance dt s) b)).isEmpty = true) :
    ∃ t, exec (.dramPartialWrite dt ⟨port, b⟩ off data err) s = .next t ∧
      t.drc.reqs = (advance dt s).drc.reqs ∧
      (∀ d, (eccRead (advance dt s) b err).1 = some d → ∀ a, rdByte dramFill t.dram a =
        if 64 * b ≤ a ∧ a < 64 * b + 64 then (patch d off data).getD (a - 64 * b) 0#8 else rdByte dramFill (advance dt s).dram a) ∧
      getF t F.DRC_HAZSTAT_RMW = satAdd F.DRC_HAZSTAT_RMW.top (getF (advance dt s) F.DRC_HAZSTAT_RMW) 1 := by
  refine ⟨_, exec_dramPartialWrite hon port b off data err, ?_⟩
  clear hon
  generalize advance dt s = s at *
  have hfresh : newReq s port 0 true b data (some (off, err)) ∉ s.drc.reqs := newReq_not_mem hidle _ _ _ _ _
  have hblock : (newReq s port 0 true b data (some (off, err))).block = b := rfl
  have hdata : (newReq s port 0 true b data (some (off, err))).data = data := rfl
  have hwr : (newReq s port 0 true b data (some (off, err))).wr = true := rfl
  rw [partialWrite_issues hb hp hidle, issueWrite_part _ rfl]
  generalize newReq s port 0 true b data (some (off, err)) = r at *
  have hmem : r ∈ (joined s r).drc.reqs := by rw [reqs_joined]; simp
  obtain ⟨hpois, hdram, hregs⟩ := joined_same s r
  obtain ⟨hreqs, hcount⟩ := mergeWrite_counted (off := off) (err := err) hmem hwr
  obtain ⟨hdone, hkept, _⟩ := drcComplete_leaves (mergeWrite (joined s r) r off err) r
  refine ⟨?_, fun d hd a => ?_, ?_⟩
  · rw [hdone, hreqs, reqs_joined, erase_joined hfresh]
  · subst hblock
    obtain ⟨hstored, hlen⟩ := dram_mergeWrite (off := off) hmem hwr ((eccRead_fst_congr hpois hdram _ err).trans hd)
    rw [hkept, hstored, hdram, hdata]
    exact rdByte_block ((length_patch _ _ _).trans hlen) a
  · rw [getF_drcComplete _ r ⟨by decide, by decide⟩, hcount, getF_congr hregs]

/-! ### The patrol (R486) -/

/-- The patrol is at the block after `b`. -/
def patrolNext (s : State) (b : Nat) : State := { s with drc := { s.drc with patrol := (b + 1) % drcBlocks s, patrolReq := none } }

theorem patrolNext_at (s : State) (b : Nat) : (patrolNext s b).drc.patrolReq = none ∧ (patrolNext s b).drc.patrol = (b + 1) % drcBlocks s :=
  ⟨rfl, rfl⟩

/-- A round begins at block 0. -/
def roundNoted (s : State) (b : Nat) : State :=
  if b = 0 ∧ s.drc.patrolReq = none then { s with drc := { s.drc with patrolAt := some (upNs s) } } else s

theorem roundNoted_same (s : State) (b : Nat) : (roundNoted s b).drc.reqs = s.drc.reqs ∧ (roundNoted s b).regs = s.regs := by
  unfold roundNoted
  split <;> exact ⟨rfl, rfl⟩

theorem word_congr {s t : State} (h : t.regs = s.regs) (off : Nat) : t.word off = s.word off := by rw [State.word, State.word, h]

/-- The patrol waits for its channel. -/
def patrolWaits (s : State) (due : Nat) : State := { s with drc := { s.drc with patrolReq := some due } }

/-- The patrol at block `b` with its deadline `due`. -/
def patrolAtBlock (s : State) (b due : Nat) (err : List (Nat × Nat)) : State :=
  if writePending s b then patrolNext s b
  else if chState s (blockChan s b) = chActive ∧ (chReqs s (blockChan s b)).isEmpty then patrolNext (patrolRead s b due err) b
  else patrolWaits s due

theorem patrolStep_eq (s : State) (err : List (Nat × Nat)) : patrolStep s err =
    if getF s F.DRC_REFCFG_SCRUBH = 0 ∨ drcBlocks s = 0 ∨ !patrolDue s then s
    else patrolAtBlock (roundNoted s (s.drc.patrol % drcBlocks s)) (s.drc.patrol % drcBlocks s)
      (s.drc.patrolReq.getD (upNs s + classTarget s 3)) err := rfl

theorem patrolAtBlock_idle {s : State} {b : Nat} (due : Nat) (err : List (Nat × Nat)) (hact : chState s (blockChan s b) = chActive)
    (hidle : (chReqs s (blockChan s b)).isEmpty = true) : patrolAtBlock s b due err = patrolNext (patrolRead s b due err) b := by
  rw [patrolAtBlock, writePending_idle hidle, if_neg (by decide), if_pos ⟨hact, hidle⟩]

theorem patrolStep_due {s : State} {err : List (Nat × Nat)} (hon : isSet s F.DRC_REFCFG_SCRUBH = true) (hblocks : 0 < drcBlocks s)
    (hdue : patrolDue s = true) (hact : chState s (blockChan s (s.drc.patrol % drcBlocks s)) = chActive)
    (hidle : (chReqs s (blockChan s (s.drc.patrol % drcBlocks s))).isEmpty = true) :
    ∃ due, patrolStep s err = patrolNext (patrolRead (roundNoted s (s.drc.patrol % drcBlocks s)) (s.drc.patrol % drcBlocks s) due err)
      (s.drc.patrol % drcBlocks s) := by
  have hscrub : getF s F.DRC_REFCFG_SCRUBH ≠ 0 := by simpa [isSet] using hon
  obtain ⟨hreqs, hregs⟩ := roundNoted_same s (s.drc.patrol % drcBlocks s)
  have hchan := blockChan_congr (word_congr hregs R.DRC_CFG)
  refine ⟨_, (patrolStep_eq s err).trans ((if_neg ?_).trans (patrolAtBlock_idle _ err ?_ ?_))⟩
  · rw [hdue]
    simp [hscrub]
    omega
  · rw [hchan, chState, getF_congr hregs]
    exact hact
  · rw [hchan, chReqs_congr hreqs (word_congr hregs _)]
    exact hidle

theorem drcBlocks_patrolRead (s : State) (b due : Nat) (err : List (Nat × Nat)) : drcBlocks (patrolRead s b due err) = drcBlocks s := by
  rw [drcBlocks, drcBlocks, getF_of_regs (patrolRead_regs s b due err (fun k => by simp only [ne_eq]; omega) (by decide)
    (fun i => by simp only [R.CHN_PERR]; omega) (by decide) (by decide) (by decide) RegsBut.same)]

theorem patrolScrub_goes_on {dt : Nat} {err : List (Nat × Nat)} {s : State} (hon : DramOn (advance dt s))
    (hscrub : isSet (advance dt s) F.DRC_REFCFG_SCRUBH = true) (hblocks : 0 < drcBlocks (advance dt s))
    (hdue : patrolDue (advance dt s) = true)
    (hact : chState (advance dt s) (blockChan (advance dt s) ((advance dt s).drc.patrol % drcBlocks (advance dt s))) = chActive)
    (hidle : (chReqs (advance dt s) (blockChan (advance dt s) ((advance dt s).drc.patrol % drcBlocks (advance dt s)))).isEmpty = true) :
    ∃ t, exec (.patrolScrub dt err) s = .next t ∧ t.drc.patrolReq = none ∧
      t.drc.patrol = ((advance dt s).drc.patrol % drcBlocks (advance dt s) + 1) % drcBlocks (advance dt s) := by
  obtain ⟨due, hstep⟩ := patrolStep_due (err := err) hscrub hblocks hdue hact hidle
  refine ⟨_, exec_patrolScrub hon err, ?_⟩
  obtain ⟨hreq, hat⟩ := patrolNext_at (patrolRead (roundNoted (advance dt s) ((advance dt s).drc.patrol % drcBlocks (advance dt s)))
    ((advance dt s).drc.patrol % drcBlocks (advance dt s)) due err) ((advance dt s).drc.patrol % drcBlocks (advance dt s))
  have hsame : ∀ b, drcBlocks (roundNoted (advance dt s) b) = drcBlocks (advance dt s) := fun b => by
    rw [drcBlocks, drcBlocks, getF_congr (roundNoted_same _ b).2]
  rw [hstep, hat, drcBlocks_patrolRead, hsame]
  exact ⟨hreq, rfl⟩

/-- Settles O24. -/
theorem dramAccess : Obligations.DramAccess := by
  unfold Obligations.DramAccess
  exact ⟨fun dt port cls b s => dramReadRequest_waits, fun dt port cls b s => dramReadRequest_beyond,
    fun dt port b err r d s => dramReadReturn_answers, fun dt port b err r s => dramReadReturn_uncorrectable,
    fun dt port cls b data s => dramWriteRequest_stores, fun dt port b off data err s => dramPartialWrite_merges,
    fun dt err s => patrolScrub_goes_on⟩

end Sys2Proof.Machine
end

section
/-! PROOF. DRAM lane values, retraining in STANDBY and saved sets (R528 to R531). -/

set_option Elab.async false

namespace Sys2Proof.Machine

/-! ### Time passes -/

theorem advance_same (n : Nat) (s : State) (p : Part) (hp : p ∉ [Part.regs, .hif, .chn, .time, .wraps, .up, .out]) : p.same s (advance n s) :=
  (advance_keeps n s (by decide) (by decide) (by decide) (by decide) (by decide) (by decide) (by decide) Keeps.same).2.2 p hp

/-- The registers of the blocks behind CHN stand as time passes. -/
theorem word_advance (n : Nat) (s : State) {off : Nat} (h : 0xE0000 ≤ off) : (advance n s).word off = s.word off :=
  advance_regs (W0 := fun o => o < 0xE0000) n s (fun k => by omega) (by decide) (by decide) (fun i => by simp only [R.CHN_PERR]; omega)
    RegsBut.same off (Nat.not_lt.2 h)

theorem getF_advance (n : Nat) (s : State) {f : Fld} (h : 0xE0000 ≤ f.off) : getF (advance n s) f = getF s f := congrArg f.get (word_advance n s h)

/-! ### Folds over a list that names each thing once -/

theorem foldl_holds {σ α : Type} {f : σ → α → σ} (P : σ → Prop) (hP : ∀ t y, P t → P (f t y)) {l : List α} {s : σ} (h : P s) :
    P (l.foldl f s) := by
  induction l generalizing s with
  | nil => exact h
  | cons y l ih => exact ih (hP s y h)

theorem foldl_same {σ α β : Type} {f : σ → α → σ} (g : σ → β) {l : List α} (hg : ∀ t, ∀ y ∈ l, g (f t y) = g t) {s : σ} :
    g (l.foldl f s) = g s := by
  induction l generalizing s with
  | nil => rfl
  | cons y l ih => exact (ih fun t z hz => hg t z (List.mem_cons_of_mem _ hz)).trans (hg s y (List.mem_cons_self ..))

/-- Where one step of a fold sets a value and the others leave it, the fold does what that step does. -/
theorem foldl_at {σ α β : Type} {f : σ → α → σ} (g : σ → β) (P : σ → Prop) {x : α} {v : β → β} (hP : ∀ t y, P t → P (f t y))
    {l : List α} (hne : ∀ t, ∀ y ∈ l, y ≠ x → g (f t y) = g t) (heq : ∀ t, P t → g (f t x) = v (g t)) {s : σ} (hl : l.Nodup)
    (hx : x ∈ l) (h : P s) : g (l.foldl f s) = v (g s) := by
  induction l generalizing s with
  | nil => cases hx
  | cons y l ih =>
    obtain ⟨hy, hnodup⟩ := List.nodup_cons.1 hl
    by_cases hxy : y = x
    · subst hxy
      have hrest : ∀ t, ∀ z ∈ l, g (f t z) = g t := fun t z hz => hne t z (List.mem_cons_of_mem _ hz) fun he => hy (he ▸ hz)
      exact (foldl_same g hrest).trans (heq s h)
    · have hmem : x ∈ l := (List.mem_cons.1 hx).resolve_left fun he => hxy he.symm
      rw [List.foldl_cons, ih (fun t z hz => hne t z (List.mem_cons_of_mem _ hz)) hnodup hmem (hP s y h),
        hne s y (List.mem_cons_self ..) hxy]

/-! ### The 16 ms step of a byte lane (R528, R529) -/

/-- What the targets of byte lanes are worked out from is as in `s`. -/
def TargetsAs (s t : State) : Prop := t.cal.slots = s.cal.slots ∧ t.word R.THM_STAT = s.word R.THM_STAT ∧
  t.word R.DRC_CFG = s.word R.DRC_CFG ∧ t.word R.CAL_DCFG = s.word R.CAL_DCFG

theorem laneTarget_congr {s t : State} (h : TargetsAs s t) (c lane : Nat) (osc : Option Nat) :
    laneTarget t c lane osc = laneTarget s c lane osc := by
  obtain ⟨hslots, htj, hfsp, _⟩ := h
  have hj : junction t = junction s := congrArg (fun w => signed 16 (F.THM_STAT_TJ.get w)) htj
  have hf : getF t F.DRC_CFG_FSP = getF s F.DRC_CFG_FSP := congrArg F.DRC_CFG_FSP.get hfsp
  have hl : laneSlots t c lane (getF s F.DRC_CFG_FSP) = laneSlots s c lane (getF s F.DRC_CFG_FSP) := by rw [laneSlots, laneSlots, hslots]
  simp only [laneTarget, hj, hf, hl]

/-- The values in use of a byte lane are replaced. -/
def useSet (s : State) (c lane : Nat) (v : Nat × Nat × Nat) : State :=
  { s with cal := { s.cal with use := tset (0, 0, 0) s.cal.use (4 * c + lane) v } }

theorem useSet_cal (s : State) (c lane : Nat) (v : Nat × Nat × Nat) : (useSet s c lane v).cal.slots = s.cal.slots ∧
    (useSet s c lane v).cal.use = tset (0, 0, 0) s.cal.use (4 * c + lane) v := ⟨rfl, rfl⟩

theorem cal_laneUse (s : State) (c lane : Nat) (v : Nat × Nat × Nat) : (laneUse s c lane v).cal = (useSet s c lane v).cal := by
  show (setF (laneEyes (useSet s c lane v) c lane) (F.DRC_LANE_VREF c lane) v.2.2).cal = _
  rw [setF_cal]
  exact same_of_keeps .cal (laneEyes_keeps _ c lane (by decide) Keeps.same)

theorem word_laneUse (s : State) (c lane : Nat) (v : Nat × Nat × Nat) {off : Nat} (h : off < 0x130104 ∨ 0x130200 ≤ off) :
    (laneUse s c lane v).word off = s.word off :=
  word_of_regs (laneUse_regs s c lane v (fun i j => by simp only [R.DRC_LANE]; omega) RegsBut.same)

theorem targetsAs_laneUse {r s : State} (h : TargetsAs r s) (c lane : Nat) (v : Nat × Nat × Nat) : TargetsAs r (laneUse s c lane v) := by
  obtain ⟨hslots, htj, hfsp, hcfg⟩ := h
  refine ⟨?_, (word_laneUse s c lane v (by decide)).trans htj, (word_laneUse s c lane v (by decide)).trans hfsp,
    (word_laneUse s c lane v (by decide)).trans hcfg⟩
  rw [cal_laneUse, (useSet_cal s c lane v).1, hslots]

/-- The step that the target `v` makes of values in use. -/
def stepVals (v u : Nat × Nat × Nat) : Nat × Nat × Nat := (stepTo u.1 v.1, stepTo u.2.1 v.2.1, stepTo u.2.2 v.2.2)

/-- One byte lane of the 16 ms step. -/
def laneStep (c : Nat) (osc : Option Nat) (s : State) (lane : Nat) : State :=
  match laneTarget s c lane osc with
  | some v => laneUse s c lane (stepVals v (tget (0, 0, 0) s.cal.use (4 * c + lane)))
  | none => s

theorem trackChan_eq (s : State) (c : Nat) (osc : Option Nat) : trackChan s c osc = (List.range 4).foldl (laneStep c osc) s := rfl

theorem targetsAs_laneStep {r s : State} (h : TargetsAs r s) (c lane : Nat) (osc : Option Nat) : TargetsAs r (laneStep c osc s lane) := by
  unfold laneStep
  split
  · exact targetsAs_laneUse h c lane _
  · exact h

theorem use_laneStep_ne {s : State} {c lane k : Nat} {osc : Option Nat} (h : k ≠ 4 * c + lane) :
    tget (0, 0, 0) (laneStep c osc s lane).cal.use k = tget (0, 0, 0) s.cal.use k := by
  unfold laneStep
  split
  · rw [cal_laneUse, (useSet_cal _ _ _ _).2, tget_tset_ne _ _ _ _ h]
  · rfl

theorem use_laneStep_same {s : State} {c lane : Nat} {osc : Option Nat} {v : Nat × Nat × Nat} (h : laneTarget s c lane osc = some v) :
    tget (0, 0, 0) (laneStep c osc s lane).cal.use (4 * c + lane) = stepVals v (tget (0, 0, 0) s.cal.use (4 * c + lane)) := by
  rw [laneStep, h]
  dsimp only
  rw [cal_laneUse, (useSet_cal _ _ _ _).2, tget_tset_same]

theorem trackChan_kept {s t : State} (h : TargetsAs s t) (y : Nat) (osc : Option Nat) : TargetsAs s (trackChan t y osc) := by
  rw [trackChan_eq]
  exact foldl_holds (TargetsAs s) (fun u lane hu => targetsAs_laneStep hu y lane osc) h

theorem use_trackChan_ne {t : State} {c y lane : Nat} (osc : Option Nat) (hy : y ≠ c) (hlane : lane < 4) :
    tget (0, 0, 0) (trackChan t y osc).cal.use (4 * c + lane) = tget (0, 0, 0) t.cal.use (4 * c + lane) := by
  rw [trackChan_eq]
  refine foldl_same (fun u : State => tget (0, 0, 0) u.cal.use (4 * c + lane)) (fun u j hj => use_laneStep_ne ?_)
  have := List.mem_range.1 hj
  omega

theorem use_trackChan_same {s : State} {c lane : Nat} {osc : Option Nat} {v : Nat × Nat × Nat} (hlane : lane < 4)
    (hv : laneTarget s c lane osc = some v) {t : State} (h : TargetsAs s t) :
    tget (0, 0, 0) (trackChan t c osc).cal.use (4 * c + lane) = stepVals v (tget (0, 0, 0) t.cal.use (4 * c + lane)) := by
  rw [trackChan_eq]
  exact foldl_at (fun u : State => tget (0, 0, 0) u.cal.use (4 * c + lane)) (TargetsAs s) (x := lane) (v := stepVals v)
    (fun u j hu => targetsAs_laneStep hu c j osc) (fun u j _ hj => use_laneStep_ne (by omega))
    (fun u hu => use_laneStep_same ((laneTarget_congr hu c lane osc).trans hv)) List.nodup_range (List.mem_range.2 hlane) h

/-- The oscillator count that tracking uses of a channel. -/
def trackOsc (s : State) (osc : List Nat) (c : Nat) : Option Nat := if isSet s F.CAL_DCFG_TRACK then osc[c]? else none

theorem trackOsc_congr {s t : State} (h : TargetsAs s t) (osc : List Nat) (c : Nat) : trackOsc t osc c = trackOsc s osc c := by
  obtain ⟨_, _, _, hcfg⟩ := h
  have hf : getF t F.CAL_DCFG_TRACK = getF s F.CAL_DCFG_TRACK := congrArg F.CAL_DCFG_TRACK.get hcfg
  rw [trackOsc, trackOsc, isSet, isSet, hf]

/-- The step is noted. -/
def trackNoted (s : State) : State := { s with cal := { s.cal with trackAt := upNs s } }

theorem trackStep_due {s : State} (osc : List Nat) (h : s.cal.trackAt + 16000000 ≤ upNs s) : trackStep s osc =
    (drcChannels (trackNoted s)).foldl (fun t c => trackChan t c (trackOsc t osc c)) (trackNoted s) := by
  rw [trackStep, if_neg (Nat.not_lt.2 h)]
  rfl

theorem nodup_drcChannels (s : State) : (drcChannels s).Nodup := List.nodup_range.filter _

theorem trackNoted_same (s : State) : TargetsAs s (trackNoted s) ∧ drcChannels (trackNoted s) = drcChannels s ∧
    (trackNoted s).cal.use = s.cal.use := ⟨⟨rfl, rfl, rfl, rfl⟩, rfl, rfl⟩

theorem use_trackStep {s : State} {osc : List Nat} {c lane : Nat} {v : Nat × Nat × Nat} (hc : c ∈ drcChannels s) (hlane : lane < 4)
    (hv : laneTarget s c lane (trackOsc s osc c) = some v) (hdue : s.cal.trackAt + 16000000 ≤ upNs s) :
    tget (0, 0, 0) (trackStep s osc).cal.use (4 * c + lane) = stepVals v (tget (0, 0, 0) s.cal.use (4 * c + lane)) := by
  obtain ⟨hsame, hch, huse⟩ := trackNoted_same s
  rw [trackStep_due osc hdue, hch, ← huse]
  exact foldl_at (fun u : State => tget (0, 0, 0) u.cal.use (4 * c + lane)) (TargetsAs s) (x := c) (v := stepVals v)
    (fun u y hu => trackChan_kept hu y _) (fun u y _ hy => use_trackChan_ne _ hy hlane)
    (fun u hu => by
      rw [trackOsc_congr hu]
      exact use_trackChan_same hlane hv hu)
    (nodup_drcChannels s) hc hsame

theorem exec_dramTrackStep {dt : Nat} {s : State} (h : blkOn (advance dt s) 0x15 = true) (osc : List Nat) :
    exec (.dramTrackStep dt osc) s = .next (trackStep (advance dt s) osc) := by
  show execDramTrackStep dt osc s = _
  rw [execDramTrackStep, whenOn_of_on h]

theorem dramTrackStep_steps {dt : Nat} {osc : List Nat} {c lane : Nat} {v : Nat × Nat × Nat} {s : State}
    (hon : blkOn (advance dt s) 0x15 = true) (hc : c ∈ drcChannels (advance dt s)) (hlane : lane < 4)
    (hv : laneTarget (advance dt s) c lane (if isSet (advance dt s) F.CAL_DCFG_TRACK then osc[c]? else none) = some v)
    (hdue : (advance dt s).cal.trackAt + 16000000 ≤ upNs (advance dt s)) :
    ∃ t, exec (.dramTrackStep dt osc) s = .next t ∧ tget (0, 0, 0) t.cal.use (4 * c + lane) =
      (stepTo (tget (0, 0, 0) s.cal.use (4 * c + lane)).1 v.1, stepTo (tget (0, 0, 0) s.cal.use (4 * c + lane)).2.1 v.2.1,
        stepTo (tget (0, 0, 0) s.cal.use (4 * c + lane)).2.2 v.2.2) := by
  have hcal : (advance dt s).cal = s.cal := advance_same dt s .cal (by decide)
  refine ⟨_, exec_dramTrackStep hon osc, ?_⟩
  rw [use_trackStep hc hlane hv hdue, hcal]
  rfl

/-! ### Retraining in STANDBY (R530) -/

/-- A retraining of a channel is noted. -/
def retrainNoted (s : State) (c : Nat) : State :=
  { s with cal := { s.cal with retrained := s.cal.retrained.filter (fun e => e.1 != c) ++ [(c, upNs s)] } }

theorem retrainNoted_same (s : State) (c : Nat) : (retrainNoted s c).regs = s.regs ∧ (retrainNoted s c).cal.use = s.cal.use ∧
    (c, upNs s) ∈ (retrainNoted s c).cal.retrained ∧ timeNs (retrainNoted s c) = timeNs s :=
  ⟨rfl, rfl, List.mem_append_right _ (List.mem_singleton_self _), rfl⟩

theorem retrained_laneUse (s : State) (c lane : Nat) (v : Nat × Nat × Nat) :
    (laneUse s c lane v).cal.retrained = s.cal.retrained := by
  rw [cal_laneUse]
  rfl

theorem retrained_retrackChan (s : State) (c : Nat) : (retrackChan s c).cal.retrained = s.cal.retrained := by
  refine foldl_same (fun u : State => u.cal.retrained) (fun u lane _ => ?_)
  split
  · exact retrained_laneUse _ _ _ _
  · rfl

theorem retrained_calTrain (s : State) (c : Nat) (l : List LTrain) : (calTrain s c l).cal.retrained = s.cal.retrained := by
  refine foldl_same (fun u : State => u.cal.retrained) ?_
  exact fun _ _ _ => rfl

/-- A channel whose training came out well is counted and stamped. -/
def retrainShown (s : State) (c : Nat) : State :=
  setF (setF (incMod s (F.CAL_DCNT_RETRAIN c)) (F.CAL_DFRM_FRAME c) (calFrame (incMod s (F.CAL_DCNT_RETRAIN c)))) (F.CAL_DTIME_TIME c)
    (timeNs (incMod s (F.CAL_DCNT_RETRAIN c)))

theorem standbyRetrain_good {s : State} {c : Nat} {l : List LTrain} (hdue : retrainDue s c = true) (h : trainPass (fspsNow s) l = true) :
    standbyRetrain s c true l = retrainShown (retrackChan (calTrain (retrainNoted s c) c l) c) c := by
  have hpass : (true && trainPass (fspsNow (retrainNoted s c)) l) = true := h
  show (if !retrainDue s c then s else if true && trainPass (fspsNow (retrainNoted s c)) l then
    retrainShown (retrackChan (calTrain (retrainNoted s c) c l) c) c else incSat (retrainNoted s c) (F.CAL_DCNT_FAIL c)) = _
  rw [hdue, if_neg (by decide), if_pos hpass]

theorem standbyRetrain_bad {s : State} {c : Nat} {ok : Bool} {l : List LTrain} (hdue : retrainDue s c = true)
    (h : ok = false ∨ trainPass (fspsNow s) l = false) : standbyRetrain s c ok l = incSat (retrainNoted s c) (F.CAL_DCNT_FAIL c) := by
  have hpass : ¬ (ok && trainPass (fspsNow (retrainNoted s c)) l) = true := by
    show ¬ (ok && trainPass (fspsNow s) l) = true
    rcases h with h | h <;> simp [h]
  show (if !retrainDue s c then s else if ok && trainPass (fspsNow (retrainNoted s c)) l then
    retrainShown (retrackChan (calTrain (retrainNoted s c) c l) c) c else incSat (retrainNoted s c) (F.CAL_DCNT_FAIL c)) = _
  rw [hdue, if_neg (by decide), if_neg hpass]

theorem timeNs_lt (s : State) : timeNs s < 2 ^ 32 := Nat.mod_lt _ (by decide)

theorem timeNs_congr {s t : State} (h : t.time = s.time) : timeNs t = timeNs s := by rw [timeNs, timeNs, h]

theorem dcnt_ne_dfrm (c : Nat) : R.CAL_DCNT c ≠ R.CAL_DFRM c := by simp only [R.CAL_DCNT, R.CAL_DFRM]; omega

theorem dcnt_ne_dtime (c : Nat) : R.CAL_DCNT c ≠ R.CAL_DTIME c := by simp only [R.CAL_DCNT, R.CAL_DTIME]; omega

theorem retrainShown_shows (s : State) (c : Nat) : (retrainShown s c).cal = s.cal ∧
    getF (retrainShown s c) (F.CAL_DCNT_RETRAIN c) = (getF s (F.CAL_DCNT_RETRAIN c) + 1) % 2 ^ 16 ∧
    getF (retrainShown s c) (F.CAL_DTIME_TIME c) = timeNs s := by
  have htime : timeNs (incMod s (F.CAL_DCNT_RETRAIN c)) = timeNs s := timeNs_congr (incMod_time _ _ _)
  refine ⟨?_, ?_, ?_⟩
  · rw [retrainShown, setF_cal, setF_cal, incMod_cal]
  · rw [retrainShown, getF_setF_ne _ _ (F.CAL_DCNT_RETRAIN c) _ (dcnt_ne_dtime c), getF_setF_ne _ _ (F.CAL_DCNT_RETRAIN c) _ (dcnt_ne_dfrm c)]
    exact getF_incMod_same s (F.CAL_DCNT_RETRAIN c) 1 (of_decide_eq_true rfl)
  · rw [retrainShown, htime]
    exact getF_setF_read _ (F.CAL_DTIME_TIME c) (timeNs_lt s) (by rfl)

theorem dcnt_retracked (s : State) (c : Nat) (l : List LTrain) :
    getF (retrackChan (calTrain s c l) c) (F.CAL_DCNT_RETRAIN c) = getF s (F.CAL_DCNT_RETRAIN c) :=
  getF_of_regs (retrackChan_regs _ c (fun i j => by simp only [R.DRC_LANE, ne_eq]; omega) (calTrain_regs s c l RegsBut.same))

theorem time_retracked (s : State) (c : Nat) (l : List LTrain) : timeNs (retrackChan (calTrain s c l) c) = timeNs s :=
  timeNs_congr (same_of_keeps .time (retrackChan_keeps _ c (by decide) (by decide) (calTrain_keeps s c l (by decide) Keeps.same)))

theorem exec_standbyRetrain {dt : Nat} {s : State} (h : blkOn (advance dt s) 0x15 = true) (c : Nat) (ok : Bool) (l : List LTrain) :
    exec (.standbyRetrain dt c ok l) s = .next (standbyRetrain (advance dt s) c ok l) := by
  show execStandbyRetrain dt c ok l s = _
  rw [execStandbyRetrain, whenOn_of_on h]

theorem standbyRetrain_counts {dt c : Nat} {ok : Bool} {l : List LTrain} {s : State} (hon : blkOn (advance dt s) 0x15 = true)
    (hdue : retrainDue (advance dt s) c = true) :
    ∃ t, exec (.standbyRetrain dt c ok l) s = .next t ∧ (c, upNs (advance dt s)) ∈ t.cal.retrained ∧
      (ok = true → trainPass (fspsNow (advance dt s)) l = true → getF t (F.CAL_DCNT_RETRAIN c) = (getF s (F.CAL_DCNT_RETRAIN c) + 1) % 65536 ∧
        getF t (F.CAL_DTIME_TIME c) = timeNs (advance dt s)) ∧
      (ok = false ∨ trainPass (fspsNow (advance dt s)) l = false → t.cal.use = s.cal.use ∧
        getF t (F.CAL_DCNT_FAIL c) = satAdd (F.CAL_DCNT_FAIL c).top (getF s (F.CAL_DCNT_FAIL c)) 1) := by
  have hcal : (advance dt s).cal = s.cal := advance_same dt s .cal (by decide)
  have hcnt : getF (advance dt s) (F.CAL_DCNT_RETRAIN c) = getF s (F.CAL_DCNT_RETRAIN c) := getF_advance dt s (Nat.le_add_right_of_le (by decide))
  have hfail : getF (advance dt s) (F.CAL_DCNT_FAIL c) = getF s (F.CAL_DCNT_FAIL c) := getF_advance dt s (Nat.le_add_right_of_le (by decide))
  refine ⟨_, exec_standbyRetrain hon c ok l, ?_⟩
  obtain ⟨hregs, huse, hmem, htime⟩ := retrainNoted_same (advance dt s) c
  by_cases hgood : ok = true ∧ trainPass (fspsNow (advance dt s)) l = true
  · obtain ⟨rfl, hpass⟩ := hgood
    obtain ⟨hc, hshown, hstamp⟩ := retrainShown_shows (retrackChan (calTrain (retrainNoted (advance dt s) c) c l) c) c
    rw [standbyRetrain_good hdue hpass, hc, hshown, hstamp, retrained_retrackChan, retrained_calTrain, dcnt_retracked, time_retracked,
      getF_congr hregs, hcnt, htime]
    exact ⟨hmem, fun _ _ => ⟨rfl, rfl⟩, fun h => by simp [hpass] at h⟩
  · have hbad : ok = false ∨ trainPass (fspsNow (advance dt s)) l = false := by
      rw [← Bool.not_eq_true, ← Bool.not_eq_true]
      exact Decidable.not_and_iff_or_not.1 hgood
    rw [standbyRetrain_bad hdue hbad, incSat_cal, getF_incSat_same _ (F.CAL_DCNT_FAIL c) _ (of_decide_eq_true rfl), getF_congr hregs, huse, hcal, hfail]
    exact ⟨hmem, fun hok hpass => absurd ⟨hok, hpass⟩ hgood, fun _ => ⟨rfl, rfl⟩⟩

/-! ### Saved sets (R531) -/

theorem flashStart_same (s : State) (p : Part) (hp : p ∉ [Part.regs, .out, .free]) : p.same s (flashStart s) :=
  (flashStart_keeps s (by decide) (by decide) (by decide) Keeps.same).2.2 p hp

/-- A flash operation behind those that wait. -/
def opQueued (s : State) (o : FlashOp) : State := { s with upd := { s.upd with ops := s.upd.ops ++ [o] } }

theorem flashPush_eq (s : State) (o : FlashOp) : flashPush s o = if s.thm.shut.isSome ∧ !isJournal o then s
    else if s.upd.ops.isEmpty then flashStart (opQueued s o) else opQueued s o := rfl

theorem upd_opQueued (s : State) (o : FlashOp) : (opQueued s o).upd = { s.upd with ops := s.upd.ops ++ [o] } := rfl

/-- While no shut-down is under way a flash operation joins the others, and nothing else of UPD changes (R570). -/
theorem upd_flashPush {s : State} (o : FlashOp) (h : s.thm.shut = none) : (flashPush s o).upd = { s.upd with ops := s.upd.ops ++ [o] } := by
  rw [flashPush_eq, if_neg (by simp [h])]
  split
  · exact (flashStart_same _ .upd (by decide)).trans (upd_opQueued s o)
  · exact upd_opQueued s o

theorem flashPush_same (s : State) (o : FlashOp) (p : Part) (hp : p ∉ [Part.regs, .upd, .out, .free]) : p.same s (flashPush s o) :=
  (flashPush_keeps s o (by decide) (by decide) (by decide) (by decide) Keeps.same).2.2 p hp

/-- A save of the sets is noted. -/
def saveNoted (s : State) : State := { s with cal := { s.cal with changed := false, savedAt := some (upNs s) } }

theorem saveNoted_same (s : State) : (saveNoted s).cal.changed = false ∧ (saveNoted s).cal.savedAt = some (upNs s) ∧
    (saveNoted s).upd = s.upd ∧ (saveNoted s).thm = s.thm := ⟨rfl, rfl, rfl, rfl⟩

theorem calSave_due {s : State} (hch : s.cal.changed = true) (h : ∀ a, s.cal.savedAt = some a → a + 600000000000 ≤ upNs s) :
    calSave s = flashPush (saveNoted s) .calset := by
  have hdue : (match s.cal.savedAt with | some t => decide (t + 600000000000 ≤ upNs s) | none => true) = true := by
    split
    next a ha => exact decide_eq_true (h a ha)
    next => rfl
  exact if_pos ⟨hch, hdue⟩

theorem exec_calSetSave {dt : Nat} {s : State} (h : blkOn (advance dt s) 0x15 = true) :
    exec (.calSetSave dt) s = .next (calSave (advance dt s)) := by
  show execCalSetSave dt s = _
  rw [execCalSetSave, whenOn_of_on h]

theorem calSetSave_saves {dt : Nat} {s : State} (hon : blkOn (advance dt s) 0x15 = true) (hch : s.cal.changed = true)
    (hshut : s.thm.shut = none) (hlast : ∀ a, s.cal.savedAt = some a → a + 600000000000 ≤ upNs (advance dt s)) :
    ∃ t, exec (.calSetSave dt) s = .next t ∧
      t.cal.changed = false ∧ t.cal.savedAt = some (upNs (advance dt s)) ∧ t.upd.ops = s.upd.ops ++ [.calset] := by
  have hcal : (advance dt s).cal = s.cal := advance_same dt s .cal (by decide)
  have hthm : (advance dt s).thm = s.thm := advance_same dt s .thm (by decide)
  have hupd : (advance dt s).upd = s.upd := advance_same dt s .upd (by decide)
  refine ⟨_, exec_calSetSave hon, ?_⟩
  rw [calSave_due (by rw [hcal]; exact hch) (by rw [hcal]; exact hlast)]
  obtain ⟨hnoted, hat, hops, hkept⟩ := saveNoted_same (advance dt s)
  have hsame : (flashPush (saveNoted (advance dt s)) .calset).cal = (saveNoted (advance dt s)).cal := flashPush_same _ _ .cal (by decide)
  rw [hsame, upd_flashPush _ (by rw [hkept, hthm]; exact hshut), hops, hupd]
  exact ⟨hnoted, hat, rfl⟩

/-- Settles O54. -/
theorem calibrationValues : Obligations.CalibrationValues := by
  unfold Obligations.CalibrationValues
  exact ⟨fun dt osc c lane v s => dramTrackStep_steps, fun dt c ok l s _ => standbyRetrain_counts, fun dt s => calSetSave_saves⟩

end Sys2Proof.Machine
end

section
/-! PROOF. The instructions of the debug port (R540 to R542, R601). -/

set_option Elab.async false

namespace Sys2Proof.Machine

/-! ### Tokens (R540 to R542) -/

/-- The nonce is used up, and nothing else changed. -/
structure NonceSpent (s t : State) : Prop where
  dbg : t.sec.dbg = s.sec.dbg
  life : t.sec.life = s.sec.life
  ownTries : t.sec.ownTries = s.sec.ownTries
  extest : t.sec.extest = s.sec.extest
  regs : t.regs = s.regs
  out : t.out = s.out

theorem tokenCheck_spent (s : State) (b : Bytes) : NonceSpent s (tokenCheck s b).2 := by
  have same : NonceSpent s s := ⟨rfl, rfl, rfl, rfl, rfl, rfl⟩
  have used : NonceSpent s { s with sec := { s.sec with nonce := none } } := ⟨rfl, rfl, rfl, rfl, rfl, rfl⟩
  unfold tokenCheck
  dsimp only
  split
  · exact same
  · split
    · exact same
    · split
      · exact same
      · split
        · exact used
        · split
          · exact used
          · exact used

theorem tokenTake_refused {s u : State} {b : Bytes} {c : Status} (h : tokenCheck s b = (c, u)) (hc : c ≠ .ok) :
    tokenTake s b = (c, incSat u F.SEC_CNT_TOKFAIL) := by
  unfold tokenTake
  rw [h]
  cases c
  case ok => exact absurd rfl hc
  all_goals rfl

theorem tokenTake_accepted {s u : State} {b : Bytes} (h : tokenCheck s b = (.ok, u)) : tokenTake s b =
    if byteAt b 0 = 1 ∧ 4 ≤ u.sec.ownTries then (.noResource, u) else (.ok, measExtend (tokenAct u b) 7 (sha (fit 304 b))) := by
  unfold tokenTake
  rw [h]

/-- What a token that is carried out leaves of the debug level, the lifecycle, the pads, the registers of SEC and the outputs. -/
structure TokenActed (s t : State) (b : Bytes) : Prop where
  dbg : t.sec.dbg = if byteAt b 0 = 2 then 1 else if byteAt b 0 = 3 then 0 else if byteAt b 0 = 4 then 2 else s.sec.dbg
  life : t.sec.life = if byteAt b 0 = 1 then lifeOwned else if byteAt b 0 = 3 then lifeRetired else s.sec.life
  extest : t.sec.extest = s.sec.extest
  fails : getF t F.SEC_CNT_TOKFAIL = getF s F.SEC_CNT_TOKFAIL
  out : t.out = s.out

theorem measExtend_acted {s t : State} {b : Bytes} (h : TokenActed s t b) (i : Nat) (d : Bytes) : TokenActed s (measExtend t i d) b :=
  ⟨h.dbg, h.life, h.extest, h.fails, h.out⟩

/-- A unit that is RETIRED has no debug level and no identity key. -/
def retired (s : State) : State := { s with sec := { s.sec with life := lifeRetired, idkey := false, dbg := 0 } }

theorem retired_same (s : State) : (retired s).sec.dbg = 0 ∧ (retired s).sec.life = lifeRetired ∧ (retired s).sec.extest = s.sec.extest ∧
    (retired s).regs = s.regs ∧ (retired s).out = s.out := ⟨rfl, rfl, rfl, rfl, rfl⟩

theorem dropKeySlots_same (s : State) (p : Part) (hp : p ∉ [Part.regs, .chn]) : p.same s (dropKeySlots s) :=
  (dropKeySlots_keeps s (by decide) (by decide) Keeps.same).2.2 p hp

theorem dropKeySlots_fails (s : State) : getF (dropKeySlots s) F.SEC_CNT_TOKFAIL = getF s F.SEC_CNT_TOKFAIL := by
  exact getF_of_regs (dropKeySlots_regs s (by decide) (fun i => by simp only [R.CHN_KSESS, ne_eq]; omega) RegsBut.same)

/-- The unit is OWNED by the signer of a token. -/
def owned (s : State) (d : Bytes) : State :=
  { s with sec := { s.sec with life := lifeOwned, owner := some d, ownTries := s.sec.ownTries + 1 } }

/-- The debug level is set. -/
def levelSet (s : State) (n : Nat) : State := { s with sec := { s.sec with dbg := n } }

theorem tokenAct_eq (s : State) (b : Bytes) : tokenAct s b =
    if byteAt b 0 = 1 then measExtend (owned s (sha (slice b 36 133))) 7 (sha (slice b 36 133))
    else if byteAt b 0 = 2 then levelSet s 1
    else if byteAt b 0 = 3 then dropKeySlots (retired s)
    else levelSet s 2 := rfl

theorem owned_same (s : State) (d : Bytes) : (owned s d).sec.dbg = s.sec.dbg ∧ (owned s d).sec.life = lifeOwned ∧
    (owned s d).sec.extest = s.sec.extest ∧ (owned s d).regs = s.regs ∧ (owned s d).out = s.out := ⟨rfl, rfl, rfl, rfl, rfl⟩

theorem levelSet_same (s : State) (n : Nat) : (levelSet s n).sec.dbg = n ∧ (levelSet s n).sec.life = s.sec.life ∧
    (levelSet s n).sec.extest = s.sec.extest ∧ (levelSet s n).regs = s.regs ∧ (levelSet s n).out = s.out := ⟨rfl, rfl, rfl, rfl, rfl⟩

theorem tokenAct_acted {s : State} {b : Bytes} (h : byteAt b 0 ∈ tokensFor s.sec.life s.sec.dbg) : TokenActed s (tokenAct s b) b := by
  have htype : byteAt b 0 = 1 ∨ byteAt b 0 = 2 ∨ byteAt b 0 = 3 ∨ byteAt b 0 = 4 := by
    unfold tokensFor at h
    split_ifs at h <;> simp at h <;> omega
  rw [tokenAct_eq]
  rcases htype with ht | ht | ht | ht <;> simp only [ht] <;> norm_num
  case inl =>
    obtain ⟨hdbg, hlife, hextest, hregs, hout⟩ := owned_same s (sha (slice b 36 133))
    exact measExtend_acted ⟨by rw [hdbg, ht]; rfl, by rw [hlife, ht]; rfl, hextest, getF_congr hregs _, hout⟩ _ _
  case inr.inl =>
    obtain ⟨hdbg, hlife, hextest, hregs, hout⟩ := levelSet_same s 1
    exact ⟨by rw [hdbg, ht]; rfl, by rw [hlife, ht]; rfl, hextest, getF_congr hregs _, hout⟩
  case inr.inr.inl =>
    obtain ⟨hdbg, hlife, hextest, hregs, hout⟩ := retired_same s
    have hsec : (dropKeySlots (retired s)).sec = (retired s).sec := dropKeySlots_same _ .sec (by decide)
    have hkept : (dropKeySlots (retired s)).out = (retired s).out := dropKeySlots_same _ .out (by decide)
    exact ⟨by rw [hsec, hdbg, ht]; rfl, by rw [hsec, hlife, ht]; rfl, (congrArg SecSt.extest hsec).trans hextest,
      (dropKeySlots_fails (retired s)).trans (getF_congr hregs _), hkept.trans hout⟩
  case inr.inr.inr =>
    obtain ⟨hdbg, hlife, hextest, hregs, hout⟩ := levelSet_same s 2
    exact ⟨by rw [hdbg, ht]; rfl, by rw [hlife, ht]; rfl, hextest, getF_congr hregs _, hout⟩

/-- What the delivery of a token leaves: what `TokenTaken` says, the pads and the outputs. -/
theorem tokenTake_taken (s : State) (b : Bytes) : TokenTaken s (tokenTake s b).2 b ∧ (tokenTake s b).2.sec.extest = s.sec.extest ∧
    (tokenTake s b).2.out = s.out := by
  have hspent := tokenCheck_spent s b
  rcases hcheck : tokenCheck s b with ⟨c, u⟩
  rw [hcheck] at hspent
  obtain ⟨hdbg, hlife, htries, hextest, hregs, hout⟩ := hspent
  dsimp only at hdbg hlife htries hextest hregs hout
  unfold TokenTaken
  rw [hcheck]
  dsimp only
  by_cases hc : c = .ok
  · subst hc
    have hacted := tokenAct_acted (tokenCheck_accepted hcheck)
    have hok : ¬ Status.ok ≠ Status.ok := fun h => h rfl
    rw [tokenTake_accepted hcheck, if_neg hok, if_neg hok, if_pos (rfl : Status.ok = Status.ok)]
    split
    next htoo =>
      obtain ⟨h1, h4⟩ := htoo
      rw [htries] at h4
      refine ⟨⟨?_, ?_, getF_congr hregs _⟩, hextest, hout⟩
      · rw [h1]
        exact hdbg
      · rw [h1, if_neg (by omega)]
        exact hlife
    next hfew =>
      obtain ⟨hd, hl, he, hf, ho⟩ := measExtend_acted hacted 7 (sha (fit 304 b))
      refine ⟨⟨?_, ?_, hf.trans (getF_congr hregs _)⟩, he.trans hextest, ho.trans hout⟩
      · rw [hd, hdbg]
      · rw [hl, hlife]
        have hless : byteAt b 0 = 1 ↔ byteAt b 0 = 1 ∧ s.sec.ownTries < 4 := by rw [← htries]; omega
        exact if_congr hless rfl rfl
  · rw [tokenTake_refused hcheck hc, if_pos hc, if_pos hc, if_neg hc, incSat_sec, incSat_out, getF_incSat_same _ _ _ (by decide),
      getF_congr hregs]
    exact ⟨⟨hdbg, hlife, rfl⟩, hextest, hout⟩

theorem exec_dbgtoken {s : State} (h : blkOn s 0x19 = true) (tok : Bytes) : exec (.dbgtoken tok) s = .next (dbgToken s tok) := by
  show execDbgtoken tok s = _
  rw [execDbgtoken, whenDbg, whenOn_of_on h]

theorem dbgToken_eq (s : State) (tok : Bytes) : dbgToken s tok =
    emit (tokenTake (leaveExtest s) (fit 304 tok)).2 (.jtag [byte (tokenTake (leaveExtest s) (fit 304 tok)).1.code]) := rfl

theorem dbgtoken_delivers {tok : Bytes} {s : State} (hon : blkOn s 0x19 = true) :
    ∃ t, exec (.dbgtoken tok) s = .next t ∧ t.sec.extest = false ∧
      t.out = s.out ++ [.jtag [byte (tokenTake (leaveExtest s) (fit 304 tok)).1.code]] ∧ TokenTaken (leaveExtest s) t (fit 304 tok) := by
  obtain ⟨⟨hdbg, hlife, hfails⟩, hextest, hout⟩ := tokenTake_taken (leaveExtest s) (fit 304 tok)
  refine ⟨_, exec_dbgtoken hon tok, ?_⟩
  unfold TokenTaken
  rw [dbgToken_eq, emit_sec, out_emit, getF_emit, hextest, hout]
  exact ⟨rfl, rfl, hdbg, hlife, hfails⟩

/-! ### The nonce (R540) -/

/-- The nonce that the next draw gives. -/
def nextNonce (s : State) : Bytes := fit 16 (Config.random s.free 16)

theorem word_drawNonce (s : State) {k : Nat} (hk : k < 4) :
    (drawNonce s).word (R.SEC_NONCE k) = BitVec.ofNat 32 (beAt (nextNonce s) (4 * k) 4) := by
  refine foldl_at (fun u : State => u.word (R.SEC_NONCE k)) (fun _ => True) (x := k)
    (v := fun _ => BitVec.ofNat 32 (beAt (nextNonce s) (4 * k) 4)) (fun _ _ _ => trivial) (fun t j hj hjk => ?_)
    (fun t _ => word_setWord_same t _ _) List.nodup_range (List.mem_range.2 hk) trivial
  have hj4 := List.mem_range.1 hj
  exact word_setWord_ne t _ (by simp only [R.SEC_NONCE]; omega)

theorem exec_dbgnonce {s : State} (h : blkOn s 0x19 = true) : exec .dbgnonce s = .next (dbgNonce s) := by
  show execDbgnonce s = _
  rw [execDbgnonce, whenDbg, whenOn_of_on h]

theorem dbgNonce_eq (s : State) : dbgNonce s = emit (drawNonce (leaveExtest s)) (.jtag (nextNonce (leaveExtest s))) := rfl

theorem nonce_drawNonce (s : State) : (drawNonce s).sec.nonce = some (nextNonce s) := drawNonce_nonce s

theorem leaveExtest_same (s : State) : (leaveExtest s).out = s.out ∧ (leaveExtest s).sec.dbg = s.sec.dbg ∧
    (leaveExtest s).regs = s.regs ∧ (leaveExtest s).dram = s.dram ∧ (leaveExtest s).drc = s.drc := ⟨rfl, rfl, rfl, rfl, rfl⟩

theorem dbgnonce_draws {s : State} (hon : blkOn s 0x19 = true) :
    ∃ t b, exec .dbgnonce s = .next t ∧ t.sec.nonce = some b ∧ b.length = 16 ∧ t.out = s.out ++ [.jtag b] ∧
    ∀ k, k < 4 → t.word (R.SEC_NONCE k) = BitVec.ofNat 32 (beAt b (4 * k) 4) := by
  refine ⟨_, nextNonce (leaveExtest s), exec_dbgnonce hon, ?_⟩
  rw [dbgNonce_eq, emit_sec, out_emit, drawNonce_out, (leaveExtest_same s).1]
  exact ⟨nonce_drawNonce _, fit_length _ _, rfl, fun k hk => (word_emit _ _ _).trans (word_drawNonce (leaveExtest s) hk)⟩

/-! ### Registers (R601) -/

theorem exec_regacc {s : State} (h : blkOn s 0x19 = true) (off : Nat) (v : Option Word) :
    exec (.regacc off v) s = .next (regAcc s off v) := by
  show execRegacc off v s = _
  rw [execRegacc, whenDbg, whenOn_of_on h]

theorem regAcc_locked {s : State} (h : s.sec.dbg = 0) (off : Nat) (v : Option Word) : regAcc s off v = leaveExtest s := if_pos h

theorem regAcc_write {s : State} {off : Nat} (h : s.sec.dbg ≠ 0) (hoff : off % 4 = 0) (w : Word) :
    regAcc s off (some w) = (regWrite (leaveExtest s) srcJtag off w).2 := by
  unfold regAcc
  dsimp only
  rw [if_neg (show ¬ debugLevel (leaveExtest s) = 0 from h), if_neg (by omega)]

theorem regAcc_read {s : State} {off : Nat} (h : s.sec.dbg ≠ 0) (hoff : off % 4 = 0) : regAcc s off none =
    emit (regRead (leaveExtest s) off).2 (.jtag (beBytes 4 (regRead (leaveExtest s) off).1.toNat)) := by
  unfold regAcc
  dsimp only
  rw [if_neg (show ¬ debugLevel (leaveExtest s) = 0 from h), if_neg (by omega)]

/-- A misaligned access is logged, and a read answers all ones. -/
theorem regAcc_misaligned {s : State} {off : Nat} (h : s.sec.dbg ≠ 0) (hoff : off % 4 ≠ 0) (v : Option Word) (f : Fld) :
    getF (regAcc s off v) f = getF (logError (leaveExtest s) srcJtag off .align) f := by
  unfold regAcc
  dsimp only
  rw [if_neg (show ¬ debugLevel (leaveExtest s) = 0 from h), if_pos hoff]
  split
  · rfl
  · exact getF_emit _ _ _

theorem regacc_accesses {off : Nat} {v : Option Word} {s : State} (hon : blkOn s 0x19 = true) :
    ∃ t, exec (.regacc off v) s = .next t ∧
    (s.sec.dbg = 0 → t = leaveExtest s) ∧
    (s.sec.dbg ≠ 0 → off % 4 = 0 → ∀ w, v = some w → t = (regWrite (leaveExtest s) srcJtag off w).2) ∧
    (s.sec.dbg ≠ 0 → off % 4 = 0 → v = none →
      t = emit (regRead (leaveExtest s) off).2 (.jtag (beBytes 4 (regRead (leaveExtest s) off).1.toNat))) ∧
    (s.sec.dbg ≠ 0 → off % 4 ≠ 0 → getF s F.GLB_ERRINFO_VALID = 0 → getF t F.GLB_ERRLOG_CODE = Status.align.code ∧
      getF t F.GLB_ERRINFO_SRC = srcJtag ∧ getF t F.GLB_ERRINFO_VALID = 1) := by
  refine ⟨_, exec_regacc hon off v, fun h => regAcc_locked h off v, fun h hoff w hv => ?_, fun h hoff hv => ?_, fun h hoff hvalid => ?_⟩
  · rw [hv, regAcc_write h hoff]
  · rw [hv, regAcc_read h hoff]
  · have hempty : getF (leaveExtest s) F.GLB_ERRINFO_VALID = 0 := (getF_congr (leaveExtest_same s).2.2.1 _).trans hvalid
    have hlog : ∀ f : Fld, f.off < R.GLB_EVTOVF → getF (regAcc s off v) f = getF (errorFilled (leaveExtest s) srcJtag off .align) f :=
      fun f hf => (regAcc_misaligned h hoff v f).trans (getF_logError_of_empty hempty srcJtag off .align hf)
    obtain ⟨hv, _, hsrc, hcode⟩ := getF_errorFilled (leaveExtest s) (src := srcJtag) off .align (by decide)
    exact ⟨(hlog _ (by decide)).trans hcode, (hlog _ (by decide)).trans hsrc, (hlog _ (by decide)).trans hv⟩

/-! ### Memory (R483, R485, R601) -/

theorem dram_uncorrectable (s : State) (b : Nat) : (uncorrectable s b).dram = s.dram :=
  same_of_keeps .dram (uncorrectable_keeps s b (by decide) (by decide) (by decide) (by decide) (by decide) Keeps.same)

/-- A store to one block touches no other byte. -/
theorem blockStore_outside (s : State) (port a : Nat) (b : Bytes) {k : Nat} (h : k < a ∨ a + b.length ≤ k) :
    rdByte dramFill (blockStore s port a b).dram k = rdByte dramFill s.dram k := by
  unfold blockStore
  dsimp only
  split
  · exact rdByte_wrBytes_out dramFill s.dram a b k h
  · split
    · rw [emit_dram, dram_uncorrectable, incSat_dram]
    · rw [dram_dramWr, incSat_dram]
      exact rdByte_wrBytes_out dramFill s.dram a b k h

theorem dramBad_congr {s t : State} (h : t.drc = s.drc) (a n : Nat) : dramBad t a n = dramBad s a n := by rw [dramBad, dramBad, h]

/-- A store to a block that is sound stores its bytes. -/
theorem blockStore_sound {s : State} {a : Nat} {b : Bytes} (port : Nat) (h : dramBad s a b.length = false) :
    (blockStore s port a b).dram = wrBytes dramFill s.dram a b ∧ ∀ k ∈ (blockStore s port a b).drc.poison, k ∈ s.drc.poison := by
  have hbad : dramBad (incSat s F.DRC_HAZSTAT_RMW) a b.length = false := (dramBad_congr (incSat_drc _ _ _) a b.length).trans h
  unfold blockStore
  dsimp only
  rw [hbad]
  split
  · exact ⟨rfl, fun k hk => (List.mem_filter.1 hk).1⟩
  · rw [if_neg (by decide), dram_dramWr, incSat_dram]
    refine ⟨rfl, fun k hk => ?_⟩
    have hmem := (List.mem_filter.1 hk).1
    rwa [incSat_drc] at hmem

theorem dramBad_of_subset {s t : State} (h : ∀ k ∈ t.drc.poison, k ∈ s.drc.poison) {a n a' n' : Nat} (hlo : a ≤ a') (hhi : a' + n' ≤ a + n)
    (hs : dramBad s a n = false) : dramBad t a' n' = false := by
  rw [dramBad, List.any_eq_false] at hs ⊢
  intro k hk hbad
  refine hs k (h k hk) ?_
  simp only [Bool.and_eq_true, decide_eq_true_eq] at hbad ⊢
  omega

/-- The blocks of a store, one after the other. -/
def storeCuts (port : Nat) (s : State) (cuts : List (Nat × Bytes)) : State := cuts.foldl (fun s p => blockStore s port p.1 p.2) s

theorem dramStore_eq (s : State) (port a : Nat) (b : Bytes) : dramStore s port a b = storeCuts port s (blockCuts (b.length / 64 + 2) a b) := rfl

theorem blockCuts_cons {fuel a : Nat} {b : Bytes} (h : b ≠ []) : blockCuts (fuel + 1) a b =
    (a, b.take (64 - a % 64)) :: blockCuts fuel (a + (64 - a % 64)) (b.drop (64 - a % 64)) :=
  if_neg (by simpa using h)

theorem blockCuts_nil (fuel a : Nat) : blockCuts fuel a [] = [] := by cases fuel <;> rfl

theorem storeCuts_outside (fuel : Nat) : ∀ (s : State) (port a : Nat) (b : Bytes) (k : Nat), k < a ∨ a + b.length ≤ k →
    rdByte dramFill (storeCuts port s (blockCuts fuel a b)).dram k = rdByte dramFill s.dram k := by
  induction fuel with
  | zero => exact fun _ _ _ _ _ _ => rfl
  | succ fuel ih =>
    intro s port a b k h
    by_cases hb : b = []
    · subst hb
      rw [blockCuts_nil]
      rfl
    · rw [blockCuts_cons hb]
      show rdByte dramFill (storeCuts port (blockStore s port a (b.take (64 - a % 64))) _).dram k = _
      rw [ih _ _ _ _ _ (by rw [List.length_drop]; omega), blockStore_outside _ _ _ _ (by rw [List.length_take]; omega)]

theorem storeCuts_inside (fuel : Nat) : ∀ (s : State) (port a : Nat) (b : Bytes) (i : Nat) (hi : i < b.length),
    b.length + a % 64 ≤ 64 * fuel → dramBad s a b.length = false →
    rdByte dramFill (storeCuts port s (blockCuts fuel a b)).dram (a + i) = b[i] := by
  induction fuel with
  | zero =>
    intro s port a b i hi hf
    omega
  | succ fuel ih =>
    intro s port a b i hi hf hbad
    have hb : b ≠ [] := by rintro rfl; exact absurd hi (Nat.not_lt_zero _)
    have hlt := Nat.mod_lt a (by decide : 0 < 64)
    have hsound := blockStore_sound (b := b.take (64 - a % 64)) port
      (dramBad_of_subset (fun k hk => hk) (Nat.le_refl a) (by rw [List.length_take]; omega) hbad)
    rw [blockCuts_cons hb]
    show rdByte dramFill (storeCuts port (blockStore s port a (b.take (64 - a % 64))) _).dram (a + i) = _
    by_cases hin : i < 64 - a % 64
    · rw [storeCuts_outside fuel _ _ _ _ _ (by omega), hsound.1, rdByte_wrBytes_in dramFill s.dram a (b.take (64 - a % 64)) i
        (by rw [List.length_take]; omega), List.getElem_take]
    · obtain ⟨j, rfl⟩ := Nat.exists_eq_add_of_le (Nat.not_lt.1 hin)
      rw [← Nat.add_assoc, ih _ port _ (b.drop (64 - a % 64)) j (by rw [List.length_drop]; omega) (by rw [List.length_drop]; omega)
        (dramBad_of_subset hsound.2 (Nat.le_add_right _ _) (by rw [List.length_drop]; omega) hbad), List.getElem_drop]

theorem exec_memacc {s : State} (h : blkOn s 0x19 = true) (sram : Bool) (a n : Nat) (data : Option Bytes) :
    exec (.memacc sram a n data) s = .next (memAcc s sram a n data) := by
  show execMemacc sram a n data s = _
  rw [execMemacc, whenDbg, whenOn_of_on h]

theorem memAcc_locked {s : State} (h : s.sec.dbg ≠ 2) (sram : Bool) (a n : Nat) (data : Option Bytes) :
    memAcc s sram a n data = leaveExtest s := if_pos h

theorem memAcc_write {s : State} {a n : Nat} (h : s.sec.dbg = 2) (hin : a + n ≤ 64 * drcBlocks s) (b : Bytes) :
    memAcc s false a n (some b) = dramStore (leaveExtest s) 7 a (fit n b) := by
  have hheld : a + n ≤ 64 * drcBlocks (leaveExtest s) := hin
  unfold memAcc
  dsimp only
  rw [if_neg (show ¬ debugLevel (leaveExtest s) ≠ 2 from fun hn => hn h)]
  exact if_pos (by simpa using hheld)

theorem memAcc_read {s : State} {a n : Nat} (h : s.sec.dbg = 2) (hin : a + n ≤ 64 * drcBlocks s) (hbad : dramBad s a n = false) :
    memAcc s false a n none = emit (leaveExtest s) (.jtag (dramRd (leaveExtest s) a n)) := by
  have hheld : a + n ≤ 64 * drcBlocks (leaveExtest s) := hin
  have hgood : dramBad (leaveExtest s) a n = false := hbad
  unfold memAcc
  dsimp only
  rw [if_neg (show ¬ debugLevel (leaveExtest s) ≠ 2 from fun hn => hn h), hgood]
  exact if_pos (by simpa using hheld)

/-- Free bytes are shifted out. -/
def freeOut (s : State) (n : Nat) : State := emit (drawBytes s n).2 (.jtag (drawBytes s n).1)

theorem freeOut_same (s : State) (n : Nat) : (freeOut s n).out = s.out ++ [.jtag (drawBytes s n).1] ∧ (freeOut s n).dram = s.dram ∧
    (drawBytes s n).1.length = n := ⟨rfl, rfl, fit_length _ _⟩

theorem memAcc_uncorrectable {s : State} {a n : Nat} (h : s.sec.dbg = 2) (hin : a + n ≤ 64 * drcBlocks s) (hbad : dramBad s a n = true) :
    memAcc s false a n none = freeOut (noteBad (leaveExtest s) a n) n := by
  have hb : dramBad (leaveExtest s) a n = true := hbad
  have hheld : (!false && decide (a + n ≤ 64 * drcBlocks (leaveExtest s))) = true :=
    decide_eq_true (show a + n ≤ 64 * drcBlocks (leaveExtest s) from hin)
  unfold memAcc
  dsimp only
  rw [if_neg (show ¬ debugLevel (leaveExtest s) ≠ 2 from fun hn => hn h), hheld, hb]
  rfl

theorem dram_noteBad (s : State) (a n : Nat) : (noteBad s a n).dram = s.dram :=
  same_of_keeps .dram (noteBad_keeps s a n (by decide) (by decide) (by decide) (by decide) (by decide) Keeps.same)

theorem dramRd_dramStore {s : State} (port a n : Nat) (b : Bytes) (hbad : dramBad s a n = false) :
    dramRd (dramStore s port a (fit n b)) a n = fit n b := by
  have hlen : (fit n b).length = n := fit_length n b
  refine List.ext_getElem (by simp [dramRd, rdBytes, hlen]) fun i hi hi' => ?_
  have hmod := Nat.mod_lt a (by decide : 0 < 64)
  have hbyte : rdByte dramFill (dramStore s port a (fit n b)).dram (a + i) = (fit n b)[i] := by
    rw [dramStore_eq]
    exact storeCuts_inside _ s port a (fit n b) i hi' (by rw [hlen]; omega) (by rw [hlen]; exact hbad)
  simpa only [dramRd, rdBytes, List.getElem_map, List.getElem_range] using hbyte

theorem dramRd_one (s : State) (k : Nat) : dramRd s k 1 = [rdByte dramFill s.dram k] := rfl

theorem memacc_accesses {a n : Nat} {data : Option Bytes} {s : State} (hon : blkOn s 0x19 = true) :
    ∃ t, exec (.memacc false a n data) s = .next t ∧
    (s.sec.dbg ≠ 2 → t = leaveExtest s) ∧
    (s.sec.dbg = 2 → a + n ≤ 64 * drcBlocks s → dramBad s a n = false → data = none →
      t.dram = s.dram ∧ t.out = s.out ++ [.jtag (dramRd s a n)]) ∧
    (s.sec.dbg = 2 → a + n ≤ 64 * drcBlocks s → dramBad s a n = true → data = none → t.dram = s.dram ∧
      ∃ b, b.length = n ∧ t.out = (noteBad (leaveExtest s) a n).out ++ [.jtag b]) ∧
    (s.sec.dbg = 2 → a + n ≤ 64 * drcBlocks s → ∀ b, data = some b → (dramBad s a n = false → dramRd t a n = fit n b) ∧
      ∀ k, k < a ∨ a + n ≤ k → dramRd t k 1 = dramRd s k 1) := by
  refine ⟨_, exec_memacc hon false a n data, fun h => memAcc_locked h false a n data, fun h hin hbad hd => ?_,
    fun h hin hbad hd => ?_, fun h hin b hd => ⟨fun hbad => ?_, fun k hk => ?_⟩⟩
  · rw [hd, memAcc_read h hin hbad]
    exact ⟨rfl, rfl⟩
  · obtain ⟨hout, hdram, hlen⟩ := freeOut_same (noteBad (leaveExtest s) a n) n
    rw [hd, memAcc_uncorrectable h hin hbad, hdram, dram_noteBad]
    exact ⟨rfl, _, hlen, hout⟩
  · rw [hd, memAcc_write h hin]
    exact dramRd_dramStore (s := leaveExtest s) 7 a n b hbad
  · rw [hd, memAcc_write h hin, dramRd_one, dramRd_one, dramStore_eq,
      storeCuts_outside _ _ 7 a (fit n b) k (by rw [fit_length]; exact hk)]
    rfl

/-! ### TRACE and EXTEST (R601) -/

theorem exec_trace {s : State} (h : blkOn s 0x19 = true) (n : Nat) : exec (.trace n) s = .next (trace s n) := by
  show execTrace n s = _
  rw [execTrace, whenDbg, whenOn_of_on h]

theorem trace_locked {s : State} (h : s.sec.dbg = 0) (n : Nat) : trace s n = leaveExtest s := if_pos h

theorem trace_open {s : State} (h : s.sec.dbg ≠ 0) (n : Nat) : trace s n = freeOut (leaveExtest s) n :=
  if_neg (show ¬ debugLevel (leaveExtest s) = 0 from h)

theorem trace_traces {n : Nat} {s : State} (hon : blkOn s 0x19 = true) :
    ∃ t, exec (.trace n) s = .next t ∧ (s.sec.dbg = 0 → t = leaveExtest s) ∧
      (s.sec.dbg ≠ 0 → ∃ b, b.length = n ∧ t.out = s.out ++ [.jtag b]) := by
  refine ⟨_, exec_trace hon n, fun h => trace_locked h n, fun h => ?_⟩
  obtain ⟨hout, _, hlen⟩ := freeOut_same (leaveExtest s) n
  rw [trace_open h]
  exact ⟨_, hlen, hout⟩

/-- EXTEST is selected. -/
def extestSet (s : State) : State := { s with sec := { s.sec with extest := true } }

theorem extestOn_eq (s : State) : extestOn s = scanOff (lampDrop (extestSet s)) := rfl

theorem exec_extest {s : State} (h : blkOn s 0x19 = true) : exec .extest s = .next (extestOn s) := by
  show execExtest s = _
  rw [execExtest, whenDbg, whenOn_of_on h]

/-- Scan outputs are low and no slot is under way. -/
theorem scanOff_same (s : State) : (scanOff s).sec = s.sec ∧ (scanOff s).lmp = s.lmp ∧ (scanOff s).spk.scan = [] ∧
    (scanOff s).spk.emission = none ∧ (scanOff s).spk.latched = none ∧ (scanOff s).spk.spokes = s.spk.spokes ∧
    (scanOff s).regs = s.regs := ⟨rfl, rfl, rfl, rfl, rfl, rfl, rfl⟩

/-- LAMP_EN is low where one of its conditions fails (R438). -/
theorem lampEn_lampDrop {s : State} (h : lampCond s = false) : (lampDrop s).lmp.lampEn = false := by
  unfold lampDrop
  rw [h]
  cases hl : s.lmp.lampEn
  · exact hl
  · rfl

theorem lampCond_extest {s : State} (h : s.sec.extest = true) : lampCond s = false := by
  rw [lampCond, h]
  exact Bool.and_false _

theorem extest_rests {s : State} (hon : blkOn s 0x19 = true) :
    ∃ t, exec .extest s = .next t ∧ t.sec.extest = true ∧ t.lmp.lampEn = false ∧ t.spk.scan = [] ∧
      t.spk.emission = none ∧ t.spk.latched = none := by
  obtain ⟨hsec, hlmp, hscan, hem, hlatch, _⟩ := scanOff_same (lampDrop (extestSet s))
  have hdrop : (lampDrop (extestSet s)).sec = (extestSet s).sec := lampDrop_same _ .sec (by decide)
  refine ⟨_, exec_extest hon, ?_⟩
  rw [extestOn_eq, hsec, hlmp, hdrop]
  exact ⟨rfl, lampEn_lampDrop (lampCond_extest rfl), hscan, hem, hlatch⟩

/-- Settles O57. -/
theorem debugPort : Obligations.DebugPort := by
  unfold Obligations.DebugPort
  exact ⟨fun tok s => dbgtoken_delivers, fun s => dbgnonce_draws, fun off v s => regacc_accesses, fun a n data s => memacc_accesses,
    fun n s => trace_traces, fun s => extest_rests⟩

end Sys2Proof.Machine
end

section
/-! PROOF. Power requests, the walk between power states, and orderly shut-down (R510, R511, R513 to R515). -/

set_option Elab.async false

namespace Sys2Proof.Machine

/-! ### What a field of any kind reads after a write of its register (R3) -/

theorem bits_storeFields_acc {l : List FieldRow} {x : FieldRow} (hl : FieldsApart l) (hx : x ∈ l) (old v w : Nat) :
    bits (storeFields l old v w) x.lo x.width = x.acc.store (bits old x.lo x.width) (bits v x.lo x.width) % 2 ^ x.width := by
  induction l generalizing w with
  | nil => cases hx
  | cons f l ih =>
    obtain ⟨hf, hrest⟩ := List.pairwise_cons.1 hl
    rw [storeFields, List.foldl_cons, ← storeFields]
    rcases List.mem_cons.1 hx with rfl | hmem
    · rw [bits_storeFields_before hf, bits_putBits_same]
    · exact ih hrest hmem _

theorem getF_storeReg_acc {off : Nat} {r : RegRow} (hr : regAt off = some r) (hn : r.fields.any (fun f => f.acc == .rws) = false)
    (hl : FieldsApart r.fields) {f : Fld} {x : FieldRow} (hx : x ∈ r.fields) (hf : f = ⟨off, x.lo, x.width⟩)
    (hw : x.lo + x.width ≤ 32) (s : State) (v : Word) :
    getF (storeReg s off v) f = x.acc.store (getF s f) (f.get v) % 2 ^ x.width := by
  subst hf
  rw [storeReg_of_row hr hn, getF, word_setWord_same, Fld.get, RegRow.store, BitVec.toNat_ofNat, bits_mod32 _ _ _ hw,
    ← storeFields, bits_storeFields_acc hl hx]
  rfl

/-- A field that a write does not reach reads as before. -/
theorem getF_storeReg_ro {off : Nat} {r : RegRow} (hr : regAt off = some r) (hn : r.fields.any (fun f => f.acc == .rws) = false)
    (hl : FieldsApart r.fields) {f : Fld} {x : FieldRow} (hx : x ∈ r.fields) (hro : x.acc = .ro) (hf : f = ⟨off, x.lo, x.width⟩)
    (hw : x.lo + x.width ≤ 32) (s : State) (v : Word) : getF (storeReg s off v) f = getF s f := by
  rw [getF_storeReg_acc hr hn hl hx hf hw, hro]
  subst hf
  exact Nat.mod_eq_of_lt (getF_lt s ⟨off, x.lo, x.width⟩)

/-! ### The role of the unit -/

theorem isTile_of_word {s t : State} (h : t.word R.GLB_ROLE = s.word R.GLB_ROLE) : isTile t = isTile s :=
  isTile_congr (congrArg F.GLB_ROLE_STRAP.get h)

theorem isTile_advance (n : Nat) (s : State) : isTile (advance n s) = isTile s :=
  isTile_of_word (word_of_regs (advance_regs n s (fun k => by simp only [R.GLB_ROLE, ne_eq]; omega) (by decide) (by decide)
    (fun i => by simp only [R.CHN_PERR, R.GLB_ROLE, ne_eq]; omega) RegsBut.same))

/-! ### Shut-downs (R511, R514) -/

/-- The display of a tile is off. -/
def shutDark (s : State) : State := if isTile s then displayOff s else s

/-- A shut-down is under way. -/
def shutNoted (s : State) (cause : Nat) : State := { s with thm := { s.thm with shut := some cause } }

theorem shutNoted_same (s : State) (cause : Nat) : (shutNoted s cause).thm.shut = some cause ∧ (shutNoted s cause).lmp = s.lmp ∧
    (shutNoted s cause).spk = s.spk ∧ (shutNoted s cause).regs = s.regs := ⟨rfl, rfl, rfl, rfl⟩

theorem shutStart_starts {s : State} (h : s.thm.shut = none) (cause : Nat) :
    ∃ det, shutStart s cause = shutNoted (raise (shutDark s) 0x1404 det) cause :=
  ⟨_, if_neg (by simp [h])⟩

/-- LMP takes its Reset state before SPK does. -/
def lampsOff (s : State) : State :=
  { engineStop (showsEnd s) with lmp := { (engineStop (showsEnd s)).lmp with lampEn := false, shows := [] } }

theorem displayOff_eq (s : State) : displayOff s = spokesDark (lampsOff s) := rfl

theorem lampEn_lampsOff (s : State) : (lampsOff s).lmp.lampEn = false := rfl

/-- The spokes are forgotten, before their registers show it. -/
def spokesGone (s : State) : State := { s with spk := { s.spk with spokes := [], det := none } }

/-- Every spoke shows OFF. -/
def spokesShownOff (s : State) : State := (List.range 32).foldl (fun s n => setF s (F.SPK_SPKSTAT_STATE n) spokeOff) s

theorem spokesDark_eq (s : State) : spokesDark s = scanOff (spokesShownOff (spokesGone s)) := rfl

theorem spokesGone_same (s : State) : (spokesGone s).spk.spokes = [] ∧ (spokesGone s).lmp = s.lmp ∧ (spokesGone s).regs = s.regs :=
  ⟨rfl, rfl, rfl⟩

theorem spokesShownOff_same (s : State) : (spokesShownOff s).spk = s.spk ∧ (spokesShownOff s).lmp = s.lmp :=
  ⟨foldl_same (fun u : State => u.spk) (fun _ _ _ => setF_spk _ _ _), foldl_same (fun u : State => u.lmp) (fun _ _ _ => setF_lmp _ _ _)⟩

theorem spokesDark_same (s : State) : (spokesDark s).spk.spokes = [] ∧ (spokesDark s).lmp = s.lmp := by
  obtain ⟨_, hlmp, _, _, _, hspokes, _⟩ := scanOff_same (spokesShownOff (spokesGone s))
  obtain ⟨hspk, hlamp⟩ := spokesShownOff_same (spokesGone s)
  obtain ⟨hgone, hkept, _⟩ := spokesGone_same s
  rw [spokesDark_eq, hspokes, hlmp, hspk, hlamp]
  exact ⟨hgone, hkept⟩

/-- The lamps of a tile are off, and its spokes are (R49, R514). -/
theorem displayOff_dark (s : State) : (displayOff s).lmp.lampEn = false ∧ (displayOff s).spk.spokes = [] := by
  obtain ⟨hspokes, hlmp⟩ := spokesDark_same (lampsOff s)
  rw [displayOff_eq, hspokes, hlmp]
  exact ⟨lampEn_lampsOff s, rfl⟩

theorem exec_t5Shutdown {dt : Nat} {s : State} (h : blkOn (advance dt s) 0x14 = true) :
    exec (.t5Shutdown dt) s = .next (t5Step (advance dt s)) := by
  show execT5Shutdown dt s = _
  rw [execT5Shutdown, whenOn_of_on h]

theorem t5Step_due {s : State} {a : Nat} (ha : s.thm.t5 = some a) (h : a + 10000000 ≤ upNs s) : t5Step s = shutStart s 1 := by
  rw [t5Step, ha]
  exact if_pos h

theorem t5Shutdown_starts {dt a : Nat} {s : State} (hon : blkOn (advance dt s) 0x14 = true) (ha : (advance dt s).thm.t5 = some a)
    (hdue : a + 10000000 ≤ upNs (advance dt s)) (hshut : s.thm.shut = none) :
    ∃ t, exec (.t5Shutdown dt) s = .next t ∧ t.thm.shut = some 1 ∧ (isTile s = true → t.lmp.lampEn = false ∧ t.spk.spokes = []) := by
  have hthm : (advance dt s).thm = s.thm := advance_same dt s .thm (by decide)
  obtain ⟨det, hstart⟩ := shutStart_starts (s := advance dt s) (by rw [hthm]; exact hshut) 1
  obtain ⟨hnoted, hlmp, hspk, _⟩ := shutNoted_same (raise (shutDark (advance dt s)) 0x1404 det) 1
  have hev := raise_eventSame (shutDark (advance dt s)) 0x1404 det
  have hlmp' : (raise (shutDark (advance dt s)) 0x1404 det).lmp = (shutDark (advance dt s)).lmp := hev.same .lmp (by decide)
  have hspk' : (raise (shutDark (advance dt s)) 0x1404 det).spk = (shutDark (advance dt s)).spk := hev.same .spk (by decide)
  refine ⟨_, exec_t5Shutdown hon, ?_⟩
  rw [t5Step_due ha hdue, hstart, hlmp, hspk, hlmp', hspk']
  refine ⟨hnoted, fun ht => ?_⟩
  rw [shutDark, if_pos ((isTile_advance dt s).trans ht)]
  exact displayOff_dark _

/-! ### Power requests (R514) -/

/-- The row of THM_PWR in the register map. -/
def thmPwrRow : RegRow := ⟨"THM_PWR", 0x140010, 1, 4, 1, 4, false,
  [⟨"REQ", 0, 3, .rw, 0, [(5, 7, .illegalValue)]⟩, ⟨"NOW", 3, 3, .ro, 0, []⟩, ⟨"BUSY", 6, 1, .ro, 0, []⟩, ⟨"FORCED", 7, 1, .ro, 0, []⟩,
    ⟨"Reserved", 8, 24, .rsv, 0, []⟩]⟩

theorem regAt_thmPwr : regAt R.THM_PWR = some thmPwrRow := rfl

/-- A write of THM_PWR sets the request alone. -/
theorem storeReg_thmPwr (s : State) (v : Word) : getF (storeReg s R.THM_PWR v) F.THM_PWR_REQ = F.THM_PWR_REQ.get v ∧
    getF (storeReg s R.THM_PWR v) F.THM_PWR_NOW = getF s F.THM_PWR_NOW ∧
    getF (storeReg s R.THM_PWR v) F.THM_PWR_FORCED = getF s F.THM_PWR_FORCED :=
  ⟨getF_storeReg_rw regAt_thmPwr (by decide) (by decide) (x := ⟨"REQ", 0, 3, .rw, 0, [(5, 7, .illegalValue)]⟩) (by decide) rfl rfl
      (by decide) s v,
    getF_storeReg_ro regAt_thmPwr (by decide) (by decide) (x := ⟨"NOW", 3, 3, .ro, 0, []⟩) (by decide) rfl rfl (by decide) s v,
    getF_storeReg_ro regAt_thmPwr (by decide) (by decide) (x := ⟨"FORCED", 7, 1, .ro, 0, []⟩) (by decide) rfl rfl (by decide) s v⟩

theorem getF_shutStart (s : State) (cause : Nat) {f : Fld} (h : f.off = R.THM_PWR) : getF (shutStart s cause) f = getF s f := by
  refine getF_of_regs ?_
  rw [h]
  exact shutStart_regs s cause (fun k => by simp only [R.THM_PWR, ne_eq]; omega) (by decide)
    (fun i => by simp only [R.QUE_STAT, R.THM_PWR, ne_eq]; omega) (fun i => by simp only [R.QUE_RET, R.THM_PWR, ne_eq]; omega) (by decide)
    (by decide) (by decide) (fun i => by simp only [R.CHN_PERR, R.THM_PWR, ne_eq]; omega)
    (fun i => by simp only [R.SPK_SPKSTAT, R.THM_PWR, ne_eq]; omega) RegsBut.same

/-- What `powerShow` shows, and leaves. -/
theorem powerShow_shows (s : State) : getF (powerShow s) F.THM_PWR_BUSY = b2n (power s != powerTarget s) ∧
    getF (powerShow s) F.THM_PWR_REQ = getF s F.THM_PWR_REQ ∧ getF (powerShow s) F.THM_PWR_NOW = getF s F.THM_PWR_NOW ∧
    (powerShow s).thm = s.thm ∧ (powerShow s).upd = s.upd := by
  have hbit : ∀ b : Bool, b2n b < 2 := by decide
  exact ⟨getF_setF_read s F.THM_PWR_BUSY (hbit _) (by decide),
    getF_setF_beside s F.THM_PWR_BUSY F.THM_PWR_REQ _ rfl (by decide) (by decide),
    getF_setF_beside s F.THM_PWR_BUSY F.THM_PWR_NOW _ rfl (by decide) (by decide), setF_thm _ _ _, setF_upd _ _ _⟩

theorem exec_powerRequest {req : Nat} {s : State} (h : WriteOk s R.THM_PWR (F.THM_PWR_REQ.put 0#32 req)) :
    exec (.powerRequest req) s = .next (powerRequest (storeReg s R.THM_PWR (F.THM_PWR_REQ.put 0#32 req))) := by
  refine congrArg Host.Outcome.next ((hostWrite_accepted (by decide) (by decide) h).trans ?_)
  rw [regEffect_14 _ _ _ (by decide), effectThm, if_neg (by decide), if_pos rfl]

theorem powerRequest_cases (s : State) : (s.thm.shut.isSome = true ∧ powerRequest s = s) ∨
    (s.thm.shut = none ∧ getF s F.THM_PWR_REQ = 4 ∧ powerRequest s = shutStart s 2) ∨
    (s.thm.shut = none ∧ getF s F.THM_PWR_REQ ≠ 4 ∧ powerRequest s = powerShow s) := by
  unfold powerRequest
  split
  next h => exact .inl ⟨h, rfl⟩
  next h =>
    have hnone : s.thm.shut = none := by simpa using h
    split
    next h4 => exact .inr (.inl ⟨hnone, h4, rfl⟩)
    next h4 => exact .inr (.inr ⟨hnone, h4, rfl⟩)

theorem powerRequest_asks {req : Nat} {s : State} (hreq : req < 5) (h : WriteOk s R.THM_PWR (F.THM_PWR_REQ.put 0#32 req)) :
    ∃ t, exec (.powerRequest req) s = .next t ∧
    getF t F.THM_PWR_REQ = req ∧ getF t F.THM_PWR_NOW = getF s F.THM_PWR_NOW ∧
    (s.thm.shut = none → req = 4 → t.thm.shut = some 2) ∧
    (s.thm.shut = none → req < 4 → t.thm.shut = none ∧
      getF t F.THM_PWR_BUSY = b2n (power s != if isSet s F.THM_PWR_FORCED then max 1 req else req)) := by
  obtain ⟨hr, hnow, hforced⟩ := storeReg_thmPwr s (F.THM_PWR_REQ.put 0#32 req)
  have hput : F.THM_PWR_REQ.get (F.THM_PWR_REQ.put 0#32 req) = req := get_put_read _ _ (by simp only; omega) (by decide)
  have hthm : (storeReg s R.THM_PWR (F.THM_PWR_REQ.put 0#32 req)).thm = s.thm := storeReg_same _ _ _ .thm (by decide)
  rw [hput] at hr
  refine ⟨_, exec_powerRequest h, ?_⟩
  generalize storeReg s R.THM_PWR (F.THM_PWR_REQ.put 0#32 req) = x at *
  rcases powerRequest_cases x with ⟨hsome, heq⟩ | ⟨hnone, h4, heq⟩ | ⟨hnone, h4, heq⟩
  · rw [heq]
    rw [hthm] at hsome
    exact ⟨hr, hnow, fun hn => by simp [hn] at hsome, fun hn => by simp [hn] at hsome⟩
  · obtain ⟨det, hstart⟩ := shutStart_starts hnone 2
    rw [heq, getF_shutStart x 2 (f := F.THM_PWR_REQ) rfl, getF_shutStart x 2 (f := F.THM_PWR_NOW) rfl, hstart]
    exact ⟨hr, hnow, fun _ _ => (shutNoted_same _ 2).1, fun _ hlt => absurd (hr.symm.trans h4) (Nat.ne_of_lt hlt)⟩
  · obtain ⟨hbusy, hsr, hsn, hst, _⟩ := powerShow_shows x
    rw [heq, hbusy, hsr, hsn, hst, power, powerTarget, hr, hnow, isSet, hforced]
    exact ⟨rfl, rfl, fun _ he => absurd (hr.trans he) h4, fun _ _ => ⟨hnone, rfl⟩⟩

/-! ### The walk (R515) -/

/-- The move from state `a` to `b`, before BUSY shows it. -/
def powerMoved (s : State) (a b : Nat) : State := raise (powerEffect (setF s F.THM_PWR_NOW b) a b) 0x1405 [byte b]

theorem powerMove_moves {s : State} (hshut : s.thm.shut = none) (ht : powerTarget s < 4) (hne : power s ≠ powerTarget s) :
    powerMove s = lampDrop (powerShow (powerMoved s (power s) (if power s < powerTarget s then power s + 1 else power s - 1))) :=
  if_neg (by simp [hshut, hne, ht])

theorem getF_powerMoved (s : State) (a b : Nat) {f : Fld} (h : f.off = R.THM_PWR) :
    getF (powerMoved s a b) f = getF (setF s F.THM_PWR_NOW b) f := by
  rw [powerMoved, (raise_eventSame _ _ _).getF (by rw [h]; decide)]
  refine getF_of_regs ?_
  rw [h]
  exact powerEffect_regs _ a b (fun k => by simp only [R.THM_PWR, ne_eq]; omega) (by decide)
    (fun i => by simp only [R.QUE_STAT, R.THM_PWR, ne_eq]; omega) (fun i => by simp only [R.QUE_RET, R.THM_PWR, ne_eq]; omega)
    (by decide) (by decide) (by decide) (fun i => by simp only [R.CHN_PERR, R.THM_PWR, ne_eq]; omega)
    (fun i => by simp only [R.LNK_PSTAT, R.THM_PWR, ne_eq]; omega) (fun i => by simp only [R.LNK_PMAP, R.THM_PWR, ne_eq]; omega)
    (fun i => by simp only [R.LNK_PCNT, R.THM_PWR, ne_eq]; omega) (fun i => by simp only [R.LNK_LCTL, R.THM_PWR, ne_eq]; omega)
    (fun i => by simp only [R.LNK_LSTAT, R.THM_PWR, ne_eq]; omega) (fun i => by simp only [R.LNK_LPRBS, R.THM_PWR, ne_eq]; omega)
    (by decide) (by decide) (fun i => by simp only [R.SPK_SPKSTAT, R.THM_PWR, ne_eq]; omega) (by decide)
    (fun i => by simp only [R.DRC_CHSTAT, R.THM_PWR, ne_eq]; omega) (by decide) (by decide) RegsBut.same

theorem power_powerMoved (s : State) (a : Nat) {b : Nat} (hb : b < 8) : power (powerMoved s a b) = b ∧
    powerTarget (powerMoved s a b) = powerTarget s := by
  have hreq : getF (powerMoved s a b) F.THM_PWR_REQ = getF s F.THM_PWR_REQ :=
    (getF_powerMoved s a b rfl).trans (getF_setF_beside s F.THM_PWR_NOW F.THM_PWR_REQ _ rfl (by decide) (by decide))
  have hforced : getF (powerMoved s a b) F.THM_PWR_FORCED = getF s F.THM_PWR_FORCED :=
    (getF_powerMoved s a b rfl).trans (getF_setF_beside s F.THM_PWR_NOW F.THM_PWR_FORCED _ rfl (by decide) (by decide))
  refine ⟨(getF_powerMoved s a b rfl).trans (getF_setF_read s F.THM_PWR_NOW hb (by decide)), ?_⟩
  rw [powerTarget, powerTarget, hreq, isSet, isSet, hforced]

theorem exec_powerStateReached {dt : Nat} {s : State} (h : blkOn (advance dt s) 0x14 = true) :
    exec (.powerStateReached dt) s = .next (powerMove (advance dt s)) := by
  show execPowerStateReached dt s = _
  rw [execPowerStateReached, whenOn_of_on h]

theorem powerStateReached_walks {dt : Nat} {s : State} (hon : blkOn (advance dt s) 0x14 = true) (hshut : s.thm.shut = none)
    (htarget : powerTarget (advance dt s) < 4) (hne : power (advance dt s) ≠ powerTarget (advance dt s)) :
    ∃ t, exec (.powerStateReached dt) s = .next t ∧
      power t = (if power (advance dt s) < powerTarget (advance dt s) then power (advance dt s) + 1 else power (advance dt s) - 1) ∧
      getF t F.THM_PWR_BUSY = b2n (power t != powerTarget (advance dt s)) := by
  have hthm : (advance dt s).thm = s.thm := advance_same dt s .thm (by decide)
  have hlt : power (advance dt s) < 8 := getF_lt _ F.THM_PWR_NOW
  refine ⟨_, exec_powerStateReached hon, ?_⟩
  rw [powerMove_moves (by rw [hthm]; exact hshut) htarget hne]
  obtain ⟨hp, ht⟩ := power_powerMoved (advance dt s) (power (advance dt s))
    (b := if power (advance dt s) < powerTarget (advance dt s) then power (advance dt s) + 1 else power (advance dt s) - 1)
    (by split <;> omega)
  generalize (if power (advance dt s) < powerTarget (advance dt s) then power (advance dt s) + 1 else power (advance dt s) - 1) = b at *
  obtain ⟨hbusy, _, hnow, _⟩ := powerShow_shows (powerMoved (advance dt s) (power (advance dt s)) b)
  have hpow : power (lampDrop (powerShow (powerMoved (advance dt s) (power (advance dt s)) b))) = b :=
    (getF_lampDrop _ _).trans (hnow.trans hp)
  rw [hpow, getF_lampDrop, hbusy, hp, ht]
  exact ⟨rfl, rfl⟩

/-! ### The end of a shut-down (R511, R513) -/

theorem ops_flashSettle (s : State) : (flashSettle s).upd.ops = [] := by
  unfold flashSettle
  exact congrArg UpdSt.ops (setF_upd _ _ _)

/-- A journal record stands in the journal. -/
def journaled (s : State) (r : JRec) : State := { s with upd := { s.upd with journal := s.upd.journal ++ [r] } }

theorem journalWrite_eq (s : State) (r : JRec) : journalWrite s r = flashOut (journaled s r) (.journal r) := rfl

theorem journalWrite_upd (s : State) (r : JRec) : (journalWrite s r).upd.ops = s.upd.ops ∧
    (journalWrite s r).upd.journal = s.upd.journal ++ [r] := by
  have hsame : (flashOut (journaled s r) (.journal r)).upd = (journaled s r).upd :=
    (flashOut_keeps (journaled s r) (.journal r) (W0 := [.out, .free]) (by decide) (by decide) Keeps.same).2.2 .upd (by decide)
  rw [journalWrite_eq, hsame]
  exact ⟨rfl, rfl⟩

/-- The channels of DRAM that are in use enter self-refresh. -/
def dramAsleep (s : State) : State := (drcChannels s).foldl selfRefEntry s

theorem upd_dramAsleep (s : State) : (dramAsleep s).upd = s.upd :=
  (Keeps.foldl (W := [.regs, .drc]) (fun t c h => selfRefEntry_keeps t c (by decide) (by decide) h) Keeps.same).2.2 .upd (by decide)

/-- The unit is in OFF. -/
def turnedOff (s : State) : State := powerShow (setF (raise (setF s F.THM_PWR_NOW 4) 0x1405 [4#8]) F.HIF_LINKSTAT_UP 0)

theorem turnedOff_off (s : State) : power (turnedOff s) = 4 ∧ getF (turnedOff s) F.HIF_LINKSTAT_UP = 0 ∧ (turnedOff s).upd = s.upd := by
  obtain ⟨_, _, hnow, _, hupd⟩ := powerShow_shows (setF (raise (setF s F.THM_PWR_NOW 4) 0x1405 [4#8]) F.HIF_LINKSTAT_UP 0)
  refine ⟨hnow.trans ?_, ?_, ?_⟩
  · rw [getF_setF_ne _ _ _ _ (by decide), (raise_eventSame _ _ _).getF (by decide)]
    exact getF_setF_read s _ (by decide) (by decide)
  · exact (getF_setF_ne _ F.THM_PWR_BUSY F.HIF_LINKSTAT_UP _ (by decide)).trans (getF_setF_read _ _ (by decide) (by decide))
  · rw [turnedOff, hupd, setF_upd]
    exact ((raise_eventSame _ _ _).same .upd (by decide)).trans (setF_upd _ _ _)

/-- Where a shut-down of cause `cause` finds the unit on, it settles the flash, writes its record and turns the unit off. -/
theorem orderlyShutdown_eq {s : State} {cause : Nat} (h : s.thm.shut = some cause) (hp : power s ≠ 4) :
    ∃ r, orderlyShutdown s = turnedOff (dramAsleep (journalWrite (flashSettle s) r)) := by
  rw [orderlyShutdown, h]
  exact ⟨_, if_neg hp⟩

theorem exec_orderlyShutdown {s : State} (h : blkOn s 0x14 = true) : exec .orderlyShutdown s = .next (orderlyShutdown s) := by
  show execOrderlyShutdown s = _
  rw [execOrderlyShutdown, whenOn_of_on h]

theorem power_of_on {s : State} {id : Nat} (h : blkOn s id = true) : power s ≠ 4 := by
  simp only [blkOn, Bool.and_eq_true, bne_iff_ne, ne_eq] at h
  obtain ⟨⟨⟨_, hp⟩, _⟩, _⟩ := h
  exact hp

theorem orderlyShutdown_ends {cause : Nat} {s : State} (hon : blkOn s 0x14 = true) (h : s.thm.shut = some cause) :
    ∃ t, exec .orderlyShutdown s = .next t ∧ power t = 4 ∧ getF t F.HIF_LINKSTAT_UP = 0 ∧ t.upd.ops = [] ∧ t.upd.journal ≠ [] := by
  obtain ⟨r, heq⟩ := orderlyShutdown_eq h (power_of_on hon)
  obtain ⟨hops, hjournal⟩ := journalWrite_upd (flashSettle s) r
  obtain ⟨hp, hlink, hupd⟩ := turnedOff_off (dramAsleep (journalWrite (flashSettle s) r))
  refine ⟨_, exec_orderlyShutdown hon, ?_⟩
  rw [heq, hupd, upd_dramAsleep, hops, hjournal, ops_flashSettle]
  exact ⟨hp, hlink, rfl, by simp⟩

/-- Settles O52. -/
theorem powerStates : Obligations.PowerStates := by
  unfold Obligations.PowerStates
  exact ⟨fun dt a s _ => t5Shutdown_starts, fun req s _ => powerRequest_asks, fun dt s _ => powerStateReached_walks,
    fun cause s _ => orderlyShutdown_ends⟩

end Sys2Proof.Machine
end

section
/-! PROOF. Sensor samples, steps of the throttle, and clearing of failures (R503, R504, R507 to R509). -/

set_option Elab.async false

namespace Sys2Proof.Machine

/-! ### Bits of THM_FAIL -/

theorem sub_and_eq_ldiff (m n : Nat) : m - (m &&& n) = Nat.ldiff m n := by
  induction m using Nat.binaryRec generalizing n with
  | zero => exact (Nat.zero_sub _).trans (Nat.eq_of_testBit_eq fun k => by simp [Nat.testBit_ldiff])
  | bit a m ih =>
    obtain ⟨b, n, rfl⟩ : ∃ b k, n = Nat.bit b k := ⟨n.bodd, n.div2, (Nat.bit_bodd_div2 n).symm⟩
    have hle : m &&& n ≤ m := Nat.and_le_left
    rw [Nat.ldiff_bit, Nat.land_bit, ← ih]
    cases a <;> cases b <;> simp [Nat.bit_val] <;> omega

/-- What a write-one-to-clear field keeps, bit by bit. -/
theorem testBit_w1c (old new k : Nat) : (Acc.w1c.store old new).testBit k = (old.testBit k && !new.testBit k) := by
  show (old - (old &&& new)).testBit k = _
  rw [sub_and_eq_ldiff, Nat.testBit_ldiff]

theorem testBit_putBit {n k : Nat} (w : Nat) (b : Bool) : (putBit w n b).testBit k = if k = n then b else w.testBit k := by
  rw [putBit, putBits_testBit]
  by_cases h : k = n
  · subst h
    cases b <;> simp
  · rw [if_neg (by omega), if_neg h]

theorem testBit_mod32 {n w : Nat} (hn : n < 32) : (BitVec.ofNat 32 w).toNat.testBit n = w.testBit n := by
  rw [BitVec.toNat_ofNat, Nat.testBit_mod_two_pow, decide_eq_true hn, Bool.true_and]

theorem unsign_lt (v : Int) : unsign 16 v < 2 ^ 16 := by
  unfold unsign
  omega

/-! ### One sample -/

/-- What the sensors show of on-die sensor `k`: its FAILED bit, its temperature, and its last sample. -/
def sensorView (k : Nat) (s : State) : Bool × Nat × Option (Nat × Int) :=
  (thmFailed s k, getF s (F.THM_OD_TEMP k), s.thm.prev.find? (fun e => e.1 == k))

/-- The bit of sensor `n` is set. -/
def failNoted (s : State) (n : Nat) : State :=
  State.setWord { s with thm := { s.thm with failing := if s.thm.failing.contains n then s.thm.failing else s.thm.failing ++ [n] } }
    R.THM_FAIL (BitVec.ofNat 32 (putBit (s.word R.THM_FAIL).toNat n true))

theorem failNoted_same (s : State) (n : Nat) : (failNoted s n).thm.prev = s.thm.prev ∧
    (failNoted s n).word R.THM_FAIL = BitVec.ofNat 32 (putBit (s.word R.THM_FAIL).toNat n true) :=
  ⟨rfl, word_setWord_same _ _ _⟩

theorem word_failNoted_ne (s : State) (n : Nat) {off : Nat} (h : off ≠ R.THM_FAIL) : (failNoted s n).word off = s.word off :=
  word_setWord_ne _ _ h

theorem sampleOne_bad (s : State) (n : Nat) (v : Int) : (sampleOne s n v true).2 =
    if !thmFailed s n && !s.thm.failing.contains n then raise (failNoted s n) 0x1401 [byte n] else failNoted s n := rfl

/-- Sensor `n` no longer fails. -/
def goodNoted (s : State) (n : Nat) : State := { s with thm := { s.thm with failing := s.thm.failing.filter (· != n) } }

theorem goodNoted_same (s : State) (n : Nat) : (goodNoted s n).thm.prev = s.thm.prev ∧ (goodNoted s n).regs = s.regs := ⟨rfl, rfl⟩

theorem sampleOne_good (s : State) (n : Nat) (v : Int) :
    (sampleOne s n v false).2 = setF (goodNoted s n) (tempFld n) (unsign 16 v) := rfl

/-- Where a bad sample is an event or none, it leaves what `failNoted` leaves. -/
theorem sensorView_bad (s : State) (n k : Nat) (v : Int) : sensorView k (sampleOne s n v true).2 = sensorView k (failNoted s n) := by
  have hev := raise_eventSame (failNoted s n) 0x1401 [byte n]
  rw [sampleOne_bad]
  split
  · rw [sensorView, sensorView, thmFailed, thmFailed, hev.word (by decide), hev.getF (by simp only; omega), hev.same .thm (by decide)]
  · rfl

theorem sensorView_failNoted_ne {s : State} {n k : Nat} (hk : k < 12) (h : n ≠ k) : sensorView k (failNoted s n) = sensorView k s := by
  obtain ⟨hprev, hword⟩ := failNoted_same s n
  have hoff : R.THM_OD k ≠ R.THM_FAIL := by simp only [R.THM_OD, R.THM_FAIL]; omega
  rw [sensorView, sensorView, thmFailed, thmFailed, hprev, hword, testBit_mod32 (by omega), testBit_putBit, if_neg h.symm, getF,
    word_failNoted_ne s n hoff, ← getF]

theorem sensorView_failNoted_same {s : State} {k : Nat} (hk : k < 12) :
    sensorView k (failNoted s k) = (true, getF s (F.THM_OD_TEMP k), s.thm.prev.find? (fun e => e.1 == k)) := by
  obtain ⟨hprev, hword⟩ := failNoted_same s k
  have hoff : R.THM_OD k ≠ R.THM_FAIL := by simp only [R.THM_OD, R.THM_FAIL]; omega
  rw [sensorView, thmFailed, hprev, hword, testBit_mod32 (by omega), testBit_putBit, if_pos rfl, getF, word_failNoted_ne s k hoff, ← getF]

/-- A sensor that stands in the list of those there are: on-die, or of a remote channel. -/
abbrev IsSensor (n : Nat) : Prop := n < 12 ∨ (16 ≤ n ∧ n < 32)

theorem tempFld_ne {n k : Nat} (hn : IsSensor n) (hk : k < 12) (h : n ≠ k) : (F.THM_OD_TEMP k).off ≠ (tempFld n).off := by
  unfold tempFld
  split <;> simp only [ne_eq] <;> omega

theorem tempFld_fail (n : Nat) : R.THM_FAIL ≠ (tempFld n).off := by
  unfold tempFld
  split <;> simp only [R.THM_FAIL, ne_eq] <;> omega

theorem thmFailed_good (s : State) (n k : Nat) (v : Nat) : thmFailed (setF (goodNoted s n) (tempFld n) v) k = thmFailed s k := by
  rw [thmFailed, word_setF_ne _ _ _ (tempFld_fail n)]
  rfl

theorem sensorView_sampleOne_ne {s : State} {n k : Nat} (v : Int) (bad : Bool) (hn : IsSensor n) (hk : k < 12) (h : n ≠ k) :
    sensorView k (sampleOne s n v bad).2 = sensorView k s := by
  cases bad with
  | true => rw [sensorView_bad, sensorView_failNoted_ne hk h]
  | false =>
    rw [sampleOne_good, sensorView, thmFailed_good, getF_setF_ne _ _ _ _ (tempFld_ne hn hk h), setF_thm]
    rfl

theorem sensorView_sampleOne_same {s : State} {k : Nat} (v : Int) (bad : Bool) (hk : k < 12) : sensorView k (sampleOne s k v bad).2 =
    if bad then (true, getF s (F.THM_OD_TEMP k), s.thm.prev.find? (fun e => e.1 == k))
    else (thmFailed s k, unsign 16 v, s.thm.prev.find? (fun e => e.1 == k)) := by
  cases bad with
  | true => exact (sensorView_bad s k k v).trans (sensorView_failNoted_same hk)
  | false =>
    have htemp : tempFld k = F.THM_OD_TEMP k := if_pos (by omega)
    rw [sampleOne_good, sensorView, thmFailed_good, setF_thm, htemp,
      getF_setF_read _ (F.THM_OD_TEMP k) (unsign_lt v) rfl]
    rfl

/-- The sample of on-die sensor `k` is kept. -/
def prevNoted (s : State) (k : Nat) (v : Int) : State :=
  { s with thm := { s.thm with prev := s.thm.prev.filter (fun e => e.1 != k) ++ [(k, v)] } }

theorem prevNoted_same (s : State) (k : Nat) (v : Int) : (prevNoted s k v).regs = s.regs ∧
    (prevNoted s k v).thm.prev = s.thm.prev.filter (fun e => e.1 != k) ++ [(k, v)] := ⟨rfl, rfl⟩

/-- Does the sample `v` after the sample `p` fail the sensor (R504)? -/
def odBad (v : Int) (p : Option (Nat × Int)) : Bool :=
  decide (v < -880) || decide (2400 < v) || match p with | some e => decide (320 < (v - e.2).natAbs) | none => false

theorem sampleOd_eq (s : State) (k : Nat) (v : Int) :
    sampleOd s k v = sampleOne (prevNoted s k v) k v (odBad v (s.thm.prev.find? (fun e => e.1 == k))) := rfl

theorem prev_prevNoted_ne (l : List (Nat × Int)) {n k : Nat} (v : Int) (h : n ≠ k) :
    (l.filter (fun e => e.1 != n) ++ [(n, v)]).find? (fun e => e.1 == k) = l.find? (fun e => e.1 == k) := by
  have hlast : [(n, v)].find? (fun e => e.1 == k) = none := by simp [h]
  have hboth : (fun e : Nat × Int => (e.1 != n) && (e.1 == k)) = fun e => e.1 == k := funext fun e => by
    by_cases he : e.1 = k
    · simp [he, h.symm]
    · simp [he]
  rw [List.find?_append, List.find?_filter, hlast, Option.or_none]
  simp only [Bool.decide_and, Bool.decide_eq_true]
  rw [hboth]

theorem prev_prevNoted_same (l : List (Nat × Int)) (k : Nat) (v : Int) :
    (l.filter (fun e => e.1 != k) ++ [(k, v)]).find? (fun e => e.1 == k) = some (k, v) := by
  have hnone : (l.filter (fun e => e.1 != k)).find? (fun e => e.1 == k) = none := by simp
  rw [List.find?_append, hnone]
  simp

theorem sensorView_sampleOd_ne {s : State} {n k : Nat} (v : Int) (hn : n < 12) (hk : k < 12) (h : n ≠ k) :
    sensorView k (sampleOd s n v).2 = sensorView k s := by
  obtain ⟨hregs, hprev⟩ := prevNoted_same s n v
  rw [sampleOd_eq, sensorView_sampleOne_ne v _ (.inl hn) hk h, sensorView, getF_congr hregs, hprev, prev_prevNoted_ne _ v h]
  rfl

/-- What the sample `v` makes of what on-die sensor `k` shows. -/
def odView (k : Nat) (v : Int) (x : Bool × Nat × Option (Nat × Int)) : Bool × Nat × Option (Nat × Int) :=
  if odBad v x.2.2 then (true, x.2.1, some (k, v)) else (x.1, unsign 16 v, some (k, v))

theorem sensorView_sampleOd_same {s : State} {k : Nat} (v : Int) (hk : k < 12) :
    sensorView k (sampleOd s k v).2 = odView k v (sensorView k s) := by
  obtain ⟨hregs, hprev⟩ := prevNoted_same s k v
  rw [sampleOd_eq, sensorView_sampleOne_same v _ hk, hprev, prev_prevNoted_same, getF_congr hregs]
  rfl

theorem sensorView_sampleTd {s : State} {z k : Nat} (v : Int) (mv : Nat) (hz : z < 16) (hk : k < 12) :
    sensorView k (sampleTd s z v mv).2 = sensorView k s := by
  unfold sampleTd
  split
  · exact sensorView_sampleOne_ne v _ (.inr (by omega)) hk (by omega)
  · rfl

/-! ### What THM does after a sample (R503 to R509) -/

/-- The registers other than THM_FAIL and those of the sensors. -/
abbrev NotSensor (off : Nat) : Prop := off ≠ R.THM_FAIL ∧ (off < 0x140100 ∨ 0x140180 ≤ off)

/-- THM with its junction, its band and its force. -/
def thmBanded (s : State) : State := thmForce (thmBandShow (thmJunction s))

theorem thmBanded_regs (s : State) : RegsBut NotSensor s (thmBanded s) := by
  have hpba : ∀ k, NotSensor (0x38000 + 4 * (k % 64)) := fun k => by simp only [NotSensor, R.THM_FAIL]; omega
  have hperr : ∀ i, NotSensor (R.CHN_PERR i) := fun i => by simp only [NotSensor, R.CHN_PERR, R.THM_FAIL]; omega
  refine thmForce_regs _ hpba (by decide)
    (fun i => by simp only [NotSensor, R.QUE_STAT, R.THM_FAIL]; omega) (fun i => by simp only [NotSensor, R.QUE_RET, R.THM_FAIL]; omega)
    (by decide) (by decide) (by decide) hperr
    (fun i => by simp only [NotSensor, R.LNK_PSTAT, R.THM_FAIL]; omega) (fun i => by simp only [NotSensor, R.LNK_PMAP, R.THM_FAIL]; omega)
    (fun i => by simp only [NotSensor, R.LNK_PCNT, R.THM_FAIL]; omega) (fun i => by simp only [NotSensor, R.LNK_LCTL, R.THM_FAIL]; omega)
    (fun i => by simp only [NotSensor, R.LNK_LSTAT, R.THM_FAIL]; omega) (fun i => by simp only [NotSensor, R.LNK_LPRBS, R.THM_FAIL]; omega)
    (by decide) (by decide) (fun i => by simp only [NotSensor, R.SPK_SPKSTAT, R.THM_FAIL]; omega) (by decide)
    (fun i => by simp only [NotSensor, R.DRC_CHSTAT, R.THM_FAIL]; omega) (by decide) (by decide) (by decide) ?_
  exact thmBandShow_regs _ hpba (by decide) hperr (by decide) (by decide) (thmJunction_regs s (by decide) RegsBut.same)

/-- The throttle, once THM has looked at its sensors. -/
def thmSettled (s : State) (fails : Nat) : State :=
  let was := isSet s F.THM_STAT_THROT
  let thr := heatCause s || failHold s
  let s := stepDowns (if thr && !was then max 1 fails else fails) s
  let grid := if !thr then none else if was then s.thm.grid else some (upNs s + 2000000000)
  let up := if upOk s then s.thm.up.orElse (fun _ => some (upNs s + 10000000000)) else none
  let s := { s with thm := { s.thm with grid := grid, up := up } }
  thmStepShow (setF (setF s F.THM_STAT_THROT (b2n thr)) F.THM_STAT_FAILHOLD (b2n (failHold s)))

theorem thmEval_eq (s : State) (fails : Nat) : thmEval s fails = thmSettled (thmCopies (thmBanded s)) fails := by
  unfold thmEval thmSettled thmBanded
  rfl

theorem thmSettled_regs (s : State) (fails : Nat) : RegsBut NotSensor s (thmSettled s fails) := by
  unfold thmSettled
  refine thmStepShow_regs _ (by decide) (setF_regs _ _ _ (by decide) (setF_regs _ _ _ (by decide) ?_))
  exact stepDowns_regs (fun k => by simp only [NotSensor, R.THM_FAIL]; omega) (by decide) (by decide) (by decide) (by decide)
    (fun i => by simp only [NotSensor, R.CHN_PERR, R.THM_FAIL]; omega) (by decide) (by decide) _ s RegsBut.same

/-- The copies of the FAILED bits of the on-die sensors. -/
def odCopied (s : State) : State := onDie.foldl (fun s k => setF s (F.THM_OD_FAILED k) (b2n (thmFailed s k))) s

/-- The copies of the FAILED bits of the remote channels. -/
def tdCopied (s : State) : State := (List.range 16).foldl (fun s z => setF s (F.THM_TD_FAILED z) (b2n (thmFailed s (16 + z)))) s

theorem thmCopies_eq (s : State) : thmCopies s = tdCopied (odCopied s) := rfl

theorem word_tdCopied (s : State) {off : Nat} (h : off < 0x140140) : (tdCopied s).word off = s.word off :=
  foldl_same (fun u : State => u.word off) fun u z _ => word_setF_ne _ _ _ (by simp only; omega)

theorem fail_odCopied (s : State) : (odCopied s).word R.THM_FAIL = s.word R.THM_FAIL :=
  foldl_same (fun u : State => u.word R.THM_FAIL) fun u z _ => word_setF_ne _ _ _ (by simp only [R.THM_FAIL]; omega)

theorem temp_odCopied (s : State) (k : Nat) : getF (odCopied s) (F.THM_OD_TEMP k) = getF s (F.THM_OD_TEMP k) := by
  refine foldl_same (fun u : State => getF u (F.THM_OD_TEMP k)) fun u z _ => ?_
  by_cases h : (F.THM_OD_TEMP k).off = (F.THM_OD_FAILED z).off
  · exact getF_setF_beside u (F.THM_OD_FAILED z) (F.THM_OD_TEMP k) _ h rfl rfl
  · exact getF_setF_ne _ _ _ _ h

theorem failed_odCopied (s : State) {k : Nat} (hk : k < 12) : getF (odCopied s) (F.THM_OD_FAILED k) = b2n (thmFailed s k) := by
  have hbit : ∀ b : Bool, b2n b < 2 := by decide
  refine foldl_at (fun u : State => getF u (F.THM_OD_FAILED k)) (fun u => u.word R.THM_FAIL = s.word R.THM_FAIL)
    (v := fun _ => b2n (thmFailed s k)) (fun u z hu => ?_) (fun u z hz hne => ?_) (fun u hu => ?_) List.nodup_range
    (List.mem_range.2 hk) rfl
  · exact (word_setF_ne _ _ _ (by simp only [R.THM_FAIL]; omega)).trans hu
  · have hlt := List.mem_range.1 hz
    exact getF_setF_ne _ _ _ _ (by simp only; omega)
  · rw [show thmFailed s k = thmFailed u k from congrArg (fun w : Word => w.toNat.testBit k) hu.symm]
    exact getF_setF_read u (F.THM_OD_FAILED k) (hbit _) rfl

/-- What THM leaves of the sensors as it looks at them. -/
theorem thmEval_shows (s : State) (fails : Nat) : (thmEval s fails).word R.THM_FAIL = s.word R.THM_FAIL ∧
    ∀ k, k < 12 → getF (thmEval s fails) (F.THM_OD_TEMP k) = getF s (F.THM_OD_TEMP k) ∧
      getF (thmEval s fails) (F.THM_OD_FAILED k) = b2n (thmFailed s k) := by
  have hband := thmBanded_regs s
  have hset := thmSettled_regs (thmCopies (thmBanded s)) fails
  have hfail : (thmBanded s).word R.THM_FAIL = s.word R.THM_FAIL := hband _ (fun h => h.1 rfl)
  refine ⟨?_, fun k hk => ?_⟩
  · rw [thmEval_eq, hset R.THM_FAIL (fun h => h.1 rfl), thmCopies_eq, word_tdCopied _ (by decide), fail_odCopied, hfail]
  · have hod : ¬ NotSensor (R.THM_OD k) := by simp only [NotSensor, R.THM_OD, R.THM_FAIL]; omega
    have hword : (thmEval s fails).word (R.THM_OD k) = (odCopied (thmBanded s)).word (R.THM_OD k) :=
      (hset _ hod).trans (word_tdCopied _ (by simp only [R.THM_OD]; omega))
    have hget : ∀ f : Fld, f.off = R.THM_OD k → getF (thmEval s fails) f = getF (odCopied (thmBanded s)) f := fun f hf => by
      rw [getF, getF, hf, hword]
    rw [hget _ rfl, hget _ rfl, temp_odCopied, failed_odCopied _ hk, thmFailed, hfail, getF, hband _ hod]
    exact ⟨rfl, rfl⟩

/-! ### A sample of every sensor (R503, R504) -/

/-- The sample of on-die sensor `k`. -/
def odStep (od : List Int) (acc : Nat × State) (k : Nat) : Nat × State :=
  match od[k]? with | some v => (acc.1 + b2n (sampleOd acc.2 k v).1, (sampleOd acc.2 k v).2) | none => acc

/-- The sample of remote channel `z`. -/
def tdStep (td : List (Int × Nat)) (acc : Nat × State) (z : Nat) : Nat × State :=
  match td[z]? with | some v => (acc.1 + b2n (sampleTd acc.2 z v.1 v.2).1, (sampleTd acc.2 z v.1 v.2).2) | none => acc

/-- The samples are taken now. -/
def sampledNow (s : State) : State := { s with thm := { s.thm with sampledAt := upNs s } }

/-- The state and the count of failures after the samples. -/
def sampled (s : State) (od : List Int) (td : List (Int × Nat)) : Nat × State :=
  (List.range 16).foldl (tdStep td) (onDie.foldl (odStep od) (0, sampledNow s))

theorem sensorSample_due {s : State} (od : List Int) (td : List (Int × Nat)) (h : s.thm.sampledAt + 1000000 ≤ upNs s) :
    sensorSample s od td = thmEval (sampled s od td).2 (sampled s od td).1 := by
  unfold sensorSample
  exact if_neg (Nat.not_lt.2 h)

theorem sensorView_sampled {s : State} {od : List Int} {td : List (Int × Nat)} {k : Nat} {v : Int} (hk : k < 12) (hv : od[k]? = some v) :
    sensorView k (sampled s od td).2 = odView k v (sensorView k s) := by
  have htd : sensorView k (sampled s od td).2 = sensorView k (onDie.foldl (odStep od) (0, sampledNow s)).2 := by
    refine foldl_same (fun a : Nat × State => sensorView k a.2) fun a z hz => ?_
    unfold tdStep
    split
    · exact sensorView_sampleTd _ _ (List.mem_range.1 hz) hk
    · rfl
  refine htd.trans (foldl_at (fun a : Nat × State => sensorView k a.2) (fun _ => True) (v := odView k v) (fun _ _ h => h)
    (fun a n hn hne => ?_) (fun a _ => ?_) List.nodup_range (List.mem_range.2 hk) trivial)
  · unfold odStep
    split
    · exact sensorView_sampleOd_ne _ (List.mem_range.1 hn) hk hne
    · rfl
  · unfold odStep
    rw [hv]
    exact sensorView_sampleOd_same v hk

theorem exec_sensorSample {dt : Nat} {s : State} (h : blkOn (advance dt s) 0x14 = true) (od : List Int) (td : List (Int × Nat)) :
    exec (.sensorSample dt od td) s = .next (sensorSample (advance dt s) od td) := by
  show execSensorSample dt od td s = _
  rw [execSensorSample, whenOn_of_on h]

theorem odView_good {k : Nat} {v : Int} {f : Bool} {w : Nat} {p : Option (Nat × Int)} (h1 : -880 ≤ v) (h2 : v ≤ 2400)
    (h3 : ∀ e, p = some e → (v - e.2).natAbs ≤ 320) : odView k v (f, w, p) = (f, unsign 16 v, some (k, v)) := by
  refine if_neg ?_
  cases p with
  | none => simp [odBad, h1, h2]
  | some e => simp [odBad, h1, h2, h3 e rfl]

theorem odView_bad {k : Nat} {v : Int} {f : Bool} {w : Nat} {p : Option (Nat × Int)} (h : v < -880 ∨ 2400 < v) :
    odView k v (f, w, p) = (true, w, some (k, v)) := by
  refine if_pos ?_
  rcases h with h | h <;> simp [odBad, h]

theorem sensorSample_samples {dt : Nat} {od : List Int} {td : List (Int × Nat)} {k : Nat} {v : Int} {s : State}
    (hon : blkOn (advance dt s) 0x14 = true) (hk : k < 12) (hv : od[k]? = some v)
    (hdue : (advance dt s).thm.sampledAt + 1000000 ≤ upNs (advance dt s)) : ∃ t, exec (.sensorSample dt od td) s = .next t ∧
    (-880 ≤ v → v ≤ 2400 → (∀ e, (advance dt s).thm.prev.find? (fun e => e.1 == k) = some e → (v - e.2).natAbs ≤ 320) →
      getF t (F.THM_OD_TEMP k) = unsign 16 v ∧ thmFailed t k = thmFailed (advance dt s) k) ∧
    (v < -880 ∨ 2400 < v → thmFailed t k = true ∧ getF t (F.THM_OD_FAILED k) = 1 ∧
      getF t (F.THM_OD_TEMP k) = getF (advance dt s) (F.THM_OD_TEMP k)) := by
  refine ⟨_, exec_sensorSample hon od td, ?_⟩
  rw [sensorSample_due od td hdue]
  obtain ⟨hfail, hod⟩ := thmEval_shows (sampled (advance dt s) od td).2 (sampled (advance dt s) od td).1
  obtain ⟨htemp, hcopy⟩ := hod k hk
  have hview := sensorView_sampled (s := advance dt s) (td := td) hk hv
  rw [htemp, hcopy, thmFailed, hfail, ← thmFailed]
  refine ⟨fun h1 h2 h3 => ?_, fun h => ?_⟩
  · rw [sensorView, sensorView, odView_good h1 h2 h3] at hview
    exact ⟨congrArg (fun x => x.2.1) hview, congrArg (fun x => x.1) hview⟩
  · rw [sensorView, sensorView, odView_bad h] at hview
    have hset : thmFailed (sampled (advance dt s) od td).2 k = true := congrArg (fun x => x.1) hview
    rw [hset]
    exact ⟨rfl, rfl, congrArg (fun x => x.2.1) hview⟩

/-! ### The throttle (R507, R508) -/

/-- What a report of a step leaves as it was. -/
theorem stepReport_same (s : State) (up : Bool) : (stepReport s up).thm = s.thm ∧ (stepReport s up).cmp = s.cmp ∧
    getF (stepReport s up) F.LMP_CEIL_CEIL = getF s F.LMP_CEIL_CEIL := by
  have hk := stepReport_keeps s up (W0 := [.regs, .hif, .chn, .out]) (by decide) (by decide) (by decide) (by decide) Keeps.same
  refine ⟨hk.2.2 .thm (by decide), hk.2.2 .cmp (by decide), getF_of_regs ?_⟩
  exact stepReport_regs s up (fun k => by simp only [ne_eq]; omega) (by decide) (by decide) (by decide) (by decide)
    (fun i => by simp only [R.CHN_PERR, ne_eq]; omega) (by decide) RegsBut.same

/-- What a step of the throttle leaves, where the unit is a tile (`c` is the ceiling then), or a sender (`q` its quality step). -/
structure Stepped (s t : State) (c q : Nat) : Prop where
  thm : t.thm = s.thm
  ceil : isTile s = true → getF t F.LMP_CEIL_CEIL = c
  step : isSender s = true → isTile s = false → t.cmp.nextStep = q

/-- The quality step of the next frame. -/
def qualityAt (s : State) (q : Nat) : State := { s with cmp := { s.cmp with nextStep := q } }

theorem qualityAt_same (s : State) (q : Nat) : (qualityAt s q).thm = s.thm ∧ (qualityAt s q).cmp.nextStep = q := ⟨rfl, rfl⟩

theorem stepped_tile {s : State} {c q : Nat} (h : isTile s = true) (hc : c < 2 ^ 6) (up : Bool) :
    Stepped s (stepReport (setF s F.LMP_CEIL_CEIL c) up) c q := by
  obtain ⟨hthm, _, hceil⟩ := stepReport_same (setF s F.LMP_CEIL_CEIL c) up
  exact ⟨hthm.trans (setF_thm _ _ _), fun _ => hceil.trans (getF_setF_read s _ hc (by decide)), fun _ hf => by simp [h] at hf⟩

theorem stepped_sender {s : State} {c q : Nat} (h : isTile s = false) (up : Bool) : Stepped s (stepReport (qualityAt s q) up) c q := by
  obtain ⟨hthm, hcmp, _⟩ := stepReport_same (qualityAt s q) up
  obtain ⟨hthm', hq⟩ := qualityAt_same s q
  exact ⟨hthm.trans hthm', fun ht => by simp [h] at ht, fun _ _ => (congrArg CmpSt.nextStep hcmp).trans hq⟩

/-- A step down, where there is one. -/
theorem stepDown_steps (s : State) : Stepped s (stepDown s)
    (if getF s F.LMP_CEIL_CEIL ≤ getF s F.THM_CFG_CEILMIN then getF s F.LMP_CEIL_CEIL else getF s F.LMP_CEIL_CEIL - 1)
    (if s.cmp.nextStep < 6 then s.cmp.nextStep + 1 else s.cmp.nextStep) := by
  have hlt : getF s F.LMP_CEIL_CEIL < 2 ^ 6 := getF_lt s F.LMP_CEIL_CEIL
  unfold stepDown
  by_cases ht : isTile s = true
  · rw [if_pos ht]
    dsimp only
    split
    · exact ⟨rfl, fun _ => rfl, fun _ hf => by simp [ht] at hf⟩
    · exact stepped_tile ht (by omega) false
  · rw [if_neg ht]
    split
    next h =>
      rw [if_pos h.2]
      exact stepped_sender (by simpa using ht) false
    next h =>
      refine ⟨rfl, fun hf => absurd hf ht, fun hsend _ => ?_⟩
      rw [if_neg fun hq => h ⟨hsend, hq⟩]

/-- A step up, where there is one. -/
theorem stepUp_steps (s : State) : Stepped s (stepUp s)
    (if 32 ≤ getF s F.LMP_CEIL_CEIL then getF s F.LMP_CEIL_CEIL else getF s F.LMP_CEIL_CEIL + 1) (s.cmp.nextStep - 1) := by
  unfold stepUp
  by_cases ht : isTile s = true
  · rw [if_pos ht]
    dsimp only
    split
    · exact ⟨rfl, fun _ => rfl, fun _ hf => by simp [ht] at hf⟩
    · exact stepped_tile ht (by omega) true
  · rw [if_neg ht]
    split
    · exact stepped_sender (by simpa using ht) true
    next h =>
      refine ⟨rfl, fun hf => absurd hf ht, fun hsend _ => ?_⟩
      have hz : ¬ 0 < s.cmp.nextStep := fun hq => h ⟨hsend, hq⟩
      omega

/-- The next instant of the grid. -/
def gridAt (s : State) (g : Nat) : State := { s with thm := { s.thm with grid := some (g + 2000000000) } }

theorem gridAt_same (s : State) (g : Nat) : (gridAt s g).thm.grid = some (g + 2000000000) ∧ (gridAt s g).regs = s.regs ∧
    (gridAt s g).cmp = s.cmp ∧ heatCause (gridAt s g) = heatCause s := ⟨rfl, rfl, rfl, rfl⟩

theorem gridStep_due {s : State} {g : Nat} (hg : s.thm.grid = some g) (h : g ≤ upNs s) :
    gridStep s = if heatCause (gridAt s g) then stepDown (gridAt s g) else gridAt s g := by
  rw [gridStep, hg]
  exact if_pos h

/-- The next instant of recovery. -/
def upAt (s : State) (g : Nat) : State := { s with thm := { s.thm with up := some (g + 10000000000) } }

theorem upAt_same (s : State) (g : Nat) : (upAt s g).thm.up = some (g + 10000000000) ∧ (upAt s g).regs = s.regs ∧
    (upAt s g).cmp = s.cmp := ⟨rfl, rfl, rfl⟩

theorem upStep_due {s : State} {g : Nat} (hg : s.thm.up = some g) (h : g ≤ upNs s) : upStep s = stepUp (upAt s g) := by
  rw [upStep, hg]
  exact if_pos h

theorem exec_throttleStepDown {dt : Nat} {s : State} (h : blkOn (advance dt s) 0x14 = true) :
    exec (.throttleStepDown dt) s = .next (gridStep (advance dt s)) := by
  show execThrottleStepDown dt s = _
  rw [execThrottleStepDown, whenOn_of_on h]

theorem exec_throttleStepUp {dt : Nat} {s : State} (h : blkOn (advance dt s) 0x14 = true) :
    exec (.throttleStepUp dt) s = .next (upStep (advance dt s)) := by
  show execThrottleStepUp dt s = _
  rw [execThrottleStepUp, whenOn_of_on h]

theorem isSender_of_regs {s t : State} (h : t.regs = s.regs) : isSender t = isSender s ∧ isTile t = isTile s := by
  rw [isSender, isSender, isTile, isTile, strap, strap, getF_congr h]
  exact ⟨rfl, rfl⟩

theorem isSender_advance (n : Nat) (s : State) : isSender (advance n s) = isSender s := by
  have hw : (advance n s).word R.GLB_ROLE = s.word R.GLB_ROLE :=
    word_of_regs (advance_regs n s (fun k => by simp only [R.GLB_ROLE, ne_eq]; omega) (by decide) (by decide)
      (fun i => by simp only [R.CHN_PERR, R.GLB_ROLE, ne_eq]; omega) RegsBut.same)
  rw [isSender, isSender, strap, strap, getF, hw]
  rfl

theorem throttleStepDown_steps {dt g : Nat} {s : State} (hon : blkOn (advance dt s) 0x14 = true) (hg : (advance dt s).thm.grid = some g)
    (hdue : g ≤ upNs (advance dt s)) (hheat : heatCause (advance dt s) = true) :
    ∃ t, exec (.throttleStepDown dt) s = .next t ∧ t.thm.grid = some (g + 2000000000) ∧
      (isTile s = true → getF (advance dt s) F.THM_CFG_CEILMIN < getF (advance dt s) F.LMP_CEIL_CEIL →
        getF t F.LMP_CEIL_CEIL + 1 = getF (advance dt s) F.LMP_CEIL_CEIL) ∧
      (isTile s = true → getF (advance dt s) F.LMP_CEIL_CEIL ≤ getF (advance dt s) F.THM_CFG_CEILMIN →
        getF t F.LMP_CEIL_CEIL = getF (advance dt s) F.LMP_CEIL_CEIL) ∧
      (isSender s = true → isTile s = false →
        t.cmp.nextStep = if s.cmp.nextStep < 6 then s.cmp.nextStep + 1 else s.cmp.nextStep) := by
  obtain ⟨hgrid, hregs, hcmp, hcause⟩ := gridAt_same (advance dt s) g
  obtain ⟨hthm, hceil, hstep⟩ := stepDown_steps (gridAt (advance dt s) g)
  obtain ⟨hsend, htile⟩ := isSender_of_regs hregs
  rw [htile, isTile_advance, getF_congr hregs, getF_congr hregs] at hceil
  rw [hsend, htile, isTile_advance, isSender_advance, hcmp, (advance_same dt s .cmp (by decide) : _ = s.cmp)] at hstep
  refine ⟨_, exec_throttleStepDown hon, ?_⟩
  rw [gridStep_due hg hdue, if_pos (hcause.trans hheat), hthm]
  refine ⟨hgrid, fun ht hlt => ?_, fun ht hle => ?_, hstep⟩
  · rw [hceil ht, if_neg (Nat.not_le.2 hlt)]
    omega
  · rw [hceil ht, if_pos hle]

theorem throttleStepUp_steps {dt g : Nat} {s : State} (hon : blkOn (advance dt s) 0x14 = true) (hg : (advance dt s).thm.up = some g)
    (hdue : g ≤ upNs (advance dt s)) : ∃ t, exec (.throttleStepUp dt) s = .next t ∧ t.thm.up = some (g + 10000000000) ∧
      (isTile s = true → getF (advance dt s) F.LMP_CEIL_CEIL < 32 →
        getF t F.LMP_CEIL_CEIL = getF (advance dt s) F.LMP_CEIL_CEIL + 1) ∧
      (isTile s = true → 32 ≤ getF (advance dt s) F.LMP_CEIL_CEIL → getF t F.LMP_CEIL_CEIL = getF (advance dt s) F.LMP_CEIL_CEIL) ∧
      (isSender s = true → isTile s = false → t.cmp.nextStep = s.cmp.nextStep - 1) := by
  obtain ⟨hup, hregs, hcmp⟩ := upAt_same (advance dt s) g
  obtain ⟨hthm, hceil, hstep⟩ := stepUp_steps (upAt (advance dt s) g)
  obtain ⟨hsend, htile⟩ := isSender_of_regs hregs
  rw [htile, isTile_advance, getF_congr hregs] at hceil
  rw [hsend, htile, isTile_advance, isSender_advance, hcmp, (advance_same dt s .cmp (by decide) : _ = s.cmp)] at hstep
  refine ⟨_, exec_throttleStepUp hon, ?_⟩
  rw [upStep_due hg hdue, hthm]
  refine ⟨hup, fun ht hlt => ?_, fun ht hle => ?_, hstep⟩
  · rw [hceil ht, if_neg (Nat.not_le.2 hlt)]
  · rw [hceil ht, if_pos hle]

/-! ### Clearing of failures (R509) -/

/-- The row of THM_FAIL in the register map. -/
def thmFailRow : RegRow := ⟨"THM_FAIL", 0x140008, 1, 4, 1, 4, false,
  [⟨"OD", 0, 12, .w1c, 0, []⟩, ⟨"Reserved", 12, 4, .rsv, 0, []⟩, ⟨"TD", 16, 16, .w1c, 0, []⟩]⟩

theorem regAt_thmFail : regAt R.THM_FAIL = some thmFailRow := rfl

/-- The bits of the on-die sensors and of the remote channels make up THM_FAIL. -/
theorem thmFailed_od (s : State) {n : Nat} (h : n < 12) : thmFailed s n = (getF s F.THM_FAIL_OD).testBit n := by
  rw [getF, Fld.get, bits_testBit, decide_eq_true h, Bool.true_and, Nat.zero_add]
  rfl

theorem thmFailed_td (s : State) {n : Nat} (h : 16 ≤ n ∧ n < 32) : thmFailed s n = (getF s F.THM_FAIL_TD).testBit (n - 16) := by
  rw [getF, Fld.get, bits_testBit, decide_eq_true (by simp only; omega), Bool.true_and, show 16 + (n - 16) = n by omega]
  rfl

theorem testBit_get_ofNat {f : Fld} {k : Nat} (mask : Nat) (hk : k < f.width) (hf : f.lo + k < 32) :
    (f.get (BitVec.ofNat 32 mask)).testBit k = mask.testBit (f.lo + k) := by
  rw [Fld.get, bits_testBit, decide_eq_true hk, Bool.true_and, testBit_mod32 hf]

/-- A 1 written to a bit of THM_FAIL clears it. -/
theorem thmFailed_storeReg (s : State) (mask : Nat) {n : Nat} (h : IsSensor n) :
    thmFailed (storeReg s R.THM_FAIL (BitVec.ofNat 32 mask)) n = (thmFailed s n && !mask.testBit n) := by
  rcases h with h | h
  · have hod := getF_storeReg_acc regAt_thmFail (by decide) (by decide) (f := F.THM_FAIL_OD) (x := ⟨"OD", 0, 12, .w1c, 0, []⟩) (by decide)
      rfl (by decide) s (BitVec.ofNat 32 mask)
    rw [thmFailed_od _ h, thmFailed_od _ h, hod, Nat.testBit_mod_two_pow, decide_eq_true h, Bool.true_and, testBit_w1c,
      testBit_get_ofNat mask h (by simp only; omega), Nat.zero_add]
  · have htd := getF_storeReg_acc regAt_thmFail (by decide) (by decide) (f := F.THM_FAIL_TD) (x := ⟨"TD", 16, 16, .w1c, 0, []⟩) (by decide)
      rfl (by decide) s (BitVec.ofNat 32 mask)
    have hlt : n - 16 < 16 := by omega
    rw [thmFailed_td _ h, thmFailed_td _ h, htd, Nat.testBit_mod_two_pow, decide_eq_true hlt, Bool.true_and, testBit_w1c,
      testBit_get_ofNat mask hlt (by simp only; omega), show 16 + (n - 16) = n by omega]

theorem exec_thmFailClear {mask : Nat} {s : State} (h : WriteOk s R.THM_FAIL (BitVec.ofNat 32 mask)) :
    exec (.thmFailClear mask) s = .next (thmEval (storeReg s R.THM_FAIL (BitVec.ofNat 32 mask)) 0) := by
  refine congrArg Host.Outcome.next ((hostWrite_accepted (by decide) (by decide) h).trans ?_)
  rw [regEffect_14 _ _ _ (by decide), effectThm, if_pos (.inr (.inr rfl))]

theorem thmFailClear_clears {mask : Nat} {s : State} (h : WriteOk s R.THM_FAIL (BitVec.ofNat 32 mask)) :
    ∃ t, exec (.thmFailClear mask) s = .next t ∧
      ∀ n, n < 12 ∨ (16 ≤ n ∧ n < 32) → thmFailed t n = (thmFailed s n && !mask.testBit n) := by
  refine ⟨_, exec_thmFailClear h, fun n hn => ?_⟩
  rw [thmFailed, (thmEval_shows _ 0).1]
  exact thmFailed_storeReg s mask hn

/-- Settles O51. -/
theorem sensorsAndThrottling : Obligations.SensorsAndThrottling := by
  unfold Obligations.SensorsAndThrottling
  exact ⟨fun dt od td k v s _ => sensorSample_samples, fun dt g s _ => throttleStepDown_steps, fun dt g s _ => throttleStepUp_steps,
    fun mask s _ => thmFailClear_clears⟩

end Sys2Proof.Machine
end

section
/-! PROOF. Enabling, dimming, locator and self-test of a tile (R429, R440, R442). -/

set_option Elab.async false

namespace Sys2Proof.Machine

/-! ### Enabling and disabling (R442) -/

theorem exec_lmpEnable {v : Word} {s : State} (h : WriteOk s R.LMP_CTL (F.LMP_CTL_EN.put v 1)) (hoff : getF s F.LMP_CTL_EN = 0) :
    exec (.lmpEnable v) s = .next (lmpEnable (storeReg s R.LMP_CTL (F.LMP_CTL_EN.put v 1))) := by
  have hget : F.LMP_CTL_EN.get (F.LMP_CTL_EN.put v 1) = 1 := get_put_read _ _ (by decide) (by decide)
  refine congrArg Host.Outcome.next ((hostWrite_accepted (by decide) (by decide) h).trans ?_)
  rw [regEffect_11 _ _ _ (by decide), effectLmp, if_neg (by decide), if_pos rfl, rises, hget, hoff]
  rfl

theorem exec_lmpDisable {v : Word} {s : State} (h : WriteOk s R.LMP_CTL (F.LMP_CTL_EN.put v 0)) (hon : getF s F.LMP_CTL_EN = 1) :
    exec (.lmpDisable v) s = .next (lmpDisable (storeReg s R.LMP_CTL (F.LMP_CTL_EN.put v 0))) := by
  have hget : F.LMP_CTL_EN.get (F.LMP_CTL_EN.put v 0) = 0 := get_put_read _ _ (by decide) (by decide)
  refine congrArg Host.Outcome.next ((hostWrite_accepted (by decide) (by decide) h).trans ?_)
  rw [regEffect_11 _ _ _ (by decide), effectLmp, if_neg (by decide), if_pos rfl, rises, falls, hget, hon]
  rfl

theorem lmpEnable_same (s : State) : (lmpEnable s).regs = (setF s F.LMP_CTL_EN 1).regs ∧ (lmpEnable s).lmp.last = none ∧
    (lmpEnable s).lmp.front = none ∧ (lmpEnable s).lmp.miss = 0 ∧ (lmpEnable s).lmp.mode = s.lmp.mode := ⟨rfl, rfl, rfl, rfl, rfl⟩

theorem lmpEnable_enables {v : Word} {s : State} (h : WriteOk s R.LMP_CTL (F.LMP_CTL_EN.put v 1)) (hoff : getF s F.LMP_CTL_EN = 0) :
    ∃ t, exec (.lmpEnable v) s = .next t ∧ getF t F.LMP_CTL_EN = 1 ∧ t.lmp.last = none ∧ t.lmp.front = none ∧ t.lmp.miss = 0 ∧
      t.lmp.mode = s.lmp.mode := by
  obtain ⟨hregs, hlast, hfront, hmiss, hmode⟩ := lmpEnable_same (storeReg s R.LMP_CTL (F.LMP_CTL_EN.put v 1))
  refine ⟨_, exec_lmpEnable h hoff, ?_, hlast, hfront, hmiss, hmode.trans (congrArg LmpSt.mode (storeReg_same s _ _ .lmp (by decide)))⟩
  rw [getF_congr hregs]
  exact getF_setF_read _ _ (by decide) (by decide)

theorem engineStop_lamps (s : State) : (engineStop s).lmp = s.lmp ∧ getF (engineStop s) F.LMP_CTL_EN = getF s F.LMP_CTL_EN := by
  refine ⟨(engineStop_keeps s (W0 := [.regs, .hif, .queues, .sor, .srf, .ring, .out]) (by decide) (by decide) (by decide) (by decide)
    (by decide) (by decide) (by decide) Keeps.same).2.2 .lmp (by decide), congrArg F.LMP_CTL_EN.get (word_of_regs ?_)⟩
  exact engineStop_regs s (fun k => by simp only [ne_eq]; omega) (fun i => by simp only [R.QUE_STAT, ne_eq]; omega)
    (fun i => by simp only [R.QUE_RET, ne_eq]; omega)
    (by decide) (by decide) RegsBut.same

theorem mode_lampDrop (s : State) : (lampDrop s).lmp.mode = s.lmp.mode := by
  unfold lampDrop
  split <;> rfl

theorem lampCond_disabled {s : State} (h : getF s F.LMP_CTL_EN = 0) : lampCond s = false := by
  simp [lampCond, isSet, h]

theorem lmpDisable_disables {v : Word} {s : State} (h : WriteOk s R.LMP_CTL (F.LMP_CTL_EN.put v 0)) (hon : getF s F.LMP_CTL_EN = 1) :
    ∃ t, exec (.lmpDisable v) s = .next t ∧ getF t F.LMP_CTL_EN = 0 ∧ t.lmp.mode = s.lmp.mode ∧ t.lmp.lampEn = false := by
  have hlmp : (storeReg s R.LMP_CTL (F.LMP_CTL_EN.put v 0)).lmp = s.lmp := storeReg_same s _ _ .lmp (by decide)
  refine ⟨_, exec_lmpDisable h hon, ?_⟩
  generalize storeReg s R.LMP_CTL (F.LMP_CTL_EN.put v 0) = x at *
  obtain ⟨hl, hen⟩ := engineStop_lamps (lampDrop (setF x F.LMP_CTL_EN 0))
  have hz : getF (setF x F.LMP_CTL_EN 0) F.LMP_CTL_EN = 0 := getF_setF_read _ _ (by decide) (by decide)
  rw [lmpDisable, hl, hen, getF_lampDrop, mode_lampDrop, setF_lmp, hlmp, lampEn_lampDrop (lampCond_disabled hz)]
  exact ⟨hz, rfl, rfl⟩

/-! ### Dimming (R429) -/

/-- The row of LMP_DIM in the register map. -/
def lmpDimRow : RegRow := ⟨"LMP_DIM", 0x110020, 1, 4, 1, 4, false,
  [⟨"TARGET", 0, 16, .rw, 0, []⟩, ⟨"FRAMES", 16, 12, .rw, 0, []⟩, ⟨"Reserved", 28, 4, .rsv, 0, []⟩]⟩

theorem regAt_lmpDim : regAt R.LMP_DIM = some lmpDimRow := rfl

theorem storeReg_lmpDim (s : State) (v : Word) : getF (storeReg s R.LMP_DIM v) F.LMP_DIM_TARGET = F.LMP_DIM_TARGET.get v ∧
    getF (storeReg s R.LMP_DIM v) F.LMP_DIM_FRAMES = F.LMP_DIM_FRAMES.get v :=
  ⟨getF_storeReg_rw regAt_lmpDim (by decide) (by decide) (x := ⟨"TARGET", 0, 16, .rw, 0, []⟩) (by decide) rfl rfl (by decide) s v,
    getF_storeReg_rw regAt_lmpDim (by decide) (by decide) (x := ⟨"FRAMES", 16, 12, .rw, 0, []⟩) (by decide) rfl rfl (by decide) s v⟩

theorem exec_dimWrite {dt : Nat} {v : Word} {s : State} (h : WriteOk (advance dt s) R.LMP_DIM v) :
    exec (.dimWrite dt v) s = .next (dimArm (storeReg (advance dt s) R.LMP_DIM v)) := by
  refine congrArg Host.Outcome.next ((hostWrite_accepted (by decide) (by decide) h).trans ?_)
  rw [regEffect_11 _ _ _ (by decide), effectLmp, if_pos rfl]

/-- Has A_F0 of an armed ramp passed? -/
def dimLate (s : State) : Bool :=
  match modeOf s (getF s F.LMP_DIMFRM_F0) with
  | some (m, st) => commitPast s (getF s F.LMP_DIMFRM_F0) || decide (commitAt m st (getF s F.LMP_DIMFRM_F0) ≤ nowFine s)
  | none => false

/-- A ramp is armed. -/
def rampArmed (s : State) (f0 : Option Nat) : State :=
  { s with lmp := { s.lmp with dimNext := some ⟨0, getF s F.LMP_DIM_TARGET, getF s F.LMP_DIM_FRAMES, f0⟩ } }

theorem rampArmed_same (s : State) (f0 : Option Nat) : (rampArmed s f0).regs = s.regs ∧
    (rampArmed s f0).lmp.dimNext = some ⟨0, getF s F.LMP_DIM_TARGET, getF s F.LMP_DIM_FRAMES, f0⟩ := ⟨rfl, rfl⟩

/-- A ramp is armed, late or not. -/
def dimArmed (s : State) (late : Bool) : State :=
  let s := if late then setF s F.LMP_DIMNOW_LATE 1 else s
  rampArmed s (if late then some s.lmp.nextA else none)

theorem dimArm_armed (s : State) : dimArm s = dimArmed s (dimLate s) := rfl

theorem dimArm_late {s : State} (h : dimLate s = true) :
    dimArm s = rampArmed (setF s F.LMP_DIMNOW_LATE 1) (some (setF s F.LMP_DIMNOW_LATE 1).lmp.nextA) := by
  rw [dimArm_armed, h]
  rfl

theorem dimArm_early {s : State} (h : dimLate s = false) : dimArm s = rampArmed s none := by
  rw [dimArm_armed, h]
  rfl

/-- The modes that frames have stand where LMP, TIM and the cadence generator do. -/
theorem modeOf_congr {s t : State} (hl : t.lmp = s.lmp) (ht : t.tim = s.tim) (hg : getF t F.TIM_CFG_CADGEN = getF s F.TIM_CFG_CADGEN)
    (n : Nat) : modeOf t n = modeOf s n := by
  have hgen : tileGen t = tileGen s := by rw [tileGen, tileGen, ht, hg]
  have hstart : modeStart t = modeStart s := by rw [modeStart, modeStart, hgen, gen, gen, ht]
  rw [modeOf, modeOf, hl, hstart]

/-- The mode of the ramp's first frame, and the instants, are as the write of LMP_DIM finds them. -/
theorem modeOf_storeReg (s : State) (v : Word) (n : Nat) : modeOf (storeReg s R.LMP_DIM v) n = modeOf s n :=
  modeOf_congr (storeReg_same s _ v .lmp (by decide)) (storeReg_same s _ v .tim (by decide)) (getF_storeReg_ne s v (by decide)) n

theorem dimWrite_arms {dt : Nat} {v : Word} {s : State} (h : WriteOk (advance dt s) R.LMP_DIM v) :
    ∃ t, exec (.dimWrite dt v) s = .next t ∧
    (modeOf (advance dt s) (getF (advance dt s) F.LMP_DIMFRM_F0) = none →
      t.lmp.dimNext = some ⟨0, F.LMP_DIM_TARGET.get v, F.LMP_DIM_FRAMES.get v, none⟩) ∧
    (∀ m st, modeOf (advance dt s) (getF (advance dt s) F.LMP_DIMFRM_F0) = some (m, st) →
      commitAt m st (getF (advance dt s) F.LMP_DIMFRM_F0) ≤ nowFine (advance dt s) →
      t.lmp.dimNext = some ⟨0, F.LMP_DIM_TARGET.get v, F.LMP_DIM_FRAMES.get v, some s.lmp.nextA⟩ ∧
        getF t F.LMP_DIMNOW_LATE = 1) := by
  obtain ⟨htarget, hframes⟩ := storeReg_lmpDim (advance dt s) v
  have hmode := modeOf_storeReg (advance dt s) v (getF (advance dt s) F.LMP_DIMFRM_F0)
  have hf0 : getF (storeReg (advance dt s) R.LMP_DIM v) F.LMP_DIMFRM_F0 = getF (advance dt s) F.LMP_DIMFRM_F0 :=
    getF_storeReg_ne _ v (by decide)
  have hnow : nowFine (storeReg (advance dt s) R.LMP_DIM v) = nowFine (advance dt s) :=
    nowFine_congr (storeReg_same _ _ v .time (by decide)) (storeReg_same _ _ v .wraps (by decide))
  have hlmp : (storeReg (advance dt s) R.LMP_DIM v).lmp = s.lmp :=
    (storeReg_same _ _ v .lmp (by decide)).trans (advance_same dt s .lmp (by decide))
  refine ⟨_, exec_dimWrite h, fun hnone => ?_, fun m st hsome hpast => ?_⟩
  · have hearly : dimLate (storeReg (advance dt s) R.LMP_DIM v) = false := by
      rw [dimLate, hf0, hmode, hnone]
    rw [dimArm_early hearly, (rampArmed_same _ _).2, htarget, hframes]
  · have hlate : dimLate (storeReg (advance dt s) R.LMP_DIM v) = true := by
      rw [dimLate, hf0, hmode, hsome, hnow]
      simp only [hpast, decide_true, Bool.or_true]
    generalize storeReg (advance dt s) R.LMP_DIM v = x at *
    obtain ⟨hregs, hnext⟩ := rampArmed_same (setF x F.LMP_DIMNOW_LATE 1) (some (setF x F.LMP_DIMNOW_LATE 1).lmp.nextA)
    rw [dimArm_late hlate, hnext, getF_congr hregs, setF_lmp, hlmp, getF_setF_ne _ _ F.LMP_DIM_TARGET _ (by decide),
      getF_setF_ne _ _ F.LMP_DIM_FRAMES _ (by decide), htarget, hframes]
    exact ⟨rfl, getF_setF_read _ _ (by decide) (by decide)⟩

/-! ### The locator (R440) -/

/-- The locator is turned on at `f`, or off. -/
def locSet (s : State) (f : Option Nat) (on : Bool) : State :=
  setF { s with lmp := { s.lmp with locAt := f } } F.LMP_TPCFG_LOC (b2n on)

theorem locSet_same (s : State) (f : Option Nat) (on : Bool) : getF (locSet s f on) F.LMP_TPCFG_LOC = b2n on ∧
    (locSet s f on).lmp.locAt = f := by
  have hbit : ∀ b : Bool, b2n b < 2 := by decide
  exact ⟨getF_setF_read _ F.LMP_TPCFG_LOC (hbit on) (by decide), congrArg LmpSt.locAt (setF_lmp _ _ _)⟩

theorem exec_svcPress {dt : Nat} {s : State} (h : blkOn (advance dt s) 0x11 = true) :
    exec (.svcPress dt) s = .next (svcPress (advance dt s)) := by
  show execSvcPress dt s = _
  rw [execSvcPress, whenOn_of_on h]

theorem svcPress_turns {s : State} (hr : isReady s = true) (hself : getF s F.LMP_TPCFG_SELF = 0) :
    svcPress s = raise (locSet s (if isSet s F.LMP_TPCFG_LOC then none else some (upNs s)) (!isSet s F.LMP_TPCFG_LOC)) 0x1103
      [byte (b2n (!isSet s F.LMP_TPCFG_LOC))] :=
  if_neg (by simp [hr, isSet, hself])

theorem svcPress_presses {dt : Nat} {s : State} (hon : blkOn (advance dt s) 0x11 = true) (hr : isReady (advance dt s) = true)
    (hself : getF (advance dt s) F.LMP_TPCFG_SELF = 0) :
    ∃ t, exec (.svcPress dt) s = .next t ∧ getF t F.LMP_TPCFG_LOC = 1 - getF (advance dt s) F.LMP_TPCFG_LOC := by
  have hlt : getF (advance dt s) F.LMP_TPCFG_LOC < 2 := getF_lt _ F.LMP_TPCFG_LOC
  refine ⟨_, exec_svcPress hon, ?_⟩
  rw [svcPress_turns hr hself, (raise_eventSame _ _ _).getF (by decide), (locSet_same _ _ _).1, isSet]
  rcases (by omega : getF (advance dt s) F.LMP_TPCFG_LOC = 0 ∨ getF (advance dt s) F.LMP_TPCFG_LOC = 1) with h | h <;> rw [h] <;> rfl

theorem exec_locatorEnd {dt : Nat} {s : State} (h : blkOn (advance dt s) 0x11 = true) :
    exec (.locatorEnd dt) s = .next (locatorEnd (advance dt s)) := by
  show execLocatorEnd dt s = _
  rw [execLocatorEnd, whenOn_of_on h]

theorem locatorEnd_due {s : State} {f : Nat} (hf : s.lmp.locAt = some f) (h : f + 30000000000 ≤ upNs s) :
    locatorEnd s = locSet s none false := by
  rw [locatorEnd, hf]
  exact if_pos h

theorem locatorEnd_ends {dt f : Nat} {s : State} (hon : blkOn (advance dt s) 0x11 = true) (hf : (advance dt s).lmp.locAt = some f)
    (hdue : f + 30000000000 ≤ upNs (advance dt s)) :
    ∃ t, exec (.locatorEnd dt) s = .next t ∧ getF t F.LMP_TPCFG_LOC = 0 ∧ t.lmp.locAt = none := by
  refine ⟨_, exec_locatorEnd hon, ?_⟩
  rw [locatorEnd_due hf hdue]
  exact locSet_same _ none false

/-! ### The self-test (R440) -/

/-- The self-test is started at `f`, or ended. -/
def selfSet (s : State) (f : Option Nat) (on : Bool) : State :=
  setF { s with lmp := { s.lmp with selfAt := f } } F.LMP_TPCFG_SELF (b2n on)

theorem selfSet_same (s : State) (f : Option Nat) (on : Bool) : getF (selfSet s f on) F.LMP_TPCFG_SELF = b2n on ∧
    getF (selfSet s f on) F.LMP_TPCFG_LOC = getF s F.LMP_TPCFG_LOC ∧ (selfSet s f on).lmp.selfAt = f ∧
    (selfSet s f on).lmp.locAt = s.lmp.locAt := by
  have hbit : ∀ b : Bool, b2n b < 2 := by decide
  exact ⟨getF_setF_read _ F.LMP_TPCFG_SELF (hbit on) (by decide),
    getF_setF_beside _ F.LMP_TPCFG_SELF F.LMP_TPCFG_LOC _ rfl (by decide) (by decide), congrArg LmpSt.selfAt (setF_lmp _ _ _),
    (congrArg LmpSt.locAt (setF_lmp _ _ _)).trans rfl⟩

/-- Nothing is shown. -/
def showsGone (s : State) : State := { s with lmp := { s.lmp with shows := [] } }

/-- What the samples of a frame leave of locator and self-test. -/
structure ServiceSame (s t : State) : Prop where
  loc : t.lmp.locAt = s.lmp.locAt
  self : t.lmp.selfAt = s.lmp.selfAt
  word : t.word R.LMP_TPCFG = s.word R.LMP_TPCFG

theorem ServiceSame.trans {s t u : State} (h : ServiceSame s t) (k : ServiceSame t u) : ServiceSame s u :=
  ⟨k.loc.trans h.loc, k.self.trans h.self, k.word.trans h.word⟩

theorem serviceSame_refl (s : State) : ServiceSame s s := ⟨rfl, rfl, rfl⟩

theorem serviceSame_setF (s : State) {f : Fld} (v : Nat) (h : R.LMP_TPCFG ≠ f.off) : ServiceSame s (setF s f v) :=
  ⟨by rw [setF_lmp], by rw [setF_lmp], word_setF_ne s f v h⟩

/-- The curve of a load that is due is in use. -/
def curveUsed (s : State) (index : Nat) (words : List Nat) : State :=
  { s with lmp := { s.lmp with curves := s.lmp.curves.filter (fun c => c.1 != index) ++ [(index, words)] } }

theorem serviceSame_curveUsed (s : State) (index : Nat) (words : List Nat) : ServiceSame s (curveUsed s index words) := ⟨rfl, rfl, rfl⟩

theorem serviceSame_cmpDone (s : State) (it : Item) (c : Status) (badidx oframe : Nat) (dead : Bool) :
    ServiceSame s (cmpDone s it c badidx oframe dead) := by
  have hlmp : (cmpDone s it c badidx oframe dead).lmp = s.lmp :=
    (cmpDone_keeps s it c badidx oframe dead (W0 := [.regs, .hif, .queues, .sor, .ring, .out]) (by decide) (by decide) (by decide) (by decide)
      (by decide) (by decide) Keeps.same).2.2 .lmp (by decide)
  exact ⟨congrArg LmpSt.locAt hlmp, congrArg LmpSt.selfAt hlmp,
    word_of_regs (cmpDone_regs s it c badidx oframe dead (fun k => by simp only [R.LMP_TPCFG, ne_eq]; omega)
      (fun i => by simp only [R.QUE_STAT, R.LMP_TPCFG, ne_eq]; omega) (fun i => by simp only [R.QUE_RET, R.LMP_TPCFG, ne_eq]; omega)
      RegsBut.same)⟩

/-- The curve loads that wait are in use. -/
def curveStep (n : Nat) (s : State) (l : CurveLoad) : State := cmpDone (curveUsed s l.index l.words) l.item .ok 0xFFFF n false

/-- No curve load waits. -/
def loadsGone (s : State) : State := { s with lmp := { s.lmp with loads := [] } }

theorem curvesDue_eq (s : State) (n : Nat) : curvesDue s n = s.lmp.loads.foldl (curveStep n) (loadsGone s) := rfl

theorem serviceSame_foldl {α : Type} {f : State → α → State} (hf : ∀ t y, ServiceSame t (f t y)) (l : List α) (s : State) :
    ServiceSame s (l.foldl f s) :=
  foldl_holds (ServiceSame s) (fun t y h => h.trans (hf t y)) (serviceSame_refl s)

theorem serviceSame_curvesDue (s : State) (n : Nat) : ServiceSame s (curvesDue s n) := by
  have hgone : ServiceSame s (loadsGone s) := ⟨rfl, rfl, rfl⟩
  rw [curvesDue_eq]
  exact hgone.trans (serviceSame_foldl (fun t l => (serviceSame_curveUsed t _ _).trans (serviceSame_cmpDone _ _ _ _ _ _)) _ _)

/-- The dimming, once a commit instant has looked at it. -/
def dimLooked (s : State) (n : Nat) (d : Ramp) (next : Option Ramp) (late : Bool) : State :=
  let s := if late then setF s F.LMP_DIMNOW_LATE 1 else s
  setF { s with lmp := { s.lmp with dim := d.settle n, dimNext := next, dimFrame := n } } F.LMP_DIMNOW_DIM (d.value n)

theorem dimStep_looks (s : State) (n : Nat) : ∃ d next late, (dimStep s n).2 = dimLooked s n d next late := ⟨_, _, _, rfl⟩

/-- The dimming of a frame is settled. -/
def dimSettled (s : State) (n : Nat) (d : Ramp) (next : Option Ramp) : State :=
  { s with lmp := { s.lmp with dim := d.settle n, dimNext := next, dimFrame := n } }

theorem serviceSame_dimSettled (s : State) (n : Nat) (d : Ramp) (next : Option Ramp) : ServiceSame s (dimSettled s n d next) :=
  ⟨rfl, rfl, rfl⟩

theorem dimLooked_eq (s : State) (n : Nat) (d : Ramp) (next : Option Ramp) (late : Bool) : dimLooked s n d next late =
    setF (dimSettled (if late then setF s F.LMP_DIMNOW_LATE 1 else s) n d next) F.LMP_DIMNOW_DIM (d.value n) := rfl

theorem serviceSame_dimStep (s : State) (n : Nat) : ServiceSame s (dimStep s n).2 := by
  obtain ⟨d, next, late, heq⟩ := dimStep_looks s n
  have hlate : ServiceSame s (if late then setF s F.LMP_DIMNOW_LATE 1 else s) := by
    cases late with
    | true => exact serviceSame_setF s 1 (by decide)
    | false => exact serviceSame_refl s
  rw [heq, dimLooked_eq]
  exact (hlate.trans (serviceSame_dimSettled _ _ _ _)).trans (serviceSame_setF _ _ (by decide))

/-- The temperatures of the zones are shown. -/
def zonesShown (s : State) (zs : List (Nat × Bool)) : State :=
  (List.range 16).foldl (fun s z => setF (setF s (F.LMP_ZTEMP_TEMP z) (zs.getD z (0, false)).1) (F.LMP_ZTEMP_FAILED z)
    (b2n (zs.getD z (0, false)).2)) s

theorem serviceSame_zonesShown (s : State) (zs : List (Nat × Bool)) : ServiceSame s (zonesShown s zs) :=
  serviceSame_foldl (fun t z => (serviceSame_setF t _ (by simp only [R.LMP_TPCFG]; omega)).trans
    (serviceSame_setF _ _ (by simp only [R.LMP_TPCFG]; omega))) _ _

theorem sampleAll_samples (s : State) (n : Nat) : ∃ zs, (sampleAll s n).2 = (dimStep (zonesShown (curvesDue s n) zs) n).2 := ⟨_, rfl⟩

theorem serviceSame_sampleAll (s : State) (n : Nat) : ServiceSame s (sampleAll s n).2 := by
  obtain ⟨zs, heq⟩ := sampleAll_samples s n
  rw [heq]
  exact ((serviceSame_curvesDue s n).trans (serviceSame_zonesShown _ zs)).trans (serviceSame_dimStep _ n)

/-- An interval is placed behind the others. -/
def showAdded (s : State) (h : Show) : State := { s with lmp := { s.lmp with shows := s.lmp.shows ++ [h] } }

theorem selfShow_shows (s : State) (n : Nat) (disp : Int) : ∃ h, selfShow s n disp = showAdded (sampleAll s s.lmp.dimFrame).2 h := ⟨_, rfl⟩

theorem serviceSame_selfShow (s : State) (n : Nat) (disp : Int) : ServiceSame s (selfShow s n disp) := by
  obtain ⟨h, heq⟩ := selfShow_shows s n disp
  have hadd : ServiceSame (sampleAll s s.lmp.dimFrame).2 (showAdded (sampleAll s s.lmp.dimFrame).2 h) := ⟨rfl, rfl, rfl⟩
  rw [heq]
  exact (serviceSame_sampleAll s _).trans hadd

/-- The checks of the self-test read none of the test registers. -/
theorem selfFits_congr {s t : State} (h : ∀ f : Fld, f.off ≠ R.LMP_TPCFG → getF t f = getF s f) : selfFits t = selfFits s := by
  have hofs : setOfs t 0 0 = setOfs s 0 0 := h _ (by decide)
  have hwid : setWid t 0 0 = setWid s 0 0 := h _ (by decide)
  have hgmax : setGmax t 0 0 = setGmax s 0 0 := h _ (by decide)
  have hstep : setStep t 0 = setStep s 0 := h _ (by decide)
  have hd : scanD t = scanD s := congrArg (· + 1) (h F.SPK_SCAN0_DM1 (by decide))
  have hpasses : scanPasses t = scanPasses s := congrArg (· + 1) (h F.SPK_SCAN0_NPM1 (by decide))
  have hblank : scanBlank t = scanBlank s := congrArg (fun n => (n + 1) * 10) (h F.SPK_SCAN1_BLANKM1 (by decide))
  have hpw : scanPw t = scanPw s := congrArg (· * 10) (h F.SPK_SCAN1_PW (by decide))
  have hrate : getF t F.SPK_CTL_RATE = getF s F.SPK_CTL_RATE := h _ (by decide)
  have hprobe : getF t F.SPK_CTL_PROBEEN = getF s F.SPK_CTL_PROBEEN := h _ (by decide)
  have hon : spokeOn t = spokeOn s := funext fun n => congrArg (fun m => Nat.testBit m n) (h F.SPK_SPKEN_EN (by decide))
  have hnd : spokeNd t = spokeNd s :=
    funext fun n => congrArg (· + 1) (h (F.SPK_SPKCFG_NDM1 n) (by simp only [R.LMP_TPCFG, ne_eq]; omega))
  have hnch : spokeNch t = spokeNch s := funext fun n => h (F.SPK_SPKCFG_NCH n) (by simp only [R.LMP_TPCFG, ne_eq]; omega)
  have hbits : spokeBits t = spokeBits s := funext fun n => by rw [spokeBits, spokeBits, hnd, hnch, hd]
  rw [selfFits, selfFits, slotFits, slotFits, mneed, mneed, hofs, hwid, hgmax, hstep, hd, hpasses, hblank, hpw, hrate, hprobe, hon, hbits]

theorem exec_svcLongHold {dt : Nat} {s : State} (h : blkOn (advance dt s) 0x11 = true) :
    exec (.svcLongHold dt) s = .next (svcHold (advance dt s)) := by
  show execSvcLongHold dt s = _
  rw [execSvcLongHold, whenOn_of_on h]

/-- The state of a self-test that starts at `f`. -/
def selfStarted (s : State) (f : Nat) : State := selfSet (locSet s none false) (some f) true

theorem selfStarted_same (s : State) (f : Nat) : getF (selfStarted s f) F.LMP_TPCFG_SELF = 1 ∧
    getF (selfStarted s f) F.LMP_TPCFG_LOC = 0 ∧ (selfStarted s f).lmp.locAt = none ∧ (selfStarted s f).lmp.selfAt = some f := by
  obtain ⟨hself, hloc, hat, hlocAt⟩ := selfSet_same (locSet s none false) (some f) true
  obtain ⟨hzero, hnone⟩ := locSet_same s none false
  exact ⟨hself, hloc.trans hzero, hlocAt.trans hnone, hat⟩

/-- The self-test, with an interval of its own where no mode is in force. -/
def selfShown (s : State) (disp : Int) : State := if s.lmp.mode.isNone then selfShow (showsGone s) 0 disp else s

theorem serviceSame_selfShown (s : State) (disp : Int) : ServiceSame s (selfShown s disp) := by
  have hgone : ServiceSame s (showsGone s) := ⟨rfl, rfl, rfl⟩
  unfold selfShown
  split
  · exact hgone.trans (serviceSame_selfShow _ _ _)
  · exact serviceSame_refl s

theorem svcHold_eq (s : State) : svcHold s = if !isReady s ∨ isSet s F.LMP_TPCFG_SELF then s
    else if (locSet s none false).lmp.mode.isNone ∧ !selfFits (locSet s none false) then locSet s none false
    else selfShown (selfStarted s (upNs s)) (nowFine (selfStarted s (upNs s))) := rfl

theorem svcHold_starts {s : State} (hr : isReady s = true) (hself : getF s F.LMP_TPCFG_SELF = 0)
    (hfits : s.lmp.mode ≠ none ∨ selfFits s = true) : ∃ disp, svcHold s = selfShown (selfStarted s (upNs s)) disp := by
  have hmode : (locSet s none false).lmp.mode = s.lmp.mode := (congrArg LmpSt.mode (setF_lmp _ _ _)).trans rfl
  have hfit : selfFits (locSet s none false) = selfFits s := selfFits_congr fun f hf => getF_setF_ne _ _ _ _ hf
  have hgo : ¬ ((locSet s none false).lmp.mode.isNone ∧ !selfFits (locSet s none false)) := by
    rw [hmode, hfit]
    rintro ⟨hnone, hbad⟩
    rcases hfits with h | h
    · exact h (Option.isNone_iff_eq_none.1 hnone)
    · simp [h] at hbad
  rw [svcHold_eq, if_neg (by simp [hr, isSet, hself]), if_neg hgo]
  exact ⟨_, rfl⟩

theorem svcLongHold_starts {dt : Nat} {s : State} (hon : blkOn (advance dt s) 0x11 = true) (hr : isReady (advance dt s) = true)
    (hself : getF (advance dt s) F.LMP_TPCFG_SELF = 0) (hfits : (advance dt s).lmp.mode ≠ none ∨ selfFits (advance dt s) = true) :
    ∃ t, exec (.svcLongHold dt) s = .next t ∧ getF t F.LMP_TPCFG_SELF = 1 ∧ getF t F.LMP_TPCFG_LOC = 0 ∧ t.lmp.locAt = none ∧
      t.lmp.selfAt = some (upNs (advance dt s)) := by
  obtain ⟨disp, hstart⟩ := svcHold_starts hr hself hfits
  obtain ⟨hloc, hat, hword⟩ := serviceSame_selfShown (selfStarted (advance dt s) (upNs (advance dt s))) disp
  obtain ⟨hone, hzero, hnone, hsome⟩ := selfStarted_same (advance dt s) (upNs (advance dt s))
  refine ⟨_, exec_svcLongHold hon, ?_⟩
  rw [hstart, hloc, hat]
  exact ⟨(congrArg F.LMP_TPCFG_SELF.get hword).trans hone, (congrArg F.LMP_TPCFG_LOC.get hword).trans hzero, hnone, hsome⟩

theorem exec_selfTestEnd {dt : Nat} {s : State} (h : blkOn (advance dt s) 0x11 = true) :
    exec (.selfTestEnd dt) s = .next (selfTestEnd (advance dt s)) := by
  show execSelfTestEnd dt s = _
  rw [execSelfTestEnd, whenOn_of_on h]

/-- The self-test is over, with its intervals where no mode is in force. -/
def selfOver (s : State) : State :=
  setF { s with lmp := { s.lmp with selfAt := none, shows := if s.lmp.mode.isNone then [] else s.lmp.shows } } F.LMP_TPCFG_SELF 0

theorem selfOver_same (s : State) : getF (selfOver s) F.LMP_TPCFG_SELF = 0 ∧ (selfOver s).lmp.selfAt = none :=
  ⟨getF_setF_read _ _ (by decide) (by decide), congrArg LmpSt.selfAt (setF_lmp _ _ _)⟩

theorem selfTestEnd_due {s : State} {f : Nat} (hf : s.lmp.selfAt = some f) (h : f + 16000000000 ≤ upNs s) :
    selfTestEnd s = lampDrop (selfOver s) := by
  rw [selfTestEnd, hf]
  exact if_pos h

theorem selfAt_lampDrop (s : State) : (lampDrop s).lmp.selfAt = s.lmp.selfAt := by
  unfold lampDrop
  split <;> rfl

theorem selfTestEnd_ends {dt f : Nat} {s : State} (hon : blkOn (advance dt s) 0x11 = true) (hf : (advance dt s).lmp.selfAt = some f)
    (hdue : f + 16000000000 ≤ upNs (advance dt s)) :
    ∃ t, exec (.selfTestEnd dt) s = .next t ∧ getF t F.LMP_TPCFG_SELF = 0 ∧ t.lmp.selfAt = none := by
  refine ⟨_, exec_selfTestEnd hon, ?_⟩
  rw [selfTestEnd_due hf hdue, getF_lampDrop, selfAt_lampDrop]
  exact selfOver_same _

/-- Settles O48. -/
theorem tileControls : Obligations.TileControls := by
  unfold Obligations.TileControls
  exact ⟨fun v s _ => lmpEnable_enables, fun v s _ => lmpDisable_disables, fun dt v s => dimWrite_arms, fun dt s => svcPress_presses,
    fun dt s _ => svcLongHold_starts, fun dt f s => locatorEnd_ends, fun dt f s => selfTestEnd_ends⟩

end Sys2Proof.Machine
end

section
/-! PROOF. Bring-up, polling, reload and absence of spokes and their drivers (R462, R466 to R468, R475). -/

set_option Elab.async false

namespace Sys2Proof.Machine

/-! ### The records of the spokes -/

theorem spoke_setSpoke_same (s : State) (n : Nat) (x : SpokeSt) : spoke (setSpoke s n x) n = x := tget_tset_same _ _ _ _

theorem spoke_setSpoke_ne (s : State) {n m : Nat} (x : SpokeSt) (h : m ≠ n) : spoke (setSpoke s n x) m = spoke s m :=
  tget_tset_ne _ _ _ _ h

theorem spoke_congr {s t : State} (h : t.spk = s.spk) (n : Nat) : spoke t n = spoke s n := by rw [spoke, spoke, h]

theorem setSpoke_same (s : State) (n : Nat) (x : SpokeSt) : (setSpoke s n x).regs = s.regs ∧ (setSpoke s n x).out = s.out ∧
    (setSpoke s n x).lmp = s.lmp ∧ (setSpoke s n x).up = s.up := ⟨rfl, rfl, rfl, rfl⟩

theorem spokeSend_same (s : State) (n : Nat) (ps : List Bytes) : (spokeSend s n ps).regs = s.regs ∧ (spokeSend s n ps).spk = s.spk ∧
    (spokeSend s n ps).lmp = s.lmp ∧ (spokeSend s n ps).up = s.up ∧
    (spokeSend s n ps).out = s.out ++ ps.map (fun p => .spoke n p) := ⟨rfl, rfl, rfl, rfl, rfl⟩

/-! ### READs (R462) -/

/-- The first READ of a spoke has been asked for. -/
def asked (s : State) (n p r u : Nat) : State :=
  spokeSend (setSpoke s n { spoke s n with live := true, askedAt := upNs s, used := u }) n (readPackets p r)

theorem asked_same (s : State) (n p r u : Nat) : (asked s n p r u).regs = s.regs ∧ (∀ m, m ≠ n → spoke (asked s n p r u) m = spoke s m) ∧
    spoke (asked s n p r u) n = { spoke s n with live := true, askedAt := upNs s, used := u } := by
  obtain ⟨_, hspk, _⟩ := spokeSend_same (setSpoke s n { spoke s n with live := true, askedAt := upNs s, used := u }) n (readPackets p r)
  exact ⟨rfl, fun m hm => (spoke_congr hspk m).trans (spoke_setSpoke_ne s _ hm),
    (spoke_congr hspk n).trans (spoke_setSpoke_same s n _)⟩

theorem askRead_eq (s : State) (n : Nat) : askRead s n = match (spoke s n).reads with
    | (p, r) :: _ => match (if (spoke s n).live then none else windowFit s n (readBits s p r)) with
      | some u => asked s n p r u
      | none => s
    | [] => s := rfl

theorem askRead_cases (s : State) (n : Nat) : askRead s n = s ∨ ∃ p r u, askRead s n = asked s n p r u := by
  rw [askRead_eq]
  split
  · split
    · exact .inr ⟨_, _, _, rfl⟩
    · exact .inl rfl
  · exact .inl rfl

/-- What stands of a spoke while its READs are asked for. -/
structure ReadsSame (s t : State) (n : Nat) : Prop where
  regs : t.regs = s.regs
  others : ∀ m, m ≠ n → spoke t m = spoke s m
  reads : (spoke t n).reads = (spoke s n).reads
  found : (spoke t n).found = (spoke s n).found
  tries : (spoke t n).tries = (spoke s n).tries

theorem askRead_reads (s : State) (n : Nat) : ReadsSame s (askRead s n) n := by
  rcases askRead_cases s n with heq | ⟨p, r, u, heq⟩ <;> rw [heq]
  · exact ⟨rfl, fun _ _ => rfl, rfl, rfl, rfl⟩
  · obtain ⟨hregs, hne, hsame⟩ := asked_same s n p r u
    exact ⟨hregs, hne, by rw [hsame], by rw [hsame], by rw [hsame]⟩

/-- A spoke outside RUN has no window to wait for. -/
theorem askRead_asks {s : State} {n p r : Nat} {rest : List (Nat × Nat)} (hreads : (spoke s n).reads = (p, r) :: rest)
    (hlive : (spoke s n).live = false) (hrun : spokeState s n ≠ spokeRun) : askRead s n = asked s n p r (spoke s n).used := by
  have hfit : windowFit s n (readBits s p r) = some (spoke s n).used := if_pos (.inl hrun)
  rw [askRead_eq, hreads, hlive]
  dsimp only
  rw [if_neg (by decide), hfit]

/-! ### WRITEs (R460) -/

/-- A WRITE packet has been sent. -/
def written (s : State) (n u : Nat) (b : Bytes) : State := spokeSend (setSpoke s n { spoke s n with used := u }) n [b]

/-- A WRITE packet waits. -/
def writeWaits (s : State) (n : Nat) (b : Bytes) : State := setSpoke s n { spoke s n with writes := (spoke s n).writes ++ [b] }

theorem written_same (s : State) (n u : Nat) (b : Bytes) : (written s n u b).regs = s.regs ∧ (written s n u b).lmp = s.lmp ∧
    (∀ m, m ≠ n → spoke (written s n u b) m = spoke s m) ∧ spoke (written s n u b) n = { spoke s n with used := u } ∧
    (written s n u b).out = s.out ++ [.spoke n b] := by
  obtain ⟨_, hspk, _⟩ := spokeSend_same (setSpoke s n { spoke s n with used := u }) n [b]
  exact ⟨rfl, rfl, fun m hm => (spoke_congr hspk m).trans (spoke_setSpoke_ne s _ hm),
    (spoke_congr hspk n).trans (spoke_setSpoke_same s n _), rfl⟩

theorem writeWaits_same (s : State) (n : Nat) (b : Bytes) : (writeWaits s n b).regs = s.regs ∧ (writeWaits s n b).lmp = s.lmp ∧
    (∀ m, m ≠ n → spoke (writeWaits s n b) m = spoke s m) ∧
    spoke (writeWaits s n b) n = { spoke s n with writes := (spoke s n).writes ++ [b] } ∧ (writeWaits s n b).out = s.out :=
  ⟨rfl, rfl, fun _ hm => spoke_setSpoke_ne s _ hm, spoke_setSpoke_same s n _, rfl⟩

theorem sendWrite_eq (s : State) (n : Nat) (b : Bytes) : sendWrite s n b =
    match (if (spoke s n).writes.isEmpty then windowFit s n (8 * b.length) else none) with
    | some u => written s n u b
    | none => writeWaits s n b := rfl

theorem sendWrite_cases (s : State) (n : Nat) (b : Bytes) : (∃ u, sendWrite s n b = written s n u b) ∨ sendWrite s n b = writeWaits s n b := by
  rw [sendWrite_eq]
  split
  · exact .inl ⟨_, rfl⟩
  · exact .inr rfl

/-- Where nothing waits and no slot is placed, a WRITE packet is sent at once. -/
theorem sendWrite_sends {s : State} {n : Nat} (b : Bytes) (hw : (spoke s n).writes = []) (hshows : s.lmp.shows = []) :
    sendWrite s n b = written s n (spoke s n).used b := by
  have hfit : windowFit s n (8 * b.length) = some (spoke s n).used := if_pos (.inr (by rw [hshows]; rfl))
  rw [sendWrite_eq, hw, if_pos List.isEmpty_nil, hfit]

theorem sendWrite_reads (s : State) (n : Nat) (b : Bytes) : ReadsSame s (sendWrite s n b) n := by
  rcases sendWrite_cases s n b with ⟨u, heq⟩ | heq <;> rw [heq]
  · obtain ⟨hregs, _, hne, hsame, _⟩ := written_same s n u b
    exact ⟨hregs, hne, by rw [hsame], by rw [hsame], by rw [hsame]⟩
  · obtain ⟨hregs, _, hne, hsame, _⟩ := writeWaits_same s n b
    exact ⟨hregs, hne, by rw [hsame], by rw [hsame], by rw [hsame]⟩

theorem ReadsSame.trans {s t u : State} {n : Nat} (h : ReadsSame s t n) (k : ReadsSame t u n) : ReadsSame s u n :=
  ⟨k.regs.trans h.regs, fun m hm => (k.others m hm).trans (h.others m hm), k.reads.trans h.reads, k.found.trans h.found,
    k.tries.trans h.tries⟩

theorem readsSame_refl (s : State) (n : Nat) : ReadsSame s s n := ⟨rfl, fun _ _ => rfl, rfl, rfl, rfl⟩

theorem readsSame_setSpoke {s : State} {n : Nat} {x : SpokeSt} (hreads : x.reads = (spoke s n).reads) (hfound : x.found = (spoke s n).found)
    (htries : x.tries = (spoke s n).tries) : ReadsSame s (setSpoke s n x) n := by
  have hx := spoke_setSpoke_same s n x
  exact ⟨rfl, fun m hm => spoke_setSpoke_ne s x hm, by rw [hx, hreads], by rw [hx, hfound], by rw [hx, htries]⟩

theorem sendWrites_reads (s : State) (n : Nat) : ReadsSame s (sendWrites s n) n :=
  foldl_holds (fun t => ReadsSame s t n) (fun t b h => h.trans (sendWrite_reads t n b)) (readsSame_setSpoke rfl rfl rfl)

theorem pump_reads (s : State) (n : Nat) : ReadsSame s (pump s n) n := (sendWrites_reads s n).trans (askRead_reads _ n)

/-! ### Enabling and disabling (R466, R475) -/

theorem exec_spkEnable {v : Word} {s : State} (h : WriteOk s R.SPK_CTL (F.SPK_CTL_EN.put v 1)) (hoff : getF s F.SPK_CTL_EN = 0) :
    exec (.spkEnable v) s = .next (spkEnable (storeReg s R.SPK_CTL (F.SPK_CTL_EN.put v 1))) := by
  have hget : F.SPK_CTL_EN.get (F.SPK_CTL_EN.put v 1) = 1 := get_put_read _ _ (by decide) (by decide)
  refine congrArg Host.Outcome.next ((hostWrite_accepted (by decide) (by decide) h).trans ?_)
  rw [regEffect_12 _ _ _ (by decide), effectSpk, if_pos rfl, rises, hget, hoff]
  rfl

theorem exec_spkDisable {v : Word} {s : State} (h : WriteOk s R.SPK_CTL (F.SPK_CTL_EN.put v 0)) (hon : getF s F.SPK_CTL_EN = 1) :
    exec (.spkDisable v) s = .next (spkDisable (storeReg s R.SPK_CTL (F.SPK_CTL_EN.put v 0))) := by
  have hget : F.SPK_CTL_EN.get (F.SPK_CTL_EN.put v 0) = 0 := get_put_read _ _ (by decide) (by decide)
  refine congrArg Host.Outcome.next ((hostWrite_accepted (by decide) (by decide) h).trans ?_)
  rw [regEffect_12 _ _ _ (by decide), effectSpk, if_pos rfl, rises, falls, hget, hon]
  rfl

/-- The registers of a spoke show its bring-up. -/
def bringShown (s : State) (n : Nat) : State :=
  setF (setF (setF (setF s (F.SPK_SPKSTAT_STATE n) spokeUp) (F.SPK_SPKSTAT_CODE n) 0) (F.SPK_SPKSTAT_NFOUND n) 0) (F.SPK_SPKSTAT_DCRC n) 0

theorem bringShown_shows (s : State) (n : Nat) : spokeState (bringShown s n) n = spokeUp ∧ getF (bringShown s n) (F.SPK_SPKSTAT_CODE n) = 0 := by
  constructor
  · refine (getF_setF_beside _ (F.SPK_SPKSTAT_DCRC n) (F.SPK_SPKSTAT_STATE n) _ rfl rfl rfl).trans ?_
    refine (getF_setF_beside _ (F.SPK_SPKSTAT_NFOUND n) (F.SPK_SPKSTAT_STATE n) _ rfl rfl rfl).trans ?_
    refine (getF_setF_beside _ (F.SPK_SPKSTAT_CODE n) (F.SPK_SPKSTAT_STATE n) _ rfl rfl rfl).trans ?_
    exact getF_setF_read _ (F.SPK_SPKSTAT_STATE n) (show (1 : Nat) < 2 ^ 2 by decide) rfl
  · refine (getF_setF_beside _ (F.SPK_SPKSTAT_DCRC n) (F.SPK_SPKSTAT_CODE n) _ rfl rfl rfl).trans ?_
    refine (getF_setF_beside _ (F.SPK_SPKSTAT_NFOUND n) (F.SPK_SPKSTAT_CODE n) _ rfl rfl rfl).trans ?_
    exact getF_setF_read _ (F.SPK_SPKSTAT_CODE n) (show (0 : Nat) < 2 ^ 8 by decide) rfl

theorem word_bringShown_ne (s : State) {n off : Nat} (h : off ≠ R.SPK_SPKSTAT n) : (bringShown s n).word off = s.word off := by
  rw [bringShown, word_setF_ne _ _ _ h, word_setF_ne _ _ _ h, word_setF_ne _ _ _ h, word_setF_ne _ _ _ h]

/-- The bring-up of a spoke shows in its registers alone. -/
theorem bringUp_brings (s : State) (n : Nat) :
    ∃ x, bringUp s n = askRead (spokeSend (setSpoke (bringShown s n) n x) n [packEnum]) n := ⟨_, rfl⟩

theorem regs_bringUp (s : State) (n : Nat) : (bringUp s n).regs = (bringShown s n).regs := by
  obtain ⟨x, heq⟩ := bringUp_brings s n
  rw [heq, (askRead_reads _ n).regs, (spokeSend_same _ _ _).1, (setSpoke_same _ _ _).1]

theorem word_regs {s t : State} (h : t.regs = s.regs) (off : Nat) : t.word off = s.word off := by rw [State.word, State.word, h]

theorem bringUp_starts (s : State) (n : Nat) : spokeState (bringUp s n) n = spokeUp ∧ getF (bringUp s n) (F.SPK_SPKSTAT_CODE n) = 0 := by
  rw [spokeState, getF_congr (regs_bringUp s n), getF_congr (regs_bringUp s n)]
  exact bringShown_shows s n

theorem word_bringUp_ne (s : State) {n off : Nat} (h : off ≠ R.SPK_SPKSTAT n) : (bringUp s n).word off = s.word off :=
  (word_regs (regs_bringUp s n) off).trans (word_bringShown_ne s h)

/-- A spoke that is configured is brought up. -/
def enableStep (s : State) (n : Nat) : State := if spokeOn s n then bringUp s n else s

/-- SPK is enabled, and its poll counts from now. -/
def spkStarted (s : State) : State := { setF s F.SPK_CTL_EN 1 with spk := { s.spk with polledAt := upNs s } }

theorem spkEnable_eq (s : State) : spkEnable s = (List.range 32).foldl enableStep (spkStarted s) := rfl

theorem regs_spkStarted (s : State) : (spkStarted s).regs = (setF s F.SPK_CTL_EN 1).regs := rfl

theorem word_enableStep_ne (s : State) {n off : Nat} (h : off ≠ R.SPK_SPKSTAT n) : (enableStep s n).word off = s.word off := by
  unfold enableStep
  split
  · exact word_bringUp_ne s h
  · rfl

theorem spokeOn_word {s t : State} (h : t.word R.SPK_SPKEN = s.word R.SPK_SPKEN) (n : Nat) : spokeOn t n = spokeOn s n :=
  congrArg (fun w => (F.SPK_SPKEN_EN.get w).testBit n) h

theorem spken_ne (n : Nat) : R.SPK_SPKEN ≠ R.SPK_SPKSTAT n := by simp only [R.SPK_SPKEN, R.SPK_SPKSTAT]; omega

theorem spkstat_ne {n m : Nat} (hn : n < 32) (hm : m < 32) (h : m ≠ n) : R.SPK_SPKSTAT n ≠ R.SPK_SPKSTAT m := by
  simp only [R.SPK_SPKSTAT, ne_eq]
  omega

theorem spokeState_word {s t : State} {n : Nat} (h : t.word (R.SPK_SPKSTAT n) = s.word (R.SPK_SPKSTAT n)) :
    spokeState t n = spokeState s n := congrArg (F.SPK_SPKSTAT_STATE n).get h

theorem spkEnable_brings (s : State) {n : Nat} (hn : n < 32) (h : spokeOn s n = true) : spokeState (spkEnable s) n = spokeUp := by
  have hstart : (spkStarted s).word R.SPK_SPKEN = s.word R.SPK_SPKEN :=
    (word_regs (regs_spkStarted s) _).trans (word_setF_ne _ _ _ (by decide))
  rw [spkEnable_eq]
  refine foldl_at (fun u : State => spokeState u n) (fun u => u.word R.SPK_SPKEN = s.word R.SPK_SPKEN) (v := fun _ => spokeUp)
    (fun u m hu => (word_enableStep_ne u (spken_ne m)).trans hu) (fun u m hm hne => ?_) (fun u hu => ?_) List.nodup_range
    (List.mem_range.2 hn) hstart
  · exact spokeState_word (word_enableStep_ne u (spkstat_ne hn (List.mem_range.1 hm) hne))
  · rw [enableStep, if_pos ((spokeOn_word hu n).trans h)]
    exact (bringUp_starts u n).1

theorem spkEnable_enables {v : Word} {s : State} (h : WriteOk s R.SPK_CTL (F.SPK_CTL_EN.put v 1)) (hoff : getF s F.SPK_CTL_EN = 0) :
    ∃ t, exec (.spkEnable v) s = .next t ∧ getF t F.SPK_CTL_EN = 1 ∧ ∀ n, n < 32 → spokeOn s n = true → spokeState t n = spokeUp := by
  refine ⟨_, exec_spkEnable h hoff, ?_, fun n hn hon => spkEnable_brings _ hn ?_⟩
  · have hword : (spkEnable (storeReg s R.SPK_CTL (F.SPK_CTL_EN.put v 1))).word R.SPK_CTL =
        (spkStarted (storeReg s R.SPK_CTL (F.SPK_CTL_EN.put v 1))).word R.SPK_CTL :=
      foldl_same (fun u : State => u.word R.SPK_CTL) fun u m _ => word_enableStep_ne u (by simp only [R.SPK_CTL, R.SPK_SPKSTAT, ne_eq]; omega)
    rw [getF, hword, ← getF, getF_congr (regs_spkStarted _)]
    exact getF_setF_read _ _ (by decide) (by decide)
  · rw [spokeOn_word (word_storeReg_ne s _ (by decide))]
    exact hon

theorem regs_spokesDark (s : State) : (spokesDark s).regs = (spokesShownOff (spokesGone s)).regs := by
  obtain ⟨_, _, _, _, _, _, hregs⟩ := scanOff_same (spokesShownOff (spokesGone s))
  rw [spokesDark_eq, hregs]

theorem spokeState_shownOff (s : State) {n : Nat} (hn : n < 32) : spokeState (spokesShownOff s) n = spokeOff :=
  foldl_at (fun u : State => spokeState u n) (fun _ => True) (v := fun _ => spokeOff) (fun _ _ h => h)
    (fun u m hm hne => spokeState_word (word_setF_ne _ _ _ (spkstat_ne hn (List.mem_range.1 hm) hne)))
    (fun u _ => getF_setF_read u (F.SPK_SPKSTAT_STATE n) (show (0 : Nat) < 2 ^ 2 by decide) rfl) List.nodup_range (List.mem_range.2 hn) trivial

theorem spkDisable_disables {v : Word} {s : State} (h : WriteOk s R.SPK_CTL (F.SPK_CTL_EN.put v 0)) (hon : getF s F.SPK_CTL_EN = 1) :
    ∃ t, exec (.spkDisable v) s = .next t ∧ getF t F.SPK_CTL_EN = 0 ∧ t.spk.emission = none ∧ t.spk.latched = none ∧
      ∀ n, n < 32 → spokeState t n = spokeOff := by
  refine ⟨_, exec_spkDisable h hon, ?_⟩
  generalize storeReg s R.SPK_CTL (F.SPK_CTL_EN.put v 0) = x
  obtain ⟨_, _, _, hem, hlatch, _⟩ := scanOff_same (spokesShownOff (spokesGone (setF x F.SPK_CTL_EN 0)))
  obtain ⟨_, _, hgone⟩ := spokesGone_same (setF x F.SPK_CTL_EN 0)
  have hctl : (spokesShownOff (spokesGone (setF x F.SPK_CTL_EN 0))).word R.SPK_CTL = (spokesGone (setF x F.SPK_CTL_EN 0)).word R.SPK_CTL :=
    foldl_same (fun u : State => u.word R.SPK_CTL) fun u m _ => word_setF_ne _ _ _ (by simp only [R.SPK_CTL, ne_eq]; omega)
  refine ⟨?_, hem, hlatch, fun n hn => ?_⟩
  · rw [spkDisable, getF_congr (regs_spokesDark _), getF, hctl, ← getF, getF_congr hgone]
    exact getF_setF_read _ _ (by decide) (by decide)
  · rw [spkDisable, spokeState, getF_congr (regs_spokesDark _)]
    exact spokeState_shownOff _ hn

/-! ### Bring-up again (R466) -/

theorem blkOn_of_spkOn {s : State} (h : spkOn s = true) : blkOn s 0x12 = true := by
  simp only [spkOn, Bool.and_eq_true] at h
  exact h.1.1

theorem exec_spokeBringupRetry {dt n : Nat} {s : State} (h : spkOn (advance dt s) = true) :
    exec (.spokeBringupRetry dt n) s = .next (bringUpRetry (advance dt s) n) := by
  show execSpokeBringupRetry dt n s = _
  rw [execSpokeBringupRetry, whenOn_of_on (blkOn_of_spkOn h)]

theorem spokeBringupRetry_retries {dt n : Nat} {s : State} (hon : spkOn (advance dt s) = true)
    (hfault : spokeState (advance dt s) n = spokeFault) (hdue : (spoke (advance dt s) n).faultAt + 1000000000 ≤ upNs (advance dt s)) :
    ∃ t, exec (.spokeBringupRetry dt n) s = .next t ∧ spokeState t n = spokeUp ∧ getF t (F.SPK_SPKSTAT_CODE n) = 0 := by
  refine ⟨_, exec_spokeBringupRetry hon, ?_⟩
  rw [bringUpRetry, if_pos ⟨hon, hfault, hdue⟩]
  exact bringUp_starts _ n

/-! ### The poll (R467) -/

/-- The poll of the drivers of spoke `n`. -/
def pollStep (s : State) (n : Nat) : State :=
  if spokeState s n = spokeRun then
    pump (setSpoke s n { spoke s n with reads := (spoke s n).reads ++
      (if (spoke s n).reads.any (fun r => r.2 == 6) then [] else (List.range (spokeNd s n)).map (fun p => (p, 6))) }) n
  else s

/-- The poll is under way. -/
def pollNoted (s : State) : State := { s with spk := { s.spk with polledAt := upNs s } }

theorem pollNoted_same (s : State) : (pollNoted s).regs = s.regs ∧ ∀ n, spoke (pollNoted s) n = spoke s n := ⟨rfl, fun _ => rfl⟩

theorem statPoll_due {s : State} (h : s.spk.polledAt + 1000000000 ≤ upNs s) :
    statPoll s = (List.range 32).foldl pollStep (pollNoted s) := by
  rw [statPoll, if_neg (Nat.not_lt.2 h)]
  rfl

theorem statPoll_early {s : State} (h : upNs s < s.spk.polledAt + 1000000000) : statPoll s = s := by
  unfold statPoll
  exact if_pos h

/-- What the poll adds to the READs of spoke `n`, which stands in RUN in `s`. -/
def pollReads (s : State) (n : Nat) (l : List (Nat × Nat)) : List (Nat × Nat) :=
  l ++ (if l.any (fun r => r.2 == 6) then [] else (List.range (spokeNd s n)).map (fun p => (p, 6)))

theorem pollStep_regs (s : State) (n : Nat) : (pollStep s n).regs = s.regs := by
  unfold pollStep
  split
  · exact (pump_reads _ n).regs
  · rfl

theorem pollStep_ne (s : State) {n m : Nat} (h : m ≠ n) : spoke (pollStep s m) n = spoke s n := by
  unfold pollStep
  split
  · exact ((pump_reads _ m).others n h.symm).trans (spoke_setSpoke_ne s _ h.symm)
  · rfl

theorem pollStep_run {s : State} {n : Nat} (h : spokeState s n = spokeRun) :
    (spoke (pollStep s n) n).reads = pollReads s n (spoke s n).reads := by
  rw [pollStep, if_pos h, (pump_reads _ n).reads, spoke_setSpoke_same]
  rfl

theorem exec_driverStatPoll {dt : Nat} {s : State} (h : spkOn (advance dt s) = true) :
    exec (.driverStatPoll dt) s = .next (statPoll (advance dt s)) := by
  show execDriverStatPoll dt s = _
  rw [execDriverStatPoll, whenOn_of_on (blkOn_of_spkOn h), if_pos h]

theorem statPoll_reads {s : State} {n : Nat} (hdue : s.spk.polledAt + 1000000000 ≤ upNs s) (hn : n < 32) (hrun : spokeState s n = spokeRun) :
    (spoke (statPoll s) n).reads = pollReads s n (spoke s n).reads := by
  obtain ⟨hregs, hspoke⟩ := pollNoted_same s
  rw [statPoll_due hdue, ← hspoke n]
  refine foldl_at (fun u : State => (spoke u n).reads) (fun u => u.regs = s.regs) (v := pollReads s n)
    (fun u m hu => (pollStep_regs u m).trans hu) (fun u m _ hne => by rw [pollStep_ne u hne]) (fun u hu => ?_) List.nodup_range
    (List.mem_range.2 hn) hregs
  have hnd : spokeNd u n = spokeNd s n := congrArg (· + 1) (getF_congr hu _)
  rw [pollStep_run ((getF_congr hu _).trans hrun), pollReads, pollReads, hnd]

theorem pollReads_nil (s : State) (n : Nat) : pollReads s n [] = (List.range (spokeNd s n)).map (fun p => (p, 6)) := by
  simp [pollReads]

theorem driverStatPoll_polls {dt : Nat} {s : State} (hon : spkOn (advance dt s) = true) :
    ∃ t, exec (.driverStatPoll dt) s = .next t ∧
    (upNs (advance dt s) < (advance dt s).spk.polledAt + 1000000000 → t = advance dt s) ∧
    ((advance dt s).spk.polledAt + 1000000000 ≤ upNs (advance dt s) → ∀ n, n < 32 → spokeState (advance dt s) n = spokeRun →
      (spoke (advance dt s) n).reads = [] →
      (spoke t n).reads = (List.range (spokeNd (advance dt s) n)).map (fun p => (p, 6))) := by
  refine ⟨_, exec_driverStatPoll hon, fun h => statPoll_early h, fun hdue n hn hrun hnone => ?_⟩
  rw [statPoll_reads hdue hn hrun, hnone, pollReads_nil]

/-! ### The current codes of the drivers (R468) -/

/-- What the current codes of the drivers are read from is as in `s`, and so are the registers of SPK but SPK_CTL. -/
structure CodesAs (s t : State) : Prop where
  dram : t.dram = s.dram
  surfs : t.srf.surfs = s.srf.surfs
  segs : t.srf.segs = s.srf.segs
  pend : t.srf.pend = s.srf.pend
  copies : t.srf.copies = s.srf.copies
  boot : t.boot = s.boot
  regs : RegsBut (fun o => o ∉ placeRegs ∧ (o < 0x120004 ∨ 0x130000 ≤ o)) s t

theorem codesAs_refl (s : State) : CodesAs s s := ⟨rfl, rfl, rfl, rfl, rfl, rfl, RegsBut.same⟩

theorem CodesAs.trans {s t u : State} (h : CodesAs s t) (k : CodesAs t u) : CodesAs s u :=
  ⟨k.dram.trans h.dram, k.surfs.trans h.surfs, k.segs.trans h.segs, k.pend.trans h.pend, k.copies.trans h.copies, k.boot.trans h.boot,
    h.regs.trans k.regs⟩

theorem CodesAs.field {s t : State} (h : CodesAs s t) {f : Fld} (hf : 0x120004 ≤ f.off ∧ f.off < 0x130000) : getF t f = getF s f :=
  congrArg f.get (h.regs f.off fun hn => by omega)

theorem CodesAs.page {s t : State} (h : CodesAs s t) (vp : Nat) : srfOn t = srfOn s ∧ pageMap t vp = pageMap s vp := by
  have hplace : RegsBut (fun o => o ∉ placeRegs) s t := h.regs.mono fun o ho => ho.1
  have hen : isSet t F.SRF_CTL_EN = isSet s F.SRF_CTL_EN := isSet_of_placeRegs hplace (by decide)
  have hon : srfOn t = srfOn s := by rw [srfOn, srfOn, blkOn_of_placeRegs hplace h.boot, hen]
  exact ⟨hon, by rw [pageMap, pageMap, hon, h.segs]⟩

theorem CodesAs.piece {s t : State} (h : CodesAs s t) (f vp off n : Nat) : pieceFor t f vp off n = pieceFor s f vp off n := by
  obtain ⟨hon, hmap⟩ := h.page vp
  have hread : ∀ a, dramRd t a n = dramRd s a n := fun a => by rw [dramRd, dramRd, h.dram]
  have hfor : pageMapFor t f vp = pageMapFor s f vp := by rw [pageMapFor, pageMapFor, h.pend, hon, hmap]
  have hres : residentFor t f vp = residentFor s f vp := by rw [residentFor, residentFor, h.copies]
  rw [pieceFor, pieceFor, hfor, hres]
  simp only [hread]

theorem CodesAs.surface {s t : State} (h : CodesAs s t) (hd off n : Nat) : surfRead t hd off n = surfRead s hd off n := by
  obtain ⟨hon, _⟩ := h.page 0
  have hsurf : surfOf t hd = surfOf s hd := by rw [surfOf, surfOf, hon, h.surfs]
  have hengine : ∀ vp, engineRead t 0 vp off n = engineRead s 0 vp off n := fun vp => by
    rw [engineRead, engineRead]
    simp only [h.piece]
  rw [surfRead, surfRead, hsurf]
  simp only [hengine]

theorem CodesAs.drivers {s t : State} (h : CodesAs s t) (n : Nat) : spokeState t n = spokeState s n ∧ spokeNd t n = spokeNd s n ∧
    spokeNch t n = spokeNch s n :=
  ⟨h.field (by simp only; omega), congrArg (· + 1) (h.field (f := F.SPK_SPKCFG_NDM1 n) (by simp only; omega)), h.field (by simp only; omega)⟩

/-- The ICODE write of a driver is as in `s`. -/
theorem CodesAs.code {s t : State} (h : CodesAs s t) (n d : Nat) : icodeWrite t n d = icodeWrite s n d := by
  have hnd : spokeNd t = spokeNd s := funext fun m => (h.drivers m).2.1
  have hnch : spokeNch t = spokeNch s := funext fun m => (h.drivers m).2.2
  have hcode : getF t F.SPK_SURF_ICODE = getF s F.SPK_SURF_ICODE := h.field (by decide)
  rw [icodeWrite, icodeWrite, codeBase, codeBase, hnd, hnch, hcode, h.surface]

theorem codesRegs_pba (k : Nat) : 0x38000 + 4 * (k % 64) ∉ placeRegs ∧ (0x38000 + 4 * (k % 64) < 0x120004 ∨ 0x130000 ≤ 0x38000 + 4 * (k % 64)) :=
  ⟨pba_not_mem_placeRegs k, by omega⟩

theorem codesRegs_perr (i : Nat) : R.CHN_PERR i ∉ placeRegs ∧ (R.CHN_PERR i < 0x120004 ∨ 0x130000 ≤ R.CHN_PERR i) :=
  ⟨perr_not_mem_placeRegs i, by simp only [R.CHN_PERR]; omega⟩

/-- The parts that an uncorrectable read changes. -/
theorem codesAs_noteBad (s : State) (a n : Nat) : CodesAs s (noteBad s a n) := by
  have hk := noteBad_keeps s a n (W0 := [.regs, .hif, .drc, .chn, .out]) (by decide) (by decide) (by decide) (by decide) (by decide) Keeps.same
  have hsrf : (noteBad s a n).srf = s.srf := hk.2.2 .srf (by decide)
  exact ⟨dram_noteBad s a n, by rw [hsrf], by rw [hsrf], by rw [hsrf], by rw [hsrf], hk.2.2 .boot (by decide),
    noteBad_regs s a n codesRegs_pba (by decide) codesRegs_perr (by decide) (by decide) RegsBut.same⟩

/-- The parts of SRF that say where surfaces lie stand as a translation is used. -/
theorem srf_srfWalk (s : State) (vp : Nat) : (srfWalk s vp).srf.surfs = s.srf.surfs ∧ (srfWalk s vp).srf.segs = s.srf.segs ∧
    (srfWalk s vp).srf.pend = s.srf.pend ∧ (srfWalk s vp).srf.copies = s.srf.copies := by
  cases hbad : walkBad s vp with
  | true =>
    have hsrf : (srfWalk s vp).srf = s.srf := by
      by_cases hc : s.srf.tc.contains vp = true
      · rw [srfWalk, if_pos hc]
      · rw [srfWalk, if_neg hc, hbad, if_pos rfl]
        refine (same_of_keeps .srf ?_).trans (incMod_srf s F.SRF_TCMISS_COUNT 1)
        exact uncorrectable_keeps _ _ (by decide) (by decide) (by decide) (by decide) (by decide) Keeps.same
    rw [hsrf]
    exact ⟨rfl, rfl, rfl, rfl⟩
  | false =>
    obtain ⟨hs, _⟩ | ⟨u, tc, hs, hu⟩ := srfWalk_of_good hbad
    · rw [hs]
      exact ⟨rfl, rfl, rfl, rfl⟩
    · rw [hs, ← hu]
      exact ⟨rfl, rfl, rfl, rfl⟩

theorem codesAs_srfWalk (s : State) (vp : Nat) : CodesAs s (srfWalk s vp) := by
  have hk := srfWalk_keeps s vp (W0 := [.regs, .hif, .srf, .drc, .chn, .out, .free]) (by decide) (by decide) (by decide) (by decide)
    (by decide) (by decide) (by decide) Keeps.same
  obtain ⟨hsurfs, hsegs, hpend, hcopies⟩ := srf_srfWalk s vp
  exact ⟨hk.2.2 .dram (by decide), hsurfs, hsegs, hpend, hcopies, hk.2.2 .boot (by decide),
    srfWalk_regs s vp codesRegs_pba (by decide) (by decide) codesRegs_perr (by decide) (by decide) RegsBut.same⟩

/-- The needs of a frame for a page are met by now. -/
def needsMet (s : State) (now f vp : Nat) : State := { s with srf := { s.srf with needs := s.srf.needs.map (fun d =>
  if d.frame = f ∧ d.vp = vp ∧ mafter 32 d.deadline now then { d with deadline := now } else d) } }

theorem needsMet_same (s : State) (now f vp : Nat) : CodesAs s (needsMet s now f vp) ∧ (needsMet s now f vp).out = s.out :=
  ⟨⟨rfl, rfl, rfl, rfl, rfl, rfl, fun _ _ => rfl⟩, rfl⟩

/-- One page piece of a failed read of the reading engine. -/
def noteStep (now f : Nat) (s : State) (p : Nat × Nat × Nat) : State :=
  if walkBad (needsMet s now f p.1) p.1 then needsMet s now f p.1
  else match pageMapFor (needsMet s now f p.1) f p.1, residentFor (needsMet s now f p.1) f p.1 with
    | some (.loc g), _ => noteBad (needsMet s now f p.1) (65536 * g + p.2.1) p.2.2
    | some (.host _), some c => noteBad (needsMet s now f p.1) (65536 * c.page + p.2.1) p.2.2
    | _, _ => needsMet s now f p.1

theorem engineNote_eq (s : State) (f vp a n : Nat) :
    engineNote s f vp a n = (pieceList (65536 * vp + a) n).foldl (noteStep (timeNs s) f) s := rfl

theorem out_noteBad (s : State) (a n : Nat) : s.out <+: (noteBad s a n).out :=
  foldl_holds (fun t : State => s.out <+: t.out) (fun t b h => h.trans (grows_uncorrectable t b).out) List.prefix_rfl

/-- What reading the codes leaves, and that it takes nothing back. -/
structure CodesRead (s t : State) : Prop where
  codes : CodesAs s t
  out : s.out <+: t.out

theorem CodesRead.trans {s t u : State} (h : CodesRead s t) (k : CodesRead t u) : CodesRead s u := ⟨h.codes.trans k.codes, h.out.trans k.out⟩

theorem codesRead_refl (s : State) : CodesRead s s := ⟨codesAs_refl s, List.prefix_rfl⟩

theorem codesRead_noteStep (now f : Nat) (s : State) (p : Nat × Nat × Nat) : CodesRead s (noteStep now f s p) := by
  obtain ⟨hcodes, hout⟩ := needsMet_same s now f p.1
  have hmet : CodesRead s (needsMet s now f p.1) := ⟨hcodes, hout ▸ List.prefix_rfl⟩
  have hnote : ∀ a n, CodesRead s (noteBad (needsMet s now f p.1) a n) := fun a n =>
    hmet.trans ⟨codesAs_noteBad _ a n, out_noteBad _ a n⟩
  unfold noteStep
  split
  · exact hmet
  · split
    · exact hnote _ _
    · exact hnote _ _
    · exact hmet

theorem codesRead_foldl {α : Type} {f : State → α → State} (hf : ∀ t y, CodesRead t (f t y)) (l : List α) (s : State) :
    CodesRead s (l.foldl f s) :=
  foldl_holds (CodesRead s) (fun t y h => h.trans (hf t y)) (codesRead_refl s)

theorem codesRead_codeWalk (s : State) (n : Nat) : CodesRead s (codeWalk s n) := by
  unfold codeWalk surfWalk
  split
  · rw [engineNote_eq]
    exact (codesRead_foldl (fun t (p : Nat × Nat × Nat) => ⟨codesAs_srfWalk t p.1, (grows_srfWalk t p.1).out⟩) _ _).trans
      (codesRead_foldl (codesRead_noteStep _ _) _ _)
  · exact codesRead_refl s

/-! ### RELOAD (R468) -/

/-- What a part of RELOAD keeps: the codes, what was sent, and the WRITEs that wait; and LMP stands. -/
structure Reloading (s t : State) : Prop where
  read : CodesRead s t
  lmp : t.lmp = s.lmp
  writes : ∀ m, ∀ w ∈ (spoke s m).writes, w ∈ (spoke t m).writes

theorem Reloading.trans {s t u : State} (h : Reloading s t) (k : Reloading t u) : Reloading s u :=
  ⟨h.read.trans k.read, k.lmp.trans h.lmp, fun m w hw => k.writes m w (h.writes m w hw)⟩

theorem reloading_refl (s : State) : Reloading s s := ⟨codesRead_refl s, rfl, fun _ _ h => h⟩

theorem reloading_codeWalk (s : State) (n : Nat) : Reloading s (codeWalk s n) ∧ (codeWalk s n).spk = s.spk := by
  have hk := codeWalk_keeps s n (W0 := [.regs, .hif, .srf, .drc, .chn, .out, .free]) (by decide) (by decide) (by decide) (by decide)
    (by decide) (by decide) (by decide) Keeps.same
  have hspk : (codeWalk s n).spk = s.spk := hk.2.2 .spk (by decide)
  exact ⟨⟨codesRead_codeWalk s n, hk.2.2 .lmp (by decide), fun m w hw => by rwa [spoke_congr hspk]⟩, hspk⟩

theorem codesAs_written (s : State) (n u : Nat) (b : Bytes) : CodesAs s (written s n u b) :=
  ⟨rfl, rfl, rfl, rfl, rfl, rfl, fun _ _ => rfl⟩

theorem codesAs_writeWaits (s : State) (n : Nat) (b : Bytes) : CodesAs s (writeWaits s n b) :=
  ⟨rfl, rfl, rfl, rfl, rfl, rfl, fun _ _ => rfl⟩

theorem reloading_sendWrite (s : State) (n : Nat) (b : Bytes) : Reloading s (sendWrite s n b) := by
  rcases sendWrite_cases s n b with ⟨u, heq⟩ | heq <;> rw [heq]
  · obtain ⟨_, hlmp, hne, hsame, hout⟩ := written_same s n u b
    refine ⟨⟨codesAs_written s n u b, hout ▸ List.prefix_append _ _⟩, hlmp, fun m w hw => ?_⟩
    by_cases hm : m = n
    · subst hm
      rwa [hsame]
    · rwa [hne m hm]
  · obtain ⟨_, hlmp, hne, hsame, hout⟩ := writeWaits_same s n b
    refine ⟨⟨codesAs_writeWaits s n b, hout ▸ List.prefix_rfl⟩, hlmp, fun m w hw => ?_⟩
    by_cases hm : m = n
    · subst hm
      rw [hsame]
      exact List.mem_append_left _ hw
    · rwa [hne m hm]

theorem reloading_foldl {α : Type} {f : State → α → State} (hf : ∀ t y, Reloading t (f t y)) (l : List α) (s : State) :
    Reloading s (l.foldl f s) :=
  foldl_holds (Reloading s) (fun t y h => h.trans (hf t y)) (reloading_refl s)

/-- The packet `b` has been sent on spoke `n` since `s`. -/
abbrev SentSince (s : State) (n : Nat) (b : Bytes) (t : State) : Prop := Out.spoke n b ∈ t.out.drop s.out.length

theorem mem_drop_of_prefix {l m : List Out} {x : Out} {k : Nat} (h : l <+: m) (hx : x ∈ l.drop k) : x ∈ m.drop k := by
  obtain ⟨r, rfl⟩ := h
  rw [List.drop_append]
  exact List.mem_append_left _ hx

theorem sentSince_written {s t : State} (h : s.out <+: t.out) (n u : Nat) (b : Bytes) : SentSince s n b (written t n u b) := by
  obtain ⟨_, _, _, _, hout⟩ := written_same t n u b
  obtain ⟨r, hr⟩ := h
  rw [SentSince, hout, ← hr, List.append_assoc, List.drop_left]
  exact List.mem_append_right _ (List.mem_singleton.2 rfl)

/-- Every WRITE of a list is sent, or waits. -/
theorem writes_told {s : State} {n : Nat} {l : List Bytes} {b : Bytes} (hb : b ∈ l) : ∀ {t : State}, s.out <+: t.out →
    SentSince s n b (l.foldl (fun u w => sendWrite u n w) t) ∨ b ∈ (spoke (l.foldl (fun u w => sendWrite u n w) t) n).writes := by
  induction l with
  | nil => cases hb
  | cons w l ih =>
    intro t ht
    have hstep := reloading_sendWrite t n w
    rcases List.mem_cons.1 hb with rfl | hmem
    · have hrest := reloading_foldl (f := fun u w => sendWrite u n w) (fun u w => reloading_sendWrite u n w) l (sendWrite t n b)
      rcases sendWrite_cases t n b with ⟨u, heq⟩ | heq
      · exact .inl (mem_drop_of_prefix hrest.read.out (heq ▸ sentSince_written ht n u b))
      · refine .inr (hrest.writes n b ?_)
        obtain ⟨_, _, _, hsame, _⟩ := writeWaits_same t n b
        rw [heq, hsame]
        exact List.mem_append_right _ (List.mem_singleton.2 rfl)
    · exact ih hmem (ht.trans hstep.read.out)

/-- Where nothing waits and no slot is placed, every WRITE of a list is sent. -/
theorem writes_sent {s : State} {n : Nat} {l : List Bytes} {b : Bytes} (hb : b ∈ l) : ∀ {t : State}, s.out <+: t.out →
    t.lmp.shows = [] → (spoke t n).writes = [] → SentSince s n b (l.foldl (fun u w => sendWrite u n w) t) := by
  induction l with
  | nil => cases hb
  | cons w l ih =>
    intro t ht hshows hw
    have heq := sendWrite_sends w hw hshows
    obtain ⟨_, hlmp, _, hsame, hout⟩ := written_same t n (spoke t n).used w
    rcases List.mem_cons.1 hb with rfl | hmem
    · have hrest := reloading_foldl (f := fun u w => sendWrite u n w) (fun u w => reloading_sendWrite u n w) l (sendWrite t n b)
      exact mem_drop_of_prefix hrest.read.out (heq ▸ sentSince_written ht n _ b)
    · rw [List.foldl_cons, heq]
      refine ih hmem (ht.trans (hout ▸ List.prefix_append _ _)) (by rw [hlmp, hshows]) ?_
      rw [hsame]
      exact hw

/-- The codes of the drivers of spoke `n` are written. -/
def reloadStep (s : State) (n : Nat) : State :=
  if spokeState s n = spokeRun then ((List.range (spokeNd s n)).map (icodeWrite s n)).foldl (fun s b => sendWrite s n b) (codeWalk s n) else s

theorem spkReload_eq (s : State) : spkReload s = (List.range 32).foldl reloadStep s := rfl

theorem reloading_reloadStep (s : State) (n : Nat) : Reloading s (reloadStep s n) := by
  unfold reloadStep
  split
  · exact (reloading_codeWalk s n).1.trans (reloading_foldl (fun u b => reloading_sendWrite u n b) _ _)
  · exact reloading_refl s

theorem spoke_reloadStep_ne (s : State) {m n : Nat} (h : n ≠ m) : spoke (reloadStep s m) n = spoke s n := by
  unfold reloadStep
  split
  · refine (foldl_same (fun u : State => spoke u n) fun u b _ => (sendWrite_reads u m b).others n h).trans ?_
    exact spoke_congr (reloading_codeWalk s m).2 n
  · rfl

/-- The step of RELOAD that writes to the drivers of spoke `n`. -/
theorem reloadStep_writes {s t : State} {n d : Nat} (ht : Reloading s t) (hrun : spokeState s n = spokeRun) (hd : d < spokeNd s n) :
    (SentSince s n (icodeWrite s n d) (reloadStep t n) ∨ icodeWrite s n d ∈ (spoke (reloadStep t n) n).writes) ∧
    (s.lmp.shows = [] → (spoke t n).writes = [] → SentSince s n (icodeWrite s n d) (reloadStep t n)) := by
  obtain ⟨hst, hnd, _⟩ := ht.read.codes.drivers n
  obtain ⟨hwalk, hspk⟩ := reloading_codeWalk t n
  have hmem : icodeWrite s n d ∈ (List.range (spokeNd t n)).map (icodeWrite t n) :=
    List.mem_map.2 ⟨d, List.mem_range.2 (hnd ▸ hd), ht.read.codes.code n d⟩
  have hout : s.out <+: (codeWalk t n).out := (ht.trans hwalk).read.out
  rw [reloadStep, if_pos (hst.trans hrun)]
  refine ⟨writes_told hmem hout, fun hshows hw => writes_sent hmem hout ?_ ?_⟩
  · rw [hwalk.lmp, ht.lmp, hshows]
  · rw [spoke_congr hspk, hw]

theorem spkReload_writes {s : State} {n d : Nat} (hn : n < 32) (hrun : spokeState s n = spokeRun) (hd : d < spokeNd s n) :
    (SentSince s n (icodeWrite s n d) (spkReload s) ∨ icodeWrite s n d ∈ (spoke (spkReload s) n).writes) ∧
    (s.lmp.shows = [] → (spoke s n).writes = [] → SentSince s n (icodeWrite s n d) (spkReload s)) := by
  obtain ⟨before, after, hsplit⟩ := List.append_of_mem (List.mem_range.2 hn)
  have hnodup : (before ++ n :: after).Nodup := hsplit ▸ List.nodup_range
  have hnot : n ∉ before := fun hmem => (List.nodup_append.1 hnodup).2.2 n hmem n (List.mem_cons_self ..) rfl
  have hbefore : Reloading s (before.foldl reloadStep s) := reloading_foldl reloading_reloadStep before s
  have hspoke : spoke (before.foldl reloadStep s) n = spoke s n :=
    foldl_same (fun u : State => spoke u n) fun u m hm => spoke_reloadStep_ne u fun he => hnot (he ▸ hm)
  have hafter := reloading_foldl reloading_reloadStep after (reloadStep (before.foldl reloadStep s) n)
  obtain ⟨htold, hsent⟩ := reloadStep_writes hbefore hrun hd
  rw [spkReload_eq, hsplit, List.foldl_append, List.foldl_cons]
  refine ⟨htold.imp (mem_drop_of_prefix hafter.read.out) (hafter.writes n _), fun hshows hw => ?_⟩
  exact mem_drop_of_prefix hafter.read.out (hsent hshows (hspoke ▸ hw))

theorem exec_spkReload {s : State} (h : WriteOk s R.SPK_CTL (F.SPK_CTL_RELOAD.put (s.word R.SPK_CTL) 1)) :
    exec .spkReload s = .next (spkReload (storeReg s R.SPK_CTL (F.SPK_CTL_RELOAD.put (s.word R.SPK_CTL) 1))) := by
  have hgo : F.SPK_CTL_RELOAD.get (F.SPK_CTL_RELOAD.put (s.word R.SPK_CTL) 1) = 1 := get_put_read _ _ (by decide) (by decide)
  have hen : F.SPK_CTL_EN.get (F.SPK_CTL_RELOAD.put (s.word R.SPK_CTL) 1) = getF s F.SPK_CTL_EN :=
    get_put_beside F.SPK_CTL_RELOAD F.SPK_CTL_EN _ _ (by decide) (by decide)
  refine congrArg Host.Outcome.next ((hostWrite_accepted (by decide) (by decide) h).trans ?_)
  rw [regEffect_12 _ _ _ (by decide), effectSpk, if_pos rfl, rises, falls, hen, hgo]
  by_cases hz : getF s F.SPK_CTL_EN = 0 <;> simp [hz]

/-- A write of SPK_CTL leaves the codes. -/
theorem codesAs_storeReg (s : State) (v : Word) : CodesAs s (storeReg s R.SPK_CTL v) := by
  have hsrf : (storeReg s R.SPK_CTL v).srf = s.srf := storeReg_same s _ v .srf (by decide)
  refine ⟨storeReg_same s _ v .dram (by decide), by rw [hsrf], by rw [hsrf], by rw [hsrf], by rw [hsrf],
    storeReg_same s _ v .boot (by decide), fun o ho => word_storeReg_ne s v fun he => ho ?_⟩
  subst he
  exact ⟨by decide, by decide⟩

theorem spkReload_reloads {s : State} (h : WriteOk s R.SPK_CTL (F.SPK_CTL_RELOAD.put (s.word R.SPK_CTL) 1)) :
    ∃ t, exec .spkReload s = .next t ∧
    ∀ n d, n < 32 → spokeState s n = spokeRun → d < spokeNd s n →
      (.spoke n (icodeWrite s n d) ∈ t.out.drop s.out.length ∨ icodeWrite s n d ∈ (spoke t n).writes) ∧
      (s.lmp.shows = [] → (spoke s n).writes = [] → .spoke n (icodeWrite s n d) ∈ t.out.drop s.out.length) := by
  refine ⟨_, exec_spkReload h, fun n d hn hrun hd => ?_⟩
  have hcodes := codesAs_storeReg s (F.SPK_CTL_RELOAD.put (s.word R.SPK_CTL) 1)
  have hout : (storeReg s R.SPK_CTL (F.SPK_CTL_RELOAD.put (s.word R.SPK_CTL) 1)).out = s.out := storeReg_same s _ _ .out (by decide)
  have hlmp : (storeReg s R.SPK_CTL (F.SPK_CTL_RELOAD.put (s.word R.SPK_CTL) 1)).lmp = s.lmp := storeReg_same s _ _ .lmp (by decide)
  have hspk : (storeReg s R.SPK_CTL (F.SPK_CTL_RELOAD.put (s.word R.SPK_CTL) 1)).spk = s.spk := storeReg_same s _ _ .spk (by decide)
  generalize storeReg s R.SPK_CTL (F.SPK_CTL_RELOAD.put (s.word R.SPK_CTL) 1) = x at *
  obtain ⟨hst, hnd, _⟩ := hcodes.drivers n
  have hwrites := spkReload_writes hn (hst.trans hrun) (hnd ▸ hd)
  rw [hcodes.code, SentSince, hout, hlmp, spoke_congr hspk] at hwrites
  exact hwrites

/-! ### Answers to READs (R462, R466, R467) -/

theorem exec_readAnswer {n : Nat} {s : State} (hon : spkOn s = true) (b : Bytes) :
    exec (.readAnswer n b) s = .next (if spkOn s && !detOutstanding s n then readAnswer s n b else s) := by
  show execReadAnswer n b s = _
  rw [execReadAnswer, whenOn_of_on (blkOn_of_spkOn hon)]

/-- The first READ of a spoke is over. -/
def readTaken (s : State) (n : Nat) (rest : List (Nat × Nat)) : State :=
  setSpoke s n { spoke s n with reads := rest, live := false, tries := 0 }

theorem readTaken_same (s : State) (n : Nat) (rest : List (Nat × Nat)) : (readTaken s n rest).regs = s.regs ∧
    spoke (readTaken s n rest) n = { spoke s n with reads := rest, live := false, tries := 0 } := ⟨rfl, spoke_setSpoke_same s n _⟩

theorem readEnd_eq {s : State} {n p r : Nat} {rest : List (Nat × Nat)} (h : (spoke s n).reads = (p, r) :: rest) (v : Option Nat) :
    readEnd s n v = if r = 0 ∨ r = 2 then upRead (readTaken s n rest) n p r v
      else match v with
        | none => toFault (readTaken s n rest) n .linkAbsent (getF (readTaken s n rest) (F.SPK_SPKSTAT_NFOUND n))
        | some w => askRead (if r = 6 then incSat (readTaken s n rest) (F.SPK_SPKSTAT_DCRC n) (bits w 0 8)
            else detResult (readTaken s n rest) n p r w) n := by
  rw [readEnd, h]
  rfl

/-- A sound answer ends its READ with its data words. -/
theorem readAnswer_ends {s : State} {n p r : Nat} {rest : List (Nat × Nat)} {b : Bytes} (hlive : (spoke s n).live = true)
    (hreads : (spoke s n).reads = (p, r) :: rest) (hr : readWords r = 1) (hcrc : leAt b 8 4 = crc32 (slice b 0 8)) :
    readAnswer s n b = readEnd s n (some (beAt b 4 4)) := by
  rw [readAnswer, hlive, hreads]
  dsimp only
  rw [hr, if_neg (by simpa using hcrc)]
  simp

/-- The ID of a position has been read. -/
theorem upRead_id {s : State} {n p w : Nat} (h : (spoke s n).reads ≠ []) :
    ∃ bad, upRead s n p 0 (some w) = askRead (setSpoke s n { spoke s n with found := (spoke s n).found + 2 ^ p, bad := bad }) n := by
  have hsome : (!(spoke s n).reads.isEmpty) = true := by simpa using h
  exact ⟨_, if_pos hsome⟩

theorem readId_notes {s : State} {n p : Nat} {q : Nat × Nat} {rest : List (Nat × Nat)} (h : (spoke s n).reads = (p, 0) :: q :: rest)
    (w : Nat) : (spoke (readEnd s n (some w)) n).reads = q :: rest ∧
      (spoke (readEnd s n (some w)) n).found = (spoke s n).found + 2 ^ p := by
  obtain ⟨_, htaken⟩ := readTaken_same s n (q :: rest)
  have hleft : (spoke (readTaken s n (q :: rest)) n).reads = q :: rest := by rw [htaken]
  obtain ⟨bad, heq⟩ := upRead_id (p := p) (w := w) (by rw [hleft]; exact List.cons_ne_nil _ _)
  have hask := askRead_reads (setSpoke (readTaken s n (q :: rest)) n
    { spoke (readTaken s n (q :: rest)) n with found := (spoke (readTaken s n (q :: rest)) n).found + 2 ^ p, bad := bad }) n
  rw [readEnd_eq h, if_pos (.inl rfl), heq, hask.reads, hask.found, spoke_setSpoke_same, htaken]
  exact ⟨rfl, rfl⟩

theorem readStat_counts {s : State} {n p : Nat} {rest : List (Nat × Nat)} (h : (spoke s n).reads = (p, 6) :: rest) (w : Nat) :
    (spoke (readEnd s n (some w)) n).reads = rest ∧ getF (readEnd s n (some w)) (F.SPK_SPKSTAT_DCRC n) =
      satAdd (F.SPK_SPKSTAT_DCRC n).top (getF s (F.SPK_SPKSTAT_DCRC n)) (bits w 0 8) := by
  obtain ⟨hregs, htaken⟩ := readTaken_same s n rest
  have hask := askRead_reads (incSat (readTaken s n rest) (F.SPK_SPKSTAT_DCRC n) (bits w 0 8)) n
  rw [readEnd_eq h, if_neg (by decide)]
  dsimp only
  rw [if_pos rfl, hask.reads, getF_congr hask.regs, spoke_congr (incSat_spk _ _ _), htaken,
    getF_incSat_same _ (F.SPK_SPKSTAT_DCRC n) _ (of_decide_eq_true rfl), getF_congr hregs]
  exact ⟨rfl, rfl⟩

theorem detOutstanding_false {s : State} {n p r : Nat} {rest : List (Nat × Nat)} (h : (spoke s n).reads = (p, r) :: rest)
    (hr : isDetRead r = false) : detOutstanding s n = false := by
  simp [detOutstanding, h, hr]

theorem readAnswer_answers {n p r : Nat} {q : Nat × Nat} {rest : List (Nat × Nat)} {b : Bytes} {s : State} (hon : spkOn s = true)
    (hlive : (spoke s n).live = true) (hreads : (spoke s n).reads = (p, r) :: q :: rest) (hcrc : leAt b 8 4 = crc32 (slice b 0 8)) :
    ∃ t, exec (.readAnswer n b) s = .next t ∧
      (r = 0 → (spoke t n).reads = q :: rest ∧ (spoke t n).found = (spoke s n).found + 2 ^ p) ∧
      (r = 6 → (spoke t n).reads = q :: rest ∧ getF t (F.SPK_SPKSTAT_DCRC n) =
        satAdd (F.SPK_SPKSTAT_DCRC n).top (getF s (F.SPK_SPKSTAT_DCRC n)) (bits (beAt b 4 4) 0 8)) := by
  refine ⟨_, exec_readAnswer hon b, fun hr => ?_, fun hr => ?_⟩ <;> subst hr
  · rw [hon, detOutstanding_false hreads rfl, if_pos (by decide), readAnswer_ends hlive hreads rfl hcrc]
    exact readId_notes hreads _
  · rw [hon, detOutstanding_false hreads rfl, if_pos (by decide), readAnswer_ends hlive hreads rfl hcrc]
    exact readStat_counts hreads _

/-! ### Absent answers (R462, R467) -/

theorem exec_readAbsent {dt n : Nat} {s : State} (h : spkOn (advance dt s) = true) :
    exec (.readAbsent ⟨dt, n⟩) s = .next (readAbsent (advance dt s) n) := by
  show execReadAbsent ⟨dt, n⟩ s = _
  rw [execReadAbsent, whenOn_of_on (blkOn_of_spkOn h), if_pos h]

/-- A READ that failed is to be asked for again. -/
def readFailed (s : State) (n : Nat) : State := setSpoke s n { spoke s n with live := false, tries := (spoke s n).tries + 1 }

theorem readFailed_same (s : State) (n : Nat) : (readFailed s n).regs = s.regs ∧ upNs (readFailed s n) = upNs s ∧
    spoke (readFailed s n) n = { spoke s n with live := false, tries := (spoke s n).tries + 1 } := ⟨rfl, rfl, spoke_setSpoke_same s n _⟩

theorem readAbsent_again {s : State} {n : Nat} (hdue : (spoke s n).askedAt + 20000 ≤ upNs s) (hlive : (spoke s n).live = true)
    (ht : (spoke s n).tries < 2) : readAbsent s n = askRead (readFailed s n) n := by
  rw [readAbsent, if_pos hdue, readMiss, hlive]
  exact (if_neg (by decide)).trans (if_pos ht)

theorem readAbsent_gone {s : State} {n : Nat} (hdue : (spoke s n).askedAt + 20000 ≤ upNs s) (hlive : (spoke s n).live = true)
    (ht : 2 ≤ (spoke s n).tries) : readAbsent s n = readEnd s n none := by
  rw [readAbsent, if_pos hdue, readMiss, hlive]
  exact (if_neg (by decide)).trans (if_neg (Nat.not_lt.2 ht))

theorem readFailed_asks {s : State} {n p r : Nat} {rest : List (Nat × Nat)} (hreads : (spoke s n).reads = (p, r) :: rest) :
    (spoke (askRead (readFailed s n) n) n).reads = (p, r) :: rest ∧
    (spoke (askRead (readFailed s n) n) n).tries = (spoke s n).tries + 1 ∧
    (spokeState s n ≠ spokeRun → (spoke (askRead (readFailed s n) n) n).live = true ∧
      (spoke (askRead (readFailed s n) n) n).askedAt = upNs s) := by
  obtain ⟨hregs, hup, hfailed⟩ := readFailed_same s n
  have hask := askRead_reads (readFailed s n) n
  have hleft : (spoke (readFailed s n) n).reads = (p, r) :: rest := by rw [hfailed, hreads]
  refine ⟨hask.reads.trans hleft, by rw [hask.tries, hfailed], fun hrun => ?_⟩
  have hnot : spokeState (readFailed s n) n ≠ spokeRun := by
    rw [spokeState, getF_congr hregs]
    exact hrun
  obtain ⟨_, _, hasked⟩ := asked_same (readFailed s n) n p r (spoke (readFailed s n) n).used
  rw [askRead_asks hleft (by rw [hfailed]) hnot, hasked, hup]
  exact ⟨rfl, rfl⟩

/-- The registers of a spoke show its fault. -/
def faultShown (s : State) (n : Nat) (c : Status) (found : Nat) : State :=
  setF (setF (setF s (F.SPK_SPKSTAT_STATE n) spokeFault) (F.SPK_SPKSTAT_CODE n) c.code) (F.SPK_SPKSTAT_NFOUND n) found

theorem faultShown_shows (s : State) (n found : Nat) {c : Status} (hc : c.code < 2 ^ 8) :
    spokeState (faultShown s n c found) n = spokeFault ∧ getF (faultShown s n c found) (F.SPK_SPKSTAT_CODE n) = c.code := by
  constructor
  · refine (getF_setF_beside _ (F.SPK_SPKSTAT_NFOUND n) (F.SPK_SPKSTAT_STATE n) _ rfl rfl rfl).trans ?_
    refine (getF_setF_beside _ (F.SPK_SPKSTAT_CODE n) (F.SPK_SPKSTAT_STATE n) _ rfl rfl rfl).trans ?_
    exact getF_setF_read _ (F.SPK_SPKSTAT_STATE n) (show (3 : Nat) < 2 ^ 2 by decide) rfl
  · refine (getF_setF_beside _ (F.SPK_SPKSTAT_NFOUND n) (F.SPK_SPKSTAT_CODE n) _ rfl rfl rfl).trans ?_
    exact getF_setF_read _ (F.SPK_SPKSTAT_CODE n) hc rfl

theorem toFault_raises (s : State) (n : Nat) (c : Status) (found : Nat) :
    ∃ x det, toFault s n c found = raise (setSpoke (faultShown s n c found) n x) 0x1201 det := ⟨_, _, rfl⟩

theorem toFault_shows (s : State) (n found : Nat) {c : Status} (hc : c.code < 2 ^ 8) :
    spokeState (toFault s n c found) n = spokeFault ∧ getF (toFault s n c found) (F.SPK_SPKSTAT_CODE n) = c.code := by
  obtain ⟨x, det, heq⟩ := toFault_raises s n c found
  have hev := raise_eventSame (setSpoke (faultShown s n c found) n x) 0x1201 det
  rw [heq, spokeState, hev.getF (by simp only; omega), hev.getF (by simp only; omega), getF_congr (setSpoke_same _ _ _).1,
    getF_congr (setSpoke_same _ _ _).1]
  exact faultShown_shows s n found hc

theorem readStat_absent {s : State} {n p : Nat} {rest : List (Nat × Nat)} (h : (spoke s n).reads = (p, 6) :: rest) :
    spokeState (readEnd s n none) n = spokeFault ∧ getF (readEnd s n none) (F.SPK_SPKSTAT_CODE n) = Status.linkAbsent.code := by
  rw [readEnd_eq h, if_neg (by decide)]
  exact toFault_shows _ n _ (by decide)

theorem readAbsent_repeats {dt n p r : Nat} {rest : List (Nat × Nat)} {s : State} (hon : spkOn (advance dt s) = true)
    (hlive : (spoke (advance dt s) n).live = true) (hreads : (spoke (advance dt s) n).reads = (p, r) :: rest)
    (hdue : (spoke (advance dt s) n).askedAt + 20000 ≤ upNs (advance dt s)) :
    ∃ t, exec (.readAbsent ⟨dt, n⟩) s = .next t ∧
    ((spoke (advance dt s) n).tries < 2 → (spoke t n).reads = (p, r) :: rest ∧
      (spoke t n).tries = (spoke (advance dt s) n).tries + 1 ∧
      (spokeState (advance dt s) n ≠ spokeRun → (spoke t n).live = true ∧ (spoke t n).askedAt = upNs (advance dt s))) ∧
    (2 ≤ (spoke (advance dt s) n).tries → r = 6 → spokeState t n = spokeFault ∧
      getF t (F.SPK_SPKSTAT_CODE n) = Status.linkAbsent.code) := by
  refine ⟨_, exec_readAbsent hon, fun ht => ?_, fun ht hr => ?_⟩
  · rw [readAbsent_again hdue hlive ht]
    exact readFailed_asks hreads
  · subst hr
    rw [readAbsent_gone hdue hlive ht]
    exact readStat_absent hreads

/-- Settles O49. -/
theorem spokes : Obligations.Spokes := by
  unfold Obligations.Spokes
  exact ⟨fun v s => spkEnable_enables, fun v s => spkDisable_disables, fun dt n s _ => spokeBringupRetry_retries,
    fun dt s => driverStatPoll_polls, fun s => spkReload_reloads, fun n p r q rest b s _ => readAnswer_answers,
    fun dt n p r rest s _ => readAbsent_repeats⟩

end Sys2Proof.Machine
end

section
/-! PROOF. What answers, completions and the states of the update leave as they were (R572, R574, R576, R582). -/

set_option Elab.async false

namespace Sys2Proof.Machine

/-! ### Answers and completions -/

/-- The registers that answering a letter or completing an entry may write. -/
abbrev AnswerReg (o : Nat) : Prop := o = R.GLB_EVTOVF ∨ (0x38000 ≤ o ∧ o < 0xC0000) ∨ (0xD0000 ≤ o ∧ o < 0xE0000) ∨
  (0x130000 ≤ o ∧ o < 0x140000) ∨ o = R.UPD_STAT

/-- The parts that answering a letter or completing an entry may change. -/
def answerParts : List Part := [.regs, .hif, .queues, .sor, .srf, .drc, .chn, .ring, .out, .free]

/-- Nothing changed but what answers and completions change; of UPD_STAT, LASTCODE alone. -/
structure Answered (s t : State) : Prop where
  parts : Keeps answerParts s t
  words : RegsBut AnswerReg s t
  ustate : ustate t = ustate s
  cur : curSlot t = curSlot s

namespace Answered

theorem refl (s : State) : Answered s s := ⟨Keeps.same, RegsBut.same, rfl, rfl⟩

theorem trans {s t u : State} (h : Answered s t) (k : Answered t u) : Answered s u :=
  ⟨h.parts.trans k.parts, h.words.trans k.words, k.ustate.trans h.ustate, k.cur.trans h.cur⟩

/-- An operation that leaves UPD_STAT alone. -/
theorem of_stat {s t : State} (hp : Keeps answerParts s t) (hw : RegsBut (fun o => AnswerReg o ∧ o ≠ R.UPD_STAT) s t) : Answered s t :=
  have hstat : t.word R.UPD_STAT = s.word R.UPD_STAT := hw _ fun h => h.2 rfl
  ⟨hp, hw.mono fun _ h => h.1, congrArg F.UPD_STAT_USTATE.get hstat, congrArg F.UPD_STAT_CUR.get hstat⟩

theorem upd {s t : State} (h : Answered s t) : t.upd = s.upd := h.parts.2.2 .upd (by decide)

theorem shut {s t : State} (h : Answered s t) : t.thm.shut = s.thm.shut := congrArg ThmSt.shut (h.parts.2.2 .thm (by decide))

end Answered

theorem answerReg_pba (k : Nat) : AnswerReg (0x38000 + 4 * (k % 64)) ∧ 0x38000 + 4 * (k % 64) ≠ R.UPD_STAT := by
  simp only [AnswerReg, R.GLB_EVTOVF, R.UPD_STAT]
  omega

theorem answerReg_perr (i : Nat) : AnswerReg (R.CHN_PERR i) ∧ R.CHN_PERR i ≠ R.UPD_STAT := by
  simp only [AnswerReg, R.CHN_PERR, R.GLB_EVTOVF, R.UPD_STAT]
  omega

theorem answerReg_stat (i : Nat) : AnswerReg (R.QUE_STAT i) ∧ R.QUE_STAT i ≠ R.UPD_STAT := by
  simp only [AnswerReg, R.QUE_STAT, R.GLB_EVTOVF, R.UPD_STAT]
  omega

theorem answerReg_ret (i : Nat) : AnswerReg (R.QUE_RET i) ∧ R.QUE_RET i ≠ R.UPD_STAT := by
  simp only [AnswerReg, R.QUE_RET, R.GLB_EVTOVF, R.UPD_STAT]
  omega

theorem answerReg_core (i : Nat) : AnswerReg (R.SOR_TGTSTAT i) ∧ R.SOR_TGTSTAT i ≠ R.UPD_STAT := by
  simp only [AnswerReg, R.SOR_TGTSTAT, R.GLB_EVTOVF, R.UPD_STAT]
  omega

theorem answered_raise (s : State) (code : Nat) (det : Bytes) : Answered s (raise s code det) :=
  .of_stat (raise_keeps s code det (by decide) (by decide) (by decide) (by decide) Keeps.same)
    (raise_regs s code det answerReg_pba (by decide) answerReg_perr RegsBut.same)

theorem answered_tileReply (s : State) (p ltype rank lid : Nat) (slot : Option (Nat × Nat × Bytes)) (c : Bytes) :
    Answered s (tileReply s p ltype rank lid slot c) :=
  .of_stat (tileReply_keeps s p ltype rank lid slot c (by decide) (by decide) Keeps.same)
    (tileReply_regs s p ltype rank lid slot c answerReg_perr RegsBut.same)

theorem answered_complete40 (s : State) (it : Item) (words : Bytes) (c : Status) (dead : Bool) :
    Answered s (complete40 s it words c dead) :=
  .of_stat (complete40_keeps s it words c dead (by decide) (by decide) (by decide) (by decide) (by decide) (by decide) Keeps.same)
    (complete40_regs s it words c dead answerReg_pba answerReg_stat answerReg_ret RegsBut.same)

theorem answered_take {s x : State} {p : Letter → Bool} {l : Letter} (h : takeLetter s p = some (l, x)) : Answered s x := by
  rw [takeLetter_state h]
  exact .of_stat ((Keeps.chn (by decide)).2 Keeps.same) fun _ _ => rfl

theorem answered_coreTake {s x : State} {op : Nat} {it : Item} (h : coreTake s op = some (it, x)) : Answered s x :=
  .of_stat (coreTake_keeps (by decide) (by decide) h Keeps.same) (coreTake_regs answerReg_core h RegsBut.same)

theorem answered_updFetch (s : State) (e : Bytes) (n : Nat) (host : HostRes) : Answered s (updFetch s e n host).2 :=
  .of_stat (updFetch_keeps s e n host (by decide) (by decide) (by decide) (by decide) (by decide) (by decide) (by decide) Keeps.same)
    (updFetch_regs s e n host answerReg_pba (by decide) (by decide) answerReg_perr (by decide) (by decide) RegsBut.same)

theorem status_lt (c : Status) : c.code < 2 ^ 8 := by cases c <;> decide

/-- LASTCODE is set, and nothing else of UPD_STAT. -/
theorem answered_lastCode (s : State) (c : Status) : Answered s (lastCode s c) ∧ getF (lastCode s c) F.UPD_STAT_LASTCODE = c.code :=
  ⟨⟨lastCode_keeps s c (by decide) Keeps.same, lastCode_regs s c (by decide) RegsBut.same,
    getF_setF_beside s F.UPD_STAT_LASTCODE F.UPD_STAT_USTATE _ rfl (by decide) (by decide),
    getF_setF_beside s F.UPD_STAT_LASTCODE F.UPD_STAT_CUR _ rfl (by decide) (by decide)⟩,
    getF_setF_read s F.UPD_STAT_LASTCODE (status_lt c) (by decide)⟩

/-- A refusal of a PARCEL letter is counted and its code noted. -/
def refusalNoted (s : State) (c : Status) : State := if c = .ok ∨ c = .late then s else lastCode (incSat s F.CHN_LSTAT_REFUSED) c

theorem answered_incSat_refused (s : State) : Answered s (incSat s F.CHN_LSTAT_REFUSED) :=
  .of_stat (incSat_keeps s _ _ (by decide) Keeps.same) (incSat_regs s _ _ (by decide) RegsBut.same)

theorem answered_refusalNoted (s : State) (c : Status) : Answered s (refusalNoted s c) := by
  unfold refusalNoted
  split
  · exact .refl s
  · exact (answered_incSat_refused s).trans (answered_lastCode _ c).1

theorem parcelReply_eq (s : State) (l : Letter) (c : Status) (query : Option Nat) : parcelReply s l c query =
    if byteAt l.content 0 = 1 ∧ isBroadcast l.addr then refusalNoted s c
    else tileReply (refusalNoted s c) l.port l.ltype l.rank l.lid l.slot (parcelContent (refusalNoted s c) c query) := rfl

theorem answered_parcelReply (s : State) (l : Letter) (c : Status) (query : Option Nat) : Answered s (parcelReply s l c query) := by
  rw [parcelReply_eq]
  split
  · exact answered_refusalNoted s c
  · exact (answered_refusalNoted s c).trans (answered_tileReply _ _ _ _ _ _ _)

/-- A refusal leaves its code in LASTCODE (R574). -/
theorem parcelReply_refuses (s : State) (l : Letter) {c : Status} (query : Option Nat) (hok : c ≠ .ok) (hlate : c ≠ .late) :
    getF (parcelReply s l c query) F.UPD_STAT_LASTCODE = c.code := by
  have hnoted : getF (refusalNoted s c) F.UPD_STAT_LASTCODE = c.code := by
    rw [refusalNoted, if_neg (by simp [hok, hlate])]
    exact (answered_lastCode _ c).2
  rw [parcelReply_eq]
  split
  · exact hnoted
  · refine Eq.trans (congrArg F.UPD_STAT_LASTCODE.get (word_of_regs ?_)) hnoted
    exact tileReply_regs _ _ _ _ _ _ _ (fun i => by simp only [R.CHN_PERR, ne_eq]; omega) RegsBut.same

theorem updDone_eq (s : State) (it : Item) (c : Status) (result rcode : Nat) (dead : Bool) : updDone s it c result rcode dead =
    complete40 (if dead then lastCode s c else s) it
      (leBytes 4 result ++ leBytes 4 (timeNs (if dead then lastCode s c else s)) ++ [byte rcode]) c dead := rfl

theorem answered_updDone (s : State) (it : Item) (c : Status) (result rcode : Nat) (dead : Bool) :
    Answered s (updDone s it c result rcode dead) := by
  have hcode : Answered s (if dead then lastCode s c else s) := by
    cases dead with
    | true => exact (answered_lastCode s c).1
    | false => exact .refl s
  rw [updDone_eq]
  exact hcode.trans (answered_complete40 _ _ _ _ _)

/-! ### The cadence of the unit (R576) -/

/-- What tells a unit's cadence and its next frame boundary is as in `s`. -/
structure CadenceAs (s t : State) : Prop where
  lmp : t.lmp = s.lmp
  frt : t.frt = s.frt
  words : ∀ o ∈ [R.GLB_ROLE, R.THM_PWR, R.FRT_CTL, R.FRT_FRAME], t.word o = s.word o

namespace CadenceAs

theorem trans {s t u : State} (h : CadenceAs s t) (k : CadenceAs t u) : CadenceAs s u :=
  ⟨k.lmp.trans h.lmp, k.frt.trans h.frt, fun o ho => (k.words o ho).trans (h.words o ho)⟩

theorem isTile {s t : State} (h : CadenceAs s t) : isTile t = isTile s := isTile_of_word (h.words _ (by simp))

theorem cadenceOn {s t : State} (h : CadenceAs s t) : cadenceOn t = cadenceOn s := by
  have hen : isSet t F.FRT_CTL_EN = isSet s F.FRT_CTL_EN := isSet_congr (congrArg F.FRT_CTL_EN.get (h.words R.FRT_CTL (by simp)))
  have hp : power t = power s := congrArg F.THM_PWR_NOW.get (h.words R.THM_PWR (by simp))
  rw [Sys2Proof.Machine.cadenceOn, Sys2Proof.Machine.cadenceOn, h.isTile, h.lmp, frtOn, frtOn, frtEn, frtEn, hen, hp, h.frt]

theorem nextBoundary {s t : State} (h : CadenceAs s t) : nextBoundary t = nextBoundary s := by
  have hf : getF t F.FRT_FRAME_FRAME = getF s F.FRT_FRAME_FRAME := congrArg F.FRT_FRAME_FRAME.get (h.words R.FRT_FRAME (by simp))
  rw [Sys2Proof.Machine.nextBoundary, Sys2Proof.Machine.nextBoundary, h.isTile, h.lmp, hf]

theorem noModeHeld {s t : State} (h : CadenceAs s t) (hs : NoModeHeld s) : NoModeHeld t := by
  rw [NoModeHeld, h.isTile, h.lmp, h.frt]
  exact hs

end CadenceAs

theorem answerReg_cadence : ∀ o ∈ [R.GLB_ROLE, R.THM_PWR, R.FRT_CTL, R.FRT_FRAME], ¬ AnswerReg o ∧ o ≠ R.UPD_AFRAME := by decide

theorem Answered.cadence {s t : State} (h : Answered s t) : CadenceAs s t :=
  ⟨h.parts.2.2 .lmp (by decide), h.parts.2.2 .frt (by decide), fun o ho => h.words o (answerReg_cadence o ho).1⟩

/-! ### States of the update (R574) -/

/-- The update is in state `u`, the rest of it as it was. -/
structure Restated (s t : State) (u : Nat) : Prop where
  upd : t.upd = s.upd
  shut : t.thm.shut = s.thm.shut
  cadence : CadenceAs s t
  ustate : ustate t = u
  cur : curSlot t = curSlot s
  code : getF t F.UPD_STAT_LASTCODE = getF s F.UPD_STAT_LASTCODE

/-- USTATE shows `u`. -/
def ustateSet (s : State) (u : Nat) : State := setF (if u = 5 then dropHold s else s) F.UPD_STAT_USTATE u

theorem setUstate_cases (s : State) (u : Nat) : (ustate s = u ∧ setUstate s u = s) ∨
    ∃ det, setUstate s u = raise (ustateSet s u) 0x1701 det := by
  by_cases h : ustate s = u
  · exact .inl ⟨h, if_pos h⟩
  · exact .inr ⟨_, if_neg h⟩

theorem restated_setUstate (s : State) {u : Nat} (hu : u < 8) (h5 : u ≠ 5) : Restated s (setUstate s u) u := by
  have hset : ustateSet s u = setF s F.UPD_STAT_USTATE u := by rw [ustateSet, if_neg h5]
  rcases setUstate_cases s u with ⟨hsame, heq⟩ | ⟨det, heq⟩
  · rw [heq]
    exact ⟨rfl, rfl, ⟨rfl, rfl, fun _ _ => rfl⟩, hsame, rfl, rfl⟩
  · have hev := raise_eventSame (setF s F.UPD_STAT_USTATE u) 0x1701 det
    have hans := answered_raise (setF s F.UPD_STAT_USTATE u) 0x1701 det
    have hcad : CadenceAs s (setF s F.UPD_STAT_USTATE u) := ⟨setF_lmp _ _ _, setF_frt _ _ _, fun o ho => word_setF_ne _ _ _ fun he =>
      (answerReg_cadence o ho).1 (.inr (.inr (.inr (.inr he))))⟩
    rw [heq, hset]
    refine ⟨hans.upd.trans (setF_upd _ _ _), hans.shut.trans (by rw [setF_thm]), hcad.trans hans.cadence, hans.ustate.trans ?_, hans.cur.trans ?_,
      (hev.getF (by decide)).trans ?_⟩
    · exact getF_setF_read s F.UPD_STAT_USTATE hu (by decide)
    · exact getF_setF_beside s F.UPD_STAT_USTATE F.UPD_STAT_CUR _ rfl (by decide) (by decide)
    · exact getF_setF_beside s F.UPD_STAT_USTATE F.UPD_STAT_LASTCODE _ rfl (by decide) (by decide)

/-- UPD_HELD and UPD_PKGID alone follow the package. -/
theorem updShow_regsOnly (s : State) : Keeps [.regs] s (updShow s) ∧
    RegsBut (fun o => o = R.UPD_HELD ∨ ∃ k, o = R.UPD_PKGID k) s (updShow s) :=
  ⟨updShow_keeps s (by decide) Keeps.same, updShow_regs s (.inl rfl) (fun i => .inr ⟨i, rfl⟩) RegsBut.same⟩

theorem shown_ne {o : Nat} (h : o < 0x170000 ∨ o = R.UPD_STAT ∨ o = R.UPD_AFRAME) : ¬ (o = R.UPD_HELD ∨ ∃ k, o = R.UPD_PKGID k) := by
  simp only [R.UPD_HELD, R.UPD_PKGID, R.UPD_STAT, R.UPD_AFRAME] at h ⊢
  rintro (rfl | ⟨k, rfl⟩) <;> omega

/-- What showing the package leaves. -/
theorem updShow_same (s : State) : (updShow s).upd = s.upd ∧ (updShow s).thm = s.thm ∧ CadenceAs s (updShow s) ∧
    (updShow s).word R.UPD_STAT = s.word R.UPD_STAT := by
  obtain ⟨hk, hw⟩ := updShow_regsOnly s
  have hlow : ∀ o ∈ [R.GLB_ROLE, R.THM_PWR, R.FRT_CTL, R.FRT_FRAME], o < 0x170000 := by decide
  exact ⟨hk.2.2 .upd (by decide), hk.2.2 .thm (by decide), ⟨hk.2.2 .lmp (by decide), hk.2.2 .frt (by decide),
    fun o ho => hw o (shown_ne (.inl (hlow o ho)))⟩, hw _ (shown_ne (.inr (.inl rfl)))⟩

/-- The package is gone. -/
def pkgGone (s : State) : State := { s with upd := { s.upd with pkg := none } }

theorem pkgGone_same (s : State) : (pkgGone s).upd = { s.upd with pkg := none } ∧ (pkgGone s).regs = s.regs ∧ (pkgGone s).thm = s.thm :=
  ⟨rfl, rfl, rfl⟩

theorem pkgDrop_eq (s : State) : pkgDrop s = setUstate (updShow (pkgGone s)) 0 := rfl

/-- The package is dropped: USTATE is IDLE. -/
theorem pkgDrop_drops (s : State) : (pkgDrop s).upd = { s.upd with pkg := none } ∧ ustate (pkgDrop s) = 0 ∧
    getF (pkgDrop s) F.UPD_STAT_LASTCODE = getF s F.UPD_STAT_LASTCODE := by
  have hset := restated_setUstate (updShow (pkgGone s)) (u := 0) (by decide) (by decide)
  obtain ⟨hupd, _, _, hstat⟩ := updShow_same (pkgGone s)
  obtain ⟨hgone, hregs, _⟩ := pkgGone_same s
  rw [pkgDrop_eq]
  refine ⟨hset.upd.trans (hupd.trans hgone), hset.ustate, hset.code.trans ?_⟩
  rw [getF, hstat, ← getF, getF_congr hregs]

/-! ### Arming (R576, R577) -/

/-- Nothing is armed. -/
def armGone (s : State) : State := setF { s with upd := { s.upd with arm := none } } F.UPD_AFRAME_FRAME 0

theorem armGone_same (s : State) : (armGone s).upd = { s.upd with arm := none } ∧ (armGone s).thm = s.thm ∧
    (∀ o, o ≠ R.UPD_AFRAME → (armGone s).word o = s.word o) ∧ (armGone s).lmp = s.lmp ∧ (armGone s).frt = s.frt :=
  ⟨setF_upd _ _ _, setF_thm _ _ _, fun _ h => word_setF_ne _ _ _ h, setF_lmp _ _ _, setF_frt _ _ _⟩

/-- What disarming leaves. -/
structure Disarmed (s t : State) : Prop where
  upd : t.upd = { s.upd with arm := none }
  shut : t.thm.shut = s.thm.shut
  cadence : CadenceAs s t
  ustate : ustate t = ustate s
  cur : curSlot t = curSlot s

theorem disarmed_armGone (s : State) : Disarmed s (armGone s) := by
  obtain ⟨hupd, hthm, hword, hlmp, hfrt⟩ := armGone_same s
  have hstat := hword R.UPD_STAT (by decide)
  exact ⟨hupd, by rw [hthm], ⟨hlmp, hfrt, fun o ho => hword o (answerReg_cadence o ho).2⟩, congrArg F.UPD_STAT_USTATE.get hstat,
    congrArg F.UPD_STAT_CUR.get hstat⟩

theorem Disarmed.answered {s t u : State} (h : Disarmed s t) (k : Answered t u) : Disarmed s u :=
  ⟨k.upd.trans h.upd, k.shut.trans h.shut, h.cadence.trans k.cadence, k.ustate.trans h.ustate, k.cur.trans h.cur⟩

theorem answered_armDone (s : State) (a : Arm) (c : Status) : Answered s (armDone s a c) := by
  unfold armDone
  split
  · exact answered_updDone _ _ _ _ _ _
  · exact .refl s

theorem disarmed_disarm (s : State) (c : Status) : Disarmed s (disarm s c) := by
  unfold disarm
  split
  · exact (disarmed_armGone s).answered (answered_armDone _ _ _)
  next h => exact ⟨by rw [← h], rfl, ⟨rfl, rfl, fun _ _ => rfl⟩, rfl, rfl⟩

/-- An activation is armed: USTATE is ARMED, and UPD_AFRAME shows its frame. -/
def armed (s : State) (a : Arm) : State :=
  setF (setUstate { s with upd := { s.upd with arm := some a } } 4) F.UPD_AFRAME_FRAME a.frame

/-- An activation is noted. -/
def armNoted (s : State) (a : Arm) : State := { s with upd := { s.upd with arm := some a } }

theorem armNoted_same (s : State) (a : Arm) : (armNoted s a).upd = { s.upd with arm := some a } ∧ (armNoted s a).regs = s.regs ∧
    (armNoted s a).thm = s.thm ∧ CadenceAs s (armNoted s a) := ⟨rfl, rfl, rfl, rfl, rfl, fun _ _ => rfl⟩

theorem armed_eq (s : State) (a : Arm) : armed s a = setF (setUstate (armNoted s a) 4) F.UPD_AFRAME_FRAME a.frame := rfl

/-- What arming leaves. -/
structure Armed (s t : State) (a : Arm) : Prop where
  upd : t.upd = { s.upd with arm := some a }
  shut : t.thm.shut = s.thm.shut
  cadence : CadenceAs s t
  ustate : ustate t = 4
  cur : curSlot t = curSlot s
  frame : a.frame < 2 ^ 32 → getF t F.UPD_AFRAME_FRAME = a.frame

theorem armed_armed (s : State) (a : Arm) : Armed s (armed s a) a := by
  obtain ⟨hupd, hregs, hthm, hcad⟩ := armNoted_same s a
  have hset := restated_setUstate (armNoted s a) (u := 4) (by decide) (by decide)
  have hstat : ∀ f : Fld, f.off = R.UPD_STAT → getF (armed s a) f = getF (setUstate (armNoted s a) 4) f := fun f hf =>
    getF_setF_ne _ _ _ _ (by rw [hf]; decide)
  refine ⟨?_, ?_, ?_, (hstat _ rfl).trans hset.ustate, (hstat _ rfl).trans (hset.cur.trans (getF_congr hregs _)),
    fun h => getF_setF_read _ _ h (by decide)⟩
  · rw [armed_eq, setF_upd, hset.upd, hupd]
  · rw [armed_eq, setF_thm, hset.shut, hthm]
  · refine (hcad.trans hset.cadence).trans ⟨setF_lmp _ _ _, setF_frt _ _ _, fun o ho => word_setF_ne _ _ _ (answerReg_cadence o ho).2⟩

/-- A held mode alone moves an armed frame (R596). -/
theorem armMove_free {s : State} (h : NoModeHeld s) : armMove s = s := by
  unfold NoModeHeld at h
  unfold armMove
  by_cases ht : isTile s = true
  · rw [if_pos ht] at h
    dsimp only
    rw [if_pos ht, h]
    split
    next hheld => cases hheld
    · rfl
  · rw [if_neg ht] at h
    dsimp only
    rw [if_neg ht, h]
    split
    next hheld => cases hheld
    · rfl

/-- Has the instant of frame `f` passed? -/
def armPassed (s : State) (f : Nat) (now : Bool) : Bool := !now && cadenceOn s && !matOrAfter 32 f (nextBoundary s)

/-- The activation that arming frame `f` gives. -/
def armOf (s : State) (f : Nat) (now : Bool) (it : Option Item) : Arm :=
  if now then ⟨currentFrame s, it, armPassed s f now⟩ else ⟨if armPassed s f now then nextBoundary s else f, it, armPassed s f now⟩

/-- An armed activation is carried out at once where it is to be now. -/
def armGo (s : State) (now passed : Bool) : State :=
  if (now || !cadenceOn s) && !(s.upd.arm.any (fun b => b.late && !passed)) then activate s else s

theorem armSet_eq (s : State) (f : Nat) (now : Bool) (it : Option Item) : armSet s f now it =
    armGo (armMove (armed (disarm s .staleState) (armOf (disarm s .staleState) f now it))) now (armPassed (disarm s .staleState) f now) := by
  cases now <;> rfl

/-- A frame that has not passed is armed, and waits. -/
theorem armSet_later {s : State} {f : Nat} (it : Option Item) (hheld : NoModeHeld s) (hcad : cadenceOn s = true)
    (hf : matOrAfter 32 f (nextBoundary s) = true) : armSet s f false it = armed (disarm s .staleState) ⟨f, it, false⟩ := by
  have hdis := disarmed_disarm s .staleState
  have hpassed : armPassed (disarm s .staleState) f false = false := by
    rw [armPassed, hdis.cadence.nextBoundary, hf]
    simp
  have hof : armOf (disarm s .staleState) f false it = ⟨f, it, false⟩ := by
    rw [armOf, hpassed]
    rfl
  have harmed := armed_armed (disarm s .staleState) ⟨f, it, false⟩
  have hall := hdis.cadence.trans harmed.cadence
  rw [armSet_eq, hof, armMove_free (hall.noModeHeld hheld), armGo, hall.cadenceOn, hcad]
  exact if_neg (by simp)

/-- With NOW, the activation is carried out at once. -/
theorem armSet_now {s : State} (f : Nat) (it : Option Item) (hheld : NoModeHeld s) :
    armSet s f true it = activate (armed (disarm s .staleState) ⟨currentFrame (disarm s .staleState), it, false⟩) := by
  have hof : armOf (disarm s .staleState) f true it = ⟨currentFrame (disarm s .staleState), it, false⟩ := rfl
  have harmed := armed_armed (disarm s .staleState) ⟨currentFrame (disarm s .staleState), it, false⟩
  rw [armSet_eq, hof, armMove_free (((disarmed_disarm s .staleState).cadence.trans harmed.cadence).noModeHeld hheld), armGo, harmed.upd]
  exact if_pos (by simp)

/-- An activation completes what armed it and writes the record that names the staging slot (R577). -/
theorem activate_records {s : State} {a : Arm} (h : s.upd.arm = some a) :
    ∃ c det r, activate s = flashPush (raise (disarm s c) 0x1701 det) (.state r) ∧ r.cand = some (stagingSlot (raise (disarm s c) 0x1701 det)) ∧
      r.tries = 0 := by
  unfold activate
  rw [h]
  exact ⟨_, _, _, rfl, rfl, rfl⟩

theorem activate_writes {s : State} {a : Arm} (h : s.upd.arm = some a) (hshut : s.thm.shut = none) : (activate s).upd.arm = none ∧
    ∃ r, .state r ∈ (activate s).upd.ops ∧ r.cand = some (stagingSlot s) ∧ r.tries = 0 := by
  obtain ⟨c, det, r, heq, hcand, htries⟩ := activate_records h
  have hdone := (disarmed_disarm s c).answered (answered_raise (disarm s c) 0x1701 det)
  rw [heq, upd_flashPush _ (hdone.shut.trans hshut), hdone.upd]
  refine ⟨rfl, r, List.mem_append_right _ (List.mem_singleton.2 rfl), hcand.trans ?_, htries⟩
  rw [stagingSlot, stagingSlot, hdone.cur]

/-! ### Abandoning (R574) -/

theorem abandon_refused {s : State} (h : ustate s = 0 ∨ ustate s = 5) : abandon s = (.wrongState, s) := if_pos h

theorem abandon_drops {s : State} (h0 : ustate s ≠ 0) (h5 : ustate s ≠ 5) : (abandon s).1 = .ok ∧
    (abandon s).2.upd.pkg = none ∧ (abandon s).2.upd.arm = none ∧ ustate (abandon s).2 = 0 := by
  have heq : abandon s = (.ok, pkgDrop (disarm s .aborted)) := if_neg (by simp [h0, h5])
  obtain ⟨hupd, hstate, _⟩ := pkgDrop_drops (disarm s .aborted)
  rw [heq]
  dsimp only
  rw [hupd, (disarmed_disarm s .aborted).upd]
  exact ⟨rfl, rfl, rfl, hstate⟩

end Sys2Proof.Machine
end

section
/-! PROOF. Parcels by letter and by entry, arming, abandoning, and finished flash operations (R570, R572 to R574, R576). -/

set_option Elab.async false

namespace Sys2Proof.Machine

/-- A number of `n` bytes, read behind `a`, is below the next power of 256. -/
theorem beFold_lt (b : Bytes) (a : Nat) : b.foldl (fun a x => a * 256 + x.toNat) a < (a + 1) * 256 ^ b.length := by
  induction b generalizing a with
  | nil => simp
  | cons x t ih =>
    calc
      _ < (a * 256 + x.toNat + 1) * 256 ^ t.length := ih _
      _ ≤ ((a + 1) * 256) * 256 ^ t.length := Nat.mul_le_mul_right _ (by have := x.isLt; omega)
      _ = (a + 1) * 256 ^ (x :: t).length := by rw [List.length_cons, Nat.pow_succ, Nat.mul_assoc, Nat.mul_comm 256]

theorem beAt4_lt (b : Bytes) (i : Nat) : beAt b i 4 < 2 ^ 32 := by
  have h := beFold_lt (slice b i 4) 0
  rw [slice, List.length_map, List.length_range] at h
  exact h

/-! ### Parcels by letter (R572, R573) -/

theorem onParcel_taken {s x : State} {op : Nat} {l : Letter} (f : State → Letter → State) (h : ParcelTaken s op l x) :
    whenUpd s (fun s => onParcel s op f) = .next (f x l) := by
  obtain ⟨hon, htile, htake, _⟩ := h
  rw [whenUpd, whenOn_of_on hon, onParcel, if_pos htile, htake]

theorem exec_parcelData {s x : State} {l : Letter} (h : ParcelTaken s 1 l x) : exec .parcelData s = .next (parcelData x l) :=
  onParcel_taken parcelData h

theorem exec_parcelQuery {s x : State} {l : Letter} (h : ParcelTaken s 2 l x) : exec .parcelQuery s = .next (parcelQuery x l) :=
  onParcel_taken parcelQuery h

theorem exec_parcelArm {s x : State} {l : Letter} (h : ParcelTaken s 3 l x) : exec .parcelArm s = .next (parcelArm x l) :=
  onParcel_taken parcelArm h

theorem exec_parcelAbandon {s x : State} {l : Letter} (h : ParcelTaken s 4 l x) : exec .parcelAbandon s = .next (parcelAbandon x l) :=
  onParcel_taken parcelAbandon h

/-- What a DATA letter of the right form does, by the checks of R573. -/
def parcelJudged (s : State) (l : Letter) (k : Nat) (id data : Bytes) : Status → State
  | .ok => if crc32 data ≠ beAt l.content 24 4 then parcelReply s l .integrity
    else if parcelHeld s k then parcelReply s l .ok
    else parcelWrite (if k = 0 then pkgOpen s id data else s) k data (.letter l)
  | c => parcelReply s l c

theorem parcelData_judged {s : State} {l : Letter} (h : dataForm l.content) : parcelData s l =
    parcelJudged s l (beAt l.content 20 4) (slice l.content 4 16) (slice l.content 32 4096)
      (parcelCheck s (beAt l.content 20 4) (slice l.content 4 16) (slice l.content 32 4096) false) := by
  obtain ⟨hlen, hop, hfin, hz1, hz2⟩ := h
  have hform : ¬ (l.content.length ≠ 4128 ∨ byteAt l.content 0 ≠ 1 ∨ byteAt l.content 28 ≠ 0 ∨ !allZero (slice l.content 1 3) ∨
      !allZero (slice l.content 29 3)) := by simp [hlen, hop, hfin, hz1, hz2]
  unfold parcelData
  refine (if_neg hform).trans ?_
  cases parcelCheck s (beAt l.content 20 4) (slice l.content 4 16) (slice l.content 32 4096) false <;> rfl

theorem parcelJudged_refused (s : State) (l : Letter) (k : Nat) (id data : Bytes) {c : Status} (h : c ≠ .ok) :
    parcelJudged s l k id data c = parcelReply s l c := by
  cases c <;> first | rfl | exact absurd rfl h

/-- A new package is opened by its manifest. -/
theorem shut_pkgOpen (s : State) (id m : Bytes) : (pkgOpen s id m).thm.shut = s.thm.shut :=
  congrArg ThmSt.shut ((pkgOpen_keeps s id m (W0 := [.regs, .hif, .chn, .tan, .upd, .out, .free]) (by decide) (by decide) (by decide) (by decide)
    (by decide) (by decide) (by decide) Keeps.same).2.2 .thm (by decide))

/-- NVM is asked to write the parcel. -/
theorem parcelWrite_asks {s : State} (h : s.thm.shut = none) (k : Nat) (data : Bytes) (who : PFrom) :
    .parcel k data who ∈ (parcelWrite s k data who).upd.ops := by
  have hpush : ∀ t : State, t.thm.shut = none → .parcel k data who ∈ (flashPush t (.parcel k data who)).upd.ops := fun t ht => by
    rw [upd_flashPush _ ht]
    exact List.mem_append_right _ (List.mem_singleton.2 rfl)
  unfold parcelWrite
  dsimp only
  split
  · exact hpush s h
  · exact hpush _ ((congrArg ThmSt.shut (flashPush_same s _ .thm (by decide))).trans h)

theorem parcelData_takes {l : Letter} {x s : State} (h : ParcelTaken s 1 l x) (hform : dataForm l.content) :
    ∃ t, exec .parcelData s = .next t ∧
    (∀ c, parcelCheck x (beAt l.content 20 4) (slice l.content 4 16) (slice l.content 32 4096) false = c → c ≠ .ok → c ≠ .late →
      t.upd = s.upd ∧ getF t F.UPD_STAT_LASTCODE = c.code) ∧
    (parcelCheck x (beAt l.content 20 4) (slice l.content 4 16) (slice l.content 32 4096) false = .ok →
      crc32 (slice l.content 32 4096) ≠ beAt l.content 24 4 → t.upd = s.upd ∧ getF t F.UPD_STAT_LASTCODE = Status.integrity.code) ∧
    (parcelCheck x (beAt l.content 20 4) (slice l.content 4 16) (slice l.content 32 4096) false = .ok →
      crc32 (slice l.content 32 4096) = beAt l.content 24 4 → parcelHeld x (beAt l.content 20 4) = false → s.thm.shut = none →
      .parcel (beAt l.content 20 4) (slice l.content 32 4096) (.letter l) ∈ t.upd.ops) := by
  have htake := answered_take h.2.2.1
  have hrefused : ∀ c : Status, c ≠ .ok → c ≠ .late → (parcelReply x l c).upd = s.upd ∧
      getF (parcelReply x l c) F.UPD_STAT_LASTCODE = c.code := fun c hok hlate =>
    ⟨(htake.trans (answered_parcelReply x l c none)).upd, parcelReply_refuses x l none hok hlate⟩
  refine ⟨_, exec_parcelData h, ?_⟩
  rw [parcelData_judged hform]
  refine ⟨fun c hc hok hlate => ?_, fun hc hcrc => ?_, fun hc hcrc hheld hshut => ?_⟩
  · rw [hc, parcelJudged_refused x l _ _ _ hok]
    exact hrefused c hok hlate
  · rw [hc, parcelJudged, if_pos hcrc]
    exact hrefused .integrity (by decide) (by decide)
  · rw [hc, parcelJudged, if_neg (not_not.2 hcrc), hheld, if_neg (by decide)]
    refine parcelWrite_asks ?_ _ _ _
    have hx : x.thm.shut = none := htake.shut.trans hshut
    split
    · exact (shut_pkgOpen _ _ _).trans hx
    · exact hx

theorem parcelQuery_answers {l : Letter} {x s : State} (h : ParcelTaken s 2 l x) (hform : parcelForm l.content = true) :
    exec .parcelQuery s = .next (parcelReply x l (if parcelOurs x l.content then .ok else .staleState) (some (beAt l.content 20 4))) := by
  rw [exec_parcelQuery h, parcelQuery, hform, if_neg (by decide)]
  cases parcelOurs x l.content <;> rfl

theorem armable_congr {s t : State} (h : ustate t = ustate s) : armable t = armable s := by rw [armable, armable, h]

theorem parcelArm_refused {s : State} {l : Letter} (hform : parcelForm l.content = true) (h : armable s = false) :
    parcelArm s l = parcelReply s l .wrongState := by
  rw [parcelArm]
  dsimp only
  rw [hform, if_neg (by decide), h]
  rfl

/-- An ARM letter arms its frame and is answered. -/
theorem parcelArm_arms {s : State} {l : Letter} (hform : parcelForm l.content = true) (h : armable s = true) : ∃ c, parcelArm s l =
    parcelReply (armSet s (beAt l.content 24 4) ((byteAt l.content 28).testBit 0) none) l c := by
  rw [parcelArm]
  dsimp only
  rw [hform, if_neg (by decide), h, if_neg (by decide)]
  exact ⟨_, rfl⟩

/-- What an armed frame that waits shows, once whoever armed it is answered. -/
theorem armed_shows {s t u : State} {a : Arm} (h : Armed s t a) (k : Answered t u) (ha : a.frame < 2 ^ 32) :
    u.upd.arm = some a ∧ ustate u = 4 ∧ getF u F.UPD_AFRAME_FRAME = a.frame := by
  have hframe : getF u F.UPD_AFRAME_FRAME = getF t F.UPD_AFRAME_FRAME := congrArg F.UPD_AFRAME_FRAME.get (k.words _ (by decide))
  rw [k.upd, h.upd, k.ustate, hframe, h.frame ha]
  exact ⟨rfl, h.ustate, rfl⟩

theorem parcelArm_takes {l : Letter} {x s : State} (h : ParcelTaken s 3 l x) (hform : parcelForm l.content = true) :
    ∃ t, exec .parcelArm s = .next t ∧
    (armable s = false → t.upd = s.upd ∧ getF t F.UPD_STAT_LASTCODE = Status.wrongState.code) ∧
    (armable s = true → (byteAt l.content 28).testBit 0 = false → s.lmp.mode ≠ none → s.lmp.pend = none →
      matOrAfter 32 (beAt l.content 24 4) s.lmp.nextA = true → t.upd.arm = some ⟨beAt l.content 24 4, none, false⟩ ∧ ustate t = 4 ∧
      getF t F.UPD_AFRAME_FRAME = beAt l.content 24 4) := by
  have htake := answered_take h.2.2.1
  have htile : isTile x = true := htake.cadence.isTile.trans h.2.1
  refine ⟨_, exec_parcelArm h, fun harm => ?_, fun harm hlater hmode hpend hf => ?_⟩
  · rw [parcelArm_refused hform ((armable_congr htake.ustate).trans harm)]
    exact ⟨(htake.trans (answered_parcelReply x l _ none)).upd, parcelReply_refuses x l none (by decide) (by decide)⟩
  · have hheld : NoModeHeld x := by
      rw [NoModeHeld, if_pos htile, htake.cadence.lmp]
      exact hpend
    have hcad : cadenceOn x = true := by
      rw [cadenceOn, if_pos htile, htake.cadence.lmp]
      exact Option.isSome_iff_ne_none.2 hmode
    have hnext : nextBoundary x = s.lmp.nextA := by rw [nextBoundary, if_pos htile, htake.cadence.lmp]
    obtain ⟨c, heq⟩ := parcelArm_arms hform ((armable_congr htake.ustate).trans harm)
    rw [heq, hlater, armSet_later none hheld hcad (by rw [hnext]; exact hf)]
    exact armed_shows (armed_armed _ _) (answered_parcelReply _ l c none) (beAt4_lt _ _)

theorem parcelAbandon_refused {s : State} {l : Letter} (hform : parcelForm l.content = true) (h : ustate s = 5) :
    parcelAbandon s l = parcelReply s l .wrongState := by
  rw [parcelAbandon, hform, if_neg (by decide), if_pos h]

theorem parcelAbandon_abandons {s : State} {l : Letter} (hform : parcelForm l.content = true) (h : ustate s ≠ 5)
    (hours : parcelOurs s l.content = true) : parcelAbandon s l = parcelReply (abandon s).2 l (abandon s).1 := by
  rw [parcelAbandon, hform, if_neg (by decide), if_neg h, hours, if_neg (by decide)]

theorem parcelAbandon_takes {l : Letter} {x s : State} (h : ParcelTaken s 4 l x) (hform : parcelForm l.content = true) :
    ∃ t, exec .parcelAbandon s = .next t ∧
    (ustate s = 5 → t.upd = s.upd ∧ getF t F.UPD_STAT_LASTCODE = Status.wrongState.code) ∧
    (ustate s ≠ 5 → ustate s ≠ 0 → parcelOurs s l.content = true → t.upd.pkg = none ∧ t.upd.arm = none ∧ ustate t = 0) := by
  have htake := answered_take h.2.2.1
  have hstate := htake.ustate
  refine ⟨_, exec_parcelAbandon h, fun h5 => ?_, fun h5 h0 hours => ?_⟩
  · rw [parcelAbandon_refused hform (hstate.trans h5)]
    exact ⟨(htake.trans (answered_parcelReply x l _ none)).upd, parcelReply_refuses x l none (by decide) (by decide)⟩
  · have hx : parcelOurs x l.content = true := by
      rw [parcelOurs, htake.upd]
      exact hours
    have hx5 : ustate x ≠ 5 := by rwa [hstate]
    obtain ⟨_, hpkg, harm, hzero⟩ := abandon_drops (s := x) (by rwa [hstate]) hx5
    have hreply := answered_parcelReply (abandon x).2 l (abandon x).1 none
    rw [parcelAbandon_abandons hform hx5 hx, hreply.upd, hreply.ustate]
    exact ⟨hpkg, harm, hzero⟩

/-! ### STAGE (R582) -/

theorem exec_stageEntry {s x : State} {it : Item} (h : EntryTaken s 0x17 0x60 it x) (hw : updWaits s it = false) (host : HostRes) :
    exec (.stageEntry host) s = .next (stageEntry x it host) := by
  obtain ⟨hon, htake⟩ := h
  show execStageEntry host s = _
  rw [execStageEntry, whenUpd, whenOn_of_on hon, onEntryRead, htake]
  dsimp only
  rw [hw, if_neg (by decide)]

/-- A parcel that the package needs and does not hold passes the checks of STAGE. -/
theorem parcelCheck_needed {s : State} {p : Pkg} {k : Nat} {data : Bytes} (hk : k ≠ 0) (hst : ustate s = 1) (hpkg : s.upd.pkg = some p)
    (hlt : k < nParcel p.manifest) (hneed : needed p.manifest k = true) : parcelCheck s k p.id data false = .ok := by
  rw [parcelCheck, if_neg hk, if_neg (by simp [hst]), hpkg]
  dsimp only
  rw [if_neg (by simp), if_neg (by simp [hneed]; omega)]

/-- The package is not complete where a needed parcel is not held. -/
theorem pkg_not_full {p : Pkg} {k : Nat} (hlt : k < nParcel p.manifest) (hneed : needed p.manifest k = true)
    (hheld : p.held.contains k = false) : (neededList p.manifest).all (fun j => p.held.contains j || List.contains [] j) = false := by
  have hmem : k ∈ neededList p.manifest := List.mem_filter.2 ⟨List.mem_range.2 hlt, hneed⟩
  refine Bool.eq_false_iff.2 fun hall => ?_
  have hk := List.all_eq_true.1 hall k hmem
  rw [hheld] at hk
  exact Bool.false_ne_true hk

theorem stageWalk_one {s : State} {p : Pkg} {k : Nat} (b : Bytes) (hk : k ≠ 0) (hst : ustate s = 1) (hpkg : s.upd.pkg = some p)
    (hlt : k < nParcel p.manifest) (hneed : needed p.manifest k = true) (hheld : p.held.contains k = false) :
    stageWalk 1 k b [] s = (.ok, [(k, fit 4096 b)], s) := by
  have hfull : (s.upd.pkg.any fun p => (neededList p.manifest).all fun j => p.held.contains j ||
      List.contains (List.map Prod.fst ([] : List (Nat × Bytes))) j) = false := by
    rw [hpkg]
    exact pkg_not_full hlt hneed hheld
  have hcheck := parcelCheck_needed (data := fit 4096 b) hk hst hpkg hlt hneed
  have hnot : parcelHeld s k = false := by
    rw [parcelHeld, hpkg]
    exact hheld
  rw [stageWalk]
  dsimp only
  rw [hfull, if_neg hk, hpkg]
  dsimp only
  rw [hcheck]
  dsimp only
  rw [if_neg hk, hnot, stageWalk, if_neg Bool.false_ne_true, List.nil_append]

/-- STAGE hands NVM the one parcel it carries. -/
theorem stageApply_one {s : State} {it : Item} {p : Pkg} {b : Bytes} (hn : leAt it.entry 10 2 = 1) (hk : leAt it.entry 4 4 ≠ 0)
    (hst : ustate s = 1) (hpkg : s.upd.pkg = some p) (hlt : leAt it.entry 4 4 < nParcel p.manifest)
    (hneed : needed p.manifest (leAt it.entry 4 4) = true) (hheld : p.held.contains (leAt it.entry 4 4) = false) :
    stageApply s it b = parcelWrite s (leAt it.entry 4 4) (fit 4096 b) (.stage it (some .ok)) := by
  rw [stageApply, hn, stageWalk_one b hk hst hpkg hlt hneed hheld]
  generalize fit 4096 b = d
  rfl

theorem stageEntry_takes {host : HostRes} {it : Item} {x z s : State} {b : Bytes} {p : Pkg} (h : EntryTaken s 0x17 0x60 it x)
    (hw : updWaits s it = false) (hres : updReserved it.entry = true) (hn : leAt it.entry 10 2 = 1)
    (hread : updFetch x it.entry 4096 host = (.ok b, z)) (hk : leAt it.entry 4 4 ≠ 0) (hst : ustate x = 1) (hpkg : x.upd.pkg = some p)
    (hlt : leAt it.entry 4 4 < nParcel p.manifest) (hneed : needed p.manifest (leAt it.entry 4 4) = true)
    (hheld : p.held.contains (leAt it.entry 4 4) = false) (hshut : s.thm.shut = none) : ∃ t, exec (.stageEntry host) s = .next t ∧
      .parcel (leAt it.entry 4 4) (fit 4096 b) (.stage it (some .ok)) ∈ t.upd.ops := by
  have hz : Answered x z := by
    have hfetch := answered_updFetch x it.entry 4096 host
    rwa [hread] at hfetch
  have hzshut : z.thm.shut = none := hz.shut.trans ((answered_coreTake h.2).shut.trans hshut)
  have heq : stageEntry x it host = parcelWrite z (leAt it.entry 4 4) (fit 4096 b) (.stage it (some .ok)) := by
    rw [stageEntry]
    dsimp only
    rw [hres, if_neg (by decide), hn, Nat.mul_one, hread]
    exact stageApply_one hn hk (hz.ustate.trans hst) ((congrArg UpdSt.pkg hz.upd).trans hpkg) hlt hneed hheld
  rw [exec_stageEntry h hw, heq]
  exact ⟨_, rfl, parcelWrite_asks hzshut _ _ _⟩

/-! ### Finished flash operations (R570) -/

theorem exec_flashOperationDone {s : State} {o : FlashOp} {rest : List FlashOp} (hon : blkOn s 0x17 = true) (h : s.upd.ops = o :: rest) (ok : Bool) :
    exec (.flashOperationDone ok) s = .next (flashEffect (flashNext s) o ok) := by
  show execFlashOperationDone ok s = _
  rw [execFlashOperationDone, whenUpd, whenOn_of_on hon, flashDone, h]

/-- The operation at the head is off the queue. -/
def opDropped (s : State) : State := { s with upd := { s.upd with ops := s.upd.ops.drop 1 } }

theorem opDropped_same (s : State) : (opDropped s).upd = { s.upd with ops := s.upd.ops.drop 1 } ∧ (opDropped s).regs = s.regs := ⟨rfl, rfl⟩

theorem flashNext_eq (s : State) : flashNext s = flashStart (opDropped s) := rfl

theorem upd_flashNext {s : State} {o : FlashOp} {rest : List FlashOp} (h : s.upd.ops = o :: rest) :
    (flashNext s).upd = { s.upd with ops := rest } := by
  rw [flashNext_eq, flashStart_same _ .upd (by decide), (opDropped_same s).1, h]
  rfl

theorem regs_flashOut (s : State) (o : FlashOp) : (flashOut s o).regs = s.regs := by
  cases o <;> rfl

/-- Starting what comes next changes BUSY alone. -/
theorem getF_flashNext (s : State) (f : Fld) (h : F.NVM_STAT_BUSY.apart f = true) (hf : f.lo + f.width ≤ 32) :
    getF (flashNext s) f = getF s f := by
  have hbusy : ∀ b, getF (setF (opDropped s) F.NVM_STAT_BUSY b) f = getF s f := fun b =>
    (getF_setF_other _ b h hf).trans (getF_congr (opDropped_same s).2 f)
  rw [flashNext_eq, flashStart]
  split
  · exact (getF_congr (regs_flashOut _ _) f).trans (hbusy 1)
  · exact hbusy 0

theorem stagingSlot_flashNext (s : State) : stagingSlot (flashNext s) = stagingSlot s := by
  rw [stagingSlot, stagingSlot, curSlot, curSlot, getF_flashNext s _ (by decide) (by decide)]

theorem slotStart_flashNext (s : State) (k : Nat) : slotStart (flashNext s) k = slotStart s k := by
  rw [slotStart, slotStart, slotBytes, slotBytes, nvmSize, nvmSize, nvmDevice, nvmDevice,
    getF_flashNext s F.NVM_STAT_NDEV (by decide) (by decide), getF_flashNext s F.NVM_STAT_SIZEMIB4 (by decide) (by decide)]

/-- The package and the flash are as before. -/
def PkgSame (s t : State) : Prop := t.upd.pkg = s.upd.pkg ∧ t.upd.flash = s.upd.flash

theorem Answered.pkgSame {s t : State} (h : Answered s t) : PkgSame s t := by
  rw [PkgSame, h.upd]
  exact ⟨rfl, rfl⟩

theorem pkgSame_parcelEnd (s : State) (who : PFrom) (c : Status) : PkgSame s (parcelEnd s who c) := by
  cases who with
  | letter l => exact (answered_parcelReply s l c none).pkgSame
  | stage it last =>
    unfold parcelEnd
    dsimp only
    split
    · exact (answered_updDone _ it c _ _ _).pkgSame
    · split
      · exact (answered_updDone _ it _ _ _ _).pkgSame
      · exact ⟨rfl, rfl⟩

theorem pkgSame_pkgFull (s : State) : PkgSame s (pkgFull s) := by
  rw [pkgFull]
  split
  · rw [PkgSame, (restated_setUstate s (u := 2) (by decide) (by decide)).upd]
    exact ⟨rfl, rfl⟩
  · exact ⟨rfl, rfl⟩

theorem pkgSame_flashPush (s : State) (o : FlashOp) : PkgSame s (flashPush s o) := by
  have hq : PkgSame s (opQueued s o) := by
    rw [PkgSame, upd_opQueued]
    exact ⟨rfl, rfl⟩
  rw [flashPush_eq]
  split
  · exact ⟨rfl, rfl⟩
  · split
    · rw [PkgSame, flashStart_same _ .upd (by decide)]
      exact hq
    · exact hq

/-- A parcel that read back correctly is stored and held. -/
def parcelStored (s : State) (p : Pkg) (k : Nat) (data : Bytes) : State :=
  { flashWr s (stagingSlot s) (4096 * k) data with
    upd := { (flashWr s (stagingSlot s) (4096 * k) data).upd with pkg := some { p with held := p.held ++ [k] } } }

theorem parcelStored_same (s : State) (p : Pkg) (k : Nat) (data : Bytes) :
    (parcelStored s p k data).upd.pkg = some { p with held := p.held ++ [k] } ∧
    (parcelStored s p k data).upd.flash = wrBytes flashFill s.upd.flash (slotStart s (stagingSlot s) + 4096 * k) data := ⟨rfl, rfl⟩

/-- The sector of a parcel that did not read back is not erased any more. -/
def sectorLost (s : State) (p : Pkg) (k : Nat) : State :=
  { s with upd := { s.upd with pkg := some { p with erased := p.erased.filter (· != k / 16) } } }

theorem flashEffect_stored {s : State} {p : Pkg} {k : Nat} (data : Bytes) (who : PFrom) (hpkg : s.upd.pkg = some p)
    (hheld : p.held.contains k = false) :
    flashEffect s (.parcel k data who) true = pkgFull (parcelEnd (updShow (parcelStored s p k data)) who .ok) := by
  rw [flashEffect]
  dsimp only
  rw [hpkg]
  dsimp only
  rw [hheld]
  rfl

theorem flashEffect_lost {s : State} {p : Pkg} {k : Nat} (data : Bytes) (who : PFrom) (hpkg : s.upd.pkg = some p)
    (hheld : p.held.contains k = false) : flashEffect s (.parcel k data who) false =
      parcelEnd (markMissing (sectorLost s p k) (fun j => j / 16 == k / 16)) who .busError := by
  rw [flashEffect]
  dsimp only
  rw [hpkg]
  dsimp only
  rw [hheld]
  rfl

theorem PkgSame.trans {s t u : State} (h : PkgSame s t) (k : PkgSame t u) : PkgSame s u := ⟨k.1.trans h.1, k.2.trans h.2⟩

theorem rdBytes_wrBytes (d : Byte) (m : List Host.Cell) (a : Nat) (b : Bytes) : rdBytes d (wrBytes d m a b) a b.length = b := by
  rw [rdBytes]
  refine List.ext_getElem (by simp) fun i _ h => ?_
  rw [List.getElem_map, List.getElem_range, rdByte_wrBytes_in d m a b i h]

/-- A parcel that reads back correctly is held, its bytes in the slot. -/
theorem parcel_stored {s : State} {p : Pkg} {k : Nat} (data : Bytes) (who : PFrom) (hpkg : s.upd.pkg = some p)
    (hheld : p.held.contains k = false) :
    (∃ q, (flashEffect s (.parcel k data who) true).upd.pkg = some q ∧ q.held = p.held ++ [k]) ∧
    rdBytes flashFill (flashEffect s (.parcel k data who) true).upd.flash (slotStart s (stagingSlot s) + 4096 * k) data.length = data := by
  have hshow : PkgSame (parcelStored s p k data) (updShow (parcelStored s p k data)) := by
    rw [PkgSame, (updShow_same _).1]
    exact ⟨rfl, rfl⟩
  obtain ⟨hp, hf⟩ := (hshow.trans (pkgSame_parcelEnd _ who .ok)).trans (pkgSame_pkgFull _)
  obtain ⟨hpkg', hflash⟩ := parcelStored_same s p k data
  rw [flashEffect_stored data who hpkg hheld, hp, hf, hpkg', hflash]
  exact ⟨⟨_, rfl, rfl⟩, rdBytes_wrBytes _ _ _ _⟩

/-- Parcels that are missing again are not held. -/
theorem pkg_markMissing {s : State} {p : Pkg} (h : s.upd.pkg = some p) (f : Nat → Bool) :
    (markMissing s f).upd.pkg = some { p with held := p.held.filter (fun k => !f k) } := by
  rw [markMissing, (updShow_same _).1, pushMaps, ((pkgSame_flashPush _ _).trans (pkgSame_flashPush _ _)).1]
  dsimp only
  rw [h]
  rfl

/-- A parcel that does not read back takes its sector's parcels with it. -/
theorem parcel_lost {s : State} {p : Pkg} {k : Nat} (data : Bytes) (who : PFrom) (hpkg : s.upd.pkg = some p)
    (hheld : p.held.contains k = false) :
    ∃ q, (flashEffect s (.parcel k data who) false).upd.pkg = some q ∧ ∀ j ∈ q.held, j / 16 ≠ k / 16 := by
  rw [flashEffect_lost data who hpkg hheld, (pkgSame_parcelEnd _ who .busError).1, pkg_markMissing rfl]
  exact ⟨_, rfl, fun j hj => by simpa using (List.mem_filter.1 hj).2⟩

/-- What a table reads once the entries of a range are gone. -/
theorem rdByte_cleared (d : Byte) (m : List Host.Cell) (a b i : Nat) :
    rdByte d (m.filter (fun e => !(a ≤ e.1 && e.1 < b))) i = if a ≤ i ∧ i < b then d else rdByte d m i := by
  split
  next h =>
    have hnone : (m.filter (fun e => !(a ≤ e.1 && e.1 < b))).find? (fun e => e.1 == i) = none := by
      refine List.find?_eq_none.2 fun e he hi => ?_
      have hkept := (List.mem_filter.1 he).2
      rw [beq_iff_eq.1 hi] at hkept
      simp [h.1, h.2] at hkept
    rw [rdByte, tget, hnone]
  next h =>
    refine tget_filter _ _ _ _ fun e he => ?_
    rw [he]
    simp
    omega

theorem flash_sectorErased (s : State) (k : Nat) : (sectorErased s k).upd.flash = s.upd.flash.filter (fun e =>
    !(slotStart s (stagingSlot s) + 65536 * k ≤ e.1 && e.1 < slotStart s (stagingSlot s) + 65536 * k + 65536)) := rfl

theorem flashDone_takes {ok : Bool} {o : FlashOp} {rest : List FlashOp} {s : State} (hon : blkOn s 0x17 = true) (hops : s.upd.ops = o :: rest) :
    ∃ t, exec (.flashOperationDone ok) s = .next t ∧
    (∀ k d who p, o = .parcel k d who → s.upd.pkg = some p → p.held.contains k = false →
      (ok = true → (∃ q, t.upd.pkg = some q ∧ q.held = p.held ++ [k]) ∧
        rdBytes flashFill t.upd.flash (slotStart s (stagingSlot s) + 4096 * k) d.length = d) ∧
      (ok = false → ∃ q, t.upd.pkg = some q ∧ ∀ j ∈ q.held, j / 16 ≠ k / 16)) ∧
    (∀ k a, o = .erase k → ok = true → rdByte flashFill t.upd.flash a =
      if slotStart s (stagingSlot s) + 65536 * k ≤ a ∧ a < slotStart s (stagingSlot s) + 65536 * k + 65536 then flashFill
      else rdByte flashFill s.upd.flash a) ∧
    (∀ r, o = .journal r → t.upd.journal = s.upd.journal ++ [r] ∧ t.upd.ops = rest) ∧
    (o = .newMaps → t.upd.maps = (s.upd.maps + 1) % 4 ∧ t.upd.ops = rest) := by
  have hupd := upd_flashNext hops
  have hslot : slotStart s (stagingSlot s) = slotStart (flashNext s) (stagingSlot (flashNext s)) := by
    rw [stagingSlot_flashNext, slotStart_flashNext]
  refine ⟨_, exec_flashOperationDone hon hops ok, ?_, ?_, ?_, ?_⟩
  · rintro k d who p rfl hpkg hheld
    have hpkg' : (flashNext s).upd.pkg = some p := (congrArg UpdSt.pkg hupd).trans hpkg
    refine ⟨?_, ?_⟩
    · rintro rfl
      rw [hslot]
      exact parcel_stored d who hpkg' hheld
    · rintro rfl
      exact parcel_lost d who hpkg' hheld
  · rintro k a rfl rfl
    have hflash : (flashNext s).upd.flash = s.upd.flash := by rw [hupd]
    rw [hslot, flashEffect, if_pos rfl, flash_sectorErased, rdByte_cleared, hflash]
  · rintro r rfl
    rw [flashEffect, hupd]
    exact ⟨rfl, rfl⟩
  · rintro rfl
    rw [flashEffect, hupd]
    exact ⟨rfl, rfl⟩

/-- Settles O58: the checks of R573 decide what a DATA letter does, and what a finished flash operation stores is read back. -/
theorem parcels : Obligations.Parcels := by
  unfold Obligations.Parcels
  exact ⟨fun _ _ _ _ h hform => parcelData_takes h hform,
    fun _ _ _ h hform => parcelQuery_answers h hform,
    fun _ _ _ _ h hform => parcelArm_takes h hform,
    fun _ _ _ _ h hform => parcelAbandon_takes h hform,
    fun _ _ _ _ _ _ _ _ h hw hres hn hread hk hst hpkg hlt hneed hheld hshut =>
      stageEntry_takes h hw hres hn hread hk hst hpkg hlt hneed hheld hshut,
    fun _ _ _ _ _ hon hops => flashDone_takes hon hops⟩

end Sys2Proof.Machine
end

section
/-! PROOF. Activation, verifying, confirmation and recovery (R574 to R577, R579, R583, R585). -/

set_option Elab.async false

namespace Sys2Proof.Machine

/-! ### Entries (R582) -/

theorem onEntry_taken {s x : State} {op : Nat} {it : Item} (f : State → Item → State) (h : EntryTaken s 0x17 op it x) :
    whenUpd s (fun s => onEntry s op f) = .next (f x it) := by
  obtain ⟨hon, htake⟩ := h
  rw [whenUpd, whenOn_of_on hon, onEntry, htake]

theorem exec_activateEntry {s x : State} {it : Item} (h : EntryTaken s 0x17 0x62 it x) : exec .activateEntry s = .next (activateEntry x it) :=
  onEntry_taken activateEntry h

theorem exec_confirmEntry {s x : State} {it : Item} (h : EntryTaken s 0x17 0x63 it x) : exec .confirmEntry s = .next (confirmEntry x it) :=
  onEntry_taken confirmEntry h

theorem exec_abandonEntry {s x : State} {it : Item} (h : EntryTaken s 0x17 0x64 it x) : exec .abandonEntry s = .next (abandonEntry x it) :=
  onEntry_taken abandonEntry h

theorem activateEntry_refused {s : State} {it : Item} (hres : updReserved it.entry = true) (h : armable s = false) :
    activateEntry s it = updDone s it .wrongState 0 0xFF := by
  rw [activateEntry, hres, if_neg (by decide), h]
  rfl

theorem activateEntry_arms {s : State} {it : Item} (hres : updReserved it.entry = true) (h : armable s = true) :
    activateEntry s it = armSet s (leAt it.entry 4 4) ((byteAt it.entry 1).testBit 0) (some it) := by
  rw [activateEntry, hres, if_neg (by decide), h, if_neg (by decide)]

theorem activateEntry_takes {it : Item} {x s : State} (h : EntryTaken s 0x17 0x62 it x) (hres : updReserved it.entry = true) :
    ∃ t, exec .activateEntry s = .next t ∧
    (armable x = false → t = updDone x it .wrongState 0 0xFF) ∧
    (armable x = true → NoModeHeld x → (byteAt it.entry 1).testBit 0 = false → cadenceOn x = true →
      matOrAfter 32 (leAt it.entry 4 4) (nextBoundary x) = true →
      t.upd.arm = some ⟨leAt it.entry 4 4, some it, false⟩ ∧ ustate t = 4 ∧ getF t F.UPD_AFRAME_FRAME = leAt it.entry 4 4) ∧
    (armable x = true → NoModeHeld x → (byteAt it.entry 1).testBit 0 = true → s.thm.shut = none →
      t.upd.arm = none ∧ ∃ r, .state r ∈ t.upd.ops ∧ r.cand = some (stagingSlot x) ∧ r.tries = 0) := by
  refine ⟨_, exec_activateEntry h, activateEntry_refused hres, fun harm hheld hlater hcad hf => ?_, fun harm hheld hnow hshut => ?_⟩
  · rw [activateEntry_arms hres harm, hlater, armSet_later _ hheld hcad hf]
    exact armed_shows (armed_armed _ _) (.refl _) (leAt_lt _ _ _)
  · have hdis := disarmed_disarm x .staleState
    have harmed := armed_armed (disarm x .staleState) ⟨currentFrame (disarm x .staleState), some it, false⟩
    have hx : x.thm.shut = none := (answered_coreTake h.2).shut.trans hshut
    have hstaging : stagingSlot (armed (disarm x .staleState) ⟨currentFrame (disarm x .staleState), some it, false⟩) = stagingSlot x := by
      rw [stagingSlot, stagingSlot, harmed.cur, hdis.cur]
    rw [activateEntry_arms hres harm, hnow, armSet_now _ _ hheld, ← hstaging]
    exact activate_writes (congrArg UpdSt.arm harmed.upd) (harmed.shut.trans (hdis.shut.trans hx))

theorem hostConfirm_same (s : State) : (hostConfirm s).upd.confirm = true ∧ (hostConfirm s).upd.pkg = s.upd.pkg := ⟨rfl, rfl⟩

theorem confirmEntry_takes {it : Item} {x s : State} (h : EntryTaken s 0x17 0x63 it x) (hres : updReserved it.entry = true) :
    ∃ t, exec .confirmEntry s = .next t ∧
    (ustate x = 5 → t.upd.confirm = true) ∧ (ustate x ≠ 5 → t = updDone x it .wrongState 0 0xFF) := by
  refine ⟨_, exec_confirmEntry h, fun h5 => ?_, fun h5 => ?_⟩
  · rw [confirmEntry, hres, if_neg (by decide), if_neg (not_not.2 h5), (answered_updDone _ _ _ _ _ _).upd]
    exact (hostConfirm_same x).1
  · rw [confirmEntry, hres, if_neg (by decide), if_pos h5]

theorem abandonEntry_takes {it : Item} {x s : State} (h : EntryTaken s 0x17 0x64 it x) (hres : updReserved it.entry = true) :
    ∃ t, exec .abandonEntry s = .next t ∧
    (ustate x = 0 ∨ ustate x = 5 → t = updDone x it .wrongState 0 0xFF) ∧
    (ustate x ≠ 0 → ustate x ≠ 5 → t.upd.pkg = none ∧ t.upd.arm = none ∧ ustate t = 0) := by
  have heq : abandonEntry x it = updDone (abandon x).2 it (abandon x).1 0 0xFF := by rw [abandonEntry, hres, if_neg (by decide)]
  refine ⟨_, exec_abandonEntry h, fun hidle => ?_, fun h0 h5 => ?_⟩
  · rw [heq, abandon_refused hidle]
  · obtain ⟨_, hpkg, harm, hzero⟩ := abandon_drops h0 h5
    have hdone := answered_updDone (abandon x).2 it (abandon x).1 0 0xFF ((abandon x).1 != .ok && (abandon x).1 != .late)
    rw [heq, hdone.upd, hdone.ustate]
    exact ⟨hpkg, harm, hzero⟩

/-! ### UPD_CTL (R585) -/

/-- A write that is accepted breaks no rule. -/
theorem firstCode_ok {cs : List Status} (h : firstCode cs = .ok) {c : Status} (hc : c ∈ writeCodeOrder) : c ∉ cs := by
  unfold firstCode at h
  split at h
  next d hd =>
    have hmem := List.mem_of_find?_eq_some hd
    rw [h] at hmem
    exact absurd hmem (by decide)
  next hnone => simpa using List.find?_eq_none.1 hnone c hc

theorem stateChecks_of_writeCode {s : State} {off : Nat} {v : Word} (h : writeCode s off v = .ok) {c : Status} (hc : c ∈ writeCodeOrder) :
    c ∉ stateChecks s off v := by
  unfold writeCode at h
  dsimp only at h
  split at h
  · split at h <;> cases h
  · split at h
    · cases h
    · exact fun hmem => firstCode_ok h hc (List.mem_append_right _ hmem)

theorem exec_updConfirmWrite {s : State} (h : WriteOk s R.UPD_CTL (F.UPD_CTL_CONFIRM.put 0#32 1)) :
    exec .updConfirmWrite s = .next (hostConfirm (storeReg s R.UPD_CTL (F.UPD_CTL_CONFIRM.put 0#32 1))) := by
  refine congrArg Host.Outcome.next ((hostWrite_accepted (by decide) (by decide) h).trans ?_)
  rw [regEffect_17 _ _ _ (by decide), effectUpd, if_pos rfl]
  dsimp only
  rw [if_neg (by decide), if_pos (by decide)]

theorem exec_updAbandonWrite {s : State} (h : WriteOk s R.UPD_CTL (F.UPD_CTL_ABANDON.put 0#32 1)) :
    exec .updAbandonWrite s = .next (abandon (storeReg s R.UPD_CTL (F.UPD_CTL_ABANDON.put 0#32 1))).2 := by
  refine congrArg Host.Outcome.next ((hostWrite_accepted (by decide) (by decide) h).trans ?_)
  rw [regEffect_17 _ _ _ (by decide), effectUpd, if_pos rfl]
  dsimp only
  rw [if_pos (by decide), if_neg (by decide)]

theorem updConfirmWrite_confirms {s : State} (h : WriteOk s R.UPD_CTL (F.UPD_CTL_CONFIRM.put 0#32 1)) :
    ∃ t, exec .updConfirmWrite s = .next t ∧ t.upd.confirm = true ∧ t.upd.pkg = s.upd.pkg := by
  have hupd : (storeReg s R.UPD_CTL (F.UPD_CTL_CONFIRM.put 0#32 1)).upd = s.upd := storeReg_same s _ _ .upd (by decide)
  obtain ⟨hconfirm, hpkg⟩ := hostConfirm_same (storeReg s R.UPD_CTL (F.UPD_CTL_CONFIRM.put 0#32 1))
  exact ⟨_, exec_updConfirmWrite h, hconfirm, hpkg.trans (congrArg UpdSt.pkg hupd)⟩

/-- ABANDON is not accepted while there is nothing to drop, or in TRIAL. -/
theorem abandonable_of_writeCode {s : State} (h : writeCode s R.UPD_CTL (F.UPD_CTL_ABANDON.put 0#32 1) = .ok) :
    ustate s ≠ 0 ∧ ustate s ≠ 5 := by
  have hchk : Status.wrongState ∉ checkUpd s R.UPD_CTL (F.UPD_CTL_ABANDON.put 0#32 1) :=
    stateChecks_of_writeCode (s := s) h (c := .wrongState) (by decide)
  have hbit : F.UPD_CTL_ABANDON.get (F.UPD_CTL_ABANDON.put 0#32 1) = 1 := by decide
  rw [checkUpd, if_pos rfl, hbit] at hchk
  have hnot : ¬ (ustate s = 0 ∨ ustate s = 5) := fun hx => hchk (List.mem_append_right _ (by simpa [chk, ustate] using hx))
  exact not_or.1 hnot

theorem updAbandonWrite_drops {s : State} (h : WriteOk s R.UPD_CTL (F.UPD_CTL_ABANDON.put 0#32 1)) :
    ∃ t, exec .updAbandonWrite s = .next t ∧ t.upd.pkg = none ∧ t.upd.arm = none ∧ ustate t = 0 := by
  have hstate : ustate (storeReg s R.UPD_CTL (F.UPD_CTL_ABANDON.put 0#32 1)) = ustate s := getF_storeReg_ne s _ (by decide)
  obtain ⟨h0, h5⟩ := abandonable_of_writeCode h.2
  obtain ⟨_, hdrop⟩ := abandon_drops (s := storeReg s R.UPD_CTL (F.UPD_CTL_ABANDON.put 0#32 1)) (by rwa [hstate]) (by rwa [hstate])
  exact ⟨_, exec_updAbandonWrite h, hdrop⟩

/-! ### Verifying (R575) -/

theorem exec_verifyDone {s : State} {p : Pkg} (hon : blkOn s 0x17 = true) (hready : isReady s = true) (h2 : ustate s = 2)
    (hpkg : s.upd.pkg = some p) : exec .verifyDone s = .next (verify s p.manifest) := by
  show execVerifyDone s = _
  rw [execVerifyDone, whenUpd, whenOn_of_on hon, if_pos hready, verifyStep, hpkg]
  dsimp only
  rw [if_pos h2]

/-- A package that fails is dropped, and its code is LASTCODE. -/
theorem verifyDiscard_drops (s : State) (c : Status) : (verifyDiscard s c).upd.pkg = none ∧ ustate (verifyDiscard s c) = 0 ∧
    getF (verifyDiscard s c) F.UPD_STAT_LASTCODE = c.code := by
  obtain ⟨hupd, hstate, hcode⟩ := pkgDrop_drops (lastCode s c)
  rw [verifyDiscard, hupd, hcode]
  exact ⟨rfl, hstate, (answered_lastCode s c).2⟩

/-- The package is the one that was verified, but for the sectors that are erased. -/
def PkgKept (p : Pkg) (s : State) : Prop := ∃ q, s.upd.pkg = some q ∧ q.id = p.id ∧ q.manifest = p.manifest ∧ q.held = p.held

theorem pkgKept_sectorReady {p : Pkg} {s : State} (k : Nat) (h : PkgKept p s) : PkgKept p (sectorReady s k) := by
  obtain ⟨q, hq, hkept⟩ := h
  unfold sectorReady
  split
  · exact ⟨q, hq, hkept⟩
  · exact ⟨_, congrArg (Option.map _) hq, hkept⟩

theorem pkgKept_stagingWrite {p : Pkg} {s : State} (a : Nat) (b : Bytes) (h : PkgKept p s) : PkgKept p (stagingWrite s a b) :=
  foldl_holds (PkgKept p) (fun _ k => pkgKept_sectorReady k) h

theorem pkgKept_copyInherited {p : Pkg} {s : State} (m : Bytes) (i : Nat) (h : PkgKept p s) : PkgKept p (copyInherited s m i) := by
  unfold copyInherited
  split
  · exact h
  · exact pkgKept_stagingWrite _ _ (pkgKept_stagingWrite _ _ h)

/-- How verifying ends. -/
def VerifyEnd (p : Pkg) (t : State) : Prop := (ustate t = 0 ∧ t.upd.pkg = none ∧ getF t F.UPD_STAT_LASTCODE ≠ 0) ∨
  (ustate t = 1 ∧ getF t F.UPD_STAT_LASTCODE = Status.integrity.code) ∨
  (ustate t = 3 ∧ ∃ q, t.upd.pkg = some q ∧ q.id = p.id ∧ q.manifest = p.manifest ∧ q.held = p.held)

theorem verifyEnd_discard (p : Pkg) (s : State) {c : Status} (hc : c.code ≠ 0) : VerifyEnd p (verifyDiscard s c) := by
  obtain ⟨hpkg, hstate, hcode⟩ := verifyDiscard_drops s c
  exact .inl ⟨hstate, hpkg, by rwa [hcode]⟩

theorem verifyEnd_missing (p : Pkg) (s : State) : VerifyEnd p (setUstate (lastCode s .integrity) 1) := by
  have hset := restated_setUstate (lastCode s .integrity) (u := 1) (by decide) (by decide)
  exact .inr (.inl ⟨hset.ustate, hset.code.trans (answered_lastCode s .integrity).2⟩)

theorem verifyEnd_staged {p : Pkg} {s : State} (h : PkgKept p s) : VerifyEnd p (setUstate s 3) := by
  have hset := restated_setUstate s (u := 3) (by decide) (by decide)
  refine .inr (.inr ⟨hset.ustate, ?_⟩)
  rw [hset.upd]
  exact h

theorem holds_ite {σ : Type} {P : σ → Prop} {c : Prop} [Decidable c] {a b : σ} (ha : P a) (hb : P b) : P (if c then a else b) := by
  split
  · exact ha
  · exact hb

theorem verify_ends {s : State} {p : Pkg} (hpkg : s.upd.pkg = some p) : VerifyEnd p (verify s p.manifest) := by
  have hcopied := fun l : List Nat => foldl_holds (l := l) (PkgKept p) (fun _ i => pkgKept_copyInherited p.manifest i) ⟨p, hpkg, rfl, rfl, rfl⟩
  unfold verify
  dsimp only
  refine holds_ite (verifyEnd_discard p s (by decide)) ?_
  refine holds_ite (verifyEnd_discard p s (by decide)) ?_
  refine holds_ite (verifyEnd_discard p s (by decide)) ?_
  refine holds_ite (verifyEnd_missing p _) ?_
  refine holds_ite (verifyEnd_discard p s (by decide)) ?_
  exact holds_ite (verifyEnd_discard p s (by decide)) (verifyEnd_staged (hcopied _))

/-- A bad image drops the package with INTEGRITY. -/
theorem verify_badImage {s : State} {m : Bytes} {i : Nat} (hi : i ∈ partsOf m 1 ++ partsOf m 2)
    (hbad : imageOk (partType m i) (partBytes s (stagingSlot s) m i) = false) : verify s m = verifyDiscard s .integrity := by
  have hall : ((partsOf m 1 ++ partsOf m 2).map (fun i => (partType m i, partBytes s (stagingSlot s) m i))).all
      (fun x => imageOk x.1 x.2) = false := by
    rw [List.all_eq_false]
    exact ⟨_, List.mem_map_of_mem hi, by simp [hbad]⟩
  unfold verify
  dsimp only
  rw [hall]
  exact if_pos rfl

theorem verifyDone_ends {s : State} {p : Pkg} (hon : blkOn s 0x17 = true) (hready : isReady s = true) (h2 : ustate s = 2)
    (hpkg : s.upd.pkg = some p) : ∃ t, exec .verifyDone s = .next t ∧ VerifyEnd p t ∧
    (∀ i ∈ partsOf p.manifest 1 ++ partsOf p.manifest 2,
      imageOk (partType p.manifest i) (partBytes s (stagingSlot s) p.manifest i) = false →
      t.upd.pkg = none ∧ getF t F.UPD_STAT_LASTCODE = Status.integrity.code) := by
  refine ⟨_, exec_verifyDone hon hready h2 hpkg, verify_ends hpkg, fun i hi hbad => ?_⟩
  obtain ⟨hgone, _, hcode⟩ := verifyDiscard_drops s .integrity
  rw [verify_badImage hi hbad]
  exact ⟨hgone, hcode⟩

/-! ### The activation instant (R577) -/

theorem exec_activationInstant {dt : Nat} {s : State} (hon : blkOn (advance dt s) 0x17 = true) :
    exec (.activationInstant dt) s = .next (activationStep (advance dt s)) := whenOn_of_on hon _

/-- Has the instant of an armed frame come? -/
def armDue (s : State) (a : Arm) : Bool :=
  if !cadenceOn s then true else if isTile s then mafter 32 s.lmp.nextA a.frame else matOrAfter 32 (getF s F.FRT_FRAME_FRAME) a.frame

theorem activationStep_due {s : State} {a : Arm} (h : s.upd.arm = some a) (h4 : ustate s = 4) (hdue : armDue s a = true) :
    activationStep s = activate s := by
  rw [armDue] at hdue
  rw [activationStep, h]
  dsimp only
  rw [hdue]
  exact if_pos ⟨h4, rfl⟩

/-- The sender's frame stands as time passes. -/
theorem frame_advance (dt : Nat) (s : State) : getF (advance dt s) F.FRT_FRAME_FRAME = getF s F.FRT_FRAME_FRAME :=
  congrArg F.FRT_FRAME_FRAME.get (word_of_regs (advance_regs dt s (fun k => by simp only [ne_eq]; omega) (by decide) (by decide)
    (fun i => by simp only [R.CHN_PERR, ne_eq]; omega) RegsBut.same))

theorem activationInstant_activates {dt : Nat} {a : Arm} {s : State} (hon : blkOn (advance dt s) 0x17 = true) (h4 : ustate s = 4)
    (ha : s.upd.arm = some a) (hshut : s.thm.shut = none) (hdue : cadenceOn (advance dt s) = false ∨
      (isTile s = true ∧ mafter 32 s.lmp.nextA a.frame = true) ∨
      (isTile s = false ∧ matOrAfter 32 (getF s F.FRT_FRAME_FRAME) a.frame = true)) :
    ∃ t, exec (.activationInstant dt) s = .next t ∧ t.upd.arm = none ∧
      ∃ r, .state r ∈ t.upd.ops ∧ r.cand = some (stagingSlot s) ∧ r.tries = 0 := by
  have hupd : (advance dt s).upd = s.upd := advance_same dt s .upd (by decide)
  have hlmp : (advance dt s).lmp = s.lmp := advance_same dt s .lmp (by decide)
  have hthm : (advance dt s).thm = s.thm := advance_same dt s .thm (by decide)
  have hstate : ustate (advance dt s) = ustate s := getF_advance dt s (by decide)
  have hslot : stagingSlot (advance dt s) = stagingSlot s := by rw [stagingSlot, curSlot, getF_advance dt s (by decide), ← curSlot, ← stagingSlot]
  have harm : (advance dt s).upd.arm = some a := by rw [hupd, ha]
  have hcome : armDue (advance dt s) a = true := by
    rw [armDue, isTile_advance, hlmp, frame_advance]
    rcases hdue with hoff | ⟨ht, hf⟩ | ⟨ht, hf⟩
    · rw [hoff]
      rfl
    · rw [ht, hf]
      simp
    · rw [ht, hf]
      simp
  rw [exec_activationInstant hon, activationStep_due harm (hstate.trans h4) hcome, ← hslot]
  exact ⟨_, rfl, activate_writes harm (by rw [hthm, hshut])⟩

/-! ### Trial and confirmation (R579) -/

theorem exec_trialConfirm {s : State} (hon : blkOn s 0x17 = true) : exec .trialConfirm s = .next (trialConfirm s) := whenOn_of_on hon _

theorem trialConfirm_records {s : State} (hon : blkOn s 0x17 = true) (h5 : ustate s = 5) (hok : trialOk s = true) (hbusy : recBusy s = false)
    (hshut : s.thm.shut = none) :
    ∃ t r, exec .trialConfirm s = .next t ∧ t.upd.ops = s.upd.ops ++ [.state r] ∧ r.cur = s.upd.running ∧ r.cand = none := by
  have heq : trialConfirm s = flashPush s (.state (nextRec s s.upd.running none 0 (slotSvn s 0) (slotSvn s 1))) := by
    rw [trialConfirm, h5, hok, hbusy]
    rfl
  refine ⟨_, nextRec s s.upd.running none 0 (slotSvn s 0) (slotSvn s 1), exec_trialConfirm hon, ?_, rfl, rfl⟩
  rw [heq, upd_flashPush _ hshut]

theorem exec_confirmWindowExpiry {dt : Nat} {s : State} (hon : blkOn (advance dt s) 0x17 = true) :
    exec (.confirmWindowExpiry dt) s = .next (confirmExpiry (advance dt s)) := whenOn_of_on hon _

theorem warm_of_on {s : State} {id : Nat} (h : blkOn s id = true) : coldHeld s = false := by
  simp only [blkOn, inReset, Bool.and_eq_true, Bool.not_eq_true', Bool.or_eq_false_iff] at h
  obtain ⟨⟨⟨⟨hcold, _⟩, _⟩, _⟩, _⟩ := h
  exact hcold

theorem confirmExpiry_restarts {s : State} {a : Nat} (h : s.upd.readyAt = some a) (h5 : ustate s = 5)
    (hend : a + getF s F.UPD_CFG_CONFS * 1000000000 ≤ upNs s) (hbusy : recBusy s = false) :
    confirmExpiry s = warmRequest s F.GLB_RSTCAUSE_WARMSW := by
  rw [confirmExpiry, h]
  exact if_pos ⟨h5, hend, hbusy⟩

theorem confirmWindowExpiry_restarts {dt a : Nat} {s : State} (hon : blkOn (advance dt s) 0x17 = true) (ha : s.upd.readyAt = some a)
    (h5 : ustate s = 5) (hend : a + getF s F.UPD_CFG_CONFS * 1000000000 ≤ upNs (advance dt s)) (hbusy : recBusy s = false) :
    ∃ t, exec (.confirmWindowExpiry dt) s = .next t ∧ getF t F.GLB_RSTCAUSE_WARMSW = 1 ∧
      (s.boot.warm = .none → t.boot.warm = .requested) := by
  have hupd : (advance dt s).upd = s.upd := advance_same dt s .upd (by decide)
  have hboot : (advance dt s).boot = s.boot := advance_same dt s .boot (by decide)
  have hstate : ustate (advance dt s) = 5 := (getF_advance dt s (by decide)).trans h5
  have hconfs : getF (advance dt s) F.UPD_CFG_CONFS = getF s F.UPD_CFG_CONFS := getF_advance dt s (by decide)
  obtain ⟨hcause, hwarm⟩ := warmRequest_requests (s := advance dt s) (cause := F.GLB_RSTCAUSE_WARMSW) rfl rfl (by decide) (warm_of_on hon)
    (power_of_on hon)
  rw [exec_confirmWindowExpiry hon, confirmExpiry_restarts (by rw [hupd, ha]) hstate (by rwa [hconfs]) (by rw [recBusy, hupd, ← recBusy, hbusy])]
  exact ⟨_, rfl, hcause, by rwa [hboot] at hwarm⟩

/-! ### Recovery (R583) -/

/-- The row of UPD_RECOV in the register map. -/
def updRecovRow : RegRow := ⟨"UPD_RECOV", 0x170030, 1, 4, 1, 4, false,
  [⟨"LEN", 0, 23, .rw, 0, [(0x400001, 0x7fffff, .range)]⟩, ⟨"GO", 23, 1, .wo, 0, []⟩, ⟨"CODE", 24, 8, .ro, 0, []⟩]⟩

theorem regAt_updRecov : regAt R.UPD_RECOV = some updRecovRow := rfl

/-- The value written with GO for an image of `len` bytes. -/
abbrev recovWord (len : Nat) : Word := F.UPD_RECOV_GO.put (F.UPD_RECOV_LEN.put 0#32 len) 1

theorem recovWord_go (len : Nat) : F.UPD_RECOV_GO.get (recovWord len) = 1 := get_put_read _ _ (by decide) (by decide)

theorem recovWord_len {len : Nat} (h : len < 2 ^ 23) : F.UPD_RECOV_LEN.get (recovWord len) = len :=
  (get_put_beside F.UPD_RECOV_GO F.UPD_RECOV_LEN _ 1 (by decide) (by decide)).trans (get_put_read _ _ h (by decide))

theorem len_storeReg {len : Nat} (h : len < 2 ^ 23) (s : State) : getF (storeReg s R.UPD_RECOV (recovWord len)) F.UPD_RECOV_LEN = len :=
  (getF_storeReg_rw regAt_updRecov (by decide) (by decide) (x := ⟨"LEN", 0, 23, .rw, 0, [(0x400001, 0x7fffff, .range)]⟩) (by decide) rfl rfl
    (by decide) s _).trans (recovWord_len h)

theorem exec_recoveryGo {len : Nat} {s : State} (h : WriteOk s R.UPD_RECOV (recovWord len)) :
    exec (.recoveryGo len) s = .next (recoveryGo (storeReg s R.UPD_RECOV (recovWord len))) := by
  refine congrArg Host.Outcome.next ((hostWrite_accepted (by decide) (by decide) h).trans ?_)
  rw [regEffect_17 _ _ _ (by decide), effectUpd, if_neg (by decide), if_pos rfl, recovWord_go, if_pos rfl]

/-- GO is accepted in FAIL alone. -/
theorem fail_of_writeCode {s : State} {v : Word} (h : writeCode s R.UPD_RECOV v = .ok) : stage s = 9 := by
  have hchk : Status.wrongState ∉ checkUpd s R.UPD_RECOV v := stateChecks_of_writeCode (s := s) h (c := .wrongState) (by decide)
  rw [checkUpd, if_neg (by decide), if_neg (by decide), if_pos rfl] at hchk
  simpa [chk] using hchk

theorem recoveryGo_bad {s : State} {b : Bytes} (h9 : stage s = 9) (hb : rdBytes recovFill s.upd.recov 0 (getF s F.UPD_RECOV_LEN) = b)
    (h : imageOk 1 b = false) : recoveryGo s = setF s F.UPD_RECOV_CODE Status.integrity.code := by
  rw [recoveryGo]
  dsimp only
  rw [hb, if_neg (not_not.2 h9), h]
  rfl

/-- The image in the window is good: the unit goes on at the DRAM stage with it. -/
def recovered (s : State) (b : Bytes) : State :=
  setF (setF (setF (measExtend s 1 (sha b)) F.UPD_RECOV_CODE 0) F.UPD_STAT_RECOVERY 1) F.GLB_BOOTSTAT_STAGE 4

theorem recovered_shows (s : State) (b : Bytes) : stage (recovered s b) = 4 ∧ getF (recovered s b) F.UPD_STAT_RECOVERY = 1 :=
  ⟨getF_setF_read _ _ (by decide) (by decide), (getF_setF_ne _ _ _ _ (by decide)).trans (getF_setF_read _ _ (by decide) (by decide))⟩

theorem recoveryGo_good {s : State} {b : Bytes} (h9 : stage s = 9) (hb : rdBytes recovFill s.upd.recov 0 (getF s F.UPD_RECOV_LEN) = b)
    (h : imageOk 1 b = true) (hsvn : s.sec.svn ≤ imageSvn b) : recoveryGo s = recovered s b := by
  rw [recoveryGo]
  dsimp only
  rw [hb, if_neg (not_not.2 h9), h, if_neg (by decide), if_neg (Nat.not_lt.2 hsvn)]
  rfl

theorem recoveryGo_checks {len : Nat} {s : State} (hlen : len < 2 ^ 23) (h : WriteOk s R.UPD_RECOV (recovWord len)) :
    ∃ t, exec (.recoveryGo len) s = .next t ∧
      (imageOk 1 (rdBytes recovFill s.upd.recov 0 len) = false → getF t F.UPD_RECOV_CODE = Status.integrity.code ∧ stage t = 9) ∧
      (imageOk 1 (rdBytes recovFill s.upd.recov 0 len) = true → s.sec.svn ≤ imageSvn (rdBytes recovFill s.upd.recov 0 len) →
        stage t = 4 ∧ getF t F.UPD_STAT_RECOVERY = 1) := by
  have hupd : (storeReg s R.UPD_RECOV (recovWord len)).upd = s.upd := storeReg_same s _ _ .upd (by decide)
  have hsec : (storeReg s R.UPD_RECOV (recovWord len)).sec = s.sec := storeReg_same s _ _ .sec (by decide)
  have h9 : stage (storeReg s R.UPD_RECOV (recovWord len)) = 9 := (getF_storeReg_ne s _ (by decide)).trans (fail_of_writeCode h.2)
  have hb : rdBytes recovFill (storeReg s R.UPD_RECOV (recovWord len)).upd.recov 0
      (getF (storeReg s R.UPD_RECOV (recovWord len)) F.UPD_RECOV_LEN) = rdBytes recovFill s.upd.recov 0 len := by
    rw [hupd, len_storeReg hlen]
  refine ⟨_, exec_recoveryGo h, fun hbad => ?_, fun hgood hsvn => ?_⟩
  · rw [recoveryGo_bad h9 hb hbad]
    exact ⟨getF_setF_read _ _ (status_lt _) (by decide), (getF_setF_ne _ _ _ _ (by decide)).trans h9⟩
  · rw [recoveryGo_good h9 hb hgood (by rwa [hsec])]
    exact recovered_shows _ _

/-- Settles O59: what arms, confirms or drops a package, and how verifying, a trial and a recovery end. -/
theorem activation : Obligations.Activation := by
  unfold Obligations.Activation
  exact ⟨fun _ _ _ _ h hres => activateEntry_takes h hres,
    fun _ _ _ _ h hres => confirmEntry_takes h hres,
    fun _ _ _ _ h hres => abandonEntry_takes h hres,
    fun _ h => updConfirmWrite_confirms h,
    fun _ _ h => updAbandonWrite_drops h,
    fun _ _ hon hready h2 hpkg => verifyDone_ends hon hready h2 hpkg,
    fun _ _ _ _ hon h4 ha hshut hdue => activationInstant_activates hon h4 ha hshut hdue,
    fun _ hon h5 hok hbusy hshut => trialConfirm_records hon h5 hok hbusy hshut,
    fun _ _ _ _ hon ha h5 hend hbusy => confirmWindowExpiry_restarts hon ha h5 hend hbusy,
    fun _ _ hlen h => recoveryGo_checks hlen h⟩

end Sys2Proof.Machine
end
